-- ==== Sys2Proof/Word.lean ====
section
/-! DEFINITION. The words of the DX262 and the plain arithmetic of R9: bytes, the helper operations of
Table 0-5, little-endian byte lists, and the masters that access registers (R12, R341, R342). -/
namespace Sys2Proof

/-- A byte of any memory or message. -/
abbrev Byte := BitVec 8

/-- A register of the BAR0 map; a 32-bit register uses the low half (R399). -/
abbrev Word := BitVec 64

/-- The masters that access registers: the Keeper, a Docent core in machine or in user mode, and the host
(R12, R341, R342). -/
inductive Master where
  | keeper
  | docentM (core : Fin 8)
  | docentU (core : Fin 8)
  | host
  deriving DecidableEq, Repr

/-- Half-up rounding shift (R9). -/
def rshr (a : Int) (n : Nat) : Int := (a + 2 ^ (n - 1)) >>> n

/-- Clamp to a range (R9). -/
def clampInt (a lo hi : Int) : Int := if a < lo then lo else if hi < a then hi else a

/-- Saturate to 8 bits (R9). -/
def sat8 (a : Int) : Nat := (clampInt a 0 255).toNat

/-- Saturate to 14 bits (R9). -/
def sat14 (a : Int) : Nat := (clampInt a 0 0x3FFF).toNat

/-- Division rounded up. -/
def ceilDiv (a b : Nat) : Nat := (a + b - 1) / b

/-- The `n` bytes of a number, least significant first. -/
def leBytes : Nat → Nat → List Byte
  | 0, _ => []
  | n + 1, v => BitVec.ofNat 8 v :: leBytes n (v / 256)

/-- The number that a little-endian byte list spells. -/
def leNat : List Byte → Nat
  | [] => 0
  | b :: bs => b.toNat + 256 * leNat bs

/-- The little-endian number in `n` bytes from place `i` of a byte list; bytes past its end count zero. -/
def fieldAt (bs : List Byte) (i n : Nat) : Nat := leNat ((bs.drop i).take n)

/-- A two's complement reading of the low `w` bits. -/
def signed (w v : Nat) : Int :=
  let u := v % 2 ^ w
  if u < 2 ^ (w - 1) then (u : Int) else (u : Int) - 2 ^ w

/-- The two's complement encoding of an integer in `w` bits. -/
def unsigned (w : Nat) (v : Int) : Nat := (v % (2 ^ w : Int)).toNat

end Sys2Proof
end

