-- ==== Sys2Proof/Operand.lean ====
section
/-! DEFINITION. The kinds of operand that commands carry beside numbers and bytes. -/
namespace Sys2Proof

/-- What a register write carries: the 32 bits of the addressed register or half (`lower` or `upper` of a
64-bit register), or a whole 64-bit register (R399, R400). -/
inductive BusWidth where
  | w8
  | w16
  | w32
  | w64
  deriving DecidableEq, Repr

/-- An instruction of the test access port: BYPASS, IDCODE, or one of boundary scan (R385). -/
inductive TapInstr where
  | bypass
  | idcode
  | scan
  deriving DecidableEq, Repr

/-- What happens on a quadrature input: an accepted transition of A or of B, or a pulse that the filter rejects
(R144, R145). -/
inductive EncoderEdge where
  | a
  | b
  | glitch
  deriving DecidableEq, Repr

/-- A fault that a dose slice meets while a tile is swept: the copies differ, the tile output buffer or the
pixel-order table cannot be corrected, or a modulation or fog word comes back as poison (R126, R127, R132, Table
8-3). -/
inductive DoseFault where
  | compare
  | buffer
  | order
  | mapPoison
  deriving DecidableEq, Repr

/-- What hardware faults do to a tile in its sweep: an edge word in poison, an uncorrectable or corrected buffer
byte, coverage words that reach the dose stage changed (column, row, word), and what the dose slice meets, with
its window position, in the order in which it is met. -/
structure SweepFaults where
  poison : Bool
  ecc : Bool
  corrected : Nat
  upsets : List (Nat × Nat × Nat)
  dose : List (DoseFault × Nat × Nat)
  doseCorrected : Nat
  deriving DecidableEq, Repr

/-- A write to a 64-bit register that acts on the write of its upper half: the whole register, or its upper or lower half, whose
32 bits stand in the low half of the value (R400). -/
structure HalfWrite where
  wide : Bool
  upper : Bool
  value : BitVec 64
  deriving DecidableEq, Repr

/-- A memory request as it is presented (R208): its space (0 DDR5, 1 host, 2 Docent shared SRAM, 3 Keeper ROM, 4 Keeper SRAM)
and address, the bytes of a write, and the Docent core that makes it. `master` is the code of Table 16-2 of another requester,
`fetch` says that a core fetches, `user` that it does so in user mode, and `flips` are the bits of a word of an SRAM that have
changed since it was last read. -/
structure MemArrival where
  space : Fin 5
  addr : Nat
  write : Option (List Byte)
  core : Option (Fin 8)
  master : Fin 64
  fetch : Bool
  user : Bool
  flips : Nat
  deriving DecidableEq, Repr

/-- A block as a back-channel receiver takes it: its header bits, the first sent in bit 0, so that 1 is a data block and 2 a
control block; the data blocks since the lane's last AM; and its 16 bytes (R173, R174, R185). -/
structure BackBlock where
  sync : Fin 4
  index : Nat
  bytes : List Byte
  deriving DecidableEq, Repr

/-- A block as an Ikisal receive lane takes it: its lane, header bits and place as for a back-channel, and its 16 bytes
(R173, R275, R276). -/
structure IklBlock where
  lane : Fin 8
  sync : Fin 4
  index : Nat
  bytes : List Byte
  deriving DecidableEq, Repr

/-- What a training sweep finds of a byte lane (R216): read delay, write delay, reference code and eye width. -/
structure LaneEye where
  rx : Nat
  tx : Nat
  vref : Nat
  eye : Nat
  deriving DecidableEq, Repr

/-- A host read that gets no completion (R34, R53): on a ring channel the SEQ of its block, and on another channel the bytes
that had been read and not yet written. -/
structure LostRead where
  seq : Nat
  data : List Byte
  deriving DecidableEq, Repr

/-- What a DMA burst finds at its source (R47, R53, R198): poison of host or SRAM data, and stored words of DDR5 that have
changed, by address / 16. -/
structure BurstFinds where
  poison : Bool
  flips : List (Nat × Nat)
  deriving DecidableEq, Repr

/-- A survey pipeline whose I2C bus begins a write, and whether SDA is found low there (R225). -/
structure BusStart where
  pipe : Fin 2
  sdaLow : Bool
  deriving DecidableEq, Repr

/-- How an I2C write ends: acknowledged or not, and whether SDA is found low at the START of a next one (R225). -/
structure BusEnd where
  ack : Bool
  sdaLow : Bool
  deriving DecidableEq, Repr

/-- A written sample, and whether a TB1 hardware sample arrives in the same cycle (R256). -/
structure WrittenSample where
  value : BitVec 64
  sampled : Bool
  deriving DecidableEq, Repr

/-- The timestamp point of a frame (R264): how long before the present edge it passed, in unit intervals, and the step of TB0
in q16 ns that follows in the same cycle, or zero. -/
structure StampPoint where
  ui : Nat
  step : Int
  deriving DecidableEq, Repr

/-- The timestamp point of a frame that is sent, and whether a read of TIM_TXTS_HI in the same cycle frees an entry (R264,
R267). -/
structure SendPoint where
  point : StampPoint
  freed : Bool
  deriving DecidableEq, Repr

/-- The sampling events of a core since the command before, this one among them; its mode; and whether an ACK of the same cycle
frees entries (R372, R373). -/
structure SampleMode where
  events : Nat
  user : Bool
  freed : Bool
  deriving DecidableEq, Repr

end Sys2Proof
end

