-- ==== Sys2Proof/Syntax.lean ====
section
/-! DEFINITION. The commands that the block takes: one constructor for each row of the table of operations and
events. Every physical outcome that the specification does not compute (what the link, a sensor or a memory
device answers) is an operand of the command that brings it. -/
namespace Sys2Proof

/-- A command. -/
inductive Instr where
  /-- REGISTER_WRITE (R12): A write to a register field that has no row of its own; the firewall admits or discards and logs it, and the field takes the value. -/
  | registerWrite (m : Master) (off : Nat) (w : BusWidth) (v : BitVec 64)
  /-- W1C_CLEAR (R13): A write of ones to W1C bits clears them, unless a hardware event sets the same bit in that cycle. -/
  | w1cClear (m : Master) (off : Nat) (w : BusWidth) (v events : BitVec 64)
  /-- RC_READ (R13): A read of an RC field returns it and clears it, keeping only the events of that cycle. -/
  | rcRead (m : Master) (off : Nat) (w : BusWidth) (events : BitVec 64)
  /-- SETUP_DOORBELL (R36): The upper-half write of HIF_SETUP_ADDR starts ring set-up, or is refused with SETUP_BUSY. -/
  | setupDoorbell (m : Master) (w : BusWidth) (v : BitVec 64)
  /-- SETUP_RECORD_FETCHED (R36): The set-up record arrives; firmware programs the rings, reports the result, and writes a RETIRED entry for each stored leaf. -/
  | setupRecordFetched (record : Option (List Byte))
  /-- PCIE_LINK_RESET (R32): A hot reset, link disable, surprise link-down or Bus Master Enable clear resets the PCIe core and disables rings and host queues. -/
  | pcieLinkReset (down bme : Bool)
  /-- PCIE_LINK_TRAINED (R303): The PCIe link completes training or retraining toward HIF_LINK_LIMIT. -/
  | pcieLinkTrained (speed : Fin 8) (width : Nat) (ltssm : Fin 64) (bme : Bool)
  /-- PCIE_FATAL_ERROR (R34): A malformed TLP or protocol error is received and treated as link-down. -/
  | pcieFatalError
  /-- PCIE_CORRECTABLE_ERROR (R34): A correctable link error is reported by AER and counted in the lane leaky bucket. -/
  | pcieCorrectableError
  /-- UNEXPECTED_COMPLETION (R34): An unexpected completion or unsupported request is received and logged. -/
  | unexpectedCompletion
  /-- SQ_TAIL_DOORBELL (R37): The host writes HIF_SQn_TAIL to advance a submission ring. -/
  | sqTailDoorbell (m : Master) (n : Fin 4) (tail : Nat)
  /-- SUBMISSION_ENTRY_READ (R66): The ring engine reads an entry at the head, checks it, assigns it to a leaf and starts its fetch or completes it. -/
  | submissionEntryRead (n : Fin 4) (entry : List Byte)
  /-- BLOCK_DATA_RECEIVED (R44): The last completion of a block read arrives and the block is written to the Folio store. -/
  | blockDataReceived (p : Fin 2) (seq : Nat) (data : List Byte)
  /-- POISONED_COMPLETION (R35): A poisoned completion is stored with the poison mark and its block is reported for re-fetch with RX_POISON. -/
  | poisonedCompletion (p : Fin 2) (seq : Nat) (data : List Byte)
  /-- COMPLETION_TIMEOUT (R34): A host read gets no completion within CPL_TIMEOUT; a block read is re-fetched with HOST_TIMEOUT, other channels stop with BUS_TIMEOUT. -/
  | completionTimeout (k : Fin 16) (p : Fin 2) (read : LostRead)
  /-- COMPLETION_POSTED (R39): A held completion entry is written to the host completion queue when it has room. -/
  | completionPosted
  /-- RETIRED_TIMER_EXPIRY (R40): 100 µs after the earliest unreported advance, a RETIRED entry is written. -/
  | retiredTimerExpiry (p : Fin 2)
  /-- HQ_HEAD_WRITE (R407): The host writes HIF_HQq_HEAD to free queue entries, or the write is ignored with HEAD_INVALID. -/
  | hqHeadWrite (m : Master) (q : Fin 2) (head : Nat)
  /-- REFETCH_REQUEST_POSTED (R42): A re-fetch request is written to the host re-fetch queue when it has room. -/
  | refetchRequestPosted
  /-- MSIX_SEND (R33): An MSI-X vector is sent after every queue entry it announces is visible in host memory. -/
  | msixSend (v : Fin 64)
  /-- CQ_MOD_DELAY_EXPIRY (R44): The CQ_MOD latest-interrupt delay runs out and vector 0 is sent. -/
  | cqModDelayExpiry
  /-- MSIX_UNMASK (R33): The host unmasks a vector and a pending vector is sent. -/
  | msixUnmask (v : Fin 64)
  /-- DMA_ENABLE (R55): Writing 1 to DMA_CHk_CTL.ENABLE enables the channel, or is held as PENDING_ENABLE while DISABLING. -/
  | dmaEnable (m : Master) (k : Fin 16)
  /-- DMA_DISABLE (R54): Writing 0 to DMA_CHk_CTL.ENABLE drops the channel's work and enters DISABLING. -/
  | dmaDisable (m : Master) (k : Fin 16) (inFlight : Bool)
  /-- DMA_GO (R51): Writing GO starts a PACE 0 program at its first hand-over. -/
  | dmaGo (m : Master) (k : Fin 16)
  /-- DMA_STOP (R50): Writing STOP makes a SHADOW channel stop at its next hand-over. -/
  | dmaStop (m : Master) (k : Fin 16)
  /-- SHADOW_COMMIT (R48): Writing SHADOW_COMMIT copies the shadow bank into the committed bank. -/
  | shadowCommit (m : Master) (k : Fin 16) (late : Bool)
  /-- DMA_BURST (R46): A channel issues its next burst when the fabric grants and, with PACE 1, the token bucket holds LEN bytes. -/
  | dmaBurst (k : Fin 16) (hostData : List Byte) (finds : BurstFinds)
  /-- DMA_HANDOVER (R50): At the end of an outer loop the channel stops, reloads or fetches its next descriptor by MODE. -/
  | dmaHandover (k : Fin 16)
  /-- DMA_DESCRIPTOR_FETCHED (R52): A chain descriptor arrives and becomes the channel's program. -/
  | dmaDescriptorFetched (k : Fin 16)
  /-- DMA_BUS_TIMEOUT (R53): A descriptor fetch, read or write gets no response in time and the channel stops with BUS_TIMEOUT. -/
  | dmaBusTimeout (k : Fin 16) (readData : List Byte)
  /-- DMA_DRAIN_COMPLETE (R55): Outstanding responses of a disabling channel have drained; it goes IDLE or applies a pending enable. -/
  | dmaDrainComplete (k : Fin 16)
  /-- DMA_ERR_CLEAR (R50): Writing a 1 to DMA_CHk_STATUS.ERR clears it and returns the channel from STOPPED to IDLE. -/
  | dmaErrClear (m : Master) (k : Fin 16) (bits : Fin 8)
  /-- BLOCK_CHECKED (R58): A decode lane finishes checking and expanding a stored block through check value, header and records. -/
  | blockChecked (p : Fin 2) (seq : Nat) (disturbed : Bool)
  /-- LEAF_ADMISSION (R63): Once the FIRST block's header and LEAF_HEADER are good, the leaf is admitted or refused. -/
  | leafAdmission (p : Fin 2)
  /-- BLOCK_CONSUMED (R61): A checked block's records are committed to the decoded tile queue in SEQ order and its store copy is freed. -/
  | blockConsumed (p : Fin 2)
  /-- TILE_ROW_DEADLINE (R81): The deadline of the lowest incomplete tile row passes while the awaited block has not passed its checks. -/
  | tileRowDeadline (p : Fin 2)
  /-- GUG_ENABLE (R91): Writing 1 to GUG_CTL.ENABLE enables the compressor, or is held while DISABLING. -/
  | gugEnable (m : Master)
  /-- GUG_DISABLE (R91): Writing 0 to GUG_CTL.ENABLE stops the job at once and enters DISABLING. -/
  | gugDisable (m : Master) (written : Nat)
  /-- GUG_GO (R88): Writing GO starts a compression job on the programmed source and buffer list. -/
  | gugGo (m : Master)
  /-- GUG_JOB_COMPLETE (R90): The compressor finishes the stream, writes the stream header and sets DONE. -/
  | gugJobComplete (flaw : Option (Nat × Byte))
  /-- GUG_DRAIN_COMPLETE (R91): Issued writes of a disabling compressor complete; it goes IDLE or applies a pending enable. -/
  | gugDrainComplete
  /-- GUG_ERR_CLEAR (R91): Writing a 1 to GUG_STATUS.ERR clears it and leaves STOPPED. -/
  | gugErrClear (m : Master) (bits : Fin 16)
  /-- DENSITY_ROW_DONE (R108): The density pass finishes a tile row's areas, check records and flattening checks. -/
  | densityRowDone (p : Fin 2) (poison flatten : List Int)
  /-- PEC_ROW_DONE (R113): The PEC engine finishes the modulations of a cell row. -/
  | pecRowDone (p : Fin 2) (poison : List (Int × Int))
  /-- TILE_START (R104): An engine starts its next tile once all five start conditions hold. -/
  | tileStart (e : Fin 64)
  /-- EDGE_PHASE_END (R98): An engine finishes walking a tile's pieces into its accumulation buffer. -/
  | edgePhaseEnd (e : Fin 64) (poison ecc : Bool) (corrected : Nat)
  /-- SWEEP_END (R100): An engine finishes sweeping the tile window, emitting coverage to the dose stage and Tally. -/
  | sweepEnd (e : Fin 64) (f : SweepFaults)
  /-- TALLY_VERDICT (R117): Tally compares each region's summed coverage with its area and verifies or fails the tile. -/
  | tallyVerdict (e : Fin 64)
  /-- TILE_SCATTER_END (R134): A tile's 531 granules have been written into the Reserve. -/
  | tileScatterEnd (e : Fin 64) (ecc : Option (Nat × Nat)) (corrected : Nat)
  /-- TAL_INJECT_WRITE (R119): Keeper-M arms an injection into the next self-test tile. -/
  | talInjectWrite (m : Master) (v : BitVec 32)
  /-- BCT_COMMIT_GO (R131): Keeper-M writes BCT_COMMIT with GO to commit the staging buffer for a named leaf. -/
  | bctCommitGo (m : Master) (leaf : BitVec 16)
  /-- BCT_LOAD_START (R130): A waiting commit begins loading when a bank becomes free of unfinished leaves. -/
  | bctLoadStart
  /-- BCT_COMMIT_RESOLVED (R129): The load and checks end, and the commit is accepted with a pixel-order table built, or refused. -/
  | bctCommitResolved
  /-- DUE_MARK_CROSSING (R148): The furthest position crosses due(−2) or due(−1), marking the release points of slots 0 and 1. -/
  | dueMarkCrossing (second : Bool)
  /-- SLOT_STROBE (R150): The furthest position reaches due(n) and SS n is emitted. -/
  | slotStrobe
  /-- SLOT_RELEASE_DECISION (R141): At SS s − 2 the tracker and output stage decide whether slot s is read from its sealed frame or sent blank. -/
  | slotReleaseDecision (sealDiffers : Bool)
  /-- FRAME_READ_DONE (R135): A frame's read, check, permutation and framing end and its Reserve place is freed. -/
  | frameReadDone (corrected : List Nat) (bad : List (Nat × Nat)) (wings : List Nat)
  /-- FRAME_TRANSMIT_START (R179): At SS s − 1 plus 12 cycles the frame, read or blank, begins on all lanes if they are free. -/
  | frameTransmitStart (free : Bool) (idle : List Nat)
  /-- RESERVE_ROW_REMAP_COPY (R143): In the first read-free interval of 1 µs, a faulty Reserve row is copied to its spare. -/
  | reserveRowRemapCopy
  /-- ENCODER_TRANSITION (R144): An A or B transition is accepted, counted and used to update the tracking loop. -/
  | encoderTransition (n : Fin 2) (edge : EncoderEdge) (fast : Bool) (velocity accel : Int)
  /-- ENCODER_LOS (R146): An encoder amplitude below the loss threshold for 100 ns clears REFERENCED and ends any leaf. -/
  | encoderLos (n : Fin 2)
  /-- ENCODER_INDEX (R147): A rising Z edge loads the counter and sets REFERENCED, or is compared with VALUE. -/
  | encoderIndex (n : Fin 2)
  /-- LEAF_ARM (R155): The tracker leaves IDLE for ARMED once an admitted leaf is next and the last LB has passed. -/
  | leafArm (twin : Bool)
  /-- TRACKER_PAUSE (R155): The furthest position does not advance for 100 µs and the tracker enters PAUSED. -/
  | trackerPause
  /-- PAUSE_LIMIT_EXPIRY (R157): A pause longer than PAUSE_MS ends the leaf at once. -/
  | pauseLimitExpiry
  /-- LEAF_BOUNDARY (R160): LB falls the cycle after the last SS of a leaf; commits take effect and the next leaf may arm. -/
  | leafBoundary (twin : Bool)
  /-- SLT_ABORT (R155): Writing SLT_CTL.ABORT ends an armed or running leaf orderly with ABORT. -/
  | sltAbort (m : Master)
  /-- BLANK_REQ_ASSERT (R161): An accepted low on BLANK_REQ_N drives BLANK_ALL_N low and marks decided slots blank. -/
  | blankReqAssert
  /-- BLANK_REQ_RELEASE (R161): BLANK_REQ_N has stayed high for DEBOUNCE and the request is released. -/
  | blankReqRelease
  /-- BLANK_LASTING (R161): A request standing over 1 s is flagged, logged and announced. -/
  | blankLasting
  /-- STAGE_SLOW_HOLD_EXPIRY (R163): The SLOW_HOLD time after an overspeed slot runs out. -/
  | stageSlowHoldExpiry
  /-- DUTY_VERDICT (R164): After a slot's release read the governor evaluates beam and plate duty against its thresholds. -/
  | dutyVerdict
  /-- DUTY_SUBWINDOW_ROLL (R164): A 1 ms beam or 10 ms plate sub-window ends and a new one begins. -/
  | dutySubwindowRoll (plate : Bool)
  /-- LACUNA_OPEN_LIMIT_EXPIRY (R170): An open record closes after OPEN_LIMIT × 100 µs. -/
  | lacunaOpenLimitExpiry (rel : Bool)
  /-- LACUNA_STREAM_CLOSE_EXPIRY (R170): The open record of classes 6 to 8 closes 100 µs after its leaf's LB. -/
  | lacunaStreamCloseExpiry
  /-- LACUNA_RECORD_WRITTEN (R170): A closed record reaches the Lacuna ring and vector 3 announces it. -/
  | lacunaRecordWritten
  /-- LAC_CURSOR_WRITE (R171): A write of LAC_CURSOR selects the record shown in the window. -/
  | lacCursorWrite (m : Master) (v : BitVec 32)
  /-- LAC_ACK_WRITE (R171): A write of LAC_ACK frees records below the index or is ignored with ACK_INVALID. -/
  | lacAckWrite (m : Master) (v : BitVec 32)
  /-- AM_IDLE_TIMER (R180): After 1,424 blocks without a frame the lane sends an AM. -/
  | amIdleTimer (g : Fin 4)
  /-- STATUS (R186): A STATUS message confirms up to four slots and records PLATE_REJECT for rejected slots sent with data. -/
  | status (g : Fin 4) (b : BackBlock)
  /-- STATUS_LOST (R186): No STATUS covers a slot by its deadline and it is recorded unconfirmed. -/
  | statusLost
  /-- TEMP (R166): A TEMP report updates the plate temperature and acts on its thresholds. -/
  | temp (g : Fin 4) (b : BackBlock)
  /-- TEMP_SILENT (R187): No valid TEMP for 1 ms sets HOT and ends a running leaf with TEMP_HARD. -/
  | tempSilent
  /-- MARGIN (R375): A MARGIN report updates a lane's eye figures and judges a re-trim trial. -/
  | margin (g : Fin 4) (b : BackBlock)
  /-- HELLO (R189): A plate HELLO moves a group from LISTEN to CHECK, then to ALIGN or FAULT. -/
  | hello (g : Fin 4) (b : BackBlock)
  /-- RATE (R188): A RATE message reports lock; with all 25 lanes it moves ALIGN to ACTIVE, or accepts a step. -/
  | rate (g : Fin 4) (b : BackBlock)
  /-- LANE_EVENT (R193): A LANE_EVENT report counts lane failures and a lock loss starts a spare substitution. -/
  | laneEvent (g : Fin 4) (b : BackBlock)
  /-- BLK_ALIGN_TIMEOUT (R188): ALIGN fails for 1 ms and the group falls back in rate or to LISTEN. -/
  | blkAlignTimeout (g : Fin 4)
  /-- BLK_BACKCHANNEL_SILENT (R188): No valid back-channel block for 10 µs sends an ACTIVE group to RECOVERY. -/
  | blkBackchannelSilent (g : Fin 4)
  /-- BLK_BACKCHANNEL_LOCK (R188): Back-channel block lock is gained, moving LISTEN or RECOVERY forward. -/
  | blkBackchannelLock (g : Fin 4)
  /-- BLK_RATE_SWITCH (R188): 10 µs after RATE accepted, both ends change rate and the group enters ALIGN. -/
  | blkRateSwitch
  /-- BLK_STEP_UP_START (R190): A step-up begins once the tracker is IDLE and a higher permitted rate remains. -/
  | blkStepUpStart
  /-- BLK_ENABLE (R194): Writing 1 to BLK_CTL.ENABLE starts bring-up, or is held while DISABLING. -/
  | blkEnable (m : Master)
  /-- BLK_DISABLE (R194): Writing 0 to BLK_CTL.ENABLE stops every lane and puts each group in DISABLING. -/
  | blkDisable (m : Master)
  /-- BLK_STEP_UP (R190): Writing BLK_CTL.STEP_UP requests a step-up. -/
  | blkStepUp (m : Master)
  /-- BLK_RETRAIN (R188): Writing BLK_CTL.RETRAIN sends every ACTIVE group to RECOVERY. -/
  | blkRetrain (m : Master)
  /-- BLK_DRAIN_COMPLETE (R194): A disabling group's pipelines drain; it goes DOWN or applies a pending enable. -/
  | blkDrainComplete (g : Fin 4)
  /-- SPARE_SWAP_AM (R192): At an AM the spare advances one stage of taking or giving back a logical lane. -/
  | spareSwapAm (g : Fin 4)
  /-- MEM_REQUEST_ADMITTED (R208): A waiting request is admitted from its port into a bank queue by class and age. -/
  | memRequestAdmitted (c : Fin 6) (arrivals : List MemArrival)
  /-- MEM_REQUEST_SERVED (R209): A subchannel serves a request at a command slot, decoding reads and merging writes. -/
  | memRequestServed (c : Fin 6) (sub : Fin 2) (flips : List Nat) (block : Option (Fin 2 × Nat))
  /-- MEM_AGE_PROMOTION (R211): A request exceeds its class age limit and is promoted to URGENT. -/
  | memAgePromotion (c : Fin 6) (cls : Fin 5)
  /-- URGENT_WINDOW_ROLL (R211): A new urgent-cap window begins for a channel. -/
  | urgentWindowRoll (c : Fin 6)
  /-- FABRIC_TIMEOUT (R212): An admitted request gets no response in time and is answered with an error and poison. -/
  | fabricTimeout (c : Fin 6)
  /-- SCRUB_READ (R202): The scrubber issues its next burst read in the walk. -/
  | scrubRead (bank : Fin 64) (row : Nat)
  /-- SCRUB_WRITEBACK (R203): A corrected burst is written back at class SCRUB. -/
  | scrubWriteback
  /-- SCRUB_BEHIND (R202): A pass runs past its period and the scrubber runs at the SCRUB age limit. -/
  | scrubBehind
  /-- REFRESH_DEBT_ACCRUE (R213): Each 1.95 µs one unit of refresh debt accrues per rank. -/
  | refreshDebtAccrue (c : Fin 6)
  /-- REFRESH_ISSUE (R213): The controller issues an all-bank refresh early when idle, or at once above the cap. -/
  | refreshIssue (c : Fin 6) (sub rank : Fin 2) (span : Int)
  /-- MR4_POLL (R214): MR4 of every rank is read and the refresh rate is doubled or restored. -/
  | mr4Poll (c : Fin 6) (twice hot : Bool)
  /-- SELF_REFRESH_ENTRY (R215): A channel idle in PREVIEW or in STORAGE repays its debt and enters self-refresh. -/
  | selfRefreshEntry (c : Fin 6)
  /-- SELF_REFRESH_EXIT (R215): A request arrives for a channel in self-refresh and the channel exits within 5 µs. -/
  | selfRefreshExit (c : Fin 6) (span : Int)
  /-- CHANNEL_TRAINING_DONE (R216): Training of a channel ends, pass or fail, and on pass the channel is zero-filled. -/
  | channelTrainingDone (c : Fin 6) (lanes : List LaneEye)
  /-- CHANNEL_ZERO_FILL_DONE (R305): A channel's zero fill ends and it is marked trained. -/
  | channelZeroFillDone (c : Fin 6)
  /-- MEM_RETRAIN (R218): Writing MEM_CTL.RETRAIN starts a channel recovery once the tracker is IDLE. -/
  | memRetrain (m : Master) (c : Fin 8)
  /-- MEM_APPLY (R217): Writing MEM_CTL.APPLY applies a held channel's delays, or is ignored. -/
  | memApply (m : Master) (c : Fin 8)
  /-- SCR_ENABLE (R207): Writing 1 to SCR_CTL.ENABLE runs the walk, or is held while DISABLING. -/
  | scrEnable (m : Master)
  /-- SCR_DISABLE (R207): Writing 0 to SCR_CTL.ENABLE stops the walk after the burst in hand. -/
  | scrDisable (m : Master)
  /-- SCR_DRAIN_COMPLETE (R207): The disabling scrubber's write-back completes and it goes IDLE. -/
  | scrDrainComplete
  /-- SVY_FRAME_START (R224): A frame-start packet of the camera arrives, is stamped and tags, gaps and swaps are applied. -/
  | svyFrameStart (p : Fin 2) (fnum : BitVec 16)
  /-- SVY_LINE_PACKET (R230): A long packet of pixel data is received and its pixels are corrected. -/
  | svyLinePacket (p : Fin 2) (data : List Byte) (crcOk : Bool)
  /-- SVY_FRAME_END (R223): A frame-end packet closes a frame, and the group's merge and statistics proceed. -/
  | svyFrameEnd (p : Fin 2) (fnum : BitVec 16)
  /-- SVY_FOREIGN_PACKET (R222): A packet of another VC or DT is discarded and counted. -/
  | svyForeignPacket (p : Fin 2) (vc : BitVec 4) (dt : BitVec 6)
  /-- SVY_EMBEDDED_PACKET (R222): An embedded-data packet of the camera is discarded. -/
  | svyEmbeddedPacket (p : Fin 2)
  /-- SVY_DPHY_ERROR (R223): A D-PHY start-of-transmission or deskew error marks the frame BAD. -/
  | svyDphyError (p : Fin 2)
  /-- SVY_SET_SUBMIT (R226): Docent-M submits a settings set, which is queued or refused. -/
  | svySetSubmit (m : Master) (p : Fin 2) (v : BitVec 32)
  /-- SVY_LIST_START (R227): A list transmission begins START_US after a SOF. -/
  | svyListStart (bus : BusStart)
  /-- SVY_FRAME_TIMEOUT (R227): No SOF for FRAME_TIMEOUT and a list is sent at once. -/
  | svyFrameTimeout (bus : BusStart)
  /-- I2C_WRITE_DONE (R225): An I2C register write transaction ends, acknowledged or with NAK. -/
  | i2cWriteDone (p : Fin 2) (end_ : BusEnd)
  /-- I2C_STRETCH_TIMEOUT (R225): Clock stretching over 10 ms fails the transaction with TIMEOUT. -/
  | i2cStretchTimeout (p : Fin 2)
  /-- SVY_LIST_COMPLETE (R228): The last write's STOP completes a list and its set and phase tag frames. -/
  | svyListComplete (p : Fin 2)
  /-- SVY_RECORD_WRITTEN (R235): A group's statistics record is complete in the record ring. -/
  | svyRecordWritten (p : Fin 2)
  /-- SVY_CONFIG_WRITE (R234): A write to PROC, RATIO or ZONE is staged for the next phase-0 SOF or discarded. -/
  | svyConfigWrite (m : Master) (p : Fin 2) (which : Fin 3) (w : BusWidth) (upper : Bool) (v : BitVec 64)
  /-- SVY_DEFECT_SWAP (R232): Writing DEFECT_CTL.SWAP brings the shadow table into force at the next phase-0 SOF. -/
  | svyDefectSwap (m : Master) (p : Fin 2) (count : BitVec 13)
  /-- SVY_ACK_WRITE (R236): A write of SVY_Pp_ACK frees records or frames below the index. -/
  | svyAckWrite (m : Master) (p : Fin 2) (w : BusWidth) (upper : Bool) (v : BitVec 64)
  /-- SVY_ENABLE (R238): Writing 1 to SVY_Pp_CTL.ENABLE enables the pipeline, or is held while DISABLING. -/
  | svyEnable (m : Master) (p : Fin 2)
  /-- SVY_DISABLE (R238): Writing 0 discards packets, the group in progress and queued sets. -/
  | svyDisable (m : Master) (p : Fin 2)
  /-- SVY_DRAIN_COMPLETE (R238): The I2C STOP and issued writes complete and the pipeline goes IDLE. -/
  | svyDrainComplete (p : Fin 2)
  /-- AXM_PUSH (R244): Writing AXM_PUSH queues the staged command, or discards it. -/
  | axmPush (m : Master) (stop : Bool)
  /-- AXIS_COMMAND_START (R245): A command reaches the head, is checked and starts, or is refused and the block stops. -/
  | axisCommandStart
  /-- AXIS_STEP (R242): A step interval expires and the master and slave axes emit steps, ending the command at its last step. -/
  | axisStep
  /-- DWELL_EXPIRY (R244): A DWELL command's time runs out and it ends. -/
  | dwellExpiry
  /-- LIMIT_ACTIVE (R247): A limit input is accepted active and stops an axis moving toward it. -/
  | limitActive (a : Fin 6) (positive : Bool)
  /-- LIMIT_RELEASED (R247): A limit has stayed high for RELEASE ms and is accepted released. -/
  | limitReleased (a : Fin 6) (positive : Bool) (since : Nat)
  /-- HOME_INPUT_CHANGE (R247): HOME_N is accepted active or released, advancing a homing sequence. -/
  | homeInputChange (a : Fin 6) (active : Bool)
  /-- AXIS_STOP_ACTIVE (R249): AXIS_STOP_N is accepted active and all six axes stop. -/
  | axisStopActive
  /-- AXIS_STOP_RELEASED (R247): AXIS_STOP_N has stayed high for RELEASE ms and is released. -/
  | axisStopReleased
  /-- STEP_MISMATCH (R249): A STEP ball's read-back differs for 2 ticks and all axes stop. -/
  | stepMismatch (a : Fin 6)
  /-- AXM_ENABLE (R252): Writing 1 to AXM_CTL.ENABLE enables the block, or is held while DISABLING. -/
  | axmEnable (m : Master)
  /-- AXM_DISABLE (R252): Writing 0 stops the axes, flushes the queue and enters DISABLING. -/
  | axmDisable (m : Master)
  /-- AXM_DRAIN_COMPLETE (R252): Pulses end and DIR_HOLD elapses and the block goes IDLE. -/
  | axmDrainComplete
  /-- AXM_CLEAR (R251): Writing AXM_CTL.CLEAR leaves STOPPED, or is ignored with CLEAR_IGNORED. -/
  | axmClear (m : Master)
  /-- TIM_SAMPLE_WRITE (R256): A write of TIM_SAMPLEb submits an offset sample to the servo. -/
  | timSampleWrite (m : Master) (b : Fin 2) (w : BusWidth) (v : WrittenSample)
  /-- TB1_HW_SAMPLE (R256): Every 1 ms the hardware samples TB0 minus TB1. -/
  | tb1HwSample
  /-- TIM_SET_WRITE (R259): A write of TIM_SETb replaces a base's seconds as a step, or is refused or ignored. -/
  | timSetWrite (m : Master) (b : Fin 3) (w : BusWidth) (v : BitVec 64) (sampled : Bool)
  /-- SERVO_HOLDOVER_TIMEOUT (R257): No sample for HOLD × 100 ms puts the servo in HOLDOVER. -/
  | servoHoldoverTimeout (b : Fin 2)
  /-- TIM_SEC_READ (R255): A read of TIM_TBn_SEC latches the nanoseconds for that master. -/
  | timSecRead (m : Master) (n : Fin 3) (w : BusWidth) (upper : Bool)
  /-- ETH_FRAME_RECEIVED (R265): An accepted frame is stamped and written to the receive ring, or dropped. -/
  | ethFrameReceived (p : Fin 2) (frame : List Byte) (fcsOk : Bool) (point : StampPoint)
  /-- ETH_TX_WRITE (R266): A write of TIM_ETHp_TX queues a frame for sending, or is discarded. -/
  | ethTxWrite (m : Master) (p : Fin 2) (w : BusWidth) (v : BitVec 64)
  /-- ETH_FRAME_SENT (R267): A frame is sent and, with TS_REQ, its stamp enters the transmit queue or is lost. -/
  | ethFrameSent (p : Fin 2) (at_ : SendPoint)
  /-- TXTS_HI_READ (R267): A read of TIM_TXTS_HI returns and removes the head stamp. -/
  | txtsHiRead (m : Master) (w : BusWidth) (upper : Bool)
  /-- TWIN_PEER_AUTH_CHANGE (R270): TWIN_PEER_AUTH changes level and stands, enabling authority or releasing BLANK_ALL_N. -/
  | twinPeerAuthChange (high : Bool)
  /-- BOTH_AUTH (R270): Both authority lines high for 200 ns make the Replica drop authority. -/
  | bothAuth
  /-- TWIN_FAIL_IN_HIGH (R288): TWIN_FAIL_IN is accepted high and a standby takes authority. -/
  | twinFailInHigh (high : Bool)
  /-- ALONE_WAIT_EXPIRY (R273): ALONE_WAIT elapses in SOLO_WAIT and the Replica takes authority alone. -/
  | aloneWaitExpiry
  /-- HEARTBEAT_SEND (R280): Every 10 µs a HEARTBEAT is sent on lanes 0 and 7. -/
  | heartbeatSend
  /-- HEARTBEAT (R280): A HEARTBEAT is received and compared with the receiver's own position. -/
  | heartbeat (b : IklBlock)
  /-- HB_LOST (R280): No valid HEARTBEAT for HB_TIMEOUT; the device leaves PAIRED or takes over. -/
  | hbLost
  /-- HELLO_SEND (R276): Every 10 µs until agreement an Ikisal HELLO is sent. -/
  | helloSend
  /-- IKISAL_HELLO (R278): A twin HELLO is received and agrees or raises PAIR_FAULT. -/
  | ikisalHello (b : IklBlock)
  /-- DIGEST (R282): A twin DIGEST for a tile is received and compared with the device's own. -/
  | digest (b : IklBlock)
  /-- IKISAL_COMMIT (R284): A standby receives COMMIT and makes the same beam-table commit. -/
  | ikisalCommit (b : IklBlock)
  /-- COMMIT_RESULT (R284): The twin's commit result is received and compared. -/
  | commitResult (b : IklBlock)
  /-- TABLE (R284): A TABLE message's 64 bytes are written into the standby's staging buffer. -/
  | tableMsg (b : IklBlock) (body : List Byte)
  /-- RECORD (R285): A mirrored Lacuna or Accession Log record is checked and stored. -/
  | recordMsg (b : IklBlock) (body : List Byte)
  /-- END (R283): An END message makes the standby end the leaf or confirms its own end. -/
  | endMsg (b : IklBlock)
  /-- END_CONFIRM_TIMEOUT (R283): No END within 10 µs of a standby's own end makes it DIVERGED. -/
  | endConfirmTimeout
  /-- HANDOVER (R291): A HANDOVER message makes the standby take authority at LB. -/
  | handover (b : IklBlock)
  /-- TWN_YIELD (R291): Writing TWN_CTL.YIELD schedules a hand-over at the next LB, or is ignored. -/
  | twnYield (m : Master)
  /-- TIME_SYNC_SEND (R287): Every 100 µs the Original sends TIME_SYNC. -/
  | timeSyncSend
  /-- TIME_SYNC (R287): The Replica stamps a TIME_SYNC and sends TIME_DELAY. -/
  | timeSync (b : IklBlock)
  /-- TIME_DELAY (R287): The Original stamps a TIME_DELAY and returns TIME_RESP. -/
  | timeDelay (b : IklBlock)
  /-- TIME_RESP (R287): The Replica computes the twin offset and submits it as a sample. -/
  | timeResp (b : IklBlock)
  /-- TIME_EXCHANGE_TIMEOUT (R287): A time exchange without TIME_RESP within 50 µs is abandoned. -/
  | timeExchangeTimeout
  /-- IKL_ENABLE (R275): Writing 1 to IKL_CTL.ENABLE starts Ikisal bring-up. -/
  | iklEnable (m : Master)
  /-- IKL_DISABLE (R275): Writing 0 to IKL_CTL.ENABLE stops the Ikisal lanes. -/
  | iklDisable (m : Master)
  /-- IKL_STEP_UP (R275): Writing IKL_CTL.STEP_UP starts a rate step where the pair state allows. -/
  | iklStepUp (m : Master)
  /-- IKL_RETRAIN (R275): Writing IKL_CTL.RETRAIN sends an ACTIVE link to RECOVERY. -/
  | iklRetrain (m : Master)
  /-- IKL_TS (R275): Twin training sequences and lock advance the Ikisal link from LISTEN, ALIGN or STEP. -/
  | iklTs (lock : BitVec 8) (am : BitVec 8) (ts : List (List Byte))
  /-- IKL_ALIGN_TIMEOUT (R275): ALIGN fails for 1 ms and the link falls back. -/
  | iklAlignTimeout
  /-- IKL_LINK_SILENT (R275): Lost lock or no valid block for 10 µs sends the link to RECOVERY. -/
  | iklLinkSilent (lock : BitVec 8)
  /-- IKL_RATE_SWITCH (R275): 10 µs after the later SWITCH both ends change rate. -/
  | iklRateSwitch
  /-- IKL_DRAIN_COMPLETE (R275): The disabling link's pipelines drain and it goes DOWN. -/
  | iklDrainComplete
  /-- RESET_ASSERT (R293): RESET_N low puts the device in OFF. -/
  | resetAssert
  /-- POWER_GOOD_DELAY (R389): 1 ms after the last supply enters range the internal reset may release. -/
  | powerGoodDelay
  /-- RESET_RELEASE (R389): The internal reset releases, straps latch and BOOT starts. -/
  | resetRelease (role flash testN : Bool)
  /-- BOOT_STEP_DONE (R302): A step of the BOOT sequence completes and the next steps start. -/
  | bootStepDone (step : Fin 10) (ok : Bool)
  /-- BOOT_STEP_TIMEOUT (R302): A BOOT step exceeds its limit and the start fails. -/
  | bootStepTimeout (step : Fin 10)
  /-- ATTEMPT_AGE_OUT (R311): A failed start ages past 10 minutes and leaves the attempt count. -/
  | attemptAgeOut
  /-- PREVIEW_ENTRY (R306): The device enters PREVIEW once Docents, self-test, three channels and the BLK link are ready. -/
  | previewEntry
  /-- RUN_ENTRY (R309): All RUN conditions hold and the Keeper switches to the full map, clears regions and sets RUN. -/
  | runEntry
  /-- BOOT_QUIESCE (R318): Writing BOOT_CTL.QUIESCE stops admission and prepares the device for power-down. -/
  | bootQuiesce (m : Master)
  /-- QUIESCE_COMPLETE (R318): Channels are in self-refresh and QUIESCED is set. -/
  | quiesceComplete
  /-- BOOT_RESTART (R313): Writing BOOT_CTL.RESTART in STORAGE starts BOOT. -/
  | bootRestart (m : Master)
  /-- CLEAR_ATTEMPTS (R313): Writing BOOT_CTL.CLEAR_ATTEMPTS in STORAGE empties the attempt record. -/
  | clearAttempts (m : Master)
  /-- FUSE_PROGRAM (R314): Writing BOOT_FUSE_PROG with PROGRAM programs a blank key slot in STORAGE. -/
  | fuseProgram (m : Master) (h : HalfWrite)
  /-- FUSE_REVOKE (R314): Writing BOOT_FUSE_PROG with REVOKE revokes a key slot in STORAGE. -/
  | fuseRevoke (m : Master) (h : HalfWrite)
  /-- FUSE_OPERATION_DONE (R314): A fuse operation completes and is read back and verified. -/
  | fuseOperationDone
  /-- FLASH_ERASE (R317): An ERASE flash command clears a 64 KiB sector, or is refused. -/
  | flashErase (m : Master)
  /-- FLASH_PROGRAM (R317): A PROGRAM flash command writes LEN bytes from the buffer, or is refused. -/
  | flashProgram (m : Master) (len : BitVec 13)
  /-- FLASH_READ (R317): A READ flash command fills the buffer from the flash. -/
  | flashRead (m : Master) (len : BitVec 13)
  /-- FLASH_COMMAND_DONE (R317): A flash command completes or fails with a flash error. -/
  | flashCommandDone (ok : Bool)
  /-- SAFE_RESTART_EXPIRY (R315): SAFE_HOLD elapses in SAFE and the always-on domain restarts the device. -/
  | safeRestartExpiry
  /-- KEEPER_LOCKSTEP (R323): The Keeper cores disagree and the Guard is demanded. -/
  | keeperLockstep
  /-- KEEPER_WATCHDOG (R326): The Keeper watchdog expires and the Guard is demanded. -/
  | keeperWatchdog
  /-- SAF_WDOG_WRITE (R326): Keeper-M writes SAF_WDOG, restarting the interval or expiring it on a wrong value. -/
  | safWdogWrite (m : Master) (v : BitVec 32)
  /-- SAF_DEMAND_WRITE (R327): Writing SAF_DEMAND raises the Guard cause KEEPER_DEMAND. -/
  | safDemandWrite (m : Master) (v : BitVec 32)
  /-- CLOCK_FAULT (R23): A clock monitor finds a core clock, REFCLK or lane PLL outside its window and the Guard is demanded. -/
  | clockFault (clock : Fin 13) (ppm : Int)
  /-- SUPPLY_EXCURSION (R388): A supply leaves its range, setting WARN, or crosses a threshold for 300 ns, raising SUPPLY. -/
  | supplyExcursion (n : Fin 7) (mv : BitVec 16) (held : Bool)
  /-- PAD_READBACK_FAULT (R323): BLANK_ALL_N or TWIN_AUTH fails to reach its driven level for 200 ns. -/
  | padReadbackFault (auth : Bool)
  /-- GUARD_COMPARE (R323): The two Guard state-machine copies disagree. -/
  | guardCompare
  /-- DIE_SENSOR_SAMPLE (R325): Every 100 µs the die sensors are sampled for DIE_SOFT, DIE_HOT and re-trim triggers. -/
  | dieSensorSample (temps : List Int)
  /-- GUARD_RECORD_PERSISTED (R328): The Guard's last record reaches the persistent copy and the mode shows SAFE. -/
  | guardRecordPersisted
  /-- LATENT_GROUP_RUN (R330): A latent-fault self-test group runs at a leaf turn-around. -/
  | latentGroupRun (fail : Fin 11) (eyes : List Nat)
  /-- LATENT_IDLE_TIMER (R331): While no leaf is armed or running a self-test group runs every 1 s. -/
  | latentIdleTimer
  /-- KPR_REQ_PUSH (R346): Writing KPR_REQ_PUSH queues a core's staged Keeper request, or discards it. -/
  | kprReqPush (m : Master)
  /-- COMMIT_TABLE (R346): The Keeper serves a COMMIT_TABLE request, mirroring and committing the beam table. -/
  | commitTable
  /-- YIELD (R346): The Keeper serves a YIELD request by writing TWN_CTL.YIELD. -/
  | yield
  /-- RETRAIN (R346): The Keeper serves a RETRAIN request for a DDR5 channel. -/
  | retrain
  /-- LINK (R346): The Keeper serves a LINK request to enable, disable, step up or retrain a link. -/
  | link
  /-- SCRUB (R346): The Keeper serves a SCRUB request to run or stop the scrubber. -/
  | scrub
  /-- NOTE (R346): The Keeper serves a NOTE request by writing an FW_NOTE record. -/
  | note
  /-- RESTART (R346): The Keeper serves a RESTART request with a Docent restart. -/
  | restart (mepc : BitVec 64)
  /-- SAFE (R346): The Keeper serves a SAFE request by writing SAF_DEMAND. -/
  | safe
  /-- DOC_WDOG_KICK (R350): A core writes DOC_WDOGc.KICK to restart its interval. -/
  | docWdogKick (m : Master) (c : Fin 8)
  /-- DOC_WATCHDOG_EXPIRY (R350): A core's Docent watchdog interval runs out and the Docents restart. -/
  | docWatchdogExpiry (c : Fin 8) (mepc : BitVec 64)
  /-- DOC_LOCKUP (R350): A core takes a fetch fault at its trap handler and the Docents restart. -/
  | docLockup (c : Fin 8) (mepc : BitVec 64)
  /-- DOC_CTL_RESTART (R350): Writing DOC_CTL.RESTART restarts the Docents with cause REQUEST. -/
  | docCtlRestart (m : Master) (mepc : BitVec 64)
  /-- DOC_RESTART_COMPLETE (R350): The Docent section is re-read, verified and copied, and the cores are released. -/
  | docRestartComplete (ok : Bool)
  /-- HOSTMB_SEND (R349): Docent-M writes word 3 of a mailbox, setting FULL and sending its vector. -/
  | hostmbSend (m : Master) (mb : Fin 8) (w : BusWidth) (v : BitVec 64)
  /-- HOSTMB_HOST_READ (R349): The host reads word 3 of a mailbox, clearing FULL and raising source 27. -/
  | hostmbHostRead (mb : Fin 8)
  /-- CRC_CLAIM_READ (R353): A read of CRC_Un_CLAIM claims a free unit for the core or returns the owner. -/
  | crcClaimRead (m : Master) (n : Fin 4)
  /-- CRC_PRESET (R354): Writing CFG.PRESET loads a preset's parameters into the unit. -/
  | crcPreset (m : Master) (n : Fin 4) (p : Fin 4)
  /-- CRC_LOAD (R354): Writing CFG.LOAD sets the register to INIT. -/
  | crcLoad (m : Master) (n : Fin 4)
  /-- CRC_RELEASE (R353): Writing CFG.RELEASE frees the unit. -/
  | crcRelease (m : Master) (n : Fin 4)
  /-- CRC_DATA_FEED (R355): A write to DATA8, DATA16 or DATA32 feeds bytes into the unit's queue. -/
  | crcDataFeed (m : Master) (n : Fin 4) (w : BusWidth) (v : BitVec 32)
  /-- CRC_RESULT_READ (R355): A read of RESULT or STATE returns after every earlier feed is processed. -/
  | crcResultRead (m : Master) (n : Fin 4) (raw : Bool)
  /-- CRC_STATE_WRITE (R355): Writing STATE replaces the unit's register. -/
  | crcStateWrite (m : Master) (n : Fin 4) (v : BitVec 32)
  /-- ACL_RECORD_ENTER (R357): An Accession Log record enters the ring at the next position, or the holding queue while frozen. -/
  | aclRecordEnter (event : Nat) (data : List Byte)
  /-- ACL_FREEZE (R359): Writing ACL_CTL.FREEZE 1 freezes the log from the next cycle. -/
  | aclFreeze (m : Master)
  /-- ACL_UNFREEZE (R359): Writing FREEZE 0 ends the freeze and the held records enter the ring. -/
  | aclUnfreeze (m : Master)
  /-- FREEZE_EXPIRED (R359): A freeze standing FREEZE_MAX ms ends by itself. -/
  | freezeExpired
  /-- ACL_COPY_START (R361): The copier starts an MRAM write at 64 pending records or 100 µs after the oldest. -/
  | aclCopyStart
  /-- ACL_COPY_DONE (R361): An MRAM write operation of pending records completes. -/
  | aclCopyDone
  /-- ACL_WINDOW_SELECT (R362): A write of ACL_CURSOR or ACL_CTL.SOURCE selects the window and starts a persistent fill. -/
  | aclWindowSelect (m : Master) (cursor : Bool) (v : BitVec 32)
  /-- ACL_WINDOW_FILLED (R362): The persistent-copy window fill completes and WINDOW_READY is set. -/
  | aclWindowFilled
  /-- NEW_CHALLENGE (R363): ACL_CLEAR_REQ.OP NEW_CHALLENGE makes the Keeper draw a new 16-byte challenge. -/
  | newChallenge (m : Master)
  /-- CLEAR (R364): ACL_CLEAR_REQ.OP CLEAR makes the Keeper verify the signature, voiding the challenge. -/
  | clear (m : Master)
  /-- SIGNATURE_VERIFIED (R363): The Keeper finishes verifying the clear signature and writes the tag or refuses. -/
  | signatureVerified
  /-- ACL_AUTH_WRITE (R363): The write of ACL_AUTH1 submits the tag to the clear engine. -/
  | aclAuthWrite (m : Master) (w : BusWidth) (v : BitVec 64)
  /-- ACL_CLEAR_DONE (R363): EPOCH + 1 reaches the MRAM, the ring is emptied and a CLEARED record enters. -/
  | aclClearDone
  /-- PMC_CTR_WRITE (R370): A write of PMC_CTRk replaces the count. -/
  | pmcCtrWrite (m : Master) (k : Fin 64) (w : BusWidth) (upper : Bool) (v : BitVec 64) (events : Nat)
  /-- PMC_SEL_WRITE (R370): A write of PMC_SELk changes the event from the next cycle. -/
  | pmcSelWrite (m : Master) (k : Fin 64) (v : BitVec 32)
  /-- PMC_FREEZE (R370): Writing FREEZE or HOST_FREEZE stops the counters concerned from the next cycle. -/
  | pmcFreeze (m : Master) (v : BitVec 32)
  /-- PMC_CTR_LOW_READ (R367): A read of an even counter latches its odd partner for that master. -/
  | pmcCtrLowRead (m : Master) (j : Fin 32) (w : BusWidth) (unseen odd : Nat)
  /-- PMC_COUNTER_WRAP (R365): A counter wraps, setting its OVF bit and raising the overflow interrupt. -/
  | pmcCounterWrap (k : Fin 64)
  /-- PMC_SAMPLE_TAKEN (R372): The PERIOD-th event of a sampled core writes a sample record or is lost. -/
  | pmcSampleTaken (core : Fin 8) (pc : BitVec 64) (opcode : BitVec 32) (latency : Nat) (mode : SampleMode)
  /-- PMC_SAMPLE_ACK (R373): A write of PMC_SAMPLE_ACK frees sample records. -/
  | pmcSampleAck (m : Master) (h : HalfWrite)
  /-- CAL_RUN_START (R374): A re-trim run starts on a temperature change, a RUN write or after the BOOT step-up. -/
  | calRunStart
  /-- CAL_RUN_WRITE (R374): Writing CAL_CTL.RUN requests a run, or sets RUN_PENDING. -/
  | calRunWrite (m : Master)
  /-- CAL_ENABLE (R379): Writing 1 to CAL_CTL.ENABLE enables calibration, or is held while DISABLING. -/
  | calEnable (m : Master)
  /-- CAL_DISABLE (R379): Writing 0 ends the run and gives back lanes under trial. -/
  | calDisable (m : Master)
  /-- CAL_DRAIN_COMPLETE (R379): The last give-back completes and calibration goes IDLE. -/
  | calDrainComplete
  /-- RX_MARK_WINDOW (R377): A window of 2^20 back-channel bits is counted and OFFSET is stepped toward balance. -/
  | rxMarkWindow (g : Fin 4) (ones : Nat)
  /-- STRAP_CHANGE (R384): A strap level changes after latching and CHANGED is set. -/
  | strapChange (strap : Fin 3) (high : Bool)
  /-- PERST_RELEASE (R303): The release of PERST_N makes the PCIe endpoint start link training at 2.5 GT/s within 20 ms. -/
  | perstRelease
  /-- IKISAL_HEAD_DISCARD (R276): An Ikisal head block with a bad check, an unknown MTYPE or a wrong BODY is discarded with its body and counted in IKL_COUNTS.CHECK. -/
  | ikisalHeadDiscard
  /-- SVY_HEADER_ECC_ERROR (R223): A CSI-2 packet with an uncorrectable header ECC is discarded, its frame is marked BAD and SVY_Pp_ERR.HEADER is set. -/
  | svyHeaderEccError (p : Fin 2)
  /-- ETH_BLOCK_LOCK_CHANGE (R262): An Ethernet port's 10GBASE-R receiver gains or loses block lock, which changes TIM_STATUS.ETHp_LINK. -/
  | ethBlockLockChange (p : Fin 2) (lock : Bool)
  /-- TRIM_LOCK_TIMEOUT (R376): A lane under trial that has not regained block lock within 1 ms of a return gets a lasting fault, and the spare keeps it for good. -/
  | trimLockTimeout (g : Fin 4)
  /-- DOC_RESTART_AGE_OUT (R352): A Docent restart ages past one hour and leaves the DOC_STATUS.RESTARTS count that RESTART_LIMIT is tested against. -/
  | docRestartAgeOut
  /-- BLANK_ALL_N_LOW_OBSERVED (R271): The device reads BLANK_ALL_N low while it is not driving the line low itself, treats the low as coming from the Guard, and records the slots concerned as BLANKED detail 2 under R162. -/
  | blankAllNLowObserved (low : Bool)
  /-- TAP_INSTRUCTION_UPDATE (R385): An instruction loaded into the IEEE 1149.1 TAP while RESET_N is high takes effect only as BYPASS or IDCODE, and any other instruction loads BYPASS. -/
  | tapInstructionUpdate (i : TapInstr)
  deriving DecidableEq, Repr

end Sys2Proof
end

