-- ==== Sys2Proof/Config.lean ====
section
/-! DEFINITION. What an implementation fixes and the specification leaves open: the free values and the
cryptographic functions that the specification names and does not define. None has a body. -/
namespace Sys2Proof.Config

/-- Fresh free values: the state carries a counter, and each use takes the next one. -/
opaque freeValue : Nat → Nat

/-- SHA-256 of a byte string, as a number of 256 bits (R296, R363). The specification names the function
and does not define it. -/
opaque sha256 : List Byte → Nat

/-- Whether an Ed25519 signature (64 bytes) over a message verifies under a public key (R296, R363). -/
opaque ed25519Verify (key msg sig : List Byte) : Bool

/-- The first 16 bytes of HMAC-SHA-256 under a 256-bit key (R363). -/
opaque hmacTag (key : Nat) (msg : List Byte) : List Byte

/-- Whether the CTLE OFFSET of a back-channel receiver steps up when a window holds too many ones (R377): the
specification says toward balance and does not give the code's polarity. -/
opaque rxStepsUp : Bool

/-- Whether the delay-line BIAS of a channel steps up when the replica span is longer than one UI (R378): the
specification does not give the code's polarity. -/
opaque biasStepsUp : Bool

/-- The tokens with which the compressor codes piece `i` of a source at a LEVEL (R89): the specification gives no search,
and says that the output is a function of the source and LEVEL. A piece whose tokens do not code it, or are not shorter,
is emitted STORED. -/
opaque gugTokens (level : Nat) (src : List Byte) (i : Nat) : List Byte

/-- The column of data bit `i` in the check matrix of the (144,128) SEC-DED code, what the code takes from the fold, and the
fold of a burst's channel address and subchannel (R197): the specification gives none of the three. -/
opaque secdedColumn (i : Nat) : Nat
opaque secdedFold (fold : Nat) : Nat
opaque burstFold (addr sub : Nat) : Nat

/-- Whether a SEC-DED code of a core's SRAM finds an error of three bits or more uncorrectable, by the bits of its words (R341,
R342): the specification does not give the codes. -/
opaque secdedFinds (width pattern : Nat) : Bool

/-- The event code with which the Accession Log stamps a leaf boundary (R11): Table 0-6 names the stamp, and the list of event
codes has none for it. -/
opaque lbEvent : Nat

/-- The bytes of the Keeper ROM (R341): the specification does not give them. -/
opaque keeperRom (addr : Nat) : Nat

/-- Tally's sum of each region of the built-in self-test tile (R119, R330): the specification does not give the tile. -/
opaque selfTestSum (region : Nat) : Int

/-- The code of the stepping and the low twelve bits of the IDCODE register (R385): the specification gives neither. -/
opaque idcodeStepping : Nat
opaque idcodeLow : Nat

end Sys2Proof.Config
end

