-- ==== Sys2Proof/Machine/Crc.lean ====
section
/-! DEFINITION. Check values: the byte step of R355 and the presets of Table 15-6, among them the CRC-32C of
R57 and the CRC-16 of R185. -/
namespace Sys2Proof.Machine

/-- The low `w` bits of `v` in reverse order. -/
def reflectBits : Nat → Nat → Nat
  | 0, _ => 0
  | w + 1, v => (v % 2) * 2 ^ w + reflectBits w (v / 2)

/-- `n` bits of one byte taken into the register, in the order of R355. -/
def crcBits (w poly : Nat) (refin : Bool) (b : Nat) : Nat → Nat → Nat
  | 0, reg => reg
  | n + 1, reg =>
    let i := 7 - n
    let bit := if refin then (b >>> i) % 2 else (b >>> (7 - i)) % 2
    let top := ((reg >>> (w - 1)) % 2) ^^^ bit
    let sh := (reg <<< 1) % 2 ^ w
    crcBits w poly refin b n (if top = 1 then sh ^^^ (poly % 2 ^ w) else sh)

/-- One byte fed into a register of width `w` (R355). -/
def crcByte (w poly : Nat) (refin : Bool) (reg : Nat) (b : Byte) : Nat :=
  crcBits w poly refin b.toNat 8 reg

/-- A byte string fed into the register. -/
def crcFeed (w poly : Nat) (refin : Bool) (reg : Nat) (bs : List Byte) : Nat :=
  bs.foldl (crcByte w poly refin) reg

/-- `result32` of R355. -/
def crcResult (w : Nat) (refout : Bool) (xorout reg : Nat) : Nat :=
  ((if refout then reflectBits w reg else reg) ^^^ xorout) % 2 ^ w

/-- CRC-32C of R57 (preset 0). -/
def crc32c (bs : List Byte) : Nat :=
  crcResult 32 true 0xFFFFFFFF (crcFeed 32 0x1EDC6F41 true 0xFFFFFFFF bs)

/-- CRC-32/IEEE 802.3 (preset 1). -/
def crc32e (bs : List Byte) : Nat :=
  crcResult 32 true 0xFFFFFFFF (crcFeed 32 0x04C11DB7 true 0xFFFFFFFF bs)

/-- CRC-16/CCITT of R185 (preset 2). -/
def crc16 (bs : List Byte) : Nat :=
  crcResult 16 false 0 (crcFeed 16 0x1021 false 0xFFFF bs)

end Sys2Proof.Machine
end

