-- ==== Sys2Proof/Machine/BurstCode.lean ====
section
/-! DEFINITION. The burst code of DDR5: the words of a burst, their check fields S and G, the poison pattern, and what a
read finds (R197 to R199). -/
namespace Sys2Proof.Machine

/-! ### Words -/

/-- Bit `i` of a word in its 16 data bytes: lane `i / 4` of 32, beat `i % 4`. A beat carries four bytes, and the lanes of an x4
and of an x8 component stand in the same order (R197; DEDUCED, log 131). -/
def wordBit (bs : List Byte) (i : Nat) : Bool := (bs.getD (4 * (i % 4) + i / 32) 0#8).toNat.testBit (i / 4 % 8)

/-- The 128 data bits of a word. -/
def wordBits (bs : List Byte) : Nat := (List.range 128).foldl (fun n i => if wordBit bs i then n + 2 ^ i else n) 0

/-- The 16 data bytes of a word with the data bits of an error pattern flipped. -/
def flipBytes (e : Nat) (bs : List Byte) : List Byte :=
  (List.range 16).map (fun k => bs.getD k 0#8 ^^^ BitVec.ofNat 8 (((List.range 8).map (fun b =>
    if e.testBit (4 * (8 * (k % 4) + b) + k / 4) then 2 ^ b else 0)).sum))

/-- The XOR of the columns of the low `n` bits that are set. -/
def columnXor (col : Nat → Nat) (v n : Nat) : Nat :=
  (List.range n).foldl (fun x i => if v.testBit i then x ^^^ col i else x) 0

/-- The columns of 144 bits of which a matrix names the first 128; the other sixteen are the check bits' own. -/
def columnsOf (col : Nat → Nat) : List Nat := (List.range 128).map col ++ (List.range 16).map (fun i => 2 ^ i)

/-- Every two of a list of numbers pass a test. -/
def pairsAll (ok : Nat → Nat → Bool) : List Nat → Bool
  | [] => true
  | x :: xs => xs.all (ok x) && pairsAll ok xs

/-- What the code asks of its matrix: sixteen-bit columns, none zero and no two alike, so that one bit is corrected; no two of
them adding up to a third, so that two bits are detected; and 0xFFFF, the poison pattern, neither a column nor the sum of two
(R197 to R199, Table 8-2). -/
def columnsGood (col : Nat → Nat) : Bool :=
  let cs := columnsOf col
  let held := cs.foldl (fun n x => n ||| 2 ^ x) 0
  cs.all (fun x => decide (0 < x) && decide (x < 0xFFFF)) &&
    pairsAll (fun x y => x ^^^ y != 0 && x ^^^ y != 0xFFFF && !held.testBit (x ^^^ y)) cs

/-- The numbers of sixteen bits of which three are set, by their bits. -/
def threeBits : List Nat :=
  (List.range 16).flatMap (fun a => (List.range a).flatMap (fun b => (List.range b).map (fun c => 2 ^ a + 2 ^ b + 2 ^ c)))

/-- The column of data bit `i`: the implementation's, where its matrix is what the code asks for. Another matrix is no choice that
R199 leaves, and columns of three bits stand in its place. -/
def secdedColumn (i : Nat) : Nat :=
  if columnsGood Config.secdedColumn then Config.secdedColumn i else threeBits.getD i 0

/-- One bit taken into the guard's CRC-16/CCITT register (R185). -/
def guardStep (r : Nat) (b : Bool) : Nat :=
  let top := (r / 2 ^ 15 % 2 = 1) != b
  (r * 2 % 2 ^ 16) ^^^ (if top then 0x1021 else 0)

/-- The low `n` bits of a value taken in, bit 0 first. -/
def guardFeed (r v n : Nat) : Nat := (List.range n).foldl (fun r i => guardStep r (v.testBit i)) r

/-- S and G of a word with the fold of its burst. The columns of S and its treatment of the fold are free; G takes the fold
after the data bits (R197; DEDUCED, log 131). -/
def wordS (fold data : Nat) : Nat := columnXor secdedColumn data 128 ^^^ Config.secdedFold fold % 2 ^ 16
def wordG (fold data : Nat) : Nat := guardFeed (guardFeed 0xFFFF data 128) fold 16

/-- A stored word: data in bits 0 to 127, S in 128 to 143, G in 144 to 159 (R197). -/
def storedWord (fold data : Nat) : Nat := data + wordS fold data % 2 ^ 16 * 2 ^ 128 + wordG fold data * 2 ^ 144

/-- What a word stored as poison differs by from one stored good (R199). -/
def poisonMask : Nat := 0xFFFF * 2 ^ 128 + 0xFFFF * 2 ^ 144

/-! ### Reading

Both fields are linear but for their constants, so what a read computes of a stored word hangs on the bits alone by which it
differs from a good word. -/

/-- The syndrome of S, and what G is off by, of a word that differs from a good one in a pattern. -/
def errSyndrome (e : Nat) : Nat := columnXor secdedColumn e 128 ^^^ (e / 2 ^ 128 % 2 ^ 16)
def errGuard (e : Nat) : Nat := guardFeed (guardFeed 0 e 128) 0 16 ^^^ (e / 2 ^ 144 % 2 ^ 16)

/-- The syndrome that names bit `b` of the 144 that S covers. -/
def bitSyndrome (b : Nat) : Nat := if b < 128 then secdedColumn b else 2 ^ (b - 128)

/-- What a read finds of a word; `left` is the pattern that it leaves. -/
inductive WordRead where
  | good (left : Nat)
  | corrected (left : Nat)
  | bad
  deriving DecidableEq, Repr

/-- A word decoded in the order of R198. A zero syndrome with one wrong bit of G is one check bit, which Table 8-2 corrects
(DEDUCED, log 131). -/
def decodeWord (e : Nat) : WordRead :=
  if e = 0 then .good 0
  else if errSyndrome e = 0 then
    if errGuard e = 0 then .good e
    else match (List.range 16).find? (fun i => errGuard e = 2 ^ i) with
      | some i => .corrected (e ^^^ 2 ^ (144 + i))
      | none => .bad
  else match (List.range 144).find? (fun b => errSyndrome e = bitSyndrome b) with
    | some b => if errGuard (e ^^^ 2 ^ b) = 0 then .corrected (e ^^^ 2 ^ b) else .bad
    | none => .bad

/-- The pattern that a read of a word leaves in its data; a word that cannot be corrected is left as it is. -/
def WordRead.residue (e : Nat) : WordRead → Nat
  | .good l => l
  | .corrected l => l
  | .bad => e

/-- Whether a word matches the poison pattern within one bit (R199). -/
def poisonWord (e : Nat) : Bool :=
  (0 :: (List.range 160).map (fun b => 2 ^ b)).any (fun f =>
    decide (errSyndrome (e ^^^ f) = 0xFFFF ∧ errGuard (e ^^^ f) = 0xFFFF))

/-- What a read finds of a burst: the corrected words with the lowest of them; or the lowest word that is uncorrectable, with
the number of words corrected beside it. -/
inductive BurstRead where
  | good
  | corrected (words first : Nat)
  | poison
  | bad (first words : Nat)
  deriving DecidableEq, Repr

/-- A burst decoded from the patterns of its four words. Poison is asked first: its pattern is never the syndrome of one or two
bits (R198, R199). -/
def decodeBurst (es : List Nat) : BurstRead :=
  if es.all (fun e => e = 0) then .good
  else if es.all poisonWord then .poison
  else
    let rs := es.map decodeWord
    let fixed := fun (r : WordRead) => match r with
      | .corrected _ => true
      | _ => false
    let n := (rs.filter fixed).length
    match rs.findIdx? (fun r => r = .bad) with
    | some w => .bad w n
    | none => if n = 0 then .good else .corrected n ((rs.findIdx? fixed).getD 0)

end Sys2Proof.Machine
end

