-- ==== Sys2Proof/Machine/RegTypes.lean ====
section
/-! DEFINITION. What a row of the register map holds: a field's place, a register's row, and the reset values
of Table 14-6. -/
namespace Sys2Proof.Machine

/-- A field: the BAR0 offset of its register, its lowest bit and its width. -/
structure Field where
  off : Nat
  lo : Nat
  width : Nat
  deriving DecidableEq, Repr

/-- How the writers of a register are named: by master, as the owner of a check-value unit (R353), as the
owner of a performance counter (R369), or as the core whose watchdog it is (DOC_WDOGc). -/
inductive WriterKind where
  | named
  | crcOwner
  | pmcOwner
  | wdogCore
  deriving DecidableEq, Repr

/-- A register of the map. `acts` are the bits whose write is a command of its own; with `actIndex`, every
bit of the instance with that last index is. The masks name the bits of each access class of Table 0-7. -/
structure RegRow where
  off : Nat
  dims : List (Nat × Nat)
  reset : List Nat → Nat
  wide : Bool
  rw : Nat
  acts : Nat
  actIndex : Option Nat
  wo : Nat
  w1c : Nat
  rc : Nat
  cat : Nat
  kind : WriterKind
  byKeeper : Bool
  byDocent : Bool
  byHost : Bool

/-- The indices that a displacement from the first instance spells, stride by stride. -/
def dimsIndex : List (Nat × Nat) → Nat → Option (List Nat)
  | [], d => if d = 0 then some [] else none
  | (stride, count) :: ds, d =>
    if d / stride < count then (dimsIndex ds (d % stride)).map (fun ix => d / stride :: ix) else none

/-- The indices of this register at a BAR0 offset, if an instance stands there. -/
def RegRow.indexOf (r : RegRow) (off : Nat) : Option (List Nat) :=
  if off < r.off then none else dimsIndex r.dims (off - r.off)

/-- SAF_BUCKETk at reset: N in bits 7..0 and W_MS in bits 47..16 (Table 14-6). Bucket 5 takes its window from
SCR_CFG, so its window field has no effect; it reads as 24 h. -/
def bucketReset (k : Nat) : Nat :=
  let e := fun (n wms : Nat) => n + wms * 65536
  match k with
  | 0 => e 16 1000
  | 1 => e 16 1000
  | 2 => e 16 1000
  | 3 => e 16 1000
  | 4 => e 8 86400000
  | 5 => e 1 86400000
  | 6 => e 8 86400000
  | 7 => e 1 86400000
  | 8 => e 64 3600000
  | 9 => e 64 3600000
  | 10 => e 4 3600000
  | 11 => e 4 3600000
  | 12 => e 16 1000
  | 13 => e 200 1000
  | 14 => e 4 60000
  | 15 => e 8 1000
  | _ => 0

end Sys2Proof.Machine
end

