-- ==== Sys2Proof/Machine/Regs.lean ====
section
/-! DEFINITION. The register map: every register of BAR0 with its field places, reset value, access classes
and writers, as the register tables of the chapters give them (R398, R399, Table 18-1). A field is named
`F.<REGISTER>.<FIELD>`; the fields of an indexed register are functions of its indices. -/
namespace Sys2Proof.Machine

abbrev F.HIF_LINK_STATUS.SPEED : Field := ⟨0x20000, 0, 3⟩
abbrev F.HIF_LINK_STATUS.WIDTH : Field := ⟨0x20000, 3, 5⟩
abbrev F.HIF_LINK_STATUS.LTSSM : Field := ⟨0x20000, 8, 6⟩
abbrev F.HIF_LINK_STATUS.BME : Field := ⟨0x20000, 14, 1⟩
abbrev F.HIF_LINK_LIMIT.MAX_SPEED : Field := ⟨0x20008, 0, 3⟩
abbrev F.HIF_LINK_LIMIT.MAX_WIDTH : Field := ⟨0x20008, 3, 5⟩
abbrev F.HIF_LINK_LIMIT.MPS : Field := ⟨0x20008, 8, 2⟩
abbrev F.HIF_LINK_LIMIT.MRRS : Field := ⟨0x20008, 10, 2⟩
abbrev F.HIF_LINK_LIMIT.CPL_TIMEOUT : Field := ⟨0x20008, 12, 4⟩
abbrev F.HIF_LINK_LIMIT.OUTSTANDING : Field := ⟨0x20008, 16, 8⟩
abbrev F.HIF_SETUP_ADDR.ADDR : Field := ⟨0x20010, 0, 64⟩
abbrev F.HIF_SETUP_STATUS.STATE : Field := ⟨0x20018, 0, 2⟩
abbrev F.HIF_SETUP_STATUS.CAUSE : Field := ⟨0x20018, 4, 4⟩
abbrev F.HIF_SQ_BASE.BASE (n : Nat) : Field := ⟨0x20100 + 0x20 * n, 12, 52⟩
abbrev F.HIF_SQ_CTL.LOG2 (n : Nat) : Field := ⟨0x20108 + 0x20 * n, 0, 4⟩
abbrev F.HIF_SQ_CTL.ENABLE (n : Nat) : Field := ⟨0x20108 + 0x20 * n, 4, 1⟩
abbrev F.HIF_SQ_TAIL.TAIL (n : Nat) : Field := ⟨0x20110 + 0x20 * n, 0, 14⟩
abbrev F.HIF_SQ_HEAD.HEAD (n : Nat) : Field := ⟨0x20118 + 0x20 * n, 0, 14⟩
abbrev F.HIF_HQ_BASE.BASE (q : Nat) : Field := ⟨0x20200 + 0x20 * q, 12, 52⟩
abbrev F.HIF_HQ_CTL.LOG2 (q : Nat) : Field := ⟨0x20208 + 0x20 * q, 0, 4⟩
abbrev F.HIF_HQ_CTL.ENABLE (q : Nat) : Field := ⟨0x20208 + 0x20 * q, 4, 1⟩
abbrev F.HIF_HQ_CTL.MOD_COUNT (q : Nat) : Field := ⟨0x20208 + 0x20 * q, 5, 8⟩
abbrev F.HIF_HQ_CTL.MOD_DELAY (q : Nat) : Field := ⟨0x20208 + 0x20 * q, 13, 16⟩
abbrev F.HIF_HQ_HEAD.HEAD (q : Nat) : Field := ⟨0x20210 + 0x20 * q, 0, 14⟩
abbrev F.HIF_HQ_TAIL.TAIL (q : Nat) : Field := ⟨0x20218 + 0x20 * q, 0, 14⟩
abbrev F.HIF_HQ_TAIL.PHASE (q : Nat) : Field := ⟨0x20218 + 0x20 * q, 14, 1⟩
abbrev F.HIF_INTAKE_STATUS.LINK_LOST : Field := ⟨0x20300, 0, 1⟩
abbrev F.HIF_INTAKE_STATUS.CQ_STALL : Field := ⟨0x20300, 1, 1⟩
abbrev F.HIF_INTAKE_STATUS.RX_POISON : Field := ⟨0x20300, 2, 1⟩
abbrev F.HIF_INTAKE_STATUS.HOST_TIMEOUT : Field := ⟨0x20300, 3, 1⟩
abbrev F.HIF_INTAKE_STATUS.FORMAT : Field := ⟨0x20300, 4, 1⟩
abbrev F.HIF_INTAKE_STATUS.HEAD_INVALID : Field := ⟨0x20300, 5, 1⟩
abbrev F.HIF_INTAKE_STATUS.RFQ_DROP : Field := ⟨0x20300, 16, 16⟩
abbrev F.DMA_CH_CTL.ENABLE (k : Nat) : Field := ⟨0x30000 + 0x100 * k, 0, 1⟩
abbrev F.DMA_CH_CTL.GO (k : Nat) : Field := ⟨0x30000 + 0x100 * k, 1, 1⟩
abbrev F.DMA_CH_CTL.STOP (k : Nat) : Field := ⟨0x30000 + 0x100 * k, 2, 1⟩
abbrev F.DMA_CH_CTL.SHADOW_COMMIT (k : Nat) : Field := ⟨0x30000 + 0x100 * k, 3, 1⟩
abbrev F.DMA_CH_CTL.MODE (k : Nat) : Field := ⟨0x30000 + 0x100 * k, 4, 2⟩
abbrev F.DMA_CH_CTL.PACE (k : Nat) : Field := ⟨0x30000 + 0x100 * k, 6, 1⟩
abbrev F.DMA_CH_CTL.IRQ_EN (k : Nat) : Field := ⟨0x30000 + 0x100 * k, 7, 1⟩
abbrev F.DMA_CH_STATUS.STATE (k : Nat) : Field := ⟨0x30008 + 0x100 * k, 0, 3⟩
abbrev F.DMA_CH_STATUS.PENDING_ENABLE (k : Nat) : Field := ⟨0x30008 + 0x100 * k, 3, 1⟩
abbrev F.DMA_CH_STATUS.DONE (k : Nat) : Field := ⟨0x30008 + 0x100 * k, 4, 1⟩
abbrev F.DMA_CH_STATUS.SHADOW_LATE (k : Nat) : Field := ⟨0x30008 + 0x100 * k, 5, 1⟩
abbrev F.DMA_CH_STATUS.SHADOW_OVERWRITE (k : Nat) : Field := ⟨0x30008 + 0x100 * k, 6, 1⟩
abbrev F.DMA_CH_STATUS.ERR (k : Nat) : Field := ⟨0x30008 + 0x100 * k, 8, 3⟩
abbrev F.DMA_CH_STATUS.POISON_SEEN (k : Nat) : Field := ⟨0x30008 + 0x100 * k, 16, 16⟩
abbrev F.DMA_CH_SRC.ADDR (k : Nat) : Field := ⟨0x30010 + 0x100 * k, 0, 64⟩
abbrev F.DMA_CH_DST.ADDR (k : Nat) : Field := ⟨0x30018 + 0x100 * k, 0, 64⟩
abbrev F.DMA_CH_LEN.LEN (k : Nat) : Field := ⟨0x30020 + 0x100 * k, 0, 17⟩
abbrev F.DMA_CH_LEN.SRC_SPACE (k : Nat) : Field := ⟨0x30020 + 0x100 * k, 20, 2⟩
abbrev F.DMA_CH_LEN.DST_SPACE (k : Nat) : Field := ⟨0x30020 + 0x100 * k, 22, 2⟩
abbrev F.DMA_CH_LEN.IRQ_ON_DONE (k : Nat) : Field := ⟨0x30020 + 0x100 * k, 24, 1⟩
abbrev F.DMA_CH_LEN.LAST (k : Nat) : Field := ⟨0x30020 + 0x100 * k, 25, 1⟩
abbrev F.DMA_CH_COUNT.C1 (k : Nat) : Field := ⟨0x30028 + 0x100 * k, 0, 16⟩
abbrev F.DMA_CH_COUNT.C2 (k : Nat) : Field := ⟨0x30028 + 0x100 * k, 16, 16⟩
abbrev F.DMA_CH_COUNT.C3 (k : Nat) : Field := ⟨0x30028 + 0x100 * k, 32, 16⟩
abbrev F.DMA_CH_STRIDE1.SRC (k : Nat) : Field := ⟨0x30030 + 0x100 * k, 0, 32⟩
abbrev F.DMA_CH_STRIDE1.DST (k : Nat) : Field := ⟨0x30030 + 0x100 * k, 32, 32⟩
abbrev F.DMA_CH_STRIDE2.SRC (k : Nat) : Field := ⟨0x30038 + 0x100 * k, 0, 32⟩
abbrev F.DMA_CH_STRIDE2.DST (k : Nat) : Field := ⟨0x30038 + 0x100 * k, 32, 32⟩
abbrev F.DMA_CH_STRIDE3.SRC (k : Nat) : Field := ⟨0x30040 + 0x100 * k, 0, 32⟩
abbrev F.DMA_CH_STRIDE3.DST (k : Nat) : Field := ⟨0x30040 + 0x100 * k, 32, 32⟩
abbrev F.DMA_CH_NEXT.SPACE (k : Nat) : Field := ⟨0x30048 + 0x100 * k, 0, 1⟩
abbrev F.DMA_CH_NEXT.ADDR (k : Nat) : Field := ⟨0x30048 + 0x100 * k, 6, 58⟩
abbrev F.DMA_CH_RATE.RATE (k : Nat) : Field := ⟨0x30050 + 0x100 * k, 0, 16⟩
abbrev F.DMA_CH_RATE.DEPTH (k : Nat) : Field := ⟨0x30050 + 0x100 * k, 16, 16⟩
abbrev F.DMA_CH_DISABLED_AT.ADDR (k : Nat) : Field := ⟨0x30060 + 0x100 * k, 0, 64⟩
abbrev F.DMA_CH_DESC_COUNT.COUNT (k : Nat) : Field := ⟨0x30068 + 0x100 * k, 0, 24⟩
abbrev F.DMA_CHAIN_BUDGET.LIMIT : Field := ⟨0x31000, 0, 25⟩
abbrev F.FOL_CFG.EDGE_LIMIT : Field := ⟨0x40000, 0, 13⟩
abbrev F.FOL_CFG.REFETCH_LIMIT : Field := ⟨0x40000, 13, 3⟩
abbrev F.FOL_CFG.DEADLINE_MARGIN : Field := ⟨0x40000, 16, 8⟩
abbrev F.FOL_CFG.MOTIF_STORE : Field := ⟨0x40000, 24, 6⟩
abbrev F.FOL_CAT_ID.ID : Field := ⟨0x40008, 0, 32⟩
abbrev F.FOL_INTAKE_CAP.CAP_MBS : Field := ⟨0x40010, 0, 16⟩
abbrev F.FOL_LEAF_STATUS.CUR_LEAF : Field := ⟨0x40018, 0, 16⟩
abbrev F.FOL_LEAF_STATUS.CUR_STATE : Field := ⟨0x40018, 16, 3⟩
abbrev F.FOL_LEAF_STATUS.REFUSE_CAUSE : Field := ⟨0x40018, 24, 4⟩
abbrev F.FOL_LEAF_STATUS.NEXT_LEAF : Field := ⟨0x40018, 32, 16⟩
abbrev F.FOL_LEAF_STATUS.NEXT_STATE : Field := ⟨0x40018, 48, 3⟩
abbrev F.FOL_LEAF_POS.TROW : Field := ⟨0x40020, 0, 32⟩
abbrev F.FOL_LEAF_POS.SEQ : Field := ⟨0x40020, 32, 32⟩
abbrev F.FOL_ERR.CRC_FAIL : Field := ⟨0x40028, 0, 1⟩
abbrev F.FOL_ERR.FORMAT : Field := ⟨0x40028, 1, 1⟩
abbrev F.FOL_ERR.SEQ_GAP : Field := ⟨0x40028, 2, 1⟩
abbrev F.FOL_ERR.DEADLINE_MISS : Field := ⟨0x40028, 3, 1⟩
abbrev F.FOL_ERR.DENSITY_OVER : Field := ⟨0x40028, 4, 1⟩
abbrev F.FOL_ERR.POISON : Field := ⟨0x40028, 5, 1⟩
abbrev F.FOL_ERR.REFETCH_EXHAUSTED : Field := ⟨0x40028, 6, 1⟩
abbrev F.FOL_COUNTS.CRC_FAIL : Field := ⟨0x40030, 0, 16⟩
abbrev F.FOL_COUNTS.CHECK_ONLY_MISMATCH : Field := ⟨0x40030, 16, 16⟩
abbrev F.FOL_COUNTS.FORMAT : Field := ⟨0x40030, 32, 16⟩
abbrev F.FOL_COUNTS.DECODE_RETRY : Field := ⟨0x40030, 48, 8⟩
abbrev F.FOL_COUNTS.DENSITY_OVER : Field := ⟨0x40030, 56, 8⟩
abbrev F.FOL_LAST_FAIL.SEQ : Field := ⟨0x40038, 0, 32⟩
abbrev F.FOL_LAST_FAIL.LEAF : Field := ⟨0x40038, 32, 16⟩
abbrev F.FOL_LAST_FAIL.CAUSE : Field := ⟨0x40038, 48, 8⟩
abbrev F.GUG_CTL.ENABLE : Field := ⟨0x50000, 0, 1⟩
abbrev F.GUG_CTL.GO : Field := ⟨0x50000, 1, 1⟩
abbrev F.GUG_CTL.LEVEL : Field := ⟨0x50000, 2, 2⟩
abbrev F.GUG_CTL.IRQ_EN : Field := ⟨0x50000, 4, 1⟩
abbrev F.GUG_STATUS.STATE : Field := ⟨0x50008, 0, 3⟩
abbrev F.GUG_STATUS.PENDING_ENABLE : Field := ⟨0x50008, 3, 1⟩
abbrev F.GUG_STATUS.DONE : Field := ⟨0x50008, 4, 1⟩
abbrev F.GUG_STATUS.ERR : Field := ⟨0x50008, 8, 4⟩
abbrev F.GUG_STATUS.SELF_CHECK_FAILS : Field := ⟨0x50008, 16, 16⟩
abbrev F.GUG_JOB_SRC.ADDR : Field := ⟨0x50010, 0, 39⟩
abbrev F.GUG_JOB_SRC.SPACE : Field := ⟨0x50010, 62, 2⟩
abbrev F.GUG_JOB_LEN.LEN : Field := ⟨0x50018, 0, 32⟩
abbrev F.GUG_JOB_LIST.SPACE : Field := ⟨0x50020, 0, 1⟩
abbrev F.GUG_JOB_LIST.ADDR : Field := ⟨0x50020, 4, 35⟩
abbrev F.GUG_JOB_LIST.COUNT : Field := ⟨0x50020, 48, 16⟩
abbrev F.GUG_OUT_LEN.BYTES : Field := ⟨0x50028, 0, 40⟩
abbrev F.GUG_OUT_BUFS.USED : Field := ⟨0x50030, 0, 16⟩
abbrev F.GUG_OUT_BUFS.LAST_FILL : Field := ⟨0x50030, 32, 32⟩
abbrev F.RAS_E_STATUS.STATE (n : Nat) : Field := ⟨0x80000 + 0x1000 * n, 0, 2⟩
abbrev F.RAS_E_TROW.TROW (n : Nat) : Field := ⟨0x80008 + 0x1000 * n, 0, 32⟩
abbrev F.RAS_E_TILES.COUNT (n : Nat) : Field := ⟨0x80010 + 0x1000 * n, 0, 32⟩
abbrev F.RAS_E_ECC.CORRECTED (n : Nat) : Field := ⟨0x80018 + 0x1000 * n, 0, 16⟩
abbrev F.RAS_E_ECC.UNCORRECTED (n : Nat) : Field := ⟨0x80018 + 0x1000 * n, 16, 16⟩
abbrev F.RAS_CFG.CLAMP_MARGIN : Field := ⟨0xC0000, 0, 5⟩
abbrev F.RAS_SEQ.LOW_TROW : Field := ⟨0xC0008, 0, 32⟩
abbrev F.RAS_SEQ.HIGH_TROW : Field := ⟨0xC0008, 32, 32⟩
abbrev F.RAS_WAIT.DECODE : Field := ⟨0xC0010, 0, 1⟩
abbrev F.RAS_WAIT.DENSITY : Field := ⟨0xC0010, 1, 1⟩
abbrev F.RAS_WAIT.PEC : Field := ⟨0xC0010, 2, 1⟩
abbrev F.RAS_WAIT.RESERVE : Field := ⟨0xC0010, 3, 1⟩
abbrev F.RAS_ERR.POISON : Field := ⟨0xC0018, 0, 1⟩
abbrev F.RAS_ERR.ECC : Field := ⟨0xC0018, 1, 1⟩
abbrev F.RAS_ERR.FILL : Field := ⟨0xC0018, 2, 1⟩
abbrev F.RAS_ERR.LATE : Field := ⟨0xC0018, 3, 1⟩
abbrev F.RAS_ERR.PEC_INCOMPLETE : Field := ⟨0xC0018, 4, 1⟩
abbrev F.RAS_ERR.DENSITY_POISON : Field := ⟨0xC0018, 5, 1⟩
abbrev F.RAS_COUNTS.FAILED : Field := ⟨0xC0020, 0, 16⟩
abbrev F.RAS_COUNTS.LATE : Field := ⟨0xC0020, 16, 16⟩
abbrev F.RAS_COUNTS.PEC_INCOMPLETE : Field := ⟨0xC0020, 32, 16⟩
abbrev F.RAS_COUNTS.FILL : Field := ⟨0xC0020, 48, 16⟩
abbrev F.RAS_LAST_FAIL.TROW : Field := ⟨0xC0028, 0, 32⟩
abbrev F.RAS_LAST_FAIL.TCOL : Field := ⟨0xC0028, 32, 6⟩
abbrev F.RAS_LAST_FAIL.CAUSE : Field := ⟨0xC0028, 40, 4⟩
abbrev F.TAL_RING.BASE : Field := ⟨0x60000, 12, 27⟩
abbrev F.TAL_STATUS.DENSITY_TROW : Field := ⟨0x60008, 0, 32⟩
abbrev F.TAL_STATUS.CHECK_TROW : Field := ⟨0x60008, 32, 32⟩
abbrev F.TAL_ERR.MISMATCH : Field := ⟨0x60010, 0, 1⟩
abbrev F.TAL_ERR.FLATTEN : Field := ⟨0x60010, 1, 1⟩
abbrev F.TAL_ERR.POISON : Field := ⟨0x60010, 2, 1⟩
abbrev F.TAL_ERR.BOUND_SAT : Field := ⟨0x60010, 3, 1⟩
abbrev F.TAL_COUNTS.MISMATCH : Field := ⟨0x60018, 0, 16⟩
abbrev F.TAL_COUNTS.FLATTEN : Field := ⟨0x60018, 16, 16⟩
abbrev F.TAL_COUNTS.BOUND_SAT : Field := ⟨0x60018, 32, 16⟩
abbrev F.TAL_COUNTS.UNKNOWN_TILES : Field := ⟨0x60018, 48, 16⟩
abbrev F.TAL_LAST.TROW : Field := ⟨0x60020, 0, 32⟩
abbrev F.TAL_LAST.TCOL : Field := ⟨0x60020, 32, 6⟩
abbrev F.TAL_LAST.REGION : Field := ⟨0x60020, 40, 3⟩
abbrev F.TAL_LAST.DIFF : Field := ⟨0x60020, 48, 16⟩
abbrev F.TAL_INJECT.ARM : Field := ⟨0x60028, 0, 1⟩
abbrev F.TAL_INJECT.REGION : Field := ⟨0x60028, 1, 3⟩
abbrev F.TAL_INJECT.DELTA : Field := ⟨0x60028, 16, 16⟩
abbrev F.PEC_CFG.K : Field := ⟨0x70000, 0, 6⟩
abbrev F.PEC_RING.BASE : Field := ⟨0x70008, 12, 27⟩
abbrev F.PEC_STATUS.MOD_TROW : Field := ⟨0x70010, 0, 32⟩
abbrev F.PEC_STATUS.INVALID : Field := ⟨0x70010, 32, 16⟩
abbrev F.PEC_ERR.INCOMPLETE : Field := ⟨0x70018, 0, 1⟩
abbrev F.PEC_ERR.POISON : Field := ⟨0x70018, 1, 1⟩
abbrev F.PEC_KERNEL.WEIGHT (k : Nat) : Field := ⟨0x71000 + 0x4 * k, 0, 17⟩
abbrev F.PEC_TABLE.ENTRY (i : Nat) : Field := ⟨0x75000 + 0x4 * i, 0, 14⟩
abbrev F.DOS_FOG_RING.BASE : Field := ⟨0x100000, 12, 27⟩
abbrev F.DOS_STATUS.TROW : Field := ⟨0x100008, 0, 32⟩
abbrev F.DOS_STATUS.LEAF : Field := ⟨0x100008, 32, 16⟩
abbrev F.DOS_STATUS.BANK : Field := ⟨0x100008, 48, 1⟩
abbrev F.DOS_ERR.COMPARE : Field := ⟨0x100010, 0, 1⟩
abbrev F.DOS_ERR.ECC : Field := ⟨0x100010, 1, 1⟩
abbrev F.DOS_COUNTS.COMPARE : Field := ⟨0x100018, 0, 16⟩
abbrev F.DOS_COUNTS.CORRECTED : Field := ⟨0x100018, 16, 16⟩
abbrev F.DOS_COUNTS.UNCORRECTED : Field := ⟨0x100018, 32, 16⟩
abbrev F.DOS_LAST_FAIL.TROW : Field := ⟨0x100020, 0, 32⟩
abbrev F.DOS_LAST_FAIL.TCOL : Field := ⟨0x100020, 32, 6⟩
abbrev F.DOS_LAST_FAIL.I : Field := ⟨0x100020, 38, 8⟩
abbrev F.DOS_LAST_FAIL.J : Field := ⟨0x100020, 46, 8⟩
abbrev F.DOS_LAST_FAIL.CAUSE : Field := ⟨0x100020, 54, 1⟩
abbrev F.DOS_CLASS.MULT (k : Nat) : Field := ⟨0x100100 + 0x4 * k, 0, 14⟩
abbrev F.DOS_CT.ENTRY (i : Nat) : Field := ⟨0x101000 + 0x4 * i, 0, 14⟩
abbrev F.DOS_DITHER.THR0 (w : Nat) : Field := ⟨0x103000 + 0x4 * w, 0, 6⟩
abbrev F.DOS_DITHER.THR1 (w : Nat) : Field := ⟨0x103000 + 0x4 * w, 8, 6⟩
abbrev F.DOS_DITHER.THR2 (w : Nat) : Field := ⟨0x103000 + 0x4 * w, 16, 6⟩
abbrev F.DOS_DITHER.THR3 (w : Nat) : Field := ⟨0x103000 + 0x4 * w, 24, 6⟩
abbrev F.BCT_LIMITS.GAIN_MIN : Field := ⟨0x110000, 0, 14⟩
abbrev F.BCT_LIMITS.GAIN_MAX : Field := ⟨0x110000, 16, 14⟩
abbrev F.BCT_STAGE.BASE : Field := ⟨0x110008, 22, 17⟩
abbrev F.BCT_COMMIT.LEAF : Field := ⟨0x110010, 0, 16⟩
abbrev F.BCT_COMMIT.GO : Field := ⟨0x110010, 16, 1⟩
abbrev F.BCT_COMMIT_CRC.CRC : Field := ⟨0x110018, 0, 32⟩
abbrev F.BCT_STATUS.STATE : Field := ⟨0x110020, 0, 2⟩
abbrev F.BCT_STATUS.CAUSE : Field := ⟨0x110020, 4, 4⟩
abbrev F.BCT_STATUS.LEAF : Field := ⟨0x110020, 16, 16⟩
abbrev F.BCT_STATUS.COLUMN : Field := ⟨0x110020, 32, 9⟩
abbrev F.BCT_STATUS.ROW : Field := ⟨0x110020, 41, 10⟩
abbrev F.BCT_ERR.REFUSED : Field := ⟨0x110028, 0, 1⟩
abbrev F.BCT_ERR.ECC : Field := ⟨0x110028, 1, 1⟩
abbrev F.BCT_REMAPS.SPARES : Field := ⟨0x110030, 0, 13⟩
abbrev F.BCT_REMAPS.MAX_COLUMN : Field := ⟨0x110030, 16, 5⟩
abbrev F.BCT_BANK.LEAF (b : Nat) : Field := ⟨0x110040 + 0x10 * b, 0, 16⟩
abbrev F.BCT_BANK.IN_USE (b : Nat) : Field := ⟨0x110040 + 0x10 * b, 16, 1⟩
abbrev F.BCT_BANK.CRC (b : Nat) : Field := ⟨0x110040 + 0x10 * b, 32, 32⟩
abbrev F.RSV_POS.RELEASED : Field := ⟨0x120000, 0, 40⟩
abbrev F.RSV_LEAF.BASE : Field := ⟨0x120008, 0, 40⟩
abbrev F.RSV_LEAF.LEAF : Field := ⟨0x120008, 40, 16⟩
abbrev F.RSV_LEAD.LEAD : Field := ⟨0x120010, 0, 7⟩
abbrev F.RSV_LEAD.LOW_WATER : Field := ⟨0x120010, 8, 7⟩
abbrev F.RSV_ERR.DATA_LATE : Field := ⟨0x120018, 0, 1⟩
abbrev F.RSV_ERR.ECC : Field := ⟨0x120018, 1, 1⟩
abbrev F.RSV_ERR.FRAME_CHECK : Field := ⟨0x120018, 2, 1⟩
abbrev F.RSV_ERR.SPARES_EXHAUSTED : Field := ⟨0x120018, 3, 1⟩
abbrev F.RSV_ERR.EARLY_END : Field := ⟨0x120018, 4, 1⟩
abbrev F.RSV_COUNTS.BLANK_SLOTS : Field := ⟨0x120020, 0, 16⟩
abbrev F.RSV_COUNTS.CORRECTED : Field := ⟨0x120020, 16, 16⟩
abbrev F.RSV_COUNTS.UNCORRECTED : Field := ⟨0x120020, 32, 16⟩
abbrev F.RSV_COUNTS.FRAME_CHECK : Field := ⟨0x120020, 48, 16⟩
abbrev F.RSV_LAST_BLANK.SLOT : Field := ⟨0x120028, 0, 32⟩
abbrev F.RSV_LAST_BLANK.LEAF : Field := ⟨0x120028, 32, 16⟩
abbrev F.RSV_LAST_BLANK.CAUSE : Field := ⟨0x120028, 48, 3⟩
abbrev F.RSV_LAST_BLANK.TILE_CAUSE : Field := ⟨0x120028, 52, 4⟩
abbrev F.RSV_REMAP.ROWS : Field := ⟨0x120030, 0, 13⟩
abbrev F.RSV_REMAP.MIN_SPARES : Field := ⟨0x120030, 14, 6⟩
abbrev F.RSV_REMAP.PENDING : Field := ⟨0x120030, 20, 8⟩
abbrev F.SLT_ENC_CFG.INVERT0 : Field := ⟨0x130000, 0, 1⟩
abbrev F.SLT_ENC_CFG.INVERT1 : Field := ⟨0x130000, 1, 1⟩
abbrev F.SLT_ENC_CFG.USE_INDEX0 : Field := ⟨0x130000, 2, 1⟩
abbrev F.SLT_ENC_CFG.USE_INDEX1 : Field := ⟨0x130000, 3, 1⟩
abbrev F.SLT_INDEX0.VALUE : Field := ⟨0x130008, 0, 48⟩
abbrev F.SLT_INDEX1.VALUE : Field := ⟨0x130010, 0, 48⟩
abbrev F.SLT_PITCH.PITCH : Field := ⟨0x130018, 0, 32⟩
abbrev F.SLT_LIMITS.PAUSE_MS : Field := ⟨0x130020, 0, 8⟩
abbrev F.SLT_LIMITS.OVERSPEED : Field := ⟨0x130020, 8, 16⟩
abbrev F.SLT_LIMITS.REVERSE : Field := ⟨0x130020, 24, 8⟩
abbrev F.SLT_ACCEL.MAX : Field := ⟨0x130028, 0, 32⟩
abbrev F.SLT_LOOP.BW : Field := ⟨0x130030, 0, 8⟩
abbrev F.SLT_CROSS.TOL : Field := ⟨0x130038, 0, 16⟩
abbrev F.SLT_BLANK.DEBOUNCE : Field := ⟨0x130040, 0, 16⟩
abbrev F.SLT_BLANK.SLOW_HOLD : Field := ⟨0x130040, 16, 16⟩
abbrev F.SLT_CTL.ABORT : Field := ⟨0x130048, 0, 1⟩
abbrev F.SLT_STATUS.STATE : Field := ⟨0x130050, 0, 3⟩
abbrev F.SLT_STATUS.REF0 : Field := ⟨0x130050, 3, 1⟩
abbrev F.SLT_STATUS.REF1 : Field := ⟨0x130050, 4, 1⟩
abbrev F.SLT_STATUS.OVERSPEED : Field := ⟨0x130050, 5, 1⟩
abbrev F.SLT_STATUS.STAGE_SLOW : Field := ⟨0x130050, 6, 1⟩
abbrev F.SLT_STATUS.BLANK_REQ : Field := ⟨0x130050, 7, 1⟩
abbrev F.SLT_STATUS.BLANK_LASTING : Field := ⟨0x130050, 8, 1⟩
abbrev F.SLT_STATUS.WAIT : Field := ⟨0x130050, 9, 4⟩
abbrev F.SLT_STATUS.OVER_RUN : Field := ⟨0x130050, 16, 16⟩
abbrev F.SLT_POS0.POS : Field := ⟨0x130058, 0, 48⟩
abbrev F.SLT_POS1.POS : Field := ⟨0x130060, 0, 48⟩
abbrev F.SLT_SLOT.SLOT : Field := ⟨0x130068, 0, 32⟩
abbrev F.SLT_SLOT.LEAF : Field := ⟨0x130068, 32, 16⟩
abbrev F.SLT_PERIOD.T_PRED : Field := ⟨0x130070, 0, 32⟩
abbrev F.SLT_PERIOD.P_MIN : Field := ⟨0x130070, 32, 32⟩
abbrev F.SLT_VEL.VEL : Field := ⟨0x130078, 0, 48⟩
abbrev F.SLT_ERR.ENC0_OVERRATE : Field := ⟨0x130080, 0, 1⟩
abbrev F.SLT_ERR.ENC0_LOS : Field := ⟨0x130080, 1, 1⟩
abbrev F.SLT_ERR.ENC0_INDEX : Field := ⟨0x130080, 2, 1⟩
abbrev F.SLT_ERR.ENC1_OVERRATE : Field := ⟨0x130080, 3, 1⟩
abbrev F.SLT_ERR.ENC1_LOS : Field := ⟨0x130080, 4, 1⟩
abbrev F.SLT_ERR.ENC1_INDEX : Field := ⟨0x130080, 5, 1⟩
abbrev F.SLT_ERR.PAUSE : Field := ⟨0x130080, 6, 1⟩
abbrev F.SLT_ERR.REVERSE : Field := ⟨0x130080, 7, 1⟩
abbrev F.SLT_ERR.OVERSPEED_END : Field := ⟨0x130080, 8, 1⟩
abbrev F.SLT_ERR.ACCEL : Field := ⟨0x130080, 9, 1⟩
abbrev F.SLT_ERR.CROSS : Field := ⟨0x130080, 10, 1⟩
abbrev F.SLT_ERR.READ_LATE : Field := ⟨0x130080, 11, 1⟩
abbrev F.SLT_ERR.ABORTED : Field := ⟨0x130080, 12, 1⟩
abbrev F.SLT_COUNTS.OVERSPEED : Field := ⟨0x130088, 0, 16⟩
abbrev F.SLT_COUNTS.ACCEL : Field := ⟨0x130088, 16, 16⟩
abbrev F.SLT_COUNTS.GLITCH : Field := ⟨0x130088, 32, 16⟩
abbrev F.SLT_COUNTS.BLANK_REQ : Field := ⟨0x130088, 48, 16⟩
abbrev F.SLT_END.FIRST_SLOT : Field := ⟨0x130090, 0, 32⟩
abbrev F.SLT_END.LEAF : Field := ⟨0x130090, 32, 16⟩
abbrev F.SLT_END.DETAIL : Field := ⟨0x130090, 48, 4⟩
abbrev F.DUT_CFG.STEP_PS : Field := ⟨0x140000, 0, 13⟩
abbrev F.DUT_CFG.GUARD_NS : Field := ⟨0x140000, 16, 8⟩
abbrev F.DUT_BEAM.SOFT : Field := ⟨0x140008, 0, 16⟩
abbrev F.DUT_BEAM.HARD : Field := ⟨0x140008, 16, 16⟩
abbrev F.DUT_BEAM.RESUME : Field := ⟨0x140008, 32, 16⟩
abbrev F.DUT_PLATE.SOFT : Field := ⟨0x140010, 0, 16⟩
abbrev F.DUT_PLATE.HARD : Field := ⟨0x140010, 16, 16⟩
abbrev F.DUT_PLATE.RESUME : Field := ⟨0x140010, 32, 16⟩
abbrev F.DUT_TEMP.SOFT : Field := ⟨0x140018, 0, 16⟩
abbrev F.DUT_TEMP.HARD : Field := ⟨0x140018, 16, 16⟩
abbrev F.DUT_TEMP.RESUME : Field := ⟨0x140018, 32, 16⟩
abbrev F.DUT_STATUS.BEAM_DUTY : Field := ⟨0x140020, 0, 16⟩
abbrev F.DUT_STATUS.PLATE_DUTY : Field := ⟨0x140020, 16, 16⟩
abbrev F.DUT_STATUS.TEMP : Field := ⟨0x140020, 32, 16⟩
abbrev F.DUT_STATUS.SOFT : Field := ⟨0x140020, 48, 1⟩
abbrev F.DUT_STATUS.HOT : Field := ⟨0x140020, 49, 1⟩
abbrev F.DUT_STATUS.TEMP_VALID : Field := ⟨0x140020, 50, 1⟩
abbrev F.DUT_PEAK_BEAM.ROW : Field := ⟨0x140028, 0, 10⟩
abbrev F.DUT_PEAK_BEAM.COLUMN : Field := ⟨0x140028, 16, 9⟩
abbrev F.DUT_ERR.BEAM_SOFT : Field := ⟨0x140030, 0, 1⟩
abbrev F.DUT_ERR.BEAM_HARD : Field := ⟨0x140030, 1, 1⟩
abbrev F.DUT_ERR.PLATE_SOFT : Field := ⟨0x140030, 2, 1⟩
abbrev F.DUT_ERR.PLATE_HARD : Field := ⟨0x140030, 3, 1⟩
abbrev F.DUT_ERR.TEMP_SOFT : Field := ⟨0x140030, 4, 1⟩
abbrev F.DUT_ERR.TEMP_HARD : Field := ⟨0x140030, 5, 1⟩
abbrev F.DUT_PERMIT.P_GOV : Field := ⟨0x140038, 0, 32⟩
abbrev F.DUT_PERMIT.BINDING : Field := ⟨0x140038, 32, 3⟩
abbrev F.LAC_RING.BASE : Field := ⟨0x150000, 12, 27⟩
abbrev F.LAC_RING.LOG2 : Field := ⟨0x150000, 39, 5⟩
abbrev F.LAC_CFG.ARM_RESERVE : Field := ⟨0x150008, 0, 8⟩
abbrev F.LAC_CFG.OPEN_LIMIT : Field := ⟨0x150008, 8, 8⟩
abbrev F.LAC_STATUS.NEXT : Field := ⟨0x150010, 0, 32⟩
abbrev F.LAC_STATUS.ACKED : Field := ⟨0x150010, 32, 32⟩
abbrev F.LAC_CURSOR.INDEX : Field := ⟨0x150018, 0, 32⟩
abbrev F.LAC_WINDOW.WORD (w : Nat) : Field := ⟨0x150020 + 0x4 * w, 0, 32⟩
abbrev F.LAC_ACK.INDEX : Field := ⟨0x150040, 0, 32⟩
abbrev F.LAC_ERR.OVERFLOW : Field := ⟨0x150048, 0, 1⟩
abbrev F.LAC_ERR.CURSOR_INVALID : Field := ⟨0x150048, 1, 1⟩
abbrev F.LAC_ERR.ACK_INVALID : Field := ⟨0x150048, 2, 1⟩
abbrev F.LAC_COUNTS.RECORDS : Field := ⟨0x150050, 0, 32⟩
abbrev F.LAC_COUNTS.MERGED : Field := ⟨0x150050, 32, 32⟩
abbrev F.BLK_CFG.MAX_RATE : Field := ⟨0x160000, 0, 2⟩
abbrev F.BLK_CFG.PORT : Field := ⟨0x160000, 2, 1⟩
abbrev F.BLK_CFG.SPARE_EN : Field := ⟨0x160000, 3, 1⟩
abbrev F.BLK_CFG.LINK_LIMIT : Field := ⟨0x160000, 8, 16⟩
abbrev F.BLK_POL.TX_INV (g : Nat) : Field := ⟨0x160008 + 0x8 * g, 0, 25⟩
abbrev F.BLK_POL.RX_INV (g : Nat) : Field := ⟨0x160008 + 0x8 * g, 25, 1⟩
abbrev F.BLK_CTL.ENABLE : Field := ⟨0x160030, 0, 1⟩
abbrev F.BLK_CTL.STEP_UP : Field := ⟨0x160030, 1, 1⟩
abbrev F.BLK_CTL.RETRAIN : Field := ⟨0x160030, 2, 1⟩
abbrev F.BLK_STATUS.STATE : Field := ⟨0x160038, 0, 16⟩
abbrev F.BLK_STATUS.RATE : Field := ⟨0x160038, 16, 2⟩
abbrev F.BLK_STATUS.READY : Field := ⟨0x160038, 18, 1⟩
abbrev F.BLK_STATUS.PENDING_ENABLE : Field := ⟨0x160038, 19, 1⟩
abbrev F.BLK_STATUS.FAILED_RATES : Field := ⟨0x160038, 20, 4⟩
abbrev F.BLK_STATUS.SPARE : Field := ⟨0x160038, 24, 20⟩
abbrev F.BLK_ERR.PLATE_REJECT : Field := ⟨0x160040, 0, 1⟩
abbrev F.BLK_ERR.STATUS_LOST : Field := ⟨0x160040, 1, 1⟩
abbrev F.BLK_ERR.BACK_CHECK : Field := ⟨0x160040, 2, 1⟩
abbrev F.BLK_ERR.LANE_LASTING : Field := ⟨0x160040, 3, 1⟩
abbrev F.BLK_ERR.SPARE_EXHAUSTED : Field := ⟨0x160040, 4, 1⟩
abbrev F.BLK_ERR.RECOVERY : Field := ⟨0x160040, 5, 1⟩
abbrev F.BLK_ERR.RATE_FALLBACK : Field := ⟨0x160040, 6, 1⟩
abbrev F.BLK_ERR.PLATE_CAP : Field := ⟨0x160040, 7, 1⟩
abbrev F.BLK_ERR.TEMP_SILENT : Field := ⟨0x160040, 8, 1⟩
abbrev F.BLK_ERR.LINK_END : Field := ⟨0x160040, 9, 1⟩
abbrev F.BLK_COUNTS.REJECTED : Field := ⟨0x160048, 0, 16⟩
abbrev F.BLK_COUNTS.BACK_CHECK : Field := ⟨0x160048, 16, 16⟩
abbrev F.BLK_COUNTS.RECOVERIES : Field := ⟨0x160048, 32, 16⟩
abbrev F.BLK_COUNTS.SWAPS : Field := ⟨0x160048, 48, 16⟩
abbrev F.BLK_LAST_REJECT.SLOT : Field := ⟨0x160050, 0, 32⟩
abbrev F.BLK_LAST_REJECT.LEAF : Field := ⟨0x160050, 32, 16⟩
abbrev F.BLK_LAST_REJECT.GROUP : Field := ⟨0x160050, 48, 2⟩
abbrev F.BLK_LAST_REJECT.RESULT : Field := ⟨0x160050, 50, 4⟩
abbrev F.BLK_LAST_LANES.MASK : Field := ⟨0x160058, 0, 24⟩
abbrev F.BLK_PLATE.PLATE_ID : Field := ⟨0x160060, 0, 32⟩
abbrev F.BLK_PLATE.MAX_RATE : Field := ⟨0x160060, 32, 2⟩
abbrev F.BLK_PLATE.PORT : Field := ⟨0x160060, 34, 1⟩
abbrev F.BLK_PLATE.STEP_PS : Field := ⟨0x160060, 35, 13⟩
abbrev F.BLK_PLATE.VERSION : Field := ⟨0x160060, 48, 8⟩
abbrev F.BLK_PLL.BLK_LOCK : Field := ⟨0x160068, 0, 1⟩
abbrev F.BLK_PLL.IKL_LOCK : Field := ⟨0x160068, 1, 1⟩
abbrev F.BLK_PLL.BLK_LOSS : Field := ⟨0x160068, 8, 8⟩
abbrev F.BLK_PLL.IKL_LOSS : Field := ⟨0x160068, 16, 8⟩
abbrev F.BLK_IKL_CFG.TX_INV : Field := ⟨0x160070, 0, 8⟩
abbrev F.BLK_IKL_CFG.RX_INV : Field := ⟨0x160070, 8, 8⟩
abbrev F.BLK_IKL_CFG.MAX_RATE : Field := ⟨0x160070, 16, 2⟩
abbrev F.BLK_LANE.STATE (n : Nat) : Field := ⟨0x161000 + 0x8 * n, 0, 2⟩
abbrev F.BLK_LANE.LOGICAL (n : Nat) : Field := ⟨0x161000 + 0x8 * n, 2, 5⟩
abbrev F.BLK_LANE.LOCKED (n : Nat) : Field := ⟨0x161000 + 0x8 * n, 7, 1⟩
abbrev F.BLK_LANE.BUCKET (n : Nat) : Field := ⟨0x161000 + 0x8 * n, 16, 5⟩
abbrev F.BLK_LANE.ERRORS (n : Nat) : Field := ⟨0x161000 + 0x8 * n, 32, 16⟩
abbrev F.BLK_LANE.H_MARGIN (n : Nat) : Field := ⟨0x161000 + 0x8 * n, 48, 8⟩
abbrev F.BLK_LANE.V_MARGIN (n : Nat) : Field := ⟨0x161000 + 0x8 * n, 56, 8⟩
abbrev F.MEM_CFG.WIDTH : Field := ⟨0x180000, 0, 2⟩
abbrev F.MEM_CFG.DENSITY : Field := ⟨0x180000, 2, 2⟩
abbrev F.MEM_CFG.RANKS : Field := ⟨0x180000, 4, 1⟩
abbrev F.MEM_CFG.PICK : Field := ⟨0x180000, 5, 1⟩
abbrev F.MEM_AGE.RASTER : Field := ⟨0x180008, 0, 12⟩
abbrev F.MEM_AGE.INTAKE : Field := ⟨0x180008, 12, 12⟩
abbrev F.MEM_AGE.GENERAL : Field := ⟨0x180008, 24, 12⟩
abbrev F.MEM_AGE.SURVEY : Field := ⟨0x180008, 36, 12⟩
abbrev F.MEM_AGE.SCRUB : Field := ⟨0x180008, 48, 12⟩
abbrev F.MEM_URGENT.SHARE : Field := ⟨0x180010, 0, 8⟩
abbrev F.MEM_URGENT.WINDOW : Field := ⟨0x180010, 8, 8⟩
abbrev F.MEM_FABRIC_TIMEOUT.TIMEOUT : Field := ⟨0x180018, 0, 16⟩
abbrev F.MEM_REFRESH.POLL : Field := ⟨0x180020, 0, 12⟩
abbrev F.MEM_SR.IDLE : Field := ⟨0x180028, 0, 16⟩
abbrev F.MEM_SR.PREVIEW_SR : Field := ⟨0x180028, 16, 1⟩
abbrev F.MEM_CTL.RETRAIN : Field := ⟨0x180030, 0, 1⟩
abbrev F.MEM_CTL.CHANNEL : Field := ⟨0x180030, 1, 3⟩
abbrev F.MEM_CTL.APPLY : Field := ⟨0x180030, 4, 1⟩
abbrev F.MEM_STATUS.TRAINED : Field := ⟨0x180038, 0, 6⟩
abbrev F.MEM_STATUS.FULL_MAP : Field := ⟨0x180038, 6, 1⟩
abbrev F.MEM_STATUS.SELF_REFRESH : Field := ⟨0x180038, 8, 6⟩
abbrev F.MEM_STATUS.DOUBLED : Field := ⟨0x180038, 14, 6⟩
abbrev F.MEM_STATUS.CHAN_GIB : Field := ⟨0x180038, 24, 8⟩
abbrev F.MEM_ERR.CORRECTED : Field := ⟨0x180040, 0, 1⟩
abbrev F.MEM_ERR.UNCORRECTABLE : Field := ⟨0x180040, 1, 1⟩
abbrev F.MEM_ERR.RMW_POISON : Field := ⟨0x180040, 2, 1⟩
abbrev F.MEM_ERR.LASTING : Field := ⟨0x180040, 3, 1⟩
abbrev F.MEM_ERR.REMAP_EXHAUSTED : Field := ⟨0x180040, 4, 1⟩
abbrev F.MEM_ERR.WITHDRAW_FULL : Field := ⟨0x180040, 5, 1⟩
abbrev F.MEM_ERR.TRAIN_FAIL : Field := ⟨0x180040, 6, 1⟩
abbrev F.MEM_ERR.APPLY_IGNORED : Field := ⟨0x180040, 7, 1⟩
abbrev F.MEM_ERR.FABRIC_TIMEOUT : Field := ⟨0x180040, 8, 1⟩
abbrev F.MEM_ERR.DRAM_HOT : Field := ⟨0x180040, 9, 1⟩
abbrev F.MEM_COUNTS.CORRECTED : Field := ⟨0x180048, 0, 16⟩
abbrev F.MEM_COUNTS.UNCORRECTABLE : Field := ⟨0x180048, 16, 16⟩
abbrev F.MEM_COUNTS.PROMOTED : Field := ⟨0x180048, 32, 12⟩
abbrev F.MEM_COUNTS.CAPPED : Field := ⟨0x180048, 44, 8⟩
abbrev F.MEM_COUNTS.EVICTED : Field := ⟨0x180048, 52, 12⟩
abbrev F.MEM_LAST_ERR.ADDR : Field := ⟨0x180050, 0, 39⟩
abbrev F.MEM_LAST_ERR.WORD : Field := ⟨0x180050, 39, 2⟩
abbrev F.MEM_LAST_ERR.UNCORRECTABLE : Field := ⟨0x180050, 41, 1⟩
abbrev F.MEM_LAST_ERR.SOURCE : Field := ⟨0x180050, 42, 2⟩
abbrev F.MEM_CH_STATUS.STATE (c : Nat) : Field := ⟨0x181000 + 0x800 * c, 0, 3⟩
abbrev F.MEM_CH_STATUS.DOUBLED (c : Nat) : Field := ⟨0x181000 + 0x800 * c, 3, 1⟩
abbrev F.MEM_CH_STATUS.DEBT (c : Nat) : Field := ⟨0x181000 + 0x800 * c, 4, 4⟩
abbrev F.MEM_CH_STATUS.REMAPS (c : Nat) : Field := ⟨0x181000 + 0x800 * c, 8, 5⟩
abbrev F.MEM_CH_TRAIN.RX_DELAY (c : Nat) (n : Nat) : Field := ⟨0x181100 + 0x800 * c + 0x8 * n, 0, 8⟩
abbrev F.MEM_CH_TRAIN.TX_DELAY (c : Nat) (n : Nat) : Field := ⟨0x181100 + 0x800 * c + 0x8 * n, 8, 8⟩
abbrev F.MEM_CH_TRAIN.VREF (c : Nat) (n : Nat) : Field := ⟨0x181100 + 0x800 * c + 0x8 * n, 16, 7⟩
abbrev F.MEM_CH_TRAIN.PASS (c : Nat) (n : Nat) : Field := ⟨0x181100 + 0x800 * c + 0x8 * n, 23, 1⟩
abbrev F.MEM_CH_TRAIN.EYE (c : Nat) (n : Nat) : Field := ⟨0x181100 + 0x800 * c + 0x8 * n, 24, 8⟩
abbrev F.MEM_CH_DELAY.RX_DELAY (c : Nat) (n : Nat) : Field := ⟨0x181200 + 0x800 * c + 0x8 * n, 0, 8⟩
abbrev F.MEM_CH_DELAY.TX_DELAY (c : Nat) (n : Nat) : Field := ⟨0x181200 + 0x800 * c + 0x8 * n, 8, 8⟩
abbrev F.MEM_CH_DELAY.VREF (c : Nat) (n : Nat) : Field := ⟨0x181200 + 0x800 * c + 0x8 * n, 16, 7⟩
abbrev F.MEM_CH_REMAP.VALID (c : Nat) (i : Nat) : Field := ⟨0x181300 + 0x800 * c + 0x8 * i, 0, 1⟩
abbrev F.MEM_CH_REMAP.ADDR (c : Nat) (i : Nat) : Field := ⟨0x181300 + 0x800 * c + 0x8 * i, 6, 33⟩
abbrev F.MEM_WITHDRAWN.VALID (i : Nat) : Field := ⟨0x186000 + 0x8 * i, 0, 1⟩
abbrev F.MEM_WITHDRAWN.PAGE (i : Nat) : Field := ⟨0x186000 + 0x8 * i, 12, 27⟩
abbrev F.SCR_CFG.PERIOD_H : Field := ⟨0x190000, 0, 8⟩
abbrev F.SCR_CFG.UC_WINDOW_H : Field := ⟨0x190000, 8, 8⟩
abbrev F.SCR_CTL.ENABLE : Field := ⟨0x190008, 0, 1⟩
abbrev F.SCR_STATUS.STATE : Field := ⟨0x190010, 0, 3⟩
abbrev F.SCR_STATUS.PENDING_ENABLE : Field := ⟨0x190010, 3, 1⟩
abbrev F.SCR_STATUS.POS : Field := ⟨0x190010, 6, 33⟩
abbrev F.SCR_STATUS.PASSES : Field := ⟨0x190010, 48, 16⟩
abbrev F.SCR_ERR.UNCORRECTABLE : Field := ⟨0x190018, 0, 1⟩
abbrev F.SCR_ERR.REFETCH : Field := ⟨0x190018, 1, 1⟩
abbrev F.SCR_ERR.BEHIND : Field := ⟨0x190018, 2, 1⟩
abbrev F.SCR_COUNTS.CORRECTED : Field := ⟨0x190020, 0, 16⟩
abbrev F.SCR_COUNTS.UNCORRECTABLE : Field := ⟨0x190020, 16, 16⟩
abbrev F.SCR_COUNTS.REFETCH : Field := ⟨0x190020, 32, 16⟩
abbrev F.SCR_COUNTS.LASTING : Field := ⟨0x190020, 48, 16⟩
abbrev F.SCR_LAST.ADDR : Field := ⟨0x190028, 0, 39⟩
abbrev F.SCR_LAST.ACTION : Field := ⟨0x190028, 40, 4⟩
abbrev F.SVY_P_CAM.LANES (p : Nat) : Field := ⟨0x1A0000 + 0x8000 * p, 0, 2⟩
abbrev F.SVY_P_CAM.VC (p : Nat) : Field := ⟨0x1A0000 + 0x8000 * p, 2, 4⟩
abbrev F.SVY_P_CAM.DT (p : Nat) : Field := ⟨0x1A0000 + 0x8000 * p, 6, 6⟩
abbrev F.SVY_P_CAM.LAT (p : Nat) : Field := ⟨0x1A0000 + 0x8000 * p, 12, 3⟩
abbrev F.SVY_P_CAM.FNUM_CHECK (p : Nat) : Field := ⟨0x1A0000 + 0x8000 * p, 15, 1⟩
abbrev F.SVY_P_CAM.WIDTH (p : Nat) : Field := ⟨0x1A0000 + 0x8000 * p, 16, 13⟩
abbrev F.SVY_P_CAM.HEIGHT (p : Nat) : Field := ⟨0x1A0000 + 0x8000 * p, 32, 13⟩
abbrev F.SVY_P_I2C.ADDR (p : Nat) : Field := ⟨0x1A0008 + 0x8000 * p, 0, 7⟩
abbrev F.SVY_P_I2C.FAST (p : Nat) : Field := ⟨0x1A0008 + 0x8000 * p, 7, 1⟩
abbrev F.SVY_P_I2C.START_US (p : Nat) : Field := ⟨0x1A0008 + 0x8000 * p, 8, 8⟩
abbrev F.SVY_P_I2C.GUARD (p : Nat) : Field := ⟨0x1A0008 + 0x8000 * p, 16, 8⟩
abbrev F.SVY_P_I2C.FRAME_TIMEOUT (p : Nat) : Field := ⟨0x1A0008 + 0x8000 * p, 24, 8⟩
abbrev F.SVY_P_CTL.ENABLE (p : Nat) : Field := ⟨0x1A0010 + 0x8000 * p, 0, 1⟩
abbrev F.SVY_P_CTL.FRAME_STORE (p : Nat) : Field := ⟨0x1A0010 + 0x8000 * p, 1, 1⟩
abbrev F.SVY_P_CTL.IRQ_EN (p : Nat) : Field := ⟨0x1A0010 + 0x8000 * p, 2, 1⟩
abbrev F.SVY_P_STATUS.STATE (p : Nat) : Field := ⟨0x1A0018 + 0x8000 * p, 0, 2⟩
abbrev F.SVY_P_STATUS.PENDING_ENABLE (p : Nat) : Field := ⟨0x1A0018 + 0x8000 * p, 2, 1⟩
abbrev F.SVY_P_STATUS.STREAMING (p : Nat) : Field := ⟨0x1A0018 + 0x8000 * p, 3, 1⟩
abbrev F.SVY_P_STATUS.SET (p : Nat) : Field := ⟨0x1A0018 + 0x8000 * p, 16, 16⟩
abbrev F.SVY_P_STATUS.PHASE (p : Nat) : Field := ⟨0x1A0018 + 0x8000 * p, 32, 2⟩
abbrev F.SVY_P_STATUS.UNCERTAIN (p : Nat) : Field := ⟨0x1A0018 + 0x8000 * p, 34, 1⟩
abbrev F.SVY_P_PROC.BLACK (p : Nat) : Field := ⟨0x1A0020 + 0x8000 * p, 0, 14⟩
abbrev F.SVY_P_PROC.MERGE (p : Nat) : Field := ⟨0x1A0020 + 0x8000 * p, 14, 2⟩
abbrev F.SVY_P_PROC.SHIFT (p : Nat) : Field := ⟨0x1A0020 + 0x8000 * p, 16, 4⟩
abbrev F.SVY_P_PROC.SAT (p : Nat) : Field := ⟨0x1A0020 + 0x8000 * p, 32, 16⟩
abbrev F.SVY_P_RATIO.RATIO1 (p : Nat) : Field := ⟨0x1A0028 + 0x8000 * p, 0, 16⟩
abbrev F.SVY_P_RATIO.RATIO2 (p : Nat) : Field := ⟨0x1A0028 + 0x8000 * p, 16, 16⟩
abbrev F.SVY_P_ZONE.X0 (p : Nat) : Field := ⟨0x1A0030 + 0x8000 * p, 0, 12⟩
abbrev F.SVY_P_ZONE.Y0 (p : Nat) : Field := ⟨0x1A0030 + 0x8000 * p, 12, 12⟩
abbrev F.SVY_P_ZONE.ZX (p : Nat) : Field := ⟨0x1A0030 + 0x8000 * p, 24, 7⟩
abbrev F.SVY_P_ZONE.ZY (p : Nat) : Field := ⟨0x1A0030 + 0x8000 * p, 32, 7⟩
abbrev F.SVY_P_ZONE.ZW (p : Nat) : Field := ⟨0x1A0030 + 0x8000 * p, 40, 12⟩
abbrev F.SVY_P_ZONE.ZH (p : Nat) : Field := ⟨0x1A0030 + 0x8000 * p, 52, 12⟩
abbrev F.SVY_P_DEFECT_CTL.COUNT (p : Nat) : Field := ⟨0x1A0038 + 0x8000 * p, 0, 13⟩
abbrev F.SVY_P_DEFECT_CTL.SWAP (p : Nat) : Field := ⟨0x1A0038 + 0x8000 * p, 16, 1⟩
abbrev F.SVY_P_DEFECT_CTL.SWAP_PENDING (p : Nat) : Field := ⟨0x1A0038 + 0x8000 * p, 17, 1⟩
abbrev F.SVY_P_DEFECT_CTL.REFUSED (p : Nat) : Field := ⟨0x1A0038 + 0x8000 * p, 18, 1⟩
abbrev F.SVY_P_SET_SUBMIT.ADDR (p : Nat) : Field := ⟨0x1A0040 + 0x8000 * p, 7, 15⟩
abbrev F.SVY_P_SET_STATUS.QUEUED (p : Nat) : Field := ⟨0x1A0048 + 0x8000 * p, 0, 3⟩
abbrev F.SVY_P_SET_STATUS.CAUSE (p : Nat) : Field := ⟨0x1A0048 + 0x8000 * p, 4, 4⟩
abbrev F.SVY_P_SET_STATUS.ACCEPTED (p : Nat) : Field := ⟨0x1A0048 + 0x8000 * p, 16, 16⟩
abbrev F.SVY_P_SET_STATUS.SENDING (p : Nat) : Field := ⟨0x1A0048 + 0x8000 * p, 32, 16⟩
abbrev F.SVY_P_SET_STATUS.UNCERTAIN (p : Nat) : Field := ⟨0x1A0048 + 0x8000 * p, 48, 16⟩
abbrev F.SVY_P_REC_RING.BASE (p : Nat) : Field := ⟨0x1A0050 + 0x8000 * p, 20, 19⟩
abbrev F.SVY_P_REC_RING.LOG2 (p : Nat) : Field := ⟨0x1A0050 + 0x8000 * p, 39, 5⟩
abbrev F.SVY_P_FRAME_RING.BASE (p : Nat) : Field := ⟨0x1A0058 + 0x8000 * p, 20, 19⟩
abbrev F.SVY_P_FRAME_RING.COUNT (p : Nat) : Field := ⟨0x1A0058 + 0x8000 * p, 39, 4⟩
abbrev F.SVY_P_FRAME_RING.STRIDE (p : Nat) : Field := ⟨0x1A0058 + 0x8000 * p, 43, 8⟩
abbrev F.SVY_P_POS.REC_NEXT (p : Nat) : Field := ⟨0x1A0060 + 0x8000 * p, 0, 32⟩
abbrev F.SVY_P_POS.FRAME_NEXT (p : Nat) : Field := ⟨0x1A0060 + 0x8000 * p, 32, 32⟩
abbrev F.SVY_P_ACK.REC (p : Nat) : Field := ⟨0x1A0068 + 0x8000 * p, 0, 32⟩
abbrev F.SVY_P_ACK.FRAME (p : Nat) : Field := ⟨0x1A0068 + 0x8000 * p, 32, 32⟩
abbrev F.SVY_P_ERR.HEADER (p : Nat) : Field := ⟨0x1A0070 + 0x8000 * p, 0, 1⟩
abbrev F.SVY_P_ERR.CRC (p : Nat) : Field := ⟨0x1A0070 + 0x8000 * p, 1, 1⟩
abbrev F.SVY_P_ERR.FRAME_BAD (p : Nat) : Field := ⟨0x1A0070 + 0x8000 * p, 2, 1⟩
abbrev F.SVY_P_ERR.FOREIGN (p : Nat) : Field := ⟨0x1A0070 + 0x8000 * p, 3, 1⟩
abbrev F.SVY_P_ERR.GAP (p : Nat) : Field := ⟨0x1A0070 + 0x8000 * p, 4, 1⟩
abbrev F.SVY_P_ERR.I2C (p : Nat) : Field := ⟨0x1A0070 + 0x8000 * p, 5, 1⟩
abbrev F.SVY_P_ERR.LIST_LATE (p : Nat) : Field := ⟨0x1A0070 + 0x8000 * p, 6, 1⟩
abbrev F.SVY_P_ERR.SET_REFUSED (p : Nat) : Field := ⟨0x1A0070 + 0x8000 * p, 7, 1⟩
abbrev F.SVY_P_ERR.REC_DROP (p : Nat) : Field := ⟨0x1A0070 + 0x8000 * p, 8, 1⟩
abbrev F.SVY_P_ERR.FRAME_DROP (p : Nat) : Field := ⟨0x1A0070 + 0x8000 * p, 9, 1⟩
abbrev F.SVY_P_ERR.GROUP_DROP (p : Nat) : Field := ⟨0x1A0070 + 0x8000 * p, 10, 1⟩
abbrev F.SVY_P_ERR.CONFIG (p : Nat) : Field := ⟨0x1A0070 + 0x8000 * p, 11, 1⟩
abbrev F.SVY_P_ERR.ACK_INVALID (p : Nat) : Field := ⟨0x1A0070 + 0x8000 * p, 12, 1⟩
abbrev F.SVY_P_ERR.DPHY (p : Nat) : Field := ⟨0x1A0070 + 0x8000 * p, 13, 1⟩
abbrev F.SVY_P_COUNTS.FRAMES (p : Nat) : Field := ⟨0x1A0078 + 0x8000 * p, 0, 16⟩
abbrev F.SVY_P_COUNTS.FOREIGN_FRAME (p : Nat) : Field := ⟨0x1A0078 + 0x8000 * p, 16, 16⟩
abbrev F.SVY_P_COUNTS.FOREIGN_PKT (p : Nat) : Field := ⟨0x1A0078 + 0x8000 * p, 32, 16⟩
abbrev F.SVY_P_COUNTS.BAD (p : Nat) : Field := ⟨0x1A0078 + 0x8000 * p, 48, 8⟩
abbrev F.SVY_P_COUNTS.DROPPED (p : Nat) : Field := ⟨0x1A0078 + 0x8000 * p, 56, 8⟩
abbrev F.SVY_P_LAST_FOREIGN.VC (p : Nat) : Field := ⟨0x1A0080 + 0x8000 * p, 0, 4⟩
abbrev F.SVY_P_LAST_FOREIGN.DT (p : Nat) : Field := ⟨0x1A0080 + 0x8000 * p, 4, 6⟩
abbrev F.SVY_P_LIN.ENTRY0 (p : Nat) (w : Nat) : Field := ⟨0x1A2000 + 0x8000 * p + 0x4 * w, 0, 16⟩
abbrev F.SVY_P_LIN.ENTRY1 (p : Nat) (w : Nat) : Field := ⟨0x1A2000 + 0x8000 * p + 0x4 * w, 16, 16⟩
abbrev F.SVY_P_DEFECT.X (p : Nat) (i : Nat) : Field := ⟨0x1A4000 + 0x8000 * p + 0x4 * i, 0, 12⟩
abbrev F.SVY_P_DEFECT.Y (p : Nat) (i : Nat) : Field := ⟨0x1A4000 + 0x8000 * p + 0x4 * i, 16, 12⟩
abbrev F.AXM_CFG.VMAX (a : Nat) : Field := ⟨0x1B0000 + 0x20 * a, 0, 22⟩
abbrev F.AXM_CFG.DIR_POS (a : Nat) : Field := ⟨0x1B0000 + 0x20 * a, 22, 1⟩
abbrev F.AXM_CFG.ENA_STOP (a : Nat) : Field := ⟨0x1B0000 + 0x20 * a, 23, 1⟩
abbrev F.AXM_CFG.PRESENT (a : Nat) : Field := ⟨0x1B0000 + 0x20 * a, 24, 1⟩
abbrev F.AXM_CFG.HOME_REQ (a : Nat) : Field := ⟨0x1B0000 + 0x20 * a, 25, 1⟩
abbrev F.AXM_CFG.AMAX (a : Nat) : Field := ⟨0x1B0000 + 0x20 * a, 32, 32⟩
abbrev F.AXM_SOFT.MIN (a : Nat) : Field := ⟨0x1B0008 + 0x20 * a, 0, 32⟩
abbrev F.AXM_SOFT.MAX (a : Nat) : Field := ⟨0x1B0008 + 0x20 * a, 32, 32⟩
abbrev F.AXM_HOME.FAST (a : Nat) : Field := ⟨0x1B0010 + 0x20 * a, 0, 20⟩
abbrev F.AXM_HOME.SLOW (a : Nat) : Field := ⟨0x1B0010 + 0x20 * a, 20, 16⟩
abbrev F.AXM_HOME.SEARCH_MAX (a : Nat) : Field := ⟨0x1B0010 + 0x20 * a, 40, 24⟩
abbrev F.AXM_HOMEPOS.HOME_VALUE (a : Nat) : Field := ⟨0x1B0018 + 0x20 * a, 0, 32⟩
abbrev F.AXM_HOMEPOS.BACKOFF_MAX (a : Nat) : Field := ⟨0x1B0018 + 0x20 * a, 32, 24⟩
abbrev F.AXM_TIMING.PULSE : Field := ⟨0x1B0100, 0, 8⟩
abbrev F.AXM_TIMING.DIR_SETUP : Field := ⟨0x1B0100, 8, 8⟩
abbrev F.AXM_TIMING.DIR_HOLD : Field := ⟨0x1B0100, 16, 8⟩
abbrev F.AXM_TIMING.IN_FILTER : Field := ⟨0x1B0100, 24, 8⟩
abbrev F.AXM_RELEASE.RELEASE : Field := ⟨0x1B0108, 0, 16⟩
abbrev F.AXM_CTL.ENABLE : Field := ⟨0x1B0200, 0, 1⟩
abbrev F.AXM_CTL.CLEAR : Field := ⟨0x1B0200, 1, 1⟩
abbrev F.AXM_CMD.WORD (w : Nat) : Field := ⟨0x1B0210 + 0x8 * w, 0, 64⟩
abbrev F.AXM_PUSH.PUSH : Field := ⟨0x1B0240, 0, 1⟩
abbrev F.AXM_STATUS.STATE : Field := ⟨0x1B0250, 0, 3⟩
abbrev F.AXM_STATUS.PENDING_ENABLE : Field := ⟨0x1B0250, 3, 1⟩
abbrev F.AXM_STATUS.QUEUED : Field := ⟨0x1B0250, 4, 5⟩
abbrev F.AXM_STATUS.CAUSE : Field := ⟨0x1B0250, 12, 4⟩
abbrev F.AXM_STATUS.TAG : Field := ⟨0x1B0250, 16, 16⟩
abbrev F.AXM_POS.POS (a : Nat) : Field := ⟨0x1B0300 + 0x8 * a, 0, 32⟩
abbrev F.AXM_POS.HOMED (a : Nat) : Field := ⟨0x1B0300 + 0x8 * a, 32, 1⟩
abbrev F.AXM_POS.MOVING (a : Nat) : Field := ⟨0x1B0300 + 0x8 * a, 33, 1⟩
abbrev F.AXM_POS.LIMP (a : Nat) : Field := ⟨0x1B0300 + 0x8 * a, 34, 1⟩
abbrev F.AXM_POS.LIMM (a : Nat) : Field := ⟨0x1B0300 + 0x8 * a, 35, 1⟩
abbrev F.AXM_POS.HOME (a : Nat) : Field := ⟨0x1B0300 + 0x8 * a, 36, 1⟩
abbrev F.AXM_ERR.REFUSED : Field := ⟨0x1B0400, 0, 1⟩
abbrev F.AXM_ERR.CLAMPED : Field := ⟨0x1B0400, 1, 1⟩
abbrev F.AXM_ERR.LIMIT_STOP : Field := ⟨0x1B0400, 2, 1⟩
abbrev F.AXM_ERR.LIMIT_BOTH : Field := ⟨0x1B0400, 3, 1⟩
abbrev F.AXM_ERR.LIMIT_STUCK : Field := ⟨0x1B0400, 4, 1⟩
abbrev F.AXM_ERR.STOP_INPUT : Field := ⟨0x1B0400, 5, 1⟩
abbrev F.AXM_ERR.STEP_MISMATCH : Field := ⟨0x1B0400, 6, 1⟩
abbrev F.AXM_ERR.HOME_NOT_FOUND : Field := ⟨0x1B0400, 7, 1⟩
abbrev F.AXM_ERR.HOME_STUCK : Field := ⟨0x1B0400, 8, 1⟩
abbrev F.AXM_ERR.CLEAR_IGNORED : Field := ⟨0x1B0400, 9, 1⟩
abbrev F.AXM_COUNTS.STOPS : Field := ⟨0x1B0408, 0, 16⟩
abbrev F.AXM_COUNTS.CHATTER : Field := ⟨0x1B0408, 16, 16⟩
abbrev F.AXM_COUNTS.DISCARDED : Field := ⟨0x1B0408, 32, 16⟩
abbrev F.AXM_COUNTS.COMMANDS : Field := ⟨0x1B0408, 48, 16⟩
abbrev F.AXM_LAST_STOP.AXES : Field := ⟨0x1B0410, 0, 6⟩
abbrev F.AXM_LAST_STOP.CAUSE : Field := ⟨0x1B0410, 6, 4⟩
abbrev F.AXM_LAST_STOP.AXIS : Field := ⟨0x1B0410, 10, 3⟩
abbrev F.AXM_LAST_STOP.TIME_NS : Field := ⟨0x1B0410, 32, 32⟩
abbrev F.TIM_CFG.TB1_SOURCE : Field := ⟨0x1C0000, 0, 2⟩
abbrev F.TIM_CFG.BOUNDARY : Field := ⟨0x1C0000, 2, 1⟩
abbrev F.TIM_CFG.PORT_EN : Field := ⟨0x1C0000, 3, 2⟩
abbrev F.TIM_CFG.TRANSPORT : Field := ⟨0x1C0000, 5, 2⟩
abbrev F.TIM_CFG.P2P : Field := ⟨0x1C0000, 7, 1⟩
abbrev F.TIM_CFG.HOLD : Field := ⟨0x1C0000, 8, 8⟩
abbrev F.TIM_CFG.NODE_ID : Field := ⟨0x1C0000, 16, 14⟩
abbrev F.TIM_CFG.IKL_ASYM : Field := ⟨0x1C0000, 32, 16⟩
abbrev F.TIM_CLOCK_ID.ID : Field := ⟨0x1C0008, 0, 64⟩
abbrev F.TIM_LATENCY.RX0 : Field := ⟨0x1C0010, 0, 16⟩
abbrev F.TIM_LATENCY.TX0 : Field := ⟨0x1C0010, 16, 16⟩
abbrev F.TIM_LATENCY.RX1 : Field := ⟨0x1C0010, 32, 16⟩
abbrev F.TIM_LATENCY.TX1 : Field := ⟨0x1C0010, 48, 16⟩
abbrev F.TIM_SERVO.KP (b : Nat) : Field := ⟨0x1C0020 + 0x8 * b, 0, 16⟩
abbrev F.TIM_SERVO.KI (b : Nat) : Field := ⟨0x1C0020 + 0x8 * b, 16, 16⟩
abbrev F.TIM_SERVO.STEP_NS (b : Nat) : Field := ⟨0x1C0020 + 0x8 * b, 32, 16⟩
abbrev F.TIM_SERVO.LOCK_NS (b : Nat) : Field := ⟨0x1C0020 + 0x8 * b, 48, 8⟩
abbrev F.TIM_SERVO.MAX_PPM (b : Nat) : Field := ⟨0x1C0020 + 0x8 * b, 56, 8⟩
abbrev F.TIM_SAMPLE.OFFSET (b : Nat) : Field := ⟨0x1C0040 + 0x8 * b, 0, 48⟩
abbrev F.TIM_SAMPLE.STEP (b : Nat) : Field := ⟨0x1C0040 + 0x8 * b, 48, 1⟩
abbrev F.TIM_SET.SEC (b : Nat) : Field := ⟨0x1C0050 + 0x8 * b, 0, 48⟩
abbrev F.TIM_STATUS.TB0_STATE : Field := ⟨0x1C0070, 0, 2⟩
abbrev F.TIM_STATUS.TB1_STATE : Field := ⟨0x1C0070, 2, 2⟩
abbrev F.TIM_STATUS.TB1_STEP_PENDING : Field := ⟨0x1C0070, 4, 1⟩
abbrev F.TIM_STATUS.TB1_ON_TB0 : Field := ⟨0x1C0070, 5, 1⟩
abbrev F.TIM_STATUS.TXTS_COUNT : Field := ⟨0x1C0070, 8, 5⟩
abbrev F.TIM_STATUS.ETH0_LINK : Field := ⟨0x1C0070, 13, 1⟩
abbrev F.TIM_STATUS.ETH1_LINK : Field := ⟨0x1C0070, 14, 1⟩
abbrev F.TIM_ERR.TX_TS_OVF : Field := ⟨0x1C0078, 0, 1⟩
abbrev F.TIM_ERR.STEP_DEFERRED : Field := ⟨0x1C0078, 1, 1⟩
abbrev F.TIM_ERR.SAMPLE_IGNORED : Field := ⟨0x1C0078, 2, 1⟩
abbrev F.TIM_ERR.HOLDOVER0 : Field := ⟨0x1C0078, 3, 1⟩
abbrev F.TIM_ERR.HOLDOVER1 : Field := ⟨0x1C0078, 4, 1⟩
abbrev F.TIM_ERR.RX_DROP : Field := ⟨0x1C0078, 5, 1⟩
abbrev F.TIM_ERR.TX_DROP : Field := ⟨0x1C0078, 6, 1⟩
abbrev F.TIM_ERR.SAMPLE_DISCARDED : Field := ⟨0x1C0078, 7, 1⟩
abbrev F.TIM_COUNTS.TS_LOST : Field := ⟨0x1C0080, 0, 16⟩
abbrev F.TIM_COUNTS.RX_DROP : Field := ⟨0x1C0080, 16, 16⟩
abbrev F.TIM_COUNTS.TX_DROP : Field := ⟨0x1C0080, 32, 16⟩
abbrev F.TIM_COUNTS.STEPS : Field := ⟨0x1C0080, 48, 16⟩
abbrev F.TIM_SERVO_STATE.ADJ (b : Nat) : Field := ⟨0x1C0088 + 0x8 * b, 0, 32⟩
abbrev F.TIM_SERVO_STATE.LAST (b : Nat) : Field := ⟨0x1C0088 + 0x8 * b, 32, 32⟩
abbrev F.TIM_TB_SEC.SEC (n : Nat) : Field := ⟨0x1C0100 + 0x10 * n, 0, 48⟩
abbrev F.TIM_TB_NS.NS (n : Nat) : Field := ⟨0x1C0108 + 0x10 * n, 0, 30⟩
abbrev F.TIM_TB_NS.FRAC (n : Nat) : Field := ⟨0x1C0108 + 0x10 * n, 32, 16⟩
abbrev F.TIM_TXTS_LO.NS : Field := ⟨0x1C0200, 0, 30⟩
abbrev F.TIM_TXTS_LO.PORT : Field := ⟨0x1C0200, 30, 1⟩
abbrev F.TIM_TXTS_LO.VALID : Field := ⟨0x1C0200, 31, 1⟩
abbrev F.TIM_TXTS_LO.ID : Field := ⟨0x1C0200, 32, 16⟩
abbrev F.TIM_TXTS_LO.FRAC : Field := ⟨0x1C0200, 48, 16⟩
abbrev F.TIM_TXTS_HI.SEC : Field := ⟨0x1C0208, 0, 48⟩
abbrev F.TIM_ETH_CFG.MAC (p : Nat) : Field := ⟨0x1C0300 + 0x20 * p, 0, 48⟩
abbrev F.TIM_ETH_CFG.RING (p : Nat) : Field := ⟨0x1C0300 + 0x20 * p, 48, 5⟩
abbrev F.TIM_ETH_RX.HEAD (p : Nat) : Field := ⟨0x1C0308 + 0x20 * p, 0, 6⟩
abbrev F.TIM_ETH_RX.TAIL (p : Nat) : Field := ⟨0x1C0308 + 0x20 * p, 8, 6⟩
abbrev F.TIM_ETH_TX.ADDR (p : Nat) : Field := ⟨0x1C0310 + 0x20 * p, 0, 22⟩
abbrev F.TIM_ETH_TX.LEN (p : Nat) : Field := ⟨0x1C0310 + 0x20 * p, 22, 11⟩
abbrev F.TIM_ETH_TX.TS_REQ (p : Nat) : Field := ⟨0x1C0310 + 0x20 * p, 33, 1⟩
abbrev F.TIM_ETH_TX.ID (p : Nat) : Field := ⟨0x1C0310 + 0x20 * p, 48, 16⟩
abbrev F.TWN_CFG.MODE : Field := ⟨0x1D0000, 0, 1⟩
abbrev F.TWN_CFG.ROLE : Field := ⟨0x1D0000, 1, 1⟩
abbrev F.TWN_CFG.HB_TIMEOUT : Field := ⟨0x1D0000, 8, 5⟩
abbrev F.TWN_CFG.LOCK_TOL : Field := ⟨0x1D0000, 16, 3⟩
abbrev F.TWN_CFG.ALONE_WAIT : Field := ⟨0x1D0000, 24, 8⟩
abbrev F.TWN_CTL.YIELD : Field := ⟨0x1D0008, 0, 1⟩
abbrev F.TWN_STATUS.STATE : Field := ⟨0x1D0010, 0, 3⟩
abbrev F.TWN_STATUS.AUTH : Field := ⟨0x1D0010, 3, 1⟩
abbrev F.TWN_STATUS.PEER_AUTH : Field := ⟨0x1D0010, 4, 1⟩
abbrev F.TWN_STATUS.PEER_FAIL : Field := ⟨0x1D0010, 5, 1⟩
abbrev F.TWN_STATUS.STRAP_ROLE : Field := ⟨0x1D0010, 6, 1⟩
abbrev F.TWN_STATUS.DIVERGED : Field := ⟨0x1D0010, 7, 1⟩
abbrev F.TWN_STATUS.YIELD_PENDING : Field := ⟨0x1D0010, 8, 1⟩
abbrev F.TWN_STATUS.PAIRED_LEAF : Field := ⟨0x1D0010, 16, 16⟩
abbrev F.TWN_PEER.NODE_ID : Field := ⟨0x1D0018, 0, 14⟩
abbrev F.TWN_PEER.ROLE : Field := ⟨0x1D0018, 14, 1⟩
abbrev F.TWN_PEER.AGREED : Field := ⟨0x1D0018, 15, 1⟩
abbrev F.TWN_PEER.CAT_HASH : Field := ⟨0x1D0018, 32, 32⟩
abbrev F.TWN_PEER_POS.SLOT : Field := ⟨0x1D0020, 0, 32⟩
abbrev F.TWN_PEER_POS.LEAF : Field := ⟨0x1D0020, 32, 16⟩
abbrev F.TWN_PEER_POS.STATE : Field := ⟨0x1D0020, 48, 3⟩
abbrev F.TWN_ERR.HB_LOST : Field := ⟨0x1D0028, 0, 1⟩
abbrev F.TWN_ERR.DIGEST_MISMATCH : Field := ⟨0x1D0028, 1, 1⟩
abbrev F.TWN_ERR.DIGEST_LATE : Field := ⟨0x1D0028, 2, 1⟩
abbrev F.TWN_ERR.LOCKSTEP : Field := ⟨0x1D0028, 3, 1⟩
abbrev F.TWN_ERR.PAIR_FAULT : Field := ⟨0x1D0028, 4, 1⟩
abbrev F.TWN_ERR.DIVERGED : Field := ⟨0x1D0028, 5, 1⟩
abbrev F.TWN_ERR.BOTH_AUTH : Field := ⟨0x1D0028, 6, 1⟩
abbrev F.TWN_ERR.TAKEOVER : Field := ⟨0x1D0028, 7, 1⟩
abbrev F.TWN_ERR.COMMIT_DIFFER : Field := ⟨0x1D0028, 8, 1⟩
abbrev F.TWN_COUNTS.MISMATCH : Field := ⟨0x1D0030, 0, 16⟩
abbrev F.TWN_COUNTS.DIGEST_LATE : Field := ⟨0x1D0030, 16, 16⟩
abbrev F.TWN_COUNTS.HB_MISSED : Field := ⟨0x1D0030, 32, 16⟩
abbrev F.TWN_COUNTS.TAKEOVERS : Field := ⟨0x1D0030, 48, 8⟩
abbrev F.TWN_COUNTS.DIVERGED : Field := ⟨0x1D0030, 56, 8⟩
abbrev F.TWN_LAST_MISMATCH.TROW : Field := ⟨0x1D0038, 0, 32⟩
abbrev F.TWN_LAST_MISMATCH.TCOL : Field := ⟨0x1D0038, 32, 6⟩
abbrev F.TWN_LAST_MISMATCH.LEAF : Field := ⟨0x1D0038, 40, 16⟩
abbrev F.TWN_LAST_TAKEOVER.FIRST_SLOT : Field := ⟨0x1D0040, 0, 32⟩
abbrev F.TWN_LAST_TAKEOVER.LEAF : Field := ⟨0x1D0040, 32, 16⟩
abbrev F.TWN_LAST_TAKEOVER.SLOTS : Field := ⟨0x1D0040, 48, 16⟩
abbrev F.IKL_CTL.ENABLE : Field := ⟨0x170000, 0, 1⟩
abbrev F.IKL_CTL.STEP_UP : Field := ⟨0x170000, 1, 1⟩
abbrev F.IKL_CTL.RETRAIN : Field := ⟨0x170000, 2, 1⟩
abbrev F.IKL_STATUS.STATE : Field := ⟨0x170008, 0, 4⟩
abbrev F.IKL_STATUS.RATE : Field := ⟨0x170008, 4, 2⟩
abbrev F.IKL_STATUS.READY : Field := ⟨0x170008, 6, 1⟩
abbrev F.IKL_STATUS.PENDING_ENABLE : Field := ⟨0x170008, 7, 1⟩
abbrev F.IKL_STATUS.FAILED_RATES : Field := ⟨0x170008, 8, 3⟩
abbrev F.IKL_STATUS.LOCK : Field := ⟨0x170008, 16, 8⟩
abbrev F.IKL_ERR.CHECK : Field := ⟨0x170010, 0, 1⟩
abbrev F.IKL_ERR.RECOVERY : Field := ⟨0x170010, 1, 1⟩
abbrev F.IKL_ERR.RATE_FALLBACK : Field := ⟨0x170010, 2, 1⟩
abbrev F.IKL_COUNTS.CHECK : Field := ⟨0x170018, 0, 16⟩
abbrev F.IKL_COUNTS.RECOVERIES : Field := ⟨0x170018, 16, 16⟩
abbrev F.BOOT_CFG.PLATE_WAIT : Field := ⟨0x0, 0, 8⟩
abbrev F.BOOT_CFG.SAFE_RESTART : Field := ⟨0x0, 8, 1⟩
abbrev F.BOOT_CFG.SAFE_HOLD : Field := ⟨0x0, 16, 8⟩
abbrev F.BOOT_STATUS.MODE : Field := ⟨0x8, 0, 3⟩
abbrev F.BOOT_STATUS.STEP : Field := ⟨0x8, 3, 4⟩
abbrev F.BOOT_STATUS.SLOT : Field := ⟨0x8, 7, 1⟩
abbrev F.BOOT_STATUS.FALLBACK : Field := ⟨0x8, 8, 1⟩
abbrev F.BOOT_STATUS.MRAM_ABSENT : Field := ⟨0x8, 9, 1⟩
abbrev F.BOOT_STATUS.UNCLEAN : Field := ⟨0x8, 10, 1⟩
abbrev F.BOOT_STATUS.QUIESCED : Field := ⟨0x8, 11, 1⟩
abbrev F.BOOT_STATUS.RUN_WAIT : Field := ⟨0x8, 16, 7⟩
abbrev F.BOOT_REASON.RESET : Field := ⟨0x10, 0, 3⟩
abbrev F.BOOT_REASON.LAST_FAIL : Field := ⟨0x10, 8, 8⟩
abbrev F.BOOT_REASON.ATTEMPTS : Field := ⟨0x10, 16, 2⟩
abbrev F.BOOT_REASON.STORAGE : Field := ⟨0x10, 18, 1⟩
abbrev F.BOOT_REASON.FAIL_AGE : Field := ⟨0x10, 32, 32⟩
abbrev F.BOOT_CAT.SEQUENCE : Field := ⟨0x18, 0, 32⟩
abbrev F.BOOT_CAT.CAT_HASH : Field := ⟨0x18, 32, 32⟩
abbrev F.BOOT_CTL.QUIESCE : Field := ⟨0x20, 0, 1⟩
abbrev F.BOOT_CTL.RESTART : Field := ⟨0x20, 1, 1⟩
abbrev F.BOOT_CTL.CLEAR_ATTEMPTS : Field := ⟨0x20, 2, 1⟩
abbrev F.BOOT_FUSE.KEY_SET : Field := ⟨0x28, 0, 4⟩
abbrev F.BOOT_FUSE.KEY_REVOKED : Field := ⟨0x28, 4, 4⟩
abbrev F.BOOT_FUSE.KEY_USED : Field := ⟨0x28, 8, 2⟩
abbrev F.BOOT_FUSE_DATA.HASH (i : Nat) : Field := ⟨0x30 + 0x8 * i, 0, 64⟩
abbrev F.BOOT_FUSE_PROG.SLOT : Field := ⟨0x50, 0, 2⟩
abbrev F.BOOT_FUSE_PROG.PROGRAM : Field := ⟨0x50, 2, 1⟩
abbrev F.BOOT_FUSE_PROG.REVOKE : Field := ⟨0x50, 3, 1⟩
abbrev F.BOOT_FLASH_ADDR.ADDR : Field := ⟨0x58, 0, 28⟩
abbrev F.BOOT_FLASH_CMD.OP : Field := ⟨0x60, 0, 2⟩
abbrev F.BOOT_FLASH_CMD.LEN : Field := ⟨0x60, 16, 13⟩
abbrev F.BOOT_FLASH_STATUS.STATE : Field := ⟨0x68, 0, 2⟩
abbrev F.BOOT_FLASH_STATUS.CAUSE : Field := ⟨0x68, 4, 4⟩
abbrev F.CLK_MON_CFG.WINDOW : Field := ⟨0x10000, 0, 16⟩
abbrev F.CLK_STATUS.ROOT_LOCK : Field := ⟨0x10008, 0, 1⟩
abbrev F.CLK_STATUS.MON_OK : Field := ⟨0x10008, 1, 5⟩
abbrev F.CLK_STATUS.REF_OK : Field := ⟨0x10008, 6, 1⟩
abbrev F.CLK_STATUS.LANE_LOCK : Field := ⟨0x10008, 7, 6⟩
abbrev F.CLK_ERR.ROOT_UNLOCK : Field := ⟨0x10010, 0, 1⟩
abbrev F.CLK_ERR.MON_FAULT : Field := ⟨0x10010, 1, 5⟩
abbrev F.CLK_ERR.REF_FAULT : Field := ⟨0x10010, 6, 1⟩
abbrev F.CLK_ERR.LANE_UNLOCK : Field := ⟨0x10010, 7, 6⟩
abbrev F.CLK_LAST.DEVIATION : Field := ⟨0x10018, 0, 16⟩
abbrev F.CLK_LAST.CLOCK : Field := ⟨0x10018, 16, 4⟩
abbrev F.SAF_CFG.WDOG_US : Field := ⟨0x1E0000, 0, 16⟩
abbrev F.SAF_CFG.DIE_SOFT : Field := ⟨0x1E0000, 16, 8⟩
abbrev F.SAF_CFG.DIE_HARD : Field := ⟨0x1E0000, 24, 8⟩
abbrev F.SAF_CFG.LATENT_H : Field := ⟨0x1E0000, 32, 8⟩
abbrev F.SAF_WDOG.KICK : Field := ⟨0x1E0008, 0, 16⟩
abbrev F.SAF_DEMAND.DEMAND : Field := ⟨0x1E0010, 0, 1⟩
abbrev F.SAF_STATUS.STATE : Field := ⟨0x1E0018, 0, 2⟩
abbrev F.SAF_STATUS.BLANK_DRIVE : Field := ⟨0x1E0018, 2, 1⟩
abbrev F.SAF_STATUS.FIRST_CAUSE : Field := ⟨0x1E0018, 8, 8⟩
abbrev F.SAF_STATUS.DIE_MAX : Field := ⟨0x1E0018, 16, 8⟩
abbrev F.SAF_CAUSES.SEEN : Field := ⟨0x1E0020, 1, 14⟩
abbrev F.SAF_ENTRY.TIME_S : Field := ⟨0x1E0028, 0, 32⟩
abbrev F.SAF_ENTRY.TIME_NS : Field := ⟨0x1E0028, 32, 30⟩
abbrev F.SAF_LATENT.NEXT_GROUP : Field := ⟨0x1E0030, 0, 3⟩
abbrev F.SAF_LATENT.FAIL_TEST : Field := ⟨0x1E0030, 4, 4⟩
abbrev F.SAF_LATENT.CYCLE_AGE : Field := ⟨0x1E0030, 16, 32⟩
abbrev F.SAF_LATENT.CYCLES : Field := ⟨0x1E0030, 48, 16⟩
abbrev F.SAF_ERR.DIE_SOFT : Field := ⟨0x1E0038, 0, 1⟩
abbrev F.SAF_ERR.LATENT_OVERDUE : Field := ⟨0x1E0038, 1, 1⟩
abbrev F.SAF_ERR.LATENT_SKIPPED : Field := ⟨0x1E0038, 2, 1⟩
abbrev F.SAF_ERR.LASTING : Field := ⟨0x1E0038, 3, 1⟩
abbrev F.SAF_LASTING.SOURCE : Field := ⟨0x1E0040, 0, 4⟩
abbrev F.SAF_LASTING.INSTANCE : Field := ⟨0x1E0040, 8, 33⟩
abbrev F.SAF_COUNTS.LASTING : Field := ⟨0x1E0048, 0, 16⟩
abbrev F.SAF_COUNTS.GROUPS : Field := ⟨0x1E0048, 16, 16⟩
abbrev F.SAF_COUNTS.DIE_SOFT : Field := ⟨0x1E0048, 32, 16⟩
abbrev F.SAF_BUCKET.N (k : Nat) : Field := ⟨0x1E0100 + 0x8 * k, 0, 8⟩
abbrev F.SAF_BUCKET.W_MS (k : Nat) : Field := ⟨0x1E0100 + 0x8 * k, 16, 32⟩
abbrev F.KPR_STATUS.STATE : Field := ⟨0x1F0000, 0, 2⟩
abbrev F.KPR_STATUS.QUEUED : Field := ⟨0x1F0000, 8, 5⟩
abbrev F.KPR_REQ.WORD (w : Nat) : Field := ⟨0x1F0010 + 0x8 * w, 0, 64⟩
abbrev F.KPR_REQ_PUSH.PUSH : Field := ⟨0x1F0030, 0, 1⟩
abbrev F.KPR_ERR.FIREWALL : Field := ⟨0x1F0038, 0, 1⟩
abbrev F.KPR_ERR.REQ_FULL : Field := ⟨0x1F0038, 1, 1⟩
abbrev F.KPR_ERR.REQ_REFUSED : Field := ⟨0x1F0038, 2, 1⟩
abbrev F.KPR_ERR.SRAM_CORRECTED : Field := ⟨0x1F0038, 3, 1⟩
abbrev F.KPR_COUNTS.FIREWALL : Field := ⟨0x1F0040, 0, 16⟩
abbrev F.KPR_COUNTS.SUPPRESSED : Field := ⟨0x1F0040, 16, 16⟩
abbrev F.KPR_COUNTS.REQUESTS : Field := ⟨0x1F0040, 32, 16⟩
abbrev F.KPR_COUNTS.CORRECTED : Field := ⟨0x1F0040, 48, 16⟩
abbrev F.KPR_FW_LAST.ADDR : Field := ⟨0x1F0048, 0, 39⟩
abbrev F.KPR_FW_LAST.MASTER : Field := ⟨0x1F0048, 39, 3⟩
abbrev F.KPR_FW_LAST.CORE : Field := ⟨0x1F0048, 42, 3⟩
abbrev F.KPR_FW_LAST.KIND : Field := ⟨0x1F0048, 45, 3⟩
abbrev F.DOC_CFG.CORES : Field := ⟨0x200000, 0, 8⟩
abbrev F.DOC_CFG.WDOG_MS : Field := ⟨0x200000, 8, 8⟩
abbrev F.DOC_CFG.RESTART_LIMIT : Field := ⟨0x200000, 16, 4⟩
abbrev F.DOC_CFG.NOTICE : Field := ⟨0x200000, 32, 13⟩
abbrev F.DOC_CTL.RESTART : Field := ⟨0x200008, 0, 1⟩
abbrev F.DOC_STATUS.STATE : Field := ⟨0x200010, 0, 2⟩
abbrev F.DOC_STATUS.CAUSE : Field := ⟨0x200010, 4, 2⟩
abbrev F.DOC_STATUS.CORE : Field := ⟨0x200010, 6, 3⟩
abbrev F.DOC_STATUS.RESTARTS : Field := ⟨0x200010, 16, 4⟩
abbrev F.DOC_STATUS.NOTICE_NEXT : Field := ⟨0x200010, 32, 32⟩
abbrev F.DOC_WDOG.KICK (c : Nat) : Field := ⟨0x200100 + 0x8 * c, 0, 1⟩
abbrev F.DOC_ROUTE.CORE (i : Nat) : Field := ⟨0x200200 + 0x8 * i, 0, 3⟩
abbrev F.DOC_ROUTE.ENABLE (i : Nat) : Field := ⟨0x200200 + 0x8 * i, 3, 1⟩
abbrev F.DOC_ROUTE.PENDING (i : Nat) : Field := ⟨0x200200 + 0x8 * i, 4, 1⟩
abbrev F.DOC_HOSTMB.WORD (m : Nat) (w : Nat) : Field := ⟨0x200400 + 0x20 * m + 0x8 * w, 0, 64⟩
abbrev F.DOC_HOSTMB_FULL.FULL : Field := ⟨0x200500, 0, 8⟩
abbrev F.CRC_U_CLAIM.OWNER (n : Nat) : Field := ⟨0x210000 + 0x100 * n, 0, 4⟩
abbrev F.CRC_U_CFG.PRESET (n : Nat) : Field := ⟨0x210008 + 0x100 * n, 0, 2⟩
abbrev F.CRC_U_CFG.LOAD (n : Nat) : Field := ⟨0x210008 + 0x100 * n, 2, 1⟩
abbrev F.CRC_U_CFG.WIDTH (n : Nat) : Field := ⟨0x210008 + 0x100 * n, 8, 5⟩
abbrev F.CRC_U_CFG.REFIN (n : Nat) : Field := ⟨0x210008 + 0x100 * n, 13, 1⟩
abbrev F.CRC_U_CFG.REFOUT (n : Nat) : Field := ⟨0x210008 + 0x100 * n, 14, 1⟩
abbrev F.CRC_U_CFG.USER (n : Nat) : Field := ⟨0x210008 + 0x100 * n, 15, 1⟩
abbrev F.CRC_U_CFG.RELEASE (n : Nat) : Field := ⟨0x210008 + 0x100 * n, 16, 1⟩
abbrev F.CRC_U_POLY.POLY (n : Nat) : Field := ⟨0x210010 + 0x100 * n, 0, 32⟩
abbrev F.CRC_U_INIT.INIT (n : Nat) : Field := ⟨0x210018 + 0x100 * n, 0, 32⟩
abbrev F.CRC_U_INIT.XOROUT (n : Nat) : Field := ⟨0x210018 + 0x100 * n, 32, 32⟩
abbrev F.CRC_U_DATA8.DATA (n : Nat) : Field := ⟨0x210020 + 0x100 * n, 0, 8⟩
abbrev F.CRC_U_DATA16.DATA (n : Nat) : Field := ⟨0x210028 + 0x100 * n, 0, 16⟩
abbrev F.CRC_U_DATA32.DATA (n : Nat) : Field := ⟨0x210030 + 0x100 * n, 0, 32⟩
abbrev F.CRC_U_STATE.REG (n : Nat) : Field := ⟨0x210038 + 0x100 * n, 0, 32⟩
abbrev F.CRC_U_RESULT.RESULT (n : Nat) : Field := ⟨0x210040 + 0x100 * n, 0, 32⟩
abbrev F.CRC_U_STATUS.BUSY (n : Nat) : Field := ⟨0x210048 + 0x100 * n, 0, 1⟩
abbrev F.CRC_U_STATUS.NOT_OWNER (n : Nat) : Field := ⟨0x210048 + 0x100 * n, 1, 1⟩
abbrev F.ACL_CFG.FREEZE_MAX : Field := ⟨0x220000, 0, 8⟩
abbrev F.ACL_CFG.MRAM_SIZE : Field := ⟨0x220000, 8, 3⟩
abbrev F.ACL_CFG.MRAM_CLK : Field := ⟨0x220000, 11, 1⟩
abbrev F.ACL_CTL.FREEZE : Field := ⟨0x220008, 0, 1⟩
abbrev F.ACL_CTL.SOURCE : Field := ⟨0x220008, 1, 1⟩
abbrev F.ACL_CTL.IRQ_EN : Field := ⟨0x220008, 2, 1⟩
abbrev F.ACL_CURSOR.POS : Field := ⟨0x220010, 0, 32⟩
abbrev F.ACL_STATUS.NEXT : Field := ⟨0x220018, 0, 32⟩
abbrev F.ACL_STATUS.HELD : Field := ⟨0x220018, 32, 14⟩
abbrev F.ACL_STATUS.FROZEN : Field := ⟨0x220018, 46, 1⟩
abbrev F.ACL_STATUS.WINDOW_READY : Field := ⟨0x220018, 47, 1⟩
abbrev F.ACL_STATUS.QUEUED : Field := ⟨0x220018, 48, 9⟩
abbrev F.ACL_COPY.COPIED : Field := ⟨0x220020, 0, 32⟩
abbrev F.ACL_COPY.BOOT : Field := ⟨0x220020, 32, 16⟩
abbrev F.ACL_COPY.EPOCH : Field := ⟨0x220020, 48, 16⟩
abbrev F.ACL_ERR.HOLD_OVERFLOW : Field := ⟨0x220028, 0, 1⟩
abbrev F.ACL_ERR.FREEZE_EXPIRED : Field := ⟨0x220028, 1, 1⟩
abbrev F.ACL_ERR.CURSOR_INVALID : Field := ⟨0x220028, 2, 1⟩
abbrev F.ACL_ERR.COPY_LOST : Field := ⟨0x220028, 3, 1⟩
abbrev F.ACL_ERR.CLEAR_REFUSED : Field := ⟨0x220028, 4, 1⟩
abbrev F.ACL_COUNTS.HOLD_OVERFLOW : Field := ⟨0x220030, 0, 16⟩
abbrev F.ACL_COUNTS.COPY_LOST : Field := ⟨0x220030, 16, 16⟩
abbrev F.ACL_COUNTS.CLEARS : Field := ⟨0x220030, 32, 16⟩
abbrev F.ACL_COUNTS.SUPPRESSED : Field := ⟨0x220030, 48, 16⟩
abbrev F.ACL_CHALLENGE.BYTES (w : Nat) : Field := ⟨0x220040 + 0x8 * w, 0, 64⟩
abbrev F.ACL_CLEAR_SIG.BYTES (w : Nat) : Field := ⟨0x220050 + 0x8 * w, 0, 64⟩
abbrev F.ACL_CLEAR_REQ.OP : Field := ⟨0x220090, 0, 2⟩
abbrev F.ACL_CLEAR_STATUS.STATE : Field := ⟨0x220098, 0, 2⟩
abbrev F.ACL_CLEAR_STATUS.RESULT : Field := ⟨0x220098, 4, 4⟩
abbrev F.ACL_AUTH.TAG (w : Nat) : Field := ⟨0x2200A0 + 0x8 * w, 0, 64⟩
abbrev F.PMC_CTL.FREEZE : Field := ⟨0x230000, 0, 1⟩
abbrev F.PMC_CTL.HOST_FREEZE : Field := ⟨0x230000, 1, 1⟩
abbrev F.PMC_CFG.HOST_COUNTERS : Field := ⟨0x230008, 0, 7⟩
abbrev F.PMC_CFG.OVF_CORE : Field := ⟨0x230008, 8, 3⟩
abbrev F.PMC_USER_READ.MASK : Field := ⟨0x230010, 0, 64⟩
abbrev F.PMC_OVF.OVF : Field := ⟨0x230018, 0, 64⟩
abbrev F.PMC_RANGE_LO.ADDR (x : Nat) : Field := ⟨0x230020 + 0x10 * x, 0, 39⟩
abbrev F.PMC_RANGE_HI.ADDR (x : Nat) : Field := ⟨0x230028 + 0x10 * x, 0, 39⟩
abbrev F.PMC_SEL.EVENT (k : Nat) : Field := ⟨0x230100 + 0x8 * k, 0, 8⟩
abbrev F.PMC_SEL.INST (k : Nat) : Field := ⟨0x230100 + 0x8 * k, 8, 6⟩
abbrev F.PMC_SEL.ALL (k : Nat) : Field := ⟨0x230100 + 0x8 * k, 14, 1⟩
abbrev F.PMC_SEL.PRIV (k : Nat) : Field := ⟨0x230100 + 0x8 * k, 15, 4⟩
abbrev F.PMC_SEL.MASTER (k : Nat) : Field := ⟨0x230100 + 0x8 * k, 19, 6⟩
abbrev F.PMC_SEL.RANGE (k : Nat) : Field := ⟨0x230100 + 0x8 * k, 25, 2⟩
abbrev F.PMC_SEL.RANGE_EN (k : Nat) : Field := ⟨0x230100 + 0x8 * k, 27, 1⟩
abbrev F.PMC_SEL.CHAIN (k : Nat) : Field := ⟨0x230100 + 0x8 * k, 28, 1⟩
abbrev F.PMC_SEL.ENABLE (k : Nat) : Field := ⟨0x230100 + 0x8 * k, 29, 1⟩
abbrev F.PMC_SEL.OVF_IRQ (k : Nat) : Field := ⟨0x230100 + 0x8 * k, 30, 1⟩
abbrev F.PMC_CTR.COUNT (k : Nat) : Field := ⟨0x230400 + 0x8 * k, 0, 48⟩
abbrev F.PMC_SAMPLE_CFG.ENABLE : Field := ⟨0x230800, 0, 1⟩
abbrev F.PMC_SAMPLE_CFG.USER : Field := ⟨0x230800, 1, 1⟩
abbrev F.PMC_SAMPLE_CFG.EVENT : Field := ⟨0x230800, 2, 3⟩
abbrev F.PMC_SAMPLE_CFG.CORES : Field := ⟨0x230800, 8, 8⟩
abbrev F.PMC_SAMPLE_CFG.PERIOD : Field := ⟨0x230800, 16, 24⟩
abbrev F.PMC_SAMPLE_CFG.LAT_MIN : Field := ⟨0x230800, 40, 8⟩
abbrev F.PMC_SAMPLE_CFG.WATERMARK : Field := ⟨0x230800, 48, 9⟩
abbrev F.PMC_SAMPLE_STATUS.NEXT : Field := ⟨0x230808, 0, 32⟩
abbrev F.PMC_SAMPLE_STATUS.LOST : Field := ⟨0x230808, 32, 16⟩
abbrev F.PMC_SAMPLE_ACK.INDEX : Field := ⟨0x230810, 0, 32⟩
abbrev F.CAL_CFG.DELTA : Field := ⟨0x240000, 0, 5⟩
abbrev F.CAL_CFG.TRIM_BLK : Field := ⟨0x240000, 5, 1⟩
abbrev F.CAL_CFG.TRIM_RX : Field := ⟨0x240000, 6, 1⟩
abbrev F.CAL_CFG.TRIM_DDR : Field := ⟨0x240000, 7, 1⟩
abbrev F.CAL_CFG.SETTLE : Field := ⟨0x240000, 8, 8⟩
abbrev F.CAL_CFG.H_FLOOR : Field := ⟨0x240000, 16, 6⟩
abbrev F.CAL_CFG.MARK_TOL : Field := ⟨0x240000, 32, 8⟩
abbrev F.CAL_BLK_INIT.AMP (r : Nat) : Field := ⟨0x240008 + 0x8 * r, 0, 6⟩
abbrev F.CAL_BLK_INIT.PRE (r : Nat) : Field := ⟨0x240008 + 0x8 * r, 6, 4⟩
abbrev F.CAL_BLK_INIT.POST1 (r : Nat) : Field := ⟨0x240008 + 0x8 * r, 10, 5⟩
abbrev F.CAL_BLK_INIT.POST2 (r : Nat) : Field := ⟨0x240008 + 0x8 * r, 15, 4⟩
abbrev F.CAL_BLK_INIT.DUTY (r : Nat) : Field := ⟨0x240008 + 0x8 * r, 19, 5⟩
abbrev F.CAL_CTL.ENABLE : Field := ⟨0x240030, 0, 1⟩
abbrev F.CAL_CTL.RUN : Field := ⟨0x240030, 1, 1⟩
abbrev F.CAL_STATUS.STATE : Field := ⟨0x240038, 0, 2⟩
abbrev F.CAL_STATUS.PENDING_ENABLE : Field := ⟨0x240038, 2, 1⟩
abbrev F.CAL_STATUS.RUN_PENDING : Field := ⟨0x240038, 3, 1⟩
abbrev F.CAL_STATUS.GROUPS : Field := ⟨0x240038, 4, 4⟩
abbrev F.CAL_STATUS.LANE : Field := ⟨0x240038, 8, 20⟩
abbrev F.CAL_STATUS.RUNS : Field := ⟨0x240038, 32, 16⟩
abbrev F.CAL_TEMP.NOW (i : Nat) : Field := ⟨0x240040 + 0x8 * i, 0, 16⟩
abbrev F.CAL_TEMP.REF (i : Nat) : Field := ⟨0x240040 + 0x8 * i, 16, 16⟩
abbrev F.CAL_TX.CODES (n : Nat) : Field := ⟨0x240100 + 0x8 * n, 0, 24⟩
abbrev F.CAL_TX.H (n : Nat) : Field := ⟨0x240100 + 0x8 * n, 24, 8⟩
abbrev F.CAL_TX.V (n : Nat) : Field := ⟨0x240100 + 0x8 * n, 32, 8⟩
abbrev F.CAL_RX.OFFSET (g : Nat) : Field := ⟨0x240480 + 0x8 * g, 0, 6⟩
abbrev F.CAL_RX.ONES (g : Nat) : Field := ⟨0x240480 + 0x8 * g, 8, 21⟩
abbrev F.CAL_DDR.BIAS (c : Nat) : Field := ⟨0x240500 + 0x8 * c, 0, 8⟩
abbrev F.CAL_DDR.LONG (c : Nat) : Field := ⟨0x240500 + 0x8 * c, 8, 1⟩
abbrev F.CAL_DDR.STEPS (c : Nat) : Field := ⟨0x240500 + 0x8 * c, 16, 16⟩
abbrev F.CAL_ERR.LOW_MARGIN : Field := ⟨0x240600, 0, 1⟩
abbrev F.CAL_ERR.SKIPPED : Field := ⟨0x240600, 1, 1⟩
abbrev F.CAL_ERR.ABANDONED : Field := ⟨0x240600, 2, 1⟩
abbrev F.CAL_ERR.RX_RANGE : Field := ⟨0x240600, 3, 1⟩
abbrev F.CAL_ERR.DDR_RANGE : Field := ⟨0x240600, 4, 1⟩
abbrev F.CAL_COUNTS.RUNS : Field := ⟨0x240608, 0, 16⟩
abbrev F.CAL_COUNTS.TRIALS : Field := ⟨0x240608, 16, 16⟩
abbrev F.CAL_COUNTS.KEPT : Field := ⟨0x240608, 32, 16⟩
abbrev F.CAL_COUNTS.ABANDONED : Field := ⟨0x240608, 48, 16⟩
abbrev F.PAD_IO_CFG.AX_DRIVE : Field := ⟨0x250000, 0, 2⟩
abbrev F.PAD_IO_CFG.AX_SLOW : Field := ⟨0x250000, 2, 1⟩
abbrev F.PAD_IO_CFG.XSPI_DRIVE : Field := ⟨0x250000, 3, 2⟩
abbrev F.PAD_IO_CFG.MRAM_DRIVE : Field := ⟨0x250000, 5, 2⟩
abbrev F.PAD_ENC_CFG.TERM0 : Field := ⟨0x250008, 0, 1⟩
abbrev F.PAD_ENC_CFG.TERM1 : Field := ⟨0x250008, 1, 1⟩
abbrev F.PAD_STROBE_CFG.SWING0 : Field := ⟨0x250010, 0, 2⟩
abbrev F.PAD_STROBE_CFG.SWING1 : Field := ⟨0x250010, 2, 2⟩
abbrev F.PAD_STRAPS.TWIN_ROLE : Field := ⟨0x250018, 0, 1⟩
abbrev F.PAD_STRAPS.FLASH_1S : Field := ⟨0x250018, 1, 1⟩
abbrev F.PAD_STRAPS.TEST_EN_N : Field := ⟨0x250018, 2, 1⟩
abbrev F.PAD_STRAPS.LIVE_ROLE : Field := ⟨0x250018, 4, 1⟩
abbrev F.PAD_STRAPS.LIVE_FLASH_1S : Field := ⟨0x250018, 5, 1⟩
abbrev F.PAD_STRAPS.CHANGED : Field := ⟨0x250018, 8, 1⟩
abbrev F.PAD_SUPPLY_ERR.WARN : Field := ⟨0x250020, 0, 7⟩
abbrev F.PAD_SUPPLY_ERR.TRIP : Field := ⟨0x250020, 8, 7⟩
abbrev F.PAD_SUPPLY.NOW (i : Nat) : Field := ⟨0x250100 + 0x8 * i, 0, 16⟩
abbrev F.PAD_SUPPLY.MIN (i : Nat) : Field := ⟨0x250100 + 0x8 * i, 16, 16⟩
abbrev F.PAD_SUPPLY.MAX (i : Nat) : Field := ⟨0x250100 + 0x8 * i, 32, 16⟩
abbrev F.BOOT_ID.STEPPING : Field := ⟨0xF000, 0, 8⟩
abbrev F.BOOT_ID.PART : Field := ⟨0xF000, 8, 16⟩
abbrev F.BOOT_ID.MAP : Field := ⟨0xF000, 24, 8⟩
/-- HIF_LINK_STATUS (RO). -/
def row_hif_link_status : RegRow :=
  ⟨0x20000, [], fun _ => 0x0, false, 0x0, 0x0, none, 0x0, 0x0, 0x0,
    0x0, .named, false, false, false⟩
/-- HIF_LINK_LIMIT (CAT). -/
def row_hif_link_limit : RegRow :=
  ⟨0x20008, [], fun _ => 0xD85, false, 0x0, 0x0, none, 0x0, 0x0, 0x0,
    0xFFFFFF, .named, false, false, false⟩
/-- HIF_SETUP_ADDR (WO (host)). -/
def row_hif_setup_addr : RegRow :=
  ⟨0x20010, [], fun _ => 0x0, true, 0x0, 0xFFFFFFFF00000000, none, 0xFFFFFFFFFFFFFFFF, 0x0, 0x0,
    0x0, .named, false, false, true⟩
/-- HIF_SETUP_STATUS (RO). -/
def row_hif_setup_status : RegRow :=
  ⟨0x20018, [], fun _ => 0x0, false, 0x0, 0x0, none, 0x0, 0x0, 0x0,
    0x0, .named, false, false, false⟩
/-- HIF_SQ_BASE (RW (Docent-M)). -/
def row_hif_sq_base : RegRow :=
  ⟨0x20100, [(0x20, 4)], fun _ => 0x0, true, 0xFFFFFFFFFFFFF000, 0x0, none, 0x0, 0x0, 0x0,
    0x0, .named, false, true, false⟩
/-- HIF_SQ_CTL (RW (Docent-M)). -/
def row_hif_sq_ctl : RegRow :=
  ⟨0x20108, [(0x20, 4)], fun _ => 0x0, false, 0x1F, 0x0, none, 0x0, 0x0, 0x0,
    0x0, .named, false, true, false⟩
/-- HIF_SQ_TAIL (WO (host)). -/
def row_hif_sq_tail : RegRow :=
  ⟨0x20110, [(0x20, 4)], fun _ => 0x0, false, 0x0, 0x3FFF, none, 0x3FFF, 0x0, 0x0,
    0x0, .named, false, false, true⟩
/-- HIF_SQ_HEAD (RO). -/
def row_hif_sq_head : RegRow :=
  ⟨0x20118, [(0x20, 4)], fun _ => 0x0, false, 0x0, 0x0, none, 0x0, 0x0, 0x0,
    0x0, .named, false, false, false⟩
/-- HIF_HQ_BASE (BASE, CTL RW (Docent-M); HEAD WO (host); TAIL RO). -/
def row_hif_hq_base : RegRow :=
  ⟨0x20200, [(0x20, 2)], fun _ => 0x0, true, 0xFFFFFFFFFFFFF000, 0x0, none, 0x0, 0x0, 0x0,
    0x0, .named, false, true, false⟩
/-- HIF_HQ_CTL (BASE, CTL RW (Docent-M); HEAD WO (host); TAIL RO). -/
def row_hif_hq_ctl : RegRow :=
  ⟨0x20208, [(0x20, 2)], fun _ => 0x20, false, 0x1FFFFFFF, 0x0, none, 0x0, 0x0, 0x0,
    0x0, .named, false, true, false⟩
/-- HIF_HQ_HEAD (BASE, CTL RW (Docent-M); HEAD WO (host); TAIL RO). -/
def row_hif_hq_head : RegRow :=
  ⟨0x20210, [(0x20, 2)], fun _ => 0x0, false, 0x0, 0x3FFF, none, 0x3FFF, 0x0, 0x0,
    0x0, .named, false, false, true⟩
/-- HIF_HQ_TAIL (BASE, CTL RW (Docent-M); HEAD WO (host); TAIL RO). -/
def row_hif_hq_tail : RegRow :=
  ⟨0x20218, [(0x20, 2)], fun _ => 0x4000, false, 0x0, 0x0, none, 0x0, 0x0, 0x0,
    0x0, .named, false, false, false⟩
/-- HIF_INTAKE_STATUS (W1C (host, Docent-M) except counts RO). -/
def row_hif_intake_status : RegRow :=
  ⟨0x20300, [], fun _ => 0x0, false, 0x0, 0x0, none, 0x0, 0x3F, 0x0,
    0x0, .named, false, true, true⟩
/-- The registers of block HIF. -/
def rowsHIF : List RegRow :=
  [row_hif_link_status, row_hif_link_limit, row_hif_setup_addr, row_hif_setup_status,
   row_hif_sq_base, row_hif_sq_ctl, row_hif_sq_tail, row_hif_sq_head,
   row_hif_hq_base, row_hif_hq_ctl, row_hif_hq_head, row_hif_hq_tail,
   row_hif_intake_status]
/-- DMA_CH_CTL (RW (Keeper-M, Docent-M)). -/
def row_dma_ch_ctl : RegRow :=
  ⟨0x30000, [(0x100, 16)], fun _ => 0x0, false, 0xF1, 0xF, none, 0xE, 0x0, 0x0,
    0x0, .named, true, true, false⟩
/-- DMA_CH_STATUS (mixed). -/
def row_dma_ch_status : RegRow :=
  ⟨0x30008, [(0x100, 16)], fun _ => 0x0, false, 0x0, 0x700, none, 0x0, 0x770, 0xFFFF0000,
    0x0, .named, true, true, false⟩
/-- DMA_CH_SRC (RW (Keeper-M, Docent-M)). -/
def row_dma_ch_src : RegRow :=
  ⟨0x30010, [(0x100, 16)], fun _ => 0x0, true, 0xFFFFFFFFFFFFFFFF, 0x0, none, 0x0, 0x0, 0x0,
    0x0, .named, true, true, false⟩
/-- DMA_CH_DST (RW (Keeper-M, Docent-M)). -/
def row_dma_ch_dst : RegRow :=
  ⟨0x30018, [(0x100, 16)], fun _ => 0x0, true, 0xFFFFFFFFFFFFFFFF, 0x0, none, 0x0, 0x0, 0x0,
    0x0, .named, true, true, false⟩
/-- DMA_CH_LEN (RW (Keeper-M, Docent-M)). -/
def row_dma_ch_len : RegRow :=
  ⟨0x30020, [(0x100, 16)], fun _ => 0x0, true, 0xFFFFFFFFFFFFFFFF, 0x0, none, 0x0, 0x0, 0x0,
    0x0, .named, true, true, false⟩
/-- DMA_CH_COUNT (RW (Keeper-M, Docent-M)). -/
def row_dma_ch_count : RegRow :=
  ⟨0x30028, [(0x100, 16)], fun _ => 0x0, true, 0xFFFFFFFFFFFFFFFF, 0x0, none, 0x0, 0x0, 0x0,
    0x0, .named, true, true, false⟩
/-- DMA_CH_STRIDE1 (RW (Keeper-M, Docent-M)). -/
def row_dma_ch_stride1 : RegRow :=
  ⟨0x30030, [(0x100, 16)], fun _ => 0x0, true, 0xFFFFFFFFFFFFFFFF, 0x0, none, 0x0, 0x0, 0x0,
    0x0, .named, true, true, false⟩
/-- DMA_CH_STRIDE2 (RW (Keeper-M, Docent-M)). -/
def row_dma_ch_stride2 : RegRow :=
  ⟨0x30038, [(0x100, 16)], fun _ => 0x0, true, 0xFFFFFFFFFFFFFFFF, 0x0, none, 0x0, 0x0, 0x0,
    0x0, .named, true, true, false⟩
/-- DMA_CH_STRIDE3 (RW (Keeper-M, Docent-M)). -/
def row_dma_ch_stride3 : RegRow :=
  ⟨0x30040, [(0x100, 16)], fun _ => 0x0, true, 0xFFFFFFFFFFFFFFFF, 0x0, none, 0x0, 0x0, 0x0,
    0x0, .named, true, true, false⟩
/-- DMA_CH_NEXT (RW (Keeper-M, Docent-M)). -/
def row_dma_ch_next : RegRow :=
  ⟨0x30048, [(0x100, 16)], fun _ => 0x0, true, 0xFFFFFFFFFFFFFFFF, 0x0, none, 0x0, 0x0, 0x0,
    0x0, .named, true, true, false⟩
/-- DMA_CH_RATE (RW (Keeper-M, Docent-M)). -/
def row_dma_ch_rate : RegRow :=
  ⟨0x30050, [(0x100, 16)], fun _ => 0x0, false, 0xFFFFFFFF, 0x0, none, 0x0, 0x0, 0x0,
    0x0, .named, true, true, false⟩
/-- DMA_CH_DISABLED_AT (RO). -/
def row_dma_ch_disabled_at : RegRow :=
  ⟨0x30060, [(0x100, 16)], fun _ => 0x0, true, 0x0, 0x0, none, 0x0, 0x0, 0x0,
    0x0, .named, false, false, false⟩
/-- DMA_CH_DESC_COUNT (RO). -/
def row_dma_ch_desc_count : RegRow :=
  ⟨0x30068, [(0x100, 16)], fun _ => 0x0, false, 0x0, 0x0, none, 0x0, 0x0, 0x0,
    0x0, .named, false, false, false⟩
/-- DMA_CHAIN_BUDGET (CAT). -/
def row_dma_chain_budget : RegRow :=
  ⟨0x31000, [], fun _ => 0x10000, false, 0x0, 0x0, none, 0x0, 0x0, 0x0,
    0x1FFFFFF, .named, false, false, false⟩
/-- The registers of block DMA. -/
def rowsDMA : List RegRow :=
  [row_dma_ch_ctl, row_dma_ch_status, row_dma_ch_src, row_dma_ch_dst,
   row_dma_ch_len, row_dma_ch_count, row_dma_ch_stride1, row_dma_ch_stride2,
   row_dma_ch_stride3, row_dma_ch_next, row_dma_ch_rate, row_dma_ch_disabled_at,
   row_dma_ch_desc_count, row_dma_chain_budget]
/-- FOL_CFG (CAT). -/
def row_fol_cfg : RegRow :=
  ⟨0x40000, [], fun _ => 0x10286800, false, 0x0, 0x0, none, 0x0, 0x0, 0x0,
    0x3FFFFFFF, .named, false, false, false⟩
/-- FOL_CAT_ID (CAT). -/
def row_fol_cat_id : RegRow :=
  ⟨0x40008, [], fun _ => 0x0, false, 0x0, 0x0, none, 0x0, 0x0, 0x0,
    0xFFFFFFFF, .named, false, false, false⟩
/-- FOL_INTAKE_CAP (RO). -/
def row_fol_intake_cap : RegRow :=
  ⟨0x40010, [], fun _ => 0x0, false, 0x0, 0x0, none, 0x0, 0x0, 0x0,
    0x0, .named, false, false, false⟩
/-- FOL_LEAF_STATUS (RO). -/
def row_fol_leaf_status : RegRow :=
  ⟨0x40018, [], fun _ => 0x0, true, 0x0, 0x0, none, 0x0, 0x0, 0x0,
    0x0, .named, false, false, false⟩
/-- FOL_LEAF_POS (RO). -/
def row_fol_leaf_pos : RegRow :=
  ⟨0x40020, [], fun _ => 0x0, true, 0x0, 0x0, none, 0x0, 0x0, 0x0,
    0x0, .named, false, false, false⟩
/-- FOL_ERR (W1C (Docent-M, host)). -/
def row_fol_err : RegRow :=
  ⟨0x40028, [], fun _ => 0x0, false, 0x0, 0x0, none, 0x0, 0x7F, 0x0,
    0x0, .named, false, true, true⟩
/-- FOL_COUNTS (RC). -/
def row_fol_counts : RegRow :=
  ⟨0x40030, [], fun _ => 0x0, true, 0x0, 0x0, none, 0x0, 0x0, 0xFFFFFFFFFFFFFFFF,
    0x0, .named, false, false, false⟩
/-- FOL_LAST_FAIL (RO). -/
def row_fol_last_fail : RegRow :=
  ⟨0x40038, [], fun _ => 0x0, true, 0x0, 0x0, none, 0x0, 0x0, 0x0,
    0x0, .named, false, false, false⟩
/-- The registers of block FOL. -/
def rowsFOL : List RegRow :=
  [row_fol_cfg, row_fol_cat_id, row_fol_intake_cap, row_fol_leaf_status,
   row_fol_leaf_pos, row_fol_err, row_fol_counts, row_fol_last_fail]
/-- GUG_CTL (RW (Keeper-M, Docent-M)). -/
def row_gug_ctl : RegRow :=
  ⟨0x50000, [], fun _ => 0x4, false, 0x1D, 0x3, none, 0x2, 0x0, 0x0,
    0x0, .named, true, true, false⟩
/-- GUG_STATUS (mixed). -/
def row_gug_status : RegRow :=
  ⟨0x50008, [], fun _ => 0x0, false, 0x0, 0xF00, none, 0x0, 0xF10, 0xFFFF0000,
    0x0, .named, true, true, false⟩
/-- GUG_JOB_SRC (RW (Keeper-M, Docent-M)). -/
def row_gug_job_src : RegRow :=
  ⟨0x50010, [], fun _ => 0x0, true, 0xFFFFFFFFFFFFFFFF, 0x0, none, 0x0, 0x0, 0x0,
    0x0, .named, true, true, false⟩
/-- GUG_JOB_LEN (RW (Keeper-M, Docent-M)). -/
def row_gug_job_len : RegRow :=
  ⟨0x50018, [], fun _ => 0x0, false, 0xFFFFFFFF, 0x0, none, 0x0, 0x0, 0x0,
    0x0, .named, true, true, false⟩
/-- GUG_JOB_LIST (RW (Keeper-M, Docent-M)). -/
def row_gug_job_list : RegRow :=
  ⟨0x50020, [], fun _ => 0x0, true, 0xFFFFFFFFFFFFFFFF, 0x0, none, 0x0, 0x0, 0x0,
    0x0, .named, true, true, false⟩
/-- GUG_OUT_LEN (RO). -/
def row_gug_out_len : RegRow :=
  ⟨0x50028, [], fun _ => 0x0, true, 0x0, 0x0, none, 0x0, 0x0, 0x0,
    0x0, .named, false, false, false⟩
/-- GUG_OUT_BUFS (RO). -/
def row_gug_out_bufs : RegRow :=
  ⟨0x50030, [], fun _ => 0x0, true, 0x0, 0x0, none, 0x0, 0x0, 0x0,
    0x0, .named, false, false, false⟩
/-- The registers of block GUG. -/
def rowsGUG : List RegRow :=
  [row_gug_ctl, row_gug_status, row_gug_job_src, row_gug_job_len,
   row_gug_job_list, row_gug_out_len, row_gug_out_bufs]
/-- RAS_E_STATUS (RO). -/
def row_ras_e_status : RegRow :=
  ⟨0x80000, [(0x1000, 64)], fun _ => 0x0, false, 0x0, 0x0, none, 0x0, 0x0, 0x0,
    0x0, .named, false, false, false⟩
/-- RAS_E_TROW (RO). -/
def row_ras_e_trow : RegRow :=
  ⟨0x80008, [(0x1000, 64)], fun _ => 0x0, false, 0x0, 0x0, none, 0x0, 0x0, 0x0,
    0x0, .named, false, false, false⟩
/-- RAS_E_TILES (RO). -/
def row_ras_e_tiles : RegRow :=
  ⟨0x80010, [(0x1000, 64)], fun _ => 0x0, false, 0x0, 0x0, none, 0x0, 0x0, 0x0,
    0x0, .named, false, false, false⟩
/-- RAS_E_ECC (RC). -/
def row_ras_e_ecc : RegRow :=
  ⟨0x80018, [(0x1000, 64)], fun _ => 0x0, false, 0x0, 0x0, none, 0x0, 0x0, 0xFFFFFFFF,
    0x0, .named, false, false, false⟩
/-- RAS_CFG (CAT). -/
def row_ras_cfg : RegRow :=
  ⟨0xC0000, [], fun _ => 0x10, false, 0x0, 0x0, none, 0x0, 0x0, 0x0,
    0x1F, .named, false, false, false⟩
/-- RAS_SEQ (RO). -/
def row_ras_seq : RegRow :=
  ⟨0xC0008, [], fun _ => 0x0, true, 0x0, 0x0, none, 0x0, 0x0, 0x0,
    0x0, .named, false, false, false⟩
/-- RAS_WAIT (RO). -/
def row_ras_wait : RegRow :=
  ⟨0xC0010, [], fun _ => 0x0, false, 0x0, 0x0, none, 0x0, 0x0, 0x0,
    0x0, .named, false, false, false⟩
/-- RAS_ERR (W1C (Docent-M, host)). -/
def row_ras_err : RegRow :=
  ⟨0xC0018, [], fun _ => 0x0, false, 0x0, 0x0, none, 0x0, 0x3F, 0x0,
    0x0, .named, false, true, true⟩
/-- RAS_COUNTS (RC). -/
def row_ras_counts : RegRow :=
  ⟨0xC0020, [], fun _ => 0x0, true, 0x0, 0x0, none, 0x0, 0x0, 0xFFFFFFFFFFFFFFFF,
    0x0, .named, false, false, false⟩
/-- RAS_LAST_FAIL (RO). -/
def row_ras_last_fail : RegRow :=
  ⟨0xC0028, [], fun _ => 0x0, true, 0x0, 0x0, none, 0x0, 0x0, 0x0,
    0x0, .named, false, false, false⟩
/-- The registers of block RAS. -/
def rowsRAS : List RegRow :=
  [row_ras_e_status, row_ras_e_trow, row_ras_e_tiles, row_ras_e_ecc,
   row_ras_cfg, row_ras_seq, row_ras_wait, row_ras_err,
   row_ras_counts, row_ras_last_fail]
/-- TAL_RING (CAT). -/
def row_tal_ring : RegRow :=
  ⟨0x60000, [], fun _ => 0x0, true, 0x0, 0x0, none, 0x0, 0x0, 0x0,
    0x7FFFFFF000, .named, false, false, false⟩
/-- TAL_STATUS (RO). -/
def row_tal_status : RegRow :=
  ⟨0x60008, [], fun _ => 0x0, true, 0x0, 0x0, none, 0x0, 0x0, 0x0,
    0x0, .named, false, false, false⟩
/-- TAL_ERR (W1C (Docent-M, host)). -/
def row_tal_err : RegRow :=
  ⟨0x60010, [], fun _ => 0x0, false, 0x0, 0x0, none, 0x0, 0xF, 0x0,
    0x0, .named, false, true, true⟩
/-- TAL_COUNTS (RC). -/
def row_tal_counts : RegRow :=
  ⟨0x60018, [], fun _ => 0x0, true, 0x0, 0x0, none, 0x0, 0x0, 0xFFFFFFFFFFFFFFFF,
    0x0, .named, false, false, false⟩
/-- TAL_LAST (RO). -/
def row_tal_last : RegRow :=
  ⟨0x60020, [], fun _ => 0x0, true, 0x0, 0x0, none, 0x0, 0x0, 0x0,
    0x0, .named, false, false, false⟩
/-- TAL_INJECT (RW (Keeper-M)). -/
def row_tal_inject : RegRow :=
  ⟨0x60028, [], fun _ => 0x0, false, 0xFFFF000F, 0xFFFFFFFF, none, 0x0, 0x0, 0x0,
    0x0, .named, true, false, false⟩
/-- The registers of block TAL. -/
def rowsTAL : List RegRow :=
  [row_tal_ring, row_tal_status, row_tal_err, row_tal_counts,
   row_tal_last, row_tal_inject]
/-- PEC_CFG (CAT). -/
def row_pec_cfg : RegRow :=
  ⟨0x70000, [], fun _ => 0x1, false, 0x0, 0x0, none, 0x0, 0x0, 0x0,
    0x3F, .named, false, false, false⟩
/-- PEC_RING (CAT). -/
def row_pec_ring : RegRow :=
  ⟨0x70008, [], fun _ => 0x0, true, 0x0, 0x0, none, 0x0, 0x0, 0x0,
    0x7FFFFFF000, .named, false, false, false⟩
/-- PEC_STATUS (RO). -/
def row_pec_status : RegRow :=
  ⟨0x70010, [], fun _ => 0x0, true, 0x0, 0x0, none, 0x0, 0x0, 0x0,
    0x0, .named, false, false, false⟩
/-- PEC_ERR (W1C (Docent-M, host)). -/
def row_pec_err : RegRow :=
  ⟨0x70018, [], fun _ => 0x0, false, 0x0, 0x0, none, 0x0, 0x3, 0x0,
    0x0, .named, false, true, true⟩
/-- PEC_KERNEL (CAT). -/
def row_pec_kernel : RegRow :=
  ⟨0x71000, [(0x4, 3969)], fun ix => if ix = [0] then 0x10000 else 0, false, 0x0, 0x0, none, 0x0, 0x0, 0x0,
    0x1FFFF, .named, false, false, false⟩
/-- PEC_TABLE (CAT). -/
def row_pec_table : RegRow :=
  ⟨0x75000, [(0x4, 1025)], fun _ => 0x2000, false, 0x0, 0x0, none, 0x0, 0x0, 0x0,
    0x3FFF, .named, false, false, false⟩
/-- The registers of block PEC. -/
def rowsPEC : List RegRow :=
  [row_pec_cfg, row_pec_ring, row_pec_status, row_pec_err,
   row_pec_kernel, row_pec_table]
/-- DOS_FOG_RING (CAT). -/
def row_dos_fog_ring : RegRow :=
  ⟨0x100000, [], fun _ => 0x0, true, 0x0, 0x0, none, 0x0, 0x0, 0x0,
    0x7FFFFFF000, .named, false, false, false⟩
/-- DOS_STATUS (RO). -/
def row_dos_status : RegRow :=
  ⟨0x100008, [], fun _ => 0x0, true, 0x0, 0x0, none, 0x0, 0x0, 0x0,
    0x0, .named, false, false, false⟩
/-- DOS_ERR (W1C (Docent-M, host)). -/
def row_dos_err : RegRow :=
  ⟨0x100010, [], fun _ => 0x0, false, 0x0, 0x0, none, 0x0, 0x3, 0x0,
    0x0, .named, false, true, true⟩
/-- DOS_COUNTS (RC). -/
def row_dos_counts : RegRow :=
  ⟨0x100018, [], fun _ => 0x0, true, 0x0, 0x0, none, 0x0, 0x0, 0xFFFFFFFFFFFF,
    0x0, .named, false, false, false⟩
/-- DOS_LAST_FAIL (RO). -/
def row_dos_last_fail : RegRow :=
  ⟨0x100020, [], fun _ => 0x0, true, 0x0, 0x0, none, 0x0, 0x0, 0x0,
    0x0, .named, false, false, false⟩
/-- DOS_CLASS (RO). -/
def row_dos_class : RegRow :=
  ⟨0x100100, [(0x4, 16)], fun _ => 0x2000, false, 0x0, 0x0, none, 0x0, 0x0, 0x0,
    0x0, .named, false, false, false⟩
/-- DOS_CT (CAT). -/
def row_dos_ct : RegRow :=
  ⟨0x101000, [(0x4, 1025)], fun ix => 8 * ix.headD 0, false, 0x0, 0x0, none, 0x0, 0x0, 0x0,
    0x3FFF, .named, false, false, false⟩
/-- DOS_DITHER (CAT). -/
def row_dos_dither : RegRow :=
  ⟨0x103000, [(0x4, 1024)], fun _ => 0x20202020, false, 0x0, 0x0, none, 0x0, 0x0, 0x0,
    0x3F3F3F3F, .named, false, false, false⟩
/-- The registers of block DOS. -/
def rowsDOS : List RegRow :=
  [row_dos_fog_ring, row_dos_status, row_dos_err, row_dos_counts,
   row_dos_last_fail, row_dos_class, row_dos_ct, row_dos_dither]
/-- BCT_LIMITS (CAT). -/
def row_bct_limits : RegRow :=
  ⟨0x110000, [], fun _ => 0x28001800, false, 0x0, 0x0, none, 0x0, 0x0, 0x0,
    0x3FFF3FFF, .named, false, false, false⟩
/-- BCT_STAGE (CAT). -/
def row_bct_stage : RegRow :=
  ⟨0x110008, [], fun _ => 0x0, true, 0x0, 0x0, none, 0x0, 0x0, 0x0,
    0x7FFFC00000, .named, false, false, false⟩
/-- BCT_COMMIT (RW (Keeper-M)). -/
def row_bct_commit : RegRow :=
  ⟨0x110010, [], fun _ => 0x0, false, 0xFFFF, 0x10000, none, 0x10000, 0x0, 0x0,
    0x0, .named, true, false, false⟩
/-- BCT_COMMIT_CRC (RW (Keeper-M)). -/
def row_bct_commit_crc : RegRow :=
  ⟨0x110018, [], fun _ => 0x0, false, 0xFFFFFFFF, 0x0, none, 0x0, 0x0, 0x0,
    0x0, .named, true, false, false⟩
/-- BCT_STATUS (RO). -/
def row_bct_status : RegRow :=
  ⟨0x110020, [], fun _ => 0x0, true, 0x0, 0x0, none, 0x0, 0x0, 0x0,
    0x0, .named, false, false, false⟩
/-- BCT_ERR (W1C (Keeper-M, Docent-M, host)). -/
def row_bct_err : RegRow :=
  ⟨0x110028, [], fun _ => 0x0, false, 0x0, 0x0, none, 0x0, 0x3, 0x0,
    0x0, .named, true, true, true⟩
/-- BCT_REMAPS (RO). -/
def row_bct_remaps : RegRow :=
  ⟨0x110030, [], fun _ => 0x0, false, 0x0, 0x0, none, 0x0, 0x0, 0x0,
    0x0, .named, false, false, false⟩
/-- BCT_BANK (RO). -/
def row_bct_bank : RegRow :=
  ⟨0x110040, [(0x10, 2)], fun _ => 0x0, true, 0x0, 0x0, none, 0x0, 0x0, 0x0,
    0x0, .named, false, false, false⟩
/-- The registers of block BCT. -/
def rowsBCT : List RegRow :=
  [row_bct_limits, row_bct_stage, row_bct_commit, row_bct_commit_crc,
   row_bct_status, row_bct_err, row_bct_remaps, row_bct_bank]
/-- RSV_POS (RO). -/
def row_rsv_pos : RegRow :=
  ⟨0x120000, [], fun _ => 0x0, true, 0x0, 0x0, none, 0x0, 0x0, 0x0,
    0x0, .named, false, false, false⟩
/-- RSV_LEAF (RO). -/
def row_rsv_leaf : RegRow :=
  ⟨0x120008, [], fun _ => 0x0, true, 0x0, 0x0, none, 0x0, 0x0, 0x0,
    0x0, .named, false, false, false⟩
/-- RSV_LEAD (mixed). -/
def row_rsv_lead : RegRow :=
  ⟨0x120010, [], fun _ => 0x5400, false, 0x0, 0x0, none, 0x0, 0x0, 0x7F00,
    0x0, .named, false, false, false⟩
/-- RSV_ERR (W1C (Docent-M, host)). -/
def row_rsv_err : RegRow :=
  ⟨0x120018, [], fun _ => 0x0, false, 0x0, 0x0, none, 0x0, 0x1F, 0x0,
    0x0, .named, false, true, true⟩
/-- RSV_COUNTS (RC). -/
def row_rsv_counts : RegRow :=
  ⟨0x120020, [], fun _ => 0x0, true, 0x0, 0x0, none, 0x0, 0x0, 0xFFFFFFFFFFFFFFFF,
    0x0, .named, false, false, false⟩
/-- RSV_LAST_BLANK (RO). -/
def row_rsv_last_blank : RegRow :=
  ⟨0x120028, [], fun _ => 0x0, true, 0x0, 0x0, none, 0x0, 0x0, 0x0,
    0x0, .named, false, false, false⟩
/-- RSV_REMAP (RO). -/
def row_rsv_remap : RegRow :=
  ⟨0x120030, [], fun _ => 0x80000, false, 0x0, 0x0, none, 0x0, 0x0, 0x0,
    0x0, .named, false, false, false⟩
/-- The registers of block RSV. -/
def rowsRSV : List RegRow :=
  [row_rsv_pos, row_rsv_leaf, row_rsv_lead, row_rsv_err,
   row_rsv_counts, row_rsv_last_blank, row_rsv_remap]
/-- SLT_ENC_CFG (CAT). -/
def row_slt_enc_cfg : RegRow :=
  ⟨0x130000, [], fun _ => 0x0, false, 0x0, 0x0, none, 0x0, 0x0, 0x0,
    0xF, .named, false, false, false⟩
/-- SLT_INDEX0 (CAT). -/
def row_slt_index0 : RegRow :=
  ⟨0x130008, [], fun _ => 0x0, true, 0x0, 0x0, none, 0x0, 0x0, 0x0,
    0xFFFFFFFFFFFF, .named, false, false, false⟩
/-- SLT_INDEX1 (CAT). -/
def row_slt_index1 : RegRow :=
  ⟨0x130010, [], fun _ => 0x0, true, 0x0, 0x0, none, 0x0, 0x0, 0x0,
    0xFFFFFFFFFFFF, .named, false, false, false⟩
/-- SLT_PITCH (CAT). -/
def row_slt_pitch : RegRow :=
  ⟨0x130018, [], fun _ => 0x100000, false, 0x0, 0x0, none, 0x0, 0x0, 0x0,
    0xFFFFFFFF, .named, false, false, false⟩
/-- SLT_LIMITS (CAT). -/
def row_slt_limits : RegRow :=
  ⟨0x130020, [], fun _ => 0x1000400A, false, 0x0, 0x0, none, 0x0, 0x0, 0x0,
    0xFFFFFFFF, .named, false, false, false⟩
/-- SLT_ACCEL (CAT). -/
def row_slt_accel : RegRow :=
  ⟨0x130028, [], fun _ => 0x2FAF080, false, 0x0, 0x0, none, 0x0, 0x0, 0x0,
    0xFFFFFFFF, .named, false, false, false⟩
/-- SLT_LOOP (CAT). -/
def row_slt_loop : RegRow :=
  ⟨0x130030, [], fun _ => 0x14, false, 0x0, 0x0, none, 0x0, 0x0, 0x0,
    0xFF, .named, false, false, false⟩
/-- SLT_CROSS (CAT). -/
def row_slt_cross : RegRow :=
  ⟨0x130038, [], fun _ => 0x8, false, 0x0, 0x0, none, 0x0, 0x0, 0x0,
    0xFFFF, .named, false, false, false⟩
/-- SLT_BLANK (CAT). -/
def row_slt_blank : RegRow :=
  ⟨0x130040, [], fun _ => 0x640064, false, 0x0, 0x0, none, 0x0, 0x0, 0x0,
    0xFFFFFFFF, .named, false, false, false⟩
/-- SLT_CTL (RW (Docent-M)). -/
def row_slt_ctl : RegRow :=
  ⟨0x130048, [], fun _ => 0x0, false, 0x0, 0x1, none, 0x1, 0x0, 0x0,
    0x0, .named, false, true, false⟩
/-- SLT_STATUS (RO). -/
def row_slt_status : RegRow :=
  ⟨0x130050, [], fun _ => 0x0, false, 0x0, 0x0, none, 0x0, 0x0, 0x0,
    0x0, .named, false, false, false⟩
/-- SLT_POS0 (RO). -/
def row_slt_pos0 : RegRow :=
  ⟨0x130058, [], fun _ => 0x0, true, 0x0, 0x0, none, 0x0, 0x0, 0x0,
    0x0, .named, false, false, false⟩
/-- SLT_POS1 (RO). -/
def row_slt_pos1 : RegRow :=
  ⟨0x130060, [], fun _ => 0x0, true, 0x0, 0x0, none, 0x0, 0x0, 0x0,
    0x0, .named, false, false, false⟩
/-- SLT_SLOT (RO). -/
def row_slt_slot : RegRow :=
  ⟨0x130068, [], fun _ => 0x0, true, 0x0, 0x0, none, 0x0, 0x0, 0x0,
    0x0, .named, false, false, false⟩
/-- SLT_PERIOD (RO). -/
def row_slt_period : RegRow :=
  ⟨0x130070, [], fun _ => 0x0, true, 0x0, 0x0, none, 0x0, 0x0, 0x0,
    0x0, .named, false, false, false⟩
/-- SLT_VEL (RO). -/
def row_slt_vel : RegRow :=
  ⟨0x130078, [], fun _ => 0x0, true, 0x0, 0x0, none, 0x0, 0x0, 0x0,
    0x0, .named, false, false, false⟩
/-- SLT_ERR (W1C (Docent-M, host)). -/
def row_slt_err : RegRow :=
  ⟨0x130080, [], fun _ => 0x0, false, 0x0, 0x0, none, 0x0, 0x1FFF, 0x0,
    0x0, .named, false, true, true⟩
/-- SLT_COUNTS (RC). -/
def row_slt_counts : RegRow :=
  ⟨0x130088, [], fun _ => 0x0, true, 0x0, 0x0, none, 0x0, 0x0, 0xFFFFFFFFFFFFFFFF,
    0x0, .named, false, false, false⟩
/-- SLT_END (RO). -/
def row_slt_end : RegRow :=
  ⟨0x130090, [], fun _ => 0x0, true, 0x0, 0x0, none, 0x0, 0x0, 0x0,
    0x0, .named, false, false, false⟩
/-- The registers of block SLT. -/
def rowsSLT : List RegRow :=
  [row_slt_enc_cfg, row_slt_index0, row_slt_index1, row_slt_pitch,
   row_slt_limits, row_slt_accel, row_slt_loop, row_slt_cross,
   row_slt_blank, row_slt_ctl, row_slt_status, row_slt_pos0,
   row_slt_pos1, row_slt_slot, row_slt_period, row_slt_vel,
   row_slt_err, row_slt_counts, row_slt_end]
/-- DUT_CFG (CAT). -/
def row_dut_cfg : RegRow :=
  ⟨0x140000, [], fun _ => 0xA0C80, false, 0x0, 0x0, none, 0x0, 0x0, 0x0,
    0xFF1FFF, .named, false, false, false⟩
/-- DUT_BEAM (CAT). -/
def row_dut_beam : RegRow :=
  ⟨0x140008, [], fun _ => 0x9999CCCDB333, true, 0x0, 0x0, none, 0x0, 0x0, 0x0,
    0xFFFFFFFFFFFF, .named, false, false, false⟩
/-- DUT_PLATE (CAT). -/
def row_dut_plate : RegRow :=
  ⟨0x140010, [], fun _ => 0x66668CCD7333, true, 0x0, 0x0, none, 0x0, 0x0, 0x0,
    0xFFFFFFFFFFFF, .named, false, false, false⟩
/-- DUT_TEMP (CAT). -/
def row_dut_temp : RegRow :=
  ⟨0x140018, [], fun _ => 0x370046003C0, true, 0x0, 0x0, none, 0x0, 0x0, 0x0,
    0xFFFFFFFFFFFF, .named, false, false, false⟩
/-- DUT_STATUS (RO). -/
def row_dut_status : RegRow :=
  ⟨0x140020, [], fun _ => 0x0, true, 0x0, 0x0, none, 0x0, 0x0, 0x0,
    0x0, .named, false, false, false⟩
/-- DUT_PEAK_BEAM (RO). -/
def row_dut_peak_beam : RegRow :=
  ⟨0x140028, [], fun _ => 0x0, false, 0x0, 0x0, none, 0x0, 0x0, 0x0,
    0x0, .named, false, false, false⟩
/-- DUT_ERR (W1C (Docent-M, host)). -/
def row_dut_err : RegRow :=
  ⟨0x140030, [], fun _ => 0x0, false, 0x0, 0x0, none, 0x0, 0x3F, 0x0,
    0x0, .named, false, true, true⟩
/-- DUT_PERMIT (RO). -/
def row_dut_permit : RegRow :=
  ⟨0x140038, [], fun _ => 0x0, true, 0x0, 0x0, none, 0x0, 0x0, 0x0,
    0x0, .named, false, false, false⟩
/-- The registers of block DUT. -/
def rowsDUT : List RegRow :=
  [row_dut_cfg, row_dut_beam, row_dut_plate, row_dut_temp,
   row_dut_status, row_dut_peak_beam, row_dut_err, row_dut_permit]
/-- LAC_RING (CAT). -/
def row_lac_ring : RegRow :=
  ⟨0x150000, [], fun _ => 0x80000000000, true, 0x0, 0x0, none, 0x0, 0x0, 0x0,
    0xFFFFFFFF000, .named, false, false, false⟩
/-- LAC_CFG (CAT). -/
def row_lac_cfg : RegRow :=
  ⟨0x150008, [], fun _ => 0xA40, false, 0x0, 0x0, none, 0x0, 0x0, 0x0,
    0xFFFF, .named, false, false, false⟩
/-- LAC_STATUS (RO). -/
def row_lac_status : RegRow :=
  ⟨0x150010, [], fun _ => 0x0, true, 0x0, 0x0, none, 0x0, 0x0, 0x0,
    0x0, .named, false, false, false⟩
/-- LAC_CURSOR (RW (host, Docent-M)). -/
def row_lac_cursor : RegRow :=
  ⟨0x150018, [], fun _ => 0x0, false, 0xFFFFFFFF, 0xFFFFFFFF, none, 0x0, 0x0, 0x0,
    0x0, .named, false, true, true⟩
/-- LAC_WINDOW (RO). -/
def row_lac_window : RegRow :=
  ⟨0x150020, [(0x4, 8)], fun _ => 0x0, false, 0x0, 0x0, none, 0x0, 0x0, 0x0,
    0x0, .named, false, false, false⟩
/-- LAC_ACK (RW (host, Docent-M)). -/
def row_lac_ack : RegRow :=
  ⟨0x150040, [], fun _ => 0x0, false, 0xFFFFFFFF, 0xFFFFFFFF, none, 0x0, 0x0, 0x0,
    0x0, .named, false, true, true⟩
/-- LAC_ERR (W1C (Docent-M, host)). -/
def row_lac_err : RegRow :=
  ⟨0x150048, [], fun _ => 0x0, false, 0x0, 0x0, none, 0x0, 0x7, 0x0,
    0x0, .named, false, true, true⟩
/-- LAC_COUNTS (RC). -/
def row_lac_counts : RegRow :=
  ⟨0x150050, [], fun _ => 0x0, true, 0x0, 0x0, none, 0x0, 0x0, 0xFFFFFFFFFFFFFFFF,
    0x0, .named, false, false, false⟩
/-- The registers of block LAC. -/
def rowsLAC : List RegRow :=
  [row_lac_ring, row_lac_cfg, row_lac_status, row_lac_cursor,
   row_lac_window, row_lac_ack, row_lac_err, row_lac_counts]
/-- BLK_CFG (CAT). -/
def row_blk_cfg : RegRow :=
  ⟨0x160000, [], fun _ => 0x400B, false, 0x0, 0x0, none, 0x0, 0x0, 0x0,
    0xFFFF0F, .named, false, false, false⟩
/-- BLK_POL (CAT). -/
def row_blk_pol : RegRow :=
  ⟨0x160008, [(0x8, 4)], fun _ => 0x0, false, 0x0, 0x0, none, 0x0, 0x0, 0x0,
    0x3FFFFFF, .named, false, false, false⟩
/-- BLK_CTL (RW (Keeper-M)). -/
def row_blk_ctl : RegRow :=
  ⟨0x160030, [], fun _ => 0x0, false, 0x1, 0x7, none, 0x6, 0x0, 0x0,
    0x0, .named, true, false, false⟩
/-- BLK_STATUS (RO). -/
def row_blk_status : RegRow :=
  ⟨0x160038, [], fun _ => 0xFFFFF000000, true, 0x0, 0x0, none, 0x0, 0x0, 0x0,
    0x0, .named, false, false, false⟩
/-- BLK_ERR (W1C (Docent-M, host)). -/
def row_blk_err : RegRow :=
  ⟨0x160040, [], fun _ => 0x0, false, 0x0, 0x0, none, 0x0, 0x3FF, 0x0,
    0x0, .named, false, true, true⟩
/-- BLK_COUNTS (RC). -/
def row_blk_counts : RegRow :=
  ⟨0x160048, [], fun _ => 0x0, true, 0x0, 0x0, none, 0x0, 0x0, 0xFFFFFFFFFFFFFFFF,
    0x0, .named, false, false, false⟩
/-- BLK_LAST_REJECT (RO). -/
def row_blk_last_reject : RegRow :=
  ⟨0x160050, [], fun _ => 0x0, true, 0x0, 0x0, none, 0x0, 0x0, 0x0,
    0x0, .named, false, false, false⟩
/-- BLK_LAST_LANES (RO). -/
def row_blk_last_lanes : RegRow :=
  ⟨0x160058, [], fun _ => 0x0, false, 0x0, 0x0, none, 0x0, 0x0, 0x0,
    0x0, .named, false, false, false⟩
/-- BLK_PLATE (RO). -/
def row_blk_plate : RegRow :=
  ⟨0x160060, [], fun _ => 0x0, true, 0x0, 0x0, none, 0x0, 0x0, 0x0,
    0x0, .named, false, false, false⟩
/-- BLK_PLL (RO). -/
def row_blk_pll : RegRow :=
  ⟨0x160068, [], fun _ => 0x0, false, 0x0, 0x0, none, 0x0, 0x0, 0x0,
    0x0, .named, false, false, false⟩
/-- BLK_IKL_CFG (CAT). -/
def row_blk_ikl_cfg : RegRow :=
  ⟨0x160070, [], fun _ => 0x20000, false, 0x0, 0x0, none, 0x0, 0x0, 0x0,
    0x3FFFF, .named, false, false, false⟩
/-- BLK_LANE (mixed). -/
def row_blk_lane : RegRow :=
  ⟨0x161000, [(0x8, 120)], fun _ => 0x1F007C, true, 0x0, 0x0, none, 0x0, 0x0, 0xFFFF00000000,
    0x0, .named, false, false, false⟩
/-- The registers of block BLK. -/
def rowsBLK : List RegRow :=
  [row_blk_cfg, row_blk_pol, row_blk_ctl, row_blk_status,
   row_blk_err, row_blk_counts, row_blk_last_reject, row_blk_last_lanes,
   row_blk_plate, row_blk_pll, row_blk_ikl_cfg, row_blk_lane]
/-- MEM_CFG (CAT). -/
def row_mem_cfg : RegRow :=
  ⟨0x180000, [], fun _ => 0x1, false, 0x0, 0x0, none, 0x0, 0x0, 0x0,
    0x3F, .named, false, false, false⟩
/-- MEM_AGE (CAT). -/
def row_mem_age : RegRow :=
  ⟨0x180008, [], fun _ => 0x7D0032032032032, true, 0x0, 0x0, none, 0x0, 0x0, 0x0,
    0xFFFFFFFFFFFFFFF, .named, false, false, false⟩
/-- MEM_URGENT (CAT). -/
def row_mem_urgent : RegRow :=
  ⟨0x180010, [], fun _ => 0xA0A, false, 0x0, 0x0, none, 0x0, 0x0, 0x0,
    0xFFFF, .named, false, false, false⟩
/-- MEM_FABRIC_TIMEOUT (CAT). -/
def row_mem_fabric_timeout : RegRow :=
  ⟨0x180018, [], fun _ => 0x14, false, 0x0, 0x0, none, 0x0, 0x0, 0x0,
    0xFFFF, .named, false, false, false⟩
/-- MEM_REFRESH (CAT). -/
def row_mem_refresh : RegRow :=
  ⟨0x180020, [], fun _ => 0xFA, false, 0x0, 0x0, none, 0x0, 0x0, 0x0,
    0xFFF, .named, false, false, false⟩
/-- MEM_SR (CAT). -/
def row_mem_sr : RegRow :=
  ⟨0x180028, [], fun _ => 0x10064, false, 0x0, 0x0, none, 0x0, 0x0, 0x0,
    0x1FFFF, .named, false, false, false⟩
/-- MEM_CTL (RW (Keeper-M)). -/
def row_mem_ctl : RegRow :=
  ⟨0x180030, [], fun _ => 0x0, false, 0xE, 0x11, none, 0x11, 0x0, 0x0,
    0x0, .named, true, false, false⟩
/-- MEM_STATUS (RO). -/
def row_mem_status : RegRow :=
  ⟨0x180038, [], fun _ => 0x0, false, 0x0, 0x0, none, 0x0, 0x0, 0x0,
    0x0, .named, false, false, false⟩
/-- MEM_ERR (W1C (Docent-M, host)). -/
def row_mem_err : RegRow :=
  ⟨0x180040, [], fun _ => 0x0, false, 0x0, 0x0, none, 0x0, 0x3FF, 0x0,
    0x0, .named, false, true, true⟩
/-- MEM_COUNTS (RC). -/
def row_mem_counts : RegRow :=
  ⟨0x180048, [], fun _ => 0x0, true, 0x0, 0x0, none, 0x0, 0x0, 0xFFFFFFFFFFFFFFFF,
    0x0, .named, false, false, false⟩
/-- MEM_LAST_ERR (RO). -/
def row_mem_last_err : RegRow :=
  ⟨0x180050, [], fun _ => 0x0, true, 0x0, 0x0, none, 0x0, 0x0, 0x0,
    0x0, .named, false, false, false⟩
/-- MEM_CH_STATUS (RO). -/
def row_mem_ch_status : RegRow :=
  ⟨0x181000, [(0x800, 6)], fun _ => 0x0, false, 0x0, 0x0, none, 0x0, 0x0, 0x0,
    0x0, .named, false, false, false⟩
/-- MEM_CH_TRAIN (RO). -/
def row_mem_ch_train : RegRow :=
  ⟨0x181100, [(0x800, 6), (0x8, 10)], fun _ => 0x0, false, 0x0, 0x0, none, 0x0, 0x0, 0x0,
    0x0, .named, false, false, false⟩
/-- MEM_CH_DELAY (RW (Keeper-M)). -/
def row_mem_ch_delay : RegRow :=
  ⟨0x181200, [(0x800, 6), (0x8, 10)], fun _ => 0x0, false, 0x7FFFFF, 0x0, none, 0x0, 0x0, 0x0,
    0x0, .named, true, false, false⟩
/-- MEM_CH_REMAP (RO). -/
def row_mem_ch_remap : RegRow :=
  ⟨0x181300, [(0x800, 6), (0x8, 16)], fun _ => 0x0, true, 0x0, 0x0, none, 0x0, 0x0, 0x0,
    0x0, .named, false, false, false⟩
/-- MEM_WITHDRAWN (RO). -/
def row_mem_withdrawn : RegRow :=
  ⟨0x186000, [(0x8, 256)], fun _ => 0x0, true, 0x0, 0x0, none, 0x0, 0x0, 0x0,
    0x0, .named, false, false, false⟩
/-- The registers of block MEM. -/
def rowsMEM : List RegRow :=
  [row_mem_cfg, row_mem_age, row_mem_urgent, row_mem_fabric_timeout,
   row_mem_refresh, row_mem_sr, row_mem_ctl, row_mem_status,
   row_mem_err, row_mem_counts, row_mem_last_err, row_mem_ch_status,
   row_mem_ch_train, row_mem_ch_delay, row_mem_ch_remap, row_mem_withdrawn]
/-- SCR_CFG (CAT). -/
def row_scr_cfg : RegRow :=
  ⟨0x190000, [], fun _ => 0x1818, false, 0x0, 0x0, none, 0x0, 0x0, 0x0,
    0xFFFF, .named, false, false, false⟩
/-- SCR_CTL (RW (Keeper-M)). -/
def row_scr_ctl : RegRow :=
  ⟨0x190008, [], fun _ => 0x0, false, 0x1, 0x1, none, 0x0, 0x0, 0x0,
    0x0, .named, true, false, false⟩
/-- SCR_STATUS (RO). -/
def row_scr_status : RegRow :=
  ⟨0x190010, [], fun _ => 0x0, true, 0x0, 0x0, none, 0x0, 0x0, 0x0,
    0x0, .named, false, false, false⟩
/-- SCR_ERR (W1C (Docent-M, host)). -/
def row_scr_err : RegRow :=
  ⟨0x190018, [], fun _ => 0x0, false, 0x0, 0x0, none, 0x0, 0x7, 0x0,
    0x0, .named, false, true, true⟩
/-- SCR_COUNTS (RC). -/
def row_scr_counts : RegRow :=
  ⟨0x190020, [], fun _ => 0x0, true, 0x0, 0x0, none, 0x0, 0x0, 0xFFFFFFFFFFFFFFFF,
    0x0, .named, false, false, false⟩
/-- SCR_LAST (RO). -/
def row_scr_last : RegRow :=
  ⟨0x190028, [], fun _ => 0x0, true, 0x0, 0x0, none, 0x0, 0x0, 0x0,
    0x0, .named, false, false, false⟩
/-- The registers of block SCR. -/
def rowsSCR : List RegRow :=
  [row_scr_cfg, row_scr_ctl, row_scr_status, row_scr_err,
   row_scr_counts, row_scr_last]
/-- SVY_P_CAM (CAT). -/
def row_svy_p_cam : RegRow :=
  ⟨0x1A0000, [(0x8000, 2)], fun _ => 0x100010009B42, true, 0x0, 0x0, none, 0x0, 0x0, 0x0,
    0x1FFF1FFFFFFF, .named, false, false, false⟩
/-- SVY_P_I2C (CAT). -/
def row_svy_p_i2c : RegRow :=
  ⟨0x1A0008, [(0x8000, 2)], fun _ => 0x640A1480, false, 0x0, 0x0, none, 0x0, 0x0, 0x0,
    0xFFFFFFFF, .named, false, false, false⟩
/-- SVY_P_CTL (RW (Keeper-M, Docent-M)). -/
def row_svy_p_ctl : RegRow :=
  ⟨0x1A0010, [(0x8000, 2)], fun _ => 0x0, false, 0x7, 0x1, none, 0x0, 0x0, 0x0,
    0x0, .named, true, true, false⟩
/-- SVY_P_STATUS (RO). -/
def row_svy_p_status : RegRow :=
  ⟨0x1A0018, [(0x8000, 2)], fun _ => 0x0, true, 0x0, 0x0, none, 0x0, 0x0, 0x0,
    0x0, .named, false, false, false⟩
/-- SVY_P_PROC (RW (Docent-M)). -/
def row_svy_p_proc : RegRow :=
  ⟨0x1A0020, [(0x8000, 2)], fun _ => 0xFF0000064000, true, 0xFFFF000FFFFF, 0xFFFFFFFFFFFFFFFF, none, 0x0, 0x0, 0x0,
    0x0, .named, false, true, false⟩
/-- SVY_P_RATIO (RW (Docent-M)). -/
def row_svy_p_ratio : RegRow :=
  ⟨0x1A0028, [(0x8000, 2)], fun _ => 0x1000100, false, 0xFFFFFFFF, 0xFFFFFFFF, none, 0x0, 0x0, 0x0,
    0x0, .named, false, true, false⟩
/-- SVY_P_ZONE (RW (Docent-M)). -/
def row_svy_p_zone : RegRow :=
  ⟨0x1A0030, [(0x8000, 2)], fun _ => 0xFF0FF0F0F000000, true, 0xFFFFFF7F7FFFFFFF, 0xFFFFFFFFFFFFFFFF, none, 0x0, 0x0, 0x0,
    0x0, .named, false, true, false⟩
/-- SVY_P_DEFECT_CTL (RW (Docent-M)). -/
def row_svy_p_defect_ctl : RegRow :=
  ⟨0x1A0038, [(0x8000, 2)], fun _ => 0x0, false, 0x1FFF, 0x10000, none, 0x10000, 0x0, 0x0,
    0x0, .named, false, true, false⟩
/-- SVY_P_SET_SUBMIT (WO (Docent-M)). -/
def row_svy_p_set_submit : RegRow :=
  ⟨0x1A0040, [(0x8000, 2)], fun _ => 0x0, false, 0x0, 0xFFFFFFFF00000000, none, 0x3FFF80, 0x0, 0x0,
    0x0, .named, false, true, false⟩
/-- SVY_P_SET_STATUS (mixed). -/
def row_svy_p_set_status : RegRow :=
  ⟨0x1A0048, [(0x8000, 2)], fun _ => 0x0, true, 0x0, 0x0, none, 0x0, 0x0, 0xFFFF000000000000,
    0x0, .named, false, false, false⟩
/-- SVY_P_REC_RING (CAT). -/
def row_svy_p_rec_ring : RegRow :=
  ⟨0x1A0050, [(0x8000, 2)], fun _ => 0x30000000000, true, 0x0, 0x0, none, 0x0, 0x0, 0x0,
    0xFFFFFF00000, .named, false, false, false⟩
/-- SVY_P_FRAME_RING (CAT). -/
def row_svy_p_frame_ring : RegRow :=
  ⟨0x1A0058, [(0x8000, 2)], fun _ => 0x1038000000000, true, 0x0, 0x0, none, 0x0, 0x0, 0x0,
    0x7FFFFFFF00000, .named, false, false, false⟩
/-- SVY_P_POS (RO). -/
def row_svy_p_pos : RegRow :=
  ⟨0x1A0060, [(0x8000, 2)], fun _ => 0x0, true, 0x0, 0x0, none, 0x0, 0x0, 0x0,
    0x0, .named, false, false, false⟩
/-- SVY_P_ACK (RW (Docent-M, host)). -/
def row_svy_p_ack : RegRow :=
  ⟨0x1A0068, [(0x8000, 2)], fun _ => 0x0, true, 0xFFFFFFFFFFFFFFFF, 0xFFFFFFFFFFFFFFFF, none, 0x0, 0x0, 0x0,
    0x0, .named, false, true, true⟩
/-- SVY_P_ERR (W1C (Docent-M, host)). -/
def row_svy_p_err : RegRow :=
  ⟨0x1A0070, [(0x8000, 2)], fun _ => 0x0, false, 0x0, 0x0, none, 0x0, 0x3FFF, 0x0,
    0x0, .named, false, true, true⟩
/-- SVY_P_COUNTS (RC). -/
def row_svy_p_counts : RegRow :=
  ⟨0x1A0078, [(0x8000, 2)], fun _ => 0x0, true, 0x0, 0x0, none, 0x0, 0x0, 0xFFFFFFFFFFFFFFFF,
    0x0, .named, false, false, false⟩
/-- SVY_P_LAST_FOREIGN (RO). -/
def row_svy_p_last_foreign : RegRow :=
  ⟨0x1A0080, [(0x8000, 2)], fun _ => 0x0, false, 0x0, 0x0, none, 0x0, 0x0, 0x0,
    0x0, .named, false, false, false⟩
/-- SVY_P_LIN (CAT). -/
def row_svy_p_lin : RegRow :=
  ⟨0x1A2000, [(0x8000, 2), (0x4, 2048)], fun ix => let w := ix.getD 1 0; (32 * w + 16) * 65536 + 32 * w, false, 0x0, 0x0, none, 0x0, 0x0, 0x0,
    0xFFFFFFFF, .named, false, false, false⟩
/-- SVY_P_DEFECT (RW (Docent-M)). -/
def row_svy_p_defect : RegRow :=
  ⟨0x1A4000, [(0x8000, 2), (0x4, 4096)], fun _ => 0x0, false, 0xFFF0FFF, 0x0, none, 0x0, 0x0, 0x0,
    0x0, .named, false, true, false⟩
/-- The registers of block SVY. -/
def rowsSVY : List RegRow :=
  [row_svy_p_cam, row_svy_p_i2c, row_svy_p_ctl, row_svy_p_status,
   row_svy_p_proc, row_svy_p_ratio, row_svy_p_zone, row_svy_p_defect_ctl,
   row_svy_p_set_submit, row_svy_p_set_status, row_svy_p_rec_ring, row_svy_p_frame_ring,
   row_svy_p_pos, row_svy_p_ack, row_svy_p_err, row_svy_p_counts,
   row_svy_p_last_foreign, row_svy_p_lin, row_svy_p_defect]
/-- AXM_CFG (CAT). -/
def row_axm_cfg : RegRow :=
  ⟨0x1B0000, [(0x20, 6)], fun _ => 0x1E848000830D40, true, 0x0, 0x0, none, 0x0, 0x0, 0x0,
    0xFFFFFFFF03FFFFFF, .named, false, false, false⟩
/-- AXM_SOFT (CAT). -/
def row_axm_soft : RegRow :=
  ⟨0x1B0008, [(0x20, 6)], fun _ => 0x7FFFFFFF80000000, true, 0x0, 0x0, none, 0x0, 0x0, 0x0,
    0xFFFFFFFFFFFFFFFF, .named, false, false, false⟩
/-- AXM_HOME (CAT). -/
def row_axm_home : RegRow :=
  ⟨0x1B0010, [(0x20, 6)], fun _ => 0xF4240003E804E20, true, 0x0, 0x0, none, 0x0, 0x0, 0x0,
    0xFFFFFF0FFFFFFFFF, .named, false, false, false⟩
/-- AXM_HOMEPOS (CAT). -/
def row_axm_homepos : RegRow :=
  ⟨0x1B0018, [(0x20, 6)], fun _ => 0x271000000000, true, 0x0, 0x0, none, 0x0, 0x0, 0x0,
    0xFFFFFFFFFFFFFF, .named, false, false, false⟩
/-- AXM_TIMING (CAT). -/
def row_axm_timing : RegRow :=
  ⟨0x1B0100, [], fun _ => 0x32646414, false, 0x0, 0x0, none, 0x0, 0x0, 0x0,
    0xFFFFFFFF, .named, false, false, false⟩
/-- AXM_RELEASE (CAT). -/
def row_axm_release : RegRow :=
  ⟨0x1B0108, [], fun _ => 0x14, false, 0x0, 0x0, none, 0x0, 0x0, 0x0,
    0xFFFF, .named, false, false, false⟩
/-- AXM_CTL (RW (Keeper-M, Docent-M)). -/
def row_axm_ctl : RegRow :=
  ⟨0x1B0200, [], fun _ => 0x0, false, 0x1, 0x3, none, 0x2, 0x0, 0x0,
    0x0, .named, true, true, false⟩
/-- AXM_CMD (CMDw RW (Docent-M); PUSH WO (Docent-M)). -/
def row_axm_cmd : RegRow :=
  ⟨0x1B0210, [(0x8, 6)], fun _ => 0x0, true, 0xFFFFFFFFFFFFFFFF, 0x0, none, 0x0, 0x0, 0x0,
    0x0, .named, false, true, false⟩
/-- AXM_PUSH (CMDw RW (Docent-M); PUSH WO (Docent-M)). -/
def row_axm_push : RegRow :=
  ⟨0x1B0240, [], fun _ => 0x0, true, 0x0, 0xFFFFFFFF00000000, none, 0x1, 0x0, 0x0,
    0x0, .named, false, true, false⟩
/-- AXM_STATUS (RO). -/
def row_axm_status : RegRow :=
  ⟨0x1B0250, [], fun _ => 0x0, true, 0x0, 0x0, none, 0x0, 0x0, 0x0,
    0x0, .named, false, false, false⟩
/-- AXM_POS (RO). -/
def row_axm_pos : RegRow :=
  ⟨0x1B0300, [(0x8, 6)], fun _ => 0x0, true, 0x0, 0x0, none, 0x0, 0x0, 0x0,
    0x0, .named, false, false, false⟩
/-- AXM_ERR (W1C (Docent-M, host)). -/
def row_axm_err : RegRow :=
  ⟨0x1B0400, [], fun _ => 0x0, false, 0x0, 0x0, none, 0x0, 0x3FF, 0x0,
    0x0, .named, false, true, true⟩
/-- AXM_COUNTS (RC). -/
def row_axm_counts : RegRow :=
  ⟨0x1B0408, [], fun _ => 0x0, true, 0x0, 0x0, none, 0x0, 0x0, 0xFFFFFFFFFFFFFFFF,
    0x0, .named, false, false, false⟩
/-- AXM_LAST_STOP (RO). -/
def row_axm_last_stop : RegRow :=
  ⟨0x1B0410, [], fun _ => 0x0, true, 0x0, 0x0, none, 0x0, 0x0, 0x0,
    0x0, .named, false, false, false⟩
/-- The registers of block AXM. -/
def rowsAXM : List RegRow :=
  [row_axm_cfg, row_axm_soft, row_axm_home, row_axm_homepos,
   row_axm_timing, row_axm_release, row_axm_ctl, row_axm_cmd,
   row_axm_push, row_axm_status, row_axm_pos, row_axm_err,
   row_axm_counts, row_axm_last_stop]
/-- TIM_CFG (CAT). -/
def row_tim_cfg : RegRow :=
  ⟨0x1C0000, [], fun _ => 0x1E08, true, 0x0, 0x0, none, 0x0, 0x0, 0x0,
    0xFFFF3FFFFFFF, .named, false, false, false⟩
/-- TIM_CLOCK_ID (CAT). -/
def row_tim_clock_id : RegRow :=
  ⟨0x1C0008, [], fun _ => 0x0, true, 0x0, 0x0, none, 0x0, 0x0, 0x0,
    0xFFFFFFFFFFFFFFFF, .named, false, false, false⟩
/-- TIM_LATENCY (CAT). -/
def row_tim_latency : RegRow :=
  ⟨0x1C0010, [], fun _ => 0x0, true, 0x0, 0x0, none, 0x0, 0x0, 0x0,
    0xFFFFFFFFFFFFFFFF, .named, false, false, false⟩
/-- TIM_SERVO (CAT). -/
def row_tim_servo : RegRow :=
  ⟨0x1C0020, [(0x8, 2)], fun _ => 0x6432271000400500, true, 0x0, 0x0, none, 0x0, 0x0, 0x0,
    0xFFFFFFFFFFFFFFFF, .named, false, false, false⟩
/-- TIM_SAMPLE (WO (Docent-M, host)). -/
def row_tim_sample : RegRow :=
  ⟨0x1C0040, [(0x8, 2)], fun _ => 0x0, true, 0x0, 0xFFFFFFFF00000000, none, 0x1FFFFFFFFFFFF, 0x0, 0x0,
    0x0, .named, false, true, true⟩
/-- TIM_SET (WO (Docent-M, host)). -/
def row_tim_set : RegRow :=
  ⟨0x1C0050, [(0x8, 3)], fun _ => 0x0, true, 0x0, 0xFFFFFFFF00000000, none, 0xFFFFFFFFFFFF, 0x0, 0x0,
    0x0, .named, false, true, true⟩
/-- TIM_STATUS (RO). -/
def row_tim_status : RegRow :=
  ⟨0x1C0070, [], fun _ => 0x0, false, 0x0, 0x0, none, 0x0, 0x0, 0x0,
    0x0, .named, false, false, false⟩
/-- TIM_ERR (W1C (Docent-M, host)). -/
def row_tim_err : RegRow :=
  ⟨0x1C0078, [], fun _ => 0x0, false, 0x0, 0x0, none, 0x0, 0xFF, 0x0,
    0x0, .named, false, true, true⟩
/-- TIM_COUNTS (RC). -/
def row_tim_counts : RegRow :=
  ⟨0x1C0080, [], fun _ => 0x0, true, 0x0, 0x0, none, 0x0, 0x0, 0xFFFFFFFFFFFFFFFF,
    0x0, .named, false, false, false⟩
/-- TIM_SERVO_STATE (RO). -/
def row_tim_servo_state : RegRow :=
  ⟨0x1C0088, [(0x8, 2)], fun _ => 0x0, true, 0x0, 0x0, none, 0x0, 0x0, 0x0,
    0x0, .named, false, false, false⟩
/-- TIM_TB_SEC (RO). -/
def row_tim_tb_sec : RegRow :=
  ⟨0x1C0100, [(0x10, 3)], fun _ => 0x0, true, 0x0, 0x0, none, 0x0, 0x0, 0x0,
    0x0, .named, false, false, false⟩
/-- TIM_TB_NS (RO). -/
def row_tim_tb_ns : RegRow :=
  ⟨0x1C0108, [(0x10, 3)], fun _ => 0x0, true, 0x0, 0x0, none, 0x0, 0x0, 0x0,
    0x0, .named, false, false, false⟩
/-- TIM_TXTS_LO (RO). -/
def row_tim_txts_lo : RegRow :=
  ⟨0x1C0200, [], fun _ => 0x0, true, 0x0, 0x0, none, 0x0, 0x0, 0x0,
    0x0, .named, false, false, false⟩
/-- TIM_TXTS_HI (RO). -/
def row_tim_txts_hi : RegRow :=
  ⟨0x1C0208, [], fun _ => 0x0, true, 0x0, 0x0, none, 0x0, 0x0, 0x0,
    0x0, .named, false, false, false⟩
/-- TIM_ETH_CFG (CFG CAT; RX RW (Docent-M); TX WO (Docent-M)). -/
def row_tim_eth_cfg : RegRow :=
  ⟨0x1C0300, [(0x20, 2)], fun _ => 0x0, true, 0x0, 0x0, none, 0x0, 0x0, 0x0,
    0x1FFFFFFFFFFFFF, .named, false, false, false⟩
/-- TIM_ETH_RX (CFG CAT; RX RW (Docent-M); TX WO (Docent-M)). -/
def row_tim_eth_rx : RegRow :=
  ⟨0x1C0308, [(0x20, 2)], fun _ => 0x0, true, 0x3F, 0x0, none, 0x0, 0x0, 0x0,
    0x0, .named, false, true, false⟩
/-- TIM_ETH_TX (CFG CAT; RX RW (Docent-M); TX WO (Docent-M)). -/
def row_tim_eth_tx : RegRow :=
  ⟨0x1C0310, [(0x20, 2)], fun _ => 0x0, true, 0x0, 0xFFFFFFFF00000000, none, 0xFFFF0003FFFFFFFF, 0x0, 0x0,
    0x0, .named, false, true, false⟩
/-- The registers of block TIM. -/
def rowsTIM : List RegRow :=
  [row_tim_cfg, row_tim_clock_id, row_tim_latency, row_tim_servo,
   row_tim_sample, row_tim_set, row_tim_status, row_tim_err,
   row_tim_counts, row_tim_servo_state, row_tim_tb_sec, row_tim_tb_ns,
   row_tim_txts_lo, row_tim_txts_hi, row_tim_eth_cfg, row_tim_eth_rx,
   row_tim_eth_tx]
/-- TWN_CFG (CAT). -/
def row_twn_cfg : RegRow :=
  ⟨0x1D0000, [], fun _ => 0xA020F00, false, 0x0, 0x0, none, 0x0, 0x0, 0x0,
    0xFF071F03, .named, false, false, false⟩
/-- TWN_CTL (RW (Keeper-M)). -/
def row_twn_ctl : RegRow :=
  ⟨0x1D0008, [], fun _ => 0x0, false, 0x0, 0x1, none, 0x1, 0x0, 0x0,
    0x0, .named, true, false, false⟩
/-- TWN_STATUS (RO). -/
def row_twn_status : RegRow :=
  ⟨0x1D0010, [], fun _ => 0x0, true, 0x0, 0x0, none, 0x0, 0x0, 0x0,
    0x0, .named, false, false, false⟩
/-- TWN_PEER (RO). -/
def row_twn_peer : RegRow :=
  ⟨0x1D0018, [], fun _ => 0x0, true, 0x0, 0x0, none, 0x0, 0x0, 0x0,
    0x0, .named, false, false, false⟩
/-- TWN_PEER_POS (RO). -/
def row_twn_peer_pos : RegRow :=
  ⟨0x1D0020, [], fun _ => 0x0, true, 0x0, 0x0, none, 0x0, 0x0, 0x0,
    0x0, .named, false, false, false⟩
/-- TWN_ERR (W1C (Docent-M, host)). -/
def row_twn_err : RegRow :=
  ⟨0x1D0028, [], fun _ => 0x0, false, 0x0, 0x0, none, 0x0, 0x1FF, 0x0,
    0x0, .named, false, true, true⟩
/-- TWN_COUNTS (RC). -/
def row_twn_counts : RegRow :=
  ⟨0x1D0030, [], fun _ => 0x0, true, 0x0, 0x0, none, 0x0, 0x0, 0xFFFFFFFFFFFFFFFF,
    0x0, .named, false, false, false⟩
/-- TWN_LAST_MISMATCH (RO). -/
def row_twn_last_mismatch : RegRow :=
  ⟨0x1D0038, [], fun _ => 0x0, true, 0x0, 0x0, none, 0x0, 0x0, 0x0,
    0x0, .named, false, false, false⟩
/-- TWN_LAST_TAKEOVER (RO). -/
def row_twn_last_takeover : RegRow :=
  ⟨0x1D0040, [], fun _ => 0x0, true, 0x0, 0x0, none, 0x0, 0x0, 0x0,
    0x0, .named, false, false, false⟩
/-- The registers of block TWN. -/
def rowsTWN : List RegRow :=
  [row_twn_cfg, row_twn_ctl, row_twn_status, row_twn_peer,
   row_twn_peer_pos, row_twn_err, row_twn_counts, row_twn_last_mismatch,
   row_twn_last_takeover]
/-- IKL_CTL (RW (Keeper-M)). -/
def row_ikl_ctl : RegRow :=
  ⟨0x170000, [], fun _ => 0x0, false, 0x1, 0x7, none, 0x6, 0x0, 0x0,
    0x0, .named, true, false, false⟩
/-- IKL_STATUS (RO). -/
def row_ikl_status : RegRow :=
  ⟨0x170008, [], fun _ => 0x0, false, 0x0, 0x0, none, 0x0, 0x0, 0x0,
    0x0, .named, false, false, false⟩
/-- IKL_ERR (W1C (Docent-M, host)). -/
def row_ikl_err : RegRow :=
  ⟨0x170010, [], fun _ => 0x0, false, 0x0, 0x0, none, 0x0, 0x7, 0x0,
    0x0, .named, false, true, true⟩
/-- IKL_COUNTS (RC). -/
def row_ikl_counts : RegRow :=
  ⟨0x170018, [], fun _ => 0x0, true, 0x0, 0x0, none, 0x0, 0x0, 0xFFFFFFFF,
    0x0, .named, false, false, false⟩
/-- The registers of block IKL. -/
def rowsIKL : List RegRow :=
  [row_ikl_ctl, row_ikl_status, row_ikl_err, row_ikl_counts]
/-- BOOT_CFG (CAT). -/
def row_boot_cfg : RegRow :=
  ⟨0x0, [], fun _ => 0xA013C, false, 0x0, 0x0, none, 0x0, 0x0, 0x0,
    0xFF01FF, .named, false, false, false⟩
/-- BOOT_STATUS (RO). -/
def row_boot_status : RegRow :=
  ⟨0x8, [], fun _ => 0x1, true, 0x0, 0x0, none, 0x0, 0x0, 0x0,
    0x0, .named, false, false, false⟩
/-- BOOT_REASON (RO). -/
def row_boot_reason : RegRow :=
  ⟨0x10, [], fun _ => 0x0, true, 0x0, 0x0, none, 0x0, 0x0, 0x0,
    0x0, .named, false, false, false⟩
/-- BOOT_CAT (RO). -/
def row_boot_cat : RegRow :=
  ⟨0x18, [], fun _ => 0x0, true, 0x0, 0x0, none, 0x0, 0x0, 0x0,
    0x0, .named, false, false, false⟩
/-- BOOT_CTL (WO (host, Keeper-M, Docent-M)). -/
def row_boot_ctl : RegRow :=
  ⟨0x20, [], fun _ => 0x0, false, 0x0, 0xFFFFFFFF, none, 0x7, 0x0, 0x0,
    0x0, .named, true, true, true⟩
/-- BOOT_FUSE (RO). -/
def row_boot_fuse : RegRow :=
  ⟨0x28, [], fun _ => 0x0, false, 0x0, 0x0, none, 0x0, 0x0, 0x0,
    0x0, .named, false, false, false⟩
/-- BOOT_FUSE_DATA (WO (host), STORAGE only). -/
def row_boot_fuse_data : RegRow :=
  ⟨0x30, [(0x8, 4)], fun _ => 0x0, true, 0x0, 0x0, none, 0xFFFFFFFFFFFFFFFF, 0x0, 0x0,
    0x0, .named, false, false, true⟩
/-- BOOT_FUSE_PROG (WO (host), STORAGE only). -/
def row_boot_fuse_prog : RegRow :=
  ⟨0x50, [], fun _ => 0x0, true, 0x0, 0xFFFFFFFFFFFFFFFF, none, 0xF, 0x0, 0x0,
    0x0, .named, false, false, true⟩
/-- BOOT_FLASH_ADDR (ADDR RW, CMD WO (host, Docent-M); STATUS RO). -/
def row_boot_flash_addr : RegRow :=
  ⟨0x58, [], fun _ => 0x0, false, 0xFFFFFFF, 0x0, none, 0x0, 0x0, 0x0,
    0x0, .named, false, true, true⟩
/-- BOOT_FLASH_CMD (ADDR RW, CMD WO (host, Docent-M); STATUS RO). -/
def row_boot_flash_cmd : RegRow :=
  ⟨0x60, [], fun _ => 0x0, false, 0x0, 0xFFFFFFFF, none, 0x1FFF0003, 0x0, 0x0,
    0x0, .named, false, true, true⟩
/-- BOOT_FLASH_STATUS (ADDR RW, CMD WO (host, Docent-M); STATUS RO). -/
def row_boot_flash_status : RegRow :=
  ⟨0x68, [], fun _ => 0x0, false, 0x0, 0x0, none, 0x0, 0x0, 0x0,
    0x0, .named, false, false, false⟩
/-- BOOT_ID (RO). -/
def row_boot_id : RegRow :=
  ⟨0xF000, [], fun _ => 0x10262B1, false, 0x0, 0x0, none, 0x0, 0x0, 0x0,
    0x0, .named, false, false, false⟩
/-- The registers of block BOOT. -/
def rowsBOOT : List RegRow :=
  [row_boot_cfg, row_boot_status, row_boot_reason, row_boot_cat,
   row_boot_ctl, row_boot_fuse, row_boot_fuse_data, row_boot_fuse_prog,
   row_boot_flash_addr, row_boot_flash_cmd, row_boot_flash_status, row_boot_id]
/-- CLK_MON_CFG (CAT). -/
def row_clk_mon_cfg : RegRow :=
  ⟨0x10000, [], fun _ => 0x3E8, false, 0x0, 0x0, none, 0x0, 0x0, 0x0,
    0xFFFF, .named, false, false, false⟩
/-- CLK_STATUS (RO). -/
def row_clk_status : RegRow :=
  ⟨0x10008, [], fun _ => 0x0, false, 0x0, 0x0, none, 0x0, 0x0, 0x0,
    0x0, .named, false, false, false⟩
/-- CLK_ERR (W1C (Docent-M, host)). -/
def row_clk_err : RegRow :=
  ⟨0x10010, [], fun _ => 0x0, false, 0x0, 0x0, none, 0x0, 0x1FFF, 0x0,
    0x0, .named, false, true, true⟩
/-- CLK_LAST (RO). -/
def row_clk_last : RegRow :=
  ⟨0x10018, [], fun _ => 0x0, false, 0x0, 0x0, none, 0x0, 0x0, 0x0,
    0x0, .named, false, false, false⟩
/-- The registers of block CLK. -/
def rowsCLK : List RegRow :=
  [row_clk_mon_cfg, row_clk_status, row_clk_err, row_clk_last]
/-- SAF_CFG (CAT). -/
def row_saf_cfg : RegRow :=
  ⟨0x1E0000, [], fun _ => 0x18A0960064, true, 0x0, 0x0, none, 0x0, 0x0, 0x0,
    0xFFFFFFFFFF, .named, false, false, false⟩
/-- SAF_WDOG (WO (Keeper-M)). -/
def row_saf_wdog : RegRow :=
  ⟨0x1E0008, [], fun _ => 0x0, false, 0x0, 0xFFFFFFFF, none, 0xFFFF, 0x0, 0x0,
    0x0, .named, true, false, false⟩
/-- SAF_DEMAND (WO (Keeper-M)). -/
def row_saf_demand : RegRow :=
  ⟨0x1E0010, [], fun _ => 0x0, false, 0x0, 0xFFFFFFFF, none, 0x1, 0x0, 0x0,
    0x0, .named, true, false, false⟩
/-- SAF_STATUS (RO). -/
def row_saf_status : RegRow :=
  ⟨0x1E0018, [], fun _ => 0x0, false, 0x0, 0x0, none, 0x0, 0x0, 0x0,
    0x0, .named, false, false, false⟩
/-- SAF_CAUSES (RO). -/
def row_saf_causes : RegRow :=
  ⟨0x1E0020, [], fun _ => 0x0, false, 0x0, 0x0, none, 0x0, 0x0, 0x0,
    0x0, .named, false, false, false⟩
/-- SAF_ENTRY (RO). -/
def row_saf_entry : RegRow :=
  ⟨0x1E0028, [], fun _ => 0x0, true, 0x0, 0x0, none, 0x0, 0x0, 0x0,
    0x0, .named, false, false, false⟩
/-- SAF_LATENT (RO). -/
def row_saf_latent : RegRow :=
  ⟨0x1E0030, [], fun _ => 0x0, true, 0x0, 0x0, none, 0x0, 0x0, 0x0,
    0x0, .named, false, false, false⟩
/-- SAF_ERR (W1C (Docent-M, host)). -/
def row_saf_err : RegRow :=
  ⟨0x1E0038, [], fun _ => 0x0, false, 0x0, 0x0, none, 0x0, 0xF, 0x0,
    0x0, .named, false, true, true⟩
/-- SAF_LASTING (RO). -/
def row_saf_lasting : RegRow :=
  ⟨0x1E0040, [], fun _ => 0x0, true, 0x0, 0x0, none, 0x0, 0x0, 0x0,
    0x0, .named, false, false, false⟩
/-- SAF_COUNTS (RC). -/
def row_saf_counts : RegRow :=
  ⟨0x1E0048, [], fun _ => 0x0, true, 0x0, 0x0, none, 0x0, 0x0, 0xFFFFFFFFFFFF,
    0x0, .named, false, false, false⟩
/-- SAF_BUCKET (CAT). -/
def row_saf_bucket : RegRow :=
  ⟨0x1E0100, [(0x8, 16)], fun ix => bucketReset (ix.headD 0), true, 0x0, 0x0, none, 0x0, 0x0, 0x0,
    0xFFFFFFFF00FF, .named, false, false, false⟩
/-- The registers of block SAF. -/
def rowsSAF : List RegRow :=
  [row_saf_cfg, row_saf_wdog, row_saf_demand, row_saf_status,
   row_saf_causes, row_saf_entry, row_saf_latent, row_saf_err,
   row_saf_lasting, row_saf_counts, row_saf_bucket]
/-- KPR_STATUS (RO). -/
def row_kpr_status : RegRow :=
  ⟨0x1F0000, [], fun _ => 0x0, false, 0x0, 0x0, none, 0x0, 0x0, 0x0,
    0x0, .named, false, false, false⟩
/-- KPR_REQ (REQw RW (Docent-M), banked per core; PUSH WO (Docent-M)). -/
def row_kpr_req : RegRow :=
  ⟨0x1F0010, [(0x8, 4)], fun _ => 0x0, true, 0xFFFFFFFFFFFFFFFF, 0x0, none, 0x0, 0x0, 0x0,
    0x0, .named, false, true, false⟩
/-- KPR_REQ_PUSH (REQw RW (Docent-M), banked per core; PUSH WO (Docent-M)). -/
def row_kpr_req_push : RegRow :=
  ⟨0x1F0030, [], fun _ => 0x0, true, 0x0, 0xFFFFFFFF00000000, none, 0x1, 0x0, 0x0,
    0x0, .named, false, true, false⟩
/-- KPR_ERR (W1C (Docent-M, host)). -/
def row_kpr_err : RegRow :=
  ⟨0x1F0038, [], fun _ => 0x0, false, 0x0, 0x0, none, 0x0, 0xF, 0x0,
    0x0, .named, false, true, true⟩
/-- KPR_COUNTS (RC). -/
def row_kpr_counts : RegRow :=
  ⟨0x1F0040, [], fun _ => 0x0, true, 0x0, 0x0, none, 0x0, 0x0, 0xFFFFFFFFFFFFFFFF,
    0x0, .named, false, false, false⟩
/-- KPR_FW_LAST (RO). -/
def row_kpr_fw_last : RegRow :=
  ⟨0x1F0048, [], fun _ => 0x0, true, 0x0, 0x0, none, 0x0, 0x0, 0x0,
    0x0, .named, false, false, false⟩
/-- The registers of block KPR. -/
def rowsKPR : List RegRow :=
  [row_kpr_status, row_kpr_req, row_kpr_req_push, row_kpr_err,
   row_kpr_counts, row_kpr_fw_last]
/-- DOC_CFG (CAT). -/
def row_doc_cfg : RegRow :=
  ⟨0x200000, [], fun _ => 0x432FF, true, 0x0, 0x0, none, 0x0, 0x0, 0x0,
    0x1FFF000FFFFF, .named, false, false, false⟩
/-- DOC_CTL (RW (Docent-M)). -/
def row_doc_ctl : RegRow :=
  ⟨0x200008, [], fun _ => 0x0, false, 0x0, 0x1, none, 0x1, 0x0, 0x0,
    0x0, .named, false, true, false⟩
/-- DOC_STATUS (RO). -/
def row_doc_status : RegRow :=
  ⟨0x200010, [], fun _ => 0x0, true, 0x0, 0x0, none, 0x0, 0x0, 0x0,
    0x0, .named, false, false, false⟩
/-- DOC_WDOG (WO (Docent-M of core c)). -/
def row_doc_wdog : RegRow :=
  ⟨0x200100, [(0x8, 8)], fun _ => 0x0, false, 0x0, 0xFFFFFFFF, none, 0x1, 0x0, 0x0,
    0x0, .wdogCore, false, true, false⟩
/-- DOC_ROUTE (RW (Docent-M)). -/
def row_doc_route : RegRow :=
  ⟨0x200200, [(0x8, 32)], fun _ => 0x0, false, 0xF, 0x0, none, 0x0, 0x0, 0x0,
    0x0, .named, false, true, false⟩
/-- DOC_HOSTMB (words RW (Docent-M), read by host, RC for host on word 3; FULL RO). -/
def row_doc_hostmb : RegRow :=
  ⟨0x200400, [(0x20, 8), (0x8, 4)], fun _ => 0x0, true, 0xFFFFFFFFFFFFFFFF, 0x0, some 3, 0x0, 0x0, 0x0,
    0x0, .named, false, true, false⟩
/-- DOC_HOSTMB_FULL (words RW (Docent-M), read by host, RC for host on word 3; FULL RO). -/
def row_doc_hostmb_full : RegRow :=
  ⟨0x200500, [], fun _ => 0x0, true, 0x0, 0x0, none, 0x0, 0x0, 0x0,
    0x0, .named, false, false, false⟩
/-- The registers of block DOC. -/
def rowsDOC : List RegRow :=
  [row_doc_cfg, row_doc_ctl, row_doc_status, row_doc_wdog,
   row_doc_route, row_doc_hostmb, row_doc_hostmb_full]
/-- CRC_U_CLAIM (RC (Docent-M; Docent-U when USER)). -/
def row_crc_u_claim : RegRow :=
  ⟨0x210000, [(0x100, 4)], fun _ => 0x0, false, 0x0, 0x0, none, 0x0, 0x0, 0xF,
    0x0, .named, false, false, false⟩
/-- CRC_U_CFG (RW (owner)). -/
def row_crc_u_cfg : RegRow :=
  ⟨0x210008, [(0x100, 4)], fun _ => 0x1F00, false, 0xFF03, 0x10007, none, 0x10004, 0x0, 0x0,
    0x0, .crcOwner, false, false, false⟩
/-- CRC_U_POLY (RW (owner)). -/
def row_crc_u_poly : RegRow :=
  ⟨0x210010, [(0x100, 4)], fun _ => 0x0, true, 0xFFFFFFFF, 0x0, none, 0x0, 0x0, 0x0,
    0x0, .crcOwner, false, false, false⟩
/-- CRC_U_INIT (RW (owner)). -/
def row_crc_u_init : RegRow :=
  ⟨0x210018, [(0x100, 4)], fun _ => 0x0, true, 0xFFFFFFFFFFFFFFFF, 0x0, none, 0x0, 0x0, 0x0,
    0x0, .crcOwner, false, false, false⟩
/-- CRC_U_DATA8 (WO (owner)). -/
def row_crc_u_data8 : RegRow :=
  ⟨0x210020, [(0x100, 4)], fun _ => 0x0, false, 0x0, 0xFFFFFFFF, none, 0xFF, 0x0, 0x0,
    0x0, .crcOwner, false, false, false⟩
/-- CRC_U_DATA16 (WO (owner)). -/
def row_crc_u_data16 : RegRow :=
  ⟨0x210028, [(0x100, 4)], fun _ => 0x0, false, 0x0, 0xFFFFFFFF, none, 0xFFFF, 0x0, 0x0,
    0x0, .crcOwner, false, false, false⟩
/-- CRC_U_DATA32 (WO (owner)). -/
def row_crc_u_data32 : RegRow :=
  ⟨0x210030, [(0x100, 4)], fun _ => 0x0, false, 0x0, 0xFFFFFFFF, none, 0xFFFFFFFF, 0x0, 0x0,
    0x0, .crcOwner, false, false, false⟩
/-- CRC_U_STATE (STATE RW, RESULT RO (owner); STATUS mixed). -/
def row_crc_u_state : RegRow :=
  ⟨0x210038, [(0x100, 4)], fun _ => 0x0, false, 0xFFFFFFFF, 0xFFFFFFFF, none, 0x0, 0x0, 0x0,
    0x0, .crcOwner, false, false, false⟩
/-- CRC_U_RESULT (STATE RW, RESULT RO (owner); STATUS mixed). -/
def row_crc_u_result : RegRow :=
  ⟨0x210040, [(0x100, 4)], fun _ => 0x0, false, 0x0, 0x0, none, 0x0, 0x0, 0x0,
    0x0, .named, false, false, false⟩
/-- CRC_U_STATUS (STATE RW, RESULT RO (owner); STATUS mixed). -/
def row_crc_u_status : RegRow :=
  ⟨0x210048, [(0x100, 4)], fun _ => 0x0, false, 0x0, 0x0, none, 0x0, 0x2, 0x0,
    0x0, .crcOwner, false, false, false⟩
/-- The registers of block CRC. -/
def rowsCRC : List RegRow :=
  [row_crc_u_claim, row_crc_u_cfg, row_crc_u_poly, row_crc_u_init,
   row_crc_u_data8, row_crc_u_data16, row_crc_u_data32, row_crc_u_state,
   row_crc_u_result, row_crc_u_status]
/-- ACL_CFG (CAT). -/
def row_acl_cfg : RegRow :=
  ⟨0x220000, [], fun _ => 0x64, false, 0x0, 0x0, none, 0x0, 0x0, 0x0,
    0xFFF, .named, false, false, false⟩
/-- ACL_CTL (RW (host, Docent-M)). -/
def row_acl_ctl : RegRow :=
  ⟨0x220008, [], fun _ => 0x0, false, 0x7, 0x3, none, 0x0, 0x0, 0x0,
    0x0, .named, false, true, true⟩
/-- ACL_CURSOR (RW (host, Docent-M)). -/
def row_acl_cursor : RegRow :=
  ⟨0x220010, [], fun _ => 0x0, false, 0xFFFFFFFF, 0xFFFFFFFF, none, 0x0, 0x0, 0x0,
    0x0, .named, false, true, true⟩
/-- ACL_STATUS (RO). -/
def row_acl_status : RegRow :=
  ⟨0x220018, [], fun _ => 0x0, true, 0x0, 0x0, none, 0x0, 0x0, 0x0,
    0x0, .named, false, false, false⟩
/-- ACL_COPY (RO). -/
def row_acl_copy : RegRow :=
  ⟨0x220020, [], fun _ => 0x0, true, 0x0, 0x0, none, 0x0, 0x0, 0x0,
    0x0, .named, false, false, false⟩
/-- ACL_ERR (W1C (Docent-M, host)). -/
def row_acl_err : RegRow :=
  ⟨0x220028, [], fun _ => 0x0, false, 0x0, 0x0, none, 0x0, 0x1F, 0x0,
    0x0, .named, false, true, true⟩
/-- ACL_COUNTS (RC). -/
def row_acl_counts : RegRow :=
  ⟨0x220030, [], fun _ => 0x0, true, 0x0, 0x0, none, 0x0, 0x0, 0xFFFFFFFFFFFFFFFF,
    0x0, .named, false, false, false⟩
/-- ACL_CHALLENGE (CHALLENGE RO; SIG WO (host, Docent-M)). -/
def row_acl_challenge : RegRow :=
  ⟨0x220040, [(0x8, 2)], fun _ => 0x0, true, 0x0, 0x0, none, 0x0, 0x0, 0x0,
    0x0, .named, false, false, false⟩
/-- ACL_CLEAR_SIG (CHALLENGE RO; SIG WO (host, Docent-M)). -/
def row_acl_clear_sig : RegRow :=
  ⟨0x220050, [(0x8, 8)], fun _ => 0x0, true, 0x0, 0x0, none, 0xFFFFFFFFFFFFFFFF, 0x0, 0x0,
    0x0, .named, false, true, true⟩
/-- ACL_CLEAR_REQ (REQ WO (host, Docent-M); STATUS RO). -/
def row_acl_clear_req : RegRow :=
  ⟨0x220090, [], fun _ => 0x0, false, 0x0, 0xFFFFFFFF, none, 0x3, 0x0, 0x0,
    0x0, .named, false, true, true⟩
/-- ACL_CLEAR_STATUS (REQ WO (host, Docent-M); STATUS RO). -/
def row_acl_clear_status : RegRow :=
  ⟨0x220098, [], fun _ => 0x0, false, 0x0, 0x0, none, 0x0, 0x0, 0x0,
    0x0, .named, false, false, false⟩
/-- ACL_AUTH (WO (Keeper-M)). -/
def row_acl_auth : RegRow :=
  ⟨0x2200A0, [(0x8, 2)], fun _ => 0x0, true, 0x0, 0x0, some 1, 0xFFFFFFFFFFFFFFFF, 0x0, 0x0,
    0x0, .named, true, false, false⟩
/-- The registers of block ACL. -/
def rowsACL : List RegRow :=
  [row_acl_cfg, row_acl_ctl, row_acl_cursor, row_acl_status,
   row_acl_copy, row_acl_err, row_acl_counts, row_acl_challenge,
   row_acl_clear_sig, row_acl_clear_req, row_acl_clear_status, row_acl_auth]
/-- PMC_CTL (RW (FREEZE: Keeper-M, Docent-M; HOST_FREEZE: host)). -/
def row_pmc_ctl : RegRow :=
  ⟨0x230000, [], fun _ => 0x0, false, 0x3, 0x3, none, 0x0, 0x0, 0x0,
    0x0, .named, true, true, true⟩
/-- PMC_CFG (CAT). -/
def row_pmc_cfg : RegRow :=
  ⟨0x230008, [], fun _ => 0x10, false, 0x0, 0x0, none, 0x0, 0x0, 0x0,
    0x77F, .named, false, false, false⟩
/-- PMC_USER_READ (RW (Docent-M)). -/
def row_pmc_user_read : RegRow :=
  ⟨0x230010, [], fun _ => 0x0, true, 0xFFFFFFFFFFFFFFFF, 0x0, none, 0x0, 0x0, 0x0,
    0x0, .named, false, true, false⟩
/-- PMC_OVF (W1C (owner of counter k)). -/
def row_pmc_ovf : RegRow :=
  ⟨0x230018, [], fun _ => 0x0, true, 0x0, 0x0, none, 0x0, 0xFFFFFFFFFFFFFFFF, 0x0,
    0x0, .pmcOwner, false, false, false⟩
/-- PMC_RANGE_LO (RW (x = 0, 1: Keeper-M, Docent-M; x = 2, 3: host)). -/
def row_pmc_range_lo : RegRow :=
  ⟨0x230020, [(0x10, 4)], fun _ => 0x0, true, 0x7FFFFFFFFF, 0x0, none, 0x0, 0x0, 0x0,
    0x0, .pmcOwner, false, false, false⟩
/-- PMC_RANGE_HI (RW (x = 0, 1: Keeper-M, Docent-M; x = 2, 3: host)). -/
def row_pmc_range_hi : RegRow :=
  ⟨0x230028, [(0x10, 4)], fun _ => 0x0, true, 0x7FFFFFFFFF, 0x0, none, 0x0, 0x0, 0x0,
    0x0, .pmcOwner, false, false, false⟩
/-- PMC_SEL (RW (owner, R369)). -/
def row_pmc_sel : RegRow :=
  ⟨0x230100, [(0x8, 64)], fun _ => 0x1F80000, false, 0x7FFFFFFF, 0xFFFFFFFF, none, 0x0, 0x0, 0x0,
    0x0, .pmcOwner, false, false, false⟩
/-- PMC_CTR (RW (owner); RO to other readers). -/
def row_pmc_ctr : RegRow :=
  ⟨0x230400, [(0x8, 64)], fun _ => 0x0, true, 0xFFFFFFFFFFFF, 0xFFFFFFFFFFFFFFFF, none, 0x0, 0x0, 0x0,
    0x0, .pmcOwner, false, false, false⟩
/-- PMC_SAMPLE_CFG (RW (Docent-M)). -/
def row_pmc_sample_cfg : RegRow :=
  ⟨0x230800, [], fun _ => 0x0, true, 0x1FFFFFFFFFFFF1F, 0x0, none, 0x0, 0x0, 0x0,
    0x0, .named, false, true, false⟩
/-- PMC_SAMPLE_STATUS (STATUS mixed; ACK RW (Docent-M)). -/
def row_pmc_sample_status : RegRow :=
  ⟨0x230808, [], fun _ => 0x0, true, 0x0, 0x0, none, 0x0, 0x0, 0xFFFF00000000,
    0x0, .named, false, false, false⟩
/-- PMC_SAMPLE_ACK (STATUS mixed; ACK RW (Docent-M)). -/
def row_pmc_sample_ack : RegRow :=
  ⟨0x230810, [], fun _ => 0x0, true, 0xFFFFFFFF, 0xFFFFFFFFFFFFFFFF, none, 0x0, 0x0, 0x0,
    0x0, .named, false, true, false⟩
/-- The registers of block PMC. -/
def rowsPMC : List RegRow :=
  [row_pmc_ctl, row_pmc_cfg, row_pmc_user_read, row_pmc_ovf,
   row_pmc_range_lo, row_pmc_range_hi, row_pmc_sel, row_pmc_ctr,
   row_pmc_sample_cfg, row_pmc_sample_status, row_pmc_sample_ack]
/-- CAL_CFG (CAT). -/
def row_cal_cfg : RegRow :=
  ⟨0x240000, [], fun _ => 0x10000C0AE6, true, 0x0, 0x0, none, 0x0, 0x0, 0x0,
    0xFF003FFFFF, .named, false, false, false⟩
/-- CAL_BLK_INIT (CAT). -/
def row_cal_blk_init : RegRow :=
  ⟨0x240008, [(0x8, 4)], fun _ => 0x8120B0, false, 0x0, 0x0, none, 0x0, 0x0, 0x0,
    0xFFFFFF, .named, false, false, false⟩
/-- CAL_CTL (RW (Keeper-M, Docent-M)). -/
def row_cal_ctl : RegRow :=
  ⟨0x240030, [], fun _ => 0x0, false, 0x1, 0x3, none, 0x2, 0x0, 0x0,
    0x0, .named, true, true, false⟩
/-- CAL_STATUS (RO). -/
def row_cal_status : RegRow :=
  ⟨0x240038, [], fun _ => 0x0, true, 0x0, 0x0, none, 0x0, 0x0, 0x0,
    0x0, .named, false, false, false⟩
/-- CAL_TEMP (RO). -/
def row_cal_temp : RegRow :=
  ⟨0x240040, [(0x8, 8)], fun _ => 0x0, false, 0x0, 0x0, none, 0x0, 0x0, 0x0,
    0x0, .named, false, false, false⟩
/-- CAL_TX (RO). -/
def row_cal_tx : RegRow :=
  ⟨0x240100, [(0x8, 100)], fun _ => 0x8120B0, true, 0x0, 0x0, none, 0x0, 0x0, 0x0,
    0x0, .named, false, false, false⟩
/-- CAL_RX (RO). -/
def row_cal_rx : RegRow :=
  ⟨0x240480, [(0x8, 4)], fun _ => 0x20, false, 0x0, 0x0, none, 0x0, 0x0, 0x0,
    0x0, .named, false, false, false⟩
/-- CAL_DDR (RO). -/
def row_cal_ddr : RegRow :=
  ⟨0x240500, [(0x8, 6)], fun _ => 0x80, false, 0x0, 0x0, none, 0x0, 0x0, 0x0,
    0x0, .named, false, false, false⟩
/-- CAL_ERR (W1C (Docent-M, host)). -/
def row_cal_err : RegRow :=
  ⟨0x240600, [], fun _ => 0x0, false, 0x0, 0x0, none, 0x0, 0x1F, 0x0,
    0x0, .named, false, true, true⟩
/-- CAL_COUNTS (RC). -/
def row_cal_counts : RegRow :=
  ⟨0x240608, [], fun _ => 0x0, true, 0x0, 0x0, none, 0x0, 0x0, 0xFFFFFFFFFFFFFFFF,
    0x0, .named, false, false, false⟩
/-- The registers of block CAL. -/
def rowsCAL : List RegRow :=
  [row_cal_cfg, row_cal_blk_init, row_cal_ctl, row_cal_status,
   row_cal_temp, row_cal_tx, row_cal_rx, row_cal_ddr,
   row_cal_err, row_cal_counts]
/-- PAD_IO_CFG (CAT). -/
def row_pad_io_cfg : RegRow :=
  ⟨0x250000, [], fun _ => 0x29, false, 0x0, 0x0, none, 0x0, 0x0, 0x0,
    0x7F, .named, false, false, false⟩
/-- PAD_ENC_CFG (CAT). -/
def row_pad_enc_cfg : RegRow :=
  ⟨0x250008, [], fun _ => 0x3, false, 0x0, 0x0, none, 0x0, 0x0, 0x0,
    0x3, .named, false, false, false⟩
/-- PAD_STROBE_CFG (CAT). -/
def row_pad_strobe_cfg : RegRow :=
  ⟨0x250010, [], fun _ => 0x5, false, 0x0, 0x0, none, 0x0, 0x0, 0x0,
    0xF, .named, false, false, false⟩
/-- PAD_STRAPS (mixed). -/
def row_pad_straps : RegRow :=
  ⟨0x250018, [], fun _ => 0x4, false, 0x0, 0x0, none, 0x0, 0x100, 0x0,
    0x0, .named, false, true, true⟩
/-- PAD_SUPPLY_ERR (W1C (Docent-M, host)). -/
def row_pad_supply_err : RegRow :=
  ⟨0x250020, [], fun _ => 0x0, false, 0x0, 0x0, none, 0x0, 0x7F7F, 0x0,
    0x0, .named, false, true, true⟩
/-- PAD_SUPPLY (RO). -/
def row_pad_supply : RegRow :=
  ⟨0x250100, [(0x8, 7)], fun _ => 0x0, true, 0x0, 0x0, none, 0x0, 0x0, 0x0,
    0x0, .named, false, false, false⟩
/-- The registers of block PAD. -/
def rowsPAD : List RegRow :=
  [row_pad_io_cfg, row_pad_enc_cfg, row_pad_strobe_cfg, row_pad_straps,
   row_pad_supply_err, row_pad_supply]
/-- The registers of the 64 KiB block with this number (Table 18-1); RAS takes eight numbers. -/
def rowsOfBlock (b : Nat) : List RegRow :=
  match b with
  | 0 => rowsBOOT
  | 1 => rowsCLK
  | 2 => rowsHIF
  | 3 => rowsDMA
  | 4 => rowsFOL
  | 5 => rowsGUG
  | 6 => rowsTAL
  | 7 => rowsPEC
  | 8 => rowsRAS
  | 9 => rowsRAS
  | 10 => rowsRAS
  | 11 => rowsRAS
  | 12 => rowsRAS
  | 13 => rowsRAS
  | 14 => rowsRAS
  | 15 => rowsRAS
  | 16 => rowsDOS
  | 17 => rowsBCT
  | 18 => rowsRSV
  | 19 => rowsSLT
  | 20 => rowsDUT
  | 21 => rowsLAC
  | 22 => rowsBLK
  | 23 => rowsIKL
  | 24 => rowsMEM
  | 25 => rowsSCR
  | 26 => rowsSVY
  | 27 => rowsAXM
  | 28 => rowsTIM
  | 29 => rowsTWN
  | 30 => rowsSAF
  | 31 => rowsKPR
  | 32 => rowsDOC
  | 33 => rowsCRC
  | 34 => rowsACL
  | 35 => rowsPMC
  | 36 => rowsCAL
  | 37 => rowsPAD
  | _ => []

/-- The row and indices of the register at an exact offset, if one is assigned (R398). -/
def rowAt (off : Nat) : Option (RegRow × List Nat) :=
  (rowsOfBlock (off / 0x10000)).findSome? (fun r => (r.indexOf off).map (fun ix => (r, ix)))

/-- What a register holds after a reset of the first row of Table 18-2. -/
def regReset (off : Nat) : Word :=
  match rowAt off with
  | some (r, ix) => BitVec.ofNat 64 (r.reset ix)
  | none => 0#64

end Sys2Proof.Machine
end

