-- ==== Sys2Proof/Machine/SMap.lean ====
section
/-! DEFINITION. Sparse memories: a list of key and value pairs in one canonical form, with keys strictly
rising and no entry equal to what an unlisted key reads as. -/
namespace Sys2Proof.Machine

/-- A sparse map from natural keys. -/
abbrev SMap (α : Type) := List (Nat × α)

/-- What key `k` reads as; `d` gives the unlisted keys. -/
def smGet {α : Type} (d : Nat → α) : SMap α → Nat → α
  | [], k => d k
  | (k', v) :: m, k => if k = k' then v else smGet d m k

/-- The map without key `k`. -/
def smErase {α : Type} : SMap α → Nat → SMap α
  | [], _ => []
  | (k', v) :: m, k => if k = k' then smErase m k else (k', v) :: smErase m k

/-- The map with `k` listed at `v`, in rising order. -/
def smInsert {α : Type} : SMap α → Nat → α → SMap α
  | [], k, v => [(k, v)]
  | (k', v') :: m, k, v =>
    if k < k' then (k, v) :: (k', v') :: m
    else if k = k' then (k, v) :: m
    else (k', v') :: smInsert m k v

/-- Key `k` set to `v`; a value an unlisted key reads as is not listed. -/
def smSet {α : Type} [DecidableEq α] (d : Nat → α) (m : SMap α) (k : Nat) (v : α) : SMap α :=
  if v = d k then smErase m k else smInsert m k v

/-- Keys strictly above `lo`, rising, and no entry at its default. -/
def smWfFrom {α : Type} [DecidableEq α] (d : Nat → α) : Option Nat → SMap α → Bool
  | _, [] => true
  | lo, (k, v) :: m =>
    (match lo with
      | none => true
      | some l => decide (l < k)) && decide (v ≠ d k) && smWfFrom d (some k) m

/-- The canonical form. -/
def smWf {α : Type} [DecidableEq α] (d : Nat → α) (m : SMap α) : Bool := smWfFrom d none m

/-- Memory bytes: an unlisted address reads as zero. -/
def byteDefault : Nat → Byte := fun _ => 0#8

/-- Read `n` bytes from address `a`. -/
def memRead (m : SMap Byte) (a : Nat) : Nat → List Byte
  | 0 => []
  | n + 1 => smGet byteDefault m a :: memRead m (a + 1) n

/-- Write a byte list from address `a`. -/
def memWrite (m : SMap Byte) (a : Nat) : List Byte → SMap Byte
  | [] => m
  | b :: bs => memWrite (smSet byteDefault m a b) (a + 1) bs

/-- The canonical form of a byte memory. -/
def Memory.wf (m : SMap Byte) : Bool := smWf byteDefault m

end Sys2Proof.Machine
end

