-- ==== Sys2Proof/Machine/State.lean ====
section
/-! DEFINITION. The state of the block as plain data: the registers (`regs`, which are the home of every value
that a register shows), the memories, the hidden state of each unit, the queue of waiting commands, and the
state right after reset. -/
namespace Sys2Proof.Machine

/-- A time base: seconds, nanoseconds, and the fraction of a nanosecond in units of 2^-48 (R253, R254). -/
structure TimeBase where
  sec : Nat
  ns : Nat
  frac : Nat
  deriving DecidableEq, Repr

/-- A well-formed submission entry (Table 2-4). -/
structure SqEntry where
  addr : Nat
  len : Nat
  seq : Nat
  leaf : Nat
  tag : Nat
  refetch : Bool
  first : Bool
  last : Bool
  deriving DecidableEq, Repr

/-- A completion entry without its phase bit (Table 2-5). -/
structure Completion where
  tag : Nat
  leaf : Nat
  seq : Nat
  status : Nat
  ring : Nat
  timeS : Nat
  timeNs : Nat
  /-- A RETIRED entry of a leaf that still holds its place: further advances of that leaf merge into it (R41). -/
  merges : Bool
  deriving DecidableEq, Repr

/-- A re-fetch request without its phase bit and its DEADLINE, which is predicted when it is posted (R32, R80,
Table 2-7). -/
structure RefetchReq where
  leaf : Nat
  tag : Nat
  seq : Nat
  reason : Nat
  deriving DecidableEq, Repr

/-- The host link and its queues behind their registers. -/
structure HifSt where
  /-- Entries read whose block is being fetched, with their ring and the Folio store place of their leaf. -/
  fetching : List (Nat × Nat × SqEntry)
  /-- Completions held on die, oldest first (R41). -/
  held : List Completion
  /-- Re-fetch requests held on die, oldest first (R43). -/
  rfqHeld : List RefetchReq
  /-- Entries written to the completion and the re-fetch queue and not yet freed (R407). -/
  used0 : Nat
  used1 : Nat
  /-- Completion entries written since the last vector 0 (R44). -/
  modCount : Nat
  /-- MSI-X vectors masked, pending and due to be sent (R33). -/
  mask : BitVec 64
  pba : BitVec 64
  due : BitVec 64
  /-- Vectors sent, by vector. -/
  sent : SMap Nat
  /-- AER reports (R34): their number, by 8·severity + row of Table 2-2; severity 1 correctable, 2 non-fatal, 3 fatal. -/
  aer : SMap Nat
  /-- PERST_N is released and the endpoint trains (R303). -/
  training : Bool
  /-- The log of link trainings that failed: their number (R303). -/
  trainFails : Nat
  deriving DecidableEq, Repr

/-- A DMA program: registers 0x10 to 0x57 of a channel (R48, R52). -/
structure DmaProg where
  src : Word
  dst : Word
  len : Word
  count : Word
  stride1 : Word
  stride2 : Word
  stride3 : Word
  next : Word
  rate : Word
  deriving DecidableEq, Repr

/-- A DMA channel behind its registers. -/
structure DmaCh where
  committed : DmaProg
  /-- The committed program has not been taken (R48). -/
  fresh : Bool
  active : DmaProg
  /-- Bursts of the active program already issued. -/
  burst : Nat
  /-- The active program has begun (GO written, or PACE 1). -/
  going : Bool
  /-- Tokens, in bytes (R51). -/
  tokens : Nat
  /-- CLK_CTL cycle at which the tokens were last brought up to date. -/
  tokenAt : Nat
  stopReq : Bool
  /-- The chain head, and the descriptors fetched since the chain started (R52). -/
  head : Nat
  fetched : Nat
  /-- A descriptor fetch is outstanding. -/
  fetching : Bool
  /-- Responses outstanding. -/
  outstanding : Nat
  deriving DecidableEq, Repr

/-- A program of zeros. -/
def dmaProgZero : DmaProg := ⟨0, 0, 0, 0, 0, 0, 0, 0, 0⟩

/-- A channel with nothing in it. -/
def dmaChZero : DmaCh := ⟨dmaProgZero, false, dmaProgZero, 0, false, 0, 0, false, 0, 0, false, 0⟩

/-- Where a tile stands: in its edge phase, walked and sweeping, swept, or out of the engine. -/
inductive TilePhase where
  | edge
  | sweep
  | swept
  | out
  deriving DecidableEq, Repr

/-- A tile of a leaf from its start, or from the failure that skips it (R103 to R106, R140). -/
structure TileSt where
  row : Int
  col : Nat
  phase : TilePhase
  /-- Copy A's gray words, window rows and columns 1 to 128 in emit order (R120, R281). -/
  grays : List Nat
  /-- Tally's sum of each region with its adj (R117). -/
  sums : List Int
  tally : Bool
  compared : Bool
  scattered : Bool
  /-- The lowest tile cause; 0 while the tile has not failed (R103). -/
  cause : Nat
  /-- The digest sent, once sent: its STATUS and value (R281). -/
  digest : Option (Nat × Nat)
  /-- CLK_RAS cycles of its sweep that have passed (R368). -/
  cycles : Nat
  /-- The twin's digest differs, or had not come by the release point of slot 4t (R282). -/
  suspect : Bool
  deriving DecidableEq, Repr

/-- What the density pass, the PEC engine and the raster engines hold of an admitted leaf. -/
structure Ras where
  /-- Global frame of slot 0 (R133). -/
  base : Nat
  /-- The beam-table bank bound to the leaf; none until a commit for it is resolved (R130, R131). -/
  bank : Option Nat
  /-- The highest tile row that the density pass has finished (R110). -/
  densRow : Int
  /-- Densities and UNKNOWN bits by cell row, for cell columns −H to 127 + H; the newest 64 tile rows (R110). -/
  rho : List (Int × List (Nat × Bool))
  /-- Check records by tile row: area16 and bound of eight regions in 64 tiles (R110). -/
  checks : List (Int × List (List (Int × Nat)))
  /-- Tiles that the density pass failed: row, column, cause (R111). -/
  bad : List (Int × Int × Nat)
  /-- The highest cell row with modulations (R113). -/
  modRow : Int
  /-- Modulations and INVALID bits by cell row, for cell columns −1 to 128. -/
  mods : List (Int × List (Nat × Bool))
  /-- Each engine's next tile row (R105). -/
  next : List Int
  tiles : List TileSt
  deriving DecidableEq, Repr

/-- A beam-table bank: its entries by 512·r + c, and the CRC of its table (R130). -/
structure Bank where
  entries : SMap Word
  crc : Nat
  deriving DecidableEq, Repr

/-- A commit that is not resolved: its leaf, the expected CRC, the bank it loads into once one is free, and the CLK_CTL
cycle of its write (R130, R131). -/
structure BctCommit where
  leaf : Nat
  crc : Nat
  bank : Option Nat
  cycle : Nat
  deriving DecidableEq, Repr

/-- The beam tables behind their registers. -/
structure BctSt where
  bank0 : Bank
  bank1 : Bank
  commit : Option BctCommit
  /-- Accepted tables whose leaves are not admitted yet: each leaf and its bank (R130). -/
  accepted : List (Nat × Nat)
  /-- The bank of the leaf admitted last (R130). -/
  last : Nat
  deriving DecidableEq, Repr

/-- The Reserve behind its registers. -/
structure RsvSt where
  /-- Reserve bytes by address: the gray word and its generation as gray + 256·generation (R134, R136). -/
  bytes : SMap Nat
  /-- Global frame after the last slot of the leaf admitted last (R133). -/
  nextBase : Nat
  /-- Highest first frame of a tile row admitted since reset (RSV_LEAD). -/
  high : Option Nat
  /-- Row remaps waiting, and rows remapped, as 1,056·bank + row (R143). -/
  remapWait : List Nat
  remapped : List Nat
  /-- Spare rows in use, by bank. -/
  spares : SMap Nat
  deriving DecidableEq, Repr

/-- A segment of a path, in 1/16 px: a line to a point, or a quadratic with its control point (R69). -/
inductive Seg where
  | line (x y : Int)
  | quad (cx cy x y : Int)
  deriving DecidableEq, Repr

/-- A closed path: its dose class, its start and its segments (Table 3-6). -/
structure Path where
  cls : Nat
  x : Int
  y : Int
  segs : List Seg
  deriving DecidableEq, Repr

/-- An instance (Table 3-7). -/
structure Inst where
  motif : Nat
  orient : Nat
  cls : Nat
  own : Bool
  x : Int
  y : Int
  nx : Nat
  ny : Nat
  px : Int
  py : Int
  deriving DecidableEq, Repr

/-- A motif definition (R72). -/
structure Motif where
  id : Nat
  xmin : Int
  ymin : Int
  xmax : Int
  ymax : Int
  paths : List Path
  deriving DecidableEq, Repr

/-- A tile, or a density-only tile, of the decoded tile queue: its place and its expanded paths (R61, R76). -/
structure TileGeo where
  row : Int
  col : Int
  paths : List Path
  deriving DecidableEq, Repr

/-- The LEAF_HEADER record (Table 3-3). -/
structure LeafHdr where
  leaf : Nat
  preview : Bool
  pec : Bool
  dir : Bool
  fog : Bool
  lines : Nat
  rate : Nat
  density : Nat
  edgePeak : Nat
  blocks : Nat
  catalogue : Nat
  originScan : Int
  originCross : Int
  halo : Nat
  classes : Nat
  motifs : Nat
  deriving DecidableEq, Repr

/-- What has become of a block of a leaf (R58, R82, R83). -/
inductive BlkState where
  | fetching
  | stored
  | checkFailed
  | headerFailed
  | good
  | recordsFailed
  | awaited
  | passed
  deriving DecidableEq, Repr

/-- A block that a leaf knows of. `tag` is that of its original submission and `subTag` that of the latest (R42).
`poison` is 0 for none, 1 for a mark that came with the completion and 2 for one that arose in the store. `rejected` is
the rejected copy up to byte LEN − 5 (R82). `wasStored` says that a copy has been stored, `byRefetch` that the present
copy answers a re-fetch request, and `trusted` that a copy has passed stage 2 of R58 (R66, R80, R82). -/
structure Blk where
  seq : Nat
  tag : Nat
  subTag : Nat
  ring : Nat
  first : Bool
  last : Bool
  state : BlkState
  data : List Byte
  poison : Nat
  refetches : Nat
  outstanding : Bool
  wasStored : Bool
  byRefetch : Bool
  trusted : Bool
  rejected : List Byte
  firstRow : Int
  lastRow : Int
  continues : Bool
  /-- The block has entered the density sums, in which it stays counted (R79). -/
  counted : Bool
  deriving DecidableEq, Repr

/-- A leaf in its Folio store place. -/
structure Leaf where
  id : Nat
  hdr : Option LeafHdr
  admitted : Bool
  blocks : List Blk
  /-- The block that the decoder waits for; every block below is consumed or passed over (R81). -/
  nextSeq : Nat
  /-- A deadline has passed over the awaited block and no later good block was stored yet (R81). -/
  skipping : Bool
  /-- The highest SEQ + 1 that a RETIRED entry has reported (R40). -/
  reported : Nat
  /-- Highest complete tile row, and the tile row of the record before (R60). -/
  complete : Int
  lastNamed : Int
  classes : Option (List Nat)
  fog : List (Nat × List Nat)
  motifs : List Motif
  motifBytes : Nat
  tiles : List TileGeo
  dens : List TileGeo
  /-- Tiles and density tiles already named, for the test of second records. -/
  named : List (Bool × Int × Int)
  halo : List (Int × Int × Nat)
  /-- FIRST_TROW and LEN of the blocks in the density sums (R79). -/
  sums : List (Int × Nat)
  /-- Rows marked missing, with the tile cause of R167. -/
  missing : List (Int × Nat)
  /-- Tiles that failed, with their cause: row, column, cause. -/
  failed : List (Int × Int × Nat)
  ras : Ras
  deriving DecidableEq, Repr

/-- The Folio store and the decoder. -/
structure FolSt where
  place0 : Option Leaf
  place1 : Option Leaf
  /-- The place of the leaf that the tracker has armed or runs (R66). -/
  cur : Option Nat
  /-- Places whose leaf is admitted, in the order of admission (R66). -/
  order : List Nat
  /-- Identifiers marked ended, rising (R66). -/
  ended : List Nat
  deriving DecidableEq, Repr

/-- A Lacuna record before it is encoded (Table 6-9). -/
structure LacRec where
  leaf : Nat
  cause : Nat
  flags : Nat
  first : Nat
  last : Nat
  cols : BitVec 64
  timeS : Nat
  timeNs : Nat
  /-- Opened while this device held authority; others go to the Accession Log (R274). -/
  own : Bool
  deriving DecidableEq, Repr

/-- A slot from its release decision until its record is settled (R141, R162, R186). -/
structure SlotRec where
  leaf : Nat
  slot : Nat
  /-- Decided with data: the frame is, or was, read from the Reserve. -/
  data : Bool
  /-- Marked blank by the tracker: no frame is sent when the lanes are not free (R154). -/
  tracker : Bool
  /-- The read of the frame has ended. -/
  read : Bool
  /-- The sender held TWIN_AUTH at the release decision. -/
  auth : Bool
  /-- A frame for the slot has begun on the lanes. -/
  sent : Bool
  /-- No frame was sent for the slot (R154). -/
  missed : Bool
  /-- Both authority lines were high at its strobe (R270). -/
  both : Bool
  tPred : Nat
  /-- TB1 at the release point. -/
  timeS : Nat
  timeNs : Nat
  /-- The payload, as beam numbers 512·r + c and gray words other than zero. -/
  words : SMap Nat
  /-- Its gray words are in the governor's sums: the numbers of the beam and the plate sub-window (R164). -/
  counted : Option (Nat × Nat)
  /-- The STATUS result of the slot, the groups that reported it, and their lane masks (R186). -/
  result : Option Nat
  heard : List Nat
  masks : List (Nat × Nat)
  /-- The slot's report has been settled: confirmed, rejected or unconfirmed. -/
  settled : Bool
  deriving DecidableEq, Repr

/-- The slot tracker behind its registers. -/
structure SltSt where
  /-- f(t) as its distance in the leaf's direction, counts × 2^16 (R150). -/
  furthest : Int
  /-- The stage was on the near side of due(−2) after arming (R156). -/
  near : Bool
  /-- The highest slot whose release decision is taken; −1 before slot 0. -/
  decided : Int
  /-- The last SS or mark of the leaf; −3 before M−2. -/
  strobed : Int
  /-- The last slot to be strobed of a leaf that ends orderly (R158). -/
  endAt : Option Int
  /-- The leaf has emitted its last SS, and LB falls next (R160). -/
  lbDue : Bool
  /-- No LB or arming has passed since PREVIEW entry (R279). -/
  firstArm : Bool
  /-- Accepted levels of A and B of the two inputs (R144). -/
  levels : List (Bool × Bool)
  /-- The loop's acceleration, counts per second squared (R150). -/
  accel : Int
  /-- The SLOW_HOLD time runs (R163). -/
  slowHold : Bool
  /-- BLANK_ALL_N reads low and this device does not drive it (R271). -/
  seenLow : Bool
  /-- The detail of R162 for the slot that is exposed: 0 none, 1 BLANK_REQ, 2 GUARD. -/
  window : Nat
  /-- Consecutive slots marked LINK (R191). -/
  linkRun : Nat
  /-- Slots since their release decision, newest first. -/
  slots : List SlotRec
  deriving DecidableEq, Repr

/-- The duty governor behind its registers (R164). -/
structure DutSt where
  /-- Gray sums of the beams in 1 ms sub-windows, newest first, by beam number 512·r + c. -/
  beams : List (SMap Nat)
  /-- Gray sums of the plate in 10 ms sub-windows, newest first. -/
  plate : List Nat
  /-- Sub-windows of each kind that have ended since reset. -/
  beamRoll : Nat
  plateRoll : Nat
  /-- Quantities that crossed a soft or hard threshold and are not below their resume threshold: beam, plate and
  temperature (R165, R166). -/
  beamHot : Bool
  plateHot : Bool
  tempHot : Bool
  /-- Hard thresholds in force until their resume threshold (R163). -/
  beamHard : Bool
  plateHard : Bool
  tempHard : Bool
  /-- At or above the soft threshold at the last evaluation. -/
  beamSoft : Bool
  plateSoft : Bool
  tempSoft : Bool
  /-- A TEMP_SILENT silence stands (R187). -/
  silent : Bool
  /-- Slots whose verdict is due: leaf, slot. -/
  due : List (Nat × Nat)
  deriving DecidableEq, Repr

/-- The Lacuna List behind its registers (R170, R171). -/
structure LacSt where
  /-- The open record of the release and tracker causes. -/
  openRel : Option LacRec
  /-- The open record of classes 6 to 8. -/
  openRes : Option LacRec
  /-- Closed records on their way to the ring, oldest first. -/
  closed : List LacRec
  /-- The index of an entry that merges the records of a leaf: leaf and index. -/
  merging : Option (Nat × Nat)
  deriving DecidableEq, Repr

/-- A message queued to the twin: its MTYPE, content bytes 2 to 13 and body (R276, Table 12-3). -/
structure IklMsg where
  mtype : Nat
  content : List Byte
  body : List Byte
  deriving DecidableEq, Repr

/-- The sending side of one Ikisal lane (R275 to R277). -/
structure IklLane where
  /-- Messages that wait to be sent, oldest first, and those whose producers wait for room among them. -/
  queue : List IklMsg
  waits : List IklMsg
  /-- The message whose body is being sent, and its body blocks that are left. -/
  cur : Option IklMsg
  body : List (List Byte)
  /-- The scrambler's register, and the block sent last: whether it is a control block, and its bytes as they leave. -/
  lfsr : Nat
  out : Option (Bool × List Byte)
  deriving DecidableEq, Repr

/-- The Ikisal link behind its registers (R275 to R277). -/
structure IklSt where
  /-- The lanes; half-bits of the block in progress that are sent, and the blocks sent since ALIGN was entered. -/
  lanes : List IklLane
  bits : Nat
  blocks : Nat
  /-- COMMIT_TABLE requests whose TABLE messages are on lane 5 and whose COMMIT follows them, oldest first: LEAF, CRC and
  TAG (R284). -/
  commits : List (Nat × Nat × Nat)
  /-- The state that ALIGN was entered from: 0 LISTEN, 1 STEP, 2 RECOVERY; and the rate before the step. -/
  alignFrom : Nat
  prevRate : Nat
  /-- The twin's highest rate, from its TS. -/
  peerMax : Nat
  /-- The twin's TS name ALIGN or ACTIVE; an AM has arrived on every receive lane. -/
  twinAligned : Bool
  amSeen : Bool
  /-- The step of start-up: the link steps up by itself until no rate remains. -/
  autoStep : Bool
  /-- Both ends have sent SWITCH. -/
  switching : Bool
  /-- The link has been ACTIVE since reset. -/
  begun : Bool
  /-- The content of the HELLO sent last (Table 12-3). -/
  hello : List Byte
  deriving DecidableEq, Repr

/-- A twin's DIGEST: leaf, tile row, tile column, STATUS and digest (Table 12-3). -/
structure TwinDigest where
  leaf : Nat
  row : Int
  col : Nat
  status : Nat
  value : Nat
  deriving DecidableEq, Repr

/-- Pair operation behind its registers. -/
structure TwnSt where
  /-- DIGESTs received for the leaf in progress and the admitted next leaf (R282). -/
  digests : List TwinDigest
  /-- OPEN_FROM of the last valid HEARTBEAT (R286). -/
  openFrom : Nat
  /-- A valid HEARTBEAT has come within HB_TIMEOUT, and within the present 10 µs period (R280). -/
  alive : Bool
  beat : Bool
  /-- Bits 1 and 2 of byte 3 of the last valid HEARTBEAT. -/
  peerDiverged : Bool
  peerRunning : Bool
  /-- A HELLO has disagreed since the restart (R278). -/
  faulted : Bool
  /-- COMMIT_RESULTs of the named leaf: leaf, result, bank CRC (R284). -/
  ownResult : Option (Nat × Nat × Nat)
  peerResult : Option (Nat × Nat × Nat)
  /-- The leaf and the bank CRC of each COMMIT_RESULT of the twin's, newest first (R279). -/
  peerBanks : List (Nat × Nat)
  /-- A leaf whose tiles wait for both results (R284). -/
  mirroring : Option Nat
  /-- A standby that ended a leaf on its own and waits for END: the leaf (R283). -/
  endWait : Option Nat
  /-- The last leaf that a standby ended on its own, until an END confirms it or a new leaf starts: the leaf, its S_last, and the
  slot after its last release decision (R283, R289). -/
  ownEnd : Option (Nat × Nat × Nat)
  /-- STATUS results received: leaf, slot, result; the newest 32,768 (R286). -/
  results : List (Nat × Nat × Nat)
  /-- A HANDOVER received: the leaf to start with authority (R291). -/
  handover : Option Nat
  /-- ALONE_WAIT has elapsed since SOLO_WAIT was entered (Table 12-1). -/
  waited : Bool
  /-- The low of TWIN_PEER_AUTH has stood 100 ns (R270). -/
  peerLow : Bool
  /-- A take-over demand waits for the interlock of R270. -/
  demand : Bool
  /-- TIME_SYNC exchange: number, T1 and T2 or T3 (R287). -/
  exchange : Option (Nat × Nat × Nat × Nat)
  /-- The next exchange number. -/
  exchangeNext : Nat
  /-- The leaf that a differing commit makes the standby run DIVERGED (R284). -/
  divergeLeaf : Option Nat
  /-- At TO TB0 was not LOCKED: TB1 is held, and its source is no longer the twin (R260). -/
  tb1Held : Bool
  deriving DecidableEq, Repr

/-- A spare substitution in progress (R192): the physical lane, the AMs that have passed since it began, whether the
lane is being given back, and whether it is for good (R193). -/
structure LaneSwap where
  lane : Nat
  ams : Nat
  back : Bool
  good : Bool
  deriving DecidableEq, Repr

/-- What the lanes of a group send one after another: `n` IDLE blocks, the frame in `BlkSt.frame` under its FRAME_NO, or an
AM with its count. `at_` and `frames` are the data blocks and the frames since the scramblers were loaded (R174 to R180). -/
inductive WireKind where
  | idle (n at_ frames : Nat)
  | frame (no at_ frames : Nat)
  | am (count : Nat)
  deriving DecidableEq, Repr

/-- A lane group behind its registers (R172 to R194). -/
structure BlkGrp where
  /-- The state that ALIGN was entered from: 0 CHECK, 1 STEP, 2 RECOVERY. -/
  alignFrom : Nat
  /-- The rate of the group's lanes, and the rate before the step. -/
  rate : Nat
  prevRate : Nat
  /-- The highest rate of the plate's last HELLO; none before one. -/
  maxRate : Option Nat
  /-- The plate has accepted the new rate in STEP. -/
  accepted : Bool
  /-- The back-channel is in block lock. -/
  backLock : Bool
  /-- FRAME_NO of the next frame, and of the last frame begun (Table 7-2). -/
  frameNo : Nat
  lastNo : Nat
  /-- AM count (Table 7-1). -/
  amCount : Nat
  /-- Data blocks on a lane that carries frames, and frames, since the scramblers were loaded (R174). -/
  blocks : Nat
  frames : Nat
  /-- The stretch of blocks that began last. -/
  out : List WireKind
  /-- A substitution in progress, the physical lane that the spare carries, and whether it is for good. -/
  swap : Option LaneSwap
  carried : Option Nat
  good : Bool
  /-- A faulty lane that waits until the spare is given back (R193). -/
  faulty : Option Nat
  deriving DecidableEq, Repr

/-- A lane group that is DOWN. -/
def blkGrpNew : BlkGrp := ⟨0, 0, 0, none, false, false, 0, 0, 0, 0, 0, [], none, none, false, none⟩

/-- A frame that has begun on the lanes: the fields of Table 7-2 on which all headers agree, and the payload as beam
numbers 512·r + c and gray words other than zero. -/
structure FrameOut where
  flags : Nat
  leaf : Nat
  slot : Nat
  tPred : Nat
  words : SMap Nat
  deriving DecidableEq, Repr

/-- The BLK link behind its registers. -/
structure BlkSt where
  grp : List BlkGrp
  frame : Option FrameOut
  /-- A STEP_UP waits for the tracker to reach IDLE (R190). -/
  stepReq : Bool
  /-- The rate that a step in progress goes to. -/
  stepTo : Option Nat
  deriving DecidableEq, Repr

/-- A memory request (R208): its class of Table 8-4 as 0 RASTER to 4 SCRUB, the space-0 address of its burst, the
bytes of a write with their offset in the burst, its bank (with its rank, as 32·rank + bank) and row, the Docent core
and the kind of its access, whether it has been promoted to URGENT (R211), its place in the order of presentation,
which is its age, its master as Table 16-2 codes it, with the mode of a Docent core, and the address of the access itself. -/
structure MemReq where
  cls : Nat
  addr : Nat
  write : Option (Nat × List Byte)
  bank : Nat
  row : Nat
  core : Option (Nat × Nat)
  urgent : Bool
  age : Nat
  master : Nat
  user : Bool
  access : Nat
  deriving DecidableEq, Repr

/-- A DDR5 channel behind its registers. -/
structure MemCh where
  /-- Requests waiting at the ports, and requests in the bank queues in the order of their admission (R208). -/
  ports : List MemReq
  queue : List MemReq
  /-- Requests presented to the channel. -/
  seen : Nat
  /-- The rotating pointer of each subchannel (R209). -/
  point0 : Nat
  point1 : Nat
  /-- Row hits served one after another in a bank while an older request waited, by subchannel: the bank and their
  number (R210). -/
  hits0 : Nat × Nat
  hits1 : Nat × Nat
  /-- The row open in each bank, by 2·bank + subchannel. -/
  rows : SMap Nat
  /-- Bursts served as URGENT in the present window (R211). -/
  urgent : Nat
  /-- Refresh debt of each rank of each subchannel, by 2·rank + subchannel, in units (R213). -/
  debt : List Nat
  /-- Consecutive polls below the threshold at the doubled rate (R214). -/
  cool : Nat
  /-- Granules that erred most recently, newest first, as space-0 burst addresses (R205). -/
  erred : List Nat
  /-- The recovery of the channel was asked for and waits for the tracker (R218). -/
  retrain : Bool
  /-- The training in progress is a recovery. -/
  recovery : Bool
  /-- Attempts of the start-up training that have failed (R302). -/
  tries : Nat
  /-- Read delay, write delay and reference code in service, by lane (R217). -/
  used : List (Nat × Nat × Nat)
  /-- The last training passed in every lane, and its results wait for APPLY (R217). -/
  passed : Bool
  /-- The zero fill runs (R305). -/
  filling : Bool
  /-- The last response that left the controller: the burst address, its bytes and the poison mark (R200, R212). -/
  resp : Option (Nat × List Byte × Bool)
  deriving DecidableEq, Repr

/-- A channel with nothing in it. -/
def memChNew : MemCh :=
  ⟨[], [], 0, 0, 0, (0, 0), (0, 0), [], 0, [0, 0, 0, 0], 0, [], false, false, 0, List.replicate 10 (0, 0, 0), false, false, none⟩

/-- The DDR5 controllers and the scrubber behind their registers. -/
structure MemSt where
  ch : List MemCh
  /-- The preview set, in the order in which its channels were marked trained (R219). -/
  preview : List Nat
  /-- Write-backs of corrected bursts that are scheduled, by burst address (R203). -/
  writeBack : List Nat
  /-- Granules served from a spare: the granule's address and the spare's (R206). -/
  remaps : List (Nat × Nat)
  deriving DecidableEq, Repr

/-- A settings set (R226, Table 9-2): its number, phases and writes per phase, as register address and data. -/
structure SvySet where
  number : Nat
  phases : Nat
  count : Nat
  lists : List (List (Nat × Nat))
  deriving DecidableEq, Repr

/-- What tags a frame: the settings number, the phase, and the phases of the set (R228). -/
structure SvyTag where
  number : Nat
  phase : Nat
  phases : Nat
  deriving DecidableEq, Repr

/-- A list that has completed or failed and has not reached its SOF b: its tag, its c as nanoseconds of TB1, the SOFs
counted after c − GUARD and after c + GUARD, whether it failed, and whether a gap fell before its b (R228, R229). -/
structure SvyPend where
  tag : SvyTag
  at_ : Nat
  early : Nat
  late : Nat
  failed : Bool
  gap : Bool
  deriving DecidableEq, Repr

/-- A list in transmission: its tag, its writes that are left, the first of them on the bus, the SOFs since it began, and
whether a disable cut writes off its end (R227, R238). -/
structure SvySend where
  tag : SvyTag
  left : List (Nat × Nat)
  sofs : Nat
  cut : Bool
  deriving DecidableEq, Repr

/-- What the I2C master drives: nine clocks and a STOP, or one transaction, whose bytes stand between START and STOP
(R225). -/
inductive I2cItem
  | recover
  | write (fast : Bool) (bytes : List Byte)
  deriving DecidableEq, Repr

/-- The processing values in force: SVY_Pp_PROC, RATIO and ZONE, and the defect table as (line, column) (R232, R234). -/
structure SvyPar where
  proc : Word
  ratio : Word
  zone : Word
  defects : List (Nat × Nat)
  deriving DecidableEq, Repr

/-- A frame: its number, SOF in nanoseconds of TB1, tag, flags, frame index when it is stored, the values in force at
its SOF, and its lines, newest first. -/
structure SvyFrame where
  fnum : Nat
  sof : Nat
  tag : Option SvyTag
  uncertain : Bool
  bad : Bool
  index : Option Nat
  par : SvyPar
  lines : List (List Nat)
  surplus : Bool
  /-- Its group is dropped, because a late list holds its phase for two frames (R227). -/
  held : Bool
  deriving DecidableEq, Repr

/-- A record that is being written: its bytes, and the frames of its group, oldest first (R235, R236). -/
structure SvyRec where
  bytes : List Byte
  frames : List SvyFrame
  deriving DecidableEq, Repr

/-- A survey pipeline behind its registers. -/
structure SvyPipe where
  /-- Sets that wait, the set in force, the phase that it sends next, and whether a set was ever accepted (R226). -/
  queue : List SvySet
  cur : Option SvySet
  phase : Nat
  accepted : Bool
  send : Option SvySend
  /-- What the I2C master drives in the present transaction, and whether it owes nine clocks and a STOP (R225). -/
  bus : List I2cItem
  owes : Bool
  /-- A SOF has followed the completion of the list before (R227). -/
  ready : Bool
  pend : List SvyPend
  /-- SOFs in nanoseconds of TB1, each with whether its frame counts as UNCERTAIN, newest first; the newest 64. -/
  sofs : List (Nat × Bool)
  /-- Frames until the second of two that a late list leaves with one phase (R227). -/
  late : List Nat
  lastNum : Option Nat
  /-- The tag in force; a failed list makes frames UNCERTAIN; frames left of the first LAT after an enable (R229). -/
  tag : Option SvyTag
  failing : Bool
  first : Nat
  frame : Option SvyFrame
  /-- Frames of the group in progress, oldest first; the frame before belonged to a dropped run (R231). -/
  group : List SvyFrame
  run : Bool
  par : SvyPar
  /-- Records that are being written, oldest first (R235). -/
  recs : List SvyRec
  deriving DecidableEq, Repr

/-- The values of a pipeline right after reset. -/
def svyParNew : SvyPar := ⟨0x0000FF0000064000#64, 0x01000100#64, 0x0FF0FF0F0F000000#64, []⟩

/-- A pipeline with nothing in it. -/
def svyPipeNew : SvyPipe :=
  ⟨[], none, 0, false, none, [], false, false, [], [], [], none, none, false, 0, none, [], false, svyParNew, []⟩

/-- A running axis command (R242, R243, R246). -/
structure AxRun where
  op : Nat
  kind : Nat
  mask : Nat
  vs : Nat
  vmax : Nat
  acc : Nat
  /-- Signed distance of each axis. -/
  delta : List Int
  /-- Steps of the master, steps emitted, and the error terms of the axes. -/
  steps : Nat
  k : Nat
  errs : List Nat
  /-- acc8 of R242 and the ticks loaded into the timer. -/
  residue : Nat
  reload : Nat
  /-- Homing: the axis, the phase (1 search, 2 decelerating, 3 back-off, 4 and 5 crossing before and in the flag),
  the steps of the phase, the deceleration steps left, and p1 of Table 10-2. -/
  axis : Nat
  phase : Nat
  count : Nat
  decel : Nat
  p1 : Int
  deriving DecidableEq, Repr

/-- The auxiliary axes behind their registers. -/
structure AxmSt where
  /-- Commands waiting, oldest first, each of six words (R244). -/
  queue : List (List Word)
  run : Option AxRun
  /-- AXIS_STOP_N is accepted active (R247). -/
  stopIn : Bool
  /-- Axes with a LIMIT_BOTH and with a LIMIT_STUCK fault (R248). -/
  both : List Nat
  stuck : List Nat
  /-- Steps that each axis has run away from an active limit (R248). -/
  away : List Nat
  /-- AXa_ENA_N is high, AXa_DIR's level with the cycle from which the ball has it, and the cycle of the last step, by axis
  (R240, R241). -/
  enaHigh : List Bool
  dir : List (Bool × Nat)
  pulse : List (Option Nat)
  /-- A stop or a refusal put the block in STOPPED, which only CLEAR leaves (R251). -/
  halted : Bool
  deriving DecidableEq, Repr

/-- A transmit stamp: TB0 seconds, nanoseconds and visible fraction, the port and the ID of the frame (R267). -/
structure TxStamp where
  sec : Nat
  ns : Nat
  frac : Nat
  port : Nat
  id : Nat
  deriving DecidableEq, Repr

/-- A frame queued for sending: its address in the Docent shared SRAM, its length, TS_REQ and its ID (R266). -/
structure TxFrame where
  addr : Nat
  len : Nat
  stamp : Bool
  id : Nat
  deriving DecidableEq, Repr

/-- The servos and the Ethernet ports behind their registers. -/
structure TimSt where
  /-- integ, in q24 ppb, and lock_run of TB0 and TB1 (R257). -/
  integ0 : Int
  integ1 : Int
  run0 : Nat
  run1 : Nat
  /-- TIM_TBn_NS as latched, by 3·master + n; the master is 0 for the Keeper, 1 + c for a Docent core and 9 for the
  host (R255). -/
  latch : SMap Word
  /-- Transmit stamps, oldest first (R267). -/
  stamps : List TxStamp
  /-- Frames queued for sending at each port, oldest first (R266). -/
  tx0 : List TxFrame
  tx1 : List TxFrame
  /-- The last frame that each port has sent, with its pad and FCS. -/
  out0 : List Byte
  out1 : List Byte
  deriving DecidableEq, Repr

/-- Start-up, fuses and flash behind their registers. -/
structure BootSt where
  /-- The 4 KiB flash buffer (R317); bytes by offset. -/
  flashBuf : SMap Byte
  /-- The catalogue flash (R294): bytes by address; an unlisted byte reads as erased. -/
  flash : SMap Byte
  /-- The flash command in progress: OP, address, length. -/
  flashBusy : Option (Nat × Nat × Nat)
  /-- SHA-256 hashes of the four key slots, by slot; zero is blank (R295, R314). -/
  fuseHash : SMap Nat
  /-- The fuse operation in progress: slot, whether it revokes, and the hash. -/
  fuseBusy : Option (Nat × Bool × Nat)
  /-- Bytes of the catalogue hash, PUBLIC_KEY of the loaded catalogue (R296). -/
  publicKey : List Byte
  /-- DOCENT_KEY of the loaded catalogue, and where its DOCENT section stands in the flash (R295, R296). -/
  docentKey : List Byte
  docentAt : Nat × Nat
  /-- Steps of Table 13-4 that have completed. -/
  stepsDone : List Nat
  /-- The bound catalogue slot, once one is bound (R298). -/
  slotBound : Option Nat
  /-- Failed starts in the always-on record, newest first: the reason and the second of the always-on counter (R311). -/
  attempts : List (Nat × Nat)
  /-- The reason that entered the attempt record last (R311, R315). -/
  lastFail : Nat
  /-- The always-on seconds counter, and the CLK_CTL cycles of the second in progress. -/
  aonSec : Nat
  aonPart : Nat
  /-- VDD_AON has been lost since the record was read (R311). -/
  aonLost : Bool
  /-- An MRAM or FRAM is attached (R311), and its clean-shutdown mark (R319). -/
  mramFitted : Bool
  cleanMark : Bool
  /-- A supply has been outside its range since the last release of reset. -/
  powerLost : Bool
  /-- The internal reset may release: supplies in range for 1 ms (R389). -/
  powerGood : Bool
  /-- QUIESCE has been written (R318). -/
  quiescing : Bool
  /-- The six conditions of R308 have held at once: no leaf is admitted until RUN begins. -/
  runHold : Bool
  /-- The SFDP tables of the attached flash offer octal DDR reads, and the flash runs 8D-8D-8D (R294). -/
  flashSfdp : Bool
  flashOctal : Bool
  /-- Regions of the catalogue: TYPE, DMA_PROTECT, BASE, LEN (R296). -/
  regions : List (Nat × Bool × Nat × Nat)
  deriving DecidableEq, Repr

/-- An Accession Log record (Table 15-7) without its CHECK, which is computed when it is encoded. -/
structure AclRec where
  index : Nat
  node : Nat
  event : Nat
  timeS : Nat
  timeNs : Nat
  data : List Byte
  deriving DecidableEq, Repr

/-- The Accession Log behind its registers. -/
structure AclSt where
  /-- Records on die, newest first; the newest stands at position NEXT − 1 (R357). -/
  ring : List AclRec
  /-- The holding queue, oldest first (R359). -/
  queue : List AclRec
  /-- The next INDEX of this device's records (R356). -/
  index : Nat
  /-- Records discarded in the freeze in force (R359). -/
  lost : Nat
  /-- First position and count of records lost to the copy and not yet reported (R361). -/
  copyLost : Option (Nat × Nat)
  /-- The write operation in progress: its first position and its records (R361). -/
  copying : Option (Nat × List AclRec)
  /-- The MRAM bytes (R360). -/
  mram : SMap Byte
  /-- Cycle of the last record of each rate-limited event (Table 15-8). -/
  lastAt : List (Nat × Nat)
  /-- FIREWALL attempts suppressed since the last FIREWALL record. -/
  fwSuppressed : Nat
  /-- The clear engine's key K (R363). -/
  key : Nat
  /-- A challenge is in force (R363, R364). -/
  challengeOn : Bool
  /-- The challenge of the clear in progress, from the CLEAR write on (R363). -/
  clearChal : Option (List Byte)
  /-- The signature has verified: records wait in the holding queue until the clear ends (R364). -/
  clearing : Bool
  /-- The tag submitted matched, and the EPOCH is being written. -/
  matched : Bool
  /-- The next entry of the persistent copy's ring (R360). -/
  mramNext : Nat
  /-- The frames of the last operation on the MRAM's SPI bus (R360). -/
  spi : List (List Byte)
  /-- What a persistent window was filled with (R362). -/
  window : List Byte
  /-- The CLK_CTL cycle of the FREEZE write: the log is frozen from the next one (R359). -/
  frozenAt : Option Nat
  deriving DecidableEq, Repr

/-- A Keeper request: the core that made it and its 32 bytes (R346). -/
structure KprReq where
  core : Nat
  bytes : List Byte
  deriving DecidableEq, Repr

/-- The Keeper's requests and the Docents. -/
structure KprSt where
  /-- Staged request words by 4·core + word (R346). -/
  staged : SMap Word
  /-- The request queue, oldest first. -/
  queue : List KprReq
  /-- A COMMIT_TABLE request waiting for its result: its TAG (R346). -/
  commitTag : Option Nat
  /-- RETRAIN requests waiting for their results: channel and TAG. -/
  retrains : List (Nat × Nat)
  /-- The Docent restart in progress: the core behind it and its mepc (R350, Table 15-8). -/
  restarting : Option (Nat × Nat)
  /-- The CLK_CTL cycle of the last restart's cause, whose other causes it joins, and the INDEX of its record (R350). -/
  restartedAt : Nat
  restartIndex : Nat
  /-- CRC units: feeds waiting, by unit, each a byte list (R355). -/
  crcQueue : SMap (List (List Byte))
  /-- CLK_CTL cycle of each core's last DOC_WDOGc write, from which its interval runs (R350). -/
  kicks : SMap Nat
  deriving DecidableEq, Repr

/-- The Guard and the latent-fault tests. -/
structure SafSt where
  /-- The watchdog runs (R326). -/
  wdogOn : Bool
  /-- The value expected next. -/
  wdogNext : Nat
  /-- Consecutive samples at or above DIE_HARD, by sensor (R325). -/
  dieHot : SMap Nat
  /-- Sensors at or above DIE_SOFT at the last sample. -/
  dieSoft : List Nat
  /-- Event times of the leaky buckets, newest first: bucket, instance, time in W/256 (R334). -/
  buckets : List (Nat × Nat × Nat)
  /-- The Guard holds its outputs at their safe levels (R328). -/
  acting : Bool
  /-- The CLK_CTL cycle of the first cause, and the INDEX of the Guard's record (R327, R328). -/
  firstCycle : Nat
  recordIndex : Nat
  /-- T1 was skipped and runs in the next group (R331). -/
  t1Due : Bool
  /-- A group runs and the tracker waits for its end (R331). -/
  groupRunning : Bool
  /-- Every group that remains in the cycle runs in this turn-around (R332). -/
  overdue : Bool
  /-- Tally's region sums of the last self-test tile of T5, with what TAL_INJECT added (R119, R330). -/
  selfSums : List Int
  deriving DecidableEq, Repr

/-- The forward-lane trim of a group (R375): its turn (0 the spare, 1 + j logical lane j); its phase (0 waiting for the
spare, 1 searching, 2 giving back); the trial that the next report judges (0 the codes in force, else 1 + 2·code for
+1 and 2 + 2·code for −1); the codes at the start of the search; the best margins; and the CLK_CTL cycle of the last
change of codes. -/
structure GrpTrim where
  turn : Nat
  phase : Nat
  trial : Nat
  start : Nat
  bestH : Nat
  bestV : Nat
  since : Nat
  deriving DecidableEq, Repr

/-- The trim of a back-channel receiver (R377): windows seen, and consecutive windows within tolerance. -/
structure RxTrim where
  windows : Nat
  within : Nat
  deriving DecidableEq, Repr

/-- The trim of a DDR5 channel (R378): the sign of the last error, and the changes of sign. -/
structure DdrTrim where
  sign : Int
  changes : Nat
  deriving DecidableEq, Repr

/-- Self-calibration behind its registers. -/
structure CalSt where
  grp : List (Option GrpTrim)
  rx : List (Option RxTrim)
  /-- A step of OFFSET that waits for the receiver's next AM, by group: whether it goes up (R377). -/
  rxStep : List (Option Bool)
  ddr : List (Option DdrTrim)
  /-- Groups whose rate has changed: a run starts when the group is ACTIVE again (R376). -/
  again : List Nat
  /-- The first run of R374 has started. -/
  begun : Bool
  deriving DecidableEq, Repr

/-- The performance counters behind their registers. -/
structure PmcSt where
  /-- The sample window: 512 records of 16 bytes (R372). -/
  ring : SMap Byte
  /-- Latched odd counters that have not been read, by 64·master + counter (R367). -/
  latch : SMap Nat
  /-- Sampling events of each core since its last sample (R372). -/
  counts : SMap Nat
  /-- Samples were lost since the last record (R373). -/
  lost : Bool
  /-- Counter-overflow interrupts raised at OVF_CORE (R365, R373). -/
  irqs : Nat
  /-- The CLK_CTL cycle of the last write of PMC_CTL, and PMC_CTL before it: a freeze stops its counters from the next cycle
  (R370). -/
  ctlWas : Option (Nat × Word)
  /-- The same of the last write of PMC_SELk, by counter (R370). -/
  selWas : SMap (Nat × Word)
  deriving DecidableEq, Repr

/-- Pins and straps behind their registers (Table 17-3). -/
structure PinSt where
  /-- The levels of RESET_N and TWIN_FAIL_OUT. -/
  resetN : Bool
  failOut : Bool
  /-- TWIN_PEER_AUTH has stood high for 100 ns (R271, R272). -/
  peerHigh : Bool
  /-- Supplies outside their operating ranges, as a mask of the indices of Table 17-6. -/
  supplyOut : Nat
  /-- The instruction of the test access port (R385). -/
  tap : TapInstr
  /-- The level of TEST_EN_N. -/
  testLevel : Bool
  /-- TEST_EN_N was latched low: the factory test state (R384). -/
  testState : Bool
  deriving DecidableEq, Repr

/-- What stops a command. No command of this block ends in a fault: the specification names no access that
stops the device. -/
inductive Fault where
  /-- Raised by no command: the specification gives the block no fault that stops it. Safe. -/
  | none
  deriving DecidableEq, Repr

/-- A command that the model does not run. -/
inductive Refusal where
  /-- Raised by an arm of `exec` whose meaning is not written. Safe. -/
  | notModelled (mnemonic : String)
  deriving DecidableEq, Repr

/-- The machine. -/
structure State where
  /-- Every register that differs from its reset value, by BAR0 offset. -/
  regs : SMap Word
  /-- The contents of 64-bit registers whose lower half was written and waits for the write that acts, by BAR0 offset (R400). -/
  halves : SMap Nat
  /-- DDR5, space 0: bytes by address (R195). -/
  ddr : SMap Byte
  /-- DDR5 bursts that carry the poison mark, by burst address, rising (R200). -/
  poison : List Nat
  /-- The bits by which stored words of DDR5 differ from what was written, by address / 16: data in bits 0 to 127, S and G
  above (R197). -/
  ddrErr : SMap Nat
  /-- Docent shared SRAM, space 2 (R342), and its bytes that carry the poison mark, as 1 (R53). -/
  sram : SMap Byte
  sramPoison : SMap Byte
  /-- The bits by which stored words of it differ from what was written, by address / 8: a (72,64) code word (R342). -/
  sramErr : SMap Nat
  /-- The Keeper SRAM, and the bits by which its stored words differ, by address / 4: a (39,32) code word (R341). -/
  kprSram : SMap Byte
  kprErr : SMap Nat
  /-- The last word that a core has read from an SRAM or the Keeper ROM: its space, its address, its bytes and the mark. -/
  coreResp : Option (Nat × Nat × List Byte × Bool)
  /-- Host memory as far as the device has written it, space 1. -/
  hostMem : SMap Byte
  /-- Writes to host memory whose TLPs carried the EP bit (R35). -/
  hostPoison : List Nat
  /-- The next free value; the model's own field. -/
  free : Nat
  /-- CLK_CTL cycles since reset; the model's own clock for time-limited effects. -/
  cycle : Nat
  /-- The data that the last register or window read returned. -/
  readData : Word
  /-- Whether the completion of the last BAR2 read carried the EP bit (R406). -/
  readPoison : Bool
  /-- CAT fields are locked (R301). -/
  locked : Bool
  /-- The last access exception a Docent core took: core and kind, 1 load, 2 store and 3 fetch access fault, 5 to 7 the bus error of each (R196, R200, R344, R345). -/
  docTrap : Option (Nat × Nat)
  /-- The time bases TB0, TB1 and TB2 (R253). -/
  tb0 : TimeBase
  tb1 : TimeBase
  tb2 : TimeBase
  /-- The host link (R30–R44). -/
  hif : HifSt
  /-- DMA channels that are not empty, by number (R45–R55). -/
  dma : SMap DmaCh
  /-- The beam tables (R128–R132). -/
  bct : BctSt
  /-- The Reserve (R133–R143). -/
  rsv : RsvSt
  /-- The Folio decoder (R56–R87). -/
  fol : FolSt
  /-- The slot tracker (R144–R163). -/
  slt : SltSt
  /-- The duty governor (R164–R166). -/
  dut : DutSt
  /-- The Lacuna List (R167–R171). -/
  lac : LacSt
  /-- The Ikisal link (R275–R277). -/
  ikl : IklSt
  /-- Pair operation (R268–R291). -/
  twn : TwnSt
  /-- The BLK link (R172–R194). -/
  blk : BlkSt
  /-- DDR5 and the scrubber (R195–R219). -/
  mem : MemSt
  /-- The survey pipelines (R220–R239). -/
  svy : List SvyPipe
  /-- The auxiliary axes (R240–R252). -/
  axm : AxmSt
  /-- The servos and the Ethernet ports (R253–R267). -/
  tim : TimSt
  /-- Start-up (R292–R319). -/
  boot : BootSt
  /-- The Accession Log (R356–R364). -/
  acl : AclSt
  /-- Keeper requests and check-value feeds (R346, R355). -/
  kpr : KprSt
  /-- The Guard, the watchdog and the leaky buckets (R326–R335). -/
  saf : SafSt
  /-- Self-calibration (R374–R379). -/
  cal : CalSt
  /-- The performance counters (R365–R373). -/
  pmc : PmcSt
  /-- Pins (R382–R385). -/
  pin : PinSt
  /-- The commands that wait, first in, first out. -/
  pending : List Instr
  deriving DecidableEq, Repr

/-- The machine right after the internal release of reset (R389, R403): every register at its reset value, the
mode BOOT, nothing stored and no command waiting. -/
def State.reset : State :=
  { regs := [],
    halves := [],
    ddr := [],
    poison := [],
    ddrErr := [],
    sram := [],
    sramPoison := [],
    sramErr := [],
    kprSram := [],
    kprErr := [],
    coreResp := none,
    hostMem := [],
    hostPoison := [],
    free := 0,
    cycle := 0,
    readData := 0#64,
    readPoison := false,
    locked := false,
    docTrap := none,
    tb0 := ⟨0, 0, 0⟩,
    tb1 := ⟨0, 0, 0⟩,
    tb2 := ⟨0, 0, 0⟩,
    hif := ⟨[], [], [], 0, 0, 0, BitVec.allOnes 64, 0, 0, [], [], false, 0⟩,
    dma := [],
    bct := ⟨⟨[], 0⟩, ⟨[], 0⟩, none, [], 0⟩,
    rsv := ⟨[], 0, none, [], [], []⟩,
    fol := ⟨none, none, none, [], []⟩,
    slt := ⟨0, false, -1, -3, none, false, true, [(false, false), (false, false)], 0, false, false, 0, 0, []⟩,
    dut := ⟨[], [], 0, 0, false, false, false, false, false, false, false, false, false, false, []⟩,
    lac := ⟨none, none, [], none⟩,
    ikl := ⟨List.replicate 8 ⟨[], [], none, [], 0, none⟩, 0, 0, [], 0, 0, 0, false, false, false, false, false, []⟩,
    twn := ⟨[], 0, false, false, false, false, false, none, none, [], none, none, none, [], none, false, true, false, none, 0, none,
      false⟩,
    blk := ⟨[blkGrpNew, blkGrpNew, blkGrpNew, blkGrpNew], none, false, none⟩,
    mem := ⟨[memChNew, memChNew, memChNew, memChNew, memChNew, memChNew], [], [], []⟩,
    svy := [svyPipeNew, svyPipeNew],
    axm := ⟨[], none, false, [], [], [0, 0, 0, 0, 0, 0], List.replicate 6 true,
      List.replicate 6 (false, 0), List.replicate 6 none, false⟩,
    tim := ⟨0, 0, 0, 0, [], [], [], [], [], []⟩,
    boot := ⟨[], [], none, [], none, [], [], (0, 0), [], none, [], 0, 0, 0, false, true, true, false, true, false, false, true, false, []⟩,
    acl := ⟨[], [], 0, 0, none, none, [], [], 0, 0, false, none, false, false, 0, [], [], none⟩,
    kpr := ⟨[], [], none, [], none, 0, 0, [], []⟩,
    saf := ⟨false, 0x5A5A, [], [], [], false, 0, 0, false, false, false, []⟩,
    cal := ⟨[none, none, none, none], [none, none, none, none], [none, none, none, none], [none, none, none, none, none, none], [],
      false⟩,
    pmc := ⟨[], [], [], false, 0, none, []⟩,
    pin := ⟨true, true, false, 0, .idcode, true, false⟩,
    pending := [] }

end Sys2Proof.Machine
end

