-- ==== Sys2Proof/Machine/Ops.lean ====
section
/-! DEFINITION. The named operations over registers, memories and free values. -/
namespace Sys2Proof.Machine

/-- The width of an access in bytes (R399). -/
def busBytes : BusWidth → Nat
  | .w8 => 1
  | .w16 => 2
  | .w32 => 4
  | .w64 => 8

/-- The 64 bits that the register at `off` holds. -/
def State.reg (s : State) (off : Nat) : Word := smGet regReset s.regs off

/-- The register at `off` replaced. -/
def State.setReg (s : State) (off : Nat) (v : Word) : State := { s with regs := smSet regReset s.regs off v }

/-- The bits of a field in its register. -/
def Field.mask (f : Field) : Word := BitVec.ofNat 64 ((2 ^ f.width - 1) * 2 ^ f.lo)

/-- The field of a 64-bit value. -/
def Field.get (f : Field) (w : Word) : Nat := w.toNat / 2 ^ f.lo % 2 ^ f.width

/-- The value with the field replaced. -/
def Field.put (f : Field) (w : Word) (v : Nat) : Word :=
  (w &&& ~~~f.mask) ||| (BitVec.ofNat 64 (v % 2 ^ f.width * 2 ^ f.lo))

/-- The value that a field holds. -/
def State.rd (s : State) (f : Field) : Nat := f.get (s.reg f.off)

/-- A field written by the hardware or by an admitted master. -/
def State.wr (s : State) (f : Field) (v : Nat) : State := s.setReg f.off (f.put (s.reg f.off) v)

/-- A one-bit field as a truth value. -/
def State.bit (s : State) (f : Field) : Bool := s.rd f != 0

/-- A flag set, and cleared. -/
def State.set1 (s : State) (f : Field) : State := s.wr f 1
def State.clr (s : State) (f : Field) : State := s.wr f 0

/-- A flag written from a truth value. -/
def State.wrBit (s : State) (f : Field) (b : Bool) : State := s.wr f (if b then 1 else 0)

/-- A saturating counter advanced by `n`. -/
def State.addSat (s : State) (f : Field) (n : Nat) : State := s.wr f (min (s.rd f + n) (2 ^ f.width - 1))

/-- A saturating counter advanced by one. -/
def State.incSat (s : State) (f : Field) : State := s.addSat f 1

/-- A wrapping counter advanced by one. -/
def State.incWrap (s : State) (f : Field) : State := s.wr f (s.rd f + 1)

/-- A two's complement field. -/
def State.rdInt (s : State) (f : Field) : Int := signed f.width (s.rd f)

/-- A two's complement field written. -/
def State.wrInt (s : State) (f : Field) (v : Int) : State := s.wr f (unsigned f.width v)

/-- A value held to a field's largest. -/
def satTo (f : Field) (v : Nat) : Nat := min v (2 ^ f.width - 1)

/-- A step taken only under a condition. -/
def State.whenD (s : State) (c : Bool) (f : State → State) : State := if c then f s else s

/-- The next free value, and the state that has used it. -/
def State.takeFree (s : State) : Nat × State := (Config.freeValue s.free, { s with free := s.free + 1 })

/-- A command that completes. -/
def done (s : State) : Host.Outcome State Fault Refusal := .next s

/-- The burst address of a DDR5 byte: bursts are 64 bytes (R195). -/
def burstOf (a : Nat) : Nat := a / 64 * 64

/-- Where a DDR5 byte is stored: in the spare of a remapped granule, else in its own place (R206). -/
def State.ddrPlace (s : State) (x : Nat) : Nat :=
  match s.mem.remaps.find? (fun r => r.1 = burstOf x) with
  | some r => r.2 + x % 64
  | none => x

/-- The patterns by which the four words of a burst differ from good ones (R197, R199). -/
def State.burstErrs (s : State) (b : Nat) : List Nat :=
  let p := s.ddrPlace b
  (List.range 4).map (fun w =>
    smGet (fun _ => 0) s.ddrErr (p / 16 + w) ^^^ (if s.poison.contains p then poisonMask else 0))

/-- What a read of a burst finds (R198, R199). -/
def State.burstRead (s : State) (b : Nat) : BurstRead := decodeBurst (s.burstErrs b)

/-- Whether data read from a burst leaves the controller with the poison mark (R200). -/
def State.burstMarked (s : State) (b : Nat) : Bool :=
  match s.burstRead b with
  | .poison => true
  | .bad _ _ => true
  | _ => false

/-- A data byte as its word's read gives it. -/
def State.ddrByte (s : State) (x : Nat) : Byte :=
  let p := s.ddrPlace x
  let e := smGet (fun _ => 0) s.ddrErr (p / 16)
  if e = 0 then smGet byteDefault s.ddr p
  else (flipBytes ((decodeWord e).residue e) (memRead s.ddr (p / 16 * 16) 16)).getD (p % 16) 0#8

/-- `n` bytes of DDR5 from an address. -/
def State.ddrRead (s : State) (a n : Nat) : List Byte :=
  if s.ddrErr = [] && s.mem.remaps = [] then memRead s.ddr a n else (List.range n).map (fun i => s.ddrByte (a + i))

/-- The bursts that `n` bytes from address `a` touch. -/
def burstsOf (a n : Nat) : List Nat :=
  if n = 0 then [] else (List.range ((a + n - 1) / 64 - a / 64 + 1)).map (fun i => (a / 64 + i) * 64)

/-- A rising list with `k` in it once. -/
def listInsert (k : Nat) : List Nat → List Nat
  | [] => [k]
  | x :: xs => if k < x then k :: x :: xs else if k = x then x :: xs else x :: listInsert k xs

/-- Whether a write of `n` bytes at `a` covers a whole burst. -/
def wholeBurst (a n b : Nat) : Bool := a ≤ b && b + 64 ≤ a + n

/-- Write the bytes whose address passes a test, each at its place. -/
def memWriteIf (ok : Nat → Bool) (place : Nat → Nat) (m : SMap Byte) (a : Nat) : List Byte → SMap Byte
  | [] => m
  | b :: bs => memWriteIf ok place (if ok a then smSet byteDefault m (place a) b else m) (a + 1) bs

/-- A burst's words hold what was written. -/
def State.errClear (s : State) (b : Nat) : State :=
  let w := s.ddrPlace b / 16
  { s with ddrErr := smErase (smErase (smErase (smErase s.ddrErr w) (w + 1)) (w + 2)) (w + 3) }

/-- A burst written back as it was read, with a fresh code (R201, R203). -/
def State.burstFresh (s : State) (b : Nat) : State :=
  { s.errClear b with ddr := memWrite s.ddr (s.ddrPlace b) (s.ddrRead b 64) }

/-- A burst written back as poison (R199, R200). -/
def State.burstPoison (s : State) (b : Nat) : State :=
  { s.burstFresh b with poison := listInsert (s.ddrPlace b) s.poison }

/-- The read of a read-modify-write: a good or corrected burst is written with a fresh code, and one that is poison or
uncorrectable is poison (R200, R201). -/
def State.burstRewrite (s : State) (b : Nat) : State := if s.burstMarked b then s.burstPoison b else s.burstFresh b

/-- Stored words change: each entry gives address / 16 of a word and the bits that flip. -/
def State.ddrUpset (s : State) (flips : List (Nat × Nat)) : State :=
  { s with ddrErr := flips.foldl (fun m f =>
      smSet (fun _ => 0) m f.1 (smGet (fun _ => 0) m f.1 ^^^ (f.2 % 2 ^ 160))) s.ddrErr }

/-- Bytes written to DDR5. A whole burst is written afresh and loses its poison mark; a narrower write is a
read-modify-write, and to a burst that is poison it is not merged, and the burst stays poison (R201). A write that carries the
mark leaves every burst it touches poison (R200). -/
def State.ddrWrite (s : State) (a : Nat) (bs : List Byte) (mark : Bool) : State :=
  let n := bs.length
  let touched := burstsOf a n
  let s := if s.ddrErr = [] then s
    else touched.foldl (fun s b => if wholeBurst a n b then s.errClear b else s.burstRewrite b) s
  let bad := fun (b : Nat) => s.poison.contains (s.ddrPlace b)
  let kept := s.poison.filter (fun p => !touched.any (fun b => wholeBurst a n b && s.ddrPlace b = p))
  { s with
    ddr := memWriteIf (fun x => wholeBurst a n (burstOf x) || !bad (burstOf x)) s.ddrPlace s.ddr a bs
    poison := if mark then touched.foldl (fun p b => listInsert (s.ddrPlace b) p) kept else kept }

/-- The next `n` free bytes, and the state that has used them. -/
def State.freeBytes (s : State) (n : Nat) : List Byte × State :=
  ((List.range n).map (fun i => BitVec.ofNat 8 (Config.freeValue (s.free + i))), { s with free := s.free + n })

/-- `n` bytes of DDR5 that take values which the specification does not give. -/
def State.ddrFree (s : State) (a n : Nat) : State :=
  (s.freeBytes n).2.ddrWrite a (s.freeBytes n).1 false

/-- Bursts of a write that R201 does not merge: the write response carries the mark back. -/
def State.ddrUnmerged (s : State) (a n : Nat) : Nat :=
  ((burstsOf a n).filter (fun b => s.burstMarked b && !wholeBurst a n b)).length

/-- Whether data read from a DDR5 range carries the poison mark. -/
def State.ddrPoisoned (s : State) (a n : Nat) : Bool := (burstsOf a n).any s.burstMarked

/-- Bytes written to host memory, with the EP bit when they carry poison (R35). -/
def State.hostWrite (s : State) (a : Nat) (bs : List Byte) (mark : Bool) : State :=
  { s with
    hostMem := memWrite s.hostMem a bs
    hostPoison := if mark then listInsert a s.hostPoison else s.hostPoison.filter (· ≠ a) }

/-- Bytes written to the Docent shared SRAM, with their poison mark (R53); its words that are written whole hold what was
written (R342). -/
def State.sramWrite (s : State) (a : Nat) (bs : List Byte) (mark : Bool) : State :=
  { s with
    sram := memWrite s.sram a bs
    sramErr := s.sramErr.filter (fun e => !(a ≤ 8 * e.1 && 8 * e.1 + 8 ≤ a + bs.length))
    sramPoison := memWrite s.sramPoison a (List.replicate bs.length (if mark then 1#8 else 0#8)) }

/-- Set bits among the low `w` of a pattern. -/
def bitCount (w n : Nat) : Nat := (List.range w).countP (fun i => n / 2 ^ i % 2 = 1)

/-- Whether an SRAM range carries poison, or touches a word that cannot be corrected, which reads as poison (R342). -/
def State.sramPoisoned (s : State) (a n : Nat) : Bool :=
  (memRead s.sramPoison a n).any (· ≠ 0#8)
    || s.sramErr.any (fun e => 2 ≤ bitCount 72 e.2 && decide (8 * e.1 < a + n) && decide (a < 8 * e.1 + 8))

/-- Bytes written in a space of Table 2-9. -/
def State.spaceWrite (s : State) (space a : Nat) (bs : List Byte) (mark : Bool) : State :=
  match space with
  | 0 => s.ddrWrite a bs mark
  | 1 => s.hostWrite a bs mark
  | _ => s.sramWrite a bs mark

/-- The severity with which AER reports an error, by its row of Table 2-2: 1 correctable, 2 non-fatal, 3 fatal (R34). -/
def aerSeverity (row : Nat) : Nat :=
  match row with
  | 0 => 1
  | 4 => 3
  | _ => 2

/-- An error reported by AER under its severity (R34, Table 2-2). -/
def State.aerReport (s : State) (row : Nat) : State :=
  let k := 8 * aerSeverity row + row
  { s with hif := { s.hif with aer := smSet (fun _ => 0) s.hif.aer k (smGet (fun _ => 0) s.hif.aer k + 1) } }

/-- The capacity of one DDR5 channel in GiB (Table 8-1). -/
def State.channelGiB (s : State) : Nat :=
  let density := match s.rd F.MEM_CFG.DENSITY with
    | 0 => 16
    | 1 => 24
    | _ => 32
  density * (if s.rd F.MEM_CFG.WIDTH = 0 then 2 else 1) * (if s.bit F.MEM_CFG.RANKS then 2 else 1)

/-- The fitted size of space 0: six channels under the full map, three under the preview map (R196). -/
def State.fitted (s : State) : Nat :=
  (if s.bit F.MEM_STATUS.FULL_MAP then 6 else 3) * s.channelGiB * 2 ^ 30

/-- The modes of the device (Table 13-1), as BOOT_STATUS.MODE codes them. -/
def State.mode (s : State) : Nat := s.rd F.BOOT_STATUS.MODE

end Sys2Proof.Machine
end

