-- ==== Sys2Proof/Machine/Flags.lean ====
section
/-! DEFINITION. What commands raise: MSI-X vectors, Docent interrupt sources, Accession Log records, notices and
leaky-bucket faults. -/
namespace Sys2Proof.Machine

/-- A 64-bit mask with one bit. -/
def bit64 (v : Nat) : BitVec 64 := BitVec.ofNat 64 (2 ^ v)

/-- An event that an MSI-X vector announces (Table 2-1). Vectors 33 to 63 are never sent. -/
def State.vector (s : State) (v : Nat) : State :=
  if v ≤ 32 then { s with hif := { s.hif with due := s.hif.due ||| bit64 v } } else s

/-- A Docent interrupt source becomes pending (R348). -/
def State.source (s : State) (i : Nat) : State :=
  if i ≤ 27 then s.set1 (F.DOC_ROUTE.PENDING i) else s

/-- The machine external interrupt of a Docent core: a source that is pending, enabled and routed to it (R348). -/
def State.docentIrq (s : State) (c : Nat) : Bool :=
  (List.range 32).any (fun i => s.bit (F.DOC_ROUTE.PENDING i) && s.bit (F.DOC_ROUTE.ENABLE i) && s.rd (F.DOC_ROUTE.CORE i) = c)

/-- A vector and a source raised together. -/
def State.announce (s : State) (v i : Nat) : State := (s.vector v).source i

/-- HIF_INTAKE_STATUS bits announce on vector 8 and source 20 (Tables 2-1 and 15-4). -/
def State.intake (s : State) (f : Field) : State := (s.set1 f).announce 8 20

/-- TB1 seconds and nanoseconds, the stamps of records and messages (R408). -/
def State.nowS (s : State) : Nat := s.tb1.sec
def State.nowNs (s : State) : Nat := s.tb1.ns

/-- HEARTBEAT goes ahead of every other message (R277). -/
def IklMsg.first (m : IklMsg) : Bool := m.mtype = 0x11

/-- A message put among those that wait on a lane (R277). -/
def iklInsert (m : IklMsg) (q : List IklMsg) : List IklMsg :=
  if m.first then q.takeWhile IklMsg.first ++ m :: q.dropWhile IklMsg.first else q ++ [m]

/-- A message queued on a lane; with 256 waiting its producer waits, and no message is dropped (R277). -/
def IklLane.put (l : IklLane) (m : IklMsg) : IklLane :=
  if l.queue.length < 256 then { l with queue := iklInsert m l.queue } else { l with waits := iklInsert m l.waits }

/-- A message of the twin's, its content filled up with zeros (Table 12-3). -/
def iklMsg (mtype : Nat) (content body : List Byte) : IklMsg := ⟨mtype, (content ++ List.replicate 12 0#8).take 12, body⟩

/-- A message queued to the twin on a lane (R276, R277). -/
def State.iklSend (s : State) (lane mtype : Nat) (content body : List Byte) : State :=
  { s with ikl := { s.ikl with lanes := s.ikl.lanes.modify lane (fun l => l.put (iklMsg mtype content body)) } }

/-! ### The Accession Log -/

/-- The bytes of a record, with its CHECK (Table 15-7). -/
def AclRec.bytes (r : AclRec) : List Byte :=
  let b := leBytes 4 r.index ++ leBytes 2 r.node ++ leBytes 2 r.event ++ leBytes 4 r.timeS ++ leBytes 4 r.timeNs
    ++ (r.data ++ List.replicate (12 - r.data.length) 0#8).take 12
  b ++ leBytes 4 (crc32c b)

/-- The position that the copier takes next: COPIED, or the oldest record held when COPIED was overwritten,
after the positions of the operation in progress (R361). -/
def State.aclCopyFrom (s : State) : Nat :=
  let oldest := (s.rd F.ACL_STATUS.NEXT + 2 ^ 32 - s.rd F.ACL_STATUS.HELD) % 2 ^ 32
  let from_ := match s.acl.copying with
    | some (p, rs) => (p + rs.length) % 2 ^ 32
    | none => s.rd F.ACL_COPY.COPIED
  if (oldest + 2 ^ 32 - from_) % 2 ^ 32 < 2 ^ 31 then oldest else from_

/-- The record takes the next position of the ring; the record 8,192 positions below is overwritten, and is
lost to the copy when the copier has not taken it. A device of a pair sends its own records to the twin (R285, R357,
R361). -/
def State.aclPut (s : State) (r : AclRec) : State :=
  let next := s.rd F.ACL_STATUS.NEXT
  let oldest := (next + 2 ^ 32 - 8192) % 2 ^ 32
  let lost := 8192 ≤ s.acl.ring.length && s.aclCopyFrom = oldest
  let gone := match s.acl.copyLost with
    | some (p, n) => some (p, n + 1)
    | none => some (oldest, 1)
  let s := { s with acl := { s.acl with
    ring := (r :: s.acl.ring).take 8192, copyLost := if lost then gone else s.acl.copyLost } }
  let s := s.whenD lost (fun s => (s.incSat F.ACL_COUNTS.COPY_LOST).set1 F.ACL_ERR.COPY_LOST)
  let s := (s.wr F.ACL_STATUS.NEXT (next + 1)).wr F.ACL_STATUS.HELD s.acl.ring.length
  let s := if s.bit F.TWN_CFG.MODE && r.node % 2 ^ 14 = s.rd F.TIM_CFG.NODE_ID then
      s.iklSend 7 0x40 (leBytes 2 2 ++ leBytes 4 r.index) r.bytes
    else s
  if s.bit F.ACL_CTL.IRQ_EN then s.announce 4 23 else s

/-- Whether records wait in the holding queue: a freeze stands, from the cycle after its write, or a clear is being made
(R359, R364). -/
def State.aclWaiting (s : State) : Bool :=
  (s.bit F.ACL_STATUS.FROZEN && s.acl.frozenAt ≠ some s.cycle) || s.acl.clearing

/-- A record enters the ring, or the holding queue while the log is frozen; a record that finds the queue of
256 full is discarded, counted and announced (R359). -/
def State.aclEnter (s : State) (r : AclRec) : State :=
  if s.aclWaiting then
    if s.acl.queue.length < 256 then
      let s := { s with acl := { s.acl with queue := s.acl.queue ++ [r] } }
      s.wr F.ACL_STATUS.QUEUED s.acl.queue.length
    else
      let s := { s with acl := { s.acl with lost := s.acl.lost + 1 } }
      (((s.incSat F.ACL_COUNTS.HOLD_OVERFLOW).set1 F.ACL_ERR.HOLD_OVERFLOW).vector 4)
  else s.aclPut r

/-- A record of this device with the present stamp (R356). -/
def State.aclMake (s : State) (event : Nat) (guard : Bool) (data : List Byte) : AclRec :=
  { index := s.acl.index, node := s.rd F.TIM_CFG.NODE_ID + (if guard then 0x8000 else 0), event := event,
    timeS := s.nowS % 2 ^ 32, timeNs := s.nowNs, data := data }

/-- Events whose records are written at most once per 100 µs (Table 15-8). -/
def aclLimited (event : Nat) : Bool := event = 0x0301 || event = 0x0303 || event = 0x0401 || event = 0x0505

/-- 100 µs in CLK_CTL cycles. -/
def cycles100us : Nat := 40000

/-- Whether a rate-limited record may be written now. -/
def State.aclDue (s : State) (event : Nat) : Bool :=
  !aclLimited event || s.acl.lastAt.all (fun p => p.1 ≠ event || p.2 + cycles100us ≤ s.cycle)

/-- A record of this device written (R356), within the limits of Table 15-8. -/
def State.aclLog (s : State) (event : Nat) (data : List Byte) : State :=
  if s.aclDue event then
    let r := s.aclMake event false data
    let s := { s with acl := { s.acl with
      index := (s.acl.index + 1) % 2 ^ 32
      lastAt := if aclLimited event then (event, s.cycle) :: s.acl.lastAt.filter (fun p => p.1 ≠ event)
        else s.acl.lastAt } }
    s.aclEnter r
  else s.incSat F.ACL_COUNTS.SUPPRESSED

/-- The held records enter the ring in order, followed by a HOLD_OVERFLOW record when records were lost
(R359). -/
def State.aclDrain (s : State) : State :=
  let q := s.acl.queue
  let lost := s.acl.lost
  let s := { s with acl := { s.acl with queue := [], lost := 0 } }
  let s := (q.foldl State.aclPut s).wr F.ACL_STATUS.QUEUED 0
  s.whenD (0 < lost) (fun s =>
    let r := s.aclMake 0x0702 false (leBytes 4 lost)
    { s with acl := { s.acl with index := (s.acl.index + 1) % 2 ^ 32 } }.aclPut r)

/-- The freeze ends and the queue enters the ring (R359). -/
def State.aclThaw (s : State) : State :=
  let s := (s.clr F.ACL_STATUS.FROZEN).clr F.ACL_CTL.FREEZE
  if s.acl.clearing then s else s.aclDrain

/-- The Guard's record ends a freeze and always enters the ring, behind the CLEARED record where a clear whose tag has matched is
about to end (R359, R364). DEDUCED (log 174): a clear whose tag the Keeper has not written ends there, since the Guard holds the
Keeper in reset, and the records that it held enter the ring. -/
def State.aclGuard (s : State) (data : List Byte) : State :=
  let s := if s.bit F.ACL_STATUS.FROZEN then s.aclThaw else s
  let s := if s.acl.clearing && !s.acl.matched then
      { s with acl := { s.acl with clearChal := none, clearing := false } }.aclDrain
    else s
  let r := s.aclMake 0x0201 true data
  let s : State := { s with
    acl := { s.acl with index := (s.acl.index + 1) % 2 ^ 32 }
    saf := { s.saf with recordIndex := r.index } }
  if s.acl.clearing then
    { s with acl := { s.acl with queue := s.acl.queue ++ [r] } }.wr F.ACL_STATUS.QUEUED (s.acl.queue.length + 1)
  else s.aclPut r

/-! ### The firewall's refusal -/

/-- MASTER and CORE of KPR_FW_LAST. -/
def masterCode : Master → Nat
  | .keeper => 1
  | .docentM _ => 2
  | .docentU _ => 3
  | .host => 4

/-- The Docent core of a master; 0 for the Keeper and the host. -/
def masterCore : Master → Nat
  | .docentM c => c
  | .docentU c => c
  | _ => 0

/-- A refused access: recorded, flagged, counted and logged; one whose record would be the second within 100 µs counts as
suppressed in KPR_COUNTS and in ACL_COUNTS (R344, R345, Table 15-8). -/
def State.fwRefuse (s : State) (m : Master) (addr kind : Nat) : State :=
  let s := (((s.wr F.KPR_FW_LAST.ADDR addr).wr F.KPR_FW_LAST.MASTER (masterCode m)).wr F.KPR_FW_LAST.CORE
    (masterCore m)).wr F.KPR_FW_LAST.KIND kind
  let s := (s.set1 F.KPR_ERR.FIREWALL).incSat F.KPR_COUNTS.FIREWALL
  if s.aclDue 0x0301 then
    let data := leBytes 8 (s.reg 0x1F0048).toNat ++ leBytes 4 s.acl.fwSuppressed
    { s with acl := { s.acl with fwSuppressed := 0 } }.aclLog 0x0301 data
  else
    ({ s with acl := { s.acl with fwSuppressed := s.acl.fwSuppressed + 1 } }.incSat F.KPR_COUNTS.SUPPRESSED).incSat
      F.ACL_COUNTS.SUPPRESSED

/-! ### Notices -/

/-- The Keeper writes a notice into the ring of 16 in the Docent shared SRAM and raises source 19 (R347). -/
def State.notice (s : State) (kind code tag : Nat) : State :=
  let n := s.rd F.DOC_STATUS.NOTICE_NEXT
  let a := s.rd F.DOC_CFG.NOTICE * 512 + n % 16 * 32
  let bs := leBytes 1 kind ++ leBytes 1 code ++ leBytes 2 tag ++ List.replicate 28 0#8
  let s := s.sramWrite a bs false
  (s.wr F.DOC_STATUS.NOTICE_NEXT (n + 1)).source 19

/-! ### Fault and safety events, leaky buckets -/

/-- A fault or safety event is announced (Tables 2-1 and 15-4). -/
def State.faultEvent (s : State) : State := s.announce 5 25

/-- N of a bucket, and W in CLK_CTL cycles; bucket 5 takes N = 1 and SCR_CFG.UC_WINDOW_H (R334). -/
def State.bucketN (s : State) (k : Nat) : Nat := if k = 5 then 1 else s.rd (F.SAF_BUCKET.N k)
def State.bucketW (s : State) (k : Nat) : Nat :=
  if k = 5 then s.rd F.SCR_CFG.UC_WINDOW_H * 3600 * 400000000 else s.rd (F.SAF_BUCKET.W_MS k) * 400000

/-- A lasting fault is declared: flagged, recorded, counted, logged and announced (R335). -/
def State.lasting (s : State) (k inst : Nat) : State :=
  let s := ((s.set1 F.SAF_ERR.LASTING).wr F.SAF_LASTING.SOURCE k).wr F.SAF_LASTING.INSTANCE inst
  let s := s.incSat F.SAF_COUNTS.LASTING
  ((s.aclLog 0x0202 (leBytes 1 k ++ leBytes 3 0 ++ leBytes 5 inst)).faultEvent)

/-- An error event of bucket `k` at an instance. The times are kept in units of W/256, and the second part of
the answer says that more than N events now lie within W (R334). -/
def State.bucket (s : State) (k inst : Nat) : State × Bool :=
  let w := max (s.bucketW k) 1
  let t := s.cycle * 256 / w
  let mine := fun (e : Nat × Nat × Nat) => e.1 = k && e.2.1 = inst
  let evs := (k, inst, t) :: s.saf.buckets.filter (fun e => !(mine e && e.2.2 + 256 < t))
  let n := (evs.filter mine).length
  let s := { s with saf := { s.saf with buckets := evs } }
  if s.bucketN k < n then (s.lasting k inst, true) else (s, false)

/-- The same where the bucket's only action is the report. -/
def State.bucketReport (s : State) (k inst : Nat) : State := (s.bucket k inst).1

/-- An instance whose count is evicted or taken over loses it (R205). -/
def State.bucketDrop (s : State) (k inst : Nat) : State :=
  { s with saf := { s.saf with buckets := s.saf.buckets.filter (fun e => !(e.1 = k && e.2.1 = inst)) } }

end Sys2Proof.Machine
end

