-- ==== Sys2Proof/Machine/Geometry.lean ====
section
/-! DEFINITION. Plane geometry of paths: the sense sum, flattening, exact coverage, check regions, areas, bounds
and the classes of pixels (R92 to R98, R108, R109, R116, R118, R121, Table 4-4). -/
namespace Sys2Proof.Machine

/-- A point of the plane, in the unit its user names. -/
abbrev Pt := Int × Int

/-- The end point of a segment. -/
def segEnd : Seg → Int × Int
  | .line x y => (x, y)
  | .quad _ _ x y => (x, y)

/-- a × b of R93. -/
def crossP (a b : Pt) : Int := a.1 * b.2 - b.1 * a.2

/-- The term of one segment from `p` in the sense sum (R93). -/
def segSense (p : Pt) : Seg → Int
  | .line x y => 3 * crossP p (x, y)
  | .quad cx cy x y => 2 * crossP p (cx, cy) + 2 * crossP (cx, cy) (x, y) + crossP p (x, y)

/-- The sense sum of segments that start at `p` (R93). -/
def segsSense : Pt → List Seg → Int
  | _, [] => 0
  | p, sg :: sgs => segSense p sg + segsSense (segEnd sg) sgs

/-- W of a path (R93). -/
def pathSense (p : Path) : Int := segsSense (p.x, p.y) p.segs

/-- W of a set of paths (R93). -/
def setSense (ps : List Path) : Int := (ps.map pathSense).sum

/-- The segments walked backwards, from the last end point to `p`. -/
def segsReverse : Pt → List Seg → List Seg
  | _, [] => []
  | p, sg :: sgs =>
    segsReverse (segEnd sg) sgs ++ [match sg with
      | .line _ _ => .line p.1 p.2
      | .quad cx cy _ _ => .quad cx cy p.1 p.2]

/-- A closed path reversed in segment order (R94). -/
def pathReverse (p : Path) : Path := { p with segs := segsReverse (p.x, p.y) p.segs }

/-- A copy handed on with the sense of its definition or better: reversed where its mapped total is negative
(R94). -/
def copySense (ps : List Path) : List Path := if setSense ps < 0 then ps.map pathReverse else ps

/-! ### Flattening -/

/-- The number of pieces of a quadratic (R96). -/
def pieceCount (d : Nat) : Nat :=
  if d ≤ 1 then 1 else if d ≤ 4 then 2 else if d ≤ 16 then 4 else if d ≤ 64 then 8 else if d ≤ 256 then 16
  else if d ≤ 1024 then 32 else 64

/-- d of R96 for one quadratic. -/
def quadDelta (p0 p1 p2 : Pt) : Nat :=
  max (p0.1 - 2 * p1.1 + p2.1).natAbs (p0.2 - 2 * p1.2 + p2.2).natAbs

/-- A piece of a flattened path: its two ends. -/
abbrev Piece := Pt × Pt

/-- Vertex `i` of `n` pieces, in window q16 (R92, R96). -/
def quadVertex (p0 p1 p2 : Pt) (n i : Nat) : Pt :=
  let c := fun (a b d : Int) =>
    4096 * 16 + (((n : Int) - i) ^ 2 * a + 2 * i * ((n : Int) - i) * b + (i : Int) ^ 2 * d) * (4096 / ((n : Int) * n))
  (c p0.1 p1.1 p2.1, c p0.2 p1.2 p2.2)

/-- A Folio point in window q16 (R92). -/
def toWindow (p : Pt) : Pt := (4096 * (p.1 + 16), 4096 * (p.2 + 16))

/-- The pieces of one segment from `p` (R96). -/
def segPieces (p : Pt) : Seg → List Piece
  | .line x y => [(toWindow p, toWindow (x, y))]
  | .quad cx cy x y =>
    let n := pieceCount (quadDelta p (cx, cy) (x, y))
    (List.range n).map (fun i => (quadVertex p (cx, cy) (x, y) n i, quadVertex p (cx, cy) (x, y) n (i + 1)))

/-- The pieces of segments that start at `p`. -/
def segsPieces : Pt → List Seg → List Piece
  | _, [] => []
  | p, sg :: sgs => segPieces p sg ++ segsPieces (segEnd sg) sgs

/-- The flattened pieces of a path (R96). -/
def pathPieces (p : Path) : List Piece := segsPieces (p.x, p.y) p.segs

/-- The pieces of a tile. -/
def tilePieces (ps : List Path) : List Piece := ps.flatMap pathPieces

/-- What the flattening takes from the sense sum: n² divides 4,096, so the term is exact when scaled by 4,096²
(R118). -/
def segsFlattened : Pt → List Seg → Int
  | _, [] => 0
  | _, .line x y :: sgs => segsFlattened (x, y) sgs
  | p, .quad cx cy x y :: sgs =>
    let n : Int := pieceCount (quadDelta p (cx, cy) (x, y))
    2 * (crossP p (cx, cy) + crossP (cx, cy) (x, y) - crossP p (x, y)) * (4096 * 4096 / (n * n))
      + segsFlattened (x, y) sgs

/-- The flattening check of a path (R118), in units of 1/4,096² Folio units². -/
def pathFlattens (p : Path) : Bool :=
  3 * ((pathPieces p).map (fun q => crossP q.1 q.2)).sum
    = pathSense p * (4096 * 4096) - segsFlattened (p.x, p.y) p.segs

/-! ### Sub-pieces and coverage -/

/-- a / b rounded to nearest, half toward plus infinity, with b made positive first (R98). -/
def rdiv (a b : Int) : Int :=
  let n := if b < 0 then -a else a
  let d := if b < 0 then -b else b
  (2 * n + d) / (2 * d)

/-- The multiples of `u` strictly between two coordinates. -/
def gridBetween (u a b : Int) : List Int :=
  let lo := min a b
  let hi := max a b
  let first := lo / u + 1
  (List.range ((hi - 1) / u - lo / u).toNat).map (fun (i : Nat) => (first + (i : Int)) * u)

/-- The point where a piece crosses x = k (R98). -/
def crossAtX (p : Piece) (k : Int) : Pt := (k, p.1.2 + rdiv ((k - p.1.1) * (p.2.2 - p.1.2)) (p.2.1 - p.1.1))

/-- The point where a piece crosses y = k (R98). -/
def crossAtY (p : Piece) (k : Int) : Pt := (p.1.1 + rdiv ((k - p.1.2) * (p.2.1 - p.1.1)) (p.2.2 - p.1.2), k)

/-- A cut joins the cuts before and after it on the piece. -/
def cutInsert (c : Int × Pt) : List (Int × Pt) → List (Int × Pt)
  | [] => [c]
  | d :: ds => if c.1 < d.1 then c :: d :: ds else d :: cutInsert c ds

/-- The pieces between successive points. -/
def chainPieces : Pt → List Pt → List Piece
  | _, [] => []
  | p, q :: qs => (p, q) :: chainPieces q qs

/-- A piece split at the x and y coordinates given; every crossing is rounded once, and the cuts stand in the
order in which the piece meets them (R98). -/
def pieceSplit (p : Piece) (xs ys : List Int) : List Piece :=
  let dx : Int := max 1 (p.2.1 - p.1.1).natAbs
  let dy : Int := max 1 (p.2.2 - p.1.2).natAbs
  let cx := xs.map (fun k => (((k - p.1.1).natAbs : Int) * dy, crossAtX p k))
  let cy := ys.map (fun k => (((k - p.1.2).natAbs : Int) * dx, crossAtY p k))
  let cuts := (cx ++ cy).foldr cutInsert []
  chainPieces p.1 (cuts.map Prod.snd ++ [p.2])

/-- The sub-pieces of a piece: split at every integer x and y that it crosses (R98). -/
def subPieces (p : Piece) : List Piece :=
  pieceSplit p (gridBetween 65536 p.1.1 p.2.1) (gridBetween 65536 p.1.2 p.2.2)

/-- The pixel column and row of a sub-piece (R98). -/
def subCol (q : Piece) : Int := min q.1.1 q.2.1 / 65536
def subRow (q : Piece) : Int := min q.1.2 q.2.2 / 65536

/-- The integral of w over window pixel (i, j) in q33: the running cover of the columns before i and the area
word of column i (R98). -/
def pixelIntegral (subs : List Piece) (i j : Nat) : Int :=
  (subs.map (fun q =>
    let dy := q.2.2 - q.1.2
    if subRow q ≠ j then 0
    else if subCol q < i then -(dy * 2 ^ 17)
    else if subCol q = i then -dy * (((i : Int) + 1) * 2 ^ 17) + dy * (q.1.1 + q.2.1)
    else 0)).sum

/-- The raw coverage of a pixel (R98). -/
def pixelRaw (subs : List Piece) (i j : Nat) : Int := rshr (pixelIntegral subs i j) 20

/-! ### Check regions -/

/-- The region of Table 4-4 that a window pixel lies in. -/
def regionOf (i j : Nat) : Nat :=
  if j = 0 then 4 else if j = 129 then 5 else if i = 0 then 6 else if i = 129 then 7
  else (if i ≤ 64 then 0 else 1) + (if j ≤ 64 then 0 else 2)

/-- The rectangle of a region: X0, X1, Y0, Y1 in window pixels (Table 4-4, R109). -/
def regionBox (g : Nat) : Int × Int × Int × Int :=
  match g with
  | 0 => (1, 65, 1, 65)
  | 1 => (65, 129, 1, 65)
  | 2 => (1, 65, 65, 129)
  | 3 => (65, 129, 65, 129)
  | 4 => (0, 130, 0, 1)
  | 5 => (0, 130, 129, 130)
  | 6 => (0, 1, 1, 129)
  | _ => (129, 130, 1, 129)

/-- The term of one sub-piece, in q65 (R109). -/
def areaTerm (x0 x1 : Int) (q : Piece) : Int :=
  let dy := q.2.2 - q.1.2
  let a := q.1.1
  let b := q.2.1
  if b ≤ x0 * 2 ^ 32 && a ≤ x0 * 2 ^ 32 then -dy * ((x1 - x0) * 2 ^ 33)
  else if x1 * 2 ^ 32 ≤ b && x1 * 2 ^ 32 ≤ a then 0
  else -dy * (x1 * 2 ^ 33 - a - b)

/-- Cuts of an interval at the coordinates that lie strictly inside it. -/
def strictly (a b : Int) (ks : List Int) : List Int := ks.filter (fun k => min a b < k && k < max a b)

/-- The area of a region in units of 1/16 LSB: clipped in y, split at x = X0 and X1, with crossings rounded to 32
fraction bits (R109). -/
def area16 (ps : List Piece) (g : Nat) : Int :=
  let r := regionBox g
  let x0 := r.1
  let x1 := r.2.1
  let y0 := r.2.2.1 * 2 ^ 32
  let y1 := r.2.2.2 * 2 ^ 32
  let term := fun (p : Piece) =>
    let w : Piece := ((p.1.1 * 65536, p.1.2 * 65536), (p.2.1 * 65536, p.2.2 * 65536))
    let subs := pieceSplit w (strictly w.1.1 w.2.1 [x0 * 2 ^ 32, x1 * 2 ^ 32]) (strictly w.1.2 w.2.2 [y0, y1])
    ((subs.filter (fun q => y0 ≤ min q.1.2 q.2.2 && max q.1.2 q.2.2 ≤ y1)).map (areaTerm x0 x1)).sum
  rshr ((ps.map term).sum) 48

/-- The interval of the parameter in which a coordinate from `a` to `b` stays within [lo, hi], as rational
numbers; `none` where it never does. -/
def clipRange (a b lo hi : Int) : Option (Rat × Rat) :=
  if a = b then (if lo ≤ a && a ≤ hi then some (0, 1) else none)
  else
    let t0 : Rat := ((lo - a : Int) : Rat) / ((b - a : Int) : Rat)
    let t1 : Rat := ((hi - a : Int) : Rat) / ((b - a : Int) : Rat)
    some (max 0 (min t0 t1), min 1 (max t0 t1))

/-- What a piece adds to H of R116 in a region: nothing where it does not meet the closed rectangle. -/
def boundTerm (p : Piece) (g : Nat) : Nat :=
  let r := regionBox g
  match clipRange p.1.1 p.2.1 (r.1 * 65536) (r.2.1 * 65536), clipRange p.1.2 p.2.2 (r.2.2.1 * 65536) (r.2.2.2 * 65536) with
  | some u, some v =>
    let t0 := max u.1 v.1
    let t1 := min u.2 v.2
    if t1 < t0 then 0
    else
      let ext := fun (d : Int) => (((d.natAbs : Nat) : Rat) * (t1 - t0) / 65536).ceil.toNat
      ext (p.2.1 - p.1.1) + ext (p.2.2 - p.1.2) + 2
  | _, _ => 0

/-- The bound B of a region and whether it saturates (R116). -/
def regionBound (ps : List Piece) (g : Nat) : Nat × Bool :=
  let h := (ps.map (fun p => boundTerm p g)).sum
  let b := 2 + (9 * h + 15) / 16
  (min b 0xFFFF, decide (0xFFFF ≤ b))

/-- The density of a cell of area `a` (R110). -/
def densityOf (a : Int) : Nat := (clampInt (rshr a 16) 0 0x2000).toNat

/-! ### Classes -/

/-- The winding number of pieces about the point displaced from (cx, cy) first toward increasing x, then toward
increasing L (R95, R121). -/
def winding (ps : List Piece) (cx cy : Int) : Int :=
  (ps.map (fun p =>
    let a := p.1
    let b := p.2
    if decide (a.2 ≤ cy) = decide (b.2 ≤ cy) then 0
    else
      let dy := b.2 - a.2
      -- the crossing lies right of the centre: (cy - a.y)(b.x - a.x) / dy > cx - a.x
      let l := (cy - a.2) * (b.1 - a.1)
      let r := (cx - a.1) * dy
      if dy > 0 then (if l > r then 1 else 0) else (if l < r then -1 else 0))).sum

/-- The lowest class, and 0 of none. -/
def lowestClass : List Nat → Nat
  | [] => 0
  | c :: cs => cs.foldl min c

/-- The innermost of the paths that wind around a centre: the least |W|, and of equal ones the lowest class
(R121). -/
def innermost : List (Nat × Nat) → Option (Nat × Nat)
  | [] => none
  | e :: es => match innermost es with
    | none => some e
    | some f => if e.1 < f.1 || (e.1 = f.1 && e.2 ≤ f.2) then some e else some f

/-- The class of window pixel (i, j) (R121), on the flattened pieces. -/
def pixelClass (ps : List Path) (i j : Nat) : Nat :=
  let cx : Int := (i : Int) * 65536 + 32768
  let cy : Int := (j : Int) * 65536 + 32768
  let ws := ps.map (fun p => (winding (pathPieces p) cx cy, (pathSense p).natAbs, p.cls))
  if (ws.map Prod.fst).sum = 1 then
    match innermost ((ws.filter (fun w => w.1 ≠ 0)).map Prod.snd) with
    | some e => e.2
    | none => 0
  else
    lowestClass ((ps.filter (fun p => (pathPieces p).any (fun q =>
      (subPieces q).any (fun u => subCol u = i && subRow u = j)))).map Path.cls)

end Sys2Proof.Machine
end

