-- ==== Sys2Proof/Machine/LeafView.lean ====
section
/-! DEFINITION. What the units read of the leaves in their places: their rows and slots, the engines' next tiles
and what those wait for (R62, R66, R104, R105, RAS_WAIT, RAS_SEQ). -/
namespace Sys2Proof.Machine

/-- What the raster path holds of a leaf that is not admitted yet. -/
def rasNew : Ras := ⟨0, none, -17, [], [], [], -2, [], List.replicate 64 0, []⟩

/-- A leaf that has just taken a place. -/
def leafNew (id : Nat) : Leaf :=
  { id := id, hdr := none, admitted := false, blocks := [], nextSeq := 0, skipping := false, reported := 0,
    complete := -1, lastNamed := -1000000, classes := none, fog := [], motifs := [], motifBytes := 0, tiles := [],
    dens := [], named := [], halo := [], sums := [], missing := [], failed := [], ras := rasNew }

/-- The leaf in a place. -/
def State.leafAt (s : State) (p : Nat) : Option Leaf := if p = 0 then s.fol.place0 else s.fol.place1

/-- The leaf of a place with its header. -/
def State.curHdr (s : State) (p : Nat) : Option (Leaf × LeafHdr) :=
  (s.leafAt p).bind (fun l => l.hdr.map (fun h => (l, h)))

/-- A place filled, replaced or freed. -/
def State.setPlace (s : State) (p : Nat) (l : Option Leaf) : State :=
  if p = 0 then { s with fol := { s.fol with place0 := l } } else { s with fol := { s.fol with place1 := l } }

/-- A leaf in a place changed. -/
def State.setLeaf (s : State) (p : Nat) (l : Leaf) : State := s.setPlace p (some l)

/-- Rows `a` to `b` as a list. -/
def rowsFrom (a b : Int) : List Int := (List.range (b + 1 - a).toNat).map (fun (i : Nat) => a + (i : Int))

/-- Whether a row is marked missing, and with which cause. -/
def Leaf.rowMissing (l : Leaf) (t : Int) : Option Nat := (l.missing.find? (·.1 = t)).map Prod.snd

/-- Tile rows of a leaf (R62), and the lowest and highest rows that its halo reaches (R75). -/
def hdrT (h : LeafHdr) : Nat := ceilDiv h.lines 128
def hdrLow (h : LeafHdr) : Int := -(ceilDiv h.halo 2 : Nat)
def hdrHigh (h : LeafHdr) : Int := hdrT h - 1 + (ceilDiv h.halo 2 : Nat)

/-- Whether a cell lies in the halo (R75). -/
def inHalo (h : LeafHdr) (crow ccol : Int) : Bool :=
  let hh : Int := h.halo
  let t2 : Int := 2 * hdrT h
  decide (-hh ≤ crow) && crow ≤ t2 + hh - 1 && (-hh) ≤ ccol && ccol ≤ 127 + hh
    && !(0 ≤ crow && crow < t2 && 0 ≤ ccol && ccol < 128)

/-- Whether a tile is one that TILE records name. -/
def ownTile (h : LeafHdr) (t e : Int) : Bool := 0 ≤ t && t < (hdrT h : Int) && 0 ≤ e && e < 64

/-- C of R75, and S_last of R148. -/
def hdrC (h : LeafHdr) : Nat := ceilDiv h.lines 64
def hdrLast (h : LeafHdr) : Nat := ceilDiv h.lines 32 + 526

/-- The leaf that the tracker has armed or runs, with its header. -/
def State.curLeaf (s : State) : Option (Nat × Leaf × LeafHdr) :=
  match s.fol.cur with
  | none => none
  | some p => match s.leafAt p with
    | none => none
    | some l => l.hdr.map (fun h => (p, l, h))

/-- Whether a leaf in a place is the one that the tracker runs: RUN, PAUSED or ENDING. -/
def State.running (s : State) (p : Nat) : Bool := s.fol.cur = some p && 2 ≤ s.rd F.SLT_STATUS.STATE

/-- The global frame of slot `sl` of a leaf with base `b`, in the 40 bits of the count (R133). -/
def globalFrame (b sl : Nat) : Nat := (b + sl) % 2 ^ 40

/-- How far frame `n` lies ahead of frame `r` in the 40-bit count; negative when it lies behind (R133, R137). -/
def frameAhead (n r : Nat) : Int := signed 40 (n + 2 ^ 40 - r % 2 ^ 40)

/-- How far the first frame of a tile row lies ahead of the next frame to be released (R24, R137). -/
def State.rowLead (s : State) (l : Leaf) (t : Int) : Int :=
  frameAhead (globalFrame l.ras.base (4 * t).toNat) (s.rd F.RSV_POS.RELEASED)

/-- Whether slot 4t of the leaf in a place has passed its release point (R105, R106). -/
def State.rowPassed (s : State) (p : Nat) (l : Leaf) (t : Int) : Bool :=
  (s.running p && decide (4 * t ≤ s.slt.decided)) || decide (s.rowLead l t < 0)

/-- Whether the last slot of the leaf in a place has been released, which it is once its frame is read, or discarded
(R130, Table 5-5). -/
def State.leafFinished (s : State) (p : Nat) : Bool :=
  s.running p && match s.curLeaf with
    | none => false
    | some (_, l, h) =>
      (s.slt.lbDue || s.slt.endAt.any (fun c => c ≤ s.slt.decided) || decide ((hdrLast h : Int) ≤ s.slt.decided))
        && !s.slt.slots.any (fun (r : SlotRec) => r.leaf = l.id && r.data && !r.read)

/-- Whether an unfinished leaf is bound to a bank: BCT_BANKb.IN_USE (R130). -/
def State.bankUsed (s : State) (b : Nat) : Bool :=
  [0, 1].any (fun p => match s.leafAt p with
    | some l => l.admitted && l.ras.bank = some b && !s.leafFinished p
    | none => false)

/-- Whether the bank of a leaf is settled, so that its tiles may be issued (R131). -/
def Leaf.bankKnown (l : Leaf) : Bool := l.ras.bank.isSome

/-- The next tile of an engine: the place, the leaf, its header and the tile row (R105, R107). -/
def State.engineNext (s : State) (e : Nat) : Option (Nat × Leaf × LeafHdr × Int) :=
  s.fol.order.findSome? (fun p => match s.leafAt p with
    | none => none
    | some l => match l.hdr with
      | none => none
      | some h =>
        let t := l.ras.next.getD e 0
        if l.admitted && t < (hdrT h : Int) then some (p, l, h, t) else none)

/-- Tiles that an engine holds in its buffers, over both places. -/
def State.engineHeld (s : State) (e : Nat) : List TileSt :=
  [0, 1].flatMap (fun p => match s.leafAt p with
    | none => []
    | some l => l.ras.tiles.filter (fun (k : TileSt) => k.col = e && (k.phase = .edge || k.phase = .sweep)))

/-- Whether a tile row stands complete in the decoded tile queue (R60). -/
def Leaf.rowDone (l : Leaf) (h : LeafHdr) (t : Int) : Bool := min t (hdrHigh h) ≤ l.complete

/-- Condition 2 of R104. -/
def Leaf.densityReady (l : Leaf) (h : LeafHdr) (t : Int) : Bool := min (t + 16) (hdrHigh h) ≤ l.ras.densRow

/-- Condition 3 of R104; cell rows above C count as present whenever row C is (R122). -/
def Leaf.pecReady (l : Leaf) (h : LeafHdr) (t : Int) : Bool := !h.pec || min (2 * t + 2) (hdrC h : Int) ≤ l.ras.modRow

/-- Condition 4 of R104 (R24, R137). -/
def State.reserveAdmits (s : State) (l : Leaf) (t : Int) : Bool :=
  let d := s.rowLead l t
  0 ≤ d && d ≤ 84

/-- RSV_LEAD.LEAD from the highest first frame of a tile row admitted since reset (R137). -/
def State.leadShow (s : State) : State :=
  s.wr F.RSV_LEAD.LEAD (match s.rsv.high with
    | some f => min 84 (frameAhead f (s.rd F.RSV_POS.RELEASED)).toNat
    | none => 0)

/-- What engine `e` lacks, as the bits of RAS_WAIT. -/
def State.engineLacks (s : State) (e : Nat) : Option (Int × Nat) :=
  (s.engineNext e).map (fun n =>
    let l := n.2.1
    let h := n.2.2.1
    let t := n.2.2.2
    (t, (if l.rowDone h t && (l.rowMissing t).isNone then 0 else 1) + (if l.densityReady h t then 0 else 2)
      + (if l.pecReady h t then 0 else 4) + (if s.reserveAdmits l t then 0 else 8)))

/-- The lowest of rows with what hangs on them; of equal rows the first. -/
def lowestRow : List (Int × Nat) → Option (Int × Nat)
  | [] => none
  | e :: es => match lowestRow es with
    | none => some e
    | some f => if e.1 ≤ f.1 then some e else some f

/-- RAS_WAIT: what the lowest waiting engine lacks (R104). -/
def State.rasWait (s : State) : Nat :=
  match lowestRow ((List.range 64).filterMap s.engineLacks) with
  | some w => w.2
  | none => 0

/-- The tile row, with its place, that comes first in the sequence of the leaves: the lowest that an engine holds of the leaf
first in the order of admission, or, when no engine holds a tile, the lowest next row (R105, R110). -/
def State.seqLow (s : State) : Option (Nat × Int) :=
  let held := fun (p : Nat) => (s.leafAt p).bind (fun l => lowestRow ((l.ras.tiles.filter (fun (k : TileSt) =>
    k.phase = .edge || k.phase = .sweep)).map (fun k => (k.row, p))))
  let next := fun (p : Nat) => (s.leafAt p).bind (fun l => l.hdr.bind (fun h =>
    lowestRow ((l.ras.next.filter (· < (hdrT h : Int))).map (fun t => (t, p)))))
  ((s.fol.order.findSome? held).or (s.fol.order.findSome? next)).map (fun w => (w.2, w.1))

/-- The tile rows of the leaves before a place, each from −16 to T + 15, in the order in which the density pass takes them
(R110). -/
def State.rowsBefore (s : State) (p : Nat) : Nat :=
  ((s.fol.order.takeWhile (· ≠ p)).map (fun q => match (s.leafAt q).bind Leaf.hdr with
    | some h => hdrT h + 32
    | none => 0)).sum

/-- RAS_SEQ.LOW_TROW: the lowest tile row held, or the lowest next row of any engine. -/
def State.rasLow (s : State) : Option Int :=
  match lowestRow (((List.range 64).flatMap s.engineHeld).map (fun k => (k.row, 0))) with
  | some w => some w.1
  | none => (lowestRow ((List.range 64).filterMap s.engineLacks)).map Prod.fst

/-- The Lacuna ring: its address, and its size in entries (R171). -/
def State.lacBase (s : State) : Nat := s.rd F.LAC_RING.BASE * 4096
def State.lacSize (s : State) : Nat := 2 ^ s.rd F.LAC_RING.LOG2

/-- Free entries of the Lacuna ring (R156, R171). -/
def State.lacFree (s : State) : Nat :=
  s.lacSize - (s.rd F.LAC_STATUS.NEXT + 2 ^ 32 - s.rd F.LAC_STATUS.ACKED) % 2 ^ 32

/-- The start conditions of R156 that an armed leaf lacks, as the bits of SLT_STATUS.WAIT. -/
def State.startWait (s : State) : Nat :=
  if s.rd F.SLT_STATUS.STATE ≠ 1 then 0
  else
    (if s.bit F.SLT_STATUS.REF0 && s.bit F.SLT_STATUS.REF1 then 0 else 1) + (if s.bit F.DUT_STATUS.HOT then 2 else 0)
      + (if s.lacFree < s.rd F.LAC_CFG.ARM_RESERVE then 4 else 0) + (if s.slt.near then 0 else 8)

end Sys2Proof.Machine
end

