-- ==== Sys2Proof/Machine/Operands.lean ====
section
/-! DEFINITION. Register accesses: how an access finds its register, what the firewall admits, and what a write
changes and a read returns (R12, R13, R344, R369, R398 to R405). -/
namespace Sys2Proof.Machine

/-- What an access reaches: a reserved offset, a width or alignment that is refused, one register with the
mask of the bits that the access covers, two 32-bit registers, a memory window, or BAR2 (R31, R398, R399, R406). -/
inductive BusHit where
  | reserved
  | badWidth
  | one (off : Nat) (cover : Nat)
  | two (off : Nat)
  | window (off : Nat)
  | bar2 (off : Nat)
  deriving DecidableEq, Repr

/-- The masks of the halves of a 64-bit register. -/
def lowMask : Nat := 0xFFFFFFFF
def highMask : Nat := 0xFFFFFFFF00000000
def fullMask : Nat := 0xFFFFFFFFFFFFFFFF

/-- The memory windows of R399: BOOT_FLASH_BUF, ACL_WINDOW and PMC_SAMPLE_WINDOW. -/
def inWindow (off : Nat) : Bool :=
  (0x8000 ≤ off && off < 0x9000) || (0x221000 ≤ off && off < 0x222000) || (0x232000 ≤ off && off < 0x234000)

/-- BAR2 among the offsets that an access names: its 64 MiB stand from here on (R31). -/
def bar2Base : Nat := 2 ^ 32

/-- What an access of a width at a BAR0 offset, or at one of BAR2, reaches (R31, R398, R399). -/
def busHit (off : Nat) (w : BusWidth) : BusHit :=
  if bar2Base ≤ off then .bar2 (off - bar2Base)
  else match w with
  | .w8 => .badWidth
  | .w16 => .badWidth
  | .w32 =>
    if off % 4 ≠ 0 then .badWidth
    else if inWindow off then .window off
    else match rowAt off with
      | some _ => .one off lowMask
      | none =>
        if off % 8 = 4 then
          match rowAt (off - 4) with
          | some (r, _) => if r.wide then .one (off - 4) highMask else .reserved
          | none => .reserved
        else .reserved
  | .w64 =>
    if off % 8 ≠ 0 then .badWidth
    else if inWindow off then .window off
    else match rowAt off with
      | some (r, _) =>
        if r.wide then .one off fullMask
        else if (rowAt (off + 4)).isSome then .two off else .badWidth
      | none => if (rowAt (off + 4)).isSome then .badWidth else .reserved

/-- Whether the host owns performance counter `k` (R369). -/
def State.hostCounter (s : State) (k : Nat) : Bool := 64 - s.rd F.PMC_CFG.HOST_COUNTERS ≤ k

/-- The mask of the counters that the host owns. -/
def State.hostCounters (s : State) : Nat :=
  2 ^ 64 - 2 ^ (64 - min 64 (s.rd F.PMC_CFG.HOST_COUNTERS))

/-- The registers that a host write reaches in STORAGE, beside W1C fields (R405). -/
def storageReg (off : Nat) : Bool :=
  [0x220008, 0x220010].contains off || (off / 0x10000 = 0 && off ≠ 0x8)

/-- Whether a register row names this master among its writers (R344). -/
def State.writerNamed (s : State) (m : Master) (off : Nat) (r : RegRow) (ix : List Nat) : Bool :=
  match r.kind with
  | .named =>
    (match m with
      | .keeper => r.byKeeper
      | .docentM _ => r.byDocent
      | .docentU _ => false
      | .host => r.byHost) && !(off / 0x10000 = 3 && off % 0x10000 < 0x400)
  | .crcOwner =>
    match m with
    | .docentM _ => true
    | .docentU _ => s.bit (F.CRC_U_CFG.USER (ix.headD 0))
    | _ => false
  | .wdogCore => m = .docentM (Fin.ofNat 8 (ix.headD 0))
  | .pmcOwner =>
    match m with
    | .docentU _ => false
    | .host => if off = 0x230018 then true else if off < 0x230100 then 2 ≤ ix.headD 0 else s.hostCounter (ix.headD 0)
    | _ => if off = 0x230018 then true else if off < 0x230100 then ix.headD 0 < 2 else !s.hostCounter (ix.headD 0)

/-- The bits of a register that a master may write now; zero where the firewall refuses it (R12, R301, R314,
R316, R344, R369, R404, R405). CAT fields take values in step 5 of BOOT only, until the lock (Table 0-7, R301). -/
def State.admitMask (s : State) (m : Master) (off : Nat) (r : RegRow) (ix : List Nat) : Nat :=
  let cat := if m = .keeper ∧ s.locked = false ∧ s.mode = 1 ∧ s.rd F.BOOT_STATUS.STEP = 5 then r.cat else 0
  let plain :=
    if !s.writerNamed m off r ix then 0
    else if m = .host && 0x30 ≤ off && off < 0x58 && s.mode ≠ 4 then 0
    else if m = .host && s.mode = 4 && !storageReg off then r.w1c
    else if off = 0x230000 then (if m = .host then 2 else 1)
    else if off = 0x230018 then (if m = .host then s.hostCounters else 2 ^ 64 - 1 - s.hostCounters)
    else if r.kind = .crcOwner && off % 0x100 = 8 then (match m with | .docentU _ => fullMask - 0x8000 | _ => fullMask)
    else fullMask - r.cat
  cat ||| plain

/-- A Docent core whose access is refused takes the exception (R344, R345, R398, R399). -/
def State.trap (s : State) (m : Master) (kind : Nat) : State :=
  match m with
  | .docentM c => { s with docTrap := some (c, kind) }
  | .docentU c => { s with docTrap := some (c, kind) }
  | _ => s

/-- A refused register write: discarded, logged, and a store access fault for a Docent (R12, R344). -/
def State.refuseWrite (s : State) (m : Master) (off : Nat) : State := (s.fwRefuse m off 0).trap m 2

/-- A refused register read: it returns zero; a Docent takes a load access fault (R344, R399, R402). -/
def State.refuseRead (s : State) (m : Master) (off : Nat) : State :=
  match m with
  | .docentM _ => ({ s with readData := 0 }.fwRefuse m off 1).trap m 1
  | .docentU _ => ({ s with readData := 0 }.fwRefuse m off 1).trap m 1
  | _ => { s with readData := 0 }

/-- Whether the firewall admits a write of this master to some field of the register at `off`: the test of
every command that is a register write with an effect of its own. -/
def State.admits (s : State) (m : Master) (off : Nat) : Bool :=
  match rowAt off with
  | some (r, ix) => (s.admitMask m off r ix &&& (r.rw ||| r.wo ||| r.w1c)) ≠ 0
  | none => false

/-- Whether a core is in service (R342). -/
def State.coreOn (s : State) (c : Nat) : Bool := s.rd F.DOC_CFG.CORES / 2 ^ c % 2 = 1

/-- A master that makes no access: in OFF every one (Table 13-1), and a Docent core that DOC_CFG.CORES keeps in reset
(R342). -/
def State.silent (s : State) (m : Master) : Bool :=
  s.mode = 0 || (match m with
    | .docentM c => !s.coreOn c
    | .docentU c => !s.coreOn c
    | _ => false)

/-- A command that a register write makes: refused at the firewall, or its effect (R344); none of a master that makes no
access. -/
def State.gated (s : State) (m : Master) (off : Nat) (f : State → State) : State :=
  if s.silent m then s else if s.admits m off then f s else s.refuseWrite m off

/-- A doubleword whose upper half acts: a 64-bit access brings the whole value, a 32-bit access to the upper
half joins the half that was staged before (R36, R400). -/
def State.staged (s : State) (off : Nat) (w : BusWidth) (v : Word) : Word :=
  if w = .w64 then v
  else (s.reg off &&& BitVec.ofNat 64 lowMask) ||| BitVec.ofNat 64 (v.toNat % 2 ^ 32 * 2 ^ 32)

/-- What no register holds, so that every staged half is listed (R400). -/
def halfNone (_ : Nat) : Nat := 2 ^ 64

/-- What a 64-bit register whose lower half may be staged holds (R400). -/
def State.halfReg (s : State) (off : Nat) : Word :=
  match s.halves.find? (fun e => e.1 = off) with
  | some e => BitVec.ofNat 64 e.2
  | none => s.reg off

/-- The register's content after a write of it, or of one half (R400). -/
def halfOver (h : HalfWrite) (old : Word) : Word :=
  let v := h.value.toNat % 2 ^ 32
  if h.wide then h.value
  else if h.upper then BitVec.ofNat 64 (old.toNat % 2 ^ 32 + 2 ^ 32 * v)
  else BitVec.ofNat 64 (old.toNat / 2 ^ 32 * 2 ^ 32 + v)

/-- A write to a register that acts on the write of its upper half: a lower half is staged, and any other write acts on the whole
content (R400). -/
def State.halfWrite (s : State) (off : Nat) (h : HalfWrite) (act : Word → State → State) : State :=
  let v := halfOver h (s.halfReg off)
  if h.wide || h.upper then act v { s with halves := smErase s.halves off }
  else { s with halves := smSet halfNone s.halves off v.toNat }

/-- The bits of a write that lie in the fields it may change: RW and WO fields without a command of their
own, and CAT fields before the lock. -/
def RegRow.plainMask (r : RegRow) (ix : List Nat) (granted cover : Nat) : Nat :=
  let own := if r.actIndex.isSome && r.actIndex = ix.getLast? then (if r.wide then highMask else fullMask) else r.acts
  (r.rw ||| r.wo ||| r.cat) &&& granted &&& cover &&& (fullMask ^^^ own)

/-- The value of an access laid into the register's bits. -/
def laid (cover : Nat) (v : Word) : Nat :=
  if cover = highMask then v.toNat % 2 ^ 32 * 2 ^ 32 else v.toNat

/-- The register is a word of a host mailbox that the host has not read: a write is discarded (R349). -/
def State.mailboxFull (s : State) (off : Nat) : Bool :=
  0x200400 ≤ off && off < 0x200500 && s.rd F.DOC_HOSTMB_FULL.FULL / 2 ^ ((off - 0x200400) / 0x20) % 2 = 1

/-- Whether the status of a Docent interrupt source is clear: its status register, and what it announced and has not been
freed; a set-up doorbell until its record is fetched. A source is pending while its status is set (R348). -/
def State.sourceIdle (s : State) (i : Nat) : Bool :=
  if i < 12 then !s.bit (F.DMA_CH_STATUS.DONE (i + 4)) && s.rd (F.DMA_CH_STATUS.ERR (i + 4)) = 0
  else if i = 12 then !s.bit F.GUG_STATUS.DONE && s.rd F.GUG_STATUS.ERR = 0
  else if i < 15 then
    s.rd (F.SVY_P_POS.REC_NEXT (i - 13)) = s.rd (F.SVY_P_ACK.REC (i - 13))
      && (s.reg (F.SVY_P_ERR.ACK_INVALID (i - 13)).off) = 0
  else if i = 15 then s.reg F.AXM_ERR.REFUSED.off = 0
  else if i < 18 then s.rd (F.TIM_ETH_RX.HEAD (i - 16)) = s.rd (F.TIM_ETH_RX.TAIL (i - 16))
  else if i = 18 then s.tim.stamps.isEmpty && s.reg F.TIM_ERR.TX_TS_OVF.off = 0
  else if i = 20 then s.rd ⟨0x20300, 0, 16⟩ = 0 && s.rd F.HIF_SETUP_STATUS.STATE ≠ 1
  else if i = 22 then s.rd F.LAC_STATUS.ACKED = s.rd F.LAC_STATUS.NEXT && s.lac.closed.isEmpty
  else if i = 25 then s.reg F.SAF_ERR.LASTING.off = 0
  else if i = 26 then s.reg F.TWN_ERR.HB_LOST.off = 0
  else true

/-- The register whose write may clear the status of a source. DESIGN CHOICE (log 175): sources 19, 21, 23, 24 and 27 stand for
events that no status register holds; a write of the source's DOC_ROUTE register clears their status. -/
def statusOff (i : Nat) : Nat :=
  if i < 12 then (F.DMA_CH_STATUS.DONE (i + 4)).off
  else if i = 12 then F.GUG_STATUS.DONE.off
  else if i < 15 then (F.SVY_P_ERR.ACK_INVALID (i - 13)).off
  else if i = 15 then F.AXM_ERR.REFUSED.off
  else if i < 18 then (F.TIM_ETH_RX.HEAD (i - 16)).off
  else if i = 18 then F.TIM_ERR.TX_TS_OVF.off
  else if i = 20 then 0x20300
  else if i = 22 then F.LAC_ACK.INDEX.off
  else if i = 25 then F.SAF_ERR.LASTING.off
  else if i = 26 then F.TWN_ERR.HB_LOST.off
  else (F.DOC_ROUTE.PENDING i).off

/-- After a write to a register, the sources whose status it holds are dropped if that status is clear (R348). -/
def State.settleSources (s : State) (off : Nat) : State :=
  (List.range 28).foldl (fun s i => if statusOff i = off && s.sourceIdle i then s.clr (F.DOC_ROUTE.PENDING i) else s) s

/-- A plain write to one register (R12, R400). -/
def State.writeOne (s : State) (m : Master) (off cover : Nat) (v : Word) : State :=
  match rowAt off with
  | none => s.refuseWrite m off
  | some (r, ix) =>
    let granted := s.admitMask m off r ix
    if granted = 0 then s.refuseWrite m off
    else if r.kind = .crcOwner && s.rd (F.CRC_U_CLAIM.OWNER (ix.headD 0)) ≠ masterCore m + 1 then
      s.set1 (F.CRC_U_STATUS.NOT_OWNER (ix.headD 0))
    else if s.mailboxFull off then s
    else if off / 0x10000 = 0x1F && 0x10 ≤ off % 0x10000 && off % 0x10000 < 0x30 then
      let k := 4 * masterCore m + ix.headD 0
      let old := smGet (fun _ => 0#64) s.kpr.staged k
      let c := BitVec.ofNat 64 cover
      let new := (old &&& ~~~c) ||| (BitVec.ofNat 64 (laid cover v) &&& c)
      { s with kpr := { s.kpr with staged := smSet (fun _ => 0#64) s.kpr.staged k new } }
    else
      let mk := BitVec.ofNat 64 (r.plainMask ix granted cover)
      (s.setReg off ((s.reg off &&& ~~~mk) ||| (BitVec.ofNat 64 (laid cover v) &&& mk))).settleSources off

/-- A write to a memory window: only the flash buffer takes writes, from the host and Docent-M (R317, R399). -/
def State.writeWindow (s : State) (m : Master) (off n : Nat) (v : Word) : State :=
  let ok := match m with
    | .host => true
    | .docentM _ => true
    | _ => false
  if off < 0x9000 && ok then
    { s with boot := { s.boot with flashBuf := memWrite s.boot.flashBuf (off - 0x8000) (leBytes n v.toNat) } }
  else s.refuseWrite m off

/-- A register write (R12, R398 to R401); host writes to BAR2 are discarded (R31), and no other master reaches it. -/
def State.busWrite (s : State) (m : Master) (off : Nat) (w : BusWidth) (v : Word) : State :=
  if s.silent m then s
  else match busHit off w with
  | .reserved => s.refuseWrite m off
  | .badWidth => s.refuseWrite m off
  | .one o cover => s.writeOne m o cover v
  | .two o => (s.writeOne m o lowMask v).writeOne m (o + 4) lowMask (v >>> 32)
  | .window o => s.writeWindow m o (busBytes w) v
  | .bar2 _ => s

/-- Writing ones to W1C bits clears them, but for the bits in `events` that the hardware sets in that cycle
(R13). Clearing LINK_LOST clears RFQ_DROP with it (HIF_INTAKE_STATUS). -/
def State.w1cOne (s : State) (m : Master) (off cover : Nat) (v events : Word) : State :=
  match rowAt off with
  | none => s.refuseWrite m off
  | some (r, ix) =>
    let granted := s.admitMask m off r ix
    if granted = 0 then s.refuseWrite m off
    else
      let bits := r.w1c &&& granted &&& cover &&& (fullMask ^^^ r.acts)
      let ones := BitVec.ofNat 64 (laid cover v &&& bits)
      let set := BitVec.ofNat 64 (events.toNat &&& r.w1c)
      let s := s.setReg off ((s.reg off &&& ~~~ones) ||| set)
      let s := if off = 0x20300 && (ones.toNat % 2 = 1) then s.wr F.HIF_INTAKE_STATUS.RFQ_DROP 0 else s
      s.settleSources off

/-- A write of ones to the W1C bits of the register that an access reaches. -/
def State.busClear (s : State) (m : Master) (off : Nat) (w : BusWidth) (v events : Word) : State :=
  if s.silent m then s
  else match busHit off w with
  | .reserved => s.refuseWrite m off
  | .badWidth => s.refuseWrite m off
  | .one o cover => s.w1cOne m o cover v events
  | .two o => (s.w1cOne m o lowMask v events).w1cOne m (o + 4) lowMask (v >>> 32) (events >>> 32)
  | .window o => s.refuseWrite m o
  | .bar2 _ => s

/-- Whether a master may read a register (R344, R353, R371, R402). -/
def State.readable (s : State) (m : Master) (off : Nat) : Bool :=
  match m with
  | .docentU _ =>
    if off / 0x10000 = 0x21 then s.bit (F.CRC_U_CFG.USER (off % 0x10000 / 0x100))
    else if 0x230400 ≤ off && off < 0x230600 then
      s.rd F.PMC_USER_READ.MASK / 2 ^ ((off - 0x230400) / 8) % 2 = 1
    else if 0x232000 ≤ off && off < 0x234000 then s.bit F.PMC_SAMPLE_CFG.USER
    else false
  | _ => true

/-- Whether an index of the Lacuna List is held: ACKED to NEXT − 1, round the 32-bit count (R171). -/
def State.lacHeld (s : State) (i : Nat) : Bool :=
  (i + 2 ^ 32 - s.rd F.LAC_STATUS.ACKED) % 2 ^ 32 < (s.rd F.LAC_STATUS.NEXT + 2 ^ 32 - s.rd F.LAC_STATUS.ACKED) % 2 ^ 32

/-- Whether a held record can be read: a record in poison reads as zero (Table 8-3). -/
def State.lacReadable (s : State) (i : Nat) : Bool :=
  s.lacHeld i && !s.ddrPoisoned (s.lacBase + i % s.lacSize * 32) 32

/-- Word `w` of the Lacuna record at the cursor (LAC_WINDOWw). -/
def State.lacWindow (s : State) (w : Nat) : Nat :=
  let i := s.rd F.LAC_CURSOR.INDEX
  if s.lacReadable i then leNat (s.ddrRead (s.lacBase + i % s.lacSize * 32 + 4 * w) 4) else 0

/-- The entries of the persistent copy: 48 bytes each from byte 256 (R360). -/
def State.mramEntries (s : State) : Nat := (131072 * 2 ^ s.rd F.ACL_CFG.MRAM_SIZE - 256) / 48

/-- The 4,096 bytes of the Accession Log window: 128 records from POS, or 85 entries of the persistent copy, round its ring
(R358, R360, R362). -/
def State.aclWindow (s : State) : List Byte :=
  let pos := s.rd F.ACL_CURSOR.POS
  if s.bit F.ACL_CTL.SOURCE then
    if s.bit F.ACL_STATUS.WINDOW_READY then s.acl.window else List.replicate 4096 0#8
  else (List.range 128).flatMap (fun i =>
    let back := (s.rd F.ACL_STATUS.NEXT + 2 ^ 32 - 1 - (pos + i) % 2 ^ 32) % 2 ^ 32
    match s.acl.ring[back]? with
    | some r => r.bytes
    | none => List.replicate 32 0#8)

/-- The place of a master among the read latches: 0 the Keeper, 1 + c a Docent core, 9 the host (R255, R367). -/
def latchPlace : Master → Nat
  | .keeper => 0
  | .docentM c => 1 + c
  | .docentU c => 1 + c
  | .host => 9

/-- A time base by its number (R253). -/
def State.timeBase (s : State) (n : Nat) : TimeBase :=
  match n with
  | 0 => s.tb0
  | 1 => s.tb1
  | _ => s.tb2

/-- TIM_TBn_NS of a time base. -/
def TimeBase.nsWord (t : TimeBase) : Word := BitVec.ofNat 64 (t.ns + t.frac / 2 ^ 32 * 2 ^ 32)

/-- What TIM_TBn_SEC or TIM_TBn_NS shows a master (R255). -/
def State.timView (s : State) (m : Master) (off : Nat) : Word :=
  let n := (off - 0x1C0100) / 16
  if off % 16 = 0 then BitVec.ofNat 64 (s.timeBase n).sec
  else smGet (fun _ => 0#64) s.tim.latch (3 * latchPlace m + n)

/-- A read of TIM_TBn_SEC latches TIM_TBn_NS for its master (R255). -/
def State.timLatch (s : State) (m : Master) (off : Nat) : State :=
  if 0x1C0100 ≤ off && off < 0x1C0130 && off % 16 = 0 then
    let n := (off - 0x1C0100) / 16
    { s with tim := { s.tim with
      latch := smSet (fun _ => 0#64) s.tim.latch (3 * latchPlace m + n) (s.timeBase n).nsWord } }
  else s

/-- A read of an even PMC_CTRk latches its odd partner for the master; the next read of the odd one returns what was
latched, and uses it up (R367). -/
def inCounters (off : Nat) : Bool := 0x230400 ≤ off && off < 0x230600
def State.pmcView (s : State) (m : Master) (off : Nat) : Word :=
  let k := (off - 0x230400) / 8
  match s.pmc.latch.find? (fun e => e.1 = 64 * latchPlace m + k) with
  | some e => BitVec.ofNat 64 e.2
  | none => s.reg off
def State.pmcLatch (s : State) (m : Master) (off cover : Nat) : State :=
  if !inCounters off then s
  else
    let k := (off - 0x230400) / 8
    if k % 2 = 0 then
      if cover = highMask then s
      else { s with pmc := { s.pmc with
        latch := smInsert s.pmc.latch (64 * latchPlace m + k + 1) (s.reg (off + 8)).toNat } }
    else if cover = lowMask then s
    else { s with pmc := { s.pmc with latch := smErase s.pmc.latch (64 * latchPlace m + k) } }

/-- TIM_TXTS_LO, TIM_TXTS_HI and TXTS_COUNT as the queue of stamps has them (R267). -/
def State.stampShow (s : State) : State :=
  let s := s.wr F.TIM_STATUS.TXTS_COUNT s.tim.stamps.length
  match s.tim.stamps with
  | [] => (s.setReg F.TIM_TXTS_LO.NS.off 0).setReg F.TIM_TXTS_HI.SEC.off 0
  | x :: _ =>
    let s := ((((s.wr F.TIM_TXTS_LO.NS x.ns).wr F.TIM_TXTS_LO.PORT x.port).set1 F.TIM_TXTS_LO.VALID).wr
      F.TIM_TXTS_LO.ID x.id).wr F.TIM_TXTS_LO.FRAC x.frac
    s.wr F.TIM_TXTS_HI.SEC x.sec

/-- The read of TIM_TXTS_HI that carries its upper half removes the head stamp (R267). -/
def State.stampPop (s : State) (off cover : Nat) : State :=
  if off = F.TIM_TXTS_HI.SEC.off && cover ≠ lowMask then
    { s with tim := { s.tim with stamps := s.tim.stamps.drop 1 } }.stampShow.settleSources F.TIM_ERR.TX_TS_OVF.off
  else s

/-- The next rate of a BLK step-up: above the link rate, within MAX_RATE and every HELLO, and not marked failed
(R190). -/
def State.nextRate (s : State) : Option Nat :=
  [1, 2, 3].find? (fun r => s.rd F.BLK_STATUS.RATE < r && r ≤ s.rd F.BLK_CFG.MAX_RATE
    && s.blk.grp.all (fun (x : BlkGrp) => decide (r ≤ x.maxRate.getD 0))
    && s.rd F.BLK_STATUS.FAILED_RATES / 2 ^ r % 2 = 0)

/-- The conditions of R308, in its order. -/
def State.runConditions (s : State) : List Bool :=
  [s.rd F.MEM_STATUS.TRAINED = 63,
   !s.blk.stepReq && s.blk.stepTo.isNone && s.nextRate.isNone && s.rd F.BLK_STATUS.STATE = 0x4444,
   s.rd F.SLT_STATUS.STATE = 0 && s.fol.place0.isNone && s.fol.place1.isNone,
   s.rd F.BCT_STATUS.STATE ≠ 1,
   s.rd F.LAC_STATUS.ACKED = s.rd F.LAC_STATUS.NEXT,
   [0, 1].all (fun p => s.rd (F.SVY_P_STATUS.STATE p) = 0)
     && (List.range 12).all (fun c => s.rd (F.DMA_CH_STATUS.STATE (c + 4)) = 0) && s.rd F.GUG_STATUS.STATE = 0,
   [0, 1].all (fun p => s.rd (F.SVY_P_POS.REC_NEXT p) = s.rd (F.SVY_P_ACK.REC p)
     && s.rd (F.SVY_P_POS.FRAME_NEXT p) = s.rd (F.SVY_P_ACK.FRAME p))]

/-- A list of flags as a mask of those that are clear. -/
def missingMask : List Bool → Nat
  | [] => 0
  | b :: bs => (if b then 0 else 1) + 2 * missingMask bs

/-- RUN_WAIT: the conditions of R308 that PREVIEW still misses. -/
def State.runWait (s : State) : Nat := if s.mode = 2 then missingMask s.runConditions else 0

/-- Every condition of R308 but the third holds. -/
def State.runNear (s : State) : Bool := s.mode = 2 && s.runWait &&& 0x7B = 0

/-- No leaf may take a place: the device prepares for power-down, or RUN is to come, from the first cycle in which every condition
of R308 but the third has held (R308, R318). -/
def State.holdsLeaves (s : State) : Bool := s.boot.quiescing || s.boot.runHold || s.runNear

/-- What a register shows a master: WO fields read zero, the request words are those of the reading core, and
the windows are computed. -/
def State.view (s : State) (m : Master) (off : Nat) : Word :=
  match rowAt off with
  | none => 0
  | some (r, ix) =>
    if off / 0x10000 = 0x1F && 0x10 ≤ off % 0x10000 && off % 0x10000 < 0x30 then
      smGet (fun _ => 0#64) s.kpr.staged (4 * masterCore m + ix.headD 0)
    else if 0x150020 ≤ off && off < 0x150040 then BitVec.ofNat 64 (s.lacWindow (ix.headD 0))
    else if 0x1C0100 ≤ off && off < 0x1C0130 then s.timView m off
    else if inCounters off then s.pmcView m off
    else if off = 0xC0010 then BitVec.ofNat 64 s.rasWait
    else if off = 0xC0008 then
      match s.rasLow with
      | some t => F.RAS_SEQ.LOW_TROW.put (s.reg off) (unsigned 32 t)
      | none => s.reg off
    else if off = F.BOOT_STATUS.RUN_WAIT.off then F.BOOT_STATUS.RUN_WAIT.put (s.reg off) s.runWait
    else if off = F.SLT_STATUS.WAIT.off then F.SLT_STATUS.WAIT.put (s.reg off) s.startWait
    else if off / 0x10000 = 0x11 && r.off = (F.BCT_BANK.IN_USE 0).off then
      (F.BCT_BANK.IN_USE 0).put (s.reg off) (if s.bankUsed (ix.headD 0) then 1 else 0)
    else s.halfReg off &&& ~~~(BitVec.ofNat 64 r.wo)

/-- A read of CRC_Un_CLAIM: a Docent core's read claims a free unit; other masters read the owner (R353, R402). -/
def State.crcClaim (s : State) (m : Master) (n : Nat) : State :=
  let owner := s.rd (F.CRC_U_CLAIM.OWNER n)
  let core := masterCore m + 1
  let claim := if owner = 0 then { s.wr (F.CRC_U_CLAIM.OWNER n) core with readData := BitVec.ofNat 64 core }
    else { s with readData := if owner = core then BitVec.ofNat 64 core else 0 }
  match m with
  | .docentM _ => claim
  | .docentU _ => if s.bit (F.CRC_U_CFG.USER n) then claim else s.refuseRead m (0x210000 + 0x100 * n)
  | _ => { s with readData := BitVec.ofNat 64 owner }

/-- A register read: the view is returned, and the RC fields that the access covers are left holding only the
events of this cycle (R13, R402). RSV_LEAD.LOW_WATER is left at 84. -/
def State.readOne (s : State) (m : Master) (off cover : Nat) (events : Word) : State :=
  if !s.readable m off then s.refuseRead m off
  else if off / 0x10000 = 0x21 && off % 0x100 = 0 then s.crcClaim m (off % 0x10000 / 0x100)
  else match rowAt off with
    | none => { s with readData := 0 }
    | some (r, _) =>
      let v := s.view m off &&& BitVec.ofNat 64 cover
      let rc := BitVec.ofNat 64 (if 0x210000 ≤ off && off < 0x220000 then 0 else r.rc &&& cover)
      let s := if 0x150020 ≤ off && off < 0x150040 && !s.lacReadable (s.rd F.LAC_CURSOR.INDEX)
        then s.set1 F.LAC_ERR.CURSOR_INVALID else s
      let s := ((s.timLatch m off).stampPop off cover).pmcLatch m off cover
      let low := off = F.RSV_LEAD.LOW_WATER.off && rc ≠ 0
      let left := (s.reg off &&& ~~~rc) ||| (events &&& rc)
      { s.setReg off (if low then F.RSV_LEAD.LOW_WATER.put left 84 else left) with
        readData := if cover = highMask then v >>> 32 else v }

/-- Whether the record that stands at a byte of the Accession Log window is held; the entries of the persistent copy are
(R358, R362). -/
def State.aclHolds (s : State) (o : Nat) : Bool :=
  s.bit F.ACL_CTL.SOURCE ||
    decide ((s.rd F.ACL_STATUS.NEXT + 2 ^ 32 - 1 - (s.rd F.ACL_CURSOR.POS + o / 32) % 2 ^ 32) % 2 ^ 32 < s.rd F.ACL_STATUS.HELD)

/-- A read that reaches a record which is not held says so (R358). -/
def State.aclTouch (s : State) (o : Nat) : State := if s.aclHolds o then s else s.set1 F.ACL_ERR.CURSOR_INVALID

/-- A read of a window (R358, R373, R399). -/
def State.readWindow (s : State) (m : Master) (off n : Nat) : State :=
  if !s.readable m off then s.refuseRead m off
  else
    let s := if 0x221000 ≤ off && off < 0x222000 then s.aclTouch (off - 0x221000) else s
    let bs := if off < 0x9000 then memRead s.boot.flashBuf (off - 0x8000) n
      else if off < 0x222000 then (s.aclWindow.drop (off - 0x221000)).take n
      else memRead s.pmc.ring (off - 0x232000) n
    { s with readData := BitVec.ofNat 64 (leNat bs) }

/-- The DDR5 byte behind a byte of BAR2: the survey records that have been written and not freed, 1 MiB each (R406). -/
def State.bar2Ddr (s : State) (off : Nat) : Option Nat :=
  if off < 0x2000000 || 0x4000000 ≤ off then none
  else
    let p := (off - 0x2000000) / 0x1000000
    let k := off / 0x100000 % 16
    let i := (s.rd (F.SVY_P_ACK.REC p) + k) % 2 ^ 32
    if (s.rd (F.SVY_P_POS.REC_NEXT p) + 2 ^ 32 - s.rd (F.SVY_P_ACK.REC p)) % 2 ^ 32 ≤ k then none
    else some (s.rd (F.SVY_P_REC_RING.BASE p) * 2 ^ 20 + i % 2 ^ s.rd (F.SVY_P_REC_RING.LOG2 p) * 2 ^ 20 + off % 0x100000)

/-- A byte of BAR2: the Accession Log window, and the survey records; all else reads zero (R406, Table 18-3). -/
def State.bar2 (s : State) (off : Nat) : Byte :=
  if off < 0x1000 then s.aclWindow.getD off 0
  else match s.bar2Ddr off with
    | some x => s.ddrByte x
    | none => 0

/-- Whether the completion of a read of a BAR2 byte carries the EP bit: its DDR5 burst reads as poison (Table 8-3). -/
def State.bar2Poison (s : State) (off : Nat) : Bool :=
  match s.bar2Ddr off with
  | some x => s.burstMarked (burstOf x)
  | none => false

/-- A read of `n` bytes of BAR2, which the host alone reaches; the completion carries the EP bit where one of them is poisoned
(R31, R358, R406). -/
def State.readBar2 (s : State) (m : Master) (off n : Nat) : State :=
  if m ≠ .host then s
  else
    let s := if off < 0x1000 then s.aclTouch off else s
    { s with
      readData := BitVec.ofNat 64 (leNat ((List.range n).map (fun i => s.bar2 (off + i))))
      readPoison := (List.range n).any (fun i => s.bar2Poison (off + i)) }

/-- A register read (R13, R399, R402), or one of BAR2 (R406); none returns in OFF (R292). -/
def State.busRead (s : State) (m : Master) (off : Nat) (w : BusWidth) (events : Word) : State :=
  if s.silent m then s
  else match busHit off w with
  | .reserved => if s.readable m off then { s with readData := 0 } else s.refuseRead m off
  | .badWidth => s.refuseRead m off
  | .one o cover => s.readOne m o cover events
  | .two o =>
    let s1 := s.readOne m o lowMask events
    let s2 := s1.readOne m (o + 4) lowMask (events >>> 32)
    { s2 with readData := s1.readData ||| (s2.readData <<< 32) }
  | .window o => s.readWindow m o (busBytes w)
  | .bar2 o => s.readBar2 m o (busBytes w)

end Sys2Proof.Machine
end

