-- ==== Sys2Proof/Machine/AccessionLog.lean ====
section
/-! DEFINITION. The Accession Log: entries, freezing, the persistent copy and the authorised clear (R356 to
R364). -/
namespace Sys2Proof.Machine

/-- A record enters the log (R357, R359). -/
def execAclRecordEnter (event : Nat) (data : List Byte) (s : State) : Host.Outcome State Fault Refusal :=
  done (s.aclLog event data)

/-- A write of FREEZE 1 freezes the log from the next CLK_CTL cycle; a record of this cycle still enters the ring (R359). -/
def execAclFreeze (m : Master) (s : State) : Host.Outcome State Fault Refusal :=
  done (s.gated m 0x220008 (fun s =>
    if s.bit F.ACL_STATUS.FROZEN then s
    else { (s.set1 F.ACL_CTL.FREEZE).set1 F.ACL_STATUS.FROZEN with acl := { s.acl with frozenAt := some s.cycle } }))

/-- A write of FREEZE 0 ends the freeze and the held records enter the ring (R359). -/
def execAclUnfreeze (m : Master) (s : State) : Host.Outcome State Fault Refusal :=
  done (s.gated m 0x220008 (fun s => if s.bit F.ACL_STATUS.FROZEN then s.aclThaw else s))

/-- A freeze that has stood for FREEZE_MAX ends by itself (R359). -/
def execFreezeExpired (s : State) : Host.Outcome State Fault Refusal :=
  done (if s.bit F.ACL_STATUS.FROZEN then (s.set1 F.ACL_ERR.FREEZE_EXPIRED).aclThaw else s)

/-! ### The persistent copy -/

/-- An entry's bytes (R360). -/
def State.mramEntry (s : State) (pos : Nat) (r : AclRec) : List Byte :=
  let b := leBytes 2 (s.rd F.ACL_COPY.BOOT) ++ leBytes 2 (s.rd F.ACL_COPY.EPOCH) ++ leBytes 4 pos ++ r.bytes
  b ++ leBytes 4 (crc32c b) ++ leBytes 4 0

/-- Entries written one after another into the ring of entries. -/
def State.mramPut (s : State) (pos : Nat) : List AclRec → State
  | [] => s
  | r :: rs =>
    let a := 256 + 48 * s.acl.mramNext
    let s := { s with acl := { s.acl with
      mram := memWrite s.acl.mram a (s.mramEntry pos r)
      mramNext := (s.acl.mramNext + 1) % s.mramEntries } }
    s.mramPut ((pos + 1) % 2 ^ 32) rs

/-- A write on the MRAM's SPI bus: WREN, and WRITE with its address of three bytes (R360). -/
def spiWrite (a : Nat) (bs : List Byte) : List (List Byte) := [[0x06#8], 0x02#8 :: (leBytes 3 a).reverse ++ bs]

/-- A read on that bus (R360). -/
def spiRead (a : Nat) : List (List Byte) := [0x03#8 :: (leBytes 3 a).reverse]

/-- Bytes written into the MRAM in an operation of their own (R360). -/
def State.mramWrite (s : State) (a : Nat) (bs : List Byte) : State :=
  { s with acl := { s.acl with mram := memWrite s.acl.mram a bs, spi := spiWrite a bs } }

/-- The bytes of entries that stand one after another. -/
def State.mramRun (s : State) (pos : Nat) : List AclRec → List Byte
  | [] => []
  | r :: rs => s.mramEntry pos r ++ s.mramRun ((pos + 1) % 2 ^ 32) rs

/-- The SPI frames of an operation: one write, or two where its entries go round the ring (R360, R361). -/
def State.copyFrames (s : State) (pos : Nat) (rs : List AclRec) : List (List Byte) :=
  let room := s.mramEntries - s.acl.mramNext
  let more := rs.drop room
  spiWrite (256 + 48 * s.acl.mramNext) (s.mramRun pos (rs.take room))
    ++ (if more.isEmpty then [] else spiWrite 256 (s.mramRun ((pos + room) % 2 ^ 32) more))

/-- A record of the Guard's. -/
def AclRec.guard (r : AclRec) : Bool := r.event = 0x0201

/-- What one operation takes of the pending records, oldest first: a Guard record alone, and otherwise up to 64 records that
stand before the next Guard record (R361). -/
def copyBatch (rs : List AclRec) : List AclRec :=
  match rs with
  | [] => []
  | r :: _ => if r.guard then [r] else (rs.take 64).takeWhile (fun r => !r.guard)

/-- Records written one operation after another, with the frames of each (R361). -/
def State.copyAll (s : State) : Nat → Nat → List AclRec → State
  | 0, _, _ => s
  | n + 1, pos, rs =>
    let b := copyBatch rs
    if b.isEmpty then s
    else
      let s := { s with acl := { s.acl with spi := s.acl.spi ++ s.copyFrames pos b } }
      (s.mramPut pos b).copyAll n ((pos + b.length) % 2 ^ 32) (rs.drop b.length)

/-- The copier starts a write operation over every pending record, up to 64; a Guard record goes in an operation of its own
(R361). -/
def execAclCopyStart (s : State) : Host.Outcome State Fault Refusal :=
  let from_ := s.aclCopyFrom
  let n := (s.rd F.ACL_STATUS.NEXT + 2 ^ 32 - from_) % 2 ^ 32
  let batch := copyBatch (s.acl.ring.take n).reverse
  done (if s.acl.copying.isSome || batch.isEmpty || s.bit F.BOOT_STATUS.MRAM_ABSENT then s
    else { s with acl := { s.acl with copying := some (from_, batch), spi := s.copyFrames from_ batch } })

/-- Whether an entry of the persistent copy is void: its EPOCH is not the header's, or its CRC fails (R360). -/
def State.entryVoid (s : State) (e : List Byte) : Bool :=
  fieldAt e 2 2 ≠ leNat (memRead s.acl.mram 194 2) || crc32c (e.take 40) ≠ fieldAt e 40 4

/-- An entry put in its place by boot number, then by position (R360). -/
def entryInsert (e : List Byte) : List (List Byte) → List (List Byte)
  | [] => [e]
  | x :: xs =>
    let key := fun (e : List Byte) => fieldAt e 0 2 * 2 ^ 32 + fieldAt e 4 4
    if key e < key x then e :: x :: xs else x :: entryInsert e xs

/-- The records of the persistent copy as a reader orders them: void entries left out, by boot number and position (R360). -/
def State.mramRecords (s : State) : List (List Byte) :=
  let es := (List.range s.mramEntries).map (fun k => memRead s.acl.mram (256 + 48 * k) 48)
  ((es.filter (fun e => !s.entryVoid e)).foldr entryInsert []).map (fun e => (e.drop 8).take 32)

/-- The write operation completes; a loss to the copy is then reported in one COPY_LOST record (R361). -/
def execAclCopyDone (s : State) : Host.Outcome State Fault Refusal :=
  match s.acl.copying with
  | none => done s
  | some (p, rs) =>
    let s := (s.mramPut p rs).wr F.ACL_COPY.COPIED (p + rs.length)
    let s := { s with acl := { s.acl with copying := none } }
    match s.acl.copyLost with
    | none => done s
    | some (f, n) =>
      done ({ s with acl := { s.acl with copyLost := none } }.aclLog 0x0703 (leBytes 4 f ++ leBytes 4 n))

/-! ### The window -/

/-- Whether the window position is held, or names an entry of the copy (R358, R362). -/
def State.aclCursorOk (s : State) : Bool :=
  let pos := s.rd F.ACL_CURSOR.POS
  if s.bit F.ACL_CTL.SOURCE then pos < s.mramEntries
  else (s.rd F.ACL_STATUS.NEXT + 2 ^ 32 - 1 - pos) % 2 ^ 32 < s.rd F.ACL_STATUS.HELD

/-- A write of ACL_CURSOR, or of ACL_CTL.SOURCE, selects the window; a persistent window starts to fill
(R358, R362). -/
def execAclWindowSelect (m : Master) (cursor : Bool) (v : BitVec 32) (s : State) :
    Host.Outcome State Fault Refusal :=
  done (s.gated m (if cursor then 0x220010 else 0x220008) (fun s =>
    let s := if cursor then s.wr F.ACL_CURSOR.POS v.toNat else s.wr F.ACL_CTL.SOURCE v.toNat
    let s := s.clr F.ACL_STATUS.WINDOW_READY
    if s.aclCursorOk then s else s.set1 F.ACL_ERR.CURSOR_INVALID))

/-- The entries that a persistent window takes: 85 from ACL_CURSOR on, round the ring (R362). -/
def State.windowEntries (s : State) : List Nat :=
  (List.range 85).map (fun i => 256 + 48 * ((s.rd F.ACL_CURSOR.POS + i) % s.mramEntries))

/-- The fill of a persistent window completes: it shows the entries as they stood (R362). -/
def execAclWindowFilled (s : State) : Host.Outcome State Fault Refusal :=
  done (if s.bit F.ACL_CTL.SOURCE then
    { s.set1 F.ACL_STATUS.WINDOW_READY with acl := { s.acl with
      window := s.windowEntries.flatMap (fun a => memRead s.acl.mram a 48) ++ List.replicate 16 0#8
      spi := s.windowEntries.flatMap spiRead } }
  else s)

/-! ### Clearing the log -/

/-- The challenge in force. -/
def State.challenge (s : State) : List Byte :=
  leBytes 8 (s.rd (F.ACL_CHALLENGE.BYTES 0)) ++ leBytes 8 (s.rd (F.ACL_CHALLENGE.BYTES 1))

/-- The Keeper draws a new challenge of 16 bytes from its entropy source (R363); its value is free. -/
def execNewChallenge (m : Master) (s : State) : Host.Outcome State Fault Refusal :=
  done (s.gated m 0x220090 (fun s =>
    let (a, s) := s.takeFree
    let (b, s) := s.takeFree
    let s := (s.wr (F.ACL_CHALLENGE.BYTES 0) a).wr (F.ACL_CHALLENGE.BYTES 1) b
    let s := { s with acl := { s.acl with challengeOn := true } }
    if s.acl.clearChal.isSome then s else s.wr F.ACL_CLEAR_STATUS.STATE 1))

/-- The challenge voided. -/
def State.voidChallenge (s : State) : State :=
  { (s.wr (F.ACL_CHALLENGE.BYTES 0) 0).wr (F.ACL_CHALLENGE.BYTES 1) 0 with acl := { s.acl with challengeOn := false } }

/-- A clear refused with its cause (R364). -/
def State.clearRefused (s : State) (result : Nat) : State :=
  let s := (s.set1 F.ACL_ERR.CLEAR_REFUSED).wr F.ACL_CLEAR_STATUS.RESULT result
  if s.acl.clearChal.isSome && result = 4 then s else s.wr F.ACL_CLEAR_STATUS.STATE 3

/-- A CLEAR request: refused without a challenge, in a freeze or during another clear; otherwise the
verification starts. Every request voids the challenge (R363, R364). -/
def execClear (m : Master) (s : State) : Host.Outcome State Fault Refusal :=
  done (s.gated m 0x220090 (fun s =>
    let chal := s.challenge
    let has := s.acl.challengeOn
    let s := s.voidChallenge
    if s.acl.clearChal.isSome then s.clearRefused 4
    else if !has then s.clearRefused 1
    else if s.bit F.ACL_STATUS.FROZEN then s.clearRefused 3
    else { s.wr F.ACL_CLEAR_STATUS.STATE 2 with acl := { s.acl with clearChal := some chal } }))

/-- The message that the clear signature covers (R363). -/
def State.clearMessage (s : State) (chal : List Byte) : List Byte :=
  leBytes 4 0x524C4341 ++ chal ++ leBytes 2 (s.rd F.TIM_CFG.NODE_ID) ++ leBytes 2 (s.rd F.ACL_COPY.EPOCH)
    ++ leBytes 4 (s.rd F.BOOT_CAT.CAT_HASH) ++ leBytes 2 (s.rd F.ACL_COPY.BOOT) ++ leBytes 2 0

/-- The tag that authorises the clear (R363). -/
def State.clearTag (s : State) (chal : List Byte) : List Byte :=
  Config.hmacTag s.acl.key (chal ++ leBytes 2 (s.rd F.TIM_CFG.NODE_ID) ++ leBytes 2 (s.rd F.ACL_COPY.EPOCH))

/-- The signature written to ACL_CLEAR_SIG. -/
def State.clearSig (s : State) : List Byte :=
  (List.range 8).flatMap (fun w => leBytes 8 (s.rd (F.ACL_CLEAR_SIG.BYTES w)))

/-- The end of a clear that was refused after its verification began: the held records enter. -/
def State.clearAbandon (s : State) (result : Nat) : State :=
  let s := { s with acl := { s.acl with clearChal := none, clearing := false, matched := false } }
  let s := s.clearRefused result
  if s.bit F.ACL_STATUS.FROZEN then s else s.aclDrain

/-- The Keeper finishes verifying the signature: it places the tag in ACL_AUTH0 and ACL_AUTH1, or refuses
(R363, R364). -/
def execSignatureVerified (s : State) : Host.Outcome State Fault Refusal :=
  match s.acl.clearChal with
  | none => done s
  | some chal =>
    if s.acl.clearing then done s
    else if Config.ed25519Verify s.boot.publicKey (s.clearMessage chal) s.clearSig then
      let tag := s.clearTag chal
      let s := (s.wr (F.ACL_AUTH.TAG 0) (fieldAt tag 0 8)).wr (F.ACL_AUTH.TAG 1) (fieldAt tag 8 8)
      done { s with acl := { s.acl with clearing := true } }
    else done (s.clearAbandon 2)

/-- The write of ACL_AUTH1 submits the tag; the clear engine recomputes it and clears only on a match
(R363). -/
def execAclAuthWrite (m : Master) (w : BusWidth) (v : Word) (s : State) : Host.Outcome State Fault Refusal :=
  done (s.gated m 0x2200A8 (fun s =>
    let s := s.setReg 0x2200A8 (s.staged 0x2200A8 w v)
    match s.acl.clearChal with
    | none => s.clearRefused 1
    | some chal =>
      let tag := leBytes 8 (s.rd (F.ACL_AUTH.TAG 0)) ++ leBytes 8 (s.rd (F.ACL_AUTH.TAG 1))
      if s.acl.clearing && tag = (s.clearTag chal).take 16 then { s with acl := { s.acl with matched := true } }
      else s.clearAbandon 5))

/-- EPOCH + 1 reaches the MRAM: the ring is emptied, the CLEARED record takes position NEXT and the held
records follow (R363, R364, Table 15-9). -/
def execAclClearDone (s : State) : Host.Outcome State Fault Refusal :=
  match s.acl.clearChal with
  | none => done s
  | some chal =>
    if !s.acl.matched then done s
    else
      let old := s.rd F.ACL_COPY.EPOCH
      let next := s.rd F.ACL_STATUS.NEXT
      let s := (s.wr F.ACL_COPY.EPOCH (old + 1)).mramWrite 194 (leBytes 2 (old + 1))
      let s := { s with acl := { s.acl with
        ring := [], copying := none, copyLost := none,
        clearChal := none, clearing := false, matched := false } }
      let s := (s.wr F.ACL_STATUS.HELD 0).wr F.ACL_COPY.COPIED next
      let r := s.aclMake 0x0701 false (leBytes 2 old ++ leBytes 2 (old + 1) ++ leBytes 4 next ++ chal.take 4)
      let s := { s with acl := { s.acl with index := (s.acl.index + 1) % 2 ^ 32 } }.aclPut r
      let s := ((s.incSat F.ACL_COUNTS.CLEARS).wr F.ACL_CLEAR_STATUS.STATE 3).wr F.ACL_CLEAR_STATUS.RESULT 0
      done (if s.bit F.ACL_STATUS.FROZEN then s else s.aclDrain)

end Sys2Proof.Machine
end

