-- ==== Sys2Proof/Machine/AxisOps.lean ====
section
/-! DEFINITION. The shared operations of the auxiliary axes: step profiles, hardware stops and the start of a command
(R240 to R252). -/
namespace Sys2Proof.Machine

/-- Whether an axis is fitted, and the six axes (R240). -/
def State.axPresent (s : State) (a : Nat) : Bool := s.bit (F.AXM_CFG.PRESENT a)
def axes : List Nat := [0, 1, 2, 3, 4, 5]

/-- Axes that a mask names. -/
def maskAxes (m : Nat) : List Nat := axes.filter (fun a => m / 2 ^ a % 2 = 1)

/-- The mask of a list of axes. -/
def axesMask (l : List Nat) : Nat := (axes.map (fun a => if l.contains a then 2 ^ a else 0)).sum

/-- Floor square root (R242). -/
def isqrt (n : Nat) : Nat := Nat.sqrt n

/-- The squared speed before step `k` of `n` (R242). -/
def speedSq (vs vmax acc n k : Nat) : Nat :=
  min (vs ^ 2 + 2 * acc * (k - 1)) (min (vmax ^ 2) (vs ^ 2 + 2 * acc * (n - k)))

/-- The squared speed of a search of a homing sequence, which accelerates from SLOW to FAST at AMAX (R246). -/
def AxRun.searchSq (r : AxRun) : Nat := min (r.vs ^ 2 + 2 * r.acc * r.count) (r.vmax ^ 2)

/-- The squared speed of the next step of a running command. After its edge a search decelerates at AMAX, its last step at SLOW;
the other phases of a homing sequence run at SLOW (R242, R246). -/
def AxRun.speedSq (r : AxRun) : Nat :=
  if r.op = 3 then
    (match r.phase with
      | 1 => r.searchSq
      | 2 => min r.searchSq (r.vs ^ 2 + 2 * r.acc * r.decel)
      | _ => r.vs ^ 2)
  else Machine.speedSq r.vs r.vmax r.acc r.steps (r.k + 1)

/-- The interval before the next step loaded into the timer, with its residue (R242). -/
def AxRun.load (r : AxRun) : AxRun :=
  let v := max 1 (isqrt r.speedSq)
  let acc8 := r.residue + 25600000000 / v
  { r with reload := acc8 / 256, residue := acc8 % 256 }

/-- Whether an axis of the running command runs faster than VS: in the interval that the timer holds, once a first step is
emitted (R250). -/
def AxRun.fast (r : AxRun) (a : Nat) : Bool :=
  if r.op = 3 then decide (a = r.axis) && decide (0 < r.count) && decide (r.vs < isqrt r.speedSq)
  else decide (0 < r.k) && decide (r.vs * r.steps < isqrt r.speedSq * (r.delta.getD a 0).natAbs)

/-- CLK_CTL cycles of a number of CLK_PER ticks. -/
def perCycles (ticks : Nat) : Nat := 4 * ticks

/-- The level at the ball AXa_STEP: high for PULSE ticks from each step, and low on an axis that is not fitted (R240,
R241). -/
def State.axStepHigh (s : State) (a : Nat) : Bool :=
  match s.axm.pulse.getD a none with
  | none => false
  | some c => s.axPresent a && decide (s.cycle < c + perCycles (s.rd F.AXM_TIMING.PULSE))

/-- The level at the ball AXa_DIR, which keeps the level of the move before for DIR_HOLD ticks after its last step
(R241). -/
def State.axDirLevel (s : State) (a : Nat) : Bool :=
  let d := s.axm.dir.getD a (false, 0)
  if s.cycle < d.2 then !d.1 else d.1

/-- AXa_DIR takes the level of a direction, `wait` ticks from now where the level changes (R241). -/
def State.axDir (s : State) (a : Nat) (up : Bool) (wait : Nat) : State :=
  let level := s.bit (F.AXM_CFG.DIR_POS a) == up
  if (s.axm.dir.getD a (false, 0)).1 = level then s
  else { s with axm := { s.axm with dir := s.axm.dir.set a (level, s.cycle + perCycles wait) } }

/-- AXa_ENA_N of an axis set. -/
def State.axEna (s : State) (a : Nat) (high : Bool) : State :=
  { s with axm := { s.axm with enaHigh := s.axm.enaHigh.set a (high || !s.axPresent a) } }

/-- The queue emptied (R245, R249). -/
def State.axFlush (s : State) : State :=
  { s with axm := { s.axm with queue := [] } }.wr F.AXM_STATUS.QUEUED 0

/-- The axes of the running command. -/
def State.axRunning (s : State) : List Nat :=
  match s.axm.run with
  | none => []
  | some r => maskAxes r.mask

/-- ENA_N of stopped axes goes high where ENA_STOP is set, or everywhere when `all` (R249). -/
def State.axDrop (s : State) (stopped : List Nat) (all : Bool) : State :=
  stopped.foldl (fun s a => if all || s.bit (F.AXM_CFG.ENA_STOP a) then s.axEna a true else s) s

/-- No step begins any more: the running command ends, an axis that ran faster than VS loses HOMED, and ENA_N goes
high where ENA_STOP is set, or everywhere when `all` (R249, R250). -/
def State.axHalt (s : State) (stopped : List Nat) (all : Bool) : State :=
  let s := match s.axm.run with
    | none => s
    | some r => (maskAxes r.mask).foldl (fun s a =>
        (s.whenD (r.fast a) (fun s => s.clr (F.AXM_POS.HOMED a))).clr (F.AXM_POS.MOVING a)) s
  let s := { s with axm := { s.axm with run := none } }
  s.axDrop stopped all

/-- A stop is recorded, counted and announced on source 15, and a fault is written to the Accession Log (R248, R249). -/
def State.axMark (s : State) (stopped : List Nat) (cause axis : Nat) : State :=
  let s := ((s.wr F.AXM_LAST_STOP.AXES (axesMask stopped)).wr F.AXM_LAST_STOP.CAUSE cause).wr F.AXM_LAST_STOP.AXIS axis
  let s := (s.wr F.AXM_LAST_STOP.TIME_NS s.nowNs).incSat F.AXM_COUNTS.STOPS
  let s := s.source 15
  s.whenD (cause = 2 || cause = 3 || cause = 5) (fun s =>
    s.aclLog 0x0504 (leBytes 1 (axesMask stopped) ++ leBytes 1 cause))

/-- STATE after a stop: the Guard holds the block until reset, a disable and what falls in it leave it DISABLING, and the
other stops leave it STOPPED (R249, R252). -/
def State.axStateAfter (s : State) (cause : Nat) : Nat :=
  let st := s.rd F.AXM_STATUS.STATE
  if cause = 6 || st = 4 then 4 else if cause = 7 || st = 3 then 3 else 2

/-- The block goes to STOPPED, which only a CLEAR leaves, or would but for the Guard's hold or a disable (R249, R251). -/
def State.axHold (s : State) (cause : Nat) : State :=
  { s with axm := { s.axm with halted := s.axm.halted || (cause ≠ 6 && cause ≠ 7) } }.wr F.AXM_STATUS.STATE
    (s.axStateAfter cause)

/-- A hardware stop of Table 10-3: the axes stop, the queue is flushed but by the Guard, the block is held, STOPPED or
DISABLING, and the stop is recorded (R249). -/
def State.axStop (s : State) (stopped : List Nat) (cause axis : Nat) : State :=
  let s := s.axHalt stopped (cause = 6)
  let s := if cause = 6 then s else s.axFlush
  (s.axHold cause).axMark stopped cause axis

/-- The block is IDLE, and a pending enable is applied (R252). -/
def State.axIdle (s : State) : State :=
  let s := s.wr F.AXM_STATUS.STATE 0
  if s.bit F.AXM_STATUS.PENDING_ENABLE then (s.clr F.AXM_STATUS.PENDING_ENABLE).set1 F.AXM_CTL.ENABLE else s

/-- The Guard's demand: all six axes stop with ENA_N high, and the block is held until reset (R249, R328). -/
def State.axGuard (s : State) : State := s.axStop axes 6 0

/-- The block is disabled: the axes stop, the queue is flushed, and the state is DISABLING (R252). A disable that
finds an enable pending cancels it, and one that finds the block held by the Guard leaves it so. -/
def State.axDisable (s : State) : State :=
  let s := (s.wr F.AXM_CTL.ENABLE 0).axFlush
  if s.bit F.AXM_STATUS.PENDING_ENABLE then s.clr F.AXM_STATUS.PENDING_ENABLE
  else if 3 ≤ s.rd F.AXM_STATUS.STATE then s
  else s.axStop axes 7 0

end Sys2Proof.Machine
end

