-- ==== Sys2Proof/Machine/Axes.lean ====
section
/-! DEFINITION. The commands and events of the auxiliary axes (R240 to R252). -/
namespace Sys2Proof.Machine

/-- AXM_PUSH, written with its upper half (R400), queues the staged command, or discards it: the queue is full, the block is
STOPPED or DISABLING, or a hardware stop falls in the same cycle (R244). -/
def execAxmPush (m : Master) (stop : Bool) (s : State) : Host.Outcome State Fault Refusal :=
  done (s.gated m F.AXM_PUSH.PUSH.off (fun s =>
    let st := s.rd F.AXM_STATUS.STATE
    if 16 ≤ s.axm.queue.length || st = 2 || st = 3 || stop then s.incSat F.AXM_COUNTS.DISCARDED
    else
      let words := (List.range 6).map (fun w => s.reg (F.AXM_CMD.WORD w).off)
      let s := { s with axm := { s.axm with queue := s.axm.queue ++ [words] } }
      s.wr F.AXM_STATUS.QUEUED s.axm.queue.length))

/-- Fields of a command's words (Table 10-1). -/
def axField (ws : List Word) (w lo n : Nat) : Nat := (ws.getD w 0).toNat / 2 ^ lo % 2 ^ n
def axTarget (ws : List Word) (a : Nat) : Int := signed 32 (axField ws (2 + a / 2) (32 * (a % 2)) 32)

/-- The distance of each axis of a move (R245). -/
def State.axDelta (s : State) (ws : List Word) : List Int :=
  let mask := axField ws 0 4 6
  axes.map (fun a =>
    if mask / 2 ^ a % 2 = 0 then 0
    else if axField ws 0 0 4 = 1 then axTarget ws a - s.rdInt (F.AXM_POS.POS a) else axTarget ws a)

/-- The input that ends the search of a homing sequence is active already, so its first phase is positive (R246). -/
def State.homeFound (s : State) (kind a : Nat) : Bool :=
  if kind = 2 then s.bit (F.AXM_POS.LIMM a) else s.bit (F.AXM_POS.HOME a)

/-- The cause for which a command is refused, the lowest code first; zero where it is accepted (R245, R248). A value
outside the range that Table 10-1 gives its field is a format error. A HOME is held to the limit of its first phase. -/
def State.axRefusal (s : State) (ws : List Word) : Nat :=
  let op := axField ws 0 0 4
  let mask := axField ws 0 4 6
  let named := maskAxes mask
  let delta := s.axDelta ws
  let move := op = 1 || op = 2
  let speeds := 1 ≤ axField ws 1 0 22 && axField ws 1 0 22 ≤ 2000000 && 1 ≤ axField ws 1 43 21
    && axField ws 1 43 21 ≤ 2000000 && 1 ≤ axField ws 5 0 32
  let kind := axField ws 0 10 4
  let format := axField ws 0 14 2 ≠ 0 || axField ws 1 22 21 ≠ 0 || axField ws 5 32 32 ≠ 0 || op = 0 || 4 < op
    || (op = 4 && axField ws 0 32 32 = 0) || (move && !speeds) || (op = 3 && (1 < named.length || 3 < kind))
  let absent := op ≠ 4 && (named.isEmpty || named.any (fun a => !s.axPresent a))
  let soft := move && named.any (fun a =>
    let t := s.rdInt (F.AXM_POS.POS a) + delta.getD a 0
    t < s.rdInt (F.AXM_SOFT.MIN a) || s.rdInt (F.AXM_SOFT.MAX a) < t)
  let limit := (move && named.any (fun a =>
      (0 < delta.getD a 0 && s.bit (F.AXM_POS.LIMP a)) || (delta.getD a 0 < 0 && s.bit (F.AXM_POS.LIMM a))))
    || (op = 3 && kind ≠ 0 && named.any (fun a =>
      if s.homeFound kind a then s.bit (F.AXM_POS.LIMP a) else s.bit (F.AXM_POS.LIMM a)))
  let homed := move && named.any (fun a => s.bit (F.AXM_CFG.HOME_REQ a) && !s.bit (F.AXM_POS.HOMED a))
  let fault := (move || (op = 3 && kind ≠ 0)) && named.any (fun a => s.axm.both.contains a || s.axm.stuck.contains a)
  if format then 1 else if absent then 2 else if soft then 3 else if limit then 4 else if homed then 5
  else if fault then 6 else 0

/-- A command ends: it is counted, its axes no longer move, and source 15 is raised. -/
def State.axDone (s : State) : State :=
  let s := s.axRunning.foldl (fun s a => s.clr (F.AXM_POS.MOVING a)) s
  let s := { s with axm := { s.axm with run := none } }
  ((s.wr F.AXM_STATUS.STATE 0).incSat F.AXM_COUNTS.COMMANDS).source 15

/-- The position and HOMED of an axis at the end of a homing sequence (Table 10-2). -/
def State.axHomed (s : State) (a : Nat) (pos : Int) : State :=
  ((s.wrInt (F.AXM_POS.POS a) pos).set1 (F.AXM_POS.HOMED a)).axDone

/-- A command put in force: its axes are enabled and move, the first step DIR_SETUP ticks from now (R241, R242, R244). -/
def State.axBegin (s : State) (r : AxRun) : State :=
  let s := { s with axm := { s.axm with run := some { r with reload := s.rd F.AXM_TIMING.DIR_SETUP } } }
  let s := (maskAxes r.mask).foldl (fun s a =>
    ((s.axEna a false).set1 (F.AXM_POS.MOVING a)).axDir a (decide (0 ≤ r.delta.getD a 0)) 0) s
  s.wr F.AXM_STATUS.STATE 1

/-- A homing sequence goes on in a phase of a new direction: AXa_DIR changes DIR_HOLD ticks after the last step, and the
first step of the phase comes DIR_SETUP ticks later (R241, R246). A limit that is active in that direction stops it
(R249). -/
def State.axTurn (s : State) (r : AxRun) (phase : Nat) (up : Bool) : State :=
  let a := r.axis
  let active := if up then s.bit (F.AXM_POS.LIMP a) else s.bit (F.AXM_POS.LIMM a)
  let hold := s.rd F.AXM_TIMING.DIR_HOLD
  let r := { r with
    phase := phase, count := 0, decel := 0, residue := 0, delta := r.delta.set a (if up then 1 else -1)
    reload := hold + s.rd F.AXM_TIMING.DIR_SETUP }
  if active then (s.set1 F.AXM_ERR.LIMIT_STOP).axStop s.axRunning 1 a
  else { s.axDir a up hold with axm := { (s.axDir a up hold).axm with run := some r } }

/-- A move with its speeds reduced to the limits of its axes (R243). -/
def State.axMove (s : State) (ws : List Word) (op mask : Nat) : State :=
  let delta := s.axDelta ws
  let d := (delta.map Int.natAbs).foldl max 0
  let named := (maskAxes mask).filter (fun a => delta.getD a 0 ≠ 0)
  let cap := fun (f : Nat → Nat) (v : Nat) => named.foldl (fun m a => min m (f a * d / (delta.getD a 0).natAbs)) v
  let v0 := axField ws 1 43 21
  let a0 := axField ws 5 0 32
  let vmax := min 2000000 (cap (fun a => s.rd (F.AXM_CFG.VMAX a)) v0)
  let acc := cap (fun a => s.rd (F.AXM_CFG.AMAX a)) a0
  let s := s.whenD (vmax ≠ v0 || acc ≠ a0) (fun s => s.set1 F.AXM_ERR.CLAMPED)
  if d = 0 then s.axDone
  else s.axBegin
    { op := op, kind := 0, mask := mask, vs := min (axField ws 1 0 22) vmax, vmax := vmax, acc := acc, delta := delta,
      steps := d, k := 0, errs := axes.map (fun _ => d / 2), residue := 0, reload := 0, axis := 0, phase := 0,
      count := 0, decel := 0, p1 := 0 }

/-- A homing sequence starts; a search whose input is active already goes on to its next phase (R246). -/
def State.axHome (s : State) (kind a : Nat) : State :=
  let s := s.clr (F.AXM_POS.HOMED a)
  if kind = 0 then s.axHomed a (s.rdInt (F.AXM_HOMEPOS.HOME_VALUE a))
  else
    let found := s.homeFound kind a
    s.axBegin
      { op := 3, kind := kind, mask := 2 ^ a, vs := s.rd (F.AXM_HOME.SLOW a), vmax := s.rd (F.AXM_HOME.FAST a),
        acc := s.rd (F.AXM_CFG.AMAX a), delta := axes.map (fun b => if b = a then (if found then 1 else -1) else 0),
        steps := 0, k := 0, errs := [], residue := 0, reload := 0, axis := a, phase := if found then 3 else 1,
        count := 0, decel := 0, p1 := 0 }

/-- The command at the head of the queue is checked and starts, or is refused and the block stops (R244, R245). -/
def execAxisCommandStart (s : State) : Host.Outcome State Fault Refusal :=
  match s.axm.queue with
  | [] => done s
  | ws :: rest =>
    if s.axm.run.isSome || !s.bit F.AXM_CTL.ENABLE || 2 ≤ s.rd F.AXM_STATUS.STATE then done s
    else
      let c := s.axRefusal ws
      let s := { s with axm := { s.axm with queue := rest } }
      let s := (s.wr F.AXM_STATUS.QUEUED rest.length).wr F.AXM_STATUS.TAG (axField ws 0 16 16)
      if c ≠ 0 then
        let s := ((s.set1 F.AXM_ERR.REFUSED).wr F.AXM_STATUS.CAUSE c).axFlush
        done ((s.axHold 0).source 15)
      else
        let op := axField ws 0 0 4
        let mask := axField ws 0 4 6
        match op with
        | 3 => done (s.axHome (axField ws 0 10 4) ((maskAxes mask).headD 0))
        | 4 => done (s.axBegin
            { op := 4, kind := 0, mask := 0, vs := 1, vmax := 1, acc := 0, delta := [0, 0, 0, 0, 0, 0], steps := 0,
              k := 0, errs := [], residue := 0, reload := 0, axis := 0, phase := 0, count := axField ws 0 32 32,
              decel := 0, p1 := 0 })
        | _ => done (s.axMove ws op mask)

/-- An axis emits one step: its position counts it, and its steps away from an active limit are counted (R241,
R248). -/
def State.axEmit (s : State) (a : Nat) (up : Bool) : State :=
  let s := s.wrInt (F.AXM_POS.POS a) (s.rdInt (F.AXM_POS.POS a) + (if up then 1 else -1))
  let away := if up then s.bit (F.AXM_POS.LIMM a) else s.bit (F.AXM_POS.LIMP a)
  let n := if away then s.axm.away.getD a 0 + 1 else s.axm.away.getD a 0
  { s with axm := { s.axm with away := s.axm.away.set a n, pulse := s.axm.pulse.set a (some s.cycle) } }

/-- Those of the axes that have just stepped which have run BACKOFF_MAX steps away from an active limit (R248). -/
def State.axStuckNow (s : State) (stepped : List Nat) : List Nat :=
  stepped.filter (fun a =>
    let n : Nat := s.axm.away.getD a 0
    decide (0 < n) && decide (s.rd (F.AXM_HOMEPOS.BACKOFF_MAX a) ≤ n))

/-- LIMIT_STUCK faults of axes stop the running command, in the name of the lowest of them (R248, R249). -/
def State.axStuck (s : State) (l : List Nat) : State :=
  let s := { (s.set1 F.AXM_ERR.LIMIT_STUCK) with axm := { s.axm with
    stuck := l.foldl (fun acc a => listInsert a acc) s.axm.stuck } }
  s.axStop s.axRunning 3 (l.headD 0)

/-- A homing sequence fails: the axis stops, the block is STOPPED and HOMED stays clear (R246). A back-off from an active
limit that is not released is a LIMIT_STUCK fault as well (R248). -/
def State.axHomeFail (s : State) (f : Field) (stuck : List Nat) : State :=
  let s := s.set1 f
  if !stuck.isEmpty then s.axStuck stuck
  else (((s.axHalt s.axRunning false).axFlush).axHold 0).source 15

/-- One step of a homing sequence (R246). -/
def State.axHomeStep (s : State) (r : AxRun) : State :=
  let a := r.axis
  let s := (s.axEna a false).axEmit a (decide (0 < r.delta.getD a 0))
  let r := { r with count := r.count + 1 }
  let stuck := s.axStuckNow [a]
  let go := fun (s : State) (r : AxRun) =>
    if !stuck.isEmpty then s.axStuck stuck else { s with axm := { s.axm with run := some r.load } }
  match r.phase with
  | 1 => if s.rd (F.AXM_HOME.SEARCH_MAX a) ≤ r.count then s.axHomeFail F.AXM_ERR.HOME_NOT_FOUND stuck else go s r
  | 2 =>
    if r.decel = 0 && stuck.isEmpty then s.axTurn r 3 true
    else go s { r with decel := r.decel - 1 }
  | _ => if s.rd (F.AXM_HOMEPOS.BACKOFF_MAX a) ≤ r.count then s.axHomeFail F.AXM_ERR.HOME_STUCK stuck else go s r

/-- A step interval expires: the master steps, and each other axis when its error term says so; the command ends
with the master's last step (R242, R243). -/
def execAxisStep (s : State) : Host.Outcome State Fault Refusal :=
  match s.axm.run with
  | none => done s
  | some r =>
    if r.op = 4 then done s
    else if r.op = 3 then done (s.axHomeStep r)
    else
      let named := (maskAxes r.mask).filter (fun a => r.delta.getD a 0 ≠ 0)
      let grown := axes.map (fun a => r.errs.getD a 0 + (r.delta.getD a 0).natAbs)
      let stepping := named.filter (fun a => r.steps ≤ grown.getD a 0)
      let errs := axes.map (fun a => if stepping.contains a then grown.getD a 0 - r.steps else grown.getD a 0)
      let s := stepping.foldl (fun s a => s.axEmit a (decide (0 < r.delta.getD a 0))) s
      let r := { r with k := r.k + 1, errs := errs }
      let s := { s with axm := { s.axm with run := some r } }
      let stuck := s.axStuckNow stepping
      if !stuck.isEmpty then done (s.axStuck stuck)
      else if r.steps ≤ r.k then done s.axDone
      else done { s with axm := { s.axm with run := some r.load } }

/-- A DWELL command's time runs out (R244). -/
def execDwellExpiry (s : State) : Host.Outcome State Fault Refusal :=
  match s.axm.run with
  | none => done s
  | some r => if r.op = 4 then done s.axDone else done s

/-- A limit input is accepted active: it stops the running command when an axis moves toward it, sets LIMIT_BOTH when
both limits of the axis are active, or restarts the release time (R246 to R249). The stop of LIMIT homing is recorded as
any other, and the sequence goes on with its next phase, whose first step drives ENA_N low again. -/
def execLimitActive (a : Fin 6) (positive : Bool) (s : State) : Host.Outcome State Fault Refusal :=
  let f := if positive then F.AXM_POS.LIMP a else F.AXM_POS.LIMM a
  if !s.axPresent a then done s
  else if s.bit f then done (s.incSat F.AXM_COUNTS.CHATTER)
  else
    let s := s.set1 f
    let toward := match s.axm.run with
      | none => false
      | some r => if positive then decide (0 < r.delta.getD a 0) else decide (r.delta.getD a 0 < 0)
    if s.bit (F.AXM_POS.LIMP a) && s.bit (F.AXM_POS.LIMM a) then
      let s := { (s.set1 F.AXM_ERR.LIMIT_BOTH) with axm := { s.axm with both := listInsert a s.axm.both } }
      done (s.axStop s.axRunning 2 a)
    else match s.axm.run with
      | none => done s
      | some r =>
        if !toward then done s
        else if r.op = 3 && r.kind = 2 && !positive && r.axis = a.val && r.phase ≤ 2 then
          done (((s.axDrop [a.val] false).axMark [a.val] 1 a).axTurn r 3 true)
        else done ((s.set1 F.AXM_ERR.LIMIT_STOP).axStop s.axRunning 1 a)

/-- A limit has stayed high for RELEASE and is accepted released. `since` is how many steps the axis has run since
the limit last turned inactive, which places the captured position of LIMIT homing (R246 to R248). -/
def execLimitReleased (a : Fin 6) (positive : Bool) (since : Nat) (s : State) : Host.Outcome State Fault Refusal :=
  let f := if positive then F.AXM_POS.LIMP a else F.AXM_POS.LIMM a
  if !s.bit f then done s
  else
    let s := s.clr f
    let free := !s.bit (F.AXM_POS.LIMP a) && !s.bit (F.AXM_POS.LIMM a)
    let s := { s with axm := { s.axm with
      away := s.axm.away.set a 0
      both := if free then s.axm.both.filter (· ≠ a.val) else s.axm.both
      stuck := if free then s.axm.stuck.filter (· ≠ a.val) else s.axm.stuck } }
    match s.axm.run with
    | none => done s
    | some r =>
      if r.op = 3 && r.kind = 2 && !positive && r.axis = a.val && r.phase = 3 then
        done (s.axHomed a (s.rdInt (F.AXM_HOMEPOS.HOME_VALUE a) + since))
      else done s

/-- HOME_N is accepted active or released, which advances a homing sequence: the step interval that runs is not changed, and a
search decelerates from the step at its end on (R246, R247). -/
def execHomeInputChange (a : Fin 6) (active : Bool) (s : State) : Host.Outcome State Fault Refusal :=
  let s := s.wrBit (F.AXM_POS.HOME a) active
  match s.axm.run with
  | none => done s
  | some r =>
    if r.op ≠ 3 || r.axis ≠ a.val || (r.kind ≠ 1 && r.kind ≠ 3) then done s
    else
      let put := fun (r : AxRun) => done { s with axm := { s.axm with run := some r } }
      let pos := s.rdInt (F.AXM_POS.POS a)
      let home := s.rdInt (F.AXM_HOMEPOS.HOME_VALUE a)
      match r.phase with
      | 1 =>
        if !active then done s
        else
          let n := ceilDiv (r.searchSq - r.vs ^ 2) (2 * max 1 r.acc)
          if n = 0 then done (s.axTurn r 3 true)
          else put { r with phase := 2, decel := n }
      | 3 =>
        if active then done s
        else if r.kind = 1 then done (s.axHomed a home)
        else done (s.axTurn { r with p1 := pos } 4 false)
      | 4 => if active then put { r with phase := 5 } else done s
      | 5 => if active then done s else done (s.axHomed a (pos - (r.p1 + pos) / 2 + home))
      | _ => done s

/-- AXIS_STOP_N is accepted active: all six axes stop (R249). A low that comes while it stands restarts the release
time. -/
def execAxisStopActive (s : State) : Host.Outcome State Fault Refusal :=
  if s.axm.stopIn then done (s.incSat F.AXM_COUNTS.CHATTER)
  else
    let s := { (s.set1 F.AXM_ERR.STOP_INPUT) with axm := { s.axm with stopIn := true } }
    done (s.axStop axes 4 0)

/-- AXIS_STOP_N has stayed high for RELEASE and is released; the block stays STOPPED until it is cleared (R247,
R251). -/
def execAxisStopReleased (s : State) : Host.Outcome State Fault Refusal :=
  done { s with axm := { s.axm with stopIn := false } }

/-- A STEP ball's read-back differs for two ticks: all six axes stop (R249). -/
def execStepMismatch (a : Fin 6) (s : State) : Host.Outcome State Fault Refusal :=
  done ((s.set1 F.AXM_ERR.STEP_MISMATCH).axStop axes 5 a)

/-- AXM_CTL.ENABLE written 1: the block is enabled, or the enable is held while DISABLING (R252). -/
def execAxmEnable (m : Master) (s : State) : Host.Outcome State Fault Refusal :=
  done (s.gated m F.AXM_CTL.ENABLE.off (fun s =>
    if s.rd F.AXM_STATUS.STATE = 4 then s
    else if s.rd F.AXM_STATUS.STATE = 3 then s.set1 F.AXM_STATUS.PENDING_ENABLE
    else s.set1 F.AXM_CTL.ENABLE))

/-- AXM_CTL.ENABLE written 0 (R252). -/
def execAxmDisable (m : Master) (s : State) : Host.Outcome State Fault Refusal :=
  done (s.gated m F.AXM_CTL.ENABLE.off (fun s => s.axDisable))

/-- Every pulse has ended and DIR_HOLD has elapsed: the block is IDLE, and a pending enable is applied (R252); where a stop
has not been cleared it is STOPPED again, and an enable that is held stays so (R251; DEDUCED, log 180). -/
def execAxmDrainComplete (s : State) : Host.Outcome State Fault Refusal :=
  if s.rd F.AXM_STATUS.STATE ≠ 3 then done s
  else if s.axm.halted then done (s.wr F.AXM_STATUS.STATE 2)
  else done s.axIdle

/-- AXM_CTL.CLEAR leaves STOPPED, unless a stop demand or a LIMIT_BOTH fault stands; a disable that has not drained and
the Guard's hold are such demands (R251). -/
def execAxmClear (m : Master) (s : State) : Host.Outcome State Fault Refusal :=
  done (s.gated m F.AXM_CTL.CLEAR.off (fun s =>
    let st := s.rd F.AXM_STATUS.STATE
    if s.axm.stopIn || !s.axm.both.isEmpty || st = 4 || (st = 3 && s.axm.halted) then s.set1 F.AXM_ERR.CLEAR_IGNORED
    else if st = 2 then { s with axm := { s.axm with halted := false } }.axIdle
    else s))

end Sys2Proof.Machine
end

