-- ==== Sys2Proof/Machine/FolioParse.lean ====
section
/-! DEFINITION. Folio blocks, records and Gugen streams as pure functions over bytes (R56 to R60, R62, R67 to
R78, R84 to R86). -/
namespace Sys2Proof.Machine

/-! ### Gugen -/

/-- A byte at distance `dist` back in an output held newest first. -/
def gugCopy (out : List Byte) (dist : Nat) : Nat → List Byte
  | 0 => out
  | n + 1 => gugCopy ((out.getD (dist - 1) 0#8) :: out) dist n

/-- The tokens of a CODED payload (R85). `fuel` bounds the tokens; `left` is the output still due to the block.
The output is held newest first; the flag is false after a format error (R86). -/
def gugTokens : Nat → List Byte → List Byte → Nat → List Byte × Bool
  | _, [], out, left => (out, left = 0)
  | 0, _ :: _, out, _ => (out, false)
  | fuel + 1, c :: ins, out, left =>
    let v := c.toNat
    if v < 128 then
      let n := v + 1
      if ins.length < n || left < n then (out, false)
      else gugTokens fuel (ins.drop n) ((ins.take n).reverse ++ out) (left - n)
    else
      let short := v < 192
      let ext := !short && v % 64 = 63
      let e := if ext then (ins.headD 0#8).toNat else 0
      let ins1 := if ext then ins.drop 1 else ins
      let size := if short then 1 else 2
      let len := if short then v / 8 % 8 + 3 else v % 64 + 3 + e
      let dist := if short then v % 8 * 256 + leNat (ins1.take 1) + 1 else leNat (ins1.take 2) + 1
      if (ext && ins.isEmpty) || ins1.length < size || out.length < dist || left < len then (out, false)
      else gugTokens fuel (ins1.drop size) (gugCopy out dist len) (left - len)

/-- The blocks of a stream after its header (R84); the output is newest first, and the flag is false after a
format error. -/
def gugBlocks : Nat → List Byte → List Byte → List Byte × Bool
  | 0, _, out => (out, false)
  | fuel + 1, ins, out =>
    if ins.length < 5 then (out, false)
    else
      let ty := (ins.headD 0#8).toNat
      let outLen := fieldAt ins 1 2 + 1
      let inLen := fieldAt ins 3 2 + 1
      let body := (ins.drop 5).take inLen
      let rest := (ins.drop 5).drop inLen
      if body.length < inLen || ty / 4 % 32 ≠ 0 || 2 ≤ ty % 4 then (out, false)
      else
        let r := if ty % 4 = 0 then (body.reverse ++ out, decide (inLen = outLen)) else gugTokens inLen body out outLen
        if !r.2 then r
        else if 128 ≤ ty then (r.1, rest.isEmpty)
        else gugBlocks fuel rest r.1

/-- What a Gugen stream decodes to: the output as far as it goes, whether its form is good, and whether RAW_CRC
matches (R84, R86). -/
structure GugOut where
  out : List Byte
  form : Bool
  crc : Bool

/-- A Gugen stream decoded. -/
def gugDecode (bs : List Byte) : GugOut :=
  let rawLen := fieldAt bs 4 4
  if bs.length < 12 || fieldAt bs 0 2 ≠ 0x4755 || fieldAt bs 2 1 ≠ 1 || fieldAt bs 3 1 ≠ 0 then ⟨[], false, false⟩
  else
    let r := if rawLen = 0 then ([], decide (bs.length = 12)) else gugBlocks bs.length (bs.drop 12) []
    let o := r.1.reverse
    ⟨o, r.2 && o.length = rawLen, crc32c o = fieldAt bs 8 4⟩

/-! ### Blocks -/

/-- Whether CHECK matches (stage 1 of R58). -/
def blockCheck (d : List Byte) : Bool :=
  let n := d.length
  4 ≤ n && crc32c (d.take (n - 4)) = fieldAt d (n - 4) 4

/-- Stage 2 of R58: the header of Table 3-1 against the submission entry. DEDUCED (log 163): a LAST_TROW below FIRST_TROW does
not fit Table 3-1, and fails the block here, though R58's list does not name it. -/
def blockHeader (d : List Byte) (leaf seq : Nat) (first last : Bool) (prevLast : Option Int) : Bool :=
  let n := d.length
  let coded := fieldAt d 24 4
  let raw := fieldAt d 20 4
  let flags := fieldAt d 28 1
  let coding := fieldAt d 29 1
  let pad := (d.drop (32 + coded)).take (n - 36 - coded)
  36 ≤ n && fieldAt d 0 4 = 0x464F4C42 && fieldAt d 4 2 = leaf && fieldAt d 6 2 = 1 && fieldAt d 8 4 = seq
    && flags / 8 = 0 && (flags % 2 = 1) = first && (flags / 2 % 2 = 1) = last && coding < 2
    && fieldAt d 30 2 = 0 && raw % 4 = 0 && (coding = 1 || coded = raw)
    && coded + 36 ≤ n && n < coded + 36 + 64 && pad.all (· = 0#8)
    && signed 32 (fieldAt d 12 4) ≤ signed 32 (fieldAt d 16 4)
    && (match prevLast with
      | some l => decide (l ≤ signed 32 (fieldAt d 12 4))
      | none => true)

/-- FIRST_TROW, LAST_TROW and CONTINUES of a block. -/
def blockFirstRow (d : List Byte) : Int := signed 32 (fieldAt d 12 4)
def blockLastRow (d : List Byte) : Int := signed 32 (fieldAt d 16 4)
def blockContinues (d : List Byte) : Bool := fieldAt d 28 1 / 4 % 2 = 1

/-- The record stream of a block: a RAW_LEN that differs from the header's is a format error (R86). -/
def blockStream (d : List Byte) : GugOut :=
  let body := (d.drop 32).take (fieldAt d 24 4)
  if fieldAt d 29 1 = 0 then ⟨body, true, true⟩
  else
    let g := gugDecode body
    ⟨g.out, g.form && g.out.length = fieldAt d 20 4, g.crc⟩

/-! ### Records -/

/-- A decoded record (Table 3-2). -/
inductive Rec where
  | pad
  | header (h : LeafHdr)
  | classes (cs : List Nat)
  | fog (g : Nat) (nodes : List Nat)
  | motif (m : Motif) (bytes : Nat)
  | tile (dens : Bool) (row col : Int) (paths : List Path) (insts : List Inst)
  | halo (crow ccol : Int) (vals : List Nat)

/-- Signed half-words. -/
def half (bs : List Byte) (i : Nat) : Int := signed 16 (fieldAt bs i 2)

/-- The segments of a path from its KIND bits. -/
def segsParse (kind : Nat) : Nat → Nat → List Byte → Option (List Seg × List Byte)
  | 0, _, bs => some ([], bs)
  | n + 1, i, bs =>
    let quad := kind / 2 ^ i % 2 = 1
    let size := if quad then 8 else 4
    if bs.length < size then none
    else
      let sg := if quad then Seg.quad (half bs 0) (half bs 2) (half bs 4) (half bs 6)
        else Seg.line (half bs 0) (half bs 2)
      match segsParse kind n (i + 1) (bs.drop size) with
      | some (sgs, rest) => some (sg :: sgs, rest)
      | none => none

/-- One path (R69, R70): `none` where it breaks a rule. -/
def pathParse (bs : List Byte) : Option (Path × List Byte) :=
  let head := fieldAt bs 0 4
  let n := head % 4096
  let kw := ceilDiv n 32
  if bs.length < 8 + 4 * kw || n = 0 || 65536 ≤ head then none
  else
    let kind := fieldAt bs 8 (4 * kw)
    if 2 ^ n ≤ kind then none
    else
      match segsParse kind n 0 (bs.drop (8 + 4 * kw)) with
      | none => none
      | some (sgs, rest) =>
        let p : Path := ⟨head / 4096 % 16, half bs 4, half bs 6, sgs⟩
        if (sgs.getLast?.map segEnd) = some (p.x, p.y) then some (p, rest) else none

/-- A number of paths. -/
def pathsParse : Nat → List Byte → Option (List Path × List Byte)
  | 0, bs => some ([], bs)
  | n + 1, bs =>
    match pathParse bs with
    | none => none
    | some (p, rest) =>
      match pathsParse n rest with
      | none => none
      | some (ps, rest') => some (p :: ps, rest')

/-- One instance (Table 3-7): `none` where a reserved bit is set or a count is zero. -/
def instParse (bs : List Byte) : Option Inst :=
  let o := fieldAt bs 2 1
  let c := fieldAt bs 3 1
  let i : Inst := ⟨fieldAt bs 0 2, o, c % 16, 128 ≤ c, half bs 4, half bs 6, fieldAt bs 8 2, fieldAt bs 10 2,
    half bs 12, half bs 14⟩
  if o < 8 && c / 16 % 8 = 0 && i.nx ≠ 0 && i.ny ≠ 0 then some i else none

/-- A number of instances. -/
def instsParse : Nat → List Byte → Option (List Inst × List Byte)
  | 0, bs => some ([], bs)
  | n + 1, bs =>
    if bs.length < 16 then none
    else match instParse bs, instsParse n (bs.drop 16) with
      | some i, some (is, rest) => some (i :: is, rest)
      | _, _ => none

/-- The points of a path: its start, end points and control points. -/
def pathPoints (p : Path) : List (Int × Int) :=
  (p.x, p.y) :: p.segs.flatMap (fun sg => match sg with
    | .line x y => [(x, y)]
    | .quad cx cy x y => [(cx, cy), (x, y)])

/-- 16-bit values, little-endian. -/
def halfWords : Nat → List Byte → List Nat
  | 0, _ => []
  | n + 1, bs => fieldAt bs 0 2 :: halfWords n (bs.drop 2)

/-- The LEAF_HEADER record, where it meets Table 3-3. DESIGN CHOICE (log 120): the table gives BLOCK_COUNT no range; as a leaf
has a FIRST block, 0 does not meet it. -/
def headerParse (bs : List Byte) : Option LeafHdr :=
  let fl := fieldAt bs 6 2
  let h : LeafHdr := {
    leaf := fieldAt bs 4 2, preview := fl % 2 = 1, pec := fl / 2 % 2 = 1, dir := fl / 4 % 2 = 1,
    fog := fl / 8 % 2 = 1, lines := fieldAt bs 8 4, rate := fieldAt bs 12 4, density := fieldAt bs 16 4,
    edgePeak := fieldAt bs 20 4, blocks := fieldAt bs 24 4, catalogue := fieldAt bs 28 4,
    originScan := signed 64 (fieldAt bs 32 8), originCross := signed 32 (fieldAt bs 40 4),
    halo := fieldAt bs 44 1, classes := fieldAt bs 45 1, motifs := fieldAt bs 46 2 }
  if fl < 16 && 1 ≤ h.lines && h.lines ≤ 67108864 && 1 ≤ h.rate && h.rate ≤ 1200000 && 1 ≤ h.density
      && h.density ≤ 1000000 && 1 ≤ h.edgePeak && h.edgePeak ≤ 4096 && 1 ≤ h.blocks && h.halo ≤ 31
      && 1 ≤ h.classes && h.classes ≤ 16 && h.motifs ≤ 4095 && fieldAt bs 48 16 = 0 && 64 ≤ bs.length
  then some h else none

/-- One record of `words` words (R59, R62, R67, R68, R71, R72, R76, R77): `none` where its form breaks a rule. DESIGN CHOICE
(log 121): R77 says "padded to a word" and gives the pad no value; as in R67, a pad that is not zero breaks the form. -/
def recParse (ty words : Nat) (bs : List Byte) : Option Rec :=
  match ty with
  | 0x00 => some .pad
  | 0x01 => if words = 16 then (headerParse bs).map Rec.header else none
  | 0x02 =>
    let n := 2 * (words - 1)
    let cs := halfWords n (bs.drop 4)
    if cs.all (· < 16384) then some (.classes cs) else none
  | 0x03 =>
    let ns := halfWords 9 (bs.drop 8)
    if words = 7 && ns.all (· < 16384) && fieldAt bs 26 2 = 0 then some (.fog (fieldAt bs 4 4) ns) else none
  | 0x04 =>
    if words < 4 then none
    else match pathsParse (fieldAt bs 6 2) (bs.drop 16) with
      | some (ps, []) =>
        let m : Motif := ⟨fieldAt bs 4 2, half bs 8, half bs 10, half bs 12, half bs 14, ps⟩
        if ps.all (fun p => (pathPoints p).all (fun q =>
            m.xmin ≤ q.1 && q.1 ≤ m.xmax && m.ymin ≤ q.2 && q.2 ≤ m.ymax))
        then some (.motif m (4 * words)) else none
      | _ => none
  | 0x10 => tileParse false bs words
  | 0x12 => tileParse true bs words
  | 0x13 =>
    let n := fieldAt bs 10 2
    let vals := halfWords n (bs.drop 12)
    if words = 3 + ceilDiv n 2 && vals.all (· ≤ 0x2000) && fieldAt bs (12 + 2 * n) (2 * (n % 2)) = 0
    then some (.halo (signed 32 (fieldAt bs 4 4)) (half bs 8) vals) else none
  | _ => none
where
  tileParse (dens : Bool) (bs : List Byte) (words : Nat) : Option Rec :=
    if words < 4 || fieldAt bs 9 1 ≠ 0 || fieldAt bs 14 2 ≠ 0 then none
    else match instsParse (fieldAt bs 12 2) (bs.drop 16) with
      | none => none
      | some (is, rest) =>
        match pathsParse (fieldAt bs 10 2) rest with
        | some (ps, []) =>
          let col : Int := if dens then signed 8 (fieldAt bs 8 1) else fieldAt bs 8 1
          if dens || fieldAt bs 8 1 < 64 then some (.tile dens (signed 32 (fieldAt bs 4 4)) col ps is) else none
        | _ => none

/-- The records of a stream, which they fill exactly (R59). -/
def recsParse : Nat → List Byte → Option (List Rec)
  | _, [] => some []
  | 0, _ :: _ => none
  | fuel + 1, b :: bs =>
    let all := b :: bs
    let words := fieldAt all 1 3
    if words = 0 || all.length < 4 * words then none
    else
      match recParse b.toNat words (all.take (4 * words)), recsParse fuel (all.drop (4 * words)) with
      | some r, some rs => some (r :: rs)
      | _, _ => none

/-- The row that a record names (Table 3-2). -/
def recRow : Rec → Option Int
  | .tile _ r _ _ _ => some r
  | .halo c _ _ => some (c / 2)
  | _ => none

/-! ### Motif expansion (R73, R74, R78) -/

/-- Table 3-8. -/
def orientPoint (o : Nat) (u v : Int) : Int × Int :=
  match o with
  | 0 => (u, v)
  | 1 => (-v, u)
  | 2 => (-u, -v)
  | 3 => (v, -u)
  | 4 => (-u, v)
  | 5 => (-v, -u)
  | 6 => (u, -v)
  | _ => (v, u)

/-- A path mapped through an orientation and an origin. -/
def orientPath (o : Nat) (x y : Int) (cls : Option Nat) (p : Path) : Path :=
  let f := fun (u v : Int) => let q := orientPoint o u v; (x + q.1, y + q.2)
  let st := f p.x p.y
  { cls := cls.getD p.cls, x := st.1, y := st.2,
    segs := p.segs.map (fun sg => match sg with
      | .line u v => let q := f u v; .line q.1 q.2
      | .quad a b u v => let c := f a b; let q := f u v; .quad c.1 c.2 q.1 q.2) }

/-- The edge units of paths (R78). -/
def edgeUnits (ps : List Path) : Nat :=
  (ps.map (fun p => (p.segs.map (fun sg => match sg with
    | .line _ _ => 1
    | .quad _ _ _ _ => 4)).sum)).sum

/-- Whether a copy of a motif at an origin is culled (R74). -/
def copyCulled (m : Motif) (o : Nat) (x y : Int) : Bool :=
  let a := orientPoint o m.xmin m.ymin
  let b := orientPoint o m.xmax m.ymax
  let x0 := x + min a.1 b.1
  let x1 := x + max a.1 b.1
  let y0 := y + min a.2 b.2
  let y1 := y + max a.2 b.2
  !(-16 < x1 && x0 < 2064 && -16 < y1 && y0 < 2064)

/-- One copy: its edge units and its paths (R74, R78), with the sense of R94. -/
def copyExpand (m : Motif) (i : Inst) (x y : Int) : Nat × List Path :=
  if copyCulled m i.orient x y then (4, [])
  else
    let ps := m.paths.map (orientPath i.orient x y (if i.own then none else some i.cls))
    (edgeUnits ps, copySense ps)

/-- The copies of an instance, in rows of `i` and `j` (R73). -/
def instExpand (m : Motif) (i : Inst) : Nat × List Path :=
  let cs := (List.range i.nx).flatMap (fun a => (List.range i.ny).map (fun b =>
    copyExpand m i (i.x + a * i.px) (i.y + b * i.py)))
  ((cs.map Prod.fst).sum, cs.flatMap Prod.snd)

/-- Whether every coordinate of a path fits 16 bits (R74). -/
def pathInRange (p : Path) : Bool :=
  (pathPoints p).all (fun q => -32768 ≤ q.1 && q.1 ≤ 32767 && -32768 ≤ q.2 && q.2 ≤ 32767)

end Sys2Proof.Machine
end

