-- ==== Sys2Proof/Machine/LeafOps.lean ====
section
/-! DEFINITION. The shared operations over the Folio store places, completions and re-fetch requests (R40 to
R43, R66, R80 to R83). -/
namespace Sys2Proof.Machine

/-- A block of a leaf. -/
def Leaf.blk (l : Leaf) (seq : Nat) : Option Blk := l.blocks.find? (·.seq = seq)

/-- A block put in its place in SEQ order. -/
def blkInsert (b : Blk) : List Blk → List Blk
  | [] => [b]
  | c :: cs => if b.seq < c.seq then b :: c :: cs else if b.seq = c.seq then b :: cs else c :: blkInsert b cs

/-- A block of a leaf added or replaced. -/
def Leaf.putBlk (l : Leaf) (b : Blk) : Leaf := { l with blocks := blkInsert b l.blocks }

/-- A block forgotten. -/
def Leaf.dropBlk (l : Leaf) (seq : Nat) : Leaf := { l with blocks := l.blocks.filter (·.seq ≠ seq) }

/-- CUR_STATE and NEXT_STATE of a leaf in a place (FOL_LEAF_STATUS). -/
def State.leafState (s : State) (p : Nat) : Nat :=
  match s.leafAt p with
  | none => 0
  | some l =>
    if !l.admitted then 1
    else if s.fol.cur = some p then
      (match s.rd F.SLT_STATUS.STATE with
        | 2 => 3
        | 3 => 3
        | 4 => 4
        | _ => 2)
    else 2

/-- The place that the status shows as current: the leaf in progress, else the one admitted first, else the one
that holds a place (R66). -/
def State.curPlace (s : State) : Nat :=
  match s.fol.cur with
  | some p => p
  | none => match s.fol.order with
    | p :: _ => p
    | [] => if s.fol.place0.isSome then 0 else if s.fol.place1.isSome then 1 else 0

/-- FOL_LEAF_STATUS and FOL_LEAF_POS brought up to date. -/
def State.folShow (s : State) : State :=
  let p := s.curPlace
  let q := 1 - p
  let idOf := fun x => ((s.leafAt x).map Leaf.id).getD 0
  let s1 := ((s.wr F.FOL_LEAF_STATUS.CUR_LEAF (idOf p)).wr F.FOL_LEAF_STATUS.CUR_STATE (s.leafState p))
  let s2 := ((s1.wr F.FOL_LEAF_STATUS.NEXT_LEAF (idOf q)).wr F.FOL_LEAF_STATUS.NEXT_STATE (s.leafState q))
  match s.leafAt p with
  | some l => (s2.wrInt F.FOL_LEAF_POS.TROW l.complete).wr F.FOL_LEAF_POS.SEQ l.nextSeq
  | none => s2

/-! ### Completions -/

/-- Whether a held completion is the RETIRED entry of the leaf that holds an identifier in a place (R41). -/
def Completion.retires (c : Completion) (leaf : Nat) : Bool := c.merges && c.leaf = leaf

/-- A completion joins those held on die (R41); RETIRED entries of one leaf merge into one place. -/
def State.complete (s : State) (c : Completion) : State :=
  let merged := c.merges && s.hif.held.any (fun d => d.retires c.leaf)
  let held := if merged then s.hif.held.map (fun d => if d.retires c.leaf then c else d) else s.hif.held ++ [c]
  { s with hif := { s.hif with held := held } }

/-- A completion of a submission entry with the present TB1 stamp (Table 2-5). -/
def State.completeEntry (s : State) (ring tag leaf seq status : Nat) : State :=
  s.complete ⟨tag, leaf, seq, status, ring, s.nowS % 65536, s.nowNs, false⟩

/-- The RETIRED watermark of a leaf reported (R40). A leaf of which nothing is retired has no watermark. -/
def State.retire (s : State) (p : Nat) : State :=
  match s.leafAt p with
  | none => s
  | some l =>
    if l.nextSeq = 0 then s
    else
      let s := s.setLeaf p { l with reported := l.nextSeq }
      s.complete ⟨0xFFFF, l.id, l.nextSeq - 1, 2, 0, s.nowS % 65536, s.nowNs, true⟩

/-- The report after 64 blocks of advance (R40). -/
def State.retireDue (s : State) (p : Nat) : State :=
  match s.leafAt p with
  | none => s
  | some l => if l.reported + 64 ≤ l.nextSeq then s.retire p else s

/-- The places that the leaf in a place takes in the count of R41 beside its entries: one for its RETIRED entry, whose
advances merge into it, unless that entry is among those held; and one for LEAF_REFUSED until it is admitted. DEDUCED
(log 112): an advance, or a refusal after STORED, comes when the consumer wants it and is never dropped, so its place is
kept from the moment the leaf takes its Folio store place. -/
def State.leafPlaces (s : State) (p : Nat) : Nat :=
  match s.leafAt p with
  | none => 0
  | some l => (if s.hif.held.any (fun c => c.retires l.id) then 0 else 1) + (if l.admitted then 0 else 1)

/-- The count that R41 holds to 256: completions held, entries read but not completed, and the places of the leaves. -/
def State.intakeCount (s : State) : Nat :=
  s.hif.held.length + s.hif.fetching.length + s.leafPlaces 0 + s.leafPlaces 1

/-! ### Rings and the link -/

/-- Intake capacity: Table 3-5 at the negotiated rate, times the width over 16 (R64). -/
def intakeCap (speed width : Nat) : Nat :=
  (match speed with
    | 5 => 48000
    | 4 => 24000
    | 3 => 12000
    | 2 => 6094
    | 1 => 3047
    | _ => 0) * width / 16

/-- The link runs at a rate and width (R64). -/
def State.linkRuns (s : State) (speed width : Nat) : State :=
  ((s.wr F.HIF_LINK_STATUS.SPEED speed).wr F.HIF_LINK_STATUS.WIDTH width).wr F.FOL_INTAKE_CAP.CAP_MBS (intakeCap speed width)

/-- Submission rings and host queues are disabled, with what Table 18-2 resets with them; unread entries and held completions
are discarded (R32). DEDUCED (log 154): the record of a set-up that is in progress can no longer be fetched, so the set-up
ends with cause 3. -/
def State.ringsOff (s : State) : State :=
  let s := (List.range 4).foldl (fun s n => (s.clr (F.HIF_SQ_CTL.ENABLE n)).wr (F.HIF_SQ_HEAD.HEAD n) 0) s
  let s := (List.range 2).foldl (fun s q =>
    (((s.clr (F.HIF_HQ_CTL.ENABLE q)).wr (F.HIF_HQ_TAIL.TAIL q) 0).wr (F.HIF_HQ_HEAD.HEAD q) 0).set1
      (F.HIF_HQ_TAIL.PHASE q)) s
  let s := if s.rd F.HIF_SETUP_STATUS.STATE = 1 then (s.wr F.HIF_SETUP_STATUS.STATE 3).wr F.HIF_SETUP_STATUS.CAUSE 3 else s
  { s with hif := { s.hif with held := [], used0 := 0, used1 := 0, modCount := 0 } }

/-- In STORAGE the rings stay disabled, and a link that is up runs at Gen1 x1 (R32, Table 13-1). -/
def State.storageLink (s : State) : State :=
  let s := s.ringsOff
  if s.rd F.HIF_LINK_STATUS.SPEED = 0 then s else s.linkRuns 1 1

/-! ### Re-fetch requests -/

/-- The deadline of a tile row, as seconds and nanoseconds of TB1: SS of slot 4·max(0, t − 16), predicted with
the present slot period, less the margin; none before SS 0 of the leaf (R80). DESIGN CHOICE (log 113): R80 says that the
SS time is predicted from the live slot period and not from which instant; the model counts the slots that are left from
the present TB1 time, as if the last SS fell now. -/
def State.rowDeadline (s : State) (p : Nat) (t : Int) : Option (Nat × Nat) :=
  let slot := s.rdInt F.SLT_SLOT.SLOT
  let st := s.rd F.SLT_STATUS.STATE
  if s.fol.cur = some p && 2 ≤ st && 0 ≤ slot then
    let due : Int := 4 * max 0 (t - 16)
    let ahead : Int := (due - slot) * s.rd F.SLT_PERIOD.T_PRED / 16
    let at_ : Int := s.nowS * 1000000000 + s.nowNs + ahead - s.rd F.FOL_CFG.DEADLINE_MARGIN * 1000
    some ((at_ / 1000000000).toNat, (at_ % 1000000000).toNat)
  else none

/-- A re-fetch request posted to the requests held on die; beyond 64 it is dropped and counted (R42, R43). The
second part of the answer says that it was kept. -/
def State.refetch (s : State) (leaf tag seq reason : Nat) : State × Bool :=
  if s.hif.rfqHeld.length < 64 then
    let r : RefetchReq := ⟨leaf, tag, seq, reason⟩
    ({ s with hif := { s.hif with rfqHeld := s.hif.rfqHeld ++ [r] } }, true)
  else ((s.incSat F.HIF_INTAKE_STATUS.RFQ_DROP).announce 8 20, false)

/-- The row whose deadline a request carries: the lowest incomplete row, or FIRST_TROW when a copy of the block has passed
stage 2 and that row is higher (R80). -/
def requestRow (l : Leaf) (b : Blk) : Int :=
  if b.trusted then max (l.complete + 1) b.firstRow else l.complete + 1

/-- The deadline that a request carries as it is posted, from the present prediction: none for a leaf that holds no place
(R32, R80). -/
def State.requestDeadline (s : State) (r : RefetchReq) : Option (Nat × Nat) :=
  [0, 1].findSome? (fun p => match s.leafAt p with
    | none => none
    | some l =>
      if l.id ≠ r.leaf then none
      else match l.blk r.seq with
        | none => s.rowDeadline p (l.complete + 1)
        | some b => s.rowDeadline p (requestRow l b))

/-! ### Failures -/

/-- FOL_LAST_FAIL (Table of FOL registers). -/
def State.folFail (s : State) (leaf seq cause : Nat) : State :=
  ((s.wr F.FOL_LAST_FAIL.SEQ seq).wr F.FOL_LAST_FAIL.LEAF leaf).wr F.FOL_LAST_FAIL.CAUSE cause

/-- A header, record or tile failure counted. -/
def State.folFormat (s : State) (leaf seq cause : Nat) : State :=
  ((s.set1 F.FOL_ERR.FORMAT).incSat F.FOL_COUNTS.FORMAT).folFail leaf seq cause

/-- Leaf events are announced on vector 2 and source 21 (Tables 2-1 and 15-4). -/
def State.leafEvent (s : State) : State := s.announce 2 21

/-- A leaf's place is freed and its identifier marked ended (R66). Its fetches end: their entries complete
LEAF_ENDED. A RETIRED entry of it that is held takes no advance of another leaf (R41). -/
def State.freePlace (s : State) (p : Nat) : State :=
  match s.leafAt p with
  | none => s
  | some l =>
    let mine := s.hif.fetching.filter (fun e => e.2.1 = p)
    let s := mine.foldl (fun s e => s.completeEntry e.1 e.2.2.tag e.2.2.leaf e.2.2.seq 0x13) s
    let s := { s with
      hif := { s.hif with
        fetching := s.hif.fetching.filter (fun e => e.2.1 ≠ p)
        held := s.hif.held.map (fun c : Completion => if c.retires l.id then { c with merges := false } else c) }
      fol := { s.fol with
        ended := listInsert l.id s.fol.ended
        order := s.fol.order.filter (· ≠ p)
        cur := if s.fol.cur = some p then none else s.fol.cur } }
    (s.setPlace p none).folShow

/-- A leaf refused with a cause: LEAF_REFUSED completes, the stored blocks are discarded and the place is freed
(R63). -/
def State.refuseLeaf (s : State) (p cause : Nat) : State :=
  match s.leafAt p with
  | none => s
  | some l =>
    let b := l.blk 0
    let s := s.wr F.FOL_LEAF_STATUS.REFUSE_CAUSE cause
    let s := s.completeEntry ((b.map Blk.ring).getD 0) ((b.map Blk.subTag).getD 0) l.id 0 0x11
    (s.freePlace p).leafEvent

/-- A block that fails by check value, with its reason for the re-fetch: the copy is rejected and the block is
requested again until REFETCH_LIMIT; a FIRST block with no re-fetch left refuses its leaf (R63, R82). DESIGN CHOICE
(log 114): a block with the poison mark fails by check value under R58 and counts in FOL_COUNTS.CRC_FAIL, and Table 3-9
names FOL_ERR.POISON for it, so FOL_ERR.CRC_FAIL stays as it is. -/
def State.checkFail (s : State) (p : Nat) (l : Leaf) (b : Blk) : State :=
  let poison := b.poison ≠ 0
  let reason := match b.poison with
    | 0 => 1
    | 1 => 3
    | _ => 2
  let s := if poison then (s.set1 F.FOL_ERR.POISON).folFail l.id b.seq 6
    else (s.set1 F.FOL_ERR.CRC_FAIL).folFail l.id b.seq 1
  let s := s.incSat F.FOL_COUNTS.CRC_FAIL
  let rejected := b.data.take (b.data.length - 4)
  if b.refetches < s.rd F.FOL_CFG.REFETCH_LIMIT then
    let (s, kept) := s.refetch l.id b.tag b.seq reason
    s.setLeaf p (l.putBlk { b with
      state := .checkFailed, refetches := b.refetches + 1, outstanding := kept, rejected := rejected })
  else
    let s := s.set1 F.FOL_ERR.REFETCH_EXHAUSTED
    let s := s.setLeaf p (l.putBlk { b with state := .checkFailed, outstanding := false, rejected := rejected })
    if b.first && !l.admitted then s.refuseLeaf p 1 else s

/-! ### Missing rows -/

/-- Rows marked missing in every tile column, with the tile cause of R167. -/
def Leaf.markRows (l : Leaf) (a b : Int) (cause : Nat) : Leaf :=
  let new := (rowsFrom a b).filter (fun r => !l.missing.any (fun m => m.1 = r))
  { l with missing := l.missing ++ new.map (fun r => (r, cause)) }

/-- The rows complete after a block is taken in SEQ order (R60). -/
def completeAfter (h : LeafHdr) (old : Int) (b : Blk) : Int :=
  if b.last then max old (hdrHigh h)
  else max old (if b.continues then b.lastRow - 1 else b.lastRow)

end Sys2Proof.Machine
end

