-- ==== Sys2Proof/Machine/Dose.lean ====
section
/-! DEFINITION. The arithmetic of the density pass, the PEC engine and the dose stage: cell densities and unknown
cells, modulations, pattern dose, beam roles, resampling and gray words (R16, R17, R75, R77, R110 to R114, R121 to
R125, R128, R132, R134). -/
namespace Sys2Proof.Machine

/-! ### Cell densities -/

/-- The pieces of the tile, or of the density-only tile, at a place. -/
def Leaf.piecesAt (l : Leaf) (dens : Bool) (t e : Int) : List Piece :=
  match (if dens then l.dens else l.tiles).find? (fun (g : TileGeo) => g.row = t && g.col = e) with
  | some g => tilePieces g.paths
  | none => []

/-- Every path of the tile, or of the density-only tile, at a place. -/
def Leaf.pathsAt (l : Leaf) (dens : Bool) (t e : Int) : List Path :=
  match (if dens then l.dens else l.tiles).find? (fun (g : TileGeo) => g.row = t && g.col = e) with
  | some g => g.paths
  | none => []

/-- The region of Table 4-4 that is cell (q, p) of its tile. -/
def cellRegion (q p : Int) : Nat := (p % 2).toNat + 2 * (q % 2).toNat

/-- The density of a cell: of its tile's region for the leaf's own cells, and for a halo cell the sum of its
HALO_CELLS values and its DENSITY_POLY areas, limited to 0x2000 (R75, R77, R110). -/
def Leaf.cellDensity (l : Leaf) (h : LeafHdr) (q p : Int) : Nat :=
  let t := q / 2
  let e := p / 2
  if ownTile h t e then densityOf (area16 (l.piecesAt false t e) (cellRegion q p))
  else if inHalo h q p then
    let vals := ((l.halo.filter (fun v => v.1 = q && v.2.1 = p)).map (fun v => v.2.2)).sum
    min 0x2000 (vals + densityOf (area16 (l.piecesAt true t e) (cellRegion q p)))
  else 0

/-- The density row of a cell row: columns −H to 127 + H with their UNKNOWN bits; `badCols` are the tile columns
whose cells the pass cannot know (R110, R111). -/
def Leaf.densityRow (l : Leaf) (h : LeafHdr) (q : Int) (badCols : List Int) : List (Nat × Bool) :=
  (rowsFrom (-(h.halo : Int)) (127 + h.halo)).map (fun p =>
    let e := p / 2
    let unknown := (l.rowMissing (q / 2)).isSome || badCols.contains e
      || l.failed.any (fun f => f.1 = q / 2 && f.2.1 = e)
    (l.cellDensity h q p, unknown))

/-- ρ and UNKNOWN of a cell; outside the leaf and its halo ρ is 0 and known (R75, R113). -/
def Ras.rhoAt (r : Ras) (h : LeafHdr) (q p : Int) : Nat × Bool :=
  match r.rho.find? (·.1 = q) with
  | none => (0, false)
  | some row => if p < -(h.halo : Int) then (0, false) else row.2.getD (p + h.halo).toNat (0, false)

/-! ### Modulations -/

/-- The kernel size and the modulation table entry (R112). -/
def State.pecK (s : State) : Nat := s.rd F.PEC_CFG.K
def State.pecTable (s : State) (i : Nat) : Nat := s.rd (F.PEC_TABLE.ENTRY i)

/-- The kernel places as offsets with their weights: i along the scan, j across the stripe (R112). -/
def State.pecKernel (s : State) : List (Int × Int × Nat) :=
  let k := s.pecK
  let r : Int := ((k - 1) / 2 : Nat)
  (List.range k).flatMap (fun (i : Nat) => (List.range k).map (fun (j : Nat) =>
    ((i : Int) - r, (j : Int) - r, s.rd (F.PEC_KERNEL.WEIGHT (i * k + j)))))

/-- Where a density and check row, a modulation row and a fog node row stand in their rings. DESIGN CHOICE (log 127): the
place of a row in its ring is not given (R110, PEC_RING, R68). -/
def State.talRingAt (s : State) (t : Int) : Nat := s.rd F.TAL_RING.BASE * 4096 + (t % 64).toNat * 8192
def State.pecRingAt (s : State) (q : Int) : Nat := s.rd F.PEC_RING.BASE * 4096 + (q % 128).toNat * 512
def State.fogRingAt (s : State) (g : Nat) : Nat := s.rd F.DOS_FOG_RING.BASE * 4096 + g % 65536 * 32

/-- A table of 14-bit entries interpolated at a 14-bit argument (R113, R122). -/
def tableAt (t : Nat → Nat) (u : Nat) : Nat :=
  let k := u / 8
  let f := u % 8
  if f = 0 then sat14 (t k) else sat14 ((t k : Int) + rshr (((t (k + 1) : Int) - t k) * f) 3)

/-- The modulation of cell (q, p) and whether it is invalid; `poison` names cells, and `lost` cell rows, whose density came
back as poison (R113, R114, Table 8-3). -/
def State.modulation (s : State) (r : Ras) (h : LeafHdr) (poison : List (Int × Int)) (lost : List Int) (q p : Int) :
    Nat × Bool :=
  let cells := s.pecKernel.map (fun w => (r.rhoAt h (q + w.1) (p + w.2.1), w.2.2, (q + w.1, p + w.2.1)))
  let acc : Nat := (cells.map (fun c => c.2.1 * c.1.1)).sum
  (tableAt s.pecTable (rshr (acc : Int) 16).toNat,
    cells.any (fun c => c.1.2 || poison.contains c.2.2 || lost.contains c.2.2.1))

/-- m(q, p) of R122: the modulation of cell (min(q, C), p), or 0x2000 with PEC clear. -/
def Ras.modAt (r : Ras) (h : LeafHdr) (q p : Int) : Nat :=
  if !h.pec then 0x2000
  else match r.mods.find? (fun m => m.1 = min q (hdrC h : Int)) with
    | some row => (row.2.getD (p + 1).toNat (0x2000, true)).1
    | none => 0x2000

/-- Whether a tile needs an invalid modulation (R114). -/
def Ras.pecIncomplete (r : Ras) (h : LeafHdr) (t : Int) (e : Nat) : Bool :=
  h.pec && (rowsFrom (2 * t - 1) (2 * t + 2)).any (fun q =>
    match r.mods.find? (fun m => m.1 = min q (hdrC h : Int)) with
    | some row => ((row.2.drop (2 * e)).take 4).any Prod.snd
    | none => false)

/-! ### Pattern dose -/

/-- The bilinear sum of four corner values, with weights out of `n` (R122). -/
def bilinear (n fx fy a b c d : Int) : Int :=
  a * (n - fx) * (n - fy) + b * fx * (n - fy) + c * (n - fx) * fy + d * fx * fy

/-- mp of R122: the modulation interpolated at a pixel. -/
def Ras.modAtPixel (r : Ras) (h : LeafHdr) (x l : Int) : Int :=
  let p0 := (2 * x + 1 - 64) / 128
  let fx := 2 * x + 1 - 64 - 128 * p0
  let q0 := (2 * l + 1 - 64) / 128
  let fy := 2 * l + 1 - 64 - 128 * q0
  rshr (bilinear 128 fx fy (r.modAt h q0 p0) (r.modAt h q0 (p0 + 1)) (r.modAt h (q0 + 1) p0)
    (r.modAt h (q0 + 1) (p0 + 1))) 14

/-- A fog node (R68). -/
def Leaf.fogNode (l : Leaf) (g j : Nat) : Nat :=
  match l.fog.find? (fun f => f.1 = g) with
  | some row => row.2.getD j 0x2000
  | none => 0x2000

/-- fg of R122: the fog interpolated at a pixel; 0x2000 with FOG clear. -/
def Leaf.fogAtPixel (lf : Leaf) (h : LeafHdr) (x l : Int) : Int :=
  if !h.fog then 0x2000
  else
    let ng := ceilDiv h.lines 1024 + 1
    let ux := (clampInt (2 * x + 1) 0 16384).toNat
    let j0 := min (ux / 2048) 7
    let uy := (clampInt (2 * l + 1) 0 (2048 * ((ng : Int) - 1))).toNat
    let g0 := min (uy / 2048) (ng - 2)
    rshr (bilinear 2048 ((ux : Int) - 2048 * j0) ((uy : Int) - 2048 * g0) (lf.fogNode g0 j0) (lf.fogNode g0 (j0 + 1))
      (lf.fogNode (g0 + 1) j0) (lf.fogNode (g0 + 1) (j0 + 1))) 22

/-- The multiplier of a dose class (R67, DOS_CLASS). -/
def Leaf.classMult (l : Leaf) (k : Nat) : Nat := (l.classes.getD []).getD k 0x2000

/-- The pattern dose d4 of a pixel with a coverage and a class (R122). -/
def State.patternDose (s : State) (lf : Leaf) (h : LeafHdr) (x l : Int) (cov cls : Nat) : Nat :=
  let d1 := tableAt (fun i => s.rd (F.DOS_CT.ENTRY i)) cov
  let d2 := sat14 (rshr (d1 * lf.ras.modAtPixel h x l) 13)
  let d3 := sat14 (rshr (d2 * lf.fogAtPixel h x l) 13)
  sat14 (rshr ((d3 : Int) * lf.classMult cls) 13)

/-! ### Beam tables -/

/-- The entry of the default map of R17 with gain 0x2000 and zero offsets (R128). -/
def bctDefault (k : Nat) : Word :=
  let r := k / 512
  if r < 512 then BitVec.ofNat 64 (0x2000 + r % 16 * 2 ^ 32 + r / 16 * 2 ^ 36 + 2 ^ 41) else BitVec.ofNat 64 0x2000

/-- The fields of a beam-table entry (Table 5-3). -/
def beGain (w : Word) : Nat := w.toNat % 2 ^ 14
def beDx (w : Word) : Int := signed 7 (w.toNat / 2 ^ 16)
def beDy (w : Word) : Int := signed 7 (w.toNat / 2 ^ 24)
def beO (w : Word) : Nat := w.toNat / 2 ^ 32 % 16
def bePhi (w : Word) : Nat := w.toNat / 2 ^ 36 % 32
def beEnable (w : Word) : Bool := w.toNat / 2 ^ 41 % 2 = 1

/-- A bank, and the entry of beam (r, c) in it. -/
def State.bank (s : State) (b : Nat) : Bank := if b = 0 then s.bct.bank0 else s.bct.bank1
def Bank.entry (b : Bank) (r c : Nat) : Word := smGet bctDefault b.entries (512 * r + c)

/-- The pixel-order table: the row of the enabled beam of column `c` with a role (R132). -/
def Bank.rowOf (b : Bank) (c o phi : Nat) : Option Nat :=
  (List.range 528).find? (fun r =>
    let w := b.entry r c
    beEnable w && beO w = o && bePhi w = phi)

/-! ### Gray words -/

/-- The dither threshold of a pixel (R125). -/
def State.dither (s : State) (x l : Int) : Nat :=
  let k := 64 * (l % 64).toNat + (x % 64).toNat
  let w := k / 4
  match k % 4 with
  | 0 => s.rd (F.DOS_DITHER.THR0 w)
  | 1 => s.rd (F.DOS_DITHER.THR1 w)
  | 2 => s.rd (F.DOS_DITHER.THR2 w)
  | _ => s.rd (F.DOS_DITHER.THR3 w)

/-- The gray word of pixel (x, l) from the pattern doses around it, by the beam that writes it (R124, R125). -/
def State.grayWord (s : State) (w : Word) (d4 : Int → Int → Nat) (x l : Int) : Nat :=
  let sx : Int := if beDx w < 0 then -1 else 1
  let sy : Int := if beDy w < 0 then -1 else 1
  let e := fun (u v : Int) => (sat14 (rshr ((d4 u v : Int) * beGain w) 13) : Int)
  let ar := bilinear 64 (beDx w).natAbs (beDy w).natAbs (e x l) (e (x + sx) l) (e x (l + sy)) (e (x + sx) (l + sy))
  sat8 ((rshr ar 12 + s.dither x l) >>> 6)

/-- The gray words of a tile in emit order, from the coverage and class of each window pixel (R120 to R125). A
pixel that no beam writes gets 0; R18 leaves none. -/
def State.tileGrays (s : State) (lf : Leaf) (h : LeafHdr) (b : Bank) (t : Int) (e : Nat) (cov cls : Nat → Nat → Nat) :
    List Nat :=
  let d4 := fun (x l : Int) =>
    let i := (x - (128 * (e : Int) - 1)).toNat
    let j := (l - (128 * t - 1)).toNat
    s.patternDose lf h x l (cov i j) (cls i j)
  (List.range 128).flatMap (fun j => (List.range 128).map (fun i =>
    let x : Int := 128 * e + i
    let l : Int := 128 * t + j
    let c := (x / 16).toNat
    match b.rowOf c (x % 16).toNat (l % 32).toNat with
    | some r => s.grayWord (b.entry r c) d4 x l
    | none => 0))

/-! ### Reserve places -/

/-- The address of byte `q` of granule `g` of engine `e` in the place of global frame `n` (R134). -/
def reserveByte (n e g q : Nat) : Nat := n % 615 * 272384 + (e * 133 + g) * 32 + q

/-- The generation bit of a global frame (R133). -/
def generation (n : Nat) : Nat := n / 615 % 2

end Sys2Proof.Machine
end

