-- ==== Sys2Proof/Machine/PmcOps.lean ====
section
/-! DEFINITION. The shared operations of the performance counters (R365 to R370). -/
namespace Sys2Proof.Machine

/-- Counters whose selection is not at its reset value, or was not before a write of this cycle; no other counter runs. -/
def State.pmcUsed (s : State) : List Nat :=
  s.regs.filterMap (fun e => if 0x230100 ≤ e.1 && e.1 < 0x230300 then some ((e.1 - 0x230100) / 8) else none)
    ++ s.pmc.selWas.filterMap (fun e =>
      if e.2.1 = s.cycle && (s.regs.lookup (0x230100 + 8 * e.1)).isNone then some e.1 else none)

/-- PMC_SELk and PMC_CTL as this cycle counts with them (R370). -/
def State.selNow (s : State) (k : Nat) : Word :=
  match s.pmc.selWas.lookup k with
  | some (c, old) => if c = s.cycle then old else s.reg (F.PMC_SEL.EVENT k).off
  | none => s.reg (F.PMC_SEL.EVENT k).off
def State.ctlNow (s : State) : Word :=
  match s.pmc.ctlWas with
  | some (c, old) => if c = s.cycle then old else s.reg F.PMC_CTL.FREEZE.off
  | none => s.reg F.PMC_CTL.FREEZE.off

/-- A field of PMC_SELk, and a flag of PMC_CTL, as this cycle counts with them: a write takes effect in the next cycle (R370). -/
def State.selRd (s : State) (f : Field) (k : Nat) : Nat := f.get (s.selNow k)
def State.selBit (s : State) (f : Field) (k : Nat) : Bool := s.selRd f k != 0
def State.ctlBit (s : State) (f : Field) : Bool := f.get s.ctlNow != 0

/-- A counter runs: it is enabled and not frozen (R370). -/
def State.pmcRuns (s : State) (k : Nat) : Bool :=
  s.selBit (F.PMC_SEL.ENABLE k) k && !(if s.hostCounter k then s.ctlBit F.PMC_CTL.HOST_FREEZE else s.ctlBit F.PMC_CTL.FREEZE)

/-- A counter counts the carries of the counter below it (R367). -/
def State.pmcChained (s : State) (k : Nat) : Bool := k % 2 = 1 && s.selBit (F.PMC_SEL.CHAIN k) k

/-- `n` more events in a counter's count, and how often it wraps. -/
def State.pmcStep (s : State) (k n : Nat) : State × Nat :=
  let c := s.rd (F.PMC_CTR.COUNT k) + n
  (s.wr (F.PMC_CTR.COUNT k) c, c / 2 ^ 48)

/-- `n` events in a counter: a wrap sets its overflow bit and raises the interrupt, and carries into the counter chained
to it, whose own bit and interrupt do not act (R365, R367). -/
def State.pmcAdd (s : State) (k n : Nat) : State :=
  let (s, w) := s.pmcStep k n
  if w = 0 then s
  else
    let s := s.wr F.PMC_OVF.OVF (s.rd F.PMC_OVF.OVF ||| 2 ^ k)
    let s := if s.selBit (F.PMC_SEL.OVF_IRQ k) k then { s with pmc := { s.pmc with irqs := s.pmc.irqs + 1 } } else s
    if k % 2 = 0 && s.pmcChained (k + 1) && s.pmcRuns (k + 1) then (s.pmcStep (k + 1) w).1 else s

/-- The filters that apply to an event: PRIV, MASTER and RANGE (Table 16-1). -/
def pmcFilters (event : Nat) : Bool × Bool × Bool :=
  if event = 0x10 || event = 0x11 then (true, true, true)
  else if event = 0x12 then (true, true, false)
  else if event = 0x13 then (false, true, false)
  else if 0x20 ≤ event && event ≤ 0x23 then (false, true, true)
  else if event = 0x32 || event = 0x33 then (true, false, true)
  else if event = 0x30 || event = 0x31 || event = 0x34 then (true, false, false)
  else (false, false, false)

/-- Events that have instances (Table 16-1). -/
def pmcHasInst (event : Nat) : Bool :=
  event < 0x10 || (0x20 ≤ event && event < 0x40) || event = 0x42 || event = 0x43

/-- What an event tells the filters: its instance, the master's code, its privilege as a bit of PRIV (none for engines), and
its space-0 address (R366, Table 16-2). -/
structure PmcInfo where
  inst : Nat
  master : Nat
  priv : Option Nat
  addr : Nat
  deriving DecidableEq, Repr

/-- Whether a counter's instance and filters let an event through (R366). A filter that does not apply to the event counts
nothing. -/
def State.pmcTakes (s : State) (k event : Nat) (i : PmcInfo) : Bool :=
  let fl := pmcFilters event
  let priv := s.selRd (F.PMC_SEL.PRIV k) k
  let range := s.selRd (F.PMC_SEL.RANGE k) k
  let inst := !pmcHasInst event || s.selBit (F.PMC_SEL.ALL k) k || s.selRd (F.PMC_SEL.INST k) k = i.inst
  let p := priv = 0 || (fl.1 && (match i.priv with
    | some b => decide (priv / 2 ^ b % 2 = 1)
    | none => false))
  let m := s.selRd (F.PMC_SEL.MASTER k) k = 63 || (fl.2.1 && decide (s.selRd (F.PMC_SEL.MASTER k) k = i.master))
  let r := !s.selBit (F.PMC_SEL.RANGE_EN k) k || (fl.2.2 && decide (s.rd (F.PMC_RANGE_LO.ADDR range) ≤ i.addr)
    && decide (i.addr ≤ s.rd (F.PMC_RANGE_HI.ADDR range)))
  inst && p && m && r

/-- Whether a counter counts an event (R365 to R367). -/
def State.pmcCounts (s : State) (k event : Nat) (i : PmcInfo) : Bool :=
  s.pmcRuns k && !s.selBit (F.PMC_SEL.CHAIN k) k && s.selRd (F.PMC_SEL.EVENT k) k = event && s.pmcTakes k event i

/-- `n` events counted by every counter that takes them (R365). -/
def State.pmcEvent (s : State) (event n : Nat) (i : PmcInfo) : State :=
  if n = 0 then s
  else s.pmcUsed.foldl (fun t k => if s.pmcCounts k event i then t.pmcAdd k n else t) s

/-- An event of an engine, or of none. -/
def engineInfo (inst : Nat) : PmcInfo := ⟨inst, 29, none, 0⟩

/-- Whether every filter that a counter uses applies to its event; one that does not counts nothing (R366). -/
def State.pmcApplies (s : State) (k : Nat) : Bool :=
  let fl := pmcFilters (s.selRd (F.PMC_SEL.EVENT k) k)
  (fl.1 || s.selRd (F.PMC_SEL.PRIV k) k = 0) && (fl.2.1 || s.selRd (F.PMC_SEL.MASTER k) k = 63)
    && (fl.2.2 || !s.selBit (F.PMC_SEL.RANGE_EN k) k)

/-- `n` events of its own in a counter that runs, chains nothing and can take its event (R365 to R367, R370). -/
def State.pmcOwn (s : State) (k n : Nat) : State :=
  if n ≠ 0 && s.pmcRuns k && !s.selBit (F.PMC_SEL.CHAIN k) k && s.selRd (F.PMC_SEL.EVENT k) k ≠ 0 && s.pmcApplies k then s.pmcAdd k n
  else s

/-- Events that arise in cycles of the fabric and of the cores, which no command of the block shows: their number comes with
the commands that read or wrap their counter. -/
def pmcUnseen (event : Nat) : Bool := event = 0x12 || (0x30 ≤ event && event ≤ 0x34)

end Sys2Proof.Machine
end

