-- ==== Sys2Proof/Machine/MemUnits.lean ====
section
/-! DEFINITION. The shared operations of the DDR5 controllers: the address map, ports, errors, granules at a lasting fault, the
pick, and the accesses of the units (R195 to R213). -/
namespace Sys2Proof.Machine

/-- A channel changed. -/
def State.setCh (s : State) (c : Nat) (f : MemCh → MemCh) : State :=
  { s with mem := { s.mem with ch := s.mem.ch.modify c f } }
def State.memCh (s : State) (c : Nat) : MemCh := s.mem.ch.getD c memChNew

/-- The preview set in ascending channel order (R219). -/
def State.previewSet (s : State) : List Nat := (List.range 6).filter (fun c => s.mem.preview.contains c)

/-- The channels outside the preview set, in order. -/
def State.restSet (s : State) : List Nat := (List.range 6).filter (fun c => !s.mem.preview.contains c)

/-- The channels that hold an address, in order. Beside the fitted size of the preview map, which no requester reaches, the model
numbers the bursts of the other three channels in the same way (R196, R202). -/
def State.mapSet (s : State) (a : Nat) : List Nat :=
  if s.bit F.MEM_STATUS.FULL_MAP then List.range 6 else if a < s.fitted then s.previewSet else s.restSet

/-- The channel of a space-0 address under a map of `nch` channels, as an index of the map, and its channel address
(R196). -/
def mapIndex (nch a : Nat) : Nat := a / 256 % nch
def mapAddr (nch a : Nat) : Nat := a / 256 / nch * 256 + a % 256

/-- The space-0 address that a map of `nch` channels gives a channel address of its channel `idx` (R196). -/
def mapBack (nch idx ca : Nat) : Nat := (ca / 256 * nch + idx) * 256 + ca % 256

/-- Six channels under the full map, three under the preview map. -/
def State.mapCount (s : State) : Nat := if s.bit F.MEM_STATUS.FULL_MAP then 6 else 3

/-- The channel that holds a space-0 address, if the map has it. -/
def State.chanOf (s : State) (a : Nat) : Option Nat := (s.mapSet a)[mapIndex s.mapCount a]?

/-- The channel address of a space-0 address. -/
def State.caOf (s : State) (a : Nat) : Nat := mapAddr s.mapCount a % (s.channelGiB * 2 ^ 30)

/-- The subchannel of a space-0 address: bit 6 of its channel address (R196). -/
def State.subOf (s : State) (a : Nat) : Nat := mapAddr s.mapCount a / 64 % 2

/-- The space-0 address of a channel address: of a channel of the map in force, or of one outside the preview set. -/
def State.spaceOf (s : State) (c ca : Nat) : Option Nat :=
  match (s.mapSet 0).findIdx? (· = c) with
  | some i => some (mapBack s.mapCount i ca)
  | none => (s.restSet.findIdx? (· = c)).map (fun i => s.fitted + mapBack s.mapCount i ca)

/-- Bits of a burst's column in a row: pages of 1 KiB, ten column bits of an x8 component and eleven of an x4 one. PRESUMED
(log 130): JESD79-5; R196 gives the order of the fields and the rule gives no widths. -/
def State.columnBits (s : State) : Nat := if s.rd F.MEM_CFG.WIDTH = 0 then 7 else 6

/-- The bank of a channel address, as 32·rank + bank, and its row: above the subchannel bit stand the column, bank group and
bank, rank and row, and bank group and bank are XORed with the low row bits (R196). -/
def State.bankRowAt (s : State) (ca : Nat) : Nat × Nat :=
  let v := ca / 128 / 2 ^ s.columnBits
  let r := if s.bit F.MEM_CFG.RANKS then (v / 32 % 2, v / 64) else (0, v / 32)
  (32 * r.1 + ((v % 32) ^^^ (r.2 % 32)), r.2)

/-- The bank and the row of a space-0 address (R196). -/
def State.bankRow (s : State) (a : Nat) : Nat × Nat := s.bankRowAt (s.caOf a)

/-- The class of a request, by its master of Table 16-2 (Table 8-4). The Keeper and the host, which the table does not name,
count as GENERAL (DESIGN CHOICE, log 132), and so does code 32 of the Lacuna List and the beam-table loader, which Table 16-2
does not list. -/
def masterClass (m : Nat) : Nat :=
  if m < 4 then 1
  else if m = 26 || m = 27 then 3
  else if m = 28 || m = 29 then 0
  else if m = 30 then 4
  else 2

/-- A burst as it is stored: data, S and G of its four words (R197). -/
def State.storedBurst (s : State) (b : Nat) : List Nat :=
  let p := s.ddrPlace b
  let fold := Config.burstFold (s.caOf p) (s.subOf p) % 2 ^ 16
  (s.burstErrs b).zipIdx.map (fun e => storedWord fold (wordBits (memRead s.ddr (p + 16 * e.2) 16)) ^^^ e.1)

/-- A request for the burst of an address joins the port of its channel (R208). -/
def State.portPut (s : State) (c access : Nat) (write : Option (Nat × List Byte)) (core : Option (Nat × Nat)) (master : Nat)
    (user : Bool) : State :=
  let addr := burstOf access
  let br := s.bankRow addr
  s.setCh c (fun m => { m with
    seen := m.seen + 1
    ports := m.ports ++ [⟨masterClass master, addr, write, br.1, br.2, core, false, m.seen, master, user, access⟩] })

/-- Whether a channel is trained. -/
def State.trained (s : State) (c : Nat) : Bool := s.rd F.MEM_STATUS.TRAINED / 2 ^ c % 2 = 1

/-- MEM_STATUS.SELF_REFRESH and DOUBLED of a channel. -/
def State.maskPut (s : State) (f : Field) (c : Nat) (b : Bool) : State :=
  let v := s.rd f
  s.wr f (v - v / 2 ^ c % 2 * 2 ^ c + (if b then 2 ^ c else 0))

/-! ### Errors -/

/-- MEM_LAST_ERR. -/
def State.memLast (s : State) (a word : Nat) (uncorrectable : Bool) (source : Nat) : State :=
  (((s.wr F.MEM_LAST_ERR.ADDR a).wr F.MEM_LAST_ERR.WORD word).wrBit F.MEM_LAST_ERR.UNCORRECTABLE uncorrectable).wr
    F.MEM_LAST_ERR.SOURCE source

/-- The instance of a granule in buckets 4 and 5 (SAF_LASTING). -/
def granule (a : Nat) : Nat := a / 64

/-- A granule has erred: it leads the channel's table of 256, and the granule that leaves the table loses its counts
(R205). -/
def State.granuleErred (s : State) (c a : Nat) : State :=
  let list := a :: (s.memCh c).erred.filter (· ≠ a)
  let s := s.setCh c (fun m => { m with erred := list.take 256 })
  (list.drop 256).foldl (fun s b =>
    ((s.bucketDrop 4 (granule b)).bucketDrop 5 (granule b)).incSat F.MEM_COUNTS.EVICTED) s

/-- The region of the catalogue that holds an address, by its type. -/
def State.regionType (s : State) (a : Nat) : Option Nat :=
  (s.boot.regions.find? (fun r => r.2.2.1 ≤ a && a < r.2.2.1 + r.2.2.2)).map Prod.fst

/-- A page withdrawn from the allocators (R206). The answer is the ACTION of SCR_LAST. -/
def State.pageWithdraw (s : State) (a : Nat) : State × Nat :=
  let page := a / 4096
  let used := fun (i : Nat) => s.bit (F.MEM_WITHDRAWN.VALID i)
  if (List.range 256).any (fun i => used i && s.rd (F.MEM_WITHDRAWN.PAGE i) = page) then (s, 4)
  else match (List.range 256).find? (fun i => !used i) with
    | none => (s.set1 F.MEM_ERR.WITHDRAW_FULL, 5)
    | some i => ((s.set1 (F.MEM_WITHDRAWN.VALID i)).wr (F.MEM_WITHDRAWN.PAGE i) page, 4)

/-- The spare granule of remap entry `i` of a channel, in its top 4 KiB (R206). The places of the spares in it are the model's
(DESIGN CHOICE, log 129). -/
def State.spareOf (s : State) (c i : Nat) : Nat :=
  let ca := s.channelGiB * 2 ^ 30 - 4096 + 64 * i
  (s.spaceOf c ca).getD ca

/-- A granule is served from a spare from now on: the spare takes its bytes, corrected or as poison (R206). -/
def State.remapTo (s : State) (a spare : Nat) : State :=
  let mark := s.burstMarked a
  let bs := s.ddrRead a 64
  ({ s with mem := { s.mem with remaps := (a, spare) :: s.mem.remaps } }).ddrWrite a bs mark

/-- A granule at a lasting fault: remapped to a spare granule, or its page withdrawn, or reported only (R206). A granule that
is served from a spare already takes no second entry (DESIGN CHOICE, log 129). -/
def State.granuleLasting (s : State) (c a : Nat) : State × Nat :=
  let s := (s.set1 F.MEM_ERR.LASTING).incSat F.SCR_COUNTS.LASTING
  match (List.range 16).find? (fun i => !s.bit (F.MEM_CH_REMAP.VALID c i) && s.ddrPlace a = a) with
  | some i =>
    let s := (s.set1 (F.MEM_CH_REMAP.VALID c i)).wr (F.MEM_CH_REMAP.ADDR c i) (a / 64)
    ((s.wr (F.MEM_CH_STATUS.REMAPS c) (i + 1)).remapTo a (s.spareOf c i), 3)
  | none =>
    match s.regionType a with
    | some 1 => s.pageWithdraw a
    | some 2 => s.pageWithdraw a
    | _ => (s.set1 F.MEM_ERR.REMAP_EXHAUSTED, 5)

/-- A MEM_ERROR record (Table 15-8). -/
def State.memRecord (s : State) (a source action : Nat) : State :=
  s.aclLog 0x0401 (leBytes 5 a ++ leBytes 1 source ++ leBytes 1 action)

/-- A request that writes back a corrected burst: a read-modify-write of class SCRUB that changes no byte (R201, R203). -/
def MemReq.writesBack (r : MemReq) : Bool := r.master = 30 && r.write = some (0, [])

/-- Whether the write-back of a corrected burst is scheduled, or waits in its channel. -/
def State.backWaits (s : State) (c a : Nat) : Bool :=
  s.mem.writeBack.contains a
    || ((s.memCh c).ports ++ (s.memCh c).queue).any (fun (r : MemReq) => r.addr = a && r.writesBack)

/-- A burst with corrected words: counted, and once in its granule's bucket; the write-back of a demand read or of the walk is
scheduled. A burst whose write-back is still to come has been counted (R198, R203, R205). -/
def State.burstCorrected (s : State) (c a words word source : Nat) : State :=
  let waits := s.backWaits c a
  let s := ((s.set1 F.MEM_ERR.CORRECTED).addSat F.MEM_COUNTS.CORRECTED words).memLast a word false source
  if waits then s
  else
    let s := s.granuleErred c a
    let s := if source = 3 then s else { s with mem := { s.mem with writeBack := s.mem.writeBack ++ [a] } }
    let (s, beyond) := s.bucket 4 (granule a)
    if beyond then
      let (s, action) := s.granuleLasting c a
      s.memRecord a source action
    else s

/-- Poison in a stored block that has not been consumed: the block fails by check value, with reason SCRUB_POISON (R82, R204,
Table 3-9). The second part of the answer says that a re-fetch was posted. -/
def State.storePoison (s : State) (block : Option (Fin 2 × Nat)) : State × Bool :=
  match block with
  | none => (s, false)
  | some (p, seq) =>
    match s.leafAt p with
    | none => (s, false)
    | some l =>
      match l.blk seq with
      | none => (s, false)
      | some b =>
        if seq < l.nextSeq || !(b.state = .stored || b.state = .good) then (s, false)
        else
          let t := s.checkFail p l { b with poison := 2 }
          (t, decide (s.hif.rfqHeld.length < t.hif.rfqHeld.length))

/-- An uncorrectable burst: poison is written back, and the four steps of R204 follow; words that were corrected beside the
uncorrectable one count (R198, R200, R204 to R206). -/
def State.burstLost (s : State) (c a word fixed source : Nat) (block : Option (Fin 2 × Nat)) : State :=
  let s := (s.burstPoison a).whenD (decide (0 < fixed)) (fun s =>
    (s.set1 F.MEM_ERR.CORRECTED).addSat F.MEM_COUNTS.CORRECTED fixed)
  let s := ((s.set1 F.MEM_ERR.UNCORRECTABLE).incSat F.MEM_COUNTS.UNCORRECTABLE).memLast a word true source
  let walk := source = 2
  let s := if walk then (s.set1 F.SCR_ERR.UNCORRECTABLE).incSat F.SCR_COUNTS.UNCORRECTABLE else s
  let (s, posted) := s.storePoison block
  let s := if posted then (s.set1 F.SCR_ERR.REFETCH).incSat F.SCR_COUNTS.REFETCH else s
  let s := s.granuleErred c a
  let (s, beyond) := s.bucket 5 (granule a)
  let (s, action) := if beyond then s.granuleLasting c a else (s, if posted then 1 else 2)
  let s := if walk then (s.wr F.SCR_LAST.ADDR a).wr F.SCR_LAST.ACTION action else s
  s.memRecord a source action

/-- A burst is read: what its words hold decides (R198 to R200, R203, R204). -/
def State.burstTake (s : State) (c a source : Nat) (block : Option (Fin 2 × Nat)) : State :=
  match s.burstRead a with
  | .good => s
  | .poison => s.burstPoison a
  | .corrected n w => s.burstCorrected c a n w source
  | .bad w n => s.burstLost c a w n source block

/-- The bursts of a range that a unit other than the channel's own queue reads (R204). -/
def State.rangeTake (s : State) (bursts : List Nat) (source : Nat) : State :=
  if s.ddrErr = [] then s
  else bursts.foldl (fun s b => match s.chanOf b with
    | some c => s.burstTake c b source none
    | none => s) s

/-! ### The pick -/

/-- The bursts that a window serves as URGENT: SHARE per cent of 800 bursts a microsecond (R211). -/
def State.urgentCap (s : State) : Nat := s.rd F.MEM_URGENT.SHARE * s.rd F.MEM_URGENT.WINDOW * 8

/-- The rank of a request in the pick: 0 URGENT while the cap allows, else 1 and the class (Table 8-4, R211). -/
def State.reqRank (s : State) (c : Nat) (r : MemReq) : Nat :=
  if r.urgent && (s.memCh c).urgent < s.urgentCap then 0 else 1 + r.cls

/-- The oldest request of a list. -/
def oldest : List MemReq → Option MemReq
  | [] => none
  | r :: rs =>
    match oldest rs with
    | none => some r
    | some o => if r.age ≤ o.age then some r else some o

/-- The smallest number of a list. -/
def leastNat : List Nat → Option Nat
  | [] => none
  | x :: xs =>
    match leastNat xs with
    | none => some x
    | some y => some (min x y)

/-- Whether the row of a request is open in its bank. -/
def MemCh.rowHit (m : MemCh) (sub : Nat) (r : MemReq) : Bool := smGet (fun _ => 0) m.rows (2 * r.bank + sub) = r.row + 1

/-- The rotating pick: the next bank after the pointer that holds a request of the highest class (R209). -/
def MemCh.pickNative (m : MemCh) (sub : Nat) (rs : List MemReq) : Option MemReq :=
  let ptr := if sub = 0 then m.point0 else m.point1
  let dist := fun (r : MemReq) => (r.bank + 64 - ptr - 1) % 64
  match leastNat (rs.map dist) with
  | none => none
  | some d => oldest (rs.filter (fun r => dist r = d))

/-- The legacy pick: row hits before misses, at most 16 in one bank while an older request waits (R210). -/
def MemCh.pickLegacy (m : MemCh) (sub : Nat) (rs : List MemReq) : Option MemReq :=
  let run := if sub = 0 then m.hits0 else m.hits1
  let free := fun (r : MemReq) => r.bank ≠ run.1 || run.2 < 16 || rs.all (fun o => r.age ≤ o.age)
  match oldest (rs.filter (fun r => m.rowHit sub r && free r)) with
  | some r => some r
  | none => oldest rs

/-- Debt units that a refresh repays, and the cap (R213). -/
def State.refreshUnits (s : State) (c : Nat) : Nat := if s.bit (F.MEM_CH_STATUS.DOUBLED c) then 1 else 2
def State.refreshCap (s : State) (c : Nat) : Nat := if s.bit (F.MEM_CH_STATUS.DOUBLED c) then 4 else 8

/-- Whether refreshes go ahead of all reads in a subchannel (R213). -/
def State.refreshFirst (s : State) (c sub : Nat) : Bool :=
  [0, 1].any (fun rank => s.refreshCap c < (s.memCh c).debt.getD (2 * rank + sub) 0)

/-- Whether a request reads: a read, or a write narrower than a burst (R201). -/
def MemReq.reads (r : MemReq) : Bool := match r.write with
  | none => true
  | some w => w.2.length < 64

/-- The request that a subchannel serves at a command slot (R208 to R211, R213). -/
def State.memPick (s : State) (c sub : Nat) : Option MemReq :=
  let m := s.memCh c
  let first := s.refreshFirst c sub
  let rs := m.queue.filter (fun r => s.subOf r.addr = sub && !(first && r.reads))
  match leastNat (rs.map (s.reqRank c)) with
  | none => none
  | some k =>
    let top := rs.filter (fun r => s.reqRank c r = k)
    if s.bit F.MEM_CFG.PICK then m.pickLegacy sub top else m.pickNative sub top

/-- What a request tells the counters' filters (R366, Table 16-2). -/
def MemReq.info (r : MemReq) (c : Nat) : PmcInfo :=
  let priv := if r.core.isSome then some (if r.user then 2 else 1) else if r.master = 24 then some 0
    else if r.master = 31 then some 3 else none
  ⟨c, r.master, priv, r.access⟩

/-- The events of a served request: an activate or a row hit, and a read or a write burst (Table 16-1). -/
def State.pmcServed (s : State) (c : Nat) (hit : Bool) (r : MemReq) : State :=
  (s.pmcEvent (if hit then 0x23 else 0x20) 1 (r.info c)).pmcEvent (if r.write.isSome then 0x22 else 0x21) 1 (r.info c)

/-- The pick's own state after a request is served (R209 to R211). -/
def State.memServed (s : State) (c sub : Nat) (r : MemReq) : State :=
  let m := s.memCh c
  let hit := m.rowHit sub r
  let waits := m.queue.any (fun o => s.subOf o.addr = sub && s.reqRank c o = s.reqRank c r && o.age < r.age)
  let run := if sub = 0 then m.hits0 else m.hits1
  let run := if hit && waits then (if run.1 = r.bank then (r.bank, run.2 + 1) else (r.bank, 1)) else (r.bank, 0)
  let asUrgent := s.reqRank c r = 0
  let s := s.pmcServed c hit r
  let s := s.setCh c (fun m => { m with
    queue := m.queue.filter (· ≠ r)
    rows := smSet (fun _ => 0) m.rows (2 * r.bank + sub) (r.row + 1)
    point0 := if sub = 0 then r.bank else m.point0
    point1 := if sub = 0 then m.point1 else r.bank
    hits0 := if sub = 0 then run else m.hits0
    hits1 := if sub = 0 then m.hits1 else run
    urgent := if asUrgent then m.urgent + 1 else m.urgent })
  if asUrgent && (s.memCh c).urgent = s.urgentCap then s.incSat F.MEM_COUNTS.CAPPED else s

/-- MEM_CHc_STATUS.DEBT. -/
def State.debtShow (s : State) (c : Nat) : State :=
  s.wr (F.MEM_CH_STATUS.DEBT c) (min 8 ((s.memCh c).debt.foldl max 0))

/-- A Docent's access ends in a bus-error exception (R196, R200). -/
def State.busError (s : State) (core : Option (Nat × Nat)) : State :=
  match core with
  | none => s
  | some (k, kind) => { s with docTrap := some (k, kind + 4) }

/-! ### Accesses of the units -/

/-- A request is admitted to its bank queue: the fabric's events of Table 16-1 (R208, R365). -/
def State.pmcAdmitted (s : State) (c : Nat) (r : MemReq) : State :=
  let n := match r.write with
    | some w => w.2.length
    | none => 64
  (s.pmcEvent 0x10 1 (r.info c)).pmcEvent 0x11 n (r.info c)

/-- A unit's request for a burst is presented at the port of its channel, admitted and served. DESIGN CHOICE (log 133): a
unit's command stands for the completion of its accesses, so that its requests pass port, queue and pick within the command,
in the order of the burst addresses (R208). -/
def State.unitRequest (s : State) (master : Nat) (write : Option (Nat × List Byte)) (access : Nat) : State :=
  match s.chanOf access with
  | none => s
  | some c =>
    let s := s.portPut c access write none master false
    match (s.memCh c).ports.getLast? with
    | none => s
    | some r =>
      let s := s.pmcAdmitted c r
      (s.setCh c (fun m => { m with ports := m.ports.dropLast, queue := m.queue ++ [r] })).memServed c (s.subOf access) r

/-- The part of a write that falls in a burst: its offset there, and its bytes. -/
def burstPart (a : Nat) (bs : List Byte) (b : Nat) : Nat × List Byte := (max a b - b, (bs.drop (max a b - a)).take (b + 64 - max a b))

/-- A unit reads a range of DDR5: its requests are served, and each burst is decoded with what R198 to R204 make of it. The
data are those that State.ddrRead gives. -/
def State.unitRead (s : State) (master a n source : Nat) : State :=
  ((burstsOf a n).foldl (fun s b => s.unitRequest master none (max a b)) s).rangeTake (burstsOf a n) source

/-- A unit writes a range of DDR5: whole bursts afresh, and its first and last burst, where they are narrower, as
read-modify-writes. A burst that is poison takes no byte (R201). -/
def State.unitWrite (s : State) (master a : Nat) (bs : List Byte) (mark : Bool) : State :=
  let n := bs.length
  let s := (burstsOf a n).foldl (fun s b => s.unitRequest master (some (burstPart a bs b)) (max a b)) s
  let s := s.rangeTake ((burstsOf a n).filter (fun b => !wholeBurst a n b)) 3
  (s.whenD (0 < s.ddrUnmerged a n) (fun s => s.set1 F.MEM_ERR.RMW_POISON)).ddrWrite a bs mark

/-- A unit writes in a space of Table 2-9. -/
def State.unitPut (s : State) (master space a : Nat) (bs : List Byte) (mark : Bool) : State :=
  if space = 0 then s.unitWrite master a bs mark else s.spaceWrite space a bs mark

/-- Whether `n` bytes at an address lie in a space (R47, R196). -/
def State.spaceHas (s : State) (space : Nat) (a : Int) (n : Nat) : Bool :=
  let lim : Nat := match space with
    | 0 => s.fitted
    | 1 => 2 ^ 64
    | _ => 2 ^ 22
  0 ≤ a && a.toNat + n ≤ lim

end Sys2Proof.Machine
end

