-- ==== Sys2Proof/Machine/TwinOps.lean ====
section
/-! DEFINITION. The shared operations of a pair: messages to the twin, authority and digests (R268 to R283). -/
namespace Sys2Proof.Machine

/-- Pair states of Table 12-1. -/
def State.pairState (s : State) : Nat := s.rd F.TWN_STATUS.STATE

/-- PAIRED_STANDBY and PAIRED_AUTH. -/
def State.paired (s : State) : Bool := s.pairState = 3 || s.pairState = 4

/-- The device holds authority: it drives TWIN_AUTH high (R270, R274). -/
def State.hasAuth (s : State) : Bool := s.bit F.TWN_STATUS.AUTH

/-- The digest of a tile (R281). -/
def tileDigest (leaf : Nat) (row : Int) (col : Nat) (grays : List Nat) : Nat :=
  crc32c (leBytes 2 leaf ++ leBytes 4 (unsigned 32 row) ++ leBytes 1 col ++ grays.map (BitVec.ofNat 8))

/-- A device of a pair sends the DIGEST of a tile on the lane of its wing; a DIVERGED standby sends STATUS 13 (R281,
R283). -/
def State.sendDigest (s : State) (leaf : Nat) (row : Int) (col status value : Nat) : State :=
  if !s.bit F.TWN_CFG.MODE then s else
  let st := if s.bit F.TWN_STATUS.DIVERGED || s.twn.divergeLeaf = some leaf then 13 else status
  s.iklSend (1 + col / 16) 0x20 (leBytes 2 leaf ++ leBytes 4 (unsigned 32 row) ++ leBytes 1 col ++ leBytes 1 st
    ++ leBytes 4 (if st = 0 then value else 0)) []

/-- The twin's DIGEST for a tile, if one has come. -/
def State.peerDigest (s : State) (leaf : Nat) (row : Int) (col : Nat) : Option TwinDigest :=
  s.twn.digests.find? (fun d => d.leaf = leaf && d.row = row && d.col = col)

/-- Twin events are announced on vector 6 and source 26 (Tables 2-1 and 15-4). -/
def State.twinEvent (s : State) : State := s.announce 6 26

/-- A TWIN record: its kind, with the leaf in progress and the slot of the last release decision (Table 15-8). -/
def State.twinRecord (s : State) (kind : Nat) : State :=
  s.aclLog 0x0601 (leBytes 2 kind ++ leBytes 2 (s.rd F.SLT_SLOT.LEAF) ++ leBytes 4 (unsigned 32 s.slt.decided))

/-- The standby becomes DIVERGED (R283, R284): every DIGEST from now on carries STATUS 13. -/
def State.diverge (s : State) : State :=
  if s.bit F.TWN_STATUS.DIVERGED then s
  else (((s.set1 F.TWN_STATUS.DIVERGED).set1 F.TWN_ERR.DIVERGED).incSat F.TWN_COUNTS.DIVERGED).twinRecord 6

/-- Once both results of a mirrored commit are known they are compared, and both are used up; a difference makes the standby
run that leaf DIVERGED, at once where the leaf is armed or runs (R284). -/
def State.commitCompare (s : State) : State :=
  match s.twn.ownResult, s.twn.peerResult with
  | some a, some b =>
    if a.1 ≠ b.1 then s
    else
      let s := { s with twn := { s.twn with mirroring := none, ownResult := none, peerResult := none } }
      if a = b then s
      else
        let s := s.set1 F.TWN_ERR.COMMIT_DIFFER
        if s.pairState ≠ 3 then s
        else if s.curLeaf.any (fun c => c.2.1.id = a.1) then s.diverge
        else { s with twn := { s.twn with divergeLeaf := some a.1 } }
  | _, _ => s

end Sys2Proof.Machine
end

