-- ==== Sys2Proof/Machine/RasterOps.lean ====
section
/-! DEFINITION. The shared operations over tiles: a tile's record, its failure, and what the raster registers show
(R101 to R106, R126, R127). -/
namespace Sys2Proof.Machine

/-- A tile that has just been started or reported. -/
def tileNew (t : Int) (e : Nat) : TileSt := ⟨t, e, .edge, [], [], false, false, false, 0, none, 0, false⟩

/-- The tile record at a place. -/
def Ras.tileAt (r : Ras) (t : Int) (e : Nat) : Option TileSt :=
  r.tiles.find? (fun (k : TileSt) => k.row = t && k.col = e)

/-- A tile record added or replaced. -/
def Ras.putTile (r : Ras) (k : TileSt) : Ras :=
  if r.tiles.any (fun (x : TileSt) => x.row = k.row && x.col = k.col) then
    { r with tiles := r.tiles.map (fun (x : TileSt) => if x.row = k.row && x.col = k.col then k else x) }
  else { r with tiles := k :: r.tiles }

/-- The raster record of the leaf in a place changed. -/
def State.setRas (s : State) (p : Nat) (f : Ras → Ras) : State :=
  match s.leafAt p with
  | none => s
  | some l => s.setLeaf p { l with ras := f l.ras }

/-- A tile that meets R140 but for the twin. -/
def TileSt.verified (k : TileSt) : Bool := k.cause = 0 && k.tally && k.compared && k.scattered

/-- Whether a tile of the leaf in a place is verified. -/
def State.tileOk (s : State) (p : Nat) (t : Int) (e : Nat) : Bool :=
  match s.leafAt p with
  | none => false
  | some l => (l.ras.tileAt t e).any TileSt.verified

/-- A tile of the leaf in a place put; one that is now verified counts as TILE_OK (Table 16-1). -/
def State.putTile (s : State) (p : Nat) (k : TileSt) : State :=
  let was := s.tileOk p k.row k.col
  let s := s.setRas p (fun r => r.putTile k)
  if k.verified && !was then s.pmcEvent 0x42 1 (engineInfo k.col) else s

/-- One tile cause flagged and counted (R103, Tables 4-3 and 5-2). -/
def State.countCause (s : State) (e c : Nat) : State :=
  match c with
  | 1 => s.set1 F.RAS_ERR.POISON
  | 2 => (s.set1 F.RAS_ERR.ECC).incSat (F.RAS_E_ECC.UNCORRECTED e)
  | 3 => (s.set1 F.RAS_ERR.FILL).incSat F.RAS_COUNTS.FILL
  | 4 => ((s.set1 F.TAL_ERR.MISMATCH).incSat F.TAL_COUNTS.MISMATCH).bucketReport 10 e
  | 5 => (s.set1 F.TAL_ERR.FLATTEN).incSat F.TAL_COUNTS.FLATTEN
  | 6 => s.set1 F.RAS_ERR.DENSITY_POISON
  | 7 => (s.set1 F.RAS_ERR.PEC_INCOMPLETE).incSat F.RAS_COUNTS.PEC_INCOMPLETE
  | 8 => (s.set1 F.RAS_ERR.LATE).incSat F.RAS_COUNTS.LATE
  | 9 => ((s.set1 F.DOS_ERR.COMPARE).incSat F.DOS_COUNTS.COMPARE).bucketReport 11 e
  | 10 => (s.set1 F.DOS_ERR.ECC).incSat F.DOS_COUNTS.UNCORRECTED
  | _ => s

/-- The lowest of a list of tile causes. -/
def lowestCause : List Nat → Nat
  | [] => 0
  | c :: cs => cs.foldl min c

/-- A tile fails: it leaves its engine, the lowest code is reported, every cause is counted, and its DIGEST carries
the cause (R103, R281). A tile that has failed before keeps the lower code. -/
def State.tileFail (s : State) (p : Nat) (t : Int) (e : Nat) (causes : List Nat) : State :=
  match s.leafAt p with
  | none => s
  | some l =>
    let c := lowestCause causes
    let s := causes.foldl (fun s c => s.countCause e c) s
    match l.ras.tileAt t e with
    | some k =>
      if k.cause ≠ 0 then s.putTile p { k with cause := min k.cause c } else fresh s l k c
    | none => fresh s l (tileNew t e) c
where
  /-- The first failure of a tile. -/
  fresh (s : State) (l : Leaf) (k : TileSt) (c : Nat) : State :=
    let s := (s.incSat F.RAS_COUNTS.FAILED).pmcEvent 0x43 1 (engineInfo k.col)
    let s := ((s.wrInt F.RAS_LAST_FAIL.TROW k.row).wr F.RAS_LAST_FAIL.TCOL k.col).wr F.RAS_LAST_FAIL.CAUSE c
    let s := s.putTile p { k with phase := .out, grays := [], cause := c, digest := some (c, 0) }
    s.sendDigest l.id k.row k.col c 0

/-- A verified tile whose digest differs from the twin's, or whose twin's digest is late, is suspect (R282). -/
def State.suspectTile (s : State) (p leaf : Nat) (k : TileSt) : State :=
  let s := ((s.putTile p { k with suspect := true }).set1 F.TWN_ERR.DIGEST_MISMATCH).incSat F.TWN_COUNTS.MISMATCH
  ((s.wrInt F.TWN_LAST_MISMATCH.TROW k.row).wr F.TWN_LAST_MISMATCH.TCOL k.col).wr F.TWN_LAST_MISMATCH.LEAF leaf

/-- A verified tile held against the twin's DIGEST once both are known, in a PAIRED state (R282). -/
def State.digestJudge (s : State) (p leaf : Nat) (k : TileSt) : State :=
  if !s.paired || k.suspect || k.cause ≠ 0 then s
  else match s.peerDigest leaf k.row k.col, k.digest with
    | some d, some own => if d.status = 0 && d.value ≠ own.2 then s.suspectTile p leaf k else s
    | _, _ => s

/-- DOS_LAST_FAIL (R126). -/
def State.dosLast (s : State) (t : Int) (e i j cause : Nat) : State :=
  ((((s.wrInt F.DOS_LAST_FAIL.TROW t).wr F.DOS_LAST_FAIL.TCOL e).wr F.DOS_LAST_FAIL.I i).wr F.DOS_LAST_FAIL.J j).wr
    F.DOS_LAST_FAIL.CAUSE cause

/-- Single-bit corrections of an accumulation buffer counted, each in its engine's bucket (R101, Table 14-6). -/
def State.rasCorrected (s : State) (e n : Nat) : State :=
  (List.range n).foldl (fun s _ => s.bucketReport 8 e) (s.addSat (F.RAS_E_ECC.CORRECTED e) n)

/-- Single-bit corrections of a dose slice (R127, R132, Table 14-6). -/
def State.dosCorrected (s : State) (e n : Nat) : State :=
  (List.range n).foldl (fun s _ => s.bucketReport 9 e) (s.addSat F.DOS_COUNTS.CORRECTED n)

/-- The tiles of both places that pass a test, with their place. -/
def State.tilesWhere (s : State) (ok : TileSt → Bool) : List (Nat × TileSt) :=
  [0, 1].flatMap (fun p => match s.leafAt p with
    | none => []
    | some l => (l.ras.tiles.filter ok).map (fun k => (p, k)))

/-- Of tiles with their place, the one that an engine took first: of the leaf first in the order of admission, its
lowest row. -/
def State.firstTile (s : State) (ks : List (Nat × TileSt)) : Option (Nat × TileSt) :=
  s.fol.order.findSome? (fun p =>
    match lowestRow ((ks.filter (fun k => k.1 = p)).map (fun k => (k.2.row, 0))) with
    | none => none
    | some r => ks.find? (fun k => k.1 = p && k.2.row = r.1))

/-- What an engine's STATE and TROW show (RAS_En_STATUS, RAS_En_TROW). -/
def State.engineShow (s : State) (e : Nat) : State :=
  let held := s.tilesWhere (fun k => k.col = e && (k.phase = .edge || k.phase = .sweep))
  let edge := held.any (fun k => k.2.phase = .edge)
  let swept := held.filter (fun k => k.2.phase = .sweep)
  let s := s.wr (F.RAS_E_STATUS.STATE e) ((if edge then 1 else 0) + (if swept.isEmpty then 0 else 2))
  match s.firstTile swept with
  | some k => s.wrInt (F.RAS_E_TROW.TROW e) k.2.row
  | none => s

/-- The lowest tile row with a verdict pending, and the lowest tile row in any slice, with its leaf, bank and dose
classes (TAL_STATUS, DOS_STATUS, DOS_CLASS). DESIGN CHOICE (log 165): with no tile in any slice they keep what they showed. -/
def State.rasShow (s : State) : State :=
  let open_ := s.tilesWhere (fun k => k.cause = 0 && !k.tally)
  let s := match s.firstTile open_ with
    | some k => s.wrInt F.TAL_STATUS.CHECK_TROW k.2.row
    | none => s
  match s.firstTile (s.tilesWhere (fun k => k.phase = .sweep || (k.phase = .swept && !k.scattered))) with
  | none => s
  | some k =>
    match s.leafAt k.1 with
    | none => s
    | some l =>
      let s := ((s.wrInt F.DOS_STATUS.TROW k.2.row).wr F.DOS_STATUS.LEAF l.id).wr F.DOS_STATUS.BANK (l.ras.bank.getD 0)
      (List.range 16).foldl (fun s i => s.wr (F.DOS_CLASS.MULT i) (l.classMult i)) s

end Sys2Proof.Machine
end

