-- ==== Sys2Proof/Machine/BeamTable.lean ====
section
/-! DEFINITION. Beam-table commits: loading, checks, binding to leaves (R7, R18, R29, R128 to R132, R284). -/
namespace Sys2Proof.Machine

/-- The staging buffer: its DDR5 address and its length (R128). -/
def State.stageBase (s : State) : Nat := s.rd F.BCT_STAGE.BASE * 2 ^ 22
def stageLen : Nat := 2162688

/-- Entry `k` of the staging buffer. -/
def State.stageEntry (s : State) (k : Nat) : Word := BitVec.ofNat 64 (leNat (s.ddrRead (s.stageBase + 8 * k) 8))

/-- A reserved bit of an entry is set (Table 5-3). -/
def beReserved (w : Word) : Bool := w &&& 0xFFFFFC008080C000#64 ≠ 0

/-- An enabled beam of an active row holds another role than its default (R17, R129). -/
def beWrongRole (k : Nat) (w : Word) : Bool :=
  let r := k / 512
  beEnable w && r < 512 && !(beO w = r % 16 && bePhi w = r / 16)

/-- An enabled beam holds an offset outside −32 to +32 (R7). -/
def beWrongOffset (w : Word) : Bool :=
  beEnable w && !((-32) ≤ beDx w && beDx w ≤ 32 && (-32) ≤ beDy w && beDy w ≤ 32)

/-- An enabled beam holds a gain outside its limits (R129). -/
def State.beWrongGain (s : State) (w : Word) : Bool :=
  beEnable w && !(s.rd F.BCT_LIMITS.GAIN_MIN ≤ beGain w && beGain w ≤ s.rd F.BCT_LIMITS.GAIN_MAX)

/-- The roles of the enabled beams of a column. -/
def columnPairs (entry : Nat → Word) (c : Nat) : List (Nat × Nat) :=
  (List.range 528).filterMap (fun r =>
    let w := entry (512 * r + c)
    if beEnable w then some (beO w, bePhi w) else none)

/-- A column holds every pair exactly once (R18). -/
def columnValid (entry : Nat → Word) (c : Nat) : Bool :=
  let ps := columnPairs entry c
  ps.length = 512 && decide ps.Nodup

/-- The first entry, in table order, that fails a test. -/
def firstEntry (bad : Nat → Bool) : Option Nat := (List.range 270336).find? bad

/-- The first column that fails a ROLE check: a beam of it holds another role than its default, or it breaks R18 (R129,
BCT_STATUS.COLUMN). -/
def roleColumn (entry : Nat → Word) : Option Nat :=
  (List.range 512).find? (fun c =>
    (List.range 512).any (fun r => beWrongRole (512 * r + c) (entry (512 * r + c))) || !columnValid entry c)

/-- The cause for which a table is refused, with the column and the row that the status names; `none` where it
passes (R129). DESIGN CHOICE (log 164): where a column only breaks R18, no one beam row is at fault, and ROW shows 0. -/
def State.commitCheck (s : State) (crc : Nat) : Option (Nat × Nat × Nat) :=
  let entry := s.stageEntry
  if s.ddrPoisoned s.stageBase stageLen || crc32c (s.ddrRead s.stageBase stageLen) ≠ crc then some (1, 0, 0)
  else if (firstEntry (fun k => beReserved (entry k))).isSome then some (2, 0, 0)
  else match roleColumn entry with
    | some c => some (3, c, ((firstEntry (fun k => beWrongRole k (entry k))).getD 0) / 512)
    | none => match firstEntry (fun k => beWrongOffset (entry k)) with
      | some k => some (4, 0, k / 512)
      | none => match firstEntry (fun k => s.beWrongGain (entry k)) with
        | some k => some (5, 0, k / 512)
        | none => none

/-- BCT_STATUS changes: its fields, and source 24 (Table 15-4). -/
def State.bctStatus (s : State) (st cause column row : Nat) : State :=
  ((((s.wr F.BCT_STATUS.STATE st).wr F.BCT_STATUS.CAUSE cause).wr F.BCT_STATUS.COLUMN column).wr F.BCT_STATUS.ROW
    row).source 24

/-- The CRC of each bank's table (BCT_BANKb); IN_USE is computed as it is read. -/
def State.bankShow (s : State) : State :=
  [0, 1].foldl (fun s b => s.wr (F.BCT_BANK.CRC b) (s.bank b).crc) s

/-- A leaf in a place bound to a bank (R130). -/
def State.bind (s : State) (p b : Nat) : State :=
  match s.leafAt p with
  | none => s
  | some l =>
    let s := s.setRas p (fun r => { r with bank := some b })
    let s := s.wr (F.BCT_BANK.LEAF b) l.id
    { s with bct := { s.bct with last := b } }

/-- No accepted table waits for a leaf. -/
def State.acceptedDrop (s : State) (leaf : Nat) : State :=
  { s with bct := { s.bct with accepted := s.bct.accepted.filter (fun a => a.1 ≠ leaf) } }

/-- A leaf that has just been admitted is bound: to the bank of an accepted table for it, else to the bank of the
leaf before it; while a commit for it is not resolved it waits, and so do leaves behind it (R130, R131). -/
def State.bindNext (s : State) : State :=
  s.fol.order.foldl (fun s p => match s.leafAt p with
    | none => s
    | some l =>
      if l.ras.bank.isSome then s
      else if s.bct.commit.any (fun c => c.leaf = l.id) then s
      else if s.fol.order.any (fun q => q ≠ p && s.fol.order.idxOf q < s.fol.order.idxOf p &&
          (match s.leafAt q with
            | some o => o.ras.bank.isNone
            | none => false)) then s
      else match s.bct.accepted.find? (fun a => a.1 = l.id) with
        | some a => (s.acceptedDrop l.id).bind p a.2
        | none => s.bind p s.bct.last) s

/-- The result of a commit: the COMMIT record, the Keeper's notice for a COMMIT_TABLE request that waits for it, and
COMMIT_RESULT to the twin of a pair (R284, R346, R347, Table 15-8). -/
def State.commitResult (s : State) (leaf cause b : Nat) : State :=
  let crc := (s.bank b).crc
  let s := s.aclLog 0x0602 (leBytes 2 leaf ++ leBytes 1 cause ++ leBytes 1 b ++ leBytes 4 crc)
  let s := match s.kpr.commitTag with
    | some tag =>
      { s with kpr := { s.kpr with commitTag := none } }.notice 1 (if cause = 0 then 0 else 0x10 + cause) tag
    | none => s
  if s.bit F.TWN_CFG.MODE then
    let s := s.iklSend 0 0x31 (leBytes 2 leaf ++ leBytes 1 cause ++ leBytes 1 b ++ leBytes 4 crc) []
    { s with twn := { s.twn with ownResult := some (leaf, cause, crc) } }.commitCompare
  else s

/-- A commit is refused: with its cause, and the first column and row that fail. An earlier accepted table for the leaf no
longer serves it, so that the leaf takes the bank of the leaf before it (R131). -/
def State.commitRefuse (s : State) (leaf cause column row : Nat) : State :=
  let s := { s with bct := { s.bct with commit := none } }.acceptedDrop leaf
  let s := (s.bctStatus 3 cause column row).set1 F.BCT_ERR.REFUSED
  (s.commitResult leaf cause s.bct.last).bindNext.bankShow

/-- The leaf admitted into a place gets its base and its bank. A commit for it that was written in this CLK_CTL cycle is
late (R130, R131, R133). -/
def State.admitLeaf (s : State) (p : Nat) (h : LeafHdr) : State :=
  let b := s.rsv.nextBase
  let s := s.setRas p (fun r => { r with base := b })
  let s := { s with rsv := { s.rsv with nextBase := (b + hdrLast h + 1) % 2 ^ 40 } }
  if s.bct.commit.any (fun c => c.leaf = h.leaf && c.cycle = s.cycle) then s.commitRefuse h.leaf 6 0 0
  else s.bindNext.bankShow

/-- A commit of the staging buffer for a named leaf: refused with TOO_LATE when that leaf is admitted, else LOADING;
it replaces a commit that is not resolved. In a PAIRED state the leaf waits for both results (R131, R284). -/
def State.commitGo (s : State) (leaf : Nat) : State :=
  let late := [0, 1].any (fun p => match s.leafAt p with
    | some l => l.admitted && l.id = leaf
    | none => false)
  let s := (s.wr F.BCT_COMMIT.LEAF leaf).wr F.BCT_STATUS.LEAF leaf
  let s := { s with twn := { s.twn with
    mirroring := if s.paired then some leaf else s.twn.mirroring
    ownResult := none
    peerResult := s.twn.peerResult.filter (fun r => r.1 = leaf) } }
  if late then s.commitRefuse leaf 6 0 0
  else
    let s := { s with bct := { s.bct with commit := some ⟨leaf, s.rd F.BCT_COMMIT_CRC.CRC, none, s.cycle⟩ } }
    (s.bctStatus 1 0 0 0).bindNext.bankShow

/-- Keeper-M writes BCT_COMMIT with GO (R131). -/
def execBctCommitGo (m : Master) (leaf : BitVec 16) (s : State) : Host.Outcome State Fault Refusal :=
  done (s.gated m F.BCT_COMMIT.LEAF.off (fun s => s.commitGo leaf.toNat))

/-- A bank that a commit may load: the one that is not in force, once no unfinished leaf is bound to it and no accepted table
of another leaf waits in it. The bank in force serves every leaf until the next accepted table's, admitted or not (R29,
R130). -/
def State.freeBank (s : State) (leaf : Nat) : Option Nat :=
  let b := 1 - s.bct.last
  if s.bankUsed b || s.bct.accepted.any (fun a => a.2 = b && a.1 ≠ leaf) then none else some b

/-- A waiting commit begins to load once a bank is free (R130). -/
def execBctLoadStart (s : State) : Host.Outcome State Fault Refusal :=
  match s.bct.commit with
  | none => done s
  | some c =>
    if c.bank.isSome then done s
    else match s.freeBank c.leaf with
      | none => done s
      | some b => done { s with bct := { s.bct with commit := some { c with bank := some b } } }

/-- Enabled spare-row beams of a column (BCT_REMAPS). -/
def columnSpares (entry : Nat → Word) (c : Nat) : Nat :=
  ((List.range 16).filter (fun i => beEnable (entry (512 * (512 + i) + c)))).length

/-- An accepted table takes its bank, and the pixel-order table with it (R129, R132). -/
def State.commitAccept (s : State) (c : BctCommit) (b : Nat) : State :=
  let entry := s.stageEntry
  let bk : Bank := ⟨(List.range 270336).filterMap (fun k => if entry k = bctDefault k then none else some (k, entry k)),
    c.crc⟩
  let spares := (List.range 512).map (columnSpares entry)
  let s := s.acceptedDrop c.leaf
  let s := { s with bct := { s.bct with
    bank0 := if b = 0 then bk else s.bct.bank0, bank1 := if b = 0 then s.bct.bank1 else bk, commit := none,
    accepted := s.bct.accepted ++ [(c.leaf, b)] } }
  let s := (s.wr F.BCT_REMAPS.SPARES spares.sum).wr F.BCT_REMAPS.MAX_COLUMN (spares.foldl max 0)
  s.bctStatus 2 0 0 0

/-- What the checks of a loaded table lead to: it is accepted, or refused with what they found (R129, R132). -/
def State.commitResolve (s : State) (c : BctCommit) (b : Nat) (found : Option (Nat × Nat × Nat)) : State :=
  match found with
  | none => ((s.commitAccept c b).commitResult c.leaf 0 b).bindNext.bankShow
  | some f => s.commitRefuse c.leaf f.1 f.2.1 f.2.2

/-- The load and the checks end: the table is accepted, or refused in full (R129 to R132). -/
def execBctCommitResolved (s : State) : Host.Outcome State Fault Refusal :=
  match s.bct.commit with
  | none => done s
  | some c => match c.bank with
    | none => done s
    | some b =>
      let s := s.unitRead 32 s.stageBase stageLen 1
      done (s.commitResolve c b (s.commitCheck c.crc))

end Sys2Proof.Machine
end

