-- ==== Sys2Proof/Machine/LacunaOps.lean ====
section
/-! DEFINITION. The Lacuna List: its records, its two open records and its ring (R167 to R171, R274, R285). -/
namespace Sys2Proof.Machine

/-- All 64 tile columns. -/
def allCols : BitVec 64 := BitVec.allOnes 64

/-- FLAGS of a record (Table 6-9). -/
def flagToEnd : Nat := 1
def flagCreated : Nat := 2
def flagOverflow : Nat := 4
def flagMirrored : Nat := 8

/-- The 32 bytes of a record, with its CHECK (Table 6-9). -/
def LacRec.bytes (r : LacRec) : List Byte :=
  let b := leBytes 2 r.leaf ++ leBytes 1 r.cause ++ leBytes 1 r.flags ++ leBytes 4 r.first ++ leBytes 4 r.last
    ++ leBytes 8 r.cols.toNat ++ leBytes 4 r.timeS ++ leBytes 4 r.timeNs
  b ++ leBytes 4 (crc32c b)

/-- A record closes. The authority's record goes on its way to the ring, source 22 is raised, and a device of a pair
sends it to the twin; a record of a device without authority goes to the Accession Log as BLANK_SLOTS (R170, R274,
R285, Table 15-4, Table 15-8). -/
def State.lacClose (s : State) (r : LacRec) : State :=
  if r.own then
    let idx := (s.rd F.LAC_STATUS.NEXT + s.lac.closed.length) % 2 ^ 32
    let s := { s with lac := { s.lac with closed := s.lac.closed ++ [r] } }.source 22
    if s.bit F.TWN_CFG.MODE then s.iklSend 6 0x40 (leBytes 2 1 ++ leBytes 4 idx) r.bytes else s
  else s.aclLog 0x0505 (leBytes 4 r.leaf ++ leBytes 4 r.first ++ leBytes 4 r.last)

/-- The open record of a stream closes (R170). -/
def State.lacCloseRel (s : State) : State :=
  match s.lac.openRel with
  | none => s
  | some r => { s with lac := { s.lac with openRel := none } }.lacClose r
def State.lacCloseRes (s : State) : State :=
  match s.lac.openRes with
  | none => s
  | some r => { s with lac := { s.lac with openRes := none } }.lacClose r

/-- A slot joins an open record when it has the same leaf, cause and columns and follows its last slot (R170). -/
def LacRec.takes (o r : LacRec) : Bool :=
  o.leaf = r.leaf && o.cause = r.cause && o.cols = r.cols && o.flags = r.flags && o.own = r.own && o.last + 1 = r.first

/-- A slot handed to the stream of the release and tracker causes (R142, R170). -/
def State.lacHandRel (s : State) (r : LacRec) : State :=
  let r := { r with own := s.hasAuth }
  match s.lac.openRel with
  | some o =>
    if o.takes r then { s with lac := { s.lac with openRel := some { o with last := r.last } } }
    else
      let s := s.lacCloseRel
      { s with lac := { s.lac with openRel := some r } }
  | none => { s with lac := { s.lac with openRel := some r } }

/-- A slot handed to the stream of classes 6 to 8; a device without authority writes none (R170, R274). -/
def State.lacHandRes (s : State) (r : LacRec) : State :=
  if !s.hasAuth then s
  else
    let r := { r with own := true }
    match s.lac.openRes with
    | some o =>
      if o.takes r then { s with lac := { s.lac with openRes := some { o with last := r.last } } }
      else
        let s := s.lacCloseRes
        { s with lac := { s.lac with openRes := some r } }
    | none => { s with lac := { s.lac with openRes := some r } }

/-- Whether a leaf identifier is that of the leaf in progress. -/
def State.inProgress (s : State) (leaf : Nat) : Bool :=
  match s.curLeaf with
  | some (p, l, _) => l.id = leaf && s.running p
  | none => false

/-- Two records of a leaf merged: the lowest first slot, the highest last slot, the union of the columns, the cause of the
first, and the TIME, with its TIME_CREATED, of the record that gives the first slot (R169, R171). -/
def LacRec.merge (a b : LacRec) : LacRec :=
  let t := if b.first < a.first then b else a
  { a with
    first := t.first, last := max a.last b.last, cols := a.cols ||| b.cols, timeS := t.timeS, timeNs := t.timeNs
    flags := ((a.flags ||| b.flags) &&& (15 - flagCreated)) ||| (t.flags &&& flagCreated) ||| flagOverflow }

/-- A record written at a place of the ring (R171). -/
def State.lacStore (s : State) (idx : Nat) (r : LacRec) : State :=
  s.unitWrite 32 (s.lacBase + idx % s.lacSize * 32) r.bytes false

/-- The record that stands at an index of the ring, read back from its bytes. -/
def State.lacLoad (s : State) (idx : Nat) : LacRec :=
  let b := s.ddrRead (s.lacBase + idx % s.lacSize * 32) 32
  ⟨fieldAt b 0 2, fieldAt b 2 1, fieldAt b 3 1, fieldAt b 4 4, fieldAt b 8 4, BitVec.ofNat 64 (fieldAt b 12 8),
    fieldAt b 20 4, fieldAt b 24 4, true⟩

/-- A closed record reaches the ring. When one free entry remains, records of the leaf in progress merge into that
entry; with no free entry any other record waits (R171). Vector 3 announces a record. -/
def State.lacWrite (s : State) (r : LacRec) (rest : List LacRec) : State :=
  let next := s.rd F.LAC_STATUS.NEXT
  let took := { s with lac := { s.lac with closed := rest } }
  let merging := s.lac.merging.filter (fun m => m.1 = r.leaf && s.lacHeld m.2)
  match merging with
  | some m =>
    if s.lacFree ≤ 1 then
      let o := (s.lacLoad m.2).merge r
      let t := took.unitRead 32 (s.lacBase + m.2 % s.lacSize * 32) 32 1
      (((t.lacStore m.2 o).incSat F.LAC_COUNTS.MERGED).set1 F.LAC_ERR.OVERFLOW).vector 3
    else plain took next r none
  | none =>
    if s.lacFree = 0 then s
    else if s.lacFree = 1 && s.inProgress r.leaf then
      (plain took next { r with flags := r.flags ||| flagOverflow } (some (r.leaf, next))).set1 F.LAC_ERR.OVERFLOW
    else plain took next r none
where
  /-- A record in an entry of its own. -/
  plain (s : State) (next : Nat) (r : LacRec) (m : Option (Nat × Nat)) : State :=
    let s := { (s.lacStore next r) with lac := { s.lac with merging := m } }
    ((s.wr F.LAC_STATUS.NEXT (next + 1)).incSat F.LAC_COUNTS.RECORDS).vector 3

end Sys2Proof.Machine
end

