-- ==== Sys2Proof/Machine/TimeOps.lean ====
section
/-! DEFINITION. The arithmetic of the time bases and the servo (R253 to R260). -/
namespace Sys2Proof.Machine

/-- A base in units of 2^-48 ns. -/
def TimeBase.total (t : TimeBase) : Nat := (t.sec * 1000000000 + t.ns) * 2 ^ 48 + t.frac

/-- The base that holds a number of units of 2^-48 ns; the seconds wrap at 48 bits. -/
def timeOf (n : Int) : TimeBase :=
  let u := (n % (2 ^ 96 * 1000000000)).toNat
  ⟨u / (1000000000 * 2 ^ 48) % 2 ^ 48, u / 2 ^ 48 % 1000000000, u % 2 ^ 48⟩

/-- One CLK_CTL cycle of a base under a correction of adj/256 ppb (R254). -/
def TimeBase.advance (t : TimeBase) (adj : Int) : TimeBase :=
  let nom : Int := 0x2800000000000
  let inc := nom + (nom * adj) / 256000000000
  timeOf (t.total + inc)

/-- A signed offset in q16 ns added to a base (R254). -/
def TimeBase.step (t : TimeBase) (o : Int) : TimeBase := timeOf (t.total + o * 2 ^ 32)

/-- A base replaced. -/
def State.setBase (s : State) (b : Nat) (t : TimeBase) : State :=
  match b with
  | 0 => { s with tb0 := t }
  | 1 => { s with tb1 := t }
  | _ => { s with tb2 := t }

/-- The servo's integ and lock_run of a base. -/
def State.integ (s : State) (b : Nat) : Int := if b = 0 then s.tim.integ0 else s.tim.integ1
def State.lockRun (s : State) (b : Nat) : Nat := if b = 0 then s.tim.run0 else s.tim.run1
def State.setServo (s : State) (b : Nat) (i : Int) (r : Nat) : State :=
  if b = 0 then { s with tim := { s.tim with integ0 := i, run0 := r } }
  else { s with tim := { s.tim with integ1 := i, run1 := r } }

/-- TB0_STATE and TB1_STATE. -/
def servoField (b : Nat) : Field := if b = 0 then F.TIM_STATUS.TB0_STATE else F.TIM_STATUS.TB1_STATE

/-- A servo state entered; a change is announced, and HOLDOVER sets its flag (Table 11-2). -/
def State.servoState (s : State) (b st : Nat) : State :=
  if s.rd (servoField b) = st then s
  else
    let s := (s.wr (servoField b) st).announce 7 18
    if st = 3 then s.set1 (if b = 0 then F.TIM_ERR.HOLDOVER0 else F.TIM_ERR.HOLDOVER1) else s

/-- max24 of R257. -/
def State.maxAdj (s : State) (b : Nat) : Int := (s.rd (F.TIM_SERVO.MAX_PPM b) * 1000 * 2 ^ 24 : Nat)

/-- What a step does beside moving the base: integ and lock_run are cleared, STEPS counts, and the servo acquires
(R257, Table 11-2). -/
def State.stepped (s : State) (b : Nat) : State :=
  ((s.setServo b 0 0).incSat F.TIM_COUNTS.STEPS).servoState b 1

/-- The servo state after a sample that does not step its base: `run` is the new lock_run (Table 11-2). -/
def State.servoTrack (s : State) (b : Nat) (o : Int) (run : Nat) : State :=
  let st := s.rd (servoField b)
  if st = 1 then (if 8 ≤ run then s.servoState b 2 else s)
  else if st = 2 then (if 4 * s.rd (F.TIM_SERVO.LOCK_NS b) * 2 ^ 16 ≤ o.natAbs then s.servoState b 1 else s)
  else s.servoState b 1

/-- lock_run after a sample that does not step its base (R257). -/
def State.servoRun (s : State) (b : Nat) (o : Int) : Nat :=
  if o.natAbs < s.rd (F.TIM_SERVO.LOCK_NS b) * 2 ^ 16 then s.lockRun b + 1 else 0

/-- The frequency correction of a sample (R257). -/
def State.servoSlew (s : State) (b : Nat) (o : Int) : State :=
  let mx := s.maxAdj b
  let i := clampInt (s.integ b + s.rd (F.TIM_SERVO.KI b) * o) (-mx) mx
  let adj := clampInt (rshr (s.rd (F.TIM_SERVO.KP b) * o + i) 16) (-(mx / 2 ^ 16)) (mx / 2 ^ 16)
  let run := s.servoRun b o
  ((s.setServo b i run).wrInt (F.TIM_SERVO_STATE.ADJ b) adj).servoTrack b o run

/-- Whether a sample calls for a step (R257). -/
def State.callsStep (s : State) (b : Nat) (o : Int) (flag : Bool) : Bool :=
  flag || decide (s.rd (F.TIM_SERVO.STEP_NS b) * 2 ^ 16 ≤ o.natAbs)

/-- A sample o, in q16 ns: a step, a frequency correction, or, while TB1 must not be stepped, a slew at the limit (R257,
R258). -/
def State.servoSample (s : State) (b : Nat) (o : Int) (flag : Bool) : State :=
  let idle := s.rd F.SLT_STATUS.STATE = 0
  let s := if b = 1 && idle then s.clr F.TIM_STATUS.TB1_STEP_PENDING else s
  let s := s.wrInt (F.TIM_SERVO_STATE.LAST b) (clampInt (o / 2 ^ 16) (-(2 ^ 31 - 1)) (2 ^ 31 - 1))
  if !s.callsStep b o flag then s.servoSlew b o
  else if b = 1 && !idle then
    let mx := s.maxAdj b / 2 ^ 16
    let s := (s.set1 F.TIM_STATUS.TB1_STEP_PENDING).set1 F.TIM_ERR.STEP_DEFERRED
    let s := if o = 0 then s else s.wrInt (F.TIM_SERVO_STATE.ADJ b) (if 0 < o then mx else -mx)
    let run := s.servoRun b o
    (s.setServo b (s.integ b) run).servoTrack b o run
  else (s.setBase b ((s.timeBase b).step o)).stepped b

/-- Whether TB1 follows TB0: its source is TB0, or it has switched to it (R256, R260). -/
def State.onTb0 (s : State) : Bool := s.rd F.TIM_CFG.TB1_SOURCE = 0 || s.bit F.TIM_STATUS.TB1_ON_TB0

/-- Every base advances by one CLK_CTL cycle (R254). -/
def State.timeTick (s : State) : State :=
  { s with
    tb0 := s.tb0.advance (s.rdInt (F.TIM_SERVO_STATE.ADJ 0))
    tb1 := s.tb1.advance (s.rdInt (F.TIM_SERVO_STATE.ADJ 1))
    tb2 := s.tb2.advance 0 }

end Sys2Proof.Machine
end

