-- ==== Sys2Proof/Machine/TrackerOps.lean ====
section
/-! DEFINITION. The shared operations of the slot tracker: periods, the Reserve's release position, seals, early ends,
and the end of a leaf (R129 to R142, R148 to R163, R191, R279, R291, R329). -/
namespace Sys2Proof.Machine

/-! ### Link groups, periods and levels -/

/-- The state of a lane group (Table 7-6), and the logical lane that its spare carries. -/
def State.grpState (s : State) (g : Nat) : Nat := s.rd F.BLK_STATUS.STATE / 16 ^ g % 16
def State.grpSpare (s : State) (g : Nat) : Nat := s.rd F.BLK_STATUS.SPARE / 32 ^ g % 32

/-- All four groups are ACTIVE. -/
def State.linkActive (s : State) : Bool := [0, 1, 2, 3].all (fun g => s.grpState g = 4)

/-- The link term of Table 6-3 at a lane rate code. -/
def linkTerm (rate : Nat) : Nat :=
  match rate with
  | 3 => 13334
  | 2 => 14829
  | 1 => 23189
  | _ => 46377

/-- The governor term of Table 6-3, in units of 1/16 ns. -/
def State.governorTerm (s : State) : Nat :=
  ceilDiv (16 * 256 * s.rd F.DUT_CFG.STEP_PS + 16000 * s.rd F.DUT_CFG.GUARD_NS) 1000

/-- The terms of Table 6-3 with their codes, for a leaf of a slot rate. -/
def State.periodTerms (s : State) (rate : Nat) : List (Nat × Nat) :=
  [(1, 13334), (2, if rate = 0 then 0 else ceilDiv 16000000000 rate), (3, linkTerm (s.rd F.BLK_STATUS.RATE)),
   (4, s.governorTerm)] ++ (if s.mode = 2 then [(5, 53334)] else [])

/-- The largest term, and the lowest code among the terms that equal it (R152). -/
def largestTerm : List (Nat × Nat) → Nat × Nat
  | [] => (0, 0)
  | t :: ts =>
    let r := largestTerm ts
    if r.2 ≤ t.2 then t else r

/-- P_min of a leaf computed and shown (R152, SLT_PERIOD, DUT_PERMIT). -/
def State.permit (s : State) (rate : Nat) : State :=
  let t := largestTerm (s.periodTerms rate)
  ((s.wr F.SLT_PERIOD.P_MIN t.2).wr F.DUT_PERMIT.P_GOV s.governorTerm).wr F.DUT_PERMIT.BINDING t.1

/-- T_pred of R151 from the loop's speed; a stage that stands still gives a free value, since the division is not
defined there (R9). -/
def State.predict (s : State) : State :=
  let v := (s.rdInt F.SLT_VEL.VEL).natAbs
  if v = 0 then
    let f := s.takeFree
    f.2.wr F.SLT_PERIOD.T_PRED f.1
  else
    let num := s.rd F.SLT_PITCH.PITCH * 16000000000
    let est := num / v
    let dv := s.rd F.SLT_ACCEL.MAX * 65536 * 3 * est / 16000000000
    s.wr F.SLT_PERIOD.T_PRED (min (num / (v + dv)) 0xFFFFFFFF)

/-- Why BLANK_ALL_N is low: 0 high, 1 BLANK_REQ_N, 2 the Guard, or a low that this device does not drive (R162,
R271). -/
def State.blankLow (s : State) : Nat :=
  if s.bit F.SAF_STATUS.BLANK_DRIVE || s.slt.seenLow then 2 else if s.bit F.SLT_STATUS.BLANK_REQ then 1 else 0

/-- A low of BLANK_ALL_N joins the window of the slot that is exposed; a Guard low outranks a request (R162). -/
def State.windowLow (s : State) : State :=
  { s with slt := { s.slt with window := max s.slt.window s.blankLow } }

/-- STAGE_SLOW and the soft indication (R163, DUT_STATUS). -/
def State.slowShow (s : State) : State :=
  let soft := s.dut.beamSoft || s.dut.plateSoft || s.dut.tempSoft
  let hard := s.dut.beamHard || s.dut.plateHard || s.dut.tempHard || s.dut.silent
  let s := s.wrBit F.DUT_STATUS.HOT (s.dut.beamHot || s.dut.plateHot || s.dut.tempHot || s.dut.silent)
  (s.wrBit F.DUT_STATUS.SOFT soft).wrBit F.SLT_STATUS.STAGE_SLOW (s.slt.slowHold || soft || hard)

/-! ### Positions -/

/-- A position of ENC0, in counts × 2^16, as a distance in a leaf's direction, and due(n) as such a distance
(R148). -/
def along (h : LeafHdr) (p : Int) : Int := if h.dir then -p else p
def State.due (s : State) (h : LeafHdr) (n : Int) : Int := along h h.originScan + n * (s.rd F.SLT_PITCH.PITCH : Nat)

/-- p as a distance in the leaf's direction. -/
def State.stageAt (s : State) (h : LeafHdr) : Int := along h (s.rdInt F.SLT_POS0.POS * 65536)

/-! ### Slots -/

/-- The record of a slot of a leaf. -/
def State.slotRec (s : State) (leaf slot : Nat) : Option SlotRec :=
  s.slt.slots.find? (fun (r : SlotRec) => r.leaf = leaf && r.slot = slot)

/-- A slot's record added or replaced; the newest 32,768 are kept, as many as take-over can name (R286). -/
def State.putSlot (s : State) (r : SlotRec) : State :=
  let known := s.slt.slots.any (fun (x : SlotRec) => x.leaf = r.leaf && x.slot = r.slot)
  let new := if known then
      s.slt.slots.map (fun (x : SlotRec) => if x.leaf = r.leaf && x.slot = r.slot then r else x)
    else (r :: s.slt.slots).take 32768
  { s with slt := { s.slt with slots := new } }

/-- The Lacuna record of one slot; TIME is that of its release point (R169). -/
def SlotRec.lacuna (r : SlotRec) (cause : Nat) (cols : BitVec 64) : LacRec :=
  ⟨r.leaf, cause, 0, r.slot, r.slot, cols, r.timeS % 2 ^ 32, r.timeNs, r.auth⟩

/-- A slot that goes out blank is counted and handed to the Lacuna List (R141, R142). -/
def State.blankSlot (s : State) (r : SlotRec) (cause detail : Nat) (cols : BitVec 64) : State :=
  let s := (s.incSat F.RSV_COUNTS.BLANK_SLOTS).set1 F.RSV_ERR.DATA_LATE
  let s := ((s.wr F.RSV_LAST_BLANK.SLOT r.slot).wr F.RSV_LAST_BLANK.LEAF r.leaf).wr F.RSV_LAST_BLANK.CAUSE cause
  let s := s.wr F.RSV_LAST_BLANK.TILE_CAUSE (if cause = 1 then detail else 0)
  s.lacHandRel (r.lacuna (cause * 16 + detail) cols)

/-- The lowest of a list of numbers. -/
def lowestNat : List Nat → Option Nat
  | [] => none
  | n :: ns => some (ns.foldl min n)

/-- R of R137: the first frame of the leaf that is not released. -/
def State.releaseAt (s : State) (l : Leaf) (h : LeafHdr) : Nat :=
  let unread := (s.slt.slots.filter (fun (r : SlotRec) => r.leaf = l.id && r.data && !r.read)).map
    (fun (r : SlotRec) => r.slot)
  match lowestNat unread with
  | some u => globalFrame l.ras.base u
  | none => globalFrame l.ras.base (if s.slt.endAt.isSome then hdrLast h + 1 else (s.slt.decided + 1).toNat)

/-- RSV_POS and LEAD brought up to date (R137, RSV_LEAD). -/
def State.rsvMove (s : State) (r : Nat) : State :=
  (s.wr F.RSV_POS.RELEASED r).leadShow
def State.rsvAdvance (s : State) : State :=
  match s.curLeaf with
  | some (_, l, h) => if 2 ≤ s.rd F.SLT_STATUS.STATE then s.rsvMove (s.releaseAt l h) else s
  | none => s

/-- Tile columns as a mask. -/
def colMask (cs : List Nat) : BitVec 64 := cs.foldl (fun m c => m ||| bit64 c) 0

/-! ### Seals -/

/-- What keeps a slot of the leaf from being sealed: the columns of tiles that are not verified with the lowest tile
cause, and the columns of suspect tiles (R140 to R142, R282). -/
def State.sealLacks (s : State) (l : Leaf) (h : LeafHdr) (sl : Nat) : List Nat × Nat × List Nat :=
  let rows := rowsFrom (max 0 (((sl : Int) - 527) / 4)) (min ((hdrT h : Int) - 1) ((sl : Int) / 4))
  let mine := rows.filter (fun t => decide (4 * t ≤ (sl : Int)) && decide ((sl : Int) ≤ 4 * t + 530))
  let bad := mine.flatMap (fun t => (List.range 64).filterMap (fun e =>
    match l.ras.tileAt t e with
    | some k => if k.verified then none else some (e, k.cause)
    | none => some (e, 8)))
  let causes := (bad.map Prod.snd).filter (· ≠ 0)
  let sus := if s.paired then mine.flatMap (fun t => (List.range 64).filter (fun e =>
      match l.ras.tileAt t e with
      | some k => k.verified && k.suspect
      | none => false)) else []
  (bad.map Prod.fst, lowestCause causes, sus)

/-! ### Early ends -/

/-- The record of an early end: the open release record closes, then the record is written at once. TIME is that of
the release point of its first slot, or the present time with TIME_CREATED; a device without authority writes none
(R158, R169, R170, R274). -/
def State.endRecord (s : State) (leaf first last cause : Nat) : State :=
  let s := s.lacCloseRel
  if !s.hasAuth then s
  else
    let r : LacRec := match s.slotRec leaf first with
      | some r => ⟨leaf, cause, flagToEnd, first, last, allCols, r.timeS % 2 ^ 32, r.timeNs, true⟩
      | none => ⟨leaf, cause, flagToEnd + flagCreated, first, last, allCols, s.nowS % 2 ^ 32, s.nowNs, true⟩
    s.lacClose r

/-- The flag of an early end in SLT_ERR, or LINK_END; encoder, duty and temperature ends have flags of their own. -/
def State.endFlag (s : State) (detail : Nat) : State :=
  match detail with
  | 6 => s.set1 F.SLT_ERR.OVERSPEED_END
  | 10 => s.set1 F.SLT_ERR.ABORTED
  | 12 => s.set1 F.SLT_ERR.PAUSE
  | 13 => s.set1 F.SLT_ERR.REVERSE
  | 14 => s.set1 F.BLK_ERR.LINK_END
  | _ => s

/-- Tiles of a leaf that ends are discarded from the engines, and no further one is issued (R138). -/
def State.dropTiles (s : State) (p : Nat) (h : LeafHdr) : State :=
  let s := s.setRas p (fun r => { r with
    next := r.next.map (fun t => max t (hdrT h : Int))
    tiles := r.tiles.map (fun (k : TileSt) => { k with phase := .out }) })
  ((List.range 64).foldl State.engineShow s).rasShow

/-- Slots after `c` of a leaf whose frames have not been sent. -/
def State.unsentAfter (s : State) (leaf last : Nat) (c : Int) : Nat :=
  ((last : Int) - c).toNat
    - (s.slt.slots.filter (fun (r : SlotRec) => r.leaf = leaf && r.sent && decide (c < (r.slot : Int)))).length

/-- Gray sums with the words of a slot added, or taken away again: the governor counts slots that are sent with data
(R164). -/
def grayAdd (m : SMap Nat) (w : Nat × Nat) : SMap Nat := smSet (fun _ => 0) m w.1 (smGet (fun _ => 0) m w.1 + w.2)
def graySub (m : SMap Nat) (w : Nat × Nat) : SMap Nat := smSet (fun _ => 0) m w.1 (smGet (fun _ => 0) m w.1 - w.2)

/-- The words of a slot enter the present sub-windows (R164). -/
def DutSt.count (d : DutSt) (words : SMap Nat) : DutSt :=
  { d with
    beams := words.foldl grayAdd (d.beams.headD []) :: d.beams.drop 1
    plate := (d.plate.headD 0 + (words.map Prod.snd).sum) :: d.plate.drop 1 }

/-- A slot that was counted and is not sent with data after all leaves the sums (R164). -/
def DutSt.uncount (d : DutSt) (r : SlotRec) : DutSt :=
  match r.counted with
  | none => d
  | some k =>
    { d with
      beams := d.beams.modify (d.beamRoll - k.1) (fun m => r.words.foldl graySub m)
      plate := d.plate.modify (d.plateRoll - k.2) (fun n => n - (r.words.map Prod.snd).sum) }

/-- The strobing of a leaf stops after slot `c`: frames after it are released unsent, and LB follows the last SS
(R138, R158, R160). An end before the decision of slot 0 has no SS to wait for. -/
def State.stopAfter (s : State) (p : Nat) (l : Leaf) (h : LeafHdr) (c : Int) (orderly : Bool) : State :=
  let s := s.pmcEvent 0x41 (s.unsentAfter l.id (hdrLast h) c) (engineInfo 0)
  let s := s.dropTiles p h
  let gone := s.slt.slots.filter (fun (r : SlotRec) => r.leaf = l.id && decide (c < (r.slot : Int)))
  let s := { s with dut := (gone.filter (fun (r : SlotRec) => !r.sent)).foldl DutSt.uncount s.dut }
  let s := { s with slt := { s.slt with
    endAt := some c
    lbDue := !orderly || decide (c < 0 ∨ c ≤ s.slt.strobed)
    slots := s.slt.slots.filter (fun (r : SlotRec) => r.leaf ≠ l.id || decide ((r.slot : Int) ≤ c)) } }
  ((s.set1 F.RSV_ERR.EARLY_END).wr F.SLT_STATUS.STATE 4).rsvAdvance

/-- A leaf ends early at a given first slot: SLT_END, flags, the EARLY_END record of the Accession Log, the Lacuna
record when `write` says so, and END to the twin (R158, R170, R283). -/
def State.endLeafAt (s : State) (p : Nat) (l : Leaf) (h : LeafHdr) (orderly : Bool) (first : Nat) (detail : Nat)
    (write : Bool) : State :=
  let s := ((s.wr F.SLT_END.FIRST_SLOT first).wr F.SLT_END.LEAF l.id).wr F.SLT_END.DETAIL detail
  let s := s.endFlag detail
  let s := if write then s.endRecord l.id first (hdrLast h) (0x50 + detail) else s.lacCloseRel
  let s := s.aclLog 0x0502 (leBytes 4 l.id ++ leBytes 4 first ++ leBytes 1 detail)
  let s := if s.hasAuth && s.bit F.TWN_CFG.MODE then
      s.iklSend 0 0x50 (leBytes 2 l.id ++ leBytes 4 first ++ leBytes 1 detail ++ leBytes 1 (if orderly then 0 else 1)) []
    else s
  s.stopAfter p l h ((first : Int) - 1) orderly

/-- The first slot of an early end: after the last decision for an orderly end, the lowest slot without its SS for an
immediate one (Table 6-6). -/
def State.endFirst (s : State) (orderly : Bool) : Nat :=
  if orderly then (s.slt.decided + 1).toNat else (s.slt.strobed + 1).toNat

/-- A standby that has ended a leaf on its own waits for END (R283). -/
def State.endAlone (s : State) (leaf last : Nat) : State :=
  if s.pairState = 3 then
    { s with twn := { s.twn with endWait := some leaf, ownEnd := some (leaf, last, (s.slt.decided + 1).toNat) } }
  else s

/-- An early end of the leaf in progress. A leaf that is ending takes only an immediate end. The standby of a pair
waits for END (R155, R158, R283). -/
def State.earlyEnd (s : State) (orderly : Bool) (detail : Nat) : State :=
  match s.curLeaf with
  | none => s
  | some (p, l, h) =>
    let st := s.rd F.SLT_STATUS.STATE
    let first := s.endFirst orderly
    if (st = 2 ∨ st = 3 ∨ (st = 4 ∧ !orderly)) ∧ !s.slt.lbDue ∧ first ≤ hdrLast h then
      let s := s.endLeafAt p l h orderly first detail true
      s.endAlone l.id (hdrLast h)
    else s

/-- Whether the leaf in progress still emits marks and SS: RUN, PAUSED or ENDING before its last SS, with the Guard at
rest (R155, R158). -/
def State.strobes (s : State) : Bool :=
  2 ≤ s.rd F.SLT_STATUS.STATE && !s.slt.lbDue && !s.saf.acting

/-! ### DDR5 recoveries that wait for the tracker -/

/-- Whether a channel is in self-refresh. -/
def State.anyResting (s : State) : Bool := s.rd F.MEM_STATUS.SELF_REFRESH ≠ 0

/-- The state of a walk that runs: PAUSED while a channel is in self-refresh (R207). -/
def State.scrubShow (s : State) : State :=
  let st := s.rd F.SCR_STATUS.STATE
  if st = 1 || st = 3 then s.wr F.SCR_STATUS.STATE (if s.anyResting then 3 else 1) else s

/-- A channel leaves the mask of a field of MEM_STATUS. -/
def State.maskDrop (s : State) (f : Field) (c : Nat) : State := s.wr f (s.rd f &&& (63 ^^^ 2 ^ c))

/-- A recovery begins while the tracker is IDLE: the channel is held, leaves self-refresh, and trains (R218). -/
def State.recoverStart (s : State) : State :=
  if s.rd F.SLT_STATUS.STATE ≠ 0 then s
  else (List.range 6).foldl (fun s c =>
    if (s.memCh c).retrain then
      let s := s.setCh c (fun m => { m with retrain := false, recovery := true, passed := false })
      (((s.wr (F.MEM_CH_STATUS.STATE c) 1).maskDrop F.MEM_STATUS.TRAINED c).maskDrop F.MEM_STATUS.SELF_REFRESH c).scrubShow
    else s) s

/-! ### The end of a leaf -/

/-- The window of the last strobed slot closes: a slot that went out with data while BLANK_ALL_N was low is handed
over as BLANKED (R162). -/
def State.windowClose (s : State) (leaf : Nat) : State :=
  let w := s.slt.window
  let s1 := { s with slt := { s.slt with window := 0 } }
  if w = 0 || s.slt.strobed < 0 then s1
  else match s.slotRec leaf s.slt.strobed.toNat with
    | some r => if r.data then s1.lacHandRes (r.lacuna (0x80 + w) allCols) else s1
    | none => s1

/-- A leaf leaves its place: its open release record closes, the RETIRED watermark is reported, its frames are
released, its place is freed and its identifier marked ended, and a recovery that waits for the tracker begins (R40, R66, R133,
R138, R170, R218). -/
def State.leafGone (s : State) (p : Nat) (l : Leaf) (h : LeafHdr) : State :=
  let s := (s.lacCloseRel.retire p).rsvMove (l.ras.base + hdrLast h + 1)
  let s := (s.freePlace p).wr F.SLT_STATUS.STATE 0
  let s := { s with
    slt := { s.slt with endAt := none, lbDue := false, near := false, window := 0 }
    twn := { s.twn with digests := s.twn.digests.filter (fun (d : TwinDigest) => d.leaf ≠ l.id) } }
  ((s.folShow.leafEvent).bankShow).recoverStart

/-! ### Pairing at LB -/

/-- The CRC of the bank that the twin holds for a leaf: that of its result for the leaf, else that of its last result for a leaf
that this device does not hold, else that of a bank into which no table was loaded. DEDUCED (log 172): R284 gives a leaf that
no commit names the bank of the leaf before it. -/
def State.peerBank (s : State) (leaf : Nat) : Nat :=
  match s.twn.peerBanks.find? (fun b => b.1 = leaf) with
  | some b => b.2
  | none =>
    let held := fun (n : Nat) => [0, 1].any (fun p => (s.leafAt p).any (fun l => l.id = n))
    match s.twn.peerBanks.find? (fun b => !held b.1) with
    | some b => b.2
    | none => 0

/-- The tests of R279 that this device can make on its own; `twin` says that the twin's side meets them too: it holds
no leaf in progress, has admitted the same next leaf and makes the same test. -/
def State.pairReady (s : State) (twin : Bool) (l : Leaf) : Bool :=
  s.bit F.TWN_CFG.MODE && (s.pairState = 1 || s.pairState = 2) && s.rd F.IKL_STATUS.STATE = 3
    && s.bit F.TWN_PEER.AGREED && !s.twn.faulted && s.twn.alive && twin
    && s.peerBank l.id = (s.bank (l.ras.bank.getD s.bct.last)).crc

/-- Pairing completes, or does not, at this LB (R279, Table 12-1). -/
def State.pairTest (s : State) (twin : Bool) : State :=
  match s.fol.order with
  | [] => s
  | p :: _ => match s.leafAt p with
    | none => s
    | some l =>
      if s.pairReady twin l then
        ((s.wr F.TWN_STATUS.STATE (if s.hasAuth then 4 else 3)).wr F.TWN_STATUS.PAIRED_LEAF l.id).twinEvent
      else s

/-- When authority passes to a device whose TB1 source is the twin, TB1 switches to a LOCKED TB0, or is held in HOLDOVER; each
TO makes the test (R260). -/
def State.tb1Switch (s : State) : State :=
  if s.rd F.TIM_CFG.TB1_SOURCE ≠ 1 then s
  else if s.rd F.TIM_STATUS.TB0_STATE = 2 then
    { s.set1 F.TIM_STATUS.TB1_ON_TB0 with twn := { s.twn with tb1Held := false } }
  else { s with twn := { s.twn with tb1Held := !s.bit F.TIM_STATUS.TB1_ON_TB0 } }.servoState 1 3

/-- A hand-over takes effect at LB: the authority names the next leaf and drops TWIN_AUTH; the standby takes
authority once the twin's line has been low for 100 ns (R270, R291). None takes effect while the Guard acts (R328). -/
def State.handover (s : State) : State :=
  if s.saf.acting then s
  else match s.fol.order with
  | [] => s
  | p :: _ => match s.leafAt p with
    | none => s
    | some l =>
      if s.pairState = 4 && s.bit F.TWN_STATUS.YIELD_PENDING then
        let s := s.iklSend 0 0x51 (leBytes 2 l.id) []
        (((s.clr F.TWN_STATUS.YIELD_PENDING).clr F.TWN_STATUS.AUTH).wr F.TWN_STATUS.STATE 3).twinEvent
      else if s.pairState = 3 && s.twn.handover = some l.id && s.twn.peerLow then
        let s := { s with twn := { s.twn with handover := none } }
        ((s.set1 F.TWN_STATUS.AUTH).wr F.TWN_STATUS.STATE 4).twinEvent.tb1Switch
      else s

end Sys2Proof.Machine
end

