-- ==== Sys2Proof/Machine/GuardOps.lean ====
section
/-! DEFINITION. The Guard's action on a cause, and the level of BLANK_ALL_N (R271, R272, R321, R322, R327 to R329). -/
namespace Sys2Proof.Machine

/-- Slot c of R329: the highest slot whose SS has occurred, or slot 0. -/
def State.guardSlot (s : State) : Nat := s.slt.strobed.toNat

/-- The leaf in progress ends at the detection: its record from slot c, when the device held authority alone, and LB
at once (R274, R329). -/
def State.guardLeaf (s : State) : State :=
  match s.curLeaf with
  | none => s
  | some (p, l, h) =>
    if s.rd F.SLT_STATUS.STATE < 2 || s.slt.lbDue then s
    else
      let c := s.guardSlot
      let s := s.lacCloseRel
      let s := if s.hasAuth && (s.pairState = 0 || s.pairState = 2) then
          (match s.slotRec l.id c with
            | some r => s.lacClose ⟨l.id, 0x82, flagToEnd, c, hdrLast h, allCols, r.timeS % 2 ^ 32, r.timeNs, true⟩
            | none => s.lacClose ⟨l.id, 0x82, flagToEnd + flagCreated, c, hdrLast h, allCols, s.nowS % 2 ^ 32, s.nowNs,
                true⟩)
        else s
      s.stopAfter p l h s.slt.strobed false

/-- The Guard of a device whose own TWIN_AUTH is low holds BLANK_ALL_N low but while TWIN_PEER_AUTH has been high for
100 ns (R271). The pad logic needs no catalogue; a stand-alone device, whose TWIN_PEER_AUTH is tied low, never releases
(R269, R272). -/
def State.blankRelease (s : State) : State := s.wrBit F.SAF_STATUS.BLANK_DRIVE (!s.pin.peerHigh)

/-- The data of the Guard's record: FIRST_CAUSE, the leaf and slot c, and the causes seen (R328, R329, Table 15-8). -/
def State.guardData (s : State) (leaf c : Nat) : List Byte :=
  leBytes 2 (s.rd F.SAF_STATUS.FIRST_CAUSE) ++ leBytes 2 leaf ++ leBytes 4 c
    ++ leBytes 4 (s.reg F.SAF_CAUSES.SEEN.off).toNat

/-- This device's record of an INDEX and an event, in the holding queue or on die. -/
def State.ownRecord (s : State) (index event : Nat) (r : AclRec) : Bool :=
  r.index = index && r.event = event && r.node % 2 ^ 14 = s.rd F.TIM_CFG.NODE_ID

/-- The data of that record amended, with its copy on the way to the twin: a cause of the same cycle has joined it (R327,
R350). -/
def State.recordAmend (s : State) (index event : Nat) (data : List Byte → List Byte) : State :=
  match (s.acl.queue ++ s.acl.ring).find? (s.ownRecord index event) with
  | none => s
  | some old =>
    let new : AclRec := { old with data := data old.data }
    let fix := fun (r : AclRec) => if s.ownRecord index event r then new else r
    let say := fun (m : IklMsg) => if m.body = old.bytes then { m with body := new.bytes } else m
    { s with
      acl := { s.acl with ring := s.acl.ring.map fix, queue := s.acl.queue.map fix }
      ikl := { s.ikl with lanes := s.ikl.lanes.modify 7 (fun l =>
        { l with queue := l.queue.map say, waits := l.waits.map say }) } }

/-- A further cause of the first one's cycle: the lower code is FIRST_CAUSE, and the Guard's record, which no cycle has taken
further, says so (R327). -/
def State.guardJoin (s : State) (cause : Nat) : State :=
  let s := s.wr F.SAF_STATUS.FIRST_CAUSE (min cause (s.rd F.SAF_STATUS.FIRST_CAUSE))
  s.recordAmend s.saf.recordIndex 0x0201 (fun d => s.guardData (fieldAt d 2 2) (fieldAt d 4 4))

/-- A cause of Table 14-3. The first one starts the sequence of Table 14-4, and the lowest of its cycle is FIRST_CAUSE; every one
is held as seen (R327, R328). -/
def State.guardDemand (s : State) (cause : Nat) : State :=
  if s.mode = 0 then s
  else
    let s := s.wr F.SAF_CAUSES.SEEN (s.rd F.SAF_CAUSES.SEEN ||| 2 ^ (cause - 1))
    if s.saf.acting then (if s.cycle = s.saf.firstCycle && s.mode ≠ 5 then s.guardJoin cause else s)
    else
      let s := ((s.wr F.SAF_STATUS.FIRST_CAUSE cause).wr F.SAF_ENTRY.TIME_S s.nowS).wr F.SAF_ENTRY.TIME_NS s.nowNs
      let s : State := { ((s.wr F.SAF_STATUS.STATE 1).set1 F.SAF_STATUS.BLANK_DRIVE) with
        saf := { s.saf with acting := true, firstCycle := s.cycle }
        pin := { s.pin with failOut := true } }
      let leaf := if 2 ≤ s.rd F.SLT_STATUS.STATE then s.rd F.SLT_SLOT.LEAF else 0
      let c := if 2 ≤ s.rd F.SLT_STATUS.STATE then s.guardSlot else 0
      let s := s.windowLow.guardLeaf
      let s := ((s.clr F.TWN_STATUS.AUTH).axGuard).blankRelease
      (s.aclGuard (s.guardData leaf c)).faultEvent

/-- VDDIO is absent: its last reading is zero, outside its range (R383, Table 17-6). -/
def State.vddioAbsent (s : State) : Bool := s.pin.supplyOut / 32 % 2 = 1 && s.rd (F.PAD_SUPPLY.NOW 5) = 0

/-- Whether this device drives BLANK_ALL_N low: for a request in every mode, for the Guard, and in OFF, BOOT, STORAGE
and SAFE unless TWIN_PEER_AUTH stands high (R271, R272, R321). Without VDDIO its open drain is high-impedance (R383). -/
def State.drivesBlank (s : State) : Bool :=
  !s.vddioAbsent && (s.bit F.SLT_STATUS.BLANK_REQ || s.bit F.SAF_STATUS.BLANK_DRIVE ||
    (s.mode ≠ 2 && s.mode ≠ 3 && !s.saf.acting && !s.pin.peerHigh))

end Sys2Proof.Machine
end

