-- ==== Sys2Proof/Machine/Duty.lean ====
section
/-! DEFINITION. The duty governor and the plate temperature's thresholds (R163 to R166, R187). -/
namespace Sys2Proof.Machine

/-- Gray sums of every beam over the present and the four sub-windows before it (R164). -/
def DutSt.beamWindow (d : DutSt) : SMap Nat :=
  (d.beams.take 5).foldl (fun m w => w.foldl (fun (m : SMap Nat) b =>
    smSet (fun _ => 0) m b.1 (smGet (fun _ => 0) m b.1 + b.2)) m) []

/-- The beam with the largest sum: the lowest beam number of equal ones. -/
def peakBeam : SMap Nat → Nat × Nat
  | [] => (0, 0)
  | b :: bs =>
    let r := peakBeam bs
    if r.2 ≤ b.2 then b else r

/-- Gray sum of the plate over eleven sub-windows (R164). -/
def DutSt.plateWindow (d : DutSt) : Nat := (d.plate.take 11).sum

/-- On-times of R164 against which the thresholds stand: window and units of a threshold step. -/
def beamUnit : Nat := 4000000000
def plateUnit : Nat := 270336 * 100000000000

/-- A SOFT_THRESHOLD record: its kind, with the leaf and slot of the last SS (Table 15-8). -/
def State.softRecord (s : State) (kind : Nat) : State :=
  (s.aclLog 0x0503 (leBytes 2 kind ++ leBytes 2 (s.rd F.SLT_SLOT.LEAF) ++ leBytes 4 (s.rd F.SLT_SLOT.SLOT))).faultEvent

/-- A soft crossing (R165, R166). -/
def State.softCross (s : State) (kind : Nat) (f : Field) (now before : Bool) : State :=
  if now && !before then (s.set1 f).softRecord kind else s

/-- A hard crossing: flagged, and the leaf in progress ends orderly (R165, R166). -/
def State.hardCross (s : State) (detail : Nat) (f : Field) (now before : Bool) : State :=
  let s := if now && !before then s.set1 f else s
  if now then s.earlyEnd true detail else s

/-- The governor's evaluation: duties shown, thresholds acted on, HOT and STAGE_SLOW (R163 to R165, DUT_STATUS). -/
def State.dutyJudge (s : State) : State :=
  let step := s.rd F.DUT_CFG.STEP_PS
  let peak := peakBeam s.dut.beamWindow
  let on := peak.2 * step * 65536
  let pon := s.dut.plateWindow * step * 65536
  let s := (s.wr F.DUT_STATUS.BEAM_DUTY (min (on / beamUnit) 0xFFFF)).wr F.DUT_STATUS.PLATE_DUTY
    (min (pon / plateUnit) 0xFFFF)
  let s := (s.wr F.DUT_PEAK_BEAM.ROW (peak.1 / 512)).wr F.DUT_PEAK_BEAM.COLUMN (peak.1 % 512)
  let bs := decide (s.rd F.DUT_BEAM.SOFT * beamUnit ≤ on)
  let bh := decide (s.rd F.DUT_BEAM.HARD * beamUnit ≤ on)
  let br := decide (on < s.rd F.DUT_BEAM.RESUME * beamUnit)
  let ps := decide (s.rd F.DUT_PLATE.SOFT * plateUnit ≤ pon)
  let ph := decide (s.rd F.DUT_PLATE.HARD * plateUnit ≤ pon)
  let pr := decide (pon < s.rd F.DUT_PLATE.RESUME * plateUnit)
  let d := s.dut
  let hot := bs || bh || ps || ph
  let cool := br && pr
  let s := { s with dut := { s.dut with
    beamSoft := bs, plateSoft := ps
    beamHard := bh || (d.beamHard && !br), plateHard := ph || (d.plateHard && !pr)
    beamHot := hot || (d.beamHot && !cool), plateHot := hot || (d.plateHot && !cool) } }
  let s := (s.softCross 1 F.DUT_ERR.BEAM_SOFT bs d.beamSoft).softCross 2 F.DUT_ERR.PLATE_SOFT ps d.plateSoft
  let s := (s.hardCross 7 F.DUT_ERR.BEAM_HARD bh d.beamHard).hardCross 8 F.DUT_ERR.PLATE_HARD ph d.plateHard
  s.slowShow

/-- After the release read of a slot the governor gives its verdict (R164, R165). -/
def execDutyVerdict (s : State) : Host.Outcome State Fault Refusal :=
  match s.dut.due with
  | [] => done s
  | _ :: rest => done ({ s with dut := { s.dut with due := rest } }.dutyJudge)

/-- A sub-window of 1 ms for the beams, or of 10 ms for the plate, ends and a new one begins (R164). -/
def execDutySubwindowRoll (plate : Bool) (s : State) : Host.Outcome State Fault Refusal :=
  let d := s.dut
  let d := if plate then { d with plate := (0 :: d.plate).take 11, plateRoll := d.plateRoll + 1 }
    else { d with beams := ([] :: d.beams).take 5, beamRoll := d.beamRoll + 1 }
  done ({ s with dut := d }.dutyJudge)

/-- A plate temperature is reported, in 1/16 °C (R166, R187). -/
def State.tempReport (s : State) (t : Int) : State :=
  let s := (s.wrInt F.DUT_STATUS.TEMP t).set1 F.DUT_STATUS.TEMP_VALID
  let soft := decide (s.rdInt F.DUT_TEMP.SOFT ≤ t)
  let hard := decide (s.rdInt F.DUT_TEMP.HARD ≤ t)
  let low := decide (t < s.rdInt F.DUT_TEMP.RESUME)
  let d := s.dut
  let s := { s with dut := { s.dut with
    tempSoft := soft
    tempHard := hard || (d.tempHard && !low)
    tempHot := soft || hard || (d.tempHot && !low)
    silent := d.silent && !low } }
  let s := s.softCross 3 F.DUT_ERR.TEMP_SOFT soft d.tempSoft
  (s.hardCross 9 F.DUT_ERR.TEMP_HARD hard d.tempHard).slowShow

end Sys2Proof.Machine
end

