-- ==== Sys2Proof/Machine/Wire.lean ====
section
/-! DEFINITION. Blocks on a serial lane: 128b/130b coding, scrambling and the control blocks that both links share (R173 to
R175, R275). -/
namespace Sys2Proof.Machine

/-- A block: whether it is a control block, and its 16 bytes (R173). -/
abbrev WireBlock := Bool × List Byte

/-- The 130 bits of a block in the order of sending: the header of a data block is 1 then 0 and of a control block 0 then 1;
each byte goes least significant bit first (R173). -/
def wireBits (b : WireBlock) : List Bool :=
  (if b.1 then [false, true] else [true, false]) ++ b.2.flatMap (fun x => (List.range 8).map (fun i => x.toNat.testBit i))

/-- One step of the scrambler's register: the bit it gives, and the register after it (R174). -/
def lfsrStep (l : Nat) : Nat × Nat :=
  let z := l / 2 ^ 22 % 2
  (z, (l * 2 % 2 ^ 23) ^^^ (if z = 1 then 0x210125 else 0))

/-- `n` bits of a byte scrambled, least significant first. -/
def scrambleBits : Nat → Nat → Nat → Nat × Nat
  | 0, l, b => (b, l)
  | n + 1, l, b =>
    let z := lfsrStep l
    scrambleBits n z.2 (b ^^^ (z.1 * 2 ^ (7 - n)))

/-- A byte string scrambled, or descrambled, from a register value; with the register after it (R174). -/
def scramble : Nat → List Byte → List Byte × Nat
  | l, [] => ([], l)
  | l, b :: bs =>
    let r := scrambleBits 8 l b.toNat
    let rest := scramble r.2 bs
    (BitVec.ofNat 8 r.1 :: rest.1, rest.2)

/-- The register of a lane after a number of data blocks since it was loaded with its seed (R174). -/
def lfsrAfter (seed : Nat) : Nat → Nat
  | 0 => seed
  | n + 1 => (scramble (lfsrAfter seed n) (List.replicate 16 0#8)).2

/-- The first `n` blocks of 16 bytes of a byte string. -/
def bytesInBlocks : Nat → List Byte → List (List Byte)
  | 0, _ => []
  | n + 1, bs => bs.take 16 :: bytesInBlocks n (bs.drop 16)

/-- Bytes as the data blocks of a lane, `at_` data blocks after its register was loaded (R174). -/
def dataBlocks (seed at_ : Nat) (bs : List Byte) : List WireBlock :=
  (bytesInBlocks (bs.length / 16) (scramble (lfsrAfter seed at_) bs).1).map (fun b => (false, b))

/-- `n` IDLE blocks (Table 7-1). -/
def idleBlocks (seed at_ n : Nat) : List WireBlock := dataBlocks seed at_ (List.replicate (16 * n) 0#8)

/-- An alignment marker (Table 7-1). -/
def amBlock (group lane logical count : Nat) : WireBlock :=
  (true, leBytes 1 0x3C ++ leBytes 1 group ++ leBytes 1 lane ++ leBytes 1 logical ++ leBytes 2 count ++ List.replicate 10 0#8)

/-- A training block; `tail` is its bytes 6 to 15 (Table 7-1, R275). -/
def tsBlock (group lane rate state : Nat) (switch : Bool) (tail : List Byte) : WireBlock :=
  (true, leBytes 1 0x2D ++ leBytes 1 group ++ leBytes 1 lane ++ leBytes 1 rate ++ leBytes 1 state
    ++ leBytes 1 (if switch then 1 else 0) ++ tail)

end Sys2Proof.Machine
end

