-- ==== Sys2Proof/Machine/LinkOps.lean ====
section
/-! DEFINITION. The shared operations of the BLK link: frames and scrambling, lanes and spares, group states, and the
lane trims that the spare serves (R172 to R194, R374 to R376). -/
namespace Sys2Proof.Machine

/-! ### Frames on the wire -/

/-- The seed of lane `k` of group `g` (R174). -/
def laneSeed (g k : Nat) : Nat := 0x7FFF00 ||| (32 * g + k)

/-- The header of a frame on logical lane `j` of group `g` (Table 7-2). -/
def FrameOut.header (f : FrameOut) (g j no : Nat) : List Byte :=
  leBytes 1 0x5F ++ leBytes 1 f.flags ++ leBytes 1 (j + 32 * g) ++ leBytes 1 0 ++ leBytes 2 f.leaf ++ leBytes 4 f.slot
    ++ leBytes 4 f.tPred ++ leBytes 2 no

/-- The payload of logical lane `j` of group `g`: beam (r, c) at byte 128·(r − 22j) + (c − 128g) (R178). -/
def FrameOut.payload (f : FrameOut) (g j : Nat) : List Byte :=
  (List.range 2816).map (fun p =>
    BitVec.ofNat 8 (smGet (fun _ => 0) f.words (512 * (22 * j + p / 128) + (128 * g + p % 128))))

/-- The 2,848 bytes of a frame before scrambling (R176). -/
def FrameOut.bytes (f : FrameOut) (g j no : Nat) : List Byte :=
  let b := f.header g j no ++ f.payload g j
  b ++ leBytes 4 (crc32c b) ++ List.replicate 12 0#8

/-- A lane group. -/
def State.grp (s : State) (g : Nat) : BlkGrp := s.blk.grp.getD g blkGrpNew
def State.putGrp (s : State) (g : Nat) (x : BlkGrp) : State :=
  { s with blk := { s.blk with grp := s.blk.grp.set g x } }

/-- The logical lane that a physical lane carries (BLK_LANEn). -/
def State.laneLogical (s : State) (g k : Nat) : Nat := s.rd (F.BLK_LANE.LOGICAL (25 * g + k))

/-- What a group's lanes have sent, as physical lane `k` sends it: a lane that carries no logical lane sends IDLE blocks in
place of frames, whose SOF is a data block of its own (R174 to R180). -/
def State.kindBlocks (s : State) (g k : Nat) : WireKind → List WireBlock
  | .am count => [amBlock g k (s.laneLogical g k) count]
  | .idle n at_ frames =>
    idleBlocks (laneSeed g k) (if 24 ≤ s.laneLogical g k then at_ + frames else at_) n
  | .frame no at_ frames =>
    let j := s.laneLogical g k
    match s.blk.frame with
    | none => []
    | some f =>
      if 24 ≤ j then idleBlocks (laneSeed g k) (at_ + frames) 178
      else
        let b := f.bytes g j no
        (true, b.take 16) :: dataBlocks (laneSeed g k) at_ (b.drop 16)

/-- The training blocks of a physical lane. In STEP they carry SWITCH and the rate that the step goes to, since the plate
accepts or refuses a rate (DESIGN CHOICE, log 128). -/
def State.laneTs (s : State) (g k : Nat) : WireBlock :=
  let step := s.grpState g = 5
  tsBlock g k (if step then s.blk.stepTo.getD (s.grp g).rate else (s.grp g).rate) (s.grpState g) step (List.replicate 10 0x4A#8)

/-- The blocks that physical lane `k` of group `g` sends in the state of its group: nothing, training blocks one after
another, 64 of them and then IDLE and AM, or the frames, IDLE and AM of the present stretch (Table 7-6, R175). -/
def State.laneSends (s : State) (g k : Nat) : List WireBlock :=
  match s.grpState g with
  | 1 | 2 | 5 | 6 => [s.laneTs g k]
  | 3 => List.replicate 64 (s.laneTs g k) ++ (s.grp g).out.flatMap (s.kindBlocks g k)
  | 4 => (s.grp g).out.flatMap (s.kindBlocks g k)
  | _ => []

/-- An alignment marker on every lane of a group: its count advances and the scramblers are loaded before the next
data block (R174, R180). DESIGN CHOICE (log 128): the first AM after an entry to ACTIVE carries the count 0. -/
def BlkGrp.am (x : BlkGrp) : BlkGrp :=
  { x with amCount := (x.amCount + 1) % 65536, blocks := 0, frames := 0, out := x.out ++ [.am x.amCount] }

/-! ### Lanes -/

/-- Events of a bucket's instance within its window. -/
def State.bucketCount (s : State) (k inst : Nat) : Nat :=
  (s.saf.buckets.filter (fun e => e.1 = k && e.2.1 = inst)).length

/-- A lane's counts after an event: ERRORS, and BUCKET's headroom (BLK_LANEn). -/
def State.laneShow (s : State) (n k inst : Nat) : State :=
  s.wr (F.BLK_LANE.BUCKET n) (min 31 (s.bucketN k - s.bucketCount k inst))

/-- The physical lane of a group on which a logical lane's copy counts: the lane of that number while it carries it,
else the spare (R192). -/
def State.physical (s : State) (g j : Nat) : Nat := if s.laneLogical g j = j then j else 24

/-- The spare begins to take over a physical lane, or to give it back (R192). -/
def State.swapStart (s : State) (g k : Nat) (back good : Bool) : State :=
  s.putGrp g { s.grp g with swap := some ⟨k, 0, back, good⟩ }

/-! ### Trims of forward lanes -/

/-- A group's trim. -/
def State.trim (s : State) (g : Nat) : Option GrpTrim := (s.cal.grp[g]?).join
def State.setTrim (s : State) (g : Nat) (t : Option GrpTrim) : State :=
  { s with cal := { s.cal with grp := s.cal.grp.set g t } }

/-- The physical lane under trial, and what CAL_STATUS.LANE shows: 24 for the spare, 31 for none (R375). -/
def GrpTrim.lane (t : GrpTrim) : Nat := if t.turn = 0 then 24 else t.turn - 1
def State.trimShow (s : State) (g : Nat) : State :=
  let v := match s.trim g with
    | some t => t.lane
    | none => 31
  let old := s.rd F.CAL_STATUS.LANE
  let s := s.wr F.CAL_STATUS.LANE (old - old / 32 ^ g % 32 * 32 ^ g + v * 32 ^ g)
  let on := s.rd F.CAL_STATUS.GROUPS
  s.wr F.CAL_STATUS.GROUPS (on - on / 2 ^ g % 2 * 2 ^ g + (if (s.trim g).isSome then 2 ^ g else 0))

/-- The codes in force of a forward lane. -/
def State.laneCodes (s : State) (g k : Nat) : Nat := s.rd (F.CAL_TX.CODES (25 * g + k))

/-- The search of the lane of a turn begins from the codes in force. -/
def State.searchStart (s : State) (g : Nat) (t : GrpTrim) : State :=
  (s.setTrim g (some { t with
    phase := 1, trial := 0, start := s.laneCodes g t.lane, bestH := 0, bestV := 0, since := s.cycle })).trimShow g

/-- A run starts: the parts of Table 16-4 that are enabled take part (R374, R376). -/
def State.runStart (s : State) : State :=
  if s.mode = 4 || s.mode = 5 || s.saf.acting then s
  else
    let s := (List.range 8).foldl (fun s i => s.wr (F.CAL_TEMP.REF i) (s.rd (F.CAL_TEMP.NOW i))) s
    let s := ((s.wr F.CAL_STATUS.STATE 2).clr F.CAL_STATUS.RUN_PENDING).incSat F.CAL_COUNTS.RUNS
    let s := { s with cal := { s.cal with begun := true, again := s.cal.again.filter (fun g => s.grpState g ≠ 4) } }
    let s := (List.range 4).foldl (fun s g =>
      if !s.bit F.CAL_CFG.TRIM_BLK then s
      else if !s.bit F.BLK_CFG.SPARE_EN || (s.grp g).good || (s.grp g).swap.any (fun (w : LaneSwap) => w.good) then
        s.set1 F.CAL_ERR.SKIPPED
      else if s.grpState g ≠ 4 then s
      else s.searchStart g ⟨0, 1, 0, 0, 0, 0, 0⟩) s
    let rx := if s.bit F.CAL_CFG.TRIM_RX then some ⟨0, 0⟩ else none
    let ddr := (List.range 6).map (fun c =>
      if s.bit F.CAL_CFG.TRIM_DDR && s.rd F.MEM_STATUS.TRAINED / 2 ^ c % 2 = 1 then some ⟨0, 0⟩ else none)
    { s with cal := { s.cal with rx := List.replicate 4 rx, ddr := ddr } }

/-- Every part of the run in progress has ended. -/
def State.runOver (s : State) : Bool :=
  s.rd F.CAL_STATUS.STATE = 2 && s.cal.grp.all Option.isNone && s.cal.rx.all Option.isNone && s.cal.ddr.all Option.isNone

/-- A run ends once every part has: RUNS advances (R374). -/
def State.runFinish (s : State) : State :=
  if s.runOver then (s.incWrap F.CAL_STATUS.RUNS).wr F.CAL_STATUS.STATE 1 else s

/-- The same, and a pending trigger starts a new run; one without any part ends at once (R374). -/
def State.runCheck (s : State) : State :=
  if s.runOver && s.bit F.CAL_STATUS.RUN_PENDING then s.runFinish.runStart.runFinish else s.runFinish

/-- A trigger: a run starts, or is pending during a run (R374). -/
def State.runTrigger (s : State) : State :=
  if s.rd F.CAL_STATUS.STATE = 1 then s.runStart.runFinish
  else if s.rd F.CAL_STATUS.STATE = 2 then s.set1 F.CAL_STATUS.RUN_PENDING
  else s

/-- The next turn of a group's trim: the spare takes the next logical lane, or the group's part ends (R375). -/
def State.trimNext (s : State) (g : Nat) (t : GrpTrim) : State :=
  if 24 ≤ t.turn then ((s.setTrim g none).trimShow g).runCheck
  else
    let u := { t with turn := t.turn + 1, phase := 0 }
    ((s.setTrim g (some u)).trimShow g).swapStart g u.lane false false

/-- A lane's search ends: a margin below H_FLOOR is flagged, and the lane is given back (R375). -/
def State.searchEnd (s : State) (g : Nat) (t : GrpTrim) : State :=
  let s := s.whenD (decide (t.bestH < s.rd F.CAL_CFG.H_FLOOR)) (fun s => s.set1 F.CAL_ERR.LOW_MARGIN)
  if t.turn = 0 then s.trimNext g t
  else ((s.setTrim g (some { t with phase := 2 })).trimShow g).swapStart g t.lane true false

/-- The codes of a lane written. -/
def State.setCodes (s : State) (g k codes : Nat) : State := s.wr (F.CAL_TX.CODES (25 * g + k)) codes

/-- The lane under trial returns to its starting codes, and the group's part of the run ends (R376, R379). -/
def State.trimDrop (s : State) (g : Nat) : State :=
  match s.trim g with
  | none => s
  | some t =>
    let s := if t.phase = 1 then s.setCodes g t.lane t.start else s
    ((s.setTrim g none).trimShow g).runCheck

/-- A rate change or RECOVERY ends a group's part of the run (R376), and ends the trim of its receiver (R377). -/
def State.trimAbandon (s : State) (g : Nat) : State :=
  let s := if (s.trim g).isSome then
      ((s.trimDrop g).set1 F.CAL_ERR.ABANDONED).incSat F.CAL_COUNTS.ABANDONED
    else s
  ({ s with cal := { s.cal with rx := s.cal.rx.set g none, rxStep := s.cal.rxStep.set g none } }).runCheck

/-- Place and width of the five codes of CAL_BLK_INITr, in the order of R375. -/
def codeField (i : Nat) : Nat × Nat := [(0, 6), (6, 4), (10, 5), (15, 4), (19, 5)].getD i (0, 0)

/-- A code moved by one, unless that leaves its field. -/
def codeStep (codes i : Nat) (up : Bool) : Option Nat :=
  let f := codeField i
  let v := codes / 2 ^ f.1 % 2 ^ f.2
  if up then (if v + 1 < 2 ^ f.2 then some (codes + 2 ^ f.1) else none)
  else (if 0 < v then some (codes - 2 ^ f.1) else none)

/-- The next trial from place `n` on: trial `n` steps code (n − 1)/2 up when n is odd and down when it is even; trials
that would leave a field are passed over, and after the tenth the search ends (R375). -/
def State.trialFrom (s : State) (g : Nat) (t : GrpTrim) : Nat → Nat → State
  | 0, _ => s.searchEnd g t
  | fuel + 1, n =>
    if 10 < n then s.searchEnd g t
    else match codeStep (s.laneCodes g t.lane) ((n - 1) / 2) (n % 2 = 1) with
      | some c =>
        let s := (s.setCodes g t.lane c).incSat F.CAL_COUNTS.TRIALS
        s.setTrim g (some { t with trial := n, since := s.cycle })
      | none => s.trialFrom g t fuel (n + 1)

/-- The codes before trial `n`. -/
def State.codesBefore (s : State) (g : Nat) (t : GrpTrim) : Nat :=
  let one := 2 ^ (codeField ((t.trial - 1) / 2)).1
  if t.trial % 2 = 1 then s.laneCodes g t.lane - one else s.laneCodes g t.lane + one

/-- A trial is no better: its code returns at once, and the next one is tried (R375). -/
def State.trialLost (s : State) (g : Nat) (t : GrpTrim) : State :=
  if t.trial = 0 then s
  else (s.setCodes g t.lane (s.codesBefore g t)).trialFrom g t 10 (t.trial + 1)

/-- A margin report for the lane under trial: the first gives the figures of the codes in force; each later one keeps
or returns the code tried (R375). -/
def State.trialJudge (s : State) (g : Nat) (t : GrpTrim) (hm vm : Nat) : State :=
  let n := 25 * g + t.lane
  let s := (s.wr (F.CAL_TX.H n) hm).wr (F.CAL_TX.V n) vm
  if t.trial = 0 then s.trialFrom g { t with bestH := hm, bestV := vm } 10 1
  else if t.bestH < hm || (hm = t.bestH && t.bestV < vm) then
    (s.incSat F.CAL_COUNTS.KEPT).trialFrom g { t with bestH := hm, bestV := vm } 10 ((t.trial + 1) / 2 * 2 + 1)
  else s.trialLost g t

/-! ### Group states -/

/-- The state code of a group written, with READY (BLK_STATUS). -/
def State.setGrpState (s : State) (g st : Nat) : State :=
  let old := s.rd F.BLK_STATUS.STATE
  let s := s.wr F.BLK_STATUS.STATE (old - old / 16 ^ g % 16 * 16 ^ g + st * 16 ^ g)
  s.wrBit F.BLK_STATUS.READY s.linkActive

/-- The logical lane of a group's spare written (BLK_STATUS.SPARE, BLK_LANEn). -/
def State.setSpare (s : State) (g j : Nat) : State :=
  let old := s.rd F.BLK_STATUS.SPARE
  let s := s.wr F.BLK_STATUS.SPARE (old - old / 32 ^ g % 32 * 32 ^ g + j * 32 ^ g)
  s.wr (F.BLK_LANE.LOGICAL (25 * g + 24)) j

/-- The forward lanes of a group put in a state of BLK_LANEn; a lane out of service stays so unless it is put off. -/
def State.lanesState (s : State) (g st : Nat) : State :=
  (List.range 25).foldl (fun s k =>
    let n := 25 * g + k
    if s.rd (F.BLK_LANE.STATE n) = 3 && st ≠ 0 then s else s.wr (F.BLK_LANE.STATE n) st) s

/-- A group in ALIGN or ACTIVE leaves its stretch of blocks: the IDLE blocks since its last frame or AM, whose number no command
shows and which is free, have moved the scramblers (R174; log 181). -/
def State.grpPause (s : State) (g : Nat) : State :=
  if s.grpState g = 3 || s.grpState g = 4 then
    let (n, s) := s.takeFree
    let x := s.grp g
    s.putGrp g { x with blocks := x.blocks + n % 1424 }
  else s

/-- A group enters ALIGN, in which its lanes go on to IDLE and AM (Table 7-6). -/
def State.grpAlign (s : State) (g : Nat) : State :=
  let s := s.grpPause g
  (s.putGrp g { s.grp g with out := [.idle 1 (s.grp g).blocks (s.grp g).frames] }).setGrpState g 3

/-- A group's lanes take a rate; the scramblers are loaded when it changes (R174). -/
def BlkGrp.atRate (x : BlkGrp) (r : Nat) : BlkGrp :=
  if x.rate = r then x else { x with rate := r, blocks := 0, frames := 0 }

/-- A group enters ACTIVE: block periods, AM spacing and FRAME_NO count from here (R180). -/
def State.grpActive (s : State) (g : Nat) : State :=
  let s := s.grpPause g
  let s := s.putGrp g { s.grp g with frameNo := 0, amCount := 0, out := [] }
  let s := (s.setGrpState g 4).lanesState g 2
  (List.range 24).foldl (fun s k =>
    if s.laneLogical g k = 31 && (s.grp g).carried ≠ some k then s.wr (F.BLK_LANE.LOGICAL (25 * g + k)) k else s) s

/-- A group enters RECOVERY (Table 7-6). -/
def State.grpRecover (s : State) (g : Nat) : State :=
  let s := (((s.grpPause g).setGrpState g 6).set1 F.BLK_ERR.RECOVERY).incSat F.BLK_COUNTS.RECOVERIES
  (s.lanesState g 1).trimAbandon g

/-- The link rate once every group is ACTIVE at it: P_min follows (R152, R188). -/
def State.linkRate (s : State) : State :=
  if s.linkActive then
    let r := (s.grp 0).rate
    let s := (s.wr F.BLK_STATUS.RATE r)
    let s := { s with blk := { s.blk with stepTo := none } }
    match s.curLeaf with
    | some (_, _, h) => s.permit h.rate
    | none => s
  else s

/-- Every lane of a group loads the codes of a new rate; its part of a run ends, and a run starts when the group is
ACTIVE again (R376). -/
def State.rateCodes (s : State) (g r : Nat) : State :=
  let s := s.trimAbandon g
  let codes := s.rd ⟨F.CAL_BLK_INIT.AMP r |>.off, 0, 24⟩
  let s := (List.range 25).foldl (fun s k => s.setCodes g k codes) s
  { s with cal := { s.cal with again := listInsert g s.cal.again } }

/-- The groups in use move to ALIGN at a rate; one in RECOVERY takes the rate and waits there for its back-channel's lock (R188,
Table 7-6). -/
def State.allAlign (s : State) (r src : Nat) : State :=
  (List.range 4).foldl (fun s g =>
    let st := s.grpState g
    if st < 3 || 6 < st then s
    else
      let s := s.grpPause g
      let s := s.putGrp g { (s.grp g).atRate r with alignFrom := src, accepted := false }
      let s := if st = 6 && !(s.grp g).backLock then s else s.grpAlign g
      (s.lanesState g 1).rateCodes g r) s

/-! ### Lasting lane faults -/

/-- A lane that must be replaced for good: the spare takes it, is kept on it, is first given back, or is exhausted
(R193, R376). The second part of the answer says that the spare covers it. -/
def State.laneReplace (s : State) (g k : Nat) : State × Bool :=
  let x := s.grp g
  if !s.bit F.BLK_CFG.SPARE_EN then (s, false)
  else if k = 24 then (s.set1 F.BLK_ERR.SPARE_EXHAUSTED, false)
  else match x.swap, x.carried with
    | some w, _ =>
      if w.lane = k then
        let t := if w.back then ⟨k, 0, false, true⟩ else { w with good := true }
        (((s.putGrp g { x with swap := some t, good := true }).set1 F.BLK_ERR.LANE_LASTING).trimDrop g, true)
      else if w.good || x.faulty.any (· ≠ k) then (s.set1 F.BLK_ERR.SPARE_EXHAUSTED, false)
      else (((s.putGrp g { x with faulty := some k }).set1 F.BLK_ERR.LANE_LASTING).trimDrop g, true)
    | none, some c =>
      if c = k then
        (((s.putGrp g { x with good := true }).set1 F.BLK_ERR.LANE_LASTING).wr (F.BLK_LANE.STATE (25 * g + k)) 3 |>.trimDrop g,
          true)
      else if x.good then (s.set1 F.BLK_ERR.SPARE_EXHAUSTED, false)
      else
        let s := (s.putGrp g { x with faulty := some k, swap := some ⟨c, 0, true, false⟩ }).set1 F.BLK_ERR.LANE_LASTING
        (s.trimDrop g, true)
    | none, none => (((s.swapStart g k false true).set1 F.BLK_ERR.LANE_LASTING).trimDrop g, true)

/-- `n` failures of a forward lane: counted in BLK_LANEn and in the lane's bucket (R193, Table 14-6). -/
def State.laneFail (s : State) (g k n : Nat) : State :=
  let i := 25 * g + k
  let s := s.addSat (F.BLK_LANE.ERRORS i) n
  let s := (List.range n).foldl (fun s _ =>
    let b := s.bucket 0 i
    if b.2 then (b.1.laneReplace g k).1 else b.1) s
  s.laneShow i 0 i

/-- An AM at which the spare goes one stage further (R192). -/
def State.swapAm (s : State) (g : Nat) : State :=
  let x := s.grp g
  match x.swap with
  | none => s
  | some w =>
    let w := { w with ams := w.ams + 1 }
    if w.ams < 3 then
      let s := s.putGrp g { x with swap := some w }
      if w.ams = 1 then (if w.back then s.wr (F.BLK_LANE.LOGICAL (25 * g + w.lane)) w.lane else s.setSpare g w.lane)
      else s
    else if w.back then
      let s := s.putGrp g { x with swap := none, carried := none, good := false, faulty := none }
      let s := s.setSpare g 31
      match x.faulty with
      | some k => s.swapStart g k false true
      | none => match s.trim g with
        | some t => s.trimNext g t
        | none => s
    else
      let s := (s.wr (F.BLK_LANE.LOGICAL (25 * g + w.lane)) 31).incSat F.BLK_COUNTS.SWAPS
      let s := if w.good then s.wr (F.BLK_LANE.STATE (25 * g + w.lane)) 3 else s
      let s := s.putGrp g { x with swap := none, carried := some w.lane, good := w.good || x.good }
      if x.faulty.isSome then s.swapStart g w.lane true false
      else match s.trim g with
        | some t => if t.phase = 0 then s.searchStart g t else s
        | none => if w.good || x.good then s else s.swapStart g w.lane true false

end Sys2Proof.Machine
end

