-- ==== Sys2Proof/Machine/Link.lean ====
section
/-! DEFINITION. The commands of the BLK link: frames, markers, back-channel messages, bring-up, rates and spares (R154,
R166, R172 to R194, R322). -/
namespace Sys2Proof.Machine

/-! ### Frames -/

/-- The frame of a slot begins on every ACTIVE group: its position in each group's stream, and an AM after a frame
whose FRAME_NO is 7 modulo 8 (R177 to R180). `idle` counts the IDLE blocks of each group since its last frame or AM. -/
def State.frameBegin (s : State) (f : FrameOut) (idle : List Nat) : State :=
  let s := { s with blk := { s.blk with frame := some f } }
  (List.range 4).foldl (fun s g =>
    if s.grpState g ≠ 4 then s
    else
      let x := s.grp g
      let n := idle.getD g 0
      let b := x.blocks + n
      let x := { x with
        lastNo := x.frameNo, frameNo := (x.frameNo + 1) % 65536, blocks := b + 177, frames := x.frames + 1
        out := [.idle n x.blocks x.frames, .frame x.frameNo b x.frames] }
      s.putGrp g (if x.lastNo % 8 = 7 then x.am else x)) s

/-- At SS s − 1 plus 12 cycles the frame of slot s begins: as read, or blank. A slot that the tracker has marked blank is sent
nothing when the lanes are not free (`free`), and counts as not sent (R365); while the Guard acts every frame carries BLANK
and no AUTH (R141, R154, R176 to R180, R322). -/
def execFrameTransmitStart (free : Bool) (idle : List Nat) (s : State) : Host.Outcome State Fault Refusal :=
  match s.curLeaf with
  | none => done s
  | some (_, l, h) =>
    if s.slt.strobed < -1 then done s
    else match s.slotRec l.id (s.slt.strobed + 1).toNat with
      | none => done s
      | some r =>
        if r.sent || r.missed || (r.data && !r.read) then done s
        else if r.tracker && !free then done ((s.putSlot { r with missed := true }).pmcEvent 0x41 1 (engineInfo 0))
        else
          let data := r.data && !s.saf.acting
          let flags := (if data then 0 else 1) + (if r.auth && !s.saf.acting then 2 else 0)
            + 4 * s.rd F.BLK_CFG.PORT + (if r.slot = 0 then 8 else 0) + (if r.slot = hdrLast h then 16 else 0)
          let f : FrameOut := ⟨flags, l.id, r.slot, r.tPred, if data then r.words else []⟩
          let s := s.pmcEvent (if data then 0x40 else 0x41) 1 (engineInfo 0)
          let s := if r.data && !data then { s with dut := s.dut.uncount r } else s
          done ((s.putSlot { r with sent := true, data := data, words := [] }).frameBegin f idle)

/-- IDLE blocks that bring a group's blocks without a frame to 1,424: an AM since the last frame is one of them (R180). -/
def BlkGrp.idleRun (x : BlkGrp) : Nat :=
  match x.out.getLast? with
  | some (.am _) => 1423
  | _ => 1424

/-- After 1,424 blocks without a frame a group's lanes send an AM (R180). -/
def execAmIdleTimer (g : Fin 4) (s : State) : Host.Outcome State Fault Refusal :=
  let x := s.grp g
  if s.grpState g = 3 || s.grpState g = 4 then
    done (s.putGrp g { x with out := [.idle x.idleRun x.blocks x.frames] }.am)
  else done s

/-- At an AM the spare advances by one stage (R192). -/
def execSpareSwapAm (g : Fin 4) (s : State) : Host.Outcome State Fault Refusal :=
  if s.grpState g = 4 then done (s.swapAm g) else done s

/-! ### Back-channel messages -/

/-- The message of a back-channel data block, descrambled (R174, R185). -/
def backMsg (g : Nat) (b : BackBlock) : List Byte := (scramble (lfsrAfter (laneSeed g 31) b.index) b.bytes).1

/-- Whether a message is good: sixteen bytes with a good check, of this type and group (R185). -/
def backGood (g mtype : Nat) (msg : List Byte) : Bool :=
  msg.length = 16 && crc16 (msg.take 14) = fieldAt msg 14 2 && fieldAt msg 0 1 = mtype && fieldAt msg 1 1 % 4 = g

/-- An event of a back-channel's bucket, which sends the group to RECOVERY at a lasting fault (Table 14-6). -/
def State.backEvent (s : State) (g : Nat) : State :=
  let b := s.bucket 1 g
  let s := b.1.laneShow (100 + g) 1 g
  if b.2 && s.grpState g = 4 then s.grpRecover g else s

/-- A discarded message: flagged and counted (R185). -/
def State.backDiscard (s : State) (g : Nat) : State :=
  ((s.set1 F.BLK_ERR.BACK_CHECK).incSat F.BLK_COUNTS.BACK_CHECK).backEvent g

/-- The step of OFFSET that waits for the receiver's AM: it moves by one code, and one that is held at 0 or 63 sets RX_RANGE
(R377). -/
def State.rxAm (s : State) (g : Nat) : State :=
  match (s.cal.rxStep[g]?).join with
  | none => s
  | some up =>
    let s := { s with cal := { s.cal with rxStep := s.cal.rxStep.set g none } }
    let off := s.rd (F.CAL_RX.OFFSET g)
    if off = (if up then 63 else 0) then s.set1 F.CAL_ERR.RX_RANGE
    else s.wr (F.CAL_RX.OFFSET g) (if up then off + 1 else off - 1)

/-- What a received block does: a header that is neither data nor control is a block error of the lane; a control block is no
message, but an AM lets a step of OFFSET act; and a data block is a message, which acts when it is good and else is discarded
(R173, R185). -/
def State.backMessage (s : State) (g mtype : Nat) (b : BackBlock) (f : List Byte → State → State) : State :=
  match b.sync.val with
  | 1 => if backGood g mtype (backMsg g b) then f (backMsg g b) s else s.backDiscard g
  | 2 => if fieldAt b.bytes 0 1 = 0x3C then s.rxAm g else s
  | _ => (s.incSat (F.BLK_LANE.ERRORS (100 + g))).backEvent g

/-- TWN_LAST_TAKEOVER: a slot joins the last take-over record where it follows that record's slots, or begins a new one
(R289). -/
def State.takeExtend (s : State) (leaf slot : Nat) : State :=
  let first := s.rd F.TWN_LAST_TAKEOVER.FIRST_SLOT
  let n := s.rd F.TWN_LAST_TAKEOVER.SLOTS
  if s.rd F.TWN_LAST_TAKEOVER.LEAF = leaf && first + n = slot && n ≠ 0 then
    s.wr F.TWN_LAST_TAKEOVER.SLOTS (min (n + 1) 0xFFFF)
  else ((s.wr F.TWN_LAST_TAKEOVER.FIRST_SLOT slot).wr F.TWN_LAST_TAKEOVER.LEAF leaf).wr F.TWN_LAST_TAKEOVER.SLOTS 1

/-- A slot that was sent with data and AUTH and not fired is recorded (R186, R274). One strobed while both authority lines
were high, so that the plate had no authoritative port, is recorded as a take-over record is (R270, R289). -/
def State.plateReject (s : State) (r : SlotRec) (groups : List Nat) (grp mask result : Nat) : State :=
  let cols := colMask (groups.flatMap (fun g => (List.range 16).map (fun i => 16 * g + i)))
  let s := (s.set1 F.BLK_ERR.PLATE_REJECT).incSat F.BLK_COUNTS.REJECTED
  let s := ((s.wr F.BLK_LAST_REJECT.SLOT r.slot).wr F.BLK_LAST_REJECT.LEAF r.leaf).wr F.BLK_LAST_REJECT.GROUP grp
  let s := (s.wr F.BLK_LAST_REJECT.RESULT result).wr F.BLK_LAST_LANES.MASK mask
  if r.both && (result = 5 || result = 15) then (s.lacHandRes (r.lacuna 0x70 allCols)).takeExtend r.leaf r.slot
  else s.lacHandRes (r.lacuna 0x60 cols)

/-- A slot whose result is known, and whose groups have been heard as far as they will be, is settled (R186). -/
def State.slotSettle (s : State) (r : SlotRec) (result : Nat) : State :=
  let s := s.putSlot { r with settled := true }
  if r.data && r.auth && r.sent && 2 ≤ result && result ≤ 6 then
    let named := r.masks.filter (fun m => m.2 ≠ 0)
    let groups := if named.isEmpty then [0, 1, 2, 3] else named.map Prod.fst
    let grp := match lowestNat (named.map Prod.fst), lowestNat r.heard with
      | some g, _ => g
      | none, some g => g
      | none, none => 0
    let mask := ((r.masks.find? (fun m => m.1 = grp)).map Prod.snd).getD 0
    s.plateReject r groups grp mask result
  else s

/-- One slot's result in a STATUS of group `g`, with the lane mask when the STATUS is that slot's own (R186, R286). -/
def State.slotResult (s : State) (g leaf slot result : Nat) (mask : Option Nat) : State :=
  let s := if s.pairState = 3 && !s.twn.results.any (fun x => x.1 = leaf && x.2.1 = slot) then
      { s with twn := { s.twn with results := ((leaf, slot, result) :: s.twn.results).take 32768 } }
    else s
  match s.slotRec leaf slot with
  | none => s
  | some r =>
    if r.settled then s
    else
      let heard := if r.heard.contains g then r.heard else g :: r.heard
      let masks := match mask with
        | some m => (g, m) :: r.masks.filter (fun x => x.1 ≠ g)
        | none => r.masks
      let r := { r with result := some result, heard := heard, masks := masks }
      let s := s.putSlot r
      if result < 2 || 6 < result || heard.length = 4 then s.slotSettle r result else s

/-- STATUS: the results of up to four slots, and the failed lanes of its own slot (R184, R186, R193, Table 7-4). -/
def execStatus (g : Fin 4) (b : BackBlock) (s : State) : Host.Outcome State Fault Refusal :=
  done (s.backMessage g 0x61 b (fun msg s =>
    let leaf := fieldAt msg 2 2
    let slot := fieldAt msg 4 4
    let results := [fieldAt msg 8 1 % 16, fieldAt msg 8 1 / 16, fieldAt msg 9 1 % 16, fieldAt msg 9 1 / 16]
    let mask := fieldAt msg 10 3
    let s := results.zipIdx.foldl (fun s x =>
      if x.1 = 15 || slot < x.2 then s
      else s.slotResult g leaf (slot - x.2) x.1 (if x.2 = 0 then some mask else none)) s
    (List.range 24).foldl (fun s j =>
      if mask / 2 ^ j % 2 = 1 then s.laneFail g (s.physical g j) 1 else s) s))

/-- The deadline of the oldest strobed slot that is not settled passes: without any STATUS it is unconfirmed; with
one, its result stands (R186). -/
def execStatusLost (s : State) : Host.Outcome State Fault Refusal :=
  let cur := s.curLeaf.map (fun c => c.2.1.id)
  let waiting := s.slt.slots.filter (fun (r : SlotRec) =>
    !r.settled && (cur ≠ some r.leaf || decide ((r.slot : Int) ≤ s.slt.strobed)))
  match waiting.getLast? with
  | none => done s
  | some r => match r.result with
    | some x => done (s.slotSettle r x)
    | none =>
      let s := (s.putSlot { r with settled := true }).set1 F.BLK_ERR.STATUS_LOST
      if r.data && r.auth && r.sent then done (s.plateReject r [0, 1, 2, 3] 0 0 15) else done s

/-- TEMP: the plate's temperature (R166, R187). -/
def execTemp (g : Fin 4) (b : BackBlock) (s : State) : Host.Outcome State Fault Refusal :=
  done (s.backMessage g 0x62 b (fun msg s => s.tempReport (signed 16 (fieldAt msg 2 2))))

/-- No valid TEMP for 1 ms: a hard plate-temperature threshold until a report below RESUME (R163, R187). -/
def execTempSilent (s : State) : Host.Outcome State Fault Refusal :=
  let s := { (s.set1 F.BLK_ERR.TEMP_SILENT) with dut := { s.dut with silent := true } }
  done ((s.earlyEnd true 9).slowShow)

/-- MARGIN: a lane's eye figures; a report for the lane under trial that comes at least SETTLE after its codes changed
judges the trial (R375, Table 7-4). -/
def execMargin (g : Fin 4) (b : BackBlock) (s : State) : Host.Outcome State Fault Refusal :=
  done (s.backMessage g 0x63 b (fun msg s =>
    let k := fieldAt msg 2 1
    let hm := fieldAt msg 4 1
    let vm := fieldAt msg 5 1
    if 24 < k then s
    else
      let s := (s.wr (F.BLK_LANE.H_MARGIN (25 * g + k)) hm).wr (F.BLK_LANE.V_MARGIN (25 * g + k)) vm
      match s.trim g with
      | some t =>
        if t.phase = 1 && t.lane = k && t.since + 4000 * s.rd F.CAL_CFG.SETTLE ≤ s.cycle then s.trialJudge g t hm vm else s
      | none => s))

/-- A plate HELLO: shown for the lowest group that has sent one. The first valid one takes LISTEN to CHECK, in which the next
one is judged (R188, R189, Table 7-6; DESIGN CHOICE, log 178). -/
def execHello (g : Fin 4) (b : BackBlock) (s : State) : Host.Outcome State Fault Refusal :=
  done (s.backMessage g 0x64 b (fun msg s =>
    let version := fieldAt msg 2 1
    let maxRate := fieldAt msg 3 1
    let step := fieldAt msg 4 2
    let port := fieldAt msg 6 1
    let lower := (List.range g.val).any (fun i => (s.grp i).maxRate.isSome)
    let s := s.putGrp g { s.grp g with maxRate := some maxRate, backLock := true }
    let s := if lower then s
      else ((((s.wr F.BLK_PLATE.PLATE_ID (fieldAt msg 8 4)).wr F.BLK_PLATE.MAX_RATE maxRate).wr F.BLK_PLATE.PORT port).wr
        F.BLK_PLATE.STEP_PS step).wr F.BLK_PLATE.VERSION version
    if s.grpState g = 1 then s.setGrpState g 2
    else if s.grpState g = 2 then
      if version = 1 && port = s.rd F.BLK_CFG.PORT && step = s.rd F.DUT_CFG.STEP_PS then
        (s.putGrp g { s.grp g with alignFrom := 0, rate := 0 }).grpAlign g
      else ((s.setGrpState g 7).lanesState g 0).set1 F.BLK_ERR.PLATE_CAP
    else s))

/-- RATE: a step accepted, or lanes locked, which takes ALIGN to ACTIVE once all 25 are (R188, R190). -/
def execRate (g : Fin 4) (b : BackBlock) (s : State) : Host.Outcome State Fault Refusal :=
  done (s.backMessage g 0x65 b (fun msg s =>
    let rate := fieldAt msg 2 1
    let kind := fieldAt msg 3 1
    let mask := fieldAt msg 4 4
    if kind = 0 then
      if s.grpState g = 5 && s.blk.stepTo = some rate then s.putGrp g { s.grp g with accepted := true } else s
    else
      let s := (List.range 25).foldl (fun s k => s.wr (F.BLK_LANE.LOCKED (25 * g + k)) (mask / 2 ^ k % 2)) s
      if s.grpState g = 3 && rate = (s.grp g).rate && mask % 2 ^ 25 = 2 ^ 25 - 1 then
        let s := (s.grpActive g).linkRate
        let s := if s.linkActive && s.mode = 1 then { s with blk := { s.blk with stepReq := true } } else s
        if s.cal.again.contains g.val then s.runTrigger else s
      else s))

/-- LANE_EVENT: failures of a lane; a loss of block lock starts its substitution at once, sends the group to RECOVERY
when the spare cannot cover it, or makes a trial worse (R193, R375, R376). -/
def execLaneEvent (g : Fin 4) (b : BackBlock) (s : State) : Host.Outcome State Fault Refusal :=
  done (s.backMessage g 0x66 b (fun msg s =>
    let k := fieldAt msg 2 1
    let lost := fieldAt msg 3 1 = 1
    let n := max 1 (fieldAt msg 4 4)
    if 24 < k then s
    else
      let trial := match s.trim g with
        | some t => if t.phase = 1 && t.lane = k then some t else none
        | none => none
      let s := if lost then s.clr (F.BLK_LANE.LOCKED (25 * g + k)) else s
      match trial with
      | some t =>
        let s := s.laneFail g k n
        if lost && s.trim g = some t then s.trialLost g t else s
      | none =>
        let s := s.laneFail g k n
        let x := s.grp g
        let covered := (x.carried = some k && x.good) || x.faulty = some k
          || x.swap.any (fun (w : LaneSwap) => w.lane = k && w.good && !w.back)
        if !lost || s.grpState g ≠ 4 || covered || (k = 24 && x.carried.isNone) then s
        else
          let r := s.laneReplace g k
          if r.2 then r.1 else r.1.grpRecover g))

/-! ### Bring-up and rate -/

/-- ALIGN has failed for 1 ms: back to LISTEN, to the rate before the step, or to the next lower rate (Table 7-6,
R188). -/
def execBlkAlignTimeout (g : Fin 4) (s : State) : Host.Outcome State Fault Refusal :=
  if s.grpState g ≠ 3 then done s
  else
    let x := s.grp g
    let paused := s.grpPause g
    let listen := (paused.putGrp g { (paused.grp g).atRate 0 with backLock := false }).setGrpState g 1
    match x.alignFrom with
    | 1 =>
      let s := s.wr F.BLK_STATUS.FAILED_RATES (s.rd F.BLK_STATUS.FAILED_RATES ||| 2 ^ x.rate)
      let s := { s with blk := { s.blk with stepTo := none } }
      done (s.allAlign x.prevRate 2)
    | 2 => if x.rate = 0 then done listen else done ((s.set1 F.BLK_ERR.RATE_FALLBACK).allAlign (x.rate - 1) 2)
    | _ => done listen

/-- The back-channel has brought no valid block for 10 µs (Table 7-6). -/
def execBlkBackchannelSilent (g : Fin 4) (s : State) : Host.Outcome State Fault Refusal :=
  let s := (s.putGrp g { s.grp g with backLock := false }).clr (F.BLK_LANE.LOCKED (100 + g))
  done (if s.grpState g = 4 then s.grpRecover g else s)

/-- The back-channel gains block lock: a group in RECOVERY goes to ALIGN; one in LISTEN waits for a HELLO (Table
7-6). -/
def execBlkBackchannelLock (g : Fin 4) (s : State) : Host.Outcome State Fault Refusal :=
  let s := (s.putGrp g { s.grp g with backLock := true }).set1 (F.BLK_LANE.LOCKED (100 + g))
  let s := if s.grpState g = 0 || s.grpState g = 8 then s else s.wr (F.BLK_LANE.STATE (100 + g)) 2
  if s.grpState g = 6 then done ((s.putGrp g { s.grp g with alignFrom := 2 }).grpAlign g) else done s

/-- Both ends change rate 10 µs after the step was accepted (Table 7-6). -/
def execBlkRateSwitch (s : State) : Host.Outcome State Fault Refusal :=
  match s.blk.stepTo with
  | none => done s
  | some r =>
    if [0, 1, 2, 3].all (fun g => s.grpState g = 5 && (s.grp g).accepted) then
      done ([0, 1, 2, 3].foldl (fun s g => s.putGrp g { s.grp g with prevRate := (s.grp g).rate }) s |>.allAlign r 1)
    else done s

/-- A step-up begins once the tracker is IDLE and all groups are ACTIVE; with no rate left the request ends, and at
BOOT the first re-trim run starts (R190, R374). -/
def execBlkStepUpStart (s : State) : Host.Outcome State Fault Refusal :=
  if !s.blk.stepReq || s.blk.stepTo.isSome || !s.linkActive || s.rd F.SLT_STATUS.STATE ≠ 0 then done s
  else match s.nextRate with
    | none =>
      let s := { s with blk := { s.blk with stepReq := false } }
      done (if s.cal.begun then s else s.runTrigger)
    | some r =>
      let s := { s with blk := { s.blk with stepTo := some r } }
      done ([0, 1, 2, 3].foldl (fun s g =>
        let s := s.grpPause g
        (s.putGrp g { s.grp g with accepted := false }).setGrpState g 5) s)

/-- A group enters LISTEN at 8 Gbit/s; where that changes its rate, its lanes load the codes of the rate (Table 7-6, R376). -/
def State.grpListen (s : State) (g : Nat) : State :=
  let s := if (s.grp g).rate = 0 then s else s.rateCodes g 0
  (((s.putGrp g { s.grp g with rate := 0, blocks := 0, frames := 0, maxRate := none, backLock := false }).setGrpState g 1).lanesState g 1).wr
    (F.BLK_LANE.STATE (100 + g)) 1

/-- BLK_CTL.ENABLE written 1: bring-up starts, or is held while a group is DISABLING (R194). -/
def State.blkEnable (s : State) : State :=
  if [0, 1, 2, 3].any (fun g => s.grpState g = 8) then s.set1 F.BLK_STATUS.PENDING_ENABLE
  else
    let s := s.set1 F.BLK_CTL.ENABLE
    (List.range 4).foldl (fun s g => if s.grpState g = 0 then s.grpListen g else s) s
def execBlkEnable (m : Master) (s : State) : Host.Outcome State Fault Refusal :=
  done (s.gated m F.BLK_CTL.ENABLE.off State.blkEnable)

/-- Every lane of a group stops, and the group drains (R194). -/
def State.grpDisable (s : State) (g : Nat) : State :=
  if s.grpState g = 0 || s.grpState g = 8 then s
  else
    let x := s.grp g
    let keep := x.swap.any (fun (w : LaneSwap) => w.good)
    let s := s.trimAbandon g
    let s := s.putGrp g { x with
      backLock := false, swap := if keep then x.swap else none, carried := if x.good then x.carried else none }
    let s := if x.good || keep then s else s.setSpare g 31
    let s := ((s.setGrpState g 8).lanesState g 0).wr (F.BLK_LANE.STATE (100 + g)) 0
    (List.range 25).foldl (fun s k => s.clr (F.BLK_LANE.LOCKED (25 * g + k))) s

/-- BLK_CTL.ENABLE written 0; it cancels a pending enable (R194). -/
def State.blkDisable (s : State) : State :=
  let s := (s.clr F.BLK_CTL.ENABLE).clr F.BLK_STATUS.PENDING_ENABLE
  let s := { s with blk := { s.blk with stepTo := none, stepReq := false } }
  (List.range 4).foldl State.grpDisable s
def execBlkDisable (m : Master) (s : State) : Host.Outcome State Fault Refusal :=
  done (s.gated m F.BLK_CTL.ENABLE.off State.blkDisable)

/-- BLK_CTL.STEP_UP requests a step up, which waits for the tracker (R190). -/
def State.blkStepUp (s : State) : State := { s with blk := { s.blk with stepReq := true } }
def execBlkStepUp (m : Master) (s : State) : Host.Outcome State Fault Refusal :=
  done (s.gated m F.BLK_CTL.STEP_UP.off State.blkStepUp)

/-- BLK_CTL.RETRAIN sends every ACTIVE group to RECOVERY at the link rate (BLK_CTL). -/
def State.blkRetrain (s : State) : State :=
  (List.range 4).foldl (fun s g => if s.grpState g = 4 then s.grpRecover g else s) s
def execBlkRetrain (m : Master) (s : State) : Host.Outcome State Fault Refusal :=
  done (s.gated m F.BLK_CTL.RETRAIN.off State.blkRetrain)

/-- A disabling group's pipelines have drained (R194). -/
def execBlkDrainComplete (g : Fin 4) (s : State) : Host.Outcome State Fault Refusal :=
  if s.grpState g ≠ 8 then done s
  else
    let s := s.setGrpState g 0
    if !s.bit F.BLK_STATUS.PENDING_ENABLE then done s
    else
      let s := (List.range 4).foldl (fun s g => if s.grpState g = 0 then s.grpListen g else s) (s.set1 F.BLK_CTL.ENABLE)
      done (if [0, 1, 2, 3].any (fun g => s.grpState g = 8) then s else s.clr F.BLK_STATUS.PENDING_ENABLE)

end Sys2Proof.Machine
end

