-- ==== Sys2Proof/Machine/BootOps.lean ====
section
/-! DEFINITION. The shared operations of start-up: changes of mode, failed starts and the reset of every domain but the
always-on one (R292, R293, R310 to R312). -/
namespace Sys2Proof.Machine

/-- An encoder input without an index starts its count at 0 on leaving BOOT, and is referenced at once (R147). -/
def State.encStart (s : State) : State :=
  let s := s.whenD (!s.bit F.SLT_ENC_CFG.USE_INDEX0) (fun s => (s.wr F.SLT_POS0.POS 0).set1 F.SLT_STATUS.REF0)
  s.whenD (!s.bit F.SLT_ENC_CFG.USE_INDEX1) (fun s => (s.wr F.SLT_POS1.POS 0).set1 F.SLT_STATUS.REF1)

def State.leaveBoot (s : State) : State := if s.mode = 1 then s.encStart else s

/-- The mode changes, with its Accession Log record (Table 13-1, Table 15-8). -/
def State.setMode (s : State) (mode : Nat) : State :=
  let t := if mode = 1 then s else s.leaveBoot
  (t.wr F.BOOT_STATUS.MODE mode).aclLog 0x0105 (leBytes 1 s.mode ++ leBytes 1 mode)

/-- The first position that the persistent copy still needs: COPIED, or the oldest record held (R361). -/
def State.flushFrom (s : State) : Nat :=
  let oldest := (s.rd F.ACL_STATUS.NEXT + 2 ^ 32 - s.rd F.ACL_STATUS.HELD) % 2 ^ 32
  let copied := s.rd F.ACL_COPY.COPIED
  if (oldest + 2 ^ 32 - copied) % 2 ^ 32 < 2 ^ 31 then oldest else copied

/-- The records from that position on, oldest first. -/
def State.flushRecs (s : State) : List AclRec :=
  (s.acl.ring.take ((s.rd F.ACL_STATUS.NEXT + 2 ^ 32 - s.flushFrom) % 2 ^ 32)).reverse

/-- No record waits for the persistent copy. -/
def State.flushed (s : State) : State :=
  { s with acl := { s.acl with copying := none } }.wr F.ACL_COPY.COPIED (s.rd F.ACL_STATUS.NEXT)

/-- Every record on die reaches the persistent copy, up to 64 at a time and a Guard record by itself (R361). -/
def State.aclFlush (s : State) : State :=
  if s.bit F.BOOT_STATUS.MRAM_ABSENT then s
  else ({ s with acl := { s.acl with spi := [] } }.copyAll s.flushRecs.length s.flushFrom s.flushRecs).flushed

/-- The attempt record in the first bytes of the MRAM. DESIGN CHOICE (log 171): R311 gives no layout; byte 0 holds the reason
that entered last, byte 1 the number of failures, eight bytes from byte 4 on each failure, and bytes 188 to 191 the CRC-32C. -/
def attemptBytes (last : Nat) (fails : List (Nat × Nat)) : List Byte :=
  let b := leBytes 1 last ++ leBytes 1 fails.length ++ leBytes 2 0 ++ fails.flatMap (fun a => leBytes 4 a.1 ++ leBytes 4 a.2)
  let b := (b ++ List.replicate 188 0#8).take 188
  b ++ leBytes 4 (crc32c b)

/-- What the MRAM's attempt record holds: the reason and the failures, none where its CRC-32C fails (R311). -/
def State.attemptMram (s : State) : Nat × List (Nat × Nat) :=
  let b := memRead s.acl.mram 0 192
  if !s.boot.mramFitted || crc32c (b.take 188) ≠ fieldAt b 188 4 then (0, [])
  else (fieldAt b 0 1, (List.range (min 3 (fieldAt b 1 1))).map (fun i => (fieldAt b (4 + 8 * i) 4, fieldAt b (8 + 8 * i) 4)))

/-- The failures that count: those of the always-on domain, or, after a loss of VDD_AON, those of the MRAM, taken as having
occurred when VDD_AON returned (R311). -/
def State.attemptsKnown (s : State) : List (Nat × Nat) :=
  if s.boot.aonLost then s.attemptMram.2.map (fun a => (a.1, 0)) else s.boot.attempts

/-- The attempt record written in both copies (R311). -/
def State.attemptPut (s : State) (last : Nat) (fails : List (Nat × Nat)) : State :=
  let s := { s with boot := { s.boot with attempts := fails, lastFail := last, aonLost := false } }
  if s.boot.mramFitted then s.mramWrite 0 (attemptBytes last fails) else s

/-- A failed start enters the attempt record, which holds the last three (R311). -/
def State.attemptAdd (s : State) (reason : Nat) : State :=
  s.attemptPut reason (((reason, s.boot.aonSec) :: s.attemptsKnown).take 3)

/-- The failed starts of the record that are younger than 10 minutes (R311). -/
def State.attemptCount (s : State) : Nat :=
  (s.boot.attempts.filter (fun a => s.boot.aonSec < a.2 + 600)).length

/-- ATTEMPTS, LAST_FAIL and FAIL_AGE as the record gives them. -/
def State.attemptShow (s : State) : State :=
  let s := s.wr F.BOOT_REASON.ATTEMPTS (min 3 s.attemptCount)
  let s := s.wr F.BOOT_REASON.LAST_FAIL s.boot.lastFail
  match s.boot.attempts with
  | [] => s.wr F.BOOT_REASON.FAIL_AGE 0
  | a :: _ => s.wr F.BOOT_REASON.FAIL_AGE (satTo F.BOOT_REASON.FAIL_AGE (s.boot.aonSec - a.2))

/-- The straps are latched at these levels, as every reset latches them (R384, R403). -/
def State.straps (s : State) (role flash testN : Bool) : State :=
  let s := ((s.wrBit F.PAD_STRAPS.TWIN_ROLE role).wrBit F.PAD_STRAPS.FLASH_1S flash).wrBit F.PAD_STRAPS.TEST_EN_N testN
  ((s.wrBit F.PAD_STRAPS.LIVE_ROLE role).wrBit F.PAD_STRAPS.LIVE_FLASH_1S flash).wrBit F.TWN_STATUS.STRAP_ROLE role

/-- The levels of the straps at their pins. -/
def State.liveStraps (s : State) (role flash testN : Bool) : State :=
  { (s.wrBit F.PAD_STRAPS.LIVE_ROLE role).wrBit F.PAD_STRAPS.LIVE_FLASH_1S flash with pin := { s.pin with testLevel := testN } }

/-- Every domain but the always-on one is reset, and the straps are latched again; with TEST_EN_N low the device enters the
factory test state, in which BOOT does not start (R310, R384, R403). What stays: the flash, the fuses, the MRAM, the attempt
record, the levels of the pins and an accepted blanking request, host memory, and the model's own counters and queue. -/
def State.domainReset (s : State) (mode cause : Nat) : State :=
  let r := State.reset
  let test := mode ≠ 0 && !s.pin.testLevel
  let t : State := { r with
    hostMem := s.hostMem
    hostPoison := s.hostPoison
    free := s.free
    cycle := s.cycle
    hif := { r.hif with sent := s.hif.sent }
    acl := { r.acl with mram := s.acl.mram, mramNext := s.acl.mramNext }
    boot := { r.boot with
      flash := s.boot.flash
      flashSfdp := s.boot.flashSfdp
      fuseHash := s.boot.fuseHash
      attempts := s.boot.attempts
      lastFail := s.boot.lastFail
      aonSec := s.boot.aonSec
      aonPart := s.boot.aonPart
      aonLost := s.boot.aonLost
      mramFitted := s.boot.mramFitted
      cleanMark := s.boot.cleanMark
      powerLost := s.boot.powerLost
      powerGood := s.boot.powerGood }
    twn := { r.twn with peerLow := s.twn.peerLow }
    pin := { s.pin with failOut := true, testState := test }
    pending := s.pending }
  let t := (t.wr F.TWN_STATUS.PEER_AUTH (s.rd F.TWN_STATUS.PEER_AUTH)).wr F.TWN_STATUS.PEER_FAIL
    (s.rd F.TWN_STATUS.PEER_FAIL)
  let t := t.wrBit F.SLT_STATUS.BLANK_REQ (s.bit F.SLT_STATUS.BLANK_REQ)
  let t := t.straps (s.bit F.PAD_STRAPS.LIVE_ROLE) (s.bit F.PAD_STRAPS.LIVE_FLASH_1S) s.pin.testLevel
  let t := t.wr F.BOOT_STATUS.MODE (if test then 0 else mode)
  let t := (t.wr F.BOOT_FUSE.KEY_SET (s.rd F.BOOT_FUSE.KEY_SET)).wr F.BOOT_FUSE.KEY_REVOKED
    (s.rd F.BOOT_FUSE.KEY_REVOKED)
  (t.wr F.BOOT_REASON.RESET cause).attemptShow

/-- Every CAT field takes its reset value (R312, Table 18-2). -/
def State.catReset (s : State) : State :=
  s.regs.foldl (fun s e =>
    match rowAt e.1 with
    | none => s
    | some (r, _) =>
      let c := BitVec.ofNat 64 r.cat
      s.setReg e.1 ((s.reg e.1 &&& ~~~c) ||| (regReset e.1 &&& c))) s

/-- The leaves that the device holds are dropped: STORAGE admits none (Table 13-1). -/
def State.leavesDrop (s : State) : State :=
  let s : State := { s with
    fol := { s.fol with place0 := none, place1 := none, cur := none, order := [] }
    slt := { s.slt with endAt := none, lbDue := false, near := false, window := 0, slots := [] } }
  (s.wr F.SLT_STATUS.STATE 0).folShow

/-- The Keeper and the Docents are held in reset, and STORAGE is shown (R312, KPR_STATUS). -/
def State.storageMark (s : State) : State :=
  (((s.set1 F.BOOT_REASON.STORAGE).wr F.KPR_STATUS.STATE 2).wr F.DOC_STATUS.STATE 0).attemptShow

/-- STORAGE is entered: CAT fields take their reset values, the BLK link is disabled, the axes are disabled with every
ENA_N high, TWIN_AUTH is low and TWIN_FAIL_OUT high. The rings are disabled and the link falls to Gen1 x1 (R32). No other
register is reset (R312, Table 18-2). -/
def State.storageEnter (s : State) : State :=
  let s := (s.leavesDrop.storageLink.blkDisable.axDisable).catReset
  let s := [0, 1, 2, 3, 4, 5].foldl (fun s a => s.axEna a true) s
  let s : State := { s.clr F.TWN_STATUS.AUTH with
    pin := { s.pin with failOut := true }
    saf := { s.saf with wdogOn := false, groupRunning := false, overdue := false }
    boot := { s.boot with regions := [], runHold := false }
    twn := { s.twn with demand := false, handover := none } }
  s.storageMark

/-- After a failed start BOOT begins again, or the third failure within 10 minutes, or NO_KEY, leads to STORAGE. A restart
from SAFE resets the device in either case (R310, R311, R315, Table 18-2). -/
def State.afterFail (s : State) (reason cause : Nat) : State :=
  let storage := reason = 1 || 3 ≤ s.attemptCount
  let s := s.setMode (if storage then 4 else 1)
  if !storage then s.aclFlush.domainReset 1 cause
  else if cause = 3 then
    let s := s.aclFlush.domainReset 4 cause
    if s.mode = 4 then s.storageMark else s
  else s.storageEnter

/-- The step of Table 13-4 that a failed start is put down to: the step of its reason among steps 6 to 9, which run
together, else the last step begun. -/
def State.failStep (s : State) (reason : Nat) : Nat :=
  match reason with
  | 6 => 6
  | 8 => 7
  | 9 => 8
  | 0xA => 9
  | 0xB => 9
  | _ => s.rd F.BOOT_STATUS.STEP

/-- The START_FAIL record: the reason, the step and the first register refused (Table 15-8). -/
def State.failRecord (s : State) (reason refused : Nat) : State :=
  s.aclLog 0x0104 (leBytes 1 reason ++ leBytes 1 (s.failStep reason) ++ leBytes 2 0 ++ leBytes 4 refused)

/-- A failed start in BOOT, PREVIEW or RUN (R310, Table 13-5). While the Guard acts, its SAFE entry is the one failure
that counts (R293); a device that has quiesced leaves only through RESET_N (R318). -/
def State.failStart (s : State) (reason refused : Nat) : State :=
  if s.mode = 0 || 4 ≤ s.mode || s.saf.acting || s.bit F.BOOT_STATUS.QUIESCED then s
  else ((s.failRecord reason refused).attemptAdd reason).afterFail reason 4

end Sys2Proof.Machine
end

