-- ==== Sys2Proof/Machine/Catalogue.lean ====
section
/-! DEFINITION. The catalogue: its slots and sections, and what the Keeper checks before it applies them (R294 to R301,
Tables 13-2 and 13-3). -/
namespace Sys2Proof.Machine

/-! ### Slots and sections -/

/-- An unlisted flash byte reads as erased. -/
def flashDefault : Nat → Byte := fun _ => 0xFF#8

/-- `n` bytes of the flash from an address. -/
def State.flashRead (s : State) (a n : Nat) : List Byte :=
  (List.range n).map (fun i => smGet flashDefault s.boot.flash (a + i))

/-- The flash address of slot A (0) or B (1) (R294). -/
def slotAddr (slot : Nat) : Nat := slot * 0x1000000

/-- A directory entry in use: TYPE, OFFSET, LEN and CRC (Table 13-2). -/
structure Section where
  type : Nat
  off : Nat
  len : Nat
  crc : Nat
  deriving DecidableEq, Repr

/-- The header of a slot. -/
def State.slotHeader (s : State) (slot : Nat) : List Byte := s.flashRead (slotAddr slot) 256

/-- The sections that a header names. -/
def sectionsOf (h : List Byte) : List Section :=
  (List.range (min 10 (fieldAt h 20 2))).map (fun i =>
    ⟨fieldAt h (96 + 16 * i) 2, fieldAt h (100 + 16 * i) 4, fieldAt h (104 + 16 * i) 4, fieldAt h (108 + 16 * i) 4⟩)

/-- The section of a type. -/
def sectionOf (h : List Byte) (type : Nat) : Option Section := (sectionsOf h).find? (fun c => c.type = type)

/-- The bytes of a section of a slot. -/
def State.sectionBytes (s : State) (slot : Nat) (c : Section) : List Byte := s.flashRead (slotAddr slot + c.off) c.len
def State.sectionData (s : State) (slot type : Nat) : List Byte :=
  match sectionOf (s.slotHeader slot) type with
  | some c => s.sectionBytes slot c
  | none => []

/-- How often a type occurs. -/
def typeCount (cs : List Section) (t : Nat) : Nat := (cs.filter (fun c => c.type = t)).length

/-- Whether two ranges meet. -/
def meets (a n b m : Nat) : Bool := a < b + m && b < a + n

/-- Whether some two ranges of a list meet. -/
def anyMeet : List (Nat × Nat) → Bool
  | [] => false
  | r :: rs => rs.any (fun q => meets r.1 r.2 q.1 q.2) || anyMeet rs

/-- MAGIC, FORMAT, DEVICE, lengths and directory as R295 and R296 have them. -/
def headerGood (h : List Byte) : Bool :=
  let n := fieldAt h 20 2
  let len := fieldAt h 16 4
  let cs := sectionsOf h
  fieldAt h 0 4 = 0x4C475443 && fieldAt h 4 2 = 1 && fieldAt h 6 2 = 0x0262 && fieldAt h 22 2 = 0
    && len % 64 = 0 && 256 ≤ len && len ≤ 16 * 2 ^ 20 - 64 && 1 ≤ n && n ≤ 10
    && (List.range n).all (fun i => fieldAt h (98 + 16 * i) 2 = 0)
    && (List.range 10).all (fun i => i < n || leNat ((h.drop (96 + 16 * i)).take 16) = 0)
    && cs.all (fun c => 1 ≤ c.type && c.type ≤ 6 && c.off % 8 = 0 && c.off + c.len ≤ len)
    && !anyMeet (cs.map (fun c => (c.off, c.len)))
    && [1, 3, 4, 6].all (fun t => typeCount cs t = 1) && [2, 5].all (fun t => typeCount cs t ≤ 1)

/-- Key slots that are programmed and not revoked. -/
def State.keysValid (s : State) : List Nat :=
  (List.range 4).filter (fun n => s.rd F.BOOT_FUSE.KEY_SET / 2 ^ n % 2 = 1 && s.rd F.BOOT_FUSE.KEY_REVOKED / 2 ^ n % 2 = 0)

/-- The valid key slot that holds the hash of a public key (R297). -/
def State.keyOf (s : State) (key : List Byte) : Option Nat :=
  s.keysValid.find? (fun n => smGet (fun _ => 0) s.boot.fuseHash n = Config.sha256 key)

/-- The reason for which a slot is not valid: 4 FORMAT, 3 SIGNATURE; `none` where it is valid (R297). -/
def State.slotFault (s : State) (slot : Nat) : Option Nat :=
  let h := s.slotHeader slot
  if !headerGood h || (sectionsOf h).any (fun c => crc32c (s.sectionBytes slot c) ≠ c.crc) then some 4
  else
    let len := fieldAt h 16 4
    let key := (h.drop 24).take 32
    let a := slotAddr slot
    if (s.keyOf key).isSome && Config.ed25519Verify key (s.flashRead a len) (s.flashRead (a + len) 64) then none
    else some 3

/-- The slot that the boot ROM tries first: the higher SEQUENCE, or slot A (R298). -/
def State.firstSlot (s : State) : Nat :=
  if fieldAt (s.slotHeader 0) 12 4 < fieldAt (s.slotHeader 1) 12 4 then 1 else 0

/-- CAT_HASH of a slot (R299). -/
def State.catHash (s : State) (slot : Nat) : Nat :=
  crc32c (((sectionsOf (s.slotHeader slot)).filter (fun c => 1 ≤ c.type && c.type ≤ 4)).flatMap (s.sectionBytes slot))

/-- The device is bound to a slot: its header is loaded (R298, R299, BOOT_CAT). -/
def State.bindSlot (s : State) (slot : Nat) : State :=
  let h := s.slotHeader slot
  let key := (h.drop 24).take 32
  let doc := (h.drop 56).take 32
  let at_ := match sectionOf h 4 with
    | some c => (slotAddr slot + c.off, c.len)
    | none => (0, 0)
  let s := ((s.wr F.BOOT_STATUS.SLOT slot).wr F.BOOT_CAT.SEQUENCE (fieldAt h 12 4)).wr F.BOOT_CAT.CAT_HASH (s.catHash slot)
  let s := s.wr F.BOOT_FUSE.KEY_USED ((s.keyOf key).getD 0)
  { s with boot := { s.boot with
    slotBound := some slot
    publicKey := key
    docentKey := if doc.all (· = 0#8) then key else doc
    docentAt := at_ } }

/-! ### Settings and tables -/

/-- A 16-byte settings entry: its offset, its zero word and its value (Table 13-3). -/
def settingsOf (b : List Byte) : List (Nat × Nat × Word) :=
  (List.range (b.length / 16)).map (fun i =>
    (fieldAt b (16 * i) 4, fieldAt b (16 * i + 4) 4, BitVec.ofNat 64 (fieldAt b (16 * i + 8) 8)))

/-- Whether a settings entry names a register of CAT fields and keeps its other bits zero (R296, R300, R404). -/
def entryGood (e : Nat × Nat × Word) : Bool :=
  e.1 % 8 = 0 && e.2.1 = 0 && (match rowAt e.1 with
    | some (r, _) => decide (r.cat ≠ 0) && decide (e.2.2 &&& ~~~(BitVec.ofNat 64 r.cat) = 0)
    | none => false)

/-- Registers that the DEVICE section may name (Table 13-3). -/
def deviceReg (off : Nat) : Bool :=
  [F.TWN_CFG.MODE.off, F.BLK_CFG.PORT.off, F.TIM_CFG.NODE_ID.off, F.TIM_CLOCK_ID.ID.off, F.TIM_LATENCY.RX0.off,
    (F.TIM_ETH_CFG.MAC 0).off, (F.TIM_ETH_CFG.MAC 1).off].contains off || off / 0x10000 = 0x25

/-- Offsets in ascending order, each once. -/
def rising : List Nat → Bool
  | [] => true
  | [_] => true
  | a :: b :: cs => a < b && rising (b :: cs)

/-- One word of a TABLES record put in its place: a 32-bit register, or a half of a wide one. -/
def State.catWord (s : State) (off : Nat) (v : Nat) : Option State :=
  match rowAt off with
  | some (r, _) =>
    let w := s.reg off
    if r.cat % 2 ^ 32 = 0 || BitVec.ofNat 64 v &&& ~~~(BitVec.ofNat 64 r.cat) ≠ 0 then none
    else some (s.setReg off ((w &&& BitVec.ofNat 64 highMask) ||| BitVec.ofNat 64 v))
  | none => match rowAt (off - 4) with
    | some (r, _) =>
      let u := BitVec.ofNat 64 (v * 2 ^ 32)
      if off % 8 ≠ 4 || !r.wide || r.cat / 2 ^ 32 = 0 || u &&& ~~~(BitVec.ofNat 64 r.cat) ≠ 0 then none
      else some (s.setReg (off - 4) ((s.reg (off - 4) &&& BitVec.ofNat 64 lowMask) ||| u))
    | none => none

/-- The words of a record put one after another, or the offset of the first that no CAT register takes. -/
def State.catWords (s : State) (off : Nat) : List Nat → State × Option Nat
  | [] => (s, none)
  | w :: ws => match s.catWord off w with
    | some s' => s'.catWords (off + 4) ws
    | none => (s, some off)

/-- The records of a TABLES section, each within the fuel that its length gives (Table 13-3). -/
def State.catTables (s : State) : Nat → List Byte → State × Option Nat
  | 0, _ => (s, none)
  | fuel + 1, b =>
    if b.length < 8 then (s, if b.isEmpty then none else some 0)
    else
      let off := fieldAt b 0 4
      let n := fieldAt b 4 4
      if b.length < 8 + 4 * n then (s, some off)
      else
        let r := s.catWords off ((List.range n).map (fun i => fieldAt b (8 + 4 * i) 4))
        if r.2.isSome then r else r.1.catTables fuel (b.drop (8 + (4 * n + 7) / 8 * 8))

/-- Every word that a TABLES section gives a register, with its offset (Table 13-3). -/
def tableWords : Nat → List Byte → List (Nat × Nat)
  | 0, _ => []
  | fuel + 1, b =>
    if b.length < 8 then []
    else
      let off := fieldAt b 0 4
      let n := fieldAt b 4 4
      (List.range n).map (fun i => (off + 4 * i, fieldAt b (8 + 4 * i) 4))
        ++ tableWords fuel (b.drop (8 + (4 * n + 7) / 8 * 8))

/-- A pipeline whose VC and DT the settings and tables of a catalogue name in more than one way: more than one camera, or
two data types (R222). -/
def camerasTwo (given : List (Nat × Nat)) (p : Nat) : Bool :=
  let f := F.SVY_P_CAM.VC p
  let named := (given.filter (fun e => e.1 = f.off)).map (fun e =>
    ((F.SVY_P_CAM.VC p).get (BitVec.ofNat 64 e.2), (F.SVY_P_CAM.DT p).get (BitVec.ofNat 64 e.2)))
  named.any (fun x => named.head? ≠ some x)

/-- A catalogue region: TYPE, DMA_PROTECT, BASE and LEN (Table 13-3). -/
def regionsOf (b : List Byte) : List (Nat × Bool × Nat × Nat) :=
  (List.range (b.length / 24)).map (fun i =>
    (fieldAt b (24 * i) 2, fieldAt b (24 * i + 2) 2 % 2 = 1, fieldAt b (24 * i + 8) 8, fieldAt b (24 * i + 16) 8))

/-- The flags of region entries beside DMA_PROTECT. -/
def regionFlags (b : List Byte) : Bool := (List.range (b.length / 24)).any (fun i => 1 < fieldAt b (24 * i + 2) 2)

/-! ### Ranges -/

/-- The ranges that the register tables give CAT fields: the first instance, stride and count, and the bounds (R300). -/
def catRanges : List (Field × Nat × Nat × Nat × Nat) :=
  [(F.HIF_LINK_LIMIT.MAX_SPEED, 8, 1, 1, 5), (F.HIF_LINK_LIMIT.MPS, 8, 1, 0, 1), (F.HIF_LINK_LIMIT.CPL_TIMEOUT, 8, 1, 0, 9),
   (F.DMA_CHAIN_BUDGET.LIMIT, 8, 1, 1, 16777216), (F.FOL_CFG.EDGE_LIMIT, 8, 1, 1, 4096),
   (F.FOL_CFG.DEADLINE_MARGIN, 8, 1, 10, 255), (F.FOL_CFG.MOTIF_STORE, 8, 1, 1, 63), (F.PEC_CFG.K, 8, 1, 1, 63),
   (F.SLT_PITCH.PITCH, 8, 1, 0x00040000, 0xFFFF0000), (F.SLT_LIMITS.PAUSE_MS, 8, 1, 1, 255),
   (F.SLT_LIMITS.OVERSPEED, 8, 1, 1, 65535), (F.SLT_LIMITS.REVERSE, 8, 1, 1, 255), (F.SLT_LOOP.BW, 8, 1, 2, 100),
   (F.SLT_CROSS.TOL, 8, 1, 1, 65535), (F.SLT_BLANK.DEBOUNCE, 8, 1, 10, 10000), (F.SLT_BLANK.SLOW_HOLD, 8, 1, 10, 65535),
   (F.DUT_CFG.STEP_PS, 8, 1, 500, 8000), (F.LAC_RING.LOG2, 8, 1, 10, 20), (F.LAC_CFG.OPEN_LIMIT, 8, 1, 1, 255)] ++
  [(F.BLK_CFG.LINK_LIMIT, 8, 1, 1, 65535), (F.BLK_IKL_CFG.MAX_RATE, 8, 1, 0, 2), (F.MEM_CFG.WIDTH, 8, 1, 0, 1),
   (F.MEM_CFG.DENSITY, 8, 1, 0, 2), (F.MEM_AGE.RASTER, 8, 1, 1, 4095), (F.MEM_AGE.INTAKE, 8, 1, 1, 4095),
   (F.MEM_AGE.GENERAL, 8, 1, 1, 4095), (F.MEM_AGE.SURVEY, 8, 1, 1, 4095), (F.MEM_AGE.SCRUB, 8, 1, 1, 4095),
   (F.MEM_URGENT.SHARE, 8, 1, 1, 25), (F.MEM_URGENT.WINDOW, 8, 1, 1, 100), (F.MEM_FABRIC_TIMEOUT.TIMEOUT, 8, 1, 17, 1000),
   (F.MEM_REFRESH.POLL, 8, 1, 32, 4000), (F.SCR_CFG.PERIOD_H, 8, 1, 1, 168), (F.SCR_CFG.UC_WINDOW_H, 8, 1, 1, 168)] ++
  [(F.SVY_P_CAM.LANES 0, 0x8000, 2, 0, 2), (F.SVY_P_CAM.DT 0, 0x8000, 2, 0x2B, 0x2D), (F.SVY_P_CAM.WIDTH 0, 0x8000, 2, 64, 4096),
   (F.SVY_P_CAM.HEIGHT 0, 0x8000, 2, 1, 4096), (F.SVY_P_I2C.GUARD 0, 0x8000, 2, 1, 255),
   (F.SVY_P_I2C.FRAME_TIMEOUT 0, 0x8000, 2, 1, 255), (F.SVY_P_REC_RING.LOG2 0, 0x8000, 2, 2, 10),
   (F.SVY_P_FRAME_RING.STRIDE 0, 0x8000, 2, 1, 255), (F.AXM_CFG.VMAX 0, 32, 6, 1, 2000000),
   (F.AXM_HOME.SLOW 0, 32, 6, 1, 65535), (F.AXM_TIMING.PULSE, 8, 1, 5, 255), (F.AXM_TIMING.DIR_SETUP, 8, 1, 1, 255),
   (F.AXM_TIMING.DIR_HOLD, 8, 1, 1, 255), (F.AXM_TIMING.IN_FILTER, 8, 1, 1, 100), (F.AXM_RELEASE.RELEASE, 8, 1, 1, 1000)] ++
  [(F.TIM_CFG.TB1_SOURCE, 8, 1, 0, 2), (F.TIM_CFG.TRANSPORT, 8, 1, 0, 2), (F.TIM_CFG.HOLD, 8, 1, 1, 255),
   (F.TIM_SERVO.STEP_NS 0, 8, 2, 1, 65535), (F.TIM_SERVO.LOCK_NS 0, 8, 2, 1, 255), (F.TIM_SERVO.MAX_PPM 0, 8, 2, 1, 255),
   (F.TWN_CFG.HB_TIMEOUT, 8, 1, 12, 16), (F.TWN_CFG.LOCK_TOL, 8, 1, 1, 7), (F.TWN_CFG.ALONE_WAIT, 8, 1, 1, 255),
   (F.BOOT_CFG.SAFE_HOLD, 8, 1, 1, 255), (F.CLK_MON_CFG.WINDOW, 8, 1, 100, 10000), (F.SAF_CFG.WDOG_US, 8, 1, 10, 1000),
   (F.SAF_CFG.DIE_SOFT, 8, 1, 100, 165), (F.SAF_CFG.LATENT_H, 8, 1, 1, 24), (F.SAF_BUCKET.N 0, 8, 16, 1, 255),
   (F.SAF_BUCKET.W_MS 0, 8, 16, 1, 604800000)] ++
  [(F.DOC_CFG.WDOG_MS, 8, 1, 1, 255), (F.DOC_CFG.RESTART_LIMIT, 8, 1, 1, 15), (F.ACL_CFG.FREEZE_MAX, 8, 1, 1, 255),
   (F.PMC_CFG.HOST_COUNTERS, 8, 1, 0, 64), (F.CAL_CFG.DELTA, 8, 1, 2, 20), (F.CAL_CFG.SETTLE, 8, 1, 1, 255),
   (F.CAL_CFG.MARK_TOL, 8, 1, 1, 255), (F.PAD_IO_CFG.AX_DRIVE, 8, 1, 0, 2), (F.PAD_IO_CFG.XSPI_DRIVE, 8, 1, 0, 2),
   (F.PAD_IO_CFG.MRAM_DRIVE, 8, 1, 0, 2), (F.PAD_STROBE_CFG.SWING0, 8, 1, 0, 2), (F.PAD_STROBE_CFG.SWING1, 8, 1, 0, 2)]

/-- Registers with a field outside its range. -/
def State.rangeFaults (s : State) : List Nat :=
  catRanges.flatMap (fun x => (List.range x.2.2.1).filterMap (fun i =>
    let f : Field := { x.1 with off := x.1.off + i * x.2.1 }
    if x.2.2.2.1 ≤ s.rd f && s.rd f ≤ x.2.2.2.2 then none else some f.off))

/-! ### Rules on CAT fields -/

/-- FIRE of a lane rate, in ns (Table 7-3). -/
def fireNs (rate : Nat) : Nat :=
  match rate with
  | 3 => 0
  | 2 => 96
  | 1 => 96
  | _ => 128

/-- The exposure of some permitted lane rate outlasts the slot (R182), in units of 1/16,000 ns. -/
def State.exposureLong (s : State) : Bool :=
  (List.range (s.rd F.BLK_CFG.MAX_RATE + 1)).any (fun r =>
    1000 * max (linkTerm r) s.governorTerm < 16000 * fireNs r + 16 * 256 * s.rd F.DUT_CFG.STEP_PS)

/-- The kernel of R112. -/
def State.kernelFault (s : State) : Bool :=
  let k := s.rd F.PEC_CFG.K
  let w := (List.range 3969).map (fun i => s.rd (F.PEC_KERNEL.WEIGHT i))
  k % 2 = 0 || (w.take (k * k)).sum ≠ 65536 || (w.drop (k * k)).any (· ≠ 0)

/-- An axis whose settings break a rule (R241, R243, R246, AXM_SOFT). -/
def State.axisFault (s : State) (a : Nat) : Bool :=
  let vmax := s.rd (F.AXM_CFG.VMAX a)
  s.rdInt (F.AXM_SOFT.MAX a) ≤ s.rdInt (F.AXM_SOFT.MIN a) || vmax < s.rd (F.AXM_HOME.FAST a)
    || (s.bit (F.AXM_CFG.PRESENT a) && 100000000 < 2 * s.rd F.AXM_TIMING.PULSE * vmax)

/-- A pipeline whose settings break a rule (R236, SVY_Pp_CAM). -/
def State.cameraFault (s : State) (p : Nat) : Bool :=
  s.rd (F.SVY_P_CAM.WIDTH p) % 4 ≠ 0
    || s.rd (F.SVY_P_FRAME_RING.STRIDE p) * 2 ^ 20 < 2 * s.rd (F.SVY_P_CAM.WIDTH p) * s.rd (F.SVY_P_CAM.HEIGHT p)
    || s.rd (F.SVY_P_FRAME_RING.COUNT p) + 1 < s.rd (F.SVY_P_PROC.MERGE p)

/-- A twin setting that R268 refuses. -/
def State.twinFault (s : State) : Bool :=
  s.rd F.TWN_CFG.ROLE ≠ s.rd F.PAD_STRAPS.TWIN_ROLE || (!s.bit F.TWN_CFG.MODE && s.bit F.PAD_STRAPS.TWIN_ROLE)
    || (s.bit F.TWN_CFG.MODE && 2 < s.rd F.BLK_IKL_CFG.MAX_RATE)

/-- Thresholds that a register table orders. -/
def State.orderFault (s : State) (soft hard resume : Field) : Bool := s.rd hard ≤ s.rd soft || s.rd soft ≤ s.rd resume

/-- Registers that break a rule of this specification for a CAT field (R300). -/
def State.ruleFaults (s : State) : List Nat :=
  [(s.kernelFault, F.PEC_CFG.K.off),
   (s.rd (F.DOS_CT.ENTRY 0) ≠ 0, (F.DOS_CT.ENTRY 0).off),
   (s.rd F.BCT_LIMITS.GAIN_MAX < s.rd F.BCT_LIMITS.GAIN_MIN, F.BCT_LIMITS.GAIN_MIN.off),
   (s.orderFault F.DUT_BEAM.SOFT F.DUT_BEAM.HARD F.DUT_BEAM.RESUME, F.DUT_BEAM.SOFT.off),
   (s.orderFault F.DUT_PLATE.SOFT F.DUT_PLATE.HARD F.DUT_PLATE.RESUME, F.DUT_PLATE.SOFT.off),
   (s.exposureLong, F.DUT_CFG.STEP_PS.off),
   (!([1, 2, 4, 8, 16].contains (s.rd F.HIF_LINK_LIMIT.MAX_WIDTH)), F.HIF_LINK_LIMIT.MAX_WIDTH.off),
   (s.rd F.MEM_CFG.WIDTH = 0 && s.bit F.MEM_CFG.RANKS && s.rd F.MEM_CFG.DENSITY ≠ 0, F.MEM_CFG.WIDTH.off),
   (s.rd F.SAF_CFG.DIE_HARD ≤ s.rd F.SAF_CFG.DIE_SOFT, F.SAF_CFG.DIE_SOFT.off),
   (s.twinFault, F.TWN_CFG.MODE.off)].filterMap (fun x => if x.1 then some x.2 else none)
  ++ (List.range 6).filterMap (fun a => if s.axisFault a then some (F.AXM_CFG.VMAX a).off else none)
  ++ [0, 1].filterMap (fun p => if s.cameraFault p then some (F.SVY_P_CAM.WIDTH p).off else none)

/-! ### Regions and rings -/

/-- The rings of R300: their register, their address and their length. -/
def State.rings (s : State) : List (Nat × Nat × Nat) :=
  [(F.TAL_RING.BASE.off, s.rd F.TAL_RING.BASE * 2 ^ 12, 512 * 1024), (F.PEC_RING.BASE.off, s.rd F.PEC_RING.BASE * 2 ^ 12, 64 * 1024),
   (F.DOS_FOG_RING.BASE.off, s.rd F.DOS_FOG_RING.BASE * 2 ^ 12, 2 * 2 ^ 20),
   (F.LAC_RING.BASE.off, s.rd F.LAC_RING.BASE * 2 ^ 12, 32 * 2 ^ s.rd F.LAC_RING.LOG2),
   (F.BCT_STAGE.BASE.off, s.rd F.BCT_STAGE.BASE * 2 ^ 22, 4 * 2 ^ 20)]
  ++ [0, 1].flatMap (fun p =>
    [((F.SVY_P_REC_RING.BASE p).off, s.rd (F.SVY_P_REC_RING.BASE p) * 2 ^ 20, 2 ^ s.rd (F.SVY_P_REC_RING.LOG2 p) * 2 ^ 20),
     ((F.SVY_P_FRAME_RING.BASE p).off, s.rd (F.SVY_P_FRAME_RING.BASE p) * 2 ^ 20,
       (s.rd (F.SVY_P_FRAME_RING.COUNT p) + 1) * s.rd (F.SVY_P_FRAME_RING.STRIDE p) * 2 ^ 20)])

/-- Rings that do not lie wholly within one region of type 3 (R300). -/
def State.ringFaults (s : State) (rs : List (Nat × Bool × Nat × Nat)) : List Nat :=
  s.rings.filterMap (fun x =>
    if rs.any (fun r => r.1 = 3 && r.2.2.1 ≤ x.2.1 && x.2.1 + x.2.2 ≤ r.2.2.1 + r.2.2.2) then none else some x.1)

/-- Whether the regions break R296 or R300: their types, alignment and overlap, and the fixed ones within the preview
fitted size. -/
def State.regionFault (s : State) (b : List Byte) : Bool :=
  let rs := regionsOf b
  b.length % 24 ≠ 0 || regionFlags b || rs.any (fun r => r.1 = 0 || 5 < r.1 || r.2.2.1 % 4096 ≠ 0 || r.2.2.2 % 4096 ≠ 0)
    || anyMeet (rs.map (fun r => (r.2.2.1, r.2.2.2)))
    || rs.any (fun r => (r.1 = 3 || r.1 = 4) && 3 * s.channelGiB * 2 ^ 30 < r.2.2.1 + r.2.2.2)

/-! ### Checking and applying -/

/-- The settings and tables of a slot applied to the reset values, with the offsets that could not be (R296, R301,
R404). -/
def State.catApply (s : State) (slot : Nat) : State × List Nat :=
  let a := settingsOf (s.sectionData slot 1)
  let d := settingsOf (s.sectionData slot 6)
  let odd := if (s.sectionData slot 1).length % 16 ≠ 0 || (s.sectionData slot 6).length % 16 ≠ 0 then [0] else []
  let order := if rising (a.map Prod.fst) && rising (d.map Prod.fst) then [] else [0]
  let bad := ((a ++ d).filter (fun e => !entryGood e)).map Prod.fst
  let wrong := (d.filter (fun e => !deviceReg e.1)).map Prod.fst
  let twice := (a.filter (fun e => d.any (fun x => x.1 = e.1))).map Prod.fst
  let set := (a ++ d).foldl (fun s e => s.setReg e.1 e.2.2) s
  let set := set.wr F.MEM_STATUS.CHAN_GIB set.channelGiB
  let b := s.sectionData slot 2
  let r := set.catTables (b.length + 1) b
  let given := (a ++ d).map (fun e => (e.1, e.2.2.toNat)) ++ tableWords (b.length + 1) b
  let cameras := [0, 1].filterMap (fun p => if camerasTwo given p then some (F.SVY_P_CAM.VC p).off else none)
  (r.1, odd ++ order ++ bad ++ wrong ++ twice ++ r.2.toList ++ cameras)

/-- The Keeper's check of a slot's settings: the settings applied, or the first register refused (R300, R301). -/
def State.catCheck (s : State) (slot : Nat) : State × Option Nat :=
  let c := s.catApply slot
  let rb := s.sectionData slot 3
  let region := if c.1.regionFault rb then [0] else []
  let faults := c.2 ++ c.1.rangeFaults ++ c.1.ruleFaults ++ region ++ c.1.ringFaults (regionsOf rb)
  (c.1, lowestNat faults)

/-! ### The Docent image -/

/-- Whether the Docent section verifies and loads within the Docent shared SRAM (R296, R302, R350). -/
def State.docentGood (s : State) : Bool :=
  let b := s.flashRead s.boot.docentAt.1 s.boot.docentAt.2
  let n := b.length - 64
  72 ≤ b.length && fieldAt b 0 4 + (n - 8) ≤ 4 * 2 ^ 20 && Config.ed25519Verify s.boot.docentKey (b.take n) (b.drop n)

/-- The Docent code copied to its load address (R302, R350). -/
def State.docentCopy (s : State) : State :=
  let b := s.flashRead s.boot.docentAt.1 s.boot.docentAt.2
  s.sramWrite (fieldAt b 0 4) ((b.take (b.length - 64)).drop 8) false

end Sys2Proof.Machine
end

