-- ==== Sys2Proof/Machine/TimeMsg.lean ====
section
/-! DEFINITION. TB1 as the messages of the Ikisal link carry it (Table 12-3, R287). -/
namespace Sys2Proof.Machine

/-- TB1 as a message carries it: 16 bits of seconds, nanoseconds, and 16 bits of fraction (Table 12-3). -/
def State.timeMsg (s : State) : Nat := s.tb1.sec % 65536 + s.tb1.ns * 2 ^ 16 + s.tb1.frac / 2 ^ 32 * 2 ^ 48

/-- Such a time in q16 ns. -/
def q16Of (t : Nat) : Int := ((t % 65536 * 1000000000 + t / 2 ^ 16 % 2 ^ 32) * 65536 + t / 2 ^ 48 % 65536 : Nat)

/-- The difference of two such times round the 16 bits of seconds. -/
def q16Diff (a b : Nat) : Int :=
  let m : Int := 65536 * 1000000000 * 65536
  let d := (q16Of a - q16Of b) % m
  if 2 * d < m then d else d - m

end Sys2Proof.Machine
end

