-- ==== Sys2Proof/Machine/IklWire.lean ====
section
/-! DEFINITION. What the lanes of the Ikisal link send: head and body blocks, alignment markers and training blocks, one
block at a time (R275 to R277, R284, R287). -/
namespace Sys2Proof.Machine

/-- The head block of a message (R276). -/
def IklMsg.head (m : IklMsg) : List Byte :=
  let b := leBytes 1 m.mtype ++ leBytes 1 ((m.body.length + 15) / 16) ++ m.content
  b ++ leBytes 2 (crc16 b)

/-- The head block of IDLE (R276, Table 12-3). -/
def iklIdle : List Byte := (iklMsg 0 [] []).head

/-- A message with the time at which its head block leaves: T1 of TIME_SYNC, T3 of TIME_DELAY (R287). -/
def State.iklTimed (s : State) (m : IklMsg) : IklMsg :=
  if m.mtype = 0x12 || m.mtype = 0x13 then { m with content := m.content.take 2 ++ leBytes 8 s.timeMsg ++ leBytes 2 0 }
  else m

/-- A producer that waits finds room: a HEARTBEAT first, else the one that has waited longest (R277). -/
def IklLane.refill (l : IklLane) : IklLane :=
  match l.waits with
  | m :: rest => if l.queue.length < 256 then { l with queue := iklInsert m l.queue, waits := rest } else l
  | [] => l

/-- The next data block of a lane before scrambling: a body block of the message in progress, the head block of the next
message, or IDLE (R276, R277, Table 12-2). -/
def State.iklNext (s : State) (l : IklLane) : List Byte × IklLane :=
  match l.body with
  | b :: bs => (b, { l with body := bs, cur := if bs.isEmpty then none else l.cur })
  | [] => match l.queue with
    | [] => (iklIdle, l)
    | m :: rest =>
      let m := s.iklTimed m
      let body := bytesInBlocks ((m.body.length + 15) / 16) (m.body ++ List.replicate 15 0#8)
      (m.head, { l with queue := rest, body := body, cur := if body.isEmpty then none else some m }.refill)

/-- The seed of lane `n` (R275). -/
def iklSeed (n : Nat) : Nat := 0x7FFF00 ||| (0x80 + n)

/-- Blocks between two alignment markers, the first of them included (R275). -/
def amPeriod : Nat := 1424

/-- Lane `n` sends one block, as the state of the link says (R275, Table 12-2). -/
def State.iklBlock (s : State) (n : Nat) (l : IklLane) : IklLane :=
  let st := s.rd F.IKL_STATUS.STATE
  let at_ := s.ikl.blocks
  if st = 1 || st = 4 || st = 5 || (st = 2 && at_ < 64) then
    { l with out := some (tsBlock 0x10 n (s.rd F.IKL_STATUS.RATE) st (st = 4)
      (leBytes 1 (s.rd F.BLK_IKL_CFG.MAX_RATE) ++ List.replicate 9 0x4A#8)) }
  else if (at_ - 64) % amPeriod = 0 then
    { l with lfsr := iklSeed n, out := some (amBlock 0x10 n n ((at_ - 64) / amPeriod % 65536)) }
  else
    let r := if st = 3 then s.iklNext l else (iklIdle, l)
    let x := scramble r.2.lfsr r.1
    { r.2 with lfsr := x.2, out := some (false, x.1) }

/-- T3 of the exchange in progress, when this block is the head of its TIME_DELAY (R287). -/
def State.iklDelayTime (s : State) : State :=
  match (s.ikl.lanes.getD 0 ⟨[], [], none, [], 0, none⟩), s.twn.exchange with
  | l, some (k, t1, t2, _) =>
    if l.body.isEmpty && (l.queue.head?.map IklMsg.mtype) = some 0x13 && s.rd F.IKL_STATUS.STATE = 3
        && (s.ikl.blocks - 64) % amPeriod ≠ 0 then
      { s with twn := { s.twn with exchange := some (k, t1, t2, s.timeMsg) } }
    else s
  | _, none => s

/-- TABLE messages of a commit (R284). -/
def tableMsgs : Nat := 33792

/-- Whether the first COMMIT that waits may follow: lane 5 has sent the TABLE messages before it, or no twin listens. DESIGN
CHOICE (log 173): R284 says nothing of a link that fails during the transfer; the commit then goes on without the twin. -/
def State.commitFree (s : State) : Bool :=
  let l := s.ikl.lanes.getD 5 ⟨[], [], none, [], 0, none⟩
  let left := l.queue.length + l.waits.length + (if l.body.isEmpty then 0 else 1)
  let st := s.rd F.IKL_STATUS.STATE
  left ≤ tableMsgs * (s.ikl.commits.length - 1) || st ≤ 1 || st = 6

/-- Half-bits that a lane sends in a CLK_CTL cycle of 2.5 ns, at 8, 16 or 25 Gbit/s. -/
def iklSpeed (rate : Nat) : Nat := if rate = 0 then 40 else if rate = 1 then 80 else 125

/-- One CLK_CTL cycle of the lanes: a block of 130 bits leaves each lane when its time is full. In DOWN and DISABLING they
send nothing (R275, Table 12-2). -/
def State.iklTick (s : State) : State :=
  let st := s.rd F.IKL_STATUS.STATE
  if st = 0 || st = 6 then s
  else
    let n := s.ikl.bits + iklSpeed (s.rd F.IKL_STATUS.RATE)
    if n < 260 then { s with ikl := { s.ikl with bits := n } }
    else
      let s := s.iklDelayTime
      { s with ikl := { s.ikl with
        bits := n - 260
        blocks := s.ikl.blocks + 1
        lanes := s.ikl.lanes.zipIdx.map (fun x => s.iklBlock x.2 x.1) } }

/-- A link that leaves ACTIVE sends a message again whose body was being sent (R277). -/
def IklLane.again (l : IklLane) : IklLane :=
  match l.cur with
  | some m => { l with queue := m :: l.queue, cur := none, body := [] }
  | none => l

end Sys2Proof.Machine
end

