-- ==== Sys2Proof/Machine/Raster.lean ====
section
/-! DEFINITION. The density pass, the PEC engine, the raster engines, Tally and the scatter (R92 to R119, R120 to
R127, R134). -/
namespace Sys2Proof.Machine

/-! ### Density pass and PEC -/

/-- The check record of one tile: area16 and bound of its eight regions, and whether a bound saturates (R108, R109,
R116). -/
def checkRecord (ps : List Piece) : List (Int × Nat) × Nat :=
  let bs := (List.range 8).map (fun g => (area16 ps g, regionBound ps g))
  (bs.map (fun b => (b.1, b.2.1)), (bs.filter (fun b => b.2.2)).length)

/-- The tile columns that have geometry, with their paths, in a tile row. -/
def Leaf.rowPaths (l : Leaf) (t : Int) : List (Int × List Path) :=
  ((l.tiles ++ l.dens).filter (fun (g : TileGeo) => g.row = t)).map (fun (g : TileGeo) => (g.col, g.paths))

/-- The next tile row of the density pass is ready: it is decoded, and lies at most 47 rows ahead of the lowest row
that an engine holds (R110). DESIGN CHOICE (log 126): R110 speaks of one sequence of rows; across two leaves the model
counts the rows −16 to T + 15 of each leaf in the order of admission, so that the 64 rows of the ring serve both. -/
def State.densityMay (s : State) (p : Nat) (l : Leaf) (h : LeafHdr) (t : Int) : Bool :=
  let low : Int := match s.seqLow with
    | some r => (s.rowsBefore r.1 : Int) + r.2
    | none => s.rowsBefore p
  l.admitted && t ≤ hdrT h + 15 && l.rowDone h t && (s.rowsBefore p : Int) + t ≤ low + 47

/-- The ring row that a tile row takes in the density and check ring: 8 KiB each, by the row modulo 64. Its encoding is not
given, so its bytes are free (R110, TAL_RING; DESIGN CHOICE, log 127). -/
def State.talRingWrite (s : State) (t : Int) : State :=
  let b := s.freeBytes 8192
  b.2.unitWrite 29 (s.talRingAt t) b.1 false

/-- The modulations of a cell row in the modulation ring: 16-bit entries, bits 13 to 0 m and bit 14 INVALID (PEC_RING).
DESIGN CHOICE (log 127): the place of a row is not given; the ring has 128 rows of 512 bytes, by the cell row modulo 128. -/
def State.pecRingWrite (s : State) (q : Int) (row : List (Nat × Bool)) : State :=
  s.unitWrite 29 (s.pecRingAt q)
    (row.flatMap (fun m => leBytes 2 (m.1 % 2 ^ 14 + (if m.2 then 2 ^ 14 else 0)))) false

/-- The density pass finishes a tile row: areas, densities, bounds and flattening checks. `poison` names the tile
columns whose edge words came back as poison, and `flatten` those whose vertices a fault changed (R108 to R111,
R116, R118). -/
def execDensityRowDone (p : Fin 2) (poison flatten : List Int) (s : State) : Host.Outcome State Fault Refusal :=
  match s.leafAt p with
  | none => done s
  | some l =>
    match l.hdr with
    | none => done s
    | some h =>
      let t := l.ras.densRow + 1
      if !s.densityMay p l h t then done s
      else
        let curved := ((l.rowPaths t).filter (fun g => !g.2.all pathFlattens)).map Prod.fst
        let flat := flatten ++ curved
        let badCols := poison ++ flat
        let own := decide (0 ≤ t) && decide (t < (hdrT h : Int))
        let recs := (List.range 64).map (fun (e : Nat) =>
          if own then checkRecord (l.piecesAt false t (e : Int)) else ([], 0))
        let sat := (recs.map Prod.snd).sum
        let bad := (List.range 64).filterMap (fun (e : Nat) =>
          if !own then none
          else if poison.contains (e : Int) then some (t, (e : Int), 6)
          else if flat.contains (e : Int) then some (t, (e : Int), 5) else none)
        let rho := [2 * t + 1, 2 * t].map (fun q => (q, l.densityRow h q badCols))
        let unknown := if own then ((List.range 64).filter (fun (e : Nat) =>
          (l.rowMissing t).isSome || badCols.contains (e : Int) || l.failed.any (fun f => f.1 = t && f.2.1 = (e : Int)))).length
          else 0
        let s := s.setRas p (fun r => { r with
          densRow := t
          rho := (rho ++ r.rho).take 128
          checks := if own then ((t, recs.map Prod.fst) :: r.checks).take 64 else r.checks
          bad := bad ++ r.bad })
        let s := s.talRingWrite t
        let s := s.whenD (!poison.isEmpty) (fun s => s.set1 F.TAL_ERR.POISON)
        let s := s.whenD (!flat.isEmpty) (fun s => s.set1 F.TAL_ERR.FLATTEN)
        let s := s.whenD (decide (0 < sat)) (fun s => (s.set1 F.TAL_ERR.BOUND_SAT).addSat F.TAL_COUNTS.BOUND_SAT sat)
        done ((s.addSat F.TAL_COUNTS.UNKNOWN_TILES unknown).wrInt F.TAL_STATUS.DENSITY_TROW t)

/-- The tile rows whose densities the kernel reaches from a cell row, of those that the density pass has finished (R113). -/
def State.pecReach (s : State) (h : LeafHdr) (q : Int) : List Int :=
  let reach : Int := ((s.pecK - 1) / 2 : Nat)
  rowsFrom (max (hdrLow h) ((q - reach) / 2)) (min ((q + reach) / 2) (hdrHigh h))

/-- The PEC engine finishes the modulations of the next cell row: it reads the newest density row that its kernel reaches.
`poison` names the cells whose density word came back as poison; a density row that stands poisoned in the ring loses its
cells (R113, R114, Table 8-3). -/
def execPecRowDone (p : Fin 2) (poison : List (Int × Int)) (s : State) : Host.Outcome State Fault Refusal :=
  match s.leafAt p with
  | none => done s
  | some l =>
    match l.hdr with
    | none => done s
    | some h =>
      let q := l.ras.modRow + 1
      let reach : Int := ((s.pecK - 1) / 2 : Nat)
      if !l.admitted || !h.pec || (hdrC h : Int) < q || l.ras.densRow < min ((q + reach) / 2) (hdrHigh h) then done s
      else
        let rows := s.pecReach h q
        let s := match rows.getLast? with
          | some t => s.unitRead 29 (s.talRingAt t) 8192 1
          | none => s
        let lost := (rows.filter (fun t => s.ddrPoisoned (s.talRingAt t) 8192)).flatMap (fun t => [2 * t, 2 * t + 1])
        let row := (rowsFrom (-1) 128).map (fun c => s.modulation l.ras h poison lost q c)
        let bad := (row.filter Prod.snd).length
        let s := (s.setRas p (fun r => { r with modRow := q, mods := (q, row) :: r.mods })).pecRingWrite q row
        let s := s.whenD (decide (0 < bad)) (fun s => s.set1 F.PEC_ERR.INCOMPLETE)
        let s := s.whenD (!poison.isEmpty || !lost.isEmpty) (fun s => s.set1 F.PEC_ERR.POISON)
        let s := s.whenD (s.curPlace = p.val) (fun s => s.addSat F.PEC_STATUS.INVALID bad)
        done (s.wrInt F.PEC_STATUS.MOD_TROW ((q - 1) / 2))

/-! ### Engines -/

/-- An engine's next tile row advanced past row `t` (R105). -/
def State.advance (s : State) (p e : Nat) (t : Int) : State :=
  s.setRas p (fun r => { r with next := r.next.set e (t + 1) })

/-- Rows from `t` on whose first slot has passed its release point are reported TILE_LATE (R105). -/
def State.skipLate (s : State) (p e : Nat) (l : Leaf) (h : LeafHdr) (t : Int) : State :=
  ((rowsFrom t ((hdrT h : Int) - 1)).filter (fun r => s.rowPassed p l r)).foldl
    (fun s r => (s.tileFail p r e [8]).advance p e r) s

/-- The cause that the density pass found for a tile: DENSITY_POISON or TALLY_FLATTEN (R111). -/
def Ras.unknownCause (r : Ras) (t : Int) (e : Nat) : Option Nat :=
  (r.bad.find? (fun b => b.1 = t && b.2.1 = (e : Int))).map (fun b => b.2.2)

/-- The causes with which a tile is reported without being rasterised, all that strike it: its row is missing, its tile
failed under R74 or R78, or it is PEC_INCOMPLETE, with the cause of its own unknown cells (R103, R104, R111, R114, R167). -/
def Leaf.skipCauses (l : Leaf) (h : LeafHdr) (t : Int) (e : Nat) : List Nat :=
  match l.rowMissing t with
  | some c => [c]
  | none =>
    if !l.rowDone h t then []
    else if l.failed.any (fun f => f.1 = t && f.2.1 = (e : Int)) then [12]
    else if l.densityReady h t && l.pecReady h t && l.ras.pecIncomplete h t e then (l.ras.unknownCause t e).toList ++ [7]
    else []

/-- Condition 5 of R104: no tile is in the engine's edge phase, and a buffer is free. -/
def State.engineFree (s : State) (e : Nat) : Bool :=
  let held := s.engineHeld e
  held.length < 2 && !held.any (fun k => k.phase = .edge)

/-- An engine starts its next tile, or reports it failed without rasterising (R104, R105). -/
def execTileStart (e : Fin 64) (s : State) : Host.Outcome State Fault Refusal :=
  match s.engineNext e with
  | none => done s
  | some (p, l, h, t) =>
    if !l.bankKnown || (s.paired && s.twn.mirroring = some l.id) then done s
    else if s.rowPassed p l t then done ((s.skipLate p e l h t).rasShow)
    else
      match l.skipCauses h t e with
      | c :: cs => done (((s.tileFail p t e (c :: cs)).advance p e t).rasShow)
      | [] =>
        if !l.rowDone h t || !l.densityReady h t || !l.pecReady h t || !s.reserveAdmits l t || !s.engineFree e then done s
        else
          let f := globalFrame l.ras.base (4 * t).toNat
          let high := if s.rsv.high.any (fun g => decide (0 < frameAhead g f)) then s.rsv.high else some f
          let s := (s.putTile p (tileNew t e)).advance p e t
          let s := { s with rsv := { s.rsv with high := high } }.leadShow
          let s := if s.rdInt F.RAS_SEQ.HIGH_TROW < t then s.wrInt F.RAS_SEQ.HIGH_TROW t else s
          done ((s.engineShow e).rasShow)

/-- The tile of an engine in a phase, the one taken first. -/
def State.engineTile (s : State) (e : Nat) (ph : TilePhase) : Option (Nat × TileSt) :=
  s.firstTile (s.tilesWhere (fun k => k.col = e && k.phase = ph))

/-- A tile that its engine has started is abandoned: with the causes met now, and with the one that the density pass found for
it (R103, R111). -/
def State.tileAbandon (s : State) (p : Nat) (k : TileSt) (causes : List Nat) : State :=
  match s.leafAt p with
  | none => s
  | some l => s.tileFail p k.row k.col (causes ++ (l.ras.unknownCause k.row k.col).toList)

/-- An engine finishes the edge phase of a tile: the tile goes on to its sweep, or is abandoned on poison or an
uncorrectable buffer byte (R98, R101 to R103). -/
def execEdgePhaseEnd (e : Fin 64) (poison ecc : Bool) (corrected : Nat) (s : State) :
    Host.Outcome State Fault Refusal :=
  match s.engineTile e .edge with
  | none => done s
  | some (p, k) =>
    let s := s.rasCorrected e corrected
    let causes := (if poison then [1] else []) ++ (if ecc then [2] else [])
    if causes ≠ [] then done (((s.tileAbandon p k causes).engineShow e).rasShow)
    else done (((s.putTile p { k with phase := .sweep }).engineShow e).rasShow)

/-- Every window pixel in emit order, as column and row (R100). -/
def windowPixels : List (Nat × Nat) :=
  (List.range 130).flatMap (fun j => (List.range 130).map (fun i => (i, j)))

/-- The coverage words of a swept window as they reach the dose stage: the clamped raw value, or what a fault put in
its place (R98, R99). -/
def coverWord (subs : List Piece) (upsets : List (Nat × Nat × Nat)) (i j : Nat) : Nat :=
  match upsets.find? (fun u => u.1 = i && u.2.1 = j) with
  | some u => u.2.2 % 2 ^ 14
  | none => (clampInt (pixelRaw subs i j) 0 0x2000).toNat

/-- Tally's sum of a region: the coverage words as emitted, and adj (R98, R117). -/
def regionSum (subs : List Piece) (upsets : List (Nat × Nat × Nat)) (g : Nat) : Int :=
  ((windowPixels.filter (fun q => regionOf q.1 q.2 = g)).map (fun q =>
    let raw := pixelRaw subs q.1 q.2
    (coverWord subs upsets q.1 q.2 : Int) + (raw - clampInt raw 0 0x2000))).sum

/-- Whether a raw coverage lies beyond the clamp margin (R98, R99). -/
def fillBreach (subs : List Piece) (margin : Nat) : Bool :=
  windowPixels.any (fun q =>
    let raw := pixelRaw subs q.1 q.2
    raw < -(margin : Int) || 0x2000 + (margin : Int) < raw)

/-- The tile cause of a dose fault. -/
def doseCause : DoseFault → Nat
  | .compare => 9
  | .buffer => 10
  | .order => 10
  | .mapPoison => 10

/-- What the dose slice meets is recorded: DOS_LAST_FAIL keeps the first difference of a compare, and the position
of any other failure (R126, R127, R132). -/
def State.doseFaults (s : State) (t : Int) (e : Nat) (fs : List (DoseFault × Nat × Nat)) : State :=
  let first := fs.find? (fun f => f.1 = .compare)
  let rest := fs.filter (fun f => f.1 ≠ .compare)
  let s := match first with
    | some f => s.dosLast t e f.2.1 f.2.2 0
    | none => s
  let s := rest.foldl (fun s f => s.dosLast t e f.2.1 f.2.2 1) s
  s.whenD (fs.any (fun f => f.1 = .order)) (fun s => s.set1 F.BCT_ERR.ECC)

/-- Tiles of an engine that stand in its slice's output buffer, of which there are two (R127). -/
def State.buffered (s : State) (e : Nat) : List (Nat × TileSt) :=
  s.tilesWhere (fun k => k.col = e && k.phase = .swept && !k.scattered)

/-- CLK_RAS cycles of a sweep: 130 window rows of 17 (R100). -/
def sweepCycles : Nat := 2210

/-- Slots retired and wasted in the sweep cycles from `a` up to `b`: 8 lanes emit in each of the first 16 cycles of a window
row, and 2 in its last (R100, R368). -/
def sweepSlots (a b : Nat) : Nat × Nat :=
  let done := fun (n : Nat) => 130 * (n / 17) + 8 * (n % 17)
  (done b - done a, 6 * (b / 17) - 6 * (a / 17))

/-- The ranges of the modulation and fog rings that the dose slice reads for a tile row, whose window takes in a line on
either side (R92, R122). -/
def State.mapRanges (s : State) (h : LeafHdr) (t : Int) : List (Nat × Nat) :=
  let ng := ceilDiv h.lines 1024 + 1
  let node := fun (line : Int) => min ((clampInt (2 * line + 1) 0 (2048 * ((ng : Int) - 1))).toNat / 2048) (ng - 2)
  let low := node (128 * t - 1)
  (if h.pec then (rowsFrom (2 * t - 1) (min (2 * t + 2) (hdrC h))).map (fun q => (s.pecRingAt q, 512)) else [])
    ++ (if h.fog then (List.range (node (128 * t + 128) + 2 - low)).map (fun i => (s.fogRingAt (low + i), 32)) else [])

/-- The dose slice reads those ranges. The second part of the answer says that one of them carries poison (Table 8-3). -/
def State.mapsRead (s : State) (h : LeafHdr) (t : Int) : State × Bool :=
  let rs := s.mapRanges h t
  let s := rs.foldl (fun s r => s.unitRead 29 r.1 r.2 1) s
  (s, rs.any (fun r => s.ddrPoisoned r.1 r.2))

/-- A tile whose maps stand poisoned in their rings fails with cause 10, at a position that the specification does not give
(Table 8-3, DOS_LAST_FAIL; DESIGN CHOICE, log 170). -/
def State.mapFault (s : State) : DoseFault × Nat × Nat := (.mapPoison, Config.freeValue s.free % 128, Config.freeValue (s.free + 1) % 128)

/-- An engine finishes sweeping a tile window: the coverage goes to Tally and to the dose slice, which computes the
tile's gray words twice and compares them; the sweep waits while the slice has no free output buffer (R98 to R103, R120 to
R127). Slots of the sweep that no cycle has counted are counted now (R368). -/
def execSweepEnd (e : Fin 64) (f : SweepFaults) (s : State) : Host.Outcome State Fault Refusal :=
  match s.engineTile e .sweep with
  | none => done s
  | some (p, k) =>
    match s.curHdr p with
    | none => done s
    | some (l, h) =>
      if 2 ≤ (s.buffered e).length then done s
      else
        let s := (s.rasCorrected e f.corrected).dosCorrected e f.doseCorrected
        let paths := l.pathsAt false k.row (e.val : Int)
        let subs := (tilePieces paths).flatMap subPieces
        let fill := fillBreach subs (s.rd F.RAS_CFG.CLAMP_MARGIN)
        let early := (if f.poison then [1] else []) ++ (if f.ecc then [2] else []) ++ (if fill then [3] else [])
        let maps := s.mapsRead h k.row
        let dose := if maps.2 then f.dose ++ [maps.1.mapFault] else f.dose
        let s := (if maps.2 then { maps.1 with free := maps.1.free + 2 } else maps.1).doseFaults k.row e dose
        let met := (dose.map (fun d => doseCause d.1)).dedup
        if early ≠ [] then done (((s.tileAbandon p k (early ++ met)).engineShow e).rasShow)
        else
          let left := sweepSlots k.cycles sweepCycles
          let s := (s.pmcEvent 0x01 left.1 (engineInfo e)).pmcEvent 0x02 left.2 (engineInfo e)
          let s := s.incWrap (F.RAS_E_TILES.COUNT e)
          let s := s.wrInt (F.RAS_E_TROW.TROW e) k.row
          let sums := (List.range 8).map (regionSum subs f.upsets)
          if met ≠ [] then done (((s.tileAbandon p k met).engineShow e).rasShow)
          else
            let grays := s.tileGrays l h (s.bank (l.ras.bank.getD 0)) k.row e (coverWord subs f.upsets) (pixelClass paths)
            done (((s.putTile p { k with phase := .swept, grays := grays, sums := sums, compared := true }).engineShow
              e).rasShow)

/-! ### Tally -/

/-- The regions that fail R117, with diff. -/
def tallyFails (sums : List Int) (recs : List (Int × Nat)) : List (Nat × Int) :=
  (List.range 8).filterMap (fun g =>
    let r := recs.getD g (0, 2)
    let diff := sums.getD g 0 * 16 - r.1
    if diff.natAbs ≤ r.2 * 16 then none else some (g, diff))

/-- Tally verifies or fails a swept tile (R111, R117); the DIGEST follows (R281). -/
def execTallyVerdict (e : Fin 64) (s : State) : Host.Outcome State Fault Refusal :=
  match s.firstTile (s.tilesWhere (fun k => k.col = e && k.phase = .swept && !k.tally)) with
  | none => done s
  | some (p, k) =>
    match s.leafAt p with
    | none => done s
    | some l =>
      let recs := match l.ras.checks.find? (fun c => c.1 = k.row) with
        | some c => c.2.getD e []
        | none => []
      let fails := tallyFails k.sums recs
      let unknown := l.ras.unknownCause k.row e
      let s := match fails.head? with
        | some g => (((s.wrInt F.TAL_LAST.TROW k.row).wr F.TAL_LAST.TCOL e).wr F.TAL_LAST.REGION g.1).wrInt
            F.TAL_LAST.DIFF (clampInt (g.2 >>> 4) (-32768) 32767)
        | none => s
      let causes := (if fails.isEmpty then [] else [4]) ++ unknown.toList
      if causes ≠ [] then done ((s.tileFail p k.row e causes).rasShow)
      else
        let d := tileDigest l.id k.row e k.grays
        let k := { k with tally := true, digest := some (0, d) }
        done ((((s.putTile p k).sendDigest l.id k.row e 0 d).digestJudge p l.id k).rasShow)

/-- An injection into the next self-test tile is armed (R119). -/
def execTalInjectWrite (m : Master) (v : BitVec 32) (s : State) : Host.Outcome State Fault Refusal :=
  done (s.gated m F.TAL_INJECT.ARM.off (fun s =>
    ((s.wr F.TAL_INJECT.ARM v.toNat).wr F.TAL_INJECT.REGION (v.toNat / 2)).wr F.TAL_INJECT.DELTA (v.toNat / 65536)))

/-! ### Scatter -/

/-- The Reserve bytes that one granule writes: slot `sl` of tile row `t` of engine `e`. A position that no enabled
beam with a pixel occupies takes a free value (R134). -/
def granuleBytes (b : Bank) (grays : List Nat) (base : Nat) (t : Int) (e sl seed : Nat) : List (Nat × Nat) :=
  (List.range 32).map (fun (q : Nat) =>
    let j : Nat := q / 8
    let i : Nat := q % 8
    let c : Nat := 8 * e + i
    let r : Int := (sl : Int) - 4 * t - (3 - (j : Int))
    let blk : Nat := 3 - j
    let w := b.entry r.toNat c
    let n := globalFrame base sl
    let a := reserveByte n e ((sl / 4 : Nat) - t : Int).toNat q
    let gray := if decide (0 ≤ r) && decide (r ≤ 527) && beEnable w
      then grays.getD (128 * (32 * blk + bePhi w) + (16 * i + beO w)) 0
      else Config.freeValue (seed + q) % 256
    (a, gray + 256 * generation n))

/-- The granules of a tile written into the Reserve, for slots 4t to 4t + 530 (R134, R136). -/
def State.scatter (s : State) (b : Bank) (k : TileSt) (base : Nat) : State :=
  let slots := (List.range 531).map (fun i => (4 * k.row).toNat + i)
  let cells := slots.zipIdx.flatMap (fun u => granuleBytes b k.grays base k.row k.col u.1 (s.free + 32 * u.2))
  { s with
    rsv := { s.rsv with bytes := cells.foldl (fun m c => smSet (fun _ => 0) m c.1 c.2) s.rsv.bytes }
    free := s.free + 32 * 531 }

/-- A tile's granules have been written into the Reserve, or a byte of its output buffer could not be corrected:
`ecc` is the window position of its pixel (R127, R134). -/
def execTileScatterEnd (e : Fin 64) (ecc : Option (Nat × Nat)) (corrected : Nat) (s : State) :
    Host.Outcome State Fault Refusal :=
  match s.firstTile (s.buffered e) with
  | none => done s
  | some (p, k) =>
    match s.leafAt p with
    | none => done s
    | some l =>
      let s := s.dosCorrected e corrected
      match ecc with
      | some q => done (((s.dosLast k.row e q.1 q.2 1).tileAbandon p k [10]).rasShow)
      | none =>
        let s := s.scatter (s.bank (l.ras.bank.getD 0)) k l.ras.base
        done ((s.putTile p { k with scattered := true }).rasShow)

end Sys2Proof.Machine
end

