-- ==== Sys2Proof/Machine/Tracker.lean ====
section
/-! DEFINITION. The commands of the slot tracker and of release: marks, strobes, release decisions, the frame read,
encoders, arming, leaf boundaries and the blanking request (R135 to R163, R191, R282). -/
namespace Sys2Proof.Machine

/-! ### Marks and strobes -/

/-- A slot whose frame was still being read at SS s − 1 goes out blank with READ_LATE (Table 5-5, R153). -/
def State.readLate (s : State) (leaf : Nat) (slot : Int) : State :=
  match s.slotRec leaf slot.toNat with
  | none => s
  | some r =>
    if r.data && !r.read then
      let s := s.putSlot { r with data := false, read := true }
      ((s.set1 F.SLT_ERR.READ_LATE).blankSlot r 5 3 allCols).rsvAdvance
    else s

/-- The last slot that the leaf in progress strobes. -/
def State.lastSlot (s : State) (h : LeafHdr) : Int := s.slt.endAt.getD (hdrLast h : Int)

/-- A mark or SS of slot `n`: the window of the slot before closes and its own opens, and the last SS is followed by LB
(R148, R150, R160, R162). A slot strobed while both authority lines are high is marked (R270). -/
def State.strobeAt (s : State) (l : Leaf) (h : LeafHdr) (n : Int) : State :=
  let s := s.windowClose l.id
  let unsent := decide (0 ≤ n) && (s.slotRec l.id n.toNat).any (fun (r : SlotRec) => !r.sent)
  let s := s.whenD unsent (fun s => s.pmcEvent 0x41 1 (engineInfo 0))
  let s := if s.hasAuth && s.bit F.TWN_STATUS.PEER_AUTH && 0 ≤ n then
      (match s.slotRec l.id n.toNat with
        | some r => s.putSlot { r with both := true }
        | none => s)
    else s
  let s := { s with slt := { s.slt with
    strobed := n
    furthest := max s.slt.furthest (s.due h n)
    window := if n < 0 then 0 else s.blankLow
    lbDue := s.slt.lbDue || decide (0 ≤ n ∧ n = s.lastSlot h) } }
  let s := (s.wrInt F.SLT_SLOT.SLOT n).wr F.SLT_SLOT.LEAF l.id
  let s := if s.rd F.SLT_STATUS.STATE = 3 then s.wr F.SLT_STATUS.STATE 2 else s
  s.readLate l.id (n + 1)

/-- The armed leaf starts at M−2 (R155, R156). -/
def State.leafStart (s : State) (l : Leaf) (h : LeafHdr) : State :=
  let s := { s with twn := { s.twn with ownEnd := none } }
  let s := (s.wr F.SLT_STATUS.STATE 2).strobeAt l h (-2)
  (((s.wr F.RSV_LEAF.BASE l.ras.base).wr F.RSV_LEAF.LEAF l.id).folShow).leafEvent

/-- The furthest position crosses due(−2), where an armed leaf starts or has missed a condition, or due(−1)
(R148, R156). -/
def execDueMarkCrossing (second : Bool) (s : State) : Host.Outcome State Fault Refusal :=
  match s.curLeaf with
  | none => done s
  | some (_, l, h) =>
    if second then
      if s.strobes && s.slt.strobed = -2 && 0 ≤ s.slt.decided then done (s.strobeAt l h (-1)) else done s
    else if s.rd F.SLT_STATUS.STATE ≠ 1 || s.saf.acting then done s
    else if s.startWait ≠ 0 then done { s with slt := { s.slt with near := false } }
    else done (s.leafStart l h)

/-- The furthest position reaches due(n): SS n is emitted. The decision for the slot after it has been taken two slots
before (R139, R150). -/
def execSlotStrobe (s : State) : Host.Outcome State Fault Refusal :=
  match s.curLeaf with
  | none => done s
  | some (_, l, h) =>
    let n := s.slt.strobed + 1
    if s.strobes && 0 ≤ n && n ≤ s.lastSlot h && min (n + 1) (s.lastSlot h) ≤ s.slt.decided then
      done (s.strobeAt l h n)
    else done s

/-! ### Release decisions -/

/-- The tracker's mark of the next slot: the lowest detail of Table 6-4, or LINK; 0 for none (R153, R159, R191). -/
def State.trackerMark (s : State) (h : LeafHdr) : Nat :=
  if s.rd F.SLT_PERIOD.T_PRED < s.rd F.SLT_PERIOD.P_MIN then 1
  else if s.rd F.SLT_ACCEL.MAX < s.slt.accel.natAbs then 2
  else if s.bit F.SLT_STATUS.BLANK_REQ then 4
  else if s.rd F.SLT_CROSS.TOL < (s.rdInt F.SLT_POS1.POS - h.originCross).natAbs then 5
  else if !s.linkActive then 14
  else 0

/-- What a mark counts and shows (R153, R163, SLT_STATUS, SLT_COUNTS). -/
def State.markShow (s : State) (mark run link : Nat) : State :=
  let s := (s.wrBit F.SLT_STATUS.OVERSPEED (mark = 1 || mark = 2)).wr F.SLT_STATUS.OVER_RUN (min run 0xFFFF)
  let s := { s with slt := { s.slt with linkRun := link, slowHold := s.slt.slowHold || mark = 1 || mark = 2 } }
  let s := match mark with
    | 1 => s.incSat F.SLT_COUNTS.OVERSPEED
    | 2 => (s.incSat F.SLT_COUNTS.ACCEL).set1 F.SLT_ERR.ACCEL
    | 4 => s.incSat F.SLT_COUNTS.BLANK_REQ
    | 5 => s.set1 F.SLT_ERR.CROSS
    | _ => s
  s.slowShow

/-- Tiles of tile row `t` at the release point of slot 4t: one that is not scattered, verified and compared is
abandoned as TILE_LATE, and in a pair a verified one without the twin's DIGEST is suspect (R106, R282). A late tile is reported
with that cause alone (DEDUCED, log 169). -/
def State.rowRelease (s : State) (p : Nat) (t : Int) : State :=
  (List.range 64).foldl (fun s e => match s.leafAt p with
    | none => s
    | some l => match l.ras.tileAt t e with
      | none => (s.tileFail p t e [8]).advance p e t
      | some k =>
        if k.cause ≠ 0 then s
        else if !k.verified then s.tileFail p t e [8]
        else if s.paired && !k.suspect && (s.peerDigest l.id t e).isNone then
          ((s.set1 F.TWN_ERR.DIGEST_LATE).incSat F.TWN_COUNTS.DIGEST_LATE).suspectTile p l.id k
        else s.digestJudge p l.id k) s

/-- Tiles whose last slot has been decided are forgotten. -/
def State.tilePrune (s : State) (p : Nat) (sl : Nat) : State :=
  s.setRas p (fun r => { r with tiles := r.tiles.filter (fun (k : TileSt) => decide ((sl : Int) ≤ 4 * k.row + 530)) })

/-- The release decision of slot `sl` once the tracker's mark is known (R140 to R142, R154, R159). -/
def State.decide_ (s : State) (p : Nat) (h : LeafHdr) (sl mark : Nat) (sealDiffers : Bool) : State :=
  let s := if sl % 4 = 0 && sl / 4 < hdrT h then
      ((List.range 64).foldl State.engineShow (s.rowRelease p ((sl / 4 : Nat) : Int))).rasShow
    else s
  match s.leafAt p with
  | none => s
  | some l =>
    let lacks := s.sealLacks l h sl
    let tile := !lacks.1.isEmpty
    let sus := !lacks.2.2.isEmpty
    let blank := tile || sus || mark ≠ 0 || sealDiffers
    let r : SlotRec :=
      { leaf := l.id
        slot := sl
        data := !blank
        tracker := mark ≠ 0
        read := blank
        auth := s.hasAuth
        sent := false
        missed := false
        both := false
        tPred := s.rd F.SLT_PERIOD.T_PRED
        timeS := s.nowS
        timeNs := s.nowNs
        words := []
        counted := none
        result := none
        heard := []
        masks := []
        settled := false }
    let s := (s.putSlot r).tilePrune p sl
    let s := { s with slt := { s.slt with decided := sl } }
    let cols := colMask lacks.1 ||| colMask lacks.2.2 ||| (if mark ≠ 0 then allCols else 0)
    let s := if sealDiffers then s.incSat F.RSV_COUNTS.BLANK_SLOTS
      else if tile then s.blankSlot r 1 lacks.2.1 cols
      else if sus then s.blankSlot r 4 0 cols
      else if mark ≠ 0 then s.blankSlot r 5 mark cols
      else s
    let s := s.rsvAdvance
    let s := s.wr F.RSV_LEAD.LOW_WATER (min (s.rd F.RSV_LEAD.LOW_WATER) (s.rd F.RSV_LEAD.LEAD))
    if sealDiffers then s.guardDemand 9 else s

/-- At SS s − 2 slot s is decided: read from its sealed frame, or blank; `sealDiffers` says that a fault makes the two
seal trackers disagree (R106, R139 to R142, R151 to R154, R191, R282, R323). -/
def execSlotReleaseDecision (sealDiffers : Bool) (s : State) : Host.Outcome State Fault Refusal :=
  match s.curLeaf with
  | none => done s
  | some (p, _, h) =>
    let sl := s.slt.decided + 1
    if !s.strobes || s.lastSlot h < sl || s.slt.strobed < sl - 2 then done s
    else
      let s := s.predict.permit h.rate
      let mark := s.trackerMark h
      let run := if mark = 1 || mark = 2 then s.rd F.SLT_STATUS.OVER_RUN + 1 else 0
      let link := if mark = 14 then s.slt.linkRun + 1 else 0
      if s.rd F.SLT_LIMITS.OVERSPEED < run && s.slt.endAt.isNone then done (s.earlyEnd true 6)
      else if s.rd F.BLK_CFG.LINK_LIMIT < link && s.slt.endAt.isNone then done (s.earlyEnd true 14)
      else done ((s.markShow mark run link).decide_ p h sl.toNat mark sealDiffers)

/-! ### The frame read -/

/-- Spare rows of a bank in use, and the fewest free ones (R143, RSV_REMAP). -/
def State.sparesUsed (s : State) (bank : Nat) : Nat := smGet (fun _ => 0) s.rsv.spares bank
def State.minSpares (s : State) : Nat := (s.rsv.spares.map (fun b => 32 - b.2)).foldl min 32

/-- A Reserve row at a lasting fault waits for its spare, or is reported only when its bank has none left; the bank that
gives its 32nd spare sets SPARES_EXHAUSTED (R143). -/
def State.rowRemap (s : State) (row : Nat) : State :=
  if s.rsv.remapWait.contains row || s.rsv.remapped.contains row || 32 ≤ s.sparesUsed (row / 1056) then s
  else
    let used := s.sparesUsed (row / 1056) + 1
    let s := { s with rsv := { s.rsv with
      remapWait := s.rsv.remapWait ++ [row], spares := smSet (fun _ => 0) s.rsv.spares (row / 1056) used } }
    let s := (s.wr F.RSV_REMAP.PENDING (min s.rsv.remapWait.length 255)).wr F.RSV_REMAP.MIN_SPARES s.minSpares
    if 32 ≤ used then s.set1 F.RSV_ERR.SPARES_EXHAUSTED else s

/-- An error event of a Reserve row in its bucket (Table 14-6). -/
def State.rowEvent (s : State) (k row : Nat) : State :=
  let b := s.bucket k row
  if b.2 then b.1.rowRemap row else b.1

/-- The payload of a slot: of every enabled beam whose line lies in the leaf, its Reserve byte with its generation
(R16, R19, R134 to R136). -/
def State.slotBytes (s : State) (l : Leaf) (h : LeafHdr) (sl : Nat) : List (Nat × Nat × Nat) :=
  let b := s.bank (l.ras.bank.getD 0)
  let n := globalFrame l.ras.base sl
  (List.range 528).flatMap (fun r => (List.range 512).filterMap (fun c =>
    let w := b.entry r c
    let line : Int := 32 * ((sl : Int) - r) + bePhi w
    if beEnable w && decide (0 ≤ line) && decide (line < h.lines) then
      let t := line / 128
      let g := ((sl / 4 : Nat) - t : Int).toNat
      let j : Nat := 3 - (line / 32 % 4).toNat
      let v := smGet (fun _ => 0) s.rsv.bytes (reserveByte n (c / 8) g (8 * j + c % 8))
      some (512 * r + c, v % 256, v / 256)
    else none))

/-- A frame's read ends: its bytes are checked and its place is free. `corrected` and `bad` name Reserve rows, the
latter with the engine whose granule held an uncorrectable byte; `wings` are those whose framer check failed (R135,
R136, R141 to R143, R164). -/
def execFrameReadDone (corrected : List Nat) (bad : List (Nat × Nat)) (wings : List Nat) (s : State) :
    Host.Outcome State Fault Refusal :=
  match s.curLeaf with
  | none => done s
  | some (_, l, h) =>
    let mine := s.slt.slots.filter (fun (r : SlotRec) => r.leaf = l.id && r.data && !r.read)
    match mine.getLast? with
    | none => done s
    | some r =>
      let s := corrected.foldl (fun s row => (s.incSat F.RSV_COUNTS.CORRECTED).rowEvent 6 row) s
      let s := bad.foldl (fun s b => (s.incSat F.RSV_COUNTS.UNCORRECTED).rowEvent 7 b.2) s
      let s := s.addSat F.RSV_COUNTS.FRAME_CHECK wings.length
      let bytes := s.slotBytes l h r.slot
      let gen := generation (globalFrame l.ras.base r.slot)
      let stale := (bytes.filter (fun b => b.2.2 ≠ gen)).map (fun b => b.1 % 512 / 8)
      let ecc := bad.map Prod.fst ++ stale
      let cols := colMask ecc ||| colMask (wings.flatMap (fun w => (List.range 16).map (fun i => 16 * w + i)))
      let s := s.whenD (!ecc.isEmpty) (fun s => s.set1 F.RSV_ERR.ECC)
      let s := s.whenD (!wings.isEmpty) (fun s => s.set1 F.RSV_ERR.FRAME_CHECK)
      if !ecc.isEmpty || !wings.isEmpty then
        let s := s.putSlot { r with data := false, read := true }
        done ((s.blankSlot r (if ecc.isEmpty then 3 else 2) 0 cols).rsvAdvance)
      else
        let words := (bytes.filter (fun b => b.2.1 ≠ 0)).map (fun b => (b.1, b.2.1))
        let s := s.putSlot { r with read := true, words := words, counted := some (s.dut.beamRoll, s.dut.plateRoll) }
        done { s with dut := { s.dut.count words with due := s.dut.due ++ [(l.id, r.slot)] } }.rsvAdvance

/-- In an interval in which no frame is read, the oldest waiting row is copied to its spare (R143, Table 15-8). -/
def execReserveRowRemapCopy (s : State) : Host.Outcome State Fault Refusal :=
  if s.slt.slots.any (fun (r : SlotRec) => r.data && !r.read) then done s
  else match s.rsv.remapWait with
    | [] => done s
    | row :: rest =>
      let s := { s with rsv := { s.rsv with remapWait := rest, remapped := listInsert row s.rsv.remapped } }
      let s := ((s.incSat F.RSV_REMAP.ROWS).wr F.RSV_REMAP.MIN_SPARES s.minSpares).wr F.RSV_REMAP.PENDING
        (min s.rsv.remapWait.length 255)
      done (s.aclLog 0x0402 (leBytes 2 (row / 1056) ++ leBytes 2 (row % 1056)))

/-! ### Encoders -/

/-- An encoder fault of Table 6-1: logged, REFERENCED cleared when it says so, and a leaf in progress ended at once
(R146). -/
def State.encFault (s : State) (n kind : Nat) : State :=
  let f := match n, kind with
    | 0, 0 => F.SLT_ERR.ENC0_OVERRATE
    | 0, 1 => F.SLT_ERR.ENC0_LOS
    | 0, _ => F.SLT_ERR.ENC0_INDEX
    | _, 0 => F.SLT_ERR.ENC1_OVERRATE
    | _, 1 => F.SLT_ERR.ENC1_LOS
    | _, _ => F.SLT_ERR.ENC1_INDEX
  let s := s.set1 f
  let s := if kind < 2 then s.clr (if n = 0 then F.SLT_STATUS.REF0 else F.SLT_STATUS.REF1) else s
  s.earlyEnd false 11

/-- The furthest position, the near side and the reverse limit after the stage has moved (R150, R155 to R157). -/
def State.stageMoved (s : State) : State :=
  match s.curLeaf with
  | none => s
  | some (_, _, h) =>
    let x := s.stageAt h
    let st := s.rd F.SLT_STATUS.STATE
    if st = 1 then
      if x < s.due h (-2) then { s with slt := { s.slt with near := true, furthest := x } }
      else { s with slt := { s.slt with furthest := max s.slt.furthest x } }
    else if s.slt.furthest < x then
      let s := { s with slt := { s.slt with furthest := x } }
      if st = 3 then s.wr F.SLT_STATUS.STATE 2 else s
    else if s.slt.furthest - x > (s.rd F.SLT_LIMITS.REVERSE : Int) * 65536 then s.earlyEnd false 13
    else s

/-- A transition of A or B of an encoder input is accepted and counted, or a pulse is rejected. `fast` says that it came
less than 10 ns after the one before; `velocity` and `accel` are the loop's estimates after it (R144 to R146, R150,
R157). -/
def execEncoderTransition (n : Fin 2) (edge : EncoderEdge) (fast : Bool) (velocity accel : Int) (s : State) :
    Host.Outcome State Fault Refusal :=
  match edge with
  | .glitch => done ((s.incSat F.SLT_COUNTS.GLITCH).bucketReport 13 n)
  | _ =>
    let lv := s.slt.levels.getD n (false, false)
    let lv := if edge = .a then (!lv.1, lv.2) else (lv.1, !lv.2)
    let up := if edge = .a then lv.1 != lv.2 else lv.1 == lv.2
    let inv := s.bit (if n = 0 then F.SLT_ENC_CFG.INVERT0 else F.SLT_ENC_CFG.INVERT1)
    let pos := if n = 0 then F.SLT_POS0.POS else F.SLT_POS1.POS
    let s := { s with slt := { s.slt with levels := s.slt.levels.set n lv } }
    let s := s.wrInt pos (s.rdInt pos + (if up != inv then 1 else -1))
    let s := if n = 0 then { s.wrInt F.SLT_VEL.VEL velocity with slt := { s.slt with accel := accel } } else s
    let s := if n = 0 then s.stageMoved else s
    done (if fast then s.encFault n 0 else s)

/-- An encoder's amplitude has been below the loss threshold for 100 ns (R146). -/
def execEncoderLos (n : Fin 2) (s : State) : Host.Outcome State Fault Refusal := done (s.encFault n 1)

/-- An accepted rising edge of Z: the counter is loaded and REFERENCED set, or the count is compared (R146, R147). -/
def execEncoderIndex (n : Fin 2) (s : State) : Host.Outcome State Fault Refusal :=
  let use := if n = 0 then F.SLT_ENC_CFG.USE_INDEX0 else F.SLT_ENC_CFG.USE_INDEX1
  let ref := if n = 0 then F.SLT_STATUS.REF0 else F.SLT_STATUS.REF1
  let pos := if n = 0 then F.SLT_POS0.POS else F.SLT_POS1.POS
  let val := if n = 0 then F.SLT_INDEX0.VALUE else F.SLT_INDEX1.VALUE
  if !s.bit use then done s
  else if !s.bit ref then done ((s.wr pos (s.rd val)).set1 ref)
  else if s.rd pos = s.rd val then done s
  else done ((s.wr pos (s.rd val)).encFault n 2)

/-! ### Leaves -/

/-- The standby begins a leaf whose commits differ: it runs DIVERGED (R284). -/
def State.mirrorDiverge (s : State) : State :=
  match s.curLeaf, s.twn.divergeLeaf with
  | some (_, l, _), some d =>
    if l.id = d then
      let s := { s with twn := { s.twn with divergeLeaf := none } }
      if s.pairState = 3 then s.diverge else s
    else s
  | _, _ => s

/-- The tracker leaves IDLE for ARMED. `twin` says that the twin's side of the tests of R279 holds; they are made at
the first arming after PREVIEW entry. No leaf arms once QUIESCE is written (R155, R156, R190, R279, R318, R331). -/
def execLeafArm (twin : Bool) (s : State) : Host.Outcome State Fault Refusal :=
  if s.rd F.SLT_STATUS.STATE ≠ 0 || (s.mode ≠ 2 && s.mode ≠ 3) || s.saf.acting || s.saf.groupRunning
      || s.blk.stepTo.isSome || s.boot.quiescing then done s
  else match s.fol.order with
    | [] => done s
    | p :: _ =>
      let s := if s.slt.firstArm then s.pairTest twin else s
      let s := { (s.wr F.SLT_STATUS.STATE 1) with fol := { s.fol with cur := some p } }
      match s.curLeaf with
      | none => done s
      | some (_, _, h) =>
        let x := s.stageAt h
        let s := s.mirrorDiverge
        let s := { s with slt := { s.slt with
          firstArm := false, furthest := x, near := decide (x < s.due h (-2)), decided := -1, strobed := -3,
          endAt := none, lbDue := false, window := 0, linkRun := 0 } }
        done (((s.wr F.SLT_STATUS.OVER_RUN 0).permit h.rate).folShow)

/-- f(t) has not advanced for 100 µs (R155). -/
def execTrackerPause (s : State) : Host.Outcome State Fault Refusal :=
  done (if s.rd F.SLT_STATUS.STATE = 2 && !s.slt.lbDue then s.wr F.SLT_STATUS.STATE 3 else s)

/-- f(t) has not advanced for longer than PAUSE_MS: a leaf that is paused, or ends and still has an SS to come, ends at
once (R155, R157). -/
def execPauseLimitExpiry (s : State) : Host.Outcome State Fault Refusal :=
  done (if s.rd F.SLT_STATUS.STATE = 3 || s.rd F.SLT_STATUS.STATE = 4 then s.earlyEnd false 12 else s)

/-- Self-tests and their age at LB: a group runs, or all that remain of a cycle that has grown too old (R331, R332). -/
def State.groupStart (s : State) : State :=
  if (s.mode ≠ 2 && s.mode ≠ 3) || s.saf.acting then s
  else
    let late := decide (s.rd F.SAF_CFG.LATENT_H * 3600 < s.rd F.SAF_LATENT.CYCLE_AGE)
    let s := { s with saf := { s.saf with groupRunning := true, overdue := late } }
    if late then
      (s.set1 F.SAF_ERR.LATENT_OVERDUE).aclLog 0x0204 (leBytes 1 2 ++ leBytes 1 0 ++ leBytes 1 (s.rd F.SAF_LATENT.NEXT_GROUP))
    else s

/-- LB is stamped in TB1 in the Accession Log (R11): a record of this device, with the present TB1. DESIGN CHOICE (log 123):
Table 15-8 lists no event for it, so that its event code and its data are free; the Guard's record of a leaf that it ends is
the last (R315). -/
def State.lbStamp (s : State) : State :=
  if s.saf.acting then s else (s.freeBytes 12).2.aclLog (Config.lbEvent % 2 ^ 16) (s.freeBytes 12).1

/-- LB in the cycle after the last SS: it is stamped, the leaf leaves its place, pairing and hand-over are settled, and what
waits for the tracker begins (R11, R40, R66, R133, R160, R218, R279, R283, R291, R331). -/
def execLeafBoundary (twin : Bool) (s : State) : Host.Outcome State Fault Refusal :=
  match s.curLeaf with
  | none => done s
  | some (p, l, h) =>
    if !s.slt.lbDue then done s
    else
      let s := (s.windowClose l.id).lbStamp.leafGone p l h
      let s := s.clr F.TWN_STATUS.DIVERGED
      done (((s.handover).pairTest twin).groupStart)

/-- An armed leaf is aborted, and leaves its place at once (R155, R158, R318). -/
def State.armedAbort (s : State) : State :=
  if s.rd F.SLT_STATUS.STATE = 1 then
    match s.curLeaf with
    | none => s
    | some (p, l, h) => ((s.endLeafAt p l h true 0 10 true).endAlone l.id (hdrLast h)).leafGone p l h
  else s

/-- SLT_CTL.ABORT: an armed leaf ends at once with one record from slot 0, a running one orderly (R155, R158). -/
def execSltAbort (m : Master) (s : State) : Host.Outcome State Fault Refusal :=
  done (s.gated m F.SLT_CTL.ABORT.off (fun s =>
    if s.rd F.SLT_STATUS.STATE = 1 then s.armedAbort else s.earlyEnd true 10))

/-! ### Blanking -/

/-- A low on BLANK_REQ_N is accepted: BLANK_ALL_N goes low, in every mode (R161, R162, R272, R321). -/
def execBlankReqAssert (s : State) : Host.Outcome State Fault Refusal :=
  done (s.set1 F.SLT_STATUS.BLANK_REQ).windowLow

/-- BLANK_REQ_N has stayed high for DEBOUNCE: the request is released (R161). -/
def execBlankReqRelease (s : State) : Host.Outcome State Fault Refusal :=
  done ((s.clr F.SLT_STATUS.BLANK_REQ).clr F.SLT_STATUS.BLANK_LASTING)

/-- The request has stood for more than 1 s (R161, Table 15-8). -/
def execBlankLasting (s : State) : Host.Outcome State Fault Refusal :=
  if s.bit F.SLT_STATUS.BLANK_REQ then
    let s := s.set1 F.SLT_STATUS.BLANK_LASTING
    done ((s.aclLog 0x0501 (leBytes 4 (s.rd F.SLT_SLOT.LEAF) ++ leBytes 4 (s.rd F.SLT_SLOT.SLOT))).faultEvent)
  else done s

/-- BLANK_ALL_N reads low, or high again, while this device does not drive it low (R162, R271). -/
def execBlankAllNLowObserved (low : Bool) (s : State) : Host.Outcome State Fault Refusal :=
  done ({ s with slt := { s.slt with seenLow := low && !s.drivesBlank } }.windowLow)

/-- The hold time of STAGE_SLOW runs out (R163). -/
def execStageSlowHoldExpiry (s : State) : Host.Outcome State Fault Refusal :=
  done ({ s with slt := { s.slt with slowHold := false } }.slowShow)

end Sys2Proof.Machine
end

