-- ==== Sys2Proof/Machine/PairOps.lean ====
section
/-! DEFINITION. The shared operations of a pair: messages of the twin, positions, changes of authority and take-over
(R270 to R276, R280, R286 to R291). -/
namespace Sys2Proof.Machine

/-! ### Messages -/

/-- A head block is good: its length, MTYPE, BODY and check (R276). -/
def iklGood (mtype body : Nat) (head : List Byte) : Bool :=
  head.length = 16 && fieldAt head 0 1 = mtype && fieldAt head 1 1 = body && fieldAt head 14 2 = crc16 (head.take 14)

/-- A message or a record discarded (R276, R285). -/
def State.iklDiscard (s : State) : State := (s.set1 F.IKL_ERR.CHECK).incSat F.IKL_COUNTS.CHECK

/-- The bytes of a received data block, descrambled (R275). -/
def iklPlain (b : IklBlock) : List Byte := (scramble (lfsrAfter (iklSeed b.lane) b.index) b.bytes).1

/-- The body blocks that follow a head block on its lane, descrambled (R275, R276). -/
def iklFollow (b : IklBlock) (body : List Byte) : List Byte :=
  (scramble (lfsrAfter (iklSeed b.lane) (b.index + 1)) body).1

/-- The link's state code, with READY (IKL_STATUS). A message whose body was being sent as the link leaves ACTIVE is sent
again, and in DOWN and DISABLING the lanes send nothing (R277, Table 12-2). -/
def State.setIkl (s : State) (st : Nat) : State :=
  let leaves := s.rd F.IKL_STATUS.STATE = 3 && st ≠ 3
  let quiet := fun (l : IklLane) => if st = 0 || st = 6 then { l with out := none } else l
  let s := { s with ikl := { s.ikl with
    lanes := s.ikl.lanes.map (fun (l : IklLane) => quiet (if leaves then l.again else l)) } }
  (s.wr F.IKL_STATUS.STATE st).wrBit F.IKL_STATUS.READY (st = 3)

/-- The state of the Ikisal lanes in BLK_LANEn. -/
def State.iklLanes (s : State) (st : Nat) : State :=
  (List.range 16).foldl (fun s k => s.wr (F.BLK_LANE.STATE (104 + k)) st) s

/-- RECOVERY at the link rate (Table 12-2). -/
def State.iklRecover (s : State) : State :=
  (((s.setIkl 5).set1 F.IKL_ERR.RECOVERY).incSat F.IKL_COUNTS.RECOVERIES).iklLanes 1

/-- A block error of a receive lane: counted in the lane and in its bucket, whose lasting fault sends an ACTIVE link to
RECOVERY (R173, Table 14-6). -/
def State.iklBlockError (s : State) (lane : Nat) : State :=
  let b := (s.incSat (F.BLK_LANE.ERRORS (112 + lane))).bucket 2 (112 + lane)
  let s := b.1.laneShow (112 + lane) 2 (112 + lane)
  if b.2 && s.rd F.IKL_STATUS.STATE = 3 then s.iklRecover else s

/-- What a received block does: a header that is neither data nor control is a block error of the lane; a control block is no
message; and a data block is the head of a message, which acts when it is good and else is discarded (R173, R276). -/
def State.iklMessage (s : State) (mtype body : Nat) (b : IklBlock) (f : List Byte → State → State) : State :=
  match b.sync.val with
  | 1 => if iklGood mtype body (iklPlain b) then f (iklPlain b) s else s.iklDiscard
  | 2 => s
  | _ => s.iklBlockError b.lane

/-! ### Positions -/

/-- LEAF and SLOT of the last release decision; both 0 while no leaf is in progress (Table 12-3). -/
def State.position (s : State) : Nat × Int :=
  match s.curLeaf with
  | some (_, l, _) => if 2 ≤ s.rd F.SLT_STATUS.STATE then (l.id, s.slt.decided) else (0, 0)
  | none => (0, 0)

/-- OPEN_FROM: the lowest first slot of the open Lacuna records, or the slot after the last decision (R286). -/
def State.ownOpenFrom (s : State) : Nat :=
  let open_ := ([s.lac.openRel, s.lac.openRes].filterMap id).filter (fun (r : LacRec) => r.own && r.leaf = s.position.1)
  match lowestNat (open_.map (fun (r : LacRec) => r.first)) with
  | some f => f
  | none => (s.position.2 + 1).toNat

/-- The bytes of a HEARTBEAT from byte 2 on (Table 12-3). -/
def State.beatBytes (s : State) : List Byte :=
  let st := s.rd F.SLT_STATUS.STATE
  let flags := (if s.hasAuth then 1 else 0) + (if s.bit F.TWN_STATUS.DIVERGED then 2 else 0)
    + (if st = 2 || st = 3 then 4 else 0)
  leBytes 1 s.pairState ++ leBytes 1 flags ++ leBytes 2 s.position.1 ++ leBytes 4 (unsigned 32 s.position.2)
    ++ leBytes 4 s.ownOpenFrom

/-! ### Authority -/

/-- The device is in PREVIEW or RUN and the Guard is at rest: the pair states move. -/
def State.pairRuns (s : State) : Bool := (s.mode = 2 || s.mode = 3) && !s.saf.acting

/-- SOLO_WAIT entered: ALONE_WAIT starts, and no demand for take-over is left (R288, Table 12-1). -/
def State.soloWait (s : State) : State :=
  { s.wr F.TWN_STATUS.STATE 1 with twn := { s.twn with waited := false, demand := false } }

/-- TWIN_AUTH asserted with the pair state that goes with it (R270). -/
def State.assertAuth (s : State) (st : Nat) : State := ((s.set1 F.TWN_STATUS.AUTH).wr F.TWN_STATUS.STATE st).twinEvent

/-- The slots below `n` of a leaf that take-over records cover: from OPEN_FROM to the last one sent without AUTH, those that
the plate did not report FIRED (R289). -/
def State.unfired (s : State) (leaf n : Nat) : List Nat :=
  ((List.range n).filter (fun k => s.twn.openFrom ≤ k)).filter
    (fun k => !s.twn.results.any (fun x => x.1 = leaf && x.2.1 = k && x.2.2 = 0))

/-- The take-over record of one slot; TIME is that of its release point (R169, R289). -/
def State.takeRecord (s : State) (leaf k : Nat) : LacRec :=
  match s.slotRec leaf k with
  | some r => { r.lacuna 0x70 allCols with own := true }
  | none => ⟨leaf, 0x70, flagCreated, k, k, allCols, s.nowS % 2 ^ 32, s.nowNs, true⟩

/-- The last run of consecutive slots of a rising list: its first slot and its length. -/
def lastRun : List Nat → Option (Nat × Nat)
  | [] => none
  | k :: ks => match lastRun ks with
    | none => some (k, 1)
    | some (f, n) => if k + 1 = f && n = ks.length then some (k, n + 1) else some (f, n)

/-- TWN_LAST_TAKEOVER. -/
def State.takeShow (s : State) (leaf first n : Nat) : State :=
  ((s.wr F.TWN_LAST_TAKEOVER.FIRST_SLOT first).wr F.TWN_LAST_TAKEOVER.LEAF leaf).wr F.TWN_LAST_TAKEOVER.SLOTS (min n 0xFFFF)

/-- The record of a DIVERGED device at TO: from the first slot that was not fired, or the slot `next` that was never sent, to
S_last (R289). -/
def State.takeToEnd (s : State) (leaf last next : Nat) : State :=
  let first := (lowestNat (s.unfired leaf next)).getD next
  if last < first then s
  else
    let r := s.takeRecord leaf first
    (s.lacClose { r with flags := r.flags + flagToEnd, last := last }).takeShow leaf first (last + 1 - first)

/-- The leaf whose end a DIVERGED standby decided on its own, which has reached its LB here while the twin ran it (R283,
R289). -/
def State.takeEnded (s : State) : State :=
  match s.twn.ownEnd with
  | some (leaf, last, next) =>
    if s.bit F.TWN_STATUS.DIVERGED then { s.takeToEnd leaf last next with twn := { s.twn with ownEnd := none } } else s
  | none => s

/-- The Lacuna records of TO: the runs of slots that were not fired, or, of a DIVERGED device, one record to the last
slot of the leaf, which ends early with detail ABORT (R289). -/
def State.takeRecords (s : State) : State :=
  match s.curLeaf with
  | none => s.takeEnded
  | some (p, l, h) =>
    if s.rd F.SLT_STATUS.STATE < 2 || s.slt.lbDue then s.takeEnded
    else
      let next := (s.slt.decided + 1).toNat
      let ks := s.unfired l.id next
      if s.bit F.TWN_STATUS.DIVERGED then
        let s := s.takeToEnd l.id (hdrLast h) next
        let at_ := s.endFirst true
        if (s.rd F.SLT_STATUS.STATE = 4) || hdrLast h < at_ then s else s.endLeafAt p l h true at_ 10 false
      else
        let s := ks.foldl (fun s k => s.lacHandRes (s.takeRecord l.id k)) s
        match lastRun ks with
        | some (f, n) => s.takeShow l.id f n
        | none => s

/-- TO: the standby asserts TWIN_AUTH on a demand (R288, R289, R260). -/
def State.takeOver (s : State) : State :=
  let s := { s with twn := { s.twn with demand := false } }
  let s := (s.assertAuth 2).set1 F.TWN_ERR.TAKEOVER
  let s := ((s.incSat F.TWN_COUNTS.TAKEOVERS).source 26).twinRecord 5
  (s.tb1Switch).takeRecords

/-- A hand-over takes effect at the standby: it holds authority from the next leaf on (R291, R260). -/
def State.takeHandover (s : State) : State :=
  let s := { s with twn := { s.twn with handover := none } }
  (s.assertAuth 4).tb1Switch

/-- Whether a hand-over that has come may take effect: no leaf is in progress, or it is the named one (R291). -/
def State.handoverDue (s : State) : Bool :=
  s.pairState = 3 && (match s.twn.handover with
    | none => false
    | some n => s.rd F.SLT_STATUS.STATE < 2 || s.position.1 = n)

/-- What a device may do once TWIN_PEER_AUTH has been low for 100 ns: a take-over on demand, a hand-over, or authority
as a lone device (R270, Table 12-1). -/
def State.authSettle (s : State) : State :=
  if !s.pairRuns || !s.twn.peerLow || s.hasAuth then s
  else if !s.bit F.TWN_CFG.MODE then s.assertAuth 0
  else if s.twn.demand && s.pairState = 3 then s.takeOver
  else if s.handoverDue then s.takeHandover
  else if s.pairState = 1 && (!s.bit F.TWN_CFG.ROLE || s.twn.waited) then (s.assertAuth 2).tb1Switch
  else s

/-- A device leaves its PAIRED state: the authority alone keeps authority, and the standby waits, or takes authority where
it may at once (Table 12-1). -/
def State.leavePaired (s : State) : State :=
  if s.pairState = 4 then s.wr F.TWN_STATUS.STATE 2 else if s.pairState = 3 then s.soloWait.authSettle else s

/-- TWIN_PEER_AUTH goes high while a demand waits for the interlock: that of HB_LOST lapses, since the twin is alive and
keeps authority, and the standby leaves its PAIRED state (R288). -/
def State.demandLapse (s : State) : State :=
  if !s.twn.demand || s.twn.alive then s
  else { s with twn := { s.twn with demand := false } }.leavePaired

/-- A demand for take-over: it is met at once, or waits for the interlock (R270, R288). -/
def State.takeDemand (s : State) : State := { s with twn := { s.twn with demand := true } }.authSettle

/-- TWN_CTL.YIELD: the authority of a pair hands over at the next LB, unless the twin cannot take it (R291). -/
def State.yieldAsk (s : State) : State :=
  if s.pairState = 4 && s.rd F.TWN_PEER_POS.STATE = 3 && !s.twn.peerDiverged then s.set1 F.TWN_STATUS.YIELD_PENDING
  else s

end Sys2Proof.Machine
end

