-- ==== Sys2Proof/Machine/Ikisal.lean ====
section
/-! DEFINITION. The commands of the Ikisal link: bring-up, rates and recovery (R275, R276, Table 12-2). -/
namespace Sys2Proof.Machine

/-- Block lock of the receive lanes. -/
def State.iklLock (s : State) (lock : Nat) : State :=
  (List.range 8).foldl (fun s k => s.wr (F.BLK_LANE.LOCKED (112 + k)) (lock / 2 ^ k % 2)) (s.wr F.IKL_STATUS.LOCK lock)

/-- The next rate of a step-up: no higher than either end's highest, and not marked failed (R275). -/
def State.iklNextRate (s : State) : Option Nat :=
  let r := s.rd F.IKL_STATUS.RATE + 1
  [r, r + 1].find? (fun r => r ≤ s.rd F.BLK_IKL_CFG.MAX_RATE && r ≤ s.ikl.peerMax && r ≤ 2
    && s.rd F.IKL_STATUS.FAILED_RATES / 2 ^ r % 2 = 0)

/-- A step-up begins: TS with SWITCH go out (Table 12-2). -/
def State.iklStep (s : State) : State :=
  match s.iklNextRate with
  | none => s
  | some _ => { s.setIkl 4 with ikl := { s.ikl with switching := false } }.iklLanes 1

/-- ALIGN at a rate, from LISTEN (0), STEP (1) or RECOVERY (2). -/
def State.iklAlign (s : State) (rate src : Nat) : State :=
  { (s.wr F.IKL_STATUS.RATE rate).setIkl 2 with
    ikl := { s.ikl with alignFrom := src, twinAligned := false, amSeen := false, blocks := 0 } }

/-- LISTEN at 8 Gbit/s. -/
def State.iklListen (s : State) : State := (((s.wr F.IKL_STATUS.RATE 0).iklLock 0).setIkl 1).iklLanes 1

/-- ACTIVE; after the first one at 8 Gbit/s in BOOT the link goes on to the next rate until none remains (R275). -/
def State.iklActive (s : State) : State :=
  let s := (s.setIkl 3).iklLanes 2
  let go := s.ikl.autoStep || (s.mode = 1 && s.rd F.IKL_STATUS.RATE = 0 && !s.ikl.begun)
  let s := { s with ikl := { s.ikl with
    begun := true, autoStep := go && s.iklNextRate.isSome, blocks := max 64 s.ikl.blocks } }
  if s.ikl.autoStep then s.iklStep else s

/-- A TS of the twin on a lane, as Table 7-1 and R275 lay it out. -/
def iklTs (lane : Nat) (b : List Byte) : Bool :=
  b.length = 16 && fieldAt b 0 1 = 0x2D && fieldAt b 1 1 = 0x10 && fieldAt b 2 1 = lane
    && (b.drop 7) = List.replicate 9 0x4A#8

/-- Whether valid TS of the twin are seen on all 8 lanes. -/
def tsAll (ts : List (List Byte)) : Bool := (List.range 8).all (fun k => ts.any (iklTs k))

/-- IKL_CTL.ENABLE written 1 (R194, R275). -/
def State.iklEnable (s : State) : State :=
  if s.rd F.IKL_STATUS.STATE = 6 then s.set1 F.IKL_STATUS.PENDING_ENABLE
  else
    let s := s.set1 F.IKL_CTL.ENABLE
    if s.rd F.IKL_STATUS.STATE = 0 then s.iklListen else s
def execIklEnable (m : Master) (s : State) : Host.Outcome State Fault Refusal :=
  done (s.gated m F.IKL_CTL.ENABLE.off State.iklEnable)

/-- IKL_CTL.ENABLE written 0; it cancels a pending enable (R194, R275). -/
def State.iklDisable (s : State) : State :=
  let s := (s.clr F.IKL_CTL.ENABLE).clr F.IKL_STATUS.PENDING_ENABLE
  if s.rd F.IKL_STATUS.STATE = 0 || s.rd F.IKL_STATUS.STATE = 6 then s
  else { ((s.iklLock 0).setIkl 6).iklLanes 0 with ikl := { s.ikl with autoStep := false, switching := false } }
def execIklDisable (m : Master) (s : State) : Host.Outcome State Fault Refusal :=
  done (s.gated m F.IKL_CTL.ENABLE.off State.iklDisable)

/-- IKL_CTL.STEP_UP written: ignored in PAIRED states (R275). -/
def State.iklStepUp (s : State) : State := if s.paired || s.rd F.IKL_STATUS.STATE ≠ 3 then s else s.iklStep
def execIklStepUp (m : Master) (s : State) : Host.Outcome State Fault Refusal :=
  done (s.gated m F.IKL_CTL.STEP_UP.off State.iklStepUp)

/-- IKL_CTL.RETRAIN sends an ACTIVE link to RECOVERY (IKL_CTL). -/
def State.iklRetrain (s : State) : State := if s.rd F.IKL_STATUS.STATE = 3 then s.iklRecover else s
def execIklRetrain (m : Master) (s : State) : Host.Outcome State Fault Refusal :=
  done (s.gated m F.IKL_CTL.RETRAIN.off State.iklRetrain)

/-- The receive lanes show block lock, the twin's TS, and the lanes on which an AM has come since ALIGN was entered
(R275, Table 12-2). An ACTIVE link with a lane out of lock goes to RECOVERY, and a twin that has begun a step takes one along. -/
def execIklTs (lock am : BitVec 8) (ts : List (List Byte)) (s : State) : Host.Outcome State Fault Refusal :=
  let st := s.rd F.IKL_STATUS.STATE
  if st = 0 || st = 6 then done s
  else
    let s := s.iklLock lock.toNat
    let all := lock = BitVec.allOnes 8
    let b := ts.headD []
    let named := fieldAt b 4 1
    let sw := tsAll ts && fieldAt b 5 1 % 2 = 1
    let s := if tsAll ts then { s with ikl := { s.ikl with peerMax := fieldAt b 6 1 } } else s
    if st = 1 then done (if all && tsAll ts then s.iklAlign 0 0 else s)
    else if st = 2 then
      let s := { s with ikl := { s.ikl with
        twinAligned := s.ikl.twinAligned || (tsAll ts && (named = 2 || named = 3))
        amSeen := s.ikl.amSeen || am = BitVec.allOnes 8 } }
      done (if s.ikl.twinAligned && s.ikl.amSeen then s.iklActive else s)
    else if st = 3 then
      if !all then done s.iklRecover
      else if sw && s.iklNextRate.isSome then
        let s := s.iklStep
        done { s with ikl := { s.ikl with switching := true } }
      else done s
    else if st = 4 then done (if sw then { s with ikl := { s.ikl with switching := true } } else s)
    else done (if all then s.iklAlign (s.rd F.IKL_STATUS.RATE) 2 else s)

/-- ALIGN has failed for 1 ms (Table 12-2). -/
def execIklAlignTimeout (s : State) : Host.Outcome State Fault Refusal :=
  if s.rd F.IKL_STATUS.STATE ≠ 2 then done s
  else
    let r := s.rd F.IKL_STATUS.RATE
    match s.ikl.alignFrom with
    | 1 =>
      let s := s.wr F.IKL_STATUS.FAILED_RATES (s.rd F.IKL_STATUS.FAILED_RATES ||| 2 ^ r)
      done (s.iklAlign s.ikl.prevRate 2)
    | 2 => if r = 0 then done s.iklListen else done ((s.set1 F.IKL_ERR.RATE_FALLBACK).iklAlign (r - 1) 2)
    | _ => done s.iklListen

/-- A receive lane has lost block lock, or has brought no valid block for 10 µs; `lock` are the lanes still in lock
(Table 12-2). -/
def execIklLinkSilent (lock : BitVec 8) (s : State) : Host.Outcome State Fault Refusal :=
  let st := s.rd F.IKL_STATUS.STATE
  if st = 0 || st = 6 then done s
  else
    let s := s.iklLock lock.toNat
    done (if st = 3 then s.iklRecover else s)

/-- 10 µs after the later SWITCH both ends change rate (Table 12-2). -/
def execIklRateSwitch (s : State) : Host.Outcome State Fault Refusal :=
  if s.rd F.IKL_STATUS.STATE ≠ 4 || !s.ikl.switching then done s
  else match s.iklNextRate with
    | none => done s
    | some r =>
      let s := { s with ikl := { s.ikl with prevRate := s.rd F.IKL_STATUS.RATE, switching := false } }
      done (s.iklAlign r 1)

/-- The transmit pipelines of a disabling link have drained (R194, R275). -/
def execIklDrainComplete (s : State) : Host.Outcome State Fault Refusal :=
  if s.rd F.IKL_STATUS.STATE ≠ 6 then done s
  else if s.bit F.IKL_STATUS.PENDING_ENABLE then
    done ((s.setIkl 0).clr F.IKL_STATUS.PENDING_ENABLE).iklEnable
  else done (s.setIkl 0)

/-- A head block with a bad check, an unknown MTYPE or a wrong BODY (R276). -/
def execIkisalHeadDiscard (s : State) : Host.Outcome State Fault Refusal := done s.iklDiscard

end Sys2Proof.Machine
end

