-- ==== Sys2Proof/Machine/CoreMem.lean ====
section
/-! DEFINITION. Accesses as the cores and the other requesters present them: their rights, the Keeper's memories, and the Docent
shared SRAM (R196, R208, R341, R342, R345). -/
namespace Sys2Proof.Machine

/-- The kind of an access: 1 load, 2 store, 3 fetch. -/
def arrivalKind (r : MemArrival) : Nat := if r.fetch then 3 else if r.write.isSome then 2 else 1

/-- The master of an access, where it is a core: Table 15-2 gives rights to no other. -/
def arrivalFrom (r : MemArrival) : Option Master :=
  match r.core with
  | some c => some (if r.user then .docentU c else .docentM c)
  | none => if r.master.val = 24 then some Master.keeper else none

/-- The beam table's staging buffer (R128). -/
def State.inStage (s : State) (a : Nat) : Bool :=
  s.rd F.BCT_STAGE.BASE * 2 ^ 22 ≤ a && a < s.rd F.BCT_STAGE.BASE * 2 ^ 22 + 2162688

/-- Whether Table 15-2 gives a core an access. `keeper` says that it is the Keeper; spaces are 0 DDR5, 1 host, 2 Docent shared
SRAM, 3 Keeper ROM and 4 Keeper SRAM. -/
def State.coreMay (s : State) (keeper : Bool) (space a kind : Nat) : Bool :=
  match space with
  | 0 =>
    (match s.regionType a with
      | none => false
      | some t =>
        if kind = 1 then true
        else if kind = 3 then !keeper && t = 4
        else if keeper then 3 ≤ t
        else t = 4 || t = 5 || s.inStage a)
  | 2 => !keeper || kind ≠ 3
  | 3 => keeper && kind ≠ 2
  | 4 => keeper && kind ≠ 3
  | _ => false

/-- The refusal of a core's access: recorded and logged; a Docent store takes a store access fault, and a load or fetch a
bus-error exception (R344, R345). -/
def State.coreRefuse (s : State) (m : Master) (space a kind : Nat) : State :=
  let s := s.fwRefuse m a (if space = 0 then 4 + kind else kind)
  match m with
  | .docentM c => if kind = 2 then s.trap m 2 else s.busError (some (c, kind))
  | .docentU c => if kind = 2 then s.trap m 2 else s.busError (some (c, kind))
  | _ => s

/-- The bytes and the code bits of a word of a SEC-DED memory: eight bytes in the Docent shared SRAM, four in the Keeper SRAM
(R341, R342). -/
def sramWord (space : Nat) : Nat := if space = 2 then 8 else 4
def sramBits (space : Nat) : Nat := if space = 2 then 72 else 39

/-- The bytes of the memories of the cores, and their size. -/
def State.sramByte (s : State) (space a : Nat) : Byte :=
  if space = 2 then smGet byteDefault s.sram a
  else if space = 3 then BitVec.ofNat 8 (Config.keeperRom a)
  else smGet byteDefault s.kprSram a
def sramSize (space : Nat) : Nat := if space = 2 then 2 ^ 22 else 2 ^ 18

/-- The pattern by which a stored word of such a memory differs from what was written. -/
def State.sramPattern (s : State) (space word : Nat) : Nat :=
  smGet (fun _ => 0) (if space = 2 then s.sramErr else s.kprErr) word

/-- Such a pattern, and the bytes of such a memory, replaced. -/
def State.sramPatternPut (s : State) (space word e : Nat) : State :=
  if space = 2 then { s with sramErr := smSet (fun _ => 0) s.sramErr word e }
  else { s with kprErr := smSet (fun _ => 0) s.kprErr word e }
def State.sramBytesPut (s : State) (space a : Nat) (bs : List Byte) : State :=
  if space = 2 then { s with sram := memWrite s.sram a bs } else { s with kprSram := memWrite s.kprSram a bs }

/-- Bits of a stored word change. A code that corrects one bit and detects two need not find more; what it does not find reads
as the changed data (R341, R342; log 176). -/
def State.sramUpset (s : State) (space word flips : Nat) : State :=
  let e := s.sramPattern space word ^^^ (flips % 2 ^ sramBits space)
  if 3 ≤ bitCount (sramBits space) e && !Config.secdedFinds (sramBits space) e then
    let n := sramWord space
    let bs := (List.range n).map (fun i => s.sramByte space (n * word + i))
    (s.sramPatternPut space word 0).sramBytesPut space (n * word)
      (bs.zipIdx.map (fun x => x.1 ^^^ BitVec.ofNat 8 (e / 2 ^ (8 * x.2))))
  else s.sramPatternPut space word e

/-- A load or a fetch of the word that holds an address: one changed bit is corrected, more make the word uncorrectable, and the
mark goes with its data. A correction of the Keeper SRAM is flagged and counted (R341, R342, KPR_ERR, KPR_COUNTS). -/
def State.sramLoad (s : State) (space a : Nat) : State × Bool :=
  let n := sramWord space
  let word := a / n
  let errs := if space = 3 then 0 else bitCount (sramBits space) (s.sramPattern space word)
  let mark := 2 ≤ errs || (space = 2 && s.sramPoisoned (n * word) n)
  let bs := (List.range n).map (fun i => s.sramByte space (n * word + i))
  let s := { s with coreResp := some (space, n * word, bs, mark) }
  (s.whenD (space = 4 && errs = 1) (fun s => (s.set1 F.KPR_ERR.SRAM_CORRECTED).incSat F.KPR_COUNTS.CORRECTED), mark)

/-- A store: a whole word is written afresh, and a narrower one into a word that can be corrected writes the rest back. -/
def State.sramStore (s : State) (space a : Nat) (bs : List Byte) : State :=
  let n := sramWord space
  let bs := bs.take (n - a % n)
  let fresh := bs.length = n || bitCount (sramBits space) (s.sramPattern space (a / n)) < 2
  let s := s.whenD fresh (fun s => s.sramPatternPut space (a / n) 0)
  if space = 2 then s.sramWrite a bs false else s.sramBytesPut space a bs

/-- A core's access to an SRAM or to the Keeper ROM, which answers in fixed time. `flips` are bits of the word that have changed
since. A Docent that reads an uncorrectable word takes a bus-error exception (R342, Table 8-3); what it means to the Keeper
beside the mark is not stated (log 176). -/
def State.sramAccess (s : State) (r : MemArrival) : State :=
  let core := r.core.map (fun c => (c.val, arrivalKind r))
  if sramSize r.space ≤ r.addr then s.busError core
  else
    let code := match core with
      | some k => 16 + k.1
      | none => r.master.val
    let info : PmcInfo := ⟨0, code, if core.isSome then some (if r.user then 2 else 1) else some 0, 2 ^ 64⟩
    let n := match r.write with
      | some bs => bs.length
      | none => sramWord r.space
    let s := (s.pmcEvent 0x10 1 info).pmcEvent 0x11 n info
    let s := if r.space = 3 then s else s.sramUpset r.space (r.addr / sramWord r.space) r.flips
    match r.write with
    | some bs => s.sramStore r.space r.addr bs
    | none =>
      let (s, mark) := s.sramLoad r.space r.addr
      if mark then s.busError core else s

/-- A request is presented. Cores are held to their rights (R345), and a core that DOC_CFG.CORES keeps in reset presents none
(R342). A DDR5 request waits at its channel's port; at F or above none is issued, which a Docent meets as a bus error (R196). -/
def State.memPresent (s : State) (r : MemArrival) : State :=
  let core := r.core.map (fun c => (c.val, arrivalKind r))
  let refused := match arrivalFrom r with
    | some m => if s.coreMay (decide (m = Master.keeper)) r.space r.addr (arrivalKind r) then none else some m
    | none => none
  if r.core.any (fun c => !s.coreOn c) then s
  else if r.space.val = 0 && s.fitted ≤ r.addr then s.busError core
  else match refused with
    | some m => s.coreRefuse m r.space r.addr (arrivalKind r)
    | none =>
      if r.space.val ≠ 0 then (if (arrivalFrom r).isSome then s.sramAccess r else s)
      else match s.chanOf r.addr with
        | none => s
        | some c =>
          let code := match core with
            | some k => 16 + k.1
            | none => r.master.val
          let o := r.addr % 64
          s.portPut c r.addr (r.write.map (fun bs => (o, bs.take (64 - o)))) core code r.user

end Sys2Proof.Machine
end

