-- ==== Sys2Proof/Machine/MemOps.lean ====
section
/-! DEFINITION. The end of a training of a DDR5 channel, shared by its commands (R216 to R218, R346). -/
namespace Sys2Proof.Machine

/-! ### Training -/

/-- What a training finds of a lane (R216, MEM_CHc_TRAINn). -/
def State.trainLane (s : State) (c n : Nat) (e : LaneEye) : State :=
  ((((s.wr (F.MEM_CH_TRAIN.RX_DELAY c n) (min e.rx 255)).wr (F.MEM_CH_TRAIN.TX_DELAY c n) (min e.tx 255)).wr
    (F.MEM_CH_TRAIN.VREF c n) (min e.vref 70)).wr (F.MEM_CH_TRAIN.EYE c n) (min e.eye 255)).wrBit
    (F.MEM_CH_TRAIN.PASS c n) (decide (32 ≤ e.eye))

/-- The Keeper's notices of the RETRAIN requests of a channel whose recovery has ended (R346, R347). -/
def State.retrainNotice (s : State) (c code : Nat) : State :=
  let mine := (s.kpr.retrains.filter (fun r => r.1 = c)).map Prod.snd
  let s := { s with kpr := { s.kpr with retrains := s.kpr.retrains.filter (fun r => r.1 ≠ c) } }
  let s := s.whenD (code ≠ 0 && !mine.isEmpty) (fun s => s.set1 F.KPR_ERR.REQ_REFUSED)
  mine.foldl (fun s t => s.notice 1 code t) s

/-- A channel returns to service (R218). -/
def State.chanService (s : State) (c : Nat) : State :=
  (s.maskPut F.MEM_STATUS.TRAINED c true).wr (F.MEM_CH_STATUS.STATE c) 2

end Sys2Proof.Machine
end

