-- ==== Sys2Proof/Machine/Memory.lean ====
section
/-! DEFINITION. The commands of the DDR5 controllers and the scrubber (R195 to R219). -/
namespace Sys2Proof.Machine

/-- Requests are presented, and a waiting one is admitted to its bank queue of 8: the highest class first, the oldest
within a class. Nothing is admitted while the channel is not in service (R208, R215, R218). -/
def execMemRequestAdmitted (c : Fin 6) (arrivals : List MemArrival) (s : State) : Host.Outcome State Fault Refusal :=
  let s := arrivals.foldl State.memPresent s
  let m := s.memCh c
  let room := fun (r : MemReq) =>
    (m.queue.filter (fun q => q.bank = r.bank && s.subOf q.addr = s.subOf r.addr)).length < 8
  let rank := fun (r : MemReq) => if r.urgent then 0 else 1 + r.cls
  let rs := m.ports.filter room
  if s.rd (F.MEM_CH_STATUS.STATE c) ≠ 2 then done s
  else match leastNat (rs.map rank) with
    | none => done s
    | some k =>
      match oldest (rs.filter (fun r => rank r = k)) with
      | none => done s
      | some r =>
        let s := s.pmcAdmitted c r
        done (s.setCh c (fun m => { m with ports := m.ports.filter (· ≠ r), queue := m.queue ++ [r] }))

/-- The response to a request, as it leaves the controller. -/
def State.memRespond (s : State) (c a : Nat) (bytes : List Byte) (mark : Bool) : State :=
  s.setCh c (fun m => { m with resp := some (a, bytes, mark) })

/-- A narrow write, or a write-back, in the controller: the burst is read, the bytes are merged unless it is poison, and the
response carries the mark back (R201, R203). -/
def State.narrowWrite (s : State) (c : Nat) (r : MemReq) (off : Nat) (bytes : List Byte) (block : Option (Fin 2 × Nat)) :
    State :=
  let fixed := match s.burstRead r.addr with
    | .corrected _ _ => true
    | _ => false
  let s := if r.writesBack && fixed then s else s.burstTake c r.addr 3 block
  let mark := s.burstMarked r.addr
  let s := ((if mark then s else s.burstFresh r.addr).ddrWrite (r.addr + off) bytes false).memRespond c r.addr [] mark
  if r.writesBack then (if mark then s else s.incSat F.SCR_COUNTS.CORRECTED)
  else if mark then (s.set1 F.MEM_ERR.RMW_POISON).busError r.core
  else s

/-- A subchannel serves the request that the pick names: a read is decoded and answered, with the mark where it is
poison; a whole burst is written afresh; a narrower write is a read-modify-write (R198 to R211). `flips` are bits of the four
stored words that have changed since, and `block` the stored block that the burst is part of. -/
def execMemRequestServed (c : Fin 6) (sub : Fin 2) (flips : List Nat) (block : Option (Fin 2 × Nat)) (s : State) :
    Host.Outcome State Fault Refusal :=
  if s.rd (F.MEM_CH_STATUS.STATE c) ≠ 2 then done s
  else match s.memPick c sub with
    | none => done s
    | some r =>
      let s := s.memServed c sub r
      let s := s.ddrUpset ((flips.take 4).zipIdx.map (fun f => (s.ddrPlace r.addr / 16 + f.2, f.1)))
      match r.write with
      | none =>
        let s := s.burstTake c r.addr (if r.cls = 4 then 2 else 1) block
        let mark := s.burstMarked r.addr
        let s := s.memRespond c r.addr (s.ddrRead r.addr 64) mark
        done (if mark then s.busError r.core else s)
      | some (off, bytes) =>
        let bytes := bytes.take (64 - off)
        if bytes.length = 64 then done ((s.ddrWrite r.addr bytes false).memRespond c r.addr [] false)
        else done (s.narrowWrite c r off bytes block)

/-- The oldest request of a class has waited longer than the class's age limit and is promoted (R211). -/
def execMemAgePromotion (c : Fin 6) (cls : Fin 5) (s : State) : Host.Outcome State Fault Refusal :=
  let m := s.memCh c
  match oldest ((m.ports ++ m.queue).filter (fun r => r.cls = cls && !r.urgent)) with
  | none => done s
  | some o =>
    let up := fun (r : MemReq) => if r = o then { r with urgent := true } else r
    let s := s.pmcEvent 0x13 1 (o.info c)
    done ((s.setCh c (fun m => { m with ports := m.ports.map up, queue := m.queue.map up })).incSat F.MEM_COUNTS.PROMOTED)

/-- A new window of the urgent cap begins (R211). -/
def execUrgentWindowRoll (c : Fin 6) (s : State) : Host.Outcome State Fault Refusal :=
  done (s.setCh c (fun m => { m with urgent := 0 }))

/-- The request admitted longest ago gets no response within FABRIC_TIMEOUT and is answered with an error and the mark
(R212). -/
def execFabricTimeout (c : Fin 6) (s : State) : Host.Outcome State Fault Refusal :=
  match (s.memCh c).queue with
  | [] => done s
  | r :: rest =>
    let s := s.setCh c (fun m => { m with queue := rest, resp := some (r.addr, [], true) })
    done ((s.set1 F.MEM_ERR.FABRIC_TIMEOUT).busError r.core)

/-! ### The scrubber -/

/-- Bursts of a channel, by channel address in units of 64 bytes. -/
def State.channelBursts (s : State) : Nat := s.channelGiB * 2 ^ 24

/-- The walk presents the next burst of every channel that the map in force holds, as requests of class SCRUB, and the walk
position advances; the request of a channel that is held waits at its port. A pass ends after the last channel address. The
command names the bank and the row of the burst, which are those of the walk position in every channel: one that names others
is no step of the walk (R196, R202, R207). -/
def execScrubRead (bank : Fin 64) (row : Nat) (s : State) : Host.Outcome State Fault Refusal :=
  if s.rd F.SCR_STATUS.STATE ≠ 1 || s.bankRowAt (s.rd F.SCR_STATUS.POS * 64) ≠ (bank.val, row) then done s
  else
    let pos := s.rd F.SCR_STATUS.POS
    let s := (List.range 6).foldl (fun s c => match s.spaceOf c (pos * 64) with
      | none => s
      | some a => s.portPut c a none none 30 false) s
    if pos + 1 < s.channelBursts then done (s.wr F.SCR_STATUS.POS (pos + 1))
    else done ((s.wr F.SCR_STATUS.POS 0).incWrap F.SCR_STATUS.PASSES)

/-- The oldest write-back of a corrected burst enters its channel's port as a new request of class SCRUB (R203, R339). -/
def execScrubWriteback (s : State) : Host.Outcome State Fault Refusal :=
  match s.mem.writeBack with
  | [] => done s
  | a :: rest =>
    let s := { s with mem := { s.mem with writeBack := rest } }
    done (match s.chanOf a with
      | none => s
      | some c => s.portPut c a (some (0, [])) none 30 false)

/-- A pass has run past its period (R202). -/
def execScrubBehind (s : State) : Host.Outcome State Fault Refusal :=
  done (if s.rd F.SCR_STATUS.STATE = 1 then s.set1 F.SCR_ERR.BEHIND else s)

/-- SCR_CTL.ENABLE written 1: the walk runs, or the enable is held while DISABLING (R207). -/
def State.scrEnable (s : State) : State :=
  let s := s.set1 F.SCR_CTL.ENABLE
  if s.rd F.SCR_STATUS.STATE = 2 then s.set1 F.SCR_STATUS.PENDING_ENABLE
  else if s.rd F.SCR_STATUS.STATE = 0 then (s.wr F.SCR_STATUS.STATE 1).scrubShow else s
def execScrEnable (m : Master) (s : State) : Host.Outcome State Fault Refusal :=
  done (s.gated m F.SCR_CTL.ENABLE.off State.scrEnable)

/-- SCR_CTL.ENABLE written 0: the walk stops after the burst in hand; a pending enable is cancelled (R207). -/
def State.scrDisable (s : State) : State :=
  let s := s.clr F.SCR_CTL.ENABLE
  if s.rd F.SCR_STATUS.STATE = 2 then s.clr F.SCR_STATUS.PENDING_ENABLE
  else if s.rd F.SCR_STATUS.STATE = 0 then s else s.wr F.SCR_STATUS.STATE 2
def execScrDisable (m : Master) (s : State) : Host.Outcome State Fault Refusal :=
  done (s.gated m F.SCR_CTL.ENABLE.off State.scrDisable)

/-- The write-back of the burst in hand completes: IDLE, or the pending enable is applied (R207). -/
def execScrDrainComplete (s : State) : Host.Outcome State Fault Refusal :=
  if s.rd F.SCR_STATUS.STATE ≠ 2 then done s
  else if s.bit F.SCR_STATUS.PENDING_ENABLE then
    done (((s.clr F.SCR_STATUS.PENDING_ENABLE).wr F.SCR_STATUS.STATE 1).scrubShow)
  else done (s.wr F.SCR_STATUS.STATE 0)

/-! ### Refresh -/

/-- 1.95 µs have passed: every rank of a channel that is refreshed owes one unit more (R213). -/
def execRefreshDebtAccrue (c : Fin 6) (s : State) : Host.Outcome State Fault Refusal :=
  let st := s.rd (F.MEM_CH_STATUS.STATE c)
  if st = 0 || st = 3 then done s
  else
    let two := s.bit F.MEM_CFG.RANKS
    let s := s.setCh c (fun m => { m with
      debt := (List.range 4).map (fun i => m.debt.getD i 0 + (if i < 2 || two then 1 else 0)) })
    done (s.debtShow c)

/-- The replica line of a channel is measured at an all-bank refresh. During a trim BIAS steps toward a span of one UI, a code
held at 0 or 255 is flagged, and the trim ends when the sign of the error has changed twice (R378). The code's polarity is
free. -/
def State.biasStep (s : State) (c : Nat) (span : Int) : State :=
  let s := s.wrBit (F.CAL_DDR.LONG c) (decide (0 < span))
  match (s.cal.ddr[c]?).join with
  | none => s
  | some t =>
    let sign : Int := if 0 < span then 1 else if span < 0 then -1 else 0
    let b := s.rd (F.CAL_DDR.BIAS c)
    let up := if 0 < span then Config.biasStepsUp else !Config.biasStepsUp
    let held := decide (b = (if up then 255 else 0))
    let s := s.whenD (sign ≠ 0 && held) (fun s => s.set1 F.CAL_ERR.DDR_RANGE)
    let s := s.whenD (sign ≠ 0 && !held) (fun s =>
      (s.wr (F.CAL_DDR.BIAS c) (if up then b + 1 else b - 1)).incWrap (F.CAL_DDR.STEPS c))
    let turned := sign ≠ 0 && t.sign ≠ 0 && sign ≠ t.sign
    let t : DdrTrim := ⟨if sign = 0 then t.sign else sign, if turned then t.changes + 1 else t.changes⟩
    if 2 ≤ t.changes then ({ s with cal := { s.cal with ddr := s.cal.ddr.set c none } }).runCheck
    else { s with cal := { s.cal with ddr := s.cal.ddr.set c (some t) } }

/-- An all-bank refresh of a rank of a subchannel: early while the rank is idle and owes at least one refresh's worth,
or at once above the cap. It repays the units of the rate in force, and the replica line is measured; `span` is the
length of the replica beyond one UI (R213, R378). -/
def execRefreshIssue (c : Fin 6) (sub rank : Fin 2) (span : Int) (s : State) : Host.Outcome State Fault Refusal :=
  let m := s.memCh c
  let i := 2 * rank.val + sub.val
  let debt := m.debt.getD i 0
  let units := s.refreshUnits c
  let idle := !m.queue.any (fun r => r.bank / 32 = rank && s.subOf r.addr = sub)
  let st := s.rd (F.MEM_CH_STATUS.STATE c)
  if st = 0 || st = 3 || debt < units || !(idle || s.refreshCap c < debt) then done s
  else
    let s := s.setCh c (fun m => { m with
      debt := m.debt.set i (debt - units)
      rows := m.rows.filter (fun e => !(e.1 / 64 = rank && e.1 % 2 = sub)) })
    done (((s.debtShow c).pmcEvent 0x24 1 ⟨c, 30, none, 0⟩).biasStep c span)

/-- MR4 of every rank is read: `twice`, a component asks for twice the nominal rate or more; `hot`, one is above its
operating range (R214). -/
def execMr4Poll (c : Fin 6) (twice hot : Bool) (s : State) : Host.Outcome State Fault Refusal :=
  let st := s.rd (F.MEM_CH_STATUS.STATE c)
  if st = 0 || st = 3 then done s
  else
    let up := twice || hot
    let cool := if up then 0 else (s.memCh c).cool + 1
    let s := s.setCh c (fun m => { m with cool := cool })
    let doubled := up || (s.bit (F.MEM_CH_STATUS.DOUBLED c) && cool < 2)
    let s := (s.wrBit (F.MEM_CH_STATUS.DOUBLED c) doubled).maskPut F.MEM_STATUS.DOUBLED c doubled
    done (if hot then (s.set1 F.MEM_ERR.DRAM_HOT).guardDemand 8 else s)

/-! ### Self-refresh -/

/-- Whether a channel may enter self-refresh: in STORAGE, or in PREVIEW with no leaf admitted, and never with a request at the
channel (R215). -/
def State.mayRest (s : State) (c : Nat) : Bool :=
  s.rd (F.MEM_CH_STATUS.STATE c) = 2 && (s.memCh c).ports.isEmpty && (s.memCh c).queue.isEmpty
    && (s.mode = 4 || (s.mode = 2 && s.bit F.MEM_SR.PREVIEW_SR && s.fol.order.isEmpty))

/-- The refreshes that repay a channel's debt, each counted and with its measurement of the replica line, whose result is free
(R213, R215, R365, R378; log 182). -/
def State.debtRepay (s : State) (c : Nat) : State :=
  let u := s.refreshUnits c
  let n := ((s.memCh c).debt.map (fun d => (d + u - 1) / u)).sum
  (List.range n).foldl (fun s _ =>
    let (v, s) := s.takeFree
    (s.pmcEvent 0x24 1 ⟨c, 30, none, 0⟩).biasStep c ((v % 3 : Nat) - 1)) s

/-- A channel repays its debt and enters self-refresh (R215). -/
def State.restEnter (s : State) (c : Nat) : State :=
  let s := (s.debtRepay c).setCh c (fun m => { m with debt := [0, 0, 0, 0], rows := [] })
  (((s.debtShow c).wr (F.MEM_CH_STATUS.STATE c) 3).maskPut F.MEM_STATUS.SELF_REFRESH c true).scrubShow

/-- A channel leaves self-refresh with no debt (R215). -/
def State.restExit (s : State) (c : Nat) : State :=
  ((s.wr (F.MEM_CH_STATUS.STATE c) 2).maskPut F.MEM_STATUS.SELF_REFRESH c false).scrubShow

/-- A channel idle in PREVIEW, or in STORAGE, enters self-refresh (R215). -/
def execSelfRefreshEntry (c : Fin 6) (s : State) : Host.Outcome State Fault Refusal :=
  done (if s.mayRest c then s.restEnter c else s)

/-- A request waits at the port of a channel in self-refresh, and the channel exits; its delay line is trimmed during
the exit (R215, R378). -/
def execSelfRefreshExit (c : Fin 6) (span : Int) (s : State) : Host.Outcome State Fault Refusal :=
  done (if s.rd (F.MEM_CH_STATUS.STATE c) = 3 && !(s.memCh c).ports.isEmpty && !s.bit F.BOOT_STATUS.QUIESCED
    then (s.restExit c).biasStep c span else s)

/-! ### Training -/

/-- A training of a channel ends. All ten lanes must have an eye of 32/128 UI. The results of one that passes wait for the
Keeper's APPLY; a start-up training that fails is tried again, three times in all, and a recovery that fails leaves the channel
held (R216 to R218, R302, R307). -/
def execChannelTrainingDone (c : Fin 6) (lanes : List LaneEye) (s : State) : Host.Outcome State Fault Refusal :=
  let m := s.memCh c
  if s.rd (F.MEM_CH_STATUS.STATE c) ≠ 1 || m.filling then done s
  else
    let s := (List.range 10).foldl (fun s n =>
      match lanes[n]? with
      | none => s.wrBit (F.MEM_CH_TRAIN.PASS c n) false
      | some e => s.trainLane c n e) s
    let pass := (List.range 10).all (fun n => s.bit (F.MEM_CH_TRAIN.PASS c n))
    if pass then done (s.setCh c (fun m => { m with passed := true }))
    else
      let s := s.set1 F.MEM_ERR.TRAIN_FAIL
      if m.recovery then done (((s.wr (F.MEM_CH_STATUS.STATE c) 4).retrainNotice c 1).failStart 9 0)
      else
        let s := s.setCh c (fun m => { m with tries := m.tries + 1 })
        done (if m.tries + 1 < 3 then s else (s.wr (F.MEM_CH_STATUS.STATE c) 5).failStart 9 0)

/-- The zero fill of a channel ends: the channel is marked trained and joins the preview set while that has fewer than
three. The scrubber begins its first pass when all six are trained (R219, R305). -/
def execChannelZeroFillDone (c : Fin 6) (s : State) : Host.Outcome State Fault Refusal :=
  if !(s.memCh c).filling then done s
  else
    let s := s.setCh c (fun m => { m with filling := false })
    let joins := decide (s.mem.preview.length < 3)
    let s : State := if joins then
        { s with
          ddr := []
          poison := []
          ddrErr := []
          mem := { s.mem with preview := s.mem.preview ++ [c.val] } }
      else s
    let s := s.chanService c
    done (if s.rd F.MEM_STATUS.TRAINED = 63 then
        ((s.set1 F.SCR_CTL.ENABLE).wr F.SCR_STATUS.STATE 1).scrubShow
      else s)

/-- MEM_CTL.RETRAIN: the recovery of a channel that is in service, in self-refresh or held begins once the tracker is IDLE
(R218). -/
def State.mayRetrain (s : State) (c : Nat) : Bool :=
  c < 6 && 2 ≤ s.rd (F.MEM_CH_STATUS.STATE c) && s.rd (F.MEM_CH_STATUS.STATE c) ≤ 4
def State.memRetrain (s : State) (c : Nat) : State :=
  let s := s.wr F.MEM_CTL.CHANNEL c
  if s.mayRetrain c then (s.setCh c (fun m => { m with retrain := true })).recoverStart else s
def execMemRetrain (m : Master) (c : Fin 8) (s : State) : Host.Outcome State Fault Refusal :=
  done (s.gated m F.MEM_CTL.RETRAIN.off (fun s => s.memRetrain c))

/-- With its results applied, a channel that has passed its training goes on: a recovery returns it to service, and the start-up
training is followed by the zero fill (R217, R218, R305). -/
def State.applied (s : State) (c : Nat) : State :=
  let m := s.memCh c
  if !m.passed then s
  else if m.recovery then
    ((s.setCh c (fun m => { m with passed := false, recovery := false })).chanService c).retrainNotice c 0
  else s.setCh c (fun m => { m with passed := false, filling := true })

/-- MEM_CTL.APPLY: the delays of a channel that is held for training or recovery go into service; a reference code
above 70 is ignored, and so is an APPLY at any other time (R217). -/
def execMemApply (m : Master) (c : Fin 8) (s : State) : Host.Outcome State Fault Refusal :=
  done (s.gated m F.MEM_CTL.APPLY.off (fun s =>
    let s := s.wr F.MEM_CTL.CHANNEL c
    let st := s.rd (F.MEM_CH_STATUS.STATE c)
    if c.val < 6 && (st = 1 || st = 4) then
      let high := (List.range 10).any (fun n => 70 < s.rd (F.MEM_CH_DELAY.VREF c n))
      let s := s.whenD high (fun s => s.set1 F.MEM_ERR.APPLY_IGNORED)
      let old := (s.memCh c).used
      let lane := fun (n : Nat) =>
        let v := s.rd (F.MEM_CH_DELAY.VREF c n)
        (s.rd (F.MEM_CH_DELAY.RX_DELAY c n), s.rd (F.MEM_CH_DELAY.TX_DELAY c n),
          if 70 < v then (old.getD n (0, 0, 0)).2.2 else v)
      (s.setCh c (fun m => { m with used := (List.range 10).map lane })).applied c
    else s.set1 F.MEM_ERR.APPLY_IGNORED))

end Sys2Proof.Machine
end

