-- ==== Sys2Proof/Machine/Boot.lean ====
section
/-! DEFINITION. The commands of start-up: reset, the BOOT sequence, PREVIEW and RUN, STORAGE, fuses, the catalogue flash
and power-down (R292 to R319, R384, R389). -/
namespace Sys2Proof.Machine

/-! ### Reset and power -/

/-- RESET_N goes low: every mode leads to OFF (R293). -/
def execResetAssert (s : State) : Host.Outcome State Fault Refusal :=
  let s := s.domainReset 0 (s.rd F.BOOT_REASON.RESET)
  done { s with pin := { s.pin with resetN := false } }

/-- 1 ms has passed since the last supply entered its range: the internal reset may release (R389). -/
def execPowerGoodDelay (s : State) : Host.Outcome State Fault Refusal :=
  done (if s.pin.supplyOut = 0 then { s with boot := { s.boot with powerGood := true } } else s)

/-- The internal reset releases with the straps at these levels, and BOOT starts; TEST_EN_N low leads to the factory test
state instead (R293, R384, R389). -/
def execResetRelease (role flash testN : Bool) (s : State) : Host.Outcome State Fault Refusal :=
  if s.mode ≠ 0 || s.pin.resetN || !s.boot.powerGood then done s
  else
    let s := (s.liveStraps role flash testN).domainReset 1 (if s.boot.powerLost then 1 else 2)
    done { s with
      boot := { s.boot with powerLost := false }
      pin := { s.pin with resetN := true } }

/-! ### The BOOT sequence -/

/-- Step 2: the attempt record is read, with the failures of the MRAM copy if VDD_AON was lost; the boot number advances
(R311, R319, R360, Table 15-8). -/
def State.bootAttempts (s : State) : State :=
  let fitted := s.boot.mramFitted
  let s := s.wrBit F.BOOT_STATUS.MRAM_ABSENT (!fitted)
  let s := s.whenD (s.boot.aonLost) (fun s =>
    { s with boot := { s.boot with attempts := s.attemptsKnown, lastFail := s.attemptMram.1, aonLost := false } })
  let s := s.whenD fitted (fun s =>
    let n := leNat (memRead s.acl.mram 192 2) + 1
    let s := (s.wr F.ACL_COPY.BOOT n).wr F.ACL_COPY.EPOCH (leNat (memRead s.acl.mram 194 2))
    let t := s.mramWrite 192 (leBytes 2 n)
    { t with acl := { t.acl with spi := spiRead 0 ++ t.acl.spi } }.wrBit F.BOOT_STATUS.UNCLEAN (!s.boot.cleanMark))
  let s := s.attemptShow
  let flags := (if s.bit F.BOOT_STATUS.UNCLEAN then 1 else 0) + (if fitted then 0 else 2)
  s.aclLog 0x0101 (leBytes 2 (s.rd F.ACL_COPY.BOOT) ++ leBytes 1 (s.rd F.BOOT_REASON.RESET)
    ++ leBytes 1 (s.rd F.BOOT_REASON.LAST_FAIL) ++ leBytes 1 (s.rd F.BOOT_REASON.ATTEMPTS) ++ leBytes 1 flags)

/-- Step 3: the flash has been read in 1S-1S-1S mode at 25 MHz, with its SFDP tables; where they offer octal DDR reads and
FLASH_1S was not latched high, it runs 8D-8D-8D from now on (R294, R384). -/
def State.flashSelect (s : State) : State :=
  { s with boot := { s.boot with flashOctal := s.boot.flashSfdp && !s.bit F.PAD_STRAPS.FLASH_1S } }

/-- Step 4: the slots are verified in order, and the device is bound to the first that is valid (R297, R298, R310). -/
def State.bootVerify (s : State) : State :=
  if s.rd F.BOOT_FUSE.KEY_SET = 0 then s.failStart 1 0
  else
    let a := s.firstSlot
    match s.slotFault a with
    | none => (s.bindSlot a).wr F.BOOT_STATUS.STEP 5
    | some r =>
      let s := (s.set1 F.BOOT_STATUS.FALLBACK).aclLog 0x0103 (leBytes 1 a ++ leBytes 1 r)
      match s.slotFault (1 - a) with
      | none => (s.bindSlot (1 - a)).wr F.BOOT_STATUS.STEP 5
      | some q => s.failStart (if r = 4 && q = 4 then 4 else 3) 0

/-- Step 5 ends well: the settings are in force and locked, and steps 6 to 9 start together (R301 to R304, R319, R326,
R363). DESIGN CHOICE (log 124): R22 gives no moment at which the lane PLLs lock; here the six LANE_LOCK bits and the BLK_PLL
locks are set as step 5 ends, with the enables of step 9, so a lane PLL is watched from then on. -/
def State.bootLocked (s : State) (slot : Nat) : State :=
  let h := s.slotHeader slot
  let (k, s) := s.takeFree
  let s : State := { s.wr F.FOL_CAT_ID.ID (fieldAt h 8 4) with
    locked := true
    boot := { s.boot with regions := regionsOf (s.sectionData slot 3), cleanMark := false }
    acl := { s.acl with key := k % 2 ^ 256 }
    saf := { s.saf with wdogOn := true, wdogNext := 0x5A5A } }
  let s := s.aclLog 0x0102 ((h.drop 88).take 8 ++ leBytes 4 (s.rd F.BOOT_CAT.CAT_HASH))
  let s := (s.wr F.KPR_STATUS.STATE 1).wr F.BOOT_STATUS.STEP 9
  let s := ((s.wr F.CLK_STATUS.LANE_LOCK 63).set1 F.BLK_PLL.BLK_LOCK).set1 F.BLK_PLL.IKL_LOCK
  let s := (List.range 6).foldl (fun s c => s.wr (F.MEM_CH_STATUS.STATE c) 1) s
  let s := (List.range 4).foldl State.grpListen (s.set1 F.BLK_CTL.ENABLE)
  s.iklEnable

/-- Step 5: the settings are checked, and applied or refused (R300, R301). -/
def State.bootSettings (s : State) : State :=
  let slot := s.boot.slotBound.getD 0
  match s.catCheck slot with
  | (_, some off) => s.failStart 5 off
  | (t, none) => t.bootLocked slot

/-- A step of steps 6 to 9 has passed; step 8 has once every channel is trained (Table 13-4). -/
def State.stepPassed (s : State) (n : Nat) : Bool :=
  if n = 8 then s.rd F.MEM_STATUS.TRAINED = 63 else s.boot.stepsDone.contains n
def State.stepPass (s : State) (n : Nat) : State :=
  { s with boot := { s.boot with stepsDone := listInsert n s.boot.stepsDone } }

/-- Whether some group's plate end is in FAULT (R189, Table 7-6). -/
def State.plateFault (s : State) : Bool := [0, 1, 2, 3].any (fun g => s.grpState g = 7)

/-- The reason with which a step that exceeds its limit fails the start (Table 13-4); step 2 has none. -/
def State.stepReason (s : State) (n : Nat) : Option Nat :=
  match n with
  | 1 => some 7
  | 3 => some 2
  | 4 => some 3
  | 5 => some 5
  | 6 => some 6
  | 7 => some 8
  | 8 => some 9
  | 9 => if s.plateFault then some 0xB else if s.rd F.BOOT_CFG.PLATE_WAIT = 0 then none else some 0xA
  | _ => none

/-- Whether a step of the BOOT sequence runs: steps 1 to 5 one after another, steps 6 to 9 together (R302). -/
def State.stepRuns (s : State) (n : Nat) : Bool :=
  let st := s.rd F.BOOT_STATUS.STEP
  !s.saf.acting && (if n ≤ 5 then s.mode = 1 && 1 ≤ n && n = max 1 st
    else (s.mode = 1 || (s.mode = 2 && n = 8)) && st = 9 && !s.stepPassed n)

/-- A step of BOOT ends. `ok` says that what it waits for came: the PLL and clocks of step 1, good reads of steps 2 to 4,
and the self-tests of step 7. Steps 8 and 9 end well only once the channels are trained and the link is ACTIVE (R302). -/
def execBootStepDone (step : Fin 10) (ok : Bool) (s : State) : Host.Outcome State Fault Refusal :=
  let n := step.val
  if !s.stepRuns n then done s
  else match n, ok with
    | 1, true => done ((((s.set1 F.CLK_STATUS.ROOT_LOCK).wr F.CLK_STATUS.MON_OK 31).set1 F.CLK_STATUS.REF_OK).wr
        F.BOOT_STATUS.STEP 2)
    | 1, false => done (s.failStart 7 0)
    | 2, _ => done (s.bootAttempts.wr F.BOOT_STATUS.STEP 3)
    | 3, true => done (s.flashSelect.wr F.BOOT_STATUS.STEP 4)
    | 3, false => done (s.failStart 2 0)
    | 4, true => done s.bootVerify
    | 4, false => done (s.failStart 2 0)
    | 5, _ => done s.bootSettings
    | 6, _ => done (if s.docentGood then ((s.docentCopy).wr F.DOC_STATUS.STATE 1).stepPass 6 else s.failStart 6 0)
    | 7, true =>
      let s := (s.addSat F.SAF_COUNTS.GROUPS 8).incWrap F.SAF_LATENT.CYCLES
      done ((s.wr F.SAF_LATENT.CYCLE_AGE 0).stepPass 7)
    | 7, false => done (s.failStart 8 0)
    | 8, false => done (s.failStart 9 0)
    | 9, true => done (if s.linkActive then s.stepPass 9 else s)
    | 9, false => done (match s.stepReason 9 with
      | some r => s.failStart r 0
      | none => s)
    | _, _ => done s

/-- A step of BOOT exceeds its limit (R302, R304). -/
def execBootStepTimeout (step : Fin 10) (s : State) : Host.Outcome State Fault Refusal :=
  if !s.stepRuns step then done s
  else match s.stepReason step with
    | some r => done (s.failStart r 0)
    | none => done s

/-- The oldest failed start of the count becomes 10 minutes old and leaves it (R311). -/
def execAttemptAgeOut (s : State) : Host.Outcome State Fault Refusal :=
  match lowestNat ((s.boot.attempts.filter (fun a => s.boot.aonSec < a.2 + 600)).map Prod.snd) with
  | none => done s
  | some t => done { s with boot := { s.boot with aonSec := max s.boot.aonSec (t + 600) } }.attemptShow

/-! ### PREVIEW and RUN -/

/-- The conditions of R306. -/
def State.previewReady (s : State) : Bool :=
  s.mode = 1 && !s.saf.acting && !s.bit F.BOOT_STATUS.QUIESCED && s.stepPassed 6 && s.stepPassed 7 && s.linkActive
    && s.mem.preview.length = 3

/-- PREVIEW is entered: the pair state becomes SOLO_WAIT, and TWIN_FAIL_OUT goes low (R270, R273, R306). -/
def execPreviewEntry (s : State) : Host.Outcome State Fault Refusal :=
  if !s.previewReady then done s
  else
    let s := (s.setMode 2).notice 4 2 0
    let s := if s.bit F.TWN_CFG.MODE then s.soloWait else s.wr F.TWN_STATUS.STATE 0
    let s : State := { s with
      pin := { s.pin with failOut := false }
      slt := { s.slt with firstArm := true } }
    done s.authSettle

/-- A memory with its keys moved. -/
def rekey (f : Nat → Nat) (m : SMap Byte) : SMap Byte := m.foldl (fun n e => smSet byteDefault n (f e.1) e.2) []

/-- The space-0 address under the full map of what the preview map holds at an address (R196, R309). -/
def State.fullAddr (s : State) (a : Nat) : Nat :=
  mapBack 6 ((if a < s.fitted then s.previewSet else s.restSet).getD (mapIndex 3 a) 0) (s.caOf a)

/-- The survey frame ring of a pipeline. -/
def State.inFrameRing (s : State) (a : Nat) : Bool :=
  [0, 1].any (fun p =>
    let b := s.rd (F.SVY_P_FRAME_RING.BASE p) * 2 ^ 20
    b ≤ a && a < b + (s.rd (F.SVY_P_FRAME_RING.COUNT p) + 1) * s.rd (F.SVY_P_FRAME_RING.STRIDE p) * 2 ^ 20)

/-- Whether RUN entry writes a zero at an address: a type 3 region outside the survey frame rings (R309). -/
def State.runZeroes (s : State) (a : Nat) : Bool :=
  s.boot.regions.any (fun r => r.1 = 3 && r.2.2.1 ≤ a && a < r.2.2.1 + r.2.2.2) && !s.inFrameRing a

/-- Whether RUN entry writes a zero at the place where a byte is stored: the place of a zeroed address, or its spare (R206,
R309). -/
def State.placeZeroes (s : State) (x : Nat) : Bool :=
  match s.mem.remaps.find? (fun r => r.2 = burstOf x) with
  | some r => s.runZeroes (r.1 + x % 64)
  | none => s.runZeroes x

/-- What the channels and the buckets hold of granules names them by their addresses under the full map from now on (R196, R205,
R206, R309). -/
def State.granulesFull (s : State) : State :=
  let full := s.fullAddr
  let req := fun (r : MemReq) => { r with addr := full r.addr, access := full r.addr + r.access % 64 }
  let ch := s.mem.ch.map (fun m => { m with
    erred := m.erred.map full, ports := m.ports.map req, queue := m.queue.map req })
  let buckets := s.saf.buckets.map (fun e => if e.1 = 4 || e.1 = 5 then (e.1, full (64 * e.2.1) / 64, e.2.2) else e)
  let s := (List.range 96).foldl (fun s k =>
    if s.bit (F.MEM_CH_REMAP.VALID (k / 16) (k % 16)) then
      s.wr (F.MEM_CH_REMAP.ADDR (k / 16) (k % 16)) (full (64 * s.rd (F.MEM_CH_REMAP.ADDR (k / 16) (k % 16))) / 64)
    else s) s
  { s with
    mem := { s.mem with
      ch := ch, writeBack := s.mem.writeBack.map full, remaps := s.mem.remaps.map (fun r => (full r.1, full r.2)) }
    saf := { s.saf with buckets := buckets } }

/-- The switch to the full map, the zeros of RUN entry, and the scrubber's new pass (R219, R309). -/
def State.fullMap (s : State) : State :=
  let ddr := rekey s.fullAddr s.ddr
  let poison := s.poison.foldl (fun p a => listInsert (s.fullAddr a) p) []
  let err := s.ddrErr.foldl (fun m e => smSet (fun _ => 0) m (s.fullAddr (16 * e.1) / 16) e.2) []
  let s := (s.granulesFull).set1 F.MEM_STATUS.FULL_MAP
  { s.wr F.SCR_STATUS.POS 0 with
    ddr := ddr.filter (fun e => !s.placeZeroes e.1)
    poison := poison.filter (fun a => !s.placeZeroes a)
    ddrErr := err.filter (fun e => !s.placeZeroes (16 * e.1)) }

/-- The indices that refer to DDR5 contents are cleared (R309). -/
def State.clearIndices (s : State) : State :=
  let s := (((s.wr F.LAC_STATUS.NEXT 0).wr F.LAC_STATUS.ACKED 0).wr F.LAC_ACK.INDEX 0).wr F.LAC_CURSOR.INDEX 0
  let s := (s.wr F.FOL_LEAF_POS.TROW 0).wr F.FOL_LEAF_POS.SEQ 0
  [0, 1].foldl (fun s p =>
    (((s.wr (F.SVY_P_POS.REC_NEXT p) 0).wr (F.SVY_P_POS.FRAME_NEXT p) 0).wr (F.SVY_P_ACK.REC p) 0).wr
      (F.SVY_P_ACK.FRAME p) 0) s

/-- RUN is entered once every condition of R308 holds (R308, R309). -/
def execRunEntry (s : State) : Host.Outcome State Fault Refusal :=
  if s.mode ≠ 2 || s.runWait ≠ 0 || s.saf.acting || s.boot.quiescing then done s
  else
    let s := { s with boot := { s.boot with runHold := false } }
    let s := (s.notice 2 0 0).fullMap
    let s := (List.range 6).foldl (fun s c => if s.rd (F.MEM_CH_STATUS.STATE c) = 3 then s.restExit c else s) s
    done (((s.clearIndices).setMode 3).notice 4 3 0)

/-! ### Power-down, restart and the attempt record -/

/-- BOOT_CTL.QUIESCE: no leaf is admitted, an armed leaf is aborted, and the axes are disabled (R318). -/
def execBootQuiesce (m : Master) (s : State) : Host.Outcome State Fault Refusal :=
  done (s.gated m F.BOOT_CTL.QUIESCE.off (fun s =>
    ({ s with boot := { s.boot with quiescing := true } }.armedAbort).axDisable))

/-- The tracker is IDLE and no channel has a request at its ports or in its queue: the persistent copy is brought up to date,
every channel in service enters self-refresh, and QUIESCED is set, with the clean-shutdown mark (R318, R319). -/
def execQuiesceComplete (s : State) : Host.Outcome State Fault Refusal :=
  let busy := s.mem.ch.any (fun (m : MemCh) => !m.ports.isEmpty || !m.queue.isEmpty)
  if !s.boot.quiescing || s.rd F.SLT_STATUS.STATE ≠ 0 || s.bit F.BOOT_STATUS.QUIESCED || busy then done s
  else
    let s := (List.range 6).foldl (fun s c => if s.rd (F.MEM_CH_STATUS.STATE c) = 2 then s.restEnter c else s) s.aclFlush
    done { s.set1 F.BOOT_STATUS.QUIESCED with boot := { s.boot with cleanMark := s.boot.mramFitted || s.boot.cleanMark } }

/-- BOOT_CTL.RESTART: STORAGE is left for BOOT; ignored in every other mode, and while a Guard demand leads to SAFE (R293, R313,
R318). -/
def execBootRestart (m : Master) (s : State) : Host.Outcome State Fault Refusal :=
  done (s.gated m F.BOOT_CTL.RESTART.off (fun s =>
    if s.mode = 4 && !s.saf.acting && !s.bit F.BOOT_STATUS.QUIESCED then ((s.setMode 1).aclFlush).domainReset 1 5 else s))

/-- BOOT_CTL.CLEAR_ATTEMPTS empties the attempt record in both copies; ignored outside STORAGE (R313). -/
def execClearAttempts (m : Master) (s : State) : Host.Outcome State Fault Refusal :=
  done (s.gated m F.BOOT_CTL.CLEAR_ATTEMPTS.off (fun s =>
    if s.mode = 4 then (s.attemptPut 0 []).attemptShow else s))

/-- SAFE_HOLD has passed in SAFE: the always-on domain restarts the device, and the SAFE entry counts as a failed start
(R310, R315). -/
def execSafeRestartExpiry (s : State) : Host.Outcome State Fault Refusal :=
  done (if s.mode = 5 && s.bit F.BOOT_CFG.SAFE_RESTART then (s.failRecord 0xC 0).afterFail 0xC 3 else s)

/-! ### Key fuses -/

/-- Whether a key slot is programmed, and whether it is revoked. -/
def State.keySet (s : State) (n : Nat) : Bool := s.rd F.BOOT_FUSE.KEY_SET / 2 ^ n % 2 = 1
def State.keyRevoked (s : State) (n : Nat) : Bool := s.rd F.BOOT_FUSE.KEY_REVOKED / 2 ^ n % 2 = 1

/-- The hash that BOOT_FUSE_DATA holds. -/
def State.fuseData (s : State) : Nat :=
  s.rd (F.BOOT_FUSE_DATA.HASH 0) + 2 ^ 64 * s.rd (F.BOOT_FUSE_DATA.HASH 1) + 2 ^ 128 * s.rd (F.BOOT_FUSE_DATA.HASH 2)
    + 2 ^ 192 * s.rd (F.BOOT_FUSE_DATA.HASH 3)

/-- A fuse operation starts, in STORAGE and with none in progress. -/
def State.fuseStart (s : State) (slot : Nat) (revoke : Bool) : State :=
  if s.mode = 4 && s.boot.fuseBusy.isNone then
    { s with boot := { s.boot with fuseBusy := some (slot, revoke, s.fuseData) } }
  else s

/-- BOOT_FUSE_PROG with PROGRAM: a blank key slot is programmed; a slot that is not blank is refused (R314). The lower half
alone, which holds SLOT, PROGRAM and REVOKE, is staged (R400). -/
def execFuseProgram (m : Master) (h : HalfWrite) (s : State) : Host.Outcome State Fault Refusal :=
  done (s.gated m F.BOOT_FUSE_PROG.SLOT.off (fun s => s.halfWrite F.BOOT_FUSE_PROG.SLOT.off h (fun v s =>
    let slot := F.BOOT_FUSE_PROG.SLOT.get v
    if F.BOOT_FUSE_PROG.PROGRAM.get v = 0 || s.keySet slot then s else s.fuseStart slot false)))

/-- BOOT_FUSE_PROG with REVOKE: a programmed key slot is revoked while another valid one remains (R314). -/
def execFuseRevoke (m : Master) (h : HalfWrite) (s : State) : Host.Outcome State Fault Refusal :=
  done (s.gated m F.BOOT_FUSE_PROG.SLOT.off (fun s => s.halfWrite F.BOOT_FUSE_PROG.SLOT.off h (fun v s =>
    let slot := F.BOOT_FUSE_PROG.SLOT.get v
    if F.BOOT_FUSE_PROG.REVOKE.get v = 1 && s.keySet slot && s.keysValid.any (fun n => n ≠ slot) then s.fuseStart slot true
    else s)))

/-- The fuse operation completes, and reads back as written (R314). -/
def execFuseOperationDone (s : State) : Host.Outcome State Fault Refusal :=
  match s.boot.fuseBusy with
  | none => done s
  | some (n, revoke, hash) =>
    let s := { s with boot := { s.boot with fuseBusy := none } }
    if revoke then done (s.wr F.BOOT_FUSE.KEY_REVOKED (s.rd F.BOOT_FUSE.KEY_REVOKED ||| 2 ^ n))
    else done ({ s with boot := { s.boot with fuseHash := smSet (fun _ => 0) s.boot.fuseHash n hash } }.wr
      F.BOOT_FUSE.KEY_SET (s.rd F.BOOT_FUSE.KEY_SET ||| 2 ^ n))

/-! ### The catalogue flash -/

/-- Bytes written to the flash. -/
def flashWrite (m : SMap Byte) (a : Nat) : List Byte → SMap Byte
  | [] => m
  | b :: bs => flashWrite (smSet flashDefault m a b) (a + 1) bs

/-- Why a flash command is refused: 4 busy, 1 the bound slot, 2 alignment or length (R317). -/
def State.flashRefuses (s : State) (op len : Nat) : Option Nat :=
  let a := s.rd F.BOOT_FLASH_ADDR.ADDR
  let bound := match s.boot.slotBound with
    | none => false
    | some b => s.mode ≠ 4 && meets a (if op = 1 then 65536 else len) (slotAddr b) 0x1000000
  if s.boot.flashBusy.isSome then some 4
  else if bound then some 1
  else if (op = 1 && a % 65536 ≠ 0) || (op ≠ 1 && (len = 0 || 4096 < len)) then some 2
  else none

/-- A flash command starts, or is refused (R317). -/
def State.flashStart (s : State) (op len : Nat) : State :=
  match s.flashRefuses op len with
  | some c => (s.wr F.BOOT_FLASH_STATUS.STATE 3).wr F.BOOT_FLASH_STATUS.CAUSE c
  | none =>
    let s := (s.wr F.BOOT_FLASH_STATUS.STATE 1).wr F.BOOT_FLASH_STATUS.CAUSE 0
    { s with boot := { s.boot with flashBusy := some (op, s.rd F.BOOT_FLASH_ADDR.ADDR, len) } }

/-- ERASE, PROGRAM and READ (R317). -/
def execFlashErase (m : Master) (s : State) : Host.Outcome State Fault Refusal :=
  done (s.gated m F.BOOT_FLASH_CMD.OP.off (fun s => s.flashStart 1 65536))
def execFlashProgram (m : Master) (len : BitVec 13) (s : State) : Host.Outcome State Fault Refusal :=
  done (s.gated m F.BOOT_FLASH_CMD.OP.off (fun s => s.flashStart 2 len.toNat))
def execFlashRead (m : Master) (len : BitVec 13) (s : State) : Host.Outcome State Fault Refusal :=
  done (s.gated m F.BOOT_FLASH_CMD.OP.off (fun s => s.flashStart 3 len.toNat))

/-- The bytes that a flash command leaves: those it names, or free ones after a flash error. -/
def State.flashBytes (s : State) (ok : Bool) (n : Nat) (good : List Byte) : List Byte × State :=
  if ok then (good, s) else s.freeBytes n

/-- A flash command completes, or fails with a flash error (R317). -/
def execFlashCommandDone (ok : Bool) (s : State) : Host.Outcome State Fault Refusal :=
  match s.boot.flashBusy with
  | none => done s
  | some (op, a, n) =>
    let s := { s with boot := { s.boot with flashBusy := none } }
    let good := if op = 1 then List.replicate n 0xFF#8 else if op = 2 then memRead s.boot.flashBuf 0 n else s.flashRead a n
    let (bs, s) := s.flashBytes ok n good
    let s := if op = 3 then { s with boot := { s.boot with flashBuf := memWrite s.boot.flashBuf 0 bs } }
      else { s with boot := { s.boot with flash := flashWrite s.boot.flash a bs } }
    done ((s.wr F.BOOT_FLASH_STATUS.STATE (if ok then 2 else 3)).wr F.BOOT_FLASH_STATUS.CAUSE (if ok then 0 else 3))

end Sys2Proof.Machine
end

