-- ==== Sys2Proof/Machine/Counters.lean ====
section
/-! DEFINITION. The commands of the performance counters and of precise sampling (R365 to R373). -/
namespace Sys2Proof.Machine

/-! ### Counters -/

/-- Events that no command shows, in a counter that counts such an event (R365). -/
def State.pmcUnseen (s : State) (k n : Nat) : State :=
  if Machine.pmcUnseen (s.selRd (F.PMC_SEL.EVENT k) k) then s.pmcOwn k n else s

/-- A write of PMC_CTRk replaces the count, or one half of it; `events`, those of its selection in that cycle, are added to what
was written (R370, R400). -/
def execPmcCtrWrite (m : Master) (k : Fin 64) (w : BusWidth) (upper : Bool) (v : Word) (events : Nat) (s : State) :
    Host.Outcome State Fault Refusal :=
  let off := (F.PMC_CTR.COUNT k).off
  done (s.gated m off (fun s =>
    let cover := if w = .w64 then fullMask else if upper then highMask else lowMask
    let c := BitVec.ofNat 64 cover
    let new := (s.reg off &&& ~~~c) ||| (BitVec.ofNat 64 (laid cover v) &&& c)
    let s := s.wr (F.PMC_CTR.COUNT k) new.toNat
    s.pmcOwn k events))

/-- A write of PMC_SELk: the selection changes from the next cycle and the count stays (R370). -/
def execPmcSelWrite (m : Master) (k : Fin 64) (v : BitVec 32) (s : State) : Host.Outcome State Fault Refusal :=
  let off := (F.PMC_SEL.EVENT k).off
  done (s.gated m off (fun s => 
    let s := { s with pmc := { s.pmc with selWas := smInsert s.pmc.selWas k (s.cycle, s.selNow k) } }
    s.setReg off (BitVec.ofNat 64 (v.toNat % 2 ^ 31))))

/-- A write of PMC_CTL: Keeper-M and Docent-M write FREEZE, and the host HOST_FREEZE; counters stop from the next cycle (R369,
R370). -/
def execPmcFreeze (m : Master) (v : BitVec 32) (s : State) : Host.Outcome State Fault Refusal :=
  done (s.gated m F.PMC_CTL.FREEZE.off (fun s =>
    let s := { s with pmc := { s.pmc with ctlWas := some (s.cycle, s.ctlNow) } }
    if m = .host then s.wr F.PMC_CTL.HOST_FREEZE (v.toNat / 2) else s.wr F.PMC_CTL.FREEZE v.toNat))

/-- A read of the even counter 2j: it latches counter 2j + 1 for the master. `unseen` and `odd` are the events that no
command shows and the two counters have counted since they were last read (R365, R367, R371). -/
def execPmcCtrLowRead (m : Master) (j : Fin 32) (w : BusWidth) (unseen odd : Nat) (s : State) :
    Host.Outcome State Fault Refusal :=
  let s := (s.pmcUnseen (2 * j) unseen).pmcUnseen (2 * j + 1) odd
  done (s.busRead m (F.PMC_CTR.COUNT (2 * j)).off w 0)

/-- A counter of events that no command shows wraps (R365). -/
def execPmcCounterWrap (k : Fin 64) (s : State) : Host.Outcome State Fault Refusal :=
  done (s.pmcUnseen k (2 ^ 48 - s.rd (F.PMC_CTR.COUNT k)))

/-! ### Precise sampling -/

/-- Sample records that have not been freed. -/
def State.sampleUnread (s : State) : Nat :=
  (s.rd F.PMC_SAMPLE_STATUS.NEXT + 2 ^ 32 - s.rd F.PMC_SAMPLE_ACK.INDEX) % 2 ^ 32

/-- A sample record (Table 16-3). -/
def State.sampleRecord (s : State) (core pc opcode latency : Nat) (user : Bool) : List Byte :=
  let op := if opcode % 4 = 3 then opcode else opcode % 65536
  leBytes 8 pc ++ leBytes 4 op ++ leBytes 2 (min latency 0xFFFF)
    ++ leBytes 1 (core + (if user then 8 else 0) + 16 * s.rd F.PMC_SAMPLE_CFG.EVENT)
    ++ leBytes 1 (if s.pmc.lost then 1 else 0)

/-- The sampling event is one of Table 16-3's text: 0 to 3, or 4 for a load whose latency is at least LAT_MIN (R372). -/
def State.sampleEvent (s : State) (latency : Nat) : Bool :=
  let e := s.rd F.PMC_SAMPLE_CFG.EVENT
  e < 4 || (e = 4 && decide (s.rd F.PMC_SAMPLE_CFG.LAT_MIN ≤ latency))

/-- Events of a sampled core: at the PERIOD-th the instruction behind it is recorded, or the sample is lost when the ring is full,
and the core counts again from 0; an ACK of the same cycle frees entries first (R372, R373). -/
def execPmcSampleTaken (core : Fin 8) (pc : BitVec 64) (opcode : BitVec 32) (latency : Nat) (mode : SampleMode)
    (s : State) : Host.Outcome State Fault Refusal :=
  let on := s.bit F.PMC_SAMPLE_CFG.ENABLE && s.rd F.PMC_SAMPLE_CFG.CORES / 2 ^ core.val % 2 = 1
    && s.rd F.PMC_SAMPLE_CFG.PERIOD ≠ 0 && s.coreOn core && s.rd F.DOC_STATUS.STATE = 1 && s.sampleEvent latency
  let n := smGet (fun _ => 0) s.pmc.counts core + mode.events
  if !on then done s
  else if n < s.rd F.PMC_SAMPLE_CFG.PERIOD then
    done { s with pmc := { s.pmc with counts := smSet (fun _ => 0) s.pmc.counts core n } }
  else
  let s := { s with pmc := { s.pmc with counts := smSet (fun _ => 0) s.pmc.counts core 0 } }
  if 512 ≤ s.sampleUnread && !mode.freed then
    done ({ s with pmc := { s.pmc with lost := true } }.incSat F.PMC_SAMPLE_STATUS.LOST)
  else
    let n := s.rd F.PMC_SAMPLE_STATUS.NEXT
    let s := { s with pmc := { s.pmc with
      ring := memWrite s.pmc.ring (16 * (n % 512)) (s.sampleRecord core pc.toNat opcode.toNat latency mode.user)
      lost := false } }
    let s := s.wr F.PMC_SAMPLE_STATUS.NEXT (n + 1)
    let mark := s.rd F.PMC_SAMPLE_CFG.WATERMARK
    done (if mark ≠ 0 && s.sampleUnread = mark then { s with pmc := { s.pmc with irqs := s.pmc.irqs + 1 } } else s)

/-- PMC_SAMPLE_ACK frees the records below; a value outside the held records is ignored (R372). The lower half alone, which holds
INDEX, is staged (R400). -/
def execPmcSampleAck (m : Master) (h : HalfWrite) (s : State) : Host.Outcome State Fault Refusal :=
  done (s.gated m F.PMC_SAMPLE_ACK.INDEX.off (fun s => s.halfWrite F.PMC_SAMPLE_ACK.INDEX.off h (fun v s =>
    let i := v.toNat % 2 ^ 32
    if (i + 2 ^ 32 - s.rd F.PMC_SAMPLE_ACK.INDEX) % 2 ^ 32 ≤ s.sampleUnread then s.wr F.PMC_SAMPLE_ACK.INDEX i else s)))

end Sys2Proof.Machine
end

