-- ==== Sys2Proof/Machine/CrcUnits.lean ====
section
/-! DEFINITION. The check-value units and the host mailboxes (R349, R353 to R355). -/
namespace Sys2Proof.Machine

/-- The feeds waiting at unit `n`. -/
def State.crcFeeds (s : State) (n : Nat) : List (List Byte) := smGet (fun _ => []) s.kpr.crcQueue n

/-- The feeds of unit `n` replaced; BUSY shows whether any wait. -/
def State.setFeeds (s : State) (n : Nat) (q : List (List Byte)) : State :=
  { s with kpr := { s.kpr with crcQueue := smSet (fun _ => []) s.kpr.crcQueue n q } }.wrBit
    (F.CRC_U_STATUS.BUSY n) (!q.isEmpty)

/-- Bytes taken into the register of unit `n` (R355). -/
def State.crcTake (s : State) (n : Nat) (bs : List Byte) : State :=
  s.wr (F.CRC_U_STATE.REG n)
    (crcFeed (s.rd (F.CRC_U_CFG.WIDTH n) + 1) (s.rd (F.CRC_U_POLY.POLY n)) (s.bit (F.CRC_U_CFG.REFIN n))
      (s.rd (F.CRC_U_STATE.REG n)) bs)

/-- Every feed waiting at unit `n` processed. -/
def State.crcFlush (s : State) (n : Nat) : State :=
  (s.crcTake n (s.crcFeeds n).flatten).setFeeds n []

/-- One CLK_CTL cycle of a unit: one byte of its oldest feed (R355). -/
def State.crcCycle (s : State) (n : Nat) : State :=
  match s.crcFeeds n with
  | [] => s
  | [] :: q => s.setFeeds n q
  | (b :: bs) :: q => (s.crcTake n [b]).setFeeds n (if bs.isEmpty then q else bs :: q)

/-- Whether the master is the core that owns unit `n`. -/
def State.crcOwner (s : State) (m : Master) (n : Nat) : Bool :=
  s.rd (F.CRC_U_CLAIM.OWNER n) = masterCore m + 1

/-- A write to a register of a unit: refused at the firewall, discarded and flagged when it is not the owner's, or its
effect (R353). -/
def State.crcOwned (s : State) (m : Master) (n reg : Nat) (f : State → State) : State :=
  s.gated m (0x210000 + 0x100 * n + reg) (fun s =>
    if s.crcOwner m n then f s else s.set1 (F.CRC_U_STATUS.NOT_OWNER n))

/-- A read of CRC_Un_CLAIM (R353, R402). -/
def execCrcClaimRead (m : Master) (n : Fin 4) (s : State) : Host.Outcome State Fault Refusal :=
  done (if s.silent m then s else s.crcClaim m n)

/-- Table 15-6: WIDTH, POLY, INIT, REFIN and REFOUT, XOROUT of a preset. -/
def crcPresetRow (p : Nat) : Nat × Nat × Nat × Nat × Nat :=
  match p with
  | 0 => (32, 0x1EDC6F41, 0xFFFFFFFF, 1, 0xFFFFFFFF)
  | 1 => (32, 0x04C11DB7, 0xFFFFFFFF, 1, 0xFFFFFFFF)
  | _ => (16, 0x1021, 0xFFFF, 0, 0)

/-- A write of CFG.PRESET: presets 0 to 2 load their parameters in the same write, after the feeds that came before it
(R354; DESIGN CHOICE, log 135). -/
def execCrcPreset (m : Master) (n : Fin 4) (p : Fin 4) (s : State) : Host.Outcome State Fault Refusal :=
  done (s.crcOwned m n 0x08 (fun s =>
    let s := (s.crcFlush n).wr (F.CRC_U_CFG.PRESET n) p
    if p.val = 3 then s
    else
      let (w, poly, init, ref, xor) := crcPresetRow p
      (((((s.wr (F.CRC_U_CFG.WIDTH n) (w - 1)).wr (F.CRC_U_CFG.REFIN n) ref).wr (F.CRC_U_CFG.REFOUT n) ref).wr
        (F.CRC_U_POLY.POLY n) poly).wr (F.CRC_U_INIT.INIT n) init).wr (F.CRC_U_INIT.XOROUT n) xor))

/-- A write of CFG.LOAD sets the register to INIT, after the feeds that came before it (R354; DESIGN CHOICE, log 135). -/
def execCrcLoad (m : Master) (n : Fin 4) (s : State) : Host.Outcome State Fault Refusal :=
  done (s.crcOwned m n 0x08 (fun s =>
    let s := s.crcFlush n
    s.wr (F.CRC_U_STATE.REG n) (s.rd (F.CRC_U_INIT.INIT n))))

/-- A write of CFG.RELEASE frees the unit (R353). -/
def execCrcRelease (m : Master) (n : Fin 4) (s : State) : Host.Outcome State Fault Refusal :=
  done (s.crcOwned m n 0x08 (fun s => s.wr (F.CRC_U_CLAIM.OWNER n) 0))

/-- The place of the register of a feed's width in its unit (CRC_Un_DATA8 to DATA32). -/
def crcDataReg : BusWidth → Nat
  | .w8 => 0x20
  | .w16 => 0x28
  | _ => 0x30

/-- A write to DATA8, DATA16 or DATA32: the feed joins the queue of four; a full queue holds the write until
its oldest feed has been processed (R355). -/
def execCrcDataFeed (m : Master) (n : Fin 4) (w : BusWidth) (v : BitVec 32) (s : State) :
    Host.Outcome State Fault Refusal :=
  done (s.crcOwned m n (crcDataReg w) (fun s =>
    let s := if (s.crcFeeds n).length < 4 then s
      else (s.crcTake n ((s.crcFeeds n).headD [])).setFeeds n (s.crcFeeds n).tail
    s.setFeeds n (s.crcFeeds n ++ [leBytes (min (busBytes w) 4) v.toNat])))

/-- A read of RESULT or STATE returns after every earlier feed has been processed (R355). -/
def execCrcResultRead (m : Master) (n : Fin 4) (raw : Bool) (s : State) : Host.Outcome State Fault Refusal :=
  let off := 0x100 * n + if raw then 0x210038 else 0x210040
  if s.silent m then done s
  else if !s.readable m off then done (s.refuseRead m off)
  else
    let s := s.crcFlush n
    let reg := s.rd (F.CRC_U_STATE.REG n)
    let res := crcResult (s.rd (F.CRC_U_CFG.WIDTH n) + 1) (s.bit (F.CRC_U_CFG.REFOUT n))
      (s.rd (F.CRC_U_INIT.XOROUT n)) reg
    done { s.wr (F.CRC_U_RESULT.RESULT n) res with readData := BitVec.ofNat 64 (if raw then reg else res) }

/-- A write of STATE replaces the register, after the feeds that came before it (R355; DESIGN CHOICE, log 135). -/
def execCrcStateWrite (m : Master) (n : Fin 4) (v : BitVec 32) (s : State) : Host.Outcome State Fault Refusal :=
  done (s.crcOwned m n 0x38 (fun s => (s.crcFlush n).wr (F.CRC_U_STATE.REG n) v.toNat))

/-- Docent-M writes word 3 of a mailbox: the message is sent with its vector, or discarded when the mailbox is
full (R349). -/
def execHostmbSend (m : Master) (mb : Fin 8) (w : BusWidth) (v : Word) (s : State) :
    Host.Outcome State Fault Refusal :=
  let off := 0x200400 + 0x20 * mb.val + 24
  done (s.gated m off (fun s =>
    let full := s.rd F.DOC_HOSTMB_FULL.FULL
    if full / 2 ^ mb.val % 2 = 1 then s
    else ((s.setReg off (s.staged off w v)).wr F.DOC_HOSTMB_FULL.FULL (full + 2 ^ mb.val)).vector (25 + mb)))

/-- The host reads word 3 of a mailbox: the mailbox is empty again and source 27 is raised (R349). In OFF no access is taken
(Table 13-1). -/
def execHostmbHostRead (mb : Fin 8) (s : State) : Host.Outcome State Fault Refusal :=
  if s.silent .host then done s
  else
  let off := 0x200400 + 0x20 * mb.val + 24
  let full := s.rd F.DOC_HOSTMB_FULL.FULL
  let s := { s with readData := s.reg off }
  done (if full / 2 ^ mb.val % 2 = 1 then (s.wr F.DOC_HOSTMB_FULL.FULL (full - 2 ^ mb.val)).source 27 else s)

end Sys2Proof.Machine
end

