-- ==== Sys2Proof/Machine/Dma.lean ====
section
/-! DEFINITION. The DMA engine: programs, hand-overs, bursts, chains, disabling (R45 to R55). -/
namespace Sys2Proof.Machine

/-- Channel `k` behind its registers. -/
def State.chan (s : State) (k : Nat) : DmaCh := smGet (fun _ => dmaChZero) s.dma k

/-- Channel `k` replaced. -/
def State.setChan (s : State) (k : Nat) (c : DmaCh) : State :=
  { s with dma := smSet (fun _ => dmaChZero) s.dma k c }

/-- The shadow bank: the registers that software writes (R48). -/
def State.dmaShadow (s : State) (k : Nat) : DmaProg :=
  let r := fun o => s.reg (0x30000 + 0x100 * k + o)
  ⟨r 0x10, r 0x18, r 0x20, r 0x28, r 0x30, r 0x38, r 0x40, r 0x48, r 0x50⟩

/-- The parts of a program. -/
def progLen (p : DmaProg) : Nat := p.len.toNat % 2 ^ 17
def progSrcSpace (p : DmaProg) : Nat := p.len.toNat / 2 ^ 20 % 4
def progDstSpace (p : DmaProg) : Nat := p.len.toNat / 2 ^ 22 % 4
def progIrq (p : DmaProg) : Bool := p.len.toNat / 2 ^ 24 % 2 = 1
def progLast (p : DmaProg) : Bool := p.len.toNat / 2 ^ 25 % 2 = 1
def progC1 (p : DmaProg) : Nat := p.count.toNat % 2 ^ 16 + 1
def progC2 (p : DmaProg) : Nat := p.count.toNat / 2 ^ 16 % 2 ^ 16 + 1
def progC3 (p : DmaProg) : Nat := p.count.toNat / 2 ^ 32 % 2 ^ 16 + 1
def progBursts (p : DmaProg) : Nat := progC1 p * progC2 p * progC3 p
def progRate (p : DmaProg) : Nat := p.rate.toNat % 2 ^ 16
def progCap (p : DmaProg) : Nat := p.rate.toNat / 2 ^ 16 % 2 ^ 16 * 64
def progNextSram (p : DmaProg) : Bool := p.next.toNat % 2 = 1
def progNext (p : DmaProg) : Nat := p.next.toNat / 64 * 64

/-- Address of burst `n` by the formula of R46, from a base and the three strides at bit `lo`. -/
def burstAddr (base : Word) (p : DmaProg) (lo n : Nat) : Int :=
  let st := fun (w : Word) => signed 32 (w.toNat / 2 ^ lo)
  let i1 := n % progC1 p
  let i2 := n / progC1 p % progC2 p
  let i3 := n / (progC1 p * progC2 p)
  signed 64 (unsigned 64 ((base.toNat : Int) + i1 * st p.stride1 + i2 * st p.stride2 + i3 * st p.stride3))

/-- The source and the destination of burst `n`. -/
def burstSrc (p : DmaProg) (n : Nat) : Int := burstAddr p.src p 0 n
def burstDst (p : DmaProg) (n : Nat) : Int := burstAddr p.dst p 32 n

/-- Whether a program may run under a MODE and PACE (R51, and the field rules of the DMA registers). DESIGN CHOICE (log 160):
for a program that names the reserved SPACE 3, or whose bits that must be zero are not, no fault is named; it is a
PROGRAM_FAULT. -/
def progOk (p : DmaProg) (mode : Nat) (pace : Bool) : Bool :=
  0 < progLen p && progLen p ≤ 65536 && p.len.toNat / 2 ^ 17 % 8 = 0 && p.len.toNat / 2 ^ 26 = 0
    && p.count.toNat / 2 ^ 48 = 0 && progSrcSpace p ≠ 3 && progDstSpace p ≠ 3 && mode ≠ 3
    && (!pace || (progRate p ≠ 0 && progLen p ≤ progCap p))

/-- The interrupt of a channel: MSI-X vector 9 + k, and source k − 4 of channels 4 to 15 (Tables 2-1 and 15-4). -/
def State.dmaIrq (s : State) (k : Nat) : State :=
  if s.bit (F.DMA_CH_CTL.IRQ_EN k) then (s.vector (9 + k)).whenD (4 ≤ k) (fun s => s.source (k - 4)) else s

/-- The channel stops with an error (Table 2-10). -/
def State.dmaStop (s : State) (k err : Nat) : State :=
  let s := s.setChan k { s.chan k with going := false, fetching := false, outstanding := 0 }
  ((s.wr (F.DMA_CH_STATUS.STATE k) 3).wr (F.DMA_CH_STATUS.ERR k) err).dmaIrq k

/-- The program ends and the channel is idle with DONE. -/
def State.dmaDone (s : State) (k : Nat) : State :=
  let s := s.setChan k { s.chan k with going := false, fetching := false, stopReq := false }
  ((s.wr (F.DMA_CH_STATUS.STATE k) 0).set1 (F.DMA_CH_STATUS.DONE k)).dmaIrq k

/-- A program begins to run, or stops the channel with PROGRAM_FAULT (R51). -/
def State.dmaRun (s : State) (k : Nat) (p : DmaProg) : State :=
  let s := s.setChan k { s.chan k with active := p, burst := 0, going := true, fetching := false }
  let s := s.wr (F.DMA_CH_STATUS.STATE k) 1
  if progOk p (s.rd (F.DMA_CH_CTL.MODE k)) (s.bit (F.DMA_CH_CTL.PACE k)) then s else s.dmaStop k 4

/-- The first hand-over: the committed bank becomes active, the bucket is full and the chain head is recorded
(R48, R51, R52). -/
def State.dmaStart (s : State) (k : Nat) : State :=
  let c := s.chan k
  let p := c.committed
  let s := s.setChan k { c with
    fresh := false, tokens := progCap p * 400, tokenAt := s.cycle, stopReq := false,
    head := progNext p, fetched := 0, outstanding := 0 }
  (s.wr (F.DMA_CH_DESC_COUNT.COUNT k) 0).dmaRun k p

/-- ENABLE written 1: held while DISABLING; a PACE 1 channel starts, a PACE 0 channel waits for GO (R55). -/
def execDmaEnable (m : Master) (k : Fin 16) (s : State) : Host.Outcome State Fault Refusal :=
  done (s.gated m (0x30000 + 0x100 * k) (fun s =>
    let s := s.set1 (F.DMA_CH_CTL.ENABLE k)
    match s.rd (F.DMA_CH_STATUS.STATE k) with
    | 0 => if s.bit (F.DMA_CH_CTL.PACE k) then s.dmaStart k else s
    | 2 => s.set1 (F.DMA_CH_STATUS.PENDING_ENABLE k)
    | _ => s))

/-- The regions that the catalogue protects from DMA: those that carry the flag, the pools of the Folio store and of the
decoded tile queue, and the beam-table staging buffer (R47, R128, Table 13-3). -/
def State.protectedRegions (s : State) : List (Nat × Nat) :=
  (s.rd F.BCT_STAGE.BASE * 2 ^ 22, 2162688)
    :: (s.boot.regions.filter (fun r => r.2.1 || r.1 = 1 || r.1 = 2)).map (fun r => r.2.2)

/-- Whether a DDR5 range touches a region that the catalogue protects from DMA (R47). -/
def State.protectedRange (s : State) (a n : Nat) : Bool :=
  s.protectedRegions.any (fun r => a < r.1 + r.2 && r.1 < a + n)

/-- Whether one side of a burst is refused with ADDR_FAULT (R47). -/
def State.burstBad (s : State) (space : Nat) (a : Int) (n : Nat) : Bool :=
  !s.spaceHas space (if space = 1 then (unsigned 64 a : Int) else a) n
    || (space = 0 && s.protectedRange a.toNat n) || (space = 1 && !s.bit F.HIF_LINK_STATUS.BME)

/-- Whether a channel has a burst that it may move: one of its program is left, and R47 admits both of its sides. -/
def State.burstLeft (s : State) (k : Nat) : Bool :=
  let c := s.chan k
  let p := c.active
  c.going && c.burst < progBursts p && !s.burstBad (progSrcSpace p) (burstSrc p c.burst) (progLen p)
    && !s.burstBad (progDstSpace p) (burstDst p c.burst) (progLen p)

/-- Free bytes in the destination of the burst in flight at a disable (R54). -/
def State.dmaScramble (s : State) (k : Nat) : State :=
  let c := s.chan k
  let p := c.active
  let b := s.freeBytes (progLen p)
  b.2.spaceWrite (progDstSpace p) (unsigned 64 (burstDst p c.burst)) b.1 false

/-- The channel drops its work (R54): DESC_COUNT is undefined, and DISABLED_AT lies within 4 KiB of the last
burst issued. -/
def State.dmaDrop (s : State) (k : Nat) (inFlight : Bool) : State :=
  let c := s.chan k
  let last := burstSrc c.active (c.burst - 1)
  let s := if inFlight && s.burstLeft k then s.dmaScramble k else s
  let (a, s) := s.takeFree
  let (b, s) := s.takeFree
  let s := (s.wr (F.DMA_CH_DISABLED_AT.ADDR k) (unsigned 64 (last + (a % 8193 : Nat) - 4096))).wr
    (F.DMA_CH_DESC_COUNT.COUNT k) b
  let s := s.setChan k { s.chan k with going := false, fetching := false }
  s.wr (F.DMA_CH_STATUS.STATE k) 2

/-- A channel disabled: a running one drops its work and drains; a held enable is cancelled (R54, R55). -/
def State.dmaDisable (s : State) (k : Nat) (inFlight : Bool) : State :=
  let s := (s.clr (F.DMA_CH_CTL.ENABLE k)).clr (F.DMA_CH_STATUS.PENDING_ENABLE k)
  if s.rd (F.DMA_CH_STATUS.STATE k) = 1 then s.dmaDrop k inFlight else s

/-- ENABLE written 0 (R54). -/
def execDmaDisable (m : Master) (k : Fin 16) (inFlight : Bool) (s : State) : Host.Outcome State Fault Refusal :=
  done (s.gated m (0x30000 + 0x100 * k) (fun s => s.dmaDisable k inFlight))

/-- GO written: a PACE 0 program of an enabled idle channel begins at its first hand-over (R51). -/
def execDmaGo (m : Master) (k : Fin 16) (s : State) : Host.Outcome State Fault Refusal :=
  done (s.gated m (0x30000 + 0x100 * k) (fun s =>
    if s.bit (F.DMA_CH_CTL.ENABLE k) && !s.bit (F.DMA_CH_CTL.PACE k) && s.rd (F.DMA_CH_STATUS.STATE k) = 0
    then s.dmaStart k else s))

/-- STOP written: a SHADOW channel stops at its next hand-over (R50). -/
def execDmaStop (m : Master) (k : Fin 16) (s : State) : Host.Outcome State Fault Refusal :=
  done (s.gated m (0x30000 + 0x100 * k) (fun s =>
    if s.rd (F.DMA_CH_STATUS.STATE k) = 1 && s.rd (F.DMA_CH_CTL.MODE k) = 1
    then s.setChan k { s.chan k with stopReq := true } else s))

/-- SHADOW_COMMIT latches the shadow bank; `late` says that the write lands in the cycle of a hand-over, which
has taken the bank as it stood before (R48, R49). -/
def execShadowCommit (m : Master) (k : Fin 16) (late : Bool) (s : State) : Host.Outcome State Fault Refusal :=
  done (s.gated m (0x30000 + 0x100 * k) (fun s =>
    let s := if (s.chan k).fresh then s.set1 (F.DMA_CH_STATUS.SHADOW_OVERWRITE k) else s
    let s := s.setChan k { s.chan k with committed := s.dmaShadow k, fresh := true }
    if late then s.set1 (F.DMA_CH_STATUS.SHADOW_LATE k) else s))

/-- The tokens of the bucket now, in 1/400 of a byte (R51): RATE MB/s is RATE/400 bytes in each CLK_CTL
cycle. -/
def State.tokensNow (s : State) (c : DmaCh) : Nat :=
  min (c.tokens + progRate c.active * (s.cycle - c.tokenAt)) (progCap c.active * 400)

/-- The bytes of a burst written at its destination, with the mark of poison; bursts that carry poison are
counted (R53, R201). -/
def State.burstWrite (s : State) (k : Nat) (space a : Nat) (bs : List Byte) (mark : Bool) : State :=
  let s := s.unitPut k space a bs mark
  if mark || (space = 0 && 0 < s.ddrUnmerged a bs.length) then s.incSat (F.DMA_CH_STATUS.POISON_SEEN k) else s

/-- A channel issues its next burst. Data of host space, and the poison of host or SRAM data, come with the
command; data of spaces 0 and 2 are read from the state. What the reads of the source, and of the head and tail of the
destination, find in DDR5 follows R198 to R204 (R46, R47, R51, R53). -/
def execDmaBurst (k : Fin 16) (hostData : List Byte) (finds : BurstFinds) (s : State) :
    Host.Outcome State Fault Refusal :=
  let c := s.chan k
  let p := c.active
  let n := progLen p
  let pace := s.bit (F.DMA_CH_CTL.PACE k)
  let tok := s.tokensNow c
  if k.val < 4 || s.rd (F.DMA_CH_STATUS.STATE k) ≠ 1 || !c.going || progBursts p ≤ c.burst
      || (pace && tok < n * 400) then
    done s
  else
    let sa := burstSrc p c.burst
    let da := burstDst p c.burst
    if s.burstBad (progSrcSpace p) sa n || s.burstBad (progDstSpace p) da n then done (s.dmaStop k 1)
    else
      let src := unsigned 64 sa
      let s := s.ddrUpset finds.flips
      let s := if progSrcSpace p = 0 then s.unitRead k src n 1 else s
      let bs := match progSrcSpace p with
        | 0 => s.ddrRead src n
        | 1 => (hostData ++ List.replicate n 0#8).take n
        | _ => memRead s.sram src n
      let mark := match progSrcSpace p with
        | 0 => s.ddrPoisoned src n
        | 1 => finds.poison
        | _ => finds.poison || s.sramPoisoned src n
      let s := s.whenD (finds.poison && progSrcSpace p = 1) (fun s => (s.aerReport 1).intake F.HIF_INTAKE_STATUS.RX_POISON)
      let s := s.setChan k { c with
        burst := c.burst + 1, tokens := if pace then tok - n * 400 else tok, tokenAt := s.cycle }
      done (s.burstWrite k (progDstSpace p) (unsigned 64 da) bs mark)

/-- The hand-over at the end of a program, by MODE (R50, R52). The tokens of the ending program are settled first (R51).
DESIGN CHOICE (log 111): R52 compares a NEXT field with the head address and says nothing of NEXT.SPACE, so the same
address in the other space counts as the head. The NEXT field of the first program is the head and is not compared. -/
def State.dmaHandover (s : State) (k : Nat) : State :=
  let c := s.chan k
  let p := c.active
  match s.rd (F.DMA_CH_CTL.MODE k) with
  | 0 => s.dmaDone k
  | 1 =>
    if c.stopReq then s.dmaDone k
    else (s.setChan k { c with fresh := false, tokens := s.tokensNow c, tokenAt := s.cycle }).dmaRun k c.committed
  | 2 =>
    let s := if progIrq p then (s.vector (9 + k)).source (k - 4) else s
    if progLast p then s.dmaDone k
    else if (c.fetched ≠ 0 && progNext p = c.head) || s.rd F.DMA_CHAIN_BUDGET.LIMIT ≤ c.fetched then s.dmaStop k 2
    else s.setChan k { c with going := false, fetching := true }
  | _ => s.dmaStop k 4

/-- The end of an outer loop (R50). -/
def execDmaHandover (k : Fin 16) (s : State) : Host.Outcome State Fault Refusal :=
  let c := s.chan k
  done (if 4 ≤ k.val && s.rd (F.DMA_CH_STATUS.STATE k) = 1 && c.going && progBursts c.active ≤ c.burst then
      s.dmaHandover k
    else s)

/-- A descriptor arrives: its bytes 0 to 63 are the registers 0x10 to 0x4F (R52). One that lies at or beyond the fitted size
of its space is an ADDR_FAULT (R196). DESIGN CHOICE (log 166): R52 does not say what a descriptor in poison does; its bytes
are used as they are read. -/
def execDmaDescriptorFetched (k : Fin 16) (s : State) : Host.Outcome State Fault Refusal :=
  let c := s.chan k
  if !c.fetching || s.rd (F.DMA_CH_STATUS.STATE k) ≠ 1 then done s
  else
    let a := progNext c.active
    let sram := progNextSram c.active
    if !s.spaceHas (if sram then 2 else 0) a 64 then done (s.dmaStop k 1)
    else
    let s := if sram then s else s.unitRead k a 64 1
    let bs := if sram then memRead s.sram a 64 else s.ddrRead a 64
    let w := fun i => BitVec.ofNat 64 (fieldAt bs (8 * i) 8)
    let p : DmaProg := ⟨w 0, w 1, w 2, w 3, w 4, w 5, w 6, w 7, c.active.rate⟩
    let s := s.setChan k { c with fetched := c.fetched + 1 }
    done ((s.incWrap (F.DMA_CH_DESC_COUNT.COUNT k)).dmaRun k p)

/-- A channel stops because a response did not come in time. Data that was read and not yet written goes to its
destination with the poison mark (R53). -/
def State.dmaTimeout (s : State) (k : Nat) (readData : List Byte) : State :=
  let p := (s.chan k).active
  let bs := readData.take (progLen p)
  let s := if bs.isEmpty || !s.burstLeft k then s
    else s.burstWrite k (progDstSpace p) (unsigned 64 (burstDst p (s.chan k).burst)) bs true
  s.dmaStop k 3

/-- The responses of a disabling channel have drained: it is idle, or a held enable starts it (R55). -/
def execDmaDrainComplete (k : Fin 16) (s : State) : Host.Outcome State Fault Refusal :=
  if s.rd (F.DMA_CH_STATUS.STATE k) ≠ 2 then done s
  else if s.bit (F.DMA_CH_STATUS.PENDING_ENABLE k) then
    done ((s.clr (F.DMA_CH_STATUS.PENDING_ENABLE k)).dmaStart k)
  else done (s.wr (F.DMA_CH_STATUS.STATE k) 0)

/-- A write of any 1 to ERR clears the field and leaves STOPPED (R50, Table 2-10). -/
def execDmaErrClear (m : Master) (k : Fin 16) (bits : Fin 8) (s : State) : Host.Outcome State Fault Refusal :=
  done (s.gated m (0x30008 + 0x100 * k) (fun s =>
    if bits.val = 0 then s
    else
      let s := s.wr (F.DMA_CH_STATUS.ERR k) 0
      (if s.rd (F.DMA_CH_STATUS.STATE k) = 3 then s.wr (F.DMA_CH_STATUS.STATE k) 0 else s).settleSources (F.DMA_CH_STATUS.DONE k).off))

end Sys2Proof.Machine
end

