-- ==== Sys2Proof/Machine/Folio.lean ====
section
/-! DEFINITION. The Folio decoder: checking blocks, admission, commitment in SEQ order, deadlines (R58 to R83,
R86). -/
namespace Sys2Proof.Machine

/-! ### Checking a block -/

/-- Whether the records of a block keep the rules that need no other block: rows in order and within the block,
and LEAF_HEADER first in the FIRST block and nowhere else (R59, R60). -/
def recsForm (first : Bool) (lo hi : Int) (rs : List Rec) : Bool :=
  let rows := rs.filterMap recRow
  let isHdr := fun (r : Rec) => match r with
    | .header _ => true
    | _ => false
  rows.all (fun r => lo ≤ r && r ≤ hi) && decide (rows.Pairwise (· ≤ ·))
    && (rs.drop (if first then 1 else 0)).all (fun r => !isHdr r) && (!first || (rs.headD .pad |> isHdr))

/-- The records of a good block's stream. -/
def blockRecs (d : List Byte) : Option (List Rec) :=
  let g := blockStream d
  if g.form && g.crc then recsParse (g.out.length + 1) g.out else none

/-- The LEAF_HEADER that a FIRST block opens with, where it is complete and valid (R63). -/
def blockLeafHdr (d : List Byte) (leaf : Nat) : Option LeafHdr :=
  let o := (blockStream d).out
  if 64 ≤ o.length && fieldAt o 0 4 = 0x1001 then
    match headerParse (o.take 64) with
    | some h => if h.leaf = leaf then some h else none
    | none => none
  else none

/-- The bytes counted in the density window that starts at a row (R79). -/
def windowSum (sums : List (Int × Nat)) (t : Int) : Nat :=
  ((sums.filter (fun e => t ≤ e.1 && e.1 ≤ t + 63)).map Prod.snd).sum

/-- Whether a row lies in a window above its limit (R79). -/
def windowOver (sums : List (Int × Nat)) (density : Nat) (row : Int) : Bool :=
  (rowsFrom (row - 63) row).any (fun t => density * 64 * 64 * 16384 < windowSum sums t * 1000000)

/-- The events of blocks that entered the sums one after another, the newest first: those that brought a window above its
limit, or added to one above it (R79). -/
def densityEvents (density : Nat) : List (Int × Nat) → Nat
  | [] => 0
  | e :: es => (if windowOver (e :: es) density e.1 then 1 else 0) + densityEvents density es

/-- The leaf takes the header of its FIRST block; no row of it, with its halo, is complete yet (R60, R63). -/
def Leaf.opened (l : Leaf) (hdr : Option LeafHdr) : Leaf :=
  match hdr with
  | none => l
  | some h => { l with hdr := some h, complete := hdrLow h - 1, lastNamed := hdrLow h - 1 }

/-- A block enters the density sums, once; a window above its limit is one event. Blocks that entered before the leaf's header
gave the limit are judged when it comes, which `fresh` says (R79). -/
def State.densityCount (s : State) (p : Nat) (l : Leaf) (b : Blk) (fresh : Bool) : State :=
  let l := { l with sums := (b.firstRow, b.data.length) :: l.sums }
  let s := s.setLeaf p l
  match l.hdr with
  | none => s
  | some h =>
    let n := if fresh then densityEvents h.density l.sums
      else if windowOver l.sums h.density b.firstRow then 1 else 0
    if n = 0 then s else (s.set1 F.FOL_ERR.DENSITY_OVER).addSat F.FOL_COUNTS.DENSITY_OVER n

/-- The highest complete tile row; before the leaf's header is known no row is complete (R60). -/
def Leaf.doneRow (l : Leaf) : Int := if l.hdr.isNone then -2147483649 else l.complete

/-- A record failure: the trusted range of the block is marked missing at once, but for rows that are complete (R81). -/
def State.recordFail (s : State) (p : Nat) (l : Leaf) (b : Blk) : State :=
  let l := l.putBlk { b with state := .recordsFailed, data := [] }
  (s.folFormat l.id b.seq 3).setLeaf p (l.markRows (max b.firstRow (l.doneRow + 1)) b.lastRow 12)

/-! ### Admission -/

/-- The cause for which a leaf is refused, the lowest code first; zero where it is admitted (Table 3-4). -/
def State.admissionCause (s : State) (p : Nat) (h : LeafHdr) : Nat :=
  let other := match s.leafAt (1 - p) with
    | some o => o.admitted && o.id = h.leaf
    | none => false
  if other then 1
  else if h.catalogue ≠ s.rd F.FOL_CAT_ID.ID then 2
  else if s.mode = 2 && !h.preview then 3
  else if h.preview && (300000 < h.rate || h.pec) then 4
  else if s.rd F.FOL_INTAKE_CAP.CAP_MBS * 1000000000000 < h.density * 262144 * h.rate then 5
  else if s.rd F.FOL_CFG.EDGE_LIMIT < h.edgePeak then 6
  else 0

/-- The leaf is admitted or refused once its header is good (R63). Admission is held outside PREVIEW and RUN, and
while the device prepares for power-down or for the full map (R309, R318). -/
def execLeafAdmission (p : Fin 2) (s : State) : Host.Outcome State Fault Refusal :=
  match s.leafAt p with
  | none => done s
  | some l =>
    match l.hdr with
    | none => done s
    | some h =>
      if l.admitted || s.holdsLeaves || !(s.mode = 2 || s.mode = 3) then done s
      else
        let c := s.admissionCause p h
        if c ≠ 0 then done (s.refuseLeaf p c)
        else
          let s := s.setLeaf p { l with admitted := true }
          let s := { s with fol := { s.fol with order := s.fol.order ++ [p.val] } }
          done ((s.admitLeaf p h).folShow.leafEvent)

/-! ### Committing a block -/

/-- Fog node rows that must stand before a record naming row `t` (R68). -/
def fogReady (h : LeafHdr) (l : Leaf) (t : Int) : Bool :=
  let g := ceilDiv h.lines 1024 + 1
  !h.fog || (List.range ((min (t / 8 + 2) ((g : Int) - 1)) + 1).toNat).all (fun k => l.fog.any (fun e => e.1 = k))

/-- Whether a density-only tile may stand at a place (R76). -/
def densPlace (h : LeafHdr) (t e : Int) : Bool :=
  !ownTile h t e && [(0, 0), (0, 1), (1, 0), (1, 1)].any (fun (q : Int × Int) => inHalo h (2 * t + q.1) (2 * e + q.2))

/-- The paths of a tile with its instances expanded, and its edge count (R74, R78). -/
def tileExpand (l : Leaf) (ps : List Path) (is : List Inst) : Nat × List Path :=
  let cs := is.filterMap (fun i => (l.motifs.find? (fun (m : Motif) => m.id = i.motif)).map (fun m => instExpand m i))
  (edgeUnits ps + (cs.map Prod.fst).sum, ps ++ cs.flatMap Prod.snd)

/-- A record taken into the leaf; `none` where it breaks a rule of the chapter. The tiles that fail under R74 or
R78 are added to `failed` (R60, R67 to R77). DESIGN CHOICE (log 122): the CLASS bits of an instance with OWN set are not
used, and R67 does not say whether they name a class; they are not tested. DESIGN CHOICE (log 161): for a leaf whose LAST
block is taken with no DOSE_CLASSES, or with a fog node row missing, no outcome is named; the block is taken. -/
def takeRec (h : LeafHdr) (store : Nat) (l : Leaf) (r : Rec) : Option Leaf :=
  match r with
  | .pad => some l
  | .header _ => some l
  | .classes cs =>
    if l.classes.isSome || cs.length ≠ 2 * ceilDiv h.classes 2 || (cs.drop h.classes).any (· ≠ 0) then none
    else some { l with classes := some (cs.take h.classes) }
  | .fog g ns =>
    if !h.fog || ceilDiv h.lines 1024 + 1 ≤ g || l.fog.any (fun e => e.1 = g) then none
    else some { l with fog := (g, ns) :: l.fog }
  | .motif m n =>
    if h.motifs ≤ m.id || l.motifs.any (fun (k : Motif) => k.id = m.id) || store < l.motifBytes + n
        || m.paths.any (fun q => h.classes ≤ q.cls) then none
    else some { l with motifs := m :: l.motifs, motifBytes := l.motifBytes + n }
  | .tile dens t e ps is =>
    if t < l.lastNamed then none
    else if (l.rowMissing t).isSome then some { l with lastNamed := t }
    else if t ≤ l.complete || l.named.contains (dens, t, e) || !fogReady h l t
        || (if dens then !densPlace h t e else !ownTile h t e || l.classes.isNone)
        || ps.any (fun q => h.classes ≤ q.cls)
        || is.any (fun i => (!i.own && h.classes ≤ i.cls) || !(l.motifs.any (fun (m : Motif) => m.id = i.motif)))
    then none
    else
      let x := tileExpand l ps is
      let l := { l with lastNamed := t, named := (dens, t, e) :: l.named }
      if h.edgePeak < x.1 || !x.2.all pathInRange then some { l with failed := (t, e, 12) :: l.failed }
      else
        let g : TileGeo := ⟨t, e, x.2⟩
        some (if dens then { l with dens := g :: l.dens } else { l with tiles := g :: l.tiles })
  | .halo c k vs =>
    let t := c / 2
    let cells := vs.zipIdx.map (fun v => (c, k + (v.2 : Int), v.1))
    if t < l.lastNamed then none
    else if (l.rowMissing t).isSome then some { l with lastNamed := t }
    else if t ≤ l.complete || !fogReady h l t || !cells.all (fun q => inHalo h q.1 q.2.1) then none
    else some { l with lastNamed := t, halo := cells ++ l.halo }

/-- The records of a block taken in order. -/
def takeRecs (h : LeafHdr) (store : Nat) : Leaf → List Rec → Option Leaf
  | l, [] => some l
  | l, r :: rs => match takeRec h store l r with
    | none => none
    | some l' => takeRecs h store l' rs

/-! ### Skipping rows, and the end of a check -/

/-- MOTIF_STORE in bytes (R72). -/
def State.motifStore (s : State) : Nat := s.rd F.FOL_CFG.MOTIF_STORE * 1048576

/-- Whether a block keeps every rule of stage 3 that hangs on the blocks before it, once the rows up to its FIRST_TROW are
marked missing (R58, R81). -/
def State.skipTest (s : State) (l : Leaf) (h : LeafHdr) (b : Blk) : Bool :=
  ((blockRecs b.data).bind (takeRecs h s.motifStore (l.markRows (l.complete + 1) b.firstRow 11))).isSome

/-- The first of some blocks that has passed all three stages of R58. A block that only now fails in its records is marked
so (R81). -/
def State.skipFind (s : State) (p : Nat) : List Blk → State × Option Blk
  | [] => (s, none)
  | b :: bs =>
    match s.curHdr p with
    | none => (s, none)
    | some (l, h) =>
      if b.state ≠ .good then s.skipFind p bs
      else if s.skipTest l h b then (s, some b)
      else (s.recordFail p l b).skipFind p bs

/-- Blocks of the leaf below a SEQ are passed over: their copies are freed. A copy that is still being fetched is discarded
when it is stored (R81, R83). -/
def Leaf.passOver (l : Leaf) (upto : Nat) : Leaf :=
  { l with blocks := l.blocks.map (fun b =>
      if l.nextSeq ≤ b.seq && b.seq < upto && b.state ≠ .fetching then { b with state := .passed, data := [], rejected := [] }
      else b) }

/-- The decoder goes on with a block: the rows up to its FIRST_TROW are missing and the blocks before it are passed over
(R81). -/
def State.skipOn (s : State) (p : Nat) (b : Blk) : State :=
  match s.leafAt p with
  | none => s
  | some l =>
    let l := (l.markRows (l.complete + 1) b.firstRow 11).passOver b.seq
    (s.setLeaf p { l with
      skipping := false, nextSeq := b.seq, complete := max l.complete b.firstRow }).retireDue p

/-- While the decoder has no good block to go on with, the first one that passes is taken (R81). -/
def State.skipTo (s : State) (p : Nat) : State :=
  match s.leafAt p with
  | none => s
  | some l =>
    if !l.skipping then s
    else match s.skipFind p (l.blocks.filter (fun b => l.nextSeq ≤ b.seq)) with
      | (s, none) => s
      | (s, some b) => s.skipOn p b

/-- A header that has just been trusted is held against the block after it, when that was checked before: a FIRST_TROW below
this block's LAST_TROW fails that block in its header, whichever of the two came first (R58, R61). -/
def State.nextTest (s : State) (p seq : Nat) (lastRow : Int) : State :=
  match s.leafAt p with
  | none => s
  | some l => match l.blk (seq + 1) with
    | none => s
    | some c =>
      if c.state = .good && c.firstRow < lastRow then
        (s.folFormat l.id c.seq 2).setLeaf p (l.putBlk { c with state := .headerFailed, trusted := false })
      else s

/-- A decode lane finishes a stored block: check value, header, records (R58, R82, R86). `disturbed` says that
the first decode of a good Gugen stream went wrong, and the second matched. DESIGN CHOICE (log 162): for a SEQ at or above
BLOCK_COUNT, or LAST on another block than the last of BLOCK_COUNT, no outcome is named; neither is tested. -/
def execBlockChecked (p : Fin 2) (seq : Nat) (disturbed : Bool) (s : State) : Host.Outcome State Fault Refusal :=
  match s.leafAt p with
  | none => done s
  | some l =>
    match l.blk seq with
    | none => done s
    | some b =>
      if b.state ≠ .stored then done s
      else if b.poison ≠ 0 || !blockCheck b.data then done ((s.checkFail p l b).folShow)
      else
        let prev := (l.blocks.find? (fun c => c.seq + 1 = seq && c.trusted)).map Blk.lastRow
        if !blockHeader b.data l.id seq b.first b.last prev then
          let s := (s.folFormat l.id seq 2).setLeaf p (l.putBlk { b with state := .headerFailed, trusted := false })
          done ((if b.first && !l.admitted then s.refuseLeaf p 1 else s).folShow)
        else
          let counted := b.counted
          let b := { b with
            firstRow := blockFirstRow b.data, lastRow := blockLastRow b.data, continues := blockContinues b.data,
            trusted := true, counted := true }
          let hdr := if b.first then blockLeafHdr b.data l.id else l.hdr
          if b.first && hdr.isNone then
            done (((s.folFormat l.id seq 3).refuseLeaf p 1).folShow)
          else
            let fresh := b.first && l.hdr.isNone
            let l := if fresh then l.opened hdr else l
            let s := if counted then s.setLeaf p l else s.densityCount p l b fresh
            let l := (s.leafAt p).getD l
            let g := blockStream b.data
            let s := if disturbed && fieldAt b.data 29 1 = 1 && g.form && g.crc then s.incSat F.FOL_COUNTS.DECODE_RETRY else s
            match blockRecs b.data with
            | none => done (((s.recordFail p l b).nextTest p seq b.lastRow).folShow)
            | some rs =>
              if !recsForm b.first b.firstRow b.lastRow rs then
                done (((s.recordFail p l b).nextTest p seq b.lastRow).folShow)
              else
                let same := b.byRefetch && !b.rejected.isEmpty && b.data.take (b.data.length - 4) = b.rejected
                let s := if same then s.incSat F.FOL_COUNTS.CHECK_ONLY_MISMATCH else s
                let s := s.setLeaf p (l.putBlk { b with state := .good, rejected := [] })
                done (((s.nextTest p seq b.lastRow).skipTo p).folShow)

/-! ### Committing in SEQ order -/

/-- A block leaves the store and the decoder waits for the next one. -/
def Leaf.pass (l : Leaf) (h : LeafHdr) (b : Blk) : Leaf :=
  { l.putBlk { b with data := [], rejected := [] } with
    nextSeq := b.seq + 1, skipping := false, complete := completeAfter h l.complete b }

/-- The node rows that a block's records have added are written into the fog ring. DESIGN CHOICE (log 127): the place of a
node row is not given; node row g stands at 32·(g mod 65536), nine nodes of two bytes (R68, DOS_FOG_RING). -/
def State.fogRingWrite (s : State) (rows : List (Nat × List Nat)) : State :=
  rows.foldr (fun r s => s.unitWrite 28 (s.fogRingAt r.1) (r.2.flatMap (leBytes 2)) false) s

/-- The awaited block is committed in SEQ order: its records join the decoded tile queue, or it fails in its
records and its rows are marked missing (R60, R61, R81). A decoder that skips rows goes on with no block that has failed in its
records (R81). -/
def execBlockConsumed (p : Fin 2) (s : State) : Host.Outcome State Fault Refusal :=
  match s.leafAt p with
  | none => done s
  | some l =>
    match l.hdr, l.blk l.nextSeq with
    | some h, some b =>
      if !l.admitted then done s
      else if b.state = .recordsFailed && !l.skipping then
        done (((s.setLeaf p (l.pass h b)).retireDue p).folShow)
      else if b.state ≠ .good then done s
      else
        match (blockRecs b.data).bind (takeRecs h s.motifStore l) with
        | none =>
          let s := s.folFormat l.id b.seq 3
          let l := l.markRows (max b.firstRow (l.complete + 1)) b.lastRow 12
          done (((s.setLeaf p (l.pass h { b with state := .recordsFailed })).retireDue p).folShow)
        | some l' =>
          let bad := l'.failed.length - l.failed.length
          let s := (List.range bad).foldl (fun s _ => s.folFormat l.id b.seq 4) s
          let s := s.fogRingWrite (l'.fog.take (l'.fog.length - l.fog.length))
          done (((s.setLeaf p (l'.pass h b)).retireDue p).folShow)
    | _, _ => done s

/-- Row `t` is missing in every column, and each row up to FIRST_TROW of the block with which the decoder goes on (R81). -/
def State.skipRow (s : State) (p : Nat) (t : Int) (seq : Nat) (first : Int) : State :=
  match s.leafAt p with
  | none => s
  | some l =>
    let top := max t first
    let l := (l.markRows t top 11).passOver seq
    (s.setLeaf p { l with nextSeq := seq, skipping := false, complete := top }).retireDue p

/-- Row `t` is missing in every column, and the decoder goes on once a later block has passed (R81). -/
def State.skipWait (s : State) (p : Nat) (t : Int) : State :=
  match s.leafAt p with
  | none => s
  | some l =>
    let next := if l.skipping then l.nextSeq else l.nextSeq + 1
    let l := (l.markRows t t 11).passOver next
    (s.setLeaf p { l with nextSeq := next, skipping := true, complete := t }).retireDue p

/-- The deadline of the lowest incomplete tile row passes while the awaited block has not passed its checks
(R81). Before SS 0 of the leaf no deadline exists (R80). DESIGN CHOICE (log 119): for the further rows that are marked while
no later block has passed, R81 names no flag again; each sets DEADLINE_MISS, where block k was never submitted too. -/
def execTileRowDeadline (p : Fin 2) (s : State) : Host.Outcome State Fault Refusal :=
  match s.leafAt p with
  | none => done s
  | some l =>
    match l.hdr with
    | none => done s
    | some h =>
      let t := l.complete + 1
      let cur := l.blk l.nextSeq
      let passed := match cur with
        | some b => b.state = .good || (b.state = .recordsFailed && !l.skipping)
        | none => false
      if !l.admitted || passed || hdrHigh h < t || (s.rowDeadline p t).isNone then done s
      else
        let s := if cur.isNone && !l.skipping then (s.set1 F.FOL_ERR.SEQ_GAP).folFail l.id l.nextSeq 5
          else s.set1 F.FOL_ERR.DEADLINE_MISS
        match s.skipFind p (l.blocks.filter (fun b => l.nextSeq < b.seq)) with
        | (s, some b) => done ((s.skipRow p t b.seq b.firstRow).folShow)
        | (s, none) => done ((s.skipWait p t).folShow)

end Sys2Proof.Machine
end

