-- ==== Sys2Proof/Machine/Trim.lean ====
section
/-! DEFINITION. The commands of self-calibration (R374 to R379). -/
namespace Sys2Proof.Machine

/-- Whether a die sensor differs from its reading at the start of the last run by more than DELTA (R374). -/
def State.tempMoved (s : State) : Bool :=
  (List.range 8).any (fun i =>
    s.rd F.CAL_CFG.DELTA * 16 < (s.rdInt (F.CAL_TEMP.NOW i) - s.rdInt (F.CAL_TEMP.REF i)).natAbs)

/-- A run starts: on a temperature change, for the first time once the BLK step-up of BOOT has ended, after a rate
change, or for a trigger that is pending (R374, R376). -/
def execCalRunStart (s : State) : Host.Outcome State Fault Refusal :=
  let stepped := !s.cal.begun && s.linkActive && !s.blk.stepReq && s.blk.stepTo.isNone
  let due := s.tempMoved || stepped || s.cal.again.any (fun g => s.grpState g = 4) || s.bit F.CAL_STATUS.RUN_PENDING
  done (if s.rd F.CAL_STATUS.STATE = 1 && due then s.runTrigger else s)

/-- CAL_CTL.RUN starts a run, or is pending during one (R374). -/
def execCalRunWrite (m : Master) (s : State) : Host.Outcome State Fault Refusal :=
  done (s.gated m F.CAL_CTL.RUN.off (fun s => s.runTrigger))

/-- CAL_CTL.ENABLE written 1; held while DISABLING (R379). -/
def execCalEnable (m : Master) (s : State) : Host.Outcome State Fault Refusal :=
  done (s.gated m F.CAL_CTL.ENABLE.off (fun s =>
    if s.rd F.CAL_STATUS.STATE = 3 then s.set1 F.CAL_STATUS.PENDING_ENABLE
    else
      let s := s.set1 F.CAL_CTL.ENABLE
      if s.rd F.CAL_STATUS.STATE = 0 then s.wr F.CAL_STATUS.STATE 1 else s))

/-- A group whose spare carries a lane for its trim gives it back (R192, R379). -/
def State.trimBack (s : State) (g : Nat) : State :=
  let x := s.grp g
  let s := s.trimDrop g
  match x.swap, x.carried with
  | some w, _ => if w.good || w.back then s else s.swapStart g w.lane true false
  | none, some k => if x.good then s else s.swapStart g k true false
  | none, none => s

/-- CAL_CTL.ENABLE written 0: the run ends and lanes under trial are given back; a pending enable is cancelled
(R379). -/
def execCalDisable (m : Master) (s : State) : Host.Outcome State Fault Refusal :=
  done (s.gated m F.CAL_CTL.ENABLE.off (fun s =>
    if s.rd F.CAL_STATUS.STATE = 3 then s.clr F.CAL_STATUS.PENDING_ENABLE
    else if s.rd F.CAL_STATUS.STATE = 0 then s.clr F.CAL_CTL.ENABLE
    else
      let s := ((s.clr F.CAL_CTL.ENABLE).clr F.CAL_STATUS.RUN_PENDING).wr F.CAL_STATUS.STATE 3
      let s := (List.range 4).foldl State.trimBack s
      { s with cal := { s.cal with
        rx := List.replicate 4 none, ddr := List.replicate 6 none, again := [] } }))

/-- The last give-back completes (R379). -/
def execCalDrainComplete (s : State) : Host.Outcome State Fault Refusal :=
  if s.rd F.CAL_STATUS.STATE ≠ 3 then done s
  else if s.bit F.CAL_STATUS.PENDING_ENABLE then
    done (((s.clr F.CAL_STATUS.PENDING_ENABLE).set1 F.CAL_CTL.ENABLE).wr F.CAL_STATUS.STATE 1)
  else done (s.wr F.CAL_STATUS.STATE 0)

/-- The trim of a receiver ends. -/
def State.rxEnd (s : State) (g : Nat) : State :=
  ({ s with cal := { s.cal with rx := s.cal.rx.set g none } }).runCheck

/-- A window of 2^20 received bits has been counted: outside the tolerance OFFSET is to step toward balance at the receiver's next
AM, and the trim ends after two windows within it or after 64 windows. An AM has passed since the window before. The polarity of
OFFSET is free (R377). -/
def execRxMarkWindow (g : Fin 4) (ones : Nat) (s : State) : Host.Outcome State Fault Refusal :=
  let s := (s.rxAm g).wr (F.CAL_RX.ONES g) (min ones (2 ^ 20))
  match (s.cal.rx[g.val]?).join with
  | none => done s
  | some t =>
    let tol := s.rd F.CAL_CFG.MARK_TOL * 64
    let many := decide (2 ^ 19 + tol < ones)
    let few := decide (ones + tol < 2 ^ 19)
    let up := if many then Config.rxStepsUp else !Config.rxStepsUp
    let s := if many || few then { s with cal := { s.cal with rxStep := s.cal.rxStep.set g.val (some up) } } else s
    let t : RxTrim := ⟨t.windows + 1, if many || few then 0 else t.within + 1⟩
    if 2 ≤ t.within || 64 ≤ t.windows then done (s.rxEnd g)
    else done { s with cal := { s.cal with rx := s.cal.rx.set g (some t) } }

/-- A lane under trial has not regained lock within 1 ms of a return: a lasting fault of that lane, and the spare keeps
it for good (R376). -/
def execTrimLockTimeout (g : Fin 4) (s : State) : Host.Outcome State Fault Refusal :=
  match s.trim g with
  | none => done s
  | some t =>
    if t.phase ≠ 1 || t.turn = 0 then done s
    else done ((s.lasting 0 (25 * g + t.lane)).laneReplace g t.lane).1

end Sys2Proof.Machine
end

