-- ==== Sys2Proof/Machine/Guard.lean ====
section
/-! DEFINITION. The commands of the Guard, the monitors and the latent-fault self-tests (R23, R320 to R333, R388). -/
namespace Sys2Proof.Machine

/-- The Keeper cores disagree (R323). -/
def execKeeperLockstep (s : State) : Host.Outcome State Fault Refusal := done (s.guardDemand 1)

/-- The Keeper's watchdog interval runs out (R326). -/
def execKeeperWatchdog (s : State) : Host.Outcome State Fault Refusal :=
  done (if s.saf.wdogOn then s.guardDemand 2 else s)

/-- SAF_WDOG written: the value expected restarts the interval, any other is an expiry at once; the write is ignored while
the watchdog does not run (R326). -/
def execSafWdogWrite (m : Master) (v : BitVec 32) (s : State) : Host.Outcome State Fault Refusal :=
  done (s.gated m F.SAF_WDOG.KICK.off (fun s =>
    if !s.saf.wdogOn then s
    else if v.toNat % 65536 = s.saf.wdogNext then
      { s with saf := { s.saf with wdogNext := if s.saf.wdogNext = 0x5A5A then 0xA5A5 else 0x5A5A } }
    else s.guardDemand 2))

/-- SAF_DEMAND written with DEMAND set (R327). -/
def execSafDemandWrite (m : Master) (v : BitVec 32) (s : State) : Host.Outcome State Fault Refusal :=
  done (s.gated m F.SAF_DEMAND.DEMAND.off (fun s => if v.toNat % 2 = 1 then s.guardDemand 14 else s))

/-- The two copies of the Guard disagree (R323). -/
def execGuardCompare (s : State) : Host.Outcome State Fault Refusal := done (s.guardDemand 13)

/-- BLANK_ALL_N, or TWIN_AUTH, has not reached its driven level for 200 ns (R323). -/
def execPadReadbackFault (auth : Bool) (s : State) : Host.Outcome State Fault Refusal :=
  done (s.guardDemand (if auth then 0xB else 0xA))

/-! ### Clocks and supplies -/

/-- The Guard cause of a bit of CLK_ERR (Table 14-2, CLK_ERR). -/
def clockCause (clock : Nat) : Nat := if clock < 6 then 3 else if clock = 6 then 4 else 5

/-- Whether a clock monitor finds a fault: a core clock or REFCLK beyond the monitor window, or a PLL that has lost lock or
is off frequency, whatever its deviation (R23, R323, CLK_ERR, CLK_MON_CFG). -/
def State.clockBad (s : State) (clock : Nat) (ppm : Int) : Bool :=
  clock = 0 || 6 < clock || s.rd F.CLK_MON_CFG.WINDOW < ppm.natAbs

/-- A clock monitor finds a clock that was good stopped, off frequency or unlocked; a deviation within the window is no
fault (R23, R323, CLK_ERR, CLK_LAST). -/
def execClockFault (clock : Fin 13) (ppm : Int) (s : State) : Host.Outcome State Fault Refusal :=
  let good : Field := ⟨F.CLK_STATUS.ROOT_LOCK.off, clock, 1⟩
  if !s.bit good || !s.clockBad clock ppm then done s
  else
    let s := (s.clr good).set1 ⟨F.CLK_ERR.ROOT_UNLOCK.off, clock, 1⟩
    let s := (s.wrInt F.CLK_LAST.DEVIATION (clampInt ppm (-32768) 32767)).wr F.CLK_LAST.CLOCK clock
    let s := if clock.val = 7 then (s.clr F.BLK_PLL.BLK_LOCK).incSat F.BLK_PLL.BLK_LOSS
      else if clock.val = 8 then (s.clr F.BLK_PLL.IKL_LOCK).incSat F.BLK_PLL.IKL_LOSS
      else s
    done (s.guardDemand (clockCause clock))

/-- The operating range of a supply and its monitor thresholds, in 0.1 mV (Table 17-6). -/
def supplyRange (i : Nat) : (Nat × Nat) × (Nat × Nat) :=
  match i with
  | 0 => ((7275, 7725), (7050, 7950))
  | 1 => ((7760, 8240), (7520, 8480))
  | 2 => ((10670, 11330), (10340, 11660))
  | 3 => ((8730, 9270), (8460, 9540))
  | 4 => ((11640, 12360), (11280, 12720))
  | 5 => ((17460, 18540), (16920, 19080))
  | _ => ((7760, 8240), (7520, 8480))

/-- Whether a reading lies outside a range. -/
def outside (r : Nat × Nat) (mv : Nat) : Bool := 10 * mv < r.1 || r.2 < 10 * mv

/-- PAD_SUPPLYi takes a reading. -/
def State.supplyRead (s : State) (i mv : Nat) : State :=
  let first := s.rd (F.PAD_SUPPLY.MAX i) = 0
  let s := (s.wr (F.PAD_SUPPLY.NOW i) mv).wr (F.PAD_SUPPLY.MAX i) (max mv (s.rd (F.PAD_SUPPLY.MAX i)))
  s.wr (F.PAD_SUPPLY.MIN i) (if first then mv else min mv (s.rd (F.PAD_SUPPLY.MIN i)))

/-- The always-on domain loses its supply, and the attempt record with it (R311, R388). -/
def State.aonLose (s : State) : State :=
  { s with boot := { s.boot with attempts := [], lastFail := 0, aonSec := 0, aonPart := 0, aonLost := true } }.attemptShow

/-- A reading too low for VDD_AON to hold what it keeps (R388). -/
def aonLow (i mv : Nat) : Bool := i = 6 && 10 * mv < (supplyRange 6).2.1

/-- A supply is read. Outside its operating range it is flagged; outside a monitor threshold for 300 ns (`held`) it is the
Guard cause SUPPLY. Readings outside the operating range keep a device in OFF there (R388, R389). -/
def execSupplyExcursion (i : Fin 7) (mv : BitVec 16) (held : Bool) (s : State) : Host.Outcome State Fault Refusal :=
  let r := supplyRange i
  let out := outside r.1 mv.toNat
  let trip := held && outside r.2 mv.toNat
  let mask := s.pin.supplyOut
  let s : State := { s.supplyRead i mv.toNat with
    pin := { s.pin with supplyOut := mask - mask / 2 ^ i.val % 2 * 2 ^ i.val + (if out then 2 ^ i.val else 0) }
    boot := { s.boot with
      powerGood := s.boot.powerGood && !out
      powerLost := s.boot.powerLost || trip || (s.mode = 0 && out) } }
  let s := s.whenD out (fun s => s.wr F.PAD_SUPPLY_ERR.WARN (s.rd F.PAD_SUPPLY_ERR.WARN ||| 2 ^ i.val))
  let s := s.whenD trip (fun s => s.wr F.PAD_SUPPLY_ERR.TRIP (s.rd F.PAD_SUPPLY_ERR.TRIP ||| 2 ^ i.val))
  let s := s.whenD (trip && aonLow i mv.toNat) State.aonLose
  done (if trip then s.guardDemand 6 else s)

/-! ### Die sensors -/

/-- One sensor's sample: DIE_SOFT is flagged at every sample at or above it, and counted, logged and announced at the
crossing (R325, CAL_TEMPi). -/
def State.dieOne (s : State) (i : Nat) (t : Int) : State :=
  let s := s.wrInt (F.CAL_TEMP.NOW i) t
  let soft := decide ((s.rd F.SAF_CFG.DIE_SOFT : Int) * 16 ≤ t)
  let was := s.saf.dieSoft.contains i
  let hot := decide ((s.rd F.SAF_CFG.DIE_HARD : Int) * 16 ≤ t)
  let n := if hot then smGet (fun _ => 0) s.saf.dieHot i + 1 else 0
  let s := { s with saf := { s.saf with
    dieSoft := if soft then listInsert i s.saf.dieSoft else s.saf.dieSoft.filter (· ≠ i)
    dieHot := smSet (fun _ => 0) s.saf.dieHot i n } }
  let s := s.whenD soft (fun s => s.set1 F.SAF_ERR.DIE_SOFT)
  s.whenD (soft && !was) (fun s =>
    ((s.incSat F.SAF_COUNTS.DIE_SOFT).aclLog 0x0203 (leBytes 2 i ++ leBytes 2 (unsigned 16 (t / 16)))).faultEvent)

/-- The sensors' samples one after another. -/
def State.dieAll (s : State) (i : Nat) : List Int → State
  | [] => s
  | t :: ts => (s.dieOne i t).dieAll (i + 1) ts

/-- The eight die sensors are sampled, in 1/16 °C: DIE_SOFT, DIE_HOT after three samples at or above DIE_HARD, and the
trigger of a re-trim run (R325, R374). -/
def execDieSensorSample (temps : List Int) (s : State) : Host.Outcome State Fault Refusal :=
  let ts := (temps.take 8).map (fun t => clampInt t (-32768) 32767)
  if s.mode = 0 || ts.length < 8 then done s
  else
    let s := s.dieAll 0 ts
    let s := s.wrInt F.SAF_STATUS.DIE_MAX (clampInt (ts.foldl max (-32768) / 16) (-128) 127)
    let s := if s.tempMoved then s.runTrigger else s
    done (if s.saf.dieHot.any (fun e => decide (3 ≤ e.2)) then s.guardDemand 7 else s)

/-! ### SAFE -/

/-- The Guard's record has reached the persistent copy: the mode shows SAFE, and the attempt record takes reason GUARD
(R315, R328, Table 14-4), which counts as a failed start where SAFE_RESTART is set (R310). The watchdog stops (R326). A record
that waits for the end of a clear is not on die yet (R364). -/
def execGuardRecordPersisted (s : State) : Host.Outcome State Fault Refusal :=
  if !s.saf.acting || s.mode = 5 || s.acl.clearing then done s
  else
    let s := s.leaveBoot.aclFlush
    let s := (if s.bit F.BOOT_CFG.SAFE_RESTART then s.attemptAdd 0xC else s.attemptPut 0xC s.attemptsKnown).wr F.BOOT_STATUS.MODE 5
    let s := { s with saf := { s.saf with wdogOn := false } }
    done (((s.wr F.SAF_STATUS.STATE 2).wr F.KPR_STATUS.STATE 2).attemptShow)

/-! ### Latent-fault self-tests -/

/-- The tests of a group (Table 14-5). -/
def groupTests (g : Nat) : List Nat :=
  [1, 3, 10] ++ (match g with
    | 0 => [2, 5, 6, 7, 8]
    | 7 => [4]
    | _ => [9])

/-- T9 measures the eyes of the channel of its group without moving its delays (R216, Table 14-5). The second part of the
answer says that an eye is too narrow. -/
def State.eyesMeasured (s : State) (g : Nat) (eyes : List Nat) : State × Bool :=
  if g = 0 || g = 7 || !s.trained (g - 1) then (s, false)
  else
    let es := eyes.take 10
    let s := (List.range 10).foldl (fun s n =>
      match es[n]? with
      | some e => (s.wr (F.MEM_CH_TRAIN.EYE (g - 1) n) (min e 255)).wrBit (F.MEM_CH_TRAIN.PASS (g - 1) n) (decide (32 ≤ e))
      | none => s) s
    (s, es.any (fun e => e < 32))

/-- T5 in group 0: Tally sums the regions of the self-test tile, and an armed injection adds DELTA to one of them; ARM clears
(R119, R330). -/
def State.selfTile (s : State) : State :=
  let add := fun (g : Nat) =>
    if s.bit F.TAL_INJECT.ARM && s.rd F.TAL_INJECT.REGION = g then s.rdInt F.TAL_INJECT.DELTA else 0
  { s.clr F.TAL_INJECT.ARM with
    saf := { s.saf with selfSums := (List.range 8).map (fun g => Config.selfTestSum g + add g) } }

/-- The next self-test group runs. In a pair T1 is skipped unless HEARTBEATs show the twin's tracker at rest. `fail` is a test
of the group that fails, 0 for none, and `eyes` what T9 measures (R330 to R333). -/
def execLatentGroupRun (fail : Fin 11) (eyes : List Nat) (s : State) : Host.Outcome State Fault Refusal :=
  if !s.saf.groupRunning || s.saf.acting then done s
  else
    let g := s.rd F.SAF_LATENT.NEXT_GROUP
    let skip := s.bit F.TWN_CFG.MODE && !(s.twn.alive && !s.twn.peerRunning)
    let s := { s with saf := { s.saf with t1Due := skip } }
    let s := s.whenD skip (fun s =>
      (s.set1 F.SAF_ERR.LATENT_SKIPPED).aclLog 0x0204 (leBytes 1 3 ++ leBytes 1 1 ++ leBytes 1 g))
    let s := s.whenD (g = 0) State.selfTile
    let (s, narrow) := s.eyesMeasured g eyes
    let bad := if (groupTests g).contains fail.val && !(skip && fail.val = 1) then fail.val else if narrow then 9 else 0
    if bad ≠ 0 then
      let s := { s with saf := { s.saf with groupRunning := false } }
      let s := (s.wr F.SAF_LATENT.FAIL_TEST bad).aclLog 0x0204 (leBytes 1 1 ++ leBytes 1 bad ++ leBytes 1 g)
      done (s.guardDemand 12)
    else
      let s := (s.incSat F.SAF_COUNTS.GROUPS).wr F.SAF_LATENT.NEXT_GROUP ((g + 1) % 8)
      let s := if g = 7 then (s.incWrap F.SAF_LATENT.CYCLES).wr F.SAF_LATENT.CYCLE_AGE 0 else s
      let more := s.saf.overdue && g ≠ 7
      done { s with saf := { s.saf with groupRunning := more, overdue := more } }

/-- While no leaf is armed or running, a group runs every second (R331). -/
def execLatentIdleTimer (s : State) : Host.Outcome State Fault Refusal :=
  done (if (s.mode = 2 || s.mode = 3) && s.rd F.SLT_STATUS.STATE = 0 && !s.saf.acting && !s.saf.groupRunning then
    { s with saf := { s.saf with groupRunning := true, overdue := false } } else s)

end Sys2Proof.Machine
end

