-- ==== Sys2Proof/Machine/Gugen.lean ====
section
/-! DEFINITION. The compressor (R88 to R91): the stream that it emits, and the checking decoder of R90. -/
namespace Sys2Proof.Machine

/-- Source 12 of the Docents, when IRQ_EN is set. -/
def State.gugIrq (s : State) : State := if s.bit F.GUG_CTL.IRQ_EN then s.source 12 else s

/-- The compressor stops with an error. -/
def State.gugStop (s : State) (err : Nat) : State :=
  ((s.wr F.GUG_STATUS.STATE 3).wr F.GUG_STATUS.ERR err).gugIrq

/-- Entry `i` of the buffer list: ADDR, LEN and the last word (R88). -/
def State.gugEntry (s : State) (i : Nat) : Nat × Nat × Nat :=
  let a := s.rd F.GUG_JOB_LIST.ADDR * 16 + 16 * i
  let bs := if s.bit F.GUG_JOB_LIST.SPACE then memRead s.sram a 16 else s.ddrRead a 16
  (fieldAt bs 0 8, fieldAt bs 8 4, fieldAt bs 12 4)

/-- The buffers of the job. -/
def State.gugBuffers (s : State) : List (Nat × Nat × Nat) :=
  (List.range (s.rd F.GUG_JOB_LIST.COUNT)).map s.gugEntry

/-- Bytes written into the buffers as one sequence that runs on from buffer to buffer; bytes past the last buffer
are not written (R88). -/
def State.gugWrite (s : State) : List (Nat × Nat × Nat) → List Byte → State
  | [], _ => s
  | (a, n, space) :: bufs, bs =>
    let part := bs.take n
    let s := s.unitPut 25 space a part false
    if bs.length ≤ n then s else s.gugWrite bufs (bs.drop n)

/-- Buffers entered by a stream of a length, and the bytes in the last of them. -/
def gugFill : List (Nat × Nat × Nat) → Nat → Nat × Nat
  | [], _ => (0, 0)
  | (_, n, _) :: bufs, len =>
    if len ≤ n then (1, len)
    else
      let r := gugFill bufs (len - n)
      if r.1 = 0 then (1, n) else (r.1 + 1, r.2)

/-- The buffers without the 12 bytes that are reserved for the stream header (R88). -/
def gugAfterHeader : List (Nat × Nat × Nat) → List (Nat × Nat × Nat)
  | [] => []
  | (a, n, space) :: bufs => (a + 12, n - 12, space) :: bufs

/-- Block `i` of `n` of the stream of a source: CODED where the tokens code the piece and are shorter than it, else
STORED (R84, R85, R89). DESIGN CHOICE (log 167): R89 says "shorter than its output" and not whether the 5 bytes of the block's
head count; the payload alone is compared. -/
def gugBlock (level : Nat) (src : List Byte) (n i : Nat) : List Byte :=
  let piece := (src.drop (65536 * i)).take 65536
  let before := (src.take (65536 * i)).reverse
  let code := Config.gugTokens level src i
  let got := gugTokens code.length code before piece.length
  let coded := 0 < code.length && code.length < piece.length && got.2 && got.1 = piece.reverse ++ before
  let payload := if coded then code else piece
  leBytes 1 ((if coded then 1 else 0) + if i + 1 = n then 128 else 0) ++ leBytes 2 (piece.length - 1)
    ++ leBytes 2 (payload.length - 1) ++ payload

/-- The first `k` blocks that the compressor emits for a source, a function of the source and LEVEL (R89). -/
def gugEmit (level : Nat) (src : List Byte) (k : Nat) : List Byte :=
  (List.range k).flatMap (gugBlock level src (ceilDiv src.length 65536))

/-- The stream header of a source (R84). -/
def gugHead (src : List Byte) : List Byte :=
  leBytes 2 0x4755 ++ leBytes 1 1 ++ leBytes 1 0 ++ leBytes 4 src.length ++ leBytes 4 (crc32c src)

/-- Whether the list is malformed, or it or a buffer lies outside its space (R88, R196, GUG_JOB_LIST). -/
def State.gugListBad (s : State) : Bool :=
  s.rd F.GUG_JOB_LIST.COUNT = 0
    || !s.spaceHas (if s.bit F.GUG_JOB_LIST.SPACE then 2 else 0) (s.rd F.GUG_JOB_LIST.ADDR * 16 : Nat) (s.rd F.GUG_JOB_LIST.COUNT * 16)
    || s.gugBuffers.any (fun b => b.2.1 < 64 || 3 ≤ b.2.2 || !s.spaceHas b.2.2 b.1 b.2.1)

/-- The source of the job: its space, its address and its length. -/
def State.gugSpace (s : State) : Nat := s.rd F.GUG_JOB_SRC.SPACE
def State.gugFrom (s : State) : Nat := s.rd F.GUG_JOB_SRC.ADDR
def State.gugLen (s : State) : Nat := s.rd F.GUG_JOB_LEN.LEN

/-- Whether the source is one that a job may not have (R88, R196). -/
def State.gugSrcBad (s : State) : Bool :=
  (s.reg 0x50010).toNat / 2 ^ 39 % 2 ^ 23 ≠ 0 || s.gugSpace = 1 || s.gugSpace = 3 || s.rd F.GUG_CTL.LEVEL = 3
    || !s.spaceHas s.gugSpace s.gugFrom s.gugLen

/-- The bytes of the source as they are read, and whether a range of it carries poison. -/
def State.gugSource (s : State) : List Byte :=
  if s.gugSpace = 0 then s.ddrRead s.gugFrom s.gugLen else memRead s.sram s.gugFrom s.gugLen
def State.gugPoison (s : State) (o n : Nat) : Bool :=
  if s.gugSpace = 0 then s.ddrPoisoned (s.gugFrom + o) n else s.sramPoisoned (s.gugFrom + o) n

/-- The pieces of 64 KiB that are read before one that carries poison stops the job (Table 8-3). -/
def State.gugPieces (s : State) : Nat :=
  let n := ceilDiv s.gugLen 65536
  ((List.range n).find? (fun i => s.gugPoison (65536 * i) (min 65536 (s.gugLen - 65536 * i)))).getD n

/-- A stream in which a byte has come out wrong. -/
def gugFlawed (flaw : Option (Nat × Byte)) (bs : List Byte) : List Byte :=
  match flaw with
  | some f => bs.set f.1 f.2
  | none => bs

/-- How a job ends: its ERR code, 0 where it is complete, and the bytes that it has written after the 12 reserved ones. The
checking decoder stops it at the byte that makes the stream differ, OUT_OF_BUFFER where the list ends, and SRC_FAULT before the
piece with poison, whichever comes first (R89, R90, Table 8-3). -/
def State.gugEnd (s : State) (room : Nat) (flaw : Option (Nat × Byte)) : Nat × List Byte :=
  let src := s.gugSource
  let k := s.gugPieces
  let out := gugFlawed flaw (gugEmit (s.rd F.GUG_CTL.LEVEL) src k)
  let wrong := flaw.bind (fun f =>
    let g := gugDecode (gugHead src ++ gugFlawed flaw (gugEmit (s.rd F.GUG_CTL.LEVEL) src (ceilDiv src.length 65536)))
    if f.1 < min out.length (room - 12) && !(g.form && g.out = src) then some f else none)
  match wrong with
  | some f => (3, out.take (f.1 + 1))
  | none =>
    if room < 12 + out.length then (2, out.take (room - 12))
    else if k < ceilDiv src.length 65536 then (1, out)
    else (0, out)

/-- ENABLE written 1; held while DISABLING (R91). -/
def execGugEnable (m : Master) (s : State) : Host.Outcome State Fault Refusal :=
  done (s.gated m 0x50000 (fun s =>
    let s := s.set1 F.GUG_CTL.ENABLE
    if s.rd F.GUG_STATUS.STATE = 2 then s.set1 F.GUG_STATUS.PENDING_ENABLE else s))

/-- The compressor disabled: a job stops at once and its output is undefined (R91). `written` is how many bytes
after the reserved header had been written. -/
def State.gugDisable (s : State) (written : Nat) : State :=
  let s := (s.clr F.GUG_CTL.ENABLE).clr F.GUG_STATUS.PENDING_ENABLE
  if s.rd F.GUG_STATUS.STATE = 1 then
    let b := s.freeBytes written
    (b.2.gugWrite (gugAfterHeader s.gugBuffers) b.1).wr F.GUG_STATUS.STATE 2
  else s

/-- ENABLE written 0 (R91). -/
def execGugDisable (m : Master) (written : Nat) (s : State) : Host.Outcome State Fault Refusal :=
  done (s.gated m 0x50000 (fun s => s.gugDisable written))

/-- GO written: the list is read, and the job starts or stops on a bad source or list (R88). DESIGN CHOICE (log 168): R196
calls an access at the fitted size or above a configuration fault and names no code; the job stops with SRC_FAULT or
LIST_FAULT. DESIGN CHOICE (log 166): a list in poison is used as it is read. -/
def execGugGo (m : Master) (s : State) : Host.Outcome State Fault Refusal :=
  done (s.gated m 0x50000 (fun s =>
    if !s.bit F.GUG_CTL.ENABLE || s.rd F.GUG_STATUS.STATE ≠ 0 then s
    else if s.gugSrcBad then s.gugStop 1
    else if s.gugListBad then s.gugStop 4
    else
      let s := if s.bit F.GUG_JOB_LIST.SPACE then s
        else s.unitRead 25 (s.rd F.GUG_JOB_LIST.ADDR * 16) (s.rd F.GUG_JOB_LIST.COUNT * 16) 1
      ((s.wr F.GUG_STATUS.STATE 1).wr F.GUG_OUT_LEN.BYTES 0).wr F.GUG_OUT_BUFS.USED 0))

/-- The job ends; `flaw` is a byte that came out wrong, with its place after the reserved header. The header is written where
the stream is whole and right (R88 to R90, Table 8-3). -/
def execGugJobComplete (flaw : Option (Nat × Byte)) (s : State) : Host.Outcome State Fault Refusal :=
  if s.rd F.GUG_STATUS.STATE ≠ 1 then done s
  else
    let bufs := s.gugBuffers
    let head := gugHead s.gugSource
    let s := if s.gugSpace = 0 then s.unitRead 25 s.gugFrom s.gugLen 1 else s
    let end_ := s.gugEnd (bufs.map (fun b => b.2.1)).sum flaw
    let err := end_.1
    let len := 12 + end_.2.length
    let fill := gugFill bufs len
    let s := s.gugWrite bufs ((if err = 0 then head else leBytes 12 0) ++ end_.2)
    let s := ((s.wr F.GUG_OUT_LEN.BYTES len).wr F.GUG_OUT_BUFS.USED fill.1).wr F.GUG_OUT_BUFS.LAST_FILL fill.2
    if err = 0 then done (((s.wr F.GUG_STATUS.STATE 0).set1 F.GUG_STATUS.DONE).gugIrq)
    else done ((if err = 3 then s.incSat F.GUG_STATUS.SELF_CHECK_FAILS else s).gugStop err)

/-- The writes of a disabling compressor complete: it is idle, or a held enable is applied (R91). -/
def execGugDrainComplete (s : State) : Host.Outcome State Fault Refusal :=
  done (if s.rd F.GUG_STATUS.STATE = 2 then (s.wr F.GUG_STATUS.STATE 0).clr F.GUG_STATUS.PENDING_ENABLE else s)

/-- A write of any 1 to ERR clears the field and leaves STOPPED (GUG_STATUS). -/
def execGugErrClear (m : Master) (bits : Fin 16) (s : State) : Host.Outcome State Fault Refusal :=
  done (s.gated m 0x50008 (fun s =>
    if bits.val = 0 then s
    else
      let s := s.wr F.GUG_STATUS.ERR 0
      (if s.rd F.GUG_STATUS.STATE = 3 then s.wr F.GUG_STATUS.STATE 0 else s).settleSources F.GUG_STATUS.DONE.off))

end Sys2Proof.Machine
end

