-- ==== Sys2Proof/Machine/Intake.lean ====
section
/-! DEFINITION. The host link, ring set-up, submission rings and host-bound queues (R30 to R44, R66, R83,
R407). -/
namespace Sys2Proof.Machine

/-! ### Ring set-up -/

/-- Whether a leaf is in progress: armed, running, paused or ending. -/
def State.leafRunning (s : State) : Bool := s.rd F.SLT_STATUS.STATE ≠ 0

/-- Whether any submission ring is enabled. -/
def State.anyRing (s : State) : Bool := (List.range 4).any (fun n => s.bit (F.HIF_SQ_CTL.ENABLE n))

/-- The set-up doorbell: the upper-half write starts the set-up, or it is refused with SETUP_BUSY (R36). DESIGN CHOICE
(log 115): for a doorbell while a set-up is in progress, R36 names no outcome; CAUSE takes 1 and STATE stays 1, so the
set-up in progress still ends and reports. -/
def execSetupDoorbell (m : Master) (w : BusWidth) (v : Word) (s : State) : Host.Outcome State Fault Refusal :=
  done (s.gated m 0x20010 (fun s =>
    let s := s.setReg 0x20010 (s.staged 0x20010 w v)
    if s.leafRunning || s.anyRing || s.rd F.HIF_SETUP_STATUS.STATE = 1 then
      if s.rd F.HIF_SETUP_STATUS.STATE = 1 then s.wr F.HIF_SETUP_STATUS.CAUSE 1
      else (s.wr F.HIF_SETUP_STATUS.STATE 3).wr F.HIF_SETUP_STATUS.CAUSE 1
    else ((s.wr F.HIF_SETUP_STATUS.STATE 1).wr F.HIF_SETUP_STATUS.CAUSE 0).source 20))

/-- A ring of the set-up record programmed: its HEAD and TAIL start at 0. DESIGN CHOICE (log 116): R36 gives no start value
of the indices, and Table 2-3 says that a zero base disables rings 1 to 3; here it disables ring 0 too. DESIGN CHOICE
(log 136): ERR of channels 0 to 3 is read-only to every master, and nothing says how a ring's channel leaves STOPPED; a
set-up leaves it IDLE. -/
def State.setRing (s : State) (rec : List Byte) (n : Nat) : State :=
  let base := fieldAt rec (8 * n) 8
  let lg := fieldAt rec 32 2 / 16 ^ n % 16
  let s := s.setReg (0x20100 + 0x20 * n) (BitVec.ofNat 64 (base / 4096 * 4096))
  let s := (s.wr (F.HIF_SQ_CTL.LOG2 n) lg).wrBit (F.HIF_SQ_CTL.ENABLE n) (base ≠ 0 && 6 ≤ lg && lg ≤ 14)
  let s := (s.wr (F.HIF_SQ_HEAD.HEAD n) 0).wr (F.HIF_SQ_TAIL.TAIL n) 0
  if s.rd (F.DMA_CH_STATUS.STATE n) = 3 then (s.wr (F.DMA_CH_STATUS.STATE n) 0).wr (F.DMA_CH_STATUS.ERR n) 0 else s

/-- A host-bound queue of the set-up record programmed: its indices start at 0 with phase 1. DESIGN CHOICE (log 116): a zero
base leaves the queue disabled. -/
def State.setQueue (s : State) (rec : List Byte) (q : Nat) : State :=
  let base := fieldAt rec (40 + 8 * q) 8
  let lg := fieldAt rec 36 1 / 16 ^ q % 16
  let s := s.setReg (0x20200 + 0x20 * q) (BitVec.ofNat 64 (base / 4096 * 4096))
  let s := (s.wr (F.HIF_HQ_CTL.LOG2 q) lg).wrBit (F.HIF_HQ_CTL.ENABLE q) (base ≠ 0 && 6 ≤ lg && lg ≤ 14)
  ((s.wr (F.HIF_HQ_HEAD.HEAD q) 0).wr (F.HIF_HQ_TAIL.TAIL q) 0).wr (F.HIF_HQ_TAIL.PHASE q) 1

/-- The set-up record arrives, or its fetch fails: the rings and queues are programmed, and one RETIRED entry is
written for each stored leaf (R32, R36). SETUP_BUSY is judged when the doorbell arrives, not here. -/
def execSetupRecordFetched (record : Option (List Byte)) (s : State) : Host.Outcome State Fault Refusal :=
  let refuse := fun c => ((s.wr F.HIF_SETUP_STATUS.STATE 3).wr F.HIF_SETUP_STATUS.CAUSE c).settleSources 0x20300
  if s.rd F.HIF_SETUP_STATUS.STATE ≠ 1 then done s
  else match record with
    | none => done (refuse 3)
    | some rec =>
      if fieldAt rec 60 196 ≠ 0 || rec.length ≠ 256 then done (refuse 2)
      else
        let s := (List.range 4).foldl (fun s n => s.setRing rec n) s
        let s := (s.setQueue rec 0).setQueue rec 1
        let s := (s.wr (F.HIF_HQ_CTL.MOD_COUNT 0) (fieldAt rec 56 1)).wr (F.HIF_HQ_CTL.MOD_DELAY 0) (fieldAt rec 57 2)
        let s := { s with hif := { s.hif with used0 := 0, used1 := 0, modCount := 0 } }
        let s := ((s.wr F.HIF_SETUP_STATUS.STATE 2).wr F.HIF_SETUP_STATUS.CAUSE 0).settleSources 0x20300
        done ((s.retire 0).retire 1)

/-! ### The link -/

/-- A fetch that ends without its data counts as never made: a block that was being re-fetched waits for its re-fetch again,
and a block of which no copy came is forgotten (R32). -/
def Blk.unfetched (b : Blk) : Option Blk :=
  if b.state ≠ .fetching then some b
  else if b.wasStored then some { b with state := .checkFailed }
  else if b.outstanding then some { b with state := .awaited }
  else none

/-- The fetches of the leaf in a place end (R32). DESIGN CHOICE (log 155): R32 does not say whether a leaf of which no block
is left keeps its place; it keeps it. -/
def State.fetchesEnd (s : State) (p : Nat) : State :=
  match s.leafAt p with
  | some l => s.setLeaf p { l with blocks := l.blocks.filterMap Blk.unfetched }
  | none => s

/-- The first withdrawn page that a range of DDR5 touches (R206). -/
def State.withdrawnIn (s : State) (a n : Nat) : Option Nat :=
  (List.range 256).findSome? (fun i =>
    let pg := s.rd (F.MEM_WITHDRAWN.PAGE i)
    if s.bit (F.MEM_WITHDRAWN.VALID i) && pg * 4096 < a + n && a < pg * 4096 + 4096 then some pg else none)

/-- From a place on, the first one of `n` bytes in a pool that touches no withdrawn page; the pool's end leads back to its
start. -/
def State.poolPlace (s : State) (base top n : Nat) : Nat → Nat → Nat
  | 0, a => a
  | fuel + 1, a =>
    if top < a + n then s.poolPlace base top n fuel base
    else match s.withdrawnIn a n with
      | none => a
      | some pg => s.poolPlace base top n fuel ((pg + 1) * 4096)

/-- A place for a block of `n` bytes in the Folio store's pool: below the fitted size of the map in force, and clear of withdrawn
pages (R206, R306). DESIGN CHOICE (log 117): the allocator is not described; where it starts to look is a free value. -/
def State.storePlace (s : State) (n : Nat) : Nat × State :=
  let (v, s) := s.takeFree
  match s.boot.regions.find? (fun r => r.1 = 1 && r.2.2.1 < s.fitted) with
  | none => (v, s)
  | some r =>
    let base := r.2.2.1
    let top := min (base + r.2.2.2) s.fitted
    (s.poolPlace base top n 600 (base + v % ((top - base) / 64 + 1) * 64), s)

/-- The program that the ring engine writes into channel n for a block read (R45, R46). DESIGN CHOICE (log 117): the
specification gives no program; the block is read as bursts of 64 bytes in one inner loop. -/
def ringProg (e : SqEntry) (dst : Nat) : DmaProg :=
  ⟨BitVec.ofNat 64 e.addr, BitVec.ofNat 64 dst, BitVec.ofNat 64 (64 + 2 ^ 20), BitVec.ofNat 64 (e.len / 64 - 1),
    BitVec.ofNat 64 (64 + 64 * 2 ^ 32), 0, 0, 0, 0⟩

/-- The ring engine programs its channel with a block read and starts it (R45). -/
def State.ringStart (s : State) (n : Nat) (e : SqEntry) : State :=
  let (dst, s) := s.storePlace e.len
  let p := ringProg e dst
  let base := 0x30000 + 0x100 * n
  let s := [(0x10, p.src), (0x18, p.dst), (0x20, p.len), (0x28, p.count), (0x30, p.stride1)].foldl
    (fun s (x : Nat × Word) => s.setReg (base + x.1) x.2) s
  let s := s.setChan n { dmaChZero with committed := p, active := p, going := true }
  (s.wr (F.DMA_CH_STATUS.STATE n) 1).set1 (F.DMA_CH_CTL.ENABLE n)

/-- A ring's channel has no block read left: its program is done (R45, R50). -/
def State.ringSettle (s : State) (n : Nat) : State :=
  if s.rd (F.DMA_CH_STATUS.STATE n) = 1 && !s.hif.fetching.any (fun e => e.1 = n) then s.dmaDone n else s

/-- Link-down under R32: rings and host queues are disabled, unread entries, held completions and blocks in
flight are discarded. Re-fetch requests are kept. -/
def State.linkLost (s : State) : State :=
  let s := (s.ringsOff.fetchesEnd 0).fetchesEnd 1
  let s := (List.range 4).foldl State.ringSettle { s with hif := { s.hif with fetching := [] } }
  let s := { s with hif := { s.hif with mask := BitVec.allOnes 64, pba := 0 } }
  s.intake F.HIF_INTAKE_STATUS.LINK_LOST

/-- A hot reset, link disable, surprise link-down (`down`) or a clearing of Bus Master Enable (R32). -/
def execPcieLinkReset (down bme : Bool) (s : State) : Host.Outcome State Fault Refusal :=
  let s := s.linkLost
  let s := s.wrBit F.HIF_LINK_STATUS.BME (bme && !down)
  done (if down then s.linkRuns 0 0 else s)

/-- Whether the endpoint answers configuration requests with Request Retry Status: until step 5 of BOOT ends (R303). -/
def State.configRetry (s : State) : Bool := s.mode = 0 || (s.mode = 1 && !s.locked)

/-- The link trains at a rate and width: at 2.5 GT/s until the catalogue is locked, then up to HIF_LINK_LIMIT, and at 2.5 GT/s
x1 in STORAGE. It is down in OFF. A training that fails gives a rate or width of 0 and is logged; DESIGN CHOICE (log 156): as
Table 15-8 has no event for it, the log is a count (R30, R32, R303, Table 13-1). -/
def execPcieLinkTrained (speed : Fin 8) (width : Nat) (ltssm : Fin 64) (bme : Bool) (s : State) :
    Host.Outcome State Fault Refusal :=
  if s.mode = 0 then done s
  else if speed.val = 0 || width = 0 then done { s with hif := { s.hif with trainFails := s.hif.trainFails + 1 } }
  else
    let sp := if s.mode = 4 || s.configRetry then 1 else min speed.val (s.rd F.HIF_LINK_LIMIT.MAX_SPEED)
    let wd := if s.mode = 4 then 1 else min width (s.rd F.HIF_LINK_LIMIT.MAX_WIDTH)
    done (((s.linkRuns sp wd).wr F.HIF_LINK_STATUS.LTSSM ltssm).wrBit F.HIF_LINK_STATUS.BME bme)

/-- A fatal error is treated as link-down (R34). -/
def execPcieFatalError (s : State) : Host.Outcome State Fault Refusal :=
  let s := (s.aerReport 4).linkLost
  done ((s.clr F.HIF_LINK_STATUS.BME).linkRuns 0 0)

/-- A correctable link error is counted in bucket 3 (R34, Table 14-6). -/
def execPcieCorrectableError (s : State) : Host.Outcome State Fault Refusal :=
  done ((s.aerReport 0).bucketReport 3 0)

/-- An unexpected completion or unsupported request is logged by AER (R34). -/
def execUnexpectedCompletion (s : State) : Host.Outcome State Fault Refusal :=
  done (s.aerReport 3)

/-- The release of PERST_N: the endpoint starts link training at 2.5 GT/s (R303). -/
def execPerstRelease (s : State) : Host.Outcome State Fault Refusal :=
  done { s.wr F.HIF_LINK_STATUS.LTSSM 1 with hif := { s.hif with training := true } }

/-! ### Submission -/

/-- The host advances a ring; a doorbell written while the ring is disabled is discarded (R32, R37). DESIGN CHOICE (log 157):
R37 says nothing of a value of 2^LOG2 or more; it is stored, and HEAD wraps round without meeting it. -/
def execSqTailDoorbell (m : Master) (n : Fin 4) (tail : Nat) (s : State) : Host.Outcome State Fault Refusal :=
  done (s.gated m (0x20110 + 0x20 * n) (fun s =>
    if s.bit (F.HIF_SQ_CTL.ENABLE n) then s.wr (F.HIF_SQ_TAIL.TAIL n) tail else s))

/-- Whether an entry breaks R37. -/
def entryBad (e : List Byte) : Bool :=
  let len := fieldAt e 8 4
  let fl := fieldAt e 20 4
  8 ≤ fl || fieldAt e 24 8 ≠ 0 || len % 64 ≠ 0 || len < 64 || 4194304 < len || fieldAt e 0 8 % 64 ≠ 0
    || (fl / 2 % 2 = 1) ≠ (fieldAt e 12 4 = 0)

/-- The fields of an entry (Table 2-4). -/
def entryOf (e : List Byte) : SqEntry :=
  let fl := fieldAt e 20 4
  ⟨fieldAt e 0 8, fieldAt e 8 4, fieldAt e 12 4, fieldAt e 16 2, fieldAt e 18 2, fl % 2 = 1, fl / 2 % 2 = 1,
    fl / 4 % 2 = 1⟩

/-- Where an entry belongs (R66). -/
inductive Assign where
  | place (p : Nat)
  | opens
  | ended
  deriving DecidableEq, Repr

/-- The place that holds an identifier. DESIGN CHOICE (log 118): until a new FIRST leaf is refused with cause 1, both places
can hold one identifier, and R66 does not say to which of them another entry belongs; place 0 is taken first. -/
def State.holds (s : State) (id : Nat) (test : Leaf → Bool) : Option Nat :=
  [0, 1].find? (fun p => match s.leafAt p with
    | some l => l.id = id && test l
    | none => false)

/-- Whether the FIRST block of a leaf has been stored. -/
def firstStored (l : Leaf) : Bool := 0 < l.nextSeq || (l.blk 0).any (·.wasStored)

/-- An entry with REFETCH set counts as one with REFETCH clear unless a re-fetch of its SEQ is outstanding (R83). -/
def State.asSubmitted (s : State) (e : SqEntry) : SqEntry :=
  { e with refetch := e.refetch && (s.holds e.leaf (fun l => (l.blk e.seq).any (·.outstanding))).isSome }

/-- The assignment of an entry to a leaf (R66). -/
def State.assign (s : State) (e : SqEntry) : Assign :=
  if e.first && !e.refetch then
    match s.holds e.leaf (fun l => !firstStored l) with
    | some p => .place p
    | none => .opens
  else match s.holds e.leaf (fun _ => true) with
    | some p => .place p
    | none => if s.fol.ended.contains e.leaf then .ended else .opens

/-- Whether a submission is treated as a duplicate (R83). -/
def isDuplicate (l : Leaf) (e : SqEntry) : Bool :=
  e.seq < l.nextSeq ||
    match l.blk e.seq with
    | none => false
    | some b =>
      match b.state with
      | .fetching => true
      | .stored => true
      | .good => true
      | .passed => true
      | .recordsFailed => false
      | .checkFailed => false
      | .headerFailed => false
      | .awaited => false

/-- A block of which nothing is known but its submission. -/
def blkNew (ring : Nat) (e : SqEntry) : Blk :=
  { seq := e.seq, tag := e.tag, subTag := e.tag, ring := ring, first := e.first, last := e.last, state := .fetching,
    data := [], poison := 0, refetches := 0, outstanding := false, wasStored := false, byRefetch := false,
    trusted := false, rejected := [], firstRow := 0, lastRow := 0, continues := false, counted := false }

/-- The fetch of an entry's block starts in a place: a re-fetch keeps the tag of the original submission (R42). -/
def State.startFetch (s : State) (p ring : Nat) (l : Leaf) (e : SqEntry) : State :=
  let b : Blk := match l.blk e.seq with
    | some b => { b with
        tag := if e.refetch then b.tag else e.tag, subTag := e.tag, ring := ring, first := e.first, last := e.last,
        state := .fetching, byRefetch := e.refetch }
    | none => blkNew ring e
  let s := s.setLeaf p (l.putBlk b)
  ({ s with hif := { s.hif with fetching := s.hif.fetching ++ [(ring, p, e)] } }.ringStart ring e).folShow

/-- A re-fetched block whose rows were already marked missing is fetched, stored and then discarded (R83). -/
def lateRefetch (l : Leaf) (e : SqEntry) : Bool :=
  e.refetch && e.seq < l.nextSeq && (l.blk e.seq).any (fun b => b.outstanding && b.state ≠ .fetching)

/-- The ring engine reads the entry at the head of a ring, assigns it and fetches or completes it. It waits
while the ring is disabled or empty, while its channel is STOPPED, while R41 holds reading, at an entry for a third leaf,
and at one for a new leaf before power-down or RUN (R37, R41, R53, R66, R83, R308, R318). DESIGN CHOICE (log 158): R41 says
both that reading stops when the completion queue is full and that it stops while the sum stands at 256; the sum decides
here, so the engine reads on with a full queue until it is reached. -/
def execSubmissionEntryRead (n : Fin 4) (entry : List Byte) (s : State) : Host.Outcome State Fault Refusal :=
  let head := s.rd (F.HIF_SQ_HEAD.HEAD n)
  let next := (head + 1) % 2 ^ s.rd (F.HIF_SQ_CTL.LOG2 n)
  if !s.bit (F.HIF_SQ_CTL.ENABLE n) || s.rd (F.HIF_SQ_CTL.LOG2 n) < 6 || 14 < s.rd (F.HIF_SQ_CTL.LOG2 n)
      || head = s.rd (F.HIF_SQ_TAIL.TAIL n) || s.mode = 4 || s.mode = 5 || s.rd (F.DMA_CH_STATUS.STATE n) = 3 then done s
  else if 256 ≤ s.intakeCount then done (s.intake F.HIF_INTAKE_STATUS.CQ_STALL)
  else
    let e := s.asSubmitted (entryOf entry)
    let adv := s.wr (F.HIF_SQ_HEAD.HEAD n) next
    if entryBad entry then
      done ((adv.completeEntry n e.tag e.leaf e.seq 0x10).intake F.HIF_INTAKE_STATUS.FORMAT)
    else match s.assign e with
      | .ended => done (adv.completeEntry n e.tag e.leaf e.seq 0x13)
      | .place p =>
        match s.leafAt p with
        | none => done s
        | some l =>
          if isDuplicate l e && !lateRefetch l e then done (adv.completeEntry n e.tag e.leaf e.seq 0x12)
          else done (adv.startFetch p n l e)
      | .opens =>
        if s.holdsLeaves then done s
        else if 254 ≤ s.intakeCount then done (s.intake F.HIF_INTAKE_STATUS.CQ_STALL)
        else match [0, 1].find? (fun p => (s.leafAt p).isNone) with
        | none => done s
        | some p =>
          let adv := { adv with fol := { adv.fol with ended := adv.fol.ended.filter (· ≠ e.leaf) } }
          done (adv.startFetch p n (leafNew e.leaf) e)

/-- The entry that is being fetched for a block, removed from those in flight. -/
def State.endFetch (s : State) (p seq : Nat) : Option ((Nat × Nat × SqEntry) × State) :=
  match s.hif.fetching.find? (fun e => e.2.1 = p && e.2.2.seq = seq) with
  | none => none
  | some e =>
    some (e, { s with hif := { s.hif with fetching := s.hif.fetching.filter (fun x => x ≠ e) } }.ringSettle e.1)

/-- The LEN bytes of a block from the data of its completions (R56). -/
def blockBytes (len : Nat) (data : List Byte) : List Byte := (data ++ List.replicate (len - data.length) 0#8).take len

/-- A block written to the Folio store: STORED is queued (R44). A re-fetched block whose rows were marked missing
is then discarded (R83). -/
def State.storeBlock (s : State) (p seq : Nat) (data : List Byte) (poison : Nat) : State :=
  match s.endFetch p seq, s.leafAt p with
  | some (e, s1), some l =>
    let s2 := s1.completeEntry e.1 e.2.2.tag e.2.2.leaf seq 0x01
    match l.blk seq with
    | none => s2
    | some b =>
      if seq < l.nextSeq then s2.setLeaf p (l.dropBlk seq)
      else s2.setLeaf p (l.putBlk { b with
        state := .stored, data := blockBytes e.2.2.len data, poison := poison, outstanding := false, wasStored := true })
  | _, _ => s

/-- Whether the channel that fetches a block is STOPPED: no further burst of it is issued (R53). -/
def State.ringStopped (s : State) (p seq : Nat) : Bool :=
  s.hif.fetching.any (fun e => e.2.1 = p && e.2.2.seq = seq && s.rd (F.DMA_CH_STATUS.STATE e.1) = 3)

/-- The last completion of a block read arrives (R44). -/
def execBlockDataReceived (p : Fin 2) (seq : Nat) (data : List Byte) (s : State) :
    Host.Outcome State Fault Refusal :=
  done (if s.ringStopped p seq then s else (s.storeBlock p seq data 0).folShow)

/-- A poisoned completion: the data is stored with the mark and the block is reported for re-fetch with
RX_POISON (R35). -/
def execPoisonedCompletion (p : Fin 2) (seq : Nat) (data : List Byte) (s : State) :
    Host.Outcome State Fault Refusal :=
  if (s.endFetch p seq).isNone || s.ringStopped p seq then done s
  else
    let s := ((s.aerReport 1).storeBlock p seq data 1).intake F.HIF_INTAKE_STATUS.RX_POISON
    match s.leafAt p with
    | none => done s
    | some l =>
      match l.blk seq with
      | some b => done (if seq < l.nextSeq then s else (s.checkFail p l b).folShow)
      | none => done s

/-- No completion within CPL_TIMEOUT: a block read of channels 0 to 3 is requested again with HOST_TIMEOUT, a
read of another channel stops it with BUS_TIMEOUT, and what it has read goes to its destination with the poison mark
(R34, R53). DESIGN CHOICE (log 159): a re-fetch that ends so has not failed under R82, which speaks of a block that fails by
check value; it does not count toward REFETCH_LIMIT. -/
def execCompletionTimeout (k : Fin 16) (p : Fin 2) (read : LostRead) (s : State) :
    Host.Outcome State Fault Refusal :=
  if 4 ≤ k.val then
    done (if s.rd (F.DMA_CH_STATUS.STATE k) = 1 then (s.aerReport 2).dmaTimeout k read.data else s)
  else match s.endFetch p read.seq, s.leafAt p with
    | some (_, s1), some l =>
      let s2 := (s1.aerReport 2).intake F.HIF_INTAKE_STATUS.HOST_TIMEOUT
      (match l.blk read.seq with
        | none => done s2
        | some b =>
          let (s3, kept) := s2.refetch l.id b.tag read.seq 4
          let st : BlkState := if b.wasStored then .checkFailed else .awaited
          done (s3.setLeaf p (l.putBlk { b with state := st, outstanding := kept })))
    | _, _ => done s

/-- A ring's channel stops on a fabric timeout. What it has read of the block in hand is written to the store with the poison
mark, where stage 1 of R58 finds it. DESIGN CHOICE (log 136): the block counts as stored, since R53 asks for the write and
names no other end of its fetch; the further blocks of the ring wait for their data, which does not come. -/
def State.ringTimeout (s : State) (k : Nat) (readData : List Byte) : State :=
  match s.hif.fetching.find? (fun e => e.1 = k) with
  | some e => (if readData.isEmpty then s else s.storeBlock e.2.1 e.2.2.seq readData 2).dmaStop k 3
  | none => s.dmaStop k 3

/-- A descriptor fetch, read or write of space 0 or 2 gets no response within the fabric timeout: the channel stops, and
MEM_ERR shows the timeout (R53, R212). -/
def execDmaBusTimeout (k : Fin 16) (readData : List Byte) (s : State) : Host.Outcome State Fault Refusal :=
  if s.rd (F.DMA_CH_STATUS.STATE k) ≠ 1 then done s
  else done ((if k.val < 4 then (s.ringTimeout k readData).folShow else s.dmaTimeout k readData).set1
    F.MEM_ERR.FABRIC_TIMEOUT)

/-! ### Host-bound queues -/

/-- Entries of a host-bound queue. -/
def State.hqSize (s : State) (q : Nat) : Nat := 2 ^ s.rd (F.HIF_HQ_CTL.LOG2 q)

/-- Entries written and not freed. -/
def State.hqUsed (s : State) (q : Nat) : Nat := if q = 0 then s.hif.used0 else s.hif.used1

/-- The count of entries replaced. -/
def State.setUsed (s : State) (q n : Nat) : State :=
  if q = 0 then { s with hif := { s.hif with used0 := n } } else { s with hif := { s.hif with used1 := n } }

/-- Whether a queue can take an entry. -/
def State.hqRoom (s : State) (q : Nat) : Bool :=
  s.bit (F.HIF_HQ_CTL.ENABLE q) && 6 ≤ s.rd (F.HIF_HQ_CTL.LOG2 q) && s.rd (F.HIF_HQ_CTL.LOG2 q) ≤ 14
    && s.hqUsed q < s.hqSize q

/-- An entry written at the tail, which then moves past it; the phase inverts on each wrap (R39). -/
def State.hqPut (s : State) (q size : Nat) (bytes : Bool → List Byte) : State :=
  let tail := s.rd (F.HIF_HQ_TAIL.TAIL q)
  let phase := s.bit (F.HIF_HQ_TAIL.PHASE q)
  let s := s.hostWrite (s.rd (F.HIF_HQ_BASE.BASE q) * 4096 + tail * size) (bytes phase) false
  let next := (tail + 1) % s.hqSize q
  let s := s.wr (F.HIF_HQ_TAIL.TAIL q) next
  let s := if next = 0 then s.wrBit (F.HIF_HQ_TAIL.PHASE q) (!phase) else s
  s.setUsed q (s.hqUsed q + 1)

/-- The bytes of a completion entry (Table 2-5). -/
def Completion.bytes (c : Completion) (phase : Bool) : List Byte :=
  leBytes 2 c.tag ++ leBytes 2 c.leaf ++ leBytes 4 c.seq ++ leBytes 1 c.status
    ++ leBytes 1 (c.ring + if phase then 128 else 0) ++ leBytes 2 c.timeS ++ leBytes 4 c.timeNs

/-- The bytes of a re-fetch request with its DEADLINE; 0xFFFF_FFFF_FFFF where none exists (R80, Table 2-7). -/
def RefetchReq.bytes (r : RefetchReq) (deadline : Option (Nat × Nat)) (phase : Bool) : List Byte :=
  let dl := deadline.getD (0xFFFF, 0xFFFFFFFF)
  leBytes 2 r.leaf ++ leBytes 2 r.tag ++ leBytes 4 r.seq ++ leBytes 1 r.reason
    ++ leBytes 1 (if phase then 128 else 0) ++ leBytes 6 0 ++ leBytes 2 (dl.1 % 65536) ++ leBytes 4 dl.2 ++ leBytes 10 0

/-- The oldest held completion is written to the host queue when it has room; the vector follows after MOD_COUNT
entries (R39, R41, R44). -/
def execCompletionPosted (s : State) : Host.Outcome State Fault Refusal :=
  match s.hif.held with
  | [] => done s
  | c :: cs =>
    if !s.hqRoom 0 then done s
    else
      let s := (s.hqPut 0 16 c.bytes)
      let n := s.hif.modCount + 1
      let s := { s with hif := { s.hif with held := cs, modCount := n } }
      done (if s.rd (F.HIF_HQ_CTL.MOD_COUNT 0) ≤ n
        then { s with hif := { s.hif with modCount := 0 } }.vector 0 else s)

/-- 100 µs after the earliest unreported advance a RETIRED entry is written (R40). -/
def execRetiredTimerExpiry (p : Fin 2) (s : State) : Host.Outcome State Fault Refusal :=
  match s.leafAt p with
  | none => done s
  | some l => done (if l.reported < l.nextSeq then s.retire p else s)

/-- The host frees queue entries, or the write is ignored with HEAD_INVALID (R407). -/
def execHqHeadWrite (m : Master) (q : Fin 2) (head : Nat) (s : State) : Host.Outcome State Fault Refusal :=
  done (s.gated m (0x20210 + 0x20 * q) (fun s =>
    let size := s.hqSize q
    let old := s.rd (F.HIF_HQ_HEAD.HEAD q)
    let freed := (head + size - old) % size
    if head < size && freed ≤ s.hqUsed q then
      (s.wr (F.HIF_HQ_HEAD.HEAD q) head).setUsed q (s.hqUsed q - freed)
    else s.intake F.HIF_INTAKE_STATUS.HEAD_INVALID))

/-- The oldest held re-fetch request is written to the host queue when it has room, with the deadline as it is predicted
now (R32, R42, R43, R80). -/
def execRefetchRequestPosted (s : State) : Host.Outcome State Fault Refusal :=
  match s.hif.rfqHeld with
  | [] => done s
  | r :: rs =>
    if !s.hqRoom 1 then done s
    else
      let s := s.hqPut 1 32 (r.bytes (s.requestDeadline r))
      done ({ s with hif := { s.hif with rfqHeld := rs } }.vector 1)

/-- A vector that is due is sent, or kept pending while it is masked (R33). -/
def execMsixSend (v : Fin 64) (s : State) : Host.Outcome State Fault Refusal :=
  let b := bit64 v
  if s.hif.due &&& b = 0 then done s
  else if s.hif.mask &&& b = 0 then
    done { s with hif := { s.hif with
      due := s.hif.due &&& ~~~b
      sent := smSet (fun _ => 0) s.hif.sent v (smGet (fun _ => 0) s.hif.sent v + 1) } }
  else done { s with hif := { s.hif with due := s.hif.due &&& ~~~b, pba := s.hif.pba ||| b } }

/-- The latest-interrupt delay runs out: vector 0 announces the entries written (R44). -/
def execCqModDelayExpiry (s : State) : Host.Outcome State Fault Refusal :=
  done (if 0 < s.hif.modCount then { s with hif := { s.hif with modCount := 0 } }.vector 0 else s)

/-- The host unmasks a vector: a pending vector is sent (R33). -/
def execMsixUnmask (v : Fin 64) (s : State) : Host.Outcome State Fault Refusal :=
  let b := bit64 v
  let was := s.hif.pba &&& b ≠ 0
  let s := { s with hif := { s.hif with mask := s.hif.mask &&& ~~~b, pba := s.hif.pba &&& ~~~b } }
  done (if was then { s with hif := { s.hif with
    sent := smSet (fun _ => 0) s.hif.sent v (smGet (fun _ => 0) s.hif.sent v + 1) } } else s)

end Sys2Proof.Machine
end

