-- ==== Sys2Proof/Machine/SurveyOps.lean ====
section
/-! DEFINITION. The shared operations of the survey pipelines: pixels, merge groups, statistics and records (R220 to
R237). -/
namespace Sys2Proof.Machine

/-- A pipeline, and a pipeline replaced. -/
def State.pipe (s : State) (p : Nat) : SvyPipe := s.svy.getD p svyPipeNew
def State.setPipe (s : State) (p : Nat) (x : SvyPipe) : State := { s with svy := s.svy.set p x }
def State.onPipe (s : State) (p : Nat) (f : SvyPipe → SvyPipe) : State := s.setPipe p (f (s.pipe p))

/-- TB1 in nanoseconds. -/
def State.nowAll (s : State) : Nat := s.nowS * 1000000000 + s.nowNs

/-- The bits of a pixel, from DT (R221). -/
def State.svyBits (s : State) (p : Nat) : Nat :=
  match s.rd (F.SVY_P_CAM.DT p) with
  | 0x2B => 10
  | 0x2C => 12
  | _ => 14

/-- LAT and GUARD of R228, GUARD in nanoseconds. -/
def State.svyLat (s : State) (p : Nat) : Nat := s.rd (F.SVY_P_CAM.LAT p) + 1
def State.svyGuard (s : State) (p : Nat) : Nat := s.rd (F.SVY_P_I2C.GUARD p) * 10000

/-! ### Pixels -/

/-- Four RAW10 pixels in five bytes, two RAW12 pixels in three, four RAW14 pixels in seven, as CSI-2 packs them. -/
def unpack10 : List Byte → List Nat
  | a :: b :: c :: d :: e :: rest =>
    (a.toNat * 4 + e.toNat % 4) :: (b.toNat * 4 + e.toNat / 4 % 4) :: (c.toNat * 4 + e.toNat / 16 % 4)
      :: (d.toNat * 4 + e.toNat / 64) :: unpack10 rest
  | _ => []
def unpack12 : List Byte → List Nat
  | a :: b :: c :: rest => (a.toNat * 16 + c.toNat % 16) :: (b.toNat * 16 + c.toNat / 16) :: unpack12 rest
  | _ => []
def unpack14 : List Byte → List Nat
  | a :: b :: c :: d :: e :: f :: g :: rest =>
    let low := e.toNat + 256 * f.toNat + 65536 * g.toNat
    (a.toNat * 64 + low % 64) :: (b.toNat * 64 + low / 64 % 64) :: (c.toNat * 64 + low / 4096 % 64)
      :: (d.toNat * 64 + low / 262144) :: unpack14 rest
  | _ => []

/-- The pixels of a line. -/
def unpackLine (bits : Nat) (data : List Byte) : List Nat :=
  if bits = 10 then unpack10 data else if bits = 12 then unpack12 data else unpack14 data

/-- lt[k] of R230. -/
def State.svyLt (s : State) (p k : Nat) : Nat :=
  if k % 2 = 0 then s.rd (F.SVY_P_LIN.ENTRY0 p (k / 2)) else s.rd (F.SVY_P_LIN.ENTRY1 p (k / 2))

/-- BLACK, MERGE, SHIFT and SAT of the values in force. -/
def SvyPar.black (v : SvyPar) : Nat := (F.SVY_P_PROC.BLACK 0).get v.proc
def SvyPar.merge (v : SvyPar) : Nat := (F.SVY_P_PROC.MERGE 0).get v.proc
def SvyPar.shift (v : SvyPar) : Nat := (F.SVY_P_PROC.SHIFT 0).get v.proc
def SvyPar.sat (v : SvyPar) : Nat := (F.SVY_P_PROC.SAT 0).get v.proc

/-- ratio[i] of R231. -/
def SvyPar.ratioOf (v : SvyPar) (i : Nat) : Nat :=
  match i with
  | 0 => 256
  | 1 => (F.SVY_P_RATIO.RATIO1 0).get v.ratio
  | _ => (F.SVY_P_RATIO.RATIO2 0).get v.ratio

/-- The zone grid: origin, counts and sizes. -/
def SvyPar.x0 (v : SvyPar) : Nat := (F.SVY_P_ZONE.X0 0).get v.zone
def SvyPar.y0 (v : SvyPar) : Nat := (F.SVY_P_ZONE.Y0 0).get v.zone
def SvyPar.zx (v : SvyPar) : Nat := (F.SVY_P_ZONE.ZX 0).get v.zone + 1
def SvyPar.zy (v : SvyPar) : Nat := (F.SVY_P_ZONE.ZY 0).get v.zone + 1
def SvyPar.zw (v : SvyPar) : Nat := (F.SVY_P_ZONE.ZW 0).get v.zone + 1
def SvyPar.zh (v : SvyPar) : Nat := (F.SVY_P_ZONE.ZH 0).get v.zone + 1

/-- A pixel corrected (R230). -/
def State.svyLin (s : State) (p : Nat) (black bits raw : Nat) : Nat :=
  let p14 := raw * 2 ^ (14 - bits)
  let b := if black < p14 then p14 - black else 0
  let k := b / 4
  let f := b % 4
  let lo := s.svyLt p k
  let hi := if k = 4095 then s.svyLt p 4095 else s.svyLt p (k + 1)
  ((lo : Int) + rshr (((hi : Int) - lo) * f) 2).toNat % 65536

/-- A merged pixel and its saturation flag, from the corrected pixels of its phases (R231). -/
def mergePixel (v : SvyPar) (i : Nat) : List Nat → Nat × Bool
  | [] => (0, false)
  | l :: rest =>
    if l < v.sat || rest.isEmpty then ((rshr (l * v.ratioOf i) 8).toNat, decide (v.sat ≤ l))
    else mergePixel v (i + 1) rest

/-- Whether a pixel can serve as a neighbour of a defect (R232). -/
def availablePx (v : SvyPar) (width y : Nat) (x : Int) : Bool :=
  decide (0 ≤ x) && decide (x < width) && !v.defects.contains (y, x.toNat)

/-- The pixels named in the defect table replaced, in a line below a line already replaced (R232). -/
def defectLine (v : SvyPar) (y : Nat) (above : List (Nat × Bool)) (row : List (Nat × Bool)) : List (Nat × Bool) :=
  let width := row.length
  let at_ := fun (x : Int) => (row.getD x.toNat (0, false)).1
  row.zipIdx.map (fun c =>
    if !v.defects.contains (y, c.2) then c.1
    else
      let l := availablePx v width y ((c.2 : Int) - 1)
      let r := availablePx v width y ((c.2 : Int) + 1)
      let new :=
        if l && r then (rshr ((at_ ((c.2 : Int) - 1) + at_ ((c.2 : Int) + 1) : Nat)) 1).toNat
        else if l then at_ ((c.2 : Int) - 1)
        else if r then at_ ((c.2 : Int) + 1)
        else if y = 0 then 0
        else (above.getD c.2 (0, false)).1
      (new, c.1.2))

/-- The lines of a merged frame with its defects replaced, from line `y` on. -/
def defectRows (v : SvyPar) (y : Nat) (above : List (Nat × Bool)) : List (List (Nat × Bool)) → List (List (Nat × Bool))
  | [] => []
  | row :: rest =>
    let new := defectLine v y above row
    new :: defectRows v (y + 1) new rest

/-! ### Stored frames -/

/-- The DDR5 address of a frame's buffer (R236). -/
def State.frameBase (s : State) (p index : Nat) : Nat :=
  s.rd (F.SVY_P_FRAME_RING.BASE p) * 2 ^ 20
    + index % (s.rd (F.SVY_P_FRAME_RING.COUNT p) + 1) * (s.rd (F.SVY_P_FRAME_RING.STRIDE p) * 2 ^ 20)

/-- The lines of a frame in order, made up to HEIGHT with zeros (Table 9-1). -/
def State.frameRows (s : State) (p : Nat) (f : SvyFrame) : List (List Nat) :=
  let w := s.rd (F.SVY_P_CAM.WIDTH p)
  let h := s.rd (F.SVY_P_CAM.HEIGHT p)
  f.lines.reverse ++ List.replicate (h - f.lines.length) (List.replicate w 0)

/-- A frame written to its buffer by its pipeline, one u16 for each pixel (R208, R236). -/
def State.frameStore (s : State) (p : Nat) (f : SvyFrame) : State :=
  match f.index with
  | none => s
  | some i => s.unitWrite (26 + p) (s.frameBase p i) ((s.frameRows p f).flatten.flatMap (fun v => leBytes 2 v)) false

/-- A stored frame read back, line by line (R231). -/
def State.frameLoad (s : State) (p index : Nat) : List (List Nat) :=
  let w := s.rd (F.SVY_P_CAM.WIDTH p)
  (List.range (s.rd (F.SVY_P_CAM.HEIGHT p))).map (fun y =>
    let row := s.ddrRead (s.frameBase p index + 2 * w * y) (2 * w)
    (List.range w).map (fun x => fieldAt row (2 * x) 2))

/-- The accesses that read stored frames of a group back (R208, R231). -/
def State.frameReads (s : State) (p : Nat) (fs : List SvyFrame) : State :=
  fs.foldl (fun s f => match f.index with
    | none => s
    | some i => s.unitRead (26 + p) (s.frameBase p i) (2 * s.rd (F.SVY_P_CAM.WIDTH p) * s.rd (F.SVY_P_CAM.HEIGHT p)) 1) s

/-! ### Statistics -/

/-- The sums of one zone (R233): its 32 bytes (Table 9-4), and whether a pixel of it was saturated. -/
def zoneEntry (v : SvyPar) (rows : List (List (Nat × Bool))) (zx zy : Nat) : List Byte × Bool :=
  let xs := v.x0 + zx * v.zw
  let ys := v.y0 + zy * v.zh
  let px := ((rows.drop ys).take v.zh).zipIdx.flatMap (fun r =>
    ((r.1.drop xs).take v.zw).zipIdx.map (fun c => (c.2, r.2, c.1)))
  let sum := (px.map (fun e => e.2.2.1)).sum
  let mx := (px.map (fun e => e.1 * e.2.2.1)).sum
  let my := (px.map (fun e => e.2.1 * e.2.2.1)).sum
  let top := (px.map (fun e => e.2.2.1)).foldl max 0
  let sat := (px.filter (fun e => e.2.2.2)).length
  let n := v.zw * v.zh
  (leBytes 6 sum ++ leBytes 3 ((sum + n / 2) / n) ++ leBytes 3 top ++ leBytes 8 mx ++ leBytes 8 my ++ leBytes 4 sat,
    decide (0 < sat))

/-- The histogram over the whole grid, as 1,024 bins (R233). -/
def histogram (v : SvyPar) (rows : List (List (Nat × Bool))) : List Nat :=
  let px := ((rows.drop v.y0).take (v.zy * v.zh)).flatMap (fun r => ((r.drop v.x0).take (v.zx * v.zw)).map Prod.fst)
  let bins := px.map (fun x => min (x / 2 ^ v.shift) 1023)
  (List.range 1024).map (fun b => (bins.filter (· = b)).length)

/-- Nanoseconds of TB1 as the 8 bytes of a record (Table 9-3). -/
def sofBytes (t : Nat) : List Byte := leBytes 4 (t / 1000000000) ++ leBytes 4 (t % 1000000000)

/-- The record of a group whose last frame is `f`, the earlier ones being `early` (R231 to R235, Tables 9-3, 9-4). -/
def State.groupRecord (s : State) (p index : Nat) (early : List SvyFrame) (f : SvyFrame) : List Byte :=
  let all := early ++ [f]
  let head := all.headD f
  let v := head.par
  let bits := s.svyBits p
  let lin := fun (rows : List (List Nat)) => rows.map (fun r => r.map (s.svyLin p v.black bits))
  let frames := early.map (fun e => lin ((e.index.map (s.frameLoad p)).getD [])) ++ [lin (s.frameRows p f)]
  let w := s.rd (F.SVY_P_CAM.WIDTH p)
  let rows := (List.range (s.rd (F.SVY_P_CAM.HEIGHT p))).map (fun y =>
    let lines := frames.map (fun fr => fr.getD y [])
    (List.range w).map (fun x => mergePixel v 0 (lines.map (fun l => l.getD x 0))))
  let rows := defectRows v 0 [] rows
  let zones := (List.range v.zy).flatMap (fun zy => (List.range v.zx).map (fun zx => zoneEntry v rows zx zy))
  let sat := rows.any (fun r => r.any Prod.snd)
  let flags := (if all.any (·.uncertain) then 1 else 0) + (if all.any (·.bad) then 2 else 0)
    + (if 1 < all.length then 4 else 0) + (if sat then 8 else 0)
  let fnum := fun (i : Nat) => ((all[i]?).map SvyFrame.fnum).getD 0
  let b := leBytes 4 0x53565952 ++ leBytes 1 p ++ leBytes 1 flags ++ leBytes 2 ((head.tag.map SvyTag.number).getD 0)
    ++ leBytes 1 all.length ++ leBytes 3 0 ++ leBytes 4 index ++ leBytes 2 (fnum 0) ++ leBytes 2 (fnum 1)
    ++ leBytes 2 (fnum 2) ++ leBytes 2 0 ++ sofBytes head.sof ++ sofBytes f.sof ++ leBytes 1 v.zx ++ leBytes 1 v.zy
    ++ leBytes 2 v.zw ++ leBytes 2 v.zh ++ leBytes 2 v.x0 ++ leBytes 2 v.y0 ++ leBytes 2 0
    ++ leBytes 4 (head.index.getD 0xFFFFFFFF) ++ leBytes 1 v.shift ++ leBytes 1 0 ++ leBytes 2 v.defects.length
  let tail := (histogram v rows).flatMap (leBytes 4) ++ zones.flatMap Prod.fst
  b ++ leBytes 4 (crc32c (b ++ tail)) ++ tail

/-! ### Frames and groups -/

/-- A count of DROPPED with its flag. -/
def State.svyDrop (s : State) (p : Nat) (f : Field) : State := (s.set1 f).incSat (F.SVY_P_COUNTS.DROPPED p)

/-- The group in progress, or the run that the frame belongs to, is dropped: counted once for a run (R231). -/
def State.runDrop (s : State) (p : Nat) : State :=
  let x := s.pipe p
  let s := if x.run then s else s.svyDrop p (F.SVY_P_ERR.GROUP_DROP p)
  s.onPipe p (fun x => { x with group := [], run := true })

/-- Whether a frame can begin a group: phase 0 of a set whose PHASES equal the MERGE in force (R231). -/
def SvyFrame.begins (f : SvyFrame) : Bool :=
  match f.tag with
  | none => false
  | some t => t.phase = 0 && t.phases = f.par.merge

/-- Whether a frame continues the group in progress (R231). -/
def continuesGroup (g : List SvyFrame) (f : SvyFrame) : Bool :=
  match g.head?, f.tag with
  | some h, some t => (h.tag.map SvyTag.number) = some t.number && t.phase = g.length
  | _, _ => false

/-- A record of a whole group, or its loss when no slot is free (R235). -/
def State.groupDone (s : State) (p : Nat) (early : List SvyFrame) (f : SvyFrame) : State :=
  let x := s.pipe p
  let index := (s.rd (F.SVY_P_POS.REC_NEXT p) + x.recs.length) % 2 ^ 32
  let used := (index + 2 ^ 32 - s.rd (F.SVY_P_ACK.REC p)) % 2 ^ 32
  let s := s.onPipe p (fun x => { x with group := [] })
  if 2 ^ s.rd (F.SVY_P_REC_RING.LOG2 p) ≤ used then s.svyDrop p (F.SVY_P_ERR.REC_DROP p)
  else
    let s := s.frameReads p early
    s.onPipe p (fun x => { x with recs := x.recs ++ [⟨s.groupRecord p index early f, early ++ [f]⟩] })

/-- A frame joins the group that it belongs to (R231); a frame whose phase a late list holds drops its group (R227). -/
def State.groupTake (s : State) (p : Nat) (f : SvyFrame) : State :=
  if f.held then s.runDrop p else
  let g := (s.pipe p).group
  let merge := ((g.headD f).par.merge)
  let held := merge = 1 || f.index.isSome
  if !g.isEmpty && continuesGroup g f && held then
    if g.length + 1 = merge then s.groupDone p g f
    else s.onPipe p (fun x => { x with group := g ++ [{ f with lines := [] }] })
  else
    let s := if g.isEmpty then s else s.runDrop p
    if f.begins && (f.par.merge = 1 || f.index.isSome) then
      let s := s.onPipe p (fun x => { x with group := [], run := false })
      if f.par.merge = 1 then s.groupDone p [] f
      else s.onPipe p (fun x => { x with group := [{ f with lines := [] }] })
    else s.runDrop p

/-- The frame in progress closes: it is stored, counted and taken into its group (R223, R231, R236). -/
def State.frameClose (s : State) (p : Nat) (bad : Bool) : State :=
  match (s.pipe p).frame with
  | none => s
  | some f =>
    let f := { f with bad := f.bad || bad || f.surplus || f.lines.length ≠ s.rd (F.SVY_P_CAM.HEIGHT p) }
    let s := (s.onPipe p (fun x => { x with frame := none })).incSat (F.SVY_P_COUNTS.FRAMES p)
    let s := if f.bad then (s.set1 (F.SVY_P_ERR.FRAME_BAD p)).incSat (F.SVY_P_COUNTS.BAD p) else s
    (s.frameStore p f).groupTake p f

/-- The frame in progress is marked BAD. -/
def State.frameBad (s : State) (p : Nat) : State :=
  s.onPipe p (fun x => { x with frame := x.frame.map (fun f => { f with bad := true }) })

/-- Frames below this index are free: those acknowledged, but for the frames of a group in progress or of a record that
is being written (R236). -/
def State.frameFloor (s : State) (p : Nat) : Nat :=
  let x := s.pipe p
  let ack := s.rd (F.SVY_P_ACK.FRAME p)
  let next := s.rd (F.SVY_P_POS.FRAME_NEXT p)
  let back := fun (i : Nat) => (next + 2 ^ 32 - i) % 2 ^ 32
  let kept := x.recs.filterMap (fun r => r.frames.head?.bind SvyFrame.index) ++ x.group.filterMap SvyFrame.index
  kept.foldl (fun a i => if back a < back i then i else a) ack

/-- Whether a buffer is free (R236). -/
def State.frameRoom (s : State) (p : Nat) : Bool :=
  (s.rd (F.SVY_P_POS.FRAME_NEXT p) + 2 ^ 32 - s.frameFloor p) % 2 ^ 32 ≤ s.rd (F.SVY_P_FRAME_RING.COUNT p)

/-! ### Tags -/

/-- One SOF at `t` is counted for a list that has completed or failed (R228). -/
def SvyPend.count (guard t : Nat) (e : SvyPend) : SvyPend :=
  { e with
    early := if e.at_ < t + guard then e.early + 1 else e.early
    late := if e.at_ + guard < t then e.late + 1 else e.late }

/-- The lists of frames that a late list holds, at a SOF: a list still in transmission leaves the frame LAT − 1 SOFs on with
the phase of the frame before it (R227). -/
def SvyPipe.lateNext (x : SvyPipe) (lat : Nat) : List Nat :=
  (x.late.filter (0 < ·)).map (· - 1) ++ (if x.send.isSome then [lat - 1] else [])

/-- The group of the frame before a held one is dropped, the frame itself being over: the group in progress, or a record
that is not yet written (R227). -/
def State.heldBefore (s : State) (p : Nat) : State :=
  let x := s.pipe p
  match x.sofs.head?, x.recs.getLast? with
  | some t, some r =>
    if x.group.isEmpty && r.frames.getLast?.map SvyFrame.sof = some t.1 then
      (s.onPipe p (fun x => { x with recs := x.recs.dropLast, run := false })).runDrop p
    else if x.group.isEmpty then s else s.runDrop p
  | _, _ => if x.group.isEmpty then s else s.runDrop p

/-- The frames of the newest records and of the group in progress, from the record that holds the first SOF at or after
`a` on, with the pipeline without them. -/
def SvyPipe.pullFrom (x : SvyPipe) (a : Nat) : SvyPipe × List SvyFrame :=
  let stay := x.recs.takeWhile (fun r => r.frames.all (fun f => f.sof < a))
  let out := (x.recs.drop stay.length).flatMap SvyRec.frames ++ x.group
  if out.all (fun f => f.sof < a) then (x, [])
  else ({ x with recs := stay, group := [], run := false }, out)

/-- Frames that have ended since the SOF `a` of a list take its tag with UNCERTAIN, and their groups form anew (R228,
R229, R231). -/
def State.retag (s : State) (p a : Nat) (tag : SvyTag) : State :=
  let r := (s.pipe p).pullFrom a
  r.2.foldl (fun s f =>
    let lines := if f.lines.isEmpty then ((f.index.map (s.frameLoad p)).getD []).reverse else f.lines
    let f := { f with lines := lines }
    s.groupTake p (if f.sof < a then f else { f with tag := some tag, uncertain := true })) (s.setPipe p r.1)

/-- The tags at a SOF: lists that reach a take effect, UNCERTAIN until they reach b (R228, R229). The answer is the
pipeline and whether the frame is UNCERTAIN. -/
def SvyPipe.tagAt (x : SvyPipe) (lat : Nat) : SvyPipe × Bool :=
  let shaky := x.pend.any (fun e => (lat ≤ e.early && e.late < lat) || (e.gap && e.late ≤ lat))
  let x := x.pend.foldl (fun (x : SvyPipe) e =>
    if e.early < lat then x
    else
      let x := { x with tag := some e.tag }
      if e.failed then { x with failing := true }
      else if lat ≤ e.late then { x with failing := false }
      else x) x
  ({ x with pend := x.pend.filter (fun e => e.late < lat) }, shaky || x.failing)

end Sys2Proof.Machine
end

