-- ==== Sys2Proof/Machine/Survey.lean ====
section
/-! DEFINITION. The commands of the survey pipelines (R220 to R238). -/
namespace Sys2Proof.Machine

/-- Whether a pipeline runs. -/
def State.svyOn (s : State) (p : Nat) : Bool := s.rd (F.SVY_P_STATUS.STATE p) = 1

/-! ### Packets -/

/-- Whether a SOF finds a gap: a frame number out of order, or an interval above 1.5 times the one before (R224). -/
def State.gapAt (s : State) (p fnum t : Nat) : Bool :=
  let x := s.pipe p
  let number := s.bit (F.SVY_P_CAM.FNUM_CHECK p) && (match x.lastNum with
    | some n => fnum ≠ (if n = 0xFFFF then 1 else n + 1)
    | none => false)
  let interval := match x.sofs with
    | a :: b :: _ => decide (3 * (a.1 - b.1) < 2 * (t - a.1))
    | _ => false
  number || interval

/-- The defect table named by a pending swap goes into force, unless it is out of order (R232). -/
def State.defectSwap (s : State) (p : Nat) : State :=
  if !s.bit (F.SVY_P_DEFECT_CTL.SWAP_PENDING p) then s
  else
    let s := s.clr (F.SVY_P_DEFECT_CTL.SWAP_PENDING p)
    let list := (List.range (min 4096 (s.rd (F.SVY_P_DEFECT_CTL.COUNT p)))).map (fun i =>
      (s.rd (F.SVY_P_DEFECT.Y p i), s.rd (F.SVY_P_DEFECT.X p i)))
    let keys := list.map (fun e => e.1 * 4096 + e.2)
    if (keys.zip (keys.drop 1)).all (fun e => e.1 < e.2) then
      (s.clr (F.SVY_P_DEFECT_CTL.REFUSED p)).onPipe p (fun x => { x with par := { x.par with defects := list } })
    else s.set1 (F.SVY_P_DEFECT_CTL.REFUSED p)

/-- The staged values go into force at a phase-0 SOF (R232, R234). -/
def State.parTake (s : State) (p : Nat) : State :=
  let s := s.defectSwap p
  s.onPipe p (fun x => { x with par := { x.par with
    proc := s.reg (F.SVY_P_PROC.BLACK p).off
    ratio := s.reg (F.SVY_P_RATIO.RATIO1 p).off
    zone := s.reg (F.SVY_P_ZONE.X0 p).off } })

/-- A buffer of the frame ring for the frame that begins, when statistics need it or every frame is stored (R236). -/
def State.frameTake (s : State) (p : Nat) : State × Option Nat :=
  if !(s.bit (F.SVY_P_CTL.FRAME_STORE p) || 1 < (s.pipe p).par.merge) then (s, none)
  else if s.frameRoom p then
    let i := s.rd (F.SVY_P_POS.FRAME_NEXT p)
    (s.wr (F.SVY_P_POS.FRAME_NEXT p) (i + 1), some i)
  else (s.svyDrop p (F.SVY_P_ERR.FRAME_DROP p), none)

/-- A SOF of the camera: an open frame closes BAD, gaps are found, tags and staged values are applied, groups held by a
late list are dropped, and a frame begins (R223, R224, R227, R228, R229, R232, R234). -/
def execSvyFrameStart (p : Fin 2) (fnum : BitVec 16) (s : State) : Host.Outcome State Fault Refusal :=
  if !s.svyOn p then done s
  else
    let s := s.frameClose p true
    let t := s.nowAll
    let gap := s.gapAt p fnum.toNat t
    let s := if gap then s.set1 (F.SVY_P_ERR.GAP p) else s
    let late := (s.pipe p).lateNext (s.svyLat p)
    let s := if late.contains 0 then s.heldBefore p else s
    let x := s.pipe p
    let pend := x.pend.map (fun e => (if gap then { e with gap := true } else e).count (s.svyGuard p) t)
    let (x, shaky) := { x with pend := pend }.tagAt (s.svyLat p)
    let uncertain := shaky || 0 < x.first
    let s := s.setPipe p { x with
      first := x.first - 1
      sofs := ((t, uncertain) :: x.sofs).take 64
      late := late
      lastNum := some fnum.toNat
      ready := x.ready || x.send.isNone
      send := x.send.map (fun e => { e with sofs := e.sofs + 1 }) }
    let s := if x.tag.any (fun g => g.phase = 0) then s.parTake p else s
    let s := (((s.wr (F.SVY_P_STATUS.SET p) ((x.tag.map SvyTag.number).getD 0)).wr (F.SVY_P_STATUS.PHASE p)
      ((x.tag.map SvyTag.phase).getD 0)).wrBit (F.SVY_P_STATUS.UNCERTAIN p) uncertain).set1 (F.SVY_P_STATUS.STREAMING p)
    let s := if uncertain then s.incSat (F.SVY_P_SET_STATUS.UNCERTAIN p) else s
    let (s, index) := s.frameTake p
    done (s.onPipe p (fun y => { y with
      frame := some ⟨fnum.toNat, t, x.tag, uncertain, false, index, y.par, [], false, late.any (· < 2)⟩ }))

/-- A long packet of pixel data: a line of another length is discarded, a line that fails its CRC is used as received,
and surplus lines are discarded; all make the frame BAD (R221, R223, R230). -/
def execSvyLinePacket (p : Fin 2) (data : List Byte) (crcOk : Bool) (s : State) : Host.Outcome State Fault Refusal :=
  if !s.svyOn p then done s
  else match (s.pipe p).frame with
    | none => done s
    | some f =>
      let s := if crcOk then s else ((s.set1 (F.SVY_P_ERR.CRC p)).frameBad p).bucketReport 12 p
      let bits := s.svyBits p
      if data.length * 8 ≠ s.rd (F.SVY_P_CAM.WIDTH p) * bits then done (s.frameBad p)
      else if s.rd (F.SVY_P_CAM.HEIGHT p) ≤ f.lines.length then
        done (s.onPipe p (fun x => { x with frame := x.frame.map (fun f => { f with surplus := true }) }))
      else done (s.onPipe p (fun x => { x with
        frame := x.frame.map (fun f => { f with lines := unpackLine bits data :: f.lines }) }))

/-- A frame end closes the frame; its number must be that of the frame start (R223, R231). -/
def execSvyFrameEnd (p : Fin 2) (fnum : BitVec 16) (s : State) : Host.Outcome State Fault Refusal :=
  if !s.svyOn p then done s
  else match (s.pipe p).frame with
    | none => done s
    | some f => done (s.frameClose p (f.fnum ≠ fnum.toNat))

/-- A packet of another virtual channel or data type is discarded and counted (R222). -/
def execSvyForeignPacket (p : Fin 2) (vc : BitVec 4) (dt : BitVec 6) (s : State) : Host.Outcome State Fault Refusal :=
  let own := vc.toNat = s.rd (F.SVY_P_CAM.VC p) && (dt.toNat < 4 || dt.toNat = 0x12 || dt.toNat = s.rd (F.SVY_P_CAM.DT p))
  if !s.svyOn p || own then done s
  else
    let s := (s.set1 (F.SVY_P_ERR.FOREIGN p)).incSat (F.SVY_P_COUNTS.FOREIGN_PKT p)
    let s := if dt.toNat = 0 then s.incSat (F.SVY_P_COUNTS.FOREIGN_FRAME p) else s
    done ((s.wr (F.SVY_P_LAST_FOREIGN.VC p) vc.toNat).wr (F.SVY_P_LAST_FOREIGN.DT p) dt.toNat)

/-- An embedded-data packet of the camera is discarded without count (R222). -/
def execSvyEmbeddedPacket (_p : Fin 2) (s : State) : Host.Outcome State Fault Refusal := done s

/-- A start-of-transmission error or a deskew failure (R223). -/
def execSvyDphyError (p : Fin 2) (s : State) : Host.Outcome State Fault Refusal :=
  done (if s.svyOn p then (s.set1 (F.SVY_P_ERR.DPHY p)).frameBad p else s)

/-- A packet whose header cannot be corrected is discarded (R223). -/
def execSvyHeaderEccError (p : Fin 2) (s : State) : Host.Outcome State Fault Refusal :=
  done (if s.svyOn p then ((s.set1 (F.SVY_P_ERR.HEADER p)).frameBad p).bucketReport 12 p else s)

/-! ### Settings sets -/

/-- A descriptor read (Table 9-2): each write as its register address and its data. -/
def setOf (d : List Byte) : SvySet :=
  let count := fieldAt d 3 1
  ⟨fieldAt d 0 2, fieldAt d 2 1, count, (List.range (fieldAt d 2 1)).map (fun i => (List.range count).map (fun j =>
    (fieldAt d (8 + 32 * i + 4 * j) 2, fieldAt d (10 + 32 * i + 4 * j) 1)))⟩

/-- Whether a descriptor breaks its format (R226). -/
def setBad (d : List Byte) : Bool :=
  fieldAt d 2 1 = 0 || 3 < fieldAt d 2 1 || 8 < fieldAt d 3 1 || fieldAt d 4 4 ≠ 0 || fieldAt d 104 24 ≠ 0
    || (List.range 24).any (fun k => fieldAt d (11 + 4 * k) 1 ≠ 0)

/-- A set refused with its cause (R226). -/
def State.setRefuse (s : State) (p cause : Nat) : State :=
  (s.wr (F.SVY_P_SET_STATUS.CAUSE p) cause).set1 (F.SVY_P_ERR.SET_REFUSED p)

/-- SVY_Pp_SET_SUBMIT: the descriptor is copied, and the set is queued or refused (R226). -/
def execSvySetSubmit (m : Master) (p : Fin 2) (v : BitVec 32) (s : State) : Host.Outcome State Fault Refusal :=
  done (s.gated m (F.SVY_P_SET_SUBMIT.ADDR p).off (fun s =>
    let d := memRead s.sram (v.toNat / 128 % 2 ^ 15 * 128) 128
    let x := s.pipe p
    if 4 ≤ x.queue.length then s.setRefuse p 1
    else if x.accepted && fieldAt d 0 2 ≠ (s.rd (F.SVY_P_SET_STATUS.ACCEPTED p) + 1) % 65536 then s.setRefuse p 2
    else if setBad d then s.setRefuse p 3
    else
      let s := s.setPipe p { x with queue := x.queue ++ [setOf d], accepted := true }
      (s.wr (F.SVY_P_SET_STATUS.ACCEPTED p) (fieldAt d 0 2)).wr (F.SVY_P_SET_STATUS.QUEUED p) (x.queue.length + 1)))

/-- A list has completed or failed at this instant: its tag waits for its SOFs, and the frames since a SOF that already
was its a take the tag with UNCERTAIN (R228, R229). In DISABLING the phase order of the set in force stays at its start
(R238). -/
def State.listEnd (s : State) (p : Nat) (e : SvySend) (failed : Bool) : State :=
  let c := s.nowAll
  let x := s.pipe p
  let near := (x.sofs.filter (fun t => c < t.1 + s.svyGuard p)).map Prod.fst
  let pd : SvyPend := ⟨e.tag, c, near.length, 0, failed, !s.svyOn p⟩
  let s := s.setPipe p { x with
    send := none, ready := false, pend := x.pend ++ [pd]
    phase := if s.svyOn p then (e.tag.phase + 1) % max 1 e.tag.phases else x.phase }
  if near.length < s.svyLat p then s
  else
    let a := near.reverse.getD (s.svyLat p - 1) 0
    let fresh := (x.sofs.filter (fun t => a ≤ t.1 && !t.2)).length
    let s := s.addSat (F.SVY_P_SET_STATUS.UNCERTAIN p) fresh
    let s := s.onPipe p (fun x => { x with
      tag := some e.tag
      sofs := x.sofs.map (fun t => (t.1, t.2 || decide (a ≤ t.1)))
      frame := x.frame.map (fun f => { f with tag := some e.tag, uncertain := true }) })
    let s := s.retag p a e.tag
    ((s.wr (F.SVY_P_STATUS.SET p) e.tag.number).wr (F.SVY_P_STATUS.PHASE p) e.tag.phase).set1
      (F.SVY_P_STATUS.UNCERTAIN p)

/-- A list completes; after the SOF that followed its own start it is late (R227, R228). -/
def State.listDone (s : State) (p : Nat) (e : SvySend) : State :=
  let s := if 0 < e.sofs then s.set1 (F.SVY_P_ERR.LIST_LATE p) else s
  s.listEnd p e false

/-- A list fails: its set ends, the next set starts at the next SOF, and the master owes nine clocks and a STOP (R225,
R229). DEDUCED (log 179): its end stands for its completion, as in R229, which takes its a from there, so that a list that fails
after the SOF that followed its own start is late. -/
def State.listFail (s : State) (p cause : Nat) : State :=
  match (s.pipe p).send with
  | none => s
  | some e =>
    let s := (s.wr (F.SVY_P_SET_STATUS.CAUSE p) cause).set1 (F.SVY_P_ERR.I2C p)
    let s := if 0 < e.sofs then s.set1 (F.SVY_P_ERR.LIST_LATE p) else s
    let s := s.listEnd p e true
    let s := s.onPipe p (fun x => { x with cur := none, phase := 0, bus := [], owes := true })
    s.bucketReport 14 p

/-- A register write as the bytes of its transaction: the address with write, the register address high byte first, and
the data (R225). -/
def State.i2cBytes (s : State) (p : Nat) (w : Nat × Nat) : List Byte :=
  leBytes 1 (2 * s.rd (F.SVY_P_I2C.ADDR p)) ++ leBytes 1 (w.1 / 256) ++ leBytes 1 w.1 ++ leBytes 1 w.2

/-- The first write that is left goes onto the bus, behind nine clocks and a STOP where the transaction before it failed
or SDA is low at its START (R225). -/
def State.i2cBegin (s : State) (p : Nat) (sdaLow : Bool) : State :=
  let x := s.pipe p
  match x.send.bind (fun e => e.left.head?) with
  | none => s.onPipe p (fun x => { x with bus := [] })
  | some w =>
    let item := I2cItem.write (s.bit (F.SVY_P_I2C.FAST p)) (s.i2cBytes p w)
    s.onPipe p (fun x => { x with bus := if x.owes || sdaLow then [.recover, item] else [item], owes := false })

/-- The list that is due begins: the first of the set at the head of the queue where the set in force would send its
phase 0, else the next of the set in force; an empty list completes at once (R227). -/
def State.listStart (s : State) (p : Nat) (sdaLow : Bool) : State :=
  let x := s.pipe p
  if !s.svyOn p || x.send.isSome then s
  else
    let x := match x.queue with
      | q :: rest => if x.cur.isNone || x.phase = 0 then { x with cur := some q, phase := 0, queue := rest } else x
      | [] => x
    match x.cur with
    | none => s
    | some c =>
      let e : SvySend := ⟨⟨c.number, x.phase, c.phases⟩, c.lists.getD x.phase [], 0, false⟩
      let s := s.setPipe p { x with send := some e, ready := false }
      let s := (s.wr (F.SVY_P_SET_STATUS.SENDING p) c.number).wr (F.SVY_P_SET_STATUS.QUEUED p) x.queue.length
      if e.left.isEmpty then s.listDone p e else s.i2cBegin p sdaLow

/-- START_US after a SOF that follows the completion of the list before, a list begins (R225, R227). -/
def execSvyListStart (bus : BusStart) (s : State) : Host.Outcome State Fault Refusal :=
  done (if (s.pipe bus.pipe).ready then s.listStart bus.pipe bus.sdaLow else s)

/-- No SOF has arrived for FRAME_TIMEOUT: a list is sent at once (R227). -/
def execSvyFrameTimeout (bus : BusStart) (s : State) : Host.Outcome State Fault Refusal :=
  done (if s.svyOn bus.pipe then (s.clr (F.SVY_P_STATUS.STREAMING bus.pipe)).listStart bus.pipe bus.sdaLow else s)

/-- An I2C write ends: the list goes on with its next write, or fails with NAK; a list that a disable cut short ends with
it (R225, R238). -/
def execI2cWriteDone (p : Fin 2) (end_ : BusEnd) (s : State) : Host.Outcome State Fault Refusal :=
  match (s.pipe p).send with
  | none => done s
  | some e =>
    if e.left.isEmpty then done s
    else if !end_.ack then done (s.listFail p 4)
    else if e.cut then done (s.onPipe p (fun x => { x with send := none, bus := [] }))
    else done ((s.onPipe p (fun x => { x with send := some { e with left := e.left.drop 1 } })).i2cBegin p end_.sdaLow)

/-- The sensor has held SCL for more than 10 ms: the list fails with TIMEOUT (R225). -/
def execI2cStretchTimeout (p : Fin 2) (s : State) : Host.Outcome State Fault Refusal := done (s.listFail p 5)

/-- The STOP of a list's last write (R227, R228). -/
def execSvyListComplete (p : Fin 2) (s : State) : Host.Outcome State Fault Refusal :=
  match (s.pipe p).send with
  | none => done s
  | some e => done (if e.left.isEmpty then s.listDone p e else s)

/-! ### Records and settings -/

/-- The oldest record is complete in DDR5: REC_NEXT advances and the interrupt is raised (R235). -/
def execSvyRecordWritten (p : Fin 2) (s : State) : Host.Outcome State Fault Refusal :=
  match (s.pipe p).recs with
  | [] => done s
  | r :: rest =>
    let i := s.rd (F.SVY_P_POS.REC_NEXT p)
    let slot := i % 2 ^ s.rd (F.SVY_P_REC_RING.LOG2 p)
    let s := s.onPipe p (fun x => { x with recs := rest })
    let s := s.unitWrite (26 + p) ((s.rd (F.SVY_P_REC_RING.BASE p) + slot) * 2 ^ 20) r.bytes false
    let s := s.wr (F.SVY_P_POS.REC_NEXT p) (i + 1)
    done (if s.bit (F.SVY_P_CTL.IRQ_EN p) then s.source (13 + p) else s)

/-- A 64-bit register with a written half, or whole (R399, R400). -/
def halfJoin (old : Word) (w : BusWidth) (upper : Bool) (v : Word) : Word :=
  if w = .w64 then v
  else if upper then (old &&& 0xFFFFFFFF#64) ||| (BitVec.ofNat 64 (v.toNat % 2 ^ 32 * 2 ^ 32))
  else (old &&& 0xFFFFFFFF00000000#64) ||| (BitVec.ofNat 64 (v.toNat % 2 ^ 32))

/-- Whether the written values stay in their ranges, the zone grid within the frame (R234). -/
def State.svyConfigOk (s : State) (p which : Nat) (v : Word) : Bool :=
  let par : SvyPar := { svyParNew with proc := v, ratio := v, zone := v }
  match which with
  | 0 => par.merge ≠ 0 && par.shift ≤ 14
  | 1 => par.ratioOf 1 ≠ 0 && par.ratioOf 2 ≠ 0
  | _ => par.x0 + par.zx * par.zw ≤ s.rd (F.SVY_P_CAM.WIDTH p)
      && par.y0 + par.zy * par.zh ≤ s.rd (F.SVY_P_CAM.HEIGHT p)

/-- A write of PROC, RATIO or ZONE: staged for the next phase-0 SOF, or discarded whole (R234). -/
def execSvyConfigWrite (m : Master) (p : Fin 2) (which : Fin 3) (w : BusWidth) (upper : Bool) (v : BitVec 64)
    (s : State) : Host.Outcome State Fault Refusal :=
  let off := 0x1A0020 + 0x8000 * p.val + 8 * which.val
  let keep : Word := match which.val with
    | 0 => 0x0000FFFF000FFFFF#64
    | 1 => 0x00000000FFFFFFFF#64
    | _ => 0xFFFFFF7F7FFFFFFF#64
  done (s.gated m off (fun s =>
    let new := if which.val = 1 then v else halfJoin (s.reg off) w upper v
    if s.svyConfigOk p which new then s.setReg off (new &&& keep) else s.set1 (F.SVY_P_ERR.CONFIG p)))

/-- DEFECT_CTL.SWAP: the shadow table of COUNT entries waits for the next phase-0 SOF (R232). -/
def execSvyDefectSwap (m : Master) (p : Fin 2) (count : BitVec 13) (s : State) : Host.Outcome State Fault Refusal :=
  done (s.gated m (F.SVY_P_DEFECT_CTL.SWAP p).off (fun s =>
    (s.wr (F.SVY_P_DEFECT_CTL.COUNT p) (min count.toNat 4096)).set1 (F.SVY_P_DEFECT_CTL.SWAP_PENDING p)))

/-- One index of SVY_Pp_ACK: it frees what lies below it, or is ignored out of range (R235, R236). -/
def State.svyFree (s : State) (p : Nat) (f next : Field) (v : Nat) : State :=
  let a := s.rd f
  if (v + 2 ^ 32 - a) % 2 ^ 32 ≤ (s.rd next + 2 ^ 32 - a) % 2 ^ 32 then s.wr f v else s.set1 (F.SVY_P_ERR.ACK_INVALID p)

/-- A write of SVY_Pp_ACK: the write that brings FRAME frees by both indices, and one of REC alone stages it (R235, R236,
R400). -/
def execSvyAckWrite (m : Master) (p : Fin 2) (w : BusWidth) (upper : Bool) (v : BitVec 64) (s : State) :
    Host.Outcome State Fault Refusal :=
  done (s.gated m (F.SVY_P_ACK.REC p).off (fun s =>
    s.halfWrite (F.SVY_P_ACK.REC p).off ⟨decide (w = .w64), upper, v⟩ (fun v s =>
      let s := s.svyFree p (F.SVY_P_ACK.REC p) (F.SVY_P_POS.REC_NEXT p) (v.toNat % 2 ^ 32)
      let s := s.svyFree p (F.SVY_P_ACK.FRAME p) (F.SVY_P_POS.FRAME_NEXT p) (v.toNat / 2 ^ 32)
      s.settleSources (F.SVY_P_ERR.ACK_INVALID p).off)))

/-! ### Enable and disable -/

/-- A pipeline starts: the first LAT frames are UNCERTAIN (R229). -/
def State.svyStart (s : State) (p : Nat) : State :=
  let s := s.onPipe p (fun x => { x with
    first := s.svyLat p, sofs := [], late := [], lastNum := none, ready := false })
  s.wr (F.SVY_P_STATUS.STATE p) 1

/-- SVY_Pp_CTL.ENABLE written 1; held while DISABLING (R238). -/
def execSvyEnable (m : Master) (p : Fin 2) (s : State) : Host.Outcome State Fault Refusal :=
  done (s.gated m (F.SVY_P_CTL.ENABLE p).off (fun s =>
    let s := s.set1 (F.SVY_P_CTL.ENABLE p)
    let st := s.rd (F.SVY_P_STATUS.STATE p)
    if st = 2 then s.set1 (F.SVY_P_STATUS.PENDING_ENABLE p) else if st = 0 then s.svyStart p else s))

/-- The transaction in progress of a list, which alone goes on after a disable (R238). -/
def SvySend.lastWrite (e : SvySend) : SvySend := { e with left := e.left.take 1, cut := decide (1 < e.left.length) }

/-- SVY_Pp_CTL.ENABLE written 0: packets, the group in progress and the queued sets are discarded, and the transaction in
progress runs on; a pending enable is cancelled (R238). -/
def State.svyDisable (s : State) (p : Nat) : State :=
  let s := s.clr (F.SVY_P_CTL.ENABLE p)
  let st := s.rd (F.SVY_P_STATUS.STATE p)
  if st = 2 then s.clr (F.SVY_P_STATUS.PENDING_ENABLE p)
  else if st = 0 then s
  else
    let s := s.onPipe p (fun x => { x with
      queue := []
      send := x.send.map SvySend.lastWrite
      phase := 0
      ready := false
      pend := x.pend.map (fun e => { e with gap := true })
      frame := none
      group := []
      run := false })
    ((s.wr (F.SVY_P_SET_STATUS.QUEUED p) 0).clr (F.SVY_P_STATUS.STREAMING p)).wr (F.SVY_P_STATUS.STATE p) 2
def execSvyDisable (m : Master) (p : Fin 2) (s : State) : Host.Outcome State Fault Refusal :=
  done (s.gated m (F.SVY_P_CTL.ENABLE p).off (fun s => s.svyDisable p))

/-- The I2C STOP and the issued writes are complete (R238). -/
def execSvyDrainComplete (p : Fin 2) (s : State) : Host.Outcome State Fault Refusal :=
  if s.rd (F.SVY_P_STATUS.STATE p) ≠ 2 || !(s.pipe p).recs.isEmpty || (s.pipe p).send.isSome then done s
  else if s.bit (F.SVY_P_STATUS.PENDING_ENABLE p) then
    done ((s.clr (F.SVY_P_STATUS.PENDING_ENABLE p)).svyStart p)
  else done (s.wr (F.SVY_P_STATUS.STATE p) 0)

end Sys2Proof.Machine
end

