-- ==== Sys2Proof/Machine/Keeper.lean ====
section
/-! DEFINITION. The Keeper's requests, and the Docent watchdog and restart (R341 to R352). -/
namespace Sys2Proof.Machine

/-! ### Docent restart -/

/-- The Keeper is in service: not in its boot ROM, and not held in reset by STORAGE or by the Guard (R328, KPR_STATUS). -/
def State.keeperServes (s : State) : Bool := s.rd F.KPR_STATUS.STATE = 1 && !s.saf.acting

/-- Step 1 of Table 15-5: DMA channels 4 to 15, the compressor, the survey pipelines and the axes are disabled, check-value
units released, and mailboxes, the notice ring, request banks and queue, and samples emptied (R350, R373, Table 18-2). What
was in flight is left free. -/
def State.docentsStop (s : State) : State :=
  let s := (List.range 12).foldl (fun s k => s.dmaDisable (k + 4) true) s
  let s := s.gugDisable (s.gugBuffers.map (fun b => b.2.1)).sum
  let s := ((s.svyDisable 0).svyDisable 1).axDisable
  let s := (List.range 4).foldl (fun s n => s.wr (F.CRC_U_CLAIM.OWNER n) 0) s
  let s := ((s.wr F.DOC_HOSTMB_FULL.FULL 0).wr F.KPR_STATUS.QUEUED 0).clr F.PMC_SAMPLE_CFG.ENABLE
  let s := s.wr F.PMC_SAMPLE_ACK.INDEX (s.rd F.PMC_SAMPLE_STATUS.NEXT)
  let s := s.sramWrite (s.rd F.DOC_CFG.NOTICE * 512) (List.replicate 512 0#8) false
  { s with kpr := { s.kpr with queue := [], staged := [] } }

/-- A DOC_RESTART record (Table 15-8). -/
def State.restartRecord (s : State) (cause core mepc : Nat) (held : Bool) : State :=
  s.aclLog 0x0302 (leBytes 1 cause ++ leBytes 1 core ++ leBytes 1 (s.rd F.DOC_STATUS.RESTARTS)
    ++ leBytes 1 (if held then 1 else 0) ++ leBytes 8 mepc)

/-- A cause of the cycle in which a restart has begun, or been held: the lowest code is the one recorded (R350). -/
def State.restartJoin (s : State) (cause core mepc : Nat) : State :=
  if s.rd F.DOC_STATUS.STATE < 2 || s.cycle ≠ s.kpr.restartedAt || s.rd F.DOC_STATUS.CAUSE ≤ cause then s
  else
    let s := (s.wr F.DOC_STATUS.CAUSE cause).wr F.DOC_STATUS.CORE core
    if s.rd F.DOC_STATUS.STATE = 2 then { s with kpr := { s.kpr with restarting := some (core, mepc) } }
    else s.recordAmend s.kpr.restartIndex 0x0302 (fun d => leBytes 1 cause ++ leBytes 1 core ++ (d.drop 2).take 2 ++ leBytes 8 mepc)

/-- A cause of R350: a restart of all cores begins, or the Docents are HELD when it would be one too many within the hour.
Causes during a restart are ignored, but that one of its first cycle may be recorded in its place (R350, R352, Table 15-5). -/
def State.docRestart (s : State) (cause core mepc : Nat) : State :=
  if !s.keeperServes then s
  else if s.rd F.DOC_STATUS.STATE ≠ 1 then s.restartJoin cause core mepc
  else
    let s := { s with kpr := { s.kpr with restartedAt := s.cycle } }
    let n := s.rd F.DOC_STATUS.RESTARTS
    let held := decide (s.rd F.DOC_CFG.RESTART_LIMIT ≤ n)
    let s := s.docentsStop.wr F.DOC_STATUS.CAUSE cause
    let s := if cause = 3 then s else s.wr F.DOC_STATUS.CORE core
    if held then
      { s.wr F.DOC_STATUS.STATE 3 with
        kpr := { s.kpr with restartIndex := s.acl.index } }.restartRecord cause core mepc true
    else
      let s := (s.wr F.DOC_STATUS.STATE 2).wr F.DOC_STATUS.RESTARTS (n + 1)
      { s with
        sram := []
        sramPoison := []
        sramErr := []
        kpr := { s.kpr with restarting := some (core, mepc) } }

/-- Core c writes its watchdog: its interval starts again (R350). -/
def execDocWdogKick (m : Master) (c : Fin 8) (s : State) : Host.Outcome State Fault Refusal :=
  done (s.gated m (F.DOC_WDOG.KICK c).off (fun s =>
    { s with kpr := { s.kpr with kicks := smSet (fun _ => 0) s.kpr.kicks c s.cycle } }))

/-- The watchdog interval of a core runs out (R350). -/
def execDocWatchdogExpiry (c : Fin 8) (mepc : BitVec 64) (s : State) : Host.Outcome State Fault Refusal :=
  done (if s.coreOn c then s.docRestart 1 c mepc.toNat else s)

/-- A core takes a fetch fault at its own trap-handler address (R350). -/
def execDocLockup (c : Fin 8) (mepc : BitVec 64) (s : State) : Host.Outcome State Fault Refusal :=
  done (if s.coreOn c then s.docRestart 2 c mepc.toNat else s)

/-- DOC_CTL.RESTART written (R350). -/
def execDocCtlRestart (m : Master) (mepc : BitVec 64) (s : State) : Host.Outcome State Fault Refusal :=
  done (s.gated m F.DOC_CTL.RESTART.off (fun s => s.docRestart 3 (masterCore m) mepc.toNat))

/-- The Docent section is read again; the cores are released when it verifies, else the start has failed (R350, Table
15-5). -/
def execDocRestartComplete (ok : Bool) (s : State) : Host.Outcome State Fault Refusal :=
  match s.kpr.restarting with
  | none => done s
  | some (core, mepc) =>
    if s.rd F.DOC_STATUS.STATE ≠ 2 || !s.keeperServes then done s
    else
      let s := { s with kpr := { s.kpr with restarting := none } }
      if !ok || !s.docentGood then done (s.failStart 6 0)
      else
        let cause := s.rd F.DOC_STATUS.CAUSE
        let s := (s.docentCopy.wr F.DOC_STATUS.STATE 1).notice 3 cause 0
        done (s.restartRecord cause core mepc false)

/-- A restart becomes one hour old and leaves the count (R352). -/
def execDocRestartAgeOut (s : State) : Host.Outcome State Fault Refusal :=
  done (s.wr F.DOC_STATUS.RESTARTS (s.rd F.DOC_STATUS.RESTARTS - 1))

/-! ### Requests -/

/-- The 32 bytes that a core has staged (R346). -/
def State.stagedRequest (s : State) (core : Nat) : List Byte :=
  (List.range 4).flatMap (fun w => leBytes 8 (smGet (fun _ => 0#64) s.kpr.staged (4 * core + w)).toNat)

/-- KPR_REQ_PUSH, written with its upper half: the core's staged request joins the queue of 16, or is discarded (R346, R400). -/
def execKprReqPush (m : Master) (s : State) : Host.Outcome State Fault Refusal :=
  done (s.gated m F.KPR_REQ_PUSH.PUSH.off (fun s =>
    if 16 ≤ s.kpr.queue.length then s.set1 F.KPR_ERR.REQ_FULL
    else
      let r : KprReq := ⟨masterCore m, s.stagedRequest (masterCore m)⟩
      let s := { s with kpr := { s.kpr with queue := s.kpr.queue ++ [r] } }
      s.wr F.KPR_STATUS.QUEUED s.kpr.queue.length))

/-- The result of a request: its notice, and REQ_REFUSED for REFUSED and FORMAT (R346, R347). -/
def State.answer (s : State) (tag code : Nat) : State :=
  (s.whenD (code ≠ 0) (fun s => s.set1 F.KPR_ERR.REQ_REFUSED)).notice 1 code tag

/-- Every byte of a request outside CODE, TAG and its arguments is zero (Table 15-3). -/
def requestClean (bytes : List Byte) (args : List Nat) : Bool :=
  (List.range 32).all (fun i => i = 0 || i = 2 || i = 3 || args.contains i || fieldAt bytes i 1 = 0)

/-- The Keeper serves the request at the head of the queue when its CODE is `code`: it fails with FORMAT when a reserved
byte is not zero or an argument has no meaning, with REFUSED outside PREVIEW and RUN, and else has its effect. A request
with an unknown CODE fails with FORMAT whichever code is asked for (R346, Table 15-3). -/
def State.serve (s : State) (code : Nat) (args : List Nat) (good : List Byte → Bool) (f : State → Nat → KprReq → State) :
    State :=
  match s.kpr.queue with
  | [] => s
  | r :: rest =>
    let c := fieldAt r.bytes 0 1
    let tag := fieldAt r.bytes 2 2
    if !s.keeperServes || (c ≠ code && 1 ≤ c && c ≤ 8) then s
    else
      let s := { s with kpr := { s.kpr with queue := rest } }
      let s := (s.wr F.KPR_STATUS.QUEUED rest.length).incSat F.KPR_COUNTS.REQUESTS
      if c ≠ code || !requestClean r.bytes args || !good r.bytes then s.answer tag 2
      else if code ≠ 8 && s.mode ≠ 2 && s.mode ≠ 3 then s.answer tag 1
      else f s tag r

/-- The staging buffer sent to the standby as TABLE messages; COMMIT, and this device's own commit, wait behind the last of
them (R284, Tables 12-3 and 15-3). -/
def State.tableSend (s : State) (leaf crc tag : Nat) : State :=
  let s := (List.range (stageLen / 64)).foldl (fun (s : State) i =>
    s.iklSend 5 0x32 (leBytes 4 (64 * i)) (s.ddrRead (s.stageBase + 64 * i) 64)) (s.unitRead 24 s.stageBase stageLen 1)
  { s with ikl := { s.ikl with commits := s.ikl.commits ++ [(leaf, crc, tag)] } }

/-- COMMIT_TABLE: the authority of a pair whose twin listens mirrors the table first; then it is committed, and its result comes
with the commit's. A standby commits no table of its own (R131, R284, R346). -/
def execCommitTable (s : State) : Host.Outcome State Fault Refusal :=
  done (s.serve 1 [4, 5, 8, 9, 10, 11] (fun _ => true) (fun s tag r =>
    let leaf := fieldAt r.bytes 4 2
    let crc := fieldAt r.bytes 8 4
    if s.pairState = 3 then s.answer tag 1
    else if s.bit F.TWN_CFG.MODE && s.hasAuth && 1 < s.rd F.IKL_STATUS.STATE && s.rd F.IKL_STATUS.STATE ≠ 6 then
      s.tableSend leaf crc tag
    else
      let s := { s.wr F.BCT_COMMIT_CRC.CRC crc with kpr := { s.kpr with commitTag := some tag } }
      s.commitGo leaf))

/-- YIELD: TWN_CTL.YIELD (R291, R346). -/
def execYield (s : State) : Host.Outcome State Fault Refusal :=
  done (s.serve 2 [] (fun _ => true) (fun s tag _ => s.yieldAsk.answer tag 0))

/-- RETRAIN: the recovery of a channel; its result comes when the recovery ends. A channel that is not trained cannot
recover, and the request is refused (R218, R346). -/
def execRetrain (s : State) : Host.Outcome State Fault Refusal :=
  done (s.serve 3 [4] (fun b => fieldAt b 4 1 < 6) (fun s tag r =>
    let c := fieldAt r.bytes 4 1
    if s.mayRetrain c then { s with kpr := { s.kpr with retrains := s.kpr.retrains ++ [(c, tag)] } }.memRetrain c
    else s.answer tag 1))

/-- LINK: an action on the BLK or the Ikisal link (R194, R275, R346). -/
def execLink (s : State) : Host.Outcome State Fault Refusal :=
  done (s.serve 4 [4, 5] (fun b => fieldAt b 4 1 < 2 && fieldAt b 5 1 < 4) (fun s tag r =>
    let s := match fieldAt r.bytes 4 1, fieldAt r.bytes 5 1 with
      | 0, 0 => s.blkDisable
      | 0, 1 => s.blkEnable
      | 0, 2 => s.blkStepUp
      | 0, _ => s.blkRetrain
      | _, 0 => s.iklDisable
      | _, 1 => s.iklEnable
      | _, 2 => s.iklStepUp
      | _, _ => s.iklRetrain
    s.answer tag 0))

/-- SCRUB: SCR_CTL.ENABLE (R207, R346). -/
def execScrub (s : State) : Host.Outcome State Fault Refusal :=
  done (s.serve 5 [4] (fun b => fieldAt b 4 1 < 2) (fun s tag r =>
    (if fieldAt r.bytes 4 1 = 0 then s.scrDisable else s.scrEnable).answer tag 0))

/-- NOTE: an FW_NOTE record, at most one per 100 µs; others are refused and count as suppressed (R346, Table 15-8). -/
def execNote (s : State) : Host.Outcome State Fault Refusal :=
  done (s.serve 6 (List.range' 16 12) (fun _ => true) (fun s tag r =>
    let due := s.aclDue 0x0303
    (s.aclLog 0x0303 ((r.bytes.drop 16).take 12)).answer tag (if due then 0 else 1)))

/-- RESTART: a Docent restart with cause REQUEST; the request queue is emptied without results (R346, R350). -/
def execRestart (mepc : BitVec 64) (s : State) : Host.Outcome State Fault Refusal :=
  done (s.serve 7 [] (fun _ => true) (fun s _ r => s.docRestart 3 r.core mepc.toNat))

/-- SAFE: SAF_DEMAND. The Keeper is held in reset from then on and posts no result (R328, R346). -/
def execSafe (s : State) : Host.Outcome State Fault Refusal :=
  done (s.serve 8 [] (fun _ => true) (fun s _ _ => s.guardDemand 14))

end Sys2Proof.Machine
end

