-- ==== Sys2Proof/Machine/Lacuna.lean ====
section
/-! DEFINITION. The commands of the Lacuna List (R170, R171). -/
namespace Sys2Proof.Machine

/-- An open record has stood for OPEN_LIMIT and closes; `rel` names its stream (R170). -/
def execLacunaOpenLimitExpiry (rel : Bool) (s : State) : Host.Outcome State Fault Refusal :=
  done (if rel then s.lacCloseRel else s.lacCloseRes)

/-- 100 µs after the LB of its leaf the open record of classes 6 to 8 closes; a record of the leaf in progress
stays open (R170). -/
def execLacunaStreamCloseExpiry (s : State) : Host.Outcome State Fault Refusal :=
  match s.lac.openRes with
  | none => done s
  | some r => if s.inProgress r.leaf then done s else done s.lacCloseRes

/-- The oldest closed record reaches the ring (R170, R171). -/
def execLacunaRecordWritten (s : State) : Host.Outcome State Fault Refusal :=
  match s.lac.closed with
  | [] => done s
  | r :: rest => done (s.lacWrite r rest)

/-- LAC_CURSOR selects the record that the window shows (R171). -/
def execLacCursorWrite (m : Master) (v : BitVec 32) (s : State) : Host.Outcome State Fault Refusal :=
  done (s.gated m F.LAC_CURSOR.INDEX.off (fun s =>
    let s := s.wr F.LAC_CURSOR.INDEX v.toNat
    s.whenD (!s.lacHeld v.toNat) (fun s => s.set1 F.LAC_ERR.CURSOR_INVALID)))

/-- LAC_ACK frees the records below an index, or is ignored with ACK_INVALID outside ACKED to NEXT (R171). -/
def execLacAckWrite (m : Master) (v : BitVec 32) (s : State) : Host.Outcome State Fault Refusal :=
  done (s.gated m F.LAC_ACK.INDEX.off (fun s =>
    let a := s.rd F.LAC_STATUS.ACKED
    if (v.toNat + 2 ^ 32 - a) % 2 ^ 32 ≤ (s.rd F.LAC_STATUS.NEXT + 2 ^ 32 - a) % 2 ^ 32 then
      ((s.wr F.LAC_ACK.INDEX v.toNat).wr F.LAC_STATUS.ACKED v.toNat).settleSources F.LAC_ACK.INDEX.off
    else s.set1 F.LAC_ERR.ACK_INVALID))

end Sys2Proof.Machine
end

