-- ==== Sys2Proof/Machine/Pads.lean ====
section
/-! DEFINITION. The signals of Table 17-3, and the commands of the straps and the test access port (R382 to R385). -/
namespace Sys2Proof.Machine

/-! ### Levels -/

/-- The outputs of Table 17-3, and DDRc_RESET_N of Table 17-4. -/
inductive OutPin where
  | slotStrobe0
  | slotStrobe1
  | blankAllN
  | stageSlow
  | twinAuth
  | twinFailOut
  | axStep (a : Nat)
  | axDir (a : Nat)
  | axEnaN (a : Nat)
  | xspiClk
  | xspiCsN
  | xspiDq
  | xspiResetN
  | mramClk
  | mramMosi
  | mramCsN
  | svyScl (p : Nat)
  | svySda (p : Nat)
  | tdo
  | ddrResetN (c : Nat)
  deriving DecidableEq, Repr

/-- The level of an output: low, high, released to high impedance or to a pull, moving with an operation of its bus, or not
guaranteed (R383). -/
inductive PinLevel where
  | low
  | high
  | z
  | bus
  | unknown
  deriving DecidableEq, Repr

/-- A level from a truth value. -/
def levelOf (b : Bool) : PinLevel := if b then .high else .low

/-- XSPI_RESET_N is low until BOOT step 3 (Table 17-3). -/
def State.xspiResetN (s : State) : Bool := s.mode ≠ 0 && decide (3 ≤ s.rd F.BOOT_STATUS.STEP)

/-- DDRc_RESET_N is low until the channel's training begins (Table 17-4). -/
def State.ddrResetN (s : State) (c : Nat) : Bool := s.rd (F.MEM_CH_STATUS.STATE c) ≠ 0

/-- The reset state of an output, while RESET_N is low (R382, Table 17-3). -/
def State.resetLevel (s : State) : OutPin → PinLevel
  | .slotStrobe0 => .low
  | .slotStrobe1 => .low
  | .blankAllN => if s.drivesBlank then .low else .z
  | .stageSlow => .low
  | .twinAuth => .low
  | .twinFailOut => .high
  | .axStep _ => .low
  | .axDir _ => .low
  | .axEnaN _ => .high
  | .xspiClk => .low
  | .xspiCsN => .high
  | .xspiDq => .z
  | .xspiResetN => .low
  | .mramClk => .low
  | .mramMosi => .low
  | .mramCsN => .high
  | .svyScl _ => .z
  | .svySda _ => .z
  | .tdo => .z
  | .ddrResetN _ => .low

/-- The level of an output in service; strobes and buses move with the commands that stand for their operations. -/
def State.serviceLevel (s : State) : OutPin → PinLevel
  | .blankAllN => if s.drivesBlank then .low else .z
  | .stageSlow => levelOf (s.bit F.SLT_STATUS.STAGE_SLOW)
  | .twinAuth => levelOf (s.bit F.TWN_STATUS.AUTH)
  | .twinFailOut => levelOf s.pin.failOut
  | .axStep a => levelOf (s.axStepHigh a)
  | .axDir a => levelOf (s.axDirLevel a)
  | .axEnaN a => levelOf (s.axm.enaHigh.getD a true)
  | .xspiResetN => levelOf s.xspiResetN
  | .ddrResetN c => levelOf (s.ddrResetN c)
  | _ => .bus

/-- The level of an output. With a supply outside its range none is guaranteed but what R383 says: BLANK_ALL_N is high-impedance
without VDDIO, and the boards then read TWIN_AUTH low and TWIN_FAIL_OUT high (R382, R383). -/
def State.pinLevel (s : State) (p : OutPin) : PinLevel :=
  if s.vddioAbsent then
    (match p with
      | .blankAllN => .z
      | .twinAuth => .low
      | .twinFailOut => .high
      | _ => .unknown)
  else if s.mode = 0 then (if s.pin.supplyOut = 0 then s.resetLevel p else .unknown)
  else s.serviceLevel p

/-! ### Straps -/

/-- A strap's level changes: 0 TWIN_ROLE, 1 FLASH_1S, 2 TEST_EN_N. After latching, also in the factory test state, a change has no
effect and sets CHANGED; in OFF nothing is latched (R384, PAD_STRAPS). -/
def execStrapChange (strap : Fin 3) (high : Bool) (s : State) : Host.Outcome State Fault Refusal :=
  let old := match strap.val with
    | 0 => s.bit F.PAD_STRAPS.LIVE_ROLE
    | 1 => s.bit F.PAD_STRAPS.LIVE_FLASH_1S
    | _ => s.pin.testLevel
  let t := match strap.val with
    | 0 => s.wrBit F.PAD_STRAPS.LIVE_ROLE high
    | 1 => s.wrBit F.PAD_STRAPS.LIVE_FLASH_1S high
    | _ => { s with pin := { s.pin with testLevel := high } }
  done (if old ≠ high && (s.mode ≠ 0 || s.pin.testState) then t.set1 F.PAD_STRAPS.CHANGED else t)

/-! ### The test access port -/

/-- The IDCODE register of the test access port: the stepping in bits [31:28] and the part number in bits [27:12]; the code of the
stepping and the bits below are not given (R385). -/
def idcode : BitVec 32 := BitVec.ofNat 32 (Config.idcodeStepping % 16 * 2 ^ 28 + 0x0262 * 2 ^ 12 + Config.idcodeLow % 2 ^ 12)

/-- What the port executes of the instruction loaded: while RESET_N is high BYPASS and IDCODE alone, and BYPASS in the place of
every other one (R385). -/
def State.tapRuns (s : State) : TapInstr :=
  match s.pin.tap with
  | .scan => if s.pin.resetN then .bypass else .scan
  | i => i

/-- An instruction is loaded into the test access port. With RESET_N high any but BYPASS and IDCODE loads BYPASS; with RESET_N low
the boundary-scan instructions of IEEE 1149.1 and 1149.6 load as they are, and what they do to the pins is those standards'
(R385; log 177). -/
def execTapInstructionUpdate (i : TapInstr) (s : State) : Host.Outcome State Fault Refusal :=
  let i := if i = .scan && s.pin.resetN then .bypass else i
  done { s with pin := { s.pin with tap := i } }

end Sys2Proof.Machine
end

