-- ==== Sys2Proof/Machine/Registers.lean ====
section
/-! DEFINITION. The meanings of the register commands. -/
namespace Sys2Proof.Machine

/-- A register write (R12, R344, R398 to R401). -/
def execRegisterWrite (m : Master) (off : Nat) (w : BusWidth) (v : Word) (s : State) :
    Host.Outcome State Fault Refusal := done (s.busWrite m off w v)

/-- A write of ones to W1C bits; `events` are the bits that hardware sets in the same cycle (R13). -/
def execW1cClear (m : Master) (off : Nat) (w : BusWidth) (v events : Word) (s : State) :
    Host.Outcome State Fault Refusal := done (s.busClear m off w v events)

/-- The code of a master (Table 16-2). -/
def busMaster : Master → Nat
  | .keeper => 24
  | .docentM c => 16 + c
  | .docentU c => 16 + c
  | .host => 31

/-- The DDR5 data that a read needs are fetched from their channel: the Lacuna record at the cursor, or the burst of a survey
record (R171, R204, R406). -/
def State.readFetch (s : State) (m : Master) (off : Nat) : State :=
  if s.silent m then s
  else if 0x150020 ≤ off && off < 0x150040 then
    (if s.lacHeld (s.rd F.LAC_CURSOR.INDEX) then
      s.unitRead (busMaster m) (s.lacBase + s.rd F.LAC_CURSOR.INDEX % s.lacSize * 32) 32 1 else s)
  else if bar2Base ≤ off && m = .host then
    (match s.bar2Ddr (off - bar2Base) with
      | some x => s.unitRead (busMaster m) (burstOf x) 64 1
      | none => s)
  else s

/-- A read; `events` are the counts of the events of the same cycle, in the places of their fields (R13). -/
def execRcRead (m : Master) (off : Nat) (w : BusWidth) (events : Word) (s : State) :
    Host.Outcome State Fault Refusal := done ((s.readFetch m off).busRead m off w events)

end Sys2Proof.Machine
end

