-- ==== Sys2Proof/Machine/Time.lean ====
section
/-! DEFINITION. The commands of the time bases and the Ethernet ports (R255 to R267). -/
namespace Sys2Proof.Machine

/-- A written step took effect in the cycle of a TB1 hardware sample, which is discarded: it was measured against a base
before the step (R256). A step of TB0 meets the samples that subtract TB1 from TB0. -/
def State.sampleDrop (s : State) (b : Nat) (sampled : Bool) : State :=
  if sampled && (b = 1 || s.onTb0) then s.set1 F.TIM_ERR.SAMPLE_DISCARDED else s

/-- A write of TIM_SAMPLEb submits a sample; one for a base whose samples come from the hardware is ignored (R256).
Where it does not step, a TB1 hardware sample of the same cycle is a command of its own. -/
def execTimSampleWrite (m : Master) (b : Fin 2) (w : BusWidth) (v : WrittenSample) (s : State) :
    Host.Outcome State Fault Refusal :=
  let off := (F.TIM_SAMPLE.OFFSET b).off
  done (s.gated m off (fun s =>
    let x := (s.staged off w v.value).toNat
    let s := s.setReg off (BitVec.ofNat 64 x)
    if b.val = 1 && s.rd F.TIM_CFG.TB1_SOURCE ≠ 2 then s.set1 F.TIM_ERR.SAMPLE_IGNORED
    else
      let flag : Bool := x / 2 ^ 48 % 2 = 1
      let stepped := s.callsStep b (signed 48 x) flag && (b.val = 0 || s.rd F.SLT_STATUS.STATE = 0)
      (s.servoSample b (signed 48 x) flag).sampleDrop b (v.sampled && stepped)))

/-- Every 1 ms the hardware subtracts TB1 from TB0 (R256). -/
def execTb1HwSample (s : State) : Host.Outcome State Fault Refusal :=
  done (if s.onTb0 then s.servoSample 1 (((s.tb0.total : Int) - s.tb1.total) / 2 ^ 32) false else s)

/-- A write of TIM_SETb replaces the seconds of a base, as a step; a hardware sample of the same cycle is then discarded
(R256, R258, R259). -/
def execTimSetWrite (m : Master) (b : Fin 3) (w : BusWidth) (v : BitVec 64) (sampled : Bool) (s : State) :
    Host.Outcome State Fault Refusal :=
  let off := (F.TIM_SET.SEC b).off
  done (s.gated m off (fun s =>
    let x := s.staged off w v
    let s := s.setReg off x
    if b.val = 2 then s.set1 F.TIM_ERR.SAMPLE_IGNORED
    else if b.val = 1 && s.rd F.SLT_STATUS.STATE ≠ 0 then s.set1 F.TIM_ERR.STEP_DEFERRED
    else
      ((s.setBase b { s.timeBase b with sec := x.toNat % 2 ^ 48 }).stepped b).sampleDrop b sampled))

/-- No sample for HOLD × 100 ms (Table 11-2). -/
def execServoHoldoverTimeout (b : Fin 2) (s : State) : Host.Outcome State Fault Refusal :=
  let st := s.rd (servoField b)
  done (if st = 1 || st = 2 then s.servoState b 3 else s)

/-- A read of TIM_TBn_SEC (R255). -/
def execTimSecRead (m : Master) (n : Fin 3) (w : BusWidth) (upper : Bool) (s : State) :
    Host.Outcome State Fault Refusal :=
  done (s.busRead m ((F.TIM_TB_SEC.SEC n).off + (if upper then 4 else 0)) w 0)

/-- A read of TIM_TXTS_HI (R267). -/
def execTxtsHiRead (m : Master) (w : BusWidth) (upper : Bool) (s : State) : Host.Outcome State Fault Refusal :=
  done (s.busRead m (F.TIM_TXTS_HI.SEC.off + (if upper then 4 else 0)) w 0)

/-! ### The Ethernet ports -/

/-- The frame's destination or Ethertype as a number, most significant byte first. -/
def beNat (bs : List Byte) : Nat := bs.foldl (fun a b => a * 256 + b.toNat) 0

/-- The Ethernet multicast address of an IPv4 group: 01-00-5E and the low 23 bits of the group's address. -/
def groupMac (a b c d : Nat) : Nat := 0x01005E000000 + (a * 2 ^ 24 + b * 2 ^ 16 + c * 2 ^ 8 + d) % 2 ^ 23

/-- The destinations that a port accepts (R262), and where TRANSPORT selects UDP the groups 224.0.1.129 and 224.0.0.107
(R263). -/
def State.ethAccepts (s : State) (p : Nat) (frame : List Byte) : Bool :=
  let dst := beNat (frame.take 6)
  dst = s.rd (F.TIM_ETH_CFG.MAC p) || dst = 0xFFFFFFFFFFFF || dst = 0x011B19000000 || dst = 0x0180C200000E
    || (s.rd F.TIM_CFG.TRANSPORT ≠ 0 && (dst = groupMac 224 0 1 129 || dst = groupMac 224 0 0 107))

/-- Whether a frame has more than one 802.1Q tag (R262). -/
def twoTags (frame : List Byte) : Bool :=
  beNat ((frame.drop 12).take 2) = 0x8100 && beNat ((frame.drop 16).take 2) = 0x8100

/-- The frame from its Ethertype on, past an 802.1Q tag. -/
def etherBody (frame : List Byte) : List Byte :=
  let b := frame.drop 12
  if beNat (b.take 2) = 0x8100 then b.drop 4 else b

/-- Whether a message type is one of Sync, Delay_Req, Pdelay_Req and Pdelay_Resp (R264). -/
def ptpEvent (msg : List Byte) : Bool :=
  match msg with
  | b :: _ => b.toNat % 16 < 4
  | [] => false

/-- Whether a frame is a PTP event message on the transports in use (R263, R264). -/
def State.isEvent (s : State) (frame : List Byte) : Bool :=
  let b := etherBody frame
  let t := s.rd F.TIM_CFG.TRANSPORT
  let l2 := beNat (b.take 2) = 0x88F7 && t ≠ 1 && ptpEvent (b.drop 2)
  let ip := b.drop 2
  let ihl := (ip.headD 0#8).toNat % 16 * 4
  let udp := beNat (b.take 2) = 0x0800 && t ≠ 0 && (ip.getD 9 0#8).toNat = 17 && beNat ((ip.drop (ihl + 2)).take 2) = 319
    && ptpEvent (ip.drop (ihl + 8))
  l2 || udp

/-- The present TB0 moved back by a number of 10GBASE-R UI of 16/165 ns within the cycle, forward by a signed latency in
1/16 ns, and by the step in q16 ns that the cycle still brings (R264). -/
def State.ethStamp (s : State) (ui : Nat) (latency step : Int) : TimeBase :=
  timeOf ((s.tb0.total : Int) - (ui * 16 * 2 ^ 48 / 165 : Nat) + latency * 2 ^ 44 + step * 2 ^ 32)

/-- A frame arrives: an accepted one is stamped in TB0 and written to the port's ring, or dropped when the ring is full;
every other is discarded (R262, R264, R265). -/
def execEthFrameReceived (p : Fin 2) (frame : List Byte) (fcsOk : Bool) (point : StampPoint) (s : State) :
    Host.Outcome State Fault Refusal :=
  if s.rd F.TIM_CFG.PORT_EN / 2 ^ p.val % 2 = 0 || !fcsOk || 1518 < frame.length || twoTags frame
      || !s.ethAccepts p frame then done s
  else
    let tail := s.rd (F.TIM_ETH_RX.TAIL p)
    if (tail + 1) % 64 = s.rd (F.TIM_ETH_RX.HEAD p) then
      done ((s.set1 F.TIM_ERR.RX_DROP).incSat F.TIM_COUNTS.RX_DROP)
    else
      let lat := if p.val = 0 then s.rd F.TIM_LATENCY.RX0 else s.rd F.TIM_LATENCY.RX1
      let t := s.ethStamp point.ui (-(lat : Int)) point.step
      let head := leBytes 2 frame.length ++ leBytes 1 (if s.isEvent frame then 1 else 0) ++ leBytes 1 0
        ++ leBytes 6 t.sec ++ leBytes 4 t.ns ++ leBytes 2 (t.frac / 2 ^ 32)
      let a := s.rd (F.TIM_ETH_CFG.RING p) * 131072 + tail * 2048
      let s := s.sramWrite a (head ++ frame) false
      done ((s.wr (F.TIM_ETH_RX.TAIL p) (tail + 1)).source (16 + p))

/-- The frames queued at a port. -/
def State.txQueue (s : State) (p : Nat) : List TxFrame := if p = 0 then s.tim.tx0 else s.tim.tx1
def State.setTxQueue (s : State) (p : Nat) (q : List TxFrame) : State :=
  if p = 0 then { s with tim := { s.tim with tx0 := q } } else { s with tim := { s.tim with tx1 := q } }

/-- A write of TIM_ETHp_TX queues a frame, or is discarded (R266). -/
def execEthTxWrite (m : Master) (p : Fin 2) (w : BusWidth) (v : BitVec 64) (s : State) :
    Host.Outcome State Fault Refusal :=
  let off := (F.TIM_ETH_TX.ADDR p).off
  done (s.gated m off (fun s =>
    let x := s.staged off w v
    let s := s.setReg off x
    let f : TxFrame := ⟨(F.TIM_ETH_TX.ADDR p).get x, (F.TIM_ETH_TX.LEN p).get x, (F.TIM_ETH_TX.TS_REQ p).get x = 1,
      (F.TIM_ETH_TX.ID p).get x⟩
    if f.len < 14 || 1518 < f.len || 8 ≤ (s.txQueue p).length then
      (s.set1 F.TIM_ERR.TX_DROP).incSat F.TIM_COUNTS.TX_DROP
    else s.setTxQueue p (s.txQueue p ++ [f])))

/-- A transmit stamp enters the queue of 16, or is lost; `freed` says that a read of TIM_TXTS_HI follows in the same cycle,
whose entry counts as free already (R267). -/
def State.stampPush (s : State) (x : TxStamp) (freed : Bool) : State :=
  if s.tim.stamps.length < 16 + (if freed then 1 else 0) then
    ({ s with tim := { s.tim with stamps := s.tim.stamps ++ [x] } }.stampShow).announce 7 18
  else ((s.set1 F.TIM_ERR.TX_TS_OVF).incSat F.TIM_COUNTS.TS_LOST).announce 7 18

/-- The frame at the head of a port's queue is sent, with its pad and FCS; with TS_REQ it is stamped (R264, R266, R267). -/
def execEthFrameSent (p : Fin 2) (at_ : SendPoint) (s : State) : Host.Outcome State Fault Refusal :=
  match s.txQueue p with
  | [] => done s
  | f :: rest =>
    let b := memRead s.sram f.addr f.len
    let b := b ++ List.replicate (60 - b.length) 0#8
    let b := b ++ leBytes 4 (crc32e b)
    let s := s.setTxQueue p rest
    let s := if p.val = 0 then { s with tim := { s.tim with out0 := b } } else { s with tim := { s.tim with out1 := b } }
    let lat := if p.val = 0 then s.rd F.TIM_LATENCY.TX0 else s.rd F.TIM_LATENCY.TX1
    let t := s.ethStamp at_.point.ui lat at_.point.step
    done (if f.stamp then s.stampPush ⟨t.sec, t.ns, t.frac / 2 ^ 32, p, f.id⟩ at_.freed else s)

/-- A port's receiver gains or loses block lock (TIM_STATUS). -/
def execEthBlockLockChange (p : Fin 2) (lock : Bool) (s : State) : Host.Outcome State Fault Refusal :=
  done (s.wrBit (if p.val = 0 then F.TIM_STATUS.ETH0_LINK else F.TIM_STATUS.ETH1_LINK) lock)

end Sys2Proof.Machine
end

