-- ==== Sys2Proof/Machine/Twin.lean ====
section
/-! DEFINITION. The commands of a pair: the authority and failure lines, heartbeats, pairing, digests, mirrored state,
hand-over and the time exchange (R270 to R291). -/
namespace Sys2Proof.Machine

/-! ### Lines -/

/-- TWIN_PEER_AUTH has changed and has stood for 100 ns (R270 to R273, R291). -/
def execTwinPeerAuthChange (high : Bool) (s : State) : Host.Outcome State Fault Refusal :=
  let s := s.wrBit F.TWN_STATUS.PEER_AUTH high
  let s := { s with twn := { s.twn with peerLow := !high }, pin := { s.pin with peerHigh := high } }
  let s := if s.saf.acting then s.blankRelease else s
  let s := if high then s.demandLapse else s
  done s.windowLow.authSettle

/-- Both authority lines have been high for 200 ns: the Replica drops its own (R270). -/
def execBothAuth (s : State) : Host.Outcome State Fault Refusal :=
  if s.hasAuth && s.bit F.TWN_STATUS.PEER_AUTH && s.bit F.TWN_CFG.MODE && s.bit F.TWN_CFG.ROLE then
    let s := ((s.clr F.TWN_STATUS.AUTH).soloWait.set1 F.TWN_ERR.BOTH_AUTH).clr F.TWN_STATUS.YIELD_PENDING
    done (s.twinEvent.twinRecord 4)
  else done s

/-- TWIN_FAIL_IN is accepted at a level; high, a standby takes authority (R288). -/
def execTwinFailInHigh (high : Bool) (s : State) : Host.Outcome State Fault Refusal :=
  let s := s.wrBit F.TWN_STATUS.PEER_FAIL high
  done (if high && s.pairState = 3 && s.pairRuns then s.takeDemand else s)

/-- ALONE_WAIT has elapsed in SOLO_WAIT (Table 12-1). -/
def execAloneWaitExpiry (s : State) : Host.Outcome State Fault Refusal :=
  if s.pairState = 1 then done { s with twn := { s.twn with waited := true } }.authSettle else done s

/-! ### Heartbeats -/

/-- The 10 µs of a heartbeat: one is sent on lanes 0 and 7, and a period without the twin's is counted (R280, Table
14-6). -/
def execHeartbeatSend (s : State) : Host.Outcome State Fault Refusal :=
  if !s.bit F.TWN_CFG.MODE then done s
  else
    let s := if s.twn.beat then s else (s.incSat F.TWN_COUNTS.HB_MISSED).bucketReport 15 0
    let s := { s with twn := { s.twn with beat := false } }
    done (if s.rd F.IKL_STATUS.STATE = 3 then (s.iklSend 0 0x11 s.beatBytes []).iklSend 7 0x11 s.beatBytes [] else s)

/-- A HEARTBEAT compared with the device's own position (R280). -/
def State.lockstep (s : State) (leaf : Nat) (slot : Int) : State :=
  let tol : Int := s.rd F.TWN_CFG.LOCK_TOL
  if s.paired && (leaf ≠ s.position.1 || decide (tol < (slot - s.position.2).natAbs)) then
    ((s.set1 F.TWN_ERR.LOCKSTEP).source 26).twinRecord 3 |>.leavePaired
  else s

/-- A HEARTBEAT arrives (R280, R286, TWN_PEER_POS). -/
def execHeartbeat (b : IklBlock) (s : State) : Host.Outcome State Fault Refusal :=
  done (s.iklMessage 0x11 0 b (fun head s =>
    let leaf := fieldAt head 4 2
    let slot := fieldAt head 6 4
    let flags := fieldAt head 3 1
    let s := ((s.wr F.TWN_PEER_POS.SLOT slot).wr F.TWN_PEER_POS.LEAF leaf).wr F.TWN_PEER_POS.STATE (fieldAt head 2 1)
    let s := { s with twn := { s.twn with
      alive := true, beat := true, openFrom := fieldAt head 10 4, peerDiverged := flags / 2 % 2 = 1
      peerRunning := flags / 4 % 2 = 1 } }
    s.lockstep leaf (signed 32 slot)))

/-- No valid HEARTBEAT for HB_TIMEOUT (R280, R288, Table 12-1). -/
def execHbLost (s : State) : Host.Outcome State Fault Refusal :=
  if !s.bit F.TWN_CFG.MODE || !s.twn.alive then done s
  else
    let s := { s with twn := { s.twn with alive := false } }
    let s := ((s.set1 F.TWN_ERR.HB_LOST).source 26).twinRecord 2
    let standby := s.pairState = 3 && s.pairRuns && !s.bit F.TWN_STATUS.PEER_AUTH
    done (if standby then s.takeDemand else s.leavePaired)

/-! ### Pairing -/

/-- What HELLO says (Table 12-3). -/
def State.helloBytes (s : State) : List Byte :=
  leBytes 1 1 ++ leBytes 1 (s.rd F.TWN_CFG.ROLE) ++ leBytes 2 (s.rd F.TIM_CFG.NODE_ID) ++ leBytes 1 (s.rd F.BLK_CFG.PORT)
    ++ leBytes 1 0 ++ leBytes 4 (s.rd F.BOOT_CAT.CAT_HASH)

/-- HELLO is sent until the twins agree, and when what it says has changed (R276, R278, Table 12-3). -/
def execHelloSend (s : State) : Host.Outcome State Fault Refusal :=
  if !s.bit F.TWN_CFG.MODE || s.rd F.IKL_STATUS.STATE ≠ 3 || (s.bit F.TWN_PEER.AGREED && s.ikl.hello = s.helloBytes) then done s
  else done ({ s with ikl := { s.ikl with hello := s.helloBytes } }.iklSend 0 0x10 s.helloBytes [])

/-- Whether a twin's HELLO agrees (R278). -/
def State.helloAgrees (s : State) (head : List Byte) : Bool :=
  fieldAt head 2 1 = 1 && fieldAt head 3 1 ≠ s.rd F.TWN_CFG.ROLE && fieldAt head 4 2 ≠ s.rd F.TIM_CFG.NODE_ID
    && fieldAt head 6 1 ≠ s.rd F.BLK_CFG.PORT && fieldAt head 8 4 = s.rd F.BOOT_CAT.CAT_HASH

/-- A HELLO of the twin arrives (R278). -/
def execIkisalHello (b : IklBlock) (s : State) : Host.Outcome State Fault Refusal :=
  done (s.iklMessage 0x10 0 b (fun head s =>
    let s := ((s.wr F.TWN_PEER.NODE_ID (fieldAt head 4 2)).wr F.TWN_PEER.ROLE (fieldAt head 3 1)).wr F.TWN_PEER.CAT_HASH
      (fieldAt head 8 4)
    if s.helloAgrees head then
      { s.set1 F.TWN_PEER.AGREED with twn := { s.twn with faulted := false, peerBanks := [], peerResult := none } }
    else
      let s := if s.twn.faulted then s else s.twinRecord 1
      let s := ((s.set1 F.TWN_ERR.PAIR_FAULT).source 26).clr F.TWN_PEER.AGREED
      { s with twn := { s.twn with faulted := true } }.leavePaired))

/-! ### Digests -/

/-- Whether DIGESTs of a leaf are kept: it is in progress, or admitted as the next leaf (R282). -/
def State.digestWanted (s : State) (leaf : Nat) : Bool :=
  s.fol.order.any (fun p => (s.leafAt p).any (fun l => l.id = leaf))

/-- A DIGEST of the twin arrives: it is kept, and held against the device's own (R282). -/
def execDigest (b : IklBlock) (s : State) : Host.Outcome State Fault Refusal :=
  done (s.iklMessage 0x20 0 b (fun head s =>
    let d : TwinDigest := ⟨fieldAt head 2 2, signed 32 (fieldAt head 4 4), fieldAt head 8 1, fieldAt head 9 1,
      fieldAt head 10 4⟩
    if !s.digestWanted d.leaf then s
    else
      let others := s.twn.digests.filter
        (fun (x : TwinDigest) => !(x.leaf = d.leaf && x.row = d.row && x.col = d.col))
      let s := { s with twn := { s.twn with digests := d :: others } }
      [0, 1].foldl (fun s p => match s.leafAt p with
        | none => s
        | some l =>
          if l.id ≠ d.leaf then s
          else match l.ras.tileAt d.row d.col with
            | none => s
            | some k => s.digestJudge p l.id k) s))

/-! ### Mirrored state -/

/-- COMMIT: the standby makes the same commit of its own staging buffer (R284). -/
def execIkisalCommit (b : IklBlock) (s : State) : Host.Outcome State Fault Refusal :=
  done (s.iklMessage 0x30 0 b (fun head s =>
    if s.hasAuth then s else (s.wr F.BCT_COMMIT_CRC.CRC (fieldAt head 4 4)).commitGo (fieldAt head 2 2)))

/-- COMMIT_RESULT of the twin (R279, R284). -/
def execCommitResult (b : IklBlock) (s : State) : Host.Outcome State Fault Refusal :=
  done (s.iklMessage 0x31 0 b (fun head s =>
    let leaf := fieldAt head 2 2
    { s with twn := { s.twn with
      peerResult := some (leaf, fieldAt head 4 1, fieldAt head 6 4)
      peerBanks := (leaf, fieldAt head 6 4) :: s.twn.peerBanks.filter (fun b => b.1 ≠ leaf) } }.commitCompare))

/-- A TABLE message: 64 bytes of the standby's staging buffer (R284). -/
def execTableMsg (b : IklBlock) (body : List Byte) (s : State) : Host.Outcome State Fault Refusal :=
  done (s.iklMessage 0x32 4 b (fun head s =>
    let body := iklFollow b body
    let off := fieldAt head 2 4
    if s.hasAuth || off % 64 ≠ 0 || stageLen ≤ off || body.length ≠ 64 then s
    else s.unitWrite 32 (s.stageBase + off) body false))

/-- A mirrored record: its own check decides; a Lacuna record is stored with MIRRORED set, an Accession Log record
enters the log (R274, R285). -/
def execRecordMsg (b : IklBlock) (body : List Byte) (s : State) : Host.Outcome State Fault Refusal :=
  done (s.iklMessage 0x40 2 b (fun head s =>
    let body := iklFollow b body
    let kind := fieldAt head 2 2
    if body.length ≠ 32 || fieldAt body 28 4 ≠ crc32c (body.take 28) || kind = 0 || 2 < kind then s.iklDiscard
    else if kind = 1 then
      let r : LacRec := ⟨fieldAt body 0 2, fieldAt body 2 1, fieldAt body 3 1 ||| flagMirrored, fieldAt body 4 4,
        fieldAt body 8 4, BitVec.ofNat 64 (fieldAt body 12 8), fieldAt body 20 4, fieldAt body 24 4, true⟩
      { s with lac := { s.lac with closed := s.lac.closed ++ [r] } }
    else
      s.aclEnter ⟨fieldAt body 0 4, fieldAt body 4 2, fieldAt body 6 2, fieldAt body 8 4, fieldAt body 12 4,
        (body.drop 16).take 12⟩))

/-- The standby ends a leaf as END says (R283). -/
def State.endByTwin (s : State) (leaf first detail : Nat) (orderly : Bool) : State :=
  match s.curLeaf with
  | none => s
  | some (p, l, h) =>
    let st := s.rd F.SLT_STATUS.STATE
    if l.id ≠ leaf || s.slt.lbDue then s
    else if st = 1 then (s.endLeafAt p l h orderly first detail false).leafGone p l h
    else if (st = 2 || st = 3 || (st = 4 && !orderly)) && first ≤ hdrLast h then
      s.endLeafAt p l h orderly first detail false
    else s

/-- END of the authority: it confirms an end of the standby's own, or ends the leaf (R283). -/
def execEndMsg (b : IklBlock) (s : State) : Host.Outcome State Fault Refusal :=
  done (s.iklMessage 0x50 0 b (fun head s =>
    let leaf := fieldAt head 2 2
    if s.hasAuth then s
    else if s.twn.endWait = some leaf then { s with twn := { s.twn with endWait := none, ownEnd := none } }
    else s.endByTwin leaf (fieldAt head 4 4) (fieldAt head 8 1) (fieldAt head 9 1 = 0)))

/-- 10 µs after a standby's own end without END (R283). -/
def execEndConfirmTimeout (s : State) : Host.Outcome State Fault Refusal :=
  if s.twn.endWait.isNone then done s
  else
    let s := { s with twn := { s.twn with endWait := none } }
    done (if s.pairState = 3 then s.diverge.source 26 else s)

/-- HANDOVER: the standby takes authority from the named leaf on (R291). -/
def execHandover (b : IklBlock) (s : State) : Host.Outcome State Fault Refusal :=
  done (s.iklMessage 0x51 0 b (fun head s =>
    if s.pairState = 3 then { s with twn := { s.twn with handover := some (fieldAt head 2 2) } }.authSettle else s))

/-- TWN_CTL.YIELD written (R291). -/
def execTwnYield (m : Master) (s : State) : Host.Outcome State Fault Refusal :=
  done (s.gated m F.TWN_CTL.YIELD.off State.yieldAsk)

/-! ### The time exchange -/

/-- The Original sends TIME_SYNC every 100 µs when TB1_SOURCE is the twin (R287). -/
def execTimeSyncSend (s : State) : Host.Outcome State Fault Refusal :=
  if !s.bit F.TWN_CFG.MODE || s.bit F.TWN_CFG.ROLE || s.rd F.TIM_CFG.TB1_SOURCE ≠ 1 || s.rd F.IKL_STATUS.STATE ≠ 3 then
    done s
  else
    let n := s.twn.exchangeNext
    let s := s.iklSend 0 0x12 (leBytes 2 n ++ leBytes 8 s.timeMsg) []
    done { s with twn := { s.twn with exchangeNext := (n + 1) % 65536 } }

/-- TIME_SYNC: the Replica stamps T2 and sends TIME_DELAY with T3 (R287). -/
def execTimeSync (b : IklBlock) (s : State) : Host.Outcome State Fault Refusal :=
  done (s.iklMessage 0x12 0 b (fun head s =>
    if !s.bit F.TWN_CFG.ROLE then s
    else
      let n := fieldAt head 2 2
      let t := s.timeMsg
      let s := { s with twn := { s.twn with exchange := some (n, fieldAt head 4 8, t, t) } }
      s.iklSend 0 0x13 (leBytes 2 n ++ leBytes 8 t) []))

/-- TIME_DELAY: the Original stamps T4 and returns it (R287). -/
def execTimeDelay (b : IklBlock) (s : State) : Host.Outcome State Fault Refusal :=
  done (s.iklMessage 0x13 0 b (fun head s =>
    if s.bit F.TWN_CFG.ROLE then s
    else s.iklSend 0 0x14 (leBytes 2 (fieldAt head 2 2) ++ leBytes 8 s.timeMsg) []))

/-- TIME_RESP: the Replica submits its sample (R256, R257, R287). -/
def execTimeResp (b : IklBlock) (s : State) : Host.Outcome State Fault Refusal :=
  done (s.iklMessage 0x14 0 b (fun head s =>
    match s.twn.exchange with
    | none => s
    | some (n, t1, t2, t3) =>
      if n ≠ fieldAt head 2 2 then s
      else
        let s := { s with twn := { s.twn with exchange := none } }
        let o := (q16Diff t1 t2 + q16Diff (fieldAt head 4 8) t3) / 2 + s.rdInt F.TIM_CFG.IKL_ASYM * 4096
        if s.rd F.TIM_CFG.TB1_SOURCE = 1 && !s.onTb0 && !s.twn.tb1Held then s.servoSample 1 o false else s))

/-- 50 µs without TIME_RESP (R287). -/
def execTimeExchangeTimeout (s : State) : Host.Outcome State Fault Refusal :=
  done { s with twn := { s.twn with exchange := none } }

end Sys2Proof.Machine
end

