-- ==== Sys2Proof/Machine/Dispatch.lean ====
section
/-! DEFINITION. One arm for each command: its meaning. -/
namespace Sys2Proof.Machine

/-- The effect of a command on everything but the queue. -/
def exec (i : Instr) (s : State) : Host.Outcome State Fault Refusal :=
  match i with
  | .registerWrite m off w v => Sys2Proof.Machine.execRegisterWrite m off w v s
  | .w1cClear m off w v events => Sys2Proof.Machine.execW1cClear m off w v events s
  | .rcRead m off w events => Sys2Proof.Machine.execRcRead m off w events s
  | .setupDoorbell m w v => Sys2Proof.Machine.execSetupDoorbell m w v s
  | .setupRecordFetched record => Sys2Proof.Machine.execSetupRecordFetched record s
  | .pcieLinkReset down bme => Sys2Proof.Machine.execPcieLinkReset down bme s
  | .pcieLinkTrained speed width ltssm bme => Sys2Proof.Machine.execPcieLinkTrained speed width ltssm bme s
  | .pcieFatalError => Sys2Proof.Machine.execPcieFatalError s
  | .pcieCorrectableError => Sys2Proof.Machine.execPcieCorrectableError s
  | .unexpectedCompletion => Sys2Proof.Machine.execUnexpectedCompletion s
  | .sqTailDoorbell m n tail => Sys2Proof.Machine.execSqTailDoorbell m n tail s
  | .submissionEntryRead n entry => Sys2Proof.Machine.execSubmissionEntryRead n entry s
  | .blockDataReceived p seq data => Sys2Proof.Machine.execBlockDataReceived p seq data s
  | .poisonedCompletion p seq data => Sys2Proof.Machine.execPoisonedCompletion p seq data s
  | .completionTimeout k p read => Sys2Proof.Machine.execCompletionTimeout k p read s
  | .completionPosted => Sys2Proof.Machine.execCompletionPosted s
  | .retiredTimerExpiry p => Sys2Proof.Machine.execRetiredTimerExpiry p s
  | .hqHeadWrite m q head => Sys2Proof.Machine.execHqHeadWrite m q head s
  | .refetchRequestPosted => Sys2Proof.Machine.execRefetchRequestPosted s
  | .msixSend v => Sys2Proof.Machine.execMsixSend v s
  | .cqModDelayExpiry => Sys2Proof.Machine.execCqModDelayExpiry s
  | .msixUnmask v => Sys2Proof.Machine.execMsixUnmask v s
  | .dmaEnable m k => Sys2Proof.Machine.execDmaEnable m k s
  | .dmaDisable m k inFlight => Sys2Proof.Machine.execDmaDisable m k inFlight s
  | .dmaGo m k => Sys2Proof.Machine.execDmaGo m k s
  | .dmaStop m k => Sys2Proof.Machine.execDmaStop m k s
  | .shadowCommit m k late => Sys2Proof.Machine.execShadowCommit m k late s
  | .dmaBurst k hostData finds => Sys2Proof.Machine.execDmaBurst k hostData finds s
  | .dmaHandover k => Sys2Proof.Machine.execDmaHandover k s
  | .dmaDescriptorFetched k => Sys2Proof.Machine.execDmaDescriptorFetched k s
  | .dmaBusTimeout k readData => Sys2Proof.Machine.execDmaBusTimeout k readData s
  | .dmaDrainComplete k => Sys2Proof.Machine.execDmaDrainComplete k s
  | .dmaErrClear m k bits => Sys2Proof.Machine.execDmaErrClear m k bits s
  | .blockChecked p seq disturbed => Sys2Proof.Machine.execBlockChecked p seq disturbed s
  | .leafAdmission p => Sys2Proof.Machine.execLeafAdmission p s
  | .blockConsumed p => Sys2Proof.Machine.execBlockConsumed p s
  | .tileRowDeadline p => Sys2Proof.Machine.execTileRowDeadline p s
  | .gugEnable m => Sys2Proof.Machine.execGugEnable m s
  | .gugDisable m written => Sys2Proof.Machine.execGugDisable m written s
  | .gugGo m => Sys2Proof.Machine.execGugGo m s
  | .gugJobComplete flaw => Sys2Proof.Machine.execGugJobComplete flaw s
  | .gugDrainComplete => Sys2Proof.Machine.execGugDrainComplete s
  | .gugErrClear m bits => Sys2Proof.Machine.execGugErrClear m bits s
  | .densityRowDone p poison flatten => Sys2Proof.Machine.execDensityRowDone p poison flatten s
  | .pecRowDone p poison => Sys2Proof.Machine.execPecRowDone p poison s
  | .tileStart e => Sys2Proof.Machine.execTileStart e s
  | .edgePhaseEnd e poison ecc corrected => Sys2Proof.Machine.execEdgePhaseEnd e poison ecc corrected s
  | .sweepEnd e f => Sys2Proof.Machine.execSweepEnd e f s
  | .tallyVerdict e => Sys2Proof.Machine.execTallyVerdict e s
  | .tileScatterEnd e ecc corrected => Sys2Proof.Machine.execTileScatterEnd e ecc corrected s
  | .talInjectWrite m v => Sys2Proof.Machine.execTalInjectWrite m v s
  | .bctCommitGo m leaf => Sys2Proof.Machine.execBctCommitGo m leaf s
  | .bctLoadStart => Sys2Proof.Machine.execBctLoadStart s
  | .bctCommitResolved => Sys2Proof.Machine.execBctCommitResolved s
  | .dueMarkCrossing second => Sys2Proof.Machine.execDueMarkCrossing second s
  | .slotStrobe => Sys2Proof.Machine.execSlotStrobe s
  | .slotReleaseDecision sealDiffers => Sys2Proof.Machine.execSlotReleaseDecision sealDiffers s
  | .frameReadDone corrected bad wings => Sys2Proof.Machine.execFrameReadDone corrected bad wings s
  | .frameTransmitStart free idle => Sys2Proof.Machine.execFrameTransmitStart free idle s
  | .reserveRowRemapCopy => Sys2Proof.Machine.execReserveRowRemapCopy s
  | .encoderTransition n edge fast velocity accel => Sys2Proof.Machine.execEncoderTransition n edge fast velocity accel s
  | .encoderLos n => Sys2Proof.Machine.execEncoderLos n s
  | .encoderIndex n => Sys2Proof.Machine.execEncoderIndex n s
  | .leafArm twin => Sys2Proof.Machine.execLeafArm twin s
  | .trackerPause => Sys2Proof.Machine.execTrackerPause s
  | .pauseLimitExpiry => Sys2Proof.Machine.execPauseLimitExpiry s
  | .leafBoundary twin => Sys2Proof.Machine.execLeafBoundary twin s
  | .sltAbort m => Sys2Proof.Machine.execSltAbort m s
  | .blankReqAssert => Sys2Proof.Machine.execBlankReqAssert s
  | .blankReqRelease => Sys2Proof.Machine.execBlankReqRelease s
  | .blankLasting => Sys2Proof.Machine.execBlankLasting s
  | .stageSlowHoldExpiry => Sys2Proof.Machine.execStageSlowHoldExpiry s
  | .dutyVerdict => Sys2Proof.Machine.execDutyVerdict s
  | .dutySubwindowRoll plate => Sys2Proof.Machine.execDutySubwindowRoll plate s
  | .lacunaOpenLimitExpiry rel => Sys2Proof.Machine.execLacunaOpenLimitExpiry rel s
  | .lacunaStreamCloseExpiry => Sys2Proof.Machine.execLacunaStreamCloseExpiry s
  | .lacunaRecordWritten => Sys2Proof.Machine.execLacunaRecordWritten s
  | .lacCursorWrite m v => Sys2Proof.Machine.execLacCursorWrite m v s
  | .lacAckWrite m v => Sys2Proof.Machine.execLacAckWrite m v s
  | .amIdleTimer g => Sys2Proof.Machine.execAmIdleTimer g s
  | .status g b => Sys2Proof.Machine.execStatus g b s
  | .statusLost => Sys2Proof.Machine.execStatusLost s
  | .temp g b => Sys2Proof.Machine.execTemp g b s
  | .tempSilent => Sys2Proof.Machine.execTempSilent s
  | .margin g b => Sys2Proof.Machine.execMargin g b s
  | .hello g b => Sys2Proof.Machine.execHello g b s
  | .rate g b => Sys2Proof.Machine.execRate g b s
  | .laneEvent g b => Sys2Proof.Machine.execLaneEvent g b s
  | .blkAlignTimeout g => Sys2Proof.Machine.execBlkAlignTimeout g s
  | .blkBackchannelSilent g => Sys2Proof.Machine.execBlkBackchannelSilent g s
  | .blkBackchannelLock g => Sys2Proof.Machine.execBlkBackchannelLock g s
  | .blkRateSwitch => Sys2Proof.Machine.execBlkRateSwitch s
  | .blkStepUpStart => Sys2Proof.Machine.execBlkStepUpStart s
  | .blkEnable m => Sys2Proof.Machine.execBlkEnable m s
  | .blkDisable m => Sys2Proof.Machine.execBlkDisable m s
  | .blkStepUp m => Sys2Proof.Machine.execBlkStepUp m s
  | .blkRetrain m => Sys2Proof.Machine.execBlkRetrain m s
  | .blkDrainComplete g => Sys2Proof.Machine.execBlkDrainComplete g s
  | .spareSwapAm g => Sys2Proof.Machine.execSpareSwapAm g s
  | .memRequestAdmitted c arrivals => Sys2Proof.Machine.execMemRequestAdmitted c arrivals s
  | .memRequestServed c sub flips block => Sys2Proof.Machine.execMemRequestServed c sub flips block s
  | .memAgePromotion c cls => Sys2Proof.Machine.execMemAgePromotion c cls s
  | .urgentWindowRoll c => Sys2Proof.Machine.execUrgentWindowRoll c s
  | .fabricTimeout c => Sys2Proof.Machine.execFabricTimeout c s
  | .scrubRead bank row => Sys2Proof.Machine.execScrubRead bank row s
  | .scrubWriteback => Sys2Proof.Machine.execScrubWriteback s
  | .scrubBehind => Sys2Proof.Machine.execScrubBehind s
  | .refreshDebtAccrue c => Sys2Proof.Machine.execRefreshDebtAccrue c s
  | .refreshIssue c sub rank span => Sys2Proof.Machine.execRefreshIssue c sub rank span s
  | .mr4Poll c twice hot => Sys2Proof.Machine.execMr4Poll c twice hot s
  | .selfRefreshEntry c => Sys2Proof.Machine.execSelfRefreshEntry c s
  | .selfRefreshExit c span => Sys2Proof.Machine.execSelfRefreshExit c span s
  | .channelTrainingDone c lanes => Sys2Proof.Machine.execChannelTrainingDone c lanes s
  | .channelZeroFillDone c => Sys2Proof.Machine.execChannelZeroFillDone c s
  | .memRetrain m c => Sys2Proof.Machine.execMemRetrain m c s
  | .memApply m c => Sys2Proof.Machine.execMemApply m c s
  | .scrEnable m => Sys2Proof.Machine.execScrEnable m s
  | .scrDisable m => Sys2Proof.Machine.execScrDisable m s
  | .scrDrainComplete => Sys2Proof.Machine.execScrDrainComplete s
  | .svyFrameStart p fnum => Sys2Proof.Machine.execSvyFrameStart p fnum s
  | .svyLinePacket p data crcOk => Sys2Proof.Machine.execSvyLinePacket p data crcOk s
  | .svyFrameEnd p fnum => Sys2Proof.Machine.execSvyFrameEnd p fnum s
  | .svyForeignPacket p vc dt => Sys2Proof.Machine.execSvyForeignPacket p vc dt s
  | .svyEmbeddedPacket p => Sys2Proof.Machine.execSvyEmbeddedPacket p s
  | .svyDphyError p => Sys2Proof.Machine.execSvyDphyError p s
  | .svySetSubmit m p v => Sys2Proof.Machine.execSvySetSubmit m p v s
  | .svyListStart bus => Sys2Proof.Machine.execSvyListStart bus s
  | .svyFrameTimeout bus => Sys2Proof.Machine.execSvyFrameTimeout bus s
  | .i2cWriteDone p end_ => Sys2Proof.Machine.execI2cWriteDone p end_ s
  | .i2cStretchTimeout p => Sys2Proof.Machine.execI2cStretchTimeout p s
  | .svyListComplete p => Sys2Proof.Machine.execSvyListComplete p s
  | .svyRecordWritten p => Sys2Proof.Machine.execSvyRecordWritten p s
  | .svyConfigWrite m p which w upper v => Sys2Proof.Machine.execSvyConfigWrite m p which w upper v s
  | .svyDefectSwap m p count => Sys2Proof.Machine.execSvyDefectSwap m p count s
  | .svyAckWrite m p w upper v => Sys2Proof.Machine.execSvyAckWrite m p w upper v s
  | .svyEnable m p => Sys2Proof.Machine.execSvyEnable m p s
  | .svyDisable m p => Sys2Proof.Machine.execSvyDisable m p s
  | .svyDrainComplete p => Sys2Proof.Machine.execSvyDrainComplete p s
  | .axmPush m stop => Sys2Proof.Machine.execAxmPush m stop s
  | .axisCommandStart => Sys2Proof.Machine.execAxisCommandStart s
  | .axisStep => Sys2Proof.Machine.execAxisStep s
  | .dwellExpiry => Sys2Proof.Machine.execDwellExpiry s
  | .limitActive a positive => Sys2Proof.Machine.execLimitActive a positive s
  | .limitReleased a positive since => Sys2Proof.Machine.execLimitReleased a positive since s
  | .homeInputChange a active => Sys2Proof.Machine.execHomeInputChange a active s
  | .axisStopActive => Sys2Proof.Machine.execAxisStopActive s
  | .axisStopReleased => Sys2Proof.Machine.execAxisStopReleased s
  | .stepMismatch a => Sys2Proof.Machine.execStepMismatch a s
  | .axmEnable m => Sys2Proof.Machine.execAxmEnable m s
  | .axmDisable m => Sys2Proof.Machine.execAxmDisable m s
  | .axmDrainComplete => Sys2Proof.Machine.execAxmDrainComplete s
  | .axmClear m => Sys2Proof.Machine.execAxmClear m s
  | .timSampleWrite m b w v => Sys2Proof.Machine.execTimSampleWrite m b w v s
  | .tb1HwSample => Sys2Proof.Machine.execTb1HwSample s
  | .timSetWrite m b w v sampled => Sys2Proof.Machine.execTimSetWrite m b w v sampled s
  | .servoHoldoverTimeout b => Sys2Proof.Machine.execServoHoldoverTimeout b s
  | .timSecRead m n w upper => Sys2Proof.Machine.execTimSecRead m n w upper s
  | .ethFrameReceived p frame fcsOk point => Sys2Proof.Machine.execEthFrameReceived p frame fcsOk point s
  | .ethTxWrite m p w v => Sys2Proof.Machine.execEthTxWrite m p w v s
  | .ethFrameSent p at_ => Sys2Proof.Machine.execEthFrameSent p at_ s
  | .txtsHiRead m w upper => Sys2Proof.Machine.execTxtsHiRead m w upper s
  | .twinPeerAuthChange high => Sys2Proof.Machine.execTwinPeerAuthChange high s
  | .bothAuth => Sys2Proof.Machine.execBothAuth s
  | .twinFailInHigh high => Sys2Proof.Machine.execTwinFailInHigh high s
  | .aloneWaitExpiry => Sys2Proof.Machine.execAloneWaitExpiry s
  | .heartbeatSend => Sys2Proof.Machine.execHeartbeatSend s
  | .heartbeat b => Sys2Proof.Machine.execHeartbeat b s
  | .hbLost => Sys2Proof.Machine.execHbLost s
  | .helloSend => Sys2Proof.Machine.execHelloSend s
  | .ikisalHello b => Sys2Proof.Machine.execIkisalHello b s
  | .digest b => Sys2Proof.Machine.execDigest b s
  | .ikisalCommit b => Sys2Proof.Machine.execIkisalCommit b s
  | .commitResult b => Sys2Proof.Machine.execCommitResult b s
  | .tableMsg b body => Sys2Proof.Machine.execTableMsg b body s
  | .recordMsg b body => Sys2Proof.Machine.execRecordMsg b body s
  | .endMsg b => Sys2Proof.Machine.execEndMsg b s
  | .endConfirmTimeout => Sys2Proof.Machine.execEndConfirmTimeout s
  | .handover b => Sys2Proof.Machine.execHandover b s
  | .twnYield m => Sys2Proof.Machine.execTwnYield m s
  | .timeSyncSend => Sys2Proof.Machine.execTimeSyncSend s
  | .timeSync b => Sys2Proof.Machine.execTimeSync b s
  | .timeDelay b => Sys2Proof.Machine.execTimeDelay b s
  | .timeResp b => Sys2Proof.Machine.execTimeResp b s
  | .timeExchangeTimeout => Sys2Proof.Machine.execTimeExchangeTimeout s
  | .iklEnable m => Sys2Proof.Machine.execIklEnable m s
  | .iklDisable m => Sys2Proof.Machine.execIklDisable m s
  | .iklStepUp m => Sys2Proof.Machine.execIklStepUp m s
  | .iklRetrain m => Sys2Proof.Machine.execIklRetrain m s
  | .iklTs lock am ts => Sys2Proof.Machine.execIklTs lock am ts s
  | .iklAlignTimeout => Sys2Proof.Machine.execIklAlignTimeout s
  | .iklLinkSilent lock => Sys2Proof.Machine.execIklLinkSilent lock s
  | .iklRateSwitch => Sys2Proof.Machine.execIklRateSwitch s
  | .iklDrainComplete => Sys2Proof.Machine.execIklDrainComplete s
  | .resetAssert => Sys2Proof.Machine.execResetAssert s
  | .powerGoodDelay => Sys2Proof.Machine.execPowerGoodDelay s
  | .resetRelease role flash testN => Sys2Proof.Machine.execResetRelease role flash testN s
  | .bootStepDone step ok => Sys2Proof.Machine.execBootStepDone step ok s
  | .bootStepTimeout step => Sys2Proof.Machine.execBootStepTimeout step s
  | .attemptAgeOut => Sys2Proof.Machine.execAttemptAgeOut s
  | .previewEntry => Sys2Proof.Machine.execPreviewEntry s
  | .runEntry => Sys2Proof.Machine.execRunEntry s
  | .bootQuiesce m => Sys2Proof.Machine.execBootQuiesce m s
  | .quiesceComplete => Sys2Proof.Machine.execQuiesceComplete s
  | .bootRestart m => Sys2Proof.Machine.execBootRestart m s
  | .clearAttempts m => Sys2Proof.Machine.execClearAttempts m s
  | .fuseProgram m h => Sys2Proof.Machine.execFuseProgram m h s
  | .fuseRevoke m h => Sys2Proof.Machine.execFuseRevoke m h s
  | .fuseOperationDone => Sys2Proof.Machine.execFuseOperationDone s
  | .flashErase m => Sys2Proof.Machine.execFlashErase m s
  | .flashProgram m len => Sys2Proof.Machine.execFlashProgram m len s
  | .flashRead m len => Sys2Proof.Machine.execFlashRead m len s
  | .flashCommandDone ok => Sys2Proof.Machine.execFlashCommandDone ok s
  | .safeRestartExpiry => Sys2Proof.Machine.execSafeRestartExpiry s
  | .keeperLockstep => Sys2Proof.Machine.execKeeperLockstep s
  | .keeperWatchdog => Sys2Proof.Machine.execKeeperWatchdog s
  | .safWdogWrite m v => Sys2Proof.Machine.execSafWdogWrite m v s
  | .safDemandWrite m v => Sys2Proof.Machine.execSafDemandWrite m v s
  | .clockFault clock ppm => Sys2Proof.Machine.execClockFault clock ppm s
  | .supplyExcursion n mv held => Sys2Proof.Machine.execSupplyExcursion n mv held s
  | .padReadbackFault auth => Sys2Proof.Machine.execPadReadbackFault auth s
  | .guardCompare => Sys2Proof.Machine.execGuardCompare s
  | .dieSensorSample temps => Sys2Proof.Machine.execDieSensorSample temps s
  | .guardRecordPersisted => Sys2Proof.Machine.execGuardRecordPersisted s
  | .latentGroupRun fail eyes => Sys2Proof.Machine.execLatentGroupRun fail eyes s
  | .latentIdleTimer => Sys2Proof.Machine.execLatentIdleTimer s
  | .kprReqPush m => Sys2Proof.Machine.execKprReqPush m s
  | .commitTable => Sys2Proof.Machine.execCommitTable s
  | .yield => Sys2Proof.Machine.execYield s
  | .retrain => Sys2Proof.Machine.execRetrain s
  | .link => Sys2Proof.Machine.execLink s
  | .scrub => Sys2Proof.Machine.execScrub s
  | .note => Sys2Proof.Machine.execNote s
  | .restart mepc => Sys2Proof.Machine.execRestart mepc s
  | .safe => Sys2Proof.Machine.execSafe s
  | .docWdogKick m c => Sys2Proof.Machine.execDocWdogKick m c s
  | .docWatchdogExpiry c mepc => Sys2Proof.Machine.execDocWatchdogExpiry c mepc s
  | .docLockup c mepc => Sys2Proof.Machine.execDocLockup c mepc s
  | .docCtlRestart m mepc => Sys2Proof.Machine.execDocCtlRestart m mepc s
  | .docRestartComplete ok => Sys2Proof.Machine.execDocRestartComplete ok s
  | .hostmbSend m mb w v => Sys2Proof.Machine.execHostmbSend m mb w v s
  | .hostmbHostRead mb => Sys2Proof.Machine.execHostmbHostRead mb s
  | .crcClaimRead m n => Sys2Proof.Machine.execCrcClaimRead m n s
  | .crcPreset m n p => Sys2Proof.Machine.execCrcPreset m n p s
  | .crcLoad m n => Sys2Proof.Machine.execCrcLoad m n s
  | .crcRelease m n => Sys2Proof.Machine.execCrcRelease m n s
  | .crcDataFeed m n w v => Sys2Proof.Machine.execCrcDataFeed m n w v s
  | .crcResultRead m n raw => Sys2Proof.Machine.execCrcResultRead m n raw s
  | .crcStateWrite m n v => Sys2Proof.Machine.execCrcStateWrite m n v s
  | .aclRecordEnter event data => Sys2Proof.Machine.execAclRecordEnter event data s
  | .aclFreeze m => Sys2Proof.Machine.execAclFreeze m s
  | .aclUnfreeze m => Sys2Proof.Machine.execAclUnfreeze m s
  | .freezeExpired => Sys2Proof.Machine.execFreezeExpired s
  | .aclCopyStart => Sys2Proof.Machine.execAclCopyStart s
  | .aclCopyDone => Sys2Proof.Machine.execAclCopyDone s
  | .aclWindowSelect m cursor v => Sys2Proof.Machine.execAclWindowSelect m cursor v s
  | .aclWindowFilled => Sys2Proof.Machine.execAclWindowFilled s
  | .newChallenge m => Sys2Proof.Machine.execNewChallenge m s
  | .clear m => Sys2Proof.Machine.execClear m s
  | .signatureVerified => Sys2Proof.Machine.execSignatureVerified s
  | .aclAuthWrite m w v => Sys2Proof.Machine.execAclAuthWrite m w v s
  | .aclClearDone => Sys2Proof.Machine.execAclClearDone s
  | .pmcCtrWrite m k w upper v events => Sys2Proof.Machine.execPmcCtrWrite m k w upper v events s
  | .pmcSelWrite m k v => Sys2Proof.Machine.execPmcSelWrite m k v s
  | .pmcFreeze m v => Sys2Proof.Machine.execPmcFreeze m v s
  | .pmcCtrLowRead m j w unseen odd => Sys2Proof.Machine.execPmcCtrLowRead m j w unseen odd s
  | .pmcCounterWrap k => Sys2Proof.Machine.execPmcCounterWrap k s
  | .pmcSampleTaken core pc opcode latency mode => Sys2Proof.Machine.execPmcSampleTaken core pc opcode latency mode s
  | .pmcSampleAck m h => Sys2Proof.Machine.execPmcSampleAck m h s
  | .calRunStart => Sys2Proof.Machine.execCalRunStart s
  | .calRunWrite m => Sys2Proof.Machine.execCalRunWrite m s
  | .calEnable m => Sys2Proof.Machine.execCalEnable m s
  | .calDisable m => Sys2Proof.Machine.execCalDisable m s
  | .calDrainComplete => Sys2Proof.Machine.execCalDrainComplete s
  | .rxMarkWindow g ones => Sys2Proof.Machine.execRxMarkWindow g ones s
  | .strapChange strap high => Sys2Proof.Machine.execStrapChange strap high s
  | .perstRelease => Sys2Proof.Machine.execPerstRelease s
  | .ikisalHeadDiscard => Sys2Proof.Machine.execIkisalHeadDiscard s
  | .svyHeaderEccError p => Sys2Proof.Machine.execSvyHeaderEccError p s
  | .ethBlockLockChange p lock => Sys2Proof.Machine.execEthBlockLockChange p lock s
  | .trimLockTimeout g => Sys2Proof.Machine.execTrimLockTimeout g s
  | .docRestartAgeOut => Sys2Proof.Machine.execDocRestartAgeOut s
  | .blankAllNLowObserved low => Sys2Proof.Machine.execBlankAllNLowObserved low s
  | .tapInstructionUpdate ins => Sys2Proof.Machine.execTapInstructionUpdate ins s

end Sys2Proof.Machine
end

