-- ==== Sys2Proof/Machine/TopDown.lean ====
section
/-! DEFINITION. The four classes of an engine's pixel slots, cycle by cycle (R368). -/
namespace Sys2Proof.Machine

/-- CLK_RAS cycles in a CLK_CTL cycle (R22). -/
def rasPerTick : Nat := 3

/-- An engine that sweeps nothing is back-starved: it lacks condition 4 or 5 of R104 and nothing before them, and no tile is
in its edge phase (R368). -/
def State.engineBack (s : State) (e : Nat) : Bool :=
  match s.engineNext e with
  | none => false
  | some (_, l, h, t) =>
    !(s.engineHeld e).any (fun k => k.phase = .edge) && l.rowDone h t && l.densityReady h t && l.pecReady h t
      && (!s.reserveAdmits l t || !s.engineFree e)

/-- Cycles of a tick in which an engine sweeps, as the first and the last place in the sweep; none while the sweep is held
for its output buffer (R127, R368). -/
def State.engineSweep (s : State) (e : Nat) : Nat × Nat :=
  match s.engineTile e .sweep with
  | none => (0, 0)
  | some (_, k) => if 2 ≤ (s.buffered e).length then (0, 0) else (k.cycles, min sweepCycles (k.cycles + rasPerTick))

/-- Whether an engine's sweep waits for an output buffer (R127). -/
def State.engineWaits (s : State) (e : Nat) : Bool :=
  (s.engineTile e .sweep).isSome && decide (2 ≤ (s.buffered e).length)

/-- An engine's slots of one tick: retired, wasted, front-starved and back-starved (R368). -/
def State.engineSlots (s : State) (e : Nat) : Nat × Nat × Nat × Nat :=
  let w := s.engineSweep e
  let x := sweepSlots w.1 w.2
  let idle := 8 * (rasPerTick - (w.2 - w.1))
  if s.engineWaits e || s.engineBack e then (x.1, x.2, 0, idle) else (x.1, x.2, idle, 0)

/-- An engine's slots counted (Table 16-1). -/
def State.engineCount (s : State) (e : Nat) : State :=
  let x := s.engineSlots e
  (((s.pmcEvent 0x01 x.1 (engineInfo e)).pmcEvent 0x02 x.2.1 (engineInfo e)).pmcEvent 0x03 x.2.2.1
    (engineInfo e)).pmcEvent 0x04 x.2.2.2 (engineInfo e)

/-- A counter counts one of the classes. -/
def State.topDownUsed (s : State) : Bool :=
  s.pmcUsed.any (fun k => decide (1 ≤ s.selRd (F.PMC_SEL.EVENT k) k) && decide (s.selRd (F.PMC_SEL.EVENT k) k ≤ 4))

/-- The sweeps of a leaf advance by the cycles of a tick. -/
def State.sweepAdvance (s : State) (p : Nat) : State :=
  match s.leafAt p with
  | none => s
  | some l =>
    let go := fun (k : TileSt) =>
      if s.engineTile k.col .sweep = some (p, k) && !s.engineWaits k.col then { k with cycles := min sweepCycles (k.cycles + rasPerTick) } else k
    s.setLeaf p { l with ras := { l.ras with tiles := l.ras.tiles.map go } }

/-- One CLK_CTL cycle of the engines: their slots are counted, and their sweeps advance (R368). -/
def State.rasTick (s : State) : State :=
  let s := if s.topDownUsed then (List.range 64).foldl State.engineCount s else s
  (s.sweepAdvance 0).sweepAdvance 1

end Sys2Proof.Machine
end

