-- ==== Sys2Proof/Machine/Tick.lean ====
section
/-! DEFINITION. What one CLK_CTL cycle does by itself (R253, R254, R275, R311, R332, R355, R365, R368). -/
namespace Sys2Proof.Machine

/-- CLK_CTL cycles of a second. -/
def cyclesPerSecond : Nat := 400000000

/-- A second of the always-on counter has passed: FAIL_AGE and ATTEMPTS follow, and CYCLE_AGE while the device runs
(R311, R332). -/
def State.secondTick (s : State) : State :=
  let s := { s with boot := { s.boot with aonSec := s.boot.aonSec + 1, aonPart := 0 } }.attemptShow
  if s.mode = 0 then s else s.incSat F.SAF_LATENT.CYCLE_AGE

/-- The always-on counter's share of a cycle (R311). -/
def State.aonTick (s : State) : State :=
  if s.boot.aonPart + 1 < cyclesPerSecond then { s with boot := { s.boot with aonPart := s.boot.aonPart + 1 } }
  else s.secondTick

/-- A table has been mirrored: COMMIT follows its TABLE messages, and this device makes the commit (R284, Table 15-3). -/
def State.commitTick (s : State) : State :=
  match s.ikl.commits with
  | [] => s
  | (leaf, crc, tag) :: rest =>
    if !s.commitFree then s
    else
      let s := { s with
        ikl := { s.ikl with commits := rest }
        kpr := { s.kpr with commitTag := some tag } }
      ((s.iklSend 0 0x30 (leBytes 2 leaf ++ leBytes 4 crc) []).wr F.BCT_COMMIT_CRC.CRC crc).commitGo leaf

/-- RUN is to come: from this cycle on no leaf takes a place (R308). -/
def State.runHold (s : State) : State := if s.runNear then { s with boot := { s.boot with runHold := true } } else s

/-- One CLK_CTL cycle: the time bases advance, each check-value unit takes a byte, counters of TICKS and of the engines' slots
count, sweeps advance, the Ikisal lanes send, and the seconds pass. In OFF only the always-on counter runs (R254, R311, R355,
R365). -/
def State.tick (s : State) : State :=
  let s := { s with cycle := s.cycle + 1 }
  if s.mode = 0 then s.aonTick
  else (((List.range 4).foldl State.crcCycle s.timeTick).pmcEvent 0x50 1 (engineInfo 0)).rasTick.iklTick.commitTick.runHold.aonTick

end Sys2Proof.Machine
end

