-- ==== Sys2Proof/Safety.lean ====
section
/-! DEFINITION. What counts as a safe state and a safe run, in the terms that the statements use: the memories and the
register file in canonical form, the units of the device all present, and steps that stop neither with a fault nor
with a refusal. -/
namespace Sys2Proof.Machine

/-- The register file, every memory, its errors and poison marks and the staged halves are in canonical form, so that equal
contents are equal data. -/
def State.canonical (s : State) : Bool :=
  smWf regReset s.regs && Memory.wf s.ddr && Memory.wf s.sram && Memory.wf s.hostMem && Memory.wf s.boot.flashBuf
    && smWf flashDefault s.boot.flash && Memory.wf s.acl.mram && Memory.wf s.pmc.ring && rising s.poison
    && smWf (fun _ => 0) s.ddrErr && Memory.wf s.sramPoison && rising s.hostPoison
    && smWf halfNone s.halves && smWf (fun _ => 0) s.sramErr && Memory.wf s.kprSram && smWf (fun _ => 0) s.kprErr

/-- The four lane groups (R172), the six DDR5 channels (R195) and the two survey pipelines (R220) are all held. -/
def State.shaped (s : State) : Bool :=
  decide (s.blk.grp.length = 4) && decide (s.mem.ch.length = 6) && decide (s.svy.length = 2)

/-- The invariant of the model: the state is canonical and complete. -/
def State.sound (s : State) : Prop := s.canonical = true ∧ s.shaped = true

/-- An outcome that runs on. -/
def runsOn (o : Host.Outcome State Fault Refusal) : Prop := ∃ t, o = .next t

/-- A command answers a next state of which `P` holds. -/
def runsTo (c : Instr) (s : State) (P : State → Prop) : Prop := ∃ t, exec c s = .next t ∧ P t

/-- Two states agree on every register outside the 64 KiB blocks that a test names (Table 18-1). -/
def regsOutside (blocks : Nat → Bool) (s t : State) : Prop :=
  ∀ off, blocks (off / 0x10000) = false → t.reg off = s.reg off

/-- Two states agree on every register but those at the offsets listed. -/
def regsApart (offs : List Nat) (s t : State) : Prop := ∀ off, off ∉ offs → t.reg off = s.reg off

/-- A state with what the DDR5 accesses of a unit may change beside the memories, taken from another: the registers, the channels'
ports, queues and picks, and the counters' interrupts (R208, R365). -/
def State.unitParts (s t : State) : State :=
  { s with regs := t.regs, mem := { s.mem with ch := t.mem.ch }, pmc := { s.pmc with irqs := t.pmc.irqs } }

/-- Two states agree on every register but those at the offsets listed and those that DDR5 accesses of a unit count in: block PMC
(0x23) and MEM_COUNTS (R208, R211, R365). -/
def unitApart (offs : List Nat) (s t : State) : Prop :=
  ∀ off, off ∉ offs → off / 0x10000 ≠ 0x23 → off ≠ F.MEM_COUNTS.CAPPED.off → t.reg off = s.reg off

/-- The same, outside the 64 KiB blocks that a test names. -/
def unitOutside (blocks : Nat → Bool) (s t : State) : Prop :=
  ∀ off, blocks (off / 0x10000) = false → off / 0x10000 ≠ 0x23 → off ≠ F.MEM_COUNTS.CAPPED.off → t.reg off = s.reg off

/-- A master that makes accesses, in a device that is not in OFF (Table 13-1), and whose write the firewall admits (R342,
R344). -/
def State.serves (s : State) (m : Master) (off : Nat) : Bool := !s.silent m && s.admits m off

/-- Two states hold the same memories: DDR5 with its changed words and poison marks, the Docent shared SRAM, the Keeper SRAM and
host memory with theirs. -/
def sameMemories (s t : State) : Prop :=
  t.ddr = s.ddr ∧ t.ddrErr = s.ddrErr ∧ t.poison = s.poison ∧ t.sram = s.sram ∧ t.sramPoison = s.sramPoison ∧
    t.sramErr = s.sramErr ∧ t.kprSram = s.kprSram ∧ t.kprErr = s.kprErr ∧ t.hostMem = s.hostMem ∧ t.hostPoison = s.hostPoison

/-- What the Guard leaves that acts on its first cause: the cause is held as FIRST_CAUSE and as seen, the Guard acts, TWIN_AUTH
is low and TWIN_FAIL_OUT high, the watchdog runs on until SAFE, and the device drives BLANK_ALL_N but while TWIN_PEER_AUTH is
high (R271, R326 to R328, Table 14-4). -/
abbrev guardActs (cause : Nat) (s t : State) : Prop :=
  (t.saf.acting, t.saf.wdogOn, t.pin.failOut, t.pending) = (true, s.saf.wdogOn, true, s.pending) ∧
    (t.rd F.SAF_STATUS.STATE, t.rd F.SAF_STATUS.FIRST_CAUSE, t.rd F.TWN_STATUS.AUTH) = (1, cause, 0) ∧
    t.rd F.SAF_CAUSES.SEEN = s.rd F.SAF_CAUSES.SEEN ||| 2 ^ (cause - 1) ∧
    t.bit F.SAF_STATUS.BLANK_DRIVE = !s.pin.peerHigh

/-- A request with a code and its arguments' places stands at the head of the Keeper's queue, the Keeper serves, and no other
byte of the request is set (R346, Table 15-3). -/
abbrev asked (code : Nat) (args : List Nat) (r : KprReq) (rest : List KprReq) (s : State) : Prop :=
  s.kpr.queue = r :: rest ∧ rest.length ≤ 15 ∧ s.keeperServes = true ∧ fieldAt r.bytes 0 1 = code ∧
    requestClean r.bytes args = true

/-- The request has left the queue, and is counted (R346, KPR_STATUS, KPR_COUNTS). -/
abbrev served (rest : List KprReq) (s t : State) : Prop :=
  t.kpr.queue = rest ∧ t.rd F.KPR_STATUS.QUEUED = rest.length ∧
    t.rd F.KPR_COUNTS.REQUESTS = min (s.rd F.KPR_COUNTS.REQUESTS + 1) 65535

/-- Where the Keeper writes its next notice (R347). -/
def State.noticePlace (s : State) : Nat := s.rd F.DOC_CFG.NOTICE * 512 + s.rd F.DOC_STATUS.NOTICE_NEXT % 16 * 32

/-- The Keeper has written a notice into the ring and raised source 19 (R347). -/
abbrev noticed (kind code tag : Nat) (s t : State) : Prop :=
  memRead t.sram s.noticePlace 32 = leBytes 1 kind ++ leBytes 1 code ++ leBytes 2 tag ++ List.replicate 28 0#8 ∧
    t.rd F.DOC_STATUS.NOTICE_NEXT = (s.rd F.DOC_STATUS.NOTICE_NEXT + 1) % 2 ^ 32 ∧ t.rd (F.DOC_ROUTE.PENDING 19) = 1

/-- What a Docent restart has stopped: DMA channels 4 to 15, the compressor, the survey pipelines and the axes are disabled,
check-value units released, mailboxes and requests emptied, and samples off (R350, Table 15-5). -/
abbrev docentsStopped (s t : State) : Prop :=
  (∀ k, k < 12 → t.rd (F.DMA_CH_CTL.ENABLE (k + 4)) = 0) ∧
    (t.rd F.GUG_CTL.ENABLE, t.rd (F.SVY_P_CTL.ENABLE 0), t.rd (F.SVY_P_CTL.ENABLE 1), t.rd F.AXM_CTL.ENABLE) = (0, 0, 0, 0) ∧
    (∀ n, n < 4 → t.rd (F.CRC_U_CLAIM.OWNER n) = 0) ∧
    (t.rd F.DOC_HOSTMB_FULL.FULL, t.rd F.KPR_STATUS.QUEUED, t.rd F.PMC_SAMPLE_CFG.ENABLE) = (0, 0, 0) ∧
    t.rd F.PMC_SAMPLE_ACK.INDEX = s.rd F.PMC_SAMPLE_STATUS.NEXT ∧ (t.kpr.queue, t.kpr.staged) = ([], [])

/-- The bits of the register at an offset that a master may write now (R344, R404). -/
def State.admitted (s : State) (m : Master) (o : Nat) : Nat :=
  match rowAt o with
  | some (r, ix) => s.admitMask m o r ix
  | none => 0

/-- The bits that a plain write of a master changes, within those that its access covers (R12, R400). -/
def State.writableBits (s : State) (m : Master) (o cover : Nat) : Nat :=
  match rowAt o with
  | some (r, ix) => r.plainMask ix (s.admitMask m o r ix) cover
  | none => 0

/-- The W1C bits of a register but for those whose clearing is a command of its own, its W1C bits, and its RC bits
(Table 0-7). -/
def clearableBits (o : Nat) : Nat := ((rowAt o).map (fun x => x.1.w1c &&& (fullMask ^^^ x.1.acts))).getD 0
def w1cBits (o : Nat) : Nat := ((rowAt o).map (fun x => x.1.w1c)).getD 0
def rcBits (o : Nat) : Nat := ((rowAt o).map (fun x => x.1.rc)).getD 0

/-- Whether bit `i` of the register at `x` is the PENDING bit of a Docent source whose status the register at `o` holds and a
state finds clear (R348). -/
def State.pendingFalls (s : State) (o x i : Nat) : Bool :=
  (List.range 28).any (fun k => (x, i) = ((F.DOC_ROUTE.PENDING k).off, 4) && statusOff k = o && s.sourceIdle k)

/-- After a write to the register at `o`, two states agree on every other register but for the pending bits that fall with it
(R348). -/
def settledApart (o : Nat) (s t : State) : Prop :=
  ∀ x, x ≠ o → ∀ i, i < 64 → (t.reg x).getLsbD i = if t.pendingFalls o x i then false else (s.reg x).getLsbD i

/-- The place of a data bit of an access in the register: the upper half of a 64-bit register takes the access's lower
bits (R399, R400). -/
def dataBit (cover i : Nat) : Nat := if cover = highMask then i - 32 else i

/-- The register whose write makes a command, and the master that writes it (R12, R344). -/
def gateOf : Instr → Option (Master × Nat)
  | .setupDoorbell m _ _ => some (m, F.HIF_SETUP_ADDR.ADDR.off)
  | .sqTailDoorbell m n _ => some (m, (F.HIF_SQ_TAIL.TAIL n).off)
  | .hqHeadWrite m q _ => some (m, (F.HIF_HQ_HEAD.HEAD q).off)
  | .dmaEnable m k => some (m, (F.DMA_CH_CTL.ENABLE k).off)
  | .dmaDisable m k _ => some (m, (F.DMA_CH_CTL.ENABLE k).off)
  | .dmaGo m k => some (m, (F.DMA_CH_CTL.GO k).off)
  | .dmaStop m k => some (m, (F.DMA_CH_CTL.STOP k).off)
  | .shadowCommit m k _ => some (m, (F.DMA_CH_CTL.SHADOW_COMMIT k).off)
  | .dmaErrClear m k _ => some (m, (F.DMA_CH_STATUS.ERR k).off)
  | .gugEnable m => some (m, F.GUG_CTL.ENABLE.off)
  | .gugDisable m _ => some (m, F.GUG_CTL.ENABLE.off)
  | .gugGo m => some (m, F.GUG_CTL.GO.off)
  | .gugErrClear m _ => some (m, F.GUG_STATUS.ERR.off)
  | .talInjectWrite m _ => some (m, F.TAL_INJECT.ARM.off)
  | .bctCommitGo m _ => some (m, F.BCT_COMMIT.LEAF.off)
  | .sltAbort m => some (m, F.SLT_CTL.ABORT.off)
  | .lacCursorWrite m _ => some (m, F.LAC_CURSOR.INDEX.off)
  | .lacAckWrite m _ => some (m, F.LAC_ACK.INDEX.off)
  | .blkEnable m => some (m, F.BLK_CTL.ENABLE.off)
  | .blkDisable m => some (m, F.BLK_CTL.ENABLE.off)
  | .blkStepUp m => some (m, F.BLK_CTL.STEP_UP.off)
  | .blkRetrain m => some (m, F.BLK_CTL.RETRAIN.off)
  | .memRetrain m _ => some (m, F.MEM_CTL.RETRAIN.off)
  | .memApply m _ => some (m, F.MEM_CTL.APPLY.off)
  | .scrEnable m => some (m, F.SCR_CTL.ENABLE.off)
  | .scrDisable m => some (m, F.SCR_CTL.ENABLE.off)
  | .svySetSubmit m p _ => some (m, (F.SVY_P_SET_SUBMIT.ADDR p).off)
  | .svyConfigWrite m p which _ _ _ => some (m, 0x1A0020 + 0x8000 * p.val + 8 * which.val)
  | .svyDefectSwap m p _ => some (m, (F.SVY_P_DEFECT_CTL.SWAP p).off)
  | .svyAckWrite m p _ _ _ => some (m, (F.SVY_P_ACK.REC p).off)
  | .svyEnable m p => some (m, (F.SVY_P_CTL.ENABLE p).off)
  | .svyDisable m p => some (m, (F.SVY_P_CTL.ENABLE p).off)
  | .axmPush m _ => some (m, F.AXM_PUSH.PUSH.off)
  | .axmEnable m => some (m, F.AXM_CTL.ENABLE.off)
  | .axmDisable m => some (m, F.AXM_CTL.ENABLE.off)
  | .axmClear m => some (m, F.AXM_CTL.CLEAR.off)
  | .timSampleWrite m b _ _ => some (m, (F.TIM_SAMPLE.OFFSET b).off)
  | .timSetWrite m b _ _ _ => some (m, (F.TIM_SET.SEC b).off)
  | .ethTxWrite m p _ _ => some (m, (F.TIM_ETH_TX.ADDR p).off)
  | .twnYield m => some (m, F.TWN_CTL.YIELD.off)
  | .iklEnable m => some (m, F.IKL_CTL.ENABLE.off)
  | .iklDisable m => some (m, F.IKL_CTL.ENABLE.off)
  | .iklStepUp m => some (m, F.IKL_CTL.STEP_UP.off)
  | .iklRetrain m => some (m, F.IKL_CTL.RETRAIN.off)
  | .bootQuiesce m => some (m, F.BOOT_CTL.QUIESCE.off)
  | .bootRestart m => some (m, F.BOOT_CTL.RESTART.off)
  | .clearAttempts m => some (m, F.BOOT_CTL.CLEAR_ATTEMPTS.off)
  | .fuseProgram m _ => some (m, F.BOOT_FUSE_PROG.SLOT.off)
  | .fuseRevoke m _ => some (m, F.BOOT_FUSE_PROG.SLOT.off)
  | .flashErase m => some (m, F.BOOT_FLASH_CMD.OP.off)
  | .flashProgram m _ => some (m, F.BOOT_FLASH_CMD.OP.off)
  | .flashRead m _ => some (m, F.BOOT_FLASH_CMD.OP.off)
  | .safWdogWrite m _ => some (m, F.SAF_WDOG.KICK.off)
  | .safDemandWrite m _ => some (m, F.SAF_DEMAND.DEMAND.off)
  | .kprReqPush m => some (m, F.KPR_REQ_PUSH.PUSH.off)
  | .docWdogKick m c => some (m, (F.DOC_WDOG.KICK c).off)
  | .docCtlRestart m _ => some (m, F.DOC_CTL.RESTART.off)
  | .hostmbSend m mb _ _ => some (m, 0x200400 + 0x20 * mb.val + 24)
  | .crcPreset m n _ => some (m, 0x210000 + 0x100 * n.val + 0x08)
  | .crcLoad m n => some (m, 0x210000 + 0x100 * n.val + 0x08)
  | .crcRelease m n => some (m, 0x210000 + 0x100 * n.val + 0x08)
  | .crcDataFeed m n w _ => some (m, 0x210000 + 0x100 * n.val + crcDataReg w)
  | .crcStateWrite m n _ => some (m, 0x210000 + 0x100 * n.val + 0x38)
  | .aclFreeze m => some (m, F.ACL_CTL.FREEZE.off)
  | .aclUnfreeze m => some (m, F.ACL_CTL.FREEZE.off)
  | .aclWindowSelect m cursor _ => some (m, if cursor then F.ACL_CURSOR.POS.off else F.ACL_CTL.FREEZE.off)
  | .newChallenge m => some (m, 0x220090)
  | .clear m => some (m, 0x220090)
  | .aclAuthWrite m _ _ => some (m, (F.ACL_AUTH.TAG 1).off)
  | .pmcCtrWrite m k _ _ _ _ => some (m, (F.PMC_CTR.COUNT k).off)
  | .pmcSelWrite m k _ => some (m, (F.PMC_SEL.EVENT k).off)
  | .pmcFreeze m _ => some (m, F.PMC_CTL.FREEZE.off)
  | .pmcSampleAck m _ => some (m, F.PMC_SAMPLE_ACK.INDEX.off)
  | .calRunWrite m => some (m, F.CAL_CTL.RUN.off)
  | .calEnable m => some (m, F.CAL_CTL.ENABLE.off)
  | .calDisable m => some (m, F.CAL_CTL.ENABLE.off)
  | _ => none

/-- The Docent core that a refused write traps (R344). -/
def trapOf (s : State) : Master → Option (Nat × Nat)
  | .docentM c => some (c.val, 2)
  | .docentU c => some (c.val, 2)
  | _ => s.docTrap

/-- A write that was refused (R344): recorded, flagged and counted. Nothing else changes but the Accession Log's record of it,
at most one, with its vector 4, its copy to the twin on lane 7 and the registers of the blocks of the Keeper, the Docent and the
Accession Log (0x1F, 0x20 and 0x22 of Table 18-1). -/
def refusedAt (s t : State) (m : Master) (off : Nat) : Prop :=
  t = { s with
    regs := t.regs
    docTrap := trapOf s m
    hif := { s.hif with due := t.hif.due }
    acl := { s.acl with
      ring := t.acl.ring, queue := t.acl.queue, lost := t.acl.lost, copyLost := t.acl.copyLost, index := t.acl.index,
      lastAt := t.acl.lastAt, fwSuppressed := t.acl.fwSuppressed }
    ikl := { s.ikl with lanes := t.ikl.lanes } } ∧
  (t.acl.ring = s.acl.ring ∨ (t.acl.ring.drop 1 = s.acl.ring.take 8191 ∧ (t.acl.ring.head?.map AclRec.event) = some 0x0301)) ∧
  (t.acl.queue = s.acl.queue ∨ (t.acl.queue.dropLast = s.acl.queue ∧ (t.acl.queue.getLast?.map AclRec.event) = some 0x0301)) ∧
  (∀ v, v < 64 → v ≠ 4 → t.hif.due.getLsbD v = s.hif.due.getLsbD v) ∧
  t.ikl.lanes.length = s.ikl.lanes.length ∧ (∀ k, k < 8 → k ≠ 7 → t.ikl.lanes[k]? = s.ikl.lanes[k]?) ∧
  regsOutside (fun b => b = 0x1F || b = 0x20 || b = 0x22) s t ∧
  t.rd F.KPR_FW_LAST.ADDR = off % 2 ^ F.KPR_FW_LAST.ADDR.width ∧ t.rd F.KPR_FW_LAST.MASTER = masterCode m ∧
  t.rd F.KPR_FW_LAST.CORE = masterCore m ∧ t.rd F.KPR_FW_LAST.KIND = 0 ∧ t.rd F.KPR_ERR.FIREWALL = 1 ∧
  t.rd F.KPR_COUNTS.FIREWALL = min (s.rd F.KPR_COUNTS.FIREWALL + 1) (2 ^ F.KPR_COUNTS.FIREWALL.width - 1)

end Sys2Proof.Machine
end

