-- ==== Sys2Proof/Certificates/Slice0/Obligations.lean ====
section
/-! DEFINITION. What the provers are asked to prove: one definition per statement, each a proposition about the commands,
the step or the state after reset. A statement that rests on a choice of the model names its log entry. -/
open Sys2Proof Sys2Proof.Machine

/-- From every sound state (register file, staged register halves, DDR5, shared SRAM, Keeper SRAM, host memory, flash,
log and counter memories, with the changed words and poison marks that belong to them, each listed in rising order
with no entry equal to what an unlisted one reads as; four lane groups, six channels, two pipelines), whatever
commands wait, a step that answers a next state answers a sound one. The canonical form is the model's (log entry
9). (Rests on: spec/08_memory.md, Organisation; spec/18_registers.md, Reset and lock.) -/
def Obligations.EveryStepKeepsSoundness : Prop :=
  (∀ s t : State, s.sound → step s = .next t → t.sound)

/-- The state after reset is sound, is in mode BOOT, lists no register (so each reads its reset value), has no command
waiting, and DDR5, shared SRAM, Keeper SRAM and host memory list nothing. Log entry 5 names what the spec leaves
open of it. (Rests on: spec/18_registers.md, Reset and lock.) -/
def Obligations.ResetIsSound : Prop :=
  (State.reset.sound ∧ State.reset.pending = [] ∧ State.reset.ddr = [] ∧ State.reset.sram = [] ∧ State.reset.kprSram = [] ∧ State.reset.hostMem = [] ∧ State.reset.regs = [] ∧ State.reset.mode = 1)

/-- For every command c, rest of a queue and state s: a step with c at the front of the queue is exec of c on the state
with the rest of the queue. The queue is the model's (log entry 1). (Rests on: spec/00_scope.md, Reference events.) -/
def Obligations.StepRunsTheFrontCommand : Prop :=
  (∀ (c : Instr) (rest : List Instr) (s : State), s.pending = c :: rest → step s = exec c { s with pending := rest })

/-- From every sound state, in every mode and with any operands, a command answers a next state; that state is sound and
its queue is the queue before. Nothing here says what the command does: the other statements do. (Rests on:
spec/00_scope.md, Reference events; spec/18_registers.md, Access rules.) -/
def Obligations.EveryCommandRunsOnAndKeepsTheQueue : Prop :=
  (∀ (c : Instr) (s : State), s.sound → ∃ t, exec c s = .next t ∧ t.pending = s.pending ∧ t.sound)

/-- REGISTER_WRITE and RC_READ, of a master that makes accesses. A write that reaches one register changes the bits that
the access covers and that the firewall lets this master write, each to its bit of the data; beside it only the
pending bits of Docent sources fall whose status the register holds and which are idle (log entries 18, 175). A
check-value unit takes it from its owner; a host mailbox that the host has not read takes none. Writable bits are
the plain RW and WO ones, and CAT ones in step 5 of BOOT for the Keeper (log entries 15, 16, 17). A 64-bit write
that covers two 32-bit registers is two 32-bit writes, lower address first; one to the flash buffer's window stores
its bytes; one to BAR2 is discarded. A Keeper request word is staged for the core that writes it. A read of a
register without a read effect of its own returns the bits that it covers of what the register shows, leaves each RC
bit that it covers holding the event of its cycle, and changes nothing else. A host read of the log's window in BAR2
returns its bytes and shows CURSOR_INVALID where the record is not held (log entry 21). (Rests on:
spec/18_registers.md, Access rules; spec/00_scope.md, Registers; spec/15_firmware.md, The firewall.) -/
def Obligations.PlainWriteChangesCoveredWritableBits : Prop :=
  (∀ (s : State) (m : Master) (off : Nat) (w : BusWidth) (v : Word) (o cover : Nat),
    s.silent m = false →
    busHit off w = .one o cover →
    s.admitted m o ≠ 0 →
    (o / 0x10000 = 0x21 → s.rd (F.CRC_U_CLAIM.OWNER (o % 0x10000 / 0x100)) = masterCore m + 1) →
    ¬ (o / 0x10000 = 0x1F ∧ 0x10 ≤ o % 0x10000 ∧ o % 0x10000 < 0x30) →
    s.mailboxFull o = false →
    runsTo (.registerWrite m off w v) s (fun t =>
      t = { s with regs := t.regs } ∧
      settledApart o s t ∧
      (∀ i, i < 64 → (t.reg o).getLsbD i = if t.pendingFalls o o i then false else if (s.writableBits m o cover).testBit i then v.getLsbD (dataBit cover i) else (s.reg o).getLsbD i))) ∧
  (∀ (s : State) (m : Master) (off : Nat) (w : BusWidth) (v : Word) (o cover : Nat),
    s.silent m = false →
    busHit off w = .one o cover →
    s.admitted m o ≠ 0 →
    s.mailboxFull o = true →
    runsTo (.registerWrite m off w v) s (fun t =>
      t = s)) ∧
  (∀ (s : State) (m : Master) (off : Nat) (w : BusWidth) (v : Word) (k cover : Nat),
    s.silent m = false →
    busHit off w = .one (0x1F0010 + 8 * k) cover →
    s.admitted m (0x1F0010 + 8 * k) ≠ 0 →
    k < 4 →
    runsTo (.registerWrite m off w v) s (fun t =>
      t = { s with kpr := { s.kpr with staged := t.kpr.staged } } ∧
      (∀ i, i < 64 → (smGet (fun _ => 0#64) t.kpr.staged (4 * masterCore m + k)).getLsbD i = if cover.testBit i then v.getLsbD (dataBit cover i) else (smGet (fun _ => 0#64) s.kpr.staged (4 * masterCore m + k)).getLsbD i) ∧
      (∀ j, j ≠ 4 * masterCore m + k → smGet (fun _ => 0#64) t.kpr.staged j = smGet (fun _ => 0#64) s.kpr.staged j))) ∧
  (∀ (s : State) (m : Master) (off : Nat) (w : BusWidth) (v : Word),
    s.silent m = false →
    (m = .host ∨ ∃ c, m = .docentM c) →
    (w = .w32 ∨ w = .w64) →
    off % busBytes w = 0 →
    0x8000 ≤ off →
    off < 0x9000 →
    runsTo (.registerWrite m off w v) s (fun t =>
      t = { s with boot := { s.boot with flashBuf := t.boot.flashBuf } } ∧
      memRead t.boot.flashBuf (off - 0x8000) (busBytes w) = leBytes (busBytes w) v.toNat ∧
      (∀ a, a < off - 0x8000 ∨ off - 0x8000 + busBytes w ≤ a → smGet byteDefault t.boot.flashBuf a = smGet byteDefault s.boot.flashBuf a))) ∧
  (∀ (s : State) (m : Master) (off : Nat) (v : Word), s.silent m = false → busHit off .w64 = .two off →
    ∃ u, exec (.registerWrite m off .w32 v) s = .next u ∧
      exec (.registerWrite m off .w64 v) s = exec (.registerWrite m (off + 4) .w32 (v >>> 32)) u) ∧
  (∀ (s : State) (m : Master) (off : Nat) (w : BusWidth) (v : Word),
    bar2Base ≤ off →
    runsTo (.registerWrite m off w v) s (fun t =>
      t = s)) ∧
  (∀ (s : State) (off : Nat) (w : BusWidth) (events : Word),
    s.mode ≠ 0 →
    bar2Base ≤ off →
    off < bar2Base + 0x1000 →
    off % busBytes w = 0 →
    runsTo (.rcRead .host off w events) s (fun t =>
      t.readData = BitVec.ofNat 64 (leNat ((List.range (busBytes w)).map (fun i => s.aclWindow.getD (off - bar2Base + i) 0))) ∧
      t.bit F.ACL_ERR.CURSOR_INVALID = (s.bit F.ACL_ERR.CURSOR_INVALID || !s.aclHolds (off - bar2Base)) ∧
      t.readPoison = false ∧
      t = { s with regs := t.regs, readData := t.readData, readPoison := t.readPoison } ∧
      regsApart [F.ACL_ERR.CURSOR_INVALID.off] s t)) ∧
  (∀ (s : State) (m : Master) (off : Nat) (w : BusWidth) (events : Word) (o cover : Nat),
    s.silent m = false →
    busHit off w = .one o cover →
    s.readable m o = true →
    ¬ (0x150020 ≤ o ∧ o < 0x150040) →
    ¬ (0x1C0100 ≤ o ∧ o < 0x1C0130) →
    o ≠ F.TIM_TXTS_HI.SEC.off →
    inCounters o = false →
    o ≠ F.RSV_LEAD.LOW_WATER.off →
    o / 0x10000 ≠ 0x21 →
    runsTo (.rcRead m off w events) s (fun t =>
      t = { s with regs := t.regs, readData := t.readData } ∧
      regsApart [o] s t ∧
      (∀ i, i < 64 → cover.testBit i = true → t.readData.getLsbD (dataBit cover i) = (s.view m o).getLsbD i) ∧
      (∀ i, i < 64 → (t.reg o).getLsbD i = if (rcBits o &&& cover).testBit i then events.getLsbD i else (s.reg o).getLsbD i)))

/-- W1C_CLEAR, of a master that makes accesses. An admitted write of ones leaves set each W1C bit whose event falls in
the cycle, clears each other covered W1C bit written 1 (but for those whose clearing is a command of its own), and
leaves every other bit of the register; in HIF_INTAKE_STATUS a 1 written to LINK_LOST takes RFQ_DROP to 0 with it.
Outside the register only the pending bits of Docent sources fall, of those sources whose status the register holds
and which are idle after it (log entries 18, 175). (Rests on: spec/00_scope.md, Registers; spec/02_host_intake.md,
HIF registers; spec/15_firmware.md, Interrupts and host mailboxes.) -/
def Obligations.EventInTheCycleOfAClearStays : Prop :=
  (∀ (s : State) (m : Master) (off : Nat) (w : BusWidth) (v events : Word) (o cover : Nat),
    s.silent m = false →
    busHit off w = .one o cover →
    s.admitted m o ≠ 0 →
    o ≠ F.HIF_INTAKE_STATUS.LINK_LOST.off →
    runsTo (.w1cClear m off w v events) s (fun t =>
      t = { s with regs := t.regs } ∧
      settledApart o s t ∧
      (∀ i, i < 64 → (t.reg o).getLsbD i = if t.pendingFalls o o i then false else if events.getLsbD i && (w1cBits o).testBit i then true else if v.getLsbD (dataBit cover i) && (clearableBits o).testBit i && (s.admitted m o).testBit i && cover.testBit i then false else (s.reg o).getLsbD i))) ∧
  (∀ (s : State) (m : Master) (off : Nat) (w : BusWidth) (v events : Word) (cover : Nat),
    s.silent m = false →
    busHit off w = .one F.HIF_INTAKE_STATUS.LINK_LOST.off cover →
    s.admitted m F.HIF_INTAKE_STATUS.LINK_LOST.off ≠ 0 →
    runsTo (.w1cClear m off w v events) s (fun t =>
      t = { s with regs := t.regs } ∧
      settledApart F.HIF_INTAKE_STATUS.LINK_LOST.off s t ∧
      (∀ i, i < 64 → (t.reg F.HIF_INTAKE_STATUS.LINK_LOST.off).getLsbD i = if 16 ≤ i && i < 32 && v.getLsbD 0 && (s.admitted m F.HIF_INTAKE_STATUS.LINK_LOST.off).testBit 0 then false else if events.getLsbD i && (w1cBits F.HIF_INTAKE_STATUS.LINK_LOST.off).testBit i then true else if v.getLsbD i && (clearableBits F.HIF_INTAKE_STATUS.LINK_LOST.off).testBit i && (s.admitted m F.HIF_INTAKE_STATUS.LINK_LOST.off).testBit i && cover.testBit i then false else (s.reg F.HIF_INTAKE_STATUS.LINK_LOST.off).getLsbD i)))

/-- For a REGISTER_WRITE to a reserved offset, of a width or alignment that is refused, or to a register that the
firewall keeps from this master, and for every command that is a register write when its master is refused: nothing
outside the blocks KPR, DOC and ACL changes, KPR_FW_LAST records the attempt, KPR_ERR.FIREWALL is set,
KPR_COUNTS.FIREWALL counts it and a Docent core takes a store access fault (log entry 22); the Accession Log may
take one record of it, with its vector 4 and its copy to the twin (log entries 14, 19). A master that makes no
access, each in OFF and a core that DOC_CFG.CORES keeps in reset, changes nothing. (Rests on: spec/15_firmware.md,
The firewall; spec/18_registers.md, Access rules; spec/13_startup.md, Modes.) -/
def Obligations.RefusedWriteIsDiscardedAndLogged : Prop :=
  (∀ (s : State) (m : Master) (off : Nat) (w : BusWidth) (v : Word),
    s.silent m = false →
    busHit off w = .reserved ∨ busHit off w = .badWidth →
    runsTo (.registerWrite m off w v) s (fun t =>
      refusedAt s t m off)) ∧
  (∀ (s : State) (m : Master) (off : Nat) (w : BusWidth) (v : Word) (o cover : Nat),
    s.silent m = false →
    busHit off w = .one o cover →
    s.admitted m o = 0 →
    runsTo (.registerWrite m off w v) s (fun t =>
      refusedAt s t m o)) ∧
  (∀ (s : State) (c : Instr) (m : Master) (off : Nat),
    gateOf c = some (m, off) →
    s.silent m = false →
    s.admits m off = false →
    runsTo (c) s (fun t =>
      refusedAt s t m off)) ∧
  (∀ (s : State) (c : Instr) (m : Master) (off : Nat),
    gateOf c = some (m, off) →
    s.silent m = true →
    runsTo (c) s (fun t =>
      t = s))

/-- HQ_HEAD_WRITE. A write of HIF_HQq_HEAD whose value is an index from the current HEAD round the ring to the current
TAIL moves HEAD there and frees exactly the entries between; any other value is ignored: HEAD keeps its value and
HIF_INTAKE_STATUS.HEAD_INVALID is set. A write of the current HEAD value frees nothing. The model holds the entries
written and not freed as a count, so that a full ring is told from an empty one (log entry 28). Nothing else
changes, but that a HEAD_INVALID is announced on vector 8 and source 20. (Rests on: spec/02_host_intake.md,
Host-bound queues.) -/
def Obligations.HeadWriteFreesOnlyWrittenEntries : Prop :=
  (∀ (s : State) (m : Master) (q : Fin 2) (n : Nat),
    s.serves m (F.HIF_HQ_HEAD.HEAD q).off = true →
    s.rd (F.HIF_HQ_CTL.LOG2 q) ≤ 14 →
    s.rd (F.HIF_HQ_HEAD.HEAD q) < s.hqSize q →
    s.rd (F.HIF_HQ_TAIL.TAIL q) = (s.rd (F.HIF_HQ_HEAD.HEAD q) + s.hqUsed q) % s.hqSize q →
    n ≤ s.hqUsed q →
    n < s.hqSize q →
    runsTo (.hqHeadWrite m q ((s.rd (F.HIF_HQ_HEAD.HEAD q) + n) % s.hqSize q)) s (fun t =>
      t.rd (F.HIF_HQ_HEAD.HEAD q) = (s.rd (F.HIF_HQ_HEAD.HEAD q) + n) % s.hqSize q ∧
      t.hqUsed q = s.hqUsed q - n ∧
      (∀ r, r < 2 → r ≠ q.val → t.hqUsed r = s.hqUsed r) ∧
      t = { s with regs := t.regs, hif := { s.hif with used0 := t.hif.used0, used1 := t.hif.used1 } } ∧
      regsApart [(F.HIF_HQ_HEAD.HEAD q).off] s t)) ∧
  (∀ (s : State) (m : Master) (q : Fin 2) (head : Nat),
    s.serves m (F.HIF_HQ_HEAD.HEAD q).off = true →
    s.rd (F.HIF_HQ_CTL.LOG2 q) ≤ 14 →
    s.rd (F.HIF_HQ_HEAD.HEAD q) < s.hqSize q →
    s.rd (F.HIF_HQ_TAIL.TAIL q) = (s.rd (F.HIF_HQ_HEAD.HEAD q) + s.hqUsed q) % s.hqSize q →
    s.hqUsed q ≤ s.hqSize q →
    (∀ n, n < s.hqUsed q + 1 → n < s.hqSize q → head ≠ (s.rd (F.HIF_HQ_HEAD.HEAD q) + n) % s.hqSize q) →
    runsTo (.hqHeadWrite m q head) s (fun t =>
      t.rd (F.HIF_HQ_HEAD.HEAD q) = s.rd (F.HIF_HQ_HEAD.HEAD q) ∧
      t.rd F.HIF_INTAKE_STATUS.HEAD_INVALID = 1 ∧
      t.rd (F.DOC_ROUTE.PENDING 20) = 1 ∧
      t = { s with regs := t.regs, hif := { s.hif with due := t.hif.due } } ∧
      t.hif.due.getLsbD 8 = true ∧
      (∀ v, v < 64 → v ≠ 8 → t.hif.due.getLsbD v = s.hif.due.getLsbD v) ∧
      regsApart [F.HIF_INTAKE_STATUS.HEAD_INVALID.off, (F.DOC_ROUTE.PENDING 20).off] s t))

/-- SETUP_DOORBELL, SETUP_RECORD_FETCHED, SQ_TAIL_DOORBELL. With no leaf in progress, no ring enabled and no set-up
running, the upper-half write of HIF_SETUP_ADDR starts a set-up and tells the Docent (source 20); otherwise it is
refused with SETUP_BUSY. A doorbell during a set-up shows CAUSE 1 and leaves it in progress (log entry 115). A
well-formed record programs base, size and enable of every ring and queue, with heads and tails 0 and the phases 1,
where a zero base leaves any ring or queue disabled (log entry 116), makes a stopped ring channel idle (log entry
136) and ends the set-up, which drops source 20 when nothing else holds it (log entry 18), whatever has begun since
the doorbell; a record with a nonzero reserved byte, or of another length, is refused, and a fetch that fails ends
it with cause 3. A tail doorbell of an enabled ring moves its TAIL (of 2^LOG2 or more too: log entry 157), one of a
disabled ring is discarded. The lower half of HIF_SETUP_ADDR is staged (log entry 17). (Rests on:
spec/02_host_intake.md, Ring set-up; spec/02_host_intake.md, HIF registers.) -/
def Obligations.RingSetupProgramsRingsAndQueues : Prop :=
  (∀ (s : State) (m : Master) (w : BusWidth) (v : Word),
    s.serves m F.HIF_SETUP_ADDR.ADDR.off = true →
    w = .w32 ∨ w = .w64 →
    s.leafRunning = false →
    s.anyRing = false →
    s.rd F.HIF_SETUP_STATUS.STATE ≠ 1 →
    runsTo (.setupDoorbell m w v) s (fun t =>
      t.rd F.HIF_SETUP_STATUS.STATE = 1 ∧
      t.rd F.HIF_SETUP_STATUS.CAUSE = 0 ∧
      t.rd F.HIF_SETUP_ADDR.ADDR = (if w = .w64 then v.toNat else s.rd F.HIF_SETUP_ADDR.ADDR % 2 ^ 32 + v.toNat % 2 ^ 32 * 2 ^ 32) ∧
      t.rd (F.DOC_ROUTE.PENDING 20) = 1 ∧
      t = { s with regs := t.regs } ∧
      regsApart [F.HIF_SETUP_ADDR.ADDR.off, F.HIF_SETUP_STATUS.STATE.off, (F.DOC_ROUTE.PENDING 20).off] s t)) ∧
  (∀ (s : State) (m : Master) (w : BusWidth) (v : Word),
    s.serves m F.HIF_SETUP_ADDR.ADDR.off = true →
    w = .w32 ∨ w = .w64 →
    (s.leafRunning = true ∨ s.anyRing = true ∨ s.rd F.HIF_SETUP_STATUS.STATE = 1) →
    runsTo (.setupDoorbell m w v) s (fun t =>
      t.rd F.HIF_SETUP_STATUS.CAUSE = 1 ∧
      t.rd F.HIF_SETUP_STATUS.STATE = (if s.rd F.HIF_SETUP_STATUS.STATE = 1 then 1 else 3) ∧
      t = { s with regs := t.regs } ∧
      regsApart [F.HIF_SETUP_ADDR.ADDR.off, F.HIF_SETUP_STATUS.STATE.off] s t)) ∧
  (∀ (s : State) (rec : List Byte),
    s.rd F.HIF_SETUP_STATUS.STATE = 1 →
    rec.length = 256 →
    fieldAt rec 60 196 = 0 →
    runsTo (.setupRecordFetched (some rec)) s (fun t =>
      t.rd F.HIF_SETUP_STATUS.STATE = 2 ∧
      t.rd F.HIF_SETUP_STATUS.CAUSE = 0 ∧
      (∀ n, n < 4 → t.rd (F.HIF_SQ_BASE.BASE n) = fieldAt rec (8 * n) 8 / 4096 % 2 ^ 52 ∧
    t.rd (F.HIF_SQ_CTL.LOG2 n) = fieldAt rec 32 2 / 16 ^ n % 16 ∧
    t.bit (F.HIF_SQ_CTL.ENABLE n) = decide (fieldAt rec (8 * n) 8 ≠ 0 ∧ 6 ≤ fieldAt rec 32 2 / 16 ^ n % 16 ∧ fieldAt rec 32 2 / 16 ^ n % 16 ≤ 14) ∧
    t.rd (F.HIF_SQ_HEAD.HEAD n) = 0 ∧ t.rd (F.HIF_SQ_TAIL.TAIL n) = 0) ∧
      (∀ q, q < 2 → t.rd (F.HIF_HQ_BASE.BASE q) = fieldAt rec (40 + 8 * q) 8 / 4096 % 2 ^ 52 ∧
    t.rd (F.HIF_HQ_CTL.LOG2 q) = fieldAt rec 36 1 / 16 ^ q % 16 ∧
    t.bit (F.HIF_HQ_CTL.ENABLE q) = decide (fieldAt rec (40 + 8 * q) 8 ≠ 0 ∧ 6 ≤ fieldAt rec 36 1 / 16 ^ q % 16 ∧ fieldAt rec 36 1 / 16 ^ q % 16 ≤ 14) ∧
    t.rd (F.HIF_HQ_HEAD.HEAD q) = 0 ∧ t.rd (F.HIF_HQ_TAIL.TAIL q) = 0 ∧ t.rd (F.HIF_HQ_TAIL.PHASE q) = 1 ∧ t.hqUsed q = 0) ∧
      (∀ n, n < 4 → t.rd (F.DMA_CH_STATUS.STATE n) = if s.rd (F.DMA_CH_STATUS.STATE n) = 3 then 0 else s.rd (F.DMA_CH_STATUS.STATE n)) ∧
      t.rd (F.DOC_ROUTE.PENDING 20) = (if s.rd ⟨0x20300, 0, 16⟩ = 0 then 0 else s.rd (F.DOC_ROUTE.PENDING 20)) ∧
      regsOutside (fun b => b = 0x2 || b = 0x3 || b = 0x20) s t ∧
      sameMemories s t)) ∧
  (∀ (s : State) (rec : List Byte),
    s.rd F.HIF_SETUP_STATUS.STATE = 1 →
    (fieldAt rec 60 196 ≠ 0 ∨ rec.length ≠ 256) →
    runsTo (.setupRecordFetched (some rec)) s (fun t =>
      t.rd F.HIF_SETUP_STATUS.STATE = 3 ∧
      t.rd F.HIF_SETUP_STATUS.CAUSE = 2 ∧
      t = { s with regs := t.regs } ∧
      regsApart [F.HIF_SETUP_STATUS.STATE.off, (F.DOC_ROUTE.PENDING 20).off] s t)) ∧
  (∀ (s : State),
    s.rd F.HIF_SETUP_STATUS.STATE = 1 →
    runsTo (.setupRecordFetched none) s (fun t =>
      t.rd F.HIF_SETUP_STATUS.STATE = 3 ∧
      t.rd F.HIF_SETUP_STATUS.CAUSE = 3 ∧
      t = { s with regs := t.regs } ∧
      regsApart [F.HIF_SETUP_STATUS.STATE.off, (F.DOC_ROUTE.PENDING 20).off] s t)) ∧
  (∀ (s : State) (m : Master) (n : Fin 4) (tail : Nat),
    s.serves m (F.HIF_SQ_TAIL.TAIL n).off = true →
    s.bit (F.HIF_SQ_CTL.ENABLE n) = true →
    runsTo (.sqTailDoorbell m n tail) s (fun t =>
      t.rd (F.HIF_SQ_TAIL.TAIL n) = tail % 2 ^ 14 ∧
      t = { s with regs := t.regs } ∧
      regsApart [(F.HIF_SQ_TAIL.TAIL n).off] s t)) ∧
  (∀ (s : State) (m : Master) (n : Fin 4) (tail : Nat),
    s.serves m (F.HIF_SQ_TAIL.TAIL n).off = true →
    s.bit (F.HIF_SQ_CTL.ENABLE n) = false →
    runsTo (.sqTailDoorbell m n tail) s (fun t =>
      t = s))

/-- PCIE_LINK_RESET, PCIE_LINK_TRAINED, PCIE_FATAL_ERROR, PCIE_CORRECTABLE_ERROR, UNEXPECTED_COMPLETION, PERST_RELEASE.
A link-down or a fatal error disables every submission ring and host-bound queue, empties what waits for the host,
sets LINK_LOST and leaves every register outside the blocks HIF, DMA, FOL and DOC. A set-up in progress then ends
with cause 3 (log entry 154); vectors are masked again (log entry 10). Training shows rate and width held to
HIF_LINK_LIMIT (2.5 GT/s until the catalogue is locked in BOOT; 2.5 GT/s x1 in STORAGE), and one that fails is
counted (log entry 156). AER reports a fatal, a correctable and a non-fatal unexpected completion under their
severities, a correctable error is also counted in bucket 3, and the release of PERST_N starts training. (Rests on:
spec/02_host_intake.md, PCIe endpoint; spec/13_startup.md, BOOT; spec/14_faults.md, Transient and lasting faults.) -/
def Obligations.HostLinkEventsActOnIntakeOnly : Prop :=
  (∀ (s : State) (down bme : Bool),
    runsTo (.pcieLinkReset down bme) s (fun t =>
      (∀ n, n < 4 → t.rd (F.HIF_SQ_CTL.ENABLE n) = 0 ∧ t.rd (F.HIF_SQ_HEAD.HEAD n) = 0) ∧
      (∀ q, q < 2 → t.rd (F.HIF_HQ_CTL.ENABLE q) = 0 ∧ t.rd (F.HIF_HQ_HEAD.HEAD q) = 0 ∧ t.rd (F.HIF_HQ_TAIL.TAIL q) = 0 ∧ t.rd (F.HIF_HQ_TAIL.PHASE q) = 1) ∧
      t.rd F.HIF_INTAKE_STATUS.LINK_LOST = 1 ∧
      t.bit F.HIF_LINK_STATUS.BME = (bme && !down) ∧
      (s.rd F.HIF_SETUP_STATUS.STATE = 1 → t.rd F.HIF_SETUP_STATUS.STATE = 3 ∧ t.rd F.HIF_SETUP_STATUS.CAUSE = 3) ∧
      t.hif.mask = BitVec.allOnes 64 ∧
      t.hif.held = [] ∧
      t.hif.fetching = [] ∧
      t.hif.rfqHeld = s.hif.rfqHeld ∧
      regsOutside (fun b => b = 0x2 || b = 0x3 || b = 0x4 || b = 0x20) s t ∧
      sameMemories s t)) ∧
  (∀ (s : State) (speed : Fin 8) (width : Nat) (ltssm : Fin 64) (bme : Bool),
    width ≤ 16 →
    0 < width →
    0 < speed.val →
    s.mode ≠ 0 →
    runsTo (.pcieLinkTrained speed width ltssm bme) s (fun t =>
      t.rd F.HIF_LINK_STATUS.SPEED = (if s.mode = 4 ∨ (s.mode = 1 ∧ s.locked = false) then 1 else min speed.val (s.rd F.HIF_LINK_LIMIT.MAX_SPEED)) ∧
      t.rd F.HIF_LINK_STATUS.WIDTH = (if s.mode = 4 then 1 else min width (s.rd F.HIF_LINK_LIMIT.MAX_WIDTH)) ∧
      t.rd F.HIF_LINK_STATUS.LTSSM = ltssm.val ∧
      t.bit F.HIF_LINK_STATUS.BME = bme ∧
      t.rd F.FOL_INTAKE_CAP.CAP_MBS = intakeCap (t.rd F.HIF_LINK_STATUS.SPEED) (t.rd F.HIF_LINK_STATUS.WIDTH) ∧
      t = { s with regs := t.regs } ∧
      regsApart [F.HIF_LINK_STATUS.SPEED.off, F.FOL_INTAKE_CAP.CAP_MBS.off] s t)) ∧
  (∀ (s : State) (speed : Fin 8) (width : Nat) (ltssm : Fin 64) (bme : Bool),
    (speed.val = 0 ∨ width = 0) →
    s.mode ≠ 0 →
    runsTo (.pcieLinkTrained speed width ltssm bme) s (fun t =>
      t = { s with hif := { s.hif with trainFails := s.hif.trainFails + 1 } })) ∧
  (∀ (s : State),
    runsTo (.pcieFatalError) s (fun t =>
      (∀ n, n < 4 → t.rd (F.HIF_SQ_CTL.ENABLE n) = 0) ∧
      (∀ q, q < 2 → t.rd (F.HIF_HQ_CTL.ENABLE q) = 0) ∧
      t.rd F.HIF_INTAKE_STATUS.LINK_LOST = 1 ∧
      t.rd F.HIF_LINK_STATUS.BME = 0 ∧
      t.rd F.HIF_LINK_STATUS.SPEED = 0 ∧
      t.rd F.HIF_LINK_STATUS.WIDTH = 0 ∧
      smGet (fun _ => 0) t.hif.aer 28 = smGet (fun _ => 0) s.hif.aer 28 + 1 ∧
      regsOutside (fun b => b = 0x2 || b = 0x3 || b = 0x4 || b = 0x20) s t ∧
      sameMemories s t)) ∧
  (∀ (s : State),
    runsTo (.pcieCorrectableError) s (fun t =>
      t.saf.buckets.any (fun x => x.1 = 3 ∧ x.2.1 = 0) = true ∧
      smGet (fun _ => 0) t.hif.aer 8 = smGet (fun _ => 0) s.hif.aer 8 + 1 ∧
      regsOutside (fun b => b = 0x1E || b = 0x1F || b = 0x20 || b = 0x22) s t ∧
      sameMemories s t)) ∧
  (∀ (s : State),
    runsTo (.unexpectedCompletion) s (fun t =>
      smGet (fun _ => 0) t.hif.aer 19 = smGet (fun _ => 0) s.hif.aer 19 + 1 ∧
      t = { s with hif := { s.hif with aer := t.hif.aer } })) ∧
  (∀ (s : State),
    runsTo (.perstRelease) s (fun t =>
      t.hif.training = true ∧
      t.rd F.HIF_LINK_STATUS.LTSSM = 1 ∧
      t = { s with regs := t.regs, hif := { s.hif with training := true } } ∧
      regsApart [F.HIF_LINK_STATUS.LTSSM.off] s t))

/-- SUBMISSION_ENTRY_READ, BLOCK_DATA_RECEIVED, POISONED_COMPLETION, COMPLETION_TIMEOUT. A well-formed entry of a new
leaf that finds the first place free moves HEAD and starts the fetch of its block in that place; an entry that
breaks the rules completes with status FORMAT (0x10), not fetched. Block data stores the block and queues STORED. A
poisoned completion is reported with RX_POISON and the block is held for its re-fetch. The ring's DMA channel shows
the read and is idle again when it ends; where the read goes in the Folio store is the allocator's (log entry 117),
and its program the model's. What stops reading is the count of R41 (log entries 27, 112, 158); a leaf's identifier
in both places is place 0's (log entry 118). A completion timeout of channels 0 to 3 requests the block again with
HOST_TIMEOUT, without a limit (log entry 159), and one of another channel stops it with BUS_TIMEOUT. (Rests on:
spec/02_host_intake.md, Submission rings; spec/02_host_intake.md, Host-bound queues; spec/02_host_intake.md, PCIe
endpoint; spec/02_host_intake.md, DMA engine; spec/03_folio.md, Failures, re-fetch and deadlines.) -/
def Obligations.SubmissionsAreFetchedStoredAndReported : Prop :=
  (∀ (s : State) (n : Fin 4) (entry : List Byte),
    s.bit (F.HIF_SQ_CTL.ENABLE n) = true →
    6 ≤ s.rd (F.HIF_SQ_CTL.LOG2 n) →
    s.rd (F.HIF_SQ_CTL.LOG2 n) ≤ 14 →
    s.rd (F.HIF_SQ_HEAD.HEAD n) ≠ s.rd (F.HIF_SQ_TAIL.TAIL n) →
    s.mode ≠ 4 →
    s.mode ≠ 5 →
    s.rd (F.DMA_CH_STATUS.STATE n) ≠ 3 →
    s.intakeCount < 254 →
    entryBad entry = false →
    s.assign (s.asSubmitted (entryOf entry)) = .opens →
    s.holdsLeaves = false →
    s.fol.place0 = none →
    runsTo (.submissionEntryRead n entry) s (fun t =>
      t.rd (F.HIF_SQ_HEAD.HEAD n) = (s.rd (F.HIF_SQ_HEAD.HEAD n) + 1) % 2 ^ s.rd (F.HIF_SQ_CTL.LOG2 n) ∧
      t.hif = { s.hif with fetching := s.hif.fetching ++ [(n.val, 0, s.asSubmitted (entryOf entry))] } ∧
      t.rd (F.DMA_CH_STATUS.STATE n) = 1 ∧
      (t.chan n).going = true ∧
      (t.chan n).active.src = BitVec.ofNat 64 (entryOf entry).addr ∧
      (t.leafAt 0).map (fun l => (l.id, (l.blk (entryOf entry).seq).map Blk.state)) = some ((entryOf entry).leaf, some .fetching) ∧
      t.leafAt 1 = s.leafAt 1 ∧
      regsOutside (fun b => b = 0x2 || b = 0x3 || b = 0x4) s t ∧
      sameMemories s t)) ∧
  (∀ (s : State) (n : Fin 4) (entry : List Byte),
    s.bit (F.HIF_SQ_CTL.ENABLE n) = true →
    6 ≤ s.rd (F.HIF_SQ_CTL.LOG2 n) →
    s.rd (F.HIF_SQ_CTL.LOG2 n) ≤ 14 →
    s.rd (F.HIF_SQ_HEAD.HEAD n) ≠ s.rd (F.HIF_SQ_TAIL.TAIL n) →
    s.mode ≠ 4 →
    s.mode ≠ 5 →
    s.rd (F.DMA_CH_STATUS.STATE n) ≠ 3 →
    s.intakeCount < 256 →
    entryBad entry = true →
    runsTo (.submissionEntryRead n entry) s (fun t =>
      t.rd (F.HIF_SQ_HEAD.HEAD n) = (s.rd (F.HIF_SQ_HEAD.HEAD n) + 1) % 2 ^ s.rd (F.HIF_SQ_CTL.LOG2 n) ∧
      t.hif.held = s.hif.held ++ [⟨(entryOf entry).tag, (entryOf entry).leaf, (entryOf entry).seq, 0x10, n.val, s.nowS % 65536, s.nowNs, false⟩] ∧
      t.rd F.HIF_INTAKE_STATUS.FORMAT = 1 ∧
      t.hif.fetching = s.hif.fetching ∧
      t.fol = s.fol ∧
      sameMemories s t)) ∧
  (∀ (s : State) (p : Fin 2) (seq : Nat) (data : List Byte) (l : Leaf) (b : Blk) (ring : Nat) (e : SqEntry),
    s.hif.fetching.find? (fun x => x.2.1 = p.val && x.2.2.seq = seq) = some (ring, p.val, e) →
    s.leafAt p = some l →
    l.blk seq = some b →
    l.nextSeq ≤ seq →
    s.ringStopped p seq = false →
    runsTo (.blockDataReceived p seq data) s (fun t =>
      (t.leafAt p).bind (fun l => l.blk seq) = some { b with state := .stored, data := blockBytes e.len data, poison := 0, outstanding := false, wasStored := true } ∧
      t.hif.held = s.hif.held ++ [⟨e.tag, e.leaf, seq, 1, ring, s.nowS % 65536, s.nowNs, false⟩] ∧
      (ring, p.val, e) ∉ t.hif.fetching ∧
      t = { s with regs := t.regs, hif := { s.hif with held := t.hif.held, fetching := t.hif.fetching, due := t.hif.due }, fol := t.fol, dma := t.dma } ∧
      regsOutside (fun b => b = 0x3 || b = 0x4 || b = 0x20) s t)) ∧
  (∀ (s : State) (p : Fin 2) (seq : Nat) (data : List Byte) (l : Leaf) (b : Blk) (ring : Nat) (e : SqEntry),
    s.hif.fetching.find? (fun x => x.2.1 = p.val && x.2.2.seq = seq) = some (ring, p.val, e) →
    s.leafAt p = some l →
    l.blk seq = some b →
    l.nextSeq ≤ seq →
    b.refetches < s.rd F.FOL_CFG.REFETCH_LIMIT →
    s.hif.rfqHeld.length < 64 →
    s.ringStopped p seq = false →
    runsTo (.poisonedCompletion p seq data) s (fun t =>
      t.rd F.HIF_INTAKE_STATUS.RX_POISON = 1 ∧
      t.rd F.FOL_ERR.POISON = 1 ∧
      t.hif.rfqHeld.dropLast = s.hif.rfqHeld ∧
      t.hif.rfqHeld.getLast?.map (fun r => (r.leaf, r.seq, r.reason)) = some (l.id, seq, 3) ∧
      ((t.leafAt p).bind (fun l => l.blk seq)).map (fun b => (b.state, b.outstanding)) = some (.checkFailed, true) ∧
      smGet (fun _ => 0) t.hif.aer 17 = smGet (fun _ => 0) s.hif.aer 17 + 1 ∧
      regsOutside (fun b => b = 0x2 || b = 0x3 || b = 0x4 || b = 0x20) s t ∧
      sameMemories s t)) ∧
  (∀ (s : State) (k : Fin 16) (p : Fin 2) (seq : Nat) (read : List Byte),
    4 ≤ k.val →
    s.rd (F.DMA_CH_STATUS.STATE k) = 1 →
    runsTo (.completionTimeout k p ⟨seq, read⟩) s (fun t =>
      t.rd (F.DMA_CH_STATUS.STATE k) = 3 ∧
      t.rd (F.DMA_CH_STATUS.ERR k) = 3 ∧
      (t.chan k).going = false ∧
      smGet (fun _ => 0) t.hif.aer 18 = smGet (fun _ => 0) s.hif.aer 18 + 1 ∧
      (read = [] ∨ s.burstLeft k = false → regsApart [(F.DMA_CH_STATUS.STATE k).off, (F.DOC_ROUTE.PENDING (k.val - 4)).off] s t ∧ sameMemories s t))) ∧
  (∀ (s : State) (k : Fin 16) (p : Fin 2) (seq : Nat) (read : List Byte) (l : Leaf) (b : Blk) (ring : Nat) (e : SqEntry),
    k.val < 4 →
    s.hif.fetching.find? (fun x => x.2.1 = p.val && x.2.2.seq = seq) = some (ring, p.val, e) →
    s.leafAt p = some l →
    l.blk seq = some b →
    s.hif.rfqHeld.length < 64 →
    runsTo (.completionTimeout k p ⟨seq, read⟩) s (fun t =>
      t.rd F.HIF_INTAKE_STATUS.HOST_TIMEOUT = 1 ∧
      t.hif.rfqHeld.dropLast = s.hif.rfqHeld ∧
      t.hif.rfqHeld.getLast?.map (fun r => (r.leaf, r.seq, r.reason)) = some (l.id, seq, 4) ∧
      ((t.leafAt p).bind (fun l => l.blk seq)).map (fun b => (b.state, b.outstanding)) = some (if b.wasStored then .checkFailed else .awaited, true) ∧
      regsOutside (fun b => b = 0x2 || b = 0x3 || b = 0x20) s t ∧
      sameMemories s t))

/-- COMPLETION_POSTED, RETIRED_TIMER_EXPIRY, REFETCH_REQUEST_POSTED, MSIX_SEND, CQ_MOD_DELAY_EXPIRY, MSIX_UNMASK. What a
timer or a delay measures is the sender's (log entry 4). The oldest held entry is written at the tail of its queue
(16 bytes, or 32 for a re-fetch request) with the phase in force and, in a request, the deadline as it is predicted
now (log entry 113), the tail moves past it, and no other byte of host memory changes. The RETIRED timer reports the
watermark, which merges into an entry of the leaf that is still held. A due vector is sent, or kept pending while it
is masked; unmasking sends a pending vector; the modulation delay makes vector 0 due for entries written. (Rests on:
spec/02_host_intake.md, Host-bound queues; spec/02_host_intake.md, PCIe endpoint.) -/
def Obligations.HostQueuesAndVectorsReachTheHost : Prop :=
  (∀ (s : State) (c : Completion) (cs : List Completion),
    s.hif.held = c :: cs →
    s.hqRoom 0 = true →
    runsTo (.completionPosted) s (fun t =>
      t.hif.held = cs ∧
      t.hif.used0 = s.hif.used0 + 1 ∧
      memRead t.hostMem (s.rd (F.HIF_HQ_BASE.BASE 0) * 4096 + s.rd (F.HIF_HQ_TAIL.TAIL 0) * 16) 16 = c.bytes (s.bit (F.HIF_HQ_TAIL.PHASE 0)) ∧
      t.rd (F.HIF_HQ_TAIL.TAIL 0) = (s.rd (F.HIF_HQ_TAIL.TAIL 0) + 1) % s.hqSize 0 ∧
      (∀ a, a < s.rd (F.HIF_HQ_BASE.BASE 0) * 4096 + s.rd (F.HIF_HQ_TAIL.TAIL 0) * 16 ∨ s.rd (F.HIF_HQ_BASE.BASE 0) * 4096 + s.rd (F.HIF_HQ_TAIL.TAIL 0) * 16 + 16 ≤ a → smGet byteDefault t.hostMem a = smGet byteDefault s.hostMem a) ∧
      regsApart [(F.HIF_HQ_TAIL.TAIL 0).off] s t ∧
      t = { s with regs := t.regs, hif := t.hif, hostMem := t.hostMem, hostPoison := t.hostPoison })) ∧
  (∀ (s : State) (p : Fin 2) (l : Leaf),
    s.leafAt p = some l →
    l.reported < l.nextSeq →
    runsTo (.retiredTimerExpiry p) s (fun t =>
      t.leafAt p = some { l with reported := l.nextSeq } ∧
      t.hif = { s.hif with held := t.hif.held } ∧
      (⟨0xFFFF, l.id, l.nextSeq - 1, 2, 0, s.nowS % 65536, s.nowNs, true⟩ : Completion) ∈ t.hif.held ∧
      t = { s with fol := t.fol, hif := t.hif })) ∧
  (∀ (s : State) (r : RefetchReq) (rs : List RefetchReq),
    s.hif.rfqHeld = r :: rs →
    s.hqRoom 1 = true →
    runsTo (.refetchRequestPosted) s (fun t =>
      t.hif.rfqHeld = rs ∧
      t.hif.used1 = s.hif.used1 + 1 ∧
      t.hif.due.getLsbD 1 = true ∧
      memRead t.hostMem (s.rd (F.HIF_HQ_BASE.BASE 1) * 4096 + s.rd (F.HIF_HQ_TAIL.TAIL 1) * 32) 32 = r.bytes (s.requestDeadline r) (s.bit (F.HIF_HQ_TAIL.PHASE 1)) ∧
      t.rd (F.HIF_HQ_TAIL.TAIL 1) = (s.rd (F.HIF_HQ_TAIL.TAIL 1) + 1) % s.hqSize 1 ∧
      (∀ a, a < s.rd (F.HIF_HQ_BASE.BASE 1) * 4096 + s.rd (F.HIF_HQ_TAIL.TAIL 1) * 32 ∨ s.rd (F.HIF_HQ_BASE.BASE 1) * 4096 + s.rd (F.HIF_HQ_TAIL.TAIL 1) * 32 + 32 ≤ a → smGet byteDefault t.hostMem a = smGet byteDefault s.hostMem a) ∧
      regsApart [(F.HIF_HQ_TAIL.TAIL 1).off] s t ∧
      t = { s with regs := t.regs, hif := t.hif, hostMem := t.hostMem, hostPoison := t.hostPoison })) ∧
  (∀ (s : State) (v : Fin 64),
    s.hif.due.getLsbD v = true →
    runsTo (.msixSend v) s (fun t =>
      t.hif.due.getLsbD v = false ∧
      t.hif.mask = s.hif.mask ∧
      (if s.hif.mask.getLsbD v then t.hif.pba.getLsbD v = true ∧ t.hif.sent = s.hif.sent else smGet (fun _ => 0) t.hif.sent v = smGet (fun _ => 0) s.hif.sent v + 1 ∧ t.hif.pba = s.hif.pba) ∧
      (∀ u, u < 64 → u ≠ v.val → t.hif.due.getLsbD u = s.hif.due.getLsbD u) ∧
      t = { s with hif := { s.hif with due := t.hif.due, pba := t.hif.pba, sent := t.hif.sent } })) ∧
  (∀ (s : State),
    0 < s.hif.modCount →
    runsTo (.cqModDelayExpiry) s (fun t =>
      t.hif.due.getLsbD 0 = true ∧
      t = { s with hif := { s.hif with modCount := 0, due := t.hif.due } })) ∧
  (∀ (s : State) (v : Fin 64),
    runsTo (.msixUnmask v) s (fun t =>
      t.hif.mask.getLsbD v = false ∧
      t.hif.pba.getLsbD v = false ∧
      smGet (fun _ => 0) t.hif.sent v = smGet (fun _ => 0) s.hif.sent v + (if s.hif.pba.getLsbD v then 1 else 0) ∧
      (∀ u, u < 64 → u ≠ v.val → t.hif.mask.getLsbD u = s.hif.mask.getLsbD u) ∧
      t = { s with hif := { s.hif with mask := t.hif.mask, pba := t.hif.pba, sent := t.hif.sent } }))

/-- DMA_ENABLE, DMA_GO, DMA_DRAIN_COMPLETE. An admitted ENABLE of an idle channel with PACE 1, an admitted GO of an
enabled idle channel with PACE 0, and the end of the drain of a channel with a held enable take the committed bank
as the first hand-over: the active program is the committed one from its first burst, the bucket is full, the chain
head is recorded, DESC_COUNT is 0, and the channel runs; a program that may not run, a reserved SPACE or a bit that
must be zero among the causes (log entry 160), stops it with PROGRAM_FAULT. The chain head is as log entry 24 says.
An ENABLE of an idle channel with PACE 0 only sets the bit; one while DISABLING is held as PENDING_ENABLE; a drain
with no held enable ends in IDLE. (Rests on: spec/02_host_intake.md, Programs, shadows and hand-over;
spec/02_host_intake.md, Pacing; spec/02_host_intake.md, Disable and re-enable.) -/
def Obligations.DmaChannelsStartOnGoOrEnable : Prop :=
  (∀ (s : State) (m : Master) (k : Fin 16),
    s.serves m (F.DMA_CH_CTL.ENABLE k).off = true →
    s.bit (F.DMA_CH_CTL.PACE k) = true →
    s.rd (F.DMA_CH_STATUS.STATE k) = 0 →
    progOk (s.chan k).committed (s.rd (F.DMA_CH_CTL.MODE k)) true = true →
    runsTo (.dmaEnable m k) s (fun t =>
      t.bit (F.DMA_CH_CTL.ENABLE k) = true ∧
      t.rd (F.DMA_CH_STATUS.STATE k) = 1 ∧
      t.rd (F.DMA_CH_DESC_COUNT.COUNT k) = 0 ∧
      t.chan k = { (s.chan k) with fresh := false, active := (s.chan k).committed, burst := 0, going := true, tokens := progCap (s.chan k).committed * 400, tokenAt := s.cycle, stopReq := false, head := progNext (s.chan k).committed, fetching := false, outstanding := 0 } ∧
      (∀ j, j < 16 → j ≠ k.val → t.chan j = s.chan j) ∧
      t = { s with regs := t.regs, dma := t.dma } ∧
      regsApart [(F.DMA_CH_CTL.ENABLE k).off, (F.DMA_CH_STATUS.STATE k).off, (F.DMA_CH_DESC_COUNT.COUNT k).off] s t)) ∧
  (∀ (s : State) (m : Master) (k : Fin 16),
    s.serves m (F.DMA_CH_CTL.GO k).off = true →
    s.bit (F.DMA_CH_CTL.ENABLE k) = true →
    s.bit (F.DMA_CH_CTL.PACE k) = false →
    s.rd (F.DMA_CH_STATUS.STATE k) = 0 →
    progOk (s.chan k).committed (s.rd (F.DMA_CH_CTL.MODE k)) false = true →
    runsTo (.dmaGo m k) s (fun t =>
      t.rd (F.DMA_CH_STATUS.STATE k) = 1 ∧
      t.rd (F.DMA_CH_DESC_COUNT.COUNT k) = 0 ∧
      t.chan k = { (s.chan k) with fresh := false, active := (s.chan k).committed, burst := 0, going := true, tokens := progCap (s.chan k).committed * 400, tokenAt := s.cycle, stopReq := false, head := progNext (s.chan k).committed, fetching := false, outstanding := 0 } ∧
      (∀ j, j < 16 → j ≠ k.val → t.chan j = s.chan j) ∧
      t = { s with regs := t.regs, dma := t.dma } ∧
      regsApart [(F.DMA_CH_STATUS.STATE k).off, (F.DMA_CH_DESC_COUNT.COUNT k).off] s t)) ∧
  (∀ (s : State) (m : Master) (k : Fin 16),
    s.serves m (F.DMA_CH_CTL.GO k).off = true →
    s.bit (F.DMA_CH_CTL.ENABLE k) = true →
    s.bit (F.DMA_CH_CTL.PACE k) = false →
    s.rd (F.DMA_CH_STATUS.STATE k) = 0 →
    progOk (s.chan k).committed (s.rd (F.DMA_CH_CTL.MODE k)) false = false →
    runsTo (.dmaGo m k) s (fun t =>
      t.rd (F.DMA_CH_STATUS.STATE k) = 3 ∧
      t.rd (F.DMA_CH_STATUS.ERR k) = 4 ∧
      (t.chan k).going = false ∧
      regsApart [(F.DMA_CH_STATUS.STATE k).off, (F.DMA_CH_DESC_COUNT.COUNT k).off, (F.DOC_ROUTE.PENDING (k.val - 4)).off] s t ∧
      sameMemories s t)) ∧
  (∀ (s : State) (m : Master) (k : Fin 16),
    s.serves m (F.DMA_CH_CTL.ENABLE k).off = true →
    s.bit (F.DMA_CH_CTL.PACE k) = false →
    s.rd (F.DMA_CH_STATUS.STATE k) = 0 →
    runsTo (.dmaEnable m k) s (fun t =>
      t.bit (F.DMA_CH_CTL.ENABLE k) = true ∧
      t = { s with regs := t.regs } ∧
      regsApart [(F.DMA_CH_CTL.ENABLE k).off] s t)) ∧
  (∀ (s : State) (m : Master) (k : Fin 16),
    s.serves m (F.DMA_CH_CTL.ENABLE k).off = true →
    s.rd (F.DMA_CH_STATUS.STATE k) = 2 →
    runsTo (.dmaEnable m k) s (fun t =>
      t.rd (F.DMA_CH_STATUS.PENDING_ENABLE k) = 1 ∧
      t.rd (F.DMA_CH_STATUS.STATE k) = 2 ∧
      t = { s with regs := t.regs } ∧
      regsApart [(F.DMA_CH_CTL.ENABLE k).off, (F.DMA_CH_STATUS.STATE k).off] s t)) ∧
  (∀ (s : State) (k : Fin 16),
    s.rd (F.DMA_CH_STATUS.STATE k) = 2 →
    s.bit (F.DMA_CH_STATUS.PENDING_ENABLE k) = false →
    runsTo (.dmaDrainComplete k) s (fun t =>
      t.rd (F.DMA_CH_STATUS.STATE k) = 0 ∧
      t = { s with regs := t.regs } ∧
      regsApart [(F.DMA_CH_STATUS.STATE k).off] s t)) ∧
  (∀ (s : State) (k : Fin 16),
    s.rd (F.DMA_CH_STATUS.STATE k) = 2 →
    s.bit (F.DMA_CH_STATUS.PENDING_ENABLE k) = true →
    progOk (s.chan k).committed (s.rd (F.DMA_CH_CTL.MODE k)) (s.bit (F.DMA_CH_CTL.PACE k)) = true →
    runsTo (.dmaDrainComplete k) s (fun t =>
      t.rd (F.DMA_CH_STATUS.STATE k) = 1 ∧
      t.rd (F.DMA_CH_STATUS.PENDING_ENABLE k) = 0 ∧
      (t.chan k).active = (s.chan k).committed ∧
      (t.chan k).burst = 0 ∧
      t = { s with regs := t.regs, dma := t.dma } ∧
      regsApart [(F.DMA_CH_STATUS.STATE k).off, (F.DMA_CH_DESC_COUNT.COUNT k).off] s t))

/-- SHADOW_COMMIT, DMA_HANDOVER, DMA_STOP. A commit copies the shadow registers into the committed bank and leaves the
active bank; one in the cycle of a hand-over (commanded after it) sets SHADOW_LATE, so the hand-over had taken the
bank as it stood and the new commit waits for the next. The hand-over of a SHADOW channel takes the committed bank
from its first burst, or stops with DONE when STOP was written; a SINGLE channel stops with DONE; a CHAIN channel
stops with DONE at LAST, stops with CHAIN_LOOP at the head address or past its budget, else begins the fetch of NEXT
(log entries 24 for the head, 111 for NEXT.SPACE). Channels 4 to 15; those of the rings have no command of their
own. The order within the cycle is the queue's (log entry 1). (Rests on: spec/02_host_intake.md, Programs, shadows
and hand-over; spec/02_host_intake.md, Chains.) -/
def Obligations.DmaShadowCommitAndStopWaitForTheHandOver : Prop :=
  (∀ (s : State) (m : Master) (k : Fin 16) (late : Bool),
    s.serves m (F.DMA_CH_CTL.SHADOW_COMMIT k).off = true →
    (s.chan k).fresh = false →
    runsTo (.shadowCommit m k late) s (fun t =>
      t.chan k = { (s.chan k) with committed := s.dmaShadow k, fresh := true } ∧
      (∀ j, j < 16 → j ≠ k.val → t.chan j = s.chan j) ∧
      t.rd (F.DMA_CH_STATUS.SHADOW_LATE k) = (if late then 1 else s.rd (F.DMA_CH_STATUS.SHADOW_LATE k)) ∧
      t.rd (F.DMA_CH_STATUS.SHADOW_OVERWRITE k) = s.rd (F.DMA_CH_STATUS.SHADOW_OVERWRITE k) ∧
      t = { s with regs := t.regs, dma := t.dma } ∧
      regsApart [(F.DMA_CH_STATUS.SHADOW_LATE k).off] s t)) ∧
  (∀ (s : State) (m : Master) (k : Fin 16) (late : Bool),
    s.serves m (F.DMA_CH_CTL.SHADOW_COMMIT k).off = true →
    (s.chan k).fresh = true →
    runsTo (.shadowCommit m k late) s (fun t =>
      t.chan k = { (s.chan k) with committed := s.dmaShadow k } ∧
      t.rd (F.DMA_CH_STATUS.SHADOW_OVERWRITE k) = 1 ∧
      regsApart [(F.DMA_CH_STATUS.SHADOW_LATE k).off] s t)) ∧
  (∀ (s : State) (k : Fin 16),
    4 ≤ k.val →
    s.rd (F.DMA_CH_STATUS.STATE k) = 1 →
    (s.chan k).going = true →
    progBursts (s.chan k).active ≤ (s.chan k).burst →
    s.rd (F.DMA_CH_CTL.MODE k) = 1 →
    (s.chan k).stopReq = false →
    progOk (s.chan k).committed 1 (s.bit (F.DMA_CH_CTL.PACE k)) = true →
    runsTo (.dmaHandover k) s (fun t =>
      t.chan k = { (s.chan k) with fresh := false, active := (s.chan k).committed, burst := 0, fetching := false, tokens := s.tokensNow (s.chan k), tokenAt := s.cycle } ∧
      t.rd (F.DMA_CH_STATUS.STATE k) = 1 ∧
      t = { s with regs := t.regs, dma := t.dma } ∧
      regsApart [] s t)) ∧
  (∀ (s : State) (k : Fin 16),
    4 ≤ k.val →
    s.rd (F.DMA_CH_STATUS.STATE k) = 1 →
    (s.chan k).going = true →
    progBursts (s.chan k).active ≤ (s.chan k).burst →
    (s.rd (F.DMA_CH_CTL.MODE k) = 0 ∨ (s.rd (F.DMA_CH_CTL.MODE k) = 1 ∧ (s.chan k).stopReq = true) ∨ (s.rd (F.DMA_CH_CTL.MODE k) = 2 ∧ progLast (s.chan k).active = true)) →
    runsTo (.dmaHandover k) s (fun t =>
      t.rd (F.DMA_CH_STATUS.STATE k) = 0 ∧
      t.rd (F.DMA_CH_STATUS.DONE k) = 1 ∧
      (t.chan k).going = false ∧
      (t.chan k).stopReq = false ∧
      regsApart [(F.DMA_CH_STATUS.STATE k).off, (F.DOC_ROUTE.PENDING (k.val - 4)).off] s t ∧
      sameMemories s t)) ∧
  (∀ (s : State) (k : Fin 16),
    4 ≤ k.val →
    s.rd (F.DMA_CH_STATUS.STATE k) = 1 →
    (s.chan k).going = true →
    progBursts (s.chan k).active ≤ (s.chan k).burst →
    s.rd (F.DMA_CH_CTL.MODE k) = 2 →
    progLast (s.chan k).active = false →
    ((s.chan k).fetched = 0 ∨ progNext (s.chan k).active ≠ (s.chan k).head) →
    (s.chan k).fetched < s.rd F.DMA_CHAIN_BUDGET.LIMIT →
    runsTo (.dmaHandover k) s (fun t =>
      t.chan k = { (s.chan k) with going := false, fetching := true } ∧
      t.rd (F.DMA_CH_STATUS.STATE k) = 1 ∧
      regsApart [(F.DOC_ROUTE.PENDING (k.val - 4)).off] s t ∧
      sameMemories s t)) ∧
  (∀ (s : State) (k : Fin 16),
    4 ≤ k.val →
    s.rd (F.DMA_CH_STATUS.STATE k) = 1 →
    (s.chan k).going = true →
    progBursts (s.chan k).active ≤ (s.chan k).burst →
    s.rd (F.DMA_CH_CTL.MODE k) = 2 →
    progLast (s.chan k).active = false →
    (((s.chan k).fetched ≠ 0 ∧ progNext (s.chan k).active = (s.chan k).head) ∨ s.rd F.DMA_CHAIN_BUDGET.LIMIT ≤ (s.chan k).fetched) →
    runsTo (.dmaHandover k) s (fun t =>
      t.rd (F.DMA_CH_STATUS.STATE k) = 3 ∧
      t.rd (F.DMA_CH_STATUS.ERR k) = 2 ∧
      (t.chan k).going = false ∧
      regsApart [(F.DMA_CH_STATUS.STATE k).off, (F.DOC_ROUTE.PENDING (k.val - 4)).off] s t ∧
      sameMemories s t)) ∧
  (∀ (s : State) (m : Master) (k : Fin 16),
    s.serves m (F.DMA_CH_CTL.STOP k).off = true →
    s.rd (F.DMA_CH_STATUS.STATE k) = 1 →
    s.rd (F.DMA_CH_CTL.MODE k) = 1 →
    runsTo (.dmaStop m k) s (fun t =>
      t.chan k = { (s.chan k) with stopReq := true } ∧
      (∀ j, j < 16 → j ≠ k.val → t.chan j = s.chan j) ∧
      t = { s with dma := t.dma }))

/-- DMA_ENABLE, DMA_DISABLE, DMA_DRAIN_COMPLETE. An enable written while a channel is DISABLING (STATE 2) sets
PENDING_ENABLE, whether one is held or not, so that at most one is held; the channel stays DISABLING. When the drain
ends, a held enable is applied: the committed bank is the active program from its first burst, the bucket is full,
and PENDING_ENABLE is clear; the channel runs (STATE 1), or stops (STATE 3) on a program that may not run. A disable
written while an enable is held cancels it, and the drain then ends in IDLE. No other channel and no memory changes.
(Rests on: R55.) -/
def Obligations.EnableWhileDisablingIsHeldAndApplied : Prop :=
  (∀ (s : State) (m : Master) (k : Fin 16),
    s.serves m (F.DMA_CH_CTL.ENABLE k).off = true →
    s.rd (F.DMA_CH_STATUS.STATE k) = 2 →
    runsTo (.dmaEnable m k) s (fun t =>
      t.rd (F.DMA_CH_STATUS.PENDING_ENABLE k) = 1 ∧
      t.rd (F.DMA_CH_STATUS.STATE k) = 2 ∧
      t.bit (F.DMA_CH_CTL.ENABLE k) = true ∧
      t = { s with regs := t.regs } ∧
      regsApart [(F.DMA_CH_CTL.ENABLE k).off, (F.DMA_CH_STATUS.STATE k).off] s t)) ∧
  (∀ (s : State) (k : Fin 16),
    s.rd (F.DMA_CH_STATUS.STATE k) = 2 →
    s.bit (F.DMA_CH_STATUS.PENDING_ENABLE k) = true →
    runsTo (.dmaDrainComplete k) s (fun t =>
      t.rd (F.DMA_CH_STATUS.PENDING_ENABLE k) = 0 ∧
      t.rd (F.DMA_CH_STATUS.STATE k) = (if progOk (s.chan k).committed (s.rd (F.DMA_CH_CTL.MODE k)) (s.bit (F.DMA_CH_CTL.PACE k)) then 1 else 3) ∧
      (t.chan k).active = (s.chan k).committed ∧
      (t.chan k).burst = 0 ∧
      (t.chan k).tokens = progCap (s.chan k).committed * 400 ∧
      (∀ j, j < 16 → j ≠ k.val → t.chan j = s.chan j) ∧
      t = { s with regs := t.regs, dma := t.dma, hif := { s.hif with due := t.hif.due } } ∧
      regsApart [(F.DMA_CH_STATUS.STATE k).off, (F.DMA_CH_DESC_COUNT.COUNT k).off, (F.DOC_ROUTE.PENDING (k.val - 4)).off] s t)) ∧
  (∀ (s : State) (m : Master) (k : Fin 16) (inFlight : Bool),
    s.serves m (F.DMA_CH_CTL.ENABLE k).off = true →
    s.rd (F.DMA_CH_STATUS.STATE k) = 2 →
    runsTo (.dmaDisable m k inFlight) s (fun t =>
      t.rd (F.DMA_CH_STATUS.PENDING_ENABLE k) = 0 ∧
      t.rd (F.DMA_CH_STATUS.STATE k) = 2 ∧
      t.bit (F.DMA_CH_CTL.ENABLE k) = false ∧
      t = { s with regs := t.regs } ∧
      regsApart [(F.DMA_CH_CTL.ENABLE k).off, (F.DMA_CH_STATUS.STATE k).off] s t)) ∧
  (∀ (s : State) (k : Fin 16),
    s.rd (F.DMA_CH_STATUS.STATE k) = 2 →
    s.bit (F.DMA_CH_STATUS.PENDING_ENABLE k) = false →
    runsTo (.dmaDrainComplete k) s (fun t =>
      t.rd (F.DMA_CH_STATUS.STATE k) = 0 ∧
      t = { s with regs := t.regs } ∧
      regsApart [(F.DMA_CH_STATUS.STATE k).off] s t))

/-- DMA_BURST, DMA_DESCRIPTOR_FETCHED, DMA_BUS_TIMEOUT. A burst that is allowed reads LEN bytes at the source address of
its number and writes them at the destination address of its number, takes LEN bytes of tokens at PACE 1, and
changes no byte outside; one that R47 refuses stops the channel with ADDR_FAULT with every memory unchanged. A
descriptor's 64 bytes become the active program, counted in DESC_COUNT, and it runs. A fabric timeout of a running
channel 4 to 15 that has read nothing stops it with BUS_TIMEOUT and sets MEM_ERR.FABRIC_TIMEOUT; data that was read
and not written goes to its destination with the poison mark. A timeout of a ring's channel stores what it has read
of the block in hand with the poison mark and stops it (log entry 136). The bursts stated are a good one of DDR5 to
the host, one of the host to the SRAM and one of the SRAM to DDR5, on channels 4 to 15. Accesses to DDR5 pass the
controllers within the command (log entry 133) and count in MEM_COUNTS and the performance counters; protected
regions are those of log entry 110. (Rests on: spec/02_host_intake.md, Address generation; spec/02_host_intake.md,
Pacing; spec/02_host_intake.md, Chains.) -/
def Obligations.DmaBurstsMoveBytesToTheComputedAddresses : Prop :=
  (∀ (s : State) (k : Fin 16) (data : List Byte) (bs : List Byte),
    4 ≤ k.val →
    s.ddrErr = [] →
    s.rd (F.DMA_CH_STATUS.STATE k) = 1 →
    (s.chan k).going = true →
    (s.chan k).burst < progBursts (s.chan k).active →
    (s.bit (F.DMA_CH_CTL.PACE k) = true → progLen (s.chan k).active * 400 ≤ s.tokensNow (s.chan k)) →
    s.burstBad (progSrcSpace (s.chan k).active) (burstSrc (s.chan k).active (s.chan k).burst) (progLen (s.chan k).active) = false →
    s.burstBad 1 (burstDst (s.chan k).active (s.chan k).burst) (progLen (s.chan k).active) = false →
    progSrcSpace (s.chan k).active = 0 →
    progDstSpace (s.chan k).active = 1 →
    s.ddrPoisoned (burstSrc (s.chan k).active (s.chan k).burst).toNat (progLen (s.chan k).active) = false →
    bs = s.ddrRead (burstSrc (s.chan k).active (s.chan k).burst).toNat (progLen (s.chan k).active) →
    runsTo (.dmaBurst k data ⟨false, []⟩) s (fun t =>
      memRead t.hostMem (unsigned 64 (burstDst (s.chan k).active (s.chan k).burst)) (progLen (s.chan k).active) = bs ∧
      (∀ a, a < unsigned 64 (burstDst (s.chan k).active (s.chan k).burst) ∨ unsigned 64 (burstDst (s.chan k).active (s.chan k).burst) + progLen (s.chan k).active ≤ a → smGet byteDefault t.hostMem a = smGet byteDefault s.hostMem a) ∧
      (t.chan k).burst = (s.chan k).burst + 1 ∧
      (t.chan k).tokens = (if s.bit (F.DMA_CH_CTL.PACE k) then s.tokensNow (s.chan k) - progLen (s.chan k).active * 400 else s.tokensNow (s.chan k)) ∧
      (∀ j, j < 16 → j ≠ k.val → t.chan j = s.chan j) ∧
      t = { s.unitParts t with dma := t.dma, hostMem := t.hostMem, hostPoison := t.hostPoison } ∧
      unitApart [] s t)) ∧
  (∀ (s : State) (k : Fin 16) (data : List Byte),
    4 ≤ k.val →
    s.rd (F.DMA_CH_STATUS.STATE k) = 1 →
    (s.chan k).going = true →
    (s.chan k).burst < progBursts (s.chan k).active →
    s.bit (F.DMA_CH_CTL.PACE k) = false →
    s.burstBad 1 (burstSrc (s.chan k).active (s.chan k).burst) (progLen (s.chan k).active) = false →
    s.burstBad 2 (burstDst (s.chan k).active (s.chan k).burst) (progLen (s.chan k).active) = false →
    progSrcSpace (s.chan k).active = 1 →
    progDstSpace (s.chan k).active = 2 →
    data.length = progLen (s.chan k).active →
    s.sramErr = [] →
    runsTo (.dmaBurst k data ⟨false, []⟩) s (fun t =>
      memRead t.sram (burstDst (s.chan k).active (s.chan k).burst).toNat (progLen (s.chan k).active) = data ∧
      (∀ a, a < (burstDst (s.chan k).active (s.chan k).burst).toNat ∨ (burstDst (s.chan k).active (s.chan k).burst).toNat + progLen (s.chan k).active ≤ a → smGet byteDefault t.sram a = smGet byteDefault s.sram a) ∧
      (t.chan k).burst = (s.chan k).burst + 1 ∧
      t = { s with dma := t.dma, sram := t.sram, sramPoison := t.sramPoison } ∧
      t.sramPoisoned (burstDst (s.chan k).active (s.chan k).burst).toNat (progLen (s.chan k).active) = false)) ∧
  (∀ (s : State) (k : Fin 16) (data : List Byte),
    4 ≤ k.val →
    s.rd (F.DMA_CH_STATUS.STATE k) = 1 →
    (s.chan k).going = true →
    (s.chan k).burst < progBursts (s.chan k).active →
    s.bit (F.DMA_CH_CTL.PACE k) = false →
    s.burstBad 2 (burstSrc (s.chan k).active (s.chan k).burst) (progLen (s.chan k).active) = false →
    s.burstBad 0 (burstDst (s.chan k).active (s.chan k).burst) (progLen (s.chan k).active) = false →
    progSrcSpace (s.chan k).active = 2 →
    progDstSpace (s.chan k).active = 0 →
    s.sramPoisoned (burstSrc (s.chan k).active (s.chan k).burst).toNat (progLen (s.chan k).active) = false →
    s.ddrErr = [] ∧ s.poison = [] ∧ s.mem.remaps = [] →
    runsTo (.dmaBurst k data ⟨false, []⟩) s (fun t =>
      memRead t.ddr (burstDst (s.chan k).active (s.chan k).burst).toNat (progLen (s.chan k).active) = memRead s.sram (burstSrc (s.chan k).active (s.chan k).burst).toNat (progLen (s.chan k).active) ∧
      (∀ a, a < (burstDst (s.chan k).active (s.chan k).burst).toNat ∨ (burstDst (s.chan k).active (s.chan k).burst).toNat + progLen (s.chan k).active ≤ a → smGet byteDefault t.ddr a = smGet byteDefault s.ddr a) ∧
      (t.chan k).burst = (s.chan k).burst + 1 ∧
      (∀ j, j < 16 → j ≠ k.val → t.chan j = s.chan j) ∧
      t = { s.unitParts t with dma := t.dma, ddr := t.ddr } ∧
      unitApart [] s t)) ∧
  (∀ (s : State) (k : Fin 16) (data : List Byte) (srcPoison : Bool) (flips : List (Nat × Nat)),
    4 ≤ k.val →
    s.rd (F.DMA_CH_STATUS.STATE k) = 1 →
    (s.chan k).going = true →
    (s.chan k).burst < progBursts (s.chan k).active →
    (s.bit (F.DMA_CH_CTL.PACE k) = true → progLen (s.chan k).active * 400 ≤ s.tokensNow (s.chan k)) →
    (s.burstBad (progSrcSpace (s.chan k).active) (burstSrc (s.chan k).active (s.chan k).burst) (progLen (s.chan k).active) = true ∨ s.burstBad (progDstSpace (s.chan k).active) (burstDst (s.chan k).active (s.chan k).burst) (progLen (s.chan k).active) = true) →
    runsTo (.dmaBurst k data ⟨srcPoison, flips⟩) s (fun t =>
      t.rd (F.DMA_CH_STATUS.STATE k) = 3 ∧
      t.rd (F.DMA_CH_STATUS.ERR k) = 1 ∧
      (t.chan k).burst = (s.chan k).burst ∧
      regsApart [(F.DMA_CH_STATUS.STATE k).off, (F.DOC_ROUTE.PENDING (k.val - 4)).off] s t ∧
      sameMemories s t)) ∧
  (∀ (s : State) (k : Fin 16) (p : DmaProg) (bs : List Byte),
    (s.chan k).fetching = true →
    s.rd (F.DMA_CH_STATUS.STATE k) = 1 →
    bs = (if progNextSram (s.chan k).active then memRead s.sram (progNext (s.chan k).active) 64 else s.ddrRead (progNext (s.chan k).active) 64) →
    p = ⟨BitVec.ofNat 64 (fieldAt bs 0 8), BitVec.ofNat 64 (fieldAt bs 8 8), BitVec.ofNat 64 (fieldAt bs 16 8), BitVec.ofNat 64 (fieldAt bs 24 8), BitVec.ofNat 64 (fieldAt bs 32 8), BitVec.ofNat 64 (fieldAt bs 40 8), BitVec.ofNat 64 (fieldAt bs 48 8), BitVec.ofNat 64 (fieldAt bs 56 8), (s.chan k).active.rate⟩ →
    progOk p (s.rd (F.DMA_CH_CTL.MODE k)) (s.bit (F.DMA_CH_CTL.PACE k)) = true →
    s.spaceHas (if progNextSram (s.chan k).active then 2 else 0) (progNext (s.chan k).active : Nat) 64 = true →
    (progNextSram (s.chan k).active = true ∨ s.ddrErr = []) →
    runsTo (.dmaDescriptorFetched k) s (fun t =>
      t.chan k = { (s.chan k) with active := p, burst := 0, going := true, fetching := false, fetched := (s.chan k).fetched + 1 } ∧
      t.rd (F.DMA_CH_DESC_COUNT.COUNT k) = (s.rd (F.DMA_CH_DESC_COUNT.COUNT k) + 1) % 2 ^ (F.DMA_CH_DESC_COUNT.COUNT k).width ∧
      t = { s.unitParts t with dma := t.dma } ∧
      unitApart [(F.DMA_CH_DESC_COUNT.COUNT k).off] s t)) ∧
  (∀ (s : State) (k : Fin 16),
    (s.chan k).fetching = true →
    s.rd (F.DMA_CH_STATUS.STATE k) = 1 →
    s.spaceHas (if progNextSram (s.chan k).active then 2 else 0) (progNext (s.chan k).active : Nat) 64 = false →
    runsTo (.dmaDescriptorFetched k) s (fun t =>
      t.rd (F.DMA_CH_STATUS.STATE k) = 3 ∧
      t.rd (F.DMA_CH_STATUS.ERR k) = 1 ∧
      t.chan k = { (s.chan k) with going := false, fetching := false, outstanding := 0 } ∧
      t = { s with regs := t.regs, dma := t.dma, hif := { s.hif with due := t.hif.due } } ∧
      regsApart [(F.DMA_CH_STATUS.STATE k).off, (F.DOC_ROUTE.PENDING (k.val - 4)).off] s t)) ∧
  (∀ (s : State) (k : Fin 16),
    4 ≤ k.val →
    s.rd (F.DMA_CH_STATUS.STATE k) = 1 →
    runsTo (.dmaBusTimeout k []) s (fun t =>
      t.rd F.MEM_ERR.FABRIC_TIMEOUT = 1 ∧
      t.rd (F.DMA_CH_STATUS.STATE k) = 3 ∧
      t.rd (F.DMA_CH_STATUS.ERR k) = 3 ∧
      (t.chan k).going = false ∧
      (t.chan k).burst = (s.chan k).burst ∧
      regsApart [(F.DMA_CH_STATUS.STATE k).off, (F.DOC_ROUTE.PENDING (k.val - 4)).off, F.MEM_ERR.FABRIC_TIMEOUT.off] s t ∧
      sameMemories s t)) ∧
  (∀ (s : State) (k : Fin 16) (p : Fin 2) (data : List Byte) (l : Leaf) (b : Blk) (e : SqEntry),
    k.val < 4 →
    s.rd (F.DMA_CH_STATUS.STATE k) = 1 →
    s.hif.fetching.find? (fun x => x.1 = k.val) = some (k.val, p.val, e) →
    s.hif.fetching.find? (fun x => x.2.1 = p.val && x.2.2.seq = e.seq) = some (k.val, p.val, e) →
    s.leafAt p = some l →
    l.blk e.seq = some b →
    l.nextSeq ≤ e.seq →
    data ≠ [] →
    runsTo (.dmaBusTimeout k data) s (fun t =>
      t.rd F.MEM_ERR.FABRIC_TIMEOUT = 1 ∧
      t.rd (F.DMA_CH_STATUS.STATE k) = 3 ∧
      t.rd (F.DMA_CH_STATUS.ERR k) = 3 ∧
      (t.leafAt p).bind (fun l => l.blk e.seq) = some { b with state := .stored, data := blockBytes e.len data, poison := 2, outstanding := false, wasStored := true } ∧
      t.hif.held = s.hif.held ++ [⟨e.tag, e.leaf, e.seq, 1, k.val, s.nowS % 65536, s.nowNs, false⟩] ∧
      sameMemories s t)) ∧
  (∀ (s : State) (k : Fin 16) (data : List Byte),
    4 ≤ k.val →
    s.rd (F.DMA_CH_STATUS.STATE k) = 1 →
    s.burstLeft k = true →
    progDstSpace (s.chan k).active = 2 →
    data.length = progLen (s.chan k).active →
    data ≠ [] →
    runsTo (.dmaBusTimeout k data) s (fun t =>
      t.rd (F.DMA_CH_STATUS.STATE k) = 3 ∧
      t.rd (F.DMA_CH_STATUS.ERR k) = 3 ∧
      memRead t.sram (unsigned 64 (burstDst (s.chan k).active (s.chan k).burst)) (progLen (s.chan k).active) = data ∧
      t.sramPoisoned (unsigned 64 (burstDst (s.chan k).active (s.chan k).burst)) (progLen (s.chan k).active) = true ∧
      regsApart [(F.DMA_CH_STATUS.STATE k).off, (F.DOC_ROUTE.PENDING (k.val - 4)).off, F.MEM_ERR.FABRIC_TIMEOUT.off] s t))

/-- DMA_DISABLE, DMA_ERR_CLEAR. An admitted ENABLE 0 of a running channel takes it to DISABLING with ENABLE and
PENDING_ENABLE clear, no program running, and DISABLED_AT within 4 KiB of the source of the last burst issued;
DESC_COUNT is a free value (log entry 25), and with no burst in flight no memory changes. Of a channel that does not
run it only clears the two bits. A write of any 1 to ERR clears the field and takes a STOPPED channel to IDLE;
source k − 4 falls with it when DONE is clear too (log entry 18). (Rests on: spec/02_host_intake.md, Disable and
re-enable; spec/02_host_intake.md, DMA_CHk_STATUS (+0x08).) -/
def Obligations.DmaDisableDropsAndErrClearsToIdle : Prop :=
  (∀ (s : State) (m : Master) (k : Fin 16),
    s.serves m (F.DMA_CH_CTL.ENABLE k).off = true →
    s.rd (F.DMA_CH_STATUS.STATE k) = 1 →
    runsTo (.dmaDisable m k false) s (fun t =>
      t.rd (F.DMA_CH_STATUS.STATE k) = 2 ∧
      t.rd (F.DMA_CH_CTL.ENABLE k) = 0 ∧
      t.rd (F.DMA_CH_STATUS.PENDING_ENABLE k) = 0 ∧
      t.chan k = { (s.chan k) with going := false, fetching := false } ∧
      unsigned 64 ((t.rd (F.DMA_CH_DISABLED_AT.ADDR k) : Int) - burstSrc (s.chan k).active ((s.chan k).burst - 1) + 4096) ≤ 8192 ∧
      t = { s with regs := t.regs, dma := t.dma, free := t.free } ∧
      regsApart [(F.DMA_CH_CTL.ENABLE k).off, (F.DMA_CH_STATUS.STATE k).off, (F.DMA_CH_DISABLED_AT.ADDR k).off, (F.DMA_CH_DESC_COUNT.COUNT k).off] s t)) ∧
  (∀ (s : State) (m : Master) (k : Fin 16) (inFlight : Bool),
    s.serves m (F.DMA_CH_CTL.ENABLE k).off = true →
    s.rd (F.DMA_CH_STATUS.STATE k) ≠ 1 →
    runsTo (.dmaDisable m k inFlight) s (fun t =>
      t.rd (F.DMA_CH_CTL.ENABLE k) = 0 ∧
      t.rd (F.DMA_CH_STATUS.PENDING_ENABLE k) = 0 ∧
      t.rd (F.DMA_CH_STATUS.STATE k) = s.rd (F.DMA_CH_STATUS.STATE k) ∧
      t = { s with regs := t.regs } ∧
      regsApart [(F.DMA_CH_CTL.ENABLE k).off, (F.DMA_CH_STATUS.STATE k).off] s t)) ∧
  (∀ (s : State) (m : Master) (k : Fin 16) (bits : Fin 8),
    s.serves m (F.DMA_CH_STATUS.ERR k).off = true →
    bits ≠ 0 →
    runsTo (.dmaErrClear m k bits) s (fun t =>
      t.rd (F.DMA_CH_STATUS.ERR k) = 0 ∧
      t.rd (F.DMA_CH_STATUS.STATE k) = (if s.rd (F.DMA_CH_STATUS.STATE k) = 3 then 0 else s.rd (F.DMA_CH_STATUS.STATE k)) ∧
      t = { s with regs := t.regs } ∧
      settledApart (F.DMA_CH_STATUS.ERR k).off s t))

/-- BLOCK_CHECKED, BLOCK_CONSUMED, TILE_ROW_DEADLINE. A stored block (not the first of its leaf) with a right check
value, header and records becomes good with its rows and enters the density sums; one whose CHECK fails sets
CRC_FAIL, is counted, and a request with reason 1 is held for the host while REFETCH_LIMIT allows it. The awaited
good block's records join the leaf, the decoder waits for the next SEQ and the complete rows advance (a RETIRED
entry follows after 64 blocks). When the deadline of the lowest incomplete row passes with the awaited block not
there, the row is marked missing with cause 11 and the decoder goes on. The other leaf does not change, and no
memory but the fog node rows that a block brings (log entries 127, 133). What needs the blocks before is judged as
log entry 29 says; where the spec names no outcome the model tests nothing (log entries 122, 161, 162) or refuses
the header (log entries 120, 163); the rest are log entries 4, 113, 119 and 121. (Rests on: spec/03_folio.md,
Blocks; spec/03_folio.md, Records; spec/03_folio.md, Failures, re-fetch and deadlines.) -/
def Obligations.BlocksAreCheckedAndTakenInOrder : Prop :=
  (∀ (s : State) (p : Fin 2) (seq : Nat) (disturbed : Bool) (l : Leaf) (b : Blk) (rs : List Rec),
    s.leafAt p = some l →
    l.blk seq = some b →
    b.state = .stored →
    b.poison = 0 →
    blockCheck b.data = true →
    blockHeader b.data l.id seq b.first b.last ((l.blocks.find? (fun c => c.seq + 1 = seq && c.trusted)).map Blk.lastRow) = true →
    b.first = false →
    l.skipping = false →
    (blockRecs b.data).map (fun x => (x.length, recsForm false (blockFirstRow b.data) (blockLastRow b.data) x)) = some (rs.length, true) →
    runsTo (.blockChecked p seq disturbed) s (fun t =>
      (t.leafAt p).bind (fun x => x.blk seq) = some { b with state := .good, rejected := [], firstRow := blockFirstRow b.data, lastRow := blockLastRow b.data, continues := blockContinues b.data, trusted := true, counted := true } ∧
      (t.leafAt p).map (fun x => (x.id, x.nextSeq, x.sums, x.missing)) = some (l.id, l.nextSeq, if b.counted then l.sums else (blockFirstRow b.data, b.data.length) :: l.sums, l.missing) ∧
      t.leafAt (1 - p.val) = s.leafAt (1 - p.val) ∧
      t = { s with regs := t.regs, fol := t.fol } ∧
      regsOutside (fun b => b = 0x4) s t)) ∧
  (∀ (s : State) (p : Fin 2) (seq : Nat) (disturbed : Bool) (l : Leaf) (b : Blk),
    s.leafAt p = some l →
    l.blk seq = some b →
    b.state = .stored →
    b.poison = 0 →
    blockCheck b.data = false →
    b.refetches < s.rd F.FOL_CFG.REFETCH_LIMIT →
    s.hif.rfqHeld.length < 64 →
    runsTo (.blockChecked p seq disturbed) s (fun t =>
      t.rd F.FOL_ERR.CRC_FAIL = 1 ∧
      t.rd F.FOL_COUNTS.CRC_FAIL = min (s.rd F.FOL_COUNTS.CRC_FAIL + 1) (2 ^ F.FOL_COUNTS.CRC_FAIL.width - 1) ∧
      t.rd F.FOL_LAST_FAIL.CAUSE = 1 ∧
      (t.leafAt p).bind (fun x => x.blk seq) = some { b with state := .checkFailed, refetches := b.refetches + 1, outstanding := true, rejected := b.data.take (b.data.length - 4) } ∧
      t.hif.rfqHeld.dropLast = s.hif.rfqHeld ∧
      t.hif.rfqHeld.getLast?.map (fun r => (r.leaf, r.tag, r.seq, r.reason)) = some (l.id, b.tag, seq, 1) ∧
      t.leafAt (1 - p.val) = s.leafAt (1 - p.val) ∧
      t = { s with regs := t.regs, fol := t.fol, hif := { s.hif with rfqHeld := t.hif.rfqHeld } } ∧
      regsOutside (fun b => b = 0x4) s t)) ∧
  (∀ (s : State) (p : Fin 2) (l l' : Leaf) (h : LeafHdr) (b : Blk),
    s.leafAt p = some l →
    l.hdr = some h →
    l.blk l.nextSeq = some b →
    l.admitted = true →
    b.state = .good →
    (blockRecs b.data).bind (takeRecs h s.motifStore l) = some l' →
    l'.failed.length = l.failed.length →
    runsTo (.blockConsumed p) s (fun t =>
      (t.leafAt p).map (fun x => (x.id, x.nextSeq, x.skipping, x.complete)) = some (l'.id, b.seq + 1, false, completeAfter h l'.complete b) ∧
      (t.leafAt p).map (fun x => (x.tiles, x.dens, x.motifs, x.fog, x.halo)) = some (l'.tiles, l'.dens, l'.motifs, l'.fog, l'.halo) ∧
      (t.leafAt p).map (fun x => x.reported) = some (if l'.reported + 64 ≤ b.seq + 1 then b.seq + 1 else l'.reported) ∧
      (l'.reported + 64 ≤ b.seq + 1 → t.hif.held.any (fun c => c.tag = 0xFFFF ∧ c.leaf = l'.id ∧ c.seq = b.seq ∧ c.status = 2) = true) ∧
      t.leafAt (1 - p.val) = s.leafAt (1 - p.val) ∧
      (l'.fog.length = l.fog.length → t = { s with regs := t.regs, fol := t.fol, hif := { s.hif with held := t.hif.held } } ∧ regsOutside (fun b => b = 0x4) s t) ∧
      (s.ddrErr = [] → t = { s.unitParts t with fol := t.fol, hif := { s.hif with held := t.hif.held }, ddr := t.ddr, poison := t.poison } ∧ regsOutside (fun b => b = 0x4 || b = 0x18 || b = 0x23) s t) ∧
      (s.ddrErr = [] → s.mem.remaps = [] → ∀ a, (∀ r ∈ l'.fog.take (l'.fog.length - l.fog.length), a < s.fogRingAt r.1 ∨ s.fogRingAt r.1 + 2 * r.2.length ≤ a) → smGet byteDefault t.ddr a = smGet byteDefault s.ddr a))) ∧
  (∀ (s : State) (p : Fin 2) (l : Leaf) (h : LeafHdr) (b : Blk),
    s.leafAt p = some l →
    l.hdr = some h →
    l.blk l.nextSeq = some b →
    l.admitted = true →
    b.state = .recordsFailed →
    l.skipping = false →
    runsTo (.blockConsumed p) s (fun t =>
      (t.leafAt p).map (fun x => (x.id, x.nextSeq, x.skipping, x.complete)) = some (l.id, b.seq + 1, false, completeAfter h l.complete b) ∧
      (t.leafAt p).map (fun x => (x.tiles, x.dens, x.missing)) = some (l.tiles, l.dens, l.missing) ∧
      t.leafAt (1 - p.val) = s.leafAt (1 - p.val) ∧
      regsOutside (fun b => b = 0x4) s t ∧
      sameMemories s t)) ∧
  (∀ (s : State) (p : Fin 2) (l : Leaf) (h : LeafHdr),
    s.leafAt p = some l →
    l.hdr = some h →
    l.admitted = true →
    l.blk l.nextSeq = none →
    l.skipping = false →
    l.complete + 1 ≤ hdrHigh h →
    l.blocks.all (fun b => b.seq ≤ l.nextSeq || b.state ≠ .good) = true →
    (s.rowDeadline p (l.complete + 1)).isSome = true →
    l.missing.any (fun m => m.1 = l.complete + 1) = false →
    l.nextSeq + 1 < l.reported + 64 →
    runsTo (.tileRowDeadline p) s (fun t =>
      t.rd F.FOL_ERR.SEQ_GAP = 1 ∧
      t.rd F.FOL_LAST_FAIL.CAUSE = 5 ∧
      t.leafAt p = some { l with missing := l.missing ++ [(l.complete + 1, 11)], nextSeq := l.nextSeq + 1, skipping := true, complete := l.complete + 1 } ∧
      t.leafAt (1 - p.val) = s.leafAt (1 - p.val) ∧
      t = { s with regs := t.regs, fol := t.fol } ∧
      regsOutside (fun b => b = 0x4) s t))

/-- LEAF_ADMISSION. In PREVIEW or RUN, with nothing holding admission, a leaf with a header and no cause of Table 3-4 is
admitted: it joins the order of leaves, its Reserve base is the global frame that follows the leaf before it, and
the next base lies behind its last slot; leaf events are announced. Commits of tables wait for it as log entry 34
says. A leaf with a cause is refused: REFUSE_CAUSE holds the cause (the lowest code), a LEAF_REFUSED completion is
held, its place is free and its identifier is ended. Admission is held while power-down or RUN is prepared (log
entry 85). No memory changes. (Rests on: spec/03_folio.md, Leaf header and admission; spec/05_dose.md, Beam tables;
spec/05_dose.md, The Reserve.) -/
def Obligations.LeavesAreAdmittedOrRefusedWithTheLowestCause : Prop :=
  (∀ (s : State) (p : Fin 2) (l : Leaf) (h : LeafHdr),
    s.leafAt p = some l →
    l.hdr = some h →
    l.admitted = false →
    s.holdsLeaves = false →
    (s.mode = 2 ∨ s.mode = 3) →
    s.admissionCause p h = 0 →
    runsTo (.leafAdmission p) s (fun t =>
      (t.leafAt p).map (fun x => (x.id, x.admitted, x.complete, x.ras.base)) = some (l.id, true, hdrLow h - 1, s.rsv.nextBase) ∧
      t.fol.order = s.fol.order ++ [p.val] ∧
      t.rsv = { s.rsv with nextBase := (s.rsv.nextBase + hdrLast h + 1) % 2 ^ 40 } ∧
      t.rd (F.DOC_ROUTE.PENDING 21) = 1 ∧
      t.hif.due.getLsbD 2 = true ∧
      regsOutside (fun b => b = 0x4 || b = 0x11 || b = 0x20) s t ∧
      sameMemories s t)) ∧
  (∀ (s : State) (p : Fin 2) (l : Leaf) (h : LeafHdr) (c : Nat),
    s.leafAt p = some l →
    l.hdr = some h →
    l.admitted = false →
    s.holdsLeaves = false →
    (s.mode = 2 ∨ s.mode = 3) →
    s.admissionCause p h = c →
    c ≠ 0 →
    runsTo (.leafAdmission p) s (fun t =>
      t.rd F.FOL_LEAF_STATUS.REFUSE_CAUSE = c ∧
      t.leafAt p = none ∧
      t.leafAt (1 - p.val) = s.leafAt (1 - p.val) ∧
      l.id ∈ t.fol.ended ∧
      t.hif.held.any (fun x => x.leaf = l.id ∧ x.status = 0x11) = true ∧
      t.rsv = s.rsv ∧
      regsOutside (fun b => b = 0x4 || b = 0x20) s t ∧
      sameMemories s t))

/-- GUG_ENABLE, GUG_DISABLE, GUG_GO, GUG_JOB_COMPLETE, GUG_DRAIN_COMPLETE, GUG_ERR_CLEAR. ENABLE sets the bit, and is
held while DISABLING. GO of an enabled idle compressor with a good source and list runs the job; a bad source stops
it with ERR 1 and a bad list with ERR 4 (past the fitted size too: log entry 168). Its blocks are a function of the
source and LEVEL without a body (log entries 125, 167); when the blocks that came out (a byte may come out wrong)
decode to the source and fit, the header with RAW_LEN and RAW_CRC and the blocks stand in the buffers as one
sequence (a source in the SRAM and one buffer in host memory are stated), OUT_LEN and OUT_BUFS say how far, and it
is idle with DONE. The byte that makes the stream wrong stops it with ERR 3, counted; the end of the list with ERR
2; a poisoned piece of the source with ERR 1; the reserved header is then zeros. A disable of a job leaves free
bytes in the buffers behind the header and nowhere else (log entry 26) and drains; a drain ends in IDLE; clearing
ERR leaves STOPPED, and source 12 falls when DONE is clear too (log entry 18). (Rests on: spec/03_folio.md, The
compressor; spec/03_folio.md, GUG registers.) -/
def Obligations.CompressorRunsJobsIntoItsBuffers : Prop :=
  (∀ (s : State) (m : Master),
    s.serves m F.GUG_CTL.ENABLE.off = true →
    runsTo (.gugEnable m) s (fun t =>
      t.bit F.GUG_CTL.ENABLE = true ∧
      t.rd F.GUG_STATUS.PENDING_ENABLE = (if s.rd F.GUG_STATUS.STATE = 2 then 1 else s.rd F.GUG_STATUS.PENDING_ENABLE) ∧
      t.rd F.GUG_STATUS.STATE = s.rd F.GUG_STATUS.STATE ∧
      t = { s with regs := t.regs } ∧
      regsApart [F.GUG_CTL.ENABLE.off, F.GUG_STATUS.STATE.off] s t)) ∧
  (∀ (s : State) (m : Master) (written : Nat),
    s.serves m F.GUG_CTL.ENABLE.off = true →
    s.rd F.GUG_STATUS.STATE ≠ 1 →
    runsTo (.gugDisable m written) s (fun t =>
      t.rd F.GUG_CTL.ENABLE = 0 ∧
      t.rd F.GUG_STATUS.PENDING_ENABLE = 0 ∧
      t.rd F.GUG_STATUS.STATE = s.rd F.GUG_STATUS.STATE ∧
      t = { s with regs := t.regs } ∧
      regsApart [F.GUG_CTL.ENABLE.off, F.GUG_STATUS.STATE.off] s t)) ∧
  (∀ (s : State) (m : Master) (written : Nat),
    s.serves m F.GUG_CTL.ENABLE.off = true →
    s.rd F.GUG_STATUS.STATE = 1 →
    runsTo (.gugDisable m written) s (fun t =>
      t.rd F.GUG_CTL.ENABLE = 0 ∧
      t.rd F.GUG_STATUS.STATE = 2 ∧
      t.rd F.GUG_STATUS.PENDING_ENABLE = 0 ∧
      (s.ddrErr = [] → t = { s.unitParts t with ddr := t.ddr, poison := t.poison, hostMem := t.hostMem, hostPoison := t.hostPoison, sram := t.sram, sramErr := t.sramErr, sramPoison := t.sramPoison, free := s.free + written }) ∧
      (s.ddrErr = [] → unitApart [F.GUG_CTL.ENABLE.off, F.GUG_STATUS.STATE.off, F.MEM_ERR.RMW_POISON.off] s t) ∧
      (∀ a, (∀ b ∈ gugAfterHeader s.gugBuffers, b.2.2 = 1 → a < b.1 ∨ b.1 + b.2.1 ≤ a) → smGet byteDefault t.hostMem a = smGet byteDefault s.hostMem a) ∧
      (∀ a, (∀ b ∈ gugAfterHeader s.gugBuffers, 2 ≤ b.2.2 → a < b.1 ∨ b.1 + b.2.1 ≤ a) → smGet byteDefault t.sram a = smGet byteDefault s.sram a) ∧
      (s.ddrErr = [] → s.mem.remaps = [] → ∀ a, (∀ b ∈ gugAfterHeader s.gugBuffers, b.2.2 = 0 → a < b.1 ∨ b.1 + b.2.1 ≤ a) → smGet byteDefault t.ddr a = smGet byteDefault s.ddr a))) ∧
  (∀ (s : State) (m : Master),
    s.serves m F.GUG_CTL.GO.off = true →
    s.bit F.GUG_CTL.ENABLE = true →
    s.rd F.GUG_STATUS.STATE = 0 →
    s.gugSrcBad = false →
    s.gugListBad = false →
    runsTo (.gugGo m) s (fun t =>
      t.rd F.GUG_STATUS.STATE = 1 ∧
      t.rd F.GUG_OUT_LEN.BYTES = 0 ∧
      t.rd F.GUG_OUT_BUFS.USED = 0 ∧
      (s.bit F.GUG_JOB_LIST.SPACE = true ∨ s.ddrErr = [] → t = s.unitParts t ∧ unitApart [F.GUG_STATUS.STATE.off, F.GUG_OUT_LEN.BYTES.off, F.GUG_OUT_BUFS.USED.off] s t))) ∧
  (∀ (s : State) (m : Master),
    s.serves m F.GUG_CTL.GO.off = true →
    s.bit F.GUG_CTL.ENABLE = true →
    s.rd F.GUG_STATUS.STATE = 0 →
    (s.gugSrcBad = true ∨ s.gugListBad = true) →
    runsTo (.gugGo m) s (fun t =>
      t.rd F.GUG_STATUS.STATE = 3 ∧
      t.rd F.GUG_STATUS.ERR = (if s.gugSrcBad then 1 else 4) ∧
      t = { s with regs := t.regs } ∧
      regsApart [F.GUG_STATUS.STATE.off, (F.DOC_ROUTE.PENDING 12).off] s t)) ∧
  (∀ (s : State) (flaw : Option (Nat × Byte)) (blocks src : List Byte) (a n : Nat),
    s.rd F.GUG_STATUS.STATE = 1 →
    s.rd F.GUG_JOB_SRC.SPACE = 2 →
    s.gugBuffers = [(a, n, 1)] →
    12 + blocks.length ≤ n →
    n < 2 ^ 32 →
    src = memRead s.sram (s.rd F.GUG_JOB_SRC.ADDR) (s.rd F.GUG_JOB_LEN.LEN) →
    s.sramPoisoned (s.rd F.GUG_JOB_SRC.ADDR) (s.rd F.GUG_JOB_LEN.LEN) = false →
    blocks = gugFlawed flaw (gugEmit (s.rd F.GUG_CTL.LEVEL) src (ceilDiv src.length 65536)) →
    (gugDecode (gugHead src ++ blocks)).form = true →
    (gugDecode (gugHead src ++ blocks)).out = src →
    runsTo (.gugJobComplete flaw) s (fun t =>
      memRead t.hostMem a (12 + blocks.length) = leBytes 2 0x4755 ++ leBytes 1 1 ++ leBytes 1 0 ++ leBytes 4 (s.rd F.GUG_JOB_LEN.LEN) ++ leBytes 4 (crc32c src) ++ blocks ∧
      (∀ x, x < a ∨ a + (12 + blocks.length) ≤ x → smGet byteDefault t.hostMem x = smGet byteDefault s.hostMem x) ∧
      t.rd F.GUG_OUT_LEN.BYTES = 12 + blocks.length ∧
      t.rd F.GUG_OUT_BUFS.USED = 1 ∧
      t.rd F.GUG_OUT_BUFS.LAST_FILL = 12 + blocks.length ∧
      t.rd F.GUG_STATUS.STATE = 0 ∧
      t.rd F.GUG_STATUS.DONE = 1 ∧
      t = { s with regs := t.regs, hostMem := t.hostMem, hostPoison := t.hostPoison } ∧
      regsApart [F.GUG_STATUS.STATE.off, F.GUG_OUT_LEN.BYTES.off, F.GUG_OUT_BUFS.USED.off, (F.DOC_ROUTE.PENDING 12).off] s t)) ∧
  (∀ (s : State) (f : Nat × Byte) (blocks src : List Byte) (a n : Nat),
    s.rd F.GUG_STATUS.STATE = 1 →
    s.rd F.GUG_JOB_SRC.SPACE = 2 →
    s.gugBuffers = [(a, n, 1)] →
    n < 2 ^ 32 →
    src = memRead s.sram (s.rd F.GUG_JOB_SRC.ADDR) (s.rd F.GUG_JOB_LEN.LEN) →
    s.sramPoisoned (s.rd F.GUG_JOB_SRC.ADDR) (s.rd F.GUG_JOB_LEN.LEN) = false →
    blocks = (gugEmit (s.rd F.GUG_CTL.LEVEL) src (ceilDiv src.length 65536)).set f.1 f.2 →
    f.1 < blocks.length →
    12 + f.1 < n →
    ((gugDecode (gugHead src ++ blocks)).form = false ∨ (gugDecode (gugHead src ++ blocks)).out ≠ src) →
    runsTo (.gugJobComplete (some f)) s (fun t =>
      t.rd F.GUG_STATUS.STATE = 3 ∧
      t.rd F.GUG_STATUS.ERR = 3 ∧
      t.rd F.GUG_STATUS.SELF_CHECK_FAILS = min (s.rd F.GUG_STATUS.SELF_CHECK_FAILS + 1) (2 ^ F.GUG_STATUS.SELF_CHECK_FAILS.width - 1) ∧
      t.rd F.GUG_OUT_LEN.BYTES = 13 + f.1 ∧
      memRead t.hostMem a (13 + f.1) = List.replicate 12 0#8 ++ blocks.take (f.1 + 1) ∧
      (∀ x, x < a ∨ a + (13 + f.1) ≤ x → smGet byteDefault t.hostMem x = smGet byteDefault s.hostMem x) ∧
      t = { s with regs := t.regs, hostMem := t.hostMem, hostPoison := t.hostPoison } ∧
      regsApart [F.GUG_STATUS.STATE.off, F.GUG_OUT_LEN.BYTES.off, F.GUG_OUT_BUFS.USED.off, (F.DOC_ROUTE.PENDING 12).off] s t)) ∧
  (∀ (s : State) (blocks src : List Byte) (a n : Nat),
    s.rd F.GUG_STATUS.STATE = 1 →
    s.rd F.GUG_JOB_SRC.SPACE = 2 →
    s.gugBuffers = [(a, n, 1)] →
    12 ≤ n ∧ n < 12 + blocks.length →
    n < 2 ^ 32 →
    src = memRead s.sram (s.rd F.GUG_JOB_SRC.ADDR) (s.rd F.GUG_JOB_LEN.LEN) →
    s.sramPoisoned (s.rd F.GUG_JOB_SRC.ADDR) (s.rd F.GUG_JOB_LEN.LEN) = false →
    blocks = gugEmit (s.rd F.GUG_CTL.LEVEL) src (ceilDiv src.length 65536) →
    runsTo (.gugJobComplete none) s (fun t =>
      t.rd F.GUG_STATUS.STATE = 3 ∧
      t.rd F.GUG_STATUS.ERR = 2 ∧
      t.rd F.GUG_OUT_LEN.BYTES = n ∧
      memRead t.hostMem a n = List.replicate 12 0#8 ++ blocks.take (n - 12) ∧
      (∀ x, x < a ∨ a + n ≤ x → smGet byteDefault t.hostMem x = smGet byteDefault s.hostMem x) ∧
      t = { s with regs := t.regs, hostMem := t.hostMem, hostPoison := t.hostPoison } ∧
      regsApart [F.GUG_STATUS.STATE.off, F.GUG_OUT_LEN.BYTES.off, F.GUG_OUT_BUFS.USED.off, (F.DOC_ROUTE.PENDING 12).off] s t)) ∧
  (∀ (s : State) (blocks src : List Byte) (a n : Nat),
    s.rd F.GUG_STATUS.STATE = 1 →
    s.rd F.GUG_JOB_SRC.SPACE = 2 →
    s.gugBuffers = [(a, n, 1)] →
    n < 2 ^ 32 →
    src = memRead s.sram (s.rd F.GUG_JOB_SRC.ADDR) (s.rd F.GUG_JOB_LEN.LEN) →
    s.gugPieces < ceilDiv src.length 65536 →
    blocks = gugEmit (s.rd F.GUG_CTL.LEVEL) src s.gugPieces →
    12 + blocks.length ≤ n →
    runsTo (.gugJobComplete none) s (fun t =>
      t.rd F.GUG_STATUS.STATE = 3 ∧
      t.rd F.GUG_STATUS.ERR = 1 ∧
      t.rd F.GUG_OUT_LEN.BYTES = 12 + blocks.length ∧
      memRead t.hostMem a (12 + blocks.length) = List.replicate 12 0#8 ++ blocks ∧
      (∀ x, x < a ∨ a + (12 + blocks.length) ≤ x → smGet byteDefault t.hostMem x = smGet byteDefault s.hostMem x) ∧
      t = { s with regs := t.regs, hostMem := t.hostMem, hostPoison := t.hostPoison } ∧
      regsApart [F.GUG_STATUS.STATE.off, F.GUG_OUT_LEN.BYTES.off, F.GUG_OUT_BUFS.USED.off, (F.DOC_ROUTE.PENDING 12).off] s t)) ∧
  (∀ (s : State),
    s.rd F.GUG_STATUS.STATE = 2 →
    runsTo (.gugDrainComplete) s (fun t =>
      t.rd F.GUG_STATUS.STATE = 0 ∧
      t.rd F.GUG_STATUS.PENDING_ENABLE = 0 ∧
      t = { s with regs := t.regs } ∧
      regsApart [F.GUG_STATUS.STATE.off] s t)) ∧
  (∀ (s : State) (m : Master) (bits : Fin 16),
    s.serves m F.GUG_STATUS.ERR.off = true →
    bits ≠ 0 →
    runsTo (.gugErrClear m bits) s (fun t =>
      t.rd F.GUG_STATUS.ERR = 0 ∧
      t.rd F.GUG_STATUS.STATE = (if s.rd F.GUG_STATUS.STATE = 3 then 0 else s.rd F.GUG_STATUS.STATE) ∧
      t = { s with regs := t.regs } ∧
      settledApart F.GUG_STATUS.ERR.off s t))

/-- DENSITY_ROW_DONE, PEC_ROW_DONE. When the next tile row of the density pass may be taken and nothing in it failed,
its two cell rows of densities (with UNKNOWN where a row is missing or a tile failed) head the leaf's densities, the
row is the last one done and TAL_STATUS shows it. When the densities that the next cell row of modulations needs are
done, its 130 modulations head the leaf's modulations and PEC_STATUS shows the row. Beside the leaf and the
registers of the unit only the ring row of the unit changes in DDR5, whose place and encoding are the model's (log
entry 127); its accesses pass the controllers within the command (log entry 133). How far the passes reach and what
they keep are log entries 30, 35 and 126. A density row that stands poisoned in the ring loses its cells. (Rests on:
spec/04_raster.md, The density pass; spec/04_raster.md, Proximity correction.) -/
def Obligations.RowsOfDensityAndModulationAreFinishedInOrder : Prop :=
  (∀ (s : State) (p : Fin 2) (l : Leaf) (h : LeafHdr),
    s.leafAt p = some l →
    l.hdr = some h →
    s.densityMay p l h (l.ras.densRow + 1) = true →
    (l.rowPaths (l.ras.densRow + 1)).all (fun g => g.2.all pathFlattens) = true →
    runsTo (.densityRowDone p [] []) s (fun t =>
      (t.leafAt p).map (fun x => (x.ras.densRow, x.ras.rho)) = some (l.ras.densRow + 1, ([(2 * (l.ras.densRow + 1) + 1, l.densityRow h (2 * (l.ras.densRow + 1) + 1) []), (2 * (l.ras.densRow + 1), l.densityRow h (2 * (l.ras.densRow + 1)) [])] ++ l.ras.rho).take 128) ∧
      (t.leafAt p).map (fun x => (x.id, x.tiles, x.missing, x.ras.modRow, x.ras.next, x.ras.tiles)) = some (l.id, l.tiles, l.missing, l.ras.modRow, l.ras.next, l.ras.tiles) ∧
      t.rd F.TAL_STATUS.DENSITY_TROW = unsigned F.TAL_STATUS.DENSITY_TROW.width (l.ras.densRow + 1) ∧
      t.leafAt (1 - p.val) = s.leafAt (1 - p.val) ∧
      t = { s.unitParts t with fol := t.fol, ddr := t.ddr, ddrErr := t.ddrErr, poison := t.poison, free := s.free + 8192 } ∧
      (s.ddrErr = [] ∧ s.mem.remaps = [] → ∀ a, (a < s.rd F.TAL_RING.BASE * 4096 + ((l.ras.densRow + 1) % 64).toNat * 8192 ∨ s.rd F.TAL_RING.BASE * 4096 + ((l.ras.densRow + 1) % 64).toNat * 8192 + 8192 ≤ a) → smGet byteDefault t.ddr a = smGet byteDefault s.ddr a) ∧
      unitOutside (fun b => b = 0x6) s t)) ∧
  (∀ (s : State) (p : Fin 2) (l : Leaf) (h : LeafHdr) (lost : List Int),
    s.ddrErr = [] →
    s.leafAt p = some l →
    l.hdr = some h →
    l.admitted = true →
    h.pec = true →
    l.ras.modRow + 1 ≤ hdrC h →
    min ((l.ras.modRow + 1 + ((s.pecK - 1) / 2 : Nat)) / 2) (hdrHigh h) ≤ l.ras.densRow →
    lost = ((s.pecReach h (l.ras.modRow + 1)).filter (fun t => s.ddrPoisoned (s.talRingAt t) 8192)).flatMap (fun t => [2 * t, 2 * t + 1]) →
    runsTo (.pecRowDone p []) s (fun t =>
      (t.leafAt p).map (fun x => (x.ras.modRow, x.ras.mods.head?)) = some (l.ras.modRow + 1, some (l.ras.modRow + 1, (rowsFrom (-1) 128).map (fun c => s.modulation l.ras h [] lost (l.ras.modRow + 1) c))) ∧
      (t.leafAt p).map (fun x => (x.id, x.tiles, x.ras.densRow, x.ras.rho, x.ras.next, x.ras.tiles)) = some (l.id, l.tiles, l.ras.densRow, l.ras.rho, l.ras.next, l.ras.tiles) ∧
      t.rd F.PEC_STATUS.MOD_TROW = unsigned F.PEC_STATUS.MOD_TROW.width (l.ras.modRow / 2) ∧
      t.rd F.PEC_ERR.POISON = (if lost = [] then s.rd F.PEC_ERR.POISON else 1) ∧
      t = { s.unitParts t with fol := t.fol, ddr := t.ddr, poison := t.poison } ∧
      (s.mem.remaps = [] → ∀ a, (a < s.rd F.PEC_RING.BASE * 4096 + ((l.ras.modRow + 1) % 128).toNat * 512 ∨ s.rd F.PEC_RING.BASE * 4096 + ((l.ras.modRow + 1) % 128).toNat * 512 + 260 ≤ a) → smGet byteDefault t.ddr a = smGet byteDefault s.ddr a) ∧
      (∀ x, x / 0x10000 ≠ 7 → x ≠ F.MEM_ERR.RMW_POISON.off → x / 0x10000 ≠ 0x23 → x ≠ F.MEM_COUNTS.CAPPED.off → t.reg x = s.reg x)))

/-- TILE_START, EDGE_PHASE_END, SWEEP_END, TALLY_VERDICT, TILE_SCATTER_END. A tile whose row is decoded, dense,
corrected and within the lead starts in its engine and the engine's next row advances; a tile whose row is missing
or failed is reported with the lowest cause that strikes it. The edge phase ends in the sweep, or fails the tile
with cause 1 on poison. A sweep with no fault leaves the window's gray words and Tally's eight sums. A verdict
within the bounds verifies the tile and fixes its digest; a region out of bounds fails it with cause 4. The scatter
writes the tile's bytes of slots 4t to 4t + 530 into the Reserve, free ones in the padding (log entry 36). No memory
changes; a sweep that reads maps in DDR5 counts its accesses (log entry 133). Every cause that strikes is counted,
the lowest reported (log entries 32, 33); what the slices show when empty is log entry 165. (Rests on:
spec/04_raster.md, Engine timing and tile faults; spec/04_raster.md, Issue schedule, wings and deadlines;
spec/04_raster.md, Tally; spec/05_dose.md, The dual dose stage; spec/05_dose.md, The Reserve; spec/12_twin.md,
Lockstep, heartbeats and digests.) -/
def Obligations.EnginesRasteriseTilesThatTallyVerifies : Prop :=
  (∀ (s : State) (e : Fin 64) (p : Nat) (l : Leaf) (h : LeafHdr) (r : Int),
    s.engineNext e = some (p, l, h, r) →
    l.bankKnown = true →
    (s.paired && decide (s.twn.mirroring = some l.id)) = false →
    s.rowPassed p l r = false →
    l.rowDone h r = true →
    l.skipCauses h r e = [] →
    l.densityReady h r = true →
    l.pecReady h r = true →
    s.reserveAdmits l r = true →
    s.engineFree e = true →
    e.val < l.ras.next.length →
    runsTo (.tileStart e) s (fun t =>
      ((t.leafAt p).bind (fun x => x.ras.tileAt r e)) = some (tileNew r e) ∧
      (t.leafAt p).map (fun x => (x.id, x.ras.next)) = some (l.id, l.ras.next.set e (r + 1)) ∧
      t.rsv.high = (if s.rsv.high.any (fun g => decide (0 < frameAhead g (globalFrame l.ras.base (4 * r).toNat))) then s.rsv.high else some (globalFrame l.ras.base (4 * r).toNat)) ∧
      t = { s with regs := t.regs, fol := t.fol, rsv := { s.rsv with high := t.rsv.high } } ∧
      regsOutside (fun b => b = 0x6 || (8 ≤ b && b ≤ 0xC) || b = 0x10 || b = 0x12) s t)) ∧
  (∀ (s : State) (e : Fin 64) (p : Nat) (l : Leaf) (h : LeafHdr) (r : Int) (c : Nat) (cs : List Nat),
    s.engineNext e = some (p, l, h, r) →
    l.bankKnown = true →
    (s.paired && decide (s.twn.mirroring = some l.id)) = false →
    s.rowPassed p l r = false →
    l.skipCauses h r e = c :: cs →
    l.ras.tileAt r e = none →
    e.val < l.ras.next.length →
    runsTo (.tileStart e) s (fun t =>
      ((t.leafAt p).bind (fun x => x.ras.tileAt r e)).map (fun k => (k.cause, k.phase, k.digest)) = some (lowestCause (c :: cs), .out, some (lowestCause (c :: cs), 0)) ∧
      (t.leafAt p).map (fun x => (x.id, x.ras.next)) = some (l.id, l.ras.next.set e (r + 1)) ∧
      t.rsv = s.rsv ∧
      sameMemories s t)) ∧
  (∀ (s : State) (e : Fin 64) (p : Nat) (k : TileSt),
    s.engineTile e .edge = some (p, k) →
    k.tally = false →
    runsTo (.edgePhaseEnd e false false 0) s (fun t =>
      ((t.leafAt p).bind (fun x => x.ras.tileAt k.row e)) = some { k with phase := .sweep } ∧
      t = { s with regs := t.regs, fol := t.fol } ∧
      regsOutside (fun b => b = 0x6 || (8 ≤ b && b ≤ 0xC) || b = 0x10) s t)) ∧
  (∀ (s : State) (e : Fin 64) (p : Nat) (k : TileSt),
    s.engineTile e .edge = some (p, k) →
    k.cause = 0 →
    (s.leafAt p).bind (fun x => x.ras.tileAt k.row e) = some k →
    runsTo (.edgePhaseEnd e true false 0) s (fun t =>
      ((t.leafAt p).bind (fun x => x.ras.tileAt k.row e)) = some { k with phase := .out, grays := [], cause := 1, digest := some (1, 0) } ∧
      t.rd F.RAS_ERR.POISON = 1 ∧
      t.rd F.RAS_COUNTS.FAILED = min (s.rd F.RAS_COUNTS.FAILED + 1) (2 ^ F.RAS_COUNTS.FAILED.width - 1) ∧
      t.rd F.RAS_LAST_FAIL.CAUSE = 1 ∧
      t.rd F.RAS_LAST_FAIL.TCOL = e.val ∧
      sameMemories s t)) ∧
  (∀ (s : State) (e : Fin 64) (p : Nat) (k : TileSt) (l : Leaf) (h : LeafHdr),
    s.engineTile e .sweep = some (p, k) →
    s.leafAt p = some l →
    l.hdr = some h →
    k.tally = false →
    (s.buffered e).length < 2 →
    fillBreach ((tilePieces (l.pathsAt false k.row (e.val : Int))).flatMap subPieces) (s.rd F.RAS_CFG.CLAMP_MARGIN) = false →
    s.ddrErr = [] →
    (s.mapRanges h k.row).any (fun r => s.ddrPoisoned r.1 r.2) = false →
    runsTo (.sweepEnd e ⟨false, false, 0, [], [], 0⟩) s (fun t =>
      ((t.leafAt p).bind (fun x => x.ras.tileAt k.row e)) = some { k with phase := .swept, grays := s.tileGrays l h (s.bank (l.ras.bank.getD 0)) k.row e (coverWord ((tilePieces (l.pathsAt false k.row (e.val : Int))).flatMap subPieces) []) (pixelClass (l.pathsAt false k.row (e.val : Int))), sums := (List.range 8).map (regionSum ((tilePieces (l.pathsAt false k.row (e.val : Int))).flatMap subPieces) []), compared := true } ∧
      t.rd (F.RAS_E_TILES.COUNT e) = (s.rd (F.RAS_E_TILES.COUNT e) + 1) % 2 ^ (F.RAS_E_TILES.COUNT e).width ∧
      unitOutside (fun b => b = 0x6 || (8 ≤ b && b ≤ 0xC) || b = 0x10 || b = 0x20) s t ∧
      sameMemories s t)) ∧
  (∀ (s : State) (e : Fin 64) (p : Nat) (k : TileSt) (l : Leaf),
    s.firstTile (s.tilesWhere (fun k => k.col = e && k.phase = .swept && !k.tally)) = some (p, k) →
    s.leafAt p = some l →
    tallyFails k.sums (((l.ras.checks.find? (fun c => c.1 = k.row)).map (fun c => c.2.getD e [])).getD []) = [] →
    l.ras.unknownCause k.row e = none →
    s.paired = false →
    runsTo (.tallyVerdict e) s (fun t =>
      ((t.leafAt p).bind (fun x => x.ras.tileAt k.row e)) = some { k with tally := true, digest := some (0, tileDigest l.id k.row e k.grays) } ∧
      t.rsv = s.rsv ∧
      regsOutside (fun b => b = 0x6 || b = 0x10 || b = 0x20 || b = 0x23) s t ∧
      sameMemories s t)) ∧
  (∀ (s : State) (e : Fin 64) (p : Nat) (k : TileSt) (l : Leaf),
    s.firstTile (s.tilesWhere (fun k => k.col = e && k.phase = .swept && !k.tally)) = some (p, k) →
    s.leafAt p = some l →
    k.cause = 0 →
    l.ras.tileAt k.row e = some k →
    tallyFails k.sums (((l.ras.checks.find? (fun c => c.1 = k.row)).map (fun c => c.2.getD e [])).getD []) ≠ [] →
    l.ras.unknownCause k.row e = none →
    runsTo (.tallyVerdict e) s (fun t =>
      ((t.leafAt p).bind (fun x => x.ras.tileAt k.row e)).map (fun k => (k.cause, k.phase, k.tally)) = some (4, .out, k.tally) ∧
      t.rd F.TAL_ERR.MISMATCH = 1 ∧
      t.rd F.TAL_COUNTS.MISMATCH = min (s.rd F.TAL_COUNTS.MISMATCH + 1) (2 ^ F.TAL_COUNTS.MISMATCH.width - 1) ∧
      t.rd F.RAS_LAST_FAIL.CAUSE = 4 ∧
      t.rd F.TAL_LAST.TCOL = e.val ∧
      sameMemories s t)) ∧
  (∀ (s : State) (e : Fin 64) (p : Nat) (k : TileSt) (l : Leaf),
    s.firstTile (s.buffered e) = some (p, k) →
    s.leafAt p = some l →
    0 ≤ k.row →
    runsTo (.tileScatterEnd e none 0) s (fun t =>
      ((t.leafAt p).bind (fun x => x.ras.tileAt k.row e)) = some { k with scattered := true } ∧
      (∀ i, i < 531 → (granuleBytes (s.bank (l.ras.bank.getD 0)) k.grays l.ras.base k.row e ((4 * k.row).toNat + i) (s.free + 32 * i)).all (fun x => smGet (fun _ => 0) t.rsv.bytes x.1 = x.2) = true) ∧
      (∀ a, (∀ i, i < 531 → ∀ x ∈ granuleBytes (s.bank (l.ras.bank.getD 0)) k.grays l.ras.base k.row e ((4 * k.row).toNat + i) (s.free + 32 * i), a ≠ x.1) → smGet (fun _ => 0) t.rsv.bytes a = smGet (fun _ => 0) s.rsv.bytes a) ∧
      t.free = s.free + 32 * 531 ∧
      regsOutside (fun b => b = 0x6 || b = 0x10 || b = 0x20 || b = 0x23) s t ∧
      sameMemories s t))

/-- BCT_COMMIT_GO, BCT_LOAD_START, BCT_COMMIT_RESOLVED, TAL_INJECT_WRITE. A commit for a leaf that is not admitted is
LOADING with its expected CRC; one for an admitted leaf is refused with cause 6. A waiting commit takes a free bank.
A loaded table that fails its checks is refused with the cause and place found, REFUSED is set, both banks are as
they were (R7's offset among the causes) and no commit is left; one that passes fills its bank with the staged
entries. The staging buffer is read through the controllers (log entry 133) with the table as it is found there; a
commit in the cycle of its leaf's admission is late (log entry 34), and ROW is 0 where no one row is at fault (log
entry 164). A write of TAL_INJECT arms region and delta. (Rests on: spec/05_dose.md, Beam tables; spec/04_raster.md,
Tally; spec/00_scope.md, Number formats.) -/
def Obligations.BeamTableCommitsLoadAndAreRefusedInFull : Prop :=
  (∀ (s : State) (m : Master) (leaf : BitVec 16),
    s.serves m F.BCT_COMMIT.LEAF.off = true →
    ([0, 1] : List Nat).all (fun p => !(s.leafAt p).any (fun l => l.admitted && l.id = leaf.toNat)) = true →
    runsTo (.bctCommitGo m leaf) s (fun t =>
      t.bct.commit = some ⟨leaf.toNat, s.rd F.BCT_COMMIT_CRC.CRC, none, s.cycle⟩ ∧
      t.rd F.BCT_STATUS.STATE = 1 ∧
      t.rd F.BCT_STATUS.CAUSE = 0 ∧
      t.rd F.BCT_STATUS.LEAF = leaf.toNat ∧
      t.bct.bank0 = s.bct.bank0 ∧
      t.bct.bank1 = s.bct.bank1 ∧
      t.rd (F.DOC_ROUTE.PENDING 24) = 1 ∧
      regsOutside (fun b => b = 0x11 || b = 0x20) s t ∧
      sameMemories s t)) ∧
  (∀ (s : State) (m : Master) (leaf : BitVec 16),
    s.serves m F.BCT_COMMIT.LEAF.off = true →
    ([0, 1] : List Nat).any (fun p => (s.leafAt p).any (fun l => l.admitted && l.id = leaf.toNat)) = true →
    runsTo (.bctCommitGo m leaf) s (fun t =>
      t.bct.commit = none ∧
      t.rd F.BCT_STATUS.STATE = 3 ∧
      t.rd F.BCT_STATUS.CAUSE = 6 ∧
      t.rd F.BCT_ERR.REFUSED = 1 ∧
      t.bct.bank0 = s.bct.bank0 ∧
      t.bct.bank1 = s.bct.bank1 ∧
      t.ddr = s.ddr)) ∧
  (∀ (s : State) (c : BctCommit) (b : Nat),
    s.bct.commit = some c →
    c.bank = none →
    s.freeBank c.leaf = some b →
    runsTo (.bctLoadStart) s (fun t =>
      t = { s with bct := { s.bct with commit := some { c with bank := some b } } })) ∧
  (∀ (s u : State) (c : BctCommit) (b cause column row : Nat),
    s.bct.commit = some c →
    c.bank = some b →
    u = s.unitRead 32 s.stageBase stageLen 1 →
    u.commitCheck c.crc = some (cause, column, row) →
    runsTo (.bctCommitResolved) s (fun t =>
      t.rd F.BCT_STATUS.STATE = 3 ∧
      t.rd F.BCT_STATUS.CAUSE = cause ∧
      t.rd F.BCT_STATUS.COLUMN = column ∧
      t.rd F.BCT_STATUS.ROW = row ∧
      t.rd F.BCT_ERR.REFUSED = 1 ∧
      t.bct.bank0 = s.bct.bank0 ∧
      t.bct.bank1 = s.bct.bank1 ∧
      t.bct.commit = none ∧
      t.ddr = u.ddr)) ∧
  (∀ (s : State) (c : BctCommit) (b : Nat), s.bct.commit = some c → c.bank = some b → b < 2 → s.ddrErr = [] → s.commitCheck c.crc = none →
    runsTo .bctCommitResolved s (fun t => t.rd F.BCT_STATUS.STATE = 2 ∧ t.rd F.BCT_STATUS.CAUSE = 0 ∧ t.bct.commit = none ∧
      (t.bank b).crc = c.crc ∧ (∀ k, k < 270336 → smGet bctDefault (t.bank b).entries k = s.stageEntry k) ∧
      t.bank (1 - b) = s.bank (1 - b) ∧ t.rd (F.BCT_BANK.CRC b) = c.crc % 2 ^ (F.BCT_BANK.CRC b).width ∧ t.ddr = s.ddr)) ∧
  (∀ (s : State) (m : Master) (v : BitVec 32),
    s.serves m F.TAL_INJECT.ARM.off = true →
    runsTo (.talInjectWrite m v) s (fun t =>
      t.rd F.TAL_INJECT.ARM = v.toNat % 2 ∧
      t.rd F.TAL_INJECT.REGION = v.toNat / 2 % 2 ^ F.TAL_INJECT.REGION.width ∧
      t.rd F.TAL_INJECT.DELTA = v.toNat / 65536 % 2 ^ F.TAL_INJECT.DELTA.width ∧
      t = { s with regs := t.regs } ∧
      regsApart [F.TAL_INJECT.ARM.off] s t))

/-- LEAF_ARM, DUE_MARK_CROSSING, SLOT_STROBE, TRACKER_PAUSE, LEAF_BOUNDARY. From IDLE in PREVIEW or RUN the first leaf
in order is armed with no mark, decision or early end, and P_min is the largest term. At due(-2) with no start
condition lacking it runs: SLT_SLOT shows -2, RSV_LEAF its base, and leaf events are announced. At due(-1), and at
each due(n) whose decisions are taken, the mark or SS is recorded; after the last SS, LB is due. A pause leaves all
but the state. P_min is written at arming (log entry 39); READ_LATE of the slot after is judged at SS (log entry
45). At LB the place is free, the identifier ended, the tracker IDLE and its frames released. No memory changes
before LB. (Rests on: spec/06_slots.md, Due positions; spec/06_slots.md, Tracker states; spec/06_slots.md, Tracking
loop and strobes.) -/
def Obligations.ArmedLeavesStartAndStrobeTheirSlots : Prop :=
  (∀ (s : State) (p : Nat) (rest : List Nat) (l : Leaf) (h : LeafHdr) (twin : Bool),
    s.rd F.SLT_STATUS.STATE = 0 →
    (s.mode = 2 ∨ s.mode = 3) →
    s.saf.acting = false →
    s.saf.groupRunning = false →
    s.blk.stepTo = none →
    s.boot.quiescing = false →
    s.fol.order = p :: rest →
    s.leafAt p = some l →
    l.hdr = some h →
    s.slt.firstArm = false →
    s.twn.divergeLeaf = none →
    runsTo (.leafArm twin) s (fun t =>
      t.rd F.SLT_STATUS.STATE = 1 ∧
      t.rd F.SLT_STATUS.OVER_RUN = 0 ∧
      t.rd F.SLT_PERIOD.P_MIN = (largestTerm (s.periodTerms h.rate)).2 % 2 ^ 32 ∧
      t.curLeaf = some (p, l, h) ∧
      t.slt = { s.slt with furthest := s.stageAt h, near := decide (s.stageAt h < s.due h (-2)), decided := -1, strobed := -3, endAt := none, lbDue := false, window := 0, linkRun := 0 } ∧
      t = { s with regs := t.regs, fol := { s.fol with cur := some p }, slt := t.slt } ∧
      regsOutside (fun b => b = 0x4 || b = 0x13 || b = 0x14) s t)) ∧
  (∀ (s : State) (p : Nat) (l : Leaf) (h : LeafHdr),
    s.curLeaf = some (p, l, h) →
    s.rd F.SLT_STATUS.STATE = 1 →
    s.saf.acting = false →
    s.startWait = 0 →
    s.slt.window = 0 →
    s.slotRec l.id 0 = none →
    runsTo (.dueMarkCrossing false) s (fun t =>
      t.rd F.SLT_STATUS.STATE = 2 ∧
      t.rdInt F.SLT_SLOT.SLOT = -2 ∧
      t.rd F.SLT_SLOT.LEAF = l.id % 65536 ∧
      t.rd F.RSV_LEAF.BASE = l.ras.base % 2 ^ F.RSV_LEAF.BASE.width ∧
      t.slt = { s.slt with strobed := -2, furthest := max s.slt.furthest (s.due h (-2)), window := t.slt.window } ∧
      t.rd (F.DOC_ROUTE.PENDING 21) = 1 ∧
      t.hif.due.getLsbD 2 = true ∧
      t = { s with regs := t.regs, hif := { s.hif with due := t.hif.due }, slt := t.slt, twn := { s.twn with ownEnd := none } } ∧
      regsOutside (fun b => b = 0x4 || b = 0x12 || b = 0x13 || b = 0x20) s t)) ∧
  (∀ (s : State) (p : Nat) (l : Leaf) (h : LeafHdr),
    s.curLeaf = some (p, l, h) →
    s.strobes = true →
    s.slt.strobed = -2 →
    0 ≤ s.slt.decided →
    s.slt.window = 0 →
    (s.slotRec l.id 0).all (fun r => !r.data || r.read) = true →
    runsTo (.dueMarkCrossing true) s (fun t =>
      t.rd F.SLT_STATUS.STATE = (if s.rd F.SLT_STATUS.STATE = 3 then 2 else s.rd F.SLT_STATUS.STATE) ∧
      t.rdInt F.SLT_SLOT.SLOT = -1 ∧
      t.slt = { s.slt with strobed := -1, furthest := max s.slt.furthest (s.due h (-1)), window := t.slt.window } ∧
      t = { s with regs := t.regs, slt := t.slt } ∧
      regsApart [F.SLT_STATUS.STATE.off, F.SLT_SLOT.SLOT.off] s t)) ∧
  (∀ (s : State) (p : Nat) (l : Leaf) (h : LeafHdr) (n : Nat),
    s.curLeaf = some (p, l, h) →
    s.strobes = true →
    s.slt.strobed + 1 = n →
    (s.hasAuth && s.bit F.TWN_STATUS.PEER_AUTH) = false →
    (n : Int) ≤ s.lastSlot h →
    min ((n : Int) + 1) (s.lastSlot h) ≤ s.slt.decided →
    s.slt.window = 0 →
    (s.slotRec l.id n).all (fun r => r.sent) = true →
    (s.slotRec l.id (n + 1)).all (fun r => !r.data || r.read) = true →
    n < 2 ^ 31 →
    runsTo (.slotStrobe) s (fun t =>
      t.rdInt F.SLT_SLOT.SLOT = n ∧
      t.rd F.SLT_SLOT.LEAF = l.id % 65536 ∧
      t.slt = { s.slt with strobed := n, furthest := max s.slt.furthest (s.due h n), window := t.slt.window, lbDue := decide ((n : Int) = s.lastSlot h) } ∧
      t.rd F.SLT_STATUS.STATE = (if s.rd F.SLT_STATUS.STATE = 3 then 2 else s.rd F.SLT_STATUS.STATE) ∧
      t = { s with regs := t.regs, slt := t.slt } ∧
      regsApart [F.SLT_STATUS.STATE.off, F.SLT_SLOT.SLOT.off] s t)) ∧
  (∀ (s : State),
    s.rd F.SLT_STATUS.STATE = 2 →
    s.slt.lbDue = false →
    runsTo (.trackerPause) s (fun t =>
      t.rd F.SLT_STATUS.STATE = 3 ∧
      t = { s with regs := t.regs } ∧
      regsApart [F.SLT_STATUS.STATE.off] s t)) ∧
  (∀ (s : State) (p : Fin 2) (l : Leaf) (h : LeafHdr) (twin : Bool),
    s.curLeaf = some (p.val, l, h) →
    s.slt.lbDue = true →
    runsTo (.leafBoundary twin) s (fun t =>
      t.leafAt p = none ∧
      (t.leafAt (1 - p.val)).map (fun x => (x.id, x.tiles, x.ras)) = (s.leafAt (1 - p.val)).map (fun x => (x.id, x.tiles, x.ras)) ∧
      t.fol.cur = none ∧
      t.fol.order = s.fol.order.filter (· ≠ p.val) ∧
      l.id ∈ t.fol.ended ∧
      t.rd F.SLT_STATUS.STATE = 0 ∧
      t.rd F.TWN_STATUS.DIVERGED = 0 ∧
      t.rd F.RSV_POS.RELEASED = (l.ras.base + hdrLast h + 1) % 2 ^ F.RSV_POS.RELEASED.width ∧
      (t.slt.endAt, t.slt.lbDue, t.slt.near, t.slt.window) = (none, false, false, 0) ∧
      t.saf.groupRunning = (((s.mode = 2 || s.mode = 3) && !s.saf.acting) || s.saf.groupRunning) ∧
      t.hif.due.getLsbD 2 = true ∧
      sameMemories s t))

/-- SLOT_RELEASE_DECISION, FRAME_READ_DONE, FRAME_TRANSMIT_START, RESERVE_ROW_REMAP_COPY. A slot two ahead of the last
SS with every tile verified and no tracker mark is decided with data, with the authority of the moment and T_pred of
R151; a mark makes it blank: counted, named in RSV_LAST_BLANK with cause 5 and handed to the Lacuna List. A read
whose bytes and framer checks are good gives the slot its words, the governor their sums and a verdict to give; a
failed framer check makes the slot blank with cause 3. At its time the frame begins with its flags, leaf, slot,
T_pred and words, and every ACTIVE group's FRAME_NO advances; a slot that the Guard blanks at this point leaves the
governor's sums. A row that waits for its spare is copied when no frame is read. Log entries: 39 (P_MIN and T_PRED),
45 and 46 (late reads, generations), 47 (the wait for the copy), 23 (speed). (Rests on: spec/05_dose.md, Release;
spec/05_dose.md, The Reserve; spec/07_blanker_link.md, Frame timing.) -/
def Obligations.SlotsAreDecidedReadAndSent : Prop :=
  (∀ (s : State) (p : Nat) (l : Leaf) (h : LeafHdr) (sl : Nat),
    s.curLeaf = some (p, l, h) →
    s.slt.decided + 1 = sl →
    s.strobes = true →
    (sl : Int) ≤ s.lastSlot h →
    (sl : Int) - 2 ≤ s.slt.strobed →
    s.paired = false →
    (s.predict.permit h.rate).trackerMark h = 0 →
    s.sealLacks l h sl = ([], 0, []) →
    (sl % 4 = 0 → sl / 4 < hdrT h → (List.range 64).all (fun e => (l.ras.tileAt (sl / 4 : Nat) e).any TileSt.verified) = true) →
    s.rdInt F.SLT_VEL.VEL ≠ 0 →
    runsTo (.slotReleaseDecision false) s (fun t =>
      (t.slotRec l.id sl).map (fun r => (r.data, r.tracker, r.read, r.auth, r.sent)) = some (true, false, false, s.hasAuth, false) ∧
      (t.slotRec l.id sl).map (fun r => (r.tPred, r.timeS, r.timeNs, r.settled)) = some (t.rd F.SLT_PERIOD.T_PRED, s.nowS, s.nowNs, false) ∧
      t.slt.decided = sl ∧
      t.rd F.SLT_PERIOD.T_PRED = (let est := s.rd F.SLT_PITCH.PITCH * 16000000000 / (s.rdInt F.SLT_VEL.VEL).natAbs; min (s.rd F.SLT_PITCH.PITCH * 16000000000 / ((s.rdInt F.SLT_VEL.VEL).natAbs + s.rd F.SLT_ACCEL.MAX * 65536 * 3 * est / 16000000000)) 0xFFFFFFFF) ∧
      t.rd F.SLT_STATUS.OVER_RUN = 0 ∧
      (t.leafAt p).map (fun x => (x.id, x.tiles, x.ras.next, x.ras.base)) = some (l.id, l.tiles, l.ras.next, l.ras.base) ∧
      t = { s with regs := t.regs, fol := t.fol, slt := t.slt } ∧
      regsOutside (fun b => b = 0x6 || (8 ≤ b && b ≤ 0xC) || b = 0x10 || b = 0x12 || b = 0x13 || b = 0x14) s t)) ∧
  (∀ (s : State) (p : Nat) (l : Leaf) (h : LeafHdr) (sl mark : Nat),
    s.curLeaf = some (p, l, h) →
    s.slt.decided + 1 = sl →
    s.strobes = true →
    (sl : Int) ≤ s.lastSlot h →
    (sl : Int) - 2 ≤ s.slt.strobed →
    s.paired = false →
    (s.predict.permit h.rate).trackerMark h = mark →
    mark ≠ 0 →
    ((mark = 1 ∨ mark = 2) → s.rd F.SLT_STATUS.OVER_RUN + 1 ≤ s.rd F.SLT_LIMITS.OVERSPEED) →
    (mark = 14 → s.slt.linkRun + 1 ≤ s.rd F.BLK_CFG.LINK_LIMIT) →
    s.sealLacks l h sl = ([], 0, []) →
    ¬ (sl % 4 = 0 ∧ sl / 4 < hdrT h) →
    s.lac.openRel = none →
    runsTo (.slotReleaseDecision false) s (fun t =>
      (t.slotRec l.id sl).map (fun r => (r.data, r.tracker, r.read, r.auth, r.sent)) = some (false, true, true, s.hasAuth, false) ∧
      t.slt.decided = sl ∧
      t.rd F.RSV_COUNTS.BLANK_SLOTS = min (s.rd F.RSV_COUNTS.BLANK_SLOTS + 1) (2 ^ F.RSV_COUNTS.BLANK_SLOTS.width - 1) ∧
      t.rd F.RSV_LAST_BLANK.SLOT = sl % 2 ^ F.RSV_LAST_BLANK.SLOT.width ∧
      t.rd F.RSV_LAST_BLANK.CAUSE = 5 ∧
      t.lac = { s.lac with openRel := some ⟨l.id, 80 + mark, 0, sl, sl, allCols, s.nowS % 2 ^ 32, s.nowNs, s.hasAuth⟩ } ∧
      t = { s with regs := t.regs, free := t.free, fol := t.fol, slt := t.slt, lac := t.lac } ∧
      regsOutside (fun b => b = 0x12 || b = 0x13 || b = 0x14) s t)) ∧
  (∀ (s : State) (p : Nat) (l : Leaf) (h : LeafHdr) (r : SlotRec),
    s.curLeaf = some (p, l, h) →
    (s.slt.slots.filter (fun r => r.leaf = l.id && r.data && !r.read)).getLast? = some r →
    (s.slotBytes l h r.slot).all (fun b => b.2.2 = generation (globalFrame l.ras.base r.slot)) = true →
    runsTo (.frameReadDone [] [] []) s (fun t =>
      t.slotRec l.id r.slot = some { r with read := true, counted := some (s.dut.beamRoll, s.dut.plateRoll), words := ((s.slotBytes l h r.slot).filter (fun b => b.2.1 ≠ 0)).map (fun b => (b.1, b.2.1)) } ∧
      t.dut.plate.head? = some (s.dut.plate.headD 0 + (((s.slotBytes l h r.slot).filter (fun b => b.2.1 ≠ 0)).map (fun b => b.2.1)).sum) ∧
      t.dut.due = s.dut.due ++ [(l.id, r.slot)] ∧
      t = { s with regs := t.regs, slt := { s.slt with slots := t.slt.slots }, dut := { s.dut with beams := t.dut.beams, plate := t.dut.plate, due := t.dut.due } } ∧
      regsOutside (fun b => b = 0x12) s t)) ∧
  (∀ (s : State) (p : Nat) (l : Leaf) (h : LeafHdr) (r : SlotRec) (w : Fin 4),
    s.curLeaf = some (p, l, h) →
    (s.slt.slots.filter (fun r => r.leaf = l.id && r.data && !r.read)).getLast? = some r →
    (s.slotBytes l h r.slot).all (fun b => b.2.2 = generation (globalFrame l.ras.base r.slot)) = true →
    s.lac.openRel = none →
    runsTo (.frameReadDone [] [] [w.val]) s (fun t =>
      t.slotRec l.id r.slot = some { r with data := false, read := true } ∧
      t.rd F.RSV_ERR.FRAME_CHECK = 1 ∧
      t.rd F.RSV_COUNTS.FRAME_CHECK = min (s.rd F.RSV_COUNTS.FRAME_CHECK + 1) (2 ^ F.RSV_COUNTS.FRAME_CHECK.width - 1) ∧
      t.rd F.RSV_LAST_BLANK.CAUSE = 3 ∧
      t.lac.openRel.map (fun x => (x.leaf, x.cause, x.first, x.last, x.cols)) = some (r.leaf, 48, r.slot, r.slot, colMask ((List.range 16).map (fun i => 16 * w.val + i))) ∧
      t = { s with regs := t.regs, slt := { s.slt with slots := t.slt.slots }, lac := { s.lac with openRel := t.lac.openRel } } ∧
      regsOutside (fun b => b = 0x12) s t)) ∧
  (∀ (s : State) (p : Nat) (l : Leaf) (h : LeafHdr) (r : SlotRec) (free : Bool) (idle : List Nat),
    s.curLeaf = some (p, l, h) →
    -1 ≤ s.slt.strobed →
    s.slotRec l.id (s.slt.strobed + 1).toNat = some r →
    r.sent = false →
    r.missed = false →
    (r.data = true → r.read = true) →
    (r.tracker = true → free = true) →
    s.blk.grp.length = 4 →
    runsTo (.frameTransmitStart free idle) s (fun t =>
      t.blk.frame = some ⟨(if r.data ∧ s.saf.acting = false then 0 else 1) + (if r.auth ∧ s.saf.acting = false then 2 else 0) + 4 * s.rd F.BLK_CFG.PORT + (if r.slot = 0 then 8 else 0) + (if r.slot = hdrLast h then 16 else 0), l.id, r.slot, r.tPred, if r.data ∧ s.saf.acting = false then r.words else []⟩ ∧
      t.slotRec l.id r.slot = some { r with sent := true, data := r.data && !s.saf.acting, words := [] } ∧
      (∀ g, g < 4 → s.grpState g = 4 → ((t.grp g).lastNo = (s.grp g).frameNo ∧ (t.grp g).frameNo = ((s.grp g).frameNo + 1) % 65536)) ∧
      (∀ g, g < 4 → s.grpState g ≠ 4 → t.grp g = s.grp g) ∧
      ((s.saf.acting = false ∨ r.data = false) → t.dut = s.dut) ∧
      (s.saf.acting = true → r.data = true → ∀ b w, r.counted = some (b, w) → t.dut.plate[s.dut.plateRoll - w]? = (s.dut.plate[s.dut.plateRoll - w]?).map (fun x => x - (r.words.map Prod.snd).sum) ∧ t.dut.beams[s.dut.beamRoll - b]? = (s.dut.beams[s.dut.beamRoll - b]?).map (fun m => r.words.foldl graySub m)) ∧
      t = { s with regs := t.regs, pmc := t.pmc, dut := t.dut, slt := { s.slt with slots := t.slt.slots }, blk := { s.blk with frame := t.blk.frame, grp := t.blk.grp } } ∧
      regsOutside (fun b => b = 0x23) s t)) ∧
  (∀ (s : State) (row : Nat) (rest : List Nat),
    s.slt.slots.any (fun r => r.data && !r.read) = false →
    s.rsv.remapWait = row :: rest →
    runsTo (.reserveRowRemapCopy) s (fun t =>
      t.rsv = { s.rsv with remapWait := rest, remapped := listInsert row s.rsv.remapped } ∧
      t.rd F.RSV_REMAP.ROWS = min (s.rd F.RSV_REMAP.ROWS + 1) (2 ^ F.RSV_REMAP.ROWS.width - 1) ∧
      t.rd F.RSV_REMAP.PENDING = min rest.length 255 ∧
      t.rd F.RSV_REMAP.MIN_SPARES = s.minSpares % 2 ^ F.RSV_REMAP.MIN_SPARES.width ∧
      t = { s with regs := t.regs, hif := { s.hif with due := t.hif.due }, rsv := t.rsv, acl := t.acl, ikl := t.ikl } ∧
      regsOutside (fun b => b = 0x12 || b = 0x20 || b = 0x22) s t))

/-- ENCODER_TRANSITION, ENCODER_INDEX, ENCODER_LOS. With no leaf in progress an accepted transition of A or B flips its
level and counts one up or down by the quadrature order and INVERTn; for encoder 0 the loop's velocity is shown. In
a leaf that runs, a move ahead of the furthest position makes it the furthest. A rejected pulse counts as a glitch.
The first enabled index loads the counter and sets REF; a later one that agrees changes nothing, and one that
differs flags INDEX. Loss of signal sets its flag and clears REF; a leaf in progress ends immediately: SLT_END names
the first slot without its SS with detail 11, the tracker is ENDING with LB due. No memory changes. The loop's
estimates are an operand (log entry 23), the bucket's window is log entry 20, and STATE shows 4 up to LB (log entry
40). (Rests on: spec/06_slots.md, Encoder inputs; spec/06_slots.md, Due positions; spec/06_slots.md, Ending a leaf
early.) -/
def Obligations.EncodersCountAndAFaultEndsTheLeaf : Prop :=
  (∀ (s : State) (n : Fin 2) (a : Bool) (lv : Bool × Bool) (v acc : Int),
    s.curLeaf = none →
    s.slt.levels.getD n (false, false) = lv →
    runsTo (.encoderTransition n (if a then .a else .b) false v acc) s (fun t =>
      t.slt.levels = s.slt.levels.set n (if a then (!lv.1, lv.2) else (lv.1, !lv.2)) ∧
      t.rd (if n = 0 then F.SLT_POS0.POS else F.SLT_POS1.POS) = unsigned 48 (s.rdInt (if n = 0 then F.SLT_POS0.POS else F.SLT_POS1.POS) + (if ((if a then !lv.1 != lv.2 else lv.1 == !lv.2) != s.bit (if n = 0 then F.SLT_ENC_CFG.INVERT0 else F.SLT_ENC_CFG.INVERT1)) then 1 else -1)) ∧
      t.rd F.SLT_VEL.VEL = (if n = 0 then unsigned 48 v else s.rd F.SLT_VEL.VEL) ∧
      t.slt = { s.slt with levels := t.slt.levels, accel := if n = 0 then acc else s.slt.accel } ∧
      t = { s with regs := t.regs, slt := t.slt } ∧
      regsApart [F.SLT_POS0.POS.off, F.SLT_POS1.POS.off, F.SLT_VEL.VEL.off] s t)) ∧
  (∀ (s : State) (p : Nat) (l : Leaf) (h : LeafHdr) (lv : Bool × Bool) (v acc x : Int),
    s.curLeaf = some (p, l, h) →
    2 ≤ s.rd F.SLT_STATUS.STATE →
    s.slt.levels.getD 0 (false, false) = lv →
    x = along h (signed 48 (unsigned 48 (s.rdInt F.SLT_POS0.POS + (if ((!lv.1 != lv.2) != s.bit F.SLT_ENC_CFG.INVERT0) then 1 else -1))) * 65536) →
    s.slt.furthest < x →
    runsTo (.encoderTransition 0 .a false v acc) s (fun t =>
      t.slt = { s.slt with levels := s.slt.levels.set 0 (!lv.1, lv.2), accel := acc, furthest := x } ∧
      t.rd F.SLT_STATUS.STATE = (if s.rd F.SLT_STATUS.STATE = 3 then 2 else s.rd F.SLT_STATUS.STATE) ∧
      t = { s with regs := t.regs, slt := t.slt } ∧
      regsApart [F.SLT_POS0.POS.off, F.SLT_VEL.VEL.off, F.SLT_STATUS.STATE.off] s t)) ∧
  (∀ (s : State) (n : Fin 2) (fast : Bool) (v acc : Int),
    (s.bucket 13 n.val).2 = false →
    runsTo (.encoderTransition n .glitch fast v acc) s (fun t =>
      t.rd F.SLT_COUNTS.GLITCH = min (s.rd F.SLT_COUNTS.GLITCH + 1) (2 ^ F.SLT_COUNTS.GLITCH.width - 1) ∧
      t = { s with regs := t.regs, saf := { s.saf with buckets := t.saf.buckets } } ∧
      regsApart [F.SLT_COUNTS.GLITCH.off] s t)) ∧
  (∀ (s : State) (n : Fin 2),
    s.bit (if n = 0 then F.SLT_ENC_CFG.USE_INDEX0 else F.SLT_ENC_CFG.USE_INDEX1) = true →
    s.bit (if n = 0 then F.SLT_STATUS.REF0 else F.SLT_STATUS.REF1) = false →
    runsTo (.encoderIndex n) s (fun t =>
      t.rd (if n = 0 then F.SLT_POS0.POS else F.SLT_POS1.POS) = s.rd (if n = 0 then F.SLT_INDEX0.VALUE else F.SLT_INDEX1.VALUE) ∧
      t.bit (if n = 0 then F.SLT_STATUS.REF0 else F.SLT_STATUS.REF1) = true ∧
      t = { s with regs := t.regs } ∧
      regsApart [(if n = 0 then F.SLT_POS0.POS else F.SLT_POS1.POS).off, F.SLT_STATUS.STATE.off] s t)) ∧
  (∀ (s : State) (n : Fin 2),
    s.curLeaf = none →
    s.bit (if n = 0 then F.SLT_ENC_CFG.USE_INDEX0 else F.SLT_ENC_CFG.USE_INDEX1) = true →
    s.bit (if n = 0 then F.SLT_STATUS.REF0 else F.SLT_STATUS.REF1) = true →
    runsTo (.encoderIndex n) s (fun t =>
      t.rd (if n = 0 then F.SLT_POS0.POS else F.SLT_POS1.POS) = s.rd (if n = 0 then F.SLT_INDEX0.VALUE else F.SLT_INDEX1.VALUE) ∧
      t.bit (if n = 0 then F.SLT_ERR.ENC0_INDEX else F.SLT_ERR.ENC1_INDEX) = (s.bit (if n = 0 then F.SLT_ERR.ENC0_INDEX else F.SLT_ERR.ENC1_INDEX) || decide (s.rd (if n = 0 then F.SLT_POS0.POS else F.SLT_POS1.POS) ≠ s.rd (if n = 0 then F.SLT_INDEX0.VALUE else F.SLT_INDEX1.VALUE))) ∧
      t = { s with regs := t.regs } ∧
      regsApart [(if n = 0 then F.SLT_POS0.POS else F.SLT_POS1.POS).off, F.SLT_ERR.ENC0_INDEX.off] s t)) ∧
  (∀ (s : State) (n : Fin 2),
    s.curLeaf = none →
    runsTo (.encoderLos n) s (fun t =>
      t.bit (if n = 0 then F.SLT_ERR.ENC0_LOS else F.SLT_ERR.ENC1_LOS) = true ∧
      t.bit (if n = 0 then F.SLT_STATUS.REF0 else F.SLT_STATUS.REF1) = false ∧
      t = { s with regs := t.regs } ∧
      regsApart [F.SLT_ERR.ENC0_LOS.off, F.SLT_STATUS.STATE.off] s t)) ∧
  (∀ (s : State) (n : Fin 2) (p : Nat) (l : Leaf) (h : LeafHdr) (first : Nat),
    s.curLeaf = some (p, l, h) →
    2 ≤ s.rd F.SLT_STATUS.STATE →
    s.rd F.SLT_STATUS.STATE ≤ 4 →
    s.slt.lbDue = false →
    s.slt.strobed + 1 = first →
    first ≤ hdrLast h →
    runsTo (.encoderLos n) s (fun t =>
      t.rd F.SLT_STATUS.STATE = 4 ∧
      t.rd F.SLT_END.DETAIL = 11 ∧
      t.rd F.SLT_END.FIRST_SLOT = first % 2 ^ 32 ∧
      t.rd F.SLT_END.LEAF = l.id % 65536 ∧
      t.rd F.RSV_ERR.EARLY_END = 1 ∧
      t.bit (if n = 0 then F.SLT_STATUS.REF0 else F.SLT_STATUS.REF1) = false ∧
      (t.slt.endAt, t.slt.lbDue, t.slt.decided, t.slt.strobed) = (some ((first : Int) - 1), true, s.slt.decided, s.slt.strobed) ∧
      t.slt.slots = s.slt.slots.filter (fun r => r.leaf ≠ l.id || decide ((r.slot : Int) ≤ (first : Int) - 1)) ∧
      sameMemories s t))

/-- SLT_ABORT, PAUSE_LIMIT_EXPIRY. ABORT of a leaf that runs or pauses ends it orderly: the first slot is the one after
the last decision, detail 10 and ABORTED are set, and LB is due when the last slot has been strobed. The pause limit
ends it at once from the lowest slot without its SS, detail 12, PAUSE set. On a device with authority that is not in
a pair one Lacuna record of all columns, from the first slot to the leaf's last, joins the closed records, with
source 22 pending. An armed leaf that is aborted leaves its place: the tracker is IDLE. An end before slot 0 has LB
due at once. With no leaf in progress ABORT changes nothing. Log entries: 40 to 43. (Rests on: spec/06_slots.md,
Ending a leaf early; spec/06_slots.md, The Lacuna List; spec/06_slots.md, Tracker states.) -/
def Obligations.LeavesEndEarlyWithTheirRecord : Prop :=
  (∀ (s : State) (m : Master) (p : Nat) (l : Leaf) (h : LeafHdr) (first : Nat),
    s.serves m F.SLT_CTL.ABORT.off = true →
    s.curLeaf = some (p, l, h) →
    (s.rd F.SLT_STATUS.STATE = 2 ∨ s.rd F.SLT_STATUS.STATE = 3) →
    s.slt.lbDue = false →
    s.slt.decided + 1 = first →
    first ≤ hdrLast h →
    s.hasAuth = true →
    s.rd F.TWN_CFG.MODE = 0 →
    s.pairState = 0 →
    s.lac.openRel = none →
    s.slotRec l.id first = none →
    runsTo (.sltAbort m) s (fun t =>
      t.rd F.SLT_STATUS.STATE = 4 ∧
      t.rd F.SLT_END.DETAIL = 10 ∧
      t.rd F.SLT_END.FIRST_SLOT = first % 2 ^ 32 ∧
      t.rd F.SLT_ERR.ABORTED = 1 ∧
      t.lac = { s.lac with closed := s.lac.closed ++ [⟨l.id, 90, 3, first, hdrLast h, allCols, s.nowS % 2 ^ 32, s.nowNs, true⟩] } ∧
      t.rd (F.DOC_ROUTE.PENDING 22) = 1 ∧
      (t.slt.endAt, t.slt.lbDue) = (some ((first : Int) - 1), decide (first = 0 ∨ (first : Int) - 1 ≤ s.slt.strobed)) ∧
      t.slt.slots = s.slt.slots.filter (fun r => r.leaf ≠ l.id || decide ((r.slot : Int) ≤ (first : Int) - 1)) ∧
      sameMemories s t)) ∧
  (∀ (s : State) (m : Master) (p : Fin 2) (l : Leaf) (h : LeafHdr),
    s.serves m F.SLT_CTL.ABORT.off = true →
    s.curLeaf = some (p.val, l, h) →
    s.rd F.SLT_STATUS.STATE = 1 →
    runsTo (.sltAbort m) s (fun t =>
      t.rd F.SLT_STATUS.STATE = 0 ∧
      t.leafAt p = none ∧
      t.fol.cur = none ∧
      l.id ∈ t.fol.ended ∧
      t.rd F.SLT_END.DETAIL = 10 ∧
      t.rd F.SLT_END.FIRST_SLOT = 0 ∧
      sameMemories s t)) ∧
  (∀ (s : State) (m : Master),
    s.serves m F.SLT_CTL.ABORT.off = true →
    s.curLeaf = none →
    runsTo (.sltAbort m) s (fun t =>
      t = s)) ∧
  (∀ (s : State) (p : Nat) (l : Leaf) (h : LeafHdr) (first : Nat),
    s.curLeaf = some (p, l, h) →
    (s.rd F.SLT_STATUS.STATE = 3 ∨ s.rd F.SLT_STATUS.STATE = 4) →
    s.slt.lbDue = false →
    s.slt.strobed + 1 = first →
    first ≤ hdrLast h →
    s.hasAuth = true →
    s.rd F.TWN_CFG.MODE = 0 →
    s.pairState = 0 →
    s.lac.openRel = none →
    s.slotRec l.id first = none →
    runsTo (.pauseLimitExpiry) s (fun t =>
      t.rd F.SLT_STATUS.STATE = 4 ∧
      t.rd F.SLT_END.DETAIL = 12 ∧
      t.rd F.SLT_ERR.PAUSE = 1 ∧
      t.lac = { s.lac with closed := s.lac.closed ++ [⟨l.id, 92, 3, first, hdrLast h, allCols, s.nowS % 2 ^ 32, s.nowNs, true⟩] } ∧
      (t.slt.endAt, t.slt.lbDue) = (some ((first : Int) - 1), true) ∧
      sameMemories s t))

/-- BLANK_REQ_ASSERT, BLANK_REQ_RELEASE, BLANK_LASTING, BLANK_ALL_N_LOW_OBSERVED, STAGE_SLOW_HOLD_EXPIRY, DUTY_VERDICT,
DUTY_SUBWINDOW_ROLL. A request sets BLANK_REQ and its low joins the window of the exposed slot (2 when the Guard or
another device holds the line, else 1); its release clears BLANK_REQ and BLANK_LASTING; a lasting request is flagged
and announced; an observed low that this device does not drive joins the window as 2. The hold time's end leaves
STAGE_SLOW to the thresholds. A verdict, and a roll of a sub-window, show the duties of R164 and the soft and hard
states; below the hard thresholds no leaf ends. The governor is evaluated at verdicts and rolls (log entry 48). No
memory changes. (Rests on: spec/06_slots.md, BLANK_REQ_N and STAGE_SLOW; spec/06_slots.md, Duty governor.) -/
def Obligations.BlankingRequestsAndDutyAreShown : Prop :=
  (∀ (s : State),
    runsTo (.blankReqAssert) s (fun t =>
      t.bit F.SLT_STATUS.BLANK_REQ = true ∧
      t.slt = { s.slt with window := max s.slt.window (if s.bit F.SAF_STATUS.BLANK_DRIVE || s.slt.seenLow then 2 else 1) } ∧
      t = { s with regs := t.regs, slt := t.slt } ∧
      regsApart [F.SLT_STATUS.BLANK_REQ.off] s t)) ∧
  (∀ (s : State),
    runsTo (.blankReqRelease) s (fun t =>
      t.rd F.SLT_STATUS.BLANK_REQ = 0 ∧
      t.rd F.SLT_STATUS.BLANK_LASTING = 0 ∧
      t = { s with regs := t.regs } ∧
      regsApart [F.SLT_STATUS.BLANK_REQ.off] s t)) ∧
  (∀ (s : State),
    s.bit F.SLT_STATUS.BLANK_REQ = true →
    runsTo (.blankLasting) s (fun t =>
      t.bit F.SLT_STATUS.BLANK_LASTING = true ∧
      t.bit F.SLT_STATUS.BLANK_REQ = true ∧
      t.rd (F.DOC_ROUTE.PENDING 25) = 1 ∧
      t.hif.due.getLsbD 5 = true ∧
      t = { s with regs := t.regs, hif := { s.hif with due := t.hif.due }, acl := t.acl, ikl := t.ikl } ∧
      regsOutside (fun b => b = 0x13 || b = 0x20 || b = 0x22) s t)) ∧
  (∀ (s : State) (low : Bool),
    runsTo (.blankAllNLowObserved low) s (fun t =>
      t.slt = { s.slt with seenLow := low && !s.drivesBlank, window := max s.slt.window (if s.bit F.SAF_STATUS.BLANK_DRIVE || (low && !s.drivesBlank) then 2 else if s.bit F.SLT_STATUS.BLANK_REQ then 1 else 0) } ∧
      t = { s with slt := t.slt })) ∧
  (∀ (s : State),
    runsTo (.stageSlowHoldExpiry) s (fun t =>
      t.slt = { s.slt with slowHold := false } ∧
      t.bit F.SLT_STATUS.STAGE_SLOW = (s.dut.beamSoft || s.dut.plateSoft || s.dut.tempSoft || s.dut.beamHard || s.dut.plateHard || s.dut.tempHard || s.dut.silent) ∧
      t.bit F.DUT_STATUS.SOFT = (s.dut.beamSoft || s.dut.plateSoft || s.dut.tempSoft) ∧
      t.bit F.DUT_STATUS.HOT = (s.dut.beamHot || s.dut.plateHot || s.dut.tempHot || s.dut.silent) ∧
      t = { s with regs := t.regs, slt := t.slt } ∧
      regsApart [F.DUT_STATUS.HOT.off, F.SLT_STATUS.STAGE_SLOW.off] s t)) ∧
  (∀ (s : State) (d : Nat × Nat) (rest : List (Nat × Nat)) (on pon : Nat),
    s.dut.due = d :: rest →
    on = (peakBeam s.dut.beamWindow).2 * s.rd F.DUT_CFG.STEP_PS * 65536 →
    pon = s.dut.plateWindow * s.rd F.DUT_CFG.STEP_PS * 65536 →
    on < s.rd F.DUT_BEAM.HARD * beamUnit →
    pon < s.rd F.DUT_PLATE.HARD * plateUnit →
    runsTo (.dutyVerdict) s (fun t =>
      t.dut.due = rest ∧
      t.rd F.DUT_STATUS.BEAM_DUTY = min (on / beamUnit) 0xFFFF ∧
      t.rd F.DUT_STATUS.PLATE_DUTY = min (pon / plateUnit) 0xFFFF ∧
      t.rd F.DUT_PEAK_BEAM.COLUMN = (peakBeam s.dut.beamWindow).1 % 512 ∧
      (t.dut.beamSoft, t.dut.plateSoft) = (decide (s.rd F.DUT_BEAM.SOFT * beamUnit ≤ on), decide (s.rd F.DUT_PLATE.SOFT * plateUnit ≤ pon)) ∧
      (t.dut.beamHard, t.dut.plateHard) = (s.dut.beamHard && !decide (on < s.rd F.DUT_BEAM.RESUME * beamUnit), s.dut.plateHard && !decide (pon < s.rd F.DUT_PLATE.RESUME * plateUnit)) ∧
      (t.dut.beamSoft = true → s.dut.beamSoft = false → t.rd F.DUT_ERR.BEAM_SOFT = 1) ∧
      t.bit F.DUT_STATUS.SOFT = (t.dut.beamSoft || t.dut.plateSoft || s.dut.tempSoft) ∧
      t = { s with regs := t.regs, hif := { s.hif with due := t.hif.due }, dut := t.dut, acl := t.acl, ikl := t.ikl } ∧
      regsOutside (fun b => b = 0x13 || b = 0x14 || b = 0x20 || b = 0x22) s t)) ∧
  (∀ (s : State) (plate : Bool) (d : DutSt) (on pon : Nat),
    d = (if plate then { s.dut with plate := (0 :: s.dut.plate).take 11, plateRoll := s.dut.plateRoll + 1 } else { s.dut with beams := ([] :: s.dut.beams).take 5, beamRoll := s.dut.beamRoll + 1 }) →
    on = (peakBeam d.beamWindow).2 * s.rd F.DUT_CFG.STEP_PS * 65536 →
    pon = d.plateWindow * s.rd F.DUT_CFG.STEP_PS * 65536 →
    on < s.rd F.DUT_BEAM.HARD * beamUnit →
    pon < s.rd F.DUT_PLATE.HARD * plateUnit →
    runsTo (.dutySubwindowRoll plate) s (fun t =>
      (t.dut.beams, t.dut.plate, t.dut.due, t.dut.beamRoll, t.dut.plateRoll) = (d.beams, d.plate, s.dut.due, d.beamRoll, d.plateRoll) ∧
      t.rd F.DUT_STATUS.BEAM_DUTY = min (on / beamUnit) 0xFFFF ∧
      t.rd F.DUT_STATUS.PLATE_DUTY = min (pon / plateUnit) 0xFFFF ∧
      t = { s with regs := t.regs, hif := { s.hif with due := t.hif.due }, dut := t.dut, acl := t.acl, ikl := t.ikl } ∧
      regsOutside (fun b => b = 0x13 || b = 0x14 || b = 0x20 || b = 0x22) s t))

/-- LACUNA_OPEN_LIMIT_EXPIRY, LACUNA_STREAM_CLOSE_EXPIRY, LACUNA_RECORD_WRITTEN, LAC_CURSOR_WRITE, LAC_ACK_WRITE. An
open record of either stream (the second only when its leaf is not in progress) closes: opened under authority
outside a pair it joins the closed records with source 22 pending. With two free entries, or one and another leaf in
progress, the oldest closed record's 32 bytes are stored at the place of NEXT, NEXT and RECORDS advance and vector 3
is due; no other byte of DDR5 changes. The cursor takes any index and flags one that is not held. An acknowledgement
from ACKED to NEXT is taken, and drops source 22 when nothing is left to read (log entry 18); another sets
ACK_INVALID. The record's access passes the controllers within the command (log entry 133); closing under authority
is log entry 43. (Rests on: spec/06_slots.md, The Lacuna List.) -/
def Obligations.LacunaRecordsCloseReachTheRingAndAreFreed : Prop :=
  (∀ (s : State) (rel : Bool) (r : LacRec),
    (if rel then s.lac.openRel else s.lac.openRes) = some r →
    r.own = true →
    s.rd F.TWN_CFG.MODE = 0 →
    runsTo (.lacunaOpenLimitExpiry rel) s (fun t =>
      t.lac = { s.lac with openRel := if rel then none else s.lac.openRel, openRes := if rel then s.lac.openRes else none, closed := s.lac.closed ++ [r] } ∧
      t.rd (F.DOC_ROUTE.PENDING 22) = 1 ∧
      t = { s with regs := t.regs, lac := t.lac } ∧
      regsApart [(F.DOC_ROUTE.PENDING 22).off] s t)) ∧
  (∀ (s : State) (r : LacRec),
    s.lac.openRes = some r →
    s.inProgress r.leaf = false →
    r.own = true →
    s.rd F.TWN_CFG.MODE = 0 →
    runsTo (.lacunaStreamCloseExpiry) s (fun t =>
      t.lac = { s.lac with openRes := none, closed := s.lac.closed ++ [r] } ∧
      t.rd (F.DOC_ROUTE.PENDING 22) = 1 ∧
      t = { s with regs := t.regs, lac := t.lac } ∧
      regsApart [(F.DOC_ROUTE.PENDING 22).off] s t)) ∧
  (∀ (s : State) (r : LacRec) (rest : List LacRec) (a : Nat),
    s.lac.closed = r :: rest →
    s.lac.merging = none →
    (2 ≤ s.lacFree ∨ (s.lacFree = 1 ∧ s.inProgress r.leaf = false)) →
    a = s.lacBase + s.rd F.LAC_STATUS.NEXT % s.lacSize * 32 →
    s.ddrErr = [] →
    s.mem.remaps = [] →
    s.ddrPoisoned a 32 = false →
    runsTo (.lacunaRecordWritten) s (fun t =>
      memRead t.ddr a 32 = r.bytes ∧
      (∀ x, x < a ∨ a + 32 ≤ x → smGet byteDefault t.ddr x = smGet byteDefault s.ddr x) ∧
      t.rd F.LAC_STATUS.NEXT = (s.rd F.LAC_STATUS.NEXT + 1) % 2 ^ 32 ∧
      t.rd F.LAC_COUNTS.RECORDS = min (s.rd F.LAC_COUNTS.RECORDS + 1) (2 ^ 32 - 1) ∧
      t.lac = { s.lac with closed := rest } ∧
      t.hif.due.getLsbD 3 = true ∧
      t = { s.unitParts t with ddr := t.ddr, hif := { s.hif with due := t.hif.due }, lac := t.lac } ∧
      unitApart [F.LAC_STATUS.NEXT.off, F.LAC_COUNTS.RECORDS.off] s t)) ∧
  (∀ (s : State) (m : Master) (v : BitVec 32),
    s.serves m F.LAC_CURSOR.INDEX.off = true →
    runsTo (.lacCursorWrite m v) s (fun t =>
      t.rd F.LAC_CURSOR.INDEX = v.toNat ∧
      t.bit F.LAC_ERR.CURSOR_INVALID = (s.bit F.LAC_ERR.CURSOR_INVALID || !s.lacHeld v.toNat) ∧
      t = { s with regs := t.regs } ∧
      regsApart [F.LAC_CURSOR.INDEX.off, F.LAC_ERR.CURSOR_INVALID.off] s t)) ∧
  (∀ (s : State) (m : Master) (v : BitVec 32) (ok : Bool),
    s.serves m F.LAC_ACK.INDEX.off = true →
    ok = decide ((v.toNat + 2 ^ 32 - s.rd F.LAC_STATUS.ACKED) % 2 ^ 32 ≤ (s.rd F.LAC_STATUS.NEXT + 2 ^ 32 - s.rd F.LAC_STATUS.ACKED) % 2 ^ 32) →
    runsTo (.lacAckWrite m v) s (fun t =>
      t.rd F.LAC_STATUS.ACKED = (if ok then v.toNat else s.rd F.LAC_STATUS.ACKED) ∧
      t.rd F.LAC_ACK.INDEX = (if ok then v.toNat else s.rd F.LAC_ACK.INDEX) ∧
      t.bit F.LAC_ERR.ACK_INVALID = (s.bit F.LAC_ERR.ACK_INVALID || !ok) ∧
      t.bit (F.DOC_ROUTE.PENDING 22) = (s.bit (F.DOC_ROUTE.PENDING 22) && !(ok && decide (v.toNat = s.rd F.LAC_STATUS.NEXT) && s.lac.closed.isEmpty)) ∧
      t.reg (F.DOC_ROUTE.PENDING 22).off ||| 16 = s.reg (F.DOC_ROUTE.PENDING 22).off ||| 16 ∧
      t = { s with regs := t.regs } ∧
      regsApart [F.LAC_ACK.INDEX.off, F.LAC_STATUS.ACKED.off, F.LAC_ERR.ACK_INVALID.off, (F.DOC_ROUTE.PENDING 22).off] s t))

/-- STATUS, STATUS_LOST, TEMP, TEMP_SILENT, MARGIN, LANE_EVENT. A message with a wrong check, type or group is
discarded: BACK_CHECK is flagged and counted and an event enters the group's bucket. A STATUS of one slot that fired
settles it; one that did not fire, once all four groups are heard, is PLATE_REJECT with its slot, leaf, lowest group
and result, and a record of cause 60h of all columns under authority; one of no slot counts a failure of each lane
it names. A block of a bad header counts in its lane and bucket; a control block does nothing but that an AM moves
OFFSET or flags RX_RANGE where a step waits. A slot without any STATUS at its deadline is settled as STATUS_LOST,
and one sent with data and AUTH is rejected with result 15, recorded with cause 70h where both authority lines were
high. TEMP shows the temperature and its soft and hard states; silence with no leaf sets TEMP_SILENT and STAGE_SLOW.
MARGIN shows a lane's figures. LANE_EVENT counts the errors of a lane; a lock loss is taken by a free spare
(LANE_LASTING), or sends the group to RECOVERY where the spare cannot cover it. Log entries: 20 (buckets), 52
(blocks), 107 (OFFSET). (Rests on: spec/07_blanker_link.md, The back-channel; spec/07_blanker_link.md, What the
plate fires; spec/06_slots.md, Duty governor.) -/
def Obligations.BackChannelMessagesAreJudged : Prop :=
  (∀ (s : State) (g : Fin 4) (b : BackBlock) (msg : List Byte),
    b.sync = 1 →
    backMsg g b = msg →
    backGood g 0x61 msg = false →
    (s.bucket 1 g.val).2 = false →
    runsTo (.status g b) s (fun t =>
      t.rd F.BLK_ERR.BACK_CHECK = 1 ∧
      t.rd F.BLK_COUNTS.BACK_CHECK = min (s.rd F.BLK_COUNTS.BACK_CHECK + 1) (2 ^ 16 - 1) ∧
      t.rd (F.BLK_LANE.BUCKET (100 + g.val)) = min 31 (s.bucketN 1 - t.bucketCount 1 g.val) ∧
      t = { s with regs := t.regs, saf := { s.saf with buckets := t.saf.buckets } } ∧
      regsApart [F.BLK_ERR.BACK_CHECK.off, F.BLK_COUNTS.BACK_CHECK.off, (F.BLK_LANE.BUCKET (100 + g.val)).off] s t)) ∧
  (∀ (s : State) (g : Fin 4) (b : BackBlock),
    (b.sync = 0 ∨ b.sync = 3) →
    (s.bucket 1 g.val).2 = false →
    runsTo (.status g b) s (fun t =>
      t.rd (F.BLK_LANE.ERRORS (100 + g.val)) = min (s.rd (F.BLK_LANE.ERRORS (100 + g.val)) + 1) (2 ^ 16 - 1) ∧
      t = { s with regs := t.regs, saf := { s.saf with buckets := t.saf.buckets } } ∧
      regsApart [(F.BLK_LANE.ERRORS (100 + g.val)).off] s t)) ∧
  (∀ (s : State) (g : Fin 4) (b : BackBlock),
    b.sync = 2 →
    (fieldAt b.bytes 0 1 ≠ 0x3C ∨ (s.cal.rxStep[g.val]?).join = none) →
    runsTo (.status g b) s (fun t =>
      t = s)) ∧
  (∀ (s : State) (g : Fin 4) (b : BackBlock) (up : Bool) (off : Nat),
    b.sync = 2 →
    fieldAt b.bytes 0 1 = 0x3C →
    (s.cal.rxStep[g.val]?).join = some up →
    off = s.rd (F.CAL_RX.OFFSET g) →
    off < 64 →
    runsTo (.status g b) s (fun t =>
      t.rd (F.CAL_RX.OFFSET g) = (if up then min 63 (off + 1) else off - 1) ∧
      t.bit F.CAL_ERR.RX_RANGE = (s.bit F.CAL_ERR.RX_RANGE || decide (off = if up then 63 else 0)) ∧
      t = { s with regs := t.regs, cal := { s.cal with rxStep := s.cal.rxStep.set g none } } ∧
      regsApart [(F.CAL_RX.OFFSET g).off, F.CAL_ERR.RX_RANGE.off] s t)) ∧
  (∀ (s : State) (g : Fin 4) (b : BackBlock) (msg : List Byte) (leaf slot x : Nat) (r : SlotRec),
    b.sync = 1 →
    backMsg g b = msg →
    backGood g 0x61 msg = true →
    fieldAt msg 2 2 = leaf →
    fieldAt msg 4 4 = slot →
    fieldAt msg 8 1 = 240 + x →
    fieldAt msg 9 1 = 255 →
    fieldAt msg 10 3 = 0 →
    x < 2 →
    s.pairState ≠ 3 →
    s.slotRec leaf slot = some r →
    r.settled = false →
    runsTo (.status g b) s (fun t =>
      t.slotRec leaf slot = some { r with result := some x, heard := if r.heard.contains g.val then r.heard else g.val :: r.heard, masks := (g.val, 0) :: r.masks.filter (fun m => m.1 ≠ g.val), settled := true } ∧
      t = { s with slt := { s.slt with slots := t.slt.slots } })) ∧
  (∀ (s : State) (g : Fin 4) (b : BackBlock) (msg : List Byte) (leaf slot x : Nat) (r : SlotRec),
    b.sync = 1 →
    backMsg g b = msg →
    backGood g 0x61 msg = true →
    fieldAt msg 2 2 = leaf →
    fieldAt msg 4 4 = slot →
    fieldAt msg 8 1 = 240 + x →
    fieldAt msg 9 1 = 255 →
    fieldAt msg 10 3 = 0 →
    (2 ≤ x ∧ x ≤ 6) →
    s.pairState ≠ 3 →
    s.hasAuth = true →
    s.lac.openRes = none →
    s.slotRec leaf slot = some r →
    r.settled = false →
    (r.data = true ∧ r.auth = true ∧ r.sent = true ∧ r.both = false) →
    r.masks = [] →
    (r.heard.contains g.val = false ∧ r.heard.length = 3) →
    runsTo (.status g b) s (fun t =>
      (t.slotRec leaf slot).map (fun y => (y.settled, y.result, y.heard)) = some (true, some x, g.val :: r.heard) ∧
      t.rd F.BLK_ERR.PLATE_REJECT = 1 ∧
      t.rd F.BLK_COUNTS.REJECTED = min (s.rd F.BLK_COUNTS.REJECTED + 1) (2 ^ 16 - 1) ∧
      t.rd F.BLK_LAST_REJECT.SLOT = slot ∧
      t.rd F.BLK_LAST_REJECT.LEAF = leaf ∧
      t.rd F.BLK_LAST_REJECT.RESULT = x ∧
      some (t.rd F.BLK_LAST_REJECT.GROUP) = (lowestNat (g.val :: r.heard)).map (fun n => n % 2 ^ F.BLK_LAST_REJECT.GROUP.width) ∧
      t.rd F.BLK_LAST_LANES.MASK = 0 ∧
      t.lac = { s.lac with openRes := some ⟨leaf, 0x60, 0, slot, slot, allCols, r.timeS % 2 ^ 32, r.timeNs, true⟩ } ∧
      t = { s with regs := t.regs, slt := { s.slt with slots := t.slt.slots }, lac := t.lac } ∧
      regsApart [F.BLK_ERR.PLATE_REJECT.off, F.BLK_COUNTS.REJECTED.off, F.BLK_LAST_REJECT.SLOT.off, F.BLK_LAST_LANES.MASK.off] s t)) ∧
  (∀ (s : State) (r : SlotRec),
    (s.slt.slots.filter (fun r => !r.settled && (decide (s.curLeaf.map (fun c => c.2.1.id) ≠ some r.leaf) || decide ((r.slot : Int) ≤ s.slt.strobed)))).getLast? = some r →
    r.result = none →
    (r.data = true ∧ r.auth = true ∧ r.sent = true) →
    s.hasAuth = true →
    s.lac.openRes = none →
    runsTo (.statusLost) s (fun t =>
      t.slotRec r.leaf r.slot = some { r with settled := true } ∧
      t.rd F.BLK_ERR.STATUS_LOST = 1 ∧
      t.rd F.BLK_ERR.PLATE_REJECT = 1 ∧
      t.rd F.BLK_LAST_REJECT.RESULT = 15 ∧
      t.rd F.BLK_LAST_REJECT.GROUP = 0 ∧
      t.rd F.BLK_LAST_REJECT.SLOT = r.slot % 2 ^ 32 ∧
      t.lac = { s.lac with openRes := some ⟨r.leaf, if r.both then 0x70 else 0x60, 0, r.slot, r.slot, allCols, r.timeS % 2 ^ 32, r.timeNs, true⟩ } ∧
      t = { s with regs := t.regs, slt := { s.slt with slots := t.slt.slots }, lac := t.lac } ∧
      regsOutside (fun b => b = 0x16 || (r.both && b = 0x1D)) s t)) ∧
  (∀ (s : State) (r : SlotRec),
    (s.slt.slots.filter (fun r => !r.settled && (decide (s.curLeaf.map (fun c => c.2.1.id) ≠ some r.leaf) || decide ((r.slot : Int) ≤ s.slt.strobed)))).getLast? = some r →
    r.result = none →
    (r.data && r.auth && r.sent) = false →
    runsTo (.statusLost) s (fun t =>
      t.slotRec r.leaf r.slot = some { r with settled := true } ∧
      t.rd F.BLK_ERR.STATUS_LOST = 1 ∧
      t = { s with regs := t.regs, slt := { s.slt with slots := t.slt.slots } } ∧
      regsApart [F.BLK_ERR.STATUS_LOST.off] s t)) ∧
  (∀ (s : State) (g : Fin 4) (b : BackBlock) (msg : List Byte) (x : Int),
    b.sync = 1 →
    backMsg g b = msg →
    backGood g 0x62 msg = true →
    signed 16 (fieldAt msg 2 2) = x →
    x < s.rdInt F.DUT_TEMP.HARD →
    runsTo (.temp g b) s (fun t =>
      t.rdInt F.DUT_STATUS.TEMP = x ∧
      t.bit F.DUT_STATUS.TEMP_VALID = true ∧
      t.dut.tempSoft = decide (s.rdInt F.DUT_TEMP.SOFT ≤ x) ∧
      t.dut.tempHard = (s.dut.tempHard && !decide (x < s.rdInt F.DUT_TEMP.RESUME)) ∧
      t.dut.silent = (s.dut.silent && !decide (x < s.rdInt F.DUT_TEMP.RESUME)) ∧
      t.dut = { s.dut with tempSoft := t.dut.tempSoft, tempHard := t.dut.tempHard, tempHot := t.dut.tempHot, silent := t.dut.silent } ∧
      (s.rdInt F.DUT_TEMP.SOFT ≤ x → s.dut.tempSoft = false → t.rd F.DUT_ERR.TEMP_SOFT = 1) ∧
      t = { s with regs := t.regs, hif := { s.hif with due := t.hif.due }, dut := t.dut, acl := t.acl, ikl := t.ikl } ∧
      regsOutside (fun b => b = 0x13 || b = 0x14 || b = 0x20 || b = 0x22) s t)) ∧
  (∀ (s : State),
    s.curLeaf = none →
    runsTo (.tempSilent) s (fun t =>
      t.rd F.BLK_ERR.TEMP_SILENT = 1 ∧
      t.dut = { s.dut with silent := true } ∧
      t.bit F.SLT_STATUS.STAGE_SLOW = true ∧
      t.bit F.DUT_STATUS.HOT = true ∧
      t = { s with regs := t.regs, dut := t.dut } ∧
      regsApart [F.BLK_ERR.TEMP_SILENT.off, F.SLT_STATUS.STAGE_SLOW.off, F.DUT_STATUS.HOT.off] s t)) ∧
  (∀ (s : State) (g : Fin 4) (b : BackBlock) (msg : List Byte) (k : Nat),
    b.sync = 1 →
    backMsg g b = msg →
    backGood g 0x63 msg = true →
    fieldAt msg 2 1 = k →
    k ≤ 24 →
    s.trim g.val = none →
    runsTo (.margin g b) s (fun t =>
      t.rd (F.BLK_LANE.H_MARGIN (25 * g.val + k)) = fieldAt msg 4 1 ∧
      t.rd (F.BLK_LANE.V_MARGIN (25 * g.val + k)) = fieldAt msg 5 1 ∧
      t = { s with regs := t.regs } ∧
      regsApart [(F.BLK_LANE.H_MARGIN (25 * g.val + k)).off] s t)) ∧
  (∀ (s : State) (g : Fin 4) (b : BackBlock) (msg : List Byte),
    b.sync = 1 →
    backMsg g b = msg →
    backGood g 0x61 msg = true →
    fieldAt msg 8 2 = 0xFFFF →
    (List.range 24).all (fun j => s.laneLogical g j = j) = true →
    s.trim g.val = none →
    runsTo (.status g b) s (fun t =>
      (∀ j, j < 24 → t.rd (F.BLK_LANE.ERRORS (25 * g.val + j)) = min (s.rd (F.BLK_LANE.ERRORS (25 * g.val + j)) + fieldAt msg 10 3 / 2 ^ j % 2) (2 ^ 16 - 1)) ∧
      (∀ i, i < 4 → i ≠ g.val → t.grp i = s.grp i) ∧
      t = { s with regs := t.regs, hif := { s.hif with due := t.hif.due }, saf := { s.saf with buckets := t.saf.buckets }, blk := { s.blk with grp := t.blk.grp }, acl := t.acl, ikl := t.ikl } ∧
      regsOutside (fun b => b = 0x16 || b = 0x1E || b = 0x20 || b = 0x22) s t)) ∧
  (∀ (s : State) (g : Fin 4) (b : BackBlock) (msg : List Byte) (k : Nat),
    b.sync = 1 →
    backMsg g b = msg →
    backGood g 0x66 msg = true →
    fieldAt msg 2 1 = k →
    k ≤ 24 →
    fieldAt msg 3 1 = 2 →
    s.trim g.val = none →
    runsTo (.laneEvent g b) s (fun t =>
      t.rd (F.BLK_LANE.ERRORS (25 * g.val + k)) = min (s.rd (F.BLK_LANE.ERRORS (25 * g.val + k)) + max 1 (fieldAt msg 4 4)) (2 ^ 16 - 1) ∧
      t.rd (F.BLK_LANE.BUCKET (25 * g.val + k)) = min 31 (s.bucketN 0 - t.bucketCount 0 (25 * g.val + k)) ∧
      (∀ i, i < 4 → t.grpState i = s.grpState i ∧ (i ≠ g.val → t.grp i = s.grp i)) ∧
      t = { s with regs := t.regs, hif := { s.hif with due := t.hif.due }, saf := { s.saf with buckets := t.saf.buckets }, blk := { s.blk with grp := t.blk.grp }, acl := t.acl, ikl := t.ikl } ∧
      regsOutside (fun b => b = 0x16 || b = 0x1E || b = 0x20 || b = 0x22) s t)) ∧
  (∀ (s : State) (g : Fin 4) (b : BackBlock) (msg : List Byte) (k : Nat),
    b.sync = 1 →
    backMsg g b = msg →
    backGood g 0x66 msg = true →
    fieldAt msg 2 1 = k →
    k ≤ 24 →
    fieldAt msg 3 1 = 2 →
    fieldAt msg 4 4 ≤ 1 →
    s.trim g.val = none →
    (s.bucket 0 (25 * g.val + k)).2 = false →
    runsTo (.laneEvent g b) s (fun t =>
      t = { s with regs := t.regs, saf := { s.saf with buckets := t.saf.buckets } } ∧
      regsApart [(F.BLK_LANE.ERRORS (25 * g.val + k)).off] s t)) ∧
  (∀ (s : State) (g : Fin 4) (b : BackBlock) (msg : List Byte) (k : Nat),
    b.sync = 1 →
    backMsg g b = msg →
    backGood g 0x66 msg = true →
    fieldAt msg 2 1 = k →
    k ≤ 24 →
    k < 24 →
    fieldAt msg 3 1 = 1 →
    fieldAt msg 4 4 ≤ 1 →
    s.trim g.val = none →
    (s.bucket 0 (25 * g.val + k)).2 = false →
    s.grpState g = 4 →
    s.bit F.BLK_CFG.SPARE_EN = true →
    ((s.grp g).swap = none ∧ (s.grp g).carried = none ∧ (s.grp g).faulty = none) →
    s.blk.grp.length = 4 →
    runsTo (.laneEvent g b) s (fun t =>
      t.rd (F.BLK_LANE.LOCKED (25 * g.val + k)) = 0 ∧
      t.grp g = { s.grp g with swap := some ⟨k, 0, false, true⟩ } ∧
      t.rd F.BLK_ERR.LANE_LASTING = 1 ∧
      t.grpState g = 4 ∧
      t = { s with regs := t.regs, saf := { s.saf with buckets := t.saf.buckets }, blk := { s.blk with grp := s.blk.grp.set g { s.grp g with swap := some ⟨k, 0, false, true⟩ } } } ∧
      regsApart [(F.BLK_LANE.ERRORS (25 * g.val + k)).off, F.BLK_ERR.LANE_LASTING.off] s t)) ∧
  (∀ (s : State) (g : Fin 4) (b : BackBlock) (msg : List Byte) (k : Nat),
    b.sync = 1 →
    backMsg g b = msg →
    backGood g 0x66 msg = true →
    fieldAt msg 2 1 = k →
    k ≤ 24 →
    k < 24 →
    fieldAt msg 3 1 = 1 →
    fieldAt msg 4 4 ≤ 1 →
    s.trim g.val = none →
    (s.bucket 0 (25 * g.val + k)).2 = false →
    s.grpState g = 4 →
    ((s.grp g).swap = none ∧ (s.grp g).faulty = none ∧ ((s.grp g).carried ≠ some k ∨ (s.grp g).good = false)) →
    (s.bit F.BLK_CFG.SPARE_EN = false ∨ ((s.grp g).carried.any (fun c => c ≠ k) && (s.grp g).good) = true) →
    s.blk.grp.length = 4 →
    runsTo (.laneEvent g b) s (fun t =>
      t.grpState g = 6 ∧
      t.rd (F.BLK_LANE.LOCKED (25 * g.val + k)) = 0 ∧
      t.rd F.BLK_ERR.RECOVERY = 1 ∧
      (∀ i, i < 4 → i ≠ g.val → t.grpState i = s.grpState i ∧ t.grp i = s.grp i) ∧
      t = { s with regs := t.regs, free := t.free, saf := { s.saf with buckets := t.saf.buckets }, blk := { s.blk with grp := t.blk.grp }, cal := t.cal } ∧
      regsOutside (fun b => b = 0x16 || b = 0x24) s t))

/-- HELLO, RATE, BLK_ALIGN_TIMEOUT, BLK_BACKCHANNEL_SILENT, BLK_BACKCHANNEL_LOCK, BLK_RATE_SWITCH, BLK_STEP_UP_START,
AM_IDLE_TIMER. The first HELLO takes LISTEN to CHECK; in CHECK the next one (log entry 178), of version 1 with the
same port and step, starts ALIGN; another is PLATE_CAP. RATE with all 25 lanes locked at the group's rate makes it
ACTIVE with FRAME_NO and AM count 0, and the last group makes the link READY at its rate; RATE of the step's rate is
its acceptance. ALIGN that fails from CHECK returns to LISTEN, from STEP to the rate before with FAILED_RATES set,
but for a group in RECOVERY that has no lock (log entry 54). Back-channel silence clears its lock and sends an
ACTIVE group to RECOVERY; its lock starts ALIGN from RECOVERY. When every group accepted, all go to ALIGN at the new
rate. A step-up starts with the lowest rate left, or ends. A group without a frame counts an AM after 1,424 blocks,
an AM among them. Where a group leaves its blocks, their number since its last frame is free (log entry 11). The
other groups' states stay. (Rests on: spec/07_blanker_link.md, Bring-up and rate; spec/07_blanker_link.md, The
forward stream; spec/07_blanker_link.md, The back-channel.) -/
def Obligations.LinkGroupsComeUpAndChangeRate : Prop :=
  (∀ (s : State) (g : Fin 4) (b : BackBlock) (msg : List Byte),
    b.sync = 1 →
    backMsg g b = msg →
    backGood g 0x64 msg = true →
    s.grpState g = 1 →
    s.blk.grp.length = 4 →
    runsTo (.hello g b) s (fun t =>
      t.grpState g = 2 ∧
      (∀ i, i < 4 → i ≠ g.val → t.grpState i = s.grpState i) ∧
      ((List.range g.val).any (fun i => (s.grp i).maxRate.isSome) = false → t.rd F.BLK_PLATE.PLATE_ID = fieldAt msg 8 4 ∧ t.rd F.BLK_PLATE.VERSION = fieldAt msg 2 1 % 2 ^ F.BLK_PLATE.VERSION.width) ∧
      t = { s with regs := t.regs, blk := { s.blk with grp := s.blk.grp.set g { s.grp g with maxRate := some (fieldAt msg 3 1), backLock := true } } } ∧
      regsApart [F.BLK_STATUS.STATE.off, F.BLK_PLATE.PLATE_ID.off, F.BLK_PLATE.VERSION.off] s t)) ∧
  (∀ (s : State) (g : Fin 4) (b : BackBlock) (msg : List Byte),
    b.sync = 1 →
    backMsg g b = msg →
    backGood g 0x64 msg = true →
    s.grpState g = 2 →
    s.blk.grp.length = 4 →
    fieldAt msg 2 1 = 1 →
    fieldAt msg 6 1 = s.rd F.BLK_CFG.PORT →
    fieldAt msg 4 2 = s.rd F.DUT_CFG.STEP_PS →
    runsTo (.hello g b) s (fun t =>
      t.grpState g = 3 ∧
      (∀ i, i < 4 → i ≠ g.val → t.grpState i = s.grpState i) ∧
      t.grp g = { s.grp g with maxRate := some (fieldAt msg 3 1), backLock := true, alignFrom := 0, rate := 0, out := [.idle 1 (s.grp g).blocks (s.grp g).frames] } ∧
      t = { s with regs := t.regs, blk := { s.blk with grp := s.blk.grp.set g (t.grp g) } } ∧
      regsApart [F.BLK_STATUS.STATE.off, F.BLK_PLATE.PLATE_ID.off, F.BLK_PLATE.VERSION.off] s t)) ∧
  (∀ (s : State) (g : Fin 4) (b : BackBlock) (msg : List Byte),
    b.sync = 1 →
    backMsg g b = msg →
    backGood g 0x64 msg = true →
    s.grpState g = 2 →
    s.blk.grp.length = 4 →
    (fieldAt msg 2 1 ≠ 1 ∨ fieldAt msg 6 1 ≠ s.rd F.BLK_CFG.PORT ∨ fieldAt msg 4 2 ≠ s.rd F.DUT_CFG.STEP_PS) →
    runsTo (.hello g b) s (fun t =>
      t.grpState g = 7 ∧
      (∀ i, i < 4 → i ≠ g.val → t.grpState i = s.grpState i) ∧
      t.rd F.BLK_ERR.PLATE_CAP = 1 ∧
      t.rd F.BLK_STATUS.READY = 0 ∧
      (∀ k, k < 25 → t.rd (F.BLK_LANE.STATE (25 * g.val + k)) = 0) ∧
      t = { s with regs := t.regs, blk := { s.blk with grp := t.blk.grp } } ∧
      regsOutside (fun b => b = 0x16) s t)) ∧
  (∀ (s : State) (g : Fin 4) (b : BackBlock) (msg : List Byte),
    b.sync = 1 →
    backMsg g b = msg →
    backGood g 0x65 msg = true →
    fieldAt msg 3 1 = 0 →
    s.grpState g = 5 →
    s.blk.stepTo = some (fieldAt msg 2 1) →
    s.blk.grp.length = 4 →
    runsTo (.rate g b) s (fun t =>
      t.grp g = { s.grp g with accepted := true } ∧
      t = { s with blk := { s.blk with grp := s.blk.grp.set g { s.grp g with accepted := true } } })) ∧
  (∀ (s : State) (g : Fin 4) (b : BackBlock) (msg : List Byte),
    b.sync = 1 →
    backMsg g b = msg →
    backGood g 0x65 msg = true →
    fieldAt msg 3 1 = 1 →
    fieldAt msg 4 4 % 2 ^ 25 = 2 ^ 25 - 1 →
    s.grpState g = 3 →
    fieldAt msg 2 1 = (s.grp g).rate →
    (List.range 4).any (fun i => i ≠ g.val && s.grpState i ≠ 4) = true →
    s.cal.again.contains g.val = false →
    s.blk.grp.length = 4 →
    runsTo (.rate g b) s (fun t =>
      t.grpState g = 4 ∧
      (∀ i, i < 4 → i ≠ g.val → t.grpState i = s.grpState i) ∧
      ((t.grp g).frameNo, (t.grp g).amCount, (t.grp g).out) = (0, 0, []) ∧
      t.rd F.BLK_STATUS.READY = 0 ∧
      (∀ k, k < 25 → t.rd (F.BLK_LANE.LOCKED (25 * g.val + k)) = 1) ∧
      (∀ i, i < 4 → i ≠ g.val → t.grp i = s.grp i) ∧
      t = { s with regs := t.regs, free := s.free + 1, blk := { s.blk with grp := t.blk.grp } } ∧
      regsOutside (fun b => b = 0x16) s t)) ∧
  (∀ (s : State) (g : Fin 4) (b : BackBlock) (msg : List Byte),
    b.sync = 1 →
    backMsg g b = msg →
    backGood g 0x65 msg = true →
    fieldAt msg 3 1 = 1 →
    fieldAt msg 4 4 % 2 ^ 25 = 2 ^ 25 - 1 →
    s.grpState g = 3 →
    fieldAt msg 2 1 = (s.grp g).rate →
    (List.range 4).all (fun i => i = g.val || s.grpState i = 4) = true →
    s.cal.again.contains g.val = false →
    s.curLeaf = none →
    s.blk.grp.length = 4 →
    runsTo (.rate g b) s (fun t =>
      (∀ i, i < 4 → t.grpState i = 4) ∧
      t.rd F.BLK_STATUS.READY = 1 ∧
      t.rd F.BLK_STATUS.RATE = (s.grp 0).rate % 2 ^ F.BLK_STATUS.RATE.width ∧
      t = { s with regs := t.regs, free := s.free + 1, blk := { s.blk with grp := t.blk.grp, stepTo := none, stepReq := s.blk.stepReq || decide (s.mode = 1) } } ∧
      regsOutside (fun b => b = 0x16) s t)) ∧
  (∀ (s : State) (g : Fin 4),
    s.grpState g = 3 →
    (s.grp g).alignFrom = 0 →
    s.blk.grp.length = 4 →
    runsTo (.blkAlignTimeout g) s (fun t =>
      t.grpState g = 1 ∧
      ((t.grp g).rate, (t.grp g).backLock) = (0, false) ∧
      (∀ i, i < 4 → i ≠ g.val → t.grpState i = s.grpState i ∧ t.grp i = s.grp i) ∧
      t = { s with regs := t.regs, free := s.free + 1, blk := { s.blk with grp := t.blk.grp } } ∧
      regsApart [F.BLK_STATUS.STATE.off] s t)) ∧
  (∀ (s : State) (g : Fin 4),
    s.grpState g = 3 →
    (s.grp g).alignFrom = 1 →
    s.blk.grp.length = 4 →
    runsTo (.blkAlignTimeout g) s (fun t =>
      (∀ i, i < 4 → t.grpState i = (if s.grpState i < 3 ∨ 6 < s.grpState i then s.grpState i else if s.grpState i = 6 ∧ (s.grp i).backLock = false then 6 else 3)) ∧
      (∀ i, i < 4 → if s.grpState i < 3 ∨ 6 < s.grpState i then t.grp i = s.grp i else ((t.grp i).rate, (t.grp i).alignFrom) = ((s.grp g).prevRate, 2)) ∧
      t.rd F.BLK_STATUS.FAILED_RATES = (s.rd F.BLK_STATUS.FAILED_RATES ||| 2 ^ (s.grp g).rate) % 16 ∧
      t.blk = { s.blk with stepTo := none, grp := t.blk.grp } ∧
      t = { s with regs := t.regs, free := t.free, blk := t.blk, cal := t.cal } ∧
      regsOutside (fun b => b = 0x16 || b = 0x24) s t)) ∧
  (∀ (s : State) (g : Fin 4),
    s.grpState g = 4 →
    s.blk.grp.length = 4 →
    runsTo (.blkBackchannelSilent g) s (fun t =>
      t.grpState g = 6 ∧
      (∀ i, i < 4 → i ≠ g.val → t.grpState i = s.grpState i) ∧
      (t.grp g).backLock = false ∧
      t.rd (F.BLK_LANE.LOCKED (100 + g.val)) = 0 ∧
      t.rd F.BLK_ERR.RECOVERY = 1 ∧
      t.rd F.BLK_COUNTS.RECOVERIES = min (s.rd F.BLK_COUNTS.RECOVERIES + 1) (2 ^ 16 - 1) ∧
      (∀ i, i < 4 → i ≠ g.val → t.grp i = s.grp i) ∧
      t = { s with regs := t.regs, free := s.free + 1, blk := { s.blk with grp := t.blk.grp }, cal := t.cal } ∧
      regsOutside (fun b => b = 0x16 || b = 0x24) s t)) ∧
  (∀ (s : State) (g : Fin 4),
    s.grpState g = 6 →
    s.blk.grp.length = 4 →
    runsTo (.blkBackchannelLock g) s (fun t =>
      t.grpState g = 3 ∧
      ((t.grp g).backLock, (t.grp g).alignFrom, (t.grp g).rate) = (true, 2, (s.grp g).rate) ∧
      t.rd (F.BLK_LANE.LOCKED (100 + g.val)) = 1 ∧
      t.rd (F.BLK_LANE.STATE (100 + g.val)) = 2 ∧
      (∀ i, i < 4 → i ≠ g.val → t.grpState i = s.grpState i ∧ t.grp i = s.grp i) ∧
      t = { s with regs := t.regs, blk := { s.blk with grp := t.blk.grp } } ∧
      regsApart [F.BLK_STATUS.STATE.off, (F.BLK_LANE.LOCKED (100 + g.val)).off] s t)) ∧
  (∀ (s : State) (r : Nat),
    s.blk.stepTo = some r →
    [0, 1, 2, 3].all (fun g => s.grpState g = 5 && (s.grp g).accepted) = true →
    s.blk.grp.length = 4 →
    runsTo (.blkRateSwitch) s (fun t =>
      (∀ g, g < 4 → t.grpState g = 3 ∧ (t.grp g).rate = r ∧ (t.grp g).prevRate = (s.grp g).rate ∧ (t.grp g).alignFrom = 1) ∧
      t.blk.stepTo = some r ∧
      t = { s with regs := t.regs, blk := { s.blk with grp := t.blk.grp }, cal := t.cal } ∧
      regsOutside (fun b => b = 0x16 || b = 0x24) s t)) ∧
  (∀ (s : State) (r : Nat),
    s.blk.stepReq = true →
    s.blk.stepTo = none →
    s.linkActive = true →
    s.rd F.SLT_STATUS.STATE = 0 →
    s.nextRate = some r →
    s.blk.grp.length = 4 →
    runsTo (.blkStepUpStart) s (fun t =>
      t.blk.stepTo = some r ∧
      (∀ g, g < 4 → t.grpState g = 5 ∧ (t.grp g).accepted = false) ∧
      t = { s with regs := t.regs, free := s.free + 4, blk := { s.blk with stepTo := some r, grp := t.blk.grp } } ∧
      regsApart [F.BLK_STATUS.STATE.off] s t)) ∧
  (∀ (s : State),
    s.blk.stepReq = true →
    s.blk.stepTo = none →
    s.linkActive = true →
    s.rd F.SLT_STATUS.STATE = 0 →
    s.nextRate = none →
    s.cal.begun = true →
    runsTo (.blkStepUpStart) s (fun t =>
      t = { s with blk := { s.blk with stepReq := false } })) ∧
  (∀ (s : State) (g : Fin 4) (idle : Nat),
    (s.grpState g = 3 ∨ s.grpState g = 4) →
    s.blk.grp.length = 4 →
    idle = (match (s.grp g).out.getLast? with | some (.am _) => 1423 | _ => 1424) →
    runsTo (.amIdleTimer g) s (fun t =>
      t.grp g = { s.grp g with amCount := ((s.grp g).amCount + 1) % 65536, blocks := 0, frames := 0, out := [.idle idle (s.grp g).blocks (s.grp g).frames, .am (s.grp g).amCount] } ∧
      (∀ i, i < 4 → i ≠ g.val → t.grp i = s.grp i) ∧
      t = { s with blk := { s.blk with grp := t.blk.grp } }))

/-- BLK_ENABLE, BLK_DISABLE, BLK_STEP_UP, BLK_RETRAIN, BLK_DRAIN_COMPLETE, SPARE_SWAP_AM. ENABLE sends every group that
is DOWN to LISTEN at the lowest rate; while a group is DISABLING it is held. Disabling cancels a pending enable and
a step and sends every other group to DISABLING. A drain ends in DOWN, or, when an enable is held, takes every group
that is DOWN to LISTEN. STEP_UP is requested. RETRAIN sends every ACTIVE group to RECOVERY. The first AM of a
take-over gives the spare the lane's number, the second only counts, and the third ends it: the lane sends 31, SWAPS
counts, and a lane replaced for good is out of service (log entry 55). A request for a step waits for the tracker
(log entry 108). (Rests on: spec/07_blanker_link.md, Bring-up and rate; spec/07_blanker_link.md, Spare lane and lane
faults.) -/
def Obligations.TheLinkIsEnabledRetrainedDisabledAndSpared : Prop :=
  (∀ (s : State) (m : Master),
    s.serves m F.BLK_CTL.ENABLE.off = true →
    (∀ g, g < 4 → s.grpState g ≠ 8) →
    s.blk.grp.length = 4 →
    runsTo (.blkEnable m) s (fun t =>
      t.rd F.BLK_CTL.ENABLE = 1 ∧
      (∀ g, g < 4 → t.grpState g = if s.grpState g = 0 then 1 else s.grpState g) ∧
      (∀ g, g < 4 → t.grp g = if s.grpState g = 0 then { s.grp g with rate := 0, blocks := 0, frames := 0, maxRate := none, backLock := false } else s.grp g) ∧
      t = { s with regs := t.regs, blk := { s.blk with grp := t.blk.grp }, cal := t.cal } ∧
      regsOutside (fun b => b = 0x16 || b = 0x24) s t)) ∧
  (∀ (s : State) (m : Master),
    s.serves m F.BLK_CTL.ENABLE.off = true →
    (s.grpState 0 = 8 ∨ s.grpState 1 = 8 ∨ s.grpState 2 = 8 ∨ s.grpState 3 = 8) →
    runsTo (.blkEnable m) s (fun t =>
      t.rd F.BLK_STATUS.PENDING_ENABLE = 1 ∧
      t = { s with regs := t.regs } ∧
      regsApart [F.BLK_STATUS.STATE.off] s t)) ∧
  (∀ (s : State) (m : Master),
    s.serves m F.BLK_CTL.ENABLE.off = true →
    runsTo (.blkDisable m) s (fun t =>
      t.rd F.BLK_CTL.ENABLE = 0 ∧
      t.rd F.BLK_STATUS.PENDING_ENABLE = 0 ∧
      (∀ g, g < 4 → t.grpState g = if s.grpState g = 0 then 0 else 8) ∧
      t = { s with regs := t.regs, blk := { s.blk with grp := t.blk.grp, stepTo := none, stepReq := false }, cal := t.cal } ∧
      regsOutside (fun b => b = 0x16 || b = 0x24) s t)) ∧
  (∀ (s : State) (m : Master),
    s.serves m F.BLK_CTL.STEP_UP.off = true →
    runsTo (.blkStepUp m) s (fun t =>
      t = { s with blk := { s.blk with stepReq := true } })) ∧
  (∀ (s : State) (m : Master),
    s.serves m F.BLK_CTL.RETRAIN.off = true →
    runsTo (.blkRetrain m) s (fun t =>
      (∀ g, g < 4 → t.grpState g = if s.grpState g = 4 then 6 else s.grpState g) ∧
      (s.linkActive = true → t.rd F.BLK_ERR.RECOVERY = 1) ∧
      t = { s with regs := t.regs, free := t.free, blk := { s.blk with grp := t.blk.grp }, cal := t.cal } ∧
      t.blk.grp.map BlkGrp.rate = s.blk.grp.map BlkGrp.rate ∧
      (∀ g, g < 4 → s.grpState g ≠ 4 → t.grp g = s.grp g) ∧
      regsOutside (fun b => b = 0x16 || b = 0x24) s t)) ∧
  (∀ (s : State) (g : Fin 4),
    s.grpState g = 8 →
    s.rd F.BLK_STATUS.PENDING_ENABLE = 0 →
    runsTo (.blkDrainComplete g) s (fun t =>
      t.grpState g = 0 ∧
      (∀ i, i < 4 → i ≠ g.val → t.grpState i = s.grpState i) ∧
      t = { s with regs := t.regs } ∧
      regsApart [F.BLK_STATUS.STATE.off] s t)) ∧
  (∀ (s : State) (g : Fin 4),
    s.grpState g = 8 →
    s.rd F.BLK_STATUS.PENDING_ENABLE = 1 →
    s.blk.grp.length = 4 →
    runsTo (.blkDrainComplete g) s (fun t =>
      t.grpState g = 1 ∧
      (∀ i, i < 4 → i ≠ g.val → t.grpState i = if s.grpState i = 0 then 1 else s.grpState i) ∧
      t.rd F.BLK_CTL.ENABLE = 1 ∧
      (t.grp g).rate = 0 ∧
      t.rd F.BLK_STATUS.PENDING_ENABLE = (if (List.range 4).any (fun i => i ≠ g.val && s.grpState i = 8) then 1 else 0) ∧
      (∀ i, i < 4 → i ≠ g.val → s.grpState i ≠ 0 → t.grp i = s.grp i) ∧
      t = { s with regs := t.regs, blk := { s.blk with grp := t.blk.grp }, cal := t.cal } ∧
      regsOutside (fun b => b = 0x16 || b = 0x24) s t)) ∧
  (∀ (s : State) (g : Fin 4) (w : LaneSwap),
    s.grpState g = 4 →
    s.blk.grp.length = 4 →
    (s.grp g).swap = some w →
    w.ams = 0 →
    w.back = false →
    w.lane < 32 →
    runsTo (.spareSwapAm g) s (fun t =>
      (t.grp g) = { s.grp g with swap := some { w with ams := 1 } } ∧
      t.grpSpare g = w.lane ∧
      t.rd (F.BLK_LANE.LOGICAL (25 * g.val + 24)) = w.lane ∧
      t = { s with regs := t.regs, blk := { s.blk with grp := t.blk.grp } } ∧
      regsApart [F.BLK_STATUS.SPARE.off, (F.BLK_LANE.LOGICAL (25 * g.val + 24)).off] s t)) ∧
  (∀ (s : State) (g : Fin 4) (w : LaneSwap),
    s.grpState g = 4 →
    s.blk.grp.length = 4 →
    (s.grp g).swap = some w →
    w.ams = 1 →
    runsTo (.spareSwapAm g) s (fun t =>
      (t.grp g) = { s.grp g with swap := some { w with ams := 2 } } ∧
      t = { s with blk := { s.blk with grp := t.blk.grp } })) ∧
  (∀ (s : State) (g : Fin 4) (w : LaneSwap),
    s.grpState g = 4 →
    s.blk.grp.length = 4 →
    (s.grp g).swap = some w →
    w.ams = 2 →
    w.back = false →
    w.good = true →
    (s.grp g).faulty = none →
    s.trim g.val = none →
    runsTo (.spareSwapAm g) s (fun t =>
      (t.grp g) = { s.grp g with swap := none, carried := some w.lane, good := true } ∧
      t.rd (F.BLK_LANE.LOGICAL (25 * g.val + w.lane)) = 31 ∧
      t.rd (F.BLK_LANE.STATE (25 * g.val + w.lane)) = 3 ∧
      t.rd F.BLK_COUNTS.SWAPS = min (s.rd F.BLK_COUNTS.SWAPS + 1) (2 ^ 16 - 1) ∧
      t = { s with regs := t.regs, blk := { s.blk with grp := t.blk.grp } } ∧
      regsApart [(F.BLK_LANE.LOGICAL (25 * g.val + w.lane)).off, F.BLK_COUNTS.SWAPS.off] s t))

/-- MEM_REQUEST_ADMITTED, MEM_REQUEST_SERVED, MEM_AGE_PROMOTION, URGENT_WINDOW_ROLL, FABRIC_TIMEOUT. Among the waiting
requests with room in their bank queue the one of the highest class, and of these the oldest, is admitted. A
presented request joins its channel's port; above F it is a bus error. A read of a good burst answers the 64 bytes;
poison answers the mark and stays poison; a corrected word is counted and a write-back scheduled; an uncorrectable
word makes the burst poison. A whole burst is written afresh and loses its poison; a narrower write to a good burst
changes only its bytes; to a poison burst it changes nothing and sets RMW_POISON; a write-back leaves a good burst.
The oldest request of a class is promoted; a new window serves no urgent burst yet; the oldest admitted request that
times out is answered with the mark. No other channel changes. A core that is held presents nothing, one without the
right is refused and logged, and a load or store of the shared SRAM is answered at once. Poison in a stored block
fails it with SCRUB_POISON. Log entries: 20, 61, 129 to 132, 176. (Rests on: spec/08_memory.md, Requests, classes
and aging; spec/08_memory.md, The burst check code; spec/08_memory.md, Scrubbing and uncorrectable data;
spec/08_memory.md, Organisation.) -/
def Obligations.MemoryRequestsAreAdmittedServedAndAged : Prop :=
  (∀ (s : State) (c : Fin 6) (r : MemReq),
    s.rd (F.MEM_CH_STATUS.STATE c) = 2 →
    s.mem.ch.length = 6 →
    r ∈ (s.memCh c).ports →
    ((s.memCh c).queue.filter (fun q => q.bank = r.bank && s.subOf q.addr = s.subOf r.addr)).length < 8 →
    (∀ o ∈ (s.memCh c).ports, o = r ∨ 8 ≤ ((s.memCh c).queue.filter (fun q => q.bank = o.bank && s.subOf q.addr = s.subOf o.addr)).length ∨ (if r.urgent then 0 else 1 + r.cls) < (if o.urgent then 0 else 1 + o.cls) ∨ ((if r.urgent then 0 else 1 + r.cls) = (if o.urgent then 0 else 1 + o.cls) ∧ r.age < o.age)) →
    runsTo (.memRequestAdmitted c []) s (fun t =>
      t.memCh c = { s.memCh c with ports := (s.memCh c).ports.filter (· ≠ r), queue := (s.memCh c).queue ++ [r] } ∧
      (∀ d, d < 6 → d ≠ c.val → t.memCh d = s.memCh d) ∧
      t = { s with regs := t.regs, pmc := { s.pmc with irqs := t.pmc.irqs }, mem := { s.mem with ch := t.mem.ch } } ∧
      regsOutside (fun b => b = 0x23) s t)) ∧
  (∀ (s : State) (c : Fin 6) (x : MemArrival) (d : Nat),
    s.rd (F.MEM_CH_STATUS.STATE c) ≠ 2 →
    s.mem.ch.length = 6 →
    x.space = 0 →
    x.addr < s.fitted →
    (x.core = none ∧ x.master ≠ 24) →
    s.chanOf x.addr = some d →
    d < 6 →
    runsTo (.memRequestAdmitted c [x]) s (fun t =>
      (t.memCh d).ports = (s.memCh d).ports ++ [⟨masterClass (x.master.val), burstOf x.addr, x.write.map (fun bs => (x.addr % 64, bs.take (64 - x.addr % 64))), (s.bankRow (burstOf x.addr)).1, (s.bankRow (burstOf x.addr)).2, none, false, (s.memCh d).seen, x.master.val, x.user, x.addr⟩] ∧
      (t.memCh d).queue = (s.memCh d).queue ∧
      (∀ e, e < 6 → e ≠ d → t.memCh e = s.memCh e) ∧
      t = { s with mem := { s.mem with ch := t.mem.ch } })) ∧
  (∀ (s : State) (c : Fin 6) (x : MemArrival) (k : Fin 8) (d : Nat),
    s.rd (F.MEM_CH_STATUS.STATE c) ≠ 2 →
    s.mem.ch.length = 6 →
    x.space = 0 →
    x.addr < s.fitted →
    x.core = some k →
    s.coreOn k = true →
    s.coreMay false 0 x.addr (arrivalKind x) = true →
    s.chanOf x.addr = some d →
    d < 6 →
    runsTo (.memRequestAdmitted c [x]) s (fun t =>
      (t.memCh d).ports = (s.memCh d).ports ++ [⟨masterClass (16 + k.val), burstOf x.addr, x.write.map (fun bs => (x.addr % 64, bs.take (64 - x.addr % 64))), (s.bankRow (burstOf x.addr)).1, (s.bankRow (burstOf x.addr)).2, some (k.val, arrivalKind x), false, (s.memCh d).seen, 16 + k.val, x.user, x.addr⟩] ∧
      (t.memCh d).queue = (s.memCh d).queue ∧
      (∀ e, e < 6 → e ≠ d → t.memCh e = s.memCh e) ∧
      t = { s with mem := { s.mem with ch := t.mem.ch } })) ∧
  (∀ (s : State) (c : Fin 6) (x : MemArrival) (k : Fin 8),
    s.rd (F.MEM_CH_STATUS.STATE c) ≠ 2 →
    x.core = some k →
    s.coreOn k = false →
    runsTo (.memRequestAdmitted c [x]) s (fun t =>
      t = s)) ∧
  (∀ (s : State) (c : Fin 6) (x : MemArrival) (k : Fin 8) (kind : Nat),
    s.rd (F.MEM_CH_STATUS.STATE c) ≠ 2 →
    x.space = 0 →
    x.addr < s.fitted →
    x.core = some k →
    s.coreOn k = true →
    kind = (if x.fetch then 3 else if x.write.isSome then 2 else 1) →
    s.coreMay false 0 x.addr kind = false →
    runsTo (.memRequestAdmitted c [x]) s (fun t =>
      t.docTrap = some (k.val, if kind = 2 then 2 else 4 + kind) ∧
      t.rd F.KPR_FW_LAST.ADDR = x.addr % 2 ^ F.KPR_FW_LAST.ADDR.width ∧
      (t.rd F.KPR_FW_LAST.CORE, t.rd F.KPR_FW_LAST.KIND) = (k.val, 4 + kind) ∧
      t.rd F.KPR_ERR.FIREWALL = 1 ∧
      t.rd F.KPR_COUNTS.FIREWALL = min (s.rd F.KPR_COUNTS.FIREWALL + 1) (2 ^ F.KPR_COUNTS.FIREWALL.width - 1) ∧
      t = { s with regs := t.regs, docTrap := t.docTrap, hif := { s.hif with due := t.hif.due }, acl := t.acl, ikl := { s.ikl with lanes := t.ikl.lanes } } ∧
      regsOutside (fun b => b = 0x1F || b = 0x20 || b = 0x22) s t)) ∧
  (∀ (s : State) (c : Fin 6) (x : MemArrival) (k : Fin 8),
    s.rd (F.MEM_CH_STATUS.STATE c) ≠ 2 →
    x.space = 0 →
    s.fitted ≤ x.addr →
    x.core = some k →
    s.coreOn k = true →
    runsTo (.memRequestAdmitted c [x]) s (fun t =>
      t = { s with docTrap := some (k.val, arrivalKind x + 4) })) ∧
  (∀ (s : State) (c : Fin 6) (x : MemArrival) (k : Fin 8),
    s.rd (F.MEM_CH_STATUS.STATE c) ≠ 2 →
    x.space = 2 →
    x.addr < 2 ^ 22 →
    x.core = some k →
    s.coreOn k = true →
    (x.write = none ∧ x.flips = 0) →
    s.canonical = true →
    bitCount 72 (s.sramPattern 2 (x.addr / 8)) ≤ 1 →
    s.sramPoisoned (8 * (x.addr / 8)) 8 = false →
    runsTo (.memRequestAdmitted c [x]) s (fun t =>
      t.coreResp = some (2, 8 * (x.addr / 8), memRead s.sram (8 * (x.addr / 8)) 8, false) ∧
      t = { s with regs := t.regs, coreResp := t.coreResp, pmc := { s.pmc with irqs := t.pmc.irqs } } ∧
      regsOutside (fun b => b = 0x23) s t)) ∧
  (∀ (s : State) (c : Fin 6) (x : MemArrival) (k : Fin 8) (bs : List Byte),
    s.rd (F.MEM_CH_STATUS.STATE c) ≠ 2 →
    x.space = 2 →
    x.addr < 2 ^ 22 →
    x.core = some k →
    s.coreOn k = true →
    (x.fetch = false ∧ x.flips = 0) →
    x.write = some bs →
    x.addr % 8 + bs.length ≤ 8 →
    bitCount 72 (s.sramPattern 2 (x.addr / 8)) ≤ 1 →
    runsTo (.memRequestAdmitted c [x]) s (fun t =>
      memRead t.sram x.addr bs.length = bs ∧
      (∀ a, a < x.addr ∨ x.addr + bs.length ≤ a → smGet byteDefault t.sram a = smGet byteDefault s.sram a) ∧
      t = { s with regs := t.regs, sram := t.sram, sramPoison := t.sramPoison, sramErr := t.sramErr, pmc := { s.pmc with irqs := t.pmc.irqs } } ∧
      regsOutside (fun b => b = 0x23) s t)) ∧
  (∀ (s u : State) (c : Fin 6) (sub : Fin 2) (flips : List Nat) (r : MemReq) (block : Option (Fin 2 × Nat)),
    s.rd (F.MEM_CH_STATUS.STATE c) = 2 →
    s.mem.ch.length = 6 →
    s.memPick c sub = some r →
    r.write = none →
    u = s.ddrUpset ((flips.take 4).zipIdx.map (fun f => (s.ddrPlace r.addr / 16 + f.2, f.1))) →
    u.burstRead r.addr = .good →
    runsTo (.memRequestServed c sub flips block) s (fun t =>
      (t.memCh c).resp = some (r.addr, u.ddrRead r.addr 64, false) ∧
      (t.memCh c).queue = (s.memCh c).queue.filter (· ≠ r) ∧
      (t.memCh c).rowHit sub r = true ∧
      (∀ d, d < 6 → d ≠ c.val → t.memCh d = s.memCh d) ∧
      t = { u with regs := t.regs, pmc := t.pmc, mem := { s.mem with ch := t.mem.ch } } ∧
      regsOutside (fun b => b = 0x18 || b = 0x23) s t)) ∧
  (∀ (s u : State) (c : Fin 6) (sub : Fin 2) (flips : List Nat) (r : MemReq) (block : Option (Fin 2 × Nat)),
    s.rd (F.MEM_CH_STATUS.STATE c) = 2 →
    s.mem.ch.length = 6 →
    s.memPick c sub = some r →
    r.write = none →
    u = s.ddrUpset ((flips.take 4).zipIdx.map (fun f => (s.ddrPlace r.addr / 16 + f.2, f.1))) →
    u.burstRead r.addr = .poison →
    runsTo (.memRequestServed c sub flips block) s (fun t =>
      (t.memCh c).resp = some (r.addr, t.ddrRead r.addr 64, true) ∧
      t.poison = listInsert (s.ddrPlace r.addr) s.poison ∧
      t.burstRead r.addr = .poison ∧
      t.docTrap = (match r.core with | some (k, kind) => some (k, kind + 4) | none => s.docTrap) ∧
      (∀ d, d < 6 → d ≠ c.val → t.memCh d = s.memCh d) ∧
      t = { s with regs := t.regs, pmc := t.pmc, docTrap := t.docTrap, ddr := t.ddr, ddrErr := t.ddrErr, poison := t.poison, mem := { s.mem with ch := t.mem.ch } } ∧
      regsOutside (fun b => b = 0x18 || b = 0x23) s t)) ∧
  (∀ (s u : State) (c : Fin 6) (sub : Fin 2) (flips : List Nat) (r : MemReq) (n w : Nat) (block : Option (Fin 2 × Nat)),
    s.rd (F.MEM_CH_STATUS.STATE c) = 2 →
    s.mem.ch.length = 6 →
    s.memPick c sub = some r →
    r.write = none →
    r.cls ≠ 4 →
    u = s.ddrUpset ((flips.take 4).zipIdx.map (fun f => (s.ddrPlace r.addr / 16 + f.2, f.1))) →
    u.burstRead r.addr = .corrected n w →
    u.backWaits c r.addr = false →
    (s.bucket 4 (granule r.addr)).2 = false →
    runsTo (.memRequestServed c sub flips block) s (fun t =>
      (t.memCh c).resp = some (r.addr, u.ddrRead r.addr 64, false) ∧
      t.mem.writeBack = s.mem.writeBack ++ [r.addr] ∧
      (t.memCh c).erred.head? = some r.addr ∧
      t.rd F.MEM_ERR.CORRECTED = 1 ∧
      t.rd F.MEM_COUNTS.CORRECTED = min (s.rd F.MEM_COUNTS.CORRECTED + n) (2 ^ F.MEM_COUNTS.CORRECTED.width - 1) ∧
      (t.rd F.MEM_LAST_ERR.ADDR, t.rd F.MEM_LAST_ERR.WORD, t.rd F.MEM_LAST_ERR.UNCORRECTABLE) = (r.addr % 2 ^ 39, w % 4, 0) ∧
      (t.ddr, t.ddrErr, t.poison) = (u.ddr, u.ddrErr, u.poison) ∧
      t.docTrap = s.docTrap)) ∧
  (∀ (s u : State) (c : Fin 6) (sub : Fin 2) (flips : List Nat) (r : MemReq) (w n : Nat),
    s.rd (F.MEM_CH_STATUS.STATE c) = 2 →
    s.mem.ch.length = 6 →
    s.memPick c sub = some r →
    r.write = none →
    r.cls ≠ 4 →
    u = s.ddrUpset ((flips.take 4).zipIdx.map (fun f => (s.ddrPlace r.addr / 16 + f.2, f.1))) →
    u.burstRead r.addr = .bad w n →
    (s.bucket 5 (granule r.addr)).2 = false →
    runsTo (.memRequestServed c sub flips none) s (fun t =>
      t.poison = listInsert (s.ddrPlace r.addr) s.poison ∧
      t.burstRead r.addr = .poison ∧
      (t.sram, t.hostMem) = (s.sram, s.hostMem) ∧
      (t.memCh c).resp = some (r.addr, t.ddrRead r.addr 64, true) ∧
      t.docTrap = (match r.core with | some (k, kind) => some (k, kind + 4) | none => s.docTrap) ∧
      t.rd F.MEM_ERR.UNCORRECTABLE = 1 ∧
      t.rd F.MEM_COUNTS.UNCORRECTABLE = min (s.rd F.MEM_COUNTS.UNCORRECTABLE + 1) (2 ^ 16 - 1) ∧
      (t.rd F.MEM_LAST_ERR.ADDR, t.rd F.MEM_LAST_ERR.WORD, t.rd F.MEM_LAST_ERR.UNCORRECTABLE) = (r.addr % 2 ^ 39, w % 4, 1) ∧
      (t.memCh c).erred.head? = some r.addr)) ∧
  (∀ (s u : State) (c : Fin 6) (sub : Fin 2) (flips : List Nat) (r : MemReq) (w n : Nat) (p : Fin 2) (seq : Nat) (l : Leaf) (b : Blk),
    s.rd (F.MEM_CH_STATUS.STATE c) = 2 →
    s.mem.ch.length = 6 →
    s.memPick c sub = some r →
    r.write = none →
    r.cls ≠ 4 →
    u = s.ddrUpset ((flips.take 4).zipIdx.map (fun f => (s.ddrPlace r.addr / 16 + f.2, f.1))) →
    u.burstRead r.addr = .bad w n →
    (s.bucket 5 (granule r.addr)).2 = false →
    s.leafAt p = some l →
    l.blk seq = some b →
    l.nextSeq ≤ seq →
    (b.state = .stored ∨ b.state = .good) →
    b.refetches < s.rd F.FOL_CFG.REFETCH_LIMIT →
    s.hif.rfqHeld.length < 64 →
    runsTo (.memRequestServed c sub flips (some (p, seq))) s (fun t =>
      t.poison = listInsert (s.ddrPlace r.addr) s.poison ∧
      t.burstRead r.addr = .poison ∧
      (t.sram, t.hostMem) = (s.sram, s.hostMem) ∧
      (t.memCh c).resp = some (r.addr, t.ddrRead r.addr 64, true) ∧
      t.docTrap = (match r.core with | some (k, kind) => some (k, kind + 4) | none => s.docTrap) ∧
      t.rd F.MEM_ERR.UNCORRECTABLE = 1 ∧
      t.rd F.MEM_COUNTS.UNCORRECTABLE = min (s.rd F.MEM_COUNTS.UNCORRECTABLE + 1) (2 ^ 16 - 1) ∧
      (t.rd F.MEM_LAST_ERR.ADDR, t.rd F.MEM_LAST_ERR.WORD, t.rd F.MEM_LAST_ERR.UNCORRECTABLE) = (r.addr % 2 ^ 39, w % 4, 1) ∧
      (t.rd F.SCR_ERR.REFETCH, t.rd F.FOL_ERR.POISON, t.rd F.FOL_LAST_FAIL.CAUSE) = (1, 1, 6) ∧
      t.rd F.FOL_COUNTS.CRC_FAIL = min (s.rd F.FOL_COUNTS.CRC_FAIL + 1) (2 ^ F.FOL_COUNTS.CRC_FAIL.width - 1) ∧
      t.hif.rfqHeld.dropLast = s.hif.rfqHeld ∧
      t.hif.rfqHeld.getLast?.map (fun x => (x.leaf, x.tag, x.seq, x.reason)) = some (l.id, b.tag, b.seq, 2) ∧
      t.leafAt (1 - p.val) = s.leafAt (1 - p.val) ∧
      (t.memCh c).erred.head? = some r.addr)) ∧
  (∀ (s : State) (c : Fin 6) (sub : Fin 2) (flips : List Nat) (r : MemReq) (bytes : List Byte) (block : Option (Fin 2 × Nat)),
    s.rd (F.MEM_CH_STATUS.STATE c) = 2 →
    s.mem.ch.length = 6 →
    s.memPick c sub = some r →
    r.write = some (0, bytes) →
    bytes.length = 64 →
    r.addr % 64 = 0 →
    s.ddrErr = [] →
    s.mem.remaps = [] →
    runsTo (.memRequestServed c sub flips block) s (fun t =>
      memRead t.ddr r.addr 64 = bytes ∧
      (∀ x, x < r.addr ∨ r.addr + 64 ≤ x → smGet byteDefault t.ddr x = smGet byteDefault s.ddr x) ∧
      r.addr ∉ t.poison ∧
      t.burstRead r.addr = .good ∧
      (t.memCh c).resp = some (r.addr, [], false) ∧
      t = { s with regs := t.regs, pmc := t.pmc, ddr := t.ddr, ddrErr := t.ddrErr, poison := t.poison, mem := { s.mem with ch := t.mem.ch } } ∧
      regsOutside (fun b => b = 0x18 || b = 0x23) s t)) ∧
  (∀ (s : State) (c : Fin 6) (sub : Fin 2) (r : MemReq) (off : Nat) (bytes : List Byte) (block : Option (Fin 2 × Nat)),
    s.rd (F.MEM_CH_STATUS.STATE c) = 2 →
    s.mem.ch.length = 6 →
    s.canonical = true →
    s.memPick c sub = some r →
    r.write = some (off, bytes) →
    r.writesBack = false →
    off + bytes.length ≤ 64 →
    bytes.length < 64 →
    r.addr % 64 = 0 →
    s.ddrErr = [] →
    s.mem.remaps = [] →
    runsTo (.memRequestServed c sub [] block) s (fun t =>
      memRead t.ddr (r.addr + off) bytes.length = (if s.poison.contains r.addr then memRead s.ddr (r.addr + off) bytes.length else bytes) ∧
      (∀ x, x < r.addr + off ∨ r.addr + off + bytes.length ≤ x → smGet byteDefault t.ddr x = smGet byteDefault s.ddr x) ∧
      (t.poison, t.ddrErr) = (s.poison, []) ∧
      t.bit F.MEM_ERR.RMW_POISON = (s.bit F.MEM_ERR.RMW_POISON || s.poison.contains r.addr) ∧
      (t.memCh c).resp = some (r.addr, [], s.poison.contains r.addr) ∧
      t.docTrap = (if s.poison.contains r.addr then (match r.core with | some (k, kind) => some (k, kind + 4) | none => s.docTrap) else s.docTrap) ∧
      t = { s with regs := t.regs, pmc := t.pmc, ddr := t.ddr, docTrap := t.docTrap, mem := { s.mem with ch := t.mem.ch } } ∧
      regsOutside (fun b => b = 0x18 || b = 0x23) s t)) ∧
  (∀ (s u : State) (c : Fin 6) (sub : Fin 2) (flips : List Nat) (r : MemReq) (n w : Nat) (block : Option (Fin 2 × Nat)),
    s.rd (F.MEM_CH_STATUS.STATE c) = 2 →
    s.mem.ch.length = 6 →
    s.memPick c sub = some r →
    r.writesBack = true →
    u = s.ddrUpset ((flips.take 4).zipIdx.map (fun f => (s.ddrPlace r.addr / 16 + f.2, f.1))) →
    u.burstRead r.addr = .corrected n w →
    s.poison.contains (s.ddrPlace r.addr) = false →
    runsTo (.memRequestServed c sub flips block) s (fun t =>
      t.burstRead r.addr = .good ∧
      t.rd F.SCR_COUNTS.CORRECTED = min (s.rd F.SCR_COUNTS.CORRECTED + 1) (2 ^ F.SCR_COUNTS.CORRECTED.width - 1) ∧
      (t.memCh c).resp = some (r.addr, [], false) ∧
      t = { s with regs := t.regs, pmc := t.pmc, ddr := t.ddr, ddrErr := t.ddrErr, mem := { s.mem with ch := t.mem.ch } } ∧
      regsOutside (fun b => b = 0x18 || b = 0x19 || b = 0x23) s t)) ∧
  (∀ (s : State) (c : Fin 6) (cls : Fin 5) (o : MemReq),
    s.mem.ch.length = 6 →
    oldest (((s.memCh c).ports ++ (s.memCh c).queue).filter (fun r => r.cls = cls.val && !r.urgent)) = some o →
    runsTo (.memAgePromotion c cls) s (fun t =>
      t.memCh c = { s.memCh c with ports := (s.memCh c).ports.map (fun r => if r = o then { r with urgent := true } else r), queue := (s.memCh c).queue.map (fun r => if r = o then { r with urgent := true } else r) } ∧
      t.rd F.MEM_COUNTS.PROMOTED = min (s.rd F.MEM_COUNTS.PROMOTED + 1) (2 ^ 12 - 1) ∧
      t = { s with regs := t.regs, pmc := t.pmc, mem := { s.mem with ch := t.mem.ch } } ∧
      regsOutside (fun b => b = 0x18 || b = 0x23) s t)) ∧
  (∀ (s : State) (c : Fin 6),
    s.mem.ch.length = 6 →
    runsTo (.urgentWindowRoll c) s (fun t =>
      t.memCh c = { s.memCh c with urgent := 0 } ∧
      t = { s with mem := { s.mem with ch := s.mem.ch.set c { s.memCh c with urgent := 0 } } })) ∧
  (∀ (s : State) (c : Fin 6) (r : MemReq) (rest : List MemReq),
    s.mem.ch.length = 6 →
    (s.memCh c).queue = r :: rest →
    runsTo (.fabricTimeout c) s (fun t =>
      t.memCh c = { s.memCh c with queue := rest, resp := some (r.addr, [], true) } ∧
      t.rd F.MEM_ERR.FABRIC_TIMEOUT = 1 ∧
      t.docTrap = (match r.core with | some (k, kind) => some (k, kind + 4) | none => s.docTrap) ∧
      t = { s with regs := t.regs, docTrap := t.docTrap, mem := { s.mem with ch := t.mem.ch } } ∧
      regsApart [F.MEM_ERR.FABRIC_TIMEOUT.off] s t))

/-- REFRESH_DEBT_ACCRUE, REFRESH_ISSUE, MR4_POLL, SELF_REFRESH_ENTRY, SELF_REFRESH_EXIT, CHANNEL_TRAINING_DONE,
CHANNEL_ZERO_FILL_DONE, MEM_RETRAIN, MEM_APPLY. Each 1.95 us every rank owes one unit; an issued refresh repays the
units in force and closes the rank's rows. MR4 doubles the rate at once and halves it after two cool polls; a hot
component brings the Guard into action. A channel that may rest repays its debt and rests; a waiting request ends
the rest with no debt. A training whose ten lanes pass shows its results and waits for APPLY; a failure at start-up
is flagged and counted, and one in recovery, while the Guard acts, holds the channel. RETRAIN takes an idle
tracker's channel into recovery. APPLY puts the delays of a held channel in service; after a passed training the
zero fill follows at start-up, and a recovery ends. After the zero fill the channel serves, and the first three join
the preview set, with DDR5 empty (log entry 58). Log entries: 56, 57, 59, 62, 97, 107, 108. (Rests on:
spec/08_memory.md, Refresh; spec/08_memory.md, Self-refresh; spec/08_memory.md, Training.) -/
def Obligations.ChannelsRefreshRestAndTrain : Prop :=
  (∀ (s : State) (c : Fin 6),
    s.mem.ch.length = 6 →
    s.rd (F.MEM_CH_STATUS.STATE c) ≠ 0 →
    s.rd (F.MEM_CH_STATUS.STATE c) ≠ 3 →
    runsTo (.refreshDebtAccrue c) s (fun t =>
      (∀ i, i < 4 → (t.memCh c).debt.getD i 0 = (s.memCh c).debt.getD i 0 + (if i < 2 ∨ s.bit F.MEM_CFG.RANKS = true then 1 else 0)) ∧
      t.rd (F.MEM_CH_STATUS.DEBT c) = min 8 ((t.memCh c).debt.foldl max 0) ∧
      (∀ d, d < 6 → d ≠ c.val → t.memCh d = s.memCh d) ∧
      t = { s with regs := t.regs, mem := { s.mem with ch := t.mem.ch } } ∧
      regsApart [(F.MEM_CH_STATUS.DEBT c).off] s t)) ∧
  (∀ (s : State) (c : Fin 6) (sub rank : Fin 2) (span : Int),
    s.mem.ch.length = 6 →
    s.rd (F.MEM_CH_STATUS.STATE c) ≠ 0 →
    s.rd (F.MEM_CH_STATUS.STATE c) ≠ 3 →
    s.refreshUnits c ≤ (s.memCh c).debt.getD (2 * rank.val + sub.val) 0 →
    (s.refreshCap c < (s.memCh c).debt.getD (2 * rank.val + sub.val) 0 ∨ (s.memCh c).queue.all (fun r => !(r.bank / 32 = rank.val && s.subOf r.addr = sub.val)) = true) →
    runsTo (.refreshIssue c sub rank span) s (fun t =>
      (t.memCh c).debt = (s.memCh c).debt.set (2 * rank.val + sub.val) ((s.memCh c).debt.getD (2 * rank.val + sub.val) 0 - s.refreshUnits c) ∧
      (t.memCh c).rows = (s.memCh c).rows.filter (fun e => !(e.1 / 64 = rank.val && e.1 % 2 = sub.val)) ∧
      t.rd (F.CAL_DDR.LONG c) = (if 0 < span then 1 else 0) ∧
      (∀ d, d < 6 → d ≠ c.val → t.memCh d = s.memCh d) ∧
      (s.cal.ddr[c.val]? = some none → t.cal = s.cal) ∧
      t = { s with regs := t.regs, pmc := { s.pmc with irqs := t.pmc.irqs }, cal := t.cal, mem := { s.mem with ch := t.mem.ch } } ∧
      regsOutside (fun b => b = 0x18 || b = 0x23 || b = 0x24) s t)) ∧
  (∀ (s : State) (c : Fin 6) (twice : Bool),
    s.mem.ch.length = 6 →
    s.rd (F.MEM_CH_STATUS.STATE c) ≠ 0 →
    s.rd (F.MEM_CH_STATUS.STATE c) ≠ 3 →
    runsTo (.mr4Poll c twice false) s (fun t =>
      (t.memCh c).cool = (if twice then 0 else (s.memCh c).cool + 1) ∧
      t.bit (F.MEM_CH_STATUS.DOUBLED c) = (twice || (s.bit (F.MEM_CH_STATUS.DOUBLED c) && decide ((s.memCh c).cool + 1 < 2))) ∧
      t.rd F.MEM_STATUS.DOUBLED / 2 ^ c.val % 2 = t.rd (F.MEM_CH_STATUS.DOUBLED c) ∧
      (∀ d, d < 6 → d ≠ c.val → t.memCh d = s.memCh d) ∧
      t = { s with regs := t.regs, mem := { s.mem with ch := t.mem.ch } } ∧
      regsApart [(F.MEM_CH_STATUS.DOUBLED c).off, F.MEM_STATUS.DOUBLED.off] s t)) ∧
  (∀ (s : State) (c : Fin 6) (twice : Bool),
    s.mem.ch.length = 6 →
    s.rd (F.MEM_CH_STATUS.STATE c) ≠ 0 →
    s.rd (F.MEM_CH_STATUS.STATE c) ≠ 3 →
    s.mode ≠ 0 →
    s.saf.acting = false →
    runsTo (.mr4Poll c twice true) s (fun t =>
      t.rd F.MEM_ERR.DRAM_HOT = 1 ∧
      t.bit (F.MEM_CH_STATUS.DOUBLED c) = true ∧
      guardActs 8 s t)) ∧
  (∀ (s : State) (c : Fin 6),
    s.mem.ch.length = 6 →
    s.mayRest c = true →
    runsTo (.selfRefreshEntry c) s (fun t =>
      t.rd (F.MEM_CH_STATUS.STATE c) = 3 ∧
      t.rd F.MEM_STATUS.SELF_REFRESH / 2 ^ c.val % 2 = 1 ∧
      ((t.memCh c).debt, (t.memCh c).rows) = ([0, 0, 0, 0], []) ∧
      (s.rd F.SCR_STATUS.STATE = 1 → t.rd F.SCR_STATUS.STATE = 3) ∧
      t.free = s.free + ((s.memCh c).debt.map (fun d => (d + s.refreshUnits c - 1) / s.refreshUnits c)).sum ∧
      (∀ d, d < 6 → d ≠ c.val → t.memCh d = s.memCh d) ∧
      (s.cal.ddr[c.val]? = some none → t.cal = s.cal) ∧
      t = { s with regs := t.regs, free := t.free, pmc := { s.pmc with irqs := t.pmc.irqs }, cal := t.cal, mem := { s.mem with ch := t.mem.ch } } ∧
      regsOutside (fun b => b = 0x18 || b = 0x19 || b = 0x23 || b = 0x24) s t)) ∧
  (∀ (s : State) (c : Fin 6) (span : Int),
    s.mem.ch.length = 6 →
    s.rd (F.MEM_CH_STATUS.STATE c) = 3 →
    (s.memCh c).ports ≠ [] →
    s.bit F.BOOT_STATUS.QUIESCED = false →
    runsTo (.selfRefreshExit c span) s (fun t =>
      t.rd (F.MEM_CH_STATUS.STATE c) = 2 ∧
      t.rd F.MEM_STATUS.SELF_REFRESH / 2 ^ c.val % 2 = 0 ∧
      t.rd (F.CAL_DDR.LONG c) = (if 0 < span then 1 else 0) ∧
      (s.cal.ddr[c.val]? = some none → t.cal = s.cal) ∧
      t = { s with regs := t.regs, cal := t.cal } ∧
      regsOutside (fun b => b = 0x18 || b = 0x19 || b = 0x24) s t)) ∧
  (∀ (s : State) (c : Fin 6) (lanes : List LaneEye),
    s.mem.ch.length = 6 →
    s.rd (F.MEM_CH_STATUS.STATE c) = 1 →
    (s.memCh c).filling = false →
    lanes.length = 10 →
    lanes.all (fun e => decide (32 ≤ e.eye)) = true →
    runsTo (.channelTrainingDone c lanes) s (fun t =>
      t.memCh c = { s.memCh c with passed := true } ∧
      (∀ n, n < 10 → t.rd (F.MEM_CH_TRAIN.PASS c n) = 1) ∧
      (∀ n, n < 10 → (t.rd (F.MEM_CH_TRAIN.RX_DELAY c n), t.rd (F.MEM_CH_TRAIN.TX_DELAY c n), t.rd (F.MEM_CH_TRAIN.VREF c n)) = (match lanes[n]? with | some e => (min e.rx 255, min e.tx 255, min e.vref 70) | none => (0, 0, 0))) ∧
      (∀ d, d < 6 → d ≠ c.val → t.memCh d = s.memCh d) ∧
      t = { s with regs := t.regs, mem := { s.mem with ch := t.mem.ch } } ∧
      regsOutside (fun b => b = 0x18) s t)) ∧
  (∀ (s : State) (c : Fin 6) (lanes : List LaneEye),
    s.mem.ch.length = 6 →
    s.rd (F.MEM_CH_STATUS.STATE c) = 1 →
    (s.memCh c).filling = false →
    (s.memCh c).recovery = true →
    (lanes.take 10).any (fun e => decide (e.eye < 32)) = true →
    s.kpr.retrains.filter (fun r => r.1 = c.val) = [] →
    s.saf.acting = true →
    runsTo (.channelTrainingDone c lanes) s (fun t =>
      t.rd F.MEM_ERR.TRAIN_FAIL = 1 ∧
      t.rd (F.MEM_CH_STATUS.STATE c) = 4 ∧
      t.memCh c = s.memCh c ∧
      (∀ d, d < 6 → d ≠ c.val → t.memCh d = s.memCh d) ∧
      t = { s with regs := t.regs } ∧
      regsOutside (fun b => b = 0x18) s t)) ∧
  (∀ (s : State) (c : Fin 6) (lanes : List LaneEye),
    s.mem.ch.length = 6 →
    s.rd (F.MEM_CH_STATUS.STATE c) = 1 →
    (s.memCh c).filling = false →
    (s.memCh c).recovery = false →
    (lanes.take 10).any (fun e => decide (e.eye < 32)) = true →
    (s.memCh c).tries < 2 →
    runsTo (.channelTrainingDone c lanes) s (fun t =>
      t.rd F.MEM_ERR.TRAIN_FAIL = 1 ∧
      t.rd (F.MEM_CH_STATUS.STATE c) = 1 ∧
      t.memCh c = { s.memCh c with tries := (s.memCh c).tries + 1 } ∧
      (∀ d, d < 6 → d ≠ c.val → t.memCh d = s.memCh d) ∧
      t = { s with regs := t.regs, mem := { s.mem with ch := t.mem.ch } } ∧
      regsOutside (fun b => b = 0x18) s t)) ∧
  (∀ (s : State) (c : Fin 6),
    s.mem.ch.length = 6 →
    (s.memCh c).filling = true →
    3 ≤ s.mem.preview.length →
    runsTo (.channelZeroFillDone c) s (fun t =>
      t.rd (F.MEM_CH_STATUS.STATE c) = 2 ∧
      t.trained c = true ∧
      t.memCh c = { s.memCh c with filling := false } ∧
      (t.rd F.MEM_STATUS.TRAINED = 63 → t.rd F.SCR_CTL.ENABLE = 1) ∧
      (∀ d, d < 6 → d ≠ c.val → t.memCh d = s.memCh d) ∧
      t = { s with regs := t.regs, mem := { s.mem with ch := t.mem.ch } } ∧
      regsApart [(F.MEM_CH_STATUS.STATE c).off, F.MEM_STATUS.TRAINED.off, F.SCR_CTL.ENABLE.off, F.SCR_STATUS.STATE.off] s t)) ∧
  (∀ (s : State) (c : Fin 6),
    s.mem.ch.length = 6 →
    (s.memCh c).filling = true →
    s.mem.preview.length < 3 →
    runsTo (.channelZeroFillDone c) s (fun t =>
      t.rd (F.MEM_CH_STATUS.STATE c) = 2 ∧
      t.trained c = true ∧
      t.memCh c = { s.memCh c with filling := false } ∧
      (∀ d, d < 6 → d ≠ c.val → t.memCh d = s.memCh d) ∧
      (t.ddr, t.poison, t.ddrErr) = ([], [], []) ∧
      t = { s with regs := t.regs, ddr := [], poison := [], ddrErr := [], mem := { s.mem with ch := t.mem.ch, preview := s.mem.preview ++ [c.val] } } ∧
      regsApart [(F.MEM_CH_STATUS.STATE c).off, F.MEM_STATUS.TRAINED.off, F.SCR_CTL.ENABLE.off, F.SCR_STATUS.STATE.off] s t)) ∧
  (∀ (s : State) (m : Master) (c : Fin 6),
    s.serves m F.MEM_CTL.RETRAIN.off = true →
    s.mem.ch.length = 6 →
    2 ≤ s.rd (F.MEM_CH_STATUS.STATE c) →
    s.rd (F.MEM_CH_STATUS.STATE c) ≤ 4 →
    s.rd F.SLT_STATUS.STATE = 0 →
    runsTo (.memRetrain m ⟨c.val, by omega⟩) s (fun t =>
      t.rd (F.MEM_CH_STATUS.STATE c) = 1 ∧
      t.trained c = false ∧
      ((t.memCh c).retrain, (t.memCh c).recovery) = (false, true) ∧
      ((∀ d, d < 6 → (s.memCh d).retrain = false) → ∀ d, d < 6 → d ≠ c.val → t.memCh d = s.memCh d) ∧
      t = { s with regs := t.regs, mem := { s.mem with ch := t.mem.ch } } ∧
      regsOutside (fun b => b = 0x18 || b = 0x19) s t)) ∧
  (∀ (s : State) (m : Master) (c : Fin 6),
    s.serves m F.MEM_CTL.RETRAIN.off = true →
    s.mem.ch.length = 6 →
    2 ≤ s.rd (F.MEM_CH_STATUS.STATE c) →
    s.rd (F.MEM_CH_STATUS.STATE c) ≤ 4 →
    s.rd F.SLT_STATUS.STATE ≠ 0 →
    runsTo (.memRetrain m ⟨c.val, by omega⟩) s (fun t =>
      t.memCh c = { s.memCh c with retrain := true } ∧
      (∀ d, d < 6 → d ≠ c.val → t.memCh d = s.memCh d) ∧
      t.rd F.MEM_CTL.CHANNEL = c.val ∧
      t = { s with regs := t.regs, mem := { s.mem with ch := t.mem.ch } } ∧
      regsApart [F.MEM_CTL.CHANNEL.off] s t)) ∧
  (∀ (s : State) (m : Master) (c : Fin 8),
    s.serves m F.MEM_CTL.RETRAIN.off = true →
    (6 ≤ c.val ∨ s.rd (F.MEM_CH_STATUS.STATE c) < 2 ∨ 4 < s.rd (F.MEM_CH_STATUS.STATE c)) →
    runsTo (.memRetrain m c) s (fun t =>
      t.rd F.MEM_CTL.CHANNEL = c.val ∧
      t = { s with regs := t.regs } ∧
      regsApart [F.MEM_CTL.CHANNEL.off] s t)) ∧
  (∀ (s : State) (m : Master) (c : Fin 8),
    s.serves m F.MEM_CTL.APPLY.off = true →
    (6 ≤ c.val ∨ (s.rd (F.MEM_CH_STATUS.STATE c) ≠ 1 ∧ s.rd (F.MEM_CH_STATUS.STATE c) ≠ 4)) →
    runsTo (.memApply m c) s (fun t =>
      t.rd F.MEM_ERR.APPLY_IGNORED = 1 ∧
      t.rd F.MEM_CTL.CHANNEL = c.val ∧
      t = { s with regs := t.regs } ∧
      regsApart [F.MEM_CTL.CHANNEL.off, F.MEM_ERR.APPLY_IGNORED.off] s t)) ∧
  (∀ (s : State) (m : Master) (c : Fin 6),
    s.serves m F.MEM_CTL.APPLY.off = true →
    s.mem.ch.length = 6 →
    (s.rd (F.MEM_CH_STATUS.STATE c) = 1 ∨ s.rd (F.MEM_CH_STATUS.STATE c) = 4) →
    (∀ n, n < 10 → s.rd (F.MEM_CH_DELAY.VREF c n) ≤ 70) →
    (s.memCh c).passed = false →
    runsTo (.memApply m ⟨c.val, by omega⟩) s (fun t =>
      (t.memCh c).used = (List.range 10).map (fun n => (s.rd (F.MEM_CH_DELAY.RX_DELAY c n), s.rd (F.MEM_CH_DELAY.TX_DELAY c n), s.rd (F.MEM_CH_DELAY.VREF c n))) ∧
      t.rd F.MEM_CTL.CHANNEL = c.val ∧
      (∀ d, d < 6 → d ≠ c.val → t.memCh d = s.memCh d) ∧
      t = { s with regs := t.regs, mem := { s.mem with ch := t.mem.ch } } ∧
      regsApart [F.MEM_CTL.CHANNEL.off] s t)) ∧
  (∀ (s : State) (m : Master) (c : Fin 6),
    s.serves m F.MEM_CTL.APPLY.off = true →
    s.mem.ch.length = 6 →
    s.rd (F.MEM_CH_STATUS.STATE c) = 1 →
    (∀ n, n < 10 → s.rd (F.MEM_CH_DELAY.VREF c n) ≤ 70) →
    (s.memCh c).passed = true →
    (s.memCh c).recovery = false →
    runsTo (.memApply m ⟨c.val, by omega⟩) s (fun t =>
      ((t.memCh c).passed, (t.memCh c).filling) = (false, true) ∧
      t.rd (F.MEM_CH_STATUS.STATE c) = 1 ∧
      (∀ d, d < 6 → d ≠ c.val → t.memCh d = s.memCh d) ∧
      t = { s with regs := t.regs, mem := { s.mem with ch := t.mem.ch } } ∧
      regsApart [F.MEM_CTL.CHANNEL.off] s t)) ∧
  (∀ (s : State) (m : Master) (c : Fin 6),
    s.serves m F.MEM_CTL.APPLY.off = true →
    s.mem.ch.length = 6 →
    s.rd (F.MEM_CH_STATUS.STATE c) = 1 →
    (∀ n, n < 10 → s.rd (F.MEM_CH_DELAY.VREF c n) ≤ 70) →
    (s.memCh c).passed = true →
    (s.memCh c).recovery = true →
    s.kpr.retrains.filter (fun r => r.1 = c.val) = [] →
    runsTo (.memApply m ⟨c.val, by omega⟩) s (fun t =>
      t.rd (F.MEM_CH_STATUS.STATE c) = 2 ∧
      t.trained c = true ∧
      ((t.memCh c).passed, (t.memCh c).recovery) = (false, false) ∧
      (∀ d, d < 6 → d ≠ c.val → t.memCh d = s.memCh d) ∧
      t = { s with regs := t.regs, mem := { s.mem with ch := t.mem.ch } } ∧
      regsOutside (fun b => b = 0x18) s t))

/-- SCRUB_READ, SCRUB_WRITEBACK, SCRUB_BEHIND, SCR_ENABLE, SCR_DISABLE, SCR_DRAIN_COMPLETE. While it runs, a scrub read,
which names the bank and the row of the walk position, puts a request of class SCRUB for the walk's burst at the
ports of every channel that the map holds, and the position advances or the pass ends. A scheduled write-back enters
its channel's port as a request of class SCRUB. A late pass sets BEHIND. ENABLE starts an idle walk (paused while a
channel rests) and is held while DISABLING; a disable stops it; a drain ends in IDLE or applies the held enable. No
memory changes. The requests are class SCRUB (log entries 60, 62), and bursts of channels outside the preview map
are walked too. (Rests on: spec/08_memory.md, Scrubbing and uncorrectable data.) -/
def Obligations.TheScrubberWalksEveryChannel : Prop :=
  (∀ (s : State) (bank : Fin 64) (row : Nat),
    s.rd F.SCR_STATUS.STATE = 1 →
    s.bankRowAt (s.rd F.SCR_STATUS.POS * 64) = (bank.val, row) →
    s.mem.ch.length = 6 →
    runsTo (.scrubRead bank row) s (fun t =>
      (∀ c, c < 6 → (t.memCh c).ports = (s.memCh c).ports ++ (match s.spaceOf c (s.rd F.SCR_STATUS.POS * 64) with | some a => [⟨4, burstOf a, none, (s.bankRow (burstOf a)).1, (s.bankRow (burstOf a)).2, none, false, (s.memCh c).seen, 30, false, a⟩] | none => [])) ∧
      t.rd F.SCR_STATUS.POS = (if s.rd F.SCR_STATUS.POS + 1 < s.channelBursts then (s.rd F.SCR_STATUS.POS + 1) % 2 ^ 33 else 0) ∧
      (s.rd F.SCR_STATUS.POS + 1 ≥ s.channelBursts → t.rd F.SCR_STATUS.PASSES = (s.rd F.SCR_STATUS.PASSES + 1) % 2 ^ 16) ∧
      t = { s with regs := t.regs, mem := { s.mem with ch := t.mem.ch } } ∧
      regsApart [F.SCR_STATUS.POS.off] s t)) ∧
  (∀ (s : State) (a : Nat) (rest : List Nat) (c : Nat),
    s.mem.ch.length = 6 →
    s.mem.writeBack = a :: rest →
    s.chanOf a = some c →
    c < 6 →
    runsTo (.scrubWriteback) s (fun t =>
      t.mem.writeBack = rest ∧
      (t.memCh c).ports = (s.memCh c).ports ++ [⟨4, burstOf a, some (0, []), (s.bankRow (burstOf a)).1, (s.bankRow (burstOf a)).2, none, false, (s.memCh c).seen, 30, false, a⟩] ∧
      (∀ d, d < 6 → d ≠ c → t.memCh d = s.memCh d) ∧
      t = { s with mem := { s.mem with ch := t.mem.ch, writeBack := rest } })) ∧
  (∀ (s : State),
    s.rd F.SCR_STATUS.STATE = 1 →
    runsTo (.scrubBehind) s (fun t =>
      t.rd F.SCR_ERR.BEHIND = 1 ∧
      t = { s with regs := t.regs } ∧
      regsApart [F.SCR_ERR.BEHIND.off] s t)) ∧
  (∀ (s : State) (m : Master),
    s.serves m F.SCR_CTL.ENABLE.off = true →
    runsTo (.scrEnable m) s (fun t =>
      t.rd F.SCR_CTL.ENABLE = 1 ∧
      t.rd F.SCR_STATUS.STATE = (if s.rd F.SCR_STATUS.STATE = 0 then (if s.anyResting then 3 else 1) else s.rd F.SCR_STATUS.STATE) ∧
      t.rd F.SCR_STATUS.PENDING_ENABLE = (if s.rd F.SCR_STATUS.STATE = 2 then 1 else s.rd F.SCR_STATUS.PENDING_ENABLE) ∧
      t = { s with regs := t.regs } ∧
      regsApart [F.SCR_CTL.ENABLE.off, F.SCR_STATUS.STATE.off] s t)) ∧
  (∀ (s : State) (m : Master),
    s.serves m F.SCR_CTL.ENABLE.off = true →
    runsTo (.scrDisable m) s (fun t =>
      t.rd F.SCR_CTL.ENABLE = 0 ∧
      t.rd F.SCR_STATUS.STATE = (if s.rd F.SCR_STATUS.STATE = 0 then 0 else 2) ∧
      t.rd F.SCR_STATUS.PENDING_ENABLE = (if s.rd F.SCR_STATUS.STATE = 2 then 0 else s.rd F.SCR_STATUS.PENDING_ENABLE) ∧
      t = { s with regs := t.regs } ∧
      regsApart [F.SCR_CTL.ENABLE.off, F.SCR_STATUS.STATE.off] s t)) ∧
  (∀ (s : State),
    s.rd F.SCR_STATUS.STATE = 2 →
    runsTo (.scrDrainComplete) s (fun t =>
      t.rd F.SCR_STATUS.STATE = (if s.bit F.SCR_STATUS.PENDING_ENABLE then (if s.anyResting then 3 else 1) else 0) ∧
      t.rd F.SCR_STATUS.PENDING_ENABLE = 0 ∧
      t = { s with regs := t.regs } ∧
      regsApart [F.SCR_STATUS.STATE.off] s t))

/-- SVY_FRAME_START, SVY_LINE_PACKET, SVY_FRAME_END, SVY_FOREIGN_PACKET, SVY_EMBEDDED_PACKET, SVY_DPHY_ERROR,
SVY_HEADER_ECC_ERROR. With no list pending and no gap, a frame start begins a frame with the present stamp and the
tag in force, and at phase 0 takes the staged values. A line of the right length joins the frame, one that fails its
CRC joins a BAD frame, one of another length marks it BAD. A frame end stores, counts and closes the frame; a good
frame of a set of one phase becomes a record in the next slot, with the bytes of R235. A frame with a buffer is
stored whole, and one of a longer group waits in it. Foreign packets are counted, an embedded one does nothing, and
a link error marks the frame BAD. The other pipeline does not change. Log entries: 20, 63, 64, 133. (Rests on:
spec/09_survey.md, The camera link; spec/09_survey.md, Sensor control; spec/09_survey.md, Pixel processing;
spec/09_survey.md, Records and frames.) -/
def Obligations.CameraPacketsBuildFrames : Prop :=
  (∀ (s : State) (p : Fin 2) (fnum : BitVec 16) (x : SvyPipe),
    s.svyOn p = true →
    s.svy.length = 2 →
    s.pipe p = x →
    x.frame = none →
    x.pend = [] →
    x.failing = false →
    x.first = 0 →
    x.late = [] →
    x.send = none →
    s.gapAt p fnum.toNat s.nowAll = false →
    s.bit (F.SVY_P_DEFECT_CTL.SWAP_PENDING p) = false →
    s.bit (F.SVY_P_CTL.FRAME_STORE p) = false →
    (if x.tag.any (fun g => g.phase = 0) then (F.SVY_P_PROC.MERGE 0).get (s.reg (F.SVY_P_PROC.MERGE p).off) else x.par.merge) ≤ 1 →
    runsTo (.svyFrameStart p fnum) s (fun t =>
      ((t.pipe p).frame.map (fun f => (f.fnum, f.sof, f.tag, f.uncertain, f.bad, f.index, f.lines))) = some (fnum.toNat, s.nowAll, x.tag, false, false, none, []) ∧
      (t.pipe p).par = (if x.tag.any (fun g => g.phase = 0) then { x.par with proc := s.reg (F.SVY_P_PROC.MERGE p).off, ratio := s.reg (F.SVY_P_RATIO.RATIO1 p).off, zone := s.reg (F.SVY_P_ZONE.X0 p).off } else x.par) ∧
      ((t.pipe p).frame.map SvyFrame.par) = some (t.pipe p).par ∧
      (t.pipe p).sofs = ((s.nowAll, false) :: x.sofs).take 64 ∧
      (t.pipe p).lastNum = some fnum.toNat ∧
      t.rd (F.SVY_P_STATUS.STREAMING p) = 1 ∧
      t.rd (F.SVY_P_STATUS.UNCERTAIN p) = 0 ∧
      t.pipe (1 - p.val) = s.pipe (1 - p.val) ∧
      t = { s with regs := t.regs, svy := t.svy } ∧
      regsApart [(F.SVY_P_STATUS.STREAMING p).off] s t)) ∧
  (∀ (s : State) (p : Fin 2) (data : List Byte) (f : SvyFrame),
    s.svyOn p = true →
    s.svy.length = 2 →
    (s.pipe p).frame = some f →
    data.length * 8 = s.rd (F.SVY_P_CAM.WIDTH p) * s.svyBits p →
    f.lines.length < s.rd (F.SVY_P_CAM.HEIGHT p) →
    runsTo (.svyLinePacket p data true) s (fun t =>
      t.pipe p = { s.pipe p with frame := some { f with lines := unpackLine (s.svyBits p) data :: f.lines } } ∧
      t.pipe (1 - p.val) = s.pipe (1 - p.val) ∧
      t = { s with svy := t.svy })) ∧
  (∀ (s : State) (p : Fin 2) (data : List Byte) (f : SvyFrame),
    s.svyOn p = true →
    s.svy.length = 2 →
    (s.pipe p).frame = some f →
    data.length * 8 ≠ s.rd (F.SVY_P_CAM.WIDTH p) * s.svyBits p →
    runsTo (.svyLinePacket p data true) s (fun t =>
      t.pipe p = { s.pipe p with frame := some { f with bad := true } } ∧
      t.pipe (1 - p.val) = s.pipe (1 - p.val) ∧
      t = { s with svy := t.svy })) ∧
  (∀ (s : State) (p : Fin 2) (data : List Byte) (f : SvyFrame),
    s.svyOn p = true →
    s.svy.length = 2 →
    (s.pipe p).frame = some f →
    data.length * 8 = s.rd (F.SVY_P_CAM.WIDTH p) * s.svyBits p →
    f.lines.length < s.rd (F.SVY_P_CAM.HEIGHT p) →
    (s.bucket 12 p.val).2 = false →
    runsTo (.svyLinePacket p data false) s (fun t =>
      (t.pipe p).frame = some { f with bad := true, lines := unpackLine (s.svyBits p) data :: f.lines } ∧
      t.rd (F.SVY_P_ERR.CRC p) = 1 ∧
      t.pipe (1 - p.val) = s.pipe (1 - p.val) ∧
      t = { s with regs := t.regs, svy := t.svy, saf := { s.saf with buckets := t.saf.buckets } } ∧
      regsApart [(F.SVY_P_ERR.CRC p).off] s t)) ∧
  (∀ (s : State) (p : Fin 2) (f : SvyFrame) (x : SvyPipe) (next : Nat),
    s.svyOn p = true →
    s.svy.length = 2 →
    s.pipe p = x →
    x.frame = some f →
    x.group = [] →
    f.bad = false →
    f.surplus = false →
    f.held = false →
    f.lines.length = s.rd (F.SVY_P_CAM.HEIGHT p) →
    f.index = none →
    f.par.merge = 1 →
    f.begins = true →
    f.fnum < 65536 →
    next = (s.rd (F.SVY_P_POS.REC_NEXT p) + x.recs.length) % 2 ^ 32 →
    (next + 2 ^ 32 - s.rd (F.SVY_P_ACK.REC p)) % 2 ^ 32 < 2 ^ s.rd (F.SVY_P_REC_RING.LOG2 p) →
    runsTo (.svyFrameEnd p (BitVec.ofNat 16 f.fnum)) s (fun t =>
      t.pipe p = { x with frame := none, group := [], run := false, recs := x.recs ++ [⟨s.groupRecord p next [] f, [f]⟩] } ∧
      t.pipe (1 - p.val) = s.pipe (1 - p.val) ∧
      t.rd (F.SVY_P_COUNTS.FRAMES p) = min (s.rd (F.SVY_P_COUNTS.FRAMES p) + 1) (2 ^ 16 - 1) ∧
      t = { s with regs := t.regs, svy := t.svy } ∧
      regsApart [(F.SVY_P_COUNTS.FRAMES p).off] s t)) ∧
  (∀ (s : State) (p : Fin 2) (f : SvyFrame) (x : SvyPipe) (next i base : Nat) (bs : List Byte),
    s.svyOn p = true →
    s.svy.length = 2 →
    s.pipe p = x →
    x.frame = some f →
    x.group = [] →
    f.bad = false →
    f.surplus = false →
    f.held = false →
    f.lines.length = s.rd (F.SVY_P_CAM.HEIGHT p) →
    f.index = some i →
    base = s.frameBase p i →
    bs = (s.frameRows p f).flatten.flatMap (fun v => leBytes 2 v) →
    s.ddrErr = [] →
    s.mem.remaps = [] →
    s.ddrPoisoned base bs.length = false →
    f.par.merge = 1 →
    f.begins = true →
    f.fnum < 65536 →
    next = (s.rd (F.SVY_P_POS.REC_NEXT p) + x.recs.length) % 2 ^ 32 →
    (next + 2 ^ 32 - s.rd (F.SVY_P_ACK.REC p)) % 2 ^ 32 < 2 ^ s.rd (F.SVY_P_REC_RING.LOG2 p) →
    runsTo (.svyFrameEnd p (BitVec.ofNat 16 f.fnum)) s (fun t =>
      t.pipe p = { x with frame := none, group := [], run := false, recs := x.recs ++ [⟨s.groupRecord p next [] f, [f]⟩] } ∧
      t.pipe (1 - p.val) = s.pipe (1 - p.val) ∧
      t.rd (F.SVY_P_COUNTS.FRAMES p) = min (s.rd (F.SVY_P_COUNTS.FRAMES p) + 1) (2 ^ 16 - 1) ∧
      memRead t.ddr base bs.length = bs ∧
      (∀ x, x < base ∨ base + bs.length ≤ x → smGet byteDefault t.ddr x = smGet byteDefault s.ddr x) ∧
      t = { s.unitParts t with ddr := t.ddr, svy := t.svy } ∧
      unitApart [(F.SVY_P_COUNTS.FRAMES p).off] s t)) ∧
  (∀ (s : State) (p : Fin 2) (f : SvyFrame) (x : SvyPipe) (i : Nat),
    s.svyOn p = true →
    s.svy.length = 2 →
    s.pipe p = x →
    x.frame = some f →
    x.group = [] →
    f.bad = false →
    f.surplus = false →
    f.held = false →
    f.lines.length = s.rd (F.SVY_P_CAM.HEIGHT p) →
    f.index = some i →
    s.ddrErr = [] →
    2 ≤ f.par.merge →
    f.begins = true →
    f.fnum < 65536 →
    runsTo (.svyFrameEnd p (BitVec.ofNat 16 f.fnum)) s (fun t =>
      t.pipe p = { x with frame := none, group := [{ f with lines := [] }], run := false } ∧
      t.pipe (1 - p.val) = s.pipe (1 - p.val) ∧
      t.rd (F.SVY_P_COUNTS.FRAMES p) = min (s.rd (F.SVY_P_COUNTS.FRAMES p) + 1) (2 ^ 16 - 1) ∧
      t = { s.unitParts t with ddr := t.ddr, poison := t.poison, svy := t.svy } ∧
      unitApart [(F.SVY_P_COUNTS.FRAMES p).off] s t)) ∧
  (∀ (s : State) (p : Fin 2) (fnum : BitVec 16) (f : SvyFrame),
    s.svyOn p = true →
    s.svy.length = 2 →
    (s.pipe p).frame = some f →
    f.fnum ≠ fnum.toNat →
    f.tag = none →
    f.index = none →
    (s.pipe p).run = true →
    runsTo (.svyFrameEnd p fnum) s (fun t =>
      t.pipe p = { s.pipe p with frame := none, group := [] } ∧
      t.rd (F.SVY_P_ERR.FRAME_BAD p) = 1 ∧
      t.rd (F.SVY_P_COUNTS.BAD p) = min (s.rd (F.SVY_P_COUNTS.BAD p) + 1) (2 ^ 8 - 1) ∧
      t.pipe (1 - p.val) = s.pipe (1 - p.val) ∧
      t = { s with regs := t.regs, svy := t.svy } ∧
      regsApart [(F.SVY_P_COUNTS.FRAMES p).off, (F.SVY_P_ERR.FRAME_BAD p).off] s t)) ∧
  (∀ (s : State) (p : Fin 2) (vc : BitVec 4) (dt : BitVec 6),
    s.svyOn p = true →
    vc.toNat ≠ s.rd (F.SVY_P_CAM.VC p) →
    runsTo (.svyForeignPacket p vc dt) s (fun t =>
      t.rd (F.SVY_P_ERR.FOREIGN p) = 1 ∧
      t.rd (F.SVY_P_COUNTS.FOREIGN_PKT p) = min (s.rd (F.SVY_P_COUNTS.FOREIGN_PKT p) + 1) (2 ^ 16 - 1) ∧
      t.rd (F.SVY_P_COUNTS.FOREIGN_FRAME p) = (if dt = 0 then min (s.rd (F.SVY_P_COUNTS.FOREIGN_FRAME p) + 1) (2 ^ 16 - 1) else s.rd (F.SVY_P_COUNTS.FOREIGN_FRAME p)) ∧
      (t.rd (F.SVY_P_LAST_FOREIGN.VC p), t.rd (F.SVY_P_LAST_FOREIGN.DT p)) = (vc.toNat, dt.toNat) ∧
      t = { s with regs := t.regs } ∧
      regsApart [(F.SVY_P_ERR.FOREIGN p).off, (F.SVY_P_COUNTS.FOREIGN_PKT p).off, (F.SVY_P_LAST_FOREIGN.VC p).off] s t)) ∧
  (∀ (s : State) (p : Fin 2),
    runsTo (.svyEmbeddedPacket p) s (fun t =>
      t = s)) ∧
  (∀ (s : State) (p : Fin 2),
    s.svyOn p = true →
    s.svy.length = 2 →
    runsTo (.svyDphyError p) s (fun t =>
      t.rd (F.SVY_P_ERR.DPHY p) = 1 ∧
      t.pipe p = { s.pipe p with frame := (s.pipe p).frame.map (fun f => { f with bad := true }) } ∧
      t.pipe (1 - p.val) = s.pipe (1 - p.val) ∧
      t = { s with regs := t.regs, svy := t.svy } ∧
      regsApart [(F.SVY_P_ERR.DPHY p).off] s t)) ∧
  (∀ (s : State) (p : Fin 2),
    s.svyOn p = true →
    s.svy.length = 2 →
    (s.bucket 12 p.val).2 = false →
    runsTo (.svyHeaderEccError p) s (fun t =>
      t.rd (F.SVY_P_ERR.HEADER p) = 1 ∧
      t.pipe p = { s.pipe p with frame := (s.pipe p).frame.map (fun f => { f with bad := true }) } ∧
      t.pipe (1 - p.val) = s.pipe (1 - p.val) ∧
      t = { s with regs := t.regs, svy := t.svy, saf := { s.saf with buckets := t.saf.buckets } } ∧
      regsApart [(F.SVY_P_ERR.HEADER p).off] s t))

/-- SVY_SET_SUBMIT, SVY_LIST_START, SVY_FRAME_TIMEOUT, I2C_WRITE_DONE, I2C_STRETCH_TIMEOUT, SVY_LIST_COMPLETE. A good
descriptor with the next number and room in the queue is accepted: ACCEPTED and QUEUED show it; a full queue refuses
with cause 1 and a broken format with cause 3. When a list is due the set at the head of the queue starts with its
phase 0. Its first write goes onto the bus, behind nine clocks and a STOP where the master owes them or SDA is low.
An acknowledged write leaves the rest of the list; one without acknowledgement fails the list with cause 4, a
stretch timeout with cause 5: the set ends. A list whose writes have all gone completes: its tag waits for its SOFs,
or is in force when they have passed, and the next phase follows; LIST_LATE tells that a SOF followed its start. No
memory changes. Log entries: 140, 141, 179 (a failed list ends as one that completes). (Rests on: spec/09_survey.md,
Settings sets; spec/09_survey.md, Sensor control.) -/
def Obligations.SettingsSetsAreSentToTheSensor : Prop :=
  (∀ (s : State) (m : Master) (p : Fin 2) (v : BitVec 32) (d : List Byte),
    s.serves m (F.SVY_P_SET_SUBMIT.ADDR p).off = true →
    s.svy.length = 2 →
    d = memRead s.sram (v.toNat / 128 % 2 ^ 15 * 128) 128 →
    (s.pipe p).queue.length < 4 →
    ((s.pipe p).accepted = true → fieldAt d 0 2 = (s.rd (F.SVY_P_SET_STATUS.ACCEPTED p) + 1) % 65536) →
    setBad d = false →
    runsTo (.svySetSubmit m p v) s (fun t =>
      t.pipe p = { s.pipe p with queue := (s.pipe p).queue ++ [setOf d], accepted := true } ∧
      t.rd (F.SVY_P_SET_STATUS.ACCEPTED p) = fieldAt d 0 2 ∧
      t.rd (F.SVY_P_SET_STATUS.QUEUED p) = (s.pipe p).queue.length + 1 ∧
      t.pipe (1 - p.val) = s.pipe (1 - p.val) ∧
      t = { s with regs := t.regs, svy := t.svy } ∧
      regsApart [(F.SVY_P_SET_STATUS.ACCEPTED p).off] s t)) ∧
  (∀ (s : State) (m : Master) (p : Fin 2) (v : BitVec 32) (d : List Byte),
    s.serves m (F.SVY_P_SET_SUBMIT.ADDR p).off = true →
    d = memRead s.sram (v.toNat / 128 % 2 ^ 15 * 128) 128 →
    (4 ≤ (s.pipe p).queue.length ∨ ((s.pipe p).accepted = true ∧ fieldAt d 0 2 ≠ (s.rd (F.SVY_P_SET_STATUS.ACCEPTED p) + 1) % 65536) ∨ setBad d = true) →
    runsTo (.svySetSubmit m p v) s (fun t =>
      t.rd (F.SVY_P_SET_STATUS.CAUSE p) = (if 4 ≤ (s.pipe p).queue.length then 1 else if (s.pipe p).accepted = true ∧ fieldAt d 0 2 ≠ (s.rd (F.SVY_P_SET_STATUS.ACCEPTED p) + 1) % 65536 then 2 else 3) ∧
      t.rd (F.SVY_P_ERR.SET_REFUSED p) = 1 ∧
      t = { s with regs := t.regs } ∧
      regsApart [(F.SVY_P_SET_STATUS.CAUSE p).off, (F.SVY_P_ERR.SET_REFUSED p).off] s t)) ∧
  (∀ (s : State) (p : Fin 2) (low : Bool) (x : SvyPipe) (q : SvySet) (rest : List SvySet) (w : Nat × Nat) (ws : List (Nat × Nat)),
    s.svyOn p = true →
    s.svy.length = 2 →
    s.pipe p = x →
    x.ready = true →
    x.send = none →
    x.queue = q :: rest →
    (x.cur = none ∨ x.phase = 0) →
    q.lists.getD 0 [] = w :: ws →
    runsTo (.svyListStart ⟨p, low⟩) s (fun t =>
      t.pipe p = { x with cur := some q, phase := 0, queue := rest, send := some ⟨⟨q.number, 0, q.phases⟩, w :: ws, 0, false⟩, ready := false, bus := (if x.owes || low then [.recover] else []) ++ [.write (s.bit (F.SVY_P_I2C.FAST p)) (s.i2cBytes p w)], owes := false } ∧
      t.rd (F.SVY_P_SET_STATUS.SENDING p) = q.number % 65536 ∧
      t.rd (F.SVY_P_SET_STATUS.QUEUED p) = rest.length % 8 ∧
      t.pipe (1 - p.val) = s.pipe (1 - p.val) ∧
      t = { s with regs := t.regs, svy := t.svy } ∧
      regsApart [(F.SVY_P_SET_STATUS.SENDING p).off] s t)) ∧
  (∀ (s : State) (p : Fin 2) (low : Bool) (x : SvyPipe) (q : SvySet) (rest : List SvySet) (w : Nat × Nat) (ws : List (Nat × Nat)),
    s.svyOn p = true →
    s.svy.length = 2 →
    s.pipe p = x →
    x.ready = true →
    x.send = none →
    x.cur = some q →
    x.queue = rest →
    (x.queue = [] ∨ x.phase ≠ 0) →
    q.lists.getD x.phase [] = w :: ws →
    runsTo (.svyListStart ⟨p, low⟩) s (fun t =>
      t.pipe p = { x with send := some ⟨⟨q.number, x.phase, q.phases⟩, w :: ws, 0, false⟩, ready := false, bus := (if x.owes || low then [.recover] else []) ++ [.write (s.bit (F.SVY_P_I2C.FAST p)) (s.i2cBytes p w)], owes := false } ∧
      t.rd (F.SVY_P_SET_STATUS.SENDING p) = q.number % 65536 ∧
      t.rd (F.SVY_P_SET_STATUS.QUEUED p) = rest.length % 8 ∧
      t.pipe (1 - p.val) = s.pipe (1 - p.val) ∧
      t = { s with regs := t.regs, svy := t.svy } ∧
      regsApart [(F.SVY_P_SET_STATUS.SENDING p).off] s t)) ∧
  (∀ (s : State) (p : Fin 2) (low : Bool) (x : SvyPipe) (q : SvySet) (rest : List SvySet) (w : Nat × Nat) (ws : List (Nat × Nat)),
    s.svyOn p = true →
    s.svy.length = 2 →
    s.pipe p = x →
    x.send = none →
    x.queue = q :: rest →
    (x.cur = none ∨ x.phase = 0) →
    q.lists.getD 0 [] = w :: ws →
    runsTo (.svyFrameTimeout ⟨p, low⟩) s (fun t =>
      t.pipe p = { x with cur := some q, phase := 0, queue := rest, send := some ⟨⟨q.number, 0, q.phases⟩, w :: ws, 0, false⟩, ready := false, bus := (if x.owes || low then [.recover] else []) ++ [.write (s.bit (F.SVY_P_I2C.FAST p)) (s.i2cBytes p w)], owes := false } ∧
      t.rd (F.SVY_P_STATUS.STREAMING p) = 0 ∧
      t.rd (F.SVY_P_SET_STATUS.SENDING p) = q.number % 65536 ∧
      t.pipe (1 - p.val) = s.pipe (1 - p.val) ∧
      t = { s with regs := t.regs, svy := t.svy } ∧
      regsApart [(F.SVY_P_STATUS.STREAMING p).off, (F.SVY_P_SET_STATUS.SENDING p).off] s t)) ∧
  (∀ (s : State) (p : Fin 2) (low : Bool) (e : SvySend) (w : Nat × Nat) (ws : List (Nat × Nat)),
    s.svy.length = 2 →
    (s.pipe p).send = some e →
    e.left = w :: ws →
    e.cut = false →
    runsTo (.i2cWriteDone p ⟨true, low⟩) s (fun t =>
      (t.pipe p).send = some { e with left := ws } ∧
      (t.pipe p).bus = (match ws with | [] => [] | v :: _ => (if (s.pipe p).owes || low then [.recover] else []) ++ [.write (s.bit (F.SVY_P_I2C.FAST p)) (s.i2cBytes p v)]) ∧
      t.pipe p = { s.pipe p with send := (t.pipe p).send, bus := (t.pipe p).bus, owes := (s.pipe p).owes && ws.isEmpty } ∧
      t.pipe (1 - p.val) = s.pipe (1 - p.val) ∧
      t = { s with svy := t.svy })) ∧
  (∀ (s : State) (p : Fin 2) (low : Bool) (e : SvySend),
    s.svy.length = 2 →
    (s.pipe p).send = some e →
    e.left ≠ [] →
    e.cut = true →
    runsTo (.i2cWriteDone p ⟨true, low⟩) s (fun t =>
      t.pipe p = { s.pipe p with send := none, bus := [] } ∧
      t.pipe (1 - p.val) = s.pipe (1 - p.val) ∧
      t = { s with svy := t.svy })) ∧
  (∀ (s : State) (p : Fin 2) (low : Bool) (e : SvySend),
    s.svyOn p = true →
    s.svy.length = 2 →
    (s.pipe p).send = some e →
    e.left ≠ [] →
    s.ddrErr = [] →
    runsTo (.i2cWriteDone p ⟨false, low⟩) s (fun t =>
      t.rd (F.SVY_P_SET_STATUS.CAUSE p) = 4 ∧
      t.rd (F.SVY_P_ERR.I2C p) = 1 ∧
      ((t.pipe p).send, (t.pipe p).cur, (t.pipe p).phase, (t.pipe p).ready, (t.pipe p).queue) = (none, none, 0, false, (s.pipe p).queue) ∧
      ((t.pipe p).bus, (t.pipe p).owes) = ([], true) ∧
      (t.pipe p).pend.getLast?.map (fun d => (d.tag, d.at_, d.late, d.failed, d.gap)) = some (e.tag, s.nowAll, 0, true, false) ∧
      (t.pipe p).pend.dropLast = (s.pipe p).pend ∧
      t.pipe (1 - p.val) = s.pipe (1 - p.val) ∧
      sameMemories s t)) ∧
  (∀ (s : State) (p : Fin 2) (e : SvySend),
    s.svy.length = 2 →
    (s.pipe p).send = some e →
    s.ddrErr = [] →
    runsTo (.i2cStretchTimeout p) s (fun t =>
      t.rd (F.SVY_P_SET_STATUS.CAUSE p) = 5 ∧
      t.rd (F.SVY_P_ERR.I2C p) = 1 ∧
      ((t.pipe p).send, (t.pipe p).cur, (t.pipe p).phase, (t.pipe p).ready) = (none, none, 0, false) ∧
      ((t.pipe p).bus, (t.pipe p).owes) = ([], true) ∧
      (t.pipe p).pend.length = (s.pipe p).pend.length + 1 ∧
      t.pipe (1 - p.val) = s.pipe (1 - p.val) ∧
      sameMemories s t)) ∧
  (∀ (s : State) (p : Fin 2) (e : SvySend) (early : Nat),
    s.svyOn p = true →
    s.svy.length = 2 →
    (s.pipe p).send = some e →
    e.left = [] →
    ((s.pipe p).recs, (s.pipe p).group) = ([], []) →
    early = ((s.pipe p).sofs.filter (fun t => s.nowAll < t.1 + s.svyGuard p)).length →
    runsTo (.svyListComplete p) s (fun t =>
      ((t.pipe p).send, (t.pipe p).ready, (t.pipe p).phase, (t.pipe p).cur) = (none, false, (e.tag.phase + 1) % max 1 e.tag.phases, (s.pipe p).cur) ∧
      (t.pipe p).pend = (s.pipe p).pend ++ [⟨e.tag, s.nowAll, early, 0, false, false⟩] ∧
      (t.pipe p).tag = (if early < s.svyLat p then (s.pipe p).tag else some e.tag) ∧
      (t.pipe p).frame = (if early < s.svyLat p then (s.pipe p).frame else (s.pipe p).frame.map (fun f => { f with tag := some e.tag, uncertain := true })) ∧
      t.bit (F.SVY_P_ERR.LIST_LATE p) = (s.bit (F.SVY_P_ERR.LIST_LATE p) || decide (0 < e.sofs)) ∧
      t.pipe (1 - p.val) = s.pipe (1 - p.val) ∧
      t = { s with regs := t.regs, svy := t.svy } ∧
      regsApart [(F.SVY_P_ERR.LIST_LATE p).off, (F.SVY_P_SET_STATUS.UNCERTAIN p).off, (F.SVY_P_STATUS.SET p).off] s t))

/-- SVY_RECORD_WRITTEN, SVY_CONFIG_WRITE, SVY_DEFECT_SWAP, SVY_ACK_WRITE, SVY_ENABLE, SVY_DISABLE, SVY_DRAIN_COMPLETE.
The oldest record's bytes stand in the slot of REC_NEXT, REC_NEXT advances and source 13 + p is pending when IRQ_EN
is set; no other byte of DDR5 changes. A write of PROC, RATIO or ZONE in range is staged with its reserved bits
zero, another sets CONFIG and changes no setting. A swap is pending with its COUNT. A write that brings FRAME
acknowledges by both indices, each from what is acknowledged to the next or else ACK_INVALID, and drops the source
where nothing is left (log entry 18); one of REC alone is staged (R400). ENABLE starts an idle pipeline with LAT
uncertain frames and is held while DISABLING; a disable discards the queue, the frame and the group and leaves the
list its write in progress; a drain ends in IDLE or starts it. Accesses pass the controllers within the command (log
entry 133); the phases begin at 0 (log entry 141). (Rests on: spec/09_survey.md, Records and frames;
spec/09_survey.md, Pixel processing.) -/
def Obligations.SurveyRecordsSettingsAndEnable : Prop :=
  (∀ (s : State) (p : Fin 2) (r : SvyRec) (rest : List SvyRec) (a : Nat),
    s.svy.length = 2 →
    (s.pipe p).recs = r :: rest →
    a = (s.rd (F.SVY_P_REC_RING.BASE p) + s.rd (F.SVY_P_POS.REC_NEXT p) % 2 ^ s.rd (F.SVY_P_REC_RING.LOG2 p)) * 2 ^ 20 →
    s.ddrErr = [] →
    s.mem.remaps = [] →
    s.ddrPoisoned a r.bytes.length = false →
    runsTo (.svyRecordWritten p) s (fun t =>
      memRead t.ddr a r.bytes.length = r.bytes ∧
      (∀ x, x < a ∨ a + r.bytes.length ≤ x → smGet byteDefault t.ddr x = smGet byteDefault s.ddr x) ∧
      t.pipe p = { s.pipe p with recs := rest } ∧
      t.pipe (1 - p.val) = s.pipe (1 - p.val) ∧
      t.rd (F.SVY_P_POS.REC_NEXT p) = (s.rd (F.SVY_P_POS.REC_NEXT p) + 1) % 2 ^ 32 ∧
      (s.bit (F.SVY_P_CTL.IRQ_EN p) = true → t.rd (F.DOC_ROUTE.PENDING (13 + p.val)) = 1) ∧
      t = { s.unitParts t with ddr := t.ddr, svy := t.svy } ∧
      unitApart [(F.SVY_P_POS.REC_NEXT p).off, (F.DOC_ROUTE.PENDING (13 + p.val)).off] s t)) ∧
  (∀ (s : State) (m : Master) (p : Fin 2) (which : Fin 3) (w : BusWidth) (upper : Bool) (v : BitVec 64) (off : Nat) (new : Word),
    off = 0x1A0020 + 0x8000 * p.val + 8 * which.val →
    s.serves m off = true →
    new = (if which.val = 1 then v else halfJoin (s.reg off) w upper v) →
    runsTo (.svyConfigWrite m p which w upper v) s (fun t =>
      t.reg off = (if s.svyConfigOk p which new then new &&& (if which.val = 0 then 0x0000FFFF000FFFFF#64 else if which.val = 1 then 0x00000000FFFFFFFF#64 else 0xFFFFFF7F7FFFFFFF#64) else s.reg off) ∧
      t.bit (F.SVY_P_ERR.CONFIG p) = (s.bit (F.SVY_P_ERR.CONFIG p) || !s.svyConfigOk p which new) ∧
      t = { s with regs := t.regs } ∧
      regsApart [off, (F.SVY_P_ERR.CONFIG p).off] s t)) ∧
  (∀ (s : State) (m : Master) (p : Fin 2) (count : BitVec 13),
    s.serves m (F.SVY_P_DEFECT_CTL.SWAP p).off = true →
    runsTo (.svyDefectSwap m p count) s (fun t =>
      t.rd (F.SVY_P_DEFECT_CTL.COUNT p) = min count.toNat 4096 ∧
      t.rd (F.SVY_P_DEFECT_CTL.SWAP_PENDING p) = 1 ∧
      t = { s with regs := t.regs } ∧
      regsApart [(F.SVY_P_DEFECT_CTL.COUNT p).off] s t)) ∧
  (∀ (s : State) (m : Master) (p : Fin 2) (w : BusWidth) (upper : Bool) (v new : Word) (a b : Nat) (okA okB : Bool),
    s.serves m (F.SVY_P_ACK.REC p).off = true →
    (w = .w64 ∨ upper = true) →
    new = (if w = .w64 then v else BitVec.ofNat 64 ((s.halfReg (F.SVY_P_ACK.REC p).off).toNat % 2 ^ 32 + 2 ^ 32 * (v.toNat % 2 ^ 32))) →
    (a = s.rd (F.SVY_P_ACK.REC p) ∧ b = s.rd (F.SVY_P_ACK.FRAME p)) →
    okA = decide ((new.toNat % 2 ^ 32 + 2 ^ 32 - a) % 2 ^ 32 ≤ (s.rd (F.SVY_P_POS.REC_NEXT p) + 2 ^ 32 - a) % 2 ^ 32) →
    okB = decide ((new.toNat / 2 ^ 32 + 2 ^ 32 - b) % 2 ^ 32 ≤ (s.rd (F.SVY_P_POS.FRAME_NEXT p) + 2 ^ 32 - b) % 2 ^ 32) →
    runsTo (.svyAckWrite m p w upper v) s (fun t =>
      (t.rd (F.SVY_P_ACK.REC p), t.rd (F.SVY_P_ACK.FRAME p)) = (if okA then new.toNat % 2 ^ 32 else a, if okB then new.toNat / 2 ^ 32 else b) ∧
      t.bit (F.SVY_P_ERR.ACK_INVALID p) = (s.bit (F.SVY_P_ERR.ACK_INVALID p) || !okA || !okB) ∧
      t.bit (F.DOC_ROUTE.PENDING (13 + p.val)) = (s.bit (F.DOC_ROUTE.PENDING (13 + p.val)) && !(decide (t.rd (F.SVY_P_POS.REC_NEXT p) = t.rd (F.SVY_P_ACK.REC p)) && decide (t.reg (F.SVY_P_ERR.ACK_INVALID p).off = 0))) ∧
      t.reg (F.DOC_ROUTE.PENDING (13 + p.val)).off ||| 16 = s.reg (F.DOC_ROUTE.PENDING (13 + p.val)).off ||| 16 ∧
      t = { s with regs := t.regs, halves := smErase s.halves (F.SVY_P_ACK.REC p).off } ∧
      regsApart [(F.SVY_P_ACK.REC p).off, (F.SVY_P_ERR.ACK_INVALID p).off, (F.DOC_ROUTE.PENDING (13 + p.val)).off] s t)) ∧
  (∀ (s : State) (m : Master) (p : Fin 2) (w : BusWidth) (v : Word),
    s.serves m (F.SVY_P_ACK.REC p).off = true →
    w ≠ .w64 →
    runsTo (.svyAckWrite m p w false v) s (fun t =>
      t = { s with halves := smSet halfNone s.halves (F.SVY_P_ACK.REC p).off (BitVec.ofNat 64 ((s.halfReg (F.SVY_P_ACK.REC p).off).toNat / 2 ^ 32 * 2 ^ 32 + v.toNat % 2 ^ 32)).toNat })) ∧
  (∀ (s : State) (m : Master) (p : Fin 2),
    s.serves m (F.SVY_P_CTL.ENABLE p).off = true →
    s.svy.length = 2 →
    runsTo (.svyEnable m p) s (fun t =>
      t.rd (F.SVY_P_CTL.ENABLE p) = 1 ∧
      t.rd (F.SVY_P_STATUS.STATE p) = (if s.rd (F.SVY_P_STATUS.STATE p) = 0 then 1 else s.rd (F.SVY_P_STATUS.STATE p)) ∧
      t.rd (F.SVY_P_STATUS.PENDING_ENABLE p) = (if s.rd (F.SVY_P_STATUS.STATE p) = 2 then 1 else s.rd (F.SVY_P_STATUS.PENDING_ENABLE p)) ∧
      t.pipe p = (if s.rd (F.SVY_P_STATUS.STATE p) = 0 then { s.pipe p with first := s.svyLat p, sofs := [], late := [], lastNum := none, ready := false } else s.pipe p) ∧
      t.pipe (1 - p.val) = s.pipe (1 - p.val) ∧
      t = { s with regs := t.regs, svy := t.svy } ∧
      regsApart [(F.SVY_P_CTL.ENABLE p).off, (F.SVY_P_STATUS.STATE p).off] s t)) ∧
  (∀ (s : State) (m : Master) (p : Fin 2),
    s.serves m (F.SVY_P_CTL.ENABLE p).off = true →
    s.svy.length = 2 →
    s.svyOn p = true →
    runsTo (.svyDisable m p) s (fun t =>
      t.rd (F.SVY_P_CTL.ENABLE p) = 0 ∧
      t.rd (F.SVY_P_STATUS.STATE p) = 2 ∧
      t.rd (F.SVY_P_STATUS.STREAMING p) = 0 ∧
      t.rd (F.SVY_P_SET_STATUS.QUEUED p) = 0 ∧
      ((t.pipe p).queue, (t.pipe p).send, (t.pipe p).frame, (t.pipe p).group, (t.pipe p).recs) = ([], (s.pipe p).send.map SvySend.lastWrite, none, [], (s.pipe p).recs) ∧
      t.pipe (1 - p.val) = s.pipe (1 - p.val) ∧
      t = { s with regs := t.regs, svy := t.svy } ∧
      regsApart [(F.SVY_P_CTL.ENABLE p).off, (F.SVY_P_STATUS.STATE p).off, (F.SVY_P_SET_STATUS.QUEUED p).off] s t)) ∧
  (∀ (s : State) (p : Fin 2),
    s.svy.length = 2 →
    s.rd (F.SVY_P_STATUS.STATE p) = 2 →
    (s.pipe p).recs = [] →
    (s.pipe p).send = none →
    runsTo (.svyDrainComplete p) s (fun t =>
      t.rd (F.SVY_P_STATUS.STATE p) = (if s.bit (F.SVY_P_STATUS.PENDING_ENABLE p) then 1 else 0) ∧
      t.rd (F.SVY_P_STATUS.PENDING_ENABLE p) = 0 ∧
      (s.bit (F.SVY_P_STATUS.PENDING_ENABLE p) = true → (t.pipe p).first = s.svyLat p) ∧
      t.pipe (1 - p.val) = s.pipe (1 - p.val) ∧
      t = { s with regs := t.regs, svy := t.svy } ∧
      regsApart [(F.SVY_P_STATUS.STATE p).off] s t))

/-- AXM_PUSH, AXIS_COMMAND_START, AXIS_STEP, DWELL_EXPIRY, HOME_INPUT_CHANGE. A push queues the six staged words, or is
discarded and counted when the queue is full or the block does not take it. The head of the queue of an enabled idle
block is refused with the lowest cause, which stops the block, or starts: a move of the largest distance with all
its axes MOVING, or a dwell. A step interval steps the axes whose error term reaches the master's steps and no
other, and the master's last step, or the end of a dwell, ends the command: it is counted and source 15 is pending.
A HOME of KIND 0 sets POS and HOMED at once, a LIMIT_STUCK fault or not. HOME_N is shown, and its release ends a
HOME sequence at HOME_VALUE with HOMED set. Log entries: 3, 18, 37, 38, 142. (Rests on: spec/10_axes.md, Commands;
spec/10_axes.md, Step generation; spec/10_axes.md, Homing.) -/
def Obligations.AxisCommandsStartStepAndComplete : Prop :=
  (∀ (s : State) (m : Master) (stop : Bool),
    s.serves m F.AXM_PUSH.PUSH.off = true →
    runsTo (.axmPush m stop) s (fun t =>
      t.axm = (if 16 ≤ s.axm.queue.length ∨ s.rd F.AXM_STATUS.STATE = 2 ∨ s.rd F.AXM_STATUS.STATE = 3 ∨ stop = true then s.axm else { s.axm with queue := s.axm.queue ++ [(List.range 6).map (fun w => s.reg (0x1B0210 + 8 * w))] }) ∧
      t.rd F.AXM_COUNTS.DISCARDED = (if 16 ≤ s.axm.queue.length ∨ s.rd F.AXM_STATUS.STATE = 2 ∨ s.rd F.AXM_STATUS.STATE = 3 ∨ stop = true then min (s.rd F.AXM_COUNTS.DISCARDED + 1) (2 ^ 16 - 1) else s.rd F.AXM_COUNTS.DISCARDED) ∧
      (s.axm.queue.length < 16 → s.rd F.AXM_STATUS.STATE ≠ 2 → s.rd F.AXM_STATUS.STATE ≠ 3 → stop = false → t.rd F.AXM_STATUS.QUEUED = s.axm.queue.length + 1) ∧
      t = { s with regs := t.regs, axm := t.axm } ∧
      regsApart [F.AXM_COUNTS.DISCARDED.off, F.AXM_STATUS.QUEUED.off] s t)) ∧
  (∀ (s : State) (ws : List Word) (rest : List (List Word)),
    s.axm.queue = ws :: rest →
    s.axm.run = none →
    s.bit F.AXM_CTL.ENABLE = true →
    s.rd F.AXM_STATUS.STATE < 2 →
    s.axRefusal ws = 0 →
    (axField ws 0 0 4 = 1 ∨ axField ws 0 0 4 = 2) →
    (s.axDelta ws).any (fun d => d ≠ 0) = true →
    runsTo (.axisCommandStart) s (fun t =>
      t.axm.run.map (fun r => (r.op, r.mask, r.delta, r.steps, r.k)) = some (axField ws 0 0 4, axField ws 0 4 6, s.axDelta ws, ((s.axDelta ws).map Int.natAbs).foldl max 0, 0) ∧
      t.axm.queue = rest ∧
      t.rd F.AXM_STATUS.STATE = 1 ∧
      t.rd F.AXM_STATUS.TAG = axField ws 0 16 16 ∧
      (∀ a, a < 6 → t.bit (F.AXM_POS.MOVING a) = (s.bit (F.AXM_POS.MOVING a) || decide (axField ws 0 4 6 / 2 ^ a % 2 = 1))) ∧
      (∀ a, a < 6 → t.rd (F.AXM_POS.POS a) = s.rd (F.AXM_POS.POS a)) ∧
      t = { s with regs := t.regs, axm := t.axm } ∧
      regsOutside (fun b => b = 0x1B) s t)) ∧
  (∀ (s : State) (ws : List Word) (rest : List (List Word)) (c : Nat),
    s.axm.queue = ws :: rest →
    s.axm.run = none →
    s.bit F.AXM_CTL.ENABLE = true →
    s.rd F.AXM_STATUS.STATE < 2 →
    s.axRefusal ws = c →
    c ≠ 0 →
    runsTo (.axisCommandStart) s (fun t =>
      t.axm = { s.axm with queue := [], halted := true } ∧
      t.rd F.AXM_STATUS.STATE = 2 ∧
      t.rd F.AXM_STATUS.CAUSE = c ∧
      t.rd F.AXM_STATUS.QUEUED = 0 ∧
      t.rd F.AXM_ERR.REFUSED = 1 ∧
      t.rd (F.DOC_ROUTE.PENDING 15) = 1 ∧
      t = { s with regs := t.regs, axm := t.axm } ∧
      regsApart [F.AXM_STATUS.STATE.off, F.AXM_ERR.REFUSED.off, (F.DOC_ROUTE.PENDING 15).off] s t)) ∧
  (∀ (s : State) (ws : List Word) (rest : List (List Word)),
    s.axm.queue = ws :: rest →
    s.axm.run = none →
    s.bit F.AXM_CTL.ENABLE = true →
    s.rd F.AXM_STATUS.STATE < 2 →
    s.axRefusal ws = 0 →
    axField ws 0 0 4 = 4 →
    runsTo (.axisCommandStart) s (fun t =>
      t.axm.run.map (fun r => (r.op, r.mask, r.count)) = some (4, 0, axField ws 0 32 32) ∧
      t.rd F.AXM_STATUS.STATE = 1 ∧
      t.rd F.AXM_STATUS.QUEUED = rest.length % 32 ∧
      t = { s with regs := t.regs, axm := t.axm } ∧
      regsApart [F.AXM_STATUS.STATE.off] s t)) ∧
  (∀ (s : State) (ws : List Word) (rest : List (List Word)) (a : Nat),
    s.axm.queue = ws :: rest →
    s.axm.run = none →
    s.bit F.AXM_CTL.ENABLE = true →
    s.rd F.AXM_STATUS.STATE < 2 →
    s.axRefusal ws = 0 →
    (axField ws 0 0 4, axField ws 0 10 4) = (3, 0) →
    maskAxes (axField ws 0 4 6) = [a] →
    runsTo (.axisCommandStart) s (fun t =>
      t.rd (F.AXM_POS.POS a) = s.rd (F.AXM_HOMEPOS.HOME_VALUE a) ∧
      t.rd (F.AXM_POS.HOMED a) = 1 ∧
      t.axm = { s.axm with queue := rest } ∧
      t.rd F.AXM_STATUS.STATE = 0 ∧
      t.rd F.AXM_COUNTS.COMMANDS = min (s.rd F.AXM_COUNTS.COMMANDS + 1) (2 ^ 16 - 1) ∧
      t.rd (F.DOC_ROUTE.PENDING 15) = 1 ∧
      t = { s with regs := t.regs, axm := t.axm } ∧
      regsApart [(F.AXM_POS.POS a).off, F.AXM_STATUS.STATE.off, F.AXM_COUNTS.COMMANDS.off, (F.DOC_ROUTE.PENDING 15).off] s t)) ∧
  (∀ (s : State) (r : AxRun) (stepping : Nat → Bool),
    s.axm.run = some r →
    (r.op = 1 ∨ r.op = 2) →
    s.axm.away = [0, 0, 0, 0, 0, 0] →
    s.axm.pulse.length = 6 →
    (∀ a, a < 6 → s.bit (F.AXM_POS.LIMP a) = false ∧ s.bit (F.AXM_POS.LIMM a) = false) →
    (∀ a, a < 6 → stepping a = (decide (r.mask / 2 ^ a % 2 = 1) && decide (r.delta.getD a 0 ≠ 0) && decide (r.steps ≤ r.errs.getD a 0 + (r.delta.getD a 0).natAbs))) →
    runsTo (.axisStep) s (fun t =>
      (∀ a, a < 6 → t.rd (F.AXM_POS.POS a) = unsigned 32 (s.rdInt (F.AXM_POS.POS a) + (if stepping a then (if 0 < r.delta.getD a 0 then 1 else -1) else 0))) ∧
      (r.k + 1 < r.steps → t.axm.run.map (fun x => (x.op, x.mask, x.delta, x.steps, x.k)) = some (r.op, r.mask, r.delta, r.steps, r.k + 1)) ∧
      (r.k + 1 < r.steps → ∀ a, a < 6 → (t.axm.run.map AxRun.errs).map (fun e => e.getD a 0) = some (if stepping a then r.errs.getD a 0 + (r.delta.getD a 0).natAbs - r.steps else r.errs.getD a 0 + (r.delta.getD a 0).natAbs)) ∧
      (r.steps ≤ r.k + 1 → t.axm.run = none ∧ t.rd F.AXM_STATUS.STATE = 0 ∧ t.rd (F.DOC_ROUTE.PENDING 15) = 1 ∧ t.rd F.AXM_COUNTS.COMMANDS = min (s.rd F.AXM_COUNTS.COMMANDS + 1) (2 ^ 16 - 1)) ∧
      (∀ a, a < 6 → t.axm.pulse.getD a none = (if stepping a then some s.cycle else s.axm.pulse.getD a none)) ∧
      t = { s with regs := t.regs, axm := { s.axm with run := t.axm.run, pulse := t.axm.pulse } } ∧
      regsOutside (fun b => b = 0x1B || b = 0x20) s t)) ∧
  (∀ (s : State) (r : AxRun),
    s.axm.run = some r →
    r.op = 4 →
    r.mask = 0 →
    runsTo (.dwellExpiry) s (fun t =>
      t.axm = { s.axm with run := none } ∧
      t.rd F.AXM_STATUS.STATE = 0 ∧
      t.rd F.AXM_COUNTS.COMMANDS = min (s.rd F.AXM_COUNTS.COMMANDS + 1) (2 ^ 16 - 1) ∧
      t.rd (F.DOC_ROUTE.PENDING 15) = 1 ∧
      t = { s with regs := t.regs, axm := t.axm } ∧
      regsApart [F.AXM_STATUS.STATE.off, F.AXM_COUNTS.COMMANDS.off, (F.DOC_ROUTE.PENDING 15).off] s t)) ∧
  (∀ (s : State) (a : Fin 6) (active : Bool),
    s.axm.run = none →
    runsTo (.homeInputChange a active) s (fun t =>
      t.bit (F.AXM_POS.HOME a) = active ∧
      t = { s with regs := t.regs } ∧
      regsApart [(F.AXM_POS.HOME a).off] s t)) ∧
  (∀ (s : State) (a : Fin 6) (r : AxRun),
    s.axm.run = some r →
    r.op = 3 →
    r.kind = 1 →
    r.axis = a.val →
    r.phase = 3 →
    r.mask = 2 ^ a.val →
    runsTo (.homeInputChange a false) s (fun t =>
      t.rd (F.AXM_POS.POS a) = s.rd (F.AXM_HOMEPOS.HOME_VALUE a) ∧
      t.rd (F.AXM_POS.HOMED a) = 1 ∧
      t.rd (F.AXM_POS.HOME a) = 0 ∧
      t.rd (F.AXM_POS.MOVING a) = 0 ∧
      t.axm = { s.axm with run := none } ∧
      t.rd F.AXM_STATUS.STATE = 0 ∧
      t.rd (F.DOC_ROUTE.PENDING 15) = 1 ∧
      t = { s with regs := t.regs, axm := t.axm } ∧
      regsApart [(F.AXM_POS.HOME a).off, F.AXM_STATUS.STATE.off, F.AXM_COUNTS.COMMANDS.off, (F.DOC_ROUTE.PENDING 15).off] s t))

/-- LIMIT_ACTIVE, LIMIT_RELEASED, AXIS_STOP_ACTIVE, AXIS_STOP_RELEASED, STEP_MISMATCH, AXM_ENABLE, AXM_DISABLE,
AXM_DRAIN_COMPLETE, AXM_CLEAR. A limit toward which a move runs stops its axes with cause 1; with no command it is
only shown, and one that stands counts as CHATTER; its release clears it and the axis's stuck and away counts.
AXIS_STOP_N and a mismatch stop all six axes with causes 4 and 5: no command runs, the queue is empty, the block is
STOPPED, the stop is recorded and counted and source 15 is pending. ENABLE is taken, held while DISABLING, and
ignored under the Guard; a disable stops with cause 7; a drain ends in IDLE, or, where a stop has not been cleared,
in STOPPED with a held enable kept until CLEAR (log entry 180: an inference from R251). CLEAR leaves STOPPED when
nothing stands against it, else CLEAR_IGNORED. Log entries: 18, 142. (Rests on: spec/10_axes.md, Limit and stop
inputs; spec/10_axes.md, Hardware stops; spec/10_axes.md, Commands.) -/
def Obligations.AxesStopOnInputsAndAreEnabledAndCleared : Prop :=
  (∀ (s : State) (a : Fin 6) (positive : Bool) (r : AxRun),
    s.axPresent a = true →
    s.bit (if positive then F.AXM_POS.LIMP a else F.AXM_POS.LIMM a) = false →
    s.bit (if positive then F.AXM_POS.LIMM a else F.AXM_POS.LIMP a) = false →
    s.axm.run = some r →
    r.op ≠ 3 →
    s.rd F.AXM_STATUS.STATE < 3 →
    (if positive then 0 < r.delta.getD a 0 else r.delta.getD a 0 < 0) →
    runsTo (.limitActive a positive) s (fun t =>
      t.bit (if positive then F.AXM_POS.LIMP a else F.AXM_POS.LIMM a) = true ∧
      t.rd F.AXM_ERR.LIMIT_STOP = 1 ∧
      (t.axm.run, t.axm.queue) = (none, []) ∧
      t.rd F.AXM_STATUS.STATE = 2 ∧
      (t.rd F.AXM_LAST_STOP.CAUSE, t.rd F.AXM_LAST_STOP.AXIS, t.rd F.AXM_LAST_STOP.AXES) = (1, a.val, axesMask (maskAxes r.mask)) ∧
      t.rd F.AXM_COUNTS.STOPS = min (s.rd F.AXM_COUNTS.STOPS + 1) (2 ^ 16 - 1) ∧
      t.rd (F.DOC_ROUTE.PENDING 15) = 1 ∧
      t = { s with regs := t.regs, axm := t.axm } ∧
      regsOutside (fun b => b = 0x1B || b = 0x20) s t)) ∧
  (∀ (s : State) (a : Fin 6) (positive : Bool),
    s.axPresent a = true →
    s.axm.run = none →
    s.bit (if positive then F.AXM_POS.LIMM a else F.AXM_POS.LIMP a) = false →
    runsTo (.limitActive a positive) s (fun t =>
      t.bit (if positive then F.AXM_POS.LIMP a else F.AXM_POS.LIMM a) = true ∧
      t.rd F.AXM_COUNTS.CHATTER = (if s.bit (if positive then F.AXM_POS.LIMP a else F.AXM_POS.LIMM a) then min (s.rd F.AXM_COUNTS.CHATTER + 1) (2 ^ 16 - 1) else s.rd F.AXM_COUNTS.CHATTER) ∧
      t = { s with regs := t.regs } ∧
      regsApart [(F.AXM_POS.LIMP a).off, F.AXM_COUNTS.CHATTER.off] s t)) ∧
  (∀ (s : State) (a : Fin 6) (positive : Bool) (since : Nat),
    s.bit (if positive then F.AXM_POS.LIMP a else F.AXM_POS.LIMM a) = true →
    s.axm.run = none →
    runsTo (.limitReleased a positive since) s (fun t =>
      t.bit (if positive then F.AXM_POS.LIMP a else F.AXM_POS.LIMM a) = false ∧
      t.axm.away = s.axm.away.set a 0 ∧
      t.axm.both = (if s.bit (if positive then F.AXM_POS.LIMM a else F.AXM_POS.LIMP a) then s.axm.both else s.axm.both.filter (· ≠ a.val)) ∧
      t.axm.stuck = (if s.bit (if positive then F.AXM_POS.LIMM a else F.AXM_POS.LIMP a) then s.axm.stuck else s.axm.stuck.filter (· ≠ a.val)) ∧
      t = { s with regs := t.regs, axm := { s.axm with away := t.axm.away, both := t.axm.both, stuck := t.axm.stuck } } ∧
      regsApart [(F.AXM_POS.LIMP a).off] s t)) ∧
  (∀ (s : State),
    s.axm.stopIn = false →
    s.rd F.AXM_STATUS.STATE ≠ 3 →
    s.rd F.AXM_STATUS.STATE ≠ 4 →
    runsTo (.axisStopActive) s (fun t =>
      t.axm.stopIn = true ∧
      (t.axm.run, t.axm.queue) = (none, []) ∧
      t.rd F.AXM_ERR.STOP_INPUT = 1 ∧
      t.rd F.AXM_STATUS.STATE = 2 ∧
      (t.rd F.AXM_LAST_STOP.CAUSE, t.rd F.AXM_LAST_STOP.AXES) = (4, 63) ∧
      t.rd F.AXM_COUNTS.STOPS = min (s.rd F.AXM_COUNTS.STOPS + 1) (2 ^ 16 - 1) ∧
      t.rd (F.DOC_ROUTE.PENDING 15) = 1 ∧
      t = { s with regs := t.regs, axm := t.axm } ∧
      regsOutside (fun b => b = 0x1B || b = 0x20) s t)) ∧
  (∀ (s : State),
    runsTo (.axisStopReleased) s (fun t =>
      t = { s with axm := { s.axm with stopIn := false } })) ∧
  (∀ (s : State) (a : Fin 6),
    s.rd F.AXM_STATUS.STATE ≠ 3 →
    s.rd F.AXM_STATUS.STATE ≠ 4 →
    runsTo (.stepMismatch a) s (fun t =>
      t.rd F.AXM_ERR.STEP_MISMATCH = 1 ∧
      (t.axm.run, t.axm.queue, t.axm.stopIn) = (none, [], s.axm.stopIn) ∧
      t.rd F.AXM_STATUS.STATE = 2 ∧
      (t.rd F.AXM_LAST_STOP.CAUSE, t.rd F.AXM_LAST_STOP.AXIS, t.rd F.AXM_LAST_STOP.AXES) = (5, a.val, 63) ∧
      t = { s with regs := t.regs, hif := { s.hif with due := t.hif.due }, axm := t.axm, acl := t.acl, ikl := t.ikl } ∧
      regsOutside (fun b => b = 0x1B || b = 0x20 || b = 0x22) s t)) ∧
  (∀ (s : State) (m : Master),
    s.serves m F.AXM_CTL.ENABLE.off = true →
    runsTo (.axmEnable m) s (fun t =>
      t.rd F.AXM_CTL.ENABLE = (if s.rd F.AXM_STATUS.STATE = 3 ∨ s.rd F.AXM_STATUS.STATE = 4 then s.rd F.AXM_CTL.ENABLE else 1) ∧
      t.rd F.AXM_STATUS.PENDING_ENABLE = (if s.rd F.AXM_STATUS.STATE = 3 then 1 else s.rd F.AXM_STATUS.PENDING_ENABLE) ∧
      t.rd F.AXM_STATUS.STATE = s.rd F.AXM_STATUS.STATE ∧
      t = { s with regs := t.regs } ∧
      regsApart [F.AXM_CTL.ENABLE.off, F.AXM_STATUS.STATE.off] s t)) ∧
  (∀ (s : State) (m : Master),
    s.serves m F.AXM_CTL.ENABLE.off = true →
    s.rd F.AXM_STATUS.STATE < 3 →
    s.bit F.AXM_STATUS.PENDING_ENABLE = false →
    runsTo (.axmDisable m) s (fun t =>
      t.rd F.AXM_CTL.ENABLE = 0 ∧
      t.rd F.AXM_STATUS.STATE = 3 ∧
      (t.axm.run, t.axm.queue) = (none, []) ∧
      t.rd F.AXM_LAST_STOP.CAUSE = 7 ∧
      t = { s with regs := t.regs, axm := t.axm } ∧
      regsOutside (fun b => b = 0x1B || b = 0x20) s t)) ∧
  (∀ (s : State) (m : Master),
    s.serves m F.AXM_CTL.ENABLE.off = true →
    s.rd F.AXM_STATUS.STATE = 3 →
    runsTo (.axmDisable m) s (fun t =>
      t.rd F.AXM_CTL.ENABLE = 0 ∧
      t.rd F.AXM_STATUS.PENDING_ENABLE = 0 ∧
      t = { s with regs := t.regs } ∧
      regsApart [F.AXM_CTL.ENABLE.off, F.AXM_STATUS.STATE.off] s t)) ∧
  (∀ (s : State) (m : Master),
    s.serves m F.AXM_CTL.ENABLE.off = true →
    s.rd F.AXM_STATUS.STATE = 4 →
    s.bit F.AXM_STATUS.PENDING_ENABLE = false →
    runsTo (.axmDisable m) s (fun t =>
      t.rd F.AXM_CTL.ENABLE = 0 ∧
      t.axm = { s.axm with queue := [] } ∧
      (t.rd F.AXM_STATUS.STATE, t.rd F.AXM_STATUS.QUEUED) = (4, 0) ∧
      t = { s with regs := t.regs, axm := t.axm } ∧
      regsApart [F.AXM_CTL.ENABLE.off, F.AXM_STATUS.STATE.off] s t)) ∧
  (∀ (s : State),
    s.rd F.AXM_STATUS.STATE = 3 →
    runsTo (.axmDrainComplete) s (fun t =>
      t.rd F.AXM_STATUS.STATE = (if s.axm.halted then 2 else 0) ∧
      t.bit F.AXM_STATUS.PENDING_ENABLE = (s.bit F.AXM_STATUS.PENDING_ENABLE && s.axm.halted) ∧
      t.bit F.AXM_CTL.ENABLE = (s.bit F.AXM_CTL.ENABLE || (s.bit F.AXM_STATUS.PENDING_ENABLE && !s.axm.halted)) ∧
      t = { s with regs := t.regs } ∧
      regsApart [F.AXM_CTL.ENABLE.off, F.AXM_STATUS.STATE.off] s t)) ∧
  (∀ (s : State) (m : Master),
    s.serves m F.AXM_CTL.CLEAR.off = true →
    s.axm.stopIn = false →
    s.axm.both = [] →
    s.rd F.AXM_STATUS.STATE = 2 →
    runsTo (.axmClear m) s (fun t =>
      t.rd F.AXM_STATUS.STATE = 0 ∧
      t.bit F.AXM_CTL.ENABLE = (s.bit F.AXM_CTL.ENABLE || s.bit F.AXM_STATUS.PENDING_ENABLE) ∧
      t = { s with regs := t.regs, axm := { s.axm with halted := false } } ∧
      regsApart [F.AXM_CTL.ENABLE.off, F.AXM_STATUS.STATE.off] s t)) ∧
  (∀ (s : State) (m : Master),
    s.serves m F.AXM_CTL.CLEAR.off = true →
    (s.axm.stopIn = true ∨ s.axm.both ≠ [] ∨ s.rd F.AXM_STATUS.STATE = 4 ∨ (s.rd F.AXM_STATUS.STATE = 3 ∧ s.axm.halted = true)) →
    runsTo (.axmClear m) s (fun t =>
      t.rd F.AXM_ERR.CLEAR_IGNORED = 1 ∧
      t = { s with regs := t.regs } ∧
      regsApart [F.AXM_ERR.CLEAR_IGNORED.off] s t))

/-- TIM_SAMPLE_WRITE, TB1_HW_SAMPLE, TIM_SET_WRITE, SERVO_HOLDOVER_TIMEOUT, TIM_SEC_READ. A 64-bit write of TIM_SAMPLE0
with an offset below STEP_NS moves integ and ADJ as R257 computes them, within their limits, and shows LAST; one
with STEP set or an offset at or above it steps TB0 by the offset, clears integ and the lock run, counts and
acquires. One for TB1 while firmware is not its source is ignored. The hardware sample steps TB1 to TB0 in the same
way while the tracker is IDLE. TIM_SET0 replaces the seconds of TB0 alone; a set of TB2 is ignored. A locked or
acquiring servo without samples holds over and announces it. A read of TIM_TBn_SEC returns the seconds and latches
the nanoseconds for its master. Log entries: 18, 66 to 68, 138. (Rests on: spec/11_time.md, Samples and the servo;
spec/11_time.md, The three bases; spec/11_time.md, Sources of TB1 across a tool.) -/
def Obligations.TheServosFollowTheirSamples : Prop :=
  (∀ (s : State) (m : Master) (v : BitVec 64) (sampled : Bool) (o mx i : Int),
    s.serves m (F.TIM_SAMPLE.OFFSET 0).off = true →
    o = signed 48 v.toNat →
    v.toNat / 2 ^ 48 % 2 = 0 →
    (o.natAbs : Int) < (s.rd (F.TIM_SERVO.STEP_NS 0) : Int) * 2 ^ 16 →
    mx = (s.rd (F.TIM_SERVO.MAX_PPM 0) * 1000 * 2 ^ 24 : Nat) →
    i = clampInt (s.tim.integ0 + s.rd (F.TIM_SERVO.KI 0) * o) (-mx) mx →
    runsTo (.timSampleWrite m 0 .w64 ⟨v, sampled⟩) s (fun t =>
      t.tim = { s.tim with integ0 := i, run0 := if (o.natAbs : Int) < (s.rd (F.TIM_SERVO.LOCK_NS 0) : Int) * 2 ^ 16 then s.tim.run0 + 1 else 0 } ∧
      t.rdInt (F.TIM_SERVO_STATE.ADJ 0) = clampInt (rshr (s.rd (F.TIM_SERVO.KP 0) * o + i) 16) (-(mx / 2 ^ 16)) (mx / 2 ^ 16) ∧
      t.rdInt (F.TIM_SERVO_STATE.LAST 0) = clampInt (o / 2 ^ 16) (-(2 ^ 31 - 1)) (2 ^ 31 - 1) ∧
      (s.rd F.TIM_STATUS.TB0_STATE = 1 → t.rd F.TIM_STATUS.TB0_STATE = if 8 ≤ t.tim.run0 then 2 else 1) ∧
      (t.tb0, t.tb1, t.tb2) = (s.tb0, s.tb1, s.tb2) ∧
      t = { s with regs := t.regs, hif := { s.hif with due := t.hif.due }, tim := t.tim } ∧
      regsOutside (fun b => b = 0x1C || b = 0x20) s t)) ∧
  (∀ (s : State) (m : Master) (v : BitVec 64) (sampled : Bool) (o : Int),
    s.serves m (F.TIM_SAMPLE.OFFSET 0).off = true →
    o = signed 48 v.toNat →
    (v.toNat / 2 ^ 48 % 2 = 1 ∨ (s.rd (F.TIM_SERVO.STEP_NS 0) : Int) * 2 ^ 16 ≤ o.natAbs) →
    runsTo (.timSampleWrite m 0 .w64 ⟨v, sampled⟩) s (fun t =>
      t.tb0 = s.tb0.step o ∧
      t.tim = { s.tim with integ0 := 0, run0 := 0 } ∧
      t.rd F.TIM_COUNTS.STEPS = min (s.rd F.TIM_COUNTS.STEPS + 1) (2 ^ 16 - 1) ∧
      t.bit F.TIM_ERR.SAMPLE_DISCARDED = (s.bit F.TIM_ERR.SAMPLE_DISCARDED || (sampled && s.onTb0)) ∧
      t.rd F.TIM_STATUS.TB0_STATE = 1 ∧
      t = { s with regs := t.regs, hif := { s.hif with due := t.hif.due }, tb0 := t.tb0, tim := t.tim } ∧
      regsOutside (fun b => b = 0x1C || b = 0x20) s t)) ∧
  (∀ (s : State) (m : Master) (v : BitVec 64) (sampled : Bool),
    s.serves m (F.TIM_SAMPLE.OFFSET 1).off = true →
    s.rd F.TIM_CFG.TB1_SOURCE ≠ 2 →
    runsTo (.timSampleWrite m 1 .w64 ⟨v, sampled⟩) s (fun t =>
      t.rd F.TIM_ERR.SAMPLE_IGNORED = 1 ∧
      t = { s with regs := t.regs } ∧
      regsApart [(F.TIM_SAMPLE.OFFSET 1).off, F.TIM_ERR.SAMPLE_IGNORED.off] s t)) ∧
  (∀ (s : State) (o : Int),
    s.onTb0 = true →
    s.rd F.SLT_STATUS.STATE = 0 →
    o = ((s.tb0.total : Int) - s.tb1.total) / 2 ^ 32 →
    (s.rd (F.TIM_SERVO.STEP_NS 1) : Int) * 2 ^ 16 ≤ o.natAbs →
    runsTo (.tb1HwSample) s (fun t =>
      t.tb1 = s.tb1.step o ∧
      t.tim = { s.tim with integ1 := 0, run1 := 0 } ∧
      t.rd F.TIM_STATUS.TB1_STATE = 1 ∧
      t.rd F.TIM_STATUS.TB1_STEP_PENDING = 0 ∧
      t = { s with regs := t.regs, hif := { s.hif with due := t.hif.due }, tb1 := t.tb1, tim := t.tim } ∧
      regsOutside (fun b => b = 0x1C || b = 0x20) s t)) ∧
  (∀ (s : State) (m : Master) (v : BitVec 64) (sampled : Bool),
    s.serves m (F.TIM_SET.SEC 0).off = true →
    runsTo (.timSetWrite m 0 .w64 v sampled) s (fun t =>
      t.tb0 = { s.tb0 with sec := v.toNat % 2 ^ 48 } ∧
      t.tim = { s.tim with integ0 := 0, run0 := 0 } ∧
      t.rd F.TIM_COUNTS.STEPS = min (s.rd F.TIM_COUNTS.STEPS + 1) (2 ^ 16 - 1) ∧
      t.bit F.TIM_ERR.SAMPLE_DISCARDED = (s.bit F.TIM_ERR.SAMPLE_DISCARDED || (sampled && s.onTb0)) ∧
      t.rd F.TIM_STATUS.TB0_STATE = 1 ∧
      t = { s with regs := t.regs, hif := { s.hif with due := t.hif.due }, tb0 := t.tb0, tim := t.tim } ∧
      regsOutside (fun b => b = 0x1C || b = 0x20) s t)) ∧
  (∀ (s : State) (m : Master) (v : BitVec 64) (sampled : Bool),
    s.serves m (F.TIM_SET.SEC 2).off = true →
    runsTo (.timSetWrite m 2 .w64 v sampled) s (fun t =>
      t.rd F.TIM_ERR.SAMPLE_IGNORED = 1 ∧
      t = { s with regs := t.regs } ∧
      regsApart [(F.TIM_SET.SEC 2).off, F.TIM_ERR.SAMPLE_IGNORED.off] s t)) ∧
  (∀ (s : State) (b : Fin 2),
    (s.rd (servoField b) = 1 ∨ s.rd (servoField b) = 2) →
    runsTo (.servoHoldoverTimeout b) s (fun t =>
      t.rd (servoField b) = 3 ∧
      t.rd (if b = 0 then F.TIM_ERR.HOLDOVER0 else F.TIM_ERR.HOLDOVER1) = 1 ∧
      t.rd (F.DOC_ROUTE.PENDING 18) = 1 ∧
      t.hif.due.getLsbD 7 = true ∧
      t = { s with regs := t.regs, hif := { s.hif with due := t.hif.due } } ∧
      regsApart [F.TIM_STATUS.TB0_STATE.off, F.TIM_ERR.HOLDOVER0.off, (F.DOC_ROUTE.PENDING 18).off] s t)) ∧
  (∀ (s : State) (m : Master) (n : Fin 3),
    s.silent m = false →
    s.readable m (F.TIM_TB_SEC.SEC n).off = true →
    runsTo (.timSecRead m n .w64 false) s (fun t =>
      t.readData = BitVec.ofNat 64 (s.timeBase n).sec ∧
      smGet (fun _ => 0#64) t.tim.latch (3 * latchPlace m + n.val) = (s.timeBase n).nsWord ∧
      t = { s with regs := t.regs, readData := t.readData, tim := { s.tim with latch := t.tim.latch } } ∧
      regsApart [] s t))

/-- ETH_FRAME_RECEIVED, ETH_TX_WRITE, ETH_FRAME_SENT, TXTS_HI_READ, ETH_BLOCK_LOCK_CHANGE. An enabled port's good frame
to an accepted destination is written to the next slot of its ring behind its length, event flag and TB0 stamp less
the latency; TAIL advances and source 16 + p is pending; a full ring drops and counts it. A write of TIM_ETHp_TX
with a length of 14 to 1518 and room queues the frame, any other is dropped and counted. The head frame is sent
padded to 60 bytes with its FCS, and one with TS_REQ leaves its stamp, announced, when fewer than 16 wait or a read
frees an entry in the same cycle. A 64-bit read of TIM_TXTS_HI returns the head stamp's seconds and removes it.
Block lock is shown. Log entries: 69 to 71, 138, 144, 145. (Rests on: spec/11_time.md, Ethernet ports and PTP.) -/
def Obligations.EthernetFramesAreStampedAndQueued : Prop :=
  (∀ (s : State) (p : Fin 2) (frame : List Byte) (ui a tail : Nat) (step : Int) (st : TimeBase),
    s.rd F.TIM_CFG.PORT_EN / 2 ^ p.val % 2 = 1 →
    frame.length ≤ 1518 →
    twoTags frame = false →
    s.ethAccepts p frame = true →
    tail = s.rd (F.TIM_ETH_RX.TAIL p) →
    (tail + 1) % 64 ≠ s.rd (F.TIM_ETH_RX.HEAD p) →
    a = s.rd (F.TIM_ETH_CFG.RING p) * 131072 + tail * 2048 →
    st = s.ethStamp ui (-((if p = 0 then s.rd F.TIM_LATENCY.RX0 else s.rd F.TIM_LATENCY.RX1) : Int)) step →
    runsTo (.ethFrameReceived p frame true ⟨ui, step⟩) s (fun t =>
      memRead t.sram a (16 + frame.length) = leBytes 2 frame.length ++ leBytes 1 (if s.isEvent frame then 1 else 0) ++ leBytes 1 0 ++ leBytes 6 st.sec ++ leBytes 4 st.ns ++ leBytes 2 (st.frac / 2 ^ 32) ++ frame ∧
      (∀ x, x < a ∨ a + (16 + frame.length) ≤ x → smGet byteDefault t.sram x = smGet byteDefault s.sram x) ∧
      t.sramPoisoned a (16 + frame.length) = false ∧
      t.rd (F.TIM_ETH_RX.TAIL p) = (tail + 1) % 64 ∧
      t.rd (F.DOC_ROUTE.PENDING (16 + p.val)) = 1 ∧
      t.sramErr = s.sramErr.filter (fun e => !(a ≤ 8 * e.1 && 8 * e.1 + 8 ≤ a + (16 + frame.length))) ∧
      t = { s with regs := t.regs, sram := t.sram, sramPoison := t.sramPoison, sramErr := t.sramErr } ∧
      regsApart [(F.TIM_ETH_RX.TAIL p).off, (F.DOC_ROUTE.PENDING (16 + p.val)).off] s t)) ∧
  (∀ (s : State) (p : Fin 2) (frame : List Byte) (ui : Nat) (step : Int),
    s.rd F.TIM_CFG.PORT_EN / 2 ^ p.val % 2 = 1 →
    frame.length ≤ 1518 →
    twoTags frame = false →
    s.ethAccepts p frame = true →
    (s.rd (F.TIM_ETH_RX.TAIL p) + 1) % 64 = s.rd (F.TIM_ETH_RX.HEAD p) →
    runsTo (.ethFrameReceived p frame true ⟨ui, step⟩) s (fun t =>
      t.rd F.TIM_ERR.RX_DROP = 1 ∧
      t.rd F.TIM_COUNTS.RX_DROP = min (s.rd F.TIM_COUNTS.RX_DROP + 1) (2 ^ 16 - 1) ∧
      t = { s with regs := t.regs } ∧
      regsApart [F.TIM_ERR.RX_DROP.off, F.TIM_COUNTS.RX_DROP.off] s t)) ∧
  (∀ (s : State) (m : Master) (p : Fin 2) (v : BitVec 64) (n : Nat),
    s.serves m (F.TIM_ETH_TX.ADDR p).off = true →
    n = v.toNat / 2 ^ 22 % 2 ^ 11 →
    runsTo (.ethTxWrite m p .w64 v) s (fun t =>
      t.txQueue p = (if 14 ≤ n ∧ n ≤ 1518 ∧ (s.txQueue p).length < 8 then s.txQueue p ++ [⟨v.toNat % 2 ^ 22, n, decide (v.toNat / 2 ^ 33 % 2 = 1), v.toNat / 2 ^ 48⟩] else s.txQueue p) ∧
      t.txQueue (1 - p.val) = s.txQueue (1 - p.val) ∧
      t.rd F.TIM_COUNTS.TX_DROP = (if 14 ≤ n ∧ n ≤ 1518 ∧ (s.txQueue p).length < 8 then s.rd F.TIM_COUNTS.TX_DROP else min (s.rd F.TIM_COUNTS.TX_DROP + 1) (2 ^ 16 - 1)) ∧
      t = { s with regs := t.regs, tim := t.tim } ∧
      regsApart [(F.TIM_ETH_TX.ADDR p).off, F.TIM_ERR.TX_DROP.off, F.TIM_COUNTS.TX_DROP.off] s t)) ∧
  (∀ (s : State) (p : Fin 2) (ui : Nat) (step : Int) (freed : Bool) (f : TxFrame) (rest : List TxFrame) (b : List Byte) (st : TimeBase),
    s.txQueue p = f :: rest →
    s.tim.stamps.length < 16 + (if freed then 1 else 0) →
    b = memRead s.sram f.addr f.len ++ List.replicate (60 - f.len) 0#8 →
    st = s.ethStamp ui (if p = 0 then s.rd F.TIM_LATENCY.TX0 else s.rd F.TIM_LATENCY.TX1) step →
    runsTo (.ethFrameSent p ⟨⟨ui, step⟩, freed⟩) s (fun t =>
      t.txQueue p = rest ∧
      (if p = 0 then t.tim.out0 else t.tim.out1) = b ++ leBytes 4 (crc32e b) ∧
      t.tim.stamps = s.tim.stamps ++ (if f.stamp then [⟨st.sec, st.ns, st.frac / 2 ^ 32, p.val, f.id⟩] else []) ∧
      (f.stamp = true → t.rd F.TIM_STATUS.TXTS_COUNT = s.tim.stamps.length + 1 ∧ t.hif.due.getLsbD 7 = true) ∧
      t = { s with regs := t.regs, hif := { s.hif with due := t.hif.due }, tim := t.tim } ∧
      regsOutside (fun b => b = 0x1C || b = 0x20) s t)) ∧
  (∀ (s : State) (m : Master) (x : TxStamp) (rest : List TxStamp),
    s.silent m = false →
    s.readable m F.TIM_TXTS_HI.SEC.off = true →
    s.tim.stamps = x :: rest →
    rest.length < 32 →
    runsTo (.txtsHiRead m .w64 false) s (fun t =>
      t.readData = s.reg F.TIM_TXTS_HI.SEC.off ∧
      t.tim = { s.tim with stamps := rest } ∧
      t.rd F.TIM_STATUS.TXTS_COUNT = rest.length ∧
      t.rd F.TIM_TXTS_LO.VALID = (if rest = [] then 0 else 1) ∧
      t = { s with regs := t.regs, readData := t.readData, tim := t.tim } ∧
      regsApart [F.TIM_STATUS.TXTS_COUNT.off, F.TIM_TXTS_LO.NS.off, F.TIM_TXTS_HI.SEC.off] s t)) ∧
  (∀ (s : State) (p : Fin 2) (lock : Bool),
    runsTo (.ethBlockLockChange p lock) s (fun t =>
      t.bit (if p = 0 then F.TIM_STATUS.ETH0_LINK else F.TIM_STATUS.ETH1_LINK) = lock ∧
      t = { s with regs := t.regs } ∧
      regsApart [F.TIM_STATUS.ETH0_LINK.off] s t))

/-- TWIN_PEER_AUTH_CHANGE, BOTH_AUTH, TWIN_FAIL_IN_HIGH, ALONE_WAIT_EXPIRY, HB_LOST, HANDOVER, TWN_YIELD. The twin's
line is shown and held; while the Guard acts BLANK_ALL_N is driven exactly while it is low; once it is low an
Original that waits takes authority. With both lines high the Replica drops its own and waits. A standby on
TWIN_FAIL_IN takes authority, or holds the demand while the twin's line is high. A Replica whose ALONE_WAIT is over
takes authority. A silent twin leaves the authority alone, and gives the standby a demand. A HANDOVER is held for
its leaf; YIELD of an authority whose twin is an undiverged standby is pending. Log entries: 3, 76, 79. (Rests on:
spec/12_twin.md, Pair states; spec/12_twin.md, Roles and wiring; spec/12_twin.md, Take-over.) -/
def Obligations.AuthorityPassesBetweenTwins : Prop :=
  (∀ (s : State),
    s.saf.acting = false →
    s.twn.demand = false →
    runsTo (.twinPeerAuthChange true) s (fun t =>
      t.rd F.TWN_STATUS.PEER_AUTH = 1 ∧
      t = { s with regs := t.regs, pin := { s.pin with peerHigh := true }, twn := { s.twn with peerLow := false }, slt := { s.slt with window := max s.slt.window s.blankLow } } ∧
      regsApart [F.TWN_STATUS.AUTH.off] s t)) ∧
  (∀ (s : State) (high : Bool),
    s.saf.acting = true →
    s.twn.demand = false →
    runsTo (.twinPeerAuthChange high) s (fun t =>
      t.bit F.SAF_STATUS.BLANK_DRIVE = !high ∧
      t.bit F.TWN_STATUS.PEER_AUTH = high ∧
      (t.pin.peerHigh, t.twn.peerLow) = (high, !high) ∧
      t = { s with regs := t.regs, pin := t.pin, twn := t.twn, slt := { s.slt with window := t.slt.window } } ∧
      regsApart [F.TWN_STATUS.AUTH.off, F.SAF_STATUS.BLANK_DRIVE.off] s t)) ∧
  (∀ (s : State),
    s.pairRuns = true →
    s.hasAuth = false →
    s.bit F.TWN_CFG.MODE = true →
    s.bit F.TWN_CFG.ROLE = false →
    s.pairState = 1 →
    s.twn.demand = false →
    s.rd F.TIM_CFG.TB1_SOURCE ≠ 1 →
    runsTo (.twinPeerAuthChange false) s (fun t =>
      (t.rd F.TWN_STATUS.AUTH, t.rd F.TWN_STATUS.STATE, t.rd F.TWN_STATUS.PEER_AUTH) = (1, 2, 0) ∧
      t.twn = { s.twn with peerLow := true } ∧
      t.rd (F.DOC_ROUTE.PENDING 26) = 1 ∧
      t.hif.due.getLsbD 6 = true ∧
      regsApart [F.TWN_STATUS.AUTH.off, (F.DOC_ROUTE.PENDING 26).off] s t ∧
      t = { s with regs := t.regs, hif := { s.hif with due := t.hif.due }, pin := { s.pin with peerHigh := false }, slt := { s.slt with window := t.slt.window }, twn := t.twn })) ∧
  (∀ (s : State),
    s.hasAuth = true →
    s.bit F.TWN_STATUS.PEER_AUTH = true →
    s.bit F.TWN_CFG.MODE = true →
    s.bit F.TWN_CFG.ROLE = true →
    s.aclWaiting = false →
    runsTo (.bothAuth) s (fun t =>
      (t.rd F.TWN_STATUS.AUTH, t.rd F.TWN_STATUS.STATE, t.rd F.TWN_STATUS.YIELD_PENDING) = (0, 1, 0) ∧
      t.rd F.TWN_ERR.BOTH_AUTH = 1 ∧
      t.acl.ring.head? = some (s.aclMake 0x0601 false (leBytes 2 4 ++ leBytes 2 (s.rd F.SLT_SLOT.LEAF) ++ leBytes 4 (unsigned 32 s.slt.decided))) ∧
      t.rd (F.DOC_ROUTE.PENDING 26) = 1 ∧
      t = { s with regs := t.regs, hif := { s.hif with due := t.hif.due }, twn := { s.twn with waited := false, demand := false }, acl := t.acl, ikl := t.ikl } ∧
      regsOutside (fun b => b = 0x1D || b = 0x20 || b = 0x22) s t)) ∧
  (∀ (s : State) (high : Bool),
    (high = false ∨ s.pairState ≠ 3) →
    runsTo (.twinFailInHigh high) s (fun t =>
      t.bit F.TWN_STATUS.PEER_FAIL = high ∧
      t = { s with regs := t.regs } ∧
      regsApart [F.TWN_STATUS.PEER_FAIL.off] s t)) ∧
  (∀ (s : State),
    s.pairState = 3 →
    s.pairRuns = true →
    s.twn.peerLow = true →
    s.hasAuth = false →
    s.bit F.TWN_CFG.MODE = true →
    s.curLeaf = none →
    s.twn.ownEnd = none →
    s.rd F.TIM_CFG.TB1_SOURCE ≠ 1 →
    runsTo (.twinFailInHigh true) s (fun t =>
      (t.rd F.TWN_STATUS.AUTH, t.rd F.TWN_STATUS.STATE, t.rd F.TWN_STATUS.PEER_FAIL) = (1, 2, 1) ∧
      t.rd F.TWN_ERR.TAKEOVER = 1 ∧
      t.rd F.TWN_COUNTS.TAKEOVERS = min (s.rd F.TWN_COUNTS.TAKEOVERS + 1) 255 ∧
      t.twn = { s.twn with demand := false } ∧
      t.rd (F.DOC_ROUTE.PENDING 26) = 1 ∧
      regsOutside (fun b => b = 0x1D || b = 0x20 || b = 0x22) s t ∧
      t = { s with regs := t.regs, hif := { s.hif with due := t.hif.due }, twn := t.twn, acl := t.acl, ikl := t.ikl })) ∧
  (∀ (s : State),
    s.pairState = 3 →
    s.pairRuns = true →
    s.twn.peerLow = false →
    runsTo (.twinFailInHigh true) s (fun t =>
      t.rd F.TWN_STATUS.PEER_FAIL = 1 ∧
      t = { s with regs := t.regs, twn := { s.twn with demand := true } } ∧
      regsApart [F.TWN_STATUS.PEER_FAIL.off] s t)) ∧
  (∀ (s : State),
    s.pairRuns = true →
    s.twn.peerLow = true →
    s.hasAuth = false →
    s.bit F.TWN_CFG.MODE = true →
    s.pairState = 1 →
    s.rd F.TIM_CFG.TB1_SOURCE ≠ 1 →
    runsTo (.aloneWaitExpiry) s (fun t =>
      (t.rd F.TWN_STATUS.AUTH, t.rd F.TWN_STATUS.STATE) = (1, 2) ∧
      t = { s with regs := t.regs, hif := { s.hif with due := t.hif.due }, twn := { s.twn with waited := true } } ∧
      regsApart [F.TWN_STATUS.AUTH.off, (F.DOC_ROUTE.PENDING 26).off] s t)) ∧
  (∀ (s : State),
    s.bit F.TWN_CFG.MODE = true →
    s.twn.alive = true →
    s.pairState = 4 →
    runsTo (.hbLost) s (fun t =>
      t.rd F.TWN_STATUS.STATE = 2 ∧
      t.rd F.TWN_ERR.HB_LOST = 1 ∧
      t.rd (F.DOC_ROUTE.PENDING 26) = 1 ∧
      t.twn = { s.twn with alive := false } ∧
      t.rd F.TWN_STATUS.AUTH = s.rd F.TWN_STATUS.AUTH ∧
      regsOutside (fun b => b = 0x1D || b = 0x20 || b = 0x22) s t ∧
      t = { s with regs := t.regs, hif := { s.hif with due := t.hif.due }, twn := t.twn, acl := t.acl, ikl := t.ikl })) ∧
  (∀ (s : State),
    s.bit F.TWN_CFG.MODE = true →
    s.twn.alive = true →
    s.pairState = 3 →
    s.pairRuns = true →
    s.bit F.TWN_STATUS.PEER_AUTH = false →
    s.twn.peerLow = false →
    runsTo (.hbLost) s (fun t =>
      t.rd F.TWN_STATUS.STATE = 3 ∧
      t.rd F.TWN_ERR.HB_LOST = 1 ∧
      t.twn = { s.twn with alive := false, demand := true } ∧
      regsOutside (fun b => b = 0x1D || b = 0x20 || b = 0x22) s t ∧
      t = { s with regs := t.regs, hif := { s.hif with due := t.hif.due }, twn := t.twn, acl := t.acl, ikl := t.ikl })) ∧
  (∀ (s : State) (b : IklBlock),
    b.sync.val = 1 →
    iklGood 0x51 0 (iklPlain b) = true →
    s.pairState = 3 →
    s.twn.peerLow = false →
    runsTo (.handover b) s (fun t =>
      t = { s with twn := { s.twn with handover := some (fieldAt (iklPlain b) 2 2) } })) ∧
  (∀ (s : State) (m : Master),
    s.serves m F.TWN_CTL.YIELD.off = true →
    s.pairState = 4 →
    s.rd F.TWN_PEER_POS.STATE = 3 →
    s.twn.peerDiverged = false →
    runsTo (.twnYield m) s (fun t =>
      t.rd F.TWN_STATUS.YIELD_PENDING = 1 ∧
      t = { s with regs := t.regs } ∧
      regsApart [F.TWN_STATUS.YIELD_PENDING.off] s t))

/-- HEARTBEAT_SEND, HEARTBEAT, HELLO_SEND, IKISAL_HELLO, DIGEST, IKISAL_COMMIT, COMMIT_RESULT, TABLE_MSG, RECORD_MSG,
END_MSG, END_CONFIRM_TIMEOUT, IKISAL_HEAD_DISCARD. A heartbeat is queued on lanes 0 and 7 and a missed one counted.
A good HEARTBEAT shows the twin's position, leaf and state; one out of step ends pair operation with LOCKSTEP. A
HELLO is queued until the twins agree; a good one shows the twin and AGREED, or PAIR_FAULT. A DIGEST of a known leaf
is kept. A standby makes the twin's commit, stores its table bytes, its Lacuna record and its log record, and runs a
leaf of differing results DIVERGED. END confirms its own end, ends the running leaf at the slot it names, or removes
an armed one; without END it diverges. A bad head block is counted. Log entries: 3, 34, 43, 74 to 76, 109, 133, 134,
146, 178. (Rests on: spec/12_twin.md, The Ikisal link; spec/12_twin.md, Pairing; spec/12_twin.md, Lockstep,
heartbeats and digests; spec/12_twin.md, Mirrored state.) -/
def Obligations.TwinMessagesAreSentAndTaken : Prop :=
  (∀ (s : State),
    s.bit F.TWN_CFG.MODE = true →
    s.rd F.IKL_STATUS.STATE = 3 →
    s.twn.beat = true →
    runsTo (.heartbeatSend) s (fun t =>
      t = { s with twn := { s.twn with beat := false }, ikl := ((s.iklSend 0 0x11 s.beatBytes []).iklSend 7 0x11 s.beatBytes []).ikl })) ∧
  (∀ (s : State),
    s.bit F.TWN_CFG.MODE = true →
    s.rd F.IKL_STATUS.STATE = 3 →
    s.twn.beat = false →
    (s.bucket 15 0).2 = false →
    runsTo (.heartbeatSend) s (fun t =>
      t.rd F.TWN_COUNTS.HB_MISSED = min (s.rd F.TWN_COUNTS.HB_MISSED + 1) (2 ^ 16 - 1) ∧
      t = { s with regs := t.regs, saf := { s.saf with buckets := t.saf.buckets }, ikl := t.ikl } ∧
      regsApart [F.TWN_COUNTS.HB_MISSED.off] s t)) ∧
  (∀ (s : State) (b : IklBlock) (head : List Byte),
    b.sync.val = 1 →
    head = iklPlain b →
    iklGood 0x11 0 head = true →
    s.paired = false →
    runsTo (.heartbeat b) s (fun t =>
      (t.rd F.TWN_PEER_POS.SLOT, t.rd F.TWN_PEER_POS.LEAF, t.rd F.TWN_PEER_POS.STATE) = (fieldAt head 6 4, fieldAt head 4 2, fieldAt head 2 1 % 8) ∧
      t.twn = { s.twn with alive := true, beat := true, openFrom := fieldAt head 10 4, peerDiverged := decide (fieldAt head 3 1 / 2 % 2 = 1), peerRunning := decide (fieldAt head 3 1 / 4 % 2 = 1) } ∧
      t = { s with regs := t.regs, twn := t.twn } ∧
      regsApart [F.TWN_PEER_POS.SLOT.off] s t)) ∧
  (∀ (s : State) (b : IklBlock) (head : List Byte),
    b.sync.val = 1 →
    head = iklPlain b →
    iklGood 0x11 0 head = true →
    s.pairState = 4 →
    fieldAt head 4 2 ≠ s.position.1 →
    runsTo (.heartbeat b) s (fun t =>
      t.rd F.TWN_STATUS.STATE = 2 ∧
      t.rd F.TWN_ERR.LOCKSTEP = 1 ∧
      t.rd (F.DOC_ROUTE.PENDING 26) = 1 ∧
      regsOutside (fun b => b = 0x1D || b = 0x20 || b = 0x22) s t ∧
      t = { s with regs := t.regs, hif := { s.hif with due := t.hif.due }, twn := t.twn, acl := t.acl, ikl := t.ikl })) ∧
  (∀ (s : State),
    s.bit F.TWN_CFG.MODE = true →
    (s.bit F.TWN_PEER.AGREED = false ∨ s.ikl.hello ≠ s.helloBytes) →
    s.rd F.IKL_STATUS.STATE = 3 →
    runsTo (.helloSend) s (fun t =>
      t.ikl.hello = leBytes 1 1 ++ leBytes 1 (s.rd F.TWN_CFG.ROLE) ++ leBytes 2 (s.rd F.TIM_CFG.NODE_ID) ++ leBytes 1 (s.rd F.BLK_CFG.PORT) ++ leBytes 1 0 ++ leBytes 4 (s.rd F.BOOT_CAT.CAT_HASH) ∧
      t = { s with ikl := { (s.iklSend 0 0x10 t.ikl.hello []).ikl with hello := t.ikl.hello } })) ∧
  (∀ (s : State) (b : IklBlock) (head : List Byte),
    b.sync.val = 1 →
    head = iklPlain b →
    iklGood 0x10 0 head = true →
    s.helloAgrees head = true →
    runsTo (.ikisalHello b) s (fun t =>
      t.rd F.TWN_PEER.AGREED = 1 ∧
      (t.rd F.TWN_PEER.NODE_ID, t.rd F.TWN_PEER.ROLE, t.rd F.TWN_PEER.CAT_HASH) = (fieldAt head 4 2 % 2 ^ 14, fieldAt head 3 1 % 2, fieldAt head 8 4) ∧
      t = { s with regs := t.regs, twn := { s.twn with faulted := false, peerBanks := [], peerResult := none } } ∧
      regsApart [F.TWN_PEER.NODE_ID.off] s t)) ∧
  (∀ (s : State) (b : IklBlock) (head : List Byte),
    b.sync.val = 1 →
    head = iklPlain b →
    iklGood 0x10 0 head = true →
    s.helloAgrees head = false →
    s.paired = false →
    runsTo (.ikisalHello b) s (fun t =>
      (t.rd F.TWN_ERR.PAIR_FAULT, t.rd F.TWN_PEER.AGREED) = (1, 0) ∧
      t.twn = { s.twn with faulted := true } ∧
      t.rd (F.DOC_ROUTE.PENDING 26) = 1 ∧
      regsOutside (fun b => b = 0x1D || b = 0x20 || b = 0x22) s t ∧
      t = { s with regs := t.regs, hif := { s.hif with due := t.hif.due }, twn := t.twn, acl := t.acl, ikl := t.ikl })) ∧
  (∀ (s : State) (b : IklBlock) (head : List Byte) (d : TwinDigest),
    b.sync.val = 1 →
    head = iklPlain b →
    iklGood 0x20 0 head = true →
    d = ⟨fieldAt head 2 2, signed 32 (fieldAt head 4 4), fieldAt head 8 1, fieldAt head 9 1, fieldAt head 10 4⟩ →
    s.digestWanted d.leaf = true →
    (∀ p, p < 2 → (s.leafAt p).all (fun l => l.id ≠ d.leaf || (l.ras.tileAt d.row d.col).isNone) = true) →
    runsTo (.digest b) s (fun t =>
      t = { s with twn := { s.twn with digests := d :: s.twn.digests.filter (fun x => !(x.leaf = d.leaf && x.row = d.row && x.col = d.col)) } })) ∧
  (∀ (s : State) (b : IklBlock) (head : List Byte) (leaf : Nat),
    b.sync.val = 1 →
    head = iklPlain b →
    iklGood 0x30 0 head = true →
    leaf = fieldAt head 2 2 →
    s.hasAuth = false →
    ([0, 1] : List Nat).all (fun p => !(s.leafAt p).any (fun l => l.admitted && l.id = leaf)) = true →
    runsTo (.ikisalCommit b) s (fun t =>
      t.bct.commit = some ⟨leaf, fieldAt head 4 4, none, s.cycle⟩ ∧
      (t.rd F.BCT_STATUS.STATE, t.rd F.BCT_STATUS.CAUSE, t.rd F.BCT_STATUS.LEAF) = (1, 0, leaf) ∧
      (t.bct.bank0, t.bct.bank1) = (s.bct.bank0, s.bct.bank1) ∧
      regsOutside (fun b => b = 0x11 || b = 0x20) s t ∧
      sameMemories s t)) ∧
  (∀ (s : State) (b : IklBlock) (head : List Byte),
    b.sync.val = 1 →
    head = iklPlain b →
    iklGood 0x31 0 head = true →
    s.twn.ownResult = none →
    runsTo (.commitResult b) s (fun t =>
      t = { s with twn := { s.twn with peerResult := some (fieldAt head 2 2, fieldAt head 4 1, fieldAt head 6 4), peerBanks := (fieldAt head 2 2, fieldAt head 6 4) :: s.twn.peerBanks.filter (fun x => x.1 ≠ fieldAt head 2 2) } })) ∧
  (∀ (s : State) (b : IklBlock) (head : List Byte) (own : Nat × Nat),
    b.sync.val = 1 →
    head = iklPlain b →
    iklGood 0x31 0 head = true →
    s.twn.ownResult = some (fieldAt head 2 2, own) →
    own ≠ (fieldAt head 4 1, fieldAt head 6 4) →
    s.pairState = 3 →
    s.curLeaf = none →
    runsTo (.commitResult b) s (fun t =>
      t.rd F.TWN_ERR.COMMIT_DIFFER = 1 ∧
      (t.twn.divergeLeaf, t.twn.mirroring, t.twn.ownResult, t.twn.peerResult) = (some (fieldAt head 2 2), none, none, none) ∧
      t = { s with regs := t.regs, twn := t.twn } ∧
      regsApart [F.TWN_ERR.COMMIT_DIFFER.off] s t)) ∧
  (∀ (s : State) (b : IklBlock) (body : List Byte) (off : Nat),
    b.sync.val = 1 →
    iklGood 0x32 4 (iklPlain b) = true →
    off = fieldAt (iklPlain b) 2 4 →
    s.hasAuth = false →
    off % 64 = 0 →
    off < stageLen →
    (iklFollow b body).length = 64 →
    s.ddrErr = [] →
    s.mem.remaps = [] →
    runsTo (.tableMsg b body) s (fun t =>
      memRead t.ddr (s.stageBase + off) 64 = iklFollow b body ∧
      (∀ x, x < s.stageBase + off ∨ s.stageBase + off + 64 ≤ x → smGet byteDefault t.ddr x = smGet byteDefault s.ddr x) ∧
      s.stageBase + off ∉ t.poison ∧
      t = { s.unitParts t with ddr := t.ddr, poison := t.poison } ∧
      unitApart [] s t)) ∧
  (∀ (s : State) (b : IklBlock) (body rec : List Byte),
    b.sync.val = 1 →
    iklGood 0x40 2 (iklPlain b) = true →
    fieldAt (iklPlain b) 2 2 = 1 →
    rec = iklFollow b body →
    rec.length = 32 →
    fieldAt rec 28 4 = crc32c (rec.take 28) →
    runsTo (.recordMsg b body) s (fun t =>
      t = { s with lac := { s.lac with closed := s.lac.closed ++ [⟨fieldAt rec 0 2, fieldAt rec 2 1, fieldAt rec 3 1 ||| flagMirrored, fieldAt rec 4 4, fieldAt rec 8 4, BitVec.ofNat 64 (fieldAt rec 12 8), fieldAt rec 20 4, fieldAt rec 24 4, true⟩] } })) ∧
  (∀ (s : State) (b : IklBlock) (body rec : List Byte),
    b.sync.val = 1 →
    iklGood 0x40 2 (iklPlain b) = true →
    fieldAt (iklPlain b) 2 2 = 2 →
    rec = iklFollow b body →
    rec.length = 32 →
    fieldAt rec 28 4 = crc32c (rec.take 28) →
    s.aclWaiting = false →
    runsTo (.recordMsg b body) s (fun t =>
      t.acl.ring.head? = some ⟨fieldAt rec 0 4, fieldAt rec 4 2, fieldAt rec 6 2, fieldAt rec 8 4, fieldAt rec 12 4, (rec.drop 16).take 12⟩ ∧
      t.rd F.ACL_STATUS.NEXT = (s.rd F.ACL_STATUS.NEXT + 1) % 2 ^ 32 ∧
      t = { s with regs := t.regs, hif := { s.hif with due := t.hif.due }, acl := t.acl, ikl := t.ikl } ∧
      regsOutside (fun b => b = 0x20 || b = 0x22) s t)) ∧
  (∀ (s : State) (b : IklBlock),
    b.sync.val = 1 →
    iklGood 0x50 0 (iklPlain b) = true →
    s.hasAuth = false →
    s.twn.endWait = some (fieldAt (iklPlain b) 2 2) →
    runsTo (.endMsg b) s (fun t =>
      t = { s with twn := { s.twn with endWait := none, ownEnd := none } })) ∧
  (∀ (s : State) (b : IklBlock) (head : List Byte) (p : Nat) (l : Leaf) (h : LeafHdr) (first : Nat),
    b.sync.val = 1 →
    head = iklPlain b →
    iklGood 0x50 0 head = true →
    s.hasAuth = false →
    s.twn.endWait ≠ some l.id →
    s.curLeaf = some (p, l, h) →
    fieldAt head 2 2 = l.id →
    fieldAt head 4 4 = first →
    first ≤ hdrLast h →
    (s.rd F.SLT_STATUS.STATE = 2 ∨ s.rd F.SLT_STATUS.STATE = 3 ∨ (s.rd F.SLT_STATUS.STATE = 4 ∧ fieldAt head 9 1 ≠ 0)) →
    s.slt.lbDue = false →
    s.lac.openRel = none →
    s.aclWaiting = false →
    runsTo (.endMsg b) s (fun t =>
      (t.rd F.SLT_STATUS.STATE, t.rd F.SLT_END.LEAF, t.rd F.SLT_END.FIRST_SLOT, t.rd F.SLT_END.DETAIL) = (4, l.id, first, fieldAt head 8 1) ∧
      (t.slt.endAt, t.slt.lbDue) = (some ((first : Int) - 1), decide (fieldAt head 9 1 ≠ 0 ∨ (first : Int) - 1 < 0 ∨ (first : Int) - 1 ≤ s.slt.strobed)) ∧
      t.slt.slots = s.slt.slots.filter (fun r => r.leaf ≠ l.id || decide ((r.slot : Int) ≤ (first : Int) - 1)) ∧
      t.acl.ring.head? = some (s.aclMake 0x0502 false (leBytes 4 l.id ++ leBytes 4 first ++ leBytes 1 (fieldAt head 8 1))) ∧
      (t.lac, t.twn) = (s.lac, s.twn) ∧
      sameMemories s t)) ∧
  (∀ (s : State) (b : IklBlock) (head : List Byte) (p : Fin 2) (l : Leaf) (h : LeafHdr),
    b.sync.val = 1 →
    head = iklPlain b →
    iklGood 0x50 0 head = true →
    s.hasAuth = false →
    s.twn.endWait ≠ some l.id →
    s.curLeaf = some (p.val, l, h) →
    fieldAt head 2 2 = l.id →
    s.rd F.SLT_STATUS.STATE = 1 →
    s.slt.lbDue = false →
    runsTo (.endMsg b) s (fun t =>
      t.rd F.SLT_STATUS.STATE = 0 ∧
      t.leafAt p = none ∧
      t.fol.cur = none ∧
      l.id ∈ t.fol.ended ∧
      sameMemories s t)) ∧
  (∀ (s : State) (leaf : Nat),
    s.twn.endWait = some leaf →
    s.pairState = 3 →
    s.bit F.TWN_STATUS.DIVERGED = false →
    runsTo (.endConfirmTimeout) s (fun t =>
      (t.rd F.TWN_STATUS.DIVERGED, t.rd F.TWN_ERR.DIVERGED) = (1, 1) ∧
      t.rd F.TWN_COUNTS.DIVERGED = min (s.rd F.TWN_COUNTS.DIVERGED + 1) 255 ∧
      t.rd (F.DOC_ROUTE.PENDING 26) = 1 ∧
      t.twn = { s.twn with endWait := none } ∧
      regsOutside (fun b => b = 0x1D || b = 0x20 || b = 0x22) s t ∧
      t = { s with regs := t.regs, hif := { s.hif with due := t.hif.due }, twn := t.twn, acl := t.acl, ikl := t.ikl })) ∧
  (∀ (s : State),
    runsTo (.ikisalHeadDiscard) s (fun t =>
      t.rd F.IKL_ERR.CHECK = 1 ∧
      t.rd F.IKL_COUNTS.CHECK = min (s.rd F.IKL_COUNTS.CHECK + 1) (2 ^ 16 - 1) ∧
      t = { s with regs := t.regs } ∧
      regsApart [F.IKL_ERR.CHECK.off, F.IKL_COUNTS.CHECK.off] s t))

/-- TIME_SYNC_SEND, TIME_SYNC, TIME_DELAY, TIME_RESP, TIME_EXCHANGE_TIMEOUT. With TB1_SOURCE the twin an ACTIVE Original
queues TIME_SYNC with the next exchange number; a Replica keeps number, T1 and T2 and queues TIME_DELAY; the
Original answers TIME_RESP with T4; and the Replica that has the exchange open takes the sample of R287 for TB1 and
closes it. An exchange without an answer is dropped. Log entries: 67, 74, 77, 78, 146. (Rests on: spec/12_twin.md,
Mirrored state; spec/11_time.md, Sources of TB1 across a tool.) -/
def Obligations.TheTimeExchangeOfAPairRuns : Prop :=
  (∀ (s : State),
    s.bit F.TWN_CFG.MODE = true →
    s.bit F.TWN_CFG.ROLE = false →
    s.rd F.TIM_CFG.TB1_SOURCE = 1 →
    s.rd F.IKL_STATUS.STATE = 3 →
    runsTo (.timeSyncSend) s (fun t =>
      t = { s with twn := { s.twn with exchangeNext := (s.twn.exchangeNext + 1) % 65536 }, ikl := (s.iklSend 0 0x12 (leBytes 2 s.twn.exchangeNext ++ leBytes 8 s.timeMsg) []).ikl })) ∧
  (∀ (s : State) (b : IklBlock) (head : List Byte),
    b.sync.val = 1 →
    head = iklPlain b →
    iklGood 0x12 0 head = true →
    s.bit F.TWN_CFG.ROLE = true →
    runsTo (.timeSync b) s (fun t =>
      t = { s with twn := { s.twn with exchange := some (fieldAt head 2 2, fieldAt head 4 8, s.timeMsg, s.timeMsg) }, ikl := (s.iklSend 0 0x13 (leBytes 2 (fieldAt head 2 2) ++ leBytes 8 s.timeMsg) []).ikl })) ∧
  (∀ (s : State) (b : IklBlock),
    b.sync.val = 1 →
    iklGood 0x13 0 (iklPlain b) = true →
    s.bit F.TWN_CFG.ROLE = false →
    runsTo (.timeDelay b) s (fun t =>
      t = { s with ikl := (s.iklSend 0 0x14 (leBytes 2 (fieldAt (iklPlain b) 2 2) ++ leBytes 8 s.timeMsg) []).ikl })) ∧
  (∀ (s : State) (b : IklBlock) (head : List Byte) (n t1 t2 t3 : Nat) (o : Int),
    b.sync.val = 1 →
    head = iklPlain b →
    iklGood 0x14 0 head = true →
    s.twn.exchange = some (n, t1, t2, t3) →
    n = fieldAt head 2 2 →
    o = (q16Diff t1 t2 + q16Diff (fieldAt head 4 8) t3) / 2 + s.rdInt F.TIM_CFG.IKL_ASYM * 4096 →
    s.rd F.TIM_CFG.TB1_SOURCE = 1 →
    s.bit F.TIM_STATUS.TB1_ON_TB0 = false →
    s.twn.tb1Held = false →
    (s.rd (F.TIM_SERVO.STEP_NS 1) : Int) * 2 ^ 16 ≤ o.natAbs →
    s.rd F.SLT_STATUS.STATE = 0 →
    runsTo (.timeResp b) s (fun t =>
      t.tb1 = s.tb1.step o ∧
      t.twn = { s.twn with exchange := none } ∧
      t.tim = { s.tim with integ1 := 0, run1 := 0 } ∧
      t.rd F.TIM_STATUS.TB1_STATE = 1 ∧
      t = { s with regs := t.regs, hif := { s.hif with due := t.hif.due }, tb1 := t.tb1, tim := t.tim, twn := t.twn } ∧
      regsOutside (fun b => b = 0x1C || b = 0x20) s t)) ∧
  (∀ (s : State),
    runsTo (.timeExchangeTimeout) s (fun t =>
      t = { s with twn := { s.twn with exchange := none } }))

/-- IKL_ENABLE, IKL_DISABLE, IKL_STEP_UP, IKL_RETRAIN, IKL_TS, IKL_ALIGN_TIMEOUT, IKL_LINK_SILENT, IKL_RATE_SWITCH,
IKL_DRAIN_COMPLETE. ENABLE in DOWN begins LISTEN at the lowest rate, and is held while DISABLING; a disable leaves
every other state for DISABLING and a drain for DOWN. Valid TS on eight locked lanes lead from LISTEN to ALIGN, an
AM on every lane with the twin's TS of ALIGN to ACTIVE. STEP_UP of an unpaired ACTIVE link begins a step, and the
switch aligns at the next rate. RETRAIN, silence and a lost lock of an ACTIVE link begin a recovery. An ALIGN from
LISTEN that fails begins again; one from a step marks the rate and falls back. No memory and no other block changes.
Log entries: 3, 147. (Rests on: spec/12_twin.md, The Ikisal link; spec/12_twin.md, IKL registers.) -/
def Obligations.TheIkisalLinkMovesBetweenItsStates : Prop :=
  (∀ (s : State) (m : Master),
    s.serves m F.IKL_CTL.ENABLE.off = true →
    s.rd F.IKL_STATUS.STATE = 0 →
    runsTo (.iklEnable m) s (fun t =>
      t.rd F.IKL_CTL.ENABLE = 1 ∧
      (t.rd F.IKL_STATUS.STATE, t.rd F.IKL_STATUS.RATE, t.rd F.IKL_STATUS.LOCK, t.rd F.IKL_STATUS.READY) = (1, 0, 0, 0) ∧
      (∀ k, k < 16 → t.rd (F.BLK_LANE.STATE (104 + k)) = 1) ∧
      t = { s with regs := t.regs, ikl := t.ikl } ∧
      regsOutside (fun b => b = 0x16 || b = 0x17) s t)) ∧
  (∀ (s : State) (m : Master),
    s.serves m F.IKL_CTL.ENABLE.off = true →
    s.rd F.IKL_STATUS.STATE = 6 →
    runsTo (.iklEnable m) s (fun t =>
      t.rd F.IKL_STATUS.PENDING_ENABLE = 1 ∧
      t = { s with regs := t.regs } ∧
      regsApart [F.IKL_STATUS.STATE.off] s t)) ∧
  (∀ (s : State) (m : Master),
    s.serves m F.IKL_CTL.ENABLE.off = true →
    s.rd F.IKL_STATUS.STATE ≠ 0 →
    s.rd F.IKL_STATUS.STATE ≠ 6 →
    runsTo (.iklDisable m) s (fun t =>
      (t.rd F.IKL_CTL.ENABLE, t.rd F.IKL_STATUS.STATE, t.rd F.IKL_STATUS.READY, t.rd F.IKL_STATUS.PENDING_ENABLE) = (0, 6, 0, 0) ∧
      (t.ikl.autoStep, t.ikl.switching) = (false, false) ∧
      (∀ l ∈ t.ikl.lanes, l.out = none) ∧
      (∀ k, k < 16 → t.rd (F.BLK_LANE.STATE (104 + k)) = 0) ∧
      t = { s with regs := t.regs, ikl := t.ikl } ∧
      regsOutside (fun b => b = 0x16 || b = 0x17) s t)) ∧
  (∀ (s : State) (m : Master),
    s.serves m F.IKL_CTL.ENABLE.off = true →
    (s.rd F.IKL_STATUS.STATE = 0 ∨ s.rd F.IKL_STATUS.STATE = 6) →
    runsTo (.iklDisable m) s (fun t =>
      (t.rd F.IKL_CTL.ENABLE, t.rd F.IKL_STATUS.PENDING_ENABLE, t.rd F.IKL_STATUS.STATE) = (0, 0, s.rd F.IKL_STATUS.STATE) ∧
      t = { s with regs := t.regs } ∧
      regsApart [F.IKL_CTL.ENABLE.off, F.IKL_STATUS.STATE.off] s t)) ∧
  (∀ (s : State) (m : Master) (r : Nat),
    s.serves m F.IKL_CTL.STEP_UP.off = true →
    s.paired = false →
    s.rd F.IKL_STATUS.STATE = 3 →
    s.iklNextRate = some r →
    runsTo (.iklStepUp m) s (fun t =>
      (t.rd F.IKL_STATUS.STATE, t.rd F.IKL_STATUS.READY, t.rd F.IKL_STATUS.RATE) = (4, 0, s.rd F.IKL_STATUS.RATE) ∧
      t.ikl.switching = false ∧
      (∀ k, k < 16 → t.rd (F.BLK_LANE.STATE (104 + k)) = 1) ∧
      t = { s with regs := t.regs, ikl := t.ikl } ∧
      regsOutside (fun b => b = 0x16 || b = 0x17) s t)) ∧
  (∀ (s : State) (m : Master),
    s.serves m F.IKL_CTL.RETRAIN.off = true →
    s.rd F.IKL_STATUS.STATE = 3 →
    runsTo (.iklRetrain m) s (fun t =>
      (t.rd F.IKL_STATUS.STATE, t.rd F.IKL_STATUS.READY, t.rd F.IKL_ERR.RECOVERY) = (5, 0, 1) ∧
      t.rd F.IKL_COUNTS.RECOVERIES = min (s.rd F.IKL_COUNTS.RECOVERIES + 1) (2 ^ F.IKL_COUNTS.RECOVERIES.width - 1) ∧
      t = { s with regs := t.regs, ikl := { s.ikl with lanes := s.ikl.lanes.map IklLane.again } } ∧
      regsOutside (fun b => b = 0x16 || b = 0x17) s t)) ∧
  (∀ (s : State) (am : BitVec 8) (ts : List (List Byte)),
    s.rd F.IKL_STATUS.STATE = 1 →
    tsAll ts = true →
    runsTo (.iklTs (BitVec.allOnes 8) am ts) s (fun t =>
      (t.rd F.IKL_STATUS.STATE, t.rd F.IKL_STATUS.RATE, t.rd F.IKL_STATUS.LOCK) = (2, 0, 255) ∧
      (t.ikl.alignFrom, t.ikl.twinAligned, t.ikl.amSeen, t.ikl.peerMax) = (0, false, false, fieldAt (ts.headD []) 6 1) ∧
      t = { s with regs := t.regs, ikl := t.ikl } ∧
      regsOutside (fun b => b = 0x16 || b = 0x17) s t)) ∧
  (∀ (s : State) (lock : BitVec 8) (ts : List (List Byte)),
    s.rd F.IKL_STATUS.STATE = 2 →
    tsAll ts = true →
    fieldAt (ts.headD []) 4 1 = 3 →
    s.ikl.autoStep = false →
    s.mode ≠ 1 →
    runsTo (.iklTs lock (BitVec.allOnes 8) ts) s (fun t =>
      (t.rd F.IKL_STATUS.STATE, t.rd F.IKL_STATUS.READY, t.rd F.IKL_STATUS.LOCK) = (3, 1, lock.toNat) ∧
      (∀ k, k < 16 → t.rd (F.BLK_LANE.STATE (104 + k)) = 2) ∧
      t = { s with regs := t.regs, ikl := t.ikl } ∧
      regsOutside (fun b => b = 0x16 || b = 0x17) s t)) ∧
  (∀ (s : State) (lock am : BitVec 8) (ts : List (List Byte)),
    s.rd F.IKL_STATUS.STATE = 3 →
    lock ≠ BitVec.allOnes 8 →
    runsTo (.iklTs lock am ts) s (fun t =>
      (t.rd F.IKL_STATUS.STATE, t.rd F.IKL_STATUS.READY, t.rd F.IKL_STATUS.LOCK, t.rd F.IKL_ERR.RECOVERY) = (5, 0, lock.toNat, 1) ∧
      t.ikl.lanes = s.ikl.lanes.map IklLane.again ∧
      t = { s with regs := t.regs, ikl := t.ikl } ∧
      regsOutside (fun b => b = 0x16 || b = 0x17) s t)) ∧
  (∀ (s : State),
    s.rd F.IKL_STATUS.STATE = 2 →
    s.ikl.alignFrom = 0 →
    runsTo (.iklAlignTimeout) s (fun t =>
      (t.rd F.IKL_STATUS.STATE, t.rd F.IKL_STATUS.RATE, t.rd F.IKL_STATUS.LOCK) = (1, 0, 0) ∧
      t = { s with regs := t.regs, ikl := t.ikl } ∧
      regsOutside (fun b => b = 0x16 || b = 0x17) s t)) ∧
  (∀ (s : State),
    s.rd F.IKL_STATUS.STATE = 2 →
    s.ikl.alignFrom = 1 →
    s.rd F.IKL_STATUS.RATE < 3 →
    runsTo (.iklAlignTimeout) s (fun t =>
      t.rd F.IKL_STATUS.FAILED_RATES = s.rd F.IKL_STATUS.FAILED_RATES ||| 2 ^ s.rd F.IKL_STATUS.RATE ∧
      (t.rd F.IKL_STATUS.STATE, t.rd F.IKL_STATUS.RATE) = (2, s.ikl.prevRate % 4) ∧
      t.ikl.alignFrom = 2 ∧
      t = { s with regs := t.regs, ikl := t.ikl } ∧
      regsApart [F.IKL_STATUS.STATE.off] s t)) ∧
  (∀ (s : State) (lock : BitVec 8),
    s.rd F.IKL_STATUS.STATE = 3 →
    runsTo (.iklLinkSilent lock) s (fun t =>
      (t.rd F.IKL_STATUS.STATE, t.rd F.IKL_STATUS.LOCK, t.rd F.IKL_ERR.RECOVERY) = (5, lock.toNat, 1) ∧
      t.rd F.IKL_COUNTS.RECOVERIES = min (s.rd F.IKL_COUNTS.RECOVERIES + 1) (2 ^ F.IKL_COUNTS.RECOVERIES.width - 1) ∧
      t = { s with regs := t.regs, ikl := { s.ikl with lanes := s.ikl.lanes.map IklLane.again } } ∧
      regsOutside (fun b => b = 0x16 || b = 0x17) s t)) ∧
  (∀ (s : State) (r : Nat),
    s.rd F.IKL_STATUS.STATE = 4 →
    s.ikl.switching = true →
    s.iklNextRate = some r →
    runsTo (.iklRateSwitch) s (fun t =>
      (t.rd F.IKL_STATUS.STATE, t.rd F.IKL_STATUS.RATE) = (2, r % 4) ∧
      (t.ikl.alignFrom, t.ikl.prevRate, t.ikl.switching, t.ikl.blocks) = (1, s.rd F.IKL_STATUS.RATE, false, 0) ∧
      t = { s with regs := t.regs, ikl := t.ikl } ∧
      regsApart [F.IKL_STATUS.STATE.off] s t)) ∧
  (∀ (s : State),
    s.rd F.IKL_STATUS.STATE = 6 →
    s.bit F.IKL_STATUS.PENDING_ENABLE = false →
    runsTo (.iklDrainComplete) s (fun t =>
      (t.rd F.IKL_STATUS.STATE, t.rd F.IKL_STATUS.READY) = (0, 0) ∧
      t = { s with regs := t.regs, ikl := t.ikl } ∧
      regsApart [F.IKL_STATUS.STATE.off] s t))

/-- RESET_ASSERT, POWER_GOOD_DELAY, RESET_RELEASE, BOOT_STEP_DONE, BOOT_STEP_TIMEOUT, ATTEMPT_AGE_OUT, PREVIEW_ENTRY,
RUN_ENTRY, BOOT_QUIESCE, QUIESCE_COMPLETE, BOOT_RESTART, CLEAR_ATTEMPTS, SAFE_RESTART_EXPIRY, STRAP_CHANGE,
TAP_INSTRUCTION_UPDATE. RESET_N leads to OFF and keeps the always-on record, flash, fuses and MRAM; its release with
the supplies good latches the straps and begins BOOT, or the factory test state. Steps 1, 2, 3, 7 and 9 pass as they
end; without a key the start fails to STORAGE; a first step past its limit begins BOOT again. The attempt that is 10
minutes old leaves the count. PREVIEW gives a lone device authority; RUN has the full map and cleared indices.
QUIESCE ends in QUIESCED; RESTART leaves STORAGE. A late strap change is only flagged. The test access port holds
IDCODE or BYPASS while RESET_N is high. Log entries: 5, 81, 83, 84, 89, 90, 103 to 106, 171, 177. (Rests on:
spec/13_startup.md, Modes; spec/13_startup.md, BOOT; spec/13_startup.md, PREVIEW; spec/13_startup.md, RUN;
spec/13_startup.md, Failed starts and STORAGE; spec/13_startup.md, SAFE; spec/13_startup.md, Power-down and restart;
spec/17_electrical.md, Power-up.) -/
def Obligations.TheDeviceStartsAndStops : Prop :=
  (∀ (s : State),
    runsTo (.resetAssert) s (fun t =>
      (t.mode, t.rd F.BOOT_REASON.RESET) = (0, s.rd F.BOOT_REASON.RESET) ∧
      (t.pin.resetN, t.pin.failOut, t.saf.acting) = (false, true, false) ∧
      (t.boot.flash, t.boot.fuseHash, t.boot.attempts, t.boot.lastFail, t.acl.mram) = (s.boot.flash, s.boot.fuseHash, s.boot.attempts, s.boot.lastFail, s.acl.mram) ∧
      (t.rd F.BOOT_FUSE.KEY_SET, t.rd F.BOOT_FUSE.KEY_REVOKED) = (s.rd F.BOOT_FUSE.KEY_SET, s.rd F.BOOT_FUSE.KEY_REVOKED) ∧
      (t.pending, t.hostMem, t.hostPoison) = (s.pending, s.hostMem, s.hostPoison) ∧
      t.rd F.TWN_STATUS.AUTH = 0)) ∧
  (∀ (s : State),
    s.pin.supplyOut = 0 →
    runsTo (.powerGoodDelay) s (fun t =>
      t = { s with boot := { s.boot with powerGood := true } })) ∧
  (∀ (s : State) (role flash : Bool),
    s.mode = 0 →
    s.pin.resetN = false →
    s.boot.powerGood = true →
    runsTo (.resetRelease role flash true) s (fun t =>
      (t.mode, t.rd F.BOOT_REASON.RESET) = (1, if s.boot.powerLost then 1 else 2) ∧
      (t.bit F.PAD_STRAPS.TWIN_ROLE, t.bit F.PAD_STRAPS.FLASH_1S, t.bit F.PAD_STRAPS.TEST_EN_N, t.bit F.TWN_STATUS.STRAP_ROLE) = (role, flash, true, role) ∧
      (t.pin.resetN, t.pin.testState, t.boot.powerLost) = (true, false, false) ∧
      (t.boot.flash, t.boot.attempts, t.acl.mram, t.pending) = (s.boot.flash, s.boot.attempts, s.acl.mram, s.pending))) ∧
  (∀ (s : State) (role flash : Bool),
    s.mode = 0 →
    s.pin.resetN = false →
    s.boot.powerGood = true →
    runsTo (.resetRelease role flash false) s (fun t =>
      (t.mode, t.pin.testState, t.bit F.PAD_STRAPS.TEST_EN_N) = (0, true, false))) ∧
  (∀ (s : State),
    s.stepRuns 1 = true →
    runsTo (.bootStepDone 1 true) s (fun t =>
      (t.rd F.BOOT_STATUS.STEP, t.rd F.CLK_STATUS.ROOT_LOCK, t.rd F.CLK_STATUS.MON_OK, t.rd F.CLK_STATUS.REF_OK) = (2, 1, 31, 1) ∧
      t = { s with regs := t.regs } ∧
      regsApart [F.BOOT_STATUS.STEP.off, F.CLK_STATUS.ROOT_LOCK.off] s t)) ∧
  (∀ (s : State),
    s.stepRuns 2 = true →
    s.boot.mramFitted = true →
    s.boot.aonLost = false →
    s.aclWaiting = false →
    runsTo (.bootStepDone 2 true) s (fun t =>
      (t.rd F.BOOT_STATUS.STEP, t.rd F.BOOT_STATUS.MRAM_ABSENT, t.rd F.BOOT_STATUS.UNCLEAN) = (3, 0, if s.boot.cleanMark then 0 else 1) ∧
      t.rd F.ACL_COPY.BOOT = (leNat (memRead s.acl.mram 192 2) + 1) % 2 ^ 16 ∧
      t.rd F.BOOT_REASON.ATTEMPTS = min 3 s.attemptCount ∧
      memRead t.acl.mram 192 2 = leBytes 2 (leNat (memRead s.acl.mram 192 2) + 1) ∧
      (∀ x, x < 192 ∨ 194 ≤ x → smGet byteDefault t.acl.mram x = smGet byteDefault s.acl.mram x) ∧
      t.acl.ring.length = min (s.acl.ring.length + 1) 8192 ∧
      t.acl.ring.head?.map AclRec.event = some 0x0101 ∧
      sameMemories s t)) ∧
  (∀ (s : State),
    s.stepRuns 3 = true →
    runsTo (.bootStepDone 3 true) s (fun t =>
      t.rd F.BOOT_STATUS.STEP = 4 ∧
      t = { s with regs := t.regs, boot := { s.boot with flashOctal := s.boot.flashSfdp && !s.bit F.PAD_STRAPS.FLASH_1S } } ∧
      regsApart [F.BOOT_STATUS.STEP.off] s t)) ∧
  (∀ (s : State),
    s.stepRuns 4 = true →
    s.rd F.BOOT_FUSE.KEY_SET = 0 →
    s.bit F.BOOT_STATUS.QUIESCED = false →
    runsTo (.bootStepDone 4 true) s (fun t =>
      (t.mode, t.rd F.BOOT_REASON.STORAGE, t.rd F.BOOT_REASON.LAST_FAIL) = (4, 1, 1) ∧
      t.boot.attempts = ((1, s.boot.aonSec) :: s.attemptsKnown).take 3 ∧
      (s.boot.mramFitted = true → memRead t.acl.mram 0 192 = attemptBytes 1 t.boot.attempts) ∧
      (t.rd F.KPR_STATUS.STATE, t.rd F.DOC_STATUS.STATE) = (2, 0) ∧
      t.pin.failOut = true)) ∧
  (∀ (s : State),
    s.stepRuns 7 = true →
    runsTo (.bootStepDone 7 true) s (fun t =>
      t.rd F.SAF_COUNTS.GROUPS = min (s.rd F.SAF_COUNTS.GROUPS + 8) (2 ^ 16 - 1) ∧
      (t.rd F.SAF_LATENT.CYCLES, t.rd F.SAF_LATENT.CYCLE_AGE) = ((s.rd F.SAF_LATENT.CYCLES + 1) % 2 ^ 16, 0) ∧
      t.stepPassed 7 = true ∧
      t = { s with regs := t.regs, boot := { s.boot with stepsDone := listInsert 7 s.boot.stepsDone } } ∧
      regsApart [F.SAF_COUNTS.GROUPS.off, F.SAF_LATENT.CYCLES.off] s t)) ∧
  (∀ (s : State),
    s.stepRuns 9 = true →
    s.linkActive = true →
    runsTo (.bootStepDone 9 true) s (fun t =>
      t = { s with boot := { s.boot with stepsDone := listInsert 9 s.boot.stepsDone } })) ∧
  (∀ (s : State),
    s.stepRuns 9 = true →
    s.plateFault = false →
    s.rd F.BOOT_CFG.PLATE_WAIT = 0 →
    runsTo (.bootStepDone 9 false) s (fun t =>
      t = s)) ∧
  (∀ (s : State),
    s.stepRuns 3 = true →
    s.boot.attempts = [] →
    s.boot.aonLost = false →
    s.pin.testLevel = true →
    s.bit F.BOOT_STATUS.QUIESCED = false →
    runsTo (.bootStepTimeout 3) s (fun t =>
      (t.mode, t.rd F.BOOT_REASON.RESET, t.rd F.BOOT_STATUS.STEP) = (1, 4, 0) ∧
      t.boot.attempts = [(2, s.boot.aonSec)] ∧
      (t.rd F.BOOT_REASON.LAST_FAIL, t.rd F.BOOT_REASON.ATTEMPTS) = (2, 1) ∧
      t.boot.flash = s.boot.flash)) ∧
  (∀ (s : State) (r t0 : Nat),
    s.boot.attempts = [(r, t0)] →
    s.boot.aonSec < t0 + 600 →
    runsTo (.attemptAgeOut) s (fun t =>
      t.boot = { s.boot with aonSec := t0 + 600 } ∧
      (t.rd F.BOOT_REASON.ATTEMPTS, t.rd F.BOOT_REASON.LAST_FAIL, t.rd F.BOOT_REASON.FAIL_AGE) = (0, s.boot.lastFail % 256, 600) ∧
      t = { s with regs := t.regs, boot := t.boot } ∧
      regsApart [F.BOOT_REASON.LAST_FAIL.off] s t)) ∧
  (∀ (s : State),
    s.previewReady = true →
    s.bit F.TWN_CFG.MODE = false →
    s.twn.peerLow = true →
    s.hasAuth = false →
    runsTo (.previewEntry) s (fun t =>
      (t.mode, t.rd F.TWN_STATUS.AUTH, t.rd F.TWN_STATUS.STATE) = (2, 1, 0) ∧
      (t.pin.failOut, t.slt.firstArm) = (false, true) ∧
      (t.ddr, t.hostMem) = (s.ddr, s.hostMem) ∧
      (t.rd (F.DOC_ROUTE.PENDING 19), t.rd (F.DOC_ROUTE.PENDING 26)) = (1, 1))) ∧
  (∀ (s : State),
    s.mode = 2 →
    s.runWait = 0 →
    s.saf.acting = false →
    s.boot.quiescing = false →
    runsTo (.runEntry) s (fun t =>
      (t.mode, t.rd F.MEM_STATUS.FULL_MAP, t.rd F.SCR_STATUS.POS) = (3, 1, 0) ∧
      (t.rd F.LAC_STATUS.NEXT, t.rd F.LAC_STATUS.ACKED, t.rd F.LAC_ACK.INDEX, t.rd F.LAC_CURSOR.INDEX) = (0, 0, 0, 0) ∧
      (∀ p, p < 2 → (t.rd (F.SVY_P_POS.REC_NEXT p), t.rd (F.SVY_P_POS.FRAME_NEXT p), t.rd (F.SVY_P_ACK.REC p), t.rd (F.SVY_P_ACK.FRAME p)) = (0, 0, 0, 0)) ∧
      (∀ c, c < 6 → t.rd (F.MEM_CH_STATUS.STATE c) = if s.rd (F.MEM_CH_STATUS.STATE c) = 3 then 2 else s.rd (F.MEM_CH_STATUS.STATE c)) ∧
      t.rd (F.DOC_ROUTE.PENDING 19) = 1 ∧
      (t.hostMem, t.fol, t.pin) = (s.hostMem, s.fol, s.pin))) ∧
  (∀ (s : State) (m : Master),
    s.serves m F.BOOT_CTL.QUIESCE.off = true →
    s.rd F.SLT_STATUS.STATE = 0 →
    s.rd F.AXM_STATUS.STATE < 3 →
    s.bit F.AXM_STATUS.PENDING_ENABLE = false →
    runsTo (.bootQuiesce m) s (fun t =>
      t.boot = { s.boot with quiescing := true } ∧
      (t.rd F.AXM_CTL.ENABLE, t.rd F.AXM_STATUS.STATE) = (0, 3) ∧
      (t.axm.run, t.axm.queue) = (none, []) ∧
      regsOutside (fun b => b = 0x1B || b = 0x20) s t ∧
      sameMemories s t)) ∧
  (∀ (s : State),
    s.boot.quiescing = true →
    s.rd F.SLT_STATUS.STATE = 0 →
    s.bit F.BOOT_STATUS.QUIESCED = false →
    s.bit F.BOOT_STATUS.MRAM_ABSENT = true →
    s.mem.ch.length = 6 →
    s.mem.ch.all (fun m => m.ports.isEmpty && m.queue.isEmpty) = true →
    runsTo (.quiesceComplete) s (fun t =>
      t.rd F.BOOT_STATUS.QUIESCED = 1 ∧
      (∀ c, c < 6 → t.rd (F.MEM_CH_STATUS.STATE c) = if s.rd (F.MEM_CH_STATUS.STATE c) = 2 then 3 else s.rd (F.MEM_CH_STATUS.STATE c)) ∧
      t.boot.cleanMark = (s.boot.mramFitted || s.boot.cleanMark) ∧
      t.acl = s.acl ∧
      sameMemories s t)) ∧
  (∀ (s : State) (m : Master),
    s.serves m F.BOOT_CTL.RESTART.off = true →
    s.mode = 4 →
    s.saf.acting = false →
    s.bit F.BOOT_STATUS.QUIESCED = false →
    s.pin.testLevel = true →
    runsTo (.bootRestart m) s (fun t =>
      (t.mode, t.rd F.BOOT_REASON.RESET, t.rd F.BOOT_STATUS.STEP) = (1, 5, 0) ∧
      (t.boot.flash, t.boot.fuseHash, t.boot.attempts, t.pending) = (s.boot.flash, s.boot.fuseHash, s.boot.attempts, s.pending))) ∧
  (∀ (s : State) (m : Master),
    s.serves m F.BOOT_CTL.CLEAR_ATTEMPTS.off = true →
    s.mode = 4 →
    runsTo (.clearAttempts m) s (fun t =>
      t.boot = { s.boot with attempts := [], lastFail := 0, aonLost := false } ∧
      (s.boot.mramFitted = true → memRead t.acl.mram 0 192 = attemptBytes 0 []) ∧
      (∀ x, 192 ≤ x → smGet byteDefault t.acl.mram x = smGet byteDefault s.acl.mram x) ∧
      (t.rd F.BOOT_REASON.ATTEMPTS, t.rd F.BOOT_REASON.LAST_FAIL, t.rd F.BOOT_REASON.FAIL_AGE) = (0, 0, 0) ∧
      t = { s with regs := t.regs, boot := t.boot, acl := { s.acl with mram := t.acl.mram, spi := t.acl.spi } } ∧
      regsApart [F.BOOT_REASON.LAST_FAIL.off] s t)) ∧
  (∀ (s : State),
    s.mode = 5 →
    s.bit F.BOOT_CFG.SAFE_RESTART = true →
    s.boot.attempts = [(0xC, s.boot.aonSec)] →
    s.boot.lastFail = 0xC →
    s.pin.testLevel = true →
    runsTo (.safeRestartExpiry) s (fun t =>
      (t.mode, t.rd F.BOOT_REASON.RESET, t.rd F.BOOT_REASON.LAST_FAIL) = (1, 3, 0xC) ∧
      (t.saf.acting, t.boot.attempts) = (false, [(0xC, s.boot.aonSec)]))) ∧
  (∀ (s : State) (high : Bool),
    (s.mode ≠ 0 ∨ s.pin.testState = true) →
    s.bit F.PAD_STRAPS.LIVE_ROLE ≠ high →
    runsTo (.strapChange 0 high) s (fun t =>
      (t.bit F.PAD_STRAPS.LIVE_ROLE, t.rd F.PAD_STRAPS.CHANGED, t.rd F.PAD_STRAPS.TWIN_ROLE) = (high, 1, s.rd F.PAD_STRAPS.TWIN_ROLE) ∧
      t = { s with regs := t.regs } ∧
      regsApart [F.PAD_STRAPS.CHANGED.off] s t)) ∧
  (∀ (s : State) (high : Bool),
    (s.mode ≠ 0 ∨ s.pin.testState = true) →
    s.pin.testLevel ≠ high →
    runsTo (.strapChange 2 high) s (fun t =>
      t.rd F.PAD_STRAPS.CHANGED = 1 ∧
      t = { s with regs := t.regs, pin := { s.pin with testLevel := high } } ∧
      regsApart [F.PAD_STRAPS.CHANGED.off] s t)) ∧
  (∀ (s : State) (i : TapInstr),
    runsTo (.tapInstructionUpdate i) s (fun t =>
      t = { s with pin := { s.pin with tap := if i = .scan ∧ s.pin.resetN = true then .bypass else i } }))

/-- FUSE_PROGRAM, FUSE_REVOKE, FUSE_OPERATION_DONE, FLASH_ERASE, FLASH_PROGRAM, FLASH_READ, FLASH_COMMAND_DONE. In
STORAGE, with none in progress, PROGRAM of a blank slot and REVOKE of a programmed slot that is not the last valid
one begin; at its end the slot is set with its hash, or revoked. A flash command with nothing in progress, aligned
and of a good length, outside the bound slot, begins: BUSY without a cause; a further one is refused with cause 4.
At its end the sector reads erased, the flash holds the buffer's bytes, or the buffer holds the flash's, and no
other byte has changed; an error leaves cause 3. A lower half of BOOT_FUSE_PROG is staged (R400). Log entries: 17,
86 to 88. (Rests on: spec/13_startup.md, Failed starts and STORAGE; spec/13_startup.md, The run-time service set;
spec/13_startup.md, The catalogue.) -/
def Obligations.FusesAndTheCatalogueFlashAreWritten : Prop :=
  (∀ (s : State) (m : Master) (h : HalfWrite) (v : Word) (slot : Nat),
    s.serves m F.BOOT_FUSE_PROG.SLOT.off = true →
    v = halfOver h (s.halfReg F.BOOT_FUSE_PROG.SLOT.off) →
    (h.wide || h.upper) = true →
    slot = F.BOOT_FUSE_PROG.SLOT.get v →
    F.BOOT_FUSE_PROG.PROGRAM.get v = 1 →
    s.mode = 4 →
    s.keySet slot = false →
    s.boot.fuseBusy = none →
    runsTo (.fuseProgram m h) s (fun t =>
      t = { s with halves := smErase s.halves F.BOOT_FUSE_PROG.SLOT.off, boot := { s.boot with fuseBusy := some (slot, false, s.fuseData) } })) ∧
  (∀ (s : State) (m : Master) (h : HalfWrite) (v : Word) (slot : Nat),
    s.serves m F.BOOT_FUSE_PROG.SLOT.off = true →
    v = halfOver h (s.halfReg F.BOOT_FUSE_PROG.SLOT.off) →
    (h.wide || h.upper) = true →
    slot = F.BOOT_FUSE_PROG.SLOT.get v →
    F.BOOT_FUSE_PROG.REVOKE.get v = 1 →
    s.mode = 4 →
    s.keySet slot = true →
    s.keysValid.any (fun n => n ≠ slot) = true →
    s.boot.fuseBusy = none →
    runsTo (.fuseRevoke m h) s (fun t =>
      t = { s with halves := smErase s.halves F.BOOT_FUSE_PROG.SLOT.off, boot := { s.boot with fuseBusy := some (slot, true, s.fuseData) } })) ∧
  (∀ (s : State) (m : Master) (x : Word),
    s.serves m F.BOOT_FUSE_PROG.SLOT.off = true →
    runsTo (.fuseProgram m ⟨false, false, x⟩) s (fun t =>
      (s.halfReg F.BOOT_FUSE_PROG.SLOT.off).toNat / 2 ^ 32 = (t.halfReg F.BOOT_FUSE_PROG.SLOT.off).toNat / 2 ^ 32 ∧
      (t.halfReg F.BOOT_FUSE_PROG.SLOT.off).toNat % 2 ^ 32 = x.toNat % 2 ^ 32 ∧
      t = { s with halves := t.halves })) ∧
  (∀ (s : State) (n hash : Nat),
    s.boot.fuseBusy = some (n, false, hash) →
    n < 4 →
    runsTo (.fuseOperationDone) s (fun t =>
      t.keySet n = true ∧
      smGet (fun _ => 0) t.boot.fuseHash n = hash ∧
      t.rd F.BOOT_FUSE.KEY_REVOKED = s.rd F.BOOT_FUSE.KEY_REVOKED ∧
      t = { s with regs := t.regs, boot := { s.boot with fuseBusy := none, fuseHash := t.boot.fuseHash } } ∧
      regsApart [F.BOOT_FUSE.KEY_SET.off] s t)) ∧
  (∀ (s : State) (n hash : Nat),
    s.boot.fuseBusy = some (n, true, hash) →
    n < 4 →
    runsTo (.fuseOperationDone) s (fun t =>
      t.keyRevoked n = true ∧
      t.rd F.BOOT_FUSE.KEY_SET = s.rd F.BOOT_FUSE.KEY_SET ∧
      t = { s with regs := t.regs, boot := { s.boot with fuseBusy := none } } ∧
      regsApart [F.BOOT_FUSE.KEY_SET.off] s t)) ∧
  (∀ (s : State) (m : Master),
    s.serves m F.BOOT_FLASH_CMD.OP.off = true →
    s.flashRefuses 1 65536 = none →
    runsTo (.flashErase m) s (fun t =>
      (t.rd F.BOOT_FLASH_STATUS.STATE, t.rd F.BOOT_FLASH_STATUS.CAUSE) = (1, 0) ∧
      t = { s with regs := t.regs, boot := { s.boot with flashBusy := some (1, s.rd F.BOOT_FLASH_ADDR.ADDR, 65536) } } ∧
      regsApart [F.BOOT_FLASH_STATUS.STATE.off] s t)) ∧
  (∀ (s : State) (m : Master) (len : BitVec 13),
    s.serves m F.BOOT_FLASH_CMD.OP.off = true →
    s.flashRefuses 2 len.toNat = none →
    runsTo (.flashProgram m len) s (fun t =>
      (t.rd F.BOOT_FLASH_STATUS.STATE, t.rd F.BOOT_FLASH_STATUS.CAUSE) = (1, 0) ∧
      t = { s with regs := t.regs, boot := { s.boot with flashBusy := some (2, s.rd F.BOOT_FLASH_ADDR.ADDR, len.toNat) } } ∧
      regsApart [F.BOOT_FLASH_STATUS.STATE.off] s t)) ∧
  (∀ (s : State) (m : Master) (len : BitVec 13),
    s.serves m F.BOOT_FLASH_CMD.OP.off = true →
    s.flashRefuses 3 len.toNat = none →
    runsTo (.flashRead m len) s (fun t =>
      (t.rd F.BOOT_FLASH_STATUS.STATE, t.rd F.BOOT_FLASH_STATUS.CAUSE) = (1, 0) ∧
      t = { s with regs := t.regs, boot := { s.boot with flashBusy := some (3, s.rd F.BOOT_FLASH_ADDR.ADDR, len.toNat) } } ∧
      regsApart [F.BOOT_FLASH_STATUS.STATE.off] s t)) ∧
  (∀ (s : State) (m : Master) (len : BitVec 13),
    s.serves m F.BOOT_FLASH_CMD.OP.off = true →
    s.boot.flashBusy.isSome = true →
    runsTo (.flashRead m len) s (fun t =>
      (t.rd F.BOOT_FLASH_STATUS.STATE, t.rd F.BOOT_FLASH_STATUS.CAUSE) = (3, 4) ∧
      t = { s with regs := t.regs } ∧
      regsApart [F.BOOT_FLASH_STATUS.STATE.off] s t)) ∧
  (∀ (s : State) (a n : Nat),
    s.boot.flashBusy = some (1, a, n) →
    runsTo (.flashCommandDone true) s (fun t =>
      t.flashRead a n = List.replicate n 0xFF#8 ∧
      (∀ x, x < a ∨ a + n ≤ x → smGet flashDefault t.boot.flash x = smGet flashDefault s.boot.flash x) ∧
      (t.rd F.BOOT_FLASH_STATUS.STATE, t.rd F.BOOT_FLASH_STATUS.CAUSE) = (2, 0) ∧
      t = { s with regs := t.regs, boot := { s.boot with flashBusy := none, flash := t.boot.flash } } ∧
      regsApart [F.BOOT_FLASH_STATUS.STATE.off] s t)) ∧
  (∀ (s : State) (a n : Nat),
    s.boot.flashBusy = some (2, a, n) →
    runsTo (.flashCommandDone true) s (fun t =>
      t.flashRead a n = memRead s.boot.flashBuf 0 n ∧
      (∀ x, x < a ∨ a + n ≤ x → smGet flashDefault t.boot.flash x = smGet flashDefault s.boot.flash x) ∧
      (t.rd F.BOOT_FLASH_STATUS.STATE, t.rd F.BOOT_FLASH_STATUS.CAUSE) = (2, 0) ∧
      t = { s with regs := t.regs, boot := { s.boot with flashBusy := none, flash := t.boot.flash } } ∧
      regsApart [F.BOOT_FLASH_STATUS.STATE.off] s t)) ∧
  (∀ (s : State) (a n : Nat),
    s.boot.flashBusy = some (3, a, n) →
    runsTo (.flashCommandDone true) s (fun t =>
      memRead t.boot.flashBuf 0 n = s.flashRead a n ∧
      (∀ x, n ≤ x → smGet byteDefault t.boot.flashBuf x = smGet byteDefault s.boot.flashBuf x) ∧
      (t.rd F.BOOT_FLASH_STATUS.STATE, t.rd F.BOOT_FLASH_STATUS.CAUSE) = (2, 0) ∧
      t = { s with regs := t.regs, boot := { s.boot with flashBusy := none, flashBuf := t.boot.flashBuf } } ∧
      regsApart [F.BOOT_FLASH_STATUS.STATE.off] s t)) ∧
  (∀ (s : State) (a n : Nat),
    s.boot.flashBusy = some (3, a, n) →
    runsTo (.flashCommandDone false) s (fun t =>
      (t.rd F.BOOT_FLASH_STATUS.STATE, t.rd F.BOOT_FLASH_STATUS.CAUSE) = (3, 3) ∧
      (∀ x, n ≤ x → smGet byteDefault t.boot.flashBuf x = smGet byteDefault s.boot.flashBuf x) ∧
      t = { s with regs := t.regs, free := s.free + n, boot := { s.boot with flashBusy := none, flashBuf := t.boot.flashBuf } } ∧
      regsApart [F.BOOT_FLASH_STATUS.STATE.off] s t))

/-- KEEPER_LOCKSTEP, KEEPER_WATCHDOG, SAF_WDOG_WRITE, SAF_DEMAND_WRITE, GUARD_COMPARE, PAD_READBACK_FAULT, CLOCK_FAULT,
SUPPLY_EXCURSION, DIE_SENSOR_SAMPLE, GUARD_RECORD_PERSISTED. Outside OFF, with the Guard at rest, each of these
causes is FIRST_CAUSE and held as seen, the Guard acts, TWIN_AUTH goes low, TWIN_FAIL_OUT high, and BLANK_ALL_N is
driven, but while TWIN_PEER_AUTH is high. The watchdog's expected value only alternates, a clock within its window
changes nothing, a supply within its range and cool dies are only recorded. Once the Guard's record is persistent
the mode is SAFE, the Keeper is held in reset and the attempt record has reason GUARD, a failed start where
SAFE_RESTART is set. Log entries: 49, 50, 72, 92 to 95, 171. (Rests on: spec/14_faults.md, The Guard;
spec/14_faults.md, Dangerous failures and their diagnostics; spec/14_faults.md, SAF_WDOG; spec/14_faults.md,
SAF_DEMAND; spec/13_startup.md, CLK_ERR; spec/17_electrical.md, Supplies; spec/12_twin.md, Roles and wiring;
spec/13_startup.md, SAFE.) -/
def Obligations.TheGuardActsOnItsCauses : Prop :=
  (∀ (s : State),
    s.mode ≠ 0 →
    s.saf.acting = false →
    runsTo (.keeperLockstep) s (fun t =>
      guardActs 1 s t)) ∧
  (∀ (s : State),
    s.mode ≠ 0 →
    s.saf.acting = false →
    s.saf.wdogOn = true →
    runsTo (.keeperWatchdog) s (fun t =>
      guardActs 2 s t)) ∧
  (∀ (s : State),
    s.saf.wdogOn = false →
    runsTo (.keeperWatchdog) s (fun t =>
      t = s)) ∧
  (∀ (s : State) (m : Master) (v : BitVec 32),
    s.serves m F.SAF_WDOG.KICK.off = true →
    s.saf.wdogOn = true →
    v.toNat % 65536 = s.saf.wdogNext →
    runsTo (.safWdogWrite m v) s (fun t =>
      t = { s with saf := { s.saf with wdogNext := if s.saf.wdogNext = 0x5A5A then 0xA5A5 else 0x5A5A } })) ∧
  (∀ (s : State) (m : Master) (v : BitVec 32),
    s.serves m F.SAF_WDOG.KICK.off = true →
    s.saf.wdogOn = true →
    s.saf.acting = false →
    v.toNat % 65536 ≠ s.saf.wdogNext →
    runsTo (.safWdogWrite m v) s (fun t =>
      guardActs 2 s t)) ∧
  (∀ (s : State) (m : Master) (v : BitVec 32),
    s.serves m F.SAF_DEMAND.DEMAND.off = true →
    s.saf.acting = false →
    v.toNat % 2 = 1 →
    runsTo (.safDemandWrite m v) s (fun t =>
      guardActs 14 s t)) ∧
  (∀ (s : State),
    s.mode ≠ 0 →
    s.saf.acting = false →
    runsTo (.guardCompare) s (fun t =>
      guardActs 13 s t)) ∧
  (∀ (s : State) (auth : Bool),
    s.mode ≠ 0 →
    s.saf.acting = false →
    runsTo (.padReadbackFault auth) s (fun t =>
      guardActs (if auth then 0xB else 0xA) s t)) ∧
  (∀ (s : State) (clock : Fin 13) (ppm : Int),
    s.mode ≠ 0 →
    s.saf.acting = false →
    s.bit ⟨F.CLK_STATUS.ROOT_LOCK.off, clock, 1⟩ = true →
    s.clockBad clock ppm = true →
    runsTo (.clockFault clock ppm) s (fun t =>
      t.bit ⟨F.CLK_STATUS.ROOT_LOCK.off, clock, 1⟩ = false ∧
      t.bit ⟨F.CLK_ERR.ROOT_UNLOCK.off, clock, 1⟩ = true ∧
      t.rd F.CLK_LAST.CLOCK = clock.val ∧
      guardActs (clockCause clock) s t)) ∧
  (∀ (s : State) (clock : Fin 13) (ppm : Int),
    1 ≤ clock.val ∧ clock.val ≤ 6 →
    ppm.natAbs ≤ s.rd F.CLK_MON_CFG.WINDOW →
    runsTo (.clockFault clock ppm) s (fun t =>
      t = s)) ∧
  (∀ (s : State) (i : Fin 7) (mv : BitVec 16),
    s.mode ≠ 0 →
    s.saf.acting = false →
    outside (supplyRange i).2 mv.toNat = true →
    runsTo (.supplyExcursion i mv true) s (fun t =>
      (t.rd (F.PAD_SUPPLY.NOW i), t.bit ⟨F.PAD_SUPPLY_ERR.WARN.off, i, 1⟩, t.bit ⟨F.PAD_SUPPLY_ERR.TRIP.off, 8 + i, 1⟩) = (mv.toNat, true, true) ∧
      (t.boot.powerLost, t.boot.powerGood) = (true, false) ∧
      guardActs 6 s t)) ∧
  (∀ (s : State) (i : Fin 7) (mv : BitVec 16) (held : Bool),
    outside (supplyRange i).1 mv.toNat = false →
    runsTo (.supplyExcursion i mv held) s (fun t =>
      (t.rd (F.PAD_SUPPLY.NOW i), t.rd (F.PAD_SUPPLY.MAX i)) = (mv.toNat, max mv.toNat (s.rd (F.PAD_SUPPLY.MAX i))) ∧
      t.rd (F.PAD_SUPPLY.MIN i) = (if s.rd (F.PAD_SUPPLY.MAX i) = 0 then mv.toNat else min mv.toNat (s.rd (F.PAD_SUPPLY.MIN i))) ∧
      t = { s with regs := t.regs, pin := { s.pin with supplyOut := s.pin.supplyOut - s.pin.supplyOut / 2 ^ i.val % 2 * 2 ^ i.val } } ∧
      regsApart [(F.PAD_SUPPLY.NOW i).off] s t)) ∧
  (∀ (s : State) (ts : List Int),
    s.mode ≠ 0 →
    ts.length = 8 →
    (∀ x ∈ ts, -32768 ≤ x ∧ x ≤ 32767 ∧ x < (s.rd F.SAF_CFG.DIE_SOFT : Int) * 16 ∧ x < (s.rd F.SAF_CFG.DIE_HARD : Int) * 16) →
    s.saf.dieSoft = [] →
    s.saf.dieHot = [] →
    s.rd F.CAL_STATUS.STATE = 0 →
    runsTo (.dieSensorSample ts) s (fun t =>
      (∀ i, i < 8 → t.rdInt (F.CAL_TEMP.NOW i) = ts.getD i 0) ∧
      t.rdInt F.SAF_STATUS.DIE_MAX = clampInt (ts.foldl max (-32768) / 16) (-128) 127 ∧
      t = { s with regs := t.regs } ∧
      regsApart (F.SAF_STATUS.DIE_MAX.off :: (List.range 8).map (fun i => (F.CAL_TEMP.NOW i).off)) s t)) ∧
  (∀ (s : State) (ts : List Int) (i : Nat),
    s.mode ≠ 0 →
    s.saf.acting = false →
    ts.length = 8 →
    i < 8 →
    (s.rd F.SAF_CFG.DIE_HARD : Int) * 16 ≤ ts.getD i 0 →
    s.saf.dieHot = [(i, 2)] →
    runsTo (.dieSensorSample ts) s (fun t =>
      guardActs 7 s t)) ∧
  (∀ (s : State),
    s.saf.acting = true →
    s.mode ≠ 5 →
    s.acl.clearing = false →
    runsTo (.guardRecordPersisted) s (fun t =>
      (t.mode, t.rd F.SAF_STATUS.STATE, t.rd F.KPR_STATUS.STATE) = (5, 2, 2) ∧
      t.boot.attempts = (if s.bit F.BOOT_CFG.SAFE_RESTART then ((0xC, s.boot.aonSec) :: s.attemptsKnown).take 3 else s.attemptsKnown) ∧
      (t.rd F.BOOT_REASON.LAST_FAIL, t.saf.wdogOn) = (0xC, false) ∧
      (s.boot.mramFitted = true → memRead t.acl.mram 0 192 = attemptBytes 0xC t.boot.attempts) ∧
      (s.bit F.BOOT_STATUS.MRAM_ABSENT = false → t.rd F.ACL_COPY.COPIED = s.rd F.ACL_STATUS.NEXT) ∧
      sameMemories s t))

/-- LATENT_GROUP_RUN, LATENT_IDLE_TIMER. A group in progress, of a lone device or while HEARTBEATs show the twin's
tracker at rest, whose tests pass and whose eyes are wide enough, adds one to GROUPS and moves NEXT_GROUP on; group
7 ends the cycle, and an overdue cycle goes on with the next group. Group 0 disarms the Tally injection. A test of
the group that fails is held as FAIL_TEST with cause LATENT. Else T1 is left out, flagged LATENT_SKIPPED and due.
While no leaf is armed or running, a group starts every second. Log entries: 84, 96. (Rests on: spec/14_faults.md,
Latent-fault self-tests; spec/14_faults.md, SAF_LATENT; spec/14_faults.md, The Guard.) -/
def Obligations.SelfTestsRunInGroups : Prop :=
  (∀ (s : State) (eyes : List Nat),
    s.saf.groupRunning = true →
    s.saf.acting = false →
    (s.bit F.TWN_CFG.MODE = false ∨ (s.twn.alive = true ∧ s.twn.peerRunning = false)) →
    (∀ e ∈ eyes, 32 ≤ e) →
    runsTo (.latentGroupRun 0 eyes) s (fun t =>
      (t.rd F.SAF_LATENT.NEXT_GROUP, t.rd F.SAF_COUNTS.GROUPS) = ((s.rd F.SAF_LATENT.NEXT_GROUP + 1) % 8, min (s.rd F.SAF_COUNTS.GROUPS + 1) 65535) ∧
      (s.rd F.SAF_LATENT.NEXT_GROUP = 7 → (t.rd F.SAF_LATENT.CYCLES, t.rd F.SAF_LATENT.CYCLE_AGE) = ((s.rd F.SAF_LATENT.CYCLES + 1) % 65536, 0)) ∧
      (s.rd F.SAF_LATENT.NEXT_GROUP = 0 → t.bit F.TAL_INJECT.ARM = false) ∧
      (t.saf.groupRunning, t.saf.overdue, t.saf.t1Due) = (s.saf.overdue && s.rd F.SAF_LATENT.NEXT_GROUP ≠ 7, s.saf.overdue && s.rd F.SAF_LATENT.NEXT_GROUP ≠ 7, false) ∧
      t = { s with regs := t.regs, saf := t.saf })) ∧
  (∀ (s : State),
    s.saf.groupRunning = true →
    s.saf.acting = false →
    s.bit F.TWN_CFG.MODE = true →
    (s.twn.alive = false ∨ s.twn.peerRunning = true) →
    runsTo (.latentGroupRun 1 []) s (fun t =>
      t.rd F.SAF_ERR.LATENT_SKIPPED = 1 ∧
      (t.saf.t1Due, t.saf.acting) = (true, false) ∧
      (t.rd F.SAF_LATENT.NEXT_GROUP, t.rd F.SAF_COUNTS.GROUPS) = ((s.rd F.SAF_LATENT.NEXT_GROUP + 1) % 8, min (s.rd F.SAF_COUNTS.GROUPS + 1) 65535) ∧
      t = { s with regs := t.regs, hif := { s.hif with due := t.hif.due }, saf := t.saf, acl := t.acl, ikl := t.ikl })) ∧
  (∀ (s : State) (fail : Fin 11) (eyes : List Nat),
    s.mode ≠ 0 →
    s.saf.groupRunning = true →
    s.saf.acting = false →
    (s.bit F.TWN_CFG.MODE = false ∨ (s.twn.alive = true ∧ s.twn.peerRunning = false)) →
    fail ≠ 0 →
    (groupTests (s.rd F.SAF_LATENT.NEXT_GROUP)).contains fail.val = true →
    runsTo (.latentGroupRun fail eyes) s (fun t =>
      (t.rd F.SAF_LATENT.FAIL_TEST, t.saf.groupRunning) = (fail.val, false) ∧
      guardActs 12 s t)) ∧
  (∀ (s : State),
    s.mode = 2 ∨ s.mode = 3 →
    s.rd F.SLT_STATUS.STATE = 0 →
    s.saf.acting = false →
    s.saf.groupRunning = false →
    runsTo (.latentIdleTimer) s (fun t =>
      t = { s with saf := { s.saf with groupRunning := true, overdue := false } }))

/-- KPR_REQ_PUSH, COMMIT_TABLE, YIELD, RETRAIN, LINK, SCRUB, NOTE, RESTART, SAFE. A push puts the core's staged words
into the queue of 16, or is discarded from a full queue. The request at the head is served in PREVIEW and RUN,
leaves the queue and is counted: a table commit begins, or, on the authority of a pair whose link runs, waits with
its COMMIT behind the TABLE messages on lane 5; YIELD, LINK and SCRUB act as their registers do and post OK; RETRAIN
begins a recovery and waits, or is refused; NOTE writes its record when it is due; RESTART restarts the Docents;
SAFE, in every mode, is the Guard's cause DEMAND. In another mode a request is refused, and one with an unknown code
fails with FORMAT. Log entries: 97, 98, 148, 173. (Rests on: spec/15_firmware.md, Requests and notices;
spec/15_firmware.md, KPR_REQw; spec/05_dose.md, Beam tables; spec/12_twin.md, Mirrored state; spec/12_twin.md,
Take-over; spec/07_blanker_link.md, Bring-up and rate; spec/12_twin.md, The Ikisal link; spec/08_memory.md,
Scrubbing and uncorrectable data; spec/14_faults.md, The Guard.) -/
def Obligations.TheKeeperServesRequests : Prop :=
  (∀ (s : State) (m : Master),
    s.serves m F.KPR_REQ_PUSH.PUSH.off = true →
    s.kpr.queue.length < 16 →
    runsTo (.kprReqPush m) s (fun t =>
      t.kpr = { s.kpr with queue := s.kpr.queue ++ [⟨masterCore m, s.stagedRequest (masterCore m)⟩] } ∧
      t.rd F.KPR_STATUS.QUEUED = s.kpr.queue.length + 1 ∧
      t = { s with regs := t.regs, kpr := t.kpr } ∧
      regsApart [F.KPR_STATUS.QUEUED.off] s t)) ∧
  (∀ (s : State) (m : Master),
    s.serves m F.KPR_REQ_PUSH.PUSH.off = true →
    16 ≤ s.kpr.queue.length →
    runsTo (.kprReqPush m) s (fun t =>
      t.rd F.KPR_ERR.REQ_FULL = 1 ∧
      t = { s with regs := t.regs } ∧
      regsApart [F.KPR_ERR.REQ_FULL.off] s t)) ∧
  (∀ (s : State) (r : KprReq) (rest : List KprReq),
    asked 1 [4, 5, 8, 9, 10, 11] r rest s →
    s.mode = 2 ∨ s.mode = 3 →
    s.pairState ≠ 3 →
    (s.bit F.TWN_CFG.MODE && s.hasAuth && decide (1 < s.rd F.IKL_STATUS.STATE) && decide (s.rd F.IKL_STATUS.STATE ≠ 6)) = false →
    ([0, 1] : List Nat).all (fun p => !(s.leafAt p).any (fun l => l.admitted && l.id = fieldAt r.bytes 4 2)) = true →
    runsTo (.commitTable) s (fun t =>
      served rest s t ∧
      t.bct.commit = some ⟨fieldAt r.bytes 4 2, fieldAt r.bytes 8 4, none, s.cycle⟩ ∧
      (t.rd F.BCT_STATUS.STATE, t.rd F.BCT_STATUS.CAUSE, t.rd F.BCT_STATUS.LEAF) = (1, 0, fieldAt r.bytes 4 2) ∧
      t.kpr.commitTag = some (fieldAt r.bytes 2 2) ∧
      t.ikl = s.ikl ∧
      sameMemories s t)) ∧
  (∀ (s : State) (r : KprReq) (rest : List KprReq),
    asked 1 [4, 5, 8, 9, 10, 11] r rest s →
    s.mode = 2 ∨ s.mode = 3 →
    s.pairState ≠ 3 →
    (s.bit F.TWN_CFG.MODE && s.hasAuth && decide (1 < s.rd F.IKL_STATUS.STATE) && decide (s.rd F.IKL_STATUS.STATE ≠ 6)) = true →
    s.ddrErr = [] →
    runsTo (.commitTable) s (fun t =>
      served rest s t ∧
      t.ikl.commits = s.ikl.commits ++ [(fieldAt r.bytes 4 2, fieldAt r.bytes 8 4, fieldAt r.bytes 2 2)] ∧
      (∀ n, n ≠ 5 → t.ikl.lanes[n]? = s.ikl.lanes[n]?) ∧
      (t.bct, t.kpr.commitTag, t.twn) = (s.bct, s.kpr.commitTag, s.twn) ∧
      sameMemories s t)) ∧
  (∀ (s : State) (r : KprReq) (rest : List KprReq),
    asked 2 [] r rest s →
    s.mode = 2 ∨ s.mode = 3 →
    runsTo (.yield) s (fun t =>
      served rest s t ∧
      noticed 1 0 (fieldAt r.bytes 2 2) s t ∧
      (s.pairState = 4 → s.rd F.TWN_PEER_POS.STATE = 3 → s.twn.peerDiverged = false → t.rd F.TWN_STATUS.YIELD_PENDING = 1) ∧
      t = { s with regs := t.regs, kpr := t.kpr, sram := t.sram, sramPoison := t.sramPoison, sramErr := t.sramErr } ∧
      regsApart [F.KPR_STATUS.QUEUED.off, F.KPR_COUNTS.REQUESTS.off, F.DOC_STATUS.NOTICE_NEXT.off, (F.DOC_ROUTE.PENDING 19).off, F.TWN_STATUS.YIELD_PENDING.off] s t)) ∧
  (∀ (s : State) (r : KprReq) (rest : List KprReq),
    s.kpr.queue = r :: rest →
    rest.length ≤ 15 →
    s.keeperServes = true →
    fieldAt r.bytes 0 1 = 0 ∨ 8 < fieldAt r.bytes 0 1 →
    runsTo (.yield) s (fun t =>
      served rest s t ∧
      noticed 1 2 (fieldAt r.bytes 2 2) s t ∧
      t.rd F.KPR_ERR.REQ_REFUSED = 1)) ∧
  (∀ (s : State) (r : KprReq) (rest : List KprReq),
    asked 2 [] r rest s →
    s.mode ≠ 2 →
    s.mode ≠ 3 →
    runsTo (.yield) s (fun t =>
      served rest s t ∧
      noticed 1 1 (fieldAt r.bytes 2 2) s t ∧
      t.rd F.KPR_ERR.REQ_REFUSED = 1)) ∧
  (∀ (s : State) (r : KprReq) (rest : List KprReq) (c : Fin 6),
    asked 3 [4] r rest s →
    s.mode = 2 ∨ s.mode = 3 →
    fieldAt r.bytes 4 1 = c.val →
    s.mem.ch.length = 6 →
    (s.rd (F.MEM_CH_STATUS.STATE c) = 2 ∨ s.rd (F.MEM_CH_STATUS.STATE c) = 4) →
    s.rd F.SLT_STATUS.STATE = 0 →
    runsTo (.retrain) s (fun t =>
      served rest s t ∧
      t.kpr.retrains = s.kpr.retrains ++ [(c.val, fieldAt r.bytes 2 2)] ∧
      t.rd (F.MEM_CH_STATUS.STATE c) = 1 ∧
      ((t.memCh c).retrain, (t.memCh c).recovery, t.trained c) = (false, true, false) ∧
      sameMemories s t)) ∧
  (∀ (s : State) (r : KprReq) (rest : List KprReq),
    asked 3 [4] r rest s →
    s.mode = 2 ∨ s.mode = 3 →
    fieldAt r.bytes 4 1 < 6 →
    s.mayRetrain (fieldAt r.bytes 4 1) = false →
    runsTo (.retrain) s (fun t =>
      served rest s t ∧
      noticed 1 1 (fieldAt r.bytes 2 2) s t ∧
      t.rd F.KPR_ERR.REQ_REFUSED = 1 ∧
      t.mem = s.mem)) ∧
  (∀ (s : State) (r : KprReq) (rest : List KprReq),
    asked 4 [4, 5] r rest s →
    s.mode = 2 ∨ s.mode = 3 →
    fieldAt r.bytes 4 1 < 2 →
    fieldAt r.bytes 5 1 < 4 →
    (∀ g, g < 4 → s.grpState g ≠ 8) →
    s.blk.grp.length = 4 →
    runsTo (.link) s (fun t =>
      served rest s t ∧
      noticed 1 0 (fieldAt r.bytes 2 2) s t ∧
      ((fieldAt r.bytes 4 1, fieldAt r.bytes 5 1) = (0, 0) → (t.rd F.BLK_CTL.ENABLE, t.blk.stepTo, t.blk.stepReq) = (0, none, false) ∧ ∀ g, g < 4 → t.grpState g = if s.grpState g = 0 then 0 else 8) ∧
      ((fieldAt r.bytes 4 1, fieldAt r.bytes 5 1) = (0, 1) → t.rd F.BLK_CTL.ENABLE = 1 ∧ ∀ g, g < 4 → t.grpState g = if s.grpState g = 0 then 1 else s.grpState g) ∧
      ((fieldAt r.bytes 4 1, fieldAt r.bytes 5 1) = (0, 2) → t.blk = { s.blk with stepReq := true }) ∧
      ((fieldAt r.bytes 4 1, fieldAt r.bytes 5 1) = (0, 3) → ∀ g, g < 4 → t.grpState g = if s.grpState g = 4 then 6 else s.grpState g) ∧
      ((fieldAt r.bytes 4 1, fieldAt r.bytes 5 1) = (1, 0) → s.rd F.IKL_STATUS.STATE ≠ 0 → (t.rd F.IKL_CTL.ENABLE, t.rd F.IKL_STATUS.STATE) = (0, 6)) ∧
      ((fieldAt r.bytes 4 1, fieldAt r.bytes 5 1) = (1, 1) → s.rd F.IKL_STATUS.STATE = 0 → (t.rd F.IKL_CTL.ENABLE, t.rd F.IKL_STATUS.STATE) = (1, 1)) ∧
      ((fieldAt r.bytes 4 1, fieldAt r.bytes 5 1) = (1, 2) → s.paired = false → s.rd F.IKL_STATUS.STATE = 3 → s.iklNextRate.isSome = true → t.rd F.IKL_STATUS.STATE = 4) ∧
      ((fieldAt r.bytes 4 1, fieldAt r.bytes 5 1) = (1, 3) → s.rd F.IKL_STATUS.STATE = 3 → t.rd F.IKL_STATUS.STATE = 5))) ∧
  (∀ (s : State) (r : KprReq) (rest : List KprReq),
    asked 5 [4] r rest s →
    s.mode = 2 ∨ s.mode = 3 →
    fieldAt r.bytes 4 1 < 2 →
    runsTo (.scrub) s (fun t =>
      served rest s t ∧
      noticed 1 0 (fieldAt r.bytes 2 2) s t ∧
      t.rd F.SCR_CTL.ENABLE = fieldAt r.bytes 4 1 ∧
      (fieldAt r.bytes 4 1 = 0 → t.rd F.SCR_STATUS.STATE = (if s.rd F.SCR_STATUS.STATE = 0 then 0 else 2)) ∧
      (fieldAt r.bytes 4 1 = 1 → s.rd F.SCR_STATUS.STATE = 0 → t.rd F.SCR_STATUS.STATE = (if s.anyResting then 3 else 1)))) ∧
  (∀ (s : State) (r : KprReq) (rest : List KprReq),
    asked 6 (List.range' 16 12) r rest s →
    s.mode = 2 ∨ s.mode = 3 →
    s.aclDue 0x0303 = true →
    s.aclWaiting = false →
    runsTo (.note) s (fun t =>
      served rest s t ∧
      noticed 1 0 (fieldAt r.bytes 2 2) s t ∧
      t.acl.ring.head?.map (fun x => (x.event, x.data)) = some (0x0303, (r.bytes.drop 16).take 12) ∧
      t.rd F.ACL_STATUS.NEXT = (s.rd F.ACL_STATUS.NEXT + 1) % 2 ^ 32)) ∧
  (∀ (s : State) (r : KprReq) (rest : List KprReq),
    asked 6 (List.range' 16 12) r rest s →
    s.mode = 2 ∨ s.mode = 3 →
    s.aclDue 0x0303 = false →
    runsTo (.note) s (fun t =>
      served rest s t ∧
      noticed 1 1 (fieldAt r.bytes 2 2) s t ∧
      t.rd F.ACL_COUNTS.SUPPRESSED = min (s.rd F.ACL_COUNTS.SUPPRESSED + 1) 65535 ∧
      t.acl = s.acl)) ∧
  (∀ (s : State) (r : KprReq) (rest : List KprReq) (mepc : BitVec 64),
    asked 7 [] r rest s →
    s.mode = 2 ∨ s.mode = 3 →
    s.rd F.DOC_STATUS.STATE = 1 →
    s.rd F.DOC_STATUS.RESTARTS < s.rd F.DOC_CFG.RESTART_LIMIT →
    runsTo (.restart mepc) s (fun t =>
      docentsStopped s t ∧
      (t.rd F.DOC_STATUS.STATE, t.rd F.DOC_STATUS.CAUSE, t.rd F.DOC_STATUS.RESTARTS) = (2, 3, s.rd F.DOC_STATUS.RESTARTS + 1) ∧
      t.kpr.restarting = some (r.core, mepc.toNat) ∧
      (t.sram, t.sramPoison) = ([], []))) ∧
  (∀ (s : State) (r : KprReq) (rest : List KprReq),
    asked 8 [] r rest s →
    s.mode ≠ 0 →
    runsTo (.safe) s (fun t =>
      served rest s t ∧
      guardActs 14 s t))

/-- DOC_WDOG_KICK, DOC_WATCHDOG_EXPIRY, DOC_LOCKUP, DOC_CTL_RESTART, DOC_RESTART_COMPLETE, DOC_RESTART_AGE_OUT,
HOSTMB_SEND, HOSTMB_HOST_READ. A kick only restarts the core's interval. Each cause of R350, with the Keeper and the
Docents in service, stops what the Docents drive, empties the shared SRAM and begins a restart, counted, unless
RESTART_LIMIT starts are held already: the Docents are then HELD. A restart whose section verifies puts them in
service with a notice; one whose read fails is a failed start. A restart one hour old leaves the count. A message
into an empty mailbox raises its vector, into a full one it is discarded; the host's read empties it and raises
source 27. Log entries: 18, 99, 100, 152. (Rests on: spec/15_firmware.md, Docent watchdog and restart;
spec/15_firmware.md, DOC_WDOGc; spec/15_firmware.md, Interrupts and host mailboxes; spec/15_firmware.md,
DOC_HOSTMBm.) -/
def Obligations.TheDocentsRestartAndTheirMailboxesPass : Prop :=
  (∀ (s : State) (m : Master) (c : Fin 8),
    s.serves m (F.DOC_WDOG.KICK c).off = true →
    runsTo (.docWdogKick m c) s (fun t =>
      t = { s with kpr := { s.kpr with kicks := smSet (fun _ => 0) s.kpr.kicks c s.cycle } })) ∧
  (∀ (s : State) (c : Fin 8) (mepc : BitVec 64),
    s.coreOn c = true →
    s.keeperServes = true →
    s.rd F.DOC_STATUS.STATE = 1 →
    s.rd F.DOC_STATUS.RESTARTS < s.rd F.DOC_CFG.RESTART_LIMIT →
    runsTo (.docWatchdogExpiry c mepc) s (fun t =>
      docentsStopped s t ∧
      (t.rd F.DOC_STATUS.STATE, t.rd F.DOC_STATUS.CAUSE, t.rd F.DOC_STATUS.CORE, t.rd F.DOC_STATUS.RESTARTS) = (2, 1, c.val, s.rd F.DOC_STATUS.RESTARTS + 1) ∧
      t.kpr.restarting = some (c.val, mepc.toNat) ∧
      (t.sram, t.sramPoison) = ([], []))) ∧
  (∀ (s : State) (c : Fin 8) (mepc : BitVec 64),
    s.coreOn c = true →
    s.keeperServes = true →
    s.rd F.DOC_STATUS.STATE = 1 →
    s.rd F.DOC_STATUS.RESTARTS < s.rd F.DOC_CFG.RESTART_LIMIT →
    runsTo (.docLockup c mepc) s (fun t =>
      docentsStopped s t ∧
      (t.rd F.DOC_STATUS.STATE, t.rd F.DOC_STATUS.CAUSE, t.rd F.DOC_STATUS.CORE, t.rd F.DOC_STATUS.RESTARTS) = (2, 2, c.val, s.rd F.DOC_STATUS.RESTARTS + 1) ∧
      t.kpr.restarting = some (c.val, mepc.toNat) ∧
      (t.sram, t.sramPoison) = ([], []))) ∧
  (∀ (s : State) (c : Fin 8) (mepc : BitVec 64),
    s.coreOn c = true →
    s.keeperServes = true →
    s.rd F.DOC_STATUS.STATE = 1 →
    s.rd F.DOC_CFG.RESTART_LIMIT ≤ s.rd F.DOC_STATUS.RESTARTS →
    s.aclWaiting = false →
    runsTo (.docLockup c mepc) s (fun t =>
      docentsStopped s t ∧
      (t.rd F.DOC_STATUS.STATE, t.rd F.DOC_STATUS.CAUSE, t.rd F.DOC_STATUS.CORE, t.rd F.DOC_STATUS.RESTARTS) = (3, 2, c.val, s.rd F.DOC_STATUS.RESTARTS) ∧
      t.kpr.restarting = s.kpr.restarting ∧
      t.acl.ring.head?.map AclRec.event = some 0x0302)) ∧
  (∀ (s : State) (m : Master) (mepc : BitVec 64),
    s.serves m F.DOC_CTL.RESTART.off = true →
    s.keeperServes = true →
    s.rd F.DOC_STATUS.STATE = 1 →
    s.rd F.DOC_STATUS.RESTARTS < s.rd F.DOC_CFG.RESTART_LIMIT →
    runsTo (.docCtlRestart m mepc) s (fun t =>
      docentsStopped s t ∧
      (t.rd F.DOC_STATUS.STATE, t.rd F.DOC_STATUS.CAUSE, t.rd F.DOC_STATUS.CORE, t.rd F.DOC_STATUS.RESTARTS) = (2, 3, s.rd F.DOC_STATUS.CORE, s.rd F.DOC_STATUS.RESTARTS + 1) ∧
      t.kpr.restarting = some (masterCore m, mepc.toNat) ∧
      (t.sram, t.sramPoison) = ([], []))) ∧
  (∀ (s : State) (core mepc : Nat),
    s.kpr.restarting = some (core, mepc) →
    s.rd F.DOC_STATUS.STATE = 2 →
    s.keeperServes = true →
    s.aclWaiting = false →
    runsTo (.docRestartComplete true) s (fun t =>
      (s.docentGood = true → (t.rd F.DOC_STATUS.STATE, t.kpr.restarting) = (1, none)) ∧
      (s.docentGood = true → noticed 3 (s.rd F.DOC_STATUS.CAUSE) 0 s t) ∧
      (s.docentGood = true → t.acl.ring.head?.map AclRec.event = some 0x0302))) ∧
  (∀ (s : State) (core mepc : Nat),
    s.kpr.restarting = some (core, mepc) →
    s.rd F.DOC_STATUS.STATE = 2 →
    s.keeperServes = true →
    s.mode = 2 ∨ s.mode = 3 →
    s.boot.attempts = [] →
    s.boot.aonLost = false →
    s.pin.testLevel = true →
    s.bit F.BOOT_STATUS.QUIESCED = false →
    runsTo (.docRestartComplete false) s (fun t =>
      (t.mode, t.rd F.BOOT_REASON.RESET, t.rd F.BOOT_REASON.LAST_FAIL) = (1, 4, 6) ∧
      t.boot.attempts = [(6, s.boot.aonSec)])) ∧
  (∀ (s : State),
    runsTo (.docRestartAgeOut) s (fun t =>
      t.rd F.DOC_STATUS.RESTARTS = s.rd F.DOC_STATUS.RESTARTS - 1 ∧
      t = { s with regs := t.regs } ∧
      regsApart [F.DOC_STATUS.RESTARTS.off] s t)) ∧
  (∀ (s : State) (m : Master) (mb : Fin 8) (w : BusWidth) (v : Word),
    s.serves m (F.DOC_HOSTMB.WORD mb 3).off = true →
    s.rd F.DOC_HOSTMB_FULL.FULL / 2 ^ mb.val % 2 = 0 →
    runsTo (.hostmbSend m mb w v) s (fun t =>
      t.reg (F.DOC_HOSTMB.WORD mb 3).off = s.staged (F.DOC_HOSTMB.WORD mb 3).off w v ∧
      t.rd F.DOC_HOSTMB_FULL.FULL = s.rd F.DOC_HOSTMB_FULL.FULL + 2 ^ mb.val ∧
      t = { s with regs := t.regs, hif := { s.hif with due := s.hif.due ||| bit64 (25 + mb) } } ∧
      regsApart [(F.DOC_HOSTMB.WORD mb 3).off, F.DOC_HOSTMB_FULL.FULL.off] s t)) ∧
  (∀ (s : State) (m : Master) (mb : Fin 8) (w : BusWidth) (v : Word),
    s.serves m (F.DOC_HOSTMB.WORD mb 3).off = true →
    s.rd F.DOC_HOSTMB_FULL.FULL / 2 ^ mb.val % 2 = 1 →
    runsTo (.hostmbSend m mb w v) s (fun t =>
      t = s)) ∧
  (∀ (s : State) (mb : Fin 8),
    s.mode ≠ 0 →
    s.rd F.DOC_HOSTMB_FULL.FULL / 2 ^ mb.val % 2 = 1 →
    runsTo (.hostmbHostRead mb) s (fun t =>
      t.readData = s.reg (F.DOC_HOSTMB.WORD mb 3).off ∧
      t.rd F.DOC_HOSTMB_FULL.FULL = s.rd F.DOC_HOSTMB_FULL.FULL - 2 ^ mb.val ∧
      t.rd (F.DOC_ROUTE.PENDING 27) = 1 ∧
      t = { s with regs := t.regs, readData := t.readData } ∧
      regsApart [F.DOC_HOSTMB_FULL.FULL.off, (F.DOC_ROUTE.PENDING 27).off] s t)) ∧
  (∀ (s : State) (mb : Fin 8),
    s.mode ≠ 0 →
    s.rd F.DOC_HOSTMB_FULL.FULL / 2 ^ mb.val % 2 = 0 →
    runsTo (.hostmbHostRead mb) s (fun t =>
      t = { s with readData := s.reg (F.DOC_HOSTMB.WORD mb 3).off }))

/-- CRC_CLAIM_READ, CRC_PRESET, CRC_LOAD, CRC_RELEASE, CRC_DATA_FEED, CRC_RESULT_READ, CRC_STATE_WRITE. A core's read of
CLAIM takes a free unit and returns the core's number, of a unit taken by another core zero, and other masters read
the owner. The owner's preset loads the row of Table 15-6, LOAD takes INIT, a write of STATE replaces the register,
each after the feeds that came before it (the model's choice, log 135); a feed joins the queue of four, and on a
full queue waits until the oldest has been processed; a read of RESULT or STATE returns after all of them; RELEASE
frees the unit. A unit's parameters, and the other units, stay as they are. (Rests on: spec/15_firmware.md,
Check-value units; spec/15_firmware.md, CRC_Un_CLAIM; spec/15_firmware.md, CRC_Un_CFG; spec/15_firmware.md,
CRC_Un_STATE.) -/
def Obligations.TheCheckValueUnitsAreClaimedAndFed : Prop :=
  (∀ (s : State) (c : Fin 8) (n : Fin 4),
    s.silent (.docentM c) = false →
    s.rd (F.CRC_U_CLAIM.OWNER n) = 0 →
    runsTo (.crcClaimRead (.docentM c) n) s (fun t =>
      t.rd (F.CRC_U_CLAIM.OWNER n) = c.val + 1 ∧
      t = { s with regs := t.regs, readData := BitVec.ofNat 64 (c.val + 1) } ∧
      regsApart [(F.CRC_U_CLAIM.OWNER n).off] s t)) ∧
  (∀ (s : State) (c : Fin 8) (n : Fin 4),
    s.silent (.docentM c) = false →
    s.rd (F.CRC_U_CLAIM.OWNER n) ≠ 0 →
    runsTo (.crcClaimRead (.docentM c) n) s (fun t =>
      t = { s with readData := if s.rd (F.CRC_U_CLAIM.OWNER n) = c.val + 1 then BitVec.ofNat 64 (c.val + 1) else 0 })) ∧
  (∀ (s : State) (c : Fin 8) (n : Fin 4),
    s.silent (.docentU c) = false →
    s.rd (F.CRC_U_CLAIM.OWNER n) = 0 →
    s.bit (F.CRC_U_CFG.USER n) = true →
    runsTo (.crcClaimRead (.docentU c) n) s (fun t =>
      t.rd (F.CRC_U_CLAIM.OWNER n) = c.val + 1 ∧
      t = { s with regs := t.regs, readData := BitVec.ofNat 64 (c.val + 1) } ∧
      regsApart [(F.CRC_U_CLAIM.OWNER n).off] s t)) ∧
  (∀ (s : State) (n : Fin 4),
    s.mode ≠ 0 →
    runsTo (.crcClaimRead .host n) s (fun t =>
      t = { s with readData := BitVec.ofNat 64 (s.rd (F.CRC_U_CLAIM.OWNER n)) })) ∧
  (∀ (s : State) (m : Master) (n : Fin 4) (p : Fin 4),
    s.serves m (F.CRC_U_CFG.PRESET n).off = true →
    s.crcOwner m n = true →
    p.val < 3 →
    runsTo (.crcPreset m n p) s (fun t =>
      (t.rd (F.CRC_U_CFG.PRESET n), t.rd (F.CRC_U_CFG.WIDTH n) + 1, t.rd (F.CRC_U_POLY.POLY n)) = (p.val, (crcPresetRow p).1, (crcPresetRow p).2.1) ∧
      (t.rd (F.CRC_U_INIT.INIT n), t.rd (F.CRC_U_INIT.XOROUT n)) = ((crcPresetRow p).2.2.1, (crcPresetRow p).2.2.2.2) ∧
      (t.rd (F.CRC_U_CFG.REFIN n), t.rd (F.CRC_U_CFG.REFOUT n)) = ((crcPresetRow p).2.2.2.1, (crcPresetRow p).2.2.2.1) ∧
      t.crcFeeds n = [] ∧
      t.rd (F.CRC_U_STATE.REG n) = crcFeed (s.rd (F.CRC_U_CFG.WIDTH n) + 1) (s.rd (F.CRC_U_POLY.POLY n)) (s.bit (F.CRC_U_CFG.REFIN n)) (s.rd (F.CRC_U_STATE.REG n)) (s.crcFeeds n).flatten % 2 ^ 32 ∧
      t = { s with regs := t.regs, kpr := { s.kpr with crcQueue := t.kpr.crcQueue } } ∧
      regsApart [(F.CRC_U_CFG.PRESET n).off, (F.CRC_U_POLY.POLY n).off, (F.CRC_U_INIT.INIT n).off, (F.CRC_U_STATE.REG n).off, (F.CRC_U_STATUS.BUSY n).off] s t)) ∧
  (∀ (s : State) (m : Master) (n : Fin 4),
    s.serves m (F.CRC_U_CFG.PRESET n).off = true →
    s.crcOwner m n = true →
    s.crcFeeds n = [] →
    runsTo (.crcPreset m n 3) s (fun t =>
      t.rd (F.CRC_U_CFG.PRESET n) = 3 ∧
      regsApart [(F.CRC_U_CFG.PRESET n).off, (F.CRC_U_STATUS.BUSY n).off] s t ∧
      (t.rd (F.CRC_U_CFG.WIDTH n), t.rd (F.CRC_U_CFG.REFIN n), t.rd (F.CRC_U_CFG.REFOUT n)) = (s.rd (F.CRC_U_CFG.WIDTH n), s.rd (F.CRC_U_CFG.REFIN n), s.rd (F.CRC_U_CFG.REFOUT n)))) ∧
  (∀ (s : State) (m : Master) (n : Fin 4),
    s.serves m (F.CRC_U_CFG.PRESET n).off = true →
    s.crcOwner m n = true →
    runsTo (.crcLoad m n) s (fun t =>
      t.rd (F.CRC_U_STATE.REG n) = s.rd (F.CRC_U_INIT.INIT n) ∧
      (t.crcFeeds n, t.bit (F.CRC_U_STATUS.BUSY n)) = ([], false) ∧
      t = { s with regs := t.regs, kpr := { s.kpr with crcQueue := t.kpr.crcQueue } } ∧
      regsApart [(F.CRC_U_STATE.REG n).off, (F.CRC_U_STATUS.BUSY n).off] s t)) ∧
  (∀ (s : State) (m : Master) (n : Fin 4),
    s.serves m (F.CRC_U_CFG.PRESET n).off = true →
    s.crcOwner m n = true →
    runsTo (.crcRelease m n) s (fun t =>
      t.rd (F.CRC_U_CLAIM.OWNER n) = 0 ∧
      t = { s with regs := t.regs } ∧
      regsApart [(F.CRC_U_CLAIM.OWNER n).off] s t)) ∧
  (∀ (s : State) (m : Master) (n : Fin 4),
    s.serves m (F.CRC_U_CFG.PRESET n).off = true →
    s.crcOwner m n = false →
    runsTo (.crcRelease m n) s (fun t =>
      t.rd (F.CRC_U_STATUS.NOT_OWNER n) = 1 ∧
      t = { s with regs := t.regs } ∧
      regsApart [(F.CRC_U_STATUS.NOT_OWNER n).off] s t)) ∧
  (∀ (s : State) (m : Master) (n : Fin 4) (w : BusWidth) (v : BitVec 32),
    s.serves m (0x210000 + 0x100 * n.val + crcDataReg w) = true →
    s.crcOwner m n = true →
    (s.crcFeeds n).length < 4 →
    runsTo (.crcDataFeed m n w v) s (fun t =>
      t.crcFeeds n = s.crcFeeds n ++ [leBytes (min (busBytes w) 4) v.toNat] ∧
      t.bit (F.CRC_U_STATUS.BUSY n) = true ∧
      t = { s with regs := t.regs, kpr := { s.kpr with crcQueue := t.kpr.crcQueue } } ∧
      regsApart [(F.CRC_U_STATUS.BUSY n).off] s t)) ∧
  (∀ (s : State) (m : Master) (n : Fin 4) (w : BusWidth) (v : BitVec 32) (b : List Byte) (q : List (List Byte)),
    s.serves m (0x210000 + 0x100 * n.val + crcDataReg w) = true →
    s.crcOwner m n = true →
    s.crcFeeds n = b :: q →
    q.length = 3 →
    runsTo (.crcDataFeed m n w v) s (fun t =>
      t.crcFeeds n = q ++ [leBytes (min (busBytes w) 4) v.toNat] ∧
      t.rd (F.CRC_U_STATE.REG n) = crcFeed (s.rd (F.CRC_U_CFG.WIDTH n) + 1) (s.rd (F.CRC_U_POLY.POLY n)) (s.bit (F.CRC_U_CFG.REFIN n)) (s.rd (F.CRC_U_STATE.REG n)) b % 2 ^ 32 ∧
      t.bit (F.CRC_U_STATUS.BUSY n) = true ∧
      t = { s with regs := t.regs, kpr := { s.kpr with crcQueue := t.kpr.crcQueue } } ∧
      regsApart [(F.CRC_U_STATE.REG n).off, (F.CRC_U_STATUS.BUSY n).off] s t)) ∧
  (∀ (s : State) (m : Master) (n : Fin 4) (raw : Bool),
    s.silent m = false →
    s.readable m (if raw then (F.CRC_U_STATE.REG n).off else (F.CRC_U_RESULT.RESULT n).off) = true →
    runsTo (.crcResultRead m n raw) s (fun t =>
      t.rd (F.CRC_U_STATE.REG n) = crcFeed (s.rd (F.CRC_U_CFG.WIDTH n) + 1) (s.rd (F.CRC_U_POLY.POLY n)) (s.bit (F.CRC_U_CFG.REFIN n)) (s.rd (F.CRC_U_STATE.REG n)) (s.crcFeeds n).flatten % 2 ^ 32 ∧
      t.rd (F.CRC_U_RESULT.RESULT n) = crcResult (s.rd (F.CRC_U_CFG.WIDTH n) + 1) (s.bit (F.CRC_U_CFG.REFOUT n)) (s.rd (F.CRC_U_INIT.XOROUT n)) (t.rd (F.CRC_U_STATE.REG n)) % 2 ^ 32 ∧
      t.readData = BitVec.ofNat 64 (if raw then t.rd (F.CRC_U_STATE.REG n) else crcResult (s.rd (F.CRC_U_CFG.WIDTH n) + 1) (s.bit (F.CRC_U_CFG.REFOUT n)) (s.rd (F.CRC_U_INIT.XOROUT n)) (t.rd (F.CRC_U_STATE.REG n))) ∧
      (t.crcFeeds n, t.bit (F.CRC_U_STATUS.BUSY n)) = ([], false) ∧
      t = { s with regs := t.regs, readData := t.readData, kpr := { s.kpr with crcQueue := t.kpr.crcQueue } } ∧
      regsApart [(F.CRC_U_STATE.REG n).off, (F.CRC_U_RESULT.RESULT n).off, (F.CRC_U_STATUS.BUSY n).off] s t)) ∧
  (∀ (s : State) (m : Master) (n : Fin 4) (v : BitVec 32),
    s.serves m (F.CRC_U_STATE.REG n).off = true →
    s.crcOwner m n = true →
    runsTo (.crcStateWrite m n v) s (fun t =>
      t.rd (F.CRC_U_STATE.REG n) = v.toNat ∧
      (t.crcFeeds n, t.bit (F.CRC_U_STATUS.BUSY n)) = ([], false) ∧
      t = { s with regs := t.regs, kpr := { s.kpr with crcQueue := t.kpr.crcQueue } } ∧
      regsApart [(F.CRC_U_STATE.REG n).off, (F.CRC_U_STATUS.BUSY n).off] s t))

/-- CRC_PRESET, CRC_LOAD. A write of CFG.PRESET by the unit's owner with 0, 1 or 2 loads WIDTH, REFIN, REFOUT, POLY,
INIT and XOROUT of that preset from Table 15-6 in the same write; with 3 the parameters are as written before; a
write of CFG.LOAD sets the register to INIT. Over "123456789" the three presets give the check values of the table.
(Rests on: R354.) -/
def Obligations.PresetsAndLoadSetTheCheckValueUnit : Prop :=
  (∀ (s : State) (m : Master) (n p : Fin 4) (w poly init ref xor : Nat),
    s.serves m (F.CRC_U_CFG.PRESET n).off = true →
    s.crcOwner m n = true →
    ((p = 0 ∧ (w, poly, init, ref, xor) = (32, 0x1EDC6F41, 0xFFFFFFFF, 1, 0xFFFFFFFF)) ∨ (p = 1 ∧ (w, poly, init, ref, xor) = (32, 0x04C11DB7, 0xFFFFFFFF, 1, 0xFFFFFFFF)) ∨ (p = 2 ∧ (w, poly, init, ref, xor) = (16, 0x1021, 0xFFFF, 0, 0))) →
    runsTo (.crcPreset m n p) s (fun t =>
      (t.rd (F.CRC_U_CFG.WIDTH n) + 1, t.rd (F.CRC_U_CFG.REFIN n), t.rd (F.CRC_U_CFG.REFOUT n)) = (w, ref, ref) ∧
      (t.rd (F.CRC_U_POLY.POLY n), t.rd (F.CRC_U_INIT.INIT n), t.rd (F.CRC_U_INIT.XOROUT n)) = (poly, init, xor))) ∧
  (∀ (s : State) (m : Master) (n : Fin 4),
    s.serves m (F.CRC_U_CFG.PRESET n).off = true →
    s.crcOwner m n = true →
    runsTo (.crcPreset m n 3) s (fun t =>
      (t.rd (F.CRC_U_CFG.WIDTH n), t.rd (F.CRC_U_CFG.REFIN n), t.rd (F.CRC_U_CFG.REFOUT n)) = (s.rd (F.CRC_U_CFG.WIDTH n), s.rd (F.CRC_U_CFG.REFIN n), s.rd (F.CRC_U_CFG.REFOUT n)) ∧
      (t.rd (F.CRC_U_POLY.POLY n), t.rd (F.CRC_U_INIT.INIT n), t.rd (F.CRC_U_INIT.XOROUT n)) = (s.rd (F.CRC_U_POLY.POLY n), s.rd (F.CRC_U_INIT.INIT n), s.rd (F.CRC_U_INIT.XOROUT n)))) ∧
  (∀ (s : State) (m : Master) (n : Fin 4),
    s.serves m (F.CRC_U_CFG.PRESET n).off = true →
    s.crcOwner m n = true →
    runsTo (.crcLoad m n) s (fun t =>
      t.rd (F.CRC_U_STATE.REG n) = s.rd (F.CRC_U_INIT.INIT n))) ∧
  (crc32c [0x31, 0x32, 0x33, 0x34, 0x35, 0x36, 0x37, 0x38, 0x39] = 0xE3069283 ∧ crc32e [0x31, 0x32, 0x33, 0x34, 0x35, 0x36, 0x37, 0x38, 0x39] = 0xCBF43926 ∧ crc16 [0x31, 0x32, 0x33, 0x34, 0x35, 0x36, 0x37, 0x38, 0x39] = 0x29B1)

/-- ACL_RECORD_ENTER, ACL_FREEZE, ACL_UNFREEZE, FREEZE_EXPIRED, ACL_COPY_START, ACL_COPY_DONE, ACL_WINDOW_SELECT,
ACL_WINDOW_FILLED. A record that is due takes position NEXT of the ring of 8,192; while the log is frozen it waits
in the queue of 256, beyond which it is counted as lost; one that is not due is counted as suppressed. A freeze that
ends, by a write or by FREEZE_MAX, lets the queue enter in order. The copier takes the pending records of one
operation, writes each as an entry of 48 bytes and moves COPIED; a loss is then reported. A window is selected by
position or source, flagged when it names nothing, and a persistent one holds its 85 entries as they stood, once
filled. Log entries: 3, 19, 72, 150, 151. (Rests on: spec/15_firmware.md, The Accession Log; spec/15_firmware.md,
The persistent copy; spec/15_firmware.md, ACL_CTL; spec/15_firmware.md, ACL_STATUS.) -/
def Obligations.TheAccessionLogTakesHoldsAndCopiesRecords : Prop :=
  (∀ (s : State) (event : Nat) (data : List Byte),
    s.aclDue event = true →
    s.aclWaiting = false →
    runsTo (.aclRecordEnter event data) s (fun t =>
      t.acl.ring = (s.aclMake event false data :: s.acl.ring).take 8192 ∧
      (t.acl.index, t.acl.queue, t.acl.mram) = ((s.acl.index + 1) % 2 ^ 32, s.acl.queue, s.acl.mram) ∧
      (t.rd F.ACL_STATUS.NEXT, t.rd F.ACL_STATUS.HELD) = ((s.rd F.ACL_STATUS.NEXT + 1) % 2 ^ 32, min (s.acl.ring.length + 1) 8192) ∧
      regsOutside (fun b => b = 0x20 || b = 0x22) s t ∧
      sameMemories s t)) ∧
  (∀ (s : State) (event : Nat) (data : List Byte),
    s.aclDue event = true →
    s.aclWaiting = true →
    s.acl.queue.length < 256 →
    runsTo (.aclRecordEnter event data) s (fun t =>
      t.acl.queue = s.acl.queue ++ [s.aclMake event false data] ∧
      (t.acl.ring, t.rd F.ACL_STATUS.QUEUED) = (s.acl.ring, s.acl.queue.length + 1) ∧
      t = { s with regs := t.regs, acl := t.acl } ∧
      regsApart [F.ACL_STATUS.QUEUED.off] s t)) ∧
  (∀ (s : State) (event : Nat) (data : List Byte),
    s.aclDue event = true →
    s.aclWaiting = true →
    256 ≤ s.acl.queue.length →
    runsTo (.aclRecordEnter event data) s (fun t =>
      (t.acl.queue, t.acl.ring, t.acl.lost) = (s.acl.queue, s.acl.ring, s.acl.lost + 1) ∧
      (t.rd F.ACL_ERR.HOLD_OVERFLOW, t.rd F.ACL_COUNTS.HOLD_OVERFLOW) = (1, min (s.rd F.ACL_COUNTS.HOLD_OVERFLOW + 1) 65535) ∧
      regsApart [F.ACL_ERR.HOLD_OVERFLOW.off, F.ACL_COUNTS.HOLD_OVERFLOW.off] s t)) ∧
  (∀ (s : State) (event : Nat) (data : List Byte),
    s.aclDue event = false →
    runsTo (.aclRecordEnter event data) s (fun t =>
      t.rd F.ACL_COUNTS.SUPPRESSED = min (s.rd F.ACL_COUNTS.SUPPRESSED + 1) 65535 ∧
      t = { s with regs := t.regs } ∧
      regsApart [F.ACL_COUNTS.SUPPRESSED.off] s t)) ∧
  (∀ (s : State) (m : Master),
    s.serves m F.ACL_CTL.FREEZE.off = true →
    s.bit F.ACL_STATUS.FROZEN = false →
    runsTo (.aclFreeze m) s (fun t =>
      (t.rd F.ACL_CTL.FREEZE, t.rd F.ACL_STATUS.FROZEN) = (1, 1) ∧
      t = { s with regs := t.regs, acl := { s.acl with frozenAt := some s.cycle } } ∧
      regsApart [F.ACL_CTL.FREEZE.off, F.ACL_STATUS.FROZEN.off] s t)) ∧
  (∀ (s : State) (m : Master),
    s.serves m F.ACL_CTL.FREEZE.off = true →
    s.bit F.ACL_STATUS.FROZEN = true →
    s.acl.clearing = false →
    s.acl.lost = 0 →
    s.acl.ring.length ≤ 8192 →
    runsTo (.aclUnfreeze m) s (fun t =>
      (t.rd F.ACL_CTL.FREEZE, t.rd F.ACL_STATUS.FROZEN, t.rd F.ACL_STATUS.QUEUED) = (0, 0, 0) ∧
      (t.acl.queue, t.acl.ring) = ([], (s.acl.queue.reverse ++ s.acl.ring).take 8192) ∧
      t.rd F.ACL_STATUS.NEXT = (s.rd F.ACL_STATUS.NEXT + s.acl.queue.length) % 2 ^ 32 ∧
      sameMemories s t)) ∧
  (∀ (s : State) (m : Master),
    s.serves m F.ACL_CTL.FREEZE.off = true →
    s.bit F.ACL_STATUS.FROZEN = true →
    s.acl.clearing = false →
    s.acl.lost ≠ 0 →
    runsTo (.aclUnfreeze m) s (fun t =>
      t.acl.ring.head?.map (fun r => (r.event, r.data)) = some (0x0702, leBytes 4 s.acl.lost) ∧
      (t.acl.queue, t.acl.lost) = ([], 0) ∧
      t.rd F.ACL_STATUS.NEXT = (s.rd F.ACL_STATUS.NEXT + s.acl.queue.length + 1) % 2 ^ 32)) ∧
  (∀ (s : State),
    s.bit F.ACL_STATUS.FROZEN = true →
    s.acl.clearing = false →
    s.acl.lost = 0 →
    s.acl.ring.length ≤ 8192 →
    runsTo (.freezeExpired) s (fun t =>
      t.rd F.ACL_ERR.FREEZE_EXPIRED = 1 ∧
      (t.rd F.ACL_CTL.FREEZE, t.rd F.ACL_STATUS.FROZEN, t.rd F.ACL_STATUS.QUEUED) = (0, 0, 0) ∧
      (t.acl.queue, t.acl.ring) = ([], (s.acl.queue.reverse ++ s.acl.ring).take 8192))) ∧
  (∀ (s : State) (b : List AclRec),
    s.acl.copying = none →
    s.bit F.BOOT_STATUS.MRAM_ABSENT = false →
    copyBatch (s.acl.ring.take ((s.rd F.ACL_STATUS.NEXT + 2 ^ 32 - s.aclCopyFrom) % 2 ^ 32)).reverse = b →
    b ≠ [] →
    runsTo (.aclCopyStart) s (fun t =>
      t = { s with acl := { s.acl with copying := some (s.aclCopyFrom, b), spi := t.acl.spi } } ∧
      b.length ≤ 64 ∧
      t.acl.spi.head? = some [0x06#8])) ∧
  (∀ (s : State) (p : Nat) (rs : List AclRec),
    s.acl.copying = some (p, rs) →
    s.acl.copyLost = none →
    s.acl.mramNext < s.mramEntries →
    rs.length ≤ s.mramEntries →
    runsTo (.aclCopyDone) s (fun t =>
      (t.rd F.ACL_COPY.COPIED, t.acl.mramNext) = ((p + rs.length) % 2 ^ 32, (s.acl.mramNext + rs.length) % s.mramEntries) ∧
      (∀ i, i < rs.length → memRead t.acl.mram (256 + 48 * ((s.acl.mramNext + i) % s.mramEntries)) 48 = s.mramEntry (p + i) (rs.getD i ⟨0, 0, 0, 0, 0, []⟩)) ∧
      (∀ x, (∀ i, i < rs.length → x < 256 + 48 * ((s.acl.mramNext + i) % s.mramEntries) ∨ 304 + 48 * ((s.acl.mramNext + i) % s.mramEntries) ≤ x) → smGet byteDefault t.acl.mram x = smGet byteDefault s.acl.mram x) ∧
      t = { s with regs := t.regs, acl := { s.acl with copying := none, mram := t.acl.mram, mramNext := t.acl.mramNext } } ∧
      regsApart [F.ACL_COPY.COPIED.off] s t)) ∧
  (∀ (s : State) (p f n : Nat) (rs : List AclRec),
    s.acl.copying = some (p, rs) →
    s.acl.copyLost = some (f, n) →
    s.aclWaiting = false →
    s.acl.ring.length < 8192 →
    runsTo (.aclCopyDone) s (fun t =>
      (t.acl.copying, t.acl.copyLost) = (none, none) ∧
      t.acl.ring.head?.map (fun r => (r.event, r.data)) = some (0x0703, leBytes 4 f ++ leBytes 4 n))) ∧
  (∀ (s : State) (m : Master) (v : BitVec 32),
    s.serves m F.ACL_CURSOR.POS.off = true →
    runsTo (.aclWindowSelect m true v) s (fun t =>
      (t.rd F.ACL_CURSOR.POS, t.rd F.ACL_STATUS.WINDOW_READY) = (v.toNat, 0) ∧
      t.rd F.ACL_ERR.CURSOR_INVALID = (if t.aclCursorOk then s.rd F.ACL_ERR.CURSOR_INVALID else 1) ∧
      t = { s with regs := t.regs } ∧
      regsApart [F.ACL_CURSOR.POS.off, F.ACL_STATUS.WINDOW_READY.off, F.ACL_ERR.CURSOR_INVALID.off] s t)) ∧
  (∀ (s : State) (m : Master) (v : BitVec 32),
    s.serves m F.ACL_CTL.FREEZE.off = true →
    runsTo (.aclWindowSelect m false v) s (fun t =>
      (t.rd F.ACL_CTL.SOURCE, t.rd F.ACL_STATUS.WINDOW_READY) = (v.toNat % 2, 0) ∧
      t.rd F.ACL_ERR.CURSOR_INVALID = (if t.aclCursorOk then s.rd F.ACL_ERR.CURSOR_INVALID else 1) ∧
      t = { s with regs := t.regs } ∧
      regsApart [F.ACL_CTL.SOURCE.off, F.ACL_STATUS.WINDOW_READY.off, F.ACL_ERR.CURSOR_INVALID.off] s t)) ∧
  (∀ (s : State),
    s.bit F.ACL_CTL.SOURCE = true →
    runsTo (.aclWindowFilled) s (fun t =>
      t.rd F.ACL_STATUS.WINDOW_READY = 1 ∧
      (∀ i, i < 85 → (t.acl.window.drop (48 * i)).take 48 = memRead s.acl.mram (256 + 48 * ((s.rd F.ACL_CURSOR.POS + i) % s.mramEntries)) 48) ∧
      t.acl.window.drop 4080 = List.replicate 16 0 ∧
      t = { s with regs := t.regs, acl := { s.acl with window := t.acl.window, spi := t.acl.spi } } ∧
      regsApart [F.ACL_STATUS.WINDOW_READY.off] s t))

/-- NEW_CHALLENGE, CLEAR, SIGNATURE_VERIFIED, ACL_AUTH_WRITE, ACL_CLEAR_DONE. A new challenge takes two values that
nothing constrains. A CLEAR voids the challenge; with one in force, no freeze and no clear in progress the
verification starts, else it is refused with cause 4, 1 or 3. A signature that verifies leaves the tag in ACL_AUTH,
another is refused with cause 2. A tag that matches starts the write of EPOCH, another is refused with cause 5. Its
end empties the ring, keeps the CLEARED record and the held ones behind it, and counts the clear. Log entries: 11 to
13. (Rests on: spec/15_firmware.md, Clearing the log; spec/15_firmware.md, ACL_CHALLENGEw; spec/15_firmware.md,
ACL_CLEAR_REQ; spec/15_firmware.md, ACL_AUTHw.) -/
def Obligations.TheAccessionLogIsClearedByAuthority : Prop :=
  (∀ (s : State) (m : Master),
    s.serves m 0x220090 = true →
    runsTo (.newChallenge m) s (fun t =>
      (t.rd (F.ACL_CHALLENGE.BYTES 0), t.rd (F.ACL_CHALLENGE.BYTES 1)) = (Config.freeValue s.free % 2 ^ 64, Config.freeValue (s.free + 1) % 2 ^ 64) ∧
      (s.acl.clearChal = none → t.rd F.ACL_CLEAR_STATUS.STATE = 1) ∧
      t = { s with regs := t.regs, free := s.free + 2, acl := { s.acl with challengeOn := true } } ∧
      regsApart [(F.ACL_CHALLENGE.BYTES 0).off, (F.ACL_CHALLENGE.BYTES 1).off, F.ACL_CLEAR_STATUS.STATE.off] s t)) ∧
  (∀ (s : State) (m : Master),
    s.serves m 0x220090 = true →
    s.acl.clearChal = none →
    s.acl.challengeOn = true →
    s.bit F.ACL_STATUS.FROZEN = false →
    runsTo (.clear m) s (fun t =>
      (t.rd (F.ACL_CHALLENGE.BYTES 0), t.rd (F.ACL_CHALLENGE.BYTES 1), t.rd F.ACL_CLEAR_STATUS.STATE) = (0, 0, 2) ∧
      t = { s with regs := t.regs, acl := { s.acl with challengeOn := false, clearChal := some s.challenge } } ∧
      regsApart [(F.ACL_CHALLENGE.BYTES 0).off, (F.ACL_CHALLENGE.BYTES 1).off, F.ACL_CLEAR_STATUS.STATE.off] s t)) ∧
  (∀ (s : State) (m : Master),
    s.serves m 0x220090 = true →
    s.acl.clearChal ≠ none ∨ s.acl.challengeOn = false ∨ s.bit F.ACL_STATUS.FROZEN = true →
    runsTo (.clear m) s (fun t =>
      t.rd F.ACL_ERR.CLEAR_REFUSED = 1 ∧
      t.rd F.ACL_CLEAR_STATUS.RESULT = (if s.acl.clearChal ≠ none then 4 else if s.acl.challengeOn = false then 1 else 3) ∧
      t.rd F.ACL_CLEAR_STATUS.STATE = (if s.acl.clearChal ≠ none then s.rd F.ACL_CLEAR_STATUS.STATE else 3) ∧
      (t.rd (F.ACL_CHALLENGE.BYTES 0), t.rd (F.ACL_CHALLENGE.BYTES 1)) = (0, 0) ∧
      t = { s with regs := t.regs, acl := { s.acl with challengeOn := false } } ∧
      regsApart [(F.ACL_CHALLENGE.BYTES 0).off, (F.ACL_CHALLENGE.BYTES 1).off, F.ACL_CLEAR_STATUS.STATE.off, F.ACL_ERR.CLEAR_REFUSED.off] s t)) ∧
  (∀ (s : State) (chal : List Byte),
    s.acl.clearChal = some chal →
    s.acl.clearing = false →
    s.acl.queue = [] →
    s.acl.lost = 0 →
    runsTo (.signatureVerified) s (fun t =>
      (Config.ed25519Verify s.boot.publicKey (s.clearMessage chal) s.clearSig = true → (t.rd (F.ACL_AUTH.TAG 0), t.rd (F.ACL_AUTH.TAG 1), t.acl) = (fieldAt (s.clearTag chal) 0 8, fieldAt (s.clearTag chal) 8 8, { s.acl with clearing := true })) ∧
      (Config.ed25519Verify s.boot.publicKey (s.clearMessage chal) s.clearSig = false → (t.rd F.ACL_CLEAR_STATUS.RESULT, t.rd F.ACL_CLEAR_STATUS.STATE, t.rd F.ACL_ERR.CLEAR_REFUSED, t.acl) = (2, 3, 1, { s.acl with clearChal := none, matched := false })) ∧
      t = { s with regs := t.regs, acl := t.acl } ∧
      regsOutside (fun b => b = 0x22) s t)) ∧
  (∀ (s : State) (m : Master) (w : BusWidth) (v : Word) (chal : List Byte),
    s.serves m (F.ACL_AUTH.TAG 1).off = true →
    s.acl.clearChal = some chal →
    s.acl.clearing = true →
    s.acl.queue = [] →
    s.acl.lost = 0 →
    runsTo (.aclAuthWrite m w v) s (fun t =>
      t.reg (F.ACL_AUTH.TAG 1).off = s.staged (F.ACL_AUTH.TAG 1).off w v ∧
      (leBytes 8 (s.rd (F.ACL_AUTH.TAG 0)) ++ leBytes 8 (s.staged (F.ACL_AUTH.TAG 1).off w v).toNat = (s.clearTag chal).take 16 → t.acl = { s.acl with matched := true }) ∧
      (leBytes 8 (s.rd (F.ACL_AUTH.TAG 0)) ++ leBytes 8 (s.staged (F.ACL_AUTH.TAG 1).off w v).toNat ≠ (s.clearTag chal).take 16 → (t.rd F.ACL_CLEAR_STATUS.RESULT, t.rd F.ACL_CLEAR_STATUS.STATE, t.rd F.ACL_ERR.CLEAR_REFUSED, t.acl) = (5, 3, 1, { s.acl with clearChal := none, clearing := false, matched := false })) ∧
      t = { s with regs := t.regs, acl := t.acl } ∧
      regsOutside (fun b => b = 0x22) s t)) ∧
  (∀ (s : State) (chal : List Byte),
    s.acl.clearChal = some chal →
    s.acl.matched = true →
    s.bit F.ACL_STATUS.FROZEN = false →
    s.acl.lost = 0 →
    s.acl.queue.length ≤ 256 →
    runsTo (.aclClearDone) s (fun t =>
      t.acl.ring = s.acl.queue.reverse ++ [s.aclMake 0x0701 false (leBytes 2 (s.rd F.ACL_COPY.EPOCH) ++ leBytes 2 (s.rd F.ACL_COPY.EPOCH + 1) ++ leBytes 4 (s.rd F.ACL_STATUS.NEXT) ++ chal.take 4)] ∧
      (t.rd F.ACL_COPY.EPOCH, t.rd F.ACL_COPY.COPIED) = ((s.rd F.ACL_COPY.EPOCH + 1) % 2 ^ 16, s.rd F.ACL_STATUS.NEXT) ∧
      (t.rd F.ACL_STATUS.NEXT, t.rd F.ACL_STATUS.HELD) = ((s.rd F.ACL_STATUS.NEXT + 1 + s.acl.queue.length) % 2 ^ 32, s.acl.queue.length + 1) ∧
      (t.rd F.ACL_COUNTS.CLEARS, t.rd F.ACL_CLEAR_STATUS.STATE, t.rd F.ACL_CLEAR_STATUS.RESULT) = (min (s.rd F.ACL_COUNTS.CLEARS + 1) 65535, 3, 0) ∧
      (t.acl.queue, t.acl.clearChal, t.acl.clearing, t.acl.matched, t.acl.copying) = ([], none, false, false, none) ∧
      memRead t.acl.mram 194 2 = leBytes 2 (s.rd F.ACL_COPY.EPOCH + 1) ∧
      sameMemories s t))

/-- PMC_CTR_WRITE, PMC_SEL_WRITE, PMC_FREEZE, PMC_CTR_LOW_READ, PMC_COUNTER_WRAP. A 64-bit write replaces the count, a
32-bit one half of it; a counter that runs, chains nothing and can take its selection adds the events of that cycle,
a chained one none, and a wrap sets its overflow bit, raises its interrupt and carries into the counter chained to
it. A selection or freeze that is written leaves every count, and in its own cycle the counters run as before. A
64-bit read of an even counter returns it and latches the odd one of its pair for the master. A counter of events
that no command shows counts what the read reports, and wraps to zero with its overflow bit. Log entries: 101, 102.
(Rests on: spec/16_counters_cal.md, Counters; spec/16_counters_cal.md, PMC_CTL; spec/16_counters_cal.md, PMC_SELk;
spec/16_counters_cal.md, PMC_CTRk.) -/
def Obligations.CountersAreWrittenFrozenAndRead : Prop :=
  (∀ (s : State) (m : Master) (k : Fin 64) (upper : Bool) (v : Word) (events n : Nat),
    s.serves m (F.PMC_CTR.COUNT k).off = true →
    n = (if (s.pmcRuns k && !s.selBit (F.PMC_SEL.CHAIN k) k && decide (s.selRd (F.PMC_SEL.EVENT k) k ≠ 0) && s.pmcApplies k) then events else 0) →
    v.toNat % 2 ^ 48 + n < 2 ^ 48 →
    runsTo (.pmcCtrWrite m k .w64 upper v events) s (fun t =>
      t.rd (F.PMC_CTR.COUNT k) = v.toNat % 2 ^ 48 + n ∧
      t = { s with regs := t.regs } ∧
      regsApart [(F.PMC_CTR.COUNT k).off] s t)) ∧
  (∀ (s : State) (m : Master) (j : Fin 32) (k : Nat) (upper : Bool) (v : Word) (events : Nat) (kf : Fin 64),
    k = 2 * j.val + 1 →
    kf.val = k →
    s.serves m (F.PMC_CTR.COUNT k).off = true →
    s.selBit (F.PMC_SEL.CHAIN k) k = true →
    runsTo (.pmcCtrWrite m kf .w64 upper v events) s (fun t =>
      t.rd (F.PMC_CTR.COUNT k) = v.toNat % 2 ^ 48 ∧
      (t.rd F.PMC_OVF.OVF, t.pmc) = (s.rd F.PMC_OVF.OVF, s.pmc) ∧
      t = { s with regs := t.regs } ∧
      regsApart [(F.PMC_CTR.COUNT k).off] s t)) ∧
  (∀ (s : State) (m : Master) (k : Fin 64) (upper : Bool) (v : Word) (events : Nat),
    s.serves m (F.PMC_CTR.COUNT k).off = true →
    (s.pmcRuns k && !s.selBit (F.PMC_SEL.CHAIN k) k && decide (s.selRd (F.PMC_SEL.EVENT k) k ≠ 0) && s.pmcApplies k) = false →
    runsTo (.pmcCtrWrite m k .w32 upper v events) s (fun t =>
      t.rd (F.PMC_CTR.COUNT k) = (if upper then v.toNat % 2 ^ 16 * 2 ^ 32 + s.rd (F.PMC_CTR.COUNT k) % 2 ^ 32 else s.rd (F.PMC_CTR.COUNT k) / 2 ^ 32 * 2 ^ 32 + v.toNat % 2 ^ 32) ∧
      t = { s with regs := t.regs } ∧
      regsApart [(F.PMC_CTR.COUNT k).off] s t)) ∧
  (∀ (s : State) (m : Master) (k : Fin 64) (v : Word) (events : Nat),
    s.serves m (F.PMC_CTR.COUNT k).off = true →
    s.pmcRuns k = true →
    s.selBit (F.PMC_SEL.CHAIN k) k = false →
    s.selRd (F.PMC_SEL.EVENT k) k ≠ 0 →
    s.pmcApplies k = true →
    2 ^ 48 ≤ v.toNat % 2 ^ 48 + events →
    v.toNat % 2 ^ 48 + events < 2 ^ 49 →
    runsTo (.pmcCtrWrite m k .w64 false v events) s (fun t =>
      t.rd (F.PMC_CTR.COUNT k) = v.toNat % 2 ^ 48 + events - 2 ^ 48 ∧
      t.rd F.PMC_OVF.OVF = s.rd F.PMC_OVF.OVF ||| 2 ^ k.val ∧
      t = { s with regs := t.regs, pmc := { s.pmc with irqs := s.pmc.irqs + (if s.selBit (F.PMC_SEL.OVF_IRQ k) k then 1 else 0) } } ∧
      (k.val % 2 = 0 ∧ s.pmcChained (k + 1) = true ∧ s.pmcRuns (k + 1) = true → t.rd (F.PMC_CTR.COUNT (k + 1)) = (s.rd (F.PMC_CTR.COUNT (k + 1)) + 1) % 2 ^ 48) ∧
      regsApart [(F.PMC_CTR.COUNT k).off, (F.PMC_CTR.COUNT (k + 1)).off, F.PMC_OVF.OVF.off] s t)) ∧
  (∀ (s : State) (m : Master) (k : Fin 64) (v : BitVec 32),
    s.serves m (F.PMC_SEL.EVENT k).off = true →
    runsTo (.pmcSelWrite m k v) s (fun t =>
      t.reg (F.PMC_SEL.EVENT k).off = BitVec.ofNat 64 (v.toNat % 2 ^ 31) ∧
      (t.selNow k, t.pmcRuns k) = (s.selNow k, s.pmcRuns k) ∧
      t = { s with regs := t.regs, pmc := { s.pmc with selWas := t.pmc.selWas } } ∧
      regsApart [(F.PMC_SEL.EVENT k).off] s t)) ∧
  (∀ (s : State) (m : Master) (v : BitVec 32),
    s.serves m F.PMC_CTL.FREEZE.off = true →
    runsTo (.pmcFreeze m v) s (fun t =>
      (if m = .host then t.rd F.PMC_CTL.HOST_FREEZE = v.toNat / 2 % 2 ∧ t.rd F.PMC_CTL.FREEZE = s.rd F.PMC_CTL.FREEZE else t.rd F.PMC_CTL.FREEZE = v.toNat % 2 ∧ t.rd F.PMC_CTL.HOST_FREEZE = s.rd F.PMC_CTL.HOST_FREEZE) ∧
      t.ctlNow = s.ctlNow ∧
      t = { s with regs := t.regs, pmc := { s.pmc with ctlWas := some (s.cycle, s.ctlNow) } } ∧
      regsApart [F.PMC_CTL.FREEZE.off] s t)) ∧
  (∀ (s : State) (m : Master) (j : Fin 32),
    s.silent m = false →
    s.readable m (F.PMC_CTR.COUNT (2 * j)).off = true →
    runsTo (.pmcCtrLowRead m j .w64 0 0) s (fun t =>
      t.readData = s.pmcView m (F.PMC_CTR.COUNT (2 * j)).off ∧
      ((∀ e ∈ s.pmc.latch, e.1 % 2 = 1) → t.readData = s.reg (F.PMC_CTR.COUNT (2 * j)).off) ∧
      t.pmcView m (F.PMC_CTR.COUNT (2 * j + 1)).off = s.reg (F.PMC_CTR.COUNT (2 * j + 1)).off ∧
      t = { s with regs := t.regs, readData := t.readData, pmc := { s.pmc with latch := t.pmc.latch } } ∧
      regsApart [] s t)) ∧
  (∀ (s : State) (m : Master) (j : Fin 32) (n : Nat),
    s.silent m = false →
    s.pmcApplies (2 * j) = true →
    s.readable m (F.PMC_CTR.COUNT (2 * j)).off = true →
    s.pmcRuns (2 * j) = true →
    s.selBit (F.PMC_SEL.CHAIN (2 * j)) (2 * j) = false →
    Machine.pmcUnseen (s.selRd (F.PMC_SEL.EVENT (2 * j)) (2 * j)) = true →
    s.rd (F.PMC_CTR.COUNT (2 * j)) + n < 2 ^ 48 →
    runsTo (.pmcCtrLowRead m j .w64 n 0) s (fun t =>
      t.rd (F.PMC_CTR.COUNT (2 * j)) = s.rd (F.PMC_CTR.COUNT (2 * j)) + n ∧
      ((∀ e ∈ s.pmc.latch, e.1 % 2 = 1) → t.readData = t.reg (F.PMC_CTR.COUNT (2 * j)).off) ∧
      t = { s with regs := t.regs, readData := t.readData, pmc := { s.pmc with latch := t.pmc.latch } } ∧
      regsApart [(F.PMC_CTR.COUNT (2 * j)).off] s t)) ∧
  (∀ (s : State) (k : Fin 64),
    s.pmcRuns k = true →
    s.pmcApplies k = true →
    s.selBit (F.PMC_SEL.CHAIN k) k = false →
    Machine.pmcUnseen (s.selRd (F.PMC_SEL.EVENT k) k) = true →
    runsTo (.pmcCounterWrap k) s (fun t =>
      t.rd (F.PMC_CTR.COUNT k) = 0 ∧
      t.rd F.PMC_OVF.OVF = s.rd F.PMC_OVF.OVF ||| 2 ^ k.val ∧
      t = { s with regs := t.regs, pmc := { s.pmc with irqs := s.pmc.irqs + (if s.selBit (F.PMC_SEL.OVF_IRQ k) k then 1 else 0) } } ∧
      regsApart [(F.PMC_CTR.COUNT k).off, (F.PMC_CTR.COUNT (k + 1)).off, F.PMC_OVF.OVF.off] s t))

/-- PMC_SAMPLE_TAKEN, PMC_SAMPLE_ACK. Events of an enabled core are counted; at the PERIOD-th the sample writes the next
record and the core counts again from 0, with the flag of a loss before it, and moves NEXT; at the watermark it
raises the interrupt. A sample into a full ring is counted as lost and flagged in the next record; one that is not
selected changes nothing. An acknowledgement within the held records moves INDEX, any other leaves it, and a lower
half alone is staged (R400). Log entries: 17, 102. (Rests on: spec/16_counters_cal.md, Precise sampling;
spec/16_counters_cal.md, PMC_SAMPLE_CFG; spec/16_counters_cal.md, PMC_SAMPLE_STATUS.) -/
def Obligations.SamplesAreTakenAndFreed : Prop :=
  (∀ (s : State) (core : Fin 8) (pc : BitVec 64) (opcode : BitVec 32) (latency events : Nat) (user freed : Bool),
    s.bit F.PMC_SAMPLE_CFG.ENABLE = true →
    s.rd F.PMC_SAMPLE_CFG.CORES / 2 ^ core.val % 2 = 1 →
    s.rd F.PMC_SAMPLE_CFG.PERIOD ≠ 0 →
    s.rd F.DOC_STATUS.STATE = 1 →
    s.coreOn core = true →
    s.sampleEvent latency = true →
    s.rd F.PMC_SAMPLE_CFG.PERIOD ≤ smGet (fun _ => 0) s.pmc.counts core + events →
    s.sampleUnread < 512 →
    runsTo (.pmcSampleTaken core pc opcode latency ⟨events, user, freed⟩) s (fun t =>
      memRead t.pmc.ring (16 * (s.rd F.PMC_SAMPLE_STATUS.NEXT % 512)) 16 = s.sampleRecord core pc.toNat opcode.toNat latency user ∧
      t.rd F.PMC_SAMPLE_STATUS.NEXT = (s.rd F.PMC_SAMPLE_STATUS.NEXT + 1) % 2 ^ 32 ∧
      (t.pmc.lost, t.pmc.irqs) = (false, s.pmc.irqs + (if s.rd F.PMC_SAMPLE_CFG.WATERMARK ≠ 0 ∧ s.sampleUnread + 1 = s.rd F.PMC_SAMPLE_CFG.WATERMARK then 1 else 0)) ∧
      (∀ x, x < 16 * (s.rd F.PMC_SAMPLE_STATUS.NEXT % 512) ∨ 16 * (s.rd F.PMC_SAMPLE_STATUS.NEXT % 512) + 16 ≤ x → smGet byteDefault t.pmc.ring x = smGet byteDefault s.pmc.ring x) ∧
      (∀ c, smGet (fun _ => 0) t.pmc.counts c = (if c = core.val then 0 else smGet (fun _ => 0) s.pmc.counts c)) ∧
      t = { s with regs := t.regs, pmc := { s.pmc with ring := t.pmc.ring, counts := t.pmc.counts, lost := false, irqs := t.pmc.irqs } } ∧
      regsApart [F.PMC_SAMPLE_STATUS.NEXT.off] s t)) ∧
  (∀ (s : State) (core : Fin 8) (pc : BitVec 64) (opcode : BitVec 32) (latency events : Nat) (user : Bool),
    s.bit F.PMC_SAMPLE_CFG.ENABLE = true →
    s.rd F.PMC_SAMPLE_CFG.CORES / 2 ^ core.val % 2 = 1 →
    s.rd F.PMC_SAMPLE_CFG.PERIOD ≠ 0 →
    s.rd F.DOC_STATUS.STATE = 1 →
    s.coreOn core = true →
    s.sampleEvent latency = true →
    s.rd F.PMC_SAMPLE_CFG.PERIOD ≤ smGet (fun _ => 0) s.pmc.counts core + events →
    512 ≤ s.sampleUnread →
    runsTo (.pmcSampleTaken core pc opcode latency ⟨events, user, false⟩) s (fun t =>
      t.rd F.PMC_SAMPLE_STATUS.LOST = min (s.rd F.PMC_SAMPLE_STATUS.LOST + 1) 65535 ∧
      t = { s with regs := t.regs, pmc := { s.pmc with lost := true, counts := t.pmc.counts } } ∧
      (∀ c, smGet (fun _ => 0) t.pmc.counts c = (if c = core.val then 0 else smGet (fun _ => 0) s.pmc.counts c)) ∧
      regsApart [F.PMC_SAMPLE_STATUS.LOST.off] s t)) ∧
  (∀ (s : State) (core : Fin 8) (pc : BitVec 64) (opcode : BitVec 32) (latency events : Nat) (user freed : Bool),
    s.bit F.PMC_SAMPLE_CFG.ENABLE = true →
    s.rd F.PMC_SAMPLE_CFG.CORES / 2 ^ core.val % 2 = 1 →
    s.rd F.DOC_STATUS.STATE = 1 →
    s.coreOn core = true →
    s.sampleEvent latency = true →
    smGet (fun _ => 0) s.pmc.counts core + events < s.rd F.PMC_SAMPLE_CFG.PERIOD →
    runsTo (.pmcSampleTaken core pc opcode latency ⟨events, user, freed⟩) s (fun t =>
      (∀ c, smGet (fun _ => 0) t.pmc.counts c = (if c = core.val then smGet (fun _ => 0) s.pmc.counts c + events else smGet (fun _ => 0) s.pmc.counts c)) ∧
      t = { s with pmc := { s.pmc with counts := t.pmc.counts } })) ∧
  (∀ (s : State) (core : Fin 8) (pc : BitVec 64) (opcode : BitVec 32) (latency events : Nat) (user freed : Bool),
    s.bit F.PMC_SAMPLE_CFG.ENABLE = false ∨ s.rd F.PMC_SAMPLE_CFG.CORES / 2 ^ core.val % 2 = 0 ∨ s.rd F.PMC_SAMPLE_CFG.PERIOD = 0 ∨ s.coreOn core = false ∨ s.rd F.DOC_STATUS.STATE ≠ 1 ∨ s.sampleEvent latency = false →
    runsTo (.pmcSampleTaken core pc opcode latency ⟨events, user, freed⟩) s (fun t =>
      t = s)) ∧
  (∀ (s : State) (m : Master) (h : HalfWrite) (v : Word) (i : Nat),
    s.serves m F.PMC_SAMPLE_ACK.INDEX.off = true →
    (h.wide || h.upper) = true →
    v = halfOver h (s.halfReg F.PMC_SAMPLE_ACK.INDEX.off) →
    i = v.toNat % 2 ^ 32 →
    runsTo (.pmcSampleAck m h) s (fun t =>
      t.rd F.PMC_SAMPLE_ACK.INDEX = (if (i + 2 ^ 32 - s.rd F.PMC_SAMPLE_ACK.INDEX) % 2 ^ 32 ≤ s.sampleUnread then i else s.rd F.PMC_SAMPLE_ACK.INDEX) ∧
      t = { s with regs := t.regs, halves := smErase s.halves F.PMC_SAMPLE_ACK.INDEX.off } ∧
      regsApart [F.PMC_SAMPLE_ACK.INDEX.off] s t)) ∧
  (∀ (s : State) (m : Master) (x : Word),
    s.serves m F.PMC_SAMPLE_ACK.INDEX.off = true →
    runsTo (.pmcSampleAck m ⟨false, false, x⟩) s (fun t =>
      (t.halfReg F.PMC_SAMPLE_ACK.INDEX.off).toNat % 2 ^ 32 = x.toNat % 2 ^ 32 ∧
      t = { s with halves := t.halves }))

/-- CAL_RUN_START, CAL_RUN_WRITE, CAL_ENABLE, CAL_DISABLE, CAL_DRAIN_COMPLETE, RX_MARK_WINDOW, TRIM_LOCK_TIMEOUT. A run
that is due, with parts of its own to do, goes on; one with none ends at once; each takes the present temperatures
as its reference and is counted. A trigger during a run is held. ENABLE leads from DISABLED to READY and is held
while DISABLING; a disable ends every part and drains. A window of bits within the tolerance counts toward the end
of a receiver's trim, and one outside it has OFFSET step by one at the receiver's next AM, in a direction that
nothing constrains; a step from 0 or 63 outwards sets RX_RANGE. A lane under trial that does not lock again has a
lasting fault, and the spare keeps it for good. Log entries: 54, 102, 107. (Rests on: spec/16_counters_cal.md,
Self-calibration; spec/16_counters_cal.md, CAL_CTL; spec/16_counters_cal.md, CAL_STATUS; spec/07_blanker_link.md,
Spare lane and lane faults.) -/
def Obligations.CalibrationRunsAndIsEnabled : Prop :=
  (∀ (s : State),
    s.rd F.CAL_STATUS.STATE = 1 →
    (s.tempMoved = true ∨ s.bit F.CAL_STATUS.RUN_PENDING = true ∨ s.cal.again.any (fun g => s.grpState g = 4) = true ∨ (s.linkActive = true ∧ s.cal.begun = false ∧ s.blk.stepReq = false ∧ s.blk.stepTo = none)) →
    s.mode ≠ 4 →
    s.mode ≠ 5 →
    s.saf.acting = false →
    s.bit F.CAL_CFG.TRIM_RX = true →
    s.cal.grp.length = 4 →
    runsTo (.calRunStart) s (fun t =>
      (t.rd F.CAL_STATUS.STATE, t.rd F.CAL_STATUS.RUN_PENDING, t.rd F.CAL_COUNTS.RUNS) = (2, 0, min (s.rd F.CAL_COUNTS.RUNS + 1) 65535) ∧
      (∀ i, i < 8 → t.rd (F.CAL_TEMP.REF i) = s.rd (F.CAL_TEMP.NOW i)) ∧
      (t.cal.begun, t.cal.again, t.cal.rx) = (true, s.cal.again.filter (fun g => s.grpState g ≠ 4), List.replicate 4 (some ⟨0, 0⟩)) ∧
      (s.bit F.CAL_CFG.TRIM_BLK = true → s.bit F.BLK_CFG.SPARE_EN = true → ∀ g, g < 4 → (s.grp g).good = false → (s.grp g).swap.any (fun w => w.good) = false → s.grpState g = 4 → t.trim g = some ⟨0, 1, 0, s.laneCodes g 24, 0, 0, s.cycle⟩) ∧
      t = { s with regs := t.regs, cal := t.cal } ∧
      regsOutside (fun b => b = 0x24) s t)) ∧
  (∀ (s : State),
    s.rd F.CAL_STATUS.STATE = 1 →
    s.bit F.CAL_STATUS.RUN_PENDING = true →
    s.mode ≠ 4 →
    s.mode ≠ 5 →
    s.saf.acting = false →
    s.bit F.CAL_CFG.TRIM_BLK = false →
    s.bit F.CAL_CFG.TRIM_RX = false →
    s.bit F.CAL_CFG.TRIM_DDR = false →
    s.cal.grp.all Option.isNone = true →
    runsTo (.calRunStart) s (fun t =>
      (t.rd F.CAL_STATUS.STATE, t.rd F.CAL_STATUS.RUN_PENDING, t.rd F.CAL_STATUS.RUNS) = (1, 0, (s.rd F.CAL_STATUS.RUNS + 1) % 65536) ∧
      (∀ i, i < 8 → t.rd (F.CAL_TEMP.REF i) = s.rd (F.CAL_TEMP.NOW i)) ∧
      t = { s with regs := t.regs, cal := t.cal })) ∧
  (∀ (s : State),
    s.rd F.CAL_STATUS.STATE ≠ 1 →
    runsTo (.calRunStart) s (fun t =>
      t = s)) ∧
  (∀ (s : State) (m : Master),
    s.serves m F.CAL_CTL.RUN.off = true →
    s.rd F.CAL_STATUS.STATE = 1 →
    s.mode ≠ 4 →
    s.mode ≠ 5 →
    s.saf.acting = false →
    s.bit F.CAL_CFG.TRIM_RX = true →
    runsTo (.calRunWrite m) s (fun t =>
      (t.rd F.CAL_STATUS.STATE, t.rd F.CAL_STATUS.RUN_PENDING, t.rd F.CAL_COUNTS.RUNS) = (2, 0, min (s.rd F.CAL_COUNTS.RUNS + 1) 65535) ∧
      t.cal.rx = List.replicate 4 (some ⟨0, 0⟩) ∧
      t = { s with regs := t.regs, cal := t.cal })) ∧
  (∀ (s : State) (m : Master),
    s.serves m F.CAL_CTL.RUN.off = true →
    s.rd F.CAL_STATUS.STATE = 2 →
    runsTo (.calRunWrite m) s (fun t =>
      t.rd F.CAL_STATUS.RUN_PENDING = 1 ∧
      t = { s with regs := t.regs } ∧
      regsApart [F.CAL_STATUS.RUN_PENDING.off] s t)) ∧
  (∀ (s : State) (m : Master),
    s.serves m F.CAL_CTL.ENABLE.off = true →
    s.rd F.CAL_STATUS.STATE ≠ 3 →
    runsTo (.calEnable m) s (fun t =>
      (t.rd F.CAL_CTL.ENABLE, t.rd F.CAL_STATUS.STATE) = (1, if s.rd F.CAL_STATUS.STATE = 0 then 1 else s.rd F.CAL_STATUS.STATE) ∧
      t = { s with regs := t.regs } ∧
      regsApart [F.CAL_CTL.ENABLE.off, F.CAL_STATUS.STATE.off] s t)) ∧
  (∀ (s : State) (m : Master),
    s.serves m F.CAL_CTL.ENABLE.off = true →
    s.rd F.CAL_STATUS.STATE = 3 →
    runsTo (.calEnable m) s (fun t =>
      t.rd F.CAL_STATUS.PENDING_ENABLE = 1 ∧
      t = { s with regs := t.regs } ∧
      regsApart [F.CAL_STATUS.STATE.off] s t)) ∧
  (∀ (s : State) (m : Master),
    s.serves m F.CAL_CTL.ENABLE.off = true →
    s.rd F.CAL_STATUS.STATE = 1 ∨ s.rd F.CAL_STATUS.STATE = 2 →
    runsTo (.calDisable m) s (fun t =>
      (t.rd F.CAL_CTL.ENABLE, t.rd F.CAL_STATUS.STATE, t.rd F.CAL_STATUS.RUN_PENDING) = (0, 3, 0) ∧
      (t.cal.rx, t.cal.ddr, t.cal.again) = (List.replicate 4 none, List.replicate 6 none, []) ∧
      (∀ g, g < 4 → t.trim g = none) ∧
      t = { s with regs := t.regs, blk := t.blk, cal := t.cal })) ∧
  (∀ (s : State) (m : Master),
    s.serves m F.CAL_CTL.ENABLE.off = true →
    s.rd F.CAL_STATUS.STATE = 0 ∨ s.rd F.CAL_STATUS.STATE = 3 →
    runsTo (.calDisable m) s (fun t =>
      (if s.rd F.CAL_STATUS.STATE = 0 then t.rd F.CAL_CTL.ENABLE = 0 else t.rd F.CAL_STATUS.PENDING_ENABLE = 0) ∧
      t.rd F.CAL_STATUS.STATE = s.rd F.CAL_STATUS.STATE ∧
      t = { s with regs := t.regs })) ∧
  (∀ (s : State),
    s.rd F.CAL_STATUS.STATE = 3 →
    runsTo (.calDrainComplete) s (fun t =>
      t.rd F.CAL_STATUS.STATE = (if s.bit F.CAL_STATUS.PENDING_ENABLE then 1 else 0) ∧
      t.rd F.CAL_STATUS.PENDING_ENABLE = 0 ∧
      t.rd F.CAL_CTL.ENABLE = (if s.bit F.CAL_STATUS.PENDING_ENABLE then 1 else s.rd F.CAL_CTL.ENABLE) ∧
      t = { s with regs := t.regs } ∧
      regsApart [F.CAL_CTL.ENABLE.off, F.CAL_STATUS.STATE.off] s t)) ∧
  (∀ (s : State) (g : Fin 4) (ones : Nat) (x : RxTrim),
    (s.cal.rx[g.val]?).join = some x →
    ones ≤ 2 ^ 19 + s.rd F.CAL_CFG.MARK_TOL * 64 →
    2 ^ 19 ≤ ones + s.rd F.CAL_CFG.MARK_TOL * 64 →
    x.within = 0 →
    x.windows < 63 →
    (s.cal.rxStep[g.val]?).join = none →
    runsTo (.rxMarkWindow g ones) s (fun t =>
      (t.rd (F.CAL_RX.ONES g), t.rd (F.CAL_RX.OFFSET g)) = (min ones (2 ^ 20), s.rd (F.CAL_RX.OFFSET g)) ∧
      t.cal = { s.cal with rx := s.cal.rx.set g (some ⟨x.windows + 1, 1⟩) } ∧
      t = { s with regs := t.regs, cal := t.cal } ∧
      regsApart [(F.CAL_RX.ONES g).off] s t)) ∧
  (∀ (s : State) (g : Fin 4) (ones : Nat) (x : RxTrim),
    (s.cal.rx[g.val]?).join = some x →
    2 ^ 19 + s.rd F.CAL_CFG.MARK_TOL * 64 < ones →
    x.windows < 63 →
    (s.cal.rxStep[g.val]?).join = none →
    runsTo (.rxMarkWindow g ones) s (fun t =>
      (t.rd (F.CAL_RX.ONES g), t.rd (F.CAL_RX.OFFSET g)) = (min ones (2 ^ 20), s.rd (F.CAL_RX.OFFSET g)) ∧
      t.cal = { s.cal with rx := s.cal.rx.set g (some ⟨x.windows + 1, 0⟩), rxStep := s.cal.rxStep.set g (some Config.rxStepsUp) } ∧
      t = { s with regs := t.regs, cal := t.cal } ∧
      regsApart [(F.CAL_RX.ONES g).off] s t)) ∧
  (∀ (s : State) (g : Fin 4) (ones : Nat) (up : Bool),
    (s.cal.rxStep[g.val]?).join = some up →
    (s.cal.rx[g.val]?).join = none →
    runsTo (.rxMarkWindow g ones) s (fun t =>
      t.rd (F.CAL_RX.OFFSET g) = (if up then min 63 (s.rd (F.CAL_RX.OFFSET g) + 1) else s.rd (F.CAL_RX.OFFSET g) - 1) ∧
      t.rd F.CAL_ERR.RX_RANGE = (if s.rd (F.CAL_RX.OFFSET g) = (if up then 63 else 0) then 1 else s.rd F.CAL_ERR.RX_RANGE) ∧
      t = { s with regs := t.regs, cal := { s.cal with rxStep := s.cal.rxStep.set g none } } ∧
      regsApart [(F.CAL_RX.ONES g).off, F.CAL_ERR.RX_RANGE.off] s t)) ∧
  (∀ (s : State) (g : Fin 4) (ones : Nat) (x : RxTrim),
    (s.cal.rx[g.val]?).join = some x →
    ones ≤ 2 ^ 19 + s.rd F.CAL_CFG.MARK_TOL * 64 →
    2 ^ 19 ≤ ones + s.rd F.CAL_CFG.MARK_TOL * 64 →
    1 ≤ x.within →
    s.cal.grp.all Option.isNone = false →
    (s.cal.rxStep[g.val]?).join = none →
    runsTo (.rxMarkWindow g ones) s (fun t =>
      t.cal = { s.cal with rx := s.cal.rx.set g none } ∧
      t = { s with regs := t.regs, cal := t.cal } ∧
      regsApart [(F.CAL_RX.ONES g).off] s t)) ∧
  (∀ (s : State) (g : Fin 4) (x : GrpTrim),
    s.trim g = some x →
    x.phase = 1 →
    1 ≤ x.turn ∧ x.turn ≤ 24 →
    s.bit F.BLK_CFG.SPARE_EN = true →
    s.blk.grp.length = 4 →
    (s.grp g).swap = none →
    (s.grp g).carried = some x.lane →
    runsTo (.trimLockTimeout g) s (fun t =>
      (t.rd F.SAF_ERR.LASTING, t.rd F.BLK_ERR.LANE_LASTING) = (1, 1) ∧
      t.rd F.SAF_COUNTS.LASTING = min (s.rd F.SAF_COUNTS.LASTING + 1) 65535 ∧
      t.grp g = { s.grp g with good := true } ∧
      t.trim g = none ∧
      t.rd (F.BLK_LANE.STATE (25 * g + x.lane)) = 3 ∧
      t.laneCodes g x.lane = x.start % 2 ^ 24))
end

