-- ==== Sys2Proof/Laws/SMap.lean ====
section
/-! SUPPORT. Sparse maps: what a read after a write gives, and that every write keeps the canonical form. -/
namespace Sys2Proof.Machine

variable {α : Type}

@[simp] theorem smGet_nil (d : Nat → α) (k : Nat) : smGet d [] k = d k := rfl

theorem smGet_smInsert (d : Nat → α) (v : α) : ∀ (m : SMap α) (k j : Nat),
    smGet d (smInsert m k v) j = if j = k then v else smGet d m j
  | [], k, j => by simp [smInsert, smGet]
  | (a, x) :: m, k, j => by
    have ih := smGet_smInsert d v m k j
    simp only [smInsert]
    split
    · simp [smGet]
    · split
      · subst k
        by_cases h : j = a <;> simp [smGet, h]
      · simp only [smGet, ih]
        by_cases h : j = a
        · have : ¬ j = k := by omega
          simp [h]; omega
        · simp [h]

theorem smGet_smErase_ne (d : Nat → α) : ∀ (m : SMap α) (k j : Nat), j ≠ k → smGet d (smErase m k) j = smGet d m j
  | [], _, _, _ => rfl
  | (a, x) :: m, k, j, h => by
    have ih := smGet_smErase_ne d m k j h
    simp only [smErase]
    split
    · subst k; simp [smGet, h, ih]
    · simp only [smGet, ih]

theorem smGet_smErase_same (d : Nat → α) : ∀ (m : SMap α) (k : Nat), smGet d (smErase m k) k = d k
  | [], _ => rfl
  | (a, x) :: m, k => by
    have ih := smGet_smErase_same d m k
    simp only [smErase]
    split
    · exact ih
    · rename_i hk
      simp only [smGet, if_neg hk, ih]

/-- A read of another key after a write. -/
theorem smGet_smSet_ne [DecidableEq α] (d : Nat → α) (m : SMap α) (k j : Nat) (v : α) (h : j ≠ k) :
    smGet d (smSet d m k v) j = smGet d m j := by
  unfold smSet
  split
  · exact smGet_smErase_ne d m k j h
  · rw [smGet_smInsert, if_neg h]

/-- A read of the written key. -/
theorem smGet_smSet_same [DecidableEq α] (d : Nat → α) (m : SMap α) (k : Nat) (v : α) :
    smGet d (smSet d m k v) k = v := by
  unfold smSet
  split
  · rename_i hv
    rw [smGet_smErase_same, hv]
  · rw [smGet_smInsert, if_pos rfl]

theorem smWfFrom_weaken [DecidableEq α] (d : Nat → α) (m : SMap α) (lo : Option Nat) (l : Nat)
    (h : smWfFrom d (some l) m = true) (hl : ∀ x, lo = some x → x ≤ l) : smWfFrom d lo m = true := by
  cases m with
  | nil => rfl
  | cons e m =>
    obtain ⟨a, v⟩ := e
    simp only [smWfFrom, Bool.and_eq_true, decide_eq_true_eq] at h ⊢
    refine ⟨⟨?_, h.1.2⟩, h.2⟩
    cases lo with
    | none => rfl
    | some x => have := hl x rfl; simp only [decide_eq_true_eq]; omega

theorem smWfFrom_smErase [DecidableEq α] (d : Nat → α) : ∀ (m : SMap α) (lo : Option Nat) (k : Nat),
    smWfFrom d lo m = true → smWfFrom d lo (smErase m k) = true
  | [], _, _, h => h
  | (a, x) :: m, lo, k, h => by
    simp only [smErase]
    split
    · simp only [smWfFrom, Bool.and_eq_true, decide_eq_true_eq] at h
      refine smWfFrom_weaken d _ lo a (smWfFrom_smErase d m (some a) k h.2) ?_
      intro y hy
      subst hy
      have := h.1.1
      simp only [decide_eq_true_eq] at this
      omega
    · simp only [smWfFrom, Bool.and_eq_true] at h ⊢
      exact ⟨h.1, smWfFrom_smErase d m (some a) k h.2⟩

theorem smWfFrom_smInsert [DecidableEq α] (d : Nat → α) (v : α) : ∀ (m : SMap α) (lo : Option Nat) (k : Nat),
    smWfFrom d lo m = true → (∀ x, lo = some x → x < k) → v ≠ d k → smWfFrom d lo (smInsert m k v) = true
  | [], lo, k, _, hk, hv => by
    cases lo with
    | none => simp [smInsert, smWfFrom, hv]
    | some l => simp [smInsert, smWfFrom, hv, hk l rfl]
  | (a, x) :: m, lo, k, h, hk, hv => by
    simp only [smWfFrom, Bool.and_eq_true, decide_eq_true_eq] at h
    simp only [smInsert]
    split
    · rename_i hka
      simp only [smWfFrom, Bool.and_eq_true, decide_eq_true_eq]
      refine ⟨⟨?_, hv⟩, ⟨hka, h.1.2⟩, h.2⟩
      cases lo with
      | none => rfl
      | some l => simpa using hk l rfl
    · split
      · rename_i hka
        subst hka
        simp only [smWfFrom, Bool.and_eq_true, decide_eq_true_eq]
        exact ⟨⟨h.1.1, hv⟩, h.2⟩
      · simp only [smWfFrom, Bool.and_eq_true, decide_eq_true_eq]
        refine ⟨h.1, smWfFrom_smInsert d v m (some a) k h.2 ?_ hv⟩
        intro y hy
        cases hy
        omega

/-- A write keeps the canonical form. -/
@[simp] theorem smWf_smSet [DecidableEq α] (d : Nat → α) (m : SMap α) (k : Nat) (v : α) (h : smWf d m = true) :
    smWf d (smSet d m k v) = true := by
  unfold smSet
  split
  · exact smWfFrom_smErase d m none k h
  · exact smWfFrom_smInsert d v m none k h (by simp) ‹_›

@[simp] theorem wf_memWrite (m : SMap Byte) (a : Nat) (bs : List Byte) (h : Memory.wf m = true) :
    Memory.wf (memWrite m a bs) = true := by
  induction bs generalizing m a with
  | nil => exact h
  | cons b bs ih => exact ih _ _ (smWf_smSet byteDefault m a b h)

@[simp] theorem wf_memWriteIf (ok : Nat → Bool) (place : Nat → Nat) (m : SMap Byte) (a : Nat) (bs : List Byte)
    (h : Memory.wf m = true) : Memory.wf (memWriteIf ok place m a bs) = true := by
  induction bs generalizing m a with
  | nil => exact h
  | cons b bs ih =>
    refine ih _ _ ?_
    split
    · exact smWf_smSet byteDefault m (place a) b h
    · exact h

/-- A byte outside the written range reads as before. -/
theorem smGet_memWrite_outside (m : SMap Byte) (a x : Nat) (bs : List Byte) (h : x < a ∨ a + bs.length ≤ x) :
    smGet byteDefault (memWrite m a bs) x = smGet byteDefault m x := by
  induction bs generalizing m a with
  | nil => rfl
  | cons b bs ih =>
    simp only [List.length_cons] at h
    rw [memWrite, ih _ _ (by omega), smGet_smSet_ne _ _ _ _ _ (by omega)]

/-- A byte at no place that is written reads as before. -/
theorem smGet_memWriteIf_outside (ok : Nat → Bool) (place : Nat → Nat) (m : SMap Byte) (a x : Nat) (bs : List Byte)
    (h : ∀ i < bs.length, x ≠ place (a + i)) :
    smGet byteDefault (memWriteIf ok place m a bs) x = smGet byteDefault m x := by
  induction bs generalizing m a with
  | nil => rfl
  | cons b bs ih =>
    have h0 : x ≠ place a := h 0 (by simp)
    rw [memWriteIf, ih _ _ (fun i hi => by
      have := h (i + 1) (by simpa using hi)
      rwa [show a + (i + 1) = a + 1 + i by omega] at this)]
    split
    · exact smGet_smSet_ne _ _ _ _ _ h0
    · rfl

/-- A written byte reads as written. -/
theorem smGet_memWrite_inside (m : SMap Byte) (a i : Nat) (bs : List Byte)
    (h : i < bs.length) : smGet byteDefault (memWrite m a bs) (a + i) = bs[i] := by
  induction bs generalizing m a i with
  | nil => simp at h
  | cons b bs ih =>
    rw [memWrite]
    cases i with
    | zero =>
      rw [smGet_memWrite_outside _ _ _ _ (by omega)]
      exact smGet_smSet_same byteDefault m a b
    | succ n =>
      have := ih (smSet byteDefault m a b) (a + 1) n (by simpa using h)
      rw [show a + (n + 1) = a + 1 + n by omega, this]
      simp

/-- A read of what has just been written. -/
theorem memRead_memWrite (m : SMap Byte) (a : Nat) (bs : List Byte) :
    memRead (memWrite m a bs) a bs.length = bs := by
  induction bs generalizing m a with
  | nil => rfl
  | cons b bs ih =>
    simp only [List.length_cons, memRead, memWrite]
    rw [smGet_memWrite_outside _ _ _ _ (by omega), ih]
    simp [smGet_smSet_same byteDefault m a b]

/-! ### Rising lists -/

theorem rising_iff (l : List Nat) : rising l = true ↔ l.Pairwise (· < ·) := by
  induction l with
  | nil => simp [rising]
  | cons a l ih =>
    cases l with
    | nil => simp [rising]
    | cons b l =>
      simp only [rising, Bool.and_eq_true, decide_eq_true_eq, ih]
      constructor
      · intro ⟨hab, h⟩
        refine List.pairwise_cons.2 ⟨?_, h⟩
        intro x hx
        rcases List.mem_cons.1 hx with rfl | hx
        · exact hab
        · exact Nat.lt_trans hab ((List.pairwise_cons.1 h).1 x hx)
      · intro h
        have h' := List.pairwise_cons.1 h
        exact ⟨h'.1 b (by simp), h'.2⟩

theorem mem_listInsert (k x : Nat) : ∀ l : List Nat, x ∈ listInsert k l ↔ x = k ∨ x ∈ l
  | [] => by simp [listInsert]
  | a :: l => by
    simp only [listInsert]
    split
    · simp
    · split
      · subst k; simp
      · simp only [List.mem_cons, mem_listInsert k x l]; tauto

@[simp] theorem rising_listInsert (k : Nat) (l : List Nat) (h : rising l = true) : rising (listInsert k l) = true := by
  rw [rising_iff] at h ⊢
  induction l with
  | nil => simp [listInsert]
  | cons a l ih =>
    have h' := List.pairwise_cons.1 h
    simp only [listInsert]
    split
    · refine List.pairwise_cons.2 ⟨?_, h⟩
      intro x hx
      rcases List.mem_cons.1 hx with rfl | hx
      · assumption
      · exact Nat.lt_trans ‹_› (h'.1 x hx)
    · split
      · exact h
      · refine List.pairwise_cons.2 ⟨?_, ih h'.2⟩
        intro x hx
        rcases (mem_listInsert k x l).1 hx with rfl | hx
        · omega
        · exact h'.1 x hx

@[simp] theorem rising_filter (p : Nat → Bool) (l : List Nat) (h : rising l = true) : rising (l.filter p) = true := by
  rw [rising_iff] at h ⊢
  exact h.filter p

@[simp] theorem rising_insertAll (f : Nat → Nat) (l q : List Nat) (h : rising q = true) :
    rising (l.foldl (fun p b => listInsert (f b) p) q) = true := by
  induction l generalizing q with
  | nil => exact h
  | cons a l ih => exact ih _ (rising_listInsert _ _ h)

end Sys2Proof.Machine
end

