-- ==== Sys2Proof/Laws/State.lean ====
section
/-! SUPPORT. What an update of one field leaves of the others: by definition, once for each field. -/
namespace Sys2Proof.Machine

/-! ### The register file -/

@[simp] theorem State.setReg_regs (s : State) (off : Nat) (v : Word) :
    (s.setReg off v).regs = smSet regReset s.regs off v := rfl
@[simp] theorem State.setReg_halves (s : State) (off : Nat) (v : Word) : (s.setReg off v).halves = s.halves := rfl
@[simp] theorem State.setReg_ddr (s : State) (off : Nat) (v : Word) : (s.setReg off v).ddr = s.ddr := rfl
@[simp] theorem State.setReg_poison (s : State) (off : Nat) (v : Word) : (s.setReg off v).poison = s.poison := rfl
@[simp] theorem State.setReg_ddrErr (s : State) (off : Nat) (v : Word) : (s.setReg off v).ddrErr = s.ddrErr := rfl
@[simp] theorem State.setReg_sram (s : State) (off : Nat) (v : Word) : (s.setReg off v).sram = s.sram := rfl
@[simp] theorem State.setReg_sramPoison (s : State) (off : Nat) (v : Word) : (s.setReg off v).sramPoison = s.sramPoison := rfl
@[simp] theorem State.setReg_sramErr (s : State) (off : Nat) (v : Word) : (s.setReg off v).sramErr = s.sramErr := rfl
@[simp] theorem State.setReg_kprSram (s : State) (off : Nat) (v : Word) : (s.setReg off v).kprSram = s.kprSram := rfl
@[simp] theorem State.setReg_kprErr (s : State) (off : Nat) (v : Word) : (s.setReg off v).kprErr = s.kprErr := rfl
@[simp] theorem State.setReg_coreResp (s : State) (off : Nat) (v : Word) : (s.setReg off v).coreResp = s.coreResp := rfl
@[simp] theorem State.setReg_hostMem (s : State) (off : Nat) (v : Word) : (s.setReg off v).hostMem = s.hostMem := rfl
@[simp] theorem State.setReg_hostPoison (s : State) (off : Nat) (v : Word) : (s.setReg off v).hostPoison = s.hostPoison := rfl
@[simp] theorem State.setReg_free (s : State) (off : Nat) (v : Word) : (s.setReg off v).free = s.free := rfl
@[simp] theorem State.setReg_cycle (s : State) (off : Nat) (v : Word) : (s.setReg off v).cycle = s.cycle := rfl
@[simp] theorem State.setReg_readData (s : State) (off : Nat) (v : Word) : (s.setReg off v).readData = s.readData := rfl
@[simp] theorem State.setReg_readPoison (s : State) (off : Nat) (v : Word) : (s.setReg off v).readPoison = s.readPoison := rfl
@[simp] theorem State.setReg_locked (s : State) (off : Nat) (v : Word) : (s.setReg off v).locked = s.locked := rfl
@[simp] theorem State.setReg_docTrap (s : State) (off : Nat) (v : Word) : (s.setReg off v).docTrap = s.docTrap := rfl
@[simp] theorem State.setReg_tb0 (s : State) (off : Nat) (v : Word) : (s.setReg off v).tb0 = s.tb0 := rfl
@[simp] theorem State.setReg_tb1 (s : State) (off : Nat) (v : Word) : (s.setReg off v).tb1 = s.tb1 := rfl
@[simp] theorem State.setReg_tb2 (s : State) (off : Nat) (v : Word) : (s.setReg off v).tb2 = s.tb2 := rfl
@[simp] theorem State.setReg_hif (s : State) (off : Nat) (v : Word) : (s.setReg off v).hif = s.hif := rfl
@[simp] theorem State.setReg_dma (s : State) (off : Nat) (v : Word) : (s.setReg off v).dma = s.dma := rfl
@[simp] theorem State.setReg_bct (s : State) (off : Nat) (v : Word) : (s.setReg off v).bct = s.bct := rfl
@[simp] theorem State.setReg_rsv (s : State) (off : Nat) (v : Word) : (s.setReg off v).rsv = s.rsv := rfl
@[simp] theorem State.setReg_fol (s : State) (off : Nat) (v : Word) : (s.setReg off v).fol = s.fol := rfl
@[simp] theorem State.setReg_slt (s : State) (off : Nat) (v : Word) : (s.setReg off v).slt = s.slt := rfl
@[simp] theorem State.setReg_dut (s : State) (off : Nat) (v : Word) : (s.setReg off v).dut = s.dut := rfl
@[simp] theorem State.setReg_lac (s : State) (off : Nat) (v : Word) : (s.setReg off v).lac = s.lac := rfl
@[simp] theorem State.setReg_ikl (s : State) (off : Nat) (v : Word) : (s.setReg off v).ikl = s.ikl := rfl
@[simp] theorem State.setReg_twn (s : State) (off : Nat) (v : Word) : (s.setReg off v).twn = s.twn := rfl
@[simp] theorem State.setReg_blk (s : State) (off : Nat) (v : Word) : (s.setReg off v).blk = s.blk := rfl
@[simp] theorem State.setReg_mem (s : State) (off : Nat) (v : Word) : (s.setReg off v).mem = s.mem := rfl
@[simp] theorem State.setReg_svy (s : State) (off : Nat) (v : Word) : (s.setReg off v).svy = s.svy := rfl
@[simp] theorem State.setReg_axm (s : State) (off : Nat) (v : Word) : (s.setReg off v).axm = s.axm := rfl
@[simp] theorem State.setReg_tim (s : State) (off : Nat) (v : Word) : (s.setReg off v).tim = s.tim := rfl
@[simp] theorem State.setReg_boot (s : State) (off : Nat) (v : Word) : (s.setReg off v).boot = s.boot := rfl
@[simp] theorem State.setReg_acl (s : State) (off : Nat) (v : Word) : (s.setReg off v).acl = s.acl := rfl
@[simp] theorem State.setReg_kpr (s : State) (off : Nat) (v : Word) : (s.setReg off v).kpr = s.kpr := rfl
@[simp] theorem State.setReg_saf (s : State) (off : Nat) (v : Word) : (s.setReg off v).saf = s.saf := rfl
@[simp] theorem State.setReg_cal (s : State) (off : Nat) (v : Word) : (s.setReg off v).cal = s.cal := rfl
@[simp] theorem State.setReg_pmc (s : State) (off : Nat) (v : Word) : (s.setReg off v).pmc = s.pmc := rfl
@[simp] theorem State.setReg_pin (s : State) (off : Nat) (v : Word) : (s.setReg off v).pin = s.pin := rfl
@[simp] theorem State.setReg_pending (s : State) (off : Nat) (v : Word) : (s.setReg off v).pending = s.pending := rfl

@[simp] theorem State.wr_regs (s : State) (f : Field) (v : Nat) :
    (s.wr f v).regs = smSet regReset s.regs f.off (f.put (s.reg f.off) v) := rfl
@[simp] theorem State.wr_halves (s : State) (f : Field) (v : Nat) : (s.wr f v).halves = s.halves := rfl
@[simp] theorem State.wr_ddr (s : State) (f : Field) (v : Nat) : (s.wr f v).ddr = s.ddr := rfl
@[simp] theorem State.wr_poison (s : State) (f : Field) (v : Nat) : (s.wr f v).poison = s.poison := rfl
@[simp] theorem State.wr_ddrErr (s : State) (f : Field) (v : Nat) : (s.wr f v).ddrErr = s.ddrErr := rfl
@[simp] theorem State.wr_sram (s : State) (f : Field) (v : Nat) : (s.wr f v).sram = s.sram := rfl
@[simp] theorem State.wr_sramPoison (s : State) (f : Field) (v : Nat) : (s.wr f v).sramPoison = s.sramPoison := rfl
@[simp] theorem State.wr_sramErr (s : State) (f : Field) (v : Nat) : (s.wr f v).sramErr = s.sramErr := rfl
@[simp] theorem State.wr_kprSram (s : State) (f : Field) (v : Nat) : (s.wr f v).kprSram = s.kprSram := rfl
@[simp] theorem State.wr_kprErr (s : State) (f : Field) (v : Nat) : (s.wr f v).kprErr = s.kprErr := rfl
@[simp] theorem State.wr_coreResp (s : State) (f : Field) (v : Nat) : (s.wr f v).coreResp = s.coreResp := rfl
@[simp] theorem State.wr_hostMem (s : State) (f : Field) (v : Nat) : (s.wr f v).hostMem = s.hostMem := rfl
@[simp] theorem State.wr_hostPoison (s : State) (f : Field) (v : Nat) : (s.wr f v).hostPoison = s.hostPoison := rfl
@[simp] theorem State.wr_free (s : State) (f : Field) (v : Nat) : (s.wr f v).free = s.free := rfl
@[simp] theorem State.wr_cycle (s : State) (f : Field) (v : Nat) : (s.wr f v).cycle = s.cycle := rfl
@[simp] theorem State.wr_readData (s : State) (f : Field) (v : Nat) : (s.wr f v).readData = s.readData := rfl
@[simp] theorem State.wr_readPoison (s : State) (f : Field) (v : Nat) : (s.wr f v).readPoison = s.readPoison := rfl
@[simp] theorem State.wr_locked (s : State) (f : Field) (v : Nat) : (s.wr f v).locked = s.locked := rfl
@[simp] theorem State.wr_docTrap (s : State) (f : Field) (v : Nat) : (s.wr f v).docTrap = s.docTrap := rfl
@[simp] theorem State.wr_tb0 (s : State) (f : Field) (v : Nat) : (s.wr f v).tb0 = s.tb0 := rfl
@[simp] theorem State.wr_tb1 (s : State) (f : Field) (v : Nat) : (s.wr f v).tb1 = s.tb1 := rfl
@[simp] theorem State.wr_tb2 (s : State) (f : Field) (v : Nat) : (s.wr f v).tb2 = s.tb2 := rfl
@[simp] theorem State.wr_hif (s : State) (f : Field) (v : Nat) : (s.wr f v).hif = s.hif := rfl
@[simp] theorem State.wr_dma (s : State) (f : Field) (v : Nat) : (s.wr f v).dma = s.dma := rfl
@[simp] theorem State.wr_bct (s : State) (f : Field) (v : Nat) : (s.wr f v).bct = s.bct := rfl
@[simp] theorem State.wr_rsv (s : State) (f : Field) (v : Nat) : (s.wr f v).rsv = s.rsv := rfl
@[simp] theorem State.wr_fol (s : State) (f : Field) (v : Nat) : (s.wr f v).fol = s.fol := rfl
@[simp] theorem State.wr_slt (s : State) (f : Field) (v : Nat) : (s.wr f v).slt = s.slt := rfl
@[simp] theorem State.wr_dut (s : State) (f : Field) (v : Nat) : (s.wr f v).dut = s.dut := rfl
@[simp] theorem State.wr_lac (s : State) (f : Field) (v : Nat) : (s.wr f v).lac = s.lac := rfl
@[simp] theorem State.wr_ikl (s : State) (f : Field) (v : Nat) : (s.wr f v).ikl = s.ikl := rfl
@[simp] theorem State.wr_twn (s : State) (f : Field) (v : Nat) : (s.wr f v).twn = s.twn := rfl
@[simp] theorem State.wr_blk (s : State) (f : Field) (v : Nat) : (s.wr f v).blk = s.blk := rfl
@[simp] theorem State.wr_mem (s : State) (f : Field) (v : Nat) : (s.wr f v).mem = s.mem := rfl
@[simp] theorem State.wr_svy (s : State) (f : Field) (v : Nat) : (s.wr f v).svy = s.svy := rfl
@[simp] theorem State.wr_axm (s : State) (f : Field) (v : Nat) : (s.wr f v).axm = s.axm := rfl
@[simp] theorem State.wr_tim (s : State) (f : Field) (v : Nat) : (s.wr f v).tim = s.tim := rfl
@[simp] theorem State.wr_boot (s : State) (f : Field) (v : Nat) : (s.wr f v).boot = s.boot := rfl
@[simp] theorem State.wr_acl (s : State) (f : Field) (v : Nat) : (s.wr f v).acl = s.acl := rfl
@[simp] theorem State.wr_kpr (s : State) (f : Field) (v : Nat) : (s.wr f v).kpr = s.kpr := rfl
@[simp] theorem State.wr_saf (s : State) (f : Field) (v : Nat) : (s.wr f v).saf = s.saf := rfl
@[simp] theorem State.wr_cal (s : State) (f : Field) (v : Nat) : (s.wr f v).cal = s.cal := rfl
@[simp] theorem State.wr_pmc (s : State) (f : Field) (v : Nat) : (s.wr f v).pmc = s.pmc := rfl
@[simp] theorem State.wr_pin (s : State) (f : Field) (v : Nat) : (s.wr f v).pin = s.pin := rfl
@[simp] theorem State.wr_pending (s : State) (f : Field) (v : Nat) : (s.wr f v).pending = s.pending := rfl

theorem State.set1_eq (s : State) (f : Field) : s.set1 f = s.wr f 1 := rfl
theorem State.clr_eq (s : State) (f : Field) : s.clr f = s.wr f 0 := rfl

/-! ### Updates of other fields leave the registers -/

@[simp] theorem State.reg_halves (s : State) (x : SMap Nat) (off : Nat) : State.reg { s with halves := x } off = s.reg off := rfl
@[simp] theorem State.reg_ddr (s : State) (x : SMap Byte) (off : Nat) : State.reg { s with ddr := x } off = s.reg off := rfl
@[simp] theorem State.reg_poison (s : State) (x : List Nat) (off : Nat) : State.reg { s with poison := x } off = s.reg off := rfl
@[simp] theorem State.reg_ddrErr (s : State) (x : SMap Nat) (off : Nat) : State.reg { s with ddrErr := x } off = s.reg off := rfl
@[simp] theorem State.reg_sram (s : State) (x : SMap Byte) (off : Nat) : State.reg { s with sram := x } off = s.reg off := rfl
@[simp] theorem State.reg_sramPoison (s : State) (x : SMap Byte) (off : Nat) : State.reg { s with sramPoison := x } off = s.reg off := rfl
@[simp] theorem State.reg_sramErr (s : State) (x : SMap Nat) (off : Nat) : State.reg { s with sramErr := x } off = s.reg off := rfl
@[simp] theorem State.reg_kprSram (s : State) (x : SMap Byte) (off : Nat) : State.reg { s with kprSram := x } off = s.reg off := rfl
@[simp] theorem State.reg_kprErr (s : State) (x : SMap Nat) (off : Nat) : State.reg { s with kprErr := x } off = s.reg off := rfl
@[simp] theorem State.reg_coreResp (s : State) (x : Option (Nat × Nat × List Byte × Bool)) (off : Nat) : State.reg { s with coreResp := x } off = s.reg off := rfl
@[simp] theorem State.reg_hostMem (s : State) (x : SMap Byte) (off : Nat) : State.reg { s with hostMem := x } off = s.reg off := rfl
@[simp] theorem State.reg_hostPoison (s : State) (x : List Nat) (off : Nat) : State.reg { s with hostPoison := x } off = s.reg off := rfl
@[simp] theorem State.reg_free (s : State) (x : Nat) (off : Nat) : State.reg { s with free := x } off = s.reg off := rfl
@[simp] theorem State.reg_cycle (s : State) (x : Nat) (off : Nat) : State.reg { s with cycle := x } off = s.reg off := rfl
@[simp] theorem State.reg_readData (s : State) (x : Word) (off : Nat) : State.reg { s with readData := x } off = s.reg off := rfl
@[simp] theorem State.reg_readPoison (s : State) (x : Bool) (off : Nat) : State.reg { s with readPoison := x } off = s.reg off := rfl
@[simp] theorem State.reg_locked (s : State) (x : Bool) (off : Nat) : State.reg { s with locked := x } off = s.reg off := rfl
@[simp] theorem State.reg_docTrap (s : State) (x : Option (Nat × Nat)) (off : Nat) : State.reg { s with docTrap := x } off = s.reg off := rfl
@[simp] theorem State.reg_tb0 (s : State) (x : TimeBase) (off : Nat) : State.reg { s with tb0 := x } off = s.reg off := rfl
@[simp] theorem State.reg_tb1 (s : State) (x : TimeBase) (off : Nat) : State.reg { s with tb1 := x } off = s.reg off := rfl
@[simp] theorem State.reg_tb2 (s : State) (x : TimeBase) (off : Nat) : State.reg { s with tb2 := x } off = s.reg off := rfl
@[simp] theorem State.reg_hif (s : State) (x : HifSt) (off : Nat) : State.reg { s with hif := x } off = s.reg off := rfl
@[simp] theorem State.reg_dma (s : State) (x : SMap DmaCh) (off : Nat) : State.reg { s with dma := x } off = s.reg off := rfl
@[simp] theorem State.reg_bct (s : State) (x : BctSt) (off : Nat) : State.reg { s with bct := x } off = s.reg off := rfl
@[simp] theorem State.reg_rsv (s : State) (x : RsvSt) (off : Nat) : State.reg { s with rsv := x } off = s.reg off := rfl
@[simp] theorem State.reg_fol (s : State) (x : FolSt) (off : Nat) : State.reg { s with fol := x } off = s.reg off := rfl
@[simp] theorem State.reg_slt (s : State) (x : SltSt) (off : Nat) : State.reg { s with slt := x } off = s.reg off := rfl
@[simp] theorem State.reg_dut (s : State) (x : DutSt) (off : Nat) : State.reg { s with dut := x } off = s.reg off := rfl
@[simp] theorem State.reg_lac (s : State) (x : LacSt) (off : Nat) : State.reg { s with lac := x } off = s.reg off := rfl
@[simp] theorem State.reg_ikl (s : State) (x : IklSt) (off : Nat) : State.reg { s with ikl := x } off = s.reg off := rfl
@[simp] theorem State.reg_twn (s : State) (x : TwnSt) (off : Nat) : State.reg { s with twn := x } off = s.reg off := rfl
@[simp] theorem State.reg_blk (s : State) (x : BlkSt) (off : Nat) : State.reg { s with blk := x } off = s.reg off := rfl
@[simp] theorem State.reg_mem (s : State) (x : MemSt) (off : Nat) : State.reg { s with mem := x } off = s.reg off := rfl
@[simp] theorem State.reg_svy (s : State) (x : List SvyPipe) (off : Nat) : State.reg { s with svy := x } off = s.reg off := rfl
@[simp] theorem State.reg_axm (s : State) (x : AxmSt) (off : Nat) : State.reg { s with axm := x } off = s.reg off := rfl
@[simp] theorem State.reg_tim (s : State) (x : TimSt) (off : Nat) : State.reg { s with tim := x } off = s.reg off := rfl
@[simp] theorem State.reg_boot (s : State) (x : BootSt) (off : Nat) : State.reg { s with boot := x } off = s.reg off := rfl
@[simp] theorem State.reg_acl (s : State) (x : AclSt) (off : Nat) : State.reg { s with acl := x } off = s.reg off := rfl
@[simp] theorem State.reg_kpr (s : State) (x : KprSt) (off : Nat) : State.reg { s with kpr := x } off = s.reg off := rfl
@[simp] theorem State.reg_saf (s : State) (x : SafSt) (off : Nat) : State.reg { s with saf := x } off = s.reg off := rfl
@[simp] theorem State.reg_cal (s : State) (x : CalSt) (off : Nat) : State.reg { s with cal := x } off = s.reg off := rfl
@[simp] theorem State.reg_pmc (s : State) (x : PmcSt) (off : Nat) : State.reg { s with pmc := x } off = s.reg off := rfl
@[simp] theorem State.reg_pin (s : State) (x : PinSt) (off : Nat) : State.reg { s with pin := x } off = s.reg off := rfl
@[simp] theorem State.reg_pending (s : State) (x : List Instr) (off : Nat) : State.reg { s with pending := x } off = s.reg off := rfl

@[simp] theorem State.rd_halves (s : State) (x : SMap Nat) (f : Field) : State.rd { s with halves := x } f = s.rd f := rfl
@[simp] theorem State.rd_ddr (s : State) (x : SMap Byte) (f : Field) : State.rd { s with ddr := x } f = s.rd f := rfl
@[simp] theorem State.rd_poison (s : State) (x : List Nat) (f : Field) : State.rd { s with poison := x } f = s.rd f := rfl
@[simp] theorem State.rd_ddrErr (s : State) (x : SMap Nat) (f : Field) : State.rd { s with ddrErr := x } f = s.rd f := rfl
@[simp] theorem State.rd_sram (s : State) (x : SMap Byte) (f : Field) : State.rd { s with sram := x } f = s.rd f := rfl
@[simp] theorem State.rd_sramPoison (s : State) (x : SMap Byte) (f : Field) : State.rd { s with sramPoison := x } f = s.rd f := rfl
@[simp] theorem State.rd_sramErr (s : State) (x : SMap Nat) (f : Field) : State.rd { s with sramErr := x } f = s.rd f := rfl
@[simp] theorem State.rd_kprSram (s : State) (x : SMap Byte) (f : Field) : State.rd { s with kprSram := x } f = s.rd f := rfl
@[simp] theorem State.rd_kprErr (s : State) (x : SMap Nat) (f : Field) : State.rd { s with kprErr := x } f = s.rd f := rfl
@[simp] theorem State.rd_coreResp (s : State) (x : Option (Nat × Nat × List Byte × Bool)) (f : Field) : State.rd { s with coreResp := x } f = s.rd f := rfl
@[simp] theorem State.rd_hostMem (s : State) (x : SMap Byte) (f : Field) : State.rd { s with hostMem := x } f = s.rd f := rfl
@[simp] theorem State.rd_hostPoison (s : State) (x : List Nat) (f : Field) : State.rd { s with hostPoison := x } f = s.rd f := rfl
@[simp] theorem State.rd_free (s : State) (x : Nat) (f : Field) : State.rd { s with free := x } f = s.rd f := rfl
@[simp] theorem State.rd_cycle (s : State) (x : Nat) (f : Field) : State.rd { s with cycle := x } f = s.rd f := rfl
@[simp] theorem State.rd_readData (s : State) (x : Word) (f : Field) : State.rd { s with readData := x } f = s.rd f := rfl
@[simp] theorem State.rd_readPoison (s : State) (x : Bool) (f : Field) : State.rd { s with readPoison := x } f = s.rd f := rfl
@[simp] theorem State.rd_locked (s : State) (x : Bool) (f : Field) : State.rd { s with locked := x } f = s.rd f := rfl
@[simp] theorem State.rd_docTrap (s : State) (x : Option (Nat × Nat)) (f : Field) : State.rd { s with docTrap := x } f = s.rd f := rfl
@[simp] theorem State.rd_tb0 (s : State) (x : TimeBase) (f : Field) : State.rd { s with tb0 := x } f = s.rd f := rfl
@[simp] theorem State.rd_tb1 (s : State) (x : TimeBase) (f : Field) : State.rd { s with tb1 := x } f = s.rd f := rfl
@[simp] theorem State.rd_tb2 (s : State) (x : TimeBase) (f : Field) : State.rd { s with tb2 := x } f = s.rd f := rfl
@[simp] theorem State.rd_hif (s : State) (x : HifSt) (f : Field) : State.rd { s with hif := x } f = s.rd f := rfl
@[simp] theorem State.rd_dma (s : State) (x : SMap DmaCh) (f : Field) : State.rd { s with dma := x } f = s.rd f := rfl
@[simp] theorem State.rd_bct (s : State) (x : BctSt) (f : Field) : State.rd { s with bct := x } f = s.rd f := rfl
@[simp] theorem State.rd_rsv (s : State) (x : RsvSt) (f : Field) : State.rd { s with rsv := x } f = s.rd f := rfl
@[simp] theorem State.rd_fol (s : State) (x : FolSt) (f : Field) : State.rd { s with fol := x } f = s.rd f := rfl
@[simp] theorem State.rd_slt (s : State) (x : SltSt) (f : Field) : State.rd { s with slt := x } f = s.rd f := rfl
@[simp] theorem State.rd_dut (s : State) (x : DutSt) (f : Field) : State.rd { s with dut := x } f = s.rd f := rfl
@[simp] theorem State.rd_lac (s : State) (x : LacSt) (f : Field) : State.rd { s with lac := x } f = s.rd f := rfl
@[simp] theorem State.rd_ikl (s : State) (x : IklSt) (f : Field) : State.rd { s with ikl := x } f = s.rd f := rfl
@[simp] theorem State.rd_twn (s : State) (x : TwnSt) (f : Field) : State.rd { s with twn := x } f = s.rd f := rfl
@[simp] theorem State.rd_blk (s : State) (x : BlkSt) (f : Field) : State.rd { s with blk := x } f = s.rd f := rfl
@[simp] theorem State.rd_mem (s : State) (x : MemSt) (f : Field) : State.rd { s with mem := x } f = s.rd f := rfl
@[simp] theorem State.rd_svy (s : State) (x : List SvyPipe) (f : Field) : State.rd { s with svy := x } f = s.rd f := rfl
@[simp] theorem State.rd_axm (s : State) (x : AxmSt) (f : Field) : State.rd { s with axm := x } f = s.rd f := rfl
@[simp] theorem State.rd_tim (s : State) (x : TimSt) (f : Field) : State.rd { s with tim := x } f = s.rd f := rfl
@[simp] theorem State.rd_boot (s : State) (x : BootSt) (f : Field) : State.rd { s with boot := x } f = s.rd f := rfl
@[simp] theorem State.rd_acl (s : State) (x : AclSt) (f : Field) : State.rd { s with acl := x } f = s.rd f := rfl
@[simp] theorem State.rd_kpr (s : State) (x : KprSt) (f : Field) : State.rd { s with kpr := x } f = s.rd f := rfl
@[simp] theorem State.rd_saf (s : State) (x : SafSt) (f : Field) : State.rd { s with saf := x } f = s.rd f := rfl
@[simp] theorem State.rd_cal (s : State) (x : CalSt) (f : Field) : State.rd { s with cal := x } f = s.rd f := rfl
@[simp] theorem State.rd_pmc (s : State) (x : PmcSt) (f : Field) : State.rd { s with pmc := x } f = s.rd f := rfl
@[simp] theorem State.rd_pin (s : State) (x : PinSt) (f : Field) : State.rd { s with pin := x } f = s.rd f := rfl
@[simp] theorem State.rd_pending (s : State) (x : List Instr) (f : Field) : State.rd { s with pending := x } f = s.rd f := rfl

/-- What a register of a state holds depends on the register file alone. -/
theorem State.reg_of_regs (s t : State) (h : t.regs = s.regs) (off : Nat) : t.reg off = s.reg off := by
  unfold State.reg
  rw [h]

theorem State.rd_of_regs (s t : State) (h : t.regs = s.regs) (f : Field) : t.rd f = s.rd f := by
  unfold State.rd
  rw [State.reg_of_regs s t h]

end Sys2Proof.Machine
end

