-- ==== Sys2Proof/Laws/Registers.lean ====
section
/-! SUPPORT. Register fields: what a field reads as after a write of the same field, of another field of its register,
and of another register. The fields stand as places in the statements, so that they apply to every name of the map. -/
namespace Sys2Proof.Machine

theorem State.reg_setReg_same (s : State) (off : Nat) (v : Word) : (s.setReg off v).reg off = v :=
  smGet_smSet_same _ _ _ _

theorem State.reg_setReg_ne (s : State) (off o : Nat) (v : Word) (h : o ≠ off) : (s.setReg off v).reg o = s.reg o :=
  smGet_smSet_ne _ _ _ _ _ h

theorem State.reg_wr_ne (s : State) (f : Field) (v o : Nat) (h : o ≠ f.off) : (s.wr f v).reg o = s.reg o :=
  State.reg_setReg_ne _ _ _ _ h

/-- Another register. -/
theorem State.rd_wr_off (s : State) (o l w o' l' w' v : Nat) (h : o ≠ o') :
    (s.wr ⟨o, l, w⟩ v).rd ⟨o', l', w'⟩ = s.rd ⟨o', l', w'⟩ := by
  unfold State.rd
  rw [State.reg_wr_ne _ _ _ _ (by simpa using Ne.symm h)]

theorem State.rd_setReg_off (s : State) (o o' l' w' : Nat) (v : Word) (h : o ≠ o') :
    (s.setReg o v).rd ⟨o', l', w'⟩ = s.rd ⟨o', l', w'⟩ := by
  unfold State.rd
  rw [State.reg_setReg_ne _ _ _ _ (Ne.symm h)]

/-- The bits of a field after it is put. -/
theorem Field.put_getLsbD (f : Field) (x : Word) (v i : Nat) (hi : i < 64) :
    (f.put x v).getLsbD i = if f.lo ≤ i ∧ i < f.lo + f.width then v.testBit (i - f.lo) else x.getLsbD i := by
  have hm : f.mask.getLsbD i = decide (f.lo ≤ i ∧ i < f.lo + f.width) := by
    unfold Field.mask
    rw [BitVec.getLsbD_ofNat]
    simp only [hi, decide_true, Bool.true_and]
    rw [← Nat.shiftLeft_eq, Nat.testBit_shiftLeft]
    by_cases h : f.lo ≤ i
    · simp only [h, decide_true, Bool.true_and, Nat.testBit_two_pow_sub_one, true_and]
      congr 1
      simp only [eq_iff_iff]
      omega
    · simp [h]
  have hp : (BitVec.ofNat 64 (v % 2 ^ f.width * 2 ^ f.lo)).getLsbD i
      = (decide (f.lo ≤ i ∧ i < f.lo + f.width) && v.testBit (i - f.lo)) := by
    rw [BitVec.getLsbD_ofNat]
    simp only [hi, decide_true, Bool.true_and]
    rw [← Nat.shiftLeft_eq, Nat.testBit_shiftLeft, Nat.testBit_mod_two_pow]
    by_cases h : f.lo ≤ i
    · simp only [h, decide_true, Bool.true_and, true_and]
      congr 1
      simp only [decide_eq_decide]
      omega
    · simp [h]
  unfold Field.put
  rw [BitVec.getLsbD_or, BitVec.getLsbD_and, BitVec.getLsbD_not, hm, hp]
  by_cases h : f.lo ≤ i ∧ i < f.lo + f.width <;> simp [h, hi]

theorem Field.get_testBit (f : Field) (x : Word) (i : Nat) :
    (f.get x).testBit i = (decide (i < f.width) && x.getLsbD (f.lo + i)) := by
  unfold Field.get
  rw [Nat.testBit_mod_two_pow, ← Nat.shiftRight_eq_div_pow, Nat.testBit_shiftRight]
  rfl

theorem Field.get_put_same (f : Field) (x : Word) (v : Nat) (h : f.lo + f.width ≤ 64) :
    f.get (f.put x v) = v % 2 ^ f.width := by
  apply Nat.eq_of_testBit_eq
  intro i
  rw [Field.get_testBit, Nat.testBit_mod_two_pow]
  by_cases hi : i < f.width
  · simp only [hi, decide_true, Bool.true_and]
    rw [Field.put_getLsbD _ _ _ _ (by omega), if_pos (by omega)]
    congr 1
    omega
  · simp [hi]

theorem Field.get_put_apart (f g : Field) (x : Word) (v : Nat) (h : f.lo + f.width ≤ g.lo ∨ g.lo + g.width ≤ f.lo) :
    g.get (f.put x v) = g.get x := by
  apply Nat.eq_of_testBit_eq
  intro i
  rw [Field.get_testBit, Field.get_testBit]
  by_cases hi : i < g.width
  · simp only [hi, decide_true, Bool.true_and]
    by_cases h64 : g.lo + i < 64
    · rw [Field.put_getLsbD _ _ _ _ h64, if_neg (by omega)]
    · rw [BitVec.getLsbD_of_ge _ _ (by omega), BitVec.getLsbD_of_ge _ _ (by omega)]
  · simp [hi]

/-- The same field. -/
theorem State.rd_wr_same (s : State) (o l w v : Nat) (h : l + w ≤ 64) :
    (s.wr ⟨o, l, w⟩ v).rd ⟨o, l, w⟩ = v % 2 ^ w := by
  unfold State.rd State.wr
  rw [State.reg_setReg_same]
  exact Field.get_put_same _ _ _ h

/-- Another field of the same register. -/
theorem State.rd_wr_apart (s : State) (o l w l' w' v : Nat) (h : l + w ≤ l' ∨ l' + w' ≤ l) :
    (s.wr ⟨o, l, w⟩ v).rd ⟨o, l', w'⟩ = s.rd ⟨o, l', w'⟩ := by
  unfold State.rd State.wr
  rw [State.reg_setReg_same]
  exact Field.get_put_apart _ _ _ _ h

/-- A field is smaller than its width allows. -/
theorem State.rd_lt (s : State) (f : Field) : s.rd f < 2 ^ f.width := Nat.mod_lt _ (Nat.two_pow_pos _)

end Sys2Proof.Machine
end

