-- ==== Sys2Proof/Laws/Shared.lean ====
section
/-! SUPPORT. What the shared operations can do: which parts of the state each may change, and which 64 KiB blocks of
registers it leaves alone. A proof about a meaning cites these and unfolds none of the operations. -/
namespace Sys2Proof.Machine

/-! ### Vectors, sources, messages to the twin -/

/-- A vector changes the host link alone. -/
theorem State.vector_frame (s : State) (v : Nat) : ∃ x, s.vector v = { s with hif := x } := by
  unfold State.vector
  split
  · exact ⟨_, rfl⟩
  · exact ⟨s.hif, rfl⟩

@[simp] theorem State.vector_reg (s : State) (v o : Nat) : (s.vector v).reg o = s.reg o := by
  obtain ⟨x, h⟩ := s.vector_frame v
  rw [h]
  rfl

@[simp] theorem State.vector_rd (s : State) (v : Nat) (f : Field) : (s.vector v).rd f = s.rd f := by
  unfold State.rd
  rw [State.vector_reg]

/-- A source changes the registers alone. -/
theorem State.source_frame (s : State) (i : Nat) : ∃ r, s.source i = { s with regs := r } := by
  unfold State.source
  split
  · exact ⟨_, rfl⟩
  · exact ⟨s.regs, rfl⟩

/-- Sources stand in the DOC block. -/
theorem State.source_reg (s : State) (i o : Nat) (h : o / 65536 ≠ 32) : (s.source i).reg o = s.reg o := by
  unfold State.source
  split
  · refine State.reg_wr_ne _ _ _ _ ?_
    show o ≠ 0x200200 + 8 * i
    omega
  · rfl

theorem State.announce_frame (s : State) (v i : Nat) : ∃ r x, s.announce v i = { s with regs := r, hif := x } := by
  unfold State.announce
  obtain ⟨x, h⟩ := s.vector_frame v
  obtain ⟨r, h'⟩ := (s.vector v).source_frame i
  exact ⟨r, x, by rw [h', h]⟩

theorem State.announce_reg (s : State) (v i o : Nat) (h : o / 65536 ≠ 32) : (s.announce v i).reg o = s.reg o := by
  unfold State.announce
  rw [State.source_reg _ _ _ h, State.vector_reg]

theorem State.iklSend_frame (s : State) (lane mtype : Nat) (content body : List Byte) :
    ∃ x, s.iklSend lane mtype content body = { s with ikl := x } := by
  exact ⟨_, rfl⟩

@[simp] theorem State.iklSend_reg (s : State) (lane mtype : Nat) (content body : List Byte) (o : Nat) :
    (s.iklSend lane mtype content body).reg o = s.reg o := by
  obtain ⟨x, h⟩ := s.iklSend_frame lane mtype content body
  rw [h]
  rfl

/-! ### Register steps under a condition -/

theorem State.whenD_true (s : State) (f : State → State) : s.whenD true f = f s := rfl
theorem State.whenD_false (s : State) (f : State → State) : s.whenD false f = s := rfl

theorem State.addSat_reg (s : State) (f : Field) (n o : Nat) (h : o ≠ f.off) : (s.addSat f n).reg o = s.reg o :=
  State.reg_wr_ne _ _ _ _ h

theorem State.incSat_reg (s : State) (f : Field) (o : Nat) (h : o ≠ f.off) : (s.incSat f).reg o = s.reg o :=
  State.reg_wr_ne _ _ _ _ h

/-- The parts that the shared operations of Flags.lean may change, with registers outside the blocks KPR, DOC, SAF and
ACL as they were. -/
def Quiet (s t : State) : Prop :=
  (∃ r h k p g a i f m, t = { s with
      regs := r, hif := h, sram := k, sramPoison := p, sramErr := g, acl := a, ikl := i, saf := f, free := m }) ∧
    ∀ o, o / 65536 ≠ 30 → o / 65536 ≠ 31 → o / 65536 ≠ 32 → o / 65536 ≠ 34 → t.reg o = s.reg o

theorem Quiet.refl (s : State) : Quiet s s :=
  ⟨⟨s.regs, s.hif, s.sram, s.sramPoison, s.sramErr, s.acl, s.ikl, s.saf, s.free, rfl⟩, fun _ _ _ _ _ => rfl⟩

theorem Quiet.trans {s t u : State} (h : Quiet s t) (h' : Quiet t u) : Quiet s u := by
  obtain ⟨⟨r, x, k, p, w, a, i, f, m, e⟩, g⟩ := h
  obtain ⟨⟨r', x', k', p', w', a', i', f', m', e'⟩, g'⟩ := h'
  refine ⟨⟨r', x', k', p', w', a', i', f', m', by rw [e', e]⟩, fun o h1 h2 h3 h4 => ?_⟩
  rw [g' o h1 h2 h3 h4, g o h1 h2 h3 h4]

/-- A quiet step leaves a field of another block. -/
theorem Quiet.rd {s t : State} (h : Quiet s t) (o l w : Nat) (h1 : o / 65536 ≠ 30) (h2 : o / 65536 ≠ 31)
    (h3 : o / 65536 ≠ 32) (h4 : o / 65536 ≠ 34) : t.rd ⟨o, l, w⟩ = s.rd ⟨o, l, w⟩ := by
  unfold State.rd
  rw [h.2 o h1 h2 h3 h4]

theorem quiet_parts (s : State) (h : HifSt) (k p : SMap Byte) (g : SMap Nat) (a : AclSt) (i : IklSt) (f : SafSt) (m : Nat) :
    Quiet s { s with hif := h, sram := k, sramPoison := p, sramErr := g, acl := a, ikl := i, saf := f, free := m } :=
  ⟨⟨s.regs, h, k, p, g, a, i, f, m, rfl⟩, fun _ _ _ _ _ => rfl⟩

theorem quiet_wr (s : State) (f : Field) (v : Nat)
    (h : f.off / 65536 = 30 ∨ f.off / 65536 = 31 ∨ f.off / 65536 = 32 ∨ f.off / 65536 = 34) : Quiet s (s.wr f v) :=
  ⟨⟨_, s.hif, s.sram, s.sramPoison, s.sramErr, s.acl, s.ikl, s.saf, s.free, rfl⟩, fun o h1 h2 h3 h4 =>
    State.reg_wr_ne _ _ _ _ (fun e => by rw [e] at h1 h2 h3 h4; omega)⟩

theorem quiet_vector (s : State) (v : Nat) : Quiet s (s.vector v) := by
  obtain ⟨x, h⟩ := s.vector_frame v
  rw [h]
  exact quiet_parts s x _ _ _ _ _ _ _

theorem quiet_source (s : State) (i : Nat) : Quiet s (s.source i) := by
  obtain ⟨r, h⟩ := s.source_frame i
  exact ⟨⟨r, _, _, _, _, _, _, _, _, h⟩, fun o _ _ h3 _ => State.source_reg _ _ _ h3⟩

theorem quiet_announce (s : State) (v i : Nat) : Quiet s (s.announce v i) :=
  (quiet_vector s v).trans (quiet_source _ i)

theorem quiet_iklSend (s : State) (lane mtype : Nat) (content body : List Byte) :
    Quiet s (s.iklSend lane mtype content body) := by
  obtain ⟨x, h⟩ := s.iklSend_frame lane mtype content body
  rw [h]
  exact quiet_parts s _ _ _ _ _ x _ _

theorem quiet_ite (c : Prop) [Decidable c] {s a b : State} (ha : Quiet s a) (hb : Quiet s b) :
    Quiet s (if c then a else b) := by
  split
  · exact ha
  · exact hb

theorem quiet_whenD (c : Bool) (f : State → State) {s t : State} (h : Quiet s t) (hf : ∀ u, Quiet u (f u)) :
    Quiet s (t.whenD c f) := by
  unfold State.whenD
  exact quiet_ite _ (h.trans (hf t)) h

theorem quiet_foldl {α : Type} (f : State → α → State) (l : List α) (hf : ∀ u x, Quiet u (f u x)) :
    ∀ s, Quiet s (l.foldl f s) := by
  induction l with
  | nil => exact fun s => Quiet.refl s
  | cons a l ih => exact fun s => (hf s a).trans (ih (f s a))

/-! ### The Accession Log -/

theorem quiet_aclPut (s : State) (r : AclRec) : Quiet s (s.aclPut r) := by
  unfold State.aclPut
  extract_lets next oldest lost gone c t1 t2 t3 t4
  have h1 : Quiet s t1 := quiet_parts s _ _ _ _ _ _ _ _
  have h2 : Quiet s t2 := quiet_whenD _ _ h1 (fun u => (quiet_wr u _ _ (by decide)).trans (quiet_wr _ _ _ (by decide)))
  have h3 : Quiet s t3 := (h2.trans (quiet_wr _ _ _ (by decide))).trans (quiet_wr _ _ _ (by decide))
  have h4 : Quiet s t4 := quiet_ite _ (h3.trans (quiet_iklSend _ _ _ _ _)) h3
  exact quiet_ite _ (h4.trans (quiet_announce _ _ _)) h4

theorem quiet_aclEnter (s : State) (r : AclRec) : Quiet s (s.aclEnter r) := by
  unfold State.aclEnter
  refine quiet_ite _ (quiet_ite _ ?_ ?_) (quiet_aclPut s r)
  · exact (quiet_parts s _ _ _ _ _ _ _ _).trans (quiet_wr _ _ _ (by decide))
  · exact (((quiet_parts s _ _ _ _ _ _ _ _).trans (quiet_wr _ F.ACL_COUNTS.HOLD_OVERFLOW _ (by decide))).trans
      (quiet_wr _ F.ACL_ERR.HOLD_OVERFLOW _ (by decide))).trans (quiet_vector _ _)

theorem quiet_aclLog (s : State) (event : Nat) (data : List Byte) : Quiet s (s.aclLog event data) := by
  unfold State.aclLog
  refine quiet_ite _ ?_ (quiet_wr _ F.ACL_COUNTS.SUPPRESSED _ (by decide))
  exact (quiet_parts s _ _ _ _ _ _ _ _).trans (quiet_aclEnter _ _)

theorem quiet_aclDrain (s : State) : Quiet s s.aclDrain := by
  unfold State.aclDrain
  extract_lets q lost c t1 t2
  have h1 : Quiet s t1 := quiet_parts s _ _ _ _ _ _ _ _
  have h2 : Quiet s t2 := (h1.trans (quiet_foldl _ _ (fun u r => quiet_aclPut u r) _)).trans (quiet_wr _ _ _ (by decide))
  exact quiet_whenD _ _ h2 (fun u => (quiet_parts u _ _ _ _ _ _ _ _).trans (quiet_aclPut _ _))

theorem quiet_aclThaw (s : State) : Quiet s s.aclThaw := by
  unfold State.aclThaw
  have h1 : Quiet s ((s.clr F.ACL_STATUS.FROZEN).clr F.ACL_CTL.FREEZE) :=
    (quiet_wr s F.ACL_STATUS.FROZEN 0 (by decide)).trans (quiet_wr _ F.ACL_CTL.FREEZE 0 (by decide))
  exact quiet_ite _ h1 (h1.trans (quiet_aclDrain _))

theorem quiet_aclGuard (s : State) (data : List Byte) : Quiet s (s.aclGuard data) := by
  unfold State.aclGuard
  extract_lets t c1 u r c2 c3 v
  have h1 : Quiet s t := quiet_ite _ (quiet_aclThaw s) (Quiet.refl s)
  have h2 : Quiet s u := quiet_ite _ ((h1.trans (quiet_parts t _ _ _ _ _ _ _ _)).trans (quiet_aclDrain _)) h1
  have h3 : Quiet s v := h2.trans (quiet_parts u _ _ _ _ _ _ _ _)
  exact quiet_ite _ ((h3.trans (quiet_parts v _ _ _ _ _ _ _ _)).trans (quiet_wr _ _ _ (by decide)))
    (h3.trans (quiet_aclPut _ _))

/-! ### Notices, faults, the firewall -/

theorem quiet_notice (s : State) (kind code tag : Nat) : Quiet s (s.notice kind code tag) := by
  unfold State.notice
  exact ((quiet_parts s _ _ _ _ _ _ _ _).trans (quiet_wr _ F.DOC_STATUS.NOTICE_NEXT _ (by decide))).trans (quiet_source _ _)

theorem quiet_faultEvent (s : State) : Quiet s s.faultEvent := quiet_announce _ _ _

theorem quiet_lasting (s : State) (k inst : Nat) : Quiet s (s.lasting k inst) := by
  unfold State.lasting
  have h : Quiet s ((((s.set1 F.SAF_ERR.LASTING).wr F.SAF_LASTING.SOURCE k).wr F.SAF_LASTING.INSTANCE inst).incSat
      F.SAF_COUNTS.LASTING) :=
    (((quiet_wr s F.SAF_ERR.LASTING 1 (by decide)).trans (quiet_wr _ F.SAF_LASTING.SOURCE _ (by decide))).trans
      (quiet_wr _ F.SAF_LASTING.INSTANCE _ (by decide))).trans (quiet_wr _ F.SAF_COUNTS.LASTING _ (by decide))
  exact (h.trans (quiet_aclLog _ _ _)).trans (quiet_faultEvent _)

theorem quiet_bucket (s : State) (k inst : Nat) : Quiet s (s.bucket k inst).1 := by
  unfold State.bucket
  extract_lets _ t _ _ _ _ u
  have h1 : Quiet s u := quiet_parts s _ _ _ _ _ _ _ _
  split
  · exact h1.trans (quiet_lasting _ _ _)
  · exact h1

theorem quiet_bucketReport (s : State) (k inst : Nat) : Quiet s (s.bucketReport k inst) := quiet_bucket s k inst

theorem quiet_fwRefuse (s : State) (m : Master) (addr kind : Nat) : Quiet s (s.fwRefuse m addr kind) := by
  unfold State.fwRefuse
  extract_lets t1 t2 data c1 c2
  have h1 : Quiet s t1 :=
    (((quiet_wr s F.KPR_FW_LAST.ADDR _ (by decide)).trans (quiet_wr _ F.KPR_FW_LAST.MASTER _ (by decide))).trans
      (quiet_wr _ F.KPR_FW_LAST.CORE _ (by decide))).trans (quiet_wr _ F.KPR_FW_LAST.KIND _ (by decide))
  have h2 : Quiet s t2 := (h1.trans (quiet_wr _ F.KPR_ERR.FIREWALL 1 (by decide))).trans
    (quiet_wr _ F.KPR_COUNTS.FIREWALL _ (by decide))
  refine quiet_ite _ ((h2.trans (quiet_parts t2 _ _ _ _ _ _ _ _)).trans (quiet_aclLog _ _ _)) ?_
  exact ((h2.trans (quiet_parts t2 _ _ _ _ _ _ _ _)).trans (quiet_wr _ F.KPR_COUNTS.SUPPRESSED _ (by decide))).trans
    (quiet_wr _ F.ACL_COUNTS.SUPPRESSED _ (by decide))

end Sys2Proof.Machine
end

