-- ==== Sys2Proof/Laws/Frames.lean ====
section
/-! SUPPORT. What a step leaves of the registers: frames by register and by block, built up write by write; commands that
the firewall admits; vectors and sources as plain writes. -/
namespace Sys2Proof.Machine

theorem State.gated_serves (s : State) (m : Master) (off : Nat) (f : State → State) (h : s.serves m off = true) :
    s.gated m off f = f s := by
  unfold State.serves at h
  simp only [Bool.and_eq_true, Bool.not_eq_true'] at h
  simp [State.gated, h.1, h.2]
theorem State.source_eq (s : State) (i : Nat) (h : i ≤ 27) : s.source i = s.wr (F.DOC_ROUTE.PENDING i) 1 := by
  simp [State.source, h, State.set1]
theorem State.vector_eq (s : State) (v : Nat) (h : v ≤ 32) : s.vector v = { s with hif := { s.hif with due := s.hif.due ||| bit64 v } } := by
  simp [State.vector, h]
theorem foldl_rd {α} (f : State → α → State) (l : List α) (F : Field) (h : ∀ s a, (f s a).rd F = s.rd F) (s : State) :
    (l.foldl f s).rd F = s.rd F := by
  induction l generalizing s with
  | nil => rfl
  | cons a l ih => simp [List.foldl, ih, h]
theorem State.announce_eq (s : State) (v i : Nat) (hv : v ≤ 32) (hi : i ≤ 27) : s.announce v i =
    ({ s with hif := { s.hif with due := s.hif.due ||| bit64 v } }).wr (F.DOC_ROUTE.PENDING i) 1 := by
  simp [State.announce, State.vector_eq _ _ hv, State.source_eq _ _ hi]
theorem State.bit_iff (s : State) (f : Field) : s.bit f = true ↔ s.rd f ≠ 0 := by simp [State.bit]
theorem regsApart_wr {l : List Nat} {s t : State} (f : Field) (v : Nat) (h : regsApart l s t) (hf : f.off ∈ l) :
    regsApart l s (t.wr f v) := by
  intro o ho
  rw [State.reg_wr_ne _ _ _ _ (fun e => ho (by rw [e]; exact hf)), h o ho]
theorem regsApart_setReg {l : List Nat} {s t : State} (f : Nat) (v : Word) (h : regsApart l s t) (hf : f ∈ l) :
    regsApart l s (t.setReg f v) := by
  intro o ho
  rw [State.reg_setReg_ne _ _ _ _ (fun e => ho (by rw [e]; exact hf)), h o ho]
theorem regsApart_regs {l : List Nat} {s t u : State} (h : regsApart l s t) (hf : u.regs = t.regs) :
    regsApart l s u := by
  intro o ho
  rw [State.reg_of_regs _ _ hf, h o ho]
theorem regsApart_refl {l : List Nat} {s : State} : regsApart l s s := fun _ _ => rfl
theorem regsOutside_wr {b : Nat → Bool} {s t : State} (f : Field) (v : Nat) (h : regsOutside b s t) (hf : b (f.off / 0x10000) = true) :
    regsOutside b s (t.wr f v) := by
  intro o ho
  rw [State.reg_wr_ne _ _ _ _ (fun e => by rw [e, hf] at ho; exact absurd ho (by simp)), h o ho]
theorem regsOutside_setReg {b : Nat → Bool} {s t : State} (f : Nat) (v : Word) (h : regsOutside b s t) (hf : b (f / 0x10000) = true) :
    regsOutside b s (t.setReg f v) := by
  intro o ho
  rw [State.reg_setReg_ne _ _ _ _ (fun e => by rw [e, hf] at ho; exact absurd ho (by simp)), h o ho]
theorem regsOutside_regs {b : Nat → Bool} {s t u : State} (h : regsOutside b s t) (hf : u.regs = t.regs) :
    regsOutside b s u := by
  intro o ho
  rw [State.reg_of_regs _ _ hf, h o ho]
theorem regsOutside_refl {b : Nat → Bool} {s : State} : regsOutside b s s := fun _ _ => rfl
theorem regsOutside_trans {b : Nat → Bool} {s t u : State} (h : regsOutside b s t) (h' : regsOutside b t u) : regsOutside b s u :=
  fun o ho => (h' o ho).trans (h o ho)
theorem regsOutside_foldl {α} {b : Nat → Bool} (f : State → α → State) (l : List α) (h : ∀ s a, regsOutside b s (f s a)) :
    ∀ s : State, regsOutside b s (l.foldl f s) := by
  induction l with
  | nil => intro s; exact regsOutside_refl
  | cons a l ih => intro s; exact regsOutside_trans (h s a) (ih _)

/-- A field read from a register that has just been written whole. -/
theorem State.rd_setReg_same (s : State) (o l w : Nat) (v : Word) : (s.setReg o v).rd ⟨o, l, w⟩ = Field.get ⟨o, l, w⟩ v := by
  unfold State.rd
  rw [State.reg_setReg_same]

/-- A staged doubleword: the whole of a 64-bit access. -/
theorem State.staged_w64 (s : State) (off : Nat) (v : Word) : s.staged off .w64 v = v := rfl

/-- A staged doubleword: the upper half joins the lower half that the register holds. -/
theorem State.staged_w32 (s : State) (off : Nat) (v : Word) :
    (s.staged off .w32 v).toNat = (s.reg off).toNat % 2 ^ 32 + v.toNat % 2 ^ 32 * 2 ^ 32 := by
  have h1 : ((s.reg off) &&& BitVec.ofNat 64 lowMask).toNat = (s.reg off).toNat % 2 ^ 32 := by
    rw [BitVec.toNat_and]
    exact Nat.and_two_pow_sub_one_eq_mod _ 32
  have h2 : (BitVec.ofNat 64 (v.toNat % 2 ^ 32 * 2 ^ 32)).toNat = 2 ^ 32 * (v.toNat % 2 ^ 32) := by
    rw [BitVec.toNat_ofNat, Nat.mod_eq_of_lt (by omega), Nat.mul_comm]
  unfold State.staged
  rw [if_neg (by decide), BitVec.toNat_or, h1, h2, Nat.or_comm,
    ← Nat.two_pow_add_eq_or_of_lt (by omega), Nat.add_comm, Nat.mul_comm]

/-! ### The Folio store -/

/-- A RETIRED report changes the leaf in its place and the held completions alone (R40). -/
theorem State.retire_frame (s : State) (p : Nat) : ∃ f h, s.retire p = { s with fol := f, hif := { s.hif with held := h } } := by
  unfold State.retire
  split
  · exact ⟨s.fol, s.hif.held, rfl⟩
  · split
    · exact ⟨s.fol, s.hif.held, rfl⟩
    · simp only [State.complete, State.setLeaf, State.setPlace]
      split <;> exact ⟨_, _, rfl⟩

@[simp] theorem State.retire_rd (s : State) (p : Nat) (f : Field) : (s.retire p).rd f = s.rd f := by
  obtain ⟨_, _, h⟩ := s.retire_frame p
  rw [h]; rfl

@[simp] theorem State.retire_reg (s : State) (p o : Nat) : (s.retire p).reg o = s.reg o := by
  obtain ⟨_, _, h⟩ := s.retire_frame p
  rw [h]; rfl

theorem regsOutside_retire {b : Nat → Bool} {s t : State} (h : regsOutside b s t) (p : Nat) : regsOutside b s (t.retire p) := by
  intro o ho
  rw [State.retire_reg, h o ho]

theorem regsApart_retire {l : List Nat} {s t : State} (h : regsApart l s t) (p : Nat) : regsApart l s (t.retire p) := by
  intro o ho
  rw [State.retire_reg, h o ho]

theorem State.retire_used (s : State) (p q : Nat) : (s.retire p).hqUsed q = s.hqUsed q := by
  obtain ⟨_, _, h⟩ := s.retire_frame p
  rw [h]; rfl

theorem State.retire_memories (s : State) (p : Nat) : sameMemories s (s.retire p) := by
  obtain ⟨_, _, h⟩ := s.retire_frame p
  rw [h]; exact ⟨rfl, rfl, rfl, rfl, rfl, rfl, rfl, rfl, rfl, rfl⟩

theorem sameMemories_trans {s t u : State} (h : sameMemories s t) (h' : sameMemories t u) : sameMemories s u := by
  obtain ⟨a, b, c, d, e, f, g, i, j, k⟩ := h
  obtain ⟨a', b', c', d', e', f', g', i', j', k'⟩ := h'
  exact ⟨a'.trans a, b'.trans b, c'.trans c, d'.trans d, e'.trans e, f'.trans f, g'.trans g, i'.trans i, j'.trans j,
    k'.trans k⟩

/-- FOL_LEAF_STATUS and FOL_LEAF_POS stand in the FOL block. -/
theorem State.folShow_frame (s : State) : (∃ r, s.folShow = { s with regs := r }) ∧ regsOutside (fun b => b = 4) s s.folShow := by
  unfold State.folShow
  simp only [State.wrInt]
  have h : regsOutside (fun b => b = 4) s ((((s.wr F.FOL_LEAF_STATUS.CUR_LEAF (((s.leafAt s.curPlace).map Leaf.id).getD 0)).wr
      F.FOL_LEAF_STATUS.CUR_STATE (s.leafState s.curPlace)).wr F.FOL_LEAF_STATUS.NEXT_LEAF
      (((s.leafAt (1 - s.curPlace)).map Leaf.id).getD 0)).wr F.FOL_LEAF_STATUS.NEXT_STATE (s.leafState (1 - s.curPlace))) :=
    regsOutside_wr _ _ (regsOutside_wr _ _ (regsOutside_wr _ _ (regsOutside_wr _ _ regsOutside_refl (by decide)) (by decide))
      (by decide)) (by decide)
  split
  · exact ⟨⟨_, rfl⟩, regsOutside_wr _ _ (regsOutside_wr _ _ h (by decide)) (by decide)⟩
  · exact ⟨⟨_, rfl⟩, h⟩

theorem State.folShow_rd (s : State) (o l w : Nat) (h : o / 0x10000 ≠ 4) : s.folShow.rd ⟨o, l, w⟩ = s.rd ⟨o, l, w⟩ := by
  unfold State.rd
  rw [s.folShow_frame.2 o (by simpa using h)]

end Sys2Proof.Machine
end

