-- ==== Sys2Proof/Laws/Secded.lean ====
section
/-! SUPPORT. The matrix of the burst code: whatever the implementation gives, one bit is corrected, two are detected, and the
poison pattern is neither (R197 to R199). -/
namespace Sys2Proof.Machine

set_option maxRecDepth 100000

/-- The columns of three bits are what the code asks for. -/
theorem threeBits_good : columnsGood (fun i => threeBits.getD i 0) = true := by decide +kernel

/-- The matrix in use is what the code asks for. -/
theorem secdedColumn_good : columnsGood secdedColumn = true := by
  by_cases h : columnsGood Config.secdedColumn = true
  · have e : secdedColumn = Config.secdedColumn := by
      funext i
      simp [secdedColumn, h]
    rw [e, h]
  · have e : secdedColumn = fun i => threeBits.getD i 0 := by
      funext i
      simp [secdedColumn, h]
    rw [e, threeBits_good]

end Sys2Proof.Machine
end

