-- ==== Sys2Proof/Laws/Slots.lean ====
section
/-! SUPPORT. A frame in which no beam exposes: the last slot of a leaf of one band, whose only row is a spare one. -/
namespace Sys2Proof.Machine

/-- In slot 527 of a leaf of 32 lines only row 527 lies within the leaf, and the reset table enables no beam there. -/
theorem slotBytes_lastSlot (s : State) (l : Leaf) (h : LeafHdr) (hl : h.lines = 32)
    (hb : (s.bank (l.ras.bank.getD 0)).entries = []) : s.slotBytes l h 527 = [] := by
  simp only [State.slotBytes, List.flatMap_eq_nil_iff, List.filterMap_eq_nil_iff]
  intro r hr c hc
  have hr := List.mem_range.mp hr
  have hc := List.mem_range.mp hc
  by_cases hk : r = 527
  · subst hk
    have : beEnable ((s.bank (l.ras.bank.getD 0)).entry 527 c) = false := by
      have h1 : (512 * 527 + c) / 512 = 527 := by omega
      simp [Bank.entry, hb, smGet, bctDefault, h1, beEnable]
    simp [this]
  · have : ¬ ((32 * ((527 : Nat) - (r : Int)) + bePhi ((s.bank (l.ras.bank.getD 0)).entry r c) : Int) < (h.lines : Int)) := by
      rw [hl]; push_cast; omega
    simp only [this, decide_false, Bool.and_false, Bool.false_eq_true, if_false]

end Sys2Proof.Machine
end

