-- ==== Sys2Proof/Laws/SoundCore.lean ====
section
/-! SUPPORT. Soundness as one predicate that every operation keeps: the queue is as it was, the memories are canonical
and the units complete. A state update is judged by the parts that the predicate looks at. -/
namespace Sys2Proof.Machine

/-- The parts of a state that soundness looks at. -/
structure OkParts (p q : List Instr) (regs : SMap Word) (ddr sram host buf flash mram ring : SMap Byte)
    (poison : List Nat) (grp : List BlkGrp) (ch : List MemCh) (svy : List SvyPipe) (err : SMap Nat) (mark : SMap Byte)
    (hostMark : List Nat) (half : SMap Nat) (serr : SMap Nat) (ksram : SMap Byte) (kerr : SMap Nat) : Prop where
  queue : q = p
  regs : smWf regReset regs = true
  ddr : Memory.wf ddr = true
  sram : Memory.wf sram = true
  host : Memory.wf host = true
  buf : Memory.wf buf = true
  flash : smWf flashDefault flash = true
  mram : Memory.wf mram = true
  ring : Memory.wf ring = true
  poison : rising poison = true
  grp : grp.length = 4
  ch : ch.length = 6
  svy : svy.length = 2
  err : smWf (fun _ => 0) err = true
  mark : Memory.wf mark = true
  hostMark : rising hostMark = true
  half : smWf halfNone half = true
  serr : smWf (fun _ => 0) serr = true
  ksram : Memory.wf ksram = true
  kerr : smWf (fun _ => 0) kerr = true

/-- A sound state with this queue. -/
def Ok (p : List Instr) (s : State) : Prop :=
  OkParts p s.pending s.regs s.ddr s.sram s.hostMem s.boot.flashBuf s.boot.flash s.acl.mram s.pmc.ring s.poison
    s.blk.grp s.mem.ch s.svy s.ddrErr s.sramPoison s.hostPoison
    s.halves s.sramErr s.kprSram s.kprErr

theorem ok_iff (p : List Instr) (s : State) : Ok p s ↔ s.pending = p ∧ s.sound := by
  unfold Ok State.sound State.canonical State.shaped
  simp only [Bool.and_eq_true, decide_eq_true_eq]
  constructor
  · intro h
    exact ⟨h.queue, ⟨⟨⟨⟨⟨⟨⟨⟨⟨⟨⟨⟨⟨⟨⟨h.regs, h.ddr⟩, h.sram⟩, h.host⟩, h.buf⟩, h.flash⟩, h.mram⟩, h.ring⟩, h.poison⟩, h.err⟩, h.mark⟩,
      h.hostMark⟩, h.half⟩, h.serr⟩, h.ksram⟩, h.kerr⟩, ⟨h.grp, h.ch⟩, h.svy⟩
  · intro ⟨h1, ⟨⟨⟨⟨⟨⟨⟨⟨⟨⟨⟨⟨⟨⟨⟨h2, h3⟩, h4⟩, h5⟩, h6⟩, h7⟩, h8⟩, h9⟩, h10⟩, h14⟩, h15⟩, h16⟩, h17⟩, h18⟩, h19⟩, h20⟩, ⟨h11, h12⟩, h13⟩
    exact ⟨h1, h2, h3, h4, h5, h6, h7, h8, h9, h10, h11, h12, h13, h14, h15, h16, h17, h18, h19, h20⟩

/-- An outcome that runs on to a sound state with this queue. -/
def OkOut (p : List Instr) (o : Host.Outcome State Fault Refusal) : Prop := ∃ t, o = .next t ∧ Ok p t

theorem wf_rekey (f : Nat → Nat) (m : SMap Byte) : Memory.wf (rekey f m) = true := by
  unfold rekey
  have h : ∀ n : SMap Byte, Memory.wf n = true →
      Memory.wf (m.foldl (fun n e => smSet byteDefault n (f e.1) e.2) n) = true := by
    induction m with
    | nil => exact fun n hn => hn
    | cons e m ih => exact fun n hn => ih _ (smWf_smSet _ _ _ _ hn)
  exact h [] rfl

theorem wf_flashWrite (m : SMap Byte) (a : Nat) (bs : List Byte) (h : smWf flashDefault m = true) :
    smWf flashDefault (flashWrite m a bs) = true := by
  induction bs generalizing m a with
  | nil => exact h
  | cons b bs ih => exact ih _ _ (smWf_smSet _ _ _ _ h)

theorem smWfFrom_filter {α : Type} [DecidableEq α] (d : Nat → α) (f : Nat × α → Bool) (m : SMap α) (lo : Option Nat)
    (h : smWfFrom d lo m = true) : smWfFrom d lo (m.filter f) = true := by
  induction m generalizing lo with
  | nil => exact h
  | cons e m ih =>
    obtain ⟨a, v⟩ := e
    simp only [smWfFrom, Bool.and_eq_true, decide_eq_true_eq] at h
    rw [List.filter_cons]
    split
    · simp only [smWfFrom, Bool.and_eq_true, decide_eq_true_eq]
      exact ⟨h.1, ih _ h.2⟩
    · refine smWfFrom_weaken _ _ _ a (ih _ h.2) ?_
      intro x hx
      subst hx
      have := h.1.1
      simp only [decide_eq_true_eq] at this
      omega

theorem smWf_filter {α : Type} [DecidableEq α] (d : Nat → α) (f : Nat × α → Bool) (m : SMap α) (h : smWf d m = true) :
    smWf d (m.filter f) = true :=
  smWfFrom_filter d f m none h

/-- Entries put into an empty map one after another. -/
theorem wf_refold {α β : Type} [DecidableEq α] (d : Nat → α) (k : β → Nat) (v : β → α) (l : List β) :
    smWf d (l.foldl (fun m e => smSet d m (k e) (v e)) []) = true := by
  have h : ∀ n : SMap α, smWf d n = true → smWf d (l.foldl (fun m e => smSet d m (k e) (v e)) n) = true := by
    induction l with
    | nil => exact fun n hn => hn
    | cons e l ih => exact fun n hn => ih _ (smWf_smSet _ _ _ _ hn)
  exact h [] rfl

variable {p q : List Instr} {regs : SMap Word} {ddr sram host buf flash mram ring : SMap Byte} {poison : List Nat}
  {grp : List BlkGrp} {ch : List MemCh} {svy : List SvyPipe} {err : SMap Nat} {mark : SMap Byte} {hostMark : List Nat}
  {half serr kerr : SMap Nat} {ksram : SMap Byte} {s : State}

/-- The parts of one state make it sound. -/
@[simp] theorem okParts_of (p : List Instr) (s : State) :
    OkParts p s.pending s.regs s.ddr s.sram s.hostMem s.boot.flashBuf s.boot.flash s.acl.mram s.pmc.ring s.poison
      s.blk.grp s.mem.ch s.svy s.ddrErr s.sramPoison s.hostPoison
    s.halves s.sramErr s.kprSram s.kprErr ↔ Ok p s := ⟨id, id⟩

/-- A state written out is judged by its parts. -/
@[simp] theorem ok_mk (p : List Instr)
    (a_regs : SMap Word) (a_halves : SMap Nat) (a_ddr : SMap Byte) (a_poison : List Nat) (a_ddrErr : SMap Nat)
    (a_sram : SMap Byte) (a_sramPoison : SMap Byte) (a_sramErr : SMap Nat) (a_kprSram : SMap Byte) (a_kprErr :
    SMap Nat) (a_coreResp : Option (Nat × Nat × List Byte × Bool)) (a_hostMem : SMap Byte) (a_hostPoison :
    List Nat) (a_free : Nat) (a_cycle : Nat) (a_readData : Word) (a_readPoison : Bool) (a_locked : Bool)
    (a_docTrap : Option (Nat × Nat)) (a_tb0 : TimeBase) (a_tb1 : TimeBase) (a_tb2 : TimeBase) (a_hif : HifSt)
    (a_dma : SMap DmaCh) (a_bct : BctSt) (a_rsv : RsvSt) (a_fol : FolSt) (a_slt : SltSt) (a_dut : DutSt)
    (a_lac : LacSt) (a_ikl : IklSt) (a_twn : TwnSt) (a_blk : BlkSt) (a_mem : MemSt) (a_svy : List SvyPipe)
    (a_axm : AxmSt) (a_tim : TimSt) (a_boot : BootSt) (a_acl : AclSt) (a_kpr : KprSt) (a_saf : SafSt) (a_cal :
    CalSt) (a_pmc : PmcSt) (a_pin : PinSt) (a_pending : List Instr) :
    Ok p (State.mk a_regs a_halves a_ddr a_poison a_ddrErr a_sram a_sramPoison a_sramErr a_kprSram a_kprErr
    a_coreResp a_hostMem a_hostPoison a_free a_cycle a_readData a_readPoison a_locked a_docTrap a_tb0 a_tb1
    a_tb2 a_hif a_dma a_bct a_rsv a_fol a_slt a_dut a_lac a_ikl a_twn a_blk a_mem a_svy a_axm a_tim a_boot
    a_acl a_kpr a_saf a_cal a_pmc a_pin a_pending)
      ↔ OkParts p a_pending a_regs a_ddr a_sram a_hostMem a_boot.flashBuf a_boot.flash a_acl.mram a_pmc.ring a_poison
        a_blk.grp a_mem.ch a_svy a_ddrErr a_sramPoison a_hostPoison a_halves a_sramErr a_kprSram a_kprErr := ⟨id, id⟩

@[simp] theorem okParts_setReg (off : Nat) (v : Word)
    (h : OkParts p q regs ddr sram host buf flash mram ring poison grp ch svy err mark hostMark half serr ksram kerr) :
    OkParts p q (smSet regReset regs off v) ddr sram host buf flash mram ring poison grp ch svy err mark hostMark half serr ksram kerr :=
  { h with regs := smWf_smSet _ _ _ _ h.regs }

@[simp] theorem okParts_ddr (ok : Nat → Bool) (place : Nat → Nat) (a : Nat) (bs : List Byte)
    (h : OkParts p q regs ddr sram host buf flash mram ring poison grp ch svy err mark hostMark half serr ksram kerr) :
    OkParts p q regs (memWriteIf ok place ddr a bs) sram host buf flash mram ring poison grp ch svy err mark hostMark half serr ksram kerr :=
  { h with ddr := wf_memWriteIf _ _ _ _ _ h.ddr }

@[simp] theorem okParts_sram (a : Nat) (bs : List Byte)
    (h : OkParts p q regs ddr sram host buf flash mram ring poison grp ch svy err mark hostMark half serr ksram kerr) :
    OkParts p q regs ddr (memWrite sram a bs) host buf flash mram ring poison grp ch svy err mark hostMark half serr ksram kerr :=
  { h with sram := wf_memWrite _ _ _ h.sram }

@[simp] theorem okParts_sram_nil
    (h : OkParts p q regs ddr sram host buf flash mram ring poison grp ch svy err mark hostMark half serr ksram kerr) :
    OkParts p q regs ddr [] host buf flash mram ring poison grp ch svy err mark hostMark half serr ksram kerr :=
  { h with sram := rfl }

@[simp] theorem okParts_host (a : Nat) (bs : List Byte)
    (h : OkParts p q regs ddr sram host buf flash mram ring poison grp ch svy err mark hostMark half serr ksram kerr) :
    OkParts p q regs ddr sram (memWrite host a bs) buf flash mram ring poison grp ch svy err mark hostMark half serr ksram kerr :=
  { h with host := wf_memWrite _ _ _ h.host }

@[simp] theorem okParts_buf (a : Nat) (bs : List Byte)
    (h : OkParts p q regs ddr sram host buf flash mram ring poison grp ch svy err mark hostMark half serr ksram kerr) :
    OkParts p q regs ddr sram host (memWrite buf a bs) flash mram ring poison grp ch svy err mark hostMark half serr ksram kerr :=
  { h with buf := wf_memWrite _ _ _ h.buf }

@[simp] theorem okParts_mram (a : Nat) (bs : List Byte)
    (h : OkParts p q regs ddr sram host buf flash mram ring poison grp ch svy err mark hostMark half serr ksram kerr) :
    OkParts p q regs ddr sram host buf flash (memWrite mram a bs) ring poison grp ch svy err mark hostMark half serr ksram kerr :=
  { h with mram := wf_memWrite _ _ _ h.mram }

@[simp] theorem okParts_ring (a : Nat) (bs : List Byte)
    (h : OkParts p q regs ddr sram host buf flash mram ring poison grp ch svy err mark hostMark half serr ksram kerr) :
    OkParts p q regs ddr sram host buf flash mram (memWrite ring a bs) poison grp ch svy err mark hostMark half serr ksram kerr :=
  { h with ring := wf_memWrite _ _ _ h.ring }

@[simp] theorem okParts_poison_filter (f : Nat → Bool)
    (h : OkParts p q regs ddr sram host buf flash mram ring poison grp ch svy err mark hostMark half serr ksram kerr) :
    OkParts p q regs ddr sram host buf flash mram ring (poison.filter f) grp ch svy err mark hostMark half serr ksram kerr :=
  { h with poison := rising_filter _ _ h.poison }

@[simp] theorem okParts_poison_insert (k : Nat)
    (h : OkParts p q regs ddr sram host buf flash mram ring poison grp ch svy err mark hostMark half serr ksram kerr) :
    OkParts p q regs ddr sram host buf flash mram ring (listInsert k poison) grp ch svy err mark hostMark half serr ksram kerr :=
  { h with poison := rising_listInsert _ _ h.poison }

@[simp] theorem okParts_grp (i : Nat) (x : BlkGrp)
    (h : OkParts p q regs ddr sram host buf flash mram ring poison grp ch svy err mark hostMark half serr ksram kerr) :
    OkParts p q regs ddr sram host buf flash mram ring poison (grp.set i x) ch svy err mark hostMark half serr ksram kerr :=
  { h with grp := by rw [List.length_set]; exact h.grp }

@[simp] theorem okParts_ch (i : Nat) (f : MemCh → MemCh)
    (h : OkParts p q regs ddr sram host buf flash mram ring poison grp ch svy err mark hostMark half serr ksram kerr) :
    OkParts p q regs ddr sram host buf flash mram ring poison grp (ch.modify i f) svy err mark hostMark half serr ksram kerr :=
  { h with ch := by rw [List.length_modify]; exact h.ch }

@[simp] theorem okParts_svy (i : Nat) (x : SvyPipe)
    (h : OkParts p q regs ddr sram host buf flash mram ring poison grp ch svy err mark hostMark half serr ksram kerr) :
    OkParts p q regs ddr sram host buf flash mram ring poison grp ch (svy.set i x) err mark hostMark half serr ksram kerr :=
  { h with svy := by rw [List.length_set]; exact h.svy }

@[simp] theorem okParts_ddr_all (a : Nat) (bs : List Byte)
    (h : OkParts p q regs ddr sram host buf flash mram ring poison grp ch svy err mark hostMark half serr ksram kerr) :
    OkParts p q regs (memWrite ddr a bs) sram host buf flash mram ring poison grp ch svy err mark hostMark half serr ksram kerr :=
  { h with ddr := wf_memWrite _ _ _ h.ddr }

@[simp] theorem okParts_err (k v : Nat)
    (h : OkParts p q regs ddr sram host buf flash mram ring poison grp ch svy err mark hostMark half serr ksram kerr) :
    OkParts p q regs ddr sram host buf flash mram ring poison grp ch svy (smSet (fun _ => 0) err k v) mark hostMark half serr ksram kerr :=
  { h with err := smWf_smSet _ _ _ _ h.err }

@[simp] theorem okParts_err_erase (k : Nat)
    (h : OkParts p q regs ddr sram host buf flash mram ring poison grp ch svy err mark hostMark half serr ksram kerr) :
    OkParts p q regs ddr sram host buf flash mram ring poison grp ch svy (smErase err k) mark hostMark half serr ksram kerr :=
  { h with err := smWfFrom_smErase _ _ none k h.err }

@[simp] theorem okParts_mark (a : Nat) (bs : List Byte)
    (h : OkParts p q regs ddr sram host buf flash mram ring poison grp ch svy err mark hostMark half serr ksram kerr) :
    OkParts p q regs ddr sram host buf flash mram ring poison grp ch svy err (memWrite mark a bs) hostMark half serr ksram kerr :=
  { h with mark := wf_memWrite _ _ _ h.mark }

@[simp] theorem okParts_mark_nil
    (h : OkParts p q regs ddr sram host buf flash mram ring poison grp ch svy err mark hostMark half serr ksram kerr) :
    OkParts p q regs ddr sram host buf flash mram ring poison grp ch svy err [] hostMark half serr ksram kerr :=
  { h with mark := rfl }

@[simp] theorem okParts_hostMark_filter (f : Nat → Bool)
    (h : OkParts p q regs ddr sram host buf flash mram ring poison grp ch svy err mark hostMark half serr ksram kerr) :
    OkParts p q regs ddr sram host buf flash mram ring poison grp ch svy err mark (hostMark.filter f) half serr ksram kerr :=
  { h with hostMark := rising_filter _ _ h.hostMark }

@[simp] theorem okParts_hostMark_insert (k : Nat)
    (h : OkParts p q regs ddr sram host buf flash mram ring poison grp ch svy err mark hostMark half serr ksram kerr) :
    OkParts p q regs ddr sram host buf flash mram ring poison grp ch svy err mark (listInsert k hostMark) half serr ksram kerr :=
  { h with hostMark := rising_listInsert _ _ h.hostMark }

@[simp] theorem okParts_half (off v : Nat)
    (h : OkParts p q regs ddr sram host buf flash mram ring poison grp ch svy err mark hostMark half serr ksram kerr) :
    OkParts p q regs ddr sram host buf flash mram ring poison grp ch svy err mark hostMark (smSet halfNone half off v) serr ksram kerr :=
  { h with half := smWf_smSet _ _ _ _ h.half }

@[simp] theorem okParts_half_erase (off : Nat)
    (h : OkParts p q regs ddr sram host buf flash mram ring poison grp ch svy err mark hostMark half serr ksram kerr) :
    OkParts p q regs ddr sram host buf flash mram ring poison grp ch svy err mark hostMark (smErase half off) serr ksram kerr :=
  { h with half := smWfFrom_smErase _ _ none off h.half }

@[simp] theorem okParts_serr (k v : Nat)
    (h : OkParts p q regs ddr sram host buf flash mram ring poison grp ch svy err mark hostMark half serr ksram kerr) :
    OkParts p q regs ddr sram host buf flash mram ring poison grp ch svy err mark hostMark half (smSet (fun _ => 0) serr k v) ksram kerr :=
  { h with serr := smWf_smSet _ _ _ _ h.serr }

@[simp] theorem okParts_serr_filter (f : Nat × Nat → Bool)
    (h : OkParts p q regs ddr sram host buf flash mram ring poison grp ch svy err mark hostMark half serr ksram kerr) :
    OkParts p q regs ddr sram host buf flash mram ring poison grp ch svy err mark hostMark half (serr.filter f) ksram kerr :=
  { h with serr := smWf_filter _ _ _ h.serr }

@[simp] theorem okParts_serr_nil 
    (h : OkParts p q regs ddr sram host buf flash mram ring poison grp ch svy err mark hostMark half serr ksram kerr) :
    OkParts p q regs ddr sram host buf flash mram ring poison grp ch svy err mark hostMark half [] ksram kerr :=
  { h with serr := rfl }

@[simp] theorem okParts_ksram (a : Nat) (bs : List Byte)
    (h : OkParts p q regs ddr sram host buf flash mram ring poison grp ch svy err mark hostMark half serr ksram kerr) :
    OkParts p q regs ddr sram host buf flash mram ring poison grp ch svy err mark hostMark half serr (memWrite ksram a bs) kerr :=
  { h with ksram := wf_memWrite _ _ _ h.ksram }

@[simp] theorem okParts_kerr (k v : Nat)
    (h : OkParts p q regs ddr sram host buf flash mram ring poison grp ch svy err mark hostMark half serr ksram kerr) :
    OkParts p q regs ddr sram host buf flash mram ring poison grp ch svy err mark hostMark half serr ksram (smSet (fun _ => 0) kerr k v) :=
  { h with kerr := smWf_smSet _ _ _ _ h.kerr }

/-- Soundness passes through a choice. -/
@[simp] theorem ok_ite (c : Prop) [Decidable c] (a b : State) (ha : Ok p a) (hb : Ok p b) : Ok p (if c then a else b) := by
  split
  · exact ha
  · exact hb

@[simp] theorem okOut_ite (c : Prop) [Decidable c] (a b : Host.Outcome State Fault Refusal) (ha : OkOut p a)
    (hb : OkOut p b) : OkOut p (if c then a else b) := by
  split
  · exact ha
  · exact hb

@[simp] theorem ok_ite_fst {β : Type} (c : Prop) [Decidable c] (a b : State × β) (ha : Ok p a.1) (hb : Ok p b.1) :
    Ok p (if c then a else b).1 := by
  split
  · exact ha
  · exact hb

@[simp] theorem ok_ite_snd {β : Type} (c : Prop) [Decidable c] (a b : β × State) (ha : Ok p a.2) (hb : Ok p b.2) :
    Ok p (if c then a else b).2 := by
  split
  · exact ha
  · exact hb

@[simp] theorem okOut_done (h : Ok p s) : OkOut p (done s) := ⟨s, rfl, h⟩

/-- Soundness passes through a walk over a list. -/
@[simp] theorem ok_foldl {α : Type} (f : State → α → State) (l : List α) (hf : ∀ t x, Ok p t → Ok p (f t x))
    (h : Ok p s) : Ok p (l.foldl f s) := by
  induction l generalizing s with
  | nil => exact h
  | cons a l ih => exact ih (hf s a h)

@[simp] theorem ok_whenD (c : Bool) (f : State → State) (hf : ∀ t, Ok p t → Ok p (f t)) (h : Ok p s) :
    Ok p (s.whenD c f) := by
  unfold State.whenD
  split
  · exact hf s h
  · exact h

end Sys2Proof.Machine
end

