-- ==== Sys2Proof/Laws/SoundShared.lean ====
section
/-! SUPPORT. Soundness is kept by the shared operations, the register accesses, the units' memory requests, the Accession Log and the axes: one lemma for each operation and each meaning. -/
namespace Sys2Proof.Machine

/-! ### Machine/Ops.lean -/

theorem setReg_ok (q : List Instr) (s : State) (off : Nat) (v : Word) (h : Ok q s) :
    Ok q (State.setReg s off v) := by
  unfold State.setReg
  simp (contextual := true) (maxDischargeDepth := 99) only [*, ok_mk, okParts_of, okParts_setReg]

theorem wr_ok (q : List Instr) (s : State) (f : Field) (v : Nat) (h : Ok q s) :
    Ok q (State.wr s f v) := by
  unfold State.wr
  simp (contextual := true) (maxDischargeDepth := 99) only [*, setReg_ok]

theorem set1_ok (q : List Instr) (s : State) (f : Field) (h : Ok q s) :
    Ok q (State.set1 s f) := by
  unfold State.set1
  simp (contextual := true) (maxDischargeDepth := 99) only [*, wr_ok]

theorem clr_ok (q : List Instr) (s : State) (f : Field) (h : Ok q s) :
    Ok q (State.clr s f) := by
  unfold State.clr
  simp (contextual := true) (maxDischargeDepth := 99) only [*, wr_ok]

theorem wrBit_ok (q : List Instr) (s : State) (f : Field) (b : Bool) (h : Ok q s) :
    Ok q (State.wrBit s f b) := by
  unfold State.wrBit
  simp (contextual := true) (maxDischargeDepth := 99) only [*, wr_ok, ok_ite]

theorem addSat_ok (q : List Instr) (s : State) (f : Field) (n : Nat) (h : Ok q s) :
    Ok q (State.addSat s f n) := by
  unfold State.addSat
  simp (contextual := true) (maxDischargeDepth := 99) only [*, wr_ok]

theorem incSat_ok (q : List Instr) (s : State) (f : Field) (h : Ok q s) :
    Ok q (State.incSat s f) := by
  unfold State.incSat
  simp (contextual := true) (maxDischargeDepth := 99) only [*, addSat_ok]

theorem incWrap_ok (q : List Instr) (s : State) (f : Field) (h : Ok q s) :
    Ok q (State.incWrap s f) := by
  unfold State.incWrap
  simp (contextual := true) (maxDischargeDepth := 99) only [*, wr_ok]

theorem wrInt_ok (q : List Instr) (s : State) (f : Field) (v : Int) (h : Ok q s) :
    Ok q (State.wrInt s f v) := by
  unfold State.wrInt
  simp (contextual := true) (maxDischargeDepth := 99) only [*, wr_ok]

theorem takeFree_ok (q : List Instr) (s : State) (h : Ok q s) :
    Ok q (State.takeFree s).2 := by
  unfold State.takeFree
  simp (contextual := true) (maxDischargeDepth := 99) only [*, ok_mk, okParts_of]

theorem errClear_ok (q : List Instr) (s : State) (b : Nat) (h : Ok q s) :
    Ok q (State.errClear s b) := by
  unfold State.errClear
  simp (contextual := true) (maxDischargeDepth := 99) only [*, ok_mk, okParts_of, okParts_err_erase, okParts_half_erase]

theorem burstFresh_ok (q : List Instr) (s : State) (b : Nat) (h : Ok q s) :
    Ok q (State.burstFresh s b) := by
  unfold State.burstFresh
  have h1 := errClear_ok q s b h
  exact (ok_mk ..).2 { h1 with ddr := wf_memWrite _ _ _ h.ddr }

theorem burstPoison_ok (q : List Instr) (s : State) (b : Nat) (h : Ok q s) :
    Ok q (State.burstPoison s b) := by
  unfold State.burstPoison
  have h1 := burstFresh_ok q s b h
  exact (ok_mk ..).2 { h1 with poison := rising_listInsert _ _ h.poison }

theorem burstRewrite_ok (q : List Instr) (s : State) (b : Nat) (h : Ok q s) :
    Ok q (State.burstRewrite s b) := by
  unfold State.burstRewrite
  simp (contextual := true) (maxDischargeDepth := 99) only [*, burstPoison_ok, burstFresh_ok, ok_ite]

theorem ddrUpset_ok (q : List Instr) (s : State) (flips : List (Nat × Nat)) (h : Ok q s) :
    Ok q (State.ddrUpset s flips) := by
  unfold State.ddrUpset
  refine (ok_mk ..).2 { h with err := ?_ }
  have h1 := h.err
  generalize s.ddrErr = m at h1 ⊢
  induction flips generalizing m with
  | nil => exact h1
  | cons f fs ih => exact ih _ (smWf_smSet _ _ _ _ h1)

theorem ddrWrite_ok (q : List Instr) (s : State) (a : Nat) (bs : List Byte) (mark : Bool) (h : Ok q s) :
    Ok q (State.ddrWrite s a bs mark) := by
  unfold State.ddrWrite
  extract_lets n touched t bad kept
  have h1 : Ok q t := by
    refine ok_ite _ _ _ h (ok_foldl _ _ (fun u x hu => ?_) h)
    exact ok_ite _ _ _ (errClear_ok _ _ _ hu) (burstRewrite_ok _ _ _ hu)
  have h2 : rising kept = true := rising_filter _ _ h1.poison
  refine (ok_mk ..).2 { h1 with ddr := wf_memWriteIf _ _ _ _ _ h1.ddr, poison := ?_ }
  split
  · exact rising_insertAll _ _ _ h2
  · exact h2

theorem freeBytes_ok (q : List Instr) (s : State) (n : Nat) (h : Ok q s) :
    Ok q (State.freeBytes s n).2 := by
  unfold State.freeBytes
  simp (contextual := true) (maxDischargeDepth := 99) only [*, ok_mk, okParts_of]

theorem ddrFree_ok (q : List Instr) (s : State) (a : Nat) (n : Nat) (h : Ok q s) :
    Ok q (State.ddrFree s a n) := by
  unfold State.ddrFree
  simp (contextual := true) (maxDischargeDepth := 99) only [*, ddrWrite_ok, freeBytes_ok]

theorem hostWrite_ok (q : List Instr) (s : State) (a : Nat) (bs : List Byte) (mark : Bool) (h : Ok q s) :
    Ok q (State.hostWrite s a bs mark) := by
  unfold State.hostWrite
  split <;> simp (contextual := true) (maxDischargeDepth := 99) only [*, ok_mk, okParts_of, ok_ite, okParts_sram, okParts_host, okParts_buf, okParts_mram, okParts_ring, okParts_ddr_all, okParts_mark, okParts_hostMark_insert, okParts_hostMark_filter, okParts_poison_insert]

theorem sramWrite_ok (q : List Instr) (s : State) (a : Nat) (bs : List Byte) (mark : Bool) (h : Ok q s) :
    Ok q (State.sramWrite s a bs mark) := by
  unfold State.sramWrite
  simp (contextual := true) (maxDischargeDepth := 99) only [*, ok_mk, okParts_of, ok_ite, okParts_sram, okParts_host, okParts_buf, okParts_mram, okParts_ring, okParts_ddr_all, okParts_mark, okParts_serr, okParts_serr_filter, okParts_kerr, okParts_ksram]

theorem spaceWrite_ok (q : List Instr) (s : State) (space : Nat) (a : Nat) (bs : List Byte) (mark : Bool) (h : Ok q s) :
    Ok q (State.spaceWrite s space a bs mark) := by
  unfold State.spaceWrite
  split <;> simp (contextual := true) (maxDischargeDepth := 99) only [*, ddrWrite_ok, hostWrite_ok, sramWrite_ok]

theorem aerReport_ok (q : List Instr) (s : State) (row : Nat) (h : Ok q s) :
    Ok q (State.aerReport s row) := by
  unfold State.aerReport
  simp (contextual := true) (maxDischargeDepth := 99) only [*, ok_mk, okParts_of]

/-! ### Machine/Flags.lean -/

theorem vector_ok (q : List Instr) (s : State) (v : Nat) (h : Ok q s) :
    Ok q (State.vector s v) := by
  unfold State.vector
  simp (contextual := true) (maxDischargeDepth := 99) only [*, ok_mk, okParts_of, ok_ite]

theorem source_ok (q : List Instr) (s : State) (i : Nat) (h : Ok q s) :
    Ok q (State.source s i) := by
  unfold State.source
  simp (contextual := true) (maxDischargeDepth := 99) only [*, set1_ok, ok_ite]

theorem announce_ok (q : List Instr) (s : State) (v : Nat) (i : Nat) (h : Ok q s) :
    Ok q (State.announce s v i) := by
  unfold State.announce
  simp (contextual := true) (maxDischargeDepth := 99) only [*, source_ok, vector_ok]

theorem intake_ok (q : List Instr) (s : State) (f : Field) (h : Ok q s) :
    Ok q (State.intake s f) := by
  unfold State.intake
  simp (contextual := true) (maxDischargeDepth := 99) only [*, announce_ok, set1_ok]

theorem iklSend_ok (q : List Instr) (s : State) (lane : Nat) (mtype : Nat) (content : List Byte) (body : List Byte) (h : Ok q s) :
    Ok q (State.iklSend s lane mtype content body) := by
  unfold State.iklSend
  simp (contextual := true) (maxDischargeDepth := 99) only [*, ok_mk, okParts_of, okParts_ch]

theorem aclPut_ok (q : List Instr) (s : State) (r : AclRec) (h : Ok q s) :
    Ok q (State.aclPut s r) := by
  unfold State.aclPut
  simp (contextual := true) (maxDischargeDepth := 99) [*, set1_ok, incSat_ok, wr_ok, iklSend_ok, announce_ok, ok_mk, okParts_of, ok_ite, ok_whenD]

theorem aclEnter_ok (q : List Instr) (s : State) (r : AclRec) (h : Ok q s) :
    Ok q (State.aclEnter s r) := by
  unfold State.aclEnter
  split <;> simp (contextual := true) (maxDischargeDepth := 99) only [*, wr_ok, vector_ok, set1_ok, incSat_ok, aclPut_ok, ok_mk, okParts_of, ok_ite]

theorem aclLog_ok (q : List Instr) (s : State) (event : Nat) (data : List Byte) (h : Ok q s) :
    Ok q (State.aclLog s event data) := by
  unfold State.aclLog
  simp (contextual := true) (maxDischargeDepth := 99) only [*, aclEnter_ok, incSat_ok, ok_mk, okParts_of, ok_ite]

theorem aclDrain_ok (q : List Instr) (s : State) (h : Ok q s) :
    Ok q (State.aclDrain s) := by
  unfold State.aclDrain
  simp (contextual := true) (maxDischargeDepth := 99) [*, wr_ok, aclPut_ok, ok_mk, okParts_of, ok_foldl, ok_whenD]

theorem aclThaw_ok (q : List Instr) (s : State) (h : Ok q s) :
    Ok q (State.aclThaw s) := by
  unfold State.aclThaw
  simp (contextual := true) (maxDischargeDepth := 99) only [*, clr_ok, aclDrain_ok, ok_ite]

theorem aclGuard_ok (q : List Instr) (s : State) (data : List Byte) (h : Ok q s) :
    Ok q (State.aclGuard s data) := by
  unfold State.aclGuard
  split <;> simp (contextual := true) (maxDischargeDepth := 99) only [*, aclThaw_ok, aclDrain_ok, wr_ok, aclPut_ok, ok_mk, okParts_of, ok_ite]

theorem fwRefuse_ok (q : List Instr) (s : State) (m : Master) (addr : Nat) (kind : Nat) (h : Ok q s) :
    Ok q (State.fwRefuse s m addr kind) := by
  unfold State.fwRefuse
  simp (contextual := true) (maxDischargeDepth := 99) only [*, wr_ok, incSat_ok, set1_ok, aclLog_ok, ok_mk, okParts_of, ok_ite]

theorem notice_ok (q : List Instr) (s : State) (kind : Nat) (code : Nat) (tag : Nat) (h : Ok q s) :
    Ok q (State.notice s kind code tag) := by
  unfold State.notice
  simp (contextual := true) (maxDischargeDepth := 99) only [*, sramWrite_ok, source_ok, wr_ok]

theorem faultEvent_ok (q : List Instr) (s : State) (h : Ok q s) :
    Ok q (State.faultEvent s) := by
  unfold State.faultEvent
  simp (contextual := true) (maxDischargeDepth := 99) only [*, announce_ok]

theorem lasting_ok (q : List Instr) (s : State) (k : Nat) (inst : Nat) (h : Ok q s) :
    Ok q (State.lasting s k inst) := by
  unfold State.lasting
  simp (contextual := true) (maxDischargeDepth := 99) only [*, wr_ok, set1_ok, incSat_ok, faultEvent_ok, aclLog_ok]

theorem bucket_ok (q : List Instr) (s : State) (k : Nat) (inst : Nat) (h : Ok q s) :
    Ok q (State.bucket s k inst).1 := by
  unfold State.bucket
  simp (contextual := true) (maxDischargeDepth := 99) only [*, lasting_ok, ok_mk, okParts_of, ok_ite, ok_ite_fst]

theorem bucketReport_ok (q : List Instr) (s : State) (k : Nat) (inst : Nat) (h : Ok q s) :
    Ok q (State.bucketReport s k inst) := by
  unfold State.bucketReport
  simp (contextual := true) (maxDischargeDepth := 99) only [*, bucket_ok]

theorem bucketDrop_ok (q : List Instr) (s : State) (k : Nat) (inst : Nat) (h : Ok q s) :
    Ok q (State.bucketDrop s k inst) := by
  unfold State.bucketDrop
  simp (contextual := true) (maxDischargeDepth := 99) only [*, ok_mk, okParts_of]

/-! ### Machine/LeafView.lean -/

theorem setPlace_ok (q : List Instr) (s : State) (p1 : Nat) (l : Option Leaf) (h : Ok q s) :
    Ok q (State.setPlace s p1 l) := by
  unfold State.setPlace
  simp (contextual := true) (maxDischargeDepth := 99) only [*, ok_mk, okParts_of, ok_ite]

theorem setLeaf_ok (q : List Instr) (s : State) (p1 : Nat) (l : Leaf) (h : Ok q s) :
    Ok q (State.setLeaf s p1 l) := by
  unfold State.setLeaf
  simp (contextual := true) (maxDischargeDepth := 99) only [*, setPlace_ok]

theorem leadShow_ok (q : List Instr) (s : State) (h : Ok q s) :
    Ok q (State.leadShow s) := by
  unfold State.leadShow
  simp (contextual := true) (maxDischargeDepth := 99) only [*, wr_ok]

/-! ### Machine/Operands.lean -/

theorem trap_ok (q : List Instr) (s : State) (m : Master) (kind : Nat) (h : Ok q s) :
    Ok q (State.trap s m kind) := by
  unfold State.trap
  split <;> simp (contextual := true) (maxDischargeDepth := 99) only [*, ok_mk, okParts_of]

theorem refuseWrite_ok (q : List Instr) (s : State) (m : Master) (off : Nat) (h : Ok q s) :
    Ok q (State.refuseWrite s m off) := by
  unfold State.refuseWrite
  simp (contextual := true) (maxDischargeDepth := 99) only [*, trap_ok, fwRefuse_ok]

theorem refuseRead_ok (q : List Instr) (s : State) (m : Master) (off : Nat) (h : Ok q s) :
    Ok q (State.refuseRead s m off) := by
  unfold State.refuseRead
  split <;> simp (contextual := true) (maxDischargeDepth := 99) only [*, trap_ok, fwRefuse_ok, ok_mk, okParts_of]

theorem gated_ok (q : List Instr) (s : State) (m : Master) (off : Nat) (f : State → State) (h : Ok q s) (hf : ∀ t, Ok q t → Ok q (f t)) :
    Ok q (State.gated s m off f) := by
  unfold State.gated
  simp (contextual := true) (maxDischargeDepth := 99) only [*, refuseWrite_ok, ok_ite]

theorem halfWrite_ok (q : List Instr) (s : State) (off : Nat) (h0 : HalfWrite) (act : Word → State → State) (h : Ok q s)
    (hact : ∀ v t, Ok q t → Ok q (act v t)) :
    Ok q (State.halfWrite s off h0 act) := by
  unfold State.halfWrite
  extract_lets w
  refine ok_ite _ _ _ (hact _ _ ?_) ?_
  · exact (ok_mk ..).2 (okParts_half_erase _ h)
  · exact (ok_mk ..).2 (okParts_half _ _ h)

theorem settleSources_ok (q : List Instr) (s : State) (off : Nat) (h : Ok q s) :
    Ok q (State.settleSources s off) := by
  unfold State.settleSources
  repeat' (first | (simp (contextual := true) (maxDischargeDepth := 99) only [*, clr_ok, ok_ite, ok_foldl]; done) | split | (refine ok_foldl _ _ (fun t x ht => ?_) ?_) | dsimp only)

theorem writeOne_ok (q : List Instr) (s : State) (m : Master) (off : Nat) (cover : Nat) (v : Word) (h : Ok q s) :
    Ok q (State.writeOne s m off cover v) := by
  unfold State.writeOne
  split <;> simp (contextual := true) (maxDischargeDepth := 99) only [*, refuseWrite_ok, set1_ok, settleSources_ok, setReg_ok, ok_mk, okParts_of, ok_ite]

theorem writeWindow_ok (q : List Instr) (s : State) (m : Master) (off : Nat) (n : Nat) (v : Word) (h : Ok q s) :
    Ok q (State.writeWindow s m off n v) := by
  unfold State.writeWindow
  simp (contextual := true) (maxDischargeDepth := 99) only [*, refuseWrite_ok, ok_mk, okParts_of, ok_ite, okParts_sram, okParts_host, okParts_buf, okParts_mram, okParts_ring, okParts_ddr_all, okParts_mark]

theorem busWrite_ok (q : List Instr) (s : State) (m : Master) (off : Nat) (w : BusWidth) (v : Word) (h : Ok q s) :
    Ok q (State.busWrite s m off w v) := by
  unfold State.busWrite
  repeat' (first | (simp (contextual := true) (maxDischargeDepth := 99) only [*, refuseWrite_ok, writeOne_ok, writeWindow_ok, ok_ite]; done) | split | dsimp only)

theorem w1cOne_ok (q : List Instr) (s : State) (m : Master) (off : Nat) (cover : Nat) (v : Word) (events : Word) (h : Ok q s) :
    Ok q (State.w1cOne s m off cover v events) := by
  unfold State.w1cOne
  split <;> simp (contextual := true) (maxDischargeDepth := 99) only [*, refuseWrite_ok, setReg_ok, wr_ok, settleSources_ok, ok_ite]

theorem busClear_ok (q : List Instr) (s : State) (m : Master) (off : Nat) (w : BusWidth) (v : Word) (events : Word) (h : Ok q s) :
    Ok q (State.busClear s m off w v events) := by
  unfold State.busClear
  repeat' (first | (simp (contextual := true) (maxDischargeDepth := 99) only [*, refuseWrite_ok, w1cOne_ok, ok_ite]; done) | split | dsimp only)

theorem timLatch_ok (q : List Instr) (s : State) (m : Master) (off : Nat) (h : Ok q s) :
    Ok q (State.timLatch s m off) := by
  unfold State.timLatch
  simp (contextual := true) (maxDischargeDepth := 99) only [*, ok_mk, okParts_of, ok_ite]

theorem pmcLatch_ok (q : List Instr) (s : State) (m : Master) (off : Nat) (cover : Nat) (h : Ok q s) :
    Ok q (State.pmcLatch s m off cover) := by
  unfold State.pmcLatch
  simp (contextual := true) (maxDischargeDepth := 99) only [*, ok_mk, okParts_of, ok_ite, okParts_err_erase, okParts_half_erase]

theorem stampShow_ok (q : List Instr) (s : State) (h : Ok q s) :
    Ok q (State.stampShow s) := by
  unfold State.stampShow
  repeat' (first | (simp (contextual := true) (maxDischargeDepth := 99) only [*, wr_ok, setReg_ok, set1_ok]; done) | split | dsimp only)

theorem stampPop_ok (q : List Instr) (s : State) (off : Nat) (cover : Nat) (h : Ok q s) :
    Ok q (State.stampPop s off cover) := by
  unfold State.stampPop
  simp (contextual := true) (maxDischargeDepth := 99) only [*, settleSources_ok, stampShow_ok, ok_mk, okParts_of, ok_ite]

theorem crcClaim_ok (q : List Instr) (s : State) (m : Master) (n : Nat) (h : Ok q s) :
    Ok q (State.crcClaim s m n) := by
  unfold State.crcClaim
  split <;> simp (contextual := true) (maxDischargeDepth := 99) only [*, wr_ok, refuseRead_ok, ok_mk, okParts_of, ok_ite]

theorem readOne_ok (q : List Instr) (s : State) (m : Master) (off : Nat) (cover : Nat) (events : Word) (h : Ok q s) :
    Ok q (State.readOne s m off cover events) := by
  unfold State.readOne
  repeat' (first | (simp (contextual := true) (maxDischargeDepth := 99) only [*, refuseRead_ok, crcClaim_ok, set1_ok, pmcLatch_ok, stampPop_ok, timLatch_ok, setReg_ok, ok_mk, okParts_of, ok_ite]; done) | split | dsimp only)

theorem aclTouch_ok (q : List Instr) (s : State) (o : Nat) (h : Ok q s) :
    Ok q (State.aclTouch s o) := by
  unfold State.aclTouch
  simp (contextual := true) (maxDischargeDepth := 99) only [*, set1_ok, ok_ite]

theorem readWindow_ok (q : List Instr) (s : State) (m : Master) (off : Nat) (n : Nat) (h : Ok q s) :
    Ok q (State.readWindow s m off n) := by
  unfold State.readWindow
  simp (contextual := true) (maxDischargeDepth := 99) only [*, refuseRead_ok, aclTouch_ok, ok_mk, okParts_of, ok_ite]

theorem readBar2_ok (q : List Instr) (s : State) (m : Master) (off : Nat) (n : Nat) (h : Ok q s) :
    Ok q (State.readBar2 s m off n) := by
  unfold State.readBar2
  simp (contextual := true) (maxDischargeDepth := 99) only [*, aclTouch_ok, ok_mk, okParts_of, ok_ite]

theorem busRead_ok (q : List Instr) (s : State) (m : Master) (off : Nat) (w : BusWidth) (events : Word) (h : Ok q s) :
    Ok q (State.busRead s m off w events) := by
  unfold State.busRead
  repeat' (first | (simp (contextual := true) (maxDischargeDepth := 99) only [*, refuseRead_ok, readOne_ok, readWindow_ok, readBar2_ok, ok_mk, okParts_of, ok_ite]; done) | split | dsimp only)

/-! ### Machine/AccessionLog.lean -/

theorem execAclRecordEnter_ok (q : List Instr) (event : Nat) (data : List Byte) (s : State) (h : Ok q s) :
    OkOut q (execAclRecordEnter event data s) := by
  unfold execAclRecordEnter
  simp (contextual := true) (maxDischargeDepth := 99) only [*, aclLog_ok, okOut_done]

theorem execAclFreeze_ok (q : List Instr) (m : Master) (s : State) (h : Ok q s) :
    OkOut q (execAclFreeze m s) := by
  unfold execAclFreeze
  refine okOut_done (gated_ok _ _ _ _ _ h (fun t ht => ok_ite _ _ _ ht ?_))
  exact (ok_mk ..).2 (set1_ok q _ _ (set1_ok q t _ ht))

theorem execAclUnfreeze_ok (q : List Instr) (m : Master) (s : State) (h : Ok q s) :
    OkOut q (execAclUnfreeze m s) := by
  unfold execAclUnfreeze
  repeat' (first | (simp (contextual := true) (maxDischargeDepth := 99) only [*, gated_ok, aclThaw_ok, ok_ite, okOut_ite, okOut_done]; done) | split | (refine gated_ok _ _ _ _ _ (by assumption) (fun t ht => ?_)) | (refine okOut_done ?_) | dsimp only)

theorem execFreezeExpired_ok (q : List Instr) (s : State) (h : Ok q s) :
    OkOut q (execFreezeExpired s) := by
  unfold execFreezeExpired
  simp (contextual := true) (maxDischargeDepth := 99) only [*, aclThaw_ok, set1_ok, ok_ite, okOut_ite, okOut_done]

theorem mramPut_ok (q : List Instr) (s : State) (pos : Nat) (x2 : List AclRec) (h : Ok q s) :
    Ok q (State.mramPut s pos x2) := by
  induction x2 generalizing s pos with
  | nil => exact h
  | cons r rs ih =>
    unfold State.mramPut
    exact ih _ _ (by simp (contextual := true) (maxDischargeDepth := 99) only [*, ok_mk, okParts_of, okParts_mram])

theorem mramWrite_ok (q : List Instr) (s : State) (a : Nat) (bs : List Byte) (h : Ok q s) :
    Ok q (State.mramWrite s a bs) := by
  unfold State.mramWrite
  simp (contextual := true) (maxDischargeDepth := 99) only [*, ok_mk, okParts_of, okParts_sram, okParts_host, okParts_buf, okParts_mram, okParts_ring, okParts_ddr_all, okParts_mark]

theorem copyAll_ok (q : List Instr) (s : State) (x1 : Nat) (x2 : Nat) (x3 : List AclRec) (h : Ok q s) :
    Ok q (State.copyAll s x1 x2 x3) := by
  induction x1 generalizing s x2 x3 with
  | zero => exact h
  | succ n ih =>
    unfold State.copyAll
    refine ok_ite _ _ _ h (ih _ _ _ (mramPut_ok _ _ _ _ ?_))
    exact (ok_mk ..).2 h

theorem execAclCopyStart_ok (q : List Instr) (s : State) (h : Ok q s) :
    OkOut q (execAclCopyStart s) := by
  unfold execAclCopyStart
  simp (contextual := true) (maxDischargeDepth := 99) only [*, ok_mk, okParts_of, ok_ite, okOut_ite, okOut_done]

theorem execAclCopyDone_ok (q : List Instr) (s : State) (h : Ok q s) :
    OkOut q (execAclCopyDone s) := by
  unfold execAclCopyDone
  repeat' (first | (simp (contextual := true) (maxDischargeDepth := 99) only [*, wr_ok, mramPut_ok, aclLog_ok, ok_mk, okParts_of, okOut_done]; done) | split | (refine okOut_done ?_) | dsimp only)

theorem execAclWindowSelect_ok (q : List Instr) (m : Master) (cursor : Bool) (v : BitVec 32) (s : State) (h : Ok q s) :
    OkOut q (execAclWindowSelect m cursor v s) := by
  unfold execAclWindowSelect
  repeat' (first | (simp (contextual := true) (maxDischargeDepth := 99) only [*, gated_ok, wr_ok, clr_ok, set1_ok, ok_ite, okOut_ite, okOut_done]; done) | split | (refine gated_ok _ _ _ _ _ (by assumption) (fun t ht => ?_)) | (refine okOut_done ?_) | dsimp only)

theorem execAclWindowFilled_ok (q : List Instr) (s : State) (h : Ok q s) :
    OkOut q (execAclWindowFilled s) := by
  unfold execAclWindowFilled
  refine okOut_done (ok_ite _ _ _ ?_ h)
  exact (ok_mk ..).2 (set1_ok q s _ h)

theorem execNewChallenge_ok (q : List Instr) (m : Master) (s : State) (h : Ok q s) :
    OkOut q (execNewChallenge m s) := by
  unfold execNewChallenge
  repeat' (first | (simp (contextual := true) (maxDischargeDepth := 99) only [*, gated_ok, takeFree_ok, wr_ok, ok_mk, okParts_of, ok_ite, okOut_ite, okOut_done]; done) | split | (refine gated_ok _ _ _ _ _ (by assumption) (fun t ht => ?_)) | (refine okOut_done ?_) | dsimp only)

theorem voidChallenge_ok (q : List Instr) (s : State) (h : Ok q s) :
    Ok q (State.voidChallenge s) := by
  unfold State.voidChallenge
  exact (ok_mk ..).2 (wr_ok q _ _ _ (wr_ok q s _ _ h))

theorem clearRefused_ok (q : List Instr) (s : State) (result : Nat) (h : Ok q s) :
    Ok q (State.clearRefused s result) := by
  unfold State.clearRefused
  simp (contextual := true) (maxDischargeDepth := 99) only [*, wr_ok, set1_ok, ok_ite]

theorem execClear_ok (q : List Instr) (m : Master) (s : State) (h : Ok q s) :
    OkOut q (execClear m s) := by
  unfold execClear
  refine okOut_done (gated_ok _ _ _ _ _ h (fun t ht => ?_))
  have h1 := voidChallenge_ok q t ht
  extract_lets chal has u
  refine ok_ite _ _ _ (clearRefused_ok _ _ _ h1) (ok_ite _ _ _ (clearRefused_ok _ _ _ h1)
    (ok_ite _ _ _ (clearRefused_ok _ _ _ h1) ?_))
  exact (ok_mk ..).2 (wr_ok q _ F.ACL_CLEAR_STATUS.STATE 2 h1)

theorem clearAbandon_ok (q : List Instr) (s : State) (result : Nat) (h : Ok q s) :
    Ok q (State.clearAbandon s result) := by
  unfold State.clearAbandon
  simp (contextual := true) (maxDischargeDepth := 99) only [*, clearRefused_ok, aclDrain_ok, ok_mk, okParts_of, ok_ite]

theorem execSignatureVerified_ok (q : List Instr) (s : State) (h : Ok q s) :
    OkOut q (execSignatureVerified s) := by
  unfold execSignatureVerified
  split <;> simp (contextual := true) (maxDischargeDepth := 99) only [*, wr_ok, clearAbandon_ok, ok_mk, okParts_of, ok_ite, okOut_ite, okOut_done]

theorem execAclAuthWrite_ok (q : List Instr) (m : Master) (w : BusWidth) (v : Word) (s : State) (h : Ok q s) :
    OkOut q (execAclAuthWrite m w v s) := by
  unfold execAclAuthWrite
  repeat' (first | (simp (contextual := true) (maxDischargeDepth := 99) only [*, gated_ok, setReg_ok, clearRefused_ok, clearAbandon_ok, ok_mk, okParts_of, ok_ite, okOut_ite, okOut_done]; done) | split | (refine gated_ok _ _ _ _ _ (by assumption) (fun t ht => ?_)) | (refine okOut_done ?_) | dsimp only)

theorem execAclClearDone_ok (q : List Instr) (s : State) (h : Ok q s) :
    OkOut q (execAclClearDone s) := by
  unfold execAclClearDone
  split <;> simp (contextual := true) (maxDischargeDepth := 99) only [*, mramWrite_ok, wr_ok, aclPut_ok, incSat_ok, aclDrain_ok, ok_mk, okParts_of, ok_ite, okOut_ite, okOut_done]

/-! ### Machine/AxisOps.lean -/

theorem axDir_ok (q : List Instr) (s : State) (a : Nat) (up : Bool) (wait : Nat) (h : Ok q s) :
    Ok q (State.axDir s a up wait) := by
  unfold State.axDir
  simp (contextual := true) (maxDischargeDepth := 99) only [*, ok_mk, okParts_of, ok_ite, okParts_grp, okParts_svy]

theorem axEna_ok (q : List Instr) (s : State) (a : Nat) (high : Bool) (h : Ok q s) :
    Ok q (State.axEna s a high) := by
  unfold State.axEna
  simp (contextual := true) (maxDischargeDepth := 99) only [*, ok_mk, okParts_of, okParts_grp, okParts_svy]

theorem axFlush_ok (q : List Instr) (s : State) (h : Ok q s) :
    Ok q (State.axFlush s) := by
  unfold State.axFlush
  simp (contextual := true) (maxDischargeDepth := 99) only [*, wr_ok, ok_mk, okParts_of]

theorem axDrop_ok (q : List Instr) (s : State) (stopped : List Nat) (all : Bool) (h : Ok q s) :
    Ok q (State.axDrop s stopped all) := by
  unfold State.axDrop
  repeat' (first | (simp (contextual := true) (maxDischargeDepth := 99) only [*, axEna_ok, ok_ite, ok_foldl]; done) | split | (refine ok_foldl _ _ (fun t x ht => ?_) ?_) | dsimp only)

theorem axHalt_ok (q : List Instr) (s : State) (stopped : List Nat) (all : Bool) (h : Ok q s) :
    Ok q (State.axHalt s stopped all) := by
  unfold State.axHalt
  repeat' (first | (simp (contextual := true) (maxDischargeDepth := 99) [*, clr_ok, axDrop_ok, ok_mk, okParts_of, ok_foldl, ok_whenD]; done) | split | (refine ok_foldl _ _ (fun t x ht => ?_) ?_) | (refine ok_whenD _ _ (fun t ht => ?_) ?_) | dsimp only)

theorem axMark_ok (q : List Instr) (s : State) (stopped : List Nat) (cause : Nat) (axis : Nat) (h : Ok q s) :
    Ok q (State.axMark s stopped cause axis) := by
  unfold State.axMark
  repeat' (first | (simp (contextual := true) (maxDischargeDepth := 99) only [*, wr_ok, incSat_ok, source_ok, aclLog_ok, ok_whenD]; done) | split | (refine ok_whenD _ _ (fun t ht => ?_) ?_) | dsimp only)

theorem axHold_ok (q : List Instr) (s : State) (cause : Nat) (h : Ok q s) :
    Ok q (State.axHold s cause) := by
  unfold State.axHold
  simp (contextual := true) (maxDischargeDepth := 99) only [*, wr_ok, ok_mk, okParts_of]

theorem axStop_ok (q : List Instr) (s : State) (stopped : List Nat) (cause : Nat) (axis : Nat) (h : Ok q s) :
    Ok q (State.axStop s stopped cause axis) := by
  unfold State.axStop
  simp (contextual := true) (maxDischargeDepth := 99) only [*, axHalt_ok, axFlush_ok, axMark_ok, axHold_ok, ok_ite]

theorem axIdle_ok (q : List Instr) (s : State) (h : Ok q s) :
    Ok q (State.axIdle s) := by
  unfold State.axIdle
  simp (contextual := true) (maxDischargeDepth := 99) only [*, wr_ok, set1_ok, clr_ok, ok_ite]

theorem axGuard_ok (q : List Instr) (s : State) (h : Ok q s) :
    Ok q (State.axGuard s) := by
  unfold State.axGuard
  simp (contextual := true) (maxDischargeDepth := 99) only [*, axStop_ok]

theorem axDisable_ok (q : List Instr) (s : State) (h : Ok q s) :
    Ok q (State.axDisable s) := by
  unfold State.axDisable
  simp (contextual := true) (maxDischargeDepth := 99) only [*, axFlush_ok, wr_ok, clr_ok, axStop_ok, ok_ite]

/-! ### Machine/Axes.lean -/

theorem execAxmPush_ok (q : List Instr) (m : Master) (stop : Bool) (s : State) (h : Ok q s) :
    OkOut q (execAxmPush m stop s) := by
  unfold execAxmPush
  repeat' (first | (simp (contextual := true) (maxDischargeDepth := 99) only [*, gated_ok, incSat_ok, wr_ok, ok_mk, okParts_of, ok_ite, okOut_ite, okOut_done]; done) | split | (refine gated_ok _ _ _ _ _ (by assumption) (fun t ht => ?_)) | (refine okOut_done ?_) | dsimp only)

theorem axDone_ok (q : List Instr) (s : State) (h : Ok q s) :
    Ok q (State.axDone s) := by
  unfold State.axDone
  simp (contextual := true) (maxDischargeDepth := 99) [*, clr_ok, source_ok, incSat_ok, wr_ok, ok_mk, okParts_of, ok_foldl]

theorem axHomed_ok (q : List Instr) (s : State) (a : Nat) (pos : Int) (h : Ok q s) :
    Ok q (State.axHomed s a pos) := by
  unfold State.axHomed
  simp (contextual := true) (maxDischargeDepth := 99) only [*, axDone_ok, set1_ok, wrInt_ok]

theorem axBegin_ok (q : List Instr) (s : State) (r : AxRun) (h : Ok q s) :
    Ok q (State.axBegin s r) := by
  unfold State.axBegin
  simp (contextual := true) (maxDischargeDepth := 99) [*, axDir_ok, set1_ok, axEna_ok, wr_ok, ok_mk, okParts_of, ok_foldl]

theorem axTurn_ok (q : List Instr) (s : State) (r : AxRun) (phase : Nat) (up : Bool) (h : Ok q s) :
    Ok q (State.axTurn s r phase up) := by
  unfold State.axTurn
  simp (contextual := true) (maxDischargeDepth := 99) only [*, axStop_ok, set1_ok, axDir_ok, ok_mk, okParts_of, ok_ite, okParts_grp, okParts_svy]

theorem axMove_ok (q : List Instr) (s : State) (ws : List Word) (op : Nat) (mask : Nat) (h : Ok q s) :
    Ok q (State.axMove s ws op mask) := by
  unfold State.axMove
  simp (contextual := true) (maxDischargeDepth := 99) [*, set1_ok, axDone_ok, axBegin_ok, ok_ite, ok_foldl, ok_whenD]

theorem axHome_ok (q : List Instr) (s : State) (kind : Nat) (a : Nat) (h : Ok q s) :
    Ok q (State.axHome s kind a) := by
  unfold State.axHome
  simp (contextual := true) (maxDischargeDepth := 99) only [*, clr_ok, axHomed_ok, axBegin_ok, ok_ite]

theorem execAxisCommandStart_ok (q : List Instr) (s : State) (h : Ok q s) :
    OkOut q (execAxisCommandStart s) := by
  unfold execAxisCommandStart
  repeat' (first | (simp (contextual := true) (maxDischargeDepth := 99) only [*, wr_ok, axFlush_ok, set1_ok, source_ok, axHold_ok, axHome_ok, axBegin_ok, axMove_ok, ok_mk, okParts_of, ok_ite, okOut_ite, okOut_done]; done) | split | (refine okOut_done ?_) | dsimp only)

theorem axEmit_ok (q : List Instr) (s : State) (a : Nat) (up : Bool) (h : Ok q s) :
    Ok q (State.axEmit s a up) := by
  unfold State.axEmit
  simp (contextual := true) (maxDischargeDepth := 99) only [*, wrInt_ok, ok_mk, okParts_of, ok_ite, okParts_grp, okParts_svy]

theorem axStuck_ok (q : List Instr) (s : State) (l : List Nat) (h : Ok q s) :
    Ok q (State.axStuck s l) := by
  unfold State.axStuck
  simp (contextual := true) (maxDischargeDepth := 99) only [*, set1_ok, axStop_ok, ok_mk, okParts_of, ok_foldl, okParts_poison_insert]

theorem axHomeFail_ok (q : List Instr) (s : State) (f : Field) (stuck : List Nat) (h : Ok q s) :
    Ok q (State.axHomeFail s f stuck) := by
  unfold State.axHomeFail
  simp (contextual := true) (maxDischargeDepth := 99) only [*, set1_ok, axStuck_ok, source_ok, axHold_ok, axFlush_ok, axHalt_ok, ok_ite]

theorem axHomeStep_ok (q : List Instr) (s : State) (r : AxRun) (h : Ok q s) :
    Ok q (State.axHomeStep s r) := by
  unfold State.axHomeStep
  repeat' (first | (simp (contextual := true) (maxDischargeDepth := 99) only [*, axEmit_ok, axEna_ok, axStuck_ok, axHomeFail_ok, axTurn_ok, ok_mk, okParts_of, ok_ite]; done) | split | dsimp only)

theorem execAxisStep_ok (q : List Instr) (s : State) (h : Ok q s) :
    OkOut q (execAxisStep s) := by
  unfold execAxisStep
  split
  · exact okOut_done h
  · split
    · exact okOut_done h
    · split
      · exact okOut_done (axHomeStep_ok _ _ _ h)
      · extract_lets c1 c2 c3 c4 t1 r c6 t2 c5
        have h1 : Ok q t1 := ok_foldl _ _ (fun t x ht => axEmit_ok _ _ _ _ ht) h
        have h2 : Ok q t2 := (ok_mk ..).2 h1
        clear_value t2
        split
        · exact okOut_done (axStuck_ok _ _ _ h2)
        · split
          · exact okOut_done (axDone_ok _ _ h2)
          · exact okOut_done ((ok_mk ..).2 h2)

theorem execDwellExpiry_ok (q : List Instr) (s : State) (h : Ok q s) :
    OkOut q (execDwellExpiry s) := by
  unfold execDwellExpiry
  split <;> simp (contextual := true) (maxDischargeDepth := 99) only [*, axDone_ok, ok_ite, okOut_ite, okOut_done]

theorem execLimitActive_ok (q : List Instr) (a : Fin 6) (positive : Bool) (s : State) (h : Ok q s) :
    OkOut q (execLimitActive a positive s) := by
  unfold execLimitActive
  repeat' (first | (simp (contextual := true) (maxDischargeDepth := 99) only [*, incSat_ok, set1_ok, axStop_ok, axTurn_ok, axMark_ok, axDrop_ok, ok_mk, okParts_of, ok_ite, okOut_ite, okOut_done, okParts_poison_insert]; done) | split | (refine okOut_done ?_) | dsimp only)

theorem execLimitReleased_ok (q : List Instr) (a : Fin 6) (positive : Bool) (since : Nat) (s : State) (h : Ok q s) :
    OkOut q (execLimitReleased a positive since s) := by
  unfold execLimitReleased
  repeat' (first | (simp (contextual := true) (maxDischargeDepth := 99) only [*, clr_ok, axHomed_ok, ok_mk, okParts_of, ok_ite, okOut_ite, okOut_done, okParts_grp, okParts_svy]; done) | split | (refine okOut_done ?_) | dsimp only)

theorem execHomeInputChange_ok (q : List Instr) (a : Fin 6) (active : Bool) (s : State) (h : Ok q s) :
    OkOut q (execHomeInputChange a active s) := by
  unfold execHomeInputChange
  repeat' (first | (simp (contextual := true) (maxDischargeDepth := 99) only [*, wrBit_ok, axTurn_ok, axHomed_ok, ok_mk, okParts_of, ok_ite, okOut_ite, okOut_done]; done) | split | (refine okOut_done ?_) | dsimp only)

theorem execAxisStopActive_ok (q : List Instr) (s : State) (h : Ok q s) :
    OkOut q (execAxisStopActive s) := by
  unfold execAxisStopActive
  simp (contextual := true) (maxDischargeDepth := 99) only [*, incSat_ok, set1_ok, axStop_ok, ok_mk, okParts_of, ok_ite, okOut_ite, okOut_done]

theorem execAxisStopReleased_ok (q : List Instr) (s : State) (h : Ok q s) :
    OkOut q (execAxisStopReleased s) := by
  unfold execAxisStopReleased
  simp (contextual := true) (maxDischargeDepth := 99) only [*, ok_mk, okParts_of, okOut_done]

theorem execStepMismatch_ok (q : List Instr) (a : Fin 6) (s : State) (h : Ok q s) :
    OkOut q (execStepMismatch a s) := by
  unfold execStepMismatch
  simp (contextual := true) (maxDischargeDepth := 99) only [*, axStop_ok, set1_ok, okOut_done]

theorem execAxmEnable_ok (q : List Instr) (m : Master) (s : State) (h : Ok q s) :
    OkOut q (execAxmEnable m s) := by
  unfold execAxmEnable
  repeat' (first | (simp (contextual := true) (maxDischargeDepth := 99) only [*, gated_ok, set1_ok, ok_ite, okOut_ite, okOut_done]; done) | split | (refine gated_ok _ _ _ _ _ (by assumption) (fun t ht => ?_)) | (refine okOut_done ?_) | dsimp only)

theorem execAxmDisable_ok (q : List Instr) (m : Master) (s : State) (h : Ok q s) :
    OkOut q (execAxmDisable m s) := by
  unfold execAxmDisable
  repeat' (first | (simp (contextual := true) (maxDischargeDepth := 99) only [*, gated_ok, axDisable_ok, okOut_done]; done) | split | (refine gated_ok _ _ _ _ _ (by assumption) (fun t ht => ?_)) | (refine okOut_done ?_) | dsimp only)

theorem execAxmDrainComplete_ok (q : List Instr) (s : State) (h : Ok q s) :
    OkOut q (execAxmDrainComplete s) := by
  unfold execAxmDrainComplete
  simp (contextual := true) (maxDischargeDepth := 99) only [*, wr_ok, axIdle_ok, ok_ite, okOut_ite, okOut_done]

theorem execAxmClear_ok (q : List Instr) (m : Master) (s : State) (h : Ok q s) :
    OkOut q (execAxmClear m s) := by
  unfold execAxmClear
  repeat' (first | (simp (contextual := true) (maxDischargeDepth := 99) only [*, gated_ok, set1_ok, axIdle_ok, ok_mk, okParts_of, ok_ite, okOut_ite, okOut_done]; done) | split | (refine gated_ok _ _ _ _ _ (by assumption) (fun t ht => ?_)) | (refine okOut_done ?_) | dsimp only)

/-! ### Machine/LeafOps.lean -/

theorem folShow_ok (q : List Instr) (s : State) (h : Ok q s) :
    Ok q (State.folShow s) := by
  unfold State.folShow
  repeat' (first | (simp (contextual := true) (maxDischargeDepth := 99) only [*, wr_ok, wrInt_ok]; done) | split | dsimp only)

theorem complete_ok (q : List Instr) (s : State) (c : Completion) (h : Ok q s) :
    Ok q (State.complete s c) := by
  unfold State.complete
  simp (contextual := true) (maxDischargeDepth := 99) only [*, ok_mk, okParts_of, ok_ite]

theorem completeEntry_ok (q : List Instr) (s : State) (ring : Nat) (tag : Nat) (leaf : Nat) (seq : Nat) (status : Nat) (h : Ok q s) :
    Ok q (State.completeEntry s ring tag leaf seq status) := by
  unfold State.completeEntry
  simp (contextual := true) (maxDischargeDepth := 99) only [*, complete_ok]

theorem retire_ok (q : List Instr) (s : State) (p1 : Nat) (h : Ok q s) :
    Ok q (State.retire s p1) := by
  unfold State.retire
  split <;> simp (contextual := true) (maxDischargeDepth := 99) only [*, setLeaf_ok, complete_ok, ok_ite]

theorem retireDue_ok (q : List Instr) (s : State) (p1 : Nat) (h : Ok q s) :
    Ok q (State.retireDue s p1) := by
  unfold State.retireDue
  split <;> simp (contextual := true) (maxDischargeDepth := 99) only [*, retire_ok, ok_ite]

theorem linkRuns_ok (q : List Instr) (s : State) (speed : Nat) (width : Nat) (h : Ok q s) :
    Ok q (State.linkRuns s speed width) := by
  unfold State.linkRuns
  simp (contextual := true) (maxDischargeDepth := 99) only [*, wr_ok]

theorem ringsOff_ok (q : List Instr) (s : State) (h : Ok q s) :
    Ok q (State.ringsOff s) := by
  unfold State.ringsOff
  simp (contextual := true) (maxDischargeDepth := 99) [*, wr_ok, clr_ok, set1_ok, ok_mk, okParts_of, ok_ite, ok_foldl]

theorem storageLink_ok (q : List Instr) (s : State) (h : Ok q s) :
    Ok q (State.storageLink s) := by
  unfold State.storageLink
  repeat' (first | (simp (contextual := true) (maxDischargeDepth := 99) only [*, ringsOff_ok, linkRuns_ok, ok_ite]; done) | split | dsimp only)

theorem refetch_ok (q : List Instr) (s : State) (leaf : Nat) (tag : Nat) (seq : Nat) (reason : Nat) (h : Ok q s) :
    Ok q (State.refetch s leaf tag seq reason).1 := by
  unfold State.refetch
  simp (contextual := true) (maxDischargeDepth := 99) only [*, announce_ok, incSat_ok, ok_mk, okParts_of, ok_ite, ok_ite_fst]

theorem folFail_ok (q : List Instr) (s : State) (leaf : Nat) (seq : Nat) (cause : Nat) (h : Ok q s) :
    Ok q (State.folFail s leaf seq cause) := by
  unfold State.folFail
  simp (contextual := true) (maxDischargeDepth := 99) only [*, wr_ok]

theorem folFormat_ok (q : List Instr) (s : State) (leaf : Nat) (seq : Nat) (cause : Nat) (h : Ok q s) :
    Ok q (State.folFormat s leaf seq cause) := by
  unfold State.folFormat
  simp (contextual := true) (maxDischargeDepth := 99) only [*, folFail_ok, incSat_ok, set1_ok]

theorem leafEvent_ok (q : List Instr) (s : State) (h : Ok q s) :
    Ok q (State.leafEvent s) := by
  unfold State.leafEvent
  simp (contextual := true) (maxDischargeDepth := 99) only [*, announce_ok]

theorem freePlace_ok (q : List Instr) (s : State) (p1 : Nat) (h : Ok q s) :
    Ok q (State.freePlace s p1) := by
  unfold State.freePlace
  repeat' (first | (simp (contextual := true) (maxDischargeDepth := 99) [*, completeEntry_ok, folShow_ok, setPlace_ok, ok_mk, okParts_of, ok_ite, ok_foldl, okParts_poison_insert]; done) | split | (refine ok_foldl _ _ (fun t x ht => ?_) ?_) | dsimp only)

theorem refuseLeaf_ok (q : List Instr) (s : State) (p1 : Nat) (cause : Nat) (h : Ok q s) :
    Ok q (State.refuseLeaf s p1 cause) := by
  unfold State.refuseLeaf
  split <;> simp (contextual := true) (maxDischargeDepth := 99) only [*, wr_ok, completeEntry_ok, leafEvent_ok, freePlace_ok]

theorem checkFail_ok (q : List Instr) (s : State) (p1 : Nat) (l : Leaf) (b : Blk) (h : Ok q s) :
    Ok q (State.checkFail s p1 l b) := by
  unfold State.checkFail
  simp (contextual := true) (maxDischargeDepth := 99) only [*, folFail_ok, set1_ok, incSat_ok, refetch_ok, setLeaf_ok, refuseLeaf_ok, ok_ite]

/-! ### Machine/PmcOps.lean -/

theorem pmcStep_ok (q : List Instr) (s : State) (k : Nat) (n : Nat) (h : Ok q s) :
    Ok q (State.pmcStep s k n).1 := by
  unfold State.pmcStep
  simp (contextual := true) (maxDischargeDepth := 99) only [*, wr_ok]

theorem pmcAdd_ok (q : List Instr) (s : State) (k : Nat) (n : Nat) (h : Ok q s) :
    Ok q (State.pmcAdd s k n) := by
  unfold State.pmcAdd
  simp (contextual := true) (maxDischargeDepth := 99) only [*, pmcStep_ok, wr_ok, ok_mk, okParts_of, ok_ite]

theorem pmcEvent_ok (q : List Instr) (s : State) (event : Nat) (n : Nat) (i : PmcInfo) (h : Ok q s) :
    Ok q (State.pmcEvent s event n i) := by
  unfold State.pmcEvent
  repeat' (first | (simp (contextual := true) (maxDischargeDepth := 99) only [*, pmcAdd_ok, ok_ite, ok_foldl]; done) | split | (refine ok_foldl _ _ (fun t x ht => ?_) ?_) | dsimp only)

theorem pmcOwn_ok (q : List Instr) (s : State) (k : Nat) (n : Nat) (h : Ok q s) :
    Ok q (State.pmcOwn s k n) := by
  unfold State.pmcOwn
  simp (contextual := true) (maxDischargeDepth := 99) only [*, pmcAdd_ok, ok_ite]

/-! ### Machine/MemUnits.lean -/

theorem setCh_ok (q : List Instr) (s : State) (c : Nat) (f : MemCh → MemCh) (h : Ok q s) :
    Ok q (State.setCh s c f) := by
  unfold State.setCh
  simp (contextual := true) (maxDischargeDepth := 99) only [*, ok_mk, okParts_of, okParts_ch]

theorem portPut_ok (q : List Instr) (s : State) (c : Nat) (access : Nat) (write : Option (Nat × List Byte)) (core : Option (Nat × Nat)) (master : Nat) (user : Bool) (h : Ok q s) :
    Ok q (State.portPut s c access write core master user) := by
  unfold State.portPut
  simp (contextual := true) (maxDischargeDepth := 99) only [*, setCh_ok]

theorem maskPut_ok (q : List Instr) (s : State) (f : Field) (c : Nat) (b : Bool) (h : Ok q s) :
    Ok q (State.maskPut s f c b) := by
  unfold State.maskPut
  simp (contextual := true) (maxDischargeDepth := 99) only [*, wr_ok, ok_ite]

theorem memLast_ok (q : List Instr) (s : State) (a : Nat) (word : Nat) (uncorrectable : Bool) (source : Nat) (h : Ok q s) :
    Ok q (State.memLast s a word uncorrectable source) := by
  unfold State.memLast
  simp (contextual := true) (maxDischargeDepth := 99) only [*, wr_ok, wrBit_ok]

theorem granuleErred_ok (q : List Instr) (s : State) (c : Nat) (a : Nat) (h : Ok q s) :
    Ok q (State.granuleErred s c a) := by
  unfold State.granuleErred
  repeat' (first | (simp (contextual := true) (maxDischargeDepth := 99) only [*, setCh_ok, incSat_ok, bucketDrop_ok, ok_foldl, okParts_serr, okParts_serr_filter, okParts_kerr, okParts_ksram]; done) | split | (refine ok_foldl _ _ (fun t x ht => ?_) ?_) | dsimp only)

theorem pageWithdraw_ok (q : List Instr) (s : State) (a : Nat) (h : Ok q s) :
    Ok q (State.pageWithdraw s a).1 := by
  unfold State.pageWithdraw
  repeat' (first | (simp (contextual := true) (maxDischargeDepth := 99) only [*, set1_ok, wr_ok, ok_ite, ok_ite_fst]; done) | split | dsimp only)

theorem remapTo_ok (q : List Instr) (s : State) (a : Nat) (spare : Nat) (h : Ok q s) :
    Ok q (State.remapTo s a spare) := by
  unfold State.remapTo
  simp (contextual := true) (maxDischargeDepth := 99) only [*, ddrWrite_ok, ok_mk, okParts_of]

theorem granuleLasting_ok (q : List Instr) (s : State) (c : Nat) (a : Nat) (h : Ok q s) :
    Ok q (State.granuleLasting s c a).1 := by
  unfold State.granuleLasting
  repeat' (first | (simp (contextual := true) (maxDischargeDepth := 99) only [*, incSat_ok, set1_ok, wr_ok, remapTo_ok, pageWithdraw_ok]; done) | split | dsimp only)

theorem memRecord_ok (q : List Instr) (s : State) (a : Nat) (source : Nat) (action : Nat) (h : Ok q s) :
    Ok q (State.memRecord s a source action) := by
  unfold State.memRecord
  simp (contextual := true) (maxDischargeDepth := 99) only [*, aclLog_ok]

theorem burstCorrected_ok (q : List Instr) (s : State) (c : Nat) (a : Nat) (words : Nat) (word : Nat) (source : Nat) (h : Ok q s) :
    Ok q (State.burstCorrected s c a words word source) := by
  unfold State.burstCorrected
  simp (contextual := true) (maxDischargeDepth := 99) only [*, memLast_ok, addSat_ok, set1_ok, granuleErred_ok, bucket_ok, granuleLasting_ok, memRecord_ok, ok_mk, okParts_of, ok_ite]

theorem storePoison_ok (q : List Instr) (s : State) (block : Option (Fin 2 × Nat)) (h : Ok q s) :
    Ok q (State.storePoison s block).1 := by
  unfold State.storePoison
  repeat' (first | (simp (contextual := true) (maxDischargeDepth := 99) only [*, checkFail_ok, ok_ite, ok_ite_fst]; done) | split | dsimp only)

theorem burstLost_ok (q : List Instr) (s : State) (c : Nat) (a : Nat) (word : Nat) (fixed : Nat) (source : Nat) (block : Option (Fin 2 × Nat)) (h : Ok q s) :
    Ok q (State.burstLost s c a word fixed source block) := by
  unfold State.burstLost
  simp (contextual := true) (maxDischargeDepth := 99) [*, burstPoison_ok, addSat_ok, set1_ok, memLast_ok, incSat_ok, storePoison_ok, granuleErred_ok, bucket_ok, granuleLasting_ok, wr_ok, memRecord_ok, ok_ite, ok_whenD]

theorem burstTake_ok (q : List Instr) (s : State) (c : Nat) (a : Nat) (source : Nat) (block : Option (Fin 2 × Nat)) (h : Ok q s) :
    Ok q (State.burstTake s c a source block) := by
  unfold State.burstTake
  repeat' (first | (simp (contextual := true) (maxDischargeDepth := 99) only [*, burstPoison_ok, burstCorrected_ok, burstLost_ok]; done) | split | dsimp only)

theorem rangeTake_ok (q : List Instr) (s : State) (bursts : List Nat) (source : Nat) (h : Ok q s) :
    Ok q (State.rangeTake s bursts source) := by
  unfold State.rangeTake
  repeat' (first | (simp (contextual := true) (maxDischargeDepth := 99) only [*, burstTake_ok, ok_ite, ok_foldl]; done) | split | (refine ok_foldl _ _ (fun t x ht => ?_) ?_) | dsimp only)

theorem pmcServed_ok (q : List Instr) (s : State) (c : Nat) (hit : Bool) (r : MemReq) (h : Ok q s) :
    Ok q (State.pmcServed s c hit r) := by
  unfold State.pmcServed
  simp (contextual := true) (maxDischargeDepth := 99) only [*, pmcEvent_ok, ok_ite]

theorem memServed_ok (q : List Instr) (s : State) (c : Nat) (sub : Nat) (r : MemReq) (h : Ok q s) :
    Ok q (State.memServed s c sub r) := by
  unfold State.memServed
  simp (contextual := true) (maxDischargeDepth := 99) only [*, pmcServed_ok, setCh_ok, incSat_ok, ok_ite]

theorem debtShow_ok (q : List Instr) (s : State) (c : Nat) (h : Ok q s) :
    Ok q (State.debtShow s c) := by
  unfold State.debtShow
  simp (contextual := true) (maxDischargeDepth := 99) only [*, wr_ok, ok_foldl]

theorem busError_ok (q : List Instr) (s : State) (core : Option (Nat × Nat)) (h : Ok q s) :
    Ok q (State.busError s core) := by
  unfold State.busError
  split <;> simp (contextual := true) (maxDischargeDepth := 99) only [*, ok_mk, okParts_of, okParts_serr, okParts_serr_filter, okParts_kerr, okParts_ksram]

theorem pmcAdmitted_ok (q : List Instr) (s : State) (c : Nat) (r : MemReq) (h : Ok q s) :
    Ok q (State.pmcAdmitted s c r) := by
  unfold State.pmcAdmitted
  simp (contextual := true) (maxDischargeDepth := 99) only [*, pmcEvent_ok]

theorem unitRequest_ok (q : List Instr) (s : State) (master : Nat) (write : Option (Nat × List Byte)) (access : Nat) (h : Ok q s) :
    Ok q (State.unitRequest s master write access) := by
  unfold State.unitRequest
  repeat' (first | (simp (contextual := true) (maxDischargeDepth := 99) only [*, portPut_ok, pmcAdmitted_ok, memServed_ok, setCh_ok]; done) | split | dsimp only)

theorem unitRead_ok (q : List Instr) (s : State) (master : Nat) (a : Nat) (n : Nat) (source : Nat) (h : Ok q s) :
    Ok q (State.unitRead s master a n source) := by
  unfold State.unitRead
  simp (contextual := true) (maxDischargeDepth := 99) [*, rangeTake_ok, unitRequest_ok, ok_foldl]

theorem unitWrite_ok (q : List Instr) (s : State) (master : Nat) (a : Nat) (bs : List Byte) (mark : Bool) (h : Ok q s) :
    Ok q (State.unitWrite s master a bs mark) := by
  unfold State.unitWrite
  simp (contextual := true) (maxDischargeDepth := 99) [*, unitRequest_ok, rangeTake_ok, ddrWrite_ok, set1_ok, ok_foldl, ok_whenD]

theorem unitPut_ok (q : List Instr) (s : State) (master : Nat) (space : Nat) (a : Nat) (bs : List Byte) (mark : Bool) (h : Ok q s) :
    Ok q (State.unitPut s master space a bs mark) := by
  unfold State.unitPut
  simp (contextual := true) (maxDischargeDepth := 99) only [*, unitWrite_ok, spaceWrite_ok, ok_ite]

/-! ### Machine/TwinOps.lean -/

theorem sendDigest_ok (q : List Instr) (s : State) (leaf : Nat) (row : Int) (col : Nat) (status : Nat) (value : Nat) (h : Ok q s) :
    Ok q (State.sendDigest s leaf row col status value) := by
  unfold State.sendDigest
  simp (contextual := true) (maxDischargeDepth := 99) only [*, iklSend_ok, ok_ite]

theorem twinEvent_ok (q : List Instr) (s : State) (h : Ok q s) :
    Ok q (State.twinEvent s) := by
  unfold State.twinEvent
  simp (contextual := true) (maxDischargeDepth := 99) only [*, announce_ok]

theorem twinRecord_ok (q : List Instr) (s : State) (kind : Nat) (h : Ok q s) :
    Ok q (State.twinRecord s kind) := by
  unfold State.twinRecord
  simp (contextual := true) (maxDischargeDepth := 99) only [*, aclLog_ok]

theorem diverge_ok (q : List Instr) (s : State) (h : Ok q s) :
    Ok q (State.diverge s) := by
  unfold State.diverge
  simp (contextual := true) (maxDischargeDepth := 99) only [*, twinRecord_ok, incSat_ok, set1_ok, ok_ite]

theorem commitCompare_ok (q : List Instr) (s : State) (h : Ok q s) :
    Ok q (State.commitCompare s) := by
  unfold State.commitCompare
  split <;> simp (contextual := true) (maxDischargeDepth := 99) only [*, set1_ok, diverge_ok, ok_mk, okParts_of, ok_ite]

end Sys2Proof.Machine
end

