-- ==== Sys2Proof/Laws/SoundSlots.lean ====
section
/-! SUPPORT. Soundness is kept by the helpers of the raster, the beam tables, the Lacuna List, time, the tracker and the duty governor: one lemma for each operation and each meaning. -/
namespace Sys2Proof.Machine

/-! ### Machine/RasterOps.lean -/

theorem setRas_ok (q : List Instr) (s : State) (p1 : Nat) (f : Ras → Ras) (h : Ok q s) :
    Ok q (State.setRas s p1 f) := by
  unfold State.setRas
  split <;> simp (contextual := true) (maxDischargeDepth := 99) only [*, setLeaf_ok]

theorem putTile_ok (q : List Instr) (s : State) (p1 : Nat) (k : TileSt) (h : Ok q s) :
    Ok q (State.putTile s p1 k) := by
  unfold State.putTile
  simp (contextual := true) (maxDischargeDepth := 99) only [*, setRas_ok, pmcEvent_ok, ok_ite]

theorem countCause_ok (q : List Instr) (s : State) (e : Nat) (c : Nat) (h : Ok q s) :
    Ok q (State.countCause s e c) := by
  unfold State.countCause
  split <;> simp (contextual := true) (maxDischargeDepth := 99) only [*, set1_ok, incSat_ok, bucketReport_ok]

theorem tileFail.fresh_ok (q : List Instr) (p0 : Nat) (s : State) (l : Leaf) (k : TileSt) (c : Nat) (h : Ok q s) :
    Ok q (State.tileFail.fresh p0 s l k c) := by
  unfold State.tileFail.fresh
  simp (contextual := true) (maxDischargeDepth := 99) only [*, pmcEvent_ok, incSat_ok, wr_ok, wrInt_ok, putTile_ok, sendDigest_ok]

theorem tileFail_ok (q : List Instr) (s : State) (p1 : Nat) (t : Int) (e : Nat) (causes : List Nat) (h : Ok q s) :
    Ok q (State.tileFail s p1 t e causes) := by
  unfold State.tileFail
  split
  · exact h
  · dsimp only
    have h1 : Ok q (causes.foldl (fun s c => s.countCause e c) s) :=
      ok_foldl _ _ (fun t x ht => countCause_ok _ _ _ _ ht) h
    split
    · split
      · exact putTile_ok _ _ _ _ h1
      · exact tileFail.fresh_ok _ _ _ _ _ _ h1
    · exact tileFail.fresh_ok _ _ _ _ _ _ h1

theorem suspectTile_ok (q : List Instr) (s : State) (p1 : Nat) (leaf : Nat) (k : TileSt) (h : Ok q s) :
    Ok q (State.suspectTile s p1 leaf k) := by
  unfold State.suspectTile
  simp (contextual := true) (maxDischargeDepth := 99) only [*, incSat_ok, set1_ok, putTile_ok, wr_ok, wrInt_ok]

theorem digestJudge_ok (q : List Instr) (s : State) (p1 : Nat) (leaf : Nat) (k : TileSt) (h : Ok q s) :
    Ok q (State.digestJudge s p1 leaf k) := by
  unfold State.digestJudge
  repeat' (first | (simp (contextual := true) (maxDischargeDepth := 99) only [*, suspectTile_ok, ok_ite]; done) | split | dsimp only)

theorem dosLast_ok (q : List Instr) (s : State) (t : Int) (e : Nat) (i : Nat) (j : Nat) (cause : Nat) (h : Ok q s) :
    Ok q (State.dosLast s t e i j cause) := by
  unfold State.dosLast
  simp (contextual := true) (maxDischargeDepth := 99) only [*, wr_ok, wrInt_ok]

theorem rasCorrected_ok (q : List Instr) (s : State) (e : Nat) (n : Nat) (h : Ok q s) :
    Ok q (State.rasCorrected s e n) := by
  unfold State.rasCorrected
  repeat' (first | (simp (contextual := true) (maxDischargeDepth := 99) only [*, bucketReport_ok, addSat_ok, ok_foldl]; done) | split | (refine ok_foldl _ _ (fun t x ht => ?_) ?_) | dsimp only)

theorem dosCorrected_ok (q : List Instr) (s : State) (e : Nat) (n : Nat) (h : Ok q s) :
    Ok q (State.dosCorrected s e n) := by
  unfold State.dosCorrected
  repeat' (first | (simp (contextual := true) (maxDischargeDepth := 99) only [*, bucketReport_ok, addSat_ok, ok_foldl]; done) | split | (refine ok_foldl _ _ (fun t x ht => ?_) ?_) | dsimp only)

theorem engineShow_ok (q : List Instr) (s : State) (e : Nat) (h : Ok q s) :
    Ok q (State.engineShow s e) := by
  unfold State.engineShow
  repeat' (first | (simp (contextual := true) (maxDischargeDepth := 99) only [*, wr_ok, wrInt_ok, ok_ite]; done) | split | dsimp only)

theorem rasShow_ok (q : List Instr) (s : State) (h : Ok q s) :
    Ok q (State.rasShow s) := by
  unfold State.rasShow
  repeat' (first | (simp (contextual := true) (maxDischargeDepth := 99) only [*, wrInt_ok, wr_ok, ok_foldl]; done) | split | (refine ok_foldl _ _ (fun t x ht => ?_) ?_) | dsimp only)

/-! ### Machine/BeamTable.lean -/

theorem bctStatus_ok (q : List Instr) (s : State) (st : Nat) (cause : Nat) (column : Nat) (row : Nat) (h : Ok q s) :
    Ok q (State.bctStatus s st cause column row) := by
  unfold State.bctStatus
  simp (contextual := true) (maxDischargeDepth := 99) only [*, source_ok, wr_ok]

theorem bankShow_ok (q : List Instr) (s : State) (h : Ok q s) :
    Ok q (State.bankShow s) := by
  unfold State.bankShow
  repeat' (first | (simp (contextual := true) (maxDischargeDepth := 99) only [*, wr_ok, ok_foldl]; done) | split | (refine ok_foldl _ _ (fun t x ht => ?_) ?_) | dsimp only)

theorem bind_ok (q : List Instr) (s : State) (p1 : Nat) (b : Nat) (h : Ok q s) :
    Ok q (State.bind s p1 b) := by
  unfold State.bind
  split <;> simp (contextual := true) (maxDischargeDepth := 99) only [*, setRas_ok, wr_ok, ok_mk, okParts_of]

theorem acceptedDrop_ok (q : List Instr) (s : State) (leaf : Nat) (h : Ok q s) :
    Ok q (State.acceptedDrop s leaf) := by
  unfold State.acceptedDrop
  simp (contextual := true) (maxDischargeDepth := 99) only [*, ok_mk, okParts_of]

theorem bindNext_ok (q : List Instr) (s : State) (h : Ok q s) :
    Ok q (State.bindNext s) := by
  unfold State.bindNext
  repeat' (first | (simp (contextual := true) (maxDischargeDepth := 99) only [*, bind_ok, acceptedDrop_ok, ok_ite, ok_foldl]; done) | split | (refine ok_foldl _ _ (fun t x ht => ?_) ?_) | dsimp only)

theorem commitResult_ok (q : List Instr) (s : State) (leaf : Nat) (cause : Nat) (b : Nat) (h : Ok q s) :
    Ok q (State.commitResult s leaf cause b) := by
  unfold State.commitResult
  repeat' (first | (simp (contextual := true) (maxDischargeDepth := 99) only [*, aclLog_ok, notice_ok, iklSend_ok, commitCompare_ok, ok_mk, okParts_of, ok_ite]; done) | split | dsimp only)

theorem commitRefuse_ok (q : List Instr) (s : State) (leaf : Nat) (cause : Nat) (column : Nat) (row : Nat) (h : Ok q s) :
    Ok q (State.commitRefuse s leaf cause column row) := by
  unfold State.commitRefuse
  simp (contextual := true) (maxDischargeDepth := 99) only [*, acceptedDrop_ok, set1_ok, bctStatus_ok, bankShow_ok, bindNext_ok, commitResult_ok, ok_mk, okParts_of]

theorem admitLeaf_ok (q : List Instr) (s : State) (p1 : Nat) (h2 : LeafHdr) (h : Ok q s) :
    Ok q (State.admitLeaf s p1 h2) := by
  unfold State.admitLeaf
  simp (contextual := true) (maxDischargeDepth := 99) only [*, setRas_ok, commitRefuse_ok, bankShow_ok, bindNext_ok, ok_mk, okParts_of, ok_ite]

theorem commitGo_ok (q : List Instr) (s : State) (leaf : Nat) (h : Ok q s) :
    Ok q (State.commitGo s leaf) := by
  unfold State.commitGo
  simp (contextual := true) (maxDischargeDepth := 99) only [*, wr_ok, commitRefuse_ok, bankShow_ok, bindNext_ok, bctStatus_ok, ok_mk, okParts_of, ok_ite]

theorem execBctCommitGo_ok (q : List Instr) (m : Master) (leaf : BitVec 16) (s : State) (h : Ok q s) :
    OkOut q (execBctCommitGo m leaf s) := by
  unfold execBctCommitGo
  repeat' (first | (simp (contextual := true) (maxDischargeDepth := 99) only [*, gated_ok, commitGo_ok, okOut_done]; done) | split | (refine gated_ok _ _ _ _ _ (by assumption) (fun t ht => ?_)) | (refine okOut_done ?_) | dsimp only)

theorem execBctLoadStart_ok (q : List Instr) (s : State) (h : Ok q s) :
    OkOut q (execBctLoadStart s) := by
  unfold execBctLoadStart
  repeat' (first | (simp (contextual := true) (maxDischargeDepth := 99) only [*, ok_mk, okParts_of, ok_ite, okOut_ite, okOut_done]; done) | split | (refine okOut_done ?_) | dsimp only)

theorem commitAccept_ok (q : List Instr) (s : State) (c : BctCommit) (b : Nat) (h : Ok q s) :
    Ok q (State.commitAccept s c b) := by
  unfold State.commitAccept
  simp (contextual := true) (maxDischargeDepth := 99) only [*, acceptedDrop_ok, wr_ok, bctStatus_ok, ok_mk, okParts_of, ok_ite, ok_foldl]

theorem commitResolve_ok (q : List Instr) (s : State) (c : BctCommit) (b : Nat) (found : Option (Nat × Nat × Nat)) (h : Ok q s) :
    Ok q (State.commitResolve s c b found) := by
  unfold State.commitResolve
  split <;> simp (contextual := true) (maxDischargeDepth := 99) only [*, bankShow_ok, bindNext_ok, commitResult_ok, commitAccept_ok, commitRefuse_ok]

theorem execBctCommitResolved_ok (q : List Instr) (s : State) (h : Ok q s) :
    OkOut q (execBctCommitResolved s) := by
  unfold execBctCommitResolved
  repeat' (first | (simp (contextual := true) (maxDischargeDepth := 99) only [*, unitRead_ok, commitResolve_ok, okOut_done]; done) | split | (refine okOut_done ?_) | dsimp only)

/-! ### Machine/LacunaOps.lean -/

theorem lacClose_ok (q : List Instr) (s : State) (r : LacRec) (h : Ok q s) :
    Ok q (State.lacClose s r) := by
  unfold State.lacClose
  simp (contextual := true) (maxDischargeDepth := 99) only [*, source_ok, iklSend_ok, aclLog_ok, ok_mk, okParts_of, ok_ite]

theorem lacCloseRel_ok (q : List Instr) (s : State) (h : Ok q s) :
    Ok q (State.lacCloseRel s) := by
  unfold State.lacCloseRel
  split <;> simp (contextual := true) (maxDischargeDepth := 99) only [*, lacClose_ok, ok_mk, okParts_of]

theorem lacCloseRes_ok (q : List Instr) (s : State) (h : Ok q s) :
    Ok q (State.lacCloseRes s) := by
  unfold State.lacCloseRes
  split <;> simp (contextual := true) (maxDischargeDepth := 99) only [*, lacClose_ok, ok_mk, okParts_of]

theorem lacHandRel_ok (q : List Instr) (s : State) (r : LacRec) (h : Ok q s) :
    Ok q (State.lacHandRel s r) := by
  unfold State.lacHandRel
  split <;> simp (contextual := true) (maxDischargeDepth := 99) only [*, lacCloseRel_ok, ok_mk, okParts_of, ok_ite]

theorem lacHandRes_ok (q : List Instr) (s : State) (r : LacRec) (h : Ok q s) :
    Ok q (State.lacHandRes s r) := by
  unfold State.lacHandRes
  repeat' (first | (simp (contextual := true) (maxDischargeDepth := 99) only [*, lacCloseRes_ok, ok_mk, okParts_of, ok_ite]; done) | split | dsimp only)

theorem lacStore_ok (q : List Instr) (s : State) (idx : Nat) (r : LacRec) (h : Ok q s) :
    Ok q (State.lacStore s idx r) := by
  unfold State.lacStore
  simp (contextual := true) (maxDischargeDepth := 99) only [*, unitWrite_ok]

theorem lacWrite.plain_ok (q : List Instr) (s : State) (next : Nat) (r : LacRec) (m : Option (Nat × Nat)) (h : Ok q s) :
    Ok q (State.lacWrite.plain s next r m) := by
  unfold State.lacWrite.plain
  simp (contextual := true) (maxDischargeDepth := 99) only [*, lacStore_ok, vector_ok, incSat_ok, wr_ok, ok_mk, okParts_of]

theorem lacWrite_ok (q : List Instr) (s : State) (r : LacRec) (rest : List LacRec) (h : Ok q s) :
    Ok q (State.lacWrite s r rest) := by
  unfold State.lacWrite
  repeat' (first | (simp (contextual := true) (maxDischargeDepth := 99) only [*, unitRead_ok, vector_ok, set1_ok, incSat_ok, lacStore_ok, lacWrite.plain_ok, ok_mk, okParts_of, ok_ite]; done) | split | dsimp only)

/-! ### Machine/TimeOps.lean -/

theorem setBase_ok (q : List Instr) (s : State) (b : Nat) (t : TimeBase) (h : Ok q s) :
    Ok q (State.setBase s b t) := by
  unfold State.setBase
  split <;> simp (contextual := true) (maxDischargeDepth := 99) only [*, ok_mk, okParts_of]

theorem setServo_ok (q : List Instr) (s : State) (b : Nat) (i : Int) (r : Nat) (h : Ok q s) :
    Ok q (State.setServo s b i r) := by
  unfold State.setServo
  simp (contextual := true) (maxDischargeDepth := 99) only [*, ok_mk, okParts_of, ok_ite]

theorem servoState_ok (q : List Instr) (s : State) (b : Nat) (st : Nat) (h : Ok q s) :
    Ok q (State.servoState s b st) := by
  unfold State.servoState
  simp (contextual := true) (maxDischargeDepth := 99) only [*, announce_ok, wr_ok, set1_ok, ok_ite]

theorem stepped_ok (q : List Instr) (s : State) (b : Nat) (h : Ok q s) :
    Ok q (State.stepped s b) := by
  unfold State.stepped
  simp (contextual := true) (maxDischargeDepth := 99) only [*, servoState_ok, incSat_ok, setServo_ok]

theorem servoTrack_ok (q : List Instr) (s : State) (b : Nat) (o : Int) (run : Nat) (h : Ok q s) :
    Ok q (State.servoTrack s b o run) := by
  unfold State.servoTrack
  simp (contextual := true) (maxDischargeDepth := 99) only [*, servoState_ok, ok_ite]

theorem servoSlew_ok (q : List Instr) (s : State) (b : Nat) (o : Int) (h : Ok q s) :
    Ok q (State.servoSlew s b o) := by
  unfold State.servoSlew
  simp (contextual := true) (maxDischargeDepth := 99) only [*, servoTrack_ok, wrInt_ok, setServo_ok]

theorem servoSample_ok (q : List Instr) (s : State) (b : Nat) (o : Int) (flag : Bool) (h : Ok q s) :
    Ok q (State.servoSample s b o flag) := by
  unfold State.servoSample
  simp (contextual := true) (maxDischargeDepth := 99) only [*, clr_ok, wrInt_ok, servoSlew_ok, set1_ok, servoTrack_ok, setServo_ok, stepped_ok, setBase_ok, ok_ite]

theorem timeTick_ok (q : List Instr) (s : State) (h : Ok q s) :
    Ok q (State.timeTick s) := by
  unfold State.timeTick
  simp (contextual := true) (maxDischargeDepth := 99) only [*, ok_mk, okParts_of]

/-! ### Machine/TrackerOps.lean -/

theorem permit_ok (q : List Instr) (s : State) (rate : Nat) (h : Ok q s) :
    Ok q (State.permit s rate) := by
  unfold State.permit
  simp (contextual := true) (maxDischargeDepth := 99) only [*, wr_ok]

theorem predict_ok (q : List Instr) (s : State) (h : Ok q s) :
    Ok q (State.predict s) := by
  unfold State.predict
  simp (contextual := true) (maxDischargeDepth := 99) only [*, takeFree_ok, wr_ok, ok_ite]

theorem windowLow_ok (q : List Instr) (s : State) (h : Ok q s) :
    Ok q (State.windowLow s) := by
  unfold State.windowLow
  simp (contextual := true) (maxDischargeDepth := 99) only [*, ok_mk, okParts_of]

theorem slowShow_ok (q : List Instr) (s : State) (h : Ok q s) :
    Ok q (State.slowShow s) := by
  unfold State.slowShow
  simp (contextual := true) (maxDischargeDepth := 99) only [*, wrBit_ok]

theorem putSlot_ok (q : List Instr) (s : State) (r : SlotRec) (h : Ok q s) :
    Ok q (State.putSlot s r) := by
  unfold State.putSlot
  simp (contextual := true) (maxDischargeDepth := 99) only [*, ok_mk, okParts_of, ok_ite]

theorem blankSlot_ok (q : List Instr) (s : State) (r : SlotRec) (cause : Nat) (detail : Nat) (cols : BitVec 64) (h : Ok q s) :
    Ok q (State.blankSlot s r cause detail cols) := by
  unfold State.blankSlot
  simp (contextual := true) (maxDischargeDepth := 99) only [*, set1_ok, incSat_ok, wr_ok, lacHandRel_ok, ok_ite]

theorem rsvMove_ok (q : List Instr) (s : State) (r : Nat) (h : Ok q s) :
    Ok q (State.rsvMove s r) := by
  unfold State.rsvMove
  simp (contextual := true) (maxDischargeDepth := 99) only [*, leadShow_ok, wr_ok]

theorem rsvAdvance_ok (q : List Instr) (s : State) (h : Ok q s) :
    Ok q (State.rsvAdvance s) := by
  unfold State.rsvAdvance
  split <;> simp (contextual := true) (maxDischargeDepth := 99) only [*, rsvMove_ok, ok_ite]

theorem endRecord_ok (q : List Instr) (s : State) (leaf : Nat) (first : Nat) (last : Nat) (cause : Nat) (h : Ok q s) :
    Ok q (State.endRecord s leaf first last cause) := by
  unfold State.endRecord
  simp (contextual := true) (maxDischargeDepth := 99) only [*, lacCloseRel_ok, lacClose_ok, ok_ite]

theorem endFlag_ok (q : List Instr) (s : State) (detail : Nat) (h : Ok q s) :
    Ok q (State.endFlag s detail) := by
  unfold State.endFlag
  split <;> simp (contextual := true) (maxDischargeDepth := 99) only [*, set1_ok]

theorem dropTiles_ok (q : List Instr) (s : State) (p1 : Nat) (h2 : LeafHdr) (h : Ok q s) :
    Ok q (State.dropTiles s p1 h2) := by
  unfold State.dropTiles
  simp (contextual := true) (maxDischargeDepth := 99) [*, setRas_ok, rasShow_ok, engineShow_ok, ok_foldl]

theorem stopAfter_ok (q : List Instr) (s : State) (p1 : Nat) (l : Leaf) (h3 : LeafHdr) (c : Int) (orderly : Bool) (h : Ok q s) :
    Ok q (State.stopAfter s p1 l h3 c orderly) := by
  unfold State.stopAfter
  simp (contextual := true) (maxDischargeDepth := 99) only [*, pmcEvent_ok, dropTiles_ok, rsvAdvance_ok, wr_ok, set1_ok, ok_mk, okParts_of, ok_foldl]

theorem endLeafAt_ok (q : List Instr) (s : State) (p1 : Nat) (l : Leaf) (h3 : LeafHdr) (orderly : Bool) (first : Nat) (detail : Nat) (write : Bool) (h : Ok q s) :
    Ok q (State.endLeafAt s p1 l h3 orderly first detail write) := by
  unfold State.endLeafAt
  simp (contextual := true) (maxDischargeDepth := 99) only [*, wr_ok, endFlag_ok, endRecord_ok, lacCloseRel_ok, aclLog_ok, iklSend_ok, stopAfter_ok, ok_ite]

theorem endAlone_ok (q : List Instr) (s : State) (leaf : Nat) (last : Nat) (h : Ok q s) :
    Ok q (State.endAlone s leaf last) := by
  unfold State.endAlone
  simp (contextual := true) (maxDischargeDepth := 99) only [*, ok_mk, okParts_of, ok_ite]

theorem earlyEnd_ok (q : List Instr) (s : State) (orderly : Bool) (detail : Nat) (h : Ok q s) :
    Ok q (State.earlyEnd s orderly detail) := by
  unfold State.earlyEnd
  split <;> simp (contextual := true) (maxDischargeDepth := 99) only [*, endLeafAt_ok, endAlone_ok, ok_ite]

theorem scrubShow_ok (q : List Instr) (s : State) (h : Ok q s) :
    Ok q (State.scrubShow s) := by
  unfold State.scrubShow
  simp (contextual := true) (maxDischargeDepth := 99) only [*, wr_ok, ok_ite]

theorem maskDrop_ok (q : List Instr) (s : State) (f : Field) (c : Nat) (h : Ok q s) :
    Ok q (State.maskDrop s f c) := by
  unfold State.maskDrop
  simp (contextual := true) (maxDischargeDepth := 99) only [*, wr_ok]

theorem recoverStart_ok (q : List Instr) (s : State) (h : Ok q s) :
    Ok q (State.recoverStart s) := by
  unfold State.recoverStart
  repeat' (first | (simp (contextual := true) (maxDischargeDepth := 99) only [*, setCh_ok, scrubShow_ok, maskDrop_ok, wr_ok, ok_ite, ok_foldl]; done) | split | (refine ok_foldl _ _ (fun t x ht => ?_) ?_) | dsimp only)

theorem windowClose_ok (q : List Instr) (s : State) (leaf : Nat) (h : Ok q s) :
    Ok q (State.windowClose s leaf) := by
  unfold State.windowClose
  split <;> simp (contextual := true) (maxDischargeDepth := 99) only [*, lacHandRes_ok, ok_mk, okParts_of, ok_ite]

theorem leafGone_ok (q : List Instr) (s : State) (p1 : Nat) (l : Leaf) (h3 : LeafHdr) (h : Ok q s) :
    Ok q (State.leafGone s p1 l h3) := by
  unfold State.leafGone
  simp (contextual := true) (maxDischargeDepth := 99) only [*, rsvMove_ok, retire_ok, lacCloseRel_ok, wr_ok, freePlace_ok, recoverStart_ok, bankShow_ok, leafEvent_ok, folShow_ok, ok_mk, okParts_of]

theorem pairTest_ok (q : List Instr) (s : State) (twin : Bool) (h : Ok q s) :
    Ok q (State.pairTest s twin) := by
  unfold State.pairTest
  repeat' (first | (simp (contextual := true) (maxDischargeDepth := 99) only [*, twinEvent_ok, wr_ok, ok_ite]; done) | split | dsimp only)

theorem tb1Switch_ok (q : List Instr) (s : State) (h : Ok q s) :
    Ok q (State.tb1Switch s) := by
  unfold State.tb1Switch
  simp (contextual := true) (maxDischargeDepth := 99) only [*, set1_ok, servoState_ok, ok_mk, okParts_of, ok_ite]

theorem handover_ok (q : List Instr) (s : State) (h : Ok q s) :
    Ok q (State.handover s) := by
  unfold State.handover
  repeat' (first | (simp (contextual := true) (maxDischargeDepth := 99) only [*, iklSend_ok, twinEvent_ok, wr_ok, clr_ok, tb1Switch_ok, set1_ok, ok_mk, okParts_of, ok_ite]; done) | split | dsimp only)

/-! ### Machine/GuardOps.lean -/

theorem guardLeaf_ok (q : List Instr) (s : State) (h : Ok q s) :
    Ok q (State.guardLeaf s) := by
  unfold State.guardLeaf
  repeat' (first | (simp (contextual := true) (maxDischargeDepth := 99) only [*, lacCloseRel_ok, lacClose_ok, stopAfter_ok, ok_ite]; done) | split | dsimp only)

theorem blankRelease_ok (q : List Instr) (s : State) (h : Ok q s) :
    Ok q (State.blankRelease s) := by
  unfold State.blankRelease
  simp (contextual := true) (maxDischargeDepth := 99) only [*, wrBit_ok]

theorem recordAmend_ok (q : List Instr) (s : State) (index : Nat) (event : Nat) (data : List Byte → List Byte) (h : Ok q s) :
    Ok q (State.recordAmend s index event data) := by
  unfold State.recordAmend
  split <;> simp (contextual := true) (maxDischargeDepth := 99) only [*, ok_mk, okParts_of, ok_ite, okParts_ch]

theorem guardJoin_ok (q : List Instr) (s : State) (cause : Nat) (h : Ok q s) :
    Ok q (State.guardJoin s cause) := by
  unfold State.guardJoin
  repeat' (first | (simp (contextual := true) (maxDischargeDepth := 99) only [*, wr_ok, recordAmend_ok]; done) | split | dsimp only)

theorem guardDemand_ok (q : List Instr) (s : State) (cause : Nat) (h : Ok q s) :
    Ok q (State.guardDemand s cause) := by
  unfold State.guardDemand
  simp (contextual := true) (maxDischargeDepth := 99) only [*, wr_ok, guardJoin_ok, set1_ok, guardLeaf_ok, windowLow_ok, blankRelease_ok, axGuard_ok, clr_ok, faultEvent_ok, aclGuard_ok, ok_mk, okParts_of, ok_ite]

/-! ### Machine/Duty.lean -/

theorem softRecord_ok (q : List Instr) (s : State) (kind : Nat) (h : Ok q s) :
    Ok q (State.softRecord s kind) := by
  unfold State.softRecord
  simp (contextual := true) (maxDischargeDepth := 99) only [*, faultEvent_ok, aclLog_ok]

theorem softCross_ok (q : List Instr) (s : State) (kind : Nat) (f : Field) (now : Bool) (before : Bool) (h : Ok q s) :
    Ok q (State.softCross s kind f now before) := by
  unfold State.softCross
  simp (contextual := true) (maxDischargeDepth := 99) only [*, softRecord_ok, set1_ok, ok_ite]

theorem hardCross_ok (q : List Instr) (s : State) (detail : Nat) (f : Field) (now : Bool) (before : Bool) (h : Ok q s) :
    Ok q (State.hardCross s detail f now before) := by
  unfold State.hardCross
  simp (contextual := true) (maxDischargeDepth := 99) only [*, set1_ok, earlyEnd_ok, ok_ite]

theorem dutyJudge_ok (q : List Instr) (s : State) (h : Ok q s) :
    Ok q (State.dutyJudge s) := by
  unfold State.dutyJudge
  simp (contextual := true) (maxDischargeDepth := 99) only [*, wr_ok, softCross_ok, hardCross_ok, slowShow_ok, ok_mk, okParts_of]

theorem execDutyVerdict_ok (q : List Instr) (s : State) (h : Ok q s) :
    OkOut q (execDutyVerdict s) := by
  unfold execDutyVerdict
  split <;> simp (contextual := true) (maxDischargeDepth := 99) only [*, dutyJudge_ok, ok_mk, okParts_of, okOut_done]

theorem execDutySubwindowRoll_ok (q : List Instr) (plate : Bool) (s : State) (h : Ok q s) :
    OkOut q (execDutySubwindowRoll plate s) := by
  unfold execDutySubwindowRoll
  simp (contextual := true) (maxDischargeDepth := 99) only [*, dutyJudge_ok, ok_mk, okParts_of, ok_ite, okOut_ite, okOut_done]

theorem tempReport_ok (q : List Instr) (s : State) (t : Int) (h : Ok q s) :
    Ok q (State.tempReport s t) := by
  unfold State.tempReport
  simp (contextual := true) (maxDischargeDepth := 99) only [*, set1_ok, wrInt_ok, softCross_ok, slowShow_ok, hardCross_ok, ok_mk, okParts_of]

end Sys2Proof.Machine
end

