-- ==== Sys2Proof/Laws/SoundLinks.lean ====
section
/-! SUPPORT. Soundness is kept by the BLK link, the helpers of start-up and the catalogue: one lemma for each operation and each meaning. -/
namespace Sys2Proof.Machine

/-! ### Machine/LinkOps.lean -/

theorem putGrp_ok (q : List Instr) (s : State) (g : Nat) (x : BlkGrp) (h : Ok q s) :
    Ok q (State.putGrp s g x) := by
  unfold State.putGrp
  simp (contextual := true) (maxDischargeDepth := 99) only [*, ok_mk, okParts_of, okParts_grp, okParts_svy]

theorem laneShow_ok (q : List Instr) (s : State) (n : Nat) (k : Nat) (inst : Nat) (h : Ok q s) :
    Ok q (State.laneShow s n k inst) := by
  unfold State.laneShow
  simp (contextual := true) (maxDischargeDepth := 99) only [*, wr_ok]

theorem swapStart_ok (q : List Instr) (s : State) (g : Nat) (k : Nat) (back : Bool) (good : Bool) (h : Ok q s) :
    Ok q (State.swapStart s g k back good) := by
  unfold State.swapStart
  simp (contextual := true) (maxDischargeDepth := 99) only [*, putGrp_ok]

theorem setTrim_ok (q : List Instr) (s : State) (g : Nat) (t : Option GrpTrim) (h : Ok q s) :
    Ok q (State.setTrim s g t) := by
  unfold State.setTrim
  simp (contextual := true) (maxDischargeDepth := 99) only [*, ok_mk, okParts_of, okParts_grp, okParts_svy]

theorem trimShow_ok (q : List Instr) (s : State) (g : Nat) (h : Ok q s) :
    Ok q (State.trimShow s g) := by
  unfold State.trimShow
  simp (contextual := true) (maxDischargeDepth := 99) only [*, wr_ok, ok_ite]

theorem searchStart_ok (q : List Instr) (s : State) (g : Nat) (t : GrpTrim) (h : Ok q s) :
    Ok q (State.searchStart s g t) := by
  unfold State.searchStart
  simp (contextual := true) (maxDischargeDepth := 99) only [*, trimShow_ok, setTrim_ok]

theorem runStart_ok (q : List Instr) (s : State) (h : Ok q s) :
    Ok q (State.runStart s) := by
  unfold State.runStart
  simp (contextual := true) (maxDischargeDepth := 99) [*, wr_ok, incSat_ok, clr_ok, set1_ok, searchStart_ok, ok_mk, okParts_of, ok_ite, ok_foldl]

theorem runFinish_ok (q : List Instr) (s : State) (h : Ok q s) :
    Ok q (State.runFinish s) := by
  unfold State.runFinish
  simp (contextual := true) (maxDischargeDepth := 99) only [*, wr_ok, incWrap_ok, ok_ite]

theorem runCheck_ok (q : List Instr) (s : State) (h : Ok q s) :
    Ok q (State.runCheck s) := by
  unfold State.runCheck
  split <;> simp (contextual := true) (maxDischargeDepth := 99) only [*, runFinish_ok, runStart_ok, ok_ite]

theorem runTrigger_ok (q : List Instr) (s : State) (h : Ok q s) :
    Ok q (State.runTrigger s) := by
  unfold State.runTrigger
  split <;> simp (contextual := true) (maxDischargeDepth := 99) only [*, runFinish_ok, runStart_ok, set1_ok, ok_ite]

theorem trimNext_ok (q : List Instr) (s : State) (g : Nat) (t : GrpTrim) (h : Ok q s) :
    Ok q (State.trimNext s g t) := by
  unfold State.trimNext
  simp (contextual := true) (maxDischargeDepth := 99) only [*, runCheck_ok, trimShow_ok, setTrim_ok, swapStart_ok, ok_ite]

theorem searchEnd_ok (q : List Instr) (s : State) (g : Nat) (t : GrpTrim) (h : Ok q s) :
    Ok q (State.searchEnd s g t) := by
  unfold State.searchEnd
  simp (contextual := true) (maxDischargeDepth := 99) [*, set1_ok, trimNext_ok, swapStart_ok, trimShow_ok, setTrim_ok, ok_ite, ok_whenD]

theorem setCodes_ok (q : List Instr) (s : State) (g : Nat) (k : Nat) (codes : Nat) (h : Ok q s) :
    Ok q (State.setCodes s g k codes) := by
  unfold State.setCodes
  simp (contextual := true) (maxDischargeDepth := 99) only [*, wr_ok]

theorem trimDrop_ok (q : List Instr) (s : State) (g : Nat) (h : Ok q s) :
    Ok q (State.trimDrop s g) := by
  unfold State.trimDrop
  split <;> simp (contextual := true) (maxDischargeDepth := 99) only [*, setCodes_ok, runCheck_ok, trimShow_ok, setTrim_ok, ok_ite]

theorem trimAbandon_ok (q : List Instr) (s : State) (g : Nat) (h : Ok q s) :
    Ok q (State.trimAbandon s g) := by
  unfold State.trimAbandon
  simp (contextual := true) (maxDischargeDepth := 99) only [*, incSat_ok, set1_ok, trimDrop_ok, runCheck_ok, ok_mk, okParts_of, ok_ite, okParts_grp, okParts_svy]

theorem trialFrom_ok (q : List Instr) (s : State) (g : Nat) (t : GrpTrim) (x3 : Nat) (x4 : Nat) (h : Ok q s) :
    Ok q (State.trialFrom s g t x3 x4) := by
  induction x3 generalizing s x4 with
  | zero =>
    unfold State.trialFrom
    exact searchEnd_ok _ _ _ _ h
  | succ n ih =>
    unfold State.trialFrom
    split
    · exact searchEnd_ok _ _ _ _ h
    · split
      · exact setTrim_ok _ _ _ _ (incSat_ok _ _ _ (setCodes_ok _ _ _ _ _ h))
      · exact ih _ _ h

theorem trialLost_ok (q : List Instr) (s : State) (g : Nat) (t : GrpTrim) (h : Ok q s) :
    Ok q (State.trialLost s g t) := by
  unfold State.trialLost
  simp (contextual := true) (maxDischargeDepth := 99) only [*, trialFrom_ok, setCodes_ok, ok_ite]

theorem trialJudge_ok (q : List Instr) (s : State) (g : Nat) (t : GrpTrim) (hm : Nat) (vm : Nat) (h : Ok q s) :
    Ok q (State.trialJudge s g t hm vm) := by
  unfold State.trialJudge
  simp (contextual := true) (maxDischargeDepth := 99) only [*, wr_ok, trialFrom_ok, incSat_ok, trialLost_ok, ok_ite]

theorem setGrpState_ok (q : List Instr) (s : State) (g : Nat) (st : Nat) (h : Ok q s) :
    Ok q (State.setGrpState s g st) := by
  unfold State.setGrpState
  simp (contextual := true) (maxDischargeDepth := 99) only [*, wr_ok, wrBit_ok]

theorem setSpare_ok (q : List Instr) (s : State) (g : Nat) (j : Nat) (h : Ok q s) :
    Ok q (State.setSpare s g j) := by
  unfold State.setSpare
  simp (contextual := true) (maxDischargeDepth := 99) only [*, wr_ok]

theorem lanesState_ok (q : List Instr) (s : State) (g : Nat) (st : Nat) (h : Ok q s) :
    Ok q (State.lanesState s g st) := by
  unfold State.lanesState
  repeat' (first | (simp (contextual := true) (maxDischargeDepth := 99) only [*, wr_ok, ok_ite, ok_foldl]; done) | split | (refine ok_foldl _ _ (fun t x ht => ?_) ?_) | dsimp only)

theorem grpPause_ok (q : List Instr) (s : State) (g : Nat) (h : Ok q s) :
    Ok q (State.grpPause s g) := by
  unfold State.grpPause
  simp (contextual := true) (maxDischargeDepth := 99) only [*, takeFree_ok, putGrp_ok, ok_ite]

theorem grpAlign_ok (q : List Instr) (s : State) (g : Nat) (h : Ok q s) :
    Ok q (State.grpAlign s g) := by
  unfold State.grpAlign
  simp (contextual := true) (maxDischargeDepth := 99) only [*, grpPause_ok, setGrpState_ok, putGrp_ok]

theorem grpActive_ok (q : List Instr) (s : State) (g : Nat) (h : Ok q s) :
    Ok q (State.grpActive s g) := by
  unfold State.grpActive
  repeat' (first | (simp (contextual := true) (maxDischargeDepth := 99) only [*, grpPause_ok, putGrp_ok, lanesState_ok, setGrpState_ok, wr_ok, ok_ite, ok_foldl]; done) | split | (refine ok_foldl _ _ (fun t x ht => ?_) ?_) | dsimp only)

theorem grpRecover_ok (q : List Instr) (s : State) (g : Nat) (h : Ok q s) :
    Ok q (State.grpRecover s g) := by
  unfold State.grpRecover
  simp (contextual := true) (maxDischargeDepth := 99) only [*, incSat_ok, set1_ok, setGrpState_ok, grpPause_ok, trimAbandon_ok, lanesState_ok]

theorem linkRate_ok (q : List Instr) (s : State) (h : Ok q s) :
    Ok q (State.linkRate s) := by
  unfold State.linkRate
  repeat' (first | (simp (contextual := true) (maxDischargeDepth := 99) only [*, wr_ok, permit_ok, ok_mk, okParts_of, ok_ite]; done) | split | dsimp only)

theorem rateCodes_ok (q : List Instr) (s : State) (g : Nat) (r : Nat) (h : Ok q s) :
    Ok q (State.rateCodes s g r) := by
  unfold State.rateCodes
  simp (contextual := true) (maxDischargeDepth := 99) [*, trimAbandon_ok, setCodes_ok, ok_mk, okParts_of, ok_foldl, okParts_poison_insert]

theorem allAlign_ok (q : List Instr) (s : State) (r : Nat) (src : Nat) (h : Ok q s) :
    Ok q (State.allAlign s r src) := by
  unfold State.allAlign
  repeat' (first | (simp (contextual := true) (maxDischargeDepth := 99) only [*, grpPause_ok, putGrp_ok, grpAlign_ok, rateCodes_ok, lanesState_ok, ok_ite, ok_foldl]; done) | split | (refine ok_foldl _ _ (fun t x ht => ?_) ?_) | dsimp only)

theorem laneReplace_ok (q : List Instr) (s : State) (g : Nat) (k : Nat) (h : Ok q s) :
    Ok q (State.laneReplace s g k).1 := by
  unfold State.laneReplace
  repeat' (first | (simp (contextual := true) (maxDischargeDepth := 99) only [*, set1_ok, trimDrop_ok, putGrp_ok, wr_ok, swapStart_ok, ok_ite, ok_ite_fst]; done) | split | dsimp only)

theorem laneFail_ok (q : List Instr) (s : State) (g : Nat) (k : Nat) (n : Nat) (h : Ok q s) :
    Ok q (State.laneFail s g k n) := by
  unfold State.laneFail
  simp (contextual := true) (maxDischargeDepth := 99) [*, addSat_ok, bucket_ok, laneReplace_ok, laneShow_ok, ok_ite, ok_foldl]

theorem swapAm_ok (q : List Instr) (s : State) (g : Nat) (h : Ok q s) :
    Ok q (State.swapAm s g) := by
  unfold State.swapAm
  repeat' (first | (simp (contextual := true) (maxDischargeDepth := 99) only [*, putGrp_ok, wr_ok, setSpare_ok, swapStart_ok, trimNext_ok, incSat_ok, searchStart_ok, ok_ite]; done) | split | dsimp only)

/-! ### Machine/Link.lean -/

theorem frameBegin_ok (q : List Instr) (s : State) (f : FrameOut) (idle : List Nat) (h : Ok q s) :
    Ok q (State.frameBegin s f idle) := by
  unfold State.frameBegin
  repeat' (first | (simp (contextual := true) (maxDischargeDepth := 99) only [*, putGrp_ok, ok_mk, okParts_of, ok_ite, ok_foldl]; done) | split | (refine ok_foldl _ _ (fun t x ht => ?_) ?_) | dsimp only)

theorem execFrameTransmitStart_ok (q : List Instr) (free : Bool) (idle : List Nat) (s : State) (h : Ok q s) :
    OkOut q (execFrameTransmitStart free idle s) := by
  unfold execFrameTransmitStart
  repeat' (first | (simp (contextual := true) (maxDischargeDepth := 99) only [*, pmcEvent_ok, putSlot_ok, frameBegin_ok, ok_mk, okParts_of, ok_ite, okOut_ite, okOut_done]; done) | split | (refine okOut_done ?_) | dsimp only)

theorem execAmIdleTimer_ok (q : List Instr) (g : Fin 4) (s : State) (h : Ok q s) :
    OkOut q (execAmIdleTimer g s) := by
  unfold execAmIdleTimer
  simp (contextual := true) (maxDischargeDepth := 99) only [*, putGrp_ok, ok_ite, okOut_ite, okOut_done]

theorem execSpareSwapAm_ok (q : List Instr) (g : Fin 4) (s : State) (h : Ok q s) :
    OkOut q (execSpareSwapAm g s) := by
  unfold execSpareSwapAm
  simp (contextual := true) (maxDischargeDepth := 99) only [*, swapAm_ok, ok_ite, okOut_ite, okOut_done]

theorem backEvent_ok (q : List Instr) (s : State) (g : Nat) (h : Ok q s) :
    Ok q (State.backEvent s g) := by
  unfold State.backEvent
  simp (contextual := true) (maxDischargeDepth := 99) only [*, bucket_ok, laneShow_ok, grpRecover_ok, ok_ite]

theorem backDiscard_ok (q : List Instr) (s : State) (g : Nat) (h : Ok q s) :
    Ok q (State.backDiscard s g) := by
  unfold State.backDiscard
  simp (contextual := true) (maxDischargeDepth := 99) only [*, backEvent_ok, incSat_ok, set1_ok]

theorem rxAm_ok (q : List Instr) (s : State) (g : Nat) (h : Ok q s) :
    Ok q (State.rxAm s g) := by
  unfold State.rxAm
  split <;> simp (contextual := true) (maxDischargeDepth := 99) only [*, set1_ok, wr_ok, ok_mk, okParts_of, ok_ite, okParts_grp, okParts_svy]

theorem backMessage_ok (q : List Instr) (s : State) (g : Nat) (mtype : Nat) (b : BackBlock) (f : List Byte → State → State) (h : Ok q s) (hf : ∀ m t, Ok q t → Ok q (f m t)) :
    Ok q (State.backMessage s g mtype b f) := by
  unfold State.backMessage
  split <;> simp (contextual := true) (maxDischargeDepth := 99) only [*, backDiscard_ok, rxAm_ok, backEvent_ok, incSat_ok, ok_ite]

theorem takeExtend_ok (q : List Instr) (s : State) (leaf : Nat) (slot : Nat) (h : Ok q s) :
    Ok q (State.takeExtend s leaf slot) := by
  unfold State.takeExtend
  simp (contextual := true) (maxDischargeDepth := 99) only [*, wr_ok, ok_ite]

theorem plateReject_ok (q : List Instr) (s : State) (r : SlotRec) (groups : List Nat) (grp : Nat) (mask : Nat) (result : Nat) (h : Ok q s) :
    Ok q (State.plateReject s r groups grp mask result) := by
  unfold State.plateReject
  simp (contextual := true) (maxDischargeDepth := 99) only [*, incSat_ok, set1_ok, wr_ok, takeExtend_ok, lacHandRes_ok, ok_ite]

theorem slotSettle_ok (q : List Instr) (s : State) (r : SlotRec) (result : Nat) (h : Ok q s) :
    Ok q (State.slotSettle s r result) := by
  unfold State.slotSettle
  simp (contextual := true) (maxDischargeDepth := 99) only [*, putSlot_ok, plateReject_ok, ok_ite]

theorem slotResult_ok (q : List Instr) (s : State) (g : Nat) (leaf : Nat) (slot : Nat) (result : Nat) (mask : Option Nat) (h : Ok q s) :
    Ok q (State.slotResult s g leaf slot result mask) := by
  unfold State.slotResult
  repeat' (first | (simp (contextual := true) (maxDischargeDepth := 99) only [*, putSlot_ok, slotSettle_ok, ok_mk, okParts_of, ok_ite]; done) | split | dsimp only)

theorem execStatus_ok (q : List Instr) (g : Fin 4) (b : BackBlock) (s : State) (h : Ok q s) :
    OkOut q (execStatus g b s) := by
  unfold execStatus
  repeat' (first | (simp (contextual := true) (maxDischargeDepth := 99) only [*, backMessage_ok, slotResult_ok, laneFail_ok, ok_ite, okOut_ite, ok_foldl, okOut_done]; done) | split | (refine backMessage_ok _ _ _ _ _ _ (by assumption) (fun m t ht => ?_)) | (refine ok_foldl _ _ (fun t x ht => ?_) ?_) | (refine okOut_done ?_) | dsimp only)

theorem execStatusLost_ok (q : List Instr) (s : State) (h : Ok q s) :
    OkOut q (execStatusLost s) := by
  unfold execStatusLost
  repeat' (first | (simp (contextual := true) (maxDischargeDepth := 99) only [*, slotSettle_ok, set1_ok, putSlot_ok, plateReject_ok, ok_ite, okOut_ite, okOut_done]; done) | split | (refine okOut_done ?_) | dsimp only)

theorem execTemp_ok (q : List Instr) (g : Fin 4) (b : BackBlock) (s : State) (h : Ok q s) :
    OkOut q (execTemp g b s) := by
  unfold execTemp
  repeat' (first | (simp (contextual := true) (maxDischargeDepth := 99) only [*, backMessage_ok, tempReport_ok, okOut_done]; done) | split | (refine backMessage_ok _ _ _ _ _ _ (by assumption) (fun m t ht => ?_)) | (refine okOut_done ?_) | dsimp only)

theorem execTempSilent_ok (q : List Instr) (s : State) (h : Ok q s) :
    OkOut q (execTempSilent s) := by
  unfold execTempSilent
  simp (contextual := true) (maxDischargeDepth := 99) only [*, set1_ok, slowShow_ok, earlyEnd_ok, ok_mk, okParts_of, okOut_done]

theorem execMargin_ok (q : List Instr) (g : Fin 4) (b : BackBlock) (s : State) (h : Ok q s) :
    OkOut q (execMargin g b s) := by
  unfold execMargin
  repeat' (first | (simp (contextual := true) (maxDischargeDepth := 99) only [*, backMessage_ok, wr_ok, trialJudge_ok, ok_ite, okOut_ite, okOut_done]; done) | split | (refine backMessage_ok _ _ _ _ _ _ (by assumption) (fun m t ht => ?_)) | (refine okOut_done ?_) | dsimp only)

theorem execHello_ok (q : List Instr) (g : Fin 4) (b : BackBlock) (s : State) (h : Ok q s) :
    OkOut q (execHello g b s) := by
  unfold execHello
  repeat' (first | (simp (contextual := true) (maxDischargeDepth := 99) only [*, backMessage_ok, putGrp_ok, wr_ok, setGrpState_ok, grpAlign_ok, set1_ok, lanesState_ok, ok_ite, okOut_ite, okOut_done]; done) | split | (refine backMessage_ok _ _ _ _ _ _ (by assumption) (fun m t ht => ?_)) | (refine okOut_done ?_) | dsimp only)

theorem execRate_ok (q : List Instr) (g : Fin 4) (b : BackBlock) (s : State) (h : Ok q s) :
    OkOut q (execRate g b s) := by
  unfold execRate
  simp (contextual := true) (maxDischargeDepth := 99) [*, backMessage_ok, putGrp_ok, wr_ok, linkRate_ok, grpActive_ok, runTrigger_ok, ok_mk, okParts_of, ok_ite, okOut_ite, ok_foldl, okOut_done]

theorem execLaneEvent_ok (q : List Instr) (g : Fin 4) (b : BackBlock) (s : State) (h : Ok q s) :
    OkOut q (execLaneEvent g b s) := by
  unfold execLaneEvent
  refine okOut_done (backMessage_ok _ _ _ _ _ _ h (fun m t ht => ?_))
  extract_lets k lost n trial t1 t2 w covered r
  have h1 : Ok q t1 := ok_ite _ _ _ (clr_ok _ _ _ ht) ht
  have h2 : Ok q t2 := laneFail_ok _ _ _ _ _ h1
  have h3 : Ok q r.1 := laneReplace_ok _ _ _ _ h2
  clear_value r t2 t1 trial
  split
  · exact ht
  · split
    · split
      · exact trialLost_ok _ _ _ _ h2
      · exact h2
    · split
      · exact h2
      · exact ok_ite _ _ _ h3 (grpRecover_ok _ _ _ h3)

theorem execBlkAlignTimeout_ok (q : List Instr) (g : Fin 4) (s : State) (h : Ok q s) :
    OkOut q (execBlkAlignTimeout g s) := by
  unfold execBlkAlignTimeout
  repeat' (first | (simp (contextual := true) (maxDischargeDepth := 99) only [*, grpPause_ok, setGrpState_ok, putGrp_ok, wr_ok, allAlign_ok, set1_ok, ok_mk, okParts_of, ok_ite, okOut_ite, okOut_done]; done) | split | (refine okOut_done ?_) | dsimp only)

theorem execBlkBackchannelSilent_ok (q : List Instr) (g : Fin 4) (s : State) (h : Ok q s) :
    OkOut q (execBlkBackchannelSilent g s) := by
  unfold execBlkBackchannelSilent
  simp (contextual := true) (maxDischargeDepth := 99) only [*, clr_ok, putGrp_ok, grpRecover_ok, ok_ite, okOut_ite, okOut_done]

theorem execBlkBackchannelLock_ok (q : List Instr) (g : Fin 4) (s : State) (h : Ok q s) :
    OkOut q (execBlkBackchannelLock g s) := by
  unfold execBlkBackchannelLock
  simp (contextual := true) (maxDischargeDepth := 99) only [*, set1_ok, putGrp_ok, wr_ok, grpAlign_ok, ok_ite, okOut_ite, okOut_done]

theorem execBlkRateSwitch_ok (q : List Instr) (s : State) (h : Ok q s) :
    OkOut q (execBlkRateSwitch s) := by
  unfold execBlkRateSwitch
  repeat' (first | (simp (contextual := true) (maxDischargeDepth := 99) [*, allAlign_ok, putGrp_ok, ok_ite, okOut_ite, ok_foldl, okOut_done]; done) | split | (refine ok_foldl _ _ (fun t x ht => ?_) ?_) | (refine okOut_done ?_) | dsimp only)

theorem execBlkStepUpStart_ok (q : List Instr) (s : State) (h : Ok q s) :
    OkOut q (execBlkStepUpStart s) := by
  unfold execBlkStepUpStart
  repeat' (first | (simp (contextual := true) (maxDischargeDepth := 99) only [*, runTrigger_ok, grpPause_ok, setGrpState_ok, putGrp_ok, ok_mk, okParts_of, ok_ite, okOut_ite, ok_foldl, okOut_done]; done) | split | (refine ok_foldl _ _ (fun t x ht => ?_) ?_) | (refine okOut_done ?_) | dsimp only)

theorem grpListen_ok (q : List Instr) (s : State) (g : Nat) (h : Ok q s) :
    Ok q (State.grpListen s g) := by
  unfold State.grpListen
  simp (contextual := true) (maxDischargeDepth := 99) only [*, rateCodes_ok, wr_ok, lanesState_ok, setGrpState_ok, putGrp_ok, ok_ite]

theorem blkEnable_ok (q : List Instr) (s : State) (h : Ok q s) :
    Ok q (State.blkEnable s) := by
  unfold State.blkEnable
  repeat' (first | (simp (contextual := true) (maxDischargeDepth := 99) only [*, set1_ok, grpListen_ok, ok_ite, ok_foldl]; done) | split | (refine ok_foldl _ _ (fun t x ht => ?_) ?_) | dsimp only)

theorem execBlkEnable_ok (q : List Instr) (m : Master) (s : State) (h : Ok q s) :
    OkOut q (execBlkEnable m s) := by
  unfold execBlkEnable
  repeat' (first | (simp (contextual := true) (maxDischargeDepth := 99) only [*, gated_ok, blkEnable_ok, okOut_done]; done) | split | (refine gated_ok _ _ _ _ _ (by assumption) (fun t ht => ?_)) | (refine okOut_done ?_) | dsimp only)

theorem grpDisable_ok (q : List Instr) (s : State) (g : Nat) (h : Ok q s) :
    Ok q (State.grpDisable s g) := by
  unfold State.grpDisable
  repeat' (first | (simp (contextual := true) (maxDischargeDepth := 99) only [*, trimAbandon_ok, putGrp_ok, setSpare_ok, wr_ok, lanesState_ok, setGrpState_ok, clr_ok, ok_ite, ok_foldl]; done) | split | (refine ok_foldl _ _ (fun t x ht => ?_) ?_) | dsimp only)

theorem blkDisable_ok (q : List Instr) (s : State) (h : Ok q s) :
    Ok q (State.blkDisable s) := by
  unfold State.blkDisable
  repeat' (first | (simp (contextual := true) (maxDischargeDepth := 99) only [*, clr_ok, grpDisable_ok, ok_mk, okParts_of, ok_foldl]; done) | split | (refine ok_foldl _ _ (fun t x ht => ?_) ?_) | dsimp only)

theorem execBlkDisable_ok (q : List Instr) (m : Master) (s : State) (h : Ok q s) :
    OkOut q (execBlkDisable m s) := by
  unfold execBlkDisable
  repeat' (first | (simp (contextual := true) (maxDischargeDepth := 99) only [*, gated_ok, blkDisable_ok, okOut_done]; done) | split | (refine gated_ok _ _ _ _ _ (by assumption) (fun t ht => ?_)) | (refine okOut_done ?_) | dsimp only)

theorem blkStepUp_ok (q : List Instr) (s : State) (h : Ok q s) :
    Ok q (State.blkStepUp s) := by
  unfold State.blkStepUp
  simp (contextual := true) (maxDischargeDepth := 99) only [*, ok_mk, okParts_of]

theorem execBlkStepUp_ok (q : List Instr) (m : Master) (s : State) (h : Ok q s) :
    OkOut q (execBlkStepUp m s) := by
  unfold execBlkStepUp
  repeat' (first | (simp (contextual := true) (maxDischargeDepth := 99) only [*, gated_ok, blkStepUp_ok, okOut_done]; done) | split | (refine gated_ok _ _ _ _ _ (by assumption) (fun t ht => ?_)) | (refine okOut_done ?_) | dsimp only)

theorem blkRetrain_ok (q : List Instr) (s : State) (h : Ok q s) :
    Ok q (State.blkRetrain s) := by
  unfold State.blkRetrain
  repeat' (first | (simp (contextual := true) (maxDischargeDepth := 99) only [*, grpRecover_ok, ok_ite, ok_foldl]; done) | split | (refine ok_foldl _ _ (fun t x ht => ?_) ?_) | dsimp only)

theorem execBlkRetrain_ok (q : List Instr) (m : Master) (s : State) (h : Ok q s) :
    OkOut q (execBlkRetrain m s) := by
  unfold execBlkRetrain
  repeat' (first | (simp (contextual := true) (maxDischargeDepth := 99) only [*, gated_ok, blkRetrain_ok, okOut_done]; done) | split | (refine gated_ok _ _ _ _ _ (by assumption) (fun t ht => ?_)) | (refine okOut_done ?_) | dsimp only)

theorem execBlkDrainComplete_ok (q : List Instr) (g : Fin 4) (s : State) (h : Ok q s) :
    OkOut q (execBlkDrainComplete g s) := by
  unfold execBlkDrainComplete
  simp (contextual := true) (maxDischargeDepth := 99) [*, setGrpState_ok, grpListen_ok, set1_ok, clr_ok, ok_ite, okOut_ite, ok_foldl, okOut_done]

/-! ### Machine/BootOps.lean -/

theorem encStart_ok (q : List Instr) (s : State) (h : Ok q s) :
    Ok q (State.encStart s) := by
  unfold State.encStart
  repeat' (first | (simp (contextual := true) (maxDischargeDepth := 99) only [*, set1_ok, wr_ok, ok_whenD]; done) | split | (refine ok_whenD _ _ (fun t ht => ?_) ?_) | dsimp only)

theorem leaveBoot_ok (q : List Instr) (s : State) (h : Ok q s) :
    Ok q (State.leaveBoot s) := by
  unfold State.leaveBoot
  simp (contextual := true) (maxDischargeDepth := 99) only [*, encStart_ok, ok_ite]

theorem setMode_ok (q : List Instr) (s : State) (mode : Nat) (h : Ok q s) :
    Ok q (State.setMode s mode) := by
  unfold State.setMode
  simp (contextual := true) (maxDischargeDepth := 99) only [*, leaveBoot_ok, aclLog_ok, wr_ok, ok_ite]

theorem flushed_ok (q : List Instr) (s : State) (h : Ok q s) :
    Ok q (State.flushed s) := by
  unfold State.flushed
  simp (contextual := true) (maxDischargeDepth := 99) only [*, wr_ok, ok_mk, okParts_of]

theorem aclFlush_ok (q : List Instr) (s : State) (h : Ok q s) :
    Ok q (State.aclFlush s) := by
  unfold State.aclFlush
  simp (contextual := true) (maxDischargeDepth := 99) only [*, flushed_ok, copyAll_ok, ok_mk, okParts_of, ok_ite]

theorem attemptPut_ok (q : List Instr) (s : State) (last : Nat) (fails : List (Nat × Nat)) (h : Ok q s) :
    Ok q (State.attemptPut s last fails) := by
  unfold State.attemptPut
  simp (contextual := true) (maxDischargeDepth := 99) only [*, mramWrite_ok, ok_mk, okParts_of, ok_ite]

theorem attemptAdd_ok (q : List Instr) (s : State) (reason : Nat) (h : Ok q s) :
    Ok q (State.attemptAdd s reason) := by
  unfold State.attemptAdd
  simp (contextual := true) (maxDischargeDepth := 99) only [*, attemptPut_ok]

theorem attemptShow_ok (q : List Instr) (s : State) (h : Ok q s) :
    Ok q (State.attemptShow s) := by
  unfold State.attemptShow
  repeat' (first | (simp (contextual := true) (maxDischargeDepth := 99) only [*, wr_ok]; done) | split | dsimp only)

theorem straps_ok (q : List Instr) (s : State) (role : Bool) (flash : Bool) (testN : Bool) (h : Ok q s) :
    Ok q (State.straps s role flash testN) := by
  unfold State.straps
  simp (contextual := true) (maxDischargeDepth := 99) only [*, wrBit_ok]

theorem liveStraps_ok (q : List Instr) (s : State) (role : Bool) (flash : Bool) (testN : Bool) (h : Ok q s) :
    Ok q (State.liveStraps s role flash testN) := by
  unfold State.liveStraps
  simp (contextual := true) (maxDischargeDepth := 99) only [*, wrBit_ok, ok_mk, okParts_of]

theorem domainReset_ok (q : List Instr) (s : State) (mode : Nat) (cause : Nat) (h : Ok q s) :
    Ok q (State.domainReset s mode cause) := by
  unfold State.domainReset
  extract_lets r test c1 c2 c3 c4 c5 t0 t1 t2 t3 t4 t5
  have h0 := (okParts_of q s).2 h
  have h1 : Ok q t0 :=
    (ok_mk ..).2 ⟨h0.queue, rfl, rfl, rfl, h0.host, rfl, h0.flash, h0.mram, rfl, rfl, rfl, rfl, rfl, rfl, rfl, h0.hostMark,
      rfl, rfl, rfl, rfl⟩
  clear_value t0
  have h2 : Ok q t1 := wr_ok _ _ _ _ (wr_ok _ _ _ _ h1)
  clear_value t1
  have h3 : Ok q t2 := wrBit_ok _ _ _ _ h2
  clear_value t2
  have h4 : Ok q t3 := straps_ok _ _ _ _ _ h3
  clear_value t3
  have h5 : Ok q t4 := wr_ok _ _ _ _ h4
  clear_value t4
  have h6 : Ok q t5 := wr_ok _ _ _ _ (wr_ok _ _ _ _ h5)
  clear_value t5
  exact attemptShow_ok _ _ (wr_ok _ _ _ _ h6)

theorem catReset_ok (q : List Instr) (s : State) (h : Ok q s) :
    Ok q (State.catReset s) := by
  unfold State.catReset
  repeat' (first | (simp (contextual := true) (maxDischargeDepth := 99) only [*, setReg_ok, ok_foldl]; done) | split | (refine ok_foldl _ _ (fun t x ht => ?_) ?_) | dsimp only)

theorem leavesDrop_ok (q : List Instr) (s : State) (h : Ok q s) :
    Ok q (State.leavesDrop s) := by
  unfold State.leavesDrop
  simp (contextual := true) (maxDischargeDepth := 99) only [*, folShow_ok, wr_ok, ok_mk, okParts_of]

theorem storageMark_ok (q : List Instr) (s : State) (h : Ok q s) :
    Ok q (State.storageMark s) := by
  unfold State.storageMark
  simp (contextual := true) (maxDischargeDepth := 99) only [*, attemptShow_ok, wr_ok, set1_ok]

theorem storageEnter_ok (q : List Instr) (s : State) (h : Ok q s) :
    Ok q (State.storageEnter s) := by
  unfold State.storageEnter
  extract_lets t u v
  have h1 : Ok q t :=
    catReset_ok _ _ (axDisable_ok _ _ (blkDisable_ok _ _ (storageLink_ok _ _ (leavesDrop_ok _ _ h))))
  clear_value t
  have h2 : Ok q u := ok_foldl _ _ (fun t a ht => axEna_ok _ _ _ _ ht) h1
  clear_value u
  exact storageMark_ok _ _ ((ok_mk ..).2 (clr_ok q u F.TWN_STATUS.AUTH h2))

theorem afterFail_ok (q : List Instr) (s : State) (reason : Nat) (cause : Nat) (h : Ok q s) :
    Ok q (State.afterFail s reason cause) := by
  unfold State.afterFail
  repeat' (first | (simp (contextual := true) (maxDischargeDepth := 99) only [*, setMode_ok, domainReset_ok, aclFlush_ok, storageMark_ok, storageEnter_ok, ok_ite]; done) | split | dsimp only)

theorem failRecord_ok (q : List Instr) (s : State) (reason : Nat) (refused : Nat) (h : Ok q s) :
    Ok q (State.failRecord s reason refused) := by
  unfold State.failRecord
  simp (contextual := true) (maxDischargeDepth := 99) only [*, aclLog_ok]

theorem failStart_ok (q : List Instr) (s : State) (reason : Nat) (refused : Nat) (h : Ok q s) :
    Ok q (State.failStart s reason refused) := by
  unfold State.failStart
  simp (contextual := true) (maxDischargeDepth := 99) only [*, afterFail_ok, attemptAdd_ok, failRecord_ok, ok_ite]

/-! ### Machine/Catalogue.lean -/

theorem bindSlot_ok (q : List Instr) (s : State) (slot : Nat) (h : Ok q s) :
    Ok q (State.bindSlot s slot) := by
  unfold State.bindSlot
  simp (contextual := true) (maxDischargeDepth := 99) only [*, wr_ok, ok_mk, okParts_of, ok_ite]

theorem catWord_ok (q : List Instr) (s : State) (off : Nat) (v : Nat) (h : Ok q s) :
    ∀ t, State.catWord s off v = some t → Ok q t := by
  unfold State.catWord
  repeat' (first | (simp (contextual := true) (maxDischargeDepth := 99) [*, setReg_ok, ok_ite, ok_ite_snd]; done) | split | dsimp only)

theorem catWords_ok (q : List Instr) (s : State) (off : Nat) (x2 : List Nat) (h : Ok q s) :
    Ok q (State.catWords s off x2).1 := by
  induction x2 generalizing s off with
  | nil => exact h
  | cons w ws ih =>
    unfold State.catWords
    split
    · rename_i t ht
      exact ih _ _ (catWord_ok _ _ _ _ h _ ht)
    · exact h

theorem catTables_ok (q : List Instr) (s : State) (x1 : Nat) (x2 : List Byte) (h : Ok q s) :
    Ok q (State.catTables s x1 x2).1 := by
  induction x1 generalizing s x2 with
  | zero => exact h
  | succ n ih =>
    unfold State.catTables
    split
    · exact h
    · dsimp only
      split
      · exact h
      · split
        · exact catWords_ok _ _ _ _ h
        · exact ih _ _ (catWords_ok _ _ _ _ h)

theorem catApply_ok (q : List Instr) (s : State) (slot : Nat) (h : Ok q s) :
    Ok q (State.catApply s slot).1 := by
  unfold State.catApply
  simp (contextual := true) (maxDischargeDepth := 99) [*, setReg_ok, wr_ok, catTables_ok, ok_ite, ok_ite_fst, ok_foldl]

theorem catCheck_ok (q : List Instr) (s : State) (slot : Nat) (h : Ok q s) :
    Ok q (State.catCheck s slot).1 := by
  unfold State.catCheck
  repeat' (first | (simp (contextual := true) (maxDischargeDepth := 99) only [*, catApply_ok, ok_ite, ok_ite_fst]; done) | split | dsimp only)

theorem docentCopy_ok (q : List Instr) (s : State) (h : Ok q s) :
    Ok q (State.docentCopy s) := by
  unfold State.docentCopy
  simp (contextual := true) (maxDischargeDepth := 99) only [*, sramWrite_ok]

end Sys2Proof.Machine
end

