-- ==== Sys2Proof/Laws/SoundImage.lean ====
section
/-! SUPPORT. Soundness is kept by the raster engines, the tracker, the pair, the Ikisal link and the cores' memories: one lemma for each operation and each meaning. -/
namespace Sys2Proof.Machine

/-! ### Machine/Raster.lean -/

theorem talRingWrite_ok (q : List Instr) (s : State) (t : Int) (h : Ok q s) :
    Ok q (State.talRingWrite s t) := by
  unfold State.talRingWrite
  simp (contextual := true) (maxDischargeDepth := 99) only [*, freeBytes_ok, unitWrite_ok]

theorem pecRingWrite_ok (q : List Instr) (s : State) (q1 : Int) (row : List (Nat × Bool)) (h : Ok q s) :
    Ok q (State.pecRingWrite s q1 row) := by
  unfold State.pecRingWrite
  simp (contextual := true) (maxDischargeDepth := 99) only [*, unitWrite_ok, ok_ite]

theorem execDensityRowDone_ok (q : List Instr) (p0 : Fin 2) (poison : List Int) (flatten : List Int) (s : State) (h : Ok q s) :
    OkOut q (execDensityRowDone p0 poison flatten s) := by
  unfold execDensityRowDone
  split
  · exact okOut_done h
  · split
    · exact okOut_done h
    · extract_lets t c1 c2 c3 c4 c5 c6 c7 c8 c9 t1 t5 t2 t3 t4
      have h1 : Ok q t1 := setRas_ok _ _ _ _ h
      have h5 : Ok q t5 := talRingWrite_ok _ _ _ h1
      have h2 : Ok q t2 := ok_whenD _ _ (fun t ht => set1_ok _ _ _ ht) h5
      have h3 : Ok q t3 := ok_whenD _ _ (fun t ht => set1_ok _ _ _ ht) h2
      have h4 : Ok q t4 := ok_whenD _ _ (fun t ht => addSat_ok _ _ _ _ (set1_ok _ _ _ ht)) h3
      clear_value t4
      split
      · exact okOut_done h
      · exact okOut_done (wrInt_ok _ _ _ _ (addSat_ok _ _ _ _ h4))

theorem execPecRowDone_ok (q : List Instr) (p0 : Fin 2) (poison : List (Int × Int)) (s : State) (h : Ok q s) :
    OkOut q (execPecRowDone p0 poison s) := by
  unfold execPecRowDone
  split
  · exact okOut_done h
  · split
    · exact okOut_done h
    · extract_lets r reach rows t lost row bad u v w x
      have h1 : Ok q t := by
        simp only [t]
        split
        · exact unitRead_ok _ _ _ _ _ _ h
        · exact h
      clear_value t
      have h2 : Ok q u := pecRingWrite_ok _ _ _ _ (setRas_ok _ _ _ _ h1)
      have h3 : Ok q v := ok_whenD _ _ (fun t ht => set1_ok _ _ _ ht) h2
      have h4 : Ok q w := ok_whenD _ _ (fun t ht => set1_ok _ _ _ ht) h3
      have h5 : Ok q x := ok_whenD _ _ (fun t ht => addSat_ok _ _ _ _ ht) h4
      exact okOut_ite _ _ _ (okOut_done h) (okOut_done (wrInt_ok _ _ _ _ h5))

theorem advance_ok (q : List Instr) (s : State) (p1 : Nat) (e : Nat) (t : Int) (h : Ok q s) :
    Ok q (State.advance s p1 e t) := by
  unfold State.advance
  simp (contextual := true) (maxDischargeDepth := 99) only [*, setRas_ok, okParts_grp, okParts_svy]

theorem skipLate_ok (q : List Instr) (s : State) (p1 : Nat) (e : Nat) (l : Leaf) (h4 : LeafHdr) (t : Int) (h : Ok q s) :
    Ok q (State.skipLate s p1 e l h4 t) := by
  unfold State.skipLate
  repeat' (first | (simp (contextual := true) (maxDischargeDepth := 99) only [*, advance_ok, tileFail_ok, ok_foldl]; done) | split | (refine ok_foldl _ _ (fun t x ht => ?_) ?_) | dsimp only)

theorem execTileStart_ok (q : List Instr) (e : Fin 64) (s : State) (h : Ok q s) :
    OkOut q (execTileStart e s) := by
  unfold execTileStart
  repeat' (first | (simp (contextual := true) (maxDischargeDepth := 99) only [*, rasShow_ok, skipLate_ok, advance_ok, tileFail_ok, putTile_ok, leadShow_ok, wrInt_ok, engineShow_ok, ok_mk, okParts_of, ok_ite, okOut_ite, okOut_done]; done) | split | (refine okOut_done ?_) | dsimp only)

theorem tileAbandon_ok (q : List Instr) (s : State) (p1 : Nat) (k : TileSt) (causes : List Nat) (h : Ok q s) :
    Ok q (State.tileAbandon s p1 k causes) := by
  unfold State.tileAbandon
  split <;> simp (contextual := true) (maxDischargeDepth := 99) only [*, tileFail_ok]

theorem execEdgePhaseEnd_ok (q : List Instr) (e : Fin 64) (poison : Bool) (ecc : Bool) (corrected : Nat) (s : State) (h : Ok q s) :
    OkOut q (execEdgePhaseEnd e poison ecc corrected s) := by
  unfold execEdgePhaseEnd
  split <;> simp (contextual := true) (maxDischargeDepth := 99) only [*, rasCorrected_ok, rasShow_ok, engineShow_ok, tileAbandon_ok, putTile_ok, ok_ite, okOut_ite, okOut_done]

theorem doseFaults_ok (q : List Instr) (s : State) (t : Int) (e : Nat) (fs : List (DoseFault × Nat × Nat)) (h : Ok q s) :
    Ok q (State.doseFaults s t e fs) := by
  unfold State.doseFaults
  repeat' (first | (simp (contextual := true) (maxDischargeDepth := 99) only [*, dosLast_ok, set1_ok, ok_foldl, ok_whenD]; done) | split | (refine ok_foldl _ _ (fun t x ht => ?_) ?_) | (refine ok_whenD _ _ (fun t ht => ?_) ?_) | dsimp only)

theorem mapsRead_ok (q : List Instr) (s : State) (h1 : LeafHdr) (t : Int) (h : Ok q s) :
    Ok q (State.mapsRead s h1 t).1 := by
  unfold State.mapsRead
  repeat' (first | (simp (contextual := true) (maxDischargeDepth := 99) only [*, unitRead_ok, ok_foldl]; done) | split | (refine ok_foldl _ _ (fun t x ht => ?_) ?_) | dsimp only)

theorem execSweepEnd_ok (q : List Instr) (e : Fin 64) (f : SweepFaults) (s : State) (h : Ok q s) :
    OkOut q (execSweepEnd e f s) := by
  unfold execSweepEnd
  repeat' (first | (simp (contextual := true) (maxDischargeDepth := 99) only [*, dosCorrected_ok, rasCorrected_ok, mapsRead_ok, doseFaults_ok, rasShow_ok, engineShow_ok, tileAbandon_ok, pmcEvent_ok, incWrap_ok, wrInt_ok, putTile_ok, ok_mk, okParts_of, ok_ite, okOut_ite, okOut_done]; done) | split | (refine okOut_done ?_) | dsimp only)

theorem execTallyVerdict_ok (q : List Instr) (e : Fin 64) (s : State) (h : Ok q s) :
    OkOut q (execTallyVerdict e s) := by
  unfold execTallyVerdict
  repeat' (first | (simp (contextual := true) (maxDischargeDepth := 99) only [*, wrInt_ok, wr_ok, rasShow_ok, tileFail_ok, digestJudge_ok, sendDigest_ok, putTile_ok, ok_ite, okOut_ite, okOut_done]; done) | split | (refine okOut_done ?_) | dsimp only)

theorem execTalInjectWrite_ok (q : List Instr) (m : Master) (v : BitVec 32) (s : State) (h : Ok q s) :
    OkOut q (execTalInjectWrite m v s) := by
  unfold execTalInjectWrite
  repeat' (first | (simp (contextual := true) (maxDischargeDepth := 99) only [*, gated_ok, wr_ok, okOut_done]; done) | split | (refine gated_ok _ _ _ _ _ (by assumption) (fun t ht => ?_)) | (refine okOut_done ?_) | dsimp only)

theorem scatter_ok (q : List Instr) (s : State) (b : Bank) (k : TileSt) (base : Nat) (h : Ok q s) :
    Ok q (State.scatter s b k base) := by
  unfold State.scatter
  simp (contextual := true) (maxDischargeDepth := 99) only [*, ok_mk, okParts_of, ok_foldl]

theorem execTileScatterEnd_ok (q : List Instr) (e : Fin 64) (ecc : Option (Nat × Nat)) (corrected : Nat) (s : State) (h : Ok q s) :
    OkOut q (execTileScatterEnd e ecc corrected s) := by
  unfold execTileScatterEnd
  repeat' (first | (simp (contextual := true) (maxDischargeDepth := 99) only [*, dosCorrected_ok, rasShow_ok, tileAbandon_ok, dosLast_ok, scatter_ok, putTile_ok, okOut_done]; done) | split | (refine okOut_done ?_) | dsimp only)

/-! ### Machine/Tracker.lean -/

theorem readLate_ok (q : List Instr) (s : State) (leaf : Nat) (slot : Int) (h : Ok q s) :
    Ok q (State.readLate s leaf slot) := by
  unfold State.readLate
  split <;> simp (contextual := true) (maxDischargeDepth := 99) only [*, putSlot_ok, rsvAdvance_ok, blankSlot_ok, set1_ok, ok_ite]

theorem strobeAt_ok (q : List Instr) (s : State) (l : Leaf) (h2 : LeafHdr) (n : Int) (h : Ok q s) :
    Ok q (State.strobeAt s l h2 n) := by
  unfold State.strobeAt
  repeat' (first | (simp (contextual := true) (maxDischargeDepth := 99) [*, windowClose_ok, pmcEvent_ok, putSlot_ok, wr_ok, wrInt_ok, readLate_ok, ok_mk, okParts_of, ok_ite, ok_whenD]; done) | split | (refine ok_whenD _ _ (fun t ht => ?_) ?_) | dsimp only)

theorem leafStart_ok (q : List Instr) (s : State) (l : Leaf) (h2 : LeafHdr) (h : Ok q s) :
    Ok q (State.leafStart s l h2) := by
  unfold State.leafStart
  simp (contextual := true) (maxDischargeDepth := 99) only [*, strobeAt_ok, wr_ok, leafEvent_ok, folShow_ok, ok_mk, okParts_of]

theorem execDueMarkCrossing_ok (q : List Instr) (second : Bool) (s : State) (h : Ok q s) :
    OkOut q (execDueMarkCrossing second s) := by
  unfold execDueMarkCrossing
  split <;> simp (contextual := true) (maxDischargeDepth := 99) only [*, strobeAt_ok, leafStart_ok, ok_mk, okParts_of, ok_ite, okOut_ite, okOut_done]

theorem execSlotStrobe_ok (q : List Instr) (s : State) (h : Ok q s) :
    OkOut q (execSlotStrobe s) := by
  unfold execSlotStrobe
  split <;> simp (contextual := true) (maxDischargeDepth := 99) only [*, strobeAt_ok, ok_ite, okOut_ite, okOut_done]

theorem markShow_ok (q : List Instr) (s : State) (mark : Nat) (run : Nat) (link : Nat) (h : Ok q s) :
    Ok q (State.markShow s mark run link) := by
  unfold State.markShow
  split <;> simp (contextual := true) (maxDischargeDepth := 99) only [*, wr_ok, wrBit_ok, incSat_ok, set1_ok, slowShow_ok, ok_mk, okParts_of]

theorem rowRelease_ok (q : List Instr) (s : State) (p1 : Nat) (t : Int) (h : Ok q s) :
    Ok q (State.rowRelease s p1 t) := by
  unfold State.rowRelease
  repeat' (first | (simp (contextual := true) (maxDischargeDepth := 99) only [*, advance_ok, tileFail_ok, suspectTile_ok, incSat_ok, set1_ok, digestJudge_ok, ok_ite, ok_foldl]; done) | split | (refine ok_foldl _ _ (fun t x ht => ?_) ?_) | dsimp only)

theorem tilePrune_ok (q : List Instr) (s : State) (p1 : Nat) (sl : Nat) (h : Ok q s) :
    Ok q (State.tilePrune s p1 sl) := by
  unfold State.tilePrune
  simp (contextual := true) (maxDischargeDepth := 99) only [*, setRas_ok]

theorem decide__ok (q : List Instr) (s : State) (p1 : Nat) (h2 : LeafHdr) (sl : Nat) (mark : Nat) (sealDiffers : Bool) (h : Ok q s) :
    Ok q (State.decide_ s p1 h2 sl mark sealDiffers) := by
  unfold State.decide_
  extract_lets t1
  have h1 : Ok q t1 :=
    ok_ite _ _ _ (rasShow_ok _ _ (ok_foldl _ _ (fun t x ht => engineShow_ok _ _ _ ht) (rowRelease_ok _ _ _ _ h))) h
  split
  · exact h1
  · extract_lets c1 c2 c3 c4 r t2 c5 t3 c6 t4 t5 t6
    have h2 : Ok q t2 := tilePrune_ok _ _ _ _ (putSlot_ok _ _ _ h1)
    have h3 : Ok q t3 := (ok_mk ..).2 h2
    clear_value t3 c6
    have h4 : Ok q t4 :=
      ok_ite _ _ _ (incSat_ok _ _ _ h3) (ok_ite _ _ _ (blankSlot_ok _ _ _ _ _ _ h3) (ok_ite _ _ _
        (blankSlot_ok _ _ _ _ _ _ h3) (ok_ite _ _ _ (blankSlot_ok _ _ _ _ _ _ h3) h3)))
    clear_value t4
    have h5 : Ok q t6 := wr_ok _ _ _ _ (rsvAdvance_ok _ _ h4)
    clear_value t6
    exact ok_ite _ _ _ (guardDemand_ok _ _ _ h5) h5

theorem execSlotReleaseDecision_ok (q : List Instr) (sealDiffers : Bool) (s : State) (h : Ok q s) :
    OkOut q (execSlotReleaseDecision sealDiffers s) := by
  unfold execSlotReleaseDecision
  split <;> simp (contextual := true) (maxDischargeDepth := 99) only [*, permit_ok, predict_ok, earlyEnd_ok, decide__ok, markShow_ok, ok_ite, okOut_ite, okOut_done]

theorem rowRemap_ok (q : List Instr) (s : State) (row : Nat) (h : Ok q s) :
    Ok q (State.rowRemap s row) := by
  unfold State.rowRemap
  simp (contextual := true) (maxDischargeDepth := 99) only [*, wr_ok, set1_ok, ok_mk, okParts_of, ok_ite]

theorem rowEvent_ok (q : List Instr) (s : State) (k : Nat) (row : Nat) (h : Ok q s) :
    Ok q (State.rowEvent s k row) := by
  unfold State.rowEvent
  simp (contextual := true) (maxDischargeDepth := 99) only [*, bucket_ok, rowRemap_ok, ok_ite]

theorem execFrameReadDone_ok (q : List Instr) (corrected : List Nat) (bad : List (Nat × Nat)) (wings : List Nat) (s : State) (h : Ok q s) :
    OkOut q (execFrameReadDone corrected bad wings s) := by
  unfold execFrameReadDone
  split
  · exact okOut_done h
  · extract_lets mine t1 t2 t3
    have h1 : Ok q t1 := ok_foldl _ _ (fun t x ht => rowEvent_ok _ _ _ _ (incSat_ok _ _ _ ht)) h
    clear_value t1
    have h2 : Ok q t2 := ok_foldl _ _ (fun t x ht => rowEvent_ok _ _ _ _ (incSat_ok _ _ _ ht)) h1
    clear_value t2
    have h3 : Ok q t3 := addSat_ok _ _ _ _ h2
    split
    · exact okOut_done h
    · extract_lets c1 c2 c3 c4 c5 t4 t5 t6 c6 t7 c7 c8 c9 t8
      have h4 : Ok q t4 := ok_whenD _ _ (fun t ht => set1_ok _ _ _ ht) h3
      have h5 : Ok q t5 := ok_whenD _ _ (fun t ht => set1_ok _ _ _ ht) h4
      clear_value t5
      split
      · exact okOut_done (rsvAdvance_ok _ _ (blankSlot_ok _ _ _ _ _ _ (putSlot_ok _ _ _ h5)))
      · have h7 : Ok q t7 := putSlot_ok _ _ _ h5
        clear_value t7
        exact okOut_done (rsvAdvance_ok _ _ ((ok_mk ..).2 h7))

theorem execReserveRowRemapCopy_ok (q : List Instr) (s : State) (h : Ok q s) :
    OkOut q (execReserveRowRemapCopy s) := by
  unfold execReserveRowRemapCopy
  repeat' (first | (simp (contextual := true) (maxDischargeDepth := 99) only [*, wr_ok, incSat_ok, aclLog_ok, ok_mk, okParts_of, ok_ite, okOut_ite, okOut_done, okParts_poison_insert]; done) | split | (refine okOut_done ?_) | dsimp only)

theorem encFault_ok (q : List Instr) (s : State) (n : Nat) (kind : Nat) (h : Ok q s) :
    Ok q (State.encFault s n kind) := by
  unfold State.encFault
  simp (contextual := true) (maxDischargeDepth := 99) only [*, set1_ok, clr_ok, earlyEnd_ok, ok_ite]

theorem stageMoved_ok (q : List Instr) (s : State) (h : Ok q s) :
    Ok q (State.stageMoved s) := by
  unfold State.stageMoved
  split <;> simp (contextual := true) (maxDischargeDepth := 99) only [*, wr_ok, earlyEnd_ok, ok_mk, okParts_of, ok_ite]

theorem execEncoderTransition_ok (q : List Instr) (n : Fin 2) (edge : EncoderEdge) (fast : Bool) (velocity : Int) (accel : Int) (s : State) (h : Ok q s) :
    OkOut q (execEncoderTransition n edge fast velocity accel s) := by
  unfold execEncoderTransition
  split <;> simp (contextual := true) (maxDischargeDepth := 99) only [*, bucketReport_ok, incSat_ok, wrInt_ok, stageMoved_ok, encFault_ok, ok_mk, okParts_of, ok_ite, okOut_ite, okOut_done, okParts_grp, okParts_svy]

theorem execEncoderLos_ok (q : List Instr) (n : Fin 2) (s : State) (h : Ok q s) :
    OkOut q (execEncoderLos n s) := by
  unfold execEncoderLos
  simp (contextual := true) (maxDischargeDepth := 99) only [*, encFault_ok, okOut_done]

theorem execEncoderIndex_ok (q : List Instr) (n : Fin 2) (s : State) (h : Ok q s) :
    OkOut q (execEncoderIndex n s) := by
  unfold execEncoderIndex
  simp (contextual := true) (maxDischargeDepth := 99) only [*, set1_ok, wr_ok, encFault_ok, ok_ite, okOut_ite, okOut_done]

theorem mirrorDiverge_ok (q : List Instr) (s : State) (h : Ok q s) :
    Ok q (State.mirrorDiverge s) := by
  unfold State.mirrorDiverge
  split <;> simp (contextual := true) (maxDischargeDepth := 99) only [*, diverge_ok, ok_mk, okParts_of, ok_ite]

theorem execLeafArm_ok (q : List Instr) (twin : Bool) (s : State) (h : Ok q s) :
    OkOut q (execLeafArm twin s) := by
  unfold execLeafArm
  repeat' (first | (simp (contextual := true) (maxDischargeDepth := 99) only [*, pairTest_ok, wr_ok, mirrorDiverge_ok, folShow_ok, permit_ok, ok_mk, okParts_of, ok_ite, okOut_ite, okOut_done]; done) | split | (refine okOut_done ?_) | dsimp only)

theorem execTrackerPause_ok (q : List Instr) (s : State) (h : Ok q s) :
    OkOut q (execTrackerPause s) := by
  unfold execTrackerPause
  simp (contextual := true) (maxDischargeDepth := 99) only [*, wr_ok, ok_ite, okOut_ite, okOut_done]

theorem execPauseLimitExpiry_ok (q : List Instr) (s : State) (h : Ok q s) :
    OkOut q (execPauseLimitExpiry s) := by
  unfold execPauseLimitExpiry
  simp (contextual := true) (maxDischargeDepth := 99) only [*, earlyEnd_ok, ok_ite, okOut_ite, okOut_done]

theorem groupStart_ok (q : List Instr) (s : State) (h : Ok q s) :
    Ok q (State.groupStart s) := by
  unfold State.groupStart
  simp (contextual := true) (maxDischargeDepth := 99) only [*, aclLog_ok, set1_ok, ok_mk, okParts_of, ok_ite]

theorem lbStamp_ok (q : List Instr) (s : State) (h : Ok q s) :
    Ok q (State.lbStamp s) := by
  unfold State.lbStamp
  simp (contextual := true) (maxDischargeDepth := 99) only [*, aclLog_ok, freeBytes_ok, ok_ite]

theorem execLeafBoundary_ok (q : List Instr) (twin : Bool) (s : State) (h : Ok q s) :
    OkOut q (execLeafBoundary twin s) := by
  unfold execLeafBoundary
  split <;> simp (contextual := true) (maxDischargeDepth := 99) only [*, leafGone_ok, lbStamp_ok, windowClose_ok, clr_ok, groupStart_ok, pairTest_ok, handover_ok, ok_ite, okOut_ite, okOut_done]

theorem armedAbort_ok (q : List Instr) (s : State) (h : Ok q s) :
    Ok q (State.armedAbort s) := by
  unfold State.armedAbort
  repeat' (first | (simp (contextual := true) (maxDischargeDepth := 99) only [*, leafGone_ok, endAlone_ok, endLeafAt_ok, ok_ite]; done) | split | dsimp only)

theorem execSltAbort_ok (q : List Instr) (m : Master) (s : State) (h : Ok q s) :
    OkOut q (execSltAbort m s) := by
  unfold execSltAbort
  repeat' (first | (simp (contextual := true) (maxDischargeDepth := 99) only [*, gated_ok, armedAbort_ok, earlyEnd_ok, ok_ite, okOut_ite, okOut_done]; done) | split | (refine gated_ok _ _ _ _ _ (by assumption) (fun t ht => ?_)) | (refine okOut_done ?_) | dsimp only)

theorem execBlankReqAssert_ok (q : List Instr) (s : State) (h : Ok q s) :
    OkOut q (execBlankReqAssert s) := by
  unfold execBlankReqAssert
  simp (contextual := true) (maxDischargeDepth := 99) only [*, windowLow_ok, set1_ok, okOut_done]

theorem execBlankReqRelease_ok (q : List Instr) (s : State) (h : Ok q s) :
    OkOut q (execBlankReqRelease s) := by
  unfold execBlankReqRelease
  simp (contextual := true) (maxDischargeDepth := 99) only [*, clr_ok, okOut_done]

theorem execBlankLasting_ok (q : List Instr) (s : State) (h : Ok q s) :
    OkOut q (execBlankLasting s) := by
  unfold execBlankLasting
  simp (contextual := true) (maxDischargeDepth := 99) only [*, set1_ok, faultEvent_ok, aclLog_ok, ok_ite, okOut_ite, okOut_done]

theorem execBlankAllNLowObserved_ok (q : List Instr) (low : Bool) (s : State) (h : Ok q s) :
    OkOut q (execBlankAllNLowObserved low s) := by
  unfold execBlankAllNLowObserved
  simp (contextual := true) (maxDischargeDepth := 99) only [*, windowLow_ok, ok_mk, okParts_of, okOut_done]

theorem execStageSlowHoldExpiry_ok (q : List Instr) (s : State) (h : Ok q s) :
    OkOut q (execStageSlowHoldExpiry s) := by
  unfold execStageSlowHoldExpiry
  simp (contextual := true) (maxDischargeDepth := 99) only [*, slowShow_ok, ok_mk, okParts_of, okOut_done]

/-! ### Machine/IklWire.lean -/

theorem iklDelayTime_ok (q : List Instr) (s : State) (h : Ok q s) :
    Ok q (State.iklDelayTime s) := by
  unfold State.iklDelayTime
  split <;> simp (contextual := true) (maxDischargeDepth := 99) only [*, ok_mk, okParts_of, ok_ite]

theorem iklTick_ok (q : List Instr) (s : State) (h : Ok q s) :
    Ok q (State.iklTick s) := by
  unfold State.iklTick
  simp (contextual := true) (maxDischargeDepth := 99) only [*, iklDelayTime_ok, ok_mk, okParts_of, ok_ite]

/-! ### Machine/PairOps.lean -/

theorem iklDiscard_ok (q : List Instr) (s : State) (h : Ok q s) :
    Ok q (State.iklDiscard s) := by
  unfold State.iklDiscard
  simp (contextual := true) (maxDischargeDepth := 99) only [*, incSat_ok, set1_ok]

theorem setIkl_ok (q : List Instr) (s : State) (st : Nat) (h : Ok q s) :
    Ok q (State.setIkl s st) := by
  unfold State.setIkl
  simp (contextual := true) (maxDischargeDepth := 99) only [*, wrBit_ok, wr_ok, ok_mk, okParts_of, ok_ite]

theorem iklLanes_ok (q : List Instr) (s : State) (st : Nat) (h : Ok q s) :
    Ok q (State.iklLanes s st) := by
  unfold State.iklLanes
  repeat' (first | (simp (contextual := true) (maxDischargeDepth := 99) only [*, wr_ok, ok_foldl]; done) | split | (refine ok_foldl _ _ (fun t x ht => ?_) ?_) | dsimp only)

theorem iklRecover_ok (q : List Instr) (s : State) (h : Ok q s) :
    Ok q (State.iklRecover s) := by
  unfold State.iklRecover
  simp (contextual := true) (maxDischargeDepth := 99) only [*, iklLanes_ok, incSat_ok, set1_ok, setIkl_ok]

theorem iklBlockError_ok (q : List Instr) (s : State) (lane : Nat) (h : Ok q s) :
    Ok q (State.iklBlockError s lane) := by
  unfold State.iklBlockError
  simp (contextual := true) (maxDischargeDepth := 99) only [*, bucket_ok, incSat_ok, laneShow_ok, iklRecover_ok, ok_ite, okParts_serr, okParts_serr_filter, okParts_kerr, okParts_ksram]

theorem iklMessage_ok (q : List Instr) (s : State) (mtype : Nat) (body : Nat) (b : IklBlock) (f : List Byte → State → State) (h : Ok q s) (hf : ∀ m t, Ok q t → Ok q (f m t)) :
    Ok q (State.iklMessage s mtype body b f) := by
  unfold State.iklMessage
  split
  · refine ok_ite _ _ _ (hf _ _ h) ?_
    simp (contextual := true) (maxDischargeDepth := 99) only [*, iklDiscard_ok]
  · exact h
  · exact iklBlockError_ok _ _ _ h

theorem soloWait_ok (q : List Instr) (s : State) (h : Ok q s) :
    Ok q (State.soloWait s) := by
  unfold State.soloWait
  simp (contextual := true) (maxDischargeDepth := 99) only [*, wr_ok, ok_mk, okParts_of]

theorem assertAuth_ok (q : List Instr) (s : State) (st : Nat) (h : Ok q s) :
    Ok q (State.assertAuth s st) := by
  unfold State.assertAuth
  simp (contextual := true) (maxDischargeDepth := 99) only [*, twinEvent_ok, wr_ok, set1_ok]

theorem takeShow_ok (q : List Instr) (s : State) (leaf : Nat) (first : Nat) (n : Nat) (h : Ok q s) :
    Ok q (State.takeShow s leaf first n) := by
  unfold State.takeShow
  simp (contextual := true) (maxDischargeDepth := 99) only [*, wr_ok]

theorem takeToEnd_ok (q : List Instr) (s : State) (leaf : Nat) (last : Nat) (next : Nat) (h : Ok q s) :
    Ok q (State.takeToEnd s leaf last next) := by
  unfold State.takeToEnd
  simp (contextual := true) (maxDischargeDepth := 99) only [*, takeShow_ok, lacClose_ok, ok_ite]

theorem takeEnded_ok (q : List Instr) (s : State) (h : Ok q s) :
    Ok q (State.takeEnded s) := by
  unfold State.takeEnded
  split <;> simp (contextual := true) (maxDischargeDepth := 99) only [*, takeToEnd_ok, ok_mk, okParts_of, ok_ite]

theorem takeRecords_ok (q : List Instr) (s : State) (h : Ok q s) :
    Ok q (State.takeRecords s) := by
  unfold State.takeRecords
  repeat' (first | (simp (contextual := true) (maxDischargeDepth := 99) [*, takeEnded_ok, takeToEnd_ok, endLeafAt_ok, lacHandRes_ok, takeShow_ok, ok_ite, ok_foldl]; done) | split | (refine ok_foldl _ _ (fun t x ht => ?_) ?_) | dsimp only)

theorem takeOver_ok (q : List Instr) (s : State) (h : Ok q s) :
    Ok q (State.takeOver s) := by
  unfold State.takeOver
  simp (contextual := true) (maxDischargeDepth := 99) only [*, set1_ok, assertAuth_ok, twinRecord_ok, source_ok, incSat_ok, takeRecords_ok, tb1Switch_ok, ok_mk, okParts_of]

theorem takeHandover_ok (q : List Instr) (s : State) (h : Ok q s) :
    Ok q (State.takeHandover s) := by
  unfold State.takeHandover
  simp (contextual := true) (maxDischargeDepth := 99) only [*, tb1Switch_ok, assertAuth_ok, ok_mk, okParts_of]

theorem authSettle_ok (q : List Instr) (s : State) (h : Ok q s) :
    Ok q (State.authSettle s) := by
  unfold State.authSettle
  simp (contextual := true) (maxDischargeDepth := 99) only [*, assertAuth_ok, takeOver_ok, takeHandover_ok, tb1Switch_ok, ok_ite]

theorem leavePaired_ok (q : List Instr) (s : State) (h : Ok q s) :
    Ok q (State.leavePaired s) := by
  unfold State.leavePaired
  simp (contextual := true) (maxDischargeDepth := 99) only [*, wr_ok, authSettle_ok, soloWait_ok, ok_ite]

theorem demandLapse_ok (q : List Instr) (s : State) (h : Ok q s) :
    Ok q (State.demandLapse s) := by
  unfold State.demandLapse
  simp (contextual := true) (maxDischargeDepth := 99) only [*, leavePaired_ok, ok_mk, okParts_of, ok_ite]

theorem takeDemand_ok (q : List Instr) (s : State) (h : Ok q s) :
    Ok q (State.takeDemand s) := by
  unfold State.takeDemand
  simp (contextual := true) (maxDischargeDepth := 99) only [*, authSettle_ok, ok_mk, okParts_of]

theorem yieldAsk_ok (q : List Instr) (s : State) (h : Ok q s) :
    Ok q (State.yieldAsk s) := by
  unfold State.yieldAsk
  simp (contextual := true) (maxDischargeDepth := 99) only [*, set1_ok, ok_ite]

/-! ### Machine/Ikisal.lean -/

theorem iklLock_ok (q : List Instr) (s : State) (lock : Nat) (h : Ok q s) :
    Ok q (State.iklLock s lock) := by
  unfold State.iklLock
  repeat' (first | (simp (contextual := true) (maxDischargeDepth := 99) only [*, wr_ok, ok_foldl]; done) | split | (refine ok_foldl _ _ (fun t x ht => ?_) ?_) | dsimp only)

theorem iklStep_ok (q : List Instr) (s : State) (h : Ok q s) :
    Ok q (State.iklStep s) := by
  unfold State.iklStep
  split <;> simp (contextual := true) (maxDischargeDepth := 99) only [*, iklLanes_ok, setIkl_ok, ok_mk, okParts_of]

theorem iklAlign_ok (q : List Instr) (s : State) (rate : Nat) (src : Nat) (h : Ok q s) :
    Ok q (State.iklAlign s rate src) := by
  unfold State.iklAlign
  simp (contextual := true) (maxDischargeDepth := 99) only [*, setIkl_ok, wr_ok, ok_mk, okParts_of]

theorem iklListen_ok (q : List Instr) (s : State) (h : Ok q s) :
    Ok q (State.iklListen s) := by
  unfold State.iklListen
  simp (contextual := true) (maxDischargeDepth := 99) only [*, iklLanes_ok, setIkl_ok, iklLock_ok, wr_ok]

theorem iklActive_ok (q : List Instr) (s : State) (h : Ok q s) :
    Ok q (State.iklActive s) := by
  unfold State.iklActive
  simp (contextual := true) (maxDischargeDepth := 99) only [*, iklLanes_ok, setIkl_ok, iklStep_ok, ok_mk, okParts_of, ok_ite]

theorem iklEnable_ok (q : List Instr) (s : State) (h : Ok q s) :
    Ok q (State.iklEnable s) := by
  unfold State.iklEnable
  simp (contextual := true) (maxDischargeDepth := 99) only [*, set1_ok, iklListen_ok, ok_ite]

theorem execIklEnable_ok (q : List Instr) (m : Master) (s : State) (h : Ok q s) :
    OkOut q (execIklEnable m s) := by
  unfold execIklEnable
  repeat' (first | (simp (contextual := true) (maxDischargeDepth := 99) only [*, gated_ok, iklEnable_ok, okOut_done]; done) | split | (refine gated_ok _ _ _ _ _ (by assumption) (fun t ht => ?_)) | (refine okOut_done ?_) | dsimp only)

theorem iklDisable_ok (q : List Instr) (s : State) (h : Ok q s) :
    Ok q (State.iklDisable s) := by
  unfold State.iklDisable
  simp (contextual := true) (maxDischargeDepth := 99) only [*, clr_ok, iklLanes_ok, setIkl_ok, iklLock_ok, ok_mk, okParts_of, ok_ite]

theorem execIklDisable_ok (q : List Instr) (m : Master) (s : State) (h : Ok q s) :
    OkOut q (execIklDisable m s) := by
  unfold execIklDisable
  repeat' (first | (simp (contextual := true) (maxDischargeDepth := 99) only [*, gated_ok, iklDisable_ok, okOut_done]; done) | split | (refine gated_ok _ _ _ _ _ (by assumption) (fun t ht => ?_)) | (refine okOut_done ?_) | dsimp only)

theorem iklStepUp_ok (q : List Instr) (s : State) (h : Ok q s) :
    Ok q (State.iklStepUp s) := by
  unfold State.iklStepUp
  simp (contextual := true) (maxDischargeDepth := 99) only [*, iklStep_ok, ok_ite]

theorem execIklStepUp_ok (q : List Instr) (m : Master) (s : State) (h : Ok q s) :
    OkOut q (execIklStepUp m s) := by
  unfold execIklStepUp
  repeat' (first | (simp (contextual := true) (maxDischargeDepth := 99) only [*, gated_ok, iklStepUp_ok, okOut_done]; done) | split | (refine gated_ok _ _ _ _ _ (by assumption) (fun t ht => ?_)) | (refine okOut_done ?_) | dsimp only)

theorem iklRetrain_ok (q : List Instr) (s : State) (h : Ok q s) :
    Ok q (State.iklRetrain s) := by
  unfold State.iklRetrain
  simp (contextual := true) (maxDischargeDepth := 99) only [*, iklRecover_ok, ok_ite]

theorem execIklRetrain_ok (q : List Instr) (m : Master) (s : State) (h : Ok q s) :
    OkOut q (execIklRetrain m s) := by
  unfold execIklRetrain
  repeat' (first | (simp (contextual := true) (maxDischargeDepth := 99) only [*, gated_ok, iklRetrain_ok, okOut_done]; done) | split | (refine gated_ok _ _ _ _ _ (by assumption) (fun t ht => ?_)) | (refine okOut_done ?_) | dsimp only)

theorem execIklTs_ok (q : List Instr) (lock : BitVec 8) (am : BitVec 8) (ts : List (List Byte)) (s : State) (h : Ok q s) :
    OkOut q (execIklTs lock am ts s) := by
  unfold execIklTs
  extract_lets st t al b named sw c1 u c2 v w
  have h1 : Ok q t := iklLock_ok _ _ _ h
  have h2 : Ok q u := ok_ite _ _ _ ((ok_mk ..).2 h1) h1
  clear_value u
  have h3 : Ok q v := (ok_mk ..).2 h2
  have h4 : Ok q w := iklStep_ok _ _ h2
  clear_value v w named sw
  refine okOut_ite _ _ _ (okOut_done h) (okOut_ite _ _ _ (okOut_done (ok_ite _ _ _ (iklAlign_ok _ _ _ _ h2) h2))
    (okOut_ite _ _ _ (okOut_done (ok_ite _ _ _ (iklActive_ok _ _ h3) h3)) (okOut_ite _ _ _
    (okOut_ite _ _ _ (okOut_done (iklRecover_ok _ _ h2)) (okOut_ite _ _ _ (okOut_done ?_) (okOut_done h2)))
    (okOut_ite _ _ _ (okOut_done (ok_ite _ _ _ ?_ h2)) (okOut_done (ok_ite _ _ _ (iklAlign_ok _ _ _ _ h2) h2))))))
  · exact (ok_mk ..).2 h4
  · exact (ok_mk ..).2 h2

theorem execIklAlignTimeout_ok (q : List Instr) (s : State) (h : Ok q s) :
    OkOut q (execIklAlignTimeout s) := by
  unfold execIklAlignTimeout
  repeat' (first | (simp (contextual := true) (maxDischargeDepth := 99) only [*, wr_ok, iklAlign_ok, iklListen_ok, set1_ok, ok_ite, okOut_ite, okOut_done]; done) | split | (refine okOut_done ?_) | dsimp only)

theorem execIklLinkSilent_ok (q : List Instr) (lock : BitVec 8) (s : State) (h : Ok q s) :
    OkOut q (execIklLinkSilent lock s) := by
  unfold execIklLinkSilent
  simp (contextual := true) (maxDischargeDepth := 99) only [*, iklLock_ok, iklRecover_ok, ok_ite, okOut_ite, okOut_done]

theorem execIklRateSwitch_ok (q : List Instr) (s : State) (h : Ok q s) :
    OkOut q (execIklRateSwitch s) := by
  unfold execIklRateSwitch
  repeat' (first | (simp (contextual := true) (maxDischargeDepth := 99) only [*, iklAlign_ok, ok_mk, okParts_of, ok_ite, okOut_ite, okOut_done]; done) | split | (refine okOut_done ?_) | dsimp only)

theorem execIklDrainComplete_ok (q : List Instr) (s : State) (h : Ok q s) :
    OkOut q (execIklDrainComplete s) := by
  unfold execIklDrainComplete
  simp (contextual := true) (maxDischargeDepth := 99) only [*, iklEnable_ok, clr_ok, setIkl_ok, ok_ite, okOut_ite, okOut_done]

theorem execIkisalHeadDiscard_ok (q : List Instr) (s : State) (h : Ok q s) :
    OkOut q (execIkisalHeadDiscard s) := by
  unfold execIkisalHeadDiscard
  simp (contextual := true) (maxDischargeDepth := 99) only [*, iklDiscard_ok, okOut_done]

/-! ### Machine/CoreMem.lean -/

theorem coreRefuse_ok (q : List Instr) (s : State) (m : Master) (space : Nat) (a : Nat) (kind : Nat) (h : Ok q s) :
    Ok q (State.coreRefuse s m space a kind) := by
  unfold State.coreRefuse
  repeat' (first | (simp (contextual := true) (maxDischargeDepth := 99) only [*, fwRefuse_ok, trap_ok, busError_ok, ok_ite, okParts_serr, okParts_serr_filter, okParts_kerr, okParts_ksram]; done) | split | dsimp only)

theorem sramPatternPut_ok (q : List Instr) (s : State) (space : Nat) (word : Nat) (e : Nat) (h : Ok q s) :
    Ok q (State.sramPatternPut s space word e) := by
  unfold State.sramPatternPut
  simp (contextual := true) (maxDischargeDepth := 99) only [*, ok_mk, okParts_of, ok_ite, okParts_serr, okParts_serr_filter, okParts_kerr, okParts_ksram]

theorem sramBytesPut_ok (q : List Instr) (s : State) (space : Nat) (a : Nat) (bs : List Byte) (h : Ok q s) :
    Ok q (State.sramBytesPut s space a bs) := by
  unfold State.sramBytesPut
  simp (contextual := true) (maxDischargeDepth := 99) only [*, ok_mk, okParts_of, ok_ite, okParts_sram, okParts_host, okParts_buf, okParts_mram, okParts_ring, okParts_ddr_all, okParts_mark, okParts_serr, okParts_serr_filter, okParts_kerr, okParts_ksram]

theorem sramUpset_ok (q : List Instr) (s : State) (space : Nat) (word : Nat) (flips : Nat) (h : Ok q s) :
    Ok q (State.sramUpset s space word flips) := by
  unfold State.sramUpset
  simp (contextual := true) (maxDischargeDepth := 99) only [*, sramBytesPut_ok, sramPatternPut_ok, ok_ite, okParts_serr, okParts_serr_filter, okParts_kerr, okParts_ksram]

theorem sramLoad_ok (q : List Instr) (s : State) (space : Nat) (a : Nat) (h : Ok q s) :
    Ok q (State.sramLoad s space a).1 := by
  unfold State.sramLoad
  repeat' (first | (simp (contextual := true) (maxDischargeDepth := 99) only [*, incSat_ok, set1_ok, ok_mk, okParts_of, ok_ite, ok_ite_fst, ok_whenD, okParts_serr, okParts_serr_filter, okParts_kerr, okParts_ksram]; done) | split | (refine ok_whenD _ _ (fun t ht => ?_) ?_) | dsimp only)

theorem sramStore_ok (q : List Instr) (s : State) (space : Nat) (a : Nat) (bs : List Byte) (h : Ok q s) :
    Ok q (State.sramStore s space a bs) := by
  unfold State.sramStore
  simp (contextual := true) (maxDischargeDepth := 99) [*, sramPatternPut_ok, sramWrite_ok, sramBytesPut_ok, ok_ite, ok_whenD, okParts_serr, okParts_serr_filter, okParts_kerr, okParts_ksram]

theorem sramAccess_ok (q : List Instr) (s : State) (r : MemArrival) (h : Ok q s) :
    Ok q (State.sramAccess s r) := by
  unfold State.sramAccess
  repeat' (first | (simp (contextual := true) (maxDischargeDepth := 99) only [*, busError_ok, pmcEvent_ok, sramUpset_ok, sramStore_ok, sramLoad_ok, ok_ite, okParts_serr, okParts_serr_filter, okParts_kerr, okParts_ksram]; done) | split | dsimp only)

theorem memPresent_ok (q : List Instr) (s : State) (r : MemArrival) (h : Ok q s) :
    Ok q (State.memPresent s r) := by
  unfold State.memPresent
  repeat' (first | (simp (contextual := true) (maxDischargeDepth := 99) only [*, busError_ok, coreRefuse_ok, sramAccess_ok, portPut_ok, ok_ite]; done) | split | dsimp only)

end Sys2Proof.Machine
end

