-- ==== Sys2Proof/Laws/SoundMemory.lean ====
section
/-! SUPPORT. Soundness is kept by the memory controllers, start-up, the counters, the check-value units, DMA and the Folio decoder: one lemma for each operation and each meaning. -/
namespace Sys2Proof.Machine

/-! ### Machine/MemOps.lean -/

theorem trainLane_ok (q : List Instr) (s : State) (c : Nat) (n : Nat) (e : LaneEye) (h : Ok q s) :
    Ok q (State.trainLane s c n e) := by
  unfold State.trainLane
  simp (contextual := true) (maxDischargeDepth := 99) only [*, wrBit_ok, wr_ok]

theorem retrainNotice_ok (q : List Instr) (s : State) (c : Nat) (code : Nat) (h : Ok q s) :
    Ok q (State.retrainNotice s c code) := by
  unfold State.retrainNotice
  repeat' (first | (simp (contextual := true) (maxDischargeDepth := 99) only [*, set1_ok, notice_ok, ok_mk, okParts_of, ok_foldl, ok_whenD]; done) | split | (refine ok_foldl _ _ (fun t x ht => ?_) ?_) | (refine ok_whenD _ _ (fun t ht => ?_) ?_) | dsimp only)

theorem chanService_ok (q : List Instr) (s : State) (c : Nat) (h : Ok q s) :
    Ok q (State.chanService s c) := by
  unfold State.chanService
  simp (contextual := true) (maxDischargeDepth := 99) only [*, wr_ok, maskPut_ok]

/-! ### Machine/Memory.lean -/

theorem execMemRequestAdmitted_ok (q : List Instr) (c : Fin 6) (arrivals : List MemArrival) (s : State) (h : Ok q s) :
    OkOut q (execMemRequestAdmitted c arrivals s) := by
  unfold execMemRequestAdmitted
  repeat' (first | (simp (contextual := true) (maxDischargeDepth := 99) [*, memPresent_ok, pmcAdmitted_ok, setCh_ok, ok_ite, okOut_ite, ok_foldl, okOut_done]; done) | split | (refine ok_foldl _ _ (fun t x ht => ?_) ?_) | (refine okOut_done ?_) | dsimp only)

theorem memRespond_ok (q : List Instr) (s : State) (c : Nat) (a : Nat) (bytes : List Byte) (mark : Bool) (h : Ok q s) :
    Ok q (State.memRespond s c a bytes mark) := by
  unfold State.memRespond
  simp (contextual := true) (maxDischargeDepth := 99) only [*, setCh_ok]

theorem narrowWrite_ok (q : List Instr) (s : State) (c : Nat) (r : MemReq) (off : Nat) (bytes : List Byte) (block : Option (Fin 2 × Nat)) (h : Ok q s) :
    Ok q (State.narrowWrite s c r off bytes block) := by
  unfold State.narrowWrite
  simp (contextual := true) (maxDischargeDepth := 99) only [*, burstTake_ok, memRespond_ok, ddrWrite_ok, burstFresh_ok, incSat_ok, busError_ok, set1_ok, ok_ite]

theorem execMemRequestServed_ok (q : List Instr) (c : Fin 6) (sub : Fin 2) (flips : List Nat) (block : Option (Fin 2 × Nat)) (s : State) (h : Ok q s) :
    OkOut q (execMemRequestServed c sub flips block s) := by
  unfold execMemRequestServed
  repeat' (first | (simp (contextual := true) (maxDischargeDepth := 99) only [*, memServed_ok, ddrUpset_ok, burstTake_ok, memRespond_ok, busError_ok, ddrWrite_ok, narrowWrite_ok, ok_ite, okOut_ite, okOut_done]; done) | split | (refine okOut_done ?_) | dsimp only)

theorem execMemAgePromotion_ok (q : List Instr) (c : Fin 6) (cls : Fin 5) (s : State) (h : Ok q s) :
    OkOut q (execMemAgePromotion c cls s) := by
  unfold execMemAgePromotion
  repeat' (first | (simp (contextual := true) (maxDischargeDepth := 99) only [*, pmcEvent_ok, incSat_ok, setCh_ok, ok_ite, okOut_ite, okOut_done]; done) | split | (refine okOut_done ?_) | dsimp only)

theorem execUrgentWindowRoll_ok (q : List Instr) (c : Fin 6) (s : State) (h : Ok q s) :
    OkOut q (execUrgentWindowRoll c s) := by
  unfold execUrgentWindowRoll
  simp (contextual := true) (maxDischargeDepth := 99) only [*, setCh_ok, okOut_done]

theorem execFabricTimeout_ok (q : List Instr) (c : Fin 6) (s : State) (h : Ok q s) :
    OkOut q (execFabricTimeout c s) := by
  unfold execFabricTimeout
  split <;> simp (contextual := true) (maxDischargeDepth := 99) only [*, setCh_ok, busError_ok, set1_ok, okOut_done]

theorem execScrubRead_ok (q : List Instr) (bank : Fin 64) (row : Nat) (s : State) (h : Ok q s) :
    OkOut q (execScrubRead bank row s) := by
  unfold execScrubRead
  split
  · exact okOut_done h
  · extract_lets pos t
    have h1 : Ok q t := by
      refine ok_foldl _ _ (fun t c ht => ?_) h
      split
      · exact ht
      · exact portPut_ok _ _ _ _ _ _ _ _ ht
    clear_value t
    split
    · exact okOut_done (wr_ok _ _ _ _ h1)
    · exact okOut_done (incWrap_ok _ _ _ (wr_ok _ _ _ _ h1))

theorem execScrubWriteback_ok (q : List Instr) (s : State) (h : Ok q s) :
    OkOut q (execScrubWriteback s) := by
  unfold execScrubWriteback
  repeat' (first | (simp (contextual := true) (maxDischargeDepth := 99) only [*, portPut_ok, ok_mk, okParts_of, okOut_done]; done) | split | (refine okOut_done ?_) | dsimp only)

theorem execScrubBehind_ok (q : List Instr) (s : State) (h : Ok q s) :
    OkOut q (execScrubBehind s) := by
  unfold execScrubBehind
  simp (contextual := true) (maxDischargeDepth := 99) only [*, set1_ok, ok_ite, okOut_ite, okOut_done]

theorem scrEnable_ok (q : List Instr) (s : State) (h : Ok q s) :
    Ok q (State.scrEnable s) := by
  unfold State.scrEnable
  simp (contextual := true) (maxDischargeDepth := 99) only [*, set1_ok, scrubShow_ok, wr_ok, ok_ite]

theorem execScrEnable_ok (q : List Instr) (m : Master) (s : State) (h : Ok q s) :
    OkOut q (execScrEnable m s) := by
  unfold execScrEnable
  repeat' (first | (simp (contextual := true) (maxDischargeDepth := 99) only [*, gated_ok, scrEnable_ok, okOut_done]; done) | split | (refine gated_ok _ _ _ _ _ (by assumption) (fun t ht => ?_)) | (refine okOut_done ?_) | dsimp only)

theorem scrDisable_ok (q : List Instr) (s : State) (h : Ok q s) :
    Ok q (State.scrDisable s) := by
  unfold State.scrDisable
  simp (contextual := true) (maxDischargeDepth := 99) only [*, clr_ok, wr_ok, ok_ite]

theorem execScrDisable_ok (q : List Instr) (m : Master) (s : State) (h : Ok q s) :
    OkOut q (execScrDisable m s) := by
  unfold execScrDisable
  repeat' (first | (simp (contextual := true) (maxDischargeDepth := 99) only [*, gated_ok, scrDisable_ok, okOut_done]; done) | split | (refine gated_ok _ _ _ _ _ (by assumption) (fun t ht => ?_)) | (refine okOut_done ?_) | dsimp only)

theorem execScrDrainComplete_ok (q : List Instr) (s : State) (h : Ok q s) :
    OkOut q (execScrDrainComplete s) := by
  unfold execScrDrainComplete
  simp (contextual := true) (maxDischargeDepth := 99) only [*, scrubShow_ok, wr_ok, clr_ok, ok_ite, okOut_ite, okOut_done]

theorem execRefreshDebtAccrue_ok (q : List Instr) (c : Fin 6) (s : State) (h : Ok q s) :
    OkOut q (execRefreshDebtAccrue c s) := by
  unfold execRefreshDebtAccrue
  simp (contextual := true) (maxDischargeDepth := 99) only [*, setCh_ok, debtShow_ok, ok_ite, okOut_ite, okOut_done]

theorem biasStep_ok (q : List Instr) (s : State) (c : Nat) (span : Int) (h : Ok q s) :
    Ok q (State.biasStep s c span) := by
  unfold State.biasStep
  repeat' (first | (simp (contextual := true) (maxDischargeDepth := 99) [*, wrBit_ok, set1_ok, incWrap_ok, wr_ok, runCheck_ok, ok_mk, okParts_of, ok_ite, ok_whenD, okParts_grp, okParts_svy]; done) | split | (refine ok_whenD _ _ (fun t ht => ?_) ?_) | dsimp only)

theorem execRefreshIssue_ok (q : List Instr) (c : Fin 6) (sub : Fin 2) (rank : Fin 2) (span : Int) (s : State) (h : Ok q s) :
    OkOut q (execRefreshIssue c sub rank span s) := by
  unfold execRefreshIssue
  repeat' (first | (simp (contextual := true) (maxDischargeDepth := 99) only [*, setCh_ok, biasStep_ok, pmcEvent_ok, debtShow_ok, ok_ite, okOut_ite, okOut_done, okParts_grp, okParts_svy]; done) | split | (refine okOut_done ?_) | dsimp only)

theorem execMr4Poll_ok (q : List Instr) (c : Fin 6) (twice : Bool) (hot : Bool) (s : State) (h : Ok q s) :
    OkOut q (execMr4Poll c twice hot s) := by
  unfold execMr4Poll
  simp (contextual := true) (maxDischargeDepth := 99) only [*, setCh_ok, maskPut_ok, wrBit_ok, guardDemand_ok, set1_ok, ok_ite, okOut_ite, okOut_done]

theorem debtRepay_ok (q : List Instr) (s : State) (c : Nat) (h : Ok q s) :
    Ok q (State.debtRepay s c) := by
  unfold State.debtRepay
  simp (contextual := true) (maxDischargeDepth := 99) [*, takeFree_ok, biasStep_ok, pmcEvent_ok, ok_foldl]

theorem restEnter_ok (q : List Instr) (s : State) (c : Nat) (h : Ok q s) :
    Ok q (State.restEnter s c) := by
  unfold State.restEnter
  simp (contextual := true) (maxDischargeDepth := 99) only [*, setCh_ok, debtRepay_ok, scrubShow_ok, maskPut_ok, wr_ok, debtShow_ok]

theorem restExit_ok (q : List Instr) (s : State) (c : Nat) (h : Ok q s) :
    Ok q (State.restExit s c) := by
  unfold State.restExit
  simp (contextual := true) (maxDischargeDepth := 99) only [*, scrubShow_ok, maskPut_ok, wr_ok]

theorem execSelfRefreshEntry_ok (q : List Instr) (c : Fin 6) (s : State) (h : Ok q s) :
    OkOut q (execSelfRefreshEntry c s) := by
  unfold execSelfRefreshEntry
  simp (contextual := true) (maxDischargeDepth := 99) only [*, restEnter_ok, ok_ite, okOut_ite, okOut_done]

theorem execSelfRefreshExit_ok (q : List Instr) (c : Fin 6) (span : Int) (s : State) (h : Ok q s) :
    OkOut q (execSelfRefreshExit c span s) := by
  unfold execSelfRefreshExit
  split <;> simp (contextual := true) (maxDischargeDepth := 99) only [*, biasStep_ok, restExit_ok, ok_ite, okOut_ite, okOut_done]

theorem execChannelTrainingDone_ok (q : List Instr) (c : Fin 6) (lanes : List LaneEye) (s : State) (h : Ok q s) :
    OkOut q (execChannelTrainingDone c lanes s) := by
  unfold execChannelTrainingDone
  extract_lets m t pass t3 t4
  have h1 : Ok q t := by
    refine ok_foldl _ _ (fun t c ht => ?_) h
    split
    · exact wrBit_ok _ _ _ _ ht
    · exact trainLane_ok _ _ _ _ _ ht
  clear_value t pass
  have h3 : Ok q t3 := set1_ok _ _ _ h1
  clear_value t3
  split
  · exact okOut_done h
  · split
    · exact okOut_done (setCh_ok _ _ _ _ h1)
    · split
      · exact okOut_done (failStart_ok _ _ _ _ (retrainNotice_ok _ _ _ _ (wr_ok _ _ _ _ h3)))
      · refine okOut_done (ok_ite _ _ _ (setCh_ok _ _ _ _ h3) ?_)
        exact failStart_ok _ _ _ _ (wr_ok _ _ _ _ (setCh_ok _ _ _ _ h3))

theorem execChannelZeroFillDone_ok (q : List Instr) (c : Fin 6) (s : State) (h : Ok q s) :
    OkOut q (execChannelZeroFillDone c s) := by
  unfold execChannelZeroFillDone
  refine okOut_ite _ _ _ (okOut_done h) ?_
  extract_lets t joins c1 u v
  have h1 : Ok q t := setCh_ok _ _ _ _ h
  clear_value t joins
  have h2 : Ok q u := by
    refine ok_ite _ _ _ ?_ h1
    exact (ok_mk ..).2 { (okParts_of q t).2 h1 with ddr := rfl, poison := rfl, err := rfl }
  clear_value u
  have h4 : Ok q v := chanService_ok _ _ _ h2
  clear_value v
  refine okOut_done (ok_ite _ _ _ ?_ h4)
  exact scrubShow_ok _ _ (wr_ok _ _ _ _ (set1_ok _ _ _ h4))

theorem memRetrain_ok (q : List Instr) (s : State) (c : Nat) (h : Ok q s) :
    Ok q (State.memRetrain s c) := by
  unfold State.memRetrain
  simp (contextual := true) (maxDischargeDepth := 99) only [*, wr_ok, recoverStart_ok, setCh_ok, ok_ite]

theorem execMemRetrain_ok (q : List Instr) (m : Master) (c : Fin 8) (s : State) (h : Ok q s) :
    OkOut q (execMemRetrain m c s) := by
  unfold execMemRetrain
  repeat' (first | (simp (contextual := true) (maxDischargeDepth := 99) only [*, gated_ok, memRetrain_ok, okOut_done]; done) | split | (refine gated_ok _ _ _ _ _ (by assumption) (fun t ht => ?_)) | (refine okOut_done ?_) | dsimp only)

theorem applied_ok (q : List Instr) (s : State) (c : Nat) (h : Ok q s) :
    Ok q (State.applied s c) := by
  unfold State.applied
  simp (contextual := true) (maxDischargeDepth := 99) only [*, retrainNotice_ok, chanService_ok, setCh_ok, ok_ite]

theorem execMemApply_ok (q : List Instr) (m : Master) (c : Fin 8) (s : State) (h : Ok q s) :
    OkOut q (execMemApply m c s) := by
  unfold execMemApply
  simp (contextual := true) (maxDischargeDepth := 99) [*, gated_ok, wr_ok, set1_ok, applied_ok, setCh_ok, ok_ite, okOut_ite, ok_whenD, okOut_done]

/-! ### Machine/Boot.lean -/

theorem execResetAssert_ok (q : List Instr) (s : State) (h : Ok q s) :
    OkOut q (execResetAssert s) := by
  unfold execResetAssert
  simp (contextual := true) (maxDischargeDepth := 99) only [*, domainReset_ok, ok_mk, okParts_of, okOut_done]

theorem execPowerGoodDelay_ok (q : List Instr) (s : State) (h : Ok q s) :
    OkOut q (execPowerGoodDelay s) := by
  unfold execPowerGoodDelay
  simp (contextual := true) (maxDischargeDepth := 99) only [*, ok_mk, okParts_of, ok_ite, okOut_ite, okOut_done]

theorem execResetRelease_ok (q : List Instr) (role : Bool) (flash : Bool) (testN : Bool) (s : State) (h : Ok q s) :
    OkOut q (execResetRelease role flash testN s) := by
  unfold execResetRelease
  simp (contextual := true) (maxDischargeDepth := 99) only [*, domainReset_ok, liveStraps_ok, ok_mk, okParts_of, ok_ite, okOut_ite, okOut_done]

theorem bootAttempts_ok (q : List Instr) (s : State) (h : Ok q s) :
    Ok q (State.bootAttempts s) := by
  unfold State.bootAttempts
  simp (contextual := true) (maxDischargeDepth := 99) [*, wrBit_ok, wr_ok, mramWrite_ok, attemptShow_ok, aclLog_ok, ok_mk, okParts_of, ok_ite, ok_whenD]

theorem flashSelect_ok (q : List Instr) (s : State) (h : Ok q s) :
    Ok q (State.flashSelect s) := by
  unfold State.flashSelect
  simp (contextual := true) (maxDischargeDepth := 99) only [*, ok_mk, okParts_of]

theorem bootVerify_ok (q : List Instr) (s : State) (h : Ok q s) :
    Ok q (State.bootVerify s) := by
  unfold State.bootVerify
  repeat' (first | (simp (contextual := true) (maxDischargeDepth := 99) only [*, failStart_ok, wr_ok, bindSlot_ok, aclLog_ok, set1_ok, ok_ite]; done) | split | dsimp only)

theorem bootLocked_ok (q : List Instr) (s : State) (slot : Nat) (h : Ok q s) :
    Ok q (State.bootLocked s slot) := by
  unfold State.bootLocked
  extract_lets hd
  have h1 := takeFree_ok q s h
  generalize s.takeFree = x at h1 ⊢
  obtain ⟨k, t⟩ := x
  dsimp only at h1 ⊢
  have h2 := wr_ok q t F.FOL_CAT_ID.ID (fieldAt hd 8 4) h1
  refine iklEnable_ok _ _ (ok_foldl _ _ (fun t g ht => grpListen_ok _ _ _ ht) (set1_ok _ _ _ (ok_foldl _ _
    (fun t c ht => wr_ok _ _ _ _ ht) (set1_ok _ _ _ (set1_ok _ _ _ (wr_ok _ _ _ _ (wr_ok _ _ _ _ (wr_ok _ _ _ _
    (aclLog_ok _ _ _ _ ?_)))))))))
  exact (ok_mk ..).2 h2

theorem bootSettings_ok (q : List Instr) (s : State) (h : Ok q s) :
    Ok q (State.bootSettings s) := by
  unfold State.bootSettings
  have h1 := catCheck_ok q s (s.boot.slotBound.getD 0) h
  dsimp only
  generalize s.catCheck (s.boot.slotBound.getD 0) = x at h1 ⊢
  obtain ⟨t, o⟩ := x
  cases o with
  | none => exact bootLocked_ok _ _ _ h1
  | some off => exact failStart_ok _ _ _ _ h

theorem stepPass_ok (q : List Instr) (s : State) (n : Nat) (h : Ok q s) :
    Ok q (State.stepPass s n) := by
  unfold State.stepPass
  simp (contextual := true) (maxDischargeDepth := 99) only [*, ok_mk, okParts_of, okParts_poison_insert]

theorem execBootStepDone_ok (q : List Instr) (step : Fin 10) (ok : Bool) (s : State) (h : Ok q s) :
    OkOut q (execBootStepDone step ok s) := by
  unfold execBootStepDone
  repeat' (first | (simp (contextual := true) (maxDischargeDepth := 99) only [*, wr_ok, set1_ok, failStart_ok, bootAttempts_ok, flashSelect_ok, bootVerify_ok, bootSettings_ok, stepPass_ok, docentCopy_ok, incWrap_ok, addSat_ok, ok_ite, okOut_ite, okOut_done]; done) | split | (refine okOut_done ?_) | dsimp only)

theorem execBootStepTimeout_ok (q : List Instr) (step : Fin 10) (s : State) (h : Ok q s) :
    OkOut q (execBootStepTimeout step s) := by
  unfold execBootStepTimeout
  repeat' (first | (simp (contextual := true) (maxDischargeDepth := 99) only [*, failStart_ok, ok_ite, okOut_ite, okOut_done]; done) | split | (refine okOut_done ?_) | dsimp only)

theorem execAttemptAgeOut_ok (q : List Instr) (s : State) (h : Ok q s) :
    OkOut q (execAttemptAgeOut s) := by
  unfold execAttemptAgeOut
  split <;> simp (contextual := true) (maxDischargeDepth := 99) only [*, attemptShow_ok, ok_mk, okParts_of, okOut_done]

theorem execPreviewEntry_ok (q : List Instr) (s : State) (h : Ok q s) :
    OkOut q (execPreviewEntry s) := by
  unfold execPreviewEntry
  simp (contextual := true) (maxDischargeDepth := 99) only [*, notice_ok, setMode_ok, soloWait_ok, wr_ok, authSettle_ok, ok_mk, okParts_of, ok_ite, okOut_ite, okOut_done]

theorem granulesFull_ok (q : List Instr) (s : State) (h : Ok q s) :
    Ok q (State.granulesFull s) := by
  unfold State.granulesFull
  extract_lets full req ch buckets t c1 c2
  have h0 : ch.length = 6 := by rw [List.length_map]; exact h.ch
  have h1 : Ok q t := ok_foldl _ _ (fun t k ht => ok_ite _ _ _ (wr_ok _ _ _ _ ht) ht) h
  clear_value t
  exact (ok_mk ..).2 { h1 with ch := h0 }

theorem fullMap_ok (q : List Instr) (s : State) (h : Ok q s) :
    Ok q (State.fullMap s) := by
  unfold State.fullMap
  extract_lets ddr poison err t u
  have h1 : Ok q t := set1_ok _ _ _ (granulesFull_ok _ _ h)
  have h2 : Memory.wf ddr = true := wf_rekey _ _
  have h3 : rising poison = true := rising_insertAll _ _ _ rfl
  have h4 : smWf (fun _ => 0) err = true :=
    wf_refold (β := Nat × Nat) (fun _ => 0) (fun e => s.fullAddr (16 * e.1) / 16) Prod.snd s.ddrErr
  have h5 : Ok q u := wr_ok _ _ _ _ h1
  clear_value u ddr poison err
  exact (ok_mk ..).2 { h5 with
    ddr := smWf_filter _ _ _ h2, poison := rising_filter _ _ h3, err := smWf_filter _ _ _ h4 }

theorem clearIndices_ok (q : List Instr) (s : State) (h : Ok q s) :
    Ok q (State.clearIndices s) := by
  unfold State.clearIndices
  repeat' (first | (simp (contextual := true) (maxDischargeDepth := 99) only [*, wr_ok, ok_foldl]; done) | split | (refine ok_foldl _ _ (fun t x ht => ?_) ?_) | dsimp only)

theorem execRunEntry_ok (q : List Instr) (s : State) (h : Ok q s) :
    OkOut q (execRunEntry s) := by
  unfold execRunEntry
  simp (contextual := true) (maxDischargeDepth := 99) [*, fullMap_ok, notice_ok, restExit_ok, setMode_ok, clearIndices_ok, ok_mk, okParts_of, ok_ite, okOut_ite, ok_foldl, okOut_done]

theorem execBootQuiesce_ok (q : List Instr) (m : Master) (s : State) (h : Ok q s) :
    OkOut q (execBootQuiesce m s) := by
  unfold execBootQuiesce
  repeat' (first | (simp (contextual := true) (maxDischargeDepth := 99) only [*, gated_ok, axDisable_ok, armedAbort_ok, ok_mk, okParts_of, okOut_done]; done) | split | (refine gated_ok _ _ _ _ _ (by assumption) (fun t ht => ?_)) | (refine okOut_done ?_) | dsimp only)

theorem execQuiesceComplete_ok (q : List Instr) (s : State) (h : Ok q s) :
    OkOut q (execQuiesceComplete s) := by
  unfold execQuiesceComplete
  extract_lets busy t
  have h1 : Ok q t := by
    refine ok_foldl _ _ (fun t c ht => ?_) (aclFlush_ok _ _ h)
    exact ok_ite _ _ _ (restEnter_ok _ _ _ ht) ht
  clear_value t
  exact okOut_ite _ _ _ (okOut_done h) (okOut_done ((ok_mk ..).2 (set1_ok q t F.BOOT_STATUS.QUIESCED h1)))

theorem execBootRestart_ok (q : List Instr) (m : Master) (s : State) (h : Ok q s) :
    OkOut q (execBootRestart m s) := by
  unfold execBootRestart
  repeat' (first | (simp (contextual := true) (maxDischargeDepth := 99) only [*, gated_ok, domainReset_ok, aclFlush_ok, setMode_ok, ok_ite, okOut_ite, okOut_done]; done) | split | (refine gated_ok _ _ _ _ _ (by assumption) (fun t ht => ?_)) | (refine okOut_done ?_) | dsimp only)

theorem execClearAttempts_ok (q : List Instr) (m : Master) (s : State) (h : Ok q s) :
    OkOut q (execClearAttempts m s) := by
  unfold execClearAttempts
  repeat' (first | (simp (contextual := true) (maxDischargeDepth := 99) only [*, gated_ok, attemptShow_ok, attemptPut_ok, ok_ite, okOut_ite, okOut_done]; done) | split | (refine gated_ok _ _ _ _ _ (by assumption) (fun t ht => ?_)) | (refine okOut_done ?_) | dsimp only)

theorem execSafeRestartExpiry_ok (q : List Instr) (s : State) (h : Ok q s) :
    OkOut q (execSafeRestartExpiry s) := by
  unfold execSafeRestartExpiry
  simp (contextual := true) (maxDischargeDepth := 99) only [*, afterFail_ok, failRecord_ok, ok_ite, okOut_ite, okOut_done]

theorem fuseStart_ok (q : List Instr) (s : State) (slot : Nat) (revoke : Bool) (h : Ok q s) :
    Ok q (State.fuseStart s slot revoke) := by
  unfold State.fuseStart
  simp (contextual := true) (maxDischargeDepth := 99) only [*, ok_mk, okParts_of, ok_ite]

theorem execFuseProgram_ok (q : List Instr) (m : Master) (h1 : HalfWrite) (s : State) (h : Ok q s) :
    OkOut q (execFuseProgram m h1 s) := by
  unfold execFuseProgram
  simp (contextual := true) (maxDischargeDepth := 99) [*, gated_ok, halfWrite_ok, fuseStart_ok, ok_ite, okOut_ite, okOut_done]

theorem execFuseRevoke_ok (q : List Instr) (m : Master) (h1 : HalfWrite) (s : State) (h : Ok q s) :
    OkOut q (execFuseRevoke m h1 s) := by
  unfold execFuseRevoke
  simp (contextual := true) (maxDischargeDepth := 99) [*, gated_ok, halfWrite_ok, fuseStart_ok, ok_ite, okOut_ite, okOut_done]

theorem execFuseOperationDone_ok (q : List Instr) (s : State) (h : Ok q s) :
    OkOut q (execFuseOperationDone s) := by
  unfold execFuseOperationDone
  split <;> simp (contextual := true) (maxDischargeDepth := 99) only [*, wr_ok, ok_mk, okParts_of, ok_ite, okOut_ite, okOut_done]

theorem flashStart_ok (q : List Instr) (s : State) (op : Nat) (len : Nat) (h : Ok q s) :
    Ok q (State.flashStart s op len) := by
  unfold State.flashStart
  split <;> simp (contextual := true) (maxDischargeDepth := 99) only [*, wr_ok, ok_mk, okParts_of]

theorem execFlashErase_ok (q : List Instr) (m : Master) (s : State) (h : Ok q s) :
    OkOut q (execFlashErase m s) := by
  unfold execFlashErase
  repeat' (first | (simp (contextual := true) (maxDischargeDepth := 99) only [*, gated_ok, flashStart_ok, okOut_done]; done) | split | (refine gated_ok _ _ _ _ _ (by assumption) (fun t ht => ?_)) | (refine okOut_done ?_) | dsimp only)

theorem execFlashProgram_ok (q : List Instr) (m : Master) (len : BitVec 13) (s : State) (h : Ok q s) :
    OkOut q (execFlashProgram m len s) := by
  unfold execFlashProgram
  repeat' (first | (simp (contextual := true) (maxDischargeDepth := 99) only [*, gated_ok, flashStart_ok, okOut_done]; done) | split | (refine gated_ok _ _ _ _ _ (by assumption) (fun t ht => ?_)) | (refine okOut_done ?_) | dsimp only)

theorem execFlashRead_ok (q : List Instr) (m : Master) (len : BitVec 13) (s : State) (h : Ok q s) :
    OkOut q (execFlashRead m len s) := by
  unfold execFlashRead
  repeat' (first | (simp (contextual := true) (maxDischargeDepth := 99) only [*, gated_ok, flashStart_ok, okOut_done]; done) | split | (refine gated_ok _ _ _ _ _ (by assumption) (fun t ht => ?_)) | (refine okOut_done ?_) | dsimp only)

theorem flashBytes_ok (q : List Instr) (s : State) (ok : Bool) (n : Nat) (good : List Byte) (h : Ok q s) :
    Ok q (State.flashBytes s ok n good).2 := by
  unfold State.flashBytes
  simp (contextual := true) (maxDischargeDepth := 99) only [*, freeBytes_ok, ok_ite, ok_ite_snd]

theorem execFlashCommandDone_ok (q : List Instr) (ok : Bool) (s : State) (h : Ok q s) :
    OkOut q (execFlashCommandDone ok s) := by
  unfold execFlashCommandDone
  split
  · exact okOut_done h
  · rename_i op a n _
    extract_lets c1 t good
    have h1 : Ok q t := (ok_mk ..).2 h
    clear_value t good
    have h2 := flashBytes_ok q t ok n good h1
    generalize t.flashBytes ok n good = x at h2 ⊢
    obtain ⟨bs, u⟩ := x
    dsimp only at h2 ⊢
    refine okOut_done (wr_ok _ _ _ _ (wr_ok _ _ _ _ ?_))
    have h3 := (okParts_of q u).2 h2
    split
    · exact (ok_mk ..).2 { h3 with buf := wf_memWrite _ _ _ h3.buf }
    · exact (ok_mk ..).2 { h3 with flash := wf_flashWrite _ _ _ h3.flash }

/-! ### Machine/Counters.lean -/

theorem pmcUnseen_ok (q : List Instr) (s : State) (k : Nat) (n : Nat) (h : Ok q s) :
    Ok q (State.pmcUnseen s k n) := by
  unfold State.pmcUnseen
  simp (contextual := true) (maxDischargeDepth := 99) only [*, pmcOwn_ok, ok_ite]

theorem execPmcCtrWrite_ok (q : List Instr) (m : Master) (k : Fin 64) (w : BusWidth) (upper : Bool) (v : Word) (events : Nat) (s : State) (h : Ok q s) :
    OkOut q (execPmcCtrWrite m k w upper v events s) := by
  unfold execPmcCtrWrite
  repeat' (first | (simp (contextual := true) (maxDischargeDepth := 99) only [*, gated_ok, wr_ok, pmcOwn_ok, ok_ite, okOut_ite, okOut_done]; done) | split | (refine gated_ok _ _ _ _ _ (by assumption) (fun t ht => ?_)) | (refine okOut_done ?_) | dsimp only)

theorem execPmcSelWrite_ok (q : List Instr) (m : Master) (k : Fin 64) (v : BitVec 32) (s : State) (h : Ok q s) :
    OkOut q (execPmcSelWrite m k v s) := by
  unfold execPmcSelWrite
  repeat' (first | (simp (contextual := true) (maxDischargeDepth := 99) only [*, gated_ok, setReg_ok, ok_mk, okParts_of, okOut_done]; done) | split | (refine gated_ok _ _ _ _ _ (by assumption) (fun t ht => ?_)) | (refine okOut_done ?_) | dsimp only)

theorem execPmcFreeze_ok (q : List Instr) (m : Master) (v : BitVec 32) (s : State) (h : Ok q s) :
    OkOut q (execPmcFreeze m v s) := by
  unfold execPmcFreeze
  repeat' (first | (simp (contextual := true) (maxDischargeDepth := 99) only [*, gated_ok, wr_ok, ok_mk, okParts_of, ok_ite, okOut_ite, okOut_done]; done) | split | (refine gated_ok _ _ _ _ _ (by assumption) (fun t ht => ?_)) | (refine okOut_done ?_) | dsimp only)

theorem execPmcCtrLowRead_ok (q : List Instr) (m : Master) (j : Fin 32) (w : BusWidth) (unseen : Nat) (odd : Nat) (s : State) (h : Ok q s) :
    OkOut q (execPmcCtrLowRead m j w unseen odd s) := by
  unfold execPmcCtrLowRead
  simp (contextual := true) (maxDischargeDepth := 99) only [*, pmcUnseen_ok, busRead_ok, okOut_done]

theorem execPmcCounterWrap_ok (q : List Instr) (k : Fin 64) (s : State) (h : Ok q s) :
    OkOut q (execPmcCounterWrap k s) := by
  unfold execPmcCounterWrap
  simp (contextual := true) (maxDischargeDepth := 99) only [*, pmcUnseen_ok, okOut_done]

theorem execPmcSampleTaken_ok (q : List Instr) (core : Fin 8) (pc : BitVec 64) (opcode : BitVec 32) (latency : Nat) (mode : SampleMode) (s : State) (h : Ok q s) :
    OkOut q (execPmcSampleTaken core pc opcode latency mode s) := by
  unfold execPmcSampleTaken
  simp (contextual := true) (maxDischargeDepth := 99) only [*, incSat_ok, wr_ok, ok_mk, okParts_of, ok_ite, okOut_ite, okOut_done, okParts_sram, okParts_host, okParts_buf, okParts_mram, okParts_ring, okParts_ddr_all, okParts_mark]

theorem execPmcSampleAck_ok (q : List Instr) (m : Master) (h1 : HalfWrite) (s : State) (h : Ok q s) :
    OkOut q (execPmcSampleAck m h1 s) := by
  unfold execPmcSampleAck
  simp (contextual := true) (maxDischargeDepth := 99) [*, gated_ok, halfWrite_ok, wr_ok, ok_ite, okOut_ite, okOut_done]

/-! ### Machine/CrcUnits.lean -/

theorem setFeeds_ok (q : List Instr) (s : State) (n : Nat) (q2 : List (List Byte)) (h : Ok q s) :
    Ok q (State.setFeeds s n q2) := by
  unfold State.setFeeds
  simp (contextual := true) (maxDischargeDepth := 99) only [*, wrBit_ok, ok_mk, okParts_of]

theorem crcTake_ok (q : List Instr) (s : State) (n : Nat) (bs : List Byte) (h : Ok q s) :
    Ok q (State.crcTake s n bs) := by
  unfold State.crcTake
  simp (contextual := true) (maxDischargeDepth := 99) only [*, wr_ok]

theorem crcFlush_ok (q : List Instr) (s : State) (n : Nat) (h : Ok q s) :
    Ok q (State.crcFlush s n) := by
  unfold State.crcFlush
  simp (contextual := true) (maxDischargeDepth := 99) only [*, setFeeds_ok, crcTake_ok]

theorem crcCycle_ok (q : List Instr) (s : State) (n : Nat) (h : Ok q s) :
    Ok q (State.crcCycle s n) := by
  unfold State.crcCycle
  split <;> simp (contextual := true) (maxDischargeDepth := 99) only [*, setFeeds_ok, crcTake_ok, ok_ite]

theorem crcOwned_ok (q : List Instr) (s : State) (m : Master) (n : Nat) (reg : Nat) (f : State → State) (h : Ok q s) (hf : ∀ t, Ok q t → Ok q (f t)) :
    Ok q (State.crcOwned s m n reg f) := by
  unfold State.crcOwned
  repeat' (first | (simp (contextual := true) (maxDischargeDepth := 99) only [*, gated_ok, set1_ok, ok_ite]; done) | split | (refine gated_ok _ _ _ _ _ (by assumption) (fun t ht => ?_)) | dsimp only)

theorem execCrcClaimRead_ok (q : List Instr) (m : Master) (n : Fin 4) (s : State) (h : Ok q s) :
    OkOut q (execCrcClaimRead m n s) := by
  unfold execCrcClaimRead
  simp (contextual := true) (maxDischargeDepth := 99) only [*, crcClaim_ok, ok_ite, okOut_ite, okOut_done]

theorem execCrcPreset_ok (q : List Instr) (m : Master) (n : Fin 4) (p2 : Fin 4) (s : State) (h : Ok q s) :
    OkOut q (execCrcPreset m n p2 s) := by
  unfold execCrcPreset
  simp (contextual := true) (maxDischargeDepth := 99) [*, crcOwned_ok, wr_ok, crcFlush_ok, ok_ite, okOut_ite, okOut_done]

theorem execCrcLoad_ok (q : List Instr) (m : Master) (n : Fin 4) (s : State) (h : Ok q s) :
    OkOut q (execCrcLoad m n s) := by
  unfold execCrcLoad
  simp (contextual := true) (maxDischargeDepth := 99) [*, crcOwned_ok, crcFlush_ok, wr_ok, okOut_done]

theorem execCrcRelease_ok (q : List Instr) (m : Master) (n : Fin 4) (s : State) (h : Ok q s) :
    OkOut q (execCrcRelease m n s) := by
  unfold execCrcRelease
  simp (contextual := true) (maxDischargeDepth := 99) [*, crcOwned_ok, wr_ok, okOut_done]

theorem execCrcDataFeed_ok (q : List Instr) (m : Master) (n : Fin 4) (w : BusWidth) (v : BitVec 32) (s : State) (h : Ok q s) :
    OkOut q (execCrcDataFeed m n w v s) := by
  unfold execCrcDataFeed
  simp (contextual := true) (maxDischargeDepth := 99) [*, crcOwned_ok, setFeeds_ok, crcTake_ok, ok_ite, okOut_ite, okOut_done]

theorem execCrcResultRead_ok (q : List Instr) (m : Master) (n : Fin 4) (raw : Bool) (s : State) (h : Ok q s) :
    OkOut q (execCrcResultRead m n raw s) := by
  unfold execCrcResultRead
  simp (contextual := true) (maxDischargeDepth := 99) only [*, refuseRead_ok, crcFlush_ok, wr_ok, ok_mk, okParts_of, ok_ite, okOut_ite, okOut_done]

theorem execCrcStateWrite_ok (q : List Instr) (m : Master) (n : Fin 4) (v : BitVec 32) (s : State) (h : Ok q s) :
    OkOut q (execCrcStateWrite m n v s) := by
  unfold execCrcStateWrite
  simp (contextual := true) (maxDischargeDepth := 99) [*, crcOwned_ok, wr_ok, crcFlush_ok, okOut_done]

theorem execHostmbSend_ok (q : List Instr) (m : Master) (mb : Fin 8) (w : BusWidth) (v : Word) (s : State) (h : Ok q s) :
    OkOut q (execHostmbSend m mb w v s) := by
  unfold execHostmbSend
  repeat' (first | (simp (contextual := true) (maxDischargeDepth := 99) only [*, gated_ok, vector_ok, wr_ok, setReg_ok, ok_ite, okOut_ite, okOut_done]; done) | split | (refine gated_ok _ _ _ _ _ (by assumption) (fun t ht => ?_)) | (refine okOut_done ?_) | dsimp only)

theorem execHostmbHostRead_ok (q : List Instr) (mb : Fin 8) (s : State) (h : Ok q s) :
    OkOut q (execHostmbHostRead mb s) := by
  unfold execHostmbHostRead
  simp (contextual := true) (maxDischargeDepth := 99) only [*, source_ok, wr_ok, ok_mk, okParts_of, ok_ite, okOut_ite, okOut_done]

/-! ### Machine/Dma.lean -/

theorem setChan_ok (q : List Instr) (s : State) (k : Nat) (c : DmaCh) (h : Ok q s) :
    Ok q (State.setChan s k c) := by
  unfold State.setChan
  simp (contextual := true) (maxDischargeDepth := 99) only [*, ok_mk, okParts_of]

theorem dmaIrq_ok (q : List Instr) (s : State) (k : Nat) (h : Ok q s) :
    Ok q (State.dmaIrq s k) := by
  unfold State.dmaIrq
  split
  · exact ok_whenD _ _ (fun t ht => source_ok _ _ _ ht) (vector_ok _ _ _ h)
  · exact h

theorem dmaStop_ok (q : List Instr) (s : State) (k : Nat) (err : Nat) (h : Ok q s) :
    Ok q (State.dmaStop s k err) := by
  unfold State.dmaStop
  simp (contextual := true) (maxDischargeDepth := 99) only [*, setChan_ok, dmaIrq_ok, wr_ok]

theorem dmaDone_ok (q : List Instr) (s : State) (k : Nat) (h : Ok q s) :
    Ok q (State.dmaDone s k) := by
  unfold State.dmaDone
  simp (contextual := true) (maxDischargeDepth := 99) only [*, setChan_ok, dmaIrq_ok, set1_ok, wr_ok]

theorem dmaRun_ok (q : List Instr) (s : State) (k : Nat) (p2 : DmaProg) (h : Ok q s) :
    Ok q (State.dmaRun s k p2) := by
  unfold State.dmaRun
  simp (contextual := true) (maxDischargeDepth := 99) only [*, setChan_ok, wr_ok, dmaStop_ok, ok_ite]

theorem dmaStart_ok (q : List Instr) (s : State) (k : Nat) (h : Ok q s) :
    Ok q (State.dmaStart s k) := by
  unfold State.dmaStart
  simp (contextual := true) (maxDischargeDepth := 99) only [*, setChan_ok, dmaRun_ok, wr_ok]

theorem execDmaEnable_ok (q : List Instr) (m : Master) (k : Fin 16) (s : State) (h : Ok q s) :
    OkOut q (execDmaEnable m k s) := by
  unfold execDmaEnable
  repeat' (first | (simp (contextual := true) (maxDischargeDepth := 99) only [*, gated_ok, set1_ok, dmaStart_ok, ok_ite, okOut_ite, okOut_done]; done) | split | (refine gated_ok _ _ _ _ _ (by assumption) (fun t ht => ?_)) | (refine okOut_done ?_) | dsimp only)

theorem dmaScramble_ok (q : List Instr) (s : State) (k : Nat) (h : Ok q s) :
    Ok q (State.dmaScramble s k) := by
  unfold State.dmaScramble
  simp (contextual := true) (maxDischargeDepth := 99) only [*, freeBytes_ok, spaceWrite_ok]

theorem dmaDrop_ok (q : List Instr) (s : State) (k : Nat) (inFlight : Bool) (h : Ok q s) :
    Ok q (State.dmaDrop s k inFlight) := by
  unfold State.dmaDrop
  simp (contextual := true) (maxDischargeDepth := 99) only [*, dmaScramble_ok, takeFree_ok, wr_ok, setChan_ok, ok_ite]

theorem dmaDisable_ok (q : List Instr) (s : State) (k : Nat) (inFlight : Bool) (h : Ok q s) :
    Ok q (State.dmaDisable s k inFlight) := by
  unfold State.dmaDisable
  simp (contextual := true) (maxDischargeDepth := 99) only [*, clr_ok, dmaDrop_ok, ok_ite]

theorem execDmaDisable_ok (q : List Instr) (m : Master) (k : Fin 16) (inFlight : Bool) (s : State) (h : Ok q s) :
    OkOut q (execDmaDisable m k inFlight s) := by
  unfold execDmaDisable
  repeat' (first | (simp (contextual := true) (maxDischargeDepth := 99) only [*, gated_ok, dmaDisable_ok, okOut_done]; done) | split | (refine gated_ok _ _ _ _ _ (by assumption) (fun t ht => ?_)) | (refine okOut_done ?_) | dsimp only)

theorem execDmaGo_ok (q : List Instr) (m : Master) (k : Fin 16) (s : State) (h : Ok q s) :
    OkOut q (execDmaGo m k s) := by
  unfold execDmaGo
  repeat' (first | (simp (contextual := true) (maxDischargeDepth := 99) only [*, gated_ok, dmaStart_ok, ok_ite, okOut_ite, okOut_done]; done) | split | (refine gated_ok _ _ _ _ _ (by assumption) (fun t ht => ?_)) | (refine okOut_done ?_) | dsimp only)

theorem execDmaStop_ok (q : List Instr) (m : Master) (k : Fin 16) (s : State) (h : Ok q s) :
    OkOut q (execDmaStop m k s) := by
  unfold execDmaStop
  repeat' (first | (simp (contextual := true) (maxDischargeDepth := 99) only [*, gated_ok, setChan_ok, ok_ite, okOut_ite, okOut_done]; done) | split | (refine gated_ok _ _ _ _ _ (by assumption) (fun t ht => ?_)) | (refine okOut_done ?_) | dsimp only)

theorem execShadowCommit_ok (q : List Instr) (m : Master) (k : Fin 16) (late : Bool) (s : State) (h : Ok q s) :
    OkOut q (execShadowCommit m k late s) := by
  unfold execShadowCommit
  repeat' (first | (simp (contextual := true) (maxDischargeDepth := 99) only [*, gated_ok, set1_ok, setChan_ok, ok_ite, okOut_ite, okOut_done]; done) | split | (refine gated_ok _ _ _ _ _ (by assumption) (fun t ht => ?_)) | (refine okOut_done ?_) | dsimp only)

theorem burstWrite_ok (q : List Instr) (s : State) (k : Nat) (space : Nat) (a : Nat) (bs : List Byte) (mark : Bool) (h : Ok q s) :
    Ok q (State.burstWrite s k space a bs mark) := by
  unfold State.burstWrite
  simp (contextual := true) (maxDischargeDepth := 99) [*, unitPut_ok, incSat_ok, ok_ite]

theorem execDmaBurst_ok (q : List Instr) (k : Fin 16) (hostData : List Byte) (finds : BurstFinds) (s : State) (h : Ok q s) :
    OkOut q (execDmaBurst k hostData finds s) := by
  unfold execDmaBurst
  simp (contextual := true) (maxDischargeDepth := 99) [*, dmaStop_ok, ddrUpset_ok, unitRead_ok, intake_ok, aerReport_ok, setChan_ok, burstWrite_ok, ok_ite, okOut_ite, ok_whenD, okOut_done]

theorem dmaHandover_ok (q : List Instr) (s : State) (k : Nat) (h : Ok q s) :
    Ok q (State.dmaHandover s k) := by
  unfold State.dmaHandover
  split <;> simp (contextual := true) (maxDischargeDepth := 99) only [*, dmaDone_ok, dmaRun_ok, setChan_ok, source_ok, vector_ok, dmaStop_ok, ok_ite]

theorem execDmaHandover_ok (q : List Instr) (k : Fin 16) (s : State) (h : Ok q s) :
    OkOut q (execDmaHandover k s) := by
  unfold execDmaHandover
  simp (contextual := true) (maxDischargeDepth := 99) only [*, dmaHandover_ok, ok_ite, okOut_ite, okOut_done]

theorem execDmaDescriptorFetched_ok (q : List Instr) (k : Fin 16) (s : State) (h : Ok q s) :
    OkOut q (execDmaDescriptorFetched k s) := by
  unfold execDmaDescriptorFetched
  simp (contextual := true) (maxDischargeDepth := 99) only [*, dmaStop_ok, unitRead_ok, setChan_ok, dmaRun_ok, incWrap_ok, ok_ite, okOut_ite, okOut_done]

theorem dmaTimeout_ok (q : List Instr) (s : State) (k : Nat) (readData : List Byte) (h : Ok q s) :
    Ok q (State.dmaTimeout s k readData) := by
  unfold State.dmaTimeout
  simp (contextual := true) (maxDischargeDepth := 99) only [*, burstWrite_ok, dmaStop_ok, ok_ite]

theorem execDmaDrainComplete_ok (q : List Instr) (k : Fin 16) (s : State) (h : Ok q s) :
    OkOut q (execDmaDrainComplete k s) := by
  unfold execDmaDrainComplete
  simp (contextual := true) (maxDischargeDepth := 99) only [*, dmaStart_ok, clr_ok, wr_ok, ok_ite, okOut_ite, okOut_done]

theorem execDmaErrClear_ok (q : List Instr) (m : Master) (k : Fin 16) (bits : Fin 8) (s : State) (h : Ok q s) :
    OkOut q (execDmaErrClear m k bits s) := by
  unfold execDmaErrClear
  repeat' (first | (simp (contextual := true) (maxDischargeDepth := 99) only [*, gated_ok, wr_ok, settleSources_ok, ok_ite, okOut_ite, okOut_done, okParts_serr, okParts_serr_filter, okParts_kerr, okParts_ksram]; done) | split | (refine gated_ok _ _ _ _ _ (by assumption) (fun t ht => ?_)) | (refine okOut_done ?_) | dsimp only)

/-! ### Machine/Folio.lean -/

theorem densityCount_ok (q : List Instr) (s : State) (p1 : Nat) (l : Leaf) (b : Blk) (fresh : Bool) (h : Ok q s) :
    Ok q (State.densityCount s p1 l b fresh) := by
  unfold State.densityCount
  repeat' (first | (simp (contextual := true) (maxDischargeDepth := 99) only [*, setLeaf_ok, addSat_ok, set1_ok, ok_ite]; done) | split | dsimp only)

theorem recordFail_ok (q : List Instr) (s : State) (p1 : Nat) (l : Leaf) (b : Blk) (h : Ok q s) :
    Ok q (State.recordFail s p1 l b) := by
  unfold State.recordFail
  simp (contextual := true) (maxDischargeDepth := 99) only [*, setLeaf_ok, folFormat_ok]

theorem execLeafAdmission_ok (q : List Instr) (p0 : Fin 2) (s : State) (h : Ok q s) :
    OkOut q (execLeafAdmission p0 s) := by
  unfold execLeafAdmission
  repeat' (first | (simp (contextual := true) (maxDischargeDepth := 99) only [*, refuseLeaf_ok, setLeaf_ok, leafEvent_ok, folShow_ok, admitLeaf_ok, ok_mk, okParts_of, ok_ite, okOut_ite, okOut_done]; done) | split | (refine okOut_done ?_) | dsimp only)

theorem skipFind_ok (q : List Instr) (s : State) (p1 : Nat) (x2 : List Blk) (h : Ok q s) :
    Ok q (State.skipFind s p1 x2).1 := by
  induction x2 generalizing s with
  | nil => exact h
  | cons b bs ih =>
    unfold State.skipFind
    split
    · exact h
    · exact ok_ite_fst _ _ _ (ih _ h) (ok_ite_fst _ _ _ h (ih _ (recordFail_ok _ _ _ _ _ h)))

theorem skipOn_ok (q : List Instr) (s : State) (p1 : Nat) (b : Blk) (h : Ok q s) :
    Ok q (State.skipOn s p1 b) := by
  unfold State.skipOn
  split <;> simp (contextual := true) (maxDischargeDepth := 99) only [*, retireDue_ok, setLeaf_ok]

theorem skipTo_ok (q : List Instr) (s : State) (p1 : Nat) (h : Ok q s) :
    Ok q (State.skipTo s p1) := by
  unfold State.skipTo
  split
  · exact h
  · rename_i l _
    refine ok_ite _ _ _ h ?_
    have h1 := skipFind_ok q s p1 (l.blocks.filter (fun b => decide (l.nextSeq ≤ b.seq))) h
    generalize s.skipFind p1 (l.blocks.filter (fun b => decide (l.nextSeq ≤ b.seq))) = x at h1 ⊢
    obtain ⟨u, o⟩ := x
    cases o with
    | none => exact h1
    | some b => exact skipOn_ok _ _ _ _ h1

theorem nextTest_ok (q : List Instr) (s : State) (p1 : Nat) (seq : Nat) (lastRow : Int) (h : Ok q s) :
    Ok q (State.nextTest s p1 seq lastRow) := by
  unfold State.nextTest
  repeat' (first | (simp (contextual := true) (maxDischargeDepth := 99) only [*, setLeaf_ok, folFormat_ok, ok_ite]; done) | split | dsimp only)

theorem execBlockChecked_ok (q : List Instr) (p0 : Fin 2) (seq : Nat) (disturbed : Bool) (s : State) (h : Ok q s) :
    OkOut q (execBlockChecked p0 seq disturbed s) := by
  unfold execBlockChecked
  split
  · exact okOut_done h
  · rename_i l _
    split
    · exact okOut_done h
    · rename_i b _
      extract_lets prev t1 counted b1 hdr fresh l1 t2 l2 g t3 same t4 t5
      have h1 : Ok q t1 := setLeaf_ok _ _ _ _ (folFormat_ok _ _ _ _ _ h)
      have h2 : Ok q t2 := ok_ite _ _ _ (setLeaf_ok _ _ _ _ h) (densityCount_ok _ _ _ _ _ _ h)
      clear_value t2
      have h3 : Ok q t3 := ok_ite _ _ _ (incSat_ok _ _ _ h2) h2
      clear_value t3
      have h4 : Ok q t4 := ok_ite _ _ _ (incSat_ok _ _ _ h3) h3
      clear_value t4
      have h5 : Ok q t5 := setLeaf_ok _ _ _ _ h4
      clear_value t5
      split
      · exact okOut_done h
      · split
        · exact okOut_done (folShow_ok _ _ (checkFail_ok _ _ _ _ _ h))
        · split
          · exact okOut_done (folShow_ok _ _ (ok_ite _ _ _ (refuseLeaf_ok _ _ _ _ h1) h1))
          · split
            · exact okOut_done (folShow_ok _ _ (refuseLeaf_ok _ _ _ _ (folFormat_ok _ _ _ _ _ h)))
            · split
              · exact okOut_done (folShow_ok _ _ (nextTest_ok _ _ _ _ _ (recordFail_ok _ _ _ _ _ h3)))
              · split
                · exact okOut_done (folShow_ok _ _ (nextTest_ok _ _ _ _ _ (recordFail_ok _ _ _ _ _ h3)))
                · exact okOut_done (folShow_ok _ _ (skipTo_ok _ _ _ (nextTest_ok _ _ _ _ _ h5)))

theorem fogRingWrite_ok (q : List Instr) (s : State) (rows : List (Nat × List Nat)) (h : Ok q s) :
    Ok q (State.fogRingWrite s rows) := by
  unfold State.fogRingWrite
  induction rows with
  | nil => exact h
  | cons r rs ih => exact unitWrite_ok _ _ _ _ _ _ ih

theorem execBlockConsumed_ok (q : List Instr) (p0 : Fin 2) (s : State) (h : Ok q s) :
    OkOut q (execBlockConsumed p0 s) := by
  unfold execBlockConsumed
  repeat' (first | (simp (contextual := true) (maxDischargeDepth := 99) [*, folShow_ok, retireDue_ok, setLeaf_ok, folFormat_ok, fogRingWrite_ok, ok_ite, okOut_ite, ok_foldl, okOut_done]; done) | split | (refine ok_foldl _ _ (fun t x ht => ?_) ?_) | (refine okOut_done ?_) | dsimp only)

theorem skipRow_ok (q : List Instr) (s : State) (p1 : Nat) (t : Int) (seq : Nat) (first : Int) (h : Ok q s) :
    Ok q (State.skipRow s p1 t seq first) := by
  unfold State.skipRow
  split <;> simp (contextual := true) (maxDischargeDepth := 99) only [*, retireDue_ok, setLeaf_ok]

theorem skipWait_ok (q : List Instr) (s : State) (p1 : Nat) (t : Int) (h : Ok q s) :
    Ok q (State.skipWait s p1 t) := by
  unfold State.skipWait
  split <;> simp (contextual := true) (maxDischargeDepth := 99) only [*, retireDue_ok, setLeaf_ok, ok_ite]

theorem execTileRowDeadline_ok (q : List Instr) (p0 : Fin 2) (s : State) (h : Ok q s) :
    OkOut q (execTileRowDeadline p0 s) := by
  unfold execTileRowDeadline
  split
  · exact okOut_done h
  · split
    · exact okOut_done h
    · rename_i l _ _ hd _
      extract_lets t cur passed u
      have h1 : Ok q u := ok_ite _ _ _ (folFail_ok _ _ _ _ _ (set1_ok _ _ _ h)) (set1_ok _ _ _ h)
      clear_value u
      refine okOut_ite _ _ _ (okOut_done h) ?_
      have h2 := skipFind_ok q u p0.val (l.blocks.filter (fun b => decide (l.nextSeq < b.seq))) h1
      generalize u.skipFind p0.val (l.blocks.filter (fun b => decide (l.nextSeq < b.seq))) = x at h2 ⊢
      obtain ⟨v, o⟩ := x
      cases o with
      | none => exact okOut_done (folShow_ok q (v.skipWait p0.val t) (skipWait_ok q v p0.val t h2))
      | some b => exact okOut_done (folShow_ok q (v.skipRow p0.val t b.seq b.firstRow) (skipRow_ok q v p0.val t b.seq b.firstRow h2))

end Sys2Proof.Machine
end

