-- ==== Sys2Proof/Laws/SoundGuard.lean ====
section
/-! SUPPORT. Soundness is kept by calibration, the Guard, the compressor, the intake, the survey pipelines and the Keeper: one lemma for each operation and each meaning. -/
namespace Sys2Proof.Machine

/-! ### Machine/Trim.lean -/

theorem execCalRunStart_ok (q : List Instr) (s : State) (h : Ok q s) :
    OkOut q (execCalRunStart s) := by
  unfold execCalRunStart
  simp (contextual := true) (maxDischargeDepth := 99) only [*, runTrigger_ok, ok_ite, okOut_ite, okOut_done]

theorem execCalRunWrite_ok (q : List Instr) (m : Master) (s : State) (h : Ok q s) :
    OkOut q (execCalRunWrite m s) := by
  unfold execCalRunWrite
  repeat' (first | (simp (contextual := true) (maxDischargeDepth := 99) only [*, gated_ok, runTrigger_ok, okOut_done]; done) | split | (refine gated_ok _ _ _ _ _ (by assumption) (fun t ht => ?_)) | (refine okOut_done ?_) | dsimp only)

theorem execCalEnable_ok (q : List Instr) (m : Master) (s : State) (h : Ok q s) :
    OkOut q (execCalEnable m s) := by
  unfold execCalEnable
  repeat' (first | (simp (contextual := true) (maxDischargeDepth := 99) only [*, gated_ok, set1_ok, wr_ok, ok_ite, okOut_ite, okOut_done]; done) | split | (refine gated_ok _ _ _ _ _ (by assumption) (fun t ht => ?_)) | (refine okOut_done ?_) | dsimp only)

theorem trimBack_ok (q : List Instr) (s : State) (g : Nat) (h : Ok q s) :
    Ok q (State.trimBack s g) := by
  unfold State.trimBack
  repeat' (first | (simp (contextual := true) (maxDischargeDepth := 99) only [*, trimDrop_ok, swapStart_ok, ok_ite]; done) | split | dsimp only)

theorem execCalDisable_ok (q : List Instr) (m : Master) (s : State) (h : Ok q s) :
    OkOut q (execCalDisable m s) := by
  unfold execCalDisable
  simp (contextual := true) (maxDischargeDepth := 99) [*, gated_ok, clr_ok, wr_ok, trimBack_ok, ok_mk, okParts_of, ok_ite, okOut_ite, ok_foldl, okOut_done]

theorem execCalDrainComplete_ok (q : List Instr) (s : State) (h : Ok q s) :
    OkOut q (execCalDrainComplete s) := by
  unfold execCalDrainComplete
  simp (contextual := true) (maxDischargeDepth := 99) only [*, wr_ok, set1_ok, clr_ok, ok_ite, okOut_ite, okOut_done]

theorem rxEnd_ok (q : List Instr) (s : State) (g : Nat) (h : Ok q s) :
    Ok q (State.rxEnd s g) := by
  unfold State.rxEnd
  simp (contextual := true) (maxDischargeDepth := 99) only [*, runCheck_ok, ok_mk, okParts_of, okParts_grp, okParts_svy]

theorem execRxMarkWindow_ok (q : List Instr) (g : Fin 4) (ones : Nat) (s : State) (h : Ok q s) :
    OkOut q (execRxMarkWindow g ones s) := by
  unfold execRxMarkWindow
  repeat' (first | (simp (contextual := true) (maxDischargeDepth := 99) only [*, wr_ok, rxAm_ok, rxEnd_ok, ok_mk, okParts_of, ok_ite, okOut_ite, okOut_done, okParts_grp, okParts_svy]; done) | split | (refine okOut_done ?_) | dsimp only)

theorem execTrimLockTimeout_ok (q : List Instr) (g : Fin 4) (s : State) (h : Ok q s) :
    OkOut q (execTrimLockTimeout g s) := by
  unfold execTrimLockTimeout
  split <;> simp (contextual := true) (maxDischargeDepth := 99) only [*, laneReplace_ok, lasting_ok, ok_ite, okOut_ite, okOut_done]

/-! ### Machine/Guard.lean -/

theorem execKeeperLockstep_ok (q : List Instr) (s : State) (h : Ok q s) :
    OkOut q (execKeeperLockstep s) := by
  unfold execKeeperLockstep
  simp (contextual := true) (maxDischargeDepth := 99) only [*, guardDemand_ok, okOut_done]

theorem execKeeperWatchdog_ok (q : List Instr) (s : State) (h : Ok q s) :
    OkOut q (execKeeperWatchdog s) := by
  unfold execKeeperWatchdog
  simp (contextual := true) (maxDischargeDepth := 99) only [*, guardDemand_ok, ok_ite, okOut_ite, okOut_done]

theorem execSafWdogWrite_ok (q : List Instr) (m : Master) (v : BitVec 32) (s : State) (h : Ok q s) :
    OkOut q (execSafWdogWrite m v s) := by
  unfold execSafWdogWrite
  repeat' (first | (simp (contextual := true) (maxDischargeDepth := 99) only [*, gated_ok, guardDemand_ok, ok_mk, okParts_of, ok_ite, okOut_ite, okOut_done]; done) | split | (refine gated_ok _ _ _ _ _ (by assumption) (fun t ht => ?_)) | (refine okOut_done ?_) | dsimp only)

theorem execSafDemandWrite_ok (q : List Instr) (m : Master) (v : BitVec 32) (s : State) (h : Ok q s) :
    OkOut q (execSafDemandWrite m v s) := by
  unfold execSafDemandWrite
  repeat' (first | (simp (contextual := true) (maxDischargeDepth := 99) only [*, gated_ok, guardDemand_ok, ok_ite, okOut_ite, okOut_done]; done) | split | (refine gated_ok _ _ _ _ _ (by assumption) (fun t ht => ?_)) | (refine okOut_done ?_) | dsimp only)

theorem execGuardCompare_ok (q : List Instr) (s : State) (h : Ok q s) :
    OkOut q (execGuardCompare s) := by
  unfold execGuardCompare
  simp (contextual := true) (maxDischargeDepth := 99) only [*, guardDemand_ok, okOut_done]

theorem execPadReadbackFault_ok (q : List Instr) (auth : Bool) (s : State) (h : Ok q s) :
    OkOut q (execPadReadbackFault auth s) := by
  unfold execPadReadbackFault
  simp (contextual := true) (maxDischargeDepth := 99) only [*, guardDemand_ok, ok_ite, okOut_ite, okOut_done]

theorem execClockFault_ok (q : List Instr) (clock : Fin 13) (ppm : Int) (s : State) (h : Ok q s) :
    OkOut q (execClockFault clock ppm s) := by
  unfold execClockFault
  simp (contextual := true) (maxDischargeDepth := 99) only [*, set1_ok, clr_ok, wr_ok, wrInt_ok, incSat_ok, guardDemand_ok, ok_ite, okOut_ite, okOut_done]

theorem supplyRead_ok (q : List Instr) (s : State) (i : Nat) (mv : Nat) (h : Ok q s) :
    Ok q (State.supplyRead s i mv) := by
  unfold State.supplyRead
  simp (contextual := true) (maxDischargeDepth := 99) only [*, wr_ok, ok_ite]

theorem aonLose_ok (q : List Instr) (s : State) (h : Ok q s) :
    Ok q (State.aonLose s) := by
  unfold State.aonLose
  simp (contextual := true) (maxDischargeDepth := 99) only [*, attemptShow_ok, ok_mk, okParts_of]

theorem execSupplyExcursion_ok (q : List Instr) (i : Fin 7) (mv : BitVec 16) (held : Bool) (s : State) (h : Ok q s) :
    OkOut q (execSupplyExcursion i mv held s) := by
  unfold execSupplyExcursion
  extract_lets r out trip mask c1 c2 c3 t1 t2 t3 t4
  have h1 : Ok q t1 := (ok_mk ..).2 (supplyRead_ok _ s _ _ h)
  clear_value t1
  have h2 : Ok q t2 := ok_whenD _ _ (fun t ht => wr_ok _ _ _ _ ht) h1
  have h3 : Ok q t3 := ok_whenD _ _ (fun t ht => wr_ok _ _ _ _ ht) h2
  have h4 : Ok q t4 := ok_whenD _ _ (fun t ht => aonLose_ok _ _ ht) h3
  exact okOut_done (ok_ite _ _ _ (guardDemand_ok _ _ _ h4) h4)

theorem dieOne_ok (q : List Instr) (s : State) (i : Nat) (t : Int) (h : Ok q s) :
    Ok q (State.dieOne s i t) := by
  unfold State.dieOne
  repeat' (first | (simp (contextual := true) (maxDischargeDepth := 99) only [*, wrInt_ok, set1_ok, faultEvent_ok, aclLog_ok, incSat_ok, ok_mk, okParts_of, ok_ite, ok_whenD, okParts_poison_insert]; done) | split | (refine ok_whenD _ _ (fun t ht => ?_) ?_) | dsimp only)

theorem dieAll_ok (q : List Instr) (s : State) (i : Nat) (x2 : List Int) (h : Ok q s) :
    Ok q (State.dieAll s i x2) := by
  induction x2 generalizing s i with
  | nil => exact h
  | cons t ts ih => exact ih _ _ (dieOne_ok _ _ _ _ h)

theorem execDieSensorSample_ok (q : List Instr) (temps : List Int) (s : State) (h : Ok q s) :
    OkOut q (execDieSensorSample temps s) := by
  unfold execDieSensorSample
  simp (contextual := true) (maxDischargeDepth := 99) only [*, dieAll_ok, wrInt_ok, runTrigger_ok, guardDemand_ok, ok_ite, okOut_ite, ok_foldl, okOut_done]

theorem execGuardRecordPersisted_ok (q : List Instr) (s : State) (h : Ok q s) :
    OkOut q (execGuardRecordPersisted s) := by
  unfold execGuardRecordPersisted
  simp (contextual := true) (maxDischargeDepth := 99) only [*, aclFlush_ok, leaveBoot_ok, wr_ok, attemptAdd_ok, attemptPut_ok, attemptShow_ok, ok_mk, okParts_of, ok_ite, okOut_ite, okOut_done]

theorem eyesMeasured_ok (q : List Instr) (s : State) (g : Nat) (eyes : List Nat) (h : Ok q s) :
    Ok q (State.eyesMeasured s g eyes).1 := by
  unfold State.eyesMeasured
  repeat' (first | (simp (contextual := true) (maxDischargeDepth := 99) only [*, wrBit_ok, wr_ok, ok_ite, ok_ite_fst, ok_foldl]; done) | split | (refine ok_foldl _ _ (fun t x ht => ?_) ?_) | dsimp only)

theorem selfTile_ok (q : List Instr) (s : State) (h : Ok q s) :
    Ok q (State.selfTile s) := by
  unfold State.selfTile
  simp (contextual := true) (maxDischargeDepth := 99) only [*, clr_ok, ok_mk, okParts_of, ok_ite]

theorem execLatentGroupRun_ok (q : List Instr) (fail : Fin 11) (eyes : List Nat) (s : State) (h : Ok q s) :
    OkOut q (execLatentGroupRun fail eyes s) := by
  unfold execLatentGroupRun
  simp (contextual := true) (maxDischargeDepth := 99) [*, aclLog_ok, set1_ok, selfTile_ok, eyesMeasured_ok, wr_ok, guardDemand_ok, incSat_ok, incWrap_ok, ok_mk, okParts_of, ok_ite, okOut_ite, ok_whenD, okOut_done]

theorem execLatentIdleTimer_ok (q : List Instr) (s : State) (h : Ok q s) :
    OkOut q (execLatentIdleTimer s) := by
  unfold execLatentIdleTimer
  simp (contextual := true) (maxDischargeDepth := 99) only [*, ok_mk, okParts_of, ok_ite, okOut_ite, okOut_done]

/-! ### Machine/Gugen.lean -/

theorem gugIrq_ok (q : List Instr) (s : State) (h : Ok q s) :
    Ok q (State.gugIrq s) := by
  unfold State.gugIrq
  simp (contextual := true) (maxDischargeDepth := 99) only [*, source_ok, ok_ite]

theorem gugStop_ok (q : List Instr) (s : State) (err : Nat) (h : Ok q s) :
    Ok q (State.gugStop s err) := by
  unfold State.gugStop
  simp (contextual := true) (maxDischargeDepth := 99) only [*, gugIrq_ok, wr_ok]

theorem gugWrite_ok (q : List Instr) (s : State) (x1 : List (Nat × Nat × Nat)) (x2 : List Byte) (h : Ok q s) :
    Ok q (State.gugWrite s x1 x2) := by
  induction x1 generalizing s x2 with
  | nil => exact h
  | cons e bufs ih =>
    obtain ⟨a, n, space⟩ := e
    unfold State.gugWrite
    extract_lets part t
    have h1 : Ok q t := unitPut_ok _ _ _ _ _ _ _ h
    exact ok_ite _ _ _ h1 (ih _ _ h1)

theorem execGugEnable_ok (q : List Instr) (m : Master) (s : State) (h : Ok q s) :
    OkOut q (execGugEnable m s) := by
  unfold execGugEnable
  repeat' (first | (simp (contextual := true) (maxDischargeDepth := 99) only [*, gated_ok, set1_ok, ok_ite, okOut_ite, okOut_done]; done) | split | (refine gated_ok _ _ _ _ _ (by assumption) (fun t ht => ?_)) | (refine okOut_done ?_) | dsimp only)

theorem gugDisable_ok (q : List Instr) (s : State) (written : Nat) (h : Ok q s) :
    Ok q (State.gugDisable s written) := by
  unfold State.gugDisable
  simp (contextual := true) (maxDischargeDepth := 99) only [*, clr_ok, freeBytes_ok, wr_ok, gugWrite_ok, ok_ite]

theorem execGugDisable_ok (q : List Instr) (m : Master) (written : Nat) (s : State) (h : Ok q s) :
    OkOut q (execGugDisable m written s) := by
  unfold execGugDisable
  repeat' (first | (simp (contextual := true) (maxDischargeDepth := 99) only [*, gated_ok, gugDisable_ok, okOut_done]; done) | split | (refine gated_ok _ _ _ _ _ (by assumption) (fun t ht => ?_)) | (refine okOut_done ?_) | dsimp only)

theorem execGugGo_ok (q : List Instr) (m : Master) (s : State) (h : Ok q s) :
    OkOut q (execGugGo m s) := by
  unfold execGugGo
  repeat' (first | (simp (contextual := true) (maxDischargeDepth := 99) only [*, gated_ok, gugStop_ok, unitRead_ok, wr_ok, ok_ite, okOut_ite, okOut_done]; done) | split | (refine gated_ok _ _ _ _ _ (by assumption) (fun t ht => ?_)) | (refine okOut_done ?_) | dsimp only)

theorem execGugJobComplete_ok (q : List Instr) (flaw : Option (Nat × Byte)) (s : State) (h : Ok q s) :
    OkOut q (execGugJobComplete flaw s) := by
  unfold execGugJobComplete
  simp (contextual := true) (maxDischargeDepth := 99) only [*, unitRead_ok, gugWrite_ok, wr_ok, gugIrq_ok, set1_ok, gugStop_ok, incSat_ok, ok_ite, okOut_ite, okOut_done]

theorem execGugDrainComplete_ok (q : List Instr) (s : State) (h : Ok q s) :
    OkOut q (execGugDrainComplete s) := by
  unfold execGugDrainComplete
  simp (contextual := true) (maxDischargeDepth := 99) only [*, clr_ok, wr_ok, ok_ite, okOut_ite, okOut_done]

theorem execGugErrClear_ok (q : List Instr) (m : Master) (bits : Fin 16) (s : State) (h : Ok q s) :
    OkOut q (execGugErrClear m bits s) := by
  unfold execGugErrClear
  repeat' (first | (simp (contextual := true) (maxDischargeDepth := 99) only [*, gated_ok, wr_ok, settleSources_ok, ok_ite, okOut_ite, okOut_done, okParts_serr, okParts_serr_filter, okParts_kerr, okParts_ksram]; done) | split | (refine gated_ok _ _ _ _ _ (by assumption) (fun t ht => ?_)) | (refine okOut_done ?_) | dsimp only)

/-! ### Machine/Intake.lean -/

theorem execSetupDoorbell_ok (q : List Instr) (m : Master) (w : BusWidth) (v : Word) (s : State) (h : Ok q s) :
    OkOut q (execSetupDoorbell m w v s) := by
  unfold execSetupDoorbell
  repeat' (first | (simp (contextual := true) (maxDischargeDepth := 99) only [*, gated_ok, setReg_ok, wr_ok, source_ok, ok_ite, okOut_ite, okOut_done]; done) | split | (refine gated_ok _ _ _ _ _ (by assumption) (fun t ht => ?_)) | (refine okOut_done ?_) | dsimp only)

theorem setRing_ok (q : List Instr) (s : State) (rec_ : List Byte) (n : Nat) (h : Ok q s) :
    Ok q (State.setRing s rec_ n) := by
  unfold State.setRing
  simp (contextual := true) (maxDischargeDepth := 99) only [*, setReg_ok, wrBit_ok, wr_ok, ok_ite]

theorem setQueue_ok (q : List Instr) (s : State) (rec_ : List Byte) (q2 : Nat) (h : Ok q s) :
    Ok q (State.setQueue s rec_ q2) := by
  unfold State.setQueue
  simp (contextual := true) (maxDischargeDepth := 99) only [*, setReg_ok, wrBit_ok, wr_ok]

theorem execSetupRecordFetched_ok (q : List Instr) (record : Option (List Byte)) (s : State) (h : Ok q s) :
    OkOut q (execSetupRecordFetched record s) := by
  unfold execSetupRecordFetched
  extract_lets refuse
  have hr : ∀ c, Ok q (refuse c) := fun c => settleSources_ok _ _ _ (wr_ok _ _ _ _ (wr_ok _ _ _ _ h))
  clear_value refuse
  split
  · exact okOut_done h
  · split
    · exact okOut_done (hr 3)
    · split
      · exact okOut_done (hr 2)
      · extract_lets t1 t2 t3 c1 t4 t5
        have h1 : Ok q t1 := ok_foldl _ _ (fun t n ht => setRing_ok _ _ _ _ ht) h
        clear_value t1
        have h2 : Ok q t2 := setQueue_ok _ _ _ _ (setQueue_ok _ _ _ _ h1)
        clear_value t2
        have h3 : Ok q t3 := wr_ok _ _ _ _ (wr_ok _ _ _ _ h2)
        clear_value t3
        have h4 : Ok q t4 := (ok_mk ..).2 h3
        clear_value t4
        have h5 : Ok q t5 := settleSources_ok _ _ _ (wr_ok _ _ _ _ (wr_ok _ _ _ _ h4))
        exact okOut_done (retire_ok _ _ _ (retire_ok _ _ _ h5))

theorem fetchesEnd_ok (q : List Instr) (s : State) (p1 : Nat) (h : Ok q s) :
    Ok q (State.fetchesEnd s p1) := by
  unfold State.fetchesEnd
  split <;> simp (contextual := true) (maxDischargeDepth := 99) only [*, setLeaf_ok]

theorem storePlace_ok (q : List Instr) (s : State) (n : Nat) (h : Ok q s) :
    Ok q (State.storePlace s n).2 := by
  unfold State.storePlace
  have h1 := takeFree_ok q s h
  generalize s.takeFree = x at h1 ⊢
  obtain ⟨v, t⟩ := x
  dsimp only at h1 ⊢
  split
  · exact h1
  · exact h1

theorem ringStart_ok (q : List Instr) (s : State) (n : Nat) (e : SqEntry) (h : Ok q s) :
    Ok q (State.ringStart s n e) := by
  unfold State.ringStart
  simp (contextual := true) (maxDischargeDepth := 99) [*, storePlace_ok, setReg_ok, setChan_ok, set1_ok, wr_ok, ok_foldl]

theorem ringSettle_ok (q : List Instr) (s : State) (n : Nat) (h : Ok q s) :
    Ok q (State.ringSettle s n) := by
  unfold State.ringSettle
  simp (contextual := true) (maxDischargeDepth := 99) only [*, dmaDone_ok, ok_ite]

theorem linkLost_ok (q : List Instr) (s : State) (h : Ok q s) :
    Ok q (State.linkLost s) := by
  unfold State.linkLost
  simp (contextual := true) (maxDischargeDepth := 99) [*, fetchesEnd_ok, ringsOff_ok, ringSettle_ok, intake_ok, ok_mk, okParts_of, ok_foldl]

theorem execPcieLinkReset_ok (q : List Instr) (down : Bool) (bme : Bool) (s : State) (h : Ok q s) :
    OkOut q (execPcieLinkReset down bme s) := by
  unfold execPcieLinkReset
  simp (contextual := true) (maxDischargeDepth := 99) only [*, linkLost_ok, wrBit_ok, linkRuns_ok, ok_ite, okOut_ite, okOut_done]

theorem execPcieLinkTrained_ok (q : List Instr) (speed : Fin 8) (width : Nat) (ltssm : Fin 64) (bme : Bool) (s : State) (h : Ok q s) :
    OkOut q (execPcieLinkTrained speed width ltssm bme s) := by
  unfold execPcieLinkTrained
  simp (contextual := true) (maxDischargeDepth := 99) only [*, wrBit_ok, wr_ok, linkRuns_ok, ok_mk, okParts_of, ok_ite, okOut_ite, okOut_done]

theorem execPcieFatalError_ok (q : List Instr) (s : State) (h : Ok q s) :
    OkOut q (execPcieFatalError s) := by
  unfold execPcieFatalError
  simp (contextual := true) (maxDischargeDepth := 99) only [*, linkLost_ok, aerReport_ok, linkRuns_ok, clr_ok, okOut_done, okParts_serr, okParts_serr_filter, okParts_kerr, okParts_ksram]

theorem execPcieCorrectableError_ok (q : List Instr) (s : State) (h : Ok q s) :
    OkOut q (execPcieCorrectableError s) := by
  unfold execPcieCorrectableError
  simp (contextual := true) (maxDischargeDepth := 99) only [*, bucketReport_ok, aerReport_ok, okOut_done, okParts_serr, okParts_serr_filter, okParts_kerr, okParts_ksram]

theorem execUnexpectedCompletion_ok (q : List Instr) (s : State) (h : Ok q s) :
    OkOut q (execUnexpectedCompletion s) := by
  unfold execUnexpectedCompletion
  simp (contextual := true) (maxDischargeDepth := 99) only [*, aerReport_ok, okOut_done]

theorem execPerstRelease_ok (q : List Instr) (s : State) (h : Ok q s) :
    OkOut q (execPerstRelease s) := by
  unfold execPerstRelease
  simp (contextual := true) (maxDischargeDepth := 99) only [*, wr_ok, ok_mk, okParts_of, okOut_done]

theorem execSqTailDoorbell_ok (q : List Instr) (m : Master) (n : Fin 4) (tail : Nat) (s : State) (h : Ok q s) :
    OkOut q (execSqTailDoorbell m n tail s) := by
  unfold execSqTailDoorbell
  repeat' (first | (simp (contextual := true) (maxDischargeDepth := 99) only [*, gated_ok, wr_ok, ok_ite, okOut_ite, okOut_done]; done) | split | (refine gated_ok _ _ _ _ _ (by assumption) (fun t ht => ?_)) | (refine okOut_done ?_) | dsimp only)

theorem startFetch_ok (q : List Instr) (s : State) (p1 : Nat) (ring : Nat) (l : Leaf) (e : SqEntry) (h : Ok q s) :
    Ok q (State.startFetch s p1 ring l e) := by
  unfold State.startFetch
  simp (contextual := true) (maxDischargeDepth := 99) only [*, setLeaf_ok, folShow_ok, ringStart_ok, ok_mk, okParts_of, ok_ite]

theorem execSubmissionEntryRead_ok (q : List Instr) (n : Fin 4) (entry : List Byte) (s : State) (h : Ok q s) :
    OkOut q (execSubmissionEntryRead n entry s) := by
  unfold execSubmissionEntryRead
  repeat' (first | (simp (contextual := true) (maxDischargeDepth := 99) only [*, intake_ok, wr_ok, completeEntry_ok, startFetch_ok, ok_mk, okParts_of, ok_ite, okOut_ite, okOut_done]; done) | split | (refine okOut_done ?_) | dsimp only)

theorem endFetch_ok (q : List Instr) (s : State) (p1 : Nat) (seq : Nat) (h : Ok q s) :
    ∀ x t, State.endFetch s p1 seq = some (x, t) → Ok q t := by
  unfold State.endFetch
  repeat' (first | (simp (contextual := true) (maxDischargeDepth := 99) [*, ringSettle_ok, ok_mk, okParts_of]; done) | split | dsimp only)

theorem storeBlock_ok (q : List Instr) (s : State) (p1 : Nat) (seq : Nat) (data : List Byte) (poison : Nat) (h : Ok q s) :
    Ok q (State.storeBlock s p1 seq data poison) := by
  unfold State.storeBlock
  split
  · rename_i e s1 l he hl
    have h1 : Ok q s1 := endFetch_ok q s p1 seq h _ _ he
    have h2 := completeEntry_ok q s1 e.1 e.2.2.tag e.2.2.leaf seq 0x01 h1
    dsimp only
    split
    · exact h2
    · exact ok_ite _ _ _ (setLeaf_ok _ _ _ _ h2) (setLeaf_ok _ _ _ _ h2)
  · exact h

theorem execBlockDataReceived_ok (q : List Instr) (p0 : Fin 2) (seq : Nat) (data : List Byte) (s : State) (h : Ok q s) :
    OkOut q (execBlockDataReceived p0 seq data s) := by
  unfold execBlockDataReceived
  simp (contextual := true) (maxDischargeDepth := 99) only [*, folShow_ok, storeBlock_ok, ok_ite, okOut_ite, okOut_done]

theorem execPoisonedCompletion_ok (q : List Instr) (p0 : Fin 2) (seq : Nat) (data : List Byte) (s : State) (h : Ok q s) :
    OkOut q (execPoisonedCompletion p0 seq data s) := by
  unfold execPoisonedCompletion
  have h1 := intake_ok q _ F.HIF_INTAKE_STATUS.RX_POISON (storeBlock_ok q _ p0.val seq data 1 (aerReport_ok q s 1 h))
  generalize ((s.aerReport 1).storeBlock p0.val seq data 1).intake F.HIF_INTAKE_STATUS.RX_POISON = t at h1 ⊢
  split
  · exact okOut_done h
  · dsimp only
    split
    · exact okOut_done h1
    · split
      · exact okOut_done (ok_ite _ _ _ h1 (folShow_ok _ _ (checkFail_ok _ _ _ _ _ h1)))
      · exact okOut_done h1

theorem execCompletionTimeout_ok (q : List Instr) (k : Fin 16) (p1 : Fin 2) (read : LostRead) (s : State) (h : Ok q s) :
    OkOut q (execCompletionTimeout k p1 read s) := by
  unfold execCompletionTimeout
  split
  · exact okOut_done (ok_ite _ _ _ (dmaTimeout_ok _ _ _ _ (aerReport_ok _ _ _ h)) h)
  · split
    · rename_i e s1 l he hl
      have h1 : Ok q s1 := endFetch_ok q s p1.val read.seq h _ _ he
      have h2 := intake_ok q _ F.HIF_INTAKE_STATUS.HOST_TIMEOUT (aerReport_ok q s1 2 h1)
      dsimp only
      generalize (s1.aerReport 2).intake F.HIF_INTAKE_STATUS.HOST_TIMEOUT = t at h2 ⊢
      split
      · exact okOut_done h2
      · rename_i b _
        have h3 := refetch_ok q t l.id b.tag read.seq 4 h2
        generalize t.refetch l.id b.tag read.seq 4 = x at h3 ⊢
        obtain ⟨u, kept⟩ := x
        exact okOut_done (setLeaf_ok _ _ _ _ h3)
    · exact okOut_done h

theorem ringTimeout_ok (q : List Instr) (s : State) (k : Nat) (readData : List Byte) (h : Ok q s) :
    Ok q (State.ringTimeout s k readData) := by
  unfold State.ringTimeout
  split <;> simp (contextual := true) (maxDischargeDepth := 99) only [*, dmaStop_ok, storeBlock_ok, ok_ite]

theorem execDmaBusTimeout_ok (q : List Instr) (k : Fin 16) (readData : List Byte) (s : State) (h : Ok q s) :
    OkOut q (execDmaBusTimeout k readData s) := by
  unfold execDmaBusTimeout
  simp (contextual := true) (maxDischargeDepth := 99) only [*, set1_ok, folShow_ok, ringTimeout_ok, dmaTimeout_ok, ok_ite, okOut_ite, okOut_done]

theorem setUsed_ok (q : List Instr) (s : State) (q1 : Nat) (n : Nat) (h : Ok q s) :
    Ok q (State.setUsed s q1 n) := by
  unfold State.setUsed
  simp (contextual := true) (maxDischargeDepth := 99) only [*, ok_mk, okParts_of, ok_ite]

theorem hqPut_ok (q : List Instr) (s : State) (q1 : Nat) (size : Nat) (bytes : Bool → List Byte) (h : Ok q s) :
    Ok q (State.hqPut s q1 size bytes) := by
  unfold State.hqPut
  simp (contextual := true) (maxDischargeDepth := 99) only [*, hostWrite_ok, wr_ok, wrBit_ok, setUsed_ok, ok_ite]

theorem execCompletionPosted_ok (q : List Instr) (s : State) (h : Ok q s) :
    OkOut q (execCompletionPosted s) := by
  unfold execCompletionPosted
  split <;> simp (contextual := true) (maxDischargeDepth := 99) only [*, hqPut_ok, vector_ok, ok_mk, okParts_of, ok_ite, okOut_ite, okOut_done]

theorem execRetiredTimerExpiry_ok (q : List Instr) (p0 : Fin 2) (s : State) (h : Ok q s) :
    OkOut q (execRetiredTimerExpiry p0 s) := by
  unfold execRetiredTimerExpiry
  split <;> simp (contextual := true) (maxDischargeDepth := 99) only [*, retire_ok, ok_ite, okOut_ite, okOut_done]

theorem execHqHeadWrite_ok (q : List Instr) (m : Master) (q1 : Fin 2) (head : Nat) (s : State) (h : Ok q s) :
    OkOut q (execHqHeadWrite m q1 head s) := by
  unfold execHqHeadWrite
  repeat' (first | (simp (contextual := true) (maxDischargeDepth := 99) only [*, gated_ok, setUsed_ok, wr_ok, intake_ok, ok_ite, okOut_ite, okOut_done]; done) | split | (refine gated_ok _ _ _ _ _ (by assumption) (fun t ht => ?_)) | (refine okOut_done ?_) | dsimp only)

theorem execRefetchRequestPosted_ok (q : List Instr) (s : State) (h : Ok q s) :
    OkOut q (execRefetchRequestPosted s) := by
  unfold execRefetchRequestPosted
  split <;> simp (contextual := true) (maxDischargeDepth := 99) only [*, hqPut_ok, vector_ok, ok_mk, okParts_of, ok_ite, okOut_ite, okOut_done]

theorem execMsixSend_ok (q : List Instr) (v : Fin 64) (s : State) (h : Ok q s) :
    OkOut q (execMsixSend v s) := by
  unfold execMsixSend
  simp (contextual := true) (maxDischargeDepth := 99) only [*, ok_mk, okParts_of, ok_ite, okOut_ite, okOut_done]

theorem execCqModDelayExpiry_ok (q : List Instr) (s : State) (h : Ok q s) :
    OkOut q (execCqModDelayExpiry s) := by
  unfold execCqModDelayExpiry
  simp (contextual := true) (maxDischargeDepth := 99) only [*, vector_ok, ok_mk, okParts_of, ok_ite, okOut_ite, okOut_done]

theorem execMsixUnmask_ok (q : List Instr) (v : Fin 64) (s : State) (h : Ok q s) :
    OkOut q (execMsixUnmask v s) := by
  unfold execMsixUnmask
  simp (contextual := true) (maxDischargeDepth := 99) only [*, ok_mk, okParts_of, ok_ite, okOut_ite, okOut_done]

/-! ### Machine/SurveyOps.lean -/

theorem setPipe_ok (q : List Instr) (s : State) (p1 : Nat) (x : SvyPipe) (h : Ok q s) :
    Ok q (State.setPipe s p1 x) := by
  unfold State.setPipe
  simp (contextual := true) (maxDischargeDepth := 99) only [*, ok_mk, okParts_of, okParts_grp, okParts_svy]

theorem onPipe_ok (q : List Instr) (s : State) (p1 : Nat) (f : SvyPipe → SvyPipe) (h : Ok q s) :
    Ok q (State.onPipe s p1 f) := by
  unfold State.onPipe
  simp (contextual := true) (maxDischargeDepth := 99) only [*, setPipe_ok]

theorem frameStore_ok (q : List Instr) (s : State) (p1 : Nat) (f : SvyFrame) (h : Ok q s) :
    Ok q (State.frameStore s p1 f) := by
  unfold State.frameStore
  split <;> simp (contextual := true) (maxDischargeDepth := 99) only [*, unitWrite_ok]

theorem frameReads_ok (q : List Instr) (s : State) (p1 : Nat) (fs : List SvyFrame) (h : Ok q s) :
    Ok q (State.frameReads s p1 fs) := by
  unfold State.frameReads
  repeat' (first | (simp (contextual := true) (maxDischargeDepth := 99) only [*, unitRead_ok, ok_foldl]; done) | split | (refine ok_foldl _ _ (fun t x ht => ?_) ?_) | dsimp only)

theorem svyDrop_ok (q : List Instr) (s : State) (p1 : Nat) (f : Field) (h : Ok q s) :
    Ok q (State.svyDrop s p1 f) := by
  unfold State.svyDrop
  simp (contextual := true) (maxDischargeDepth := 99) only [*, incSat_ok, set1_ok]

theorem runDrop_ok (q : List Instr) (s : State) (p1 : Nat) (h : Ok q s) :
    Ok q (State.runDrop s p1) := by
  unfold State.runDrop
  simp (contextual := true) (maxDischargeDepth := 99) only [*, svyDrop_ok, onPipe_ok, ok_ite]

theorem groupDone_ok (q : List Instr) (s : State) (p1 : Nat) (early : List SvyFrame) (f : SvyFrame) (h : Ok q s) :
    Ok q (State.groupDone s p1 early f) := by
  unfold State.groupDone
  simp (contextual := true) (maxDischargeDepth := 99) only [*, onPipe_ok, svyDrop_ok, frameReads_ok, ok_ite]

theorem groupTake_ok (q : List Instr) (s : State) (p1 : Nat) (f : SvyFrame) (h : Ok q s) :
    Ok q (State.groupTake s p1 f) := by
  unfold State.groupTake
  simp (contextual := true) (maxDischargeDepth := 99) only [*, runDrop_ok, groupDone_ok, onPipe_ok, ok_ite]

theorem frameClose_ok (q : List Instr) (s : State) (p1 : Nat) (bad : Bool) (h : Ok q s) :
    Ok q (State.frameClose s p1 bad) := by
  unfold State.frameClose
  split <;> simp (contextual := true) (maxDischargeDepth := 99) only [*, incSat_ok, onPipe_ok, set1_ok, groupTake_ok, frameStore_ok, ok_ite]

theorem frameBad_ok (q : List Instr) (s : State) (p1 : Nat) (h : Ok q s) :
    Ok q (State.frameBad s p1) := by
  unfold State.frameBad
  simp (contextual := true) (maxDischargeDepth := 99) only [*, onPipe_ok]

theorem heldBefore_ok (q : List Instr) (s : State) (p1 : Nat) (h : Ok q s) :
    Ok q (State.heldBefore s p1) := by
  unfold State.heldBefore
  repeat' (first | (simp (contextual := true) (maxDischargeDepth := 99) only [*, runDrop_ok, onPipe_ok, ok_ite]; done) | split | dsimp only)

theorem retag_ok (q : List Instr) (s : State) (p1 : Nat) (a : Nat) (tag : SvyTag) (h : Ok q s) :
    Ok q (State.retag s p1 a tag) := by
  unfold State.retag
  repeat' (first | (simp (contextual := true) (maxDischargeDepth := 99) only [*, groupTake_ok, setPipe_ok, ok_ite, ok_foldl]; done) | split | (refine ok_foldl _ _ (fun t x ht => ?_) ?_) | dsimp only)

/-! ### Machine/Survey.lean -/

theorem defectSwap_ok (q : List Instr) (s : State) (p1 : Nat) (h : Ok q s) :
    Ok q (State.defectSwap s p1) := by
  unfold State.defectSwap
  simp (contextual := true) (maxDischargeDepth := 99) only [*, clr_ok, onPipe_ok, set1_ok, ok_ite]

theorem parTake_ok (q : List Instr) (s : State) (p1 : Nat) (h : Ok q s) :
    Ok q (State.parTake s p1) := by
  unfold State.parTake
  simp (contextual := true) (maxDischargeDepth := 99) only [*, defectSwap_ok, onPipe_ok]

theorem frameTake_ok (q : List Instr) (s : State) (p1 : Nat) (h : Ok q s) :
    Ok q (State.frameTake s p1).1 := by
  unfold State.frameTake
  simp (contextual := true) (maxDischargeDepth := 99) only [*, wr_ok, svyDrop_ok, ok_ite, ok_ite_fst]

theorem execSvyFrameStart_ok (q : List Instr) (p0 : Fin 2) (fnum : BitVec 16) (s : State) (h : Ok q s) :
    OkOut q (execSvyFrameStart p0 fnum s) := by
  unfold execSvyFrameStart
  simp (contextual := true) (maxDischargeDepth := 99) only [*, frameClose_ok, set1_ok, heldBefore_ok, setPipe_ok, parTake_ok, wrBit_ok, wr_ok, incSat_ok, frameTake_ok, onPipe_ok, ok_ite, okOut_ite, okOut_done]

theorem execSvyLinePacket_ok (q : List Instr) (p0 : Fin 2) (data : List Byte) (crcOk : Bool) (s : State) (h : Ok q s) :
    OkOut q (execSvyLinePacket p0 data crcOk s) := by
  unfold execSvyLinePacket
  repeat' (first | (simp (contextual := true) (maxDischargeDepth := 99) only [*, bucketReport_ok, frameBad_ok, set1_ok, onPipe_ok, ok_ite, okOut_ite, okOut_done]; done) | split | (refine okOut_done ?_) | dsimp only)

theorem execSvyFrameEnd_ok (q : List Instr) (p0 : Fin 2) (fnum : BitVec 16) (s : State) (h : Ok q s) :
    OkOut q (execSvyFrameEnd p0 fnum s) := by
  unfold execSvyFrameEnd
  repeat' (first | (simp (contextual := true) (maxDischargeDepth := 99) only [*, frameClose_ok, ok_ite, okOut_ite, okOut_done]; done) | split | (refine okOut_done ?_) | dsimp only)

theorem execSvyForeignPacket_ok (q : List Instr) (p0 : Fin 2) (vc : BitVec 4) (dt : BitVec 6) (s : State) (h : Ok q s) :
    OkOut q (execSvyForeignPacket p0 vc dt s) := by
  unfold execSvyForeignPacket
  simp (contextual := true) (maxDischargeDepth := 99) only [*, incSat_ok, set1_ok, wr_ok, ok_ite, okOut_ite, okOut_done]

theorem execSvyEmbeddedPacket_ok (q : List Instr) (x0 : Fin 2) (s : State) (h : Ok q s) :
    OkOut q (execSvyEmbeddedPacket x0 s) := by
  unfold execSvyEmbeddedPacket
  simp (contextual := true) (maxDischargeDepth := 99) only [*, okOut_done]

theorem execSvyDphyError_ok (q : List Instr) (p0 : Fin 2) (s : State) (h : Ok q s) :
    OkOut q (execSvyDphyError p0 s) := by
  unfold execSvyDphyError
  simp (contextual := true) (maxDischargeDepth := 99) only [*, frameBad_ok, set1_ok, ok_ite, okOut_ite, okOut_done, okParts_serr, okParts_serr_filter, okParts_kerr, okParts_ksram]

theorem execSvyHeaderEccError_ok (q : List Instr) (p0 : Fin 2) (s : State) (h : Ok q s) :
    OkOut q (execSvyHeaderEccError p0 s) := by
  unfold execSvyHeaderEccError
  simp (contextual := true) (maxDischargeDepth := 99) only [*, bucketReport_ok, frameBad_ok, set1_ok, ok_ite, okOut_ite, okOut_done, okParts_serr, okParts_serr_filter, okParts_kerr, okParts_ksram]

theorem setRefuse_ok (q : List Instr) (s : State) (p1 : Nat) (cause : Nat) (h : Ok q s) :
    Ok q (State.setRefuse s p1 cause) := by
  unfold State.setRefuse
  simp (contextual := true) (maxDischargeDepth := 99) only [*, set1_ok, wr_ok]

theorem execSvySetSubmit_ok (q : List Instr) (m : Master) (p1 : Fin 2) (v : BitVec 32) (s : State) (h : Ok q s) :
    OkOut q (execSvySetSubmit m p1 v s) := by
  unfold execSvySetSubmit
  repeat' (first | (simp (contextual := true) (maxDischargeDepth := 99) only [*, gated_ok, setRefuse_ok, setPipe_ok, wr_ok, ok_ite, okOut_ite, okOut_done]; done) | split | (refine gated_ok _ _ _ _ _ (by assumption) (fun t ht => ?_)) | (refine okOut_done ?_) | dsimp only)

theorem listEnd_ok (q : List Instr) (s : State) (p1 : Nat) (e : SvySend) (failed : Bool) (h : Ok q s) :
    Ok q (State.listEnd s p1 e failed) := by
  unfold State.listEnd
  simp (contextual := true) (maxDischargeDepth := 99) only [*, setPipe_ok, addSat_ok, onPipe_ok, retag_ok, set1_ok, wr_ok, ok_ite]

theorem listDone_ok (q : List Instr) (s : State) (p1 : Nat) (e : SvySend) (h : Ok q s) :
    Ok q (State.listDone s p1 e) := by
  unfold State.listDone
  simp (contextual := true) (maxDischargeDepth := 99) only [*, set1_ok, listEnd_ok, ok_ite]

theorem listFail_ok (q : List Instr) (s : State) (p1 : Nat) (cause : Nat) (h : Ok q s) :
    Ok q (State.listFail s p1 cause) := by
  unfold State.listFail
  split <;> simp (contextual := true) (maxDischargeDepth := 99) only [*, set1_ok, wr_ok, listEnd_ok, onPipe_ok, bucketReport_ok, ok_ite]

theorem i2cBegin_ok (q : List Instr) (s : State) (p1 : Nat) (sdaLow : Bool) (h : Ok q s) :
    Ok q (State.i2cBegin s p1 sdaLow) := by
  unfold State.i2cBegin
  repeat' (first | (simp (contextual := true) (maxDischargeDepth := 99) only [*, onPipe_ok, ok_ite]; done) | split | dsimp only)

theorem listStart_ok (q : List Instr) (s : State) (p1 : Nat) (sdaLow : Bool) (h : Ok q s) :
    Ok q (State.listStart s p1 sdaLow) := by
  unfold State.listStart
  repeat' (first | (simp (contextual := true) (maxDischargeDepth := 99) only [*, setPipe_ok, wr_ok, listDone_ok, i2cBegin_ok, ok_ite]; done) | split | dsimp only)

theorem execSvyListStart_ok (q : List Instr) (bus : BusStart) (s : State) (h : Ok q s) :
    OkOut q (execSvyListStart bus s) := by
  unfold execSvyListStart
  simp (contextual := true) (maxDischargeDepth := 99) only [*, listStart_ok, ok_ite, okOut_ite, okOut_done]

theorem execSvyFrameTimeout_ok (q : List Instr) (bus : BusStart) (s : State) (h : Ok q s) :
    OkOut q (execSvyFrameTimeout bus s) := by
  unfold execSvyFrameTimeout
  simp (contextual := true) (maxDischargeDepth := 99) only [*, listStart_ok, clr_ok, ok_ite, okOut_ite, okOut_done]

theorem execI2cWriteDone_ok (q : List Instr) (p0 : Fin 2) (end_ : BusEnd) (s : State) (h : Ok q s) :
    OkOut q (execI2cWriteDone p0 end_ s) := by
  unfold execI2cWriteDone
  split <;> simp (contextual := true) (maxDischargeDepth := 99) only [*, listFail_ok, onPipe_ok, i2cBegin_ok, ok_ite, okOut_ite, okOut_done]

theorem execI2cStretchTimeout_ok (q : List Instr) (p0 : Fin 2) (s : State) (h : Ok q s) :
    OkOut q (execI2cStretchTimeout p0 s) := by
  unfold execI2cStretchTimeout
  simp (contextual := true) (maxDischargeDepth := 99) only [*, listFail_ok, okOut_done]

theorem execSvyListComplete_ok (q : List Instr) (p0 : Fin 2) (s : State) (h : Ok q s) :
    OkOut q (execSvyListComplete p0 s) := by
  unfold execSvyListComplete
  split <;> simp (contextual := true) (maxDischargeDepth := 99) only [*, listDone_ok, ok_ite, okOut_ite, okOut_done]

theorem execSvyRecordWritten_ok (q : List Instr) (p0 : Fin 2) (s : State) (h : Ok q s) :
    OkOut q (execSvyRecordWritten p0 s) := by
  unfold execSvyRecordWritten
  split <;> simp (contextual := true) (maxDischargeDepth := 99) only [*, onPipe_ok, unitWrite_ok, wr_ok, source_ok, ok_ite, okOut_ite, okOut_done]

theorem execSvyConfigWrite_ok (q : List Instr) (m : Master) (p1 : Fin 2) (which : Fin 3) (w : BusWidth) (upper : Bool) (v : BitVec 64) (s : State) (h : Ok q s) :
    OkOut q (execSvyConfigWrite m p1 which w upper v s) := by
  unfold execSvyConfigWrite
  repeat' (first | (simp (contextual := true) (maxDischargeDepth := 99) only [*, gated_ok, setReg_ok, set1_ok, ok_ite, okOut_ite, okOut_done]; done) | split | (refine gated_ok _ _ _ _ _ (by assumption) (fun t ht => ?_)) | (refine okOut_done ?_) | dsimp only)

theorem execSvyDefectSwap_ok (q : List Instr) (m : Master) (p1 : Fin 2) (count : BitVec 13) (s : State) (h : Ok q s) :
    OkOut q (execSvyDefectSwap m p1 count s) := by
  unfold execSvyDefectSwap
  repeat' (first | (simp (contextual := true) (maxDischargeDepth := 99) only [*, gated_ok, set1_ok, wr_ok, okOut_done]; done) | split | (refine gated_ok _ _ _ _ _ (by assumption) (fun t ht => ?_)) | (refine okOut_done ?_) | dsimp only)

theorem svyFree_ok (q : List Instr) (s : State) (p1 : Nat) (f : Field) (next : Field) (v : Nat) (h : Ok q s) :
    Ok q (State.svyFree s p1 f next v) := by
  unfold State.svyFree
  simp (contextual := true) (maxDischargeDepth := 99) only [*, wr_ok, set1_ok, ok_ite]

theorem execSvyAckWrite_ok (q : List Instr) (m : Master) (p1 : Fin 2) (w : BusWidth) (upper : Bool) (v : BitVec 64) (s : State) (h : Ok q s) :
    OkOut q (execSvyAckWrite m p1 w upper v s) := by
  unfold execSvyAckWrite
  simp (contextual := true) (maxDischargeDepth := 99) [*, gated_ok, halfWrite_ok, svyFree_ok, settleSources_ok, okOut_done]

theorem svyStart_ok (q : List Instr) (s : State) (p1 : Nat) (h : Ok q s) :
    Ok q (State.svyStart s p1) := by
  unfold State.svyStart
  simp (contextual := true) (maxDischargeDepth := 99) only [*, onPipe_ok, wr_ok]

theorem execSvyEnable_ok (q : List Instr) (m : Master) (p1 : Fin 2) (s : State) (h : Ok q s) :
    OkOut q (execSvyEnable m p1 s) := by
  unfold execSvyEnable
  repeat' (first | (simp (contextual := true) (maxDischargeDepth := 99) only [*, gated_ok, set1_ok, svyStart_ok, ok_ite, okOut_ite, okOut_done]; done) | split | (refine gated_ok _ _ _ _ _ (by assumption) (fun t ht => ?_)) | (refine okOut_done ?_) | dsimp only)

theorem svyDisable_ok (q : List Instr) (s : State) (p1 : Nat) (h : Ok q s) :
    Ok q (State.svyDisable s p1) := by
  unfold State.svyDisable
  simp (contextual := true) (maxDischargeDepth := 99) only [*, clr_ok, onPipe_ok, wr_ok, ok_ite]

theorem execSvyDisable_ok (q : List Instr) (m : Master) (p1 : Fin 2) (s : State) (h : Ok q s) :
    OkOut q (execSvyDisable m p1 s) := by
  unfold execSvyDisable
  repeat' (first | (simp (contextual := true) (maxDischargeDepth := 99) only [*, gated_ok, svyDisable_ok, okOut_done]; done) | split | (refine gated_ok _ _ _ _ _ (by assumption) (fun t ht => ?_)) | (refine okOut_done ?_) | dsimp only)

theorem execSvyDrainComplete_ok (q : List Instr) (p0 : Fin 2) (s : State) (h : Ok q s) :
    OkOut q (execSvyDrainComplete p0 s) := by
  unfold execSvyDrainComplete
  simp (contextual := true) (maxDischargeDepth := 99) only [*, svyStart_ok, clr_ok, wr_ok, ok_ite, okOut_ite, okOut_done]

/-! ### Machine/Keeper.lean -/

theorem docentsStop_ok (q : List Instr) (s : State) (h : Ok q s) :
    Ok q (State.docentsStop s) := by
  unfold State.docentsStop
  extract_lets t1 t2 t3 t4 t5 t6 t7 c1
  have h1 : Ok q t1 := ok_foldl _ _ (fun t k ht => dmaDisable_ok _ _ _ _ ht) h
  clear_value t1
  have h2 : Ok q t2 := gugDisable_ok _ _ _ h1
  clear_value t2
  have h3 : Ok q t3 := axDisable_ok _ _ (svyDisable_ok _ _ _ (svyDisable_ok _ _ _ h2))
  clear_value t3
  have h4 : Ok q t4 := ok_foldl _ _ (fun t k ht => wr_ok _ _ _ _ ht) h3
  clear_value t4
  have h5 : Ok q t5 := clr_ok _ _ _ (wr_ok _ _ _ _ (wr_ok _ _ _ _ h4))
  clear_value t5
  have h6 : Ok q t6 := wr_ok _ _ _ _ h5
  clear_value t6
  have h7 : Ok q t7 := sramWrite_ok _ _ _ _ _ h6
  clear_value t7
  exact (ok_mk ..).2 h7

theorem restartRecord_ok (q : List Instr) (s : State) (cause : Nat) (core : Nat) (mepc : Nat) (held : Bool) (h : Ok q s) :
    Ok q (State.restartRecord s cause core mepc held) := by
  unfold State.restartRecord
  simp (contextual := true) (maxDischargeDepth := 99) only [*, aclLog_ok, ok_ite]

theorem restartJoin_ok (q : List Instr) (s : State) (cause : Nat) (core : Nat) (mepc : Nat) (h : Ok q s) :
    Ok q (State.restartJoin s cause core mepc) := by
  unfold State.restartJoin
  simp (contextual := true) (maxDischargeDepth := 99) only [*, wr_ok, recordAmend_ok, ok_mk, okParts_of, ok_ite]

theorem docRestart_ok (q : List Instr) (s : State) (cause : Nat) (core : Nat) (mepc : Nat) (h : Ok q s) :
    Ok q (State.docRestart s cause core mepc) := by
  unfold State.docRestart
  refine ok_ite _ _ _ h (ok_ite _ _ _ (restartJoin_ok _ _ _ _ _ h) ?_)
  extract_lets c1 t n held t1 t2 w c2 v c3
  have h0 : Ok q t := (ok_mk ..).2 h
  have h1 : Ok q t1 := wr_ok _ _ _ _ (docentsStop_ok _ _ h0)
  clear_value t1
  have h2 : Ok q t2 := ok_ite _ _ _ h1 (wr_ok _ _ _ _ h1)
  clear_value t2
  have h3 : Ok q w := wr_ok _ _ _ _ h2
  have h4 : Ok q v := wr_ok _ _ _ _ (wr_ok _ _ _ _ h2)
  clear_value w v
  refine ok_ite _ _ _ (restartRecord_ok _ _ _ _ _ _ ((ok_mk ..).2 h3)) ?_
  exact (ok_mk ..).2 (okParts_serr_nil (okParts_mark_nil (okParts_sram_nil h4)))

theorem execDocWdogKick_ok (q : List Instr) (m : Master) (c : Fin 8) (s : State) (h : Ok q s) :
    OkOut q (execDocWdogKick m c s) := by
  unfold execDocWdogKick
  repeat' (first | (simp (contextual := true) (maxDischargeDepth := 99) only [*, gated_ok, ok_mk, okParts_of, okOut_done]; done) | split | (refine gated_ok _ _ _ _ _ (by assumption) (fun t ht => ?_)) | (refine okOut_done ?_) | dsimp only)

theorem execDocWatchdogExpiry_ok (q : List Instr) (c : Fin 8) (mepc : BitVec 64) (s : State) (h : Ok q s) :
    OkOut q (execDocWatchdogExpiry c mepc s) := by
  unfold execDocWatchdogExpiry
  simp (contextual := true) (maxDischargeDepth := 99) only [*, docRestart_ok, ok_ite, okOut_ite, okOut_done]

theorem execDocLockup_ok (q : List Instr) (c : Fin 8) (mepc : BitVec 64) (s : State) (h : Ok q s) :
    OkOut q (execDocLockup c mepc s) := by
  unfold execDocLockup
  simp (contextual := true) (maxDischargeDepth := 99) only [*, docRestart_ok, ok_ite, okOut_ite, okOut_done]

theorem execDocCtlRestart_ok (q : List Instr) (m : Master) (mepc : BitVec 64) (s : State) (h : Ok q s) :
    OkOut q (execDocCtlRestart m mepc s) := by
  unfold execDocCtlRestart
  repeat' (first | (simp (contextual := true) (maxDischargeDepth := 99) only [*, gated_ok, docRestart_ok, okOut_done]; done) | split | (refine gated_ok _ _ _ _ _ (by assumption) (fun t ht => ?_)) | (refine okOut_done ?_) | dsimp only)

theorem execDocRestartComplete_ok (q : List Instr) (ok : Bool) (s : State) (h : Ok q s) :
    OkOut q (execDocRestartComplete ok s) := by
  unfold execDocRestartComplete
  split <;> simp (contextual := true) (maxDischargeDepth := 99) only [*, failStart_ok, notice_ok, wr_ok, docentCopy_ok, restartRecord_ok, ok_mk, okParts_of, ok_ite, okOut_ite, okOut_done]

theorem execDocRestartAgeOut_ok (q : List Instr) (s : State) (h : Ok q s) :
    OkOut q (execDocRestartAgeOut s) := by
  unfold execDocRestartAgeOut
  simp (contextual := true) (maxDischargeDepth := 99) only [*, wr_ok, okOut_done]

theorem execKprReqPush_ok (q : List Instr) (m : Master) (s : State) (h : Ok q s) :
    OkOut q (execKprReqPush m s) := by
  unfold execKprReqPush
  repeat' (first | (simp (contextual := true) (maxDischargeDepth := 99) only [*, gated_ok, set1_ok, wr_ok, ok_mk, okParts_of, ok_ite, okOut_ite, okOut_done]; done) | split | (refine gated_ok _ _ _ _ _ (by assumption) (fun t ht => ?_)) | (refine okOut_done ?_) | dsimp only)

theorem answer_ok (q : List Instr) (s : State) (tag : Nat) (code : Nat) (h : Ok q s) :
    Ok q (State.answer s tag code) := by
  unfold State.answer
  simp (contextual := true) (maxDischargeDepth := 99) [*, notice_ok, set1_ok, ok_whenD]

theorem serve_ok (q : List Instr) (s : State) (code : Nat) (args : List Nat) (good : List Byte → Bool)
    (f : State → Nat → KprReq → State) (h : Ok q s) (hf : ∀ t a r, Ok q t → Ok q (f t a r)) :
    Ok q (State.serve s code args good f) := by
  unfold State.serve
  split
  · exact h
  · rename_i r rest hr
    extract_lets c tag c1 t u
    have h1 : Ok q t := (ok_mk ..).2 h
    clear_value t
    have h2 : Ok q u := incSat_ok _ _ _ (wr_ok _ _ _ _ h1)
    clear_value u
    exact ok_ite _ _ _ h (ok_ite _ _ _ (answer_ok _ _ _ _ h2) (ok_ite _ _ _ (answer_ok _ _ _ _ h2) (hf _ _ _ h2)))

theorem tableSend_ok (q : List Instr) (s : State) (leaf : Nat) (crc : Nat) (tag : Nat) (h : Ok q s) :
    Ok q (State.tableSend s leaf crc tag) := by
  unfold State.tableSend
  simp (contextual := true) (maxDischargeDepth := 99) [*, iklSend_ok, unitRead_ok, ok_mk, okParts_of, ok_foldl]

theorem execCommitTable_ok (q : List Instr) (s : State) (h : Ok q s) :
    OkOut q (execCommitTable s) := by
  unfold execCommitTable
  refine okOut_done (serve_ok _ _ _ _ _ _ h (fun t tag r ht => ?_))
  extract_lets leaf crc c1 c2 u
  have h1 : Ok q u := (ok_mk ..).2 (wr_ok q t F.BCT_COMMIT_CRC.CRC crc ht)
  clear_value u
  exact ok_ite _ _ _ (answer_ok _ _ _ _ ht) (ok_ite _ _ _ (tableSend_ok _ _ _ _ _ ht) (commitGo_ok _ _ _ h1))

theorem execYield_ok (q : List Instr) (s : State) (h : Ok q s) :
    OkOut q (execYield s) := by
  unfold execYield
  simp (contextual := true) (maxDischargeDepth := 99) [*, serve_ok, answer_ok, yieldAsk_ok, okOut_done]

theorem execRetrain_ok (q : List Instr) (s : State) (h : Ok q s) :
    OkOut q (execRetrain s) := by
  unfold execRetrain
  simp (contextual := true) (maxDischargeDepth := 99) [*, serve_ok, memRetrain_ok, answer_ok, ok_mk, okParts_of, ok_ite, okOut_ite, okOut_done]

theorem execLink_ok (q : List Instr) (s : State) (h : Ok q s) :
    OkOut q (execLink s) := by
  unfold execLink
  refine okOut_done (serve_ok _ _ _ _ _ _ h (fun t a r ht => answer_ok _ _ _ _ ?_))
  split
  · exact blkDisable_ok _ _ ht
  · exact blkEnable_ok _ _ ht
  · exact blkStepUp_ok _ _ ht
  · exact blkRetrain_ok _ _ ht
  · exact iklDisable_ok _ _ ht
  · exact iklEnable_ok _ _ ht
  · exact iklStepUp_ok _ _ ht
  · exact iklRetrain_ok _ _ ht

theorem execScrub_ok (q : List Instr) (s : State) (h : Ok q s) :
    OkOut q (execScrub s) := by
  unfold execScrub
  simp (contextual := true) (maxDischargeDepth := 99) [*, serve_ok, answer_ok, scrDisable_ok, scrEnable_ok, ok_ite, okOut_ite, okOut_done]

theorem execNote_ok (q : List Instr) (s : State) (h : Ok q s) :
    OkOut q (execNote s) := by
  unfold execNote
  simp (contextual := true) (maxDischargeDepth := 99) [*, serve_ok, answer_ok, aclLog_ok, ok_ite, okOut_ite, okOut_done]

theorem execRestart_ok (q : List Instr) (mepc : BitVec 64) (s : State) (h : Ok q s) :
    OkOut q (execRestart mepc s) := by
  unfold execRestart
  refine okOut_done (serve_ok _ _ _ _ _ _ h (fun t tag r ht => ?_))
  exact docRestart_ok _ _ _ _ _ ht

theorem execSafe_ok (q : List Instr) (s : State) (h : Ok q s) :
    OkOut q (execSafe s) := by
  unfold execSafe
  simp (contextual := true) (maxDischargeDepth := 99) [*, serve_ok, guardDemand_ok, okOut_done]

end Sys2Proof.Machine
end

