-- ==== Sys2Proof/Laws/SoundRest.lean ====
section
/-! SUPPORT. Soundness is kept by the remaining meanings and the tick: one lemma for each operation and each meaning. -/
namespace Sys2Proof.Machine

/-! ### Machine/Lacuna.lean -/

theorem execLacunaOpenLimitExpiry_ok (q : List Instr) (rel : Bool) (s : State) (h : Ok q s) :
    OkOut q (execLacunaOpenLimitExpiry rel s) := by
  unfold execLacunaOpenLimitExpiry
  simp (contextual := true) (maxDischargeDepth := 99) only [*, lacCloseRel_ok, lacCloseRes_ok, ok_ite, okOut_ite, okOut_done]

theorem execLacunaStreamCloseExpiry_ok (q : List Instr) (s : State) (h : Ok q s) :
    OkOut q (execLacunaStreamCloseExpiry s) := by
  unfold execLacunaStreamCloseExpiry
  split <;> simp (contextual := true) (maxDischargeDepth := 99) only [*, lacCloseRes_ok, ok_ite, okOut_ite, okOut_done]

theorem execLacunaRecordWritten_ok (q : List Instr) (s : State) (h : Ok q s) :
    OkOut q (execLacunaRecordWritten s) := by
  unfold execLacunaRecordWritten
  split <;> simp (contextual := true) (maxDischargeDepth := 99) only [*, lacWrite_ok, okOut_done]

theorem execLacCursorWrite_ok (q : List Instr) (m : Master) (v : BitVec 32) (s : State) (h : Ok q s) :
    OkOut q (execLacCursorWrite m v s) := by
  unfold execLacCursorWrite
  repeat' (first | (simp (contextual := true) (maxDischargeDepth := 99) only [*, gated_ok, wr_ok, set1_ok, ok_whenD, okOut_done]; done) | split | (refine gated_ok _ _ _ _ _ (by assumption) (fun t ht => ?_)) | (refine okOut_done ?_) | (refine ok_whenD _ _ (fun t ht => ?_) ?_) | dsimp only)

theorem execLacAckWrite_ok (q : List Instr) (m : Master) (v : BitVec 32) (s : State) (h : Ok q s) :
    OkOut q (execLacAckWrite m v s) := by
  unfold execLacAckWrite
  repeat' (first | (simp (contextual := true) (maxDischargeDepth := 99) only [*, gated_ok, settleSources_ok, wr_ok, set1_ok, ok_ite, okOut_ite, okOut_done]; done) | split | (refine gated_ok _ _ _ _ _ (by assumption) (fun t ht => ?_)) | (refine okOut_done ?_) | dsimp only)

/-! ### Machine/Pads.lean -/

theorem execStrapChange_ok (q : List Instr) (strap : Fin 3) (high : Bool) (s : State) (h : Ok q s) :
    OkOut q (execStrapChange strap high s) := by
  unfold execStrapChange
  split <;> simp (contextual := true) (maxDischargeDepth := 99) only [*, wrBit_ok, set1_ok, ok_mk, okParts_of, ok_ite, okOut_ite, okOut_done]

theorem execTapInstructionUpdate_ok (q : List Instr) (i : TapInstr) (s : State) (h : Ok q s) :
    OkOut q (execTapInstructionUpdate i s) := by
  unfold execTapInstructionUpdate
  simp (contextual := true) (maxDischargeDepth := 99) only [*, ok_mk, okParts_of, ok_ite, okOut_ite, okOut_done]

/-! ### Machine/Registers.lean -/

theorem execRegisterWrite_ok (q : List Instr) (m : Master) (off : Nat) (w : BusWidth) (v : Word) (s : State) (h : Ok q s) :
    OkOut q (execRegisterWrite m off w v s) := by
  unfold execRegisterWrite
  simp (contextual := true) (maxDischargeDepth := 99) only [*, busWrite_ok, okOut_done]

theorem execW1cClear_ok (q : List Instr) (m : Master) (off : Nat) (w : BusWidth) (v : Word) (events : Word) (s : State) (h : Ok q s) :
    OkOut q (execW1cClear m off w v events s) := by
  unfold execW1cClear
  simp (contextual := true) (maxDischargeDepth := 99) only [*, busClear_ok, okOut_done]

theorem readFetch_ok (q : List Instr) (s : State) (m : Master) (off : Nat) (h : Ok q s) :
    Ok q (State.readFetch s m off) := by
  unfold State.readFetch
  repeat' (first | (simp (contextual := true) (maxDischargeDepth := 99) only [*, unitRead_ok, ok_ite]; done) | split | dsimp only)

theorem execRcRead_ok (q : List Instr) (m : Master) (off : Nat) (w : BusWidth) (events : Word) (s : State) (h : Ok q s) :
    OkOut q (execRcRead m off w events s) := by
  unfold execRcRead
  simp (contextual := true) (maxDischargeDepth := 99) only [*, busRead_ok, readFetch_ok, okOut_done]

/-! ### Machine/Time.lean -/

theorem sampleDrop_ok (q : List Instr) (s : State) (b : Nat) (sampled : Bool) (h : Ok q s) :
    Ok q (State.sampleDrop s b sampled) := by
  unfold State.sampleDrop
  simp (contextual := true) (maxDischargeDepth := 99) only [*, set1_ok, ok_ite]

theorem execTimSampleWrite_ok (q : List Instr) (m : Master) (b : Fin 2) (w : BusWidth) (v : WrittenSample) (s : State) (h : Ok q s) :
    OkOut q (execTimSampleWrite m b w v s) := by
  unfold execTimSampleWrite
  repeat' (first | (simp (contextual := true) (maxDischargeDepth := 99) only [*, gated_ok, setReg_ok, set1_ok, sampleDrop_ok, servoSample_ok, ok_ite, okOut_ite, okOut_done]; done) | split | (refine gated_ok _ _ _ _ _ (by assumption) (fun t ht => ?_)) | (refine okOut_done ?_) | dsimp only)

theorem execTb1HwSample_ok (q : List Instr) (s : State) (h : Ok q s) :
    OkOut q (execTb1HwSample s) := by
  unfold execTb1HwSample
  simp (contextual := true) (maxDischargeDepth := 99) only [*, servoSample_ok, ok_ite, okOut_ite, okOut_done]

theorem execTimSetWrite_ok (q : List Instr) (m : Master) (b : Fin 3) (w : BusWidth) (v : BitVec 64) (sampled : Bool) (s : State) (h : Ok q s) :
    OkOut q (execTimSetWrite m b w v sampled s) := by
  unfold execTimSetWrite
  repeat' (first | (simp (contextual := true) (maxDischargeDepth := 99) only [*, gated_ok, setReg_ok, set1_ok, sampleDrop_ok, stepped_ok, setBase_ok, ok_ite, okOut_ite, okOut_done]; done) | split | (refine gated_ok _ _ _ _ _ (by assumption) (fun t ht => ?_)) | (refine okOut_done ?_) | dsimp only)

theorem execServoHoldoverTimeout_ok (q : List Instr) (b : Fin 2) (s : State) (h : Ok q s) :
    OkOut q (execServoHoldoverTimeout b s) := by
  unfold execServoHoldoverTimeout
  simp (contextual := true) (maxDischargeDepth := 99) only [*, servoState_ok, ok_ite, okOut_ite, okOut_done]

theorem execTimSecRead_ok (q : List Instr) (m : Master) (n : Fin 3) (w : BusWidth) (upper : Bool) (s : State) (h : Ok q s) :
    OkOut q (execTimSecRead m n w upper s) := by
  unfold execTimSecRead
  simp (contextual := true) (maxDischargeDepth := 99) only [*, busRead_ok, ok_ite, okOut_ite, okOut_done]

theorem execTxtsHiRead_ok (q : List Instr) (m : Master) (w : BusWidth) (upper : Bool) (s : State) (h : Ok q s) :
    OkOut q (execTxtsHiRead m w upper s) := by
  unfold execTxtsHiRead
  simp (contextual := true) (maxDischargeDepth := 99) only [*, busRead_ok, ok_ite, okOut_ite, okOut_done]

theorem execEthFrameReceived_ok (q : List Instr) (p0 : Fin 2) (frame : List Byte) (fcsOk : Bool) (point : StampPoint) (s : State) (h : Ok q s) :
    OkOut q (execEthFrameReceived p0 frame fcsOk point s) := by
  unfold execEthFrameReceived
  simp (contextual := true) (maxDischargeDepth := 99) only [*, incSat_ok, set1_ok, sramWrite_ok, source_ok, wr_ok, ok_ite, okOut_ite, okOut_done]

theorem setTxQueue_ok (q : List Instr) (s : State) (p1 : Nat) (q2 : List TxFrame) (h : Ok q s) :
    Ok q (State.setTxQueue s p1 q2) := by
  unfold State.setTxQueue
  simp (contextual := true) (maxDischargeDepth := 99) only [*, ok_mk, okParts_of, ok_ite]

theorem execEthTxWrite_ok (q : List Instr) (m : Master) (p1 : Fin 2) (w : BusWidth) (v : BitVec 64) (s : State) (h : Ok q s) :
    OkOut q (execEthTxWrite m p1 w v s) := by
  unfold execEthTxWrite
  repeat' (first | (simp (contextual := true) (maxDischargeDepth := 99) only [*, gated_ok, setReg_ok, incSat_ok, set1_ok, setTxQueue_ok, ok_ite, okOut_ite, okOut_done]; done) | split | (refine gated_ok _ _ _ _ _ (by assumption) (fun t ht => ?_)) | (refine okOut_done ?_) | dsimp only)

theorem stampPush_ok (q : List Instr) (s : State) (x : TxStamp) (freed : Bool) (h : Ok q s) :
    Ok q (State.stampPush s x freed) := by
  unfold State.stampPush
  simp (contextual := true) (maxDischargeDepth := 99) only [*, announce_ok, stampShow_ok, incSat_ok, set1_ok, ok_mk, okParts_of, ok_ite]

theorem execEthFrameSent_ok (q : List Instr) (p0 : Fin 2) (at_ : SendPoint) (s : State) (h : Ok q s) :
    OkOut q (execEthFrameSent p0 at_ s) := by
  unfold execEthFrameSent
  split <;> simp (contextual := true) (maxDischargeDepth := 99) only [*, setTxQueue_ok, stampPush_ok, ok_mk, okParts_of, ok_ite, okOut_ite, okOut_done]

theorem execEthBlockLockChange_ok (q : List Instr) (p0 : Fin 2) (lock : Bool) (s : State) (h : Ok q s) :
    OkOut q (execEthBlockLockChange p0 lock s) := by
  unfold execEthBlockLockChange
  simp (contextual := true) (maxDischargeDepth := 99) only [*, wrBit_ok, ok_ite, okOut_ite, okOut_done]

/-! ### Machine/Twin.lean -/

theorem execTwinPeerAuthChange_ok (q : List Instr) (high : Bool) (s : State) (h : Ok q s) :
    OkOut q (execTwinPeerAuthChange high s) := by
  unfold execTwinPeerAuthChange
  simp (contextual := true) (maxDischargeDepth := 99) only [*, wrBit_ok, blankRelease_ok, demandLapse_ok, authSettle_ok, windowLow_ok, ok_mk, okParts_of, ok_ite, okOut_ite, okOut_done]

theorem execBothAuth_ok (q : List Instr) (s : State) (h : Ok q s) :
    OkOut q (execBothAuth s) := by
  unfold execBothAuth
  simp (contextual := true) (maxDischargeDepth := 99) only [*, clr_ok, set1_ok, soloWait_ok, twinRecord_ok, twinEvent_ok, ok_ite, okOut_ite, okOut_done]

theorem execTwinFailInHigh_ok (q : List Instr) (high : Bool) (s : State) (h : Ok q s) :
    OkOut q (execTwinFailInHigh high s) := by
  unfold execTwinFailInHigh
  simp (contextual := true) (maxDischargeDepth := 99) only [*, wrBit_ok, takeDemand_ok, ok_ite, okOut_ite, okOut_done]

theorem execAloneWaitExpiry_ok (q : List Instr) (s : State) (h : Ok q s) :
    OkOut q (execAloneWaitExpiry s) := by
  unfold execAloneWaitExpiry
  simp (contextual := true) (maxDischargeDepth := 99) only [*, authSettle_ok, ok_mk, okParts_of, ok_ite, okOut_ite, okOut_done]

theorem execHeartbeatSend_ok (q : List Instr) (s : State) (h : Ok q s) :
    OkOut q (execHeartbeatSend s) := by
  unfold execHeartbeatSend
  simp (contextual := true) (maxDischargeDepth := 99) only [*, bucketReport_ok, incSat_ok, iklSend_ok, ok_mk, okParts_of, ok_ite, okOut_ite, okOut_done]

theorem lockstep_ok (q : List Instr) (s : State) (leaf : Nat) (slot : Int) (h : Ok q s) :
    Ok q (State.lockstep s leaf slot) := by
  unfold State.lockstep
  simp (contextual := true) (maxDischargeDepth := 99) only [*, leavePaired_ok, twinRecord_ok, source_ok, set1_ok, ok_ite]

theorem execHeartbeat_ok (q : List Instr) (b : IklBlock) (s : State) (h : Ok q s) :
    OkOut q (execHeartbeat b s) := by
  unfold execHeartbeat
  repeat' (first | (simp (contextual := true) (maxDischargeDepth := 99) only [*, iklMessage_ok, wr_ok, lockstep_ok, ok_mk, okParts_of, okOut_done]; done) | split | (refine iklMessage_ok _ _ _ _ _ _ (by assumption) (fun m t ht => ?_)) | (refine okOut_done ?_) | dsimp only)

theorem execHbLost_ok (q : List Instr) (s : State) (h : Ok q s) :
    OkOut q (execHbLost s) := by
  unfold execHbLost
  simp (contextual := true) (maxDischargeDepth := 99) only [*, twinRecord_ok, source_ok, set1_ok, takeDemand_ok, leavePaired_ok, ok_mk, okParts_of, ok_ite, okOut_ite, okOut_done]

theorem execHelloSend_ok (q : List Instr) (s : State) (h : Ok q s) :
    OkOut q (execHelloSend s) := by
  unfold execHelloSend
  simp (contextual := true) (maxDischargeDepth := 99) only [*, iklSend_ok, ok_mk, okParts_of, ok_ite, okOut_ite, okOut_done]

theorem execIkisalHello_ok (q : List Instr) (b : IklBlock) (s : State) (h : Ok q s) :
    OkOut q (execIkisalHello b s) := by
  unfold execIkisalHello
  repeat' (first | (simp (contextual := true) (maxDischargeDepth := 99) only [*, iklMessage_ok, wr_ok, set1_ok, twinRecord_ok, clr_ok, source_ok, leavePaired_ok, ok_mk, okParts_of, ok_ite, okOut_ite, okOut_done]; done) | split | (refine iklMessage_ok _ _ _ _ _ _ (by assumption) (fun m t ht => ?_)) | (refine okOut_done ?_) | dsimp only)

theorem execDigest_ok (q : List Instr) (b : IklBlock) (s : State) (h : Ok q s) :
    OkOut q (execDigest b s) := by
  unfold execDigest
  repeat' (first | (simp (contextual := true) (maxDischargeDepth := 99) only [*, iklMessage_ok, digestJudge_ok, ok_mk, okParts_of, ok_ite, okOut_ite, ok_foldl, okOut_done]; done) | split | (refine iklMessage_ok _ _ _ _ _ _ (by assumption) (fun m t ht => ?_)) | (refine ok_foldl _ _ (fun t x ht => ?_) ?_) | (refine okOut_done ?_) | dsimp only)

theorem execIkisalCommit_ok (q : List Instr) (b : IklBlock) (s : State) (h : Ok q s) :
    OkOut q (execIkisalCommit b s) := by
  unfold execIkisalCommit
  repeat' (first | (simp (contextual := true) (maxDischargeDepth := 99) only [*, iklMessage_ok, commitGo_ok, wr_ok, ok_ite, okOut_ite, okOut_done]; done) | split | (refine iklMessage_ok _ _ _ _ _ _ (by assumption) (fun m t ht => ?_)) | (refine okOut_done ?_) | dsimp only)

theorem execCommitResult_ok (q : List Instr) (b : IklBlock) (s : State) (h : Ok q s) :
    OkOut q (execCommitResult b s) := by
  unfold execCommitResult
  repeat' (first | (simp (contextual := true) (maxDischargeDepth := 99) only [*, iklMessage_ok, commitCompare_ok, ok_mk, okParts_of, okOut_done]; done) | split | (refine iklMessage_ok _ _ _ _ _ _ (by assumption) (fun m t ht => ?_)) | (refine okOut_done ?_) | dsimp only)

theorem execTableMsg_ok (q : List Instr) (b : IklBlock) (body : List Byte) (s : State) (h : Ok q s) :
    OkOut q (execTableMsg b body s) := by
  unfold execTableMsg
  repeat' (first | (simp (contextual := true) (maxDischargeDepth := 99) only [*, iklMessage_ok, unitWrite_ok, ok_ite, okOut_ite, okOut_done]; done) | split | (refine iklMessage_ok _ _ _ _ _ _ (by assumption) (fun m t ht => ?_)) | (refine okOut_done ?_) | dsimp only)

theorem execRecordMsg_ok (q : List Instr) (b : IklBlock) (body : List Byte) (s : State) (h : Ok q s) :
    OkOut q (execRecordMsg b body s) := by
  unfold execRecordMsg
  repeat' (first | (simp (contextual := true) (maxDischargeDepth := 99) only [*, iklMessage_ok, iklDiscard_ok, aclEnter_ok, ok_mk, okParts_of, ok_ite, okOut_ite, okOut_done]; done) | split | (refine iklMessage_ok _ _ _ _ _ _ (by assumption) (fun m t ht => ?_)) | (refine okOut_done ?_) | dsimp only)

theorem endByTwin_ok (q : List Instr) (s : State) (leaf : Nat) (first : Nat) (detail : Nat) (orderly : Bool) (h : Ok q s) :
    Ok q (State.endByTwin s leaf first detail orderly) := by
  unfold State.endByTwin
  split <;> simp (contextual := true) (maxDischargeDepth := 99) only [*, leafGone_ok, endLeafAt_ok, ok_ite]

theorem execEndMsg_ok (q : List Instr) (b : IklBlock) (s : State) (h : Ok q s) :
    OkOut q (execEndMsg b s) := by
  unfold execEndMsg
  repeat' (first | (simp (contextual := true) (maxDischargeDepth := 99) only [*, iklMessage_ok, endByTwin_ok, ok_mk, okParts_of, ok_ite, okOut_ite, okOut_done]; done) | split | (refine iklMessage_ok _ _ _ _ _ _ (by assumption) (fun m t ht => ?_)) | (refine okOut_done ?_) | dsimp only)

theorem execEndConfirmTimeout_ok (q : List Instr) (s : State) (h : Ok q s) :
    OkOut q (execEndConfirmTimeout s) := by
  unfold execEndConfirmTimeout
  simp (contextual := true) (maxDischargeDepth := 99) only [*, source_ok, diverge_ok, ok_mk, okParts_of, ok_ite, okOut_ite, okOut_done]

theorem execHandover_ok (q : List Instr) (b : IklBlock) (s : State) (h : Ok q s) :
    OkOut q (execHandover b s) := by
  unfold execHandover
  repeat' (first | (simp (contextual := true) (maxDischargeDepth := 99) only [*, iklMessage_ok, authSettle_ok, ok_mk, okParts_of, ok_ite, okOut_ite, okOut_done]; done) | split | (refine iklMessage_ok _ _ _ _ _ _ (by assumption) (fun m t ht => ?_)) | (refine okOut_done ?_) | dsimp only)

theorem execTwnYield_ok (q : List Instr) (m : Master) (s : State) (h : Ok q s) :
    OkOut q (execTwnYield m s) := by
  unfold execTwnYield
  repeat' (first | (simp (contextual := true) (maxDischargeDepth := 99) only [*, gated_ok, yieldAsk_ok, okOut_done]; done) | split | (refine gated_ok _ _ _ _ _ (by assumption) (fun t ht => ?_)) | (refine okOut_done ?_) | dsimp only)

theorem execTimeSyncSend_ok (q : List Instr) (s : State) (h : Ok q s) :
    OkOut q (execTimeSyncSend s) := by
  unfold execTimeSyncSend
  simp (contextual := true) (maxDischargeDepth := 99) only [*, iklSend_ok, ok_mk, okParts_of, ok_ite, okOut_ite, okOut_done]

theorem execTimeSync_ok (q : List Instr) (b : IklBlock) (s : State) (h : Ok q s) :
    OkOut q (execTimeSync b s) := by
  unfold execTimeSync
  repeat' (first | (simp (contextual := true) (maxDischargeDepth := 99) only [*, iklMessage_ok, iklSend_ok, ok_mk, okParts_of, ok_ite, okOut_ite, okOut_done]; done) | split | (refine iklMessage_ok _ _ _ _ _ _ (by assumption) (fun m t ht => ?_)) | (refine okOut_done ?_) | dsimp only)

theorem execTimeDelay_ok (q : List Instr) (b : IklBlock) (s : State) (h : Ok q s) :
    OkOut q (execTimeDelay b s) := by
  unfold execTimeDelay
  repeat' (first | (simp (contextual := true) (maxDischargeDepth := 99) only [*, iklMessage_ok, iklSend_ok, ok_ite, okOut_ite, okOut_done]; done) | split | (refine iklMessage_ok _ _ _ _ _ _ (by assumption) (fun m t ht => ?_)) | (refine okOut_done ?_) | dsimp only)

theorem execTimeResp_ok (q : List Instr) (b : IklBlock) (s : State) (h : Ok q s) :
    OkOut q (execTimeResp b s) := by
  unfold execTimeResp
  repeat' (first | (simp (contextual := true) (maxDischargeDepth := 99) only [*, iklMessage_ok, servoSample_ok, ok_mk, okParts_of, ok_ite, okOut_ite, okOut_done]; done) | split | (refine iklMessage_ok _ _ _ _ _ _ (by assumption) (fun m t ht => ?_)) | (refine okOut_done ?_) | dsimp only)

theorem execTimeExchangeTimeout_ok (q : List Instr) (s : State) (h : Ok q s) :
    OkOut q (execTimeExchangeTimeout s) := by
  unfold execTimeExchangeTimeout
  simp (contextual := true) (maxDischargeDepth := 99) only [*, ok_mk, okParts_of, okOut_done]

/-! ### Machine/TopDown.lean -/

theorem engineCount_ok (q : List Instr) (s : State) (e : Nat) (h : Ok q s) :
    Ok q (State.engineCount s e) := by
  unfold State.engineCount
  simp (contextual := true) (maxDischargeDepth := 99) only [*, pmcEvent_ok]

theorem sweepAdvance_ok (q : List Instr) (s : State) (p1 : Nat) (h : Ok q s) :
    Ok q (State.sweepAdvance s p1) := by
  unfold State.sweepAdvance
  split <;> simp (contextual := true) (maxDischargeDepth := 99) only [*, setLeaf_ok, ok_ite]

theorem rasTick_ok (q : List Instr) (s : State) (h : Ok q s) :
    Ok q (State.rasTick s) := by
  unfold State.rasTick
  simp (contextual := true) (maxDischargeDepth := 99) [*, engineCount_ok, sweepAdvance_ok, ok_ite, ok_foldl]

/-! ### Machine/Tick.lean -/

theorem secondTick_ok (q : List Instr) (s : State) (h : Ok q s) :
    Ok q (State.secondTick s) := by
  unfold State.secondTick
  simp (contextual := true) (maxDischargeDepth := 99) only [*, attemptShow_ok, incSat_ok, ok_mk, okParts_of, ok_ite]

theorem aonTick_ok (q : List Instr) (s : State) (h : Ok q s) :
    Ok q (State.aonTick s) := by
  unfold State.aonTick
  simp (contextual := true) (maxDischargeDepth := 99) only [*, secondTick_ok, ok_mk, okParts_of, ok_ite]

theorem commitTick_ok (q : List Instr) (s : State) (h : Ok q s) :
    Ok q (State.commitTick s) := by
  unfold State.commitTick
  split <;> simp (contextual := true) (maxDischargeDepth := 99) only [*, commitGo_ok, wr_ok, iklSend_ok, ok_mk, okParts_of, ok_ite]

theorem runHold_ok (q : List Instr) (s : State) (h : Ok q s) :
    Ok q (State.runHold s) := by
  unfold State.runHold
  simp (contextual := true) (maxDischargeDepth := 99) only [*, ok_mk, okParts_of, ok_ite]

theorem tick_ok (q : List Instr) (s : State) (h : Ok q s) :
    Ok q (State.tick s) := by
  unfold State.tick
  simp (contextual := true) (maxDischargeDepth := 99) [*, aonTick_ok, runHold_ok, commitTick_ok, iklTick_ok, rasTick_ok, pmcEvent_ok, crcCycle_ok, timeTick_ok, ok_mk, okParts_of, ok_ite, ok_foldl]

end Sys2Proof.Machine
end

