-- ==== Sys2Proof/Laws/TopDown.lean ====
section
/-! SUPPORT. The four classes of an engine's pixel slots share out every cycle: 8 slots in each CLK_RAS cycle (R368). -/
namespace Sys2Proof.Machine

/-- The cycles of a sweep that lie in a tick are at most those of the tick. -/
theorem State.engineSweep_le (s : State) (e : Nat) :
    (s.engineSweep e).2 - (s.engineSweep e).1 ≤ rasPerTick := by
  unfold State.engineSweep
  split
  · simp [rasPerTick]
  · split
    · simp [rasPerTick]
    · dsimp only
      omega

/-- The cycles of a sweep give 8 slots each, retired or wasted. -/
theorem sweepSlots_sum (a b : Nat) : (sweepSlots a b).1 + (sweepSlots a b).2 = 8 * (b - a) := by
  unfold sweepSlots
  dsimp only
  omega

/-- The four counts of an engine sum to 8 per CLK_RAS cycle (R368). -/
theorem State.engineSlots_sum (s : State) (e : Nat) :
    (s.engineSlots e).1 + (s.engineSlots e).2.1 + (s.engineSlots e).2.2.1 + (s.engineSlots e).2.2.2 = 8 * rasPerTick := by
  have h1 := s.engineSweep_le e
  have h2 := sweepSlots_sum (s.engineSweep e).1 (s.engineSweep e).2
  unfold State.engineSlots
  split <;> dsimp only <;> omega

end Sys2Proof.Machine
end

