-- ==== Sys2Proof/Machine/CycleOrder.lean ====
section
/-! DEFINITION. The commands of one CLK_CTL cycle in the order in which their effects fall (R401). -/
namespace Sys2Proof.Machine

/-- The master whose register access a command is; every other command is an event of the hardware, of a link or of a pin. -/
def accessOf : Instr → Option Master
  | .registerWrite m _ _ _ => some m
  | .w1cClear m _ _ _ _ => some m
  | .rcRead m _ _ _ => some m
  | .setupDoorbell m _ _ => some m
  | .sqTailDoorbell m _ _ => some m
  | .hqHeadWrite m _ _ => some m
  | .dmaEnable m _ => some m
  | .dmaDisable m _ _ => some m
  | .dmaGo m _ => some m
  | .dmaStop m _ => some m
  | .shadowCommit m _ _ => some m
  | .dmaErrClear m _ _ => some m
  | .gugEnable m => some m
  | .gugDisable m _ => some m
  | .gugGo m => some m
  | .gugErrClear m _ => some m
  | .talInjectWrite m _ => some m
  | .bctCommitGo m _ => some m
  | .sltAbort m => some m
  | .lacCursorWrite m _ => some m
  | .lacAckWrite m _ => some m
  | .blkEnable m => some m
  | .blkDisable m => some m
  | .blkStepUp m => some m
  | .blkRetrain m => some m
  | .memRetrain m _ => some m
  | .memApply m _ => some m
  | .scrEnable m => some m
  | .scrDisable m => some m
  | .svySetSubmit m _ _ => some m
  | .svyConfigWrite m _ _ _ _ _ => some m
  | .svyDefectSwap m _ _ => some m
  | .svyAckWrite m _ _ _ _ => some m
  | .svyEnable m _ => some m
  | .svyDisable m _ => some m
  | .axmPush m _ => some m
  | .axmEnable m => some m
  | .axmDisable m => some m
  | .axmClear m => some m
  | .timSampleWrite m _ _ _ => some m
  | .timSetWrite m _ _ _ _ => some m
  | .timSecRead m _ _ _ => some m
  | .ethTxWrite m _ _ _ => some m
  | .txtsHiRead m _ _ => some m
  | .twnYield m => some m
  | .iklEnable m => some m
  | .iklDisable m => some m
  | .iklStepUp m => some m
  | .iklRetrain m => some m
  | .bootQuiesce m => some m
  | .bootRestart m => some m
  | .clearAttempts m => some m
  | .fuseProgram m _ => some m
  | .fuseRevoke m _ => some m
  | .flashErase m => some m
  | .flashProgram m _ => some m
  | .flashRead m _ => some m
  | .safWdogWrite m _ => some m
  | .safDemandWrite m _ => some m
  | .kprReqPush m => some m
  | .docWdogKick m _ => some m
  | .docCtlRestart m _ => some m
  | .hostmbSend m _ _ _ => some m
  | .hostmbHostRead _ => some .host
  | .crcClaimRead m _ => some m
  | .crcPreset m _ _ => some m
  | .crcLoad m _ => some m
  | .crcRelease m _ => some m
  | .crcDataFeed m _ _ _ => some m
  | .crcResultRead m _ _ => some m
  | .crcStateWrite m _ _ => some m
  | .aclFreeze m => some m
  | .aclUnfreeze m => some m
  | .aclWindowSelect m _ _ => some m
  | .newChallenge m => some m
  | .clear m => some m
  | .aclAuthWrite m _ _ => some m
  | .pmcCtrWrite m _ _ _ _ _ => some m
  | .pmcSelWrite m _ _ => some m
  | .pmcFreeze m _ => some m
  | .pmcCtrLowRead m _ _ _ _ => some m
  | .pmcSampleAck m _ => some m
  | .calRunWrite m => some m
  | .calEnable m => some m
  | .calDisable m => some m
  | _ => none

/-- Keeper-M first, then the Docent cores in ascending number, then the host (R401). Events of the hardware come before
them, so that what a write gives a field stands against what the hardware does to it in that cycle. -/
def accessRank : Option Master → Nat
  | none => 0
  | some .keeper => 1
  | some (.docentM k) => 2 + k
  | some (.docentU k) => 2 + k
  | some .host => 10

/-- The commands of one cycle in the order in which they act; those of one master keep the order of their issue (R401). -/
def cycleOrder (cs : List Instr) : List Instr :=
  (List.range 11).flatMap (fun r => cs.filter (fun c => accessRank (accessOf c) = r))

/-- The commands of one cycle join the queue (R401). -/
def State.arrive (s : State) (cs : List Instr) : State := { s with pending := s.pending ++ cycleOrder cs }

end Sys2Proof.Machine
end

