-- ==== Sys2Proof/Tests/Samples.lean ====
section
/-! SUPPORT. Small states for the tests and witnesses: the state after reset with fields written. -/
namespace Sys2Proof.Tests
open Sys2Proof.Machine

/-- The state after reset with fields written, first to last. -/
def with_ (fs : List (Field × Nat)) : State := fs.foldl (fun s f => s.wr f.1 f.2) State.reset

/-- The same in a mode. -/
def inMode (m : Nat) (fs : List (Field × Nat)) : State := with_ ((F.BOOT_STATUS.MODE, m) :: fs)

/-- A submission entry of leaf 7, block 0. -/
def fetchEntry : SqEntry := ⟨0x1000, 128, 0, 7, 42, false, true, false⟩

/-- Its block, being fetched. -/
def fetchBlk : Blk := ⟨0, 42, 42, 3, true, false, .fetching, [], 0, 0, false, false, false, false, [], 0, 0, false, false⟩

/-- Its leaf. -/
def fetchLeaf : Leaf := { leafNew 7 with blocks := [fetchBlk] }

/-- The block of leaf 7 in place 0 is being fetched for ring 3. -/
def fetchState : State :=
  let s := inMode 2 [(F.FOL_CFG.REFETCH_LIMIT, 2)]
  { s with hif := { s.hif with fetching := [(3, 0, fetchEntry)] }, fol := { s.fol with place0 := some fetchLeaf } }

/-- The same with fields written. -/
def fetchWith (fs : List (Field × Nat)) : State := fs.foldl (fun s f => s.wr f.1 f.2) fetchState

/-- A program of four bursts of 4 bytes from DDR5 address 0 to host address 4096. -/
def dmaProg : DmaProg := ⟨0, 4096, 0x400004, 3, 4, 0, 0, 0x1000, 0x10010⟩

/-- A channel with that program committed. -/
def dmaState (k : Nat) (fs : List (Field × Nat)) : State :=
  (with_ fs).setChan k { dmaChZero with committed := dmaProg, fresh := true }

/-- A channel that runs that program and has issued `n` bursts of it. -/
def dmaRun (k n : Nat) (fs : List (Field × Nat)) : State :=
  (with_ ((F.DMA_CH_STATUS.STATE k, 1) :: fs)).setChan k
    { dmaChZero with committed := dmaProg, active := dmaProg, burst := n, going := true }

/-- The same in SHADOW mode with STOP written. -/
def dmaStopping (k : Nat) : State :=
  let s := dmaRun k 5 [(F.DMA_CH_CTL.MODE k, 1)]
  s.setChan k { s.chan k with stopReq := true }

/-- Channel 5 copies 4 bytes of host memory into the shared SRAM. -/
def dmaHostToSram : State :=
  (with_ [(F.DMA_CH_STATUS.STATE 5, 1), (F.HIF_LINK_STATUS.BME, 1)]).setChan 5
    { dmaChZero with active := ⟨0, 64, 0x900004, 0, 0, 0, 0, 0, 0⟩, going := true }

/-- Channel 5 fetches a descriptor from the shared SRAM. -/
def dmaFetching : State :=
  let s := (with_ [(F.DMA_CH_STATUS.STATE 5, 1), (F.DMA_CH_CTL.MODE 5, 2)]).setChan 5
    { dmaChZero with active := ⟨0, 0, 4, 0, 0, 0, 0, 0x1001, 0⟩, fetching := true }
  { s with sram := memWrite s.sram (0x1000 + 16) (leBytes 8 4) }

/-- A Folio block with one padding record, not coded: leaf 7, rows 0 to 0, neither first nor last (Table 3-1). -/
def folBlock (seq : Nat) : List Byte :=
  let b := leBytes 4 0x464F4C42 ++ leBytes 2 7 ++ leBytes 2 1 ++ leBytes 4 seq ++ leBytes 8 0 ++ leBytes 4 4
    ++ leBytes 4 4 ++ leBytes 4 0 ++ leBytes 4 0x100 ++ leBytes 24 0
  b ++ leBytes 4 (crc32c b)

/-- A leaf header of 32 lines without proximity correction. -/
def someHdr : LeafHdr :=
  { leaf := 7, preview := true, pec := false, dir := true, fog := false, lines := 32, rate := 100000, density := 1,
    edgePeak := 100, blocks := 2, catalogue := 0, originScan := 0, originCross := 0, halo := 0, classes := 1,
    motifs := 0 }

/-- Mode PREVIEW with leaf `l` in place 0. -/
def withLeaf (fs : List (Field × Nat)) (l : Leaf) : State :=
  let s := inMode 2 fs
  { s with fol := { s.fol with place0 := some l } }

/-- Block 1 of leaf 7, stored and good. -/
def goodBlk : Blk := { fetchBlk with seq := 1, first := false, state := .stored, data := folBlock 1 }
def goodLeaf : Leaf := { leafNew 7 with blocks := [goodBlk] }
def goodBlock : State := withLeaf [] goodLeaf

/-- The same with one byte too few. -/
def badBlk : Blk := { goodBlk with data := (folBlock 1).take 60 }
def badLeaf : Leaf := { leafNew 7 with blocks := [badBlk] }
def badBlock : State := withLeaf [(F.FOL_CFG.REFETCH_LIMIT, 2)] badLeaf

/-- Block `n` of leaf 7, awaited and good. -/
def takenBlk (n : Nat) : Blk := { goodBlk with seq := n, state := .good, data := folBlock n }
def takenLeaf (n : Nat) : Leaf :=
  { leafNew 7 with blocks := [takenBlk n], nextSeq := n, hdr := some someHdr, admitted := true }
def takenBlock (n : Nat) : State := withLeaf [] (takenLeaf n)

/-- A block that failed in its records. -/
def failedBlk : Blk := { takenBlk 3 with state := .recordsFailed, last := true }
def failedLeaf : Leaf := { takenLeaf 3 with blocks := [failedBlk] }
def failedBlock : State := withLeaf [] failedLeaf

/-- A leaf that awaits a block that has not come. -/
def gapLeaf : Leaf := { takenLeaf 3 with blocks := [] }
def gapState : State := withLeaf [] gapLeaf

/-- A leaf with its header, not admitted. -/
def headerLeaf : Leaf := { leafNew 7 with hdr := some someHdr }
def headerState : State := withLeaf [(F.FOL_CFG.EDGE_LIMIT, 4096), (F.FOL_INTAKE_CAP.CAP_MBS, 48000)] headerLeaf
def refusedState : State := withLeaf [(F.FOL_CAT_ID.ID, 9)] headerLeaf

/-- A compressor job over 4 bytes of the shared SRAM into 64 bytes of host memory. -/
def gugState (fs : List (Field × Nat)) : State :=
  let s := with_ ([(F.GUG_JOB_SRC.ADDR, 0x100), (F.GUG_JOB_SRC.SPACE, 2), (F.GUG_JOB_LEN.LEN, 4),
    (F.GUG_JOB_LIST.ADDR, 0x20), (F.GUG_JOB_LIST.COUNT, 1), (F.GUG_JOB_LIST.SPACE, 1)] ++ fs)
  { s with sram := memWrite s.sram 0x200 (leBytes 8 4096 ++ leBytes 4 64 ++ leBytes 4 1) }

/-- The same over one byte, and its stream: the header of R84 and one STORED block. -/
def gugOne : State := gugState [(F.GUG_STATUS.STATE, 1), (F.GUG_JOB_LEN.LEN, 1)]
def gugOneHead : List Byte :=
  leBytes 2 0x4755 ++ leBytes 1 1 ++ leBytes 1 0 ++ leBytes 4 1 ++ leBytes 4 (crc32c [0])
def gugOneOut : List Byte := [0x80, 0, 0, 0, 0, 0]

/-- No tokens are shorter than one byte, so the block is STORED whatever the free tokens are. -/
theorem gugEmit_one : gugEmit (gugOne.rd F.GUG_CTL.LEVEL) [0] 1 = gugOneOut := by
  have h : ∀ c : List Byte, ¬ (0 < c.length ∧ c = []) := by
    rintro c ⟨h0, rfl⟩
    exact absurd h0 (by decide)
  simp [gugEmit, gugBlock, ceilDiv, h, List.range_succ]
  decide +kernel

/-- What the raster path holds of a leaf with a bank whose densities are done. -/
def rasReady : Ras := { rasNew with bank := some 0, densRow := 20 }

/-- Leaf 7, admitted and decoded to row 0, with what the raster path holds of it; and its state. -/
def rasLeaf (r : Ras) : Leaf := { takenLeaf 3 with complete := 0, ras := r }
def ordered (s : State) : State := { s with fol := { s.fol with order := [0] } }
def rasState (r : Ras) (fs : List (Field × Nat)) : State := ordered (withLeaf fs (rasLeaf r))

/-- The same with proximity correction. -/
def pecLeaf : Leaf := { rasLeaf rasReady with hdr := some { someHdr with pec := true } }
def pecState : State := ordered (withLeaf [(F.PEC_CFG.K, 1)] pecLeaf)

/-- The same with row 0 missing. -/
def missingLeaf : Leaf := { rasLeaf rasReady with missing := [(0, 11)] }
def missingState : State := ordered (withLeaf [] missingLeaf)

/-- A tile of engine 5 in each phase. -/
def edgeTile : TileSt := tileNew 0 5
def sweepTile : TileSt := { edgeTile with phase := .sweep }
def sweptTile : TileSt := { edgeTile with phase := .swept, grays := [200, 100], sums := List.replicate 8 0, compared := true }
def badTile : TileSt := { sweptTile with sums := List.replicate 8 900 }
def tileLeaf (k : TileSt) : Leaf :=
  rasLeaf { rasReady with tiles := [k], checks := [(0, List.replicate 64 (List.replicate 8 (0, 0)))] }
def tileState (k : TileSt) : State := ordered (withLeaf [] (tileLeaf k))

/-- A tile of row 0 that has been verified and scattered. -/
def doneTile (e : Nat) : TileSt := { tileNew 0 e with phase := .out, tally := true, compared := true, scattered := true }

/-- Leaf 7 with every tile of its one row verified, and the tracker over it in a state of SLT_STATUS after the mark or
SS `at_`, with the decisions up to `dec` taken. -/
def sltLeaf : Leaf := rasLeaf { rasReady with tiles := (List.range 64).map doneTile }
def sltState (st : Nat) (at_ dec : Int) (fs : List (Field × Nat)) : State :=
  let s := ordered (withLeaf ([(F.SLT_STATUS.STATE, st), (F.SLT_PITCH.PITCH, 65536), (F.SLT_VEL.VEL, 1000000), (F.SLT_ACCEL.MAX, 0),
    (F.BLK_STATUS.STATE, 0x4444), (F.SLT_LIMITS.OVERSPEED, 8), (F.SLT_LIMITS.REVERSE, 4), (F.BLK_CFG.LINK_LIMIT, 8)] ++ fs) sltLeaf)
  { s with
    fol := { s.fol with cur := if st = 0 then none else some 0 }
    slt := { s.slt with strobed := at_, decided := dec, near := true, firstArm := false } }

/-- Its slot `n` with a decision taken. -/
def sltRec (n : Nat) (data read : Bool) : SlotRec := ⟨7, n, data, !data, read, true, false, false, false, 160000, 5, 6, [], none, none, [], [], false⟩
def sltSlots (s : State) (rs : List SlotRec) : State := { s with slt := { s.slt with slots := rs } }

/-- A back-channel message of 16 bytes with a good check (Table 7-4). -/
def backText (mtype g : Nat) (body : List Byte) : List Byte :=
  let b := leBytes 1 mtype ++ leBytes 1 g ++ (body ++ List.replicate 12 0).take 12
  b ++ leBytes 2 (crc16 b)

/-- Such a message as the first data block after an AM (R174). -/
def backBlk (mtype g : Nat) (body : List Byte) : BackBlock := ⟨1, 0, (scramble (laneSeed g 31) (backText mtype g body)).1⟩

/-- All four groups in a state. -/
def linkState (st : Nat) (fs : List (Field × Nat)) : State := with_ ((F.BLK_STATUS.STATE, st * 0x1111) :: fs)

/-- A STATUS for leaf 7, slot 3, with one result. -/
def statusMsg (g x : Nat) : BackBlock := backBlk 0x61 g (leBytes 2 7 ++ leBytes 4 3 ++ leBytes 1 (0xF0 + x) ++ leBytes 1 0xFF)

/-- Slot 3 of leaf 7 sent with data, heard by some groups. -/
def sentRec (hs : List Nat) : SlotRec := { sltRec 3 true true with sent := true, heard := hs }

/-- A group whose spare takes lane 4 for good, after `n` AMs. -/
def swapGrp (n : Nat) : BlkGrp := { blkGrpNew with swap := some ⟨4, n, false, true⟩ }
def swapState (n : Nat) : State := (linkState 4 []).putGrp 2 (swapGrp n)

/-- All six channels in service under the full map, with channel 0 changed. -/
def memState (fs : List (Field × Nat)) (f : MemCh → MemCh) : State :=
  (with_ ([(F.MEM_STATUS.FULL_MAP, 1), (F.MEM_STATUS.TRAINED, 63)]
    ++ (List.range 6).map (fun c => (F.MEM_CH_STATUS.STATE c, 2)) ++ fs)).setCh 0 f

/-- A request for bank 1, row 3 at an address, and channel 0 with requests in its queues. -/
def memReq (a age : Nat) (w : Option (Nat × List Byte)) : MemReq := ⟨2, a, w, 1, 3, some (4, 0), false, age, 20, false, a⟩
def memQueue (rs : List MemReq) (m : MemCh) : MemCh := { m with queue := rs }
def memPorts (rs : List MemReq) (m : MemCh) : MemCh := { m with ports := rs }

/-- The write-back of a corrected burst. -/
def memBack (a : Nat) : MemReq := ⟨4, a, some (0, []), 1, 3, none, false, 3, 30, false, a⟩

/-- A word that is good, or off by bits of G that are not the poison pattern, does not match it. -/
theorem notPoison (e : Nat) (h : (0 :: (List.range 160).map (fun b => 2 ^ b)).all (fun f => errGuard (e ^^^ f) != 0xFFFF) = true) :
    poisonWord e = false := by
  unfold poisonWord
  rw [List.any_eq_false]
  intro f hf
  have := List.all_eq_true.mp h f hf
  simp at this ⊢
  exact fun _ => this

/-- A burst whose second word has one check bit off is corrected, and with two off it is lost (R198). -/
theorem flipped_corrected (es : List Nat) (h : es = [0, 2 ^ 144, 0, 0]) : decodeBurst es = .corrected 1 1 := by
  subst h
  have h0 : poisonWord 0 = false := notPoison 0 (by decide +kernel)
  have hs : [0, 2 ^ 144, 0, 0].all poisonWord = false := by simp only [List.all_cons, h0, Bool.false_and]
  unfold decodeBurst
  rw [hs]
  decide +kernel
theorem flipped_lost (es : List Nat) (h : es = [0, 3 * 2 ^ 144, 0, 0]) : decodeBurst es = .bad 1 0 := by
  subst h
  have h0 : poisonWord 0 = false := notPoison 0 (by decide +kernel)
  have hs : [0, 3 * 2 ^ 144, 0, 0].all poisonWord = false := by simp only [List.all_cons, h0, Bool.false_and]
  unfold decodeBurst
  rw [hs]
  decide +kernel

/-- A state in which region 0 of the catalogue is firmware code of type 4 in the first MiB. -/
def coreState (fs : List (Field × Nat)) : State :=
  let s := memState fs id
  { s with boot := { s.boot with regions := [(4, 0, 0, 2 ^ 20)] } }

/-- The stored block of goodBlock, while a request for burst 0 waits in channel 0. -/
def lostStored : State :=
  let s := memState [(F.FOL_CFG.REFETCH_LIMIT, 2)] (memQueue [memReq 0 3 none])
  { s with fol := goodBlock.fol }

/-- The same with a burst of poison at address 0. -/
def memPoison (rs : List MemReq) : State := { memState [] (memQueue rs) with poison := [0] }

/-- Both survey pipelines running with frames of 4 pixels by 2 lines of RAW10, pipeline 1 changed. -/
def svyState (fs : List (Field × Nat)) (f : SvyPipe → SvyPipe) : State :=
  (with_ ([(F.SVY_P_STATUS.STATE 0, 1), (F.SVY_P_STATUS.STATE 1, 1), (F.SVY_P_CAM.DT 1, 0x2B), (F.SVY_P_CAM.WIDTH 1, 4),
    (F.SVY_P_CAM.HEIGHT 1, 2), (F.SVY_P_REC_RING.LOG2 1, 3)] ++ fs)).onPipe 1 f

/-- A zone of one pixel. -/
def svyParTest : SvyPar := ⟨0x0000FF0000004000#64, 0x01000100#64, 0#64, []⟩

/-- A frame with lines, and a pipeline in it. -/
def svyFrame (tag : Option SvyTag) (lines : List (List Nat)) : SvyFrame := ⟨9, 0, tag, false, false, none, svyParTest, lines, false, false⟩
def inFrame (f : SvyFrame) (x : SvyPipe) : SvyPipe := { x with frame := some f, run := true, par := svyParTest }

/-- A whole frame in buffer 0, alone or as the first of two. -/
def storedFrame : SvyFrame :=
  { svyFrame (some ⟨5, 0, 1⟩) [[5, 6, 7, 8], [1, 2, 3, 4]] with index := some 0 }
def firstFrame : SvyFrame :=
  { storedFrame with tag := some ⟨5, 0, 2⟩, par := { svyParTest with proc := (F.SVY_P_PROC.MERGE 0).put svyParTest.proc 2 } }

/-- A set of one phase and one write, its descriptor (Table 9-2), and a pipeline that sends it. -/
def svySetOne : SvySet := ⟨5, 1, 1, [[(0x3012, 7)]]⟩
def setBytes : List Byte := leBytes 2 5 ++ [1, 1] ++ List.replicate 4 0 ++ [0x12, 0x30, 7] ++ List.replicate 117 0
def svySending (left : List (Nat × Nat)) (sofs : Nat) : SvySend := ⟨⟨5, 0, 1⟩, left, sofs, false⟩
def sending (e : SvySend) (x : SvyPipe) : SvyPipe := { x with cur := some svySetOne, send := some e }

/-- Axes 0 and 1 fitted and enabled, with wide soft limits. -/
def axmState (fs : List (Field × Nat)) : State :=
  with_ ([(F.AXM_CTL.ENABLE, 1), (F.AXM_CFG.PRESENT 0, 1), (F.AXM_CFG.PRESENT 1, 1), (F.AXM_CFG.VMAX 0, 1000),
    (F.AXM_CFG.VMAX 1, 1000), (F.AXM_CFG.AMAX 0, 5000), (F.AXM_CFG.AMAX 1, 5000), (F.AXM_SOFT.MAX 0, 9000),
    (F.AXM_SOFT.MAX 1, 9000), (F.AXM_SOFT.MIN 0, 2 ^ 32 - 9000), (F.AXM_SOFT.MIN 1, 2 ^ 32 - 9000)] ++ fs)

/-- A relative move of axes 0 and 1 by 4 and −2 steps (Table 10-1), a move that names no axis, and a dwell. -/
def axMoveCmd : List Word := [0x00770032#64, BitVec.ofNat 64 (10 + 500 * 2 ^ 43), BitVec.ofNat 64 (4 + (2 ^ 32 - 2) * 2 ^ 32), 0, 0, 2000#64]
def axEmptyCmd : List Word := [0x00780002#64, BitVec.ofNat 64 (10 + 500 * 2 ^ 43), 0, 0, 0, 2000#64]
def axDwellCmd : List Word := [0x0000000900790004#64, 0, 0, 0, 0, 0]
def axQueued (q : List (List Word)) (fs : List (Field × Nat)) : State :=
  { axmState fs with axm := { State.reset.axm with queue := q } }

/-- That move after `k` steps, and a running command in the block. -/
def axRun (k : Nat) : AxRun :=
  { op := 2, kind := 0, mask := 3, vs := 10, vmax := 500, acc := 2000, delta := [4, -2, 0, 0, 0, 0], steps := 4, k := k,
    errs := [2, 2, 2, 2, 2, 2], residue := 0, reload := 0, axis := 0, phase := 0, count := 0, decel := 0, p1 := 0 }
def axRuns (r : AxRun) (fs : List (Field × Nat)) : State :=
  { axmState ((F.AXM_STATUS.STATE, 1) :: fs) with axm := { State.reset.axm with run := some r } }

/-- Servos with gains, limits and thresholds. -/
def timState (fs : List (Field × Nat)) : State :=
  with_ ([0, 1].flatMap (fun b => [(F.TIM_SERVO.KP b, 700), (F.TIM_SERVO.KI b, 30), (F.TIM_SERVO.STEP_NS b, 1000),
    (F.TIM_SERVO.LOCK_NS b, 50), (F.TIM_SERVO.MAX_PPM b, 100)]) ++ fs)

/-- A broadcast frame of 60 bytes that carries a Sync over Ethernet (R262, R264). -/
def ethFrame : List Byte := List.replicate 6 0xFF ++ List.replicate 6 2 ++ [0x88, 0xF7, 0x10] ++ List.replicate 45 0

/-- A device of a pair in PREVIEW with its Ikisal link ACTIVE, in a pair state of Table 12-1. -/
def twinState (st : Nat) (fs : List (Field × Nat)) : State :=
  inMode 2 ([(F.TWN_CFG.MODE, 1), (F.IKL_STATUS.STATE, 3), (F.TWN_STATUS.STATE, st)] ++ fs)

/-- What stands behind its registers, changed. -/
def twinWith (st : Nat) (fs : List (Field × Nat)) (f : TwnSt → TwnSt) : State :=
  let s := twinState st fs
  { s with twn := f s.twn }

/-- The head block of a message of `n` body blocks as lane 0 receives it, first after an AM (R275, R276). -/
def twinBlock (mtype n : Nat) (content : List Byte) : IklBlock :=
  let b := leBytes 1 mtype ++ leBytes 1 n ++ (content ++ List.replicate 12 0#8).take 12
  ⟨0, 1, 0, (scramble (lfsrAfter (iklSeed 0) 0) (b ++ leBytes 2 (crc16 b))).1⟩

/-- Bytes of a body as they arrive behind it. -/
def twinBody (b : List Byte) : List Byte := (scramble (lfsrAfter (iklSeed 0) 1) b).1

/-- A Lacuna record of leaf 7, slots 3 to 5, as a mirrored record's 32 bytes (R169, R285). -/
def twinLacuna : List Byte :=
  let b := leBytes 2 7 ++ leBytes 1 0x70 ++ leBytes 1 0 ++ leBytes 4 3 ++ leBytes 4 5 ++ leBytes 8 1 ++ leBytes 4 9 ++ leBytes 4 8
  b ++ leBytes 4 (crc32c b)

/-- The TS of the twin on each lane, in a state, with or without SWITCH (Table 7-1, R275). -/
def twinTs (st sw : Nat) : List (List Byte) := (List.range 8).map (fun k =>
  [0x2D, 0x10] ++ leBytes 1 k ++ leBytes 1 0 ++ leBytes 1 st ++ leBytes 1 sw ++ leBytes 1 2 ++ List.replicate 9 0x4A#8)

/-- The device in BOOT at a step. -/
def bootAt (step : Nat) (fs : List (Field × Nat)) : State := inMode 1 ((F.BOOT_STATUS.STEP, step) :: fs)

/-- A lone device in BOOT that is ready for PREVIEW, and one in PREVIEW that is ready for RUN (R306, R308). -/
def previewWaits : State :=
  let s := bootAt 9 [(F.BLK_STATUS.STATE, 0x4444)]
  { s with
    boot := { s.boot with stepsDone := [6, 7] }
    mem := { s.mem with preview := [0, 1, 2] }
    twn := { s.twn with peerLow := true } }
def runWaits : State := inMode 2 [(F.MEM_STATUS.TRAINED, 63), (F.BLK_STATUS.STATE, 0x4444), (F.SCR_STATUS.POS, 9), (F.LAC_STATUS.NEXT, 4),
  (F.LAC_STATUS.ACKED, 4)]

/-- STORAGE with a flash command or a fuse operation in progress. -/
def flashing (op a n : Nat) : State :=
  let s := inMode 4 []
  { s with boot := { s.boot with flashBusy := some (op, a, n), flashBuf := memWrite [] 0 [1, 2, 3] } }
def fusing (slot : Nat) (revoke : Bool) (hash : Nat) : State :=
  let s := inMode 4 [(F.BOOT_FUSE.KEY_SET, 1)]
  { s with boot := { s.boot with fuseBusy := some (slot, revoke, hash) } }

/-- A Keeper request (Table 15-3), and the Keeper in service with it at the head of its queue. -/
def reqBytes (code tag : Nat) (args : List Byte) : List Byte :=
  (leBytes 1 code ++ [0] ++ leBytes 2 tag ++ args ++ List.replicate 28 0#8).take 32
def kprAsks (mode : Nat) (fs : List (Field × Nat)) (b : List Byte) : State :=
  let s := inMode mode ((F.KPR_STATUS.STATE, 1) :: (F.DOC_STATUS.STATE, 1) :: fs)
  { s with kpr := { s.kpr with queue := [⟨3, b⟩] } }

/-- The Docents in service, or one of their restarts in progress. -/
def docentsOn (fs : List (Field × Nat)) : State :=
  inMode 3 ([(F.KPR_STATUS.STATE, 1), (F.DOC_STATUS.STATE, 1), (F.DOC_CFG.CORES, 255), (F.DOC_CFG.RESTART_LIMIT, 3),
    (F.DMA_CH_CTL.ENABLE 7, 1), (F.AXM_CTL.ENABLE, 1), (F.DOC_HOSTMB_FULL.FULL, 5), (F.CRC_U_CLAIM.OWNER 2, 4)] ++ fs)
def docentsRestart (fs : List (Field × Nat)) : State :=
  let s := docentsOn ((F.DOC_STATUS.STATE, 2) :: fs)
  { s with
    kpr := { s.kpr with restarting := some (4, 0x80) }
    boot := { s.boot with docentAt := (0x1000, 72), flash := flashWrite [] 0x1000 [0, 0, 0, 0] } }

end Sys2Proof.Tests
end

