-- ==== Sys2Proof/Tests/Staged.lean ====
section
/-! SUPPORT. A state whose staging buffer holds the default map of R17: every check of R129 passes on it. -/
namespace Sys2Proof.Tests
open Sys2Proof Sys2Proof.Machine

set_option Elab.async false

/-- The default map as the 2,162,688 bytes of a staging buffer (R128). -/
def stagedTable : List Byte := (List.range 270336).flatMap (fun k => leBytes 8 (bctDefault k).toNat)

/-- A commit of that table for leaf 7 has loaded into bank 1. -/
def stagedCommit : BctCommit := ⟨7, crc32c stagedTable, some 1, 0⟩
def stagedState : State :=
  { State.reset with
    regs := (with_ [(F.BCT_LIMITS.GAIN_MIN, 0x1000), (F.BCT_LIMITS.GAIN_MAX, 0x3000), (F.BCT_STAGE.BASE, 0)]).regs
    ddr := memWrite [] 0 stagedTable
    bct := { State.reset.bct with commit := some stagedCommit } }

theorem leBytes_length : ∀ n v : Nat, (leBytes n v).length = n
  | 0, _ => rfl
  | n + 1, v => congrArg Nat.succ (leBytes_length n (v / 256))

theorem leNat_leBytes : ∀ n v : Nat, leNat (leBytes n v) = v % 256 ^ n
  | 0, v => by simp [leBytes, leNat, Nat.mod_one]
  | n + 1, v => by
    rw [leBytes, leNat, leNat_leBytes n (v / 256), BitVec.toNat_ofNat, show 256 ^ (n + 1) = 256 * 256 ^ n from Nat.pow_succ',
      Nat.mod_mul]

theorem memRead_length (m : SMap Byte) : ∀ n a : Nat, (memRead m a n).length = n
  | 0, _ => rfl
  | n + 1, a => congrArg Nat.succ (memRead_length m n (a + 1))

theorem memRead_getElem (m : SMap Byte) : ∀ (n a i : Nat) (h : i < (memRead m a n).length),
    (memRead m a n)[i] = smGet byteDefault m (a + i)
  | 0, _, _, h => by simp [memRead] at h
  | n + 1, a, 0, _ => by simp [memRead]
  | n + 1, a, i + 1, h => by
    simp only [memRead, List.getElem_cons_succ]
    rw [memRead_getElem m n (a + 1) i]
    congr 1; omega

/-- A read of part of what has been written. -/
theorem memRead_part (bs : List Byte) (a n : Nat) (h : a + n ≤ bs.length) :
    memRead (memWrite [] 0 bs) a n = (bs.drop a).take n := by
  apply List.ext_getElem
  · rw [memRead_length, List.length_take, List.length_drop]; omega
  · intro i h1 h2
    rw [memRead_length] at h1
    have := smGet_memWrite_inside [] 0 (a + i) bs (by omega)
    rw [memRead_getElem, show a + i = 0 + (a + i) by omega, this]
    simp

theorem drop_flatMap (f : Nat → List Byte) (hf : ∀ k, (f k).length = 8) : ∀ n k : Nat, ∀ l : List Nat, l.length = n → k < n →
    ((l.flatMap f).drop (8 * k)).take 8 = f (l.getD k 0)
  | _, _, [], h, hk => by simp at h; omega
  | n + 1, 0, x :: l, _, _ => by
    simp only [Nat.mul_zero, List.drop_zero, List.flatMap_cons, List.getD_cons_zero]
    rw [List.take_append_of_le_length (by rw [hf]), List.take_of_length_le (by rw [hf])]
  | n + 1, k + 1, x :: l, h, hk => by
    rw [List.flatMap_cons, show 8 * (k + 1) = (f x).length + 8 * k by rw [hf]; omega, List.drop_length_add_append,
      List.getD_cons_succ]
    exact drop_flatMap f hf n k l (by simpa using h) (by omega)

theorem flatMap_length (f : Nat → List Byte) (hf : ∀ k, (f k).length = 8) (l : List Nat) : (l.flatMap f).length = 8 * l.length := by
  induction l with
  | nil => rfl
  | cons x l ih => rw [List.flatMap_cons, List.length_append, ih, hf, List.length_cons]; omega

theorem stagedTable_length : stagedTable.length = stageLen := by
  rw [stagedTable, flatMap_length _ (fun k => leBytes_length _ _), List.length_range]; rfl

theorem stagedBase : stagedState.stageBase = 0 := by decide +kernel

theorem stagedRead (a n : Nat) : stagedState.ddrRead a n = memRead (memWrite [] 0 stagedTable) a n := by
  have h1 : stagedState.ddrErr = [] := rfl
  have h2 : stagedState.mem.remaps = [] := rfl
  have h3 : stagedState.ddr = memWrite [] 0 stagedTable := by dsimp only [stagedState]
  simp only [State.ddrRead, h1, h2, h3, decide_true, Bool.and_self, if_true]

theorem getD_range (n k : Nat) (h : k < n) : (List.range n).getD k 0 = k := by
  rw [List.getD_eq_getElem?_getD, List.getElem?_range h]; rfl

theorem stagedTable_entry (k : Nat) (h : k < 270336) :
    (stagedTable.drop (8 * k)).take 8 = leBytes 8 (bctDefault k).toNat := by
  have := drop_flatMap (fun k => leBytes 8 (bctDefault k).toNat) (fun k => leBytes_length _ _) 270336 k (List.range 270336)
    List.length_range h
  rw [stagedTable, this, getD_range _ _ h]

/-- Its entries are those of the default map. -/
theorem stagedEntry (k : Nat) (h : k < 270336) : stagedState.stageEntry k = bctDefault k := by
  have hl := stagedTable_length
  rw [State.stageEntry, stagedBase, stagedRead, memRead_part _ _ _ (by rw [hl, stageLen]; omega), Nat.zero_add,
    stagedTable_entry k h, leNat_leBytes, Nat.mod_eq_of_lt (show (bctDefault k).toNat < 256 ^ 8 from (bctDefault k).isLt), BitVec.ofNat_toNat, BitVec.setWidth_eq]

/-- The default map by its row. -/
def bctRow (r : Nat) : Word :=
  if r < 512 then BitVec.ofNat 64 (0x2000 + r % 16 * 2 ^ 32 + r / 16 * 2 ^ 36 + 2 ^ 41) else BitVec.ofNat 64 0x2000

theorem bctDefault_row (k : Nat) : bctDefault k = bctRow (k / 512) := rfl

theorem stagedRow (r c : Nat) (hr : r < 528) (hc : c < 512) : stagedState.stageEntry (512 * r + c) = bctRow r := by
  rw [stagedEntry _ (by omega), bctDefault_row, show (512 * r + c) / 512 = r by omega]

theorem none_of_rows (bad : Nat → Word → Bool) (h : (List.range 528).all (fun r => !bad r (bctRow r)) = true) :
    firstEntry (fun k => bad (k / 512) (stagedState.stageEntry k)) = none := by
  rw [firstEntry, List.find?_eq_none]
  intro k hk
  have hk : k < 270336 := by simpa using hk
  rw [stagedEntry k hk, bctDefault_row]
  have := List.all_eq_true.mp h (k / 512) (by simp; omega)
  simpa using this

theorem stagedColumn (c : Nat) (hc : c < 512) : columnValid stagedState.stageEntry c = true := by
  have h : columnPairs stagedState.stageEntry c = (List.range 528).filterMap (fun r =>
      if beEnable (bctRow r) then some (beO (bctRow r), bePhi (bctRow r)) else none) := by
    rw [columnPairs]
    apply List.filterMap_congr
    intro r hr
    simp only [stagedRow r c (by simpa using hr) hc]
  have h' : columnPairs stagedState.stageEntry c = (List.range 512).map (fun r => (r % 16, r / 16)) := by
    rw [h]; decide +kernel
  rw [columnValid, h', List.length_map, List.length_range, decide_eq_true rfl, Bool.true_and, decide_eq_true_eq]
  refine List.Nodup.map (fun a b e => ?_) List.nodup_range
  have e1 := congrArg Prod.fst e
  have e2 := congrArg Prod.snd e
  simp only at e1 e2
  omega

theorem stagedRoles : roleColumn stagedState.stageEntry = none := by
  rw [roleColumn, List.find?_eq_none]
  intro c hc
  have hc : c < 512 := by simpa using hc
  rw [stagedColumn c hc]
  simp only [Bool.not_true, Bool.or_false, Bool.not_eq_true, List.any_eq_false]
  intro r hr
  have hr : r < 512 := by simpa using hr
  rw [stagedRow r c (by omega) hc]
  have h : (List.range 512).all (fun r => !beWrongRole (512 * r) (bctRow r)) = true := by decide +kernel
  have := List.all_eq_true.mp h r (by simpa using hr)
  have e : beWrongRole (512 * r + c) (bctRow r) = beWrongRole (512 * r) (bctRow r) := by
    simp only [beWrongRole, show (512 * r + c) / 512 = r by omega, show 512 * r / 512 = r by omega]
  rw [e]; simpa using this

theorem stagedMarks : stagedState.ddrPoisoned stagedState.stageBase stageLen = false := by
  rw [State.ddrPoisoned, List.any_eq_false]
  intro b _
  have h1 : stagedState.ddrErr = [] := rfl
  have h2 : stagedState.poison = [] := rfl
  have h : stagedState.burstErrs b = [0, 0, 0, 0] := by
    simp only [State.burstErrs, h1, h2, smGet_nil, List.contains_nil, Bool.false_eq_true, if_false]
    rfl
  rw [State.burstMarked, State.burstRead, h]
  decide +kernel

theorem stagedGains : (List.range 528).all (fun r => !stagedState.beWrongGain (bctRow r)) = true := by decide +kernel

/-- A table is accepted when no check finds anything. -/
theorem commitCheck_none (s : State) (crc : Nat) (h0 : s.ddrPoisoned s.stageBase stageLen = false)
    (h1 : crc32c (s.ddrRead s.stageBase stageLen) = crc) (h2 : firstEntry (fun k => beReserved (s.stageEntry k)) = none)
    (h3 : roleColumn s.stageEntry = none) (h4 : firstEntry (fun k => beWrongOffset (s.stageEntry k)) = none)
    (h5 : firstEntry (fun k => s.beWrongGain (s.stageEntry k)) = none) : s.commitCheck crc = none := by
  simp only [State.commitCheck, h0, h1, ne_eq, not_true_eq_false, decide_false, Bool.or_self, Bool.false_eq_true, if_false, h2,
    Option.isSome_none, h3, h4, h5]

/-- Every check of R129 passes. -/
theorem stagedPasses : stagedState.commitCheck (crc32c stagedTable) = none := by
  have h1 : stagedState.ddrRead stagedState.stageBase stageLen = stagedTable := by
    rw [stagedBase, stagedRead, memRead_part _ _ _ (by rw [stagedTable_length]; omega), List.drop_zero,
      List.take_of_length_le (by rw [stagedTable_length])]
  have h2 := none_of_rows (fun _ w => beReserved w) (by decide +kernel)
  have h4 := none_of_rows (fun _ w => beWrongOffset w) (by decide +kernel)
  have h5 := none_of_rows (fun _ w => stagedState.beWrongGain w) stagedGains
  exact commitCheck_none stagedState _ stagedMarks (congrArg crc32c h1) h2 stagedRoles h4 h5

/-- A state whose map holds no channel and whose first staging burst is poison, with a commit loaded into bank 1. -/
def poisonStage : State :=
  { State.reset with
    bct := { State.reset.bct with commit := some ⟨7, 5, some 1, 0⟩ }
    poison := [0] }

theorem poisonStage_map (a : Nat) (h : a < 2 ^ 30) : poisonStage.chanOf a = none := by
  have h1 : poisonStage.bit F.MEM_STATUS.FULL_MAP = false := by decide +kernel
  have h2 : 2 ^ 30 ≤ poisonStage.fitted := by decide +kernel
  have h3 : poisonStage.previewSet = [] := by decide +kernel
  have h4 : poisonStage.mapSet a = [] := by
    simp only [State.mapSet, h1, Bool.false_eq_true, if_false, if_pos (Nat.lt_of_lt_of_le h h2), h3]
  simp [State.chanOf, h4]

/-- A read of the staging buffer touches nothing there. -/
theorem poisonStage_read : poisonStage.unitRead 32 poisonStage.stageBase stageLen 1 = poisonStage := by
  have hb : poisonStage.stageBase = 0 := by decide +kernel
  have fold : ∀ l : List Nat, (∀ b ∈ l, b < 2 ^ 30) →
      l.foldl (fun s b => s.unitRequest 32 none (max 0 b)) poisonStage = poisonStage := by
    intro l
    induction l with
    | nil => intro; rfl
    | cons b l ih =>
      intro hl
      have hb := hl b (List.mem_cons_self ..)
      rw [List.foldl_cons, State.unitRequest, poisonStage_map _ (by omega)]
      exact ih (fun x hx => hl x (List.mem_cons_of_mem _ hx))
  have all : ∀ b ∈ burstsOf 0 stageLen, b < 2 ^ 30 := by
    intro b h
    simp only [burstsOf, stageLen] at h
    simp at h
    obtain ⟨i, hi, rfl⟩ := h
    omega
  rw [State.unitRead, hb, fold _ all, State.rangeTake, if_pos (by rfl)]

theorem poisonStage_refused : (poisonStage.unitRead 32 poisonStage.stageBase stageLen 1).commitCheck 5 = some (1, 0, 0) := by
  rw [poisonStage_read]; decide +kernel
end Sys2Proof.Tests
end

