-- ==== Sys2Proof/WellFormed.lean ====
section
/-! DEFINITION. Well-formed commands: operands of the sizes that the specification gives to messages, records,
entries, fields and windows. -/
namespace Sys2Proof

/-- A BAR0 offset: the space is 32 MiB (R31, R398). -/
def inBar0 (off : Nat) : Bool := decide (off < 2 ^ 25)

/-- An offset of BAR0, or one of the 64 MiB of BAR2, which stand from 2 ^ 32 on (R31). -/
def inBars (off : Nat) : Bool := inBar0 off || (decide (2 ^ 32 ≤ off) && decide (off < 2 ^ 32 + 2 ^ 26))

/-- A list of a stated length. -/
def hasLen {α : Type} (n : Nat) (l : List α) : Bool := decide (l.length = n)

/-- A back-channel block: 16 bytes, at most 1,424 blocks after an AM (R185). -/
def backOk (b : BackBlock) : Bool := decide (b.index < 1424) && hasLen 16 b.bytes

/-- A block's length: whole 64-byte units, at most 4 MiB (Table 2-4). -/
def blockLen (data : List Byte) : Bool := decide (data.length % 64 = 0) && decide (data.length ≤ 4194304)

/-- Reserve rows: 1,056 rows in each of 160 banks (R143). -/
def rowsOk (rows : List Nat) : Bool := rows.all (fun r => decide (r < 160 * 1056))

/-- A memory request: an address, and a write inside its burst or, in an SRAM, its word; a fetch writes nothing (R195, R208). -/
def arrivalOk (r : MemArrival) : Bool :=
  let unit := if r.space.val = 0 then 64 else if r.space.val = 2 then 8 else 4
  decide (r.flips < 2 ^ 72) &&
    (match r.write with
      | none => true
      | some bs => !r.fetch && decide (0 < bs.length) && decide (r.addr % unit + bs.length ≤ unit))

/-- Whether a command's operands have the sizes that its row gives them. -/
def wellFormed (i : Instr) : Bool :=
  match i with
  | .registerWrite _ off _ _ => inBars off
  | .w1cClear _ off _ _ _ => inBar0 off
  | .rcRead _ off _ _ => inBars off
  | .setupDoorbell _ _ _ => true
  | .setupRecordFetched record => record.all (fun r => hasLen 256 r)
  | .pcieLinkReset _ _ => true
  | .pcieLinkTrained _ width _ _ => decide (width ≤ 16)
  | .pcieFatalError => true
  | .pcieCorrectableError => true
  | .unexpectedCompletion => true
  | .sqTailDoorbell _ _ tail => decide (tail < 2 ^ 14)
  | .submissionEntryRead _ entry => hasLen 32 entry
  | .blockDataReceived _ seq data => decide (seq < 2 ^ 32) && blockLen data
  | .poisonedCompletion _ seq data => decide (seq < 2 ^ 32) && blockLen data
  | .completionTimeout _ _ read => decide (read.seq < 2 ^ 32) && decide (read.data.length ≤ 65536)
  | .completionPosted => true
  | .retiredTimerExpiry _ => true
  | .hqHeadWrite _ _ head => decide (head < 2 ^ 14)
  | .refetchRequestPosted => true
  | .msixSend _ => true
  | .cqModDelayExpiry => true
  | .msixUnmask _ => true
  | .dmaEnable _ _ => true
  | .dmaDisable _ _ _ => true
  | .dmaGo _ _ => true
  | .dmaStop _ _ => true
  | .shadowCommit _ _ _ => true
  | .dmaBurst _ hostData finds => decide (hostData.length ≤ 65536) && finds.flips.all (fun f => decide (f.2 < 2 ^ 160))
  | .dmaHandover _ => true
  | .dmaDescriptorFetched _ => true
  | .dmaBusTimeout _ readData => decide (readData.length ≤ 65536)
  | .dmaDrainComplete _ => true
  | .dmaErrClear _ _ _ => true
  | .blockChecked _ seq _ => decide (seq < 2 ^ 32)
  | .leafAdmission _ => true
  | .blockConsumed _ => true
  | .tileRowDeadline _ => true
  | .gugEnable _ => true
  | .gugDisable _ _ => true
  | .gugGo _ => true
  | .gugJobComplete _ => true
  | .gugDrainComplete => true
  | .gugErrClear _ _ => true
  | .densityRowDone _ _ _ => true
  | .pecRowDone _ _ => true
  | .tileStart _ => true
  | .edgePhaseEnd _ _ _ corrected => decide (corrected ≤ 2 ^ 20)
  | .sweepEnd _ _ => true
  | .tallyVerdict _ => true
  | .tileScatterEnd _ _ _ => true
  | .talInjectWrite _ _ => true
  | .bctCommitGo _ _ => true
  | .bctLoadStart => true
  | .bctCommitResolved => true
  | .dueMarkCrossing _ => true
  | .slotStrobe => true
  | .slotReleaseDecision _ => true
  | .frameReadDone corrected bad wings => rowsOk corrected && rowsOk (bad.map (fun b => b.2)) && wings.all (fun w => decide (w < 4))
  | .frameTransmitStart _ idle => decide (idle.length ≤ 4) && idle.all (fun b => decide (b ≤ 1424))
  | .reserveRowRemapCopy => true
  | .encoderTransition _ _ _ _ _ => true
  | .encoderLos _ => true
  | .encoderIndex _ => true
  | .leafArm _ => true
  | .trackerPause => true
  | .pauseLimitExpiry => true
  | .leafBoundary _ => true
  | .sltAbort _ => true
  | .blankReqAssert => true
  | .blankReqRelease => true
  | .blankLasting => true
  | .stageSlowHoldExpiry => true
  | .dutyVerdict => true
  | .dutySubwindowRoll _ => true
  | .lacunaOpenLimitExpiry _ => true
  | .lacunaStreamCloseExpiry => true
  | .lacunaRecordWritten => true
  | .lacCursorWrite _ _ => true
  | .lacAckWrite _ _ => true
  | .amIdleTimer _ => true
  | .status _ b => backOk b
  | .statusLost => true
  | .temp _ b => backOk b
  | .tempSilent => true
  | .margin _ b => backOk b
  | .hello _ b => backOk b
  | .rate _ b => backOk b
  | .laneEvent _ b => backOk b
  | .blkAlignTimeout _ => true
  | .blkBackchannelSilent _ => true
  | .blkBackchannelLock _ => true
  | .blkRateSwitch => true
  | .blkStepUpStart => true
  | .blkEnable _ => true
  | .blkDisable _ => true
  | .blkStepUp _ => true
  | .blkRetrain _ => true
  | .blkDrainComplete _ => true
  | .spareSwapAm _ => true
  | .memRequestAdmitted _ arrivals => arrivals.all arrivalOk
  | .memRequestServed _ _ flips _ => decide (flips.length ≤ 4) && flips.all (fun f => decide (f < 2 ^ 160))
  | .memAgePromotion _ _ => true
  | .urgentWindowRoll _ => true
  | .fabricTimeout _ => true
  | .scrubRead _ row => decide (row < 2 ^ 22)
  | .scrubWriteback => true
  | .scrubBehind => true
  | .refreshDebtAccrue _ => true
  | .refreshIssue _ _ _ _ => true
  | .mr4Poll _ _ _ => true
  | .selfRefreshEntry _ => true
  | .selfRefreshExit _ _ => true
  | .channelTrainingDone _ lanes => hasLen 10 lanes
  | .channelZeroFillDone _ => true
  | .memRetrain _ _ => true
  | .memApply _ _ => true
  | .scrEnable _ => true
  | .scrDisable _ => true
  | .scrDrainComplete => true
  | .svyFrameStart _ _ => true
  | .svyLinePacket _ _ _ => true
  | .svyFrameEnd _ _ => true
  | .svyForeignPacket _ _ _ => true
  | .svyEmbeddedPacket _ => true
  | .svyDphyError _ => true
  | .svySetSubmit _ _ _ => true
  | .svyListStart _ => true
  | .svyFrameTimeout _ => true
  | .i2cWriteDone _ _ => true
  | .i2cStretchTimeout _ => true
  | .svyListComplete _ => true
  | .svyRecordWritten _ => true
  | .svyConfigWrite _ _ _ _ _ _ => true
  | .svyDefectSwap _ _ _ => true
  | .svyAckWrite _ _ _ _ _ => true
  | .svyEnable _ _ => true
  | .svyDisable _ _ => true
  | .svyDrainComplete _ => true
  | .axmPush _ _ => true
  | .axisCommandStart => true
  | .axisStep => true
  | .dwellExpiry => true
  | .limitActive _ _ => true
  | .limitReleased _ _ since => decide (since < 2 ^ 32)
  | .homeInputChange _ _ => true
  | .axisStopActive => true
  | .axisStopReleased => true
  | .stepMismatch _ => true
  | .axmEnable _ => true
  | .axmDisable _ => true
  | .axmDrainComplete => true
  | .axmClear _ => true
  | .timSampleWrite _ _ _ _ => true
  | .tb1HwSample => true
  | .timSetWrite _ _ _ _ _ => true
  | .servoHoldoverTimeout _ => true
  | .timSecRead _ _ _ _ => true
  | .ethFrameReceived _ frame _ _ => decide (frame.length ≤ 2048)
  | .ethTxWrite _ _ _ _ => true
  | .ethFrameSent _ _ => true
  | .txtsHiRead _ _ _ => true
  | .twinPeerAuthChange _ => true
  | .bothAuth => true
  | .twinFailInHigh _ => true
  | .aloneWaitExpiry => true
  | .heartbeatSend => true
  | .heartbeat b => hasLen 16 b.bytes
  | .hbLost => true
  | .helloSend => true
  | .ikisalHello b => hasLen 16 b.bytes
  | .digest b => hasLen 16 b.bytes
  | .ikisalCommit b => hasLen 16 b.bytes
  | .commitResult b => hasLen 16 b.bytes
  | .tableMsg b body => hasLen 16 b.bytes && hasLen 64 body
  | .recordMsg b body => hasLen 16 b.bytes && hasLen 32 body
  | .endMsg b => hasLen 16 b.bytes
  | .endConfirmTimeout => true
  | .handover b => hasLen 16 b.bytes
  | .twnYield _ => true
  | .timeSyncSend => true
  | .timeSync b => hasLen 16 b.bytes
  | .timeDelay b => hasLen 16 b.bytes
  | .timeResp b => hasLen 16 b.bytes
  | .timeExchangeTimeout => true
  | .iklEnable _ => true
  | .iklDisable _ => true
  | .iklStepUp _ => true
  | .iklRetrain _ => true
  | .iklTs _ _ ts => decide (ts.length ≤ 8) && ts.all (fun b => hasLen 16 b)
  | .iklAlignTimeout => true
  | .iklLinkSilent _ => true
  | .iklRateSwitch => true
  | .iklDrainComplete => true
  | .resetAssert => true
  | .powerGoodDelay => true
  | .resetRelease _ _ _ => true
  | .bootStepDone _ _ => true
  | .bootStepTimeout _ => true
  | .attemptAgeOut => true
  | .previewEntry => true
  | .runEntry => true
  | .bootQuiesce _ => true
  | .quiesceComplete => true
  | .bootRestart _ => true
  | .clearAttempts _ => true
  | .fuseProgram _ _ => true
  | .fuseRevoke _ _ => true
  | .fuseOperationDone => true
  | .flashErase _ => true
  | .flashProgram _ _ => true
  | .flashRead _ _ => true
  | .flashCommandDone _ => true
  | .safeRestartExpiry => true
  | .keeperLockstep => true
  | .keeperWatchdog => true
  | .safWdogWrite _ _ => true
  | .safDemandWrite _ _ => true
  | .clockFault _ _ => true
  | .supplyExcursion _ _ _ => true
  | .padReadbackFault _ => true
  | .guardCompare => true
  | .dieSensorSample temps => hasLen 8 temps
  | .guardRecordPersisted => true
  | .latentGroupRun _ eyes => decide (eyes.length ≤ 10)
  | .latentIdleTimer => true
  | .kprReqPush _ => true
  | .commitTable => true
  | .yield => true
  | .retrain => true
  | .link => true
  | .scrub => true
  | .note => true
  | .restart _ => true
  | .safe => true
  | .docWdogKick _ _ => true
  | .docWatchdogExpiry _ _ => true
  | .docLockup _ _ => true
  | .docCtlRestart _ _ => true
  | .docRestartComplete _ => true
  | .hostmbSend _ _ _ _ => true
  | .hostmbHostRead _ => true
  | .crcClaimRead _ _ => true
  | .crcPreset _ _ _ => true
  | .crcLoad _ _ => true
  | .crcRelease _ _ => true
  | .crcDataFeed _ _ _ _ => true
  | .crcResultRead _ _ _ => true
  | .crcStateWrite _ _ _ => true
  | .aclRecordEnter event data => decide (event < 2 ^ 16) && decide (data.length ≤ 12)
  | .aclFreeze _ => true
  | .aclUnfreeze _ => true
  | .freezeExpired => true
  | .aclCopyStart => true
  | .aclCopyDone => true
  | .aclWindowSelect _ _ _ => true
  | .aclWindowFilled => true
  | .newChallenge _ => true
  | .clear _ => true
  | .signatureVerified => true
  | .aclAuthWrite _ _ _ => true
  | .aclClearDone => true
  | .pmcCtrWrite _ _ _ _ _ _ => true
  | .pmcSelWrite _ _ _ => true
  | .pmcFreeze _ _ => true
  | .pmcCtrLowRead _ _ _ unseen odd => decide (unseen ≤ 2 ^ 48) && decide (odd ≤ 2 ^ 48)
  | .pmcCounterWrap _ => true
  | .pmcSampleTaken _ _ _ latency _ => decide (latency < 2 ^ 32)
  | .pmcSampleAck _ _ => true
  | .calRunStart => true
  | .calRunWrite _ => true
  | .calEnable _ => true
  | .calDisable _ => true
  | .calDrainComplete => true
  | .rxMarkWindow _ ones => decide (ones ≤ 2 ^ 20)
  | .strapChange _ _ => true
  | .perstRelease => true
  | .ikisalHeadDiscard => true
  | .svyHeaderEccError _ => true
  | .ethBlockLockChange _ _ => true
  | .trimLockTimeout _ => true
  | .docRestartAgeOut => true
  | .blankAllNLowObserved _ => true
  | .tapInstructionUpdate _ => true

end Sys2Proof
end

