-- ==== Sys2Proof/Tests/Slice0.lean ====
section
/-! SUPPORT. Tests of single commands on small states, ill-formed terms that the well-formedness check refuses, and a
witness for every statement with hypotheses. Expected values are worked out by hand from the rules that the comments
name. -/
namespace Sys2Proof.Tests
open Sys2Proof Sys2Proof.Machine

-- One theorem after the other: the kernel evaluates each, and none of them needs a thread of its own.
set_option Elab.async false

/-! Ill-formed terms: one for each check of WellFormed. -/

/-- A BAR0 offset past the 32 MiB of R31. -/
theorem test_refuses_offset : wellFormed (.registerWrite .host 0x2000000 .w32 0#64) = false := by decide

/-- A submission entry of 31 bytes (Table 2-4 has 32). -/
theorem test_refuses_entry : wellFormed (.submissionEntryRead 0 (List.replicate 31 0)) = false := by decide

/-- A block of 63 bytes (R37: whole 64-byte units). -/
theorem test_refuses_block : wellFormed (.blockDataReceived 0 0 (List.replicate 63 0)) = false := by decide

/-- A ring index of 15 bits (HIF_SQn_TAIL has 14). -/
theorem test_refuses_index : wellFormed (.sqTailDoorbell .host 0 16384) = false := by decide

/-- A frame read that names Reserve row 168,960 (R143: 160 banks of 1,056 rows). -/
theorem test_refuses_row : wellFormed (.frameReadDone [168960] [] []) = false := by decide

/-- A memory request whose write runs past its burst (R195). -/
theorem test_refuses_write : wellFormed (.memRequestAdmitted 0 [⟨0, 1, some (List.replicate 64 0), none, 0, false, false, 0⟩]) = false := by decide

/-- A well-formed command of each of these kinds. -/
theorem test_accepts_offset : wellFormed (.registerWrite .host 0x20010 .w64 0#64) = true := by decide

/-! Single commands. -/

/-! Witnesses: for each clause of a statement with hypotheses, a state and operands that meet them all. -/

theorem witness_EveryStepKeepsSoundness_1 : ∃ s t : State, s.sound ∧ step s = .next t := ⟨State.reset, State.reset.tick, ⟨by decide +kernel, by decide +kernel⟩, rfl⟩

theorem witness_StepRunsTheFrontCommand_1 : ∃ (c : Instr) (rest : List Instr) (s : State), s.pending = c :: rest := ⟨.kprReqPush .keeper, [], { State.reset with pending := [.kprReqPush .keeper] }, rfl⟩

theorem witness_EveryCommandRunsOnAndKeepsTheQueue_1 : ∃ s : State, s.sound := ⟨State.reset, by decide +kernel, by decide +kernel⟩

theorem witness_PlainWriteChangesCoveredWritableBits_1 : ∃ (s : State) (m : Master) (off : Nat) (w : BusWidth) (v : Word) (o cover : Nat),
    s.silent m = false ∧ busHit off w = .one o cover ∧ s.admitted m o ≠ 0 ∧ ((o / 0x10000 = 0x21 → s.rd (F.CRC_U_CLAIM.OWNER (o % 0x10000 / 0x100)) = masterCore m + 1)) ∧ ¬ (o / 0x10000 = 0x1F ∧ 0x10 ≤ o % 0x10000 ∧ o % 0x10000 < 0x30) ∧ s.mailboxFull o = false :=
  ⟨State.reset, .docentM 0, 0x30510, .w64, 0x123456789ABCDEF0#64, 0x30510, fullMask, by decide +kernel⟩

theorem witness_PlainWriteChangesCoveredWritableBits_2 : ∃ (s : State) (m : Master) (off : Nat) (w : BusWidth) (v : Word) (o cover : Nat),
    s.silent m = false ∧ busHit off w = .one o cover ∧ s.admitted m o ≠ 0 ∧ s.mailboxFull o = true :=
  ⟨with_ [(F.DOC_HOSTMB_FULL.FULL, 4)], .docentM 0, 0x200448, .w64, 0x123456789ABCDEF0#64, 0x200448, fullMask, by decide +kernel⟩

theorem witness_PlainWriteChangesCoveredWritableBits_3 : ∃ (s : State) (m : Master) (off : Nat) (w : BusWidth) (v : Word) (k cover : Nat),
    s.silent m = false ∧ busHit off w = .one (0x1F0010 + 8 * k) cover ∧ s.admitted m (0x1F0010 + 8 * k) ≠ 0 ∧ k < 4 :=
  ⟨State.reset, .docentM 2, 0x1F0018, .w64, 77#64, 1, fullMask, by decide +kernel⟩

theorem witness_PlainWriteChangesCoveredWritableBits_4 : ∃ (s : State) (m : Master) (off : Nat) (w : BusWidth) (v : Word),
    s.silent m = false ∧ ((m = .host ∨ ∃ c, m = .docentM c)) ∧ ((w = .w32 ∨ w = .w64)) ∧ off % busBytes w = 0 ∧ 0x8000 ≤ off ∧ off < 0x9000 :=
  ⟨inMode 4 [], .host, 0x8FF8, .w64, 0x1122334455667788#64, by decide +kernel⟩

theorem witness_PlainWriteChangesCoveredWritableBits_5 : ∃ (s : State) (m : Master) (off : Nat), s.silent m = false ∧ busHit off .w64 = .two off := ⟨State.reset, .host, 0x150020, by decide +kernel⟩

theorem witness_PlainWriteChangesCoveredWritableBits_6 : ∃ (s : State) (m : Master) (off : Nat) (w : BusWidth) (v : Word),
    bar2Base ≤ off :=
  ⟨inMode 3 [], .host, bar2Base + 8, .w64, 0x1122334455667788#64, by decide +kernel⟩

theorem witness_PlainWriteChangesCoveredWritableBits_7 : ∃ (s : State) (off : Nat) (w : BusWidth) (events : Word),
    s.mode ≠ 0 ∧ bar2Base ≤ off ∧ off < bar2Base + 0x1000 ∧ off % busBytes w = 0 :=
  ⟨inMode 3 [], bar2Base + 40, .w64, 0#64, by decide +kernel⟩

theorem witness_PlainWriteChangesCoveredWritableBits_8 : ∃ (s : State) (m : Master) (off : Nat) (w : BusWidth) (events : Word) (o cover : Nat),
    s.silent m = false ∧ busHit off w = .one o cover ∧ s.readable m o = true ∧ ¬ (0x150020 ≤ o ∧ o < 0x150040) ∧ ¬ (0x1C0100 ≤ o ∧ o < 0x1C0130) ∧ o ≠ F.TIM_TXTS_HI.SEC.off ∧ inCounters o = false ∧ o ≠ F.RSV_LEAD.LOW_WATER.off ∧ o / 0x10000 ≠ 0x21 :=
  ⟨with_ [(F.KPR_COUNTS.FIREWALL, 9), (F.KPR_COUNTS.REQUESTS, 5)], .host, 0x1F0040, .w64, 1#64, 0x1F0040, fullMask, by decide +kernel⟩

theorem witness_EventInTheCycleOfAClearStays_1 : ∃ (s : State) (m : Master) (off : Nat) (w : BusWidth) (v events : Word) (o cover : Nat),
    s.silent m = false ∧ busHit off w = .one o cover ∧ s.admitted m o ≠ 0 ∧ o ≠ F.HIF_INTAKE_STATUS.LINK_LOST.off :=
  ⟨with_ [(⟨F.KPR_ERR.FIREWALL.off, 0, 8⟩, 0xFF)], .docentM 0, F.KPR_ERR.FIREWALL.off, .w32, 0xFF#64, 2#64, F.KPR_ERR.FIREWALL.off, lowMask, by decide +kernel⟩

theorem witness_EventInTheCycleOfAClearStays_2 : ∃ (s : State) (m : Master) (off : Nat) (w : BusWidth) (v events : Word) (cover : Nat),
    s.silent m = false ∧ busHit off w = .one F.HIF_INTAKE_STATUS.LINK_LOST.off cover ∧ s.admitted m F.HIF_INTAKE_STATUS.LINK_LOST.off ≠ 0 :=
  ⟨with_ [(F.HIF_INTAKE_STATUS.LINK_LOST, 1), (F.HIF_INTAKE_STATUS.RFQ_DROP, 3)], .host, F.HIF_INTAKE_STATUS.LINK_LOST.off, .w32, 1#64, 0#64, lowMask, by decide +kernel⟩

theorem witness_RefusedWriteIsDiscardedAndLogged_1 : ∃ (s : State) (m : Master) (off : Nat) (w : BusWidth) (v : Word),
    s.silent m = false ∧ (busHit off w = .reserved ∨ busHit off w = .badWidth) :=
  ⟨State.reset, .docentM 5, 0x260000, .w32, 1#64, by decide +kernel⟩

theorem witness_RefusedWriteIsDiscardedAndLogged_2 : ∃ (s : State) (m : Master) (off : Nat) (w : BusWidth) (v : Word) (o cover : Nat),
    s.silent m = false ∧ busHit off w = .one o cover ∧ s.admitted m o = 0 :=
  ⟨inMode 3 [], .host, 0x30510, .w64, 1#64, 0x30510, fullMask, by decide +kernel⟩

theorem witness_RefusedWriteIsDiscardedAndLogged_3 : ∃ (s : State) (c : Instr) (m : Master) (off : Nat),
    gateOf c = some (m, off) ∧ s.silent m = false ∧ s.admits m off = false :=
  ⟨State.reset, .dmaGo .host 5, .host, 0x30500, by decide +kernel⟩

theorem witness_RefusedWriteIsDiscardedAndLogged_4 : ∃ (s : State) (c : Instr) (m : Master) (off : Nat),
    gateOf c = some (m, off) ∧ s.silent m = true :=
  ⟨inMode 0 [], .dmaGo .keeper 5, .keeper, 0x30500, by decide +kernel⟩

theorem witness_HeadWriteFreesOnlyWrittenEntries_1 : ∃ (s : State) (m : Master) (q : Fin 2) (n : Nat),
    s.serves m (F.HIF_HQ_HEAD.HEAD q).off = true ∧ s.rd (F.HIF_HQ_CTL.LOG2 q) ≤ 14 ∧ s.rd (F.HIF_HQ_HEAD.HEAD q) < s.hqSize q ∧ s.rd (F.HIF_HQ_TAIL.TAIL q) = (s.rd (F.HIF_HQ_HEAD.HEAD q) + s.hqUsed q) % s.hqSize q ∧ n ≤ s.hqUsed q ∧ n < s.hqSize q :=
  ⟨{ with_ [(F.HIF_HQ_CTL.LOG2 0, 6), (F.HIF_HQ_HEAD.HEAD 0, 62), (F.HIF_HQ_TAIL.TAIL 0, 1)] with hif := { State.reset.hif with used0 := 3 } }, .host, 0, 3, by decide +kernel⟩

theorem witness_HeadWriteFreesOnlyWrittenEntries_2 : ∃ (s : State) (m : Master) (q : Fin 2) (head : Nat),
    s.serves m (F.HIF_HQ_HEAD.HEAD q).off = true ∧ s.rd (F.HIF_HQ_CTL.LOG2 q) ≤ 14 ∧ s.rd (F.HIF_HQ_HEAD.HEAD q) < s.hqSize q ∧ s.rd (F.HIF_HQ_TAIL.TAIL q) = (s.rd (F.HIF_HQ_HEAD.HEAD q) + s.hqUsed q) % s.hqSize q ∧ s.hqUsed q ≤ s.hqSize q ∧ ((∀ n, n < s.hqUsed q + 1 → n < s.hqSize q → head ≠ (s.rd (F.HIF_HQ_HEAD.HEAD q) + n) % s.hqSize q)) :=
  ⟨{ with_ [(F.HIF_HQ_CTL.LOG2 0, 6), (F.HIF_HQ_HEAD.HEAD 0, 62), (F.HIF_HQ_TAIL.TAIL 0, 1)] with hif := { State.reset.hif with used0 := 3 } }, .host, 0, 2, by decide +kernel⟩

theorem witness_RingSetupProgramsRingsAndQueues_1 : ∃ (s : State) (m : Master) (w : BusWidth) (v : Word),
    s.serves m F.HIF_SETUP_ADDR.ADDR.off = true ∧ (w = .w32 ∨ w = .w64) ∧ s.leafRunning = false ∧ s.anyRing = false ∧ s.rd F.HIF_SETUP_STATUS.STATE ≠ 1 :=
  ⟨with_ [(F.HIF_SETUP_ADDR.ADDR, 0x55555555)], .host, .w32, 0x123456789#64, by decide +kernel⟩

theorem witness_RingSetupProgramsRingsAndQueues_2 : ∃ (s : State) (m : Master) (w : BusWidth) (v : Word),
    s.serves m F.HIF_SETUP_ADDR.ADDR.off = true ∧ (w = .w32 ∨ w = .w64) ∧ ((s.leafRunning = true ∨ s.anyRing = true ∨ s.rd F.HIF_SETUP_STATUS.STATE = 1)) :=
  ⟨with_ [(F.HIF_SETUP_STATUS.STATE, 1)], .host, .w32, 0x123456789#64, by decide +kernel⟩

theorem witness_RingSetupProgramsRingsAndQueues_3 : ∃ (s : State) (rec : List Byte),
    s.rd F.HIF_SETUP_STATUS.STATE = 1 ∧ rec.length = 256 ∧ fieldAt rec 60 196 = 0 :=
  ⟨with_ [(F.HIF_SETUP_STATUS.STATE, 1), (F.DMA_CH_STATUS.STATE 2, 3), (F.DOC_ROUTE.PENDING 20, 1), (F.SLT_STATUS.STATE, 2)], leBytes 8 0x10000 ++ leBytes 24 0 ++ leBytes 2 0x6666 ++ leBytes 2 0 ++ leBytes 1 0x76 ++ leBytes 3 0 ++ leBytes 8 0x20000 ++ leBytes 8 0x30000 ++ leBytes 4 5 ++ leBytes 196 0, by decide +kernel⟩

theorem witness_RingSetupProgramsRingsAndQueues_4 : ∃ (s : State) (rec : List Byte),
    s.rd F.HIF_SETUP_STATUS.STATE = 1 ∧ ((fieldAt rec 60 196 ≠ 0 ∨ rec.length ≠ 256)) :=
  ⟨with_ [(F.HIF_SETUP_STATUS.STATE, 1)], leBytes 255 0 ++ leBytes 1 1, by decide +kernel⟩

theorem witness_RingSetupProgramsRingsAndQueues_5 : ∃ (s : State),
    s.rd F.HIF_SETUP_STATUS.STATE = 1 :=
  ⟨with_ [(F.HIF_SETUP_STATUS.STATE, 1)], by decide +kernel⟩

theorem witness_RingSetupProgramsRingsAndQueues_6 : ∃ (s : State) (m : Master) (n : Fin 4) (tail : Nat),
    s.serves m (F.HIF_SQ_TAIL.TAIL n).off = true ∧ s.bit (F.HIF_SQ_CTL.ENABLE n) = true :=
  ⟨with_ [(F.HIF_SQ_CTL.ENABLE 3, 1)], .host, 3, 16383, by decide +kernel⟩

theorem witness_RingSetupProgramsRingsAndQueues_7 : ∃ (s : State) (m : Master) (n : Fin 4) (tail : Nat),
    s.serves m (F.HIF_SQ_TAIL.TAIL n).off = true ∧ s.bit (F.HIF_SQ_CTL.ENABLE n) = false :=
  ⟨State.reset, .host, 3, 16383, by decide +kernel⟩

theorem witness_HostLinkEventsActOnIntakeOnly_2 : ∃ (s : State) (speed : Fin 8) (width : Nat) (ltssm : Fin 64) (bme : Bool),
    width ≤ 16 ∧ 0 < width ∧ 0 < speed.val ∧ s.mode ≠ 0 :=
  ⟨State.reset, 5, 16, 17, true, by decide +kernel⟩

theorem witness_HostLinkEventsActOnIntakeOnly_3 : ∃ (s : State) (speed : Fin 8) (width : Nat) (ltssm : Fin 64) (bme : Bool),
    ((speed.val = 0 ∨ width = 0)) ∧ s.mode ≠ 0 :=
  ⟨State.reset, 0, 16, 17, true, by decide +kernel⟩

theorem witness_SubmissionsAreFetchedStoredAndReported_1 : ∃ (s : State) (n : Fin 4) (entry : List Byte),
    s.bit (F.HIF_SQ_CTL.ENABLE n) = true ∧ 6 ≤ s.rd (F.HIF_SQ_CTL.LOG2 n) ∧ s.rd (F.HIF_SQ_CTL.LOG2 n) ≤ 14 ∧ s.rd (F.HIF_SQ_HEAD.HEAD n) ≠ s.rd (F.HIF_SQ_TAIL.TAIL n) ∧ s.mode ≠ 4 ∧ s.mode ≠ 5 ∧ s.rd (F.DMA_CH_STATUS.STATE n) ≠ 3 ∧ s.intakeCount < 254 ∧ entryBad entry = false ∧ s.assign (s.asSubmitted (entryOf entry)) = .opens ∧ s.holdsLeaves = false ∧ s.fol.place0 = none :=
  ⟨inMode 2 [(F.HIF_SQ_CTL.ENABLE 3, 1), (F.HIF_SQ_CTL.LOG2 3, 6), (F.HIF_SQ_HEAD.HEAD 3, 63)], 3, leBytes 8 0x1000 ++ leBytes 4 128 ++ leBytes 4 0 ++ leBytes 2 7 ++ leBytes 2 42 ++ leBytes 4 2 ++ leBytes 8 0, by decide +kernel⟩

theorem witness_SubmissionsAreFetchedStoredAndReported_2 : ∃ (s : State) (n : Fin 4) (entry : List Byte),
    s.bit (F.HIF_SQ_CTL.ENABLE n) = true ∧ 6 ≤ s.rd (F.HIF_SQ_CTL.LOG2 n) ∧ s.rd (F.HIF_SQ_CTL.LOG2 n) ≤ 14 ∧ s.rd (F.HIF_SQ_HEAD.HEAD n) ≠ s.rd (F.HIF_SQ_TAIL.TAIL n) ∧ s.mode ≠ 4 ∧ s.mode ≠ 5 ∧ s.rd (F.DMA_CH_STATUS.STATE n) ≠ 3 ∧ s.intakeCount < 256 ∧ entryBad entry = true :=
  ⟨inMode 2 [(F.HIF_SQ_CTL.ENABLE 3, 1), (F.HIF_SQ_CTL.LOG2 3, 6), (F.HIF_SQ_HEAD.HEAD 3, 63)], 3, leBytes 8 0x1001 ++ leBytes 4 128 ++ leBytes 4 0 ++ leBytes 2 7 ++ leBytes 2 42 ++ leBytes 4 2 ++ leBytes 8 0, by decide +kernel⟩

theorem witness_SubmissionsAreFetchedStoredAndReported_3 : ∃ (s : State) (p : Fin 2) (seq : Nat) (data : List Byte) (l : Leaf) (b : Blk) (ring : Nat) (e : SqEntry),
    s.hif.fetching.find? (fun x => x.2.1 = p.val && x.2.2.seq = seq) = some (ring, p.val, e) ∧ s.leafAt p = some l ∧ l.blk seq = some b ∧ l.nextSeq ≤ seq ∧ s.ringStopped p seq = false :=
  ⟨fetchState, 0, 0, [1, 2, 3], fetchLeaf, fetchBlk, 3, fetchEntry, by decide +kernel⟩

theorem witness_SubmissionsAreFetchedStoredAndReported_4 : ∃ (s : State) (p : Fin 2) (seq : Nat) (data : List Byte) (l : Leaf) (b : Blk) (ring : Nat) (e : SqEntry),
    s.hif.fetching.find? (fun x => x.2.1 = p.val && x.2.2.seq = seq) = some (ring, p.val, e) ∧ s.leafAt p = some l ∧ l.blk seq = some b ∧ l.nextSeq ≤ seq ∧ b.refetches < s.rd F.FOL_CFG.REFETCH_LIMIT ∧ s.hif.rfqHeld.length < 64 ∧ s.ringStopped p seq = false :=
  ⟨fetchState, 0, 0, [1, 2, 3], fetchLeaf, fetchBlk, 3, fetchEntry, by decide +kernel⟩

theorem witness_SubmissionsAreFetchedStoredAndReported_5 : ∃ (s : State) (k : Fin 16) (p : Fin 2) (seq : Nat) (read : List Byte),
    4 ≤ k.val ∧ s.rd (F.DMA_CH_STATUS.STATE k) = 1 :=
  ⟨inMode 2 [(F.DMA_CH_STATUS.STATE 4, 1)], 4, 0, 0, [], by decide +kernel⟩

theorem witness_SubmissionsAreFetchedStoredAndReported_6 : ∃ (s : State) (k : Fin 16) (p : Fin 2) (seq : Nat) (read : List Byte) (l : Leaf) (b : Blk) (ring : Nat) (e : SqEntry),
    k.val < 4 ∧ s.hif.fetching.find? (fun x => x.2.1 = p.val && x.2.2.seq = seq) = some (ring, p.val, e) ∧ s.leafAt p = some l ∧ l.blk seq = some b ∧ s.hif.rfqHeld.length < 64 :=
  ⟨fetchState, 3, 0, 0, [], fetchLeaf, fetchBlk, 3, fetchEntry, by decide +kernel⟩

theorem witness_HostQueuesAndVectorsReachTheHost_1 : ∃ (s : State) (c : Completion) (cs : List Completion),
    s.hif.held = c :: cs ∧ s.hqRoom 0 = true :=
  ⟨{ with_ [(F.HIF_HQ_CTL.ENABLE 0, 1), (F.HIF_HQ_CTL.LOG2 0, 6), (F.HIF_HQ_TAIL.TAIL 0, 63), (F.HIF_HQ_BASE.BASE 0, 3), (F.HIF_HQ_TAIL.PHASE 0, 1)] with hif := { State.reset.hif with held := [⟨1, 2, 3, 1, 2, 9, 8, false⟩] } }, ⟨1, 2, 3, 1, 2, 9, 8, false⟩, [], by decide +kernel⟩

theorem witness_HostQueuesAndVectorsReachTheHost_2 : ∃ (s : State) (p : Fin 2) (l : Leaf),
    s.leafAt p = some l ∧ l.reported < l.nextSeq :=
  ⟨{ State.reset with fol := { State.reset.fol with place1 := some { leafNew 7 with nextSeq := 5, reported := 2 } } }, 1, { leafNew 7 with nextSeq := 5, reported := 2 }, by decide +kernel⟩

theorem witness_HostQueuesAndVectorsReachTheHost_3 : ∃ (s : State) (r : RefetchReq) (rs : List RefetchReq),
    s.hif.rfqHeld = r :: rs ∧ s.hqRoom 1 = true :=
  ⟨{ with_ [(F.HIF_HQ_CTL.ENABLE 1, 1), (F.HIF_HQ_CTL.LOG2 1, 14), (F.HIF_HQ_TAIL.TAIL 1, 63), (F.HIF_HQ_BASE.BASE 1, 3), (F.HIF_HQ_TAIL.PHASE 1, 1)] with hif := { State.reset.hif with rfqHeld := [⟨1, 2, 3, 1⟩] } }, ⟨1, 2, 3, 1⟩, [], by decide +kernel⟩

theorem witness_HostQueuesAndVectorsReachTheHost_4 : ∃ (s : State) (v : Fin 64),
    s.hif.due.getLsbD v = true :=
  ⟨{ State.reset with hif := { State.reset.hif with due := BitVec.allOnes 64, mask := 0#64 } }, 63, by decide +kernel⟩

theorem witness_HostQueuesAndVectorsReachTheHost_5 : ∃ (s : State),
    0 < s.hif.modCount :=
  ⟨{ State.reset with hif := { State.reset.hif with modCount := 2 } }, by decide +kernel⟩

theorem witness_DmaChannelsStartOnGoOrEnable_1 : ∃ (s : State) (m : Master) (k : Fin 16),
    s.serves m (F.DMA_CH_CTL.ENABLE k).off = true ∧ s.bit (F.DMA_CH_CTL.PACE k) = true ∧ s.rd (F.DMA_CH_STATUS.STATE k) = 0 ∧ progOk (s.chan k).committed (s.rd (F.DMA_CH_CTL.MODE k)) true = true :=
  ⟨dmaState 4 [(F.DMA_CH_CTL.PACE 4, 1)], .docentM 0, 4, by decide +kernel⟩

theorem witness_DmaChannelsStartOnGoOrEnable_2 : ∃ (s : State) (m : Master) (k : Fin 16),
    s.serves m (F.DMA_CH_CTL.GO k).off = true ∧ s.bit (F.DMA_CH_CTL.ENABLE k) = true ∧ s.bit (F.DMA_CH_CTL.PACE k) = false ∧ s.rd (F.DMA_CH_STATUS.STATE k) = 0 ∧ progOk (s.chan k).committed (s.rd (F.DMA_CH_CTL.MODE k)) false = true :=
  ⟨dmaState 15 [(F.DMA_CH_CTL.ENABLE 15, 1)], .keeper, 15, by decide +kernel⟩

theorem witness_DmaChannelsStartOnGoOrEnable_3 : ∃ (s : State) (m : Master) (k : Fin 16),
    s.serves m (F.DMA_CH_CTL.GO k).off = true ∧ s.bit (F.DMA_CH_CTL.ENABLE k) = true ∧ s.bit (F.DMA_CH_CTL.PACE k) = false ∧ s.rd (F.DMA_CH_STATUS.STATE k) = 0 ∧ progOk (s.chan k).committed (s.rd (F.DMA_CH_CTL.MODE k)) false = false :=
  ⟨with_ [(F.DMA_CH_CTL.ENABLE 15, 1), (F.DMA_CH_CTL.IRQ_EN 15, 1)], .keeper, 15, by decide +kernel⟩

theorem witness_DmaChannelsStartOnGoOrEnable_4 : ∃ (s : State) (m : Master) (k : Fin 16),
    s.serves m (F.DMA_CH_CTL.ENABLE k).off = true ∧ s.bit (F.DMA_CH_CTL.PACE k) = false ∧ s.rd (F.DMA_CH_STATUS.STATE k) = 0 :=
  ⟨State.reset, .docentM 7, 4, by decide +kernel⟩

theorem witness_DmaChannelsStartOnGoOrEnable_5 : ∃ (s : State) (m : Master) (k : Fin 16),
    s.serves m (F.DMA_CH_CTL.ENABLE k).off = true ∧ s.rd (F.DMA_CH_STATUS.STATE k) = 2 :=
  ⟨with_ [(F.DMA_CH_STATUS.STATE 9, 2)], .docentM 7, 9, by decide +kernel⟩

theorem witness_DmaChannelsStartOnGoOrEnable_6 : ∃ (s : State) (k : Fin 16),
    s.rd (F.DMA_CH_STATUS.STATE k) = 2 ∧ s.bit (F.DMA_CH_STATUS.PENDING_ENABLE k) = false :=
  ⟨with_ [(F.DMA_CH_STATUS.STATE 9, 2)], 9, by decide +kernel⟩

theorem witness_DmaChannelsStartOnGoOrEnable_7 : ∃ (s : State) (k : Fin 16),
    s.rd (F.DMA_CH_STATUS.STATE k) = 2 ∧ s.bit (F.DMA_CH_STATUS.PENDING_ENABLE k) = true ∧ progOk (s.chan k).committed (s.rd (F.DMA_CH_CTL.MODE k)) (s.bit (F.DMA_CH_CTL.PACE k)) = true :=
  ⟨dmaState 9 [(F.DMA_CH_STATUS.STATE 9, 2), (F.DMA_CH_STATUS.PENDING_ENABLE 9, 1)], 9, by decide +kernel⟩

theorem witness_DmaShadowCommitAndStopWaitForTheHandOver_1 : ∃ (s : State) (m : Master) (k : Fin 16) (late : Bool),
    s.serves m (F.DMA_CH_CTL.SHADOW_COMMIT k).off = true ∧ (s.chan k).fresh = false :=
  ⟨with_ [(F.DMA_CH_SRC.ADDR 5, 77)], .docentM 3, 5, true, by decide +kernel⟩

theorem witness_DmaShadowCommitAndStopWaitForTheHandOver_2 : ∃ (s : State) (m : Master) (k : Fin 16) (late : Bool),
    s.serves m (F.DMA_CH_CTL.SHADOW_COMMIT k).off = true ∧ (s.chan k).fresh = true :=
  ⟨dmaState 5 [(F.DMA_CH_SRC.ADDR 5, 77)], .docentM 3, 5, true, by decide +kernel⟩

theorem witness_DmaShadowCommitAndStopWaitForTheHandOver_3 : ∃ (s : State) (k : Fin 16),
    4 ≤ k.val ∧ s.rd (F.DMA_CH_STATUS.STATE k) = 1 ∧ (s.chan k).going = true ∧ progBursts (s.chan k).active ≤ (s.chan k).burst ∧ s.rd (F.DMA_CH_CTL.MODE k) = 1 ∧ (s.chan k).stopReq = false ∧ progOk (s.chan k).committed 1 (s.bit (F.DMA_CH_CTL.PACE k)) = true :=
  ⟨dmaRun 5 5 [(F.DMA_CH_CTL.MODE 5, 1)], 5, by decide +kernel⟩

theorem witness_DmaShadowCommitAndStopWaitForTheHandOver_4 : ∃ (s : State) (k : Fin 16),
    4 ≤ k.val ∧ s.rd (F.DMA_CH_STATUS.STATE k) = 1 ∧ (s.chan k).going = true ∧ progBursts (s.chan k).active ≤ (s.chan k).burst ∧ ((s.rd (F.DMA_CH_CTL.MODE k) = 0 ∨ (s.rd (F.DMA_CH_CTL.MODE k) = 1 ∧ (s.chan k).stopReq = true) ∨ (s.rd (F.DMA_CH_CTL.MODE k) = 2 ∧ progLast (s.chan k).active = true))) :=
  ⟨dmaRun 5 5 [(F.DMA_CH_CTL.IRQ_EN 5, 1)], 5, by decide +kernel⟩

theorem witness_DmaShadowCommitAndStopWaitForTheHandOver_5 : ∃ (s : State) (k : Fin 16),
    4 ≤ k.val ∧ s.rd (F.DMA_CH_STATUS.STATE k) = 1 ∧ (s.chan k).going = true ∧ progBursts (s.chan k).active ≤ (s.chan k).burst ∧ s.rd (F.DMA_CH_CTL.MODE k) = 2 ∧ progLast (s.chan k).active = false ∧ (((s.chan k).fetched = 0 ∨ progNext (s.chan k).active ≠ (s.chan k).head)) ∧ (s.chan k).fetched < s.rd F.DMA_CHAIN_BUDGET.LIMIT :=
  ⟨dmaRun 5 5 [(F.DMA_CH_CTL.MODE 5, 2)], 5, by decide +kernel⟩

theorem witness_DmaShadowCommitAndStopWaitForTheHandOver_6 : ∃ (s : State) (k : Fin 16),
    4 ≤ k.val ∧ s.rd (F.DMA_CH_STATUS.STATE k) = 1 ∧ (s.chan k).going = true ∧ progBursts (s.chan k).active ≤ (s.chan k).burst ∧ s.rd (F.DMA_CH_CTL.MODE k) = 2 ∧ progLast (s.chan k).active = false ∧ ((((s.chan k).fetched ≠ 0 ∧ progNext (s.chan k).active = (s.chan k).head) ∨ s.rd F.DMA_CHAIN_BUDGET.LIMIT ≤ (s.chan k).fetched)) :=
  ⟨dmaRun 5 5 [(F.DMA_CH_CTL.MODE 5, 2), (F.DMA_CHAIN_BUDGET.LIMIT, 0)], 5, by decide +kernel⟩

theorem witness_DmaShadowCommitAndStopWaitForTheHandOver_7 : ∃ (s : State) (m : Master) (k : Fin 16),
    s.serves m (F.DMA_CH_CTL.STOP k).off = true ∧ s.rd (F.DMA_CH_STATUS.STATE k) = 1 ∧ s.rd (F.DMA_CH_CTL.MODE k) = 1 :=
  ⟨dmaRun 5 0 [(F.DMA_CH_CTL.MODE 5, 1)], .docentM 1, 5, by decide +kernel⟩

theorem witness_EnableWhileDisablingIsHeldAndApplied_1 : ∃ (s : State) (m : Master) (k : Fin 16),
    s.serves m (F.DMA_CH_CTL.ENABLE k).off = true ∧ s.rd (F.DMA_CH_STATUS.STATE k) = 2 :=
  ⟨with_ [(F.DMA_CH_STATUS.STATE 9, 2)], .docentM 7, 9, by decide +kernel⟩

theorem witness_EnableWhileDisablingIsHeldAndApplied_2 : ∃ (s : State) (k : Fin 16),
    s.rd (F.DMA_CH_STATUS.STATE k) = 2 ∧ s.bit (F.DMA_CH_STATUS.PENDING_ENABLE k) = true :=
  ⟨dmaState 9 [(F.DMA_CH_STATUS.STATE 9, 2), (F.DMA_CH_STATUS.PENDING_ENABLE 9, 1)], 9, by decide +kernel⟩

theorem witness_EnableWhileDisablingIsHeldAndApplied_3 : ∃ (s : State) (m : Master) (k : Fin 16) (inFlight : Bool),
    s.serves m (F.DMA_CH_CTL.ENABLE k).off = true ∧ s.rd (F.DMA_CH_STATUS.STATE k) = 2 :=
  ⟨with_ [(F.DMA_CH_STATUS.STATE 9, 2), (F.DMA_CH_STATUS.PENDING_ENABLE 9, 1)], .docentM 7, 9, true, by decide +kernel⟩

theorem witness_EnableWhileDisablingIsHeldAndApplied_4 : ∃ (s : State) (k : Fin 16),
    s.rd (F.DMA_CH_STATUS.STATE k) = 2 ∧ s.bit (F.DMA_CH_STATUS.PENDING_ENABLE k) = false :=
  ⟨with_ [(F.DMA_CH_STATUS.STATE 9, 2)], 9, by decide +kernel⟩

theorem witness_DmaBurstsMoveBytesToTheComputedAddresses_1 : ∃ (s : State) (k : Fin 16) (data : List Byte) (bs : List Byte),
    4 ≤ k.val ∧ s.ddrErr = [] ∧ s.rd (F.DMA_CH_STATUS.STATE k) = 1 ∧ (s.chan k).going = true ∧ (s.chan k).burst < progBursts (s.chan k).active ∧ ((s.bit (F.DMA_CH_CTL.PACE k) = true → progLen (s.chan k).active * 400 ≤ s.tokensNow (s.chan k))) ∧ s.burstBad (progSrcSpace (s.chan k).active) (burstSrc (s.chan k).active (s.chan k).burst) (progLen (s.chan k).active) = false ∧ s.burstBad 1 (burstDst (s.chan k).active (s.chan k).burst) (progLen (s.chan k).active) = false ∧ progSrcSpace (s.chan k).active = 0 ∧ progDstSpace (s.chan k).active = 1 ∧ s.ddrPoisoned (burstSrc (s.chan k).active (s.chan k).burst).toNat (progLen (s.chan k).active) = false ∧ bs = s.ddrRead (burstSrc (s.chan k).active (s.chan k).burst).toNat (progLen (s.chan k).active) :=
  ⟨dmaRun 5 0 [(F.HIF_LINK_STATUS.BME, 1), (F.BCT_STAGE.BASE, 4)], 5, [], List.replicate 4 0#8, by decide +kernel⟩

theorem witness_DmaBurstsMoveBytesToTheComputedAddresses_2 : ∃ (s : State) (k : Fin 16) (data : List Byte),
    4 ≤ k.val ∧ s.rd (F.DMA_CH_STATUS.STATE k) = 1 ∧ (s.chan k).going = true ∧ (s.chan k).burst < progBursts (s.chan k).active ∧ s.bit (F.DMA_CH_CTL.PACE k) = false ∧ s.burstBad 1 (burstSrc (s.chan k).active (s.chan k).burst) (progLen (s.chan k).active) = false ∧ s.burstBad 2 (burstDst (s.chan k).active (s.chan k).burst) (progLen (s.chan k).active) = false ∧ progSrcSpace (s.chan k).active = 1 ∧ progDstSpace (s.chan k).active = 2 ∧ data.length = progLen (s.chan k).active ∧ s.sramErr = [] :=
  ⟨dmaHostToSram, 5, [1, 2, 3, 4], by decide +kernel⟩

theorem witness_DmaBurstsMoveBytesToTheComputedAddresses_3 : ∃ (s : State) (k : Fin 16) (data : List Byte),
    4 ≤ k.val ∧ s.rd (F.DMA_CH_STATUS.STATE k) = 1 ∧ (s.chan k).going = true ∧ (s.chan k).burst < progBursts (s.chan k).active ∧ s.bit (F.DMA_CH_CTL.PACE k) = false ∧ s.burstBad 2 (burstSrc (s.chan k).active (s.chan k).burst) (progLen (s.chan k).active) = false ∧ s.burstBad 0 (burstDst (s.chan k).active (s.chan k).burst) (progLen (s.chan k).active) = false ∧ progSrcSpace (s.chan k).active = 2 ∧ progDstSpace (s.chan k).active = 0 ∧ s.sramPoisoned (burstSrc (s.chan k).active (s.chan k).burst).toNat (progLen (s.chan k).active) = false ∧ s.ddrErr = [] ∧ s.poison = [] ∧ s.mem.remaps = [] :=
  ⟨(let u := dmaHostToSram.setChan 5 { dmaChZero with active := ⟨0x40, 0x1000101, 0x200003, 0, 0, 0, 0, 0, 0⟩, going := true }; { u.wr F.MEM_STATUS.FULL_MAP 1 with sram := memWrite [] 0x40 [7, 8, 9] }), 5, [], by decide +kernel⟩

theorem witness_DmaBurstsMoveBytesToTheComputedAddresses_4 : ∃ (s : State) (k : Fin 16) (data : List Byte) (srcPoison : Bool) (flips : List (Nat × Nat)),
    4 ≤ k.val ∧ s.rd (F.DMA_CH_STATUS.STATE k) = 1 ∧ (s.chan k).going = true ∧ (s.chan k).burst < progBursts (s.chan k).active ∧ ((s.bit (F.DMA_CH_CTL.PACE k) = true → progLen (s.chan k).active * 400 ≤ s.tokensNow (s.chan k))) ∧ ((s.burstBad (progSrcSpace (s.chan k).active) (burstSrc (s.chan k).active (s.chan k).burst) (progLen (s.chan k).active) = true ∨ s.burstBad (progDstSpace (s.chan k).active) (burstDst (s.chan k).active (s.chan k).burst) (progLen (s.chan k).active) = true)) :=
  ⟨dmaRun 5 0 [], 5, [], false, [(7, 1)], by decide +kernel⟩

theorem witness_DmaBurstsMoveBytesToTheComputedAddresses_5 : ∃ (s : State) (k : Fin 16) (p : DmaProg) (bs : List Byte),
    (s.chan k).fetching = true ∧ s.rd (F.DMA_CH_STATUS.STATE k) = 1 ∧ bs = (if progNextSram (s.chan k).active then memRead s.sram (progNext (s.chan k).active) 64 else s.ddrRead (progNext (s.chan k).active) 64) ∧ p = ⟨BitVec.ofNat 64 (fieldAt bs 0 8), BitVec.ofNat 64 (fieldAt bs 8 8), BitVec.ofNat 64 (fieldAt bs 16 8), BitVec.ofNat 64 (fieldAt bs 24 8), BitVec.ofNat 64 (fieldAt bs 32 8), BitVec.ofNat 64 (fieldAt bs 40 8), BitVec.ofNat 64 (fieldAt bs 48 8), BitVec.ofNat 64 (fieldAt bs 56 8), (s.chan k).active.rate⟩ ∧ progOk p (s.rd (F.DMA_CH_CTL.MODE k)) (s.bit (F.DMA_CH_CTL.PACE k)) = true ∧ s.spaceHas (if progNextSram (s.chan k).active then 2 else 0) (progNext (s.chan k).active : Nat) 64 = true ∧ ((progNextSram (s.chan k).active = true ∨ s.ddrErr = [])) :=
  ⟨dmaFetching, 5, ⟨0, 0, 4, 0, 0, 0, 0, 0, 0⟩, leBytes 16 0 ++ leBytes 8 4 ++ leBytes 40 0, by decide +kernel⟩

theorem witness_DmaBurstsMoveBytesToTheComputedAddresses_6 : ∃ (s : State) (k : Fin 16),
    (s.chan k).fetching = true ∧ s.rd (F.DMA_CH_STATUS.STATE k) = 1 ∧ s.spaceHas (if progNextSram (s.chan k).active then 2 else 0) (progNext (s.chan k).active : Nat) 64 = false :=
  ⟨{ dmaFetching with dma := [(5, { dmaChZero with active := ⟨0, 0, 4, 0, 0, 0, 0, 0x3FFFC1, 0⟩, fetching := true }), (6, { dmaChZero with active := ⟨0, 0, 4, 0, 0, 0, 0, 0xFFFFFFFFFF000, 0⟩, fetching := true })] }.wr (F.DMA_CH_STATUS.STATE 6) 1, 6, by decide +kernel⟩

theorem witness_DmaBurstsMoveBytesToTheComputedAddresses_7 : ∃ (s : State) (k : Fin 16),
    4 ≤ k.val ∧ s.rd (F.DMA_CH_STATUS.STATE k) = 1 :=
  ⟨dmaRun 4 0 [(F.DMA_CH_CTL.IRQ_EN 4, 1)], 4, by decide +kernel⟩

theorem witness_DmaBurstsMoveBytesToTheComputedAddresses_8 : ∃ (s : State) (k : Fin 16) (p : Fin 2) (data : List Byte) (l : Leaf) (b : Blk) (e : SqEntry),
    k.val < 4 ∧ s.rd (F.DMA_CH_STATUS.STATE k) = 1 ∧ s.hif.fetching.find? (fun x => x.1 = k.val) = some (k.val, p.val, e) ∧ s.hif.fetching.find? (fun x => x.2.1 = p.val && x.2.2.seq = e.seq) = some (k.val, p.val, e) ∧ s.leafAt p = some l ∧ l.blk e.seq = some b ∧ l.nextSeq ≤ e.seq ∧ data ≠ [] :=
  ⟨fetchWith [(F.DMA_CH_STATUS.STATE 3, 1)], 3, 0, [1, 2], fetchLeaf, fetchBlk, fetchEntry, by decide +kernel⟩

theorem witness_DmaBurstsMoveBytesToTheComputedAddresses_9 : ∃ (s : State) (k : Fin 16) (data : List Byte),
    4 ≤ k.val ∧ s.rd (F.DMA_CH_STATUS.STATE k) = 1 ∧ s.burstLeft k = true ∧ progDstSpace (s.chan k).active = 2 ∧ data.length = progLen (s.chan k).active ∧ data ≠ [] :=
  ⟨dmaHostToSram, 5, [1, 2, 3, 4], by decide +kernel⟩

theorem witness_DmaDisableDropsAndErrClearsToIdle_1 : ∃ (s : State) (m : Master) (k : Fin 16),
    s.serves m (F.DMA_CH_CTL.ENABLE k).off = true ∧ s.rd (F.DMA_CH_STATUS.STATE k) = 1 :=
  ⟨dmaRun 5 3 [], .docentM 0, 5, by decide +kernel⟩

theorem witness_DmaDisableDropsAndErrClearsToIdle_2 : ∃ (s : State) (m : Master) (k : Fin 16) (inFlight : Bool),
    s.serves m (F.DMA_CH_CTL.ENABLE k).off = true ∧ s.rd (F.DMA_CH_STATUS.STATE k) ≠ 1 :=
  ⟨with_ [(F.DMA_CH_STATUS.STATE 9, 2), (F.DMA_CH_STATUS.PENDING_ENABLE 9, 1), (F.DMA_CH_CTL.ENABLE 9, 1)], .docentM 0, 9, true, by decide +kernel⟩

theorem witness_DmaDisableDropsAndErrClearsToIdle_3 : ∃ (s : State) (m : Master) (k : Fin 16) (bits : Fin 8),
    s.serves m (F.DMA_CH_STATUS.ERR k).off = true ∧ bits ≠ 0 :=
  ⟨with_ [(F.DMA_CH_STATUS.STATE 9, 3), (F.DMA_CH_STATUS.ERR 9, 2)], .docentM 0, 9, 7, by decide +kernel⟩

theorem witness_BlocksAreCheckedAndTakenInOrder_1 : ∃ (s : State) (p : Fin 2) (seq : Nat) (disturbed : Bool) (l : Leaf) (b : Blk) (rs : List Rec),
    s.leafAt p = some l ∧ l.blk seq = some b ∧ b.state = .stored ∧ b.poison = 0 ∧ blockCheck b.data = true ∧ blockHeader b.data l.id seq b.first b.last ((l.blocks.find? (fun c => c.seq + 1 = seq && c.trusted)).map Blk.lastRow) = true ∧ b.first = false ∧ l.skipping = false ∧ (blockRecs b.data).map (fun x => (x.length, recsForm false (blockFirstRow b.data) (blockLastRow b.data) x)) = some (rs.length, true) :=
  ⟨goodBlock, 0, 1, false, goodLeaf, goodBlk, [.pad], by decide +kernel⟩

theorem witness_BlocksAreCheckedAndTakenInOrder_2 : ∃ (s : State) (p : Fin 2) (seq : Nat) (disturbed : Bool) (l : Leaf) (b : Blk),
    s.leafAt p = some l ∧ l.blk seq = some b ∧ b.state = .stored ∧ b.poison = 0 ∧ blockCheck b.data = false ∧ b.refetches < s.rd F.FOL_CFG.REFETCH_LIMIT ∧ s.hif.rfqHeld.length < 64 :=
  ⟨badBlock, 0, 1, false, badLeaf, badBlk, by decide +kernel⟩

theorem witness_BlocksAreCheckedAndTakenInOrder_3 : ∃ (s : State) (p : Fin 2) (l l' : Leaf) (h : LeafHdr) (b : Blk),
    s.leafAt p = some l ∧ l.hdr = some h ∧ l.blk l.nextSeq = some b ∧ l.admitted = true ∧ b.state = .good ∧ (blockRecs b.data).bind (takeRecs h s.motifStore l) = some l' ∧ l'.failed.length = l.failed.length :=
  ⟨takenBlock 0, 0, takenLeaf 0, takenLeaf 0, someHdr, takenBlk 0, by decide +kernel⟩

theorem witness_BlocksAreCheckedAndTakenInOrder_4 : ∃ (s : State) (p : Fin 2) (l : Leaf) (h : LeafHdr) (b : Blk),
    s.leafAt p = some l ∧ l.hdr = some h ∧ l.blk l.nextSeq = some b ∧ l.admitted = true ∧ b.state = .recordsFailed ∧ l.skipping = false :=
  ⟨failedBlock, 0, failedLeaf, someHdr, failedBlk, by decide +kernel⟩

theorem witness_BlocksAreCheckedAndTakenInOrder_5 : ∃ (s : State) (p : Fin 2) (l : Leaf) (h : LeafHdr),
    s.leafAt p = some l ∧ l.hdr = some h ∧ l.admitted = true ∧ l.blk l.nextSeq = none ∧ l.skipping = false ∧ l.complete + 1 ≤ hdrHigh h ∧ l.blocks.all (fun b => b.seq ≤ l.nextSeq || b.state ≠ .good) = true ∧ (s.rowDeadline p (l.complete + 1)).isSome = true ∧ l.missing.any (fun m => m.1 = l.complete + 1) = false ∧ l.nextSeq + 1 < l.reported + 64 :=
  ⟨{ gapState.wr F.SLT_STATUS.STATE 2 with fol := { gapState.fol with cur := some 0 } }, 0, gapLeaf, someHdr, by decide +kernel⟩

theorem witness_LeavesAreAdmittedOrRefusedWithTheLowestCause_1 : ∃ (s : State) (p : Fin 2) (l : Leaf) (h : LeafHdr),
    s.leafAt p = some l ∧ l.hdr = some h ∧ l.admitted = false ∧ s.holdsLeaves = false ∧ ((s.mode = 2 ∨ s.mode = 3)) ∧ s.admissionCause p h = 0 :=
  ⟨headerState, 0, headerLeaf, someHdr, by decide +kernel⟩

theorem witness_LeavesAreAdmittedOrRefusedWithTheLowestCause_2 : ∃ (s : State) (p : Fin 2) (l : Leaf) (h : LeafHdr) (c : Nat),
    s.leafAt p = some l ∧ l.hdr = some h ∧ l.admitted = false ∧ s.holdsLeaves = false ∧ ((s.mode = 2 ∨ s.mode = 3)) ∧ s.admissionCause p h = c ∧ c ≠ 0 :=
  ⟨refusedState, 0, headerLeaf, someHdr, 2, by decide +kernel⟩

theorem witness_CompressorRunsJobsIntoItsBuffers_1 : ∃ (s : State) (m : Master),
    s.serves m F.GUG_CTL.ENABLE.off = true :=
  ⟨with_ [(F.GUG_STATUS.STATE, 2)], .docentM 0, by decide +kernel⟩

theorem witness_CompressorRunsJobsIntoItsBuffers_2 : ∃ (s : State) (m : Master) (written : Nat),
    s.serves m F.GUG_CTL.ENABLE.off = true ∧ s.rd F.GUG_STATUS.STATE ≠ 1 :=
  ⟨with_ [(F.GUG_STATUS.STATE, 2)], .docentM 0, 5, by decide +kernel⟩

theorem witness_CompressorRunsJobsIntoItsBuffers_3 : ∃ (s : State) (m : Master) (written : Nat),
    s.serves m F.GUG_CTL.ENABLE.off = true ∧ s.rd F.GUG_STATUS.STATE = 1 :=
  ⟨gugState [(F.GUG_STATUS.STATE, 1), (F.GUG_STATUS.PENDING_ENABLE, 1)], .docentM 0, 5, by decide +kernel⟩

theorem witness_CompressorRunsJobsIntoItsBuffers_4 : ∃ (s : State) (m : Master),
    s.serves m F.GUG_CTL.GO.off = true ∧ s.bit F.GUG_CTL.ENABLE = true ∧ s.rd F.GUG_STATUS.STATE = 0 ∧ s.gugSrcBad = false ∧ s.gugListBad = false :=
  ⟨gugState [(F.GUG_CTL.ENABLE, 1)], .docentM 0, by decide +kernel⟩

theorem witness_CompressorRunsJobsIntoItsBuffers_5 : ∃ (s : State) (m : Master),
    s.serves m F.GUG_CTL.GO.off = true ∧ s.bit F.GUG_CTL.ENABLE = true ∧ s.rd F.GUG_STATUS.STATE = 0 ∧ ((s.gugSrcBad = true ∨ s.gugListBad = true)) :=
  ⟨with_ [(F.GUG_CTL.ENABLE, 1), (F.GUG_CTL.IRQ_EN, 1)], .docentM 0, by decide +kernel⟩

theorem witness_CompressorRunsJobsIntoItsBuffers_6 : ∃ (s : State) (flaw : Option (Nat × Byte)) (blocks src : List Byte) (a n : Nat),
    s.rd F.GUG_STATUS.STATE = 1 ∧ s.rd F.GUG_JOB_SRC.SPACE = 2 ∧ s.gugBuffers = [(a, n, 1)] ∧ 12 + blocks.length ≤ n ∧ n < 2 ^ 32 ∧ src = memRead s.sram (s.rd F.GUG_JOB_SRC.ADDR) (s.rd F.GUG_JOB_LEN.LEN) ∧ s.sramPoisoned (s.rd F.GUG_JOB_SRC.ADDR) (s.rd F.GUG_JOB_LEN.LEN) = false ∧ blocks = gugFlawed flaw (gugEmit (s.rd F.GUG_CTL.LEVEL) src (ceilDiv src.length 65536)) ∧ (gugDecode (gugHead src ++ blocks)).form = true ∧ (gugDecode (gugHead src ++ blocks)).out = src :=
  ⟨gugOne, none, gugOneOut, [0], 4096, 64, by decide +kernel, by decide +kernel, by decide +kernel, by decide +kernel, by decide +kernel, by decide +kernel, by decide +kernel, gugEmit_one.symm, by decide +kernel, by decide +kernel⟩

theorem witness_CompressorRunsJobsIntoItsBuffers_7 : ∃ (s : State) (f : Nat × Byte) (blocks src : List Byte) (a n : Nat),
    s.rd F.GUG_STATUS.STATE = 1 ∧ s.rd F.GUG_JOB_SRC.SPACE = 2 ∧ s.gugBuffers = [(a, n, 1)] ∧ n < 2 ^ 32 ∧ src = memRead s.sram (s.rd F.GUG_JOB_SRC.ADDR) (s.rd F.GUG_JOB_LEN.LEN) ∧ s.sramPoisoned (s.rd F.GUG_JOB_SRC.ADDR) (s.rd F.GUG_JOB_LEN.LEN) = false ∧ blocks = (gugEmit (s.rd F.GUG_CTL.LEVEL) src (ceilDiv src.length 65536)).set f.1 f.2 ∧ f.1 < blocks.length ∧ 12 + f.1 < n ∧ (((gugDecode (gugHead src ++ blocks)).form = false ∨ (gugDecode (gugHead src ++ blocks)).out ≠ src)) :=
  ⟨gugOne, (0, 9), gugOneOut.set 0 9, [0], 4096, 64, by decide +kernel, by decide +kernel, by decide +kernel, by decide +kernel, by decide +kernel, by decide +kernel, congrArg (fun l => l.set 0 9) gugEmit_one.symm, by decide +kernel, by decide +kernel, by decide +kernel⟩

theorem witness_CompressorRunsJobsIntoItsBuffers_8 : ∃ (s : State) (blocks src : List Byte) (a n : Nat),
    s.rd F.GUG_STATUS.STATE = 1 ∧ s.rd F.GUG_JOB_SRC.SPACE = 2 ∧ s.gugBuffers = [(a, n, 1)] ∧ 12 ≤ n ∧ n < 12 + blocks.length ∧ n < 2 ^ 32 ∧ src = memRead s.sram (s.rd F.GUG_JOB_SRC.ADDR) (s.rd F.GUG_JOB_LEN.LEN) ∧ s.sramPoisoned (s.rd F.GUG_JOB_SRC.ADDR) (s.rd F.GUG_JOB_LEN.LEN) = false ∧ blocks = gugEmit (s.rd F.GUG_CTL.LEVEL) src (ceilDiv src.length 65536) :=
  ⟨{ gugOne with sram := memWrite gugOne.sram 0x208 (leBytes 4 16) }, gugOneOut, [0], 4096, 16, by decide +kernel, by decide +kernel, by decide +kernel, by decide +kernel, by decide +kernel, by decide +kernel, by decide +kernel, by decide +kernel, gugEmit_one.symm⟩

theorem witness_CompressorRunsJobsIntoItsBuffers_9 : ∃ (s : State) (blocks src : List Byte) (a n : Nat),
    s.rd F.GUG_STATUS.STATE = 1 ∧ s.rd F.GUG_JOB_SRC.SPACE = 2 ∧ s.gugBuffers = [(a, n, 1)] ∧ n < 2 ^ 32 ∧ src = memRead s.sram (s.rd F.GUG_JOB_SRC.ADDR) (s.rd F.GUG_JOB_LEN.LEN) ∧ s.gugPieces < ceilDiv src.length 65536 ∧ blocks = gugEmit (s.rd F.GUG_CTL.LEVEL) src s.gugPieces ∧ 12 + blocks.length ≤ n :=
  ⟨{ gugOne with sramPoison := [(0x100, 1)] }, [], [0], 4096, 64, by decide +kernel⟩

theorem witness_CompressorRunsJobsIntoItsBuffers_10 : ∃ (s : State),
    s.rd F.GUG_STATUS.STATE = 2 :=
  ⟨with_ [(F.GUG_STATUS.STATE, 2)], by decide +kernel⟩

theorem witness_CompressorRunsJobsIntoItsBuffers_11 : ∃ (s : State) (m : Master) (bits : Fin 16),
    s.serves m F.GUG_STATUS.ERR.off = true ∧ bits ≠ 0 :=
  ⟨with_ [(F.GUG_STATUS.STATE, 3), (F.GUG_STATUS.ERR, 2)], .docentM 0, 15, by decide +kernel⟩

theorem witness_RowsOfDensityAndModulationAreFinishedInOrder_1 : ∃ (s : State) (p : Fin 2) (l : Leaf) (h : LeafHdr),
    s.leafAt p = some l ∧ l.hdr = some h ∧ s.densityMay p l h (l.ras.densRow + 1) = true ∧ (l.rowPaths (l.ras.densRow + 1)).all (fun g => g.2.all pathFlattens) = true :=
  ⟨rasState rasNew [], 0, rasLeaf rasNew, someHdr, by decide +kernel⟩

theorem witness_RowsOfDensityAndModulationAreFinishedInOrder_2 : ∃ (s : State) (p : Fin 2) (l : Leaf) (h : LeafHdr) (lost : List Int),
    s.ddrErr = [] ∧ s.leafAt p = some l ∧ l.hdr = some h ∧ l.admitted = true ∧ h.pec = true ∧ l.ras.modRow + 1 ≤ hdrC h ∧ min ((l.ras.modRow + 1 + ((s.pecK - 1) / 2 : Nat)) / 2) (hdrHigh h) ≤ l.ras.densRow ∧ lost = ((s.pecReach h (l.ras.modRow + 1)).filter (fun t => s.ddrPoisoned (s.talRingAt t) 8192)).flatMap (fun t => [2 * t, 2 * t + 1]) :=
  ⟨pecState, 0, pecLeaf, { someHdr with pec := true }, [], by decide +kernel⟩

theorem witness_EnginesRasteriseTilesThatTallyVerifies_1 : ∃ (s : State) (e : Fin 64) (p : Nat) (l : Leaf) (h : LeafHdr) (r : Int),
    s.engineNext e = some (p, l, h, r) ∧ l.bankKnown = true ∧ (s.paired && decide (s.twn.mirroring = some l.id)) = false ∧ s.rowPassed p l r = false ∧ l.rowDone h r = true ∧ l.skipCauses h r e = [] ∧ l.densityReady h r = true ∧ l.pecReady h r = true ∧ s.reserveAdmits l r = true ∧ s.engineFree e = true ∧ e.val < l.ras.next.length :=
  ⟨rasState rasReady [], 0, 0, rasLeaf rasReady, someHdr, 0, by decide +kernel⟩

theorem witness_EnginesRasteriseTilesThatTallyVerifies_2 : ∃ (s : State) (e : Fin 64) (p : Nat) (l : Leaf) (h : LeafHdr) (r : Int) (c : Nat) (cs : List Nat),
    s.engineNext e = some (p, l, h, r) ∧ l.bankKnown = true ∧ (s.paired && decide (s.twn.mirroring = some l.id)) = false ∧ s.rowPassed p l r = false ∧ l.skipCauses h r e = c :: cs ∧ l.ras.tileAt r e = none ∧ e.val < l.ras.next.length :=
  ⟨missingState, 3, 0, missingLeaf, someHdr, 0, 11, [], by decide +kernel⟩

theorem witness_EnginesRasteriseTilesThatTallyVerifies_3 : ∃ (s : State) (e : Fin 64) (p : Nat) (k : TileSt),
    s.engineTile e .edge = some (p, k) ∧ k.tally = false :=
  ⟨tileState edgeTile, 5, 0, edgeTile, by decide +kernel⟩

theorem witness_EnginesRasteriseTilesThatTallyVerifies_4 : ∃ (s : State) (e : Fin 64) (p : Nat) (k : TileSt),
    s.engineTile e .edge = some (p, k) ∧ k.cause = 0 ∧ (s.leafAt p).bind (fun x => x.ras.tileAt k.row e) = some k :=
  ⟨tileState edgeTile, 5, 0, edgeTile, by decide +kernel⟩

theorem witness_EnginesRasteriseTilesThatTallyVerifies_5 : ∃ (s : State) (e : Fin 64) (p : Nat) (k : TileSt) (l : Leaf) (h : LeafHdr),
    s.engineTile e .sweep = some (p, k) ∧ s.leafAt p = some l ∧ l.hdr = some h ∧ k.tally = false ∧ (s.buffered e).length < 2 ∧ fillBreach ((tilePieces (l.pathsAt false k.row (e.val : Int))).flatMap subPieces) (s.rd F.RAS_CFG.CLAMP_MARGIN) = false ∧ s.ddrErr = [] ∧ (s.mapRanges h k.row).any (fun r => s.ddrPoisoned r.1 r.2) = false :=
  ⟨tileState sweepTile, 5, 0, sweepTile, tileLeaf sweepTile, someHdr, by decide +kernel⟩

theorem witness_EnginesRasteriseTilesThatTallyVerifies_6 : ∃ (s : State) (e : Fin 64) (p : Nat) (k : TileSt) (l : Leaf),
    s.firstTile (s.tilesWhere (fun k => k.col = e && k.phase = .swept && !k.tally)) = some (p, k) ∧ s.leafAt p = some l ∧ tallyFails k.sums (((l.ras.checks.find? (fun c => c.1 = k.row)).map (fun c => c.2.getD e [])).getD []) = [] ∧ l.ras.unknownCause k.row e = none ∧ s.paired = false :=
  ⟨tileState sweptTile, 5, 0, sweptTile, tileLeaf sweptTile, by decide +kernel⟩

theorem witness_EnginesRasteriseTilesThatTallyVerifies_7 : ∃ (s : State) (e : Fin 64) (p : Nat) (k : TileSt) (l : Leaf),
    s.firstTile (s.tilesWhere (fun k => k.col = e && k.phase = .swept && !k.tally)) = some (p, k) ∧ s.leafAt p = some l ∧ k.cause = 0 ∧ l.ras.tileAt k.row e = some k ∧ tallyFails k.sums (((l.ras.checks.find? (fun c => c.1 = k.row)).map (fun c => c.2.getD e [])).getD []) ≠ [] ∧ l.ras.unknownCause k.row e = none :=
  ⟨tileState badTile, 5, 0, badTile, tileLeaf badTile, by decide +kernel⟩

theorem witness_EnginesRasteriseTilesThatTallyVerifies_8 : ∃ (s : State) (e : Fin 64) (p : Nat) (k : TileSt) (l : Leaf),
    s.firstTile (s.buffered e) = some (p, k) ∧ s.leafAt p = some l ∧ 0 ≤ k.row :=
  ⟨tileState sweptTile, 5, 0, sweptTile, tileLeaf sweptTile, by decide +kernel⟩

theorem witness_BeamTableCommitsLoadAndAreRefusedInFull_1 : ∃ (s : State) (m : Master) (leaf : BitVec 16),
    s.serves m F.BCT_COMMIT.LEAF.off = true ∧ ([0, 1] : List Nat).all (fun p => !(s.leafAt p).any (fun l => l.admitted && l.id = leaf.toNat)) = true :=
  ⟨with_ [(F.BCT_COMMIT_CRC.CRC, 5)], .keeper, 7#16, by decide +kernel⟩

theorem witness_BeamTableCommitsLoadAndAreRefusedInFull_2 : ∃ (s : State) (m : Master) (leaf : BitVec 16),
    s.serves m F.BCT_COMMIT.LEAF.off = true ∧ ([0, 1] : List Nat).any (fun p => (s.leafAt p).any (fun l => l.admitted && l.id = leaf.toNat)) = true :=
  ⟨rasState rasReady [], .keeper, 7#16, by decide +kernel⟩

theorem witness_BeamTableCommitsLoadAndAreRefusedInFull_3 : ∃ (s : State) (c : BctCommit) (b : Nat),
    s.bct.commit = some c ∧ c.bank = none ∧ s.freeBank c.leaf = some b :=
  ⟨{ State.reset with bct := { State.reset.bct with commit := some ⟨7, 5, none, 0⟩ } }, ⟨7, 5, none, 0⟩, 1, by decide +kernel⟩

theorem witness_BeamTableCommitsLoadAndAreRefusedInFull_4 : ∃ (s u : State) (c : BctCommit) (b cause column row : Nat),
    s.bct.commit = some c ∧ c.bank = some b ∧ u = s.unitRead 32 s.stageBase stageLen 1 ∧ u.commitCheck c.crc = some (cause, column, row) :=
  ⟨poisonStage, poisonStage.unitRead 32 poisonStage.stageBase stageLen 1, ⟨7, 5, some 1, 0⟩, 1, 1, 0, 0, rfl, rfl, rfl, poisonStage_refused⟩

theorem witness_BeamTableCommitsLoadAndAreRefusedInFull_5 : ∃ (s : State) (c : BctCommit) (b : Nat), s.bct.commit = some c ∧ c.bank = some b ∧ b < 2 ∧ s.ddrErr = [] ∧ s.commitCheck c.crc = none := ⟨stagedState, stagedCommit, 1, rfl, rfl, by decide, rfl, stagedPasses⟩

theorem witness_BeamTableCommitsLoadAndAreRefusedInFull_6 : ∃ (s : State) (m : Master) (v : BitVec 32),
    s.serves m F.TAL_INJECT.ARM.off = true :=
  ⟨State.reset, .keeper, 0x7FFF000F#32, by decide +kernel⟩

theorem witness_ArmedLeavesStartAndStrobeTheirSlots_1 : ∃ (s : State) (p : Nat) (rest : List Nat) (l : Leaf) (h : LeafHdr) (twin : Bool),
    s.rd F.SLT_STATUS.STATE = 0 ∧ ((s.mode = 2 ∨ s.mode = 3)) ∧ s.saf.acting = false ∧ s.saf.groupRunning = false ∧ s.blk.stepTo = none ∧ s.boot.quiescing = false ∧ s.fol.order = p :: rest ∧ s.leafAt p = some l ∧ l.hdr = some h ∧ s.slt.firstArm = false ∧ s.twn.divergeLeaf = none :=
  ⟨sltState 0 0 0 [(F.SLT_POS0.POS, 5)], 0, [], sltLeaf, someHdr, false, by decide +kernel⟩

theorem witness_ArmedLeavesStartAndStrobeTheirSlots_2 : ∃ (s : State) (p : Nat) (l : Leaf) (h : LeafHdr),
    s.curLeaf = some (p, l, h) ∧ s.rd F.SLT_STATUS.STATE = 1 ∧ s.saf.acting = false ∧ s.startWait = 0 ∧ s.slt.window = 0 ∧ s.slotRec l.id 0 = none :=
  ⟨sltState 1 (-3) (-1) [(F.SLT_STATUS.REF0, 1), (F.SLT_STATUS.REF1, 1), (F.LAC_RING.LOG2, 10)], 0, sltLeaf, someHdr, by decide +kernel⟩

theorem witness_ArmedLeavesStartAndStrobeTheirSlots_3 : ∃ (s : State) (p : Nat) (l : Leaf) (h : LeafHdr),
    s.curLeaf = some (p, l, h) ∧ s.strobes = true ∧ s.slt.strobed = -2 ∧ 0 ≤ s.slt.decided ∧ s.slt.window = 0 ∧ (s.slotRec l.id 0).all (fun r => !r.data || r.read) = true :=
  ⟨sltState 3 (-2) 0 [], 0, sltLeaf, someHdr, by decide +kernel⟩

theorem witness_ArmedLeavesStartAndStrobeTheirSlots_4 : ∃ (s : State) (p : Nat) (l : Leaf) (h : LeafHdr) (n : Nat),
    s.curLeaf = some (p, l, h) ∧ s.strobes = true ∧ s.slt.strobed + 1 = n ∧ (s.hasAuth && s.bit F.TWN_STATUS.PEER_AUTH) = false ∧ (n : Int) ≤ s.lastSlot h ∧ min ((n : Int) + 1) (s.lastSlot h) ≤ s.slt.decided ∧ s.slt.window = 0 ∧ (s.slotRec l.id n).all (fun r => r.sent) = true ∧ (s.slotRec l.id (n + 1)).all (fun r => !r.data || r.read) = true ∧ n < 2 ^ 31 :=
  ⟨sltState 2 (-1) 1 [], 0, sltLeaf, someHdr, 0, by decide +kernel⟩

theorem witness_ArmedLeavesStartAndStrobeTheirSlots_5 : ∃ (s : State),
    s.rd F.SLT_STATUS.STATE = 2 ∧ s.slt.lbDue = false :=
  ⟨sltState 2 3 5 [], by decide +kernel⟩

theorem witness_ArmedLeavesStartAndStrobeTheirSlots_6 : ∃ (s : State) (p : Fin 2) (l : Leaf) (h : LeafHdr) (twin : Bool),
    s.curLeaf = some (p.val, l, h) ∧ s.slt.lbDue = true :=
  ⟨{ sltState 2 527 527 [] with slt := { (sltState 2 527 527 []).slt with lbDue := true } }, 0, sltLeaf, someHdr, true, by decide +kernel⟩

theorem witness_SlotsAreDecidedReadAndSent_1 : ∃ (s : State) (p : Nat) (l : Leaf) (h : LeafHdr) (sl : Nat),
    s.curLeaf = some (p, l, h) ∧ s.slt.decided + 1 = sl ∧ s.strobes = true ∧ (sl : Int) ≤ s.lastSlot h ∧ (sl : Int) - 2 ≤ s.slt.strobed ∧ s.paired = false ∧ (s.predict.permit h.rate).trackerMark h = 0 ∧ s.sealLacks l h sl = ([], 0, []) ∧ ((sl % 4 = 0 → sl / 4 < hdrT h → (List.range 64).all (fun e => (l.ras.tileAt (sl / 4 : Nat) e).any TileSt.verified) = true)) ∧ s.rdInt F.SLT_VEL.VEL ≠ 0 :=
  ⟨sltState 2 (-1) 0 [], 0, sltLeaf, someHdr, 1, by decide +kernel⟩

theorem witness_SlotsAreDecidedReadAndSent_2 : ∃ (s : State) (p : Nat) (l : Leaf) (h : LeafHdr) (sl mark : Nat),
    s.curLeaf = some (p, l, h) ∧ s.slt.decided + 1 = sl ∧ s.strobes = true ∧ (sl : Int) ≤ s.lastSlot h ∧ (sl : Int) - 2 ≤ s.slt.strobed ∧ s.paired = false ∧ (s.predict.permit h.rate).trackerMark h = mark ∧ mark ≠ 0 ∧ (((mark = 1 ∨ mark = 2) → s.rd F.SLT_STATUS.OVER_RUN + 1 ≤ s.rd F.SLT_LIMITS.OVERSPEED)) ∧ ((mark = 14 → s.slt.linkRun + 1 ≤ s.rd F.BLK_CFG.LINK_LIMIT)) ∧ s.sealLacks l h sl = ([], 0, []) ∧ ¬ (sl % 4 = 0 ∧ sl / 4 < hdrT h) ∧ s.lac.openRel = none :=
  ⟨sltState 2 (-1) 0 [(F.SLT_STATUS.BLANK_REQ, 1)], 0, sltLeaf, someHdr, 1, 4, by decide +kernel⟩

theorem witness_SlotsAreDecidedReadAndSent_3 : ∃ (s : State) (p : Nat) (l : Leaf) (h : LeafHdr) (r : SlotRec),
    s.curLeaf = some (p, l, h) ∧ (s.slt.slots.filter (fun r => r.leaf = l.id && r.data && !r.read)).getLast? = some r ∧ (s.slotBytes l h r.slot).all (fun b => b.2.2 = generation (globalFrame l.ras.base r.slot)) = true :=
  ⟨sltSlots (sltState 2 525 527 []) [sltRec 527 true false], 0, sltLeaf, someHdr, sltRec 527 true false, ⟨by decide +kernel, by decide +kernel, (congrArg (fun x => List.all x _) (slotBytes_lastSlot _ _ _ rfl (by decide +kernel))).trans rfl⟩⟩

theorem witness_SlotsAreDecidedReadAndSent_4 : ∃ (s : State) (p : Nat) (l : Leaf) (h : LeafHdr) (r : SlotRec) (w : Fin 4),
    s.curLeaf = some (p, l, h) ∧ (s.slt.slots.filter (fun r => r.leaf = l.id && r.data && !r.read)).getLast? = some r ∧ (s.slotBytes l h r.slot).all (fun b => b.2.2 = generation (globalFrame l.ras.base r.slot)) = true ∧ s.lac.openRel = none :=
  ⟨sltSlots (sltState 2 525 527 []) [sltRec 527 true false], 0, sltLeaf, someHdr, sltRec 527 true false, 3, ⟨by decide +kernel, by decide +kernel, (congrArg (fun x => List.all x _) (slotBytes_lastSlot _ _ _ rfl (by decide +kernel))).trans rfl, by decide +kernel⟩⟩

theorem witness_SlotsAreDecidedReadAndSent_5 : ∃ (s : State) (p : Nat) (l : Leaf) (h : LeafHdr) (r : SlotRec) (free : Bool) (idle : List Nat),
    s.curLeaf = some (p, l, h) ∧ -1 ≤ s.slt.strobed ∧ s.slotRec l.id (s.slt.strobed + 1).toNat = some r ∧ r.sent = false ∧ r.missed = false ∧ ((r.data = true → r.read = true)) ∧ ((r.tracker = true → free = true)) ∧ s.blk.grp.length = 4 :=
  ⟨sltSlots (sltState 2 (-1) 0 []) [sltRec 0 true true], 0, sltLeaf, someHdr, sltRec 0 true true, false, [3, 4], by decide +kernel⟩

theorem witness_SlotsAreDecidedReadAndSent_6 : ∃ (s : State) (row : Nat) (rest : List Nat),
    s.slt.slots.any (fun r => r.data && !r.read) = false ∧ s.rsv.remapWait = row :: rest :=
  ⟨{ inMode 2 [] with rsv := { State.reset.rsv with remapWait := [1056, 3] } }, 1056, [3], by decide +kernel⟩

theorem witness_EncodersCountAndAFaultEndsTheLeaf_1 : ∃ (s : State) (n : Fin 2) (a : Bool) (lv : Bool × Bool) (v acc : Int),
    s.curLeaf = none ∧ s.slt.levels.getD n (false, false) = lv :=
  ⟨with_ [(F.SLT_POS0.POS, 0)], 0, false, (false, false), -5, 6, by decide +kernel⟩

theorem witness_EncodersCountAndAFaultEndsTheLeaf_2 : ∃ (s : State) (p : Nat) (l : Leaf) (h : LeafHdr) (lv : Bool × Bool) (v acc x : Int),
    s.curLeaf = some (p, l, h) ∧ 2 ≤ s.rd F.SLT_STATUS.STATE ∧ s.slt.levels.getD 0 (false, false) = lv ∧ x = along h (signed 48 (unsigned 48 (s.rdInt F.SLT_POS0.POS + (if ((!lv.1 != lv.2) != s.bit F.SLT_ENC_CFG.INVERT0) then 1 else -1))) * 65536) ∧ s.slt.furthest < x :=
  ⟨sltState 3 3 5 [(F.SLT_ENC_CFG.INVERT0, 1)], 0, sltLeaf, someHdr, (false, false), 7, 8, 65536, by decide +kernel⟩

theorem witness_EncodersCountAndAFaultEndsTheLeaf_3 : ∃ (s : State) (n : Fin 2) (fast : Bool) (v acc : Int),
    (s.bucket 13 n.val).2 = false :=
  ⟨inMode 2 [(F.SAF_BUCKET.N 13, 4)], 1, false, 0, 0, by decide +kernel⟩

theorem witness_EncodersCountAndAFaultEndsTheLeaf_4 : ∃ (s : State) (n : Fin 2),
    s.bit (if n = 0 then F.SLT_ENC_CFG.USE_INDEX0 else F.SLT_ENC_CFG.USE_INDEX1) = true ∧ s.bit (if n = 0 then F.SLT_STATUS.REF0 else F.SLT_STATUS.REF1) = false :=
  ⟨with_ [(F.SLT_ENC_CFG.USE_INDEX0, 1), (F.SLT_INDEX0.VALUE, 77)], 0, by decide +kernel⟩

theorem witness_EncodersCountAndAFaultEndsTheLeaf_5 : ∃ (s : State) (n : Fin 2),
    s.curLeaf = none ∧ s.bit (if n = 0 then F.SLT_ENC_CFG.USE_INDEX0 else F.SLT_ENC_CFG.USE_INDEX1) = true ∧ s.bit (if n = 0 then F.SLT_STATUS.REF0 else F.SLT_STATUS.REF1) = true :=
  ⟨with_ [(F.SLT_ENC_CFG.USE_INDEX0, 1), (F.SLT_STATUS.REF0, 1), (F.SLT_INDEX0.VALUE, 77)], 0, by decide +kernel⟩

theorem witness_EncodersCountAndAFaultEndsTheLeaf_6 : ∃ (s : State) (n : Fin 2),
    s.curLeaf = none :=
  ⟨with_ [(F.SLT_STATUS.REF1, 1)], 1, by decide +kernel⟩

theorem witness_EncodersCountAndAFaultEndsTheLeaf_7 : ∃ (s : State) (n : Fin 2) (p : Nat) (l : Leaf) (h : LeafHdr) (first : Nat),
    s.curLeaf = some (p, l, h) ∧ 2 ≤ s.rd F.SLT_STATUS.STATE ∧ s.rd F.SLT_STATUS.STATE ≤ 4 ∧ s.slt.lbDue = false ∧ s.slt.strobed + 1 = first ∧ first ≤ hdrLast h :=
  ⟨sltState 2 3 5 [(F.TWN_STATUS.AUTH, 1)], 0, 0, sltLeaf, someHdr, 4, by decide +kernel⟩

theorem witness_LeavesEndEarlyWithTheirRecord_1 : ∃ (s : State) (m : Master) (p : Nat) (l : Leaf) (h : LeafHdr) (first : Nat),
    s.serves m F.SLT_CTL.ABORT.off = true ∧ s.curLeaf = some (p, l, h) ∧ ((s.rd F.SLT_STATUS.STATE = 2 ∨ s.rd F.SLT_STATUS.STATE = 3)) ∧ s.slt.lbDue = false ∧ s.slt.decided + 1 = first ∧ first ≤ hdrLast h ∧ s.hasAuth = true ∧ s.rd F.TWN_CFG.MODE = 0 ∧ s.pairState = 0 ∧ s.lac.openRel = none ∧ s.slotRec l.id first = none :=
  ⟨sltState 2 3 5 [(F.TWN_STATUS.AUTH, 1)], .docentM 0, 0, sltLeaf, someHdr, 6, by decide +kernel⟩

theorem witness_LeavesEndEarlyWithTheirRecord_2 : ∃ (s : State) (m : Master) (p : Fin 2) (l : Leaf) (h : LeafHdr),
    s.serves m F.SLT_CTL.ABORT.off = true ∧ s.curLeaf = some (p.val, l, h) ∧ s.rd F.SLT_STATUS.STATE = 1 :=
  ⟨sltState 1 (-3) (-1) [], .docentM 0, 0, sltLeaf, someHdr, by decide +kernel⟩

theorem witness_LeavesEndEarlyWithTheirRecord_3 : ∃ (s : State) (m : Master),
    s.serves m F.SLT_CTL.ABORT.off = true ∧ s.curLeaf = none :=
  ⟨inMode 2 [], .docentM 0, by decide +kernel⟩

theorem witness_LeavesEndEarlyWithTheirRecord_4 : ∃ (s : State) (p : Nat) (l : Leaf) (h : LeafHdr) (first : Nat),
    s.curLeaf = some (p, l, h) ∧ ((s.rd F.SLT_STATUS.STATE = 3 ∨ s.rd F.SLT_STATUS.STATE = 4)) ∧ s.slt.lbDue = false ∧ s.slt.strobed + 1 = first ∧ first ≤ hdrLast h ∧ s.hasAuth = true ∧ s.rd F.TWN_CFG.MODE = 0 ∧ s.pairState = 0 ∧ s.lac.openRel = none ∧ s.slotRec l.id first = none :=
  ⟨sltState 3 3 5 [(F.TWN_STATUS.AUTH, 1)], 0, sltLeaf, someHdr, 4, by decide +kernel⟩

theorem witness_BlankingRequestsAndDutyAreShown_3 : ∃ (s : State),
    s.bit F.SLT_STATUS.BLANK_REQ = true :=
  ⟨with_ [(F.SLT_STATUS.BLANK_REQ, 1)], by decide +kernel⟩

theorem witness_BlankingRequestsAndDutyAreShown_6 : ∃ (s : State) (d : Nat × Nat) (rest : List (Nat × Nat)) (on pon : Nat),
    s.dut.due = d :: rest ∧ on = (peakBeam s.dut.beamWindow).2 * s.rd F.DUT_CFG.STEP_PS * 65536 ∧ pon = s.dut.plateWindow * s.rd F.DUT_CFG.STEP_PS * 65536 ∧ on < s.rd F.DUT_BEAM.HARD * beamUnit ∧ pon < s.rd F.DUT_PLATE.HARD * plateUnit :=
  ⟨{ with_ [(F.DUT_BEAM.HARD, 100), (F.DUT_PLATE.HARD, 100)] with dut := { State.reset.dut with due := [(7, 3), (7, 4)] } }, (7, 3), [(7, 4)], 0, 0, by decide +kernel⟩

theorem witness_BlankingRequestsAndDutyAreShown_7 : ∃ (s : State) (plate : Bool) (d : DutSt) (on pon : Nat),
    d = (if plate then { s.dut with plate := (0 :: s.dut.plate).take 11, plateRoll := s.dut.plateRoll + 1 } else { s.dut with beams := ([] :: s.dut.beams).take 5, beamRoll := s.dut.beamRoll + 1 }) ∧ on = (peakBeam d.beamWindow).2 * s.rd F.DUT_CFG.STEP_PS * 65536 ∧ pon = d.plateWindow * s.rd F.DUT_CFG.STEP_PS * 65536 ∧ on < s.rd F.DUT_BEAM.HARD * beamUnit ∧ pon < s.rd F.DUT_PLATE.HARD * plateUnit :=
  ⟨with_ [(F.DUT_BEAM.HARD, 100), (F.DUT_PLATE.HARD, 100)], true, { State.reset.dut with plate := (0 :: State.reset.dut.plate).take 11, plateRoll := 1 }, 0, 0, by decide +kernel⟩

theorem witness_LacunaRecordsCloseReachTheRingAndAreFreed_1 : ∃ (s : State) (rel : Bool) (r : LacRec),
    (if rel then s.lac.openRel else s.lac.openRes) = some r ∧ r.own = true ∧ s.rd F.TWN_CFG.MODE = 0 :=
  ⟨{ with_ [] with lac := { State.reset.lac with openRel := some ⟨7, 0x11, 0, 3, 5, 1, 0, 0, true⟩ } }, true, ⟨7, 0x11, 0, 3, 5, 1, 0, 0, true⟩, by decide +kernel⟩

theorem witness_LacunaRecordsCloseReachTheRingAndAreFreed_2 : ∃ (s : State) (r : LacRec),
    s.lac.openRes = some r ∧ s.inProgress r.leaf = false ∧ r.own = true ∧ s.rd F.TWN_CFG.MODE = 0 :=
  ⟨{ with_ [] with lac := { State.reset.lac with openRes := some ⟨7, 0x60, 0, 3, 5, 1, 0, 0, true⟩ } }, ⟨7, 0x60, 0, 3, 5, 1, 0, 0, true⟩, by decide +kernel⟩

theorem witness_LacunaRecordsCloseReachTheRingAndAreFreed_3 : ∃ (s : State) (r : LacRec) (rest : List LacRec) (a : Nat),
    s.lac.closed = r :: rest ∧ s.lac.merging = none ∧ ((2 ≤ s.lacFree ∨ (s.lacFree = 1 ∧ s.inProgress r.leaf = false))) ∧ a = s.lacBase + s.rd F.LAC_STATUS.NEXT % s.lacSize * 32 ∧ s.ddrErr = [] ∧ s.mem.remaps = [] ∧ s.ddrPoisoned a 32 = false :=
  ⟨{ with_ [(F.LAC_RING.LOG2, 4)] with lac := { State.reset.lac with closed := [⟨7, 0x11, 0, 3, 5, 1, 0, 0, true⟩] } }, ⟨7, 0x11, 0, 3, 5, 1, 0, 0, true⟩, [], 0, by decide +kernel⟩

theorem witness_LacunaRecordsCloseReachTheRingAndAreFreed_4 : ∃ (s : State) (m : Master) (v : BitVec 32),
    s.serves m F.LAC_CURSOR.INDEX.off = true :=
  ⟨with_ [(F.LAC_STATUS.NEXT, 5)], .docentM 0, 4#32, by decide +kernel⟩

theorem witness_LacunaRecordsCloseReachTheRingAndAreFreed_5 : ∃ (s : State) (m : Master) (v : BitVec 32) (ok : Bool),
    s.serves m F.LAC_ACK.INDEX.off = true ∧ ok = decide ((v.toNat + 2 ^ 32 - s.rd F.LAC_STATUS.ACKED) % 2 ^ 32 ≤ (s.rd F.LAC_STATUS.NEXT + 2 ^ 32 - s.rd F.LAC_STATUS.ACKED) % 2 ^ 32) :=
  ⟨with_ [(F.LAC_STATUS.NEXT, 5), (F.DOC_ROUTE.PENDING 22, 1)], .docentM 0, 5#32, true, by decide +kernel⟩

theorem witness_BackChannelMessagesAreJudged_1 : ∃ (s : State) (g : Fin 4) (b : BackBlock) (msg : List Byte),
    b.sync = 1 ∧ backMsg g b = msg ∧ backGood g 0x61 msg = false ∧ (s.bucket 1 g.val).2 = false :=
  ⟨linkState 4 [(F.SAF_BUCKET.N 1, 4)], 2, backBlk 0x61 1 [], backMsg 2 (backBlk 0x61 1 []), by decide +kernel⟩

theorem witness_BackChannelMessagesAreJudged_2 : ∃ (s : State) (g : Fin 4) (b : BackBlock),
    ((b.sync = 0 ∨ b.sync = 3)) ∧ (s.bucket 1 g.val).2 = false :=
  ⟨linkState 4 [(F.SAF_BUCKET.N 1, 4)], 2, ⟨3, 0, []⟩, by decide +kernel⟩

theorem witness_BackChannelMessagesAreJudged_3 : ∃ (s : State) (g : Fin 4) (b : BackBlock),
    b.sync = 2 ∧ ((fieldAt b.bytes 0 1 ≠ 0x3C ∨ (s.cal.rxStep[g.val]?).join = none)) :=
  ⟨linkState 4 [], 2, ⟨2, 0, []⟩, by decide +kernel⟩

theorem witness_BackChannelMessagesAreJudged_4 : ∃ (s : State) (g : Fin 4) (b : BackBlock) (up : Bool) (off : Nat),
    b.sync = 2 ∧ fieldAt b.bytes 0 1 = 0x3C ∧ (s.cal.rxStep[g.val]?).join = some up ∧ off = s.rd (F.CAL_RX.OFFSET g) ∧ off < 64 :=
  ⟨{ linkState 4 [(F.CAL_RX.OFFSET 1, 0)] with cal := { State.reset.cal with rxStep := [none, some false, none, none] } }, 1, ⟨2, 0, [0x3C]⟩, false, 0, by decide +kernel⟩

theorem witness_BackChannelMessagesAreJudged_5 : ∃ (s : State) (g : Fin 4) (b : BackBlock) (msg : List Byte) (leaf slot x : Nat) (r : SlotRec),
    b.sync = 1 ∧ backMsg g b = msg ∧ backGood g 0x61 msg = true ∧ fieldAt msg 2 2 = leaf ∧ fieldAt msg 4 4 = slot ∧ fieldAt msg 8 1 = 240 + x ∧ fieldAt msg 9 1 = 255 ∧ fieldAt msg 10 3 = 0 ∧ x < 2 ∧ s.pairState ≠ 3 ∧ s.slotRec leaf slot = some r ∧ r.settled = false :=
  ⟨sltSlots (linkState 4 []) [sentRec []], 2, statusMsg 2 1, backMsg 2 (statusMsg 2 1), 7, 3, 1, sentRec [], by decide +kernel⟩

theorem witness_BackChannelMessagesAreJudged_6 : ∃ (s : State) (g : Fin 4) (b : BackBlock) (msg : List Byte) (leaf slot x : Nat) (r : SlotRec),
    b.sync = 1 ∧ backMsg g b = msg ∧ backGood g 0x61 msg = true ∧ fieldAt msg 2 2 = leaf ∧ fieldAt msg 4 4 = slot ∧ fieldAt msg 8 1 = 240 + x ∧ fieldAt msg 9 1 = 255 ∧ fieldAt msg 10 3 = 0 ∧ (2 ≤ x ∧ x ≤ 6) ∧ s.pairState ≠ 3 ∧ s.hasAuth = true ∧ s.lac.openRes = none ∧ s.slotRec leaf slot = some r ∧ r.settled = false ∧ (r.data = true ∧ r.auth = true ∧ r.sent = true ∧ r.both = false) ∧ r.masks = [] ∧ (r.heard.contains g.val = false ∧ r.heard.length = 3) :=
  ⟨sltSlots (linkState 4 [(F.TWN_STATUS.AUTH, 1)]) [sentRec [0, 1, 3]], 2, statusMsg 2 3, backMsg 2 (statusMsg 2 3), 7, 3, 3, sentRec [0, 1, 3], by decide +kernel⟩

theorem witness_BackChannelMessagesAreJudged_7 : ∃ (s : State) (r : SlotRec),
    (s.slt.slots.filter (fun r => !r.settled && (decide (s.curLeaf.map (fun c => c.2.1.id) ≠ some r.leaf) || decide ((r.slot : Int) ≤ s.slt.strobed)))).getLast? = some r ∧ r.result = none ∧ (r.data = true ∧ r.auth = true ∧ r.sent = true) ∧ s.hasAuth = true ∧ s.lac.openRes = none :=
  ⟨sltSlots (linkState 4 [(F.TWN_STATUS.AUTH, 1)]) [sltRec 9 true true, sentRec []], sentRec [], by decide +kernel⟩

theorem witness_BackChannelMessagesAreJudged_8 : ∃ (s : State) (r : SlotRec),
    (s.slt.slots.filter (fun r => !r.settled && (decide (s.curLeaf.map (fun c => c.2.1.id) ≠ some r.leaf) || decide ((r.slot : Int) ≤ s.slt.strobed)))).getLast? = some r ∧ r.result = none ∧ (r.data && r.auth && r.sent) = false :=
  ⟨sltSlots (linkState 4 []) [sltRec 9 false true], sltRec 9 false true, by decide +kernel⟩

theorem witness_BackChannelMessagesAreJudged_9 : ∃ (s : State) (g : Fin 4) (b : BackBlock) (msg : List Byte) (x : Int),
    b.sync = 1 ∧ backMsg g b = msg ∧ backGood g 0x62 msg = true ∧ signed 16 (fieldAt msg 2 2) = x ∧ x < s.rdInt F.DUT_TEMP.HARD :=
  ⟨linkState 4 [(F.DUT_TEMP.SOFT, 400), (F.DUT_TEMP.HARD, 480)], 1, backBlk 0x62 1 (leBytes 2 410), backMsg 1 (backBlk 0x62 1 (leBytes 2 410)), 410, by decide +kernel⟩

theorem witness_BackChannelMessagesAreJudged_10 : ∃ (s : State),
    s.curLeaf = none :=
  ⟨with_ [], by decide +kernel⟩

theorem witness_BackChannelMessagesAreJudged_11 : ∃ (s : State) (g : Fin 4) (b : BackBlock) (msg : List Byte) (k : Nat),
    b.sync = 1 ∧ backMsg g b = msg ∧ backGood g 0x63 msg = true ∧ fieldAt msg 2 1 = k ∧ k ≤ 24 ∧ s.trim g.val = none :=
  ⟨linkState 4 [], 3, backBlk 0x63 3 [24, 0, 200, 100], backMsg 3 (backBlk 0x63 3 [24, 0, 200, 100]), 24, by decide +kernel⟩

theorem witness_BackChannelMessagesAreJudged_12 : ∃ (s : State) (g : Fin 4) (b : BackBlock) (msg : List Byte),
    b.sync = 1 ∧ backMsg g b = msg ∧ backGood g 0x61 msg = true ∧ fieldAt msg 8 2 = 0xFFFF ∧ (List.range 24).all (fun j => s.laneLogical g j = j) = true ∧ s.trim g.val = none :=
  ⟨linkState 4 ((F.SAF_BUCKET.N 0, 4) :: (List.range 24).map (fun k => (F.BLK_LANE.LOGICAL (25 + k), k))), 1, backBlk 0x61 1 (leBytes 2 7 ++ leBytes 4 3 ++ [0xFF, 0xFF, 5, 0, 0x80]), backMsg 1 (backBlk 0x61 1 (leBytes 2 7 ++ leBytes 4 3 ++ [0xFF, 0xFF, 5, 0, 0x80])), by decide +kernel⟩

theorem witness_BackChannelMessagesAreJudged_13 : ∃ (s : State) (g : Fin 4) (b : BackBlock) (msg : List Byte) (k : Nat),
    b.sync = 1 ∧ backMsg g b = msg ∧ backGood g 0x66 msg = true ∧ fieldAt msg 2 1 = k ∧ k ≤ 24 ∧ fieldAt msg 3 1 = 2 ∧ s.trim g.val = none :=
  ⟨linkState 4 [(F.SAF_BUCKET.N 0, 4)], 3, backBlk 0x66 3 [24, 2, 9], backMsg 3 (backBlk 0x66 3 [24, 2, 9]), 24, by decide +kernel⟩

theorem witness_BackChannelMessagesAreJudged_14 : ∃ (s : State) (g : Fin 4) (b : BackBlock) (msg : List Byte) (k : Nat),
    b.sync = 1 ∧ backMsg g b = msg ∧ backGood g 0x66 msg = true ∧ fieldAt msg 2 1 = k ∧ k ≤ 24 ∧ fieldAt msg 3 1 = 2 ∧ fieldAt msg 4 4 ≤ 1 ∧ s.trim g.val = none ∧ (s.bucket 0 (25 * g.val + k)).2 = false :=
  ⟨linkState 4 [(F.SAF_BUCKET.N 0, 4)], 3, backBlk 0x66 3 [24, 2], backMsg 3 (backBlk 0x66 3 [24, 2]), 24, by decide +kernel⟩

theorem witness_BackChannelMessagesAreJudged_15 : ∃ (s : State) (g : Fin 4) (b : BackBlock) (msg : List Byte) (k : Nat),
    b.sync = 1 ∧ backMsg g b = msg ∧ backGood g 0x66 msg = true ∧ fieldAt msg 2 1 = k ∧ k ≤ 24 ∧ k < 24 ∧ fieldAt msg 3 1 = 1 ∧ fieldAt msg 4 4 ≤ 1 ∧ s.trim g.val = none ∧ (s.bucket 0 (25 * g.val + k)).2 = false ∧ s.grpState g = 4 ∧ s.bit F.BLK_CFG.SPARE_EN = true ∧ ((s.grp g).swap = none ∧ (s.grp g).carried = none ∧ (s.grp g).faulty = none) ∧ s.blk.grp.length = 4 :=
  ⟨linkState 4 [(F.SAF_BUCKET.N 0, 4), (F.BLK_CFG.SPARE_EN, 1)], 3, backBlk 0x66 3 [7, 1, 1], backMsg 3 (backBlk 0x66 3 [7, 1, 1]), 7, by decide +kernel⟩

theorem witness_BackChannelMessagesAreJudged_16 : ∃ (s : State) (g : Fin 4) (b : BackBlock) (msg : List Byte) (k : Nat),
    b.sync = 1 ∧ backMsg g b = msg ∧ backGood g 0x66 msg = true ∧ fieldAt msg 2 1 = k ∧ k ≤ 24 ∧ k < 24 ∧ fieldAt msg 3 1 = 1 ∧ fieldAt msg 4 4 ≤ 1 ∧ s.trim g.val = none ∧ (s.bucket 0 (25 * g.val + k)).2 = false ∧ s.grpState g = 4 ∧ (((s.grp g).swap = none ∧ (s.grp g).faulty = none ∧ ((s.grp g).carried ≠ some k ∨ (s.grp g).good = false))) ∧ ((s.bit F.BLK_CFG.SPARE_EN = false ∨ ((s.grp g).carried.any (fun c => c ≠ k) && (s.grp g).good) = true)) ∧ s.blk.grp.length = 4 :=
  ⟨linkState 4 [(F.SAF_BUCKET.N 0, 4), (F.BLK_CFG.SPARE_EN, 0)], 3, backBlk 0x66 3 [7, 1, 1], backMsg 3 (backBlk 0x66 3 [7, 1, 1]), 7, by decide +kernel⟩

theorem witness_LinkGroupsComeUpAndChangeRate_1 : ∃ (s : State) (g : Fin 4) (b : BackBlock) (msg : List Byte),
    b.sync = 1 ∧ backMsg g b = msg ∧ backGood g 0x64 msg = true ∧ s.grpState g = 1 ∧ s.blk.grp.length = 4 :=
  ⟨linkState 1 [], 0, backBlk 0x64 0 ([1, 3] ++ leBytes 2 2000 ++ [0, 0] ++ leBytes 4 77), backMsg 0 (backBlk 0x64 0 ([1, 3] ++ leBytes 2 2000 ++ [0, 0] ++ leBytes 4 77)), by decide +kernel⟩

theorem witness_LinkGroupsComeUpAndChangeRate_2 : ∃ (s : State) (g : Fin 4) (b : BackBlock) (msg : List Byte),
    b.sync = 1 ∧ backMsg g b = msg ∧ backGood g 0x64 msg = true ∧ s.grpState g = 2 ∧ s.blk.grp.length = 4 ∧ fieldAt msg 2 1 = 1 ∧ fieldAt msg 6 1 = s.rd F.BLK_CFG.PORT ∧ fieldAt msg 4 2 = s.rd F.DUT_CFG.STEP_PS :=
  ⟨linkState 2 [(F.DUT_CFG.STEP_PS, 2000)], 0, backBlk 0x64 0 ([1, 3] ++ leBytes 2 2000 ++ [0, 0] ++ leBytes 4 77), backMsg 0 (backBlk 0x64 0 ([1, 3] ++ leBytes 2 2000 ++ [0, 0] ++ leBytes 4 77)), by decide +kernel⟩

theorem witness_LinkGroupsComeUpAndChangeRate_3 : ∃ (s : State) (g : Fin 4) (b : BackBlock) (msg : List Byte),
    b.sync = 1 ∧ backMsg g b = msg ∧ backGood g 0x64 msg = true ∧ s.grpState g = 2 ∧ s.blk.grp.length = 4 ∧ ((fieldAt msg 2 1 ≠ 1 ∨ fieldAt msg 6 1 ≠ s.rd F.BLK_CFG.PORT ∨ fieldAt msg 4 2 ≠ s.rd F.DUT_CFG.STEP_PS)) :=
  ⟨linkState 2 [(F.DUT_CFG.STEP_PS, 2000)], 3, backBlk 0x64 3 ([2, 3] ++ leBytes 2 2000 ++ [0, 0] ++ leBytes 4 77), backMsg 3 (backBlk 0x64 3 ([2, 3] ++ leBytes 2 2000 ++ [0, 0] ++ leBytes 4 77)), by decide +kernel⟩

theorem witness_LinkGroupsComeUpAndChangeRate_4 : ∃ (s : State) (g : Fin 4) (b : BackBlock) (msg : List Byte),
    b.sync = 1 ∧ backMsg g b = msg ∧ backGood g 0x65 msg = true ∧ fieldAt msg 3 1 = 0 ∧ s.grpState g = 5 ∧ s.blk.stepTo = some (fieldAt msg 2 1) ∧ s.blk.grp.length = 4 :=
  ⟨{ linkState 5 [] with blk := { State.reset.blk with stepTo := some 2 } }, 1, backBlk 0x65 1 [2, 0], backMsg 1 (backBlk 0x65 1 [2, 0]), by decide +kernel⟩

theorem witness_LinkGroupsComeUpAndChangeRate_5 : ∃ (s : State) (g : Fin 4) (b : BackBlock) (msg : List Byte),
    b.sync = 1 ∧ backMsg g b = msg ∧ backGood g 0x65 msg = true ∧ fieldAt msg 3 1 = 1 ∧ fieldAt msg 4 4 % 2 ^ 25 = 2 ^ 25 - 1 ∧ s.grpState g = 3 ∧ fieldAt msg 2 1 = (s.grp g).rate ∧ (List.range 4).any (fun i => i ≠ g.val && s.grpState i ≠ 4) = true ∧ s.cal.again.contains g.val = false ∧ s.blk.grp.length = 4 :=
  ⟨linkState 3 [], 2, backBlk 0x65 2 ([0, 1] ++ leBytes 4 0x1FFFFFF), backMsg 2 (backBlk 0x65 2 ([0, 1] ++ leBytes 4 0x1FFFFFF)), by decide +kernel⟩

theorem witness_LinkGroupsComeUpAndChangeRate_6 : ∃ (s : State) (g : Fin 4) (b : BackBlock) (msg : List Byte),
    b.sync = 1 ∧ backMsg g b = msg ∧ backGood g 0x65 msg = true ∧ fieldAt msg 3 1 = 1 ∧ fieldAt msg 4 4 % 2 ^ 25 = 2 ^ 25 - 1 ∧ s.grpState g = 3 ∧ fieldAt msg 2 1 = (s.grp g).rate ∧ (List.range 4).all (fun i => i = g.val || s.grpState i = 4) = true ∧ s.cal.again.contains g.val = false ∧ s.curLeaf = none ∧ s.blk.grp.length = 4 :=
  ⟨linkState 0 [(F.BLK_STATUS.STATE, 0x4344)], 2, backBlk 0x65 2 ([0, 1] ++ leBytes 4 0x1FFFFFF), backMsg 2 (backBlk 0x65 2 ([0, 1] ++ leBytes 4 0x1FFFFFF)), by decide +kernel⟩

theorem witness_LinkGroupsComeUpAndChangeRate_7 : ∃ (s : State) (g : Fin 4),
    s.grpState g = 3 ∧ (s.grp g).alignFrom = 0 ∧ s.blk.grp.length = 4 :=
  ⟨linkState 3 [], 2, by decide +kernel⟩

theorem witness_LinkGroupsComeUpAndChangeRate_8 : ∃ (s : State) (g : Fin 4),
    s.grpState g = 3 ∧ (s.grp g).alignFrom = 1 ∧ s.blk.grp.length = 4 :=
  ⟨(linkState 3 []).putGrp 2 { blkGrpNew with alignFrom := 1, rate := 2, prevRate := 1 }, 2, by decide +kernel⟩

theorem witness_LinkGroupsComeUpAndChangeRate_9 : ∃ (s : State) (g : Fin 4),
    s.grpState g = 4 ∧ s.blk.grp.length = 4 :=
  ⟨linkState 4 [], 3, by decide +kernel⟩

theorem witness_LinkGroupsComeUpAndChangeRate_10 : ∃ (s : State) (g : Fin 4),
    s.grpState g = 6 ∧ s.blk.grp.length = 4 :=
  ⟨linkState 6 [], 1, by decide +kernel⟩

theorem witness_LinkGroupsComeUpAndChangeRate_11 : ∃ (s : State) (r : Nat),
    s.blk.stepTo = some r ∧ [0, 1, 2, 3].all (fun g => s.grpState g = 5 && (s.grp g).accepted) = true ∧ s.blk.grp.length = 4 :=
  ⟨{ linkState 5 [] with blk := { State.reset.blk with stepTo := some 2, grp := List.replicate 4 { blkGrpNew with accepted := true, rate := 1 } } }, 2, by decide +kernel⟩

theorem witness_LinkGroupsComeUpAndChangeRate_12 : ∃ (s : State) (r : Nat),
    s.blk.stepReq = true ∧ s.blk.stepTo = none ∧ s.linkActive = true ∧ s.rd F.SLT_STATUS.STATE = 0 ∧ s.nextRate = some r ∧ s.blk.grp.length = 4 :=
  ⟨{ linkState 4 [(F.BLK_CFG.MAX_RATE, 3)] with blk := { State.reset.blk with stepReq := true, grp := List.replicate 4 { blkGrpNew with maxRate := some 3 } } }, 1, by decide +kernel⟩

theorem witness_LinkGroupsComeUpAndChangeRate_13 : ∃ (s : State),
    s.blk.stepReq = true ∧ s.blk.stepTo = none ∧ s.linkActive = true ∧ s.rd F.SLT_STATUS.STATE = 0 ∧ s.nextRate = none ∧ s.cal.begun = true :=
  ⟨{ linkState 4 [] with blk := { State.reset.blk with stepReq := true }, cal := { State.reset.cal with begun := true } }, by decide +kernel⟩

theorem witness_LinkGroupsComeUpAndChangeRate_14 : ∃ (s : State) (g : Fin 4) (idle : Nat),
    ((s.grpState g = 3 ∨ s.grpState g = 4)) ∧ s.blk.grp.length = 4 ∧ idle = (match (s.grp g).out.getLast? with | some (.am _) => 1423 | _ => 1424) :=
  ⟨(linkState 4 []).putGrp 1 { blkGrpNew with amCount := 65535, blocks := 5 }, 1, 1424, by decide +kernel⟩

theorem witness_TheLinkIsEnabledRetrainedDisabledAndSpared_1 : ∃ (s : State) (m : Master),
    s.serves m F.BLK_CTL.ENABLE.off = true ∧ ((∀ g, g < 4 → s.grpState g ≠ 8)) ∧ s.blk.grp.length = 4 :=
  ⟨with_ [(F.BLK_STATUS.STATE, 0x4300)], .keeper, by decide +kernel⟩

theorem witness_TheLinkIsEnabledRetrainedDisabledAndSpared_2 : ∃ (s : State) (m : Master),
    s.serves m F.BLK_CTL.ENABLE.off = true ∧ ((s.grpState 0 = 8 ∨ s.grpState 1 = 8 ∨ s.grpState 2 = 8 ∨ s.grpState 3 = 8)) :=
  ⟨with_ [(F.BLK_STATUS.STATE, 0x8000)], .keeper, by decide +kernel⟩

theorem witness_TheLinkIsEnabledRetrainedDisabledAndSpared_3 : ∃ (s : State) (m : Master),
    s.serves m F.BLK_CTL.ENABLE.off = true :=
  ⟨with_ [(F.BLK_STATUS.STATE, 0x0384), (F.BLK_STATUS.PENDING_ENABLE, 1)], .keeper, by decide +kernel⟩

theorem witness_TheLinkIsEnabledRetrainedDisabledAndSpared_4 : ∃ (s : State) (m : Master),
    s.serves m F.BLK_CTL.STEP_UP.off = true :=
  ⟨linkState 4 [], .keeper, by decide +kernel⟩

theorem witness_TheLinkIsEnabledRetrainedDisabledAndSpared_5 : ∃ (s : State) (m : Master),
    s.serves m F.BLK_CTL.RETRAIN.off = true :=
  ⟨with_ [(F.BLK_STATUS.STATE, 0x4434)], .keeper, by decide +kernel⟩

theorem witness_TheLinkIsEnabledRetrainedDisabledAndSpared_6 : ∃ (s : State) (g : Fin 4),
    s.grpState g = 8 ∧ s.rd F.BLK_STATUS.PENDING_ENABLE = 0 :=
  ⟨linkState 8 [], 2, by decide +kernel⟩

theorem witness_TheLinkIsEnabledRetrainedDisabledAndSpared_7 : ∃ (s : State) (g : Fin 4),
    s.grpState g = 8 ∧ s.rd F.BLK_STATUS.PENDING_ENABLE = 1 ∧ s.blk.grp.length = 4 :=
  ⟨with_ [(F.BLK_STATUS.STATE, 0x0800), (F.BLK_STATUS.PENDING_ENABLE, 1)], 2, by decide +kernel⟩

theorem witness_TheLinkIsEnabledRetrainedDisabledAndSpared_8 : ∃ (s : State) (g : Fin 4) (w : LaneSwap),
    s.grpState g = 4 ∧ s.blk.grp.length = 4 ∧ (s.grp g).swap = some w ∧ w.ams = 0 ∧ w.back = false ∧ w.lane < 32 :=
  ⟨swapState 0, 2, ⟨4, 0, false, true⟩, by decide +kernel⟩

theorem witness_TheLinkIsEnabledRetrainedDisabledAndSpared_9 : ∃ (s : State) (g : Fin 4) (w : LaneSwap),
    s.grpState g = 4 ∧ s.blk.grp.length = 4 ∧ (s.grp g).swap = some w ∧ w.ams = 1 :=
  ⟨swapState 1, 2, ⟨4, 1, false, true⟩, by decide +kernel⟩

theorem witness_TheLinkIsEnabledRetrainedDisabledAndSpared_10 : ∃ (s : State) (g : Fin 4) (w : LaneSwap),
    s.grpState g = 4 ∧ s.blk.grp.length = 4 ∧ (s.grp g).swap = some w ∧ w.ams = 2 ∧ w.back = false ∧ w.good = true ∧ (s.grp g).faulty = none ∧ s.trim g.val = none :=
  ⟨swapState 2, 2, ⟨4, 2, false, true⟩, by decide +kernel⟩

theorem witness_MemoryRequestsAreAdmittedServedAndAged_1 : ∃ (s : State) (c : Fin 6) (r : MemReq),
    s.rd (F.MEM_CH_STATUS.STATE c) = 2 ∧ s.mem.ch.length = 6 ∧ r ∈ (s.memCh c).ports ∧ ((s.memCh c).queue.filter (fun q => q.bank = r.bank && s.subOf q.addr = s.subOf r.addr)).length < 8 ∧ ((∀ o ∈ (s.memCh c).ports, o = r ∨ 8 ≤ ((s.memCh c).queue.filter (fun q => q.bank = o.bank && s.subOf q.addr = s.subOf o.addr)).length ∨ (if r.urgent then 0 else 1 + r.cls) < (if o.urgent then 0 else 1 + o.cls) ∨ ((if r.urgent then 0 else 1 + r.cls) = (if o.urgent then 0 else 1 + o.cls) ∧ r.age < o.age))) :=
  ⟨memState [] (memPorts [memReq 64 5 none, memReq 0 3 none]), 0, memReq 0 3 none, by decide +kernel⟩

theorem witness_MemoryRequestsAreAdmittedServedAndAged_2 : ∃ (s : State) (c : Fin 6) (x : MemArrival) (d : Nat),
    s.rd (F.MEM_CH_STATUS.STATE c) ≠ 2 ∧ s.mem.ch.length = 6 ∧ x.space = 0 ∧ x.addr < s.fitted ∧ (x.core = none ∧ x.master ≠ 24) ∧ s.chanOf x.addr = some d ∧ d < 6 :=
  ⟨memState [(F.MEM_CH_STATUS.STATE 3, 4)] (memQueue [memReq 0 3 none]), 3, ⟨0, 0x145, some [1, 2], none, 20, false, false, 0⟩, 1, by decide +kernel⟩

theorem witness_MemoryRequestsAreAdmittedServedAndAged_3 : ∃ (s : State) (c : Fin 6) (x : MemArrival) (k : Fin 8) (d : Nat),
    s.rd (F.MEM_CH_STATUS.STATE c) ≠ 2 ∧ s.mem.ch.length = 6 ∧ x.space = 0 ∧ x.addr < s.fitted ∧ x.core = some k ∧ s.coreOn k = true ∧ s.coreMay false 0 x.addr (arrivalKind x) = true ∧ s.chanOf x.addr = some d ∧ d < 6 :=
  ⟨coreState [(F.MEM_CH_STATUS.STATE 3, 4), (F.DOC_CFG.CORES, 64)], 3, ⟨0, 0x145, none, some 6, 20, true, true, 0⟩, 6, 1, by decide +kernel⟩

theorem witness_MemoryRequestsAreAdmittedServedAndAged_4 : ∃ (s : State) (c : Fin 6) (x : MemArrival) (k : Fin 8),
    s.rd (F.MEM_CH_STATUS.STATE c) ≠ 2 ∧ x.core = some k ∧ s.coreOn k = false :=
  ⟨coreState [(F.MEM_CH_STATUS.STATE 3, 4), (F.DOC_CFG.CORES, 64)], 3, ⟨2, 0x145, none, some 5, 20, true, true, 0⟩, 5, by decide +kernel⟩

theorem witness_MemoryRequestsAreAdmittedServedAndAged_5 : ∃ (s : State) (c : Fin 6) (x : MemArrival) (k : Fin 8) (kind : Nat),
    s.rd (F.MEM_CH_STATUS.STATE c) ≠ 2 ∧ x.space = 0 ∧ x.addr < s.fitted ∧ x.core = some k ∧ s.coreOn k = true ∧ kind = (if x.fetch then 3 else if x.write.isSome then 2 else 1) ∧ s.coreMay false 0 x.addr kind = false :=
  ⟨memState [(F.MEM_CH_STATUS.STATE 3, 4), (F.DOC_CFG.CORES, 64)] id, 3, ⟨0, 2 ^ 25, none, some 6, 20, false, true, 0⟩, 6, 1, by decide +kernel⟩

theorem witness_MemoryRequestsAreAdmittedServedAndAged_6 : ∃ (s : State) (c : Fin 6) (x : MemArrival) (k : Fin 8),
    s.rd (F.MEM_CH_STATUS.STATE c) ≠ 2 ∧ x.space = 0 ∧ s.fitted ≤ x.addr ∧ x.core = some k ∧ s.coreOn k = true :=
  ⟨memState [(F.MEM_CH_STATUS.STATE 3, 4), (F.DOC_CFG.CORES, 64)] id, 3, ⟨0, 2 ^ 39, none, some 6, 20, false, false, 0⟩, 6, by decide +kernel⟩

theorem witness_MemoryRequestsAreAdmittedServedAndAged_7 : ∃ (s : State) (c : Fin 6) (x : MemArrival) (k : Fin 8),
    s.rd (F.MEM_CH_STATUS.STATE c) ≠ 2 ∧ x.space = 2 ∧ x.addr < 2 ^ 22 ∧ x.core = some k ∧ s.coreOn k = true ∧ (x.write = none ∧ x.flips = 0) ∧ s.canonical = true ∧ bitCount 72 (s.sramPattern 2 (x.addr / 8)) ≤ 1 ∧ s.sramPoisoned (8 * (x.addr / 8)) 8 = false :=
  ⟨{ memState [(F.MEM_CH_STATUS.STATE 3, 4), (F.DOC_CFG.CORES, 64)] id with sram := [(0x141, 7)] }, 3, ⟨2, 0x145, none, some 6, 20, true, false, 0⟩, 6, by decide +kernel⟩

theorem witness_MemoryRequestsAreAdmittedServedAndAged_8 : ∃ (s : State) (c : Fin 6) (x : MemArrival) (k : Fin 8) (bs : List Byte),
    s.rd (F.MEM_CH_STATUS.STATE c) ≠ 2 ∧ x.space = 2 ∧ x.addr < 2 ^ 22 ∧ x.core = some k ∧ s.coreOn k = true ∧ (x.fetch = false ∧ x.flips = 0) ∧ x.write = some bs ∧ x.addr % 8 + bs.length ≤ 8 ∧ bitCount 72 (s.sramPattern 2 (x.addr / 8)) ≤ 1 :=
  ⟨memState [(F.MEM_CH_STATUS.STATE 3, 4), (F.DOC_CFG.CORES, 64)] id, 3, ⟨2, 0x145, some [1, 2], some 6, 20, false, false, 0⟩, 6, [1, 2], by decide +kernel⟩

theorem witness_MemoryRequestsAreAdmittedServedAndAged_9 : ∃ (s u : State) (c : Fin 6) (sub : Fin 2) (flips : List Nat) (r : MemReq) (block : Option (Fin 2 × Nat)),
    s.rd (F.MEM_CH_STATUS.STATE c) = 2 ∧ s.mem.ch.length = 6 ∧ s.memPick c sub = some r ∧ r.write = none ∧ u = s.ddrUpset ((flips.take 4).zipIdx.map (fun f => (s.ddrPlace r.addr / 16 + f.2, f.1))) ∧ u.burstRead r.addr = .good :=
  ⟨memState [] (memQueue [memReq 0 3 none]), memState [] (memQueue [memReq 0 3 none]), 0, 0, [0, 0, 0, 0], memReq 0 3 none, some (1, 3), by decide +kernel⟩

theorem witness_MemoryRequestsAreAdmittedServedAndAged_10 : ∃ (s u : State) (c : Fin 6) (sub : Fin 2) (flips : List Nat) (r : MemReq) (block : Option (Fin 2 × Nat)),
    s.rd (F.MEM_CH_STATUS.STATE c) = 2 ∧ s.mem.ch.length = 6 ∧ s.memPick c sub = some r ∧ r.write = none ∧ u = s.ddrUpset ((flips.take 4).zipIdx.map (fun f => (s.ddrPlace r.addr / 16 + f.2, f.1))) ∧ u.burstRead r.addr = .poison :=
  ⟨memPoison [memReq 0 3 none], memPoison [memReq 0 3 none], 0, 0, [], memReq 0 3 none, some (1, 3), by decide +kernel⟩

theorem witness_MemoryRequestsAreAdmittedServedAndAged_11 : ∃ (s u : State) (c : Fin 6) (sub : Fin 2) (flips : List Nat) (r : MemReq) (n w : Nat) (block : Option (Fin 2 × Nat)),
    s.rd (F.MEM_CH_STATUS.STATE c) = 2 ∧ s.mem.ch.length = 6 ∧ s.memPick c sub = some r ∧ r.write = none ∧ r.cls ≠ 4 ∧ u = s.ddrUpset ((flips.take 4).zipIdx.map (fun f => (s.ddrPlace r.addr / 16 + f.2, f.1))) ∧ u.burstRead r.addr = .corrected n w ∧ u.backWaits c r.addr = false ∧ (s.bucket 4 (granule r.addr)).2 = false :=
  ⟨memState [] (memQueue [memReq 0 3 none]), (memState [] (memQueue [memReq 0 3 none])).ddrUpset [(0, 0), (1, 2 ^ 144)], 0, 0, [0, 2 ^ 144], memReq 0 3 none, 1, 1, some (1, 3), by decide +kernel, by decide +kernel, by decide +kernel, rfl, by decide, rfl, flipped_corrected _ (by decide +kernel), by decide +kernel, by decide +kernel⟩

theorem witness_MemoryRequestsAreAdmittedServedAndAged_12 : ∃ (s u : State) (c : Fin 6) (sub : Fin 2) (flips : List Nat) (r : MemReq) (w n : Nat),
    s.rd (F.MEM_CH_STATUS.STATE c) = 2 ∧ s.mem.ch.length = 6 ∧ s.memPick c sub = some r ∧ r.write = none ∧ r.cls ≠ 4 ∧ u = s.ddrUpset ((flips.take 4).zipIdx.map (fun f => (s.ddrPlace r.addr / 16 + f.2, f.1))) ∧ u.burstRead r.addr = .bad w n ∧ (s.bucket 5 (granule r.addr)).2 = false :=
  ⟨memState [] (memQueue [memReq 0 3 none]), (memState [] (memQueue [memReq 0 3 none])).ddrUpset [(0, 0), (1, 3 * 2 ^ 144)], 0, 0, [0, 3 * 2 ^ 144], memReq 0 3 none, 1, 0, by decide +kernel, by decide +kernel, by decide +kernel, rfl, by decide, rfl, flipped_lost _ (by decide +kernel), by decide +kernel⟩

theorem witness_MemoryRequestsAreAdmittedServedAndAged_13 : ∃ (s u : State) (c : Fin 6) (sub : Fin 2) (flips : List Nat) (r : MemReq) (w n : Nat) (p : Fin 2) (seq : Nat) (l : Leaf) (b : Blk),
    s.rd (F.MEM_CH_STATUS.STATE c) = 2 ∧ s.mem.ch.length = 6 ∧ s.memPick c sub = some r ∧ r.write = none ∧ r.cls ≠ 4 ∧ u = s.ddrUpset ((flips.take 4).zipIdx.map (fun f => (s.ddrPlace r.addr / 16 + f.2, f.1))) ∧ u.burstRead r.addr = .bad w n ∧ (s.bucket 5 (granule r.addr)).2 = false ∧ s.leafAt p = some l ∧ l.blk seq = some b ∧ l.nextSeq ≤ seq ∧ ((b.state = .stored ∨ b.state = .good)) ∧ b.refetches < s.rd F.FOL_CFG.REFETCH_LIMIT ∧ s.hif.rfqHeld.length < 64 :=
  ⟨lostStored, lostStored.ddrUpset [(0, 0), (1, 3 * 2 ^ 144)], 0, 0, [0, 3 * 2 ^ 144], memReq 0 3 none, 1, 0, 0, 1, goodLeaf, goodBlk, by decide +kernel, by decide +kernel, by decide +kernel, rfl, by decide, rfl, flipped_lost _ (by decide +kernel), by decide +kernel, rfl, rfl, by decide, .inl rfl, by decide +kernel, by decide⟩

theorem witness_MemoryRequestsAreAdmittedServedAndAged_14 : ∃ (s : State) (c : Fin 6) (sub : Fin 2) (flips : List Nat) (r : MemReq) (bytes : List Byte) (block : Option (Fin 2 × Nat)),
    s.rd (F.MEM_CH_STATUS.STATE c) = 2 ∧ s.mem.ch.length = 6 ∧ s.memPick c sub = some r ∧ r.write = some (0, bytes) ∧ bytes.length = 64 ∧ r.addr % 64 = 0 ∧ s.ddrErr = [] ∧ s.mem.remaps = [] :=
  ⟨memPoison [memReq 0 3 (some (0, List.replicate 64 9))], 0, 0, [5], memReq 0 3 (some (0, List.replicate 64 9)), List.replicate 64 9, some (1, 3), by decide +kernel⟩

theorem witness_MemoryRequestsAreAdmittedServedAndAged_15 : ∃ (s : State) (c : Fin 6) (sub : Fin 2) (r : MemReq) (off : Nat) (bytes : List Byte) (block : Option (Fin 2 × Nat)),
    s.rd (F.MEM_CH_STATUS.STATE c) = 2 ∧ s.mem.ch.length = 6 ∧ s.canonical = true ∧ s.memPick c sub = some r ∧ r.write = some (off, bytes) ∧ r.writesBack = false ∧ off + bytes.length ≤ 64 ∧ bytes.length < 64 ∧ r.addr % 64 = 0 ∧ s.ddrErr = [] ∧ s.mem.remaps = [] :=
  ⟨memState [] (memQueue [memReq 0 3 (some (62, [7, 8]))]), 0, 0, memReq 0 3 (some (62, [7, 8])), 62, [7, 8], some (1, 3), by decide +kernel⟩

theorem witness_MemoryRequestsAreAdmittedServedAndAged_16 : ∃ (s u : State) (c : Fin 6) (sub : Fin 2) (flips : List Nat) (r : MemReq) (n w : Nat) (block : Option (Fin 2 × Nat)),
    s.rd (F.MEM_CH_STATUS.STATE c) = 2 ∧ s.mem.ch.length = 6 ∧ s.memPick c sub = some r ∧ r.writesBack = true ∧ u = s.ddrUpset ((flips.take 4).zipIdx.map (fun f => (s.ddrPlace r.addr / 16 + f.2, f.1))) ∧ u.burstRead r.addr = .corrected n w ∧ s.poison.contains (s.ddrPlace r.addr) = false :=
  ⟨memState [] (memQueue [memBack 0]), (memState [] (memQueue [memBack 0])).ddrUpset [(0, 0), (1, 2 ^ 144)], 0, 0, [0, 2 ^ 144], memBack 0, 1, 1, some (1, 3), by decide +kernel, by decide +kernel, by decide +kernel, rfl, rfl, flipped_corrected _ (by decide +kernel), by decide +kernel⟩

theorem witness_MemoryRequestsAreAdmittedServedAndAged_17 : ∃ (s : State) (c : Fin 6) (cls : Fin 5) (o : MemReq),
    s.mem.ch.length = 6 ∧ oldest (((s.memCh c).ports ++ (s.memCh c).queue).filter (fun r => r.cls = cls.val && !r.urgent)) = some o :=
  ⟨memState [] (memQueue [memReq 64 5 none, memReq 0 3 none]), 0, 2, memReq 0 3 none, by decide +kernel⟩

theorem witness_MemoryRequestsAreAdmittedServedAndAged_18 : ∃ (s : State) (c : Fin 6),
    s.mem.ch.length = 6 :=
  ⟨memState [] (fun m => { m with urgent := 9 }), 0, by decide +kernel⟩

theorem witness_MemoryRequestsAreAdmittedServedAndAged_19 : ∃ (s : State) (c : Fin 6) (r : MemReq) (rest : List MemReq),
    s.mem.ch.length = 6 ∧ (s.memCh c).queue = r :: rest :=
  ⟨memState [] (memQueue [memReq 64 5 none, memReq 0 3 none]), 0, memReq 64 5 none, [memReq 0 3 none], by decide +kernel⟩

theorem witness_ChannelsRefreshRestAndTrain_1 : ∃ (s : State) (c : Fin 6),
    s.mem.ch.length = 6 ∧ s.rd (F.MEM_CH_STATUS.STATE c) ≠ 0 ∧ s.rd (F.MEM_CH_STATUS.STATE c) ≠ 3 :=
  ⟨memState [] (fun m => { m with debt := [7, 8, 0, 0] }), 0, by decide +kernel⟩

theorem witness_ChannelsRefreshRestAndTrain_2 : ∃ (s : State) (c : Fin 6) (sub rank : Fin 2) (span : Int),
    s.mem.ch.length = 6 ∧ s.rd (F.MEM_CH_STATUS.STATE c) ≠ 0 ∧ s.rd (F.MEM_CH_STATUS.STATE c) ≠ 3 ∧ s.refreshUnits c ≤ (s.memCh c).debt.getD (2 * rank.val + sub.val) 0 ∧ ((s.refreshCap c < (s.memCh c).debt.getD (2 * rank.val + sub.val) 0 ∨ (s.memCh c).queue.all (fun r => !(r.bank / 32 = rank.val && s.subOf r.addr = sub.val)) = true)) :=
  ⟨memState [] (fun m => { m with debt := [2, 0, 0, 9], rows := [(64, 1), (127, 5)] }), 0, 1, 1, -4, by decide +kernel⟩

theorem witness_ChannelsRefreshRestAndTrain_3 : ∃ (s : State) (c : Fin 6) (twice : Bool),
    s.mem.ch.length = 6 ∧ s.rd (F.MEM_CH_STATUS.STATE c) ≠ 0 ∧ s.rd (F.MEM_CH_STATUS.STATE c) ≠ 3 :=
  ⟨memState [(F.MEM_CH_STATUS.DOUBLED 0, 1)] (fun m => { m with cool := 1 }), 0, false, by decide +kernel⟩

theorem witness_ChannelsRefreshRestAndTrain_4 : ∃ (s : State) (c : Fin 6) (twice : Bool),
    s.mem.ch.length = 6 ∧ s.rd (F.MEM_CH_STATUS.STATE c) ≠ 0 ∧ s.rd (F.MEM_CH_STATUS.STATE c) ≠ 3 ∧ s.mode ≠ 0 ∧ s.saf.acting = false :=
  ⟨memState [] id, 0, false, by decide +kernel⟩

theorem witness_ChannelsRefreshRestAndTrain_5 : ∃ (s : State) (c : Fin 6),
    s.mem.ch.length = 6 ∧ s.mayRest c = true :=
  ⟨memState [(F.BOOT_STATUS.MODE, 4), (F.SCR_STATUS.STATE, 1)] id, 3, by decide +kernel⟩

theorem witness_ChannelsRefreshRestAndTrain_6 : ∃ (s : State) (c : Fin 6) (span : Int),
    s.mem.ch.length = 6 ∧ s.rd (F.MEM_CH_STATUS.STATE c) = 3 ∧ (s.memCh c).ports ≠ [] ∧ s.bit F.BOOT_STATUS.QUIESCED = false :=
  ⟨memState [(F.MEM_CH_STATUS.STATE 0, 3), (F.MEM_STATUS.SELF_REFRESH, 1)] (memPorts [memReq 0 3 none]), 0, 5, by decide +kernel⟩

theorem witness_ChannelsRefreshRestAndTrain_7 : ∃ (s : State) (c : Fin 6) (lanes : List LaneEye),
    s.mem.ch.length = 6 ∧ s.rd (F.MEM_CH_STATUS.STATE c) = 1 ∧ (s.memCh c).filling = false ∧ lanes.length = 10 ∧ lanes.all (fun e => decide (32 ≤ e.eye)) = true :=
  ⟨memState [(F.MEM_CH_STATUS.STATE 0, 1)] id, 0, List.replicate 10 ⟨40, 41, 35, 32⟩, by decide +kernel⟩

theorem witness_ChannelsRefreshRestAndTrain_8 : ∃ (s : State) (c : Fin 6) (lanes : List LaneEye),
    s.mem.ch.length = 6 ∧ s.rd (F.MEM_CH_STATUS.STATE c) = 1 ∧ (s.memCh c).filling = false ∧ (s.memCh c).recovery = true ∧ (lanes.take 10).any (fun e => decide (e.eye < 32)) = true ∧ s.kpr.retrains.filter (fun r => r.1 = c.val) = [] ∧ s.saf.acting = true :=
  ⟨{ memState [(F.MEM_CH_STATUS.STATE 0, 1)] (fun m => { m with recovery := true }) with saf := { State.reset.saf with acting := true } }, 0, List.replicate 9 ⟨40, 41, 35, 32⟩ ++ [⟨40, 41, 35, 31⟩], by decide +kernel⟩

theorem witness_ChannelsRefreshRestAndTrain_9 : ∃ (s : State) (c : Fin 6) (lanes : List LaneEye),
    s.mem.ch.length = 6 ∧ s.rd (F.MEM_CH_STATUS.STATE c) = 1 ∧ (s.memCh c).filling = false ∧ (s.memCh c).recovery = false ∧ (lanes.take 10).any (fun e => decide (e.eye < 32)) = true ∧ (s.memCh c).tries < 2 :=
  ⟨memState [(F.MEM_CH_STATUS.STATE 0, 1)] id, 0, List.replicate 9 ⟨40, 41, 35, 32⟩ ++ [⟨40, 41, 35, 31⟩], by decide +kernel⟩

theorem witness_ChannelsRefreshRestAndTrain_10 : ∃ (s : State) (c : Fin 6),
    s.mem.ch.length = 6 ∧ (s.memCh c).filling = true ∧ 3 ≤ s.mem.preview.length :=
  ⟨{ memState [(F.MEM_STATUS.TRAINED, 62)] (fun m => { m with filling := true }) with mem := { (memState [] (fun m => { m with filling := true })).mem with preview := [1, 2, 3] } }, 0, by decide +kernel⟩

theorem witness_ChannelsRefreshRestAndTrain_11 : ∃ (s : State) (c : Fin 6),
    s.mem.ch.length = 6 ∧ (s.memCh c).filling = true ∧ s.mem.preview.length < 3 :=
  ⟨{ memState [(F.MEM_STATUS.TRAINED, 2)] (fun m => { m with filling := true }) with mem := { (memState [] (fun m => { m with filling := true })).mem with preview := [1] } }, 0, by decide +kernel⟩

theorem witness_ChannelsRefreshRestAndTrain_12 : ∃ (s : State) (m : Master) (c : Fin 6),
    s.serves m F.MEM_CTL.RETRAIN.off = true ∧ s.mem.ch.length = 6 ∧ 2 ≤ s.rd (F.MEM_CH_STATUS.STATE c) ∧ s.rd (F.MEM_CH_STATUS.STATE c) ≤ 4 ∧ s.rd F.SLT_STATUS.STATE = 0 :=
  ⟨memState [] id, .keeper, 4, by decide +kernel⟩

theorem witness_ChannelsRefreshRestAndTrain_13 : ∃ (s : State) (m : Master) (c : Fin 6),
    s.serves m F.MEM_CTL.RETRAIN.off = true ∧ s.mem.ch.length = 6 ∧ 2 ≤ s.rd (F.MEM_CH_STATUS.STATE c) ∧ s.rd (F.MEM_CH_STATUS.STATE c) ≤ 4 ∧ s.rd F.SLT_STATUS.STATE ≠ 0 :=
  ⟨memState [(F.SLT_STATUS.STATE, 2)] id, .keeper, 4, by decide +kernel⟩

theorem witness_ChannelsRefreshRestAndTrain_14 : ∃ (s : State) (m : Master) (c : Fin 8),
    s.serves m F.MEM_CTL.RETRAIN.off = true ∧ ((6 ≤ c.val ∨ s.rd (F.MEM_CH_STATUS.STATE c) < 2 ∨ 4 < s.rd (F.MEM_CH_STATUS.STATE c))) :=
  ⟨memState [] id, .keeper, 7, by decide +kernel⟩

theorem witness_ChannelsRefreshRestAndTrain_15 : ∃ (s : State) (m : Master) (c : Fin 8),
    s.serves m F.MEM_CTL.APPLY.off = true ∧ ((6 ≤ c.val ∨ (s.rd (F.MEM_CH_STATUS.STATE c) ≠ 1 ∧ s.rd (F.MEM_CH_STATUS.STATE c) ≠ 4))) :=
  ⟨memState [] id, .keeper, 4, by decide +kernel⟩

theorem witness_ChannelsRefreshRestAndTrain_16 : ∃ (s : State) (m : Master) (c : Fin 6),
    s.serves m F.MEM_CTL.APPLY.off = true ∧ s.mem.ch.length = 6 ∧ ((s.rd (F.MEM_CH_STATUS.STATE c) = 1 ∨ s.rd (F.MEM_CH_STATUS.STATE c) = 4)) ∧ ((∀ n, n < 10 → s.rd (F.MEM_CH_DELAY.VREF c n) ≤ 70)) ∧ (s.memCh c).passed = false :=
  ⟨memState [(F.MEM_CH_STATUS.STATE 4, 4), (F.MEM_CH_DELAY.VREF 4 9, 70)] id, .keeper, 4, by decide +kernel⟩

theorem witness_ChannelsRefreshRestAndTrain_17 : ∃ (s : State) (m : Master) (c : Fin 6),
    s.serves m F.MEM_CTL.APPLY.off = true ∧ s.mem.ch.length = 6 ∧ s.rd (F.MEM_CH_STATUS.STATE c) = 1 ∧ ((∀ n, n < 10 → s.rd (F.MEM_CH_DELAY.VREF c n) ≤ 70)) ∧ (s.memCh c).passed = true ∧ (s.memCh c).recovery = false :=
  ⟨memState [(F.MEM_CH_STATUS.STATE 0, 1)] (fun m => { m with passed := true }), .keeper, 0, by decide +kernel⟩

theorem witness_ChannelsRefreshRestAndTrain_18 : ∃ (s : State) (m : Master) (c : Fin 6),
    s.serves m F.MEM_CTL.APPLY.off = true ∧ s.mem.ch.length = 6 ∧ s.rd (F.MEM_CH_STATUS.STATE c) = 1 ∧ ((∀ n, n < 10 → s.rd (F.MEM_CH_DELAY.VREF c n) ≤ 70)) ∧ (s.memCh c).passed = true ∧ (s.memCh c).recovery = true ∧ s.kpr.retrains.filter (fun r => r.1 = c.val) = [] :=
  ⟨memState [(F.MEM_CH_STATUS.STATE 0, 1)] (fun m => { m with passed := true, recovery := true }), .keeper, 0, by decide +kernel⟩

theorem witness_TheScrubberWalksEveryChannel_1 : ∃ (s : State) (bank : Fin 64) (row : Nat),
    s.rd F.SCR_STATUS.STATE = 1 ∧ s.bankRowAt (s.rd F.SCR_STATUS.POS * 64) = (bank.val, row) ∧ s.mem.ch.length = 6 :=
  ⟨memState [(F.SCR_STATUS.STATE, 1), (F.SCR_STATUS.POS, 5)] id, 0, 0, by decide +kernel⟩

theorem witness_TheScrubberWalksEveryChannel_2 : ∃ (s : State) (a : Nat) (rest : List Nat) (c : Nat),
    s.mem.ch.length = 6 ∧ s.mem.writeBack = a :: rest ∧ s.chanOf a = some c ∧ c < 6 :=
  ⟨{ memState [] id with mem := { (memState [] id).mem with writeBack := [256, 0] } }, 256, [0], 1, by decide +kernel⟩

theorem witness_TheScrubberWalksEveryChannel_3 : ∃ (s : State),
    s.rd F.SCR_STATUS.STATE = 1 :=
  ⟨with_ [(F.SCR_STATUS.STATE, 1)], by decide +kernel⟩

theorem witness_TheScrubberWalksEveryChannel_4 : ∃ (s : State) (m : Master),
    s.serves m F.SCR_CTL.ENABLE.off = true :=
  ⟨with_ [(F.MEM_STATUS.SELF_REFRESH, 1)], .keeper, by decide +kernel⟩

theorem witness_TheScrubberWalksEveryChannel_5 : ∃ (s : State) (m : Master),
    s.serves m F.SCR_CTL.ENABLE.off = true :=
  ⟨with_ [(F.SCR_STATUS.STATE, 3)], .keeper, by decide +kernel⟩

theorem witness_TheScrubberWalksEveryChannel_6 : ∃ (s : State),
    s.rd F.SCR_STATUS.STATE = 2 :=
  ⟨with_ [(F.SCR_STATUS.STATE, 2), (F.SCR_STATUS.PENDING_ENABLE, 1)], by decide +kernel⟩

theorem witness_CameraPacketsBuildFrames_1 : ∃ (s : State) (p : Fin 2) (fnum : BitVec 16) (x : SvyPipe),
    s.svyOn p = true ∧ s.svy.length = 2 ∧ s.pipe p = x ∧ x.frame = none ∧ x.pend = [] ∧ x.failing = false ∧ x.first = 0 ∧ x.late = [] ∧ x.send = none ∧ s.gapAt p fnum.toNat s.nowAll = false ∧ s.bit (F.SVY_P_DEFECT_CTL.SWAP_PENDING p) = false ∧ s.bit (F.SVY_P_CTL.FRAME_STORE p) = false ∧ (if x.tag.any (fun g => g.phase = 0) then (F.SVY_P_PROC.MERGE 0).get (s.reg (F.SVY_P_PROC.MERGE p).off) else x.par.merge) ≤ 1 :=
  ⟨svyState [(F.SVY_P_PROC.MERGE 1, 1)] (fun x => { x with tag := some ⟨5, 0, 1⟩ }), 1, 9, { svyPipeNew with tag := some ⟨5, 0, 1⟩ }, by decide +kernel⟩

theorem witness_CameraPacketsBuildFrames_2 : ∃ (s : State) (p : Fin 2) (data : List Byte) (f : SvyFrame),
    s.svyOn p = true ∧ s.svy.length = 2 ∧ (s.pipe p).frame = some f ∧ data.length * 8 = s.rd (F.SVY_P_CAM.WIDTH p) * s.svyBits p ∧ f.lines.length < s.rd (F.SVY_P_CAM.HEIGHT p) :=
  ⟨svyState [] (inFrame (svyFrame none [[1, 2, 3, 4]])), 1, [0, 1, 2, 3, 4], svyFrame none [[1, 2, 3, 4]], by decide +kernel⟩

theorem witness_CameraPacketsBuildFrames_3 : ∃ (s : State) (p : Fin 2) (data : List Byte) (f : SvyFrame),
    s.svyOn p = true ∧ s.svy.length = 2 ∧ (s.pipe p).frame = some f ∧ data.length * 8 ≠ s.rd (F.SVY_P_CAM.WIDTH p) * s.svyBits p :=
  ⟨svyState [] (inFrame (svyFrame none [])), 1, [0, 1, 2, 3], svyFrame none [], by decide +kernel⟩

theorem witness_CameraPacketsBuildFrames_4 : ∃ (s : State) (p : Fin 2) (data : List Byte) (f : SvyFrame),
    s.svyOn p = true ∧ s.svy.length = 2 ∧ (s.pipe p).frame = some f ∧ data.length * 8 = s.rd (F.SVY_P_CAM.WIDTH p) * s.svyBits p ∧ f.lines.length < s.rd (F.SVY_P_CAM.HEIGHT p) ∧ (s.bucket 12 p.val).2 = false :=
  ⟨svyState [(F.SAF_BUCKET.N 12, 4)] (inFrame (svyFrame none [])), 1, [0, 1, 2, 3, 4], svyFrame none [], by decide +kernel⟩

theorem witness_CameraPacketsBuildFrames_5 : ∃ (s : State) (p : Fin 2) (f : SvyFrame) (x : SvyPipe) (next : Nat),
    s.svyOn p = true ∧ s.svy.length = 2 ∧ s.pipe p = x ∧ x.frame = some f ∧ x.group = [] ∧ f.bad = false ∧ f.surplus = false ∧ f.held = false ∧ f.lines.length = s.rd (F.SVY_P_CAM.HEIGHT p) ∧ f.index = none ∧ f.par.merge = 1 ∧ f.begins = true ∧ f.fnum < 65536 ∧ next = (s.rd (F.SVY_P_POS.REC_NEXT p) + x.recs.length) % 2 ^ 32 ∧ (next + 2 ^ 32 - s.rd (F.SVY_P_ACK.REC p)) % 2 ^ 32 < 2 ^ s.rd (F.SVY_P_REC_RING.LOG2 p) :=
  ⟨svyState [] (inFrame (svyFrame (some ⟨5, 0, 1⟩) [[1, 2, 3, 4], [5, 6, 7, 8]])), 1, svyFrame (some ⟨5, 0, 1⟩) [[1, 2, 3, 4], [5, 6, 7, 8]], inFrame (svyFrame (some ⟨5, 0, 1⟩) [[1, 2, 3, 4], [5, 6, 7, 8]]) svyPipeNew, 0, by decide +kernel⟩

theorem witness_CameraPacketsBuildFrames_6 : ∃ (s : State) (p : Fin 2) (f : SvyFrame) (x : SvyPipe) (next i base : Nat) (bs : List Byte),
    s.svyOn p = true ∧ s.svy.length = 2 ∧ s.pipe p = x ∧ x.frame = some f ∧ x.group = [] ∧ f.bad = false ∧ f.surplus = false ∧ f.held = false ∧ f.lines.length = s.rd (F.SVY_P_CAM.HEIGHT p) ∧ f.index = some i ∧ base = s.frameBase p i ∧ bs = (s.frameRows p f).flatten.flatMap (fun v => leBytes 2 v) ∧ s.ddrErr = [] ∧ s.mem.remaps = [] ∧ s.ddrPoisoned base bs.length = false ∧ f.par.merge = 1 ∧ f.begins = true ∧ f.fnum < 65536 ∧ next = (s.rd (F.SVY_P_POS.REC_NEXT p) + x.recs.length) % 2 ^ 32 ∧ (next + 2 ^ 32 - s.rd (F.SVY_P_ACK.REC p)) % 2 ^ 32 < 2 ^ s.rd (F.SVY_P_REC_RING.LOG2 p) :=
  ⟨svyState [(F.MEM_STATUS.FULL_MAP, 1)] (inFrame storedFrame), 1, storedFrame, inFrame storedFrame svyPipeNew, 0, 0, 0, [1, 0, 2, 0, 3, 0, 4, 0, 5, 0, 6, 0, 7, 0, 8, 0], by decide +kernel⟩

theorem witness_CameraPacketsBuildFrames_7 : ∃ (s : State) (p : Fin 2) (f : SvyFrame) (x : SvyPipe) (i : Nat),
    s.svyOn p = true ∧ s.svy.length = 2 ∧ s.pipe p = x ∧ x.frame = some f ∧ x.group = [] ∧ f.bad = false ∧ f.surplus = false ∧ f.held = false ∧ f.lines.length = s.rd (F.SVY_P_CAM.HEIGHT p) ∧ f.index = some i ∧ s.ddrErr = [] ∧ 2 ≤ f.par.merge ∧ f.begins = true ∧ f.fnum < 65536 :=
  ⟨svyState [] (inFrame firstFrame), 1, firstFrame, inFrame firstFrame svyPipeNew, 0, by decide +kernel⟩

theorem witness_CameraPacketsBuildFrames_8 : ∃ (s : State) (p : Fin 2) (fnum : BitVec 16) (f : SvyFrame),
    s.svyOn p = true ∧ s.svy.length = 2 ∧ (s.pipe p).frame = some f ∧ f.fnum ≠ fnum.toNat ∧ f.tag = none ∧ f.index = none ∧ (s.pipe p).run = true :=
  ⟨svyState [] (inFrame (svyFrame none [])), 1, 10, svyFrame none [], by decide +kernel⟩

theorem witness_CameraPacketsBuildFrames_9 : ∃ (s : State) (p : Fin 2) (vc : BitVec 4) (dt : BitVec 6),
    s.svyOn p = true ∧ vc.toNat ≠ s.rd (F.SVY_P_CAM.VC p) :=
  ⟨svyState [] id, 1, 3, 0, by decide +kernel⟩

theorem witness_CameraPacketsBuildFrames_11 : ∃ (s : State) (p : Fin 2),
    s.svyOn p = true ∧ s.svy.length = 2 :=
  ⟨svyState [] (inFrame (svyFrame none [])), 1, by decide +kernel⟩

theorem witness_CameraPacketsBuildFrames_12 : ∃ (s : State) (p : Fin 2),
    s.svyOn p = true ∧ s.svy.length = 2 ∧ (s.bucket 12 p.val).2 = false :=
  ⟨svyState [(F.SAF_BUCKET.N 12, 4)] (inFrame (svyFrame none [])), 1, by decide +kernel⟩

theorem witness_SettingsSetsAreSentToTheSensor_1 : ∃ (s : State) (m : Master) (p : Fin 2) (v : BitVec 32) (d : List Byte),
    s.serves m (F.SVY_P_SET_SUBMIT.ADDR p).off = true ∧ s.svy.length = 2 ∧ d = memRead s.sram (v.toNat / 128 % 2 ^ 15 * 128) 128 ∧ (s.pipe p).queue.length < 4 ∧ (((s.pipe p).accepted = true → fieldAt d 0 2 = (s.rd (F.SVY_P_SET_STATUS.ACCEPTED p) + 1) % 65536)) ∧ setBad d = false :=
  ⟨{ svyState [] id with sram := memWrite [] 0x180 setBytes }, .docentM 0, 1, 0x180#32, setBytes, by decide +kernel⟩

theorem witness_SettingsSetsAreSentToTheSensor_2 : ∃ (s : State) (m : Master) (p : Fin 2) (v : BitVec 32) (d : List Byte),
    s.serves m (F.SVY_P_SET_SUBMIT.ADDR p).off = true ∧ d = memRead s.sram (v.toNat / 128 % 2 ^ 15 * 128) 128 ∧ ((4 ≤ (s.pipe p).queue.length ∨ ((s.pipe p).accepted = true ∧ fieldAt d 0 2 ≠ (s.rd (F.SVY_P_SET_STATUS.ACCEPTED p) + 1) % 65536) ∨ setBad d = true)) :=
  ⟨svyState [] id, .docentM 0, 1, 0x180#32, List.replicate 128 0, by decide +kernel⟩

theorem witness_SettingsSetsAreSentToTheSensor_3 : ∃ (s : State) (p : Fin 2) (low : Bool) (x : SvyPipe) (q : SvySet) (rest : List SvySet) (w : Nat × Nat) (ws : List (Nat × Nat)),
    s.svyOn p = true ∧ s.svy.length = 2 ∧ s.pipe p = x ∧ x.ready = true ∧ x.send = none ∧ x.queue = q :: rest ∧ ((x.cur = none ∨ x.phase = 0)) ∧ q.lists.getD 0 [] = w :: ws :=
  ⟨svyState [] (fun x => { x with ready := true, queue := [svySetOne] }), 1, true, { svyPipeNew with ready := true, queue := [svySetOne] }, svySetOne, [], (0x3012, 7), [], by decide +kernel⟩

theorem witness_SettingsSetsAreSentToTheSensor_4 : ∃ (s : State) (p : Fin 2) (low : Bool) (x : SvyPipe) (q : SvySet) (rest : List SvySet) (w : Nat × Nat) (ws : List (Nat × Nat)),
    s.svyOn p = true ∧ s.svy.length = 2 ∧ s.pipe p = x ∧ x.ready = true ∧ x.send = none ∧ x.cur = some q ∧ x.queue = rest ∧ ((x.queue = [] ∨ x.phase ≠ 0)) ∧ q.lists.getD x.phase [] = w :: ws :=
  ⟨svyState [] (fun x => { x with ready := true, cur := some svySetOne }), 1, true, { svyPipeNew with ready := true, cur := some svySetOne }, svySetOne, [], (0x3012, 7), [], by decide +kernel⟩

theorem witness_SettingsSetsAreSentToTheSensor_5 : ∃ (s : State) (p : Fin 2) (low : Bool) (x : SvyPipe) (q : SvySet) (rest : List SvySet) (w : Nat × Nat) (ws : List (Nat × Nat)),
    s.svyOn p = true ∧ s.svy.length = 2 ∧ s.pipe p = x ∧ x.send = none ∧ x.queue = q :: rest ∧ ((x.cur = none ∨ x.phase = 0)) ∧ q.lists.getD 0 [] = w :: ws :=
  ⟨svyState [(F.SVY_P_STATUS.STREAMING 1, 1)] (fun x => { x with queue := [svySetOne], owes := true }), 1, false, { svyPipeNew with queue := [svySetOne], owes := true }, svySetOne, [], (0x3012, 7), [], by decide +kernel⟩

theorem witness_SettingsSetsAreSentToTheSensor_6 : ∃ (s : State) (p : Fin 2) (low : Bool) (e : SvySend) (w : Nat × Nat) (ws : List (Nat × Nat)),
    s.svy.length = 2 ∧ (s.pipe p).send = some e ∧ e.left = w :: ws ∧ e.cut = false :=
  ⟨svyState [] (sending (svySending [(1, 2)] 0)), 1, false, svySending [(1, 2)] 0, (1, 2), [], by decide +kernel⟩

theorem witness_SettingsSetsAreSentToTheSensor_7 : ∃ (s : State) (p : Fin 2) (low : Bool) (e : SvySend),
    s.svy.length = 2 ∧ (s.pipe p).send = some e ∧ e.left ≠ [] ∧ e.cut = true :=
  ⟨svyState [] (sending { svySending [(1, 2)] 0 with cut := true }), 1, false, { svySending [(1, 2)] 0 with cut := true }, by decide +kernel⟩

theorem witness_SettingsSetsAreSentToTheSensor_8 : ∃ (s : State) (p : Fin 2) (low : Bool) (e : SvySend),
    s.svyOn p = true ∧ s.svy.length = 2 ∧ (s.pipe p).send = some e ∧ e.left ≠ [] ∧ s.ddrErr = [] :=
  ⟨svyState [] (sending (svySending [(1, 2)] 0)), 1, false, svySending [(1, 2)] 0, by decide +kernel⟩

theorem witness_SettingsSetsAreSentToTheSensor_9 : ∃ (s : State) (p : Fin 2) (e : SvySend),
    s.svy.length = 2 ∧ (s.pipe p).send = some e ∧ s.ddrErr = [] :=
  ⟨svyState [] (sending (svySending [(1, 2)] 0)), 1, svySending [(1, 2)] 0, by decide +kernel⟩

theorem witness_SettingsSetsAreSentToTheSensor_10 : ∃ (s : State) (p : Fin 2) (e : SvySend) (early : Nat),
    s.svyOn p = true ∧ s.svy.length = 2 ∧ (s.pipe p).send = some e ∧ e.left = [] ∧ ((s.pipe p).recs, (s.pipe p).group) = ([], []) ∧ early = ((s.pipe p).sofs.filter (fun t => s.nowAll < t.1 + s.svyGuard p)).length :=
  ⟨svyState [] (sending (svySending [] 1)), 1, svySending [] 1, 0, by decide +kernel⟩

theorem witness_SurveyRecordsSettingsAndEnable_1 : ∃ (s : State) (p : Fin 2) (r : SvyRec) (rest : List SvyRec) (a : Nat),
    s.svy.length = 2 ∧ (s.pipe p).recs = r :: rest ∧ a = (s.rd (F.SVY_P_REC_RING.BASE p) + s.rd (F.SVY_P_POS.REC_NEXT p) % 2 ^ s.rd (F.SVY_P_REC_RING.LOG2 p)) * 2 ^ 20 ∧ s.ddrErr = [] ∧ s.mem.remaps = [] ∧ s.ddrPoisoned a r.bytes.length = false :=
  ⟨svyState [(F.SVY_P_POS.REC_NEXT 1, 9), (F.SVY_P_CTL.IRQ_EN 1, 1), (F.MEM_STATUS.FULL_MAP, 1)] (fun x => { x with recs := [⟨[1, 2, 3], []⟩] }), 1, ⟨[1, 2, 3], []⟩, [], 0x100000, by decide +kernel⟩

theorem witness_SurveyRecordsSettingsAndEnable_2 : ∃ (s : State) (m : Master) (p : Fin 2) (which : Fin 3) (w : BusWidth) (upper : Bool) (v : BitVec 64) (off : Nat) (new : Word),
    off = 0x1A0020 + 0x8000 * p.val + 8 * which.val ∧ s.serves m off = true ∧ new = (if which.val = 1 then v else halfJoin (s.reg off) w upper v) :=
  ⟨svyState [] id, .docentM 0, 1, 0, .w64, false, 0xFFFFFFFFFFFE4000#64, 0x1A8020, 0xFFFFFFFFFFFE4000#64, by decide +kernel⟩

theorem witness_SurveyRecordsSettingsAndEnable_3 : ∃ (s : State) (m : Master) (p : Fin 2) (count : BitVec 13),
    s.serves m (F.SVY_P_DEFECT_CTL.SWAP p).off = true :=
  ⟨svyState [] id, .docentM 0, 0, 5000#13, by decide +kernel⟩

theorem witness_SurveyRecordsSettingsAndEnable_4 : ∃ (s : State) (m : Master) (p : Fin 2) (w : BusWidth) (upper : Bool) (v new : Word) (a b : Nat) (okA okB : Bool),
    s.serves m (F.SVY_P_ACK.REC p).off = true ∧ ((w = .w64 ∨ upper = true)) ∧ new = (if w = .w64 then v else BitVec.ofNat 64 ((s.halfReg (F.SVY_P_ACK.REC p).off).toNat % 2 ^ 32 + 2 ^ 32 * (v.toNat % 2 ^ 32))) ∧ (a = s.rd (F.SVY_P_ACK.REC p) ∧ b = s.rd (F.SVY_P_ACK.FRAME p)) ∧ okA = decide ((new.toNat % 2 ^ 32 + 2 ^ 32 - a) % 2 ^ 32 ≤ (s.rd (F.SVY_P_POS.REC_NEXT p) + 2 ^ 32 - a) % 2 ^ 32) ∧ okB = decide ((new.toNat / 2 ^ 32 + 2 ^ 32 - b) % 2 ^ 32 ≤ (s.rd (F.SVY_P_POS.FRAME_NEXT p) + 2 ^ 32 - b) % 2 ^ 32) :=
  ⟨svyState [(F.SVY_P_POS.REC_NEXT 1, 3), (F.SVY_P_POS.FRAME_NEXT 1, 2), (F.DOC_ROUTE.PENDING 14, 1)] id, .docentM 0, 1, .w64, false, 0x200000003#64, 0x200000003#64, 0, 0, true, true, by decide +kernel⟩

theorem witness_SurveyRecordsSettingsAndEnable_5 : ∃ (s : State) (m : Master) (p : Fin 2) (w : BusWidth) (v : Word),
    s.serves m (F.SVY_P_ACK.REC p).off = true ∧ w ≠ .w64 :=
  ⟨svyState [] id, .docentM 0, 1, .w32, 3#64, by decide +kernel⟩

theorem witness_SurveyRecordsSettingsAndEnable_6 : ∃ (s : State) (m : Master) (p : Fin 2),
    s.serves m (F.SVY_P_CTL.ENABLE p).off = true ∧ s.svy.length = 2 :=
  ⟨svyState [(F.SVY_P_STATUS.STATE 1, 0)] id, .docentM 0, 1, by decide +kernel⟩

theorem witness_SurveyRecordsSettingsAndEnable_7 : ∃ (s : State) (m : Master) (p : Fin 2),
    s.serves m (F.SVY_P_CTL.ENABLE p).off = true ∧ s.svy.length = 2 ∧ s.svyOn p = true :=
  ⟨svyState [] (inFrame (svyFrame none [])), .docentM 0, 1, by decide +kernel⟩

theorem witness_SurveyRecordsSettingsAndEnable_8 : ∃ (s : State) (p : Fin 2),
    s.svy.length = 2 ∧ s.rd (F.SVY_P_STATUS.STATE p) = 2 ∧ (s.pipe p).recs = [] ∧ (s.pipe p).send = none :=
  ⟨svyState [(F.SVY_P_STATUS.STATE 1, 2), (F.SVY_P_STATUS.PENDING_ENABLE 1, 1)] id, 1, by decide +kernel⟩

theorem witness_AxisCommandsStartStepAndComplete_1 : ∃ (s : State) (m : Master) (stop : Bool),
    s.serves m F.AXM_PUSH.PUSH.off = true :=
  ⟨axQueued (List.replicate 15 axMoveCmd) [], .docentM 0, false, by decide +kernel⟩

theorem witness_AxisCommandsStartStepAndComplete_2 : ∃ (s : State) (ws : List Word) (rest : List (List Word)),
    s.axm.queue = ws :: rest ∧ s.axm.run = none ∧ s.bit F.AXM_CTL.ENABLE = true ∧ s.rd F.AXM_STATUS.STATE < 2 ∧ s.axRefusal ws = 0 ∧ ((axField ws 0 0 4 = 1 ∨ axField ws 0 0 4 = 2)) ∧ (s.axDelta ws).any (fun d => d ≠ 0) = true :=
  ⟨axQueued [axMoveCmd] [], axMoveCmd, [], by decide +kernel⟩

theorem witness_AxisCommandsStartStepAndComplete_3 : ∃ (s : State) (ws : List Word) (rest : List (List Word)) (c : Nat),
    s.axm.queue = ws :: rest ∧ s.axm.run = none ∧ s.bit F.AXM_CTL.ENABLE = true ∧ s.rd F.AXM_STATUS.STATE < 2 ∧ s.axRefusal ws = c ∧ c ≠ 0 :=
  ⟨axQueued [axEmptyCmd, axMoveCmd] [], axEmptyCmd, [axMoveCmd], 2, by decide +kernel⟩

theorem witness_AxisCommandsStartStepAndComplete_4 : ∃ (s : State) (ws : List Word) (rest : List (List Word)),
    s.axm.queue = ws :: rest ∧ s.axm.run = none ∧ s.bit F.AXM_CTL.ENABLE = true ∧ s.rd F.AXM_STATUS.STATE < 2 ∧ s.axRefusal ws = 0 ∧ axField ws 0 0 4 = 4 :=
  ⟨axQueued [axDwellCmd] [], axDwellCmd, [], by decide +kernel⟩

theorem witness_AxisCommandsStartStepAndComplete_5 : ∃ (s : State) (ws : List Word) (rest : List (List Word)) (a : Nat),
    s.axm.queue = ws :: rest ∧ s.axm.run = none ∧ s.bit F.AXM_CTL.ENABLE = true ∧ s.rd F.AXM_STATUS.STATE < 2 ∧ s.axRefusal ws = 0 ∧ (axField ws 0 0 4, axField ws 0 10 4) = (3, 0) ∧ maskAxes (axField ws 0 4 6) = [a] :=
  ⟨{ axQueued [[0x23#64, 0, 0, 0, 0, 0], axMoveCmd] [(F.AXM_HOMEPOS.HOME_VALUE 1, 2 ^ 32 - 5)] with axm := { State.reset.axm with queue := [[0x23#64, 0, 0, 0, 0, 0], axMoveCmd], stuck := [1] } }, [0x23#64, 0, 0, 0, 0, 0], [axMoveCmd], 1, by decide +kernel⟩

theorem witness_AxisCommandsStartStepAndComplete_6 : ∃ (s : State) (r : AxRun) (stepping : Nat → Bool),
    s.axm.run = some r ∧ ((r.op = 1 ∨ r.op = 2)) ∧ s.axm.away = [0, 0, 0, 0, 0, 0] ∧ s.axm.pulse.length = 6 ∧ ((∀ a, a < 6 → s.bit (F.AXM_POS.LIMP a) = false ∧ s.bit (F.AXM_POS.LIMM a) = false)) ∧ ((∀ a, a < 6 → stepping a = (decide (r.mask / 2 ^ a % 2 = 1) && decide (r.delta.getD a 0 ≠ 0) && decide (r.steps ≤ r.errs.getD a 0 + (r.delta.getD a 0).natAbs)))) :=
  ⟨axRuns (axRun 0) [], axRun 0, (fun a => decide (a < 2)), by decide +kernel⟩

theorem witness_AxisCommandsStartStepAndComplete_7 : ∃ (s : State) (r : AxRun),
    s.axm.run = some r ∧ r.op = 4 ∧ r.mask = 0 :=
  ⟨axRuns { axRun 0 with op := 4, mask := 0 } [], { axRun 0 with op := 4, mask := 0 }, by decide +kernel⟩

theorem witness_AxisCommandsStartStepAndComplete_8 : ∃ (s : State) (a : Fin 6) (active : Bool),
    s.axm.run = none :=
  ⟨axmState [], 5, true, by decide +kernel⟩

theorem witness_AxisCommandsStartStepAndComplete_9 : ∃ (s : State) (a : Fin 6) (r : AxRun),
    s.axm.run = some r ∧ r.op = 3 ∧ r.kind = 1 ∧ r.axis = a.val ∧ r.phase = 3 ∧ r.mask = 2 ^ a.val :=
  ⟨axRuns { axRun 0 with op := 3, kind := 1, axis := 1, phase := 3, mask := 2 } [(F.AXM_HOMEPOS.HOME_VALUE 1, 2 ^ 32 - 5), (F.AXM_POS.HOME 1, 1)], 1, { axRun 0 with op := 3, kind := 1, axis := 1, phase := 3, mask := 2 }, by decide +kernel⟩

theorem witness_AxesStopOnInputsAndAreEnabledAndCleared_1 : ∃ (s : State) (a : Fin 6) (positive : Bool) (r : AxRun),
    s.axPresent a = true ∧ s.bit (if positive then F.AXM_POS.LIMP a else F.AXM_POS.LIMM a) = false ∧ s.bit (if positive then F.AXM_POS.LIMM a else F.AXM_POS.LIMP a) = false ∧ s.axm.run = some r ∧ r.op ≠ 3 ∧ s.rd F.AXM_STATUS.STATE < 3 ∧ (if positive then 0 < r.delta.getD a 0 else r.delta.getD a 0 < 0) :=
  ⟨axRuns (axRun 1) [], 0, true, axRun 1, by decide +kernel⟩

theorem witness_AxesStopOnInputsAndAreEnabledAndCleared_2 : ∃ (s : State) (a : Fin 6) (positive : Bool),
    s.axPresent a = true ∧ s.axm.run = none ∧ s.bit (if positive then F.AXM_POS.LIMM a else F.AXM_POS.LIMP a) = false :=
  ⟨axmState [], 1, true, by decide +kernel⟩

theorem witness_AxesStopOnInputsAndAreEnabledAndCleared_3 : ∃ (s : State) (a : Fin 6) (positive : Bool) (since : Nat),
    s.bit (if positive then F.AXM_POS.LIMP a else F.AXM_POS.LIMM a) = true ∧ s.axm.run = none :=
  ⟨{ axmState [(F.AXM_POS.LIMP 1, 1)] with axm := { State.reset.axm with both := [1], stuck := [0, 1] } }, 1, true, 7, by decide +kernel⟩

theorem witness_AxesStopOnInputsAndAreEnabledAndCleared_4 : ∃ (s : State),
    s.axm.stopIn = false ∧ s.rd F.AXM_STATUS.STATE ≠ 3 ∧ s.rd F.AXM_STATUS.STATE ≠ 4 :=
  ⟨axRuns (axRun 1) [], by decide +kernel⟩

theorem witness_AxesStopOnInputsAndAreEnabledAndCleared_6 : ∃ (s : State) (a : Fin 6),
    s.rd F.AXM_STATUS.STATE ≠ 3 ∧ s.rd F.AXM_STATUS.STATE ≠ 4 :=
  ⟨axRuns (axRun 1) [], 4, by decide +kernel⟩

theorem witness_AxesStopOnInputsAndAreEnabledAndCleared_7 : ∃ (s : State) (m : Master),
    s.serves m F.AXM_CTL.ENABLE.off = true :=
  ⟨with_ [], .docentM 0, by decide +kernel⟩

theorem witness_AxesStopOnInputsAndAreEnabledAndCleared_8 : ∃ (s : State) (m : Master),
    s.serves m F.AXM_CTL.ENABLE.off = true ∧ s.rd F.AXM_STATUS.STATE < 3 ∧ s.bit F.AXM_STATUS.PENDING_ENABLE = false :=
  ⟨axRuns (axRun 1) [], .docentM 0, by decide +kernel⟩

theorem witness_AxesStopOnInputsAndAreEnabledAndCleared_9 : ∃ (s : State) (m : Master),
    s.serves m F.AXM_CTL.ENABLE.off = true ∧ s.rd F.AXM_STATUS.STATE = 3 :=
  ⟨with_ [(F.AXM_STATUS.STATE, 3), (F.AXM_STATUS.PENDING_ENABLE, 1)], .docentM 0, by decide +kernel⟩

theorem witness_AxesStopOnInputsAndAreEnabledAndCleared_10 : ∃ (s : State) (m : Master),
    s.serves m F.AXM_CTL.ENABLE.off = true ∧ s.rd F.AXM_STATUS.STATE = 4 ∧ s.bit F.AXM_STATUS.PENDING_ENABLE = false :=
  ⟨axQueued [axMoveCmd] [(F.AXM_STATUS.STATE, 4)], .docentM 0, by decide +kernel⟩

theorem witness_AxesStopOnInputsAndAreEnabledAndCleared_11 : ∃ (s : State),
    s.rd F.AXM_STATUS.STATE = 3 :=
  ⟨with_ [(F.AXM_STATUS.STATE, 3), (F.AXM_STATUS.PENDING_ENABLE, 1)], by decide +kernel⟩

theorem witness_AxesStopOnInputsAndAreEnabledAndCleared_12 : ∃ (s : State) (m : Master),
    s.serves m F.AXM_CTL.CLEAR.off = true ∧ s.axm.stopIn = false ∧ s.axm.both = [] ∧ s.rd F.AXM_STATUS.STATE = 2 :=
  ⟨with_ [(F.AXM_STATUS.STATE, 2)], .docentM 0, by decide +kernel⟩

theorem witness_AxesStopOnInputsAndAreEnabledAndCleared_13 : ∃ (s : State) (m : Master),
    s.serves m F.AXM_CTL.CLEAR.off = true ∧ ((s.axm.stopIn = true ∨ s.axm.both ≠ [] ∨ s.rd F.AXM_STATUS.STATE = 4 ∨ (s.rd F.AXM_STATUS.STATE = 3 ∧ s.axm.halted = true))) :=
  ⟨with_ [(F.AXM_STATUS.STATE, 4)], .docentM 0, by decide +kernel⟩

theorem witness_TheServosFollowTheirSamples_1 : ∃ (s : State) (m : Master) (v : BitVec 64) (sampled : Bool) (o mx i : Int),
    s.serves m (F.TIM_SAMPLE.OFFSET 0).off = true ∧ o = signed 48 v.toNat ∧ v.toNat / 2 ^ 48 % 2 = 0 ∧ (o.natAbs : Int) < (s.rd (F.TIM_SERVO.STEP_NS 0) : Int) * 2 ^ 16 ∧ mx = (s.rd (F.TIM_SERVO.MAX_PPM 0) * 1000 * 2 ^ 24 : Nat) ∧ i = clampInt (s.tim.integ0 + s.rd (F.TIM_SERVO.KI 0) * o) (-mx) mx :=
  ⟨timState [(F.TIM_STATUS.TB0_STATE, 1)], .docentM 0, 0x0000FFFFFFFFF000#64, true, -4096, 1677721600000, -122880, by decide +kernel⟩

theorem witness_TheServosFollowTheirSamples_2 : ∃ (s : State) (m : Master) (v : BitVec 64) (sampled : Bool) (o : Int),
    s.serves m (F.TIM_SAMPLE.OFFSET 0).off = true ∧ o = signed 48 v.toNat ∧ ((v.toNat / 2 ^ 48 % 2 = 1 ∨ (s.rd (F.TIM_SERVO.STEP_NS 0) : Int) * 2 ^ 16 ≤ o.natAbs)) :=
  ⟨timState [], .docentM 0, 0x0001000000010000#64, true, 65536, by decide +kernel⟩

theorem witness_TheServosFollowTheirSamples_3 : ∃ (s : State) (m : Master) (v : BitVec 64) (sampled : Bool),
    s.serves m (F.TIM_SAMPLE.OFFSET 1).off = true ∧ s.rd F.TIM_CFG.TB1_SOURCE ≠ 2 :=
  ⟨timState [], .docentM 0, 5#64, true, by decide +kernel⟩

theorem witness_TheServosFollowTheirSamples_4 : ∃ (s : State) (o : Int),
    s.onTb0 = true ∧ s.rd F.SLT_STATUS.STATE = 0 ∧ o = ((s.tb0.total : Int) - s.tb1.total) / 2 ^ 32 ∧ (s.rd (F.TIM_SERVO.STEP_NS 1) : Int) * 2 ^ 16 ≤ o.natAbs :=
  ⟨{ timState [] with tb0 := ⟨5, 0, 0⟩, tb1 := ⟨0, 0, 0⟩ }, 327680000000000, by decide +kernel⟩

theorem witness_TheServosFollowTheirSamples_5 : ∃ (s : State) (m : Master) (v : BitVec 64) (sampled : Bool),
    s.serves m (F.TIM_SET.SEC 0).off = true :=
  ⟨timState [], .docentM 0, 0xFFFF000000000007#64, true, by decide +kernel⟩

theorem witness_TheServosFollowTheirSamples_6 : ∃ (s : State) (m : Master) (v : BitVec 64) (sampled : Bool),
    s.serves m (F.TIM_SET.SEC 2).off = true :=
  ⟨timState [], .docentM 0, 7#64, false, by decide +kernel⟩

theorem witness_TheServosFollowTheirSamples_7 : ∃ (s : State) (b : Fin 2),
    ((s.rd (servoField b) = 1 ∨ s.rd (servoField b) = 2)) :=
  ⟨timState [(F.TIM_STATUS.TB1_STATE, 2)], 1, by decide +kernel⟩

theorem witness_TheServosFollowTheirSamples_8 : ∃ (s : State) (m : Master) (n : Fin 3),
    s.silent m = false ∧ s.readable m (F.TIM_TB_SEC.SEC n).off = true :=
  ⟨{ timState [] with tb2 := ⟨77, 88, 0⟩ }, .host, 2, by decide +kernel⟩

theorem witness_EthernetFramesAreStampedAndQueued_1 : ∃ (s : State) (p : Fin 2) (frame : List Byte) (ui a tail : Nat) (step : Int) (st : TimeBase),
    s.rd F.TIM_CFG.PORT_EN / 2 ^ p.val % 2 = 1 ∧ frame.length ≤ 1518 ∧ twoTags frame = false ∧ s.ethAccepts p frame = true ∧ tail = s.rd (F.TIM_ETH_RX.TAIL p) ∧ (tail + 1) % 64 ≠ s.rd (F.TIM_ETH_RX.HEAD p) ∧ a = s.rd (F.TIM_ETH_CFG.RING p) * 131072 + tail * 2048 ∧ st = s.ethStamp ui (-((if p = 0 then s.rd F.TIM_LATENCY.RX0 else s.rd F.TIM_LATENCY.RX1) : Int)) step :=
  ⟨{ timState [(F.TIM_CFG.PORT_EN, 2), (F.TIM_ETH_RX.TAIL 1, 63), (F.TIM_ETH_RX.HEAD 1, 1), (F.TIM_ETH_CFG.RING 1, 3)] with tb0 := ⟨9, 160, 0⟩ }, 1, ethFrame, 0, 522240, 63, 3, ⟨9, 160, 3 * 2 ^ 32⟩, by decide +kernel⟩

theorem witness_EthernetFramesAreStampedAndQueued_2 : ∃ (s : State) (p : Fin 2) (frame : List Byte) (ui : Nat) (step : Int),
    s.rd F.TIM_CFG.PORT_EN / 2 ^ p.val % 2 = 1 ∧ frame.length ≤ 1518 ∧ twoTags frame = false ∧ s.ethAccepts p frame = true ∧ (s.rd (F.TIM_ETH_RX.TAIL p) + 1) % 64 = s.rd (F.TIM_ETH_RX.HEAD p) :=
  ⟨timState [(F.TIM_CFG.PORT_EN, 1), (F.TIM_ETH_RX.TAIL 0, 63)], 0, ethFrame, 3, 0, by decide +kernel⟩

theorem witness_EthernetFramesAreStampedAndQueued_3 : ∃ (s : State) (m : Master) (p : Fin 2) (v : BitVec 64) (n : Nat),
    s.serves m (F.TIM_ETH_TX.ADDR p).off = true ∧ n = v.toNat / 2 ^ 22 % 2 ^ 11 :=
  ⟨timState [], .docentM 0, 1, BitVec.ofNat 64 (14 * 2 ^ 22 + 2 ^ 33 + 9 * 2 ^ 48), 14, by decide +kernel⟩

theorem witness_EthernetFramesAreStampedAndQueued_4 : ∃ (s : State) (p : Fin 2) (ui : Nat) (step : Int) (freed : Bool) (f : TxFrame) (rest : List TxFrame) (b : List Byte) (st : TimeBase),
    s.txQueue p = f :: rest ∧ s.tim.stamps.length < 16 + (if freed then 1 else 0) ∧ b = memRead s.sram f.addr f.len ++ List.replicate (60 - f.len) 0#8 ∧ st = s.ethStamp ui (if p = 0 then s.rd F.TIM_LATENCY.TX0 else s.rd F.TIM_LATENCY.TX1) step :=
  ⟨{ timState [] with tim := { State.reset.tim with tx1 := [⟨64, 20, true, 3⟩] } }, 1, 0, 0, false, ⟨64, 20, true, 3⟩, [], List.replicate 60 0, ⟨0, 0, 0⟩, by decide +kernel⟩

theorem witness_EthernetFramesAreStampedAndQueued_5 : ∃ (s : State) (m : Master) (x : TxStamp) (rest : List TxStamp),
    s.silent m = false ∧ s.readable m F.TIM_TXTS_HI.SEC.off = true ∧ s.tim.stamps = x :: rest ∧ rest.length < 32 :=
  ⟨{ timState [(F.TIM_TXTS_HI.SEC, 7)] with tim := { State.reset.tim with stamps := [⟨7, 1, 2, 0, 3⟩, ⟨8, 1, 2, 0, 3⟩] } }, .docentM 0, ⟨7, 1, 2, 0, 3⟩, [⟨8, 1, 2, 0, 3⟩], by decide +kernel⟩

theorem witness_AuthorityPassesBetweenTwins_1 : ∃ (s : State),
    s.saf.acting = false ∧ s.twn.demand = false :=
  ⟨twinState 4 [], by decide +kernel⟩

theorem witness_AuthorityPassesBetweenTwins_2 : ∃ (s : State) (high : Bool),
    s.saf.acting = true ∧ s.twn.demand = false :=
  ⟨let s := twinState 1 []; { s with saf := { s.saf with acting := true } }, true, by decide +kernel⟩

theorem witness_AuthorityPassesBetweenTwins_3 : ∃ (s : State),
    s.pairRuns = true ∧ s.hasAuth = false ∧ s.bit F.TWN_CFG.MODE = true ∧ s.bit F.TWN_CFG.ROLE = false ∧ s.pairState = 1 ∧ s.twn.demand = false ∧ s.rd F.TIM_CFG.TB1_SOURCE ≠ 1 :=
  ⟨twinState 1 [(F.TWN_STATUS.PEER_AUTH, 1)], by decide +kernel⟩

theorem witness_AuthorityPassesBetweenTwins_4 : ∃ (s : State),
    s.hasAuth = true ∧ s.bit F.TWN_STATUS.PEER_AUTH = true ∧ s.bit F.TWN_CFG.MODE = true ∧ s.bit F.TWN_CFG.ROLE = true ∧ s.aclWaiting = false :=
  ⟨twinState 4 [(F.TWN_STATUS.AUTH, 1), (F.TWN_STATUS.PEER_AUTH, 1), (F.TWN_CFG.ROLE, 1)], by decide +kernel⟩

theorem witness_AuthorityPassesBetweenTwins_5 : ∃ (s : State) (high : Bool),
    ((high = false ∨ s.pairState ≠ 3)) :=
  ⟨twinState 4 [], true, by decide +kernel⟩

theorem witness_AuthorityPassesBetweenTwins_6 : ∃ (s : State),
    s.pairState = 3 ∧ s.pairRuns = true ∧ s.twn.peerLow = true ∧ s.hasAuth = false ∧ s.bit F.TWN_CFG.MODE = true ∧ s.curLeaf = none ∧ s.twn.ownEnd = none ∧ s.rd F.TIM_CFG.TB1_SOURCE ≠ 1 :=
  ⟨twinWith 3 [] (fun x => { x with peerLow := true }), by decide +kernel⟩

theorem witness_AuthorityPassesBetweenTwins_7 : ∃ (s : State),
    s.pairState = 3 ∧ s.pairRuns = true ∧ s.twn.peerLow = false :=
  ⟨twinWith 3 [] (fun x => { x with peerLow := false }), by decide +kernel⟩

theorem witness_AuthorityPassesBetweenTwins_8 : ∃ (s : State),
    s.pairRuns = true ∧ s.twn.peerLow = true ∧ s.hasAuth = false ∧ s.bit F.TWN_CFG.MODE = true ∧ s.pairState = 1 ∧ s.rd F.TIM_CFG.TB1_SOURCE ≠ 1 :=
  ⟨twinWith 1 [(F.TWN_CFG.ROLE, 1)] (fun x => { x with peerLow := true }), by decide +kernel⟩

theorem witness_AuthorityPassesBetweenTwins_9 : ∃ (s : State),
    s.bit F.TWN_CFG.MODE = true ∧ s.twn.alive = true ∧ s.pairState = 4 :=
  ⟨twinWith 4 [(F.TWN_STATUS.AUTH, 1)] (fun x => { x with alive := true }), by decide +kernel⟩

theorem witness_AuthorityPassesBetweenTwins_10 : ∃ (s : State),
    s.bit F.TWN_CFG.MODE = true ∧ s.twn.alive = true ∧ s.pairState = 3 ∧ s.pairRuns = true ∧ s.bit F.TWN_STATUS.PEER_AUTH = false ∧ s.twn.peerLow = false :=
  ⟨twinWith 3 [] (fun x => { x with alive := true, peerLow := false }), by decide +kernel⟩

theorem witness_AuthorityPassesBetweenTwins_11 : ∃ (s : State) (b : IklBlock),
    b.sync.val = 1 ∧ iklGood 0x51 0 (iklPlain b) = true ∧ s.pairState = 3 ∧ s.twn.peerLow = false :=
  ⟨twinWith 3 [] (fun x => { x with peerLow := false }), twinBlock 0x51 0 (leBytes 2 77), by decide +kernel⟩

theorem witness_AuthorityPassesBetweenTwins_12 : ∃ (s : State) (m : Master),
    s.serves m F.TWN_CTL.YIELD.off = true ∧ s.pairState = 4 ∧ s.rd F.TWN_PEER_POS.STATE = 3 ∧ s.twn.peerDiverged = false :=
  ⟨twinState 4 [(F.TWN_PEER_POS.STATE, 3)], .keeper, by decide +kernel⟩

theorem witness_TwinMessagesAreSentAndTaken_1 : ∃ (s : State),
    s.bit F.TWN_CFG.MODE = true ∧ s.rd F.IKL_STATUS.STATE = 3 ∧ s.twn.beat = true :=
  ⟨twinWith 4 [] (fun x => { x with beat := true }), by decide +kernel⟩

theorem witness_TwinMessagesAreSentAndTaken_2 : ∃ (s : State),
    s.bit F.TWN_CFG.MODE = true ∧ s.rd F.IKL_STATUS.STATE = 3 ∧ s.twn.beat = false ∧ (s.bucket 15 0).2 = false :=
  ⟨twinWith 4 [(F.SAF_BUCKET.N 15, 3)] (fun x => { x with beat := false }), by decide +kernel⟩

theorem witness_TwinMessagesAreSentAndTaken_3 : ∃ (s : State) (b : IklBlock) (head : List Byte),
    b.sync.val = 1 ∧ head = iklPlain b ∧ iklGood 0x11 0 head = true ∧ s.paired = false :=
  ⟨twinState 2 [], twinBlock 0x11 0 ([3, 6] ++ leBytes 2 7 ++ leBytes 4 500 ++ leBytes 4 490), [0x11, 0, 3, 6] ++ leBytes 2 7 ++ leBytes 4 500 ++ leBytes 4 490 ++ leBytes 2 (crc16 ([0x11, 0, 3, 6] ++ leBytes 2 7 ++ leBytes 4 500 ++ leBytes 4 490)), by decide +kernel⟩

theorem witness_TwinMessagesAreSentAndTaken_4 : ∃ (s : State) (b : IklBlock) (head : List Byte),
    b.sync.val = 1 ∧ head = iklPlain b ∧ iklGood 0x11 0 head = true ∧ s.pairState = 4 ∧ fieldAt head 4 2 ≠ s.position.1 :=
  ⟨twinState 4 [], twinBlock 0x11 0 ([3, 6] ++ leBytes 2 7), [0x11, 0, 3, 6] ++ leBytes 2 7 ++ List.replicate 8 0 ++ leBytes 2 (crc16 ([0x11, 0, 3, 6] ++ leBytes 2 7 ++ List.replicate 8 0)), by decide +kernel⟩

theorem witness_TwinMessagesAreSentAndTaken_5 : ∃ (s : State),
    s.bit F.TWN_CFG.MODE = true ∧ ((s.bit F.TWN_PEER.AGREED = false ∨ s.ikl.hello ≠ s.helloBytes)) ∧ s.rd F.IKL_STATUS.STATE = 3 :=
  ⟨twinState 1 [], by decide +kernel⟩

theorem witness_TwinMessagesAreSentAndTaken_6 : ∃ (s : State) (b : IklBlock) (head : List Byte),
    b.sync.val = 1 ∧ head = iklPlain b ∧ iklGood 0x10 0 head = true ∧ s.helloAgrees head = true :=
  ⟨twinState 1 [], twinBlock 0x10 0 ([1, 1] ++ leBytes 2 9 ++ [1, 0]), [0x10, 0, 1, 1] ++ leBytes 2 9 ++ [1] ++ List.replicate 7 0 ++ leBytes 2 (crc16 ([0x10, 0, 1, 1] ++ leBytes 2 9 ++ [1] ++ List.replicate 7 0)), by decide +kernel⟩

theorem witness_TwinMessagesAreSentAndTaken_7 : ∃ (s : State) (b : IklBlock) (head : List Byte),
    b.sync.val = 1 ∧ head = iklPlain b ∧ iklGood 0x10 0 head = true ∧ s.helloAgrees head = false ∧ s.paired = false :=
  ⟨twinState 1 [], twinBlock 0x10 0 [], [0x10] ++ List.replicate 13 0 ++ leBytes 2 (crc16 ([0x10] ++ List.replicate 13 0)), by decide +kernel⟩

theorem witness_TwinMessagesAreSentAndTaken_8 : ∃ (s : State) (b : IklBlock) (head : List Byte) (d : TwinDigest),
    b.sync.val = 1 ∧ head = iklPlain b ∧ iklGood 0x20 0 head = true ∧ d = ⟨fieldAt head 2 2, signed 32 (fieldAt head 4 4), fieldAt head 8 1, fieldAt head 9 1, fieldAt head 10 4⟩ ∧ s.digestWanted d.leaf = true ∧ ((∀ p, p < 2 → (s.leafAt p).all (fun l => l.id ≠ d.leaf || (l.ras.tileAt d.row d.col).isNone) = true)) :=
  ⟨rasState rasReady [], twinBlock 0x20 0 (leBytes 2 7 ++ leBytes 4 5 ++ [33, 0] ++ leBytes 4 0x12345678), [0x20, 0] ++ leBytes 2 7 ++ leBytes 4 5 ++ [33, 0] ++ leBytes 4 0x12345678 ++ leBytes 2 (crc16 ([0x20, 0] ++ leBytes 2 7 ++ leBytes 4 5 ++ [33, 0] ++ leBytes 4 0x12345678)), ⟨7, 5, 33, 0, 0x12345678⟩, by decide +kernel⟩

theorem witness_TwinMessagesAreSentAndTaken_9 : ∃ (s : State) (b : IklBlock) (head : List Byte) (leaf : Nat),
    b.sync.val = 1 ∧ head = iklPlain b ∧ iklGood 0x30 0 head = true ∧ leaf = fieldAt head 2 2 ∧ s.hasAuth = false ∧ ([0, 1] : List Nat).all (fun p => !(s.leafAt p).any (fun l => l.admitted && l.id = leaf)) = true :=
  ⟨twinState 3 [], twinBlock 0x30 0 (leBytes 2 7 ++ leBytes 4 0x1234), [0x30, 0] ++ leBytes 2 7 ++ leBytes 4 0x1234 ++ List.replicate 6 0 ++ leBytes 2 (crc16 ([0x30, 0] ++ leBytes 2 7 ++ leBytes 4 0x1234 ++ List.replicate 6 0)), 7, by decide +kernel⟩

theorem witness_TwinMessagesAreSentAndTaken_10 : ∃ (s : State) (b : IklBlock) (head : List Byte),
    b.sync.val = 1 ∧ head = iklPlain b ∧ iklGood 0x31 0 head = true ∧ s.twn.ownResult = none :=
  ⟨twinState 3 [], twinBlock 0x31 0 (leBytes 2 7), [0x31, 0] ++ leBytes 2 7 ++ List.replicate 10 0 ++ leBytes 2 (crc16 ([0x31, 0] ++ leBytes 2 7 ++ List.replicate 10 0)), by decide +kernel⟩

theorem witness_TwinMessagesAreSentAndTaken_11 : ∃ (s : State) (b : IklBlock) (head : List Byte) (own : Nat × Nat),
    b.sync.val = 1 ∧ head = iklPlain b ∧ iklGood 0x31 0 head = true ∧ s.twn.ownResult = some (fieldAt head 2 2, own) ∧ own ≠ (fieldAt head 4 1, fieldAt head 6 4) ∧ s.pairState = 3 ∧ s.curLeaf = none :=
  ⟨twinWith 3 [] (fun x => { x with ownResult := some (7, 1, 0), mirroring := some 7 }), twinBlock 0x31 0 (leBytes 2 7), [0x31, 0] ++ leBytes 2 7 ++ List.replicate 10 0 ++ leBytes 2 (crc16 ([0x31, 0] ++ leBytes 2 7 ++ List.replicate 10 0)), (1, 0), by decide +kernel⟩

theorem witness_TwinMessagesAreSentAndTaken_12 : ∃ (s : State) (b : IklBlock) (body : List Byte) (off : Nat),
    b.sync.val = 1 ∧ iklGood 0x32 4 (iklPlain b) = true ∧ off = fieldAt (iklPlain b) 2 4 ∧ s.hasAuth = false ∧ off % 64 = 0 ∧ off < stageLen ∧ (iklFollow b body).length = 64 ∧ s.ddrErr = [] ∧ s.mem.remaps = [] :=
  ⟨twinState 3 [(F.MEM_STATUS.FULL_MAP, 1)], twinBlock 0x32 4 (leBytes 4 128), twinBody (List.replicate 64 9), 128, by decide +kernel⟩

theorem witness_TwinMessagesAreSentAndTaken_13 : ∃ (s : State) (b : IklBlock) (body rec : List Byte),
    b.sync.val = 1 ∧ iklGood 0x40 2 (iklPlain b) = true ∧ fieldAt (iklPlain b) 2 2 = 1 ∧ rec = iklFollow b body ∧ rec.length = 32 ∧ fieldAt rec 28 4 = crc32c (rec.take 28) :=
  ⟨twinState 3 [], twinBlock 0x40 2 (leBytes 2 1), twinBody twinLacuna, twinLacuna, by decide +kernel⟩

theorem witness_TwinMessagesAreSentAndTaken_14 : ∃ (s : State) (b : IklBlock) (body rec : List Byte),
    b.sync.val = 1 ∧ iklGood 0x40 2 (iklPlain b) = true ∧ fieldAt (iklPlain b) 2 2 = 2 ∧ rec = iklFollow b body ∧ rec.length = 32 ∧ fieldAt rec 28 4 = crc32c (rec.take 28) ∧ s.aclWaiting = false :=
  ⟨twinState 3 [], twinBlock 0x40 2 (leBytes 2 2), twinBody twinLacuna, twinLacuna, by decide +kernel⟩

theorem witness_TwinMessagesAreSentAndTaken_15 : ∃ (s : State) (b : IklBlock),
    b.sync.val = 1 ∧ iklGood 0x50 0 (iklPlain b) = true ∧ s.hasAuth = false ∧ s.twn.endWait = some (fieldAt (iklPlain b) 2 2) :=
  ⟨twinWith 3 [] (fun x => { x with endWait := some 7, ownEnd := some (7, 9, 5) }), twinBlock 0x50 0 (leBytes 2 7), by decide +kernel⟩

theorem witness_TwinMessagesAreSentAndTaken_16 : ∃ (s : State) (b : IklBlock) (head : List Byte) (p : Nat) (l : Leaf) (h : LeafHdr) (first : Nat),
    b.sync.val = 1 ∧ head = iklPlain b ∧ iklGood 0x50 0 head = true ∧ s.hasAuth = false ∧ s.twn.endWait ≠ some l.id ∧ s.curLeaf = some (p, l, h) ∧ fieldAt head 2 2 = l.id ∧ fieldAt head 4 4 = first ∧ first ≤ hdrLast h ∧ ((s.rd F.SLT_STATUS.STATE = 2 ∨ s.rd F.SLT_STATUS.STATE = 3 ∨ (s.rd F.SLT_STATUS.STATE = 4 ∧ fieldAt head 9 1 ≠ 0))) ∧ s.slt.lbDue = false ∧ s.lac.openRel = none ∧ s.aclWaiting = false :=
  ⟨sltState 2 3 5 [(F.TWN_CFG.MODE, 1), (F.TWN_STATUS.STATE, 3)], twinBlock 0x50 0 (leBytes 2 7 ++ leBytes 4 6 ++ [10, 0]), [0x50, 0] ++ leBytes 2 7 ++ leBytes 4 6 ++ [10, 0] ++ List.replicate 4 0 ++ leBytes 2 (crc16 ([0x50, 0] ++ leBytes 2 7 ++ leBytes 4 6 ++ [10, 0] ++ List.replicate 4 0)), 0, sltLeaf, someHdr, 6, by decide +kernel⟩

theorem witness_TwinMessagesAreSentAndTaken_17 : ∃ (s : State) (b : IklBlock) (head : List Byte) (p : Fin 2) (l : Leaf) (h : LeafHdr),
    b.sync.val = 1 ∧ head = iklPlain b ∧ iklGood 0x50 0 head = true ∧ s.hasAuth = false ∧ s.twn.endWait ≠ some l.id ∧ s.curLeaf = some (p.val, l, h) ∧ fieldAt head 2 2 = l.id ∧ s.rd F.SLT_STATUS.STATE = 1 ∧ s.slt.lbDue = false :=
  ⟨sltState 1 (-3) (-1) [(F.TWN_CFG.MODE, 1), (F.TWN_STATUS.STATE, 3)], twinBlock 0x50 0 (leBytes 2 7 ++ leBytes 4 6 ++ [10, 0]), [0x50, 0] ++ leBytes 2 7 ++ leBytes 4 6 ++ [10, 0] ++ List.replicate 4 0 ++ leBytes 2 (crc16 ([0x50, 0] ++ leBytes 2 7 ++ leBytes 4 6 ++ [10, 0] ++ List.replicate 4 0)), 0, sltLeaf, someHdr, by decide +kernel⟩

theorem witness_TwinMessagesAreSentAndTaken_18 : ∃ (s : State) (leaf : Nat),
    s.twn.endWait = some leaf ∧ s.pairState = 3 ∧ s.bit F.TWN_STATUS.DIVERGED = false :=
  ⟨twinWith 3 [] (fun x => { x with endWait := some 7 }), 7, by decide +kernel⟩

theorem witness_TheTimeExchangeOfAPairRuns_1 : ∃ (s : State),
    s.bit F.TWN_CFG.MODE = true ∧ s.bit F.TWN_CFG.ROLE = false ∧ s.rd F.TIM_CFG.TB1_SOURCE = 1 ∧ s.rd F.IKL_STATUS.STATE = 3 :=
  ⟨twinState 4 [(F.TIM_CFG.TB1_SOURCE, 1)], by decide +kernel⟩

theorem witness_TheTimeExchangeOfAPairRuns_2 : ∃ (s : State) (b : IklBlock) (head : List Byte),
    b.sync.val = 1 ∧ head = iklPlain b ∧ iklGood 0x12 0 head = true ∧ s.bit F.TWN_CFG.ROLE = true :=
  ⟨twinState 3 [(F.TWN_CFG.ROLE, 1)], twinBlock 0x12 0 (leBytes 2 5), [0x12, 0] ++ leBytes 2 5 ++ List.replicate 10 0 ++ leBytes 2 (crc16 ([0x12, 0] ++ leBytes 2 5 ++ List.replicate 10 0)), by decide +kernel⟩

theorem witness_TheTimeExchangeOfAPairRuns_3 : ∃ (s : State) (b : IklBlock),
    b.sync.val = 1 ∧ iklGood 0x13 0 (iklPlain b) = true ∧ s.bit F.TWN_CFG.ROLE = false :=
  ⟨twinState 4 [], twinBlock 0x13 0 (leBytes 2 5), by decide +kernel⟩

theorem witness_TheTimeExchangeOfAPairRuns_4 : ∃ (s : State) (b : IklBlock) (head : List Byte) (n t1 t2 t3 : Nat) (o : Int),
    b.sync.val = 1 ∧ head = iklPlain b ∧ iklGood 0x14 0 head = true ∧ s.twn.exchange = some (n, t1, t2, t3) ∧ n = fieldAt head 2 2 ∧ o = (q16Diff t1 t2 + q16Diff (fieldAt head 4 8) t3) / 2 + s.rdInt F.TIM_CFG.IKL_ASYM * 4096 ∧ s.rd F.TIM_CFG.TB1_SOURCE = 1 ∧ s.bit F.TIM_STATUS.TB1_ON_TB0 = false ∧ s.twn.tb1Held = false ∧ (s.rd (F.TIM_SERVO.STEP_NS 1) : Int) * 2 ^ 16 ≤ o.natAbs ∧ s.rd F.SLT_STATUS.STATE = 0 :=
  ⟨let s := twinWith 3 [(F.TWN_CFG.ROLE, 1), (F.TIM_CFG.TB1_SOURCE, 1), (F.TIM_SERVO.STEP_NS 1, 1)] (fun x => { x with exchange := some (5, 0, 0, 0) }); s, twinBlock 0x14 0 (leBytes 2 5 ++ leBytes 8 (64 * 2 ^ 16)), [0x14, 0] ++ leBytes 2 5 ++ leBytes 8 (64 * 2 ^ 16) ++ List.replicate 2 0 ++ leBytes 2 (crc16 ([0x14, 0] ++ leBytes 2 5 ++ leBytes 8 (64 * 2 ^ 16) ++ List.replicate 2 0)), 5, 0, 0, 0, 2097152, by decide +kernel⟩

theorem witness_TheIkisalLinkMovesBetweenItsStates_1 : ∃ (s : State) (m : Master),
    s.serves m F.IKL_CTL.ENABLE.off = true ∧ s.rd F.IKL_STATUS.STATE = 0 :=
  ⟨twinState 0 [(F.IKL_STATUS.STATE, 0)], .keeper, by decide +kernel⟩

theorem witness_TheIkisalLinkMovesBetweenItsStates_2 : ∃ (s : State) (m : Master),
    s.serves m F.IKL_CTL.ENABLE.off = true ∧ s.rd F.IKL_STATUS.STATE = 6 :=
  ⟨twinState 0 [(F.IKL_STATUS.STATE, 6)], .keeper, by decide +kernel⟩

theorem witness_TheIkisalLinkMovesBetweenItsStates_3 : ∃ (s : State) (m : Master),
    s.serves m F.IKL_CTL.ENABLE.off = true ∧ s.rd F.IKL_STATUS.STATE ≠ 0 ∧ s.rd F.IKL_STATUS.STATE ≠ 6 :=
  ⟨twinState 0 [(F.IKL_CTL.ENABLE, 1)], .keeper, by decide +kernel⟩

theorem witness_TheIkisalLinkMovesBetweenItsStates_4 : ∃ (s : State) (m : Master),
    s.serves m F.IKL_CTL.ENABLE.off = true ∧ ((s.rd F.IKL_STATUS.STATE = 0 ∨ s.rd F.IKL_STATUS.STATE = 6)) :=
  ⟨twinState 0 [(F.IKL_STATUS.STATE, 6), (F.IKL_STATUS.PENDING_ENABLE, 1)], .keeper, by decide +kernel⟩

theorem witness_TheIkisalLinkMovesBetweenItsStates_5 : ∃ (s : State) (m : Master) (r : Nat),
    s.serves m F.IKL_CTL.STEP_UP.off = true ∧ s.paired = false ∧ s.rd F.IKL_STATUS.STATE = 3 ∧ s.iklNextRate = some r :=
  ⟨let s := twinState 2 [(F.BLK_IKL_CFG.MAX_RATE, 2)]; { s with ikl := { s.ikl with peerMax := 2 } }, .keeper, 1, by decide +kernel⟩

theorem witness_TheIkisalLinkMovesBetweenItsStates_6 : ∃ (s : State) (m : Master),
    s.serves m F.IKL_CTL.RETRAIN.off = true ∧ s.rd F.IKL_STATUS.STATE = 3 :=
  ⟨twinState 2 [], .keeper, by decide +kernel⟩

theorem witness_TheIkisalLinkMovesBetweenItsStates_7 : ∃ (s : State) (am : BitVec 8) (ts : List (List Byte)),
    s.rd F.IKL_STATUS.STATE = 1 ∧ tsAll ts = true :=
  ⟨twinState 0 [(F.IKL_STATUS.STATE, 1)], 0#8, twinTs 1 0, by decide +kernel⟩

theorem witness_TheIkisalLinkMovesBetweenItsStates_8 : ∃ (s : State) (lock : BitVec 8) (ts : List (List Byte)),
    s.rd F.IKL_STATUS.STATE = 2 ∧ tsAll ts = true ∧ fieldAt (ts.headD []) 4 1 = 3 ∧ s.ikl.autoStep = false ∧ s.mode ≠ 1 :=
  ⟨twinState 0 [(F.IKL_STATUS.STATE, 2)], 255#8, twinTs 3 0, by decide +kernel⟩

theorem witness_TheIkisalLinkMovesBetweenItsStates_9 : ∃ (s : State) (lock am : BitVec 8) (ts : List (List Byte)),
    s.rd F.IKL_STATUS.STATE = 3 ∧ lock ≠ BitVec.allOnes 8 :=
  ⟨twinState 2 [], 0xFE#8, 0#8, [], by decide +kernel⟩

theorem witness_TheIkisalLinkMovesBetweenItsStates_10 : ∃ (s : State),
    s.rd F.IKL_STATUS.STATE = 2 ∧ s.ikl.alignFrom = 0 :=
  ⟨twinState 0 [(F.IKL_STATUS.STATE, 2), (F.IKL_STATUS.RATE, 1)], by decide +kernel⟩

theorem witness_TheIkisalLinkMovesBetweenItsStates_11 : ∃ (s : State),
    s.rd F.IKL_STATUS.STATE = 2 ∧ s.ikl.alignFrom = 1 ∧ s.rd F.IKL_STATUS.RATE < 3 :=
  ⟨let s := twinState 0 [(F.IKL_STATUS.STATE, 2), (F.IKL_STATUS.RATE, 2)]; { s with ikl := { s.ikl with alignFrom := 1, prevRate := 1 } }, by decide +kernel⟩

theorem witness_TheIkisalLinkMovesBetweenItsStates_12 : ∃ (s : State) (lock : BitVec 8),
    s.rd F.IKL_STATUS.STATE = 3 :=
  ⟨twinState 2 [], 254#8, by decide +kernel⟩

theorem witness_TheIkisalLinkMovesBetweenItsStates_13 : ∃ (s : State) (r : Nat),
    s.rd F.IKL_STATUS.STATE = 4 ∧ s.ikl.switching = true ∧ s.iklNextRate = some r :=
  ⟨let s := twinState 2 [(F.IKL_STATUS.STATE, 4), (F.BLK_IKL_CFG.MAX_RATE, 2)]; { s with ikl := { s.ikl with peerMax := 2, switching := true } }, 1, by decide +kernel⟩

theorem witness_TheIkisalLinkMovesBetweenItsStates_14 : ∃ (s : State),
    s.rd F.IKL_STATUS.STATE = 6 ∧ s.bit F.IKL_STATUS.PENDING_ENABLE = false :=
  ⟨twinState 0 [(F.IKL_STATUS.STATE, 6)], by decide +kernel⟩

theorem witness_TheDeviceStartsAndStops_2 : ∃ (s : State),
    s.pin.supplyOut = 0 :=
  ⟨inMode 0 [], by decide +kernel⟩

theorem witness_TheDeviceStartsAndStops_3 : ∃ (s : State) (role flash : Bool),
    s.mode = 0 ∧ s.pin.resetN = false ∧ s.boot.powerGood = true :=
  ⟨let s := inMode 0 []; { s with pin := { s.pin with resetN := false }, boot := { s.boot with powerGood := true, powerLost := false } }, true, false, by decide +kernel⟩

theorem witness_TheDeviceStartsAndStops_4 : ∃ (s : State) (role flash : Bool),
    s.mode = 0 ∧ s.pin.resetN = false ∧ s.boot.powerGood = true :=
  ⟨let s := inMode 0 []; { s with pin := { s.pin with resetN := false }, boot := { s.boot with powerGood := true } }, true, false, by decide +kernel⟩

theorem witness_TheDeviceStartsAndStops_5 : ∃ (s : State),
    s.stepRuns 1 = true :=
  ⟨bootAt 1 [], by decide +kernel⟩

theorem witness_TheDeviceStartsAndStops_6 : ∃ (s : State),
    s.stepRuns 2 = true ∧ s.boot.mramFitted = true ∧ s.boot.aonLost = false ∧ s.aclWaiting = false :=
  ⟨bootAt 2 [], by decide +kernel⟩

theorem witness_TheDeviceStartsAndStops_7 : ∃ (s : State),
    s.stepRuns 3 = true :=
  ⟨bootAt 3 [], by decide +kernel⟩

theorem witness_TheDeviceStartsAndStops_8 : ∃ (s : State),
    s.stepRuns 4 = true ∧ s.rd F.BOOT_FUSE.KEY_SET = 0 ∧ s.bit F.BOOT_STATUS.QUIESCED = false :=
  ⟨bootAt 4 [], by decide +kernel⟩

theorem witness_TheDeviceStartsAndStops_9 : ∃ (s : State),
    s.stepRuns 7 = true :=
  ⟨bootAt 9 [], by decide +kernel⟩

theorem witness_TheDeviceStartsAndStops_10 : ∃ (s : State),
    s.stepRuns 9 = true ∧ s.linkActive = true :=
  ⟨bootAt 9 [(F.BLK_STATUS.STATE, 0x4444)], by decide +kernel⟩

theorem witness_TheDeviceStartsAndStops_11 : ∃ (s : State),
    s.stepRuns 9 = true ∧ s.plateFault = false ∧ s.rd F.BOOT_CFG.PLATE_WAIT = 0 :=
  ⟨bootAt 9 [(F.BOOT_CFG.PLATE_WAIT, 0)], by decide +kernel⟩

theorem witness_TheDeviceStartsAndStops_12 : ∃ (s : State),
    s.stepRuns 3 = true ∧ s.boot.attempts = [] ∧ s.boot.aonLost = false ∧ s.pin.testLevel = true ∧ s.bit F.BOOT_STATUS.QUIESCED = false :=
  ⟨bootAt 3 [], by decide +kernel⟩

theorem witness_TheDeviceStartsAndStops_13 : ∃ (s : State) (r t0 : Nat),
    s.boot.attempts = [(r, t0)] ∧ s.boot.aonSec < t0 + 600 :=
  ⟨let s := inMode 2 [(F.BOOT_REASON.ATTEMPTS, 1)]; { s with boot := { s.boot with attempts := [(7, 3)], aonSec := 400 } }, 7, 3, by decide +kernel⟩

theorem witness_TheDeviceStartsAndStops_14 : ∃ (s : State),
    s.previewReady = true ∧ s.bit F.TWN_CFG.MODE = false ∧ s.twn.peerLow = true ∧ s.hasAuth = false :=
  ⟨previewWaits, by decide +kernel⟩

theorem witness_TheDeviceStartsAndStops_15 : ∃ (s : State),
    s.mode = 2 ∧ s.runWait = 0 ∧ s.saf.acting = false ∧ s.boot.quiescing = false :=
  ⟨runWaits, by decide +kernel⟩

theorem witness_TheDeviceStartsAndStops_16 : ∃ (s : State) (m : Master),
    s.serves m F.BOOT_CTL.QUIESCE.off = true ∧ s.rd F.SLT_STATUS.STATE = 0 ∧ s.rd F.AXM_STATUS.STATE < 3 ∧ s.bit F.AXM_STATUS.PENDING_ENABLE = false :=
  ⟨inMode 3 [(F.AXM_CTL.ENABLE, 1)], .host, by decide +kernel⟩

theorem witness_TheDeviceStartsAndStops_17 : ∃ (s : State),
    s.boot.quiescing = true ∧ s.rd F.SLT_STATUS.STATE = 0 ∧ s.bit F.BOOT_STATUS.QUIESCED = false ∧ s.bit F.BOOT_STATUS.MRAM_ABSENT = true ∧ s.mem.ch.length = 6 ∧ s.mem.ch.all (fun m => m.ports.isEmpty && m.queue.isEmpty) = true :=
  ⟨let s := memState [(F.BOOT_STATUS.MRAM_ABSENT, 1)] id; { s with boot := { s.boot with quiescing := true } }, by decide +kernel⟩

theorem witness_TheDeviceStartsAndStops_18 : ∃ (s : State) (m : Master),
    s.serves m F.BOOT_CTL.RESTART.off = true ∧ s.mode = 4 ∧ s.saf.acting = false ∧ s.bit F.BOOT_STATUS.QUIESCED = false ∧ s.pin.testLevel = true :=
  ⟨inMode 4 [(F.BOOT_STATUS.MRAM_ABSENT, 1)], .host, by decide +kernel⟩

theorem witness_TheDeviceStartsAndStops_19 : ∃ (s : State) (m : Master),
    s.serves m F.BOOT_CTL.CLEAR_ATTEMPTS.off = true ∧ s.mode = 4 :=
  ⟨let s := inMode 4 []; { s with boot := { s.boot with attempts := [(7, 3)], aonSec := 400 } }, .host, by decide +kernel⟩

theorem witness_TheDeviceStartsAndStops_20 : ∃ (s : State),
    s.mode = 5 ∧ s.bit F.BOOT_CFG.SAFE_RESTART = true ∧ s.boot.attempts = [(0xC, s.boot.aonSec)] ∧ s.boot.lastFail = 0xC ∧ s.pin.testLevel = true :=
  ⟨let s := inMode 5 [(F.BOOT_CFG.SAFE_RESTART, 1)]; { s with boot := { s.boot with attempts := [(0xC, s.boot.aonSec)], lastFail := 0xC } }, by decide +kernel⟩

theorem witness_TheDeviceStartsAndStops_21 : ∃ (s : State) (high : Bool),
    ((s.mode ≠ 0 ∨ s.pin.testState = true)) ∧ s.bit F.PAD_STRAPS.LIVE_ROLE ≠ high :=
  ⟨inMode 2 [], true, by decide +kernel⟩

theorem witness_TheDeviceStartsAndStops_22 : ∃ (s : State) (high : Bool),
    ((s.mode ≠ 0 ∨ s.pin.testState = true)) ∧ s.pin.testLevel ≠ high :=
  ⟨inMode 2 [], false, by decide +kernel⟩

theorem witness_FusesAndTheCatalogueFlashAreWritten_1 : ∃ (s : State) (m : Master) (h : HalfWrite) (v : Word) (slot : Nat),
    s.serves m F.BOOT_FUSE_PROG.SLOT.off = true ∧ v = halfOver h (s.halfReg F.BOOT_FUSE_PROG.SLOT.off) ∧ (h.wide || h.upper) = true ∧ slot = F.BOOT_FUSE_PROG.SLOT.get v ∧ F.BOOT_FUSE_PROG.PROGRAM.get v = 1 ∧ s.mode = 4 ∧ s.keySet slot = false ∧ s.boot.fuseBusy = none :=
  ⟨inMode 4 [(F.BOOT_FUSE_DATA.HASH 3, 9)], .host, ⟨true, true, F.BOOT_FUSE_PROG.PROGRAM.put 2#64 1⟩, F.BOOT_FUSE_PROG.PROGRAM.put 2#64 1, 2, by decide +kernel⟩

theorem witness_FusesAndTheCatalogueFlashAreWritten_2 : ∃ (s : State) (m : Master) (h : HalfWrite) (v : Word) (slot : Nat),
    s.serves m F.BOOT_FUSE_PROG.SLOT.off = true ∧ v = halfOver h (s.halfReg F.BOOT_FUSE_PROG.SLOT.off) ∧ (h.wide || h.upper) = true ∧ slot = F.BOOT_FUSE_PROG.SLOT.get v ∧ F.BOOT_FUSE_PROG.REVOKE.get v = 1 ∧ s.mode = 4 ∧ s.keySet slot = true ∧ s.keysValid.any (fun n => n ≠ slot) = true ∧ s.boot.fuseBusy = none :=
  ⟨inMode 4 [(F.BOOT_FUSE.KEY_SET, 3)], .host, ⟨true, true, F.BOOT_FUSE_PROG.REVOKE.put 1#64 1⟩, F.BOOT_FUSE_PROG.REVOKE.put 1#64 1, 1, by decide +kernel⟩

theorem witness_FusesAndTheCatalogueFlashAreWritten_3 : ∃ (s : State) (m : Master) (x : Word),
    s.serves m F.BOOT_FUSE_PROG.SLOT.off = true :=
  ⟨inMode 4 [], .host, 0xF00000003#64, by decide +kernel⟩

theorem witness_FusesAndTheCatalogueFlashAreWritten_4 : ∃ (s : State) (n hash : Nat),
    s.boot.fuseBusy = some (n, false, hash) ∧ n < 4 :=
  ⟨fusing 2 false 77, 2, 77, by decide +kernel⟩

theorem witness_FusesAndTheCatalogueFlashAreWritten_5 : ∃ (s : State) (n hash : Nat),
    s.boot.fuseBusy = some (n, true, hash) ∧ n < 4 :=
  ⟨fusing 3 true 77, 3, 77, by decide +kernel⟩

theorem witness_FusesAndTheCatalogueFlashAreWritten_6 : ∃ (s : State) (m : Master),
    s.serves m F.BOOT_FLASH_CMD.OP.off = true ∧ s.flashRefuses 1 65536 = none :=
  ⟨inMode 4 [(F.BOOT_FLASH_ADDR.ADDR, 65536)], .host, by decide +kernel⟩

theorem witness_FusesAndTheCatalogueFlashAreWritten_7 : ∃ (s : State) (m : Master) (len : BitVec 13),
    s.serves m F.BOOT_FLASH_CMD.OP.off = true ∧ s.flashRefuses 2 len.toNat = none :=
  ⟨inMode 4 [(F.BOOT_FLASH_ADDR.ADDR, 77)], .host, 4096#13, by decide +kernel⟩

theorem witness_FusesAndTheCatalogueFlashAreWritten_8 : ∃ (s : State) (m : Master) (len : BitVec 13),
    s.serves m F.BOOT_FLASH_CMD.OP.off = true ∧ s.flashRefuses 3 len.toNat = none :=
  ⟨inMode 4 [(F.BOOT_FLASH_ADDR.ADDR, 77)], .host, 1#13, by decide +kernel⟩

theorem witness_FusesAndTheCatalogueFlashAreWritten_9 : ∃ (s : State) (m : Master) (len : BitVec 13),
    s.serves m F.BOOT_FLASH_CMD.OP.off = true ∧ s.boot.flashBusy.isSome = true :=
  ⟨flashing 1 0 65536, .host, 1#13, by decide +kernel⟩

theorem witness_FusesAndTheCatalogueFlashAreWritten_10 : ∃ (s : State) (a n : Nat),
    s.boot.flashBusy = some (1, a, n) :=
  ⟨flashing 1 65536 16, 65536, 16, by decide +kernel⟩

theorem witness_FusesAndTheCatalogueFlashAreWritten_11 : ∃ (s : State) (a n : Nat),
    s.boot.flashBusy = some (2, a, n) :=
  ⟨flashing 2 77 3, 77, 3, by decide +kernel⟩

theorem witness_FusesAndTheCatalogueFlashAreWritten_12 : ∃ (s : State) (a n : Nat),
    s.boot.flashBusy = some (3, a, n) :=
  ⟨flashing 3 77 3, 77, 3, by decide +kernel⟩

theorem witness_FusesAndTheCatalogueFlashAreWritten_13 : ∃ (s : State) (a n : Nat),
    s.boot.flashBusy = some (3, a, n) :=
  ⟨flashing 3 77 3, 77, 3, by decide +kernel⟩

theorem witness_TheGuardActsOnItsCauses_1 : ∃ (s : State),
    s.mode ≠ 0 ∧ s.saf.acting = false :=
  ⟨inMode 3 [], by decide +kernel⟩

theorem witness_TheGuardActsOnItsCauses_2 : ∃ (s : State),
    s.mode ≠ 0 ∧ s.saf.acting = false ∧ s.saf.wdogOn = true :=
  ⟨let s := inMode 3 []; { s with saf := { s.saf with wdogOn := true } }, by decide +kernel⟩

theorem witness_TheGuardActsOnItsCauses_3 : ∃ (s : State),
    s.saf.wdogOn = false :=
  ⟨inMode 3 [], by decide +kernel⟩

theorem witness_TheGuardActsOnItsCauses_4 : ∃ (s : State) (m : Master) (v : BitVec 32),
    s.serves m F.SAF_WDOG.KICK.off = true ∧ s.saf.wdogOn = true ∧ v.toNat % 65536 = s.saf.wdogNext :=
  ⟨let s := inMode 3 []; { s with saf := { s.saf with wdogOn := true, wdogNext := 0x5A5A } }, .keeper, 0x5A5A#32, by decide +kernel⟩

theorem witness_TheGuardActsOnItsCauses_5 : ∃ (s : State) (m : Master) (v : BitVec 32),
    s.serves m F.SAF_WDOG.KICK.off = true ∧ s.saf.wdogOn = true ∧ s.saf.acting = false ∧ v.toNat % 65536 ≠ s.saf.wdogNext :=
  ⟨let s := inMode 3 []; { s with saf := { s.saf with wdogOn := true, wdogNext := 0x5A5A } }, .keeper, 0xA5A5#32, by decide +kernel⟩

theorem witness_TheGuardActsOnItsCauses_6 : ∃ (s : State) (m : Master) (v : BitVec 32),
    s.serves m F.SAF_DEMAND.DEMAND.off = true ∧ s.saf.acting = false ∧ v.toNat % 2 = 1 :=
  ⟨inMode 3 [], .keeper, 1#32, by decide +kernel⟩

theorem witness_TheGuardActsOnItsCauses_7 : ∃ (s : State),
    s.mode ≠ 0 ∧ s.saf.acting = false :=
  ⟨inMode 2 [], by decide +kernel⟩

theorem witness_TheGuardActsOnItsCauses_8 : ∃ (s : State) (auth : Bool),
    s.mode ≠ 0 ∧ s.saf.acting = false :=
  ⟨inMode 2 [], true, by decide +kernel⟩

theorem witness_TheGuardActsOnItsCauses_9 : ∃ (s : State) (clock : Fin 13) (ppm : Int),
    s.mode ≠ 0 ∧ s.saf.acting = false ∧ s.bit ⟨F.CLK_STATUS.ROOT_LOCK.off, clock, 1⟩ = true ∧ s.clockBad clock ppm = true :=
  ⟨inMode 3 [(F.CLK_STATUS.LANE_LOCK, 63)], 7, 0, by decide +kernel⟩

theorem witness_TheGuardActsOnItsCauses_10 : ∃ (s : State) (clock : Fin 13) (ppm : Int),
    1 ≤ clock.val ∧ clock.val ≤ 6 ∧ ppm.natAbs ≤ s.rd F.CLK_MON_CFG.WINDOW :=
  ⟨inMode 3 [(F.CLK_STATUS.MON_OK, 31), (F.CLK_MON_CFG.WINDOW, 100)], 3, -100, by decide +kernel⟩

theorem witness_TheGuardActsOnItsCauses_11 : ∃ (s : State) (i : Fin 7) (mv : BitVec 16),
    s.mode ≠ 0 ∧ s.saf.acting = false ∧ outside (supplyRange i).2 mv.toNat = true :=
  ⟨inMode 3 [], 0, 810#16, by decide +kernel⟩

theorem witness_TheGuardActsOnItsCauses_12 : ∃ (s : State) (i : Fin 7) (mv : BitVec 16) (held : Bool),
    outside (supplyRange i).1 mv.toNat = false :=
  ⟨let s := inMode 3 []; { s with pin := { s.pin with supplyOut := 6 } }, 2, 1100#16, true, by decide +kernel⟩

theorem witness_TheGuardActsOnItsCauses_13 : ∃ (s : State) (ts : List Int),
    s.mode ≠ 0 ∧ ts.length = 8 ∧ ((∀ x ∈ ts, -32768 ≤ x ∧ x ≤ 32767 ∧ x < (s.rd F.SAF_CFG.DIE_SOFT : Int) * 16 ∧ x < (s.rd F.SAF_CFG.DIE_HARD : Int) * 16)) ∧ s.saf.dieSoft = [] ∧ s.saf.dieHot = [] ∧ s.rd F.CAL_STATUS.STATE = 0 :=
  ⟨inMode 3 [(F.SAF_CFG.DIE_SOFT, 95), (F.SAF_CFG.DIE_HARD, 105)], [800, 810, -40, 0, 1519, 3, 4, 5], by decide +kernel⟩

theorem witness_TheGuardActsOnItsCauses_14 : ∃ (s : State) (ts : List Int) (i : Nat),
    s.mode ≠ 0 ∧ s.saf.acting = false ∧ ts.length = 8 ∧ i < 8 ∧ (s.rd F.SAF_CFG.DIE_HARD : Int) * 16 ≤ ts.getD i 0 ∧ s.saf.dieHot = [(i, 2)] :=
  ⟨let s := inMode 3 [(F.SAF_CFG.DIE_SOFT, 95), (F.SAF_CFG.DIE_HARD, 105)]; { s with saf := { s.saf with dieHot := [(4, 2)] } }, [800, 810, -40, 0, 1680, 3, 4, 5], 4, by decide +kernel⟩

theorem witness_TheGuardActsOnItsCauses_15 : ∃ (s : State),
    s.saf.acting = true ∧ s.mode ≠ 5 ∧ s.acl.clearing = false :=
  ⟨let s := inMode 3 []; { s with saf := { s.saf with acting := true } }, by decide +kernel⟩

theorem witness_SelfTestsRunInGroups_1 : ∃ (s : State) (eyes : List Nat),
    s.saf.groupRunning = true ∧ s.saf.acting = false ∧ ((s.bit F.TWN_CFG.MODE = false ∨ (s.twn.alive = true ∧ s.twn.peerRunning = false))) ∧ ((∀ e ∈ eyes, 32 ≤ e)) :=
  ⟨let s := inMode 2 [(F.SAF_LATENT.NEXT_GROUP, 7)]; { s with saf := { s.saf with groupRunning := true } }, [], by decide +kernel⟩

theorem witness_SelfTestsRunInGroups_2 : ∃ (s : State),
    s.saf.groupRunning = true ∧ s.saf.acting = false ∧ s.bit F.TWN_CFG.MODE = true ∧ ((s.twn.alive = false ∨ s.twn.peerRunning = true)) :=
  ⟨let s := inMode 2 [(F.TWN_CFG.MODE, 1), (F.SAF_LATENT.NEXT_GROUP, 3)]; { s with saf := { s.saf with groupRunning := true } }, by decide +kernel⟩

theorem witness_SelfTestsRunInGroups_3 : ∃ (s : State) (fail : Fin 11) (eyes : List Nat),
    s.mode ≠ 0 ∧ s.saf.groupRunning = true ∧ s.saf.acting = false ∧ ((s.bit F.TWN_CFG.MODE = false ∨ (s.twn.alive = true ∧ s.twn.peerRunning = false))) ∧ fail ≠ 0 ∧ (groupTests (s.rd F.SAF_LATENT.NEXT_GROUP)).contains fail.val = true :=
  ⟨let s := inMode 2 [(F.SAF_LATENT.NEXT_GROUP, 7)]; { s with saf := { s.saf with groupRunning := true } }, 4, [], by decide +kernel⟩

theorem witness_SelfTestsRunInGroups_4 : ∃ (s : State),
    (s.mode = 2 ∨ s.mode = 3) ∧ s.rd F.SLT_STATUS.STATE = 0 ∧ s.saf.acting = false ∧ s.saf.groupRunning = false :=
  ⟨inMode 3 [], by decide +kernel⟩

theorem witness_TheKeeperServesRequests_1 : ∃ (s : State) (m : Master),
    s.serves m F.KPR_REQ_PUSH.PUSH.off = true ∧ s.kpr.queue.length < 16 :=
  ⟨kprAsks 3 [] (reqBytes 2 7 []), .docentM 2, by decide +kernel⟩

theorem witness_TheKeeperServesRequests_2 : ∃ (s : State) (m : Master),
    s.serves m F.KPR_REQ_PUSH.PUSH.off = true ∧ 16 ≤ s.kpr.queue.length :=
  ⟨let s := kprAsks 3 [] []; { s with kpr := { s.kpr with queue := List.replicate 16 ⟨0, []⟩ } }, .docentM 2, by decide +kernel⟩

theorem witness_TheKeeperServesRequests_3 : ∃ (s : State) (r : KprReq) (rest : List KprReq),
    asked 1 [4, 5, 8, 9, 10, 11] r rest s ∧ (s.mode = 2 ∨ s.mode = 3) ∧ s.pairState ≠ 3 ∧ (s.bit F.TWN_CFG.MODE && s.hasAuth && decide (1 < s.rd F.IKL_STATUS.STATE) && decide (s.rd F.IKL_STATUS.STATE ≠ 6)) = false ∧ ([0, 1] : List Nat).all (fun p => !(s.leafAt p).any (fun l => l.admitted && l.id = fieldAt r.bytes 4 2)) = true :=
  ⟨kprAsks 3 [] (reqBytes 1 7 [9, 0, 0, 0, 1, 2, 3, 4]), ⟨3, reqBytes 1 7 [9, 0, 0, 0, 1, 2, 3, 4]⟩, [], by decide +kernel⟩

theorem witness_TheKeeperServesRequests_4 : ∃ (s : State) (r : KprReq) (rest : List KprReq),
    asked 1 [4, 5, 8, 9, 10, 11] r rest s ∧ (s.mode = 2 ∨ s.mode = 3) ∧ s.pairState ≠ 3 ∧ (s.bit F.TWN_CFG.MODE && s.hasAuth && decide (1 < s.rd F.IKL_STATUS.STATE) && decide (s.rd F.IKL_STATUS.STATE ≠ 6)) = true ∧ s.ddrErr = [] :=
  ⟨kprAsks 2 [(F.TWN_CFG.MODE, 1), (F.TWN_STATUS.AUTH, 1), (F.TWN_STATUS.STATE, 4), (F.IKL_STATUS.STATE, 3)] (reqBytes 1 7 [9, 0, 0, 0, 1, 2, 3, 4]), ⟨3, reqBytes 1 7 [9, 0, 0, 0, 1, 2, 3, 4]⟩, [], by decide +kernel⟩

theorem witness_TheKeeperServesRequests_5 : ∃ (s : State) (r : KprReq) (rest : List KprReq),
    asked 2 [] r rest s ∧ (s.mode = 2 ∨ s.mode = 3) :=
  ⟨kprAsks 2 [(F.TWN_CFG.MODE, 1), (F.TWN_STATUS.STATE, 4), (F.TWN_PEER_POS.STATE, 3)] (reqBytes 2 0x1234 []), ⟨3, reqBytes 2 0x1234 []⟩, [], by decide +kernel⟩

theorem witness_TheKeeperServesRequests_6 : ∃ (s : State) (r : KprReq) (rest : List KprReq),
    s.kpr.queue = r :: rest ∧ rest.length ≤ 15 ∧ s.keeperServes = true ∧ (fieldAt r.bytes 0 1 = 0 ∨ 8 < fieldAt r.bytes 0 1) :=
  ⟨kprAsks 2 [] (reqBytes 9 5 []), ⟨3, reqBytes 9 5 []⟩, [], by decide +kernel⟩

theorem witness_TheKeeperServesRequests_7 : ∃ (s : State) (r : KprReq) (rest : List KprReq),
    asked 2 [] r rest s ∧ s.mode ≠ 2 ∧ s.mode ≠ 3 :=
  ⟨kprAsks 1 [] (reqBytes 2 5 []), ⟨3, reqBytes 2 5 []⟩, [], by decide +kernel⟩

theorem witness_TheKeeperServesRequests_8 : ∃ (s : State) (r : KprReq) (rest : List KprReq) (c : Fin 6),
    asked 3 [4] r rest s ∧ (s.mode = 2 ∨ s.mode = 3) ∧ fieldAt r.bytes 4 1 = c.val ∧ s.mem.ch.length = 6 ∧ ((s.rd (F.MEM_CH_STATUS.STATE c) = 2 ∨ s.rd (F.MEM_CH_STATUS.STATE c) = 4)) ∧ s.rd F.SLT_STATUS.STATE = 0 :=
  ⟨let s := memState [(F.KPR_STATUS.STATE, 1), (F.BOOT_STATUS.MODE, 3)] id; { s with kpr := { s.kpr with queue := [⟨0, reqBytes 3 6 [4]⟩] } }, ⟨0, reqBytes 3 6 [4]⟩, [], 4, by decide +kernel⟩

theorem witness_TheKeeperServesRequests_9 : ∃ (s : State) (r : KprReq) (rest : List KprReq),
    asked 3 [4] r rest s ∧ (s.mode = 2 ∨ s.mode = 3) ∧ fieldAt r.bytes 4 1 < 6 ∧ s.mayRetrain (fieldAt r.bytes 4 1) = false :=
  ⟨kprAsks 2 [] (reqBytes 3 5 [1]), ⟨3, reqBytes 3 5 [1]⟩, [], by decide +kernel⟩

theorem witness_TheKeeperServesRequests_10 : ∃ (s : State) (r : KprReq) (rest : List KprReq),
    asked 4 [4, 5] r rest s ∧ (s.mode = 2 ∨ s.mode = 3) ∧ fieldAt r.bytes 4 1 < 2 ∧ fieldAt r.bytes 5 1 < 4 ∧ ((∀ g, g < 4 → s.grpState g ≠ 8)) ∧ s.blk.grp.length = 4 :=
  ⟨kprAsks 2 [(F.BLK_STATUS.STATE, 0x3204)] (reqBytes 4 5 [0, 1]), ⟨3, reqBytes 4 5 [0, 1]⟩, [], by decide +kernel⟩

theorem witness_TheKeeperServesRequests_11 : ∃ (s : State) (r : KprReq) (rest : List KprReq),
    asked 5 [4] r rest s ∧ (s.mode = 2 ∨ s.mode = 3) ∧ fieldAt r.bytes 4 1 < 2 :=
  ⟨kprAsks 2 [] (reqBytes 5 5 [1]), ⟨3, reqBytes 5 5 [1]⟩, [], by decide +kernel⟩

theorem witness_TheKeeperServesRequests_12 : ∃ (s : State) (r : KprReq) (rest : List KprReq),
    asked 6 (List.range' 16 12) r rest s ∧ (s.mode = 2 ∨ s.mode = 3) ∧ s.aclDue 0x0303 = true ∧ s.aclWaiting = false :=
  ⟨kprAsks 2 [] (reqBytes 6 5 (List.replicate 12 0 ++ [1, 2, 3])), ⟨3, reqBytes 6 5 (List.replicate 12 0 ++ [1, 2, 3])⟩, [], by decide +kernel⟩

theorem witness_TheKeeperServesRequests_13 : ∃ (s : State) (r : KprReq) (rest : List KprReq),
    asked 6 (List.range' 16 12) r rest s ∧ (s.mode = 2 ∨ s.mode = 3) ∧ s.aclDue 0x0303 = false :=
  ⟨let s := kprAsks 2 [] (reqBytes 6 5 []); { s with cycle := 39999, acl := { s.acl with lastAt := [(0x0303, 0)] } }, ⟨3, reqBytes 6 5 []⟩, [], by decide +kernel⟩

theorem witness_TheKeeperServesRequests_14 : ∃ (s : State) (r : KprReq) (rest : List KprReq) (mepc : BitVec 64),
    asked 7 [] r rest s ∧ (s.mode = 2 ∨ s.mode = 3) ∧ s.rd F.DOC_STATUS.STATE = 1 ∧ s.rd F.DOC_STATUS.RESTARTS < s.rd F.DOC_CFG.RESTART_LIMIT :=
  ⟨kprAsks 2 [(F.DOC_CFG.RESTART_LIMIT, 2)] (reqBytes 7 5 []), ⟨3, reqBytes 7 5 []⟩, [], 0x80#64, by decide +kernel⟩

theorem witness_TheKeeperServesRequests_15 : ∃ (s : State) (r : KprReq) (rest : List KprReq),
    asked 8 [] r rest s ∧ s.mode ≠ 0 :=
  ⟨kprAsks 4 [] (reqBytes 8 5 []), ⟨3, reqBytes 8 5 []⟩, [], by decide +kernel⟩

theorem witness_TheDocentsRestartAndTheirMailboxesPass_1 : ∃ (s : State) (m : Master) (c : Fin 8),
    s.serves m (F.DOC_WDOG.KICK c).off = true :=
  ⟨docentsOn [], .docentM 3, 3, by decide +kernel⟩

theorem witness_TheDocentsRestartAndTheirMailboxesPass_2 : ∃ (s : State) (c : Fin 8) (mepc : BitVec 64),
    s.coreOn c = true ∧ s.keeperServes = true ∧ s.rd F.DOC_STATUS.STATE = 1 ∧ s.rd F.DOC_STATUS.RESTARTS < s.rd F.DOC_CFG.RESTART_LIMIT :=
  ⟨docentsOn [], 3, 0x80#64, by decide +kernel⟩

theorem witness_TheDocentsRestartAndTheirMailboxesPass_3 : ∃ (s : State) (c : Fin 8) (mepc : BitVec 64),
    s.coreOn c = true ∧ s.keeperServes = true ∧ s.rd F.DOC_STATUS.STATE = 1 ∧ s.rd F.DOC_STATUS.RESTARTS < s.rd F.DOC_CFG.RESTART_LIMIT :=
  ⟨docentsOn [(F.DOC_STATUS.RESTARTS, 2)], 3, 0x80#64, by decide +kernel⟩

theorem witness_TheDocentsRestartAndTheirMailboxesPass_4 : ∃ (s : State) (c : Fin 8) (mepc : BitVec 64),
    s.coreOn c = true ∧ s.keeperServes = true ∧ s.rd F.DOC_STATUS.STATE = 1 ∧ s.rd F.DOC_CFG.RESTART_LIMIT ≤ s.rd F.DOC_STATUS.RESTARTS ∧ s.aclWaiting = false :=
  ⟨docentsOn [(F.DOC_STATUS.RESTARTS, 3)], 3, 0x80#64, by decide +kernel⟩

theorem witness_TheDocentsRestartAndTheirMailboxesPass_5 : ∃ (s : State) (m : Master) (mepc : BitVec 64),
    s.serves m F.DOC_CTL.RESTART.off = true ∧ s.keeperServes = true ∧ s.rd F.DOC_STATUS.STATE = 1 ∧ s.rd F.DOC_STATUS.RESTARTS < s.rd F.DOC_CFG.RESTART_LIMIT :=
  ⟨docentsOn [], .docentM 2, 0x80#64, by decide +kernel⟩

theorem witness_TheDocentsRestartAndTheirMailboxesPass_6 : ∃ (s : State) (core mepc : Nat),
    s.kpr.restarting = some (core, mepc) ∧ s.rd F.DOC_STATUS.STATE = 2 ∧ s.keeperServes = true ∧ s.aclWaiting = false :=
  ⟨docentsRestart [(F.DOC_STATUS.CAUSE, 2)], 4, 0x80, by decide +kernel⟩

theorem witness_TheDocentsRestartAndTheirMailboxesPass_7 : ∃ (s : State) (core mepc : Nat),
    s.kpr.restarting = some (core, mepc) ∧ s.rd F.DOC_STATUS.STATE = 2 ∧ s.keeperServes = true ∧ (s.mode = 2 ∨ s.mode = 3) ∧ s.boot.attempts = [] ∧ s.boot.aonLost = false ∧ s.pin.testLevel = true ∧ s.bit F.BOOT_STATUS.QUIESCED = false :=
  ⟨docentsRestart [], 4, 0x80, by decide +kernel⟩

theorem witness_TheDocentsRestartAndTheirMailboxesPass_9 : ∃ (s : State) (m : Master) (mb : Fin 8) (w : BusWidth) (v : Word),
    s.serves m (F.DOC_HOSTMB.WORD mb 3).off = true ∧ s.rd F.DOC_HOSTMB_FULL.FULL / 2 ^ mb.val % 2 = 0 :=
  ⟨docentsOn [], .docentM 2, 7, .w64, 0x1234#64, by decide +kernel⟩

theorem witness_TheDocentsRestartAndTheirMailboxesPass_10 : ∃ (s : State) (m : Master) (mb : Fin 8) (w : BusWidth) (v : Word),
    s.serves m (F.DOC_HOSTMB.WORD mb 3).off = true ∧ s.rd F.DOC_HOSTMB_FULL.FULL / 2 ^ mb.val % 2 = 1 :=
  ⟨docentsOn [], .docentM 2, 2, .w64, 0x1234#64, by decide +kernel⟩

theorem witness_TheDocentsRestartAndTheirMailboxesPass_11 : ∃ (s : State) (mb : Fin 8),
    s.mode ≠ 0 ∧ s.rd F.DOC_HOSTMB_FULL.FULL / 2 ^ mb.val % 2 = 1 :=
  ⟨docentsOn [], 2, by decide +kernel⟩

theorem witness_TheDocentsRestartAndTheirMailboxesPass_12 : ∃ (s : State) (mb : Fin 8),
    s.mode ≠ 0 ∧ s.rd F.DOC_HOSTMB_FULL.FULL / 2 ^ mb.val % 2 = 0 :=
  ⟨docentsOn [], 1, by decide +kernel⟩

theorem witness_TheCheckValueUnitsAreClaimedAndFed_1 : ∃ (s : State) (c : Fin 8) (n : Fin 4),
    s.silent (.docentM c) = false ∧ s.rd (F.CRC_U_CLAIM.OWNER n) = 0 :=
  ⟨inMode 2 [], 7, 2, by decide +kernel⟩

theorem witness_TheCheckValueUnitsAreClaimedAndFed_2 : ∃ (s : State) (c : Fin 8) (n : Fin 4),
    s.silent (.docentM c) = false ∧ s.rd (F.CRC_U_CLAIM.OWNER n) ≠ 0 :=
  ⟨inMode 2 [(F.CRC_U_CLAIM.OWNER 2, 8)], 7, 2, by decide +kernel⟩

theorem witness_TheCheckValueUnitsAreClaimedAndFed_3 : ∃ (s : State) (c : Fin 8) (n : Fin 4),
    s.silent (.docentU c) = false ∧ s.rd (F.CRC_U_CLAIM.OWNER n) = 0 ∧ s.bit (F.CRC_U_CFG.USER n) = true :=
  ⟨inMode 2 [(F.CRC_U_CFG.USER 2, 1)], 7, 2, by decide +kernel⟩

theorem witness_TheCheckValueUnitsAreClaimedAndFed_4 : ∃ (s : State) (n : Fin 4),
    s.mode ≠ 0 :=
  ⟨inMode 2 [(F.CRC_U_CLAIM.OWNER 2, 5)], 2, by decide +kernel⟩

theorem witness_TheCheckValueUnitsAreClaimedAndFed_5 : ∃ (s : State) (m : Master) (n : Fin 4) (p : Fin 4),
    s.serves m (F.CRC_U_CFG.PRESET n).off = true ∧ s.crcOwner m n = true ∧ p.val < 3 :=
  ⟨inMode 2 [(F.CRC_U_CLAIM.OWNER 2, 5)], .docentM 4, 2, 1, by decide +kernel⟩

theorem witness_TheCheckValueUnitsAreClaimedAndFed_6 : ∃ (s : State) (m : Master) (n : Fin 4),
    s.serves m (F.CRC_U_CFG.PRESET n).off = true ∧ s.crcOwner m n = true ∧ s.crcFeeds n = [] :=
  ⟨inMode 2 [(F.CRC_U_CLAIM.OWNER 2, 5), (F.CRC_U_CFG.WIDTH 2, 7)], .docentM 4, 2, by decide +kernel⟩

theorem witness_TheCheckValueUnitsAreClaimedAndFed_7 : ∃ (s : State) (m : Master) (n : Fin 4),
    s.serves m (F.CRC_U_CFG.PRESET n).off = true ∧ s.crcOwner m n = true :=
  ⟨let s := inMode 2 [(F.CRC_U_CLAIM.OWNER 2, 5), (F.CRC_U_INIT.INIT 2, 77)]; { s with kpr := { s.kpr with crcQueue := [(2, [[1, 2]])] } }, .docentM 4, 2, by decide +kernel⟩

theorem witness_TheCheckValueUnitsAreClaimedAndFed_8 : ∃ (s : State) (m : Master) (n : Fin 4),
    s.serves m (F.CRC_U_CFG.PRESET n).off = true ∧ s.crcOwner m n = true :=
  ⟨inMode 2 [(F.CRC_U_CLAIM.OWNER 2, 5)], .docentM 4, 2, by decide +kernel⟩

theorem witness_TheCheckValueUnitsAreClaimedAndFed_9 : ∃ (s : State) (m : Master) (n : Fin 4),
    s.serves m (F.CRC_U_CFG.PRESET n).off = true ∧ s.crcOwner m n = false :=
  ⟨inMode 2 [(F.CRC_U_CLAIM.OWNER 2, 5)], .docentM 3, 2, by decide +kernel⟩

theorem witness_TheCheckValueUnitsAreClaimedAndFed_10 : ∃ (s : State) (m : Master) (n : Fin 4) (w : BusWidth) (v : BitVec 32),
    s.serves m (0x210000 + 0x100 * n.val + crcDataReg w) = true ∧ s.crcOwner m n = true ∧ (s.crcFeeds n).length < 4 :=
  ⟨let s := inMode 2 [(F.CRC_U_CLAIM.OWNER 2, 5)]; { s with kpr := { s.kpr with crcQueue := [(1, [[9]]), (2, [[1, 2]])] } }, .docentM 4, 2, .w16, 0x3433#32, by decide +kernel⟩

theorem witness_TheCheckValueUnitsAreClaimedAndFed_11 : ∃ (s : State) (m : Master) (n : Fin 4) (w : BusWidth) (v : BitVec 32) (b : List Byte) (q : List (List Byte)),
    s.serves m (0x210000 + 0x100 * n.val + crcDataReg w) = true ∧ s.crcOwner m n = true ∧ s.crcFeeds n = b :: q ∧ q.length = 3 :=
  ⟨let s := inMode 2 [(F.CRC_U_CLAIM.OWNER 2, 5), (F.CRC_U_CFG.WIDTH 2, 31)]; { s with kpr := { s.kpr with crcQueue := [(2, [[1, 2], [3], [4], [5]])] } }, .docentM 4, 2, .w8, 0x34#32, [1, 2], [[3], [4], [5]], by decide +kernel⟩

theorem witness_TheCheckValueUnitsAreClaimedAndFed_12 : ∃ (s : State) (m : Master) (n : Fin 4) (raw : Bool),
    s.silent m = false ∧ s.readable m (if raw then (F.CRC_U_STATE.REG n).off else (F.CRC_U_RESULT.RESULT n).off) = true :=
  ⟨let s := inMode 2 [(F.CRC_U_CLAIM.OWNER 2, 5), (F.CRC_U_CFG.WIDTH 2, 31)]; { s with kpr := { s.kpr with crcQueue := [(2, [[1, 2], [3]])] } }, .docentM 4, 2, false, by decide +kernel⟩

theorem witness_TheCheckValueUnitsAreClaimedAndFed_13 : ∃ (s : State) (m : Master) (n : Fin 4) (v : BitVec 32),
    s.serves m (F.CRC_U_STATE.REG n).off = true ∧ s.crcOwner m n = true :=
  ⟨inMode 2 [(F.CRC_U_CLAIM.OWNER 2, 5)], .docentM 4, 2, 0xFFFFFFFF#32, by decide +kernel⟩

theorem witness_PresetsAndLoadSetTheCheckValueUnit_1 : ∃ (s : State) (m : Master) (n p : Fin 4) (w poly init ref xor : Nat),
    s.serves m (F.CRC_U_CFG.PRESET n).off = true ∧ s.crcOwner m n = true ∧ (((p = 0 ∧ (w, poly, init, ref, xor) = (32, 0x1EDC6F41, 0xFFFFFFFF, 1, 0xFFFFFFFF)) ∨ (p = 1 ∧ (w, poly, init, ref, xor) = (32, 0x04C11DB7, 0xFFFFFFFF, 1, 0xFFFFFFFF)) ∨ (p = 2 ∧ (w, poly, init, ref, xor) = (16, 0x1021, 0xFFFF, 0, 0)))) :=
  ⟨inMode 2 [(F.CRC_U_CLAIM.OWNER 2, 5)], .docentM 4, 2, 1, 32, 0x04C11DB7, 0xFFFFFFFF, 1, 0xFFFFFFFF, by decide +kernel⟩

theorem witness_PresetsAndLoadSetTheCheckValueUnit_2 : ∃ (s : State) (m : Master) (n : Fin 4),
    s.serves m (F.CRC_U_CFG.PRESET n).off = true ∧ s.crcOwner m n = true :=
  ⟨inMode 2 [(F.CRC_U_CLAIM.OWNER 2, 5), (F.CRC_U_CFG.WIDTH 2, 7)], .docentM 4, 2, by decide +kernel⟩

theorem witness_PresetsAndLoadSetTheCheckValueUnit_3 : ∃ (s : State) (m : Master) (n : Fin 4),
    s.serves m (F.CRC_U_CFG.PRESET n).off = true ∧ s.crcOwner m n = true :=
  ⟨inMode 2 [(F.CRC_U_CLAIM.OWNER 2, 5), (F.CRC_U_INIT.INIT 2, 77)], .docentM 4, 2, by decide +kernel⟩

theorem witness_TheAccessionLogTakesHoldsAndCopiesRecords_1 : ∃ (s : State) (event : Nat) (data : List Byte),
    s.aclDue event = true ∧ s.aclWaiting = false :=
  ⟨inMode 2 [], 0x0105, [1, 2], by decide +kernel⟩

theorem witness_TheAccessionLogTakesHoldsAndCopiesRecords_2 : ∃ (s : State) (event : Nat) (data : List Byte),
    s.aclDue event = true ∧ s.aclWaiting = true ∧ s.acl.queue.length < 256 :=
  ⟨inMode 2 [(F.ACL_STATUS.FROZEN, 1)], 0x0105, [1, 2], by decide +kernel⟩

theorem witness_TheAccessionLogTakesHoldsAndCopiesRecords_3 : ∃ (s : State) (event : Nat) (data : List Byte),
    s.aclDue event = true ∧ s.aclWaiting = true ∧ 256 ≤ s.acl.queue.length :=
  ⟨let s := inMode 2 [(F.ACL_STATUS.FROZEN, 1)]; { s with acl := { s.acl with queue := List.replicate 256 ⟨0, 0, 0, 0, 0, []⟩ } }, 0x0105, [1, 2], by decide +kernel⟩

theorem witness_TheAccessionLogTakesHoldsAndCopiesRecords_4 : ∃ (s : State) (event : Nat) (data : List Byte),
    s.aclDue event = false :=
  ⟨let s := inMode 2 []; { s with cycle := 39999, acl := { s.acl with lastAt := [(0x0401, 0)] } }, 0x0401, [], by decide +kernel⟩

theorem witness_TheAccessionLogTakesHoldsAndCopiesRecords_5 : ∃ (s : State) (m : Master),
    s.serves m F.ACL_CTL.FREEZE.off = true ∧ s.bit F.ACL_STATUS.FROZEN = false :=
  ⟨inMode 2 [], .host, by decide +kernel⟩

theorem witness_TheAccessionLogTakesHoldsAndCopiesRecords_6 : ∃ (s : State) (m : Master),
    s.serves m F.ACL_CTL.FREEZE.off = true ∧ s.bit F.ACL_STATUS.FROZEN = true ∧ s.acl.clearing = false ∧ s.acl.lost = 0 ∧ s.acl.ring.length ≤ 8192 :=
  ⟨let s := inMode 2 [(F.ACL_STATUS.FROZEN, 1)]; { s with acl := { s.acl with ring := [⟨8, 0, 0, 0, 0, []⟩], queue := [⟨9, 0, 0, 0, 0, []⟩, ⟨10, 0, 0, 0, 0, []⟩] } }, .host, by decide +kernel⟩

theorem witness_TheAccessionLogTakesHoldsAndCopiesRecords_7 : ∃ (s : State) (m : Master),
    s.serves m F.ACL_CTL.FREEZE.off = true ∧ s.bit F.ACL_STATUS.FROZEN = true ∧ s.acl.clearing = false ∧ s.acl.lost ≠ 0 :=
  ⟨let s := inMode 2 [(F.ACL_STATUS.FROZEN, 1)]; { s with acl := { s.acl with lost := 5, queue := [⟨9, 0, 0, 0, 0, []⟩] } }, .host, by decide +kernel⟩

theorem witness_TheAccessionLogTakesHoldsAndCopiesRecords_8 : ∃ (s : State),
    s.bit F.ACL_STATUS.FROZEN = true ∧ s.acl.clearing = false ∧ s.acl.lost = 0 ∧ s.acl.ring.length ≤ 8192 :=
  ⟨let s := inMode 2 [(F.ACL_STATUS.FROZEN, 1)]; { s with acl := { s.acl with queue := [⟨9, 0, 0, 0, 0, []⟩] } }, by decide +kernel⟩

theorem witness_TheAccessionLogTakesHoldsAndCopiesRecords_9 : ∃ (s : State) (b : List AclRec),
    s.acl.copying = none ∧ s.bit F.BOOT_STATUS.MRAM_ABSENT = false ∧ copyBatch (s.acl.ring.take ((s.rd F.ACL_STATUS.NEXT + 2 ^ 32 - s.aclCopyFrom) % 2 ^ 32)).reverse = b ∧ b ≠ [] :=
  ⟨let s := inMode 2 [(F.ACL_STATUS.NEXT, 2), (F.ACL_STATUS.HELD, 2), (F.ACL_COPY.COPIED, 1)]; { s with acl := { s.acl with ring := [⟨9, 0, 0, 0, 0, []⟩, ⟨8, 0, 0, 0, 0, []⟩] } }, [⟨9, 0, 0, 0, 0, []⟩], by decide +kernel⟩

theorem witness_TheAccessionLogTakesHoldsAndCopiesRecords_10 : ∃ (s : State) (p : Nat) (rs : List AclRec),
    s.acl.copying = some (p, rs) ∧ s.acl.copyLost = none ∧ s.acl.mramNext < s.mramEntries ∧ rs.length ≤ s.mramEntries :=
  ⟨let s := inMode 2 [(F.ACL_COPY.BOOT, 3)]; { s with acl := { s.acl with mramNext := 7, copying := some (1, [⟨9, 0, 0, 0, 0, [1]⟩]) } }, 1, [⟨9, 0, 0, 0, 0, [1]⟩], by decide +kernel⟩

theorem witness_TheAccessionLogTakesHoldsAndCopiesRecords_11 : ∃ (s : State) (p f n : Nat) (rs : List AclRec),
    s.acl.copying = some (p, rs) ∧ s.acl.copyLost = some (f, n) ∧ s.aclWaiting = false ∧ s.acl.ring.length < 8192 :=
  ⟨let s := inMode 2 []; { s with acl := { s.acl with copyLost := some (4, 3), copying := some (7, [⟨9, 0, 0, 0, 0, [1]⟩]) } }, 7, 4, 3, [⟨9, 0, 0, 0, 0, [1]⟩], by decide +kernel⟩

theorem witness_TheAccessionLogTakesHoldsAndCopiesRecords_12 : ∃ (s : State) (m : Master) (v : BitVec 32),
    s.serves m F.ACL_CURSOR.POS.off = true :=
  ⟨inMode 2 [(F.ACL_STATUS.NEXT, 2), (F.ACL_STATUS.HELD, 2)], .host, 1#32, by decide +kernel⟩

theorem witness_TheAccessionLogTakesHoldsAndCopiesRecords_13 : ∃ (s : State) (m : Master) (v : BitVec 32),
    s.serves m F.ACL_CTL.FREEZE.off = true :=
  ⟨inMode 2 [(F.ACL_STATUS.WINDOW_READY, 1)], .host, 1#32, by decide +kernel⟩

theorem witness_TheAccessionLogTakesHoldsAndCopiesRecords_14 : ∃ (s : State),
    s.bit F.ACL_CTL.SOURCE = true :=
  ⟨inMode 2 [(F.ACL_CTL.SOURCE, 1)], by decide +kernel⟩

theorem witness_TheAccessionLogIsClearedByAuthority_1 : ∃ (s : State) (m : Master),
    s.serves m 0x220090 = true :=
  ⟨inMode 2 [], .host, by decide +kernel⟩

theorem witness_TheAccessionLogIsClearedByAuthority_2 : ∃ (s : State) (m : Master),
    s.serves m 0x220090 = true ∧ s.acl.clearChal = none ∧ s.acl.challengeOn = true ∧ s.bit F.ACL_STATUS.FROZEN = false :=
  ⟨let s := inMode 2 [(F.ACL_CHALLENGE.BYTES 0, 77)]; { s with acl := { s.acl with challengeOn := true } }, .host, by decide +kernel⟩

theorem witness_TheAccessionLogIsClearedByAuthority_3 : ∃ (s : State) (m : Master),
    s.serves m 0x220090 = true ∧ (s.acl.clearChal ≠ none ∨ s.acl.challengeOn = false ∨ s.bit F.ACL_STATUS.FROZEN = true) :=
  ⟨inMode 2 [], .host, by decide +kernel⟩

theorem witness_TheAccessionLogIsClearedByAuthority_4 : ∃ (s : State) (chal : List Byte),
    s.acl.clearChal = some chal ∧ s.acl.clearing = false ∧ s.acl.queue = [] ∧ s.acl.lost = 0 :=
  ⟨let s := inMode 2 []; { s with acl := { s.acl with clearChal := some [5] } }, [5], by decide +kernel⟩

theorem witness_TheAccessionLogIsClearedByAuthority_5 : ∃ (s : State) (m : Master) (w : BusWidth) (v : Word) (chal : List Byte),
    s.serves m (F.ACL_AUTH.TAG 1).off = true ∧ s.acl.clearChal = some chal ∧ s.acl.clearing = true ∧ s.acl.queue = [] ∧ s.acl.lost = 0 :=
  ⟨let s := inMode 2 []; { s with acl := { s.acl with clearChal := some [5], clearing := true } }, .keeper, .w64, 9#64, [5], by decide +kernel⟩

theorem witness_TheAccessionLogIsClearedByAuthority_6 : ∃ (s : State) (chal : List Byte),
    s.acl.clearChal = some chal ∧ s.acl.matched = true ∧ s.bit F.ACL_STATUS.FROZEN = false ∧ s.acl.lost = 0 ∧ s.acl.queue.length ≤ 256 :=
  ⟨let s := inMode 2 [(F.ACL_COPY.EPOCH, 65535), (F.ACL_STATUS.NEXT, 9)]; { s with acl := { s.acl with clearChal := some [5], clearing := true, matched := true, queue := [⟨9, 0, 0, 0, 0, [1]⟩] } }, [5], by decide +kernel⟩

theorem witness_CountersAreWrittenFrozenAndRead_1 : ∃ (s : State) (m : Master) (k : Fin 64) (upper : Bool) (v : Word) (events n : Nat),
    s.serves m (F.PMC_CTR.COUNT k).off = true ∧ n = (if (s.pmcRuns k && !s.selBit (F.PMC_SEL.CHAIN k) k && decide (s.selRd (F.PMC_SEL.EVENT k) k ≠ 0) && s.pmcApplies k) then events else 0) ∧ v.toNat % 2 ^ 48 + n < 2 ^ 48 :=
  ⟨inMode 2 [(F.PMC_SEL.ENABLE 6, 1), (F.PMC_SEL.EVENT 6, 0x31)], .keeper, 6, false, 0xFFFFFFFFFFFF0001#64, 4, 4, by decide +kernel⟩

theorem witness_CountersAreWrittenFrozenAndRead_2 : ∃ (s : State) (m : Master) (j : Fin 32) (k : Nat) (upper : Bool) (v : Word) (events : Nat) (kf : Fin 64),
    k = 2 * j.val + 1 ∧ kf.val = k ∧ s.serves m (F.PMC_CTR.COUNT k).off = true ∧ s.selBit (F.PMC_SEL.CHAIN k) k = true :=
  ⟨inMode 2 [(F.PMC_SEL.ENABLE 7, 1), (F.PMC_SEL.CHAIN 7, 1), (F.PMC_SEL.EVENT 7, 0x31)], .keeper, 3, 7, false, 0xFFFFFFFFFFFFFFFF#64, 4, 7, by decide +kernel⟩

theorem witness_CountersAreWrittenFrozenAndRead_3 : ∃ (s : State) (m : Master) (k : Fin 64) (upper : Bool) (v : Word) (events : Nat),
    s.serves m (F.PMC_CTR.COUNT k).off = true ∧ (s.pmcRuns k && !s.selBit (F.PMC_SEL.CHAIN k) k && decide (s.selRd (F.PMC_SEL.EVENT k) k ≠ 0) && s.pmcApplies k) = false :=
  ⟨inMode 2 [(F.PMC_CTR.COUNT 6, 0x123456789ABC)], .keeper, 6, true, 0xFFFF0001#64, 4, by decide +kernel⟩

theorem witness_CountersAreWrittenFrozenAndRead_4 : ∃ (s : State) (m : Master) (k : Fin 64) (v : Word) (events : Nat),
    s.serves m (F.PMC_CTR.COUNT k).off = true ∧ s.pmcRuns k = true ∧ s.selBit (F.PMC_SEL.CHAIN k) k = false ∧ s.selRd (F.PMC_SEL.EVENT k) k ≠ 0 ∧ s.pmcApplies k = true ∧ 2 ^ 48 ≤ v.toNat % 2 ^ 48 + events ∧ v.toNat % 2 ^ 48 + events < 2 ^ 49 :=
  ⟨inMode 2 [(F.PMC_SEL.ENABLE 6, 1), (F.PMC_SEL.EVENT 6, 0x31), (F.PMC_SEL.OVF_IRQ 6, 1), (F.PMC_SEL.ENABLE 7, 1), (F.PMC_SEL.CHAIN 7, 1), (F.PMC_CTR.COUNT 7, 2 ^ 48 - 1)], .keeper, 6, 0xFFFFFFFFFFFFFFFF#64, 4, by decide +kernel⟩

theorem witness_CountersAreWrittenFrozenAndRead_5 : ∃ (s : State) (m : Master) (k : Fin 64) (v : BitVec 32),
    s.serves m (F.PMC_SEL.EVENT k).off = true :=
  ⟨inMode 2 [(F.PMC_SEL.ENABLE 6, 1)], .keeper, 6, 0xFFFFFFFF#32, by decide +kernel⟩

theorem witness_CountersAreWrittenFrozenAndRead_6 : ∃ (s : State) (m : Master) (v : BitVec 32),
    s.serves m F.PMC_CTL.FREEZE.off = true :=
  ⟨inMode 2 [], .keeper, 3#32, by decide +kernel⟩

theorem witness_CountersAreWrittenFrozenAndRead_7 : ∃ (s : State) (m : Master) (j : Fin 32),
    s.silent m = false ∧ s.readable m (F.PMC_CTR.COUNT (2 * j)).off = true :=
  ⟨inMode 2 [(F.PMC_CTR.COUNT 6, 5), (F.PMC_CTR.COUNT 7, 9)], .host, 3, by decide +kernel⟩

theorem witness_CountersAreWrittenFrozenAndRead_8 : ∃ (s : State) (m : Master) (j : Fin 32) (n : Nat),
    s.silent m = false ∧ s.pmcApplies (2 * j) = true ∧ s.readable m (F.PMC_CTR.COUNT (2 * j)).off = true ∧ s.pmcRuns (2 * j) = true ∧ s.selBit (F.PMC_SEL.CHAIN (2 * j)) (2 * j) = false ∧ Machine.pmcUnseen (s.selRd (F.PMC_SEL.EVENT (2 * j)) (2 * j)) = true ∧ s.rd (F.PMC_CTR.COUNT (2 * j)) + n < 2 ^ 48 :=
  ⟨inMode 2 [(F.PMC_SEL.ENABLE 6, 1), (F.PMC_SEL.EVENT 6, 0x31), (F.PMC_CTR.COUNT 6, 5), (F.PMC_CTR.COUNT 7, 9)], .host, 3, 11, by decide +kernel⟩

theorem witness_CountersAreWrittenFrozenAndRead_9 : ∃ (s : State) (k : Fin 64),
    s.pmcRuns k = true ∧ s.pmcApplies k = true ∧ s.selBit (F.PMC_SEL.CHAIN k) k = false ∧ Machine.pmcUnseen (s.selRd (F.PMC_SEL.EVENT k) k) = true :=
  ⟨inMode 2 [(F.PMC_SEL.ENABLE 6, 1), (F.PMC_SEL.EVENT 6, 0x31), (F.PMC_CTR.COUNT 6, 5)], 6, by decide +kernel⟩

theorem witness_SamplesAreTakenAndFreed_1 : ∃ (s : State) (core : Fin 8) (pc : BitVec 64) (opcode : BitVec 32) (latency events : Nat) (user freed : Bool),
    s.bit F.PMC_SAMPLE_CFG.ENABLE = true ∧ s.rd F.PMC_SAMPLE_CFG.CORES / 2 ^ core.val % 2 = 1 ∧ s.rd F.PMC_SAMPLE_CFG.PERIOD ≠ 0 ∧ s.rd F.DOC_STATUS.STATE = 1 ∧ s.coreOn core = true ∧ s.sampleEvent latency = true ∧ s.rd F.PMC_SAMPLE_CFG.PERIOD ≤ smGet (fun _ => 0) s.pmc.counts core + events ∧ s.sampleUnread < 512 :=
  ⟨let s := inMode 2 [(F.PMC_SAMPLE_CFG.ENABLE, 1), (F.PMC_SAMPLE_CFG.CORES, 8), (F.PMC_SAMPLE_CFG.PERIOD, 9), (F.DOC_STATUS.STATE, 1), (F.PMC_SAMPLE_CFG.WATERMARK, 4), (F.PMC_SAMPLE_STATUS.NEXT, 2), (F.PMC_SAMPLE_ACK.INDEX, 2 ^ 32 - 1)]; { s with pmc := { s.pmc with lost := true } }, 3, 0x80001234#64, 0x13#32, 70000, 9, true, false, by decide +kernel⟩

theorem witness_SamplesAreTakenAndFreed_2 : ∃ (s : State) (core : Fin 8) (pc : BitVec 64) (opcode : BitVec 32) (latency events : Nat) (user : Bool),
    s.bit F.PMC_SAMPLE_CFG.ENABLE = true ∧ s.rd F.PMC_SAMPLE_CFG.CORES / 2 ^ core.val % 2 = 1 ∧ s.rd F.PMC_SAMPLE_CFG.PERIOD ≠ 0 ∧ s.rd F.DOC_STATUS.STATE = 1 ∧ s.coreOn core = true ∧ s.sampleEvent latency = true ∧ s.rd F.PMC_SAMPLE_CFG.PERIOD ≤ smGet (fun _ => 0) s.pmc.counts core + events ∧ 512 ≤ s.sampleUnread :=
  ⟨inMode 2 [(F.PMC_SAMPLE_CFG.ENABLE, 1), (F.PMC_SAMPLE_CFG.CORES, 8), (F.PMC_SAMPLE_CFG.PERIOD, 9), (F.DOC_STATUS.STATE, 1), (F.PMC_SAMPLE_STATUS.NEXT, 512)], 3, 0x80001234#64, 0x13#32, 70000, 11, true, by decide +kernel⟩

theorem witness_SamplesAreTakenAndFreed_3 : ∃ (s : State) (core : Fin 8) (pc : BitVec 64) (opcode : BitVec 32) (latency events : Nat) (user freed : Bool),
    s.bit F.PMC_SAMPLE_CFG.ENABLE = true ∧ s.rd F.PMC_SAMPLE_CFG.CORES / 2 ^ core.val % 2 = 1 ∧ s.rd F.DOC_STATUS.STATE = 1 ∧ s.coreOn core = true ∧ s.sampleEvent latency = true ∧ smGet (fun _ => 0) s.pmc.counts core + events < s.rd F.PMC_SAMPLE_CFG.PERIOD :=
  ⟨inMode 2 [(F.PMC_SAMPLE_CFG.ENABLE, 1), (F.PMC_SAMPLE_CFG.CORES, 8), (F.PMC_SAMPLE_CFG.PERIOD, 9), (F.DOC_STATUS.STATE, 1)], 3, 0x80001234#64, 0x13#32, 70000, 8, true, false, by decide +kernel⟩

theorem witness_SamplesAreTakenAndFreed_4 : ∃ (s : State) (core : Fin 8) (pc : BitVec 64) (opcode : BitVec 32) (latency events : Nat) (user freed : Bool),
    (s.bit F.PMC_SAMPLE_CFG.ENABLE = false ∨ s.rd F.PMC_SAMPLE_CFG.CORES / 2 ^ core.val % 2 = 0 ∨ s.rd F.PMC_SAMPLE_CFG.PERIOD = 0 ∨ s.coreOn core = false ∨ s.rd F.DOC_STATUS.STATE ≠ 1 ∨ s.sampleEvent latency = false) :=
  ⟨inMode 2 [], 3, 0x80001234#64, 0x13#32, 70000, 3, true, false, by decide +kernel⟩

theorem witness_SamplesAreTakenAndFreed_5 : ∃ (s : State) (m : Master) (h : HalfWrite) (v : Word) (i : Nat),
    s.serves m F.PMC_SAMPLE_ACK.INDEX.off = true ∧ (h.wide || h.upper) = true ∧ v = halfOver h (s.halfReg F.PMC_SAMPLE_ACK.INDEX.off) ∧ i = v.toNat % 2 ^ 32 :=
  ⟨inMode 2 [(F.PMC_SAMPLE_STATUS.NEXT, 2), (F.PMC_SAMPLE_ACK.INDEX, 2 ^ 32 - 1)], .docentM 0, ⟨true, true, 2#64⟩, 2#64, 2, by decide +kernel⟩

theorem witness_SamplesAreTakenAndFreed_6 : ∃ (s : State) (m : Master) (x : Word),
    s.serves m F.PMC_SAMPLE_ACK.INDEX.off = true :=
  ⟨inMode 2 [], .docentM 0, 3#64, by decide +kernel⟩

theorem witness_CalibrationRunsAndIsEnabled_1 : ∃ (s : State),
    s.rd F.CAL_STATUS.STATE = 1 ∧ ((s.tempMoved = true ∨ s.bit F.CAL_STATUS.RUN_PENDING = true ∨ s.cal.again.any (fun g => s.grpState g = 4) = true ∨ (s.linkActive = true ∧ s.cal.begun = false ∧ s.blk.stepReq = false ∧ s.blk.stepTo = none))) ∧ s.mode ≠ 4 ∧ s.mode ≠ 5 ∧ s.saf.acting = false ∧ s.bit F.CAL_CFG.TRIM_RX = true ∧ s.cal.grp.length = 4 :=
  ⟨inMode 2 [(F.CAL_STATUS.STATE, 1), (F.CAL_STATUS.RUN_PENDING, 1), (F.CAL_CFG.TRIM_RX, 1), (F.CAL_TEMP.NOW 3, 700)], by decide +kernel⟩

theorem witness_CalibrationRunsAndIsEnabled_2 : ∃ (s : State),
    s.rd F.CAL_STATUS.STATE = 1 ∧ s.bit F.CAL_STATUS.RUN_PENDING = true ∧ s.mode ≠ 4 ∧ s.mode ≠ 5 ∧ s.saf.acting = false ∧ s.bit F.CAL_CFG.TRIM_BLK = false ∧ s.bit F.CAL_CFG.TRIM_RX = false ∧ s.bit F.CAL_CFG.TRIM_DDR = false ∧ s.cal.grp.all Option.isNone = true :=
  ⟨inMode 2 [(F.CAL_STATUS.STATE, 1), (F.CAL_STATUS.RUN_PENDING, 1), (F.CAL_STATUS.RUNS, 65535), (F.CAL_CFG.TRIM_BLK, 0), (F.CAL_CFG.TRIM_RX, 0), (F.CAL_CFG.TRIM_DDR, 0)], by decide +kernel⟩

theorem witness_CalibrationRunsAndIsEnabled_3 : ∃ (s : State),
    s.rd F.CAL_STATUS.STATE ≠ 1 :=
  ⟨inMode 2 [(F.CAL_STATUS.RUN_PENDING, 1)], by decide +kernel⟩

theorem witness_CalibrationRunsAndIsEnabled_4 : ∃ (s : State) (m : Master),
    s.serves m F.CAL_CTL.RUN.off = true ∧ s.rd F.CAL_STATUS.STATE = 1 ∧ s.mode ≠ 4 ∧ s.mode ≠ 5 ∧ s.saf.acting = false ∧ s.bit F.CAL_CFG.TRIM_RX = true :=
  ⟨inMode 2 [(F.CAL_STATUS.STATE, 1), (F.CAL_CFG.TRIM_RX, 1)], .keeper, by decide +kernel⟩

theorem witness_CalibrationRunsAndIsEnabled_5 : ∃ (s : State) (m : Master),
    s.serves m F.CAL_CTL.RUN.off = true ∧ s.rd F.CAL_STATUS.STATE = 2 :=
  ⟨inMode 2 [(F.CAL_STATUS.STATE, 2)], .keeper, by decide +kernel⟩

theorem witness_CalibrationRunsAndIsEnabled_6 : ∃ (s : State) (m : Master),
    s.serves m F.CAL_CTL.ENABLE.off = true ∧ s.rd F.CAL_STATUS.STATE ≠ 3 :=
  ⟨inMode 2 [], .keeper, by decide +kernel⟩

theorem witness_CalibrationRunsAndIsEnabled_7 : ∃ (s : State) (m : Master),
    s.serves m F.CAL_CTL.ENABLE.off = true ∧ s.rd F.CAL_STATUS.STATE = 3 :=
  ⟨inMode 2 [(F.CAL_STATUS.STATE, 3)], .keeper, by decide +kernel⟩

theorem witness_CalibrationRunsAndIsEnabled_8 : ∃ (s : State) (m : Master),
    s.serves m F.CAL_CTL.ENABLE.off = true ∧ (s.rd F.CAL_STATUS.STATE = 1 ∨ s.rd F.CAL_STATUS.STATE = 2) :=
  ⟨let s := inMode 2 [(F.CAL_STATUS.STATE, 2), (F.CAL_CTL.ENABLE, 1)]; { s with cal := { s.cal with grp := [some ⟨2, 1, 0, 0, 0, 0, 0⟩, none, none, none] } }, .keeper, by decide +kernel⟩

theorem witness_CalibrationRunsAndIsEnabled_9 : ∃ (s : State) (m : Master),
    s.serves m F.CAL_CTL.ENABLE.off = true ∧ (s.rd F.CAL_STATUS.STATE = 0 ∨ s.rd F.CAL_STATUS.STATE = 3) :=
  ⟨inMode 2 [(F.CAL_STATUS.STATE, 3), (F.CAL_STATUS.PENDING_ENABLE, 1)], .keeper, by decide +kernel⟩

theorem witness_CalibrationRunsAndIsEnabled_10 : ∃ (s : State),
    s.rd F.CAL_STATUS.STATE = 3 :=
  ⟨inMode 2 [(F.CAL_STATUS.STATE, 3), (F.CAL_STATUS.PENDING_ENABLE, 1)], by decide +kernel⟩

theorem witness_CalibrationRunsAndIsEnabled_11 : ∃ (s : State) (g : Fin 4) (ones : Nat) (x : RxTrim),
    (s.cal.rx[g.val]?).join = some x ∧ ones ≤ 2 ^ 19 + s.rd F.CAL_CFG.MARK_TOL * 64 ∧ 2 ^ 19 ≤ ones + s.rd F.CAL_CFG.MARK_TOL * 64 ∧ x.within = 0 ∧ x.windows < 63 ∧ (s.cal.rxStep[g.val]?).join = none :=
  ⟨let s := inMode 2 [(F.CAL_CFG.MARK_TOL, 2)]; { s with cal := { s.cal with rx := [none, some ⟨3, 0⟩, none, none] } }, 1, 524288 - 128, ⟨3, 0⟩, by decide +kernel⟩

theorem witness_CalibrationRunsAndIsEnabled_12 : ∃ (s : State) (g : Fin 4) (ones : Nat) (x : RxTrim),
    (s.cal.rx[g.val]?).join = some x ∧ 2 ^ 19 + s.rd F.CAL_CFG.MARK_TOL * 64 < ones ∧ x.windows < 63 ∧ (s.cal.rxStep[g.val]?).join = none :=
  ⟨let s := inMode 2 [(F.CAL_RX.OFFSET 1, 31)]; { s with cal := { s.cal with rx := [none, some ⟨3, 0⟩, none, none] } }, 1, 2000000, ⟨3, 0⟩, by decide +kernel⟩

theorem witness_CalibrationRunsAndIsEnabled_13 : ∃ (s : State) (g : Fin 4) (ones : Nat) (up : Bool),
    (s.cal.rxStep[g.val]?).join = some up ∧ (s.cal.rx[g.val]?).join = none :=
  ⟨let s := inMode 2 [(F.CAL_RX.OFFSET 1, 63)]; { s with cal := { s.cal with rx := [none, none, none, none], rxStep := [none, some true, none, none] } }, 1, 2000000, true, by decide +kernel⟩

theorem witness_CalibrationRunsAndIsEnabled_14 : ∃ (s : State) (g : Fin 4) (ones : Nat) (x : RxTrim),
    (s.cal.rx[g.val]?).join = some x ∧ ones ≤ 2 ^ 19 + s.rd F.CAL_CFG.MARK_TOL * 64 ∧ 2 ^ 19 ≤ ones + s.rd F.CAL_CFG.MARK_TOL * 64 ∧ 1 ≤ x.within ∧ s.cal.grp.all Option.isNone = false ∧ (s.cal.rxStep[g.val]?).join = none :=
  ⟨let s := inMode 2 []; { s with cal := { s.cal with rx := [none, some ⟨3, 1⟩, none, none], grp := [some ⟨2, 1, 0, 0, 0, 0, 0⟩, none, none, none] } }, 1, 524288, ⟨3, 1⟩, by decide +kernel⟩

theorem witness_CalibrationRunsAndIsEnabled_15 : ∃ (s : State) (g : Fin 4) (x : GrpTrim),
    s.trim g = some x ∧ x.phase = 1 ∧ 1 ≤ x.turn ∧ x.turn ≤ 24 ∧ s.bit F.BLK_CFG.SPARE_EN = true ∧ s.blk.grp.length = 4 ∧ (s.grp g).swap = none ∧ (s.grp g).carried = some x.lane :=
  ⟨let s := inMode 2 [(F.BLK_CFG.SPARE_EN, 1), (F.CAL_STATUS.STATE, 2)]; { s.putGrp 1 { blkGrpNew with carried := some 4 } with cal := { s.cal with grp := [none, some ⟨5, 1, 0, 77, 0, 0, 0⟩, none, none] } }, 1, ⟨5, 1, 0, 77, 0, 0, 0⟩, by decide +kernel⟩

end Sys2Proof.Tests
end

section
/-! SUPPORT. A DMA channel that is enabled or disabled while it drains (R54, R55): what a held enable and its cancelling
write, and what a first hand-over makes of the channel, of the others and of the registers. -/
namespace Sys2Proof.Machine

/-! ### The channels behind their registers -/

@[simp] theorem State.chan_wr (s : State) (f : Field) (v j : Nat) : (s.wr f v).chan j = s.chan j := rfl

@[simp] theorem State.rd_setChan (s : State) (k : Nat) (c : DmaCh) (f : Field) : (s.setChan k c).rd f = s.rd f := rfl

@[simp] theorem State.chan_setChan_same (s : State) (k : Nat) (c : DmaCh) : (s.setChan k c).chan k = c :=
  smGet_smSet_same _ _ _ _

theorem State.chan_setChan_ne (s : State) (k j : Nat) (c : DmaCh) (h : j ≠ k) : (s.setChan k c).chan j = s.chan j :=
  smGet_smSet_ne _ _ _ _ _ h

@[simp] theorem State.chan_vector (s : State) (v j : Nat) : (s.vector v).chan j = s.chan j := by
  obtain ⟨x, h⟩ := s.vector_frame v
  rw [h]; rfl

@[simp] theorem State.chan_source (s : State) (i j : Nat) : (s.source i).chan j = s.chan j := by
  obtain ⟨r, h⟩ := s.source_frame i
  rw [h]; rfl

/-- Whether a program may run does not depend on another register than DMA_CH_CTL of the channel. -/
theorem State.progOk_wr (s : State) (f : Field) (v k : Nat) (p : DmaProg) (h : (F.DMA_CH_CTL.MODE k).off ≠ f.off) :
    progOk p ((s.wr f v).rd (F.DMA_CH_CTL.MODE k)) ((s.wr f v).bit (F.DMA_CH_CTL.PACE k)) =
      progOk p (s.rd (F.DMA_CH_CTL.MODE k)) (s.bit (F.DMA_CH_CTL.PACE k)) := by
  unfold State.bit State.rd
  rw [State.reg_wr_ne _ _ _ _ h]

/-! ### The first hand-over and the start of a program, step by step (R48, R51) -/

/-- Channel `k` with program `p` active from its first burst, in RUNNING. -/
def State.dmaRunning (s : State) (k : Nat) (p : DmaProg) : State :=
  (s.setChan k { s.chan k with active := p, burst := 0, going := true, fetching := false }).wr (F.DMA_CH_STATUS.STATE k) 1

/-- Channel `k` with its bucket full for the committed bank, a new chain head and no descriptor counted. -/
def State.dmaFilled (s : State) (k : Nat) : State :=
  (s.setChan k { s.chan k with
    fresh := false, tokens := progCap (s.chan k).committed * 400, tokenAt := s.cycle, stopReq := false,
    head := progNext (s.chan k).committed, fetched := 0, outstanding := 0 }).wr (F.DMA_CH_DESC_COUNT.COUNT k) 0

/-- A program runs, or stops the channel with PROGRAM_FAULT, by the MODE and PACE before it. -/
theorem State.dmaRun_eq (s : State) (k : Nat) (p : DmaProg) :
    s.dmaRun k p = if progOk p (s.rd (F.DMA_CH_CTL.MODE k)) (s.bit (F.DMA_CH_CTL.PACE k)) then s.dmaRunning k p
      else (s.dmaRunning k p).dmaStop k 4 := by
  have hok : progOk p ((s.dmaRunning k p).rd (F.DMA_CH_CTL.MODE k)) ((s.dmaRunning k p).bit (F.DMA_CH_CTL.PACE k)) =
      progOk p (s.rd (F.DMA_CH_CTL.MODE k)) (s.bit (F.DMA_CH_CTL.PACE k)) :=
    State.progOk_wr _ _ _ _ _ (by simp)
  rw [← hok]
  rfl

theorem State.dmaStart_eq (s : State) (k : Nat) : s.dmaStart k = (s.dmaFilled k).dmaRun k (s.chan k).committed := rfl

/-! ### What a step of one channel leaves alone -/

/-- The registers that a hand-over of channel `k`, or its stop, may change: its status, its count of descriptors and its
interrupt source. -/
def handoverRegs (k : Nat) : List Nat :=
  [(F.DMA_CH_STATUS.STATE k).off, (F.DMA_CH_DESC_COUNT.COUNT k).off, (F.DOC_ROUTE.PENDING (k - 4)).off]

/-- A step of channel `k` that moves no data: it changes the channel, the due vectors and the registers of a hand-over, and
no memory, no other channel and no other register. -/
structure ChannelStep (k : Nat) (s t : State) : Prop where
  parts : ∃ r d x, t = { s with regs := r, dma := d, hif := { s.hif with due := x } }
  others : ∀ j, j ≠ k → t.chan j = s.chan j
  regs : regsApart (handoverRegs k) s t

namespace ChannelStep

variable {k : Nat} {s t : State}

theorem refl (k : Nat) (s : State) : ChannelStep k s s :=
  ⟨⟨s.regs, s.dma, s.hif.due, rfl⟩, fun _ _ => rfl, regsApart_refl⟩

theorem wr (h : ChannelStep k s t) (f : Field) (v : Nat) (hf : f.off ∈ handoverRegs k) : ChannelStep k s (t.wr f v) := by
  refine ⟨?_, h.others, regsApart_wr f v h.regs hf⟩
  obtain ⟨r, d, x, rfl⟩ := h.parts
  exact ⟨_, d, x, rfl⟩

theorem setChan (h : ChannelStep k s t) (c : DmaCh) : ChannelStep k s (t.setChan k c) := by
  refine ⟨?_, fun j hj => (t.chan_setChan_ne k j c hj).trans (h.others j hj), regsApart_regs h.regs rfl⟩
  obtain ⟨r, d, x, rfl⟩ := h.parts
  exact ⟨r, _, x, rfl⟩

theorem vector (h : ChannelStep k s t) (v : Nat) (hv : v ≤ 32) : ChannelStep k s (t.vector v) := by
  rw [State.vector_eq _ _ hv]
  refine ⟨?_, h.others, regsApart_regs h.regs rfl⟩
  obtain ⟨r, d, x, rfl⟩ := h.parts
  exact ⟨r, d, _, rfl⟩

theorem source (h : ChannelStep k s t) (hk : k < 16) : ChannelStep k s (t.source (k - 4)) := by
  rw [State.source_eq _ _ (by omega)]
  exact h.wr _ _ (by simp [handoverRegs])

theorem dmaIrq (h : ChannelStep k s t) (hk : k < 16) : ChannelStep k s (t.dmaIrq k) := by
  have hv : ChannelStep k s (t.vector (9 + k)) := h.vector _ (by omega)
  unfold State.dmaIrq State.whenD
  split
  · split
    · exact hv.source hk
    · exact hv
  · exact h

theorem dmaStop (h : ChannelStep k s t) (hk : k < 16) (err : Nat) : ChannelStep k s (t.dmaStop k err) :=
  ((((h.setChan _).wr _ _ (by simp [handoverRegs])).wr _ _ (by simp [handoverRegs])).dmaIrq hk)

theorem dmaRun (h : ChannelStep k s t) (hk : k < 16) (p : DmaProg) : ChannelStep k s (t.dmaRun k p) := by
  have hrun : ChannelStep k s (t.dmaRunning k p) := (h.setChan _).wr _ _ (by simp [handoverRegs])
  rw [State.dmaRun_eq]
  split
  · exact hrun
  · exact hrun.dmaStop hk 4

theorem dmaStart (h : ChannelStep k s t) (hk : k < 16) : ChannelStep k s (t.dmaStart k) :=
  ((h.setChan _).wr _ _ (by simp [handoverRegs])).dmaRun hk _

end ChannelStep

/-! ### The interrupt and the stop of a channel -/

@[simp] theorem State.chan_dmaIrq (s : State) (k j : Nat) : (s.dmaIrq k).chan j = s.chan j := by
  unfold State.dmaIrq State.whenD
  split_ifs <;> simp

/-- The interrupt leaves every field outside the block DOC. -/
theorem State.rd_dmaIrq (s : State) (k o l w : Nat) (h : o / 65536 ≠ 32) : (s.dmaIrq k).rd ⟨o, l, w⟩ = s.rd ⟨o, l, w⟩ := by
  have hs : ∀ i, ((s.vector (9 + k)).source i).reg o = s.reg o := fun i => by
    rw [State.source_reg _ _ _ h, State.vector_reg]
  unfold State.dmaIrq State.whenD State.rd
  split_ifs
  · rw [hs]
  · rw [State.vector_reg]
  · rfl

theorem State.dmaStop_state (s : State) (k err : Nat) (hk : k < 16) :
    (s.dmaStop k err).rd (F.DMA_CH_STATUS.STATE k) = 3 := by
  unfold State.dmaStop
  rw [State.rd_dmaIrq _ _ _ _ _ (by omega), State.rd_wr_apart _ _ _ _ _ _ _ (by decide)]
  exact State.rd_wr_same _ _ _ _ _ (by decide)

theorem State.dmaStop_pendingEnable (s : State) (k err : Nat) (hk : k < 16) :
    (s.dmaStop k err).rd (F.DMA_CH_STATUS.PENDING_ENABLE k) = s.rd (F.DMA_CH_STATUS.PENDING_ENABLE k) := by
  unfold State.dmaStop
  rw [State.rd_dmaIrq _ _ _ _ _ (by omega), State.rd_wr_apart _ _ _ _ _ _ _ (by decide),
    State.rd_wr_apart _ _ _ _ _ _ _ (by decide), State.rd_setChan]

theorem State.dmaStop_chan (s : State) (k err : Nat) :
    (s.dmaStop k err).chan k = { s.chan k with going := false, fetching := false, outstanding := 0 } := by
  simp [State.dmaStop]

/-! ### A program that begins to run, and the first hand-over: what the channel then shows -/

theorem State.dmaRun_state (s : State) (k : Nat) (p : DmaProg) (hk : k < 16) :
    (s.dmaRun k p).rd (F.DMA_CH_STATUS.STATE k) =
      if progOk p (s.rd (F.DMA_CH_CTL.MODE k)) (s.bit (F.DMA_CH_CTL.PACE k)) then 1 else 3 := by
  rw [State.dmaRun_eq]
  split
  · exact State.rd_wr_same _ _ _ _ _ (by decide)
  · exact State.dmaStop_state _ _ _ hk

theorem State.dmaRun_pendingEnable (s : State) (k : Nat) (p : DmaProg) (hk : k < 16) :
    (s.dmaRun k p).rd (F.DMA_CH_STATUS.PENDING_ENABLE k) = s.rd (F.DMA_CH_STATUS.PENDING_ENABLE k) := by
  have hrun : (s.dmaRunning k p).rd (F.DMA_CH_STATUS.PENDING_ENABLE k) = s.rd (F.DMA_CH_STATUS.PENDING_ENABLE k) :=
    State.rd_wr_apart _ (F.DMA_CH_STATUS.STATE k).off _ _ _ _ _ (by decide)
  rw [State.dmaRun_eq]
  split
  · exact hrun
  · exact (State.dmaStop_pendingEnable _ _ _ hk).trans hrun

/-- The program is active from its first burst, whether it runs or stops the channel, and the bucket is as it was. -/
theorem State.dmaRun_chan (s : State) (k : Nat) (p : DmaProg) :
    ((s.dmaRun k p).chan k).active = p ∧ ((s.dmaRun k p).chan k).burst = 0 ∧
      ((s.dmaRun k p).chan k).tokens = (s.chan k).tokens := by
  rw [State.dmaRun_eq]
  split
  · simp [State.dmaRunning]
  · simp [State.dmaStop_chan, State.dmaRunning]

theorem State.dmaStart_state (s : State) (k : Nat) (hk : k < 16) :
    (s.dmaStart k).rd (F.DMA_CH_STATUS.STATE k) =
      if progOk (s.chan k).committed (s.rd (F.DMA_CH_CTL.MODE k)) (s.bit (F.DMA_CH_CTL.PACE k)) then 1 else 3 := by
  rw [State.dmaStart_eq, State.dmaRun_state _ _ _ hk, State.dmaFilled, State.progOk_wr _ _ _ _ _ (by simp)]
  rfl

theorem State.dmaStart_pendingEnable (s : State) (k : Nat) (hk : k < 16) :
    (s.dmaStart k).rd (F.DMA_CH_STATUS.PENDING_ENABLE k) = s.rd (F.DMA_CH_STATUS.PENDING_ENABLE k) := by
  rw [State.dmaStart_eq, State.dmaRun_pendingEnable _ _ _ hk, State.dmaFilled, State.rd_wr_off _ _ _ _ _ _ _ _ (by omega),
    State.rd_setChan]

/-- The first hand-over takes the committed bank from its first burst, with a full bucket. -/
theorem State.dmaStart_chan (s : State) (k : Nat) :
    ((s.dmaStart k).chan k).active = (s.chan k).committed ∧ ((s.dmaStart k).chan k).burst = 0 ∧
      ((s.dmaStart k).chan k).tokens = progCap (s.chan k).committed * 400 := by
  obtain ⟨hactive, hburst, htokens⟩ := (s.dmaFilled k).dmaRun_chan k (s.chan k).committed
  exact ⟨hactive, hburst, htokens.trans (by simp [State.dmaFilled])⟩

/-! ### The commands on a channel in DISABLING -/

section
variable {s : State} {m : Master} {k : Fin 16}

/-- An enable while DISABLING sets ENABLE and holds itself as PENDING_ENABLE, and starts nothing (R55). -/
theorem exec_dmaEnable_disabling (hserves : s.serves m (F.DMA_CH_CTL.ENABLE k).off = true)
    (hstate : s.rd (F.DMA_CH_STATUS.STATE k) = 2) :
    exec (.dmaEnable m k) s = .next ((s.wr (F.DMA_CH_CTL.ENABLE k) 1).wr (F.DMA_CH_STATUS.PENDING_ENABLE k) 1) := by
  have hstate' : (s.wr (F.DMA_CH_CTL.ENABLE k) 1).rd (F.DMA_CH_STATUS.STATE k) = 2 :=
    (State.rd_wr_off _ _ _ _ _ _ _ _ (by omega)).trans hstate
  show execDmaEnable m k s = _
  unfold execDmaEnable
  rw [State.gated_serves _ _ _ _ hserves]
  simp only [State.set1_eq, hstate', done]

/-- A disable while DISABLING clears ENABLE and cancels a held enable; the channel has no work left to drop (R54, R55). -/
theorem exec_dmaDisable_disabling (inFlight : Bool) (hserves : s.serves m (F.DMA_CH_CTL.ENABLE k).off = true)
    (hstate : s.rd (F.DMA_CH_STATUS.STATE k) = 2) :
    exec (.dmaDisable m k inFlight) s =
      .next ((s.wr (F.DMA_CH_CTL.ENABLE k) 0).wr (F.DMA_CH_STATUS.PENDING_ENABLE k) 0) := by
  have hstate' : ((s.wr (F.DMA_CH_CTL.ENABLE k) 0).wr (F.DMA_CH_STATUS.PENDING_ENABLE k) 0).rd
      (F.DMA_CH_STATUS.STATE k) = 2 :=
    ((State.rd_wr_apart _ _ _ _ _ _ _ (by decide)).trans (State.rd_wr_off _ _ _ _ _ _ _ _ (by omega))).trans hstate
  show execDmaDisable m k inFlight s = _
  unfold execDmaDisable
  rw [State.gated_serves _ _ _ _ hserves]
  simp [State.dmaDisable, State.clr_eq, hstate', done]

/-- The end of the drain applies a held enable: PENDING_ENABLE is clear and the first hand-over is made (R55). -/
theorem exec_dmaDrainComplete_held (hstate : s.rd (F.DMA_CH_STATUS.STATE k) = 2)
    (hheld : s.bit (F.DMA_CH_STATUS.PENDING_ENABLE k) = true) :
    exec (.dmaDrainComplete k) s = .next ((s.wr (F.DMA_CH_STATUS.PENDING_ENABLE k) 0).dmaStart k) := by
  show execDmaDrainComplete k s = _
  simp [execDmaDrainComplete, hstate, hheld, State.clr_eq, done]

/-- The end of the drain with no enable held leaves the channel idle. -/
theorem exec_dmaDrainComplete_none (hstate : s.rd (F.DMA_CH_STATUS.STATE k) = 2)
    (hnone : s.bit (F.DMA_CH_STATUS.PENDING_ENABLE k) = false) :
    exec (.dmaDrainComplete k) s = .next (s.wr (F.DMA_CH_STATUS.STATE k) 0) := by
  show execDmaDrainComplete k s = _
  simp [execDmaDrainComplete, hstate, hnone, done]

end

/-- What the writes of ENABLE and PENDING_ENABLE leave, and what the fields then read as: an enable held (`v` is 1) or
cancelled (`v` is 0). -/
theorem enableWrites_spec (s : State) (k v : Nat) (hv : v < 2) :
    let t := (s.wr (F.DMA_CH_CTL.ENABLE k) v).wr (F.DMA_CH_STATUS.PENDING_ENABLE k) v
    t.rd (F.DMA_CH_STATUS.PENDING_ENABLE k) = v ∧ t.rd (F.DMA_CH_STATUS.STATE k) = s.rd (F.DMA_CH_STATUS.STATE k) ∧
      t.rd (F.DMA_CH_CTL.ENABLE k) = v ∧ t = { s with regs := t.regs } ∧
      regsApart [(F.DMA_CH_CTL.ENABLE k).off, (F.DMA_CH_STATUS.STATE k).off] s t := by
  have hmod : v % 2 ^ 1 = v := Nat.mod_eq_of_lt hv
  refine ⟨?_, ?_, ?_, rfl, ?_⟩
  · rw [State.rd_wr_same _ _ _ _ _ (by decide), hmod]
  · rw [State.rd_wr_apart _ _ _ _ _ _ _ (by decide), State.rd_wr_off _ _ _ _ _ _ _ _ (by omega)]
  · rw [State.rd_wr_off _ _ _ _ _ _ _ _ (by omega), State.rd_wr_same _ _ _ _ _ (by decide), hmod]
  · exact regsApart_wr _ _ (regsApart_wr _ _ regsApart_refl (by simp)) (by simp)

/-- Settles O15: each command on a channel in DISABLING has one outcome; the held enable's is the first hand-over. -/
theorem enableWhileDisablingIsHeldAndApplied : Obligations.EnableWhileDisablingIsHeldAndApplied := by
  unfold Obligations.EnableWhileDisablingIsHeldAndApplied
  refine ⟨fun s m k hserves hstate => ?_, fun s k hstate hheld => ?_, fun s m k inFlight hserves hstate => ?_,
    fun s k hstate hnone => ?_⟩
  · obtain ⟨hpending, hkeeps, henable, hparts, hregs⟩ := enableWrites_spec s k 1 (by decide)
    exact ⟨_, exec_dmaEnable_disabling hserves hstate, hpending, hkeeps.trans hstate, by simp [State.bit, henable], hparts,
      hregs⟩
  · have hstep : ChannelStep k s ((s.wr (F.DMA_CH_STATUS.PENDING_ENABLE k) 0).dmaStart k) :=
      ((ChannelStep.refl k s).wr _ _ (by simp [handoverRegs])).dmaStart k.isLt
    obtain ⟨hactive, hburst, htokens⟩ := (s.wr (F.DMA_CH_STATUS.PENDING_ENABLE k) 0).dmaStart_chan k
    refine ⟨_, exec_dmaDrainComplete_held hstate hheld, ?_, ?_, hactive, hburst, htokens, fun j _ => hstep.others j, ?_,
      hstep.regs⟩
    · exact (State.dmaStart_pendingEnable _ _ k.isLt).trans (State.rd_wr_same _ _ _ _ _ (by decide))
    · rw [State.dmaStart_state _ _ k.isLt, State.chan_wr, State.progOk_wr _ _ _ _ _ (by simp)]
    · obtain ⟨r, d, x, h⟩ := hstep.parts
      rw [h]
  · obtain ⟨hpending, hkeeps, henable, hparts, hregs⟩ := enableWrites_spec s k 0 (by decide)
    exact ⟨_, exec_dmaDisable_disabling inFlight hserves hstate, hpending, hkeeps.trans hstate, by simp [State.bit, henable],
      hparts, hregs⟩
  · refine ⟨_, exec_dmaDrainComplete_none hstate hnone, State.rd_wr_same _ _ _ _ _ (by decide), rfl, ?_⟩
    exact regsApart_wr _ _ regsApart_refl (by simp)

end Sys2Proof.Machine
end

section
/-! SUPPORT. The check-value units written by their owner (R353, R354): the registers that the feeds still waiting may
change, the parameters that a preset loads, and what the two commands of CRC_Un_CFG answer. -/
namespace Sys2Proof.Machine

/-- A write that the firewall admits, by the owner of the unit, has its effect. -/
theorem State.crcOwned_owner {s : State} {m : Master} {n reg : Nat} (f : State → State)
    (hserves : s.serves m (0x210000 + 0x100 * n + reg) = true) (howner : s.crcOwner m n = true) :
    s.crcOwned m n reg f = f s := by
  unfold State.crcOwned
  rw [State.gated_serves _ _ _ _ hserves, if_pos howner]

/-- The feeds that are processed before a write change STATE and STATUS of their unit and no other register. -/
theorem State.regsApart_crcFlush (s : State) (n : Nat) :
    regsApart [(F.CRC_U_STATE.REG n).off, (F.CRC_U_STATUS.BUSY n).off] s (s.crcFlush n) := by
  have htake : regsApart [(F.CRC_U_STATE.REG n).off, (F.CRC_U_STATUS.BUSY n).off] s
      (s.crcTake n (s.crcFeeds n).flatten) :=
    regsApart_wr _ _ regsApart_refl (by simp)
  exact regsApart_wr _ _ (regsApart_regs htake rfl) (by simp)

theorem State.rd_crcFlush (s : State) (n o l w : Nat) (hstate : o ≠ (F.CRC_U_STATE.REG n).off)
    (hstatus : o ≠ (F.CRC_U_STATUS.BUSY n).off) : (s.crcFlush n).rd ⟨o, l, w⟩ = s.rd ⟨o, l, w⟩ := by
  unfold State.rd
  rw [State.regsApart_crcFlush s n o (by simp [hstate, hstatus])]

/-- Unit `n` with PRESET written, after the feeds that came before. -/
def State.crcPresetWritten (s : State) (n p : Nat) : State := (s.crcFlush n).wr (F.CRC_U_CFG.PRESET n) p

/-- Unit `n` with a row of Table 15-6 in its parameters: width, POLY, INIT, REFIN with REFOUT, XOROUT. -/
def State.crcParams (s : State) (n : Nat) (row : Nat × Nat × Nat × Nat × Nat) : State :=
  let (w, poly, init, ref, xor) := row
  (((((s.wr (F.CRC_U_CFG.WIDTH n) (w - 1)).wr (F.CRC_U_CFG.REFIN n) ref).wr (F.CRC_U_CFG.REFOUT n) ref).wr
    (F.CRC_U_POLY.POLY n) poly).wr (F.CRC_U_INIT.INIT n) init).wr (F.CRC_U_INIT.XOROUT n) xor

/-- A row whose values fit their fields is held as it stands: WIDTH is one below the row's width. -/
theorem State.crcParams_spec (s : State) (n : Nat) {w poly init ref xor : Nat} (hw : 1 ≤ w ∧ w ≤ 32)
    (href : ref < 2) (hpoly : poly < 2 ^ 32) (hinit : init < 2 ^ 32) (hxor : xor < 2 ^ 32) :
    let t := s.crcParams n (w, poly, init, ref, xor)
    (t.rd (F.CRC_U_CFG.WIDTH n) + 1, t.rd (F.CRC_U_CFG.REFIN n), t.rd (F.CRC_U_CFG.REFOUT n)) = (w, ref, ref) ∧
      (t.rd (F.CRC_U_POLY.POLY n), t.rd (F.CRC_U_INIT.INIT n), t.rd (F.CRC_U_INIT.XOROUT n)) = (poly, init, xor) := by
  have hwidth : (w - 1) % 2 ^ 5 + 1 = w := by omega
  have hreflected : ref % 2 ^ 1 = ref := Nat.mod_eq_of_lt href
  simp (disch := omega) only [State.crcParams, State.rd_wr_same, State.rd_wr_apart, State.rd_wr_off, hwidth, hreflected,
    Nat.mod_eq_of_lt hpoly, Nat.mod_eq_of_lt hinit, Nat.mod_eq_of_lt hxor, and_self]

/-- A write of PRESET itself leaves the parameters: every field apart from PRESET, STATE and STATUS of the unit. -/
theorem State.rd_crcPresetWritten (s : State) (n p o l w : Nat) (hstate : o ≠ 0x210038 + 0x100 * n)
    (hstatus : o ≠ 0x210048 + 0x100 * n) (hpreset : o ≠ 0x210008 + 0x100 * n ∨ 2 ≤ l) :
    (s.crcPresetWritten n p).rd ⟨o, l, w⟩ = s.rd ⟨o, l, w⟩ := by
  have hflush : (s.crcFlush n).rd ⟨o, l, w⟩ = s.rd ⟨o, l, w⟩ := s.rd_crcFlush n o l w hstate hstatus
  by_cases ho : 0x210008 + 0x100 * n = o
  · subst ho
    exact (State.rd_wr_apart _ _ _ _ _ _ _ (by omega)).trans hflush
  · exact (State.rd_wr_off _ _ _ _ _ _ _ _ ho).trans hflush

/-! ### The commands of CRC_Un_CFG by the owner -/

section
variable {s : State} {m : Master} {n : Fin 4}

theorem State.crcOwned_cfg (f : State → State) (hserves : s.serves m (F.CRC_U_CFG.PRESET n).off = true)
    (howner : s.crcOwner m n = true) : s.crcOwned m n 0x08 f = f s := by
  have hoff : (F.CRC_U_CFG.PRESET n).off = 0x210000 + 0x100 * n + 0x08 := by simp only []; omega
  exact State.crcOwned_owner f (hoff ▸ hserves) howner

theorem exec_crcPreset_row {p : Fin 4} (hp : p ≠ 3) (hserves : s.serves m (F.CRC_U_CFG.PRESET n).off = true)
    (howner : s.crcOwner m n = true) :
    exec (.crcPreset m n p) s = .next ((s.crcPresetWritten n p).crcParams n (crcPresetRow p)) := by
  have hval : p.val ≠ 3 := fun h => hp (Fin.ext h)
  show execCrcPreset m n p s = _
  unfold execCrcPreset
  rw [State.crcOwned_cfg _ hserves howner, if_neg hval]
  rfl

theorem exec_crcPreset_programmable (hserves : s.serves m (F.CRC_U_CFG.PRESET n).off = true)
    (howner : s.crcOwner m n = true) : exec (.crcPreset m n 3) s = .next (s.crcPresetWritten n 3) := by
  show execCrcPreset m n 3 s = _
  unfold execCrcPreset
  rw [State.crcOwned_cfg _ hserves howner]
  rfl

theorem exec_crcLoad_owner (hserves : s.serves m (F.CRC_U_CFG.PRESET n).off = true) (howner : s.crcOwner m n = true) :
    exec (.crcLoad m n) s =
      .next ((s.crcFlush n).wr (F.CRC_U_STATE.REG n) ((s.crcFlush n).rd (F.CRC_U_INIT.INIT n))) := by
  show execCrcLoad m n s = _
  unfold execCrcLoad
  rw [State.crcOwned_cfg _ hserves howner]
  rfl

end

/-- Settles O54: a preset's row is what the parameters then read as, PRESET 3 writes no parameter, LOAD copies an INIT
that the feeds before it left alone, and the three check values are computed. -/
theorem presetsAndLoadSetTheCheckValueUnit : Obligations.PresetsAndLoadSetTheCheckValueUnit := by
  unfold Obligations.PresetsAndLoadSetTheCheckValueUnit
  refine ⟨fun s m n p w poly init ref xor hserves howner hrow => ?_, fun s m n hserves howner => ?_,
    fun s m n hserves howner => ?_, by decide +kernel⟩
  · obtain ⟨rfl, ⟨⟩⟩ | ⟨rfl, ⟨⟩⟩ | ⟨rfl, ⟨⟩⟩ := hrow
    all_goals exact ⟨_, exec_crcPreset_row (by decide) hserves howner,
      State.crcParams_spec _ n (by decide) (by decide) (by decide) (by decide) (by decide)⟩
  · refine ⟨_, exec_crcPreset_programmable hserves howner, ?_⟩
    simp (disch := omega) only [State.rd_crcPresetWritten, and_self]
  · have hinit : (s.crcFlush n).rd (F.CRC_U_INIT.INIT n) = s.rd (F.CRC_U_INIT.INIT n) :=
      s.rd_crcFlush n _ _ _ (by simp) (by simp)
    have hfits : s.rd (F.CRC_U_INIT.INIT n) < 2 ^ 32 := s.rd_lt _
    refine ⟨_, exec_crcLoad_owner hserves howner, (State.rd_wr_same _ _ _ _ _ (by decide)).trans ?_⟩
    rw [hinit, Nat.mod_eq_of_lt hfits]

end Sys2Proof.Machine
end

section
/-! SUPPORT. Soundness over all commands: each answers a sound next state and leaves the queue, and so does a cycle of
CLK_CTL. -/
namespace Sys2Proof.Machine

/-- Every command keeps soundness and the queue, each by the law of its own meaning. -/
theorem exec_ok (queue : List Instr) (c : Instr) (s : State) (hok : Ok queue s) : OkOut queue (exec c s) := by
  cases c with
  | registerWrite m off w v => exact execRegisterWrite_ok queue m off w v s hok
  | w1cClear m off w v events => exact execW1cClear_ok queue m off w v events s hok
  | rcRead m off w events => exact execRcRead_ok queue m off w events s hok
  | setupDoorbell m w v => exact execSetupDoorbell_ok queue m w v s hok
  | setupRecordFetched record => exact execSetupRecordFetched_ok queue record s hok
  | pcieLinkReset down bme => exact execPcieLinkReset_ok queue down bme s hok
  | pcieLinkTrained speed width ltssm bme => exact execPcieLinkTrained_ok queue speed width ltssm bme s hok
  | pcieFatalError => exact execPcieFatalError_ok queue s hok
  | pcieCorrectableError => exact execPcieCorrectableError_ok queue s hok
  | unexpectedCompletion => exact execUnexpectedCompletion_ok queue s hok
  | sqTailDoorbell m n tail => exact execSqTailDoorbell_ok queue m n tail s hok
  | submissionEntryRead n entry => exact execSubmissionEntryRead_ok queue n entry s hok
  | blockDataReceived p seq data => exact execBlockDataReceived_ok queue p seq data s hok
  | poisonedCompletion p seq data => exact execPoisonedCompletion_ok queue p seq data s hok
  | completionTimeout k p read => exact execCompletionTimeout_ok queue k p read s hok
  | completionPosted => exact execCompletionPosted_ok queue s hok
  | retiredTimerExpiry p => exact execRetiredTimerExpiry_ok queue p s hok
  | hqHeadWrite m q head => exact execHqHeadWrite_ok queue m q head s hok
  | refetchRequestPosted => exact execRefetchRequestPosted_ok queue s hok
  | msixSend v => exact execMsixSend_ok queue v s hok
  | cqModDelayExpiry => exact execCqModDelayExpiry_ok queue s hok
  | msixUnmask v => exact execMsixUnmask_ok queue v s hok
  | dmaEnable m k => exact execDmaEnable_ok queue m k s hok
  | dmaDisable m k inFlight => exact execDmaDisable_ok queue m k inFlight s hok
  | dmaGo m k => exact execDmaGo_ok queue m k s hok
  | dmaStop m k => exact execDmaStop_ok queue m k s hok
  | shadowCommit m k late => exact execShadowCommit_ok queue m k late s hok
  | dmaBurst k hostData finds => exact execDmaBurst_ok queue k hostData finds s hok
  | dmaHandover k => exact execDmaHandover_ok queue k s hok
  | dmaDescriptorFetched k => exact execDmaDescriptorFetched_ok queue k s hok
  | dmaBusTimeout k readData => exact execDmaBusTimeout_ok queue k readData s hok
  | dmaDrainComplete k => exact execDmaDrainComplete_ok queue k s hok
  | dmaErrClear m k bits => exact execDmaErrClear_ok queue m k bits s hok
  | blockChecked p seq disturbed => exact execBlockChecked_ok queue p seq disturbed s hok
  | leafAdmission p => exact execLeafAdmission_ok queue p s hok
  | blockConsumed p => exact execBlockConsumed_ok queue p s hok
  | tileRowDeadline p => exact execTileRowDeadline_ok queue p s hok
  | gugEnable m => exact execGugEnable_ok queue m s hok
  | gugDisable m written => exact execGugDisable_ok queue m written s hok
  | gugGo m => exact execGugGo_ok queue m s hok
  | gugJobComplete flaw => exact execGugJobComplete_ok queue flaw s hok
  | gugDrainComplete => exact execGugDrainComplete_ok queue s hok
  | gugErrClear m bits => exact execGugErrClear_ok queue m bits s hok
  | densityRowDone p poison flatten => exact execDensityRowDone_ok queue p poison flatten s hok
  | pecRowDone p poison => exact execPecRowDone_ok queue p poison s hok
  | tileStart e => exact execTileStart_ok queue e s hok
  | edgePhaseEnd e poison ecc corrected => exact execEdgePhaseEnd_ok queue e poison ecc corrected s hok
  | sweepEnd e f => exact execSweepEnd_ok queue e f s hok
  | tallyVerdict e => exact execTallyVerdict_ok queue e s hok
  | tileScatterEnd e ecc corrected => exact execTileScatterEnd_ok queue e ecc corrected s hok
  | talInjectWrite m v => exact execTalInjectWrite_ok queue m v s hok
  | bctCommitGo m leaf => exact execBctCommitGo_ok queue m leaf s hok
  | bctLoadStart => exact execBctLoadStart_ok queue s hok
  | bctCommitResolved => exact execBctCommitResolved_ok queue s hok
  | dueMarkCrossing second => exact execDueMarkCrossing_ok queue second s hok
  | slotStrobe => exact execSlotStrobe_ok queue s hok
  | slotReleaseDecision sealDiffers => exact execSlotReleaseDecision_ok queue sealDiffers s hok
  | frameReadDone corrected bad wings => exact execFrameReadDone_ok queue corrected bad wings s hok
  | frameTransmitStart free idle => exact execFrameTransmitStart_ok queue free idle s hok
  | reserveRowRemapCopy => exact execReserveRowRemapCopy_ok queue s hok
  | encoderTransition n edge fast velocity accel => exact execEncoderTransition_ok queue n edge fast velocity accel s hok
  | encoderLos n => exact execEncoderLos_ok queue n s hok
  | encoderIndex n => exact execEncoderIndex_ok queue n s hok
  | leafArm twin => exact execLeafArm_ok queue twin s hok
  | trackerPause => exact execTrackerPause_ok queue s hok
  | pauseLimitExpiry => exact execPauseLimitExpiry_ok queue s hok
  | leafBoundary twin => exact execLeafBoundary_ok queue twin s hok
  | sltAbort m => exact execSltAbort_ok queue m s hok
  | blankReqAssert => exact execBlankReqAssert_ok queue s hok
  | blankReqRelease => exact execBlankReqRelease_ok queue s hok
  | blankLasting => exact execBlankLasting_ok queue s hok
  | stageSlowHoldExpiry => exact execStageSlowHoldExpiry_ok queue s hok
  | dutyVerdict => exact execDutyVerdict_ok queue s hok
  | dutySubwindowRoll plate => exact execDutySubwindowRoll_ok queue plate s hok
  | lacunaOpenLimitExpiry rel => exact execLacunaOpenLimitExpiry_ok queue rel s hok
  | lacunaStreamCloseExpiry => exact execLacunaStreamCloseExpiry_ok queue s hok
  | lacunaRecordWritten => exact execLacunaRecordWritten_ok queue s hok
  | lacCursorWrite m v => exact execLacCursorWrite_ok queue m v s hok
  | lacAckWrite m v => exact execLacAckWrite_ok queue m v s hok
  | amIdleTimer g => exact execAmIdleTimer_ok queue g s hok
  | status g b => exact execStatus_ok queue g b s hok
  | statusLost => exact execStatusLost_ok queue s hok
  | temp g b => exact execTemp_ok queue g b s hok
  | tempSilent => exact execTempSilent_ok queue s hok
  | margin g b => exact execMargin_ok queue g b s hok
  | hello g b => exact execHello_ok queue g b s hok
  | rate g b => exact execRate_ok queue g b s hok
  | laneEvent g b => exact execLaneEvent_ok queue g b s hok
  | blkAlignTimeout g => exact execBlkAlignTimeout_ok queue g s hok
  | blkBackchannelSilent g => exact execBlkBackchannelSilent_ok queue g s hok
  | blkBackchannelLock g => exact execBlkBackchannelLock_ok queue g s hok
  | blkRateSwitch => exact execBlkRateSwitch_ok queue s hok
  | blkStepUpStart => exact execBlkStepUpStart_ok queue s hok
  | blkEnable m => exact execBlkEnable_ok queue m s hok
  | blkDisable m => exact execBlkDisable_ok queue m s hok
  | blkStepUp m => exact execBlkStepUp_ok queue m s hok
  | blkRetrain m => exact execBlkRetrain_ok queue m s hok
  | blkDrainComplete g => exact execBlkDrainComplete_ok queue g s hok
  | spareSwapAm g => exact execSpareSwapAm_ok queue g s hok
  | memRequestAdmitted c arrivals => exact execMemRequestAdmitted_ok queue c arrivals s hok
  | memRequestServed c sub flips block => exact execMemRequestServed_ok queue c sub flips block s hok
  | memAgePromotion c cls => exact execMemAgePromotion_ok queue c cls s hok
  | urgentWindowRoll c => exact execUrgentWindowRoll_ok queue c s hok
  | fabricTimeout c => exact execFabricTimeout_ok queue c s hok
  | scrubRead bank row => exact execScrubRead_ok queue bank row s hok
  | scrubWriteback => exact execScrubWriteback_ok queue s hok
  | scrubBehind => exact execScrubBehind_ok queue s hok
  | refreshDebtAccrue c => exact execRefreshDebtAccrue_ok queue c s hok
  | refreshIssue c sub rank span => exact execRefreshIssue_ok queue c sub rank span s hok
  | mr4Poll c twice hot => exact execMr4Poll_ok queue c twice hot s hok
  | selfRefreshEntry c => exact execSelfRefreshEntry_ok queue c s hok
  | selfRefreshExit c span => exact execSelfRefreshExit_ok queue c span s hok
  | channelTrainingDone c lanes => exact execChannelTrainingDone_ok queue c lanes s hok
  | channelZeroFillDone c => exact execChannelZeroFillDone_ok queue c s hok
  | memRetrain m c => exact execMemRetrain_ok queue m c s hok
  | memApply m c => exact execMemApply_ok queue m c s hok
  | scrEnable m => exact execScrEnable_ok queue m s hok
  | scrDisable m => exact execScrDisable_ok queue m s hok
  | scrDrainComplete => exact execScrDrainComplete_ok queue s hok
  | svyFrameStart p fnum => exact execSvyFrameStart_ok queue p fnum s hok
  | svyLinePacket p data crcOk => exact execSvyLinePacket_ok queue p data crcOk s hok
  | svyFrameEnd p fnum => exact execSvyFrameEnd_ok queue p fnum s hok
  | svyForeignPacket p vc dt => exact execSvyForeignPacket_ok queue p vc dt s hok
  | svyEmbeddedPacket p => exact execSvyEmbeddedPacket_ok queue p s hok
  | svyDphyError p => exact execSvyDphyError_ok queue p s hok
  | svySetSubmit m p v => exact execSvySetSubmit_ok queue m p v s hok
  | svyListStart bus => exact execSvyListStart_ok queue bus s hok
  | svyFrameTimeout bus => exact execSvyFrameTimeout_ok queue bus s hok
  | i2cWriteDone p end_ => exact execI2cWriteDone_ok queue p end_ s hok
  | i2cStretchTimeout p => exact execI2cStretchTimeout_ok queue p s hok
  | svyListComplete p => exact execSvyListComplete_ok queue p s hok
  | svyRecordWritten p => exact execSvyRecordWritten_ok queue p s hok
  | svyConfigWrite m p which w upper v => exact execSvyConfigWrite_ok queue m p which w upper v s hok
  | svyDefectSwap m p count => exact execSvyDefectSwap_ok queue m p count s hok
  | svyAckWrite m p w upper v => exact execSvyAckWrite_ok queue m p w upper v s hok
  | svyEnable m p => exact execSvyEnable_ok queue m p s hok
  | svyDisable m p => exact execSvyDisable_ok queue m p s hok
  | svyDrainComplete p => exact execSvyDrainComplete_ok queue p s hok
  | axmPush m stop => exact execAxmPush_ok queue m stop s hok
  | axisCommandStart => exact execAxisCommandStart_ok queue s hok
  | axisStep => exact execAxisStep_ok queue s hok
  | dwellExpiry => exact execDwellExpiry_ok queue s hok
  | limitActive a positive => exact execLimitActive_ok queue a positive s hok
  | limitReleased a positive since => exact execLimitReleased_ok queue a positive since s hok
  | homeInputChange a active => exact execHomeInputChange_ok queue a active s hok
  | axisStopActive => exact execAxisStopActive_ok queue s hok
  | axisStopReleased => exact execAxisStopReleased_ok queue s hok
  | stepMismatch a => exact execStepMismatch_ok queue a s hok
  | axmEnable m => exact execAxmEnable_ok queue m s hok
  | axmDisable m => exact execAxmDisable_ok queue m s hok
  | axmDrainComplete => exact execAxmDrainComplete_ok queue s hok
  | axmClear m => exact execAxmClear_ok queue m s hok
  | timSampleWrite m b w v => exact execTimSampleWrite_ok queue m b w v s hok
  | tb1HwSample => exact execTb1HwSample_ok queue s hok
  | timSetWrite m b w v sampled => exact execTimSetWrite_ok queue m b w v sampled s hok
  | servoHoldoverTimeout b => exact execServoHoldoverTimeout_ok queue b s hok
  | timSecRead m n w upper => exact execTimSecRead_ok queue m n w upper s hok
  | ethFrameReceived p frame fcsOk point => exact execEthFrameReceived_ok queue p frame fcsOk point s hok
  | ethTxWrite m p w v => exact execEthTxWrite_ok queue m p w v s hok
  | ethFrameSent p at_ => exact execEthFrameSent_ok queue p at_ s hok
  | txtsHiRead m w upper => exact execTxtsHiRead_ok queue m w upper s hok
  | twinPeerAuthChange high => exact execTwinPeerAuthChange_ok queue high s hok
  | bothAuth => exact execBothAuth_ok queue s hok
  | twinFailInHigh high => exact execTwinFailInHigh_ok queue high s hok
  | aloneWaitExpiry => exact execAloneWaitExpiry_ok queue s hok
  | heartbeatSend => exact execHeartbeatSend_ok queue s hok
  | heartbeat b => exact execHeartbeat_ok queue b s hok
  | hbLost => exact execHbLost_ok queue s hok
  | helloSend => exact execHelloSend_ok queue s hok
  | ikisalHello b => exact execIkisalHello_ok queue b s hok
  | digest b => exact execDigest_ok queue b s hok
  | ikisalCommit b => exact execIkisalCommit_ok queue b s hok
  | commitResult b => exact execCommitResult_ok queue b s hok
  | tableMsg b body => exact execTableMsg_ok queue b body s hok
  | recordMsg b body => exact execRecordMsg_ok queue b body s hok
  | endMsg b => exact execEndMsg_ok queue b s hok
  | endConfirmTimeout => exact execEndConfirmTimeout_ok queue s hok
  | handover b => exact execHandover_ok queue b s hok
  | twnYield m => exact execTwnYield_ok queue m s hok
  | timeSyncSend => exact execTimeSyncSend_ok queue s hok
  | timeSync b => exact execTimeSync_ok queue b s hok
  | timeDelay b => exact execTimeDelay_ok queue b s hok
  | timeResp b => exact execTimeResp_ok queue b s hok
  | timeExchangeTimeout => exact execTimeExchangeTimeout_ok queue s hok
  | iklEnable m => exact execIklEnable_ok queue m s hok
  | iklDisable m => exact execIklDisable_ok queue m s hok
  | iklStepUp m => exact execIklStepUp_ok queue m s hok
  | iklRetrain m => exact execIklRetrain_ok queue m s hok
  | iklTs lock am ts => exact execIklTs_ok queue lock am ts s hok
  | iklAlignTimeout => exact execIklAlignTimeout_ok queue s hok
  | iklLinkSilent lock => exact execIklLinkSilent_ok queue lock s hok
  | iklRateSwitch => exact execIklRateSwitch_ok queue s hok
  | iklDrainComplete => exact execIklDrainComplete_ok queue s hok
  | resetAssert => exact execResetAssert_ok queue s hok
  | powerGoodDelay => exact execPowerGoodDelay_ok queue s hok
  | resetRelease role flash testN => exact execResetRelease_ok queue role flash testN s hok
  | bootStepDone step ok => exact execBootStepDone_ok queue step ok s hok
  | bootStepTimeout step => exact execBootStepTimeout_ok queue step s hok
  | attemptAgeOut => exact execAttemptAgeOut_ok queue s hok
  | previewEntry => exact execPreviewEntry_ok queue s hok
  | runEntry => exact execRunEntry_ok queue s hok
  | bootQuiesce m => exact execBootQuiesce_ok queue m s hok
  | quiesceComplete => exact execQuiesceComplete_ok queue s hok
  | bootRestart m => exact execBootRestart_ok queue m s hok
  | clearAttempts m => exact execClearAttempts_ok queue m s hok
  | fuseProgram m h => exact execFuseProgram_ok queue m h s hok
  | fuseRevoke m h => exact execFuseRevoke_ok queue m h s hok
  | fuseOperationDone => exact execFuseOperationDone_ok queue s hok
  | flashErase m => exact execFlashErase_ok queue m s hok
  | flashProgram m len => exact execFlashProgram_ok queue m len s hok
  | flashRead m len => exact execFlashRead_ok queue m len s hok
  | flashCommandDone ok => exact execFlashCommandDone_ok queue ok s hok
  | safeRestartExpiry => exact execSafeRestartExpiry_ok queue s hok
  | keeperLockstep => exact execKeeperLockstep_ok queue s hok
  | keeperWatchdog => exact execKeeperWatchdog_ok queue s hok
  | safWdogWrite m v => exact execSafWdogWrite_ok queue m v s hok
  | safDemandWrite m v => exact execSafDemandWrite_ok queue m v s hok
  | clockFault clock ppm => exact execClockFault_ok queue clock ppm s hok
  | supplyExcursion n mv held => exact execSupplyExcursion_ok queue n mv held s hok
  | padReadbackFault auth => exact execPadReadbackFault_ok queue auth s hok
  | guardCompare => exact execGuardCompare_ok queue s hok
  | dieSensorSample temps => exact execDieSensorSample_ok queue temps s hok
  | guardRecordPersisted => exact execGuardRecordPersisted_ok queue s hok
  | latentGroupRun fail eyes => exact execLatentGroupRun_ok queue fail eyes s hok
  | latentIdleTimer => exact execLatentIdleTimer_ok queue s hok
  | kprReqPush m => exact execKprReqPush_ok queue m s hok
  | commitTable => exact execCommitTable_ok queue s hok
  | yield => exact execYield_ok queue s hok
  | retrain => exact execRetrain_ok queue s hok
  | link => exact execLink_ok queue s hok
  | scrub => exact execScrub_ok queue s hok
  | note => exact execNote_ok queue s hok
  | restart mepc => exact execRestart_ok queue mepc s hok
  | safe => exact execSafe_ok queue s hok
  | docWdogKick m c => exact execDocWdogKick_ok queue m c s hok
  | docWatchdogExpiry c mepc => exact execDocWatchdogExpiry_ok queue c mepc s hok
  | docLockup c mepc => exact execDocLockup_ok queue c mepc s hok
  | docCtlRestart m mepc => exact execDocCtlRestart_ok queue m mepc s hok
  | docRestartComplete ok => exact execDocRestartComplete_ok queue ok s hok
  | hostmbSend m mb w v => exact execHostmbSend_ok queue m mb w v s hok
  | hostmbHostRead mb => exact execHostmbHostRead_ok queue mb s hok
  | crcClaimRead m n => exact execCrcClaimRead_ok queue m n s hok
  | crcPreset m n p => exact execCrcPreset_ok queue m n p s hok
  | crcLoad m n => exact execCrcLoad_ok queue m n s hok
  | crcRelease m n => exact execCrcRelease_ok queue m n s hok
  | crcDataFeed m n w v => exact execCrcDataFeed_ok queue m n w v s hok
  | crcResultRead m n raw => exact execCrcResultRead_ok queue m n raw s hok
  | crcStateWrite m n v => exact execCrcStateWrite_ok queue m n v s hok
  | aclRecordEnter event data => exact execAclRecordEnter_ok queue event data s hok
  | aclFreeze m => exact execAclFreeze_ok queue m s hok
  | aclUnfreeze m => exact execAclUnfreeze_ok queue m s hok
  | freezeExpired => exact execFreezeExpired_ok queue s hok
  | aclCopyStart => exact execAclCopyStart_ok queue s hok
  | aclCopyDone => exact execAclCopyDone_ok queue s hok
  | aclWindowSelect m cursor v => exact execAclWindowSelect_ok queue m cursor v s hok
  | aclWindowFilled => exact execAclWindowFilled_ok queue s hok
  | newChallenge m => exact execNewChallenge_ok queue m s hok
  | clear m => exact execClear_ok queue m s hok
  | signatureVerified => exact execSignatureVerified_ok queue s hok
  | aclAuthWrite m w v => exact execAclAuthWrite_ok queue m w v s hok
  | aclClearDone => exact execAclClearDone_ok queue s hok
  | pmcCtrWrite m k w upper v events => exact execPmcCtrWrite_ok queue m k w upper v events s hok
  | pmcSelWrite m k v => exact execPmcSelWrite_ok queue m k v s hok
  | pmcFreeze m v => exact execPmcFreeze_ok queue m v s hok
  | pmcCtrLowRead m j w unseen odd => exact execPmcCtrLowRead_ok queue m j w unseen odd s hok
  | pmcCounterWrap k => exact execPmcCounterWrap_ok queue k s hok
  | pmcSampleTaken core pc opcode latency mode => exact execPmcSampleTaken_ok queue core pc opcode latency mode s hok
  | pmcSampleAck m h => exact execPmcSampleAck_ok queue m h s hok
  | calRunStart => exact execCalRunStart_ok queue s hok
  | calRunWrite m => exact execCalRunWrite_ok queue m s hok
  | calEnable m => exact execCalEnable_ok queue m s hok
  | calDisable m => exact execCalDisable_ok queue m s hok
  | calDrainComplete => exact execCalDrainComplete_ok queue s hok
  | rxMarkWindow g ones => exact execRxMarkWindow_ok queue g ones s hok
  | strapChange strap high => exact execStrapChange_ok queue strap high s hok
  | perstRelease => exact execPerstRelease_ok queue s hok
  | ikisalHeadDiscard => exact execIkisalHeadDiscard_ok queue s hok
  | svyHeaderEccError p => exact execSvyHeaderEccError_ok queue p s hok
  | ethBlockLockChange p lock => exact execEthBlockLockChange_ok queue p lock s hok
  | trimLockTimeout g => exact execTrimLockTimeout_ok queue g s hok
  | docRestartAgeOut => exact execDocRestartAgeOut_ok queue s hok
  | blankAllNLowObserved low => exact execBlankAllNLowObserved_ok queue low s hok
  | tapInstructionUpdate ins => exact execTapInstructionUpdate_ok queue ins s hok

theorem step_sound {s t : State} (hs : s.sound) (hstep : step s = .next t) : t.sound := by
  have hok : Ok s.pending s := (ok_iff _ _).mpr ⟨rfl, hs⟩
  cases hpending : s.pending with
  | nil =>
    simp only [step, hpending, Host.Outcome.next.injEq] at hstep
    subst hstep
    exact ((ok_iff _ _).mp (tick_ok _ s hok)).2
  | cons c rest =>
    obtain ⟨u, hu, hok'⟩ := exec_ok rest c { s with pending := rest } ((ok_iff _ _).mpr ⟨rfl, hs⟩)
    simp only [step, hpending, hu, Host.Outcome.next.injEq] at hstep
    subst hstep
    exact ((ok_iff _ _).mp hok').2

/-- Settles O1: a step is the front command on the rest of the queue, or a cycle of CLK_CTL; each keeps soundness. -/
theorem everyStepKeepsSoundness : Obligations.EveryStepKeepsSoundness := by
  unfold Obligations.EveryStepKeepsSoundness
  exact fun s t hs hstep => step_sound hs hstep

/-- Settles O4, by the law of each command's meaning. -/
theorem everyCommandRunsOnAndKeepsTheQueue : Obligations.EveryCommandRunsOnAndKeepsTheQueue := by
  unfold Obligations.EveryCommandRunsOnAndKeepsTheQueue
  intro c s hs
  obtain ⟨t, ht, hok⟩ := exec_ok s.pending c s ((ok_iff _ _).mpr ⟨rfl, hs⟩)
  obtain ⟨hpending, hsound⟩ := (ok_iff _ _).mp hok
  exact ⟨t, ht, hpending, hsound⟩

theorem State.reset_sound : State.reset.sound := ⟨by decide +kernel, by decide +kernel⟩

/-- Settles O2: the state after reset lists nothing, so that its canonical form and its units are evaluated. -/
theorem resetIsSound : Obligations.ResetIsSound := by
  unfold Obligations.ResetIsSound
  exact ⟨State.reset_sound, rfl, rfl, rfl, rfl, rfl, rfl, by decide +kernel⟩

/-- Settles O3, by the front of the queue. -/
theorem stepRunsTheFrontCommand : Obligations.StepRunsTheFrontCommand := by
  unfold Obligations.StepRunsTheFrontCommand
  intro c rest s hpending
  simp only [step, hpending]

end Sys2Proof.Machine
end

section
/-! SUPPORT. Reading a state that an operation has written out: a state given field by field holds the registers of the state
that its register file comes from; frames by register are decided write by write; vectors that become due. -/
namespace Sys2Proof.Machine

/-! ### A state written out holds the registers of its register file -/

section
variable (u : State) (a1 : SMap Nat) (a2 : SMap Byte) (a3 : List Nat) (a4 : SMap Nat) (a5 a6 : SMap Byte) (a7 : SMap Nat)
  (a8 : SMap Byte) (a9 : SMap Nat) (a10 : Option (Nat × Nat × List Byte × Bool)) (a11 : SMap Byte) (a12 : List Nat)
  (a13 a14 : Nat) (a15 : Word) (a16 a17 : Bool) (a18 : Option (Nat × Nat)) (a19 a20 a21 : TimeBase) (a22 : HifSt)
  (a23 : SMap DmaCh) (a24 : BctSt) (a25 : RsvSt) (a26 : FolSt) (a27 : SltSt) (a28 : DutSt) (a29 : LacSt) (a30 : IklSt)
  (a31 : TwnSt) (a32 : BlkSt) (a33 : MemSt) (a34 : List SvyPipe) (a35 : AxmSt) (a36 : TimSt) (a37 : BootSt) (a38 : AclSt)
  (a39 : KprSt) (a40 : SafSt) (a41 : CalSt) (a42 : PmcSt) (a43 : PinSt) (a44 : List Instr)

@[simp] theorem State.reg_mk (o : Nat) : State.reg ⟨u.regs, a1, a2, a3, a4, a5, a6, a7, a8, a9, a10, a11, a12, a13, a14, a15,
    a16, a17, a18, a19, a20, a21, a22, a23, a24, a25, a26, a27, a28, a29, a30, a31, a32, a33, a34, a35, a36, a37, a38, a39, a40,
    a41, a42, a43, a44⟩ o = u.reg o := State.reg_of_regs _ _ rfl _

@[simp] theorem State.rd_mk (f : Field) : State.rd ⟨u.regs, a1, a2, a3, a4, a5, a6, a7, a8, a9, a10, a11, a12, a13, a14, a15,
    a16, a17, a18, a19, a20, a21, a22, a23, a24, a25, a26, a27, a28, a29, a30, a31, a32, a33, a34, a35, a36, a37, a38, a39, a40,
    a41, a42, a43, a44⟩ f = u.rd f := State.rd_of_regs _ _ rfl _

@[simp] theorem State.bit_mk (f : Field) : State.bit ⟨u.regs, a1, a2, a3, a4, a5, a6, a7, a8, a9, a10, a11, a12, a13, a14, a15,
    a16, a17, a18, a19, a20, a21, a22, a23, a24, a25, a26, a27, a28, a29, a30, a31, a32, a33, a34, a35, a36, a37, a38, a39, a40,
    a41, a42, a43, a44⟩ f = u.bit f := by
  unfold State.bit
  rw [State.rd_mk]

@[simp] theorem regsApart_mk (l : List Nat) (s : State) : regsApart l s ⟨u.regs, a1, a2, a3, a4, a5, a6, a7, a8, a9, a10, a11,
    a12, a13, a14, a15, a16, a17, a18, a19, a20, a21, a22, a23, a24, a25, a26, a27, a28, a29, a30, a31, a32, a33, a34, a35, a36,
    a37, a38, a39, a40, a41, a42, a43, a44⟩ ↔ regsApart l s u := by
  simp only [regsApart, State.reg_mk]

@[simp] theorem regsOutside_mk (b : Nat → Bool) (s : State) : regsOutside b s ⟨u.regs, a1, a2, a3, a4, a5, a6, a7, a8, a9, a10,
    a11, a12, a13, a14, a15, a16, a17, a18, a19, a20, a21, a22, a23, a24, a25, a26, a27, a28, a29, a30, a31, a32, a33, a34, a35,
    a36, a37, a38, a39, a40, a41, a42, a43, a44⟩ ↔ regsOutside b s u := by
  simp only [regsOutside, State.reg_mk]

end

/-! ### Frames, write by write -/

@[simp] theorem regsApart_self (l : List Nat) (s : State) : regsApart l s s := regsApart_refl
@[simp] theorem regsOutside_self (b : Nat → Bool) (s : State) : regsOutside b s s := regsOutside_refl

/-- A write of a listed register is judged by the state before it. -/
@[simp] theorem regsApart_wr_iff {l : List Nat} {s t : State} (f : Field) (v : Nat) (hf : f.off ∈ l) :
    regsApart l s (t.wr f v) ↔ regsApart l s t :=
  ⟨fun h o ho => (State.reg_wr_ne t f v o (fun e => ho (e ▸ hf))).symm.trans (h o ho), fun h => regsApart_wr f v h hf⟩

@[simp] theorem regsApart_setReg_iff {l : List Nat} {s t : State} (o : Nat) (v : Word) (ho : o ∈ l) :
    regsApart l s (t.setReg o v) ↔ regsApart l s t :=
  ⟨fun h x hx => (State.reg_setReg_ne t o x v (fun e => hx (e ▸ ho))).symm.trans (h x hx), fun h => regsApart_setReg o v h ho⟩

@[simp] theorem regsOutside_wr_iff {b : Nat → Bool} {s t : State} (f : Field) (v : Nat) (hf : b (f.off / 0x10000) = true) :
    regsOutside b s (t.wr f v) ↔ regsOutside b s t :=
  ⟨fun h o ho => (State.reg_wr_ne t f v o (fun e => by rw [e, hf] at ho; exact absurd ho (by decide))).symm.trans (h o ho),
    fun h => regsOutside_wr f v h hf⟩

@[simp] theorem regsOutside_setReg_iff {b : Nat → Bool} {s t : State} (o : Nat) (v : Word) (ho : b (o / 0x10000) = true) :
    regsOutside b s (t.setReg o v) ↔ regsOutside b s t :=
  ⟨fun h x hx => (State.reg_setReg_ne t o x v (fun e => by rw [e, ho] at hx; exact absurd hx (by decide))).symm.trans (h x hx),
    fun h => regsOutside_setReg o v h ho⟩

theorem regsOutside_of_apart {l : List Nat} {b : Nat → Bool} {s t : State} (h : regsApart l s t)
    (hl : ∀ o ∈ l, b (o / 0x10000) = true) : regsOutside b s t := fun o ho =>
  h o (fun hm => by rw [hl o hm] at ho; exact absurd ho (by decide))

theorem regsApart_trans {l : List Nat} {s t u : State} (h : regsApart l s t) (h' : regsApart l t u) : regsApart l s u :=
  fun o ho => (h' o ho).trans (h o ho)

/-- A field of a register that a frame leaves alone. -/
theorem regsApart_rd {l : List Nat} {s t : State} (h : regsApart l s t) (o lo w : Nat) (ho : o ∉ l) :
    t.rd ⟨o, lo, w⟩ = s.rd ⟨o, lo, w⟩ := by
  unfold State.rd
  rw [h o ho]

theorem regsOutside_rd {b : Nat → Bool} {s t : State} (h : regsOutside b s t) (o lo w : Nat) (ho : b (o / 0x10000) = false) :
    t.rd ⟨o, lo, w⟩ = s.rd ⟨o, lo, w⟩ := by
  unfold State.rd
  rw [h o ho]

/-! ### Vectors -/

theorem getLsbD_bit64 (v i : Nat) (hi : i < 64) : (bit64 v).getLsbD i = decide (i = v) := by
  unfold bit64
  rw [BitVec.getLsbD_ofNat, Nat.testBit_two_pow]
  simp [hi, eq_comm]

/-- A vector that has become due, among those due before it. -/
theorem getLsbD_or_bit64 (x : BitVec 64) (v i : Nat) (hi : i < 64) :
    (x ||| bit64 v).getLsbD i = (x.getLsbD i || decide (i = v)) := by
  rw [BitVec.getLsbD_or, getLsbD_bit64 v i hi]

/-! ### Steps that change registers alone -/

/-- Two states differ in their registers alone. -/
def RegsOnly (s t : State) : Prop := t = { s with regs := t.regs }

@[simp] theorem RegsOnly.refl (s : State) : RegsOnly s s := rfl

theorem RegsOnly.trans {s t u : State} (h : RegsOnly s t) (h' : RegsOnly t u) : RegsOnly s u := by
  unfold RegsOnly at *
  rw [h', h]

theorem RegsOnly.wr {s t : State} (h : RegsOnly s t) (f : Field) (v : Nat) : RegsOnly s (t.wr f v) := h.trans rfl

theorem RegsOnly.setReg {s t : State} (h : RegsOnly s t) (o : Nat) (v : Word) : RegsOnly s (t.setReg o v) := h.trans rfl

theorem RegsOnly.ite {s t u : State} (c : Prop) [Decidable c] (h : RegsOnly s t) (h' : RegsOnly s u) :
    RegsOnly s (if c then t else u) := by
  split
  · exact h
  · exact h'

theorem RegsOnly.foldl {α : Type} (f : State → α → State) (l : List α) (h : ∀ s a, RegsOnly s (f s a)) (s : State) :
    RegsOnly s (l.foldl f s) := by
  induction l generalizing s with
  | nil => rfl
  | cons a l ih => exact (h s a).trans (ih (f s a))

theorem RegsOnly.source (s : State) (i : Nat) : RegsOnly s (s.source i) := by
  obtain ⟨r, h⟩ := s.source_frame i
  rw [h]; rfl

theorem RegsOnly.sameMemories {s t : State} (h : RegsOnly s t) : sameMemories s t := by
  rw [h]; exact ⟨rfl, rfl, rfl, rfl, rfl, rfl, rfl, rfl, rfl, rfl⟩

@[simp] theorem sameMemories_hif (s t : State) (x : HifSt) : sameMemories s { t with hif := x } ↔ sameMemories s t := Iff.rfl

/-! ### Bytes -/

@[simp] theorem length_leBytes : ∀ n v : Nat, (leBytes n v).length = n
  | 0, _ => rfl
  | n + 1, v => congrArg Nat.succ (length_leBytes n (v / 256))

/-- What a range that has just been written reads as. -/
theorem memRead_memWrite_of_length (m : SMap Byte) (a n : Nat) (bs : List Byte) (h : bs.length = n) :
    memRead (memWrite m a bs) a n = bs := by
  rw [← h]
  exact memRead_memWrite m a bs

/-! ### The sources that a register's write settles (R348) -/

/-- A fold over a list that acts at the elements of a test alone. -/
theorem foldl_if_filter {α : Type} (p : α → Bool) (c : State → α → Bool) (f : State → α → State) (l : List α) (s : State) :
    l.foldl (fun s i => if p i && c s i then f s i else s) s =
      (l.filter p).foldl (fun s i => if c s i then f s i else s) s := by
  induction l generalizing s with
  | nil => rfl
  | cons a l ih =>
    cases hp : p a
    · simpa only [List.foldl_cons, List.filter_cons, hp, Bool.false_and, Bool.false_eq_true, if_false] using ih s
    · simpa only [List.foldl_cons, List.filter_cons, hp, Bool.true_and, if_true] using ih _

/-- The sources whose status the register at an offset holds. -/
def sourcesAt (off : Nat) : List Nat := (List.range 28).filter (fun i => statusOff i = off)

theorem State.settleSources_fold (s : State) (off : Nat) : s.settleSources off =
    (sourcesAt off).foldl (fun s i => if s.sourceIdle i then s.wr (F.DOC_ROUTE.PENDING i) 0 else s) s :=
  foldl_if_filter _ _ _ _ _

/-- The one source of a status register falls when the status is clear. -/
theorem State.settleSources_one {off k : Nat} (s : State) (h : sourcesAt off = [k]) :
    s.settleSources off = if s.sourceIdle k then s.wr (F.DOC_ROUTE.PENDING k) 0 else s := by
  rw [State.settleSources_fold, h]; rfl

theorem State.settleSources_none {off : Nat} (s : State) (h : sourcesAt off = []) : s.settleSources off = s := by
  rw [State.settleSources_fold, h]; rfl

theorem RegsOnly.settleSources (s : State) (off : Nat) : RegsOnly s (s.settleSources off) := by
  rw [State.settleSources_fold]
  exact RegsOnly.foldl _ _ (fun t i => RegsOnly.ite _ (RegsOnly.wr (RegsOnly.refl t) _ _) (RegsOnly.refl t)) s

end Sys2Proof.Machine
end

section
/-! SUPPORT. The host-bound queues and vectors (R33, R39 to R44, R407): where a freed ring index stands, and what each write and
timer answers. -/
namespace Sys2Proof.Machine

/-! ### The head of a host-bound queue -/

/-- The distance round a ring from an index to the one `n` places on. -/
theorem ring_distance {a n size : Nat} (ha : a < size) (hn : n < size) : ((a + n) % size + size - a) % size = n := by
  by_cases h : a + n < size
  · rw [Nat.mod_eq_of_lt h, show a + n + size - a = n + size by omega, Nat.add_mod_right, Nat.mod_eq_of_lt hn]
  · have hmod : (a + n) % size = a + n - size := by rw [Nat.mod_eq_sub_mod (by omega), Nat.mod_eq_of_lt (by omega)]
    rw [hmod, show a + n - size + size - a = n by omega, Nat.mod_eq_of_lt hn]

/-- The index at that distance. -/
theorem ring_index_of_distance {a b size : Nat} (ha : a < size) (hb : b < size) : b = (a + (b + size - a) % size) % size := by
  by_cases h : a ≤ b
  · rw [show b + size - a = b - a + size by omega, Nat.add_mod_right, Nat.mod_eq_of_lt (a := b - a) (by omega),
      show a + (b - a) = b by omega, Nat.mod_eq_of_lt hb]
  · rw [Nat.mod_eq_of_lt (a := b + size - a) (by omega), show a + (b + size - a) = b + size by omega, Nat.add_mod_right,
      Nat.mod_eq_of_lt hb]

theorem State.hqSize_le (s : State) (q : Nat) (h : s.rd (F.HIF_HQ_CTL.LOG2 q) ≤ 14) : s.hqSize q ≤ 2 ^ 14 :=
  Nat.pow_le_pow_right (by decide) h

@[simp] theorem State.rd_setUsed (s : State) (q n : Nat) (f : Field) : (s.setUsed q n).rd f = s.rd f := by
  unfold State.setUsed
  split <;> rfl

@[simp] theorem regsApart_setUsed (l : List Nat) (s t : State) (q n : Nat) :
    regsApart l s (t.setUsed q n) ↔ regsApart l s t := by
  unfold State.setUsed
  split <;> rfl

theorem State.hqUsed_setUsed_same (s : State) (q n : Nat) : (s.setUsed q n).hqUsed q = n := by
  unfold State.setUsed State.hqUsed
  split <;> rfl

theorem State.hqUsed_setUsed_ne (s : State) (q r n : Nat) (hq : q < 2) (hr : r < 2) (h : r ≠ q) :
    (s.setUsed q n).hqUsed r = s.hqUsed r := by
  by_cases hq0 : q = 0
  · rw [State.setUsed, if_pos hq0, State.hqUsed, State.hqUsed, if_neg (by omega), if_neg (by omega)]
  · rw [State.setUsed, if_neg hq0, State.hqUsed, State.hqUsed, if_pos (by omega), if_pos (by omega)]

theorem State.setUsed_frame (s : State) (q n : Nat) :
    s.setUsed q n = { s with hif := { s.hif with used0 := (s.setUsed q n).hif.used0, used1 := (s.setUsed q n).hif.used1 } } := by
  unfold State.setUsed
  split <;> rfl

section
variable {s : State} {m : Master} {q : Fin 2} {head : Nat}

/-- A head within the entries written frees those before it (R407). -/
theorem exec_hqHeadWrite_frees (hserves : s.serves m (F.HIF_HQ_HEAD.HEAD q).off = true) (hhead : head < s.hqSize q)
    (hfreed : (head + s.hqSize q - s.rd (F.HIF_HQ_HEAD.HEAD q)) % s.hqSize q ≤ s.hqUsed q) :
    exec (.hqHeadWrite m q head) s = .next ((s.wr (F.HIF_HQ_HEAD.HEAD q) head).setUsed q
      (s.hqUsed q - (head + s.hqSize q - s.rd (F.HIF_HQ_HEAD.HEAD q)) % s.hqSize q)) := by
  show execHqHeadWrite m q head s = _
  unfold execHqHeadWrite
  rw [State.gated_serves _ _ _ _ hserves]
  simp only [hhead, hfreed, decide_true, Bool.and_self, if_true, done]

/-- Any other head is ignored and flagged (R407). -/
theorem exec_hqHeadWrite_invalid (hserves : s.serves m (F.HIF_HQ_HEAD.HEAD q).off = true)
    (h : ¬ (head < s.hqSize q ∧ (head + s.hqSize q - s.rd (F.HIF_HQ_HEAD.HEAD q)) % s.hqSize q ≤ s.hqUsed q)) :
    exec (.hqHeadWrite m q head) s = .next (s.intake F.HIF_INTAKE_STATUS.HEAD_INVALID) := by
  show execHqHeadWrite m q head s = _
  unfold execHqHeadWrite
  rw [State.gated_serves _ _ _ _ hserves, if_neg (by simpa using h)]
  rfl

end

/-- A flag of HIF_INTAKE_STATUS is announced on vector 8 and source 20 (Tables 2-1 and 15-4). -/
theorem State.intake_eq (s : State) (f : Field) : s.intake f =
    ({ s.wr f 1 with hif := { s.hif with due := s.hif.due ||| bit64 8 } }).wr (F.DOC_ROUTE.PENDING 20) 1 := by
  simp [State.intake, State.announce_eq, State.set1_eq]

/-- Settles O8: an index from HEAD to TAIL is HEAD's at its distance, and only such an index is. -/
theorem headWriteFreesOnlyWrittenEntries : Obligations.HeadWriteFreesOnlyWrittenEntries := by
  unfold Obligations.HeadWriteFreesOnlyWrittenEntries
  refine ⟨fun s m q n hserves hlog hhead _ hn hsize => ?_, fun s m q head hserves hlog hhead _ hused hnone => ?_⟩
  · have hsmall := s.hqSize_le q hlog
    have hlt : (s.rd (F.HIF_HQ_HEAD.HEAD q) + n) % s.hqSize q < s.hqSize q := Nat.mod_lt _ (by omega)
    have hfreed := ring_distance hhead hsize
    refine ⟨_, exec_hqHeadWrite_frees hserves hlt (hfreed.trans_le hn), ?_⟩
    rw [hfreed]
    refine ⟨?_, State.hqUsed_setUsed_same _ _ _, fun r hr hne => State.hqUsed_setUsed_ne _ _ _ _ q.isLt hr hne, ?_, by simp⟩
    · rw [State.rd_setUsed, State.rd_wr_same _ _ _ _ _ (by decide), Nat.mod_eq_of_lt (by omega)]
    · rw [State.setUsed_frame]; rfl
  · have hinvalid : ¬ (head < s.hqSize q ∧
        (head + s.hqSize q - s.rd (F.HIF_HQ_HEAD.HEAD q)) % s.hqSize q ≤ s.hqUsed q) := fun ⟨h, hle⟩ =>
      hnone _ (by omega) (Nat.mod_lt _ (by omega)) (ring_index_of_distance hhead h)
    refine ⟨_, exec_hqHeadWrite_invalid hserves hinvalid, ?_⟩
    rw [State.intake_eq]
    refine ⟨?_, ?_, State.rd_wr_same _ _ _ _ _ (by decide), rfl, ?_, fun v hv hne => ?_, by simp [-State.wr_regs]⟩
    · simp (disch := omega) only [State.rd_wr_off, State.rd_mk]
    · simp (disch := omega) [-State.wr_regs, State.rd_wr_off, State.rd_wr_same]
    · exact (getLsbD_or_bit64 _ _ _ (by decide)).trans (by simp)
    · exact (getLsbD_or_bit64 _ _ _ hv).trans (by simp [hne])

/-! ### An entry at the tail of a host-bound queue -/

section
variable (s : State) (q size : Nat) (bytes : Bool → List Byte)

/-- Where the next entry of a queue goes, and the entry's successor. -/
def State.hqPlace (s : State) (q size : Nat) : Nat := s.rd (F.HIF_HQ_BASE.BASE q) * 4096 + s.rd (F.HIF_HQ_TAIL.TAIL q) * size
def State.hqNext (s : State) (q : Nat) : Nat := (s.rd (F.HIF_HQ_TAIL.TAIL q) + 1) % s.hqSize q

/-- The entry written and the tail moved past it, with the phase inverted on a wrap (R39). -/
def State.hqWritten (s : State) (q size : Nat) (bytes : Bool → List Byte) : State :=
  let t := (s.hostWrite (s.hqPlace q size) (bytes (s.bit (F.HIF_HQ_TAIL.PHASE q))) false).wr (F.HIF_HQ_TAIL.TAIL q) (s.hqNext q)
  if s.hqNext q = 0 then t.wrBit (F.HIF_HQ_TAIL.PHASE q) (!s.bit (F.HIF_HQ_TAIL.PHASE q)) else t

theorem State.hqPut_eq : s.hqPut q size bytes =
    (s.hqWritten q size bytes).setUsed q ((s.hqWritten q size bytes).hqUsed q + 1) := rfl

theorem State.hqWritten_parts : s.hqWritten q size bytes =
    { s.hostWrite (s.hqPlace q size) (bytes (s.bit (F.HIF_HQ_TAIL.PHASE q))) false with regs := (s.hqWritten q size bytes).regs } := by
  unfold State.hqWritten State.wrBit
  dsimp only
  split <;> rfl

theorem State.hqWritten_apart : regsApart [(F.HIF_HQ_TAIL.TAIL q).off] s (s.hqWritten q size bytes) := by
  unfold State.hqWritten State.wrBit State.hostWrite
  dsimp only
  split <;> simp [-State.wr_regs]

theorem State.hqWritten_tail : (s.hqWritten q size bytes).rd (F.HIF_HQ_TAIL.TAIL q) = s.hqNext q % 2 ^ 14 := by
  unfold State.hqWritten State.wrBit
  dsimp only
  split
  · rw [State.rd_wr_apart _ _ _ _ _ _ _ (by decide), State.rd_wr_same _ _ _ _ _ (by decide)]
  · rw [State.rd_wr_same _ _ _ _ _ (by decide)]

end

/-- What a queue that has room holds after an entry: the entry's bytes at the tail and nowhere else, the tail past it, one entry
more in use, and nothing else changed. -/
structure EntryPut (s t : State) (q size : Nat) (bytes : List Byte) : Prop where
  used : t.hqUsed q = s.hqUsed q + 1
  entry : memRead t.hostMem (s.hqPlace q size) size = bytes
  tail : t.rd (F.HIF_HQ_TAIL.TAIL q) = s.hqNext q
  elsewhere : ∀ a, a < s.hqPlace q size ∨ s.hqPlace q size + size ≤ a → smGet byteDefault t.hostMem a = smGet byteDefault s.hostMem a
  apart : regsApart [(F.HIF_HQ_TAIL.TAIL q).off] s t
  parts : t = { s with regs := t.regs, hif := t.hif, hostMem := t.hostMem, hostPoison := t.hostPoison }
  hif : t.hif = { s.hif with used0 := t.hif.used0, used1 := t.hif.used1 }

theorem State.hqPut_spec (s : State) (q size : Nat) (bytes : Bool → List Byte) (hroom : s.hqRoom q = true)
    (hlen : ∀ b, (bytes b).length = size) :
    EntryPut s (s.hqPut q size bytes) q size (bytes (s.bit (F.HIF_HQ_TAIL.PHASE q))) := by
  obtain ⟨⟨⟨hen, hlow⟩, hhigh⟩, hused⟩ : ((s.bit (F.HIF_HQ_CTL.ENABLE q) = true ∧ 6 ≤ s.rd (F.HIF_HQ_CTL.LOG2 q)) ∧
      s.rd (F.HIF_HQ_CTL.LOG2 q) ≤ 14) ∧ s.hqUsed q < s.hqSize q := by
    simpa [State.hqRoom] using hroom
  have hsize := s.hqSize_le q hhigh
  have hnext : s.hqNext q < 2 ^ 14 := lt_of_lt_of_le (Nat.mod_lt _ (by omega)) hsize
  have hw := s.hqWritten_parts q size bytes
  have hmem : (s.hqPut q size bytes).hostMem =
      memWrite s.hostMem (s.hqPlace q size) (bytes (s.bit (F.HIF_HQ_TAIL.PHASE q))) := by
    rw [State.hqPut_eq, State.setUsed_frame, hw]; rfl
  refine ⟨?_, ?_, ?_, fun a ha => ?_, ?_, ?_, ?_⟩
  · rw [State.hqPut_eq, State.hqUsed_setUsed_same, hw]; rfl
  · rw [hmem]
    exact memRead_memWrite_of_length _ _ _ _ (hlen _)
  · rw [State.hqPut_eq, State.rd_setUsed, State.hqWritten_tail, Nat.mod_eq_of_lt hnext]
  · rw [hmem]
    exact smGet_memWrite_outside _ _ _ _ (by rw [hlen]; exact ha)
  · rw [State.hqPut_eq, regsApart_setUsed]
    exact s.hqWritten_apart q size bytes
  · rw [State.hqPut_eq, State.setUsed_frame, hw]; rfl
  · rw [State.hqPut_eq, State.setUsed_frame, hw]; rfl

@[simp] theorem Completion.length_bytes (c : Completion) (phase : Bool) : (c.bytes phase).length = 16 := by
  simp [Completion.bytes]

@[simp] theorem RefetchReq.length_bytes (r : RefetchReq) (deadline : Option (Nat × Nat)) (phase : Bool) :
    (r.bytes deadline phase).length = 32 := by
  simp [RefetchReq.bytes]

/-! ### The RETIRED report -/

/-- A RETIRED entry is held after its report, merged or not. -/
theorem State.mem_complete (s : State) (c : Completion) (h : c.merges = true) : c ∈ (s.complete c).hif.held := by
  unfold State.complete
  dsimp only
  by_cases hany : s.hif.held.any (fun d => d.retires c.leaf) = true
  · rw [if_pos (by simp [h, hany])]
    obtain ⟨d, hd, hret⟩ := List.any_eq_true.mp hany
    exact List.mem_map.mpr ⟨d, hd, if_pos hret⟩
  · rw [if_neg (by simp [h, hany])]
    simp

theorem State.leafAt_setLeaf_same (s : State) (p : Nat) (l : Leaf) : (s.setLeaf p l).leafAt p = some l := by
  unfold State.setLeaf State.setPlace State.leafAt
  split <;> rfl

theorem State.setLeaf_parts (s : State) (p : Nat) (l : Leaf) : s.setLeaf p l = { s with fol := (s.setLeaf p l).fol } := by
  unfold State.setLeaf State.setPlace
  split <;> rfl

/-- The RETIRED entry of a leaf's watermark (R40). -/
def State.retiredEntry (s : State) (l : Leaf) : Completion :=
  ⟨0xFFFF, l.id, l.nextSeq - 1, 2, 0, s.nowS % 65536, s.nowNs, true⟩

theorem State.retire_some (s : State) (p : Nat) (l : Leaf) (hleaf : s.leafAt p = some l) (h : l.nextSeq ≠ 0) :
    s.retire p = (s.setLeaf p { l with reported := l.nextSeq }).complete (s.retiredEntry l) := by
  have hparts := s.setLeaf_parts p { l with reported := l.nextSeq }
  unfold State.retire
  rw [hleaf]
  dsimp only
  rw [if_neg h]
  unfold State.retiredEntry State.nowS State.nowNs
  rw [hparts]

/-! ### Settling -/

section
variable {s : State}

theorem exec_completionPosted_written {c : Completion} {cs : List Completion} (hheld : s.hif.held = c :: cs)
    (hroom : s.hqRoom 0 = true) : exec .completionPosted s =
      .next (let t := s.hqPut 0 16 c.bytes
        if t.rd (F.HIF_HQ_CTL.MOD_COUNT 0) ≤ t.hif.modCount + 1
        then { t with hif := { t.hif with held := cs, modCount := 0, due := t.hif.due ||| bit64 0 } }
        else { t with hif := { t.hif with held := cs, modCount := t.hif.modCount + 1 } }) := by
  show execCompletionPosted s = _
  simp only [execCompletionPosted, hheld, hroom, Bool.not_true, Bool.false_eq_true, if_false, done, State.rd_mk,
    State.vector_eq _ 0 (by decide)]

theorem exec_refetchRequestPosted_written {r : RefetchReq} {rs : List RefetchReq} (hheld : s.hif.rfqHeld = r :: rs)
    (hroom : s.hqRoom 1 = true) : exec .refetchRequestPosted s =
      .next (let t := s.hqPut 1 32 (r.bytes (s.requestDeadline r))
        { t with hif := { t.hif with rfqHeld := rs, due := t.hif.due ||| bit64 1 } }) := by
  show execRefetchRequestPosted s = _
  simp only [execRefetchRequestPosted, hheld, hroom, Bool.not_true, Bool.false_eq_true, if_false, done,
    State.vector_eq _ 1 (by decide)]

end

/-- Whether a vector's bit stands in a mask. -/
theorem and_bit64_eq_zero (x : BitVec 64) (v : Nat) (hv : v < 64) : x &&& bit64 v = 0 ↔ x.getLsbD v = false := by
  constructor
  · intro h
    have := congrArg (fun y => y.getLsbD v) h
    simpa [getLsbD_bit64 v v hv] using this
  · intro h
    apply BitVec.eq_of_getLsbD_eq
    intro i hi
    rw [BitVec.getLsbD_and, getLsbD_bit64 v i hi]
    by_cases hiv : i = v <;> simp_all

theorem getLsbD_and_not_bit64 (x : BitVec 64) (v i : Nat) (hi : i < 64) :
    (x &&& ~~~bit64 v).getLsbD i = (x.getLsbD i && !decide (i = v)) := by
  rw [BitVec.getLsbD_and, BitVec.getLsbD_not, getLsbD_bit64 v i hi]
  simp [hi]

/-- Settles O12: the entry put at the tail, the RETIRED entry merged or appended, and the vectors bit by bit. -/
theorem hostQueuesAndVectorsReachTheHost : Obligations.HostQueuesAndVectorsReachTheHost := by
  unfold Obligations.HostQueuesAndVectorsReachTheHost
  refine ⟨fun s c cs hheld hroom => ⟨_, exec_completionPosted_written hheld hroom, ?_⟩, fun s p l hleaf hless => ?_,
    fun s r rs hheld hroom => ⟨_, exec_refetchRequestPosted_written hheld hroom, ?_⟩, fun s v hdue => ?_, fun s hcount => ?_,
    fun s v => ?_⟩
  · have h := s.hqPut_spec 0 16 c.bytes hroom c.length_bytes
    dsimp only
    generalize s.hqPut 0 16 c.bytes = t at h ⊢
    obtain ⟨hused, hentry, htail, helse, hapart, hparts, hhif⟩ := h
    split
    · refine ⟨rfl, hused, hentry, ?_, helse, by simpa using hapart, ?_⟩
      · rw [State.rd_mk]; exact htail
      · rw [hparts]
    · refine ⟨rfl, hused, hentry, ?_, helse, by simpa using hapart, ?_⟩
      · rw [State.rd_mk]; exact htail
      · rw [hparts]
  · have hretire := s.retire_some p l hleaf (by omega)
    refine ⟨s.retire p, ?_, ?_⟩
    · show execRetiredTimerExpiry p s = _
      simp only [execRetiredTimerExpiry, hleaf, hless, if_true, done]
    · have hparts := s.setLeaf_parts p { l with reported := l.nextSeq }
      rw [hretire]
      refine ⟨?_, ?_, State.mem_complete _ _ rfl, ?_⟩
      · exact s.leafAt_setLeaf_same p { l with reported := l.nextSeq }
      · rw [hparts]; rfl
      · rw [hparts]; rfl
  · have h := s.hqPut_spec 1 32 (r.bytes (s.requestDeadline r)) hroom (r.length_bytes _)
    dsimp only
    generalize s.hqPut 1 32 (r.bytes (s.requestDeadline r)) = t at h ⊢
    obtain ⟨hused, hentry, htail, helse, hapart, hparts, hhif⟩ := h
    refine ⟨rfl, hused, ?_, hentry, ?_, helse, by simpa using hapart, ?_⟩
    · exact (getLsbD_or_bit64 _ _ _ (by decide)).trans (by simp)
    · rw [State.rd_mk]; exact htail
    · rw [hparts]
  · have hnot : ¬ s.hif.due &&& bit64 v = 0 := fun h => by
      rw [(and_bit64_eq_zero _ _ v.isLt).mp h] at hdue
      exact absurd hdue (by decide)
    have hother : ∀ u, u < 64 → u ≠ v.val → (s.hif.due &&& ~~~bit64 v).getLsbD u = s.hif.due.getLsbD u := fun u hu hne => by
      simp [getLsbD_and_not_bit64 _ _ _ hu, hne]
    have hthis : (s.hif.due &&& ~~~bit64 v).getLsbD v = false := by rw [getLsbD_and_not_bit64 _ _ _ v.isLt]; simp
    by_cases hmask : s.hif.mask.getLsbD v = true
    · have hset : ¬ s.hif.mask &&& bit64 v = 0 := fun h => by
        rw [(and_bit64_eq_zero _ _ v.isLt).mp h] at hmask
        exact absurd hmask (by decide)
      refine ⟨{ s with hif := { s.hif with due := s.hif.due &&& ~~~bit64 v, pba := s.hif.pba ||| bit64 v } }, ?_, hthis, rfl,
        ?_, hother, rfl⟩
      · show execMsixSend v s = _
        simp only [execMsixSend, hnot, hset, if_false, done]
      · rw [if_pos hmask]
        exact ⟨(getLsbD_or_bit64 _ _ _ v.isLt).trans (by simp), rfl⟩
    · have hclear : s.hif.mask &&& bit64 v = 0 := (and_bit64_eq_zero _ _ v.isLt).mpr (by simpa using hmask)
      refine ⟨{ s with hif := { s.hif with
          due := s.hif.due &&& ~~~bit64 v, sent := smSet (fun _ => 0) s.hif.sent v (smGet (fun _ => 0) s.hif.sent v + 1) } },
        ?_, hthis, rfl, ?_, hother, rfl⟩
      · show execMsixSend v s = _
        simp only [execMsixSend, hnot, hclear, if_false, if_true, done]
      · rw [if_neg hmask]
        exact ⟨by simp only [smGet_smSet_same], rfl⟩
  · refine ⟨{ s with hif := { s.hif with modCount := 0, due := s.hif.due ||| bit64 0 } }, ?_,
      (getLsbD_or_bit64 _ _ _ (by decide)).trans (by simp), rfl⟩
    show execCqModDelayExpiry s = _
    simp only [execCqModDelayExpiry, hcount, if_true, State.vector_eq _ 0 (by decide), done]
  · have hthis : ∀ x : BitVec 64, (x &&& ~~~bit64 v).getLsbD v = false := fun x => by
      rw [getLsbD_and_not_bit64 _ _ _ v.isLt]; simp
    have hother : ∀ u, u < 64 → u ≠ v.val → (s.hif.mask &&& ~~~bit64 v).getLsbD u = s.hif.mask.getLsbD u := fun u hu hne => by
      simp [getLsbD_and_not_bit64 _ _ _ hu, hne]
    by_cases hpba : s.hif.pba.getLsbD v = true
    · have hset : ¬ s.hif.pba &&& bit64 v = 0 := fun h => by
        rw [(and_bit64_eq_zero _ _ v.isLt).mp h] at hpba
        exact absurd hpba (by decide)
      refine ⟨{ s with hif := { s.hif with
          mask := s.hif.mask &&& ~~~bit64 v, pba := s.hif.pba &&& ~~~bit64 v
          sent := smSet (fun _ => 0) s.hif.sent v (smGet (fun _ => 0) s.hif.sent v + 1) } }, ?_, hthis _, hthis _, ?_, hother,
        rfl⟩
      · show execMsixUnmask v s = _
        simp only [execMsixUnmask, ne_eq, hset, not_false_eq_true, if_true, done]
      · rw [if_pos hpba]
        simp only [smGet_smSet_same]
    · have hclear : s.hif.pba &&& bit64 v = 0 := (and_bit64_eq_zero _ _ v.isLt).mpr (by simpa using hpba)
      refine ⟨{ s with hif := { s.hif with mask := s.hif.mask &&& ~~~bit64 v, pba := s.hif.pba &&& ~~~bit64 v } }, ?_, hthis _,
        hthis _, ?_, hother, rfl⟩
      · show execMsixUnmask v s = _
        simp only [execMsixUnmask, ne_eq, hclear, not_true_eq_false, if_false, done]
      · rw [if_neg hpba, Nat.add_zero]

end Sys2Proof.Machine
end

section
/-! SUPPORT. Ring set-up (R36, R37): what one ring and one queue of the record hold after it, and what the doorbells answer. -/
namespace Sys2Proof.Machine

/-- The page of an address that a register holds in bits 12 and up. -/
theorem page_get (o x : Nat) : Field.get ⟨o, 12, 52⟩ (BitVec.ofNat 64 (x / 4096 * 4096)) = x / 4096 % 2 ^ 52 := by
  unfold Field.get
  rw [BitVec.toNat_ofNat]
  show x / 4096 * 4096 % 2 ^ 64 / 4096 % 2 ^ 52 = _
  omega

/-- A flag reads as the truth value that was written. -/
theorem State.bit_wrBit_same (s : State) (o l : Nat) (b : Bool) (h : l + 1 ≤ 64) :
    (s.wrBit ⟨o, l, 1⟩ b).bit ⟨o, l, 1⟩ = b := by
  unfold State.bit State.wrBit
  rw [State.rd_wr_same _ _ _ _ _ h]
  cases b <;> rfl

/-! ### One ring of the set-up record -/

section
variable (s : State) (rec : List Byte) (n : Nat)

/-- Base, size, enable and indices of ring `n` written, its channel not yet looked at. -/
def State.ringWritten : State :=
  ((((s.setReg (0x20100 + 0x20 * n) (BitVec.ofNat 64 (fieldAt rec (8 * n) 8 / 4096 * 4096))).wr (F.HIF_SQ_CTL.LOG2 n)
    (fieldAt rec 32 2 / 16 ^ n % 16)).wrBit (F.HIF_SQ_CTL.ENABLE n) (fieldAt rec (8 * n) 8 ≠ 0 &&
      6 ≤ fieldAt rec 32 2 / 16 ^ n % 16 && fieldAt rec 32 2 / 16 ^ n % 16 ≤ 14)).wr (F.HIF_SQ_HEAD.HEAD n) 0).wr
    (F.HIF_SQ_TAIL.TAIL n) 0

theorem State.setRing_eq : s.setRing rec n =
    if (s.ringWritten rec n).rd (F.DMA_CH_STATUS.STATE n) = 3 then
      ((s.ringWritten rec n).wr (F.DMA_CH_STATUS.STATE n) 0).wr (F.DMA_CH_STATUS.ERR n) 0 else s.ringWritten rec n := rfl

/-- The registers of ring `n` and the status of its channel. -/
def ringRegs (n : Nat) : List Nat :=
  [(F.HIF_SQ_BASE.BASE n).off, (F.HIF_SQ_CTL.LOG2 n).off, (F.HIF_SQ_HEAD.HEAD n).off, (F.HIF_SQ_TAIL.TAIL n).off,
    (F.DMA_CH_STATUS.STATE n).off]

theorem State.setRing_apart : regsApart (ringRegs n) s (s.setRing rec n) := by
  rw [State.setRing_eq]
  split <;> simp [ringRegs, State.ringWritten, State.wrBit, -State.wr_regs]

theorem State.setRing_only : RegsOnly s (s.setRing rec n) := by
  rw [State.setRing_eq]
  exact RegsOnly.ite _ rfl rfl

theorem State.setRing_rd_off (o l w : Nat) (h : o ∉ ringRegs n) : (s.setRing rec n).rd ⟨o, l, w⟩ = s.rd ⟨o, l, w⟩ := by
  unfold State.rd
  rw [s.setRing_apart rec n o h]

/-- The registers of the ring itself are those written before the channel is looked at. -/
theorem State.setRing_rd_ring (o l w : Nat) (ho : 0x30008 + 0x100 * n ≠ o) :
    (s.setRing rec n).rd ⟨o, l, w⟩ = (s.ringWritten rec n).rd ⟨o, l, w⟩ := by
  rw [State.setRing_eq]
  split
  · rw [State.rd_wr_off _ _ _ _ _ _ _ _ ho, State.rd_wr_off _ _ _ _ _ _ _ _ ho]
  · rfl

/-- What ring `n` holds after the set-up. -/
theorem State.setRing_spec (hn : n < 4) :
    (s.setRing rec n).rd (F.HIF_SQ_BASE.BASE n) = fieldAt rec (8 * n) 8 / 4096 % 2 ^ 52 ∧
    (s.setRing rec n).rd (F.HIF_SQ_CTL.LOG2 n) = fieldAt rec 32 2 / 16 ^ n % 16 ∧
    (s.setRing rec n).bit (F.HIF_SQ_CTL.ENABLE n) = decide (fieldAt rec (8 * n) 8 ≠ 0 ∧
      6 ≤ fieldAt rec 32 2 / 16 ^ n % 16 ∧ fieldAt rec 32 2 / 16 ^ n % 16 ≤ 14) ∧
    (s.setRing rec n).rd (F.HIF_SQ_HEAD.HEAD n) = 0 ∧ (s.setRing rec n).rd (F.HIF_SQ_TAIL.TAIL n) = 0 := by
  simp (disch := omega) only [State.bit, State.setRing_rd_ring]
  unfold State.ringWritten State.wrBit
  refine ⟨?_, ?_, ?_, ?_, ?_⟩
  · simp (disch := omega) only [State.rd_wr_off]
    rw [State.rd_setReg_same, page_get]
  · simp (disch := omega) only [State.rd_wr_off, State.rd_wr_apart, State.rd_wr_same, Nat.reducePow, Nat.mod_mod]
  · simp (disch := omega) only [State.rd_wr_off, State.rd_wr_same]
    split <;> simp_all
  · simp (disch := omega) [State.rd_wr_off, State.rd_wr_same, -State.wr_regs]
  · simp (disch := omega) [State.rd_wr_same, -State.wr_regs]

/-- The status of the ring's channel: a stopped one is idle again. -/
theorem State.setRing_channel (hn : n < 4) : (s.setRing rec n).rd (F.DMA_CH_STATUS.STATE n) =
    if s.rd (F.DMA_CH_STATUS.STATE n) = 3 then 0 else s.rd (F.DMA_CH_STATUS.STATE n) := by
  have h : (s.ringWritten rec n).rd (F.DMA_CH_STATUS.STATE n) = s.rd (F.DMA_CH_STATUS.STATE n) := by
    unfold State.ringWritten State.wrBit
    simp (disch := omega) only [State.rd_wr_off, State.rd_setReg_off]
  rw [State.setRing_eq, h]
  split
  · simp (disch := omega) [State.rd_wr_apart, State.rd_wr_same, -State.wr_regs]
  · exact h

/-! ### One queue of the set-up record -/

/-- The registers of queue `q`. -/
def queueRegs (q : Nat) : List Nat :=
  [(F.HIF_HQ_BASE.BASE q).off, (F.HIF_HQ_CTL.LOG2 q).off, (F.HIF_HQ_HEAD.HEAD q).off, (F.HIF_HQ_TAIL.TAIL q).off]

theorem State.setQueue_apart : regsApart (queueRegs n) s (s.setQueue rec n) := by
  simp [State.setQueue, queueRegs, State.wrBit, -State.wr_regs]

theorem State.setQueue_only : RegsOnly s (s.setQueue rec n) := rfl

theorem State.setQueue_rd_off (o l w : Nat) (h : o ∉ queueRegs n) : (s.setQueue rec n).rd ⟨o, l, w⟩ = s.rd ⟨o, l, w⟩ := by
  unfold State.rd
  rw [s.setQueue_apart rec n o h]

/-- What queue `q` holds after the set-up. -/
theorem State.setQueue_spec :
    (s.setQueue rec n).rd (F.HIF_HQ_BASE.BASE n) = fieldAt rec (40 + 8 * n) 8 / 4096 % 2 ^ 52 ∧
    (s.setQueue rec n).rd (F.HIF_HQ_CTL.LOG2 n) = fieldAt rec 36 1 / 16 ^ n % 16 ∧
    (s.setQueue rec n).bit (F.HIF_HQ_CTL.ENABLE n) = decide (fieldAt rec (40 + 8 * n) 8 ≠ 0 ∧
      6 ≤ fieldAt rec 36 1 / 16 ^ n % 16 ∧ fieldAt rec 36 1 / 16 ^ n % 16 ≤ 14) ∧
    (s.setQueue rec n).rd (F.HIF_HQ_HEAD.HEAD n) = 0 ∧ (s.setQueue rec n).rd (F.HIF_HQ_TAIL.TAIL n) = 0 ∧
    (s.setQueue rec n).rd (F.HIF_HQ_TAIL.PHASE n) = 1 := by
  unfold State.setQueue State.wrBit State.bit
  refine ⟨?_, ?_, ?_, ?_, ?_, ?_⟩
  · simp (disch := omega) only [State.rd_wr_off]
    rw [State.rd_setReg_same, page_get]
  · simp (disch := omega) only [State.rd_wr_off, State.rd_wr_apart, State.rd_wr_same, Nat.reducePow, Nat.mod_mod]
  · simp (disch := omega) only [State.rd_wr_off, State.rd_wr_same]
    split <;> simp_all
  · simp (disch := omega) [State.rd_wr_off, State.rd_wr_same, -State.wr_regs]
  · simp (disch := omega) [State.rd_wr_apart, State.rd_wr_same, -State.wr_regs]
  · simp (disch := omega) [State.rd_wr_same, -State.wr_regs]

end

/-! ### The whole record -/

/-- Every ring and queue of the record programmed, with the modulation of queue 0 and no entry in use (R36). -/
def State.setUp (s : State) (rec : List Byte) : State :=
  let t := (((List.range 4).foldl (fun s n => s.setRing rec n) s).setQueue rec 0).setQueue rec 1
  let t := (t.wr (F.HIF_HQ_CTL.MOD_COUNT 0) (fieldAt rec 56 1)).wr (F.HIF_HQ_CTL.MOD_DELAY 0) (fieldAt rec 57 2)
  { t with hif := { t.hif with used0 := 0, used1 := 0, modCount := 0 } }

/-- The status that ends a set-up, with what source 20 then is (R36, R348). -/
def State.setupEnd (s : State) (state cause : Nat) : State :=
  ((s.wr F.HIF_SETUP_STATUS.STATE state).wr F.HIF_SETUP_STATUS.CAUSE cause).settleSources 0x20300

theorem sourcesAt_intake : sourcesAt 0x20300 = [20] := by decide

theorem State.setupEnd_only (s : State) (state cause : Nat) : RegsOnly s (s.setupEnd state cause) :=
  RegsOnly.trans (RegsOnly.wr (RegsOnly.wr (RegsOnly.refl s) _ _) _ _) (RegsOnly.settleSources _ _)

theorem State.setupEnd_apart (s : State) (state cause : Nat) :
    regsApart [F.HIF_SETUP_STATUS.STATE.off, (F.DOC_ROUTE.PENDING 20).off] s (s.setupEnd state cause) := by
  unfold State.setupEnd
  rw [State.settleSources_one _ sourcesAt_intake]
  split <;> simp [-State.wr_regs]

theorem State.setupEnd_rd_off (s : State) (state cause o l w : Nat) (h : o ≠ 0x20018) (h' : o ≠ 0x2002A0) :
    (s.setupEnd state cause).rd ⟨o, l, w⟩ = s.rd ⟨o, l, w⟩ := by
  unfold State.rd
  rw [s.setupEnd_apart state cause o (by simp [h, h'])]

theorem State.setupEnd_status (s : State) (state cause : Nat) (hstate : state < 4) (hcause : cause < 16) :
    (s.setupEnd state cause).rd F.HIF_SETUP_STATUS.STATE = state ∧
      (s.setupEnd state cause).rd F.HIF_SETUP_STATUS.CAUSE = cause := by
  unfold State.setupEnd
  rw [State.settleSources_one _ sourcesAt_intake]
  split <;> simp (disch := omega) [State.rd_wr_off, State.rd_wr_apart, State.rd_wr_same, Nat.mod_eq_of_lt, -State.wr_regs]

/-- A set-up that has ended drops source 20 when no flag of HIF_INTAKE_STATUS holds it (R348). -/
theorem State.setupEnd_source (s : State) (state cause : Nat) (hstate : state < 4) (hend : state ≠ 1) :
    (s.setupEnd state cause).rd (F.DOC_ROUTE.PENDING 20) =
      if s.rd ⟨0x20300, 0, 16⟩ = 0 then 0 else s.rd (F.DOC_ROUTE.PENDING 20) := by
  have hidle : ((s.wr F.HIF_SETUP_STATUS.STATE state).wr F.HIF_SETUP_STATUS.CAUSE cause).sourceIdle 20 =
      decide (s.rd ⟨0x20300, 0, 16⟩ = 0) := by
    simp (disch := omega) [State.sourceIdle, State.rd_wr_off, State.rd_wr_apart, State.rd_wr_same, Nat.mod_eq_of_lt, hend,
      -State.wr_regs]
  unfold State.setupEnd
  rw [State.settleSources_one _ sourcesAt_intake, hidle]
  simp only [decide_eq_true_eq]
  split <;> simp (disch := omega) [State.rd_wr_off, State.rd_wr_same, -State.wr_regs]

theorem ringRegs_disjoint {n k o : Nat} (hn : n < 4) (hk : k < 4) (hne : n ≠ k) (ho : o ∈ ringRegs n) : o ∉ ringRegs k := by
  simp only [ringRegs, List.mem_cons, List.not_mem_nil, or_false] at ho ⊢
  omega

/-- The registers of ring `n` after all four are programmed are those that its own programming left. -/
theorem State.rings_spec (s : State) (rec : List Byte) {n : Nat} (hn : n < 4) :
    ∃ u : State, u.rd (F.DMA_CH_STATUS.STATE n) = s.rd (F.DMA_CH_STATUS.STATE n) ∧ ∀ o ∈ ringRegs n, ∀ l w,
      ((List.range 4).foldl (fun s n => s.setRing rec n) s).rd ⟨o, l, w⟩ = (u.setRing rec n).rd ⟨o, l, w⟩ := by
  have hoff : ∀ (u : State) (k : Nat), k < 4 → n ≠ k → ∀ o ∈ ringRegs n, ∀ l w,
      (u.setRing rec k).rd ⟨o, l, w⟩ = u.rd ⟨o, l, w⟩ := fun u k hk hne o ho l w =>
    u.setRing_rd_off rec k o l w (ringRegs_disjoint hn hk hne ho)
  have hchan : (F.DMA_CH_STATUS.STATE n).off ∈ ringRegs n := by simp [ringRegs]
  let s1 := s.setRing rec 0
  let s2 := s1.setRing rec 1
  let s3 := s2.setRing rec 2
  show ∃ u : State, u.rd (F.DMA_CH_STATUS.STATE n) = s.rd (F.DMA_CH_STATUS.STATE n) ∧ ∀ o ∈ ringRegs n, ∀ l w,
    (s3.setRing rec 3).rd ⟨o, l, w⟩ = _
  have h1 : n ≠ 0 → s1.rd (F.DMA_CH_STATUS.STATE n) = s.rd (F.DMA_CH_STATUS.STATE n) := fun h =>
    hoff _ 0 (by decide) h _ hchan _ _
  have h2 : n ≠ 0 → n ≠ 1 → s2.rd (F.DMA_CH_STATUS.STATE n) = s.rd (F.DMA_CH_STATUS.STATE n) := fun h h' =>
    (hoff _ 1 (by decide) h' _ hchan _ _).trans (h1 h)
  obtain rfl | rfl | rfl | rfl : n = 0 ∨ n = 1 ∨ n = 2 ∨ n = 3 := by omega
  · refine ⟨s, rfl, fun o ho l w => ?_⟩
    rw [hoff _ 3 (by decide) (by decide) o ho, hoff _ 2 (by decide) (by decide) o ho, hoff _ 1 (by decide) (by decide) o ho]
  · refine ⟨s1, h1 (by decide), fun o ho l w => ?_⟩
    rw [hoff _ 3 (by decide) (by decide) o ho, hoff _ 2 (by decide) (by decide) o ho]
  · refine ⟨s2, h2 (by decide) (by decide), fun o ho l w => ?_⟩
    rw [hoff _ 3 (by decide) (by decide) o ho]
  · exact ⟨s3, (hoff _ 2 (by decide) (by decide) _ hchan _ _).trans (h2 (by decide) (by decide)), fun _ _ _ _ => rfl⟩

/-- Outside the queues' registers a set-up leaves what the rings' programming left. -/
theorem State.setUp_rd_off (s : State) (rec : List Byte) (o l w : Nat) (h0 : o ∉ queueRegs 0) (h1 : o ∉ queueRegs 1) :
    (s.setUp rec).rd ⟨o, l, w⟩ = ((List.range 4).foldl (fun s n => s.setRing rec n) s).rd ⟨o, l, w⟩ := by
  have hctl : (F.HIF_HQ_CTL.LOG2 0).off ≠ o := fun e => h0 (by simp [queueRegs, ← e])
  unfold State.setUp
  simp only [State.rd_mk]
  rw [State.rd_wr_off _ _ _ _ _ _ _ _ hctl, State.rd_wr_off _ _ _ _ _ _ _ _ hctl, State.setQueue_rd_off _ _ _ _ _ _ h1,
    State.setQueue_rd_off _ _ _ _ _ _ h0]

theorem State.setUp_rings (s : State) (rec : List Byte) {n : Nat} (hn : n < 4) :
    ∃ u : State, u.rd (F.DMA_CH_STATUS.STATE n) = s.rd (F.DMA_CH_STATUS.STATE n) ∧ ∀ o ∈ ringRegs n, ∀ l w,
      (s.setUp rec).rd ⟨o, l, w⟩ = (u.setRing rec n).rd ⟨o, l, w⟩ := by
  obtain ⟨u, hu, h⟩ := s.rings_spec rec hn
  refine ⟨u, hu, fun o ho l w => (s.setUp_rd_off rec o l w ?_ ?_).trans (h o ho l w)⟩ <;>
    simp only [ringRegs, queueRegs, List.mem_cons, List.not_mem_nil, or_false] at ho ⊢ <;> omega

/-- The registers of queue `q` after the set-up, but for its modulation. -/
theorem State.setUp_queues (s : State) (rec : List Byte) {q : Nat} (hq : q < 2) :
    ∃ u : State, ∀ o ∈ queueRegs q, ∀ l w, (o = (F.HIF_HQ_CTL.LOG2 q).off → l + w ≤ 5) →
      (s.setUp rec).rd ⟨o, l, w⟩ = (u.setQueue rec q).rd ⟨o, l, w⟩ := by
  have hmod : ∀ (u : State) (a b o l w : Nat), (o = (F.HIF_HQ_CTL.LOG2 0).off → l + w ≤ 5) →
      ((u.wr (F.HIF_HQ_CTL.MOD_COUNT 0) a).wr (F.HIF_HQ_CTL.MOD_DELAY 0) b).rd ⟨o, l, w⟩ = u.rd ⟨o, l, w⟩ := by
    intro u a b o l w h
    by_cases ho : o = (F.HIF_HQ_CTL.LOG2 0).off
    · subst ho
      have hl := h rfl
      rw [State.rd_wr_apart _ _ _ _ _ _ _ (by omega), State.rd_wr_apart _ _ _ _ _ _ _ (by omega)]
    · rw [State.rd_wr_off _ _ _ _ _ _ _ _ (Ne.symm ho), State.rd_wr_off _ _ _ _ _ _ _ _ (Ne.symm ho)]
  unfold State.setUp
  simp only [State.rd_mk]
  obtain rfl | rfl : q = 0 ∨ q = 1 := by omega
  · refine ⟨_, fun o ho l w h => (hmod _ _ _ _ _ _ h).trans (State.setQueue_rd_off _ _ _ _ _ _ ?_)⟩
    simp only [queueRegs, List.mem_cons, List.not_mem_nil, or_false] at ho ⊢
    omega
  · refine ⟨_, fun o ho l w _ => hmod _ _ _ _ _ _ (fun e => ?_)⟩
    simp only [queueRegs, List.mem_cons, List.not_mem_nil, or_false] at ho
    simp only at e
    omega

/-- A set-up stays in the blocks HIF and DMA. -/
theorem State.setUp_outside (s : State) (rec : List Byte) :
    regsOutside (fun b => b = 0x2 || b = 0x3 || b = 0x20) s (s.setUp rec) := by
  have hring : ∀ (u : State) n, n < 4 → regsOutside (fun b => b = 0x2 || b = 0x3 || b = 0x20) u (u.setRing rec n) :=
    fun u n hn => regsOutside_of_apart (u.setRing_apart rec n) (fun o ho => by
      simp only [ringRegs, List.mem_cons, List.not_mem_nil, or_false] at ho
      simp only [Bool.or_eq_true, decide_eq_true_eq]
      omega)
  have hqueue : ∀ (u : State) q, q < 2 → regsOutside (fun b => b = 0x2 || b = 0x3 || b = 0x20) u (u.setQueue rec q) :=
    fun u q hq => regsOutside_of_apart (u.setQueue_apart rec q) (fun o ho => by
      simp only [queueRegs, List.mem_cons, List.not_mem_nil, or_false] at ho
      simp only [Bool.or_eq_true, decide_eq_true_eq]
      omega)
  have hrings : regsOutside (fun b => b = 0x2 || b = 0x3 || b = 0x20) s
      ((List.range 4).foldl (fun s n => s.setRing rec n) s) :=
    regsOutside_trans (regsOutside_trans (regsOutside_trans (hring _ 0 (by decide)) (hring _ 1 (by decide)))
      (hring _ 2 (by decide))) (hring _ 3 (by decide))
  unfold State.setUp
  rw [regsOutside_mk]
  exact regsOutside_wr _ _ (regsOutside_wr _ _ (regsOutside_trans (regsOutside_trans hrings (hqueue _ 0 (by decide)))
    (hqueue _ 1 (by decide))) (by decide)) (by decide)

theorem State.setUp_memories (s : State) (rec : List Byte) : sameMemories s (s.setUp rec) := by
  have hrings : RegsOnly s ((List.range 4).foldl (fun s n => s.setRing rec n) s) :=
    RegsOnly.foldl _ _ (fun u n => u.setRing_only rec n) s
  unfold State.setUp
  rw [sameMemories_hif]
  exact ((((hrings.trans (State.setQueue_only _ rec 0)).trans (State.setQueue_only _ rec 1)).wr _ _).wr _ _).sameMemories

/-- The flags of HIF_INTAKE_STATUS and the interrupt sources are no part of the record. -/
theorem State.setUp_apart (s : State) (rec : List Byte) :
    (s.setUp rec).rd ⟨0x20300, 0, 16⟩ = s.rd ⟨0x20300, 0, 16⟩ ∧
      (s.setUp rec).rd (F.DOC_ROUTE.PENDING 20) = s.rd (F.DOC_ROUTE.PENDING 20) := by
  have hoff : ∀ o l w, (∀ n, n < 4 → o ∉ ringRegs n) → (∀ q, q < 2 → o ∉ queueRegs q) →
      (s.setUp rec).rd ⟨o, l, w⟩ = s.rd ⟨o, l, w⟩ := fun o l w h h' => by
    rw [s.setUp_rd_off rec o l w (h' 0 (by decide)) (h' 1 (by decide))]
    show (((((s.setRing rec 0).setRing rec 1).setRing rec 2).setRing rec 3)).rd ⟨o, l, w⟩ = _
    rw [State.setRing_rd_off _ _ _ _ _ _ (h 3 (by decide)), State.setRing_rd_off _ _ _ _ _ _ (h 2 (by decide)),
      State.setRing_rd_off _ _ _ _ _ _ (h 1 (by decide)), State.setRing_rd_off _ _ _ _ _ _ (h 0 (by decide))]
  exact ⟨hoff _ _ _ (by decide) (by decide), hoff _ _ _ (by decide) (by decide)⟩

section
variable {s : State} {rec : List Byte}

theorem exec_setupRecordFetched_programs (hstate : s.rd F.HIF_SETUP_STATUS.STATE = 1) (hlen : rec.length = 256)
    (hzero : fieldAt rec 60 196 = 0) :
    exec (.setupRecordFetched (some rec)) s = .next ((((s.setUp rec).setupEnd 2 0).retire 0).retire 1) := by
  show execSetupRecordFetched (some rec) s = _
  unfold execSetupRecordFetched
  simp only [ne_eq, hstate, not_true_eq_false, if_false]
  rw [if_neg (by simp [hzero, hlen])]
  rfl

theorem exec_setupRecordFetched_refused (hstate : s.rd F.HIF_SETUP_STATUS.STATE = 1)
    (hbad : fieldAt rec 60 196 ≠ 0 ∨ rec.length ≠ 256) :
    exec (.setupRecordFetched (some rec)) s = .next (s.setupEnd 3 2) := by
  show execSetupRecordFetched (some rec) s = _
  simp [execSetupRecordFetched, hstate, hbad, done, State.setupEnd]

theorem exec_setupRecordFetched_failed (hstate : s.rd F.HIF_SETUP_STATUS.STATE = 1) :
    exec (.setupRecordFetched none) s = .next (s.setupEnd 3 3) := by
  show execSetupRecordFetched none s = _
  simp [execSetupRecordFetched, hstate, done, State.setupEnd]

end

/-! ### The doorbells -/

section
variable {s : State} {m : Master} {w : BusWidth} {v : Word}

/-- What SETUP_BUSY looks at, after the address is staged. -/
theorem State.setupBusy_setReg (s : State) (v : Word) :
    ((s.setReg 0x20010 v).leafRunning = s.leafRunning ∧ (s.setReg 0x20010 v).anyRing = s.anyRing) ∧
      (s.setReg 0x20010 v).rd F.HIF_SETUP_STATUS.STATE = s.rd F.HIF_SETUP_STATUS.STATE := by
  have hring : ∀ n, (s.setReg 0x20010 v).bit (F.HIF_SQ_CTL.ENABLE n) = s.bit (F.HIF_SQ_CTL.ENABLE n) := fun n => by
    unfold State.bit
    rw [State.rd_setReg_off _ _ _ _ _ _ (by omega)]
  refine ⟨⟨?_, ?_⟩, State.rd_setReg_off _ _ _ _ _ _ (by decide)⟩
  · unfold State.leafRunning
    rw [State.rd_setReg_off _ _ _ _ _ _ (by decide)]
  · simp only [State.anyRing, hring]

theorem exec_setupDoorbell_starts (hserves : s.serves m F.HIF_SETUP_ADDR.ADDR.off = true) (hleaf : s.leafRunning = false)
    (hring : s.anyRing = false) (hstate : s.rd F.HIF_SETUP_STATUS.STATE ≠ 1) :
    exec (.setupDoorbell m w v) s = .next ((((s.setReg 0x20010 (s.staged 0x20010 w v)).wr F.HIF_SETUP_STATUS.STATE 1).wr
      F.HIF_SETUP_STATUS.CAUSE 0).wr (F.DOC_ROUTE.PENDING 20) 1) := by
  obtain ⟨⟨hl, hr⟩, hs⟩ := s.setupBusy_setReg (s.staged 0x20010 w v)
  show execSetupDoorbell m w v s = _
  unfold execSetupDoorbell
  rw [State.gated_serves _ _ _ _ hserves]
  simp only [hl, hr, hs, hleaf, hring, hstate, decide_false, Bool.or_self, Bool.false_eq_true, if_false,
    State.source_eq _ 20 (by decide), done]

theorem exec_setupDoorbell_busy (hserves : s.serves m F.HIF_SETUP_ADDR.ADDR.off = true)
    (hbusy : s.leafRunning = true ∨ s.anyRing = true ∨ s.rd F.HIF_SETUP_STATUS.STATE = 1) :
    exec (.setupDoorbell m w v) s = .next (if s.rd F.HIF_SETUP_STATUS.STATE = 1
      then (s.setReg 0x20010 (s.staged 0x20010 w v)).wr F.HIF_SETUP_STATUS.CAUSE 1
      else ((s.setReg 0x20010 (s.staged 0x20010 w v)).wr F.HIF_SETUP_STATUS.STATE 3).wr F.HIF_SETUP_STATUS.CAUSE 1) := by
  obtain ⟨⟨hl, hr⟩, hs⟩ := s.setupBusy_setReg (s.staged 0x20010 w v)
  show execSetupDoorbell m w v s = _
  unfold execSetupDoorbell
  rw [State.gated_serves _ _ _ _ hserves]
  simp only [hl, hr, hs, Bool.or_eq_true, decide_eq_true_eq, or_assoc, hbusy, if_true, done]

/-- What HIF_SETUP_ADDR holds after a doorbell. -/
theorem State.staged_addr (s : State) (w : BusWidth) (v : Word) (hw : w = .w32 ∨ w = .w64) :
    (s.setReg 0x20010 (s.staged 0x20010 w v)).rd F.HIF_SETUP_ADDR.ADDR =
      if w = .w64 then v.toNat else s.rd F.HIF_SETUP_ADDR.ADDR % 2 ^ 32 + v.toNat % 2 ^ 32 * 2 ^ 32 := by
  have hget : ∀ x : Word, Field.get ⟨0x20010, 0, 64⟩ x = x.toNat := fun x => by
    unfold Field.get
    rw [Nat.pow_zero, Nat.div_one, Nat.mod_eq_of_lt x.isLt]
  rw [State.rd_setReg_same, hget]
  obtain rfl | rfl := hw
  · rw [State.staged_w32, if_neg (by decide), State.rd, hget]
  · rfl

end

section
variable {s : State} {m : Master} {n : Fin 4} {tail : Nat}

theorem exec_sqTailDoorbell (hserves : s.serves m (F.HIF_SQ_TAIL.TAIL n).off = true) : exec (.sqTailDoorbell m n tail) s =
    .next (if s.bit (F.HIF_SQ_CTL.ENABLE n) then s.wr (F.HIF_SQ_TAIL.TAIL n) tail else s) := by
  show execSqTailDoorbell m n tail s = _
  unfold execSqTailDoorbell
  rw [State.gated_serves _ _ _ _ hserves]
  rfl

end

/-- Settles O9: ring by ring and queue by queue, what the record programs; the doorbells by what SETUP_BUSY looks at. -/
theorem ringSetupProgramsRingsAndQueues : Obligations.RingSetupProgramsRingsAndQueues := by
  unfold Obligations.RingSetupProgramsRingsAndQueues
  refine ⟨fun s m w v hserves hw hleaf hring hstate => ⟨_, exec_setupDoorbell_starts hserves hleaf hring hstate, ?_⟩,
    fun s m w v hserves hw hbusy => ⟨_, exec_setupDoorbell_busy hserves hbusy, ?_⟩,
    fun s rec hstate hlen hzero => ⟨_, exec_setupRecordFetched_programs hstate hlen hzero, ?_⟩,
    fun s rec hstate hbad => ⟨_, exec_setupRecordFetched_refused hstate hbad, ?_⟩,
    fun s hstate => ⟨_, exec_setupRecordFetched_failed hstate, ?_⟩,
    fun s m n tail hserves hen => ⟨_, exec_sqTailDoorbell hserves, ?_⟩,
    fun s m n tail hserves hen => ⟨_, exec_sqTailDoorbell hserves, by simp [hen]⟩⟩
  · refine ⟨?_, ?_, ?_, State.rd_wr_same _ _ _ _ _ (by decide), rfl, by simp [-State.wr_regs]⟩
    · simp (disch := omega) [State.rd_wr_off, State.rd_wr_apart, State.rd_wr_same, -State.wr_regs]
    · simp (disch := omega) [State.rd_wr_off, State.rd_wr_same, -State.wr_regs]
    · simp (disch := omega) only [State.rd_wr_off]
      exact s.staged_addr w v hw
  · split
    · refine ⟨State.rd_wr_same _ _ _ _ _ (by decide), ?_, rfl, by simp [-State.wr_regs]⟩
      simpa (disch := omega) only [State.rd_wr_apart, State.rd_setReg_off]
    · refine ⟨State.rd_wr_same _ _ _ _ _ (by decide), ?_, rfl, by simp [-State.wr_regs]⟩
      simp (disch := omega) [State.rd_wr_apart, State.rd_wr_same, -State.wr_regs]
  · simp only [State.retire_rd, State.bit, State.retire_used]
    obtain ⟨hstate', hcause'⟩ := (s.setUp rec).setupEnd_status 2 0 (by decide) (by decide)
    refine ⟨hstate', hcause', fun n hn => ?_, fun q hq => ?_, fun n hn => ?_, ?_, ?_, ?_⟩
    · obtain ⟨u, -, hu⟩ := s.setUp_rings rec hn
      have hrd : ∀ o ∈ ringRegs n, ∀ l w, ((s.setUp rec).setupEnd 2 0).rd ⟨o, l, w⟩ = (u.setRing rec n).rd ⟨o, l, w⟩ :=
        fun o ho l w => (State.setupEnd_rd_off _ _ _ _ _ _ (by simp [ringRegs] at ho; omega) (by simp [ringRegs] at ho; omega)).trans
          (hu o ho l w)
      obtain ⟨hbase, hlog, hen, hhead, htail⟩ := u.setRing_spec rec n hn
      rw [hrd _ (by simp [ringRegs]), hrd _ (by simp [ringRegs]), hrd _ (by simp [ringRegs]), hrd _ (by simp [ringRegs]),
        hrd _ (by simp [ringRegs])]
      exact ⟨hbase, hlog, hen, hhead, htail⟩
    · obtain ⟨u, hu⟩ := s.setUp_queues rec hq
      have hrd : ∀ o ∈ queueRegs q, ∀ l w, (o = (F.HIF_HQ_CTL.LOG2 q).off → l + w ≤ 5) →
          ((s.setUp rec).setupEnd 2 0).rd ⟨o, l, w⟩ = (u.setQueue rec q).rd ⟨o, l, w⟩ :=
        fun o ho l w h => (State.setupEnd_rd_off _ _ _ _ _ _ (by simp [queueRegs] at ho; omega)
          (by simp [queueRegs] at ho; omega)).trans (hu o ho l w h)
      obtain ⟨hbase, hlog, hen, hhead, htail, hphase⟩ := u.setQueue_spec rec q
      unfold State.bit at hen
      refine ⟨(hrd _ (by simp [queueRegs]) _ _ (by simp)).trans hbase, (hrd _ (by simp [queueRegs]) _ _ (by simp)).trans hlog,
        ?_, (hrd _ (by simp [queueRegs]) _ _ (by simp)).trans hhead, (hrd _ (by simp [queueRegs]) _ _ (by simp)).trans htail,
        (hrd _ (by simp [queueRegs]) _ _ (by simp)).trans hphase, ?_⟩
      · rw [hrd _ (by simp [queueRegs]) _ _ (by simp), hen]
      · rw [(s.setUp rec).setupEnd_only 2 0]
        unfold State.hqUsed
        split <;> rfl
    · obtain ⟨u, hchan, hu⟩ := s.setUp_rings rec hn
      rw [State.setupEnd_rd_off _ _ _ _ _ _ (by omega) (by omega), hu _ (by simp [ringRegs]), u.setRing_channel rec n hn, hchan]
    · rw [State.setupEnd_source _ _ _ (by decide) (by decide), (s.setUp_apart rec).1, (s.setUp_apart rec).2]
    · exact regsOutside_retire (regsOutside_retire (regsOutside_trans (s.setUp_outside rec)
        (regsOutside_of_apart (State.setupEnd_apart _ _ _) (by decide))) _) _
    · exact sameMemories_trans (s.setUp_memories rec) (sameMemories_trans (State.setupEnd_only _ _ _).sameMemories
        (sameMemories_trans (State.retire_memories _ _) (State.retire_memories _ _)))
  · obtain ⟨hstate', hcause'⟩ := s.setupEnd_status 3 2 (by decide) (by decide)
    exact ⟨hstate', hcause', s.setupEnd_only 3 2, s.setupEnd_apart 3 2⟩
  · obtain ⟨hstate', hcause'⟩ := s.setupEnd_status 3 3 (by decide) (by decide)
    exact ⟨hstate', hcause', s.setupEnd_only 3 3, s.setupEnd_apart 3 3⟩
  · rw [if_pos hen]
    exact ⟨State.rd_wr_same _ _ _ _ _ (by decide), rfl, by simp [-State.wr_regs]⟩

end Sys2Proof.Machine
end

section
/-! SUPPORT. What one record of the Accession Log, a lasting fault and an event of a leaky bucket may change (R334, R335, R356 to
R361): no memory and no unit but the log's own, the vectors due and the messages to the twin. -/
namespace Sys2Proof.Machine

/-! ### One record -/

/-- The parts of a state that a record changes. -/
def LogParts (s t : State) : Prop :=
  ∃ regs due ring queue lost copyLost index lastAt lanes, t = { s with
    regs := regs
    hif := { s.hif with due := due }
    acl := { s.acl with ring := ring, queue := queue, lost := lost, copyLost := copyLost, index := index, lastAt := lastAt }
    ikl := { s.ikl with lanes := lanes } }

/-- A step that lets at most one record of an event into the ring or the holding queue, with its vector 4, its copy to the twin on
lane 7 and the registers of the blocks DOC and ACL. -/
structure Logged (event : Nat) (s t : State) : Prop where
  parts : LogParts s t
  ring : t.acl.ring = s.acl.ring ∨
    (t.acl.ring.drop 1 = s.acl.ring.take 8191 ∧ t.acl.ring.head?.map AclRec.event = some event)
  queue : t.acl.queue = s.acl.queue ∨
    (t.acl.queue.dropLast = s.acl.queue ∧ t.acl.queue.getLast?.map AclRec.event = some event)
  due : ∀ v, v < 64 → v ≠ 4 → t.hif.due.getLsbD v = s.hif.due.getLsbD v
  laneCount : t.ikl.lanes.length = s.ikl.lanes.length
  lanes : ∀ k, k < 8 → k ≠ 7 → t.ikl.lanes[k]? = s.ikl.lanes[k]?
  registers : ∀ o, o / 0x10000 ≠ 0x22 → o ≠ (F.DOC_ROUTE.PENDING 23).off → t.reg o = s.reg o

namespace Logged

variable {event : Nat} {s t : State}

theorem refl (event : Nat) (s : State) : Logged event s s :=
  ⟨⟨_, _, _, _, _, _, _, _, _, rfl⟩, .inl rfl, .inl rfl, fun _ _ _ => rfl, rfl, fun _ _ _ => rfl, fun _ _ _ => rfl⟩

/-- The registers of a record stand in the blocks DOC and ACL. -/
theorem outside (h : Logged event s t) : regsOutside (fun b => b = 0x20 || b = 0x22) s t := fun o ho => by
  simp only [Bool.or_eq_false_iff, decide_eq_false_iff_not] at ho
  exact h.registers o ho.2 (by simp only; omega)

theorem wr (h : Logged event s t) (f : Field) (v : Nat) (hf : f.off = (F.DOC_ROUTE.PENDING 23).off ∨ f.off / 0x10000 = 0x22) :
    Logged event s (t.wr f v) := by
  refine ⟨?_, h.ring, h.queue, h.due, h.laneCount, h.lanes, fun o h1 h2 => ?_⟩
  swap
  · rw [State.reg_wr_ne _ _ _ _ (fun e => hf.elim (fun e' => h2 (e.trans e')) (fun e' => h1 (e ▸ e')))]
    exact h.registers o h1 h2
  obtain ⟨_, _, _, _, _, _, _, _, _, rfl⟩ := h.parts
  exact ⟨_, _, _, _, _, _, _, _, _, rfl⟩

theorem vector4 (h : Logged event s t) : Logged event s (t.vector 4) := by
  rw [State.vector_eq _ _ (by decide)]
  refine ⟨?_, h.ring, h.queue, fun v hv hne => ?_, h.laneCount, h.lanes,
    fun o h1 h2 => (State.reg_mk ..).trans (h.registers o h1 h2)⟩
  · obtain ⟨_, _, _, _, _, _, _, _, _, rfl⟩ := h.parts
    exact ⟨_, _, _, _, _, _, _, _, _, rfl⟩
  · exact (getLsbD_or_bit64 _ _ _ hv).trans (by simp [hne, h.due v hv hne])

/-- The counts of the log that go with a record. -/
theorem counts (h : Logged event s t) (lost : Nat) (copyLost : Option (Nat × Nat)) (index : Nat) (lastAt : List (Nat × Nat)) :
    Logged event s { t with acl := { t.acl with lost := lost, copyLost := copyLost, index := index, lastAt := lastAt } } := by
  refine ⟨?_, h.ring, h.queue, h.due, h.laneCount, h.lanes, fun o h1 h2 => (State.reg_mk ..).trans (h.registers o h1 h2)⟩
  obtain ⟨_, _, _, _, _, _, _, _, _, rfl⟩ := h.parts
  exact ⟨_, _, _, _, _, _, _, _, _, rfl⟩

theorem send7 (h : Logged event s t) (mtype : Nat) (content body : List Byte) :
    Logged event s (t.iklSend 7 mtype content body) := by
  refine ⟨?_, h.ring, h.queue, h.due, ?_, fun k hk hne => ?_, ?_⟩
  · obtain ⟨_, _, _, _, _, _, _, _, _, rfl⟩ := h.parts
    exact ⟨_, _, _, _, _, _, _, _, _, rfl⟩
  · exact (List.length_modify _ _ _).trans h.laneCount
  · refine Eq.trans ?_ (h.lanes k hk hne)
    show (t.ikl.lanes.modify 7 _)[k]? = _
    simp [Ne.symm hne]
  · intro o h1 h2
    rw [State.iklSend_reg]
    exact h.registers o h1 h2

theorem ite {u : State} (c : Prop) [Decidable c] (h : Logged event s t) (h' : Logged event s u) :
    Logged event s (if c then t else u) := by
  split
  · exact h
  · exact h'

theorem whenD (c : Bool) (f : State → State) (h : Logged event s t) (h' : Logged event s (f t)) :
    Logged event s (t.whenD c f) := ite _ h' h

end Logged

/-- A record put into the ring (R357, R361). -/
theorem State.aclPut_logged (s : State) (r : AclRec) : Logged r.event s (s.aclPut r) := by
  unfold State.aclPut
  extract_lets next oldest lost gone c t1 t2 t3 t4
  have h1 : Logged r.event s t1 := by
    refine ⟨⟨_, _, _, _, _, _, _, _, _, rfl⟩, .inr ⟨?_, ?_⟩, .inl rfl, fun _ _ _ => rfl, rfl, fun _ _ _ => rfl,
      fun _ _ _ => State.reg_mk ..⟩
    · show ((r :: s.acl.ring).take 8192).drop 1 = _
      simp
    · show ((r :: s.acl.ring).take 8192).head?.map AclRec.event = _
      simp
  have h2 : Logged r.event s t2 :=
    Logged.whenD _ _ h1 ((h1.wr F.ACL_COUNTS.COPY_LOST _ (.inr (by decide))).wr F.ACL_ERR.COPY_LOST 1 (.inr (by decide)))
  have h3 : Logged r.event s t3 := (h2.wr F.ACL_STATUS.NEXT _ (.inr (by decide))).wr F.ACL_STATUS.HELD _ (.inr (by decide))
  have h4 : Logged r.event s t4 := Logged.ite _ (h3.send7 _ _ _) h3
  have h5 : Logged r.event s (t4.announce 4 23) := by
    unfold State.announce
    rw [State.source_eq _ _ (by decide)]
    exact h4.vector4.wr _ _ (.inl rfl)
  exact Logged.ite _ h5 h4

/-- A record that enters the ring, or the holding queue (R359). -/
theorem State.aclEnter_logged (s : State) (r : AclRec) : Logged r.event s (s.aclEnter r) := by
  unfold State.aclEnter
  refine Logged.ite _ (Logged.ite _ ?_ ?_) (s.aclPut_logged r)
  · have h : Logged r.event s { s with acl := { s.acl with queue := s.acl.queue ++ [r] } } :=
      ⟨⟨_, _, _, _, _, _, _, _, _, rfl⟩, .inl rfl, .inr ⟨by simp, by simp⟩, fun _ _ _ => rfl, rfl, fun _ _ _ => rfl,
        fun _ _ _ => State.reg_mk ..⟩
    exact h.wr F.ACL_STATUS.QUEUED _ (.inr (by decide))
  · have h := (Logged.refl r.event s).counts (s.acl.lost + 1) s.acl.copyLost s.acl.index s.acl.lastAt
    exact ((h.wr F.ACL_COUNTS.HOLD_OVERFLOW _ (.inr (by decide))).wr F.ACL_ERR.HOLD_OVERFLOW 1 (.inr (by decide))).vector4

theorem Logged.of_counts {event : Nat} {s t : State} (index : Nat) (lastAt : List (Nat × Nat))
    (h : Logged event { s with acl := { s.acl with index := index, lastAt := lastAt } } t) : Logged event s t := by
  obtain ⟨⟨_, _, _, _, _, _, _, _, _, rfl⟩, hring, hqueue, hdue, hcount, hlanes, hout⟩ := h
  exact ⟨⟨_, _, _, _, _, _, _, _, _, rfl⟩, hring, hqueue, hdue, hcount, hlanes, fun o h1 h2 => (hout o h1 h2).trans (State.reg_mk ..)⟩

/-- A record of this device, within its limits (R356, Table 15-8). -/
theorem State.aclLog_logged (s : State) (event : Nat) (data : List Byte) : Logged event s (s.aclLog event data) := by
  unfold State.aclLog
  refine Logged.ite _ ?_ ((Logged.refl event s).wr F.ACL_COUNTS.SUPPRESSED _ (.inr (by decide)))
  exact Logged.of_counts _ _ (State.aclEnter_logged _ (s.aclMake event false data))

/-! ### Faults -/

/-- A step that only reports: records, vectors, messages to the twin, events of the leaky buckets and registers of some blocks. -/
structure Reported (blocks : Nat → Bool) (s t : State) : Prop where
  parts : ∃ regs due acl lanes buckets, t = { s with
    regs := regs, hif := { s.hif with due := due }, acl := acl, ikl := { s.ikl with lanes := lanes }
    saf := { s.saf with buckets := buckets } }
  outside : regsOutside blocks s t

/-- The blocks that faults are shown in: SAF, KPR, DOC and ACL. -/
def faultBlocks (b : Nat) : Bool := b = 0x1E || b = 0x1F || b = 0x20 || b = 0x22

namespace Reported

variable {blocks : Nat → Bool} {s t u : State}

theorem refl (blocks : Nat → Bool) (s : State) : Reported blocks s s := ⟨⟨_, _, _, _, _, rfl⟩, regsOutside_refl⟩

theorem trans (h : Reported blocks s t) (h' : Reported blocks t u) : Reported blocks s u := by
  refine ⟨?_, regsOutside_trans h.outside h'.outside⟩
  obtain ⟨_, _, _, _, _, rfl⟩ := h.parts
  obtain ⟨_, _, _, _, _, rfl⟩ := h'.parts
  exact ⟨_, _, _, _, _, rfl⟩

theorem mono {blocks' : Nat → Bool} (h : Reported blocks s t) (hb : ∀ b, blocks b = true → blocks' b = true) :
    Reported blocks' s t :=
  ⟨h.parts, fun o ho => h.outside o (by
    by_contra hne
    rw [hb _ (by simpa using hne)] at ho
    exact absurd ho (by decide))⟩

theorem wr (h : Reported blocks s t) (f : Field) (v : Nat) (hf : blocks (f.off / 0x10000) = true) : Reported blocks s (t.wr f v) := by
  refine ⟨?_, regsOutside_wr f v h.outside hf⟩
  obtain ⟨_, _, _, _, _, rfl⟩ := h.parts
  exact ⟨_, _, _, _, _, rfl⟩

theorem incSat (h : Reported blocks s t) (f : Field) (hf : blocks (f.off / 0x10000) = true) : Reported blocks s (t.incSat f) :=
  h.wr f _ hf

theorem ite (c : Prop) [Decidable c] (h : Reported blocks s t) (h' : Reported blocks s u) :
    Reported blocks s (if c then t else u) := by
  split
  · exact h
  · exact h'

theorem vector (h : Reported blocks s t) (v : Nat) : Reported blocks s (t.vector v) := by
  unfold State.vector
  refine ite _ ⟨?_, by rw [regsOutside_mk]; exact h.outside⟩ h
  obtain ⟨_, _, _, _, _, rfl⟩ := h.parts
  exact ⟨_, _, _, _, _, rfl⟩

theorem source (h : Reported blocks s t) (i : Nat) (hb : blocks 0x20 = true) : Reported blocks s (t.source i) := by
  unfold State.source
  by_cases hi : i ≤ 27
  · rw [if_pos hi]
    refine h.wr _ _ ?_
    rw [show (F.DOC_ROUTE.PENDING i).off / 0x10000 = 0x20 by simp only; omega, hb]
  · rw [if_neg hi]
    exact h

theorem announce (h : Reported blocks s t) (v i : Nat) (hb : blocks 0x20 = true) : Reported blocks s (t.announce v i) :=
  (h.vector v).source i hb

theorem aclLog (h : Reported blocks s t) (event : Nat) (data : List Byte) (hd : blocks 0x20 = true) (ha : blocks 0x22 = true) :
    Reported blocks s (t.aclLog event data) := by
  have hl := t.aclLog_logged event data
  refine h.trans ⟨?_, fun o ho => hl.outside o ?_⟩
  · obtain ⟨_, _, _, _, _, _, _, _, _, e⟩ := hl.parts
    exact ⟨_, _, _, _, _, e⟩
  · by_contra hne
    obtain hb | hb : o / 0x10000 = 0x20 ∨ o / 0x10000 = 0x22 := by
      simpa [or_iff_not_imp_left] using hne
    · rw [hb, hd] at ho; exact absurd ho (by decide)
    · rw [hb, ha] at ho; exact absurd ho (by decide)

theorem faultEvent (h : Reported faultBlocks s t) : Reported faultBlocks s t.faultEvent := h.announce _ _ (by decide)

theorem lasting (h : Reported faultBlocks s t) (k inst : Nat) : Reported faultBlocks s (t.lasting k inst) := by
  unfold State.lasting
  have h1 := (((h.wr F.SAF_ERR.LASTING 1 (by decide)).wr F.SAF_LASTING.SOURCE k (by decide)).wr F.SAF_LASTING.INSTANCE inst
    (by decide)).incSat F.SAF_COUNTS.LASTING (by decide)
  exact (h1.aclLog _ _ (by decide) (by decide)).faultEvent

theorem buckets (h : Reported blocks s t) (x : List (Nat × Nat × Nat)) :
    Reported blocks s { t with saf := { t.saf with buckets := x } } := by
  refine ⟨?_, by rw [regsOutside_mk]; exact h.outside⟩
  obtain ⟨_, _, _, _, _, rfl⟩ := h.parts
  exact ⟨_, _, _, _, _, rfl⟩

theorem bucket (h : Reported faultBlocks s t) (k inst : Nat) : Reported faultBlocks s (t.bucket k inst).1 := by
  unfold State.bucket
  dsimp only
  split
  · exact (h.buckets _).lasting _ _
  · exact h.buckets _

theorem sameMemories (h : Reported blocks s t) : sameMemories s t := by
  obtain ⟨_, _, _, _, _, rfl⟩ := h.parts
  exact ⟨rfl, rfl, rfl, rfl, rfl, rfl, rfl, rfl, rfl, rfl⟩

end Reported

theorem State.lasting_saf (s : State) (k inst : Nat) : (s.lasting k inst).saf = s.saf := by
  unfold State.lasting State.faultEvent
  dsimp only
  generalize hu : ((((s.set1 F.SAF_ERR.LASTING).wr F.SAF_LASTING.SOURCE k).wr F.SAF_LASTING.INSTANCE inst).incSat
    F.SAF_COUNTS.LASTING) = u
  have hs : u.saf = s.saf := by rw [← hu]; rfl
  obtain ⟨_, _, _, _, _, _, _, _, _, e⟩ := (u.aclLog_logged 0x0202 (leBytes 1 k ++ leBytes 3 0 ++ leBytes 5 inst)).parts
  rw [State.announce_eq _ _ _ (by decide) (by decide), e]
  exact hs

/-- An event of a bucket is held at the place it names (R334). -/
theorem State.bucket_held (s : State) (k inst : Nat) :
    (k, inst, s.cycle * 256 / max (s.bucketW k) 1) ∈ (s.bucket k inst).1.saf.buckets := by
  unfold State.bucket
  dsimp only
  split
  · rw [State.lasting_saf]
    exact List.mem_cons_self
  · exact List.mem_cons_self

end Sys2Proof.Machine
end

section
/-! SUPPORT. The host link (R30, R32, R34): what a link-down leaves of rings, queues and channels, and what a training shows. -/
namespace Sys2Proof.Machine

/-! ### Rings and queues disabled -/

/-- Every ring and queue disabled with its indices, before a set-up in progress is looked at (R32, Table 18-2). -/
def State.ringsCleared (s : State) : State :=
  let s := (List.range 4).foldl (fun s n => (s.wr (F.HIF_SQ_CTL.ENABLE n) 0).wr (F.HIF_SQ_HEAD.HEAD n) 0) s
  (List.range 2).foldl (fun s q => (((s.wr (F.HIF_HQ_CTL.ENABLE q) 0).wr (F.HIF_HQ_TAIL.TAIL q) 0).wr
    (F.HIF_HQ_HEAD.HEAD q) 0).wr (F.HIF_HQ_TAIL.PHASE q) 1) s

theorem State.ringsCleared_only (s : State) : RegsOnly s s.ringsCleared := rfl

/-- The registers after a link-down: rings, queues and a set-up in progress. -/
structure RingsOff (s t : State) : Prop where
  rings : ∀ n, n < 4 → t.rd (F.HIF_SQ_CTL.ENABLE n) = 0 ∧ t.rd (F.HIF_SQ_HEAD.HEAD n) = 0
  queues : ∀ q, q < 2 → t.rd (F.HIF_HQ_CTL.ENABLE q) = 0 ∧ t.rd (F.HIF_HQ_HEAD.HEAD q) = 0 ∧
    t.rd (F.HIF_HQ_TAIL.TAIL q) = 0 ∧ t.rd (F.HIF_HQ_TAIL.PHASE q) = 1
  setup : s.rd F.HIF_SETUP_STATUS.STATE = 1 → t.rd F.HIF_SETUP_STATUS.STATE = 3 ∧ t.rd F.HIF_SETUP_STATUS.CAUSE = 3

/-- What RingsOff says is read in the block HIF, from 0x20018 to 0x2023F. -/
theorem RingsOff.of_regs {s t u : State} (h : RingsOff s t) (hu : ∀ o, 0x20018 ≤ o → o < 0x20240 → u.reg o = t.reg o) :
    RingsOff s u := by
  have hrd : ∀ o l w, 0x20018 ≤ o → o < 0x20240 → u.rd ⟨o, l, w⟩ = t.rd ⟨o, l, w⟩ := fun o l w h1 h2 => by
    unfold State.rd
    rw [hu o h1 h2]
  refine ⟨fun n hn => ?_, fun q hq => ?_, fun hs => ?_⟩
  · rw [hrd _ _ _ (by omega) (by omega), hrd _ _ _ (by omega) (by omega)]
    exact h.rings n hn
  · rw [hrd _ _ _ (by omega) (by omega), hrd _ _ _ (by omega) (by omega), hrd _ _ _ (by omega) (by omega),
      hrd _ _ _ (by omega) (by omega)]
    exact h.queues q hq
  · rw [hrd _ _ _ (by omega) (by omega), hrd _ _ _ (by omega) (by omega)]
    exact h.setup hs

theorem State.ringsCleared_off (s : State) : 
    (∀ n, n < 4 → s.ringsCleared.rd (F.HIF_SQ_CTL.ENABLE n) = 0 ∧ s.ringsCleared.rd (F.HIF_SQ_HEAD.HEAD n) = 0) ∧
    (∀ q, q < 2 → s.ringsCleared.rd (F.HIF_HQ_CTL.ENABLE q) = 0 ∧ s.ringsCleared.rd (F.HIF_HQ_HEAD.HEAD q) = 0 ∧
      s.ringsCleared.rd (F.HIF_HQ_TAIL.TAIL q) = 0 ∧ s.ringsCleared.rd (F.HIF_HQ_TAIL.PHASE q) = 1) ∧
    s.ringsCleared.rd F.HIF_SETUP_STATUS.STATE = s.rd F.HIF_SETUP_STATUS.STATE := by
  simp only [State.ringsCleared, List.range, List.range.loop, List.foldl]
  refine ⟨fun n hn => ?_, fun q hq => ?_, ?_⟩
  · obtain rfl | rfl | rfl | rfl : n = 0 ∨ n = 1 ∨ n = 2 ∨ n = 3 := by omega
    all_goals simp (disch := omega) [State.rd_wr_off, State.rd_wr_same, -State.wr_regs]
  · obtain rfl | rfl : q = 0 ∨ q = 1 := by omega
    all_goals simp (disch := omega) [State.rd_wr_off, State.rd_wr_apart, State.rd_wr_same, -State.wr_regs]
  · simp (disch := omega) only [State.rd_wr_off]

theorem State.ringsCleared_outside (s : State) : regsOutside (fun b => b = 0x2) s s.ringsCleared := by
  simp only [State.ringsCleared, List.range, List.range.loop, List.foldl]
  simp [-State.wr_regs]

/-- A set-up in progress ends with cause 3 (R32). -/
def State.setupLost (s : State) : State :=
  if s.rd F.HIF_SETUP_STATUS.STATE = 1 then (s.wr F.HIF_SETUP_STATUS.STATE 3).wr F.HIF_SETUP_STATUS.CAUSE 3 else s

theorem State.ringsOff_eq (s : State) : s.ringsOff = { s.ringsCleared.setupLost with
    hif := { s.hif with held := [], used0 := 0, used1 := 0, modCount := 0 } } := by
  have h : s.ringsCleared.setupLost.hif = s.hif := by
    unfold State.setupLost
    split <;> rfl
  rw [← h]
  rfl

theorem State.setupLost_only (s : State) : RegsOnly s s.setupLost := RegsOnly.ite _ rfl rfl

theorem State.setupLost_outside (s : State) : regsOutside (fun b => b = 0x2) s s.setupLost := by
  unfold State.setupLost
  split <;> simp [-State.wr_regs]

theorem State.setupLost_rd_off (s : State) (o l w : Nat) (h : o ≠ 0x20018) : s.setupLost.rd ⟨o, l, w⟩ = s.rd ⟨o, l, w⟩ := by
  unfold State.setupLost
  split
  · rw [State.rd_wr_off _ _ _ _ _ _ _ _ (Ne.symm h), State.rd_wr_off _ _ _ _ _ _ _ _ (Ne.symm h)]
  · rfl

theorem State.setupLost_cause (s : State) (h : s.rd F.HIF_SETUP_STATUS.STATE = 1) :
    s.setupLost.rd F.HIF_SETUP_STATUS.STATE = 3 ∧ s.setupLost.rd F.HIF_SETUP_STATUS.CAUSE = 3 := by
  unfold State.setupLost
  rw [if_pos h]
  simp (disch := omega) [State.rd_wr_apart, State.rd_wr_same, -State.wr_regs]

theorem State.ringsOff_off (s : State) : RingsOff s s.ringsOff := by
  obtain ⟨hrings, hqueues, hstate⟩ := s.ringsCleared_off
  rw [State.ringsOff_eq]
  refine ⟨fun n hn => ?_, fun q hq => ?_, fun hs => ?_⟩ <;> simp only [State.rd_mk]
  · rw [State.setupLost_rd_off _ _ _ _ (by omega), State.setupLost_rd_off _ _ _ _ (by omega)]
    exact hrings n hn
  · rw [State.setupLost_rd_off _ _ _ _ (by omega), State.setupLost_rd_off _ _ _ _ (by omega),
      State.setupLost_rd_off _ _ _ _ (by omega), State.setupLost_rd_off _ _ _ _ (by omega)]
    exact hqueues q hq
  · exact State.setupLost_cause _ (hstate.trans hs)

/-! ### The whole link-down -/

/-- The parts of a state that a link-down changes, with the completions held and the fetches in progress gone. -/
structure LinkDown (s t : State) : Prop where
  parts : ∃ regs fol dma hif, t = { s with regs := regs, fol := fol, dma := dma, hif := hif }
  held : t.hif.held = []
  fetching : t.hif.fetching = []
  requests : t.hif.rfqHeld = s.hif.rfqHeld
  aer : t.hif.aer = s.hif.aer
  off : RingsOff s t
  outside : regsOutside (fun b => b = 0x2 || b = 0x3 || b = 0x4 || b = 0x20) s t

theorem State.fetchesEnd_parts (s : State) (p : Nat) : ∃ f, s.fetchesEnd p = { s with fol := f } := by
  unfold State.fetchesEnd
  split
  · exact ⟨_, s.setLeaf_parts _ _⟩
  · exact ⟨_, rfl⟩

/-- A channel whose program is done is idle with DONE (R50). -/
theorem ChannelStep.dmaDone {k : Nat} {s t : State} (h : ChannelStep k s t) (hk : k < 16) : ChannelStep k s (t.dmaDone k) :=
  (((h.setChan _).wr _ _ (by simp [handoverRegs])).wr _ _ (by simp [handoverRegs])).dmaIrq hk

theorem State.ringSettle_step (s : State) (n : Nat) (hn : n < 16) : ChannelStep n s (s.ringSettle n) := by
  unfold State.ringSettle
  split
  · exact (ChannelStep.refl n s).dmaDone hn
  · exact ChannelStep.refl n s

/-- A step of a channel stays outside the block HIF. -/
theorem LinkDown.channel {k : Nat} {s t u : State} (h : LinkDown s t) (hstep : ChannelStep k t u) (hk : k < 16) :
    LinkDown s u := by
  have hregs : ∀ o, o / 0x10000 ≠ 0x3 → o / 0x10000 ≠ 0x20 → u.reg o = t.reg o := fun o h3 h20 =>
    hstep.regs o (by simp only [handoverRegs, List.mem_cons, List.not_mem_nil, or_false]; omega)
  obtain ⟨_, _, _, hu⟩ := hstep.parts
  obtain ⟨⟨_, _, _, _, ht⟩, hheld, hfetching, hrequests, haer, hoff, hout⟩ := h
  refine ⟨?_, ?_, ?_, ?_, ?_, hoff.of_regs (fun o h1 h2 => hregs o (by omega) (by omega)), fun o ho => ?_⟩
  · rw [hu, ht]
    exact ⟨_, _, _, _, rfl⟩
  · rw [hu]; exact hheld
  · rw [hu]; exact hfetching
  · rw [hu]; exact hrequests
  · rw [hu]; exact haer
  · rw [hregs o (by intro e; simp [e] at ho) (by intro e; simp [e] at ho)]
    exact hout o ho

/-- What is left of the fetches in progress when the rings are off. -/
theorem State.fetchesLost_down (s : State) : LinkDown s (let t := (s.ringsOff.fetchesEnd 0).fetchesEnd 1
    { t with hif := { t.hif with fetching := [] } }) := by
  have hoff := s.ringsOff_off
  have honly := s.ringsCleared_only.trans s.ringsCleared.setupLost_only
  have hout : regsOutside (fun b => b = 0x2) s s.ringsOff := by
    rw [State.ringsOff_eq, regsOutside_mk]
    exact regsOutside_trans s.ringsCleared_outside s.ringsCleared.setupLost_outside
  have hparts : ∃ regs, s.ringsOff =
      { s with regs := regs, hif := { s.hif with held := [], used0 := 0, used1 := 0, modCount := 0 } } :=
    ⟨s.ringsCleared.setupLost.regs, by rw [State.ringsOff_eq, honly]⟩
  obtain ⟨f, hf⟩ := s.ringsOff.fetchesEnd_parts 0
  obtain ⟨g, hg⟩ := (s.ringsOff.fetchesEnd 0).fetchesEnd_parts 1
  obtain ⟨r, hr⟩ := hparts
  rw [hg, hf]
  generalize s.ringsOff = t at *
  refine ⟨?_, ?_, rfl, ?_, ?_, hoff.of_regs (fun _ _ _ => rfl), fun o ho => ?_⟩
  · rw [hr]
    exact ⟨_, _, _, _, rfl⟩
  · rw [hr]
  · rw [hr]
  · rw [hr]
  · exact hout o (by by_contra hne; simp at hne; simp [hne] at ho)

/-- A link-down ends with every vector masked and LINK_LOST announced (R32). -/
theorem State.linkLost_down (s : State) : LinkDown s s.linkLost ∧ s.linkLost.hif.mask = BitVec.allOnes 64 ∧
    s.linkLost.rd F.HIF_INTAKE_STATUS.LINK_LOST = 1 := by
  have h := s.fetchesLost_down
  unfold State.linkLost
  dsimp only at h ⊢
  generalize ((s.ringsOff.fetchesEnd 0).fetchesEnd 1) = u at h ⊢
  generalize { u with hif := { u.hif with fetching := [] } } = t at h ⊢
  have h4 : LinkDown s ((List.range 4).foldl State.ringSettle t) :=
    (((h.channel (State.ringSettle_step _ 0 (by decide)) (by decide)).channel (State.ringSettle_step _ 1 (by decide))
      (by decide)).channel (State.ringSettle_step _ 2 (by decide)) (by decide)).channel (State.ringSettle_step _ 3 (by decide))
      (by decide)
  generalize (List.range 4).foldl State.ringSettle t = v at h4 ⊢
  rw [State.intake_eq]
  refine ⟨⟨?_, h4.held, h4.fetching, h4.requests, h4.aer, h4.off.of_regs (fun o h1 h2 => ?_), ?_⟩, rfl, ?_⟩
  · obtain ⟨_, _, _, _, rfl⟩ := h4.parts
    exact ⟨_, _, _, _, rfl⟩
  · rw [State.reg_wr_ne _ _ _ _ (by simp only; omega), State.reg_mk, State.reg_wr_ne _ _ _ _ (by simp only; omega),
      State.reg_mk]
  · simpa [-State.wr_regs] using h4.outside
  · simp (disch := omega) [State.rd_wr_off, State.rd_wr_same, -State.wr_regs]

/-- Writes of the link's status and of the capacity keep what a link-down leaves. -/
theorem LinkDown.wr {s t : State} (h : LinkDown s t) (f : Field) (v : Nat) (hf : f.off = 0x20000 ∨ f.off = 0x40010) :
    LinkDown s (t.wr f v) := by
  refine ⟨?_, h.held, h.fetching, h.requests, h.aer, h.off.of_regs (fun o h1 h2 => State.reg_wr_ne _ _ _ _ (by omega)),
    regsOutside_wr f v h.outside (by obtain e | e := hf <;> rw [e] <;> decide)⟩
  obtain ⟨_, _, _, _, rfl⟩ := h.parts
  exact ⟨_, _, _, _, rfl⟩

theorem LinkDown.linkRuns {s t : State} (h : LinkDown s t) (speed width : Nat) : LinkDown s (t.linkRuns speed width) :=
  ((h.wr F.HIF_LINK_STATUS.SPEED speed (.inl rfl)).wr F.HIF_LINK_STATUS.WIDTH width (.inl rfl)).wr F.FOL_INTAKE_CAP.CAP_MBS _
    (.inr rfl)

theorem State.linkRuns_rd_off (s : State) (speed width o l w : Nat) (h : o ≠ 0x20000) (h' : o ≠ 0x40010) :
    (s.linkRuns speed width).rd ⟨o, l, w⟩ = s.rd ⟨o, l, w⟩ := by
  unfold State.linkRuns
  rw [State.rd_wr_off _ _ _ _ _ _ _ _ (Ne.symm h'), State.rd_wr_off _ _ _ _ _ _ _ _ (Ne.symm h),
    State.rd_wr_off _ _ _ _ _ _ _ _ (Ne.symm h)]

theorem intakeCap_lt (speed width : Nat) (h : width ≤ 16) : intakeCap speed width < 2 ^ 16 := by
  unfold intakeCap
  split <;> omega

@[simp] theorem State.linkRuns_hif (s : State) (speed width : Nat) : (s.linkRuns speed width).hif = s.hif := rfl

theorem State.linkRuns_status (s : State) (speed width : Nat) (hspeed : speed < 8) (hwidth : width ≤ 16) :
    (s.linkRuns speed width).rd F.HIF_LINK_STATUS.SPEED = speed ∧
    (s.linkRuns speed width).rd F.HIF_LINK_STATUS.WIDTH = width ∧
    (s.linkRuns speed width).rd F.FOL_INTAKE_CAP.CAP_MBS = intakeCap speed width := by
  have hcap := intakeCap_lt speed width hwidth
  unfold State.linkRuns
  simp (disch := omega) [State.rd_wr_off, State.rd_wr_apart, State.rd_wr_same, Nat.mod_eq_of_lt, -State.wr_regs]

theorem LinkDown.sameMemories {s t : State} (h : LinkDown s t) : sameMemories s t := by
  obtain ⟨_, _, _, _, rfl⟩ := h.parts
  exact ⟨rfl, rfl, rfl, rfl, rfl, rfl, rfl, rfl, rfl, rfl⟩

/-! ### AER (R34) -/

/-- A report adds one to its number and leaves the registers. -/
theorem State.aerReport_same (s : State) (row : Nat) : smGet (fun _ => 0) (s.aerReport row).hif.aer (8 * aerSeverity row + row) =
    smGet (fun _ => 0) s.hif.aer (8 * aerSeverity row + row) + 1 := by
  simp only [State.aerReport, smGet_smSet_same]

/-- Settles O10: the frames of the link-down, of a channel that ends with it and of a fault's report, and the fields of the
link's status. -/
theorem hostLinkEventsActOnIntakeOnly : Obligations.HostLinkEventsActOnIntakeOnly := by
  unfold Obligations.HostLinkEventsActOnIntakeOnly
  refine ⟨fun s down bme => ?_, fun s speed width ltssm bme hwidth hpos hspeed hmode => ?_,
    fun s speed width ltssm bme hfail hmode => ?_, fun s => ?_, fun s => ?_, fun s => ?_, fun s => ?_⟩
  · obtain ⟨hdown, hmask, hlost⟩ := s.linkLost_down
    refine ⟨if down then (s.linkLost.wrBit F.HIF_LINK_STATUS.BME (bme && !down)).linkRuns 0 0 else
      s.linkLost.wrBit F.HIF_LINK_STATUS.BME (bme && !down), rfl, ?_⟩
    generalize s.linkLost = t at hdown hmask hlost ⊢
    have hbme : LinkDown s (t.wrBit F.HIF_LINK_STATUS.BME (bme && !down)) := hdown.wr _ _ (.inl rfl)
    have hbit : (t.wrBit F.HIF_LINK_STATUS.BME (bme && !down)).bit F.HIF_LINK_STATUS.BME = (bme && !down) :=
      State.bit_wrBit_same _ _ _ _ (by decide)
    have hlost' : (t.wrBit F.HIF_LINK_STATUS.BME (bme && !down)).rd F.HIF_INTAKE_STATUS.LINK_LOST = 1 :=
      (State.rd_wr_off _ _ _ _ _ _ _ _ (by decide)).trans hlost
    cases down with
    | false => exact ⟨hbme.off.rings, hbme.off.queues, hlost', hbit, hbme.off.setup, hmask, hbme.held, hbme.fetching,
        hbme.requests, hbme.outside, hbme.sameMemories⟩
    | true =>
      have hruns := hbme.linkRuns 0 0
      refine ⟨hruns.off.rings, hruns.off.queues, ?_, ?_, hruns.off.setup, hmask, hruns.held, hruns.fetching, hruns.requests,
        hruns.outside, hruns.sameMemories⟩
      · exact (State.linkRuns_rd_off _ _ _ _ _ _ (by decide) (by decide)).trans hlost'
      · rw [if_pos rfl]
        refine Eq.trans ?_ hbit
        simp (disch := omega) only [State.bit, State.linkRuns, State.rd_wr_off, State.rd_wr_apart]
  · have hexec : exec (.pcieLinkTrained speed width ltssm bme) s = .next (((s.linkRuns
        (if s.mode = 4 ∨ (s.mode = 1 ∧ s.locked = false) then 1 else min speed.val (s.rd F.HIF_LINK_LIMIT.MAX_SPEED))
        (if s.mode = 4 then 1 else min width (s.rd F.HIF_LINK_LIMIT.MAX_WIDTH))).wr F.HIF_LINK_STATUS.LTSSM ltssm).wrBit
        F.HIF_LINK_STATUS.BME bme) := by
      show execPcieLinkTrained speed width ltssm bme s = _
      have h : ¬ (speed.val = 0 ∨ width = 0) := by omega
      simp only [execPcieLinkTrained, State.configRetry, hmode, h, decide_false, Bool.false_or, Bool.or_eq_true,
        Bool.and_eq_true, decide_eq_true_eq, Bool.not_eq_true', if_false, done]
    refine ⟨_, hexec, ?_⟩
    generalize hsp : (if s.mode = 4 ∨ (s.mode = 1 ∧ s.locked = false) then 1 else
      min speed.val (s.rd F.HIF_LINK_LIMIT.MAX_SPEED)) = sp
    generalize hwd : (if s.mode = 4 then 1 else min width (s.rd F.HIF_LINK_LIMIT.MAX_WIDTH)) = wd
    have hsp8 : sp < 8 := by
      have := speed.isLt
      rw [← hsp]
      split <;> omega
    have hwd16 : wd ≤ 16 := by
      rw [← hwd]
      split <;> omega
    obtain ⟨hs, hw, hcap⟩ := s.linkRuns_status sp wd hsp8 hwd16
    have hltssm := ltssm.isLt
    have hrd : ∀ o l w, (o ≠ 0x20000 ∨ l + w ≤ 8) → ((((s.linkRuns sp wd).wr F.HIF_LINK_STATUS.LTSSM ltssm).wrBit
        F.HIF_LINK_STATUS.BME bme).rd ⟨o, l, w⟩) = (s.linkRuns sp wd).rd ⟨o, l, w⟩ := fun o l w h => by
      unfold State.wrBit
      by_cases ho : o = 0x20000
      · subst ho
        simp (disch := omega) only [State.rd_wr_apart]
      · simp (disch := omega) only [State.rd_wr_off]
    have hs' := (hrd 0x20000 0 3 (.inr (by decide))).trans hs
    have hw' := (hrd 0x20000 3 5 (.inr (by decide))).trans hw
    refine ⟨hs', hw', ?_, ?_, ?_, rfl, by simp [State.linkRuns, State.wrBit, -State.wr_regs]⟩
    · unfold State.wrBit
      rw [State.rd_wr_apart _ _ _ _ _ _ _ (by decide), State.rd_wr_same _ _ _ _ _ (by decide)]
      exact Nat.mod_eq_of_lt hltssm
    · exact State.bit_wrBit_same _ _ _ _ (by decide)
    · rw [hs', hw']
      exact (hrd 0x40010 0 16 (.inl (by decide))).trans hcap
  · refine ⟨_, ?_, rfl⟩
    show execPcieLinkTrained speed width ltssm bme s = _
    simp only [execPcieLinkTrained, hmode, hfail, Bool.or_eq_true, decide_eq_true_eq, if_true, if_false, done]
  · obtain ⟨hdown, hmask, hlost⟩ := (s.aerReport 4).linkLost_down
    have haer := s.aerReport_same 4
    refine ⟨((s.aerReport 4).linkLost.clr F.HIF_LINK_STATUS.BME).linkRuns 0 0, rfl, ?_⟩
    generalize (s.aerReport 4).linkLost = t at hdown hlost ⊢
    have hruns := (hdown.wr F.HIF_LINK_STATUS.BME 0 (.inl rfl)).linkRuns 0 0
    obtain ⟨hs, hw, -⟩ := (t.wr F.HIF_LINK_STATUS.BME 0).linkRuns_status 0 0 (by decide) (by decide)
    refine ⟨fun n hn => (hruns.off.rings n hn).1, fun q hq => (hruns.off.queues q hq).1, ?_, ?_, hs, hw, ?_, hruns.outside, ?_⟩
    · rw [State.linkRuns_rd_off _ _ _ _ _ _ (by decide) (by decide)]
      exact (State.rd_wr_off _ _ _ _ _ _ _ _ (by decide)).trans hlost
    · simp (disch := omega) [State.clr_eq, State.linkRuns, State.rd_wr_off, State.rd_wr_apart, State.rd_wr_same, -State.wr_regs]
    · exact (congrArg (fun m => smGet (fun _ => 0) m 28) hdown.aer).trans haer
    · exact sameMemories_trans ⟨rfl, rfl, rfl, rfl, rfl, rfl, rfl, rfl, rfl, rfl⟩ hruns.sameMemories
  · have hrep : Reported faultBlocks (s.aerReport 0) ((s.aerReport 0).bucketReport 3 0) :=
      (Reported.refl faultBlocks _).bucket 3 0
    refine ⟨(s.aerReport 0).bucketReport 3 0, rfl, ?_, ?_, ?_, ?_⟩
    · exact List.any_eq_true.mpr ⟨_, State.bucket_held (s.aerReport 0) 3 0, by simp⟩
    · obtain ⟨_, _, _, _, _, e⟩ := hrep.parts
      rw [e]
      exact s.aerReport_same 0
    · exact hrep.outside
    · exact sameMemories_trans ⟨rfl, rfl, rfl, rfl, rfl, rfl, rfl, rfl, rfl, rfl⟩ hrep.sameMemories
  · exact ⟨s.aerReport 3, rfl, s.aerReport_same 3, rfl⟩
  · refine ⟨_, rfl, rfl, ?_, rfl, by simp [-State.wr_regs]⟩
    rw [State.rd_mk, State.rd_wr_same _ _ _ _ _ (by decide)]
    rfl

end Sys2Proof.Machine
end

section
/-! SUPPORT. The firewall (R344): what a refused write leaves, and that every command of a register write is gated by its
register. -/
namespace Sys2Proof.Machine

/-! ### A refusal -/

/-- The attempt recorded in KPR_FW_LAST, flagged and counted (R344). -/
def State.fwNoted (s : State) (m : Master) (addr kind : Nat) : State :=
  (((((s.wr F.KPR_FW_LAST.ADDR addr).wr F.KPR_FW_LAST.MASTER (masterCode m)).wr F.KPR_FW_LAST.CORE (masterCore m)).wr
    F.KPR_FW_LAST.KIND kind).wr F.KPR_ERR.FIREWALL 1).incSat F.KPR_COUNTS.FIREWALL

theorem masterCode_lt (m : Master) : masterCode m < 8 := by cases m <;> simp [masterCode]

theorem masterCore_lt (m : Master) : masterCore m < 8 := by
  cases m with
  | docentM c => exact c.isLt
  | docentU c => exact c.isLt
  | _ => decide

/-- What KPR_FW_LAST, KPR_ERR and KPR_COUNTS show of a refused write, as refusedAt asks for it. -/
def fwShown (s t : State) (m : Master) (off : Nat) : Prop :=
  t.rd F.KPR_FW_LAST.ADDR = off % 2 ^ F.KPR_FW_LAST.ADDR.width ∧ t.rd F.KPR_FW_LAST.MASTER = masterCode m ∧
  t.rd F.KPR_FW_LAST.CORE = masterCore m ∧ t.rd F.KPR_FW_LAST.KIND = 0 ∧ t.rd F.KPR_ERR.FIREWALL = 1 ∧
  t.rd F.KPR_COUNTS.FIREWALL = min (s.rd F.KPR_COUNTS.FIREWALL + 1) (2 ^ F.KPR_COUNTS.FIREWALL.width - 1)

theorem fwShown_of_rd {s t u : State} {m : Master} {off : Nat} (h : fwShown s t m off)
    (hrd : ∀ o l w, o / 0x10000 = 0x1F → (o = 0x1F0040 → l + w ≤ 16) → u.rd ⟨o, l, w⟩ = t.rd ⟨o, l, w⟩) :
    fwShown s u m off := by
  unfold fwShown at *
  rw [hrd _ _ _ (by decide) (by decide), hrd _ _ _ (by decide) (by decide), hrd _ _ _ (by decide) (by decide),
    hrd _ _ _ (by decide) (by decide), hrd _ _ _ (by decide) (by decide), hrd _ _ _ (by decide) (by decide)]
  exact h

theorem State.fwNoted_shown (s : State) (m : Master) (off : Nat) : fwShown s (s.fwNoted m off 0) m off := by
  have hcode := masterCode_lt m
  have hcore := masterCore_lt m
  unfold fwShown State.fwNoted State.incSat State.addSat
  simp (disch := omega) only [State.rd_wr_off, State.rd_wr_apart, State.rd_wr_same]
  refine ⟨trivial, Nat.mod_eq_of_lt hcode, Nat.mod_eq_of_lt hcore, rfl, rfl, Nat.mod_eq_of_lt ?_⟩
  have h : (2 : Nat) ^ 16 - 1 < 2 ^ 16 := by decide
  exact lt_of_le_of_lt (Nat.min_le_right _ _) h

theorem State.fwNoted_outside (s : State) (m : Master) (off kind : Nat) :
    regsOutside (fun b => b = 0x1F) s (s.fwNoted m off kind) := by
  simp [State.fwNoted, State.incSat, State.addSat, -State.wr_regs]

theorem State.fwRefuse_eq (s : State) (m : Master) (addr kind : Nat) : s.fwRefuse m addr kind =
    if (s.fwNoted m addr kind).aclDue 0x0301 then
      { s.fwNoted m addr kind with acl := { (s.fwNoted m addr kind).acl with fwSuppressed := 0 } }.aclLog 0x0301
        (leBytes 8 ((s.fwNoted m addr kind).reg 0x1F0048).toNat ++ leBytes 4 (s.fwNoted m addr kind).acl.fwSuppressed)
    else (({ s.fwNoted m addr kind with acl := { (s.fwNoted m addr kind).acl with
        fwSuppressed := (s.fwNoted m addr kind).acl.fwSuppressed + 1 } }).incSat F.KPR_COUNTS.SUPPRESSED).incSat
      F.ACL_COUNTS.SUPPRESSED := rfl

/-- A state that shows the attempt, with the Keeper's registers changed alone, and one record of it in the log. -/
theorem refusedAt_of_logged {s v u : State} {m : Master} {off n : Nat} (hv : RegsOnly s v)
    (hout : regsOutside (fun b => b = 0x1F) s v) (hshown : fwShown s v m off)
    (hu : Logged 0x0301 { v with acl := { v.acl with fwSuppressed := n } } u) : refusedAt s (u.trap m 2) m off := by
  have htrap : u.trap m 2 = { u with docTrap := trapOf u m } := by cases m <;> rfl
  obtain ⟨⟨regs, due, ring, queue, lost, copyLost, index, lastAt, lanes, e⟩, hring, hqueue, hdue, hcount, hlanes, -⟩ := id hu
  have hreg := hu.outside
  have hrd : ∀ o l w, o / 0x10000 = 0x1F → u.rd ⟨o, l, w⟩ = v.rd ⟨o, l, w⟩ := fun o l w ho =>
    (regsOutside_rd hreg o l w (by rw [ho]; decide)).trans (State.rd_mk ..)
  have hshown' : fwShown s u m off := fwShown_of_rd hshown (fun o l w ho _ => hrd o l w ho)
  have hreg' : regsOutside (fun b => b = 0x1F || b = 0x20 || b = 0x22) s u := fun o ho => by
    simp only [Bool.or_eq_false_iff, decide_eq_false_iff_not] at ho
    obtain ⟨⟨h1, h2⟩, h3⟩ := ho
    exact ((hreg o (by simp [h2, h3])).trans (State.reg_mk ..)).trans (hout o (by simp [h1]))
  rw [hv] at e hring hqueue hdue hcount hlanes
  rw [htrap]
  refine ⟨?_, hring, hqueue, hdue, hcount, hlanes, by rw [regsOutside_mk]; exact hreg', ?_⟩
  · rw [e]
    cases m <;> rfl
  · simp only [State.rd_mk]
    exact hshown'

/-- A refused write (R344). -/
theorem State.refuseWrite_refused (s : State) (m : Master) (off : Nat) : refusedAt s (s.refuseWrite m off) m off := by
  unfold State.refuseWrite
  rw [State.fwRefuse_eq]
  have hshown := s.fwNoted_shown m off
  have hout := s.fwNoted_outside m off 0
  have honly : RegsOnly s (s.fwNoted m off 0) := rfl
  generalize s.fwNoted m off 0 = v at hshown hout honly ⊢
  split
  · exact refusedAt_of_logged honly hout hshown (State.aclLog_logged _ _ _)
  · have hshown' : fwShown s (v.incSat F.KPR_COUNTS.SUPPRESSED) m off := fwShown_of_rd hshown (fun o l w _ h => by
      unfold State.incSat State.addSat
      by_cases ho : o = 0x1F0040
      · subst ho
        exact State.rd_wr_apart _ _ _ _ _ _ _ (.inr (h rfl))
      · exact State.rd_wr_off _ _ _ _ _ _ _ _ (Ne.symm ho))
    exact refusedAt_of_logged (v := v.incSat F.KPR_COUNTS.SUPPRESSED) (honly.wr _ _)
      (regsOutside_wr _ _ hout (by decide)) hshown'
      ((Logged.refl 0x0301 _).wr F.ACL_COUNTS.SUPPRESSED _ (.inr (by decide)))

/-! ### The gate of a command -/

theorem State.gated_silent {s : State} {m : Master} (off : Nat) (f : State → State) (h : s.silent m = true) :
    s.gated m off f = s := if_pos h

theorem State.gated_refused {s : State} {m : Master} {off : Nat} (f : State → State) (hs : s.silent m = false)
    (ha : s.admits m off = false) : s.gated m off f = s.refuseWrite m off := by
  unfold State.gated
  rw [hs, ha]
  rfl

/-- Every command that a register write makes passes the gate of its register. -/
theorem exec_gated {c : Instr} {m : Master} {off : Nat} (s : State) (h : gateOf c = some (m, off)) :
    ∃ f, exec c s = .next (s.gated m off f) := by
  cases c <;> simp only [gateOf, reduceCtorEq, Option.some.injEq, Prod.mk.injEq] at h <;> obtain ⟨rfl, rfl⟩ := h <;>
    exact ⟨_, rfl⟩

/-- Settles O7: an access that reaches no register, one that reaches a refused register, and every gated command. -/
theorem refusedWriteIsDiscardedAndLogged : Obligations.RefusedWriteIsDiscardedAndLogged := by
  unfold Obligations.RefusedWriteIsDiscardedAndLogged
  refine ⟨fun s m off w v hs hhit => ⟨_, ?_, s.refuseWrite_refused m off⟩,
    fun s m off w v o cover hs hhit hadm => ⟨_, ?_, s.refuseWrite_refused m o⟩,
    fun s c m off hgate hs hadm => ⟨_, ?_, s.refuseWrite_refused m off⟩, fun s c m off hgate hs => ⟨s, ?_, rfl⟩⟩
  · show execRegisterWrite m off w v s = _
    unfold execRegisterWrite State.busWrite
    obtain h | h := hhit <;> simp only [hs, h, Bool.false_eq_true, if_false, done]
  · show execRegisterWrite m off w v s = _
    unfold execRegisterWrite State.busWrite State.writeOne
    unfold State.admitted at hadm
    simp only [hs, hhit, Bool.false_eq_true, if_false, done]
    cases hrow : rowAt o with
    | none => rfl
    | some row =>
      rw [hrow] at hadm
      dsimp only at hadm ⊢
      rw [if_pos hadm]
  · obtain ⟨f, hf⟩ := exec_gated s hgate
    rw [hf, State.gated_refused f hs hadm]
  · obtain ⟨f, hf⟩ := exec_gated s hgate
    rw [hf, State.gated_silent off f hs]

end Sys2Proof.Machine
end

section
/-! SUPPORT. Register accesses bit by bit (R12, R13, R344, R398 to R402): what an access reaches, what the rows of the map give,
which pending bits fall with a status, and what a plain write, a write of ones and a read leave. -/
namespace Sys2Proof.Machine

/-! ### What an access reaches -/

/-- An access that reaches one register reaches it whole, or one of its halves. -/
theorem busHit_one {off o cover : Nat} {w : BusWidth} (h : busHit off w = .one o cover) :
    off < bar2Base ∧ (rowAt o).isSome ∧ ((cover = lowMask ∧ off = o) ∨ (cover = highMask ∧ off = o + 4 ∧ o % 8 = 0) ∨
      (cover = fullMask ∧ off = o)) := by
  unfold busHit at h
  split at h
  · exact absurd h (by simp)
  · next hb =>
    have hlt : off < bar2Base := by omega
    cases w with
    | w8 => exact absurd h (by simp)
    | w16 => exact absurd h (by simp)
    | w32 =>
      dsimp only at h
      cases hrow : rowAt off with
      | some row =>
        simp only [hrow] at h
        split_ifs at h
        obtain ⟨rfl, rfl⟩ := by simpa using h
        exact ⟨hlt, by rw [hrow]; rfl, .inl ⟨rfl, rfl⟩⟩
      | none =>
        cases hrow' : rowAt (off - 4) with
        | some row =>
          simp only [hrow, hrow'] at h
          split_ifs at h
          obtain ⟨rfl, rfl⟩ := by simpa using h
          refine ⟨hlt, by rw [hrow']; rfl, .inr (.inl ⟨rfl, ?_, ?_⟩)⟩ <;> omega
        | none =>
          simp only [hrow, hrow'] at h
          split_ifs at h
    | w64 =>
      dsimp only at h
      cases hrow : rowAt off with
      | some row =>
        simp only [hrow] at h
        split_ifs at h
        obtain ⟨rfl, rfl⟩ := by simpa using h
        exact ⟨hlt, by rw [hrow]; rfl, .inr (.inr ⟨rfl, rfl⟩)⟩
      | none =>
        simp only [hrow] at h
        split_ifs at h

/-- Which bit of the access goes to a covered bit of the register. -/
theorem laid_testBit {cover : Nat} (v : Word) {i : Nat}
    (hc : cover.testBit i = true) : (laid cover v).testBit i = v.getLsbD (dataBit cover i) := by
  have hv : ∀ j, v.toNat.testBit j = v.getLsbD j := fun j => rfl
  unfold laid dataBit
  by_cases hcover : cover = highMask
  · subst hcover
    have hi : 32 ≤ i ∧ i < 64 := by
      rw [show highMask = (2 ^ 32 - 1) * 2 ^ 32 from rfl, Nat.testBit_mul_two_pow] at hc
      simp only [Nat.testBit_two_pow_sub_one, Bool.and_eq_true, decide_eq_true_eq] at hc
      omega
    rw [if_pos rfl, if_pos rfl, Nat.testBit_mul_two_pow, Nat.testBit_mod_two_pow, hv]
    simp [hi.1, show i - 32 < 32 by omega]
  · rw [if_neg hcover, if_neg hcover, hv]

/-! ### The rows of the map -/

/-- A row found at an offset stands in the offset's block and spells its indices. -/
theorem rowAt_some {o : Nat} {r : RegRow} {ix : List Nat} (h : rowAt o = some (r, ix)) :
    r ∈ rowsOfBlock (o / 0x10000) ∧ r.indexOf o = some ix := by
  obtain ⟨x, hx, hix⟩ := List.exists_of_findSome?_eq_some h
  obtain ⟨jx, hj, e⟩ := Option.map_eq_some_iff.mp hix
  obtain ⟨rfl, rfl⟩ := by simpa using e
  exact ⟨hx, hj⟩

/-- The rows that an owner writes are those of the check-value units (R353). -/
theorem crcOwner_rows : ∀ b, b < 0x26 → b ≠ 0x21 → ∀ r ∈ rowsOfBlock b, r.kind ≠ .crcOwner := by decide +kernel

theorem crcOwner_dims : ∀ r ∈ rowsOfBlock 0x21, r.dims = [(0x100, 4)] ∧ 0x210000 ≤ r.off ∧ r.off < 0x210100 := by
  decide +kernel

/-- No register stands behind the last block. -/
theorem rowsOfBlock_past {b : Nat} (h : 0x26 ≤ b) : rowsOfBlock b = [] := by
  obtain ⟨n, rfl⟩ := Nat.exists_eq_add_of_le' h
  rfl

/-- An owner's register stands in the block of the check-value units, and its first index is the unit's number (R353). -/
theorem crcOwner_place {o : Nat} {r : RegRow} {ix : List Nat} (h : rowAt o = some (r, ix)) (hk : r.kind = .crcOwner) :
    o / 0x10000 = 0x21 ∧ ix.headD 0 = o % 0x10000 / 0x100 := by
  obtain ⟨hmem, hix⟩ := rowAt_some h
  have hblock : o / 0x10000 = 0x21 := by
    by_contra hne
    by_cases hlt : o / 0x10000 < 0x26
    · exact crcOwner_rows _ hlt hne r hmem hk
    · rw [rowsOfBlock_past (Nat.not_lt.1 hlt)] at hmem
      exact absurd hmem List.not_mem_nil
  rw [hblock] at hmem
  obtain ⟨hdims, hlow, hhigh⟩ := crcOwner_dims r hmem
  refine ⟨hblock, ?_⟩
  unfold RegRow.indexOf at hix
  rw [hdims] at hix
  split_ifs at hix with hoff
  unfold dimsIndex at hix
  split_ifs at hix with hcount
  unfold dimsIndex at hix
  split_ifs at hix with hzero
  swap
  · exact absurd hix (by simp)
  obtain rfl := by simpa using hix
  simp only [List.headD_cons]
  omega

/-! ### The pending bits that fall with a status (R348) -/

/-- The status of a source does not stand in its DOC_ROUTE register. -/
theorem State.sourceIdle_wr_pending (s : State) (k j v : Nat) (hk : k < 28) (hj : j < 28) :
    (s.wr (F.DOC_ROUTE.PENDING k) v).sourceIdle j = s.sourceIdle j := by
  have hreg : ∀ o, o < 0x200200 → (s.wr (F.DOC_ROUTE.PENDING k) v).reg o = s.reg o := fun o ho =>
    State.reg_wr_ne _ _ _ _ (by simp only; omega)
  unfold State.sourceIdle State.bit State.rd
  interval_cases j <;> simp (disch := decide) [hreg]

/-- A clear of one pending bit. -/
theorem State.wr_pending_getLsbD (s : State) (k x i : Nat) (hi : i < 64) :
    ((s.wr (F.DOC_ROUTE.PENDING k) 0).reg x).getLsbD i =
      if x = (F.DOC_ROUTE.PENDING k).off ∧ i = 4 then false else (s.reg x).getLsbD i := by
  by_cases hx : x = (F.DOC_ROUTE.PENDING k).off
  · subst hx
    unfold State.wr
    rw [State.reg_setReg_same, Field.put_getLsbD _ _ _ _ hi]
    by_cases h4 : i = 4
    · subst h4; simp
    · rw [if_neg (by simp only; omega), if_neg (by omega)]
  · rw [State.reg_wr_ne _ _ _ _ hx, if_neg (fun h => hx h.1)]

theorem any_congr_mem {α : Type} {l : List α} {p q : α → Bool} (h : ∀ a ∈ l, p a = q a) : l.any p = l.any q := by
  induction l with
  | nil => rfl
  | cons a l ih =>
    rw [List.any_cons, List.any_cons, h a List.mem_cons_self, ih (fun b hb => h b (List.mem_cons_of_mem _ hb))]

/-- A fold over sources: a bit falls where it is the pending bit of one of them that is idle. -/
theorem settleFold_getLsbD (l : List Nat) (hl : ∀ k ∈ l, k < 28) (x i : Nat) (hi : i < 64) (s : State) :
    (((l.foldl (fun s k => if s.sourceIdle k then s.wr (F.DOC_ROUTE.PENDING k) 0 else s) s).reg x).getLsbD i =
      if l.any (fun k => (x, i) = ((F.DOC_ROUTE.PENDING k).off, 4) && s.sourceIdle k) then false else (s.reg x).getLsbD i) ∧
    ∀ j, j < 28 → (l.foldl (fun s k => if s.sourceIdle k then s.wr (F.DOC_ROUTE.PENDING k) 0 else s) s).sourceIdle j =
      s.sourceIdle j := by
  induction l generalizing s with
  | nil => exact ⟨rfl, fun _ _ => rfl⟩
  | cons k l ih =>
    have hk := hl k List.mem_cons_self
    have ih' := ih (fun j hj => hl j (List.mem_cons_of_mem _ hj))
    have hany : ∀ u : State, (∀ j, j < 28 → u.sourceIdle j = s.sourceIdle j) →
        l.any (fun k => (x, i) = ((F.DOC_ROUTE.PENDING k).off, 4) && u.sourceIdle k) =
          l.any (fun k => (x, i) = ((F.DOC_ROUTE.PENDING k).off, 4) && s.sourceIdle k) := fun u hu =>
      any_congr_mem (fun j hj => by rw [hu j (hl j (List.mem_cons_of_mem _ hj))])
    simp only [List.foldl_cons, List.any_cons]
    by_cases hidle : s.sourceIdle k = true
    · obtain ⟨hbit, hsame⟩ := ih' (s.wr (F.DOC_ROUTE.PENDING k) 0)
      simp only [hidle, if_true, Bool.and_true]
      have hu : ∀ j, j < 28 → (s.wr (F.DOC_ROUTE.PENDING k) 0).sourceIdle j = s.sourceIdle j := fun j hj =>
        State.sourceIdle_wr_pending _ _ _ _ hk hj
      refine ⟨?_, fun j hj => (hsame j hj).trans (hu j hj)⟩
      rw [hbit, State.wr_pending_getLsbD _ _ _ _ hi, hany _ hu]
      by_cases hx : (x, i) = ((F.DOC_ROUTE.PENDING k).off, 4)
      · obtain ⟨h1, h2⟩ := by simpa using hx
        simp [h1, h2]
      · rw [if_neg (fun h : x = (F.DOC_ROUTE.PENDING k).off ∧ i = 4 => hx (by rw [h.1, h.2]))]
        simp only [hx, decide_false, Bool.false_or]
    · obtain ⟨hbit, hsame⟩ := ih' s
      simp only [hidle, Bool.and_false, Bool.false_or]
      exact ⟨hbit, hsame⟩

/-- After a status register is settled, the pending bits of its idle sources are clear and every other bit is as it was. -/
theorem State.settleSources_getLsbD (s : State) (off x i : Nat) (hi : i < 64) :
    ((s.settleSources off).reg x).getLsbD i =
      if (s.settleSources off).pendingFalls off x i then false else (s.reg x).getLsbD i := by
  have h := settleFold_getLsbD (sourcesAt off) (fun k hk => List.mem_range.mp (List.mem_filter.mp hk).1) x i hi s
  have hfall : (s.settleSources off).pendingFalls off x i =
      (sourcesAt off).any (fun k => (x, i) = ((F.DOC_ROUTE.PENDING k).off, 4) && s.sourceIdle k) := by
    rw [sourcesAt, List.any_filter, State.settleSources_fold]
    refine any_congr_mem (fun k hk => ?_)
    rw [h.2 k (List.mem_range.mp hk)]
    cases decide (statusOff k = off) <;> simp
  rw [hfall, State.settleSources_fold]
  exact h.1

/-- A register written and settled, seen from the state before: `u` is the state that holds the write. -/
theorem State.settled_of_written {s u : State} {o : Nat} {w : Word} (hne : ∀ x, x ≠ o → u.reg x = s.reg x) (ho : u.reg o = w) :
    settledApart o s (u.settleSources o) ∧ ∀ i, i < 64 → ((u.settleSources o).reg o).getLsbD i =
      if (u.settleSources o).pendingFalls o o i then false else w.getLsbD i := by
  refine ⟨fun x hx i hi => ?_, fun i hi => ?_⟩
  · rw [State.settleSources_getLsbD _ _ _ _ hi, hne x hx]
  · rw [State.settleSources_getLsbD _ _ _ _ hi, ho]

theorem State.settled_setReg (s : State) (o : Nat) (w : Word) :
    settledApart o s ((s.setReg o w).settleSources o) ∧ ∀ i, i < 64 → (((s.setReg o w).settleSources o).reg o).getLsbD i =
      if ((s.setReg o w).settleSources o).pendingFalls o o i then false else w.getLsbD i :=
  State.settled_of_written (fun _ hx => State.reg_setReg_ne _ _ _ _ hx) (State.reg_setReg_same _ _ _)

/-! ### Writes -/

/-- A masked replacement bit by bit. -/
theorem masked_getLsbD (x : Word) (mask data i : Nat) (hi : i < 64) :
    ((x &&& ~~~BitVec.ofNat 64 mask) ||| (BitVec.ofNat 64 data &&& BitVec.ofNat 64 mask)).getLsbD i =
      if mask.testBit i then data.testBit i else x.getLsbD i := by
  simp only [BitVec.getLsbD_or, BitVec.getLsbD_and, BitVec.getLsbD_not, BitVec.getLsbD_ofNat, hi, decide_true, Bool.true_and]
  cases mask.testBit i <;> simp

section
variable {s : State} {m : Master} {off o cover : Nat} {w : BusWidth} {v : Word}

theorem exec_registerWrite_one (hs : s.silent m = false) (hhit : busHit off w = .one o cover) :
    exec (.registerWrite m off w v) s = .next (s.writeOne m o cover v) := by
  show execRegisterWrite m off w v s = _
  simp only [execRegisterWrite, State.busWrite, hs, hhit, Bool.false_eq_true, if_false, done]

/-- The row of an admitted register. -/
theorem State.admitted_row (h : s.admitted m o ≠ 0) :
    ∃ r ix, rowAt o = some (r, ix) ∧ s.admitMask m o r ix ≠ 0 ∧ s.admitted m o = s.admitMask m o r ix := by
  unfold State.admitted at h ⊢
  cases hrow : rowAt o with
  | none => rw [hrow] at h; exact absurd rfl h
  | some row =>
    rw [hrow] at h
    exact ⟨row.1, row.2, rfl, h, rfl⟩

/-- A plain write to a register that is no mailbox of the host's and no request word, by its owner where it has one. -/
theorem State.writeOne_plain (hadm : s.admitted m o ≠ 0)
    (howner : o / 0x10000 = 0x21 → s.rd (F.CRC_U_CLAIM.OWNER (o % 0x10000 / 0x100)) = masterCore m + 1)
    (hstaged : ¬ (o / 0x10000 = 0x1F ∧ 0x10 ≤ o % 0x10000 ∧ o % 0x10000 < 0x30)) (hfull : s.mailboxFull o = false) :
    s.writeOne m o cover v = (s.setReg o ((s.reg o &&& ~~~BitVec.ofNat 64 (s.writableBits m o cover)) |||
      (BitVec.ofNat 64 (laid cover v) &&& BitVec.ofNat 64 (s.writableBits m o cover)))).settleSources o := by
  obtain ⟨r, ix, hrow, hmask, -⟩ := State.admitted_row hadm
  have hkind : ¬ (r.kind = .crcOwner ∧ s.rd (F.CRC_U_CLAIM.OWNER (ix.headD 0)) ≠ masterCore m + 1) := fun ⟨hk, hne⟩ => by
    obtain ⟨hblock, hunit⟩ := crcOwner_place hrow hk
    exact hne (hunit ▸ howner hblock)
  have hbits : s.writableBits m o cover = r.plainMask ix (s.admitMask m o r ix) cover := by
    unfold State.writableBits
    rw [hrow]
  unfold State.writeOne
  rw [hrow, hbits]
  dsimp only
  rw [if_neg hmask, if_neg (by simpa using hkind), hfull, if_neg (by decide), if_neg (by simpa [and_assoc] using hstaged)]

theorem State.writableBits_cover {i : Nat} (h : (s.writableBits m o cover).testBit i = true) : cover.testBit i = true := by
  unfold State.writableBits at h
  split at h
  · unfold RegRow.plainMask at h
    simp only [Nat.testBit_and, Bool.and_eq_true] at h
    exact h.1.2
  · simp at h

/-- A word of a host mailbox that the host has not read takes no write (R349). -/
theorem State.writeOne_mailbox (hadm : s.admitted m o ≠ 0) (hfull : s.mailboxFull o = true) : s.writeOne m o cover v = s := by
  obtain ⟨r, ix, hrow, hmask, -⟩ := State.admitted_row hadm
  have hrange : 0x200400 ≤ o ∧ o < 0x200500 := by
    simp only [State.mailboxFull, Bool.and_eq_true, decide_eq_true_eq] at hfull
    exact hfull.1
  have hkind : r.kind ≠ .crcOwner := fun hk => by
    have := (crcOwner_place hrow hk).1
    omega
  unfold State.writeOne
  rw [hrow]
  dsimp only
  rw [if_neg hmask, if_neg (by simp [hkind]), if_pos hfull]

/-- The request words of the Keeper, by their index (R346). -/
theorem rowAt_kprReq {k : Nat} (hk : k < 4) : ∃ r, rowAt (0x1F0010 + 8 * k) = some (r, [k]) ∧ r.kind ≠ .crcOwner := by
  obtain rfl | rfl | rfl | rfl : k = 0 ∨ k = 1 ∨ k = 2 ∨ k = 3 := by omega
  all_goals exact ⟨row_kpr_req, rfl, by decide⟩

theorem State.writeOne_staged {k : Nat} (hk : k < 4) (hadm : s.admitted m (0x1F0010 + 8 * k) ≠ 0) :
    s.writeOne m (0x1F0010 + 8 * k) cover v = { s with kpr := { s.kpr with
      staged := smSet (fun _ => 0#64) s.kpr.staged (4 * masterCore m + k) ((smGet (fun _ => 0#64) s.kpr.staged (4 * masterCore m + k) &&& ~~~BitVec.ofNat 64 cover) |||
        (BitVec.ofNat 64 (laid cover v) &&& BitVec.ofNat 64 cover)) } } := by
  obtain ⟨r, ix, hrow, hmask, -⟩ := State.admitted_row hadm
  obtain ⟨r', hrow', hkind⟩ := rowAt_kprReq hk
  obtain ⟨rfl, rfl⟩ := by simpa using hrow.symm.trans hrow'
  have hfull : s.mailboxFull (0x1F0010 + 8 * k) = false := by
    simp only [State.mailboxFull, show ¬ 0x200400 ≤ 0x1F0010 + 8 * k by omega, decide_false, Bool.false_and]
  have hplace : (0x1F0010 + 8 * k) / 0x10000 = 0x1F ∧ 0x10 ≤ (0x1F0010 + 8 * k) % 0x10000 ∧ (0x1F0010 + 8 * k) % 0x10000 < 0x30 := by
    omega
  unfold State.writeOne
  rw [hrow]
  dsimp only
  rw [if_neg hmask, if_neg (by simp [hkind]), hfull, if_neg (by decide), if_pos (by simpa [and_assoc] using hplace)]
  rfl

/-- The flash buffer's window takes the bytes of a write by the host or Docent-M (R317, R399). -/
theorem exec_registerWrite_flashBuf (hs : s.silent m = false) (hm : m = .host ∨ ∃ c, m = .docentM c) (hw : w = .w32 ∨ w = .w64)
    (halign : off % busBytes w = 0) (hlow : 0x8000 ≤ off) (hhigh : off < 0x9000) :
    exec (.registerWrite m off w v) s = .next { s with boot := { s.boot with
      flashBuf := memWrite s.boot.flashBuf (off - 0x8000) (leBytes (busBytes w) v.toNat) } } := by
  have hhit : busHit off w = .window off := by
    have hb : ¬ bar2Base ≤ off := by unfold bar2Base; omega
    have hwin : inWindow off = true := by simp [inWindow, hlow, hhigh]
    obtain rfl | rfl := hw <;> simp only [busBytes] at halign <;>
      simp only [busHit, hb, halign, hwin, if_false, if_true, ne_eq, not_true_eq_false]
  show execRegisterWrite m off w v s = _
  simp only [execRegisterWrite, State.busWrite, hs, hhit, Bool.false_eq_true, if_false, done, State.writeWindow, hhigh,
    decide_true, Bool.true_and]
  obtain rfl | ⟨c, rfl⟩ := hm <;> rfl

/-! ### Two registers -/

/-- The registers outside DOC_ROUTE that a settled write leaves. -/
theorem State.settleSources_reg (s : State) (off x : Nat) (hx : x < 0x200200 ∨ 0x2002E0 ≤ x) :
    (s.settleSources off).reg x = s.reg x := by
  apply BitVec.eq_of_getLsbD_eq
  intro i hi
  rw [State.settleSources_getLsbD _ _ _ _ hi, if_neg]
  simp only [State.pendingFalls, List.any_eq_true, List.mem_range, Bool.and_eq_true, decide_eq_true_eq, not_exists, not_and,
    Prod.mk.injEq]
  intro k hk h
  omega

/-- A refused write leaves the registers outside the Keeper's and the log's blocks, but for the pending bit of source 23. -/
theorem State.refuseWrite_reg (s : State) (m : Master) (off x : Nat) (h1 : x / 0x10000 ≠ 0x1F) (h2 : x / 0x10000 ≠ 0x22)
    (h3 : x ≠ (F.DOC_ROUTE.PENDING 23).off) : (s.refuseWrite m off).reg x = s.reg x := by
  have htrap : ∀ u : State, (u.trap m 2).reg x = u.reg x := fun u => by cases m <;> rfl
  have hnoted : (s.fwNoted m off 0).reg x = s.reg x := s.fwNoted_outside m off 0 x (by simpa using h1)
  unfold State.refuseWrite
  rw [htrap, State.fwRefuse_eq]
  split
  · exact ((State.aclLog_logged _ _ _).registers x h2 h3).trans ((State.reg_mk ..).trans hnoted)
  · rw [State.incSat_reg _ _ _ (fun e => h2 (by rw [e]; rfl)), State.incSat_reg _ _ _ (fun e => h1 (by rw [e]; rfl))]
    exact (State.reg_mk ..).trans hnoted

/-- The mode and the cores in service. -/
theorem State.silent_of_reg {s t : State} (m : Master) (hmode : t.reg 0x8 = s.reg 0x8) (hcores : t.reg 0x200000 = s.reg 0x200000) :
    t.silent m = s.silent m := by
  unfold State.silent State.coreOn State.mode State.rd
  rw [hmode, hcores]

/-- A write to a register that is not 64 bits wide changes neither the mode nor the cores in service. -/
theorem State.writeOne_silent {r : RegRow} {ix : List Nat} (hrow : rowAt o = some (r, ix)) (hwide : r.wide = false) :
    (s.writeOne m o cover v).silent m = s.silent m := by
  have hmode : o ≠ 0x8 := fun e => by
    subst e
    obtain ⟨rfl, -⟩ := by simpa using hrow.symm.trans (show rowAt 0x8 = some (row_boot_status, []) from rfl)
    exact absurd hwide (by decide)
  have hcores : o ≠ 0x200000 := fun e => by
    subst e
    obtain ⟨rfl, -⟩ := by simpa using hrow.symm.trans (show rowAt 0x200000 = some (row_doc_cfg, []) from rfl)
    exact absurd hwide (by decide)
  suffices h : ∀ x, x = 0x8 ∨ x = 0x200000 → (s.writeOne m o cover v).reg x = s.reg x from
    State.silent_of_reg m (h _ (.inl rfl)) (h _ (.inr rfl))
  intro x hx
  unfold State.writeOne
  rw [hrow]
  dsimp only
  split_ifs
  · exact State.refuseWrite_reg _ _ _ _ (by omega) (by omega) (by simp only; omega)
  · exact State.reg_wr_ne _ _ _ _ (by simp only; omega)
  · rfl
  · rfl
  · rw [State.settleSources_reg _ _ _ (by omega), State.reg_setReg_ne _ _ _ _ (by omega)]

theorem busHit_two (h : busHit off .w64 = .two off) : (∃ r ix, rowAt off = some (r, ix) ∧ r.wide = false) ∧
    busHit off .w32 = .one off lowMask ∧ busHit (off + 4) .w32 = .one (off + 4) lowMask := by
  unfold busHit at h
  dsimp only at h
  cases hrow : rowAt off with
  | none =>
    simp only [hrow] at h
    split_ifs at h
  | some row =>
    simp only [hrow] at h
    split_ifs at h with hb h8 hw hwide hnext
    obtain ⟨next, hnext'⟩ := Option.isSome_iff_exists.mp hnext
    have hb' : ¬ bar2Base ≤ off + 4 := by unfold bar2Base at hb ⊢; omega
    have hwin : inWindow off = false := by simpa using hw
    have hwin' : inWindow (off + 4) = false := by
      simp only [inWindow, Bool.or_eq_false_iff, Bool.and_eq_false_iff, decide_eq_false_iff_not] at hwin ⊢
      omega
    refine ⟨⟨row.1, row.2, rfl, by simpa using hwide⟩, ?_, ?_⟩
    · unfold busHit
      simp only [hb, if_false, hwin, hrow, if_neg (show ¬ off % 4 ≠ 0 by omega), Bool.false_eq_true]
    · unfold busHit
      simp only [hb', if_false, hwin', hnext', if_neg (show ¬ (off + 4) % 4 ≠ 0 by omega), Bool.false_eq_true]

theorem exec_registerWrite_two (hs : s.silent m = false) (hhit : busHit off .w64 = .two off) :
    exec (.registerWrite m off .w32 v) s = .next (s.writeOne m off lowMask v) ∧ exec (.registerWrite m off .w64 v) s =
      exec (.registerWrite m (off + 4) .w32 (v >>> 32)) (s.writeOne m off lowMask v) := by
  obtain ⟨⟨r, ix, hrow, hwide⟩, hlow, hhigh⟩ := busHit_two hhit
  have hs' : (s.writeOne m off lowMask v).silent m = false := (State.writeOne_silent hrow hwide).trans hs
  refine ⟨exec_registerWrite_one hs hlow, ?_⟩
  rw [exec_registerWrite_one hs' hhigh]
  show execRegisterWrite m off .w64 v s = _
  simp only [execRegisterWrite, State.busWrite, hs, hhit, Bool.false_eq_true, if_false, done]

theorem exec_registerWrite_bar2 (hoff : bar2Base ≤ off) : exec (.registerWrite m off w v) s = .next s := by
  show execRegisterWrite m off w v s = _
  simp only [execRegisterWrite, State.busWrite, busHit, hoff, if_true, ite_self, done]

/-! ### Reads -/

variable {events : Word}

/-- The read's data, laid where the access covers the register. -/
theorem readData_getLsbD (x : Word) {i : Nat} (hi : i < 64) (hc : cover.testBit i = true) :
    (if cover = highMask then (x &&& BitVec.ofNat 64 cover) >>> 32 else x &&& BitVec.ofNat 64 cover).getLsbD (dataBit cover i) =
      x.getLsbD i := by
  have hbit : (x &&& BitVec.ofNat 64 cover).getLsbD i = x.getLsbD i := by
    rw [BitVec.getLsbD_and, BitVec.getLsbD_ofNat, hc]
    simp [hi]
  unfold dataBit
  by_cases hcover : cover = highMask
  · have h32 : 32 ≤ i := by
      rw [hcover, show highMask = (2 ^ 32 - 1) * 2 ^ 32 from rfl, Nat.testBit_mul_two_pow] at hc
      simp only [Bool.and_eq_true, decide_eq_true_eq] at hc
      exact hc.1
    rw [if_pos hcover, if_pos hcover, BitVec.getLsbD_ushiftRight, show 32 + (i - 32) = i by omega, hbit]
  · rw [if_neg hcover, if_neg hcover, hbit]

/-- No DDR5 data is fetched for a read of a register outside LAC_WINDOW. -/
theorem State.readFetch_one (hhit : busHit off w = .one o cover) (hlac : ¬ (0x150020 ≤ o ∧ o < 0x150040)) :
    s.readFetch m off = s := by
  obtain ⟨hlt, -, hplace⟩ := busHit_one hhit
  have h : ¬ (0x150020 ≤ off ∧ off < 0x150040) := by omega
  unfold State.readFetch
  simp only [Bool.and_eq_true, decide_eq_true_eq, h, if_false, show ¬ bar2Base ≤ off by omega, false_and, ite_self]

/-- A read of a register whose read has no effect of its own but for its RC bits (R13, R402). -/
theorem exec_rcRead_one (hs : s.silent m = false) (hhit : busHit off w = .one o cover) (hread : s.readable m o = true)
    (hlac : ¬ (0x150020 ≤ o ∧ o < 0x150040)) (htim : ¬ (0x1C0100 ≤ o ∧ o < 0x1C0130)) (htx : o ≠ F.TIM_TXTS_HI.SEC.off)
    (hctr : inCounters o = false) (hlow : o ≠ F.RSV_LEAD.LOW_WATER.off) (hcrc : o / 0x10000 ≠ 0x21) :
    exec (.rcRead m off w events) s = .next { s.setReg o ((s.reg o &&& ~~~BitVec.ofNat 64 (rcBits o &&& cover)) |||
        (events &&& BitVec.ofNat 64 (rcBits o &&& cover))) with
      readData := if cover = highMask then (s.view m o &&& BitVec.ofNat 64 cover) >>> 32
        else s.view m o &&& BitVec.ofNat 64 cover } := by
  obtain ⟨-, hrow, -⟩ := busHit_one hhit
  obtain ⟨row, hrow⟩ := Option.isSome_iff_exists.mp hrow
  have hrc : rcBits o = row.1.rc := by
    unfold rcBits
    rw [hrow]
    rfl
  have hlatch : s.timLatch m o = s := by
    unfold State.timLatch
    rw [if_neg (by simp only [Bool.and_eq_true, decide_eq_true_eq]; omega)]
  have hpop : s.stampPop o cover = s := by
    unfold State.stampPop
    rw [if_neg (by simp [htx])]
  have hpmc : s.pmcLatch m o cover = s := by
    unfold State.pmcLatch
    rw [hctr]
    rfl
  have hblock : ¬ (0x210000 ≤ o ∧ o < 0x220000) := by omega
  show execRcRead m off w events s = _
  unfold execRcRead
  rw [State.readFetch_one hhit hlac]
  unfold State.busRead
  simp only [hs, hhit, Bool.false_eq_true, if_false, done]
  unfold State.readOne
  simp only [hread, hrow, hrc, hlatch, hpop, hpmc, hlow, hcrc, hlac, hblock, Bool.not_true, Bool.false_eq_true, if_false, decide_false,
    Bool.false_and, Bool.and_eq_true, decide_eq_true_eq, false_and]

/-- Every byte of an aligned access to the window stands in it. -/
theorem bar2_window_byte {off i : Nat} (w : BusWidth) (hlow : bar2Base ≤ off) (hhigh : off < bar2Base + 0x1000)
    (halign : off % busBytes w = 0) (hi : i < busBytes w) : off - bar2Base + i < 0x1000 := by
  have hbase : bar2Base % 8 = 0 := by decide
  generalize bar2Base = b at *
  cases w <;> simp only [busBytes] at * <;> omega

theorem State.aclWindow_aclTouch (s : State) (a : Nat) : (s.aclTouch a).aclWindow = s.aclWindow := by
  unfold State.aclTouch
  split
  · rfl
  · unfold State.aclWindow State.bit State.set1
    simp (disch := omega) only [State.rd_wr_off, State.wr_acl]

theorem bar2_window_start {off : Nat} (hlow : bar2Base ≤ off) (hhigh : off < bar2Base + 0x1000) : off - bar2Base < 0x1000 := by
  generalize bar2Base = b at *
  omega

theorem State.bar2Ddr_window (t : State) (x : Nat) (hx : x < 0x1000) : t.bar2Ddr x = none := by
  unfold State.bar2Ddr
  rw [if_pos (by simp only [Bool.or_eq_true, decide_eq_true_eq]; exact .inl (by omega))]

/-- The bytes of the log's window as BAR2 reads them. -/
theorem State.readBar2_window (s : State) {d n : Nat} (hd : d < 0x1000) (hin : ∀ i, i < n → d + i < 0x1000) :
    s.readBar2 .host d n = { s.aclTouch d with
      readData := BitVec.ofNat 64 (leNat ((List.range n).map (fun i => s.aclWindow.getD (d + i) 0)))
      readPoison := false } := by
  have hdata : (List.range n).map (fun i => (s.aclTouch d).bar2 (d + i)) =
      (List.range n).map (fun i => s.aclWindow.getD (d + i) 0) :=
    List.map_congr_left (fun i hi => by
      unfold State.bar2
      rw [if_pos (hin i (List.mem_range.mp hi)), State.aclWindow_aclTouch])
  have hpoison : (List.range n).any (fun i => (s.aclTouch d).bar2Poison (d + i)) = false := by
    rw [any_congr_mem (q := fun _ => false)]
    · simp
    · intro i hi
      unfold State.bar2Poison
      rw [State.bar2Ddr_window _ _ (hin i (List.mem_range.mp hi))]
  unfold State.readBar2
  simp only [ne_eq, not_true_eq_false, if_false, hd, if_true, hdata, hpoison]

theorem bar2_not_lacuna {off : Nat} (hlow : bar2Base ≤ off) :
    ¬ (decide (0x150020 ≤ off) && decide (off < 0x150040)) = true := by
  have hbase : 0x150040 ≤ bar2Base := by norm_num [bar2Base]
  generalize bar2Base = b at *
  simp only [Bool.and_eq_true, decide_eq_true_eq]
  omega

/-- A host read of the log's window in BAR2 (R358, R406). -/
theorem exec_rcRead_aclWindow (hmode : s.mode ≠ 0) (hlow : bar2Base ≤ off) (hhigh : off < bar2Base + 0x1000)
    (halign : off % busBytes w = 0) : exec (.rcRead .host off w events) s = .next { s.aclTouch (off - bar2Base) with
      readData := BitVec.ofNat 64 (leNat ((List.range (busBytes w)).map (fun i => s.aclWindow.getD (off - bar2Base + i) 0)))
      readPoison := false } := by
  have hsilent : s.silent .host = false := by simp [State.silent, hmode]
  have hin : ∀ i, i < busBytes w → off - bar2Base + i < 0x1000 := fun i hi => bar2_window_byte w hlow hhigh halign hi
  have hin0 : off - bar2Base < 0x1000 := bar2_window_start hlow hhigh
  have hfetch : s.readFetch .host off = s := by
    unfold State.readFetch
    rw [hsilent, if_neg (by decide), if_neg (bar2_not_lacuna hlow),
      if_pos (by simp [hlow]), State.bar2Ddr_window s _ hin0]
  show execRcRead .host off w events s = _
  unfold execRcRead
  rw [hfetch]
  unfold State.busRead
  simp only [hsilent, busHit, hlow, if_true, Bool.false_eq_true, if_false, State.readBar2_window s hin0 hin, done]

/-! ### Writes of ones -/

theorem exec_w1cClear_one (hs : s.silent m = false) (hhit : busHit off w = .one o cover) :
    exec (.w1cClear m off w v events) s = .next (s.w1cOne m o cover v events) := by
  show execW1cClear m off w v events s = _
  simp only [execW1cClear, State.busClear, hs, hhit, Bool.false_eq_true, if_false, done]

/-- The bits that a write of ones clears, and those that the hardware sets in its cycle (R13). -/
def State.w1cOnes (s : State) (m : Master) (o cover : Nat) (v : Word) : Nat :=
  laid cover v &&& (w1cBits o &&& s.admitted m o &&& cover &&& (fullMask ^^^ (((rowAt o).map (fun x => x.1.acts)).getD 0)))

theorem State.w1cOnes_testBit {i : Nat} (hi : i < 64) : (s.w1cOnes m o cover v).testBit i =
    (v.getLsbD (dataBit cover i) && (clearableBits o).testBit i && (s.admitted m o).testBit i && cover.testBit i) := by
  have hfull : fullMask.testBit i = true := by
    rw [show fullMask = 2 ^ 64 - 1 from rfl, Nat.testBit_two_pow_sub_one]
    simpa using hi
  have hclear : (clearableBits o).testBit i = ((w1cBits o).testBit i &&
      (fullMask ^^^ (((rowAt o).map (fun x => x.1.acts)).getD 0)).testBit i) := by
    unfold clearableBits w1cBits
    cases rowAt o <;> simp
  unfold State.w1cOnes
  rw [Nat.testBit_and, Nat.testBit_and, Nat.testBit_and, Nat.testBit_and, hclear]
  cases hc : cover.testBit i
  · simp
  · rw [laid_testBit v hc]
    cases v.getLsbD (dataBit cover i) <;> cases (w1cBits o).testBit i <;> cases (s.admitted m o).testBit i <;> simp

/-- What the register holds after a write of ones: the events of the cycle stay (R13). -/
def State.w1cLeft (s : State) (m : Master) (o cover : Nat) (v events : Word) : Word :=
  (s.reg o &&& ~~~BitVec.ofNat 64 (s.w1cOnes m o cover v)) ||| BitVec.ofNat 64 (events.toNat &&& w1cBits o)

theorem State.w1cLeft_getLsbD {i : Nat} (hi : i < 64) : (s.w1cLeft m o cover v events).getLsbD i =
    if events.getLsbD i && (w1cBits o).testBit i then true
    else if v.getLsbD (dataBit cover i) && (clearableBits o).testBit i && (s.admitted m o).testBit i && cover.testBit i then false
    else (s.reg o).getLsbD i := by
  have he : events.toNat.testBit i = events.getLsbD i := rfl
  unfold State.w1cLeft
  rw [BitVec.getLsbD_or, BitVec.getLsbD_and, BitVec.getLsbD_not, BitVec.getLsbD_ofNat, BitVec.getLsbD_ofNat,
    State.w1cOnes_testBit hi, Nat.testBit_and, he]
  simp only [hi, decide_true, Bool.true_and]
  cases events.getLsbD i && (w1cBits o).testBit i
  · cases v.getLsbD (dataBit cover i) && (clearableBits o).testBit i && (s.admitted m o).testBit i && cover.testBit i <;> simp
  · simp

theorem State.w1cOne_eq (hadm : s.admitted m o ≠ 0) : s.w1cOne m o cover v events =
    (if o = 0x20300 && ((BitVec.ofNat 64 (s.w1cOnes m o cover v)).toNat % 2 = 1)
      then (s.setReg o (s.w1cLeft m o cover v events)).wr F.HIF_INTAKE_STATUS.RFQ_DROP 0
      else s.setReg o (s.w1cLeft m o cover v events)).settleSources o := by
  obtain ⟨r, ix, hrow, hmask, hadm'⟩ := State.admitted_row hadm
  have hw : w1cBits o = r.w1c := by
    unfold w1cBits
    rw [hrow]
    rfl
  unfold State.w1cOne
  rw [hrow]
  dsimp only
  rw [if_neg hmask]
  unfold State.w1cLeft State.w1cOnes
  rw [hadm', hw, hrow]
  rfl

/-- HIF_INTAKE_STATUS is 32 bits wide. -/
theorem busHit_intake (hhit : busHit off w = .one 0x20300 cover) : cover = lowMask := by
  have hrow : rowAt 0x20300 = some (row_hif_intake_status, []) := rfl
  have hwide : row_hif_intake_status.wide = false := rfl
  rcases (busHit_one hhit).2.2 with ⟨rfl, -⟩ | ⟨-, rfl, -⟩ | ⟨-, rfl⟩
  · rfl
  · cases w <;> simp [busHit, bar2Base, inWindow, hrow, hwide] at hhit
    split at hhit <;> simp at hhit
  · cases w <;> simp [busHit, bar2Base, inWindow, hrow, hwide] at hhit
    · exact hhit.symm
    · split at hhit <;> simp at hhit

/-- HIF_INTAKE_STATUS written, with RFQ_DROP, bits 16 to 31, taken where LINK_LOST is cleared. -/
theorem State.w1cIntake_written (s : State) (x : Word) (lost : Bool) : ∃ u : State,
    (if lost then (s.setReg 0x20300 x).wr F.HIF_INTAKE_STATUS.RFQ_DROP 0 else s.setReg 0x20300 x) = u ∧ RegsOnly s u ∧
      (∀ o, o ≠ 0x20300 → u.reg o = s.reg o) ∧
      ∀ i, i < 64 → (u.reg 0x20300).getLsbD i = if 16 ≤ i && i < 32 && lost then false else x.getLsbD i := by
  cases lost with
  | false =>
    exact ⟨_, rfl, rfl, fun o ho => State.reg_setReg_ne _ _ _ _ ho, fun i hi => by simp [State.reg_setReg_same]⟩
  | true =>
    refine ⟨_, rfl, rfl, fun o ho => ?_, fun i hi => ?_⟩
    · unfold State.wr
      rw [if_pos rfl, State.reg_setReg_ne _ _ _ _ ho, State.reg_setReg_ne _ _ _ _ ho]
    · unfold State.wr
      rw [if_pos rfl, State.reg_setReg_same, State.reg_setReg_same, Field.put_getLsbD _ _ _ _ hi]
      simp only [Nat.zero_testBit, Nat.reduceAdd, Bool.and_true, Bool.and_eq_true, decide_eq_true_eq]

/-- A write of ones to HIF_INTAKE_STATUS: LINK_LOST takes RFQ_DROP, bits 16 to 31, with it. -/
theorem State.w1cOne_intake (s : State) {m : Master} {off cover : Nat} {w : BusWidth} {v events : Word}
    (hhit : busHit off w = .one F.HIF_INTAKE_STATUS.LINK_LOST.off cover)
    (hadm : s.admitted m F.HIF_INTAKE_STATUS.LINK_LOST.off ≠ 0) :
    let t := s.w1cOne m F.HIF_INTAKE_STATUS.LINK_LOST.off cover v events
    t = { s with regs := t.regs } ∧ settledApart F.HIF_INTAKE_STATUS.LINK_LOST.off s t ∧
      (∀ i, i < 64 → (t.reg F.HIF_INTAKE_STATUS.LINK_LOST.off).getLsbD i =
        if 16 ≤ i && i < 32 && v.getLsbD 0 && (s.admitted m F.HIF_INTAKE_STATUS.LINK_LOST.off).testBit 0 then false
        else if events.getLsbD i && (w1cBits F.HIF_INTAKE_STATUS.LINK_LOST.off).testBit i then true
        else if v.getLsbD i && (clearableBits F.HIF_INTAKE_STATUS.LINK_LOST.off).testBit i &&
          (s.admitted m F.HIF_INTAKE_STATUS.LINK_LOST.off).testBit i && cover.testBit i then false
        else (s.reg F.HIF_INTAKE_STATUS.LINK_LOST.off).getLsbD i) := by
  have hcover : cover = lowMask := busHit_intake hhit
  have hdata : ∀ i, dataBit cover i = i := fun i => by rw [hcover]; rfl
  have hones : decide ((BitVec.ofNat 64 (s.w1cOnes m 0x20300 cover v)).toNat % 2 = 1) =
      (v.getLsbD 0 && (s.admitted m 0x20300).testBit 0) := by
    have h0 := State.w1cOnes_testBit (s := s) (m := m) (o := 0x20300) (cover := cover) (v := v) (i := 0) (by decide)
    rw [hdata, hcover, show (clearableBits 0x20300).testBit 0 = true from by decide +kernel,
      show lowMask.testBit 0 = true from by decide, Bool.and_true, Bool.and_true, Nat.testBit_zero] at h0
    rw [← h0, BitVec.toNat_ofNat, hcover]
    congr 2
    omega
  obtain ⟨u, hu, hregs, hne, hbit⟩ := s.w1cIntake_written (s.w1cLeft m 0x20300 cover v events)
    (v.getLsbD 0 && (s.admitted m 0x20300).testBit 0)
  have hx : s.w1cOne m 0x20300 cover v events = u.settleSources 0x20300 := by
    rw [State.w1cOne_eq hadm, ← hu, ← hones]
    rfl
  rw [hx]
  obtain ⟨hapart, hbits⟩ := State.settled_of_written hne rfl
  refine ⟨hregs.trans (RegsOnly.settleSources u _), hapart, fun i hi => ?_⟩
  have hfall : (u.settleSources 0x20300).pendingFalls 0x20300 0x20300 i = false := by
    simp only [State.pendingFalls, List.any_eq_false, List.mem_range, Bool.and_eq_true, decide_eq_true_eq, not_and,
      Prod.mk.injEq]
    intro k hk h
    omega
  rw [hbits i hi, hfall, if_neg (by decide), hbit i hi, State.w1cLeft_getLsbD hi, hdata, ← Bool.and_assoc]

end

/-- Settles O6: bit by bit, with LINK_LOST's clearing of RFQ_DROP apart. -/
theorem eventInTheCycleOfAClearStays : Obligations.EventInTheCycleOfAClearStays := by
  unfold Obligations.EventInTheCycleOfAClearStays
  refine ⟨fun s m off w v events o cover hs hhit hadm hne => ⟨_, exec_w1cClear_one hs hhit, ?_⟩,
    fun s m off w v events cover hs hhit hadm => ⟨_, exec_w1cClear_one hs hhit, ?_⟩⟩
  · rw [State.w1cOne_eq hadm, if_neg (by simp [hne])]
    obtain ⟨hapart, hbits⟩ := s.settled_setReg o (s.w1cLeft m o cover v events)
    refine ⟨RegsOnly.settleSources (s.setReg o _) o, hapart, fun i hi => ?_⟩
    rw [hbits i hi, State.w1cLeft_getLsbD hi]
  · exact s.w1cOne_intake hhit hadm

/-- Settles O5: the register written bit by bit and settled; the mailbox, the request word, the flash buffer's window, the two
registers of one access and BAR2 by their cases; and the two reads. -/
theorem plainWriteChangesCoveredWritableBits : Obligations.PlainWriteChangesCoveredWritableBits := by
  unfold Obligations.PlainWriteChangesCoveredWritableBits
  refine ⟨fun s m off w v o cover hs hhit hadm howner hstaged hfull => ⟨_, exec_registerWrite_one hs hhit, ?_⟩,
    fun s m off w v o cover hs hhit hadm hfull => ⟨_, exec_registerWrite_one hs hhit, State.writeOne_mailbox hadm hfull⟩,
    fun s m off w v k cover hs hhit hadm hk => ⟨_, exec_registerWrite_one hs hhit, ?_⟩,
    fun s m off w v hs hm hw halign hlow hhigh => ⟨_, exec_registerWrite_flashBuf hs hm hw halign hlow hhigh, rfl, ?_, fun a ha => ?_⟩,
    fun s m off v hs hhit => ⟨_, exec_registerWrite_two hs hhit⟩,
    fun s m off w v hoff => ⟨_, exec_registerWrite_bar2 hoff, rfl⟩,
    fun s off w events hmode hlow hhigh halign => ⟨_, exec_rcRead_aclWindow hmode hlow hhigh halign, rfl, ?_, rfl, ?_, ?_⟩,
    fun s m off w events o cover hs hhit hread hlac htim htx hctr hlow hcrc =>
      ⟨_, exec_rcRead_one hs hhit hread hlac htim htx hctr hlow hcrc, rfl, ?_, fun i hi hc => ?_, fun i hi => ?_⟩⟩
  · rw [State.writeOne_plain hadm howner hstaged hfull]
    obtain ⟨hapart, hbits⟩ := s.settled_setReg o ((s.reg o &&& ~~~BitVec.ofNat 64 (s.writableBits m o cover)) |||
      (BitVec.ofNat 64 (laid cover v) &&& BitVec.ofNat 64 (s.writableBits m o cover)))
    refine ⟨RegsOnly.settleSources (s.setReg o _) o, hapart, fun i hi => ?_⟩
    rw [hbits i hi, masked_getLsbD _ _ _ _ hi]
    cases hbit : (s.writableBits m o cover).testBit i
    · rfl
    · rw [laid_testBit v (State.writableBits_cover hbit)]
  · rw [State.writeOne_staged hk hadm]
    refine ⟨rfl, fun i hi => ?_, fun j hj => ?_⟩
    · simp only [smGet_smSet_same]
      rw [masked_getLsbD _ _ _ _ hi]
      cases hbit : cover.testBit i
      · rfl
      · rw [laid_testBit v hbit]
    · exact smGet_smSet_ne _ _ _ _ _ hj
  · exact memRead_memWrite_of_length _ _ _ _ (length_leBytes _ _)
  · exact smGet_memWrite_outside _ _ _ _ (by rw [length_leBytes]; exact ha)
  · rw [State.bit_mk]
    unfold State.aclTouch
    cases hheld : s.aclHolds (off - bar2Base)
    · rw [if_neg (by decide), Bool.not_false, Bool.or_true]
      unfold State.bit State.set1
      rw [State.rd_wr_same _ _ _ _ _ (by decide)]
      rfl
    · rw [if_pos rfl, Bool.not_true, Bool.or_false]
  · unfold State.aclTouch
    split <;> rfl
  · rw [regsApart_mk]
    unfold State.aclTouch State.set1
    split <;> simp [-State.wr_regs]
  · simp [-State.setReg_regs]
  · exact readData_getLsbD _ hi hc
  · rw [State.reg_mk, State.reg_setReg_same]
    simp only [BitVec.getLsbD_or, BitVec.getLsbD_and, BitVec.getLsbD_not, BitVec.getLsbD_ofNat, hi, decide_true, Bool.true_and]
    cases (rcBits o &&& cover).testBit i <;> simp

end Sys2Proof.Machine
end

section
/-! SUPPORT. A DMA channel: shadow commits, STOP, hand-overs, disables and cleared errors (R48 to R55). -/
namespace Sys2Proof.Machine

/-! ### Writes that change no bit -/

theorem Field.put_get (f : Field) (x : Word) (v : Nat) (hv : f.get x = v) : f.put x v = x := by
  apply BitVec.eq_of_getLsbD_eq
  intro i hi
  rw [Field.put_getLsbD _ _ _ _ hi]
  split
  · next hin =>
    have h := Field.get_testBit f x (i - f.lo)
    rw [← hv, h, show f.lo + (i - f.lo) = i by omega]
    simp only [decide_eq_true (show i - f.lo < f.width by omega), Bool.true_and]
  · rfl

/-- A field written with what it holds leaves every register as it reads. -/
theorem State.reg_wr_held (s : State) (f : Field) (v o : Nat) (hv : s.rd f = v) : (s.wr f v).reg o = s.reg o := by
  by_cases ho : o = f.off
  · rw [ho, State.wr, State.reg_setReg_same, Field.put_get _ _ _ hv]
  · exact State.reg_wr_ne _ _ _ _ ho

theorem State.reg_wr_off (s : State) (o l w v x : Nat) (h : x ≠ o) : (s.wr ⟨o, l, w⟩ v).reg x = s.reg x :=
  State.reg_wr_ne _ _ _ _ h

@[simp] theorem State.reg_setChan (s : State) (k : Nat) (c : DmaCh) (o : Nat) : (s.setChan k c).reg o = s.reg o :=
  State.reg_of_regs _ _ rfl _

@[simp] theorem regsApart_setChan_iff {l : List Nat} {s t : State} (k : Nat) (c : DmaCh) :
    regsApart l s (t.setChan k c) ↔ regsApart l s t := by
  simp only [regsApart, State.reg_setChan]

/-! ### The end of a program, and the interrupts of a channel -/

/-- A channel's interrupt, and a descriptor's, change the pending bit of the channel's source alone. -/
@[simp] theorem regsApart_dmaIrq_iff {l : List Nat} {s t : State} (k : Nat) (hk : k < 16)
    (hl : (F.DOC_ROUTE.PENDING (k - 4)).off ∈ l) : regsApart l s (t.dmaIrq k) ↔ regsApart l s t := by
  unfold State.dmaIrq State.whenD
  split_ifs
  · dsimp only
    rw [State.source_eq _ _ (by omega), State.vector_eq _ _ (by omega)]
    simp [hl, -State.wr_regs]
  · rw [State.vector_eq _ _ (by omega), regsApart_mk]
  · rfl

theorem ChannelStep.sameMemories {k : Nat} {s t : State} (h : ChannelStep k s t) : sameMemories s t := by
  obtain ⟨_, _, _, rfl⟩ := h.parts
  exact ⟨rfl, rfl, rfl, rfl, rfl, rfl, rfl, rfl, rfl, rfl⟩

/-- What a program that has ended leaves: the channel idle with DONE. -/
theorem State.dmaDone_spec (s : State) (k : Nat) (hk : k < 16) :
    (s.dmaDone k).rd (F.DMA_CH_STATUS.STATE k) = 0 ∧ (s.dmaDone k).rd (F.DMA_CH_STATUS.DONE k) = 1 ∧
      ((s.dmaDone k).chan k).going = false ∧ ((s.dmaDone k).chan k).stopReq = false ∧
      regsApart [(F.DMA_CH_STATUS.STATE k).off, (F.DOC_ROUTE.PENDING (k - 4)).off] s (s.dmaDone k) := by
  simp only [State.dmaDone, State.set1_eq]
  refine ⟨?_, ?_, ?_, ?_, ?_⟩
  · rw [State.rd_dmaIrq _ _ _ _ _ (by omega), State.rd_wr_apart _ _ _ _ _ _ _ (by decide)]
    exact State.rd_wr_same _ _ _ _ _ (by decide)
  · rw [State.rd_dmaIrq _ _ _ _ _ (by omega)]
    exact State.rd_wr_same _ _ _ _ _ (by decide)
  · simp
  · simp
  · rw [regsApart_dmaIrq_iff _ hk (by simp)]
    simp [-State.wr_regs]

theorem State.dmaStop_err (s : State) (k err : Nat) (hk : k < 16) (herr : err < 8) :
    (s.dmaStop k err).rd (F.DMA_CH_STATUS.ERR k) = err := by
  unfold State.dmaStop
  rw [State.rd_dmaIrq _ _ _ _ _ (by omega), State.rd_wr_same _ _ _ _ _ (by decide)]
  exact Nat.mod_eq_of_lt herr

/-- The stop of a channel changes its status and the pending bit of its source. -/
theorem State.dmaStop_apart (s : State) (k err : Nat) (hk : k < 16) :
    regsApart [(F.DMA_CH_STATUS.STATE k).off, (F.DOC_ROUTE.PENDING (k - 4)).off] s (s.dmaStop k err) := by
  unfold State.dmaStop
  rw [regsApart_dmaIrq_iff _ hk (by simp)]
  simp [-State.wr_regs]

/-- The interrupt that a descriptor asks for at its end (IRQ, R50). -/
def State.descriptorNoted (s : State) (k : Nat) (p : DmaProg) : State :=
  if progIrq p then (s.vector (9 + k)).source (k - 4) else s

theorem State.descriptorNoted_step (s : State) (k : Nat) (p : DmaProg) (hk : k < 16) :
    ChannelStep k s (s.descriptorNoted k p) := by
  unfold State.descriptorNoted
  split
  · exact ((ChannelStep.refl k s).vector _ (by omega)).source hk
  · exact ChannelStep.refl k s

theorem State.descriptorNoted_apart (s : State) (k : Nat) (p : DmaProg) (hk : k < 16) :
    regsApart [(F.DOC_ROUTE.PENDING (k - 4)).off] s (s.descriptorNoted k p) := by
  unfold State.descriptorNoted
  split
  · rw [State.source_eq _ _ (by omega), State.vector_eq _ _ (by omega)]
    simp [-State.wr_regs]
  · exact regsApart_refl

@[simp] theorem State.descriptorNoted_chan (s : State) (k : Nat) (p : DmaProg) (j : Nat) :
    (s.descriptorNoted k p).chan j = s.chan j := by
  unfold State.descriptorNoted
  split <;> simp

theorem regsApart_mono {l l' : List Nat} {s t : State} (h : regsApart l s t) (hl : ∀ o ∈ l, o ∈ l') : regsApart l' s t :=
  fun o ho => h o (fun hm => ho (hl o hm))

/-! ### Commits and STOP -/

section
variable {s : State} {m : Master} {k : Fin 16}

/-- The state with the overwrite of an unused commit flagged. -/
def State.overwriteFlagged (s : State) (k : Nat) : State :=
  if (s.chan k).fresh then s.wr (F.DMA_CH_STATUS.SHADOW_OVERWRITE k) 1 else s

theorem State.commit_apart (s : State) (k : Nat) (late : Bool) (c : DmaCh) : regsApart [(F.DMA_CH_STATUS.SHADOW_LATE k).off] s
    (if late then ((s.overwriteFlagged k).setChan k c).wr (F.DMA_CH_STATUS.SHADOW_LATE k) 1
      else (s.overwriteFlagged k).setChan k c) := by
  have hflag : regsApart [(F.DMA_CH_STATUS.SHADOW_LATE k).off] s (s.overwriteFlagged k) := by
    unfold State.overwriteFlagged
    split
    · exact regsApart_wr _ _ regsApart_refl (List.mem_singleton.mpr rfl)
    · exact regsApart_refl
  cases late
  · rw [if_neg (by decide), regsApart_setChan_iff]
    exact hflag
  · rw [if_pos rfl]
    exact regsApart_wr _ _ ((regsApart_setChan_iff _ _).mpr hflag) (List.mem_singleton.mpr rfl)

@[simp] theorem State.chan_overwriteFlagged (s : State) (k j : Nat) : (s.overwriteFlagged k).chan j = s.chan j := by
  unfold State.overwriteFlagged
  split
  · exact State.chan_wr _ _ _ _
  · rfl

theorem State.chan_commit (s : State) (k j : Nat) (late : Bool) (c : DmaCh) :
    (if late then ((s.overwriteFlagged k).setChan k c).wr (F.DMA_CH_STATUS.SHADOW_LATE k) 1
      else (s.overwriteFlagged k).setChan k c).chan j = if j = k then c else s.chan j := by
  have h : ((s.overwriteFlagged k).setChan k c).chan j = if j = k then c else s.chan j := by
    split
    · next hj => rw [hj, State.chan_setChan_same]
    · next hj => rw [State.chan_setChan_ne _ _ _ _ hj, State.chan_overwriteFlagged]
  cases late
  · rw [if_neg (by decide), h]
  · rw [if_pos rfl, State.chan_wr, h]

theorem State.overwriteFlagged_fresh {s : State} {k : Nat} (h : (s.chan k).fresh = true) :
    s.overwriteFlagged k = s.wr (F.DMA_CH_STATUS.SHADOW_OVERWRITE k) 1 := if_pos h

theorem State.overwriteFlagged_taken {s : State} {k : Nat} (h : (s.chan k).fresh = false) : s.overwriteFlagged k = s :=
  if_neg (by rw [h]; decide)

theorem exec_shadowCommit (late : Bool) (hserves : s.serves m (F.DMA_CH_CTL.SHADOW_COMMIT k).off = true)
    (t : State) (ht : t = (s.overwriteFlagged k).setChan k { (s.overwriteFlagged k).chan k with committed := (s.overwriteFlagged k).dmaShadow k, fresh := true }) :
    exec (.shadowCommit m k late) s = .next (if late then t.wr (F.DMA_CH_STATUS.SHADOW_LATE k) 1 else t) := by
  subst ht
  show execShadowCommit m k late s = _
  unfold execShadowCommit
  rw [State.gated_serves _ _ _ _ hserves]
  simp only [State.set1_eq, done, State.overwriteFlagged]

/-- The shadow registers do not hold the status. -/
theorem State.dmaShadow_wr_status (s : State) (k lo w v : Nat) :
    (s.wr ⟨0x30008 + 0x100 * k, lo, w⟩ v).dmaShadow k = s.dmaShadow k := by
  unfold State.dmaShadow
  simp (disch := omega) only [State.reg_wr_off]

theorem exec_dmaStop_shadow (hserves : s.serves m (F.DMA_CH_CTL.STOP k).off = true)
    (hstate : s.rd (F.DMA_CH_STATUS.STATE k) = 1) (hmode : s.rd (F.DMA_CH_CTL.MODE k) = 1) :
    exec (.dmaStop m k) s = .next (s.setChan k { s.chan k with stopReq := true }) := by
  show execDmaStop m k s = _
  unfold execDmaStop
  rw [State.gated_serves _ _ _ _ hserves]
  simp only [hstate, hmode, decide_true, Bool.and_self, if_true, done]

/-! ### Hand-overs -/

/-- A channel set twice and a register written: registers and channels alone change. -/
theorem State.setChan_wr_parts (s t : State) (k : Nat) (c d : DmaCh) (f : Field) (v : Nat)
    (ht : t = ((s.setChan k c).setChan k d).wr f v) : t = { s with regs := t.regs, dma := t.dma } := by
  rw [ht]
  rfl

theorem exec_dmaHandover (h4 : 4 ≤ k.val) (hstate : s.rd (F.DMA_CH_STATUS.STATE k) = 1) (hgoing : (s.chan k).going = true)
    (hend : progBursts (s.chan k).active ≤ (s.chan k).burst) : exec (.dmaHandover k) s = .next (s.dmaHandover k) := by
  show execDmaHandover k s = _
  simp only [execDmaHandover, h4, hstate, hgoing, hend, decide_true, Bool.and_self, if_true, done]

theorem State.dmaHandover_shadow (s : State) (k : Nat) (hmode : s.rd (F.DMA_CH_CTL.MODE k) = 1) :
    s.dmaHandover k = if (s.chan k).stopReq then s.dmaDone k
      else (s.setChan k { s.chan k with fresh := false, tokens := s.tokensNow (s.chan k), tokenAt := s.cycle }).dmaRun k
        (s.chan k).committed := by
  unfold State.dmaHandover
  rw [hmode]
  rfl

theorem State.dmaHandover_chain (s : State) (k : Nat) (hmode : s.rd (F.DMA_CH_CTL.MODE k) = 2) (t : State)
    (ht : t = s.descriptorNoted k (s.chan k).active) :
    s.dmaHandover k = if progLast (s.chan k).active then t.dmaDone k
      else if ((s.chan k).fetched ≠ 0 && progNext (s.chan k).active = (s.chan k).head) ||
        t.rd F.DMA_CHAIN_BUDGET.LIMIT ≤ (s.chan k).fetched then t.dmaStop k 2
      else t.setChan k { s.chan k with going := false, fetching := true } := by
  subst ht
  unfold State.dmaHandover
  rw [hmode]
  rfl

/-- The end of a program that stops its channel with DONE, in each MODE. -/
theorem State.dmaHandover_ends (s : State) (k : Nat)
    (h : s.rd (F.DMA_CH_CTL.MODE k) = 0 ∨ (s.rd (F.DMA_CH_CTL.MODE k) = 1 ∧ (s.chan k).stopReq = true) ∨
      (s.rd (F.DMA_CH_CTL.MODE k) = 2 ∧ progLast (s.chan k).active = true)) :
    s.dmaHandover k = s.dmaDone k ∨ s.dmaHandover k = (s.descriptorNoted k (s.chan k).active).dmaDone k := by
  rcases h with hmode | ⟨hmode, hstop⟩ | ⟨hmode, hlast⟩
  · left
    unfold State.dmaHandover
    rw [hmode]
    rfl
  · left
    rw [State.dmaHandover_shadow _ _ hmode, if_pos hstop]
  · right
    rw [State.dmaHandover_chain _ _ hmode _ rfl, if_pos hlast]

end

/-- Settles O14: the commit and STOP written out; each hand-over is a start, an end with DONE, the fetch of the next descriptor
or a stop with CHAIN_LOOP. -/
theorem dmaShadowCommitAndStopWaitForTheHandOver : Obligations.DmaShadowCommitAndStopWaitForTheHandOver := by
  unfold Obligations.DmaShadowCommitAndStopWaitForTheHandOver
  refine ⟨fun s m k late hserves hfresh => ⟨_, exec_shadowCommit late hserves _ rfl, ?_⟩,
    fun s m k late hserves hfresh => ⟨_, exec_shadowCommit late hserves _ rfl, ?_⟩,
    fun s k h4 hstate hgoing hend hmode hstop hok => ⟨_, exec_dmaHandover h4 hstate hgoing hend, ?_⟩,
    fun s k h4 hstate hgoing hend hends => ⟨_, exec_dmaHandover h4 hstate hgoing hend, ?_⟩,
    fun s k h4 hstate hgoing hend hmode hlast hloop hbudget => ⟨_, exec_dmaHandover h4 hstate hgoing hend, ?_⟩,
    fun s k h4 hstate hgoing hend hmode hlast hloop => ⟨_, exec_dmaHandover h4 hstate hgoing hend, ?_⟩,
    fun s m k hserves hstate hmode => ⟨_, exec_dmaStop_shadow hserves hstate hmode, by simp, fun j _ hne => ?_, rfl⟩⟩
  · have hregs := s.commit_apart k late { s.chan k with committed := s.dmaShadow k, fresh := true }
    have hchan := fun j => s.chan_commit k j late { s.chan k with committed := s.dmaShadow k, fresh := true }
    rw [State.overwriteFlagged_taken hfresh] at hregs hchan ⊢
    refine ⟨?_, fun j _ hne => ?_, ?_, ?_, ?_, hregs⟩
    · rw [hchan, if_pos rfl]
    · rw [hchan, if_neg hne]
    · cases late
      · exact State.rd_setChan _ _ _ _
      · exact State.rd_wr_same _ _ _ _ _ (by decide)
    · cases late
      · exact State.rd_setChan _ _ _ _
      · rw [if_pos rfl, State.rd_wr_apart _ _ _ _ _ _ _ (by decide), State.rd_setChan]
    · cases late <;> rfl
  · refine ⟨?_, ?_, s.commit_apart k late _⟩
    · rw [State.chan_commit, if_pos rfl, State.chan_overwriteFlagged, State.overwriteFlagged_fresh hfresh,
        State.dmaShadow_wr_status]
      simp only [hfresh]
    · have hflag : (s.overwriteFlagged k).rd (F.DMA_CH_STATUS.SHADOW_OVERWRITE k) = 1 := by
        rw [State.overwriteFlagged_fresh hfresh]
        exact State.rd_wr_same _ _ _ _ _ (by decide)
      cases late
      · rw [if_neg (by decide), State.rd_setChan, hflag]
      · rw [if_pos rfl, State.rd_wr_apart _ _ _ _ _ _ _ (by decide), State.rd_setChan, hflag]
  · rw [State.dmaHandover_shadow _ _ hmode, if_neg (by rw [hstop]; decide), State.dmaRun_eq, if_pos (by
      rw [State.rd_setChan, hmode]; exact hok)]
    unfold State.dmaRunning
    refine ⟨by simp [hgoing], State.rd_wr_same _ _ _ _ _ (by decide), State.setChan_wr_parts _ _ _ _ _ _ _ rfl, fun o _ => ?_⟩
    rw [State.reg_wr_held _ _ _ _ (by rw [State.rd_setChan, State.rd_setChan]; exact hstate), State.reg_setChan, State.reg_setChan]
  · have hnoted := s.descriptorNoted_step k (s.chan k).active k.isLt
    rcases State.dmaHandover_ends s k hends with h | h <;> rw [h]
    · obtain ⟨hidle, hdone, hgo, hreq, hregs⟩ := s.dmaDone_spec k k.isLt
      exact ⟨hidle, hdone, hgo, hreq, hregs, ((ChannelStep.refl k s).dmaDone k.isLt).sameMemories⟩
    · obtain ⟨hidle, hdone, hgo, hreq, hregs⟩ := (s.descriptorNoted k (s.chan k).active).dmaDone_spec k k.isLt
      exact ⟨hidle, hdone, hgo, hreq, regsApart_trans
        (regsApart_mono (s.descriptorNoted_apart k _ k.isLt) (by simp)) hregs, (hnoted.dmaDone k.isLt).sameMemories⟩
  · have hnoted := s.descriptorNoted_step k (s.chan k).active k.isLt
    have hapart := s.descriptorNoted_apart k (s.chan k).active k.isLt
    have hshown : ∀ o l w, o / 0x10000 ≠ 0x20 → (s.descriptorNoted k (s.chan k).active).rd ⟨o, l, w⟩ = s.rd ⟨o, l, w⟩ :=
      fun o l w ho => regsApart_rd hapart o l w (by simp; omega)
    rw [State.dmaHandover_chain _ _ hmode _ rfl, if_neg (by simp [hlast]), if_neg (by
      rw [hshown _ _ _ (by decide)]
      simpa [Nat.not_le.mpr hbudget, or_iff_not_imp_left] using hloop)]
    refine ⟨by simp, ?_, ?_, (hnoted.setChan _).sameMemories⟩
    · rw [State.rd_setChan, hshown _ _ _ (by omega)]
      exact hstate
    · simpa using hapart
  · have hnoted := s.descriptorNoted_step k (s.chan k).active k.isLt
    have hapart := s.descriptorNoted_apart k (s.chan k).active k.isLt
    have hlimit : (s.descriptorNoted k (s.chan k).active).rd F.DMA_CHAIN_BUDGET.LIMIT = s.rd F.DMA_CHAIN_BUDGET.LIMIT :=
      regsApart_rd hapart _ _ _ (by simp; omega)
    rw [State.dmaHandover_chain _ _ hmode _ rfl, if_neg (by simp [hlast]), if_pos (by
      rw [hlimit]
      simpa using hloop)]
    refine ⟨State.dmaStop_state _ _ _ k.isLt, State.dmaStop_err _ _ _ k.isLt (by decide), by simp [State.dmaStop_chan],
      regsApart_trans (regsApart_mono hapart (by simp)) (State.dmaStop_apart _ _ _ k.isLt), (hnoted.dmaStop k.isLt 2).sameMemories⟩
  · exact State.chan_setChan_ne _ _ _ _ hne

/-! ### Disables and cleared errors -/

/-- An address within 4 KiB of the source of the last burst, round 2^64 (R54). -/
theorem disabledAt_near (last : Int) (x : Nat) (hx : x ≤ 8192) :
    unsigned 64 ((unsigned 64 (last + x - 4096) : Int) - last + 4096) ≤ 8192 := by
  unfold unsigned
  norm_num
  omega

/-- The work of a channel with no burst in flight, dropped: two free values, and DISABLING. -/
theorem State.dmaDrop_idle (s : State) (k : Nat) : s.dmaDrop k false =
    (((({ s with free := s.free + 1 + 1 } : State).wr (F.DMA_CH_DISABLED_AT.ADDR k)
      (unsigned 64 (burstSrc (s.chan k).active ((s.chan k).burst - 1) + (Config.freeValue s.free % 8193 : Nat) - 4096))).wr
      (F.DMA_CH_DESC_COUNT.COUNT k) (Config.freeValue (s.free + 1))).setChan k { s.chan k with going := false, fetching := false }).wr
      (F.DMA_CH_STATUS.STATE k) 2 := rfl

section
variable {s : State} {m : Master} {k : Fin 16}

/-- The state with ENABLE and a held enable cleared. -/
def State.enableCleared (s : State) (k : Nat) : State := (s.wr (F.DMA_CH_CTL.ENABLE k) 0).wr (F.DMA_CH_STATUS.PENDING_ENABLE k) 0

theorem State.enableCleared_state (s : State) (k : Nat) :
    (s.enableCleared k).rd (F.DMA_CH_STATUS.STATE k) = s.rd (F.DMA_CH_STATUS.STATE k) :=
  (enableWrites_spec s k 0 (by decide)).2.1

theorem exec_dmaDisable (inFlight : Bool) (hserves : s.serves m (F.DMA_CH_CTL.ENABLE k).off = true) :
    exec (.dmaDisable m k inFlight) s = .next (if s.rd (F.DMA_CH_STATUS.STATE k) = 1 then (s.enableCleared k).dmaDrop k inFlight
      else s.enableCleared k) := by
  have hstate := s.enableCleared_state k
  show execDmaDisable m k inFlight s = _
  unfold execDmaDisable
  rw [State.gated_serves _ _ _ _ hserves]
  unfold State.enableCleared at hstate ⊢
  simp only [State.dmaDisable, State.clr_eq, hstate, done]

/-- ERR cleared, and STOPPED left. -/
def State.errCleared (s : State) (k : Nat) : State :=
  if s.rd (F.DMA_CH_STATUS.STATE k) = 3 then (s.wr (F.DMA_CH_STATUS.ERR k) 0).wr (F.DMA_CH_STATUS.STATE k) 0
  else s.wr (F.DMA_CH_STATUS.ERR k) 0

theorem exec_dmaErrClear_ones {bits : Fin 8} (hserves : s.serves m (F.DMA_CH_STATUS.ERR k).off = true) (hbits : bits ≠ 0) :
    exec (.dmaErrClear m k bits) s = .next ((s.errCleared k).settleSources (F.DMA_CH_STATUS.DONE k).off) := by
  have hval : ¬ bits.val = 0 := fun h => hbits (Fin.ext h)
  have hstate : (s.wr (F.DMA_CH_STATUS.ERR k) 0).rd (F.DMA_CH_STATUS.STATE k) = s.rd (F.DMA_CH_STATUS.STATE k) :=
    State.rd_wr_apart _ _ _ _ _ _ _ (by decide)
  show execDmaErrClear m k bits s = _
  unfold execDmaErrClear
  rw [State.gated_serves _ _ _ _ hserves]
  simp only [hval, if_false, hstate, done, State.errCleared]

theorem State.errCleared_regs (s : State) (k o : Nat) (ho : o ≠ 0x30008 + 0x100 * k) : (s.errCleared k).reg o = s.reg o := by
  unfold State.errCleared
  split
  · rw [State.reg_wr_off _ _ _ _ _ _ ho, State.reg_wr_off _ _ _ _ _ _ ho]
  · rw [State.reg_wr_off _ _ _ _ _ _ ho]

theorem State.errCleared_only (s : State) (k : Nat) : RegsOnly s (s.errCleared k) := by
  unfold State.errCleared
  split <;> rfl

theorem State.errCleared_err (s : State) (k : Nat) : (s.errCleared k).rd (F.DMA_CH_STATUS.ERR k) = 0 := by
  unfold State.errCleared
  split
  · rw [State.rd_wr_apart _ _ _ _ _ _ _ (by decide)]
    exact State.rd_wr_same _ _ _ _ _ (by decide)
  · exact State.rd_wr_same _ _ _ _ _ (by decide)

theorem State.errCleared_state (s : State) (k : Nat) : (s.errCleared k).rd (F.DMA_CH_STATUS.STATE k) =
    if s.rd (F.DMA_CH_STATUS.STATE k) = 3 then 0 else s.rd (F.DMA_CH_STATUS.STATE k) := by
  unfold State.errCleared
  split
  · exact State.rd_wr_same _ _ _ _ _ (by decide)
  · exact State.rd_wr_apart _ _ _ _ _ _ _ (by decide)

end

/-- A field outside the sources' registers after a settlement. -/
theorem State.rd_settleSources (s : State) (off o l w : Nat) (ho : o < 0x200200 ∨ 0x2002E0 ≤ o) :
    (s.settleSources off).rd ⟨o, l, w⟩ = s.rd ⟨o, l, w⟩ := by
  unfold State.rd
  rw [State.settleSources_reg _ _ _ ho]

theorem State.dropped_parts (s t : State) (n k a b c : Nat) (f g h : Field) (d : DmaCh)
    (ht : t = ((((({ s with free := n } : State).wr f a).wr g b).setChan k d).wr h c)) :
    t = { s with regs := t.regs, dma := t.dma, free := t.free } := by
  rw [ht]
  rfl

/-- What the dropped work of a running channel leaves. -/
theorem State.dmaDrop_spec (s : State) (k : Nat) (t : State) (ht : t = s.dmaDrop k false) :
    t.rd (F.DMA_CH_STATUS.STATE k) = 2 ∧
      (∀ o l w, o ≠ 0x30008 + 0x100 * k → o ≠ 0x30060 + 0x100 * k → o ≠ 0x30068 + 0x100 * k → t.rd ⟨o, l, w⟩ = s.rd ⟨o, l, w⟩) ∧
      t.rd (F.DMA_CH_STATUS.PENDING_ENABLE k) = s.rd (F.DMA_CH_STATUS.PENDING_ENABLE k) ∧
      t.chan k = { s.chan k with going := false, fetching := false } ∧
      unsigned 64 ((t.rd (F.DMA_CH_DISABLED_AT.ADDR k) : Int) - burstSrc (s.chan k).active ((s.chan k).burst - 1) + 4096) ≤ 8192 ∧
      t = { s with regs := t.regs, dma := t.dma, free := t.free } ∧
      regsApart [(F.DMA_CH_STATUS.STATE k).off, (F.DMA_CH_DISABLED_AT.ADDR k).off, (F.DMA_CH_DESC_COUNT.COUNT k).off] s t := by
  have hx : Config.freeValue s.free % 8193 ≤ 8192 := by omega
  rw [State.dmaDrop_idle] at ht
  refine ⟨?_, fun o l w h1 h2 h3 => ?_, ?_, ?_, ?_, ?_, ?_⟩
  · rw [ht]
    exact State.rd_wr_same _ _ _ _ _ (by decide)
  · rw [ht, State.rd_wr_off _ _ _ _ _ _ _ _ (Ne.symm h1), State.rd_setChan, State.rd_wr_off _ _ _ _ _ _ _ _ (Ne.symm h3),
      State.rd_wr_off _ _ _ _ _ _ _ _ (Ne.symm h2), State.rd_free]
  · rw [ht, State.rd_wr_apart _ _ _ _ _ _ _ (by decide), State.rd_setChan, State.rd_wr_off _ _ _ _ _ _ _ _ (by omega),
      State.rd_wr_off _ _ _ _ _ _ _ _ (by omega), State.rd_free]
  · rw [ht, State.chan_wr, State.chan_setChan_same]
  · rw [ht, State.rd_wr_off _ _ _ _ _ _ _ _ (by omega), State.rd_setChan, State.rd_wr_off _ _ _ _ _ _ _ _ (by omega),
      State.rd_wr_same _ _ _ _ _ (by decide), Nat.mod_eq_of_lt (by unfold unsigned; omega)]
    exact disabledAt_near _ _ hx
  · exact State.dropped_parts _ _ _ _ _ _ _ _ _ _ _ ht
  · rw [ht]
    refine regsApart_wr _ _ ((regsApart_setChan_iff _ _).mpr (regsApart_wr _ _ (regsApart_wr _ _ ?_ ?_) ?_)) ?_
    · exact regsApart_regs regsApart_refl rfl
    · simp
    · simp
    · simp

/-- Settles O17: the disable by the state of the channel, and ERR cleared and settled. -/
theorem dmaDisableDropsAndErrClearsToIdle : Obligations.DmaDisableDropsAndErrClearsToIdle := by
  unfold Obligations.DmaDisableDropsAndErrClearsToIdle
  refine ⟨fun s m k hserves hstate => ⟨_, exec_dmaDisable false hserves, ?_⟩,
    fun s m k inFlight hserves hstate => ⟨_, exec_dmaDisable inFlight hserves, ?_⟩,
    fun s m k bits hserves hbits => ⟨_, exec_dmaErrClear_ones hserves hbits, ?_⟩⟩
  · obtain ⟨hpending, -, henable, hparts, hregs⟩ := enableWrites_spec s k 0 (by decide)
    change (s.enableCleared k).rd _ = 0 at hpending
    change (s.enableCleared k).rd _ = 0 at henable
    rw [if_pos hstate]
    obtain ⟨h2, hkeeps, hkeepsPending, hchan, hnear, hdrop, hapart⟩ := (s.enableCleared k).dmaDrop_spec k _ rfl
    refine ⟨h2, (hkeeps _ _ _ (by omega) (by omega) (by omega)).trans henable, hkeepsPending.trans hpending, hchan, hnear, ?_,
      regsApart_trans (regsApart_mono hregs (by simp)) (regsApart_mono hapart (by simp))⟩
    generalize (s.enableCleared k).dmaDrop k false = t at hdrop
    rw [hdrop]
    rfl
  · obtain ⟨hpending, hkeeps, henable, hparts, hregs⟩ := enableWrites_spec s k 0 (by decide)
    rw [if_neg hstate]
    exact ⟨henable, hpending, hkeeps, hparts, hregs⟩
  · obtain ⟨hapart, -⟩ := State.settled_of_written (u := s.errCleared k) (s.errCleared_regs k) rfl
    refine ⟨?_, ?_, (s.errCleared_only k).trans (RegsOnly.settleSources _ _), hapart⟩
    · rw [State.rd_settleSources _ _ _ _ _ (by omega), State.errCleared_err]
    · rw [State.rd_settleSources _ _ _ _ _ (by omega), State.errCleared_state]

end Sys2Proof.Machine
end

section
/-! SUPPORT. The performance counters and precise sampling (R365 to R373). -/
namespace Sys2Proof.Machine

/-! ### What a sparse list holds at a key that has just been written -/

theorem find_smInsert {α : Type} (v : α) : ∀ (m : SMap α) (k : Nat), (smInsert m k v).find? (fun e => e.1 = k) = some (k, v)
  | [], k => by simp [smInsert]
  | (a, x) :: m, k => by
    unfold smInsert
    split_ifs with hlt heq
    · simp
    · simp
    · rw [List.find?_cons_of_neg (by simpa using fun h => heq h.symm)]
      exact find_smInsert v m k

theorem lookup_smInsert {α : Type} (v : α) : ∀ (m : SMap α) (k : Nat), (smInsert m k v).lookup k = some v
  | [], k => by simp [smInsert]
  | (a, x) :: m, k => by
    unfold smInsert
    split_ifs with hlt heq
    · simp [List.lookup]
    · simp
    · simp only [List.lookup, beq_eq_false_iff_ne.mpr heq]
      exact lookup_smInsert v m k

/-- The half of a register that has just been staged. -/
theorem State.halfReg_staged (s : State) (off : Nat) (v : Word) (h : SMap Nat)
    (hh : h = smSet halfNone s.halves off v.toNat) : ({ s with halves := h } : State).halfReg off = v := by
  have hv : v.toNat ≠ halfNone off := Nat.ne_of_lt v.isLt
  subst hh
  unfold State.halfReg smSet
  rw [if_neg hv]
  simp only [find_smInsert, BitVec.ofNat_toNat, BitVec.setWidth_eq]

/-! ### What a counter counts with -/

/-- Two states count with the same selections: PMC_CTL, PMC_CFG, the ranges and PMC_SELk, as this cycle counts with them. -/
structure SameSelection (s t : State) : Prop where
  selWas : t.pmc.selWas = s.pmc.selWas
  ctlWas : t.pmc.ctlWas = s.pmc.ctlWas
  cycle : t.cycle = s.cycle
  regs : ∀ o, o ≠ 0x230018 → o < 0x230400 → t.reg o = s.reg o

namespace SameSelection
variable {s t : State} (h : SameSelection s t)
include h

theorem selNow (k : Nat) (hk : k ≤ 64) : t.selNow k = s.selNow k := by
  unfold State.selNow
  rw [h.selWas, h.cycle, h.regs _ (by simp only; omega) (by simp only; omega)]

theorem selBit (f : Field) (k : Nat) (hk : k ≤ 64) : t.selBit f k = s.selBit f k := by
  unfold State.selBit State.selRd
  rw [h.selNow k hk]

theorem selRd (f : Field) (k : Nat) (hk : k ≤ 64) : t.selRd f k = s.selRd f k := by
  unfold State.selRd
  rw [h.selNow k hk]

theorem pmcRuns (k : Nat) (hk : k ≤ 64) : t.pmcRuns k = s.pmcRuns k := by
  unfold State.pmcRuns State.hostCounter State.ctlBit State.ctlNow State.rd
  rw [h.selBit _ k hk, h.ctlWas, h.cycle, h.regs _ (by decide) (by decide), h.regs _ (by decide) (by decide)]

theorem pmcChained (k : Nat) (hk : k ≤ 64) : t.pmcChained k = s.pmcChained k := by
  unfold State.pmcChained
  rw [h.selBit _ k hk]

theorem pmcApplies (k : Nat) (hk : k ≤ 64) : t.pmcApplies k = s.pmcApplies k := by
  unfold State.pmcApplies
  rw [h.selRd _ k hk, h.selRd _ k hk, h.selRd _ k hk, h.selBit _ k hk]

end SameSelection

/-- Whether counter `k` counts the events of its own selection (R365 to R367, R370). -/
def State.pmcOwns (s : State) (k : Nat) : Bool :=
  s.pmcRuns k && !s.selBit (F.PMC_SEL.CHAIN k) k && decide (s.selRd (F.PMC_SEL.EVENT k) k ≠ 0) && s.pmcApplies k

theorem State.pmcOwn_eq (s : State) (k n : Nat) : s.pmcOwn k n = if n ≠ 0 ∧ s.pmcOwns k = true then s.pmcAdd k n else s := by
  unfold State.pmcOwn State.pmcOwns
  simp only [Bool.and_eq_true, decide_eq_true_eq, and_assoc]

theorem SameSelection.pmcOwns {s t : State} (h : SameSelection s t) (k : Nat) (hk : k ≤ 64) : t.pmcOwns k = s.pmcOwns k := by
  unfold State.pmcOwns
  rw [h.pmcRuns k hk, h.selBit _ k hk, h.selRd _ k hk, h.pmcApplies k hk]

theorem SameSelection.wrCount (s : State) (k v : Nat) : SameSelection s (s.wr (F.PMC_CTR.COUNT k) v) :=
  ⟨rfl, rfl, rfl, fun _ _ ho => State.reg_wr_off _ _ _ _ _ _ (by omega)⟩

theorem SameSelection.wrOvf (s : State) (v : Nat) : SameSelection s (s.wr F.PMC_OVF.OVF v) :=
  ⟨rfl, rfl, rfl, fun _ ho _ => State.reg_wr_off _ _ _ _ _ _ ho⟩

theorem SameSelection.trans {s t u : State} (h : SameSelection s t) (h' : SameSelection t u) : SameSelection s u :=
  ⟨h'.selWas.trans h.selWas, h'.ctlWas.trans h.ctlWas, h'.cycle.trans h.cycle,
    fun o ho ho' => (h'.regs o ho ho').trans (h.regs o ho ho')⟩

/-! ### Events in a counter -/

/-- Events that do not wrap the counter. -/
theorem State.pmcAdd_low (s : State) (k n : Nat) (hsum : s.rd (F.PMC_CTR.COUNT k) + n < 2 ^ 48) :
    s.pmcAdd k n = s.wr (F.PMC_CTR.COUNT k) (s.rd (F.PMC_CTR.COUNT k) + n) := by
  have hw : (s.rd (F.PMC_CTR.COUNT k) + n) / 2 ^ 48 = 0 := Nat.div_eq_of_lt hsum
  unfold State.pmcAdd State.pmcStep
  simp only [hw, if_true]

/-- The state after a wrap, before its carry: the count `c`, the overflow bit and the interrupt. -/
def State.pmcWrapped (s : State) (k c : Nat) : State :=
  { (s.wr (F.PMC_CTR.COUNT k) c).wr F.PMC_OVF.OVF (s.rd F.PMC_OVF.OVF ||| 2 ^ k) with
    pmc := { s.pmc with irqs := s.pmc.irqs + (if s.selBit (F.PMC_SEL.OVF_IRQ k) k then 1 else 0) } }

theorem irqs_of_flag (t : State) (p : PmcSt) (hp : t.pmc = p) (c : Bool) :
    (if c then { t with pmc := { t.pmc with irqs := t.pmc.irqs + 1 } } else t) =
      { t with pmc := { p with irqs := p.irqs + (if c then 1 else 0) } } := by
  subst hp
  cases c <;> rfl

theorem SameSelection.withPmc {s t : State} (h : SameSelection s t) (p : PmcSt) (hsel : p.selWas = s.pmc.selWas)
    (hctl : p.ctlWas = s.pmc.ctlWas) : SameSelection s { t with pmc := p } :=
  ⟨hsel, hctl, h.cycle, h.regs⟩

theorem SameSelection.pmcWrapped (s : State) (k c : Nat) : SameSelection s (s.pmcWrapped k c) :=
  ((SameSelection.wrCount s k c).trans (SameSelection.wrOvf _ _)).withPmc _ rfl rfl

theorem State.pmcAdd_wrap (s : State) (k n c : Nat) (hk : k < 64) (hc : c = s.rd (F.PMC_CTR.COUNT k) + n) (hw : c / 2 ^ 48 = 1) :
    s.pmcAdd k n = if k % 2 = 0 ∧ s.pmcChained (k + 1) = true ∧ s.pmcRuns (k + 1) = true then
      (s.pmcWrapped k c).wr (F.PMC_CTR.COUNT (k + 1)) ((s.pmcWrapped k c).rd (F.PMC_CTR.COUNT (k + 1)) + 1)
      else s.pmcWrapped k c := by
  have hovf : (s.wr (F.PMC_CTR.COUNT k) c).rd F.PMC_OVF.OVF = s.rd F.PMC_OVF.OVF := State.rd_wr_off _ _ _ _ _ _ _ _ (by omega)
  have hsel := (SameSelection.wrCount s k c).trans (SameSelection.wrOvf (s.wr (F.PMC_CTR.COUNT k) c) (s.rd F.PMC_OVF.OVF ||| 2 ^ k))
  have hirq := hsel.selBit (F.PMC_SEL.OVF_IRQ k) k (by omega)
  have hwrapped : (if s.selBit (F.PMC_SEL.OVF_IRQ k) k then
      { (s.wr (F.PMC_CTR.COUNT k) c).wr F.PMC_OVF.OVF (s.rd F.PMC_OVF.OVF ||| 2 ^ k) with
        pmc := { ((s.wr (F.PMC_CTR.COUNT k) c).wr F.PMC_OVF.OVF (s.rd F.PMC_OVF.OVF ||| 2 ^ k)).pmc with
          irqs := ((s.wr (F.PMC_CTR.COUNT k) c).wr F.PMC_OVF.OVF (s.rd F.PMC_OVF.OVF ||| 2 ^ k)).pmc.irqs + 1 } }
      else (s.wr (F.PMC_CTR.COUNT k) c).wr F.PMC_OVF.OVF (s.rd F.PMC_OVF.OVF ||| 2 ^ k)) = s.pmcWrapped k c :=
    irqs_of_flag ((s.wr (F.PMC_CTR.COUNT k) c).wr F.PMC_OVF.OVF (s.rd F.PMC_OVF.OVF ||| 2 ^ k)) s.pmc rfl _
  have hsame := SameSelection.pmcWrapped s k c
  have hchained := hsame.pmcChained (k + 1) (by omega)
  have hruns := hsame.pmcRuns (k + 1) (by omega)
  unfold State.pmcAdd State.pmcStep
  simp only [← hc, hw, hovf, hirq, Nat.one_ne_zero, if_false, hwrapped, hchained, hruns, Bool.and_eq_true, decide_eq_true_eq, and_assoc]

/-- What a wrap shows: the count round 2^48, the overflow bit, the interrupt, and the carry into the counter chained to it. -/
theorem State.pmcAdd_wrap_spec (s : State) (k n c : Nat) (hk : k < 64) (hc : c = s.rd (F.PMC_CTR.COUNT k) + n) (hw : c / 2 ^ 48 = 1)
    (t : State) (ht : t = s.pmcAdd k n) : t.rd (F.PMC_CTR.COUNT k) = c - 2 ^ 48 ∧
      t.rd F.PMC_OVF.OVF = s.rd F.PMC_OVF.OVF ||| 2 ^ k ∧
      t = { s with
        regs := t.regs
        pmc := { s.pmc with irqs := s.pmc.irqs + (if s.selBit (F.PMC_SEL.OVF_IRQ k) k then 1 else 0) } } ∧
      (k % 2 = 0 ∧ s.pmcChained (k + 1) = true ∧ s.pmcRuns (k + 1) = true →
        t.rd (F.PMC_CTR.COUNT (k + 1)) = (s.rd (F.PMC_CTR.COUNT (k + 1)) + 1) % 2 ^ 48) ∧
      regsApart [(F.PMC_CTR.COUNT k).off, (F.PMC_CTR.COUNT (k + 1)).off, F.PMC_OVF.OVF.off] s t := by
  have hovf : s.rd F.PMC_OVF.OVF ||| 2 ^ k < 2 ^ 64 := Nat.or_lt_two_pow (State.rd_lt s _) (Nat.pow_lt_pow_right (by decide) hk)
  have hcount : (s.pmcWrapped k c).rd (F.PMC_CTR.COUNT k) = c - 2 ^ 48 := by
    unfold State.pmcWrapped
    rw [State.rd_mk, State.rd_wr_off _ _ _ _ _ _ _ _ (by omega), State.rd_wr_same _ _ _ _ _ (by decide)]
    omega
  have hflag : (s.pmcWrapped k c).rd F.PMC_OVF.OVF = s.rd F.PMC_OVF.OVF ||| 2 ^ k := by
    unfold State.pmcWrapped
    rw [State.rd_mk, State.rd_wr_same _ _ _ _ _ (by decide), Nat.mod_eq_of_lt hovf]
  have hnext : (s.pmcWrapped k c).rd (F.PMC_CTR.COUNT (k + 1)) = s.rd (F.PMC_CTR.COUNT (k + 1)) := by
    unfold State.pmcWrapped
    rw [State.rd_mk, State.rd_wr_off _ _ _ _ _ _ _ _ (by omega), State.rd_wr_off _ _ _ _ _ _ _ _ (by omega)]
  have hregs : regsApart [(F.PMC_CTR.COUNT k).off, (F.PMC_CTR.COUNT (k + 1)).off, F.PMC_OVF.OVF.off] s (s.pmcWrapped k c) := by
    unfold State.pmcWrapped
    rw [regsApart_mk]
    exact regsApart_wr _ _ (regsApart_wr _ _ regsApart_refl (by simp)) (by simp)
  rw [State.pmcAdd_wrap s k n c hk hc hw] at ht
  split at ht
  · next hchain =>
    rw [hnext] at ht
    subst ht
    refine ⟨?_, ?_, rfl, fun _ => State.rd_wr_same _ _ _ _ _ (by decide), regsApart_wr _ _ hregs (by simp)⟩
    · rw [State.rd_wr_off _ _ _ _ _ _ _ _ (by omega), hcount]
    · rw [State.rd_wr_off _ _ _ _ _ _ _ _ (by omega), hflag]
  · next hchain =>
    subst ht
    exact ⟨hcount, hflag, rfl, fun h => absurd h hchain, hregs⟩

/-! ### The commands of the counters -/

theorem lowMask_testBit (i : Nat) : lowMask.testBit i = decide (i < 32) := by
  rw [show lowMask = 2 ^ 32 - 1 from rfl, Nat.testBit_two_pow_sub_one]

theorem highMask_testBit (i : Nat) : highMask.testBit i = decide (32 ≤ i ∧ i < 64) := by
  rw [show highMask = 2 ^ 32 * (2 ^ 32 - 1) from rfl, Nat.testBit_two_pow_mul, Nat.testBit_two_pow_sub_one]
  by_cases h : 32 ≤ i <;> simp [h]
  omega

/-- 48 bits of which the low 32 come from one number and the rest from another. -/
theorem count_split {x a b : Nat} (hb : b < 2 ^ 32) (hlow : ∀ i, i < 32 → x.testBit i = b.testBit i)
    (hhigh : ∀ i, 32 ≤ i → i < 48 → x.testBit i = a.testBit (i - 32)) (ha : a < 2 ^ 16) : x % 2 ^ 48 = a * 2 ^ 32 + b := by
  apply Nat.eq_of_testBit_eq
  intro i
  rw [Nat.mul_comm a, Nat.testBit_two_pow_mul_add _ hb, Nat.testBit_mod_two_pow]
  split
  · next hi => rw [hlow i hi, decide_eq_true (by omega), Bool.true_and]
  · next hi =>
    by_cases h : i < 48
    · rw [hhigh i (by omega) h, decide_eq_true h, Bool.true_and]
    · rw [decide_eq_false h, Bool.false_and, Nat.testBit_lt_two_pow (lt_of_lt_of_le ha (Nat.pow_le_pow_right (by decide) (by omega)))]

section
variable {s : State} {m : Master} {k : Fin 64}

/-- The count written, whole or by a half (R370, R400). -/
def State.pmcWritten (s : State) (k : Nat) (w : BusWidth) (upper : Bool) (v : Word) : State :=
  let cover := if w = .w64 then fullMask else if upper then highMask else lowMask
  s.wr (F.PMC_CTR.COUNT k) ((s.reg (F.PMC_CTR.COUNT k).off &&& ~~~BitVec.ofNat 64 cover) |||
    (BitVec.ofNat 64 (laid cover v) &&& BitVec.ofNat 64 cover)).toNat

theorem exec_pmcCtrWrite (w : BusWidth) (upper : Bool) (v : Word) (events : Nat)
    (hserves : s.serves m (F.PMC_CTR.COUNT k).off = true) :
    exec (.pmcCtrWrite m k w upper v events) s = .next ((s.pmcWritten k w upper v).pmcOwn k events) := by
  show execPmcCtrWrite m k w upper v events s = _
  unfold execPmcCtrWrite
  simp only
  rw [State.gated_serves _ _ _ _ hserves]
  rfl

theorem SameSelection.pmcWritten (s : State) (k : Nat) (w : BusWidth) (upper : Bool) (v : Word) :
    SameSelection s (s.pmcWritten k w upper v) := SameSelection.wrCount _ _ _

theorem fullMask_testBit {i : Nat} (hi : i < 64) : fullMask.testBit i = true := by
  rw [show fullMask = 2 ^ 64 - 1 from rfl, Nat.testBit_two_pow_sub_one]
  simpa using hi

theorem State.pmcWritten_count_wide (s : State) (k : Nat) (upper : Bool) (v : Word) :
    (s.pmcWritten k .w64 upper v).rd (F.PMC_CTR.COUNT k) = v.toNat % 2 ^ 48 := by
  have hnew : ∀ x : Word, (x &&& ~~~BitVec.ofNat 64 fullMask) ||| (BitVec.ofNat 64 (laid fullMask v) &&& BitVec.ofNat 64 fullMask) = v := by
    intro x
    apply BitVec.eq_of_getLsbD_eq
    intro i hi
    rw [masked_getLsbD _ _ _ _ hi, fullMask_testBit hi, if_pos rfl]
    rfl
  unfold State.pmcWritten
  rw [State.rd_wr_same _ _ _ _ _ (by decide), if_pos rfl, hnew]

/-- The count after a masked write of one half. -/
theorem State.rd_count_half (s : State) (k : Nat) (upper : Bool) (v : Word) (cover : Nat) (hcover : cover = if upper then highMask else lowMask):
    (s.wr (F.PMC_CTR.COUNT k) ((s.reg (F.PMC_CTR.COUNT k).off &&& ~~~BitVec.ofNat 64 cover) |||
    (BitVec.ofNat 64 (laid cover v) &&& BitVec.ofNat 64 cover)).toNat).rd (F.PMC_CTR.COUNT k) =
      if upper then v.toNat % 2 ^ 16 * 2 ^ 32 + s.rd (F.PMC_CTR.COUNT k) % 2 ^ 32
      else s.rd (F.PMC_CTR.COUNT k) / 2 ^ 32 * 2 ^ 32 + v.toNat % 2 ^ 32 := by
  have hold : ∀ i, i < 48 → (s.rd (F.PMC_CTR.COUNT k)).testBit i = (s.reg (F.PMC_CTR.COUNT k).off).getLsbD i := fun i hi => by
    unfold State.rd
    rw [Field.get_testBit, decide_eq_true hi, Bool.true_and, Nat.zero_add]
  have hbit : ∀ i, i < 64 → ((s.reg (F.PMC_CTR.COUNT k).off &&& ~~~BitVec.ofNat 64 cover) |||
      (BitVec.ofNat 64 (laid cover v) &&& BitVec.ofNat 64 cover)).toNat.testBit i =
      if cover.testBit i then (laid cover v).testBit i else (s.reg (F.PMC_CTR.COUNT k).off).getLsbD i :=
    fun i hi => masked_getLsbD _ _ _ _ hi
  have hv : ∀ i, v.toNat.testBit i = v.getLsbD i := fun i => rfl
  rw [State.rd_wr_same _ _ _ _ _ (by decide)]
  cases upper with
  | true =>
    rw [if_pos rfl] at hcover
    subst hcover
    refine count_split (Nat.mod_lt _ (by decide)) (fun i hi => ?_) (fun i hlow hi => ?_) (Nat.mod_lt _ (by decide))
    · rw [hbit i (by omega), highMask_testBit, if_neg (by simp; omega), Nat.testBit_mod_two_pow, hold i (by omega),
        decide_eq_true hi, Bool.true_and]
    · have hc : highMask.testBit i = true := by rw [highMask_testBit]; simp; omega
      rw [hbit i (by omega), if_pos hc, laid_testBit v hc, Nat.testBit_mod_two_pow, hv, decide_eq_true (by omega),
        Bool.true_and]
      rfl
  | false =>
    rw [if_neg (by decide)] at hcover
    subst hcover
    refine count_split (Nat.mod_lt _ (by decide)) (fun i hi => ?_) (fun i hlow hi => ?_) ?_
    · have hc : lowMask.testBit i = true := by rw [lowMask_testBit]; simpa using hi
      rw [hbit i (by omega), if_pos hc, laid_testBit v hc, Nat.testBit_mod_two_pow, hv, decide_eq_true hi,
        Bool.true_and]
      rfl
    · rw [hbit i (by omega), lowMask_testBit, if_neg (by simp; omega), Nat.testBit_div_two_pow, hold _ (by omega),
        Nat.sub_add_cancel hlow]
    · have := State.rd_lt s (F.PMC_CTR.COUNT k)
      simp only at this
      omega

/-- A half of a counter written: its 16 or 32 bits are the access's, the others stay. -/
theorem State.pmcWritten_count_half (s : State) (k : Nat) (upper : Bool) (v : Word) :
    (s.pmcWritten k .w32 upper v).rd (F.PMC_CTR.COUNT k) =
      if upper then v.toNat % 2 ^ 16 * 2 ^ 32 + s.rd (F.PMC_CTR.COUNT k) % 2 ^ 32
      else s.rd (F.PMC_CTR.COUNT k) / 2 ^ 32 * 2 ^ 32 + v.toNat % 2 ^ 32 :=
  s.rd_count_half k upper v _ (if_neg (by decide))

/-- A count written in a counter that counts nothing of its own. -/
theorem State.pmcOwn_idle {s : State} {k : Nat} (n : Nat) (h : s.pmcOwns k = false) : s.pmcOwn k n = s := by
  rw [State.pmcOwn_eq, if_neg (by simp [h])]

theorem SameSelection.held {s t : State} (hregs : ∀ o, o ≠ 0x230018 → o < 0x230400 → t.reg o = s.reg o) (hpmc : t.pmc = s.pmc)
    (hcycle : t.cycle = s.cycle) : SameSelection s t := ⟨by rw [hpmc], by rw [hpmc], hcycle, hregs⟩

/-- The state with the selection of a counter kept for the rest of its cycle, and PMC_SELk written (R370). -/
def State.selWritten (s : State) (k : Nat) (v : BitVec 32) : State :=
  { s with pmc := { s.pmc with selWas := smInsert s.pmc.selWas k (s.cycle, s.selNow k) } }.setReg (F.PMC_SEL.EVENT k).off
    (BitVec.ofNat 64 (v.toNat % 2 ^ 31))

theorem exec_pmcSelWrite (v : BitVec 32) (hserves : s.serves m (F.PMC_SEL.EVENT k).off = true) :
    exec (.pmcSelWrite m k v) s = .next (s.selWritten k v) := by
  show execPmcSelWrite m k v s = _
  unfold execPmcSelWrite
  simp only
  rw [State.gated_serves _ _ _ _ hserves]
  rfl

/-- A selection kept from this cycle is what the cycle counts with. -/
theorem State.selNow_kept {t : State} {k : Nat} {w : Word} (h : t.pmc.selWas.lookup k = some (t.cycle, w)) : t.selNow k = w := by
  unfold State.selNow
  rw [h]
  exact if_pos rfl

theorem State.selWritten_selNow (s : State) (k : Nat) (v : BitVec 32) : (s.selWritten k v).selNow k = s.selNow k :=
  State.selNow_kept (lookup_smInsert (s.cycle, s.selNow k) s.pmc.selWas k)

theorem State.selWritten_pmcRuns (s : State) (k : Nat) (v : BitVec 32) (hk : k < 64) :
    (s.selWritten k v).pmcRuns k = s.pmcRuns k := by
  have hreg : ∀ o, o < 0x230100 → (s.selWritten k v).reg o = s.reg o := fun o ho => by
    unfold State.selWritten
    rw [State.reg_setReg_ne _ _ _ _ (by simp only; omega)]
    exact State.reg_of_regs _ _ rfl _
  unfold State.pmcRuns State.selBit State.selRd State.hostCounter State.ctlBit State.ctlNow State.rd
  rw [State.selWritten_selNow, hreg _ (by decide), hreg _ (by decide)]
  rfl

/-- The state with PMC_CTL kept for the rest of its cycle. -/
def State.ctlKept (s : State) : State := { s with pmc := { s.pmc with ctlWas := some (s.cycle, s.ctlNow) } }

theorem exec_pmcFreeze (v : BitVec 32) (hserves : s.serves m F.PMC_CTL.FREEZE.off = true) :
    exec (.pmcFreeze m v) s = .next (if m = .host then s.ctlKept.wr F.PMC_CTL.HOST_FREEZE (v.toNat / 2)
      else s.ctlKept.wr F.PMC_CTL.FREEZE v.toNat) := by
  show execPmcFreeze m v s = _
  unfold execPmcFreeze
  rw [State.gated_serves _ _ _ _ hserves]
  rfl

end

/-! ### Reads that latch a pair (R367, R371) -/

/-- A counter's register read whole: its view, with its odd partner latched. -/
theorem busHit_counter (j : Fin 32) : busHit (F.PMC_CTR.COUNT (2 * j)).off .w64 = .one (F.PMC_CTR.COUNT (2 * j)).off fullMask := by
  revert j
  decide +kernel

theorem rcBits_counter (j : Fin 32) : rcBits (F.PMC_CTR.COUNT (2 * j)).off = 0 := by
  revert j
  decide +kernel

/-- A state after a read of an even counter `o`: the view, and the odd partner's count kept for the master. -/
def State.counterRead (s : State) (m : Master) (o : Nat) : State :=
  { s.setReg o (s.reg o) with
    readData := s.pmcView m o
    pmc := { s.pmc with latch := smInsert s.pmc.latch (64 * latchPlace m + (o - 0x230400) / 8 + 1) (s.reg (o + 8)).toNat } }

theorem State.view_counter (s : State) (m : Master) (o : Nat) (hctr : inCounters o = true) (hrow : (rowAt o).isSome) :
    s.view m o = s.pmcView m o := by
  obtain ⟨⟨r, ix⟩, hrow⟩ := Option.isSome_iff_exists.mp hrow
  have ho : 0x230400 ≤ o ∧ o < 0x230600 := by simpa [inCounters] using hctr
  unfold State.view
  rw [hrow]
  dsimp only
  rw [if_neg (by simp only [Bool.and_eq_true, decide_eq_true_eq]; omega),
    if_neg (by simp only [Bool.and_eq_true, decide_eq_true_eq]; omega),
    if_neg (by simp only [Bool.and_eq_true, decide_eq_true_eq]; omega), if_pos hctr]

theorem State.busRead_counter {s : State} {m : Master} (j : Fin 32) (hs : s.silent m = false)
    (hread : s.readable m (F.PMC_CTR.COUNT (2 * j)).off = true) :
    s.busRead m (F.PMC_CTR.COUNT (2 * j)).off .w64 0 = s.counterRead m (F.PMC_CTR.COUNT (2 * j)).off := by
  have hhit := busHit_counter j
  have hrc := rcBits_counter j
  have ho : (F.PMC_CTR.COUNT (2 * j)).off = 0x230400 + 16 * j := by simp only; omega
  have hj := j.isLt
  generalize hoff : (F.PMC_CTR.COUNT (2 * j)).off = o at *
  obtain ⟨-, hrow, -⟩ := busHit_one hhit
  have hctr : inCounters o = true := by
    simp only [inCounters, Bool.and_eq_true, decide_eq_true_eq]
    omega
  have hview := s.view_counter m o hctr hrow
  obtain ⟨⟨r, ix⟩, hrow⟩ := Option.isSome_iff_exists.mp hrow
  have hrc' : r.rc = 0 := by
    unfold rcBits at hrc
    rw [hrow] at hrc
    exact hrc
  have hlatch : s.timLatch m o = s := by
    unfold State.timLatch
    rw [if_neg (by simp only [Bool.and_eq_true, decide_eq_true_eq]; omega)]
  have hpop : s.stampPop o fullMask = s := by
    unfold State.stampPop
    rw [if_neg (by simp only [Bool.and_eq_true, decide_eq_true_eq]; omega)]
  have hpmc : s.pmcLatch m o fullMask = { s with pmc := { s.pmc with
      latch := smInsert s.pmc.latch (64 * latchPlace m + (o - 0x230400) / 8 + 1) (s.reg (o + 8)).toNat } } := by
    unfold State.pmcLatch
    rw [hctr, if_neg (by decide), if_pos (by omega), if_neg (by decide)]
  unfold State.busRead
  rw [hs, if_neg (by decide), hhit]
  have hall : ∀ x : Word, x &&& BitVec.ofNat 64 fullMask = x := fun x => by
    rw [show BitVec.ofNat 64 fullMask = BitVec.allOnes 64 from rfl, BitVec.and_allOnes]
  have hleft : ∀ x : Word, (x &&& ~~~BitVec.ofNat 64 (0 &&& fullMask)) ||| (0 &&& BitVec.ofNat 64 (0 &&& fullMask)) = x := fun x => by
    rw [Nat.zero_and, show BitVec.ofNat 64 0 = 0#64 from rfl, BitVec.not_zero, BitVec.and_allOnes, BitVec.and_zero, BitVec.or_zero]
  have hother : ¬ (o / 0x10000 = 0x21 ∧ o % 0x100 = 0) ∧ ¬ (0x150020 ≤ o ∧ o < 0x150040) ∧ ¬ (0x210000 ≤ o ∧ o < 0x220000) ∧
      o ≠ 0x120010 := by omega
  obtain ⟨hcrc, hlac, hblock, hlow⟩ := hother
  simp only [State.readOne, hread, hrow, hlatch, hpop, hpmc, hview, hrc', hall, hcrc, hlac, hblock, Bool.not_true,
    Bool.false_eq_true, if_false, Bool.and_eq_true, decide_eq_true_eq, false_and, show fullMask ≠ highMask from by decide, hleft, hlow,
    State.reg_mk]
  rfl

/-- The view of a counter with no count latched for its master. -/
theorem State.pmcView_unlatched (s : State) (m : Master) (o : Nat)
    (h : ∀ e ∈ s.pmc.latch, e.1 ≠ 64 * latchPlace m + (o - 0x230400) / 8) : s.pmcView m o = s.reg o := by
  have hfind : s.pmc.latch.find? (fun e => e.1 = 64 * latchPlace m + (o - 0x230400) / 8) = none :=
    List.find?_eq_none.mpr (fun e he => by simpa using h e he)
  unfold State.pmcView
  dsimp only
  rw [hfind]

/-- What a read of an even counter leaves and returns. -/
theorem State.counterRead_spec (s : State) (m : Master) (j : Nat) (hj : j < 32) (t : State)
    (ht : t = s.counterRead m (F.PMC_CTR.COUNT (2 * j)).off) :
    t.readData = s.pmcView m (F.PMC_CTR.COUNT (2 * j)).off ∧
      ((∀ e ∈ s.pmc.latch, e.1 % 2 = 1) → t.readData = s.reg (F.PMC_CTR.COUNT (2 * j)).off) ∧
      t.pmcView m (F.PMC_CTR.COUNT (2 * j + 1)).off = s.reg (F.PMC_CTR.COUNT (2 * j + 1)).off ∧
      t = { s with regs := t.regs, readData := t.readData, pmc := { s.pmc with latch := t.pmc.latch } } ∧
      (∀ o, t.reg o = s.reg o) := by
  subst ht
  refine ⟨rfl, fun hodd => ?_, ?_, rfl, fun o => ?_⟩
  · exact s.pmcView_unlatched m _ (fun e he h => by
      have := hodd e he
      simp only at h
      omega)
  · have hplace : 64 * latchPlace m + ((F.PMC_CTR.COUNT (2 * j)).off - 0x230400) / 8 + 1 =
        64 * latchPlace m + ((F.PMC_CTR.COUNT (2 * j + 1)).off - 0x230400) / 8 := by
      simp only
      omega
    have hnext : (F.PMC_CTR.COUNT (2 * j)).off + 8 = (F.PMC_CTR.COUNT (2 * j + 1)).off := by
      simp only
      omega
    have hfind := find_smInsert (s.reg (F.PMC_CTR.COUNT (2 * j + 1)).off).toNat s.pmc.latch
      (64 * latchPlace m + ((F.PMC_CTR.COUNT (2 * j + 1)).off - 0x230400) / 8)
    unfold State.counterRead State.pmcView
    rw [hplace, hnext]
    simp only [hfind, BitVec.ofNat_toNat, BitVec.setWidth_eq]
  · unfold State.counterRead
    rw [State.reg_mk]
    by_cases ho : o = (F.PMC_CTR.COUNT (2 * j)).off
    · rw [ho, State.reg_setReg_same]
    · exact State.reg_setReg_ne _ _ _ _ ho

theorem exec_pmcCtrLowRead {s : State} {m : Master} (j : Fin 32) (n odd : Nat) (t : State)
    (ht : t = (s.pmcUnseen (2 * j) n).pmcUnseen (2 * j + 1) odd) (hs : t.silent m = false)
    (hread : t.readable m (F.PMC_CTR.COUNT (2 * j)).off = true) :
    exec (.pmcCtrLowRead m j .w64 n odd) s = .next (t.counterRead m (F.PMC_CTR.COUNT (2 * j)).off) := by
  subst ht
  show execPmcCtrLowRead m j .w64 n odd s = _
  unfold execPmcCtrLowRead
  simp only
  rw [State.busRead_counter j hs hread]
  rfl

theorem State.pmcUnseen_zero (s : State) (k : Nat) : s.pmcUnseen k 0 = s := by
  unfold State.pmcUnseen
  rw [show s.pmcOwn k 0 = s from by rw [State.pmcOwn_eq, if_neg (fun h => h.1 rfl)], ite_self]

/-- Events of its own that do not wrap a counter. -/
theorem State.pmcOwn_low {s : State} {k n : Nat} (howns : s.pmcOwns k = true) (hsum : s.rd (F.PMC_CTR.COUNT k) + n < 2 ^ 48) :
    ∃ u, s.pmcOwn k n = u ∧ RegsOnly s u ∧ SameSelection s u ∧ u.rd (F.PMC_CTR.COUNT k) = s.rd (F.PMC_CTR.COUNT k) + n ∧
      regsApart [(F.PMC_CTR.COUNT k).off] s u := by
  rw [State.pmcOwn_eq]
  by_cases hn : n = 0
  · subst hn
    refine ⟨s, if_neg (fun h => h.1 rfl), rfl, ⟨rfl, rfl, rfl, fun _ _ _ => rfl⟩, rfl, regsApart_refl⟩
  · refine ⟨_, if_pos ⟨hn, howns⟩, ?_⟩
    rw [State.pmcAdd_low _ _ _ hsum]
    refine ⟨rfl, SameSelection.wrCount _ _ _, ?_, regsApart_wr _ _ regsApart_refl (List.mem_singleton.mpr rfl)⟩
    rw [State.rd_wr_same _ _ _ _ _ (by decide), Nat.mod_eq_of_lt hsum]

theorem State.pmcOwns_unseen {s : State} {k : Nat} (happlies : s.pmcApplies k = true) (hruns : s.pmcRuns k = true)
    (hchain : s.selBit (F.PMC_SEL.CHAIN k) k = false) (hunseen : Machine.pmcUnseen (s.selRd (F.PMC_SEL.EVENT k) k) = true) :
    s.pmcOwns k = true := by
  have hevent : s.selRd (F.PMC_SEL.EVENT k) k ≠ 0 := fun h => by
    rw [h] at hunseen
    exact absurd hunseen (by decide)
  simp [State.pmcOwns, happlies, hruns, hchain, hevent]

/-- A master reads the same counters when PMC_USER_READ is as it was. -/
theorem State.readable_counter {s t : State} (m : Master) (k : Nat) (hk : k < 64) (hmask : t.reg 0x230010 = s.reg 0x230010) :
    t.readable m (F.PMC_CTR.COUNT k).off = s.readable m (F.PMC_CTR.COUNT k).off := by
  unfold State.readable
  cases m with
  | docentU c =>
    dsimp only
    rw [if_neg (by omega), if_pos (by simp only [Bool.and_eq_true, decide_eq_true_eq]; omega), if_neg (by omega),
      if_pos (by simp only [Bool.and_eq_true, decide_eq_true_eq]; omega)]
    unfold State.rd
    rw [hmask]
  | _ => rfl

/-- Settles O57: the count written and its own events, the wrap, the selection and the freeze kept for their cycle, and the
latched read. -/
theorem countersAreWrittenFrozenAndRead : Obligations.CountersAreWrittenFrozenAndRead := by
  unfold Obligations.CountersAreWrittenFrozenAndRead
  refine ⟨fun s m k upper v events n hserves hn hsum => ⟨_, exec_pmcCtrWrite .w64 upper v events hserves, ?_⟩,
    fun s m j k upper v events kf hk hkf hserves hchain => ⟨_, exec_pmcCtrWrite .w64 upper v events (by rw [hkf]; exact hserves), ?_⟩,
    fun s m k upper v events hserves hidle => ⟨_, exec_pmcCtrWrite .w32 upper v events hserves, ?_⟩,
    fun s m k v events hserves hruns hchain hevent happlies hlow hhigh => ⟨_, exec_pmcCtrWrite .w64 false v events hserves, ?_⟩,
    fun s m k v hserves => ⟨_, exec_pmcSelWrite v hserves, ?_⟩,
    fun s m v hserves => ⟨_, exec_pmcFreeze v hserves, ?_⟩,
    fun s m j hs hread => ⟨_, exec_pmcCtrLowRead j 0 0 s (by rw [State.pmcUnseen_zero, State.pmcUnseen_zero]) hs hread, ?_⟩,
    fun s m j n hs happlies hread hruns hchain hunseen hsum => ?_,
    fun s k hruns happlies hchain hunseen => ⟨_, rfl, ?_⟩⟩
  · have hsel := SameSelection.pmcWritten s k .w64 upper v
    have hcount := s.pmcWritten_count_wide k upper v
    have howns := hsel.pmcOwns k (by omega)
    have hregs : regsApart [(F.PMC_CTR.COUNT k).off] s (s.pmcWritten k .w64 upper v) :=
      regsApart_wr _ _ regsApart_refl (List.mem_singleton.mpr rfl)
    change n = (if s.pmcOwns k = true then events else 0) at hn
    cases h : s.pmcOwns k with
    | false =>
      rw [h, if_neg (by decide)] at hn
      rw [State.pmcOwn_idle _ (howns.trans h), hn]
      exact ⟨hcount, rfl, hregs⟩
    | true =>
      rw [h, if_pos rfl] at hn
      obtain ⟨u, hu, honly, -, hc, hr⟩ := State.pmcOwn_low (n := events) (howns.trans h) (by rw [hcount, ← hn]; exact hsum)
      rw [hu]
      exact ⟨by rw [hc, hcount, hn], RegsOnly.trans (show RegsOnly s (s.pmcWritten k .w64 upper v) from rfl) honly, regsApart_trans hregs hr⟩
  · have hidle : s.pmcOwns kf = false := by
      unfold State.pmcOwns
      rw [hkf, hchain]
      simp
    rw [State.pmcOwn_idle _ (((SameSelection.pmcWritten s kf .w64 upper v).pmcOwns kf (by omega)).trans hidle), ← hkf]
    refine ⟨s.pmcWritten_count_wide kf upper v, ?_, rfl, regsApart_wr _ _ regsApart_refl (List.mem_singleton.mpr rfl)⟩
    rw [show (s.pmcWritten kf .w64 upper v).rd F.PMC_OVF.OVF = s.rd F.PMC_OVF.OVF from State.rd_wr_off _ _ _ _ _ _ _ _ (by omega)]
    rfl
  · rw [State.pmcOwn_idle _ (((SameSelection.pmcWritten s k .w32 upper v).pmcOwns k (by omega)).trans hidle)]
    exact ⟨s.pmcWritten_count_half k upper v, rfl, regsApart_wr _ _ regsApart_refl (List.mem_singleton.mpr rfl)⟩
  · have hsel := SameSelection.pmcWritten s k .w64 false v
    have hcount := s.pmcWritten_count_wide k false v
    have howns : s.pmcOwns k = true := by simp [State.pmcOwns, hruns, hchain, hevent, happlies]
    have hregs : regsApart [(F.PMC_CTR.COUNT k).off] s (s.pmcWritten k .w64 false v) :=
      regsApart_wr _ _ regsApart_refl (List.mem_singleton.mpr rfl)
    have hovf : (s.pmcWritten k .w64 false v).rd F.PMC_OVF.OVF = s.rd F.PMC_OVF.OVF := State.rd_wr_off _ _ _ _ _ _ _ _ (by omega)
    have hnext : (s.pmcWritten k .w64 false v).rd (F.PMC_CTR.COUNT (k + 1)) = s.rd (F.PMC_CTR.COUNT (k + 1)) :=
      State.rd_wr_off _ _ _ _ _ _ _ _ (by omega)
    obtain ⟨h1, h2, h3, h4, h5⟩ := State.pmcAdd_wrap_spec (s.pmcWritten k .w64 false v) k events (v.toNat % 2 ^ 48 + events) k.isLt
      (by rw [hcount]) (by omega) _ rfl
    have howned : (s.pmcWritten k .w64 false v).pmcOwn k events = (s.pmcWritten k .w64 false v).pmcAdd k events := by
      rw [State.pmcOwn_eq]
      exact if_pos ⟨by omega, (hsel.pmcOwns k (by omega)).trans howns⟩
    rw [howned]
    rw [hovf] at h2
    rw [hsel.selBit _ k (by omega)] at h3
    rw [hsel.pmcChained _ (by omega), hsel.pmcRuns _ (by omega), hnext] at h4
    refine ⟨h1, h2, ?_, h4, regsApart_trans (regsApart_mono hregs (by simp)) h5⟩
    generalize (s.pmcWritten k .w64 false v).pmcAdd k events = t at h3
    rw [h3]
    rfl
  · refine ⟨State.reg_setReg_same _ _ _, ?_, rfl, ?_⟩
    · rw [State.selWritten_selNow, State.selWritten_pmcRuns _ _ _ k.isLt]
    · unfold State.selWritten
      exact regsApart_setReg _ _ (regsApart_regs regsApart_refl rfl) (List.mem_singleton.mpr rfl)
  · have hctl : ∀ f x, (s.ctlKept.wr f x).ctlNow = s.ctlNow := fun f x => if_pos rfl
    have hkept : ∀ f, s.ctlKept.rd f = s.rd f := fun f => State.rd_of_regs _ _ rfl f
    have hregs : ∀ f x, f.off = 0x230000 → regsApart [F.PMC_CTL.FREEZE.off] s (s.ctlKept.wr f x) := fun f x hf =>
      regsApart_wr _ _ (regsApart_regs regsApart_refl rfl) (by rw [hf]; exact List.mem_singleton.mpr rfl)
    split
    · refine ⟨⟨State.rd_wr_same _ _ _ _ _ (by decide), ?_⟩, hctl _ _, rfl, hregs _ _ rfl⟩
      rw [State.rd_wr_apart _ _ _ _ _ _ _ (by decide), hkept]
    · refine ⟨⟨State.rd_wr_same _ _ _ _ _ (by decide), ?_⟩, hctl _ _, rfl, hregs _ _ rfl⟩
      rw [State.rd_wr_apart _ _ _ _ _ _ _ (by decide), hkept]
  · obtain ⟨hdata, hodd, hview, hparts, hregs⟩ := s.counterRead_spec m j j.isLt _ rfl
    exact ⟨hdata, hodd, hview, hparts, fun o _ => hregs o⟩
  · obtain ⟨u, hu, honly, hsel, hcount, hregs⟩ := State.pmcOwn_low (State.pmcOwns_unseen happlies hruns hchain hunseen) hsum
    have hu' : (s.pmcUnseen (2 * j) n).pmcUnseen (2 * j + 1) 0 = u := by
      rw [State.pmcUnseen_zero]
      unfold State.pmcUnseen
      rw [if_pos hunseen, hu]
    have hout : ∀ o, o < 0x230400 → u.reg o = s.reg o := fun o ho => hregs o (by simp only [List.mem_singleton]; omega)
    obtain ⟨hdata, hodd, -, hparts, hkeeps⟩ := u.counterRead_spec m j j.isLt _ rfl
    have hpmc : u.pmc = s.pmc := by rw [honly]
    refine ⟨_, exec_pmcCtrLowRead j n 0 u hu'.symm (by rw [State.silent_of_reg m (hout _ (by decide)) (hout _ (by decide)), hs])
      (by rw [State.readable_counter m (2 * j) (by omega) (hout _ (by decide)), hread]), ?_, fun h => ?_, ?_, fun o ho => ?_⟩
    · unfold State.rd
      rw [hkeeps]
      exact hcount
    · rw [hkeeps]
      exact hodd (by rw [hpmc]; exact h)
    · generalize u.counterRead m (F.PMC_CTR.COUNT (2 * j)).off = t at hparts
      rw [hparts, honly]
    · rw [hkeeps]
      exact hregs o ho
  · have hcount := State.rd_lt s (F.PMC_CTR.COUNT k)
    simp only at hcount
    have howns := State.pmcOwns_unseen happlies hruns hchain hunseen
    obtain ⟨h1, h2, h3, -, h5⟩ := State.pmcAdd_wrap_spec s k (2 ^ 48 - s.rd (F.PMC_CTR.COUNT k)) (2 ^ 48) k.isLt
      (by omega) (by norm_num) _ rfl
    have hwrap : s.pmcUnseen k (2 ^ 48 - s.rd (F.PMC_CTR.COUNT k)) = s.pmcAdd k (2 ^ 48 - s.rd (F.PMC_CTR.COUNT k)) := by
      unfold State.pmcUnseen
      rw [if_pos hunseen, State.pmcOwn_eq]
      exact if_pos ⟨by omega, howns⟩
    rw [hwrap]
    exact ⟨h1, h2, h3, h5⟩

end Sys2Proof.Machine
end

section
/-! SUPPORT. Precise sampling (R372, R373). -/
namespace Sys2Proof.Machine

/-! ### Samples -/

/-- Whether a core's events are sampled. -/
def State.sampleOn (s : State) (core latency : Nat) : Bool :=
  s.bit F.PMC_SAMPLE_CFG.ENABLE && s.rd F.PMC_SAMPLE_CFG.CORES / 2 ^ core % 2 = 1
    && s.rd F.PMC_SAMPLE_CFG.PERIOD ≠ 0 && s.coreOn core && s.rd F.DOC_STATUS.STATE = 1 && s.sampleEvent latency

/-- The events that a sampled core has counted. -/
def State.withCount (s : State) (core n : Nat) : State :=
  { s with pmc := { s.pmc with counts := smSet (fun _ => 0) s.pmc.counts core n } }

theorem State.withCount_counts (s : State) (core n c : Nat) :
    smGet (fun _ => 0) (s.withCount core n).pmc.counts c = if c = core then n else smGet (fun _ => 0) s.pmc.counts c := by
  split
  · next h =>
    subst h
    exact smGet_smSet_same _ _ _ _
  · next h => exact smGet_smSet_ne _ _ _ _ _ h

@[simp] theorem State.rd_withCount (s : State) (core n : Nat) (f : Field) : (s.withCount core n).rd f = s.rd f :=
  State.rd_of_regs _ _ rfl f

@[simp] theorem regsApart_withCount {l : List Nat} (s : State) (core n : Nat) : regsApart l s (s.withCount core n) :=
  regsApart_regs regsApart_refl rfl

theorem State.sampleUnread_withCount (s : State) (core n : Nat) : (s.withCount core n).sampleUnread = s.sampleUnread := by
  unfold State.sampleUnread
  rw [State.rd_withCount, State.rd_withCount]

section
variable {s : State} {core : Fin 8} {pc : BitVec 64} {opcode : BitVec 32} {latency events : Nat} {user freed : Bool}

theorem exec_pmcSampleTaken_off (h : s.sampleOn core latency = false) :
    exec (.pmcSampleTaken core pc opcode latency ⟨events, user, freed⟩) s = .next s := by
  show execPmcSampleTaken core pc opcode latency _ s = _
  unfold State.sampleOn at h
  simp only [execPmcSampleTaken, h, Bool.not_false, if_true, done]

theorem exec_pmcSampleTaken_counted (h : s.sampleOn core latency = true)
    (hn : smGet (fun _ => 0) s.pmc.counts core + events < s.rd F.PMC_SAMPLE_CFG.PERIOD) :
    exec (.pmcSampleTaken core pc opcode latency ⟨events, user, freed⟩) s =
      .next (s.withCount core (smGet (fun _ => 0) s.pmc.counts core + events)) := by
  show execPmcSampleTaken core pc opcode latency _ s = _
  unfold State.sampleOn at h
  simp only [execPmcSampleTaken, h, Bool.not_true, Bool.false_eq_true, if_false, hn, if_true, done]
  rfl

theorem exec_pmcSampleTaken_lost (h : s.sampleOn core latency = true)
    (hn : s.rd F.PMC_SAMPLE_CFG.PERIOD ≤ smGet (fun _ => 0) s.pmc.counts core + events) (hfull : 512 ≤ s.sampleUnread) :
    exec (.pmcSampleTaken core pc opcode latency ⟨events, user, false⟩) s =
      .next ({ s.withCount core 0 with pmc := { (s.withCount core 0).pmc with lost := true } }.incSat F.PMC_SAMPLE_STATUS.LOST) := by
  have hunread := s.sampleUnread_withCount core 0
  show execPmcSampleTaken core pc opcode latency _ s = _
  unfold State.sampleOn at h
  unfold State.withCount at hunread ⊢
  simp only [execPmcSampleTaken, h, Bool.not_true, Bool.false_eq_true, if_false, Nat.not_lt.mpr hn, hunread, hfull, decide_true,
    Bool.not_false, Bool.and_self, if_true, done]

/-- The record written at NEXT, and NEXT advanced. -/
def State.sampled (s : State) (core pc opcode latency : Nat) (user : Bool) : State :=
  { s with pmc := { s.pmc with
    ring := memWrite s.pmc.ring (16 * (s.rd F.PMC_SAMPLE_STATUS.NEXT % 512)) (s.sampleRecord core pc opcode latency user)
    lost := false } }.wr F.PMC_SAMPLE_STATUS.NEXT (s.rd F.PMC_SAMPLE_STATUS.NEXT + 1)

theorem exec_pmcSampleTaken_taken (h : s.sampleOn core latency = true)
    (hn : s.rd F.PMC_SAMPLE_CFG.PERIOD ≤ smGet (fun _ => 0) s.pmc.counts core + events) (hroom : s.sampleUnread < 512) (t : State)
    (ht : t = (s.withCount core 0).sampled core pc.toNat opcode.toNat latency user) :
    exec (.pmcSampleTaken core pc opcode latency ⟨events, user, freed⟩) s =
      .next (if t.rd F.PMC_SAMPLE_CFG.WATERMARK ≠ 0 ∧ t.sampleUnread = t.rd F.PMC_SAMPLE_CFG.WATERMARK then
        { t with pmc := { t.pmc with irqs := t.pmc.irqs + 1 } } else t) := by
  have hunread := s.sampleUnread_withCount core 0
  show execPmcSampleTaken core pc opcode latency _ s = _
  unfold State.sampleOn at h
  subst ht
  unfold State.sampled State.withCount at *
  simp only [execPmcSampleTaken, h, Bool.not_true, Bool.false_eq_true, if_false, Nat.not_lt.mpr hn, hunread, Nat.not_le.mpr hroom,
    decide_false, Bool.false_and, Bool.and_eq_true, decide_eq_true_eq, done]

end

theorem State.sampleRecord_withCount (s : State) (c n core pc opcode latency : Nat) (user : Bool) :
    (s.withCount c n).sampleRecord core pc opcode latency user = s.sampleRecord core pc opcode latency user := by
  unfold State.sampleRecord
  rw [State.rd_withCount]
  rfl

theorem State.length_sampleRecord (s : State) (core pc opcode latency : Nat) (user : Bool) :
    (s.sampleRecord core pc opcode latency user).length = 16 := by
  simp [State.sampleRecord]

/-- What a sample taken leaves: its record and NEXT; WATERMARK and the unread records follow. -/
theorem State.sampled_spec (s : State) (core pc opcode latency : Nat) (user : Bool) (t : State)
    (ht : t = s.sampled core pc opcode latency user) (hroom : s.sampleUnread < 512) :
    memRead t.pmc.ring (16 * (s.rd F.PMC_SAMPLE_STATUS.NEXT % 512)) 16 = s.sampleRecord core pc opcode latency user ∧
      t.rd F.PMC_SAMPLE_STATUS.NEXT = (s.rd F.PMC_SAMPLE_STATUS.NEXT + 1) % 2 ^ 32 ∧
      (∀ x, x < 16 * (s.rd F.PMC_SAMPLE_STATUS.NEXT % 512) ∨ 16 * (s.rd F.PMC_SAMPLE_STATUS.NEXT % 512) + 16 ≤ x →
        smGet byteDefault t.pmc.ring x = smGet byteDefault s.pmc.ring x) ∧
      t = { s with regs := t.regs, pmc := { s.pmc with ring := t.pmc.ring, lost := false } } ∧
      regsApart [F.PMC_SAMPLE_STATUS.NEXT.off] s t ∧
      t.rd F.PMC_SAMPLE_CFG.WATERMARK = s.rd F.PMC_SAMPLE_CFG.WATERMARK ∧ t.sampleUnread = s.sampleUnread + 1 := by
  have hlen := s.length_sampleRecord core pc opcode latency user
  subst ht
  refine ⟨memRead_memWrite_of_length _ _ _ _ hlen, State.rd_wr_same _ _ _ _ _ (by decide),
    fun x hx => smGet_memWrite_outside _ _ _ _ (by rw [hlen]; exact hx), rfl, ?_, ?_, ?_⟩
  · exact regsApart_wr _ _ (regsApart_regs regsApart_refl rfl) (List.mem_singleton.mpr rfl)
  · unfold State.sampled
    rw [State.rd_wr_off _ _ _ _ _ _ _ _ (by decide), State.rd_pmc]
  · have hnext : (s.sampled core pc opcode latency user).rd F.PMC_SAMPLE_STATUS.NEXT =
        (s.rd F.PMC_SAMPLE_STATUS.NEXT + 1) % 2 ^ 32 := State.rd_wr_same _ _ _ _ _ (by decide)
    have hack : (s.sampled core pc opcode latency user).rd F.PMC_SAMPLE_ACK.INDEX = s.rd F.PMC_SAMPLE_ACK.INDEX := by
      unfold State.sampled
      rw [State.rd_wr_off _ _ _ _ _ _ _ _ (by decide), State.rd_pmc]
    have h1 := State.rd_lt s F.PMC_SAMPLE_STATUS.NEXT
    have h2 := State.rd_lt s F.PMC_SAMPLE_ACK.INDEX
    unfold State.sampleUnread at hroom ⊢
    rw [hnext, hack]
    simp only at h1 h2
    omega

/-! ### Acknowledgements -/

theorem State.halfWrite_acts (s : State) (off : Nat) (h : HalfWrite) (act : Word → State → State) (hact : (h.wide || h.upper) = true) :
    s.halfWrite off h act = act (halfOver h (s.halfReg off)) { s with halves := smErase s.halves off } := by
  unfold State.halfWrite
  rw [if_pos hact]

theorem State.halfWrite_stages (s : State) (off : Nat) (x : Word) (act : Word → State → State) :
    s.halfWrite off ⟨false, false, x⟩ act =
      { s with halves := smSet halfNone s.halves off (halfOver ⟨false, false, x⟩ (s.halfReg off)).toNat } := rfl

/-- A staged lower half keeps the upper one. -/
theorem halfOver_lower (x old : Word) : (halfOver ⟨false, false, x⟩ old).toNat % 2 ^ 32 = x.toNat % 2 ^ 32 := by
  have := old.isLt
  unfold halfOver
  simp only [Bool.false_eq_true, if_false, BitVec.toNat_ofNat]
  omega

/-- A saturating counter after one more event. -/
theorem State.rd_incSat (s : State) (o l w : Nat) (h : l + w ≤ 64) :
    (s.incSat ⟨o, l, w⟩).rd ⟨o, l, w⟩ = min (s.rd ⟨o, l, w⟩ + 1) (2 ^ w - 1) := by
  have hpos : 0 < 2 ^ w := Nat.two_pow_pos w
  unfold State.incSat State.addSat
  rw [State.rd_wr_same _ _ _ _ _ h, Nat.mod_eq_of_lt (by simp only; omega)]

theorem RegsOnly.incSat (s : State) (f : Field) : RegsOnly s (s.incSat f) := rfl

/-- Settles O58: a sample by what the core has counted and what is free; the acknowledgement whole and by its lower half. -/
theorem samplesAreTakenAndFreed : Obligations.SamplesAreTakenAndFreed := by
  unfold Obligations.SamplesAreTakenAndFreed
  have hon : ∀ (s : State) (core : Fin 8) (latency : Nat), s.bit F.PMC_SAMPLE_CFG.ENABLE = true →
      s.rd F.PMC_SAMPLE_CFG.CORES / 2 ^ core.val % 2 = 1 → s.rd F.PMC_SAMPLE_CFG.PERIOD ≠ 0 → s.rd F.DOC_STATUS.STATE = 1 →
      s.coreOn core = true → s.sampleEvent latency = true → s.sampleOn core latency = true :=
    fun s core latency h1 h2 h3 h4 h5 h6 => by simp [State.sampleOn, h1, h2, h3, h4, h5, h6]
  refine ⟨fun s core pc opcode latency events user freed h1 h2 h3 h4 h5 h6 hn hroom =>
      ⟨_, exec_pmcSampleTaken_taken (hon s core latency h1 h2 h3 h4 h5 h6) hn hroom _ rfl, ?_⟩,
    fun s core pc opcode latency events user h1 h2 h3 h4 h5 h6 hn hfull =>
      ⟨_, exec_pmcSampleTaken_lost (hon s core latency h1 h2 h3 h4 h5 h6) hn hfull, ?_⟩,
    fun s core pc opcode latency events user freed h1 h2 h4 h5 h6 hn =>
      ⟨_, exec_pmcSampleTaken_counted (hon s core latency h1 h2 (by omega) h4 h5 h6) hn, ?_, rfl⟩,
    fun s core pc opcode latency events user freed h => ⟨_, exec_pmcSampleTaken_off ?_, rfl⟩,
    fun s m h v i hserves hact hv hi => ?_,
    fun s m x hserves => ?_⟩
  · have hunread := s.sampleUnread_withCount core 0
    obtain ⟨hrec, hnext, hout, hparts, hregs, hmark, hup⟩ :=
      (s.withCount core 0).sampled_spec core pc.toNat opcode.toNat latency user _ rfl (by rw [hunread]; exact hroom)
    have hcounts := fun c => s.withCount_counts core 0 c
    generalize (s.withCount core 0).sampled core pc.toNat opcode.toNat latency user = t at *
    rw [State.sampleRecord_withCount, State.rd_withCount] at hrec
    rw [State.rd_withCount] at hnext hmark
    simp only [State.rd_withCount] at hout
    rw [hup, hmark, hunread]
    have hring : (s.withCount core 0).pmc.ring = s.pmc.ring := rfl
    have hpmc : t.pmc = { s.pmc with ring := t.pmc.ring, counts := (s.withCount core 0).pmc.counts, lost := false } := by
      rw [hparts]
      rfl
    have hirqs : ∀ c : Prop, [Decidable c] → (if c then ({ t with pmc := { t.pmc with irqs := t.pmc.irqs + 1 } } : State) else t) =
        { t with pmc := { t.pmc with irqs := t.pmc.irqs + (if c then 1 else 0) } } := fun c _ => by
      by_cases hc : c
      · rw [if_pos hc, if_pos hc]
      · rw [if_neg hc, if_neg hc]
        rfl
    rw [hirqs]
    refine ⟨hrec, by rw [State.rd_pmc]; exact hnext, ?_, fun x hx => ?_, fun c => ?_, ?_, ?_⟩
    · rw [hpmc]
    · rw [← hring]
      exact hout x hx
    · rw [← hcounts c, hpmc]
    · rw [hpmc]
      conv_lhs => rw [hparts]
      rfl
    · rw [regsApart_mk]
      exact regsApart_trans (regsApart_withCount _ _ _) hregs
  · refine ⟨?_, ?_, s.withCount_counts core 0, ?_⟩
    · exact State.rd_incSat _ _ _ _ (by decide)
    · have honly := RegsOnly.incSat { s.withCount core 0 with pmc := { (s.withCount core 0).pmc with lost := true } }
        F.PMC_SAMPLE_STATUS.LOST
      generalize State.incSat _ _ = t at honly ⊢
      rw [honly]
      rfl
    · unfold State.incSat State.addSat
      refine regsApart_wr _ _ ?_ (List.mem_singleton.mpr rfl)
      rw [regsApart_mk]
      exact regsApart_withCount _ _ _
  · intro c
    rw [State.withCount_counts]
    split
    · next hc => rw [hc]
    · rfl
  · unfold State.sampleOn
    rcases h with h | h | h | h | h | h <;> simp [h]
  · have hexec : exec (.pmcSampleAck m h) s = .next (if (i + 2 ^ 32 - s.rd F.PMC_SAMPLE_ACK.INDEX) % 2 ^ 32 ≤ s.sampleUnread then
        ({ s with halves := smErase s.halves F.PMC_SAMPLE_ACK.INDEX.off } : State).wr F.PMC_SAMPLE_ACK.INDEX i
        else { s with halves := smErase s.halves F.PMC_SAMPLE_ACK.INDEX.off }) := by
      subst hv hi
      show execPmcSampleAck m h s = _
      unfold execPmcSampleAck
      rw [State.gated_serves _ _ _ _ hserves, State.halfWrite_acts _ _ _ _ hact]
      rfl
    refine ⟨_, hexec, ?_, ?_, ?_⟩
    · split
      · rw [State.rd_wr_same _ _ _ _ _ (by decide)]
        omega
      · exact State.rd_halves _ _ _
    · split <;> rfl
    · split
      · exact regsApart_wr _ _ (regsApart_regs regsApart_refl rfl) (List.mem_singleton.mpr rfl)
      · exact regsApart_regs regsApart_refl rfl
  · have hexec : exec (.pmcSampleAck m ⟨false, false, x⟩) s = .next { s with
        halves := smSet halfNone s.halves F.PMC_SAMPLE_ACK.INDEX.off (halfOver ⟨false, false, x⟩ (s.halfReg F.PMC_SAMPLE_ACK.INDEX.off)).toNat } := by
      show execPmcSampleAck m _ s = _
      unfold execPmcSampleAck
      rw [State.gated_serves _ _ _ _ hserves, State.halfWrite_stages]
      rfl
    refine ⟨_, hexec, ?_, rfl⟩
    rw [State.halfReg_staged s _ _ _ rfl, halfOver_lower]

end Sys2Proof.Machine
end

section
/-! SUPPORT. A read of a check-value unit's register by a Docent core in U-mode (R353, R402). -/
namespace Sys2Proof.Machine

/-- Core 0 in service, with unit 0 open to programs in U-mode. -/
def State.unitOpen : State := (State.reset.wr F.DOC_CFG.CORES 1).wr (F.CRC_U_CFG.USER 0) 1

/-- The command judges a U-mode read by register 0x0, whatever register of the unit it names: its offset is computed among the
numbers of the four units. The read of CRC_U0_STATE, which the core may make, is refused. -/
theorem exec_crcResultRead_unitOpen :
    exec (.crcResultRead (.docentU 0) 0 true) State.unitOpen = .next (State.unitOpen.refuseRead (.docentU 0) 0) := by
  have hs : State.unitOpen.silent (.docentU 0) = false := by decide +kernel
  have hread : State.unitOpen.readable (.docentU 0) 0 = false := by decide +kernel
  show execCrcResultRead (.docentU 0) 0 true State.unitOpen = _
  simp [execCrcResultRead, hs, hread, done]

/-- Refutes O53: a Docent program in U-mode may read CRC_U0_STATE of a unit that is open to it, but the command judges the read
by another offset and refuses it, so that the core traps. -/
theorem not_theCheckValueUnitsAreClaimedAndFed : ¬ Obligations.TheCheckValueUnitsAreClaimedAndFed := by
  unfold Obligations.TheCheckValueUnitsAreClaimedAndFed
  rintro ⟨-, -, -, -, -, -, -, -, -, -, -, hread, -⟩
  obtain ⟨t, ht, -, -, -, -, hframe, -⟩ := hread State.unitOpen (.docentU 0) 0 true (by decide +kernel) (by decide +kernel)
  rw [exec_crcResultRead_unitOpen] at ht
  have htrap : (State.unitOpen.refuseRead (.docentU 0) 0).docTrap = State.unitOpen.docTrap := by
    injection ht with ht
    rw [ht, hframe]
  exact absurd htrap (by decide +kernel)

end Sys2Proof.Machine
end

section
/-! SUPPORT. Records put into the ring of the Accession Log, one or several (R357, R359, R361): the ring and NEXT; the fields that
other units read stay. -/
namespace Sys2Proof.Machine

theorem LogParts.trans {s t u : State} (h : LogParts s t) (h' : LogParts t u) : LogParts s u := by
  obtain ⟨_, _, _, _, _, _, _, _, _, rfl⟩ := h
  obtain ⟨_, _, _, _, _, _, _, _, _, rfl⟩ := h'
  exact ⟨_, _, _, _, _, _, _, _, _, rfl⟩

/-- Registers that a record put into the ring writes: ACL_STATUS, ACL_ERR, ACL_COUNTS and the pending bit of source 23. -/
def putRegs : List Nat := [0x220018, 0x220028, 0x220030, 0x2002B8]

/-- Records put into the ring in order. -/
structure Put (rs : List AclRec) (s t : State) : Prop where
  parts : LogParts s t
  ring : s.acl.ring.length ≤ 8192 → t.acl.ring = (rs.reverse ++ s.acl.ring).take 8192
  acl : t.acl = { s.acl with ring := t.acl.ring, copyLost := t.acl.copyLost }
  kept : s.acl.ring.length + rs.length ≤ 8192 → t.acl.copyLost = s.acl.copyLost
  next : t.rd F.ACL_STATUS.NEXT = (s.rd F.ACL_STATUS.NEXT + rs.length) % 2 ^ 32
  held : s.rd F.ACL_STATUS.HELD = s.acl.ring.length → t.rd F.ACL_STATUS.HELD = t.acl.ring.length
  status : ∀ l w, 46 ≤ l → t.rd ⟨0x220018, l, w⟩ = s.rd ⟨0x220018, l, w⟩
  err : ∀ l w, l + w ≤ 3 ∨ 4 ≤ l → t.rd ⟨0x220028, l, w⟩ = s.rd ⟨0x220028, l, w⟩
  counts : ∀ l w, l + w ≤ 16 ∨ 32 ≤ l → t.rd ⟨0x220030, l, w⟩ = s.rd ⟨0x220030, l, w⟩
  regs : regsApart putRegs s t

namespace Put

theorem refl (s : State) : Put [] s s where
  parts := ⟨_, _, _, _, _, _, _, _, _, rfl⟩
  ring h := (List.take_of_length_le h).symm
  acl := rfl
  kept _ := rfl
  next := (Nat.mod_eq_of_lt (State.rd_lt s F.ACL_STATUS.NEXT)).symm
  held h := h
  status _ _ _ := rfl
  err _ _ _ := rfl
  counts _ _ _ := rfl
  regs := regsApart_refl

variable {rs rs' : List AclRec} {s t u : State}

theorem length_ring (h : Put rs s t) (hs : s.acl.ring.length ≤ 8192) :
    t.acl.ring.length = min 8192 (rs.length + s.acl.ring.length) := by
  rw [h.ring hs, List.length_take, List.length_append, List.length_reverse]

theorem trans (h : Put rs s t) (h' : Put rs' t u) : Put (rs ++ rs') s u where
  parts := h.parts.trans h'.parts
  ring hs := by
    have ht := h.length_ring hs
    rw [h'.ring (by omega), h.ring hs, List.reverse_append, List.append_assoc, List.take_append,
      List.take_append (l₁ := rs'.reverse), List.take_take, Nat.min_eq_left (Nat.sub_le _ _)]
  acl := by rw [h'.acl, h.acl]
  kept hs := by
    rw [List.length_append] at hs
    have ht := h.length_ring (by omega)
    rw [h'.kept (by omega), h.kept (by omega)]
  next := by
    rw [h'.next, h.next, List.length_append]
    omega
  held hs := h'.held (h.held hs)
  status l w hl := (h'.status l w hl).trans (h.status l w hl)
  err l w hl := (h'.err l w hl).trans (h.err l w hl)
  counts l w hl := (h'.counts l w hl).trans (h.counts l w hl)
  regs := regsApart_trans h.regs h'.regs

end Put

/-- What follows the position in a record's way into the ring: the copy to the twin and the interrupt. -/
def State.putTold (s : State) (r : AclRec) : State :=
  let s := if s.bit F.TWN_CFG.MODE && r.node % 2 ^ 14 = s.rd F.TIM_CFG.NODE_ID then
      s.iklSend 7 0x40 (leBytes 2 2 ++ leBytes 4 r.index) r.bytes
    else s
  if s.bit F.ACL_CTL.IRQ_EN then s.announce 4 23 else s

theorem State.putTold_reg (s : State) (r : AclRec) (o : Nat) (ho : o ≠ 0x2002B8) : (s.putTold r).reg o = s.reg o := by
  have htell : ∀ u : State, (if u.bit F.ACL_CTL.IRQ_EN then u.announce 4 23 else u).reg o = u.reg o := fun u => by
    split
    · unfold State.announce
      rw [State.source_eq _ _ (by decide), State.vector_eq _ _ (by decide), State.reg_wr_off _ _ _ _ _ _ ho, State.reg_mk]
    · rfl
  unfold State.putTold
  rw [htell]
  split
  · exact State.iklSend_reg _ _ _ _ _ _
  · rfl

theorem State.putTold_acl (s : State) (r : AclRec) : (s.putTold r).acl = s.acl := by
  have htell : ∀ u : State, (if u.bit F.ACL_CTL.IRQ_EN then u.announce 4 23 else u).acl = u.acl := fun u => by
    split
    · unfold State.announce
      rw [State.source_eq _ _ (by decide), State.vector_eq _ _ (by decide)]
      rfl
    · rfl
  unfold State.putTold
  rw [htell]
  split <;> rfl

/-- The record at the head of the ring, with the loss of one that the copier had not taken. -/
def State.putLost (s : State) (r : AclRec) : State :=
  let lost := 8192 ≤ s.acl.ring.length && s.aclCopyFrom = (s.rd F.ACL_STATUS.NEXT + 2 ^ 32 - 8192) % 2 ^ 32
  let gone := match s.acl.copyLost with
    | some (p, n) => some (p, n + 1)
    | none => some ((s.rd F.ACL_STATUS.NEXT + 2 ^ 32 - 8192) % 2 ^ 32, 1)
  { s with acl := { s.acl with
    ring := (r :: s.acl.ring).take 8192, copyLost := if lost then gone else s.acl.copyLost } }.whenD lost
      (fun s => (s.incSat F.ACL_COUNTS.COPY_LOST).set1 F.ACL_ERR.COPY_LOST)

theorem State.aclPut_eq (s : State) (r : AclRec) : s.aclPut r =
    (((s.putLost r).wr F.ACL_STATUS.NEXT (s.rd F.ACL_STATUS.NEXT + 1)).wr F.ACL_STATUS.HELD (s.putLost r).acl.ring.length).putTold r := rfl

theorem State.putLost_acl (s : State) (r : AclRec) : (s.putLost r).acl.ring = (r :: s.acl.ring).take 8192 ∧
    (s.putLost r).acl = { s.acl with ring := (s.putLost r).acl.ring, copyLost := (s.putLost r).acl.copyLost } ∧
    (s.acl.ring.length < 8192 → (s.putLost r).acl.copyLost = s.acl.copyLost) := by
  unfold State.putLost State.whenD
  extract_lets lost gone
  have hlost : s.acl.ring.length < 8192 → lost = false := fun h => by
    simp only [lost, Bool.and_eq_false_iff, decide_eq_false_iff_not]
    exact .inl (by omega)
  cases h : lost with
  | false => exact ⟨rfl, rfl, fun _ => rfl⟩
  | true => exact ⟨rfl, rfl, fun hlen => absurd (hlost hlen) (by rw [h]; decide)⟩

theorem State.putLost_rd (s : State) (r : AclRec) (o l w : Nat) (herr : o = 0x220028 → l + w ≤ 3 ∨ 4 ≤ l)
    (hcounts : o = 0x220030 → l + w ≤ 16 ∨ 32 ≤ l) : (s.putLost r).rd ⟨o, l, w⟩ = s.rd ⟨o, l, w⟩ := by
  have hflag : ∀ (u : State) v, (u.wr F.ACL_ERR.COPY_LOST v).rd ⟨o, l, w⟩ = u.rd ⟨o, l, w⟩ := fun u v => by
    by_cases ho : o = 0x220028
    · subst ho
      exact State.rd_wr_apart _ _ _ _ _ _ _ (by have := herr rfl; omega)
    · exact State.rd_wr_off _ _ _ _ _ _ _ _ (Ne.symm ho)
  have hcount : ∀ (u : State) v, (u.wr F.ACL_COUNTS.COPY_LOST v).rd ⟨o, l, w⟩ = u.rd ⟨o, l, w⟩ := fun u v => by
    by_cases ho : o = 0x220030
    · subst ho
      exact State.rd_wr_apart _ _ _ _ _ _ _ (by have := hcounts rfl; omega)
    · exact State.rd_wr_off _ _ _ _ _ _ _ _ (Ne.symm ho)
  unfold State.putLost State.whenD
  extract_lets lost gone
  split
  · dsimp only
    rw [State.set1_eq, hflag]
    unfold State.incSat State.addSat
    rw [hcount, State.rd_mk]
  · rw [State.rd_mk]

theorem State.putLost_apart (s : State) (r : AclRec) : regsApart putRegs s (s.putLost r) := by
  unfold State.putLost State.whenD State.incSat State.addSat
  extract_lets lost gone
  split
  · dsimp only
    rw [State.set1_eq]
    exact regsApart_wr _ _ (regsApart_wr _ _ (regsApart_regs regsApart_refl rfl) (by decide)) (by decide)
  · exact regsApart_regs regsApart_refl rfl

theorem State.aclPut_ring (s : State) (r : AclRec) : (s.aclPut r).acl.ring = (r :: s.acl.ring).take 8192 := by
  rw [State.aclPut_eq, State.putTold_acl]
  exact (s.putLost_acl r).1

theorem State.rd_aclPut (s : State) (r : AclRec) (o l w : Nat) (ho : o ≠ 0x2002B8) (hstatus : o = 0x220018 → 46 ≤ l)
    (herr : o = 0x220028 → l + w ≤ 3 ∨ 4 ≤ l) (hcounts : o = 0x220030 → l + w ≤ 16 ∨ 32 ≤ l) :
    (s.aclPut r).rd ⟨o, l, w⟩ = s.rd ⟨o, l, w⟩ := by
  rw [State.aclPut_eq]
  unfold State.rd
  rw [State.putTold_reg _ _ _ ho]
  change (((s.putLost r).wr F.ACL_STATUS.NEXT (s.rd F.ACL_STATUS.NEXT + 1)).wr F.ACL_STATUS.HELD
    (s.putLost r).acl.ring.length).rd ⟨o, l, w⟩ = s.rd ⟨o, l, w⟩
  by_cases h : o = 0x220018
  · have hl := hstatus h
    subst h
    rw [State.rd_wr_apart _ _ _ _ _ _ _ (by omega), State.rd_wr_apart _ _ _ _ _ _ _ (by omega),
      State.putLost_rd _ _ _ _ _ herr hcounts]
  · rw [State.rd_wr_off _ _ _ _ _ _ _ _ (Ne.symm h), State.rd_wr_off _ _ _ _ _ _ _ _ (Ne.symm h),
      State.putLost_rd _ _ _ _ _ herr hcounts]

theorem State.aclPut_next (s : State) (r : AclRec) :
    (s.aclPut r).rd F.ACL_STATUS.NEXT = (s.rd F.ACL_STATUS.NEXT + 1) % 2 ^ 32 := by
  rw [State.aclPut_eq]
  unfold State.rd
  rw [State.putTold_reg _ _ _ (by decide)]
  exact (State.rd_wr_apart _ _ _ _ _ _ _ (by decide)).trans (State.rd_wr_same _ _ _ _ _ (by decide))

theorem State.aclPut_held (s : State) (r : AclRec) : (s.aclPut r).rd F.ACL_STATUS.HELD = (s.aclPut r).acl.ring.length := by
  have hlen : (s.aclPut r).acl.ring.length ≤ 8192 := by
    rw [State.aclPut_ring, List.length_take]
    omega
  rw [State.aclPut_eq, State.putTold_acl] at hlen ⊢
  unfold State.rd
  rw [State.putTold_reg _ _ _ (by decide)]
  exact (State.rd_wr_same _ _ _ _ _ (by decide)).trans (Nat.mod_eq_of_lt (Nat.lt_of_le_of_lt hlen (by decide)))

/-- One record put into the ring. -/
theorem State.aclPut_put (s : State) (r : AclRec) : Put [r] s (s.aclPut r) where
  parts := (s.aclPut_logged r).parts
  ring _ := s.aclPut_ring r
  acl := by
    rw [State.aclPut_eq, State.putTold_acl]
    exact (s.putLost_acl r).2.1
  kept hs := by
    rw [State.aclPut_eq, State.putTold_acl]
    exact (s.putLost_acl r).2.2 hs
  next := s.aclPut_next r
  held _ := s.aclPut_held r
  status l w hl := s.rd_aclPut r _ l w (by decide) (fun _ => hl) (fun h => absurd h (by decide)) (fun h => absurd h (by decide))
  err l w hl := s.rd_aclPut r _ l w (by decide) (fun h => absurd h (by decide)) (fun _ => hl) (fun h => absurd h (by decide))
  counts l w hl := s.rd_aclPut r _ l w (by decide) (fun h => absurd h (by decide)) (fun h => absurd h (by decide)) (fun _ => hl)
  regs o ho := by
    rw [State.aclPut_eq, State.putTold_reg _ _ _ (fun h => ho (by rw [h]; decide)), State.reg_wr_off _ _ _ _ _ _ (fun h => ho (by rw [h]; decide)),
      State.reg_wr_off _ _ _ _ _ _ (fun h => ho (by rw [h]; decide)), s.putLost_apart r o ho]

/-- Records put one after another. -/
theorem State.aclPut_puts (rs : List AclRec) (s : State) : Put rs s (rs.foldl State.aclPut s) := by
  induction rs generalizing s with
  | nil => exact Put.refl s
  | cons r rs ih => exact (s.aclPut_put r).trans (ih _)

end Sys2Proof.Machine
end

section
/-! SUPPORT. The authorised clear of the Accession Log (R363, R364). -/
namespace Sys2Proof.Machine

/-- The holding queue of a state with no record lost, drained. -/
theorem State.aclDrain_lossless (s : State) (hlost : s.acl.lost = 0) : s.aclDrain =
    (s.acl.queue.foldl State.aclPut { s with acl := { s.acl with queue := [], lost := 0 } }).wr F.ACL_STATUS.QUEUED 0 := by
  unfold State.aclDrain State.whenD
  simp only [hlost, Nat.lt_irrefl, decide_false, Bool.false_eq_true, if_false]

theorem State.aclDrain_empty (s : State) (hlost : s.acl.lost = 0) (hqueue : s.acl.queue = []) :
    s.aclDrain = s.wr F.ACL_STATUS.QUEUED 0 := by
  have hs : ({ s with acl := { s.acl with queue := [], lost := 0 } } : State) = s := by rw [← hlost, ← hqueue]
  rw [State.aclDrain_lossless s hlost, hqueue, List.foldl_nil, hs]

/-! ### Challenges and requests -/

/-- The state with a challenge of two values in force. -/
def State.challenged (s : State) (a b : Nat) : State :=
  { (({ s with free := s.free + 2 } : State).wr (F.ACL_CHALLENGE.BYTES 0) a).wr (F.ACL_CHALLENGE.BYTES 1) b with
    acl := { s.acl with challengeOn := true } }

section
variable {s : State} {m : Master}

theorem exec_newChallenge (hserves : s.serves m 0x220090 = true) (t : State)
    (ht : t = s.challenged (Config.freeValue s.free) (Config.freeValue (s.free + 1))) :
    exec (.newChallenge m) s = .next (if s.acl.clearChal.isSome then t else t.wr F.ACL_CLEAR_STATUS.STATE 1) := by
  subst ht
  show execNewChallenge m s = _
  rw [execNewChallenge, State.gated_serves _ _ _ _ hserves]
  rfl

theorem State.challenged_spec (s : State) (a b : Nat) (t : State) (ht : t = s.challenged a b) :
    t.rd (F.ACL_CHALLENGE.BYTES 0) = a % 2 ^ 64 ∧ t.rd (F.ACL_CHALLENGE.BYTES 1) = b % 2 ^ 64 ∧
      t = { s with regs := t.regs, free := s.free + 2, acl := { s.acl with challengeOn := true } } ∧
      regsApart [(F.ACL_CHALLENGE.BYTES 0).off, (F.ACL_CHALLENGE.BYTES 1).off, F.ACL_CLEAR_STATUS.STATE.off] s t := by
  subst ht
  unfold State.challenged
  refine ⟨?_, ?_, rfl, ?_⟩
  · rw [State.rd_mk, State.rd_wr_off _ _ _ _ _ _ _ _ (by decide), State.rd_wr_same _ _ _ _ _ (by decide)]
  · rw [State.rd_mk, State.rd_wr_same _ _ _ _ _ (by decide)]
  · rw [regsApart_mk]
    exact regsApart_wr _ _ (regsApart_wr _ _ (regsApart_regs regsApart_refl rfl) (by decide)) (by decide)

theorem State.voidChallenge_rd (s : State) (o l w : Nat) (ho : o ≠ 0x220040) (ho' : o ≠ 0x220048) :
    s.voidChallenge.rd ⟨o, l, w⟩ = s.rd ⟨o, l, w⟩ := by
  unfold State.voidChallenge
  rw [State.rd_mk, State.rd_wr_off _ _ _ _ _ _ _ _ (Ne.symm ho'), State.rd_wr_off _ _ _ _ _ _ _ _ (Ne.symm ho)]

theorem State.voidChallenge_spec (s : State) : s.voidChallenge.rd (F.ACL_CHALLENGE.BYTES 0) = 0 ∧
    s.voidChallenge.rd (F.ACL_CHALLENGE.BYTES 1) = 0 ∧
    s.voidChallenge = { s with regs := s.voidChallenge.regs, acl := { s.acl with challengeOn := false } } ∧
    regsApart [(F.ACL_CHALLENGE.BYTES 0).off, (F.ACL_CHALLENGE.BYTES 1).off] s s.voidChallenge := by
  unfold State.voidChallenge
  refine ⟨?_, ?_, rfl, ?_⟩
  · rw [State.rd_mk, State.rd_wr_off _ _ _ _ _ _ _ _ (by decide), State.rd_wr_same _ _ _ _ _ (by decide), Nat.zero_mod]
  · rw [State.rd_mk, State.rd_wr_same _ _ _ _ _ (by decide), Nat.zero_mod]
  · rw [regsApart_mk]
    exact regsApart_wr _ _ (regsApart_wr _ _ regsApart_refl (by decide)) (by decide)

theorem State.clearRefused_eq (s : State) (result : Nat) : s.clearRefused result =
    if (s.acl.clearChal.isSome && decide (result = 4)) = true
    then (s.wr F.ACL_ERR.CLEAR_REFUSED 1).wr F.ACL_CLEAR_STATUS.RESULT result
    else ((s.wr F.ACL_ERR.CLEAR_REFUSED 1).wr F.ACL_CLEAR_STATUS.RESULT result).wr F.ACL_CLEAR_STATUS.STATE 3 := rfl

/-- What a refused clear shows. -/
theorem State.clearRefused_spec (s : State) (result : Nat) (hr : result < 16) :
    (s.clearRefused result).rd F.ACL_ERR.CLEAR_REFUSED = 1 ∧ (s.clearRefused result).rd F.ACL_CLEAR_STATUS.RESULT = result ∧
      (s.clearRefused result).rd F.ACL_CLEAR_STATUS.STATE =
        (if (s.acl.clearChal.isSome && decide (result = 4)) = true then s.rd F.ACL_CLEAR_STATUS.STATE else 3) ∧
      RegsOnly s (s.clearRefused result) ∧
      regsApart [F.ACL_CLEAR_STATUS.STATE.off, F.ACL_ERR.CLEAR_REFUSED.off] s (s.clearRefused result) := by
  have hval : result % 2 ^ 4 = result := Nat.mod_eq_of_lt hr
  rw [State.clearRefused_eq]
  by_cases h : (s.acl.clearChal.isSome && decide (result = 4)) = true
  · rw [if_pos h, if_pos h]
    refine ⟨?_, ?_, ?_, rfl, regsApart_wr _ _ (regsApart_wr _ _ regsApart_refl (by decide)) (by decide)⟩
    · rw [State.rd_wr_off _ _ _ _ _ _ _ _ (by decide)]
      exact State.rd_wr_same _ _ _ _ _ (by decide)
    · rw [State.rd_wr_same _ _ _ _ _ (by decide), hval]
    · rw [State.rd_wr_apart _ _ _ _ _ _ _ (by decide), State.rd_wr_off _ _ _ _ _ _ _ _ (by decide)]
  · rw [if_neg h, if_neg h]
    refine ⟨?_, ?_, ?_, rfl, regsApart_wr _ _ (regsApart_wr _ _ (regsApart_wr _ _ regsApart_refl (by decide)) (by decide)) (by decide)⟩
    · rw [State.rd_wr_off _ _ _ _ _ _ _ _ (by decide), State.rd_wr_off _ _ _ _ _ _ _ _ (by decide)]
      exact State.rd_wr_same _ _ _ _ _ (by decide)
    · rw [State.rd_wr_apart _ _ _ _ _ _ _ (by decide), State.rd_wr_same _ _ _ _ _ (by decide), hval]
    · exact State.rd_wr_same _ _ _ _ _ (by decide)

theorem exec_clear_begun (hserves : s.serves m 0x220090 = true) (hnone : s.acl.clearChal = none) (hon : s.acl.challengeOn = true)
    (hfrozen : s.bit F.ACL_STATUS.FROZEN = false) : exec (.clear m) s =
      .next { s.voidChallenge.wr F.ACL_CLEAR_STATUS.STATE 2 with
        acl := { s.voidChallenge.acl with clearChal := some s.challenge } } := by
  have hchal : s.voidChallenge.acl.clearChal = none := hnone
  have hfrozen' : s.voidChallenge.bit F.ACL_STATUS.FROZEN = false := by
    unfold State.bit
    rw [State.voidChallenge_rd _ _ _ _ (by decide) (by decide)]
    exact hfrozen
  show execClear m s = _
  rw [execClear, State.gated_serves _ _ _ _ hserves]
  simp only [hchal, hon, hfrozen', Option.isSome_none, Bool.not_true, Bool.false_eq_true, if_false, done]

theorem exec_clear_refused (hserves : s.serves m 0x220090 = true)
    (h : s.acl.clearChal ≠ none ∨ s.acl.challengeOn = false ∨ s.bit F.ACL_STATUS.FROZEN = true) : exec (.clear m) s =
      .next (s.voidChallenge.clearRefused (if s.acl.clearChal ≠ none then 4 else if s.acl.challengeOn = false then 1 else 3)) := by
  have hchal : s.voidChallenge.acl.clearChal = s.acl.clearChal := rfl
  have hfrozen : s.voidChallenge.bit F.ACL_STATUS.FROZEN = s.bit F.ACL_STATUS.FROZEN := by
    unfold State.bit
    rw [State.voidChallenge_rd _ _ _ _ (by decide) (by decide)]
  show execClear m s = _
  rw [execClear, State.gated_serves _ _ _ _ hserves]
  simp only [hchal, hfrozen, done]
  cases hc : s.acl.clearChal with
  | some chal => simp
  | none =>
    cases ho : s.acl.challengeOn with
    | false => simp
    | true =>
      have hf : s.bit F.ACL_STATUS.FROZEN = true := by simpa [hc, ho] using h
      simp [hf]

end

/-! ### The verification and the tag -/

theorem exec_signatureVerified {s : State} {chal : List Byte} (hchal : s.acl.clearChal = some chal) (hclear : s.acl.clearing = false)
    (t : State) (ht : t = (s.wr (F.ACL_AUTH.TAG 0) (fieldAt (s.clearTag chal) 0 8)).wr (F.ACL_AUTH.TAG 1) (fieldAt (s.clearTag chal) 8 8)) :
    exec .signatureVerified s = .next (if Config.ed25519Verify s.boot.publicKey (s.clearMessage chal) s.clearSig then
      { t with acl := { t.acl with clearing := true } } else s.clearAbandon 2) := by
  have hstep : execSignatureVerified s = if Config.ed25519Verify s.boot.publicKey (s.clearMessage chal) s.clearSig then
      done { t with acl := { t.acl with clearing := true } } else done (s.clearAbandon 2) := by
    subst ht
    unfold execSignatureVerified
    rw [hchal]
    dsimp only
    rw [hclear]
    rfl
  show execSignatureVerified s = _
  rw [hstep]
  split <;> rfl

theorem exec_aclAuthWrite {s : State} {m : Master} {w : BusWidth} {v : Word} {chal : List Byte}
    (hserves : s.serves m (F.ACL_AUTH.TAG 1).off = true) (hchal : s.acl.clearChal = some chal) (hclear : s.acl.clearing = true)
    (t : State) (ht : t = s.setReg (F.ACL_AUTH.TAG 1).off (s.staged (F.ACL_AUTH.TAG 1).off w v)) :
    exec (.aclAuthWrite m w v) s =
      .next (if leBytes 8 (t.rd (F.ACL_AUTH.TAG 0)) ++ leBytes 8 (t.rd (F.ACL_AUTH.TAG 1)) = (t.clearTag chal).take 16 then
        { t with acl := { t.acl with matched := true } } else t.clearAbandon 5) := by
  have hchal' : t.acl.clearChal = some chal := by rw [ht]; exact hchal
  have hclear' : t.acl.clearing = true := by rw [ht]; exact hclear
  show execAclAuthWrite m w v s = _
  rw [execAclAuthWrite, State.gated_serves _ _ _ _ hserves]
  change done (match (s.setReg (F.ACL_AUTH.TAG 1).off (s.staged (F.ACL_AUTH.TAG 1).off w v)).acl.clearChal with
    | none => _
    | some chal => _) = _
  rw [← ht]
  simp only [hchal', hclear', Bool.true_and, decide_eq_true_eq, done]

/-- The bytes of a number that stands in a list of bytes. -/
theorem leNat_lt : ∀ bs : List Byte, leNat bs < 256 ^ bs.length
  | [] => by decide
  | b :: bs => by
    have h := leNat_lt bs
    have hb := b.isLt
    rw [leNat, List.length_cons, Nat.pow_succ]
    omega

theorem fieldAt_lt (bs : List Byte) (i n : Nat) : fieldAt bs i n < 256 ^ n := by
  unfold fieldAt
  refine Nat.lt_of_lt_of_le (leNat_lt _) (Nat.pow_le_pow_right (by decide) ?_)
  rw [List.length_take]
  exact Nat.min_le_left _ _

/-- A clear given up with nothing held: its cause, and the registers of the log alone. -/
theorem State.clearAbandon_spec (s : State) (result : Nat) (hr : result < 16) (hlost : s.acl.lost = 0) (hqueue : s.acl.queue = []) :
    (s.clearAbandon result).rd F.ACL_CLEAR_STATUS.RESULT = result ∧ (s.clearAbandon result).rd F.ACL_CLEAR_STATUS.STATE = 3 ∧
      (s.clearAbandon result).rd F.ACL_ERR.CLEAR_REFUSED = 1 ∧
      (s.clearAbandon result).acl = { s.acl with clearChal := none, clearing := false, matched := false } ∧
      s.clearAbandon result = { s with regs := (s.clearAbandon result).regs, acl := (s.clearAbandon result).acl } ∧
      regsApart [F.ACL_CLEAR_STATUS.STATE.off, F.ACL_ERR.CLEAR_REFUSED.off, F.ACL_STATUS.QUEUED.off] s (s.clearAbandon result) := by
  let u : State := { s with acl := { s.acl with clearChal := none, clearing := false, matched := false } }
  obtain ⟨herr, hresult, hstate, honly, hregs⟩ := u.clearRefused_spec result hr
  have hu : u.acl.clearChal.isSome = false := rfl
  rw [hu, Bool.false_and, if_neg (by decide)] at hstate
  have hlost' : (u.clearRefused result).acl.lost = 0 := by rw [honly]; exact hlost
  have hqueue' : (u.clearRefused result).acl.queue = [] := by rw [honly]; exact hqueue
  have hacl : (u.clearRefused result).acl = { s.acl with clearChal := none, clearing := false, matched := false } := by rw [honly]
  have habandon : s.clearAbandon result = if (u.clearRefused result).bit F.ACL_STATUS.FROZEN then u.clearRefused result
      else (u.clearRefused result).aclDrain := rfl
  rw [habandon, State.aclDrain_empty _ hlost' hqueue']
  have hregs' : regsApart [F.ACL_CLEAR_STATUS.STATE.off, F.ACL_ERR.CLEAR_REFUSED.off, F.ACL_STATUS.QUEUED.off] s (u.clearRefused result) :=
    regsApart_trans (regsApart_regs regsApart_refl rfl) (regsApart_mono hregs (by simp))
  have hparts : u.clearRefused result = { s with regs := (u.clearRefused result).regs, acl := (u.clearRefused result).acl } := by
    generalize u.clearRefused result = t at honly
    rw [honly]
  generalize u.clearRefused result = t at *
  split
  · exact ⟨hresult, hstate, herr, hacl, hparts, hregs'⟩
  · refine ⟨?_, ?_, ?_, hacl, ?_, regsApart_wr _ _ hregs' (by simp)⟩
    · rw [State.rd_wr_off _ _ _ _ _ _ _ _ (by decide), hresult]
    · rw [State.rd_wr_off _ _ _ _ _ _ _ _ (by decide), hstate]
    · rw [State.rd_wr_off _ _ _ _ _ _ _ _ (by decide), herr]
    · rw [hparts]
      rfl

/-! ### The clear -/

theorem LogParts.sameMemories {s t : State} (h : LogParts s t) : sameMemories s t := by
  obtain ⟨_, _, _, _, _, _, _, _, _, rfl⟩ := h
  exact ⟨rfl, rfl, rfl, rfl, rfl, rfl, rfl, rfl, rfl, rfl⟩

theorem sameMemories.trans {s t u : State} (h : sameMemories s t) (h' : sameMemories t u) : sameMemories s u := by
  obtain ⟨h1, h2, h3, h4, h5, h6, h7, h8, h9, h10⟩ := h
  obtain ⟨k1, k2, k3, k4, k5, k6, k7, k8, k9, k10⟩ := h'
  exact ⟨k1.trans h1, k2.trans h2, k3.trans h3, k4.trans h4, k5.trans h5, k6.trans h6, k7.trans h7, k8.trans h8, k9.trans h9,
    k10.trans h10⟩

/-- The ring emptied and the clear ended, with bytes in the header of the MRAM. -/
def State.ringEmptied (s : State) (bs : List Byte) : State :=
  { s.mramWrite 194 bs with acl := { (s.mramWrite 194 bs).acl with
    ring := [], copying := none, copyLost := none, clearChal := none, clearing := false, matched := false } }

/-- The index of the next record. -/
def State.indexNext (s : State) : State := { s with acl := { s.acl with index := (s.acl.index + 1) % 2 ^ 32 } }

/-- The log emptied with the next EPOCH in the MRAM, before its CLEARED record. -/
def State.logEmptied (s : State) : State :=
  ((((s.wr F.ACL_COPY.EPOCH (s.rd F.ACL_COPY.EPOCH + 1)).ringEmptied (leBytes 2 (s.rd F.ACL_COPY.EPOCH + 1))).wr
    F.ACL_STATUS.HELD 0).wr F.ACL_COPY.COPIED (s.rd F.ACL_STATUS.NEXT))

@[simp] theorem State.rd_ringEmptied (s : State) (bs : List Byte) (f : Field) : (s.ringEmptied bs).rd f = s.rd f :=
  State.rd_of_regs _ _ rfl f

@[simp] theorem State.rd_indexNext (s : State) (f : Field) : s.indexNext.rd f = s.rd f := State.rd_of_regs _ _ rfl f

theorem State.rd_logEmptied (s : State) (o l w : Nat) (ho : o ≠ 0x220018) (ho' : o ≠ 0x220020) :
    s.logEmptied.rd ⟨o, l, w⟩ = s.rd ⟨o, l, w⟩ := by
  unfold State.logEmptied
  rw [State.rd_wr_off _ _ _ _ _ _ _ _ (Ne.symm ho'), State.rd_wr_off _ _ _ _ _ _ _ _ (Ne.symm ho), State.rd_ringEmptied,
    State.rd_wr_off _ _ _ _ _ _ _ _ (Ne.symm ho')]

theorem State.logEmptied_acl (s : State) : s.logEmptied.acl = { s.acl with
    mram := memWrite s.acl.mram 194 (leBytes 2 (s.rd F.ACL_COPY.EPOCH + 1))
    spi := spiWrite 194 (leBytes 2 (s.rd F.ACL_COPY.EPOCH + 1))
    ring := [], copying := none, copyLost := none, clearChal := none, clearing := false, matched := false } := by
  unfold State.logEmptied
  rw [State.wr_acl, State.wr_acl]
  unfold State.ringEmptied State.mramWrite
  rfl

/-- The CLEARED record (Table 15-9). -/
def State.clearedRecord (s : State) (chal : List Byte) : AclRec :=
  s.aclMake 0x0701 false (leBytes 2 (s.rd F.ACL_COPY.EPOCH) ++ leBytes 2 (s.rd F.ACL_COPY.EPOCH + 1) ++
    leBytes 4 (s.rd F.ACL_STATUS.NEXT) ++ chal.take 4)

/-- The end of a clear shown and counted. -/
def State.clearShown (s : State) : State := ((s.incSat F.ACL_COUNTS.CLEARS).wr F.ACL_CLEAR_STATUS.STATE 3).wr F.ACL_CLEAR_STATUS.RESULT 0

theorem exec_aclClearDone {s : State} {chal : List Byte} (hchal : s.acl.clearChal = some chal) (hmatched : s.acl.matched = true)
    (t : State) (ht : t = (s.logEmptied.indexNext.aclPut (s.clearedRecord chal)).clearShown) :
    exec .aclClearDone s = .next (if t.bit F.ACL_STATUS.FROZEN then t else t.aclDrain) := by
  have hrecord : s.logEmptied.aclMake 0x0701 false (leBytes 2 (s.rd F.ACL_COPY.EPOCH) ++ leBytes 2 (s.rd F.ACL_COPY.EPOCH + 1) ++
      leBytes 4 (s.rd F.ACL_STATUS.NEXT) ++ chal.take 4) = s.clearedRecord chal := by
    have hnode : s.logEmptied.rd F.TIM_CFG.NODE_ID = s.rd F.TIM_CFG.NODE_ID := s.rd_logEmptied _ _ _ (by decide) (by decide)
    have hindex : s.logEmptied.acl.index = s.acl.index := by rw [State.logEmptied_acl]
    have htime : s.logEmptied.tb1 = s.tb1 := rfl
    unfold State.clearedRecord State.aclMake State.nowS State.nowNs
    rw [hnode, hindex, htime]
  have hstep : execAclClearDone s = done (if t.bit F.ACL_STATUS.FROZEN then t else t.aclDrain) := by
    rw [ht, ← hrecord]
    unfold execAclClearDone
    rw [hchal]
    dsimp -zeta only
    rw [hmatched, if_neg (by decide)]
    rfl
  show execAclClearDone s = _
  rw [hstep]
  rfl

/-- What is left of a clear in progress: nothing, and the next EPOCH in the MRAM. -/
structure ClearOver (s : State) (a : AclSt) : Prop where
  queue : a.queue = s.acl.queue
  lost : a.lost = s.acl.lost
  clearChal : a.clearChal = none
  clearing : a.clearing = false
  matched : a.matched = false
  copying : a.copying = none
  mram : a.mram = memWrite s.acl.mram 194 (leBytes 2 (s.rd F.ACL_COPY.EPOCH + 1))

theorem State.logEmptied_over (s : State) : ClearOver s s.logEmptied.indexNext.acl ∧ s.logEmptied.indexNext.acl.ring = [] := by
  have h : s.logEmptied.indexNext.acl = { s.logEmptied.acl with index := (s.logEmptied.acl.index + 1) % 2 ^ 32 } := rfl
  rw [h, State.logEmptied_acl]
  exact ⟨⟨rfl, rfl, rfl, rfl, rfl, rfl, rfl⟩, rfl⟩

theorem State.logEmptied_rd (s : State) : s.logEmptied.indexNext.rd F.ACL_COPY.EPOCH = (s.rd F.ACL_COPY.EPOCH + 1) % 2 ^ 16 ∧
    s.logEmptied.indexNext.rd F.ACL_COPY.COPIED = s.rd F.ACL_STATUS.NEXT ∧
    s.logEmptied.indexNext.rd F.ACL_STATUS.NEXT = s.rd F.ACL_STATUS.NEXT ∧
    s.logEmptied.indexNext.rd F.ACL_STATUS.HELD = 0 ∧
    s.logEmptied.indexNext.rd F.ACL_STATUS.FROZEN = s.rd F.ACL_STATUS.FROZEN := by
  have hnext := State.rd_lt s F.ACL_STATUS.NEXT
  simp only [State.rd_indexNext, State.logEmptied]
  refine ⟨?_, ?_, ?_, ?_, ?_⟩
  · rw [State.rd_wr_apart _ _ _ _ _ _ _ (by decide), State.rd_wr_off _ _ _ _ _ _ _ _ (by decide), State.rd_ringEmptied,
      State.rd_wr_same _ _ _ _ _ (by decide)]
  · rw [State.rd_wr_same _ _ _ _ _ (by decide), Nat.mod_eq_of_lt hnext]
  · rw [State.rd_wr_off _ _ _ _ _ _ _ _ (by decide), State.rd_wr_apart _ _ _ _ _ _ _ (by decide), State.rd_ringEmptied,
      State.rd_wr_off _ _ _ _ _ _ _ _ (by decide)]
  · rw [State.rd_wr_off _ _ _ _ _ _ _ _ (by decide), State.rd_wr_same _ _ _ _ _ (by decide), Nat.zero_mod]
  · rw [State.rd_wr_off _ _ _ _ _ _ _ _ (by decide), State.rd_wr_apart _ _ _ _ _ _ _ (by decide), State.rd_ringEmptied,
      State.rd_wr_off _ _ _ _ _ _ _ _ (by decide)]

theorem State.rd_clearShown (s : State) (o l w : Nat) (ho : o ≠ 0x220030) (ho' : o ≠ 0x220098) :
    s.clearShown.rd ⟨o, l, w⟩ = s.rd ⟨o, l, w⟩ := by
  unfold State.clearShown State.incSat State.addSat
  rw [State.rd_wr_off _ _ _ _ _ _ _ _ (Ne.symm ho'), State.rd_wr_off _ _ _ _ _ _ _ _ (Ne.symm ho'),
    State.rd_wr_off _ _ _ _ _ _ _ _ (Ne.symm ho)]

theorem State.clearShown_rd (s : State) : s.clearShown.rd F.ACL_COUNTS.CLEARS = min (s.rd F.ACL_COUNTS.CLEARS + 1) 65535 ∧
    s.clearShown.rd F.ACL_CLEAR_STATUS.STATE = 3 ∧ s.clearShown.rd F.ACL_CLEAR_STATUS.RESULT = 0 := by
  unfold State.clearShown
  refine ⟨?_, ?_, ?_⟩
  · rw [State.rd_wr_off _ _ _ _ _ _ _ _ (by decide), State.rd_wr_off _ _ _ _ _ _ _ _ (by decide)]
    exact State.rd_incSat _ _ _ _ (by decide)
  · rw [State.rd_wr_apart _ _ _ _ _ _ _ (by decide)]
    exact State.rd_wr_same _ _ _ _ _ (by decide)
  · exact State.rd_wr_same _ _ _ _ _ (by decide)

/-- What the log holds at the end of a clear, before the held records enter: the CLEARED record alone. -/
theorem State.clearEnd_spec (s : State) (r : AclRec) (t : State) (ht : t = (s.logEmptied.indexNext.aclPut r).clearShown) :
    t.acl.ring = [r] ∧ ClearOver s t.acl ∧
      t.rd F.ACL_COPY.EPOCH = (s.rd F.ACL_COPY.EPOCH + 1) % 2 ^ 16 ∧ t.rd F.ACL_COPY.COPIED = s.rd F.ACL_STATUS.NEXT ∧
      t.rd F.ACL_STATUS.NEXT = (s.rd F.ACL_STATUS.NEXT + 1) % 2 ^ 32 ∧ t.rd F.ACL_STATUS.HELD = 1 ∧
      t.rd F.ACL_STATUS.FROZEN = s.rd F.ACL_STATUS.FROZEN ∧
      t.rd F.ACL_COUNTS.CLEARS = min (s.rd F.ACL_COUNTS.CLEARS + 1) 65535 ∧ t.rd F.ACL_CLEAR_STATUS.STATE = 3 ∧
      t.rd F.ACL_CLEAR_STATUS.RESULT = 0 ∧ sameMemories s t := by
  obtain ⟨hover, hempty⟩ := s.logEmptied_over
  obtain ⟨hepoch, hcopied, hnext, -, hfrozen⟩ := s.logEmptied_rd
  have hmem : sameMemories s s.logEmptied.indexNext := ⟨rfl, rfl, rfl, rfl, rfl, rfl, rfl, rfl, rfl, rfl⟩
  have hclears : s.logEmptied.indexNext.rd F.ACL_COUNTS.CLEARS = s.rd F.ACL_COUNTS.CLEARS := by
    rw [State.rd_indexNext, State.rd_logEmptied _ _ _ _ (by decide) (by decide)]
  generalize s.logEmptied.indexNext = u at *
  have hput := u.aclPut_put r
  have hheld := u.aclPut_held r
  have hring : (u.aclPut r).acl.ring = [r] := by rw [State.aclPut_ring, hempty]; rfl
  rw [hring] at hheld
  have hacl := hput.acl
  have hmem' := hmem.trans hput.parts.sameMemories
  have hcopy : ∀ l w, (u.aclPut r).rd ⟨0x220020, l, w⟩ = u.rd ⟨0x220020, l, w⟩ := fun l w => regsApart_rd hput.regs _ _ _ (by decide)
  have hput_next := hput.next
  have hput_frozen := hput.status 46 1 (by decide)
  have hput_clears := hput.counts 32 16 (by decide)
  generalize u.aclPut r = v at *
  obtain ⟨h1, h2, h3⟩ := v.clearShown_rd
  have hshown : t.acl = v.acl := by rw [ht]; rfl
  subst ht
  refine ⟨hshown ▸ hring, ?_, ?_, ?_, ?_, ?_, ?_, ?_, h2, h3, hmem'⟩
  · rw [hshown, hacl]
    exact ⟨hover.queue, hover.lost, hover.clearChal, hover.clearing, hover.matched, hover.copying, hover.mram⟩
  · rw [State.rd_clearShown _ _ _ _ (by decide) (by decide), hcopy, hepoch]
  · rw [State.rd_clearShown _ _ _ _ (by decide) (by decide), hcopy, hcopied]
  · rw [State.rd_clearShown _ _ _ _ (by decide) (by decide), hput_next, hnext]
    rfl
  · rw [State.rd_clearShown _ _ _ _ (by decide) (by decide), hheld]
    rfl
  · rw [State.rd_clearShown _ _ _ _ (by decide) (by decide), hput_frozen, hfrozen]
  · rw [h1, hput_clears, hclears]

/-- The held records enter behind the records of the ring. -/
theorem State.aclDrain_spec (s : State) (hlost : s.acl.lost = 0) (hring : s.acl.ring.length ≤ 8192) :
    s.aclDrain.acl.ring = (s.acl.queue.reverse ++ s.acl.ring).take 8192 ∧ s.aclDrain.acl.queue = [] ∧
      s.aclDrain.acl = { s.acl with ring := s.aclDrain.acl.ring, queue := [], copyLost := s.aclDrain.acl.copyLost } ∧
      s.aclDrain.rd F.ACL_STATUS.NEXT = (s.rd F.ACL_STATUS.NEXT + s.acl.queue.length) % 2 ^ 32 ∧
      (s.rd F.ACL_STATUS.HELD = s.acl.ring.length → s.aclDrain.rd F.ACL_STATUS.HELD = s.aclDrain.acl.ring.length) ∧
      s.aclDrain.rd F.ACL_STATUS.QUEUED = 0 ∧ s.aclDrain.rd F.ACL_STATUS.FROZEN = s.rd F.ACL_STATUS.FROZEN ∧
      (∀ l w, l + w ≤ 3 ∨ 4 ≤ l → s.aclDrain.rd ⟨0x220028, l, w⟩ = s.rd ⟨0x220028, l, w⟩) ∧
      (∀ l w, l + w ≤ 16 ∨ 32 ≤ l → s.aclDrain.rd ⟨0x220030, l, w⟩ = s.rd ⟨0x220030, l, w⟩) ∧
      regsApart putRegs s s.aclDrain ∧ sameMemories s s.aclDrain := by
  have hput := State.aclPut_puts s.acl.queue { s with acl := { s.acl with queue := [], lost := 0 } }
  rw [State.aclDrain_lossless s hlost]
  have hr := hput.ring hring
  have hacl := hput.acl
  have hnext := hput.next
  have hheld := hput.held
  have hstatus := hput.status 46 1 (by decide)
  have herr := hput.err
  have hcounts := hput.counts
  have hregs := hput.regs
  have hmem := hput.parts.sameMemories
  simp only [State.rd_mk] at hnext hheld hstatus herr hcounts
  generalize s.acl.queue.foldl State.aclPut _ = t at *
  refine ⟨hr, by rw [State.wr_acl, hacl], ?_, ?_, fun h => ?_, ?_, ?_, fun l w h => ?_, fun l w h => ?_, ?_, hmem⟩
  · rw [State.wr_acl]
    conv_lhs => rw [hacl]
    rw [← hlost]
  · rw [State.rd_wr_apart _ _ _ _ _ _ _ (by decide), hnext]
  · rw [State.rd_wr_apart _ _ _ _ _ _ _ (by decide), hheld h, State.wr_acl]
  · exact State.rd_wr_same _ _ _ _ _ (by decide)
  · rw [State.rd_wr_apart _ _ _ _ _ _ _ (by decide), hstatus]
  · rw [State.rd_wr_off _ _ _ _ _ _ _ _ (by decide), herr l w h]
  · rw [State.rd_wr_off _ _ _ _ _ _ _ _ (by decide), hcounts l w h]
  · exact regsApart_wr _ _ (regsApart_trans (regsApart_regs regsApart_refl rfl) hregs) (by decide)

/-- Settles O56: the challenge, the request with its three refusals, the verification, the tag, and the clear with the held
records behind its own. -/
theorem theAccessionLogIsClearedByAuthority : Obligations.TheAccessionLogIsClearedByAuthority := by
  unfold Obligations.TheAccessionLogIsClearedByAuthority
  refine ⟨fun s m hserves => ⟨_, exec_newChallenge hserves _ rfl, ?_⟩,
    fun s m hserves hnone hon hfrozen => ⟨_, exec_clear_begun hserves hnone hon hfrozen, ?_⟩,
    fun s m hserves h => ⟨_, exec_clear_refused hserves h, ?_⟩,
    fun s chal hchal hclear hqueue hlost => ⟨_, exec_signatureVerified hchal hclear _ rfl, ?_⟩,
    fun s m w v chal hserves hchal hclear hqueue hlost => ⟨_, exec_aclAuthWrite hserves hchal hclear _ rfl, ?_⟩,
    fun s chal hchal hmatched hfrozen hlost hqueue => ⟨_, exec_aclClearDone hchal hmatched _ rfl, ?_⟩⟩
  · obtain ⟨h0, h1, hparts, hregs⟩ := s.challenged_spec (Config.freeValue s.free) (Config.freeValue (s.free + 1)) _ rfl
    generalize s.challenged (Config.freeValue s.free) (Config.freeValue (s.free + 1)) = t at *
    cases hc : s.acl.clearChal with
    | some chal =>
      simp only [Option.isSome_some, if_true]
      rw [h0, h1]
      exact ⟨rfl, fun h => absurd h (by simp), hparts, hregs⟩
    | none =>
      simp only [Option.isSome_none, Bool.false_eq_true, if_false]
      refine ⟨?_, fun _ => State.rd_wr_same _ _ _ _ _ (by decide), ?_, regsApart_wr _ _ hregs (by decide)⟩
      · rw [State.rd_wr_off _ _ _ _ _ _ _ _ (by decide), State.rd_wr_off _ _ _ _ _ _ _ _ (by decide), h0, h1]
      · rw [hparts]
        rfl
  · obtain ⟨h0, h1, hparts, hregs⟩ := s.voidChallenge_spec
    have hacl : s.voidChallenge.acl = { s.acl with challengeOn := false } := rfl
    generalize s.voidChallenge = t at *
    refine ⟨?_, ?_, ?_⟩
    · simp only [State.rd_mk]
      rw [State.rd_wr_off _ _ _ _ _ _ _ _ (by decide), State.rd_wr_off _ _ _ _ _ _ _ _ (by decide), h0, h1,
        State.rd_wr_same _ _ _ _ _ (by decide), Nat.mod_eq_of_lt (by decide)]
    · rw [hparts]
      rfl
    · rw [regsApart_mk]
      exact regsApart_wr _ _ (regsApart_mono hregs (by simp)) (by decide)
  · have hcause : (if s.acl.clearChal ≠ none then 4 else if s.acl.challengeOn = false then 1 else 3) < 16 := by
      split_ifs <;> decide
    obtain ⟨h0, h1, hparts, hregs⟩ := s.voidChallenge_spec
    have hstate : s.voidChallenge.rd F.ACL_CLEAR_STATUS.STATE = s.rd F.ACL_CLEAR_STATUS.STATE :=
      s.voidChallenge_rd _ _ _ (by decide) (by decide)
    have hchal : s.voidChallenge.acl.clearChal = s.acl.clearChal := rfl
    obtain ⟨herr, hresult, hst, honly, hregs'⟩ := s.voidChallenge.clearRefused_spec _ hcause
    refine ⟨herr, hresult, ?_, ?_, ?_, ?_⟩
    · rw [hst, hstate, hchal]
      by_cases hc : s.acl.clearChal = none
      · rw [if_neg (by simp [hc]), if_neg (by simp [hc])]
      · obtain ⟨chal, hc'⟩ := Option.ne_none_iff_exists'.mp hc
        rw [if_pos (by simp [hc']), if_pos hc]
    · rw [regsApart_rd hregs' _ _ _ (by decide), regsApart_rd hregs' _ _ _ (by decide), h0, h1]
    · generalize s.voidChallenge.clearRefused _ = t at honly
      rw [honly, hparts]
    · exact regsApart_trans (regsApart_mono hregs (by simp)) (regsApart_mono hregs' (by simp))
  · obtain ⟨hresult, hstate, herr, hacl, hparts, hregs⟩ := s.clearAbandon_spec 2 (by decide) hlost hqueue
    have hfits : ∀ i, fieldAt (s.clearTag chal) i 8 % 2 ^ 64 = fieldAt (s.clearTag chal) i 8 := fun i =>
      Nat.mod_eq_of_lt (lt_of_lt_of_eq (fieldAt_lt _ _ _) (by norm_num))
    cases hv : Config.ed25519Verify s.boot.publicKey (s.clearMessage chal) s.clearSig with
    | true =>
      rw [if_pos rfl]
      refine ⟨fun _ => ?_, fun h => absurd h (by decide), rfl, ?_⟩
      · simp only [State.rd_mk]
        rw [State.rd_wr_off _ _ _ _ _ _ _ _ (by decide), State.rd_wr_same _ _ _ _ _ (by decide),
          State.rd_wr_same _ _ _ _ _ (by decide), hfits, hfits]
        rfl
      · rw [regsOutside_mk]
        exact regsOutside_wr _ _ (regsOutside_wr _ _ regsOutside_refl (by decide)) (by decide)
    | false =>
      rw [if_neg (by decide)]
      refine ⟨fun h => absurd h (by decide), fun _ => ?_, hparts, regsOutside_of_apart hregs (by decide)⟩
      rw [hresult, hstate, herr, hacl]
      simp only [hclear]
  · have hcompare : ∀ t : State, t = s.setReg (F.ACL_AUTH.TAG 1).off (s.staged (F.ACL_AUTH.TAG 1).off w v) →
        t.rd (F.ACL_AUTH.TAG 0) = s.rd (F.ACL_AUTH.TAG 0) ∧
        t.rd (F.ACL_AUTH.TAG 1) = (s.staged (F.ACL_AUTH.TAG 1).off w v).toNat ∧ t.clearTag chal = s.clearTag chal ∧
        t.reg (F.ACL_AUTH.TAG 1).off = s.staged (F.ACL_AUTH.TAG 1).off w v ∧ RegsOnly s t ∧
        regsOutside (fun b => b = 0x22) s t := fun t ht => by
      subst ht
      refine ⟨State.rd_setReg_off _ _ _ _ _ _ (by decide), ?_, ?_, State.reg_setReg_same _ _ _, rfl,
        regsOutside_setReg _ _ regsOutside_refl (by decide)⟩
      · rw [State.rd_setReg_same]
        unfold Field.get
        rw [Nat.pow_zero, Nat.div_one, Nat.mod_eq_of_lt (BitVec.isLt _)]
      · unfold State.clearTag
        rw [State.rd_setReg_off _ _ _ _ _ _ (by decide), State.rd_setReg_off _ _ _ _ _ _ (by decide), State.setReg_acl]
    obtain ⟨htag0, htag1, htag, hreg, honly, hout⟩ := hcompare _ rfl
    generalize s.setReg (F.ACL_AUTH.TAG 1).off (s.staged (F.ACL_AUTH.TAG 1).off w v) = t at *
    have hacl : t.acl = s.acl := by rw [honly]
    obtain ⟨hresult, hstate, herr, habandon, hparts, hregs⟩ := t.clearAbandon_spec 5 (by decide) (by rw [hacl]; exact hlost)
      (by rw [hacl]; exact hqueue)
    rw [htag0, htag1, htag]
    split
    · next heq =>
      refine ⟨?_, fun _ => ?_, fun h => absurd heq h, ?_, ?_⟩
      · rw [State.reg_mk, hreg]
      · rw [hacl]
      · rw [honly]
      · rw [regsOutside_mk]
        exact hout
    · next hne =>
      refine ⟨?_, fun h => absurd h hne, fun _ => ?_, ?_, regsOutside_trans hout (regsOutside_of_apart hregs (by decide))⟩
      · rw [hregs _ (by decide), hreg]
      · rw [hresult, hstate, herr, habandon, hacl]
      · generalize t.clearAbandon 5 = u at hparts
        rw [hparts, honly]
  · obtain ⟨hring, hover, hepoch, hcopied, hnext, hheld, hfro, hclears, hstate, hresult, hmem⟩ :=
      s.clearEnd_spec (s.clearedRecord chal) _ rfl
    generalize (s.logEmptied.indexNext.aclPut (s.clearedRecord chal)).clearShown = t at *
    have hfrozen' : t.bit F.ACL_STATUS.FROZEN = false := by
      unfold State.bit at hfrozen ⊢
      rw [hfro]
      exact hfrozen
    obtain ⟨hring', hqueue', hacl', hnext', hheld', -, -, -, hcounts', hregs', hmem'⟩ :=
      t.aclDrain_spec (by rw [hover.lost]; exact hlost) (by rw [hring, List.length_singleton]; norm_num)
    have hlen : t.acl.queue.length = s.acl.queue.length := by rw [hover.queue]
    have hdrained : t.aclDrain.acl.ring = s.acl.queue.reverse ++ [s.clearedRecord chal] := by
      rw [hring', hring, hover.queue, List.take_of_length_le (by rw [List.length_append, List.length_reverse, List.length_singleton]; omega)]
    rw [hfrozen', if_neg (by decide)]
    refine ⟨hdrained, ?_, ?_, ?_, ?_, ?_, hmem.trans hmem'⟩
    · rw [regsApart_rd hregs' _ _ _ (by decide), regsApart_rd hregs' _ _ _ (by decide), hepoch, hcopied]
    · rw [hnext', hnext, hheld' (by rw [hheld, hring]; rfl), hdrained, hlen, List.length_append, List.length_reverse, List.length_singleton,
        Nat.mod_add_mod]
    · rw [hcounts' 32 16 (by decide), regsApart_rd hregs' _ _ _ (by decide), regsApart_rd hregs' _ _ _ (by decide), hclears, hstate, hresult]
    · rw [hacl']
      simp only [hover.clearChal, hover.clearing, hover.matched, hover.copying]
    · rw [hacl']
      simp only [hover.mram]
      exact memRead_memWrite_of_length _ _ _ _ (length_leBytes _ _)

end Sys2Proof.Machine
end

section
/-! SUPPORT. The ring of the Accession Log, its freezes, the persistent copy and the windows (R356 to R362). -/
namespace Sys2Proof.Machine

/-! ### Entries written into the persistent copy -/

theorem leBytes_mod (n v : Nat) : leBytes n (v % 256 ^ n) = leBytes n v := by
  induction n generalizing v with
  | zero => rfl
  | succ n ih =>
    have hbyte : v % 256 ^ (n + 1) % 256 = v % 256 := Nat.mod_mod_of_dvd _ (dvd_pow_self _ (by omega))
    have hrest : v % 256 ^ (n + 1) / 256 = v / 256 % 256 ^ n := by rw [Nat.pow_succ, Nat.mod_mul_left_div_self]
    have hb : BitVec.ofNat 8 (v % 256 ^ (n + 1)) = BitVec.ofNat 8 v := BitVec.eq_of_toNat_eq (by
      rw [BitVec.toNat_ofNat, BitVec.toNat_ofNat]
      exact hbyte)
    rw [leBytes, leBytes, hrest, ih, hb]

theorem memRead_congr {m m' : SMap Byte} (n : Nat) : ∀ a : Nat,
    (∀ x, a ≤ x → x < a + n → smGet byteDefault m x = smGet byteDefault m' x) → memRead m a n = memRead m' a n := by
  induction n with
  | zero => exact fun _ _ => rfl
  | succ n ih =>
    intro a h
    rw [memRead, memRead, h a (by omega) (by omega), ih (a + 1) (fun x hx hn => h x (by omega) (by omega))]

theorem AclRec.length_bytes (r : AclRec) : r.bytes.length = 32 := by
  unfold AclRec.bytes
  simp only [List.length_append, length_leBytes, List.length_take, List.length_replicate]
  omega

theorem State.length_mramEntry (s : State) (pos : Nat) (r : AclRec) : (s.mramEntry pos r).length = 48 := by
  unfold State.mramEntry
  simp only [List.length_append, length_leBytes, AclRec.length_bytes]

theorem State.mramEntry_mod (s : State) (pos : Nat) (r : AclRec) : s.mramEntry (pos % 2 ^ 32) r = s.mramEntry pos r := by
  unfold State.mramEntry
  rw [show (2 : Nat) ^ 32 = 256 ^ 4 from rfl, leBytes_mod]

/-- The address of the i-th entry from the next one on. -/
def State.entryAt (s : State) (i : Nat) : Nat := 256 + 48 * ((s.acl.mramNext + i) % s.mramEntries)

/-- The state with one entry written. -/
def State.mramPut1 (s : State) (pos : Nat) (r : AclRec) : State :=
  { s with acl := { s.acl with
      mram := memWrite s.acl.mram (256 + 48 * s.acl.mramNext) (s.mramEntry pos r)
      mramNext := (s.acl.mramNext + 1) % s.mramEntries } }

theorem State.mramPut_cons (s : State) (pos : Nat) (r : AclRec) (rs : List AclRec) :
    s.mramPut pos (r :: rs) = (s.mramPut1 pos r).mramPut ((pos + 1) % 2 ^ 32) rs := rfl

theorem State.mramEntries_put1 (s : State) (pos : Nat) (r : AclRec) : (s.mramPut1 pos r).mramEntries = s.mramEntries := rfl

theorem State.mramEntry_put1 (s : State) (pos p : Nat) (r q : AclRec) : (s.mramPut1 pos r).mramEntry p q = s.mramEntry p q := rfl

theorem State.entryAt_put1 (s : State) (pos : Nat) (r : AclRec) (i : Nat) : (s.mramPut1 pos r).entryAt i = s.entryAt (i + 1) := by
  unfold State.entryAt
  rw [State.mramEntries_put1]
  show 256 + 48 * (((s.acl.mramNext + 1) % s.mramEntries + i) % s.mramEntries) = _
  rw [Nat.mod_add_mod, Nat.add_assoc, Nat.add_comm 1 i]

theorem State.entryAt_zero (s : State) (h : s.acl.mramNext < s.mramEntries) : s.entryAt 0 = 256 + 48 * s.acl.mramNext := by
  unfold State.entryAt
  rw [Nat.add_zero, Nat.mod_eq_of_lt h]

/-- Entries of one turn of the ring do not overlap. -/
theorem State.entryAt_apart (s : State) (i : Nat) (hi : i + 1 < s.mramEntries) (h : s.acl.mramNext < s.mramEntries) :
    s.entryAt 0 + 48 ≤ s.entryAt (i + 1) ∨ s.entryAt (i + 1) + 48 ≤ s.entryAt 0 := by
  have hne : (s.acl.mramNext + (i + 1)) % s.mramEntries ≠ s.acl.mramNext := by
    by_cases hw : s.acl.mramNext + (i + 1) < s.mramEntries
    · rw [Nat.mod_eq_of_lt hw]
      omega
    · rw [Nat.mod_eq_sub_mod (by omega), Nat.mod_eq_of_lt (by omega)]
      omega
  rw [State.entryAt_zero s h]
  unfold State.entryAt
  omega

theorem State.mramPut_parts (rs : List AclRec) : ∀ (s : State) (pos : Nat), s.mramPut pos rs =
    { s with acl := { s.acl with mram := (s.mramPut pos rs).acl.mram, mramNext := (s.mramPut pos rs).acl.mramNext } } := by
  induction rs with
  | nil => exact fun _ _ => rfl
  | cons r rs ih => exact fun s pos => ih (s.mramPut1 pos r) ((pos + 1) % 2 ^ 32)

theorem State.mramPut_next (rs : List AclRec) : ∀ (s : State) (pos : Nat), s.acl.mramNext < s.mramEntries →
    (s.mramPut pos rs).acl.mramNext = (s.acl.mramNext + rs.length) % s.mramEntries := by
  induction rs with
  | nil => exact fun s pos h => (Nat.mod_eq_of_lt h).symm
  | cons r rs ih =>
    intro s pos h
    rw [State.mramPut_cons, ih _ _ (Nat.mod_lt _ (Nat.zero_lt_of_lt h)), State.mramEntries_put1, List.length_cons]
    show ((s.acl.mramNext + 1) % s.mramEntries + rs.length) % s.mramEntries = _
    rw [Nat.mod_add_mod, Nat.add_assoc, Nat.add_comm 1]

theorem State.mramPut_outside (rs : List AclRec) (x : Nat) : ∀ (s : State) (pos : Nat), s.acl.mramNext < s.mramEntries →
    (∀ i, i < rs.length → x < s.entryAt i ∨ s.entryAt i + 48 ≤ x) →
    smGet byteDefault (s.mramPut pos rs).acl.mram x = smGet byteDefault s.acl.mram x := by
  induction rs with
  | nil => exact fun _ _ _ _ => rfl
  | cons r rs ih =>
    intro s pos h hx
    have h0 := hx 0 (by simp)
    rw [State.entryAt_zero s h] at h0
    rw [State.mramPut_cons, ih _ _ (Nat.mod_lt _ (Nat.zero_lt_of_lt h)) (fun i hi => by
      rw [State.entryAt_put1]
      exact hx (i + 1) (by rw [List.length_cons]; omega))]
    exact smGet_memWrite_outside _ _ _ _ (by rw [State.length_mramEntry]; exact h0)

theorem State.mramPut_entry (rs : List AclRec) : ∀ (s : State) (pos i : Nat), s.acl.mramNext < s.mramEntries →
    rs.length ≤ s.mramEntries → (hi : i < rs.length) →
    memRead (s.mramPut pos rs).acl.mram (s.entryAt i) 48 = s.mramEntry (pos + i) (rs.getD i ⟨0, 0, 0, 0, 0, []⟩) := by
  induction rs with
  | nil => exact fun _ _ _ _ _ hi => absurd hi (Nat.not_lt_zero _)
  | cons r rs ih =>
    intro s pos i h hlen hi
    rw [List.length_cons] at hlen hi
    have h' : (s.mramPut1 pos r).acl.mramNext < (s.mramPut1 pos r).mramEntries := Nat.mod_lt _ (Nat.zero_lt_of_lt h)
    rw [State.mramPut_cons]
    cases i with
    | zero =>
      have hread : memRead ((s.mramPut1 pos r).mramPut ((pos + 1) % 2 ^ 32) rs).acl.mram (s.entryAt 0) 48 =
          memRead (s.mramPut1 pos r).acl.mram (s.entryAt 0) 48 := memRead_congr _ _ (fun x hx hx' =>
        State.mramPut_outside rs x _ _ h' (fun j hj => by
          have := s.entryAt_apart j (by omega) h
          rw [State.entryAt_put1]
          omega))
      rw [hread, State.entryAt_zero s h]
      exact memRead_memWrite_of_length _ _ _ _ (s.length_mramEntry _ _)
    | succ i =>
      have hrest := ih (s.mramPut1 pos r) ((pos + 1) % 2 ^ 32) i h' (by rw [State.mramEntries_put1]; omega) (by omega)
      have hpos : ((pos + 1) % 2 ^ 32 + i) % 2 ^ 32 = (pos + (i + 1)) % 2 ^ 32 := by omega
      rw [State.entryAt_put1, State.mramEntry_put1, ← State.mramEntry_mod, hpos, State.mramEntry_mod] at hrest
      exact hrest

/-! ### The commands -/

section
variable {s : State} {event : Nat} {data : List Byte} {m : Master}

/-- The state whose next record has the next index. -/
def State.indexed (s : State) (event : Nat) : State := { s with acl := { s.acl with
  index := (s.acl.index + 1) % 2 ^ 32
  lastAt := if aclLimited event then (event, s.cycle) :: s.acl.lastAt.filter (fun p => p.1 ≠ event) else s.acl.lastAt } }

theorem exec_aclRecordEnter_due (hdue : s.aclDue event = true) (t : State) (ht : t = s.indexed event) :
    exec (.aclRecordEnter event data) s = .next (t.aclEnter (s.aclMake event false data)) := by
  subst ht
  show execAclRecordEnter event data s = _
  unfold execAclRecordEnter State.aclLog
  rw [if_pos hdue]
  rfl

theorem exec_aclRecordEnter_suppressed (hdue : s.aclDue event = false) :
    exec (.aclRecordEnter event data) s = .next (s.incSat F.ACL_COUNTS.SUPPRESSED) := by
  show execAclRecordEnter event data s = _
  unfold execAclRecordEnter State.aclLog
  rw [if_neg (by rw [hdue]; decide)]
  rfl

theorem State.aclEnter_put (r : AclRec) (h : s.aclWaiting = false) : s.aclEnter r = s.aclPut r := by
  unfold State.aclEnter
  rw [if_neg (by rw [h]; decide)]

theorem State.aclEnter_held (r : AclRec) (h : s.aclWaiting = true) (hroom : s.acl.queue.length < 256) : s.aclEnter r =
    ({ s with acl := { s.acl with queue := s.acl.queue ++ [r] } } : State).wr F.ACL_STATUS.QUEUED (s.acl.queue ++ [r]).length := by
  unfold State.aclEnter
  rw [if_pos h, if_pos hroom]

theorem State.aclEnter_lost (r : AclRec) (h : s.aclWaiting = true) (hfull : 256 ≤ s.acl.queue.length) : s.aclEnter r =
    ((({ s with acl := { s.acl with lost := s.acl.lost + 1 } } : State).incSat F.ACL_COUNTS.HOLD_OVERFLOW).set1
      F.ACL_ERR.HOLD_OVERFLOW).vector 4 := by
  unfold State.aclEnter
  rw [if_pos h, if_neg (by omega)]

theorem exec_aclFreeze (hserves : s.serves m F.ACL_CTL.FREEZE.off = true) (h : s.bit F.ACL_STATUS.FROZEN = false) :
    exec (.aclFreeze m) s = .next { (s.wr F.ACL_CTL.FREEZE 1).wr F.ACL_STATUS.FROZEN 1 with
      acl := { s.acl with frozenAt := some s.cycle } } := by
  show execAclFreeze m s = _
  unfold execAclFreeze
  rw [State.gated_serves _ _ _ _ hserves, h]
  rfl

theorem exec_aclUnfreeze (hserves : s.serves m F.ACL_CTL.FREEZE.off = true) (h : s.bit F.ACL_STATUS.FROZEN = true) :
    exec (.aclUnfreeze m) s = .next s.aclThaw := by
  show execAclUnfreeze m s = _
  unfold execAclUnfreeze
  rw [State.gated_serves _ _ _ _ hserves, h]
  rfl

theorem exec_freezeExpired (h : s.bit F.ACL_STATUS.FROZEN = true) :
    exec .freezeExpired s = .next (s.set1 F.ACL_ERR.FREEZE_EXPIRED).aclThaw := by
  show execFreezeExpired s = _
  unfold execFreezeExpired
  rw [h]
  rfl

theorem State.aclThaw_drains (h : s.acl.clearing = false) :
    s.aclThaw = ((s.wr F.ACL_STATUS.FROZEN 0).wr F.ACL_CTL.FREEZE 0).aclDrain := by
  unfold State.aclThaw
  simp only [State.clr_eq, State.wr_acl, h, Bool.false_eq_true, if_false]

/-- What the end of a freeze leaves when no record was lost. -/
theorem State.aclThaw_spec (hclear : s.acl.clearing = false) (hlost : s.acl.lost = 0) (hring : s.acl.ring.length ≤ 8192) :
    (s.aclThaw.rd F.ACL_CTL.FREEZE = 0 ∧ s.aclThaw.rd F.ACL_STATUS.FROZEN = 0 ∧ s.aclThaw.rd F.ACL_STATUS.QUEUED = 0) ∧
      s.aclThaw.acl.queue = [] ∧ s.aclThaw.acl.ring = (s.acl.queue.reverse ++ s.acl.ring).take 8192 ∧
      s.aclThaw.rd F.ACL_STATUS.NEXT = (s.rd F.ACL_STATUS.NEXT + s.acl.queue.length) % 2 ^ 32 ∧
      s.aclThaw.rd F.ACL_ERR.FREEZE_EXPIRED = s.rd F.ACL_ERR.FREEZE_EXPIRED ∧ sameMemories s s.aclThaw := by
  obtain ⟨hring', hqueue, -, hnext, -, hqueued, hfrozen, herr, -, hregs, hmem⟩ :=
    ((s.wr F.ACL_STATUS.FROZEN 0).wr F.ACL_CTL.FREEZE 0).aclDrain_spec hlost hring
  rw [State.aclThaw_drains hclear]
  refine ⟨⟨?_, ?_, hqueued⟩, hqueue, hring', ?_, ?_, hmem⟩
  · rw [regsApart_rd hregs _ _ _ (by decide)]
    exact State.rd_wr_same _ _ _ _ _ (by decide)
  · rw [hfrozen, State.rd_wr_off _ _ _ _ _ _ _ _ (by decide)]
    exact State.rd_wr_same _ _ _ _ _ (by decide)
  · rw [hnext, State.rd_wr_off _ _ _ _ _ _ _ _ (by decide), State.rd_wr_apart _ _ _ _ _ _ _ (by decide)]
    rfl
  · rw [herr _ _ (by decide), State.rd_wr_off _ _ _ _ _ _ _ _ (by decide), State.rd_wr_off _ _ _ _ _ _ _ _ (by decide)]

/-- The drain of a queue behind which records were lost ends in their record. -/
theorem State.aclDrain_lossy (hlost : s.acl.lost ≠ 0) :
    (s.aclDrain.acl.ring.head?.map (fun r => (r.event, r.data))) = some (0x0702, leBytes 4 s.acl.lost) ∧
      s.aclDrain.acl.queue = [] ∧ s.aclDrain.acl.lost = 0 ∧
      s.aclDrain.rd F.ACL_STATUS.NEXT = (s.rd F.ACL_STATUS.NEXT + s.acl.queue.length + 1) % 2 ^ 32 := by
  have hput := State.aclPut_puts s.acl.queue { s with acl := { s.acl with queue := [], lost := 0 } }
  have hacl := hput.acl
  have hnext := hput.next
  unfold State.aclDrain State.whenD
  simp only [Nat.pos_of_ne_zero hlost, decide_true, if_true]
  simp only [State.rd_mk] at hnext
  generalize s.acl.queue.foldl State.aclPut _ = t at *
  generalize hu : ({ t.wr F.ACL_STATUS.QUEUED 0 with acl := { (t.wr F.ACL_STATUS.QUEUED 0).acl with
    index := ((t.wr F.ACL_STATUS.QUEUED 0).acl.index + 1) % 2 ^ 32 } } : State) = u
  have hqueue : u.acl.queue = [] := by rw [← hu, State.wr_acl, hacl]
  have hzero : u.acl.lost = 0 := by rw [← hu, State.wr_acl, hacl]
  have hunext : u.rd F.ACL_STATUS.NEXT = t.rd F.ACL_STATUS.NEXT := by
    rw [← hu, State.rd_mk, State.rd_wr_apart _ _ _ _ _ _ _ (by decide)]
  have hone := u.aclPut_put ((t.wr F.ACL_STATUS.QUEUED 0).aclMake 0x0702 false (leBytes 4 s.acl.lost))
  refine ⟨?_, by rw [hone.acl, hqueue], by rw [hone.acl, hzero], ?_⟩
  · rw [State.aclPut_ring]
    rfl
  · rw [hone.next, hunext, hnext, List.length_singleton, Nat.mod_add_mod]

/-- An operation of the copier: its batch and the frames of its bus. -/
theorem exec_aclCopyStart {b : List AclRec} (hnone : s.acl.copying = none) (habsent : s.bit F.BOOT_STATUS.MRAM_ABSENT = false)
    (hbatch : copyBatch (s.acl.ring.take ((s.rd F.ACL_STATUS.NEXT + 2 ^ 32 - s.aclCopyFrom) % 2 ^ 32)).reverse = b) (hb : b ≠ []) :
    exec .aclCopyStart s = .next { s with acl := { s.acl with
      copying := some (s.aclCopyFrom, b), spi := s.copyFrames s.aclCopyFrom b } } := by
  show execAclCopyStart s = _
  unfold execAclCopyStart
  extract_lets from_ n batch
  have hbatch' : batch = b := hbatch
  rw [hbatch', hnone, habsent, if_neg (by simp [hb])]
  rfl

theorem length_copyBatch (rs : List AclRec) : (copyBatch rs).length ≤ 64 := by
  cases rs with
  | nil => decide
  | cons r rs =>
    simp only [copyBatch]
    split
    · exact Nat.le_of_ble_eq_true rfl
    · exact (List.takeWhile_sublist _).length_le.trans (by rw [List.length_take]; exact Nat.min_le_left _ _)

/-- The registers and the copy of a completed operation. -/
theorem exec_aclCopyDone_kept {p : Nat} {rs : List AclRec} (hcopy : s.acl.copying = some (p, rs)) (hlost : s.acl.copyLost = none)
    (t : State) (ht : t = s.mramPut p rs) :
    exec .aclCopyDone s = .next { t.wr F.ACL_COPY.COPIED (p + rs.length) with acl := { t.acl with copying := none } } := by
  have hlost' : t.acl.copyLost = none := by
    rw [ht, State.mramPut_parts]
    exact hlost
  show execAclCopyDone s = _
  unfold execAclCopyDone
  rw [hcopy]
  dsimp only
  rw [← ht]
  simp only [State.wr_acl, hlost']
  rfl

theorem exec_aclCopyDone_told {p f n : Nat} {rs : List AclRec} (hcopy : s.acl.copying = some (p, rs))
    (hlost : s.acl.copyLost = some (f, n)) (t u : State) (ht : t = s.mramPut p rs)
    (hu : u = { t.wr F.ACL_COPY.COPIED (p + rs.length) with acl := { t.acl with copying := none, copyLost := none } }) :
    exec .aclCopyDone s = .next (u.aclLog 0x0703 (leBytes 4 f ++ leBytes 4 n)) := by
  have hlost' : t.acl.copyLost = some (f, n) := by
    rw [ht, State.mramPut_parts]
    exact hlost
  show execAclCopyDone s = _
  unfold execAclCopyDone
  rw [hcopy]
  dsimp only
  rw [← ht, hu]
  simp only [State.wr_acl, hlost']
  rfl

theorem exec_aclWindowSelect_cursor {v : BitVec 32} (hserves : s.serves m F.ACL_CURSOR.POS.off = true) (t : State)
    (ht : t = (s.wr F.ACL_CURSOR.POS v.toNat).wr F.ACL_STATUS.WINDOW_READY 0) :
    exec (.aclWindowSelect m true v) s = .next (if t.aclCursorOk then t else t.wr F.ACL_ERR.CURSOR_INVALID 1) := by
  subst ht
  show execAclWindowSelect m true v s = _
  unfold execAclWindowSelect
  simp only [if_true]
  rw [State.gated_serves _ _ _ _ hserves]
  rfl

theorem exec_aclWindowSelect_source {v : BitVec 32} (hserves : s.serves m F.ACL_CTL.FREEZE.off = true) (t : State)
    (ht : t = (s.wr F.ACL_CTL.SOURCE v.toNat).wr F.ACL_STATUS.WINDOW_READY 0) :
    exec (.aclWindowSelect m false v) s = .next (if t.aclCursorOk then t else t.wr F.ACL_ERR.CURSOR_INVALID 1) := by
  subst ht
  show execAclWindowSelect m false v s = _
  unfold execAclWindowSelect
  simp only [Bool.false_eq_true, if_false]
  rw [State.gated_serves _ _ _ _ hserves]
  rfl

theorem exec_aclWindowFilled (hsource : s.bit F.ACL_CTL.SOURCE = true) :
    exec .aclWindowFilled s = .next { s.wr F.ACL_STATUS.WINDOW_READY 1 with acl := { s.acl with
      window := s.windowEntries.flatMap (fun a => memRead s.acl.mram a 48) ++ List.replicate 16 0#8
      spi := s.windowEntries.flatMap spiRead } } := by
  show execAclWindowFilled s = _
  unfold execAclWindowFilled
  rw [hsource]
  rfl

end

theorem State.aclCursorOk_invalid (s : State) : (s.wr F.ACL_ERR.CURSOR_INVALID 1).aclCursorOk = s.aclCursorOk := by
  unfold State.aclCursorOk State.mramEntries State.bit
  rw [State.rd_wr_off _ _ _ _ _ _ _ _ (by decide), State.rd_wr_off _ _ _ _ _ _ _ _ (by decide),
    State.rd_wr_off _ _ _ _ _ _ _ _ (by decide), State.rd_wr_off _ _ _ _ _ _ _ _ (by decide),
    State.rd_wr_off _ _ _ _ _ _ _ _ (by decide)]

/-- A window selected by a state that shows the selection: the flag of a window that names nothing. -/
theorem State.windowJudged (s : State) (t : State) (ht : t = if s.aclCursorOk then s else s.wr F.ACL_ERR.CURSOR_INVALID 1) :
    t.rd F.ACL_ERR.CURSOR_INVALID = (if t.aclCursorOk then s.rd F.ACL_ERR.CURSOR_INVALID else 1) ∧ RegsOnly s t ∧
      regsApart [F.ACL_ERR.CURSOR_INVALID.off] s t := by
  cases h : s.aclCursorOk with
  | true =>
    rw [h, if_pos rfl] at ht
    rw [ht, h, if_pos rfl]
    exact ⟨rfl, rfl, regsApart_refl⟩
  | false =>
    rw [h, if_neg (by decide)] at ht
    rw [ht, State.aclCursorOk_invalid, h, if_neg (by decide)]
    exact ⟨State.rd_wr_same _ _ _ _ _ (by decide), rfl, regsApart_wr _ _ regsApart_refl (by decide)⟩

theorem drop_flatMap_run {α β : Type} (f : α → List β) (n : Nat) (hf : ∀ x, (f x).length = n) (tail : List β) :
    ∀ (l : List α) (i : Nat) (h : i < l.length), ((l.flatMap f ++ tail).drop (n * i)).take n = f l[i] := by
  intro l
  induction l with
  | nil => exact fun i h => absurd h (Nat.not_lt_zero _)
  | cons x xs ih =>
    intro i h
    rw [List.flatMap_cons, List.append_assoc]
    cases i with
    | zero => rw [Nat.mul_zero, List.drop_zero, List.take_left' (hf x)]; rfl
    | succ i =>
      have hsplit : n * (i + 1) = (f x).length + n * i := by rw [hf]; ring
      rw [hsplit, List.drop_length_add_append, List.getElem_cons_succ]
      exact ih i _

theorem length_flatMap_run {α β : Type} (f : α → List β) (n : Nat) (hf : ∀ x, (f x).length = n) (l : List α) :
    (l.flatMap f).length = n * l.length := by
  induction l with
  | nil => rfl
  | cons x xs ih => rw [List.flatMap_cons, List.length_append, hf, ih, List.length_cons]; ring

theorem length_memRead (m : SMap Byte) (n : Nat) : ∀ a : Nat, (memRead m a n).length = n := by
  induction n with
  | zero => exact fun _ => rfl
  | succ n ih => exact fun a => congrArg (· + 1) (ih (a + 1))

/-- The one record that reports a loss to the copy takes the head of a ring with room. -/
theorem State.aclLog_lost (f n : Nat) (s : State) (hwait : s.aclWaiting = false) (hring : s.acl.ring.length < 8192) :
    (s.aclLog 0x0703 (leBytes 4 f ++ leBytes 4 n)).acl.ring.head?.map (fun r => (r.event, r.data)) =
        some (0x0703, leBytes 4 f ++ leBytes 4 n) ∧
      (s.aclLog 0x0703 (leBytes 4 f ++ leBytes 4 n)).acl.copying = s.acl.copying ∧
      (s.aclLog 0x0703 (leBytes 4 f ++ leBytes 4 n)).acl.copyLost = s.acl.copyLost := by
  have hlog : s.aclLog 0x0703 (leBytes 4 f ++ leBytes 4 n) =
      (s.indexed 0x0703).aclPut (s.aclMake 0x0703 false (leBytes 4 f ++ leBytes 4 n)) :=
    (if_pos rfl).trans (State.aclEnter_put (s := s.indexed 0x0703) _ hwait)
  have hput := (s.indexed 0x0703).aclPut_put (s.aclMake 0x0703 false (leBytes 4 f ++ leBytes 4 n))
  rw [hlog]
  refine ⟨?_, by rw [hput.acl]; rfl, hput.kept hring⟩
  rw [State.aclPut_ring]
  rfl

/-- Settles O55: a record put, held, lost or suppressed; the freeze and its two ends, with and without a loss; an operation of the
copier and its end; and the two windows. -/
theorem theAccessionLogTakesHoldsAndCopiesRecords : Obligations.TheAccessionLogTakesHoldsAndCopiesRecords := by
  unfold Obligations.TheAccessionLogTakesHoldsAndCopiesRecords
  refine ⟨fun s event data hdue hwait => ⟨_, exec_aclRecordEnter_due hdue _ rfl, ?_⟩,
    fun s event data hdue hwait hroom => ⟨_, exec_aclRecordEnter_due hdue _ rfl, ?_⟩,
    fun s event data hdue hwait hfull => ⟨_, exec_aclRecordEnter_due hdue _ rfl, ?_⟩,
    fun s event data hdue => ⟨_, exec_aclRecordEnter_suppressed hdue, ?_⟩,
    fun s m hserves hfrozen => ⟨_, exec_aclFreeze hserves hfrozen, ?_⟩,
    fun s m hserves hfrozen hclear hlost hring => ⟨_, exec_aclUnfreeze hserves hfrozen, ?_⟩,
    fun s m hserves hfrozen hclear hlost => ⟨_, exec_aclUnfreeze hserves hfrozen, ?_⟩,
    fun s hfrozen hclear hlost hring => ⟨_, exec_freezeExpired hfrozen, ?_⟩,
    fun s b hnone habsent hbatch hb => ⟨_, exec_aclCopyStart hnone habsent hbatch hb, rfl, ?_, rfl⟩,
    fun s p rs hcopy hlost hnext hlen => ⟨_, exec_aclCopyDone_kept hcopy hlost _ rfl, ?_⟩,
    fun s p f n rs hcopy hlost hwait hring => ⟨_, exec_aclCopyDone_told hcopy hlost _ _ rfl rfl, ?_⟩,
    fun s m v hserves => ⟨_, exec_aclWindowSelect_cursor hserves _ rfl, ?_⟩,
    fun s m v hserves => ⟨_, exec_aclWindowSelect_source hserves _ rfl, ?_⟩,
    fun s hsource => ⟨_, exec_aclWindowFilled hsource, ?_⟩⟩
  · have hput := (s.indexed event).aclPut_put (s.aclMake event false data)
    have hout := ((s.indexed event).aclPut_logged (s.aclMake event false data)).outside
    have hring := (s.indexed event).aclPut_ring (s.aclMake event false data)
    have hheld := (s.indexed event).aclPut_held (s.aclMake event false data)
    rw [State.aclEnter_put (s := s.indexed event) _ hwait]
    refine ⟨hring, by rw [hput.acl]; rfl, ?_, hout, hput.parts.sameMemories⟩
    rw [hput.next, hheld, hring, List.length_take, List.length_cons, Nat.min_comm]
    rfl
  · rw [State.aclEnter_held (s := s.indexed event) _ hwait hroom]
    refine ⟨rfl, Prod.ext rfl ?_, rfl, regsApart_wr _ _ (regsApart_regs regsApart_refl rfl) (by decide)⟩
    refine (State.rd_wr_same _ _ _ _ _ (by decide)).trans ?_
    rw [List.length_append, List.length_singleton]
    exact Nat.mod_eq_of_lt (show s.acl.queue.length + 1 < 2 ^ 9 by omega)
  · rw [State.aclEnter_lost (s := s.indexed event) _ hwait hfull, State.set1_eq, State.vector_eq _ _ (by decide)]
    refine ⟨rfl, Prod.ext (State.rd_wr_same _ _ _ _ _ (by decide)) ?_, ?_⟩
    · show State.rd _ F.ACL_COUNTS.HOLD_OVERFLOW = _
      rw [State.rd_mk, State.rd_wr_off _ _ _ _ _ _ _ _ (by decide), State.rd_incSat _ _ _ _ (by decide)]
      rfl
    · exact regsApart_regs (regsApart_wr _ _ (regsApart_wr _ _ (regsApart_regs regsApart_refl rfl) (by decide)) (by decide)) rfl
  · exact ⟨State.rd_incSat _ _ _ _ (by decide), rfl, regsApart_wr _ _ regsApart_refl (by decide)⟩
  · refine ⟨Prod.ext ?_ (State.rd_wr_same _ _ _ _ _ (by decide)), rfl,
      regsApart_regs (regsApart_wr _ _ (regsApart_wr _ _ regsApart_refl (by decide)) (by decide)) rfl⟩
    exact (State.rd_wr_off _ _ _ _ _ _ _ _ (by decide)).trans (State.rd_wr_same _ _ _ _ _ (by decide))
  · obtain ⟨⟨hfreeze, hfro, hqueued⟩, hqueue, hring', hnext, -, hmem⟩ := State.aclThaw_spec hclear hlost hring
    rw [hfreeze, hfro, hqueued, hqueue, hring']
    exact ⟨rfl, rfl, hnext, hmem⟩
  · rw [State.aclThaw_drains hclear]
    obtain ⟨hhead, hqueue, hzero, hnext⟩ :=
      State.aclDrain_lossy (s := (s.wr F.ACL_STATUS.FROZEN 0).wr F.ACL_CTL.FREEZE 0) hlost
    refine ⟨hhead, by rw [hqueue, hzero], ?_⟩
    rw [hnext, State.rd_wr_off _ _ _ _ _ _ _ _ (by decide), State.rd_wr_apart _ _ _ _ _ _ _ (by decide)]
    rfl
  · obtain ⟨⟨hfreeze, hfro, hqueued⟩, hqueue, hring', -, herr, -⟩ :=
      State.aclThaw_spec (s := s.wr F.ACL_ERR.FREEZE_EXPIRED 1) hclear hlost hring
    rw [State.set1_eq]
    refine ⟨?_, by rw [hfreeze, hfro, hqueued], by rw [hqueue, hring']; rfl⟩
    rw [herr]
    exact State.rd_wr_same _ _ _ _ _ (by decide)
  · exact hbatch ▸ length_copyBatch _
  · have hparts := s.mramPut_parts rs p
    have hnext' := s.mramPut_next rs p hnext
    have hentry := fun i => s.mramPut_entry rs p i hnext hlen
    have hout := fun x => s.mramPut_outside rs x p hnext
    generalize s.mramPut p rs = t at *
    have hregs : t.regs = s.regs := by rw [hparts]
    refine ⟨Prod.ext (State.rd_wr_same _ _ _ _ _ (by decide)) hnext', fun i hi => hentry i hi, fun x hx => hout x (fun i hi => ?_), ?_,
      regsApart_regs (regsApart_wr _ _ (regsApart_regs regsApart_refl hregs) (by decide)) rfl⟩
    · have := hx i hi
      unfold State.entryAt
      omega
    · obtain ⟨mram, next, rfl⟩ : ∃ mram next, t = { s with acl := { s.acl with mram := mram, mramNext := next } } := ⟨_, _, hparts⟩
      rfl
  · have hparts := s.mramPut_parts rs p
    generalize s.mramPut p rs = t at *
    obtain ⟨hhead, hcopying, hkept⟩ := State.aclLog_lost f n
      ({ t.wr F.ACL_COPY.COPIED (p + rs.length) with acl := { t.acl with copying := none, copyLost := none } } : State)
      (by
        unfold State.aclWaiting State.bit at hwait ⊢
        rw [State.rd_mk, State.rd_wr_off _ _ _ _ _ _ _ _ (by decide), hparts]
        exact hwait)
      (by rw [hparts]; exact hring)
    exact ⟨by rw [hcopying, hkept], hhead⟩
  · obtain ⟨hinvalid, honly, hregs⟩ := State.windowJudged _ _ rfl
    refine ⟨?_, ?_, RegsOnly.trans (RegsOnly.wr (RegsOnly.wr (RegsOnly.refl s) _ _) _ _) honly, ?_⟩
    · rw [regsApart_rd hregs _ _ _ (by decide), regsApart_rd hregs _ _ _ (by decide), State.rd_wr_off _ _ _ _ _ _ _ _ (by decide),
        State.rd_wr_same _ _ _ _ _ (by decide), State.rd_wr_same _ _ _ _ _ (by decide), Nat.mod_eq_of_lt v.isLt,
        Nat.zero_mod]
    · rw [hinvalid, State.rd_wr_off _ _ _ _ _ _ _ _ (by decide), State.rd_wr_off _ _ _ _ _ _ _ _ (by decide)]
    · exact regsApart_trans (regsApart_wr _ _ (regsApart_wr _ _ regsApart_refl (by decide)) (by decide)) (regsApart_mono hregs (by simp))
  · obtain ⟨hinvalid, honly, hregs⟩ := State.windowJudged _ _ rfl
    refine ⟨?_, ?_, RegsOnly.trans (RegsOnly.wr (RegsOnly.wr (RegsOnly.refl s) _ _) _ _) honly, ?_⟩
    · rw [regsApart_rd hregs _ _ _ (by decide), regsApart_rd hregs _ _ _ (by decide), State.rd_wr_off _ _ _ _ _ _ _ _ (by decide),
        State.rd_wr_same _ _ _ _ _ (by decide), State.rd_wr_same _ _ _ _ _ (by decide), Nat.zero_mod, Nat.pow_one]
    · rw [hinvalid, State.rd_wr_off _ _ _ _ _ _ _ _ (by decide), State.rd_wr_off _ _ _ _ _ _ _ _ (by decide)]
    · exact regsApart_trans (regsApart_wr _ _ (regsApart_wr _ _ regsApart_refl (by decide)) (by decide)) (regsApart_mono hregs (by simp))
  · have hlength : s.windowEntries.length = 85 := by
      unfold State.windowEntries
      rw [List.length_map, List.length_range]
    have hrun := drop_flatMap_run (fun a => memRead s.acl.mram a 48) 48 (fun a => length_memRead _ _ _) (List.replicate 16 0#8)
      s.windowEntries
    refine ⟨(State.rd_mk ..).trans (State.rd_wr_same _ _ _ _ _ (by decide)), fun i hi => ?_, ?_, rfl, ?_⟩
    · refine (hrun i (by omega)).trans ?_
      unfold State.windowEntries
      rw [List.getElem_map, List.getElem_range]
    · exact List.drop_left' (by rw [length_flatMap_run _ 48 (fun a => length_memRead _ _ _), hlength])
    · exact regsApart_regs (regsApart_wr _ _ regsApart_refl (by decide)) rfl

end Sys2Proof.Machine
end

section
/-! SUPPORT. A disable of the Ikisal link while a lane sends a block (R194, R275). -/
namespace Sys2Proof.Machine

/-- The link of a reset device in LISTEN, whose first lane sends a control block. -/
def State.linkSending : State := { State.reset.wr F.IKL_STATUS.STATE 1 with
  ikl := { State.reset.ikl with lanes := ⟨[], [], none, [], 0, some (true, [])⟩ :: State.reset.ikl.lanes.drop 1 } }

/-- The disable puts back the lanes as they stood before the link went to DISABLING, so that the block stays on its lane. -/
theorem exec_iklDisable_linkSending : ∃ t, exec (.iklDisable .keeper) State.linkSending = .next t ∧
    t.ikl.lanes = State.linkSending.ikl.lanes := by
  have hserves : State.linkSending.serves .keeper F.IKL_CTL.ENABLE.off = true := by decide +kernel
  have hstate : ((State.linkSending.clr F.IKL_CTL.ENABLE).clr F.IKL_STATUS.PENDING_ENABLE).rd F.IKL_STATUS.STATE = 1 := by decide +kernel
  refine ⟨State.linkSending.iklDisable, ?_, ?_⟩
  · show execIklDisable .keeper State.linkSending = _
    unfold execIklDisable
    rw [State.gated_serves _ _ _ _ hserves]
    rfl
  · unfold State.iklDisable
    simp only [hstate]
    rfl

/-- Refutes O46: a disable of a link that listens leaves on a lane the block that it was sending, where the statement has every
lane quiet. -/
theorem not_theIkisalLinkMovesBetweenItsStates : ¬ Obligations.TheIkisalLinkMovesBetweenItsStates := by
  unfold Obligations.TheIkisalLinkMovesBetweenItsStates
  rintro ⟨-, -, hdisable, -⟩
  obtain ⟨t, ht, -, -, hquiet, -⟩ := hdisable State.linkSending .keeper (by decide +kernel) (by decide +kernel) (by decide +kernel)
  obtain ⟨u, hu, hlanes⟩ := exec_iklDisable_linkSending
  have htu : t = u := by
    rw [hu] at ht
    injection ht with ht
    exact ht.symm
  exact absurd (hquiet ⟨[], [], none, [], 0, some (true, [])⟩ (by rw [htu, hlanes]; exact List.mem_cons_self)) (by decide)

end Sys2Proof.Machine
end

section
/-! SUPPORT. Steps that only announce, and the servos of the time bases (R253 to R260, R287). -/
namespace Sys2Proof.Machine

/-! ### Steps that only announce -/

/-- A step that changes registers of some blocks and the vectors that are due, and nothing else. -/
structure Told (blocks : Nat → Bool) (s t : State) : Prop where
  parts : t = { s with regs := t.regs, hif := { s.hif with due := t.hif.due } }
  outside : regsOutside blocks s t

namespace Told

variable {blocks : Nat → Bool} {s t u : State}

theorem refl (blocks : Nat → Bool) (s : State) : Told blocks s s := ⟨rfl, regsOutside_refl⟩

theorem trans (h : Told blocks s t) (h' : Told blocks t u) : Told blocks s u := by
  obtain ⟨hparts, hout⟩ := h
  obtain ⟨hparts', hout'⟩ := h'
  exact ⟨by rw [hparts', hparts], regsOutside_trans hout hout'⟩

theorem of_regs (h : RegsOnly s t) (hout : regsOutside blocks s t) : Told blocks s t := ⟨by rw [h], hout⟩

theorem wr (h : Told blocks s t) (f : Field) (v : Nat) (hf : blocks (f.off / 0x10000) = true) : Told blocks s (t.wr f v) :=
  h.trans ⟨rfl, regsOutside_wr _ _ regsOutside_refl hf⟩

theorem setReg (h : Told blocks s t) (o : Nat) (v : Word) (ho : blocks (o / 0x10000) = true) : Told blocks s (t.setReg o v) :=
  h.trans ⟨rfl, regsOutside_setReg _ _ regsOutside_refl ho⟩

theorem incSat (h : Told blocks s t) (f : Field) (hf : blocks (f.off / 0x10000) = true) : Told blocks s (t.incSat f) := h.wr f _ hf

theorem ite (c : Prop) [Decidable c] (h : Told blocks s t) (h' : Told blocks s u) : Told blocks s (if c then t else u) := by
  split
  · exact h
  · exact h'

theorem vector (h : Told blocks s t) (v : Nat) : Told blocks s (t.vector v) := by
  unfold State.vector
  exact ite _ (h.trans ⟨rfl, fun _ _ => rfl⟩) h

theorem source (h : Told blocks s t) (i : Nat) (hb : blocks 0x20 = true) : Told blocks s (t.source i) := by
  unfold State.source
  by_cases hi : i ≤ 27
  · rw [if_pos hi]
    refine h.wr _ _ ?_
    rw [show (F.DOC_ROUTE.PENDING i).off / 0x10000 = 0x20 by simp only; omega, hb]
  · rw [if_neg hi]
    exact h

theorem announce (h : Told blocks s t) (v i : Nat) (hb : blocks 0x20 = true) : Told blocks s (t.announce v i) :=
  (h.vector v).source i hb

end Told

/-- A field of a register that an announcement does not write. -/
theorem State.rd_announce (s : State) (v i o l w : Nat) (ho : o < 0x200200 ∨ 0x2002E0 ≤ o) : (s.announce v i).rd ⟨o, l, w⟩ = s.rd ⟨o, l, w⟩ := by
  have hvector : (s.vector v).rd ⟨o, l, w⟩ = s.rd ⟨o, l, w⟩ := by
    unfold State.vector
    split <;> rfl
  unfold State.announce State.source
  split
  · exact (State.rd_wr_off _ _ _ _ _ _ _ _ (show 0x200200 + 0x8 * i ≠ o by omega)).trans hvector
  · exact hvector

/-! ### The servo -/

/-- Blocks that a sample writes: TIM and DOC. -/
def servoBlocks (b : Nat) : Bool := b = 0x1C || b = 0x20

theorem servoField_eq (b : Nat) (hb : b < 2) : servoField b = ⟨0x1C0070, 2 * b, 2⟩ := by
  obtain rfl | rfl : b = 0 ∨ b = 1 := by omega
  · rfl
  · rfl

theorem State.servoState_eq (s : State) (b st : Nat) (hb : b < 2) : s.servoState b st =
    if s.rd ⟨0x1C0070, 2 * b, 2⟩ = st then s
    else if st = 3 then ((s.wr ⟨0x1C0070, 2 * b, 2⟩ st).announce 7 18).wr ⟨0x1C0078, 3 + b, 1⟩ 1
    else (s.wr ⟨0x1C0070, 2 * b, 2⟩ st).announce 7 18 := by
  unfold State.servoState
  rw [servoField_eq b hb]
  obtain rfl | rfl : b = 0 ∨ b = 1 := by omega
  · rfl
  · rfl

theorem State.servoState_told (s : State) (b st : Nat) (hb : b < 2) : Told servoBlocks s (s.servoState b st) := by
  rw [State.servoState_eq s b st hb]
  have hblock : servoBlocks (0x1C0070 / 0x10000) = true ∧ servoBlocks (0x1C0078 / 0x10000) = true ∧ servoBlocks 0x20 = true := by decide
  obtain ⟨hstate, herr, hdoc⟩ := hblock
  have h := ((Told.refl servoBlocks s).wr ⟨0x1C0070, 2 * b, 2⟩ st hstate).announce 7 18 hdoc
  exact Told.ite _ (Told.refl _ _) (Told.ite _ (h.wr _ _ herr) h)

theorem State.servoState_state (s : State) (b st : Nat) (hb : b < 2) (hst : st < 4) :
    (s.servoState b st).rd ⟨0x1C0070, 2 * b, 2⟩ = st := by
  have h : ((s.wr ⟨0x1C0070, 2 * b, 2⟩ st).announce 7 18).rd ⟨0x1C0070, 2 * b, 2⟩ = st := by
    rw [State.rd_announce _ _ _ _ _ _ (by decide), State.rd_wr_same _ _ _ _ _ (by omega)]
    exact Nat.mod_eq_of_lt hst
  rw [State.servoState_eq s b st hb]
  by_cases hs : s.rd ⟨0x1C0070, 2 * b, 2⟩ = st
  · rw [if_pos hs, hs]
  · rw [if_neg hs]
    split
    · rw [State.rd_wr_off _ _ _ _ _ _ _ _ (by decide), h]
    · exact h

/-- What a change of the servo's state leaves: every field but its own, the pending bit of source 18, and in HOLDOVER its flag. -/
theorem State.rd_servoState (s : State) (b st o l w : Nat) (hb : b < 2) (ho : o < 0x200200 ∨ 0x2002E0 ≤ o)
    (hstate : o = 0x1C0070 → l + w ≤ 2 * b ∨ 2 * b + 2 ≤ l) (hflag : st = 3 → o ≠ 0x1C0078) :
    (s.servoState b st).rd ⟨o, l, w⟩ = s.rd ⟨o, l, w⟩ := by
  have h : ((s.wr ⟨0x1C0070, 2 * b, 2⟩ st).announce 7 18).rd ⟨o, l, w⟩ = s.rd ⟨o, l, w⟩ := by
    rw [State.rd_announce _ _ _ _ _ _ ho]
    by_cases hoff : o = 0x1C0070
    · have := hstate hoff
      subst hoff
      exact State.rd_wr_apart _ _ _ _ _ _ _ (by omega)
    · exact State.rd_wr_off _ _ _ _ _ _ _ _ (Ne.symm hoff)
  rw [State.servoState_eq s b st hb]
  split
  · rfl
  · split
    · next h3 => rw [State.rd_wr_off _ _ _ _ _ _ _ _ (Ne.symm (hflag h3)), h]
    · exact h

/-- A field of n bits holds an integer that fits it. -/
theorem signed_unsigned (w : Nat) (v : Int) (hw : 0 < w) (hlo : -(2 ^ (w - 1) : Int) ≤ v) (hhi : v < (2 ^ (w - 1) : Int)) :
    signed w (unsigned w v % 2 ^ w) = v := by
  obtain ⟨n, rfl⟩ : ∃ n, w = n + 1 := ⟨w - 1, by omega⟩
  rw [Nat.add_sub_cancel] at hlo hhi
  have hpow : (2 : Int) ^ (n + 1) = 2 ^ n + 2 ^ n := by ring
  have hnat : (2 : Nat) ^ (n + 1) = 2 ^ n + 2 ^ n := by ring
  have hpos : (0 : Int) < 2 ^ n := by positivity
  have hcast : ((2 ^ n : Nat) : Int) = 2 ^ n := by push_cast; rfl
  have hmod : unsigned (n + 1) v % 2 ^ (n + 1) = unsigned (n + 1) v := Nat.mod_eq_of_lt (by
    unfold unsigned
    have := Int.emod_lt_of_pos v (show (0 : Int) < 2 ^ (n + 1) by positivity)
    have := Int.emod_nonneg v (show (2 : Int) ^ (n + 1) ≠ 0 by positivity)
    omega)
  unfold signed
  simp only [hmod, Nat.add_sub_cancel]
  by_cases hv : 0 ≤ v
  · have hval : (unsigned (n + 1) v : Int) = v := by
      unfold unsigned
      rw [Int.emod_eq_of_lt hv (by omega), Int.toNat_of_nonneg hv]
    rw [if_pos (by omega), hval]
  · have hval : (unsigned (n + 1) v : Int) = v + 2 ^ (n + 1) := by
      unfold unsigned
      rw [← Int.add_emod_right, Int.emod_eq_of_lt (by omega) (by omega), Int.toNat_of_nonneg (by omega)]
    rw [if_neg (by omega), hval]
    omega

theorem State.rdInt_wrInt (s : State) (o l w : Nat) (v : Int) (hl : l + w ≤ 64) (hw : 0 < w) (hlo : -(2 ^ (w - 1) : Int) ≤ v)
    (hhi : v < (2 ^ (w - 1) : Int)) : (s.wrInt ⟨o, l, w⟩ v).rdInt ⟨o, l, w⟩ = v := by
  unfold State.wrInt State.rdInt
  rw [State.rd_wr_same _ _ _ _ _ hl]
  exact signed_unsigned w v hw hlo hhi

theorem clampInt_between (a lo hi : Int) (h : lo ≤ hi) : lo ≤ clampInt a lo hi ∧ clampInt a lo hi ≤ hi := by
  unfold clampInt
  split
  · omega
  · split <;> omega

/-! ### Samples -/

/-- What a base's correction of a sample leaves, before its state follows (R257). -/
def State.slewed (s : State) (b : Nat) (o i : Int) (adj : Int) : State :=
  (s.setServo b i (s.servoRun b o)).wrInt (F.TIM_SERVO_STATE.ADJ b) adj

theorem State.servoSlew_eq (s : State) (b : Nat) (o mx i : Int) (hmx : mx = s.maxAdj b)
    (hi : i = clampInt (s.integ b + s.rd (F.TIM_SERVO.KI b) * o) (-mx) mx) : s.servoSlew b o =
    (s.slewed b o i (clampInt (rshr (s.rd (F.TIM_SERVO.KP b) * o + i) 16) (-(mx / 2 ^ 16)) (mx / 2 ^ 16))).servoTrack b o
      (s.servoRun b o) := by
  subst hmx hi
  rfl

/-- The state with the last sample shown. -/
def State.sampleShown (s : State) (b : Nat) (o : Int) : State :=
  s.wrInt (F.TIM_SERVO_STATE.LAST b) (clampInt (o / 2 ^ 16) (-(2 ^ 31 - 1)) (2 ^ 31 - 1))

/-- A sample step by step: `u` has no deferred step of an idle TB1 left, and `w` shows the sample. -/
theorem State.servoSample_eq (s : State) (b : Nat) (o : Int) (flag : Bool) (u w : State)
    (hu : u = if b = 1 && s.rd F.SLT_STATUS.STATE = 0 then s.clr F.TIM_STATUS.TB1_STEP_PENDING else s) (hw : w = u.sampleShown b o) :
    ∃ deferred, s.servoSample b o flag = if (!w.callsStep b o flag) = true then w.servoSlew b o
      else if (decide (b = 1) && !decide (s.rd F.SLT_STATUS.STATE = 0)) = true then deferred
      else (w.setBase b ((w.timeBase b).step o)).stepped b := by
  subst hw hu
  exact ⟨_, rfl⟩

theorem State.servoSample_slews {s : State} {o : Int} {w : State} (hw : w = s.sampleShown 0 o) (h : w.callsStep 0 o false = false) :
    s.servoSample 0 o false = w.servoSlew 0 o := by
  obtain ⟨_, heq⟩ := s.servoSample_eq 0 o false s w rfl hw
  rw [heq, h, if_pos (by decide)]

theorem State.servoSample_steps {s : State} {o : Int} {flag : Bool} {w : State} (hw : w = s.sampleShown 0 o)
    (h : w.callsStep 0 o flag = true) : s.servoSample 0 o flag = ({ w with tb0 := w.tb0.step o } : State).stepped 0 := by
  obtain ⟨_, heq⟩ := s.servoSample_eq 0 o flag s w rfl hw
  rw [heq, h, if_neg (by decide), if_neg (by simp)]
  rfl

/-- A sample that steps TB1, while no leaf is in progress. -/
theorem State.servoSample_steps1 {s : State} {o : Int} (hidle : s.rd F.SLT_STATUS.STATE = 0) {w : State}
    (hw : w = (s.wr F.TIM_STATUS.TB1_STEP_PENDING 0).sampleShown 1 o) (h : w.callsStep 1 o false = true) :
    s.servoSample 1 o false = ({ w with tb1 := w.tb1.step o } : State).stepped 1 := by
  obtain ⟨_, heq⟩ := s.servoSample_eq 1 o false (s.wr F.TIM_STATUS.TB1_STEP_PENDING 0) w
    (by rw [if_pos (by simpa using hidle), State.clr_eq]) hw
  rw [heq, h, if_neg (by decide), if_neg (by simp [hidle])]
  rfl

/-! ### What a step and a correction leave -/

theorem State.setServo_zero (s : State) (i : Int) (r : Nat) : s.setServo 0 i r = { s with tim := { s.tim with integ0 := i, run0 := r } } := rfl
theorem State.setServo_one (s : State) (i : Int) (r : Nat) : s.setServo 1 i r = { s with tim := { s.tim with integ1 := i, run1 := r } } := rfl

theorem State.rd_setServo (s : State) (b : Nat) (i : Int) (r : Nat) (f : Field) : (s.setServo b i r).rd f = s.rd f := by
  unfold State.setServo
  split <;> rfl

theorem State.setServo_outside (s : State) (b : Nat) (i : Int) (r : Nat) (blocks : Nat → Bool) : regsOutside blocks s (s.setServo b i r) := by
  unfold State.setServo
  split <;> exact fun _ _ => rfl

/-- What a step leaves beside its base. -/
theorem State.stepped_spec (s : State) (b : Nat) (hb : b < 2) :
    Told servoBlocks (s.setServo b 0 0) (s.stepped b) ∧ (s.stepped b).rd ⟨0x1C0070, 2 * b, 2⟩ = 1 ∧
      (s.stepped b).rd F.TIM_COUNTS.STEPS = min (s.rd F.TIM_COUNTS.STEPS + 1) (2 ^ 16 - 1) ∧
      (∀ o l w, o < 0x200200 ∨ 0x2002E0 ≤ o → (o = 0x1C0070 → l + w ≤ 2 * b ∨ 2 * b + 2 ≤ l) → o ≠ 0x1C0080 →
        (s.stepped b).rd ⟨o, l, w⟩ = s.rd ⟨o, l, w⟩) := by
  have hzero := s.rd_setServo b 0 0
  unfold State.stepped
  generalize s.setServo b 0 0 = u at *
  refine ⟨((Told.refl _ u).incSat _ (by decide)).trans (State.servoState_told _ b 1 hb), State.servoState_state _ b 1 hb (by decide), ?_, ?_⟩
  · rw [State.rd_servoState _ _ _ _ _ _ hb (by decide) (fun h => absurd h (by decide)) (by decide), State.rd_incSat _ _ _ _ (by decide), hzero]
  · intro o l w ho hstate hsteps
    rw [State.rd_servoState _ _ _ _ _ _ hb ho hstate (fun h => absurd h (by decide))]
    unfold State.incSat State.addSat
    rw [State.rd_wr_off _ _ _ _ _ _ _ _ (Ne.symm hsteps), hzero]

theorem State.servoTrack_told (s : State) (b : Nat) (o : Int) (run : Nat) (hb : b < 2) : Told servoBlocks s (s.servoTrack b o run) := by
  unfold State.servoTrack
  exact Told.ite _ (Told.ite _ (s.servoState_told b 2 hb) (Told.refl _ _))
    (Told.ite _ (Told.ite _ (s.servoState_told b 1 hb) (Told.refl _ _)) (s.servoState_told b 1 hb))

/-- A sample that does not step its base leaves every field but that of its servo's state, and the pending bit of source 18. -/
theorem State.rd_servoTrack (s : State) (b : Nat) (x : Int) (run o l w : Nat) (hb : b < 2) (ho : o < 0x200200 ∨ 0x2002E0 ≤ o)
    (hstate : o ≠ 0x1C0070) : (s.servoTrack b x run).rd ⟨o, l, w⟩ = s.rd ⟨o, l, w⟩ := by
  have h : ∀ st, st ≠ 3 → (s.servoState b st).rd ⟨o, l, w⟩ = s.rd ⟨o, l, w⟩ := fun st hst =>
    s.rd_servoState b st o l w hb ho (fun h => absurd h hstate) (fun h => absurd h hst)
  have h1 := h 1 (by decide)
  have h2 := h 2 (by decide)
  unfold State.servoTrack
  dsimp only
  split
  · split
    · exact h2
    · rfl
  · split
    · split
      · exact h1
      · rfl
    · exact h1

theorem State.servoTrack_acquiring (s : State) (o : Int) (run : Nat) (h : s.rd F.TIM_STATUS.TB0_STATE = 1) :
    (s.servoTrack 0 o run).rd F.TIM_STATUS.TB0_STATE = if 8 ≤ run then 2 else 1 := by
  have htrack : s.servoTrack 0 o run = if 8 ≤ run then s.servoState 0 2 else s := by
    unfold State.servoTrack
    rw [servoField_eq 0 (by decide)]
    dsimp only
    rw [if_pos h]
  rw [htrack]
  split
  · exact s.servoState_state 0 2 (by decide) (by decide)
  · exact h

theorem State.rd_wrInt_off (s : State) (o l w o' l' w' : Nat) (v : Int) (h : o ≠ o') : (s.wrInt ⟨o, l, w⟩ v).rd ⟨o', l', w'⟩ = s.rd ⟨o', l', w'⟩ :=
  State.rd_wr_off _ _ _ _ _ _ _ _ h

theorem State.wrInt_regs (s : State) (f : Field) (v : Int) : RegsOnly s (s.wrInt f v) := (RegsOnly.refl s).wr _ _

/-- What a correction of TB0 leaves, from the state that shows its sample. -/
theorem State.servoSlew_spec (s : State) (o mx i : Int) (hmx : mx = (s.rd (F.TIM_SERVO.MAX_PPM 0) * 1000 * 2 ^ 24 : Nat))
    (hi : i = clampInt (s.tim.integ0 + s.rd (F.TIM_SERVO.KI 0) * o) (-mx) mx) (t : State) (ht : t = s.servoSlew 0 o) :
    t.tim = { s.tim with integ0 := i, run0 := s.servoRun 0 o } ∧
      t.rdInt (F.TIM_SERVO_STATE.ADJ 0) = clampInt (rshr (s.rd (F.TIM_SERVO.KP 0) * o + i) 16) (-(mx / 2 ^ 16)) (mx / 2 ^ 16) ∧
      t.rdInt (F.TIM_SERVO_STATE.LAST 0) = s.rdInt (F.TIM_SERVO_STATE.LAST 0) ∧
      (s.rd F.TIM_STATUS.TB0_STATE = 1 → t.rd F.TIM_STATUS.TB0_STATE = if 8 ≤ t.tim.run0 then 2 else 1) ∧
      Told servoBlocks { s with tim := { s.tim with integ0 := i, run0 := s.servoRun 0 o } } t := by
  rw [State.servoSlew_eq s 0 o mx i hmx hi] at ht
  have hlimit : 0 ≤ mx / 2 ^ 16 ∧ mx / 2 ^ 16 < 2 ^ 31 := by
    have := State.rd_lt s (F.TIM_SERVO.MAX_PPM 0)
    have hwidth : (F.TIM_SERVO.MAX_PPM 0).width = 8 := rfl
    rw [hwidth] at this
    rw [hmx]
    push_cast
    omega
  generalize hadj : clampInt (rshr (s.rd (F.TIM_SERVO.KP 0) * o + i) 16) (-(mx / 2 ^ 16)) (mx / 2 ^ 16) = adj at ht
  have hfit : -(mx / 2 ^ 16) ≤ adj ∧ adj ≤ mx / 2 ^ 16 := by
    rw [← hadj]
    exact clampInt_between _ _ _ (by omega)
  generalize hrun : s.servoRun 0 o = run at *
  have hslewed : s.slewed 0 o i adj =
      ({ s with tim := { s.tim with integ0 := i, run0 := run } } : State).wrInt (F.TIM_SERVO_STATE.ADJ 0) adj := by
    unfold State.slewed
    rw [State.setServo_zero, hrun]
  rw [hslewed] at ht
  generalize hv : ({ s with tim := { s.tim with integ0 := i, run0 := run } } : State) = v at *
  have hvrd : ∀ f, v.rd f = s.rd f := fun f => by rw [← hv]; rfl
  have hvtim : v.tim = { s.tim with integ0 := i, run0 := run } := by rw [← hv]
  have htold : Told servoBlocks v (v.wrInt (F.TIM_SERVO_STATE.ADJ 0) adj) := (Told.refl _ v).wr _ _ (by decide)
  have hadjrd := v.rdInt_wrInt 0x1C0088 0 32 adj (by decide) (by decide) (by omega) (by omega)
  have hlast : (v.wrInt (F.TIM_SERVO_STATE.ADJ 0) adj).rd (F.TIM_SERVO_STATE.LAST 0) = s.rd (F.TIM_SERVO_STATE.LAST 0) :=
    (State.rd_wr_apart _ _ _ _ _ _ _ (by decide)).trans (hvrd _)
  have hstate : (v.wrInt (F.TIM_SERVO_STATE.ADJ 0) adj).rd F.TIM_STATUS.TB0_STATE = s.rd F.TIM_STATUS.TB0_STATE :=
    (State.rd_wr_off _ _ _ _ _ _ _ _ (by decide)).trans (hvrd _)
  generalize v.wrInt (F.TIM_SERVO_STATE.ADJ 0) adj = w at *
  have htrack := htold.trans (w.servoTrack_told 0 o run (by decide))
  have htim : t.tim = { s.tim with integ0 := i, run0 := run } := by rw [ht, htrack.parts, hvtim]
  refine ⟨htim, ?_, ?_, fun h => ?_, ht ▸ htrack⟩
  · rw [ht]
    unfold State.rdInt at hadjrd ⊢
    rw [State.rd_servoTrack _ _ _ _ _ _ _ (by decide) (by decide) (by decide)]
    exact hadjrd
  · rw [ht]
    unfold State.rdInt
    rw [State.rd_servoTrack _ _ _ _ _ _ _ (by decide) (by decide) (by decide), hlast]
  · rw [htim, ht]
    exact w.servoTrack_acquiring o run (hstate.trans h)

end Sys2Proof.Machine
end

section
/-! SUPPORT. The commands of the time bases, and the exchange of a pair (R255 to R260, R287). -/
namespace Sys2Proof.Machine

/-! ### The commands -/

section
variable {s : State} {m : Master}

theorem State.callsStep_congr {t : State} (b : Nat) (o : Int) (flag : Bool)
    (h : t.rd (F.TIM_SERVO.STEP_NS b) = s.rd (F.TIM_SERVO.STEP_NS b)) : t.callsStep b o flag = s.callsStep b o flag := by
  unfold State.callsStep
  rw [h]

/-- Whether an offset calls for a step, as the statements write it. -/
theorem State.callsStep_iff (b : Nat) (o : Int) (flag : Bool) :
    s.callsStep b o flag = true ↔ flag = true ∨ (s.rd (F.TIM_SERVO.STEP_NS b) : Int) * 2 ^ 16 ≤ o.natAbs := by
  unfold State.callsStep
  rw [Bool.or_eq_true, decide_eq_true_eq]
  norm_cast

/-- A sample, with the content `x` of its register, the state `u` that holds it, and what `x` says. -/
theorem exec_timSampleWrite_eq {b : Fin 2} {w : BusWidth} {v : WrittenSample} (hserves : s.serves m (F.TIM_SAMPLE.OFFSET b).off = true)
    (x : Nat) (hx : x = (s.staged (F.TIM_SAMPLE.OFFSET b).off w v.value).toNat) (o : Int) (ho : o = signed 48 x) (flag : Bool)
    (hflag : flag = decide (x / 2 ^ 48 % 2 = 1)) (u : State) (hu : u = s.setReg (F.TIM_SAMPLE.OFFSET b).off (BitVec.ofNat 64 x)) :
    exec (.timSampleWrite m b w v) s = .next
      (if (decide (b.val = 1) && decide (u.rd F.TIM_CFG.TB1_SOURCE ≠ 2)) = true then u.set1 F.TIM_ERR.SAMPLE_IGNORED
      else (u.servoSample b o flag).sampleDrop b
        (v.sampled && (u.callsStep b o flag && (decide (b.val = 0) || decide (u.rd F.SLT_STATUS.STATE = 0))))) := by
  subst hu hflag ho hx
  show execTimSampleWrite m b w v s = _
  unfold execTimSampleWrite
  dsimp only
  rw [State.gated_serves _ _ _ _ hserves]
  rfl

theorem exec_timSampleWrite {v : BitVec 64} {sampled : Bool} (hserves : s.serves m (F.TIM_SAMPLE.OFFSET 0).off = true) (o : Int)
    (ho : o = signed 48 v.toNat) (flag : Bool) (hflag : flag = decide (v.toNat / 2 ^ 48 % 2 = 1)) (u : State)
    (hu : u = s.setReg (F.TIM_SAMPLE.OFFSET 0).off v) : exec (.timSampleWrite m 0 .w64 ⟨v, sampled⟩) s =
      .next ((u.servoSample 0 o flag).sampleDrop 0 (sampled && u.callsStep 0 o flag)) := by
  have hval : u = s.setReg (F.TIM_SAMPLE.OFFSET 0).off (BitVec.ofNat 64 v.toNat) := by rw [hu, BitVec.ofNat_toNat, BitVec.setWidth_eq]
  rw [exec_timSampleWrite_eq (b := 0) hserves v.toNat rfl o ho flag hflag u hval, if_neg (by simp)]
  simp only [Fin.val_zero, decide_true, Bool.true_or, Bool.and_true]

theorem exec_timSampleWrite_ignored {v : BitVec 64} {sampled : Bool} (hserves : s.serves m (F.TIM_SAMPLE.OFFSET 1).off = true)
    (hsource : s.rd F.TIM_CFG.TB1_SOURCE ≠ 2) (u : State) (hu : u = s.setReg (F.TIM_SAMPLE.OFFSET 1).off v) :
    exec (.timSampleWrite m 1 .w64 ⟨v, sampled⟩) s = .next (u.wr F.TIM_ERR.SAMPLE_IGNORED 1) := by
  have hval : u = s.setReg (F.TIM_SAMPLE.OFFSET 1).off (BitVec.ofNat 64 v.toNat) := by rw [hu, BitVec.ofNat_toNat, BitVec.setWidth_eq]
  have hsource' : u.rd F.TIM_CFG.TB1_SOURCE ≠ 2 := by
    rw [hu, State.rd_setReg_off _ _ _ _ _ _ (by decide)]
    exact hsource
  rw [exec_timSampleWrite_eq (b := 1) hserves v.toNat rfl _ rfl _ rfl u hval, if_pos (by simpa using hsource'), State.set1_eq]

theorem exec_tb1HwSample (hon : s.onTb0 = true) (o : Int) (ho : o = ((s.tb0.total : Int) - s.tb1.total) / 2 ^ 32) :
    exec .tb1HwSample s = .next (s.servoSample 1 o false) := by
  show execTb1HwSample s = _
  unfold execTb1HwSample
  rw [if_pos hon, ho]
  rfl

/-- New seconds, with the state `u` that holds the register. -/
theorem exec_timSetWrite_eq {b : Fin 3} {w : BusWidth} {v : BitVec 64} {sampled : Bool}
    (hserves : s.serves m (F.TIM_SET.SEC b).off = true) (x : Word) (hx : x = s.staged (F.TIM_SET.SEC b).off w v) (u : State)
    (hu : u = s.setReg (F.TIM_SET.SEC b).off x) (sec : Nat) (hsec : sec = x.toNat % 2 ^ 48) :
    exec (.timSetWrite m b w v sampled) s = .next
      (if b.val = 2 then u.set1 F.TIM_ERR.SAMPLE_IGNORED
      else if (decide (b.val = 1) && decide (u.rd F.SLT_STATUS.STATE ≠ 0)) = true then u.set1 F.TIM_ERR.STEP_DEFERRED
      else ((u.setBase b { u.timeBase b with sec := sec }).stepped b).sampleDrop b sampled) := by
  subst hsec hu hx
  show execTimSetWrite m b w v sampled s = _
  unfold execTimSetWrite
  dsimp only
  rw [State.gated_serves _ _ _ _ hserves]
  rfl

theorem exec_timSetWrite {v : BitVec 64} {sampled : Bool} (hserves : s.serves m (F.TIM_SET.SEC 0).off = true) (u : State)
    (hu : u = s.setReg (F.TIM_SET.SEC 0).off v) (sec : Nat) (hsec : sec = v.toNat % 2 ^ 48) :
    exec (.timSetWrite m 0 .w64 v sampled) s =
      .next ((({ u with tb0 := { u.tb0 with sec := sec } } : State).stepped 0).sampleDrop 0 sampled) := by
  rw [exec_timSetWrite_eq (b := 0) hserves v rfl u hu sec hsec, if_neg (by decide), if_neg (by simp)]
  rfl

theorem exec_timSetWrite_ignored {v : BitVec 64} {sampled : Bool} (hserves : s.serves m (F.TIM_SET.SEC 2).off = true) (u : State)
    (hu : u = s.setReg (F.TIM_SET.SEC 2).off v) :
    exec (.timSetWrite m 2 .w64 v sampled) s = .next (u.wr F.TIM_ERR.SAMPLE_IGNORED 1) := by
  rw [exec_timSetWrite_eq (b := 2) hserves v rfl u hu _ rfl, if_pos (by decide), State.set1_eq]

theorem exec_servoHoldoverTimeout (b : Fin 2) (h : s.rd (servoField b) = 1 ∨ s.rd (servoField b) = 2) :
    exec (.servoHoldoverTimeout b) s = .next (s.servoState b 3) := by
  show execServoHoldoverTimeout b s = _
  unfold execServoHoldoverTimeout
  dsimp only
  rw [if_pos (by simpa using h)]
  rfl

end

/-- What the discard of a hardware sample in the cycle of a step of TB0 leaves. -/
theorem State.sampleDrop_spec (s : State) (sampled : Bool) (t : State) (ht : t = s.sampleDrop 0 sampled) :
    t.bit F.TIM_ERR.SAMPLE_DISCARDED = (s.bit F.TIM_ERR.SAMPLE_DISCARDED || (sampled && s.onTb0)) ∧
      (∀ o l w, o ≠ 0x1C0078 → t.rd ⟨o, l, w⟩ = s.rd ⟨o, l, w⟩) ∧ RegsOnly s t ∧ regsApart [F.TIM_ERR.SAMPLE_DISCARDED.off] s t := by
  have hdrop : s.sampleDrop 0 sampled = if (sampled && s.onTb0) = true then s.wr F.TIM_ERR.SAMPLE_DISCARDED 1 else s := rfl
  rw [hdrop] at ht
  subst ht
  split
  · next h =>
    rw [h, Bool.or_true]
    refine ⟨?_, fun o l w ho => State.rd_wr_off _ _ _ _ _ _ _ _ (Ne.symm ho), rfl, regsApart_wr _ _ regsApart_refl (by decide)⟩
    unfold State.bit
    rw [State.rd_wr_same _ _ _ _ _ (by decide)]
    rfl
  · next h =>
    rw [eq_false_of_ne_true h, Bool.or_false]
    exact ⟨rfl, fun _ _ _ _ => rfl, rfl, regsApart_refl⟩

theorem State.onTb0_congr {s t : State} (hsource : t.rd F.TIM_CFG.TB1_SOURCE = s.rd F.TIM_CFG.TB1_SOURCE)
    (hon : t.rd F.TIM_STATUS.TB1_ON_TB0 = s.rd F.TIM_STATUS.TB1_ON_TB0) : t.onTb0 = s.onTb0 := by
  unfold State.onTb0 State.bit
  rw [hsource, hon]

/-- What a step of TB0 leaves, with the discard of a hardware sample of its cycle: `u` is the state whose base has moved. -/
theorem State.steppedDropped_spec (s : State) (sampled : Bool) (t : State) (ht : t = (s.stepped 0).sampleDrop 0 sampled) :
    t.tb0 = s.tb0 ∧ t.tim = { s.tim with integ0 := 0, run0 := 0 } ∧
      t.rd F.TIM_COUNTS.STEPS = min (s.rd F.TIM_COUNTS.STEPS + 1) (2 ^ 16 - 1) ∧
      t.bit F.TIM_ERR.SAMPLE_DISCARDED = (s.bit F.TIM_ERR.SAMPLE_DISCARDED || (sampled && s.onTb0)) ∧
      t.rd F.TIM_STATUS.TB0_STATE = 1 ∧ Told servoBlocks { s with tim := { s.tim with integ0 := 0, run0 := 0 } } t := by
  obtain ⟨htold, hstate, hsteps, hrest⟩ := s.stepped_spec 0 (by decide)
  rw [State.setServo_zero] at htold
  obtain ⟨hbit, hrd, honly, hregs⟩ := (s.stepped 0).sampleDrop_spec sampled t ht
  have hdropped : (s.stepped 0).bit F.TIM_ERR.SAMPLE_DISCARDED = s.bit F.TIM_ERR.SAMPLE_DISCARDED := by
    unfold State.bit
    rw [hrest _ _ _ (by decide) (by decide) (by decide)]
  have hon : (s.stepped 0).onTb0 = s.onTb0 :=
    State.onTb0_congr (hrest _ _ _ (by decide) (by decide) (by decide)) (hrest _ _ _ (by decide) (by decide) (by decide))
  have htold' := htold.trans (Told.of_regs honly (regsOutside_of_apart hregs (by decide)))
  refine ⟨by rw [htold'.parts], by rw [htold'.parts], ?_, ?_, ?_, htold'⟩
  · rw [hrd _ _ _ (by decide), hsteps]
  · rw [hbit, hdropped, hon]
  · rw [hrd _ _ _ (by decide)]
    exact hstate

/-- The state that shows a sample. -/
theorem State.sampleShown_spec (s : State) (b : Nat) (hb : b < 2) (o : Int) (w : State) (hw : w = s.sampleShown b o) :
    (∀ o' l n, o' ≠ 0x1C0088 + 0x8 * b → w.rd ⟨o', l, n⟩ = s.rd ⟨o', l, n⟩) ∧
      w.rdInt (F.TIM_SERVO_STATE.LAST b) = clampInt (o / 2 ^ 16) (-(2 ^ 31 - 1)) (2 ^ 31 - 1) ∧ RegsOnly s w ∧
      Told servoBlocks s w := by
  have hlimit := clampInt_between (o / 2 ^ 16) (-(2 ^ 31 - 1)) (2 ^ 31 - 1) (by decide)
  unfold State.sampleShown at hw
  generalize clampInt (o / 2 ^ 16) (-(2 ^ 31 - 1)) (2 ^ 31 - 1) = x at *
  have hblock : servoBlocks ((0x1C0088 + 0x8 * b) / 0x10000) = true := by
    rw [show (0x1C0088 + 0x8 * b) / 0x10000 = 0x1C by omega]
    decide
  subst hw
  exact ⟨fun o' l n h => State.rd_wrInt_off _ _ _ _ _ _ _ _ (Ne.symm h),
    State.rdInt_wrInt _ _ 32 32 x (by decide) (by decide) (by norm_num; omega) (by norm_num; omega),
    (RegsOnly.refl s).wr _ _, (Told.refl _ s).wr _ _ hblock⟩

/-- A step of TB1 by a sample of an idle tracker, from the state that shows it. -/
theorem State.servoSample_tb1 (s : State) (o : Int) (hidle : s.rd F.SLT_STATUS.STATE = 0)
    (hstep : (s.rd (F.TIM_SERVO.STEP_NS 1) : Int) * 2 ^ 16 ≤ o.natAbs) (t : State) (ht : t = s.servoSample 1 o false) :
    t.tb1 = s.tb1.step o ∧ t.tim = { s.tim with integ1 := 0, run1 := 0 } ∧ t.rd F.TIM_STATUS.TB1_STATE = 1 ∧
      t.rd F.TIM_STATUS.TB1_STEP_PENDING = 0 ∧
      t = { s with regs := t.regs, hif := { s.hif with due := t.hif.due }, tb1 := t.tb1, tim := t.tim } ∧
      regsOutside servoBlocks s t := by
  obtain ⟨hrd, -, honly, hshown⟩ := (s.wr F.TIM_STATUS.TB1_STEP_PENDING 0).sampleShown_spec 1 (by decide) o _ rfl
  have hcalls : ((s.wr F.TIM_STATUS.TB1_STEP_PENDING 0).sampleShown 1 o).callsStep 1 o false = true := by
    rw [State.callsStep_iff, hrd _ _ _ (by decide), State.rd_wr_off _ _ _ _ _ _ _ _ (by decide)]
    exact .inr hstep
  have hpending : ((s.wr F.TIM_STATUS.TB1_STEP_PENDING 0).sampleShown 1 o).rd F.TIM_STATUS.TB1_STEP_PENDING = 0 := by
    rw [hrd _ _ _ (by decide)]
    exact State.rd_wr_same _ _ _ _ _ (by decide)
  have hsteps := State.servoSample_steps1 hidle rfl hcalls
  have hpend := (Told.refl servoBlocks s).wr F.TIM_STATUS.TB1_STEP_PENDING 0 (by decide)
  have hshown' := hpend.trans hshown
  rw [hsteps] at ht
  generalize (s.wr F.TIM_STATUS.TB1_STEP_PENDING 0).sampleShown 1 o = w at *
  have hwtb : w.tb1 = s.tb1 := by rw [hshown'.parts]
  rw [hwtb] at ht
  obtain ⟨htold, hstate, -, hrest⟩ := State.stepped_spec ({ w with tb1 := s.tb1.step o } : State) 1 (by decide)
  generalize s.tb1.step o = base at *
  rw [← ht] at htold hstate hrest
  rw [State.setServo_one] at htold
  have hparts := htold.parts
  refine ⟨by rw [hparts], by rw [hparts, hshown'.parts], hstate, ?_, ?_, regsOutside_trans hshown'.outside htold.outside⟩
  · rw [hrest _ _ _ (by decide) (by decide) (by decide), State.rd_mk, hpending]
  · obtain ⟨regs, due, hw⟩ : ∃ regs due, w = { s with regs := regs, hif := { s.hif with due := due } } := ⟨_, _, hshown'.parts⟩
    obtain ⟨regs', due', ht'⟩ : ∃ regs due, t = { ({ w with tb1 := base, tim := { w.tim with integ1 := 0, run1 := 0 } } : State) with
        regs := regs, hif := { w.hif with due := due } } := ⟨_, _, hparts⟩
    rw [ht', hw]

/-- A step of TB0 from a state that has only shown what called for it. -/
theorem State.tb0Moved_spec {s w : State} (hw : Told servoBlocks s w) (hsteps : w.rd F.TIM_COUNTS.STEPS = s.rd F.TIM_COUNTS.STEPS)
    (hbit : w.rd F.TIM_ERR.SAMPLE_DISCARDED = s.rd F.TIM_ERR.SAMPLE_DISCARDED) (hon : w.onTb0 = s.onTb0) (base : TimeBase)
    (sampled : Bool) (t : State) (ht : t = (({ w with tb0 := base } : State).stepped 0).sampleDrop 0 sampled) :
    t.tb0 = base ∧ t.tim = { s.tim with integ0 := 0, run0 := 0 } ∧
      t.rd F.TIM_COUNTS.STEPS = min (s.rd F.TIM_COUNTS.STEPS + 1) (2 ^ 16 - 1) ∧
      t.bit F.TIM_ERR.SAMPLE_DISCARDED = (s.bit F.TIM_ERR.SAMPLE_DISCARDED || (sampled && s.onTb0)) ∧
      t.rd F.TIM_STATUS.TB0_STATE = 1 ∧
      t = { s with regs := t.regs, hif := { s.hif with due := t.hif.due }, tb0 := t.tb0, tim := t.tim } ∧
      regsOutside servoBlocks s t := by
  obtain ⟨htb, htim, hcount, hdropped, hstate, htold⟩ := State.steppedDropped_spec ({ w with tb0 := base } : State) sampled t ht
  have hparts := hw.parts
  refine ⟨htb, by rw [htim, hparts], ?_, ?_, hstate, ?_, regsOutside_trans hw.outside htold.outside⟩
  · rw [hcount, State.rd_mk, hsteps]
  · have honw : State.onTb0 { w with tb0 := base } = w.onTb0 := rfl
    rw [hdropped, honw, hon]
    unfold State.bit
    rw [State.rd_mk, hbit]
  · obtain ⟨regs, due, hw⟩ : ∃ regs due, w = { s with regs := regs, hif := { s.hif with due := due } } := ⟨_, _, hparts⟩
    obtain ⟨regs', due', ht'⟩ : ∃ regs due, t = { ({ w with tb0 := base, tim := { w.tim with integ0 := 0, run0 := 0 } } : State) with
        regs := regs, hif := { w.hif with due := due } } := ⟨_, _, htold.parts⟩
    rw [ht', hw]

/-- HOLDOVER entered: its flag and its announcement. -/
theorem State.holdover_spec (s : State) (b : Nat) (hb : b < 2) (h : s.rd ⟨0x1C0070, 2 * b, 2⟩ ≠ 3) (t : State) (ht : t = s.servoState b 3) :
    t.rd ⟨0x1C0078, 3 + b, 1⟩ = 1 ∧ t.rd (F.DOC_ROUTE.PENDING 18) = 1 ∧ t.hif.due.getLsbD 7 = true ∧
      regsApart [F.TIM_STATUS.TB0_STATE.off, F.TIM_ERR.HOLDOVER0.off, (F.DOC_ROUTE.PENDING 18).off] s t := by
  rw [State.servoState_eq s b 3 hb, if_neg h, if_pos rfl, State.announce_eq _ _ _ (by decide) (by decide)] at ht
  subst ht
  refine ⟨State.rd_wr_same _ _ _ _ _ (by omega), ?_, ?_, ?_⟩
  · rw [State.rd_wr_off _ _ _ _ _ _ _ _ (by decide)]
    exact State.rd_wr_same _ _ _ _ _ (by decide)
  · simp only [State.wr_hif]
    rw [getLsbD_or_bit64 _ _ _ (by decide)]
    simp
  · refine regsApart_wr _ _ (regsApart_wr _ _ (regsApart_regs (regsApart_wr _ _ regsApart_refl ?_) rfl) ?_) ?_
    · exact List.mem_cons_self
    · exact List.mem_cons_of_mem _ (List.mem_cons_of_mem _ List.mem_cons_self)
    · exact List.mem_cons_of_mem _ List.mem_cons_self

/-! ### A read of the seconds -/

theorem busHit_seconds (n : Fin 3) : busHit (F.TIM_TB_SEC.SEC n).off .w64 = .one (F.TIM_TB_SEC.SEC n).off fullMask := by
  revert n
  decide +kernel

theorem rcBits_seconds (n : Fin 3) : rcBits (F.TIM_TB_SEC.SEC n).off = 0 := by
  revert n
  decide +kernel

/-- A state after a read of a base's seconds at `o`: the word returned, and the nanoseconds kept for the masters. -/
def State.secondsRead (s : State) (o : Nat) (sec : Word) (latch : SMap Word) : State :=
  { ({ s with tim := { s.tim with latch := latch } } : State).setReg o (s.reg o) with readData := sec }

theorem State.secondsRead_spec (s : State) (o : Nat) (sec : Word) (latch : SMap Word) (t : State) (ht : t = s.secondsRead o sec latch) :
    t.readData = sec ∧ t.tim.latch = latch ∧
      t = { s with regs := t.regs, readData := t.readData, tim := { s.tim with latch := t.tim.latch } } ∧ regsApart [] s t := by
  subst ht
  refine ⟨rfl, rfl, rfl, fun x _ => ?_⟩
  unfold State.secondsRead
  rw [State.reg_mk]
  by_cases hx : x = o
  · rw [hx, State.reg_setReg_same]
  · exact State.reg_setReg_ne _ _ _ _ hx

theorem State.busRead_seconds {s : State} {m : Master} (n : Fin 3) (hs : s.silent m = false)
    (hread : s.readable m (F.TIM_TB_SEC.SEC n).off = true) :
    s.busRead m (F.TIM_TB_SEC.SEC n).off .w64 0 = s.secondsRead (F.TIM_TB_SEC.SEC n).off (BitVec.ofNat 64 (s.timeBase n).sec)
      (smSet (fun _ => 0#64) s.tim.latch (3 * latchPlace m + n) (s.timeBase n).nsWord) := by
  have hhit := busHit_seconds n
  have hrc := rcBits_seconds n
  have ho : (F.TIM_TB_SEC.SEC n).off = 0x1C0100 + 16 * n := rfl
  have hn := n.isLt
  have hplace : ((F.TIM_TB_SEC.SEC n).off - 0x1C0100) / 16 = n := by omega
  generalize hoff : (F.TIM_TB_SEC.SEC n).off = o at *
  obtain ⟨-, hrow, -⟩ := busHit_one hhit
  obtain ⟨⟨r, ix⟩, hrow⟩ := Option.isSome_iff_exists.mp hrow
  have hrc' : r.rc = 0 := by
    unfold rcBits at hrc
    rw [hrow] at hrc
    exact hrc
  have hview : s.view m o = BitVec.ofNat 64 (s.timeBase n).sec := by
    unfold State.view State.timView
    rw [hrow]
    dsimp only
    rw [if_neg (by simp only [Bool.and_eq_true, decide_eq_true_eq]; omega),
      if_neg (by simp only [Bool.and_eq_true, decide_eq_true_eq]; omega),
      if_pos (by simp only [Bool.and_eq_true, decide_eq_true_eq]; omega), if_pos (by omega), hplace]
  have hlatch : s.timLatch m o = { s with tim := { s.tim with
      latch := smSet (fun _ => 0#64) s.tim.latch (3 * latchPlace m + n) (s.timeBase n).nsWord } } := by
    unfold State.timLatch
    rw [if_pos (by simp only [Bool.and_eq_true, decide_eq_true_eq]; omega), hplace]
  generalize smSet (fun _ => 0#64) s.tim.latch (3 * latchPlace m + n) (s.timeBase n).nsWord = latch at *
  generalize BitVec.ofNat 64 (s.timeBase n).sec = sec at *
  have hpop : ∀ t : State, t.stampPop o fullMask = t := fun t => by
    unfold State.stampPop
    rw [if_neg (by simp only [Bool.and_eq_true, decide_eq_true_eq]; omega)]
  have hpmc : ∀ t : State, t.pmcLatch m o fullMask = t := fun t => by
    unfold State.pmcLatch inCounters
    rw [if_pos (by simp only [Bool.not_eq_true', Bool.and_eq_false_iff, decide_eq_false_iff_not]; omega)]
  unfold State.busRead
  rw [hs, if_neg (by decide), hhit]
  have hall : ∀ x : Word, x &&& BitVec.ofNat 64 fullMask = x := fun x => by
    rw [show BitVec.ofNat 64 fullMask = BitVec.allOnes 64 from rfl, BitVec.and_allOnes]
  have hleft : ∀ x : Word, (x &&& ~~~BitVec.ofNat 64 (0 &&& fullMask)) ||| (0 &&& BitVec.ofNat 64 (0 &&& fullMask)) = x := fun x => by
    rw [Nat.zero_and, show BitVec.ofNat 64 0 = 0#64 from rfl, BitVec.not_zero, BitVec.and_allOnes, BitVec.and_zero, BitVec.or_zero]
  have hother : ¬ (o / 0x10000 = 0x21 ∧ o % 0x100 = 0) ∧ ¬ (0x150020 ≤ o ∧ o < 0x150040) ∧ ¬ (0x210000 ≤ o ∧ o < 0x220000) ∧
      o ≠ 0x120010 := by omega
  obtain ⟨hcrc, hlac, hblock, hlow⟩ := hother
  simp only [State.readOne, hread, hrow, hlatch, hpop, hpmc, hview, hrc', hall, hcrc, hlac, hblock, Bool.not_true,
    Bool.false_eq_true, if_false, Bool.and_eq_true, decide_eq_true_eq, false_and, show fullMask ≠ highMask from by decide, hleft, hlow,
    State.reg_mk, State.secondsRead]

theorem exec_timSecRead {s : State} {m : Master} (n : Fin 3) (hs : s.silent m = false)
    (hread : s.readable m (F.TIM_TB_SEC.SEC n).off = true) : exec (.timSecRead m n .w64 false) s =
      .next (s.secondsRead (F.TIM_TB_SEC.SEC n).off (BitVec.ofNat 64 (s.timeBase n).sec)
        (smSet (fun _ => 0#64) s.tim.latch (3 * latchPlace m + n) (s.timeBase n).nsWord)) := by
  show execTimSecRead m n .w64 false s = _
  unfold execTimSecRead
  rw [if_neg (by decide), Nat.add_zero, State.busRead_seconds n hs hread]
  rfl

/-- Settles O41: a correction and a step of TB0, the samples that are ignored, the hardware's sample, new seconds, HOLDOVER and the
latch of the nanoseconds. -/
theorem theServosFollowTheirSamples : Obligations.TheServosFollowTheirSamples := by
  unfold Obligations.TheServosFollowTheirSamples
  refine ⟨fun s m v sampled o mx i hserves ho hflag hsmall hmx hi =>
      ⟨_, exec_timSampleWrite hserves o ho false (by rw [hflag]; decide) _ rfl, ?_⟩,
    fun s m v sampled o hserves ho hstep => ⟨_, exec_timSampleWrite hserves o ho (decide (v.toNat / 2 ^ 48 % 2 = 1)) rfl _ rfl, ?_⟩,
    fun s m v sampled hserves hsource => ⟨_, exec_timSampleWrite_ignored hserves hsource _ rfl, ?_⟩,
    fun s o hon hidle ho hstep => ⟨_, exec_tb1HwSample hon o ho, ?_⟩,
    fun s m v sampled hserves => ⟨_, exec_timSetWrite hserves _ rfl _ rfl, ?_⟩,
    fun s m v sampled hserves => ⟨_, exec_timSetWrite_ignored hserves _ rfl, ?_⟩,
    fun s b hstate => ⟨_, exec_servoHoldoverTimeout b hstate, ?_⟩,
    fun s m n hs hread => ⟨_, exec_timSecRead n hs hread, ?_⟩⟩
  · have hreg : ∀ o' l n, o' ≠ 0x1C0040 → (s.setReg (F.TIM_SAMPLE.OFFSET 0).off v).rd ⟨o', l, n⟩ = s.rd ⟨o', l, n⟩ :=
      fun o' l n h => State.rd_setReg_off _ _ _ _ _ _ (Ne.symm h)
    have htold := (Told.refl servoBlocks s).setReg (F.TIM_SAMPLE.OFFSET 0).off v (by decide)
    generalize s.setReg (F.TIM_SAMPLE.OFFSET 0).off v = u at *
    obtain ⟨hrd, hlast, -, hshown⟩ := u.sampleShown_spec 0 (by decide) o _ rfl
    have hcalls : u.callsStep 0 o false = false ∧ (u.sampleShown 0 o).callsStep 0 o false = false := by
      have hs : s.callsStep 0 o false = false := by
        rw [← Bool.not_eq_true, State.callsStep_iff]
        simpa using hsmall
      exact ⟨(State.callsStep_congr _ _ _ (hreg 0x1C0020 32 16 (by decide))).trans hs,
        (State.callsStep_congr _ _ _ ((hrd 0x1C0020 32 16 (by decide)).trans (hreg _ _ _ (by decide)))).trans hs⟩
    obtain ⟨hu, hw⟩ := hcalls
    have hslews := State.servoSample_slews rfl hw
    have hshown' := htold.trans hshown
    rw [hu, Bool.and_false, show ∀ x : State, x.sampleDrop 0 false = x from fun _ => rfl, hslews]
    have hall : ∀ o' l n, o' ≠ 0x1C0040 → o' ≠ 0x1C0088 → (u.sampleShown 0 o).rd ⟨o', l, n⟩ = s.rd ⟨o', l, n⟩ :=
      fun o' l n h h' => (hrd _ _ _ h').trans (hreg _ _ _ h)
    generalize u.sampleShown 0 o = w at *
    have hparts := hshown'.parts
    have htim : w.tim = s.tim := by rw [hparts]
    have hrun : w.servoRun 0 o =
        if (o.natAbs : Int) < (s.rd (F.TIM_SERVO.LOCK_NS 0) : Int) * 2 ^ 16 then s.tim.run0 + 1 else 0 := by
      unfold State.servoRun State.lockRun
      rw [hall _ _ _ (by decide) (by decide), htim, if_pos rfl]
      norm_cast
    obtain ⟨htim', hadj, hlast', hstate, htold'⟩ := w.servoSlew_spec o mx i (by rw [hall _ _ _ (by decide) (by decide), hmx])
      (by rw [hall _ _ _ (by decide) (by decide), htim, hi]) _ rfl
    generalize w.servoSlew 0 o = t at *
    rw [hrun, htim] at htim'
    have hparts' := htold'.parts
    refine ⟨htim', ?_, hlast'.trans hlast, fun h => hstate ?_, by rw [hparts', hparts], ?_, regsOutside_trans hshown'.outside htold'.outside⟩
    · rw [hadj, hall _ _ _ (by decide) (by decide)]
    · rw [hall _ _ _ (by decide) (by decide), h]
    · obtain ⟨regs, due, hw⟩ : ∃ regs due, w = { s with regs := regs, hif := { s.hif with due := due } } := ⟨_, _, hparts⟩
      obtain ⟨regs', due', ht'⟩ : ∃ regs due, t = { ({ w with tim := { w.tim with integ0 := i, run0 := w.servoRun 0 o } } : State) with
          regs := regs, hif := { w.hif with due := due } } := ⟨_, _, hparts'⟩
      rw [ht', hw]
  · have hreg : ∀ o' l n, o' ≠ 0x1C0040 → (s.setReg (F.TIM_SAMPLE.OFFSET 0).off v).rd ⟨o', l, n⟩ = s.rd ⟨o', l, n⟩ :=
      fun o' l n h => State.rd_setReg_off _ _ _ _ _ _ (Ne.symm h)
    have htold := (Told.refl servoBlocks s).setReg (F.TIM_SAMPLE.OFFSET 0).off v (by decide)
    generalize s.setReg (F.TIM_SAMPLE.OFFSET 0).off v = u at *
    obtain ⟨hrd, -, -, hshown⟩ := u.sampleShown_spec 0 (by decide) o _ rfl
    generalize hflag : decide (v.toNat / 2 ^ 48 % 2 = 1) = flag at *
    have hs : s.callsStep 0 o flag = true := by
      rw [State.callsStep_iff, ← hflag, decide_eq_true_eq]
      exact hstep
    have hu : u.callsStep 0 o flag = true := by
      rw [← hs]
      exact State.callsStep_congr _ _ _ (hreg 0x1C0020 32 16 (by decide))
    have hw : (u.sampleShown 0 o).callsStep 0 o flag = true := by
      rw [← hs]
      exact State.callsStep_congr _ _ _ ((hrd 0x1C0020 32 16 (by decide)).trans (hreg _ _ _ (by decide)))
    have hall : ∀ o' l n, o' ≠ 0x1C0040 → o' ≠ 0x1C0088 → (u.sampleShown 0 o).rd ⟨o', l, n⟩ = s.rd ⟨o', l, n⟩ :=
      fun o' l n h h' => (hrd _ _ _ h').trans (hreg _ _ _ h)
    rw [hu, Bool.and_true, State.servoSample_steps rfl hw]
    have hshown' := htold.trans hshown
    generalize u.sampleShown 0 o = w at *
    have htb : w.tb0 = s.tb0 := by rw [hshown'.parts]
    rw [htb]
    exact State.tb0Moved_spec hshown' (hall _ _ _ (by decide) (by decide)) (hall _ _ _ (by decide) (by decide))
      (State.onTb0_congr (hall _ _ _ (by decide) (by decide)) (hall _ _ _ (by decide) (by decide))) _ sampled _ rfl
  · have hparts := RegsOnly.wr (RegsOnly.setReg (RegsOnly.refl s) (F.TIM_SAMPLE.OFFSET 1).off v) F.TIM_ERR.SAMPLE_IGNORED 1
    exact ⟨State.rd_wr_same _ _ _ _ _ (by decide), hparts, regsApart_wr _ _ (regsApart_setReg _ _ regsApart_refl (by decide)) (by decide)⟩
  · obtain ⟨htb, htim, hstate, hpending, hparts, hout⟩ := s.servoSample_tb1 o hidle hstep _ rfl
    exact ⟨htb, htim, hstate, hpending, hparts, hout⟩
  · have hreg : ∀ o' l n, o' ≠ 0x1C0050 → (s.setReg (F.TIM_SET.SEC 0).off v).rd ⟨o', l, n⟩ = s.rd ⟨o', l, n⟩ :=
      fun o' l n h => State.rd_setReg_off _ _ _ _ _ _ (Ne.symm h)
    have htold := (Told.refl servoBlocks s).setReg (F.TIM_SET.SEC 0).off v (by decide)
    generalize s.setReg (F.TIM_SET.SEC 0).off v = u at *
    have htb : u.tb0 = s.tb0 := by rw [htold.parts]
    rw [htb]
    exact State.tb0Moved_spec htold (hreg _ _ _ (by decide)) (hreg _ _ _ (by decide))
      (State.onTb0_congr (hreg _ _ _ (by decide)) (hreg _ _ _ (by decide))) _ sampled _ rfl
  · have hparts := RegsOnly.wr (RegsOnly.setReg (RegsOnly.refl s) (F.TIM_SET.SEC 2).off v) F.TIM_ERR.SAMPLE_IGNORED 1
    exact ⟨State.rd_wr_same _ _ _ _ _ (by decide), hparts, regsApart_wr _ _ (regsApart_setReg _ _ regsApart_refl (by decide)) (by decide)⟩
  · have hflag : (if b = 0 then F.TIM_ERR.HOLDOVER0 else F.TIM_ERR.HOLDOVER1) = ⟨0x1C0078, 3 + b.val, 1⟩ := by
      clear hstate
      revert b
      decide
    rw [servoField_eq _ b.isLt] at hstate
    obtain ⟨herr, hpending, hdue, hregs⟩ := s.holdover_spec b b.isLt (by omega) _ rfl
    rw [servoField_eq _ b.isLt, hflag]
    exact ⟨s.servoState_state b 3 b.isLt (by decide), herr, hpending, hdue, (s.servoState_told b 3 b.isLt).parts, hregs⟩
  · obtain ⟨hdata, hlatch, hparts, hregs⟩ := State.secondsRead_spec _ _ _ _ _ rfl
    exact ⟨hdata, by rw [hlatch]; exact smGet_smSet_same _ _ _ _, hparts, hregs⟩

/-! ### The exchange of a pair -/

/-- A good message of the twin has its effect. -/
theorem State.iklMessage_good {s : State} {mtype body : Nat} {b : IklBlock} {f : List Byte → State → State} (hsync : b.sync.val = 1)
    (hgood : iklGood mtype body (iklPlain b) = true) : s.iklMessage mtype body b f = f (iklPlain b) s := by
  unfold State.iklMessage
  rw [hsync]
  exact if_pos hgood

section
variable {s : State} {b : IklBlock}

theorem exec_timeSyncSend (hmode : s.bit F.TWN_CFG.MODE = true) (hrole : s.bit F.TWN_CFG.ROLE = false)
    (hsource : s.rd F.TIM_CFG.TB1_SOURCE = 1) (hlink : s.rd F.IKL_STATUS.STATE = 3) (t : State)
    (ht : t = s.iklSend 0 0x12 (leBytes 2 s.twn.exchangeNext ++ leBytes 8 s.timeMsg) []) :
    exec .timeSyncSend s = .next { t with twn := { t.twn with exchangeNext := (s.twn.exchangeNext + 1) % 65536 } } := by
  subst ht
  show execTimeSyncSend s = _
  unfold execTimeSyncSend
  rw [if_neg (by simp [hmode, hrole, hsource, hlink])]
  rfl

theorem exec_timeSync (hsync : b.sync.val = 1) (hgood : iklGood 0x12 0 (iklPlain b) = true) (hrole : s.bit F.TWN_CFG.ROLE = true)
    (n : Nat) (hn : n = fieldAt (iklPlain b) 2 2) (t1 : Nat) (ht1 : t1 = fieldAt (iklPlain b) 4 8) :
    exec (.timeSync b) s = .next (({ s with twn := { s.twn with exchange := some (n, t1, s.timeMsg, s.timeMsg) } } : State).iklSend 0 0x13
      (leBytes 2 n ++ leBytes 8 s.timeMsg) []) := by
  subst hn ht1
  show execTimeSync b s = _
  unfold execTimeSync
  rw [State.iklMessage_good hsync hgood, if_neg (by rw [hrole]; decide)]
  rfl

theorem exec_timeDelay (hsync : b.sync.val = 1) (hgood : iklGood 0x13 0 (iklPlain b) = true) (hrole : s.bit F.TWN_CFG.ROLE = false) :
    exec (.timeDelay b) s = .next (s.iklSend 0 0x14 (leBytes 2 (fieldAt (iklPlain b) 2 2) ++ leBytes 8 s.timeMsg) []) := by
  show execTimeDelay b s = _
  unfold execTimeDelay
  rw [State.iklMessage_good hsync hgood, if_neg (by rw [hrole]; decide)]
  rfl

theorem exec_timeResp {n t1 t2 t3 : Nat} {o : Int} (hsync : b.sync.val = 1) (hgood : iklGood 0x14 0 (iklPlain b) = true)
    (hexchange : s.twn.exchange = some (n, t1, t2, t3)) (hn : n = fieldAt (iklPlain b) 2 2)
    (ho : o = (q16Diff t1 t2 + q16Diff (fieldAt (iklPlain b) 4 8) t3) / 2 + s.rdInt F.TIM_CFG.IKL_ASYM * 4096)
    (hsource : s.rd F.TIM_CFG.TB1_SOURCE = 1) (hon : s.onTb0 = false) (hheld : s.twn.tb1Held = false) (u : State)
    (hu : u = { s with twn := { s.twn with exchange := none } }) : exec (.timeResp b) s = .next (u.servoSample 1 o false) := by
  have hgo : (decide (u.rd F.TIM_CFG.TB1_SOURCE = 1) && !u.onTb0 && !u.twn.tb1Held) = true := by
    have hsource' : u.rd F.TIM_CFG.TB1_SOURCE = 1 := by rw [hu]; exact hsource
    have hon' : u.onTb0 = false := by rw [hu]; exact hon
    have hheld' : u.twn.tb1Held = false := by rw [hu]; exact hheld
    rw [hsource', hon', hheld']
    rfl
  have ho' : o = (q16Diff t1 t2 + q16Diff (fieldAt (iklPlain b) 4 8) t3) / 2 + u.rdInt F.TIM_CFG.IKL_ASYM * 4096 := by
    rw [ho, hu]
    rfl
  show execTimeResp b s = _
  unfold execTimeResp
  rw [State.iklMessage_good hsync hgood, hexchange]
  dsimp only
  rw [if_neg (not_not.mpr hn)]
  subst hu
  exact congrArg Host.Outcome.next ((if_pos hgo).trans (by rw [ho']))

end

/-- Settles O45: the three messages of the exchange, the sample that steps TB1, and an exchange without an answer. -/
theorem theTimeExchangeOfAPairRuns : Obligations.TheTimeExchangeOfAPairRuns := by
  unfold Obligations.TheTimeExchangeOfAPairRuns
  refine ⟨fun s hmode hrole hsource hlink => ⟨_, exec_timeSyncSend hmode hrole hsource hlink _ rfl, rfl⟩,
    fun s b head hsync hhead hgood hrole => ?_,
    fun s b hsync hgood hrole => ⟨_, exec_timeDelay hsync hgood hrole, rfl⟩,
    fun s b head n t1 t2 t3 o hsync hhead hgood hexchange hn ho hsource hon hheld hstep hidle => ?_,
    fun s => ⟨_, rfl, rfl⟩⟩
  · subst hhead
    refine ⟨_, exec_timeSync hsync hgood hrole _ rfl _ rfl, ?_⟩
    generalize fieldAt (iklPlain b) 2 2 = n
    generalize fieldAt (iklPlain b) 4 8 = t1
    rfl
  · subst hhead
    have hon' : s.onTb0 = false := by
      unfold State.onTb0
      rw [hsource, hon]
      rfl
    refine ⟨_, exec_timeResp hsync hgood hexchange hn ho hsource hon' hheld _ rfl, ?_⟩
    obtain ⟨htb, htim, hstate, -, hparts, hout⟩ :=
      State.servoSample_tb1 ({ s with twn := { s.twn with exchange := none } } : State) o hidle hstep _ rfl
    exact ⟨htb, by rw [hparts], htim, hstate, by rw [hparts], hout⟩

end Sys2Proof.Machine
end

section
/-! SUPPORT. A counter outside the block of counters. The model counts an event in every counter that `pmc.selWas` names (R365, R370), and
bounds neither the names nor the registers that they give: the count of counter 65,536 stands at offset 0x2B0400, outside the block
0x23. In a state that names it, each access of a unit to DDR5 changes that register, which every statement about such an access
holds. -/
namespace Sys2Proof.Machine

/-- The selection of an event for every master, its counter enabled. -/
def farWord (event : Nat) : Word := BitVec.ofNat 64 (event + (2 ^ 14 + 63 * 2 ^ 19 + 2 ^ 29))

/-- The state in which counter 65,536 had that selection in this cycle. -/
def State.farSelected (s : State) (event : Nat) : State :=
  { s with pmc := { s.pmc with selWas := [(0x10000, (s.cycle, farWord event))] } }

/-- Where the count of counter 65,536 stands. -/
def farOff : Nat := (F.PMC_CTR.COUNT 0x10000).off

/-- What the next state of an outcome holds in a register. -/
def outcomeReg (off : Nat) (o : Host.Outcome State Fault Refusal) : Word := match o with
  | .next t => t.reg off
  | _ => 0

/-- A command whose effect leaves a register answers a state that holds it as before. -/
theorem outcomeReg_of_runsTo {c : Instr} {s : State} {post : State → Prop} {off : Nat} (hruns : runsTo c s post)
    (hkept : ∀ t, post t → t.reg off = s.reg off) : outcomeReg off (exec c s) = s.reg off := by
  obtain ⟨t, ht, hpost⟩ := hruns
  rw [ht]
  exact hkept t hpost

theorem unitApart_far {offs : List Nat} {s t : State} (h : unitApart offs s t) (hoffs : farOff ∉ offs) : t.reg farOff = s.reg farOff :=
  h farOff hoffs (by decide) (by decide)

/-- The reset device with its full memory map. -/
def State.mapped : State := State.reset.wr F.MEM_STATUS.FULL_MAP 1

/-! ### A Lacuna record -/

/-- A device with a ring of 16 records and one closed record. -/
def State.lacFar : State :=
  ({ State.mapped.wr F.LAC_RING.LOG2 4 with lac := { State.reset.lac with closed := [⟨0, 0, 0, 0, 0, 0, 0, 0, true⟩] } } :
    State).farSelected 0x10

/-- Refutes O29: the write of the oldest closed record counts in the far counter, whose register the statement holds. -/
theorem not_lacunaRecordsCloseReachTheRingAndAreFreed : ¬ Obligations.LacunaRecordsCloseReachTheRingAndAreFreed := by
  unfold Obligations.LacunaRecordsCloseReachTheRingAndAreFreed
  rintro ⟨-, -, hwritten, -⟩
  have hruns := hwritten State.lacFar ⟨0, 0, 0, 0, 0, 0, 0, 0, true⟩ [] _ rfl rfl (.inl (by decide +kernel)) rfl rfl rfl
    (by decide +kernel)
  exact absurd (outcomeReg_of_runsTo hruns (fun t ⟨_, _, _, _, _, _, _, happart⟩ => unitApart_far happart (by decide)))
    (by decide +kernel)

/-! ### A DMA burst -/

/-- A device whose channel 4 runs a program of one burst of 64 bytes from DDR5 to the host. -/
def State.burstFar : State :=
  ({ (State.mapped.wr (F.DMA_CH_STATUS.STATE 4) 1).wr F.HIF_LINK_STATUS.BME 1 with
      dma := [(4, { dmaChZero with
        going := true
        active := { dmaProgZero with src := 0x10000000, len := BitVec.ofNat 64 (64 + 2 ^ 22) } })] } : State).farSelected 0x10

/-- Refutes O16: a good burst from DDR5 counts in the far counter, whose register the statement holds. -/
theorem not_dmaBurstsMoveBytesToTheComputedAddresses : ¬ Obligations.DmaBurstsMoveBytesToTheComputedAddresses := by
  unfold Obligations.DmaBurstsMoveBytesToTheComputedAddresses
  rintro ⟨hburst, -⟩
  have hruns := hburst State.burstFar 4 [] _ (by decide) rfl (by decide +kernel) (by decide +kernel) (by decide +kernel)
    (fun h => absurd h (by decide +kernel)) (by decide +kernel) (by decide +kernel) (by decide +kernel) (by decide +kernel)
    (by decide +kernel) rfl
  exact absurd (outcomeReg_of_runsTo hruns (fun t ⟨_, _, _, _, _, _, happart⟩ => unitApart_far happart (by decide)))
    (by decide +kernel)

/-! ### A job of the compressor -/

/-- A device whose compressor is enabled, with a source of 64 bytes in the SRAM and a list of one buffer in DDR5. -/
def State.gugFar : State :=
  ({ (((State.mapped.wr F.GUG_CTL.ENABLE 1).wr F.GUG_JOB_LEN.LEN 64).wr F.GUG_JOB_SRC.SPACE 2).wr F.GUG_JOB_LIST.COUNT 1 with
      ddr := [(8, 64)] } : State).farSelected 0x10

/-- Refutes O20: the read of the buffer list counts in the far counter, whose register the statement holds. -/
theorem not_compressorRunsJobsIntoItsBuffers : ¬ Obligations.CompressorRunsJobsIntoItsBuffers := by
  unfold Obligations.CompressorRunsJobsIntoItsBuffers
  rintro ⟨-, -, -, hgo, -⟩
  have hruns := hgo State.gugFar .keeper (by decide +kernel) (by decide +kernel) (by decide +kernel) (by decide +kernel)
    (by decide +kernel)
  exact absurd (outcomeReg_of_runsTo hruns (fun t ⟨_, _, _, happart⟩ => unitApart_far (happart (.inr rfl)).2 (by decide)))
    (by decide +kernel)

/-! ### A row of modulations -/

/-- A leaf without lines that asks for proximity correction, its density pass past its rows. -/
def pecFarHdr : LeafHdr := ⟨0, false, true, false, false, 0, 0, 0, 0, 0, 0, 0, 0, 0, 0, 0⟩
def pecFarLeaf : Leaf := { leafNew 0 with hdr := some pecFarHdr, admitted := true, ras := { rasNew with densRow := -1 } }

/-- A device with that leaf in place 0. -/
def State.pecFar : State :=
  ({ State.mapped with fol := { State.mapped.fol with place0 := some pecFarLeaf } } : State).farSelected 0x10

/-- Refutes O21: the write of a row of modulations counts in the far counter, whose register the statement holds. -/
theorem not_rowsOfDensityAndModulationAreFinishedInOrder : ¬ Obligations.RowsOfDensityAndModulationAreFinishedInOrder := by
  unfold Obligations.RowsOfDensityAndModulationAreFinishedInOrder
  rintro ⟨-, hpec⟩
  have hruns := hpec State.pecFar 0 pecFarLeaf pecFarHdr _ rfl rfl rfl rfl rfl (by decide +kernel) (by decide +kernel) rfl
  exact absurd (outcomeReg_of_runsTo hruns (fun t ⟨_, _, _, _, _, _, hkept⟩ =>
    hkept farOff (by decide) (by decide) (by decide) (by decide))) (by decide +kernel)

/-! ### A stored survey frame, and a survey record -/

/-- A frame of one line of one pixel, the first of a group of two, that is stored in buffer 0. -/
def frameFar : SvyFrame :=
  ⟨0, 0, some ⟨0, 0, 2⟩, false, false, some 0, { svyParNew with proc := 0x8000#64 }, [[0]], false, false⟩

/-- A device whose first pipeline runs and holds that frame. -/
def State.frameFar : State :=
  ({ ((State.mapped.wr (F.SVY_P_STATUS.STATE 0) 1).wr (F.SVY_P_CAM.HEIGHT 0) 1).wr (F.SVY_P_CAM.WIDTH 0) 1 with
      svy := [{ svyPipeNew with frame := some Machine.frameFar }, svyPipeNew] } : State).farSelected 0x10

/-- Refutes O36: the write of a stored frame counts in the far counter, whose register the statement holds. -/
theorem not_cameraPacketsBuildFrames : ¬ Obligations.CameraPacketsBuildFrames := by
  unfold Obligations.CameraPacketsBuildFrames
  rintro ⟨-, -, -, -, -, -, hstored, -⟩
  have hruns := hstored State.frameFar 0 Machine.frameFar _ 0 (by decide +kernel) rfl rfl rfl rfl rfl rfl rfl (by decide +kernel) rfl rfl
    (by decide +kernel) (by decide +kernel) (by decide)
  exact absurd (outcomeReg_of_runsTo hruns (fun t ⟨_, _, _, _, happart⟩ => unitApart_far happart (by decide)))
    (by decide +kernel)

/-- A device whose first pipeline has a record of one byte to write. -/
def State.recordFar : State :=
  ({ State.mapped with svy := [{ svyPipeNew with recs := [⟨[1], []⟩] }, svyPipeNew] } : State).farSelected 0x10

/-- Refutes O38: the write of a survey record counts in the far counter, whose register the statement holds. -/
theorem not_surveyRecordsSettingsAndEnable : ¬ Obligations.SurveyRecordsSettingsAndEnable := by
  unfold Obligations.SurveyRecordsSettingsAndEnable
  rintro ⟨hrecord, -⟩
  have hruns := hrecord State.recordFar 0 ⟨[1], []⟩ [] _ rfl rfl rfl rfl rfl (by decide +kernel)
  exact absurd (outcomeReg_of_runsTo hruns (fun t ⟨_, _, _, _, _, _, _, happart⟩ => unitApart_far happart (by decide)))
    (by decide +kernel)

/-! ### A TABLE message of the twin -/

/-- A TABLE message for the start of the staging buffer, as lane 0 brings it. -/
def tableHead : List Byte := leBytes 1 0x32 ++ leBytes 1 4 ++ leBytes 12 0
def tableBlock : IklBlock := ⟨0, 1, 0, (scramble (lfsrAfter (iklSeed 0) 0) (tableHead ++ leBytes 2 (crc16 tableHead))).1⟩

/-- Refutes O44: the write of the bytes of a TABLE message counts in the far counter, whose register the statement holds. -/
theorem not_twinMessagesAreSentAndTaken : ¬ Obligations.TwinMessagesAreSentAndTaken := by
  unfold Obligations.TwinMessagesAreSentAndTaken
  rintro ⟨-, -, -, -, -, -, -, -, -, -, -, htable, -⟩
  have hruns := htable (State.mapped.farSelected 0x10) tableBlock (List.replicate 64 0) _ rfl (by decide +kernel) rfl (by decide +kernel)
    (by decide +kernel) (by decide +kernel) (by decide +kernel) rfl rfl
  exact absurd (outcomeReg_of_runsTo hruns (fun t ⟨_, _, _, _, happart⟩ => unitApart_far happart (by decide)))
    (by decide +kernel)

end Sys2Proof.Machine
end

section
/-! SUPPORT. The far counter in the events of the memory channels and of the forward link. -/
namespace Sys2Proof.Machine

theorem regsOutside_far {blocks : Nat → Bool} {s t : State} (h : regsOutside blocks s t) (hblocks : blocks 0x2B = false) :
    t.reg farOff = s.reg farOff :=
  h farOff hblocks

/-! ### A request that waits at a port -/

/-- A request of class 0 at the port of channel 0. -/
def waitingRequest : MemReq := ⟨0, 0, none, 0, 0, none, false, 0, 0, false, 0⟩

/-- A device whose channel 0 has that request. -/
def State.promotionFar : State :=
  ({ State.reset with mem := { State.reset.mem with
      ch := State.reset.mem.ch.set 0 { State.reset.memCh 0 with ports := [waitingRequest] } } } : State).farSelected 0x13

/-- Refutes O33: the promotion of an aged request counts in the far counter, whose register the statement holds. -/
theorem not_memoryRequestsAreAdmittedServedAndAged : ¬ Obligations.MemoryRequestsAreAdmittedServedAndAged := by
  unfold Obligations.MemoryRequestsAreAdmittedServedAndAged
  rintro ⟨-, -, -, -, -, -, -, -, -, -, -, -, -, -, -, -, hpromotion, -⟩
  have hruns := hpromotion State.promotionFar 0 0 waitingRequest rfl (by decide +kernel)
  exact absurd (outcomeReg_of_runsTo hruns (fun t ⟨_, _, _, hout⟩ => regsOutside_far hout (by decide))) (by decide +kernel)

/-! ### A refresh -/

/-- A device whose channel 0 is trained and owes its ranks eight units of refresh. -/
def State.refreshFar : State :=
  ({ State.reset.wr (F.MEM_CH_STATUS.STATE 0) 2 with mem := { State.reset.mem with
      ch := State.reset.mem.ch.set 0 { State.reset.memCh 0 with debt := [8, 8, 8, 8] } } } : State).farSelected 0x24

/-- Refutes O34: a refresh counts in the far counter, whose register the statement holds. -/
theorem not_channelsRefreshRestAndTrain : ¬ Obligations.ChannelsRefreshRestAndTrain := by
  unfold Obligations.ChannelsRefreshRestAndTrain
  rintro ⟨-, hrefresh, -⟩
  have hruns := hrefresh State.refreshFar 0 0 0 0 rfl (by decide +kernel) (by decide +kernel) (by decide +kernel) (.inr (by decide +kernel))
  exact absurd (outcomeReg_of_runsTo hruns (fun t ⟨_, _, _, _, _, _, hout⟩ => regsOutside_far hout (by decide))) (by decide +kernel)

/-! ### A frame of a slot -/

/-- A leaf that the tracker runs, and its slot 0, decided blank. -/
def frameFarHdr : LeafHdr := ⟨0, false, false, false, false, 0, 0, 0, 0, 0, 0, 0, 0, 0, 0, 0⟩
def frameFarLeaf : Leaf := { leafNew 0 with hdr := some frameFarHdr }
def frameFarSlot : SlotRec :=
  ⟨0, 0, false, false, true, false, false, false, false, 0, 0, 0, [], none, none, [], [], false⟩

/-- A device at the start of the frame of that slot. -/
def State.slotFar : State :=
  ({ State.reset with
      fol := { State.reset.fol with place0 := some frameFarLeaf, cur := some 0 }
      slt := { State.reset.slt with strobed := -1, slots := [frameFarSlot] } } : State).farSelected 0x41

/-- Refutes O25: the start of a blank frame counts in the far counter, whose register the statement holds. -/
theorem not_slotsAreDecidedReadAndSent : ¬ Obligations.SlotsAreDecidedReadAndSent := by
  unfold Obligations.SlotsAreDecidedReadAndSent
  rintro ⟨-, -, -, -, hframe, -⟩
  have hruns := hframe State.slotFar 0 frameFarLeaf frameFarHdr frameFarSlot true [] rfl (by decide +kernel) rfl rfl rfl
    (fun h => absurd h (by decide)) (fun _ => rfl) rfl
  exact absurd (outcomeReg_of_runsTo hruns (fun t ⟨_, _, _, _, _, _, _, hout⟩ => regsOutside_far hout (by decide))) (by decide +kernel)

end Sys2Proof.Machine
end

section
/-! SUPPORT. A block whose ring is none of the four. The model writes the channel of the ring that a fetch names, and bounds no ring of a
state: the status of channel 512 stands at 0x50008, in the block of the compressor. -/
namespace Sys2Proof.Machine

/-- A block of leaf 0 that is being fetched. -/
def strayBlock : Blk := ⟨0, 0, 0, 512, false, false, .fetching, [], 0, 0, true, false, false, false, [], 0, 0, false, false⟩
def strayLeaf : Leaf := { leafNew 0 with blocks := [strayBlock] }
def strayEntry : SqEntry := ⟨0, 0, 0, 0, 0, false, false, false⟩

/-- A device that fetches the block for ring 512, whose status reads RUNNING. -/
def State.strayRing : State :=
  { State.reset.wr (F.DMA_CH_STATUS.STATE 512) 1 with
    fol := { State.reset.fol with place0 := some strayLeaf }
    hif := { State.reset.hif with fetching := [(512, 0, strayEntry)] } }

/-- Refutes O11: the end of the fetch makes the channel of ring 512 idle, and its status stands in the block of the compressor, which
the statement holds. -/
theorem not_submissionsAreFetchedStoredAndReported : ¬ Obligations.SubmissionsAreFetchedStoredAndReported := by
  unfold Obligations.SubmissionsAreFetchedStoredAndReported
  rintro ⟨-, -, hstored, -⟩
  have hruns := hstored State.strayRing 0 0 [] strayLeaf strayBlock 512 strayEntry rfl rfl rfl (by decide) (by decide +kernel)
  exact absurd (outcomeReg_of_runsTo hruns (fun t ⟨_, _, _, _, hout⟩ => hout (F.DMA_CH_STATUS.STATE 512).off (by decide)))
    (by decide +kernel)

end Sys2Proof.Machine
end

section
/-! SUPPORT. Steps that write a record, and the duty governor (R161 to R166). -/
namespace Sys2Proof.Machine

/-! ### Steps that may write a record -/

/-- A step that changes registers of some blocks, the vectors that are due, the Accession Log and its messages to the twin. -/
structure Noted (blocks : Nat → Bool) (s t : State) : Prop where
  parts : t = { s with regs := t.regs, hif := { s.hif with due := t.hif.due }, acl := t.acl, ikl := t.ikl }
  outside : regsOutside blocks s t

namespace Noted

variable {blocks : Nat → Bool} {s t u : State}

theorem refl (blocks : Nat → Bool) (s : State) : Noted blocks s s := ⟨rfl, regsOutside_refl⟩

theorem trans (h : Noted blocks s t) (h' : Noted blocks t u) : Noted blocks s u := by
  obtain ⟨hparts, hout⟩ := h
  obtain ⟨hparts', hout'⟩ := h'
  exact ⟨by rw [hparts', hparts], regsOutside_trans hout hout'⟩

theorem of_told (h : Told blocks s t) : Noted blocks s t := by
  obtain ⟨hparts, hout⟩ := h
  exact ⟨by rw [hparts], hout⟩

theorem wr (h : Noted blocks s t) (f : Field) (v : Nat) (hf : blocks (f.off / 0x10000) = true) : Noted blocks s (t.wr f v) :=
  h.trans ⟨rfl, regsOutside_wr _ _ regsOutside_refl hf⟩

theorem incSat (h : Noted blocks s t) (f : Field) (hf : blocks (f.off / 0x10000) = true) : Noted blocks s (t.incSat f) := h.wr f _ hf

theorem ite (c : Prop) [Decidable c] (h : Noted blocks s t) (h' : Noted blocks s u) : Noted blocks s (if c then t else u) := by
  split
  · exact h
  · exact h'

theorem announce (h : Noted blocks s t) (v i : Nat) (hb : blocks 0x20 = true) : Noted blocks s (t.announce v i) :=
  h.trans (of_told ((Told.refl blocks t).announce v i hb))

theorem of_logged {event : Nat} (h : Logged event s t) (hd : blocks 0x20 = true) (ha : blocks 0x22 = true) : Noted blocks s t := by
  refine ⟨?_, fun o ho => h.outside o ?_⟩
  · obtain ⟨_, _, _, _, _, _, _, _, _, e⟩ := h.parts
    rw [e]
  · by_contra hne
    obtain hb | hb : o / 0x10000 = 0x20 ∨ o / 0x10000 = 0x22 := by
      simpa [or_iff_not_imp_left] using hne
    · rw [hb, hd] at ho; exact absurd ho (by decide)
    · rw [hb, ha] at ho; exact absurd ho (by decide)

theorem aclLog (h : Noted blocks s t) (event : Nat) (data : List Byte) (hd : blocks 0x20 = true) (ha : blocks 0x22 = true) :
    Noted blocks s (t.aclLog event data) :=
  h.trans (of_logged (t.aclLog_logged event data) hd ha)

theorem dut (h : Noted blocks s t) : t.dut = s.dut := by rw [h.parts]

end Noted

/-- The block of a record and of its fault event holds no other field. -/
theorem State.rd_noted (s : State) (event : Nat) (data : List Byte) (o l w : Nat) (ho : o / 0x10000 ≠ 0x20 ∧ o / 0x10000 ≠ 0x22) :
    ((s.aclLog event data).faultEvent).rd ⟨o, l, w⟩ = s.rd ⟨o, l, w⟩ := by
  unfold State.faultEvent
  rw [State.rd_announce _ _ _ _ _ _ (by omega)]
  unfold State.rd
  rw [(s.aclLog_logged event data).outside o (by simpa using ho)]

/-- A fault event makes vector 5 due and source 25 pending. -/
theorem State.faultEvent_told (s : State) : s.faultEvent.hif.due.getLsbD 5 = true ∧ s.faultEvent.rd (F.DOC_ROUTE.PENDING 25) = 1 := by
  unfold State.faultEvent
  rw [State.announce_eq _ _ _ (by decide) (by decide)]
  exact ⟨(getLsbD_or_bit64 _ _ _ (by decide)).trans (by simp), State.rd_wr_same _ _ _ _ _ (by decide)⟩

/-! ### The governor -/

/-- Blocks that the governor writes: SLT, DUT, DOC and ACL. -/
def dutyBlocks (b : Nat) : Bool := b = 0x13 || b = 0x14 || b = 0x20 || b = 0x22

/-- The duties shown. -/
def State.dutyShown (s : State) (beam plate : Nat) (peak : Nat × Nat) : State :=
  (((s.wr F.DUT_STATUS.BEAM_DUTY beam).wr F.DUT_STATUS.PLATE_DUTY plate).wr
    F.DUT_PEAK_BEAM.ROW (peak.1 / 512)).wr F.DUT_PEAK_BEAM.COLUMN (peak.1 % 512)

/-- The thresholds judged, where no duty reaches its hard one: soft crossings, and resumption. -/
def DutSt.judged (d : DutSt) (bs ps br pr : Bool) : DutSt := { d with
  beamSoft := bs, plateSoft := ps
  beamHard := d.beamHard && !br, plateHard := d.plateHard && !pr
  beamHot := bs || ps || (d.beamHot && !(br && pr)), plateHot := bs || ps || (d.plateHot && !(br && pr)) }

/-- What the thresholds leave. -/
theorem DutSt.judged_kept (d : DutSt) (bs ps br pr : Bool) : (d.judged bs ps br pr).tempSoft = d.tempSoft ∧
    ((d.judged bs ps br pr).beams, (d.judged bs ps br pr).plate, (d.judged bs ps br pr).due, (d.judged bs ps br pr).beamRoll,
      (d.judged bs ps br pr).plateRoll) = (d.beams, d.plate, d.due, d.beamRoll, d.plateRoll) ∧
    ((d.judged bs ps br pr).beamHard, (d.judged bs ps br pr).plateHard) = (d.beamHard && !br, d.plateHard && !pr) :=
  ⟨rfl, rfl, rfl⟩

theorem State.rd_dutyShown (s : State) (beam plate : Nat) (peak : Nat × Nat) (o l w : Nat) (h1 : o ≠ 0x140020) (h2 : o ≠ 0x140028) :
    (s.dutyShown beam plate peak).rd ⟨o, l, w⟩ = s.rd ⟨o, l, w⟩ := by
  unfold State.dutyShown
  rw [State.rd_wr_off _ _ _ _ _ _ _ _ (Ne.symm h2), State.rd_wr_off _ _ _ _ _ _ _ _ (Ne.symm h2),
    State.rd_wr_off _ _ _ _ _ _ _ _ (Ne.symm h1), State.rd_wr_off _ _ _ _ _ _ _ _ (Ne.symm h1)]

theorem State.softCross_noted (s : State) (kind : Nat) (f : Field) (now before : Bool) (hf : f.off / 0x10000 = 0x14) :
    Noted dutyBlocks s (s.softCross kind f now before) := by
  unfold State.softCross
  refine Noted.ite _ ?_ (Noted.refl _ _)
  unfold State.softRecord State.faultEvent State.set1
  exact (((Noted.refl dutyBlocks s).wr f 1 (by rw [hf]; decide)).aclLog _ _ (by decide) (by decide)).announce _ _ (by decide)

theorem State.rd_softCross (s : State) (kind : Nat) (f : Field) (now before : Bool) (o l w : Nat)
    (ho : o / 0x10000 ≠ 0x20 ∧ o / 0x10000 ≠ 0x22) :
    (s.softCross kind f now before).rd ⟨o, l, w⟩ = (if now && !before then s.set1 f else s).rd ⟨o, l, w⟩ := by
  unfold State.softCross State.softRecord
  split
  · exact State.rd_noted _ _ _ _ _ _ ho
  · rfl

theorem State.hardCross_false (s : State) (detail : Nat) (f : Field) (before : Bool) : s.hardCross detail f false before = s := by
  unfold State.hardCross
  rw [if_neg (by decide), Bool.false_and, if_neg (by decide)]

/-- The governor's evaluation where both duties stay below their hard thresholds. -/
theorem State.dutyJudge_soft {s v : State} {on pon : Nat} {bs ps : Bool}
    (hon : on = (peakBeam s.dut.beamWindow).2 * s.rd F.DUT_CFG.STEP_PS * 65536)
    (hpon : pon = s.dut.plateWindow * s.rd F.DUT_CFG.STEP_PS * 65536)
    (hbeam : on < s.rd F.DUT_BEAM.HARD * beamUnit) (hplate : pon < s.rd F.DUT_PLATE.HARD * plateUnit)
    (hbs : bs = decide (s.rd F.DUT_BEAM.SOFT * beamUnit ≤ on)) (hps : ps = decide (s.rd F.DUT_PLATE.SOFT * plateUnit ≤ pon))
    (hv : v = ({ s.dutyShown (min (on / beamUnit) 0xFFFF) (min (pon / plateUnit) 0xFFFF) (peakBeam s.dut.beamWindow) with
      dut := s.dut.judged bs ps (on < s.rd F.DUT_BEAM.RESUME * beamUnit) (pon < s.rd F.DUT_PLATE.RESUME * plateUnit) } : State)) :
    s.dutyJudge = ((v.softCross 1 F.DUT_ERR.BEAM_SOFT bs s.dut.beamSoft).softCross 2 F.DUT_ERR.PLATE_SOFT ps s.dut.plateSoft).slowShow := by
  unfold State.dutyJudge
  generalize beamUnit = beam at *
  generalize plateUnit = plate at *
  generalize 65536 = unit at *
  extract_lets step peak on' pon' s1 s2 bs' bh br ps' ph pr d hot cool s3 s4 s5
  have hs2 : s2 = s.dutyShown (min (on / beam) 0xFFFF) (min (pon / plate) 0xFFFF) (peakBeam s.dut.beamWindow) := by subst hon hpon; rfl
  have hson : on' = on := hon.symm
  have hspon : pon' = pon := hpon.symm
  have hbh : bh = false := by
    show decide (s2.rd F.DUT_BEAM.HARD * beam ≤ on') = false
    rw [hs2, hson, State.rd_dutyShown _ _ _ _ _ _ _ (by decide) (by decide)]
    exact decide_eq_false (Nat.not_le.mpr hbeam)
  have hph : ph = false := by
    show decide (s2.rd F.DUT_PLATE.HARD * plate ≤ pon') = false
    rw [hs2, hspon, State.rd_dutyShown _ _ _ _ _ _ _ (by decide) (by decide)]
    exact decide_eq_false (Nat.not_le.mpr hplate)
  have hbs' : bs' = bs := by
    show decide (s2.rd F.DUT_BEAM.SOFT * beam ≤ on') = bs
    rw [hs2, hson, State.rd_dutyShown _ _ _ _ _ _ _ (by decide) (by decide), hbs]
  have hps' : ps' = ps := by
    show decide (s2.rd F.DUT_PLATE.SOFT * plate ≤ pon') = ps
    rw [hs2, hspon, State.rd_dutyShown _ _ _ _ _ _ _ (by decide) (by decide), hps]
  have hbr : br = decide (on < s.rd F.DUT_BEAM.RESUME * beam) := by
    show decide (on' < s2.rd F.DUT_BEAM.RESUME * beam) = _
    rw [hs2, hson, State.rd_dutyShown _ _ _ _ _ _ _ (by decide) (by decide)]
  have hpr : pr = decide (pon < s.rd F.DUT_PLATE.RESUME * plate) := by
    show decide (pon' < s2.rd F.DUT_PLATE.RESUME * plate) = _
    rw [hs2, hspon, State.rd_dutyShown _ _ _ _ _ _ _ (by decide) (by decide)]
  have hd : d = s.dut := by
    show s2.dut = s.dut
    rw [hs2]
    rfl
  have hs3 : s3 = v := by
    rw [hv]
    show ({ s2 with dut := { s2.dut with
      beamSoft := bs', plateSoft := ps'
      beamHard := bh || (d.beamHard && !br), plateHard := ph || (d.plateHard && !pr)
      beamHot := bs' || bh || ps' || ph || (d.beamHot && !(br && pr))
      plateHot := bs' || bh || ps' || ph || (d.plateHot && !(br && pr)) } } : State) = _
    have hdut : s2.dut = s.dut := hd
    rw [hbs', hps', hbh, hph, hbr, hpr, hd, hdut, hs2]
    simp only [Bool.false_or, Bool.or_false]
    rfl
  show s5.slowShow = _
  have hs5 : s5 = s4 := by
    show (s4.hardCross 7 F.DUT_ERR.BEAM_HARD bh d.beamHard).hardCross 8 F.DUT_ERR.PLATE_HARD ph d.plateHard = s4
    rw [hbh, hph, State.hardCross_false, State.hardCross_false]
  rw [hs5]
  show ((s3.softCross 1 F.DUT_ERR.BEAM_SOFT bs' d.beamSoft).softCross 2 F.DUT_ERR.PLATE_SOFT ps' d.plateSoft).slowShow = _
  rw [hs3, hbs', hps', hd]

/-! ### What the governor shows -/

theorem State.slowShow_noted (s : State) : Noted dutyBlocks s s.slowShow := by
  unfold State.slowShow State.wrBit
  exact (((Noted.refl dutyBlocks s).wr _ _ (by decide)).wr _ _ (by decide)).wr _ _ (by decide)

/-- What the indications leave: every field of another register, and the duties of DUT_STATUS. -/
theorem State.rd_slowShow (s : State) (o l w : Nat) (hslow : o ≠ 0x130050) (hduty : o = 0x140020 → l + w ≤ 48) :
    s.slowShow.rd ⟨o, l, w⟩ = s.rd ⟨o, l, w⟩ := by
  unfold State.slowShow State.wrBit
  rw [State.rd_wr_off _ _ _ _ _ _ _ _ (Ne.symm hslow)]
  by_cases ho : o = 0x140020
  · have := hduty ho
    subst ho
    rw [State.rd_wr_apart _ _ _ _ _ _ _ (by omega), State.rd_wr_apart _ _ _ _ _ _ _ (by omega)]
  · rw [State.rd_wr_off _ _ _ _ _ _ _ _ (Ne.symm ho), State.rd_wr_off _ _ _ _ _ _ _ _ (Ne.symm ho)]

theorem State.bit_wr_off (s : State) (o l w o' l' w' v : Nat) (h : o ≠ o') : (s.wr ⟨o, l, w⟩ v).bit ⟨o', l', w'⟩ = s.bit ⟨o', l', w'⟩ := by
  unfold State.bit
  rw [State.rd_wr_off _ _ _ _ _ _ _ _ h]

theorem State.bit_wr_apart (s : State) (o l w l' w' v : Nat) (h : l + w ≤ l' ∨ l' + w' ≤ l) :
    (s.wr ⟨o, l, w⟩ v).bit ⟨o, l', w'⟩ = s.bit ⟨o, l', w'⟩ := by
  unfold State.bit
  rw [State.rd_wr_apart _ _ _ _ _ _ _ h]

theorem State.bit_slowShow (s : State) :
    s.slowShow.bit F.SLT_STATUS.STAGE_SLOW = (s.slt.slowHold || (s.dut.beamSoft || s.dut.plateSoft || s.dut.tempSoft) ||
      (s.dut.beamHard || s.dut.plateHard || s.dut.tempHard || s.dut.silent)) ∧
    s.slowShow.bit F.DUT_STATUS.SOFT = (s.dut.beamSoft || s.dut.plateSoft || s.dut.tempSoft) ∧
    s.slowShow.bit F.DUT_STATUS.HOT = (s.dut.beamHot || s.dut.plateHot || s.dut.tempHot || s.dut.silent) := by
  unfold State.slowShow
  refine ⟨State.bit_wrBit_same _ _ _ _ (by decide), ?_, ?_⟩
  · exact (State.bit_wr_off _ _ _ _ _ _ _ _ (by decide)).trans (State.bit_wrBit_same _ _ _ _ (by decide))
  · exact (State.bit_wr_off _ _ _ _ _ _ _ _ (by decide)).trans
      ((State.bit_wr_apart _ _ _ _ _ _ _ (by decide)).trans (State.bit_wrBit_same _ _ _ _ (by decide)))

/-- The governor's evaluation below the hard thresholds: what it shows, what it keeps of the governor, and what else it leaves. -/
structure DutyJudged (s t : State) (beam plate : Nat) (peak : Nat × Nat) (d : DutSt) : Prop where
  parts : t = { s with regs := t.regs, hif := { s.hif with due := t.hif.due }, dut := d, acl := t.acl, ikl := t.ikl }
  outside : regsOutside dutyBlocks s t
  beam : t.rd F.DUT_STATUS.BEAM_DUTY = beam
  plate : t.rd F.DUT_STATUS.PLATE_DUTY = plate
  column : t.rd F.DUT_PEAK_BEAM.COLUMN = peak.1 % 512
  crossed : d.beamSoft = true → s.dut.beamSoft = false → t.rd F.DUT_ERR.BEAM_SOFT = 1
  soft : t.bit F.DUT_STATUS.SOFT = (d.beamSoft || d.plateSoft || d.tempSoft)

theorem State.dutyShown_judged {s v : State} {x y : Nat} {peak : Nat × Nat} {bs ps : Bool} {d : DutSt} (hx : x < 2 ^ 16) (hy : y < 2 ^ 16)
    (hbs : d.beamSoft = bs) (hv : v = ({ s.dutyShown x y peak with dut := d } : State)) :
    DutyJudged s ((v.softCross 1 F.DUT_ERR.BEAM_SOFT bs s.dut.beamSoft).softCross 2 F.DUT_ERR.PLATE_SOFT ps s.dut.plateSoft).slowShow
      x y peak d := by
  have hshown : Noted dutyBlocks { s with dut := d } v := by
    rw [hv]
    exact ((((Noted.refl dutyBlocks _).wr F.DUT_STATUS.BEAM_DUTY x (by decide)).wr F.DUT_STATUS.PLATE_DUTY y (by decide)).wr
      F.DUT_PEAK_BEAM.ROW _ (by decide)).wr F.DUT_PEAK_BEAM.COLUMN _ (by decide)
  have hread : ∀ o l w, v.rd ⟨o, l, w⟩ = (s.dutyShown x y peak).rd ⟨o, l, w⟩ := fun o l w => by rw [hv]; rfl
  generalize hm : v.softCross 1 F.DUT_ERR.BEAM_SOFT bs s.dut.beamSoft = m
  generalize he : m.softCross 2 F.DUT_ERR.PLATE_SOFT ps s.dut.plateSoft = e
  have hnoted : Noted dutyBlocks { s with dut := d } e :=
    he ▸ hm ▸ (hshown.trans (v.softCross_noted _ _ _ _ (by decide))).trans (State.softCross_noted _ _ _ _ _ (by decide))
  have hdut : e.dut = d := by rw [hnoted.parts]
  have hkept : ∀ o l w, o / 0x10000 = 0x14 → o ≠ 0x140030 → e.rd ⟨o, l, w⟩ = v.rd ⟨o, l, w⟩ := fun o l w ho herr => by
    rw [← he, State.rd_softCross _ _ _ _ _ _ _ _ (by omega), ← hm]
    have hflag : ∀ (c : Prop) [Decidable c] (u : State) (l' w' : Nat), (if c then u.set1 ⟨0x140030, l', w'⟩ else u).rd ⟨o, l, w⟩ = u.rd ⟨o, l, w⟩ :=
      fun c _ u l' w' => by
        split
        · exact State.rd_wr_off _ _ _ _ _ _ _ _ (Ne.symm herr)
        · rfl
    rw [hflag, State.rd_softCross _ _ _ _ _ _ _ _ (by omega), hflag]
  have hlast := hnoted.trans e.slowShow_noted
  refine ⟨hlast.parts, fun o ho => hlast.outside o ho, ?_, ?_, ?_, fun hnow hbefore => ?_, ?_⟩
  · rw [State.rd_slowShow _ _ _ _ (by decide) (by decide), hkept _ _ _ (by decide) (by decide), hread]
    unfold State.dutyShown
    rw [State.rd_wr_off _ _ _ _ _ _ _ _ (by decide), State.rd_wr_off _ _ _ _ _ _ _ _ (by decide),
      State.rd_wr_apart _ _ _ _ _ _ _ (by decide), State.rd_wr_same _ _ _ _ _ (by decide), Nat.mod_eq_of_lt hx]
  · rw [State.rd_slowShow _ _ _ _ (by decide) (by decide), hkept _ _ _ (by decide) (by decide), hread]
    unfold State.dutyShown
    rw [State.rd_wr_off _ _ _ _ _ _ _ _ (by decide), State.rd_wr_off _ _ _ _ _ _ _ _ (by decide),
      State.rd_wr_same _ _ _ _ _ (by decide), Nat.mod_eq_of_lt hy]
  · rw [State.rd_slowShow _ _ _ _ (by decide) (by decide), hkept _ _ _ (by decide) (by decide), hread]
    unfold State.dutyShown
    rw [State.rd_wr_same _ _ _ _ _ (by decide)]
    omega
  · rw [State.rd_slowShow _ _ _ _ (by decide) (by decide), ← he, State.rd_softCross _ _ _ _ _ _ _ _ (by decide)]
    have hbit : m.rd F.DUT_ERR.BEAM_SOFT = 1 := by
      rw [← hm, State.rd_softCross _ _ _ _ _ _ _ _ (by decide), ← hbs, hnow, hbefore, if_pos (by decide)]
      exact State.rd_wr_same _ _ _ _ _ (by decide)
    split
    · exact (State.rd_wr_apart _ _ _ _ _ _ _ (by decide)).trans hbit
    · exact hbit
  · rw [e.bit_slowShow.2.1, hdut]

theorem State.dutyJudge_spec {s : State} {on pon : Nat}
    (hon : on = (peakBeam s.dut.beamWindow).2 * s.rd F.DUT_CFG.STEP_PS * 65536)
    (hpon : pon = s.dut.plateWindow * s.rd F.DUT_CFG.STEP_PS * 65536)
    (hbeam : on < s.rd F.DUT_BEAM.HARD * beamUnit) (hplate : pon < s.rd F.DUT_PLATE.HARD * plateUnit) :
    DutyJudged s s.dutyJudge (min (on / beamUnit) 0xFFFF) (min (pon / plateUnit) 0xFFFF) (peakBeam s.dut.beamWindow)
      (s.dut.judged (s.rd F.DUT_BEAM.SOFT * beamUnit ≤ on) (s.rd F.DUT_PLATE.SOFT * plateUnit ≤ pon)
        (on < s.rd F.DUT_BEAM.RESUME * beamUnit) (pon < s.rd F.DUT_PLATE.RESUME * plateUnit)) := by
  rw [State.dutyJudge_soft hon hpon hbeam hplate rfl rfl rfl]
  exact State.dutyShown_judged (lt_of_le_of_lt (Nat.min_le_right _ _) (by decide)) (lt_of_le_of_lt (Nat.min_le_right _ _) (by decide)) rfl rfl

/-- The same of a state whose registers are those of another, and whose windows are those of a governor that is named. -/
theorem State.dutyJudge_of {s : State} (u : State) {d : DutSt} {on pon : Nat} (hregs : u.regs = s.regs)
    (hbeams : u.dut.beamWindow = d.beamWindow) (hplates : u.dut.plateWindow = d.plateWindow)
    (hon : on = (peakBeam d.beamWindow).2 * s.rd F.DUT_CFG.STEP_PS * 65536)
    (hpon : pon = d.plateWindow * s.rd F.DUT_CFG.STEP_PS * 65536)
    (hbeam : on < s.rd F.DUT_BEAM.HARD * beamUnit) (hplate : pon < s.rd F.DUT_PLATE.HARD * plateUnit) :
    DutyJudged u u.dutyJudge (min (on / beamUnit) 0xFFFF) (min (pon / plateUnit) 0xFFFF) (peakBeam d.beamWindow)
      (u.dut.judged (s.rd F.DUT_BEAM.SOFT * beamUnit ≤ on) (s.rd F.DUT_PLATE.SOFT * plateUnit ≤ pon)
        (on < s.rd F.DUT_BEAM.RESUME * beamUnit) (pon < s.rd F.DUT_PLATE.RESUME * plateUnit)) := by
  have hread : ∀ f, u.rd f = s.rd f := fun f => by
    unfold State.rd State.reg
    rw [hregs]
  have h := u.dutyJudge_spec (on := on) (pon := pon) (by rw [hbeams, hread]; exact hon) (by rw [hplates, hread]; exact hpon)
    (by rw [hread]; exact hbeam) (by rw [hread]; exact hplate)
  simp only [hread, hbeams] at h
  exact h

/-! ### Requests, the hold time, and the governor's commands -/

theorem exec_blankReqAssert (s : State) : exec .blankReqAssert s = .next (s.set1 F.SLT_STATUS.BLANK_REQ).windowLow := rfl

theorem exec_blankReqRelease (s : State) :
    exec .blankReqRelease s = .next ((s.clr F.SLT_STATUS.BLANK_REQ).clr F.SLT_STATUS.BLANK_LASTING) := rfl

theorem exec_blankLasting {s u : State} {data : List Byte} (h : s.bit F.SLT_STATUS.BLANK_REQ = true)
    (hu : u = s.set1 F.SLT_STATUS.BLANK_LASTING)
    (hdata : data = leBytes 4 (u.rd F.SLT_SLOT.LEAF) ++ leBytes 4 (u.rd F.SLT_SLOT.SLOT)) :
    exec .blankLasting s = .next (u.aclLog 0x0501 data).faultEvent := by
  subst hu hdata
  exact if_pos h

theorem exec_stageSlowHoldExpiry (s : State) :
    exec .stageSlowHoldExpiry s = .next ({ s with slt := { s.slt with slowHold := false } } : State).slowShow := rfl

theorem exec_dutyVerdict {s : State} {d : Nat × Nat} {rest : List (Nat × Nat)} (h : s.dut.due = d :: rest) :
    exec .dutyVerdict s = .next ({ s with dut := { s.dut with due := rest } } : State).dutyJudge := by
  show execDutyVerdict s = _
  unfold execDutyVerdict
  rw [h]
  rfl

theorem exec_dutySubwindowRoll (s : State) (plate : Bool) : exec (.dutySubwindowRoll plate) s = .next ({ s with dut := if plate then
      { s.dut with plate := (0 :: s.dut.plate).take 11, plateRoll := s.dut.plateRoll + 1 }
    else { s.dut with beams := ([] :: s.dut.beams).take 5, beamRoll := s.dut.beamRoll + 1 } } : State).dutyJudge := rfl

/-- Settles O28: the requests and their window, the end of the hold time, and the governor below its hard thresholds. -/
theorem blankingRequestsAndDutyAreShown : Obligations.BlankingRequestsAndDutyAreShown := by
  unfold Obligations.BlankingRequestsAndDutyAreShown
  refine ⟨fun s => ⟨_, exec_blankReqAssert s, ?_⟩, fun s => ⟨_, exec_blankReqRelease s, ?_⟩, fun s hreq => ?_,
    fun s low => ⟨_, rfl, ?_, rfl⟩, fun s => ⟨_, exec_stageSlowHoldExpiry s, ?_⟩, fun s d rest on pon hdue hon hpon hbeam hplate => ?_,
    fun s plate d on pon hd hon hpon hbeam hplate => ?_⟩
  · have hbit : (s.set1 F.SLT_STATUS.BLANK_REQ).bit F.SLT_STATUS.BLANK_REQ = true := State.bit_wrBit_same s _ _ true (by decide)
    refine ⟨hbit, ?_, rfl, regsApart_wr _ _ regsApart_refl (by decide)⟩
    have hdrive : (s.set1 F.SLT_STATUS.BLANK_REQ).bit F.SAF_STATUS.BLANK_DRIVE = s.bit F.SAF_STATUS.BLANK_DRIVE :=
      State.bit_wr_off _ _ _ _ _ _ _ _ (by decide)
    unfold State.windowLow State.blankLow
    rw [hbit, hdrive]
    rfl
  · refine ⟨?_, State.rd_wr_same _ _ _ _ _ (by decide), rfl, ?_⟩
    · exact (State.rd_wr_apart _ _ _ _ _ _ _ (by decide)).trans (State.rd_wr_same _ _ _ _ _ (by decide))
    · exact regsApart_wr _ _ (regsApart_wr _ _ regsApart_refl (by decide)) (by decide)
  · refine ⟨_, exec_blankLasting hreq rfl rfl, ?_⟩
    generalize hdata : leBytes 4 _ ++ leBytes 4 _ = data
    clear hdata
    have hnoted : Noted (fun b => b = 0x13 || b = 0x20 || b = 0x22) s ((s.set1 F.SLT_STATUS.BLANK_LASTING).aclLog 0x0501 data).faultEvent :=
      (((Noted.refl _ s).wr F.SLT_STATUS.BLANK_LASTING 1 (by decide)).aclLog _ _ (by decide) (by decide)).announce _ _ (by decide)
    obtain ⟨hdue, hpending⟩ := State.faultEvent_told ((s.set1 F.SLT_STATUS.BLANK_LASTING).aclLog 0x0501 data)
    refine ⟨?_, ?_, hpending, hdue, hnoted.parts, hnoted.outside⟩
    · unfold State.bit
      rw [State.rd_noted _ _ _ _ _ _ (by decide)]
      exact State.bit_wrBit_same s _ _ true (by decide)
    · unfold State.bit
      rw [State.rd_noted _ _ _ _ _ _ (by decide)]
      exact (State.bit_wr_apart _ _ _ _ _ _ _ (by decide)).trans hreq
  · rfl
  · obtain ⟨hslow, hsoft, hhot⟩ := State.bit_slowShow ({ s with slt := { s.slt with slowHold := false } } : State)
    refine ⟨rfl, hslow.trans ?_, hsoft, hhot, rfl, ?_⟩
    · show (false || (s.dut.beamSoft || s.dut.plateSoft || s.dut.tempSoft) ||
        (s.dut.beamHard || s.dut.plateHard || s.dut.tempHard || s.dut.silent)) = _
      simp only [Bool.false_or, Bool.or_assoc]
    · exact regsApart_wr _ _ (regsApart_wr _ _ (regsApart_wr _ _ (regsApart_regs regsApart_refl rfl) (by decide)) (by decide)) (by decide)
  · refine ⟨_, exec_dutyVerdict hdue, ?_⟩
    obtain ⟨u, hu⟩ : ∃ u, u = ({ s with dut := { s.dut with due := rest } } : State) := ⟨_, rfl⟩
    have h := u.dutyJudge_of (s := s) (by rw [hu]) (d := s.dut) (by rw [hu]; rfl) (by rw [hu]; rfl) hon hpon hbeam hplate
    rw [← hu]
    generalize hj : DutSt.judged _ _ _ _ _ = j at h
    generalize State.dutyJudge u = t at h ⊢
    obtain ⟨hparts, hout, hbd, hpd, hcolumn, hcrossed, hsoft⟩ := h
    have hdut : t.dut = j := by rw [hparts]
    obtain ⟨htemp, hkept, hhard⟩ := DutSt.judged_kept u.dut (s.rd F.DUT_BEAM.SOFT * beamUnit ≤ on)
      (s.rd F.DUT_PLATE.SOFT * plateUnit ≤ pon) (on < s.rd F.DUT_BEAM.RESUME * beamUnit) (pon < s.rd F.DUT_PLATE.RESUME * plateUnit)
    rw [hj, hu] at htemp hkept hhard
    have hdue' : j.due = rest := congrArg (fun x => x.2.2.1) hkept
    have hbefore : u.dut.beamSoft = s.dut.beamSoft := by rw [hu]
    refine ⟨by rw [hdut, hdue'], hbd, hpd, hcolumn, ?_, ?_, fun hnow hwas => hcrossed (hdut ▸ hnow) (hbefore.trans hwas), ?_, ?_, ?_⟩
    · rw [hdut, ← hj]
      rfl
    · rw [hdut, hhard]
    · rw [hsoft, hdut, htemp]
    · rw [hdut]
      rw [hu] at hparts
      exact hparts
    · rw [hu] at hout
      exact hout
  · refine ⟨_, exec_dutySubwindowRoll s plate, ?_⟩
    rw [← hd]
    obtain ⟨u, hu⟩ : ∃ u, u = ({ s with dut := d } : State) := ⟨_, rfl⟩
    have h := u.dutyJudge_of (s := s) (by rw [hu]) (d := d) (by rw [hu]) (by rw [hu]) hon hpon hbeam hplate
    rw [← hu]
    generalize hj : DutSt.judged _ _ _ _ _ = j at h
    generalize State.dutyJudge u = t at h ⊢
    obtain ⟨hparts, hout, hbd, hpd, -, -, -⟩ := h
    have hdut : t.dut = j := by rw [hparts]
    obtain ⟨-, hkept, -⟩ := DutSt.judged_kept u.dut (s.rd F.DUT_BEAM.SOFT * beamUnit ≤ on)
      (s.rd F.DUT_PLATE.SOFT * plateUnit ≤ pon) (on < s.rd F.DUT_BEAM.RESUME * beamUnit) (pon < s.rd F.DUT_PLATE.RESUME * plateUnit)
    rw [hj, hu] at hkept
    have hdue : d.due = s.dut.due := by
      rw [hd]
      cases plate <;> rfl
    refine ⟨?_, hbd, hpd, ?_, ?_⟩
    · rw [hdut, hkept, hdue]
    · rw [hdut]
      rw [hu] at hparts
      exact hparts
    · rw [hu] at hout
      exact hout

end Sys2Proof.Machine
end

section
/-! SUPPORT. The walk of the scrubber (R202, R203, R207). -/
namespace Sys2Proof.Machine

/-! ### Requests at the ports -/

/-- What a request for an address adds to a channel. -/
def State.queued (s : State) (write : Option (Nat × List Byte)) (a : Nat) (m : MemCh) : MemCh :=
  { m with
    seen := m.seen + 1
    ports := m.ports ++ [⟨4, burstOf a, write, (s.bankRow (burstOf a)).1, (s.bankRow (burstOf a)).2, none, false, m.seen, 30, false, a⟩] }

theorem State.portPut_scrub (s : State) (c a : Nat) (write : Option (Nat × List Byte)) :
    s.portPut c a write none 30 false = { s with mem := { s.mem with ch := s.mem.ch.modify c (s.queued write a) } } := rfl

theorem State.memCh_modify (s : State) (c d : Nat) (f : MemCh → MemCh) (hd : d < s.mem.ch.length) :
    ({ s with mem := { s.mem with ch := s.mem.ch.modify c f } } : State).memCh d = if d = c then f (s.memCh d) else s.memCh d := by
  show (s.mem.ch.modify c f).getD d memChNew = _
  unfold State.memCh
  rw [List.getD_eq_getElem _ _ (by rw [List.length_modify]; exact hd), List.getD_eq_getElem _ _ hd, List.getElem_modify]
  by_cases hdc : d = c
  · rw [if_pos hdc, if_pos hdc.symm]
  · rw [if_neg hdc, if_neg (Ne.symm hdc)]

/-- The step of the walk at one channel: a request for its burst, where the channel has one. -/
def State.walkAt (s : State) (at_ : Nat) (c : Nat) : State := match s.spaceOf c at_ with
  | none => s
  | some a => s.portPut c a none none 30 false

/-- What the walk adds to a channel. -/
def State.walked (s : State) (at_ c : Nat) (m : MemCh) : MemCh := match s.spaceOf c at_ with
  | none => m
  | some a => s.queued none a m

theorem State.walkAt_eq (s : State) (at_ c : Nat) :
    s.walkAt at_ c = { s with mem := { s.mem with ch := s.mem.ch.modify c (s.walked at_ c) } } := by
  unfold State.walkAt State.walked
  cases s.spaceOf c at_ with
  | none =>
    have hid : s.mem.ch.modify c (fun m => m) = s.mem.ch := List.modify_id c s.mem.ch
    show s = { s with mem := { s.mem with ch := s.mem.ch.modify c (fun m => m) } }
    rw [hid]
  | some a => exact s.portPut_scrub c a none

/-- The walk over channels that differ: each gets the request for its burst, and nothing else changes. -/
theorem State.walk_spec (at_ : Nat) (cs : List Nat) (hcs : cs.Nodup) (s : State) :
    ∃ ch, cs.foldl (fun s c => s.walkAt at_ c) s = { s with mem := { s.mem with ch := ch } } ∧ ch.length = s.mem.ch.length ∧
      ∀ d, d < s.mem.ch.length → ch.getD d memChNew = if d ∈ cs then s.walked at_ d (s.memCh d) else s.memCh d := by
  induction cs generalizing s with
  | nil => exact ⟨_, rfl, rfl, fun d _ => rfl⟩
  | cons c cs ih =>
    obtain ⟨hc, hcs⟩ := List.nodup_cons.mp hcs
    rw [List.foldl_cons, s.walkAt_eq at_ c]
    obtain ⟨ch, hfold, hlen, hch⟩ := ih hcs ({ s with mem := { s.mem with ch := s.mem.ch.modify c (s.walked at_ c) } } : State)
    refine ⟨ch, hfold, hlen.trans (List.length_modify _ _ _), fun d hd => ?_⟩
    rw [hch d (by rw [List.length_modify]; exact hd), State.memCh_modify _ _ _ _ hd]
    by_cases hdc : d = c
    · subst hdc
      rw [if_neg hc, if_pos rfl, if_pos List.mem_cons_self]
    · rw [if_neg hdc]
      have hmem : d ∈ c :: cs ↔ d ∈ cs := by simp [hdc]
      simp only [hmem]
      rfl

theorem State.ports_walked (s : State) (at_ c : Nat) (m : MemCh) : (s.walked at_ c m).ports = m.ports ++ (match s.spaceOf c at_ with
    | some a => [⟨4, burstOf a, none, (s.bankRow (burstOf a)).1, (s.bankRow (burstOf a)).2, none, false, m.seen, 30, false, a⟩]
    | none => []) := by
  unfold State.walked
  cases s.spaceOf c at_ with
  | none => exact (List.append_nil _).symm
  | some a => rfl

/-- The walk's position after the burst at `pos`: the next one, or the first of a new pass. -/
def State.walkOn (w : State) (pos : Nat) : State :=
  if pos + 1 < w.channelBursts then w.wr F.SCR_STATUS.POS (pos + 1) else (w.wr F.SCR_STATUS.POS 0).incWrap F.SCR_STATUS.PASSES

theorem State.walkOn_spec (w : State) (pos n : Nat) (hn : w.channelBursts = n) :
    (w.walkOn pos).rd F.SCR_STATUS.POS = (if pos + 1 < n then (pos + 1) % 2 ^ 33 else 0) ∧
    (n ≤ pos + 1 → (w.walkOn pos).rd F.SCR_STATUS.PASSES = (w.rd F.SCR_STATUS.PASSES + 1) % 2 ^ 16) ∧
    w.walkOn pos = { w with regs := (w.walkOn pos).regs } ∧ regsApart [F.SCR_STATUS.POS.off] w (w.walkOn pos) := by
  unfold State.walkOn
  rw [hn]
  by_cases h : pos + 1 < n
  · rw [if_pos h, if_pos h]
    exact ⟨State.rd_wr_same _ _ _ _ _ (by decide), fun h' => absurd h (by omega), rfl, regsApart_wr _ _ regsApart_refl (by decide)⟩
  · rw [if_neg h, if_neg h]
    refine ⟨(State.rd_wr_apart _ _ _ _ _ _ _ (by decide)).trans (State.rd_wr_same _ _ _ _ _ (by decide)), fun _ => ?_, rfl,
      regsApart_wr _ _ (regsApart_wr _ _ regsApart_refl (by decide)) (by decide)⟩
    unfold State.incWrap
    rw [State.rd_wr_same _ _ _ _ _ (by decide), State.rd_wr_apart _ _ _ _ _ _ _ (by decide)]

theorem exec_scrubRead {s : State} {bank : Fin 64} {row pos : Nat} (hstate : s.rd F.SCR_STATUS.STATE = 1)
    (hpos : s.rd F.SCR_STATUS.POS = pos) (hrow : s.bankRowAt (pos * 64) = (bank.val, row)) :
    exec (.scrubRead bank row) s = .next (((List.range 6).foldl (fun u c => u.walkAt (pos * 64) c) s).walkOn pos) := by
  show execScrubRead bank row s = _
  unfold execScrubRead State.walkOn
  rw [if_neg (by rw [hstate, hpos, hrow]; simp), apply_ite Host.Outcome.next, hpos]
  rfl

/-! ### The enable -/

theorem State.scrubShow_eq (s : State) : s.scrubShow =
    if s.rd F.SCR_STATUS.STATE = 1 ∨ s.rd F.SCR_STATUS.STATE = 3 then s.wr F.SCR_STATUS.STATE (if s.anyResting then 3 else 1) else s := by
  unfold State.scrubShow
  simp only [Bool.or_eq_true, decide_eq_true_eq]

theorem State.anyResting_wr (s : State) (o l w v : Nat) (ho : o ≠ F.MEM_STATUS.SELF_REFRESH.off) :
    (s.wr ⟨o, l, w⟩ v).anyResting = s.anyResting := by
  unfold State.anyResting
  rw [State.rd_wr_off _ _ _ _ _ _ _ _ ho]

/-- A walk that is to run runs, or is paused while a channel rests. -/
theorem State.scrubShow_started (s : State) : (s.wr F.SCR_STATUS.STATE 1).scrubShow =
    (s.wr F.SCR_STATUS.STATE 1).wr F.SCR_STATUS.STATE (if s.anyResting then 3 else 1) := by
  rw [State.scrubShow_eq, if_pos (.inl (State.rd_wr_same _ _ _ _ _ (by decide))), State.anyResting_wr _ _ _ _ _ (by decide)]

theorem State.scrEnable_eq (s : State) : s.scrEnable =
    if s.rd F.SCR_STATUS.STATE = 2 then (s.set1 F.SCR_CTL.ENABLE).set1 F.SCR_STATUS.PENDING_ENABLE
    else if s.rd F.SCR_STATUS.STATE = 0 then ((s.set1 F.SCR_CTL.ENABLE).wr F.SCR_STATUS.STATE 1).wr F.SCR_STATUS.STATE
      (if s.anyResting then 3 else 1)
    else s.set1 F.SCR_CTL.ENABLE := by
  unfold State.scrEnable
  have hstate : (s.set1 F.SCR_CTL.ENABLE).rd F.SCR_STATUS.STATE = s.rd F.SCR_STATUS.STATE := State.rd_wr_off _ _ _ _ _ _ _ _ (by decide)
  have hrest : (s.set1 F.SCR_CTL.ENABLE).anyResting = s.anyResting := State.anyResting_wr _ _ _ _ _ (by decide)
  simp only [hstate, State.scrubShow_started, hrest]

theorem State.scrDisable_eq (s : State) : s.scrDisable =
    if s.rd F.SCR_STATUS.STATE = 2 then (s.clr F.SCR_CTL.ENABLE).clr F.SCR_STATUS.PENDING_ENABLE
    else if s.rd F.SCR_STATUS.STATE = 0 then s.clr F.SCR_CTL.ENABLE
    else (s.clr F.SCR_CTL.ENABLE).wr F.SCR_STATUS.STATE 2 := by
  unfold State.scrDisable
  have hstate : (s.clr F.SCR_CTL.ENABLE).rd F.SCR_STATUS.STATE = s.rd F.SCR_STATUS.STATE := State.rd_wr_off _ _ _ _ _ _ _ _ (by decide)
  simp only [hstate]

theorem State.scrEnable_spec (s : State) : s.scrEnable.rd F.SCR_CTL.ENABLE = 1 ∧
    s.scrEnable.rd F.SCR_STATUS.STATE =
      (if s.rd F.SCR_STATUS.STATE = 0 then (if s.anyResting then 3 else 1) else s.rd F.SCR_STATUS.STATE) ∧
    s.scrEnable.rd F.SCR_STATUS.PENDING_ENABLE =
      (if s.rd F.SCR_STATUS.STATE = 2 then 1 else s.rd F.SCR_STATUS.PENDING_ENABLE) ∧
    regsApart [F.SCR_CTL.ENABLE.off, F.SCR_STATUS.STATE.off] s s.scrEnable := by
  have henable : (s.set1 F.SCR_CTL.ENABLE).rd F.SCR_CTL.ENABLE = 1 := State.rd_wr_same _ _ _ _ _ (by decide)
  have hkept : ∀ l w, (s.set1 F.SCR_CTL.ENABLE).rd ⟨F.SCR_STATUS.STATE.off, l, w⟩ = s.rd ⟨F.SCR_STATUS.STATE.off, l, w⟩ :=
    fun l w => State.rd_wr_off _ _ _ _ _ _ _ _ (by decide)
  have hregs : regsApart [F.SCR_CTL.ENABLE.off, F.SCR_STATUS.STATE.off] s (s.set1 F.SCR_CTL.ENABLE) :=
    regsApart_wr _ _ regsApart_refl (by decide)
  rw [State.scrEnable_eq]
  by_cases h2 : s.rd F.SCR_STATUS.STATE = 2
  · rw [if_pos h2, if_pos h2, if_neg (by omega)]
    exact ⟨(State.rd_wr_off _ _ _ _ _ _ _ _ (by decide)).trans henable, (State.rd_wr_apart _ _ _ _ _ _ _ (by decide)).trans (hkept _ _),
      State.rd_wr_same _ _ _ _ _ (by decide), regsApart_wr _ _ hregs (by decide)⟩
  · rw [if_neg h2, if_neg h2]
    by_cases h0 : s.rd F.SCR_STATUS.STATE = 0
    · rw [if_pos h0, if_pos h0]
      refine ⟨?_, ?_, ?_, regsApart_wr _ _ (regsApart_wr _ _ hregs (by decide)) (by decide)⟩
      · exact (State.rd_wr_off _ _ _ _ _ _ _ _ (by decide)).trans ((State.rd_wr_off _ _ _ _ _ _ _ _ (by decide)).trans henable)
      · exact (State.rd_wr_same _ _ _ _ _ (by decide)).trans (by split <;> rfl)
      · exact (State.rd_wr_apart _ _ _ _ _ _ _ (by decide)).trans
          ((State.rd_wr_apart _ _ _ _ _ _ _ (by decide)).trans (hkept _ _))
    · rw [if_neg h0, if_neg h0]
      exact ⟨henable, hkept _ _, hkept _ _, hregs⟩

theorem State.scrDisable_spec (s : State) : s.scrDisable.rd F.SCR_CTL.ENABLE = 0 ∧
    s.scrDisable.rd F.SCR_STATUS.STATE = (if s.rd F.SCR_STATUS.STATE = 0 then 0 else 2) ∧
    s.scrDisable.rd F.SCR_STATUS.PENDING_ENABLE =
      (if s.rd F.SCR_STATUS.STATE = 2 then 0 else s.rd F.SCR_STATUS.PENDING_ENABLE) ∧
    regsApart [F.SCR_CTL.ENABLE.off, F.SCR_STATUS.STATE.off] s s.scrDisable := by
  have henable : (s.clr F.SCR_CTL.ENABLE).rd F.SCR_CTL.ENABLE = 0 := State.rd_wr_same _ _ _ _ _ (by decide)
  have hkept : ∀ l w, (s.clr F.SCR_CTL.ENABLE).rd ⟨F.SCR_STATUS.STATE.off, l, w⟩ = s.rd ⟨F.SCR_STATUS.STATE.off, l, w⟩ :=
    fun l w => State.rd_wr_off _ _ _ _ _ _ _ _ (by decide)
  have hregs : regsApart [F.SCR_CTL.ENABLE.off, F.SCR_STATUS.STATE.off] s (s.clr F.SCR_CTL.ENABLE) :=
    regsApart_wr _ _ regsApart_refl (by decide)
  rw [State.scrDisable_eq]
  by_cases h2 : s.rd F.SCR_STATUS.STATE = 2
  · rw [if_pos h2, if_pos h2, if_neg (by omega)]
    exact ⟨(State.rd_wr_off _ _ _ _ _ _ _ _ (by decide)).trans henable,
      (State.rd_wr_apart _ _ _ _ _ _ _ (by decide)).trans ((hkept _ _).trans h2),
      State.rd_wr_same _ _ _ _ _ (by decide), regsApart_wr _ _ hregs (by decide)⟩
  · rw [if_neg h2, if_neg h2]
    by_cases h0 : s.rd F.SCR_STATUS.STATE = 0
    · rw [if_pos h0, if_pos h0]
      exact ⟨henable, (hkept _ _).trans h0, hkept _ _, hregs⟩
    · rw [if_neg h0, if_neg h0]
      exact ⟨(State.rd_wr_off _ _ _ _ _ _ _ _ (by decide)).trans henable, State.rd_wr_same _ _ _ _ _ (by decide),
        (State.rd_wr_apart _ _ _ _ _ _ _ (by decide)).trans (hkept _ _), regsApart_wr _ _ hregs (by decide)⟩

theorem exec_scrEnable {s : State} {m : Master} (hserves : s.serves m F.SCR_CTL.ENABLE.off = true) :
    exec (.scrEnable m) s = .next s.scrEnable := by
  show execScrEnable m s = _
  unfold execScrEnable
  rw [State.gated_serves _ _ _ _ hserves]
  rfl

theorem exec_scrDisable {s : State} {m : Master} (hserves : s.serves m F.SCR_CTL.ENABLE.off = true) :
    exec (.scrDisable m) s = .next s.scrDisable := by
  show execScrDisable m s = _
  unfold execScrDisable
  rw [State.gated_serves _ _ _ _ hserves]
  rfl

theorem exec_scrDrainComplete {s : State} (hstate : s.rd F.SCR_STATUS.STATE = 2) : exec .scrDrainComplete s =
    .next (if s.bit F.SCR_STATUS.PENDING_ENABLE then
        ((s.clr F.SCR_STATUS.PENDING_ENABLE).wr F.SCR_STATUS.STATE 1).wr F.SCR_STATUS.STATE (if s.anyResting then 3 else 1)
      else s.wr F.SCR_STATUS.STATE 0) := by
  show execScrDrainComplete s = _
  unfold execScrDrainComplete
  have hrest : (s.clr F.SCR_STATUS.PENDING_ENABLE).anyResting = s.anyResting := State.anyResting_wr _ _ _ _ _ (by decide)
  rw [if_neg (by rw [hstate]; decide), State.scrubShow_started, hrest]
  exact (apply_ite Host.Outcome.next _ _ _).symm

theorem exec_scrubWriteback {s : State} {a c : Nat} {rest : List Nat} (hwaits : s.mem.writeBack = a :: rest) (hc : s.chanOf a = some c) :
    exec .scrubWriteback s = .next (({ s with mem := { s.mem with writeBack := rest } } : State).portPut c a (some (0, [])) none 30 false) := by
  show execScrubWriteback s = _
  unfold execScrubWriteback
  rw [hwaits]
  have hc' : ({ s with mem := { s.mem with writeBack := rest } } : State).chanOf a = some c := hc
  simp only [hc']
  rfl

theorem exec_scrubBehind {s : State} (hstate : s.rd F.SCR_STATUS.STATE = 1) : exec .scrubBehind s = .next (s.set1 F.SCR_ERR.BEHIND) :=
  congrArg Host.Outcome.next (if_pos hstate)

/-- Settles O35: the walk's requests, the write-back, a late pass, and the enable with its drain. -/
theorem theScrubberWalksEveryChannel : Obligations.TheScrubberWalksEveryChannel := by
  unfold Obligations.TheScrubberWalksEveryChannel
  refine ⟨fun s bank row hstate hrow hlen => ?_, fun s a rest c hlen hwaits hc hlt => ⟨_, exec_scrubWriteback hwaits hc, ?_⟩,
    fun s hstate => ⟨_, exec_scrubBehind hstate, ?_⟩, fun s m hserves => ⟨_, exec_scrEnable hserves, ?_⟩,
    fun s m hserves => ⟨_, exec_scrDisable hserves, ?_⟩, fun s hstate => ⟨_, exec_scrDrainComplete hstate, ?_⟩⟩
  · obtain ⟨pos, hpos⟩ : ∃ pos, s.rd F.SCR_STATUS.POS = pos := ⟨_, rfl⟩
    rw [hpos] at hrow ⊢
    obtain ⟨ch, hfold, -, hch⟩ := State.walk_spec (pos * 64) (List.range 6) List.nodup_range s
    have hexec := exec_scrubRead hstate hpos hrow
    rw [hfold] at hexec
    refine ⟨_, hexec, ?_⟩
    obtain ⟨w, hw⟩ : ∃ w, w = ({ s with mem := { s.mem with ch := ch } } : State) := ⟨_, rfl⟩
    rw [← hw]
    obtain ⟨hp, hpasses, hparts, hregs⟩ := State.walkOn_spec w pos s.channelBursts (by rw [hw]; rfl)
    have hch' : (w.walkOn pos).mem.ch = ch := by rw [hparts, hw]
    refine ⟨fun c hc => ?_, hp, fun h => (hpasses h).trans (by rw [hw]; rfl), ?_, fun o ho => (hregs o ho).trans (by rw [hw]; rfl)⟩
    · have hmem : (w.walkOn pos).memCh c = ch.getD c memChNew := by
        unfold State.memCh
        rw [hch']
      rw [hmem, hch c (by omega), if_pos (List.mem_range.mpr hc)]
      refine (State.ports_walked s (pos * 64) c _).trans ?_
      rfl
    · rw [hch']
      rw [hw] at hparts ⊢
      exact hparts
  · obtain ⟨w, hw⟩ : ∃ w, w = ({ s with mem := { s.mem with writeBack := rest } } : State) := ⟨_, rfl⟩
    have hch : ∀ d, d < 6 → (w.portPut c a (some (0, [])) none 30 false).memCh d =
        if d = c then s.queued (some (0, [])) a (s.memCh d) else s.memCh d := fun d hd => by
      rw [State.portPut_scrub]
      refine (State.memCh_modify w c d _ (by rw [hw]; exact hlen ▸ hd)).trans ?_
      rw [hw]
      rfl
    rw [← hw]
    refine ⟨by rw [hw]; rfl, ?_, fun d hd hne => by rw [hch d hd, if_neg hne], by rw [hw]; rfl⟩
    rw [hch c hlt, if_pos rfl]
    rfl
  · exact ⟨State.rd_wr_same _ _ _ _ _ (by decide), rfl, regsApart_wr _ _ regsApart_refl (by decide)⟩
  · obtain ⟨henable, hstate, hpending, hregs⟩ := s.scrEnable_spec
    exact ⟨henable, hstate, hpending, by rw [State.scrEnable_eq]; split <;> [rfl; split <;> rfl], hregs⟩
  · obtain ⟨henable, hstate, hpending, hregs⟩ := s.scrDisable_spec
    exact ⟨henable, hstate, hpending, by rw [State.scrDisable_eq]; split <;> [rfl; split <;> rfl], hregs⟩
  · by_cases h : s.bit F.SCR_STATUS.PENDING_ENABLE = true
    · rw [if_pos h, if_pos h]
      refine ⟨?_, ?_, rfl, regsApart_wr _ _ (regsApart_wr _ _ (regsApart_wr _ _ regsApart_refl (by decide)) (by decide)) (by decide)⟩
      · exact (State.rd_wr_same _ _ _ _ _ (by decide)).trans (by split <;> rfl)
      · exact (State.rd_wr_apart _ _ _ _ _ _ _ (by decide)).trans ((State.rd_wr_apart _ _ _ _ _ _ _ (by decide)).trans
          (State.rd_wr_same _ _ _ _ _ (by decide)))
    · have hpending : s.rd F.SCR_STATUS.PENDING_ENABLE = 0 := by simpa [State.bit] using h
      rw [if_neg h, if_neg h]
      exact ⟨State.rd_wr_same _ _ _ _ _ (by decide), (State.rd_wr_apart _ _ _ _ _ _ _ (by decide)).trans hpending, rfl,
        regsApart_wr _ _ regsApart_refl (by decide)⟩

end Sys2Proof.Machine
end

section
/-! SUPPORT. The far counter in the fog node rows that a block brings (R68). -/
namespace Sys2Proof.Machine

/-- A block that is not coded and holds one FOG_NODES record, of row 0. -/
def fogData : List Byte := leBytes 24 0 ++ leBytes 4 28 ++ leBytes 4 0 ++ (leBytes 1 3 ++ leBytes 3 7 ++ leBytes 24 0)

/-- The awaited block of an admitted leaf with fog. -/
def fogBlock : Blk := ⟨0, 0, 0, 0, false, false, .good, fogData, 0, 0, false, true, false, true, [], 0, 0, false, false⟩
def fogHdr : LeafHdr := ⟨0, false, false, false, true, 0, 0, 0, 0, 0, 0, 0, 0, 0, 0, 0⟩
def fogLeaf : Leaf := { leafNew 0 with hdr := some fogHdr, admitted := true, blocks := [fogBlock] }

/-- The leaf with the row that the block brings. -/
def fogLeafTaken : Leaf := { fogLeaf with fog := [(0, List.replicate 9 0)] }

/-- A device with that leaf in place 0. -/
def State.fogFar : State := ({ State.mapped with fol := { State.mapped.fol with place0 := some fogLeaf } } : State).farSelected 0x10

theorem fogBlock_taken : (blockRecs fogBlock.data).bind (takeRecs fogHdr State.fogFar.motifStore fogLeaf) = some fogLeafTaken := by
  decide +kernel

/-- Refutes O18: the write of a fog node row counts in the far counter, whose register the statement holds. -/
theorem not_blocksAreCheckedAndTakenInOrder : ¬ Obligations.BlocksAreCheckedAndTakenInOrder := by
  unfold Obligations.BlocksAreCheckedAndTakenInOrder
  rintro ⟨-, -, htaken, -⟩
  have hruns := htaken State.fogFar 0 fogLeaf fogLeafTaken fogHdr fogBlock rfl rfl rfl rfl rfl fogBlock_taken rfl
  exact absurd (outcomeReg_of_runsTo hruns (fun t ⟨_, _, _, _, _, _, hout, _⟩ => regsOutside_far (hout rfl).2 (by decide)))
    (by decide +kernel)

end Sys2Proof.Machine
end

section
/-! SUPPORT. A counter whose count is the status of the sample ring. The count of counter 129 stands at 0x230808, where
PMC_SAMPLE_STATUS stands, and the model bounds no name of `pmc.selWas`. -/
namespace Sys2Proof.Machine

/-- A device whose Keeper and Docents serve and whose compressor runs a job into one buffer of DDR5, while counter 129 counts the
accesses to DDR5. -/
def State.sampleFar : State :=
  { (((State.mapped.wr F.KPR_STATUS.STATE 1).wr F.DOC_STATUS.STATE 1).wr F.GUG_STATUS.STATE 1).wr F.GUG_JOB_LIST.COUNT 1 with
    ddr := [(8, 64)]
    pmc := { State.reset.pmc with selWas := [(129, (State.reset.cycle, farWord 0x10))] } }

/-- Refutes O52: the disabled compressor writes what it had in flight to DDR5 before the samples are emptied, counter 129 counts the
write, and the acknowledged index is that count and not the index that stood before. -/
theorem not_theDocentsRestartAndTheirMailboxesPass : ¬ Obligations.TheDocentsRestartAndTheirMailboxesPass := by
  unfold Obligations.TheDocentsRestartAndTheirMailboxesPass
  rintro ⟨-, -, hlockup, -⟩
  obtain ⟨t, ht, ⟨-, -, -, -, hindex, -⟩, -⟩ :=
    hlockup State.sampleFar 0 0 (by decide +kernel) (by decide +kernel) (by decide +kernel) (by decide +kernel)
  have hreg : outcomeReg F.PMC_SAMPLE_ACK.INDEX.off (exec (.docLockup 0 0) State.sampleFar) = t.reg F.PMC_SAMPLE_ACK.INDEX.off := by
    rw [ht]
    rfl
  have hnext : State.sampleFar.rd F.PMC_SAMPLE_STATUS.NEXT = 0 := by decide +kernel
  rw [hnext] at hindex
  unfold State.rd at hindex
  rw [← hreg] at hindex
  exact absurd hindex (by decide +kernel)

end Sys2Proof.Machine
end

section
/-! SUPPORT. A lane outside its group. The model bounds no turn of a trim that stands in a state, so that a lane under trial may be one
whose codes stand outside the block of calibration; a group that leaves ACTIVE gives that lane its starting codes back. -/
namespace Sys2Proof.Machine

/-- The physical lane whose codes stand at offset 0x2C0100. -/
def farLane : Nat := 0x10000

/-- A device whose group 0 is ACTIVE and tries codes of that lane, which started from the codes 1. -/
def State.laneFar : State :=
  { State.reset.wr F.BLK_STATUS.STATE 4 with
    cal := { State.reset.cal with grp := [some ⟨farLane + 1, 1, 0, 1, 0, 0, 0⟩, none, none, none] } }

/-- Refutes O31: a group whose back-channel is silent drops its trim, and the codes of the far lane change outside the blocks that the
statement names. -/
theorem not_linkGroupsComeUpAndChangeRate : ¬ Obligations.LinkGroupsComeUpAndChangeRate := by
  unfold Obligations.LinkGroupsComeUpAndChangeRate
  rintro ⟨-, -, -, -, -, -, -, -, hsilent, -⟩
  have hruns := hsilent State.laneFar 0 (by decide +kernel) rfl
  exact absurd (outcomeReg_of_runsTo (off := (F.CAL_TX.CODES farLane).off) hruns
    (fun t ⟨_, _, _, _, _, _, _, _, houtside⟩ => houtside _ (by decide))) (by decide +kernel)

/-- Refutes O32: a disable of the link drops the trim in the same way. -/
theorem not_theLinkIsEnabledRetrainedDisabledAndSpared : ¬ Obligations.TheLinkIsEnabledRetrainedDisabledAndSpared := by
  unfold Obligations.TheLinkIsEnabledRetrainedDisabledAndSpared
  rintro ⟨-, -, hdisable, -⟩
  have hruns := hdisable State.laneFar .keeper (by decide +kernel)
  exact absurd (outcomeReg_of_runsTo (off := (F.CAL_TX.CODES farLane).off) hruns
    (fun t ⟨_, _, _, _, houtside⟩ => houtside _ (by decide))) (by decide +kernel)

end Sys2Proof.Machine
end

section
/-! SUPPORT. A leaf that ends early (R155, R158): what the stop of its strobing, its records and its messages may change. -/
namespace Sys2Proof.Machine

/-! ### Steps of an early end -/

/-- Registers that the steps of an early end leave unless they name them: the blocks SLT, TWN and SAF, and source 22. -/
def endKeeps (o : Nat) : Bool := o / 0x10000 = 0x13 || o / 0x10000 = 0x1D || o / 0x10000 = 0x1E || o = (F.DOC_ROUTE.PENDING 22).off

/-- Registers that the end of a Lacuna record leaves: the blocks SLT, TWN and SAF. -/
def lacKeeps (o : Nat) : Bool := o / 0x10000 = 0x13 || o / 0x10000 = 0x1D || o / 0x10000 = 0x1E

/-- Two states hold leaves of the same identifiers in their places, and the same leaf in progress. -/
def SameLeaves (s t : State) : Prop := t.fol.cur = s.fol.cur ∧ ∀ q, (t.leafAt q).map Leaf.id = (s.leafAt q).map Leaf.id

theorem SameLeaves.of_fol {s t : State} (h : t.fol = s.fol) : SameLeaves s t := by
  unfold SameLeaves State.leafAt
  rw [h]
  exact ⟨rfl, fun _ => rfl⟩

theorem SameLeaves.trans {s t u : State} (h : SameLeaves s t) (h' : SameLeaves t u) : SameLeaves s u :=
  ⟨h'.1.trans h.1, fun q => (h'.2 q).trans (h.2 q)⟩

/-- A step that changes no memory and, of the tracker's parts, none but the leaf's raster, with the registers that a test names as they
were. -/
structure Ending (keep : Nat → Bool) (s t : State) : Prop where
  parts : t = { s with regs := t.regs, hif := t.hif, acl := t.acl, ikl := t.ikl, pmc := t.pmc, fol := t.fol, dut := t.dut }
  kept : ∀ o, keep o = true → t.reg o = s.reg o
  leaves : SameLeaves s t

namespace Ending

variable {keep : Nat → Bool} {s t u : State}

theorem refl (keep : Nat → Bool) (s : State) : Ending keep s s := ⟨rfl, fun _ _ => rfl, SameLeaves.of_fol rfl⟩

theorem trans (h : Ending keep s t) (h' : Ending keep t u) : Ending keep s u := by
  refine ⟨?_, fun o ho => (h'.kept o ho).trans (h.kept o ho), h.leaves.trans h'.leaves⟩
  rw [h'.parts, h.parts]

theorem mono {keep' : Nat → Bool} (h : Ending keep s t) (hk : ∀ o, keep' o = true → keep o = true) : Ending keep' s t :=
  ⟨h.parts, fun o ho => h.kept o (hk o ho), h.leaves⟩

theorem wr (h : Ending keep s t) (f : Field) (v : Nat) (hf : keep f.off = false) : Ending keep s (t.wr f v) :=
  h.trans ⟨rfl, fun o ho => State.reg_wr_ne _ _ _ _ (fun e => by rw [e, hf] at ho; cases ho), SameLeaves.of_fol rfl⟩

theorem ite (c : Prop) [Decidable c] (h : Ending keep s t) (h' : Ending keep s u) : Ending keep s (if c then t else u) := by
  split
  · exact h
  · exact h'

theorem foldl {α : Type} (f : State → α → State) : ∀ (xs : List α), (∀ s, ∀ a ∈ xs, Ending keep s (f s a)) → ∀ s, Ending keep s (xs.foldl f s)
  | [], _, s => refl keep s
  | a :: xs, h, s => (h s a List.mem_cons_self).trans (foldl f xs (fun s b hb => h s b (List.mem_cons_of_mem _ hb)) (f s a))

theorem rd (h : Ending keep s t) (o l w : Nat) (ho : keep o = true) : t.rd ⟨o, l, w⟩ = s.rd ⟨o, l, w⟩ := by
  unfold State.rd
  rw [h.kept o ho]

theorem of_logged {event : Nat} (h : Logged event s t) (hd : keep (F.DOC_ROUTE.PENDING 23).off = false)
    (ha : ∀ o, o / 0x10000 = 0x22 → keep o = false) : Ending keep s t := by
  obtain ⟨_, _, _, _, _, _, _, _, _, e⟩ := h.parts
  refine ⟨?_, fun o ho => h.registers o (fun e => ?_) (fun e => ?_), SameLeaves.of_fol (by rw [e])⟩
  · rw [e]
  · rw [ha o e] at ho; cases ho
  · rw [e, hd] at ho; cases ho

end Ending

theorem endKeeps_far {o : Nat} (ho : 0x210000 ≤ o) : endKeeps o = false := by
  unfold endKeeps
  simp only [Bool.or_eq_false_iff, decide_eq_false_iff_not]
  omega

theorem endKeeps_of_lacKeeps {o : Nat} (ho : lacKeeps o = true) : endKeeps o = true := by
  unfold endKeeps
  unfold lacKeeps at ho
  rw [ho]
  rfl

theorem State.aclLog_ending (s : State) (event : Nat) (data : List Byte) : Ending endKeeps s (s.aclLog event data) :=
  Ending.of_logged (s.aclLog_logged event data) (by decide) (fun _ ho => endKeeps_far (by omega))

theorem State.pmcStep_ending (s : State) (k n : Nat) : Ending endKeeps s (s.pmcStep k n).1 :=
  (Ending.refl endKeeps s).wr _ _ (endKeeps_far (Nat.le_trans (by decide) (Nat.le_add_right 0x230400 _)))

theorem State.pmcAdd_ending (s : State) (k n : Nat) : Ending endKeeps s (s.pmcAdd k n) := by
  have hstep := s.pmcStep_ending k n
  have hpmc : ∀ (u : State) (p : PmcSt), Ending endKeeps u { u with pmc := p } := fun u p => ⟨rfl, fun _ _ => rfl, SameLeaves.of_fol rfl⟩
  unfold State.pmcAdd
  generalize s.pmcStep k n = r at hstep ⊢
  obtain ⟨u, w⟩ := r
  have hovf := hstep.wr F.PMC_OVF.OVF (u.rd F.PMC_OVF.OVF ||| 2 ^ k) (by decide)
  dsimp only
  split
  · exact hstep
  · split
    · split
      · exact (hovf.trans (hpmc _ _)).trans (State.pmcStep_ending _ _ _)
      · exact hovf.trans (hpmc _ _)
    · split
      · exact hovf.trans (State.pmcStep_ending _ _ _)
      · exact hovf

theorem State.pmcEvent_ending (s : State) (event n : Nat) (i : PmcInfo) : Ending endKeeps s (s.pmcEvent event n i) := by
  unfold State.pmcEvent
  refine Ending.ite _ (Ending.refl _ _) (Ending.foldl _ _ (fun t k _ => ?_) s)
  exact Ending.ite _ (t.pmcAdd_ending k n) (Ending.refl _ _)

theorem State.setRas_ending (s : State) (p : Nat) (f : Ras → Ras) : Ending endKeeps s (s.setRas p f) := by
  unfold State.setRas
  split
  · exact Ending.refl _ _
  · rename_i l hl
    unfold State.setLeaf State.setPlace
    unfold State.leafAt at hl
    split
    · rename_i hp
      rw [if_pos hp] at hl
      refine ⟨rfl, fun _ _ => rfl, rfl, fun q => ?_⟩
      unfold State.leafAt
      split
      · rw [hl]
        rfl
      · rfl
    · rename_i hp
      rw [if_neg hp] at hl
      refine ⟨rfl, fun _ _ => rfl, rfl, fun q => ?_⟩
      unfold State.leafAt
      split
      · rfl
      · rw [hl]
        rfl

theorem State.engineShow_ending (s : State) (e : Nat) (he : e < 64) : Ending endKeeps s (s.engineShow e) := by
  have hkeep : ∀ k, k < 16 → endKeeps (0x80000 + k + 0x1000 * e) = false := fun k hk => by
    unfold endKeeps
    simp only [Bool.or_eq_false_iff, decide_eq_false_iff_not]
    omega
  have hstate : ∀ v, Ending endKeeps s (s.wr (F.RAS_E_STATUS.STATE e) v) := fun v =>
    (Ending.refl endKeeps s).wr _ _ (hkeep 0 (by decide))
  unfold State.engineShow
  dsimp only
  split
  · exact (hstate _).wr _ _ (by simpa [Nat.add_right_comm] using hkeep 8 (by decide))
  · exact hstate _

theorem State.rasShow_ending (s : State) : Ending endKeeps s s.rasShow := by
  have hclass : ∀ (v : Leaf) (u : State), Ending endKeeps u
      ((List.range 16).foldl (fun t i => t.wr (F.DOS_CLASS.MULT i) (v.classMult i)) u) := fun v u =>
    Ending.foldl _ _ (fun t i hi => (Ending.refl _ _).wr _ _ (by
      have := List.mem_range.mp hi
      unfold endKeeps
      simp only [Bool.or_eq_false_iff, decide_eq_false_iff_not]
      omega)) u
  unfold State.rasShow
  extract_lets _ u
  have hu : Ending endKeeps s u := by
    dsimp only [u]
    split
    · exact (Ending.refl _ _).wr _ _ (by decide)
    · exact Ending.refl _ _
  clear_value u
  split
  · exact hu
  · split
    · exact hu
    · have hdos : ∀ row id bank, Ending endKeeps s (((u.wrInt F.DOS_STATUS.TROW row).wr F.DOS_STATUS.LEAF id).wr F.DOS_STATUS.BANK bank) :=
        fun _ _ _ => ((hu.wr _ _ (by decide)).wr _ _ (by decide)).wr _ _ (by decide)
      exact (hdos _ _ _).trans (hclass _ _)

theorem State.dropTiles_ending (s : State) (p : Nat) (h : LeafHdr) : Ending endKeeps s (s.dropTiles p h) := by
  unfold State.dropTiles
  exact ((s.setRas_ending p _).trans (Ending.foldl _ _ (fun t e he => t.engineShow_ending e (List.mem_range.mp he)) _)).trans
    (State.rasShow_ending _)

theorem State.rsvAdvance_regs (s : State) : RegsOnly s s.rsvAdvance ∧ regsApart [F.RSV_POS.RELEASED.off, F.RSV_LEAD.LEAD.off] s s.rsvAdvance := by
  unfold State.rsvAdvance
  split
  · split
    · exact ⟨rfl, by unfold State.rsvMove State.leadShow; exact regsApart_wr _ _ (regsApart_wr _ _ regsApart_refl (by decide)) (by decide)⟩
    · exact ⟨rfl, regsApart_refl⟩
  · exact ⟨rfl, regsApart_refl⟩

/-! ### The end of the strobing -/

/-- What the tracker holds of a leaf whose strobing stops after slot `c`. -/
def SltSt.stopped (x : SltSt) (id : Nat) (c : Int) (orderly : Bool) : SltSt := { x with
  endAt := some c
  lbDue := !orderly || decide (c < 0 ∨ c ≤ x.strobed)
  slots := x.slots.filter (fun r => r.leaf ≠ id || decide ((r.slot : Int) ≤ c)) }

/-- A step that stops the strobing of a leaf after slot `c`. -/
structure Stopped (keep : Nat → Bool) (id : Nat) (c : Int) (orderly : Bool) (s t : State) : Prop where
  parts : t = { s with regs := t.regs, hif := t.hif, acl := t.acl, ikl := t.ikl, pmc := t.pmc, fol := t.fol, dut := t.dut,
                       slt := s.slt.stopped id c orderly }
  state : t.rd F.SLT_STATUS.STATE = 4
  flag : t.rd F.RSV_ERR.EARLY_END = 1
  kept : ∀ o, keep o = true → o ≠ F.SLT_STATUS.STATE.off → t.reg o = s.reg o
  status : ∀ l w, 3 ≤ l → t.rd ⟨F.SLT_STATUS.STATE.off, l, w⟩ = s.rd ⟨F.SLT_STATUS.STATE.off, l, w⟩
  leaves : SameLeaves s t

namespace Stopped

variable {keep : Nat → Bool} {id : Nat} {c : Int} {orderly : Bool} {s t u : State}

/-- Steps of an early end before the strobing stops. -/
theorem of_ending (h : Ending keep s t) (h' : Stopped keep id c orderly t u) (hs : keep F.SLT_STATUS.STATE.off = true) :
    Stopped keep id c orderly s u := by
  refine ⟨?_, h'.state, h'.flag, fun o ho hne => (h'.kept o ho hne).trans (h.kept o ho), fun l w hl => (h'.status l w hl).trans (h.rd _ l w hs),
    h.leaves.trans h'.leaves⟩
  rw [h'.parts, h.parts]

theorem mono {keep' : Nat → Bool} (h : Stopped keep id c orderly s t) (hk : ∀ o, keep' o = true → keep o = true) :
    Stopped keep' id c orderly s t :=
  ⟨h.parts, h.state, h.flag, fun o ho => h.kept o (hk o ho), h.status, h.leaves⟩

theorem rd (h : Stopped keep id c orderly s t) (o l w : Nat) (ho : keep o = true) (hne : o ≠ F.SLT_STATUS.STATE.off) :
    t.rd ⟨o, l, w⟩ = s.rd ⟨o, l, w⟩ := by
  unfold State.rd
  rw [h.kept o ho hne]

theorem slt (h : Stopped keep id c orderly s t) : t.slt = s.slt.stopped id c orderly := by rw [h.parts]

theorem sameMemories (h : Stopped keep id c orderly s t) : sameMemories s t := by
  rw [h.parts]
  exact ⟨rfl, rfl, rfl, rfl, rfl, rfl, rfl, rfl, rfl, rfl⟩

end Stopped

/-- The last steps of the stop: the leaf is ENDING, and the Reserve advances. -/
theorem Stopped.last {id : Nat} {c : Int} {orderly : Bool} {s u : State}
    (hu : u = { s with slt := s.slt.stopped id c orderly }) :
    Stopped endKeeps id c orderly s ((u.set1 F.RSV_ERR.EARLY_END).wr F.SLT_STATUS.STATE 4).rsvAdvance := by
  obtain ⟨hregs, hapart⟩ := ((u.set1 F.RSV_ERR.EARLY_END).wr F.SLT_STATUS.STATE 4).rsvAdvance_regs
  generalize ((u.set1 F.RSV_ERR.EARLY_END).wr F.SLT_STATUS.STATE 4).rsvAdvance = t at hregs hapart ⊢
  have hrd : ∀ o l w, o ∉ [F.RSV_POS.RELEASED.off, F.RSV_LEAD.LEAD.off] →
      t.rd ⟨o, l, w⟩ = ((u.set1 F.RSV_ERR.EARLY_END).wr F.SLT_STATUS.STATE 4).rd ⟨o, l, w⟩ := fun o l w ho => regsApart_rd hapart o l w ho
  have hureg : ∀ o, u.reg o = s.reg o := fun o => by rw [hu]; rfl
  have hurd : ∀ f, u.rd f = s.rd f := fun f => by rw [hu]; rfl
  unfold State.set1 at *
  refine ⟨?_, ?_, ?_, fun o ho hne => ?_, fun l w hl => ?_, SameLeaves.of_fol (by rw [hregs, hu]; rfl)⟩
  · rw [hregs, hu]
    rfl
  · exact (hrd _ _ _ (by decide)).trans (State.rd_wr_same _ _ _ _ _ (by decide))
  · exact (hrd _ _ _ (by decide)).trans ((State.rd_wr_off _ _ _ _ _ _ _ _ (by decide)).trans (State.rd_wr_same _ _ _ _ _ (by decide)))
  · have hout : o ∉ [F.RSV_POS.RELEASED.off, F.RSV_LEAD.LEAD.off] := fun hmem => by
      simp only [List.mem_cons, List.not_mem_nil, or_false] at hmem
      obtain rfl | rfl := hmem
      · exact absurd ho (by decide)
      · exact absurd ho (by decide)
    have hrsv : o ≠ F.RSV_ERR.EARLY_END.off := fun e => by rw [e] at ho; exact absurd ho (by decide)
    rw [hapart o hout, State.reg_wr_ne _ _ _ _ hne, State.reg_wr_ne _ _ _ _ hrsv, hureg]
  · rw [hrd _ _ _ (by decide), State.rd_wr_apart _ _ _ _ _ _ _ (by omega), State.rd_wr_off _ _ _ _ _ _ _ _ (by decide), hurd]

theorem State.stopAfter_stopped (s : State) (p : Nat) (l : Leaf) (h : LeafHdr) (c : Int) (orderly : Bool) :
    Stopped endKeeps l.id c orderly s (s.stopAfter p l h c orderly) := by
  have hdrop : Ending endKeeps s ((s.pmcEvent 0x41 (s.unsentAfter l.id (hdrLast h) c) (engineInfo 0)).dropTiles p h) :=
    (s.pmcEvent_ending _ _ _).trans (State.dropTiles_ending _ _ _)
  have hdut : ∀ (u : State) (d : DutSt), Ending endKeeps u { u with dut := d } := fun u d => ⟨rfl, fun _ _ => rfl, SameLeaves.of_fol rfl⟩
  unfold State.stopAfter
  exact Stopped.of_ending (hdrop.trans (hdut _ _)) (Stopped.last rfl) (by decide)

end Sys2Proof.Machine
end

section
/-! SUPPORT. The early end of the leaf in progress: SLT_END, the flags, the Lacuna record and the stop (R155, R158, R170). -/
namespace Sys2Proof.Machine

/-! ### Records -/

/-- Blocks that the close of a Lacuna record writes: DOC and ACL. -/
def recordBlocks (b : Nat) : Bool := b = 0x20 || b = 0x22

theorem Ending.of_noted {s t : State} (h : Noted recordBlocks s t) : Ending lacKeeps s t := by
  refine ⟨?_, fun o ho => h.outside o ?_, SameLeaves.of_fol (by rw [h.parts])⟩
  · rw [h.parts]
  · unfold lacKeeps at ho
    unfold recordBlocks
    simp only [Bool.or_eq_true, decide_eq_true_eq] at ho
    simp only [Bool.or_eq_false_iff, decide_eq_false_iff_not]
    omega

theorem Noted.withLac {blocks : Nat → Bool} {s t : State} (h : Noted blocks s t) (x : LacSt) :
    Noted blocks { s with lac := x } { t with lac := x } :=
  ⟨by rw [h.parts], h.outside⟩

theorem Noted.iklSend {blocks : Nat → Bool} {s t : State} (h : Noted blocks s t) (lane mtype : Nat) (content body : List Byte) :
    Noted blocks s (t.iklSend lane mtype content body) := h.trans ⟨rfl, fun _ _ => rfl⟩

theorem State.lacClose_noted (s : State) (r : LacRec) : ∃ x, Noted recordBlocks { s with lac := x } (s.lacClose r) := by
  unfold State.lacClose
  split
  · have hsource : ∀ u : State, Noted recordBlocks u (u.source 22) := fun u =>
      Noted.of_told ((Told.refl recordBlocks u).source 22 (by decide))
    refine ⟨{ s.lac with closed := s.lac.closed ++ [r] }, ?_⟩
    exact Noted.ite _ ((hsource _).iklSend _ _ _ _) (hsource _)
  · exact ⟨s.lac, (Noted.refl recordBlocks s).aclLog _ _ (by decide) (by decide)⟩

theorem State.lacCloseRel_noted (s : State) : ∃ x, Noted recordBlocks { s with lac := x } s.lacCloseRel := by
  unfold State.lacCloseRel
  split
  · exact ⟨s.lac, Noted.refl _ _⟩
  · exact State.lacClose_noted { s with lac := { s.lac with openRel := none } } _

theorem State.endRecord_noted (s : State) (leaf first last cause : Nat) :
    ∃ x, Noted recordBlocks { s with lac := x } (s.endRecord leaf first last cause) := by
  obtain ⟨x, hrel⟩ := s.lacCloseRel_noted
  unfold State.endRecord
  dsimp only
  split
  · exact ⟨x, hrel⟩
  · obtain ⟨y, hrec⟩ := (s.lacCloseRel).lacClose_noted (match s.lacCloseRel.slotRec leaf first with
      | some r => ⟨leaf, cause, flagToEnd, first, last, allCols, r.timeS % 2 ^ 32, r.timeNs, true⟩
      | none => ⟨leaf, cause, flagToEnd + flagCreated, first, last, allCols, s.lacCloseRel.nowS % 2 ^ 32, s.lacCloseRel.nowNs, true⟩)
    exact ⟨y, (hrel.withLac y).trans hrec⟩

/-! ### The end at a slot -/

/-- SLT_END and the flag of an early end. -/
def State.endShown (s : State) (id first detail : Nat) : State :=
  (((s.wr F.SLT_END.FIRST_SLOT first).wr F.SLT_END.LEAF id).wr F.SLT_END.DETAIL detail).endFlag detail

theorem State.endFlag_off (s : State) (detail o : Nat) (h1 : o ≠ F.SLT_ERR.ABORTED.off) (h2 : o ≠ F.BLK_ERR.LINK_END.off) :
    (s.endFlag detail).reg o = s.reg o := by
  unfold State.endFlag
  split
  · exact State.reg_wr_ne _ _ _ _ h1
  · exact State.reg_wr_ne _ _ _ _ h1
  · exact State.reg_wr_ne _ _ _ _ h1
  · exact State.reg_wr_ne _ _ _ _ h1
  · exact State.reg_wr_ne _ _ _ _ h2
  · rfl

theorem State.endShown_regs (s : State) (id first detail : Nat) : RegsOnly s (s.endShown id first detail) := by
  unfold State.endShown State.endFlag
  split <;> exact rfl

theorem State.endShown_off (s : State) (id first detail o : Nat) (h1 : o ≠ F.SLT_ERR.ABORTED.off) (h2 : o ≠ F.BLK_ERR.LINK_END.off)
    (h3 : o ≠ F.SLT_END.DETAIL.off) : (s.endShown id first detail).reg o = s.reg o := by
  unfold State.endShown
  rw [State.endFlag_off _ _ _ h1 h2]
  have hwr : ∀ (u : State) l w v, (u.wr ⟨F.SLT_END.DETAIL.off, l, w⟩ v).reg o = u.reg o := fun u l w v => State.reg_wr_ne u _ v o h3
  rw [hwr, hwr, hwr]

/-- What SLT_END shows of an early end. -/
theorem State.endShown_end (s : State) (id first detail : Nat) (hdetail : detail < 16) :
    ((s.endShown id first detail).rd F.SLT_END.DETAIL, (s.endShown id first detail).rd F.SLT_END.FIRST_SLOT,
      (s.endShown id first detail).rd F.SLT_END.LEAF) = (detail, first % 2 ^ 32, id % 65536) := by
  have hflag : ∀ (u : State) l w, (u.endFlag detail).rd ⟨F.SLT_END.DETAIL.off, l, w⟩ = u.rd ⟨F.SLT_END.DETAIL.off, l, w⟩ := fun u l w => by
    unfold State.rd
    rw [State.endFlag_off _ _ F.SLT_END.DETAIL.off (by decide) (by decide)]
  unfold State.endShown
  rw [hflag, hflag, hflag, State.rd_wr_same _ _ _ _ _ (by decide), State.rd_wr_apart _ _ _ _ _ _ _ (by decide),
    State.rd_wr_apart _ _ _ _ _ _ _ (by decide), State.rd_wr_same _ _ _ _ _ (by decide), State.rd_wr_apart _ _ _ _ _ _ _ (by decide),
    State.rd_wr_same _ _ _ _ _ (by decide), Nat.mod_eq_of_lt (show detail < 2 ^ 4 from hdetail)]
  rfl

/-- The last part of an early end: the record of the Accession Log, END to the twin and the stop. -/
def State.endTold (s : State) (p : Nat) (l : Leaf) (h : LeafHdr) (orderly : Bool) (first detail : Nat) : State :=
  let s := s.aclLog 0x0502 (leBytes 4 l.id ++ leBytes 4 first ++ leBytes 1 detail)
  let s := if s.hasAuth && s.bit F.TWN_CFG.MODE then
      s.iklSend 0 0x50 (leBytes 2 l.id ++ leBytes 4 first ++ leBytes 1 detail ++ leBytes 1 (if orderly then 0 else 1)) []
    else s
  s.stopAfter p l h ((first : Int) - 1) orderly

theorem State.endTold_stopped (s : State) (p : Nat) (l : Leaf) (h : LeafHdr) (orderly : Bool) (first detail : Nat) :
    Stopped endKeeps l.id ((first : Int) - 1) orderly s (s.endTold p l h orderly first detail) := by
  unfold State.endTold
  refine Stopped.of_ending ((s.aclLog_ending _ _).trans (Ending.ite _ ?_ (Ending.refl _ _))) (State.stopAfter_stopped _ _ _ _ _ _) (by decide)
  exact ⟨rfl, fun _ _ => rfl, SameLeaves.of_fol rfl⟩

theorem State.endLeafAt_eq (s : State) (p : Nat) (l : Leaf) (h : LeafHdr) (orderly : Bool) (first detail : Nat) :
    s.endLeafAt p l h orderly first detail true =
      ((s.endShown l.id first detail).endRecord l.id first (hdrLast h) (0x50 + detail)).endTold p l h orderly first detail := rfl

theorem State.endLeafAt_stopped (s : State) (p : Nat) (l : Leaf) (h : LeafHdr) (orderly : Bool) (first detail : Nat) :
    ∃ x, Stopped lacKeeps l.id ((first : Int) - 1) orderly { s.endShown l.id first detail with lac := x }
      (s.endLeafAt p l h orderly first detail true) := by
  obtain ⟨x, hrec⟩ := (s.endShown l.id first detail).endRecord_noted l.id first (hdrLast h) (0x50 + detail)
  rw [State.endLeafAt_eq]
  exact ⟨x, Stopped.of_ending (Ending.of_noted hrec) ((State.endTold_stopped _ _ _ _ _ _ _).mono (fun _ => endKeeps_of_lacKeeps)) (by decide)⟩

theorem State.endAlone_frame (s : State) (leaf last : Nat) : ∃ y, s.endAlone leaf last = { s with twn := y } := by
  unfold State.endAlone
  split
  · exact ⟨_, rfl⟩
  · exact ⟨s.twn, rfl⟩

/-- Where an early end takes place. -/
theorem State.earlyEnd_eq {s : State} {orderly : Bool} {detail p : Nat} {l : Leaf} {h : LeafHdr} {first : Nat}
    (hcur : s.curLeaf = some (p, l, h))
    (hstate : s.rd F.SLT_STATUS.STATE = 2 ∨ s.rd F.SLT_STATUS.STATE = 3 ∨ (s.rd F.SLT_STATUS.STATE = 4 ∧ orderly = false))
    (hdue : s.slt.lbDue = false) (hfirst : s.endFirst orderly = first) (hle : first ≤ hdrLast h) :
    s.earlyEnd orderly detail = (s.endLeafAt p l h orderly first detail true).endAlone l.id (hdrLast h) := by
  unfold State.earlyEnd
  rw [hcur]
  dsimp only
  rw [hfirst, if_pos ⟨by simpa using hstate, by simp [hdue], hle⟩]

/-- What an early end leaves. -/
theorem State.earlyEnd_spec {s : State} {orderly : Bool} {detail p : Nat} {l : Leaf} {h : LeafHdr} {first : Nat}
    (hcur : s.curLeaf = some (p, l, h))
    (hstate : s.rd F.SLT_STATUS.STATE = 2 ∨ s.rd F.SLT_STATUS.STATE = 3 ∨ (s.rd F.SLT_STATUS.STATE = 4 ∧ orderly = false))
    (hdue : s.slt.lbDue = false) (hfirst : s.endFirst orderly = first) (hle : first ≤ hdrLast h) (hdetail : detail < 16) :
    ∃ t, s.earlyEnd orderly detail = t ∧ t.rd F.SLT_STATUS.STATE = 4 ∧
      (t.rd F.SLT_END.DETAIL, t.rd F.SLT_END.FIRST_SLOT, t.rd F.SLT_END.LEAF) = (detail, first % 2 ^ 32, l.id % 65536) ∧
      t.rd F.RSV_ERR.EARLY_END = 1 ∧
      t.reg F.SLT_ERR.ABORTED.off = (s.endShown l.id first detail).reg F.SLT_ERR.ABORTED.off ∧
      (∀ lo w, 3 ≤ lo → t.rd ⟨F.SLT_STATUS.STATE.off, lo, w⟩ = s.rd ⟨F.SLT_STATUS.STATE.off, lo, w⟩) ∧
      t.slt = s.slt.stopped l.id ((first : Int) - 1) orderly ∧ sameMemories s t := by
  obtain ⟨x, hstop⟩ := s.endLeafAt_stopped p l h orderly first detail
  obtain ⟨y, halone⟩ := (s.endLeafAt p l h orderly first detail true).endAlone_frame l.id (hdrLast h)
  refine ⟨_, rfl, ?_⟩
  rw [State.earlyEnd_eq hcur hstate hdue hfirst hle, halone]
  generalize s.endLeafAt p l h orderly first detail true = u at hstop
  have hregs := s.endShown_regs l.id first detail
  have hend := s.endShown_end l.id first detail hdetail
  have hshown : ∀ lo w, u.rd ⟨F.SLT_END.DETAIL.off, lo, w⟩ = (s.endShown l.id first detail).rd ⟨F.SLT_END.DETAIL.off, lo, w⟩ :=
    fun lo w => hstop.rd _ lo w (by decide) (by decide)
  refine ⟨hstop.state, ?_, hstop.flag, hstop.kept _ (by decide) (by decide), fun lo w hlo => ?_, ?_, ?_⟩
  · rw [← hend]
    simp only [Prod.mk.injEq]
    exact ⟨hshown _ _, hshown _ _, hshown _ _⟩
  · refine (hstop.status lo w hlo).trans ?_
    have : (s.endShown l.id first detail).rd ⟨F.SLT_STATUS.STATE.off, lo, w⟩ = s.rd ⟨F.SLT_STATUS.STATE.off, lo, w⟩ := by
      unfold State.rd
      rw [State.endShown_off _ _ _ _ F.SLT_STATUS.STATE.off (by decide) (by decide) (by decide)]
    exact this
  · refine hstop.slt.trans ?_
    show (s.endShown l.id first detail).slt.stopped _ _ _ = _
    rw [hregs]
  · have hmem := hstop.sameMemories
    have hmem' := hregs.sameMemories
    exact sameMemories.trans hmem' hmem

end Sys2Proof.Machine
end

section
/-! SUPPORT. The encoder inputs: counts, the index and the loss of signal (R144 to R147). -/
namespace Sys2Proof.Machine

/-! ### Counts -/

theorem State.rd_wrInt_same (s : State) (o l w : Nat) (v : Int) (h : l + w ≤ 64) : (s.wrInt ⟨o, l, w⟩ v).rd ⟨o, l, w⟩ = unsigned w v := by
  have hpos : (0 : Int) < 2 ^ w := by positivity
  have hlt : unsigned w v < 2 ^ w := by
    unfold unsigned
    zify
    rw [Int.toNat_of_nonneg (Int.emod_nonneg _ hpos.ne')]
    exact Int.emod_lt_of_pos _ hpos
  exact (State.rd_wr_same _ _ _ _ _ h).trans (Nat.mod_eq_of_lt hlt)

theorem State.stageMoved_idle {s : State} (h : s.curLeaf = none) : s.stageMoved = s := by
  unfold State.stageMoved
  rw [h]

theorem State.earlyEnd_idle {s : State} (h : s.curLeaf = none) (orderly : Bool) (detail : Nat) : s.earlyEnd orderly detail = s := by
  unfold State.earlyEnd
  rw [h]

/-- The levels of the encoder inputs replaced. -/
def State.levelled (s : State) (levels : List (Bool × Bool)) : State := { s with slt := { s.slt with levels := levels } }

/-- The loop's acceleration replaced. -/
def State.accelerated (s : State) (acc : Int) : State := { s with slt := { s.slt with accel := acc } }

/-- Encoder 0 after a transition: its levels, its count and the loop's estimates. -/
def State.counted0 (s : State) (levels : List (Bool × Bool)) (p v acc : Int) : State :=
  (((s.levelled levels).wrInt F.SLT_POS0.POS p).wrInt F.SLT_VEL.VEL v).accelerated acc

/-- Encoder 1 after a transition: its levels and its count. -/
def State.counted1 (s : State) (levels : List (Bool × Bool)) (p : Int) : State := (s.levelled levels).wrInt F.SLT_POS1.POS p

/-- One count up or down. -/
def countStep (up : Bool) : Int := if up then 1 else -1

/-- The levels of an input after a transition of one of them. -/
def flipped (a : Bool) (lv : Bool × Bool) : Bool × Bool := if a then (!lv.1, lv.2) else (lv.1, !lv.2)

/-- The sense of that transition (R144). -/
def senseUp (a : Bool) (lv : Bool × Bool) : Bool := if a then (!lv.1) != lv.2 else lv.1 == (!lv.2)

theorem senseUp_eq (a : Bool) (lv : Bool × Bool) : (if a then !(lv.1 != lv.2) else lv.1 == (!lv.2)) = senseUp a lv := by
  obtain ⟨x, y⟩ := lv
  cases a
  · rfl
  · cases x <;> cases y <;> rfl

theorem exec_encoderTransition0 (s : State) (a : Bool) (lv : Bool × Bool) (v acc : Int) (hlv : s.slt.levels.getD 0 (false, false) = lv) :
    exec (.encoderTransition 0 (if a then .a else .b) false v acc) s = .next ((s.counted0 (s.slt.levels.set 0 (flipped a lv))
      (s.rdInt F.SLT_POS0.POS + countStep (senseUp a lv != s.bit F.SLT_ENC_CFG.INVERT0)) v acc).stageMoved) := by
  subst hlv
  cases a <;> rfl

theorem exec_encoderTransition1 (s : State) (a : Bool) (lv : Bool × Bool) (v acc : Int) (hlv : s.slt.levels.getD 1 (false, false) = lv) :
    exec (.encoderTransition 1 (if a then .a else .b) false v acc) s = .next (s.counted1 (s.slt.levels.set 1 (flipped a lv))
      (s.rdInt F.SLT_POS1.POS + countStep (senseUp a lv != s.bit F.SLT_ENC_CFG.INVERT1))) := by
  subst hlv
  cases a <;> rfl

theorem State.rd_accelerated (s : State) (acc : Int) (f : Field) : (s.accelerated acc).rd f = s.rd f := rfl

theorem State.counted0_spec (s : State) (levels : List (Bool × Bool)) (p v acc : Int) :
    (s.counted0 levels p v acc).rd F.SLT_POS0.POS = unsigned 48 p ∧ (s.counted0 levels p v acc).rd F.SLT_VEL.VEL = unsigned 48 v ∧
      regsApart [F.SLT_POS0.POS.off, F.SLT_VEL.VEL.off] s (s.counted0 levels p v acc) := by
  unfold State.counted0
  refine ⟨?_, ?_, fun o ho => ?_⟩
  · rw [State.rd_accelerated, State.rd_wrInt_off _ _ _ _ _ _ _ _ (by decide), State.rd_wrInt_same _ _ _ _ _ (by decide)]
  · rw [State.rd_accelerated, State.rd_wrInt_same _ _ _ _ _ (by decide)]
  · simp only [List.mem_cons, List.not_mem_nil, or_false, not_or] at ho
    exact (State.reg_wr_ne _ _ _ _ ho.2).trans (State.reg_wr_ne _ _ _ _ ho.1)

theorem State.counted1_spec (s : State) (levels : List (Bool × Bool)) (p : Int) :
    (s.counted1 levels p).rd F.SLT_POS1.POS = unsigned 48 p ∧ regsApart [F.SLT_POS1.POS.off] s (s.counted1 levels p) := by
  unfold State.counted1
  refine ⟨State.rd_wrInt_same _ _ _ _ _ (by decide), fun o ho => ?_⟩
  simp only [List.mem_cons, List.not_mem_nil, or_false] at ho
  exact State.reg_wr_ne _ _ _ _ ho

/-! ### The stage ahead of its furthest position -/

theorem State.stageMoved_ahead {s : State} {p : Nat} {l : Leaf} {h : LeafHdr} (hcur : s.curLeaf = some (p, l, h))
    (hstate : 2 ≤ s.rd F.SLT_STATUS.STATE) (hahead : s.slt.furthest < s.stageAt h) :
    s.stageMoved = (if s.rd F.SLT_STATUS.STATE = 3 then { s with slt := { s.slt with furthest := s.stageAt h } }.wr F.SLT_STATUS.STATE 2
      else { s with slt := { s.slt with furthest := s.stageAt h } }) := by
  unfold State.stageMoved
  rw [hcur]
  dsimp only
  rw [if_neg (by omega), if_pos hahead]

/-- A run whose stage moves ahead goes on. -/
theorem State.ahead_spec (s : State) (x : Int) :
    ∃ t, (if s.rd F.SLT_STATUS.STATE = 3 then { s with slt := { s.slt with furthest := x } }.wr F.SLT_STATUS.STATE 2
      else { s with slt := { s.slt with furthest := x } }) = t ∧
      t.rd F.SLT_STATUS.STATE = (if s.rd F.SLT_STATUS.STATE = 3 then 2 else s.rd F.SLT_STATUS.STATE) ∧
      t = { s with regs := t.regs, slt := { s.slt with furthest := x } } ∧ regsApart [F.SLT_STATUS.STATE.off] s t := by
  by_cases h3 : s.rd F.SLT_STATUS.STATE = 3
  · rw [if_pos h3, if_pos h3]
    exact ⟨_, rfl, State.rd_wr_same _ _ _ _ _ (by decide), rfl, regsApart_wr _ _ (regsApart_regs regsApart_refl rfl) (by decide)⟩
  · rw [if_neg h3, if_neg h3]
    exact ⟨_, rfl, rfl, rfl, regsApart_regs regsApart_refl rfl⟩

/-! ### Faults -/

theorem State.encFault_idle {s : State} (h : s.curLeaf = none) (n : Fin 2) :
    s.encFault n 1 = (s.set1 (if n = 0 then F.SLT_ERR.ENC0_LOS else F.SLT_ERR.ENC1_LOS)).clr
        (if n = 0 then F.SLT_STATUS.REF0 else F.SLT_STATUS.REF1) ∧
      s.encFault n 2 = s.set1 (if n = 0 then F.SLT_ERR.ENC0_INDEX else F.SLT_ERR.ENC1_INDEX) := by
  have hend : ∀ u : State, u.curLeaf = none → u.earlyEnd false 11 = u := fun u hu => State.earlyEnd_idle hu false 11
  match n with
  | 0 => exact ⟨hend ((s.set1 F.SLT_ERR.ENC0_LOS).clr F.SLT_STATUS.REF0) h, hend (s.set1 F.SLT_ERR.ENC0_INDEX) h⟩
  | 1 => exact ⟨hend ((s.set1 F.SLT_ERR.ENC1_LOS).clr F.SLT_STATUS.REF1) h, hend (s.set1 F.SLT_ERR.ENC1_INDEX) h⟩

/-- A fault of an input, its flag and its reference, before it ends a leaf. -/
theorem State.encFault_lost (s : State) (n : Fin 2) :
    ∃ u : State, s.encFault n 1 = u.earlyEnd false 11 ∧ u = { s with regs := u.regs } ∧
      u.rd F.SLT_STATUS.STATE = s.rd F.SLT_STATUS.STATE ∧
      u.rd (if n = 0 then F.SLT_STATUS.REF0 else F.SLT_STATUS.REF1) = 0 := by
  match n with
  | 0 =>
    refine ⟨(s.set1 F.SLT_ERR.ENC0_LOS).clr F.SLT_STATUS.REF0, rfl, rfl, ?_, State.rd_wr_same _ _ _ _ _ (by decide)⟩
    exact (State.rd_wr_apart _ _ _ _ _ _ _ (by decide)).trans (State.rd_wr_off _ _ _ _ _ _ _ _ (by decide))
  | 1 =>
    refine ⟨(s.set1 F.SLT_ERR.ENC1_LOS).clr F.SLT_STATUS.REF1, rfl, rfl, ?_, State.rd_wr_same _ _ _ _ _ (by decide)⟩
    exact (State.rd_wr_apart _ _ _ _ _ _ _ (by decide)).trans (State.rd_wr_off _ _ _ _ _ _ _ _ (by decide))

/-! ### An event of a bucket without a lasting fault -/

/-- The events that a bucket holds after one more at one place (R334). -/
def State.bucketEvents (s : State) (k inst : Nat) : List (Nat × Nat × Nat) :=
  let t := s.cycle * 256 / max (s.bucketW k) 1
  (k, inst, t) :: s.saf.buckets.filter (fun e => !((e.1 = k && e.2.1 = inst) && e.2.2 + 256 < t))

theorem State.bucket_eq (s : State) (k inst : Nat) : s.bucket k inst =
    if s.bucketN k < ((s.bucketEvents k inst).filter (fun e => e.1 = k && e.2.1 = inst)).length then
      ({ s with saf := { s.saf with buckets := s.bucketEvents k inst } }.lasting k inst, true)
    else ({ s with saf := { s.saf with buckets := s.bucketEvents k inst } }, false) := rfl

theorem State.bucket_quiet {s u : State} {k inst : Nat} (hn : u.bucketN k = s.bucketN k) (hw : u.bucketW k = s.bucketW k)
    (hc : u.cycle = s.cycle) (hsaf : u.saf = s.saf) (h : (s.bucket k inst).2 = false) :
    u.bucket k inst = ({ u with saf := { u.saf with buckets := u.bucketEvents k inst } }, false) := by
  have hevents : u.bucketEvents k inst = s.bucketEvents k inst := by
    unfold State.bucketEvents
    rw [hw, hc, hsaf]
  rw [State.bucket_eq] at h ⊢
  split at h
  · exact absurd h (by simp)
  · rename_i hle
    rw [if_neg (by rw [hn, hevents]; exact hle)]

/-- A count in a register outside the block of the buckets leaves N and W. -/
theorem State.bucketNW_wr (s : State) (f : Field) (v k : Nat) (hk : k < 16) (h5 : k ≠ 5) (hf : f.off / 0x10000 ≠ 0x1E) :
    (s.wr f v).bucketN k = s.bucketN k ∧ (s.wr f v).bucketW k = s.bucketW k := by
  unfold State.bucketN State.bucketW
  rw [if_neg h5, if_neg h5, if_neg h5, if_neg h5, State.rd_wr_off _ _ _ _ _ _ _ _ (by omega), State.rd_wr_off _ _ _ _ _ _ _ _ (by omega)]
  exact ⟨rfl, rfl⟩

/-! ### The index -/

/-- A counter loaded, with its reference. -/
theorem State.loaded_spec (s : State) (pos index l : Nat) (hpos : pos ≠ 0x130050) (hl : l < 64) :
    ∃ t, (s.wr ⟨pos, 0, 48⟩ (s.rd ⟨index, 0, 48⟩)).set1 ⟨0x130050, l, 1⟩ = t ∧ t.rd ⟨pos, 0, 48⟩ = s.rd ⟨index, 0, 48⟩ ∧
      t.bit ⟨0x130050, l, 1⟩ = true ∧ t = { s with regs := t.regs } ∧ regsApart [pos, 0x130050] s t := by
  refine ⟨_, rfl, ?_, ?_, rfl, regsApart_wr _ _ (regsApart_wr _ _ regsApart_refl (by simp)) (by simp)⟩
  · exact (State.rd_wr_off _ _ _ _ _ _ _ _ (Ne.symm hpos)).trans ((State.rd_wr_same _ _ _ _ _ (by decide)).trans
      (Nat.mod_eq_of_lt (State.rd_lt _ _)))
  · rw [State.bit_iff]
    unfold State.set1
    rw [State.rd_wr_same _ _ _ _ _ (by omega)]
    decide

/-- A counter loaded, with the flag of an index that did not agree. -/
theorem State.corrected_spec (s : State) (pos index l : Nat) (hpos : pos ≠ 0x130080) (hl : l < 64) :
    ∃ t, (s.wr ⟨pos, 0, 48⟩ (s.rd ⟨index, 0, 48⟩)).set1 ⟨0x130080, l, 1⟩ = t ∧ t.rd ⟨pos, 0, 48⟩ = s.rd ⟨index, 0, 48⟩ ∧
      t.bit ⟨0x130080, l, 1⟩ = true ∧ t = { s with regs := t.regs } ∧ regsApart [pos, 0x130080] s t := by
  refine ⟨_, rfl, ?_, ?_, rfl, regsApart_wr _ _ (regsApart_wr _ _ regsApart_refl (by simp)) (by simp)⟩
  · exact (State.rd_wr_off _ _ _ _ _ _ _ _ (Ne.symm hpos)).trans ((State.rd_wr_same _ _ _ _ _ (by decide)).trans
      (Nat.mod_eq_of_lt (State.rd_lt _ _)))
  · rw [State.bit_iff]
    unfold State.set1
    rw [State.rd_wr_same _ _ _ _ _ (by omega)]
    decide

/-- A loss flagged, with the reference cleared. -/
theorem State.lost_spec (s : State) (e r : Nat) (he : e < 64) (hr : r < 64) :
    ∃ t, (s.set1 ⟨0x130080, e, 1⟩).clr ⟨0x130050, r, 1⟩ = t ∧ t.bit ⟨0x130080, e, 1⟩ = true ∧ t.bit ⟨0x130050, r, 1⟩ = false ∧
      t = { s with regs := t.regs } ∧ regsApart [0x130080, 0x130050] s t := by
  refine ⟨_, rfl, ?_, ?_, rfl, regsApart_wr _ _ (regsApart_wr _ _ regsApart_refl (by simp)) (by simp)⟩
  · unfold State.clr State.set1
    rw [State.bit_wr_off _ _ _ _ _ _ _ _ (by decide), State.bit_iff, State.rd_wr_same _ _ _ _ _ (by omega)]
    decide
  · unfold State.clr State.bit
    rw [State.rd_wr_same _ _ _ _ _ (by omega)]
    decide

/-- An index that is used loads the counter where it has no reference yet. -/
theorem exec_encoderIndex_first (s : State) (n : Fin 2)
    (huse : s.bit (if n = 0 then F.SLT_ENC_CFG.USE_INDEX0 else F.SLT_ENC_CFG.USE_INDEX1) = true)
    (href : s.bit (if n = 0 then F.SLT_STATUS.REF0 else F.SLT_STATUS.REF1) = false) :
    exec (.encoderIndex n) s = .next ((s.wr (if n = 0 then F.SLT_POS0.POS else F.SLT_POS1.POS)
      (s.rd (if n = 0 then F.SLT_INDEX0.VALUE else F.SLT_INDEX1.VALUE))).set1 (if n = 0 then F.SLT_STATUS.REF0 else F.SLT_STATUS.REF1)) := by
  show execEncoderIndex n s = _
  unfold execEncoderIndex
  dsimp only
  rw [huse, href, if_neg (by decide), if_pos (by decide)]
  rfl

/-- A later index is compared, and corrects the counter where it differs. -/
theorem exec_encoderIndex_again (s : State) (n : Fin 2)
    (huse : s.bit (if n = 0 then F.SLT_ENC_CFG.USE_INDEX0 else F.SLT_ENC_CFG.USE_INDEX1) = true)
    (href : s.bit (if n = 0 then F.SLT_STATUS.REF0 else F.SLT_STATUS.REF1) = true) :
    exec (.encoderIndex n) s = .next (if s.rd (if n = 0 then F.SLT_POS0.POS else F.SLT_POS1.POS) =
        s.rd (if n = 0 then F.SLT_INDEX0.VALUE else F.SLT_INDEX1.VALUE) then s
      else (s.wr (if n = 0 then F.SLT_POS0.POS else F.SLT_POS1.POS)
        (s.rd (if n = 0 then F.SLT_INDEX0.VALUE else F.SLT_INDEX1.VALUE))).encFault n 2) := by
  show execEncoderIndex n s = _
  unfold execEncoderIndex
  dsimp only
  rw [huse, href, if_neg (by decide), if_neg (by decide)]
  exact (apply_ite Host.Outcome.next _ _ _).symm

/-- What a later index leaves with no leaf in progress. -/
theorem State.compared_spec (s : State) (pos index l : Nat) (hpos : pos ≠ 0x130080) (hl : l < 64) :
    ∃ t, (if s.rd ⟨pos, 0, 48⟩ = s.rd ⟨index, 0, 48⟩ then s else (s.wr ⟨pos, 0, 48⟩ (s.rd ⟨index, 0, 48⟩)).set1 ⟨0x130080, l, 1⟩) = t ∧
      t.rd ⟨pos, 0, 48⟩ = s.rd ⟨index, 0, 48⟩ ∧
      t.bit ⟨0x130080, l, 1⟩ = (s.bit ⟨0x130080, l, 1⟩ || decide (s.rd ⟨pos, 0, 48⟩ ≠ s.rd ⟨index, 0, 48⟩)) ∧
      t = { s with regs := t.regs } ∧ regsApart [pos, 0x130080] s t := by
  by_cases h : s.rd ⟨pos, 0, 48⟩ = s.rd ⟨index, 0, 48⟩
  · rw [if_pos h]
    exact ⟨s, rfl, h, by simp [h], rfl, regsApart_refl⟩
  · rw [if_neg h]
    obtain ⟨t, ht, hrd, hbit, hparts⟩ := s.corrected_spec pos index l hpos hl
    exact ⟨t, ht, hrd, by rw [hbit]; simp [h], hparts⟩

/-! ### The obligation -/

theorem State.levels_counted0 (s : State) (levels : List (Bool × Bool)) (p v acc : Int) :
    (s.counted0 levels p v acc).slt = { s.slt with levels := levels, accel := acc } ∧
      s.counted0 levels p v acc = { s with regs := (s.counted0 levels p v acc).regs, slt := (s.counted0 levels p v acc).slt } :=
  ⟨rfl, rfl⟩

/-- A transition of input 0 with no leaf in progress, and one that moves the stage ahead. -/
theorem State.stageAt_counted0 (s : State) (levels : List (Bool × Bool)) (p v acc : Int) (h : LeafHdr) :
    (s.counted0 levels p v acc).stageAt h = along h (signed 48 (unsigned 48 p) * 65536) := by
  unfold State.stageAt State.rdInt
  rw [(s.counted0_spec levels p v acc).1]

/-- Settles O26: a transition counts in its sense, the index loads or checks the counter, and a loss of signal is an early end. -/
theorem encodersCountAndAFaultEndsTheLeaf : Obligations.EncodersCountAndAFaultEndsTheLeaf := by
  unfold Obligations.EncodersCountAndAFaultEndsTheLeaf
  refine ⟨?_, ?_, ?_, ?_, ?_, ?_, ?_⟩
  · intro s n a lv v acc hcur hlv
    rw [senseUp_eq]
    match n with
    | 0 =>
      refine ⟨_, exec_encoderTransition0 s a lv v acc hlv, ?_⟩
      rw [State.stageMoved_idle (by exact hcur)]
      obtain ⟨hpos, hvel, happart⟩ := s.counted0_spec (s.slt.levels.set 0 (flipped a lv))
        (s.rdInt F.SLT_POS0.POS + countStep (senseUp a lv != s.bit F.SLT_ENC_CFG.INVERT0)) v acc
      exact ⟨rfl, hpos, hvel, rfl, rfl, regsApart_mono happart (by decide)⟩
    | 1 =>
      refine ⟨_, exec_encoderTransition1 s a lv v acc hlv, ?_⟩
      obtain ⟨hpos, happart⟩ := s.counted1_spec (s.slt.levels.set 1 (flipped a lv))
        (s.rdInt F.SLT_POS1.POS + countStep (senseUp a lv != s.bit F.SLT_ENC_CFG.INVERT1))
      refine ⟨rfl, hpos, ?_, rfl, rfl, regsApart_mono happart (by decide)⟩
      exact regsApart_rd happart _ _ _ (by decide)
  · intro s p l h lv v acc x hcur hstate hlv hx hahead
    have hsense : (!(lv.1 != lv.2)) = senseUp true lv := senseUp_eq true lv
    rw [hsense] at hx
    refine ⟨_, exec_encoderTransition0 s true lv v acc hlv, ?_⟩
    have hat := s.stageAt_counted0 (s.slt.levels.set 0 (flipped true lv))
      (s.rdInt F.SLT_POS0.POS + countStep (senseUp true lv != s.bit F.SLT_ENC_CFG.INVERT0)) v acc h
    obtain ⟨-, -, happart⟩ := s.counted0_spec (s.slt.levels.set 0 (flipped true lv))
      (s.rdInt F.SLT_POS0.POS + countStep (senseUp true lv != s.bit F.SLT_ENC_CFG.INVERT0)) v acc
    obtain ⟨hslt, hparts⟩ := s.levels_counted0 (s.slt.levels.set 0 (flipped true lv))
      (s.rdInt F.SLT_POS0.POS + countStep (senseUp true lv != s.bit F.SLT_ENC_CFG.INVERT0)) v acc
    have hcur' : (s.counted0 (s.slt.levels.set 0 (flipped true lv))
      (s.rdInt F.SLT_POS0.POS + countStep (senseUp true lv != s.bit F.SLT_ENC_CFG.INVERT0)) v acc).curLeaf = some (p, l, h) := hcur
    have hxat := hat.trans hx.symm
    generalize s.counted0 (s.slt.levels.set 0 (flipped true lv))
      (s.rdInt F.SLT_POS0.POS + countStep (senseUp true lv != s.bit F.SLT_ENC_CFG.INVERT0)) v acc = u at hxat happart hslt hparts hcur' ⊢
    have hst : u.rd F.SLT_STATUS.STATE = s.rd F.SLT_STATUS.STATE := regsApart_rd happart _ _ _ (by decide)
    rw [State.stageMoved_ahead hcur' (by rw [hst]; exact hstate) (by rw [hxat, hslt]; exact hahead), hxat]
    obtain ⟨t, ht, htstate, htparts, htapart⟩ := u.ahead_spec x
    rw [ht]
    refine ⟨?_, by rw [htstate, hst], ?_, ?_⟩
    · rw [htparts, hslt]
      rfl
    · rw [htparts, hparts]
    · exact regsApart_trans (regsApart_mono happart (by decide)) (regsApart_mono htapart (by decide))
  · intro s n fast v acc hbucket
    obtain ⟨hn, hw⟩ := s.bucketNW_wr F.SLT_COUNTS.GLITCH (satTo F.SLT_COUNTS.GLITCH (s.rd F.SLT_COUNTS.GLITCH + 1)) 13 (by decide)
      (by decide) (by decide)
    have hx := State.bucket_quiet (u := s.incSat F.SLT_COUNTS.GLITCH) hn hw rfl rfl hbucket
    refine ⟨((s.incSat F.SLT_COUNTS.GLITCH).bucket 13 n.val).1, rfl, ?_⟩
    rw [hx]
    exact ⟨State.rd_incSat _ _ _ _ (by decide), rfl, regsApart_wr _ _ regsApart_refl (by decide)⟩
  · intro s n huse href
    refine ⟨_, exec_encoderIndex_first s n huse href, ?_⟩
    match n with
    | 0 =>
      obtain ⟨t, ht, hspec⟩ := s.loaded_spec F.SLT_POS0.POS.off F.SLT_INDEX0.VALUE.off 3 (by decide) (by decide)
      exact ht ▸ hspec
    | 1 =>
      obtain ⟨t, ht, hspec⟩ := s.loaded_spec F.SLT_POS1.POS.off F.SLT_INDEX1.VALUE.off 4 (by decide) (by decide)
      exact ht ▸ hspec
  · intro s n hcur huse href
    refine ⟨_, exec_encoderIndex_again s n huse href, ?_⟩
    rw [(State.encFault_idle (s := s.wr _ _) hcur n).2]
    match n with
    | 0 =>
      obtain ⟨t, ht, hspec⟩ := s.compared_spec F.SLT_POS0.POS.off F.SLT_INDEX0.VALUE.off 2 (by decide) (by decide)
      exact ht ▸ hspec
    | 1 =>
      obtain ⟨t, ht, hspec⟩ := s.compared_spec F.SLT_POS1.POS.off F.SLT_INDEX1.VALUE.off 5 (by decide) (by decide)
      exact ht ▸ hspec
  · intro s n hcur
    refine ⟨s.encFault n 1, rfl, ?_⟩
    rw [(State.encFault_idle hcur n).1]
    match n with
    | 0 =>
      obtain ⟨t, ht, hspec⟩ := s.lost_spec 1 3 (by decide) (by decide)
      exact ht ▸ hspec
    | 1 =>
      obtain ⟨t, ht, hspec⟩ := s.lost_spec 4 4 (by decide) (by decide)
      exact ht ▸ hspec
  · intro s n p l h first hcur hlo hhi hdue hfirst hle
    obtain ⟨u, hfault, hu, hstate, href⟩ := s.encFault_lost n
    have hustate := hstate ▸ hlo
    obtain ⟨t, ht, h1, h2, h3, -, h5, h6, h7⟩ := State.earlyEnd_spec (s := u) (orderly := false) (detail := 11) (first := first)
      (by rw [hu]; exact hcur) (by rw [hstate]; simp only [and_true]; omega) (by rw [hu]; exact hdue)
      (by rw [hu]; show (s.slt.strobed + 1).toNat = first; omega) hle (by decide)
    simp only [Prod.mk.injEq] at h2
    obtain ⟨hdetail, hslot, hleaf⟩ := h2
    refine ⟨t, by show done (s.encFault n 1) = _; rw [hfault, ht]; rfl, h1, hdetail, hslot, hleaf, h3, ?_, ?_, ?_, ?_⟩
    · unfold State.bit at *
      match n with
      | 0 => rw [show t.rd (if (0 : Fin 2) = 0 then F.SLT_STATUS.REF0 else F.SLT_STATUS.REF1) = u.rd F.SLT_STATUS.REF0 from h5 3 1 (by decide)]; simpa using href
      | 1 => rw [show t.rd (if (1 : Fin 2) = 0 then F.SLT_STATUS.REF0 else F.SLT_STATUS.REF1) = u.rd F.SLT_STATUS.REF1 from h5 4 1 (by decide)]; simpa using href
    · rw [h6, hu]
      simp only [Prod.mk.injEq]
      exact ⟨rfl, rfl, rfl, rfl⟩
    · rw [h6, hu]
      rfl
    · rw [hu] at h7
      exact h7

end Sys2Proof.Machine
end

section
/-! SUPPORT. A leaf that leaves its place (R40, R66, R133, R170, R218). -/
namespace Sys2Proof.Machine

/-! ### The place -/

/-- A RETIRED report leaves the leaf of the other place, the order and the identifiers. -/
theorem State.retire_kept {s : State} {p : Nat} {l : Leaf} (h : s.leafAt p = some l) :
    (∃ x, (s.retire p).leafAt p = some x ∧ x.id = l.id) ∧ (∀ q, (q = 0 ↔ p ≠ 0) → (s.retire p).leafAt q = s.leafAt q) ∧
      ((s.retire p).fol.cur, (s.retire p).fol.order, (s.retire p).fol.ended) = (s.fol.cur, s.fol.order, s.fol.ended) := by
  unfold State.retire
  rw [h]
  dsimp only
  split
  · exact ⟨⟨l, h, rfl⟩, fun _ _ => rfl, rfl⟩
  · unfold State.complete State.setLeaf State.setPlace State.leafAt
    dsimp only
    by_cases hp : p = 0
    · rw [if_pos hp, if_pos hp]
      exact ⟨⟨_, rfl, rfl⟩, fun q hq => by rw [if_neg (by omega), if_neg (by omega)], rfl⟩
    · rw [if_neg hp, if_neg hp]
      exact ⟨⟨_, rfl, rfl⟩, fun q hq => by rw [if_pos (by omega), if_pos (by omega)], rfl⟩

theorem State.completeEntries_frame (s : State) (es : List (Nat × Nat × SqEntry)) (status : Nat) :
    ∃ h, es.foldl (fun s e => s.completeEntry e.1 e.2.2.tag e.2.2.leaf e.2.2.seq status) s = { s with hif := { s.hif with held := h } } := by
  induction es generalizing s with
  | nil => exact ⟨s.hif.held, rfl⟩
  | cons e es ih =>
    obtain ⟨h, hes⟩ := ih (s.completeEntry e.1 e.2.2.tag e.2.2.leaf e.2.2.seq status)
    exact ⟨h, hes⟩

theorem State.folShow_spec (s : State) : RegsOnly s s.folShow ∧ regsOutside (fun b => b = 0x4) s s.folShow := by
  unfold State.folShow
  dsimp only
  have h : regsOutside (fun b => b = 0x4) s ((((s.wr F.FOL_LEAF_STATUS.CUR_LEAF (((s.leafAt s.curPlace).map Leaf.id).getD 0)).wr
      F.FOL_LEAF_STATUS.CUR_STATE (s.leafState s.curPlace)).wr F.FOL_LEAF_STATUS.NEXT_LEAF
      (((s.leafAt (1 - s.curPlace)).map Leaf.id).getD 0)).wr F.FOL_LEAF_STATUS.NEXT_STATE (s.leafState (1 - s.curPlace))) :=
    regsOutside_wr _ _ (regsOutside_wr _ _ (regsOutside_wr _ _ (regsOutside_wr _ _ regsOutside_refl (by decide)) (by decide)) (by decide))
      (by decide)
  split
  · exact ⟨rfl, regsOutside_wr _ _ (regsOutside_wr _ _ h (by decide)) (by decide)⟩
  · exact ⟨rfl, h⟩

/-- A leaf's place freed. -/
theorem State.freePlace_spec {s : State} {p : Nat} {l : Leaf} (h : s.leafAt p = some l) :
    ∃ t, s.freePlace p = t ∧ t.leafAt p = none ∧ (∀ q, (q = 0 ↔ p ≠ 0) → t.leafAt q = s.leafAt q) ∧
      (t.fol.cur, t.fol.order, t.fol.ended) =
        (if s.fol.cur = some p then none else s.fol.cur, s.fol.order.filter (· ≠ p), listInsert l.id s.fol.ended) ∧
      t = { s with regs := t.regs, hif := { s.hif with fetching := t.hif.fetching, held := t.hif.held }, fol := t.fol } ∧
      regsOutside (fun b => b = 0x4) s t := by
  obtain ⟨held, hheld⟩ := s.completeEntries_frame (s.hif.fetching.filter (fun e => e.2.1 = p)) 0x13
  refine ⟨_, rfl, ?_⟩
  unfold State.freePlace
  rw [h]
  dsimp only
  rw [hheld]
  dsimp only
  unfold State.setPlace
  by_cases hp : p = 0
  · rw [if_pos hp]
    obtain ⟨hregs, hout⟩ := State.folShow_spec { s with
      hif := { s.hif with
        held := held.map (fun c : Completion => if c.retires l.id then { c with merges := false } else c)
        fetching := s.hif.fetching.filter (fun e => e.2.1 ≠ p) }
      fol := { s.fol with
        ended := listInsert l.id s.fol.ended
        order := s.fol.order.filter (· ≠ p)
        cur := if s.fol.cur = some p then none else s.fol.cur
        place0 := none } }
    rw [hregs]
    refine ⟨?_, fun q hq => ?_, rfl, rfl, fun o ho => hout o ho⟩
    · unfold State.leafAt
      rw [if_pos hp]
    · have hq0 : ¬ q = 0 := by omega
      unfold State.leafAt
      rw [if_neg hq0, if_neg hq0]
  · rw [if_neg hp]
    obtain ⟨hregs, hout⟩ := State.folShow_spec { s with
      hif := { s.hif with
        held := held.map (fun c : Completion => if c.retires l.id then { c with merges := false } else c)
        fetching := s.hif.fetching.filter (fun e => e.2.1 ≠ p) }
      fol := { s.fol with
        ended := listInsert l.id s.fol.ended
        order := s.fol.order.filter (· ≠ p)
        cur := if s.fol.cur = some p then none else s.fol.cur
        place1 := none } }
    rw [hregs]
    refine ⟨?_, fun q hq => ?_, rfl, rfl, fun o ho => hout o ho⟩
    · unfold State.leafAt
      rw [if_neg hp]
    · have hq0 : q = 0 := by omega
      unfold State.leafAt
      rw [if_pos hq0, if_pos hq0]

/-! ### What begins then -/

theorem State.bankShow_spec (s : State) : RegsOnly s s.bankShow ∧ regsOutside (fun b => b = 0x11) s s.bankShow :=
  ⟨rfl, regsOutside_wr _ _ (regsOutside_wr _ _ regsOutside_refl (by decide)) (by decide)⟩

/-- A step of the recoveries that wait: the channels, and the registers of the blocks MEM and SCR. -/
def Recovers (s t : State) : Prop :=
  t = { s with regs := t.regs, mem := { s.mem with ch := t.mem.ch } } ∧ regsOutside (fun b => b = 0x18 || b = 0x19) s t

theorem Recovers.trans {s t u : State} (h : Recovers s t) (h' : Recovers t u) : Recovers s u :=
  ⟨by rw [h'.1, h.1], regsOutside_trans h.2 h'.2⟩

theorem State.scrubShow_recovers (s : State) : Recovers s s.scrubShow := by
  unfold State.scrubShow
  dsimp only
  split
  · exact ⟨rfl, regsOutside_wr _ _ regsOutside_refl (by decide)⟩
  · exact ⟨rfl, regsOutside_refl⟩

theorem State.recoverStart_recovers (s : State) : Recovers s s.recoverStart := by
  have hstep : ∀ (u : State) (c : Nat), c < 6 → Recovers u (if (u.memCh c).retrain then
      let s := u.setCh c (fun m => { m with retrain := false, recovery := true, passed := false })
      (((s.wr (F.MEM_CH_STATUS.STATE c) 1).maskDrop F.MEM_STATUS.TRAINED c).maskDrop F.MEM_STATUS.SELF_REFRESH c).scrubShow
    else u) := by
    intro u c hc
    split
    · refine Recovers.trans ⟨rfl, ?_⟩ (State.scrubShow_recovers _)
      have hch : (fun b => b = 0x18 || b = 0x19 : Nat → Bool) ((F.MEM_CH_STATUS.STATE c).off / 0x10000) = true := by
        simp only [Bool.or_eq_true, decide_eq_true_eq]
        omega
      exact regsOutside_wr _ _ (regsOutside_wr _ _ (regsOutside_wr _ _ (fun _ _ => rfl) hch) (by decide)) (by decide)
    · exact ⟨rfl, regsOutside_refl⟩
  have hfold : ∀ (cs : List Nat) (u : State), (∀ c ∈ cs, c < 6) → Recovers u (cs.foldl (fun s c => if (s.memCh c).retrain then
      let s := s.setCh c (fun m => { m with retrain := false, recovery := true, passed := false })
      (((s.wr (F.MEM_CH_STATUS.STATE c) 1).maskDrop F.MEM_STATUS.TRAINED c).maskDrop F.MEM_STATUS.SELF_REFRESH c).scrubShow
    else s) u) := by
    intro cs
    induction cs with
    | nil => exact fun u _ => ⟨rfl, regsOutside_refl⟩
    | cons c cs ih => exact fun u h => (hstep u c (h c List.mem_cons_self)).trans (ih _ (fun d hd => h d (List.mem_cons_of_mem _ hd)))
  unfold State.recoverStart
  split
  · exact ⟨rfl, regsOutside_refl⟩
  · exact hfold _ s (fun c hc => List.mem_range.mp hc)

/-! ### The leaf -/

/-- Blocks whose registers a leaf that leaves its place may change beside SLT_STATUS. -/
def goneBlocks (b : Nat) : Bool := b = 0x4 || b = 0x11 || b = 0x12 || b = 0x18 || b = 0x19 || b = 0x20 || b = 0x22

/-- The tracker's part once its leaf has left. -/
def SltSt.left (x : SltSt) : SltSt := { x with endAt := none, lbDue := false, near := false, window := 0 }

/-- A step in which the leaf of a place leaves it. -/
structure Gone (p id released : Nat) (s t : State) : Prop where
  parts : t = { s with regs := t.regs, hif := t.hif, acl := t.acl, ikl := t.ikl, lac := t.lac, fol := t.fol, slt := s.slt.left,
                       twn := { s.twn with digests := t.twn.digests }, mem := t.mem, pmc := t.pmc, dut := t.dut }
  place : t.leafAt p = none
  other : ∀ q, (q = 0 ↔ p ≠ 0) → t.leafAt q = s.leafAt q
  fol : (t.fol.cur, t.fol.order, t.fol.ended) =
    (if s.fol.cur = some p then none else s.fol.cur, s.fol.order.filter (· ≠ p), listInsert id s.fol.ended)
  state : t.rd F.SLT_STATUS.STATE = 0
  frames : t.rd F.RSV_POS.RELEASED = released % 2 ^ F.RSV_POS.RELEASED.width
  due : t.hif.due.getLsbD 2 = true
  kept : ∀ o, goneBlocks (o / 0x10000) = false → o ≠ F.SLT_STATUS.STATE.off → t.reg o = s.reg o

theorem Gone.slt {p id released : Nat} {s t : State} (h : Gone p id released s t) : t.slt = s.slt.left := by rw [h.parts]

theorem Gone.sameMemories {p id released : Nat} {s t : State} (h : Gone p id released s t) : sameMemories s t := by
  rw [h.parts]
  exact ⟨rfl, rfl, rfl, rfl, rfl, rfl, rfl, rfl, rfl, rfl⟩

/-- Blocks of the units that follow the leaf once its place is free. -/
def followBlocks (b : Nat) : Bool := b = 0x4 || b = 0x11 || b = 0x18 || b = 0x19 || b = 0x20

/-- What follows once the place is free. -/
theorem State.follow_spec (w : State) :
    ∃ t, ((w.folShow.leafEvent).bankShow).recoverStart = t ∧
      t = { w with regs := t.regs, hif := { w.hif with due := t.hif.due }, mem := { w.mem with ch := t.mem.ch } } ∧
      t.hif.due.getLsbD 2 = true ∧ regsOutside followBlocks w t := by
  obtain ⟨h1, o1⟩ := w.folShow_spec
  generalize w.folShow = w1 at h1 o1 ⊢
  have h2 : Told followBlocks w1 w1.leafEvent := (Told.refl _ _).announce 2 21 (by decide)
  have hdue : w1.leafEvent.hif.due.getLsbD 2 = true := by
    unfold State.leafEvent
    rw [State.announce_eq _ _ _ (by decide) (by decide)]
    exact (getLsbD_or_bit64 _ _ _ (by decide)).trans (by simp)
  generalize w1.leafEvent = w2 at h2 hdue ⊢
  obtain ⟨h3, o3⟩ := w2.bankShow_spec
  generalize w2.bankShow = w3 at h3 o3 ⊢
  obtain ⟨h4, o4⟩ := w3.recoverStart_recovers
  generalize w3.recoverStart = t at h4 o4 ⊢
  have hmono : ∀ {b : Nat → Bool} {u v : State}, regsOutside b u v → (∀ n, followBlocks n = false → b n = false) →
      regsOutside followBlocks u v := fun h hb o ho => h o (hb _ ho)
  refine ⟨t, rfl, ?_, ?_, ?_⟩
  · obtain ⟨h2, -⟩ := h2
    rw [h4, h3, h2, h1]
  · rw [h4, h3]
    exact hdue
  · have hf : ∀ n, followBlocks n = false → n ≠ 0x4 ∧ n ≠ 0x11 ∧ n ≠ 0x18 ∧ n ≠ 0x19 := fun n hn => by
      unfold followBlocks at hn
      simp only [Bool.or_eq_false_iff, decide_eq_false_iff_not] at hn
      omega
    exact regsOutside_trans (regsOutside_trans (regsOutside_trans (hmono o1 (fun n hn => by simp [hf n hn])) h2.outside)
      (hmono o3 (fun n hn => by simp [hf n hn]))) (hmono o4 (fun n hn => by simp [hf n hn]))

/-- What comes before: the open record closes, the watermark is reported, the frames are released and the place is freed. -/
theorem State.place_freed {s : State} {p r : Nat} {l : Leaf} (hleaf : s.leafAt p = some l) :
    ∃ u, ((s.lacCloseRel.retire p).rsvMove r).freePlace p = u ∧ u.leafAt p = none ∧ (∀ q, (q = 0 ↔ p ≠ 0) → u.leafAt q = s.leafAt q) ∧
      (u.fol.cur, u.fol.order, u.fol.ended) =
        (if s.fol.cur = some p then none else s.fol.cur, s.fol.order.filter (· ≠ p), listInsert l.id s.fol.ended) ∧
      u = { s with regs := u.regs, hif := u.hif, acl := u.acl, ikl := u.ikl, lac := u.lac, fol := u.fol } ∧
      u.rd F.RSV_POS.RELEASED = r % 2 ^ F.RSV_POS.RELEASED.width ∧
      regsOutside (fun b => b = 0x4 || b = 0x12 || b = 0x20 || b = 0x22) s u := by
  obtain ⟨x, hlac⟩ := s.lacCloseRel_noted
  have hat : ∀ q, s.lacCloseRel.leafAt q = s.leafAt q := fun q => by
    rw [hlac.parts]
    rfl
  have hfols : s.lacCloseRel.fol = s.fol := by rw [hlac.parts]
  generalize s.lacCloseRel = s1 at hlac hat hfols ⊢
  obtain ⟨⟨x', hx', hid⟩, hother, hfol⟩ := State.retire_kept ((hat p).trans hleaf)
  obtain ⟨rf, rh, hret⟩ := s1.retire_frame p
  generalize s1.retire p = s2 at hx' hother hfol hret ⊢
  have hmove : RegsOnly s2 (s2.rsvMove r) ∧ regsOutside (fun b => b = 0x12) s2 (s2.rsvMove r) ∧
      (s2.rsvMove r).rd F.RSV_POS.RELEASED = r % 2 ^ 40 := by
    unfold State.rsvMove State.leadShow
    refine ⟨rfl, regsOutside_wr _ _ (regsOutside_wr _ _ regsOutside_refl (by decide)) (by decide), ?_⟩
    rw [State.rd_wr_off _ _ _ _ _ _ _ _ (by decide), State.rd_wr_same _ _ _ _ _ (by decide)]
  obtain ⟨h3, o3, hr⟩ := hmove
  have hx3 : (s2.rsvMove r).leafAt p = some x' := by rw [h3]; exact hx'
  have hother3 : ∀ q, (s2.rsvMove r).leafAt q = s2.leafAt q := fun q => by rw [h3]; rfl
  have hfol3 : (s2.rsvMove r).fol = s2.fol := by rw [h3]
  generalize s2.rsvMove r = s3 at h3 o3 hr hx3 hother3 hfol3 ⊢
  obtain ⟨u, hu, hnone, hq, hufol, hparts, hout⟩ := State.freePlace_spec hx3
  simp only [Prod.mk.injEq] at hfol
  obtain ⟨hcur, horder, hended⟩ := hfol
  refine ⟨u, hu, hnone, fun q hpq => ?_, ?_, ?_, ?_, ?_⟩
  · rw [hq q hpq, hother3, hother q hpq, hat]
  · rw [hufol, hfol3, hcur, horder, hended, hid, hfols]
  · rw [hparts, h3, hret, hlac.parts]
  · exact (regsOutside_rd hout _ _ _ (by decide)).trans hr
  · intro o ho
    simp only [Bool.or_eq_false_iff, decide_eq_false_iff_not] at ho
    obtain ⟨⟨⟨ho4, ho12⟩, ho20⟩, ho22⟩ := ho
    rw [hout o (by simp [ho4]), o3 o (by simp [ho12]), hret]
    exact hlac.outside o (by unfold recordBlocks; simp [ho20, ho22])

/-- The tracker IDLE, without its leaf and without the digests of it. -/
def State.leafOut (u : State) (id : Nat) : State := { u.wr F.SLT_STATUS.STATE 0 with
  slt := u.slt.left, twn := { u.twn with digests := u.twn.digests.filter (fun (d : TwinDigest) => d.leaf ≠ id) } }

theorem State.leafGone_eq (s : State) (p : Nat) (l : Leaf) (h : LeafHdr) : s.leafGone p l h =
    ((((((s.lacCloseRel.retire p).rsvMove (l.ras.base + hdrLast h + 1)).freePlace p).leafOut l.id).folShow.leafEvent).bankShow).recoverStart :=
  rfl

theorem State.leafGone_gone {s : State} {p : Nat} {l l' : Leaf} (h : LeafHdr) (hleaf : s.leafAt p = some l') :
    Gone p l'.id (l.ras.base + hdrLast h + 1) s (s.leafGone p l h) := by
  obtain ⟨u, hu, hnone, hother, hfol, hparts, hreleased, hout⟩ := State.place_freed (r := l.ras.base + hdrLast h + 1) hleaf
  rw [State.leafGone_eq, hu]
  obtain ⟨w, hw⟩ : ∃ w : State, w = u.leafOut l.id := ⟨_, rfl⟩
  unfold State.leafOut at hw
  rw [show u.leafOut l.id = w from hw.symm]
  obtain ⟨t, ht, htparts, hdue, htout⟩ := w.follow_spec
  rw [ht]
  have hwreg : ∀ o, o ≠ F.SLT_STATUS.STATE.off → w.reg o = u.reg o := fun o ho => by
    rw [hw]
    exact State.reg_wr_ne _ _ _ _ ho
  have hwstate : w.rd F.SLT_STATUS.STATE = 0 := by
    rw [hw]
    exact State.rd_wr_same u F.SLT_STATUS.STATE.off _ _ 0 (by decide)
  refine ⟨?_, ?_, ?_, ?_, ?_, ?_, hdue, fun o ho hne => ?_⟩
  · rw [htparts, hw, hparts]
    rfl
  · rw [htparts, hw]
    exact hnone
  · rw [htparts, hw]
    exact hother
  · rw [htparts, hw]
    exact hfol
  · exact (regsOutside_rd htout _ _ _ (by decide)).trans hwstate
  · refine (regsOutside_rd htout _ _ _ (by decide)).trans (Eq.trans ?_ hreleased)
    unfold State.rd
    rw [hwreg _ (by decide)]
  · have hb : followBlocks (o / 0x10000) = false ∧ (o / 0x10000 ≠ 0x4 ∧ o / 0x10000 ≠ 0x12 ∧ o / 0x10000 ≠ 0x20 ∧ o / 0x10000 ≠ 0x22) := by
      unfold goneBlocks at ho
      unfold followBlocks
      simp only [Bool.or_eq_false_iff, decide_eq_false_iff_not] at ho ⊢
      omega
    obtain ⟨hb1, h4, h12, h20, h22⟩ := hb
    rw [htout o hb1, hwreg o hne, hout o (by simp [h4, h12, h20, h22])]

end Sys2Proof.Machine
end

section
/-! SUPPORT. An abort and a pause that lasts (R155, R158, R170). -/
namespace Sys2Proof.Machine

theorem State.curLeaf_some {s : State} {p : Nat} {l : Leaf} {h : LeafHdr} (hcur : s.curLeaf = some (p, l, h)) :
    s.fol.cur = some p ∧ s.leafAt p = some l ∧ l.hdr = some h := by
  unfold State.curLeaf at hcur
  split at hcur
  · cases hcur
  · rename_i q hq
    split at hcur
    · cases hcur
    · rename_i x hx
      obtain ⟨y, hy, heq⟩ := Option.map_eq_some_iff.mp hcur
      simp only [Prod.mk.injEq] at heq
      obtain ⟨rfl, rfl, rfl⟩ := heq
      exact ⟨hq, hx, hy⟩

/-! ### An end with its record -/

/-- The record of an early end of a leaf whose first slot has no release point. -/
def State.toEnd (s : State) (id first last detail : Nat) : LacRec :=
  ⟨id, 0x50 + detail, 3, first, last, allCols, s.nowS % 2 ^ 32, s.nowNs, true⟩

/-- A device with authority, in no pair, writes the record of an early end at once. -/
theorem State.endRecord_alone {s : State} {id first last detail : Nat} (hauth : s.hasAuth = true) (hmode : s.rd F.TWN_CFG.MODE = 0)
    (hopen : s.lac.openRel = none) (hslot : s.slotRec id first = none) :
    s.endRecord id first last (0x50 + detail) =
      { s with lac := { s.lac with closed := s.lac.closed ++ [s.toEnd id first last detail] } }.source 22 := by
  have hrel : s.lacCloseRel = s := by
    unfold State.lacCloseRel
    rw [hopen]
  have hbit : ∀ u : State, ({ s with lac := u.lac }.source 22).bit F.TWN_CFG.MODE = false := fun u => by
    rw [State.source_eq _ _ (by decide)]
    rw [State.bit_wr_off _ _ _ _ _ _ _ _ (by decide)]
    unfold State.bit
    rw [show State.rd { s with lac := u.lac } F.TWN_CFG.MODE = 0 from hmode]
    rfl
  unfold State.endRecord
  rw [hrel]
  dsimp only
  rw [hauth, if_neg (by decide), hslot]
  unfold State.lacClose State.toEnd
  dsimp only
  rw [if_pos rfl, if_neg]
  · rfl
  · rw [Bool.not_eq_true]
    exact hbit { s with lac := { s.lac with closed := s.lac.closed ++ [⟨id, 0x50 + detail, flagToEnd + flagCreated, first, last, allCols,
      s.nowS % 2 ^ 32, s.nowNs, true⟩] } }

/-- An early end of a device with authority that is in no pair: its record is closed, and source 22 is pending. -/
theorem State.earlyEnd_recorded {s : State} {orderly : Bool} {detail p : Nat} {l : Leaf} {h : LeafHdr} {first : Nat}
    (hcur : s.curLeaf = some (p, l, h))
    (hstate : s.rd F.SLT_STATUS.STATE = 2 ∨ s.rd F.SLT_STATUS.STATE = 3 ∨ (s.rd F.SLT_STATUS.STATE = 4 ∧ orderly = false))
    (hdue : s.slt.lbDue = false) (hfirst : s.endFirst orderly = first) (hle : first ≤ hdrLast h)
    (hauth : s.hasAuth = true) (hmode : s.rd F.TWN_CFG.MODE = 0) (hpair : s.pairState = 0) (hopen : s.lac.openRel = none)
    (hslot : s.slotRec l.id first = none) :
    (s.earlyEnd orderly detail).lac = { s.lac with closed := s.lac.closed ++ [s.toEnd l.id first (hdrLast h) detail] } ∧
      (s.earlyEnd orderly detail).rd (F.DOC_ROUTE.PENDING 22) = 1 := by
  have hregs := s.endShown_regs l.id first detail
  have hoff : ∀ o lo w, o ≠ F.SLT_ERR.ABORTED.off → o ≠ F.BLK_ERR.LINK_END.off → o ≠ F.SLT_END.DETAIL.off →
      (s.endShown l.id first detail).rd ⟨o, lo, w⟩ = s.rd ⟨o, lo, w⟩ := fun o lo w h1 h2 h3 => by
    unfold State.rd
    rw [State.endShown_off _ _ _ _ _ h1 h2 h3]
  have hrec := State.endRecord_alone (s := s.endShown l.id first detail) (id := l.id) (first := first) (last := hdrLast h) (detail := detail)
    (by unfold State.hasAuth State.bit at hauth ⊢; rw [hoff _ _ _ (by decide) (by decide) (by decide)]; exact hauth)
    (by rw [hoff _ _ _ (by decide) (by decide) (by decide)]; exact hmode) (by rw [hregs]; exact hopen) (by rw [hregs]; exact hslot)
  have hstop := State.endTold_stopped
    ({ s.endShown l.id first detail with lac := { (s.endShown l.id first detail).lac with
        closed := (s.endShown l.id first detail).lac.closed ++ [(s.endShown l.id first detail).toEnd l.id first (hdrLast h) detail] } }.source 22)
    p l h orderly first detail
  rw [State.earlyEnd_eq hcur hstate hdue hfirst hle, State.endLeafAt_eq, hrec]
  generalize hv : ({ s.endShown l.id first detail with lac := { (s.endShown l.id first detail).lac with
        closed := (s.endShown l.id first detail).lac.closed ++ [(s.endShown l.id first detail).toEnd l.id first (hdrLast h) detail] } } :
      State).source 22 = v at hstop ⊢
  rw [State.source_eq _ _ (by decide)] at hv
  have hvlac : v.lac = { s.lac with closed := s.lac.closed ++ [s.toEnd l.id first (hdrLast h) detail] } := by
    rw [← hv, hregs]
    rfl
  have hvsource : v.rd (F.DOC_ROUTE.PENDING 22) = 1 := by
    rw [← hv]
    exact State.rd_wr_same _ _ _ _ _ (by decide)
  have hvpair : v.pairState = 0 := by
    rw [← hv]
    unfold State.pairState at hpair ⊢
    exact (State.rd_wr_off _ _ _ _ _ _ _ _ (by decide)).trans ((hoff _ _ _ (by decide) (by decide) (by decide)).trans hpair)
  generalize v.endTold p l h orderly first detail = u at hstop ⊢
  have hupair : u.pairState = 0 := (hstop.rd _ _ _ (by decide) (by decide)).trans hvpair
  unfold State.endAlone
  rw [if_neg (by rw [hupair]; decide)]
  refine ⟨?_, (hstop.rd _ _ _ (by decide) (by decide)).trans hvsource⟩
  rw [hstop.parts]
  exact hvlac

/-- The flags that an abort and a pause set in SLT_ERR. -/
theorem State.endFlag_abort (s : State) : s.endFlag 10 = s.set1 F.SLT_ERR.ABORTED := rfl
theorem State.endFlag_pause (s : State) : s.endFlag 12 = s.set1 F.SLT_ERR.PAUSE := rfl

theorem State.endShown_abort (s : State) (id first : Nat) : (s.endShown id first 10).rd F.SLT_ERR.ABORTED = 1 := by
  unfold State.endShown
  rw [State.endFlag_abort]
  exact State.rd_wr_same _ _ _ _ _ (by decide)

theorem State.endShown_pause (s : State) (id first : Nat) : (s.endShown id first 12).rd F.SLT_ERR.PAUSE = 1 := by
  unfold State.endShown
  rw [State.endFlag_pause]
  exact State.rd_wr_same _ _ _ _ _ (by decide)

/-! ### Commands -/

theorem exec_sltAbort {s : State} {m : Master} (hserves : s.serves m F.SLT_CTL.ABORT.off = true) :
    exec (.sltAbort m) s = .next (if s.rd F.SLT_STATUS.STATE = 1 then s.armedAbort else s.earlyEnd true 10) := by
  show execSltAbort m s = _
  unfold execSltAbort
  rw [State.gated_serves _ _ _ _ hserves]
  rfl

theorem exec_pauseLimitExpiry {s : State} (h : s.rd F.SLT_STATUS.STATE = 3 ∨ s.rd F.SLT_STATUS.STATE = 4) :
    exec .pauseLimitExpiry s = .next (s.earlyEnd false 12) := by
  show execPauseLimitExpiry s = _
  unfold execPauseLimitExpiry
  rw [if_pos (by simpa using h)]
  rfl

/-- A leaf that leaves its place after its strobing has stopped. -/
theorem State.leafGone_stopped {s v u w : State} {p : Nat} {l : Leaf} {h : LeafHdr} {c : Int} {orderly : Bool} {x : LacSt} {y : TwnSt}
    (hcur : s.curLeaf = some (p, l, h)) (hregs : RegsOnly s v) (hstop : Stopped lacKeeps l.id c orderly { v with lac := x } u)
    (hw : w = { u with twn := y }) :
    ∃ t, w.leafGone p l h = t ∧ t.rd F.SLT_STATUS.STATE = 0 ∧ t.leafAt p = none ∧ t.fol.cur = none ∧ l.id ∈ t.fol.ended ∧
      t.reg F.SLT_END.DETAIL.off = v.reg F.SLT_END.DETAIL.off ∧ sameMemories s t := by
  obtain ⟨hfolcur, hleaf, -⟩ := State.curLeaf_some hcur
  obtain ⟨hucur, huleaf⟩ := hstop.leaves
  have hvfol : v.fol = s.fol := by rw [hregs]
  have hvat : v.leafAt p = s.leafAt p := by
    unfold State.leafAt
    rw [hvfol]
  have hwat : (w.leafAt p).map Leaf.id = some l.id := by
    rw [hw]
    exact (huleaf p).trans (by rw [show State.leafAt { v with lac := x } p = v.leafAt p from rfl, hvat, hleaf]; rfl)
  have hwcur : w.fol.cur = some p := by
    rw [hw]
    exact hucur.trans ((congrArg FolSt.cur hvfol).trans hfolcur)
  have hwreg : ∀ o, w.reg o = u.reg o := fun o => by
    rw [hw]
    rfl
  have hmem : sameMemories s w := by
    have h1 := hregs.sameMemories
    have h2 := hstop.sameMemories
    rw [hw]
    exact sameMemories.trans h1 h2
  obtain ⟨l', hl', hid⟩ := Option.map_eq_some_iff.mp hwat
  have hgone := State.leafGone_gone (l := l) h hl'
  generalize w.leafGone p l h = t at hgone ⊢
  have hfol := hgone.fol
  simp only [Prod.mk.injEq] at hfol
  obtain ⟨hcur', -, hended⟩ := hfol
  refine ⟨t, rfl, hgone.state, hgone.place, ?_, ?_, ?_, hmem.trans hgone.sameMemories⟩
  · rw [hcur', if_pos hwcur]
  · rw [hended, hid, mem_listInsert]
    exact .inl rfl
  · rw [hgone.kept _ (by decide) (by decide), hwreg]
    exact hstop.kept _ (by decide) (by decide)

/-- An armed leaf that is aborted. -/
theorem State.armedAbort_spec {s : State} {p : Nat} {l : Leaf} {h : LeafHdr} (hcur : s.curLeaf = some (p, l, h))
    (hstate : s.rd F.SLT_STATUS.STATE = 1) :
    ∃ t, s.armedAbort = t ∧ t.rd F.SLT_STATUS.STATE = 0 ∧ t.leafAt p = none ∧ t.fol.cur = none ∧ l.id ∈ t.fol.ended ∧
      t.rd F.SLT_END.DETAIL = 10 ∧ t.rd F.SLT_END.FIRST_SLOT = 0 ∧ sameMemories s t := by
  obtain ⟨x, hstop⟩ := s.endLeafAt_stopped p l h true 0 10
  obtain ⟨y, halone⟩ := (s.endLeafAt p l h true 0 10 true).endAlone_frame l.id (hdrLast h)
  have hregs := s.endShown_regs l.id 0 10
  have hend := s.endShown_end l.id 0 10 (by decide)
  simp only [Prod.mk.injEq] at hend
  obtain ⟨hdetail, hslot, -⟩ := hend
  unfold State.armedAbort
  rw [if_pos hstate, hcur]
  dsimp only
  generalize s.endShown l.id 0 10 = v at hstop hregs hdetail hslot
  obtain ⟨t, ht, h1, h2, h3, h4, h5, h6⟩ := State.leafGone_stopped hcur hregs hstop halone
  refine ⟨t, ht, h1, h2, h3, h4, ?_, ?_, h6⟩
  · unfold State.rd at hdetail ⊢
    rw [h5, hdetail]
  · unfold State.rd at hslot ⊢
    rw [h5, hslot, Nat.zero_mod]

/-- Settles O27: an abort ends a leaf after its decided slots, and a pause that lasts at the lowest slot without its SS. -/
theorem leavesEndEarlyWithTheirRecord : Obligations.LeavesEndEarlyWithTheirRecord := by
  unfold Obligations.LeavesEndEarlyWithTheirRecord
  refine ⟨?_, ?_, ?_, ?_⟩
  · intro s m p l h first hserves hcur hstate hdue hfirst hle hauth hmode hpair hopen hslot
    have hend : s.endFirst true = first := by
      show (s.slt.decided + 1).toNat = first
      omega
    have hst : s.rd F.SLT_STATUS.STATE = 2 ∨ s.rd F.SLT_STATUS.STATE = 3 ∨ (s.rd F.SLT_STATUS.STATE = 4 ∧ true = false) := by omega
    obtain ⟨t, ht, h1, h2, -, h4, -, h6, h7⟩ := State.earlyEnd_spec (detail := 10) hcur hst hdue hend hle (by decide)
    obtain ⟨hlac, hsource⟩ := State.earlyEnd_recorded (detail := 10) hcur hst hdue hend hle hauth hmode hpair hopen hslot
    rw [ht] at hlac hsource
    simp only [Prod.mk.injEq] at h2
    refine ⟨t, by rw [exec_sltAbort hserves, if_neg (by omega), ht], h1, h2.1, h2.2.1, ?_, hlac, hsource, ?_, ?_, h7⟩
    · unfold State.rd
      rw [h4]
      exact s.endShown_abort l.id first
    · rw [h6]
      unfold SltSt.stopped
      simp only [Prod.mk.injEq, Bool.not_true, Bool.false_or, decide_eq_decide, true_and]
      omega
    · rw [h6]
      rfl
  · intro s m p l h hserves hcur hstate
    obtain ⟨t, ht, hspec⟩ := State.armedAbort_spec hcur hstate
    exact ⟨t, by rw [exec_sltAbort hserves, if_pos hstate, ht], hspec⟩
  · intro s m hserves hcur
    refine ⟨s, ?_, rfl⟩
    rw [exec_sltAbort hserves, State.earlyEnd_idle hcur]
    have harmed : s.armedAbort = s := by
      unfold State.armedAbort
      rw [hcur]
      exact ite_self _
    rw [harmed, ite_self]
  · intro s p l h first hcur hstate hdue hfirst hle hauth hmode hpair hopen hslot
    have hend : s.endFirst false = first := by
      show (s.slt.strobed + 1).toNat = first
      omega
    have hst : s.rd F.SLT_STATUS.STATE = 2 ∨ s.rd F.SLT_STATUS.STATE = 3 ∨ (s.rd F.SLT_STATUS.STATE = 4 ∧ false = false) := by
      simp only [and_true]
      omega
    obtain ⟨t, ht, h1, h2, -, h4, -, h6, h7⟩ := State.earlyEnd_spec (detail := 12) hcur hst hdue hend hle (by decide)
    obtain ⟨hlac, -⟩ := State.earlyEnd_recorded (detail := 12) hcur hst hdue hend hle hauth hmode hpair hopen hslot
    rw [ht] at hlac
    simp only [Prod.mk.injEq] at h2
    refine ⟨t, by rw [exec_pauseLimitExpiry hstate, ht], h1, h2.1, ?_, hlac, ?_, h7⟩
    · unfold State.rd
      rw [h4]
      exact s.endShown_pause l.id first
    · rw [h6]
      rfl

end Sys2Proof.Machine
end

section
/-! SUPPORT. Arming, marks and strobes of the tracker (R148 to R156, R162). -/
namespace Sys2Proof.Machine

/-! ### Marks and strobes -/

theorem State.windowClose_idle {s : State} (h : s.slt.window = 0) (id : Nat) : s.windowClose id = s := by
  unfold State.windowClose
  have hs : ({ s with slt := { s.slt with window := 0 } } : State) = s := by rw [← h]
  dsimp only
  rw [hs, if_pos (by simp [h])]

theorem State.readLate_idle {s : State} {id : Nat} {n : Int} (h : (s.slotRec id n.toNat).all (fun r => !r.data || r.read) = true) :
    s.readLate id n = s := by
  unfold State.readLate
  split
  · rfl
  · rename_i r hr
    rw [hr] at h
    simp only [Option.all_some, Bool.or_eq_true, Bool.not_eq_true'] at h
    rw [if_neg (by
      simp only [Bool.and_eq_true, Bool.not_eq_true', not_and, Bool.not_eq_false]
      exact fun hd => h.resolve_left (by simp [hd]))]

/-- The tracker at a mark or an SS. -/
def State.atSlot (s : State) (h : LeafHdr) (n : Int) : State := { s with slt := { s.slt with
  strobed := n
  furthest := max s.slt.furthest (s.due h n)
  window := if n < 0 then 0 else s.blankLow
  lbDue := s.slt.lbDue || decide (0 ≤ n ∧ n = s.lastSlot h) } }

/-- What it shows. -/
def State.slotShown (s : State) (id : Nat) (n : Int) : State := (s.wrInt F.SLT_SLOT.SLOT n).wr F.SLT_SLOT.LEAF id

/-- A leaf that was paused goes on. -/
def State.goesOn (s : State) : State := if s.rd F.SLT_STATUS.STATE = 3 then s.wr F.SLT_STATUS.STATE 2 else s

theorem State.goesOn_spec (s : State) : RegsOnly s s.goesOn ∧ regsApart [F.SLT_STATUS.STATE.off] s s.goesOn ∧
    s.goesOn.rd F.SLT_STATUS.STATE = (if s.rd F.SLT_STATUS.STATE = 3 then 2 else s.rd F.SLT_STATUS.STATE) := by
  unfold State.goesOn
  split
  · exact ⟨rfl, regsApart_wr _ _ regsApart_refl (by decide), State.rd_wr_same _ _ _ _ _ (by decide)⟩
  · exact ⟨rfl, regsApart_refl, rfl⟩

theorem State.slotShown_spec (s : State) (id : Nat) (n : Int) (hlo : -(2 ^ 31 : Int) ≤ n) (hhi : n < 2 ^ 31) :
    (s.slotShown id n).rdInt F.SLT_SLOT.SLOT = n ∧ (s.slotShown id n).rd F.SLT_SLOT.LEAF = id % 65536 ∧
      regsApart [F.SLT_SLOT.SLOT.off] s (s.slotShown id n) := by
  unfold State.slotShown
  refine ⟨?_, State.rd_wr_same _ _ _ _ _ (by decide), ?_⟩
  · have hslot : (s.wrInt F.SLT_SLOT.SLOT n).rdInt F.SLT_SLOT.SLOT = n := State.rdInt_wrInt _ _ _ _ _ (by decide) (by decide) hlo hhi
    unfold State.rdInt at hslot ⊢
    rw [State.rd_wr_apart _ _ _ _ _ _ _ (by decide)]
    exact hslot
  · exact regsApart_wr _ _ (regsApart_wr _ _ regsApart_refl (by decide)) (by decide)

theorem State.strobeAt_eq {s : State} {l : Leaf} (h : LeafHdr) {n : Int} (hwindow : s.slt.window = 0)
    (hsent : 0 ≤ n → (s.slotRec l.id n.toNat).all (fun r => r.sent) = true)
    (hboth : (s.hasAuth && s.bit F.TWN_STATUS.PEER_AUTH && decide (0 ≤ n)) = false)
    (hread : (s.slotRec l.id (n + 1).toNat).all (fun r => !r.data || r.read) = true) :
    s.strobeAt l h n = ((s.atSlot h n).slotShown l.id n).goesOn := by
  have hunsent : (decide (0 ≤ n) && (s.slotRec l.id n.toNat).any (fun r => !r.sent)) = false := by
    by_cases hn : 0 ≤ n
    · have hall := hsent hn
      cases hr : s.slotRec l.id n.toNat with
      | none => simp
      | some r =>
        rw [hr] at hall
        simpa using fun _ => hall
    · simp [hn]
  unfold State.strobeAt
  rw [State.windowClose_idle hwindow]
  dsimp only
  rw [hunsent, State.whenD_false, hboth, if_neg Bool.false_ne_true]
  exact State.readLate_idle (s := ((s.atSlot h n).slotShown l.id n).goesOn) (by
    rw [((s.atSlot h n).slotShown l.id n).goesOn_spec.1]
    exact hread)

/-- What a mark or an SS leaves. -/
theorem State.strobed_spec (s : State) (id : Nat) (h : LeafHdr) (n : Int) (hlo : -(2 ^ 31 : Int) ≤ n) (hhi : n < 2 ^ 31) :
    ∃ t, ((s.atSlot h n).slotShown id n).goesOn = t ∧ t.slt = (s.atSlot h n).slt ∧ t = { s with regs := t.regs, slt := t.slt } ∧
      t.rd F.SLT_STATUS.STATE = (if s.rd F.SLT_STATUS.STATE = 3 then 2 else s.rd F.SLT_STATUS.STATE) ∧
      t.rdInt F.SLT_SLOT.SLOT = n ∧ t.rd F.SLT_SLOT.LEAF = id % 65536 ∧
      regsApart [F.SLT_STATUS.STATE.off, F.SLT_SLOT.SLOT.off] s t := by
  obtain ⟨hslot, hleaf, hapart⟩ := (s.atSlot h n).slotShown_spec id n hlo hhi
  have hregs : RegsOnly (s.atSlot h n) ((s.atSlot h n).slotShown id n) := rfl
  have hstate : ((s.atSlot h n).slotShown id n).rd F.SLT_STATUS.STATE = s.rd F.SLT_STATUS.STATE :=
    regsApart_rd hapart _ _ _ (by decide)
  generalize (s.atSlot h n).slotShown id n = u at hslot hleaf hapart hregs hstate ⊢
  obtain ⟨hon, honapart, honstate⟩ := u.goesOn_spec
  refine ⟨u.goesOn, rfl, ?_, ?_, by rw [honstate, hstate], ?_, ?_, ?_⟩
  · rw [hon, hregs]
  · rw [hon, hregs]
    rfl
  · unfold State.rdInt at hslot ⊢
    rw [regsApart_rd honapart _ _ _ (by decide)]
    exact hslot
  · rw [regsApart_rd honapart _ _ _ (by decide)]
    exact hleaf
  · exact regsApart_trans (regsApart_mono (s := s) hapart (by decide)) (regsApart_mono honapart (by decide))

/-! ### The second mark, a strobe and a pause -/

theorem exec_dueMarkCrossing_second {s : State} {p : Nat} {l : Leaf} {h : LeafHdr} (hcur : s.curLeaf = some (p, l, h))
    (hstrobes : s.strobes = true) (hat : s.slt.strobed = -2) (hdecided : 0 ≤ s.slt.decided) :
    exec (.dueMarkCrossing true) s = .next (s.strobeAt l h (-1)) := by
  show execDueMarkCrossing true s = _
  unfold execDueMarkCrossing
  rw [hcur]
  dsimp only
  rw [if_pos rfl, if_pos (by simp [hstrobes, hat, hdecided])]
  rfl

theorem exec_slotStrobe {s : State} {p : Nat} {l : Leaf} {h : LeafHdr} {n : Nat} (hcur : s.curLeaf = some (p, l, h))
    (hstrobes : s.strobes = true) (hn : s.slt.strobed + 1 = n) (hlast : (n : Int) ≤ s.lastSlot h)
    (hdecided : min ((n : Int) + 1) (s.lastSlot h) ≤ s.slt.decided) :
    exec .slotStrobe s = .next (s.strobeAt l h n) := by
  show execSlotStrobe s = _
  unfold execSlotStrobe
  rw [hcur]
  dsimp only
  rw [hn, if_pos (by simp only [hstrobes, Bool.true_and, Bool.and_eq_true, decide_eq_true_eq]; omega)]
  rfl

theorem exec_trackerPause {s : State} (hstate : s.rd F.SLT_STATUS.STATE = 2) (hdue : s.slt.lbDue = false) :
    exec .trackerPause s = .next (s.wr F.SLT_STATUS.STATE 3) := by
  show execTrackerPause s = _
  unfold execTrackerPause
  rw [if_pos (by simp [hstate, hdue])]
  rfl

/-! ### The start -/

theorem exec_dueMarkCrossing_first {s : State} {p : Nat} {l : Leaf} {h : LeafHdr} (hcur : s.curLeaf = some (p, l, h))
    (hstate : s.rd F.SLT_STATUS.STATE = 1) (hrest : s.saf.acting = false) (hwait : s.startWait = 0) :
    exec (.dueMarkCrossing false) s = .next (s.leafStart l h) := by
  show execDueMarkCrossing false s = _
  unfold execDueMarkCrossing
  rw [hcur]
  dsimp only
  rw [if_neg (by decide), if_neg (by simp [hstate, hrest]), if_neg (by simp [hwait])]
  rfl

/-- The armed leaf, about to start. -/
def State.startsNow (s : State) : State := { s with twn := { s.twn with ownEnd := none } }.wr F.SLT_STATUS.STATE 2

/-- The Reserve's leaf shown, and the places of the store. -/
def State.leafShown (s : State) (base id : Nat) : State := ((s.wr F.RSV_LEAF.BASE base).wr F.RSV_LEAF.LEAF id).folShow

theorem State.leafStart_eq (s : State) (l : Leaf) (h : LeafHdr) :
    s.leafStart l h = ((s.startsNow.strobeAt l h (-2)).leafShown l.ras.base l.id).leafEvent := rfl

theorem State.leafShown_spec (s : State) (base id : Nat) : RegsOnly s (s.leafShown base id) ∧
    regsOutside (fun b => b = 0x4 || b = 0x12) s (s.leafShown base id) ∧
      (s.leafShown base id).rd F.RSV_LEAF.BASE = base % 2 ^ F.RSV_LEAF.BASE.width := by
  unfold State.leafShown
  obtain ⟨hregs, hout⟩ := ((s.wr F.RSV_LEAF.BASE base).wr F.RSV_LEAF.LEAF id).folShow_spec
  refine ⟨(((RegsOnly.refl s).wr _ _).wr _ _).trans hregs, ?_, ?_⟩
  · exact regsOutside_trans (regsOutside_wr _ _ (regsOutside_wr _ _ regsOutside_refl (by decide)) (by decide))
      (fun o ho => hout o (by simp only [Bool.or_eq_false_iff] at ho; exact ho.1))
  · refine (regsOutside_rd hout _ _ _ (by decide)).trans ?_
    rw [State.rd_wr_apart _ _ _ _ _ _ _ (by decide), State.rd_wr_same _ _ _ _ _ (by decide)]

theorem State.leafEvent_spec (s : State) : s.leafEvent.rd (F.DOC_ROUTE.PENDING 21) = 1 ∧ s.leafEvent.hif.due.getLsbD 2 = true ∧
    Told (fun b => b = 0x20) s s.leafEvent := by
  refine ⟨?_, ?_, (Told.refl _ _).announce 2 21 (by decide)⟩
  · unfold State.leafEvent
    rw [State.announce_eq _ _ _ (by decide) (by decide)]
    exact State.rd_wr_same _ _ _ _ _ (by decide)
  · unfold State.leafEvent
    rw [State.announce_eq _ _ _ (by decide) (by decide)]
    exact (getLsbD_or_bit64 _ _ _ (by decide)).trans (by simp)

/-! ### Arming -/

/-- The tracker's part of a leaf that is armed. -/
def SltSt.armed (x : SltSt) (at_ : Int) (near : Bool) : SltSt := { x with
  firstArm := false, furthest := at_, near := near, decided := -1, strobed := -3, endAt := none, lbDue := false, window := 0, linkRun := 0 }

/-- The armed leaf, before what it shows. -/
def State.armedAt (s : State) (p : Nat) (h : LeafHdr) : State := { (s.wr F.SLT_STATUS.STATE 1) with
  fol := { s.fol with cur := some p }, slt := s.slt.armed (s.stageAt h) (decide (s.stageAt h < s.due h (-2))) }

theorem exec_leafArm {s : State} {p : Nat} {rest : List Nat} {l : Leaf} {h : LeafHdr} (twin : Bool)
    (hstate : s.rd F.SLT_STATUS.STATE = 0) (hmode : s.mode = 2 ∨ s.mode = 3) (hrest : s.saf.acting = false)
    (htest : s.saf.groupRunning = false) (hstep : s.blk.stepTo = none) (hquiet : s.boot.quiescing = false)
    (horder : s.fol.order = p :: rest) (hleaf : s.leafAt p = some l) (hhdr : l.hdr = some h) (hfirst : s.slt.firstArm = false)
    (hdiverge : s.twn.divergeLeaf = none) :
    exec (.leafArm twin) s = .next ((((s.armedAt p h).wr F.SLT_STATUS.OVER_RUN 0).permit h.rate).folShow) := by
  have hcur : State.curLeaf { (s.wr F.SLT_STATUS.STATE 1) with fol := { s.fol with cur := some p } } = some (p, l, h) := by
    unfold State.curLeaf
    dsimp only
    rw [show State.leafAt { (s.wr F.SLT_STATUS.STATE 1) with fol := { s.fol with cur := some p } } p = some l from hleaf]
    dsimp only
    rw [hhdr]
    rfl
  have hmirror : State.mirrorDiverge { (s.wr F.SLT_STATUS.STATE 1) with fol := { s.fol with cur := some p } } =
      { (s.wr F.SLT_STATUS.STATE 1) with fol := { s.fol with cur := some p } } := by
    unfold State.mirrorDiverge
    rw [hcur, show State.twn { (s.wr F.SLT_STATUS.STATE 1) with fol := { s.fol with cur := some p } } = s.twn from rfl, hdiverge]
  have hat : State.stageAt { (s.wr F.SLT_STATUS.STATE 1) with fol := { s.fol with cur := some p } } h = s.stageAt h := by
    unfold State.stageAt State.rdInt
    rw [show State.rd { (s.wr F.SLT_STATUS.STATE 1) with fol := { s.fol with cur := some p } } F.SLT_POS0.POS =
      (s.wr F.SLT_STATUS.STATE 1).rd F.SLT_POS0.POS from rfl, State.rd_wr_off _ _ _ _ _ _ _ _ (by decide)]
  have hdue : State.due { (s.wr F.SLT_STATUS.STATE 1) with fol := { s.fol with cur := some p } } h (-2) = s.due h (-2) := by
    unfold State.due
    rw [show State.rd { (s.wr F.SLT_STATUS.STATE 1) with fol := { s.fol with cur := some p } } F.SLT_PITCH.PITCH =
      (s.wr F.SLT_STATUS.STATE 1).rd F.SLT_PITCH.PITCH from rfl, State.rd_wr_off _ _ _ _ _ _ _ _ (by decide)]
  show execLeafArm twin s = _
  unfold execLeafArm
  rw [if_neg (by
    simp only [hstate, hrest, htest, hstep, hquiet, Bool.or_eq_true, Bool.and_eq_true, decide_eq_true_eq]
    simp
    omega), horder]
  dsimp only
  rw [hfirst, if_neg (by decide), hcur, hmirror]
  dsimp only
  rw [hat, hdue]
  rfl

theorem State.permit_spec (s : State) (rate : Nat) : RegsOnly s (s.permit rate) ∧
    regsApart [F.SLT_PERIOD.P_MIN.off, F.DUT_PERMIT.P_GOV.off] s (s.permit rate) ∧
      (s.permit rate).rd F.SLT_PERIOD.P_MIN = (largestTerm (s.periodTerms rate)).2 % 2 ^ 32 := by
  unfold State.permit
  refine ⟨rfl, regsApart_wr _ _ (regsApart_wr _ _ (regsApart_wr _ _ regsApart_refl (by decide)) (by decide)) (by decide), ?_⟩
  rw [State.rd_wr_off _ _ _ _ _ _ _ _ (by decide), State.rd_wr_off _ _ _ _ _ _ _ _ (by decide), State.rd_wr_same _ _ _ _ _ (by decide)]

/-- The terms of P_min depend on no register of the tracker. -/
theorem State.periodTerms_congr {s t : State} (h : regsApart [F.SLT_STATUS.STATE.off] s t) (rate : Nat) :
    t.periodTerms rate = s.periodTerms rate := by
  have hmode : t.mode = s.mode := regsApart_rd h _ _ _ (by decide)
  unfold State.periodTerms State.governorTerm
  rw [hmode, regsApart_rd h _ _ _ (by decide), regsApart_rd h _ _ _ (by decide), regsApart_rd h _ _ _ (by decide)]

end Sys2Proof.Machine
end

section
/-! SUPPORT. The leaf boundary (R11, R162, R279, R291, R331). -/
namespace Sys2Proof.Machine

/-! ### Before the leaf leaves -/

theorem State.lacCloseRes_noted (s : State) : ∃ x, Noted recordBlocks { s with lac := x } s.lacCloseRes := by
  unfold State.lacCloseRes
  split
  · exact ⟨s.lac, Noted.refl _ _⟩
  · exact State.lacClose_noted { s with lac := { s.lac with openRes := none } } _

theorem State.lacHandRes_noted (s : State) (r : LacRec) : ∃ x, Noted recordBlocks { s with lac := x } (s.lacHandRes r) := by
  unfold State.lacHandRes
  split
  · exact ⟨s.lac, Noted.refl _ _⟩
  · dsimp only
    split
    · split
      · exact ⟨_, Noted.refl _ _⟩
      · obtain ⟨x, hx⟩ := s.lacCloseRes_noted
        exact ⟨_, hx.withLac _⟩
    · exact ⟨_, Noted.refl _ _⟩

/-- The state with its window closed and other parts of the Lacuna List and the supply of free values. -/
def State.closedWindow (s : State) (x : LacSt) (free : Nat) : State :=
  { s with slt := { s.slt with window := 0 }, lac := x, free := free }

theorem State.windowClose_noted (s : State) (id : Nat) : ∃ x, Noted recordBlocks (s.closedWindow x s.free) (s.windowClose id) := by
  unfold State.windowClose
  dsimp only
  split
  · exact ⟨s.lac, Noted.refl _ _⟩
  · split
    · split
      · exact State.lacHandRes_noted { s with slt := { s.slt with window := 0 } } _
      · exact ⟨s.lac, Noted.refl _ _⟩
    · exact ⟨s.lac, Noted.refl _ _⟩

theorem Noted.withFree {blocks : Nat → Bool} {s t : State} (h : Noted blocks s t) (n : Nat) :
    Noted blocks { s with free := n } { t with free := n } :=
  ⟨by rw [h.parts], h.outside⟩

theorem State.lbStamp_noted (s : State) : ∃ n, Noted recordBlocks { s with free := n } s.lbStamp := by
  unfold State.lbStamp
  split
  · exact ⟨s.free, Noted.refl _ _⟩
  · exact ⟨s.free + 12, (Noted.refl recordBlocks { s with free := s.free + 12 }).aclLog _ _ (by decide) (by decide)⟩

theorem State.boundary_noted (s : State) (id : Nat) :
    ∃ x n, Noted recordBlocks (s.closedWindow x n) ((s.windowClose id).lbStamp) := by
  obtain ⟨x, hx⟩ := s.windowClose_noted id
  obtain ⟨n, hn⟩ := (s.windowClose id).lbStamp_noted
  exact ⟨x, n, (hx.withFree n).trans hn⟩

/-! ### What is settled at the boundary -/

/-- Blocks that a hand-over and the pairing tests write: TIM, TWN and DOC. -/
def pairBlocks (b : Nat) : Bool := b = 0x1C || b = 0x1D || b = 0x20

/-- A step of a hand-over or of the pairing tests: TWN_STATUS.DIVERGED stays, and so does a vector that is due. -/
structure Settled (s t : State) : Prop where
  parts : t = { s with regs := t.regs, hif := { s.hif with due := t.hif.due }, ikl := t.ikl, twn := t.twn }
  outside : regsOutside pairBlocks s t
  diverged : t.rd F.TWN_STATUS.DIVERGED = s.rd F.TWN_STATUS.DIVERGED
  due : ∀ v, v < 64 → s.hif.due.getLsbD v = true → t.hif.due.getLsbD v = true

namespace Settled

variable {s t u : State}

theorem refl (s : State) : Settled s s := ⟨rfl, regsOutside_refl, rfl, fun _ _ h => h⟩

theorem trans (h : Settled s t) (h' : Settled t u) : Settled s u := by
  refine ⟨?_, regsOutside_trans h.outside h'.outside, h'.diverged.trans h.diverged, fun v hv hs => h'.due v hv (h.due v hv hs)⟩
  rw [h'.parts, h.parts]

theorem ite (c : Prop) [Decidable c] (h : Settled s t) (h' : Settled s u) : Settled s (if c then t else u) := by
  split
  · exact h
  · exact h'

theorem wr (h : Settled s t) (o l w v : Nat) (hb : pairBlocks (o / 0x10000) = true)
    (hd : o ≠ F.TWN_STATUS.DIVERGED.off ∨ l + w ≤ 7 ∨ 8 ≤ l) : Settled s (t.wr ⟨o, l, w⟩ v) := by
  refine h.trans ⟨rfl, regsOutside_wr _ _ regsOutside_refl hb, ?_, fun _ _ hs => hs⟩
  by_cases ho : o = F.TWN_STATUS.DIVERGED.off
  · subst ho
    exact State.rd_wr_apart _ _ _ _ _ _ _ (by simpa using hd)
  · exact State.rd_wr_off _ _ _ _ _ _ _ _ ho

theorem announce (h : Settled s t) (v i : Nat) (hv : v ≤ 32) (hi : i ≤ 27) : Settled s (t.announce v i) := by
  have htold : Told pairBlocks t (t.announce v i) := (Told.refl _ t).announce v i (by decide)
  refine h.trans ⟨by rw [htold.parts], htold.outside, State.rd_announce _ _ _ _ _ _ (by decide), fun n hn hs => ?_⟩
  rw [State.announce_eq _ _ _ hv hi]
  exact (getLsbD_or_bit64 _ _ _ hn).trans (by simp [hs])

theorem withTwn (h : Settled s t) (x : TwnSt) : Settled s { t with twn := x } :=
  h.trans ⟨rfl, fun _ _ => rfl, rfl, fun _ _ hs => hs⟩

theorem servoHoldover (h : Settled s t) : Settled s (t.servoState 1 3) := by
  rw [State.servoState_eq _ _ _ (by decide), if_pos rfl]
  exact h.trans (ite _ (refl t) ((((refl t).wr _ _ _ _ (by decide) (.inl (by decide))).announce 7 18 (by decide) (by decide)).wr _ _ _ _ (by decide)
    (.inl (by decide))))

theorem rd (h : Settled s t) (o l w : Nat) (ho : pairBlocks (o / 0x10000) = false) : t.rd ⟨o, l, w⟩ = s.rd ⟨o, l, w⟩ :=
  regsOutside_rd h.outside _ _ _ ho

end Settled

theorem State.tb1Switch_settled (s : State) : Settled s s.tb1Switch := by
  unfold State.tb1Switch
  refine Settled.ite _ (Settled.refl s) (Settled.ite _ ?_ ?_)
  · exact ((Settled.refl s).wr _ _ _ _ (by decide) (.inl (by decide))).withTwn _
  · exact ((Settled.refl s).withTwn _).servoHoldover

theorem State.pairTest_settled (s : State) (twin : Bool) : Settled s (s.pairTest twin) := by
  unfold State.pairTest State.twinEvent
  split
  · exact Settled.refl s
  · split
    · exact Settled.refl s
    · refine Settled.ite _ ?_ (Settled.refl s)
      exact (((Settled.refl s).wr _ _ _ _ (by decide) (.inr (.inl (by decide)))).wr _ _ _ _ (by decide) (.inr (.inr (by decide)))).announce 6 26
        (by decide) (by decide)

theorem State.handover_settled (s : State) : Settled s s.handover := by
  unfold State.handover State.twinEvent
  refine Settled.ite _ (Settled.refl s) ?_
  split
  · exact Settled.refl s
  · split
    · exact Settled.refl s
    · refine Settled.ite _ ?_ (Settled.ite _ ?_ (Settled.refl s))
      · have hsend : ∀ l m c b, Settled s (s.iklSend l m c b) := fun _ _ _ _ => ⟨rfl, fun _ _ => rfl, rfl, fun _ _ hs => hs⟩
        exact ((((hsend _ _ _ _).wr _ _ _ _ (by decide) (.inr (.inr (by decide)))).wr _ _ _ _ (by decide) (.inr (.inl (by decide)))).wr _ _ _ _
          (by decide) (.inr (.inl (by decide)))).announce 6 26 (by decide) (by decide)
      · exact (((((Settled.refl s).withTwn _).wr _ _ _ _ (by decide) (.inr (.inl (by decide)))).wr _ _ _ _ (by decide)
          (.inr (.inl (by decide)))).announce 6 26 (by decide) (by decide)).trans (State.tb1Switch_settled _)

/-- A self-test group that runs. -/
def State.testsBegin (s : State) (late : Bool) : State := { s with saf := { s.saf with groupRunning := true, overdue := late } }

theorem State.groupStart_eq (s : State) : ∃ (late : Bool) (data : List Byte), s.groupStart = if (s.mode ≠ 2 && s.mode ≠ 3) || s.saf.acting then s
    else if late then ((s.testsBegin late).set1 F.SAF_ERR.LATENT_OVERDUE).aclLog 0x0204 data else s.testsBegin late := ⟨_, _, rfl⟩

/-- Blocks that the start of the self-tests writes: SAF, DOC and ACL. -/
def testBlocks (b : Nat) : Bool := b = 0x1E || b = 0x20 || b = 0x22

/-- A step that starts self-tests: only their own marks, a record and its vector. -/
def TestsBegun (s t : State) : Prop :=
  t.saf.groupRunning = true ∧ (∀ v, v < 64 → v ≠ 4 → t.hif.due.getLsbD v = s.hif.due.getLsbD v) ∧ regsOutside testBlocks s t ∧
    t = { s with regs := t.regs, hif := t.hif, acl := t.acl, ikl := t.ikl, saf := t.saf }

theorem State.testsBegin_begun (s : State) (late : Bool) (data : List Byte) :
    TestsBegun s (s.testsBegin late) ∧ TestsBegun s (((s.testsBegin late).set1 F.SAF_ERR.LATENT_OVERDUE).aclLog 0x0204 data) := by
  refine ⟨⟨rfl, fun _ _ _ => rfl, fun _ _ => rfl, rfl⟩, ?_⟩
  have hlog := ((s.testsBegin late).set1 F.SAF_ERR.LATENT_OVERDUE).aclLog_logged 0x0204 data
  have hset : regsOutside testBlocks s ((s.testsBegin late).set1 F.SAF_ERR.LATENT_OVERDUE) :=
    regsOutside_wr _ _ (fun _ _ => rfl) (by decide)
  generalize hu : (s.testsBegin late).set1 F.SAF_ERR.LATENT_OVERDUE = u at hlog hset
  generalize u.aclLog 0x0204 data = t at hlog
  obtain ⟨_, _, _, _, _, _, _, _, _, e⟩ := hlog.parts
  refine ⟨?_, fun v hv hne => ?_, fun o ho => ?_, ?_⟩
  · rw [e, ← hu]
    rfl
  · rw [hlog.due v hv hne, ← hu]
    rfl
  · rw [← hset o ho]
    refine hlog.outside o ?_
    unfold testBlocks at ho
    simp only [Bool.or_eq_false_iff] at ho ⊢
    exact ⟨ho.1.2, ho.2⟩
  · rw [e, ← hu]
    rfl

/-- The self-tests that begin at the boundary. -/
theorem State.groupStart_spec (s : State) :
    s.groupStart.saf.groupRunning = (((s.mode = 2 || s.mode = 3) && !s.saf.acting) || s.saf.groupRunning) ∧
      (∀ v, v < 64 → v ≠ 4 → s.groupStart.hif.due.getLsbD v = s.hif.due.getLsbD v) ∧ regsOutside testBlocks s s.groupStart ∧
      s.groupStart = { s with regs := s.groupStart.regs, hif := s.groupStart.hif, acl := s.groupStart.acl, ikl := s.groupStart.ikl,
                              saf := s.groupStart.saf } := by
  obtain ⟨late, data, heq⟩ := s.groupStart_eq
  by_cases hoff : ((s.mode ≠ 2 && s.mode ≠ 3) || s.saf.acting) = true
  · rw [heq, if_pos hoff]
    refine ⟨?_, fun _ _ _ => rfl, regsOutside_refl, rfl⟩
    cases hact : s.saf.acting <;> simp [hact] at hoff ⊢
    simp [hoff]
  · have hruns : (((s.mode = 2 || s.mode = 3) && !s.saf.acting) || s.saf.groupRunning) = true := by
      cases hact : s.saf.acting <;> simp [hact] at hoff ⊢
      by_cases h2 : s.mode = 2
      · simp [h2]
      · simp [hoff h2]
    obtain ⟨hplain, hlate⟩ := s.testsBegin_begun late data
    rw [heq, if_neg hoff, hruns]
    split
    · exact hlate
    · exact hplain

/-! ### The boundary -/

theorem exec_leafBoundary {s : State} {p : Nat} {l : Leaf} {h : LeafHdr} (twin : Bool) (hcur : s.curLeaf = some (p, l, h))
    (hdue : s.slt.lbDue = true) :
    exec (.leafBoundary twin) s =
      .next ((((((s.windowClose l.id).lbStamp.leafGone p l h).clr F.TWN_STATUS.DIVERGED).handover).pairTest twin).groupStart) := by
  show execLeafBoundary twin s = _
  unfold execLeafBoundary
  rw [hcur]
  dsimp only
  rw [if_neg (by simp [hdue])]
  rfl

/-- What the boundary leaves. -/
theorem State.boundary_spec {s : State} {p : Nat} {l : Leaf} {h : LeafHdr} (twin : Bool) (hcur : s.curLeaf = some (p, l, h)) :
    ∃ t, (((((s.windowClose l.id).lbStamp.leafGone p l h).clr F.TWN_STATUS.DIVERGED).handover).pairTest twin).groupStart = t ∧
      t.leafAt p = none ∧ (∀ q, (q = 0 ↔ p ≠ 0) → t.leafAt q = s.leafAt q) ∧ t.fol.cur = none ∧
      t.fol.order = s.fol.order.filter (· ≠ p) ∧ l.id ∈ t.fol.ended ∧ t.rd F.SLT_STATUS.STATE = 0 ∧ t.rd F.TWN_STATUS.DIVERGED = 0 ∧
      t.rd F.RSV_POS.RELEASED = (l.ras.base + hdrLast h + 1) % 2 ^ F.RSV_POS.RELEASED.width ∧
      (t.slt.endAt, t.slt.lbDue, t.slt.near, t.slt.window) = (none, false, false, 0) ∧
      t.saf.groupRunning = (((s.mode = 2 || s.mode = 3) && !s.saf.acting) || s.saf.groupRunning) ∧
      t.hif.due.getLsbD 2 = true ∧ sameMemories s t := by
  obtain ⟨hfolcur, hleaf, -⟩ := State.curLeaf_some hcur
  obtain ⟨x, n, hnoted⟩ := s.boundary_noted l.id
  generalize (s.windowClose l.id).lbStamp = u at hnoted ⊢
  have hufol : u.fol = s.fol := by
    rw [hnoted.parts]
    rfl
  have huat : ∀ q, u.leafAt q = s.leafAt q := fun q => by
    unfold State.leafAt
    rw [hufol]
  have hgone := State.leafGone_gone (l := l) h ((huat p).trans hleaf)
  generalize u.leafGone p l h = v at hgone ⊢
  have hclr : regsApart [F.TWN_STATUS.DIVERGED.off] v (v.clr F.TWN_STATUS.DIVERGED) := regsApart_wr _ _ regsApart_refl (by decide)
  have hclr0 : (v.clr F.TWN_STATUS.DIVERGED).rd F.TWN_STATUS.DIVERGED = 0 := State.rd_wr_same _ _ _ _ _ (by decide)
  have hclrp : RegsOnly v (v.clr F.TWN_STATUS.DIVERGED) := rfl
  generalize v.clr F.TWN_STATUS.DIVERGED = w at hclr hclr0 hclrp ⊢
  have hsettled := w.handover_settled.trans (w.handover.pairTest_settled twin)
  generalize w.handover.pairTest twin = y at hsettled ⊢
  obtain ⟨hruns, hvec, hout, hparts⟩ := y.groupStart_spec
  generalize y.groupStart = t at hruns hvec hout hparts ⊢
  have hfol : t.fol = v.fol := by rw [hparts, hsettled.parts, hclrp]
  have hat : ∀ q, t.leafAt q = v.leafAt q := fun q => by
    unfold State.leafAt
    rw [hfol]
  have hrd : ∀ o lo wd, pairBlocks (o / 0x10000) = false → testBlocks (o / 0x10000) = false → t.rd ⟨o, lo, wd⟩ = v.rd ⟨o, lo, wd⟩ :=
    fun o lo wd h1 h2 => by
      rw [regsOutside_rd hout _ _ _ h2, hsettled.rd _ _ _ h1]
      refine regsApart_rd hclr _ _ _ (fun hmem => ?_)
      rw [List.mem_singleton.mp hmem] at h1
      exact absurd h1 (by decide)
  have hymode : y.mode = s.mode := by
    unfold State.mode
    rw [hsettled.rd _ _ _ (by decide), regsApart_rd hclr _ _ _ (by decide)]
    unfold State.rd
    rw [hgone.kept _ (by decide) (by decide), hnoted.outside _ (by decide)]
    rfl
  have hysaf : y.saf = s.saf := by
    rw [hsettled.parts, hclrp, hgone.parts, hnoted.parts]
    rfl
  have hvfol := hgone.fol
  simp only [Prod.mk.injEq] at hvfol
  obtain ⟨hcur', horder, hended⟩ := hvfol
  refine ⟨t, rfl, ?_, fun q hq => ?_, ?_, ?_, ?_, ?_, ?_, ?_, ?_, ?_, ?_, ?_⟩
  · rw [hat, hgone.place]
  · rw [hat, hgone.other q hq, huat]
  · rw [hfol, hcur', if_pos (by rw [hufol, hfolcur])]
  · rw [hfol, horder, hufol]
  · rw [hfol, hended, mem_listInsert]
    exact .inl rfl
  · rw [hrd _ _ _ (by decide) (by decide), hgone.state]
  · rw [regsOutside_rd hout _ _ _ (by decide), hsettled.diverged, hclr0]
  · rw [hrd _ _ _ (by decide) (by decide), hgone.frames]
  · have hslt : t.slt = u.slt.left := by rw [hparts, hsettled.parts, hclrp, hgone.parts]
    rw [hslt]
    rfl
  · rw [hruns, hymode, hysaf]
  · rw [hvec 2 (by decide) (by decide)]
    refine hsettled.due 2 (by decide) ?_
    rw [hclrp]
    exact hgone.due
  · have hmem1 : sameMemories s u := by
      rw [hnoted.parts]
      exact ⟨rfl, rfl, rfl, rfl, rfl, rfl, rfl, rfl, rfl, rfl⟩
    have hmem2 : sameMemories v t := by
      rw [hparts, hsettled.parts, hclrp]
      exact ⟨rfl, rfl, rfl, rfl, rfl, rfl, rfl, rfl, rfl, rfl⟩
    exact hmem1.trans (hgone.sameMemories.trans hmem2)

end Sys2Proof.Machine
end

section
/-! SUPPORT. The tracker from arming to the leaf boundary. -/
namespace Sys2Proof.Machine

/-- What the tracker shows of an armed leaf. -/
theorem State.armed_spec {s : State} {p : Nat} {l : Leaf} {h : LeafHdr} (hleaf : s.leafAt p = some l) (hhdr : l.hdr = some h) :
    ∃ t, (((s.armedAt p h).wr F.SLT_STATUS.OVER_RUN 0).permit h.rate).folShow = t ∧ t.rd F.SLT_STATUS.STATE = 1 ∧
      t.rd F.SLT_STATUS.OVER_RUN = 0 ∧ t.rd F.SLT_PERIOD.P_MIN = (largestTerm (s.periodTerms h.rate)).2 % 2 ^ 32 ∧
      t.curLeaf = some (p, l, h) ∧ t.slt = s.slt.armed (s.stageAt h) (decide (s.stageAt h < s.due h (-2))) ∧
      t = { s with regs := t.regs, fol := { s.fol with cur := some p }, slt := t.slt } ∧
      regsOutside (fun b => b = 0x4 || b = 0x13 || b = 0x14) s t := by
  obtain ⟨u, hu⟩ : ∃ u, (s.armedAt p h).wr F.SLT_STATUS.OVER_RUN 0 = u := ⟨_, rfl⟩
  have hapart : regsApart [F.SLT_STATUS.STATE.off] s u := by
    rw [← hu]
    refine regsApart_wr _ _ ?_ (by decide)
    exact regsApart_regs (regsApart_wr F.SLT_STATUS.STATE 1 (regsApart_refl (s := s)) (List.mem_singleton.mpr rfl)) rfl
  have hstate : u.rd F.SLT_STATUS.STATE = 1 ∧ u.rd F.SLT_STATUS.OVER_RUN = 0 := by
    rw [← hu]
    refine ⟨?_, State.rd_wr_same _ _ _ _ _ (by decide)⟩
    rw [State.rd_wr_apart _ _ _ _ _ _ _ (by decide)]
    exact State.rd_wr_same s F.SLT_STATUS.STATE.off _ _ 1 (by decide)
  have huparts : u = { s with regs := u.regs, fol := { s.fol with cur := some p },
                              slt := s.slt.armed (s.stageAt h) (decide (s.stageAt h < s.due h (-2))) } := by
    rw [← hu]
    rfl
  rw [hu]
  obtain ⟨hpregs, hpapart, hpmin⟩ := u.permit_spec h.rate
  generalize u.permit h.rate = v at hpregs hpapart hpmin ⊢
  obtain ⟨hfregs, hfout⟩ := v.folShow_spec
  generalize v.folShow = t at hfregs hfout ⊢
  have hparts : t = { s with regs := t.regs, fol := { s.fol with cur := some p },
                             slt := s.slt.armed (s.stageAt h) (decide (s.stageAt h < s.due h (-2))) } := by
    rw [hfregs, hpregs, huparts]
  refine ⟨t, rfl, ?_, ?_, ?_, ?_, ?_, ?_, fun o ho => ?_⟩
  · rw [regsOutside_rd hfout _ _ _ (by decide), regsApart_rd hpapart _ _ _ (by decide), hstate.1]
  · rw [regsOutside_rd hfout _ _ _ (by decide), regsApart_rd hpapart _ _ _ (by decide), hstate.2]
  · rw [regsOutside_rd hfout _ _ _ (by decide), hpmin, State.periodTerms_congr hapart]
  · have hfol : t.fol = { s.fol with cur := some p } := by rw [hparts]
    have hat : t.leafAt p = some l := by
      unfold State.leafAt at hleaf ⊢
      rw [hfol]
      exact hleaf
    unfold State.curLeaf
    rw [hfol]
    dsimp only
    rw [hat]
    dsimp only
    rw [hhdr]
    rfl
  · rw [hparts]
  · rw [hparts]
  · simp only [Bool.or_eq_false_iff, decide_eq_false_iff_not] at ho
    obtain ⟨⟨h4, h13⟩, h14⟩ := ho
    have hmem : o ∉ [F.SLT_PERIOD.P_MIN.off, F.DUT_PERMIT.P_GOV.off] ∧ o ∉ [F.SLT_STATUS.STATE.off] := by
      simp only [List.mem_cons, List.not_mem_nil, or_false, not_or]
      omega
    rw [hfout o (by simp [h4]), hpapart o hmem.1, hapart o hmem.2]

/-- What the start of an armed leaf leaves. -/
theorem State.leafStart_spec {s : State} {l : Leaf} (h : LeafHdr) (hwindow : s.slt.window = 0)
    (hslot : s.slotRec l.id 0 = none) :
    ∃ t, s.leafStart l h = t ∧ t.rd F.SLT_STATUS.STATE = 2 ∧ t.rdInt F.SLT_SLOT.SLOT = -2 ∧ t.rd F.SLT_SLOT.LEAF = l.id % 65536 ∧
      t.rd F.RSV_LEAF.BASE = l.ras.base % 2 ^ F.RSV_LEAF.BASE.width ∧
      t.slt = { s.slt with strobed := -2, furthest := max s.slt.furthest (s.due h (-2)), window := t.slt.window } ∧
      t.rd (F.DOC_ROUTE.PENDING 21) = 1 ∧ t.hif.due.getLsbD 2 = true ∧
      t = { s with regs := t.regs, hif := { s.hif with due := t.hif.due }, slt := t.slt, twn := { s.twn with ownEnd := none } } ∧
      regsOutside (fun b => b = 0x4 || b = 0x12 || b = 0x13 || b = 0x20) s t := by
  have hsapart : regsApart [F.SLT_STATUS.STATE.off] s s.startsNow := regsApart_wr _ _ (fun _ _ => rfl) (by decide)
  have hsstate : s.startsNow.rd F.SLT_STATUS.STATE = 2 := State.rd_wr_same { s with twn := { s.twn with ownEnd := none } } _ _ _ 2 (by decide)
  have hsparts : s.startsNow = { s with regs := s.startsNow.regs, twn := { s.twn with ownEnd := none } } := rfl
  have hsdue : s.startsNow.due h (-2) = s.due h (-2) := by
    unfold State.due
    rw [regsApart_rd hsapart _ _ _ (by decide)]
  rw [State.leafStart_eq]
  generalize s.startsNow = a at hsapart hsstate hsparts hsdue ⊢
  have haslt : a.slt = s.slt := by rw [hsparts]
  have hslot' : a.slotRec l.id 0 = none := by
    unfold State.slotRec
    rw [haslt]
    exact hslot
  rw [State.strobeAt_eq h (by rw [haslt]; exact hwindow) (fun hn => absurd hn (by decide)) (by simp)
    (by rw [show ((-2 : Int) + 1).toNat = 0 from rfl, hslot']; rfl)]
  obtain ⟨u, hu, huslt, huparts, hustate, huslot, huleaf, huapart⟩ := a.strobed_spec l.id h (-2) (by decide) (by decide)
  rw [hu]
  obtain ⟨hvregs, hvout, hvbase⟩ := u.leafShown_spec l.ras.base l.id
  generalize u.leafShown l.ras.base l.id = v at hvregs hvout hvbase ⊢
  obtain ⟨hsource, hdue, htold⟩ := v.leafEvent_spec
  generalize v.leafEvent = t at hsource hdue htold ⊢
  obtain ⟨htparts, htout⟩ := htold
  have hrd : ∀ lo w o, o / 0x10000 = 0x13 → t.rd ⟨o, lo, w⟩ = u.rd ⟨o, lo, w⟩ := fun lo w o ho => by
    rw [regsOutside_rd htout _ _ _ (by simp [ho]), regsOutside_rd hvout _ _ _ (by simp [ho])]
  have htslt : t.slt = u.slt := by rw [htparts, hvregs]
  refine ⟨t, rfl, ?_, ?_, ?_, ?_, ?_, hsource, hdue, ?_, fun o ho => ?_⟩
  · rw [hrd _ _ _ (by decide), hustate, hsstate]
    decide
  · unfold State.rdInt at huslot ⊢
    rw [hrd _ _ _ (by decide)]
    exact huslot
  · rw [hrd _ _ _ (by decide), huleaf]
  · rw [regsOutside_rd htout _ _ _ (by decide), hvbase]
  · rw [htslt, huslt]
    unfold State.atSlot
    dsimp only
    rw [haslt, hsdue]
    simp
  · rw [htparts, hvregs, huparts, hsparts]
  · simp only [Bool.or_eq_false_iff, decide_eq_false_iff_not] at ho
    obtain ⟨⟨⟨h4, h12⟩, h13⟩, h20⟩ := ho
    have hmem : o ∉ [F.SLT_STATUS.STATE.off, F.SLT_SLOT.SLOT.off] ∧ o ∉ [F.SLT_STATUS.STATE.off] := by
      simp only [List.mem_cons, List.not_mem_nil, or_false, not_or]
      omega
    rw [htout o (by simp [h20]), hvout o (by simp [h4, h12]), huapart o hmem.1, hsapart o hmem.2]

/-- Settles O24: the first leaf in order arms, starts, is strobed slot by slot, pauses, and leaves its place at LB. -/
theorem armedLeavesStartAndStrobeTheirSlots : Obligations.ArmedLeavesStartAndStrobeTheirSlots := by
  unfold Obligations.ArmedLeavesStartAndStrobeTheirSlots
  refine ⟨?_, ?_, ?_, ?_, ?_, ?_⟩
  · intro s p rest l h twin hstate hmode hrest htest hstep hquiet horder hleaf hhdr hfirst hdiverge
    obtain ⟨t, ht, h1, h2, h3, h4, h5, h6, h7⟩ := State.armed_spec hleaf hhdr
    refine ⟨t, ?_, h1, h2, h3, h4, ?_, h6, h7⟩
    · rw [exec_leafArm twin hstate hmode hrest htest hstep hquiet horder hleaf hhdr hfirst hdiverge, ht]
    · rw [h5]
      unfold SltSt.armed
      rw [← hfirst]
  · intro s p l h hcur hstate hrest hwait hwindow hslot
    obtain ⟨t, ht, hspec⟩ := State.leafStart_spec h hwindow hslot
    exact ⟨t, by rw [exec_dueMarkCrossing_first hcur hstate hrest hwait, ht], hspec⟩
  · intro s p l h hcur hstrobes hat hdecided hwindow hread
    obtain ⟨t, ht, hslt, hparts, hstate, hslot, -, hapart⟩ := s.strobed_spec l.id h (-1) (by decide) (by decide)
    refine ⟨t, ?_, hstate, hslot, ?_, hparts, hapart⟩
    · rw [exec_dueMarkCrossing_second hcur hstrobes hat hdecided,
        State.strobeAt_eq h hwindow (fun hn => absurd hn (by decide)) (by simp) hread, ht]
    · rw [hslt]
      unfold State.atSlot
      simp
  · intro s p l h n hcur hstrobes hn hauth hlast hdecided hwindow hsent hread hsmall
    obtain ⟨t, ht, hslt, hparts, hstate, hslot, hleaf, hapart⟩ := s.strobed_spec l.id h n (by omega) (by exact_mod_cast hsmall)
    refine ⟨t, ?_, hslot, hleaf, ?_, hstate, hparts, hapart⟩
    · rw [exec_slotStrobe hcur hstrobes hn hlast hdecided, State.strobeAt_eq h hwindow (fun _ => hsent) (by rw [hauth]; rfl) hread, ht]
    · have hdue : s.slt.lbDue = false := by
        unfold State.strobes at hstrobes
        simp only [Bool.and_eq_true, Bool.not_eq_true'] at hstrobes
        exact hstrobes.1.2
      rw [hslt]
      unfold State.atSlot
      simp [hdue]
  · intro s hstate hdue
    exact ⟨_, exec_trackerPause hstate hdue, State.rd_wr_same _ _ _ _ _ (by decide), rfl, regsApart_wr _ _ regsApart_refl (by decide)⟩
  · intro s p l h twin hcur hdue
    obtain ⟨t, ht, h1, h2, h3, h4, h5, h6, h7, h8, h9, h10, h11, h12⟩ := State.boundary_spec twin hcur
    refine ⟨t, by rw [exec_leafBoundary twin hcur hdue, ht], h1, ?_, h3, h4, h5, h6, h7, h8, h9, h10, h11, h12⟩
    rw [h2 (1 - p.val) (by omega)]

end Sys2Proof.Machine
end

section
/-! SUPPORT. Authority and its passing between the twins (R270 to R273, R288, R291). -/
namespace Sys2Proof.Machine

/-! ### Authority taken -/

/-- What asserting TWIN_AUTH leaves. -/
theorem State.assertAuth_spec (s : State) (st : Nat) (hst : st < 8) : ∃ t, s.assertAuth st = t ∧ t.rd F.TWN_STATUS.AUTH = 1 ∧
    t.rd F.TWN_STATUS.STATE = st ∧ t.rd (F.DOC_ROUTE.PENDING 26) = 1 ∧ t.hif.due.getLsbD 6 = true ∧
    (∀ l w, 4 ≤ l → t.rd ⟨0x1D0010, l, w⟩ = s.rd ⟨0x1D0010, l, w⟩) ∧ t = { s with regs := t.regs, hif := { s.hif with due := t.hif.due } } ∧
    regsApart [F.TWN_STATUS.AUTH.off, (F.DOC_ROUTE.PENDING 26).off] s t := by
  refine ⟨_, rfl, ?_⟩
  unfold State.assertAuth State.twinEvent State.set1
  rw [State.announce_eq _ _ _ (by decide) (by decide)]
  refine ⟨?_, ?_, State.rd_wr_same _ _ _ _ _ (by decide), (getLsbD_or_bit64 _ _ _ (by decide)).trans (by simp), fun l w hl => ?_, rfl, ?_⟩
  · rw [State.rd_wr_off _ _ _ _ _ _ _ _ (by decide), State.rd_mk, State.rd_wr_apart _ _ _ _ _ _ _ (by decide)]
    exact State.rd_wr_same _ _ _ _ _ (by decide)
  · rw [State.rd_wr_off _ _ _ _ _ _ _ _ (by decide), State.rd_mk]
    exact (State.rd_wr_same _ _ _ _ _ (by decide)).trans (Nat.mod_eq_of_lt hst)
  · rw [State.rd_wr_off _ _ _ _ _ _ _ _ (by decide), State.rd_mk, State.rd_wr_apart _ _ _ _ _ _ _ (.inl (by omega)),
      State.rd_wr_apart _ _ _ _ _ _ _ (.inl (by omega))]
  · refine regsApart_wr _ _ ?_ (by decide)
    exact regsApart_regs (regsApart_wr _ _ (regsApart_wr _ _ regsApart_refl (by decide)) (by decide)) rfl

theorem State.tb1Switch_own {s : State} (hsource : s.rd F.TIM_CFG.TB1_SOURCE ≠ 1) : s.tb1Switch = s := by
  unfold State.tb1Switch
  rw [if_pos hsource]

theorem State.pairRuns_acting {s : State} (hacting : s.saf.acting = true) : s.pairRuns = false := by
  unfold State.pairRuns
  rw [hacting]
  simp

/-- While the Guard acts, the twin holds its line, or the device has authority, nothing passes. -/
theorem State.authSettle_rest {s : State} (h : s.pairRuns = false ∨ s.twn.peerLow = false ∨ s.hasAuth = true) : s.authSettle = s := by
  unfold State.authSettle
  rw [if_pos]
  rcases h with h | h | h <;> simp [h]

/-- A device that waits alone takes authority. -/
theorem State.authSettle_alone {s : State} (hruns : s.pairRuns = true) (hlow : s.twn.peerLow = true) (hauth : s.hasAuth = false)
    (hmode : s.bit F.TWN_CFG.MODE = true) (hstate : s.pairState = 1) (hmay : s.bit F.TWN_CFG.ROLE = false ∨ s.twn.waited = true)
    (hsource : s.rd F.TIM_CFG.TB1_SOURCE ≠ 1) : s.authSettle = s.assertAuth 2 := by
  unfold State.authSettle State.handoverDue
  rw [if_neg (by simp [hruns, hlow, hauth]), if_neg (by simp [hmode]), if_neg (by simp [hstate]), if_neg (by simp [hstate]),
    if_pos (by rcases hmay with h | h <;> simp [hstate, h])]
  obtain ⟨t, ht, -, -, -, -, -, -, hapart⟩ := s.assertAuth_spec 2 (by decide)
  rw [ht]
  exact State.tb1Switch_own (by rwa [regsApart_rd hapart _ _ _ (by decide)])

theorem State.authSettle_demand {s : State} (hruns : s.pairRuns = true) (hlow : s.twn.peerLow = true) (hauth : s.hasAuth = false)
    (hmode : s.bit F.TWN_CFG.MODE = true) (hstate : s.pairState = 3) (hdemand : s.twn.demand = true) : s.authSettle = s.takeOver := by
  unfold State.authSettle
  rw [if_neg (by simp [hruns, hlow, hauth]), if_neg (by simp [hmode]), if_pos (by simp [hstate, hdemand])]

/-! ### Records of the pair -/

/-- Blocks of a pair's events: TWN, DOC and ACL. -/
def twinBlocks (b : Nat) : Bool := b = 0x1D || b = 0x20 || b = 0x22

/-- What a TWIN record leaves: every register outside the log but the pending bit of source 23. -/
theorem State.twinRecord_logged (s : State) (kind : Nat) : Logged 0x0601 s (s.twinRecord kind) := State.aclLog_logged _ _ _

theorem Logged.rd {event : Nat} {s t : State} (h : Logged event s t) (o l w : Nat) (hblock : o / 0x10000 ≠ 0x22) (hsource : o ≠ 0x2002B8) :
    t.rd ⟨o, l, w⟩ = s.rd ⟨o, l, w⟩ := by
  unfold State.rd
  rw [h.registers o hblock hsource]

/-- A record of no limited event stands at the head of the ring. -/
theorem State.aclLog_ring (s : State) (event : Nat) (data : List Byte) (hlimit : aclLimited event = false) (hwait : s.aclWaiting = false) :
    (s.aclLog event data).acl.ring.head? = some (s.aclMake event false data) := by
  have hlog : s.aclLog event data = (s.indexed event).aclPut (s.aclMake event false data) :=
    (if_pos (by unfold State.aclDue; rw [hlimit]; rfl)).trans (State.aclEnter_put (s := s.indexed event) _ hwait)
  rw [hlog, State.aclPut_ring]
  rfl

theorem Noted.twn {blocks : Nat → Bool} {s t : State} (h : Noted blocks s t) : t.twn = s.twn := by rw [h.parts]

/-! ### The commands -/

/-- The twin's line shown and held. -/
def State.peerShown (s : State) (high : Bool) : State := { s.wrBit F.TWN_STATUS.PEER_AUTH high with
  twn := { s.twn with peerLow := !high }, pin := { s.pin with peerHigh := high } }

/-- A Replica that drops its authority and waits. -/
def State.authDropped (s : State) : State :=
  ((s.clr F.TWN_STATUS.AUTH).soloWait.set1 F.TWN_ERR.BOTH_AUTH).clr F.TWN_STATUS.YIELD_PENDING

/-- The loss of the twin's heartbeats shown. -/
def State.beatLost (s : State) : State :=
  (({ s with twn := { s.twn with alive := false } } : State).set1 F.TWN_ERR.HB_LOST).source 26

section
variable {s : State}

theorem exec_twinPeerAuthChange (high : Bool) (hdemand : s.twn.demand = false) : exec (.twinPeerAuthChange high) s =
    .next (if s.saf.acting then (s.peerShown high).blankRelease else s.peerShown high).windowLow.authSettle := by
  have hlapse : ∀ v : State, v.twn.demand = false → v.demandLapse = v := fun v hv => by
    unfold State.demandLapse
    rw [if_pos (by simp [hv])]
  have heq : exec (.twinPeerAuthChange high) s =
      done (if high then (if s.saf.acting then (s.peerShown high).blankRelease else s.peerShown high).demandLapse
        else if s.saf.acting then (s.peerShown high).blankRelease else s.peerShown high).windowLow.authSettle := rfl
  rw [heq, hlapse _ (by split <;> exact hdemand), ite_self]
  rfl

theorem exec_bothAuth (hauth : s.hasAuth = true) (hpeer : s.bit F.TWN_STATUS.PEER_AUTH = true) (hmode : s.bit F.TWN_CFG.MODE = true)
    (hrole : s.bit F.TWN_CFG.ROLE = true) : exec .bothAuth s = .next (s.authDropped.twinEvent.twinRecord 4) := by
  show execBothAuth s = _
  unfold execBothAuth
  rw [if_pos (by simp [hauth, hpeer, hmode, hrole])]
  rfl

theorem exec_twinFailInHigh (high : Bool) : exec (.twinFailInHigh high) s = .next (if high && s.pairState = 3 && s.pairRuns then
    (s.wrBit F.TWN_STATUS.PEER_FAIL high).takeDemand else s.wrBit F.TWN_STATUS.PEER_FAIL high) := by
  have hstate : (s.wrBit F.TWN_STATUS.PEER_FAIL high).pairState = s.pairState := State.rd_wr_apart _ _ _ _ _ _ _ (by decide)
  have hruns : (s.wrBit F.TWN_STATUS.PEER_FAIL high).pairRuns = s.pairRuns := by
    unfold State.pairRuns State.mode State.wrBit
    rw [State.rd_wr_off _ _ _ _ _ _ _ _ (by decide)]
    rfl
  show execTwinFailInHigh high s = _
  unfold execTwinFailInHigh
  dsimp only
  rw [hstate, hruns]
  rfl

theorem exec_aloneWaitExpiry (hstate : s.pairState = 1) :
    exec .aloneWaitExpiry s = .next ({ s with twn := { s.twn with waited := true } } : State).authSettle := by
  show execAloneWaitExpiry s = _
  unfold execAloneWaitExpiry
  rw [if_pos hstate]
  rfl

theorem exec_hbLost (hmode : s.bit F.TWN_CFG.MODE = true) (halive : s.twn.alive = true) (t : State) (ht : t = s.beatLost.twinRecord 2) :
    exec .hbLost s = .next (if t.pairState = 3 && t.pairRuns && !t.bit F.TWN_STATUS.PEER_AUTH then t.takeDemand else t.leavePaired) := by
  subst ht
  show execHbLost s = _
  unfold execHbLost
  rw [if_neg (by simp [hmode, halive])]
  rfl

theorem exec_handover {b : IklBlock} (hsync : b.sync.val = 1) (hgood : iklGood 0x51 0 (iklPlain b) = true) (hstate : s.pairState = 3) :
    exec (.handover b) s =
      .next ({ s with twn := { s.twn with handover := some (fieldAt (iklPlain b) 2 2) } } : State).authSettle := by
  show execHandover b s = _
  unfold execHandover
  rw [State.iklMessage_good hsync hgood, if_pos hstate]
  rfl

theorem exec_twnYield {m : Master} (hserves : s.serves m F.TWN_CTL.YIELD.off = true) (hstate : s.pairState = 4)
    (hpeer : s.rd F.TWN_PEER_POS.STATE = 3) (hdiverged : s.twn.peerDiverged = false) :
    exec (.twnYield m) s = .next (s.set1 F.TWN_STATUS.YIELD_PENDING) := by
  show execTwnYield m s = _
  unfold execTwnYield State.yieldAsk
  rw [State.gated_serves _ _ _ _ hserves, if_pos (by simp [hstate, hpeer, hdiverged])]
  rfl

end

/-! ### What they leave -/

/-- The demand of a take-over laid down. -/
def State.undemanded (s : State) : State := { s with twn := { s.twn with demand := false } }

/-- The twin's failure shown, with the demand that it gives. -/
def State.failDemand (s : State) : State := { s.wrBit F.TWN_STATUS.PEER_FAIL true with twn := { s.twn with demand := true } }

theorem State.failDemand_spec (s : State) : s.failDemand = { s with regs := s.failDemand.regs, twn := { s.twn with demand := true } } ∧
    regsApart [F.TWN_STATUS.PEER_FAIL.off] s s.failDemand ∧ s.failDemand.rd F.TWN_STATUS.PEER_FAIL = 1 ∧
    (∀ l w, l + w ≤ 5 → s.failDemand.rd ⟨0x1D0010, l, w⟩ = s.rd ⟨0x1D0010, l, w⟩) :=
  ⟨rfl, regsApart_regs (regsApart_wr F.TWN_STATUS.PEER_FAIL 1 regsApart_refl (by decide)) rfl, State.rd_wr_same _ _ _ _ _ (by decide),
    fun _ _ hl => State.rd_wr_apart _ _ _ _ _ _ _ (.inr hl)⟩

/-- The marks of a take-over. -/
def State.overTaken (s : State) : State :=
  (((s.undemanded.assertAuth 2).set1 F.TWN_ERR.TAKEOVER).incSat F.TWN_COUNTS.TAKEOVERS).source 26

theorem State.overTaken_spec (s : State) : ∃ t, s.overTaken = t ∧ t.rd F.TWN_STATUS.AUTH = 1 ∧ t.rd F.TWN_STATUS.STATE = 2 ∧
    (∀ l w, 4 ≤ l → t.rd ⟨0x1D0010, l, w⟩ = s.rd ⟨0x1D0010, l, w⟩) ∧ t.rd F.TWN_ERR.TAKEOVER = 1 ∧
    t.rd F.TWN_COUNTS.TAKEOVERS = min (s.rd F.TWN_COUNTS.TAKEOVERS + 1) 255 ∧ t.rd (F.DOC_ROUTE.PENDING 26) = 1 ∧
    Told twinBlocks s.undemanded t := by
  obtain ⟨u, hu, hauth, hstate, -, -, hrest, hparts, hapart⟩ := s.undemanded.assertAuth_spec 2 (by decide)
  have htold : Told twinBlocks s.undemanded u := ⟨hparts, regsOutside_of_apart hapart (by decide)⟩
  refine ⟨_, rfl, ?_⟩
  unfold State.overTaken
  rw [hu, State.source_eq _ _ (by decide), State.set1_eq]
  have hoff : ∀ o l w, o ≠ 0x1D0028 → o ≠ 0x1D0030 → o ≠ 0x2002D0 →
      (((u.wr F.TWN_ERR.TAKEOVER 1).incSat F.TWN_COUNTS.TAKEOVERS).wr (F.DOC_ROUTE.PENDING 26) 1).rd ⟨o, l, w⟩ = u.rd ⟨o, l, w⟩ :=
    fun o l w h1 h2 h3 => by
      rw [State.rd_wr_off _ _ _ _ _ _ _ _ (Ne.symm h3)]
      exact (State.rd_wr_off _ _ _ _ _ _ _ _ (Ne.symm h2)).trans (State.rd_wr_off _ _ _ _ _ _ _ _ (Ne.symm h1))
  refine ⟨?_, ?_, fun l w hl => ?_, ?_, ?_, State.rd_wr_same _ _ _ _ _ (by decide), ?_⟩
  · rw [hoff _ _ _ (by decide) (by decide) (by decide), hauth]
  · rw [hoff _ _ _ (by decide) (by decide) (by decide), hstate]
  · rw [hoff _ _ _ (by decide) (by decide) (by decide), hrest l w hl]
    rfl
  · rw [State.rd_wr_off _ _ _ _ _ _ _ _ (by decide)]
    exact (State.rd_wr_off _ _ _ _ _ _ _ _ (by decide)).trans (State.rd_wr_same _ _ _ _ _ (by decide))
  · rw [State.rd_wr_off _ _ _ _ _ _ _ _ (by decide), State.rd_incSat _ _ _ _ (by decide), State.rd_wr_off _ _ _ _ _ _ _ _ (by decide),
      regsApart_rd hapart _ _ _ (by decide)]
    rfl
  · exact ((htold.wr _ _ (by decide)).incSat _ (by decide)).wr _ _ (by decide)

/-- A take-over with no leaf in progress. -/
theorem State.takeOver_spec {s : State} (hcur : s.curLeaf = none) (hend : s.twn.ownEnd = none) (hsource : s.rd F.TIM_CFG.TB1_SOURCE ≠ 1) :
    ∃ t, s.takeOver = t ∧ t.rd F.TWN_STATUS.AUTH = 1 ∧ t.rd F.TWN_STATUS.STATE = 2 ∧
      (∀ l w, 4 ≤ l → t.rd ⟨0x1D0010, l, w⟩ = s.rd ⟨0x1D0010, l, w⟩) ∧ t.rd F.TWN_ERR.TAKEOVER = 1 ∧
      t.rd F.TWN_COUNTS.TAKEOVERS = min (s.rd F.TWN_COUNTS.TAKEOVERS + 1) 255 ∧ t.rd (F.DOC_ROUTE.PENDING 26) = 1 ∧
      Noted twinBlocks s.undemanded t := by
  obtain ⟨u, hu, hauth, hstate, hrest, herr, hcount, hpend, htold⟩ := s.overTaken_spec
  have heq : s.takeOver = (s.overTaken.twinRecord 5).tb1Switch.takeRecords := rfl
  have hlog := u.twinRecord_logged 5
  rw [heq, hu]
  generalize u.twinRecord 5 = t at hlog ⊢
  have hnoted : Noted twinBlocks s.undemanded t := (Noted.of_told htold).trans (Noted.of_logged hlog (by decide) (by decide))
  have hcur' : t.curLeaf = none := by
    rw [hnoted.parts]
    exact hcur
  have hend' : t.twn.ownEnd = none := by
    rw [hnoted.twn]
    exact hend
  have htake : t.takeRecords = t := by
    unfold State.takeRecords State.takeEnded
    rw [hcur']
    dsimp only
    rw [hend']
  rw [State.tb1Switch_own (by rw [regsOutside_rd hnoted.outside _ _ _ (by decide)]; exact hsource), htake]
  refine ⟨t, rfl, ?_, ?_, fun l w hl => ?_, ?_, ?_, ?_, hnoted⟩
  · rw [hlog.rd _ _ _ (by decide) (by decide), hauth]
  · rw [hlog.rd _ _ _ (by decide) (by decide), hstate]
  · rw [hlog.rd _ _ _ (by decide) (by decide), hrest l w hl]
  · rw [hlog.rd _ _ _ (by decide) (by decide), herr]
  · rw [hlog.rd _ _ _ (by decide) (by decide), hcount]
  · rw [hlog.rd _ _ _ (by decide) (by decide), hpend]

/-- The Replica's drop of its authority, announced. -/
theorem State.authDropped_spec (s : State) : ∃ t, s.authDropped.twinEvent = t ∧
    (t.rd F.TWN_STATUS.AUTH, t.rd F.TWN_STATUS.STATE, t.rd F.TWN_STATUS.YIELD_PENDING) = (0, 1, 0) ∧ t.rd F.TWN_ERR.BOTH_AUTH = 1 ∧
    t.rd (F.DOC_ROUTE.PENDING 26) = 1 ∧
    ∀ blocks : Nat → Bool, blocks 0x1D = true → blocks 0x20 = true →
      Told blocks ({ s with twn := { s.twn with waited := false, demand := false } } : State) t := by
  have hmark : ∃ v, v = (s.clr F.TWN_STATUS.AUTH).soloWait ∧ v.rd F.TWN_STATUS.AUTH = 0 ∧ v.rd F.TWN_STATUS.STATE = 1 ∧
      ∀ blocks : Nat → Bool, blocks 0x1D = true → Told blocks ({ s with twn := { s.twn with waited := false, demand := false } } : State) v := by
    refine ⟨_, rfl, ?_, ?_, fun blocks h => ⟨rfl, ?_⟩⟩
    · refine (State.rd_wr_apart _ _ _ _ _ _ _ (by decide)).trans (State.rd_wr_same _ _ _ _ _ (by decide))
    · exact State.rd_wr_same _ _ _ _ _ (by decide)
    · exact regsOutside_wr (s := s) (t := s.clr F.TWN_STATUS.AUTH) F.TWN_STATUS.STATE 1
        (regsOutside_wr _ _ regsOutside_refl h) h
  obtain ⟨v, hv, hauth, hstate, htold⟩ := hmark
  refine ⟨_, rfl, ?_⟩
  unfold State.authDropped State.twinEvent
  rw [← hv, State.set1_eq, State.clr_eq]
  have hlater : ∀ o l w, o = 0x1D0010 → l + w ≤ 8 →
      (((v.wr F.TWN_ERR.BOTH_AUTH 1).wr F.TWN_STATUS.YIELD_PENDING 0).announce 6 26).rd ⟨o, l, w⟩ = v.rd ⟨o, l, w⟩ := fun o l w ho hl => by
    subst ho
    rw [State.rd_announce _ _ _ _ _ _ (by decide), State.rd_wr_apart _ _ _ _ _ _ _ (.inr hl), State.rd_wr_off _ _ _ _ _ _ _ _ (by decide)]
  refine ⟨?_, ?_, ?_, fun blocks h h' => (((htold blocks h).wr F.TWN_ERR.BOTH_AUTH 1 h).wr F.TWN_STATUS.YIELD_PENDING 0 h).announce _ _ h'⟩
  · rw [hlater _ _ _ rfl (by decide), hlater _ _ _ rfl (by decide), hauth, hstate, State.rd_announce _ _ _ _ _ _ (by decide),
      State.rd_wr_same _ _ _ _ _ (by decide)]
    rfl
  · rw [State.rd_announce _ _ _ _ _ _ (by decide), State.rd_wr_off _ _ _ _ _ _ _ _ (by decide), State.rd_wr_same _ _ _ _ _ (by decide)]
    rfl
  · rw [State.announce_eq _ _ _ (by decide) (by decide), State.rd_wr_same _ _ _ _ _ (by decide)]
    rfl

/-- A silent twin shown, with its record. -/
theorem State.beatLost_spec (s : State) : ∃ t, t = s.beatLost.twinRecord 2 ∧ t.rd F.TWN_ERR.HB_LOST = 1 ∧
    t.rd (F.DOC_ROUTE.PENDING 26) = 1 ∧ (∀ l w, t.rd ⟨0x1D0010, l, w⟩ = s.rd ⟨0x1D0010, l, w⟩) ∧
    Noted twinBlocks ({ s with twn := { s.twn with alive := false } } : State) t := by
  have hlog := s.beatLost.twinRecord_logged 2
  refine ⟨_, rfl, ?_, ?_, fun l w => ?_, ?_⟩
  · rw [hlog.rd _ _ _ (by decide) (by decide)]
    unfold State.beatLost
    rw [State.source_eq _ _ (by decide), State.rd_wr_off _ _ _ _ _ _ _ _ (by decide)]
    exact State.rd_wr_same _ _ _ _ _ (by decide)
  · rw [hlog.rd _ _ _ (by decide) (by decide)]
    unfold State.beatLost
    rw [State.source_eq _ _ (by decide), State.rd_wr_same _ _ _ _ _ (by decide)]
    rfl
  · rw [hlog.rd _ _ _ (by decide) (by decide)]
    unfold State.beatLost
    rw [State.source_eq _ _ (by decide), State.rd_wr_off _ _ _ _ _ _ _ _ (by decide)]
    exact State.rd_wr_off _ _ _ _ _ _ _ _ (by decide)
  · refine Noted.trans (Noted.of_told ?_) (Noted.of_logged hlog (by decide) (by decide))
    exact ((Told.refl twinBlocks _).wr _ _ (by decide)).source 26 (by decide)

/-- The twin's line shown: the window of the exposed slot, and nothing of the pair but the line. -/
theorem State.peerShown_spec (s : State) (high : Bool) : ∃ u, u = (s.peerShown high).windowLow ∧ u.bit F.TWN_STATUS.PEER_AUTH = high ∧
    u = { s with regs := u.regs, pin := { s.pin with peerHigh := high }, twn := { s.twn with peerLow := !high },
                 slt := { s.slt with window := max s.slt.window s.blankLow } } ∧
    (∀ l w, l + w ≤ 4 → u.rd ⟨0x1D0010, l, w⟩ = s.rd ⟨0x1D0010, l, w⟩) ∧ regsApart [F.TWN_STATUS.AUTH.off] s u := by
  have hlow : (s.peerShown high).blankLow = s.blankLow := by
    unfold State.blankLow
    have hoff : ∀ f : Field, f.off ≠ 0x1D0010 → (s.peerShown high).bit f = s.bit f := fun f hf => by
      unfold State.bit
      exact congrArg (· != 0) (State.rd_wr_off s F.TWN_STATUS.PEER_AUTH.off _ _ f.off f.lo f.width _ hf.symm)
    rw [hoff _ (by decide), hoff _ (by decide)]
    rfl
  refine ⟨_, rfl, ?_, ?_, fun l w hl => State.rd_wr_apart _ _ _ _ _ _ _ (.inr hl),
    regsApart_regs (regsApart_wr F.TWN_STATUS.PEER_AUTH (if high then 1 else 0) regsApart_refl (by decide)) rfl⟩
  · exact State.bit_wrBit_same s 0x1D0010 4 high (by decide)
  · unfold State.windowLow
    rw [hlow]
    rfl

/-- A status bit is 0 or 1. -/
theorem State.rd_of_bit {s : State} {o l : Nat} {b : Bool} (h : s.bit ⟨o, l, 1⟩ = b) : s.rd ⟨o, l, 1⟩ = if b then 1 else 0 := by
  have hlt := State.rd_lt s ⟨o, l, 1⟩
  subst h
  unfold State.bit
  have : s.rd ⟨o, l, 1⟩ = 0 ∨ s.rd ⟨o, l, 1⟩ = 1 := by
    change s.rd ⟨o, l, 1⟩ < 2 at hlt
    omega
  rcases this with h | h <;> simp [h]

/-- The twin's line while the Guard acts: the drive of BLANK_ALL_N is its opposite. -/
theorem exec_twinPeerAuthChange_acting {s : State} (high : Bool) (hacting : s.saf.acting = true) (hdemand : s.twn.demand = false) :
    ∃ t, exec (.twinPeerAuthChange high) s = .next t ∧ t.bit F.SAF_STATUS.BLANK_DRIVE = !high ∧ t.bit F.TWN_STATUS.PEER_AUTH = high ∧
      (t.pin.peerHigh, t.twn.peerLow) = (high, !high) ∧
      t = { s with regs := t.regs, pin := t.pin, twn := t.twn, slt := { s.slt with window := t.slt.window } } ∧
      regsApart [F.TWN_STATUS.AUTH.off, F.SAF_STATUS.BLANK_DRIVE.off] s t := by
  obtain ⟨u, hu⟩ : ∃ u, u = s.peerShown high := ⟨_, rfl⟩
  obtain ⟨w, hw⟩ : ∃ w : Nat, u.blankRelease.windowLow = { u.blankRelease with slt := { u.slt with window := w } } := ⟨_, rfl⟩
  have hbit : u.bit F.TWN_STATUS.PEER_AUTH = high := by
    rw [hu]
    exact State.bit_wrBit_same s 0x1D0010 4 high (by decide)
  have hupin : u.pin.peerHigh = high := by rw [hu]; rfl
  have huapart : regsApart [F.TWN_STATUS.AUTH.off, F.SAF_STATUS.BLANK_DRIVE.off] s u := by
    rw [hu]
    exact regsApart_regs (regsApart_wr F.TWN_STATUS.PEER_AUTH (if high then 1 else 0) regsApart_refl (by decide)) rfl
  have hrelease : u.blankRelease = u.wrBit F.SAF_STATUS.BLANK_DRIVE (!high) := by rw [← hupin]; rfl
  refine ⟨u.blankRelease.windowLow, ?_, ?_, ?_, ?_, ?_, ?_⟩
  · rw [exec_twinPeerAuthChange high hdemand, hacting, if_pos rfl, ← hu, State.authSettle_rest (.inl ?_)]
    have hact : u.saf.acting = true := by rw [hu]; exact hacting
    exact State.pairRuns_acting (s := u.blankRelease.windowLow) hact
  · rw [hw, State.bit_mk, hrelease]
    exact State.bit_wrBit_same u _ _ _ (by decide)
  · rw [hw, State.bit_mk, hrelease]
    exact (congrArg (· != 0) (State.rd_wr_off u _ _ _ _ _ _ _ (by decide))).trans hbit
  · rw [hw, hrelease, hu]
    rfl
  · rw [hw, hrelease, hu]
    rfl
  · rw [hw, hrelease]
    exact regsApart_regs (regsApart_wr _ _ huapart (by decide)) rfl

/-- Settles O43: the twin's line with the Guard at rest and in action, the lone Original, both lines high, the failure line, the waits, a
silent twin, a hand-over that is held and a yield. -/
theorem authorityPassesBetweenTwins : Obligations.AuthorityPassesBetweenTwins := by
  unfold Obligations.AuthorityPassesBetweenTwins
  refine ⟨fun s hacting hdemand => ?_, fun s high hacting hdemand => ?_, fun s hruns hauth hmode hrole hstate hdemand hsource => ?_,
    fun s hauth hpeer hmode hrole hwait => ?_, fun s high hno => ?_, fun s hstate hruns hlow hauth hmode hcur hend hsource => ?_,
    fun s hstate hruns hlow => ?_, fun s hruns hlow hauth hmode hstate hsource => ?_, fun s hmode halive hstate => ?_,
    fun s hmode halive hstate hruns hpeer hlow => ?_, fun s b hsync hgood hstate hlow => ?_,
    fun s m hserves hstate hpeer hdiverged => ?_⟩
  · obtain ⟨u, hu, hbit, hparts, -, hapart⟩ := s.peerShown_spec true
    refine ⟨u, ?_, ?_, hparts, hapart⟩
    · rw [exec_twinPeerAuthChange true hdemand, hacting, if_neg Bool.false_ne_true, ← hu,
        State.authSettle_rest (.inr (.inl (by rw [hparts]; rfl)))]
    · have h := State.rd_lt u F.TWN_STATUS.PEER_AUTH
      have h' := (State.bit_iff _ _).mp hbit
      change u.rd F.TWN_STATUS.PEER_AUTH < 2 at h
      omega
  · exact exec_twinPeerAuthChange_acting high hacting hdemand
  · obtain ⟨u, hu, hbit, hparts, hrest, hapart⟩ := s.peerShown_spec false
    have hutwn : u.twn = { s.twn with peerLow := true } := by rw [hparts]; rfl
    have hacting : s.saf.acting = false := by simpa [State.pairRuns] using (Bool.and_eq_true_iff.mp hruns).2
    have huruns : u.pairRuns = true := by
      rw [← hruns]
      unfold State.pairRuns State.mode
      rw [regsApart_rd hapart _ _ _ (by decide), show u.saf = s.saf by rw [hparts]]
    have hulone : u.authSettle = u.assertAuth 2 := by
      refine State.authSettle_alone huruns (by rw [hutwn]) ?_ ?_ ?_ (.inl ?_) ?_
      · exact (congrArg (· != 0) (hrest 3 1 (by decide))).trans hauth
      · exact (congrArg (· != 0) (regsApart_rd hapart _ _ _ (by decide))).trans hmode
      · exact (hrest 0 3 (by decide)).trans hstate
      · exact (congrArg (· != 0) (regsApart_rd hapart _ _ _ (by decide))).trans hrole
      · rwa [regsApart_rd hapart _ _ _ (by decide)]
    obtain ⟨t, ht, hauth', hstate', hpend, hdue, hhigh, hparts', hapart'⟩ := u.assertAuth_spec 2 (by decide)
    refine ⟨t, ?_, ?_, ?_, hpend, hdue, ?_, ?_⟩
    · rw [exec_twinPeerAuthChange false hdemand, hacting, if_neg Bool.false_ne_true, ← hu, hulone, ht]
    · rw [hauth', hstate', hhigh 4 1 (by decide), State.rd_of_bit hbit]
      rfl
    · rw [hparts', hutwn]
    · exact regsApart_trans (regsApart_mono hapart (by simp)) hapart'
    · rw [hparts', hparts]
  · obtain ⟨u, hu, hstatus, herr, hpend, htold⟩ := s.authDropped_spec
    have hlog := u.twinRecord_logged 4
    have hnoted := (Noted.of_told (htold twinBlocks rfl rfl)).trans (Noted.of_logged hlog (by decide) (by decide))
    replace htold := htold (fun b => b = 0x1D || b = 0x20) rfl rfl
    have hring : (u.twinRecord 4).acl.ring.head? = some (s.aclMake 0x0601 false (leBytes 2 4 ++ leBytes 2 (s.rd F.SLT_SLOT.LEAF) ++
        leBytes 4 (unsigned 32 s.slt.decided))) := by
      have hmake : ∀ data, u.aclMake 0x0601 false data = s.aclMake 0x0601 false data := fun data => by
        unfold State.aclMake
        rw [regsOutside_rd htold.outside _ _ _ (by decide), htold.parts]
        rfl
      unfold State.twinRecord
      rw [State.aclLog_ring _ _ _ (by decide) ?_, hmake, regsOutside_rd htold.outside _ _ _ (by decide),
        show u.slt = s.slt by rw [htold.parts]]
      · rfl
      · rw [← hwait]
        unfold State.aclWaiting State.bit
        rw [regsOutside_rd htold.outside _ _ _ (by decide), htold.parts]
        rfl
    refine ⟨u.twinRecord 4, by rw [exec_bothAuth hauth hpeer hmode hrole, hu], ?_, ?_, hring, ?_, ?_, hnoted.outside⟩
    · rw [hlog.rd _ _ _ (by decide) (by decide), hlog.rd _ _ _ (by decide) (by decide), hlog.rd _ _ _ (by decide) (by decide), hstatus]
    · rw [hlog.rd _ _ _ (by decide) (by decide), herr]
    · rw [hlog.rd _ _ _ (by decide) (by decide), hpend]
    · rw [hnoted.parts]
  · refine ⟨s.wrBit F.TWN_STATUS.PEER_FAIL high, ?_, State.bit_wrBit_same _ _ _ _ (by decide), rfl, regsApart_wr _ _ regsApart_refl (by decide)⟩
    rw [exec_twinFailInHigh, if_neg]
    rcases hno with h | h <;> simp [h]
  · obtain ⟨honly, hapart, hfail, hlow3⟩ := s.failDemand_spec
    obtain ⟨t, ht, hauth', hstate', hrest, herr, hcount, hpend, hnoted⟩ := State.takeOver_spec (s := s.failDemand) hcur hend
      (by rwa [regsApart_rd hapart _ _ _ (by decide)])
    refine ⟨t, ?_, ?_, herr, ?_, ?_, hpend, ?_, ?_⟩
    · have hruns' : s.failDemand.pairRuns = true := by
        rw [← hruns]
        unfold State.pairRuns State.mode
        rw [regsApart_rd hapart _ _ _ (by decide)]
        rfl
      have htake : s.failDemand.authSettle = s.failDemand.takeOver :=
        State.authSettle_demand hruns' hlow ((congrArg (· != 0) (hlow3 3 1 (by decide))).trans hauth)
          ((congrArg (· != 0) (regsApart_rd hapart _ _ _ (by decide))).trans hmode) ((hlow3 0 3 (by decide)).trans hstate) rfl
      rw [exec_twinFailInHigh, if_pos (by simp [hstate, hruns]), ← ht, ← htake]
      rfl
    · rw [hauth', hstate', hrest 5 1 (by decide), hfail]
    · rw [hcount, regsApart_rd hapart _ _ _ (by decide)]
    · rw [hnoted.twn]
      rfl
    · exact regsOutside_trans (regsOutside_of_apart hapart (by decide)) hnoted.outside
    · rw [hnoted.parts]
      rfl
  · obtain ⟨-, hapart, hfail, -⟩ := s.failDemand_spec
    refine ⟨s.failDemand, ?_, hfail, rfl, hapart⟩
    rw [exec_twinFailInHigh, if_pos (by simp [hstate, hruns])]
    exact congrArg Host.Outcome.next (State.authSettle_rest (.inr (.inl hlow)))
  · obtain ⟨t, ht, hauth', hstate', hpend, hdue, hhigh, hparts', hapart'⟩ :=
      ({ s with twn := { s.twn with waited := true } } : State).assertAuth_spec 2 (by decide)
    refine ⟨t, ?_, by rw [hauth', hstate'], hparts', hapart'⟩
    have hlone := State.authSettle_alone (s := { s with twn := { s.twn with waited := true } }) hruns hlow hauth hmode hstate (.inr rfl) hsource
    exact (exec_aloneWaitExpiry hstate).trans (congrArg Host.Outcome.next (hlone.trans ht))
  · obtain ⟨t, ht, herr, hpend, hstatus, hnoted⟩ := s.beatLost_spec
    have hstate' : t.pairState = 4 := (hstatus 0 3).trans hstate
    refine ⟨t.wr F.TWN_STATUS.STATE 2, ?_, State.rd_wr_same _ _ _ _ _ (by decide), ?_, ?_, hnoted.twn, ?_, ?_, ?_⟩
    · rw [exec_hbLost hmode halive t ht, if_neg (by simp [hstate'])]
      unfold State.leavePaired
      rw [if_pos hstate']
    · rw [State.rd_wr_off _ _ _ _ _ _ _ _ (by decide), herr]
    · rw [State.rd_wr_off _ _ _ _ _ _ _ _ (by decide), hpend]
    · rw [State.rd_wr_apart _ _ _ _ _ _ _ (by decide), hstatus 3 1]
    · exact regsOutside_wr _ _ hnoted.outside (by decide)
    · show _ = ({ s with regs := (t.wr F.TWN_STATUS.STATE 2).regs, hif := { s.hif with due := t.hif.due }, twn := t.twn, acl := t.acl, ikl := t.ikl } : State)
      generalize hr : (t.wr F.TWN_STATUS.STATE 2).regs = regs
      have : t.wr F.TWN_STATUS.STATE 2 = { t with regs := regs } := by rw [← hr]; rfl
      rw [this, hnoted.parts]
  · obtain ⟨t, ht, herr, hpend, hstatus, hnoted⟩ := s.beatLost_spec
    have hstate' : t.pairState = 3 := (hstatus 0 3).trans hstate
    have hruns' : t.pairRuns = true := by
      rw [← hruns]
      unfold State.pairRuns State.mode
      rw [regsOutside_rd hnoted.outside _ _ _ (by decide), show t.saf = s.saf by rw [hnoted.parts]]
      rfl
    have hpeer' : t.bit F.TWN_STATUS.PEER_AUTH = false := (congrArg (· != 0) (hstatus 4 1)).trans hpeer
    have hlow' : t.twn.peerLow = false := by rw [hnoted.twn]; exact hlow
    refine ⟨{ t with twn := { t.twn with demand := true } }, ?_, hstate', herr, ?_, hnoted.outside, ?_⟩
    · rw [exec_hbLost hmode halive t ht, if_pos (by simp [hstate', hruns', hpeer'])]
      exact congrArg Host.Outcome.next (State.authSettle_rest (.inr (.inl hlow')))
    · rw [hnoted.parts]
    · rw [hnoted.parts]
  · refine ⟨_, (exec_handover hsync hgood hstate).trans (congrArg Host.Outcome.next (State.authSettle_rest (.inr (.inl ?_)))), rfl⟩
    exact hlow
  · exact ⟨_, exec_twnYield hserves hstate hpeer hdiverged, State.rd_wr_same _ _ _ _ _ (by decide), rfl,
      regsApart_wr _ _ regsApart_refl (by decide)⟩

end Sys2Proof.Machine
end

section
/-! SUPPORT. The auxiliary axes: the start of a command, its steps and its end (R241 to R249). -/
namespace Sys2Proof.Machine

/-! ### Axes and numbers -/

theorem unsigned_signed (w v : Nat) (hv : v < 2 ^ w) : unsigned w (signed w v) = v := by
  have hcast : ((2 ^ w : Nat) : Int) = 2 ^ w := by norm_cast
  unfold unsigned signed
  rw [Nat.mod_eq_of_lt hv]
  dsimp only
  split
  · rw [← hcast, ← Int.natCast_mod, Nat.mod_eq_of_lt hv, Int.toNat_natCast]
  · rw [← hcast, Int.sub_emod, Int.emod_self, Int.sub_zero, Int.emod_emod_of_dvd _ (dvd_refl _), ← Int.natCast_mod, Nat.mod_eq_of_lt hv,
      Int.toNat_natCast]

theorem mem_maskAxes (m a : Nat) : a ∈ maskAxes m ↔ a < 6 ∧ m / 2 ^ a % 2 = 1 := by
  unfold maskAxes axes
  rw [List.mem_filter]
  simp only [List.mem_cons, List.not_mem_nil, or_false, decide_eq_true_eq]
  constructor
  · exact fun h => ⟨by omega, h.2⟩
  · exact fun h => ⟨by omega, h.2⟩

theorem nodup_maskAxes (m : Nat) : (maskAxes m).Nodup := List.Nodup.filter _ (by decide)

theorem maskAxes_two_pow (a : Fin 6) : maskAxes (2 ^ a.val) = [a.val] := by
  revert a
  decide

/-- A register of the positions of the six axes. -/
def posRegs : List Nat := axes.map (fun a => 0x1B0300 + 0x8 * a)

theorem mem_posRegs (o : Nat) : o ∈ posRegs ↔ ∃ a, a < 6 ∧ o = 0x1B0300 + 0x8 * a := by
  unfold posRegs axes
  rw [List.mem_map]
  constructor
  · rintro ⟨a, ha, rfl⟩
    simp only [List.mem_cons, List.not_mem_nil, or_false] at ha
    exact ⟨a, by omega, rfl⟩
  · rintro ⟨a, ha, rfl⟩
    refine ⟨a, ?_, rfl⟩
    simp only [List.mem_cons, List.not_mem_nil, or_false]
    omega

/-- A step that changes the axes and nothing else. -/
def AxisStep (s t : State) : Prop := t = { s with regs := t.regs, axm := t.axm }

theorem AxisStep.trans {s t u : State} (h : AxisStep s t) (h' : AxisStep t u) : AxisStep s u := by
  unfold AxisStep at *
  rw [h', h]

/-! ### The end of a command -/

/-- The axes of a list no longer shown moving. -/
theorem movingClear_spec (l : List Nat) (s : State) (hl : ∀ a ∈ l, a < 6) :
    ∃ t, l.foldl (fun s a => s.clr (F.AXM_POS.MOVING a)) s = t ∧ RegsOnly s t ∧ (∀ o, (∀ a ∈ l, o ≠ 0x1B0300 + 0x8 * a) → t.reg o = s.reg o) ∧
      (∀ o lo w, lo + w ≤ 33 ∨ 34 ≤ lo → t.rd ⟨o, lo, w⟩ = s.rd ⟨o, lo, w⟩) ∧ (∀ a ∈ l, t.rd (F.AXM_POS.MOVING a) = 0) ∧
      (∀ a, s.rd (F.AXM_POS.MOVING a) = 0 → t.rd (F.AXM_POS.MOVING a) = 0) := by
  induction l generalizing s with
  | nil => exact ⟨s, rfl, rfl, fun _ _ => rfl, fun _ _ _ _ => rfl, fun _ h => absurd h (by simp), fun _ h => h⟩
  | cons b l ih =>
    obtain ⟨t, ht, honly, hregs, hfields, hzero, hstay⟩ := ih (s.clr (F.AXM_POS.MOVING b)) (fun a ha => hl a (List.mem_cons_of_mem _ ha))
    have hb : (s.clr (F.AXM_POS.MOVING b)).rd (F.AXM_POS.MOVING b) = 0 := State.rd_wr_same _ _ _ _ _ (by decide)
    refine ⟨t, ht, RegsOnly.trans (t := s.clr (F.AXM_POS.MOVING b)) rfl honly, fun o ho => ?_, fun o lo w hlo => ?_, fun a ha => ?_, fun a ha => hstay a ?_⟩
    · rw [hregs o (fun a ha => ho a (List.mem_cons_of_mem _ ha))]
      exact State.reg_wr_ne _ _ _ _ (ho b List.mem_cons_self)
    · rw [hfields o lo w hlo]
      by_cases hob : o = 0x1B0300 + 0x8 * b
      · subst hob
        exact State.rd_wr_apart _ _ _ _ _ _ _ (by omega)
      · exact State.rd_wr_off _ _ _ _ _ _ _ _ (Ne.symm hob)
    · rcases List.mem_cons.mp ha with rfl | ha
      · exact hstay a hb
      · exact hzero a ha
    · by_cases hab : a = b
      · rw [hab, hb]
      · refine (State.rd_wr_off _ _ _ _ _ _ _ _ ?_).trans ha
        omega

/-- The end of a command. -/
theorem State.axDone_spec (s : State) : ∃ t, s.axDone = t ∧ t.axm = { s.axm with run := none } ∧ t.rd F.AXM_STATUS.STATE = 0 ∧
    t.rd F.AXM_COUNTS.COMMANDS = min (s.rd F.AXM_COUNTS.COMMANDS + 1) (2 ^ 16 - 1) ∧ t.rd (F.DOC_ROUTE.PENDING 15) = 1 ∧ AxisStep s t ∧
    (∀ o, o ∉ [F.AXM_STATUS.STATE.off, F.AXM_COUNTS.COMMANDS.off, (F.DOC_ROUTE.PENDING 15).off] →
      (∀ a ∈ s.axRunning, o ≠ 0x1B0300 + 0x8 * a) → t.reg o = s.reg o) ∧
    (∀ a lo w, a < 6 → lo + w ≤ 33 ∨ 34 ≤ lo → t.rd ⟨0x1B0300 + 0x8 * a, lo, w⟩ = s.rd ⟨0x1B0300 + 0x8 * a, lo, w⟩) ∧
    (∀ a ∈ s.axRunning, t.rd (F.AXM_POS.MOVING a) = 0) := by
  have hrunning : ∀ a ∈ s.axRunning, a < 6 := fun a ha => by
    unfold State.axRunning at ha
    split at ha
    · exact absurd ha (by simp)
    · exact ((mem_maskAxes _ _).mp ha).1
  obtain ⟨u, hu, honly, hregs, hfields, hzero, -⟩ := movingClear_spec s.axRunning s hrunning
  have heq : s.axDone = ((({ u with axm := { u.axm with run := none } } : State).wr F.AXM_STATUS.STATE 0).incSat
      F.AXM_COUNTS.COMMANDS).wr (F.DOC_ROUTE.PENDING 15) 1 := by
    unfold State.axDone
    rw [hu]
    exact State.source_eq _ _ (by decide)
  have haxm : u.axm = s.axm := by rw [honly]
  generalize hv : ({ u with axm := { u.axm with run := none } } : State) = v at heq
  have hvreg : ∀ o, v.reg o = u.reg o := fun o => by rw [← hv]; rfl
  have hvrd : ∀ f, v.rd f = u.rd f := fun f => by rw [← hv]; rfl
  have hvaxm : v.axm = { s.axm with run := none } := by rw [← hv, ← haxm]
  have hvparts : AxisStep s v := by
    rw [← hv, honly]
    rfl
  have hrest : ∀ o lo w, o ≠ 0x1B0250 → o ≠ 0x1B0408 → o ≠ 0x200278 →
      (((v.wr F.AXM_STATUS.STATE 0).incSat F.AXM_COUNTS.COMMANDS).wr (F.DOC_ROUTE.PENDING 15) 1).rd ⟨o, lo, w⟩ = v.rd ⟨o, lo, w⟩ :=
    fun o lo w h1 h2 h3 => by
      rw [State.rd_wr_off _ _ _ _ _ _ _ _ (Ne.symm h3)]
      exact (State.rd_wr_off _ _ _ _ _ _ _ _ (Ne.symm h2)).trans (State.rd_wr_off _ _ _ _ _ _ _ _ (Ne.symm h1))
  refine ⟨_, heq, hvaxm, ?_, ?_, State.rd_wr_same _ _ _ _ _ (by decide), hvparts.trans rfl, fun o ho hrun => ?_, fun a lo w ha hlo => ?_,
    fun a ha => ?_⟩
  · rw [State.rd_wr_off _ _ _ _ _ _ _ _ (by decide)]
    exact (State.rd_wr_off _ _ _ _ _ _ _ _ (by decide)).trans (State.rd_wr_same _ _ _ _ _ (by decide))
  · rw [State.rd_wr_off _ _ _ _ _ _ _ _ (by decide), State.rd_incSat _ _ _ _ (by decide), State.rd_wr_off _ _ _ _ _ _ _ _ (by decide), hvrd]
    unfold State.rd
    rw [hregs]
    intro a ha
    have := hrunning a ha
    show (0x1B0408 : Nat) ≠ _
    omega
  · simp only [List.mem_cons, List.not_mem_nil, or_false, not_or] at ho
    obtain ⟨h1, h2, h3⟩ := ho
    rw [State.reg_wr_ne _ _ _ _ h3]
    refine (State.reg_wr_ne _ _ _ _ h2).trans ((State.reg_wr_ne _ _ _ _ h1).trans ?_)
    rw [hvreg, hregs o hrun]
  · rw [hrest (0x1B0300 + 0x8 * a) _ _ (by omega) (by omega) (by omega), hvrd, hfields _ _ _ hlo]
  · have := hrunning a ha
    rw [hrest (0x1B0300 + 0x8 * a) _ _ (by omega) (by omega) (by omega), hvrd, hzero a ha]

/-! ### The start of a command -/

/-- A direction touches neither the running command nor the queue. -/
theorem State.axDir_parts (s : State) (a : Nat) (up : Bool) (wait : Nat) :
    ∃ x : AxmSt, s.axDir a up wait = { s with axm := x } ∧ x.run = s.axm.run ∧ x.queue = s.axm.queue := by
  unfold State.axDir
  dsimp only
  split
  · exact ⟨s.axm, rfl, rfl, rfl⟩
  · exact ⟨_, rfl, rfl, rfl⟩

/-- The axes of a list enabled, shown moving and given their direction. -/
theorem movingSet_spec (up : Nat → Bool) (l : List Nat) (s : State) (hl : ∀ a ∈ l, a < 6) :
    ∃ t, l.foldl (fun s a => ((s.axEna a false).set1 (F.AXM_POS.MOVING a)).axDir a (up a) 0) s = t ∧ AxisStep s t ∧
      t.axm.run = s.axm.run ∧ t.axm.queue = s.axm.queue ∧ (∀ o, o ∉ posRegs → t.reg o = s.reg o) ∧
      (∀ o lo w, lo + w ≤ 33 ∨ 34 ≤ lo → t.rd ⟨o, lo, w⟩ = s.rd ⟨o, lo, w⟩) ∧
      (∀ a, t.bit (F.AXM_POS.MOVING a) = (s.bit (F.AXM_POS.MOVING a) || decide (a ∈ l))) := by
  induction l generalizing s with
  | nil => exact ⟨s, rfl, rfl, rfl, rfl, fun _ _ => rfl, fun _ _ _ _ => rfl, fun a => by simp⟩
  | cons b l ih =>
    have hone : ∃ x : AxmSt, ((s.axEna b false).set1 (F.AXM_POS.MOVING b)).axDir b (up b) 0 =
        { s.set1 (F.AXM_POS.MOVING b) with axm := x } ∧ x.run = s.axm.run ∧ x.queue = s.axm.queue := by
      obtain ⟨x, hx, hrun, hqueue⟩ := ((s.axEna b false).set1 (F.AXM_POS.MOVING b)).axDir_parts b (up b) 0
      exact ⟨x, hx, hrun, hqueue⟩
    obtain ⟨x, hx, hrun, hqueue⟩ := hone
    obtain ⟨t, ht, hstep, htrun, htqueue, hregs, hfields, hmoving⟩ := ih { s.set1 (F.AXM_POS.MOVING b) with axm := x }
      (fun a ha => hl a (List.mem_cons_of_mem _ ha))
    refine ⟨t, ?_, AxisStep.trans (t := { s.set1 (F.AXM_POS.MOVING b) with axm := x }) rfl hstep, htrun.trans hrun, htqueue.trans hqueue,
      fun o ho => ?_, fun o lo w hlo => ?_, fun a => ?_⟩
    · rw [List.foldl_cons, hx, ht]
    · rw [hregs o ho, State.reg_mk]
      refine State.reg_wr_ne _ _ _ _ (fun hb => ho ?_)
      exact (mem_posRegs o).mpr ⟨b, hl b List.mem_cons_self, hb⟩
    · rw [hfields o lo w hlo, State.rd_mk]
      by_cases hob : o = 0x1B0300 + 0x8 * b
      · subst hob
        exact State.rd_wr_apart _ _ _ _ _ _ _ (by omega)
      · exact State.rd_wr_off _ _ _ _ _ _ _ _ (Ne.symm hob)
    · have hbit : ({ s.set1 (F.AXM_POS.MOVING b) with axm := x } : State).bit (F.AXM_POS.MOVING a) =
          (s.bit (F.AXM_POS.MOVING a) || decide (a = b)) := by
        rw [State.bit_mk]
        by_cases hab : a = b
        · subst hab
          exact (State.bit_wrBit_same s (0x1B0300 + 0x8 * a) 33 true (by decide)).trans (by simp)
        · simp only [hab, decide_false, Bool.or_false]
          exact congrArg (· != 0) (State.rd_wr_off _ _ _ _ _ _ _ _ (by omega))
      rw [hmoving, hbit, Bool.or_assoc]
      congr 1
      rw [← Bool.decide_or]
      simp

/-- A command put in force. -/
theorem State.axBegin_spec (s : State) (r : AxRun) : ∃ t, s.axBegin r = t ∧
    t.axm.run = some { r with reload := s.rd F.AXM_TIMING.DIR_SETUP } ∧ t.axm.queue = s.axm.queue ∧ t.rd F.AXM_STATUS.STATE = 1 ∧
    AxisStep s t ∧ (∀ o, o ≠ F.AXM_STATUS.STATE.off → (o ∉ posRegs ∨ r.mask = 0) → t.reg o = s.reg o) ∧
    (∀ o lo w, o ≠ 0x1B0250 ∨ 3 ≤ lo → lo + w ≤ 33 ∨ 34 ≤ lo → t.rd ⟨o, lo, w⟩ = s.rd ⟨o, lo, w⟩) ∧
    (∀ a, a < 6 → t.bit (F.AXM_POS.MOVING a) = (s.bit (F.AXM_POS.MOVING a) || decide (r.mask / 2 ^ a % 2 = 1))) := by
  obtain ⟨x, hx⟩ : ∃ x : AxmSt, x = { s.axm with run := some { r with reload := s.rd F.AXM_TIMING.DIR_SETUP } } := ⟨_, rfl⟩
  obtain ⟨t, ht, hstep, hrun, hqueue, hregs, hfields, hmoving⟩ := movingSet_spec (fun a => decide (0 ≤ r.delta.getD a 0)) (maskAxes r.mask)
    { s with axm := x } (fun a ha => ((mem_maskAxes _ _).mp ha).1)
  have heq : s.axBegin r = t.wr F.AXM_STATUS.STATE 1 := by
    rw [← ht, hx]
    rfl
  refine ⟨_, heq, ?_, ?_, State.rd_wr_same _ _ _ _ _ (by decide), ?_, fun o ho hmask => ?_, fun o lo w ho hlo => ?_, fun a ha => ?_⟩
  · exact hrun.trans (by rw [hx])
  · exact hqueue.trans (by rw [hx])
  · exact (AxisStep.trans (s := s) (t := { s with axm := x }) rfl hstep).trans rfl
  · rw [State.reg_wr_ne _ _ _ _ ho]
    rcases hmask with hmask | hmask
    · exact hregs o hmask
    · rw [← ht, hmask]
      rfl
  · refine Eq.trans ?_ (hfields o lo w hlo)
    by_cases hob : o = 0x1B0250
    · subst hob
      exact State.rd_wr_apart _ _ _ _ _ _ _ (by omega)
    · exact State.rd_wr_off _ _ _ _ _ _ _ _ (Ne.symm hob)
  · have hwr : (t.wr F.AXM_STATUS.STATE 1).bit (F.AXM_POS.MOVING a) = t.bit (F.AXM_POS.MOVING a) :=
      congrArg (· != 0) (State.rd_wr_off _ _ _ _ _ _ _ _ (by omega))
    rw [hwr, hmoving, State.bit_mk]
    congr 1
    rw [decide_eq_decide, mem_maskAxes]
    exact ⟨And.right, fun h => ⟨ha, h⟩⟩

/-! ### The steps of a move -/

/-- One step emitted by an axis that no limit holds. -/
def State.emitted (s : State) (a : Nat) (up : Bool) : State :=
  { s.wrInt (F.AXM_POS.POS a) (s.rdInt (F.AXM_POS.POS a) + (if up then 1 else -1)) with
    axm := { s.axm with pulse := s.axm.pulse.set a (some s.cycle) } }

theorem State.axEmit_free {s : State} {a : Nat} (up : Bool) (ha : a < 6) (haway : s.axm.away = [0, 0, 0, 0, 0, 0])
    (hlimp : s.bit (F.AXM_POS.LIMP a) = false) (hlimm : s.bit (F.AXM_POS.LIMM a) = false) : s.axEmit a up = s.emitted a up := by
  have hkept : ∀ lo, 32 ≤ lo → (s.wrInt (F.AXM_POS.POS a) (s.rdInt (F.AXM_POS.POS a) + (if up then 1 else -1))).bit ⟨0x1B0300 + 0x8 * a, lo, 1⟩ =
      s.bit ⟨0x1B0300 + 0x8 * a, lo, 1⟩ := fun lo hlo => congrArg (· != 0) (State.rd_wr_apart _ _ _ _ _ _ _ (.inl hlo))
  have hset : ([0, 0, 0, 0, 0, 0] : List Nat).set a 0 = [0, 0, 0, 0, 0, 0] := by
    interval_cases a <;> rfl
  have hget : ([0, 0, 0, 0, 0, 0] : List Nat).getD a 0 = 0 := by
    interval_cases a <;> rfl
  unfold State.axEmit State.emitted
  dsimp only
  rw [hkept 34 (by decide), hkept 35 (by decide), hlimp, hlimm, ite_self, if_neg Bool.false_ne_true]
  generalize hu : s.wrInt (F.AXM_POS.POS a) (s.rdInt (F.AXM_POS.POS a) + (if up then 1 else -1)) = u
  have haxm : u.axm = s.axm := by rw [← hu]; rfl
  have hcycle : u.cycle = s.cycle := by rw [← hu]; rfl
  rw [haxm, hcycle, haway, hget, hset, ← haway]

/-- The steps of the axes of a list. -/
theorem emitted_spec (up : Nat → Bool) (l : List Nat) (s : State) (hnodup : l.Nodup) (hl : ∀ a ∈ l, a < 6)
    (haway : s.axm.away = [0, 0, 0, 0, 0, 0]) (hpulse : s.axm.pulse.length = 6)
    (hlimits : ∀ a, a < 6 → s.bit (F.AXM_POS.LIMP a) = false ∧ s.bit (F.AXM_POS.LIMM a) = false) :
    ∃ t, l.foldl (fun s a => s.axEmit a (up a)) s = t ∧ AxisStep s t ∧
      (∃ p, t.axm = { s.axm with pulse := p } ∧ ∀ a, p.getD a none = if a ∈ l then some s.cycle else s.axm.pulse.getD a none) ∧
      (∀ o, o ∉ posRegs → t.reg o = s.reg o) ∧
      (∀ a, a < 6 → t.rd (F.AXM_POS.POS a) = if a ∈ l then unsigned 32 (s.rdInt (F.AXM_POS.POS a) + (if up a then 1 else -1))
        else s.rd (F.AXM_POS.POS a)) := by
  induction l generalizing s with
  | nil => exact ⟨s, rfl, rfl, ⟨_, rfl, fun a => by simp⟩, fun _ _ => rfl, fun a _ => by simp⟩
  | cons b l ih =>
    obtain ⟨hbl, hnodup⟩ := List.nodup_cons.mp hnodup
    have hb : b < 6 := hl b List.mem_cons_self
    have hemit := State.axEmit_free (up b) hb haway (hlimits b hb).1 (hlimits b hb).2
    obtain ⟨u, hu⟩ : ∃ u, u = s.emitted b (up b) := ⟨_, rfl⟩
    have hustep : AxisStep s u := by rw [hu]; rfl
    have huaxm : u.axm = { s.axm with pulse := s.axm.pulse.set b (some s.cycle) } := by rw [hu]; rfl
    have hureg : ∀ o, o ≠ 0x1B0300 + 0x8 * b → u.reg o = s.reg o := fun o ho => by
      rw [hu]
      exact State.reg_wr_ne s (F.AXM_POS.POS b) _ o ho
    have huoff : ∀ o lo w, o ≠ 0x1B0300 + 0x8 * b ∨ 32 ≤ lo → u.rd ⟨o, lo, w⟩ = s.rd ⟨o, lo, w⟩ := fun o lo w ho => by
      rw [hu]
      by_cases hob : o = 0x1B0300 + 0x8 * b
      · subst hob
        exact State.rd_wr_apart _ _ _ _ _ _ _ (by omega)
      · exact State.rd_wr_off _ _ _ _ _ _ _ _ (Ne.symm hob)
    have hupos : u.rd (F.AXM_POS.POS b) = unsigned 32 (s.rdInt (F.AXM_POS.POS b) + (if up b then 1 else -1)) := by
      rw [hu]
      exact State.rd_wrInt_same s _ _ _ _ (by decide)
    have hucycle : u.cycle = s.cycle := by rw [hustep]
    obtain ⟨t, ht, hstep, ⟨p, hp, hpget⟩, hregs, hpos⟩ := ih u hnodup (fun a ha => hl a (List.mem_cons_of_mem _ ha)) (by rw [huaxm, haway])
      (by rw [huaxm]; simpa using hpulse) (fun a ha => by
        obtain ⟨h1, h2⟩ := hlimits a ha
        exact ⟨(congrArg (· != 0) (huoff _ _ _ (.inr (by decide)))).trans h1, (congrArg (· != 0) (huoff _ _ _ (.inr (by decide)))).trans h2⟩)
    refine ⟨t, ?_, hustep.trans hstep, ⟨p, by rw [hp, huaxm], fun a => ?_⟩, fun o ho => ?_, fun a ha => ?_⟩
    · rw [List.foldl_cons, hemit, ← hu, ht]
    · rw [hpget a, hucycle, huaxm]
      by_cases hal : a ∈ l
      · simp [hal]
      · by_cases hab : a = b
        · subst hab
          simp [hal, List.getD_eq_getElem?_getD, hpulse, hb]
        · simp [hal, hab, List.getD_eq_getElem?_getD, Ne.symm hab]
    · rw [hregs o ho]
      exact hureg o (fun hob => ho ((mem_posRegs o).mpr ⟨b, hb, hob⟩))
    · rw [hpos a ha]
      by_cases hab : a = b
      · subst hab
        rw [if_neg hbl, if_pos List.mem_cons_self, hupos]
      · have hrd : u.rd (F.AXM_POS.POS a) = s.rd (F.AXM_POS.POS a) := huoff _ _ _ (.inl (by omega))
        have hint : u.rdInt (F.AXM_POS.POS a) = s.rdInt (F.AXM_POS.POS a) := congrArg (signed 32) hrd
        rw [hrd, hint]
        simp [hab]

end Sys2Proof.Machine
end

section
/-! SUPPORT. The commands of the auxiliary axes (R244 to R247). -/
namespace Sys2Proof.Machine

/-! ### The commands -/

section
variable {s : State} {m : Master} {ws : List Word} {rest : List (List Word)} {r : AxRun}

theorem exec_axmPush_discarded {stop : Bool} (hserves : s.serves m F.AXM_PUSH.PUSH.off = true)
    (h : 16 ≤ s.axm.queue.length ∨ s.rd F.AXM_STATUS.STATE = 2 ∨ s.rd F.AXM_STATUS.STATE = 3 ∨ stop = true) :
    exec (.axmPush m stop) s = .next (s.incSat F.AXM_COUNTS.DISCARDED) := by
  show execAxmPush m stop s = _
  unfold execAxmPush
  rw [State.gated_serves _ _ _ _ hserves, if_pos (by rcases h with h | h | h | h <;> simp [h])]
  rfl

/-- A command queued. -/
def State.axPushed (s : State) (ws : List Word) : State :=
  ({ s with axm := { s.axm with queue := s.axm.queue ++ [ws] } } : State).wr F.AXM_STATUS.QUEUED (s.axm.queue ++ [ws]).length

theorem exec_axmPush_taken {stop : Bool} (hserves : s.serves m F.AXM_PUSH.PUSH.off = true)
    (h : ¬ (16 ≤ s.axm.queue.length ∨ s.rd F.AXM_STATUS.STATE = 2 ∨ s.rd F.AXM_STATUS.STATE = 3 ∨ stop = true)) :
    exec (.axmPush m stop) s = .next (s.axPushed ((List.range 6).map (fun w => s.reg (0x1B0210 + 8 * w)))) := by
  obtain ⟨h1, h2, h3, h4⟩ : ¬ 16 ≤ s.axm.queue.length ∧ ¬ s.rd F.AXM_STATUS.STATE = 2 ∧ ¬ s.rd F.AXM_STATUS.STATE = 3 ∧ ¬ stop = true := by
    simpa only [not_or] using h
  show execAxmPush m stop s = _
  unfold execAxmPush
  rw [State.gated_serves _ _ _ _ hserves, if_neg (by simp [h1, h2, h3, h4])]
  rfl

/-- The command at the head of the queue taken from it. -/
def State.axPopped (s : State) (ws : List Word) (rest : List (List Word)) : State :=
  (({ s with axm := { s.axm with queue := rest } } : State).wr F.AXM_STATUS.QUEUED rest.length).wr F.AXM_STATUS.TAG (axField ws 0 16 16)

/-- A command refused: the queue is emptied and the block held. -/
def State.axRefused (s : State) (c : Nat) : State := (((s.set1 F.AXM_ERR.REFUSED).wr F.AXM_STATUS.CAUSE c).axFlush.axHold 0).source 15

theorem exec_axisCommandStart_refused (hqueue : s.axm.queue = ws :: rest) (hrun : s.axm.run = none) (hon : s.bit F.AXM_CTL.ENABLE = true)
    (hstate : s.rd F.AXM_STATUS.STATE < 2) (hc : s.axRefusal ws ≠ 0) :
    exec .axisCommandStart s = .next ((s.axPopped ws rest).axRefused (s.axRefusal ws)) := by
  show execAxisCommandStart s = _
  unfold execAxisCommandStart
  rw [hqueue]
  dsimp only
  rw [if_neg (by simp [hrun, hon]; omega), if_pos hc]
  rfl

theorem exec_axisCommandStart_home (hqueue : s.axm.queue = ws :: rest) (hrun : s.axm.run = none) (hon : s.bit F.AXM_CTL.ENABLE = true)
    (hstate : s.rd F.AXM_STATUS.STATE < 2) (hc : s.axRefusal ws = 0) (hop : axField ws 0 0 4 = 3) :
    exec .axisCommandStart s = .next ((s.axPopped ws rest).axHome (axField ws 0 10 4) ((maskAxes (axField ws 0 4 6)).headD 0)) := by
  show execAxisCommandStart s = _
  unfold execAxisCommandStart
  rw [hqueue]
  dsimp only
  rw [if_neg (by simp [hrun, hon]; omega), if_neg (by simp [hc]), hop]
  rfl

/-- A dwell of a number of ticks. -/
def dwellRun (ticks : Nat) : AxRun :=
  { op := 4, kind := 0, mask := 0, vs := 1, vmax := 1, acc := 0, delta := [0, 0, 0, 0, 0, 0], steps := 0, k := 0, errs := [], residue := 0
    reload := 0, axis := 0, phase := 0, count := ticks, decel := 0, p1 := 0 }

theorem exec_axisCommandStart_dwell (hqueue : s.axm.queue = ws :: rest) (hrun : s.axm.run = none) (hon : s.bit F.AXM_CTL.ENABLE = true)
    (hstate : s.rd F.AXM_STATUS.STATE < 2) (hc : s.axRefusal ws = 0) (hop : axField ws 0 0 4 = 4) :
    exec .axisCommandStart s = .next ((s.axPopped ws rest).axBegin (dwellRun (axField ws 0 32 32))) := by
  show execAxisCommandStart s = _
  unfold execAxisCommandStart
  rw [hqueue]
  dsimp only
  rw [if_neg (by simp [hrun, hon]; omega), if_neg (by simp [hc]), hop]
  rfl

theorem exec_axisCommandStart_move (hqueue : s.axm.queue = ws :: rest) (hrun : s.axm.run = none) (hon : s.bit F.AXM_CTL.ENABLE = true)
    (hstate : s.rd F.AXM_STATUS.STATE < 2) (hc : s.axRefusal ws = 0) (hop : axField ws 0 0 4 = 1 ∨ axField ws 0 0 4 = 2) :
    exec .axisCommandStart s = .next ((s.axPopped ws rest).axMove ws (axField ws 0 0 4) (axField ws 0 4 6)) := by
  show execAxisCommandStart s = _
  unfold execAxisCommandStart
  rw [hqueue]
  dsimp only
  rw [if_neg (by simp [hrun, hon]; omega), if_neg (by simp [hc])]
  rcases hop with hop | hop
  · rw [hop]
    rfl
  · rw [hop]
    rfl

/-- What the taking of a command leaves. -/
theorem State.axPopped_spec (s : State) (ws : List Word) (rest : List (List Word)) : ∃ t, s.axPopped ws rest = t ∧
    t.axm = { s.axm with queue := rest } ∧ t.rd F.AXM_STATUS.QUEUED = rest.length % 32 ∧ t.rd F.AXM_STATUS.TAG = axField ws 0 16 16 ∧
    t.rd F.AXM_STATUS.STATE = s.rd F.AXM_STATUS.STATE ∧ AxisStep s t ∧ regsApart [F.AXM_STATUS.STATE.off] s t := by
  refine ⟨_, rfl, rfl, ?_, ?_, ?_, rfl, ?_⟩
  · exact (State.rd_wr_apart _ _ _ _ _ _ _ (by decide)).trans (State.rd_wr_same _ _ _ _ _ (by decide))
  · exact (State.rd_wr_same _ _ _ _ _ (by decide)).trans (Nat.mod_eq_of_lt (Nat.mod_lt _ (by decide)))
  · exact (State.rd_wr_apart _ _ _ _ _ _ _ (by decide)).trans (State.rd_wr_apart _ _ _ _ _ _ _ (by decide))
  · exact regsApart_wr _ _ (regsApart_wr _ _ (regsApart_regs regsApart_refl rfl) (by decide)) (by decide)

/-- What a refusal leaves of a block that is idle or running. -/
theorem State.axRefused_spec (s : State) (c : Nat) (hstate : s.rd F.AXM_STATUS.STATE < 2) (hc : c < 16) : ∃ t, s.axRefused c = t ∧
    t.axm = { s.axm with queue := [], halted := true } ∧ t.rd F.AXM_STATUS.STATE = 2 ∧ t.rd F.AXM_STATUS.CAUSE = c ∧
    t.rd F.AXM_STATUS.QUEUED = 0 ∧ t.rd F.AXM_ERR.REFUSED = 1 ∧ t.rd (F.DOC_ROUTE.PENDING 15) = 1 ∧ AxisStep s t ∧
    regsApart [F.AXM_STATUS.STATE.off, F.AXM_ERR.REFUSED.off, (F.DOC_ROUTE.PENDING 15).off] s t := by
  obtain ⟨u, hu⟩ : ∃ u, u = ((s.set1 F.AXM_ERR.REFUSED).wr F.AXM_STATUS.CAUSE c).axFlush := ⟨_, rfl⟩
  have hustate : u.rd F.AXM_STATUS.STATE = s.rd F.AXM_STATUS.STATE := by
    rw [hu]
    exact (State.rd_wr_apart _ _ _ _ _ _ _ (by decide)).trans
      ((State.rd_wr_apart (s.set1 F.AXM_ERR.REFUSED) _ _ _ _ _ _ (by decide)).trans (State.rd_wr_off _ _ _ _ _ _ _ _ (by decide)))
  have hucause : u.rd F.AXM_STATUS.CAUSE = c := by
    rw [hu]
    exact (State.rd_wr_apart _ _ _ _ _ _ _ (by decide)).trans
      ((State.rd_wr_same (s.set1 F.AXM_ERR.REFUSED) _ _ _ _ (by decide)).trans (Nat.mod_eq_of_lt hc))
  have huqueued : u.rd F.AXM_STATUS.QUEUED = 0 := by
    rw [hu]
    exact State.rd_wr_same _ _ _ _ _ (by decide)
  have huerr : u.rd F.AXM_ERR.REFUSED = 1 := by
    rw [hu]
    exact (State.rd_wr_off _ _ _ _ _ _ _ _ (by decide)).trans
      ((State.rd_wr_off (s.set1 F.AXM_ERR.REFUSED) _ _ _ _ _ _ _ (by decide)).trans (State.rd_wr_same _ _ _ _ _ (by decide)))
  have huaxm : u.axm = { s.axm with queue := [] } := by rw [hu]; rfl
  have hustep : AxisStep s u := by rw [hu]; rfl
  have huapart : regsApart [F.AXM_STATUS.STATE.off, F.AXM_ERR.REFUSED.off, (F.DOC_ROUTE.PENDING 15).off] s u := by
    rw [hu]
    exact regsApart_wr F.AXM_STATUS.QUEUED 0 (regsApart_regs (regsApart_wr F.AXM_STATUS.CAUSE c
      (regsApart_wr F.AXM_ERR.REFUSED 1 regsApart_refl (by decide)) (by decide)) rfl) (by decide)
  have hafter : u.axStateAfter 0 = 2 := by
    unfold State.axStateAfter
    dsimp only
    rw [hustate, if_neg (by simp; omega), if_neg (by simp; omega)]
  have hhold : s.axRefused c = (({ u with axm := { s.axm with queue := [], halted := true } } : State).wr F.AXM_STATUS.STATE 2).wr
      (F.DOC_ROUTE.PENDING 15) 1 := by
    unfold State.axRefused
    rw [← hu, State.source_eq _ _ (by decide)]
    unfold State.axHold
    rw [hafter, huaxm]
    simp
  generalize hv : ({ u with axm := { s.axm with queue := [], halted := true } } : State) = v at hhold
  have hvrd : ∀ f, v.rd f = u.rd f := fun f => by rw [← hv]; rfl
  have hvapart : regsApart [F.AXM_STATUS.STATE.off, F.AXM_ERR.REFUSED.off, (F.DOC_ROUTE.PENDING 15).off] s v := by
    rw [← hv]
    exact regsApart_regs huapart rfl
  have hvaxm : v.axm = { s.axm with queue := [], halted := true } := by rw [← hv]
  have hvstep : AxisStep s v := by
    rw [← hv, hustep]
    rfl
  refine ⟨_, hhold, hvaxm, ?_, ?_, ?_, ?_, State.rd_wr_same _ _ _ _ _ (by decide), hvstep.trans rfl,
    regsApart_wr _ _ (regsApart_wr _ _ hvapart (by decide)) (by decide)⟩
  · exact (State.rd_wr_off _ _ _ _ _ _ _ _ (by decide)).trans (State.rd_wr_same _ _ _ _ _ (by decide))
  · rw [State.rd_wr_off _ _ _ _ _ _ _ _ (by decide), State.rd_wr_apart _ _ _ _ _ _ _ (by decide), hvrd, hucause]
  · rw [State.rd_wr_off _ _ _ _ _ _ _ _ (by decide), State.rd_wr_apart _ _ _ _ _ _ _ (by decide), hvrd, huqueued]
  · rw [State.rd_wr_off _ _ _ _ _ _ _ _ (by decide), State.rd_wr_off _ _ _ _ _ _ _ _ (by decide), hvrd, huerr]

theorem State.axRefusal_lt (s : State) (ws : List Word) : s.axRefusal ws < 16 := by
  unfold State.axRefusal
  dsimp only
  repeat' split
  all_goals decide

/-- A move that has a distance to go begins, with CLAMPED where its speeds are reduced. -/
theorem State.axMove_begins (s : State) (ws : List Word) (op mask : Nat) (hfar : (s.axDelta ws).any (fun d => d ≠ 0) = true) :
    ∃ c r, s.axMove ws op mask = (s.whenD c (fun s => s.set1 F.AXM_ERR.CLAMPED)).axBegin r ∧
      (r.op, r.mask, r.delta, r.steps, r.k) = (op, mask, s.axDelta ws, ((s.axDelta ws).map Int.natAbs).foldl max 0, 0) := by
  have hd : ((s.axDelta ws).map Int.natAbs).foldl max 0 ≠ 0 := by
    obtain ⟨d, hmem, hne⟩ := List.any_eq_true.mp hfar
    have hle : ∀ (l : List Nat) (a : Nat), a ≤ l.foldl max a ∧ ∀ x ∈ l, x ≤ l.foldl max a := fun l => by
      induction l with
      | nil => exact fun a => ⟨Nat.le_refl a, fun x hx => absurd hx (by simp)⟩
      | cons y l ih =>
        intro a
        obtain ⟨h1, h2⟩ := ih (max a y)
        refine ⟨(Nat.le_max_left a y).trans h1, fun x hx => ?_⟩
        rcases List.mem_cons.mp hx with rfl | hx
        · exact (Nat.le_max_right a x).trans h1
        · exact h2 x hx
    have h := (hle ((s.axDelta ws).map Int.natAbs) 0).2 d.natAbs (List.mem_map.mpr ⟨d, hmem, rfl⟩)
    have hpos : d ≠ 0 := by simpa using hne
    omega
  unfold State.axMove
  dsimp only
  rw [if_neg hd]
  exact ⟨_, _, rfl, rfl⟩

end

/-! ### A step interval -/

theorem getD_map_axes {α : Type} (f : Nat → α) (d : α) {a : Nat} (ha : a < 6) : (axes.map f).getD a d = f a := by
  unfold axes
  interval_cases a <;> rfl

/-- The error terms grown by a step of the master, and the axes that step with it (R243). -/
def AxRun.grown (r : AxRun) : List Nat := axes.map (fun a => r.errs.getD a 0 + (r.delta.getD a 0).natAbs)
def AxRun.steppers (r : AxRun) : List Nat :=
  ((maskAxes r.mask).filter (fun a => r.delta.getD a 0 ≠ 0)).filter (fun a => r.steps ≤ r.grown.getD a 0)

/-- The command after a step. -/
def AxRun.stepped (r : AxRun) : AxRun := { r with
  k := r.k + 1
  errs := axes.map (fun a => if r.steppers.contains a then r.grown.getD a 0 - r.steps else r.grown.getD a 0) }

theorem AxRun.mem_steppers (r : AxRun) {a : Nat} (ha : a < 6) : a ∈ r.steppers ↔
    r.mask / 2 ^ a % 2 = 1 ∧ r.delta.getD a 0 ≠ 0 ∧ r.steps ≤ r.errs.getD a 0 + (r.delta.getD a 0).natAbs := by
  unfold AxRun.steppers AxRun.grown
  rw [List.mem_filter, List.mem_filter, mem_maskAxes, getD_map_axes _ _ ha]
  simp only [decide_eq_true_eq]
  exact ⟨fun h => ⟨h.1.1.2, h.1.2, h.2⟩, fun h => ⟨⟨⟨ha, h.1⟩, h.2.1⟩, h.2.2⟩⟩

theorem AxRun.steppers_axes (r : AxRun) : r.steppers.Nodup ∧ ∀ a ∈ r.steppers, a < 6 := by
  unfold AxRun.steppers
  refine ⟨((nodup_maskAxes _).filter _).filter _, fun a ha => ?_⟩
  rw [List.mem_filter, List.mem_filter] at ha
  exact ((mem_maskAxes _ _).mp ha.1.1).1

/-- A command in force. -/
def State.axWith (s : State) (r : AxRun) : State := { s with axm := { s.axm with run := some r } }

/-- A step of a move that no limit holds. -/
theorem exec_axisStep {s : State} {r : AxRun} (hrun : s.axm.run = some r) (hop : r.op = 1 ∨ r.op = 2) (u : State)
    (hu : r.steppers.foldl (fun s a => s.axEmit a (decide (0 < r.delta.getD a 0))) s = u) (haway : u.axm.away = [0, 0, 0, 0, 0, 0]) :
    exec .axisStep s = .next (if r.steps ≤ r.k + 1 then (u.axWith r.stepped).axDone else u.axWith r.stepped.load) := by
  have hfree : ∀ v : State, v.axm.away = [0, 0, 0, 0, 0, 0] → v.axStuckNow r.steppers = [] := fun v hv => by
    unfold State.axStuckNow
    rw [List.filter_eq_nil_iff]
    intro a ha
    have hlt := r.steppers_axes.2 a ha
    have hzero : v.axm.away.getD a 0 = 0 := by
      rw [hv]
      interval_cases a <;> rfl
    simp only [hzero, Nat.lt_irrefl, decide_false, Bool.false_and, Bool.false_eq_true, not_false_iff]
  have heq : exec .axisStep s = if r.op = 4 then done s else if r.op = 3 then done (s.axHomeStep r) else
      if !((u.axWith r.stepped).axStuckNow r.steppers).isEmpty then
        done ((u.axWith r.stepped).axStuck
          ((u.axWith r.stepped).axStuckNow r.steppers))
      else if r.steps ≤ r.k + 1 then done (u.axWith r.stepped).axDone
      else done (u.axWith r.stepped.load) := by
    show execAxisStep s = _
    unfold execAxisStep
    rw [hrun, ← hu]
    rfl
  rw [heq, if_neg (by omega), if_neg (by omega), hfree (u.axWith r.stepped) haway, if_neg (by simp)]
  split
  · rfl
  · rfl

/-! ### Dwells and homing -/

theorem exec_dwellExpiry {s : State} {r : AxRun} (hrun : s.axm.run = some r) (hop : r.op = 4) : exec .dwellExpiry s = .next s.axDone := by
  show execDwellExpiry s = _
  unfold execDwellExpiry
  rw [hrun]
  exact if_pos hop

theorem exec_homeInputChange_idle {s : State} (a : Fin 6) (active : Bool) (hrun : s.axm.run = none) :
    exec (.homeInputChange a active) s = .next (s.wrBit (F.AXM_POS.HOME a) active) := by
  show execHomeInputChange a active s = _
  unfold execHomeInputChange
  dsimp only
  rw [show (s.wrBit (F.AXM_POS.HOME a) active).axm.run = none from hrun]
  rfl

theorem exec_homeInputChange_released {s : State} (a : Fin 6) {r : AxRun} (hrun : s.axm.run = some r) (hop : r.op = 3) (hkind : r.kind = 1)
    (haxis : r.axis = a.val) (hphase : r.phase = 3) : exec (.homeInputChange a false) s =
      .next ((s.wrBit (F.AXM_POS.HOME a) false).axHomed a ((s.wrBit (F.AXM_POS.HOME a) false).rdInt (F.AXM_HOMEPOS.HOME_VALUE a))) := by
  show execHomeInputChange a false s = _
  unfold execHomeInputChange
  dsimp only
  rw [show (s.wrBit (F.AXM_POS.HOME a) false).axm.run = some r from hrun]
  dsimp only
  rw [if_neg (by simp [hop, haxis, hkind]), hphase]
  rw [if_neg Bool.false_ne_true, if_pos hkind]
  rfl

/-- The end of a homing sequence at the position that it gives the axis. -/
theorem State.axHomed_spec (s : State) {a : Nat} (ha : a < 6) (v : Nat) (hv : v < 2 ^ 32) : ∃ t, s.axHomed a (signed 32 v) = t ∧
    t.rd (F.AXM_POS.POS a) = v ∧ t.rd (F.AXM_POS.HOMED a) = 1 ∧ t.axm = { s.axm with run := none } ∧ t.rd F.AXM_STATUS.STATE = 0 ∧
    t.rd F.AXM_COUNTS.COMMANDS = min (s.rd F.AXM_COUNTS.COMMANDS + 1) (2 ^ 16 - 1) ∧ t.rd (F.DOC_ROUTE.PENDING 15) = 1 ∧ AxisStep s t ∧
    (∀ lo w, 34 ≤ lo → t.rd ⟨0x1B0300 + 0x8 * a, lo, w⟩ = s.rd ⟨0x1B0300 + 0x8 * a, lo, w⟩) ∧
    (∀ b ∈ s.axRunning, t.rd (F.AXM_POS.MOVING b) = 0) ∧
    ((∀ b ∈ s.axRunning, b = a) →
      regsApart [(F.AXM_POS.POS a).off, F.AXM_STATUS.STATE.off, F.AXM_COUNTS.COMMANDS.off, (F.DOC_ROUTE.PENDING 15).off] s t) := by
  obtain ⟨u, hu⟩ : ∃ u, u = (s.wrInt (F.AXM_POS.POS a) (signed 32 v)).set1 (F.AXM_POS.HOMED a) := ⟨_, rfl⟩
  have huaxm : u.axm = s.axm := by rw [hu]; rfl
  have hurun : u.axRunning = s.axRunning := by
    unfold State.axRunning
    rw [huaxm]
  have hustep : AxisStep s u := by rw [hu]; rfl
  have hupos : u.rd (F.AXM_POS.POS a) = v := by
    rw [hu]
    refine (State.rd_wr_apart _ _ _ _ _ _ _ (by decide)).trans ((State.rd_wrInt_same s _ _ _ _ (by decide)).trans ?_)
    exact unsigned_signed 32 v hv
  have huhomed : u.rd (F.AXM_POS.HOMED a) = 1 := by
    rw [hu]
    exact State.rd_wr_same _ _ _ _ _ (by decide)
  have hureg : ∀ o, o ≠ 0x1B0300 + 0x8 * a → u.reg o = s.reg o := fun o ho => by
    rw [hu]
    exact (State.reg_wr_ne _ _ _ _ ho).trans (State.reg_wr_ne _ _ _ _ ho)
  have huhigh : ∀ lo w, 34 ≤ lo → u.rd ⟨0x1B0300 + 0x8 * a, lo, w⟩ = s.rd ⟨0x1B0300 + 0x8 * a, lo, w⟩ := fun lo w hlo => by
    rw [hu]
    refine (State.rd_wr_apart _ _ _ _ _ _ _ ?_).trans (State.rd_wr_apart _ _ _ _ _ _ _ ?_)
    · exact .inl (by show 32 + 1 ≤ lo; omega)
    · exact .inl (by show 0 + 32 ≤ lo; omega)
  have hucount : u.rd F.AXM_COUNTS.COMMANDS = s.rd F.AXM_COUNTS.COMMANDS := by
    unfold State.rd
    rw [hureg _ (by show (0x1B0408 : Nat) ≠ _; omega)]
  obtain ⟨t, ht, htaxm, htstate, htcount, htpend, htstep, htreg, htfields, htmoving⟩ := u.axDone_spec
  refine ⟨t, ?_, ?_, ?_, by rw [htaxm, huaxm], htstate, by rw [htcount, hucount], htpend, hustep.trans htstep, fun lo w hlo => ?_,
    fun b hb => htmoving b (by rw [hurun]; exact hb), fun hone o ho => ?_⟩
  · rw [← ht, hu]
    rfl
  · rw [htfields a _ _ ha (.inl (by decide)), hupos]
  · rw [htfields a _ _ ha (.inl (by decide)), huhomed]
  · rw [htfields a _ _ ha (.inr hlo), huhigh lo w hlo]
  · simp only [List.mem_cons, List.not_mem_nil, or_false, not_or] at ho
    obtain ⟨h1, h2, h3, h4⟩ := ho
    rw [htreg o (by simp only [List.mem_cons, List.not_mem_nil, or_false, not_or]; exact ⟨h2, h3, h4⟩) (fun b hb => by
      rw [hurun] at hb
      rw [hone b hb]
      exact h1), hureg o h1]

end Sys2Proof.Machine
end

section
/-! SUPPORT. What the commands of the auxiliary axes leave. -/
namespace Sys2Proof.Machine

theorem maskAxes_zero : maskAxes 0 = [] := by decide

theorem State.axRunning_none {s : State} (h : s.axm.run = none) : s.axRunning = [] := by
  unfold State.axRunning
  rw [h]

theorem State.axRunning_some {s : State} {r : AxRun} (h : s.axm.run = some r) : s.axRunning = maskAxes r.mask := by
  unfold State.axRunning
  rw [h]

/-- The distances of a move depend on the positions alone. -/
theorem State.axDelta_congr {s t : State} (ws : List Word) (h : ∀ a, a < 6 → t.rd (F.AXM_POS.POS a) = s.rd (F.AXM_POS.POS a)) :
    t.axDelta ws = s.axDelta ws := by
  unfold State.axDelta
  refine List.map_congr_left (fun a ha => ?_)
  have hlt : a < 6 := by
    simp only [axes, List.mem_cons, List.not_mem_nil, or_false] at ha
    omega
  unfold State.rdInt
  rw [h a hlt]

/-- A move that begins. -/
theorem State.axMove_spec {s : State} (ws : List Word) (op : Nat) (hfar : (s.axDelta ws).any (fun d => d ≠ 0) = true) :
    ∃ t, s.axMove ws op (axField ws 0 4 6) = t ∧
      t.axm.run.map (fun r => (r.op, r.mask, r.delta, r.steps, r.k)) =
        some (op, axField ws 0 4 6, s.axDelta ws, ((s.axDelta ws).map Int.natAbs).foldl max 0, 0) ∧
      t.axm.queue = s.axm.queue ∧ t.rd F.AXM_STATUS.STATE = 1 ∧ t.rd F.AXM_STATUS.TAG = s.rd F.AXM_STATUS.TAG ∧
      (∀ a, a < 6 → t.bit (F.AXM_POS.MOVING a) = (s.bit (F.AXM_POS.MOVING a) || decide (axField ws 0 4 6 / 2 ^ a % 2 = 1))) ∧
      (∀ a, a < 6 → t.rd (F.AXM_POS.POS a) = s.rd (F.AXM_POS.POS a)) ∧ AxisStep s t ∧ regsOutside (fun b => b = 0x1B) s t := by
  obtain ⟨c, r, heq, hr⟩ := s.axMove_begins ws op (axField ws 0 4 6) hfar
  have hrmask : r.mask = axField ws 0 4 6 := congrArg (fun x => x.2.1) hr
  obtain ⟨u, hu⟩ : ∃ u, u = s.whenD c (fun s => s.set1 F.AXM_ERR.CLAMPED) := ⟨_, rfl⟩
  have hclamp : RegsOnly s u ∧ regsApart [F.AXM_ERR.CLAMPED.off] s u := by
    rw [hu]
    unfold State.whenD
    split
    · exact ⟨rfl, regsApart_wr _ _ regsApart_refl (by decide)⟩
    · exact ⟨rfl, regsApart_refl⟩
  obtain ⟨honly, hapart⟩ := hclamp
  obtain ⟨t, ht, hrun, hqueue, hstate, hstep, hregs, hfields, hmoving⟩ := u.axBegin_spec r
  have hpos : ∀ a lo w, a < 6 → u.rd ⟨0x1B0300 + 0x8 * a, lo, w⟩ = s.rd ⟨0x1B0300 + 0x8 * a, lo, w⟩ := fun a lo w ha =>
    regsApart_rd hapart _ _ _ (by simp only [List.mem_singleton]; show _ ≠ (0x1B0400 : Nat); omega)
  refine ⟨t, by rw [heq, ← hu, ht], ?_, ?_, hstate, ?_, fun a ha => ?_, fun a ha => ?_, ?_, fun o ho => ?_⟩
  · rw [hrun, Option.map_some]
    exact congrArg some hr
  · rw [hqueue, honly]
  · rw [hfields _ _ _ (.inr (by decide)) (.inl (by decide)), regsApart_rd hapart _ _ _ (by decide)]
  · rw [hmoving a ha, hrmask]
    congr 1
    exact congrArg (· != 0) (hpos a _ _ ha)
  · rw [hfields _ _ _ (.inl (by omega)) (.inl (by decide)), hpos a _ _ ha]
  · refine AxisStep.trans (t := u) ?_ hstep
    rw [honly]
    rfl
  · have hne : o / 0x10000 ≠ 0x1B := by simpa using ho
    rw [hregs o ?_ (.inl fun hmem => ?_), hapart o ?_]
    · simp only [List.mem_singleton]
      show o ≠ (0x1B0400 : Nat)
      omega
    · show o ≠ (0x1B0250 : Nat)
      omega
    · obtain ⟨a, ha, rfl⟩ := (mem_posRegs o).mp hmem
      omega

/-- A HOME of KIND 0. -/
theorem State.axHome_here {s : State} {a : Nat} (ha : a < 6) (hrun : s.axm.run = none) : ∃ t, s.axHome 0 a = t ∧
    t.rd (F.AXM_POS.POS a) = s.rd (F.AXM_HOMEPOS.HOME_VALUE a) ∧ t.rd (F.AXM_POS.HOMED a) = 1 ∧ t.axm = s.axm ∧
    t.rd F.AXM_STATUS.STATE = 0 ∧ t.rd F.AXM_COUNTS.COMMANDS = min (s.rd F.AXM_COUNTS.COMMANDS + 1) (2 ^ 16 - 1) ∧
    t.rd (F.DOC_ROUTE.PENDING 15) = 1 ∧ AxisStep s t ∧
    regsApart [(F.AXM_POS.POS a).off, F.AXM_STATUS.STATE.off, F.AXM_COUNTS.COMMANDS.off, (F.DOC_ROUTE.PENDING 15).off] s t := by
  obtain ⟨u, hu⟩ : ∃ u, u = s.clr (F.AXM_POS.HOMED a) := ⟨_, rfl⟩
  have honly : RegsOnly s u := by rw [hu]; rfl
  have hreg : ∀ o, o ≠ 0x1B0300 + 0x8 * a → u.reg o = s.reg o := fun o ho => by
    rw [hu]
    exact State.reg_wr_ne _ _ _ _ ho
  have hrd : ∀ o lo w, o ≠ 0x1B0300 + 0x8 * a → u.rd ⟨o, lo, w⟩ = s.rd ⟨o, lo, w⟩ := fun o lo w ho => by
    unfold State.rd
    rw [hreg o ho]
  have hrun' : u.axRunning = [] := State.axRunning_none (by rw [honly]; exact hrun)
  obtain ⟨t, ht, hpos, hhomed, haxm, hstate, hcount, hpend, hstep, -, -, hregs⟩ := u.axHomed_spec ha (u.rd (F.AXM_HOMEPOS.HOME_VALUE a))
    (State.rd_lt _ _)
  refine ⟨t, ?_, ?_, hhomed, ?_, hstate, ?_, hpend, ?_, ?_⟩
  · unfold State.axHome
    rw [if_pos rfl, ← hu]
    exact ht
  · rw [hpos, hrd _ _ _ (by show 0x1B0018 + 0x20 * a ≠ _; omega)]
  · rw [haxm, honly, ← hrun]
  · rw [hcount, hrd _ _ _ (by show (0x1B0408 : Nat) ≠ _; omega)]
  · refine AxisStep.trans (t := u) ?_ hstep
    rw [honly]
    rfl
  · refine regsApart_trans (fun o ho => hreg o ?_) (hregs (fun b hb => absurd hb (by rw [hrun']; simp)))
    simp only [List.mem_cons, not_or] at ho
    exact ho.1

/-- What a step of a move leaves, where no limit is active. -/
theorem State.moveStep_spec {s : State} {r : AxRun} (stepping : Nat → Bool) (hrun : s.axm.run = some r) (hop : r.op = 1 ∨ r.op = 2)
    (haway : s.axm.away = [0, 0, 0, 0, 0, 0]) (hpulse : s.axm.pulse.length = 6)
    (hlimits : ∀ a, a < 6 → s.bit (F.AXM_POS.LIMP a) = false ∧ s.bit (F.AXM_POS.LIMM a) = false)
    (hstepping : ∀ a, a < 6 → stepping a = (decide (r.mask / 2 ^ a % 2 = 1) && decide (r.delta.getD a 0 ≠ 0) &&
      decide (r.steps ≤ r.errs.getD a 0 + (r.delta.getD a 0).natAbs))) :
    ∃ u p, exec .axisStep s = .next (if r.steps ≤ r.k + 1 then (u.axWith r.stepped).axDone else u.axWith r.stepped.load) ∧ AxisStep s u ∧
      u.axm = { s.axm with pulse := p } ∧ (∀ a, a < 6 → p.getD a none = if stepping a then some s.cycle else s.axm.pulse.getD a none) ∧
      (∀ o, o ∉ posRegs → u.reg o = s.reg o) ∧
      (∀ a, a < 6 → u.rd (F.AXM_POS.POS a) =
        unsigned 32 (s.rdInt (F.AXM_POS.POS a) + (if stepping a then (if 0 < r.delta.getD a 0 then 1 else -1) else 0))) ∧
      (∀ a, a < 6 → r.stepped.load.errs.getD a 0 = if stepping a then r.errs.getD a 0 + (r.delta.getD a 0).natAbs - r.steps
        else r.errs.getD a 0 + (r.delta.getD a 0).natAbs) := by
  obtain ⟨hnodup, haxes⟩ := r.steppers_axes
  obtain ⟨u, hu, hstep, ⟨p, hp, hpget⟩, hregs, hpos⟩ := emitted_spec (fun a => decide (0 < r.delta.getD a 0)) r.steppers s hnodup haxes haway
    hpulse hlimits
  have hmem : ∀ a, a < 6 → (a ∈ r.steppers ↔ stepping a = true) := fun a ha => by
    rw [r.mem_steppers ha, hstepping a ha]
    simp only [Bool.and_eq_true, decide_eq_true_eq, and_assoc]
  refine ⟨u, p, exec_axisStep hrun hop u hu (by rw [hp]; exact haway), hstep, hp, fun a ha => ?_, hregs, fun a ha => ?_, fun a ha => ?_⟩
  · rw [hpget a]
    simp only [hmem a ha]
  · rw [hpos a ha]
    simp only [hmem a ha, decide_eq_true_eq]
    split
    · rfl
    · rw [Int.add_zero]
      exact (unsigned_signed 32 _ (State.rd_lt s (F.AXM_POS.POS a))).symm
  · show r.stepped.errs.getD a 0 = _
    unfold AxRun.stepped
    rw [getD_map_axes _ _ ha]
    unfold AxRun.grown
    rw [getD_map_axes _ _ ha]
    simp only [List.contains_iff_mem, hmem a ha]

/-- Settles O39: a push taken or discarded; a move, a refusal, a dwell and a HOME of KIND 0 at the head of the queue; a step of a move with
and without its end; the end of a dwell; and HOME_N with nothing running and at the end of a HOME sequence. -/
theorem axisCommandsStartStepAndComplete : Obligations.AxisCommandsStartStepAndComplete := by
  unfold Obligations.AxisCommandsStartStepAndComplete
  refine ⟨fun s m stop hserves => ?_, fun s ws rest hqueue hrun hon hstate hc hop hfar => ?_,
    fun s ws rest c hqueue hrun hon hstate hc hne => ?_, fun s ws rest hqueue hrun hon hstate hc hop => ?_,
    fun s ws rest a hqueue hrun hon hstate hc hop hmask => ?_, fun s r stepping hrun hop haway hpulse hlimits hstepping => ?_,
    fun s r hrun hop hmask => ?_, fun s a active hrun => ?_, fun s a r hrun hop hkind haxis hphase hmask => ?_⟩
  · by_cases h : 16 ≤ s.axm.queue.length ∨ s.rd F.AXM_STATUS.STATE = 2 ∨ s.rd F.AXM_STATUS.STATE = 3 ∨ stop = true
    · refine ⟨_, exec_axmPush_discarded hserves h, ?_, ?_, fun h1 h2 h3 h4 => ?_, rfl, regsApart_wr _ _ regsApart_refl (by decide)⟩
      · rw [if_pos h]
        rfl
      · rw [if_pos h, State.rd_incSat _ _ _ _ (by decide)]
      · rcases h with h | h | h | h
        · omega
        · exact absurd h h2
        · exact absurd h h3
        · exact absurd h (by simp [h4])
    · refine ⟨_, exec_axmPush_taken hserves h, ?_, ?_, fun h1 _ _ _ => ?_, rfl, ?_⟩
      · rw [if_neg h]
        rfl
      · rw [if_neg h]
        exact State.rd_wr_off _ _ _ _ _ _ _ _ (by decide)
      · refine (State.rd_wr_same _ _ _ _ _ (by decide)).trans ?_
        rw [List.length_append, List.length_singleton]
        exact Nat.mod_eq_of_lt (show s.axm.queue.length + 1 < 2 ^ 5 by omega)
      · exact regsApart_wr _ _ (regsApart_regs regsApart_refl rfl) (by decide)
  · obtain ⟨u, hu, haxm, -, htag, -, hstep, hapart⟩ := s.axPopped_spec ws rest
    have hpos : ∀ a lo w, a < 6 → u.rd ⟨0x1B0300 + 0x8 * a, lo, w⟩ = s.rd ⟨0x1B0300 + 0x8 * a, lo, w⟩ := fun a lo w ha =>
      regsApart_rd hapart _ _ _ (by simp only [List.mem_singleton]; show _ ≠ (0x1B0250 : Nat); omega)
    have hdelta : u.axDelta ws = s.axDelta ws := State.axDelta_congr ws (fun a ha => hpos a _ _ ha)
    obtain ⟨t, ht, hrun', hqueue', hstate', htag', hmoving, hposs, hstep', hout⟩ :=
      State.axMove_spec (s := u) ws (axField ws 0 0 4) (by rw [hdelta]; exact hfar)
    refine ⟨t, by rw [exec_axisCommandStart_move hqueue hrun hon hstate hc hop, hu, ht], by rw [hrun', hdelta], ?_, hstate', by rw [htag', htag],
      fun a ha => ?_, fun a ha => by rw [hposs a ha, hpos a _ _ ha], hstep.trans hstep', ?_⟩
    · rw [hqueue', haxm]
    · rw [hmoving a ha]
      congr 1
      exact congrArg (· != 0) (hpos a _ _ ha)
    · exact regsOutside_trans (regsOutside_of_apart hapart (by decide)) hout
  · subst hc
    obtain ⟨u, hu, haxm, -, -, hustate, hstep, hapart⟩ := s.axPopped_spec ws rest
    obtain ⟨t, ht, haxm', hstate', hcause, hqueued, herr, hpend, hstep', hapart'⟩ :=
      u.axRefused_spec (s.axRefusal ws) (by rw [hustate]; exact hstate) (s.axRefusal_lt ws)
    refine ⟨t, by rw [exec_axisCommandStart_refused hqueue hrun hon hstate hne, hu, ht], by rw [haxm', haxm], hstate', hcause, hqueued, herr,
      hpend, hstep.trans hstep', regsApart_trans (regsApart_mono hapart (by simp)) hapart'⟩
  · obtain ⟨u, hu, haxm, huqueued, -, -, hstep, hapart⟩ := s.axPopped_spec ws rest
    obtain ⟨t, ht, hrun', -, hstate', hstep', hregs, hfields, -⟩ := u.axBegin_spec (dwellRun (axField ws 0 32 32))
    refine ⟨t, by rw [exec_axisCommandStart_dwell hqueue hrun hon hstate hc hop, hu, ht], by rw [hrun']; rfl, hstate', ?_, hstep.trans hstep', ?_⟩
    · rw [hfields _ _ _ (.inr (by decide)) (.inl (by decide)), huqueued]
    · refine regsApart_trans hapart (fun o ho => hregs o ?_ (.inr rfl))
      exact fun h => ho (by simp [h])
  · simp only [Prod.mk.injEq] at hop
    have ha : a < 6 := ((mem_maskAxes _ _).mp (by rw [hmask]; exact List.mem_singleton_self a)).1
    obtain ⟨u, hu, haxm, -, -, -, hstep, hapart⟩ := s.axPopped_spec ws rest
    obtain ⟨t, ht, hpos, hhomed, haxm', hstate', hcount, hpend, hstep', hapart'⟩ := State.axHome_here (s := u) ha (by rw [haxm]; exact hrun)
    refine ⟨t, ?_, ?_, hhomed, by rw [haxm', haxm], hstate', ?_, hpend, hstep.trans hstep', ?_⟩
    · rw [exec_axisCommandStart_home hqueue hrun hon hstate hc hop.1, hu, hop.2, hmask]
      exact congrArg Host.Outcome.next ht
    · rw [hpos]
      exact regsApart_rd hapart _ _ _ (by simp only [List.mem_singleton]; show _ ≠ (0x1B0250 : Nat); omega)
    · rw [hcount, regsApart_rd hapart _ _ _ (by decide)]
    · exact regsApart_trans (regsApart_mono hapart (by simp)) hapart'
  · obtain ⟨u, p, hexec, hstep, haxm, hpget, hregs, hpos, herrs⟩ := State.moveStep_spec stepping hrun hop haway hpulse hlimits hstepping
    have hout : regsOutside (fun b => b = 0x1B || b = 0x20) s u := fun o ho => hregs o (fun hmem => by
      obtain ⟨a, ha, rfl⟩ := (mem_posRegs o).mp hmem
      simp at ho
      omega)
    by_cases hlast : r.steps ≤ r.k + 1
    · rw [if_pos hlast] at hexec
      obtain ⟨t, ht, htaxm, htstate, htcount, htpend, htstep, htregs, htfields, -⟩ := (u.axWith r.stepped).axDone_spec
      have hcount : u.rd F.AXM_COUNTS.COMMANDS = s.rd F.AXM_COUNTS.COMMANDS := by
        unfold State.rd
        rw [hregs _ (fun hmem => ?_)]
        obtain ⟨a, ha, h⟩ := (mem_posRegs _).mp hmem
        change (0x1B0408 : Nat) = _ at h
        omega
      have haxm' : t.axm = { s.axm with run := none, pulse := p } := htaxm.trans (by
        show ({ u.axm with run := none } : AxmSt) = _
        rw [haxm])
      rw [ht] at hexec
      refine ⟨t, hexec, fun a ha => ?_, fun h => absurd h (by omega), fun h => absurd h (by omega), fun _ => ⟨?_, htstate, htpend, ?_⟩,
        fun a ha => ?_, ?_, fun o ho => ?_⟩
      · exact (htfields a _ _ ha (.inl (by decide))).trans (hpos a ha)
      · rw [haxm']
      · exact htcount.trans (by rw [← hcount]; rfl)
      · rw [haxm']
        exact hpget a ha
      · have hall : AxisStep s t := (AxisStep.trans (t := u) (u := u.axWith r.stepped) hstep rfl).trans htstep
        rw [hall, haxm']
      · have hblock : o / 0x10000 ≠ 0x1B ∧ o / 0x10000 ≠ 0x20 := by simpa using ho
        refine (htregs o ?_ (fun a ha h => ?_)).trans (hout o ho)
        · simp only [List.mem_cons, List.not_mem_nil, or_false, not_or]
          omega
        · rw [State.axRunning_some (s := u.axWith r.stepped) rfl] at ha
          have := ((mem_maskAxes _ _).mp ha).1
          omega
    · rw [if_neg hlast] at hexec
      refine ⟨_, hexec, hpos, fun _ => rfl, fun _ a ha => congrArg some (herrs a ha), fun h => absurd h hlast, fun a ha => ?_, ?_, hout⟩
      · exact (congrArg (fun x : AxmSt => x.pulse.getD a none) haxm).trans (hpget a ha)
      · have hall : AxisStep s (u.axWith r.stepped.load) := AxisStep.trans (t := u) hstep rfl
        have haxm' : (u.axWith r.stepped.load).axm = { s.axm with run := some r.stepped.load, pulse := p } := by
          unfold State.axWith
          rw [haxm]
        rw [hall, haxm']
  · obtain ⟨t, ht, haxm, hstate', hcount, hpend, hstep, hregs, -⟩ := s.axDone_spec
    have hnone : s.axRunning = [] := by rw [State.axRunning_some hrun, hmask, maskAxes_zero]
    refine ⟨t, by rw [exec_dwellExpiry hrun hop, ht], haxm, hstate', hcount, hpend, hstep, fun o ho => hregs o ho (fun a ha => ?_)⟩
    rw [hnone] at ha
    exact absurd ha (by simp)
  · exact ⟨_, exec_homeInputChange_idle a active hrun, State.bit_wrBit_same _ _ _ _ (by decide), rfl, regsApart_wr _ _ regsApart_refl (by simp)⟩
  · obtain ⟨u, hu⟩ : ∃ u, u = s.wrBit (F.AXM_POS.HOME a) false := ⟨_, rfl⟩
    have honly : RegsOnly s u := by rw [hu]; rfl
    have hureg : ∀ o, o ≠ 0x1B0300 + 0x8 * a.val → u.reg o = s.reg o := fun o ho => by
      rw [hu]
      exact State.reg_wr_ne _ _ _ _ ho
    have hhome : u.rd (F.AXM_POS.HOME a) = 0 := by
      rw [hu]
      exact State.rd_wr_same _ _ _ _ _ (by decide)
    have hvalue : u.rd (F.AXM_HOMEPOS.HOME_VALUE a) = s.rd (F.AXM_HOMEPOS.HOME_VALUE a) := by
      unfold State.rd
      rw [hureg _ (by show 0x1B0018 + 0x20 * a.val ≠ _; omega)]
    have hrunning : u.axRunning = [a.val] := by
      rw [State.axRunning_some (by rw [honly]; exact hrun), hmask, maskAxes_two_pow]
    obtain ⟨t, ht, hpos, hhomed, haxm, hstate', -, hpend, hstep, hhigh, hmoving, hregs⟩ :=
      u.axHomed_spec a.isLt (u.rd (F.AXM_HOMEPOS.HOME_VALUE a)) (State.rd_lt _ _)
    refine ⟨t, ?_, by rw [hpos, hvalue], hhomed, ?_, hmoving a (by rw [hrunning]; simp), by rw [haxm, honly], hstate', hpend, ?_, ?_⟩
    · rw [exec_homeInputChange_released a hrun hop hkind haxis hphase, ← hu]
      exact congrArg Host.Outcome.next ht
    · exact (hhigh _ _ (by decide)).trans hhome
    · refine AxisStep.trans (t := u) ?_ hstep
      rw [honly]
      rfl
    · refine regsApart_trans (fun o ho => hureg o ?_) (hregs (fun b hb => by simpa [hrunning] using hb))
      simp only [List.mem_cons, not_or] at ho
      exact ho.1

end Sys2Proof.Machine
end

section
/-! SUPPORT. Key fuses and the catalogue flash (R294, R314, R317). -/
namespace Sys2Proof.Machine

/-! ### Bytes of the flash -/

theorem smGet_flashWrite_outside (m : SMap Byte) (a x : Nat) (bs : List Byte) (h : x < a ∨ a + bs.length ≤ x) :
    smGet flashDefault (flashWrite m a bs) x = smGet flashDefault m x := by
  induction bs generalizing m a with
  | nil => rfl
  | cons b bs ih =>
    rw [List.length_cons] at h
    rw [flashWrite, ih _ _ (by omega), smGet_smSet_ne _ _ _ _ _ (by omega)]

theorem smGet_flashWrite_inside (m : SMap Byte) (a i : Nat) (bs : List Byte) (h : i < bs.length) :
    smGet flashDefault (flashWrite m a bs) (a + i) = bs[i] := by
  induction bs generalizing m a i with
  | nil => exact absurd h (Nat.not_lt_zero i)
  | cons b bs ih =>
    rw [flashWrite]
    cases i with
    | zero => exact (smGet_flashWrite_outside _ _ _ _ (.inl (Nat.lt_succ_self a))).trans (smGet_smSet_same flashDefault m a b)
    | succ i =>
      rw [← Nat.add_assoc, Nat.add_right_comm]
      exact ih _ _ _ (Nat.lt_of_succ_lt_succ h)

/-- The flash reads as it was written. -/
theorem flashRead_flashWrite (m : SMap Byte) (a : Nat) (bs : List Byte) :
    (List.range bs.length).map (fun i => smGet flashDefault (flashWrite m a bs) (a + i)) = bs := by
  refine List.ext_getElem (by simp) (fun i h h' => ?_)
  rw [List.getElem_map, List.getElem_range, smGet_flashWrite_inside _ _ _ _ h']

/-! ### Fuses -/

/-- A lower half staged leaves the upper one. -/
theorem halfOver_upper (x old : Word) : (halfOver ⟨false, false, x⟩ old).toNat / 2 ^ 32 = old.toNat / 2 ^ 32 := by
  have := old.isLt
  unfold halfOver
  simp only [Bool.false_eq_true, if_false, BitVec.toNat_ofNat]
  omega

/-- A bit added to a field of four bits. -/
theorem or_two_pow_bit (v n : Nat) (hn : n < 4) : (v ||| 2 ^ n) % 2 ^ 4 / 2 ^ n % 2 = 1 := by
  have h : ((v ||| 2 ^ n) % 2 ^ 4).testBit n = true := by
    rw [Nat.testBit_mod_two_pow, Nat.testBit_or, Nat.testBit_two_pow_self]
    simp [hn]
  rw [Nat.testBit_eq_decide_div_mod_eq] at h
  simpa using h

section
variable {s : State} {m : Master} {h : HalfWrite} {slot : Nat}

theorem exec_fuseProgram (hserves : s.serves m F.BOOT_FUSE_PROG.SLOT.off = true) (hacts : (h.wide || h.upper) = true)
    (hslot : slot = F.BOOT_FUSE_PROG.SLOT.get (halfOver h (s.halfReg F.BOOT_FUSE_PROG.SLOT.off)))
    (hprogram : F.BOOT_FUSE_PROG.PROGRAM.get (halfOver h (s.halfReg F.BOOT_FUSE_PROG.SLOT.off)) = 1) (hmode : s.mode = 4)
    (hblank : s.keySet slot = false) (hidle : s.boot.fuseBusy = none) :
    exec (.fuseProgram m h) s = .next { s with halves := smErase s.halves F.BOOT_FUSE_PROG.SLOT.off, boot := { s.boot with fuseBusy := some (slot, false, s.fuseData) } } := by
  show execFuseProgram m h s = _
  unfold execFuseProgram
  rw [State.gated_serves _ _ _ _ hserves, State.halfWrite_acts _ _ _ _ hacts, hprogram, ← hslot]
  generalize hu : ({ s with halves := smErase s.halves F.BOOT_FUSE_PROG.SLOT.off } : State) = u
  have hukey : u.keySet slot = s.keySet slot := by rw [← hu]; rfl
  have humode : u.mode = s.mode := by rw [← hu]; rfl
  have hubusy : u.boot.fuseBusy = s.boot.fuseBusy := by rw [← hu]
  dsimp only
  rw [hukey, hblank, if_neg (by decide)]
  unfold State.fuseStart
  rw [humode, hmode, hubusy, hidle, if_pos (by decide), ← hu]
  rfl

theorem exec_fuseRevoke (hserves : s.serves m F.BOOT_FUSE_PROG.SLOT.off = true) (hacts : (h.wide || h.upper) = true)
    (hslot : slot = F.BOOT_FUSE_PROG.SLOT.get (halfOver h (s.halfReg F.BOOT_FUSE_PROG.SLOT.off)))
    (hrevoke : F.BOOT_FUSE_PROG.REVOKE.get (halfOver h (s.halfReg F.BOOT_FUSE_PROG.SLOT.off)) = 1) (hmode : s.mode = 4)
    (hset : s.keySet slot = true) (hother : s.keysValid.any (fun n => n ≠ slot) = true) (hidle : s.boot.fuseBusy = none) :
    exec (.fuseRevoke m h) s = .next { s with halves := smErase s.halves F.BOOT_FUSE_PROG.SLOT.off, boot := { s.boot with fuseBusy := some (slot, true, s.fuseData) } } := by
  show execFuseRevoke m h s = _
  unfold execFuseRevoke
  rw [State.gated_serves _ _ _ _ hserves, State.halfWrite_acts _ _ _ _ hacts, hrevoke, ← hslot]
  generalize hu : ({ s with halves := smErase s.halves F.BOOT_FUSE_PROG.SLOT.off } : State) = u
  have hukey : u.keySet slot = s.keySet slot := by rw [← hu]; rfl
  have huvalid : u.keysValid = s.keysValid := by rw [← hu]; rfl
  have humode : u.mode = s.mode := by rw [← hu]; rfl
  have hubusy : u.boot.fuseBusy = s.boot.fuseBusy := by rw [← hu]
  dsimp only
  rw [hukey, hset, huvalid, hother, if_pos (by decide)]
  unfold State.fuseStart
  rw [humode, hmode, hubusy, hidle, if_pos (by decide), ← hu]
  rfl

theorem exec_fuseOperationDone {n hash : Nat} {revoke : Bool} (hbusy : s.boot.fuseBusy = some (n, revoke, hash)) (u : State)
    (hu : u = { s with boot := { s.boot with fuseBusy := none } }) : exec .fuseOperationDone s =
      .next (if revoke then u.wr F.BOOT_FUSE.KEY_REVOKED (s.rd F.BOOT_FUSE.KEY_REVOKED ||| 2 ^ n)
        else ({ u with boot := { u.boot with fuseHash := smSet (fun _ => 0) u.boot.fuseHash n hash } } : State).wr F.BOOT_FUSE.KEY_SET
          (s.rd F.BOOT_FUSE.KEY_SET ||| 2 ^ n)) := by
  show execFuseOperationDone s = _
  unfold execFuseOperationDone
  rw [hbusy, hu]
  cases revoke <;> rfl

/-! ### The flash -/

/-- A flash command in progress. -/
def State.flashBegun (s : State) (op len : Nat) : State :=
  { (s.wr F.BOOT_FLASH_STATUS.STATE 1).wr F.BOOT_FLASH_STATUS.CAUSE 0 with
    boot := { s.boot with flashBusy := some (op, s.rd F.BOOT_FLASH_ADDR.ADDR, len) } }

theorem State.flashStart_begins {op len : Nat} (h : s.flashRefuses op len = none) : s.flashStart op len = s.flashBegun op len := by
  have haddr : ((s.wr F.BOOT_FLASH_STATUS.STATE 1).wr F.BOOT_FLASH_STATUS.CAUSE 0).rd F.BOOT_FLASH_ADDR.ADDR = s.rd F.BOOT_FLASH_ADDR.ADDR :=
    (State.rd_wr_off _ _ _ _ _ _ _ _ (by decide)).trans (State.rd_wr_off _ _ _ _ _ _ _ _ (by decide))
  unfold State.flashStart State.flashBegun
  rw [h]
  dsimp only
  rw [haddr]
  rfl

theorem State.flashStart_busy (op len : Nat) (h : s.boot.flashBusy.isSome = true) :
    s.flashStart op len = (s.wr F.BOOT_FLASH_STATUS.STATE 3).wr F.BOOT_FLASH_STATUS.CAUSE 4 := by
  have hrefuses : s.flashRefuses op len = some 4 := by
    unfold State.flashRefuses
    exact if_pos h
  unfold State.flashStart
  rw [hrefuses]

theorem State.flashShown (s : State) (st c : Nat) (hst : st < 4) (hc : c < 16) :
    (((s.wr F.BOOT_FLASH_STATUS.STATE st).wr F.BOOT_FLASH_STATUS.CAUSE c).rd F.BOOT_FLASH_STATUS.STATE,
      ((s.wr F.BOOT_FLASH_STATUS.STATE st).wr F.BOOT_FLASH_STATUS.CAUSE c).rd F.BOOT_FLASH_STATUS.CAUSE) = (st, c) ∧
    regsApart [F.BOOT_FLASH_STATUS.STATE.off] s ((s.wr F.BOOT_FLASH_STATUS.STATE st).wr F.BOOT_FLASH_STATUS.CAUSE c) := by
  refine ⟨Prod.ext ?_ ?_, regsApart_wr _ _ (regsApart_wr _ _ regsApart_refl (by decide)) (by decide)⟩
  · exact (State.rd_wr_apart _ _ _ _ _ _ _ (by decide)).trans ((State.rd_wr_same _ _ _ _ _ (by decide)).trans (Nat.mod_eq_of_lt hst))
  · exact (State.rd_wr_same _ _ _ _ _ (by decide)).trans (Nat.mod_eq_of_lt hc)

theorem State.flashBegun_spec (s : State) (op len : Nat) :
    ((s.flashBegun op len).rd F.BOOT_FLASH_STATUS.STATE, (s.flashBegun op len).rd F.BOOT_FLASH_STATUS.CAUSE) = (1, 0) ∧
      s.flashBegun op len = { s with
        regs := (s.flashBegun op len).regs, boot := { s.boot with flashBusy := some (op, s.rd F.BOOT_FLASH_ADDR.ADDR, len) } } ∧
      regsApart [F.BOOT_FLASH_STATUS.STATE.off] s (s.flashBegun op len) := by
  obtain ⟨hshown, hapart⟩ := s.flashShown 1 0 (by decide) (by decide)
  exact ⟨hshown, rfl, regsApart_regs hapart rfl⟩

theorem exec_flashErase (hserves : s.serves m F.BOOT_FLASH_CMD.OP.off = true) (h : s.flashRefuses 1 65536 = none) :
    exec (.flashErase m) s = .next (s.flashBegun 1 65536) := by
  show execFlashErase m s = _
  unfold execFlashErase
  rw [State.gated_serves _ _ _ _ hserves, State.flashStart_begins h]
  rfl

theorem exec_flashProgram {len : BitVec 13} (hserves : s.serves m F.BOOT_FLASH_CMD.OP.off = true) (h : s.flashRefuses 2 len.toNat = none) :
    exec (.flashProgram m len) s = .next (s.flashBegun 2 len.toNat) := by
  show execFlashProgram m len s = _
  unfold execFlashProgram
  rw [State.gated_serves _ _ _ _ hserves, State.flashStart_begins h]
  rfl

theorem exec_flashRead (len : BitVec 13) (hserves : s.serves m F.BOOT_FLASH_CMD.OP.off = true) :
    exec (.flashRead m len) s = .next (s.flashStart 3 len.toNat) := by
  show execFlashRead m len s = _
  unfold execFlashRead
  rw [State.gated_serves _ _ _ _ hserves]
  rfl

/-- The end of a flash command shown. -/
def State.flashEnded (s : State) (ok : Bool) : State :=
  (s.wr F.BOOT_FLASH_STATUS.STATE (if ok then 2 else 3)).wr F.BOOT_FLASH_STATUS.CAUSE (if ok then 0 else 3)

theorem exec_flashCommandDone_write {op a n : Nat} {bs : List Byte} (hbusy : s.boot.flashBusy = some (op, a, n))
    (hop : op = 1 ∧ bs = List.replicate n 0xFF#8 ∨ op = 2 ∧ bs = memRead s.boot.flashBuf 0 n) : exec (.flashCommandDone true) s =
      .next (({ s with boot := { s.boot with flashBusy := none, flash := flashWrite s.boot.flash a bs } } : State).flashEnded true) := by
  show execFlashCommandDone true s = _
  unfold execFlashCommandDone
  rw [hbusy]
  rcases hop with ⟨rfl, rfl⟩ | ⟨rfl, rfl⟩
  · rfl
  · rfl

theorem exec_flashCommandDone_read {a n : Nat} (hbusy : s.boot.flashBusy = some (3, a, n)) : exec (.flashCommandDone true) s =
    .next (({ s with boot := { s.boot with flashBusy := none, flashBuf := memWrite s.boot.flashBuf 0 (s.flashRead a n) } } :
      State).flashEnded true) := by
  show execFlashCommandDone true s = _
  unfold execFlashCommandDone
  rw [hbusy]
  rfl

theorem exec_flashCommandDone_failed {a n : Nat} (hbusy : s.boot.flashBusy = some (3, a, n)) : exec (.flashCommandDone false) s =
    .next (({ s with free := s.free + n, boot := { s.boot with
      flashBusy := none, flashBuf := memWrite s.boot.flashBuf 0 (s.freeBytes n).1 } } : State).flashEnded false) := by
  show execFlashCommandDone false s = _
  unfold execFlashCommandDone
  rw [hbusy]
  rfl

end

/-- Settles O48: PROGRAM and REVOKE of a slot and a staged lower half; their ends; an erase, a program and a read begun, and one refused;
their ends, and the end of a read that fails. -/
theorem fusesAndTheCatalogueFlashAreWritten : Obligations.FusesAndTheCatalogueFlashAreWritten := by
  unfold Obligations.FusesAndTheCatalogueFlashAreWritten
  refine ⟨fun s m h v slot hserves hv hacts hslot hprogram hmode hblank hidle => ?_,
    fun s m h v slot hserves hv hacts hslot hrevoke hmode hset hother hidle => ?_, fun s m x hserves => ?_,
    fun s n hash hbusy hn => ?_, fun s n hash hbusy hn => ?_, fun s m hserves hfree => ?_, fun s m len hserves hfree => ?_,
    fun s m len hserves hfree => ?_, fun s m len hserves hbusy => ?_, fun s a n hbusy => ?_, fun s a n hbusy => ?_, fun s a n hbusy => ?_,
    fun s a n hbusy => ?_⟩
  · subst hv
    exact ⟨_, exec_fuseProgram hserves hacts hslot hprogram hmode hblank hidle, rfl⟩
  · subst hv
    exact ⟨_, exec_fuseRevoke hserves hacts hslot hrevoke hmode hset hother hidle, rfl⟩
  · have hexec : exec (.fuseProgram m ⟨false, false, x⟩) s = .next { s with
        halves := smSet halfNone s.halves F.BOOT_FUSE_PROG.SLOT.off (halfOver ⟨false, false, x⟩ (s.halfReg F.BOOT_FUSE_PROG.SLOT.off)).toNat } := by
      show execFuseProgram m _ s = _
      unfold execFuseProgram
      rw [State.gated_serves _ _ _ _ hserves, State.halfWrite_stages]
      rfl
    refine ⟨_, hexec, ?_, ?_, rfl⟩
    · rw [State.halfReg_staged s _ _ _ rfl, halfOver_upper]
    · rw [State.halfReg_staged s _ _ _ rfl, halfOver_lower]
  · refine ⟨_, exec_fuseOperationDone hbusy _ rfl, ?_, ?_, ?_, rfl, ?_⟩
    · unfold State.keySet
      rw [if_neg Bool.false_ne_true, State.rd_wr_same _ _ _ _ _ (by decide)]
      exact decide_eq_true (or_two_pow_bit _ n hn)
    · exact smGet_smSet_same (fun _ => 0) s.boot.fuseHash n hash
    · exact State.rd_wr_apart _ _ _ _ _ _ _ (by decide)
    · exact regsApart_wr _ _ (regsApart_regs regsApart_refl rfl) (by decide)
  · refine ⟨_, exec_fuseOperationDone hbusy _ rfl, ?_, ?_, rfl, ?_⟩
    · unfold State.keyRevoked
      rw [if_pos rfl, State.rd_wr_same _ _ _ _ _ (by decide)]
      exact decide_eq_true (or_two_pow_bit _ n hn)
    · exact State.rd_wr_apart _ _ _ _ _ _ _ (by decide)
    · exact regsApart_wr _ _ (regsApart_regs regsApart_refl rfl) (by decide)
  · exact ⟨_, exec_flashErase hserves hfree, s.flashBegun_spec 1 65536⟩
  · exact ⟨_, exec_flashProgram hserves hfree, s.flashBegun_spec 2 len.toNat⟩
  · exact ⟨_, (exec_flashRead len hserves).trans (congrArg Host.Outcome.next (State.flashStart_begins hfree)), s.flashBegun_spec 3 len.toNat⟩
  · obtain ⟨hshown, hapart⟩ := s.flashShown 3 4 (by decide) (by decide)
    exact ⟨_, (exec_flashRead len hserves).trans (congrArg Host.Outcome.next (State.flashStart_busy 3 len.toNat hbusy)), hshown, rfl, hapart⟩
  · have hlen : (List.replicate n 0xFF#8).length = n := List.length_replicate
    obtain ⟨hshown, hapart⟩ := State.flashShown ({ s with boot := { s.boot with
      flashBusy := none, flash := flashWrite s.boot.flash a (List.replicate n 0xFF#8) } } : State) 2 0 (by decide) (by decide)
    refine ⟨_, exec_flashCommandDone_write hbusy (.inl ⟨rfl, rfl⟩), ?_, fun x hx => ?_, hshown, rfl, hapart⟩
    · have h := flashRead_flashWrite s.boot.flash a (List.replicate n 0xFF#8)
      rwa [hlen] at h
    · exact smGet_flashWrite_outside _ _ _ _ (by rwa [hlen])
  · have hlen : (memRead s.boot.flashBuf 0 n).length = n := length_memRead _ _ _
    obtain ⟨hshown, hapart⟩ := State.flashShown ({ s with boot := { s.boot with
      flashBusy := none, flash := flashWrite s.boot.flash a (memRead s.boot.flashBuf 0 n) } } : State) 2 0 (by decide) (by decide)
    refine ⟨_, exec_flashCommandDone_write hbusy (.inr ⟨rfl, rfl⟩), ?_, fun x hx => ?_, hshown, rfl, hapart⟩
    · have h := flashRead_flashWrite s.boot.flash a (memRead s.boot.flashBuf 0 n)
      rwa [hlen] at h
    · exact smGet_flashWrite_outside _ _ _ _ (by rwa [hlen])
  · have hlen : (s.flashRead a n).length = n := by
      unfold State.flashRead
      rw [List.length_map, List.length_range]
    obtain ⟨hshown, hapart⟩ := State.flashShown ({ s with boot := { s.boot with
      flashBusy := none, flashBuf := memWrite s.boot.flashBuf 0 (s.flashRead a n) } } : State) 2 0 (by decide) (by decide)
    refine ⟨_, exec_flashCommandDone_read hbusy, memRead_memWrite_of_length _ _ _ _ hlen, fun x hx => ?_, hshown, rfl, hapart⟩
    exact smGet_memWrite_outside _ _ _ _ (.inr (by omega))
  · have hlen : (s.freeBytes n).1.length = n := by
      unfold State.freeBytes
      rw [List.length_map, List.length_range]
    obtain ⟨hshown, hapart⟩ := State.flashShown ({ s with free := s.free + n, boot := { s.boot with
      flashBusy := none, flashBuf := memWrite s.boot.flashBuf 0 (s.freeBytes n).1 } } : State) 3 3 (by decide) (by decide)
    refine ⟨_, exec_flashCommandDone_failed hbusy, hshown, fun x hx => ?_, rfl, hapart⟩
    exact smGet_memWrite_outside _ _ _ _ (.inr (by omega))

end Sys2Proof.Machine
end

section
/-! SUPPORT. The far counter in a leaf that the Guard's action ends (R329, R365). The unsent slots of the leaf count as an event, and the
count of counter 16,288 stands at the offset of PAD_SUPPLY0, whose reading the statement holds after a supply excursion. -/
namespace Sys2Proof.Machine

/-- A device in PREVIEW whose tracker runs a leaf, and in which counter 16,288 had the selection of slots that are not sent in this cycle. -/
def State.supplyFar : State :=
  { ((State.reset.wr F.BOOT_STATUS.MODE 2).wr F.SLT_STATUS.STATE 2) with
    fol := { State.reset.fol with
      place0 := some { leafNew 0 with hdr := some pecFarHdr, admitted := true }
      order := [0]
      cur := some 0 }
    pmc := { State.reset.pmc with selWas := [(0x3FA0, (State.reset.cycle, farWord 0x41))] } }

/-- Refutes O49: the Guard's action on a supply excursion to 0 V ends the leaf, and its 529 unsent slots are added to PAD_SUPPLY0.NOW. -/
theorem not_theGuardActsOnItsCauses : ¬ Obligations.TheGuardActsOnItsCauses := by
  unfold Obligations.TheGuardActsOnItsCauses
  rintro ⟨-, -, -, -, -, -, -, -, -, -, hsupply, -⟩
  obtain ⟨t, hexec, hread, -⟩ := hsupply State.supplyFar 0 0 (by decide +kernel) rfl (by decide)
  have hnow : (F.PAD_SUPPLY.NOW 0).get (outcomeReg (F.PAD_SUPPLY.NOW 0).off (exec (.supplyExcursion 0 0 true) State.supplyFar)) = 0 := by
    rw [hexec]
    exact congrArg Prod.fst hread
  exact absurd hnow (by decide +kernel)

end Sys2Proof.Machine
end

section
/-! SUPPORT. The Guard's action on its first cause (R327 to R329), and the latent-fault self-tests (R330 to R333). -/
namespace Sys2Proof.Machine

/-! ### Steps behind the Guard's state -/

/-- A step that leaves the Guard's state and registers, the pins and the queue, and the registers of the pair; the INDEX of the Guard's
record may change. -/
structure Watched (s t : State) : Prop where
  saf : ∃ i, t.saf = { s.saf with recordIndex := i }
  pin : t.pin = s.pin
  pending : t.pending = s.pending
  kept : ∀ o, o / 0x10000 = 0x1D ∨ o / 0x10000 = 0x1E → t.reg o = s.reg o

namespace Watched

variable {s t u : State}

theorem refl (s : State) : Watched s s := ⟨⟨s.saf.recordIndex, rfl⟩, rfl, rfl, fun _ _ => rfl⟩

theorem trans (h : Watched s t) (h' : Watched t u) : Watched s u := by
  obtain ⟨i, hi⟩ := h.saf
  obtain ⟨j, hj⟩ := h'.saf
  exact ⟨⟨j, by rw [hj, hi]⟩, h'.pin.trans h.pin, h'.pending.trans h.pending, fun o ho => (h'.kept o ho).trans (h.kept o ho)⟩

theorem wr (h : Watched s t) (f : Field) (v : Nat) (hf : f.off / 0x10000 ≠ 0x1D ∧ f.off / 0x10000 ≠ 0x1E) : Watched s (t.wr f v) :=
  ⟨h.saf, h.pin, h.pending, fun o ho => (State.reg_wr_ne _ _ _ _ (by rintro rfl; omega)).trans (h.kept o ho)⟩

theorem ite (c : Prop) [Decidable c] (h : Watched s t) (h' : Watched s u) : Watched s (if c then t else u) := by
  split
  · exact h
  · exact h'

theorem foldl {α : Type} (f : State → α → State) : ∀ (xs : List α), (∀ s, ∀ a ∈ xs, Watched s (f s a)) → ∀ s, Watched s (xs.foldl f s)
  | [], _, s => refl s
  | a :: xs, h, s => (h s a List.mem_cons_self).trans (foldl f xs (fun s b hb => h s b (List.mem_cons_of_mem _ hb)) (f s a))

theorem of_noted {blocks : Nat → Bool} (h : Noted blocks s t) (h1 : blocks 0x1D = false) (h2 : blocks 0x1E = false) : Watched s t := by
  refine ⟨⟨s.saf.recordIndex, by rw [h.parts]⟩, by rw [h.parts], by rw [h.parts], fun o ho => h.outside o ?_⟩
  rcases ho with ho | ho
  · rw [ho, h1]
  · rw [ho, h2]

theorem rd (h : Watched s t) (o l w : Nat) (ho : o / 0x10000 = 0x1D ∨ o / 0x10000 = 0x1E) : t.rd ⟨o, l, w⟩ = s.rd ⟨o, l, w⟩ := by
  unfold State.rd
  rw [h.kept o ho]

theorem of_logged {event : Nat} (h : Logged event s t) : Watched s t :=
  of_noted (Noted.of_logged (blocks := recordBlocks) h (by decide) (by decide)) (by decide) (by decide)

theorem lac (h : Watched s t) (x : LacSt) : Watched s { t with lac := x } := ⟨h.saf, h.pin, h.pending, h.kept⟩

theorem axm (h : Watched s t) (x : AxmSt) : Watched s { t with axm := x } := ⟨h.saf, h.pin, h.pending, h.kept⟩

end Watched

theorem State.faultEvent_watched (s : State) : Watched s s.faultEvent :=
  Watched.of_noted (blocks := recordBlocks) ((Noted.refl _ s).announce 5 25 (by decide)) (by decide) (by decide)

/-! ### The leaf and the axes -/

theorem State.lacClose_watched (s : State) (r : LacRec) : Watched s (s.lacClose r) := by
  obtain ⟨x, h⟩ := s.lacClose_noted r
  exact ((Watched.refl s).lac x).trans (Watched.of_noted h (by decide) (by decide))

theorem State.stopAfter_watched (s : State) (p : Nat) (l : Leaf) (h : LeafHdr) (c : Int) (orderly : Bool) :
    Watched s (s.stopAfter p l h c orderly) := by
  have hstop := s.stopAfter_stopped p l h c orderly
  generalize s.stopAfter p l h c orderly = t at hstop
  refine ⟨⟨s.saf.recordIndex, by rw [hstop.parts]⟩, by rw [hstop.parts], by rw [hstop.parts], fun o ho => hstop.kept o ?_ ?_⟩
  · unfold endKeeps
    rcases ho with ho | ho <;> simp [ho]
  · show o ≠ 0x130050
    omega

theorem State.guardLeaf_watched (s : State) : Watched s s.guardLeaf := by
  unfold State.guardLeaf
  split
  · exact Watched.refl s
  · refine Watched.ite _ (Watched.refl s) ?_
    obtain ⟨x, hrel⟩ := s.lacCloseRel_noted
    have hclose : Watched s s.lacCloseRel :=
      ((Watched.refl s).lac x).trans (Watched.of_noted hrel (by decide) (by decide))
    refine Watched.trans (Watched.ite _ ?_ hclose) (State.stopAfter_watched _ _ _ _ _ _)
    split
    · exact hclose.trans (State.lacClose_watched _ _)
    · exact hclose.trans (State.lacClose_watched _ _)

theorem State.axHalt_watched (s : State) (stopped : List Nat) (all : Bool) : Watched s (s.axHalt stopped all) := by
  have hmask : ∀ (m : Nat) (u : State) (fast : Nat → Bool), Watched u ((maskAxes m).foldl (fun s a =>
      (s.whenD (fast a) (fun s => s.clr (F.AXM_POS.HOMED a))).clr (F.AXM_POS.MOVING a)) u) := fun m u fast => by
    refine Watched.foldl _ _ (fun v a ha => ?_) u
    have hlt := ((mem_maskAxes m a).mp ha).1
    have hblock : (F.AXM_POS.HOMED a).off / 0x10000 ≠ 0x1D ∧ (F.AXM_POS.HOMED a).off / 0x10000 ≠ 0x1E := by
      simp only
      omega
    exact Watched.wr (Watched.ite _ ((Watched.refl v).wr (F.AXM_POS.HOMED a) 0 hblock) (Watched.refl v)) (F.AXM_POS.MOVING a) 0 hblock
  have hdrop : ∀ u : State, Watched u (u.axDrop stopped all) := fun u => by
    unfold State.axDrop
    exact Watched.foldl _ _ (fun v a _ => Watched.ite _ ((Watched.refl v).axm _) (Watched.refl v)) u
  unfold State.axHalt
  refine Watched.trans (Watched.axm ?_ _) (hdrop _)
  split
  · exact Watched.refl s
  · exact hmask _ _ _

theorem State.axGuard_watched (s : State) : Watched s s.axGuard := by
  have hmark : ∀ u : State, Watched u (u.axMark axes 6 0) := fun u => by
    have h := ((((Watched.refl u).wr F.AXM_LAST_STOP.AXES (axesMask axes) (by decide)).wr F.AXM_LAST_STOP.CAUSE 6 (by decide)).wr
      F.AXM_LAST_STOP.AXIS 0 (by decide))
    have hcount : ∀ v : State, Watched v (((v.wr F.AXM_LAST_STOP.TIME_NS v.nowNs).incSat F.AXM_COUNTS.STOPS).wr (F.DOC_ROUTE.PENDING 15) 1) :=
      fun v => (((Watched.refl v).wr _ _ (by decide)).wr F.AXM_COUNTS.STOPS _ (by decide)).wr _ _ (by decide)
    exact h.trans (hcount _)
  have hhold : ∀ u : State, Watched u (u.axHold 6) := fun u => ((Watched.refl u).axm _).wr _ _ (by decide)
  unfold State.axGuard State.axStop
  exact ((s.axHalt_watched axes true).trans (hhold _)).trans (hmark _)

/-! ### The record -/

theorem State.aclPut_watched (s : State) (r : AclRec) : Watched s (s.aclPut r) := Watched.of_logged (s.aclPut_logged r)

theorem Watched.acl {s t : State} (h : Watched s t) (x : AclSt) : Watched s { t with acl := x } := ⟨h.saf, h.pin, h.pending, h.kept⟩

theorem State.aclDrain_watched (s : State) : Watched s s.aclDrain := by
  unfold State.aclDrain State.whenD
  dsimp only
  have hput : Watched s ((s.acl.queue.foldl State.aclPut { s with acl := { s.acl with queue := [], lost := 0 } }).wr F.ACL_STATUS.QUEUED 0) :=
    (((Watched.refl s).acl _).trans (Watched.foldl _ _ (fun v r _ => v.aclPut_watched r) _)).wr _ _ (by decide)
  exact Watched.ite _ ((hput.acl _).trans (State.aclPut_watched _ _)) hput

theorem State.aclGuard_watched (s : State) (data : List Byte) : Watched s (s.aclGuard data) := by
  have hthaw : Watched s (if s.bit F.ACL_STATUS.FROZEN then s.aclThaw else s) := by
    refine Watched.ite _ ?_ (Watched.refl s)
    have hclear := ((Watched.refl s).wr F.ACL_STATUS.FROZEN 0 (by decide)).wr F.ACL_CTL.FREEZE 0 (by decide)
    exact Watched.ite _ hclear (hclear.trans (State.aclDrain_watched _))
  unfold State.aclGuard
  generalize (if s.bit F.ACL_STATUS.FROZEN then s.aclThaw else s) = u at hthaw ⊢
  have hend : Watched s (if u.acl.clearing && !u.acl.matched then
      ({ u with acl := { u.acl with clearChal := none, clearing := false } } : State).aclDrain else u) :=
    Watched.ite _ ((hthaw.acl _).trans (State.aclDrain_watched _)) hthaw
  dsimp only
  generalize (if u.acl.clearing && !u.acl.matched then
      ({ u with acl := { u.acl with clearChal := none, clearing := false } } : State).aclDrain else u) = v at hend ⊢
  have hindex : ∀ (x : AclSt) (i : Nat), Watched s { v with acl := x, saf := { v.saf with recordIndex := i } } := fun x i => by
    obtain ⟨j, hj⟩ := hend.saf
    exact ⟨⟨i, by rw [hj]⟩, hend.pin, hend.pending, hend.kept⟩
  exact Watched.ite _ ((hindex _ _).wr F.ACL_STATUS.QUEUED _ (by decide)) ((hindex _ _).trans (State.aclPut_watched _ _))

/-! ### The action -/

/-- The Guard's registers as it begins to act: its first cause and time, and its state. -/
def State.guardShown (s : State) (cause : Nat) : State :=
  (((((s.wr F.SAF_CAUSES.SEEN (s.rd F.SAF_CAUSES.SEEN ||| 2 ^ (cause - 1))).wr F.SAF_STATUS.FIRST_CAUSE cause).wr F.SAF_ENTRY.TIME_S s.nowS).wr
      F.SAF_ENTRY.TIME_NS s.nowNs).wr F.SAF_STATUS.STATE 1).wr F.SAF_STATUS.BLANK_DRIVE 1

/-- The Guard acts, and TWIN_FAIL_OUT is high. -/
def State.guardBegun (s : State) (cause : Nat) : State :=
  { s.guardShown cause with saf := { s.saf with acting := true, firstCycle := s.cycle }, pin := { s.pin with failOut := true } }

theorem State.guardDemand_first {s : State} {cause : Nat} (hmode : s.mode ≠ 0) (hrest : s.saf.acting = false) :
    ∃ data, s.guardDemand cause =
      (((((s.guardBegun cause).windowLow.guardLeaf.clr F.TWN_STATUS.AUTH).axGuard).blankRelease).aclGuard data).faultEvent := by
  unfold State.guardDemand
  rw [if_neg hmode]
  dsimp only
  rw [if_neg (by rw [State.wr_saf, hrest]; exact Bool.false_ne_true)]
  exact ⟨_, rfl⟩

theorem State.guardShown_spec (s : State) {cause : Nat} (hlow : 1 ≤ cause) (hhigh : cause ≤ 14) :
    ((s.guardShown cause).rd F.SAF_STATUS.STATE, (s.guardShown cause).rd F.SAF_STATUS.FIRST_CAUSE) = (1, cause) ∧
    (s.guardShown cause).rd F.SAF_CAUSES.SEEN = s.rd F.SAF_CAUSES.SEEN ||| 2 ^ (cause - 1) ∧
    (s.guardShown cause).reg 0x1E0030 = s.reg 0x1E0030 := by
  have hseen : s.rd F.SAF_CAUSES.SEEN ||| 2 ^ (cause - 1) < 2 ^ 14 :=
    Nat.or_lt_two_pow (State.rd_lt s _) (Nat.pow_lt_pow_right (by decide) (by omega))
  unfold State.guardShown
  generalize s.rd F.SAF_CAUSES.SEEN ||| 2 ^ (cause - 1) = seen at hseen
  generalize s.nowS = a
  generalize s.nowNs = b
  refine ⟨Prod.ext ?_ ?_, ?_, ?_⟩
  · show State.rd _ F.SAF_STATUS.STATE = 1
    rw [State.rd_wr_apart _ _ _ _ _ _ _ (by decide), State.rd_wr_same _ _ _ _ _ (by decide)]
    rfl
  · show State.rd _ F.SAF_STATUS.FIRST_CAUSE = cause
    rw [State.rd_wr_apart _ _ _ _ _ _ _ (by decide), State.rd_wr_apart _ _ _ _ _ _ _ (by decide), State.rd_wr_off _ _ _ _ _ _ _ _ (by decide),
      State.rd_wr_off _ _ _ _ _ _ _ _ (by decide), State.rd_wr_same _ _ _ _ _ (by decide)]
    exact Nat.mod_eq_of_lt (by omega)
  · rw [State.rd_wr_off _ _ _ _ _ _ _ _ (by decide), State.rd_wr_off _ _ _ _ _ _ _ _ (by decide), State.rd_wr_off _ _ _ _ _ _ _ _ (by decide),
      State.rd_wr_off _ _ _ _ _ _ _ _ (by decide), State.rd_wr_off _ _ _ _ _ _ _ _ (by decide), State.rd_wr_same _ _ _ _ _ (by decide)]
    exact Nat.mod_eq_of_lt hseen
  · rw [State.reg_wr_ne _ _ _ _ (by decide), State.reg_wr_ne _ _ _ _ (by decide), State.reg_wr_ne _ _ _ _ (by decide),
      State.reg_wr_ne _ _ _ _ (by decide), State.reg_wr_ne _ _ _ _ (by decide), State.reg_wr_ne _ _ _ _ (by decide)]

theorem State.guardBegun_spec (s : State) {cause : Nat} (hlow : 1 ≤ cause) (hhigh : cause ≤ 14) : ∃ t, s.guardBegun cause = t ∧
    (t.rd F.SAF_STATUS.STATE, t.rd F.SAF_STATUS.FIRST_CAUSE) = (1, cause) ∧
    t.rd F.SAF_CAUSES.SEEN = s.rd F.SAF_CAUSES.SEEN ||| 2 ^ (cause - 1) ∧ t.reg 0x1E0030 = s.reg 0x1E0030 ∧
    t.saf = { s.saf with acting := true, firstCycle := s.cycle } ∧ t.pin = { s.pin with failOut := true } ∧ t.pending = s.pending := by
  obtain ⟨hstatus, hseen, hlatent⟩ := s.guardShown_spec hlow hhigh
  have hpending : (s.guardShown cause).pending = s.pending := by
    unfold State.guardShown
    simp only [State.wr_pending]
  have heq : ∃ u, u = s.guardShown cause ∧
      s.guardBegun cause = { u with saf := { s.saf with acting := true, firstCycle := s.cycle }, pin := { s.pin with failOut := true } } :=
    ⟨_, rfl, rfl⟩
  obtain ⟨u, hu, heq⟩ := heq
  rw [← hu] at hstatus hseen hlatent hpending
  rw [heq]
  exact ⟨_, rfl, hstatus, hseen, hlatent, rfl, rfl, hpending⟩

/-- What the Guard's action on a first cause leaves; the other registers of the Guard stay. -/
theorem State.guardDemand_spec {s : State} {cause : Nat} (hmode : s.mode ≠ 0) (hrest : s.saf.acting = false) (hlow : 1 ≤ cause)
    (hhigh : cause ≤ 14) : ∃ t, s.guardDemand cause = t ∧ guardActs cause s t ∧ t.saf.groupRunning = s.saf.groupRunning ∧
      t.reg 0x1E0030 = s.reg 0x1E0030 := by
  obtain ⟨data, heq⟩ := State.guardDemand_first (cause := cause) hmode hrest
  obtain ⟨u, hu, hstatus, hseen, hlatent, hsaf, hpin, hpending⟩ := s.guardBegun_spec hlow hhigh
  rw [heq, hu]
  have hwindow : Watched u u.windowLow := ⟨⟨_, rfl⟩, rfl, rfl, fun _ _ => rfl⟩
  have hleaf := hwindow.trans u.windowLow.guardLeaf_watched
  generalize u.windowLow.guardLeaf = v at hleaf ⊢
  have haxes := (v.clr F.TWN_STATUS.AUTH).axGuard_watched
  have hauth : (v.clr F.TWN_STATUS.AUTH).rd F.TWN_STATUS.AUTH = 0 := State.rd_wr_same _ _ _ _ _ (by decide)
  have hclr : ∀ o, o ≠ 0x1D0010 → (v.clr F.TWN_STATUS.AUTH).reg o = v.reg o := fun o ho => State.reg_wr_ne _ _ _ _ ho
  have hclrsaf : (v.clr F.TWN_STATUS.AUTH).saf = v.saf ∧ (v.clr F.TWN_STATUS.AUTH).pin = v.pin ∧ (v.clr F.TWN_STATUS.AUTH).pending = v.pending :=
    ⟨State.wr_saf _ _ _, State.wr_pin _ _ _, State.wr_pending _ _ _⟩
  generalize v.clr F.TWN_STATUS.AUTH = w at haxes hauth hclr hclrsaf ⊢
  generalize w.axGuard = x at haxes ⊢
  have hpeer : x.pin = { s.pin with failOut := true } := by rw [haxes.pin, hclrsaf.2.1, hleaf.pin, hpin]
  obtain ⟨y, hy⟩ : ∃ y, y = x.blankRelease := ⟨_, rfl⟩
  have hrelease : y = x.wrBit F.SAF_STATUS.BLANK_DRIVE (!s.pin.peerHigh) := by
    rw [hy]
    unfold State.blankRelease
    rw [hpeer]
  have hrecord := (y.aclGuard_watched data).trans (State.faultEvent_watched _)
  rw [← hy]
  generalize (y.aclGuard data).faultEvent = t at hrecord ⊢
  have hxreg : ∀ o, o / 0x10000 = 0x1E → x.reg o = u.reg o := fun o ho => by
    rw [haxes.kept o (.inr ho), hclr o (by rintro rfl; exact absurd ho (by decide)), hleaf.kept o (.inr ho)]
  have hyfield : ∀ o lo w', o / 0x10000 = 0x1E → (o ≠ 0x1E0018 ∨ lo + w' ≤ 2 ∨ 3 ≤ lo) → y.rd ⟨o, lo, w'⟩ = u.rd ⟨o, lo, w'⟩ :=
    fun o lo w' ho hne => by
      rw [hrelease]
      have hx : x.rd ⟨o, lo, w'⟩ = u.rd ⟨o, lo, w'⟩ := by
        unfold State.rd
        rw [hxreg o ho]
      by_cases hoff : o = 0x1E0018
      · subst hoff
        exact (State.rd_wr_apart _ _ _ _ _ _ _ (by omega)).trans hx
      · exact (State.rd_wr_off _ _ _ _ _ _ _ _ (Ne.symm hoff)).trans hx
  obtain ⟨i, hi⟩ := hleaf.saf
  obtain ⟨j, hj⟩ := haxes.saf
  obtain ⟨k, hk⟩ := hrecord.saf
  have hysaf : y.saf = x.saf ∧ y.pin = x.pin ∧ y.pending = x.pending := by
    rw [hrelease]
    exact ⟨State.wr_saf _ _ _, State.wr_pin _ _ _, State.wr_pending _ _ _⟩
  have htsaf : t.saf = { s.saf with acting := true, firstCycle := s.cycle, recordIndex := k } := by
    rw [hk, hysaf.1, hj, hclrsaf.1, hi, hsaf]
  simp only [Prod.mk.injEq] at hstatus
  refine ⟨t, rfl, ⟨?_, ?_, ?_, ?_⟩, by rw [htsaf], ?_⟩
  · rw [htsaf, hrecord.pin, hysaf.2.1, hpeer, hrecord.pending, hysaf.2.2, haxes.pending, hclrsaf.2.2, hleaf.pending, hpending]
  · rw [hrecord.rd _ _ _ (.inr (by decide)), hrecord.rd _ _ _ (.inr (by decide)), hrecord.rd _ _ _ (.inl (by decide)),
      hyfield _ _ _ (by decide) (.inr (.inl (by decide))), hyfield _ _ _ (by decide) (.inr (.inr (by decide))), hstatus.1, hstatus.2]
    have hyauth : y.rd F.TWN_STATUS.AUTH = x.rd F.TWN_STATUS.AUTH := by
      rw [hrelease]
      exact State.rd_wr_off _ _ _ _ _ _ _ _ (by decide)
    rw [hyauth, haxes.rd _ _ _ (.inl (by decide)), hauth]
  · rw [hrecord.rd _ _ _ (.inr (by decide)), hyfield _ _ _ (by decide) (.inl (by decide)), hseen]
  · have hbit : y.bit F.SAF_STATUS.BLANK_DRIVE = !s.pin.peerHigh := by
      rw [hrelease]
      exact State.bit_wrBit_same _ _ _ _ (by decide)
    rw [← hbit]
    exact congrArg (· != 0) (hrecord.rd _ _ _ (.inr (by decide)))
  · have hylatent : y.reg 0x1E0030 = x.reg 0x1E0030 := by
      rw [hrelease]
      exact State.reg_wr_ne _ _ _ _ (by decide)
    rw [hrecord.kept _ (.inr (by decide)), hylatent, hxreg _ (by decide), hlatent]

end Sys2Proof.Machine
end

section
/-! SUPPORT. The groups of the latent-fault self-tests (R330 to R333). -/
namespace Sys2Proof.Machine

/-! ### The tests of a group -/

/-- The registers that the tests of a group write: the injection, and the eyes in block MEM. -/
def testedReg (o : Nat) : Bool := o = F.TAL_INJECT.ARM.off || o / 0x10000 = 0x18

/-- A step of the tests of a group: its registers, and the sums of the self-test tile. -/
structure Tested (s t : State) : Prop where
  parts : t = { s with regs := t.regs, saf := { s.saf with selfSums := t.saf.selfSums } }
  kept : ∀ o, testedReg o = false → t.reg o = s.reg o

namespace Tested

variable {s t u : State}

theorem refl (s : State) : Tested s s := ⟨rfl, fun _ _ => rfl⟩

theorem trans (h : Tested s t) (h' : Tested t u) : Tested s u :=
  ⟨by rw [h'.parts, h.parts], fun o ho => (h'.kept o ho).trans (h.kept o ho)⟩

theorem wr (h : Tested s t) (f : Field) (v : Nat) (hf : testedReg f.off = true) : Tested s (t.wr f v) :=
  h.trans ⟨rfl, fun o ho => State.reg_wr_ne _ _ _ _ (fun e => by rw [e, hf] at ho; cases ho)⟩

theorem rd (h : Tested s t) (o l w : Nat) (ho : testedReg o = false) : t.rd ⟨o, l, w⟩ = s.rd ⟨o, l, w⟩ := by
  unfold State.rd
  rw [h.kept o ho]

end Tested

theorem State.selfTile_tested (s : State) : Tested s s.selfTile ∧ s.selfTile.bit F.TAL_INJECT.ARM = false := by
  obtain ⟨sums, hsums⟩ : ∃ sums, s.selfTile = { s.clr F.TAL_INJECT.ARM with saf := { s.saf with selfSums := sums } } := ⟨_, rfl⟩
  rw [hsums]
  refine ⟨⟨rfl, fun o ho => State.reg_wr_ne _ _ _ _ (fun e => ?_)⟩, ?_⟩
  · rw [e] at ho
    exact absurd ho (by decide)
  · rw [State.bit_mk]
    exact State.bit_wrBit_same s 0x60028 0 false (by decide)

/-- An eye shown, where the sample names it. -/
def State.eyeShown (s : State) (c : Nat) (es : List Nat) (n : Nat) : State := match es[n]? with
  | some e => (s.wr (F.MEM_CH_TRAIN.EYE c n) (min e 255)).wrBit (F.MEM_CH_TRAIN.PASS c n) (decide (32 ≤ e))
  | none => s

theorem State.eyesMeasured_eq (s : State) (g : Nat) (eyes : List Nat) : s.eyesMeasured g eyes =
    if g = 0 || g = 7 || !s.trained (g - 1) then (s, false)
    else ((List.range 10).foldl (fun s n => s.eyeShown (g - 1) (eyes.take 10) n) s, (eyes.take 10).any (fun e => e < 32)) := rfl

/-- What T9 measures; no eye is too narrow where each is 32 or more wide. -/
theorem State.eyesMeasured_tested (s : State) {g : Nat} (hg : g < 8) (eyes : List Nat) : Tested s (s.eyesMeasured g eyes).1 ∧
    ((∀ e ∈ eyes, 32 ≤ e) → (s.eyesMeasured g eyes).2 = false) := by
  have hone : ∀ (u : State) n, g ≠ 0 → g ≠ 7 → n < 10 → Tested u (u.eyeShown (g - 1) (eyes.take 10) n) := fun u n h0 h7 hn => by
    have hreg : testedReg (0x181100 + 0x800 * (g - 1) + 0x8 * n) = true := by
      unfold testedReg
      simp only [Bool.or_eq_true, decide_eq_true_eq]
      omega
    unfold State.eyeShown
    split
    · exact ((Tested.refl u).wr _ _ hreg).wr _ _ hreg
    · exact Tested.refl u
  have hall : ∀ (l : List Nat) (u : State), g ≠ 0 → g ≠ 7 → (∀ n ∈ l, n < 10) →
      Tested u (l.foldl (fun s n => s.eyeShown (g - 1) (eyes.take 10) n) u) := fun l => by
    induction l with
    | nil => exact fun u _ _ _ => Tested.refl u
    | cons n l ih =>
      intro u h0 h7 hl
      exact (hone u n h0 h7 (hl n List.mem_cons_self)).trans (ih _ h0 h7 (fun m hm => hl m (List.mem_cons_of_mem _ hm)))
  rw [State.eyesMeasured_eq]
  split
  · exact ⟨Tested.refl s, fun _ => rfl⟩
  · rename_i hc
    simp only [Bool.or_eq_true, decide_eq_true_eq, not_or] at hc
    refine ⟨hall _ _ hc.1.1 hc.1.2 (fun n hn => List.mem_range.mp hn), fun hwide => ?_⟩
    rw [List.any_eq_false]
    intro e he
    have := hwide e (List.mem_of_mem_take he)
    simpa using this

/-! ### A group -/

/-- Whether T1 is left out, as the twin's tracker is not known to be at rest. -/
def State.t1Skips (s : State) : Bool := s.bit F.TWN_CFG.MODE && !(s.twn.alive && !s.twn.peerRunning)

/-- The start of a group: whether T1 is due, and the record of one that is left out. -/
def State.groupTold (s : State) (g : Nat) : State :=
  ({ s with saf := { s.saf with t1Due := s.t1Skips } } : State).whenD s.t1Skips (fun s =>
    (s.set1 F.SAF_ERR.LATENT_SKIPPED).aclLog 0x0204 (leBytes 1 3 ++ leBytes 1 1 ++ leBytes 1 g))

/-- A group that passes. -/
def State.groupCounted (s : State) (g : Nat) : State :=
  let t := (s.incSat F.SAF_COUNTS.GROUPS).wr F.SAF_LATENT.NEXT_GROUP ((g + 1) % 8)
  if g = 7 then (t.incWrap F.SAF_LATENT.CYCLES).wr F.SAF_LATENT.CYCLE_AGE 0 else t
def State.groupPassed (s : State) (g : Nat) : State :=
  let t := s.groupCounted g
  { t with saf := { t.saf with groupRunning := t.saf.overdue && g ≠ 7, overdue := t.saf.overdue && g ≠ 7 } }

/-- A group with a test that fails. -/
def State.groupFailed (s : State) (g bad : Nat) : State :=
  ((({ s with saf := { s.saf with groupRunning := false } } : State).wr F.SAF_LATENT.FAIL_TEST bad).aclLog 0x0204
    (leBytes 1 1 ++ leBytes 1 bad ++ leBytes 1 g)).guardDemand 12

/-- The tests of a group before its result. -/
def State.groupTested (s : State) (g : Nat) (eyes : List Nat) : State × Bool :=
  ((s.groupTold g).whenD (g = 0) State.selfTile).eyesMeasured g eyes

theorem exec_latentGroupRun {s : State} {fail : Fin 11} {eyes : List Nat} (hrun : s.saf.groupRunning = true) (hrest : s.saf.acting = false)
    (g : Nat) (hg : g = s.rd F.SAF_LATENT.NEXT_GROUP) (bad : Nat)
    (hbad : bad = if (groupTests g).contains fail.val && !(s.t1Skips && fail.val = 1) then fail.val
      else if (s.groupTested g eyes).2 then 9 else 0) :
    exec (.latentGroupRun fail eyes) s =
      .next (if bad ≠ 0 then (s.groupTested g eyes).1.groupFailed g bad else (s.groupTested g eyes).1.groupPassed g) := by
  have heq : exec (.latentGroupRun fail eyes) s = if !s.saf.groupRunning || s.saf.acting then done s
      else match s.groupTested (s.rd F.SAF_LATENT.NEXT_GROUP) eyes with
        | (u, narrow) => if (if (groupTests (s.rd F.SAF_LATENT.NEXT_GROUP)).contains fail.val && !(s.t1Skips && fail.val = 1) then fail.val
              else if narrow then 9 else 0) ≠ 0 then
            done (u.groupFailed (s.rd F.SAF_LATENT.NEXT_GROUP)
              (if (groupTests (s.rd F.SAF_LATENT.NEXT_GROUP)).contains fail.val && !(s.t1Skips && fail.val = 1) then fail.val
                else if narrow then 9 else 0))
          else done (u.groupPassed (s.rd F.SAF_LATENT.NEXT_GROUP)) := rfl
  rw [heq, if_neg (by simp [hrun, hrest]), ← hg]
  generalize s.groupTested g eyes = x at hbad ⊢
  obtain ⟨u, narrow⟩ := x
  dsimp only at hbad ⊢
  rw [← hbad]
  split
  · rfl
  · rfl

/-- What a group that passes leaves. -/
theorem State.groupPassed_spec (s : State) (g : Nat) : ∃ t, s.groupPassed g = t ∧
    (t.rd F.SAF_LATENT.NEXT_GROUP, t.rd F.SAF_COUNTS.GROUPS) = ((g + 1) % 8, min (s.rd F.SAF_COUNTS.GROUPS + 1) 65535) ∧
    (g = 7 → (t.rd F.SAF_LATENT.CYCLES, t.rd F.SAF_LATENT.CYCLE_AGE) = ((s.rd F.SAF_LATENT.CYCLES + 1) % 65536, 0)) ∧
    t.saf = { s.saf with groupRunning := s.saf.overdue && g ≠ 7, overdue := s.saf.overdue && g ≠ 7 } ∧
    t = { s with regs := t.regs, saf := t.saf } ∧ (∀ o, o ≠ 0x1E0030 → o ≠ 0x1E0048 → t.reg o = s.reg o) := by
  have hcount : ∃ u, (s.incSat F.SAF_COUNTS.GROUPS).wr F.SAF_LATENT.NEXT_GROUP ((g + 1) % 8) = u ∧ RegsOnly s u ∧
      u.rd F.SAF_LATENT.NEXT_GROUP = (g + 1) % 8 ∧ u.rd F.SAF_COUNTS.GROUPS = min (s.rd F.SAF_COUNTS.GROUPS + 1) 65535 ∧
      u.rd F.SAF_LATENT.CYCLES = s.rd F.SAF_LATENT.CYCLES ∧ (∀ o, o ≠ 0x1E0030 → o ≠ 0x1E0048 → u.reg o = s.reg o) := by
    refine ⟨_, rfl, rfl, ?_, ?_, ?_, fun o h1 h2 => (State.reg_wr_ne _ _ _ _ h1).trans (State.reg_wr_ne _ _ _ _ h2)⟩
    · exact (State.rd_wr_same _ _ _ _ _ (by decide)).trans (Nat.mod_mod _ _)
    · rw [State.rd_wr_off _ _ _ _ _ _ _ _ (by decide), State.rd_incSat _ _ _ _ (by decide)]
      rfl
    · rw [State.rd_wr_apart _ _ _ _ _ _ _ (by decide)]
      exact State.rd_wr_off _ _ _ _ _ _ _ _ (by decide)
  obtain ⟨u, hu, honly, hnext, hgroups, hcycles, hregs⟩ := hcount
  have hcounted : ∃ v, s.groupCounted g = v ∧ RegsOnly s v ∧ v.rd F.SAF_LATENT.NEXT_GROUP = (g + 1) % 8 ∧
      v.rd F.SAF_COUNTS.GROUPS = min (s.rd F.SAF_COUNTS.GROUPS + 1) 65535 ∧
      (g = 7 → (v.rd F.SAF_LATENT.CYCLES, v.rd F.SAF_LATENT.CYCLE_AGE) = ((s.rd F.SAF_LATENT.CYCLES + 1) % 65536, 0)) ∧
      (∀ o, o ≠ 0x1E0030 → o ≠ 0x1E0048 → v.reg o = s.reg o) := by
    unfold State.groupCounted
    rw [hu]
    dsimp only
    by_cases hlast : g = 7
    · rw [if_pos hlast]
      refine ⟨_, rfl, RegsOnly.trans honly rfl, ?_, ?_, fun _ => Prod.ext ?_ (State.rd_wr_same _ _ _ _ _ (by decide)), fun o h1 h2 => ?_⟩
      · rw [State.rd_wr_apart _ _ _ _ _ _ _ (by decide), ← hnext]
        exact State.rd_wr_apart _ _ _ _ _ _ _ (by decide)
      · rw [State.rd_wr_off _ _ _ _ _ _ _ _ (by decide), ← hgroups]
        exact State.rd_wr_off _ _ _ _ _ _ _ _ (by decide)
      · refine (State.rd_wr_apart _ _ _ _ _ _ _ (by decide)).trans ((State.rd_wr_same _ _ _ _ _ (by decide)).trans ?_)
        rw [hcycles]
        rfl
      · rw [State.reg_wr_ne _ _ _ _ h1, ← hregs o h1 h2]
        exact State.reg_wr_ne _ _ _ _ h1
    · rw [if_neg hlast]
      exact ⟨u, rfl, honly, hnext, hgroups, fun h => absurd h hlast, hregs⟩
  obtain ⟨v, hv, hvonly, hvnext, hvgroups, hvlast, hvregs⟩ := hcounted
  have hvsaf : v.saf = s.saf := by rw [hvonly]
  unfold State.groupPassed
  rw [hv]
  dsimp only
  refine ⟨_, rfl, ?_, hvlast, by rw [hvsaf], ?_, hvregs⟩
  · exact Prod.ext hvnext hvgroups
  · rw [hvonly]

/-- The start of a group whose T1 is not left out. -/
theorem State.groupTold_runs {s : State} (g : Nat) (hskip : s.t1Skips = false) :
    s.groupTold g = { s with saf := { s.saf with t1Due := false } } := by
  unfold State.groupTold State.whenD
  rw [hskip, if_neg Bool.false_ne_true]

/-- The start of a group whose T1 is left out: the flag and the record. -/
theorem State.groupTold_skips {s : State} (g : Nat) (hskip : s.t1Skips = true) : ∃ u, s.groupTold g = u ∧
    u = { s with regs := u.regs, hif := { s.hif with due := u.hif.due }, saf := { s.saf with t1Due := true }, acl := u.acl, ikl := u.ikl } ∧
    u.rd F.SAF_ERR.LATENT_SKIPPED = 1 ∧
    (∀ o, o / 0x10000 = 0x1E → o ≠ F.SAF_ERR.LATENT_SKIPPED.off → u.reg o = s.reg o) := by
  obtain ⟨v, hv⟩ : ∃ v, v = ({ s with saf := { s.saf with t1Due := true } } : State).set1 F.SAF_ERR.LATENT_SKIPPED := ⟨_, rfl⟩
  have hlog := v.aclLog_logged 0x0204 (leBytes 1 3 ++ leBytes 1 1 ++ leBytes 1 g)
  have htold : s.groupTold g = v.aclLog 0x0204 (leBytes 1 3 ++ leBytes 1 1 ++ leBytes 1 g) := by
    unfold State.groupTold State.whenD
    rw [hskip, if_pos rfl, hv]
  have hvparts : v = { s with regs := v.regs, saf := { s.saf with t1Due := true } } := by
    rw [hv]
    rfl
  refine ⟨_, htold, ?_, ?_, fun o ho hne => ?_⟩
  · generalize v.aclLog 0x0204 (leBytes 1 3 ++ leBytes 1 1 ++ leBytes 1 g) = u at hlog
    obtain ⟨_, _, _, _, _, _, _, _, _, e⟩ := hlog.parts
    rw [e, hvparts]
  · rw [hlog.rd _ _ _ (by decide) (by decide), hv, State.set1_eq]
    exact State.rd_wr_same _ _ _ _ _ (by decide)
  · rw [hlog.registers o (by omega) (by simp only; omega), hv, State.set1_eq]
    exact State.reg_wr_ne _ _ _ _ hne

/-- The tests from the start of a group to its result. -/
theorem State.groupTested_spec {s u : State} {g : Nat} (hg : g < 8) (eyes : List Nat) (hu : s.groupTold g = u) :
    ∃ t, (s.groupTested g eyes).1 = t ∧ Tested u t ∧ (g = 0 → t.bit F.TAL_INJECT.ARM = false) ∧
      ((∀ e ∈ eyes, 32 ≤ e) → (s.groupTested g eyes).2 = false) := by
  obtain ⟨v, hv⟩ : ∃ v, u.whenD (g = 0) State.selfTile = v := ⟨_, rfl⟩
  have hvtested : Tested u v ∧ (g = 0 → v.bit F.TAL_INJECT.ARM = false) := by
    rw [← hv]
    unfold State.whenD
    by_cases h0 : g = 0
    · rw [if_pos (by simpa using h0)]
      exact ⟨u.selfTile_tested.1, fun _ => u.selfTile_tested.2⟩
    · rw [if_neg (by simpa using h0)]
      exact ⟨Tested.refl u, fun h => absurd h h0⟩
  obtain ⟨heyes, hwide⟩ := v.eyesMeasured_tested hg eyes
  unfold State.groupTested
  rw [hu, hv]
  refine ⟨_, rfl, hvtested.1.trans heyes, fun h0 => ?_, hwide⟩
  have hsame : (v.eyesMeasured g eyes).1 = v := by
    rw [State.eyesMeasured_eq, if_pos (by simp [h0])]
  rw [hsame]
  exact hvtested.2 h0

theorem groupTests_zero (g : Nat) : (groupTests g).contains 0 = false := by
  unfold groupTests
  split <;> rfl

/-- A test that fails starts the Guard's action. -/
theorem State.groupFailed_spec {s : State} {g bad : Nat} (hmode : s.mode ≠ 0) (hrest : s.saf.acting = false) (hbad : bad < 16) :
    ∃ t, s.groupFailed g bad = t ∧ t.rd F.SAF_LATENT.FAIL_TEST = bad ∧ t.saf.groupRunning = false ∧ guardActs 12 s t := by
  obtain ⟨u, hu⟩ : ∃ u, u = ({ s with saf := { s.saf with groupRunning := false } } : State).wr F.SAF_LATENT.FAIL_TEST bad := ⟨_, rfl⟩
  have hlog := u.aclLog_logged 0x0204 (leBytes 1 1 ++ leBytes 1 bad ++ leBytes 1 g)
  have hfailed : s.groupFailed g bad = (u.aclLog 0x0204 (leBytes 1 1 ++ leBytes 1 bad ++ leBytes 1 g)).guardDemand 12 := by
    rw [hu]
    rfl
  generalize u.aclLog 0x0204 (leBytes 1 1 ++ leBytes 1 bad ++ leBytes 1 g) = v at hlog hfailed
  have hvparts : v.saf = { s.saf with groupRunning := false } ∧ v.pin = s.pin ∧ v.pending = s.pending := by
    obtain ⟨_, _, _, _, _, _, _, _, _, e⟩ := hlog.parts
    have husaf : u.saf = { s.saf with groupRunning := false } := by
      rw [hu]
      exact State.wr_saf _ F.SAF_LATENT.FAIL_TEST bad
    have hupin : u.pin = s.pin := by
      rw [hu]
      exact State.wr_pin _ F.SAF_LATENT.FAIL_TEST bad
    have hupending : u.pending = s.pending := by
      rw [hu]
      exact State.wr_pending _ F.SAF_LATENT.FAIL_TEST bad
    rw [e]
    exact ⟨husaf, hupin, hupending⟩
  have hvreg : ∀ o l w, o / 0x10000 ≠ 0x22 → o / 0x10000 ≠ 0x20 → o ≠ 0x1E0030 → v.rd ⟨o, l, w⟩ = s.rd ⟨o, l, w⟩ := fun o l w h1 h2 h3 => by
    rw [hlog.rd _ _ _ h1 (by omega), hu]
    exact State.rd_wr_off _ _ _ _ _ _ _ _ (Ne.symm h3)
  have hvfail : v.rd F.SAF_LATENT.FAIL_TEST = bad := by
    rw [hlog.rd _ _ _ (by decide) (by decide), hu, State.rd_wr_same _ _ _ _ _ (by decide)]
    exact Nat.mod_eq_of_lt hbad
  obtain ⟨hvsaf, hvpin, hvpending⟩ := hvparts
  obtain ⟨t, ht, hacts, hrunning, hlatent⟩ := State.guardDemand_spec (s := v) (cause := 12)
    (by
      unfold State.mode
      rw [hvreg _ _ _ (by decide) (by decide) (by decide)]
      exact hmode)
    (by rw [hvsaf]; exact hrest) (by decide) (by decide)
  obtain ⟨hparts, hstatus, hseen, hdrive⟩ := hacts
  refine ⟨t, by rw [hfailed, ht], ?_, by rw [hrunning, hvsaf], ?_, hstatus, ?_, ?_⟩
  · rw [← hvfail]
    unfold State.rd
    rw [hlatent]
  · rw [hparts, hvsaf, hvpending]
  · rw [hseen, hvreg _ _ _ (by decide) (by decide) (by decide)]
  · rw [hdrive, hvpin]

/-- Settles O50: a group that passes, one whose T1 is left out, one with a test that fails, and the timer of the idle tracker. -/
theorem selfTestsRunInGroups : Obligations.SelfTestsRunInGroups := by
  unfold Obligations.SelfTestsRunInGroups
  refine ⟨fun s eyes hrun hrest hpair hwide => ?_, fun s hrun hrest hmode hpeer => ?_, fun s fail eyes hmode hrun hrest hpair hfail htest => ?_,
    fun s hmode hidle hrest hrun => ?_⟩
  · have hskip : s.t1Skips = false := by
      unfold State.t1Skips
      rcases hpair with h | ⟨h1, h2⟩
      · simp [h]
      · simp [h1, h2]
    have hg : s.rd F.SAF_LATENT.NEXT_GROUP < 8 := State.rd_lt s F.SAF_LATENT.NEXT_GROUP
    obtain ⟨g, hgeq⟩ : ∃ g, g = s.rd F.SAF_LATENT.NEXT_GROUP := ⟨_, rfl⟩
    rw [← hgeq] at hg ⊢
    obtain ⟨u, hu, htested, harm, hnarrow⟩ := State.groupTested_spec hg eyes (s.groupTold_runs (g := g) hskip)
    obtain ⟨t, ht, hshown, hlast, hsaf, hparts, hregs⟩ := u.groupPassed_spec g
    have husaf : u.saf.overdue = s.saf.overdue ∧ u.saf.t1Due = false := by
      rw [htested.parts]
      exact ⟨rfl, rfl⟩
    have hurd : ∀ o l w, testedReg o = false → u.rd ⟨o, l, w⟩ = s.rd ⟨o, l, w⟩ := fun o l w ho => htested.rd o l w ho
    refine ⟨t, ?_, ?_, fun h7 => ?_, fun h0 => ?_, ?_, ?_⟩
    · rw [exec_latentGroupRun hrun hrest g hgeq 0 ?_, if_neg (by decide), hu, ht]
      rw [hnarrow hwide, if_neg (by rw [show ((0 : Fin 11).val) = 0 from rfl, groupTests_zero]; simp), if_neg Bool.false_ne_true]
    · rw [hshown, hurd _ _ _ (by decide)]
    · rw [hlast h7, hurd _ _ _ (by decide)]
    · have hbit : t.bit F.TAL_INJECT.ARM = u.bit F.TAL_INJECT.ARM := by
        unfold State.bit State.rd
        rw [hregs _ (by decide) (by decide)]
      rw [hbit, harm h0]
    · rw [hsaf, husaf.1, husaf.2]
    · rw [hparts, htested.parts]
  · have hskip : s.t1Skips = true := by
      unfold State.t1Skips
      rcases hpeer with h | h <;> simp [hmode, h]
    have hg : s.rd F.SAF_LATENT.NEXT_GROUP < 8 := State.rd_lt s F.SAF_LATENT.NEXT_GROUP
    obtain ⟨g, hgeq⟩ : ∃ g, g = s.rd F.SAF_LATENT.NEXT_GROUP := ⟨_, rfl⟩
    rw [← hgeq] at hg ⊢
    obtain ⟨v, hv, hvparts, hvskipped, hvregs⟩ := s.groupTold_skips g hskip
    obtain ⟨u, hu, htested, -, hnarrow⟩ := State.groupTested_spec hg [] hv
    obtain ⟨t, ht, hshown, -, hsaf, hparts, hregs⟩ := u.groupPassed_spec g
    have hurd : ∀ o l w, testedReg o = false → u.rd ⟨o, l, w⟩ = v.rd ⟨o, l, w⟩ := fun o l w ho => htested.rd o l w ho
    have husaf : u.saf.t1Due = true ∧ u.saf.acting = false := by
      rw [htested.parts, hvparts]
      exact ⟨rfl, hrest⟩
    have hgroups : v.rd F.SAF_COUNTS.GROUPS = s.rd F.SAF_COUNTS.GROUPS := by
      unfold State.rd
      rw [hvregs _ (by decide) (by decide)]
    refine ⟨t, ?_, ?_, ?_, ?_, ?_⟩
    · rw [exec_latentGroupRun hrun hrest g hgeq 0 ?_, if_neg (by decide), hu, ht]
      rw [hnarrow (fun e he => absurd he List.not_mem_nil), hskip, if_neg (by simp), if_neg Bool.false_ne_true]
    · rw [← hvskipped, ← hurd _ _ _ (by decide)]
      unfold State.rd
      rw [hregs _ (by decide) (by decide)]
    · rw [hsaf, ← husaf.1, ← husaf.2]
    · rw [hshown, hurd _ _ _ (by decide), hgroups]
    · rw [hparts, htested.parts, hvparts]
  · have hskip : s.t1Skips = false := by
      unfold State.t1Skips
      rcases hpair with h | ⟨h1, h2⟩
      · simp [h]
      · simp [h1, h2]
    have hg : s.rd F.SAF_LATENT.NEXT_GROUP < 8 := State.rd_lt s F.SAF_LATENT.NEXT_GROUP
    obtain ⟨g, hgeq⟩ : ∃ g, g = s.rd F.SAF_LATENT.NEXT_GROUP := ⟨_, rfl⟩
    rw [← hgeq] at hg htest
    obtain ⟨u, hu, htested, -, -⟩ := State.groupTested_spec hg eyes (s.groupTold_runs (g := g) hskip)
    have hurd : ∀ o l w, testedReg o = false → u.rd ⟨o, l, w⟩ = s.rd ⟨o, l, w⟩ := fun o l w ho => htested.rd o l w ho
    have huparts : u.saf.acting = s.saf.acting ∧ u.saf.wdogOn = s.saf.wdogOn ∧ u.pin = s.pin ∧ u.pending = s.pending := by
      rw [htested.parts]
      exact ⟨rfl, rfl, rfl, rfl⟩
    obtain ⟨hacting, hwdog, hpin, hpending⟩ := huparts
    have hlt : fail.val < 16 := by omega
    have hne : fail.val ≠ 0 := fun h => hfail (Fin.ext h)
    obtain ⟨t, ht, hshown, hrunning, hparts, hstatus, hseen, hdrive⟩ := State.groupFailed_spec (s := u) (g := g) (bad := fail.val)
      (by
        unfold State.mode
        rw [hurd _ _ _ (by decide)]
        exact hmode)
      (by rw [hacting, hrest]) hlt
    refine ⟨t, ?_, by rw [hshown, hrunning], ?_, hstatus, ?_, ?_⟩
    · rw [exec_latentGroupRun hrun hrest g hgeq fail.val ?_, if_pos hne, hu, ht]
      rw [htest, hskip, if_pos (by simp)]
    · rw [hparts, hwdog, hpending]
    · rw [hseen, hurd _ _ _ (by decide)]
    · rw [hdrive, hpin]
  · refine ⟨{ s with saf := { s.saf with groupRunning := true, overdue := false } }, ?_, rfl⟩
    show execLatentIdleTimer s = _
    unfold execLatentIdleTimer
    rw [if_pos (by rcases hmode with h | h <;> simp [h, hidle, hrest, hrun])]
    rfl

end Sys2Proof.Machine
end

section
/-! SUPPORT. The runs of calibration (R374 to R379): what the start of a run, its check and the end of a group's part leave. -/
namespace Sys2Proof.Machine

/-! ### The parts of the groups -/

/-- A step of the groups' trims: their list, the groups and lanes that CAL_STATUS shows, and the flags of CAL_ERR. -/
structure Searched (s t : State) : Prop where
  parts : t = { s with regs := t.regs, cal := { s.cal with grp := t.cal.grp } }
  kept : ∀ o, o ≠ 0x240038 → o ≠ 0x240600 → t.reg o = s.reg o
  status : ∀ l w, l + w ≤ 4 ∨ 28 ≤ l → t.rd ⟨0x240038, l, w⟩ = s.rd ⟨0x240038, l, w⟩
  length : t.cal.grp.length = s.cal.grp.length

namespace Searched

variable {s t u : State}

theorem refl (s : State) : Searched s s := ⟨rfl, fun _ _ _ => rfl, fun _ _ _ => rfl, rfl⟩

theorem trans (h : Searched s t) (h' : Searched t u) : Searched s u :=
  ⟨by rw [h'.parts, h.parts], fun o h1 h2 => (h'.kept o h1 h2).trans (h.kept o h1 h2),
    fun l w hl => (h'.status l w hl).trans (h.status l w hl), h'.length.trans h.length⟩

theorem rd (h : Searched s t) (o l w : Nat) (h1 : o ≠ 0x240038) (h2 : o ≠ 0x240600) : t.rd ⟨o, l, w⟩ = s.rd ⟨o, l, w⟩ := by
  unfold State.rd
  rw [h.kept o h1 h2]

theorem bit (h : Searched s t) (o l w : Nat) (h1 : o ≠ 0x240038) (h2 : o ≠ 0x240600) : t.bit ⟨o, l, w⟩ = s.bit ⟨o, l, w⟩ := by
  unfold State.bit
  rw [h.rd o l w h1 h2]

theorem grp (h : Searched s t) (g : Nat) : t.grp g = s.grp g := by
  rw [h.parts]
  rfl

theorem grpState (h : Searched s t) (g : Nat) : t.grpState g = s.grpState g := by
  unfold State.grpState
  rw [h.rd _ _ _ (by decide) (by decide)]

theorem cycle (h : Searched s t) : t.cycle = s.cycle := by rw [h.parts]

end Searched

theorem State.trim_setTrim_same (s : State) {g : Nat} (x : Option GrpTrim) (hg : g < s.cal.grp.length) : (s.setTrim g x).trim g = x := by
  unfold State.trim State.setTrim
  rw [List.getElem?_set_self hg]
  rfl

theorem State.trim_setTrim_none (s : State) (g : Nat) : (s.setTrim g none).trim g = none := by
  unfold State.trim State.setTrim
  dsimp only
  rw [List.getElem?_set]
  split
  · split <;> rfl
  · contradiction

theorem State.trim_setTrim_ne (s : State) {g k : Nat} (x : Option GrpTrim) (hk : k ≠ g) : (s.setTrim g x).trim k = s.trim k := by
  unfold State.trim State.setTrim
  dsimp only
  rw [List.getElem?_set_ne (Ne.symm hk)]

theorem State.setTrim_searched (s : State) (g : Nat) (x : Option GrpTrim) : Searched s (s.setTrim g x) :=
  ⟨rfl, fun _ _ _ => rfl, fun _ _ _ => rfl, List.length_set⟩

/-- What CAL_STATUS shows of the trims is two writes of it. -/
theorem State.trimShow_eq (s : State) (g : Nat) : ∃ lanes on, s.trimShow g = (s.wr F.CAL_STATUS.LANE lanes).wr F.CAL_STATUS.GROUPS on :=
  ⟨_, _, rfl⟩

theorem State.trimShow_searched (s : State) (g : Nat) : Searched s (s.trimShow g) := by
  obtain ⟨lanes, on, h⟩ := s.trimShow_eq g
  rw [h]
  refine ⟨rfl, fun o h1 _ => (State.reg_wr_ne _ _ _ _ h1).trans (State.reg_wr_ne _ _ _ _ h1), fun l w hl => ?_, rfl⟩
  rw [State.rd_wr_apart _ _ _ _ _ _ _ (by omega)]
  exact State.rd_wr_apart _ _ _ _ _ _ _ (by omega)

theorem State.trim_of_cal {s t : State} (h : t.cal = s.cal) (g : Nat) : t.trim g = s.trim g := by
  unfold State.trim
  rw [h]

theorem State.trim_trimShow (s : State) (g k : Nat) : (s.trimShow g).trim k = s.trim k := by
  obtain ⟨lanes, on, h⟩ := s.trimShow_eq g
  rw [h]
  exact State.trim_of_cal rfl k

theorem State.skipped_searched (s : State) : Searched s (s.set1 F.CAL_ERR.SKIPPED) :=
  ⟨rfl, fun _ _ h2 => State.reg_wr_ne _ _ _ _ h2, fun _ _ _ => State.rd_wr_off _ _ _ _ _ _ _ _ (by decide), rfl⟩

theorem State.searchStart_searched (s : State) (g : Nat) (x : GrpTrim) : Searched s (s.searchStart g x) :=
  (s.setTrim_searched g _).trans (State.trimShow_searched _ g)

/-- The search of a group's spare, with which its part of a run begins. -/
def State.spareSearch (s : State) (g : Nat) : GrpTrim := ⟨0, 1, 0, s.laneCodes g 24, 0, 0, s.cycle⟩

theorem State.trim_searchStart_same (s : State) {g : Nat} (hg : g < s.cal.grp.length) :
    (s.searchStart g ⟨0, 1, 0, 0, 0, 0, 0⟩).trim g = some (s.spareSearch g) := by
  unfold State.searchStart
  rw [State.trim_trimShow, State.trim_setTrim_same s _ hg]
  rfl

theorem State.trim_searchStart_ne (s : State) {g k : Nat} (x : GrpTrim) (hk : k ≠ g) : (s.searchStart g x).trim k = s.trim k := by
  unfold State.searchStart
  rw [State.trim_trimShow, State.trim_setTrim_ne s _ hk]

/-- Whether a group's spare is in use or kept for good. -/
def State.spareTaken (s : State) (g : Nat) : Bool :=
  !s.bit F.BLK_CFG.SPARE_EN || (s.grp g).good || (s.grp g).swap.any (fun (w : LaneSwap) => w.good)

/-- A group's part in the start of a run. -/
def State.groupRun (s : State) (g : Nat) : State :=
  if !s.bit F.CAL_CFG.TRIM_BLK then s
  else if s.spareTaken g then s.set1 F.CAL_ERR.SKIPPED
  else if s.grpState g ≠ 4 then s
  else s.searchStart g ⟨0, 1, 0, 0, 0, 0, 0⟩

theorem State.groupRun_searched (s : State) (g : Nat) : Searched s (s.groupRun g) := by
  unfold State.groupRun
  split
  · exact Searched.refl s
  · split
    · exact s.skipped_searched
    · split
      · exact Searched.refl s
      · exact s.searchStart_searched g _

theorem State.trim_groupRun_ne (s : State) {g k : Nat} (hk : k ≠ g) : (s.groupRun g).trim k = s.trim k := by
  unfold State.groupRun
  split
  · rfl
  · split
    · exact State.trim_of_cal rfl k
    · split
      · rfl
      · exact s.trim_searchStart_ne _ hk

theorem Searched.spareTaken {s t : State} (h : Searched s t) (g : Nat) : t.spareTaken g = s.spareTaken g := by
  unfold State.spareTaken
  rw [h.bit _ _ _ (by decide) (by decide), h.grp]

theorem Searched.spareSearch {s t : State} (h : Searched s t) {g : Nat} (hg : g < 4) : t.spareSearch g = s.spareSearch g := by
  have hcodes : t.laneCodes g 24 = s.laneCodes g 24 := h.rd _ _ _ (by omega) (by omega)
  unfold State.spareSearch
  rw [h.cycle, hcodes]

theorem State.groupsRun_searched (l : List Nat) : ∀ s : State, Searched s (l.foldl State.groupRun s) := by
  induction l with
  | nil => exact Searched.refl
  | cons g l ih => exact fun s => (s.groupRun_searched g).trans (ih _)

theorem State.trim_groupsRun_other {g : Nat} (l : List Nat) : ∀ s : State, g ∉ l → (l.foldl State.groupRun s).trim g = s.trim g := by
  induction l with
  | nil => exact fun _ _ => rfl
  | cons k l ih =>
    intro s hg
    rw [List.foldl_cons, ih _ (fun h => hg (List.mem_cons_of_mem _ h)),
      s.trim_groupRun_ne (by rintro rfl; exact hg List.mem_cons_self)]

/-- A group whose spare is taken takes no part. -/
theorem State.trim_groupsRun_taken {g : Nat} (l : List Nat) : ∀ s : State, s.spareTaken g = true →
    (l.foldl State.groupRun s).trim g = s.trim g := by
  induction l with
  | nil => exact fun _ _ => rfl
  | cons k l ih =>
    intro s htaken
    rw [List.foldl_cons, ih _ (by rw [(s.groupRun_searched k).spareTaken, htaken])]
    by_cases hk : g = k
    · subst hk
      unfold State.groupRun
      rw [htaken]
      split
      · rfl
      · exact State.trim_of_cal rfl g
    · exact s.trim_groupRun_ne hk

/-- An ACTIVE group with its spare free begins with the spare. -/
theorem State.trim_groupsRun_active {g : Nat} (hg : g < 4) (l : List Nat) : ∀ s : State, l.Nodup → g ∈ l →
    s.bit F.CAL_CFG.TRIM_BLK = true → s.spareTaken g = false → s.grpState g = 4 → g < s.cal.grp.length →
    (l.foldl State.groupRun s).trim g = some (s.spareSearch g) := by
  induction l with
  | nil => exact fun _ _ h => absurd h List.not_mem_nil
  | cons k l ih =>
    intro s hnodup hmem htrim htaken hactive hlen
    obtain ⟨hk, hl⟩ := List.nodup_cons.mp hnodup
    have hstep := s.groupRun_searched k
    rw [List.foldl_cons]
    by_cases heq : g = k
    · subst heq
      have hrun : s.groupRun g = s.searchStart g ⟨0, 1, 0, 0, 0, 0, 0⟩ := by
        unfold State.groupRun
        rw [htrim, htaken, hactive]
        rfl
      rw [State.trim_groupsRun_other l _ hk, hrun]
      exact s.trim_searchStart_same hlen
    · rw [ih _ hl ((List.mem_cons.mp hmem).resolve_left heq) (by rw [hstep.bit _ _ _ (by decide) (by decide), htrim])
        (by rw [hstep.spareTaken, htaken]) (by rw [hstep.grpState, hactive]) (by rw [hstep.length]; exact hlen), hstep.spareSearch hg]

theorem State.groupsRun_untrimmed (l : List Nat) : ∀ s : State, s.bit F.CAL_CFG.TRIM_BLK = false → l.foldl State.groupRun s = s := by
  induction l with
  | nil => exact fun _ _ => rfl
  | cons g l ih =>
    intro s htrim
    have hstep : s.groupRun g = s := by
      unfold State.groupRun
      rw [htrim]
      rfl
    rw [List.foldl_cons, hstep, ih s htrim]

/-! ### The start of a run -/

/-- The registers that a run writes. -/
def runReg (o : Nat) : Bool := o / 8 = 0x48007 || o / 0x40 = 0x9001 || o / 0x10 = 0x24060

/-- The reference temperatures taken, for the first n diodes. -/
def State.refsTaken (s : State) (n : Nat) : State :=
  (List.range n).foldl (fun s i => s.wr (F.CAL_TEMP.REF i) (s.rd (F.CAL_TEMP.NOW i))) s

theorem State.refsTaken_spec (s : State) (n : Nat) : RegsOnly s (s.refsTaken n) ∧
    (∀ i, (s.refsTaken n).rd (F.CAL_TEMP.NOW i) = s.rd (F.CAL_TEMP.NOW i)) ∧
    (∀ i, i < n → (s.refsTaken n).rd (F.CAL_TEMP.REF i) = s.rd (F.CAL_TEMP.NOW i)) ∧
    (∀ o, o < 0x240040 ∨ 0x240040 + 8 * n ≤ o → (s.refsTaken n).reg o = s.reg o) := by
  induction n with
  | zero => exact ⟨rfl, fun _ => rfl, fun _ h => absurd h (by omega), fun _ _ => rfl⟩
  | succ n ih =>
    obtain ⟨honly, hnow, href, hkept⟩ := ih
    have hsucc : s.refsTaken (n + 1) = (s.refsTaken n).wr (F.CAL_TEMP.REF n) ((s.refsTaken n).rd (F.CAL_TEMP.NOW n)) := by
      unfold State.refsTaken
      rw [List.range_succ, List.foldl_append]
      rfl
    rw [hsucc]
    generalize s.refsTaken n = t at honly hnow href hkept ⊢
    refine ⟨RegsOnly.trans honly rfl, fun i => ?_, fun i hi => ?_, fun o ho => ?_⟩
    · rw [← hnow i]
      by_cases h : i = n
      · subst h
        exact State.rd_wr_apart _ _ _ _ _ _ _ (by omega)
      · exact State.rd_wr_off _ (0x240040 + 0x8 * n) _ _ (0x240040 + 0x8 * i) _ _ _ (by omega)
    · by_cases h : i = n
      · subst h
        rw [State.rd_wr_same _ _ _ _ _ (by omega), hnow i]
        exact Nat.mod_eq_of_lt (State.rd_lt s _)
      · rw [← href i (by omega)]
        exact State.rd_wr_off _ (0x240040 + 0x8 * n) _ _ (0x240040 + 0x8 * i) _ _ _ (by omega)
    · rw [← hkept o (by omega)]
      exact State.reg_wr_ne _ _ _ _ (by show o ≠ 0x240040 + 0x8 * n; omega)

/-- The state of a run that begins, before its parts. -/
def State.runBegun (s : State) : State :=
  let t := (((s.refsTaken 8).wr F.CAL_STATUS.STATE 2).clr F.CAL_STATUS.RUN_PENDING).incSat F.CAL_COUNTS.RUNS
  { t with cal := { t.cal with begun := true, again := t.cal.again.filter (fun g => t.grpState g ≠ 4) } }

/-- The parts of the receivers and the channels. -/
def State.runParts (s : State) : State :=
  { s with cal := { s.cal with
    rx := List.replicate 4 (if s.bit F.CAL_CFG.TRIM_RX then some ⟨0, 0⟩ else none)
    ddr := (List.range 6).map (fun c =>
      if s.bit F.CAL_CFG.TRIM_DDR && s.rd F.MEM_STATUS.TRAINED / 2 ^ c % 2 = 1 then some ⟨0, 0⟩ else none) } }

theorem State.runStart_eq (s : State) : s.runStart = if s.mode = 4 || s.mode = 5 || s.saf.acting then s
    else ((List.range 4).foldl State.groupRun s.runBegun).runParts := rfl

/-- What the begin of a run leaves. -/
theorem State.runBegun_spec (s : State) : ∃ t, s.runBegun = t ∧
    t = { s with regs := t.regs, cal := { s.cal with begun := true, again := s.cal.again.filter (fun g => s.grpState g ≠ 4) } } ∧
    t.rd F.CAL_STATUS.STATE = 2 ∧ t.rd F.CAL_STATUS.RUN_PENDING = 0 ∧ t.rd F.CAL_STATUS.RUNS = s.rd F.CAL_STATUS.RUNS ∧
    t.rd F.CAL_COUNTS.RUNS = min (s.rd F.CAL_COUNTS.RUNS + 1) 65535 ∧
    (∀ i, i < 8 → t.rd (F.CAL_TEMP.REF i) = s.rd (F.CAL_TEMP.NOW i)) ∧ (∀ o, runReg o = false → t.reg o = s.reg o) := by
  obtain ⟨honly, -, href, hkept⟩ := s.refsTaken_spec 8
  obtain ⟨r, hr⟩ : ∃ r, s.refsTaken 8 = r := ⟨_, rfl⟩
  rw [hr] at honly href hkept
  obtain ⟨w, hw⟩ : ∃ w, w = (r.wr F.CAL_STATUS.STATE 2).clr F.CAL_STATUS.RUN_PENDING := ⟨_, rfl⟩
  obtain ⟨t, ht⟩ : ∃ t, t = w.incSat F.CAL_COUNTS.RUNS := ⟨_, rfl⟩
  have hwoff : ∀ o l b, o ≠ 0x240038 → w.rd ⟨o, l, b⟩ = r.rd ⟨o, l, b⟩ := fun o l b h => by
    rw [hw]
    exact (State.rd_wr_off _ 0x240038 _ _ o _ _ _ (Ne.symm h)).trans (State.rd_wr_off _ 0x240038 _ _ o _ _ _ (Ne.symm h))
  have htoff : ∀ o l b, o ≠ 0x240608 → t.rd ⟨o, l, b⟩ = w.rd ⟨o, l, b⟩ := fun o l b h => by
    rw [ht]
    exact State.rd_wr_off _ 0x240608 _ _ o _ _ _ (Ne.symm h)
  have hregs : ∀ o, runReg o = false → t.reg o = s.reg o := fun o ho => by
    have hne : o ≠ 0x240608 ∧ o ≠ 0x240038 ∧ (o < 0x240040 ∨ 0x240080 ≤ o) := by
      unfold runReg at ho
      simp only [Bool.or_eq_false_iff, decide_eq_false_iff_not] at ho
      omega
    obtain ⟨h1, h2, h3⟩ := hne
    have htw : t.reg o = w.reg o := by
      rw [ht]
      exact State.reg_wr_ne _ _ _ _ h1
    rw [htw, ← hkept o h3, hw]
    exact (State.reg_wr_ne _ _ _ _ h2).trans (State.reg_wr_ne _ _ _ _ h2)
  have htonly : RegsOnly s t := by
    rw [ht, hw]
    exact RegsOnly.trans honly rfl
  have hgroups : ∀ g, t.grpState g = s.grpState g := fun g => by
    unfold State.grpState State.rd
    rw [hregs _ (by decide)]
  have hstate : t.rd F.CAL_STATUS.STATE = 2 := by
    rw [htoff _ _ _ (by decide), hw]
    exact (State.rd_wr_apart _ _ _ _ _ _ _ (by decide)).trans (State.rd_wr_same _ _ _ _ _ (by decide))
  have hpending : t.rd F.CAL_STATUS.RUN_PENDING = 0 := by
    rw [htoff _ _ _ (by decide), hw]
    exact State.rd_wr_same _ _ _ _ _ (by decide)
  have hruns : t.rd F.CAL_STATUS.RUNS = s.rd F.CAL_STATUS.RUNS := by
    have hsame : r.rd F.CAL_STATUS.RUNS = s.rd F.CAL_STATUS.RUNS := by
      unfold State.rd
      rw [hkept _ (by decide)]
    rw [htoff _ _ _ (by decide), hw, ← hsame]
    exact (State.rd_wr_apart _ _ _ _ _ _ _ (by decide)).trans (State.rd_wr_apart _ _ _ _ _ _ _ (by decide))
  have hcount : t.rd F.CAL_COUNTS.RUNS = min (s.rd F.CAL_COUNTS.RUNS + 1) 65535 := by
    have hsame : w.rd F.CAL_COUNTS.RUNS = s.rd F.CAL_COUNTS.RUNS := by
      rw [hwoff _ _ _ (by decide)]
      unfold State.rd
      rw [hkept _ (by decide)]
    rw [ht, State.rd_incSat _ _ _ _ (by decide), hsame]
    rfl
  have hrefs : ∀ i, i < 8 → t.rd (F.CAL_TEMP.REF i) = s.rd (F.CAL_TEMP.NOW i) := fun i hi => by
    rw [← href i hi]
    exact (htoff (0x240040 + 0x8 * i) _ _ (by omega)).trans (hwoff (0x240040 + 0x8 * i) _ _ (by omega))
  have hbegun : s.runBegun = { t with cal := { t.cal with begun := true, again := t.cal.again.filter (fun g => t.grpState g ≠ 4) } } := by
    rw [ht, hw, ← hr]
    rfl
  refine ⟨_, hbegun, ?_, hstate, hpending, hruns, hcount, hrefs, hregs⟩
  rw [funext hgroups, htonly]

/-- What the start of a run leaves, in a mode that has runs. -/
theorem State.runStart_spec {s : State} (h4 : s.mode ≠ 4) (h5 : s.mode ≠ 5) (hrest : s.saf.acting = false) : ∃ t, s.runStart = t ∧
    t = { s with regs := t.regs, cal := t.cal } ∧
    t.rd F.CAL_STATUS.STATE = 2 ∧ t.rd F.CAL_STATUS.RUN_PENDING = 0 ∧ t.rd F.CAL_STATUS.RUNS = s.rd F.CAL_STATUS.RUNS ∧
    t.rd F.CAL_COUNTS.RUNS = min (s.rd F.CAL_COUNTS.RUNS + 1) 65535 ∧
    (∀ i, i < 8 → t.rd (F.CAL_TEMP.REF i) = s.rd (F.CAL_TEMP.NOW i)) ∧
    (∀ o, runReg o = false → t.reg o = s.reg o) ∧
    (t.cal.begun = true ∧ t.cal.again = s.cal.again.filter (fun g => s.grpState g ≠ 4) ∧
      t.cal.rx = List.replicate 4 (if s.bit F.CAL_CFG.TRIM_RX then some ⟨0, 0⟩ else none)) ∧
    (s.bit F.CAL_CFG.TRIM_DDR = false → t.cal.ddr = List.replicate 6 none) ∧
    (s.bit F.CAL_CFG.TRIM_BLK = false → t.cal.grp = s.cal.grp) ∧
    (∀ g, s.spareTaken g = true → t.trim g = s.trim g) ∧
    (∀ g, g < 4 → s.bit F.CAL_CFG.TRIM_BLK = true → s.spareTaken g = false → s.grpState g = 4 → g < s.cal.grp.length →
      t.trim g = some (s.spareSearch g)) := by
  obtain ⟨u, hu, huparts, hstate, hpending, hruns, hcount, hrefs, hregs⟩ := s.runBegun_spec
  have hsearch := State.groupsRun_searched (List.range 4) u
  have hcfg : ∀ o l w, runReg o = false → u.rd ⟨o, l, w⟩ = s.rd ⟨o, l, w⟩ := fun o l w ho => by
    unfold State.rd
    rw [hregs o ho]
  have hcfgbit : ∀ o l w, runReg o = false → u.bit ⟨o, l, w⟩ = s.bit ⟨o, l, w⟩ := fun o l w ho => by
    unfold State.bit
    rw [hcfg o l w ho]
  have hugrp : ∀ g, u.grp g = s.grp g := fun g => by
    rw [huparts]
    rfl
  have hutaken : ∀ g, u.spareTaken g = s.spareTaken g := fun g => by
    unfold State.spareTaken
    rw [hcfgbit _ _ _ (by decide), hugrp]
  have hucalgrp : u.cal.grp = s.cal.grp := by rw [huparts]
  have hutrim : ∀ g, u.trim g = s.trim g := fun g => by
    unfold State.trim
    rw [hucalgrp]
  have htaken : ∀ g, s.spareTaken g = true → ((List.range 4).foldl State.groupRun u).trim g = s.trim g := fun g h => by
    rw [State.trim_groupsRun_taken _ u (by rw [hutaken, h]), hutrim]
  have hactive : ∀ g, g < 4 → s.bit F.CAL_CFG.TRIM_BLK = true → s.spareTaken g = false → s.grpState g = 4 → g < s.cal.grp.length →
      ((List.range 4).foldl State.groupRun u).trim g = some (s.spareSearch g) := fun g hg htrim htaken hact hlen => by
    have hustate : u.grpState g = s.grpState g := by
      unfold State.grpState
      rw [hcfg _ _ _ (by decide)]
    have hucycle : u.cycle = s.cycle := by rw [huparts]
    have hucodes : u.laneCodes g 24 = s.laneCodes g 24 := hcfg _ _ _ (by
      unfold runReg
      simp only [Bool.or_eq_false_iff, decide_eq_false_iff_not]
      omega)
    rw [State.trim_groupsRun_active hg _ u List.nodup_range (List.mem_range.mpr hg) (by rw [hcfgbit _ _ _ (by decide), htrim])
      (by rw [hutaken, htaken]) (by rw [hustate, hact]) (by rw [hucalgrp]; exact hlen)]
    unfold State.spareSearch
    rw [hucodes, hucycle]
  have huntrimmed : s.bit F.CAL_CFG.TRIM_BLK = false → ((List.range 4).foldl State.groupRun u).cal.grp = s.cal.grp := fun h => by
    rw [State.groupsRun_untrimmed _ u (by rw [hcfgbit _ _ _ (by decide), h]), hucalgrp]
  rw [State.runStart_eq, if_neg (by simp [h4, h5, hrest]), hu]
  generalize (List.range 4).foldl State.groupRun u = v at hsearch htaken hactive huntrimmed ⊢
  have hvcfg : ∀ o l w, runReg o = false → v.rd ⟨o, l, w⟩ = s.rd ⟨o, l, w⟩ := fun o l w ho => by
    have h2 : o ≠ 0x240038 ∧ o ≠ 0x240600 := by
      unfold runReg at ho
      simp only [Bool.or_eq_false_iff, decide_eq_false_iff_not] at ho
      omega
    rw [hsearch.rd o l w h2.1 h2.2, hcfg o l w ho]
  have hvbit : ∀ o l w, runReg o = false → v.bit ⟨o, l, w⟩ = s.bit ⟨o, l, w⟩ := fun o l w ho => by
    unfold State.bit
    rw [hvcfg o l w ho]
  have hvcal : v.cal.begun = true ∧ v.cal.again = s.cal.again.filter (fun g => s.grpState g ≠ 4) := by
    rw [hsearch.parts, huparts]
    exact ⟨rfl, rfl⟩
  refine ⟨v.runParts, rfl, ?_, ?_, ?_, ?_, ?_, fun i hi => ?_, fun o ho => ?_, ⟨hvcal.1, hvcal.2, ?_⟩, fun h => ?_, huntrimmed, htaken, hactive⟩
  · unfold State.runParts
    rw [hsearch.parts, huparts]
  · exact (hsearch.status _ _ (by decide)).trans hstate
  · exact (hsearch.status _ _ (by decide)).trans hpending
  · exact (hsearch.status _ _ (by decide)).trans hruns
  · exact (hsearch.rd _ _ _ (by decide) (by decide)).trans hcount
  · exact (hsearch.rd (0x240040 + 0x8 * i) _ _ (by omega) (by omega)).trans (hrefs i hi)
  · have h2 : o ≠ 0x240038 ∧ o ≠ 0x240600 := by
      unfold runReg at ho
      simp only [Bool.or_eq_false_iff, decide_eq_false_iff_not] at ho
      omega
    exact (hsearch.kept o h2.1 h2.2).trans (hregs o ho)
  · unfold State.runParts
    dsimp only
    rw [hvbit _ _ _ (by decide)]
  · unfold State.runParts
    dsimp only
    rw [hvbit _ _ _ (by decide), h]
    rfl

/-! ### The check of a run -/

/-- A step of the runs of calibration: its registers, and the trims of groups whose spare is free. -/
structure Ran (s t : State) : Prop where
  parts : t = { s with regs := t.regs, cal := t.cal }
  kept : ∀ o, runReg o = false → t.reg o = s.reg o
  taken : ∀ g, s.spareTaken g = true → t.trim g = s.trim g

namespace Ran

variable {s t u : State}

theorem refl (s : State) : Ran s s := ⟨rfl, fun _ _ => rfl, fun _ _ => rfl⟩

theorem spareTaken (h : Ran s t) (g : Nat) : t.spareTaken g = s.spareTaken g := by
  have hgrp : t.grp g = s.grp g := by
    rw [h.parts]
    rfl
  unfold State.spareTaken State.bit State.rd
  rw [h.kept _ (by decide), hgrp]

theorem trans (h : Ran s t) (h' : Ran t u) : Ran s u :=
  ⟨by rw [h'.parts, h.parts], fun o ho => (h'.kept o ho).trans (h.kept o ho),
    fun g hg => (h'.taken g (by rw [h.spareTaken, hg])).trans (h.taken g hg)⟩

theorem wr (h : Ran s t) (f : Field) (v : Nat) (hf : runReg f.off = true) : Ran s (t.wr f v) :=
  h.trans ⟨rfl, fun o ho => State.reg_wr_ne _ _ _ _ (fun e => by rw [e, hf] at ho; cases ho), fun _ _ => State.trim_of_cal rfl _⟩

end Ran

theorem State.runStart_ran (s : State) : Ran s s.runStart := by
  by_cases hmode : (s.mode = 4 || s.mode = 5 || s.saf.acting) = true
  · rw [State.runStart_eq, if_pos hmode]
    exact Ran.refl s
  · simp only [Bool.or_eq_true, decide_eq_true_eq, not_or, Bool.not_eq_true] at hmode
    obtain ⟨⟨h4, h5⟩, hrest⟩ := hmode
    obtain ⟨t, ht, hparts, -, -, -, -, -, hkept, -, -, -, htaken, -⟩ := State.runStart_spec h4 h5 hrest
    rw [ht]
    exact ⟨hparts, hkept, htaken⟩

theorem State.runFinish_ran (s : State) : Ran s s.runFinish := by
  unfold State.runFinish
  split
  · exact ((Ran.refl s).wr F.CAL_STATUS.RUNS _ (by decide)).wr F.CAL_STATUS.STATE _ (by decide)
  · exact Ran.refl s

theorem State.runCheck_ran (s : State) : Ran s s.runCheck := by
  unfold State.runCheck
  split
  · exact (s.runFinish_ran.trans (State.runStart_ran _)).trans (State.runFinish_ran _)
  · exact s.runFinish_ran

theorem State.runFinish_goesOn {s : State} (h : s.runOver = false) : s.runFinish = s := by
  unfold State.runFinish
  rw [h, if_neg Bool.false_ne_true]

theorem State.runCheck_goesOn {s : State} (h : s.runOver = false) : s.runCheck = s := by
  unfold State.runCheck
  rw [h, State.runFinish_goesOn h, Bool.false_and, if_neg Bool.false_ne_true]

theorem State.runOver_of_state {s : State} (h : s.rd F.CAL_STATUS.STATE ≠ 2) : s.runOver = false := by
  unfold State.runOver
  rw [decide_eq_false h]
  rfl

theorem State.runOver_of_rx {s : State} {x : RxTrim} (h : s.cal.rx = List.replicate 4 (some x)) : s.runOver = false := by
  unfold State.runOver
  rw [h]
  simp [List.replicate]

theorem State.runOver_of_grp {s : State} (h : s.cal.grp.all Option.isNone = false) : s.runOver = false := by
  unfold State.runOver
  rw [h, Bool.and_false]
  rfl

/-- What the end of a group's part leaves: its trim is over, and only the codes of the lane under trial change beside the run. -/
theorem State.trimDrop_spec {s : State} {g : Nat} {x : GrpTrim} (htrim : s.trim g = some x) :
    ∃ t, s.trimDrop g = t ∧ t = { s with regs := t.regs, cal := t.cal } ∧
      (∀ o, runReg o = false → t.reg o = (if x.phase = 1 then s.setCodes g x.lane x.start else s).reg o) ∧
      (s.spareTaken g = true → t.trim g = none) := by
  obtain ⟨u, hu⟩ : ∃ u : State, u = if x.phase = 1 then s.setCodes g x.lane x.start else s := ⟨_, rfl⟩
  have hdrop : s.trimDrop g = ((u.setTrim g none).trimShow g).runCheck := by
    unfold State.trimDrop
    rw [htrim, hu]
  have huparts : u = { s with regs := u.regs } := by
    rw [hu]
    split <;> rfl
  rw [hdrop, ← hu]
  have hshow := (u.setTrim_searched g none).trans (State.trimShow_searched _ g)
  have hnone : ((u.setTrim g none).trimShow g).trim g = none := by
    rw [State.trim_trimShow, State.trim_setTrim_none]
  generalize (u.setTrim g none).trimShow g = v at hshow hnone ⊢
  have hcheck := v.runCheck_ran
  refine ⟨_, rfl, by rw [hcheck.parts, hshow.parts, huparts], fun o ho => (hcheck.kept o ho).trans (hshow.kept o ?_ ?_), fun htaken => ?_⟩
  · rintro rfl
    exact absurd ho (by decide)
  · rintro rfl
    exact absurd ho (by decide)
  · rw [hcheck.taken g ?_, hnone]
    rw [hshow.spareTaken]
    have hgrp : u.grp g = s.grp g := by
      rw [huparts]
      rfl
    have hspare : u.bit F.BLK_CFG.SPARE_EN = s.bit F.BLK_CFG.SPARE_EN := by
      rw [hu]
      split
      · exact State.bit_wr_off s (0x240100 + 0x8 * (25 * g + x.lane)) _ _ _ _ _ _ (by omega)
      · rfl
    unfold State.spareTaken
    rw [hspare, hgrp]
    exact htaken

end Sys2Proof.Machine
end

section
/-! SUPPORT. The commands of calibration: its enable and its runs, the windows of a receiver, and a lane under trial that does not lock
again. -/
namespace Sys2Proof.Machine

/-! ### A lasting fault -/

/-- The blocks of a lasting fault's report. -/
def lastingBlocks (b : Nat) : Bool := b = 0x1E || b = 0x20 || b = 0x22

/-- A lasting fault is flagged, counted and recorded (R334). -/
theorem State.lasting_spec (s : State) (k inst : Nat) : ∃ t, s.lasting k inst = t ∧ Noted lastingBlocks s t ∧
    t.rd F.SAF_ERR.LASTING = 1 ∧ t.rd F.SAF_COUNTS.LASTING = min (s.rd F.SAF_COUNTS.LASTING + 1) 65535 := by
  obtain ⟨u, hu⟩ : ∃ u, u = ((s.set1 F.SAF_ERR.LASTING).wr F.SAF_LASTING.SOURCE k).wr F.SAF_LASTING.INSTANCE inst := ⟨_, rfl⟩
  have hlasting : s.lasting k inst = ((u.incSat F.SAF_COUNTS.LASTING).aclLog 0x0202 (leBytes 1 k ++ leBytes 3 0 ++ leBytes 5 inst)).faultEvent := by
    rw [hu]
    rfl
  have hnoted : Noted lastingBlocks s u := by
    rw [hu]
    exact (((Noted.refl _ s).wr F.SAF_ERR.LASTING 1 (by decide)).wr F.SAF_LASTING.SOURCE k (by decide)).wr F.SAF_LASTING.INSTANCE inst (by decide)
  have hflag : u.rd F.SAF_ERR.LASTING = 1 := by
    rw [hu]
    exact (State.rd_wr_off _ _ _ _ _ _ _ _ (by decide)).trans ((State.rd_wr_off _ _ _ _ _ _ _ _ (by decide)).trans
      (State.rd_wr_same _ _ _ _ _ (by decide)))
  have hcount : u.rd F.SAF_COUNTS.LASTING = s.rd F.SAF_COUNTS.LASTING := by
    rw [hu]
    exact (State.rd_wr_off _ _ _ _ _ _ _ _ (by decide)).trans ((State.rd_wr_off _ _ _ _ _ _ _ _ (by decide)).trans
      (State.rd_wr_off _ _ _ _ _ _ _ _ (by decide)))
  refine ⟨_, hlasting, ?_, ?_, ?_⟩
  · exact ((hnoted.incSat F.SAF_COUNTS.LASTING (by decide)).aclLog _ _ (by decide) (by decide)).announce 5 25 (by decide)
  · rw [State.rd_noted _ _ _ _ _ _ (by decide)]
    exact (State.rd_wr_off u 0x1E0048 _ _ 0x1E0038 _ _ _ (by decide)).trans hflag
  · rw [State.rd_noted _ _ _ _ _ _ (by decide), State.rd_incSat _ _ _ _ (by decide), hcount]
    rfl

/-! ### Runs -/

/-- A trigger that finds calibration READY, with the receivers' part enabled, leaves a run in progress. -/
theorem State.runTrigger_rx {s : State} (hstate : s.rd F.CAL_STATUS.STATE = 1) (h4 : s.mode ≠ 4) (h5 : s.mode ≠ 5)
    (hrest : s.saf.acting = false) (hrx : s.bit F.CAL_CFG.TRIM_RX = true) : s.runTrigger = s.runStart := by
  obtain ⟨t, ht, -, -, -, -, -, -, -, ⟨-, -, htrx⟩, -⟩ := State.runStart_spec h4 h5 hrest
  unfold State.runTrigger
  rw [if_pos hstate, ht]
  rw [hrx, if_pos rfl] at htrx
  exact State.runFinish_goesOn (State.runOver_of_rx htrx)

/-- A run without any part ends at once. -/
theorem State.runFinish_over {s : State} (h : s.runOver = true) : ∃ t, s.runFinish = t ∧ RegsOnly s t ∧ t.rd F.CAL_STATUS.STATE = 1 ∧
    t.rd F.CAL_STATUS.RUN_PENDING = s.rd F.CAL_STATUS.RUN_PENDING ∧ t.rd F.CAL_STATUS.RUNS = (s.rd F.CAL_STATUS.RUNS + 1) % 65536 ∧
    (∀ o, o ≠ 0x240038 → t.reg o = s.reg o) := by
  unfold State.runFinish
  rw [if_pos h]
  refine ⟨_, rfl, rfl, State.rd_wr_same _ _ _ _ _ (by decide), ?_, ?_, fun o ho => ?_⟩
  · exact (State.rd_wr_apart _ _ _ _ _ _ _ (by decide)).trans (State.rd_wr_apart _ _ _ _ _ _ _ (by decide))
  · exact (State.rd_wr_apart _ _ _ _ _ _ _ (by decide)).trans (State.rd_wr_same _ _ _ _ _ (by decide))
  · exact (State.reg_wr_ne _ _ _ _ ho).trans (State.reg_wr_ne _ _ _ _ ho)

theorem exec_calRunStart_ready {s : State} (hstate : s.rd F.CAL_STATUS.STATE = 1)
    (hdue : s.tempMoved = true ∨ s.bit F.CAL_STATUS.RUN_PENDING = true ∨ s.cal.again.any (fun g => s.grpState g = 4) = true ∨
      (s.linkActive = true ∧ s.cal.begun = false ∧ s.blk.stepReq = false ∧ s.blk.stepTo = none)) :
    exec .calRunStart s = .next s.runTrigger := by
  show execCalRunStart s = _
  unfold execCalRunStart
  dsimp only
  rw [if_pos]
  · rfl
  · rw [hstate]
    rcases hdue with h | h | h | ⟨h1, h2, h3, h4⟩
    · simp [h]
    · simp [h]
    · rw [h]
      simp
    · simp [h1, h2, h3, h4]

theorem exec_calRunWrite {s : State} {m : Master} (hserves : s.serves m F.CAL_CTL.RUN.off = true) :
    exec (.calRunWrite m) s = .next s.runTrigger := by
  show execCalRunWrite m s = _
  unfold execCalRunWrite
  rw [State.gated_serves _ _ _ _ hserves]
  rfl

/-! ### Enable, disable and drain -/

theorem exec_calEnable {s : State} {m : Master} (hserves : s.serves m F.CAL_CTL.ENABLE.off = true) :
    exec (.calEnable m) s = .next (if s.rd F.CAL_STATUS.STATE = 3 then s.set1 F.CAL_STATUS.PENDING_ENABLE
      else if (s.set1 F.CAL_CTL.ENABLE).rd F.CAL_STATUS.STATE = 0 then (s.set1 F.CAL_CTL.ENABLE).wr F.CAL_STATUS.STATE 1
      else s.set1 F.CAL_CTL.ENABLE) := by
  show execCalEnable m s = _
  unfold execCalEnable
  rw [State.gated_serves _ _ _ _ hserves]
  rfl

/-- What an admitted disable of calibration in use leaves before the groups give their lanes back. -/
def State.calStopped (s : State) : State := ((s.clr F.CAL_CTL.ENABLE).clr F.CAL_STATUS.RUN_PENDING).wr F.CAL_STATUS.STATE 3
def State.calDisabled (s : State) : State :=
  let t := (List.range 4).foldl State.trimBack s.calStopped
  { t with cal := { t.cal with rx := List.replicate 4 none, ddr := List.replicate 6 none, again := [] } }

theorem exec_calDisable {s : State} {m : Master} (hserves : s.serves m F.CAL_CTL.ENABLE.off = true) :
    exec (.calDisable m) s = .next (if s.rd F.CAL_STATUS.STATE = 3 then s.clr F.CAL_STATUS.PENDING_ENABLE
      else if s.rd F.CAL_STATUS.STATE = 0 then s.clr F.CAL_CTL.ENABLE else s.calDisabled) := by
  show execCalDisable m s = _
  unfold execCalDisable
  rw [State.gated_serves _ _ _ _ hserves]
  rfl

/-- A step in which groups end their part and give lanes back while no run is in progress. -/
structure Back (s t : State) : Prop where
  parts : t = { s with regs := t.regs, blk := t.blk, cal := t.cal }
  control : t.reg 0x240030 = s.reg 0x240030
  status : ∀ l w, l + w ≤ 4 ∨ 28 ≤ l → t.rd ⟨0x240038, l, w⟩ = s.rd ⟨0x240038, l, w⟩
  trims : ∀ k, s.trim k = none → t.trim k = none

namespace Back

variable {s t u : State}

theorem refl (s : State) : Back s s := ⟨rfl, rfl, fun _ _ _ => rfl, fun _ h => h⟩

theorem trans (h : Back s t) (h' : Back t u) : Back s u :=
  ⟨by rw [h'.parts, h.parts], h'.control.trans h.control, fun l w hl => (h'.status l w hl).trans (h.status l w hl),
    fun k hk => h'.trims k (h.trims k hk)⟩

end Back

theorem State.swapStart_back (s : State) (g k : Nat) (back good : Bool) : Back s (s.swapStart g k back good) :=
  ⟨rfl, rfl, fun _ _ _ => rfl, fun _ h => h⟩

/-- Without a run in progress the end of a group's part checks no other. -/
theorem State.trimDrop_idle {s : State} (g : Nat) (hstate : s.rd F.CAL_STATUS.STATE ≠ 2) :
    Back s (s.trimDrop g) ∧ (s.trimDrop g).trim g = none := by
  unfold State.trimDrop
  cases hx : s.trim g with
  | none => exact ⟨Back.refl s, hx⟩
  | some x =>
    dsimp only
    have hcodes : Back s (if x.phase = 1 then s.setCodes g x.lane x.start else s) := by
      split
      · refine ⟨rfl, State.reg_wr_ne _ _ _ _ (by show (0x240030 : Nat) ≠ 0x240100 + 0x8 * _; omega), fun l w _ => ?_, fun _ h => h⟩
        exact State.rd_wr_off _ (0x240100 + 0x8 * (25 * g + x.lane)) _ _ _ _ _ _ (by omega)
      · exact Back.refl s
    generalize (if x.phase = 1 then s.setCodes g x.lane x.start else s) = u at hcodes ⊢
    have hshow := (u.setTrim_searched g none).trans (State.trimShow_searched _ g)
    have htrims : ∀ k, ((u.setTrim g none).trimShow g).trim k = if k = g then none else u.trim k := fun k => by
      rw [State.trim_trimShow]
      split
      next h => rw [h, State.trim_setTrim_none]
      next h => exact State.trim_setTrim_ne u _ h
    generalize (u.setTrim g none).trimShow g = v at hshow htrims ⊢
    rw [State.runCheck_goesOn (State.runOver_of_state (by rw [hshow.status _ _ (by decide), hcodes.status _ _ (by decide)]; exact hstate))]
    refine ⟨hcodes.trans ⟨by rw [hshow.parts], hshow.kept _ (by decide) (by decide), hshow.status, fun k hk => ?_⟩, ?_⟩
    · rw [htrims]
      split
      · rfl
      · exact hk
    · rw [htrims, if_pos rfl]

theorem State.trimBack_idle {s : State} (g : Nat) (hstate : s.rd F.CAL_STATUS.STATE ≠ 2) :
    Back s (s.trimBack g) ∧ (s.trimBack g).trim g = none := by
  obtain ⟨hback, hnone⟩ := State.trimDrop_idle g hstate
  have hswap : ∀ k, Back s ((s.trimDrop g).swapStart g k true false) ∧ ((s.trimDrop g).swapStart g k true false).trim g = none :=
    fun k => ⟨hback.trans (State.swapStart_back _ _ _ _ _), hnone⟩
  unfold State.trimBack
  dsimp only
  split
  · split
    · exact ⟨hback, hnone⟩
    · exact hswap _
  · split
    · exact ⟨hback, hnone⟩
    · exact hswap _
  · exact ⟨hback, hnone⟩

theorem State.trimsBack_idle (l : List Nat) : ∀ s : State, s.rd F.CAL_STATUS.STATE ≠ 2 →
    Back s (l.foldl State.trimBack s) ∧ (∀ g, g ∈ l → (l.foldl State.trimBack s).trim g = none) := by
  induction l with
  | nil => exact fun s _ => ⟨Back.refl s, fun _ h => absurd h List.not_mem_nil⟩
  | cons k l ih =>
    intro s hstate
    obtain ⟨hback, hnone⟩ := State.trimBack_idle k hstate
    obtain ⟨hrest, htrims⟩ := ih _ (by rw [hback.status _ _ (by decide)]; exact hstate)
    refine ⟨hback.trans hrest, fun g hg => ?_⟩
    rcases List.mem_cons.mp hg with rfl | hg
    · exact hrest.trims _ hnone
    · exact htrims g hg

theorem State.calStopped_spec (s : State) : ∃ t, s.calStopped = t ∧ RegsOnly s t ∧ t.rd F.CAL_CTL.ENABLE = 0 ∧
    t.rd F.CAL_STATUS.STATE = 3 ∧ t.rd F.CAL_STATUS.RUN_PENDING = 0 := by
  refine ⟨_, rfl, rfl, ?_, State.rd_wr_same _ _ _ _ _ (by decide), ?_⟩
  · exact (State.rd_wr_off _ _ _ _ _ _ _ _ (by decide)).trans ((State.rd_wr_off _ _ _ _ _ _ _ _ (by decide)).trans
      (State.rd_wr_same _ _ _ _ _ (by decide)))
  · exact (State.rd_wr_apart _ _ _ _ _ _ _ (by decide)).trans (State.rd_wr_same _ _ _ _ _ (by decide))

/-- What a disable of calibration in use leaves. -/
theorem State.calDisabled_spec (s : State) : ∃ t, s.calDisabled = t ∧
    (t.rd F.CAL_CTL.ENABLE, t.rd F.CAL_STATUS.STATE, t.rd F.CAL_STATUS.RUN_PENDING) = (0, 3, 0) ∧
    (t.cal.rx, t.cal.ddr, t.cal.again) = (List.replicate 4 none, List.replicate 6 none, []) ∧
    (∀ g, g < 4 → t.trim g = none) ∧ t = { s with regs := t.regs, blk := t.blk, cal := t.cal } := by
  obtain ⟨u, hu, honly, henable, hstate, hpending⟩ := s.calStopped_spec
  obtain ⟨hback, htrims⟩ := State.trimsBack_idle (List.range 4) u (by rw [hstate]; decide)
  unfold State.calDisabled
  rw [hu]
  generalize (List.range 4).foldl State.trimBack u = v at hback htrims ⊢
  have hvenable : v.rd F.CAL_CTL.ENABLE = 0 := by
    rw [← henable]
    unfold State.rd
    rw [hback.control]
  have hvstate := (hback.status 0 2 (by decide)).trans hstate
  have hvpending := (hback.status 3 1 (by decide)).trans hpending
  refine ⟨_, rfl, Prod.ext hvenable (Prod.ext hvstate hvpending), rfl, fun g hg => htrims g (List.mem_range.mpr hg), ?_⟩
  rw [hback.parts, honly]

theorem exec_calDrainComplete {s : State} (hstate : s.rd F.CAL_STATUS.STATE = 3) :
    exec .calDrainComplete s = .next (if s.bit F.CAL_STATUS.PENDING_ENABLE then
      ((s.clr F.CAL_STATUS.PENDING_ENABLE).set1 F.CAL_CTL.ENABLE).wr F.CAL_STATUS.STATE 1 else s.wr F.CAL_STATUS.STATE 0) := by
  show execCalDrainComplete s = _
  unfold execCalDrainComplete
  rw [if_neg (by simp [hstate])]
  split <;> rfl

/-! ### A receiver's windows -/

/-- The state in which a window is judged. -/
def State.rxShown (s : State) (g : Fin 4) (ones : Nat) : State := (s.rxAm g).wr (F.CAL_RX.ONES g) (min ones (2 ^ 20))

theorem exec_rxMarkWindow_idle {s : State} {g : Fin 4} {ones : Nat} (h : ((s.rxShown g ones).cal.rx[g.val]?).join = none) :
    exec (.rxMarkWindow g ones) s = .next (s.rxShown g ones) := by
  show execRxMarkWindow g ones s = _
  unfold execRxMarkWindow
  dsimp only
  unfold State.rxShown at h ⊢
  rw [h]
  rfl

/-- A window judged, by whether it holds too many ones or too few. -/
def State.rxStepDue (s : State) (g : Nat) (many few : Bool) : State :=
  if many || few then
    { s with cal := { s.cal with rxStep := s.cal.rxStep.set g (some (if many then Config.rxStepsUp else !Config.rxStepsUp)) } } else s
def State.rxJudged (s : State) (g : Nat) (x : RxTrim) (many few : Bool) : State :=
  let t := s.rxStepDue g many few
  let y : RxTrim := ⟨x.windows + 1, if many || few then 0 else x.within + 1⟩
  if 2 ≤ y.within || 64 ≤ y.windows then t.rxEnd g else { t with cal := { t.cal with rx := t.cal.rx.set g (some y) } }

theorem exec_rxMarkWindow_judged {s u : State} {g : Fin 4} {ones : Nat} {x : RxTrim} (hu : s.rxShown g ones = u)
    (hx : (u.cal.rx[g.val]?).join = some x) (many few : Bool)
    (hmany : decide (2 ^ 19 + u.rd F.CAL_CFG.MARK_TOL * 64 < ones) = many) (hfew : decide (ones + u.rd F.CAL_CFG.MARK_TOL * 64 < 2 ^ 19) = few) :
    exec (.rxMarkWindow g ones) s = .next (u.rxJudged g x many few) := by
  show execRxMarkWindow g ones s = _
  unfold execRxMarkWindow
  dsimp only
  unfold State.rxShown at hu
  rw [hu, hx]
  dsimp only
  rw [hmany, hfew]
  exact (apply_ite Host.Outcome.next _ _ _).symm

theorem State.rxAm_waits_not {s : State} {g : Nat} (h : (s.cal.rxStep[g]?).join = none) : s.rxAm g = s := by
  unfold State.rxAm
  rw [h]

/-- What a window shows where no step of OFFSET waits. -/
theorem State.rxShown_still {s : State} {g : Fin 4} (ones : Nat) (h : (s.cal.rxStep[g.val]?).join = none) :
    ∃ u, s.rxShown g ones = u ∧ RegsOnly s u ∧ u.rd (F.CAL_RX.ONES g) = min ones (2 ^ 20) ∧
      u.rd (F.CAL_RX.OFFSET g) = s.rd (F.CAL_RX.OFFSET g) ∧ (∀ o, o ≠ (F.CAL_RX.ONES g).off → u.reg o = s.reg o) := by
  unfold State.rxShown
  rw [State.rxAm_waits_not h]
  refine ⟨_, rfl, rfl, ?_, State.rd_wr_apart _ _ _ _ _ _ _ (by decide), fun o ho => State.reg_wr_ne _ _ _ _ ho⟩
  rw [State.rd_wr_same _ _ _ _ _ (by decide)]
  exact Nat.mod_eq_of_lt (by omega)

/-- The same for the tolerance and the receivers' trims. -/
theorem State.rxShown_tolerance {s u : State} {g : Fin 4} (honly : RegsOnly s u)
    (hkept : ∀ o, o ≠ (F.CAL_RX.ONES g).off → u.reg o = s.reg o) :
    u.rd F.CAL_CFG.MARK_TOL = s.rd F.CAL_CFG.MARK_TOL ∧ u.cal = s.cal := by
  refine ⟨?_, by rw [honly]⟩
  unfold State.rd
  rw [hkept _ (by show (0x240000 : Nat) ≠ 0x240480 + 0x8 * g.val; omega)]

/-- What a window shows where a step of OFFSET waits: the step. -/
theorem State.rxShown_steps {s : State} {g : Fin 4} (ones : Nat) {up : Bool} (h : (s.cal.rxStep[g.val]?).join = some up) :
    ∃ u, s.rxShown g ones = u ∧ u = { s with regs := u.regs, cal := { s.cal with rxStep := s.cal.rxStep.set g.val none } } ∧
      u.rd (F.CAL_RX.OFFSET g) = (if up then min 63 (s.rd (F.CAL_RX.OFFSET g) + 1) else s.rd (F.CAL_RX.OFFSET g) - 1) ∧
      u.rd F.CAL_ERR.RX_RANGE = (if s.rd (F.CAL_RX.OFFSET g) = (if up then 63 else 0) then 1 else s.rd F.CAL_ERR.RX_RANGE) ∧
      regsApart [(F.CAL_RX.ONES g).off, F.CAL_ERR.RX_RANGE.off] s u := by
  obtain ⟨v, hv⟩ : ∃ v : State, v = { s with cal := { s.cal with rxStep := s.cal.rxStep.set g.val none } } := ⟨_, rfl⟩
  have hvrd : ∀ f, v.rd f = s.rd f := fun f => by
    rw [hv]
    rfl
  have ham : s.rxAm g = if s.rd (F.CAL_RX.OFFSET g) = (if up then 63 else 0) then v.set1 F.CAL_ERR.RX_RANGE
      else v.wr (F.CAL_RX.OFFSET g) (if up then s.rd (F.CAL_RX.OFFSET g) + 1 else s.rd (F.CAL_RX.OFFSET g) - 1) := by
    rw [← hvrd, hv]
    unfold State.rxAm
    rw [h]
  have hlt : s.rd (F.CAL_RX.OFFSET g) < 64 := State.rd_lt s (F.CAL_RX.OFFSET g)
  have hg : g.val < 4 := g.isLt
  have hold : s.rd (F.CAL_RX.OFFSET g) = v.rd (F.CAL_RX.OFFSET g) := (hvrd _).symm
  have hrange : s.rd F.CAL_ERR.RX_RANGE = v.rd F.CAL_ERR.RX_RANGE := (hvrd _).symm
  have hframe : regsApart [(F.CAL_RX.ONES g).off, F.CAL_ERR.RX_RANGE.off] s v := by
    rw [hv]
    exact regsApart_regs regsApart_refl rfl
  unfold State.rxShown
  rw [ham]
  generalize s.rd (F.CAL_RX.OFFSET g) = off at hold hlt ⊢
  refine ⟨_, rfl, ?_, ?_, ?_, ?_⟩
  · by_cases hend : off = if up then 63 else 0
    · rw [if_pos hend, hv]
      rfl
    · rw [if_neg hend, hv]
      rfl
  · rw [State.rd_wr_apart _ _ _ _ _ _ _ (by decide)]
    by_cases hend : off = if up then 63 else 0
    · have hsame : (v.set1 F.CAL_ERR.RX_RANGE).rd (F.CAL_RX.OFFSET g) = off :=
        (State.rd_wr_off _ 0x240600 _ _ (0x240480 + 0x8 * g.val) _ _ _ (by omega)).trans hold.symm
      rw [if_pos hend, hsame]
      cases up <;> simp at hend <;> simp [hend]
    · rw [if_neg hend, State.rd_wr_same _ _ _ _ _ (by decide)]
      cases up
      · simp only [Bool.false_eq_true, if_false] at hend ⊢
        exact Nat.mod_eq_of_lt (by omega)
      · simp only [if_true] at hend ⊢
        rw [Nat.mod_eq_of_lt (by omega)]
        omega
  · rw [State.rd_wr_off _ (0x240480 + 0x8 * g.val) _ _ 0x240600 _ _ _ (by omega)]
    by_cases hend : off = if up then 63 else 0
    · rw [if_pos hend, if_pos hend]
      exact State.rd_wr_same _ _ _ _ _ (by decide)
    · rw [if_neg hend, if_neg hend, hrange]
      exact State.rd_wr_off _ (0x240480 + 0x8 * g.val) _ _ 0x240600 _ _ _ (by omega)
  · refine regsApart_wr _ _ ?_ List.mem_cons_self
    by_cases hend : off = if up then 63 else 0
    · rw [if_pos hend]
      exact regsApart_wr _ _ hframe (List.mem_cons_of_mem _ List.mem_cons_self)
    · rw [if_neg hend]
      exact regsApart_wr _ _ hframe List.mem_cons_self

/-! ### A lane under trial -/

/-- A lane that the spare carries is kept by it for good. -/
theorem State.laneReplace_carried {s : State} {g k : Nat} (hspare : s.bit F.BLK_CFG.SPARE_EN = true) (hk : k ≠ 24)
    (hswap : (s.grp g).swap = none) (hcarried : (s.grp g).carried = some k) :
    (s.laneReplace g k).1 =
      (((s.putGrp g { s.grp g with good := true }).set1 F.BLK_ERR.LANE_LASTING).wr (F.BLK_LANE.STATE (25 * g + k)) 3).trimDrop g := by
  unfold State.laneReplace
  dsimp only
  rw [hspare, if_neg (by decide), if_neg hk, hswap, hcarried]
  dsimp only
  rw [if_pos rfl]

theorem exec_trimLockTimeout {s : State} {g : Fin 4} {x : GrpTrim} (htrim : s.trim g = some x) (hphase : x.phase = 1) (hturn : 1 ≤ x.turn) :
    exec (.trimLockTimeout g) s = .next ((s.lasting 0 (25 * g + x.lane)).laneReplace g x.lane).1 := by
  show execTrimLockTimeout g s = _
  unfold execTrimLockTimeout
  rw [htrim]
  dsimp only
  rw [if_neg (by
    simp only [Bool.or_eq_true, decide_eq_true_eq]
    omega)]
  rfl

/-- What the time-out of a lane under trial leaves. -/
theorem State.trialLost_spec {s : State} {g : Nat} {x : GrpTrim} (hg : g < 4) (htrim : s.trim g = some x) (hphase : x.phase = 1)
    (hturn : 1 ≤ x.turn ∧ x.turn ≤ 24) (hspare : s.bit F.BLK_CFG.SPARE_EN = true) (hlen : s.blk.grp.length = 4)
    (hswap : (s.grp g).swap = none) (hcarried : (s.grp g).carried = some x.lane) :
    ∃ t, (s.laneReplace g x.lane).1 = t ∧ t.rd F.BLK_ERR.LANE_LASTING = 1 ∧ t.reg 0x1E0038 = s.reg 0x1E0038 ∧
      t.reg 0x1E0048 = s.reg 0x1E0048 ∧ t.grp g = { s.grp g with good := true } ∧ t.trim g = none ∧
      t.rd (F.BLK_LANE.STATE (25 * g + x.lane)) = 3 ∧ t.laneCodes g x.lane = x.start % 2 ^ 24 := by
  have hlane : x.lane < 24 := by
    unfold GrpTrim.lane
    split <;> omega
  rw [State.laneReplace_carried hspare (by omega) hswap hcarried]
  obtain ⟨u, hu⟩ : ∃ u, u = ((s.putGrp g { s.grp g with good := true }).set1 F.BLK_ERR.LANE_LASTING).wr (F.BLK_LANE.STATE (25 * g + x.lane)) 3 :=
    ⟨_, rfl⟩
  have hugrp : u.grp g = { s.grp g with good := true } := by
    have hset : u.grp g = (s.blk.grp.set g { s.grp g with good := true }).getD g blkGrpNew := by
      rw [hu]
      rfl
    rw [hset]
    simp [hlen, hg]
  have hutrim : u.trim g = some x := by
    rw [← htrim, hu]
    exact State.trim_of_cal rfl g
  have hureg : ∀ o, o ≠ 0x160040 → o ≠ 0x161000 + 0x8 * (25 * g + x.lane) → u.reg o = s.reg o := fun o h1 h2 => by
    rw [hu]
    exact (State.reg_wr_ne _ _ _ _ h2).trans ((State.reg_wr_ne _ _ _ _ h1).trans rfl)
  have hulasting : u.rd F.BLK_ERR.LANE_LASTING = 1 := by
    rw [hu]
    exact (State.rd_wr_off _ (0x161000 + 0x8 * (25 * g + x.lane)) _ _ 0x160040 _ _ _ (by omega)).trans (State.rd_wr_same _ _ _ _ _ (by decide))
  have hustate : u.rd (F.BLK_LANE.STATE (25 * g + x.lane)) = 3 := by
    rw [hu]
    exact State.rd_wr_same _ _ _ _ _ (by decide)
  rw [← hu]
  obtain ⟨t, ht, hparts, hkept, hnone⟩ := State.trimDrop_spec hutrim
  rw [if_pos hphase] at hkept
  have hrest : ∀ o, runReg o = false → o ≠ 0x240100 + 0x8 * (25 * g + x.lane) → t.reg o = u.reg o := fun o h1 h2 => by
    rw [hkept o h1]
    exact State.reg_wr_ne _ _ _ _ h2
  have hrun : ∀ o, o < 0x240000 → runReg o = false := fun o ho => by
    unfold runReg
    simp only [Bool.or_eq_false_iff, decide_eq_false_iff_not]
    omega
  refine ⟨t, ht, ?_, ?_, ?_, ?_, hnone ?_, ?_, ?_⟩
  · rw [← hulasting]
    unfold State.rd
    rw [hrest _ (by decide) (by show (0x160040 : Nat) ≠ _; omega)]
  · rw [hrest _ (by decide) (by omega), hureg _ (by decide) (by omega)]
  · rw [hrest _ (by decide) (by omega), hureg _ (by decide) (by omega)]
  · rw [← hugrp, hparts]
    rfl
  · unfold State.spareTaken
    rw [hugrp]
    simp
  · rw [← hustate]
    unfold State.rd
    rw [hrest _ (hrun _ (by show (0x161000 + 0x8 * (25 * g + x.lane) : Nat) < _; omega)) (by
      show (0x161000 + 0x8 * (25 * g + x.lane) : Nat) ≠ _
      omega)]
  · have hcodes : (u.setCodes g x.lane x.start).rd (F.CAL_TX.CODES (25 * g + x.lane)) = x.start % 2 ^ 24 := State.rd_wr_same _ _ _ _ _ (by decide)
    rw [← hcodes]
    unfold State.laneCodes State.rd
    rw [hkept _ (by
      show runReg (0x240100 + 0x8 * (25 * g + x.lane)) = false
      unfold runReg
      simp only [Bool.or_eq_false_iff, decide_eq_false_iff_not]
      omega)]

/-! ### O59 -/

/-- Settles O59, command by command. -/
theorem calibrationRunsAndIsEnabled : Obligations.CalibrationRunsAndIsEnabled := by
  unfold Obligations.CalibrationRunsAndIsEnabled
  refine ⟨fun s hstate hdue h4 h5 hrest hrx hlen => ?_, fun s hstate hpending h4 h5 hrest hblk hrx hddr hgrp => ?_, fun s hstate => ?_,
    fun s m hserves hstate h4 h5 hrest hrx => ?_, fun s m hserves hstate => ?_, fun s m hserves hstate => ?_, fun s m hserves hstate => ?_,
    fun s m hserves hstate => ?_, fun s m hserves hstate => ?_, fun s hstate => ?_, fun s g ones x hx hmany hfew hwithin hwindows hstep => ?_,
    fun s g ones x hx hmany hwindows hstep => ?_, fun s g ones up hstep hx => ?_, fun s g ones x hx hmany hfew hwithin hgrp hstep => ?_,
    fun s g x htrim hphase hturn hspare hlen hswap hcarried => ?_⟩
  · obtain ⟨t, ht, hparts, hst, hpend, -, hcount, hrefs, hkept, ⟨hbegun, hagain, htrx⟩, -, -, -, hactive⟩ := State.runStart_spec h4 h5 hrest
    rw [hrx, if_pos rfl] at htrx
    refine ⟨t, ?_, by rw [hst, hpend, hcount], hrefs, by rw [hbegun, hagain, htrx], fun htrim hspare g hg hgood hswap hact => ?_, hparts, fun o ho => ?_⟩
    · rw [exec_calRunStart_ready hstate hdue, State.runTrigger_rx hstate h4 h5 hrest hrx, ht]
    · refine hactive g hg htrim ?_ hact (by omega)
      unfold State.spareTaken
      rw [hspare, hgood, hswap]
      rfl
    · refine hkept o ?_
      simp only [decide_eq_false_iff_not] at ho
      unfold runReg
      simp only [Bool.or_eq_false_iff, decide_eq_false_iff_not]
      omega
  · obtain ⟨u, hu, huparts, hst, hpend, hruns, -, hrefs, -, ⟨-, -, hurx⟩, huddr, hugrp, -⟩ := State.runStart_spec h4 h5 hrest
    rw [hrx, if_neg Bool.false_ne_true] at hurx
    have hover : u.runOver = true := by
      unfold State.runOver
      rw [hst, hurx, huddr hddr, hugrp hblk, hgrp]
      rfl
    obtain ⟨t, ht, honly, htstate, htpend, htruns, htkept⟩ := State.runFinish_over hover
    refine ⟨t, ?_, by rw [htstate, htpend, hpend, htruns, hruns], fun i hi => ?_, by rw [honly, huparts]⟩
    · rw [exec_calRunStart_ready hstate (.inr (.inl hpending))]
      unfold State.runTrigger
      rw [if_pos hstate, hu, ht]
    · rw [← hrefs i hi]
      unfold State.rd
      rw [htkept _ (by show (0x240040 + 0x8 * i : Nat) ≠ _; omega)]
  · refine ⟨s, ?_, rfl⟩
    show execCalRunStart s = _
    unfold execCalRunStart
    dsimp only
    rw [if_neg (by simp [hstate])]
    rfl
  · obtain ⟨t, ht, hparts, hst, hpend, -, hcount, -, -, ⟨-, -, htrx⟩, -⟩ := State.runStart_spec h4 h5 hrest
    rw [hrx, if_pos rfl] at htrx
    refine ⟨t, ?_, by rw [hst, hpend, hcount], htrx, hparts⟩
    rw [exec_calRunWrite hserves, State.runTrigger_rx hstate h4 h5 hrest hrx, ht]
  · refine ⟨s.set1 F.CAL_STATUS.RUN_PENDING, ?_, State.rd_wr_same _ _ _ _ _ (by decide), rfl, regsApart_wr _ _ regsApart_refl (by decide)⟩
    rw [exec_calRunWrite hserves]
    unfold State.runTrigger
    rw [if_neg (by rw [hstate]; decide), if_pos hstate]
  · have hsame : (s.set1 F.CAL_CTL.ENABLE).rd F.CAL_STATUS.STATE = s.rd F.CAL_STATUS.STATE := State.rd_wr_off _ _ _ _ _ _ _ _ (by decide)
    refine ⟨_, exec_calEnable hserves, ?_⟩
    rw [if_neg hstate, hsame]
    by_cases h0 : s.rd F.CAL_STATUS.STATE = 0
    · rw [if_pos h0, if_pos h0]
      refine ⟨Prod.ext ?_ (State.rd_wr_same _ _ _ _ _ (by decide)), rfl,
        regsApart_wr _ _ (regsApart_wr _ _ regsApart_refl (by decide)) (by decide)⟩
      exact (State.rd_wr_off _ _ _ _ _ _ _ _ (by decide)).trans (State.rd_wr_same _ _ _ _ _ (by decide))
    · rw [if_neg h0, if_neg h0]
      exact ⟨Prod.ext (State.rd_wr_same _ _ _ _ _ (by decide)) hsame, rfl, regsApart_wr _ _ regsApart_refl (by decide)⟩
  · refine ⟨_, exec_calEnable hserves, ?_⟩
    rw [if_pos hstate]
    exact ⟨State.rd_wr_same _ _ _ _ _ (by decide), rfl, regsApart_wr _ _ regsApart_refl (by decide)⟩
  · obtain ⟨t, ht, hspec⟩ := s.calDisabled_spec
    refine ⟨t, ?_, hspec⟩
    rw [exec_calDisable hserves, if_neg (by omega), if_neg (by omega), ht]
  · refine ⟨_, exec_calDisable hserves, ?_⟩
    rcases hstate with h0 | h3
    · rw [if_pos h0, if_neg (show ¬ s.rd F.CAL_STATUS.STATE = 3 by omega), if_pos h0]
      exact ⟨State.rd_wr_same _ _ _ _ _ (by decide), State.rd_wr_off _ _ _ _ _ _ _ _ (by decide), rfl⟩
    · rw [if_neg (show ¬ s.rd F.CAL_STATUS.STATE = 0 by omega), if_pos h3]
      exact ⟨State.rd_wr_same _ _ _ _ _ (by decide), State.rd_wr_apart _ _ _ _ _ _ _ (by decide), rfl⟩
  · refine ⟨_, exec_calDrainComplete hstate, ?_⟩
    cases hp : s.bit F.CAL_STATUS.PENDING_ENABLE with
    | true =>
      simp only [if_true]
      refine ⟨State.rd_wr_same _ _ _ _ _ (by decide), ?_, ?_, rfl,
        regsApart_wr _ _ (regsApart_wr _ _ (regsApart_wr _ _ regsApart_refl (by decide)) (by decide)) (by decide)⟩
      · exact (State.rd_wr_apart _ _ _ _ _ _ _ (by decide)).trans ((State.rd_wr_off _ _ _ _ _ _ _ _ (by decide)).trans
          (State.rd_wr_same _ _ _ _ _ (by decide)))
      · exact (State.rd_wr_off _ _ _ _ _ _ _ _ (by decide)).trans (State.rd_wr_same _ _ _ _ _ (by decide))
    | false =>
      simp only [Bool.false_eq_true, if_false]
      refine ⟨State.rd_wr_same _ _ _ _ _ (by decide), ?_, State.rd_wr_off _ _ _ _ _ _ _ _ (by decide), rfl,
        regsApart_wr _ _ regsApart_refl (by decide)⟩
      rw [State.rd_wr_apart _ _ _ _ _ _ _ (by decide)]
      exact State.rd_of_bit hp
  · obtain ⟨u, hu, honly, hones, hoff, hkept⟩ := State.rxShown_still ones hstep
    obtain ⟨htol, hcal⟩ := State.rxShown_tolerance honly hkept
    refine ⟨_, exec_rxMarkWindow_judged hu (by rw [hcal]; exact hx) false false (by rw [htol]; simpa using hmany) (by rw [htol]; simpa using hfew), ?_⟩
    unfold State.rxJudged
    dsimp only
    rw [hwithin, if_neg (by simp; omega)]
    refine ⟨Prod.ext hones hoff, by rw [← hcal]; rfl, by rw [honly]; rfl, fun o ho => hkept o (fun e => ho (by rw [e]; exact List.mem_cons_self))⟩
  · obtain ⟨u, hu, honly, hones, hoff, hkept⟩ := State.rxShown_still ones hstep
    obtain ⟨htol, hcal⟩ := State.rxShown_tolerance honly hkept
    refine ⟨_, exec_rxMarkWindow_judged hu (by rw [hcal]; exact hx) true false (by rw [htol]; simpa using hmany) (by rw [htol]; simp; omega), ?_⟩
    unfold State.rxJudged
    dsimp only
    rw [if_neg (by simp; omega)]
    refine ⟨Prod.ext hones hoff, by rw [← hcal]; rfl, by rw [honly]; rfl, fun o ho => hkept o (fun e => ho (by rw [e]; exact List.mem_cons_self))⟩
  · obtain ⟨u, hu, hparts, hoff, hrange, hframe⟩ := State.rxShown_steps ones hstep
    have hurx : u.cal.rx = s.cal.rx := by rw [hparts]
    refine ⟨u, ?_, hoff, hrange, hparts, hframe⟩
    rw [exec_rxMarkWindow_idle (by rw [hu, hurx]; exact hx), hu]
  · obtain ⟨u, hu, honly, hones, hoff, hkept⟩ := State.rxShown_still ones hstep
    obtain ⟨htol, hcal⟩ := State.rxShown_tolerance honly hkept
    obtain ⟨v, hv⟩ : ∃ v : State, v = { u with cal := { u.cal with rx := u.cal.rx.set g.val none } } := ⟨_, rfl⟩
    have hvcal : v.cal = { s.cal with rx := s.cal.rx.set g.val none } := by rw [hv, ← hcal]
    have hend : u.rxEnd g = v := by
      unfold State.rxEnd
      rw [← hv]
      exact State.runCheck_goesOn (State.runOver_of_grp (by rw [hvcal]; exact hgrp))
    refine ⟨v, ?_, hvcal, by rw [hv, honly], fun o ho => ?_⟩
    · rw [exec_rxMarkWindow_judged hu (by rw [hcal]; exact hx) false false (by rw [htol]; simpa using hmany) (by rw [htol]; simpa using hfew)]
      unfold State.rxJudged
      dsimp only
      rw [if_pos (by simp; omega)]
      exact congrArg Host.Outcome.next hend
    · rw [hv]
      exact hkept o (fun e => ho (by rw [e]; exact List.mem_cons_self))
  · obtain ⟨u, hu, hnoted, hlasting, hcount⟩ := s.lasting_spec 0 (25 * g + x.lane)
    have hugrp : u.grp g = s.grp g := by
      rw [hnoted.parts]
      rfl
    have hutrim : u.trim g = s.trim g := State.trim_of_cal (by rw [hnoted.parts]) g
    obtain ⟨t, ht, hlane, herr, hcounts, hgrp, hnone, hstate, hcodes⟩ := State.trialLost_spec (s := u) g.isLt (by rw [hutrim, htrim]) hphase hturn
      (by
        unfold State.bit
        rw [regsOutside_rd hnoted.outside _ _ _ (by decide)]
        exact hspare)
      (by rw [hnoted.parts]; exact hlen) (by rw [hugrp]; exact hswap) (by rw [hugrp]; exact hcarried)
    refine ⟨t, ?_, Prod.ext ?_ hlane, ?_, by rw [hgrp, hugrp], hnone, hstate, hcodes⟩
    · rw [exec_trimLockTimeout htrim hphase hturn.1, hu, ht]
    · rw [← hlasting]
      unfold State.rd
      rw [herr]
    · rw [← hcount]
      unfold State.rd
      rw [hcounts]

end Sys2Proof.Machine
end

section
/-! SUPPORT. A bank that is neither of the two. The model bounds no bank of a state: the register that names the leaf of bank 0x10000
stands at 0x210040, outside the block of the beam tables. -/
namespace Sys2Proof.Machine

/-- A leaf that has no bank yet. -/
def unboundLeaf : Leaf := leafNew 5

/-- A device with that leaf in place 0, whose leaf before it has the far bank. -/
def State.bankFar : State :=
  { State.reset with
    fol := { State.reset.fol with place0 := some unboundLeaf, order := [0] }
    bct := { State.reset.bct with last := 0x10000 } }

/-- Refutes O23: the commit for another leaf lets the unbound leaf take the far bank, whose register stands in block 0x21, which the
statement holds. -/
theorem not_beamTableCommitsLoadAndAreRefusedInFull : ¬ Obligations.BeamTableCommitsLoadAndAreRefusedInFull := by
  unfold Obligations.BeamTableCommitsLoadAndAreRefusedInFull
  rintro ⟨hcommit, -⟩
  have hruns := hcommit State.bankFar .keeper 0 (by decide +kernel) (by decide +kernel)
  exact absurd (outcomeReg_of_runsTo hruns (fun t ⟨_, _, _, _, _, _, _, hout, _⟩ => hout (F.BCT_BANK.LEAF 0x10000).off (by decide)))
    (by decide +kernel)

end Sys2Proof.Machine
end

section
/-! SUPPORT. The far bank again: the register that names the leaf of bank 0xDFFC is the Keeper's status. -/
namespace Sys2Proof.Machine

/-- What the next state of an outcome holds in a field. -/
def outcomeRd (f : Field) (o : Host.Outcome State Fault Refusal) : Nat := match o with
  | .next t => t.rd f
  | _ => 0

theorem outcomeRd_of_runsTo {c : Instr} {s : State} {post : State → Prop} {f : Field} {v : Nat} (hruns : runsTo c s post)
    (hpost : ∀ t, post t → t.rd f = v) : outcomeRd f (exec c s) = v := by
  obtain ⟨t, ht, h⟩ := hruns
  rw [ht]
  exact hpost t h

/-- A request for the commit of a table of leaf 0. -/
def commitRequest : KprReq := ⟨0, 1#8 :: List.replicate 31 0#8⟩

/-- A device in PREVIEW whose Keeper serves that request, with a leaf that has no bank yet; the leaf before it has the far bank. -/
def State.commitFar : State :=
  { (State.reset.wr F.BOOT_STATUS.MODE 2).wr F.KPR_STATUS.STATE 1 with
    kpr := { State.reset.kpr with queue := [commitRequest] }
    fol := { State.reset.fol with place0 := some (leafNew 0x1F00), order := [0] }
    bct := { State.reset.bct with last := 0xDFFC } }

/-- Refutes O51: the commit lets the unbound leaf take the far bank, and its number stands where QUEUED shows an empty queue. -/
theorem not_theKeeperServesRequests : ¬ Obligations.TheKeeperServesRequests := by
  unfold Obligations.TheKeeperServesRequests
  rintro ⟨-, -, hcommit, -⟩
  have hruns := hcommit State.commitFar commitRequest [] (by decide +kernel) (by decide +kernel) (by decide +kernel) (by decide +kernel)
    (by decide +kernel)
  exact absurd (outcomeRd_of_runsTo (f := F.KPR_STATUS.QUEUED) hruns (fun t ⟨⟨_, hqueued, _⟩, _⟩ => hqueued)) (by decide +kernel)

end Sys2Proof.Machine
end

section
/-! SUPPORT. The accesses of a unit to DDR5 that reads no changed word: the ports, queues and picks of the channels, and the counters
(R208 to R211, R365). -/
namespace Sys2Proof.Machine

/-- A step of the accesses of a unit: the channels, the counters' interrupts, the count of capped windows and the registers of the
counters. -/
structure Accessed (s t : State) : Prop where
  parts : t = { s with regs := t.regs, mem := { s.mem with ch := t.mem.ch }, pmc := { s.pmc with irqs := t.pmc.irqs } }
  kept : ∀ o, o < 0x230000 → o ≠ 0x180048 → t.reg o = s.reg o

namespace Accessed

variable {s t u : State}

theorem refl (s : State) : Accessed s s := ⟨rfl, fun _ _ _ => rfl⟩

theorem trans (h : Accessed s t) (h' : Accessed t u) : Accessed s u :=
  ⟨by rw [h'.parts, h.parts], fun o h1 h2 => (h'.kept o h1 h2).trans (h.kept o h1 h2)⟩

theorem wr (h : Accessed s t) (f : Field) (v : Nat) (hf : 0x230000 ≤ f.off ∨ f.off = 0x180048) : Accessed s (t.wr f v) :=
  h.trans ⟨rfl, fun o h1 h2 => State.reg_wr_ne _ _ _ _ (by rintro rfl; omega)⟩

theorem ite (c : Prop) [Decidable c] (h : Accessed s t) (h' : Accessed s u) : Accessed s (if c then t else u) := by
  split
  · exact h
  · exact h'

theorem foldl {α : Type} (f : State → α → State) (hf : ∀ s a, Accessed s (f s a)) : ∀ (l : List α) (s : State), Accessed s (l.foldl f s)
  | [], s => refl s
  | a :: l, s => (hf s a).trans (foldl f hf l (f s a))

theorem setCh (h : Accessed s t) (c : Nat) (f : MemCh → MemCh) : Accessed s (t.setCh c f) := h.trans ⟨rfl, fun _ _ _ => rfl⟩

end Accessed

theorem State.pmcStep_accessed (s : State) (k n : Nat) : Accessed s (s.pmcStep k n).1 :=
  (Accessed.refl s).wr (F.PMC_CTR.COUNT k) _ (.inl (by show 0x230000 ≤ 0x230400 + 0x8 * k; omega))

theorem State.pmcAdd_accessed (s : State) (k n : Nat) : Accessed s (s.pmcAdd k n) := by
  unfold State.pmcAdd
  have hstep := s.pmcStep_accessed k n
  generalize s.pmcStep k n = x at hstep ⊢
  obtain ⟨t, w⟩ := x
  dsimp only at hstep ⊢
  have hovf := hstep.wr F.PMC_OVF.OVF (t.rd F.PMC_OVF.OVF ||| 2 ^ k) (.inl (by decide))
  generalize t.wr F.PMC_OVF.OVF (t.rd F.PMC_OVF.OVF ||| 2 ^ k) = u at hovf ⊢
  have hirq : Accessed s (if u.selBit (F.PMC_SEL.OVF_IRQ k) k then { u with pmc := { u.pmc with irqs := u.pmc.irqs + 1 } } else u) :=
    Accessed.ite _ (hovf.trans ⟨rfl, fun _ _ _ => rfl⟩) hovf
  generalize (if u.selBit (F.PMC_SEL.OVF_IRQ k) k then { u with pmc := { u.pmc with irqs := u.pmc.irqs + 1 } } else u) = v at hirq ⊢
  exact Accessed.ite _ hstep (Accessed.ite _ (hirq.trans (v.pmcStep_accessed _ _)) hirq)

theorem State.pmcEvent_accessed (s : State) (event n : Nat) (i : PmcInfo) : Accessed s (s.pmcEvent event n i) := by
  have hstep : ∀ (l : List Nat) (t : State), Accessed s t →
      Accessed s (l.foldl (fun t k => if s.pmcCounts k event i then t.pmcAdd k n else t) t) := fun l => by
    induction l with
    | nil => exact fun _ h => h
    | cons k l ih => exact fun t h => ih _ (Accessed.ite _ (h.trans (t.pmcAdd_accessed k n)) h)
  unfold State.pmcEvent
  exact Accessed.ite _ (Accessed.refl s) (hstep _ s (Accessed.refl s))

theorem State.portPut_accessed (s : State) (c access : Nat) (write : Option (Nat × List Byte)) (core : Option (Nat × Nat)) (master : Nat)
    (user : Bool) : Accessed s (s.portPut c access write core master user) :=
  (Accessed.refl s).setCh c _

theorem State.memServed_accessed (s : State) (c sub : Nat) (r : MemReq) : Accessed s (s.memServed c sub r) := by
  have hcount : ∀ hit f, Accessed s ((s.pmcServed c hit r).setCh c f) := fun hit f =>
    ((s.pmcEvent_accessed _ _ _).trans (State.pmcEvent_accessed _ _ _ _)).setCh c f
  unfold State.memServed
  dsimp only
  exact Accessed.ite _ ((hcount _ _).wr F.MEM_COUNTS.CAPPED _ (.inr rfl)) (hcount _ _)

theorem State.unitRequest_accessed (s : State) (master : Nat) (write : Option (Nat × List Byte)) (access : Nat) :
    Accessed s (s.unitRequest master write access) := by
  unfold State.unitRequest
  split
  · exact Accessed.refl s
  · rename_i c _
    have hport := s.portPut_accessed c access write none master false
    dsimp only
    split
    · exact hport
    · rename_i r _
      have hadmit : Accessed s ((s.portPut c access write none master false).pmcAdmitted c r) :=
        (hport.trans (State.pmcEvent_accessed _ _ _ _)).trans (State.pmcEvent_accessed _ _ _ _)
      exact (hadmit.setCh c _).trans (State.memServed_accessed _ _ _ _)

/-- A unit's read of DDR5 that holds no changed word leaves every memory. -/
theorem State.unitRead_accessed {s : State} (hgood : s.ddrErr = []) (master a n source : Nat) : Accessed s (s.unitRead master a n source) := by
  have hreads := Accessed.foldl (fun s b => State.unitRequest s master none (max a b)) (fun s b => s.unitRequest_accessed _ _ _) (burstsOf a n) s
  unfold State.unitRead
  generalize (burstsOf a n).foldl (fun s b => State.unitRequest s master none (max a b)) s = t at hreads ⊢
  have ht : t.ddrErr = [] := by rw [hreads.parts, hgood]
  unfold State.rangeTake
  rw [if_pos ht]
  exact hreads

end Sys2Proof.Machine
end

section
/-! SUPPORT. The settings sets of the survey: a pipeline replaced, the writes of a list on the bus, the start of a list and its end
(R225 to R231). -/
namespace Sys2Proof.Machine

/-! ### A pipeline replaced -/

theorem State.pipe_setPipe_same (s : State) {p : Nat} (x : SvyPipe) (hp : p < s.svy.length) : (s.setPipe p x).pipe p = x := by
  unfold State.setPipe State.pipe
  simp [hp]

theorem State.pipe_setPipe_ne (s : State) {p k : Nat} (x : SvyPipe) (hk : k ≠ p) : (s.setPipe p x).pipe k = s.pipe k := by
  unfold State.setPipe State.pipe
  simp [List.getElem?_set_ne (Ne.symm hk)]

theorem State.pipe_of_svy {s t : State} (h : t.svy = s.svy) (k : Nat) : t.pipe k = s.pipe k := by
  unfold State.pipe
  rw [h]

theorem State.pipe_onPipe_same (s : State) {p : Nat} (f : SvyPipe → SvyPipe) (hp : p < s.svy.length) :
    (s.onPipe p f).pipe p = f (s.pipe p) := s.pipe_setPipe_same _ hp

theorem State.pipe_onPipe_ne (s : State) {p k : Nat} (f : SvyPipe → SvyPipe) (hk : k ≠ p) : (s.onPipe p f).pipe k = s.pipe k :=
  s.pipe_setPipe_ne _ hk

theorem State.length_setPipe (s : State) (p : Nat) (x : SvyPipe) : (s.setPipe p x).svy.length = s.svy.length := List.length_set

/-! ### The bus -/

/-- The write of a list on the bus. -/
def State.i2cItem (s : State) (p : Nat) (w : Nat × Nat) : I2cItem := .write (s.bit (F.SVY_P_I2C.FAST p)) (s.i2cBytes p w)

theorem State.i2cItem_of_reg {s t : State} {p : Nat} (h : t.reg (F.SVY_P_I2C.ADDR p).off = s.reg (F.SVY_P_I2C.ADDR p).off) (w : Nat × Nat) :
    t.i2cItem p w = s.i2cItem p w := by
  unfold State.i2cItem State.i2cBytes State.bit State.rd
  rw [show (F.SVY_P_I2C.FAST p).off = (F.SVY_P_I2C.ADDR p).off from rfl, h]

theorem State.i2cBegin_writes {s : State} {p : Nat} {w : Nat × Nat} (low : Bool)
    (h : (s.pipe p).send.bind (fun e => e.left.head?) = some w) : s.i2cBegin p low =
      s.setPipe p { s.pipe p with
        bus := (if (s.pipe p).owes || low then [.recover] else []) ++ [s.i2cItem p w], owes := false } := by
  unfold State.i2cBegin
  dsimp only
  rw [h]
  unfold State.onPipe State.i2cItem
  dsimp only
  split <;> rfl

theorem State.i2cBegin_over {s : State} {p : Nat} (low : Bool) (h : (s.pipe p).send.bind (fun e => e.left.head?) = none) :
    s.i2cBegin p low = s.setPipe p { s.pipe p with bus := [] } := by
  unfold State.i2cBegin
  dsimp only
  rw [h]
  rfl

/-! ### The start of a list -/

/-- The pipeline whose next list is due: the next set, where the set in force would send its first phase. -/
def SvyPipe.nextSet (x : SvyPipe) : SvyPipe := match x.queue with
  | q :: rest => if x.cur.isNone || x.phase = 0 then { x with cur := some q, phase := 0, queue := rest } else x
  | [] => x

/-- A list that begins, of the set in force. -/
def State.listSent (s : State) (p : Nat) (low : Bool) (x : SvyPipe) (c : SvySet) : State :=
  let e : SvySend := ⟨⟨c.number, x.phase, c.phases⟩, c.lists.getD x.phase [], 0, false⟩
  let s := s.setPipe p { x with send := some e, ready := false }
  let s := (s.wr (F.SVY_P_SET_STATUS.SENDING p) c.number).wr (F.SVY_P_SET_STATUS.QUEUED p) x.queue.length
  if e.left.isEmpty then s.listDone p e else s.i2cBegin p low
def State.listGo (s : State) (p : Nat) (low : Bool) (x : SvyPipe) : State := match x.cur with
  | none => s
  | some c => s.listSent p low x c

theorem State.listStart_goes {s : State} {p : Nat} (low : Bool) (hon : s.svyOn p = true) (hsend : (s.pipe p).send = none) :
    s.listStart p low = s.listGo p low (s.pipe p).nextSet := by
  have heq : s.listStart p low = if !s.svyOn p || (s.pipe p).send.isSome then s else s.listGo p low (s.pipe p).nextSet := rfl
  rw [heq, if_neg (by simp [hon, hsend])]

theorem SvyPipe.nextSet_queued {x : SvyPipe} {q : SvySet} {rest : List SvySet} (hqueue : x.queue = q :: rest)
    (hstart : x.cur = none ∨ x.phase = 0) : x.nextSet = { x with cur := some q, phase := 0, queue := rest } := by
  unfold SvyPipe.nextSet
  rw [hqueue]
  dsimp only
  rw [if_pos (by rcases hstart with h | h <;> simp [h])]

theorem SvyPipe.nextSet_same {x : SvyPipe} {q : SvySet} (hcur : x.cur = some q) (hstay : x.queue = [] ∨ x.phase ≠ 0) : x.nextSet = x := by
  unfold SvyPipe.nextSet
  split
  next hqueue =>
    rw [if_neg]
    rcases hstay with h | h
    · rw [h] at hqueue
      exact absurd hqueue (by simp)
    · simp [hcur, h]
  next => rfl

/-- What a list that begins leaves. -/
theorem State.listGo_spec {s : State} {p : Nat} {x : SvyPipe} {c : SvySet} {w : Nat × Nat} {ws : List (Nat × Nat)} (low : Bool)
    (hp : p < s.svy.length) (hcur : x.cur = some c) (hlist : c.lists.getD x.phase [] = w :: ws) : ∃ t, s.listGo p low x = t ∧
    t.pipe p = { x with
      send := some ⟨⟨c.number, x.phase, c.phases⟩, w :: ws, 0, false⟩, ready := false
      bus := (if x.owes || low then [.recover] else []) ++ [s.i2cItem p w], owes := false } ∧
    t.rd (F.SVY_P_SET_STATUS.SENDING p) = c.number % 65536 ∧ t.rd (F.SVY_P_SET_STATUS.QUEUED p) = x.queue.length % 8 ∧
    (∀ k, k ≠ p → t.pipe k = s.pipe k) ∧ t = { s with regs := t.regs, svy := t.svy } ∧
    (∀ o, o ≠ (F.SVY_P_SET_STATUS.SENDING p).off → t.reg o = s.reg o) := by
  obtain ⟨y, hy⟩ : ∃ y : SvyPipe, y = { x with send := some ⟨⟨c.number, x.phase, c.phases⟩, w :: ws, 0, false⟩, ready := false } := ⟨_, rfl⟩
  obtain ⟨u, hu⟩ : ∃ u, u = ((s.setPipe p y).wr (F.SVY_P_SET_STATUS.SENDING p) c.number).wr (F.SVY_P_SET_STATUS.QUEUED p) x.queue.length :=
    ⟨_, rfl⟩
  have husvy : u.svy = (s.setPipe p y).svy := by
    rw [hu, State.wr_svy, State.wr_svy]
  have hupipe : u.pipe p = y := by
    rw [State.pipe_of_svy husvy, s.pipe_setPipe_same y hp]
  have hureg : ∀ o, o ≠ (F.SVY_P_SET_STATUS.SENDING p).off → u.reg o = s.reg o := fun o ho => by
    have hqueued : o ≠ (F.SVY_P_SET_STATUS.QUEUED p).off := ho
    rw [hu, State.reg_wr_ne _ _ _ _ hqueued, State.reg_wr_ne _ _ _ _ ho]
    exact State.reg_of_regs _ _ rfl o
  have honly : RegsOnly (s.setPipe p y) u := by
    rw [hu]
    exact ((RegsOnly.refl _).wr _ _).wr _ _
  have huparts : u = { s with regs := u.regs, svy := u.svy } := by
    rw [honly]
    rfl
  have hsending : u.rd (F.SVY_P_SET_STATUS.SENDING p) = c.number % 65536 := by
    rw [hu]
    exact (State.rd_wr_apart _ _ _ _ _ _ _ (by decide)).trans (State.rd_wr_same _ _ _ _ _ (by decide))
  have hqueued : u.rd (F.SVY_P_SET_STATUS.QUEUED p) = x.queue.length % 8 := by
    rw [hu]
    exact State.rd_wr_same _ _ _ _ _ (by decide)
  have hbegin : (u.pipe p).send.bind (fun e => e.left.head?) = some w := by
    rw [hupipe, hy]
    rfl
  have hgo : s.listGo p low x = u.i2cBegin p low := by
    unfold State.listGo
    rw [hcur]
    show s.listSent p low x c = _
    unfold State.listSent
    rw [hlist, hu, hy]
    rfl
  have hlen : p < u.svy.length := by
    rw [husvy, State.length_setPipe]
    exact hp
  have hwrite : u.i2cItem p w = s.i2cItem p w := State.i2cItem_of_reg (hureg (F.SVY_P_I2C.ADDR p).off (by show 0x1A0008 + 0x8000 * p ≠ 0x1A0048 + 0x8000 * p; omega)) w
  rw [hgo, State.i2cBegin_writes low hbegin, hwrite]
  refine ⟨_, rfl, ?_, hsending, hqueued, fun k hk => ?_, ?_, hureg⟩
  · rw [State.pipe_setPipe_same _ _ hlen, hupipe, hy]
  · rw [State.pipe_setPipe_ne _ _ hk, State.pipe_of_svy husvy, State.pipe_setPipe_ne _ _ hk]
  · unfold State.setPipe
    rw [huparts]

/-! ### Groups formed anew -/

theorem RegsOnly.dropped {s t : State} (h : RegsOnly s t) : t = { s with
    regs := t.regs, mem := { s.mem with ch := t.mem.ch }, pmc := { s.pmc with irqs := t.pmc.irqs }, svy := t.svy } := by
  rw [h]

/-- A step that forms groups of a pipeline: its records, its group and its run, the flags and counts of what is dropped, and the accesses
that read stored frames. -/
structure Regrouped (p : Nat) (s t : State) : Prop where
  parts : t = { s with
    regs := t.regs, mem := { s.mem with ch := t.mem.ch }, pmc := { s.pmc with irqs := t.pmc.irqs }, svy := t.svy }
  kept : ∀ o, o < 0x230000 → o ≠ 0x180048 → o ≠ (F.SVY_P_ERR.I2C p).off → o ≠ (F.SVY_P_COUNTS.DROPPED p).off → t.reg o = s.reg o
  flag : ∀ l w, l + w ≤ 8 → t.rd ⟨(F.SVY_P_ERR.I2C p).off, l, w⟩ = s.rd ⟨(F.SVY_P_ERR.I2C p).off, l, w⟩
  others : ∀ k, k ≠ p → t.pipe k = s.pipe k
  own : ∃ group run recs, t.pipe p = { s.pipe p with group := group, run := run, recs := recs }
  length : t.svy.length = s.svy.length

namespace Regrouped

variable {p : Nat} {s t u : State}

theorem refl (p : Nat) (s : State) : Regrouped p s s :=
  ⟨rfl, fun _ _ _ _ _ => rfl, fun _ _ _ => rfl, fun _ _ => rfl, ⟨(s.pipe p).group, (s.pipe p).run, (s.pipe p).recs, rfl⟩, rfl⟩

theorem trans (h : Regrouped p s t) (h' : Regrouped p t u) : Regrouped p s u := by
  obtain ⟨g, r, c, hown⟩ := h.own
  obtain ⟨g', r', c', hown'⟩ := h'.own
  exact ⟨by rw [h'.parts, h.parts], fun o h1 h2 h3 h4 => (h'.kept o h1 h2 h3 h4).trans (h.kept o h1 h2 h3 h4),
    fun l w hl => (h'.flag l w hl).trans (h.flag l w hl), fun k hk => (h'.others k hk).trans (h.others k hk),
    ⟨g', r', c', by rw [hown', hown]⟩, h'.length.trans h.length⟩

theorem ite (c : Prop) [Decidable c] (h : Regrouped p s t) (h' : Regrouped p s u) : Regrouped p s (if c then t else u) := by
  split
  · exact h
  · exact h'

/-- A pipeline with another group, run and records. -/
theorem setPipe (s : State) (hp : p < s.svy.length) (group : List SvyFrame) (run : Bool) (recs : List SvyRec) :
    Regrouped p s (s.setPipe p { s.pipe p with group := group, run := run, recs := recs }) :=
  ⟨rfl, fun _ _ _ _ _ => rfl, fun _ _ _ => rfl, fun _ hk => s.pipe_setPipe_ne _ hk, ⟨group, run, recs, s.pipe_setPipe_same _ hp⟩,
    s.length_setPipe _ _⟩

theorem of_accessed (hp : p < 2) (h : Accessed s t) : Regrouped p s t := by
  have hpipe : ∀ k, t.pipe k = s.pipe k := State.pipe_of_svy (by rw [h.parts])
  refine ⟨by rw [h.parts], fun o h1 h2 _ _ => h.kept o h1 h2, fun l w _ => ?_, fun k _ => hpipe k,
    ⟨(s.pipe p).group, (s.pipe p).run, (s.pipe p).recs, hpipe p⟩, by rw [h.parts]⟩
  unfold State.rd
  rw [h.kept _ (by show 0x1A0070 + 0x8000 * p < 0x230000; omega) (by show 0x1A0070 + 0x8000 * p ≠ 0x180048; omega)]

theorem drop (s : State) (l : Nat) (hl : 8 ≤ l) : Regrouped p s (s.svyDrop p ⟨(F.SVY_P_ERR.I2C p).off, l, 1⟩) := by
  obtain ⟨v, hv⟩ : ∃ v, s.svyDrop p ⟨(F.SVY_P_ERR.I2C p).off, l, 1⟩ =
      (s.wr ⟨(F.SVY_P_ERR.I2C p).off, l, 1⟩ 1).wr (F.SVY_P_COUNTS.DROPPED p) v := ⟨_, rfl⟩
  have hpipe : ∀ k, ((s.wr ⟨(F.SVY_P_ERR.I2C p).off, l, 1⟩ 1).wr (F.SVY_P_COUNTS.DROPPED p) v).pipe k = s.pipe k :=
    State.pipe_of_svy (by rw [State.wr_svy, State.wr_svy])
  have honly : RegsOnly s ((s.wr ⟨(F.SVY_P_ERR.I2C p).off, l, 1⟩ 1).wr (F.SVY_P_COUNTS.DROPPED p) v) :=
    ((RegsOnly.refl s).wr _ _).wr _ _
  rw [hv]
  refine ⟨honly.dropped, fun o _ _ h3 h4 => ?_, fun l' w hl' => ?_, fun k _ => hpipe k, ⟨(s.pipe p).group, (s.pipe p).run, (s.pipe p).recs, hpipe p⟩,
    by rw [State.wr_svy, State.wr_svy]⟩
  · rw [State.reg_wr_ne _ _ _ _ h4]
    exact State.reg_wr_ne _ _ _ _ h3
  · have hoff : (F.SVY_P_COUNTS.DROPPED p).off ≠ (F.SVY_P_ERR.I2C p).off := by
      show 0x1A0078 + 0x8000 * p ≠ 0x1A0070 + 0x8000 * p
      omega
    exact (State.rd_wr_off _ (F.SVY_P_COUNTS.DROPPED p).off _ _ (F.SVY_P_ERR.I2C p).off _ _ _ hoff).trans
      (State.rd_wr_apart s (F.SVY_P_ERR.I2C p).off l 1 l' w 1 (by omega))

end Regrouped

theorem State.frameReads_accessed (p : Nat) (fs : List SvyFrame) : ∀ s : State, s.ddrErr = [] → Accessed s (s.frameReads p fs) := by
  unfold State.frameReads
  induction fs with
  | nil => exact fun s _ => Accessed.refl s
  | cons f fs ih =>
    intro s hgood
    have hstep : Accessed s (match f.index with
        | none => s
        | some i => s.unitRead (26 + p) (s.frameBase p i) (2 * s.rd (F.SVY_P_CAM.WIDTH p) * s.rd (F.SVY_P_CAM.HEIGHT p)) 1) := by
      split
      · exact Accessed.refl s
      · exact State.unitRead_accessed hgood _ _ _ _
    exact hstep.trans (ih _ (by rw [hstep.parts, hgood]))

section
variable {p : Nat} (hp : p < 2)
include hp

theorem State.runDrop_regrouped {s : State} (hlen : s.svy.length = 2) : Regrouped p s (s.runDrop p) := by
  unfold State.runDrop
  dsimp only
  have hdrop : Regrouped p s (if (s.pipe p).run then s else s.svyDrop p (F.SVY_P_ERR.GROUP_DROP p)) :=
    Regrouped.ite _ (Regrouped.refl p s) (Regrouped.drop s 10 (by decide))
  exact hdrop.trans (Regrouped.setPipe _ (by rw [hdrop.length]; omega) _ _ _)

theorem State.groupDone_regrouped {s : State} (hlen : s.svy.length = 2) (hgood : s.ddrErr = []) (early : List SvyFrame) (f : SvyFrame) :
    Regrouped p s (s.groupDone p early f) := by
  unfold State.groupDone
  dsimp only
  have hclear : Regrouped p s (s.onPipe p (fun x => { x with group := [] })) := Regrouped.setPipe s (by omega) _ _ _
  generalize s.onPipe p (fun x => { x with group := [] }) = t at hclear ⊢
  refine Regrouped.ite _ (hclear.trans (Regrouped.drop t 8 (by decide))) ?_
  have hread : Regrouped p s (t.frameReads p early) :=
    hclear.trans (Regrouped.of_accessed hp (State.frameReads_accessed p early t (by rw [hclear.parts, hgood])))
  exact hread.trans (Regrouped.setPipe _ (by rw [hread.length]; omega) _ _ _)

theorem State.groupTake_regrouped {s : State} (hlen : s.svy.length = 2) (hgood : s.ddrErr = []) (f : SvyFrame) :
    Regrouped p s (s.groupTake p f) := by
  have hjoin : ∀ {t : State} group run, Regrouped p s t → Regrouped p s (t.setPipe p { t.pipe p with group := group, run := run }) :=
    fun group run h => h.trans (Regrouped.setPipe _ (by rw [h.length]; omega) group run _)
  have hdone : ∀ {t : State} early, Regrouped p s t → Regrouped p s (t.groupDone p early f) := fun early h =>
    h.trans (State.groupDone_regrouped hp (by rw [h.length, hlen]) (by rw [h.parts, hgood]) early f)
  have hdrop : ∀ {t : State}, Regrouped p s t → Regrouped p s (t.runDrop p) := fun h =>
    h.trans (State.runDrop_regrouped hp (by rw [h.length, hlen]))
  have hself := Regrouped.refl p s
  unfold State.groupTake
  refine Regrouped.ite _ (hdrop hself) (Regrouped.ite _ (Regrouped.ite _ (hdone _ hself) (hjoin _ _ hself)) ?_)
  have hbefore : Regrouped p s (if (s.pipe p).group.isEmpty then s else s.runDrop p) := Regrouped.ite _ hself (hdrop hself)
  dsimp only
  generalize (if (s.pipe p).group.isEmpty then s else s.runDrop p) = t at hbefore ⊢
  have hnew := hjoin [] false hbefore
  exact Regrouped.ite _ (Regrouped.ite _ (hdone _ hnew) (hjoin _ _ hnew)) (hdrop hbefore)

theorem State.retag_regrouped {s : State} (hlen : s.svy.length = 2) (hgood : s.ddrErr = []) (a : Nat) (tag : SvyTag) :
    Regrouped p s (s.retag p a tag) := by
  have hpull : Regrouped p s (s.setPipe p ((s.pipe p).pullFrom a).1) := by
    unfold SvyPipe.pullFrom
    dsimp only
    split
    · exact Regrouped.setPipe s (by omega) (s.pipe p).group (s.pipe p).run (s.pipe p).recs
    · exact Regrouped.setPipe s (by omega) _ _ _
  have hfold : ∀ (l : List SvyFrame) (t : State) (g : State → SvyFrame → SvyFrame), Regrouped p s t →
      Regrouped p s (l.foldl (fun s f => s.groupTake p (g s f)) t) := fun l => by
    induction l with
    | nil => exact fun _ _ h => h
    | cons f l ih =>
      exact fun t g h => ih _ g (h.trans (State.groupTake_regrouped hp (by rw [h.length, hlen]) (by rw [h.parts, hgood]) _))
  exact hfold _ _ (fun s f =>
    let f := { f with lines := if f.lines.isEmpty then ((f.index.map (s.frameLoad p)).getD []).reverse else f.lines }
    if f.sof < a then f else { f with tag := some tag, uncertain := true }) hpull

end

end Sys2Proof.Machine
end

section
/-! SUPPORT. The end of a list, and the commands of the settings sets. -/
namespace Sys2Proof.Machine

/-! ### The end of a list -/

/-- The SOFs that stand before the end of a list by less than the guard, and the tag that waits for its SOFs. -/
def State.nearSofs (s : State) (p : Nat) : List Nat := ((s.pipe p).sofs.filter (fun t => s.nowAll < t.1 + s.svyGuard p)).map Prod.fst
def State.tagWaits (s : State) (p : Nat) (e : SvySend) (failed : Bool) : SvyPend :=
  ⟨e.tag, s.nowAll, (s.nearSofs p).length, 0, failed, !s.svyOn p⟩

/-- A list out of transmission. -/
def State.listOver (s : State) (p : Nat) (e : SvySend) (failed : Bool) : State :=
  s.setPipe p { s.pipe p with
    send := none, ready := false, pend := (s.pipe p).pend ++ [s.tagWaits p e failed]
    phase := if s.svyOn p then (e.tag.phase + 1) % max 1 e.tag.phases else (s.pipe p).phase }

/-- The frames since a SOF that was already the list's take its tag. -/
def State.tagTaken (s : State) (p : Nat) (e : SvySend) (a fresh : Nat) : State :=
  (s.addSat (F.SVY_P_SET_STATUS.UNCERTAIN p) fresh).onPipe p (fun x => { x with
    tag := some e.tag
    sofs := x.sofs.map (fun t => (t.1, t.2 || decide (a ≤ t.1)))
    frame := x.frame.map (fun f => { f with tag := some e.tag, uncertain := true }) })

/-- What is shown of a tag in force. -/
def State.tagShown (s : State) (p : Nat) (tag : SvyTag) : State :=
  ((s.wr (F.SVY_P_STATUS.SET p) tag.number).wr (F.SVY_P_STATUS.PHASE p) tag.phase).set1 (F.SVY_P_STATUS.UNCERTAIN p)

theorem State.listEnd_eq (s : State) (p : Nat) (e : SvySend) (failed : Bool) : ∃ a fresh, s.listEnd p e failed =
    if (s.nearSofs p).length < s.svyLat p then s.listOver p e failed
    else (((s.listOver p e failed).tagTaken p e a fresh).retag p a e.tag).tagShown p e.tag := ⟨_, _, rfl⟩

theorem State.nearSofs_length (s : State) (p : Nat) :
    (s.nearSofs p).length = ((s.pipe p).sofs.filter (fun t => s.nowAll < t.1 + s.svyGuard p)).length := by
  unfold State.nearSofs
  rw [List.length_map]

/-- A step of the end of a list: its pipeline, and registers of the survey beside its cause and the flag of its failure. -/
structure Ended (p : Nat) (s t : State) : Prop where
  parts : t = { s with
    regs := t.regs, mem := { s.mem with ch := t.mem.ch }, pmc := { s.pmc with irqs := t.pmc.irqs }, svy := t.svy }
  cause : t.rd (F.SVY_P_SET_STATUS.CAUSE p) = s.rd (F.SVY_P_SET_STATUS.CAUSE p)
  flag : t.rd (F.SVY_P_ERR.I2C p) = s.rd (F.SVY_P_ERR.I2C p)
  others : ∀ k, k ≠ p → t.pipe k = s.pipe k
  length : t.svy.length = s.svy.length

namespace Ended

variable {p : Nat} {s t u : State}

theorem refl (p : Nat) (s : State) : Ended p s s := ⟨rfl, rfl, rfl, fun _ _ => rfl, rfl⟩

theorem trans (h : Ended p s t) (h' : Ended p t u) : Ended p s u :=
  ⟨by rw [h'.parts, h.parts], h'.cause.trans h.cause, h'.flag.trans h.flag, fun k hk => (h'.others k hk).trans (h.others k hk),
    h'.length.trans h.length⟩

theorem setPipe (s : State) (p : Nat) (x : SvyPipe) : Ended p s (s.setPipe p x) :=
  ⟨rfl, rfl, rfl, fun _ hk => s.pipe_setPipe_ne _ hk, s.length_setPipe _ _⟩

theorem of_regs (h : RegsOnly s t) (hcause : t.rd (F.SVY_P_SET_STATUS.CAUSE p) = s.rd (F.SVY_P_SET_STATUS.CAUSE p))
    (hflag : t.rd (F.SVY_P_ERR.I2C p) = s.rd (F.SVY_P_ERR.I2C p)) : Ended p s t :=
  ⟨h.dropped, hcause, hflag, fun k _ => State.pipe_of_svy (by rw [h]) k, by rw [h]⟩

theorem of_regrouped (hp : p < 2) (h : Regrouped p s t) : Ended p s t := by
  refine ⟨h.parts, ?_, h.flag _ _ (by decide), h.others, h.length⟩
  unfold State.rd
  rw [h.kept (F.SVY_P_SET_STATUS.CAUSE p).off (by show 0x1A0048 + 0x8000 * p < 0x230000; omega)
    (by show 0x1A0048 + 0x8000 * p ≠ 0x180048; omega) (by show 0x1A0048 + 0x8000 * p ≠ 0x1A0070 + 0x8000 * p; omega)
    (by show 0x1A0048 + 0x8000 * p ≠ 0x1A0078 + 0x8000 * p; omega)]

end Ended

theorem State.addSat_eq (s : State) (f : Field) (n : Nat) : ∃ v, s.addSat f n = s.wr f v := ⟨_, rfl⟩

theorem State.uncertain_ended (s : State) (p n : Nat) : Ended p s (s.addSat (F.SVY_P_SET_STATUS.UNCERTAIN p) n) := by
  obtain ⟨v, hv⟩ := s.addSat_eq (F.SVY_P_SET_STATUS.UNCERTAIN p) n
  rw [hv]
  refine Ended.of_regs ((RegsOnly.refl s).wr _ _) (State.rd_wr_apart _ _ _ _ _ _ _ (by decide)) ?_
  have hoff : (F.SVY_P_SET_STATUS.UNCERTAIN p).off ≠ (F.SVY_P_ERR.I2C p).off := by
    show 0x1A0048 + 0x8000 * p ≠ 0x1A0070 + 0x8000 * p
    omega
  exact State.rd_wr_off _ (F.SVY_P_SET_STATUS.UNCERTAIN p).off _ _ (F.SVY_P_ERR.I2C p).off _ _ _ hoff

theorem State.tagShown_kept (s : State) (p : Nat) (tag : SvyTag) : RegsOnly s (s.tagShown p tag) ∧
    ∀ o, o ≠ (F.SVY_P_STATUS.STATE p).off → (s.tagShown p tag).reg o = s.reg o := by
  unfold State.tagShown
  refine ⟨(((RegsOnly.refl s).wr _ _).wr _ _).wr _ _, fun o ho => ?_⟩
  have h1 : o ≠ (F.SVY_P_STATUS.UNCERTAIN p).off := ho
  have h2 : o ≠ (F.SVY_P_STATUS.PHASE p).off := ho
  have h3 : o ≠ (F.SVY_P_STATUS.SET p).off := ho
  exact (State.reg_wr_ne _ _ _ _ h1).trans ((State.reg_wr_ne _ _ _ _ h2).trans (State.reg_wr_ne _ _ _ _ h3))

theorem State.tagShown_ended (s : State) (p : Nat) (tag : SvyTag) : Ended p s (s.tagShown p tag) := by
  obtain ⟨honly, hkept⟩ := s.tagShown_kept p tag
  refine Ended.of_regs honly ?_ ?_
  · unfold State.rd
    rw [hkept (F.SVY_P_SET_STATUS.CAUSE p).off (by show 0x1A0048 + 0x8000 * p ≠ 0x1A0018 + 0x8000 * p; omega)]
  · unfold State.rd
    rw [hkept (F.SVY_P_ERR.I2C p).off (by show 0x1A0070 + 0x8000 * p ≠ 0x1A0018 + 0x8000 * p; omega)]

theorem State.pipe_addSat (s : State) (f : Field) (n k : Nat) : (s.addSat f n).pipe k = s.pipe k := by
  obtain ⟨v, hv⟩ := s.addSat_eq f n
  rw [hv]
  exact State.pipe_of_svy (State.wr_svy _ _ _) k

theorem State.tagTaken_ended (s : State) (p : Nat) (e : SvySend) (a fresh : Nat) : Ended p s (s.tagTaken p e a fresh) :=
  (s.uncertain_ended p fresh).trans (Ended.setPipe _ _ _)

/-- What the end of a list leaves of its pipeline. -/
theorem State.listEnd_spec {s : State} {p : Nat} (hp : p < 2) (hlen : s.svy.length = 2) (hgood : s.ddrErr = []) (e : SvySend) (failed : Bool) :
    ∃ t, s.listEnd p e failed = t ∧ Ended p s t ∧ ∃ tag sofs frame group run recs, t.pipe p = { s.pipe p with
      send := none, ready := false, pend := (s.pipe p).pend ++ [s.tagWaits p e failed]
      phase := if s.svyOn p then (e.tag.phase + 1) % max 1 e.tag.phases else (s.pipe p).phase
      tag := tag, sofs := sofs, frame := frame, group := group, run := run, recs := recs } := by
  obtain ⟨a, fresh, heq⟩ := s.listEnd_eq p e failed
  have hover : Ended p s (s.listOver p e failed) := Ended.setPipe s p _
  have hpipe := s.pipe_setPipe_same (p := p) { s.pipe p with
    send := none, ready := false, pend := (s.pipe p).pend ++ [s.tagWaits p e failed]
    phase := if s.svyOn p then (e.tag.phase + 1) % max 1 e.tag.phases else (s.pipe p).phase } (by omega)
  have hover_pipe : (s.listOver p e failed).pipe p = _ := hpipe
  rw [heq]
  generalize s.listOver p e failed = u at hover hover_pipe ⊢
  split
  · exact ⟨u, rfl, hover, _, _, _, _, _, _, hover_pipe⟩
  · have htaken := hover.trans (u.tagTaken_ended p e a fresh)
    have htaken_pipe : (u.tagTaken p e a fresh).pipe p = { u.pipe p with
        tag := some e.tag
        sofs := (u.pipe p).sofs.map (fun t => (t.1, t.2 || decide (a ≤ t.1)))
        frame := (u.pipe p).frame.map (fun f => { f with tag := some e.tag, uncertain := true }) } := by
      unfold State.tagTaken
      rw [State.pipe_onPipe_same _ _ (by
        obtain ⟨v, hv⟩ := u.addSat_eq (F.SVY_P_SET_STATUS.UNCERTAIN p) fresh
        rw [hv, State.wr_svy, hover.length]
        omega), State.pipe_addSat]
    generalize u.tagTaken p e a fresh = v at htaken htaken_pipe ⊢
    have hretag := State.retag_regrouped hp (by rw [htaken.length, hlen]) (by rw [htaken.parts, hgood]) a e.tag (s := v)
    have hended := htaken.trans (Ended.of_regrouped hp hretag)
    obtain ⟨g, r, c, hown⟩ := hretag.own
    generalize v.retag p a e.tag = w at hended hown ⊢
    have hshown : (w.tagShown p e.tag).pipe p = w.pipe p := State.pipe_of_svy (by rw [(w.tagShown_kept p e.tag).1]) p
    refine ⟨_, rfl, hended.trans (w.tagShown_ended p e.tag), some e.tag, (s.pipe p).sofs.map (fun t => (t.1, t.2 || decide (a ≤ t.1))),
      (s.pipe p).frame.map (fun f => { f with tag := some e.tag, uncertain := true }), g, r, c, ?_⟩
    rw [hshown, hown, htaken_pipe, hover_pipe]

end Sys2Proof.Machine
end

section
/-! SUPPORT. O37: settings sets are queued, started, sent, and end. -/
namespace Sys2Proof.Machine

/-! ### A descriptor -/

/-- A set accepted. -/
def State.setTaken (s : State) (p : Nat) (d : List Byte) : State :=
  ((s.setPipe p { s.pipe p with queue := (s.pipe p).queue ++ [setOf d], accepted := true }).wr (F.SVY_P_SET_STATUS.ACCEPTED p)
    (fieldAt d 0 2)).wr (F.SVY_P_SET_STATUS.QUEUED p) ((s.pipe p).queue.length + 1)

theorem exec_svySetSubmit {s : State} {m : Master} {p : Fin 2} {v : BitVec 32} {d : List Byte}
    (hserves : s.serves m (F.SVY_P_SET_SUBMIT.ADDR p).off = true) (hd : d = memRead s.sram (v.toNat / 128 % 2 ^ 15 * 128) 128) :
    exec (.svySetSubmit m p v) s = .next (if 4 ≤ (s.pipe p).queue.length then s.setRefuse p 1
      else if (s.pipe p).accepted && fieldAt d 0 2 ≠ (s.rd (F.SVY_P_SET_STATUS.ACCEPTED p) + 1) % 65536 then s.setRefuse p 2
      else if setBad d then s.setRefuse p 3 else s.setTaken p d) := by
  show execSvySetSubmit m p v s = _
  unfold execSvySetSubmit
  rw [State.gated_serves _ _ _ _ hserves, hd]
  rfl

/-- What an accepted set leaves. -/
theorem State.setTaken_spec {s : State} {p : Nat} (hp : p < s.svy.length) {d : List Byte} (hroom : (s.pipe p).queue.length < 4) :
    ∃ t, s.setTaken p d = t ∧ t.pipe p = { s.pipe p with queue := (s.pipe p).queue ++ [setOf d], accepted := true } ∧
      t.rd (F.SVY_P_SET_STATUS.ACCEPTED p) = fieldAt d 0 2 ∧ t.rd (F.SVY_P_SET_STATUS.QUEUED p) = (s.pipe p).queue.length + 1 ∧
      (∀ k, k ≠ p → t.pipe k = s.pipe k) ∧ t = { s with regs := t.regs, svy := t.svy } ∧
      regsApart [(F.SVY_P_SET_STATUS.ACCEPTED p).off] s t := by
  unfold State.setTaken
  have hsame := s.pipe_setPipe_same { s.pipe p with queue := (s.pipe p).queue ++ [setOf d], accepted := true } hp
  have hother := fun k (hk : k ≠ p) =>
    s.pipe_setPipe_ne { s.pipe p with queue := (s.pipe p).queue ++ [setOf d], accepted := true } hk
  have hparts : s.setPipe p { s.pipe p with queue := (s.pipe p).queue ++ [setOf d], accepted := true } =
      { s with svy := (s.setPipe p { s.pipe p with queue := (s.pipe p).queue ++ [setOf d], accepted := true }).svy } := rfl
  generalize s.setPipe p { s.pipe p with queue := (s.pipe p).queue ++ [setOf d], accepted := true } = u at hsame hother hparts ⊢
  have honly : RegsOnly u ((u.wr (F.SVY_P_SET_STATUS.ACCEPTED p) (fieldAt d 0 2)).wr (F.SVY_P_SET_STATUS.QUEUED p) ((s.pipe p).queue.length + 1)) :=
    ((RegsOnly.refl u).wr _ _).wr _ _
  have hpipe : ∀ k, ((u.wr (F.SVY_P_SET_STATUS.ACCEPTED p) (fieldAt d 0 2)).wr (F.SVY_P_SET_STATUS.QUEUED p)
      ((s.pipe p).queue.length + 1)).pipe k = u.pipe k := State.pipe_of_svy (by rw [State.wr_svy, State.wr_svy])
  have hreg : ∀ o, u.reg o = s.reg o := fun o => by
    rw [hparts]
    rfl
  refine ⟨_, rfl, by rw [hpipe, hsame], ?_, ?_, fun k hk => by rw [hpipe, hother k hk], ?_, ?_⟩
  · rw [State.rd_wr_apart _ _ _ _ _ _ _ (by decide), State.rd_wr_same _ _ _ _ _ (by decide)]
    exact Nat.mod_eq_of_lt (fieldAt_lt d 0 2)
  · rw [State.rd_wr_same _ _ _ _ _ (by decide)]
    exact Nat.mod_eq_of_lt (by omega)
  · generalize ((u.wr (F.SVY_P_SET_STATUS.ACCEPTED p) (fieldAt d 0 2)).wr (F.SVY_P_SET_STATUS.QUEUED p) ((s.pipe p).queue.length + 1)) = t
      at honly ⊢
    rw [honly, hparts]
  · exact regsApart_wr _ _ (regsApart_wr _ _ (fun o _ => hreg o) List.mem_cons_self) List.mem_cons_self

/-- What a refused set leaves. -/
theorem State.setRefuse_spec (s : State) (p : Nat) {cause : Nat} (hcause : cause < 16) : (s.setRefuse p cause).rd (F.SVY_P_SET_STATUS.CAUSE p) = cause ∧
    (s.setRefuse p cause).rd (F.SVY_P_ERR.SET_REFUSED p) = 1 ∧ RegsOnly s (s.setRefuse p cause) ∧
    regsApart [(F.SVY_P_SET_STATUS.CAUSE p).off, (F.SVY_P_ERR.SET_REFUSED p).off] s (s.setRefuse p cause) := by
  unfold State.setRefuse
  have hoff : (F.SVY_P_ERR.SET_REFUSED p).off ≠ (F.SVY_P_SET_STATUS.CAUSE p).off := by
    show 0x1A0070 + 0x8000 * p ≠ 0x1A0048 + 0x8000 * p
    omega
  refine ⟨?_, State.rd_wr_same _ _ _ _ _ (by decide), ((RegsOnly.refl s).wr _ _).wr _ _, ?_⟩
  · rw [State.set1_eq, State.rd_wr_off _ (F.SVY_P_ERR.SET_REFUSED p).off _ _ (F.SVY_P_SET_STATUS.CAUSE p).off _ _ _ hoff,
      State.rd_wr_same _ _ _ _ _ (by decide)]
    exact Nat.mod_eq_of_lt hcause
  · exact regsApart_wr _ _ (regsApart_wr _ _ regsApart_refl List.mem_cons_self) (List.mem_cons_of_mem _ List.mem_cons_self)

/-! ### The start of a list -/

theorem exec_svyListStart {s : State} {p : Fin 2} {low : Bool} (hready : (s.pipe p).ready = true) :
    exec (.svyListStart ⟨p, low⟩) s = .next (s.listStart p low) := by
  show execSvyListStart ⟨p, low⟩ s = _
  unfold execSvyListStart
  rw [if_pos hready]
  rfl

theorem exec_svyFrameTimeout {s : State} {p : Fin 2} {low : Bool} (hon : s.svyOn p = true) :
    exec (.svyFrameTimeout ⟨p, low⟩) s = .next ((s.clr (F.SVY_P_STATUS.STREAMING p)).listStart p low) := by
  show execSvyFrameTimeout ⟨p, low⟩ s = _
  unfold execSvyFrameTimeout
  rw [if_pos hon]
  rfl

/-! ### The end of a list -/

/-- The state in which a list that fails ends: its cause, its flag, and whether it is late. -/
def State.listFailing (s : State) (p cause : Nat) (e : SvySend) : State :=
  let t := (s.wr (F.SVY_P_SET_STATUS.CAUSE p) cause).set1 (F.SVY_P_ERR.I2C p)
  if 0 < e.sofs then t.set1 (F.SVY_P_ERR.LIST_LATE p) else t

theorem State.listFail_eq {s : State} {p cause : Nat} {e : SvySend} (hsend : (s.pipe p).send = some e) : s.listFail p cause =
    (((s.listFailing p cause e).listEnd p e true).onPipe p (fun x => { x with cur := none, phase := 0, bus := [], owes := true })).bucketReport 14 p := by
  unfold State.listFail
  rw [hsend]
  rfl

theorem State.nowAll_of_regs {s t : State} (h : RegsOnly s t) : t.nowAll = s.nowAll := by
  rw [h]
  rfl

theorem State.listFailing_spec (s : State) (p : Nat) {cause : Nat} (hcause : cause < 16) (e : SvySend) :
    RegsOnly s (s.listFailing p cause e) ∧ (s.listFailing p cause e).rd (F.SVY_P_SET_STATUS.CAUSE p) = cause ∧
      (s.listFailing p cause e).rd (F.SVY_P_ERR.I2C p) = 1 ∧ (s.listFailing p cause e).svyOn p = s.svyOn p := by
  unfold State.listFailing
  obtain ⟨t, ht⟩ : ∃ t, t = (s.wr (F.SVY_P_SET_STATUS.CAUSE p) cause).set1 (F.SVY_P_ERR.I2C p) := ⟨_, rfl⟩
  have herr : (F.SVY_P_ERR.I2C p).off ≠ (F.SVY_P_SET_STATUS.CAUSE p).off := by
    show 0x1A0070 + 0x8000 * p ≠ 0x1A0048 + 0x8000 * p
    omega
  have hstate : (F.SVY_P_ERR.I2C p).off ≠ (F.SVY_P_STATUS.STATE p).off := by
    show 0x1A0070 + 0x8000 * p ≠ 0x1A0018 + 0x8000 * p
    omega
  have hset : (F.SVY_P_SET_STATUS.CAUSE p).off ≠ (F.SVY_P_STATUS.STATE p).off := by
    show 0x1A0048 + 0x8000 * p ≠ 0x1A0018 + 0x8000 * p
    omega
  have honly : RegsOnly s t := by
    rw [ht]
    exact ((RegsOnly.refl s).wr _ _).wr _ _
  have htcause : t.rd (F.SVY_P_SET_STATUS.CAUSE p) = cause := by
    rw [ht, State.set1_eq, State.rd_wr_off _ (F.SVY_P_ERR.I2C p).off _ _ (F.SVY_P_SET_STATUS.CAUSE p).off _ _ _ herr,
      State.rd_wr_same _ _ _ _ _ (by decide)]
    exact Nat.mod_eq_of_lt hcause
  have htflag : t.rd (F.SVY_P_ERR.I2C p) = 1 := by
    rw [ht]
    exact State.rd_wr_same _ _ _ _ _ (by decide)
  have hton : t.rd (F.SVY_P_STATUS.STATE p) = s.rd (F.SVY_P_STATUS.STATE p) := by
    rw [ht, State.set1_eq, State.rd_wr_off _ (F.SVY_P_ERR.I2C p).off _ _ (F.SVY_P_STATUS.STATE p).off _ _ _ hstate]
    exact State.rd_wr_off _ (F.SVY_P_SET_STATUS.CAUSE p).off _ _ (F.SVY_P_STATUS.STATE p).off _ _ _ hset
  dsimp only
  rw [← ht]
  unfold State.svyOn
  split
  · refine ⟨honly.wr _ _, ?_, ?_, ?_⟩
    · rw [State.set1_eq, State.rd_wr_off _ (F.SVY_P_ERR.LIST_LATE p).off _ _ (F.SVY_P_SET_STATUS.CAUSE p).off _ _ _ herr, htcause]
    · rw [State.set1_eq, State.rd_wr_apart _ _ _ _ _ _ _ (by decide), htflag]
    · rw [State.set1_eq, State.rd_wr_off _ (F.SVY_P_ERR.LIST_LATE p).off _ _ (F.SVY_P_STATUS.STATE p).off _ _ _ hstate, hton]
  · exact ⟨honly, htcause, htflag, by rw [hton]⟩

/-- What a list that fails leaves. -/
theorem State.listFail_spec {s : State} {p cause : Nat} {e : SvySend} (hp : p < 2) (hcause : cause < 16) (hlen : s.svy.length = 2)
    (hsend : (s.pipe p).send = some e) (hgood : s.ddrErr = []) :
    ∃ t near, s.listFail p cause = t ∧ t.rd (F.SVY_P_SET_STATUS.CAUSE p) = cause ∧ t.rd (F.SVY_P_ERR.I2C p) = 1 ∧
      (∃ tag sofs frame group run recs, t.pipe p = { s.pipe p with
        send := none, ready := false, cur := none, phase := 0, bus := [], owes := true
        pend := (s.pipe p).pend ++ [⟨e.tag, s.nowAll, near, 0, true, !s.svyOn p⟩]
        tag := tag, sofs := sofs, frame := frame, group := group, run := run, recs := recs }) ∧
      (∀ k, k ≠ p → t.pipe k = s.pipe k) ∧ sameMemories s t := by
  obtain ⟨honly, hucause, huflag, huon⟩ := s.listFailing_spec p hcause e
  have hunow := State.nowAll_of_regs honly
  have hupipe : ∀ k, (s.listFailing p cause e).pipe k = s.pipe k := State.pipe_of_svy (by rw [honly])
  rw [State.listFail_eq hsend]
  generalize s.listFailing p cause e = u at honly hucause huflag huon hunow hupipe ⊢
  have hulen : u.svy.length = 2 := by rw [honly, hlen]
  obtain ⟨v, hv, hended, tag, sofs, frame, group, run, recs, hvpipe⟩ :=
    State.listEnd_spec hp hulen (by rw [honly, hgood]) e true
  rw [hv]
  have hsame := v.pipe_onPipe_same (p := p) (fun x => { x with cur := none, phase := 0, bus := [], owes := true }) (by rw [hended.length]; omega)
  have hother := fun k (hk : k ≠ p) =>
    v.pipe_onPipe_ne (fun x => { x with cur := none, phase := 0, bus := [], owes := true }) hk
  have hstep : Ended p v (v.onPipe p (fun x => { x with cur := none, phase := 0, bus := [], owes := true })) := Ended.setPipe _ _ _
  generalize v.onPipe p (fun x => { x with cur := none, phase := 0, bus := [], owes := true }) = w at hsame hother hstep ⊢
  have hall := hended.trans hstep
  have hreport : Reported faultBlocks w (w.bucketReport 14 p) := (Reported.refl _ w).bucket 14 p
  have hsvy : (w.bucketReport 14 p).svy = w.svy := by
    obtain ⟨_, _, _, _, _, h⟩ := hreport.parts
    rw [h]
  have hblock : ∀ o, o / 0x10000 = 0x1A → (w.bucketReport 14 p).reg o = w.reg o := fun o ho =>
    hreport.outside o (by rw [ho]; decide)
  refine ⟨_, (u.nearSofs p).length, rfl, ?_, ?_, ⟨tag, sofs, frame, group, run, recs, ?_⟩, fun k hk => ?_, ?_⟩
  · rw [← hucause, ← hall.cause]
    unfold State.rd
    rw [hblock (F.SVY_P_SET_STATUS.CAUSE p).off (by show (0x1A0048 + 0x8000 * p) / 0x10000 = 0x1A; omega)]
  · rw [← huflag, ← hall.flag]
    unfold State.rd
    rw [hblock (F.SVY_P_ERR.I2C p).off (by show (0x1A0070 + 0x8000 * p) / 0x10000 = 0x1A; omega)]
  · rw [State.pipe_of_svy hsvy, hsame, hvpipe, hupipe]
    unfold State.tagWaits
    rw [hunow, huon]
  · rw [State.pipe_of_svy hsvy, hother k hk, hended.others k hk, hupipe]
  · refine sameMemories.trans ?_ hreport.sameMemories
    rw [hall.parts, honly]
    exact ⟨rfl, rfl, rfl, rfl, rfl, rfl, rfl, rfl, rfl, rfl⟩

end Sys2Proof.Machine
end

section
/-! SUPPORT. O37: the writes of a list, and a list that completes; the statement. -/
namespace Sys2Proof.Machine

/-! ### The writes of a list -/

theorem exec_i2cWriteDone {s : State} {p : Fin 2} {e : SvySend} (x : BusEnd) (hsend : (s.pipe p).send = some e) (hleft : e.left ≠ []) :
    exec (.i2cWriteDone p x) s = .next (if !x.ack then s.listFail p 4
      else if e.cut then s.onPipe p (fun y => { y with send := none, bus := [] })
      else (s.onPipe p (fun y => { y with send := some { e with left := e.left.drop 1 } })).i2cBegin p x.sdaLow) := by
  show execI2cWriteDone p x s = _
  unfold execI2cWriteDone
  rw [hsend]
  dsimp only
  rw [if_neg (by simp [hleft])]
  split
  · rfl
  · split <;> rfl

/-- What the master drives for the writes that are left. -/
def State.busNext (s : State) (p : Nat) (low : Bool) : List (Nat × Nat) → List I2cItem
  | [] => []
  | v :: _ => (if (s.pipe p).owes || low then [.recover] else []) ++ [s.i2cItem p v]

/-- What an acknowledged write of a list leaves. -/
theorem State.writeDone_spec {s : State} {p : Nat} {e : SvySend} {w : Nat × Nat} {ws : List (Nat × Nat)} (low : Bool) (hp : p < s.svy.length)
    (hleft : e.left = w :: ws) : ∃ t, (s.onPipe p (fun y => { y with send := some { e with left := e.left.drop 1 } })).i2cBegin p low = t ∧
      t.pipe p = { s.pipe p with send := some { e with left := ws }, bus := s.busNext p low ws, owes := (s.pipe p).owes && ws.isEmpty } ∧
      (∀ k, k ≠ p → t.pipe k = s.pipe k) ∧ t = { s with svy := t.svy } := by
  have hdrop : e.left.drop 1 = ws := by
    rw [hleft]
    rfl
  rw [hdrop]
  have hsame := s.pipe_onPipe_same (fun y => { y with send := some { e with left := ws } }) hp
  have hother := fun k (hk : k ≠ p) => s.pipe_onPipe_ne (fun y => { y with send := some { e with left := ws } }) hk
  have hlen : (s.onPipe p (fun y => { y with send := some { e with left := ws } })).svy.length = s.svy.length := s.length_setPipe _ _
  have hparts : s.onPipe p (fun y => { y with send := some { e with left := ws } }) =
      { s with svy := (s.onPipe p (fun y => { y with send := some { e with left := ws } })).svy } := rfl
  generalize s.onPipe p (fun y => { y with send := some { e with left := ws } }) = u at hsame hother hlen hparts ⊢
  have hwrite : ∀ v, u.i2cItem p v = s.i2cItem p v := State.i2cItem_of_reg (by
    rw [hparts]
    rfl)
  cases ws with
  | nil =>
    rw [State.i2cBegin_over low (by rw [hsame]; rfl)]
    refine ⟨_, rfl, ?_, fun k hk => ?_, ?_⟩
    · rw [State.pipe_setPipe_same _ _ (by omega), hsame]
      simp [State.busNext]
    · rw [State.pipe_setPipe_ne _ _ hk, hother k hk]
    · unfold State.setPipe
      rw [hparts]
  | cons v vs =>
    rw [State.i2cBegin_writes (w := v) low (by rw [hsame]; rfl), hwrite]
    refine ⟨_, rfl, ?_, fun k hk => ?_, ?_⟩
    · rw [State.pipe_setPipe_same _ _ (by omega), hsame]
      simp [State.busNext]
    · rw [State.pipe_setPipe_ne _ _ hk, hother k hk]
    · unfold State.setPipe
      rw [hparts]

/-! ### A list that completes -/

theorem exec_svyListComplete {s : State} {p : Fin 2} {e : SvySend} (hsend : (s.pipe p).send = some e) (hleft : e.left = []) :
    exec (.svyListComplete p) s = .next (s.listDone p e) := by
  show execSvyListComplete p s = _
  unfold execSvyListComplete
  rw [hsend]
  dsimp only
  rw [if_pos (by simp [hleft])]
  rfl

/-- Without records and groups no frame is taken anew. -/
theorem State.retag_none {s : State} {p : Nat} (hp : p < s.svy.length) (hrecs : (s.pipe p).recs = []) (hgroup : (s.pipe p).group = [])
    (a : Nat) (tag : SvyTag) : s.retag p a tag = s := by
  have hpull : (s.pipe p).pullFrom a = (s.pipe p, []) := by
    unfold SvyPipe.pullFrom
    rw [hrecs, hgroup]
    rfl
  have hset : s.setPipe p (s.pipe p) = s := by
    unfold State.setPipe State.pipe
    rw [List.getD_eq_getElem _ _ hp, List.set_getElem_self]
  unfold State.retag
  rw [hpull]
  exact hset

/-- The registers that the end of a list shows its tag in. -/
theorem State.tagTaken_kept (s : State) (p : Nat) (e : SvySend) (a fresh : Nat) :
    s.tagTaken p e a fresh = { s with regs := (s.tagTaken p e a fresh).regs, svy := (s.tagTaken p e a fresh).svy } ∧
      ∀ o, o ≠ (F.SVY_P_SET_STATUS.UNCERTAIN p).off → (s.tagTaken p e a fresh).reg o = s.reg o := by
  unfold State.tagTaken
  obtain ⟨v, hv⟩ := s.addSat_eq (F.SVY_P_SET_STATUS.UNCERTAIN p) fresh
  rw [hv]
  have honly : RegsOnly s (s.wr (F.SVY_P_SET_STATUS.UNCERTAIN p) v) := (RegsOnly.refl s).wr _ _
  have hkept : ∀ o, o ≠ (F.SVY_P_SET_STATUS.UNCERTAIN p).off → (s.wr (F.SVY_P_SET_STATUS.UNCERTAIN p) v).reg o = s.reg o :=
    fun o ho => State.reg_wr_ne _ _ _ _ ho
  generalize s.wr (F.SVY_P_SET_STATUS.UNCERTAIN p) v = u at honly hkept ⊢
  refine ⟨?_, hkept⟩
  rw [honly]
  rfl

/-- What a list that completes leaves where no record and no group waits. -/
theorem State.listEnd_alone {s : State} {p : Nat} {e : SvySend} (hp : p < 2) (hlen : s.svy.length = 2) (hon : s.svyOn p = true)
    (hrecs : (s.pipe p).recs = []) (hgroup : (s.pipe p).group = []) {early : Nat} (hearly : early = (s.nearSofs p).length) :
    ∃ t, s.listEnd p e false = t ∧
      ((t.pipe p).send, (t.pipe p).ready, (t.pipe p).phase, (t.pipe p).cur) = (none, false, (e.tag.phase + 1) % max 1 e.tag.phases, (s.pipe p).cur) ∧
      (t.pipe p).pend = (s.pipe p).pend ++ [⟨e.tag, s.nowAll, early, 0, false, false⟩] ∧
      (t.pipe p).tag = (if early < s.svyLat p then (s.pipe p).tag else some e.tag) ∧
      (t.pipe p).frame = (if early < s.svyLat p then (s.pipe p).frame
        else (s.pipe p).frame.map (fun f => { f with tag := some e.tag, uncertain := true })) ∧
      (∀ k, k ≠ p → t.pipe k = s.pipe k) ∧ t = { s with regs := t.regs, svy := t.svy } ∧
      (∀ o, o ≠ (F.SVY_P_SET_STATUS.UNCERTAIN p).off → o ≠ (F.SVY_P_STATUS.STATE p).off → t.reg o = s.reg o) := by
  obtain ⟨a, fresh, heq⟩ := s.listEnd_eq p e false
  have hwaits : s.tagWaits p e false = ⟨e.tag, s.nowAll, early, 0, false, false⟩ := by
    unfold State.tagWaits
    rw [hon, hearly]
    rfl
  have hoverpipe : (s.listOver p e false).pipe p = { s.pipe p with
      send := none, ready := false, pend := (s.pipe p).pend ++ [⟨e.tag, s.nowAll, early, 0, false, false⟩]
      phase := (e.tag.phase + 1) % max 1 e.tag.phases } := by
    unfold State.listOver
    rw [hwaits, if_pos hon]
    exact s.pipe_setPipe_same _ (by omega)
  have hoverother : ∀ k, k ≠ p → (s.listOver p e false).pipe k = s.pipe k := fun k hk => s.pipe_setPipe_ne _ hk
  have hoverparts : s.listOver p e false = { s with svy := (s.listOver p e false).svy } := rfl
  have hoverlen : (s.listOver p e false).svy.length = 2 := (s.length_setPipe _ _).trans hlen
  have hoverreg : ∀ o, (s.listOver p e false).reg o = s.reg o := fun _ => rfl
  rw [heq, ← hearly]
  generalize s.listOver p e false = u at hoverpipe hoverother hoverparts hoverlen hoverreg ⊢
  by_cases hnear : early < s.svyLat p
  · rw [if_pos hnear]
    refine ⟨u, rfl, by rw [hoverpipe], by rw [hoverpipe], ?_, ?_, hoverother, by rw [hoverparts], fun o _ _ => hoverreg o⟩
    · rw [hoverpipe, if_pos hnear]
    · rw [hoverpipe, if_pos hnear]
  · obtain ⟨htaken, htakenreg⟩ := u.tagTaken_kept p e a fresh
    have htakenpipe : (u.tagTaken p e a fresh).pipe p = { u.pipe p with
        tag := some e.tag
        sofs := (u.pipe p).sofs.map (fun t => (t.1, t.2 || decide (a ≤ t.1)))
        frame := (u.pipe p).frame.map (fun f => { f with tag := some e.tag, uncertain := true }) } := by
      unfold State.tagTaken
      obtain ⟨v, hv⟩ := u.addSat_eq (F.SVY_P_SET_STATUS.UNCERTAIN p) fresh
      rw [State.pipe_onPipe_same _ _ (by rw [hv, State.wr_svy]; omega), State.pipe_addSat]
    have htakenother := (u.tagTaken_ended p e a fresh).others
    have htakenlen := (u.tagTaken_ended p e a fresh).length
    rw [if_neg hnear]
    generalize u.tagTaken p e a fresh = v at htaken htakenreg htakenpipe htakenother htakenlen ⊢
    rw [State.retag_none (by omega) (by rw [htakenpipe, hoverpipe]; exact hrecs) (by rw [htakenpipe, hoverpipe]; exact hgroup)]
    obtain ⟨honly, hkept⟩ := v.tagShown_kept p e.tag
    generalize v.tagShown p e.tag = t at honly hkept ⊢
    have hpipe : ∀ k, t.pipe k = v.pipe k := State.pipe_of_svy (by rw [honly])
    refine ⟨t, rfl, ?_, ?_, ?_, ?_, fun k hk => ?_, ?_, fun o h1 h2 => ?_⟩
    · rw [hpipe, htakenpipe, hoverpipe]
    · rw [hpipe, htakenpipe, hoverpipe]
    · rw [hpipe, htakenpipe, if_neg hnear]
    · rw [hpipe, htakenpipe, hoverpipe, if_neg hnear]
    · rw [hpipe, htakenother k hk, hoverother k hk]
    · rw [honly, htaken, hoverparts]
    · rw [hkept o h2, htakenreg o h1, hoverreg]

/-- What a list that completes leaves, with whether it is late. -/
theorem State.listDone_alone {s : State} {p : Nat} {e : SvySend} (hp : p < 2) (hlen : s.svy.length = 2) (hon : s.svyOn p = true)
    (hrecs : (s.pipe p).recs = []) (hgroup : (s.pipe p).group = []) {early : Nat}
    (hearly : early = ((s.pipe p).sofs.filter (fun t => s.nowAll < t.1 + s.svyGuard p)).length) :
    ∃ t, s.listDone p e = t ∧
      ((t.pipe p).send, (t.pipe p).ready, (t.pipe p).phase, (t.pipe p).cur) = (none, false, (e.tag.phase + 1) % max 1 e.tag.phases, (s.pipe p).cur) ∧
      (t.pipe p).pend = (s.pipe p).pend ++ [⟨e.tag, s.nowAll, early, 0, false, false⟩] ∧
      (t.pipe p).tag = (if early < s.svyLat p then (s.pipe p).tag else some e.tag) ∧
      (t.pipe p).frame = (if early < s.svyLat p then (s.pipe p).frame
        else (s.pipe p).frame.map (fun f => { f with tag := some e.tag, uncertain := true })) ∧
      t.bit (F.SVY_P_ERR.LIST_LATE p) = (s.bit (F.SVY_P_ERR.LIST_LATE p) || decide (0 < e.sofs)) ∧
      (∀ k, k ≠ p → t.pipe k = s.pipe k) ∧ t = { s with regs := t.regs, svy := t.svy } ∧
      regsApart [(F.SVY_P_ERR.LIST_LATE p).off, (F.SVY_P_SET_STATUS.UNCERTAIN p).off, (F.SVY_P_STATUS.SET p).off] s t := by
  obtain ⟨u, hu⟩ : ∃ u, u = if 0 < e.sofs then s.set1 (F.SVY_P_ERR.LIST_LATE p) else s := ⟨_, rfl⟩
  have hdone : s.listDone p e = u.listEnd p e false := by
    rw [hu]
    rfl
  have hu_spec : RegsOnly s u ∧ (∀ o, o ≠ (F.SVY_P_ERR.LIST_LATE p).off → u.reg o = s.reg o) ∧
      u.bit (F.SVY_P_ERR.LIST_LATE p) = (s.bit (F.SVY_P_ERR.LIST_LATE p) || decide (0 < e.sofs)) := by
    rw [hu]
    split
    next h =>
      refine ⟨(RegsOnly.refl s).wr _ _, fun o ho => State.reg_wr_ne _ _ _ _ ho, ?_⟩
      rw [decide_eq_true h, Bool.or_true]
      unfold State.bit
      rw [State.set1_eq, State.rd_wr_same _ _ _ _ _ (by decide)]
      rfl
    next h => exact ⟨RegsOnly.refl s, fun _ _ => rfl, by rw [decide_eq_false h, Bool.or_false]⟩
  obtain ⟨honly, hkept, hlate⟩ := hu_spec
  have hpipe : ∀ k, u.pipe k = s.pipe k := State.pipe_of_svy (by rw [honly])
  have hfield : ∀ (f : Field), f.off ≠ (F.SVY_P_ERR.LIST_LATE p).off → u.rd f = s.rd f := fun f hf => by
    unfold State.rd
    rw [hkept _ hf]
  have huon : u.svyOn p = s.svyOn p := by
    unfold State.svyOn
    rw [hfield _ (by show 0x1A0018 + 0x8000 * p ≠ 0x1A0070 + 0x8000 * p; omega)]
  have hulat : u.svyLat p = s.svyLat p := by
    unfold State.svyLat
    rw [hfield _ (by show 0x1A0000 + 0x8000 * p ≠ 0x1A0070 + 0x8000 * p; omega)]
  have huguard : u.svyGuard p = s.svyGuard p := by
    unfold State.svyGuard
    rw [hfield _ (by show 0x1A0008 + 0x8000 * p ≠ 0x1A0070 + 0x8000 * p; omega)]
  have hnow := State.nowAll_of_regs honly
  obtain ⟨t, ht, hsend, hpend, htag, hframe, hother, hparts, hreg⟩ := State.listEnd_alone (s := u) (e := e) (early := early) hp
    (by rw [honly, hlen]) (by rw [huon, hon]) (by rw [hpipe, hrecs]) (by rw [hpipe, hgroup])
    (by rw [State.nearSofs_length, hpipe, hnow, huguard, hearly])
  rw [hulat] at htag hframe
  rw [hpipe] at hsend hpend htag hframe
  rw [hnow] at hpend
  refine ⟨t, by rw [hdone, ht], hsend, hpend, htag, hframe, ?_, fun k hk => by rw [hother k hk, hpipe], ?_, fun o ho => ?_⟩
  · rw [← hlate]
    unfold State.bit State.rd
    rw [hreg (F.SVY_P_ERR.LIST_LATE p).off (by show 0x1A0070 + 0x8000 * p ≠ 0x1A0048 + 0x8000 * p; omega)
      (by show 0x1A0070 + 0x8000 * p ≠ 0x1A0018 + 0x8000 * p; omega)]
  · rw [hparts, honly]
  · rw [List.mem_cons, List.mem_cons, List.mem_singleton, not_or, not_or] at ho
    rw [hreg o ho.2.1 ho.2.2, hkept o ho.1]

/-! ### O37 -/

/-- Settles O37, command by command. -/
theorem settingsSetsAreSentToTheSensor : Obligations.SettingsSetsAreSentToTheSensor := by
  unfold Obligations.SettingsSetsAreSentToTheSensor
  have hne : ∀ p : Fin 2, 1 - p.val ≠ p.val := fun p => by omega
  refine ⟨fun s m p v d hserves hlen hd hroom hnext hbad => ?_, fun s m p v d hserves hd hrefuse => ?_,
    fun s p low x q rest w ws hon hlen hx hready hsend hqueue hstart hlist => ?_,
    fun s p low x q rest w ws hon hlen hx hready hsend hcur hqueue hstay hlist => ?_,
    fun s p low x q rest w ws hon hlen hx hsend hqueue hstart hlist => ?_, fun s p low e w ws hlen hsend hleft hcut => ?_,
    fun s p low e hlen hsend hleft hcut => ?_, fun s p low e hon hlen hsend hleft hgood => ?_, fun s p e hlen hsend hgood => ?_,
    fun s p e early hon hlen hsend hleft hempty hearly => ?_⟩
  · obtain ⟨t, ht, hpipe, haccepted, hqueued, hother, hparts, happart⟩ := State.setTaken_spec (p := p) (d := d) (by omega) hroom
    refine ⟨t, ?_, hpipe, haccepted, hqueued, hother _ (hne p), hparts, happart⟩
    rw [exec_svySetSubmit hserves hd, if_neg (by omega), if_neg, hbad, if_neg Bool.false_ne_true, ht]
    simp only [Bool.and_eq_true, decide_eq_true_eq]
    exact fun h => h.2 (hnext h.1)
  · have hcause : ∃ c, exec (.svySetSubmit m p v) s = .next (s.setRefuse p c) ∧ c < 16 ∧
        c = (if 4 ≤ (s.pipe p).queue.length then 1
          else if (s.pipe p).accepted = true ∧ fieldAt d 0 2 ≠ (s.rd (F.SVY_P_SET_STATUS.ACCEPTED p) + 1) % 65536 then 2 else 3) := by
      rw [exec_svySetSubmit hserves hd]
      by_cases hfull : 4 ≤ (s.pipe p).queue.length
      · exact ⟨1, by rw [if_pos hfull], by decide, by rw [if_pos hfull]⟩
      · by_cases hnumber : (s.pipe p).accepted = true ∧ fieldAt d 0 2 ≠ (s.rd (F.SVY_P_SET_STATUS.ACCEPTED p) + 1) % 65536
        · exact ⟨2, by rw [if_neg hfull, if_pos (by simpa using hnumber)], by decide, by rw [if_neg hfull, if_pos hnumber]⟩
        · have hbad : setBad d = true := (hrefuse.resolve_left hfull).resolve_left hnumber
          exact ⟨3, by rw [if_neg hfull, if_neg (by simpa using hnumber), if_pos hbad], by decide, by rw [if_neg hfull, if_neg hnumber]⟩
    obtain ⟨c, hexec, hlt, hc⟩ := hcause
    obtain ⟨hshown, herr, honly, happart⟩ := s.setRefuse_spec p hlt
    exact ⟨_, hexec, hshown.trans hc, herr, honly, happart⟩
  · subst hx
    obtain ⟨t, ht, hpipe, hsending, hqueued, hother, hparts, hreg⟩ := State.listGo_spec (s := s) (p := p)
      (x := { s.pipe p with cur := some q, phase := 0, queue := rest }) low (by omega) rfl hlist
    refine ⟨t, ?_, hpipe, hsending, hqueued, hother _ (hne p), hparts, fun o ho => hreg o (by rwa [List.mem_singleton] at ho)⟩
    rw [exec_svyListStart hready, State.listStart_goes low hon hsend, SvyPipe.nextSet_queued hqueue hstart, ht]
  · subst hx
    obtain ⟨t, ht, hpipe, hsending, hqueued, hother, hparts, hreg⟩ := State.listGo_spec (s := s) (p := p)
      (x := s.pipe p) low (by omega) hcur hlist
    refine ⟨t, ?_, ?_, ?_, ?_, hother _ (hne p), hparts, fun o ho => hreg o (by rwa [List.mem_singleton] at ho)⟩
    · rw [exec_svyListStart hready, State.listStart_goes low hon hsend, SvyPipe.nextSet_same hcur hstay, ht]
    · exact hpipe
    · exact hsending
    · rw [hqueued, hqueue]
  · subst hx
    obtain ⟨u, hu⟩ : ∃ u, u = s.clr (F.SVY_P_STATUS.STREAMING p) := ⟨_, rfl⟩
    have honly : RegsOnly s u := by
      rw [hu]
      exact (RegsOnly.refl s).wr _ _
    have husvy : u.svy = s.svy := by rw [honly]
    have hupipe : ∀ k, u.pipe k = s.pipe k := State.pipe_of_svy husvy
    have hureg : ∀ o, o ≠ (F.SVY_P_STATUS.STREAMING p).off → u.reg o = s.reg o := fun o ho => by
      rw [hu]
      exact State.reg_wr_ne _ _ _ _ ho
    have huon : u.svyOn p = true := by
      rw [← hon, hu]
      unfold State.svyOn
      rw [State.clr_eq, State.rd_wr_apart _ _ _ _ _ _ _ (by decide)]
    have hulow : u.rd (F.SVY_P_STATUS.STREAMING p) = 0 := by
      rw [hu, State.clr_eq, State.rd_wr_same _ _ _ _ _ (by decide)]
      rfl
    obtain ⟨t, ht, hpipe, hsending, -, hother, hparts, hreg⟩ := State.listGo_spec (s := u) (p := p)
      (x := { s.pipe p with cur := some q, phase := 0, queue := rest }) low (by rw [husvy]; omega) rfl hlist
    have hitem : u.i2cItem p w = s.i2cItem p w := State.i2cItem_of_reg
      (hureg (F.SVY_P_I2C.ADDR p).off (by show 0x1A0008 + 0x8000 * p.val ≠ 0x1A0018 + 0x8000 * p.val; omega)) w
    refine ⟨t, ?_, ?_, ?_, hsending, ?_, ?_, fun o ho => ?_⟩
    · rw [exec_svyFrameTimeout hon, ← hu, State.listStart_goes low huon (by rw [hupipe, hsend]), hupipe,
        SvyPipe.nextSet_queued hqueue hstart, ht]
    · rw [hpipe, hitem]
      rfl
    · rw [← hulow]
      unfold State.rd
      rw [hreg (F.SVY_P_STATUS.STREAMING p).off (by show 0x1A0018 + 0x8000 * p.val ≠ 0x1A0048 + 0x8000 * p.val; omega)]
    · rw [hother _ (hne p), hupipe]
    · rw [hparts, honly]
    · rw [List.mem_cons, List.mem_singleton, not_or] at ho
      rw [hreg o ho.2, hureg o ho.1]
  · obtain ⟨t, ht, hpipe, hother, hparts⟩ := State.writeDone_spec (s := s) (p := p) low (by omega) hleft
    refine ⟨t, ?_, by rw [hpipe], ?_, by rw [hpipe], hother _ (hne p), hparts⟩
    · rw [exec_i2cWriteDone ⟨true, low⟩ hsend (by rw [hleft]; simp), if_neg (by simp), if_neg (by rw [hcut]; exact Bool.false_ne_true), ht]
    · rw [hpipe]
      cases ws <;> rfl
  · refine ⟨s.onPipe p (fun y => { y with send := none, bus := [] }), ?_, s.pipe_onPipe_same _ (by omega), s.pipe_onPipe_ne _ (hne p), rfl⟩
    rw [exec_i2cWriteDone ⟨true, low⟩ hsend hleft, if_neg (by simp), if_pos hcut]
  · obtain ⟨t, near, ht, hcause, hflag, ⟨_, _, _, _, _, _, hpipe⟩, hother, hmem⟩ := State.listFail_spec (s := s) (p := p) (cause := 4) (by omega)
      (by decide) hlen hsend hgood
    refine ⟨t, ?_, hcause, hflag, by rw [hpipe], by rw [hpipe], ?_, ?_, hother _ (hne p), hmem⟩
    · rw [exec_i2cWriteDone ⟨false, low⟩ hsend hleft, if_pos (by simp), ht]
    · rw [hpipe, List.getLast?_concat, hon]
      rfl
    · rw [hpipe]
      exact List.dropLast_concat
  · obtain ⟨t, near, ht, hcause, hflag, ⟨_, _, _, _, _, _, hpipe⟩, hother, hmem⟩ := State.listFail_spec (s := s) (p := p) (cause := 5) (by omega)
      (by decide) hlen hsend hgood
    refine ⟨t, ?_, hcause, hflag, by rw [hpipe], by rw [hpipe], ?_, hother _ (hne p), hmem⟩
    · show execI2cStretchTimeout p s = _
      unfold execI2cStretchTimeout
      rw [ht]
      rfl
    · rw [hpipe]
      exact List.length_append
  · obtain ⟨hrecs, hgroup⟩ := Prod.mk.inj hempty
    obtain ⟨t, ht, hsent, hpend, htag, hframe, hlate, hother, hparts, happart⟩ := State.listDone_alone (s := s) (p := p) (e := e) (early := early)
      (by omega) hlen hon hrecs hgroup hearly
    exact ⟨t, by rw [exec_svyListComplete hsend hleft, ht], hsent, hpend, htag, hframe, hlate, hother _ (hne p), hparts, happart⟩

end Sys2Proof.Machine
end

section
/-! SUPPORT. What a reset of the device leaves and what it shows (R310, R311, R384, R403). -/
namespace Sys2Proof.Machine

/-! ### The attempt record shown -/

/-- FAIL_AGE as the record gives it. -/
def State.failAge (s : State) : Nat :=
  match s.boot.attempts with
  | [] => 0
  | a :: _ => satTo F.BOOT_REASON.FAIL_AGE (s.boot.aonSec - a.2)

theorem State.attemptShow_eq (s : State) : s.attemptShow =
    ((s.wr F.BOOT_REASON.ATTEMPTS (min 3 s.attemptCount)).wr F.BOOT_REASON.LAST_FAIL s.boot.lastFail).wr F.BOOT_REASON.FAIL_AGE s.failAge := by
  unfold State.attemptShow State.failAge
  cases h : s.boot.attempts with
  | nil => simp only [State.wr_boot, h]
  | cons a l => simp only [State.wr_boot, h]

/-- The attempt record changes ATTEMPTS, LAST_FAIL and FAIL_AGE, and nothing else. -/
theorem State.attemptShow_spec (s : State) : ∃ t, s.attemptShow = t ∧ RegsOnly s t ∧ regsApart [F.BOOT_REASON.LAST_FAIL.off] s t ∧
    t.rd F.BOOT_REASON.ATTEMPTS = min 3 s.attemptCount ∧ t.rd F.BOOT_REASON.LAST_FAIL = s.boot.lastFail % 256 ∧
    t.rd F.BOOT_REASON.FAIL_AGE = s.failAge % 2 ^ 32 ∧ t.rd F.BOOT_REASON.RESET = s.rd F.BOOT_REASON.RESET ∧
    t.rd F.BOOT_REASON.STORAGE = s.rd F.BOOT_REASON.STORAGE := by
  refine ⟨_, s.attemptShow_eq, ((((RegsOnly.refl s).wr _ _).wr _ _).wr _ _),
    regsApart_wr _ _ (regsApart_wr _ _ (regsApart_wr _ _ regsApart_refl (by decide)) (by decide)) (by decide), ?_, ?_, ?_, ?_, ?_⟩
  · rw [State.rd_wr_apart _ _ _ _ _ _ _ (by decide), State.rd_wr_apart _ _ _ _ _ _ _ (by decide), State.rd_wr_same _ _ _ _ _ (by decide)]
    exact Nat.mod_eq_of_lt (by omega)
  · exact (State.rd_wr_apart _ _ _ _ _ _ _ (by decide)).trans (State.rd_wr_same _ _ _ _ _ (by decide))
  · exact State.rd_wr_same _ _ _ _ _ (by decide)
  · rw [State.rd_wr_apart _ _ _ _ _ _ _ (by decide), State.rd_wr_apart _ _ _ _ _ _ _ (by decide), State.rd_wr_apart _ _ _ _ _ _ _ (by decide)]
  · rw [State.rd_wr_apart _ _ _ _ _ _ _ (by decide), State.rd_wr_apart _ _ _ _ _ _ _ (by decide), State.rd_wr_apart _ _ _ _ _ _ _ (by decide)]

/-! ### The reset of a domain -/

/-- What a reset keeps of a state beside its registers. -/
def State.wiped (s : State) (test : Bool) : State :=
  { State.reset with
    hostMem := s.hostMem
    hostPoison := s.hostPoison
    free := s.free
    cycle := s.cycle
    hif := { State.reset.hif with sent := s.hif.sent }
    acl := { State.reset.acl with mram := s.acl.mram, mramNext := s.acl.mramNext }
    boot := { State.reset.boot with
      flash := s.boot.flash
      flashSfdp := s.boot.flashSfdp
      fuseHash := s.boot.fuseHash
      attempts := s.boot.attempts
      lastFail := s.boot.lastFail
      aonSec := s.boot.aonSec
      aonPart := s.boot.aonPart
      aonLost := s.boot.aonLost
      mramFitted := s.boot.mramFitted
      cleanMark := s.boot.cleanMark
      powerLost := s.boot.powerLost
      powerGood := s.boot.powerGood }
    twn := { State.reset.twn with peerLow := s.twn.peerLow }
    pin := { s.pin with failOut := true, testState := test }
    pending := s.pending }

theorem State.rd_wiped (s : State) (test : Bool) : (s.wiped test).rd F.BOOT_STATUS.STEP = 0 ∧ (s.wiped test).rd F.TWN_STATUS.AUTH = 0 := by
  have hregs : ∀ f, (s.wiped test).rd f = State.reset.rd f := fun _ => rfl
  rw [hregs, hregs]
  decide

/-- The fields that a reset writes from the pins, the fuses and its cause. -/
def State.relatched (u : State) (peerAuth peerFail : Nat) (blank role flash testN : Bool) (mode set revoked cause : Nat) : State :=
  (((((((u.wr F.TWN_STATUS.PEER_AUTH peerAuth).wr F.TWN_STATUS.PEER_FAIL peerFail).wrBit F.SLT_STATUS.BLANK_REQ blank).straps role flash testN).wr
    F.BOOT_STATUS.MODE mode).wr F.BOOT_FUSE.KEY_SET set).wr F.BOOT_FUSE.KEY_REVOKED revoked).wr F.BOOT_REASON.RESET cause

theorem State.relatched_regs (u : State) (pa pf : Nat) (b r f tn : Bool) (m ks kr c : Nat) : RegsOnly u (u.relatched pa pf b r f tn m ks kr c) := by
  unfold State.relatched State.straps State.wrBit
  repeat apply RegsOnly.wr
  exact RegsOnly.refl u

/-- What the fields of a reset read as. -/
theorem State.relatched_rd (u : State) (pa pf : Nat) (b r f tn : Bool) (m ks kr c : Nat) (hm : m < 8) (hs : ks < 16) (hr : kr < 16) (hc : c < 8)
    (t : State) (ht : t = u.relatched pa pf b r f tn m ks kr c) :
    t.mode = m ∧ t.rd F.BOOT_STATUS.STEP = u.rd F.BOOT_STATUS.STEP ∧ t.rd F.BOOT_FUSE.KEY_SET = ks ∧ t.rd F.BOOT_FUSE.KEY_REVOKED = kr ∧
    t.rd F.BOOT_REASON.RESET = c ∧ t.rd F.TWN_STATUS.AUTH = u.rd F.TWN_STATUS.AUTH ∧ t.bit F.TWN_STATUS.STRAP_ROLE = r ∧
    t.bit F.PAD_STRAPS.TWIN_ROLE = r ∧ t.bit F.PAD_STRAPS.FLASH_1S = f ∧ t.bit F.PAD_STRAPS.TEST_EN_N = tn := by
  subst ht
  unfold State.mode State.bit State.relatched State.straps State.wrBit
  have hb : ∀ b : Bool, ((if b then 1 else 0) % 2 ^ 1 != 0) = b := by decide
  refine ⟨?_, ?_, ?_, ?_, ?_, ?_, ?_, ?_, ?_, ?_⟩ <;>
    simp only [State.rd_wr_off, State.rd_wr_apart, State.rd_wr_same, ne_eq, Nat.reduceAdd, Nat.reduceLeDiff, Nat.reduceEqDiff, not_false_eq_true, or_true, true_or, hb]
  all_goals omega

theorem State.domainReset_eq (s : State) (mode cause : Nat) (test : Bool) (htest : test = (mode ≠ 0 && !s.pin.testLevel)) :
    s.domainReset mode cause = ((s.wiped test).relatched (s.rd F.TWN_STATUS.PEER_AUTH) (s.rd F.TWN_STATUS.PEER_FAIL) (s.bit F.SLT_STATUS.BLANK_REQ)
      (s.bit F.PAD_STRAPS.LIVE_ROLE) (s.bit F.PAD_STRAPS.LIVE_FLASH_1S) s.pin.testLevel (if test then 0 else mode) (s.rd F.BOOT_FUSE.KEY_SET)
      (s.rd F.BOOT_FUSE.KEY_REVOKED) cause).attemptShow := by
  subst htest
  rfl

/-- What a reset leaves: the wiped state with the straps, the mode, the fuses, the cause and the attempt record shown. -/
theorem State.domainReset_spec (s : State) (mode cause : Nat) (hmode : mode < 8) (hcause : cause < 8) (test : Bool)
    (htest : test = (mode ≠ 0 && !s.pin.testLevel)) : ∃ t, s.domainReset mode cause = t ∧ RegsOnly (s.wiped test) t ∧
    t.mode = (if test then 0 else mode) ∧ t.rd F.BOOT_STATUS.STEP = 0 ∧ t.rd F.BOOT_REASON.RESET = cause ∧
    t.rd F.BOOT_REASON.ATTEMPTS = min 3 s.attemptCount ∧ t.rd F.BOOT_REASON.LAST_FAIL = s.boot.lastFail % 256 ∧
    t.rd F.BOOT_FUSE.KEY_SET = s.rd F.BOOT_FUSE.KEY_SET ∧ t.rd F.BOOT_FUSE.KEY_REVOKED = s.rd F.BOOT_FUSE.KEY_REVOKED ∧
    t.rd F.TWN_STATUS.AUTH = 0 ∧ t.bit F.TWN_STATUS.STRAP_ROLE = s.bit F.PAD_STRAPS.LIVE_ROLE ∧
    t.bit F.PAD_STRAPS.TWIN_ROLE = s.bit F.PAD_STRAPS.LIVE_ROLE ∧ t.bit F.PAD_STRAPS.FLASH_1S = s.bit F.PAD_STRAPS.LIVE_FLASH_1S ∧
    t.bit F.PAD_STRAPS.TEST_EN_N = s.pin.testLevel := by
  rw [s.domainReset_eq mode cause test htest]
  generalize hu : (s.wiped test).relatched _ _ _ _ _ _ _ _ _ _ = u
  have honly : RegsOnly (s.wiped test) u := by
    rw [← hu]
    exact State.relatched_regs ..
  obtain ⟨hm, hstep, hset, hrev, hreset, hauth, hrole, hlatched, hflash, htestN⟩ := State.relatched_rd (s.wiped test) _ _ _ _ _ _ _ _ _ _
    (by split <;> omega) (State.rd_lt _ _) (State.rd_lt _ _) hcause u hu.symm
  obtain ⟨t, ht, hregs, happart, hcount, hlast, -, hcause', -⟩ := u.attemptShow_spec
  have hboot : u.boot.attempts = s.boot.attempts ∧ u.boot.aonSec = s.boot.aonSec ∧ u.boot.lastFail = s.boot.lastFail := by
    rw [honly]
    exact ⟨rfl, rfl, rfl⟩
  refine ⟨t, ht, honly.trans hregs, ?_, ?_, hcause'.trans hreset, ?_, ?_, ?_, ?_, ?_, ?_, ?_, ?_, ?_⟩
  · exact (regsApart_rd happart _ _ _ (by decide)).trans hm
  · exact (regsApart_rd happart _ _ _ (by decide)).trans (hstep.trans (s.rd_wiped test).1)
  · rw [hcount]
    unfold State.attemptCount
    rw [hboot.1, hboot.2.1]
  · rw [hlast, hboot.2.2]
  · exact (regsApart_rd happart _ _ _ (by decide)).trans hset
  · exact (regsApart_rd happart _ _ _ (by decide)).trans hrev
  · exact (regsApart_rd happart _ _ _ (by decide)).trans (hauth.trans (s.rd_wiped test).2)
  · rw [← hrole]
    exact congrArg (· != 0) (regsApart_rd happart _ _ _ (by decide))
  · rw [← hlatched]
    exact congrArg (· != 0) (regsApart_rd happart _ _ _ (by decide))
  · rw [← hflash]
    exact congrArg (· != 0) (regsApart_rd happart _ _ _ (by decide))
  · rw [← htestN]
    exact congrArg (· != 0) (regsApart_rd happart _ _ _ (by decide))

end Sys2Proof.Machine
end

section
/-! SUPPORT. The commands of reset, of the steps of BOOT that pass by themselves, of the straps and of the attempt record
(R293, R302, R311, R313, R384, R389). -/
namespace Sys2Proof.Machine

/-! ### Reset -/

theorem exec_resetAssert (s : State) {t : State} (ht : s.domainReset 0 (s.rd F.BOOT_REASON.RESET) = t) :
    exec .resetAssert s = .next { t with pin := { t.pin with resetN := false } } := by
  rw [← ht]
  rfl

theorem exec_resetRelease {s : State} (role flash testN : Bool) (hmode : s.mode = 0) (hlow : s.pin.resetN = false) (hgood : s.boot.powerGood = true)
    {t : State} (ht : (s.liveStraps role flash testN).domainReset 1 (if s.boot.powerLost then 1 else 2) = t) :
    exec (.resetRelease role flash testN) s = .next { t with boot := { t.boot with powerLost := false }, pin := { t.pin with resetN := true } } := by
  show execResetRelease role flash testN s = _
  unfold execResetRelease
  rw [if_neg (by simp [hmode, hlow, hgood])]
  rw [← ht]
  rfl

theorem State.liveStraps_parts (s : State) (role flash testN : Bool) : s.liveStraps role flash testN =
    { s with regs := (s.liveStraps role flash testN).regs, pin := { s.pin with testLevel := testN } } := rfl

theorem State.liveStraps_bits (s : State) (role flash testN : Bool) : (s.liveStraps role flash testN).bit F.PAD_STRAPS.LIVE_ROLE = role ∧
    (s.liveStraps role flash testN).bit F.PAD_STRAPS.LIVE_FLASH_1S = flash := by
  unfold State.liveStraps
  exact ⟨(State.bit_wr_apart _ _ _ _ _ _ _ (by decide)).trans (State.bit_wrBit_same _ _ _ _ (by decide)), State.bit_wrBit_same _ _ _ _ (by decide)⟩

/-- A release of reset latches the straps, and leads to BOOT or to the factory test state. -/
theorem State.release_spec {s : State} (role flash testN : Bool) (hmode : s.mode = 0) (hlow : s.pin.resetN = false) (hgood : s.boot.powerGood = true) :
    runsTo (.resetRelease role flash testN) s (fun t =>
      (t.mode = if testN then 1 else 0) ∧ t.rd F.BOOT_REASON.RESET = (if s.boot.powerLost then 1 else 2) ∧
      t.bit F.PAD_STRAPS.TWIN_ROLE = role ∧ t.bit F.PAD_STRAPS.FLASH_1S = flash ∧ t.bit F.PAD_STRAPS.TEST_EN_N = testN ∧
      t.bit F.TWN_STATUS.STRAP_ROLE = role ∧ t.pin.resetN = true ∧ t.pin.testState = !testN ∧ t.boot.powerLost = false ∧
      t.boot.flash = s.boot.flash ∧ t.boot.attempts = s.boot.attempts ∧ t.acl.mram = s.acl.mram ∧ t.pending = s.pending) := by
  obtain ⟨hrole, hflash⟩ := s.liveStraps_bits role flash testN
  have hparts := s.liveStraps_parts role flash testN
  generalize hu : s.liveStraps role flash testN = u at hrole hflash hparts
  have hlevel : u.pin.testLevel = testN := by rw [hparts]
  obtain ⟨t, ht, honly, hm, -, hcause, -, -, -, -, -, hs, hr, hf, htest⟩ := u.domainReset_spec 1 (if s.boot.powerLost then 1 else 2) (by decide)
    (by split <;> decide) (!testN) (by simp [hlevel])
  refine ⟨_, exec_resetRelease role flash testN hmode hlow hgood (t := t) (by rw [hu, ht]), ?_, hcause, hr.trans hrole, hf.trans hflash,
    htest.trans hlevel, hs.trans hrole, rfl, ?_, rfl, ?_, ?_, ?_, ?_⟩
  · refine Eq.trans hm ?_
    cases testN <;> rfl
  · rw [honly]
    rfl
  all_goals
    rw [honly, hparts]
    rfl

/-! ### Steps of BOOT -/

theorem exec_bootStep1 {s : State} (hruns : s.stepRuns 1 = true) : exec (.bootStepDone 1 true) s =
    .next ((((s.set1 F.CLK_STATUS.ROOT_LOCK).wr F.CLK_STATUS.MON_OK 31).set1 F.CLK_STATUS.REF_OK).wr F.BOOT_STATUS.STEP 2) := by
  show execBootStepDone 1 true s = _
  unfold execBootStepDone
  rw [if_neg (by simp [hruns])]
  rfl

theorem exec_bootStep2 {s : State} (hruns : s.stepRuns 2 = true) : exec (.bootStepDone 2 true) s =
    .next (s.bootAttempts.wr F.BOOT_STATUS.STEP 3) := by
  show execBootStepDone 2 true s = _
  unfold execBootStepDone
  rw [if_neg (by simp [hruns])]
  rfl

theorem exec_bootStep3 {s : State} (hruns : s.stepRuns 3 = true) : exec (.bootStepDone 3 true) s =
    .next (s.flashSelect.wr F.BOOT_STATUS.STEP 4) := by
  show execBootStepDone 3 true s = _
  unfold execBootStepDone
  rw [if_neg (by simp [hruns])]
  rfl

theorem exec_bootStep4_noKey {s : State} (hruns : s.stepRuns 4 = true) (hkey : s.rd F.BOOT_FUSE.KEY_SET = 0) : exec (.bootStepDone 4 true) s =
    .next (s.failStart 1 0) := by
  show execBootStepDone 4 true s = _
  unfold execBootStepDone
  rw [if_neg (by simp [hruns])]
  show done s.bootVerify = _
  unfold State.bootVerify
  rw [if_pos hkey]
  rfl

theorem exec_bootStep7 {s : State} (hruns : s.stepRuns 7 = true) : exec (.bootStepDone 7 true) s =
    .next ((((s.addSat F.SAF_COUNTS.GROUPS 8).incWrap F.SAF_LATENT.CYCLES).wr F.SAF_LATENT.CYCLE_AGE 0).stepPass 7) := by
  show execBootStepDone 7 true s = _
  unfold execBootStepDone
  rw [if_neg (by simp [hruns])]
  rfl

theorem exec_bootStep9 {s : State} (ok : Bool) (hruns : s.stepRuns 9 = true) : exec (.bootStepDone 9 ok) s =
    .next (if ok then (if s.linkActive then s.stepPass 9 else s) else match s.stepReason 9 with
      | some r => s.failStart r 0
      | none => s) := by
  show execBootStepDone 9 ok s = _
  unfold execBootStepDone
  rw [if_neg (by simp [hruns])]
  cases ok <;> rfl

theorem exec_bootStepTimeout3 {s : State} (hruns : s.stepRuns 3 = true) : exec (.bootStepTimeout 3) s = .next (s.failStart 2 0) := by
  show execBootStepTimeout 3 s = _
  unfold execBootStepTimeout
  rw [if_neg (by simp [hruns])]
  rfl

/-- The first step has locked the root PLL and found its clocks good. -/
theorem State.clocksGood_spec (s : State) : ∃ t, t = (((s.set1 F.CLK_STATUS.ROOT_LOCK).wr F.CLK_STATUS.MON_OK 31).set1 F.CLK_STATUS.REF_OK).wr F.BOOT_STATUS.STEP 2 ∧
    t.rd F.BOOT_STATUS.STEP = 2 ∧ t.rd F.CLK_STATUS.ROOT_LOCK = 1 ∧ t.rd F.CLK_STATUS.MON_OK = 31 ∧ t.rd F.CLK_STATUS.REF_OK = 1 ∧ RegsOnly s t ∧
    regsApart [F.BOOT_STATUS.STEP.off, F.CLK_STATUS.ROOT_LOCK.off] s t := by
  refine ⟨_, rfl, State.rd_wr_same _ _ _ _ _ (by decide), ?_, ?_, ?_, ((((RegsOnly.refl s).wr _ _).wr _ _).wr _ _).wr _ _,
    regsApart_wr _ _ (regsApart_wr _ _ (regsApart_wr _ _ (regsApart_wr _ _ regsApart_refl (by decide)) (by decide)) (by decide)) (by decide)⟩ <;>
    rw [State.rd_wr_off _ _ _ _ _ _ _ _ (by decide)]
  · exact (State.rd_wr_apart _ _ _ _ _ _ _ (by decide)).trans ((State.rd_wr_apart _ _ _ _ _ _ _ (by decide)).trans
      (State.rd_wr_same _ _ _ _ _ (by decide)))
  · exact (State.rd_wr_apart _ _ _ _ _ _ _ (by decide)).trans (State.rd_wr_same _ _ _ _ _ (by decide))
  · exact State.rd_wr_same _ _ _ _ _ (by decide)

theorem listInsert_contains (n : Nat) (l : List Nat) : (listInsert n l).contains n = true :=
  List.contains_iff_mem.2 ((mem_listInsert n n l).2 (.inl rfl))

/-- The self-tests of start-up are counted as one cycle of eight groups. -/
theorem State.startTests_spec (s : State) : ∃ u, u = ((s.addSat F.SAF_COUNTS.GROUPS 8).incWrap F.SAF_LATENT.CYCLES).wr F.SAF_LATENT.CYCLE_AGE 0 ∧
    u.rd F.SAF_COUNTS.GROUPS = min (s.rd F.SAF_COUNTS.GROUPS + 8) (2 ^ 16 - 1) ∧
    u.rd F.SAF_LATENT.CYCLES = (s.rd F.SAF_LATENT.CYCLES + 1) % 2 ^ 16 ∧ u.rd F.SAF_LATENT.CYCLE_AGE = 0 ∧ RegsOnly s u ∧
    regsApart [F.SAF_COUNTS.GROUPS.off, F.SAF_LATENT.CYCLES.off] s u := by
  unfold State.addSat State.incWrap
  refine ⟨_, rfl, ?_, ?_, State.rd_wr_same _ _ _ _ _ (by decide), (((RegsOnly.refl s).wr _ _).wr _ _).wr _ _,
    regsApart_wr _ _ (regsApart_wr _ _ (regsApart_wr _ _ regsApart_refl (by decide)) (by decide)) (by decide)⟩
  · rw [State.rd_wr_off _ _ _ _ _ _ _ _ (by decide), State.rd_wr_off _ _ _ _ _ _ _ _ (by decide), State.rd_wr_same _ _ _ _ _ (by decide)]
    exact Nat.mod_eq_of_lt (show min _ (2 ^ 16 - 1) < 2 ^ 16 by omega)
  · rw [State.rd_wr_apart _ _ _ _ _ _ _ (by decide), State.rd_wr_same _ _ _ _ _ (by decide), State.rd_wr_off _ _ _ _ _ _ _ _ (by decide)]

/-! ### The attempt record -/

theorem exec_attemptAgeOut {s : State} {r t0 : Nat} (hone : s.boot.attempts = [(r, t0)]) (hyoung : s.boot.aonSec < t0 + 600) :
    exec .attemptAgeOut s = .next { s with boot := { s.boot with aonSec := t0 + 600 } }.attemptShow := by
  show execAttemptAgeOut s = _
  unfold execAttemptAgeOut
  have hlist : (s.boot.attempts.filter (fun a => s.boot.aonSec < a.2 + 600)).map Prod.snd = [t0] := by
    rw [hone, List.filter_cons_of_pos (by simpa using hyoung)]
    rfl
  rw [hlist]
  show done ({ s with boot := { s.boot with aonSec := max s.boot.aonSec (t0 + 600) } }.attemptShow) = _
  rw [Nat.max_eq_right (by omega)]
  rfl

theorem length_attemptBytes (last : Nat) (fails : List (Nat × Nat)) : (attemptBytes last fails).length = 192 := by
  unfold attemptBytes
  simp only [List.length_append, List.length_take, List.length_replicate, length_leBytes]
  omega

/-- A record entered in both copies. -/
theorem State.attemptPut_spec (s : State) (last : Nat) (fails : List (Nat × Nat)) : ∃ t, s.attemptPut last fails = t ∧
    t = { s with boot := { s.boot with attempts := fails, lastFail := last, aonLost := false }, acl := { s.acl with mram := t.acl.mram, spi := t.acl.spi } } ∧
    (s.boot.mramFitted = true → memRead t.acl.mram 0 192 = attemptBytes last fails) ∧
    (∀ x, 192 ≤ x → smGet byteDefault t.acl.mram x = smGet byteDefault s.acl.mram x) := by
  unfold State.attemptPut
  cases hfit : s.boot.mramFitted with
  | false => exact ⟨_, if_neg (by simp [hfit]), rfl, fun h => absurd h (by decide), fun _ _ => rfl⟩
  | true =>
    refine ⟨_, if_pos hfit, rfl, fun _ => memRead_memWrite_of_length _ _ _ _ (length_attemptBytes _ _), fun x hx => ?_⟩
    exact smGet_memWrite_outside _ _ _ _ (.inr (by rw [length_attemptBytes]; omega))

theorem exec_clearAttempts {s : State} {m : Master} (hserves : s.serves m F.BOOT_CTL.CLEAR_ATTEMPTS.off = true) (hmode : s.mode = 4) :
    exec (.clearAttempts m) s = .next (s.attemptPut 0 []).attemptShow := by
  show execClearAttempts m s = _
  unfold execClearAttempts
  rw [State.gated_serves _ _ _ _ hserves, if_pos hmode]
  rfl

/-! ### Straps and the test access port -/

theorem exec_strapChange_role {s : State} {high : Bool} (hlive : s.mode ≠ 0 ∨ s.pin.testState = true) (hold : s.bit F.PAD_STRAPS.LIVE_ROLE ≠ high) :
    exec (.strapChange 0 high) s = .next ((s.wrBit F.PAD_STRAPS.LIVE_ROLE high).set1 F.PAD_STRAPS.CHANGED) := by
  show execStrapChange 0 high s = _
  unfold execStrapChange
  show done (if (decide (s.bit F.PAD_STRAPS.LIVE_ROLE ≠ high) && _) = true then _ else _) = _
  rw [if_pos (by rcases hlive with h | h <;> simp [h, hold])]
  rfl

theorem exec_strapChange_test {s : State} {high : Bool} (hlive : s.mode ≠ 0 ∨ s.pin.testState = true) (hold : s.pin.testLevel ≠ high) :
    exec (.strapChange 2 high) s = .next ({ s with pin := { s.pin with testLevel := high } }.set1 F.PAD_STRAPS.CHANGED) := by
  show execStrapChange 2 high s = _
  unfold execStrapChange
  show done (if (decide (s.pin.testLevel ≠ high) && _) = true then _ else _) = _
  rw [if_pos (by rcases hlive with h | h <;> simp [h, hold])]
  rfl

theorem exec_tapInstructionUpdate (s : State) (i : TapInstr) : exec (.tapInstructionUpdate i) s =
    .next { s with pin := { s.pin with tap := if i = .scan ∧ s.pin.resetN = true then .bypass else i } } := by
  show execTapInstructionUpdate i s = _
  unfold execTapInstructionUpdate
  simp only [Bool.and_eq_true, decide_eq_true_eq]
  rfl

end Sys2Proof.Machine
end

section
/-! SUPPORT. The change of mode, the restarts that a failed start, STORAGE and SAFE lead to, and STORAGE itself (R293, R310 to R315, R361). -/
namespace Sys2Proof.Machine

/-! ### The mode -/

theorem LogParts.mram {s t : State} (h : LogParts s t) : t.acl.mram = s.acl.mram := by
  obtain ⟨_, _, _, _, _, _, _, _, _, rfl⟩ := h
  rfl

/-- The registers that a change of the mode writes beside those of its record: the mode, and the encoders without an index. -/
def modeRegs : List Nat := [F.BOOT_STATUS.MODE.off, F.SLT_STATUS.REF0.off, F.SLT_POS0.POS.off, F.SLT_POS1.POS.off]

/-- What a change of the mode leaves. -/
structure ModeSet (mode : Nat) (s t : State) : Prop where
  parts : t = { s with regs := t.regs, hif := { s.hif with due := t.hif.due }, acl := t.acl, ikl := t.ikl }
  mode : t.mode = mode
  mram : t.acl.mram = s.acl.mram
  kept : ∀ o, o / 0x10000 ≠ 0x20 → o / 0x10000 ≠ 0x22 → o ∉ modeRegs → t.reg o = s.reg o

/-- A step that changes registers of a list and nothing else. -/
structure Rewritten (l : List Nat) (s t : State) : Prop where
  only : RegsOnly s t
  apart : regsApart l s t

namespace Rewritten

variable {l : List Nat} {s t : State}

theorem refl (l : List Nat) (s : State) : Rewritten l s s := ⟨RegsOnly.refl s, regsApart_refl⟩

theorem wr (h : Rewritten l s t) (f : Field) (v : Nat) (hf : f.off ∈ l) : Rewritten l s (t.wr f v) :=
  ⟨h.only.wr _ _, regsApart_wr _ _ h.apart hf⟩

theorem whenD (h : Rewritten l s t) (c : Bool) (f : State → State) (hf : Rewritten l s (f t)) : Rewritten l s (t.whenD c f) := by
  unfold State.whenD
  split
  · exact hf
  · exact h

end Rewritten

theorem State.leaveBoot_rewritten (s : State) : Rewritten modeRegs s s.leaveBoot := by
  have hnone := Rewritten.refl modeRegs s
  unfold State.leaveBoot State.encStart
  split
  · have hfirst := hnone.whenD (!s.bit F.SLT_ENC_CFG.USE_INDEX0) (fun s => (s.wr F.SLT_POS0.POS 0).set1 F.SLT_STATUS.REF0)
      ((hnone.wr _ _ (by decide)).wr _ _ (by decide))
    exact hfirst.whenD _ _ ((hfirst.wr _ _ (by decide)).wr _ _ (by decide))
  · exact hnone

theorem State.setMode_spec (s : State) (mode : Nat) (hmode : mode < 8) : ∃ t, s.setMode mode = t ∧ ModeSet mode s t := by
  obtain ⟨u, hu⟩ : ∃ u, u = if mode = 1 then s else s.leaveBoot := ⟨_, rfl⟩
  have hkept : Rewritten modeRegs s u := by
    rw [hu]
    split
    · exact Rewritten.refl _ s
    · exact s.leaveBoot_rewritten
  obtain ⟨honly, happart⟩ := hkept
  obtain ⟨v, hv⟩ : ∃ v, v = u.wr F.BOOT_STATUS.MODE mode := ⟨_, rfl⟩
  have hlog := v.aclLog_logged 0x0105 (leBytes 1 s.mode ++ leBytes 1 mode)
  have hvonly : RegsOnly s v := by
    rw [hv]
    exact honly.wr _ _
  refine ⟨_, rfl, ?_⟩
  have hset : s.setMode mode = v.aclLog 0x0105 (leBytes 1 s.mode ++ leBytes 1 mode) := by
    unfold State.setMode
    rw [hv, hu]
  rw [hset]
  generalize v.aclLog _ _ = t at hlog
  refine ⟨?_, ?_, hlog.parts.mram.trans (by rw [hvonly]), fun o h20 h22 ho => ?_⟩
  · obtain ⟨_, _, _, _, _, _, _, _, _, ht⟩ := hlog.parts
    rw [ht, hvonly]
  · refine (hlog.rd _ _ _ (by decide) (by decide)).trans ?_
    rw [hv]
    exact (State.rd_wr_same _ _ _ _ _ (by decide)).trans (Nat.mod_eq_of_lt hmode)
  · rw [hlog.registers o h22 (by simp only; omega), hv,
      State.reg_wr_ne _ _ _ _ (by rintro rfl; exact ho List.mem_cons_self)]
    exact happart o ho

/-! ### The persistent copy brought up to date -/

/-- A step that keeps the boot record, the pins and the waiting commands. -/
structure Carried (s t : State) : Prop where
  boot : t.boot = s.boot
  pin : t.pin = s.pin
  pending : t.pending = s.pending

theorem Carried.trans {s t u : State} (h : Carried s t) (h' : Carried t u) : Carried s u :=
  ⟨h'.boot.trans h.boot, h'.pin.trans h.pin, h'.pending.trans h.pending⟩

theorem State.copyAll_carried : ∀ (n pos : Nat) (rs : List AclRec) (s : State), Carried s (s.copyAll n pos rs)
  | 0, _, _, _ => ⟨rfl, rfl, rfl⟩
  | n + 1, pos, rs, s => by
    unfold State.copyAll
    dsimp only
    split
    · exact ⟨rfl, rfl, rfl⟩
    · refine Carried.trans ?_ (State.copyAll_carried n _ _ _)
      rw [State.mramPut_parts]
      exact ⟨rfl, rfl, rfl⟩

theorem State.flushed_carried (s : State) : Carried s s.flushed := ⟨rfl, rfl, rfl⟩

theorem State.aclFlush_carried (s : State) : Carried s s.aclFlush := by
  unfold State.aclFlush
  split
  · exact ⟨rfl, rfl, rfl⟩
  · obtain ⟨hboot, hpin, hpending⟩ := State.copyAll_carried s.flushRecs.length s.flushFrom s.flushRecs { s with acl := { s.acl with spi := [] } }
    exact Carried.trans ⟨hboot, hpin, hpending⟩ (State.flushed_carried _)

theorem ModeSet.carried {mode : Nat} {s t : State} (h : ModeSet mode s t) : Carried s t := by
  rw [h.parts]
  exact ⟨rfl, rfl, rfl⟩

/-! ### Restarts -/

/-- A restart into BOOT: what the reset shows, and what it keeps. -/
structure Restarted (cause : Nat) (s t : State) : Prop where
  mode : t.mode = 1
  reset : t.rd F.BOOT_REASON.RESET = cause
  step : t.rd F.BOOT_STATUS.STEP = 0
  attempts : t.rd F.BOOT_REASON.ATTEMPTS = min 3 s.attemptCount
  lastFail : t.rd F.BOOT_REASON.LAST_FAIL = s.boot.lastFail % 256
  record : t.boot.attempts = s.boot.attempts
  flash : t.boot.flash = s.boot.flash
  fuses : t.boot.fuseHash = s.boot.fuseHash
  acting : t.saf.acting = false
  pending : t.pending = s.pending

theorem State.restart_restarted {s u : State} (hcarried : Carried s u) {cause : Nat} (hcause : cause < 8) (htest : s.pin.testLevel = true) :
    Restarted cause s (u.domainReset 1 cause) := by
  obtain ⟨hboot, hpin, hpending⟩ := hcarried
  obtain ⟨t, ht, honly, hm, hstep, hreset, hcount, hlast, -⟩ := u.domainReset_spec 1 cause (by decide) hcause false (by simp [hpin, htest])
  rw [ht]
  have hattempts : u.attemptCount = s.attemptCount := by
    unfold State.attemptCount
    rw [hboot]
  refine ⟨hm, hreset, hstep, hcount.trans (by rw [hattempts]), hlast.trans (by rw [hboot]), ?_, ?_, ?_, ?_, ?_⟩
  · rw [honly, ← hboot]
    rfl
  · rw [honly, ← hboot]
    rfl
  · rw [honly, ← hboot]
    rfl
  · rw [honly]
    rfl
  · rw [honly, ← hpending]
    rfl

/-- BOOT begins again with the attempt record as it stands. -/
theorem State.modeRestart {s : State} {cause : Nat} (hcause : cause < 8) (htest : s.pin.testLevel = true) :
    Restarted cause s ((s.setMode 1).aclFlush.domainReset 1 cause) := by
  obtain ⟨u, hu, hset⟩ := s.setMode_spec 1 (by decide)
  rw [hu]
  exact State.restart_restarted (hset.carried.trans u.aclFlush_carried) hcause htest

theorem exec_bootRestart {s : State} {m : Master} (hserves : s.serves m F.BOOT_CTL.RESTART.off = true) (hmode : s.mode = 4)
    (hrest : s.saf.acting = false) (hquiet : s.bit F.BOOT_STATUS.QUIESCED = false) :
    exec (.bootRestart m) s = .next ((s.setMode 1).aclFlush.domainReset 1 5) := by
  show execBootRestart m s = _
  unfold execBootRestart
  rw [State.gated_serves _ _ _ _ hserves, if_pos (by simp [hmode, hrest, hquiet])]
  rfl

/-- A failure that is not the third leads back to BOOT. -/
theorem State.afterFail_restarts {s : State} {reason cause : Nat} (hreason : reason ≠ 1) (hfew : s.attemptCount < 3) :
    s.afterFail reason cause = (s.setMode 1).aclFlush.domainReset 1 cause := by
  unfold State.afterFail
  simp only [hreason, decide_false, Bool.false_or, Nat.not_le.2 hfew, Bool.not_false, if_true, Bool.false_eq_true, if_false]

theorem State.failRecord_carried (s : State) (reason refused : Nat) : Carried s (s.failRecord reason refused) := by
  obtain ⟨_, _, _, _, _, _, _, _, _, ht⟩ := (s.aclLog_logged 0x0104 (leBytes 1 reason ++ leBytes 1 (s.failStep reason) ++ leBytes 2 0 ++
    leBytes 4 refused)).parts
  unfold State.failRecord
  rw [ht]
  exact ⟨rfl, rfl, rfl⟩

/-- A failed start in BOOT: its record, its entry in the attempt record and what follows. -/
theorem State.failStart_fails {s : State} {reason : Nat} (refused : Nat) (hmode : s.mode = 1) (hrest : s.saf.acting = false)
    (hquiet : s.bit F.BOOT_STATUS.QUIESCED = false) :
    s.failStart reason refused = ((s.failRecord reason refused).attemptAdd reason).afterFail reason 4 := by
  unfold State.failStart
  rw [if_neg (by simp [hmode, hrest, hquiet])]

theorem State.stepRuns_low {s : State} {n : Nat} (hn : n ≤ 5) (h : s.stepRuns n = true) : s.saf.acting = false ∧ s.mode = 1 := by
  unfold State.stepRuns at h
  simp only [if_pos hn, Bool.and_eq_true, Bool.not_eq_true', decide_eq_true_eq] at h
  exact ⟨h.1, h.2.1.1⟩

/-- A first failed start restarts BOOT with one failure recorded. -/
theorem State.failStart_first {s : State} {reason : Nat} (hreason : reason ≠ 1) (hmode : s.mode = 1) (hrest : s.saf.acting = false)
    (hquiet : s.bit F.BOOT_STATUS.QUIESCED = false) (hnone : s.boot.attempts = []) (haon : s.boot.aonLost = false) (htest : s.pin.testLevel = true) :
    ∃ u, Restarted 4 u (s.failStart reason 0) ∧ u.boot.attempts = [(reason, s.boot.aonSec)] ∧ u.boot.lastFail = reason ∧
      u.attemptCount = 1 ∧ u.boot.flash = s.boot.flash := by
  obtain ⟨hboot, hpin, -⟩ := s.failRecord_carried reason 0
  rw [State.failStart_fails 0 hmode hrest hquiet]
  generalize s.failRecord reason 0 = v at hboot hpin
  obtain ⟨u, hu, hparts, -, -⟩ := v.attemptPut_spec reason (((reason, v.boot.aonSec) :: v.attemptsKnown).take 3)
  have hknown : v.attemptsKnown = [] := by
    unfold State.attemptsKnown
    rw [hboot, haon, hnone]
    rfl
  have hattempts : u.boot.attempts = [(reason, s.boot.aonSec)] ∧ u.boot.aonSec = s.boot.aonSec := by
    rw [hparts, hknown, hboot]
    exact ⟨rfl, rfl⟩
  have hcount : u.attemptCount = 1 := by
    unfold State.attemptCount
    rw [hattempts.1, hattempts.2, List.filter_cons_of_pos (by simp)]
    rfl
  refine ⟨u, ?_, hattempts.1, by rw [hparts], hcount, by rw [hparts, hboot]⟩
  rw [show v.attemptAdd reason = u from hu, State.afterFail_restarts hreason (by omega)]
  exact State.modeRestart (by decide) (by rw [hparts, hpin, htest])

theorem exec_safeRestartExpiry {s : State} (hmode : s.mode = 5) (hon : s.bit F.BOOT_CFG.SAFE_RESTART = true) :
    exec .safeRestartExpiry s = .next ((s.failRecord 0xC 0).afterFail 0xC 3) := by
  show execSafeRestartExpiry s = _
  unfold execSafeRestartExpiry
  rw [if_pos (by simp [hmode, hon])]
  rfl

end Sys2Proof.Machine
end

section
/-! SUPPORT. Step 2 of BOOT: the record read, and the START record (R311, R319, R360). -/
namespace Sys2Proof.Machine

/-- The boot number that the MRAM holds. -/
def State.bootsHeld (s : State) : Nat := leNat (memRead s.acl.mram 192 2)

/-- The state once the fitted MRAM has been read and its boot number advanced. -/
def State.recordRead (s : State) : State :=
  let u := ((s.wrBit F.BOOT_STATUS.MRAM_ABSENT false).wr F.ACL_COPY.BOOT (s.bootsHeld + 1)).wr F.ACL_COPY.EPOCH (leNat (memRead s.acl.mram 194 2))
  { u with acl := { s.acl with mram := memWrite s.acl.mram 192 (leBytes 2 (s.bootsHeld + 1)),
                               spi := spiRead 0 ++ spiWrite 192 (leBytes 2 (s.bootsHeld + 1)) } }.wrBit F.BOOT_STATUS.UNCLEAN (!s.boot.cleanMark)

theorem State.recordRead_spec (s : State) : ∃ u, s.recordRead = u ∧
    u = { s with regs := u.regs, acl := { s.acl with mram := u.acl.mram, spi := u.acl.spi } } ∧
    u.rd F.BOOT_STATUS.MRAM_ABSENT = 0 ∧ u.rd F.BOOT_STATUS.UNCLEAN = (if s.boot.cleanMark then 0 else 1) ∧
    u.rd F.ACL_COPY.BOOT = (s.bootsHeld + 1) % 2 ^ 16 ∧ memRead u.acl.mram 192 2 = leBytes 2 (s.bootsHeld + 1) ∧
    (∀ x, x < 192 ∨ 194 ≤ x → smGet byteDefault u.acl.mram x = smGet byteDefault s.acl.mram x) ∧
    regsApart [F.BOOT_STATUS.UNCLEAN.off, F.ACL_COPY.BOOT.off] s u := by
  unfold State.recordRead
  obtain ⟨v, hv⟩ : ∃ v, v = ((s.wrBit F.BOOT_STATUS.MRAM_ABSENT false).wr F.ACL_COPY.BOOT (s.bootsHeld + 1)).wr F.ACL_COPY.EPOCH
    (leNat (memRead s.acl.mram 194 2)) := ⟨_, rfl⟩
  have honly : RegsOnly s v := by
    rw [hv]
    exact (((RegsOnly.refl s).wr _ _).wr _ _).wr _ _
  have happart : regsApart [F.BOOT_STATUS.UNCLEAN.off, F.ACL_COPY.BOOT.off] s v := by
    rw [hv]
    exact regsApart_wr _ _ (regsApart_wr _ _ (regsApart_wr _ _ regsApart_refl (by decide)) (by decide)) (by decide)
  have habsent : v.rd F.BOOT_STATUS.MRAM_ABSENT = 0 := by
    rw [hv, State.rd_wr_off _ _ _ _ _ _ _ _ (by decide), State.rd_wr_off _ _ _ _ _ _ _ _ (by decide)]
    exact State.rd_wr_same _ _ _ _ _ (by decide)
  have hboot : v.rd F.ACL_COPY.BOOT = (s.bootsHeld + 1) % 2 ^ 16 := by
    rw [hv, State.rd_wr_apart _ _ _ _ _ _ _ (by decide)]
    exact State.rd_wr_same _ _ _ _ _ (by decide)
  rw [← hv]
  refine ⟨_, rfl, ?_, ?_, ?_, ?_, ?_, fun x hx => ?_, ?_⟩
  · rw [honly]
    rfl
  · exact (State.rd_wr_apart _ _ _ _ _ _ _ (by decide)).trans ((State.rd_mk ..).trans habsent)
  · refine (State.rd_wr_same _ _ _ _ _ (by decide)).trans ?_
    cases s.boot.cleanMark <;> rfl
  · exact (State.rd_wr_off _ _ _ _ _ _ _ _ (by decide)).trans ((State.rd_mk ..).trans hboot)
  · exact memRead_memWrite_of_length _ _ _ _ (length_leBytes _ _)
  · exact smGet_memWrite_outside _ _ _ _ (by rw [length_leBytes]; omega)
  · exact regsApart_wr _ _ (regsApart_regs happart rfl) (by decide)

/-- What step 2 writes of a start: its boot number, the cause of the reset, the record and whether the copy was unclean. -/
def State.startData (s : State) : List Byte :=
  leBytes 2 (s.rd F.ACL_COPY.BOOT) ++ leBytes 1 (s.rd F.BOOT_REASON.RESET) ++ leBytes 1 (s.rd F.BOOT_REASON.LAST_FAIL)
    ++ leBytes 1 (s.rd F.BOOT_REASON.ATTEMPTS) ++ leBytes 1 ((if s.bit F.BOOT_STATUS.UNCLEAN then 1 else 0) + 0)

theorem State.bootAttempts_reads {s : State} (hfit : s.boot.mramFitted = true) (hlost : s.boot.aonLost = false) :
    s.bootAttempts = s.recordRead.attemptShow.aclLog 0x0101 s.recordRead.attemptShow.startData := by
  obtain ⟨v, hv⟩ : ∃ v, v = s.wrBit F.BOOT_STATUS.MRAM_ABSENT false := ⟨_, rfl⟩
  have honly : RegsOnly s v := by
    rw [hv]
    exact (RegsOnly.refl s).wr _ _
  have hvlost : v.boot.aonLost = false := by rw [honly, hlost]
  unfold State.bootAttempts State.startData State.recordRead State.whenD
  simp only [hfit, Bool.not_true, ← hv, hvlost, Bool.false_eq_true, if_false, if_true]
  have hacl : v.acl = s.acl := by rw [honly]
  have hboot : v.boot = s.boot := by rw [honly]
  unfold State.bootsHeld State.mramWrite
  simp only [State.wr_acl, State.wr_boot, hacl, hboot]

/-- A record of no limited event put at the head of the ring. -/
theorem State.aclLog_put {s : State} {event : Nat} (data : List Byte) (hlimit : aclLimited event = false) (hwait : s.aclWaiting = false) :
    s.aclLog event data = (s.indexed event).aclPut (s.aclMake event false data) :=
  (if_pos (by unfold State.aclDue; rw [hlimit]; rfl)).trans (State.aclEnter_put (s := s.indexed event) _ hwait)

/-- What step 2 leaves where the MRAM is fitted and the always-on record was kept. -/
theorem State.bootAttempts_spec {s : State} (hfit : s.boot.mramFitted = true) (hlost : s.boot.aonLost = false) (hwait : s.aclWaiting = false) :
    ∃ t, s.bootAttempts = t ∧ t.rd F.BOOT_STATUS.MRAM_ABSENT = 0 ∧ t.rd F.BOOT_STATUS.UNCLEAN = (if s.boot.cleanMark then 0 else 1) ∧
      t.rd F.ACL_COPY.BOOT = (s.bootsHeld + 1) % 2 ^ 16 ∧ t.rd F.BOOT_REASON.ATTEMPTS = min 3 s.attemptCount ∧
      memRead t.acl.mram 192 2 = leBytes 2 (s.bootsHeld + 1) ∧
      (∀ x, x < 192 ∨ 194 ≤ x → smGet byteDefault t.acl.mram x = smGet byteDefault s.acl.mram x) ∧
      t.acl.ring.length = min (s.acl.ring.length + 1) 8192 ∧ t.acl.ring.head?.map AclRec.event = some 0x0101 ∧ sameMemories s t := by
  obtain ⟨u, hu, hparts, habsent, hunclean, hboot, hbytes, hother, happart⟩ := s.recordRead_spec
  obtain ⟨v, hv, honly, hvapart, hcount, -⟩ := u.attemptShow_spec
  rw [State.bootAttempts_reads hfit hlost, hu, hv]
  have hring : v.acl.ring = s.acl.ring := by rw [honly, hparts]
  have hmram : v.acl.mram = u.acl.mram := by rw [honly]
  have hvwait : v.aclWaiting = false := by
    have hbit : v.bit F.ACL_STATUS.FROZEN = s.bit F.ACL_STATUS.FROZEN :=
      congrArg (· != 0) ((regsApart_rd hvapart _ _ _ (by decide)).trans (regsApart_rd happart _ _ _ (by decide)))
    have hfrozen : v.acl.frozenAt = s.acl.frozenAt ∧ v.cycle = s.cycle ∧ v.acl.clearing = s.acl.clearing := by
      rw [honly, hparts]
      exact ⟨rfl, rfl, rfl⟩
    rw [← hwait]
    unfold State.aclWaiting
    rw [hbit, hfrozen.1, hfrozen.2.1, hfrozen.2.2]
  have hput := (v.indexed 0x0101).aclPut_put (v.aclMake 0x0101 false v.startData)
  have hringed := (v.indexed 0x0101).aclPut_ring (v.aclMake 0x0101 false v.startData)
  have hkept : ∀ f, (v.indexed 0x0101).rd f = v.rd f := fun _ => rfl
  rw [State.aclLog_put _ (by decide) hvwait]
  generalize (v.indexed 0x0101).aclPut _ = t at hput hringed
  have htmram : t.acl.mram = u.acl.mram := hput.parts.mram.trans hmram
  have hrd : ∀ o l w, o ∉ putRegs → t.rd ⟨o, l, w⟩ = v.rd ⟨o, l, w⟩ := fun o l w ho => (regsApart_rd hput.regs o l w ho).trans (hkept _)
  refine ⟨t, rfl, ?_, ?_, ?_, ?_, by rw [htmram, hbytes], fun x hx => by rw [htmram]; exact hother x hx, ?_, ?_, ?_⟩
  · exact (hrd _ _ _ (by decide)).trans ((regsApart_rd hvapart _ _ _ (by decide)).trans habsent)
  · exact (hrd _ _ _ (by decide)).trans ((regsApart_rd hvapart _ _ _ (by decide)).trans hunclean)
  · exact (hrd _ _ _ (by decide)).trans ((regsApart_rd hvapart _ _ _ (by decide)).trans hboot)
  · refine (hrd _ _ _ (by decide)).trans (hcount.trans ?_)
    unfold State.attemptCount
    rw [hparts]
  · rw [hringed, List.length_take, List.length_cons]
    show min 8192 (v.acl.ring.length + 1) = _
    rw [hring]
    omega
  · rw [hringed]
    rfl
  · have hsame : sameMemories s u := by
      rw [hparts]
      exact ⟨rfl, rfl, rfl, rfl, rfl, rfl, rfl, rfl, rfl, rfl⟩
    exact (hsame.trans honly.sameMemories).trans hput.parts.sameMemories

end Sys2Proof.Machine
end

section
/-! SUPPORT. STORAGE (R32, R312): what its entry leaves of the mode, of the attempt record and of the units it stops. -/
namespace Sys2Proof.Machine

/-- A step that keeps the boot record, the MRAM and the mode. -/
structure Persisted (s t : State) : Prop where
  boot : t.boot = s.boot
  mram : t.acl.mram = s.acl.mram
  mode : t.reg 0x8 = s.reg 0x8

namespace Persisted

variable {s t u : State}

theorem refl (s : State) : Persisted s s := ⟨rfl, rfl, rfl⟩

theorem trans (h : Persisted s t) (h' : Persisted t u) : Persisted s u :=
  ⟨h'.boot.trans h.boot, h'.mram.trans h.mram, h'.mode.trans h.mode⟩

theorem setReg (h : Persisted s t) (o : Nat) (v : Word) (ho : o ≠ 0x8) : Persisted s (t.setReg o v) :=
  h.trans ⟨rfl, rfl, State.reg_setReg_ne _ _ _ _ (Ne.symm ho)⟩

theorem wr (h : Persisted s t) (f : Field) (v : Nat) (hf : f.off ≠ 0x8) : Persisted s (t.wr f v) :=
  h.trans ⟨rfl, rfl, State.reg_wr_ne _ _ _ _ (Ne.symm hf)⟩

theorem ite (c : Prop) [Decidable c] (h : Persisted s t) (h' : Persisted s u) : Persisted s (if c then t else u) := by
  split
  · exact h
  · exact h'

theorem foldl {α : Type} (f : State → α → State) (hf : ∀ s a, Persisted s (f s a)) : ∀ (l : List α) (s : State), Persisted s (l.foldl f s)
  | [], s => refl s
  | a :: l, s => (hf s a).trans (foldl f hf l (f s a))

theorem of_ran (h : Ran s t) : Persisted s t := by
  obtain ⟨hparts, hkept, -⟩ := h
  exact ⟨by rw [hparts], by rw [hparts], hkept _ (by decide)⟩

end Persisted

/-! ### The link, the leaves and the rings -/

theorem State.folShow_persisted (s : State) : Persisted s s.folShow := by
  unfold State.folShow
  dsimp only
  have h2 := ((((Persisted.refl s).wr F.FOL_LEAF_STATUS.CUR_LEAF (((s.leafAt s.curPlace).map Leaf.id).getD 0) (by decide)).wr
    F.FOL_LEAF_STATUS.CUR_STATE (s.leafState s.curPlace) (by decide)).wr F.FOL_LEAF_STATUS.NEXT_LEAF
    (((s.leafAt (1 - s.curPlace)).map Leaf.id).getD 0) (by decide)).wr F.FOL_LEAF_STATUS.NEXT_STATE (s.leafState (1 - s.curPlace)) (by decide)
  split
  · exact (h2.trans (Persisted.wr (Persisted.refl _) F.FOL_LEAF_POS.TROW _ (by decide))).wr F.FOL_LEAF_POS.SEQ _ (by decide)
  · exact h2

theorem State.leavesDrop_persisted (s : State) : Persisted s s.leavesDrop := by
  unfold State.leavesDrop
  refine Persisted.trans (Persisted.wr ?_ F.SLT_STATUS.STATE 0 (by decide)) (State.folShow_persisted _)
  exact ⟨rfl, rfl, rfl⟩

theorem State.ringsOff_persisted (s : State) : Persisted s s.ringsOff := by
  unfold State.ringsOff
  have hrings := Persisted.foldl (fun s n => (s.clr (F.HIF_SQ_CTL.ENABLE n)).wr (F.HIF_SQ_HEAD.HEAD n) 0)
    (fun s n => ((Persisted.refl s).wr (F.HIF_SQ_CTL.ENABLE n) 0 (by show 0x20108 + 0x20 * n ≠ 0x8; omega)).wr (F.HIF_SQ_HEAD.HEAD n) 0
      (by show 0x20118 + 0x20 * n ≠ 0x8; omega)) (List.range 4) s
  have hqueues := hrings.trans (Persisted.foldl (fun s q => (((s.clr (F.HIF_HQ_CTL.ENABLE q)).wr (F.HIF_HQ_TAIL.TAIL q) 0).wr
    (F.HIF_HQ_HEAD.HEAD q) 0).set1 (F.HIF_HQ_TAIL.PHASE q))
    (fun s q => ((((Persisted.refl s).wr (F.HIF_HQ_CTL.ENABLE q) 0 (by show 0x20208 + 0x20 * q ≠ 0x8; omega)).wr (F.HIF_HQ_TAIL.TAIL q) 0
      (by show 0x20218 + 0x20 * q ≠ 0x8; omega)).wr (F.HIF_HQ_HEAD.HEAD q) 0 (by show 0x20210 + 0x20 * q ≠ 0x8; omega)).wr
      (F.HIF_HQ_TAIL.PHASE q) 1 (by show 0x20218 + 0x20 * q ≠ 0x8; omega)) (List.range 2) _)
  dsimp only
  generalize (List.range 2).foldl _ _ = u at hqueues ⊢
  refine Persisted.trans (Persisted.ite _ ?_ hqueues) ⟨rfl, rfl, rfl⟩
  exact (hqueues.wr F.HIF_SETUP_STATUS.STATE 3 (by decide)).wr F.HIF_SETUP_STATUS.CAUSE 3 (by decide)

theorem State.storageLink_persisted (s : State) : Persisted s s.storageLink := by
  have hoff := s.ringsOff_persisted
  unfold State.storageLink
  generalize s.ringsOff = u at hoff
  refine Persisted.ite _ hoff ?_
  exact ((hoff.wr F.HIF_LINK_STATUS.SPEED 1 (by decide)).wr F.HIF_LINK_STATUS.WIDTH 1 (by decide)).wr F.FOL_INTAKE_CAP.CAP_MBS (intakeCap 1 1)
    (by decide)

/-! ### The blanker link -/

theorem State.setGrpState_persisted (s : State) (g st : Nat) : Persisted s (s.setGrpState g st) :=
  ((Persisted.refl s).wr F.BLK_STATUS.STATE _ (by decide)).wr F.BLK_STATUS.READY _ (by decide)

theorem State.lanesState_persisted (s : State) (g st : Nat) : Persisted s (s.lanesState g st) :=
  Persisted.foldl _ (fun s k => Persisted.ite _ (Persisted.refl s)
    ((Persisted.refl s).wr (F.BLK_LANE.STATE (25 * g + k)) st (by show 0x161000 + 0x8 * (25 * g + k) ≠ 0x8; omega))) _ _

theorem State.setSpare_persisted (s : State) (g j : Nat) : Persisted s (s.setSpare g j) :=
  ((Persisted.refl s).wr F.BLK_STATUS.SPARE _ (by decide)).wr (F.BLK_LANE.LOGICAL (25 * g + 24)) j
    (by show 0x161000 + 0x8 * (25 * g + 24) ≠ 0x8; omega)

theorem State.trimDrop_persisted (s : State) (g : Nat) : Persisted s (s.trimDrop g) := by
  unfold State.trimDrop
  split
  · exact Persisted.refl s
  · rename_i t _
    obtain ⟨u, hu⟩ : ∃ u, u = if t.phase = 1 then s.setCodes g t.lane t.start else s := ⟨_, rfl⟩
    have hcodes : Persisted s u := by
      rw [hu]
      exact Persisted.ite _ ((Persisted.refl s).wr (F.CAL_TX.CODES (25 * g + t.lane)) _
        (by show 0x240100 + 0x8 * (25 * g + t.lane) ≠ 0x8; omega)) (Persisted.refl s)
    have hnone : Persisted u (u.setTrim g none) := ⟨rfl, rfl, rfl⟩
    have hshow : ∀ v : State, Persisted v (v.trimShow g) := fun v =>
      ((Persisted.refl v).wr F.CAL_STATUS.LANE _ (by decide)).wr F.CAL_STATUS.GROUPS _ (by decide)
    dsimp only
    rw [← hu]
    exact ((hcodes.trans hnone).trans (hshow _)).trans (Persisted.of_ran (State.runCheck_ran _))

theorem State.trimAbandon_persisted (s : State) (g : Nat) : Persisted s (s.trimAbandon g) := by
  obtain ⟨u, hu⟩ : ∃ u, u = if (s.trim g).isSome then ((s.trimDrop g).set1 F.CAL_ERR.ABANDONED).incSat F.CAL_COUNTS.ABANDONED else s := ⟨_, rfl⟩
  have hdrop : Persisted s u := by
    rw [hu]
    exact Persisted.ite _ (((s.trimDrop_persisted g).wr F.CAL_ERR.ABANDONED _ (by decide)).wr F.CAL_COUNTS.ABANDONED _ (by decide))
      (Persisted.refl s)
  have hclear : Persisted u { u with cal := { u.cal with rx := u.cal.rx.set g none, rxStep := u.cal.rxStep.set g none } } := ⟨rfl, rfl, rfl⟩
  unfold State.trimAbandon
  dsimp only
  rw [← hu]
  exact (hdrop.trans hclear).trans (Persisted.of_ran (State.runCheck_ran _))

theorem State.putGrp_persisted (s : State) (g : Nat) (x : BlkGrp) : Persisted s (s.putGrp g x) := ⟨rfl, rfl, rfl⟩

theorem State.grpDisable_persisted (s : State) (g : Nat) : Persisted s (s.grpDisable g) := by
  unfold State.grpDisable
  refine Persisted.ite _ (Persisted.refl s) ?_
  dsimp only
  have hput := (s.trimAbandon_persisted g).trans (State.putGrp_persisted _ g { s.grp g with
    backLock := false
    swap := if (s.grp g).swap.any (fun (w : LaneSwap) => w.good) then (s.grp g).swap else none
    carried := if (s.grp g).good then (s.grp g).carried else none })
  generalize State.putGrp _ _ _ = u at hput ⊢
  obtain ⟨v, hv⟩ : ∃ v, v = if ((s.grp g).good || (s.grp g).swap.any (fun (w : LaneSwap) => w.good)) = true then u else u.setSpare g 31 := ⟨_, rfl⟩
  have hspare : Persisted s v := by
    rw [hv]
    exact Persisted.ite _ hput (hput.trans (u.setSpare_persisted g 31))
  rw [← hv]
  refine Persisted.trans (Persisted.wr ((hspare.trans (v.setGrpState_persisted g 8)).trans (State.lanesState_persisted _ g 0)) (F.BLK_LANE.STATE (100 + g)) 0
    (by show 0x161000 + 0x8 * (100 + g) ≠ 0x8; omega)) (Persisted.foldl _ (fun s k => ?_) _ _)
  exact (Persisted.refl s).wr (F.BLK_LANE.LOCKED (25 * g + k)) 0 (by show 0x161000 + 0x8 * (25 * g + k) ≠ 0x8; omega)

theorem State.blkDisable_persisted (s : State) : Persisted s s.blkDisable := by
  unfold State.blkDisable
  have hoff := ((Persisted.refl s).wr F.BLK_CTL.ENABLE 0 (by decide)).wr F.BLK_STATUS.PENDING_ENABLE 0 (by decide)
  dsimp only
  refine Persisted.trans ?_ (Persisted.foldl _ State.grpDisable_persisted _ _)
  exact Persisted.trans hoff ⟨rfl, rfl, rfl⟩

end Sys2Proof.Machine
end

section
/-! SUPPORT. The axes disabled (R249, R252), and STORAGE entered (R312). -/
namespace Sys2Proof.Machine

/-! ### The axes -/

/-- The blocks that a stop of the axes by a disable writes: AXM and DOC. -/
def axisBlocks (b : Nat) : Bool := b = 0x1B || b = 0x20

/-- A step of a stop of the axes: the axes' own state, and registers of their blocks. -/
structure AxStopped (s t : State) : Prop where
  parts : t = { s with regs := t.regs, axm := t.axm }
  outside : regsOutside axisBlocks s t

namespace AxStopped

variable {s t u : State}

theorem refl (s : State) : AxStopped s s := ⟨rfl, regsOutside_refl⟩

theorem trans (h : AxStopped s t) (h' : AxStopped t u) : AxStopped s u := by
  obtain ⟨hparts, hout⟩ := h
  obtain ⟨hparts', hout'⟩ := h'
  exact ⟨by rw [hparts', hparts], regsOutside_trans hout hout'⟩

theorem wr (h : AxStopped s t) (f : Field) (v : Nat) (hf : axisBlocks (f.off / 0x10000) = true) : AxStopped s (t.wr f v) :=
  h.trans ⟨rfl, regsOutside_wr _ _ regsOutside_refl hf⟩

theorem ite (c : Prop) [Decidable c] (h : AxStopped s t) (h' : AxStopped s u) : AxStopped s (if c then t else u) := by
  split
  · exact h
  · exact h'

theorem foldl {α : Type} (f : State → α → State) (l : List α) (hf : ∀ s a, a ∈ l → AxStopped s (f s a)) (s : State) : AxStopped s (l.foldl f s) := by
  induction l generalizing s with
  | nil => exact refl s
  | cons a l ih => exact (hf s a List.mem_cons_self).trans (ih (fun s b hb => hf s b (List.mem_cons_of_mem _ hb)) _)

theorem persisted (h : AxStopped s t) : Persisted s t := by
  obtain ⟨hparts, hout⟩ := h
  exact ⟨by rw [hparts], by rw [hparts], hout _ (by decide)⟩

end AxStopped

theorem maskAxes_lt {m a : Nat} (h : a ∈ maskAxes m) : a < 6 := by
  unfold maskAxes axes at h
  have := List.mem_of_mem_filter h
  simp only [List.mem_cons, List.not_mem_nil, or_false] at this
  omega

/-- An axis of the running command that stops loses MOVING, and HOMED where it ran faster than VS. -/
def State.axRunEnds (s : State) (r : AxRun) : State :=
  (maskAxes r.mask).foldl (fun s a => (s.whenD (r.fast a) (fun s => s.clr (F.AXM_POS.HOMED a))).clr (F.AXM_POS.MOVING a)) s

theorem State.axRunEnds_only (s : State) (r : AxRun) : RegsOnly s (s.axRunEnds r) :=
  RegsOnly.foldl _ _ (fun s a => RegsOnly.wr (by unfold State.whenD; exact RegsOnly.ite _ ((RegsOnly.refl s).wr _ _) (RegsOnly.refl s)) _ _) s

theorem State.axRunEnds_stopped (s : State) (r : AxRun) : AxStopped s (s.axRunEnds r) :=
  AxStopped.foldl _ _ (fun s a ha => by
    have hblock : axisBlocks ((0x1B0300 + 0x8 * a) / 0x10000) = true := by
      have := maskAxes_lt ha
      rw [show (0x1B0300 + 0x8 * a) / 0x10000 = 0x1B by omega]
      rfl
    refine AxStopped.wr ?_ (F.AXM_POS.MOVING a) 0 hblock
    unfold State.whenD
    exact AxStopped.ite _ ((AxStopped.refl s).wr (F.AXM_POS.HOMED a) 0 hblock) (AxStopped.refl s)) s

theorem State.axRunEnds_reg (s : State) (r : AxRun) (o : Nat) (ho : o < 0x1B0300) : (s.axRunEnds r).reg o = s.reg o := by
  have hstep : ∀ (l : List Nat) (s : State), (l.foldl (fun s a => (s.whenD (r.fast a) (fun s => s.clr (F.AXM_POS.HOMED a))).clr (F.AXM_POS.MOVING a)) s).reg o =
      s.reg o := by
    intro l
    induction l with
    | nil => exact fun _ => rfl
    | cons a l ih =>
      intro s
      refine (ih _).trans ((State.reg_wr_ne _ _ _ _ (by show o ≠ 0x1B0300 + 0x8 * a; omega)).trans ?_)
      unfold State.whenD
      split
      · exact State.reg_wr_ne _ _ _ _ (by show o ≠ 0x1B0300 + 0x8 * a; omega)
      · rfl
  exact hstep _ s

/-- ENA_N drops change no register, and no command or queue of the axes. -/
theorem State.axDrop_kept (s : State) (all : Bool) : ∀ (l : List Nat), ∃ e, s.axDrop l all = { s with axm := { s.axm with enaHigh := e } } := by
  have hstep : ∀ (l : List Nat) (e : List Bool), ∃ e', l.foldl (fun s a => if all || s.bit (F.AXM_CFG.ENA_STOP a) then s.axEna a true else s)
      { s with axm := { s.axm with enaHigh := e } } = { s with axm := { s.axm with enaHigh := e' } } := by
    intro l
    induction l with
    | nil => exact fun e => ⟨e, rfl⟩
    | cons a l ih =>
      intro e
      rw [List.foldl_cons]
      split
      · exact ih (e.set a (true || !s.axPresent a))
      · exact ih e
  exact fun l => hstep l s.axm.enaHigh

/-- The command and the axes halted: no command runs, and no register below those of the axes changes. -/
theorem State.axHalt_spec (s : State) (stopped : List Nat) (all : Bool) : ∃ t, s.axHalt stopped all = t ∧ AxStopped s t ∧ t.axm.run = none ∧
    t.axm.queue = s.axm.queue ∧ ∀ o, o < 0x1B0300 → t.reg o = s.reg o := by
  obtain ⟨u, hu⟩ : ∃ u, u = match s.axm.run with
    | none => s
    | some r => s.axRunEnds r := ⟨_, rfl⟩
  have hrun : AxStopped s u ∧ u.axm.queue = s.axm.queue ∧ ∀ o, o < 0x1B0300 → u.reg o = s.reg o := by
    rw [hu]
    split
    · exact ⟨AxStopped.refl s, rfl, fun _ _ => rfl⟩
    · rename_i r _
      exact ⟨s.axRunEnds_stopped r, by rw [s.axRunEnds_only r], fun o ho => s.axRunEnds_reg r o ho⟩
  obtain ⟨hstop, hqueue, hreg⟩ := hrun
  have hhalt : s.axHalt stopped all = { u with axm := { u.axm with run := none } }.axDrop stopped all := by
    rw [hu]
    rfl
  obtain ⟨e, he⟩ := { u with axm := { u.axm with run := none } }.axDrop_kept all stopped
  rw [hhalt, he]
  refine ⟨_, rfl, hstop.trans ⟨rfl, fun _ _ => rfl⟩, rfl, hqueue, hreg⟩

theorem State.axFlush_stopped (s : State) : AxStopped s s.axFlush :=
  ⟨rfl, regsOutside_wr _ _ regsOutside_refl (by decide)⟩

theorem State.axHold_stopped (s : State) (cause : Nat) : AxStopped s (s.axHold cause) :=
  ⟨rfl, regsOutside_wr _ _ regsOutside_refl (by decide)⟩

/-- A disable is marked as a stop of no fault. -/
theorem State.axMark_disable (s : State) : Rewritten [F.AXM_LAST_STOP.AXES.off, F.AXM_COUNTS.STOPS.off, (F.DOC_ROUTE.PENDING 15).off] s
    (s.axMark axes 7 0) := by
  unfold State.axMark State.incSat State.addSat
  dsimp only
  rw [State.source_eq _ _ (by decide)]
  exact (((((((Rewritten.refl _ s).wr F.AXM_LAST_STOP.AXES _ (by decide)).wr F.AXM_LAST_STOP.CAUSE 7 (by decide)).wr F.AXM_LAST_STOP.AXIS 0 (by decide)).wr
    F.AXM_LAST_STOP.TIME_NS _ (by decide)).wr F.AXM_COUNTS.STOPS _ (by decide)).wr (F.DOC_ROUTE.PENDING 15) 1 (by decide))

/-- A list of registers of the blocks of a stop. -/
theorem Rewritten.axStopped {l : List Nat} {s t : State} (h : Rewritten l s t) (hl : l.all (fun o => axisBlocks (o / 0x10000)) = true) : AxStopped s t := by
  obtain ⟨honly, happart⟩ := h
  refine ⟨by rw [honly], fun o ho => happart o (fun hmem => ?_)⟩
  rw [List.all_eq_true.1 hl o hmem] at ho
  exact absurd ho (by decide)

/-- The axes halted and held by a disable. -/
theorem State.axStop_disable (s : State) : ∃ t, s.axStop axes 7 0 = t ∧ AxStopped s t ∧ t.axm.run = none ∧ t.axm.queue = [] ∧
    (s.rd F.AXM_STATUS.STATE < 3 → t.rd F.AXM_STATUS.STATE = 3) ∧ t.reg 0x1B0200 = s.reg 0x1B0200 := by
  obtain ⟨u, hu, hstop, hrun, -, hreg⟩ := s.axHalt_spec axes false
  obtain ⟨v, hv⟩ : ∃ v, v = u.axFlush := ⟨_, rfl⟩
  obtain ⟨w, hw⟩ : ∃ w, w = v.axHold 7 := ⟨_, rfl⟩
  have hflush := u.axFlush_stopped
  have hhold := v.axHold_stopped 7
  have hmark := w.axMark_disable
  have heq : s.axStop axes 7 0 = w.axMark axes 7 0 := by
    rw [hw, hv, ← hu]
    rfl
  rw [heq]
  generalize w.axMark axes 7 0 = t at hmark
  have hvstate : v.rd F.AXM_STATUS.STATE = s.rd F.AXM_STATUS.STATE := by
    rw [hv]
    refine (State.rd_wr_apart _ _ _ _ _ _ _ (by decide)).trans ?_
    unfold State.rd
    exact congrArg _ (hreg 0x1B0250 (by decide))
  rw [← hv] at hflush
  rw [← hw] at hhold
  refine ⟨t, rfl, ((hstop.trans hflush).trans hhold).trans (hmark.axStopped (by decide)), ?_, ?_, fun hlow => ?_, ?_⟩
  · rw [hmark.only, hw]
    show v.axm.run = none
    rw [hv]
    exact hrun
  · rw [hmark.only, hw]
    show v.axm.queue = []
    rw [hv]
    rfl
  · rw [regsApart_rd hmark.apart _ _ _ (by decide), hw]
    refine (State.rd_wr_same _ _ _ _ _ (by decide)).trans ?_
    unfold State.axStateAfter
    rw [hvstate, if_neg (by simp; omega), if_pos (by simp)]
    rfl
  · rw [hmark.apart _ (by decide), hw]
    refine (State.reg_wr_ne _ _ _ _ (by decide)).trans ?_
    show v.reg _ = _
    rw [hv]
    exact (State.reg_wr_ne _ _ _ _ (by decide)).trans (hreg _ (by decide))

theorem State.axDisable_eq (s : State) : s.axDisable = if (s.wr F.AXM_CTL.ENABLE 0).axFlush.bit F.AXM_STATUS.PENDING_ENABLE then
      (s.wr F.AXM_CTL.ENABLE 0).axFlush.wr F.AXM_STATUS.PENDING_ENABLE 0
    else if 3 ≤ (s.wr F.AXM_CTL.ENABLE 0).axFlush.rd F.AXM_STATUS.STATE then (s.wr F.AXM_CTL.ENABLE 0).axFlush
    else (s.wr F.AXM_CTL.ENABLE 0).axFlush.axStop axes 7 0 := rfl

theorem State.axOff_stopped (s : State) : AxStopped s (s.wr F.AXM_CTL.ENABLE 0).axFlush :=
  ((AxStopped.refl s).wr F.AXM_CTL.ENABLE 0 (by decide)).trans (State.axFlush_stopped _)

theorem State.axDisable_stopped (s : State) : AxStopped s s.axDisable := by
  have hoff := s.axOff_stopped
  rw [State.axDisable_eq]
  generalize (s.wr F.AXM_CTL.ENABLE 0).axFlush = u at hoff ⊢
  obtain ⟨t, ht, hstop, -⟩ := u.axStop_disable
  refine AxStopped.ite _ (hoff.wr F.AXM_STATUS.PENDING_ENABLE 0 (by decide)) (AxStopped.ite _ hoff ?_)
  rw [ht]
  exact hoff.trans hstop

/-- A disable of the axes in service leaves them DISABLING, with no command and an empty queue. -/
theorem State.axDisable_spec {s : State} (hstate : s.rd F.AXM_STATUS.STATE < 3) (hpend : s.bit F.AXM_STATUS.PENDING_ENABLE = false) :
    ∃ t, s.axDisable = t ∧ AxStopped s t ∧ t.rd F.AXM_CTL.ENABLE = 0 ∧ t.rd F.AXM_STATUS.STATE = 3 ∧ t.axm.run = none ∧ t.axm.queue = [] := by
  have hstopped := s.axDisable_stopped
  obtain ⟨u, hu⟩ : ∃ u, u = (s.wr F.AXM_CTL.ENABLE 0).axFlush := ⟨_, rfl⟩
  have hrd : ∀ l w, 9 ≤ l ∨ l + w ≤ 4 → u.rd ⟨0x1B0250, l, w⟩ = s.rd ⟨0x1B0250, l, w⟩ := fun l w h => by
    rw [hu]
    exact (State.rd_wr_apart _ _ _ _ _ _ _ (by omega)).trans ((State.rd_mk ..).trans (State.rd_wr_off _ _ _ _ _ _ _ _ (by decide)))
  have hoff : u.rd F.AXM_CTL.ENABLE = 0 := by
    rw [hu]
    exact (State.rd_wr_off _ _ _ _ _ _ _ _ (by decide)).trans ((State.rd_mk ..).trans (State.rd_wr_same _ _ _ _ _ (by decide)))
  obtain ⟨t, ht, -, hrun, hqueue, hthree, hctl⟩ := u.axStop_disable
  have hpend' : u.bit F.AXM_STATUS.PENDING_ENABLE = false := (congrArg (· != 0) (hrd 3 1 (by decide))).trans hpend
  have heq : s.axDisable = t := by
    rw [State.axDisable_eq, ← hu, hpend', if_neg Bool.false_ne_true, if_neg (by rw [show u.rd F.AXM_STATUS.STATE = _ from hrd 0 3 (by decide)]; exact Nat.not_le.2 hstate), ht]
  rw [heq] at hstopped ⊢
  refine ⟨t, rfl, hstopped, ?_, hthree (by rw [hrd 0 3 (by decide)]; exact hstate), hrun, hqueue⟩
  rw [← hoff]
  unfold State.rd
  rw [hctl]

/-! ### STORAGE -/

theorem rowAt_status : (rowAt 0x8).map (fun x => x.1.cat) = some 0 := by decide

theorem State.catReset_persisted (s : State) : Persisted s s.catReset := by
  unfold State.catReset
  refine Persisted.foldl _ (fun s e => ?_) _ _
  split
  · exact Persisted.refl s
  · rename_i r i hrow
    by_cases h : e.1 = 0x8
    · have hcat : r.cat = 0 := by
        have := rowAt_status
        rw [← h, hrow] at this
        exact Option.some.inj this
      refine ⟨rfl, rfl, ?_⟩
      rw [h, hcat]
      refine (State.reg_setReg_same _ _ _).trans ?_
      simp only [BitVec.and_zero, BitVec.or_zero]
      exact BitVec.and_allOnes
    · exact (Persisted.refl s).setReg _ _ h

/-- The states of the Keeper and the Docents, the record and the mark of STORAGE. -/
theorem State.storageMark_spec (s : State) : ∃ t, s.storageMark = t ∧ RegsOnly s t ∧ t.mode = s.mode ∧ t.rd F.BOOT_REASON.STORAGE = 1 ∧
    t.rd F.BOOT_REASON.LAST_FAIL = s.boot.lastFail % 256 ∧ t.rd F.KPR_STATUS.STATE = 2 ∧ t.rd F.DOC_STATUS.STATE = 0 := by
  obtain ⟨u, hu⟩ : ∃ u, u = ((s.wr F.BOOT_REASON.STORAGE 1).wr F.KPR_STATUS.STATE 2).wr F.DOC_STATUS.STATE 0 := ⟨_, rfl⟩
  have honly : RegsOnly s u := by
    rw [hu]
    exact (((RegsOnly.refl s).wr _ _).wr _ _).wr _ _
  obtain ⟨t, ht, htonly, happart, -, hlast, -, -, hstorage⟩ := u.attemptShow_spec
  refine ⟨t, by rw [← ht, hu]; rfl, honly.trans htonly, ?_, ?_, hlast.trans (by rw [honly]), ?_, ?_⟩
  · refine (regsApart_rd happart _ _ _ (by decide)).trans ?_
    rw [hu, State.rd_wr_off _ _ _ _ _ _ _ _ (by decide), State.rd_wr_off _ _ _ _ _ _ _ _ (by decide), State.rd_wr_off _ _ _ _ _ _ _ _ (by decide)]
    rfl
  · rw [hstorage, hu, State.rd_wr_off _ _ _ _ _ _ _ _ (by decide), State.rd_wr_off _ _ _ _ _ _ _ _ (by decide)]
    exact State.rd_wr_same _ _ _ _ _ (by decide)
  · rw [regsApart_rd happart _ _ _ (by decide), hu, State.rd_wr_off _ _ _ _ _ _ _ _ (by decide)]
    exact State.rd_wr_same _ _ _ _ _ (by decide)
  · rw [regsApart_rd happart _ _ _ (by decide), hu]
    exact State.rd_wr_same _ _ _ _ _ (by decide)

/-- The device stopped for STORAGE, before its mark. -/
def State.storageHeld (s : State) : State :=
  let s := ((s.leavesDrop.storageLink.blkDisable.axDisable).catReset)
  let s := [0, 1, 2, 3, 4, 5].foldl (fun s a => s.axEna a true) s
  { s.clr F.TWN_STATUS.AUTH with
    pin := { s.pin with failOut := true }
    saf := { s.saf with wdogOn := false, groupRunning := false, overdue := false }
    boot := { s.boot with regions := [], runHold := false }
    twn := { s.twn with demand := false, handover := none } }

theorem State.storageHeld_spec (s : State) : ∃ t, s.storageHeld = t ∧ t.boot = { s.boot with regions := [], runHold := false } ∧
    t.acl.mram = s.acl.mram ∧ t.mode = s.mode ∧ t.pin.failOut = true := by
  have hheld : Persisted s ([0, 1, 2, 3, 4, 5].foldl (fun s a => s.axEna a true) ((s.leavesDrop.storageLink.blkDisable.axDisable).catReset)) :=
    ((((s.leavesDrop_persisted.trans (State.storageLink_persisted _)).trans (State.blkDisable_persisted _)).trans
      (State.axDisable_stopped _).persisted).trans (State.catReset_persisted _)).trans (Persisted.foldl (fun s a => s.axEna a true) (fun _ _ => ⟨rfl, rfl, rfl⟩) _ _)
  unfold State.storageHeld
  dsimp only
  generalize [0, 1, 2, 3, 4, 5].foldl _ _ = u at hheld ⊢
  obtain ⟨hboot, hmram, hmode⟩ := hheld
  refine ⟨_, rfl, by rw [hboot], hmram, ?_, rfl⟩
  unfold State.mode
  refine (State.rd_mk ..).trans ((State.rd_wr_off _ _ _ _ _ _ _ _ (by decide)).trans ?_)
  unfold State.rd
  exact congrArg _ hmode

theorem State.storageEnter_eq (s : State) : s.storageEnter = s.storageHeld.storageMark := rfl

/-- A start without a key leads to STORAGE. -/
theorem State.failStart_noKey {s : State} (hmode : s.mode = 1) (hrest : s.saf.acting = false) (hquiet : s.bit F.BOOT_STATUS.QUIESCED = false) :
    ∃ t, s.failStart 1 0 = t ∧ t.mode = 4 ∧ t.rd F.BOOT_REASON.STORAGE = 1 ∧ t.rd F.BOOT_REASON.LAST_FAIL = 1 ∧
      t.boot.attempts = ((1, s.boot.aonSec) :: s.attemptsKnown).take 3 ∧
      (s.boot.mramFitted = true → memRead t.acl.mram 0 192 = attemptBytes 1 t.boot.attempts) ∧
      t.rd F.KPR_STATUS.STATE = 2 ∧ t.rd F.DOC_STATUS.STATE = 0 ∧ t.pin.failOut = true := by
  have hlogged := s.aclLog_logged 0x0104 (leBytes 1 1 ++ leBytes 1 (s.failStep 1) ++ leBytes 2 0 ++ leBytes 4 0)
  have hboot := (s.failRecord_carried 1 0).boot
  rw [State.failStart_fails 0 hmode hrest hquiet]
  have hmram : (s.failRecord 1 0).acl.mram = s.acl.mram := hlogged.parts.mram
  generalize s.failRecord 1 0 = v at hboot hmram
  have hknown : v.attemptsKnown = s.attemptsKnown := by
    unfold State.attemptsKnown State.attemptMram
    rw [hboot, hmram]
  obtain ⟨u, hu, hparts, hbytes, -⟩ := v.attemptPut_spec 1 (((1, v.boot.aonSec) :: v.attemptsKnown).take 3)
  obtain ⟨w, hw, hset⟩ := u.setMode_spec 4 (by decide)
  have hafter : (v.attemptAdd 1).afterFail 1 4 = w.storageEnter := by
    rw [show v.attemptAdd 1 = u from hu, ← hw]
    unfold State.afterFail
    simp only [decide_true, Bool.true_or, if_true, Bool.not_true, Bool.false_eq_true, if_false, show ¬ (4 : Nat) = 3 by decide]
  obtain ⟨x, hx, hxboot, hxmram, hxmode, hpin⟩ := w.storageHeld_spec
  obtain ⟨t, ht, honly, htmode, hstorage, hlast, hkpr, hdoc⟩ := x.storageMark_spec
  have hwboot : w.boot = { s.boot with attempts := ((1, s.boot.aonSec) :: s.attemptsKnown).take 3, lastFail := 1, aonLost := false } := by
    rw [hset.carried.boot, hparts, hknown, hboot]
  have htboot : t.boot = x.boot := by rw [honly]
  rw [hafter, State.storageEnter_eq, hx, ht]
  refine ⟨t, rfl, htmode.trans (hxmode.trans hset.mode), hstorage, hlast.trans ?_, ?_, fun hfit => ?_, hkpr, hdoc, by rw [honly, hpin]⟩
  · rw [hxboot, hwboot]
    rfl
  · rw [htboot, hxboot, hwboot]
  · rw [htboot, hxboot, hwboot, show t.acl.mram = x.acl.mram by rw [honly], hxmram, hset.mram, hbytes (by rw [hboot]; exact hfit), hknown, hboot]

end Sys2Proof.Machine
end

section
/-! SUPPORT. PREVIEW and RUN entered (R270, R306, R308, R309). -/
namespace Sys2Proof.Machine

/-! ### Notices -/

theorem State.sramWrite_parts (s : State) (a : Nat) (bs : List Byte) (mark : Bool) : s.sramWrite a bs mark =
    { s with sram := (s.sramWrite a bs mark).sram, sramErr := (s.sramWrite a bs mark).sramErr, sramPoison := (s.sramWrite a bs mark).sramPoison } := rfl

/-- A notice stands in the shared SRAM and raises source 19. -/
theorem State.notice_spec (s : State) (kind code tag : Nat) : ∃ t, s.notice kind code tag = t ∧
    t = { s with regs := t.regs, sram := t.sram, sramErr := t.sramErr, sramPoison := t.sramPoison } ∧
    t.rd (F.DOC_ROUTE.PENDING 19) = 1 ∧ regsApart [F.DOC_STATUS.NOTICE_NEXT.off, (F.DOC_ROUTE.PENDING 19).off] s t := by
  unfold State.notice
  rw [State.source_eq _ _ (by decide)]
  generalize s.rd F.DOC_STATUS.NOTICE_NEXT = n
  generalize s.rd F.DOC_CFG.NOTICE * 512 + n % 16 * 32 = a
  generalize leBytes 1 kind ++ leBytes 1 code ++ leBytes 2 tag ++ List.replicate 28 0#8 = bs
  have hparts := s.sramWrite_parts a bs false
  dsimp only
  generalize s.sramWrite a bs false = u at hparts
  have honly : RegsOnly u ((u.wr F.DOC_STATUS.NOTICE_NEXT (n + 1)).wr (F.DOC_ROUTE.PENDING 19) 1) := ((RegsOnly.refl u).wr _ _).wr _ _
  have happart : regsApart [F.DOC_STATUS.NOTICE_NEXT.off, (F.DOC_ROUTE.PENDING 19).off] u
      ((u.wr F.DOC_STATUS.NOTICE_NEXT (n + 1)).wr (F.DOC_ROUTE.PENDING 19) 1) :=
    regsApart_wr _ _ (regsApart_wr _ _ regsApart_refl (by decide)) (by decide)
  have hpending : ((u.wr F.DOC_STATUS.NOTICE_NEXT (n + 1)).wr (F.DOC_ROUTE.PENDING 19) 1).rd (F.DOC_ROUTE.PENDING 19) = 1 :=
    State.rd_wr_same _ _ _ _ _ (by decide)
  generalize (u.wr F.DOC_STATUS.NOTICE_NEXT (n + 1)).wr (F.DOC_ROUTE.PENDING 19) 1 = t at honly happart hpending
  refine ⟨t, rfl, ?_, hpending, fun o ho => (happart o ho).trans ?_⟩
  · rw [honly, hparts]
  · rw [hparts]
    rfl

/-! ### PREVIEW -/

/-- The state that settles authority as PREVIEW begins, of a device that is not in a pair. -/
def State.previewed (s : State) : State :=
  { ((s.setMode 2).notice 4 2 0).wr F.TWN_STATUS.STATE 0 with
    pin := { s.pin with failOut := false }, slt := { s.slt with firstArm := true } }

theorem State.previewed_spec (s : State) : ∃ t, s.previewed = t ∧
    t = { s with regs := t.regs, sram := t.sram, sramErr := t.sramErr, sramPoison := t.sramPoison, hif := t.hif, acl := t.acl, ikl := t.ikl,
                 pin := { s.pin with failOut := false }, slt := { s.slt with firstArm := true } } ∧
    t.mode = 2 ∧ t.rd F.TWN_STATUS.AUTH = s.rd F.TWN_STATUS.AUTH ∧ t.bit F.TWN_CFG.MODE = s.bit F.TWN_CFG.MODE ∧
    t.rd (F.DOC_ROUTE.PENDING 19) = 1 := by
  obtain ⟨u, hu, hset⟩ := s.setMode_spec 2 (by decide)
  obtain ⟨v, hv, hparts, hpending, happart⟩ := u.notice_spec 4 2 0
  unfold State.previewed
  rw [hu, hv]
  have hkept : ∀ o l w, o / 0x10000 = 0x1D → v.rd ⟨o, l, w⟩ = s.rd ⟨o, l, w⟩ := fun o l w ho => by
    unfold State.rd
    rw [happart o (by simp only [List.mem_cons, List.not_mem_nil, or_false]; omega), hset.kept o (by omega) (by omega)
      (by simp only [modeRegs, List.mem_cons, List.not_mem_nil, or_false]; omega)]
  refine ⟨_, rfl, ?_, ?_, ?_, ?_, ?_⟩
  · rw [hparts, hset.parts]
    rfl
  · unfold State.mode
    refine (State.rd_mk ..).trans ((State.rd_wr_off _ _ _ _ _ _ _ _ (by decide)).trans ?_)
    exact (regsApart_rd happart _ _ _ (by decide)).trans hset.mode
  · exact (State.rd_mk ..).trans ((State.rd_wr_apart _ _ _ _ _ _ _ (by decide)).trans (hkept _ _ _ (by decide)))
  · exact congrArg (· != 0) ((State.rd_mk ..).trans ((State.rd_wr_off _ _ _ _ _ _ _ _ (by decide)).trans (hkept _ _ _ (by decide))))
  · exact (State.rd_mk ..).trans ((State.rd_wr_off _ _ _ _ _ _ _ _ (by decide)).trans hpending)

theorem exec_previewEntry {s : State} (hready : s.previewReady = true) (hsolo : s.bit F.TWN_CFG.MODE = false) :
    exec .previewEntry s = .next s.previewed.authSettle := by
  obtain ⟨u, hu, hset⟩ := s.setMode_spec 2 (by decide)
  obtain ⟨v, hv, hparts, -, happart⟩ := u.notice_spec 4 2 0
  have hbit : v.bit F.TWN_CFG.MODE = false := by
    rw [← hsolo]
    unfold State.bit State.rd
    rw [happart _ (by decide), hset.kept _ (by decide) (by decide) (by decide)]
  have hpin : v.pin = s.pin ∧ v.slt = s.slt := by
    rw [hparts, hset.parts]
    exact ⟨rfl, rfl⟩
  show execPreviewEntry s = _
  unfold execPreviewEntry State.previewed
  rw [if_neg (by simp [hready]), hu, hv]
  dsimp only
  rw [hbit, if_neg Bool.false_ne_true, State.wr_pin, hpin.1, show (v.wr F.TWN_STATUS.STATE 0).slt = v.slt from rfl, hpin.2]
  rfl

/-- A device alone takes authority as PREVIEW begins. -/
theorem State.preview_alone {s : State} (hready : s.previewReady = true) (hsolo : s.bit F.TWN_CFG.MODE = false) (hlow : s.twn.peerLow = true)
    (hauth : s.hasAuth = false) :
    runsTo (.previewEntry) s (fun t =>
      (t.mode, t.rd F.TWN_STATUS.AUTH, t.rd F.TWN_STATUS.STATE) = (2, 1, 0) ∧
      (t.pin.failOut, t.slt.firstArm) = (false, true) ∧
      (t.ddr, t.hostMem) = (s.ddr, s.hostMem) ∧
      (t.rd (F.DOC_ROUTE.PENDING 19), t.rd (F.DOC_ROUTE.PENDING 26)) = (1, 1)) := by
  obtain ⟨u, hu, hparts, hmode, hkeep, hbit, hpending⟩ := s.previewed_spec
  have hrest : u.saf.acting = false := by
    unfold State.previewReady at hready
    simp only [Bool.and_eq_true, Bool.not_eq_true'] at hready
    rw [hparts]
    exact hready.1.1.1.1.1.2
  have hruns : u.pairRuns = true := by
    unfold State.pairRuns
    rw [hmode, hrest]
    rfl
  have hulow : u.twn.peerLow = true := by rw [hparts]; exact hlow
  have huauth : u.hasAuth = false := (congrArg (· != 0) hkeep).trans hauth
  obtain ⟨t, ht, ht1, htstate, ht26, -, -, htparts, htapart⟩ := u.assertAuth_spec 0 (by decide)
  have hsettle : u.authSettle = t := by
    unfold State.authSettle
    rw [if_neg (by simp [hruns, hulow, huauth]), if_pos (by rw [hbit, hsolo]; rfl), ht]
  refine ⟨t, by rw [exec_previewEntry hready hsolo, hu, hsettle], ?_, ?_, ?_, ?_⟩
  · rw [show t.mode = u.mode from regsApart_rd htapart _ _ _ (by decide), hmode, ht1, htstate]
  · rw [htparts, hparts]
  · rw [htparts, hparts]
  · rw [regsApart_rd htapart (F.DOC_ROUTE.PENDING 19).off 4 1 (by decide), ht26]
    exact congrArg (·, 1) hpending

end Sys2Proof.Machine
end

section
/-! SUPPORT. The channels at a change of mode, RUN entered, and a quiesce (R215, R309, R318). -/
namespace Sys2Proof.Machine

/-! ### Self-refresh -/

/-- A step of the channels' rest: the channels, the counters, the calibration and registers other than those a restart clears. -/
structure Rested (s t : State) : Prop where
  parts : t = { s with regs := t.regs, mem := { s.mem with ch := t.mem.ch }, pmc := t.pmc, cal := t.cal, free := t.free }
  kept : ∀ o, o < 0x180000 ∨ 0x1A0000 ≤ o ∧ o < 0x230000 → t.reg o = s.reg o
  map : t.rd F.MEM_STATUS.FULL_MAP = s.rd F.MEM_STATUS.FULL_MAP
  pos : t.rd F.SCR_STATUS.POS = s.rd F.SCR_STATUS.POS

namespace Rested

variable {s t u : State}

theorem refl (s : State) : Rested s s := ⟨rfl, fun _ _ => rfl, rfl, rfl⟩

theorem trans (h : Rested s t) (h' : Rested t u) : Rested s u :=
  ⟨by rw [h'.parts, h.parts], fun o ho => (h'.kept o ho).trans (h.kept o ho), h'.map.trans h.map, h'.pos.trans h.pos⟩

theorem wr (h : Rested s t) (f : Field) (v : Nat) (hf : 0x180000 ≤ f.off ∧ f.off < 0x1A0000) (hmap : f.off ≠ 0x180038) (hpos : f.off ≠ 0x190010) :
    Rested s (t.wr f v) :=
  h.trans ⟨rfl, fun o ho => State.reg_wr_ne _ _ _ _ (by omega), State.rd_wr_off _ _ _ _ _ _ _ _ hmap, State.rd_wr_off _ _ _ _ _ _ _ _ hpos⟩

theorem foldl {α : Type} (f : State → α → State) (hf : ∀ s a, Rested s (f s a)) : ∀ (l : List α) (s : State), Rested s (l.foldl f s)
  | [], s => refl s
  | a :: l, s => (hf s a).trans (foldl f hf l (f s a))

end Rested

/-- What the rest of one channel leaves of the states of the channels. -/
structure ChannelAt (c st : Nat) (s t : State) : Prop where
  rested : Rested s t
  state : t.rd (F.MEM_CH_STATUS.STATE c) = st
  others : ∀ k, k < 6 → k ≠ c → t.rd (F.MEM_CH_STATUS.STATE k) = s.rd (F.MEM_CH_STATUS.STATE k)

/-- The mark of the resting channels and the walk of the scrubber. -/
theorem State.restShown (s : State) (c : Nat) (b : Bool) : Rested s (s.maskPut F.MEM_STATUS.SELF_REFRESH c b).scrubShow ∧
    ∀ k, (s.maskPut F.MEM_STATUS.SELF_REFRESH c b).scrubShow.reg (0x181000 + 0x800 * k) = s.reg (0x181000 + 0x800 * k) := by
  obtain ⟨u, hu⟩ : ∃ u, u = s.maskPut F.MEM_STATUS.SELF_REFRESH c b := ⟨_, rfl⟩
  have hmask : Rested s u ∧ ∀ k, u.reg (0x181000 + 0x800 * k) = s.reg (0x181000 + 0x800 * k) := by
    rw [hu]
    unfold State.maskPut
    dsimp only
    exact ⟨⟨rfl, fun o ho => State.reg_wr_ne _ _ _ _ (by show o ≠ 0x180038; omega), State.rd_wr_apart _ _ _ _ _ _ _ (by decide),
      State.rd_wr_off _ _ _ _ _ _ _ _ (by decide)⟩, fun k => State.reg_wr_ne _ _ _ _ (by show 0x181000 + 0x800 * k ≠ 0x180038; omega)⟩
  obtain ⟨hrest, hreg⟩ := hmask
  rw [← hu, State.scrubShow_eq]
  split
  · exact ⟨hrest.trans ⟨rfl, fun o ho => State.reg_wr_ne _ _ _ _ (by show o ≠ 0x190010; omega), State.rd_wr_off _ _ _ _ _ _ _ _ (by decide),
      State.rd_wr_apart _ _ _ _ _ _ _ (by decide)⟩,
      fun k => (State.reg_wr_ne _ _ _ _ (by show 0x181000 + 0x800 * k ≠ 0x190010; omega)).trans (hreg k)⟩
  · exact ⟨hrest, hreg⟩

/-- A channel put in a state, with its mark. -/
theorem State.channelPut (s : State) (c st : Nat) (b : Bool) (hc : c < 6) (hst : st < 8) :
    ChannelAt c st s ((s.wr (F.MEM_CH_STATUS.STATE c) st).maskPut F.MEM_STATUS.SELF_REFRESH c b).scrubShow := by
  obtain ⟨hrest, hreg⟩ := (s.wr (F.MEM_CH_STATUS.STATE c) st).restShown c b
  have hput : Rested s (s.wr (F.MEM_CH_STATUS.STATE c) st) := (Rested.refl s).wr _ _ (by show 0x180000 ≤ 0x181000 + 0x800 * c ∧ 0x181000 + 0x800 * c < 0x1A0000; omega)
    (by show 0x181000 + 0x800 * c ≠ 0x180038; omega) (by show 0x181000 + 0x800 * c ≠ 0x190010; omega)
  have hrd : ∀ k, (((s.wr (F.MEM_CH_STATUS.STATE c) st).maskPut F.MEM_STATUS.SELF_REFRESH c b).scrubShow).rd (F.MEM_CH_STATUS.STATE k) =
      (s.wr (F.MEM_CH_STATUS.STATE c) st).rd (F.MEM_CH_STATUS.STATE k) := fun k => by
    unfold State.rd
    rw [hreg k]
  refine ⟨hput.trans hrest, ?_, fun k hk hne => ?_⟩
  · rw [hrd]
    exact (State.rd_wr_same _ _ _ _ _ (by decide)).trans (Nat.mod_eq_of_lt hst)
  · rw [hrd]
    exact State.rd_wr_off _ _ _ _ _ _ _ _ (by omega)

theorem State.restExit_at (s : State) (c : Nat) (hc : c < 6) : ChannelAt c 2 s (s.restExit c) := s.channelPut c 2 false hc (by decide)

/-- A step for each channel that stands in a state. -/
def channelsWhen (st : Nat) (f : State → Nat → State) (n : Nat) (s : State) : State :=
  (List.range n).foldl (fun s c => if s.rd (F.MEM_CH_STATUS.STATE c) = st then f s c else s) s

/-- Every channel that stood in one state stands in another. -/
theorem channelsWhen_spec {st new : Nat} {f : State → Nat → State} (hf : ∀ s c, c < 6 → ChannelAt c new s (f s c)) (s : State) : ∀ n, n ≤ 6 →
    Rested s (channelsWhen st f n s) ∧ ∀ c, c < 6 → (channelsWhen st f n s).rd (F.MEM_CH_STATUS.STATE c) =
      if c < n ∧ s.rd (F.MEM_CH_STATUS.STATE c) = st then new else s.rd (F.MEM_CH_STATUS.STATE c)
  | 0, _ => ⟨Rested.refl s, fun c _ => (if_neg (by omega)).symm⟩
  | n + 1, hn => by
    obtain ⟨hrest, hstate⟩ := channelsWhen_spec hf s n (by omega)
    have hstep : channelsWhen st f (n + 1) s =
        if (channelsWhen st f n s).rd (F.MEM_CH_STATUS.STATE n) = st then f (channelsWhen st f n s) n else channelsWhen st f n s := by
      unfold channelsWhen
      rw [List.range_succ, List.foldl_append]
      rfl
    rw [hstep]
    generalize channelsWhen st f n s = u at hrest hstate
    have hn' : u.rd (F.MEM_CH_STATUS.STATE n) = s.rd (F.MEM_CH_STATUS.STATE n) := (hstate n (by omega)).trans (if_neg (by omega))
    obtain ⟨hrested, hnew, hothers⟩ := hf u n (by omega)
    split
    · rename_i h
      refine ⟨hrest.trans hrested, fun c hc => ?_⟩
      by_cases hcn : c = n
      · rw [hcn, hnew, if_pos ⟨by omega, hn' ▸ h⟩]
      · rw [hothers c hc hcn, hstate c hc]
        exact if_congr (by omega) rfl rfl
    · rename_i h
      refine ⟨hrest, fun c hc => (hstate c hc).trans ?_⟩
      by_cases hcn : c = n
      · rw [hcn, if_neg (by omega), if_neg (fun hand => h (hn'.trans hand.2))]
      · exact if_congr (by omega) rfl rfl

/-! ### RUN -/

/-- The registers that name no granule: the map, the channels' states and those outside the block MEM. -/
def unmapped (o : Nat) : Prop := o < 0x181300 ∨ 0x184000 ≤ o ∨ ∃ c, o = 0x181000 + 0x800 * c

/-- The remaps named by their addresses under the full map. -/
def State.remapsFull (s : State) (full : Nat → Nat) (l : List Nat) : State :=
  l.foldl (fun s k =>
    if s.bit (F.MEM_CH_REMAP.VALID (k / 16) (k % 16)) then
      s.wr (F.MEM_CH_REMAP.ADDR (k / 16) (k % 16)) (full (64 * s.rd (F.MEM_CH_REMAP.ADDR (k / 16) (k % 16))) / 64)
    else s) s

theorem State.remapsFull_kept (full : Nat → Nat) (o : Nat) (ho : unmapped o) : ∀ (l : List Nat), (∀ k ∈ l, k < 96) → ∀ s : State,
    (s.remapsFull full l).reg o = s.reg o
  | [], _, _ => rfl
  | k :: l, hl, s => by
    have hk := hl k List.mem_cons_self
    refine (State.remapsFull_kept full o ho l (fun j hj => hl j (List.mem_cons_of_mem _ hj)) _).trans ?_
    dsimp only
    split
    · refine State.reg_wr_ne _ _ _ _ ?_
      show o ≠ 0x181300 + 0x800 * (k / 16) + 0x8 * (k % 16)
      obtain h | h | ⟨c, h⟩ := ho <;> omega
    · rfl

theorem State.remapsFull_only (s : State) (full : Nat → Nat) (l : List Nat) : RegsOnly s (s.remapsFull full l) :=
  RegsOnly.foldl _ _ (fun s _ => RegsOnly.ite _ ((RegsOnly.refl s).wr _ _) (RegsOnly.refl s)) s

theorem State.granulesFull_spec (s : State) : ∃ t, s.granulesFull = t ∧ t = { s with regs := t.regs, mem := t.mem, saf := t.saf } ∧
    ∀ o, unmapped o → t.reg o = s.reg o := by
  obtain ⟨u, hu⟩ : ∃ u, u = s.remapsFull s.fullAddr (List.range 96) := ⟨_, rfl⟩
  have honly : RegsOnly s u := by
    rw [hu]
    exact State.remapsFull_only ..
  have hkept : ∀ o, unmapped o → u.reg o = s.reg o := fun o ho => by
    rw [hu]
    exact State.remapsFull_kept _ o ho _ (fun k hk => List.mem_range.1 hk) s
  have heq : ∃ mem saf, s.granulesFull = { u with mem := mem, saf := saf } := by
    rw [hu]
    exact ⟨_, _, rfl⟩
  obtain ⟨mem, saf, heq⟩ := heq
  refine ⟨_, heq, ?_, hkept⟩
  rw [honly]

/-- The switch to the full map. -/
theorem State.fullMap_spec (s : State) : ∃ t, s.fullMap = t ∧
    t = { s with regs := t.regs, mem := t.mem, saf := t.saf, ddr := t.ddr, poison := t.poison, ddrErr := t.ddrErr } ∧
    t.rd F.MEM_STATUS.FULL_MAP = 1 ∧ t.rd F.SCR_STATUS.POS = 0 ∧ ∀ c, t.rd (F.MEM_CH_STATUS.STATE c) = s.rd (F.MEM_CH_STATUS.STATE c) := by
  obtain ⟨u, hu, hparts, hkept⟩ := s.granulesFull_spec
  obtain ⟨v, hv⟩ : ∃ v, v = (u.wr F.MEM_STATUS.FULL_MAP 1).wr F.SCR_STATUS.POS 0 := ⟨_, rfl⟩
  have honly : RegsOnly u v := by
    rw [hv]
    exact ((RegsOnly.refl u).wr _ _).wr _ _
  have heq : ∃ d p e, s.fullMap = { v with ddr := d, poison := p, ddrErr := e } := by
    rw [hv, ← hu]
    exact ⟨_, _, _, rfl⟩
  obtain ⟨d, p, e, heq⟩ := heq
  refine ⟨_, heq, ?_, ?_, ?_, fun c => ?_⟩
  · rw [honly, hparts]
  · rw [State.rd_mk, hv]
    exact (State.rd_wr_off _ _ _ _ _ _ _ _ (by decide)).trans (State.rd_wr_same _ _ _ _ _ (by decide))
  · rw [State.rd_mk, hv]
    exact State.rd_wr_same _ _ _ _ _ (by decide)
  · rw [State.rd_mk, hv, State.rd_wr_off _ _ _ _ _ _ _ _ (by omega), State.rd_wr_off _ _ _ _ _ _ _ _ (by omega)]
    unfold State.rd
    rw [hkept _ (.inr (.inr ⟨c, rfl⟩))]

/-- The registers of the indices that refer to DDR5 contents. -/
def indexRegs : List Nat := [0x150010, 0x150040, 0x150018, 0x40020, 0x1A0060, 0x1A0068, 0x1A8060, 0x1A8068]

theorem State.clearIndices_eq (s : State) : s.clearIndices =
    (((((((((((((s.wr F.LAC_STATUS.NEXT 0).wr F.LAC_STATUS.ACKED 0).wr F.LAC_ACK.INDEX 0).wr F.LAC_CURSOR.INDEX 0).wr F.FOL_LEAF_POS.TROW 0).wr
      F.FOL_LEAF_POS.SEQ 0).wr (F.SVY_P_POS.REC_NEXT 0) 0).wr (F.SVY_P_POS.FRAME_NEXT 0) 0).wr (F.SVY_P_ACK.REC 0) 0).wr (F.SVY_P_ACK.FRAME 0) 0).wr
      (F.SVY_P_POS.REC_NEXT 1) 0).wr (F.SVY_P_POS.FRAME_NEXT 1) 0).wr (F.SVY_P_ACK.REC 1) 0).wr (F.SVY_P_ACK.FRAME 1) 0 := rfl

theorem State.clearIndices_rewritten (s : State) : Rewritten indexRegs s s.clearIndices := by
  rw [State.clearIndices_eq]
  repeat' apply Rewritten.wr
  · exact Rewritten.refl _ s
  all_goals decide

theorem State.clearIndices_rd (s : State) :
    (s.clearIndices.rd F.LAC_STATUS.NEXT = 0 ∧ s.clearIndices.rd F.LAC_STATUS.ACKED = 0 ∧ s.clearIndices.rd F.LAC_ACK.INDEX = 0 ∧
      s.clearIndices.rd F.LAC_CURSOR.INDEX = 0) ∧
    ∀ p, p < 2 → s.clearIndices.rd (F.SVY_P_POS.REC_NEXT p) = 0 ∧ s.clearIndices.rd (F.SVY_P_POS.FRAME_NEXT p) = 0 ∧
      s.clearIndices.rd (F.SVY_P_ACK.REC p) = 0 ∧ s.clearIndices.rd (F.SVY_P_ACK.FRAME p) = 0 := by
  rw [State.clearIndices_eq]
  refine ⟨?_, fun p hp => ?_⟩
  · simp (disch := omega) [State.rd_wr_off, State.rd_wr_apart, State.rd_wr_same, -State.wr_regs]
  · obtain rfl | rfl : p = 0 ∨ p = 1 := by omega
    all_goals simp (disch := omega) [State.rd_wr_off, State.rd_wr_apart, State.rd_wr_same, -State.wr_regs]

theorem exec_runEntry {s : State} (hmode : s.mode = 2) (hwait : s.runWait = 0) (hrest : s.saf.acting = false) (hquiet : s.boot.quiescing = false)
    {u : State} (hu : { s with boot := { s.boot with runHold := false } }.notice 2 0 0 = u) :
    exec .runEntry s = .next ((((channelsWhen 3 State.restExit 6 u.fullMap).clearIndices).setMode 3).notice 4 3 0) := by
  show execRunEntry s = _
  unfold execRunEntry
  rw [if_neg (by simp [hmode, hwait, hrest, hquiet])]
  dsimp only
  rw [hu]
  rfl

/-- RUN is entered with the full map, every channel in service and the indices cleared. -/
theorem State.run_entered {s : State} (hmode : s.mode = 2) (hwait : s.runWait = 0) (hrest : s.saf.acting = false) (hquiet : s.boot.quiescing = false) :
    runsTo (.runEntry) s (fun t =>
      (t.mode, t.rd F.MEM_STATUS.FULL_MAP, t.rd F.SCR_STATUS.POS) = (3, 1, 0) ∧
      (t.rd F.LAC_STATUS.NEXT, t.rd F.LAC_STATUS.ACKED, t.rd F.LAC_ACK.INDEX, t.rd F.LAC_CURSOR.INDEX) = (0, 0, 0, 0) ∧
      (∀ p, p < 2 → (t.rd (F.SVY_P_POS.REC_NEXT p), t.rd (F.SVY_P_POS.FRAME_NEXT p), t.rd (F.SVY_P_ACK.REC p), t.rd (F.SVY_P_ACK.FRAME p)) = (0, 0, 0, 0)) ∧
      (∀ c, c < 6 → t.rd (F.MEM_CH_STATUS.STATE c) = if s.rd (F.MEM_CH_STATUS.STATE c) = 3 then 2 else s.rd (F.MEM_CH_STATUS.STATE c)) ∧
      t.rd (F.DOC_ROUTE.PENDING 19) = 1 ∧
      (t.hostMem, t.fol, t.pin) = (s.hostMem, s.fol, s.pin)) := by
  obtain ⟨u, hu, huparts, -, huapart⟩ := { s with boot := { s.boot with runHold := false } }.notice_spec 2 0 0
  obtain ⟨v, hv, hvparts, hmap, hpos, hstates⟩ := u.fullMap_spec
  obtain ⟨hrested, hchannels⟩ := channelsWhen_spec (st := 3) State.restExit_at v 6 (Nat.le_refl 6)
  rw [runsTo, exec_runEntry hmode hwait hrest hquiet hu, hv]
  generalize channelsWhen 3 State.restExit 6 v = w at hrested hchannels
  obtain ⟨honly, happart⟩ := w.clearIndices_rewritten
  obtain ⟨hlac, hsvy⟩ := w.clearIndices_rd
  generalize w.clearIndices = x at honly happart hlac hsvy
  obtain ⟨y, hy, hset⟩ := x.setMode_spec 3 (by decide)
  obtain ⟨t, ht, htparts, hpending, htapart⟩ := y.notice_spec 4 3 0
  rw [hy, ht]
  have hlate : ∀ o l k, o / 0x10000 ≠ 0x20 → o / 0x10000 ≠ 0x22 → o ∉ modeRegs → t.rd ⟨o, l, k⟩ = x.rd ⟨o, l, k⟩ := fun o l k h20 h22 ho => by
    unfold State.rd
    rw [htapart o (by simp only [List.mem_cons, List.not_mem_nil, or_false]; omega), hset.kept o h20 h22 ho]
  refine ⟨t, rfl, ?_, ?_, fun p hp => ?_, fun c hc => ?_, hpending, ?_⟩
  · have htmode : t.mode = 3 := (regsApart_rd htapart _ _ _ (by decide)).trans hset.mode
    rw [htmode, hlate _ _ _ (by decide) (by decide) (by decide), hlate _ _ _ (by decide) (by decide) (by decide),
      regsApart_rd happart _ _ _ (by decide), regsApart_rd happart _ _ _ (by decide), hrested.map, hrested.pos, hmap, hpos]
  · rw [hlate _ _ _ (by decide) (by decide) (by decide), hlate _ _ _ (by decide) (by decide) (by decide),
      hlate _ _ _ (by decide) (by decide) (by decide), hlate _ _ _ (by decide) (by decide) (by decide), hlac.1, hlac.2.1, hlac.2.2.1, hlac.2.2.2]
  · have hkept : ∀ o l k, o = 0x1A0060 + 0x8000 * p ∨ o = 0x1A0068 + 0x8000 * p → t.rd ⟨o, l, k⟩ = x.rd ⟨o, l, k⟩ := fun o l k ho =>
      hlate o l k (by omega) (by omega) (by simp only [modeRegs, List.mem_cons, List.not_mem_nil, or_false]; omega)
    obtain ⟨h1, h2, h3, h4⟩ := hsvy p hp
    rw [hkept _ _ _ (.inl rfl), hkept _ _ _ (.inl rfl), hkept _ _ _ (.inr rfl), hkept _ _ _ (.inr rfl), h1, h2, h3, h4]
  · have hstart : u.rd (F.MEM_CH_STATUS.STATE c) = s.rd (F.MEM_CH_STATUS.STATE c) := by
      unfold State.rd
      rw [huapart _ (by simp only [List.mem_cons, List.not_mem_nil, or_false]; omega)]
      rfl
    rw [hlate _ _ _ (by omega) (by omega) (by simp only [modeRegs, List.mem_cons, List.not_mem_nil, or_false]; omega),
      regsApart_rd happart _ _ _ (by simp only [indexRegs, List.mem_cons, List.not_mem_nil, or_false]; omega), hchannels c hc, hstates c, hstart]
    exact if_congr (by omega) rfl rfl
  · rw [htparts, hset.parts, honly, hrested.parts, hvparts, huparts]

/-! ### A quiesce -/

/-- A step of the repayment of a channel's debt: the channels, the counters and the calibration. -/
structure Repaid (s t : State) : Prop where
  parts : t = { s with regs := t.regs, mem := { s.mem with ch := t.mem.ch }, pmc := t.pmc, cal := t.cal, free := t.free }
  kept : ∀ o, o < 0x230000 → o ≠ 0x180048 → t.reg o = s.reg o

namespace Repaid

variable {s t u : State}

theorem refl (s : State) : Repaid s s := ⟨rfl, fun _ _ _ => rfl⟩

theorem trans (h : Repaid s t) (h' : Repaid t u) : Repaid s u :=
  ⟨by rw [h'.parts, h.parts], fun o ho hne => (h'.kept o ho hne).trans (h.kept o ho hne)⟩

theorem wr (h : Repaid s t) (f : Field) (v : Nat) (hf : 0x230000 ≤ f.off) : Repaid s (t.wr f v) :=
  h.trans ⟨rfl, fun o ho _ => State.reg_wr_ne _ _ _ _ (by omega)⟩

theorem whenD (h : Repaid s t) (c : Bool) (f : State → State) (hf : Repaid s (f t)) : Repaid s (t.whenD c f) := by
  unfold State.whenD
  split
  · exact hf
  · exact h

theorem foldl {α : Type} (f : State → α → State) (hf : ∀ s a, Repaid s (f s a)) : ∀ (l : List α) (s : State), Repaid s (l.foldl f s)
  | [], s => refl s
  | a :: l, s => (hf s a).trans (foldl f hf l (f s a))

theorem of_accessed (h : Accessed s t) : Repaid s t := by
  obtain ⟨hparts, hkept⟩ := h
  exact ⟨by rw [hparts], hkept⟩

theorem of_ran (h : Ran s t) : Repaid s t := by
  obtain ⟨hparts, hkept, -⟩ := h
  exact ⟨by rw [hparts], fun o ho _ => hkept o (by unfold runReg; simp; omega)⟩

theorem rested (h : Repaid s t) : Rested s t := by
  obtain ⟨hparts, hkept⟩ := h
  refine ⟨hparts, fun o ho => hkept o (by omega) (by omega), ?_, ?_⟩
  · unfold State.rd
    rw [hkept _ (by decide) (by decide)]
  · unfold State.rd
    rw [hkept _ (by decide) (by decide)]

end Repaid

/-- The calibration's own state and the end of its runs. -/
theorem Repaid.runsOn (s : State) (p : Prop) [Decidable p] (a b : CalSt) :
    Repaid s (if p then ({ s with cal := a }).runCheck else { s with cal := b }) := by
  split
  · refine Repaid.trans ?_ (Repaid.of_ran (State.runCheck_ran _))
    exact ⟨rfl, fun _ _ _ => rfl⟩
  · exact ⟨rfl, fun _ _ _ => rfl⟩

/-- A measurement of the replica line of a channel. -/
theorem State.biasStep_repaid (s : State) (c : Nat) (span : Int) : Repaid s (s.biasStep c span) := by
  have hbias : 0x230000 ≤ 0x240500 + 0x8 * c := by omega
  have hlong := (Repaid.refl s).wr (F.CAL_DDR.LONG c) (if decide (0 < span) then 1 else 0) hbias
  unfold State.biasStep State.wrBit
  dsimp only
  generalize s.wr (F.CAL_DDR.LONG c) _ = u at hlong ⊢
  split
  · exact hlong
  · refine Repaid.trans (t := (u.whenD _ _).whenD _ _) (Repaid.whenD (Repaid.whenD hlong _ _ ?_) _ _ ?_) (Repaid.runsOn _ _ _ _)
    · exact hlong.wr F.CAL_ERR.DDR_RANGE 1 (by decide)
    · refine Repaid.wr (Repaid.wr (Repaid.whenD hlong _ _ ?_) (F.CAL_DDR.BIAS c) _ hbias) (F.CAL_DDR.STEPS c) _ hbias
      exact hlong.wr F.CAL_ERR.DDR_RANGE 1 (by decide)

theorem State.debtRepay_repaid (s : State) (c : Nat) : Repaid s (s.debtRepay c) := by
  unfold State.debtRepay
  dsimp only
  refine Repaid.foldl _ (fun u _ => ?_) _ s
  have hfree : Repaid u u.takeFree.2 := ⟨rfl, fun _ _ _ => rfl⟩
  exact (hfree.trans (Repaid.of_accessed (State.pmcEvent_accessed _ _ _ _))).trans (State.biasStep_repaid _ _ _)

theorem State.restEnter_at (s : State) (c : Nat) (hc : c < 6) : ChannelAt c 3 s (s.restEnter c) := by
  have hrepaid := s.debtRepay_repaid c
  unfold State.restEnter
  dsimp only
  generalize s.debtRepay c = u at hrepaid ⊢
  obtain ⟨v, hv⟩ : ∃ v, v = (u.setCh c (fun m => { m with debt := [0, 0, 0, 0], rows := [] })).debtShow c := ⟨_, rfl⟩
  have hshow : Rested u v ∧ ∀ k, v.rd (F.MEM_CH_STATUS.STATE k) = u.rd (F.MEM_CH_STATUS.STATE k) := by
    rw [hv]
    unfold State.debtShow
    have hset : Rested u (u.setCh c (fun m => { m with debt := [0, 0, 0, 0], rows := [] })) := ⟨rfl, fun _ _ => rfl, rfl, rfl⟩
    refine ⟨hset.wr (F.MEM_CH_STATUS.DEBT c) _ (by show 0x180000 ≤ 0x181000 + 0x800 * c ∧ 0x181000 + 0x800 * c < 0x1A0000; omega)
      (by show 0x181000 + 0x800 * c ≠ 0x180038; omega) (by show 0x181000 + 0x800 * c ≠ 0x190010; omega), fun k => ?_⟩
    by_cases hk : k = c
    · rw [hk]
      exact State.rd_wr_apart _ _ _ _ _ _ _ (by decide)
    · exact State.rd_wr_off _ _ _ _ _ _ _ _ (by omega)
  rw [← hv]
  obtain ⟨hrest, hstate, hothers⟩ := v.channelPut c 3 true hc (by decide)
  refine ⟨(hrepaid.rested.trans hshow.1).trans hrest, hstate, fun k hk hne => ?_⟩
  rw [hothers k hk hne, hshow.2]
  unfold State.rd
  rw [hrepaid.kept _ (by show 0x181000 + 0x800 * k < 0x230000; omega) (by show 0x181000 + 0x800 * k ≠ 0x180048; omega)]

theorem exec_quiesceComplete {s : State} (hquiet : s.boot.quiescing = true) (hidle : s.rd F.SLT_STATUS.STATE = 0)
    (hnot : s.bit F.BOOT_STATUS.QUIESCED = false) (habsent : s.bit F.BOOT_STATUS.MRAM_ABSENT = true)
    (hempty : s.mem.ch.all (fun m => m.ports.isEmpty && m.queue.isEmpty) = true) {t : State} (ht : channelsWhen 2 State.restEnter 6 s = t) :
    exec .quiesceComplete s = .next { t.set1 F.BOOT_STATUS.QUIESCED with
      boot := { t.boot with cleanMark := t.boot.mramFitted || t.boot.cleanMark } } := by
  have hbusy : s.mem.ch.any (fun (m : MemCh) => !m.ports.isEmpty || !m.queue.isEmpty) = false := by
    rw [List.any_eq_false]
    intro m hm
    have := List.all_eq_true.1 hempty m hm
    simp only [Bool.and_eq_true] at this
    simp [this.1, this.2]
  have hflush : s.aclFlush = s := by
    unfold State.aclFlush
    rw [if_pos habsent]
  show execQuiesceComplete s = _
  unfold execQuiesceComplete
  rw [hbusy, if_neg (by simp [hquiet, hidle, hnot]), hflush, ← ht]
  rfl

/-- The quiesce ends: the channels in service rest, and the persistent copy is clean. -/
theorem State.quiesced {s : State} (hquiet : s.boot.quiescing = true) (hidle : s.rd F.SLT_STATUS.STATE = 0)
    (hnot : s.bit F.BOOT_STATUS.QUIESCED = false) (habsent : s.bit F.BOOT_STATUS.MRAM_ABSENT = true)
    (hempty : s.mem.ch.all (fun m => m.ports.isEmpty && m.queue.isEmpty) = true) :
    runsTo (.quiesceComplete) s (fun t =>
      t.rd F.BOOT_STATUS.QUIESCED = 1 ∧
      (∀ c, c < 6 → t.rd (F.MEM_CH_STATUS.STATE c) = if s.rd (F.MEM_CH_STATUS.STATE c) = 2 then 3 else s.rd (F.MEM_CH_STATUS.STATE c)) ∧
      t.boot.cleanMark = (s.boot.mramFitted || s.boot.cleanMark) ∧
      t.acl = s.acl ∧
      sameMemories s t) := by
  obtain ⟨hrested, hchannels⟩ := channelsWhen_spec (st := 2) State.restEnter_at s 6 (Nat.le_refl 6)
  generalize ht : channelsWhen 2 State.restEnter 6 s = t at hrested hchannels
  refine ⟨_, exec_quiesceComplete hquiet hidle hnot habsent hempty ht, ?_, fun c hc => ?_, ?_, ?_, ?_⟩
  · exact (State.rd_mk ..).trans (State.rd_wr_same _ _ _ _ _ (by decide))
  · refine (State.rd_mk ..).trans ((State.rd_wr_off _ _ _ _ _ _ _ _ (by omega)).trans ((hchannels c hc).trans ?_))
    exact if_congr (by omega) rfl rfl
  · show (t.boot.mramFitted || t.boot.cleanMark) = _
    rw [hrested.parts]
  · show t.acl = _
    rw [hrested.parts]
  · have hsame : sameMemories s t := by
      rw [hrested.parts]
      exact ⟨rfl, rfl, rfl, rfl, rfl, rfl, rfl, rfl, rfl, rfl⟩
    exact hsame

theorem exec_bootQuiesce {s : State} {m : Master} (hserves : s.serves m F.BOOT_CTL.QUIESCE.off = true) (hidle : s.rd F.SLT_STATUS.STATE = 0) :
    exec (.bootQuiesce m) s = .next { s with boot := { s.boot with quiescing := true } }.axDisable := by
  show execBootQuiesce m s = _
  unfold execBootQuiesce
  rw [State.gated_serves _ _ _ _ hserves]
  unfold State.armedAbort
  rw [if_neg (by rw [State.rd_mk, hidle]; decide)]
  rfl

end Sys2Proof.Machine
end

section
/-! SUPPORT. The device starts and stops (R292 to R319, R384, R385, R389). -/
namespace Sys2Proof.Machine

/-- Settles O47: each command by what its own lemma says of it; a reset by what the wiped state shows, and a failed start by what its
record leads to. -/
theorem theDeviceStartsAndStops : Obligations.TheDeviceStartsAndStops := by
  unfold Obligations.TheDeviceStartsAndStops
  refine ⟨fun s => ?_, fun s hsupply => ?_, fun s role flash hmode hlow hgood => ?_, fun s role flash hmode hlow hgood => ?_, fun s hruns => ?_,
    fun s hruns hfit hlost hwait => ?_, fun s hruns => ?_, fun s hruns hkey hquiet => ?_, fun s hruns => ?_, fun s hruns hlink => ?_,
    fun s hruns hplate hwait => ?_, fun s hruns hnone hlost htest hquiet => ?_, fun s r t0 hone hyoung => ?_, fun s hready hsolo hlow hauth => ?_,
    fun s hmode hwait hrest hquiet => ?_, fun s m hserves hidle hstate hpend => ?_, fun s hquiet hidle hnot habsent _ hempty => ?_,
    fun s m hserves hmode hrest hquiet htest => ?_, fun s m hserves hmode => ?_, fun s hmode hon hone hlast htest => ?_,
    fun s high hlive hold => ?_, fun s high hlive hold => ?_, fun s i => ?_⟩
  · obtain ⟨t, ht, honly, hm, -, hcause, -, -, hset, hrev, hauth, -⟩ := s.domainReset_spec 0 (s.rd F.BOOT_REASON.RESET) (by decide) (State.rd_lt _ _)
      false rfl
    refine ⟨_, exec_resetAssert s ht, ?_, ?_, ?_, ?_, ?_, hauth⟩
    · rw [← hcause]
      exact congrArg (·, t.rd F.BOOT_REASON.RESET) hm
    · rw [honly]
      rfl
    · rw [honly]
      rfl
    · rw [← hset, ← hrev]
      rfl
    · rw [honly]
      rfl
  · refine ⟨_, ?_, rfl⟩
    show done (if s.pin.supplyOut = 0 then _ else _) = _
    rw [if_pos hsupply]
    rfl
  · obtain ⟨t, ht, hm, hcause, hrole, hflash, htest, hstrap, hreset, hstate, hlost, hflashed, hattempts, hmram, hpending⟩ :=
      State.release_spec role flash true hmode hlow hgood
    exact ⟨t, ht, by rw [hm, hcause]; rfl, by rw [hrole, hflash, htest, hstrap], by rw [hreset, hstate, hlost]; rfl,
      by rw [hflashed, hattempts, hmram, hpending]⟩
  · obtain ⟨t, ht, hm, -, -, -, htest, -, -, hstate, -⟩ := State.release_spec role flash false hmode hlow hgood
    refine ⟨t, ht, ?_⟩
    show (t.mode, t.pin.testState, t.bit F.PAD_STRAPS.TEST_EN_N) = _
    rw [hm, hstate, htest]
    rfl
  · obtain ⟨t, ht, hstep, hlock, hmon, href, honly, happart⟩ := s.clocksGood_spec
    exact ⟨t, by rw [exec_bootStep1 hruns, ht], by rw [hstep, hlock, hmon, href], honly, happart⟩
  · obtain ⟨t, ht, habsent, hunclean, hboot, hcount, hbytes, hother, hring, hevent, hsame⟩ := State.bootAttempts_spec hfit hlost hwait
    refine ⟨t.wr F.BOOT_STATUS.STEP 3, by rw [exec_bootStep2 hruns, ht], ?_, ?_, ?_, hbytes, hother, hring, hevent, hsame⟩
    · rw [State.rd_wr_same _ _ _ _ _ (by decide), State.rd_wr_apart _ _ _ _ _ _ _ (by decide), State.rd_wr_apart _ _ _ _ _ _ _ (by decide),
        habsent, hunclean]
      rfl
    · exact (State.rd_wr_off _ _ _ _ _ _ _ _ (by decide)).trans hboot
    · exact (State.rd_wr_off _ _ _ _ _ _ _ _ (by decide)).trans hcount
  · exact ⟨_, exec_bootStep3 hruns, State.rd_wr_same _ _ _ _ _ (by decide), rfl, regsApart_wr _ _ (regsApart_regs regsApart_refl rfl) (by decide)⟩
  · obtain ⟨hrest, hmode⟩ := State.stepRuns_low (by decide) hruns
    obtain ⟨t, ht, hm, hstorage, hlast, hattempts, hbytes, hkpr, hdoc, hpin⟩ := State.failStart_noKey hmode hrest hquiet
    exact ⟨t, by rw [exec_bootStep4_noKey hruns hkey, ht], by rw [hm, hstorage, hlast], hattempts, hbytes, by rw [hkpr, hdoc], hpin⟩
  · obtain ⟨u, hu, hgroups, hcycles, hage, honly, happart⟩ := s.startTests_spec
    refine ⟨u.stepPass 7, by rw [exec_bootStep7 hruns, ← hu], hgroups, ?_, listInsert_contains _ _, ?_, happart⟩
    · rw [← hcycles, ← hage]
      rfl
    · rw [honly]
      rfl
  · refine ⟨_, exec_bootStep9 true hruns, ?_⟩
    rw [if_pos rfl, if_pos hlink]
    rfl
  · refine ⟨_, exec_bootStep9 false hruns, ?_⟩
    have hreason : s.stepReason 9 = none := by
      show (if s.plateFault then some 0xB else if s.rd F.BOOT_CFG.PLATE_WAIT = 0 then none else some 0xA) = none
      rw [hplate, if_neg Bool.false_ne_true, if_pos hwait]
    rw [if_neg Bool.false_ne_true, hreason]
  · obtain ⟨hrest, hmode⟩ := State.stepRuns_low (by decide) hruns
    obtain ⟨u, hstart, hrecord, hlast, hcount, hflash⟩ := State.failStart_first (reason := 2) (by decide) hmode hrest hquiet hnone hlost htest
    refine ⟨_, exec_bootStepTimeout3 hruns, by rw [hstart.mode, hstart.reset, hstart.step], hstart.record.trans hrecord, ?_, hstart.flash.trans hflash⟩
    rw [hstart.lastFail, hstart.attempts, hlast, hcount]
    rfl
  · obtain ⟨t, ht, honly, happart, hcount, hlast, hage, -, -⟩ := State.attemptShow_spec { s with boot := { s.boot with aonSec := t0 + 600 } }
    have hboot : t.boot = { s.boot with aonSec := t0 + 600 } := by rw [honly]
    refine ⟨t, by rw [exec_attemptAgeOut hone hyoung, ht], hboot, ?_, ?_, happart⟩
    · have hzero : ({ s with boot := { s.boot with aonSec := t0 + 600 } } : State).attemptCount = 0 := by
        show (s.boot.attempts.filter (fun a => t0 + 600 < a.2 + 600)).length = 0
        rw [hone, List.filter_cons_of_neg (by simp)]
        rfl
      have hsix : ({ s with boot := { s.boot with aonSec := t0 + 600 } } : State).failAge = 600 := by
        unfold State.failAge
        rw [show ({ s with boot := { s.boot with aonSec := t0 + 600 } } : State).boot.attempts = [(r, t0)] from hone]
        show min (t0 + 600 - t0) (2 ^ 32 - 1) = 600
        omega
      rw [hcount, hlast, hage, hzero, hsix]
      rfl
    · rw [hboot, honly]
  · exact State.preview_alone hready hsolo hlow hauth
  · exact State.run_entered hmode hwait hrest hquiet
  · obtain ⟨t, ht, hstop, hoff, hthree, hrun, hqueue⟩ := State.axDisable_spec (s := { s with boot := { s.boot with quiescing := true } }) hstate hpend
    obtain ⟨hparts, hout⟩ := hstop
    refine ⟨t, by rw [exec_bootQuiesce hserves hidle, ht], by rw [hparts], by rw [hoff, hthree], by rw [hrun, hqueue], hout, ?_⟩
    rw [hparts]
    exact ⟨rfl, rfl, rfl, rfl, rfl, rfl, rfl, rfl, rfl, rfl⟩
  · exact State.quiesced hquiet hidle hnot habsent hempty
  · have hstart := State.modeRestart (s := s) (cause := 5) (by decide) htest
    exact ⟨_, exec_bootRestart hserves hmode hrest hquiet, by rw [hstart.mode, hstart.reset, hstart.step],
      by rw [hstart.flash, hstart.fuses, hstart.record, hstart.pending]⟩
  · obtain ⟨u, hu, huparts, hbytes, hother⟩ := s.attemptPut_spec 0 []
    obtain ⟨t, ht, honly, happart, hcount, hlast, hage, -, -⟩ := u.attemptShow_spec
    have hboot : t.boot = { s.boot with attempts := [], lastFail := 0, aonLost := false } := by rw [honly, huparts]
    have hacl : t.acl = u.acl := by rw [honly]
    refine ⟨t, by rw [exec_clearAttempts hserves hmode, hu, ht], hboot, fun hfit => by rw [hacl]; exact hbytes hfit,
      fun x hx => by rw [hacl]; exact hother x hx, ?_, ?_, regsApart_trans (regsApart_regs regsApart_refl (by rw [huparts])) happart⟩
    · have hzero : u.attemptCount = 0 := by
        unfold State.attemptCount
        rw [huparts]
        rfl
      have hage0 : u.failAge = 0 := by
        unfold State.failAge
        rw [huparts]
      rw [hcount, hlast, hage, hzero, hage0, huparts]
      rfl
    · rw [honly, huparts]
  · obtain ⟨hboot, hpin, -⟩ := s.failRecord_carried 0xC 0
    have hcount : (s.failRecord 0xC 0).attemptCount = 1 := by
      unfold State.attemptCount
      rw [hboot, hone, List.filter_cons_of_pos (by simp)]
      rfl
    have hstart := State.modeRestart (s := s.failRecord 0xC 0) (cause := 3) (by decide) (by rw [hpin, htest])
    refine ⟨_, exec_safeRestartExpiry hmode hon, ?_, ?_⟩ <;> rw [State.afterFail_restarts (by decide) (by omega)]
    · rw [hstart.mode, hstart.reset, hstart.lastFail, hboot, hlast]
    · rw [hstart.acting, hstart.record, hboot, hone]
  · refine ⟨_, exec_strapChange_role hlive hold, ?_, rfl, regsApart_wr _ _ (regsApart_wr _ _ regsApart_refl (by decide)) (by decide)⟩
    refine congr (congrArg Prod.mk ?_) (congr (congrArg Prod.mk ?_) ?_)
    · exact (State.bit_wr_apart _ _ _ _ _ _ _ (by decide)).trans (State.bit_wrBit_same _ _ _ _ (by decide))
    · exact State.rd_wr_same _ _ _ _ _ (by decide)
    · exact (State.rd_wr_apart _ _ _ _ _ _ _ (by decide)).trans (State.rd_wr_apart _ _ _ _ _ _ _ (by decide))
  · exact ⟨_, exec_strapChange_test hlive hold, State.rd_wr_same _ _ _ _ _ (by decide), rfl,
      regsApart_wr _ _ (regsApart_regs regsApart_refl rfl) (by decide)⟩
  · exact ⟨_, exec_tapInstructionUpdate s i, rfl⟩

end Sys2Proof.Machine
end

section
/-! SUPPORT. The failures of a lane, and the substitution they may begin (R192, R193, R334). -/
namespace Sys2Proof.Machine

/-- The blocks that a lane's failures write: BLK, SAF, DOC and ACL. -/
def laneBlocks (b : Nat) : Bool := b = 0x16 || b = 0x1E || b = 0x20 || b = 0x22

/-- A step of a lane's failures, which keeps the fields of the lanes' registers from bit 2 up to a bit: events, lasting faults and their records, and the substitution of the lane's group. -/
structure LaneStep (g top : Nat) (s t : State) : Prop where
  parts : t = { s with regs := t.regs, hif := { s.hif with due := t.hif.due }, saf := { s.saf with buckets := t.saf.buckets },
                       blk := { s.blk with grp := t.blk.grp }, acl := t.acl, ikl := t.ikl }
  outside : regsOutside laneBlocks s t
  others : ∀ i, i ≠ g → t.grp i = s.grp i
  status : t.rd F.BLK_STATUS.STATE = s.rd F.BLK_STATUS.STATE
  lanes : ∀ n l w, n < 128 → 2 ≤ l → l + w ≤ top → t.rd ⟨0x161000 + 0x8 * n, l, w⟩ = s.rd ⟨0x161000 + 0x8 * n, l, w⟩
  limit : t.rd (F.SAF_BUCKET.N 0) = s.rd (F.SAF_BUCKET.N 0)

namespace LaneStep

variable {g top : Nat} {s t u : State}

theorem refl (g top : Nat) (s : State) : LaneStep g top s s := ⟨rfl, regsOutside_refl, fun _ _ => rfl, rfl, fun _ _ _ _ _ _ => rfl, rfl⟩

theorem trans (h : LaneStep g top s t) (h' : LaneStep g top t u) : LaneStep g top s u where
  parts := by rw [h'.parts, h.parts]
  outside := regsOutside_trans h.outside h'.outside
  others i hi := (h'.others i hi).trans (h.others i hi)
  status := h'.status.trans h.status
  lanes n l w hn hl ht := (h'.lanes n l w hn hl ht).trans (h.lanes n l w hn hl ht)
  limit := h'.limit.trans h.limit

theorem ite (c : Prop) [Decidable c] (h : LaneStep g top s t) (h' : LaneStep g top s u) : LaneStep g top s (if c then t else u) := by
  split
  · exact h
  · exact h'

/-- A flag of the link set. -/
theorem flag (h : LaneStep g top s t) (l w v : Nat) : LaneStep g top s (t.wr ⟨0x160040, l, w⟩ v) :=
  h.trans ⟨rfl, regsOutside_wr _ _ regsOutside_refl (show laneBlocks (0x160040 / 0x10000) = true by decide), fun _ _ => rfl, State.rd_wr_off _ _ _ _ _ _ _ _ (by decide),
    fun _ _ _ _ _ _ => State.rd_wr_off _ _ _ _ _ _ _ _ (by omega), State.rd_wr_off _ _ _ _ _ _ _ _ (by decide)⟩

/-- A lane put in a state. -/
theorem laneState (h : LaneStep g top s t) (n v : Nat) (hn : n < 128) : LaneStep g top s (t.wr (F.BLK_LANE.STATE n) v) := by
  refine h.trans ⟨rfl, regsOutside_wr _ _ regsOutside_refl ?_, fun _ _ => rfl, State.rd_wr_off _ _ _ _ _ _ _ _ ?_, fun m l w _ hl _ => ?_,
    State.rd_wr_off _ _ _ _ _ _ _ _ ?_⟩
  · show laneBlocks ((0x161000 + 0x8 * n) / 0x10000) = true
    rw [show (0x161000 + 0x8 * n) / 0x10000 = 0x16 by omega]
    rfl
  · show 0x161000 + 0x8 * n ≠ 0x160038
    omega
  · by_cases hm : m = n
    · rw [hm]
      exact State.rd_wr_apart _ _ _ _ _ _ _ (.inl hl)
    · exact State.rd_wr_off _ _ _ _ _ _ _ _ (by omega)
  · omega

theorem putGrp (h : LaneStep g top s t) (x : BlkGrp) : LaneStep g top s (t.putGrp g x) := by
  refine h.trans ⟨rfl, regsOutside_refl, fun i hi => ?_, rfl, fun _ _ _ _ _ _ => rfl, rfl⟩
  unfold State.grp State.putGrp
  rw [List.getD_eq_getElem?_getD, List.getD_eq_getElem?_getD, List.getElem?_set_ne (Ne.symm hi)]

theorem mono {low : Nat} (h : LaneStep g top s t) (hlow : low ≤ top) : LaneStep g low s t :=
  ⟨h.parts, h.outside, h.others, h.status, fun n l w hn hl ht => h.lanes n l w hn hl (by omega), h.limit⟩

theorem trim (h : LaneStep g top s t) (i : Nat) : t.trim i = s.trim i := by
  unfold State.trim
  rw [h.parts]

theorem grpState (h : LaneStep g top s t) (i : Nat) : t.grpState i = s.grpState i := by
  unfold State.grpState
  rw [h.status]

end LaneStep

theorem State.trimDrop_none {s : State} {g : Nat} (h : s.trim g = none) : s.trimDrop g = s := by
  unfold State.trimDrop
  rw [h]

/-- A group without a trim: its lane is taken by the spare, kept on it, or the spare is exhausted. -/
theorem State.laneReplace_step {s : State} {g k : Nat} (hn : 25 * g + k < 128) (htrim : s.trim g = none) : LaneStep g 64 s (s.laneReplace g k).1 := by
  have hdrop : ∀ t : State, t.cal = s.cal → LaneStep g 64 s t → LaneStep g 64 s (t.trimDrop g) := fun t ht h => by
    rwa [State.trimDrop_none (by unfold State.trim at htrim ⊢; rw [ht, htrim])]
  have hnone := LaneStep.refl g 64 s
  have hput : ∀ x : BlkGrp, LaneStep g 64 s (((s.putGrp g x).set1 F.BLK_ERR.LANE_LASTING).trimDrop g) := fun x =>
    hdrop _ rfl ((hnone.putGrp x).flag 3 1 1)
  have hfull : LaneStep g 64 s (s.set1 F.BLK_ERR.SPARE_EXHAUSTED) := hnone.flag 4 1 1
  unfold State.laneReplace
  dsimp only
  split
  · exact hnone
  · split
    · exact hfull
    · split
      · split
        · exact hput _
        · split
          · exact hfull
          · exact hput _
      · split
        · exact hdrop _ rfl (((hnone.putGrp _).flag 3 1 1).laneState _ _ hn)
        · split
          · exact hfull
          · exact hput _
      · exact hput _

/-! ### Events of a lane's bucket -/

/-- A lasting fault does not touch the limits of the buckets. -/
theorem State.rd_lasting_limit (s : State) (k inst : Nat) : (s.lasting k inst).rd (F.SAF_BUCKET.N 0) = s.rd (F.SAF_BUCKET.N 0) := by
  obtain ⟨u, hu⟩ : ∃ u, u = (((s.wr F.SAF_ERR.LASTING 1).wr F.SAF_LASTING.SOURCE k).wr F.SAF_LASTING.INSTANCE inst).incSat F.SAF_COUNTS.LASTING := ⟨_, rfl⟩
  have hlog := u.aclLog_logged 0x0202 (leBytes 1 k ++ leBytes 3 0 ++ leBytes 5 inst)
  have heq : s.lasting k inst = (u.aclLog 0x0202 (leBytes 1 k ++ leBytes 3 0 ++ leBytes 5 inst)).announce 5 25 := by
    rw [hu]
    rfl
  rw [heq, State.rd_announce _ _ _ _ _ _ (.inl (by decide)), hlog.rd _ _ _ (by decide) (by decide), hu]
  exact (State.rd_wr_off _ _ _ _ _ _ _ _ (by decide)).trans ((State.rd_wr_off _ _ _ _ _ _ _ _ (by decide)).trans
    ((State.rd_wr_off _ _ _ _ _ _ _ _ (by decide)).trans (State.rd_wr_off _ _ _ _ _ _ _ _ (by decide))))

theorem State.bucket_step (s : State) (g i : Nat) : LaneStep g 64 s (s.bucket 0 i).1 := by
  rw [State.bucket_eq]
  split
  · obtain ⟨t, ht, ⟨hparts, hout⟩, -, -⟩ := State.lasting_spec { s with saf := { s.saf with buckets := s.bucketEvents 0 i } } 0 i
    have hlimit := State.rd_lasting_limit { s with saf := { s.saf with buckets := s.bucketEvents 0 i } } 0 i
    dsimp only
    rw [ht] at hlimit ⊢
    refine ⟨by rw [hparts], fun o ho => hout o ?_, fun _ _ => by unfold State.grp; rw [hparts], ?_, fun n l w hn _ _ => ?_, hlimit⟩
    · unfold laneBlocks at ho
      unfold lastingBlocks
      simp only [Bool.or_eq_false_iff] at ho ⊢
      exact ⟨⟨ho.1.1.2, ho.1.2⟩, ho.2⟩
    · unfold State.rd
      rw [hout _ (by decide)]
      rfl
    · unfold State.rd
      rw [hout _ (by rw [show (0x161000 + 0x8 * n) / 0x10000 = 0x16 by omega]; rfl)]
      rfl
  · exact ⟨rfl, fun _ _ => rfl, fun _ _ => rfl, rfl, fun _ _ _ _ _ _ => rfl, rfl⟩

/-- One event of a lane, with the substitution at a lasting fault. -/
def State.laneEvent (g k : Nat) (s : State) : State :=
  let b := s.bucket 0 (25 * g + k)
  if b.2 then (b.1.laneReplace g k).1 else b.1

theorem State.laneEvent_step {s : State} {g k : Nat} (hn : 25 * g + k < 128) (htrim : s.trim g = none) : LaneStep g 64 s (s.laneEvent g k) := by
  have hbucket := s.bucket_step g (25 * g + k)
  unfold State.laneEvent
  dsimp only
  split
  · exact hbucket.trans (State.laneReplace_step hn ((hbucket.trim g).trans htrim))
  · exact hbucket

theorem State.laneEvents_step {g k : Nat} (hn : 25 * g + k < 128) : ∀ (l : List Nat) (s : State), s.trim g = none →
    LaneStep g 64 s (l.foldl (fun s _ => s.laneEvent g k) s)
  | [], s, _ => LaneStep.refl g 64 s
  | _ :: l, s, htrim =>
    have hone : LaneStep g 64 s (s.laneEvent g k) := State.laneEvent_step hn htrim
    hone.trans (State.laneEvents_step hn l _ ((hone.trim g).trans htrim))

theorem State.laneFail_eq (s : State) (g k n : Nat) : s.laneFail g k n =
    ((List.range n).foldl (fun s _ => s.laneEvent g k) (s.addSat (F.BLK_LANE.ERRORS (25 * g + k)) n)).laneShow (25 * g + k) 0 (25 * g + k) := rfl

/-- The counts that a lane's register holds, from bit 16 on. -/
theorem LaneStep.count (g n l w v : Nat) (s : State) (hn : n < 128) (hl : 16 ≤ l) : LaneStep g 16 s (s.wr ⟨0x161000 + 0x8 * n, l, w⟩ v) := by
  refine ⟨rfl, regsOutside_wr _ _ regsOutside_refl ?_, fun _ _ => rfl, State.rd_wr_off _ _ _ _ _ _ _ _ (by omega), fun m l' w' _ _ ht => ?_,
    State.rd_wr_off _ _ _ _ _ _ _ _ (by omega)⟩
  · show laneBlocks ((0x161000 + 0x8 * n) / 0x10000) = true
    rw [show (0x161000 + 0x8 * n) / 0x10000 = 0x16 by omega]
    rfl
  · by_cases hm : m = n
    · rw [hm]
      exact State.rd_wr_apart _ _ _ _ _ _ _ (.inr (by omega))
    · exact State.rd_wr_off _ _ _ _ _ _ _ _ (by omega)

/-- What the failures of a lane leave of a group without a trim. -/
theorem State.laneFail_spec {s : State} {g k : Nat} (n : Nat) (hn : 25 * g + k < 128) (htrim : s.trim g = none) : ∃ t, s.laneFail g k n = t ∧
    LaneStep g 16 s t ∧
    t.rd (F.BLK_LANE.ERRORS (25 * g + k)) = min (s.rd (F.BLK_LANE.ERRORS (25 * g + k)) + n) (2 ^ 16 - 1) ∧
    t.rd (F.BLK_LANE.BUCKET (25 * g + k)) = min 31 (s.bucketN 0 - t.bucketCount 0 (25 * g + k)) ∧
    ∀ m, m < 128 → m ≠ 25 * g + k → t.rd (F.BLK_LANE.ERRORS m) = s.rd (F.BLK_LANE.ERRORS m) := by
  rw [State.laneFail_eq]
  obtain ⟨u, hu⟩ : ∃ u, u = s.addSat (F.BLK_LANE.ERRORS (25 * g + k)) n := ⟨_, rfl⟩
  have hcount : LaneStep g 16 s u := by
    rw [hu]
    exact LaneStep.count g _ _ _ _ s hn (by decide)
  have herrors : u.rd (F.BLK_LANE.ERRORS (25 * g + k)) = min (s.rd (F.BLK_LANE.ERRORS (25 * g + k)) + n) (2 ^ 16 - 1) := by
    rw [hu]
    exact (State.rd_wr_same _ _ _ _ _ (by decide)).trans (Nat.mod_eq_of_lt (show min _ (2 ^ 16 - 1) < 2 ^ 16 by omega))
  have hother : ∀ m, m ≠ 25 * g + k → u.rd (F.BLK_LANE.ERRORS m) = s.rd (F.BLK_LANE.ERRORS m) := fun m hm => by
    rw [hu]
    exact State.rd_wr_off _ _ _ _ _ _ _ _ (by omega)
  have hevents := State.laneEvents_step hn (List.range n) u ((hcount.trim g).trans htrim)
  rw [← hu]
  generalize (List.range n).foldl (fun s _ => s.laneEvent g k) u = v at hevents
  unfold State.laneShow
  have hlimit : v.bucketN 0 = s.bucketN 0 := hevents.limit.trans hcount.limit
  refine ⟨_, rfl, (hcount.trans (hevents.mono (by decide))).trans (LaneStep.count g _ _ _ _ v hn (by decide)), ?_, ?_, fun m hm hne => ?_⟩
  · exact (State.rd_wr_apart _ _ _ _ _ _ _ (by decide)).trans ((hevents.lanes _ _ _ hn (by decide) (by decide)).trans herrors)
  · refine (State.rd_wr_same _ _ _ _ _ (by decide)).trans ?_
    rw [hlimit]
    exact Nat.mod_eq_of_lt (show min 31 _ < 2 ^ 5 by omega)
  · exact (State.rd_wr_off _ _ _ _ _ _ _ _ (by omega)).trans ((hevents.lanes _ _ _ hm (by decide) (by decide)).trans (hother m hne))

end Sys2Proof.Machine
end

section
/-! SUPPORT. The slots that a STATUS settles, and those that the plate rejects (R186, R274, R289). -/
namespace Sys2Proof.Machine

/-! ### Messages -/

theorem State.backMessage_good {s : State} {g mtype : Nat} {b : BackBlock} {msg : List Byte} {f : List Byte → State → State} (hsync : b.sync = 1)
    (hmsg : backMsg g b = msg) (hgood : backGood g mtype msg = true) : s.backMessage g mtype b f = f msg s := by
  unfold State.backMessage
  rw [hsync]
  show (if backGood g mtype (backMsg g b) then _ else _) = _
  rw [hmsg, if_pos hgood]

theorem State.backMessage_bad {s : State} {g mtype : Nat} {b : BackBlock} {msg : List Byte} {f : List Byte → State → State} (hsync : b.sync = 1)
    (hmsg : backMsg g b = msg) (hbad : backGood g mtype msg = false) : s.backMessage g mtype b f = s.backDiscard g := by
  unfold State.backMessage
  rw [hsync]
  show (if backGood g mtype (backMsg g b) then _ else _) = _
  rw [hmsg, hbad, if_neg Bool.false_ne_true]

theorem State.backMessage_control {s : State} {g mtype : Nat} {b : BackBlock} {f : List Byte → State → State} (hsync : b.sync = 2) :
    s.backMessage g mtype b f = if fieldAt b.bytes 0 1 = 0x3C then s.rxAm g else s := by
  unfold State.backMessage
  rw [hsync]
  rfl

theorem State.backMessage_broken {s : State} {g mtype : Nat} {b : BackBlock} {f : List Byte → State → State} (hsync : b.sync = 0 ∨ b.sync = 3) :
    s.backMessage g mtype b f = (s.incSat (F.BLK_LANE.ERRORS (100 + g))).backEvent g := by
  unfold State.backMessage
  obtain hsync | hsync := hsync <;> rw [hsync] <;> rfl

/-! ### Slots -/

theorem find_replaced {leaf slot : Nat} {y : SlotRec} (hleaf : y.leaf = leaf) (hslot : y.slot = slot) : ∀ (l : List SlotRec),
    l.any (fun x => x.leaf = leaf && x.slot = slot) = true →
    (l.map (fun x => if x.leaf = leaf && x.slot = slot then y else x)).find? (fun x => x.leaf = leaf && x.slot = slot) = some y
  | [], h => absurd h (by simp)
  | x :: l, h => by
    rw [List.map_cons]
    by_cases hx : (decide (x.leaf = leaf) && decide (x.slot = slot)) = true
    · rw [if_pos hx, List.find?_cons_of_pos (by simp [hleaf, hslot])]
    · rw [if_neg hx, List.find?_cons_of_neg (p := fun (x : SlotRec) => decide (x.leaf = leaf) && decide (x.slot = slot)) hx]
      refine find_replaced hleaf hslot l ?_
      rw [List.any_cons, Bool.or_eq_true] at h
      exact h.resolve_left hx

/-- A slot that the device knows is found as it was put. -/
theorem State.slotRec_putSlot {s : State} {y : SlotRec} (h : s.slt.slots.any (fun x => x.leaf = y.leaf && x.slot = y.slot) = true) :
    (s.putSlot y).slotRec y.leaf y.slot = some y := by
  unfold State.slotRec State.putSlot
  dsimp only
  rw [if_pos h]
  exact find_replaced rfl rfl _ h

theorem State.slotRec_known {s : State} {leaf slot : Nat} {r : SlotRec} (h : s.slotRec leaf slot = some r) :
    (r.leaf = leaf ∧ r.slot = slot) ∧ s.slt.slots.any (fun x => x.leaf = leaf && x.slot = slot) = true := by
  have hfound := List.find?_some h
  simp only [Bool.and_eq_true, decide_eq_true_eq] at hfound
  exact ⟨hfound, List.any_eq_true.2 ⟨r, List.mem_of_find?_eq_some h, by simp [hfound.1, hfound.2]⟩⟩

theorem State.putSlot_parts (s : State) (y : SlotRec) : s.putSlot y = { s with slt := { s.slt with slots := (s.putSlot y).slt.slots } } := rfl

/-! ### Slots that were not fired -/

/-- A rejected slot is shown, counted and recorded. -/
def State.rejectShown (s : State) (r : SlotRec) (grp mask result : Nat) : State :=
  ((((((s.wr F.BLK_ERR.PLATE_REJECT 1).incSat F.BLK_COUNTS.REJECTED).wr F.BLK_LAST_REJECT.SLOT r.slot).wr F.BLK_LAST_REJECT.LEAF r.leaf).wr
    F.BLK_LAST_REJECT.GROUP grp).wr F.BLK_LAST_REJECT.RESULT result).wr F.BLK_LAST_LANES.MASK mask

/-- The registers of a rejected slot. -/
def rejectRegs : List Nat := [F.BLK_ERR.PLATE_REJECT.off, F.BLK_COUNTS.REJECTED.off, F.BLK_LAST_REJECT.SLOT.off, F.BLK_LAST_LANES.MASK.off]

theorem State.rejectShown_spec (s : State) (r : SlotRec) (grp mask result : Nat) : ∃ t, s.rejectShown r grp mask result = t ∧ RegsOnly s t ∧
    t.rd F.BLK_ERR.PLATE_REJECT = 1 ∧ t.rd F.BLK_COUNTS.REJECTED = min (s.rd F.BLK_COUNTS.REJECTED + 1) (2 ^ 16 - 1) ∧
    t.rd F.BLK_LAST_REJECT.SLOT = r.slot % 2 ^ 32 ∧ t.rd F.BLK_LAST_REJECT.LEAF = r.leaf % 2 ^ 16 ∧
    t.rd F.BLK_LAST_REJECT.GROUP = grp % 2 ^ 2 ∧ t.rd F.BLK_LAST_REJECT.RESULT = result % 2 ^ 4 ∧ t.rd F.BLK_LAST_LANES.MASK = mask % 2 ^ 24 ∧
    (∀ l w, 1 ≤ l → t.rd ⟨0x160040, l, w⟩ = s.rd ⟨0x160040, l, w⟩) ∧ regsApart rejectRegs s t := by
  unfold State.rejectShown State.incSat State.addSat
  refine ⟨_, rfl, (((((((RegsOnly.refl s).wr _ _).wr _ _).wr _ _).wr _ _).wr _ _).wr _ _).wr _ _, ?_, ?_, ?_, ?_, ?_, ?_,
    State.rd_wr_same _ _ _ _ _ (by decide), fun l w hl => ?_, ?_⟩
  · simp (disch := omega) only [State.rd_wr_off, State.rd_wr_same]
    rfl
  · simp (disch := omega) only [State.rd_wr_off, State.rd_wr_same]
    exact Nat.mod_eq_of_lt (show min _ (2 ^ 16 - 1) < 2 ^ 16 by omega)
  · simp (disch := omega) only [State.rd_wr_off, State.rd_wr_apart, State.rd_wr_same]
  · simp (disch := omega) only [State.rd_wr_off, State.rd_wr_apart, State.rd_wr_same]
  · simp (disch := omega) only [State.rd_wr_off, State.rd_wr_apart, State.rd_wr_same]
  · simp (disch := omega) only [State.rd_wr_off, State.rd_wr_same]
  · simp (disch := omega) only [State.rd_wr_off, State.rd_wr_apart]
  · exact regsApart_wr _ _ (regsApart_wr _ _ (regsApart_wr _ _ (regsApart_wr _ _ (regsApart_wr _ _ (regsApart_wr _ _ (regsApart_wr _ _
      regsApart_refl (by decide)) (by decide)) (by decide)) (by decide)) (by decide)) (by decide)) (by decide)

theorem allCols_groups : colMask ([0, 1, 2, 3].flatMap (fun g => (List.range 16).map (fun i => 16 * g + i))) = allCols := by decide

/-- A record of the result stream opened under authority. -/
theorem State.lacHandRes_opens {s : State} (r : LacRec) (hauth : s.hasAuth = true) (hopen : s.lac.openRes = none) :
    s.lacHandRes r = { s with lac := { s.lac with openRes := some { r with own := true } } } := by
  unfold State.lacHandRes
  rw [hauth, if_neg (by decide)]
  dsimp only
  rw [hopen]

theorem State.takeExtend_kept (s : State) (leaf slot : Nat) : RegsOnly s (s.takeExtend leaf slot) ∧
    regsOutside (fun b => b = 0x1D) s (s.takeExtend leaf slot) := by
  unfold State.takeExtend
  dsimp only
  split
  · exact ⟨(RegsOnly.refl s).wr _ _, regsOutside_wr _ _ regsOutside_refl (by decide)⟩
  · exact ⟨(((RegsOnly.refl s).wr _ _).wr _ _).wr _ _, regsOutside_wr _ _ (regsOutside_wr _ _ (regsOutside_wr _ _ regsOutside_refl (by decide))
      (by decide)) (by decide)⟩

/-- A rejected slot's record: 70h where both authority lines were high at a result that says so, else 60h. -/
theorem State.plateReject_spec {s : State} (r : SlotRec) (grp mask result : Nat) (hauth : s.hasAuth = true) (hopen : s.lac.openRes = none)
    (both : Bool) (hboth : both = (r.both && (decide (result = 5) || decide (result = 15)))) :
    ∃ u t, s.rejectShown r grp mask result = u ∧ s.plateReject r [0, 1, 2, 3] grp mask result = t ∧
      t.lac = { s.lac with openRes := some ⟨r.leaf, if both then 0x70 else 0x60, 0, r.slot, r.slot, allCols, r.timeS % 2 ^ 32, r.timeNs, true⟩ } ∧
      t = { s with regs := t.regs, lac := t.lac } ∧ regsOutside (fun b => both && b = 0x1D) u t := by
  obtain ⟨u, hu, honly, -, -, -, -, -, -, -, -, happart⟩ := s.rejectShown_spec r grp mask result
  have huauth : u.hasAuth = true := (congrArg (· != 0) (regsApart_rd happart _ _ _ (by decide))).trans hauth
  have hulac : u.lac = s.lac := by rw [honly]
  refine ⟨u, _, hu, rfl, ?_⟩
  unfold State.plateReject
  rw [allCols_groups]
  have heq : ∀ t, t = (if both then (u.lacHandRes (r.lacuna 0x70 allCols)).takeExtend r.leaf r.slot else u.lacHandRes (r.lacuna 0x60 allCols)) →
      t.lac = { s.lac with openRes := some ⟨r.leaf, if both then 0x70 else 0x60, 0, r.slot, r.slot, allCols, r.timeS % 2 ^ 32, r.timeNs, true⟩ } ∧
      t = { s with regs := t.regs, lac := t.lac } ∧ regsOutside (fun b => both && b = 0x1D) u t := by
    intro t ht
    rw [State.lacHandRes_opens _ huauth (by rw [hulac, hopen]), State.lacHandRes_opens _ huauth (by rw [hulac, hopen])] at ht
    cases both with
    | false =>
      rw [ht, if_neg Bool.false_ne_true, hulac]
      refine ⟨rfl, ?_, fun _ _ => rfl⟩
      rw [honly]
    | true =>
      rw [if_pos rfl] at ht
      obtain ⟨hkept, hout⟩ := State.takeExtend_kept { u with lac := { u.lac with openRes := some { r.lacuna 0x70 allCols with own := true } } } r.leaf r.slot
      rw [← ht] at hkept hout
      have hlac : t.lac = { s.lac with openRes := some { r.lacuna 0x70 allCols with own := true } } := by
        rw [hkept, hulac]
      refine ⟨hlac, ?_, fun o ho => (hout o ?_).trans rfl⟩
      · rw [hlac, hkept, honly]
      · simpa using ho
  refine heq _ ?_
  rw [hboth, ← hu]
  rfl

/-- What the rejection of a slot shows, records and leaves. -/
theorem State.plateReject_shown {s : State} (r : SlotRec) (grp mask result : Nat) (hauth : s.hasAuth = true) (hopen : s.lac.openRes = none)
    (both : Bool) (hboth : both = (r.both && (decide (result = 5) || decide (result = 15)))) : ∃ t, s.plateReject r [0, 1, 2, 3] grp mask result = t ∧
    (t.rd F.BLK_ERR.PLATE_REJECT = 1 ∧ t.rd F.BLK_COUNTS.REJECTED = min (s.rd F.BLK_COUNTS.REJECTED + 1) (2 ^ 16 - 1) ∧
      t.rd F.BLK_LAST_REJECT.SLOT = r.slot % 2 ^ 32 ∧ t.rd F.BLK_LAST_REJECT.LEAF = r.leaf % 2 ^ 16 ∧
      t.rd F.BLK_LAST_REJECT.GROUP = grp % 2 ^ 2 ∧ t.rd F.BLK_LAST_REJECT.RESULT = result % 2 ^ 4 ∧ t.rd F.BLK_LAST_LANES.MASK = mask % 2 ^ 24) ∧
    (∀ l w, 1 ≤ l → t.rd ⟨0x160040, l, w⟩ = s.rd ⟨0x160040, l, w⟩) ∧
    t.lac = { s.lac with openRes := some ⟨r.leaf, if both then 0x70 else 0x60, 0, r.slot, r.slot, allCols, r.timeS % 2 ^ 32, r.timeNs, true⟩ } ∧
    t = { s with regs := t.regs, lac := t.lac } ∧ regsOutside (fun b => b = 0x16 || (both && b = 0x1D)) s t ∧
    (both = false → regsApart rejectRegs s t) := by
  obtain ⟨u, t, hu, ht, hlac, hparts, hout⟩ := State.plateReject_spec r grp mask result hauth hopen both hboth
  obtain ⟨v, hv, -, hreject, hcount, hslot, hleaf, hgroup, hresult, hmask, hflags, happart⟩ := s.rejectShown_spec r grp mask result
  obtain rfl : v = u := hv.symm.trans hu
  have hrd : ∀ o l w, o / 0x10000 = 0x16 → t.rd ⟨o, l, w⟩ = v.rd ⟨o, l, w⟩ := fun o l w ho => by
    unfold State.rd
    rw [hout o (by simp [ho])]
  refine ⟨t, ht, ⟨?_, ?_, ?_, ?_, ?_, ?_, ?_⟩, fun l w hl => (hrd _ _ _ (by decide)).trans (hflags l w hl), hlac, hparts, fun o ho => ?_, fun hnot o ho => ?_⟩
  · exact (hrd _ _ _ (by decide)).trans hreject
  · exact (hrd _ _ _ (by decide)).trans hcount
  · exact (hrd _ _ _ (by decide)).trans hslot
  · exact (hrd _ _ _ (by decide)).trans hleaf
  · exact (hrd _ _ _ (by decide)).trans hgroup
  · exact (hrd _ _ _ (by decide)).trans hresult
  · exact (hrd _ _ _ (by decide)).trans hmask
  · simp only [Bool.or_eq_false_iff, decide_eq_false_iff_not] at ho
    exact (hout o ho.2).trans (happart o (by simp only [rejectRegs, List.mem_cons, List.not_mem_nil, or_false]; omega))
  · exact (hout o (by simp [hnot])).trans (happart o ho)

end Sys2Proof.Machine
end

section
/-! SUPPORT. The commands of the back-channel (R185 to R187, R193, R377, Table 7-4). -/
namespace Sys2Proof.Machine

/-! ### STATUS -/

/-- One of the four results of a STATUS. -/
def State.statusResult (g : Fin 4) (leaf slot mask : Nat) (s : State) (x : Nat × Nat) : State :=
  if x.1 = 15 || slot < x.2 then s else s.slotResult g leaf (slot - x.2) x.1 (if x.2 = 0 then some mask else none)

/-- The lanes that a STATUS names as failed. -/
def State.statusLanes (g : Fin 4) (mask n : Nat) (s : State) : State :=
  (List.range n).foldl (fun s j => if mask / 2 ^ j % 2 = 1 then s.laneFail g (s.physical g j) 1 else s) s

theorem exec_status {s : State} {g : Fin 4} {b : BackBlock} {msg : List Byte} (hsync : b.sync = 1) (hmsg : backMsg g b = msg)
    (hgood : backGood g 0x61 msg = true) : exec (.status g b) s = .next (([fieldAt msg 8 1 % 16, fieldAt msg 8 1 / 16, fieldAt msg 9 1 % 16,
      fieldAt msg 9 1 / 16].zipIdx.foldl (State.statusResult g (fieldAt msg 2 2) (fieldAt msg 4 4) (fieldAt msg 10 3)) s).statusLanes g (fieldAt msg 10 3) 24) := by
  show execStatus g b s = _
  unfold execStatus
  rw [State.backMessage_good hsync hmsg hgood]
  rfl

theorem State.statusLanes_none (g : Fin 4) (s : State) : ∀ n, s.statusLanes g 0 n = s
  | 0 => rfl
  | n + 1 => by
    unfold State.statusLanes
    rw [List.range_succ, List.foldl_append]
    show (if 0 / 2 ^ n % 2 = 1 then _ else _) = s
    rw [if_neg (by simp)]
    exact State.statusLanes_none g s n

/-- A STATUS of one slot and no failed lane. -/
theorem exec_status_slot {s : State} {g : Fin 4} {b : BackBlock} {msg : List Byte} {x : Nat} (hsync : b.sync = 1) (hmsg : backMsg g b = msg)
    (hgood : backGood g 0x61 msg = true) (hfirst : fieldAt msg 8 1 = 240 + x) (hsecond : fieldAt msg 9 1 = 255) (hmask : fieldAt msg 10 3 = 0) (hx : x < 15) :
    exec (.status g b) s = .next (s.slotResult g (fieldAt msg 2 2) (fieldAt msg 4 4) x (some 0)) := by
  rw [exec_status hsync hmsg hgood, hfirst, hsecond, hmask, State.statusLanes_none, show (240 + x) % 16 = x by omega,
    show (240 + x) / 16 = 15 by omega]
  show Host.Outcome.next (State.statusResult g (fieldAt msg 2 2) (fieldAt msg 4 4) 0 s (x, 0)) = _
  unfold State.statusResult
  rw [if_neg (by simp; omega)]
  rfl

/-- Two bytes of ones are each a byte of ones. -/
theorem fieldAt_ones {bs : List Byte} {i : Nat} (h : fieldAt bs i 2 = 0xFFFF) : fieldAt bs i 1 = 255 ∧ fieldAt bs (i + 1) 1 = 255 := by
  have hnext : bs.drop (i + 1) = (bs.drop i).drop 1 := List.drop_drop.symm
  unfold fieldAt at h ⊢
  rw [hnext]
  generalize bs.drop i = l at h
  rcases l with _ | ⟨a, _ | ⟨b, l⟩⟩
  · exact absurd h (by decide)
  · have ha := a.isLt
    simp only [List.take_succ_cons, List.take_nil, leNat] at h
    omega
  · have ha := a.isLt
    have hb := b.isLt
    simp only [List.take_succ_cons, List.take_zero, List.drop_succ_cons, List.drop_zero, leNat] at h ⊢
    omega

/-- A STATUS of no slot. -/
theorem exec_status_lanes {s : State} {g : Fin 4} {b : BackBlock} {msg : List Byte} (hsync : b.sync = 1) (hmsg : backMsg g b = msg)
    (hgood : backGood g 0x61 msg = true) (hnone : fieldAt msg 8 2 = 0xFFFF) : exec (.status g b) s = .next (s.statusLanes g (fieldAt msg 10 3) 24) := by
  have hbytes := fieldAt_ones hnone
  rw [exec_status hsync hmsg hgood, hbytes.1, hbytes.2]
  rfl

/-- The failures of the lanes named, each lane carrying its own logical lane. -/
theorem State.statusLanes_spec {s : State} {g : Fin 4} (mask : Nat) (hown : ∀ j, j < 24 → s.laneLogical g j = j) (htrim : s.trim g.val = none) :
    ∀ n, n ≤ 24 → ∃ t, s.statusLanes g mask n = t ∧ LaneStep g.val 16 s t ∧ ∀ j, j < 24 → t.rd (F.BLK_LANE.ERRORS (25 * g.val + j)) =
      if j < n then min (s.rd (F.BLK_LANE.ERRORS (25 * g.val + j)) + mask / 2 ^ j % 2) (2 ^ 16 - 1) else s.rd (F.BLK_LANE.ERRORS (25 * g.val + j))
  | 0, _ => ⟨s, rfl, LaneStep.refl _ _ _, fun _ _ => (if_neg (by omega)).symm⟩
  | n + 1, hn => by
    obtain ⟨t, ht, hstep, herrors⟩ := State.statusLanes_spec mask hown htrim n (by omega)
    have hlow : s.rd (F.BLK_LANE.ERRORS (25 * g.val + n)) < 2 ^ 16 := State.rd_lt _ _
    have heq : s.statusLanes g mask (n + 1) = if mask / 2 ^ n % 2 = 1 then t.laneFail g (t.physical g n) 1 else t := by
      rw [← ht]
      unfold State.statusLanes
      rw [List.range_succ, List.foldl_append]
      rfl
    have hphysical : t.physical g n = n := by
      unfold State.physical State.laneLogical
      rw [hstep.lanes _ _ _ (by omega) (by decide) (by decide)]
      exact if_pos (hown n (by omega))
    rw [heq, hphysical]
    by_cases hbit : mask / 2 ^ n % 2 = 1
    · obtain ⟨u, hu, hfail, hcount, -, hother⟩ := State.laneFail_spec (s := t) (g := g.val) (k := n) 1 (by omega) ((hstep.trim _).trans htrim)
      rw [if_pos hbit, hu]
      refine ⟨u, rfl, hstep.trans hfail, fun j hj => ?_⟩
      by_cases hjn : j = n
      · subst hjn
        rw [hcount, herrors _ hj, if_neg (by omega), if_pos (by omega), hbit]
      · rw [hother _ (by omega) (by omega), herrors j hj]
        exact if_congr (by omega) rfl rfl
    · rw [if_neg hbit]
      refine ⟨t, rfl, hstep, fun j hj => ?_⟩
      by_cases hjn : j = n
      · subst hjn
        rw [herrors _ hj, if_neg (by omega), if_pos (by omega)]
        have : mask / 2 ^ j % 2 = 0 := by omega
        omega
      · rw [herrors j hj]
        exact if_congr (by omega) rfl rfl

/-! ### Results -/

/-- What a group's report of a slot leaves in its record. -/
def SlotRec.reported (r : SlotRec) (g x : Nat) : SlotRec := { r with
  result := some x
  heard := if r.heard.contains g then r.heard else g :: r.heard
  masks := (g, 0) :: r.masks.filter (fun m => m.1 ≠ g) }

/-- A slot that fired is settled. -/
theorem State.slotResult_fired {s : State} {g leaf slot x : Nat} {r : SlotRec} (hx : x < 2) (hpair : s.pairState ≠ 3)
    (hrec : s.slotRec leaf slot = some r) (hopen : r.settled = false) : ∃ t, s.slotResult g leaf slot x (some 0) = t ∧
    t.slotRec leaf slot = some { r.reported g x with settled := true } ∧ t = { s with slt := { s.slt with slots := t.slt.slots } } := by
  obtain ⟨⟨hleaf, hslot⟩, hknown⟩ := State.slotRec_known hrec
  have heq : s.slotResult g leaf slot x (some 0) = (s.putSlot (r.reported g x)).putSlot { r.reported g x with settled := true } := by
    unfold State.slotResult
    rw [if_neg (by simp [hpair])]
    dsimp only
    rw [hrec]
    dsimp only
    rw [if_neg (by simp [hopen]), if_pos (by simp [hx])]
    unfold State.slotSettle
    dsimp only
    rw [if_neg (by simp; omega)]
    rfl
  have hput : (s.putSlot (r.reported g x)).slotRec leaf slot = some (r.reported g x) := by
    rw [← hleaf, ← hslot] at hknown ⊢
    exact State.slotRec_putSlot (y := r.reported g x) hknown
  obtain ⟨-, hknown'⟩ := State.slotRec_known hput
  refine ⟨_, heq, ?_, ?_⟩
  · rw [← hleaf, ← hslot] at hknown' ⊢
    exact State.slotRec_putSlot (y := { r.reported g x with settled := true }) hknown'
  · rw [State.putSlot_parts (s.putSlot _), State.putSlot_parts s]

/-- The lowest of a list that is not empty. -/
theorem lowestNat_cons (n : Nat) (l : List Nat) : lowestNat (n :: l) = some (l.foldl min n) := rfl

/-- A slot heard from every group with no lane named is rejected for all of its columns. -/
theorem State.slotSettle_rejects {s : State} {r : SlotRec} {g x : Nat} {l : List Nat} (hx : 2 ≤ x ∧ x ≤ 6)
    (hsent : r.data = true ∧ r.auth = true ∧ r.sent = true) (hmasks : r.masks = [(g, 0)]) (hheard : r.heard = g :: l) :
    s.slotSettle r x = (s.putSlot { r with settled := true }).plateReject r [0, 1, 2, 3] (l.foldl min g) 0 x := by
  have hnamed : ([(g, 0)] : List (Nat × Nat)).filter (fun m => decide (m.2 ≠ 0)) = [] := rfl
  have hzero : (([(g, 0)] : List (Nat × Nat)).find? (fun m => decide (m.1 = l.foldl min g)) |>.map Prod.snd).getD 0 = 0 := by
    rw [List.find?_cons]
    split <;> rfl
  unfold State.slotSettle
  generalize s.putSlot _ = u
  dsimp only
  rw [if_pos (by simp [hsent, hx]), hmasks, hheard, hnamed, lowestNat_cons]
  simp only [List.isEmpty_nil, List.map_nil, lowestNat, if_true]
  rw [hzero]

/-- A slot that all four groups report as not fired is settled and rejected. -/
theorem State.slotResult_rejected {s : State} {g leaf slot x : Nat} {r : SlotRec} (hx : 2 ≤ x ∧ x ≤ 6) (hpair : s.pairState ≠ 3)
    (hrec : s.slotRec leaf slot = some r) (hopen : r.settled = false) (hsent : r.data = true ∧ r.auth = true ∧ r.sent = true)
    (hmasks : r.masks = []) (hheard : r.heard.contains g = false ∧ r.heard.length = 3) : ∃ u : State,
    u.slotRec leaf slot = some { r.reported g x with settled := true } ∧ u = { s with slt := { s.slt with slots := u.slt.slots } } ∧
    s.slotResult g leaf slot x (some 0) = u.plateReject (r.reported g x) [0, 1, 2, 3] (r.heard.foldl min g) 0 x := by
  obtain ⟨⟨hleaf, hslot⟩, hknown⟩ := State.slotRec_known hrec
  have hput : (s.putSlot (r.reported g x)).slotRec leaf slot = some (r.reported g x) := by
    rw [← hleaf, ← hslot] at hknown ⊢
    exact State.slotRec_putSlot (y := r.reported g x) hknown
  obtain ⟨-, hknown'⟩ := State.slotRec_known hput
  refine ⟨(s.putSlot (r.reported g x)).putSlot { r.reported g x with settled := true }, ?_, ?_, ?_⟩
  · rw [← hleaf, ← hslot] at hknown' ⊢
    exact State.slotRec_putSlot (y := { r.reported g x with settled := true }) hknown'
  · rw [State.putSlot_parts (s.putSlot _), State.putSlot_parts s]
  · have hheards : (r.reported g x).heard = g :: r.heard := if_neg (by rw [hheard.1]; decide)
    have hmask : (r.reported g x).masks = [(g, 0)] := by
      unfold SlotRec.reported
      rw [hmasks]
      rfl
    have hfour : (if r.heard.contains g then r.heard else g :: r.heard).length = 4 := by
      rw [hheard.1, if_neg Bool.false_ne_true, List.length_cons, hheard.2]
    have heq : s.slotResult g leaf slot x (some 0) = (s.putSlot (r.reported g x)).slotSettle (r.reported g x) x := by
      unfold State.slotResult
      rw [if_neg (by simp [hpair])]
      dsimp only
      rw [hrec]
      dsimp only
      rw [if_neg (by simp [hopen]), if_pos (by rw [hfour]; simp)]
      rfl
    rw [heq]
    exact State.slotSettle_rejects (r := r.reported g x) hx hsent hmask hheards

end Sys2Proof.Machine
end

section
/-! SUPPORT. The states of a link's groups, a group's recovery, and the losses of a lane's lock (R188, R193, R377, Table 7-6). -/
namespace Sys2Proof.Machine

/-! ### Group states -/

/-- A state code put into its place among four. -/
theorem stateCode_put {old st g i : Nat} (hold : old < 2 ^ 16) (hst : st < 16) (hg : g < 4) (hi : i < 4) :
    (old - old / 16 ^ g % 16 * 16 ^ g + st * 16 ^ g) % 2 ^ 16 / 16 ^ i % 16 = if i = g then st else old / 16 ^ i % 16 := by
  obtain rfl | rfl | rfl | rfl : g = 0 ∨ g = 1 ∨ g = 2 ∨ g = 3 := by omega
  all_goals
    obtain rfl | rfl | rfl | rfl : i = 0 ∨ i = 1 ∨ i = 2 ∨ i = 3 := by omega
    all_goals
      simp only [Nat.reducePow, Nat.reduceEqDiff, if_true, if_false]
      omega

theorem State.setGrpState_spec (s : State) {g st : Nat} (hg : g < 4) (hst : st < 16) : ∃ t, s.setGrpState g st = t ∧
    Rewritten [F.BLK_STATUS.STATE.off] s t ∧ ∀ i, i < 4 → t.grpState i = if i = g then st else s.grpState i := by
  refine ⟨_, rfl, ((Rewritten.refl _ s).wr F.BLK_STATUS.STATE _ (by decide)).wr F.BLK_STATUS.READY _ (by decide), fun i hi => ?_⟩
  unfold State.grpState State.setGrpState State.wrBit
  dsimp only
  rw [State.rd_wr_apart _ _ _ _ _ _ _ (by decide), State.rd_wr_same _ _ _ _ _ (by decide)]
  exact stateCode_put (State.rd_lt _ _) hst hg hi

/-- A step of a group's lanes to a state: registers of the lanes, and of those the state only. -/
structure LanesPut (s t : State) : Prop where
  only : RegsOnly s t
  outside : regsOutside (fun b => b = 0x16) s t
  low : ∀ o, o < 0x161000 → t.reg o = s.reg o
  fields : ∀ n l w, 2 ≤ l → t.rd ⟨0x161000 + 0x8 * n, l, w⟩ = s.rd ⟨0x161000 + 0x8 * n, l, w⟩

theorem State.lanesState_put (s : State) {g : Nat} (hg : g < 4) (st : Nat) : LanesPut s (s.lanesState g st) := by
  have hstep : ∀ (l : List Nat), (∀ k ∈ l, k < 25) → ∀ s : State, LanesPut s (l.foldl (fun s k =>
      let n := 25 * g + k
      if s.rd (F.BLK_LANE.STATE n) = 3 && st ≠ 0 then s else s.wr (F.BLK_LANE.STATE n) st) s) := by
    intro l
    induction l with
    | nil => exact fun _ s => ⟨RegsOnly.refl s, regsOutside_refl, fun _ _ => rfl, fun _ _ _ _ => rfl⟩
    | cons k l ih =>
      intro hl s
      have hk := hl k List.mem_cons_self
      have hone : LanesPut s (if s.rd (F.BLK_LANE.STATE (25 * g + k)) = 3 && st ≠ 0 then s else s.wr (F.BLK_LANE.STATE (25 * g + k)) st) := by
        split
        · exact ⟨RegsOnly.refl s, regsOutside_refl, fun _ _ => rfl, fun _ _ _ _ => rfl⟩
        · refine ⟨(RegsOnly.refl s).wr _ _, regsOutside_wr _ _ regsOutside_refl ?_, fun o ho => State.reg_wr_ne _ _ _ _ ?_, fun n l w hl => ?_⟩
          · show decide ((0x161000 + 0x8 * (25 * g + k)) / 0x10000 = 0x16) = true
            rw [decide_eq_true_eq]
            omega
          · show o ≠ 0x161000 + 0x8 * (25 * g + k)
            omega
          · by_cases hn : n = 25 * g + k
            · rw [hn]
              exact State.rd_wr_apart _ _ _ _ _ _ _ (.inl hl)
            · exact State.rd_wr_off _ _ _ _ _ _ _ _ (by omega)
      obtain ⟨h1, h2, h3, h4⟩ := ih (fun j hj => hl j (List.mem_cons_of_mem _ hj))
        (if s.rd (F.BLK_LANE.STATE (25 * g + k)) = 3 && st ≠ 0 then s else s.wr (F.BLK_LANE.STATE (25 * g + k)) st)
      exact ⟨hone.only.trans h1, regsOutside_trans hone.outside h2, fun o ho => (h3 o ho).trans (hone.low o ho),
        fun n l w hl => (h4 n l w hl).trans (hone.fields n l w hl)⟩
  exact hstep _ (fun k hk => List.mem_range.1 hk) s

theorem State.grp_putGrp_ne (s : State) {g i : Nat} (x : BlkGrp) (hi : i ≠ g) : (s.putGrp g x).grp i = s.grp i := by
  unfold State.grp State.putGrp
  rw [List.getD_eq_getElem?_getD, List.getD_eq_getElem?_getD, List.getElem?_set_ne (Ne.symm hi)]

theorem State.grp_putGrp_same (s : State) {g : Nat} (x : BlkGrp) (hg : g < s.blk.grp.length) : (s.putGrp g x).grp g = x := by
  unfold State.grp State.putGrp
  rw [List.getD_eq_getElem?_getD, List.getElem?_set_self hg]
  rfl

/-- A group without a trim enters RECOVERY. -/
theorem State.grpRecover_spec {s : State} {g : Nat} (hg : g < 4) (htrim : s.trim g = none) : ∃ t, s.grpRecover g = t ∧
    t.grpState g = 6 ∧ t.rd F.BLK_ERR.RECOVERY = 1 ∧ (∀ i, i < 4 → i ≠ g → t.grpState i = s.grpState i ∧ t.grp i = s.grp i) ∧
    (∀ n l w, n < 128 → 2 ≤ l → t.rd ⟨0x161000 + 0x8 * n, l, w⟩ = s.rd ⟨0x161000 + 0x8 * n, l, w⟩) ∧
    t = { s with regs := t.regs, free := t.free, blk := { s.blk with grp := t.blk.grp }, cal := t.cal } ∧
    regsOutside (fun b => b = 0x16 || b = 0x24) s t := by
  obtain ⟨u, hu⟩ : ∃ u, u = s.grpPause g := ⟨_, rfl⟩
  have hpause : u = { s with free := u.free, blk := { s.blk with grp := u.blk.grp } } ∧ ∀ i, i ≠ g → u.grp i = s.grp i := by
    rw [hu]
    unfold State.grpPause
    split
    · exact ⟨rfl, fun i hi => State.grp_putGrp_ne _ _ hi⟩
    · exact ⟨rfl, fun _ _ => rfl⟩
  obtain ⟨huparts, hugrp⟩ := hpause
  have hureg : ∀ o, u.reg o = s.reg o := fun o => by
    rw [huparts]
    rfl
  obtain ⟨v, hv, hstate, hcodes⟩ := u.setGrpState_spec hg (show 6 < 16 by decide)
  obtain ⟨w, hw⟩ : ∃ w, w = (v.set1 F.BLK_ERR.RECOVERY).incSat F.BLK_COUNTS.RECOVERIES := ⟨_, rfl⟩
  have hcount : Rewritten [F.BLK_ERR.RECOVERY.off, F.BLK_COUNTS.RECOVERIES.off] v w := by
    rw [hw]
    exact ((Rewritten.refl _ v).wr F.BLK_ERR.RECOVERY 1 (by decide)).wr F.BLK_COUNTS.RECOVERIES _ (by decide)
  have hflag : w.rd F.BLK_ERR.RECOVERY = 1 := by
    rw [hw]
    exact (State.rd_wr_off _ _ _ _ _ _ _ _ (by decide)).trans (State.rd_wr_same _ _ _ _ _ (by decide))
  have hlanes := w.lanesState_put hg 1
  generalize hx : w.lanesState g 1 = x at hlanes
  have hxonly : RegsOnly u x := (hstate.only.trans hcount.only).trans hlanes.only
  have hxtrim : x.trim g = none := by
    rw [← htrim]
    refine State.trim_of_cal ?_ g
    rw [hxonly, huparts]
  obtain ⟨y, hy⟩ : ∃ y, y = ({ x with cal := { x.cal with rx := x.cal.rx.set g none, rxStep := x.cal.rxStep.set g none } } : State) := ⟨_, rfl⟩
  obtain ⟨hran, hkept, -⟩ := y.runCheck_ran
  have heq : s.grpRecover g = y.runCheck := by
    unfold State.grpRecover State.trimAbandon
    dsimp only
    rw [← hu, hv, ← hw, hx, hxtrim, hy]
    rfl
  generalize y.runCheck = t at heq hran hkept
  have hyreg : ∀ o, y.reg o = x.reg o := fun o => by
    rw [hy]
    rfl
  have htreg : ∀ o, o / 0x10000 = 0x16 → t.reg o = x.reg o := fun o ho =>
    (hkept o (by unfold runReg; simp; omega)).trans (hyreg o)
  have hgrp : t.blk = x.blk := by
    rw [hran, hy]
  have hxcodes : ∀ i, i < 4 → x.grpState i = if i = g then 6 else u.grpState i := fun i hi => by
    rw [← hcodes i hi]
    unfold State.grpState State.rd
    rw [hlanes.low _ (by decide), hcount.apart _ (by decide)]
  have htcodes : ∀ i, t.grpState i = x.grpState i := fun i => by
    unfold State.grpState State.rd
    rw [htreg _ (by decide)]
  refine ⟨t, heq, ?_, ?_, fun i hi hne => ⟨?_, ?_⟩, fun n l k hn hl => ?_, ?_, fun o ho => ?_⟩
  · rw [htcodes, hxcodes g hg, if_pos rfl]
  · rw [← hflag]
    unfold State.rd
    rw [htreg _ (by decide), hlanes.low _ (by decide)]
  · rw [htcodes, hxcodes i hi, if_neg hne]
    unfold State.grpState State.rd
    rw [hureg]
  · rw [← hugrp i hne]
    unfold State.grp
    rw [hgrp, hxonly]
  · refine Eq.trans ?_ ((hlanes.fields n l k hl).trans ?_)
    · unfold State.rd
      rw [htreg _ (by show (0x161000 + 0x8 * n) / 0x10000 = 0x16; omega)]
    · unfold State.rd
      rw [hcount.apart _ (by simp only [List.mem_cons, List.not_mem_nil, or_false]; omega), hstate.apart _ (by
        simp only [List.mem_cons, List.not_mem_nil, or_false]; omega), hureg]
  · rw [hran, hy, hxonly, huparts]
  · simp only [Bool.or_eq_false_iff, decide_eq_false_iff_not] at ho
    rw [hkept o (by unfold runReg; simp; omega), hyreg, hlanes.outside o (by simp [ho.1]), hcount.apart o (by
      simp only [List.mem_cons, List.not_mem_nil, or_false]; omega), hstate.apart o (by
      simp only [List.mem_cons, List.not_mem_nil, or_false]; omega), hureg]

end Sys2Proof.Machine
end

section
/-! SUPPORT. The commands of the back-channel that name a lane, a temperature or a missing STATUS (R163, R185 to R187, R193, R377). -/
namespace Sys2Proof.Machine

/-! ### Events that start no lasting fault -/

/-- An event of a quiet bucket: its times, and the register that shows it. -/
structure BucketShown (lane k inst : Nat) (s t : State) : Prop where
  parts : t = { s with regs := t.regs, saf := { s.saf with buckets := t.saf.buckets } }
  shown : t.rd (F.BLK_LANE.BUCKET lane) = min 31 (s.bucketN k - t.bucketCount k inst)
  fields : ∀ l w, l + w ≤ 16 ∨ 21 ≤ l → t.rd ⟨0x161000 + 0x8 * lane, l, w⟩ = s.rd ⟨0x161000 + 0x8 * lane, l, w⟩
  apart : regsApart [(F.BLK_LANE.BUCKET lane).off] s t

theorem State.laneShow_shown {s : State} {k inst : Nat} (lane : Nat) (hquiet : (s.bucket k inst).2 = false) :
    BucketShown lane k inst s ((s.bucket k inst).1.laneShow lane k inst) := by
  rw [State.bucket_quiet rfl rfl rfl rfl hquiet]
  unfold State.laneShow
  refine ⟨rfl, ?_, fun l w hl => (State.rd_wr_apart _ _ _ _ _ _ _ (by omega)).trans rfl, regsApart_wr _ _ (regsApart_regs regsApart_refl rfl) (by simp)⟩
  refine (State.rd_wr_same _ _ _ _ _ (by decide)).trans ?_
  exact Nat.mod_eq_of_lt (show min 31 _ < 2 ^ 5 by omega)

/-- A step that writes registers outside SAF leaves a quiet bucket quiet. -/
theorem State.bucket_still {s u : State} {k inst : Nat} (honly : RegsOnly s u) (hk : k < 16) (h5 : k ≠ 5)
    (hreg : ∀ o, o / 0x10000 = 0x1E → u.reg o = s.reg o) (hquiet : (s.bucket k inst).2 = false) : (u.bucket k inst).2 = false := by
  have hlimit : u.reg (F.SAF_BUCKET.N k).off = s.reg (F.SAF_BUCKET.N k).off := hreg _ (by show (0x1E0100 + 0x8 * k) / 0x10000 = 0x1E; omega)
  have hn : u.bucketN k = s.bucketN k := by
    unfold State.bucketN
    rw [if_neg h5, if_neg h5]
    unfold State.rd
    rw [hlimit]
  have hw : u.bucketW k = s.bucketW k := by
    unfold State.bucketW
    rw [if_neg h5, if_neg h5]
    unfold State.rd
    rw [hlimit]
  rw [State.bucket_quiet hn hw (by rw [honly]) (by rw [honly]) hquiet]

theorem State.backEvent_quiet {s : State} {g : Nat} (hquiet : (s.bucket 1 g).2 = false) : BucketShown (100 + g) 1 g s (s.backEvent g) := by
  have hshow := State.laneShow_shown (100 + g) hquiet
  unfold State.backEvent
  dsimp only
  rw [hquiet, Bool.false_and, if_neg Bool.false_ne_true]
  exact hshow

/-- One failure of a lane that starts no lasting fault. -/
theorem State.laneFail_quiet {s : State} {g k : Nat} (hquiet : (s.bucket 0 (25 * g + k)).2 = false) (hn : 25 * g + k < 128) : ∃ t, s.laneFail g k 1 = t ∧
    t = { s with regs := t.regs, saf := { s.saf with buckets := t.saf.buckets } } ∧
    (∀ l w, l + w ≤ 16 → t.rd ⟨0x161000 + 0x8 * (25 * g + k), l, w⟩ = s.rd ⟨0x161000 + 0x8 * (25 * g + k), l, w⟩) ∧
    regsApart [(F.BLK_LANE.ERRORS (25 * g + k)).off] s t := by
  obtain ⟨u, hu⟩ : ∃ u, u = s.addSat (F.BLK_LANE.ERRORS (25 * g + k)) 1 := ⟨_, rfl⟩
  have honly : RegsOnly s u := by
    rw [hu]
    exact (RegsOnly.refl s).wr _ _
  have happart : regsApart [(F.BLK_LANE.ERRORS (25 * g + k)).off] s u := by
    rw [hu]
    exact regsApart_wr _ _ regsApart_refl (by simp)
  have hstill : (u.bucket 0 (25 * g + k)).2 = false := State.bucket_still honly (by decide) (by decide) (fun o ho =>
    happart o (by simp only [List.mem_singleton]; omega)) hquiet
  obtain ⟨hparts, -, hfields, hshown⟩ := State.laneShow_shown (25 * g + k) hstill
  have heq : s.laneFail g k 1 = (u.bucket 0 (25 * g + k)).1.laneShow (25 * g + k) 0 (25 * g + k) := by
    rw [State.laneFail_eq, ← hu]
    show (u.laneEvent g k).laneShow _ _ _ = _
    unfold State.laneEvent
    dsimp only
    rw [hstill, if_neg Bool.false_ne_true]
  rw [heq]
  generalize (u.bucket 0 (25 * g + k)).1.laneShow (25 * g + k) 0 (25 * g + k) = t at hparts hfields hshown
  refine ⟨t, rfl, ?_, fun l w hl => (hfields l w (.inl hl)).trans ?_, regsApart_trans happart hshown⟩
  · rw [hparts, honly]
  · rw [hu]
    exact State.rd_wr_apart _ _ _ _ _ _ _ (.inr (by omega))

/-! ### LANE_EVENT -/

/-- Whether the spare covers a lane already. -/
def BlkGrp.covers (x : BlkGrp) (k : Nat) : Bool :=
  (x.carried = some k && x.good) || x.faulty = some k || x.swap.any (fun (w : LaneSwap) => w.lane = k && w.good && !w.back)

/-- A loss of lock that the spare does not cover yet. -/
def State.lockLost (g : Fin 4) (k : Nat) (s : State) : State :=
  let x := s.grp g
  if s.grpState g ≠ 4 || x.covers k || (k = 24 && x.carried.isNone) then s
  else if (s.laneReplace g k).2 then (s.laneReplace g k).1 else (s.laneReplace g k).1.grpRecover g

theorem exec_laneEvent {s : State} {g : Fin 4} {b : BackBlock} {msg : List Byte} {k : Nat} (hsync : b.sync = 1) (hmsg : backMsg g b = msg)
    (hgood : backGood g 0x66 msg = true) (hlane : fieldAt msg 2 1 = k) (hk : k ≤ 24) (htrim : s.trim g.val = none) :
    exec (.laneEvent g b) s = .next (if fieldAt msg 3 1 = 1 then
        ((s.clr (F.BLK_LANE.LOCKED (25 * g.val + k))).laneFail g k (max 1 (fieldAt msg 4 4))).lockLost g k
      else s.laneFail g k (max 1 (fieldAt msg 4 4))) := by
  have hcleared : (s.clr (F.BLK_LANE.LOCKED (25 * g.val + k))).trim g.val = none := htrim
  show execLaneEvent g b s = _
  unfold execLaneEvent
  rw [State.backMessage_good hsync hmsg hgood]
  dsimp only
  rw [hlane, if_neg (by omega), htrim]
  dsimp only
  by_cases hlost : fieldAt msg 3 1 = 1
  · simp only [hlost, decide_true, if_true, Bool.not_true, Bool.false_or]
    unfold State.lockLost BlkGrp.covers
    rfl
  · simp only [hlost, decide_false, if_false, Bool.not_false, Bool.true_or, if_true]
    rfl

theorem BlkGrp.covers_none {x : BlkGrp} {k : Nat} (hswap : x.swap = none) (hfaulty : x.faulty = none) (h : x.carried ≠ some k ∨ x.good = false) :
    x.covers k = false := by
  unfold BlkGrp.covers
  rw [hswap, hfaulty]
  rcases h with h | h <;> simp [h]

/-- A lost lane of a group in service is taken by its free spare. -/
theorem State.lockLost_taken {s : State} {g : Fin 4} {k : Nat} (hstate : s.grpState g = 4) (hspare : s.bit F.BLK_CFG.SPARE_EN = true) (hk : k < 24)
    (hfree : (s.grp g).swap = none ∧ (s.grp g).carried = none ∧ (s.grp g).faulty = none) (htrim : s.trim g.val = none) :
    s.lockLost g k = (s.swapStart g k false true).set1 F.BLK_ERR.LANE_LASTING := by
  obtain ⟨hswap, hcarried, hfaulty⟩ := hfree
  have hcovers := BlkGrp.covers_none hswap hfaulty (.inl (by rw [hcarried]; exact nofun : (s.grp g).carried ≠ some k))
  have hreplace : s.laneReplace g k = (((s.swapStart g k false true).set1 F.BLK_ERR.LANE_LASTING).trimDrop g, true) := by
    unfold State.laneReplace
    dsimp only
    rw [hspare, if_neg (by decide), if_neg (by omega), hswap, hcarried]
  unfold State.lockLost
  dsimp only
  rw [hcovers, if_neg (by simp [hstate]; omega), hreplace, if_pos rfl]
  exact State.trimDrop_none htrim

/-- A lost lane that the spare cannot take sends its group to RECOVERY. -/
theorem State.lockLost_recovers {s : State} {g : Fin 4} {k : Nat} (hstate : s.grpState g = 4) (hk : k < 24)
    (hfree : (s.grp g).swap = none ∧ (s.grp g).faulty = none ∧ ((s.grp g).carried ≠ some k ∨ (s.grp g).good = false))
    (hused : s.bit F.BLK_CFG.SPARE_EN = false ∨ ((s.grp g).carried.any (fun c => c ≠ k) && (s.grp g).good) = true) : ∃ t,
    s.lockLost g k = t.grpRecover g ∧ Rewritten [F.BLK_ERR.SPARE_EXHAUSTED.off] s t := by
  obtain ⟨hswap, hfaulty, hgood⟩ := hfree
  have hcovers := BlkGrp.covers_none hswap hfaulty hgood
  have hreplace : ∃ t, s.laneReplace g k = (t, false) ∧ Rewritten [F.BLK_ERR.SPARE_EXHAUSTED.off] s t := by
    unfold State.laneReplace
    dsimp only
    cases hspare : s.bit F.BLK_CFG.SPARE_EN with
    | false => exact ⟨s, rfl, Rewritten.refl _ s⟩
    | true =>
      have hothers := hused.resolve_left (by rw [hspare]; decide)
      obtain ⟨c, hcarried⟩ : ∃ c, (s.grp g).carried = some c := by
        cases hc : (s.grp g).carried with
        | none =>
          rw [hc] at hothers
          exact absurd hothers Bool.false_ne_true
        | some c => exact ⟨c, rfl⟩
      rw [hcarried] at hothers
      simp only [Option.any_some, Bool.and_eq_true, decide_eq_true_eq] at hothers
      refine ⟨_, ?_, (Rewritten.refl _ s).wr F.BLK_ERR.SPARE_EXHAUSTED 1 (by decide)⟩
      rw [if_neg (by decide), if_neg (by omega), hswap, hcarried]
      dsimp only
      rw [if_neg hothers.1, if_pos hothers.2]
      rfl
  obtain ⟨t, ht, hkept⟩ := hreplace
  refine ⟨t, ?_, hkept⟩
  unfold State.lockLost
  dsimp only
  rw [hcovers, if_neg (by simp [hstate]; omega), ht, if_neg Bool.false_ne_true]

/-! ### A step of a receiver's offset -/

theorem State.rxAm_none {s : State} {g : Nat} (h : (s.cal.rxStep[g]?).join = none) : s.rxAm g = s := by
  unfold State.rxAm
  rw [h]

theorem State.rxAm_spec {s : State} {g : Nat} {up : Bool} (hg : g < 4) (h : (s.cal.rxStep[g]?).join = some up) (hoff : s.rd (F.CAL_RX.OFFSET g) < 64) :
    ∃ t, s.rxAm g = t ∧ t.rd (F.CAL_RX.OFFSET g) = (if up then min 63 (s.rd (F.CAL_RX.OFFSET g) + 1) else s.rd (F.CAL_RX.OFFSET g) - 1) ∧
    t.bit F.CAL_ERR.RX_RANGE = (s.bit F.CAL_ERR.RX_RANGE || decide (s.rd (F.CAL_RX.OFFSET g) = if up then 63 else 0)) ∧
    t = { s with regs := t.regs, cal := { s.cal with rxStep := s.cal.rxStep.set g none } } ∧
    regsApart [(F.CAL_RX.OFFSET g).off, F.CAL_ERR.RX_RANGE.off] s t := by
  obtain ⟨u, hu⟩ : ∃ u : State, u = { s with cal := { s.cal with rxStep := s.cal.rxStep.set g none } } := ⟨_, rfl⟩
  have hrd : ∀ f, u.rd f = s.rd f := fun f => by
    rw [hu]
    rfl
  have heq : s.rxAm g = if s.rd (F.CAL_RX.OFFSET g) = (if up then 63 else 0) then u.set1 F.CAL_ERR.RX_RANGE
      else u.wr (F.CAL_RX.OFFSET g) (if up then s.rd (F.CAL_RX.OFFSET g) + 1 else s.rd (F.CAL_RX.OFFSET g) - 1) := by
    unfold State.rxAm
    rw [h]
    dsimp only
    rw [← hu, hrd]
  have hstart : regsApart [(F.CAL_RX.OFFSET g).off, F.CAL_ERR.RX_RANGE.off] s u := by
    rw [hu]
    exact regsApart_regs regsApart_refl rfl
  rw [heq]
  by_cases hend : s.rd (F.CAL_RX.OFFSET g) = if up then 63 else 0
  · rw [if_pos hend]
    refine ⟨_, rfl, ?_, ?_, by rw [hu]; rfl, regsApart_wr _ _ hstart (by simp)⟩
    · rw [State.set1, State.rd_wr_off _ _ _ _ _ _ _ _ (by omega), hrd, hend]
      cases up <;> rfl
    · rw [decide_eq_true hend, Bool.or_true]
      exact congrArg (· != 0) (State.rd_wr_same _ _ _ _ _ (by decide))
  · rw [if_neg hend]
    refine ⟨_, rfl, ?_, ?_, by rw [hu]; rfl, regsApart_wr _ _ hstart (by simp)⟩
    · rw [State.rd_wr_same _ _ _ _ _ (by decide)]
      cases up
      · simp only [Bool.false_eq_true, if_false] at hend ⊢
        exact Nat.mod_eq_of_lt (by omega)
      · simp only [if_true] at hend ⊢
        rw [Nat.mod_eq_of_lt (by omega)]
        omega
    · rw [decide_eq_false hend, Bool.or_false]
      exact congrArg (· != 0) ((State.rd_wr_off _ _ _ _ _ _ _ _ (by omega)).trans (hrd _))

/-! ### A slot without a STATUS -/

/-- The slots whose STATUS is awaited, newest first. -/
def State.awaited (s : State) : List SlotRec :=
  s.slt.slots.filter (fun r => !r.settled && (decide (s.curLeaf.map (fun c => c.2.1.id) ≠ some r.leaf) || decide ((r.slot : Int) ≤ s.slt.strobed)))

theorem exec_statusLost {s : State} {r : SlotRec} (hlast : s.awaited.getLast? = some r) (hnone : r.result = none) :
    exec .statusLost s = .next (if r.data && r.auth && r.sent then
      ((s.putSlot { r with settled := true }).set1 F.BLK_ERR.STATUS_LOST).plateReject r [0, 1, 2, 3] 0 0 15
    else (s.putSlot { r with settled := true }).set1 F.BLK_ERR.STATUS_LOST) := by
  show execStatusLost s = _
  unfold execStatusLost
  dsimp only
  rw [show (s.slt.slots.filter (fun (r : SlotRec) => !r.settled && (decide (s.curLeaf.map (fun c => c.2.1.id) ≠ some r.leaf) ||
    decide ((r.slot : Int) ≤ s.slt.strobed)))).getLast? = some r from hlast]
  dsimp only
  rw [hnone]
  exact (apply_ite Host.Outcome.next _ _ _).symm

/-- The slot that has waited longest is known. -/
theorem State.awaited_known {s : State} {r : SlotRec} (hlast : s.awaited.getLast? = some r) :
    s.slt.slots.any (fun x => x.leaf = r.leaf && x.slot = r.slot) = true :=
  List.any_eq_true.2 ⟨r, List.mem_of_mem_filter (List.mem_of_getLast? hlast), by simp⟩

/-- A slot settled as unconfirmed. -/
theorem State.statusLost_spec {s : State} {r : SlotRec} (hlast : s.awaited.getLast? = some r) : ∃ t,
    (s.putSlot { r with settled := true }).set1 F.BLK_ERR.STATUS_LOST = t ∧ t.slotRec r.leaf r.slot = some { r with settled := true } ∧
    t.rd F.BLK_ERR.STATUS_LOST = 1 ∧ t = { s with regs := t.regs, slt := { s.slt with slots := t.slt.slots } } ∧
    regsApart [F.BLK_ERR.STATUS_LOST.off] s t := by
  refine ⟨_, rfl, ?_, State.rd_wr_same _ _ _ _ _ (by decide), ?_, regsApart_wr _ _ (regsApart_regs regsApart_refl rfl) (by decide)⟩
  · have hknown := State.awaited_known hlast
    exact State.slotRec_putSlot (y := { r with settled := true }) hknown
  · rw [State.putSlot_parts]
    rfl

/-! ### The plate's temperature -/

theorem exec_tempSilent {s : State} (hnone : s.curLeaf = none) : exec .tempSilent s =
    .next { s.set1 F.BLK_ERR.TEMP_SILENT with dut := { s.dut with silent := true } }.slowShow := by
  have hcur : ({ s.set1 F.BLK_ERR.TEMP_SILENT with dut := { s.dut with silent := true } } : State).curLeaf = none := hnone
  show execTempSilent s = _
  unfold execTempSilent State.earlyEnd
  dsimp only
  rw [hcur]
  rfl

/-- A temperature below its hard threshold: shown, with its soft state. -/
theorem State.tempReport_soft {s : State} {x : Int} (hlo : -(2 ^ 15 : Int) ≤ x) (hhi : x < (2 ^ 15 : Int)) (hlow : x < s.rdInt F.DUT_TEMP.HARD) :
    ∃ t, s.tempReport x = t ∧ t.rdInt F.DUT_STATUS.TEMP = x ∧ t.bit F.DUT_STATUS.TEMP_VALID = true ∧
    t.dut.tempSoft = decide (s.rdInt F.DUT_TEMP.SOFT ≤ x) ∧
    t.dut.tempHard = (s.dut.tempHard && !decide (x < s.rdInt F.DUT_TEMP.RESUME)) ∧
    t.dut.silent = (s.dut.silent && !decide (x < s.rdInt F.DUT_TEMP.RESUME)) ∧
    t.dut = { s.dut with tempSoft := t.dut.tempSoft, tempHard := t.dut.tempHard, tempHot := t.dut.tempHot, silent := t.dut.silent } ∧
    (s.rdInt F.DUT_TEMP.SOFT ≤ x → s.dut.tempSoft = false → t.rd F.DUT_ERR.TEMP_SOFT = 1) ∧
    t = { s with regs := t.regs, hif := { s.hif with due := t.hif.due }, dut := t.dut, acl := t.acl, ikl := t.ikl } ∧
    regsOutside dutyBlocks s t := by
  obtain ⟨u, hu⟩ : ∃ u, u = (s.wrInt F.DUT_STATUS.TEMP x).set1 F.DUT_STATUS.TEMP_VALID := ⟨_, rfl⟩
  have honly : RegsOnly s u := by
    rw [hu]
    exact ((RegsOnly.refl s).wr _ _).wr _ _
  have hnoted : Noted dutyBlocks s u := by
    rw [hu]
    exact ((Noted.refl dutyBlocks s).wr F.DUT_STATUS.TEMP _ (by decide)).wr F.DUT_STATUS.TEMP_VALID 1 (by decide)
  have hlimit : ∀ l w, u.rdInt ⟨0x140018, l, w⟩ = s.rdInt ⟨0x140018, l, w⟩ := fun l w => by
    unfold State.rdInt
    rw [hu]
    exact congrArg _ ((State.rd_wr_off _ _ _ _ _ _ _ _ (by decide)).trans (State.rd_wr_off _ _ _ _ _ _ _ _ (by decide)))
  have htemp : u.rdInt F.DUT_STATUS.TEMP = x := by
    rw [← State.rdInt_wrInt s 0x140020 32 16 x (by decide) (by decide) hlo hhi, hu]
    unfold State.rdInt
    exact congrArg _ (State.rd_wr_apart _ _ _ _ _ _ _ (by decide))
  have hvalid : u.bit F.DUT_STATUS.TEMP_VALID = true := by
    rw [hu]
    exact congrArg (· != 0) (State.rd_wr_same _ _ _ _ _ (by decide))
  generalize hsoft : decide (s.rdInt F.DUT_TEMP.SOFT ≤ x) = soft
  generalize hcool : decide (x < s.rdInt F.DUT_TEMP.RESUME) = cool
  obtain ⟨v, hv⟩ : ∃ v, v = ({ u with dut := { s.dut with
    tempSoft := soft
    tempHard := s.dut.tempHard && !cool
    tempHot := soft || false || (s.dut.tempHot && !cool)
    silent := s.dut.silent && !cool } } : State) := ⟨_, rfl⟩
  have heq : s.tempReport x = (v.softCross 3 F.DUT_ERR.TEMP_SOFT soft s.dut.tempSoft).slowShow := by
    have hdut : u.dut = s.dut := by rw [honly]
    unfold State.tempReport
    dsimp only
    rw [← hu, hlimit, hlimit, hlimit, hdut, hsoft, hcool, decide_eq_false (Int.not_le.2 hlow), State.hardCross_false, Bool.false_or, ← hv]
  have hcross := v.softCross_noted 3 F.DUT_ERR.TEMP_SOFT soft s.dut.tempSoft (by decide)
  have hcrossed := fun o l w ho => v.rd_softCross 3 F.DUT_ERR.TEMP_SOFT soft s.dut.tempSoft o l w ho
  generalize v.softCross 3 F.DUT_ERR.TEMP_SOFT soft s.dut.tempSoft = y at heq hcross hcrossed
  have hshow := y.slowShow_noted
  have hyd : y.dut = v.dut := hcross.dut
  have hstatus : ∀ l w, y.rd ⟨0x140020, l, w⟩ = u.rd ⟨0x140020, l, w⟩ := fun l w => by
    rw [hcrossed _ _ _ (by decide)]
    split
    · refine (State.rd_wr_off _ _ _ _ _ _ _ _ (by decide)).trans ?_
      rw [hv]
      rfl
    · rw [hv]
      rfl
  have hvreg : ∀ o, v.reg o = u.reg o := fun o => by
    rw [hv]
    rfl
  have hdut : y.slowShow.dut = v.dut := hshow.dut.trans hyd
  refine ⟨_, heq, ?_, ?_, ?_, ?_, ?_, ?_, fun hle hbefore => ?_, ?_, fun o ho => ?_⟩
  · rw [← htemp]
    unfold State.rdInt
    rw [State.rd_slowShow _ _ _ _ (by decide) (by decide), hstatus]
  · rw [← hvalid]
    refine Eq.trans ?_ (congrArg (· != 0) (hstatus _ _))
    unfold State.slowShow
    exact (State.bit_wr_off _ _ _ _ _ _ _ _ (by decide)).trans ((State.bit_wr_apart _ _ _ _ _ _ _ (by decide)).trans
      (State.bit_wr_apart _ _ _ _ _ _ _ (by decide)))
  · rw [hdut, hv]
  · rw [hdut, hv]
  · rw [hdut, hv]
  · rw [hdut, hv]
  · have hyes : soft = true := by rw [← hsoft, decide_eq_true hle]
    rw [State.rd_slowShow _ _ _ _ (by decide) (by decide), hcrossed _ _ _ (by decide), hyes, hbefore, if_pos (by decide)]
    exact State.rd_wr_same _ _ _ _ _ (by decide)
  · rw [hshow.parts, hcross.parts, hv, honly]
  · rw [hshow.outside o ho, hcross.outside o ho, hvreg, hnoted.outside o ho]

theorem signed16_between (v : Nat) : -(2 ^ 15 : Int) ≤ signed 16 v ∧ signed 16 v < (2 ^ 15 : Int) := by
  unfold signed
  dsimp only
  split <;> omega

end Sys2Proof.Machine
end

section
/-! SUPPORT. Back-channel messages judged (R163, R173, R174, R184 to R187, R193, R377, Table 7-4). -/
namespace Sys2Proof.Machine

theorem exec_margin {s : State} {g : Fin 4} {b : BackBlock} {msg : List Byte} {k : Nat} (hsync : b.sync = 1) (hmsg : backMsg g b = msg)
    (hgood : backGood g 0x63 msg = true) (hlane : fieldAt msg 2 1 = k) (hk : k ≤ 24) (htrim : s.trim g.val = none) : exec (.margin g b) s =
    .next ((s.wr (F.BLK_LANE.H_MARGIN (25 * g.val + k)) (fieldAt msg 4 1)).wr (F.BLK_LANE.V_MARGIN (25 * g.val + k)) (fieldAt msg 5 1)) := by
  have hkept : ((s.wr (F.BLK_LANE.H_MARGIN (25 * g.val + k)) (fieldAt msg 4 1)).wr (F.BLK_LANE.V_MARGIN (25 * g.val + k)) (fieldAt msg 5 1)).trim g.val =
      none := htrim
  show execMargin g b s = _
  unfold execMargin
  rw [State.backMessage_good hsync hmsg hgood]
  dsimp only
  rw [hlane, if_neg (by omega), hkept]
  rfl

theorem exec_temp {s : State} {g : Fin 4} {b : BackBlock} {msg : List Byte} (hsync : b.sync = 1) (hmsg : backMsg g b = msg)
    (hgood : backGood g 0x62 msg = true) : exec (.temp g b) s = .next (s.tempReport (signed 16 (fieldAt msg 2 2))) := by
  show execTemp g b s = _
  unfold execTemp
  rw [State.backMessage_good hsync hmsg hgood]
  rfl

/-- A discarded message of a quiet bucket. -/
theorem State.backDiscard_spec {s : State} {g : Nat} (hg : g < 4) (hquiet : (s.bucket 1 g).2 = false) : ∃ t, s.backDiscard g = t ∧
    t.rd F.BLK_ERR.BACK_CHECK = 1 ∧ t.rd F.BLK_COUNTS.BACK_CHECK = min (s.rd F.BLK_COUNTS.BACK_CHECK + 1) (2 ^ 16 - 1) ∧
    t.rd (F.BLK_LANE.BUCKET (100 + g)) = min 31 (s.bucketN 1 - t.bucketCount 1 g) ∧
    t = { s with regs := t.regs, saf := { s.saf with buckets := t.saf.buckets } } ∧
    regsApart [F.BLK_ERR.BACK_CHECK.off, F.BLK_COUNTS.BACK_CHECK.off, (F.BLK_LANE.BUCKET (100 + g)).off] s t := by
  obtain ⟨u, hu⟩ : ∃ u, u = (s.set1 F.BLK_ERR.BACK_CHECK).incSat F.BLK_COUNTS.BACK_CHECK := ⟨_, rfl⟩
  have hkept : Rewritten [F.BLK_ERR.BACK_CHECK.off, F.BLK_COUNTS.BACK_CHECK.off] s u := by
    rw [hu]
    exact ((Rewritten.refl _ s).wr F.BLK_ERR.BACK_CHECK 1 (by decide)).wr F.BLK_COUNTS.BACK_CHECK _ (by decide)
  have hflag : u.rd F.BLK_ERR.BACK_CHECK = 1 := by
    rw [hu]
    exact (State.rd_wr_off _ _ _ _ _ _ _ _ (by decide)).trans (State.rd_wr_same _ _ _ _ _ (by decide))
  have hcount : u.rd F.BLK_COUNTS.BACK_CHECK = min (s.rd F.BLK_COUNTS.BACK_CHECK + 1) (2 ^ 16 - 1) := by
    rw [hu]
    refine (State.rd_wr_same _ _ _ _ _ (by decide)).trans ?_
    rw [State.set1, State.rd_wr_off _ _ _ _ _ _ _ _ (by decide)]
    exact Nat.mod_eq_of_lt (show min _ (2 ^ 16 - 1) < 2 ^ 16 by omega)
  have hreg : ∀ o, o / 0x10000 = 0x1E → u.reg o = s.reg o := fun o ho =>
    hkept.apart o (by simp only [List.mem_cons, List.not_mem_nil, or_false]; omega)
  obtain ⟨hparts, hshown, -, happart⟩ := State.backEvent_quiet (State.bucket_still hkept.only (by decide) (by decide) hreg hquiet)
  have heq : s.backDiscard g = u.backEvent g := by
    rw [hu]
    rfl
  rw [heq]
  generalize u.backEvent g = t at hparts hshown happart
  have hlimit : u.bucketN 1 = s.bucketN 1 := by
    show u.rd (F.SAF_BUCKET.N 1) = s.rd (F.SAF_BUCKET.N 1)
    unfold State.rd
    rw [hreg _ (by decide)]
  refine ⟨t, rfl, ?_, ?_, by rw [hshown, hlimit], ?_, fun o ho => ?_⟩
  · rw [regsApart_rd happart _ _ _ (by rw [List.mem_singleton]; show (0x160040 : Nat) ≠ 0x161000 + 0x8 * (100 + g); omega), hflag]
  · rw [regsApart_rd happart _ _ _ (by rw [List.mem_singleton]; show (0x160048 : Nat) ≠ 0x161000 + 0x8 * (100 + g); omega), hcount]
  · rw [hparts, hkept.only]
  · simp only [List.mem_cons, List.not_mem_nil, or_false, not_or] at ho
    rw [happart o (by rw [List.mem_singleton]; exact ho.2.2), hkept.apart o (by simp only [List.mem_cons, List.not_mem_nil, or_false, not_or]; exact ⟨ho.1, ho.2.1⟩)]

/-- A block error of a quiet bucket. -/
theorem State.blockError_spec {s : State} {g : Nat} (hg : g < 4) (hquiet : (s.bucket 1 g).2 = false) : ∃ t,
    (s.incSat (F.BLK_LANE.ERRORS (100 + g))).backEvent g = t ∧
    t.rd (F.BLK_LANE.ERRORS (100 + g)) = min (s.rd (F.BLK_LANE.ERRORS (100 + g)) + 1) (2 ^ 16 - 1) ∧
    t = { s with regs := t.regs, saf := { s.saf with buckets := t.saf.buckets } } ∧ regsApart [(F.BLK_LANE.ERRORS (100 + g)).off] s t := by
  obtain ⟨u, hu⟩ : ∃ u, u = s.incSat (F.BLK_LANE.ERRORS (100 + g)) := ⟨_, rfl⟩
  have hkept : Rewritten [(F.BLK_LANE.ERRORS (100 + g)).off] s u := by
    rw [hu]
    exact (Rewritten.refl _ s).wr (F.BLK_LANE.ERRORS (100 + g)) _ (by simp)
  have hcount : u.rd (F.BLK_LANE.ERRORS (100 + g)) = min (s.rd (F.BLK_LANE.ERRORS (100 + g)) + 1) (2 ^ 16 - 1) := by
    rw [hu]
    exact (State.rd_wr_same _ _ _ _ _ (by decide)).trans (Nat.mod_eq_of_lt (show min _ (2 ^ 16 - 1) < 2 ^ 16 by omega))
  obtain ⟨hparts, -, hfields, happart⟩ := State.backEvent_quiet (State.bucket_still hkept.only (by decide) (by decide)
    (fun o ho => hkept.apart o (by rw [List.mem_singleton]; show o ≠ 0x161000 + 0x8 * (100 + g); omega)) hquiet)
  rw [← hu]
  generalize u.backEvent g = t at hparts hfields happart
  refine ⟨t, rfl, (hfields _ _ (.inr (by decide))).trans hcount, ?_, regsApart_trans hkept.apart happart⟩
  rw [hparts, hkept.only]

/-- A lost lane's event, with the state that its loss is judged in. -/
theorem State.lockCleared {s : State} {g : Fin 4} {k : Nat} (hk : k < 24) (hquiet : (s.bucket 0 (25 * g.val + k)).2 = false) : ∃ u,
    (s.clr (F.BLK_LANE.LOCKED (25 * g.val + k))).laneFail g k 1 = u ∧
    u = { s with regs := u.regs, saf := { s.saf with buckets := u.saf.buckets } } ∧ u.rd (F.BLK_LANE.LOCKED (25 * g.val + k)) = 0 ∧
    regsApart [(F.BLK_LANE.ERRORS (25 * g.val + k)).off] s u := by
  obtain ⟨v, hv⟩ : ∃ v, v = s.clr (F.BLK_LANE.LOCKED (25 * g.val + k)) := ⟨_, rfl⟩
  have hkept : Rewritten [(F.BLK_LANE.ERRORS (25 * g.val + k)).off] s v := by
    rw [hv]
    exact (Rewritten.refl _ s).wr (F.BLK_LANE.LOCKED (25 * g.val + k)) 0 (by simp)
  have hlow : v.rd (F.BLK_LANE.LOCKED (25 * g.val + k)) = 0 := by
    rw [hv]
    exact State.rd_wr_same _ _ _ _ _ (by decide)
  obtain ⟨u, hu, hparts, hfields, happart⟩ := State.laneFail_quiet (s := v) (State.bucket_still hkept.only (by decide) (by decide)
    (fun o ho => hkept.apart o (by rw [List.mem_singleton]; show o ≠ 0x161000 + 0x8 * (25 * g.val + k); omega)) hquiet) (by omega)
  rw [← hv]
  refine ⟨u, hu, ?_, (hfields _ _ (by decide)).trans hlow, regsApart_trans hkept.apart happart⟩
  rw [hparts, hkept.only]

/-- What a registers' step below SAF keeps of a group's state. -/
theorem State.grpState_of_reg {s t : State} (h : t.reg 0x160038 = s.reg 0x160038) (i : Nat) : t.grpState i = s.grpState i := by
  unfold State.grpState State.rd
  rw [h]

/-- The parts that a take-over by the spare changes. -/
theorem State.swapStart_set1_parts {s u : State} {g k : Nat} {f : Field}
    (hu : u = { s with regs := u.regs, saf := { s.saf with buckets := u.saf.buckets } }) :
    (u.swapStart g k false true).set1 f = { s with
      regs := ((u.swapStart g k false true).set1 f).regs,
      saf := { s.saf with buckets := ((u.swapStart g k false true).set1 f).saf.buckets },
      blk := { s.blk with grp := s.blk.grp.set g { u.grp g with swap := some ⟨k, 0, false, true⟩ } } } := by
  have hparts : (u.swapStart g k false true).set1 f = { u with
      regs := ((u.swapStart g k false true).set1 f).regs,
      blk := { u.blk with grp := u.blk.grp.set g { u.grp g with swap := some ⟨k, 0, false, true⟩ } } } := rfl
  rw [hparts]
  generalize ((u.swapStart g k false true).set1 f).regs = regs, { u.grp g with swap := some ⟨k, 0, false, true⟩ } = x
  rw [hu]

/-- Settles O30: a bad message by its bucket, STATUS by the record of its slot or by the failures of the lanes it names, and LANE_EVENT by
whether the spare covers the lane. -/
theorem backChannelMessagesAreJudged : Obligations.BackChannelMessagesAreJudged := by
  unfold Obligations.BackChannelMessagesAreJudged
  refine ⟨fun s g b msg hsync hmsg hbad hquiet => ?_, fun s g b hsync hquiet => ?_, fun s g b hsync hnone => ?_,
    fun s g b up off hsync ham hstep hoff hlt => ?_, fun s g b msg leaf slot x r hsync hmsg hgood hleaf hslot hfirst hsecond hmask hx hpair hrec hopen => ?_,
    fun s g b msg leaf slot x r hsync hmsg hgood hleaf hslot hfirst hsecond hmask hx hpair hauth hres hrec hopen hsent hmasks hheard => ?_,
    fun s r hlast hnone hsent hauth hres => ?_, fun s r hlast hnone hsent => ?_, fun s g b msg x hsync hmsg hgood hx hlow => ?_,
    fun s hnone => ?_, fun s g b msg k hsync hmsg hgood hlane hk htrim => ?_, fun s g b msg hsync hmsg hgood hnone hown htrim => ?_,
    fun s g b msg k hsync hmsg hgood hlane hk hkind htrim => ?_, fun s g b msg k hsync hmsg hgood hlane hk hkind hone htrim hquiet => ?_,
    fun s g b msg k hsync hmsg hgood hlane hk hlt hkind hone htrim hquiet hstate hspare hfree hlen => ?_,
    fun s g b msg k hsync hmsg hgood hlane hk hlt hkind hone htrim hquiet hstate hfree hused hlen => ?_⟩
  · obtain ⟨t, ht, hrest⟩ := State.backDiscard_spec g.isLt hquiet
    refine ⟨t, ?_, hrest⟩
    show done (s.backMessage g 0x61 b _) = _
    rw [State.backMessage_bad hsync hmsg hbad, ht]
    rfl
  · obtain ⟨t, ht, hrest⟩ := State.blockError_spec g.isLt hquiet
    refine ⟨t, ?_, hrest⟩
    show done (s.backMessage g 0x61 b _) = _
    rw [State.backMessage_broken hsync, ht]
    rfl
  · refine ⟨s, ?_, rfl⟩
    show done (s.backMessage g 0x61 b _) = _
    rw [State.backMessage_control hsync]
    rcases hnone with h | h
    · rw [if_neg h]
      rfl
    · rw [State.rxAm_none h, ite_self]
      rfl
  · subst hoff
    obtain ⟨t, ht, hrest⟩ := State.rxAm_spec g.isLt hstep hlt
    refine ⟨t, ?_, hrest⟩
    show done (s.backMessage g 0x61 b _) = _
    rw [State.backMessage_control hsync, if_pos ham, ht]
    rfl
  · obtain ⟨t, ht, hslots, hparts⟩ := State.slotResult_fired (g := g.val) hx hpair hrec hopen
    exact ⟨t, by rw [exec_status_slot hsync hmsg hgood hfirst hsecond hmask (by omega), hleaf, hslot, ht], hslots, hparts⟩
  · obtain ⟨⟨hrleaf, hrslot⟩, -⟩ := State.slotRec_known hrec
    obtain ⟨hdata, hrauth, hsent, hboth⟩ := hsent
    obtain ⟨u, huslots, huparts, heq⟩ := State.slotResult_rejected (g := g.val) hx hpair hrec hopen ⟨hdata, hrauth, hsent⟩ hmasks hheard
    have huauth : u.hasAuth = true := by
      rw [huparts]
      exact hauth
    obtain ⟨t, ht, ⟨hreject, hcount, hrslotted, hrleafed, hgroup, hresult, hmasked⟩, -, hlac, hparts, -, happart⟩ :=
      State.plateReject_shown (s := u) (r.reported g.val x) (r.heard.foldl min g.val) 0 x huauth (by rw [huparts]; exact hres) false
        (by show false = (r.both && _); rw [hboth]; rfl)
    have hcounted : u.rd F.BLK_COUNTS.REJECTED = s.rd F.BLK_COUNTS.REJECTED := by
      rw [huparts]
      rfl
    have hleaf16 : leaf < 2 ^ 16 := hleaf ▸ fieldAt_lt msg 2 2
    have hslot32 : slot < 2 ^ 32 := hslot ▸ fieldAt_lt msg 4 4
    refine ⟨t, by rw [exec_status_slot hsync hmsg hgood hfirst hsecond hmask (by omega), hleaf, hslot, heq, ht], ?_, hreject, by rw [hcount, hcounted],
      hrslotted.trans ?_, hrleafed.trans ?_, hresult.trans (Nat.mod_eq_of_lt (by omega)), ?_, hmasked, ?_, ?_, ?_⟩
    · rw [show t.slotRec leaf slot = u.slotRec leaf slot by rw [hparts]; rfl, huslots]
      show some (true, some x, if r.heard.contains g.val then r.heard else g.val :: r.heard) = _
      rw [hheard.1]
      rfl
    · show r.slot % 2 ^ 32 = slot
      rw [hrslot, Nat.mod_eq_of_lt hslot32]
    · show r.leaf % 2 ^ 16 = leaf
      rw [hrleaf, Nat.mod_eq_of_lt hleaf16]
    · rw [hgroup, lowestNat_cons]
      rfl
    · rw [hlac, ← hrleaf, ← hrslot, huparts]
      rfl
    · rw [hparts, huparts]
    · exact regsApart_trans (regsApart_regs regsApart_refl (by rw [huparts])) (happart rfl)
  · obtain ⟨hdata, hrauth, hrsent⟩ := hsent
    obtain ⟨u, hu, hslots, hflag, huparts, huapart⟩ := State.statusLost_spec hlast
    have huauth : u.hasAuth = true := (congrArg (· != 0) (regsApart_rd huapart _ _ _ (by decide))).trans hauth
    obtain ⟨t, ht, ⟨hreject, -, hslot, -, hgroup, hresult, -⟩, hflags, hlac, hparts, hout, -⟩ :=
      State.plateReject_shown (s := u) r 0 0 15 huauth (by rw [huparts]; exact hres) r.both (by simp)
    refine ⟨t, by rw [exec_statusLost hlast hnone, if_pos (by simp only [hdata, hrauth, hrsent, Bool.and_self]), hu, ht], ?_, (hflags _ _ (by decide)).trans hflag, hreject, hresult,
      hgroup, hslot, ?_, ?_, fun o ho => (hout o ho).trans (huapart o ?_)⟩
    · rw [← hslots, hparts]
      rfl
    · rw [hlac, huparts]
    · rw [hparts, huparts]
    · rw [List.mem_singleton]
      rintro rfl
      exact absurd ho (by simp)
  · obtain ⟨t, ht, hslots, hflag, hparts, happart⟩ := State.statusLost_spec hlast
    exact ⟨t, by rw [exec_statusLost hlast hnone, hsent, if_neg Bool.false_ne_true, ht], hslots, hflag, hparts, happart⟩
  · subst hx
    obtain ⟨hlo, hhi⟩ := signed16_between (fieldAt msg 2 2)
    obtain ⟨t, ht, hrest⟩ := State.tempReport_soft hlo hhi hlow
    exact ⟨t, by rw [exec_temp hsync hmsg hgood, ht], hrest⟩
  · have hvalue : ∀ u : State, u.dut = { s.dut with silent := true } → u.slowShow.bit F.SLT_STATUS.STAGE_SLOW = true ∧ u.slowShow.bit F.DUT_STATUS.HOT = true :=
      fun u hu => by
        rw [u.bit_slowShow.1, u.bit_slowShow.2.2, hu]
        simp
    refine ⟨_, exec_tempSilent hnone, ?_, rfl, (hvalue _ rfl).1, (hvalue _ rfl).2, rfl, ?_⟩
    · rw [State.rd_slowShow _ _ _ _ (by decide) (by decide)]
      exact State.rd_wr_same _ _ _ _ _ (by decide)
    · exact regsApart_wr _ _ (regsApart_wr _ _ (regsApart_wr _ _ (regsApart_regs (regsApart_wr _ _ regsApart_refl (by decide)) rfl) (by decide))
        (by decide)) (by decide)
  · refine ⟨_, exec_margin hsync hmsg hgood hlane hk htrim, ?_, ?_, ((RegsOnly.refl s).wr _ _).wr _ _,
      regsApart_wr _ _ (regsApart_wr _ _ regsApart_refl (by simp)) (by simp)⟩
    · rw [State.rd_wr_apart _ _ _ _ _ _ _ (by decide), State.rd_wr_same _ _ _ _ _ (by decide)]
      exact Nat.mod_eq_of_lt (fieldAt_lt msg 4 1)
    · rw [State.rd_wr_same _ _ _ _ _ (by decide)]
      exact Nat.mod_eq_of_lt (fieldAt_lt msg 5 1)
  · obtain ⟨t, ht, hstep, herrors⟩ := State.statusLanes_spec (fieldAt msg 10 3) (fun j hj => of_decide_eq_true (List.all_eq_true.1 hown j
      (List.mem_range.2 hj))) htrim 24 (Nat.le_refl 24)
    exact ⟨t, by rw [exec_status_lanes hsync hmsg hgood hnone, ht], fun j hj => (herrors j hj).trans (if_pos hj),
      fun i _ hi => hstep.others i hi, hstep.parts, hstep.outside⟩
  · obtain ⟨t, ht, hstep, herrors, hbucket, -⟩ := State.laneFail_spec (max 1 (fieldAt msg 4 4)) (show 25 * g.val + k < 128 by omega) htrim
    exact ⟨t, by rw [exec_laneEvent hsync hmsg hgood hlane hk htrim, if_neg (by omega), ht], herrors, hbucket,
      fun i _ => ⟨hstep.grpState i, hstep.others i⟩, hstep.parts, hstep.outside⟩
  · obtain ⟨t, ht, hparts, -, happart⟩ := State.laneFail_quiet hquiet (by omega)
    exact ⟨t, by rw [exec_laneEvent hsync hmsg hgood hlane hk htrim, if_neg (by omega), Nat.max_eq_left hone, ht], hparts, happart⟩
  · obtain ⟨u, hu, hparts, hlow, happart⟩ := State.lockCleared hlt hquiet
    have hgrp : u.grp g = s.grp g := by
      rw [hparts]
      rfl
    have hustate : u.grpState g = 4 := (State.grpState_of_reg (happart _ (by rw [List.mem_singleton]; show (0x160038 : Nat) ≠ 0x161000 + 0x8 * _; omega)) _).trans hstate
    have huspare : u.bit F.BLK_CFG.SPARE_EN = true := (congrArg (· != 0) (regsApart_rd happart _ _ _ (by
      rw [List.mem_singleton]; show (0x160000 : Nat) ≠ 0x161000 + 0x8 * _; omega))).trans hspare
    have hutrim : u.trim g.val = none := by
      rw [hparts]
      exact htrim
    have hulen : g.val < u.blk.grp.length := by
      rw [hparts]
      show g.val < s.blk.grp.length
      omega
    refine ⟨_, by rw [exec_laneEvent hsync hmsg hgood hlane hk htrim, if_pos hkind, Nat.max_eq_left hone, hu,
      State.lockLost_taken hustate huspare hlt (by rw [hgrp]; exact hfree) hutrim], ?_, ?_, ?_, ?_, ?_, ?_⟩
    · exact (State.rd_wr_off _ _ _ _ _ _ _ _ (by omega)).trans hlow
    · rw [← hgrp]
      exact State.grp_putGrp_same u _ hulen
    · exact State.rd_wr_same _ _ _ _ _ (by decide)
    · exact (State.grpState_of_reg (State.reg_wr_ne _ _ _ _ (by decide)) _).trans hustate
    · rw [← hgrp]
      exact State.swapStart_set1_parts hparts
    · refine regsApart_wr _ _ (fun o ho => happart o (fun h => ho ?_)) (by simp)
      exact List.mem_cons.2 (.inl (List.mem_singleton.1 h))
  · obtain ⟨u, hu, hparts, hlow, happart⟩ := State.lockCleared hlt hquiet
    have hgrp : ∀ i, u.grp i = s.grp i := fun i => by
      rw [hparts]
      rfl
    have hcodes : ∀ i, u.grpState i = s.grpState i := fun i =>
      State.grpState_of_reg (happart _ (by rw [List.mem_singleton]; show (0x160038 : Nat) ≠ 0x161000 + 0x8 * _; omega)) i
    have huspare : u.bit F.BLK_CFG.SPARE_EN = s.bit F.BLK_CFG.SPARE_EN := congrArg (· != 0) (regsApart_rd happart _ _ _ (by
      rw [List.mem_singleton]; show (0x160000 : Nat) ≠ 0x161000 + 0x8 * _; omega))
    obtain ⟨v, hv, hvonly, hvapart⟩ := State.lockLost_recovers (s := u) ((hcodes _).trans hstate) hlt (by rw [hgrp]; exact hfree)
      (by rw [huspare, hgrp]; exact hused)
    have hvtrim : v.trim g.val = none := by
      rw [hvonly, hparts]
      exact htrim
    obtain ⟨t, ht, hsix, hflag, hothers, hfields, htparts, hout⟩ := State.grpRecover_spec g.isLt hvtrim
    refine ⟨t, by rw [exec_laneEvent hsync hmsg hgood hlane hk htrim, if_pos hkind, Nat.max_eq_left hone, hu, hv, ht], hsix, ?_, hflag,
      fun i hi hne => ⟨?_, ?_⟩, ?_, fun o ho => (hout o ho).trans ((hvapart o ?_).trans (happart o ?_))⟩
    · exact (hfields _ _ _ (by omega) (by decide)).trans ((regsApart_rd hvapart _ _ _ (by
        rw [List.mem_singleton]; show 0x161000 + 0x8 * (25 * g.val + k) ≠ 0x160040; omega)).trans hlow)
    · exact (hothers i hi hne).1.trans ((State.grpState_of_reg (hvapart _ (by decide)) i).trans (hcodes i))
    · refine (hothers i hi hne).2.trans (Eq.trans ?_ (hgrp i))
      rw [hvonly]
      rfl
    · rw [htparts, hvonly, hparts]
    · rw [List.mem_singleton]
      rintro rfl
      exact absurd ho (by decide)
    · rw [List.mem_singleton]
      rintro rfl
      simp only [Bool.or_eq_false_iff, decide_eq_false_iff_not] at ho
      omega

end Sys2Proof.Machine
end
